-- ==== Sys2Proof/Word.lean ====
section
/-!
DEFINITION. The word types of the Spenal SPN-7220 (R16, R17): a register word, a byte, a double word, and the
64-byte command packet as one little-endian value whose byte b stands in bits 8b+7 to 8b.
-/
namespace Sys2Proof

/-- A register word, 32 bits (R6, R17). -/
abbrev Word := BitVec 32
/-- A byte. -/
abbrev Byte := BitVec 8
/-- A double word, 64 bits (R17). -/
abbrev Dword := BitVec 64
/-- A 64-byte command packet (R54): byte b is bits [8b+7:8b] (R16). -/
abbrev Packet := BitVec 512

end Sys2Proof
end

