-- ==== Sys2Proof/Types.lean ====
section
/-!
DEFINITION. The types of what commands bring with them from outside the block (answers of the host, of devices, of
verifications) and of what the block sends out. Sys2Proof.Instr uses them as operands, State records the second.
-/
namespace Sys2Proof

/-- How a host-memory access or an ATS request ended (R156). -/
inductive HostResult where
  /-- completed -/
  | ok
  /-- the page is not present or lacks the permission needed -/
  | missing
  /-- Unsupported Request or Completer Abort -/
  | abort
  /-- poisoned data -/
  | poisoned
  deriving DecidableEq, Repr

/-- The code of a PRG Response (R156). -/
inductive PrgCode where
  | success | invalidRequest | responseFailure
  deriving DecidableEq, Repr

/-- What a home's answer for a work item says (R81, R82, R173). -/
inductive AnswerKind where
  /-- the item's final answer: its status, committed or failed -/
  | final
  /-- a cancel is acknowledged -/
  | cancelled
  /-- a hold is answered -/
  | held
  deriving DecidableEq, Repr

/-- An image slot of the boot flash as the security processor reads it (R530): `headerOk`, the MAGIC, LEN and reserved
fields are valid; `bodyOk`, the signature verifies and the digest matches; `recipes`, the resident recipes it holds. -/
structure BootImage where
  version : Nat
  svn : Nat
  headerOk : Bool
  bodyOk : Bool
  recipes : List (Nat × List Byte)
  deriving DecidableEq, Repr

/-- The owner manifest as the boot flash holds it (R532): the SHA-384 digest of its ROOT_KEY, whether its signature
verifies under that key, and which of its keys are not all zero. -/
structure Manifest where
  keyDigest : Nat
  sigOk : Bool
  debugKey : Bool
  extKey : Bool
  epKey : Bool
  deriving DecidableEq, Repr

/-- What the boot flash holds when the security processor boots (R529, R531). -/
structure BootFlash where
  slotA : BootImage
  slotB : BootImage
  manifest : Option Manifest
  deriving DecidableEq, Repr

/-- The strap pins as sampled at power-on reset (R638). -/
structure Straps where
  member : Nat
  ssc : Nat
  sris : Nat
  ddrMode : Bool
  deriving DecidableEq, Repr

/-- What step 5 of start-up finds (R177, R179, R598): each part's own findings, the capacities, the timing records in the
order of R179 and R105, and an identity of the modules and packages. -/
structure Population where
  /-- the HBM3E stack that fails identification or training -/
  hbmFails : Option Nat
  /-- the first DDR5 channel that is empty or differs, of an unsupported module, and whether the modules are MRDIMM-8800 -/
  ddrDiffers : Option Nat
  ddrUnsupported : Option Nat
  mrdimm : Bool
  /-- the first ONFI channel that differs, that is unsupported, fails training or resets too slowly (R568) -/
  onfiDiffers : Option Nat
  onfiUnsupported : Option Nat
  /-- TIER_POP_DDR and TIER_POP_FLASH as read -/
  popDdr : Word
  popFlash : Word
  /-- the timing figures of each device found: its kind (0 HBM, 1 DDR5, 2 ONFI) and its fields in the order of R105 -/
  devices : List (Nat × List Nat)
  /-- what identifies the modules and the packages, channel by channel -/
  ddrIdent : List Nat
  flashIdent : List Nat
  deriving DecidableEq, Repr

/-- What the certificates and measurements of an SPDM partner show (R538): its chain ends at Ranward's root, its measurement 7
carries this owner root hash, its lifecycle state is BLANK, its certificate verifies under EP_CA_KEY. -/
structure Partner where
  chainOk : Bool
  ownerHash : Nat
  blank : Bool
  epCaOk : Bool
  deriving DecidableEq, Repr

/-- What an access of the JTAG port asks for (R547, R592). -/
inductive JtagAccess where
  | bypass
  | idcode
  /-- SAMPLE/PRELOAD and EXTEST -/
  | boundary
  /-- an access of a length at an address of BAR0, as the physical function of a port -/
  | readReg (port addr len : Nat)
  | writeReg (port addr len : Nat) (value : BitVec 64)
  /-- eight bytes of a core's Pocket from an address -/
  | readPocket (core addr : Nat)
  /-- eight bytes of the walk memory of a walk -/
  | readWalk (walk addr : Nat)
  /-- the granule of the store at an RSA -/
  | readGranule (rsa : Nat)
  /-- halt, step and resume the control processors -/
  | halt
  | step
  | resume
  /-- scan, memory built-in self-test, fuse test reads -/
  | scan
  deriving DecidableEq, Repr

/-- A request that waits at an instance of a piste table's resource, in arrival order (R100, R101): its CLASS, its Rink source port,
whether it is of the brace flush, whether it has waited LEAD_NS, whether its bank or die is ready, whether its destination has
space. -/
structure QueuedReq where
  cls : Nat
  source : Nat := 0
  flush : Bool := false
  lead : Bool := true
  bank : Bool := true
  space : Bool := true
  deriving DecidableEq, Repr

/-- What the block sends to the outside world, in the order it sends it. -/
inductive Emit where
  /-- an MSI-X message of a function's vector (R70, R12) -/
  | msix (func vec : Nat)
  /-- a posted write to host memory of a function, with the Relaxed Ordering attribute or without (R67, R89) -/
  | hostWrite (func addr : Nat) (data : List Byte) (relaxed : Bool)
  /-- a page request group: function, first page, pages (R156) -/
  | pageRequest (func page count : Nat)
  /-- an ATS Translation Request: function, page, NW set (R153, R155) -/
  | translation (func page : Nat) (noWrite : Bool)
  /-- a DMA read of host memory of a function (R155) -/
  | hostRead (func addr len : Nat)
  /-- an ATS Invalidation Completion (R171) -/
  | invalCompletion (port tag : Nat)
  /-- a message handed to an HXL port (R387) -/
  | hxl (port : Nat) (msg : List Byte)
  /-- a flit on an HXL port's wire: its header and payload, and whether its CRC is right (R376, R377, R492) -/
  | flit (port hdr : Nat) (payload : List Byte) (crcOk : Bool)
  /-- a message toward another member, by its route (R399): WORK, CONS, DRAIN and forwarded requests -/
  | toMember (member : Nat) (msg : List Byte)
  /-- a work item sent to another member: its destination, the member it comes from, its ID, and what its WORK message carries,
  its CLASS among it (R34, R393, R510) -/
  | item (member origin id epoch cls : Nat) (forwarded role : Bool) (slot kind addr : Nat) (data : List Byte)
  /-- about a work item sent before: its cancel (1), its hold (2) and its release from a hold (3) (R81, R173) -/
  | work (member id kind : Nat)
  /-- an answer to a work item of another member -/
  | workAnswer (member id status subcode : Nat) (data : List Byte)
  /-- a slot of a piste table used: resource kind, instance, the flow or reserved operation it served, the bytes it moves, and for
  the Rink the source port of its beat (R94, R95, R102) -/
  | slot (kind inst who bytes source : Nat)
  /-- an AER or link-level PCIe message -/
  | pcie (port code : Nat)
  /-- a response of the management or SPDM responder on an endpoint (R536, R606) -/
  | response (endpoint code : Nat) (data : List Byte)
  /-- an output pin driven (R637): 0 ERR_FATAL_n, 1 BRACE_DONE -/
  | pin (which : Nat) (asserted : Bool)
  /-- a register value returned to the reader -/
  | readData (value : Nat)
  /-- a request to a device or rail: a name by number, see the sender -/
  | device (code arg : Nat)
  deriving DecidableEq, Repr

end Sys2Proof
end

