-- ==== Sys2Proof/Syntax.lean ====
section
/-!
DEFINITION. The commands of the block: one constructor for each row of spec/opcode_table.json, in the table's order.
A command carries what its row's rule says reaches the block with it: the value written, the message received, the
answer of a host, of a device or of a verification.
-/
namespace Sys2Proof

/-- The commands of the Spenal SPN-7220. -/
inductive Instr where
  /-- REGISTER_WRITE (R8): A write to a register field that has no row of its own sets, clears or discards the field as its access code and any discard condition say. Operands: the function that writes, the address from its BAR0 as a physical function's map has it, the length in bytes, the data (R6, R7). -/
  | registerWrite (src addr len : Nat) (value : BitVec 64)
  /-- EVENT_EN_WRITE (R12): A function writes its own copy of an _EVENT_EN register, and vector 0 is sent if an enable goes to 1 while its event bit is already 1. -/
  | eventEnWrite (src off : Nat) (value : Word)
  /-- MSIX_VECTOR_UNMASK (R70): Unmasking an MSI-X vector sends a message that is pending on that vector. -/
  | msixVectorUnmask (func vec : Nat)
  /-- SQ_TAIL_DOORBELL (R43): A write of a new SQ tail to CMDQ_SQ_TAIL makes the packets up to that tail available for fetch. -/
  | sqTailDoorbell (src qp tail : Nat)
  /-- CQ_HEAD_DOORBELL (R46): A write of a new CQ head to CMDQ_CQ_HEAD frees the consumed completion slots. -/
  | cqHeadDoorbell (src qp head : Nat)
  /-- SQ_FETCH (R44): Spenal fetches SQ entries once the queue pair is enabled, a lift-line entry is available and a CQ slot is free, and reserves the CQ slot. Operands: the host's answer to the reads of the 256-byte slot. -/
  | sqFetch (src qp : Nat) (result : HostResult) (packet : Packet)
  /-- INTAKE_ACCEPT (R57): Intake checks a fetched packet or received CMD in order, and either ends it with a failure status or accepts it. Operands: the host's answer to the read of the parameter block. -/
  | intakeAccept (entry : Nat) (result : HostResult) (block : List Byte)
  /-- BARRIER_RELEASE (R59): A BARRIER command sends its work items once every earlier command of its SQ has written its completion. -/
  | barrierRelease (entry : Nat)
  /-- WORK (R510): A WORK message carrying a work item arrives at a member, which serves it, forwards it once, holds it or answers REMAP by its epoch. -/
  | work (origin id epoch cls : Nat) (forwarded role : Bool) (slot kind addr : Nat) (data : List Byte)
  /-- WORK_ANSWER (R82): A home's answer or commit acknowledgement for a work item reaches the intake member's lift line. Operands: `result` holds RESULT0, COUNT_DONE and COUNT_AUX where the item returns them. -/
  | workAnswer (entry item : Nat) (kind : AnswerKind) (status subcode : Nat) (begun : Bool) (result : List Nat)
  /-- WORK_CANCEL (R81): A cancel reaches a home, which drops items not started, stops running ones at a granule boundary and acknowledges. -/
  | workCancel (origin id : Nat)
  /-- WORK_HOLD (R173): A revocation hold reaches a home, which starts none of the command's items and reports whether any had begun. -/
  | workHold (origin id : Nat)
  /-- CANCEL_RESEND (R81): Every 64 frames without an acknowledgement the intake member sends a cancel or hold to a home again. -/
  | cancelResend (entry : Nat)
  /-- COMMAND_COMPLETE (R82): Once every item has ended or acknowledged, the intake member writes or sends the command's single completion record. Operands: `delivered`, the record's write reaches its host. -/
  | commandComplete (entry : Nat) (delivered : Bool)
  /-- CQ_COALESCE_TIMEOUT (R70): FN_CQ_COAL.TIME_US passes since the oldest unsignalled completion, and the CQ's MSI-X message is sent. -/
  | cqCoalesceTimeout (src qp : Nat)
  /-- COMMAND_TIMEOUT (R84): A command's FN_CMD_TIMEOUT passes while it is in flight, and it is aborted and completes TIMEOUT unless it had committed. -/
  | commandTimeout (entry : Nat)
  /-- ABORT_QTAG (R80): A CMDQ_ABORT write with ALL = 0 aborts every in-flight command of the queue pair that carries the QTAG. -/
  | abortQtag (src qp qtag : Nat)
  /-- ABORT_ALL_QP (R80): A CMDQ_ABORT write with ALL = 1 aborts every in-flight command of the queue pair. -/
  | abortAllQp (src qp : Nat)
  /-- RESULT_RELEASE (R78): A write of a result handle to CMDQ_RELEASE, or two with CMDQ_RELEASE2, frees the named result slots. -/
  | resultRelease (src : Nat) (handles : List Nat)
  /-- QP_ENABLE (R48): FN_QP_CTRL.ENABLE enables the selected queue pair, zeroing its indices, or refuses with ERR_CODE 0x5 or 0x6. -/
  | qpEnable (src : Nat)
  /-- QP_DISABLE (R48): FN_QP_CTRL.DISABLE moves the selected queue pair to DRAINING or DISABLED without aborting fetched commands. -/
  | qpDisable (src : Nat)
  /-- FUNCTION_LEVEL_RESET (R88): A PCIe FLR aborts the function's commands without completions, releases its slots, disables its queue pairs and resets its FN registers. -/
  | functionLevelReset (src : Nat)
  /-- PCIE_LINK_DOWN (R88): A Hot Reset or link-down of a PCIe port resets every function of the port as an FLR does. -/
  | pcieLinkDown (port : Nat)
  /-- FN_ADM_SEL_WRITE (R92): Writing FN_ADM_SEL loads the staging registers with the target function's current settings. -/
  | fnAdmSelWrite (src func : Nat)
  /-- FN_ADM_APPLY (R92): FN_ADM_APPLY commits the staged settings of the target function in one cycle or refuses them all with an error code. -/
  | fnAdmApply (src : Nat)
  /-- FN_HXL_SEL_WRITE (R92): Writing FN_HXL_SEL loads the staging registers with the target HXL port's current settings. -/
  | fnHxlSelWrite (src port : Nat)
  /-- FN_HXL_APPLY (R92): FN_HXL_APPLY commits the staged settings of the target HXL port or refuses them all. -/
  | fnHxlApply (src : Nat)
  /-- FRAME_BOUNDARY (R94): A 3.2 µs frame begins, restarting every slot grid and advancing the rack frame number and table phase. -/
  | frameBoundary
  /-- SLOT_ISSUE (R102): A slot of a piste table begins and the owner's issuable head request, a reserved operation or the fill order's element uses it. Operands: resource kind 0 HBM, 1 DDR5, 2 ONFI, 3 Rink, 4 HXL, its instance and slot; the requests that wait there, in arrival order (an HXL port's own messages wait in the block); whether a program or erase blocks a queued read of a DEADLINE flow. -/
  | slotIssue (kind inst slot : Nat) (queue : List QueuedReq) (blocked : Bool)
  /-- PST_IMAGE_LOAD (R118): PST_LOAD.LOAD starts reading and checking a table image into the inactive bank, or is refused with CODE 0x14. -/
  | pstImageLoad (src : Nat)
  /-- PST_LOAD_DONE (R119): A table image load ends, leaving the inactive bank valid or reporting the first failed check. -/
  | pstLoadDone (result : HostResult) (image : List Byte)
  /-- PST_SWITCH_ARM (R121): PST_SWITCH_CTRL.ARM arms a table switch at frame F or refuses it with a RESULT code. -/
  | pstSwitchArm (src : Nat)
  /-- PST_SWITCH_CANCEL (R123): PST_SWITCH_CTRL.CANCEL cancels an armed switch before its frame. -/
  | pstSwitchCancel (src : Nat)
  /-- TABLE_SWITCH (R122): At the boundary that opens frame F every table changes to the armed set, resetting fill pointers and reclassifying queued requests. -/
  | tableSwitch
  /-- EPOCH (R130): An EPOCH message arrives in slot 0; markers from the parent are stamped for alignment and a Spenal's fields are compared with the member's own. Operands: `stamp` is the arrival against the frame boundary in units of 0.1 ns. -/
  | epoch (port : Nat) (msg : List Byte) (stamp : Int)
  /-- ALIGN_WINDOW_END (R131): A 10-frame alignment window ends and the averaged offset steers the root PLL trim and drives the alignment states. -/
  | alignWindowEnd
  /-- PARENT_LOST (R132): The parent's link goes down or is fenced, or its markers stop for 4 frames, and a LOCKED member enters HOLDOVER. -/
  | parentLost
  /-- HOLDOVER_EXPIRY (R132): 1,000 frames pass in HOLDOVER and the member returns to ACQUIRE with ALIGN_LOST. -/
  | holdoverExpiry
  /-- ALIGN_CTRL_WRITE (R132): Writing PST_ALIGN_CTRL.ALIGN_EN to 0 puts alignment in FREE, and to 1 lets it follow a parent. -/
  | alignCtrlWrite (src : Nat) (value : Word)
  /-- PST_FRAME_LO_READ (R140): A read of PST_FRAME_LO returns frame bits [31:0] and latches PST_FRAME_HI. Operands: the function that reads, the address and the length of its access (R6, R7). -/
  | pstFrameLoRead (src addr len : Nat)
  /-- XLT_CTX_SEL_WRITE (R175): Writing XLT_CTX_SEL loads the staging registers with the selected context's record. -/
  | xltCtxSelWrite (src ctx : Nat)
  /-- XLT_SEG_SEL_WRITE (R175): Writing XLT_SEG_SEL loads the staging registers with the selected segment's record. -/
  | xltSegSelWrite (src seg : Nat)
  /-- XLT_APPLY_CTX (R143): XLT_APPLY.CTX commits the staged context record in one cycle, or refuses it with an ERR code. Operands: `both`: the same write has SEG set. -/
  | xltApplyCtx (src : Nat) (both : Bool)
  /-- XLT_APPLY_SEG (R151): XLT_APPLY.SEG commits the staged segment record and increments SEG_GEN, or refuses it with an ERR code. Operands: `both`: the same write has CTX set. -/
  | xltApplySeg (src : Nat) (both : Bool)
  /-- XLT_ATC_FLUSH (R175): XLT_ATC_FLUSH discards every ATC entry of the named port, draining transfers as an invalidation does. -/
  | xltAtcFlush (src : Nat) (port0 port1 : Bool)
  /-- ATS_INVALIDATION_REQUEST (R171): An ATS Invalidation Request from the host removes the matching ATC entries. Operands: `pages` 4 KiB pages of function `func` from `page`. -/
  | atsInvalidationRequest (port func tag page pages : Nat)
  /-- ATS_INVALIDATION_COMPLETION (R171): Once transfers using removed entries have drained, Spenal sends the Invalidation Completion. -/
  | atsInvalidationCompletion (port tag : Nat)
  /-- TRANSLATION_COMPLETION (R155): An ATS Translation Completion returns and the mover may proceed or finds the page missing. Operands: the `pages` 4 KiB pages from `page`, with write permission or not. -/
  | translationCompletion (func page pages : Nat) (result : HostResult) (write : Bool)
  /-- PRG_RESPONSE (R156): A PRG Response arrives and the command retranslates and resumes, or ends XLT_FAULT. -/
  | prgResponse (group : Nat) (code : PrgCode)
  /-- PRI_TIMEOUT (R156): No PRG Response arrives within XLT_PRI_TIMEOUT and the command ends XLT_FAULT, subcode 0x4B. -/
  | priTimeout (group : Nat)
  /-- PRI_REENABLE (R156): Disabling and enabling the physical function's PRI lifts the Response Failure block of every function of the port. -/
  | priReenable (port : Nat)
  /-- HOST_DMA_COMPLETION (R156): A DMA read completion from host memory arrives, or a DMA completes with an error that ends the command. Operands: `off` is the transfer's offset in the command's range, `data` what a read returned. -/
  | hostDmaCompletion (entry off : Nat) (result : HostResult) (data : List Byte)
  /-- NOP (R162): Opcode 0x00 does nothing and completes DONE. -/
  | nop (entry : Nat)
  /-- HOST_TO_STORE (R157): Opcode 0x01 moves bytes from host memory to the store in tiles, pausing at fault points. -/
  | hostToStore (entry : Nat)
  /-- STORE_TO_HOST (R157): Opcode 0x02 moves bytes from the store to host memory in tiles, pausing at fault points. -/
  | storeToHost (entry : Nat)
  /-- STORE_COPY (R166): Opcode 0x03 copies one store range to another as if every source byte were read before any write. -/
  | storeCopy (entry : Nat)
  /-- PREFETCH_HOST (R167): Opcode 0x08 requests and holds ATC translations for a host range without moving data. -/
  | prefetchHost (entry : Nat)
  /-- ADVISE (R168): Opcode 0x09 records an advice code against every 4 KiB page of its range. -/
  | advise (entry : Nat)
  /-- MIGRATE_IN (R169): Opcode 0x0C copies a PENDING segment's extent from the host and makes the segment VALID on success. -/
  | migrateIn (entry : Nat)
  /-- MIGRATE_OUT (R170): Opcode 0x0D revokes its own segment and copies the extent to host memory. -/
  | migrateOut (entry : Nat)
  /-- INVALIDATE (R172): Opcode 0x20 waits until no work under older SEG_GEN of the named segments is in flight. -/
  | invalidate (entry : Nat)
  /-- REVOKE (R173): Opcode 0x21 invalidates a segment, opens a new revocation epoch, holds or releases in-flight commands and back-invalidates endpoint copies. -/
  | revoke (entry : Nat)
  /-- REVOKE_COMPLETE (R173): When released commands have completed and back-invalidation has ended, REVOKING clears and REVOKE completes. -/
  | revokeComplete (ctx seg : Nat)
  /-- TIER_CTRL_LOCK (R180): TIER_CTRL.LOCK fixes the hash salt and width until power-on reset. -/
  | tierCtrlLock (src : Nat)
  /-- PLACE (R203): Opcode 0x30 reserves frames at every member and then applies a new placement record, re-homing or lowering pages. -/
  | place (entry : Nat)
  /-- SEAL (R204): Opcode 0x31 marks COPY FILLING slabs SEALED and completes when writers have drained and pages and parity are programmed. -/
  | seal (entry : Nat)
  /-- RAISE (R205): Opcode 0x32 moves or copies each page of a range to a tier and optionally pins it. -/
  | raise (entry : Nat)
  /-- LOWER (R205): Opcode 0x33 sends each MOVE page home and drops each copy. -/
  | lower (entry : Nat)
  /-- RESIDENCY (R202): Opcode 0x34 returns counts of where the pages of a range stand, changing nothing. -/
  | residency (entry : Nat)
  /-- CHAIRLIFT_MOVE_START (R196): The Chairlift starts a tier move, within its per-frame rate and in-flight limit. Operands: `home`: `page` is programmed or written back; else the oldest queued raise starts. -/
  | chairliftMoveStart (home : Bool) (page : Nat)
  /-- MOVE_DIRECTORY_SWITCH (R197): A move's copy ends and the directory switches to the new frame in one clk_mem cycle. -/
  | moveDirectorySwitch (page : Nat)
  /-- JOURNAL_WAIT_RESUME (R213): A durable write that waited for journal space proceeds once entries retire. -/
  | journalWaitResume (entry : Option Nat) (granule : Nat)
  /-- HEAT_EPOCH_END (R191): A heat epoch of EPOCH_FRAMES frames ends and page heat ages by one epoch. -/
  | heatEpochEnd
  /-- DRIFT_SAMPLE (R207): Every 16 frames each instance's temperature and voltage are sampled against its training tag. Operands: `t` in units of 0.125 degrees C, `v` in mV. -/
  | driftSample (kind unit t v : Nat) (osc : Bool)
  /-- DEVICE_TEMP_READ (R210): Every 256 frames device temperatures are read within refresh runs. -/
  | deviceTempRead (kind unit temp : Nat) (twice : Bool)
  /-- BRACE_AREA_ERASED (R214): Erasure of the unused brace-area half ends and BRACE_READY becomes 1. -/
  | braceAreaErased (half : Nat)
  /-- METADATA_CHECKPOINT (R572): After 2^20 frames or a 16 MiB delta, Spenal takes a metadata checkpoint. -/
  | metadataCheckpoint
  /-- INVOCATION_START (R220): A queued invocation starts on its chosen core, capturing its recipe. -/
  | invocationStart (core : Nat)
  /-- RECIPE_NOP (R247): The NOP step does nothing, and with a WAIT_MASK acts as a fence on its tokens. -/
  | recipeNop (core : Nat)
  /-- LOAD (R225): The LOAD step moves port rows into the Pocket, holding granules when HOLD is set. -/
  | recipeLoad (core : Nat)
  /-- STORE (R225): The STORE step writes Pocket rows to a port, releasing the hold set when HOLD is set. -/
  | recipeStore (core : Nat)
  /-- GATHER (R226): The GATHER step reads port rows selected by an index list into the Pocket. -/
  | recipeGather (core : Nat)
  /-- SCATTER (R226): The SCATTER step writes Pocket rows to port rows selected by an index list. -/
  | recipeScatter (core : Nat)
  /-- ATOMIC_ADD (R230): The ATOMIC_ADD step adds each element to the store element atomically at its home. -/
  | atomicAdd (core : Nat)
  /-- LOOP (R249): The LOOP step begins a repetition of the steps up to its ENDLOOP. -/
  | loop (core : Nat)
  /-- ENDLOOP (R249): The ENDLOOP step jumps back, adding INC to running offsets, or leaves the loop. -/
  | endloop (core : Nat)
  /-- SIGNAL (R247): The recipe SIGNAL step adds 1 to the gate named by a scalar. -/
  | signal (core : Nat)
  /-- FLAGS (R248): The FLAGS step writes the invocation's 32-byte flag record to the Pocket. -/
  | flags (core : Nat)
  /-- END (R229): The END step completes the invocation once every stream step has settled. -/
  | recipeEnd (core : Nat)
  /-- COPY (R247): The COPY engine step converts A into D's format. -/
  | copy (core : Nat)
  /-- ADD (R247): The ADD engine step writes A + B. -/
  | add (core : Nat)
  /-- SUB (R247): The SUB engine step writes A − B. -/
  | sub (core : Nat)
  /-- MUL (R247): The MUL engine step writes A × B. -/
  | mul (core : Nat)
  /-- MULADD (R247): The MULADD engine step writes the fused A × B + C. -/
  | muladd (core : Nat)
  /-- MAX (R247): The MAX engine step writes the maximum of A and B. -/
  | max (core : Nat)
  /-- MIN (R247): The MIN engine step writes the minimum of A and B. -/
  | min (core : Nat)
  /-- ABS (R247): The ABS engine step writes the magnitude of A. -/
  | abs (core : Nat)
  /-- DIV (R247): The DIV engine step writes the correctly rounded A ÷ B. -/
  | div (core : Nat)
  /-- SQRT (R247): The SQRT engine step writes the correctly rounded square root of A. -/
  | sqrt (core : Nat)
  /-- CMPLT (R247): The CMPLT engine step writes 1 where A < B and 0 elsewhere. -/
  | cmplt (core : Nat)
  /-- SELECT (R247): The SELECT engine step writes A where C is non-zero and B elsewhere. -/
  | select (core : Nat)
  /-- DOT (R242): The DOT engine step writes one dot product per row in the fixed reduction order. -/
  | dot (core : Nat)
  /-- L2SQ (R242): The L2SQ engine step writes one squared distance per row in the fixed reduction order. -/
  | l2sq (core : Nat)
  /-- REDUCE (R243): The REDUCE engine step adds ROWS rows into one row in SEQ or TREE order. -/
  | reduce (core : Nat)
  /-- HASH (R247): The HASH engine step writes mix64 of each salted key modulo N. -/
  | hash (core : Nat)
  /-- TOPK (R247): The TOPK engine step merges candidates into a sorted list of up to K entries. -/
  | topk (core : Nat)
  /-- STREAM_SETTLE (R228): A stream step settles when its bytes are in the Pocket or its writes are committed at their homes. -/
  | streamSettle (core token : Nat)
  /-- HOLD_GRANULE_ACQUIRED (R231): A granule held by another core is released and granted to the next waiting core in arrival order. -/
  | holdGranuleAcquired (granule : Nat)
  /-- HOLD_TIMEOUT (R232): A hold set held longer than 4 µs is released unchanged and the invocation ends HOLD_TIMEOUT. -/
  | holdTimeout (core : Nat)
  /-- CYCLE_LIMIT_EXPIRY (R252): An invocation exceeds its cycle limit and ends with the recipe fault CYCLE_LIMIT. -/
  | cycleLimitExpiry (core : Nat)
  /-- CORE_EXT_LOAD (R254): CORE_EXT_CTRL.LOAD starts reading and verifying an extension recipe image. -/
  | coreExtLoad (src : Nat)
  /-- CORE_EXT_LOAD_DONE (R251): An extension load ends, placing the recipe in its slot or reporting the refusal code. -/
  | coreExtLoadDone (result : HostResult) (image : List Byte) (verified : Bool)
  /-- CORE_EXT_REMOVE (R255): CORE_EXT_CTRL.REMOVE empties the selected extension slot at once. -/
  | coreExtRemove (src : Nat)
  /-- EMB_DEFINE (R266): Opcode 0x40 defines an embedding table from its descriptor at every member. -/
  | embDefine (entry : Nat)
  /-- EMB_DROP (R270): Opcode 0x41 removes a table at every member. -/
  | embDrop (entry : Nat)
  /-- EMB_QUERY (R271): Opcode 0x42 returns a table's version, open step and in-flight counts. -/
  | embQuery (entry : Nat)
  /-- EMB_GATHER (R272): Opcode 0x44 segments keys, reads each distinct row once, pools the bags and writes the output. -/
  | embGather (entry : Nat)
  /-- EMB_UPDATE (R279): Opcode 0x45 combines gradients per row and applies the optimiser, or enters step-buffer contributions. -/
  | embUpdate (entry : Nat)
  /-- EMB_WRITE (R286): Opcode 0x46 writes rows from source rows, each atomically under a hold. -/
  | embWrite (entry : Nat)
  /-- EMB_STEP_CLOSE (R285): Opcode 0x48 closes a deterministic step and applies each row's sorted contributions once. -/
  | embStepClose (entry : Nat)
  /-- EMB_PUBLISH (R288): Opcode 0x4C compare-and-swaps a table's version at its anchor and switches every member to the new locations. -/
  | embPublish (entry : Nat)
  /-- EMB_RETIRE (R289): When every member's count on the retiring version reaches 0, the anchor clears RETIRING everywhere. -/
  | embRetire (table : Nat)
  /-- VEC_DEFINE (R295): Opcode 0x60 defines a vector index from its descriptor at every member. -/
  | vecDefine (entry : Nat)
  /-- VEC_DROP (R316): Opcode 0x61 removes an index at every member. -/
  | vecDrop (entry : Nat)
  /-- VEC_QUERY (R317): Opcode 0x62 returns node-state counts and pass status of an index. -/
  | vecQuery (entry : Nat)
  /-- VEC_SEARCH (R309): Opcode 0x64 walks every named part and merges the best K results at the intake member. -/
  | vecSearch (entry : Nat)
  /-- WALK_ROUND (R304): When every reply of a round has arrived, the walk applies them in pick order and picks the next expansions. -/
  | walkRound (walk : Nat)
  /-- VEC_INSERT (R319): Opcode 0x68 claims a node, walks for its neighbours, writes its records and adds back edges. -/
  | vecInsert (entry : Nat)
  /-- VEC_DELETE (R321): Opcode 0x69 makes each LIVE node of a range or list a tombstone. -/
  | vecDelete (entry : Nat)
  /-- VEC_REPAIR (R323): Opcode 0x6C starts a repair pass, making every TOMB node RETIRING. -/
  | vecRepair (entry : Nat)
  /-- VEC_REPAIR_NODE_START (R322): A member starts repairing its next nodes at the configured rate, rewriting edge lists. -/
  | vecRepairNodeStart (index : Nat)
  /-- VEC_PASS_END (R323): When every member has finished, entry points are replaced and RETIRING nodes become FREE. -/
  | vecPassEnd (index : Nat)
  /-- RPL_DEFINE (R328): Opcode 0x80 defines a replay buffer at every member. -/
  | rplDefine (entry : Nat)
  /-- RPL_DROP (R340): Opcode 0x81 removes a replay buffer. -/
  | rplDrop (entry : Nat)
  /-- RPL_QUERY (R341): Opcode 0x82 returns HEAD and this member's shard counts. -/
  | rplQuery (entry : Nat)
  /-- RPL_INSERT (R333): Opcode 0x84 reserves insert numbers, zeroes leaves, copies records and queues their priorities. -/
  | rplInsert (entry : Nat)
  /-- RPL_RESERVATION_GRANT (R333): A waiting insert reservation is granted at the anchor once no in-flight insert would be overtaken. -/
  | rplReservationGrant (buffer : Nat)
  /-- RPL_SAMPLE (R335): Opcode 0x85 applies updates, reads the shard totals and draws stratified targets. -/
  | rplSample (entry : Nat)
  /-- RPL_UPDATE (R338): Opcode 0x86 queues priority changes, with optional compare-and-swap. -/
  | rplUpdate (entry : Nat)
  /-- RPL_TREE_PASS (R332): A shard runs a pass that applies its queued leaf changes and recomputes the tree. -/
  | rplTreePass (buffer shard : Nat)
  /-- RPL_DESCENT (R336): A draw descends its shard's tree, once no pass runs, and returns the slot and record. -/
  | rplDescent (entry draw : Nat)
  /-- KVP_DEFINE (R345): Opcode 0x90 defines a KV page pool at every member. -/
  | kvpDefine (entry : Nat)
  /-- KVP_DROP (R362): Opcode 0x91 removes a pool. -/
  | kvpDrop (entry : Nat)
  /-- KVP_QUERY (R363): Opcode 0x92 returns free frames, spill slots and sequence counts at this member. -/
  | kvpQuery (entry : Nat)
  /-- KVP_OPEN (R349): Opcode 0x94 creates a sequence, optionally sharing a parent's prefix pages. -/
  | kvpOpen (entry : Nat)
  /-- KVP_APPEND (R351): Opcode 0x95 writes tokens after the last token and adds them to LENGTH. -/
  | kvpAppend (entry : Nat)
  /-- KVP_LOCK (R352): Opcode 0x96 makes the last page private, reserves tokens, brings pages into frames and returns the list. -/
  | kvpLock (entry : Nat)
  /-- KVP_UNLOCK (R353): Opcode 0x97 commits tokens, frees unused reserved pages and clears LOCKED. -/
  | kvpUnlock (entry : Nat)
  /-- KVP_LOCK_EXPIRY (R353): A lock held longer than LOCK_MS is released as an unlock with COMMIT 0. Operands: LOCK_MS have passed since the lock. -/
  | kvpLockExpiry (pool seq : Nat)
  /-- KVP_CLOSE (R354): Opcode 0x98 drops the sequence's page references and frees its records. -/
  | kvpClose (entry : Nat)
  /-- KVP_HANDOVER (R357): Opcode 0x99 sets the sequence LEAVING and sends OFFER to the target member. -/
  | kvpHandover (entry : Nat)
  /-- KVP_OFFER (R357): An OFFER reaches the target, which installs an OWNED record and accepts, or declines. Operands: as the OFFER carries them. -/
  | kvpOffer (origin pool seq token length : Nat) (pages : List Nat)
  /-- KVP_OFFER_ACCEPT (R357): ACCEPT reaches the old owner, which becomes GONE and forwards queued accesses. -/
  | kvpOfferAccept (origin pool seq token : Nat)
  /-- KVP_OFFER_DECLINE (R357): DECLINE reaches the old owner, which returns to OWNED and completes STALE_VERSION. -/
  | kvpOfferDecline (origin pool seq token : Nat)
  /-- KVP_OFFER_TIMEOUT (R357): No answer comes within TIMEOUT_US, so the OFFER is resent or, after RETRIES, the owner renounces. Operands: no answer within TIMEOUT_US. -/
  | kvpOfferTimeout (pool seq : Nat)
  /-- GATE_SIGNAL (R445): Opcode 0xA0 adds to or sets a gate at its home and wakes satisfied waits. -/
  | gateSignal (entry : Nat)
  /-- GATE_WAIT (R449): Opcode 0xA1 completes at once if satisfied, or is held in the home's waiter table. -/
  | gateWait (entry : Nat)
  /-- GATE_RESET (R445): Opcode 0xA2 writes a value to a range of gates in ascending order. -/
  | gateReset (entry : Nat)
  /-- GATE_READ (R448): Opcode 0xA3 returns a gate's value. -/
  | gateRead (entry : Nat)
  /-- FENCE (R460): Opcode 0xA8 snapshots SENT counters and probes every destination until all writes it covers have ended. -/
  | fence (entry : Nat)
  /-- FENCE_PROBE_RESEND (R462): After 64 frames without an ACK the origin sends a DRAIN PROBE again. -/
  | fenceProbeResend (entry target : Nat)
  /-- FENCE_PROMOTION_TIMEOUT (R463): No member is promoted for a fenced destination within 64 frames and the fence completes FENCED 0x41. -/
  | fencePromotionTimeout (entry target : Nat)
  /-- GATE_WATCHDOG_EXPIRY (R453): A held wait's watchdog time passes and the wait is cancelled, completing TIMEOUT unless already satisfied. -/
  | gateWatchdogExpiry (entry : Nat)
  /-- GATE_BLK_SEL_WRITE (R465): Writing GATE_BLK_SEL loads the staging fields with the selected block's record. -/
  | gateBlkSelWrite (src block : Nat)
  /-- GATE_BLK_APPLY (R441): GATE_BLK_APPLY commits the staged block record, zeroing or clearing the block as required. -/
  | gateBlkApply (src : Nat)
  /-- GATE_DBG_READ (R455): GATE_DBG_CTRL.READ reads a gate into GATE_DBG_VALUE. -/
  | gateDbgRead (src : Nat)
  /-- GATE_DBG_SET (R455): GATE_DBG_CTRL.SET sets a gate by hand at INVASIVE or MAKER, or is refused. -/
  | gateDbgSet (src : Nat)
  /-- DRAIN_PROBE (R460): A DRAIN PROBE arrives and the destination answers ACK once ENDED reaches the snapshot. -/
  | drainProbe (port : Nat) (msg : List Byte)
  /-- DRAIN_ACK (R462): A DRAIN ACK reaches the origin, which takes the first per destination and completes the fence when all have answered. -/
  | drainAck (port : Nat) (msg : List Byte)
  /-- DRAIN_REROUTE (R462): A DRAIN REROUTE arrives and is treated exactly as a PROBE. -/
  | drainReroute (port : Nat) (msg : List Byte)
  /-- DRAIN_ANSWER_DUE (R460): A destination's ENDED count reaches a waiting PROBE's snapshot and it sends the DRAIN ACK. -/
  | drainAnswerDue (origin source fenceId : Nat)
  /-- RD (R414): An RD arrives at the home, which reads the granule, recalling an owner if needed, and answers CPL. Operands: the port it arrives on and its bytes (R388). -/
  | rd (port : Nat) (msg : List Byte)
  /-- RD_OWN (R414): An RD_OWN arrives and the home invalidates other holders and grants the requester OWNED. -/
  | rdOwn (port : Nat) (msg : List Byte)
  /-- WR (R414): A WR arrives and the home invalidates every copy before performing the write. -/
  | wr (port : Nat) (msg : List Byte)
  /-- WRP (R414): A masked WRP write arrives and is performed like a write after invalidations. -/
  | wrp (port : Nat) (msg : List Byte)
  /-- ATOM (R426): An ATOM arrives and is performed at the home of its element after invalidations. -/
  | atom (port : Nat) (msg : List Byte)
  /-- WB (R414): A WB arrives and the home writes the owned granule, or takes it as a crossing snoop's answer. -/
  | wb (port : Nat) (msg : List Byte)
  /-- INV (R416): An INV reaches an endpoint, which must answer once with INV_ACK or INV_DATA. -/
  | inv (port : Nat) (msg : List Byte)
  /-- INV_ACK (R416): An INV_ACK reaches the home and closes its INV, or is discarded if unmatched. -/
  | invAck (port : Nat) (msg : List Byte)
  /-- INV_DATA (R416): An INV_DATA reaches the home, which writes the recalled data and closes the INV. -/
  | invData (port : Nat) (msg : List Byte)
  /-- CPL (R389): A completion carrying a granule reaches its requester. -/
  | cpl (port : Nat) (msg : List Byte)
  /-- CPL_ND (R389): A completion without data reaches its requester. -/
  | cplNd (port : Nat) (msg : List Byte)
  /-- CPL_VAL (R389): A completion with an atomic's old value reaches its requester. -/
  | cplVal (port : Nat) (msg : List Byte)
  /-- CMD (R51): A forwarded command packet arrives on an HXL port and goes to intake, or is answered NO_SPACE without a credit. -/
  | cmd (port : Nat) (msg : List Byte)
  /-- CMD_CPL (R53): A command completion record reaches the submitting endpoint with returned credits. Operands: `delivered`, the message reaches the accelerator. -/
  | cmdCpl (entry : Nat) (delivered : Bool)
  /-- CTRL_ABORT (R391): A CTRL ABORT message aborts commands as CMDQ_ABORT does. -/
  | ctrlAbort (port : Nat) (msg : List Byte)
  /-- CTRL_RELEASE (R391): A CTRL RELEASE message frees one or two result slots as CMDQ_RELEASE does. -/
  | ctrlRelease (port : Nat) (msg : List Byte)
  /-- CTRL_GRANT (R386): A CTRL GRANT message gives the partner further command credits. -/
  | ctrlGrant (port : Nat)
  /-- COH_TRANSACTION_START (R413): A queued request reaches the head of its granule's queue and its coherence transaction begins. -/
  | cohTransactionStart (granule : Nat)
  /-- COH_HOLD_EXPIRY (R419): The COH_HOLD time after an OWNED grant passes and waiting requests may invalidate the owner. -/
  | cohHoldExpiry (granule : Nat)
  /-- SNOOP_TIMEOUT (R421): An INV is not answered within TIMEOUT_US and the endpoint index becomes DEAD. -/
  | snoopTimeout (index granule : Nat)
  /-- RECLAIM_END (R422): The reclaim walk ends, poisoned owned granules are logged and the index becomes RECLAIMED. -/
  | reclaimEnd (index : Nat)
  /-- COH_AGENT_DECLARE (R421): COH_AGENT_CTRL.DECLARE moves a LIVE endpoint index to DEAD. -/
  | cohAgentDeclare (src index : Nat)
  /-- COH_AGENT_REVIVE (R421): COH_AGENT_CTRL.REVIVE moves a RECLAIMED endpoint index to LIVE. -/
  | cohAgentRevive (src index : Nat)
  /-- COH_PROBE (R437): COH_PROBE_CTRL.PROBE looks up a granule's snoop-filter entry within 64 cycles. -/
  | cohProbe (src : Nat)
  /-- FLIT_RECEIVE (R380): A flit is delivered after FEC; a DATA flit is checked and delivered in order, and header ACK, NAK and credits act. Operands: symbols corrected, codewords not correctable, the outcome of each check, LINK_HDR and the payload after decryption. -/
  | flitReceive (port corrected uncorrectable : Nat) (fecOk crcOk tagOk : Bool) (hdr : Nat) (payload : List Byte)
  /-- NAK_REPEAT (R380): Every 64 slot times without the expected SEQ the receiver sends NAK again. -/
  | nakRepeat (port : Nat)
  /-- ACK_TIMEOUT (R382): Unacknowledged flits wait 10 µs without ACK progress and the port enters RETRAIN. -/
  | ackTimeout (port : Nat)
  /-- REKEY (R407): After 2^32 DATA flits the transmitter changes key phase. -/
  | rekey (port : Nat)
  /-- HXL_PORT_CFG_WRITE (R408): A write to HXL_PORT_CFG takes effect at the next DETECT, except EN = 0 at once. -/
  | hxlPortCfgWrite (src : Nat) (value : Word)
  /-- HXL_PORT_RETRAIN (R368): HXL_PORT_CTRL.RETRAIN moves an ACTIVE port to RETRAIN. -/
  | hxlPortRetrain (src : Nat)
  /-- HXL_PORT_RESET (R368): HXL_PORT_CTRL.RESET drops all port state and enters DETECT. -/
  | hxlPortReset (src : Nat)
  /-- DETECT_COMPLETE (R368): All four lanes detect the partner and the port enters EQUALIZE. -/
  | detectComplete (port : Nat) (reversed : Bool) (polarity : Nat)
  /-- DETECT_TIMEOUT (R368): Lanes fail to detect within 10 ms and the attempt fails with FAIL_CODE 1. -/
  | detectTimeout (port : Nat)
  /-- EQUALIZE_COMPLETE (R368): Pre-FEC error ratio falls below 10^-5 on every lane and the port enters LOCK. -/
  | equalizeComplete (port : Nat)
  /-- EQUALIZE_TIMEOUT (R368): After 30 ms of equalisation the port enters LOCK or the attempt fails with FAIL_CODE 2. Operands: `below`: the error ratio is below 10^-4. -/
  | equalizeTimeout (port : Nat) (below : Bool)
  /-- BLOCK_LOCK_ACQUIRED (R368): Eight consecutive frames without an uncorrectable codeword move the port to PARAM. -/
  | blockLockAcquired (port : Nat)
  /-- LOCK_TIMEOUT (R368): Block lock is not found within 2 ms and the attempt fails with FAIL_CODE 3. -/
  | lockTimeout (port : Nat)
  /-- PARAM (R370): A partner's PARAM message arrives and is checked against HXL_PORT_CFG. -/
  | param (port : Nat) (msg : List Byte)
  /-- ECHO (R371): An ECHO request is answered, or an ECHO reply contributes to the link-delay average. Operands: its delivery time and, for a request, how long the reply was held, in units of 0.1 ns. -/
  | echo (port : Nat) (msg : List Byte) (now hold : Nat)
  /-- PORT_ACTIVATE (R368): With checks passed, delay measured and keys installed, the port enters ACTIVE at its next transmit frame boundary. -/
  | portActivate (port : Nat)
  /-- RETRAIN_COMPLETE (R368): Relock and re-measurement finish and the port returns to ACTIVE and resumes replay. -/
  | retrainComplete (port : Nat)
  /-- RETRAIN_TIMEOUT (R368): RETRAIN does not finish within 2 ms and the port enters FAILED. -/
  | retrainTimeout (port : Nat)
  /-- SPDM_SESSION_TIMEOUT (R537): A link SPDM session not complete within 20 ms puts the port in FAILED with FAIL_CODE 5. -/
  | spdmSessionTimeout (port : Nat)
  /-- NO_ROUTE_EXPIRY (R399): A message waits 64 frames with no ACTIVE port and is discarded, its request completing FENCED 0xC6. -/
  | noRouteExpiry (id : Nat)
  /-- ROUTE_DRAIN_END (R402): Earlier requests to a destination have their responses and held requests go out on the new port set. -/
  | routeDrainEnd (member : Nat)
  /-- CHECKER_ERROR (R483): A collector sees a checker's error or broken-wire state and reacts by its severity. -/
  | checkerError (chk : Nat) (railT railC : Bool)
  /-- CE_STORM (R485): A source's corrected-error count in a window first exceeds THRESH and a STORM entry is written. Operands: the source of the corrected errors. -/
  | ceStorm (key : Nat)
  /-- GROOMER_READ (R480): The Groomer reads the next granule at its paced rate and rewrites, recovers or compares it. Operands: `finding`: 0 clean, 1 corrected, 2 uncorrectable, 3 parity that does not match. -/
  | groomerRead (tier granule finding : Nat) (passEnd : Bool)
  /-- ERR_SITZ_UNFREEZE (R490): ERR_SITZ_CTRL.UNFREEZE resumes Sitzmark logging unless refused after a fatal error. -/
  | errSitzUnfreeze (src : Nat)
  /-- ERR_SITZ_CLEAR (R490): ERR_SITZ_CTRL.CLEAR empties the Sitzmark and zeroes LOST unless refused. -/
  | errSitzClear (src : Nat)
  /-- ERR_FIRST_CLEAR (R490): ERR_FIRST_CTRL.CLEAR empties ERR_FIRST. -/
  | errFirstClear (src : Nat)
  /-- ERR_UNIT_ONLINE (R487): ERR_UNIT_CTRL.ONLINE returns the selected unit to service when no error is pending. -/
  | errUnitOnline (src : Nat)
  /-- ERR_INJ_FIRE (R492): ERR_INJ_CTRL.FIRE injects one fault into the selected target, or is refused. -/
  | errInjFire (src : Nat)
  /-- HEARTBEAT (R499): A CONS HEARTBEAT arrives, ending or feeding suspicion and carrying the sender's suspect set. -/
  | heartbeat (port : Nat) (msg : List Byte)
  /-- HEARTBEAT_SEND (R497): Every 100 µs each voting member sends a HEARTBEAT to every other. -/
  | heartbeatSend
  /-- SUSPICION_TIMEOUT (R499): No CONS arrives from a member for 300 µs and it is suspected. -/
  | suspicionTimeout (member : Nat)
  /-- PROPOSE (R501): A PROPOSE arrives and the member answers ACCEPT if epoch, ballot and confirmation allow. -/
  | propose (port : Nat) (msg : List Byte)
  /-- ACCEPT (R501): An ACCEPT reaches the coordinator, which sends COMMIT once a quorum has accepted. -/
  | accept (port : Nat) (msg : List Byte)
  /-- COMMIT (R501): A COMMIT arrives and fixes the frame at which the change applies. -/
  | commit (port : Nat) (msg : List Byte)
  /-- CONS_FATAL (R499): A FATAL notice arrives and the sender is suspected. -/
  | consFatal (port : Nat) (msg : List Byte)
  /-- CONS_BRACE (R502): A bracing heartbeat arrives and the sender no longer counts toward quorum. -/
  | consBrace (port : Nat) (msg : List Byte)
  /-- MAP_CHANGE_APPLY (R505): At the commit frame each member applies the change, fencing members and promoting their slots' partners. -/
  | mapChangeApply
  /-- COORDINATOR_TAKEOVER (R501): A member that accepted sees no COMMIT within 64 frames and becomes coordinator with a higher ballot. -/
  | coordinatorTakeover
  /-- QUORUM_LOSS (R504): For 2 ms a member hears fewer than a quorum and fences itself. -/
  | quorumLoss
  /-- EPOCH_HOLD_EXPIRY (R510): A newer-epoch item waits 64 frames without the receiver applying that epoch and is answered REMAP 0xB2. -/
  | epochHoldExpiry (origin id : Nat)
  /-- REMIRROR_COPY (R508): An EXPOSED slot's server copies its mirrored pages to the new partner at the paced rate. -/
  | remirrorCopy (slot page : Nat)
  /-- FLASH_REBUILD (R516): A foster member rebuilds a missing flash page of a stripe and programs it. Operands: the slab, the stripe and the slot whose page of it is missing. -/
  | flashRebuild (slab stripe slot : Nat)
  /-- MAP_FORM_TIMEOUT (R517): MAP_FORM has not heard every named member within 1 s and fails TIMEOUT. -/
  | mapFormTimeout (entry : Nat)
  /-- MAP_QUERY (R528): Opcode 0xC0 returns the epoch and the 256-byte map image. -/
  | mapQuery (entry : Nat)
  /-- MAP_FORM (R517): Opcode 0xC1 forms the rack from a map image at each named member. -/
  | mapForm (entry : Nat)
  /-- MAP_ADMIT (R518): Opcode 0xC2 admits a running member as SPARE if its summary matches. -/
  | mapAdmit (entry : Nat)
  /-- MAP_FENCE (R525): Opcode 0xC3 proposes a MANUAL_FENCE of a member. -/
  | mapFence (entry : Nat)
  /-- MAP_ASSIGN (R519): Opcode 0xC4 copies a slot to a member, commits the reassignment and re-mirrors. -/
  | mapAssign (entry : Nat)
  /-- CMP_DEFINE (R521): Opcode 0xC8 defines a composition or changes its limits, distributing its key pair. -/
  | cmpDefine (entry : Nat)
  /-- CMP_DROP (R534): Opcode 0xC9 removes a composition and destroys its key pair. -/
  | cmpDrop (entry : Nat)
  /-- CMP_GRANT (R522): Opcode 0xCA grants slabs to a composition with default placement. -/
  | cmpGrant (entry : Nat)
  /-- CMP_WITHDRAW (R522): Opcode 0xCB stops captures, drains, back-invalidates and frees a composition's slabs. -/
  | cmpWithdraw (entry : Nat)
  /-- CMP_QUERY (R528): Opcode 0xCC returns a composition's granted capacity and local counts. -/
  | cmpQuery (entry : Nat)
  /-- METER_QUERY (R615): Opcode 0xD0 sums a composition's metering counters at a tick over the voting members. -/
  | meterQuery (entry : Nat)
  /-- METERING_TICK (R612): At every frame multiple of 31,250 each member adds to every composition's metering counters. Operands: clk_core cycles of each composition's invocations since the last tick: composition, cycles. -/
  | meteringTick (cycles : List (Nat × Nat))
  /-- MGT_METER_SNAP (R614): MGT_METER_CTRL.SNAP copies the selected composition's last-tick counters in one cycle. -/
  | mgtMeterSnap (src : Nat)
  /-- POWER_ON_RESET (R587): VSTBY5 becomes valid from OFF and the whole part resets, samples straps and boots the security processor. -/
  | powerOnReset (straps : Straps) (flash : BootFlash)
  /-- VSTBY5_LOST (R559): VSTBY5 falls below 4.50 V for 10 µs; with VIN12 valid the island runs from VIN12. -/
  | vstby5Lost
  /-- STARTUP (R596): Once its conditions hold, start-up resets the blocks outside the island, brings up rails, clocks, memories and links. Operands: what the boot flash and the population hold, the checkers that do not follow their test, the island's temperature in 0.125 °C, µs from step 1. -/
  | startup (flash : BootFlash) (pop : Population) (badCheckers : List Nat) (islandTemp us : Nat)
  /-- STORE_BRINGUP (R596): Once alignment and LOCK are held, the member reads the brace area, replays the journal and brings the store up. Operands: every delta block verifies; entries that verify before the first that fails. -/
  | storeBringup (deltaOk : Bool) (damage : List (Nat × Nat × Nat)) (us : Nat)
  /-- REFCLK_LOSS (R582): REFCLK stops or leaves ±5 %, which is FATAL in service or stalls start-up at step 2. -/
  | refclkLoss
  /-- CLK_SSC_WRITE (R583): A write to CLK_SSC.DEPTH takes effect at the next top of the triangle, or is discarded with SSC_REFUSED. -/
  | clkSscWrite (src : Nat) (value : Word)
  /-- SYS_RST_ASSERT (R589): SYS_RST_n asserted braces a running member to STANDBY or stops start-up. -/
  | sysRstAssert
  /-- SYS_RST_DEASSERT (R589): SYS_RST_n deasserted lets a member in STANDBY start up once R574 holds. -/
  | sysRstDeassert
  /-- PERST_ASSERT (R590): PERST0_n or PERST1_n asserted resets the PCIe port and its functions. -/
  | perstAssert (port : Nat)
  /-- PERST_DEASSERT (R590): PERST deasserted lets the port start link training. -/
  | perstDeassert (port : Nat)
  /-- FENCE_REQ_ASSERT (R591): FENCE_REQ_n asserted makes the member fence itself. -/
  | fenceReqAssert
  /-- TAP_RESET (R592): TRST_n or five TCK cycles with TMS high reset the JTAG TAP. Operands: by TRST_n asserted, else by TMS. -/
  | tapReset (pin : Bool)
  /-- JTAG_DEBUG_ACCESS (R547): A JTAG debug-instruction access reads or writes registers or memory as the debug level allows. -/
  | jtagDebugAccess (access : JtagAccess)
  /-- PSU_AC_OK_DEASSERT (R561): The filtered PSU_AC_OK falls and brace begins with CAUSE 1. -/
  | psuAcOkDeassert
  /-- PSU_AC_OK_ASSERT (R561): PSU_AC_OK stays high for 10 µs and counts as asserted. -/
  | psuAcOkAssert
  /-- VIN12_OV_TRIP (R562): VIN12 above 15.8 V for 1 µs turns the regulators off at once. -/
  | vin12OvTrip
  /-- VIN12_SURGE_BRACE (R562): A surge above 15.0 V for 5 µs or above 13.2 V for 10 ms starts brace. Operands: `long`, above 13.2 V for 10 ms. -/
  | vin12SurgeBrace (long : Bool)
  /-- VIN12_SURGE (R562): VIN12 above 13.2 V for 20 µs counts a surge. -/
  | vin12Surge
  /-- VIN12_SAG_ENTER (R562): VIN12 below 10.8 V for 20 µs applies the sag cap. -/
  | vin12SagEnter
  /-- VIN12_SAG_EXIT (R562): 1 ms above 11.0 V ends the sag region. -/
  | vin12SagExit
  /-- VIN12_DEEP_SAG (R562): A deep or long sag starts brace with CAUSE 2 or 3. Operands: `long`, below 10.8 V for 10 ms within 20 ms. -/
  | vin12DeepSag (long : Bool)
  /-- VIN12_UV_TRIP (R562): VIN12 below 8.5 V for 5 µs turns the regulators off at once. -/
  | vin12UvTrip
  /-- SNOWPLOUGH_TICK (R564): Every 10 µs the Snowplough adjusts DUTY and the core limit against the effective cap. Operands: VIN12 in mV, input power in W over 10 µs, 1 ms and 100 ms. -/
  | snowploughTick (mv w w1ms w100ms : Nat)
  /-- BRACE_FLUSH_START (R568): Once every die is idle the flush into the erased brace-area half begins. Operands: µs since the trigger. -/
  | braceFlushStart (us : Nat)
  /-- BRACE_COMMIT_RECORD (R568): The flush ends, the commit record is programmed and BRACE_DONE is asserted before the rails turn off. Operands: µs since the trigger; a program failed twice on a die; the SEQ numbers of entries that lay on it. -/
  | braceCommitRecord (us : Nat) (dieFailed : Bool) (lost : List Nat)
  /-- RESTART_QUALIFIED (R574): VIN12 and PSU_AC_OK stay good for PWR_RESTART.MS and a member in STANDBY starts up. -/
  | restartQualified
  /-- THERMAL_SAMPLE (R657): Every 100 µs the Snowplough samples every on-die sensor. Operands: the hottest reading in steps of 0.125 °C and its sensor; a sensor fails its self-check. -/
  | thermalSample (temp sensor : Nat) (selfFail : Bool)
  /-- PWR_CLEAR_MINMAX (R577): PWR_CTRL.CLEAR_MINMAX restarts PWR_VIN_MINMAX from the present value. -/
  | pwrClearMinmax (src : Nat)
  /-- PWR_CLEAR_BRACE (R577): PWR_CTRL.CLEAR_BRACE zeroes the brace record registers. -/
  | pwrClearBrace (src : Nat)
  /-- PWR_ENERGY_LO_READ (R577): A read of PWR_ENERGY_LO returns the low energy word and latches PWR_ENERGY_HI. Operands: the function that reads, the address and the length of its access (R6, R7). -/
  | pwrEnergyLoRead (src addr len : Nat)
  /-- RPL_BUF_HEAD_LO_READ (R365): A read of RPL_BUF_HEAD_LO returns HEAD [31:0] and latches RPL_BUF_HEAD_HI. Operands: the function that reads, the address and the length of its access (R6, R7). -/
  | rplBufHeadLoRead (src addr len : Nat)
  /-- SEC_SVN_COMMIT (R531): SEC_SVN_CTRL.COMMIT fuses the SVN up to the booted image's. -/
  | secSvnCommit (src : Nat)
  /-- SEC_LC_PROVISION (R541): SEC_LC_CTRL.PROVISION fuses the owner root hash and moves BLANK to PROVISIONED at the next reset. Operands: `fuseOk`, the fuse programming succeeds. -/
  | secLcProvision (src : Nat) (fuseOk : Bool)
  /-- SEC_TOKEN_SUBMIT (R548): SEC_TOKEN_CTRL.SUBMIT starts verifying the token and consumes the nonce. -/
  | secTokenSubmit (src : Nat)
  /-- TOKEN_VERIFY_COMPLETE (R549): Token verification ends and sets the debug level or starts a lifecycle transition, or refuses with a CODE. Operands: `sigOk`, the signature verifies under the key that R541 and R549 name; `fuseOk`, the fuse programming succeeds. -/
  | tokenVerifyComplete (sigOk fuseOk : Bool)
  /-- SEC_NEW_NONCE (R548): SEC_TOKEN_CTRL.NEW_NONCE draws a fresh debug nonce. -/
  | secNewNonce (src : Nat)
  /-- SEC_TOKEN_LOWER (R550): SEC_TOKEN_CTRL.LOWER returns the debug level to QUIET. -/
  | secTokenLower (src : Nat)
  /-- DEBUG_TIMER_EXPIRY (R550): SEC_DBG_REMAIN reaches 0 and the debug level returns to QUIET. -/
  | debugTimerExpiry
  /-- SEC_PWR_TARGET_RUN (R551): SEC_PWR_CTRL.TARGET = RUN brings a REST member back to RUN. -/
  | secPwrTargetRun (src : Nat)
  /-- SEC_PWR_TARGET_REST (R552): SEC_PWR_CTRL.TARGET = REST enters REST or is refused with a REFUSE code. -/
  | secPwrTargetRest (src : Nat)
  /-- SEC_PWR_TARGET_STANDBY (R551): SEC_PWR_CTRL.TARGET = STANDBY runs brace without its deadline and enters STANDBY. -/
  | secPwrTargetStandby (src : Nat)
  /-- GET_VERSION (R536): The SPDM GET_VERSION request is answered. Operands: for this and every other management request: endpoint 0 I3C, 1 and 2 the PCIe ports, 16 + p the link of HXL port p. -/
  | getVersion (ep : Nat)
  /-- GET_CAPABILITIES (R536): The SPDM GET_CAPABILITIES request is answered. -/
  | getCapabilities (ep : Nat)
  /-- NEGOTIATE_ALGORITHMS (R536): The SPDM NEGOTIATE_ALGORITHMS request settles the algorithms. Operands: the requester offers the algorithms of R536. -/
  | negotiateAlgorithms (ep : Nat) (offered : Bool)
  /-- GET_DIGESTS (R536): The SPDM GET_DIGESTS request returns certificate chain digests. -/
  | getDigests (ep : Nat)
  /-- GET_CERTIFICATE (R536): The SPDM GET_CERTIFICATE request returns a certificate chain. -/
  | getCertificate (ep slot off len : Nat)
  /-- CHALLENGE (R536): The SPDM CHALLENGE request is answered with a signature by the alias key. -/
  | challenge (ep slot : Nat)
  /-- GET_MEASUREMENTS (R536): The SPDM GET_MEASUREMENTS request returns the measurements 1–8. -/
  | getMeasurements (ep index : Nat) (sign : Bool)
  /-- KEY_EXCHANGE (R536): The SPDM KEY_EXCHANGE request starts a mutually authenticated session. -/
  | keyExchange (ep : Nat) (auth : Bool)
  /-- FINISH (R536): The SPDM FINISH request completes a session. -/
  | finish (ep session : Nat) (partner : Partner)
  /-- SPDM_HEARTBEAT (R536): The SPDM HEARTBEAT request keeps a session alive. -/
  | spdmHeartbeat (ep session : Nat)
  /-- KEY_UPDATE (R536): The SPDM KEY_UPDATE request updates a session's keys. -/
  | keyUpdate (ep session : Nat)
  /-- END_SESSION (R536): The SPDM END_SESSION request ends a session. -/
  | endSession (ep session : Nat)
  /-- GET_CSR (R536): The SPDM GET_CSR request returns a certificate signing request. -/
  | getCsr (ep : Nat)
  /-- SET_CERTIFICATE (R536): The SPDM SET_CERTIFICATE request writes slot 1, only in PROVISIONED within a session. -/
  | setCertificate (ep session slot : Nat) (chain : List Byte)
  /-- ENTDAA (R604): The I3C ENTDAA procedure assigns the endpoint's dynamic address. -/
  | entdaa (addr : Nat)
  /-- SET_ENDPOINT_ID (R604): The MCTP Set Endpoint ID command assigns an endpoint ID. -/
  | setEndpointId (ep eid : Nat)
  /-- GET_ENDPOINT_ID (R604): The MCTP Get Endpoint ID command returns the endpoint ID. -/
  | getEndpointId (ep : Nat)
  /-- GET_ENDPOINT_UUID (R603): The MCTP Get Endpoint UUID command returns the DIE_ID-derived UUID. -/
  | getEndpointUuid (ep : Nat)
  /-- GET_MCTP_VERSION_SUPPORT (R604): The MCTP Get MCTP Version Support command is answered. -/
  | getMctpVersionSupport (ep : Nat)
  /-- GET_MESSAGE_TYPE_SUPPORT (R604): The MCTP Get Message Type Support command is answered. -/
  | getMessageTypeSupport (ep : Nat)
  /-- GET_TID (R604): The PLDM GetTID command returns the terminus ID. -/
  | getTid (ep : Nat)
  /-- SET_TID (R604): The PLDM SetTID command sets the terminus ID. -/
  | setTid (ep tid : Nat)
  /-- GET_PLDM_VERSION (R604): The PLDM GetPLDMVersion command is answered. -/
  | getPldmVersion (ep type : Nat)
  /-- GET_PLDM_TYPES (R604): The PLDM GetPLDMTypes command returns types 0, 2, 5 and 63. -/
  | getPldmTypes (ep : Nat)
  /-- GET_PLDM_COMMANDS (R604): The PLDM GetPLDMCommands command is answered. -/
  | getPldmCommands (ep type : Nat)
  /-- GET_PDR_REPOSITORY_INFO (R604): The PLDM GetPDRRepositoryInfo command is answered. -/
  | getPdrRepositoryInfo (ep : Nat)
  /-- GET_PDR (R607): The PLDM GetPDR command returns a sensor record. -/
  | getPdr (ep record : Nat)
  /-- GET_SENSOR_READING (R607): The PLDM GetSensorReading command returns a numeric sensor's last completed update. Operands: `vstby`, VSTBY5 as the island measures it, in mV. -/
  | getSensorReading (ep sensor vstby : Nat)
  /-- GET_STATE_SENSOR_READINGS (R607): The PLDM GetStateSensorReadings command returns state sensors. -/
  | getStateSensorReadings (ep sensor : Nat)
  /-- SET_EVENT_RECEIVER (R608): The PLDM SetEventReceiver command sets or replaces the endpoint's event receiver. -/
  | setEventReceiver (ep receiver : Nat)
  /-- POLL_FOR_PLATFORM_EVENT_MESSAGE (R608): The PLDM PollForPlatformEventMessage command returns a queued sensor event. -/
  | pollForPlatformEventMessage (ep : Nat)
  /-- REQUEST_UPDATE (R609): The PLDM RequestUpdate command starts a firmware update, erasing the unbooted slot's header. -/
  | requestUpdate (ep : Nat) (session : Option Nat) (maxTransfer : Nat)
  /-- FIRMWARE_DATA_CHUNK (R609): A requested chunk of the image body arrives and is written to the slot. Operands: bytes of the chunk; what the slot holds once the last chunk is written. -/
  | firmwareDataChunk (ep : Nat) (session : Option Nat) (len : Nat) (image : BootImage)
  /-- ACTIVATE_FIRMWARE (R610): The PLDM ActivateFirmware command sets ACTIVATE_PENDING for the next entry to STANDBY. -/
  | activateFirmware (ep : Nat) (session : Option Nat) (selfContained : Bool)
  /-- CANCEL_UPDATE (R611): The PLDM CancelUpdate command ends the update, leaving the slot without a header. -/
  | cancelUpdate (ep : Nat) (session : Option Nat)
  /-- READ_SITZMARK (R606): The OEM READ_SITZMARK command returns one Sitzmark entry and its status. -/
  | readSitzmark (ep entry : Nat)
  /-- READ_FIRST (R606): The OEM READ_FIRST command returns ERR_FIRST. -/
  | readFirst (ep : Nat)
  /-- READ_RETURN (R606): The OEM READ_RETURN command returns bytes of the return record. -/
  | readReturn (ep off len : Nat)
  /-- READ_REG (R606): The OEM READ_REG command returns a MGT, PWR, CLK, ERR or SEC register. -/
  | readReg (ep off : Nat)
  /-- PMC_SNAP (R620): PMC_CTRL.SNAP copies every physical counter into its snapshot in one cycle. -/
  | pmcSnap (src : Nat)
  /-- PMC_FREEZE (R625): PMC_CTRL.FREEZE freezes every counter. -/
  | pmcFreeze (src : Nat)
  /-- PMC_UNFREEZE (R625): PMC_CTRL.UNFREEZE resumes every counter. -/
  | pmcUnfreeze (src : Nat)
  /-- PMC_CLEAR_ALL (R621): PMC_CTRL.CLEAR_ALL zeroes every counter at once. -/
  | pmcClearAll (src : Nat)
  /-- PMC_OWNER_WRITE (R622): A write to PMC_OWNER assigns or releases a physical counter, zeroing it. -/
  | pmcOwnerWrite (src : Nat) (value : Word)
  /-- PMC_VALUE_LO_READ (R619): A read of PMC_VALUE_LO returns the live count and latches PMC_VALUE_HI. Operands: the function that reads; the register, PMC_VALUE_LO of the selected counter or a PMC_V_VALUE_LO of the function's own window; the address and the length of its access (R6, R7). -/
  | pmcValueLoRead (src off addr len : Nat)
  /-- PMC_OVERFLOW (R618): A counter wraps past 2^48 − 1, setting OVF and PMC_OVF_FIRST and possibly freezing all counters. Operands: a counter whose source events no command brings wraps: the count after it. -/
  | pmcOverflow (counter value : Nat)
  /-- PMC_V_SNAP (R623): PMC_V_CTRL.SNAP snapshots only the function's own virtual counters. -/
  | pmcVSnap (src : Nat)
  /-- PMC_V_FREEZE (R623): PMC_V_CTRL.FREEZE freezes only the function's own counters. -/
  | pmcVFreeze (src : Nat)
  /-- PMC_V_UNFREEZE (R623): PMC_V_CTRL.UNFREEZE resumes only the function's own counters. -/
  | pmcVUnfreeze (src : Nat)
  /-- VSTBY5_RESTORED (R560): VSTBY5 rises back to 4.60 V or more while VIN12 still feeds the island. -/
  | vstby5Restored
  /-- REFCLK_RESTORED (R582): REFCLK becomes present again, ending the start-up wait at step 2. -/
  | refclkRestored
  /-- BLOCK_LOCK_LOST (R368): An ACTIVE port's receiver loses block lock and the port enters RETRAIN. -/
  | blockLockLost (port : Nat)
  /-- PCIE_COMPLETION_TIMEOUT (R171): A DMA read of host memory meets its PCIe Completion Timeout with no completion returned. -/
  | pcieCompletionTimeout (entry off : Nat)
  /-- FLASH_DIE_READY (R486): A flash die ends an array read, program or erase and reports its status, pass or fail. -/
  | flashDieReady (die op : Nat) (pass : Bool)
  /-- BUS_PARITY_ERROR (R470): The RCD reports a DDR5 command/address parity error, or an HBM3E data parity error is reported, and the access is retried. -/
  | busParityError (kind channel attempt : Nat) (retrainFailed : Bool)
  /-- HXL_ROUTE_WRITE (R402): A write to HXL_ROUTE changes the set of ports toward a member at once and holds new requests until earlier ones are answered. -/
  | hxlRouteWrite (src : Nat) (value : Word)
  /-- QUERY_DEVICE_IDENTIFIERS (R604): The PLDM QueryDeviceIdentifiers command returns the firmware device's identifiers. Operands: for this and every other request of type 5: the SPDM session of a secured message. -/
  | queryDeviceIdentifiers (ep : Nat) (session : Option Nat)
  /-- GET_FIRMWARE_PARAMETERS (R604): The PLDM GetFirmwareParameters command returns the component and its VERSION. -/
  | getFirmwareParameters (ep : Nat) (session : Option Nat)
  /-- PASS_COMPONENT_TABLE (R609): The PLDM PassComponentTable command presents the component 0x7220 to the device in update mode. -/
  | passComponentTable (ep : Nat) (session : Option Nat) (firmware : Bool) (identifier : Nat)
  /-- UPDATE_COMPONENT (R609): The PLDM UpdateComponent command starts the transfer of the image into the unbooted slot. -/
  | updateComponent (ep : Nat) (session : Option Nat) (version size : Nat)
  /-- GET_STATUS (R604): The PLDM GetStatus command reports the firmware device's update state. -/
  | getStatus (ep : Nat) (session : Option Nat)
  /-- CANCEL_UPDATE_COMPONENT (R611): The PLDM CancelUpdateComponent command abandons the component being written, leaving the slot without a header. -/
  | cancelUpdateComponent (ep : Nat) (session : Option Nat)
  deriving DecidableEq, Repr

end Sys2Proof
end

