-- ==== Sys2Proof/Decode.lean ====
section
/-!
DEFINITION. What a word spells. No row of spec/opcode_table.json gives bits: a command reaches the block as a register
access, a message, a pin or an event, not as an encoded word.
-/
namespace Sys2Proof

/-- The command that a word of `nbits` bits spells: none, for no row of the table has bits. -/
def decodeTableWord (_nbits _w : Nat) : Option Instr := none

end Sys2Proof
end

