-- ==== Sys2Proof/Machine/Bits.lean ====
section
/-!
DEFINITION. Bit fields, byte strings and sparse tables: the helpers every block uses.
A bit range [hi:lo] includes both ends (R15); multi-byte fields are little-endian (R16).
-/
namespace Sys2Proof.Machine

/-- Bits [hi:lo] of a word, as a number (R15). -/
def bf {n : Nat} (w : BitVec n) (hi lo : Nat) : Nat :=
  (w.toNat >>> lo) % 2 ^ (hi + 1 - lo)

/-- The word with bits [hi:lo] set to `v` (taken modulo the field's size). -/
def setBf {n : Nat} (w : BitVec n) (hi lo v : Nat) : BitVec n :=
  BitVec.ofNat n (w.toNat - bf w hi lo * 2 ^ lo + (v % 2 ^ (hi + 1 - lo)) * 2 ^ lo)

/-- Bits [hi:lo] of a number. -/
def nbf (v hi lo : Nat) : Nat := (v >>> lo) % 2 ^ (hi + 1 - lo)

/-- One bit as a Bool. -/
def bit {n : Nat} (w : BitVec n) (i : Nat) : Bool := w.toNat.testBit i

/-- The little-endian value of a byte string (R16). -/
def leNat : List Byte → Nat
  | [] => 0
  | b :: bs => b.toNat + 256 * leNat bs

/-- The `n` little-endian bytes of a number (R16). -/
def toLe : Nat → Nat → List Byte
  | 0, _ => []
  | n + 1, v => BitVec.ofNat 8 v :: toLe n (v / 256)

/-- `n` bytes from byte `off` of a byte string; bytes past its end read 0. -/
def sub (l : List Byte) (off n : Nat) : List Byte :=
  (List.range n).map fun i => l.getD (off + i) 0

/-- The little-endian field of `n` bytes at byte `off` of a byte string. -/
def fieldAt (l : List Byte) (off n : Nat) : Nat := leNat (sub l off n)

/-- The `n` bytes of a bit vector from byte `off` (R16). -/
def bvBytes {w : Nat} (v : BitVec w) (off n : Nat) : List Byte :=
  toLe n (v.toNat >>> (8 * off))

/-- A number read as signed in `w` bits. -/
def toSigned (w v : Nat) : Int :=
  if v % 2 ^ w < 2 ^ (w - 1) then ((v % 2 ^ w : Nat) : Int) else ((v % 2 ^ w : Nat) : Int) - (2 ^ w : Nat)

/-- An integer as its two's-complement number in `w` bits. -/
def ofSigned (w : Nat) (v : Int) : Nat := (v % (2 ^ w : Nat)).toNat

/-- True as 1. -/
def b2n (b : Bool) : Nat := if b then 1 else 0

/-- A counter that saturates at the largest value of `w` bits. -/
def satInc (w v : Nat) : Nat := if v + 1 < 2 ^ w then v + 1 else 2 ^ w - 1

/-- Division rounding up. -/
def ceilDiv (a b : Nat) : Nat := (a + b - 1) / b

/-- The number of bits set among the low `n` bits. -/
def popCount (n v : Nat) : Nat := (List.range n).countP fun i => v.testBit i

/-- The first number below `n` with a property. -/
def firstBelow (n : Nat) (p : Nat → Bool) : Option Nat := (List.range n).find? p

/-- `l` with `x` unless it is already there. -/
def addNew {α : Type} [BEq α] (l : List α) (x : α) : List α := if l.contains x then l else l ++ [x]

/-- One byte of CRC-32C, reflected polynomial 0x1EDC6F41 (R526). -/
def crcByte (c : Nat) (b : Byte) : Nat :=
  (List.range 8).foldl (fun c _ => if c % 2 = 1 then (c / 2) ^^^ 0x82F63B78 else c / 2) (c ^^^ b.toNat)

/-- CRC-32C of a byte string (R526). -/
def crc32c (l : List Byte) : Nat := (l.foldl crcByte 0xFFFFFFFF) ^^^ 0xFFFFFFFF

/-- Replace the elements that satisfy `p`. -/
def mapIf {α : Type} (p : α → Bool) (f : α → α) (l : List α) : List α :=
  l.map fun x => if p x then f x else x

/-- A sparse table: pairs of a key and a value, keys strictly rising. -/
structure Tab (α : Type) where
  cells : List (Nat × α) := []
  deriving DecidableEq, Repr

/-- The value stored at key `k` of an association list. -/
def cellsFind {α : Type} : List (Nat × α) → Nat → Option α
  | [], _ => none
  | (i, v) :: r, k => if i = k then some v else cellsFind r k

/-- The list with key `k` holding `v`, its place kept sorted. -/
def cellsSet {α : Type} : List (Nat × α) → Nat → α → List (Nat × α)
  | [], k, v => [(k, v)]
  | (i, w) :: r, k, v =>
    if k < i then (k, v) :: (i, w) :: r
    else if k = i then (k, v) :: r
    else (i, w) :: cellsSet r k v

/-- The list without key `k`. -/
def cellsErase {α : Type} : List (Nat × α) → Nat → List (Nat × α)
  | [], _ => []
  | (i, w) :: r, k => if i = k then cellsErase r k else (i, w) :: cellsErase r k

/-- Strictly rising keys. -/
def cellsSorted {α : Type} : List (Nat × α) → Bool
  | [] => true
  | [_] => true
  | (i, _) :: (j, w) :: r => decide (i < j) && cellsSorted ((j, w) :: r)

def Tab.find? {α : Type} (t : Tab α) (k : Nat) : Option α := cellsFind t.cells k
def Tab.getD {α : Type} (t : Tab α) (k : Nat) (d : α) : α := (t.find? k).getD d
def Tab.set {α : Type} (t : Tab α) (k : Nat) (v : α) : Tab α := ⟨cellsSet t.cells k v⟩
def Tab.erase {α : Type} (t : Tab α) (k : Nat) : Tab α := ⟨cellsErase t.cells k⟩
def Tab.has {α : Type} (t : Tab α) (k : Nat) : Bool := (t.find? k).isSome
/-- Change the value at a key that is present. -/
def Tab.modify {α : Type} (t : Tab α) (k : Nat) (f : α → α) : Tab α :=
  match t.find? k with
  | some v => t.set k (f v)
  | none => t
/-- Keep the entries that satisfy a predicate. -/
def Tab.filter {α : Type} (t : Tab α) (p : Nat → α → Bool) : Tab α := ⟨t.cells.filter fun c => p c.1 c.2⟩
/-- Change every value. -/
def Tab.mapVals {α β : Type} (t : Tab α) (f : Nat → α → β) : Tab β := ⟨t.cells.map fun c => (c.1, f c.1 c.2)⟩
/-- The empty table. -/
def Tab.empty {α : Type} : Tab α := ⟨[]⟩

end Sys2Proof.Machine
end

