-- ==== Sys2Proof/Machine/Arith.lean ====
section
/-!
DEFINITION. The number formats of the engines and their exact arithmetic, rounding, narrowing and block encodings
(R233 to R243): a value is formed exactly as a rational, rounded once to FP32 and narrowed once to its format.
-/
namespace Sys2Proof.Machine

open Sys2Proof

/-- The element formats (R233). -/
inductive Fmt where
  | fp32 | bf16 | fp16 | e4m3 | e5m2 | int8 | int32 | int64
  | mx8e4m3 | mx8e5m2 | mx6e3m2 | mx6e2m3 | mx4e2m1 | rowscale | raw8
  deriving DecidableEq, Repr

def Fmt.ofCode : Nat → Option Fmt
  | 0 => some .fp32 | 1 => some .bf16 | 2 => some .fp16 | 3 => some .e4m3 | 4 => some .e5m2 | 5 => some .int8
  | 6 => some .int32 | 7 => some .int64 | 8 => some .mx8e4m3 | 9 => some .mx8e5m2 | 10 => some .mx6e3m2
  | 11 => some .mx6e2m3 | 12 => some .mx4e2m1 | 13 => some .rowscale | 14 => some .raw8 | _ => none

/-- The format of a stored element: an MX or row-scaled format counts as its element type (R235). -/
def Fmt.isMx : Fmt → Bool
  | .mx8e4m3 | .mx8e5m2 | .mx6e3m2 | .mx6e2m3 | .mx4e2m1 => true
  | _ => false

/-- Bytes of a row of `n` elements (R233). -/
def Fmt.rowBytes (f : Fmt) (n : Nat) : Nat :=
  match f with
  | .fp32 | .int32 => 4 * n
  | .bf16 | .fp16 => 2 * n
  | .e4m3 | .e5m2 | .int8 | .raw8 => n
  | .int64 => 8 * n
  | .mx8e4m3 | .mx8e5m2 => n + n / 32
  | .mx6e3m2 | .mx6e2m3 => 3 * n / 4 + n / 32
  | .mx4e2m1 => n / 2 + n / 32
  | .rowscale => n + 4

/-- A floating-point layout: significand bits with the hidden one, exponent bits, bias, the largest finite magnitude's
significand and exponent field, and whether the top exponent holds infinities. -/
structure FpLayout where
  p : Nat
  ebits : Nat
  bias : Nat
  /-- largest finite value, as its code without the sign -/
  maxCode : Nat
  ieee : Bool
  deriving DecidableEq, Repr

def FpLayout.emin (l : FpLayout) : Int := 1 - (l.bias : Int)
/-- Width of a code. -/
def FpLayout.width (l : FpLayout) : Nat := l.p + l.ebits

def Fmt.layout : Fmt → FpLayout
  | .bf16 => ⟨8, 8, 127, 0x7F7F, true⟩
  | .fp16 => ⟨11, 5, 15, 0x7BFF, true⟩
  | .e4m3 | .mx8e4m3 => ⟨4, 4, 7, 0x7E, false⟩
  | .e5m2 | .mx8e5m2 => ⟨3, 5, 15, 0x7B, true⟩
  | .mx6e3m2 => ⟨3, 3, 3, 0x1F, false⟩
  | .mx6e2m3 => ⟨4, 2, 1, 0x1F, false⟩
  | .mx4e2m1 => ⟨2, 2, 1, 0x7, false⟩
  | _ => ⟨24, 8, 127, 0x7F7FFFFF, true⟩

/-- An exact value: NaN, an infinity, or a signed magnitude num / den (den not 0). -/
inductive Val where
  | nan
  | inf (neg : Bool)
  | fin (neg : Bool) (num den : Nat)
  deriving DecidableEq, Repr

def Val.zero : Val := .fin false 0 1
def Val.isNan : Val → Bool
  | .nan => true | _ => false
def Val.isZero : Val → Bool
  | .fin _ n _ => n == 0 | _ => false
def Val.neg : Val → Val
  | .nan => .nan | .inf b => .inf (!b) | .fin b n d => .fin (!b) n d
def Val.abs : Val → Val
  | .nan => .nan | .inf _ => .inf false | .fin _ n d => .fin false n d
/-- The signed numerator of a finite value. -/
def Val.int : Val → Int
  | .fin b n _ => if b then -(n : Int) else n
  | _ => 0
def Val.ofInt (i : Int) : Val := .fin (decide (i < 0)) i.natAbs 1

/-- 2^e as a rational magnitude times num / den. -/
def scaleQ (num den : Nat) (e : Int) : Nat × Nat :=
  if e ≥ 0 then (num * 2 ^ e.toNat, den) else (num, den * 2 ^ (-e).toNat)

/-- Rounding modes (R238). -/
inductive Rnd where
  | nearestEven
  /-- stochastic, with the draw r of R241 -/
  | stochastic (r : Nat)
  | towardZero
  deriving DecidableEq, Repr

/-- Round the magnitude num / den to an integer. -/
def roundQ (rnd : Rnd) (num den : Nat) : Nat :=
  let q := num / den
  let r := num % den
  if r = 0 then q
  else match rnd with
    | .nearestEven => if 2 * r > den || (2 * r = den && q % 2 = 1) then q + 1 else q
    | .stochastic d => if r * 65536 / den > d then q + 1 else q
    | .towardZero => q

/-- floor(log2(num / den)) of a magnitude that is not 0. -/
def log2Q (num den : Nat) : Int :=
  let g : Int := (Nat.log2 num : Int) - (Nat.log2 den : Int)
  let (n, d) := scaleQ num den (-g)
  if n < d then g - 1 else if n ≥ 2 * d then g + 1 else g

/-- Round a magnitude to a layout: the code without its sign, as if exponents went on for ever; above `maxCode` it is a
finite overflow. Subnormals are kept (R236). -/
def roundCode (l : FpLayout) (rnd : Rnd) (num den : Nat) : Nat :=
  if num = 0 then 0
  else
    let e := max (log2Q num den) l.emin
    let (n, d) := scaleQ num den ((l.p : Int) - 1 - e)
    let m := roundQ rnd n d
    -- a normal significand m stands at exponent field e - emin + 1, so the code is (e - emin) * 2^(p-1) + m
    ((e - l.emin).toNat) * 2 ^ (l.p - 1) + m

/-- The exact value of a code (without special meanings). -/
def codeVal (l : FpLayout) (neg : Bool) (code : Nat) : Val :=
  let frac := code % 2 ^ (l.p - 1)
  let ef := code / 2 ^ (l.p - 1)
  let m := if ef = 0 then frac else frac + 2 ^ (l.p - 1)
  let e : Int := (if ef = 0 then 1 else (ef : Int)) - l.bias - (l.p - 1)
  let (n, d) := scaleQ m 1 e
  .fin neg n d

/-- Decode an element of a floating format (R233). -/
def decodeFp (f : Fmt) (bits : Nat) : Val :=
  let l := f.layout
  let w := l.width
  let neg := bits.testBit (w - 1)
  let code := bits % 2 ^ (w - 1)
  let top := 2 ^ l.ebits - 1
  if l.ieee && code / 2 ^ (l.p - 1) = top then
    if code % 2 ^ (l.p - 1) = 0 then .inf neg else .nan
  else if f = .e4m3 && code = 0x7F || f = .mx8e4m3 && code = 0x7F then .nan
  else codeVal l neg code

/-- What narrowing counts (R238, R248). -/
structure Counts where
  saturated : Nat := 0
  nanMade : Nat := 0
  nanIn : Nat := 0
  deriving DecidableEq, Repr

def Counts.add (a b : Counts) : Counts :=
  { saturated := a.saturated + b.saturated, nanMade := a.nanMade + b.nanMade, nanIn := a.nanIn + b.nanIn }

/-- The canonical NaN of a format (R237). -/
def Fmt.nanCode : Fmt → Nat
  | .bf16 => 0x7FC0 | .fp16 => 0x7E00 | .e5m2 | .mx8e5m2 => 0x7E | .e4m3 | .mx8e4m3 => 0x7F
  | .int8 | .int32 | .int64 | .raw8 => 0 | _ => 0x7FC00000

/-- Narrow a value to a floating or integer element format under RND and SAT (R238). `fresh` says that no source was a
NaN, so that a NaN counts as made. -/
def narrow (f : Fmt) (rnd : Rnd) (sat : Bool) (fresh : Bool) (v : Val) : Nat × Counts :=
  let l := f.layout
  let w := l.width
  let sgn (b : Bool) (c : Nat) := if b then c + 2 ^ (w - 1) else c
  match f with
  | .int8 | .int32 | .int64 | .raw8 | .rowscale =>
    let wd := match f with
      | .int32 => 32 | .int64 => 64 | _ => 8
    match v with
    | .nan => (0, { nanMade := b2n fresh })
    | .inf b => (if b then 2 ^ (wd - 1) else 2 ^ (wd - 1) - 1, { saturated := 1 })
    | .fin b n d =>
      let m := roundQ rnd n d
      if b then (if m > 2 ^ (wd - 1) then (2 ^ (wd - 1), { saturated := 1 }) else ((2 ^ wd - m) % 2 ^ wd, {}))
      else if m > 2 ^ (wd - 1) - 1 then (2 ^ (wd - 1) - 1, { saturated := 1 }) else (m, {})
  | _ =>
    match v with
    | .nan => (f.nanCode, { nanMade := b2n fresh })
    | .inf b =>
      if l.ieee then (sgn b (l.maxCode + 1), {})
      else if sat then (sgn b l.maxCode, { saturated := 1 })
      else (f.nanCode, { nanMade := b2n fresh })
    | .fin b n d =>
      let c := roundCode l rnd n d
      if c ≤ l.maxCode then (sgn b c, {})
      else if sat || f.isMx then (sgn b l.maxCode, { saturated := 1 })
      else if l.ieee then (sgn b (l.maxCode + 1), {})
      else (f.nanCode, { nanMade := b2n fresh })

/-- Round a value to FP32, to nearest even: stage 1 of R236. A magnitude beyond the largest finite becomes infinite. -/
def toFp32 (v : Val) : Val :=
  match v with
  | .fin b n d =>
    let l := Fmt.fp32.layout
    let c := roundCode l .nearestEven n d
    if c > l.maxCode then .inf b else codeVal l b c
  | v => v

/-- The same rounding with exponents that go on: a result beyond the largest finite number stays a finite overflow, which
narrowing treats as SAT says (R236 stage 1, R238). -/
def stage1 (v : Val) : Val :=
  match v with
  | .fin b n d => codeVal Fmt.fp32.layout b (roundCode Fmt.fp32.layout .nearestEven n d)
  | v => v

/-- Exact addition; −0 only when both are −0 (IEEE 754, to nearest). -/
def Val.add : Val → Val → Val
  | .nan, _ => .nan
  | _, .nan => .nan
  | .inf a, .inf b => if a = b then .inf a else .nan
  | .inf a, .fin .. => .inf a
  | .fin .., .inf b => .inf b
  | .fin a n d, .fin b m e =>
    let i : Int := (if a then -1 else 1) * (n * e : Nat) + (if b then -1 else 1) * (m * d : Nat)
    if i = 0 then .fin (a && b) 0 1 else .fin (decide (i < 0)) i.natAbs (d * e)

def Val.sub (a b : Val) : Val := a.add b.neg

def Val.mul : Val → Val → Val
  | .nan, _ => .nan
  | _, .nan => .nan
  | .inf a, .inf b => .inf (a != b)
  | .inf a, .fin b m _ => if m = 0 then .nan else .inf (a != b)
  | .fin a n _, .inf b => if n = 0 then .nan else .inf (a != b)
  | .fin a n d, .fin b m e => .fin (a != b) (n * m) (d * e)

/-- Division (R237): x ÷ 0 is infinite, 0 ÷ 0 is NaN. -/
def Val.div : Val → Val → Val
  | .nan, _ => .nan
  | _, .nan => .nan
  | .inf _, .inf _ => .nan
  | .inf a, .fin b _ _ => .inf (a != b)
  | .fin a _ _, .inf b => .fin (a != b) 0 1
  | .fin a n d, .fin b m e =>
    if m = 0 then (if n = 0 then .nan else .inf (a != b)) else .fin (a != b) (n * e) (d * m)

/-- The square root correctly rounded to FP32 (R237, R247): the root of num·2^k / den is taken with 80 bits and a sticky
bit, which decides every rounding to 24 bits as the exact root does. -/
def Val.sqrt32 : Val → Val
  | .nan => .nan
  | .inf true => .nan
  | .inf false => .inf false
  | .fin b n d =>
    if n = 0 then .fin b 0 1
    else if b then .nan
    else
      let k := 2 * (Nat.log2 d + 160)
      let x := n * 2 ^ k / d
      let r := Nat.sqrt x
      let exact := decide (r * r = x) && decide (n * 2 ^ k % d = 0)
      toFp32 (.fin false (if exact then 2 * r else 2 * r + 1) (2 * 2 ^ (k / 2)))

/-- a < b for values that are not NaN; −0 orders below +0 only where `signed` asks for it (R237). -/
def Val.lt (signed : Bool) : Val → Val → Bool
  | .nan, _ => false
  | _, .nan => false
  | .inf a, .inf b => a && !b
  | .inf a, .fin .. => a
  | .fin .., .inf b => !b
  | .fin a n d, .fin b m e =>
    let x : Int := (if a then -1 else 1) * (n * e : Nat)
    let y : Int := (if b then -1 else 1) * (m * d : Nat)
    if x = 0 && y = 0 then signed && a && !b else decide (x < y)

def Val.max (a b : Val) : Val := if a.isNan then b else if b.isNan then a else if Val.lt true a b then b else a
def Val.min (a b : Val) : Val := if a.isNan then b else if b.isNan then a else if Val.lt true b a then b else a

/-- FP32 addition on codes, rounded to nearest even (R390, FADD). -/
def faddCode (a b : Nat) : Nat :=
  (narrow .fp32 .nearestEven false true (toFp32 ((decodeFp .fp32 a).add (decodeFp .fp32 b)))).1

/-- INT32 saturation (R236). -/
def satInt32 (i : Int) : Int × Nat :=
  if i > 2147483647 then (2147483647, 1) else if i < -2147483648 then (-2147483648, 1) else (i, 0)

/-! ### MX and row-scaled rows (R234, R239, R240) -/

/-- Width of an MX element. -/
def Fmt.elemBits : Fmt → Nat
  | .mx8e4m3 | .mx8e5m2 => 8 | .mx6e3m2 | .mx6e2m3 => 6 | .mx4e2m1 => 4
  | .fp32 | .int32 => 32 | .bf16 | .fp16 => 16 | .int64 => 64 | _ => 8

def Fmt.emax : Fmt → Int
  | .mx8e4m3 => 8 | .mx8e5m2 => 15 | .mx6e3m2 => 4 | _ => 2

/-- Bits [w·i + w − 1 : w·i] of a byte string's little-endian bit stream. -/
def packedAt (l : List Byte) (w i : Nat) : Nat :=
  (fieldAt l (w * i / 8) (w / 8 + 2) >>> (w * i % 8)) % 2 ^ w

/-- Pack elements of `w` bits into bytes. -/
def packBits (w : Nat) (xs : List Nat) : List Byte :=
  toLe (w * xs.length / 8) ((List.range xs.length).foldl (fun a i => a + (xs.getD i 0 % 2 ^ w) * 2 ^ (w * i)) 0)

/-- Decode element `i` of a row of `n` elements: exact (R236), but a row-scaled element, rounded once (R240). -/
def decodeElem (f : Fmt) (row : List Byte) (n i : Nat) : Val :=
  match f with
  | .fp32 => decodeFp f (fieldAt row (4 * i) 4)
  | .bf16 | .fp16 => decodeFp f (fieldAt row (2 * i) 2)
  | .e4m3 | .e5m2 => decodeFp f (fieldAt row i 1)
  | .int8 => Val.ofInt (toSigned 8 (fieldAt row i 1))
  | .raw8 => Val.ofInt (fieldAt row i 1 : Nat)
  | .int32 => Val.ofInt (toSigned 32 (fieldAt row (4 * i) 4))
  | .int64 => Val.ofInt (fieldAt row (8 * i) 8 : Nat)
  | .rowscale =>
    toFp32 ((Val.ofInt (toSigned 8 (fieldAt row i 1))).mul (decodeFp .fp32 (fieldAt row n 4)))
  | _ =>
    let sc := fieldAt row (f.elemBits * n / 8 + i / 32) 1
    if sc = 0xFF then .nan
    else
      match decodeFp f (packedAt row f.elemBits i) with
      | .fin b num den =>
        let (x, y) := scaleQ num den ((sc : Int) - 127)
        .fin b x y
      | v => v

/-- Decode a row. -/
def decodeRow (f : Fmt) (row : List Byte) (n : Nat) : List Val := (List.range n).map (decodeElem f row n)

/-- The largest magnitude of a list of finite values, as num / den. -/
def maxMag (vs : List Val) : Nat × Nat :=
  vs.foldl (fun (m : Nat × Nat) v => match v with
    | .fin _ n d => if m.1 * d < n * m.2 then (n, d) else m
    | _ => m) (0, 1)

def Val.finite : Val → Bool
  | .fin .. => true | _ => false

/-- The rounding of one element: RND with its own draw (R241). -/
structure RndSpec where
  mode : Nat
  seed : Nat
  step : Nat
  deriving DecidableEq, Repr

/-- mix64 of R241. -/
def mix64 (z : Nat) : Nat :=
  let z := ((z ^^^ (z >>> 30)) * 0xBF58476D1CE4E5B9) % 2 ^ 64
  let z := ((z ^^^ (z >>> 27)) * 0x94D049BB133111EB) % 2 ^ 64
  z ^^^ (z >>> 31)

/-- draw of R241. -/
def drawOf (seed step k : Nat) : Nat :=
  mix64 ((seed + (step * 2 ^ 48 + k % 2 ^ 48) * 0x9E3779B97F4A7C15) % 2 ^ 64) % 65536

def RndSpec.at (r : RndSpec) (k : Nat) : Rnd :=
  match r.mode with
  | 1 => .stochastic (drawOf r.seed r.step k)
  | 2 => .towardZero
  | _ => .nearestEven

/-- mx_encode of one block of 32 (R239): scale byte, element codes, counts. `k` numbers the block's first element. -/
def mxEncode (f : Fmt) (rnd : RndSpec) (k made : Nat) (xs : List Val) : Nat × List Nat × Counts :=
  if xs.any fun v => !v.finite then
    (0xFF, xs.map fun _ => 0, { nanMade := made })
  else
    let (an, ad) := maxMag xs
    if an = 0 then (0, xs.map fun _ => 0, {})
    else
      let e := max (-127) (min 127 (log2Q an ad - f.emax))
      let qs := (List.range xs.length).map fun i =>
        match xs.getD i .zero with
        | .fin b n d =>
          let (x, y) := scaleQ n d (-e)
          narrow f (rnd.at (k + i)) true true (.fin b x y)
        | _ => (0, {})
      ((e + 127).toNat, qs.map (·.1), qs.foldl (fun c q => c.add q.2) {})

/-- Split a list into blocks of `n`. -/
def blocksOf {α : Type} (n : Nat) (l : List α) : List (List α) :=
  (List.range (ceilDiv l.length n)).map fun i => (l.drop (n * i)).take n

/-- rowscale_encode (R240). -/
def rowscaleEncode (rnd : RndSpec) (k made : Nat) (xs : List Val) : List Byte × Counts :=
  if xs.any fun v => !v.finite then
    (xs.map (fun _ => 0) ++ toLe 4 0x7FC00000, { nanMade := made })
  else
    let (an, ad) := maxMag xs
    if an = 0 then (xs.map (fun _ => 0) ++ toLe 4 0, {})
    else
      let s := toFp32 (.fin false an (ad * 127))
      let qs := (List.range xs.length).map fun i =>
        match (xs.getD i .zero).div s with
        | .fin b n d =>
          let m := roundQ (rnd.at (k + i)) n d
          let c := min m 127
          (BitVec.ofNat 8 (if b then 256 - c else c), b2n (decide (m > 127)))
        | .inf b => (BitVec.ofNat 8 (if b then 256 - 127 else 127), 1)
        | .nan => (0, 0)
      (qs.map (·.1) ++ toLe 4 (narrow .fp32 .nearestEven false true s).1, { saturated := (qs.map (·.2)).sum })

/-- NaNs made in a block or a row (R238): each element that is a NaN though no source of it was, and the NaN that the whole becomes from
an infinity alone. -/
def nansMade (l : List (Val × Bool)) : Nat :=
  l.countP (fun x => x.1.isNan && x.2) + b2n ((l.all fun x => !x.1.isNan) && l.any fun x => !x.1.finite)

/-- Encode a row of values in a format under RND and SAT (R236, R238 to R240); `k` numbers its first element. Each value
comes with whether no source of it was a NaN. -/
def encodeRow (f : Fmt) (rnd : RndSpec) (sat : Bool) (k : Nat) (xs : List (Val × Bool)) : List Byte × Counts :=
  if f.isMx then
    let bs := blocksOf 32 xs
    let es := (List.range bs.length).map fun i =>
      mxEncode f rnd (k + 32 * i) (nansMade (bs.getD i [])) ((bs.getD i []).map (·.1))
    (packBits f.elemBits (es.map (·.2.1)).flatten ++ es.map (fun e => BitVec.ofNat 8 e.1),
     es.foldl (fun c e => c.add e.2.2) {})
  else if f = .rowscale then rowscaleEncode rnd k (nansMade xs) (xs.map (·.1))
  else
    let es := (List.range xs.length).map fun i =>
      narrow f (rnd.at (k + i)) sat (xs.getD i (.zero, true)).2 (xs.getD i (.zero, true)).1
    ((es.map fun e => toLe (f.elemBits / 8) e.1).flatten, es.foldl (fun c e => c.add e.2) {})

/-! ### Reduction orders (R242, R243) -/

/-- Add neighbours until one partial sum is left; every addition rounded. -/
def foldPairs (add : α → α → α) (fuel : Nat) (xs : List α) : List α :=
  match fuel with
  | 0 => xs
  | f + 1 =>
    match xs with
    | [] => []
    | [x] => [x]
    | _ => foldPairs add f ((List.range (xs.length / 2)).filterMap fun i =>
        match xs[2 * i]?, xs[2 * i + 1]? with
        | some a, some b => some (add a b)
        | _, _ => none)

/-- row_sum of R242: chunks of `lanes` terms, each summed pairwise, the chunks in order. -/
def rowSum (add : α → α → α) (zero : α) (lanes : Nat) (ts : List α) : α :=
  (blocksOf lanes ts).foldl (fun acc c =>
    let p := c ++ List.replicate (lanes - c.length) zero
    add acc ((foldPairs add 6 p).headD zero)) zero

/-- seq_sum of R243. -/
def seqSum (add : α → α → α) : List α → Option α
  | [] => none
  | x :: xs => some (xs.foldl add x)

/-- tree_sum of R243, with fuel for its depth. -/
def treeSum (add : α → α → α) : Nat → List α → Option α
  | 0, xs => xs.head?
  | f + 1, xs =>
    match xs with
    | [] => none
    | [x] => some x
    | _ =>
      let h := 2 ^ (Nat.log2 (2 * xs.length - 1) - 1)
      match treeSum add f (xs.take h), treeSum add f (xs.drop h) with
      | some a, some b => some (add a b)
      | some a, none => some a
      | none, b => b

/-- FP32 addition of values: exact, then rounded to nearest even. -/
def add32 (a b : Val) : Val := toFp32 (a.add b)

end Sys2Proof.Machine
end

