-- ==== Sys2Proof/Config.lean ====
section
/-!
DEFINITION. What an implementation fixes and the spec does not, and the free values: constants without a body.
-/
namespace Sys2Proof.Config

/-- Where the result area of an intake source begins in the result region, bytes (R75, R182: "a fixed RSA"). -/
opaque resultOffset : Nat → Nat

/-- The SOURCE each of the 3,072 checkers reports (R483: fixed, not listed). -/
opaque checkerSource : Nat → Nat

/-- The unit kind and index each checker watches (R483). -/
opaque checkerUnitKind : Nat → Nat
opaque checkerUnitIndex : Nat → Nat

/-- The time at which a flit leaves, in units of 0.1 ns modulo 2^32 (R371), by the model's own counter. -/
opaque linkTime : Nat → Nat

/-- What a gate holds after an error that its code detects and cannot correct (R438: no reaction is stated). -/
opaque lostGate : Nat → Nat

/-- How far the alignment loop moves the trim for an offset and a trim (R131 gives its bounds and time constant only). -/
opaque trimMove : Int → Int → Int

/-- Which of two orders a race takes that the spec leaves open, by the model's own counter (R229: before or after an
unsettled load; a Pocket byte changed while a store of it is in flight). -/
opaque raceLate : Nat → Bool

/-- How many granules of a stopped transfer had moved (R252, R253), by the model's own counter. -/
opaque stopPoint : Nat → Nat

/-- A value for which the spec states nothing, by the model's own counter. -/
opaque openValue : Nat → Nat

/-- Draws of the random source, by the model's own counter (nonces, keys, session identities). -/
opaque randomDraw : Nat → Nat

/-- DIE_ID, 16 bytes derived from the die secret (R533), as a number. -/
opaque dieId : Nat

/-- A digest, signature or certificate the part makes with keys that nothing reads (R533, R536), by the model's own
counter. -/
opaque signature : Nat → List Byte

/-- A digest of named contents that the part takes over an encoding of its own (R536 measurements). -/
opaque digest : List Nat → List Byte

/-- The certificate chain of slot 0, to the alias certificate (R536). -/
opaque certChain : List Byte

/-- The endpoint UUID as derived from DIE_ID (R603). -/
opaque endpointUuid : Nat → List Byte

/-- The frequency in kHz that CLK_MEAS counts for a clock (R602): a measurement of this part's clocks, so no rule fixes it. -/
opaque clockKhz : Nat → Nat

/-- The temperature, in steps of 0.125 °C, and the voltage, in mV, at the last step of an instance's training (R206): measurements. By
the model's own counter, kind and instance. -/
opaque trainedAt : Nat → Nat → Nat → Nat × Nat

/-- The bytes that a lost flash page reconstructs to from the pages of its stripe, which other members hold (R477, R515); by the model's
own counter and page. -/
opaque rebuiltPage : Nat → Nat → List Byte

/-- AES-256-XTS (R535) of a granule under a key pair and a tweak: what the devices hold, and back. The pair is a number that names
it, 0 for one that has been destroyed. -/
opaque xtsEncrypt : Nat → Nat → List Byte → List Byte
opaque xtsDecrypt : Nat → Nat → List Byte → List Byte

end Sys2Proof.Config
end

