-- ==== Sys2Proof/Machine/RegTable.lean ====
section
/-!
DEFINITION. The register fields of the BAR0 block windows, as the spec's field tables give them (R6, R8, R9, R11):
for each field its byte offset from BAR0, its bits, its access code and its reset value. A field whose Reset column
says `hold`, `strap` or `fuse` starts at 0 here; what stands behind it is in the assumption log.
Reserved fields have no row: they read 0 and writes to them are discarded (R9).
-/
namespace Sys2Proof.Machine

/-- A register field: byte offset from BAR0 and the bits [hi:lo] of that 32-bit register. -/
structure Fld where
  off : Nat
  hi : Nat
  lo : Nat
  deriving DecidableEq, Repr

/-- The access codes of R8. `rwl` is RWL with the state BLANK, the only one the spec uses. -/
inductive Acc where
  | ro | rw | w1c | wo | rwl
  deriving DecidableEq, Repr

/-- One row of a register table. `count` registers stand `stride` bytes apart (1 and 0 for a single register). -/
structure FieldRow where
  fld : Fld
  acc : Acc
  reset : Nat := 0
  hold : Bool := false
  count : Nat := 1
  stride : Nat := 0
  deriving DecidableEq, Repr

namespace F

/-! R90, spec/02_command_packets.md -/
abbrev CMDQ_ABORT_QP : Fld := ⟨0x004000, 10, 0⟩
abbrev CMDQ_ABORT_ALL : Fld := ⟨0x004000, 11, 11⟩
abbrev CMDQ_ABORT_QTAG : Fld := ⟨0x004000, 31, 16⟩
abbrev CMDQ_RELEASE_HANDLE : Fld := ⟨0x004008, 31, 0⟩
abbrev CMDQ_RELEASE : Fld := F.CMDQ_RELEASE_HANDLE
abbrev CMDQ_RELEASE2_HANDLE : Fld := ⟨0x00400C, 31, 0⟩
abbrev CMDQ_RELEASE2 : Fld := F.CMDQ_RELEASE2_HANDLE

/-! R91, spec/02_command_packets.md -/
abbrev FN_ID_FUNC : Fld := ⟨0x100000, 5, 0⟩
abbrev FN_ID_PORT : Fld := ⟨0x100000, 6, 6⟩
abbrev FN_ID_IS_VF : Fld := ⟨0x100000, 7, 7⟩
abbrev FN_EVENT_QP_ERROR : Fld := ⟨0x100004, 0, 0⟩
abbrev FN_EVENT_QP_DRAINED : Fld := ⟨0x100004, 1, 1⟩
abbrev FN_EVENT_RESULT_LOW : Fld := ⟨0x100004, 2, 2⟩
abbrev FN_EVENT_ABORT_MISS : Fld := ⟨0x100004, 3, 3⟩
abbrev FN_EVENT_RELEASE_STALE : Fld := ⟨0x100004, 4, 4⟩
abbrev FN_EVENT_SETTINGS : Fld := ⟨0x100004, 5, 5⟩
abbrev FN_EVENT_FLR_ABORT : Fld := ⟨0x100004, 6, 6⟩
abbrev FN_EVENT_EN_EN : Fld := ⟨0x100008, 6, 0⟩
abbrev FN_EVENT_EN : Fld := F.FN_EVENT_EN_EN
abbrev FN_LIMITS_QP_ALLOT : Fld := ⟨0x10000C, 11, 0⟩
abbrev FN_LIMITS : Fld := F.FN_LIMITS_QP_ALLOT
abbrev FN_LL_INUSE_INUSE : Fld := ⟨0x100010, 16, 0⟩
abbrev FN_LL_INUSE : Fld := F.FN_LL_INUSE_INUSE
abbrev FN_CMD_TIMEOUT_MS : Fld := ⟨0x100014, 15, 0⟩
abbrev FN_CMD_TIMEOUT : Fld := F.FN_CMD_TIMEOUT_MS
abbrev FN_PERM_OPC_RANGES : Fld := ⟨0x100018, 5, 0⟩
abbrev FN_PERM_CLASS_MASK : Fld := ⟨0x100018, 31, 16⟩
abbrev FN_RESULT_SIZE_SIZE : Fld := ⟨0x10001C, 15, 0⟩
abbrev FN_RESULT_SIZE : Fld := F.FN_RESULT_SIZE_SIZE
abbrev FN_RESULT_FREE_FREE : Fld := ⟨0x100020, 19, 0⟩
abbrev FN_RESULT_FREE : Fld := F.FN_RESULT_FREE_FREE
abbrev FN_RESULT_RSA_LO_RSA_LO : Fld := ⟨0x100024, 31, 0⟩
abbrev FN_RESULT_RSA_LO : Fld := F.FN_RESULT_RSA_LO_RSA_LO
abbrev FN_RESULT_RSA_HI_RSA_HI : Fld := ⟨0x100028, 23, 0⟩
abbrev FN_RESULT_RSA_HI : Fld := F.FN_RESULT_RSA_HI_RSA_HI
abbrev FN_MISS_COUNT_ABORT_MISS : Fld := ⟨0x10002C, 15, 0⟩
abbrev FN_MISS_COUNT_RELEASE_STALE : Fld := ⟨0x10002C, 31, 16⟩
abbrev FN_QP_SEL_QP : Fld := ⟨0x100030, 10, 0⟩
abbrev FN_QP_SEL : Fld := F.FN_QP_SEL_QP
abbrev FN_SQ_BASE_LO_ADDR : Fld := ⟨0x100034, 31, 12⟩
abbrev FN_SQ_BASE_LO : Fld := F.FN_SQ_BASE_LO_ADDR
abbrev FN_SQ_BASE_HI_ADDR : Fld := ⟨0x100038, 31, 0⟩
abbrev FN_SQ_BASE_HI : Fld := F.FN_SQ_BASE_HI_ADDR
abbrev FN_CQ_BASE_LO_ADDR : Fld := ⟨0x10003C, 31, 12⟩
abbrev FN_CQ_BASE_LO : Fld := F.FN_CQ_BASE_LO_ADDR
abbrev FN_CQ_BASE_HI_ADDR : Fld := ⟨0x100040, 31, 0⟩
abbrev FN_CQ_BASE_HI : Fld := F.FN_CQ_BASE_HI_ADDR
abbrev FN_QP_SIZE_SQ_LOG2 : Fld := ⟨0x100044, 4, 0⟩
abbrev FN_QP_SIZE_CQ_LOG2 : Fld := ⟨0x100044, 12, 8⟩
abbrev FN_CQ_COAL_COUNT : Fld := ⟨0x100048, 7, 0⟩
abbrev FN_CQ_COAL_TIME_US : Fld := ⟨0x100048, 17, 8⟩
abbrev FN_QP_CTRL_ENABLE : Fld := ⟨0x10004C, 0, 0⟩
abbrev FN_QP_CTRL_DISABLE : Fld := ⟨0x10004C, 1, 1⟩
abbrev FN_QP_STATUS_STATE : Fld := ⟨0x100050, 1, 0⟩
abbrev FN_QP_STATUS_ERR_CODE : Fld := ⟨0x100050, 7, 4⟩
abbrev FN_QP_STATUS_SQ_HEAD : Fld := ⟨0x100050, 31, 16⟩
abbrev FN_QP_ERR_FIRST_QP : Fld := ⟨0x100054, 10, 0⟩
abbrev FN_QP_ERR_FIRST_VALID : Fld := ⟨0x100054, 31, 31⟩

/-! R92, spec/02_command_packets.md -/
abbrev FN_ADM_SEL_FUNC : Fld := ⟨0x101000, 5, 0⟩
abbrev FN_ADM_SEL : Fld := F.FN_ADM_SEL_FUNC
abbrev FN_ADM_QP_ALLOT_QP : Fld := ⟨0x101004, 11, 0⟩
abbrev FN_ADM_QP_ALLOT : Fld := F.FN_ADM_QP_ALLOT_QP
abbrev FN_ADM_LL_RESERVE_RESERVE : Fld := ⟨0x101008, 16, 0⟩
abbrev FN_ADM_LL_RESERVE : Fld := F.FN_ADM_LL_RESERVE_RESERVE
abbrev FN_ADM_LL_LIMIT_LIMIT : Fld := ⟨0x10100C, 16, 0⟩
abbrev FN_ADM_LL_LIMIT : Fld := F.FN_ADM_LL_LIMIT_LIMIT
abbrev FN_ADM_TIMEOUT_MS : Fld := ⟨0x101010, 15, 0⟩
abbrev FN_ADM_TIMEOUT : Fld := F.FN_ADM_TIMEOUT_MS
abbrev FN_ADM_PERM_OPC_RANGES : Fld := ⟨0x101014, 5, 0⟩
abbrev FN_ADM_PERM_CLASS_MASK : Fld := ⟨0x101014, 31, 16⟩
abbrev FN_ADM_RESULT_SIZE_SIZE : Fld := ⟨0x101018, 15, 0⟩
abbrev FN_ADM_RESULT_SIZE : Fld := F.FN_ADM_RESULT_SIZE_SIZE
abbrev FN_ADM_APPLY_APPLY : Fld := ⟨0x10101C, 0, 0⟩
abbrev FN_ADM_APPLY : Fld := F.FN_ADM_APPLY_APPLY
abbrev FN_ADM_STATUS_BUSY : Fld := ⟨0x101020, 0, 0⟩
abbrev FN_ADM_STATUS_ERR : Fld := ⟨0x101020, 3, 1⟩
abbrev FN_ADM_QP_FREE_FREE : Fld := ⟨0x101024, 12, 0⟩
abbrev FN_ADM_QP_FREE : Fld := F.FN_ADM_QP_FREE_FREE
abbrev FN_ADM_LL_FREE_FREE : Fld := ⟨0x101028, 16, 0⟩
abbrev FN_ADM_LL_FREE : Fld := F.FN_ADM_LL_FREE_FREE
abbrev FN_HXL_SEL_PORT : Fld := ⟨0x101100, 3, 0⟩
abbrev FN_HXL_SEL : Fld := F.FN_HXL_SEL_PORT
abbrev FN_HXL_LL_RESERVE_RESERVE : Fld := ⟨0x101104, 16, 0⟩
abbrev FN_HXL_LL_RESERVE : Fld := F.FN_HXL_LL_RESERVE_RESERVE
abbrev FN_HXL_LL_LIMIT_LIMIT : Fld := ⟨0x101108, 16, 0⟩
abbrev FN_HXL_LL_LIMIT : Fld := F.FN_HXL_LL_LIMIT_LIMIT
abbrev FN_HXL_TIMEOUT_MS : Fld := ⟨0x10110C, 15, 0⟩
abbrev FN_HXL_TIMEOUT : Fld := F.FN_HXL_TIMEOUT_MS
abbrev FN_HXL_PERM_OPC_RANGES : Fld := ⟨0x101110, 5, 0⟩
abbrev FN_HXL_PERM_CLASS_MASK : Fld := ⟨0x101110, 31, 16⟩
abbrev FN_HXL_RESULT_SIZE_SIZE : Fld := ⟨0x101114, 15, 0⟩
abbrev FN_HXL_RESULT_SIZE : Fld := F.FN_HXL_RESULT_SIZE_SIZE
abbrev FN_HXL_APPLY_APPLY : Fld := ⟨0x101118, 0, 0⟩
abbrev FN_HXL_APPLY : Fld := F.FN_HXL_APPLY_APPLY
abbrev FN_HXL_STATUS_BUSY : Fld := ⟨0x10111C, 0, 0⟩
abbrev FN_HXL_STATUS_ERR : Fld := ⟨0x10111C, 3, 1⟩

/-! R140, spec/03_cadence.md -/
abbrev PST_STATUS_ACTIVE_BANK : Fld := ⟨0x200000, 0, 0⟩
abbrev PST_STATUS_PLAIN : Fld := ⟨0x200000, 1, 1⟩
abbrev PST_STATUS_BRACE : Fld := ⟨0x200000, 2, 2⟩
abbrev PST_STATUS_LOAD_BUSY : Fld := ⟨0x200000, 3, 3⟩
abbrev PST_STATUS_SWITCH_PENDING : Fld := ⟨0x200000, 4, 4⟩
abbrev PST_STATUS_ALIGN_STATE : Fld := ⟨0x200000, 6, 5⟩
abbrev PST_STATUS_REFRESH_2X : Fld := ⟨0x200000, 7, 7⟩
abbrev PST_ACTIVE_SET_SET_ID : Fld := ⟨0x200004, 31, 0⟩
abbrev PST_ACTIVE_SET : Fld := F.PST_ACTIVE_SET_SET_ID
abbrev PST_INACTIVE_SET_SET_ID : Fld := ⟨0x200008, 31, 0⟩
abbrev PST_INACTIVE_SET : Fld := F.PST_INACTIVE_SET_SET_ID
abbrev PST_FRAME_LO_FRAME : Fld := ⟨0x20000C, 31, 0⟩
abbrev PST_FRAME_LO : Fld := F.PST_FRAME_LO_FRAME
abbrev PST_FRAME_HI_FRAME : Fld := ⟨0x200010, 15, 0⟩
abbrev PST_FRAME_HI : Fld := F.PST_FRAME_HI_FRAME
abbrev PST_PERIOD_PERIOD_LOG2 : Fld := ⟨0x200014, 2, 0⟩
abbrev PST_PERIOD_PHASE : Fld := ⟨0x200014, 11, 8⟩
abbrev PST_IMG_ADDR_LO_ADDR : Fld := ⟨0x200018, 31, 6⟩
abbrev PST_IMG_ADDR_LO : Fld := F.PST_IMG_ADDR_LO_ADDR
abbrev PST_IMG_ADDR_HI_ADDR : Fld := ⟨0x20001C, 31, 0⟩
abbrev PST_IMG_ADDR_HI : Fld := F.PST_IMG_ADDR_HI_ADDR
abbrev PST_IMG_LEN_LEN : Fld := ⟨0x200020, 24, 0⟩
abbrev PST_IMG_LEN : Fld := F.PST_IMG_LEN_LEN
abbrev PST_LOAD_LOAD : Fld := ⟨0x200024, 0, 0⟩
abbrev PST_LOAD : Fld := F.PST_LOAD_LOAD
abbrev PST_LOAD_STATUS_BUSY : Fld := ⟨0x200028, 0, 0⟩
abbrev PST_LOAD_STATUS_DONE : Fld := ⟨0x200028, 1, 1⟩
abbrev PST_LOAD_STATUS_CODE : Fld := ⟨0x200028, 15, 8⟩
abbrev PST_LOAD_STATUS_KIND : Fld := ⟨0x200028, 18, 16⟩
abbrev PST_LOAD_WHERE_INDEX : Fld := ⟨0x20002C, 11, 0⟩
abbrev PST_LOAD_WHERE_FRAME : Fld := ⟨0x20002C, 15, 12⟩
abbrev PST_LOAD_WHERE_SLOT : Fld := ⟨0x20002C, 28, 16⟩
abbrev PST_SWITCH_FRAME_LO_FRAME : Fld := ⟨0x200030, 31, 0⟩
abbrev PST_SWITCH_FRAME_LO : Fld := F.PST_SWITCH_FRAME_LO_FRAME
abbrev PST_SWITCH_FRAME_HI_FRAME : Fld := ⟨0x200034, 15, 0⟩
abbrev PST_SWITCH_FRAME_HI : Fld := F.PST_SWITCH_FRAME_HI_FRAME
abbrev PST_SWITCH_SET_SET_ID : Fld := ⟨0x200038, 31, 0⟩
abbrev PST_SWITCH_SET : Fld := F.PST_SWITCH_SET_SET_ID
abbrev PST_SWITCH_CTRL_ARM : Fld := ⟨0x20003C, 0, 0⟩
abbrev PST_SWITCH_CTRL_CANCEL : Fld := ⟨0x20003C, 1, 1⟩
abbrev PST_SWITCH_STATUS_PENDING : Fld := ⟨0x200040, 0, 0⟩
abbrev PST_SWITCH_STATUS_RESULT : Fld := ⟨0x200040, 3, 1⟩
abbrev PST_EVENT_LOAD_DONE : Fld := ⟨0x200044, 0, 0⟩
abbrev PST_EVENT_SWITCHED : Fld := ⟨0x200044, 1, 1⟩
abbrev PST_EVENT_SWITCH_FAIL : Fld := ⟨0x200044, 2, 2⟩
abbrev PST_EVENT_SET_MISMATCH : Fld := ⟨0x200044, 3, 3⟩
abbrev PST_EVENT_ALIGN_LOCKED : Fld := ⟨0x200044, 4, 4⟩
abbrev PST_EVENT_ALIGN_LOST : Fld := ⟨0x200044, 5, 5⟩
abbrev PST_EVENT_BANK_HELD : Fld := ⟨0x200044, 6, 6⟩
abbrev PST_EVENT_EN_EN : Fld := ⟨0x200048, 6, 0⟩
abbrev PST_EVENT_EN : Fld := F.PST_EVENT_EN_EN
abbrev PST_ALIGN_CTRL_ALIGN_EN : Fld := ⟨0x20004C, 0, 0⟩
abbrev PST_ALIGN_CTRL : Fld := F.PST_ALIGN_CTRL_ALIGN_EN
abbrev PST_ALIGN_STATUS_PARENT_PORT : Fld := ⟨0x200050, 3, 0⟩
abbrev PST_ALIGN_STATUS_PARENT_VALID : Fld := ⟨0x200050, 4, 4⟩
abbrev PST_ALIGN_STATUS_HOPS : Fld := ⟨0x200050, 11, 8⟩
abbrev PST_ALIGN_STATUS_REF_MEMBER : Fld := ⟨0x200050, 17, 12⟩
abbrev PST_ALIGN_OFFSET_OFFSET : Fld := ⟨0x200054, 15, 0⟩
abbrev PST_ALIGN_OFFSET : Fld := F.PST_ALIGN_OFFSET_OFFSET
abbrev PST_ALIGN_TRIM_TRIM : Fld := ⟨0x200058, 11, 0⟩
abbrev PST_ALIGN_TRIM : Fld := F.PST_ALIGN_TRIM_TRIM
abbrev PST_MISMATCH_PORTS_PORTS : Fld := ⟨0x20005C, 15, 0⟩
abbrev PST_MISMATCH_PORTS : Fld := F.PST_MISMATCH_PORTS_PORTS
abbrev PST_BANK_HELD_COUNT : Fld := ⟨0x200060, 31, 0⟩
abbrev PST_BANK_HELD : Fld := F.PST_BANK_HELD_COUNT
abbrev PST_TIMING_GEN_GEN : Fld := ⟨0x200064, 31, 0⟩
abbrev PST_TIMING_GEN : Fld := F.PST_TIMING_GEN_GEN

/-! R175, spec/04_translation.md -/
abbrev XLT_CTX_SEL_CTX : Fld := ⟨0x300000, 11, 0⟩
abbrev XLT_CTX_SEL : Fld := F.XLT_CTX_SEL_CTX
abbrev XLT_CTX_CFG_VALID : Fld := ⟨0x300004, 0, 0⟩
abbrev XLT_CTX_CFG_BOUND_SRC : Fld := ⟨0x300004, 8, 1⟩
abbrev XLT_CTX_CFG_COMPOSITION : Fld := ⟨0x300004, 23, 12⟩
abbrev XLT_CTX_STATUS_REV_EPOCH : Fld := ⟨0x300008, 15, 0⟩
abbrev XLT_CTX_STATUS_SEG_GEN : Fld := ⟨0x300008, 31, 16⟩
abbrev XLT_CTX_INFLIGHT_COUNT : Fld := ⟨0x30000C, 16, 0⟩
abbrev XLT_CTX_INFLIGHT : Fld := F.XLT_CTX_INFLIGHT_COUNT
abbrev XLT_SEG_SEL_SEG : Fld := ⟨0x300010, 3, 0⟩
abbrev XLT_SEG_SEL : Fld := F.XLT_SEG_SEL_SEG
abbrev XLT_SEG_CTRL_STATE : Fld := ⟨0x300014, 1, 0⟩
abbrev XLT_SEG_CTRL_SLAB16 : Fld := ⟨0x300014, 2, 2⟩
abbrev XLT_SEG_CTRL_PERM_R : Fld := ⟨0x300014, 3, 3⟩
abbrev XLT_SEG_CTRL_PERM_W : Fld := ⟨0x300014, 4, 4⟩
abbrev XLT_SEG_CTRL_PERM_A : Fld := ⟨0x300014, 5, 5⟩
abbrev XLT_SEG_CTRL_REVOKING : Fld := ⟨0x300014, 6, 6⟩
abbrev XLT_SEG_BASE_SLAB : Fld := ⟨0x300018, 25, 0⟩
abbrev XLT_SEG_BASE : Fld := F.XLT_SEG_BASE_SLAB
abbrev XLT_SEG_COUNT_COUNT : Fld := ⟨0x30001C, 22, 0⟩
abbrev XLT_SEG_COUNT : Fld := F.XLT_SEG_COUNT_COUNT
abbrev XLT_APPLY_CTX : Fld := ⟨0x300020, 0, 0⟩
abbrev XLT_APPLY_SEG : Fld := ⟨0x300020, 1, 1⟩
abbrev XLT_APPLY_STATUS_BUSY : Fld := ⟨0x300024, 0, 0⟩
abbrev XLT_APPLY_STATUS_ERR : Fld := ⟨0x300024, 3, 1⟩
abbrev XLT_PRI_TIMEOUT_MS : Fld := ⟨0x300028, 15, 0⟩
abbrev XLT_PRI_TIMEOUT : Fld := F.XLT_PRI_TIMEOUT_MS
abbrev XLT_EVENT_APPLY_DONE : Fld := ⟨0x30002C, 0, 0⟩
abbrev XLT_EVENT_PRI_TIMEOUT : Fld := ⟨0x30002C, 1, 1⟩
abbrev XLT_EVENT_PRI_FAILURE : Fld := ⟨0x30002C, 2, 2⟩
abbrev XLT_EVENT_INVAL_SLOW : Fld := ⟨0x30002C, 3, 3⟩
abbrev XLT_EVENT_REVOKE_DONE : Fld := ⟨0x30002C, 4, 4⟩
abbrev XLT_EVENT_FAULT_LOGGED : Fld := ⟨0x30002C, 5, 5⟩
abbrev XLT_EVENT_EN_EN : Fld := ⟨0x300030, 5, 0⟩
abbrev XLT_EVENT_EN : Fld := F.XLT_EVENT_EN_EN
abbrev XLT_FAULT_INFO_SUBCODE : Fld := ⟨0x300034, 7, 0⟩
abbrev XLT_FAULT_INFO_SRC : Fld := ⟨0x300034, 15, 8⟩
abbrev XLT_FAULT_INFO_HOST : Fld := ⟨0x300034, 16, 16⟩
abbrev XLT_FAULT_INFO_VALID : Fld := ⟨0x300034, 31, 31⟩
abbrev XLT_FAULT_ADDR_LO_ADDR : Fld := ⟨0x300038, 31, 0⟩
abbrev XLT_FAULT_ADDR_LO : Fld := F.XLT_FAULT_ADDR_LO_ADDR
abbrev XLT_FAULT_ADDR_HI_ADDR : Fld := ⟨0x30003C, 31, 0⟩
abbrev XLT_FAULT_ADDR_HI : Fld := F.XLT_FAULT_ADDR_HI_ADDR
abbrev XLT_ATC_FLUSH_PORT0 : Fld := ⟨0x300040, 0, 0⟩
abbrev XLT_ATC_FLUSH_PORT1 : Fld := ⟨0x300040, 1, 1⟩
abbrev XLT_PRI_OUT_PORT0 : Fld := ⟨0x300044, 9, 0⟩
abbrev XLT_PRI_OUT_PORT1 : Fld := ⟨0x300044, 25, 16⟩
abbrev XLT_HXL_CTX_CTX : Fld := ⟨0x300100, 11, 0⟩
abbrev XLT_HXL_CTX_VALID : Fld := ⟨0x300100, 31, 31⟩

/-! R216, spec/05_store_tiers.md -/
abbrev TIER_STATUS_STORE_UP : Fld := ⟨0x400000, 0, 0⟩
abbrev TIER_STATUS_LOCKED : Fld := ⟨0x400000, 1, 1⟩
abbrev TIER_STATUS_BRACE_READY : Fld := ⟨0x400000, 2, 2⟩
abbrev TIER_STATUS_CHAIR_BUSY : Fld := ⟨0x400000, 3, 3⟩
abbrev TIER_POP_STATUS_ERR : Fld := ⟨0x400004, 3, 0⟩
abbrev TIER_POP_STATUS_INSTANCE : Fld := ⟨0x400004, 9, 4⟩
abbrev TIER_POP_DDR_GIB_PER_CH : Fld := ⟨0x400008, 9, 0⟩
abbrev TIER_POP_DDR_MRDIMM : Fld := ⟨0x400008, 10, 10⟩
abbrev TIER_POP_DDR_DIMMS : Fld := ⟨0x400008, 12, 11⟩
abbrev TIER_POP_DDR_RANKS : Fld := ⟨0x400008, 14, 13⟩
abbrev TIER_POP_DDR_DENSITY : Fld := ⟨0x400008, 17, 15⟩
abbrev TIER_POP_DDR_STACK : Fld := ⟨0x400008, 19, 18⟩
abbrev TIER_POP_FLASH_GIB_PER_CH : Fld := ⟨0x40000C, 13, 0⟩
abbrev TIER_POP_FLASH_CE : Fld := ⟨0x40000C, 18, 14⟩
abbrev TIER_POP_FLASH_RATE : Fld := ⟨0x40000C, 30, 19⟩
abbrev TIER_SALT_LO_SALT : Fld := ⟨0x400010, 31, 0⟩
abbrev TIER_SALT_LO : Fld := F.TIER_SALT_LO_SALT
abbrev TIER_SALT_HI_SALT : Fld := ⟨0x400014, 31, 0⟩
abbrev TIER_SALT_HI : Fld := F.TIER_SALT_HI_SALT
abbrev TIER_HASH_WIDTH : Fld := ⟨0x400018, 6, 0⟩
abbrev TIER_HASH : Fld := F.TIER_HASH_WIDTH
abbrev TIER_CTRL_LOCK : Fld := ⟨0x40001C, 0, 0⟩
abbrev TIER_CTRL : Fld := F.TIER_CTRL_LOCK
abbrev TIER_HEAT_CFG_EPOCH_FRAMES : Fld := ⟨0x400020, 15, 0⟩
abbrev TIER_HEAT_CFG_HOT_T : Fld := ⟨0x400020, 23, 16⟩
abbrev TIER_HEAT_CFG_EVICT_AGE : Fld := ⟨0x400020, 28, 24⟩
abbrev TIER_POOL_HBM_FREE_MIB : Fld := ⟨0x400024, 19, 0⟩
abbrev TIER_POOL_HBM_FREE : Fld := F.TIER_POOL_HBM_FREE_MIB
abbrev TIER_POOL_DDR_FREE_MIB : Fld := ⟨0x400028, 23, 0⟩
abbrev TIER_POOL_DDR_FREE : Fld := F.TIER_POOL_DDR_FREE_MIB
abbrev TIER_POOL_DDR_PINNED_MIB : Fld := ⟨0x40002C, 23, 0⟩
abbrev TIER_POOL_DDR_PINNED : Fld := F.TIER_POOL_DDR_PINNED_MIB
abbrev TIER_FILL_RESERVE_GIB : Fld := ⟨0x400030, 10, 0⟩
abbrev TIER_FILL_RESERVE : Fld := F.TIER_FILL_RESERVE_GIB
abbrev TIER_FALLBACK_COUNT_COUNT : Fld := ⟨0x400034, 31, 0⟩
abbrev TIER_FALLBACK_COUNT : Fld := F.TIER_FALLBACK_COUNT_COUNT
abbrev TIER_CHAIR_CFG_RATE : Fld := ⟨0x400038, 9, 0⟩
abbrev TIER_CHAIR_CFG_CLASS : Fld := ⟨0x400038, 13, 10⟩
abbrev TIER_CHAIR_CFG_PAUSE : Fld := ⟨0x400038, 16, 16⟩
abbrev TIER_CHAIR_STATUS_INFLIGHT : Fld := ⟨0x40003C, 10, 0⟩
abbrev TIER_CHAIR_STATUS_RAISEQ : Fld := ⟨0x40003C, 28, 16⟩
abbrev TIER_CHAIR_DROPS_COUNT : Fld := ⟨0x400040, 31, 0⟩
abbrev TIER_CHAIR_DROPS : Fld := F.TIER_CHAIR_DROPS_COUNT
abbrev TIER_JOURNAL_CFG_SIZE_MIB : Fld := ⟨0x400044, 9, 0⟩
abbrev TIER_JOURNAL_CFG : Fld := F.TIER_JOURNAL_CFG_SIZE_MIB
abbrev TIER_JOURNAL_USED_KIB : Fld := ⟨0x400048, 19, 0⟩
abbrev TIER_JOURNAL_USED : Fld := F.TIER_JOURNAL_USED_KIB
abbrev TIER_JOURNAL_WAITS_COUNT : Fld := ⟨0x40004C, 31, 0⟩
abbrev TIER_JOURNAL_WAITS : Fld := F.TIER_JOURNAL_WAITS_COUNT
abbrev TIER_DRIFT_CFG_DRIFT_T : Fld := ⟨0x400050, 7, 0⟩
abbrev TIER_DRIFT_CFG_DRIFT_MV : Fld := ⟨0x400050, 15, 8⟩
abbrev TIER_DRIFT_CFG_MAX_UNITS : Fld := ⟨0x400050, 23, 16⟩
abbrev TIER_TRAIN_SEL_KIND : Fld := ⟨0x400054, 1, 0⟩
abbrev TIER_TRAIN_SEL_INSTANCE : Fld := ⟨0x400054, 13, 8⟩
abbrev TIER_TRAIN_TAG_T0 : Fld := ⟨0x400058, 11, 0⟩
abbrev TIER_TRAIN_TAG_V0 : Fld := ⟨0x400058, 27, 16⟩
abbrev TIER_TRAIN_NOW_T : Fld := ⟨0x40005C, 11, 0⟩
abbrev TIER_TRAIN_NOW_V : Fld := ⟨0x40005C, 27, 16⟩
abbrev TIER_TRAIN_STATE_PENDING : Fld := ⟨0x400060, 0, 0⟩
abbrev TIER_TRAIN_STATE_STEPS_LEFT : Fld := ⟨0x400060, 7, 4⟩
abbrev TIER_TRAIN_STATE_COUNT : Fld := ⟨0x400060, 31, 16⟩
abbrev TIER_REFRESH_2X_HBM : Fld := ⟨0x400064, 3, 0⟩
abbrev TIER_REFRESH_2X_DDR : Fld := ⟨0x400064, 19, 4⟩
abbrev TIER_TREC_SEL_KIND : Fld := ⟨0x400068, 1, 0⟩
abbrev TIER_TREC_SEL_FIELD : Fld := ⟨0x400068, 7, 4⟩
abbrev TIER_TREC_VAL_VALUE : Fld := ⟨0x40006C, 31, 0⟩
abbrev TIER_TREC_VAL : Fld := F.TIER_TREC_VAL_VALUE
abbrev TIER_EVENT_STORE_UP : Fld := ⟨0x400070, 0, 0⟩
abbrev TIER_EVENT_POP_ERR : Fld := ⟨0x400070, 1, 1⟩
abbrev TIER_EVENT_RETRAINED : Fld := ⟨0x400070, 2, 2⟩
abbrev TIER_EVENT_REFRESH_RATE : Fld := ⟨0x400070, 3, 3⟩
abbrev TIER_EVENT_DEV_HOT : Fld := ⟨0x400070, 4, 4⟩
abbrev TIER_EVENT_POOL_LOW : Fld := ⟨0x400070, 5, 5⟩
abbrev TIER_EVENT_JOURNAL_HIGH : Fld := ⟨0x400070, 6, 6⟩
abbrev TIER_EVENT_CHAIR_DROP : Fld := ⟨0x400070, 7, 7⟩
abbrev TIER_EVENT_BRACE_READY : Fld := ⟨0x400070, 8, 8⟩
abbrev TIER_EVENT_EN_EN : Fld := ⟨0x400074, 8, 0⟩
abbrev TIER_EVENT_EN : Fld := F.TIER_EVENT_EN_EN

/-! R258, spec/06_edge_cores.md -/
abbrev CORE_STATUS_ONLINE : Fld := ⟨0x500000, 10, 0⟩
abbrev CORE_STATUS : Fld := F.CORE_STATUS_ONLINE
abbrev CORE_GATE_DUTY : Fld := ⟨0x500004, 4, 0⟩
abbrev CORE_GATE : Fld := F.CORE_GATE_DUTY
abbrev CORE_SEL_CORE : Fld := ⟨0x500008, 10, 0⟩
abbrev CORE_SEL : Fld := F.CORE_SEL_CORE
abbrev CORE_INFO_SIDE : Fld := ⟨0x50000C, 1, 0⟩
abbrev CORE_INFO_CHANNEL : Fld := ⟨0x50000C, 8, 2⟩
abbrev CORE_INFO_RINK_PORT : Fld := ⟨0x50000C, 13, 9⟩
abbrev CORE_INFO_ONLINE : Fld := ⟨0x50000C, 14, 14⟩
abbrev CORE_INFO_QUEUED : Fld := ⟨0x50000C, 20, 16⟩
abbrev CORE_INFO_STATE : Fld := ⟨0x50000C, 23, 21⟩
abbrev CORE_RUN_SLOT : Fld := ⟨0x500010, 8, 0⟩
abbrev CORE_RUN_STEP : Fld := ⟨0x500010, 14, 9⟩
abbrev CORE_INVOCATIONS_COUNT : Fld := ⟨0x500014, 31, 0⟩
abbrev CORE_INVOCATIONS : Fld := F.CORE_INVOCATIONS_COUNT
abbrev CORE_FLAGS_NAN_IN : Fld := ⟨0x500018, 0, 0⟩
abbrev CORE_FLAGS_NAN_MADE : Fld := ⟨0x500018, 1, 1⟩
abbrev CORE_FLAGS_SATURATED : Fld := ⟨0x500018, 2, 2⟩
abbrev CORE_FLAGS_INDEX_MISS : Fld := ⟨0x500018, 3, 3⟩
abbrev CORE_FLAGS_TOPK_NAN : Fld := ⟨0x500018, 4, 4⟩
abbrev CORE_FAULT_INFO_CODE : Fld := ⟨0x50001C, 3, 0⟩
abbrev CORE_FAULT_INFO_CORE : Fld := ⟨0x50001C, 14, 4⟩
abbrev CORE_FAULT_INFO_SLOT : Fld := ⟨0x50001C, 23, 15⟩
abbrev CORE_FAULT_INFO_STEP : Fld := ⟨0x50001C, 29, 24⟩
abbrev CORE_FAULT_INFO_VALID : Fld := ⟨0x50001C, 31, 31⟩
abbrev CORE_FAULT_RECIPE_RECIPE_ID : Fld := ⟨0x500020, 31, 0⟩
abbrev CORE_FAULT_RECIPE : Fld := F.CORE_FAULT_RECIPE_RECIPE_ID
abbrev CORE_FAULT_COUNT_COUNT : Fld := ⟨0x500024, 31, 0⟩
abbrev CORE_FAULT_COUNT : Fld := F.CORE_FAULT_COUNT_COUNT
abbrev CORE_RCP_SEL_SLOT : Fld := ⟨0x500028, 8, 0⟩
abbrev CORE_RCP_SEL : Fld := F.CORE_RCP_SEL_SLOT
abbrev CORE_RCP_INFO_VALID : Fld := ⟨0x50002C, 0, 0⟩
abbrev CORE_RCP_INFO_EXT : Fld := ⟨0x50002C, 1, 1⟩
abbrev CORE_RCP_INFO_STEPS : Fld := ⟨0x50002C, 8, 2⟩
abbrev CORE_RCP_ID_RECIPE_ID : Fld := ⟨0x500030, 31, 0⟩
abbrev CORE_RCP_ID : Fld := F.CORE_RCP_ID_RECIPE_ID
abbrev CORE_RCP_VERSION_VERSION : Fld := ⟨0x500034, 31, 0⟩
abbrev CORE_RCP_VERSION : Fld := F.CORE_RCP_VERSION_VERSION
abbrev CORE_EXT_ADDR_LO_ADDR : Fld := ⟨0x500038, 31, 6⟩
abbrev CORE_EXT_ADDR_LO : Fld := F.CORE_EXT_ADDR_LO_ADDR
abbrev CORE_EXT_ADDR_HI_ADDR : Fld := ⟨0x50003C, 31, 0⟩
abbrev CORE_EXT_ADDR_HI : Fld := F.CORE_EXT_ADDR_HI_ADDR
abbrev CORE_EXT_LEN_LEN : Fld := ⟨0x500040, 11, 0⟩
abbrev CORE_EXT_LEN : Fld := F.CORE_EXT_LEN_LEN
abbrev CORE_EXT_CTRL_LOAD : Fld := ⟨0x500044, 0, 0⟩
abbrev CORE_EXT_CTRL_REMOVE : Fld := ⟨0x500044, 1, 1⟩
abbrev CORE_EXT_STATUS_BUSY : Fld := ⟨0x500048, 0, 0⟩
abbrev CORE_EXT_STATUS_DONE : Fld := ⟨0x500048, 1, 1⟩
abbrev CORE_EXT_STATUS_CODE : Fld := ⟨0x500048, 15, 8⟩
abbrev CORE_EXT_STATUS_SLOT : Fld := ⟨0x500048, 24, 16⟩
abbrev CORE_EXT_WHERE_STEP : Fld := ⟨0x50004C, 5, 0⟩
abbrev CORE_EXT_WHERE_OPERAND : Fld := ⟨0x50004C, 7, 6⟩
abbrev CORE_EVENT_EXT_DONE : Fld := ⟨0x500050, 0, 0⟩
abbrev CORE_EVENT_FAULT : Fld := ⟨0x500050, 1, 1⟩
abbrev CORE_EVENT_CORE_OFFLINE : Fld := ⟨0x500050, 2, 2⟩
abbrev CORE_EVENT_GATED : Fld := ⟨0x500050, 3, 3⟩
abbrev CORE_EVENT_FLAGS : Fld := ⟨0x500050, 4, 4⟩
abbrev CORE_EVENT_EN_EN : Fld := ⟨0x500054, 4, 0⟩
abbrev CORE_EVENT_EN : Fld := F.CORE_EVENT_EN_EN

/-! R290, spec/07_embedding_tables.md -/
abbrev EMB_STATUS_TABLES : Fld := ⟨0x600000, 12, 0⟩
abbrev EMB_STATUS : Fld := F.EMB_STATUS_TABLES
abbrev EMB_WORK_CFG_SIZE_MIB : Fld := ⟨0x600004, 10, 0⟩
abbrev EMB_WORK_CFG : Fld := F.EMB_WORK_CFG_SIZE_MIB
abbrev EMB_WORK_USED_MIB : Fld := ⟨0x600008, 10, 0⟩
abbrev EMB_WORK_USED_WAITING : Fld := ⟨0x600008, 31, 16⟩
abbrev EMB_STEP_CFG_SIZE_MIB : Fld := ⟨0x60000C, 10, 0⟩
abbrev EMB_STEP_CFG : Fld := F.EMB_STEP_CFG_SIZE_MIB
abbrev EMB_STEP_USED_MIB : Fld := ⟨0x600010, 10, 0⟩
abbrev EMB_STEP_USED : Fld := F.EMB_STEP_USED_MIB
abbrev EMB_TBL_SEL_TABLE : Fld := ⟨0x600014, 11, 0⟩
abbrev EMB_TBL_SEL : Fld := F.EMB_TBL_SEL_TABLE
abbrev EMB_TBL_INFO_DEFINED : Fld := ⟨0x600018, 0, 0⟩
abbrev EMB_TBL_INFO_LAYOUT : Fld := ⟨0x600018, 2, 1⟩
abbrev EMB_TBL_INFO_KIND : Fld := ⟨0x600018, 4, 3⟩
abbrev EMB_TBL_INFO_OPT : Fld := ⟨0x600018, 7, 5⟩
abbrev EMB_TBL_INFO_DETERMINISTIC : Fld := ⟨0x600018, 8, 8⟩
abbrev EMB_TBL_INFO_RETIRING : Fld := ⟨0x600018, 9, 9⟩
abbrev EMB_TBL_INFO_NAN_SKIP : Fld := ⟨0x600018, 10, 10⟩
abbrev EMB_TBL_INFO_COMPOSITION : Fld := ⟨0x600018, 23, 12⟩
abbrev EMB_TBL_INFO_ANCHOR : Fld := ⟨0x600018, 29, 24⟩
abbrev EMB_TBL_VERSION_VERSION : Fld := ⟨0x60001C, 31, 0⟩
abbrev EMB_TBL_VERSION : Fld := F.EMB_TBL_VERSION_VERSION
abbrev EMB_TBL_STEP_STEP : Fld := ⟨0x600020, 31, 0⟩
abbrev EMB_TBL_STEP : Fld := F.EMB_TBL_STEP_STEP
abbrev EMB_TBL_HOLD_CURRENT : Fld := ⟨0x600024, 15, 0⟩
abbrev EMB_TBL_HOLD_RETIRING : Fld := ⟨0x600024, 31, 16⟩
abbrev EMB_COUNT_KEYS_COUNT : Fld := ⟨0x600028, 31, 0⟩
abbrev EMB_COUNT_KEYS : Fld := F.EMB_COUNT_KEYS_COUNT
abbrev EMB_COUNT_ROWS_COUNT : Fld := ⟨0x60002C, 31, 0⟩
abbrev EMB_COUNT_ROWS : Fld := F.EMB_COUNT_ROWS_COUNT
abbrev EMB_COUNT_RMW_COUNT : Fld := ⟨0x600030, 31, 0⟩
abbrev EMB_COUNT_RMW : Fld := F.EMB_COUNT_RMW_COUNT
abbrev EMB_COUNT_DIRECT_COUNT : Fld := ⟨0x600034, 31, 0⟩
abbrev EMB_COUNT_DIRECT : Fld := F.EMB_COUNT_DIRECT_COUNT
abbrev EMB_COUNT_NAN_SKIP_COUNT : Fld := ⟨0x600038, 31, 0⟩
abbrev EMB_COUNT_NAN_SKIP : Fld := F.EMB_COUNT_NAN_SKIP_COUNT
abbrev EMB_COUNT_STALE_COUNT : Fld := ⟨0x60003C, 31, 0⟩
abbrev EMB_COUNT_STALE : Fld := F.EMB_COUNT_STALE_COUNT
abbrev EMB_HOOK_SLOT : Fld := ⟨0x600040, 8, 0⟩
abbrev EMB_HOOK_VALID : Fld := ⟨0x600040, 31, 31⟩
abbrev EMB_EVENT_PUBLISHED : Fld := ⟨0x600044, 0, 0⟩
abbrev EMB_EVENT_RETIRED : Fld := ⟨0x600044, 1, 1⟩
abbrev EMB_EVENT_STEP_APPLIED : Fld := ⟨0x600044, 2, 2⟩
abbrev EMB_EVENT_WORK_LOW : Fld := ⟨0x600044, 3, 3⟩
abbrev EMB_EVENT_DIRECT_PATH : Fld := ⟨0x600044, 4, 4⟩
abbrev EMB_EVENT_STEP_FULL : Fld := ⟨0x600044, 5, 5⟩
abbrev EMB_EVENT_SEQ_DUP : Fld := ⟨0x600044, 6, 6⟩
abbrev EMB_EVENT_NAN_SKIP : Fld := ⟨0x600044, 7, 7⟩
abbrev EMB_EVENT_EN_EN : Fld := ⟨0x600048, 7, 0⟩
abbrev EMB_EVENT_EN : Fld := F.EMB_EVENT_EN_EN

/-! R325, spec/08_vector_search.md -/
abbrev VEC_STATUS_INDEXES : Fld := ⟨0x600100, 10, 0⟩
abbrev VEC_STATUS_PASS_RUNNING : Fld := ⟨0x600100, 11, 11⟩
abbrev VEC_WALKS_ACTIVE : Fld := ⟨0x600104, 9, 0⟩
abbrev VEC_WALKS_WAITING : Fld := ⟨0x600104, 31, 16⟩
abbrev VEC_IDX_SEL_INDEX : Fld := ⟨0x600108, 9, 0⟩
abbrev VEC_IDX_SEL : Fld := F.VEC_IDX_SEL_INDEX
abbrev VEC_IDX_INFO_DEFINED : Fld := ⟨0x60010C, 0, 0⟩
abbrev VEC_IDX_INFO_LAYOUT : Fld := ⟨0x60010C, 1, 1⟩
abbrev VEC_IDX_INFO_METRIC : Fld := ⟨0x60010C, 3, 2⟩
abbrev VEC_IDX_INFO_PARTS : Fld := ⟨0x60010C, 10, 4⟩
abbrev VEC_IDX_INFO_PASS_RUNNING : Fld := ⟨0x60010C, 11, 11⟩
abbrev VEC_IDX_INFO_COMPOSITION : Fld := ⟨0x60010C, 23, 12⟩
abbrev VEC_IDX_INFO_ANCHOR : Fld := ⟨0x60010C, 29, 24⟩
abbrev VEC_IDX_LIVE_COUNT : Fld := ⟨0x600110, 31, 0⟩
abbrev VEC_IDX_LIVE : Fld := F.VEC_IDX_LIVE_COUNT
abbrev VEC_IDX_TOMB_COUNT : Fld := ⟨0x600114, 31, 0⟩
abbrev VEC_IDX_TOMB : Fld := F.VEC_IDX_TOMB_COUNT
abbrev VEC_IDX_PASS_PASS : Fld := ⟨0x600118, 15, 0⟩
abbrev VEC_IDX_PASS : Fld := F.VEC_IDX_PASS_PASS
abbrev VEC_IDX_PROGRESS_NODES : Fld := ⟨0x60011C, 31, 0⟩
abbrev VEC_IDX_PROGRESS : Fld := F.VEC_IDX_PROGRESS_NODES
abbrev VEC_IDX_PEND_ENTRIES : Fld := ⟨0x600120, 31, 0⟩
abbrev VEC_IDX_PEND : Fld := F.VEC_IDX_PEND_ENTRIES
abbrev VEC_REPAIR_CFG_RATE : Fld := ⟨0x600124, 11, 0⟩
abbrev VEC_REPAIR_CFG_CLASS : Fld := ⟨0x600124, 15, 12⟩
abbrev VEC_COUNT_SEARCH_COUNT : Fld := ⟨0x600128, 31, 0⟩
abbrev VEC_COUNT_SEARCH : Fld := F.VEC_COUNT_SEARCH_COUNT
abbrev VEC_COUNT_EXPAND_COUNT : Fld := ⟨0x60012C, 31, 0⟩
abbrev VEC_COUNT_EXPAND : Fld := F.VEC_COUNT_EXPAND_COUNT
abbrev VEC_COUNT_RERANK_COUNT : Fld := ⟨0x600130, 31, 0⟩
abbrev VEC_COUNT_RERANK : Fld := F.VEC_COUNT_RERANK_COUNT
abbrev VEC_COUNT_PARTIAL_COUNT : Fld := ⟨0x600134, 31, 0⟩
abbrev VEC_COUNT_PARTIAL : Fld := F.VEC_COUNT_PARTIAL_COUNT
abbrev VEC_COUNT_UNREADABLE_COUNT : Fld := ⟨0x600138, 31, 0⟩
abbrev VEC_COUNT_UNREADABLE : Fld := F.VEC_COUNT_UNREADABLE_COUNT
abbrev VEC_COUNT_PEND_DROP_COUNT : Fld := ⟨0x60013C, 31, 0⟩
abbrev VEC_COUNT_PEND_DROP : Fld := F.VEC_COUNT_PEND_DROP_COUNT
abbrev VEC_EVENT_PASS_DONE : Fld := ⟨0x600140, 0, 0⟩
abbrev VEC_EVENT_PASS_ABANDONED : Fld := ⟨0x600140, 1, 1⟩
abbrev VEC_EVENT_UNREADABLE : Fld := ⟨0x600140, 2, 2⟩
abbrev VEC_EVENT_PEND_HIGH : Fld := ⟨0x600140, 3, 3⟩
abbrev VEC_EVENT_PEND_DROP : Fld := ⟨0x600140, 4, 4⟩
abbrev VEC_EVENT_VISITED_FULL : Fld := ⟨0x600140, 5, 5⟩
abbrev VEC_EVENT_WALK_WAIT : Fld := ⟨0x600140, 6, 6⟩
abbrev VEC_EVENT_EN_EN : Fld := ⟨0x600144, 6, 0⟩
abbrev VEC_EVENT_EN : Fld := F.VEC_EVENT_EN_EN

/-! R365, spec/09_replay_and_kv.md -/
abbrev RPL_STATUS_BUFFERS : Fld := ⟨0x600200, 8, 0⟩
abbrev RPL_STATUS : Fld := F.RPL_STATUS_BUFFERS
abbrev RPL_BUF_SEL_BUFFER : Fld := ⟨0x600204, 7, 0⟩
abbrev RPL_BUF_SEL : Fld := F.RPL_BUF_SEL_BUFFER
abbrev RPL_BUF_INFO_DEFINED : Fld := ⟨0x600208, 0, 0⟩
abbrev RPL_BUF_INFO_SLOTS_LOG2 : Fld := ⟨0x600208, 6, 1⟩
abbrev RPL_BUF_INFO_REC_LOG2 : Fld := ⟨0x600208, 11, 7⟩
abbrev RPL_BUF_INFO_COMPOSITION : Fld := ⟨0x600208, 23, 12⟩
abbrev RPL_BUF_INFO_ANCHOR : Fld := ⟨0x600208, 29, 24⟩
abbrev RPL_BUF_HEAD_LO_HEAD : Fld := ⟨0x60020C, 31, 0⟩
abbrev RPL_BUF_HEAD_LO : Fld := F.RPL_BUF_HEAD_LO_HEAD
abbrev RPL_BUF_HEAD_HI_HEAD : Fld := ⟨0x600210, 31, 0⟩
abbrev RPL_BUF_HEAD_HI : Fld := F.RPL_BUF_HEAD_HI_HEAD
abbrev RPL_BUF_ROOT_TOTAL : Fld := ⟨0x600214, 31, 0⟩
abbrev RPL_BUF_ROOT : Fld := F.RPL_BUF_ROOT_TOTAL
abbrev RPL_BUF_MAXP_MAXP : Fld := ⟨0x600218, 31, 0⟩
abbrev RPL_BUF_MAXP : Fld := F.RPL_BUF_MAXP_MAXP
abbrev RPL_BUF_LIVE_COUNT : Fld := ⟨0x60021C, 31, 0⟩
abbrev RPL_BUF_LIVE : Fld := F.RPL_BUF_LIVE_COUNT
abbrev RPL_BUF_QUEUED_CHANGES : Fld := ⟨0x600220, 16, 0⟩
abbrev RPL_BUF_QUEUED : Fld := F.RPL_BUF_QUEUED_CHANGES
abbrev RPL_COUNT_PASSES_COUNT : Fld := ⟨0x600224, 31, 0⟩
abbrev RPL_COUNT_PASSES : Fld := F.RPL_COUNT_PASSES_COUNT
abbrev RPL_COUNT_DRAWS_COUNT : Fld := ⟨0x600228, 31, 0⟩
abbrev RPL_COUNT_DRAWS : Fld := F.RPL_COUNT_DRAWS_COUNT
abbrev RPL_COUNT_SKIPPED_COUNT : Fld := ⟨0x60022C, 31, 0⟩
abbrev RPL_COUNT_SKIPPED : Fld := F.RPL_COUNT_SKIPPED_COUNT
abbrev RPL_COUNT_PRIO_BAD_COUNT : Fld := ⟨0x600230, 31, 0⟩
abbrev RPL_COUNT_PRIO_BAD : Fld := F.RPL_COUNT_PRIO_BAD_COUNT
abbrev RPL_COUNT_LOST_COUNT : Fld := ⟨0x600234, 31, 0⟩
abbrev RPL_COUNT_LOST : Fld := F.RPL_COUNT_LOST_COUNT
abbrev RPL_EVENT_PRIO_BAD : Fld := ⟨0x600238, 0, 0⟩
abbrev RPL_EVENT_DRAW_LOST : Fld := ⟨0x600238, 1, 1⟩
abbrev RPL_EVENT_INSERT_WAIT : Fld := ⟨0x600238, 2, 2⟩
abbrev RPL_EVENT_EN_EN : Fld := ⟨0x60023C, 2, 0⟩
abbrev RPL_EVENT_EN : Fld := F.RPL_EVENT_EN_EN
abbrev KVP_STATUS_POOLS : Fld := ⟨0x600300, 6, 0⟩
abbrev KVP_STATUS : Fld := F.KVP_STATUS_POOLS
abbrev KVP_POOL_SEL_POOL : Fld := ⟨0x600304, 5, 0⟩
abbrev KVP_POOL_SEL : Fld := F.KVP_POOL_SEL_POOL
abbrev KVP_POOL_INFO_DEFINED : Fld := ⟨0x600308, 0, 0⟩
abbrev KVP_POOL_INFO_TOKEN_LOG2 : Fld := ⟨0x600308, 5, 1⟩
abbrev KVP_POOL_INFO_COMPOSITION : Fld := ⟨0x600308, 23, 12⟩
abbrev KVP_POOL_INFO_ANCHOR : Fld := ⟨0x600308, 29, 24⟩
abbrev KVP_POOL_FREE_FRAMES : Fld := ⟨0x60030C, 26, 0⟩
abbrev KVP_POOL_FREE : Fld := F.KVP_POOL_FREE_FRAMES
abbrev KVP_POOL_SPILLED_PAGES : Fld := ⟨0x600310, 26, 0⟩
abbrev KVP_POOL_SPILLED : Fld := F.KVP_POOL_SPILLED_PAGES
abbrev KVP_POOL_SEQS_OWNED : Fld := ⟨0x600314, 20, 0⟩
abbrev KVP_POOL_SEQS : Fld := F.KVP_POOL_SEQS_OWNED
abbrev KVP_CFG_LOCK_MS : Fld := ⟨0x600318, 15, 0⟩
abbrev KVP_CFG_EVICT_AGE : Fld := ⟨0x600318, 23, 16⟩
abbrev KVP_HANDOVER_CFG_TIMEOUT_US : Fld := ⟨0x60031C, 15, 0⟩
abbrev KVP_HANDOVER_CFG_RETRIES : Fld := ⟨0x60031C, 18, 16⟩
abbrev KVP_COUNT_EVICT_COUNT : Fld := ⟨0x600320, 31, 0⟩
abbrev KVP_COUNT_EVICT : Fld := F.KVP_COUNT_EVICT_COUNT
abbrev KVP_COUNT_UNSPILL_COUNT : Fld := ⟨0x600324, 31, 0⟩
abbrev KVP_COUNT_UNSPILL : Fld := F.KVP_COUNT_UNSPILL_COUNT
abbrev KVP_COUNT_COW_COUNT : Fld := ⟨0x600328, 31, 0⟩
abbrev KVP_COUNT_COW : Fld := F.KVP_COUNT_COW_COUNT
abbrev KVP_COUNT_FORWARD_COUNT : Fld := ⟨0x60032C, 31, 0⟩
abbrev KVP_COUNT_FORWARD : Fld := F.KVP_COUNT_FORWARD_COUNT
abbrev KVP_RESOLVE_SEL_ENTRY : Fld := ⟨0x600330, 1, 0⟩
abbrev KVP_RESOLVE_SEL : Fld := F.KVP_RESOLVE_SEL_ENTRY
abbrev KVP_RESOLVE_SEQ_SEQ : Fld := ⟨0x600334, 31, 0⟩
abbrev KVP_RESOLVE_SEQ : Fld := F.KVP_RESOLVE_SEQ_SEQ
abbrev KVP_RESOLVE_LOG_WINNER : Fld := ⟨0x600338, 5, 0⟩
abbrev KVP_RESOLVE_LOG_OTHER : Fld := ⟨0x600338, 11, 6⟩
abbrev KVP_RESOLVE_LOG_ROW : Fld := ⟨0x600338, 14, 12⟩
abbrev KVP_RESOLVE_LOG_VALID : Fld := ⟨0x600338, 15, 15⟩
abbrev KVP_RESOLVE_LOG_TRUNCATED : Fld := ⟨0x600338, 31, 16⟩
abbrev KVP_RESOLVE_TOKEN_TOKEN : Fld := ⟨0x60033C, 31, 0⟩
abbrev KVP_RESOLVE_TOKEN : Fld := F.KVP_RESOLVE_TOKEN_TOKEN
abbrev KVP_EVENT_POOL_SHORT : Fld := ⟨0x600340, 0, 0⟩
abbrev KVP_EVENT_LOCK_EXPIRED : Fld := ⟨0x600340, 1, 1⟩
abbrev KVP_EVENT_RESOLVED : Fld := ⟨0x600340, 2, 2⟩
abbrev KVP_EVENT_BOTH_RENOUNCED : Fld := ⟨0x600340, 3, 3⟩
abbrev KVP_EVENT_CHAIN_LONG : Fld := ⟨0x600340, 4, 4⟩
abbrev KVP_EVENT_SPILL_LOW : Fld := ⟨0x600340, 5, 5⟩
abbrev KVP_EVENT_EN_EN : Fld := ⟨0x600344, 5, 0⟩
abbrev KVP_EVENT_EN : Fld := F.KVP_EVENT_EN_EN

/-! R408, spec/10_hxl_fabric.md -/
abbrev HXL_ID_MEMBER : Fld := ⟨0x700000, 5, 0⟩
abbrev HXL_ID_RACK : Fld := ⟨0x700000, 11, 6⟩
abbrev HXL_PORTS_UP_UP : Fld := ⟨0x700004, 15, 0⟩
abbrev HXL_PORTS_UP_FENCED : Fld := ⟨0x700004, 31, 16⟩
abbrev HXL_PORT_SEL_PORT : Fld := ⟨0x700008, 3, 0⟩
abbrev HXL_PORT_SEL : Fld := F.HXL_PORT_SEL_PORT
abbrev HXL_PORT_CFG_EN : Fld := ⟨0x70000C, 0, 0⟩
abbrev HXL_PORT_CFG_KIND : Fld := ⟨0x70000C, 2, 1⟩
abbrev HXL_PORT_CFG_NODE_FORM : Fld := ⟨0x70000C, 3, 3⟩
abbrev HXL_PORT_CFG_ENC_REQ : Fld := ⟨0x70000C, 4, 4⟩
abbrev HXL_PORT_CTRL_RETRAIN : Fld := ⟨0x700010, 0, 0⟩
abbrev HXL_PORT_CTRL_RESET : Fld := ⟨0x700010, 1, 1⟩
abbrev HXL_PORT_STATUS_STATE : Fld := ⟨0x700014, 2, 0⟩
abbrev HXL_PORT_STATUS_PARTNER_KIND : Fld := ⟨0x700014, 4, 3⟩
abbrev HXL_PORT_STATUS_ENC_ON : Fld := ⟨0x700014, 5, 5⟩
abbrev HXL_PORT_STATUS_KEY_PHASE : Fld := ⟨0x700014, 6, 6⟩
abbrev HXL_PORT_STATUS_LANES_REVERSED : Fld := ⟨0x700014, 7, 7⟩
abbrev HXL_PORT_STATUS_POLARITY : Fld := ⟨0x700014, 11, 8⟩
abbrev HXL_PORT_STATUS_FAIL_CODE : Fld := ⟨0x700014, 15, 12⟩
abbrev HXL_PORT_STATUS_PARTNER_ID : Fld := ⟨0x700014, 30, 16⟩
abbrev HXL_PORT_STATUS_FENCED : Fld := ⟨0x700014, 31, 31⟩
abbrev HXL_PORT_DELAY_DELAY : Fld := ⟨0x700018, 15, 0⟩
abbrev HXL_PORT_DELAY : Fld := F.HXL_PORT_DELAY_DELAY
abbrev HXL_PORT_FEC_CORR_COUNT : Fld := ⟨0x70001C, 31, 0⟩
abbrev HXL_PORT_FEC_CORR : Fld := F.HXL_PORT_FEC_CORR_COUNT
abbrev HXL_PORT_FEC_UNCORR_COUNT : Fld := ⟨0x700020, 31, 0⟩
abbrev HXL_PORT_FEC_UNCORR : Fld := F.HXL_PORT_FEC_UNCORR_COUNT
abbrev HXL_PORT_CRC_COUNT : Fld := ⟨0x700024, 31, 0⟩
abbrev HXL_PORT_CRC : Fld := F.HXL_PORT_CRC_COUNT
abbrev HXL_PORT_REPLAY_COUNT : Fld := ⟨0x700028, 31, 0⟩
abbrev HXL_PORT_REPLAY : Fld := F.HXL_PORT_REPLAY_COUNT
abbrev HXL_PORT_RETRAINS_COUNT : Fld := ⟨0x70002C, 15, 0⟩
abbrev HXL_PORT_RETRAINS : Fld := F.HXL_PORT_RETRAINS_COUNT
abbrev HXL_PORT_CRED_SEL_VC : Fld := ⟨0x700030, 2, 0⟩
abbrev HXL_PORT_CRED_SEL : Fld := F.HXL_PORT_CRED_SEL_VC
abbrev HXL_PORT_CRED_AVAIL : Fld := ⟨0x700034, 15, 0⟩
abbrev HXL_PORT_CRED_ADVERT : Fld := ⟨0x700034, 31, 16⟩
abbrev HXL_PORT_MSG_BAD_COUNT : Fld := ⟨0x700038, 31, 0⟩
abbrev HXL_PORT_MSG_BAD : Fld := F.HXL_PORT_MSG_BAD_COUNT
abbrev HXL_PORT_MISS_ABORT_MISS : Fld := ⟨0x70003C, 15, 0⟩
abbrev HXL_PORT_MISS_RELEASE_STALE : Fld := ⟨0x70003C, 31, 16⟩
abbrev HXL_PORT_CMD_OUT_CREDITS : Fld := ⟨0x700040, 16, 0⟩
abbrev HXL_PORT_CMD_OUT : Fld := F.HXL_PORT_CMD_OUT_CREDITS
abbrev HXL_ROUTE_SEL_MEMBER : Fld := ⟨0x700044, 5, 0⟩
abbrev HXL_ROUTE_SEL : Fld := F.HXL_ROUTE_SEL_MEMBER
abbrev HXL_ROUTE_PORTS : Fld := ⟨0x700048, 15, 0⟩
abbrev HXL_ROUTE_DIST : Fld := ⟨0x700048, 18, 16⟩
abbrev HXL_EP_SEL_EP : Fld := ⟨0x70004C, 8, 0⟩
abbrev HXL_EP_SEL : Fld := F.HXL_EP_SEL_EP
abbrev HXL_EP_ROUTE_MEMBER1 : Fld := ⟨0x700050, 5, 0⟩
abbrev HXL_EP_ROUTE_PORT1 : Fld := ⟨0x700050, 9, 6⟩
abbrev HXL_EP_ROUTE_VALID1 : Fld := ⟨0x700050, 10, 10⟩
abbrev HXL_EP_ROUTE_MEMBER2 : Fld := ⟨0x700050, 16, 11⟩
abbrev HXL_EP_ROUTE_PORT2 : Fld := ⟨0x700050, 20, 17⟩
abbrev HXL_EP_ROUTE_VALID2 : Fld := ⟨0x700050, 21, 21⟩
abbrev HXL_RACK_SEL_RACK : Fld := ⟨0x700054, 5, 0⟩
abbrev HXL_RACK_SEL : Fld := F.HXL_RACK_SEL_RACK
abbrev HXL_RACK_ROUTE_PORTS : Fld := ⟨0x700058, 15, 0⟩
abbrev HXL_RACK_ROUTE : Fld := F.HXL_RACK_ROUTE_PORTS
abbrev HXL_COMBINE_MODE : Fld := ⟨0x70005C, 1, 0⟩
abbrev HXL_COMBINE_ACTIVE : Fld := ⟨0x70005C, 2, 2⟩
abbrev HXL_COMBINED_COUNT : Fld := ⟨0x700060, 31, 0⟩
abbrev HXL_COMBINED : Fld := F.HXL_COMBINED_COUNT
abbrev HXL_NO_ROUTE_COUNT : Fld := ⟨0x700064, 31, 0⟩
abbrev HXL_NO_ROUTE : Fld := F.HXL_NO_ROUTE_COUNT
abbrev HXL_EVENT_PORT_UP : Fld := ⟨0x700068, 0, 0⟩
abbrev HXL_EVENT_PORT_DOWN : Fld := ⟨0x700068, 1, 1⟩
abbrev HXL_EVENT_RETRAIN : Fld := ⟨0x700068, 2, 2⟩
abbrev HXL_EVENT_AUTH_FAIL : Fld := ⟨0x700068, 3, 3⟩
abbrev HXL_EVENT_MSG_BAD : Fld := ⟨0x700068, 4, 4⟩
abbrev HXL_EVENT_ROUTE_DRAIN : Fld := ⟨0x700068, 5, 5⟩
abbrev HXL_EVENT_NO_ROUTE : Fld := ⟨0x700068, 6, 6⟩
abbrev HXL_EVENT_CMD_MISS : Fld := ⟨0x700068, 7, 7⟩
abbrev HXL_EVENT_EN_EN : Fld := ⟨0x70006C, 7, 0⟩
abbrev HXL_EVENT_EN : Fld := F.HXL_EVENT_EN_EN

/-! R437, spec/11_coherence_and_memory_model.md -/
abbrev COH_STATUS_SF_USED : Fld := ⟨0x800000, 20, 0⟩
abbrev COH_STATUS_RECLAIM_BUSY : Fld := ⟨0x800000, 21, 21⟩
abbrev COH_HOLD_NS : Fld := ⟨0x800004, 11, 0⟩
abbrev COH_HOLD : Fld := F.COH_HOLD_NS
abbrev COH_SNOOP_CFG_TIMEOUT_US : Fld := ⟨0x800008, 15, 0⟩
abbrev COH_SNOOP_CFG : Fld := F.COH_SNOOP_CFG_TIMEOUT_US
abbrev COH_SF_ALLOC_COUNT : Fld := ⟨0x80000C, 31, 0⟩
abbrev COH_SF_ALLOC : Fld := F.COH_SF_ALLOC_COUNT
abbrev COH_SF_BACKINV_COUNT : Fld := ⟨0x800010, 31, 0⟩
abbrev COH_SF_BACKINV : Fld := F.COH_SF_BACKINV_COUNT
abbrev COH_INV_SENT_COUNT : Fld := ⟨0x800014, 31, 0⟩
abbrev COH_INV_SENT : Fld := F.COH_INV_SENT_COUNT
abbrev COH_WB_CROSS_COUNT : Fld := ⟨0x800018, 31, 0⟩
abbrev COH_WB_CROSS : Fld := F.COH_WB_CROSS_COUNT
abbrev COH_RECLAIM_POISONED_COUNT : Fld := ⟨0x80001C, 31, 0⟩
abbrev COH_RECLAIM_POISONED : Fld := F.COH_RECLAIM_POISONED_COUNT
abbrev COH_AGENT_SEL_INDEX : Fld := ⟨0x800020, 8, 0⟩
abbrev COH_AGENT_SEL : Fld := F.COH_AGENT_SEL_INDEX
abbrev COH_AGENT_STATUS_STATE : Fld := ⟨0x800024, 1, 0⟩
abbrev COH_AGENT_STATUS_BY_TIMEOUT : Fld := ⟨0x800024, 2, 2⟩
abbrev COH_AGENT_HELD_ENTRIES : Fld := ⟨0x800028, 20, 0⟩
abbrev COH_AGENT_HELD : Fld := F.COH_AGENT_HELD_ENTRIES
abbrev COH_AGENT_CTRL_INDEX : Fld := ⟨0x80002C, 8, 0⟩
abbrev COH_AGENT_CTRL_DECLARE : Fld := ⟨0x80002C, 9, 9⟩
abbrev COH_AGENT_CTRL_REVIVE : Fld := ⟨0x80002C, 10, 10⟩
abbrev COH_PROBE_ADDR_LO_ADDR : Fld := ⟨0x800030, 31, 7⟩
abbrev COH_PROBE_ADDR_LO : Fld := F.COH_PROBE_ADDR_LO_ADDR
abbrev COH_PROBE_ADDR_HI_ADDR : Fld := ⟨0x800034, 23, 0⟩
abbrev COH_PROBE_ADDR_HI : Fld := F.COH_PROBE_ADDR_HI_ADDR
abbrev COH_PROBE_CTRL_PROBE : Fld := ⟨0x800038, 0, 0⟩
abbrev COH_PROBE_CTRL : Fld := F.COH_PROBE_CTRL_PROBE
abbrev COH_PROBE_RESULT_DONE : Fld := ⟨0x80003C, 0, 0⟩
abbrev COH_PROBE_RESULT_STATE : Fld := ⟨0x80003C, 2, 1⟩
abbrev COH_PROBE_RESULT_COARSE : Fld := ⟨0x80003C, 3, 3⟩
abbrev COH_PROBE_RESULT_POINTERS : Fld := ⟨0x80003C, 6, 4⟩
abbrev COH_PROBE_RESULT_WAY : Fld := ⟨0x80003C, 10, 7⟩
abbrev COH_PROBE_HOLDERS0_HOLDERS : Fld := ⟨0x800040, 31, 0⟩
abbrev COH_PROBE_HOLDERS0 : Fld := F.COH_PROBE_HOLDERS0_HOLDERS
abbrev COH_PROBE_HOLDERS1_HOLDERS : Fld := ⟨0x800044, 31, 0⟩
abbrev COH_PROBE_HOLDERS1 : Fld := F.COH_PROBE_HOLDERS1_HOLDERS
abbrev COH_SHADOW_SLOT : Fld := ⟨0x800048, 5, 0⟩
abbrev COH_SHADOW_VALID : Fld := ⟨0x800048, 6, 6⟩
abbrev COH_SHADOW_USED_ENTRIES : Fld := ⟨0x80004C, 20, 0⟩
abbrev COH_SHADOW_USED : Fld := F.COH_SHADOW_USED_ENTRIES
abbrev COH_EVENT_AGENT_DEAD : Fld := ⟨0x800050, 0, 0⟩
abbrev COH_EVENT_RECLAIM_DONE : Fld := ⟨0x800050, 1, 1⟩
abbrev COH_EVENT_WB_REFUSED : Fld := ⟨0x800050, 2, 2⟩
abbrev COH_EVENT_SF_HIGH : Fld := ⟨0x800050, 3, 3⟩
abbrev COH_EVENT_EN_EN : Fld := ⟨0x800054, 3, 0⟩
abbrev COH_EVENT_EN : Fld := F.COH_EVENT_EN_EN

/-! R465, spec/12_gates_and_fences.md -/
abbrev GATE_STATUS_BLOCKS : Fld := ⟨0x900000, 10, 0⟩
abbrev GATE_STATUS_LOST : Fld := ⟨0x900000, 21, 11⟩
abbrev GATE_WAITERS_COUNT : Fld := ⟨0x900004, 14, 0⟩
abbrev GATE_WAITERS : Fld := F.GATE_WAITERS_COUNT
abbrev GATE_BLK_SEL_BLOCK : Fld := ⟨0x900008, 9, 0⟩
abbrev GATE_BLK_SEL : Fld := F.GATE_BLK_SEL_BLOCK
abbrev GATE_BLK_CFG_VALID : Fld := ⟨0x90000C, 0, 0⟩
abbrev GATE_BLK_CFG_OWNER_CTX : Fld := ⟨0x90000C, 12, 1⟩
abbrev GATE_BLK_CFG_COMPOSITION : Fld := ⟨0x90000C, 27, 16⟩
abbrev GATE_BLK_CFG_LOST : Fld := ⟨0x90000C, 28, 28⟩
abbrev GATE_BLK_APPLY_APPLY : Fld := ⟨0x900010, 0, 0⟩
abbrev GATE_BLK_APPLY : Fld := F.GATE_BLK_APPLY_APPLY
abbrev GATE_WD_SEL_CTX : Fld := ⟨0x900014, 11, 0⟩
abbrev GATE_WD_SEL : Fld := F.GATE_WD_SEL_CTX
abbrev GATE_WD_MS : Fld := ⟨0x900018, 15, 0⟩
abbrev GATE_WD : Fld := F.GATE_WD_MS
abbrev GATE_FENCES_INFLIGHT : Fld := ⟨0x90001C, 9, 0⟩
abbrev GATE_FENCES : Fld := F.GATE_FENCES_INFLIGHT
abbrev GATE_COUNT_SIGNAL_COUNT : Fld := ⟨0x900020, 31, 0⟩
abbrev GATE_COUNT_SIGNAL : Fld := F.GATE_COUNT_SIGNAL_COUNT
abbrev GATE_COUNT_WAKE_COUNT : Fld := ⟨0x900024, 31, 0⟩
abbrev GATE_COUNT_WAKE : Fld := F.GATE_COUNT_WAKE_COUNT
abbrev GATE_COUNT_WATCHDOG_COUNT : Fld := ⟨0x900028, 31, 0⟩
abbrev GATE_COUNT_WATCHDOG : Fld := F.GATE_COUNT_WATCHDOG_COUNT
abbrev GATE_COUNT_REROUTE_COUNT : Fld := ⟨0x90002C, 31, 0⟩
abbrev GATE_COUNT_REROUTE : Fld := F.GATE_COUNT_REROUTE_COUNT
abbrev GATE_COUNT_DUP_ACK_COUNT : Fld := ⟨0x900030, 31, 0⟩
abbrev GATE_COUNT_DUP_ACK : Fld := F.GATE_COUNT_DUP_ACK_COUNT
abbrev GATE_WD_LAST_GATE : Fld := ⟨0x900034, 23, 0⟩
abbrev GATE_WD_LAST_VALID : Fld := ⟨0x900034, 31, 31⟩
abbrev GATE_DBG_GATE_INDEX : Fld := ⟨0x900038, 17, 0⟩
abbrev GATE_DBG_GATE : Fld := F.GATE_DBG_GATE_INDEX
abbrev GATE_DBG_VALUE_VALUE : Fld := ⟨0x90003C, 31, 0⟩
abbrev GATE_DBG_VALUE : Fld := F.GATE_DBG_VALUE_VALUE
abbrev GATE_DBG_CTRL_READ : Fld := ⟨0x900040, 0, 0⟩
abbrev GATE_DBG_CTRL_SET : Fld := ⟨0x900040, 1, 1⟩
abbrev GATE_DBG_STATUS_DONE : Fld := ⟨0x900044, 0, 0⟩
abbrev GATE_DBG_STATUS_REFUSED : Fld := ⟨0x900044, 1, 1⟩
abbrev GATE_COUNT_HAND_SET_COUNT : Fld := ⟨0x900048, 31, 0⟩
abbrev GATE_COUNT_HAND_SET : Fld := F.GATE_COUNT_HAND_SET_COUNT
abbrev GATE_EVENT_WATCHDOG : Fld := ⟨0x90004C, 0, 0⟩
abbrev GATE_EVENT_CLEARED : Fld := ⟨0x90004C, 1, 1⟩
abbrev GATE_EVENT_LOST : Fld := ⟨0x90004C, 2, 2⟩
abbrev GATE_EVENT_HAND_SET : Fld := ⟨0x90004C, 3, 3⟩
abbrev GATE_EVENT_WAITERS_HIGH : Fld := ⟨0x90004C, 4, 4⟩
abbrev GATE_EVENT_FENCE_REROUTE : Fld := ⟨0x90004C, 5, 5⟩
abbrev GATE_EVENT_EN_EN : Fld := ⟨0x900050, 5, 0⟩
abbrev GATE_EVENT_EN : Fld := F.GATE_EVENT_EN_EN

/-! R493, spec/13_reliability.md -/
abbrev ERR_STATUS_FROZEN : Fld := ⟨0xA00000, 0, 0⟩
abbrev ERR_STATUS_FATAL : Fld := ⟨0xA00000, 1, 1⟩
abbrev ERR_STATUS_INJ_BUSY : Fld := ⟨0xA00000, 2, 2⟩
abbrev ERR_STATUS_GROOM_BUSY : Fld := ⟨0xA00000, 3, 3⟩
abbrev ERR_COUNT_CE_COUNT : Fld := ⟨0xA00004, 31, 0⟩
abbrev ERR_COUNT_CE : Fld := F.ERR_COUNT_CE_COUNT
abbrev ERR_COUNT_RECOVERED_COUNT : Fld := ⟨0xA00008, 31, 0⟩
abbrev ERR_COUNT_RECOVERED : Fld := F.ERR_COUNT_RECOVERED_COUNT
abbrev ERR_COUNT_CONTAINED_COUNT : Fld := ⟨0xA0000C, 31, 0⟩
abbrev ERR_COUNT_CONTAINED : Fld := F.ERR_COUNT_CONTAINED_COUNT
abbrev ERR_COUNT_UNIT_COUNT : Fld := ⟨0xA00010, 31, 0⟩
abbrev ERR_COUNT_UNIT : Fld := F.ERR_COUNT_UNIT_COUNT
abbrev ERR_COUNT_WIRE_COUNT : Fld := ⟨0xA00014, 31, 0⟩
abbrev ERR_COUNT_WIRE : Fld := F.ERR_COUNT_WIRE_COUNT
abbrev ERR_COUNT_DIVERGENT_COUNT : Fld := ⟨0xA00018, 31, 0⟩
abbrev ERR_COUNT_DIVERGENT : Fld := F.ERR_COUNT_DIVERGENT_COUNT
abbrev ERR_COUNT_GEN_REPAIR_COUNT : Fld := ⟨0xA0001C, 31, 0⟩
abbrev ERR_COUNT_GEN_REPAIR : Fld := F.ERR_COUNT_GEN_REPAIR_COUNT
abbrev ERR_COUNT_REBUILT_COUNT : Fld := ⟨0xA00020, 31, 0⟩
abbrev ERR_COUNT_REBUILT : Fld := F.ERR_COUNT_REBUILT_COUNT
abbrev ERR_CE_CFG_THRESH : Fld := ⟨0xA00024, 7, 0⟩
abbrev ERR_CE_CFG_WINDOW : Fld := ⟨0xA00024, 15, 8⟩
abbrev ERR_GROOM_CFG_HBM_HOURS : Fld := ⟨0xA00028, 7, 0⟩
abbrev ERR_GROOM_CFG_DDR_HOURS : Fld := ⟨0xA00028, 15, 8⟩
abbrev ERR_GROOM_CFG_FLASH_DAYS : Fld := ⟨0xA00028, 23, 16⟩
abbrev ERR_GROOM_CFG_CLASS : Fld := ⟨0xA00028, 27, 24⟩
abbrev ERR_GROOM_CFG_COMPARE : Fld := ⟨0xA00028, 28, 28⟩
abbrev ERR_GROOM_CFG_PAUSE : Fld := ⟨0xA00028, 29, 29⟩
abbrev ERR_GROOM_PASSES_HBM : Fld := ⟨0xA0002C, 7, 0⟩
abbrev ERR_GROOM_PASSES_DDR : Fld := ⟨0xA0002C, 15, 8⟩
abbrev ERR_GROOM_PASSES_FLASH : Fld := ⟨0xA0002C, 23, 16⟩
abbrev ERR_GROOM_REPAIRS_COUNT : Fld := ⟨0xA00030, 31, 0⟩
abbrev ERR_GROOM_REPAIRS : Fld := F.ERR_GROOM_REPAIRS_COUNT
abbrev ERR_SITZ_STATUS_VALID : Fld := ⟨0xA00034, 6, 0⟩
abbrev ERR_SITZ_STATUS_FROZEN : Fld := ⟨0xA00034, 7, 7⟩
abbrev ERR_SITZ_STATUS_LOST : Fld := ⟨0xA00034, 31, 16⟩
abbrev ERR_SITZ_SEL_ENTRY : Fld := ⟨0xA00038, 5, 0⟩
abbrev ERR_SITZ_SEL : Fld := F.ERR_SITZ_SEL_ENTRY
abbrev ERR_SITZ_CTRL_UNFREEZE : Fld := ⟨0xA0003C, 0, 0⟩
abbrev ERR_SITZ_CTRL_CLEAR : Fld := ⟨0xA0003C, 1, 1⟩
abbrev ERR_SITZ_W_WORD : Fld := ⟨0xA00040, 31, 0⟩
abbrev ERR_FIRST_W_WORD : Fld := ⟨0xA00060, 31, 0⟩
abbrev ERR_FIRST_CTRL_CLEAR : Fld := ⟨0xA00080, 0, 0⟩
abbrev ERR_FIRST_CTRL : Fld := F.ERR_FIRST_CTRL_CLEAR
abbrev ERR_CHK_SEL_CHK : Fld := ⟨0xA00084, 11, 0⟩
abbrev ERR_CHK_SEL : Fld := F.ERR_CHK_SEL_CHK
abbrev ERR_CHK_STATUS_WIRE : Fld := ⟨0xA00088, 1, 0⟩
abbrev ERR_CHK_STATUS_SEVERITY : Fld := ⟨0xA00088, 4, 2⟩
abbrev ERR_CHK_STATUS_MASKED : Fld := ⟨0xA00088, 5, 5⟩
abbrev ERR_CHK_STATUS_SOURCE : Fld := ⟨0xA00088, 15, 8⟩
abbrev ERR_CHK_STATUS_COUNT : Fld := ⟨0xA00088, 31, 16⟩
abbrev ERR_UNIT_SEL_KIND : Fld := ⟨0xA0008C, 3, 0⟩
abbrev ERR_UNIT_SEL_INDEX : Fld := ⟨0xA0008C, 15, 4⟩
abbrev ERR_UNIT_STATUS_OFFLINE : Fld := ⟨0xA00090, 0, 0⟩
abbrev ERR_UNIT_STATUS_RETIRED : Fld := ⟨0xA00090, 1, 1⟩
abbrev ERR_UNIT_STATUS_SUSPECT : Fld := ⟨0xA00090, 2, 2⟩
abbrev ERR_UNIT_STATUS_CAUSE : Fld := ⟨0xA00090, 15, 8⟩
abbrev ERR_UNIT_STATUS_ERRORS : Fld := ⟨0xA00090, 31, 16⟩
abbrev ERR_UNIT_CTRL_ONLINE : Fld := ⟨0xA00094, 0, 0⟩
abbrev ERR_UNIT_CTRL : Fld := F.ERR_UNIT_CTRL_ONLINE
abbrev ERR_INJ_CFG_TARGET : Fld := ⟨0xA00098, 3, 0⟩
abbrev ERR_INJ_CFG_SIDE : Fld := ⟨0xA00098, 5, 4⟩
abbrev ERR_INJ_CFG_PATTERN : Fld := ⟨0xA00098, 7, 6⟩
abbrev ERR_INJ_CFG_FATAL_OK : Fld := ⟨0xA00098, 8, 8⟩
abbrev ERR_INJ_ADDR_LO_ADDR : Fld := ⟨0xA0009C, 31, 0⟩
abbrev ERR_INJ_ADDR_LO : Fld := F.ERR_INJ_ADDR_LO_ADDR
abbrev ERR_INJ_ADDR_HI_ADDR : Fld := ⟨0xA000A0, 23, 0⟩
abbrev ERR_INJ_ADDR_HI : Fld := F.ERR_INJ_ADDR_HI_ADDR
abbrev ERR_INJ_MASK_MASK : Fld := ⟨0xA000A4, 31, 0⟩
abbrev ERR_INJ_MASK : Fld := F.ERR_INJ_MASK_MASK
abbrev ERR_INJ_CTRL_FIRE : Fld := ⟨0xA000A8, 0, 0⟩
abbrev ERR_INJ_CTRL : Fld := F.ERR_INJ_CTRL_FIRE
abbrev ERR_INJ_STATUS_DONE : Fld := ⟨0xA000AC, 0, 0⟩
abbrev ERR_INJ_STATUS_REFUSED : Fld := ⟨0xA000AC, 1, 1⟩
abbrev ERR_EVENT_CE_STORM : Fld := ⟨0xA000B0, 0, 0⟩
abbrev ERR_EVENT_RECOVERED : Fld := ⟨0xA000B0, 1, 1⟩
abbrev ERR_EVENT_CONTAINED : Fld := ⟨0xA000B0, 2, 2⟩
abbrev ERR_EVENT_DIVERGENT : Fld := ⟨0xA000B0, 3, 3⟩
abbrev ERR_EVENT_UNIT_OFFLINE : Fld := ⟨0xA000B0, 4, 4⟩
abbrev ERR_EVENT_WIRE : Fld := ⟨0xA000B0, 5, 5⟩
abbrev ERR_EVENT_GROOM_PASS : Fld := ⟨0xA000B0, 6, 6⟩
abbrev ERR_EVENT_SITZ_FROZEN : Fld := ⟨0xA000B0, 7, 7⟩
abbrev ERR_EVENT_INJ_DONE : Fld := ⟨0xA000B0, 8, 8⟩
abbrev ERR_EVENT_EN_EN : Fld := ⟨0xA000B4, 8, 0⟩
abbrev ERR_EVENT_EN : Fld := F.ERR_EVENT_EN_EN

/-! R557, spec/15_lifecycle_debug_power.md -/
abbrev SEC_STATUS_LC : Fld := ⟨0xB00000, 1, 0⟩
abbrev SEC_STATUS_LC_PENDING : Fld := ⟨0xB00000, 2, 2⟩
abbrev SEC_STATUS_DBG_LEVEL : Fld := ⟨0xB00000, 4, 3⟩
abbrev SEC_STATUS_BOOT_OK : Fld := ⟨0xB00000, 5, 5⟩
abbrev SEC_STATUS_BOOT_SLOT : Fld := ⟨0xB00000, 6, 6⟩
abbrev SEC_STATUS_MANIFEST : Fld := ⟨0xB00000, 7, 7⟩
abbrev SEC_STATUS_BOOT_ERR : Fld := ⟨0xB00000, 11, 8⟩
abbrev SEC_DIE_ID_W_DIE_ID : Fld := ⟨0xB00004, 31, 0⟩
abbrev SEC_FW_VERSION_VERSION : Fld := ⟨0xB00014, 31, 0⟩
abbrev SEC_FW_VERSION : Fld := F.SEC_FW_VERSION_VERSION
abbrev SEC_SVN_FUSED : Fld := ⟨0xB00018, 6, 0⟩
abbrev SEC_SVN_IMAGE : Fld := ⟨0xB00018, 14, 8⟩
abbrev SEC_SVN_CTRL_COMMIT : Fld := ⟨0xB0001C, 0, 0⟩
abbrev SEC_SVN_CTRL : Fld := F.SEC_SVN_CTRL_COMMIT
abbrev SEC_OWNER_HASH_W_HASH : Fld := ⟨0xB00020, 31, 0⟩
abbrev SEC_LC_CTRL_PROVISION : Fld := ⟨0xB00050, 0, 0⟩
abbrev SEC_LC_CTRL : Fld := F.SEC_LC_CTRL_PROVISION
abbrev SEC_LC_RESULT_CODE : Fld := ⟨0xB00054, 3, 0⟩
abbrev SEC_LC_RESULT : Fld := F.SEC_LC_RESULT_CODE
abbrev SEC_ADMIN_PORTS_PORTS : Fld := ⟨0xB00058, 1, 0⟩
abbrev SEC_ADMIN_PORTS : Fld := F.SEC_ADMIN_PORTS_PORTS
abbrev SEC_DBG_NONCE_LO_NONCE : Fld := ⟨0xB0005C, 31, 0⟩
abbrev SEC_DBG_NONCE_LO : Fld := F.SEC_DBG_NONCE_LO_NONCE
abbrev SEC_DBG_NONCE_HI_NONCE : Fld := ⟨0xB00060, 31, 0⟩
abbrev SEC_DBG_NONCE_HI : Fld := F.SEC_DBG_NONCE_HI_NONCE
abbrev SEC_TOKEN_CTRL_SUBMIT : Fld := ⟨0xB00064, 0, 0⟩
abbrev SEC_TOKEN_CTRL_NEW_NONCE : Fld := ⟨0xB00064, 1, 1⟩
abbrev SEC_TOKEN_CTRL_LOWER : Fld := ⟨0xB00064, 2, 2⟩
abbrev SEC_TOKEN_STATUS_BUSY : Fld := ⟨0xB00068, 0, 0⟩
abbrev SEC_TOKEN_STATUS_DONE : Fld := ⟨0xB00068, 1, 1⟩
abbrev SEC_TOKEN_STATUS_CODE : Fld := ⟨0xB00068, 7, 4⟩
abbrev SEC_DBG_REMAIN_SECONDS : Fld := ⟨0xB0006C, 16, 0⟩
abbrev SEC_DBG_REMAIN : Fld := F.SEC_DBG_REMAIN_SECONDS
abbrev SEC_DBG_COMP_COMP : Fld := ⟨0xB00070, 11, 0⟩
abbrev SEC_DBG_COMP : Fld := F.SEC_DBG_COMP_COMP
abbrev SEC_TOKEN_W_WORD : Fld := ⟨0xB00100, 31, 0⟩
abbrev SEC_PWR_CTRL_TARGET : Fld := ⟨0xB001A0, 2, 0⟩
abbrev SEC_PWR_CTRL : Fld := F.SEC_PWR_CTRL_TARGET
abbrev SEC_PWR_STATUS_STATE : Fld := ⟨0xB001A4, 2, 0⟩
abbrev SEC_PWR_STATUS_BUSY : Fld := ⟨0xB001A4, 3, 3⟩
abbrev SEC_PWR_STATUS_REFUSE : Fld := ⟨0xB001A4, 7, 4⟩
abbrev SEC_KEYS_LOADED : Fld := ⟨0xB001A8, 12, 0⟩
abbrev SEC_KEYS : Fld := F.SEC_KEYS_LOADED
abbrev SEC_SESSIONS_PORTS : Fld := ⟨0xB001AC, 15, 0⟩
abbrev SEC_SESSIONS_MGMT : Fld := ⟨0xB001AC, 23, 16⟩
abbrev SEC_EVENT_TOKEN_DONE : Fld := ⟨0xB001B0, 0, 0⟩
abbrev SEC_EVENT_LEVEL_CHANGED : Fld := ⟨0xB001B0, 1, 1⟩
abbrev SEC_EVENT_LC_PENDING : Fld := ⟨0xB001B0, 2, 2⟩
abbrev SEC_EVENT_PWR_CHANGED : Fld := ⟨0xB001B0, 3, 3⟩
abbrev SEC_EVENT_SESSION_FAIL : Fld := ⟨0xB001B0, 4, 4⟩
abbrev SEC_EVENT_EN_EN : Fld := ⟨0xB001B4, 4, 0⟩
abbrev SEC_EVENT_EN : Fld := F.SEC_EVENT_EN_EN

/-! R577, spec/16_supply_and_brace.md -/
abbrev PWR_STATUS_REGION : Fld := ⟨0xC00000, 1, 0⟩
abbrev PWR_STATUS_GLIDE : Fld := ⟨0xC00000, 2, 2⟩
abbrev PWR_STATUS_BRACING : Fld := ⟨0xC00000, 3, 3⟩
abbrev PWR_STATUS_BRACE_DONE : Fld := ⟨0xC00000, 4, 4⟩
abbrev PWR_STATUS_PSU_AC_OK : Fld := ⟨0xC00000, 5, 5⟩
abbrev PWR_STATUS_STBY_FROM_VIN : Fld := ⟨0xC00000, 6, 6⟩
abbrev PWR_STATUS_LIMIT : Fld := ⟨0xC00000, 9, 7⟩
abbrev PWR_CAP_W : Fld := ⟨0xC00004, 9, 0⟩
abbrev PWR_CAP : Fld := F.PWR_CAP_W
abbrev PWR_SAG_CAP_W : Fld := ⟨0xC00008, 9, 0⟩
abbrev PWR_SAG_CAP : Fld := F.PWR_SAG_CAP_W
abbrev PWR_HOT_CAP_W : Fld := ⟨0xC0000C, 9, 0⟩
abbrev PWR_HOT_CAP : Fld := F.PWR_HOT_CAP_W
abbrev PWR_DEEP_CFG_MV : Fld := ⟨0xC00010, 13, 0⟩
abbrev PWR_DEEP_CFG : Fld := F.PWR_DEEP_CFG_MV
abbrev PWR_RESTART_MS : Fld := ⟨0xC00014, 15, 0⟩
abbrev PWR_RESTART : Fld := F.PWR_RESTART_MS
abbrev PWR_EFF_CAP_W : Fld := ⟨0xC00018, 9, 0⟩
abbrev PWR_EFF_CAP : Fld := F.PWR_EFF_CAP_W
abbrev PWR_THROTTLE_DUTY : Fld := ⟨0xC0001C, 4, 0⟩
abbrev PWR_THROTTLE_CORE_LIMIT : Fld := ⟨0xC0001C, 26, 16⟩
abbrev PWR_VIN_MV : Fld := ⟨0xC00020, 13, 0⟩
abbrev PWR_VIN : Fld := F.PWR_VIN_MV
abbrev PWR_POWER_AVG_1MS : Fld := ⟨0xC00024, 9, 0⟩
abbrev PWR_POWER_AVG_100MS : Fld := ⟨0xC00024, 25, 16⟩
abbrev PWR_VIN_MINMAX_MIN_MV : Fld := ⟨0xC00028, 13, 0⟩
abbrev PWR_VIN_MINMAX_MAX_MV : Fld := ⟨0xC00028, 29, 16⟩
abbrev PWR_ENERGY_LO_MJ : Fld := ⟨0xC0002C, 31, 0⟩
abbrev PWR_ENERGY_LO : Fld := F.PWR_ENERGY_LO_MJ
abbrev PWR_ENERGY_HI_MJ : Fld := ⟨0xC00030, 31, 0⟩
abbrev PWR_ENERGY_HI : Fld := F.PWR_ENERGY_HI_MJ
abbrev PWR_COUNT_DIST_SAG : Fld := ⟨0xC00034, 15, 0⟩
abbrev PWR_COUNT_DIST_SURGE : Fld := ⟨0xC00034, 31, 16⟩
abbrev PWR_COUNT_BRACE_COUNT : Fld := ⟨0xC00038, 15, 0⟩
abbrev PWR_COUNT_BRACE : Fld := F.PWR_COUNT_BRACE_COUNT
abbrev PWR_BRACE_LAST_CAUSE : Fld := ⟨0xC0003C, 2, 0⟩
abbrev PWR_BRACE_LAST_RESULT : Fld := ⟨0xC0003C, 4, 3⟩
abbrev PWR_BRACE_LAST_LATER : Fld := ⟨0xC0003C, 11, 5⟩
abbrev PWR_BRACE_TIME_DONE_US : Fld := ⟨0xC00040, 15, 0⟩
abbrev PWR_BRACE_TIME_FLUSH_US : Fld := ⟨0xC00040, 31, 16⟩
abbrev PWR_BRACE_BYTES_KIB : Fld := ⟨0xC00044, 19, 0⟩
abbrev PWR_BRACE_BYTES : Fld := F.PWR_BRACE_BYTES_KIB
abbrev PWR_CTRL_CLEAR_MINMAX : Fld := ⟨0xC00048, 0, 0⟩
abbrev PWR_CTRL_CLEAR_BRACE : Fld := ⟨0xC00048, 1, 1⟩
abbrev PWR_EVENT_SAG : Fld := ⟨0xC0004C, 0, 0⟩
abbrev PWR_EVENT_SURGE : Fld := ⟨0xC0004C, 1, 1⟩
abbrev PWR_EVENT_GLIDE : Fld := ⟨0xC0004C, 2, 2⟩
abbrev PWR_EVENT_CAP_UNMET : Fld := ⟨0xC0004C, 3, 3⟩
abbrev PWR_EVENT_STBY_LOST : Fld := ⟨0xC0004C, 4, 4⟩
abbrev PWR_EVENT_BRACE_RECORD : Fld := ⟨0xC0004C, 5, 5⟩
abbrev PWR_EVENT_EN_EN : Fld := ⟨0xC00050, 5, 0⟩
abbrev PWR_EVENT_EN : Fld := F.PWR_EVENT_EN_EN

/-! R602, spec/17_clocks_reset_startup.md -/
abbrev CLK_STATUS_REFCLK_OK : Fld := ⟨0xD00000, 0, 0⟩
abbrev CLK_STATUS_ROOT_LOCK : Fld := ⟨0xD00000, 1, 1⟩
abbrev CLK_STATUS_HXL_LOCK : Fld := ⟨0xD00000, 2, 2⟩
abbrev CLK_STATUS_PCIE_LOCK : Fld := ⟨0xD00000, 4, 3⟩
abbrev CLK_STATUS_STBY_OSC_OK : Fld := ⟨0xD00000, 5, 5⟩
abbrev CLK_STATUS_SSC_APPLIED : Fld := ⟨0xD00000, 9, 6⟩
abbrev CLK_STATUS_SRIS : Fld := ⟨0xD00000, 11, 10⟩
abbrev CLK_SSC_DEPTH : Fld := ⟨0xD00004, 3, 0⟩
abbrev CLK_SSC : Fld := F.CLK_SSC_DEPTH
abbrev CLK_STARTUP_STAGE : Fld := ⟨0xD00008, 3, 0⟩
abbrev CLK_STARTUP : Fld := F.CLK_STARTUP_STAGE
abbrev CLK_STARTUP_TIME_US : Fld := ⟨0xD0000C, 31, 0⟩
abbrev CLK_STARTUP_TIME : Fld := F.CLK_STARTUP_TIME_US
abbrev CLK_RESET_CAUSE_POR : Fld := ⟨0xD00010, 0, 0⟩
abbrev CLK_RESET_CAUSE_BRACE : Fld := ⟨0xD00010, 1, 1⟩
abbrev CLK_RESET_CAUSE_REQUESTED : Fld := ⟨0xD00010, 2, 2⟩
abbrev CLK_RESET_CAUSE_SYS_RST : Fld := ⟨0xD00010, 3, 3⟩
abbrev CLK_RESET_CAUSE_AFTER_FATAL : Fld := ⟨0xD00010, 4, 4⟩
abbrev CLK_RESET_CAUSE_THERMAL : Fld := ⟨0xD00010, 5, 5⟩
abbrev CLK_RESET_COUNT_COUNT : Fld := ⟨0xD00014, 15, 0⟩
abbrev CLK_RESET_COUNT : Fld := F.CLK_RESET_COUNT_COUNT
abbrev CLK_PINS_SYS_RST_N : Fld := ⟨0xD00018, 0, 0⟩
abbrev CLK_PINS_PERST0_N : Fld := ⟨0xD00018, 1, 1⟩
abbrev CLK_PINS_PERST1_N : Fld := ⟨0xD00018, 2, 2⟩
abbrev CLK_PINS_FENCE_REQ_N : Fld := ⟨0xD00018, 3, 3⟩
abbrev CLK_PINS_PSU_AC_OK : Fld := ⟨0xD00018, 4, 4⟩
abbrev CLK_PINS_TRST_N : Fld := ⟨0xD00018, 5, 5⟩
abbrev CLK_SLEW_XSPI : Fld := ⟨0xD0001C, 1, 0⟩
abbrev CLK_SLEW_I3C : Fld := ⟨0xD0001C, 3, 2⟩
abbrev CLK_SLEW_JTAG : Fld := ⟨0xD0001C, 5, 4⟩
abbrev CLK_SLEW_STATUS : Fld := ⟨0xD0001C, 7, 6⟩
abbrev CLK_MEAS_SEL_CLOCK : Fld := ⟨0xD00020, 2, 0⟩
abbrev CLK_MEAS_SEL : Fld := F.CLK_MEAS_SEL_CLOCK
abbrev CLK_MEAS_KHZ : Fld := ⟨0xD00024, 31, 0⟩
abbrev CLK_MEAS : Fld := F.CLK_MEAS_KHZ
abbrev CLK_EVENT_STARTUP_DONE : Fld := ⟨0xD00028, 0, 0⟩
abbrev CLK_EVENT_SSC_REFUSED : Fld := ⟨0xD00028, 1, 1⟩
abbrev CLK_EVENT_FENCE_REQ : Fld := ⟨0xD00028, 2, 2⟩
abbrev CLK_EVENT_PORT_RESET : Fld := ⟨0xD00028, 3, 3⟩
abbrev CLK_EVENT_EN_EN : Fld := ⟨0xD0002C, 3, 0⟩
abbrev CLK_EVENT_EN : Fld := F.CLK_EVENT_EN_EN

/-! R625, spec/18_management_and_counters.md -/
abbrev MGT_I3C_DYN_ADDR : Fld := ⟨0xE00000, 6, 0⟩
abbrev MGT_I3C_ADDR_VALID : Fld := ⟨0xE00000, 7, 7⟩
abbrev MGT_I3C_EID : Fld := ⟨0xE00000, 15, 8⟩
abbrev MGT_PCIE_EID_PORT0 : Fld := ⟨0xE00004, 7, 0⟩
abbrev MGT_PCIE_EID_PORT1 : Fld := ⟨0xE00004, 15, 8⟩
abbrev MGT_PCIE_EID_VALID : Fld := ⟨0xE00004, 17, 16⟩
abbrev MGT_FWUP_STATE : Fld := ⟨0xE00008, 2, 0⟩
abbrev MGT_FWUP_ACTIVATE_PENDING : Fld := ⟨0xE00008, 3, 3⟩
abbrev MGT_FWUP_SLOT : Fld := ⟨0xE00008, 4, 4⟩
abbrev MGT_FWUP_LAST_RESULT : Fld := ⟨0xE00008, 15, 8⟩
abbrev MGT_FWUP_VERSION_VERSION : Fld := ⟨0xE0000C, 31, 0⟩
abbrev MGT_FWUP_VERSION : Fld := F.MGT_FWUP_VERSION_VERSION
abbrev MGT_METER_SEL_COMP : Fld := ⟨0xE00010, 11, 0⟩
abbrev MGT_METER_SEL : Fld := F.MGT_METER_SEL_COMP
abbrev MGT_METER_CTRL_SNAP : Fld := ⟨0xE00014, 0, 0⟩
abbrev MGT_METER_CTRL : Fld := F.MGT_METER_CTRL_SNAP
abbrev MGT_METER_TICK_LO_FRAME : Fld := ⟨0xE00018, 31, 0⟩
abbrev MGT_METER_TICK_LO : Fld := F.MGT_METER_TICK_LO_FRAME
abbrev MGT_METER_TICK_HI_FRAME : Fld := ⟨0xE0001C, 15, 0⟩
abbrev MGT_METER_TICK_HI : Fld := F.MGT_METER_TICK_HI_FRAME
abbrev MGT_METER_LO_VALUE : Fld := ⟨0xE00020, 31, 0⟩
abbrev MGT_METER_HI_VALUE : Fld := ⟨0xE00024, 31, 0⟩
abbrev MGT_EVENT_FWUP : Fld := ⟨0xE00040, 0, 0⟩
abbrev MGT_EVENT_EVENT_DROPPED : Fld := ⟨0xE00040, 1, 1⟩
abbrev MGT_EVENT_PMC_OVF : Fld := ⟨0xE00040, 2, 2⟩
abbrev MGT_EVENT_EN_EN : Fld := ⟨0xE00044, 2, 0⟩
abbrev MGT_EVENT_EN : Fld := F.MGT_EVENT_EN_EN
abbrev PMC_CTRL_SNAP : Fld := ⟨0xE08000, 0, 0⟩
abbrev PMC_CTRL_FREEZE : Fld := ⟨0xE08000, 1, 1⟩
abbrev PMC_CTRL_UNFREEZE : Fld := ⟨0xE08000, 2, 2⟩
abbrev PMC_CTRL_CLEAR_ALL : Fld := ⟨0xE08000, 3, 3⟩
abbrev PMC_STATUS_FROZEN : Fld := ⟨0xE08004, 0, 0⟩
abbrev PMC_STATUS_SNAP_BUSY : Fld := ⟨0xE08004, 1, 1⟩
abbrev PMC_SEL_COUNTER : Fld := ⟨0xE08008, 10, 0⟩
abbrev PMC_SEL : Fld := F.PMC_SEL_COUNTER
abbrev PMC_CFG_EVENT : Fld := ⟨0xE0800C, 9, 0⟩
abbrev PMC_CFG_EN : Fld := ⟨0xE0800C, 10, 10⟩
abbrev PMC_CFG_MODE : Fld := ⟨0xE0800C, 12, 11⟩
abbrev PMC_CFG_CHAIN : Fld := ⟨0xE0800C, 13, 13⟩
abbrev PMC_CFG_FREEZE_ON_OVF : Fld := ⟨0xE0800C, 14, 14⟩
abbrev PMC_CFG_OVF : Fld := ⟨0xE0800C, 15, 15⟩
abbrev PMC_CFG_UNIT : Fld := ⟨0xE0800C, 27, 16⟩
abbrev PMC_THRESH_THRESH : Fld := ⟨0xE08010, 16, 0⟩
abbrev PMC_THRESH : Fld := F.PMC_THRESH_THRESH
abbrev PMC_VALUE_LO_VALUE : Fld := ⟨0xE08014, 31, 0⟩
abbrev PMC_VALUE_LO : Fld := F.PMC_VALUE_LO_VALUE
abbrev PMC_VALUE_HI_VALUE : Fld := ⟨0xE08018, 15, 0⟩
abbrev PMC_VALUE_HI : Fld := F.PMC_VALUE_HI_VALUE
abbrev PMC_SNAP_LO_VALUE : Fld := ⟨0xE0801C, 31, 0⟩
abbrev PMC_SNAP_LO : Fld := F.PMC_SNAP_LO_VALUE
abbrev PMC_SNAP_HI_VALUE : Fld := ⟨0xE08020, 15, 0⟩
abbrev PMC_SNAP_HI : Fld := F.PMC_SNAP_HI_VALUE
abbrev PMC_OWNER_FUNC : Fld := ⟨0xE08024, 6, 0⟩
abbrev PMC_OWNER_VIDX : Fld := ⟨0xE08024, 11, 7⟩
abbrev PMC_OWNER_ASSIGNED : Fld := ⟨0xE08024, 12, 12⟩
abbrev PMC_OWNER_GLOBAL_OK : Fld := ⟨0xE08024, 13, 13⟩
abbrev PMC_OVF_FIRST_COUNTER : Fld := ⟨0xE08028, 10, 0⟩
abbrev PMC_OVF_FIRST_VALID : Fld := ⟨0xE08028, 31, 31⟩

/-! R626, spec/18_management_and_counters.md -/
abbrev PMC_V_CTRL_SNAP : Fld := ⟨0xE0C400, 0, 0⟩
abbrev PMC_V_CTRL_FREEZE : Fld := ⟨0xE0C400, 1, 1⟩
abbrev PMC_V_CTRL_UNFREEZE : Fld := ⟨0xE0C400, 2, 2⟩
abbrev PMC_V_ASSIGNED_MASK : Fld := ⟨0xE0C404, 31, 0⟩
abbrev PMC_V_ASSIGNED : Fld := F.PMC_V_ASSIGNED_MASK

end F

def rowsCmdq0 : List FieldRow := [
  ⟨F.CMDQ_ABORT_QP, .wo, 0, false, 1, 0⟩,
  ⟨F.CMDQ_ABORT_ALL, .wo, 0, false, 1, 0⟩,
  ⟨F.CMDQ_ABORT_QTAG, .wo, 0, false, 1, 0⟩,
  ⟨F.CMDQ_RELEASE_HANDLE, .wo, 0, false, 1, 0⟩,
  ⟨F.CMDQ_RELEASE2_HANDLE, .wo, 0, false, 1, 0⟩]

/-- The field rows of block window 0 (R24). -/
def rowsCmdq : List FieldRow := rowsCmdq0

def rowsFn0 : List FieldRow := [
  ⟨F.FN_ID_FUNC, .ro, 0, false, 1, 0⟩,
  ⟨F.FN_ID_PORT, .ro, 0, false, 1, 0⟩,
  ⟨F.FN_ID_IS_VF, .ro, 0, false, 1, 0⟩,
  ⟨F.FN_EVENT_QP_ERROR, .w1c, 0, false, 1, 0⟩,
  ⟨F.FN_EVENT_QP_DRAINED, .w1c, 0, false, 1, 0⟩,
  ⟨F.FN_EVENT_RESULT_LOW, .w1c, 0, false, 1, 0⟩,
  ⟨F.FN_EVENT_ABORT_MISS, .w1c, 0, false, 1, 0⟩,
  ⟨F.FN_EVENT_RELEASE_STALE, .w1c, 0, false, 1, 0⟩,
  ⟨F.FN_EVENT_SETTINGS, .w1c, 0, false, 1, 0⟩,
  ⟨F.FN_EVENT_FLR_ABORT, .w1c, 0, false, 1, 0⟩,
  ⟨F.FN_EVENT_EN_EN, .rw, 0, false, 1, 0⟩,
  ⟨F.FN_LIMITS_QP_ALLOT, .ro, 64, false, 1, 0⟩,
  ⟨F.FN_LL_INUSE_INUSE, .ro, 0, false, 1, 0⟩,
  ⟨F.FN_CMD_TIMEOUT_MS, .ro, 10000, false, 1, 0⟩,
  ⟨F.FN_PERM_OPC_RANGES, .ro, 63, false, 1, 0⟩,
  ⟨F.FN_PERM_CLASS_MASK, .ro, 65535, false, 1, 0⟩,
  ⟨F.FN_RESULT_SIZE_SIZE, .ro, 16, false, 1, 0⟩,
  ⟨F.FN_RESULT_FREE_FREE, .ro, 256, false, 1, 0⟩,
  ⟨F.FN_RESULT_RSA_LO_RSA_LO, .ro, 0, false, 1, 0⟩,
  ⟨F.FN_RESULT_RSA_HI_RSA_HI, .ro, 0, false, 1, 0⟩]

def rowsFn1 : List FieldRow := [
  ⟨F.FN_MISS_COUNT_ABORT_MISS, .ro, 0, false, 1, 0⟩,
  ⟨F.FN_MISS_COUNT_RELEASE_STALE, .ro, 0, false, 1, 0⟩,
  ⟨F.FN_QP_SEL_QP, .rw, 0, false, 1, 0⟩,
  ⟨F.FN_SQ_BASE_LO_ADDR, .rw, 0, false, 1, 0⟩,
  ⟨F.FN_SQ_BASE_HI_ADDR, .rw, 0, false, 1, 0⟩,
  ⟨F.FN_CQ_BASE_LO_ADDR, .rw, 0, false, 1, 0⟩,
  ⟨F.FN_CQ_BASE_HI_ADDR, .rw, 0, false, 1, 0⟩,
  ⟨F.FN_QP_SIZE_SQ_LOG2, .rw, 4, false, 1, 0⟩,
  ⟨F.FN_QP_SIZE_CQ_LOG2, .rw, 4, false, 1, 0⟩,
  ⟨F.FN_CQ_COAL_COUNT, .rw, 1, false, 1, 0⟩,
  ⟨F.FN_CQ_COAL_TIME_US, .rw, 0, false, 1, 0⟩,
  ⟨F.FN_QP_CTRL_ENABLE, .wo, 0, false, 1, 0⟩,
  ⟨F.FN_QP_CTRL_DISABLE, .wo, 0, false, 1, 0⟩,
  ⟨F.FN_QP_STATUS_STATE, .ro, 0, false, 1, 0⟩,
  ⟨F.FN_QP_STATUS_ERR_CODE, .ro, 0, false, 1, 0⟩,
  ⟨F.FN_QP_STATUS_SQ_HEAD, .ro, 0, false, 1, 0⟩,
  ⟨F.FN_QP_ERR_FIRST_QP, .ro, 0, false, 1, 0⟩,
  ⟨F.FN_QP_ERR_FIRST_VALID, .ro, 0, false, 1, 0⟩,
  ⟨F.FN_ADM_SEL_FUNC, .rw, 0, false, 1, 0⟩,
  ⟨F.FN_ADM_QP_ALLOT_QP, .rw, 64, false, 1, 0⟩]

def rowsFn2 : List FieldRow := [
  ⟨F.FN_ADM_LL_RESERVE_RESERVE, .rw, 1024, false, 1, 0⟩,
  ⟨F.FN_ADM_LL_LIMIT_LIMIT, .rw, 16384, false, 1, 0⟩,
  ⟨F.FN_ADM_TIMEOUT_MS, .rw, 10000, false, 1, 0⟩,
  ⟨F.FN_ADM_PERM_OPC_RANGES, .rw, 63, false, 1, 0⟩,
  ⟨F.FN_ADM_PERM_CLASS_MASK, .rw, 65535, false, 1, 0⟩,
  ⟨F.FN_ADM_RESULT_SIZE_SIZE, .rw, 16, false, 1, 0⟩,
  ⟨F.FN_ADM_APPLY_APPLY, .wo, 0, false, 1, 0⟩,
  ⟨F.FN_ADM_STATUS_BUSY, .ro, 0, false, 1, 0⟩,
  ⟨F.FN_ADM_STATUS_ERR, .ro, 0, false, 1, 0⟩,
  ⟨F.FN_ADM_QP_FREE_FREE, .ro, 4032, false, 1, 0⟩,
  ⟨F.FN_ADM_LL_FREE_FREE, .ro, 46080, false, 1, 0⟩,
  ⟨F.FN_HXL_SEL_PORT, .rw, 0, false, 1, 0⟩,
  ⟨F.FN_HXL_LL_RESERVE_RESERVE, .rw, 1024, false, 1, 0⟩,
  ⟨F.FN_HXL_LL_LIMIT_LIMIT, .rw, 16384, false, 1, 0⟩,
  ⟨F.FN_HXL_TIMEOUT_MS, .rw, 10000, false, 1, 0⟩,
  ⟨F.FN_HXL_PERM_OPC_RANGES, .rw, 31, false, 1, 0⟩,
  ⟨F.FN_HXL_PERM_CLASS_MASK, .rw, 32767, false, 1, 0⟩,
  ⟨F.FN_HXL_RESULT_SIZE_SIZE, .rw, 16, false, 1, 0⟩,
  ⟨F.FN_HXL_APPLY_APPLY, .wo, 0, false, 1, 0⟩,
  ⟨F.FN_HXL_STATUS_BUSY, .ro, 0, false, 1, 0⟩]

def rowsFn3 : List FieldRow := [
  ⟨F.FN_HXL_STATUS_ERR, .ro, 0, false, 1, 0⟩]

/-- The field rows of block window 1 (R24). -/
def rowsFn : List FieldRow := rowsFn0 ++ rowsFn1 ++ rowsFn2 ++ rowsFn3

def rowsPst0 : List FieldRow := [
  ⟨F.PST_STATUS_ACTIVE_BANK, .ro, 0, false, 1, 0⟩,
  ⟨F.PST_STATUS_PLAIN, .ro, 1, false, 1, 0⟩,
  ⟨F.PST_STATUS_BRACE, .ro, 0, false, 1, 0⟩,
  ⟨F.PST_STATUS_LOAD_BUSY, .ro, 0, false, 1, 0⟩,
  ⟨F.PST_STATUS_SWITCH_PENDING, .ro, 0, false, 1, 0⟩,
  ⟨F.PST_STATUS_ALIGN_STATE, .ro, 0, false, 1, 0⟩,
  ⟨F.PST_STATUS_REFRESH_2X, .ro, 0, false, 1, 0⟩,
  ⟨F.PST_ACTIVE_SET_SET_ID, .ro, 0, false, 1, 0⟩,
  ⟨F.PST_INACTIVE_SET_SET_ID, .ro, 0, false, 1, 0⟩,
  ⟨F.PST_FRAME_LO_FRAME, .ro, 0, false, 1, 0⟩,
  ⟨F.PST_FRAME_HI_FRAME, .ro, 0, false, 1, 0⟩,
  ⟨F.PST_PERIOD_PERIOD_LOG2, .ro, 4, false, 1, 0⟩,
  ⟨F.PST_PERIOD_PHASE, .ro, 0, false, 1, 0⟩,
  ⟨F.PST_IMG_ADDR_LO_ADDR, .rw, 0, false, 1, 0⟩,
  ⟨F.PST_IMG_ADDR_HI_ADDR, .rw, 0, false, 1, 0⟩,
  ⟨F.PST_IMG_LEN_LEN, .rw, 0, false, 1, 0⟩,
  ⟨F.PST_LOAD_LOAD, .wo, 0, false, 1, 0⟩,
  ⟨F.PST_LOAD_STATUS_BUSY, .ro, 0, false, 1, 0⟩,
  ⟨F.PST_LOAD_STATUS_DONE, .ro, 0, false, 1, 0⟩,
  ⟨F.PST_LOAD_STATUS_CODE, .ro, 0, false, 1, 0⟩]

def rowsPst1 : List FieldRow := [
  ⟨F.PST_LOAD_STATUS_KIND, .ro, 0, false, 1, 0⟩,
  ⟨F.PST_LOAD_WHERE_INDEX, .ro, 0, false, 1, 0⟩,
  ⟨F.PST_LOAD_WHERE_FRAME, .ro, 0, false, 1, 0⟩,
  ⟨F.PST_LOAD_WHERE_SLOT, .ro, 0, false, 1, 0⟩,
  ⟨F.PST_SWITCH_FRAME_LO_FRAME, .rw, 0, false, 1, 0⟩,
  ⟨F.PST_SWITCH_FRAME_HI_FRAME, .rw, 0, false, 1, 0⟩,
  ⟨F.PST_SWITCH_SET_SET_ID, .rw, 0, false, 1, 0⟩,
  ⟨F.PST_SWITCH_CTRL_ARM, .wo, 0, false, 1, 0⟩,
  ⟨F.PST_SWITCH_CTRL_CANCEL, .wo, 0, false, 1, 0⟩,
  ⟨F.PST_SWITCH_STATUS_PENDING, .ro, 0, false, 1, 0⟩,
  ⟨F.PST_SWITCH_STATUS_RESULT, .ro, 0, false, 1, 0⟩,
  ⟨F.PST_EVENT_LOAD_DONE, .w1c, 0, false, 1, 0⟩,
  ⟨F.PST_EVENT_SWITCHED, .w1c, 0, false, 1, 0⟩,
  ⟨F.PST_EVENT_SWITCH_FAIL, .w1c, 0, false, 1, 0⟩,
  ⟨F.PST_EVENT_SET_MISMATCH, .w1c, 0, false, 1, 0⟩,
  ⟨F.PST_EVENT_ALIGN_LOCKED, .w1c, 0, false, 1, 0⟩,
  ⟨F.PST_EVENT_ALIGN_LOST, .w1c, 0, false, 1, 0⟩,
  ⟨F.PST_EVENT_BANK_HELD, .w1c, 0, false, 1, 0⟩,
  ⟨F.PST_EVENT_EN_EN, .rw, 0, false, 1, 0⟩,
  ⟨F.PST_ALIGN_CTRL_ALIGN_EN, .rw, 1, false, 1, 0⟩]

def rowsPst2 : List FieldRow := [
  ⟨F.PST_ALIGN_STATUS_PARENT_PORT, .ro, 0, false, 1, 0⟩,
  ⟨F.PST_ALIGN_STATUS_PARENT_VALID, .ro, 0, false, 1, 0⟩,
  ⟨F.PST_ALIGN_STATUS_HOPS, .ro, 15, false, 1, 0⟩,
  ⟨F.PST_ALIGN_STATUS_REF_MEMBER, .ro, 0, false, 1, 0⟩,
  ⟨F.PST_ALIGN_OFFSET_OFFSET, .ro, 0, false, 1, 0⟩,
  ⟨F.PST_ALIGN_TRIM_TRIM, .ro, 0, false, 1, 0⟩,
  ⟨F.PST_MISMATCH_PORTS_PORTS, .w1c, 0, false, 1, 0⟩,
  ⟨F.PST_BANK_HELD_COUNT, .ro, 0, false, 1, 0⟩,
  ⟨F.PST_TIMING_GEN_GEN, .ro, 0, false, 1, 0⟩]

/-- The field rows of block window 2 (R24). -/
def rowsPst : List FieldRow := rowsPst0 ++ rowsPst1 ++ rowsPst2

def rowsXlt0 : List FieldRow := [
  ⟨F.XLT_CTX_SEL_CTX, .rw, 0, false, 1, 0⟩,
  ⟨F.XLT_CTX_CFG_VALID, .rw, 0, false, 1, 0⟩,
  ⟨F.XLT_CTX_CFG_BOUND_SRC, .rw, 0, false, 1, 0⟩,
  ⟨F.XLT_CTX_CFG_COMPOSITION, .rw, 0, false, 1, 0⟩,
  ⟨F.XLT_CTX_STATUS_REV_EPOCH, .ro, 0, false, 1, 0⟩,
  ⟨F.XLT_CTX_STATUS_SEG_GEN, .ro, 0, false, 1, 0⟩,
  ⟨F.XLT_CTX_INFLIGHT_COUNT, .ro, 0, false, 1, 0⟩,
  ⟨F.XLT_SEG_SEL_SEG, .rw, 0, false, 1, 0⟩,
  ⟨F.XLT_SEG_CTRL_STATE, .rw, 0, false, 1, 0⟩,
  ⟨F.XLT_SEG_CTRL_SLAB16, .rw, 0, false, 1, 0⟩,
  ⟨F.XLT_SEG_CTRL_PERM_R, .rw, 0, false, 1, 0⟩,
  ⟨F.XLT_SEG_CTRL_PERM_W, .rw, 0, false, 1, 0⟩,
  ⟨F.XLT_SEG_CTRL_PERM_A, .rw, 0, false, 1, 0⟩,
  ⟨F.XLT_SEG_CTRL_REVOKING, .ro, 0, false, 1, 0⟩,
  ⟨F.XLT_SEG_BASE_SLAB, .rw, 0, false, 1, 0⟩,
  ⟨F.XLT_SEG_COUNT_COUNT, .rw, 0, false, 1, 0⟩,
  ⟨F.XLT_APPLY_CTX, .wo, 0, false, 1, 0⟩,
  ⟨F.XLT_APPLY_SEG, .wo, 0, false, 1, 0⟩,
  ⟨F.XLT_APPLY_STATUS_BUSY, .ro, 0, false, 1, 0⟩,
  ⟨F.XLT_APPLY_STATUS_ERR, .ro, 0, false, 1, 0⟩]

def rowsXlt1 : List FieldRow := [
  ⟨F.XLT_PRI_TIMEOUT_MS, .rw, 100, false, 1, 0⟩,
  ⟨F.XLT_EVENT_APPLY_DONE, .w1c, 0, false, 1, 0⟩,
  ⟨F.XLT_EVENT_PRI_TIMEOUT, .w1c, 0, false, 1, 0⟩,
  ⟨F.XLT_EVENT_PRI_FAILURE, .w1c, 0, false, 1, 0⟩,
  ⟨F.XLT_EVENT_INVAL_SLOW, .w1c, 0, false, 1, 0⟩,
  ⟨F.XLT_EVENT_REVOKE_DONE, .w1c, 0, false, 1, 0⟩,
  ⟨F.XLT_EVENT_FAULT_LOGGED, .w1c, 0, false, 1, 0⟩,
  ⟨F.XLT_EVENT_EN_EN, .rw, 0, false, 1, 0⟩,
  ⟨F.XLT_FAULT_INFO_SUBCODE, .ro, 0, false, 1, 0⟩,
  ⟨F.XLT_FAULT_INFO_SRC, .ro, 0, false, 1, 0⟩,
  ⟨F.XLT_FAULT_INFO_HOST, .ro, 0, false, 1, 0⟩,
  ⟨F.XLT_FAULT_INFO_VALID, .ro, 0, false, 1, 0⟩,
  ⟨F.XLT_FAULT_ADDR_LO_ADDR, .ro, 0, false, 1, 0⟩,
  ⟨F.XLT_FAULT_ADDR_HI_ADDR, .ro, 0, false, 1, 0⟩,
  ⟨F.XLT_ATC_FLUSH_PORT0, .wo, 0, false, 1, 0⟩,
  ⟨F.XLT_ATC_FLUSH_PORT1, .wo, 0, false, 1, 0⟩,
  ⟨F.XLT_PRI_OUT_PORT0, .ro, 0, false, 1, 0⟩,
  ⟨F.XLT_PRI_OUT_PORT1, .ro, 0, false, 1, 0⟩,
  ⟨F.XLT_HXL_CTX_CTX, .rw, 0, false, 16, 4⟩,
  ⟨F.XLT_HXL_CTX_VALID, .rw, 0, false, 16, 4⟩]

/-- The field rows of block window 3 (R24). -/
def rowsXlt : List FieldRow := rowsXlt0 ++ rowsXlt1

def rowsTier0 : List FieldRow := [
  ⟨F.TIER_STATUS_STORE_UP, .ro, 0, false, 1, 0⟩,
  ⟨F.TIER_STATUS_LOCKED, .ro, 0, true, 1, 0⟩,
  ⟨F.TIER_STATUS_BRACE_READY, .ro, 0, false, 1, 0⟩,
  ⟨F.TIER_STATUS_CHAIR_BUSY, .ro, 0, false, 1, 0⟩,
  ⟨F.TIER_POP_STATUS_ERR, .ro, 0, false, 1, 0⟩,
  ⟨F.TIER_POP_STATUS_INSTANCE, .ro, 0, false, 1, 0⟩,
  ⟨F.TIER_POP_DDR_GIB_PER_CH, .ro, 0, false, 1, 0⟩,
  ⟨F.TIER_POP_DDR_MRDIMM, .ro, 0, false, 1, 0⟩,
  ⟨F.TIER_POP_DDR_DIMMS, .ro, 0, false, 1, 0⟩,
  ⟨F.TIER_POP_DDR_RANKS, .ro, 0, false, 1, 0⟩,
  ⟨F.TIER_POP_DDR_DENSITY, .ro, 0, false, 1, 0⟩,
  ⟨F.TIER_POP_DDR_STACK, .ro, 0, false, 1, 0⟩,
  ⟨F.TIER_POP_FLASH_GIB_PER_CH, .ro, 0, false, 1, 0⟩,
  ⟨F.TIER_POP_FLASH_CE, .ro, 0, false, 1, 0⟩,
  ⟨F.TIER_POP_FLASH_RATE, .ro, 0, false, 1, 0⟩,
  ⟨F.TIER_SALT_LO_SALT, .rw, 0, true, 1, 0⟩,
  ⟨F.TIER_SALT_HI_SALT, .rw, 0, true, 1, 0⟩,
  ⟨F.TIER_HASH_WIDTH, .rw, 0, true, 1, 0⟩,
  ⟨F.TIER_CTRL_LOCK, .wo, 0, false, 1, 0⟩,
  ⟨F.TIER_HEAT_CFG_EPOCH_FRAMES, .rw, 31250, false, 1, 0⟩]

def rowsTier1 : List FieldRow := [
  ⟨F.TIER_HEAT_CFG_HOT_T, .rw, 16, false, 1, 0⟩,
  ⟨F.TIER_HEAT_CFG_EVICT_AGE, .rw, 4, false, 1, 0⟩,
  ⟨F.TIER_POOL_HBM_FREE_MIB, .ro, 0, false, 1, 0⟩,
  ⟨F.TIER_POOL_DDR_FREE_MIB, .ro, 0, false, 1, 0⟩,
  ⟨F.TIER_POOL_DDR_PINNED_MIB, .ro, 0, false, 1, 0⟩,
  ⟨F.TIER_FILL_RESERVE_GIB, .rw, 64, false, 1, 0⟩,
  ⟨F.TIER_FALLBACK_COUNT_COUNT, .ro, 0, false, 1, 0⟩,
  ⟨F.TIER_CHAIR_CFG_RATE, .rw, 64, false, 1, 0⟩,
  ⟨F.TIER_CHAIR_CFG_CLASS, .rw, 14, false, 1, 0⟩,
  ⟨F.TIER_CHAIR_CFG_PAUSE, .rw, 0, false, 1, 0⟩,
  ⟨F.TIER_CHAIR_STATUS_INFLIGHT, .ro, 0, false, 1, 0⟩,
  ⟨F.TIER_CHAIR_STATUS_RAISEQ, .ro, 0, false, 1, 0⟩,
  ⟨F.TIER_CHAIR_DROPS_COUNT, .ro, 0, false, 1, 0⟩,
  ⟨F.TIER_JOURNAL_CFG_SIZE_MIB, .rw, 512, false, 1, 0⟩,
  ⟨F.TIER_JOURNAL_USED_KIB, .ro, 0, false, 1, 0⟩,
  ⟨F.TIER_JOURNAL_WAITS_COUNT, .ro, 0, false, 1, 0⟩,
  ⟨F.TIER_DRIFT_CFG_DRIFT_T, .rw, 16, false, 1, 0⟩,
  ⟨F.TIER_DRIFT_CFG_DRIFT_MV, .rw, 15, false, 1, 0⟩,
  ⟨F.TIER_DRIFT_CFG_MAX_UNITS, .rw, 5, false, 1, 0⟩,
  ⟨F.TIER_TRAIN_SEL_KIND, .rw, 0, false, 1, 0⟩]

def rowsTier2 : List FieldRow := [
  ⟨F.TIER_TRAIN_SEL_INSTANCE, .rw, 0, false, 1, 0⟩,
  ⟨F.TIER_TRAIN_TAG_T0, .ro, 0, false, 1, 0⟩,
  ⟨F.TIER_TRAIN_TAG_V0, .ro, 0, false, 1, 0⟩,
  ⟨F.TIER_TRAIN_NOW_T, .ro, 0, false, 1, 0⟩,
  ⟨F.TIER_TRAIN_NOW_V, .ro, 0, false, 1, 0⟩,
  ⟨F.TIER_TRAIN_STATE_PENDING, .ro, 0, false, 1, 0⟩,
  ⟨F.TIER_TRAIN_STATE_STEPS_LEFT, .ro, 0, false, 1, 0⟩,
  ⟨F.TIER_TRAIN_STATE_COUNT, .ro, 0, false, 1, 0⟩,
  ⟨F.TIER_REFRESH_2X_HBM, .ro, 0, false, 1, 0⟩,
  ⟨F.TIER_REFRESH_2X_DDR, .ro, 0, false, 1, 0⟩,
  ⟨F.TIER_TREC_SEL_KIND, .rw, 0, false, 1, 0⟩,
  ⟨F.TIER_TREC_SEL_FIELD, .rw, 0, false, 1, 0⟩,
  ⟨F.TIER_TREC_VAL_VALUE, .ro, 0, false, 1, 0⟩,
  ⟨F.TIER_EVENT_STORE_UP, .w1c, 0, false, 1, 0⟩,
  ⟨F.TIER_EVENT_POP_ERR, .w1c, 0, false, 1, 0⟩,
  ⟨F.TIER_EVENT_RETRAINED, .w1c, 0, false, 1, 0⟩,
  ⟨F.TIER_EVENT_REFRESH_RATE, .w1c, 0, false, 1, 0⟩,
  ⟨F.TIER_EVENT_DEV_HOT, .w1c, 0, false, 1, 0⟩,
  ⟨F.TIER_EVENT_POOL_LOW, .w1c, 0, false, 1, 0⟩,
  ⟨F.TIER_EVENT_JOURNAL_HIGH, .w1c, 0, false, 1, 0⟩]

def rowsTier3 : List FieldRow := [
  ⟨F.TIER_EVENT_CHAIR_DROP, .w1c, 0, false, 1, 0⟩,
  ⟨F.TIER_EVENT_BRACE_READY, .w1c, 0, false, 1, 0⟩,
  ⟨F.TIER_EVENT_EN_EN, .rw, 0, false, 1, 0⟩]

/-- The field rows of block window 4 (R24). -/
def rowsTier : List FieldRow := rowsTier0 ++ rowsTier1 ++ rowsTier2 ++ rowsTier3

def rowsCore0 : List FieldRow := [
  ⟨F.CORE_STATUS_ONLINE, .ro, 1200, false, 1, 0⟩,
  ⟨F.CORE_GATE_DUTY, .ro, 16, false, 1, 0⟩,
  ⟨F.CORE_SEL_CORE, .rw, 0, false, 1, 0⟩,
  ⟨F.CORE_INFO_SIDE, .ro, 0, false, 1, 0⟩,
  ⟨F.CORE_INFO_CHANNEL, .ro, 0, false, 1, 0⟩,
  ⟨F.CORE_INFO_RINK_PORT, .ro, 0, false, 1, 0⟩,
  ⟨F.CORE_INFO_ONLINE, .ro, 1, false, 1, 0⟩,
  ⟨F.CORE_INFO_QUEUED, .ro, 0, false, 1, 0⟩,
  ⟨F.CORE_INFO_STATE, .ro, 0, false, 1, 0⟩,
  ⟨F.CORE_RUN_SLOT, .ro, 0, false, 1, 0⟩,
  ⟨F.CORE_RUN_STEP, .ro, 0, false, 1, 0⟩,
  ⟨F.CORE_INVOCATIONS_COUNT, .ro, 0, false, 1, 0⟩,
  ⟨F.CORE_FLAGS_NAN_IN, .w1c, 0, false, 1, 0⟩,
  ⟨F.CORE_FLAGS_NAN_MADE, .w1c, 0, false, 1, 0⟩,
  ⟨F.CORE_FLAGS_SATURATED, .w1c, 0, false, 1, 0⟩,
  ⟨F.CORE_FLAGS_INDEX_MISS, .w1c, 0, false, 1, 0⟩,
  ⟨F.CORE_FLAGS_TOPK_NAN, .w1c, 0, false, 1, 0⟩,
  ⟨F.CORE_FAULT_INFO_CODE, .ro, 0, false, 1, 0⟩,
  ⟨F.CORE_FAULT_INFO_CORE, .ro, 0, false, 1, 0⟩,
  ⟨F.CORE_FAULT_INFO_SLOT, .ro, 0, false, 1, 0⟩]

def rowsCore1 : List FieldRow := [
  ⟨F.CORE_FAULT_INFO_STEP, .ro, 0, false, 1, 0⟩,
  ⟨F.CORE_FAULT_INFO_VALID, .ro, 0, false, 1, 0⟩,
  ⟨F.CORE_FAULT_RECIPE_RECIPE_ID, .ro, 0, false, 1, 0⟩,
  ⟨F.CORE_FAULT_COUNT_COUNT, .ro, 0, false, 1, 0⟩,
  ⟨F.CORE_RCP_SEL_SLOT, .rw, 0, false, 1, 0⟩,
  ⟨F.CORE_RCP_INFO_VALID, .ro, 0, false, 1, 0⟩,
  ⟨F.CORE_RCP_INFO_EXT, .ro, 0, false, 1, 0⟩,
  ⟨F.CORE_RCP_INFO_STEPS, .ro, 0, false, 1, 0⟩,
  ⟨F.CORE_RCP_ID_RECIPE_ID, .ro, 0, false, 1, 0⟩,
  ⟨F.CORE_RCP_VERSION_VERSION, .ro, 0, false, 1, 0⟩,
  ⟨F.CORE_EXT_ADDR_LO_ADDR, .rw, 0, false, 1, 0⟩,
  ⟨F.CORE_EXT_ADDR_HI_ADDR, .rw, 0, false, 1, 0⟩,
  ⟨F.CORE_EXT_LEN_LEN, .rw, 0, false, 1, 0⟩,
  ⟨F.CORE_EXT_CTRL_LOAD, .wo, 0, false, 1, 0⟩,
  ⟨F.CORE_EXT_CTRL_REMOVE, .wo, 0, false, 1, 0⟩,
  ⟨F.CORE_EXT_STATUS_BUSY, .ro, 0, false, 1, 0⟩,
  ⟨F.CORE_EXT_STATUS_DONE, .ro, 0, false, 1, 0⟩,
  ⟨F.CORE_EXT_STATUS_CODE, .ro, 0, false, 1, 0⟩,
  ⟨F.CORE_EXT_STATUS_SLOT, .ro, 0, false, 1, 0⟩,
  ⟨F.CORE_EXT_WHERE_STEP, .ro, 0, false, 1, 0⟩]

def rowsCore2 : List FieldRow := [
  ⟨F.CORE_EXT_WHERE_OPERAND, .ro, 0, false, 1, 0⟩,
  ⟨F.CORE_EVENT_EXT_DONE, .w1c, 0, false, 1, 0⟩,
  ⟨F.CORE_EVENT_FAULT, .w1c, 0, false, 1, 0⟩,
  ⟨F.CORE_EVENT_CORE_OFFLINE, .w1c, 0, false, 1, 0⟩,
  ⟨F.CORE_EVENT_GATED, .w1c, 0, false, 1, 0⟩,
  ⟨F.CORE_EVENT_FLAGS, .w1c, 0, false, 1, 0⟩,
  ⟨F.CORE_EVENT_EN_EN, .rw, 0, false, 1, 0⟩]

/-- The field rows of block window 5 (R24). -/
def rowsCore : List FieldRow := rowsCore0 ++ rowsCore1 ++ rowsCore2

def rowsSvc0 : List FieldRow := [
  ⟨F.EMB_STATUS_TABLES, .ro, 0, false, 1, 0⟩,
  ⟨F.EMB_WORK_CFG_SIZE_MIB, .rw, 512, false, 1, 0⟩,
  ⟨F.EMB_WORK_USED_MIB, .ro, 0, false, 1, 0⟩,
  ⟨F.EMB_WORK_USED_WAITING, .ro, 0, false, 1, 0⟩,
  ⟨F.EMB_STEP_CFG_SIZE_MIB, .rw, 256, false, 1, 0⟩,
  ⟨F.EMB_STEP_USED_MIB, .ro, 0, false, 1, 0⟩,
  ⟨F.EMB_TBL_SEL_TABLE, .rw, 0, false, 1, 0⟩,
  ⟨F.EMB_TBL_INFO_DEFINED, .ro, 0, false, 1, 0⟩,
  ⟨F.EMB_TBL_INFO_LAYOUT, .ro, 0, false, 1, 0⟩,
  ⟨F.EMB_TBL_INFO_KIND, .ro, 0, false, 1, 0⟩,
  ⟨F.EMB_TBL_INFO_OPT, .ro, 0, false, 1, 0⟩,
  ⟨F.EMB_TBL_INFO_DETERMINISTIC, .ro, 0, false, 1, 0⟩,
  ⟨F.EMB_TBL_INFO_RETIRING, .ro, 0, false, 1, 0⟩,
  ⟨F.EMB_TBL_INFO_NAN_SKIP, .ro, 0, false, 1, 0⟩,
  ⟨F.EMB_TBL_INFO_COMPOSITION, .ro, 0, false, 1, 0⟩,
  ⟨F.EMB_TBL_INFO_ANCHOR, .ro, 0, false, 1, 0⟩,
  ⟨F.EMB_TBL_VERSION_VERSION, .ro, 0, false, 1, 0⟩,
  ⟨F.EMB_TBL_STEP_STEP, .ro, 0, false, 1, 0⟩,
  ⟨F.EMB_TBL_HOLD_CURRENT, .ro, 0, false, 1, 0⟩,
  ⟨F.EMB_TBL_HOLD_RETIRING, .ro, 0, false, 1, 0⟩]

def rowsSvc1 : List FieldRow := [
  ⟨F.EMB_COUNT_KEYS_COUNT, .ro, 0, false, 1, 0⟩,
  ⟨F.EMB_COUNT_ROWS_COUNT, .ro, 0, false, 1, 0⟩,
  ⟨F.EMB_COUNT_RMW_COUNT, .ro, 0, false, 1, 0⟩,
  ⟨F.EMB_COUNT_DIRECT_COUNT, .ro, 0, false, 1, 0⟩,
  ⟨F.EMB_COUNT_NAN_SKIP_COUNT, .ro, 0, false, 1, 0⟩,
  ⟨F.EMB_COUNT_STALE_COUNT, .ro, 0, false, 1, 0⟩,
  ⟨F.EMB_HOOK_SLOT, .rw, 0, false, 1, 0⟩,
  ⟨F.EMB_HOOK_VALID, .rw, 0, false, 1, 0⟩,
  ⟨F.EMB_EVENT_PUBLISHED, .w1c, 0, false, 1, 0⟩,
  ⟨F.EMB_EVENT_RETIRED, .w1c, 0, false, 1, 0⟩,
  ⟨F.EMB_EVENT_STEP_APPLIED, .w1c, 0, false, 1, 0⟩,
  ⟨F.EMB_EVENT_WORK_LOW, .w1c, 0, false, 1, 0⟩,
  ⟨F.EMB_EVENT_DIRECT_PATH, .w1c, 0, false, 1, 0⟩,
  ⟨F.EMB_EVENT_STEP_FULL, .w1c, 0, false, 1, 0⟩,
  ⟨F.EMB_EVENT_SEQ_DUP, .w1c, 0, false, 1, 0⟩,
  ⟨F.EMB_EVENT_NAN_SKIP, .w1c, 0, false, 1, 0⟩,
  ⟨F.EMB_EVENT_EN_EN, .rw, 0, false, 1, 0⟩,
  ⟨F.VEC_STATUS_INDEXES, .ro, 0, false, 1, 0⟩,
  ⟨F.VEC_STATUS_PASS_RUNNING, .ro, 0, false, 1, 0⟩,
  ⟨F.VEC_WALKS_ACTIVE, .ro, 0, false, 1, 0⟩]

def rowsSvc2 : List FieldRow := [
  ⟨F.VEC_WALKS_WAITING, .ro, 0, false, 1, 0⟩,
  ⟨F.VEC_IDX_SEL_INDEX, .rw, 0, false, 1, 0⟩,
  ⟨F.VEC_IDX_INFO_DEFINED, .ro, 0, false, 1, 0⟩,
  ⟨F.VEC_IDX_INFO_LAYOUT, .ro, 0, false, 1, 0⟩,
  ⟨F.VEC_IDX_INFO_METRIC, .ro, 0, false, 1, 0⟩,
  ⟨F.VEC_IDX_INFO_PARTS, .ro, 0, false, 1, 0⟩,
  ⟨F.VEC_IDX_INFO_PASS_RUNNING, .ro, 0, false, 1, 0⟩,
  ⟨F.VEC_IDX_INFO_COMPOSITION, .ro, 0, false, 1, 0⟩,
  ⟨F.VEC_IDX_INFO_ANCHOR, .ro, 0, false, 1, 0⟩,
  ⟨F.VEC_IDX_LIVE_COUNT, .ro, 0, false, 1, 0⟩,
  ⟨F.VEC_IDX_TOMB_COUNT, .ro, 0, false, 1, 0⟩,
  ⟨F.VEC_IDX_PASS_PASS, .ro, 0, false, 1, 0⟩,
  ⟨F.VEC_IDX_PROGRESS_NODES, .ro, 0, false, 1, 0⟩,
  ⟨F.VEC_IDX_PEND_ENTRIES, .ro, 0, false, 1, 0⟩,
  ⟨F.VEC_REPAIR_CFG_RATE, .rw, 256, false, 1, 0⟩,
  ⟨F.VEC_REPAIR_CFG_CLASS, .rw, 13, false, 1, 0⟩,
  ⟨F.VEC_COUNT_SEARCH_COUNT, .ro, 0, false, 1, 0⟩,
  ⟨F.VEC_COUNT_EXPAND_COUNT, .ro, 0, false, 1, 0⟩,
  ⟨F.VEC_COUNT_RERANK_COUNT, .ro, 0, false, 1, 0⟩,
  ⟨F.VEC_COUNT_PARTIAL_COUNT, .ro, 0, false, 1, 0⟩]

def rowsSvc3 : List FieldRow := [
  ⟨F.VEC_COUNT_UNREADABLE_COUNT, .ro, 0, false, 1, 0⟩,
  ⟨F.VEC_COUNT_PEND_DROP_COUNT, .ro, 0, false, 1, 0⟩,
  ⟨F.VEC_EVENT_PASS_DONE, .w1c, 0, false, 1, 0⟩,
  ⟨F.VEC_EVENT_PASS_ABANDONED, .w1c, 0, false, 1, 0⟩,
  ⟨F.VEC_EVENT_UNREADABLE, .w1c, 0, false, 1, 0⟩,
  ⟨F.VEC_EVENT_PEND_HIGH, .w1c, 0, false, 1, 0⟩,
  ⟨F.VEC_EVENT_PEND_DROP, .w1c, 0, false, 1, 0⟩,
  ⟨F.VEC_EVENT_VISITED_FULL, .w1c, 0, false, 1, 0⟩,
  ⟨F.VEC_EVENT_WALK_WAIT, .w1c, 0, false, 1, 0⟩,
  ⟨F.VEC_EVENT_EN_EN, .rw, 0, false, 1, 0⟩,
  ⟨F.RPL_STATUS_BUFFERS, .ro, 0, false, 1, 0⟩,
  ⟨F.RPL_BUF_SEL_BUFFER, .rw, 0, false, 1, 0⟩,
  ⟨F.RPL_BUF_INFO_DEFINED, .ro, 0, false, 1, 0⟩,
  ⟨F.RPL_BUF_INFO_SLOTS_LOG2, .ro, 0, false, 1, 0⟩,
  ⟨F.RPL_BUF_INFO_REC_LOG2, .ro, 0, false, 1, 0⟩,
  ⟨F.RPL_BUF_INFO_COMPOSITION, .ro, 0, false, 1, 0⟩,
  ⟨F.RPL_BUF_INFO_ANCHOR, .ro, 0, false, 1, 0⟩,
  ⟨F.RPL_BUF_HEAD_LO_HEAD, .ro, 0, false, 1, 0⟩,
  ⟨F.RPL_BUF_HEAD_HI_HEAD, .ro, 0, false, 1, 0⟩,
  ⟨F.RPL_BUF_ROOT_TOTAL, .ro, 0, false, 1, 0⟩]

def rowsSvc4 : List FieldRow := [
  ⟨F.RPL_BUF_MAXP_MAXP, .ro, 0, false, 1, 0⟩,
  ⟨F.RPL_BUF_LIVE_COUNT, .ro, 0, false, 1, 0⟩,
  ⟨F.RPL_BUF_QUEUED_CHANGES, .ro, 0, false, 1, 0⟩,
  ⟨F.RPL_COUNT_PASSES_COUNT, .ro, 0, false, 1, 0⟩,
  ⟨F.RPL_COUNT_DRAWS_COUNT, .ro, 0, false, 1, 0⟩,
  ⟨F.RPL_COUNT_SKIPPED_COUNT, .ro, 0, false, 1, 0⟩,
  ⟨F.RPL_COUNT_PRIO_BAD_COUNT, .ro, 0, false, 1, 0⟩,
  ⟨F.RPL_COUNT_LOST_COUNT, .ro, 0, false, 1, 0⟩,
  ⟨F.RPL_EVENT_PRIO_BAD, .w1c, 0, false, 1, 0⟩,
  ⟨F.RPL_EVENT_DRAW_LOST, .w1c, 0, false, 1, 0⟩,
  ⟨F.RPL_EVENT_INSERT_WAIT, .w1c, 0, false, 1, 0⟩,
  ⟨F.RPL_EVENT_EN_EN, .rw, 0, false, 1, 0⟩,
  ⟨F.KVP_STATUS_POOLS, .ro, 0, false, 1, 0⟩,
  ⟨F.KVP_POOL_SEL_POOL, .rw, 0, false, 1, 0⟩,
  ⟨F.KVP_POOL_INFO_DEFINED, .ro, 0, false, 1, 0⟩,
  ⟨F.KVP_POOL_INFO_TOKEN_LOG2, .ro, 0, false, 1, 0⟩,
  ⟨F.KVP_POOL_INFO_COMPOSITION, .ro, 0, false, 1, 0⟩,
  ⟨F.KVP_POOL_INFO_ANCHOR, .ro, 0, false, 1, 0⟩,
  ⟨F.KVP_POOL_FREE_FRAMES, .ro, 0, false, 1, 0⟩,
  ⟨F.KVP_POOL_SPILLED_PAGES, .ro, 0, false, 1, 0⟩]

def rowsSvc5 : List FieldRow := [
  ⟨F.KVP_POOL_SEQS_OWNED, .ro, 0, false, 1, 0⟩,
  ⟨F.KVP_CFG_LOCK_MS, .rw, 1000, false, 1, 0⟩,
  ⟨F.KVP_CFG_EVICT_AGE, .rw, 16, false, 1, 0⟩,
  ⟨F.KVP_HANDOVER_CFG_TIMEOUT_US, .rw, 200, false, 1, 0⟩,
  ⟨F.KVP_HANDOVER_CFG_RETRIES, .rw, 3, false, 1, 0⟩,
  ⟨F.KVP_COUNT_EVICT_COUNT, .ro, 0, false, 1, 0⟩,
  ⟨F.KVP_COUNT_UNSPILL_COUNT, .ro, 0, false, 1, 0⟩,
  ⟨F.KVP_COUNT_COW_COUNT, .ro, 0, false, 1, 0⟩,
  ⟨F.KVP_COUNT_FORWARD_COUNT, .ro, 0, false, 1, 0⟩,
  ⟨F.KVP_RESOLVE_SEL_ENTRY, .rw, 0, false, 1, 0⟩,
  ⟨F.KVP_RESOLVE_SEQ_SEQ, .ro, 0, false, 1, 0⟩,
  ⟨F.KVP_RESOLVE_LOG_WINNER, .ro, 0, false, 1, 0⟩,
  ⟨F.KVP_RESOLVE_LOG_OTHER, .ro, 0, false, 1, 0⟩,
  ⟨F.KVP_RESOLVE_LOG_ROW, .ro, 0, false, 1, 0⟩,
  ⟨F.KVP_RESOLVE_LOG_VALID, .ro, 0, false, 1, 0⟩,
  ⟨F.KVP_RESOLVE_LOG_TRUNCATED, .ro, 0, false, 1, 0⟩,
  ⟨F.KVP_RESOLVE_TOKEN_TOKEN, .ro, 0, false, 1, 0⟩,
  ⟨F.KVP_EVENT_POOL_SHORT, .w1c, 0, false, 1, 0⟩,
  ⟨F.KVP_EVENT_LOCK_EXPIRED, .w1c, 0, false, 1, 0⟩,
  ⟨F.KVP_EVENT_RESOLVED, .w1c, 0, false, 1, 0⟩]

def rowsSvc6 : List FieldRow := [
  ⟨F.KVP_EVENT_BOTH_RENOUNCED, .w1c, 0, false, 1, 0⟩,
  ⟨F.KVP_EVENT_CHAIN_LONG, .w1c, 0, false, 1, 0⟩,
  ⟨F.KVP_EVENT_SPILL_LOW, .w1c, 0, false, 1, 0⟩,
  ⟨F.KVP_EVENT_EN_EN, .rw, 0, false, 1, 0⟩]

/-- The field rows of block window 6 (R24). -/
def rowsSvc : List FieldRow := rowsSvc0 ++ rowsSvc1 ++ rowsSvc2 ++ rowsSvc3 ++ rowsSvc4 ++ rowsSvc5 ++ rowsSvc6

def rowsHxl0 : List FieldRow := [
  ⟨F.HXL_ID_MEMBER, .ro, 0, false, 1, 0⟩,
  ⟨F.HXL_ID_RACK, .rw, 0, false, 1, 0⟩,
  ⟨F.HXL_PORTS_UP_UP, .ro, 0, false, 1, 0⟩,
  ⟨F.HXL_PORTS_UP_FENCED, .ro, 0, false, 1, 0⟩,
  ⟨F.HXL_PORT_SEL_PORT, .rw, 0, false, 1, 0⟩,
  ⟨F.HXL_PORT_CFG_EN, .rw, 1, false, 1, 0⟩,
  ⟨F.HXL_PORT_CFG_KIND, .rw, 0, false, 1, 0⟩,
  ⟨F.HXL_PORT_CFG_NODE_FORM, .rw, 0, false, 1, 0⟩,
  ⟨F.HXL_PORT_CFG_ENC_REQ, .rw, 0, false, 1, 0⟩,
  ⟨F.HXL_PORT_CTRL_RETRAIN, .wo, 0, false, 1, 0⟩,
  ⟨F.HXL_PORT_CTRL_RESET, .wo, 0, false, 1, 0⟩,
  ⟨F.HXL_PORT_STATUS_STATE, .ro, 0, false, 1, 0⟩,
  ⟨F.HXL_PORT_STATUS_PARTNER_KIND, .ro, 0, false, 1, 0⟩,
  ⟨F.HXL_PORT_STATUS_ENC_ON, .ro, 0, false, 1, 0⟩,
  ⟨F.HXL_PORT_STATUS_KEY_PHASE, .ro, 0, false, 1, 0⟩,
  ⟨F.HXL_PORT_STATUS_LANES_REVERSED, .ro, 0, false, 1, 0⟩,
  ⟨F.HXL_PORT_STATUS_POLARITY, .ro, 0, false, 1, 0⟩,
  ⟨F.HXL_PORT_STATUS_FAIL_CODE, .ro, 0, false, 1, 0⟩,
  ⟨F.HXL_PORT_STATUS_PARTNER_ID, .ro, 0, false, 1, 0⟩,
  ⟨F.HXL_PORT_STATUS_FENCED, .ro, 0, false, 1, 0⟩]

def rowsHxl1 : List FieldRow := [
  ⟨F.HXL_PORT_DELAY_DELAY, .ro, 0, false, 1, 0⟩,
  ⟨F.HXL_PORT_FEC_CORR_COUNT, .ro, 0, false, 1, 0⟩,
  ⟨F.HXL_PORT_FEC_UNCORR_COUNT, .ro, 0, false, 1, 0⟩,
  ⟨F.HXL_PORT_CRC_COUNT, .ro, 0, false, 1, 0⟩,
  ⟨F.HXL_PORT_REPLAY_COUNT, .ro, 0, false, 1, 0⟩,
  ⟨F.HXL_PORT_RETRAINS_COUNT, .ro, 0, false, 1, 0⟩,
  ⟨F.HXL_PORT_CRED_SEL_VC, .rw, 0, false, 1, 0⟩,
  ⟨F.HXL_PORT_CRED_AVAIL, .ro, 0, false, 1, 0⟩,
  ⟨F.HXL_PORT_CRED_ADVERT, .ro, 0, false, 1, 0⟩,
  ⟨F.HXL_PORT_MSG_BAD_COUNT, .ro, 0, false, 1, 0⟩,
  ⟨F.HXL_PORT_MISS_ABORT_MISS, .ro, 0, false, 1, 0⟩,
  ⟨F.HXL_PORT_MISS_RELEASE_STALE, .ro, 0, false, 1, 0⟩,
  ⟨F.HXL_PORT_CMD_OUT_CREDITS, .ro, 0, false, 1, 0⟩,
  ⟨F.HXL_ROUTE_SEL_MEMBER, .rw, 0, false, 1, 0⟩,
  ⟨F.HXL_ROUTE_PORTS, .rw, 0, false, 1, 0⟩,
  ⟨F.HXL_ROUTE_DIST, .rw, 0, false, 1, 0⟩,
  ⟨F.HXL_EP_SEL_EP, .rw, 0, false, 1, 0⟩,
  ⟨F.HXL_EP_ROUTE_MEMBER1, .rw, 0, false, 1, 0⟩,
  ⟨F.HXL_EP_ROUTE_PORT1, .rw, 0, false, 1, 0⟩,
  ⟨F.HXL_EP_ROUTE_VALID1, .rw, 0, false, 1, 0⟩]

def rowsHxl2 : List FieldRow := [
  ⟨F.HXL_EP_ROUTE_MEMBER2, .rw, 0, false, 1, 0⟩,
  ⟨F.HXL_EP_ROUTE_PORT2, .rw, 0, false, 1, 0⟩,
  ⟨F.HXL_EP_ROUTE_VALID2, .rw, 0, false, 1, 0⟩,
  ⟨F.HXL_RACK_SEL_RACK, .rw, 0, false, 1, 0⟩,
  ⟨F.HXL_RACK_ROUTE_PORTS, .rw, 0, false, 1, 0⟩,
  ⟨F.HXL_COMBINE_MODE, .rw, 1, false, 1, 0⟩,
  ⟨F.HXL_COMBINE_ACTIVE, .ro, 0, false, 1, 0⟩,
  ⟨F.HXL_COMBINED_COUNT, .ro, 0, false, 1, 0⟩,
  ⟨F.HXL_NO_ROUTE_COUNT, .ro, 0, false, 1, 0⟩,
  ⟨F.HXL_EVENT_PORT_UP, .w1c, 0, false, 1, 0⟩,
  ⟨F.HXL_EVENT_PORT_DOWN, .w1c, 0, false, 1, 0⟩,
  ⟨F.HXL_EVENT_RETRAIN, .w1c, 0, false, 1, 0⟩,
  ⟨F.HXL_EVENT_AUTH_FAIL, .w1c, 0, false, 1, 0⟩,
  ⟨F.HXL_EVENT_MSG_BAD, .w1c, 0, false, 1, 0⟩,
  ⟨F.HXL_EVENT_ROUTE_DRAIN, .w1c, 0, false, 1, 0⟩,
  ⟨F.HXL_EVENT_NO_ROUTE, .w1c, 0, false, 1, 0⟩,
  ⟨F.HXL_EVENT_CMD_MISS, .w1c, 0, false, 1, 0⟩,
  ⟨F.HXL_EVENT_EN_EN, .rw, 0, false, 1, 0⟩]

/-- The field rows of block window 7 (R24). -/
def rowsHxl : List FieldRow := rowsHxl0 ++ rowsHxl1 ++ rowsHxl2

def rowsCoh0 : List FieldRow := [
  ⟨F.COH_STATUS_SF_USED, .ro, 0, false, 1, 0⟩,
  ⟨F.COH_STATUS_RECLAIM_BUSY, .ro, 0, false, 1, 0⟩,
  ⟨F.COH_HOLD_NS, .rw, 256, false, 1, 0⟩,
  ⟨F.COH_SNOOP_CFG_TIMEOUT_US, .rw, 100, false, 1, 0⟩,
  ⟨F.COH_SF_ALLOC_COUNT, .ro, 0, false, 1, 0⟩,
  ⟨F.COH_SF_BACKINV_COUNT, .ro, 0, false, 1, 0⟩,
  ⟨F.COH_INV_SENT_COUNT, .ro, 0, false, 1, 0⟩,
  ⟨F.COH_WB_CROSS_COUNT, .ro, 0, false, 1, 0⟩,
  ⟨F.COH_RECLAIM_POISONED_COUNT, .ro, 0, false, 1, 0⟩,
  ⟨F.COH_AGENT_SEL_INDEX, .rw, 0, false, 1, 0⟩,
  ⟨F.COH_AGENT_STATUS_STATE, .ro, 0, false, 1, 0⟩,
  ⟨F.COH_AGENT_STATUS_BY_TIMEOUT, .ro, 0, false, 1, 0⟩,
  ⟨F.COH_AGENT_HELD_ENTRIES, .ro, 0, false, 1, 0⟩,
  ⟨F.COH_AGENT_CTRL_INDEX, .wo, 0, false, 1, 0⟩,
  ⟨F.COH_AGENT_CTRL_DECLARE, .wo, 0, false, 1, 0⟩,
  ⟨F.COH_AGENT_CTRL_REVIVE, .wo, 0, false, 1, 0⟩,
  ⟨F.COH_PROBE_ADDR_LO_ADDR, .rw, 0, false, 1, 0⟩,
  ⟨F.COH_PROBE_ADDR_HI_ADDR, .rw, 0, false, 1, 0⟩,
  ⟨F.COH_PROBE_CTRL_PROBE, .wo, 0, false, 1, 0⟩,
  ⟨F.COH_PROBE_RESULT_DONE, .ro, 0, false, 1, 0⟩]

def rowsCoh1 : List FieldRow := [
  ⟨F.COH_PROBE_RESULT_STATE, .ro, 0, false, 1, 0⟩,
  ⟨F.COH_PROBE_RESULT_COARSE, .ro, 0, false, 1, 0⟩,
  ⟨F.COH_PROBE_RESULT_POINTERS, .ro, 0, false, 1, 0⟩,
  ⟨F.COH_PROBE_RESULT_WAY, .ro, 0, false, 1, 0⟩,
  ⟨F.COH_PROBE_HOLDERS0_HOLDERS, .ro, 0, false, 1, 0⟩,
  ⟨F.COH_PROBE_HOLDERS1_HOLDERS, .ro, 0, false, 1, 0⟩,
  ⟨F.COH_SHADOW_SLOT, .ro, 0, false, 1, 0⟩,
  ⟨F.COH_SHADOW_VALID, .ro, 0, false, 1, 0⟩,
  ⟨F.COH_SHADOW_USED_ENTRIES, .ro, 0, false, 1, 0⟩,
  ⟨F.COH_EVENT_AGENT_DEAD, .w1c, 0, false, 1, 0⟩,
  ⟨F.COH_EVENT_RECLAIM_DONE, .w1c, 0, false, 1, 0⟩,
  ⟨F.COH_EVENT_WB_REFUSED, .w1c, 0, false, 1, 0⟩,
  ⟨F.COH_EVENT_SF_HIGH, .w1c, 0, false, 1, 0⟩,
  ⟨F.COH_EVENT_EN_EN, .rw, 0, false, 1, 0⟩]

/-- The field rows of block window 8 (R24). -/
def rowsCoh : List FieldRow := rowsCoh0 ++ rowsCoh1

def rowsGate0 : List FieldRow := [
  ⟨F.GATE_STATUS_BLOCKS, .ro, 0, false, 1, 0⟩,
  ⟨F.GATE_STATUS_LOST, .ro, 0, false, 1, 0⟩,
  ⟨F.GATE_WAITERS_COUNT, .ro, 0, false, 1, 0⟩,
  ⟨F.GATE_BLK_SEL_BLOCK, .rw, 0, false, 1, 0⟩,
  ⟨F.GATE_BLK_CFG_VALID, .rw, 0, false, 1, 0⟩,
  ⟨F.GATE_BLK_CFG_OWNER_CTX, .rw, 0, false, 1, 0⟩,
  ⟨F.GATE_BLK_CFG_COMPOSITION, .rw, 0, false, 1, 0⟩,
  ⟨F.GATE_BLK_CFG_LOST, .ro, 0, false, 1, 0⟩,
  ⟨F.GATE_BLK_APPLY_APPLY, .wo, 0, false, 1, 0⟩,
  ⟨F.GATE_WD_SEL_CTX, .rw, 0, false, 1, 0⟩,
  ⟨F.GATE_WD_MS, .rw, 10000, false, 1, 0⟩,
  ⟨F.GATE_FENCES_INFLIGHT, .ro, 0, false, 1, 0⟩,
  ⟨F.GATE_COUNT_SIGNAL_COUNT, .ro, 0, false, 1, 0⟩,
  ⟨F.GATE_COUNT_WAKE_COUNT, .ro, 0, false, 1, 0⟩,
  ⟨F.GATE_COUNT_WATCHDOG_COUNT, .ro, 0, false, 1, 0⟩,
  ⟨F.GATE_COUNT_REROUTE_COUNT, .ro, 0, false, 1, 0⟩,
  ⟨F.GATE_COUNT_DUP_ACK_COUNT, .ro, 0, false, 1, 0⟩,
  ⟨F.GATE_WD_LAST_GATE, .ro, 0, false, 1, 0⟩,
  ⟨F.GATE_WD_LAST_VALID, .ro, 0, false, 1, 0⟩,
  ⟨F.GATE_DBG_GATE_INDEX, .rw, 0, false, 1, 0⟩]

def rowsGate1 : List FieldRow := [
  ⟨F.GATE_DBG_VALUE_VALUE, .rw, 0, false, 1, 0⟩,
  ⟨F.GATE_DBG_CTRL_READ, .wo, 0, false, 1, 0⟩,
  ⟨F.GATE_DBG_CTRL_SET, .wo, 0, false, 1, 0⟩,
  ⟨F.GATE_DBG_STATUS_DONE, .ro, 0, false, 1, 0⟩,
  ⟨F.GATE_DBG_STATUS_REFUSED, .ro, 0, false, 1, 0⟩,
  ⟨F.GATE_COUNT_HAND_SET_COUNT, .ro, 0, false, 1, 0⟩,
  ⟨F.GATE_EVENT_WATCHDOG, .w1c, 0, false, 1, 0⟩,
  ⟨F.GATE_EVENT_CLEARED, .w1c, 0, false, 1, 0⟩,
  ⟨F.GATE_EVENT_LOST, .w1c, 0, false, 1, 0⟩,
  ⟨F.GATE_EVENT_HAND_SET, .w1c, 0, false, 1, 0⟩,
  ⟨F.GATE_EVENT_WAITERS_HIGH, .w1c, 0, false, 1, 0⟩,
  ⟨F.GATE_EVENT_FENCE_REROUTE, .w1c, 0, false, 1, 0⟩,
  ⟨F.GATE_EVENT_EN_EN, .rw, 0, false, 1, 0⟩]

/-- The field rows of block window 9 (R24). -/
def rowsGate : List FieldRow := rowsGate0 ++ rowsGate1

def rowsErr0 : List FieldRow := [
  ⟨F.ERR_STATUS_FROZEN, .ro, 0, true, 1, 0⟩,
  ⟨F.ERR_STATUS_FATAL, .ro, 0, true, 1, 0⟩,
  ⟨F.ERR_STATUS_INJ_BUSY, .ro, 0, false, 1, 0⟩,
  ⟨F.ERR_STATUS_GROOM_BUSY, .ro, 0, false, 1, 0⟩,
  ⟨F.ERR_COUNT_CE_COUNT, .ro, 0, false, 1, 0⟩,
  ⟨F.ERR_COUNT_RECOVERED_COUNT, .ro, 0, false, 1, 0⟩,
  ⟨F.ERR_COUNT_CONTAINED_COUNT, .ro, 0, false, 1, 0⟩,
  ⟨F.ERR_COUNT_UNIT_COUNT, .ro, 0, false, 1, 0⟩,
  ⟨F.ERR_COUNT_WIRE_COUNT, .ro, 0, false, 1, 0⟩,
  ⟨F.ERR_COUNT_DIVERGENT_COUNT, .ro, 0, false, 1, 0⟩,
  ⟨F.ERR_COUNT_GEN_REPAIR_COUNT, .ro, 0, false, 1, 0⟩,
  ⟨F.ERR_COUNT_REBUILT_COUNT, .ro, 0, false, 1, 0⟩,
  ⟨F.ERR_CE_CFG_THRESH, .rw, 64, false, 1, 0⟩,
  ⟨F.ERR_CE_CFG_WINDOW, .rw, 16, false, 1, 0⟩,
  ⟨F.ERR_GROOM_CFG_HBM_HOURS, .rw, 1, false, 1, 0⟩,
  ⟨F.ERR_GROOM_CFG_DDR_HOURS, .rw, 24, false, 1, 0⟩,
  ⟨F.ERR_GROOM_CFG_FLASH_DAYS, .rw, 14, false, 1, 0⟩,
  ⟨F.ERR_GROOM_CFG_CLASS, .rw, 14, false, 1, 0⟩,
  ⟨F.ERR_GROOM_CFG_COMPARE, .rw, 1, false, 1, 0⟩,
  ⟨F.ERR_GROOM_CFG_PAUSE, .rw, 0, false, 1, 0⟩]

def rowsErr1 : List FieldRow := [
  ⟨F.ERR_GROOM_PASSES_HBM, .ro, 0, false, 1, 0⟩,
  ⟨F.ERR_GROOM_PASSES_DDR, .ro, 0, false, 1, 0⟩,
  ⟨F.ERR_GROOM_PASSES_FLASH, .ro, 0, false, 1, 0⟩,
  ⟨F.ERR_GROOM_REPAIRS_COUNT, .ro, 0, false, 1, 0⟩,
  ⟨F.ERR_SITZ_STATUS_VALID, .ro, 0, true, 1, 0⟩,
  ⟨F.ERR_SITZ_STATUS_FROZEN, .ro, 0, true, 1, 0⟩,
  ⟨F.ERR_SITZ_STATUS_LOST, .ro, 0, true, 1, 0⟩,
  ⟨F.ERR_SITZ_SEL_ENTRY, .rw, 0, false, 1, 0⟩,
  ⟨F.ERR_SITZ_CTRL_UNFREEZE, .wo, 0, false, 1, 0⟩,
  ⟨F.ERR_SITZ_CTRL_CLEAR, .wo, 0, false, 1, 0⟩,
  ⟨F.ERR_SITZ_W_WORD, .ro, 0, true, 8, 4⟩,
  ⟨F.ERR_FIRST_W_WORD, .ro, 0, true, 8, 4⟩,
  ⟨F.ERR_FIRST_CTRL_CLEAR, .wo, 0, false, 1, 0⟩,
  ⟨F.ERR_CHK_SEL_CHK, .rw, 0, false, 1, 0⟩,
  ⟨F.ERR_CHK_STATUS_WIRE, .ro, 1, false, 1, 0⟩,
  ⟨F.ERR_CHK_STATUS_SEVERITY, .ro, 0, false, 1, 0⟩,
  ⟨F.ERR_CHK_STATUS_MASKED, .ro, 0, false, 1, 0⟩,
  ⟨F.ERR_CHK_STATUS_SOURCE, .ro, 0, false, 1, 0⟩,
  ⟨F.ERR_CHK_STATUS_COUNT, .ro, 0, false, 1, 0⟩,
  ⟨F.ERR_UNIT_SEL_KIND, .rw, 0, false, 1, 0⟩]

def rowsErr2 : List FieldRow := [
  ⟨F.ERR_UNIT_SEL_INDEX, .rw, 0, false, 1, 0⟩,
  ⟨F.ERR_UNIT_STATUS_OFFLINE, .ro, 0, false, 1, 0⟩,
  ⟨F.ERR_UNIT_STATUS_RETIRED, .ro, 0, false, 1, 0⟩,
  ⟨F.ERR_UNIT_STATUS_SUSPECT, .ro, 0, false, 1, 0⟩,
  ⟨F.ERR_UNIT_STATUS_CAUSE, .ro, 0, false, 1, 0⟩,
  ⟨F.ERR_UNIT_STATUS_ERRORS, .ro, 0, false, 1, 0⟩,
  ⟨F.ERR_UNIT_CTRL_ONLINE, .wo, 0, false, 1, 0⟩,
  ⟨F.ERR_INJ_CFG_TARGET, .rw, 0, false, 1, 0⟩,
  ⟨F.ERR_INJ_CFG_SIDE, .rw, 0, false, 1, 0⟩,
  ⟨F.ERR_INJ_CFG_PATTERN, .rw, 0, false, 1, 0⟩,
  ⟨F.ERR_INJ_CFG_FATAL_OK, .rw, 0, false, 1, 0⟩,
  ⟨F.ERR_INJ_ADDR_LO_ADDR, .rw, 0, false, 1, 0⟩,
  ⟨F.ERR_INJ_ADDR_HI_ADDR, .rw, 0, false, 1, 0⟩,
  ⟨F.ERR_INJ_MASK_MASK, .rw, 0, false, 1, 0⟩,
  ⟨F.ERR_INJ_CTRL_FIRE, .wo, 0, false, 1, 0⟩,
  ⟨F.ERR_INJ_STATUS_DONE, .ro, 0, false, 1, 0⟩,
  ⟨F.ERR_INJ_STATUS_REFUSED, .ro, 0, false, 1, 0⟩,
  ⟨F.ERR_EVENT_CE_STORM, .w1c, 0, false, 1, 0⟩,
  ⟨F.ERR_EVENT_RECOVERED, .w1c, 0, false, 1, 0⟩,
  ⟨F.ERR_EVENT_CONTAINED, .w1c, 0, false, 1, 0⟩]

def rowsErr3 : List FieldRow := [
  ⟨F.ERR_EVENT_DIVERGENT, .w1c, 0, false, 1, 0⟩,
  ⟨F.ERR_EVENT_UNIT_OFFLINE, .w1c, 0, false, 1, 0⟩,
  ⟨F.ERR_EVENT_WIRE, .w1c, 0, false, 1, 0⟩,
  ⟨F.ERR_EVENT_GROOM_PASS, .w1c, 0, false, 1, 0⟩,
  ⟨F.ERR_EVENT_SITZ_FROZEN, .w1c, 0, false, 1, 0⟩,
  ⟨F.ERR_EVENT_INJ_DONE, .w1c, 0, false, 1, 0⟩,
  ⟨F.ERR_EVENT_EN_EN, .rw, 0, false, 1, 0⟩]

/-- The field rows of block window 10 (R24). -/
def rowsErr : List FieldRow := rowsErr0 ++ rowsErr1 ++ rowsErr2 ++ rowsErr3

def rowsSec0 : List FieldRow := [
  ⟨F.SEC_STATUS_LC, .ro, 0, false, 1, 0⟩,
  ⟨F.SEC_STATUS_LC_PENDING, .ro, 0, false, 1, 0⟩,
  ⟨F.SEC_STATUS_DBG_LEVEL, .ro, 0, false, 1, 0⟩,
  ⟨F.SEC_STATUS_BOOT_OK, .ro, 0, false, 1, 0⟩,
  ⟨F.SEC_STATUS_BOOT_SLOT, .ro, 0, false, 1, 0⟩,
  ⟨F.SEC_STATUS_MANIFEST, .ro, 0, false, 1, 0⟩,
  ⟨F.SEC_STATUS_BOOT_ERR, .ro, 0, false, 1, 0⟩,
  ⟨F.SEC_DIE_ID_W_DIE_ID, .ro, 0, false, 4, 4⟩,
  ⟨F.SEC_FW_VERSION_VERSION, .ro, 0, false, 1, 0⟩,
  ⟨F.SEC_SVN_FUSED, .ro, 0, false, 1, 0⟩,
  ⟨F.SEC_SVN_IMAGE, .ro, 0, false, 1, 0⟩,
  ⟨F.SEC_SVN_CTRL_COMMIT, .wo, 0, false, 1, 0⟩,
  ⟨F.SEC_OWNER_HASH_W_HASH, .rwl, 0, false, 12, 4⟩,
  ⟨F.SEC_LC_CTRL_PROVISION, .wo, 0, false, 1, 0⟩,
  ⟨F.SEC_LC_RESULT_CODE, .ro, 0, false, 1, 0⟩,
  ⟨F.SEC_ADMIN_PORTS_PORTS, .ro, 0, false, 1, 0⟩,
  ⟨F.SEC_DBG_NONCE_LO_NONCE, .ro, 0, false, 1, 0⟩,
  ⟨F.SEC_DBG_NONCE_HI_NONCE, .ro, 0, false, 1, 0⟩,
  ⟨F.SEC_TOKEN_CTRL_SUBMIT, .wo, 0, false, 1, 0⟩,
  ⟨F.SEC_TOKEN_CTRL_NEW_NONCE, .wo, 0, false, 1, 0⟩]

def rowsSec1 : List FieldRow := [
  ⟨F.SEC_TOKEN_CTRL_LOWER, .wo, 0, false, 1, 0⟩,
  ⟨F.SEC_TOKEN_STATUS_BUSY, .ro, 0, false, 1, 0⟩,
  ⟨F.SEC_TOKEN_STATUS_DONE, .ro, 0, false, 1, 0⟩,
  ⟨F.SEC_TOKEN_STATUS_CODE, .ro, 0, false, 1, 0⟩,
  ⟨F.SEC_DBG_REMAIN_SECONDS, .ro, 0, false, 1, 0⟩,
  ⟨F.SEC_DBG_COMP_COMP, .ro, 0, false, 1, 0⟩,
  ⟨F.SEC_TOKEN_W_WORD, .wo, 0, false, 40, 4⟩,
  ⟨F.SEC_PWR_CTRL_TARGET, .wo, 0, false, 1, 0⟩,
  ⟨F.SEC_PWR_STATUS_STATE, .ro, 0, false, 1, 0⟩,
  ⟨F.SEC_PWR_STATUS_BUSY, .ro, 0, false, 1, 0⟩,
  ⟨F.SEC_PWR_STATUS_REFUSE, .ro, 0, false, 1, 0⟩,
  ⟨F.SEC_KEYS_LOADED, .ro, 0, false, 1, 0⟩,
  ⟨F.SEC_SESSIONS_PORTS, .ro, 0, false, 1, 0⟩,
  ⟨F.SEC_SESSIONS_MGMT, .ro, 0, false, 1, 0⟩,
  ⟨F.SEC_EVENT_TOKEN_DONE, .w1c, 0, false, 1, 0⟩,
  ⟨F.SEC_EVENT_LEVEL_CHANGED, .w1c, 0, false, 1, 0⟩,
  ⟨F.SEC_EVENT_LC_PENDING, .w1c, 0, false, 1, 0⟩,
  ⟨F.SEC_EVENT_PWR_CHANGED, .w1c, 0, false, 1, 0⟩,
  ⟨F.SEC_EVENT_SESSION_FAIL, .w1c, 0, false, 1, 0⟩,
  ⟨F.SEC_EVENT_EN_EN, .rw, 0, false, 1, 0⟩]

/-- The field rows of block window 11 (R24). -/
def rowsSec : List FieldRow := rowsSec0 ++ rowsSec1

def rowsPwr0 : List FieldRow := [
  ⟨F.PWR_STATUS_REGION, .ro, 0, false, 1, 0⟩,
  ⟨F.PWR_STATUS_GLIDE, .ro, 0, false, 1, 0⟩,
  ⟨F.PWR_STATUS_BRACING, .ro, 0, false, 1, 0⟩,
  ⟨F.PWR_STATUS_BRACE_DONE, .ro, 0, false, 1, 0⟩,
  ⟨F.PWR_STATUS_PSU_AC_OK, .ro, 0, false, 1, 0⟩,
  ⟨F.PWR_STATUS_STBY_FROM_VIN, .ro, 0, false, 1, 0⟩,
  ⟨F.PWR_STATUS_LIMIT, .ro, 0, false, 1, 0⟩,
  ⟨F.PWR_CAP_W, .rw, 700, false, 1, 0⟩,
  ⟨F.PWR_SAG_CAP_W, .rw, 500, false, 1, 0⟩,
  ⟨F.PWR_HOT_CAP_W, .rw, 500, false, 1, 0⟩,
  ⟨F.PWR_DEEP_CFG_MV, .rw, 9600, false, 1, 0⟩,
  ⟨F.PWR_RESTART_MS, .rw, 20, true, 1, 0⟩,
  ⟨F.PWR_EFF_CAP_W, .ro, 700, false, 1, 0⟩,
  ⟨F.PWR_THROTTLE_DUTY, .ro, 16, false, 1, 0⟩,
  ⟨F.PWR_THROTTLE_CORE_LIMIT, .ro, 1200, false, 1, 0⟩,
  ⟨F.PWR_VIN_MV, .ro, 0, false, 1, 0⟩,
  ⟨F.PWR_POWER_AVG_1MS, .ro, 0, false, 1, 0⟩,
  ⟨F.PWR_POWER_AVG_100MS, .ro, 0, false, 1, 0⟩,
  ⟨F.PWR_VIN_MINMAX_MIN_MV, .ro, 0, true, 1, 0⟩,
  ⟨F.PWR_VIN_MINMAX_MAX_MV, .ro, 0, true, 1, 0⟩]

def rowsPwr1 : List FieldRow := [
  ⟨F.PWR_ENERGY_LO_MJ, .ro, 0, false, 1, 0⟩,
  ⟨F.PWR_ENERGY_HI_MJ, .ro, 0, false, 1, 0⟩,
  ⟨F.PWR_COUNT_DIST_SAG, .ro, 0, false, 1, 0⟩,
  ⟨F.PWR_COUNT_DIST_SURGE, .ro, 0, false, 1, 0⟩,
  ⟨F.PWR_COUNT_BRACE_COUNT, .ro, 0, true, 1, 0⟩,
  ⟨F.PWR_BRACE_LAST_CAUSE, .ro, 0, true, 1, 0⟩,
  ⟨F.PWR_BRACE_LAST_RESULT, .ro, 0, true, 1, 0⟩,
  ⟨F.PWR_BRACE_LAST_LATER, .ro, 0, true, 1, 0⟩,
  ⟨F.PWR_BRACE_TIME_DONE_US, .ro, 0, true, 1, 0⟩,
  ⟨F.PWR_BRACE_TIME_FLUSH_US, .ro, 0, true, 1, 0⟩,
  ⟨F.PWR_BRACE_BYTES_KIB, .ro, 0, true, 1, 0⟩,
  ⟨F.PWR_CTRL_CLEAR_MINMAX, .wo, 0, false, 1, 0⟩,
  ⟨F.PWR_CTRL_CLEAR_BRACE, .wo, 0, false, 1, 0⟩,
  ⟨F.PWR_EVENT_SAG, .w1c, 0, false, 1, 0⟩,
  ⟨F.PWR_EVENT_SURGE, .w1c, 0, false, 1, 0⟩,
  ⟨F.PWR_EVENT_GLIDE, .w1c, 0, false, 1, 0⟩,
  ⟨F.PWR_EVENT_CAP_UNMET, .w1c, 0, false, 1, 0⟩,
  ⟨F.PWR_EVENT_STBY_LOST, .w1c, 0, false, 1, 0⟩,
  ⟨F.PWR_EVENT_BRACE_RECORD, .w1c, 0, false, 1, 0⟩,
  ⟨F.PWR_EVENT_EN_EN, .rw, 0, false, 1, 0⟩]

/-- The field rows of block window 12 (R24). -/
def rowsPwr : List FieldRow := rowsPwr0 ++ rowsPwr1

def rowsClk0 : List FieldRow := [
  ⟨F.CLK_STATUS_REFCLK_OK, .ro, 0, false, 1, 0⟩,
  ⟨F.CLK_STATUS_ROOT_LOCK, .ro, 0, false, 1, 0⟩,
  ⟨F.CLK_STATUS_HXL_LOCK, .ro, 0, false, 1, 0⟩,
  ⟨F.CLK_STATUS_PCIE_LOCK, .ro, 0, false, 1, 0⟩,
  ⟨F.CLK_STATUS_STBY_OSC_OK, .ro, 0, false, 1, 0⟩,
  ⟨F.CLK_STATUS_SSC_APPLIED, .ro, 0, false, 1, 0⟩,
  ⟨F.CLK_STATUS_SRIS, .ro, 0, false, 1, 0⟩,
  ⟨F.CLK_SSC_DEPTH, .rw, 0, false, 1, 0⟩,
  ⟨F.CLK_STARTUP_STAGE, .ro, 0, false, 1, 0⟩,
  ⟨F.CLK_STARTUP_TIME_US, .ro, 0, false, 1, 0⟩,
  ⟨F.CLK_RESET_CAUSE_POR, .ro, 0, true, 1, 0⟩,
  ⟨F.CLK_RESET_CAUSE_BRACE, .ro, 0, true, 1, 0⟩,
  ⟨F.CLK_RESET_CAUSE_REQUESTED, .ro, 0, true, 1, 0⟩,
  ⟨F.CLK_RESET_CAUSE_SYS_RST, .ro, 0, true, 1, 0⟩,
  ⟨F.CLK_RESET_CAUSE_AFTER_FATAL, .ro, 0, true, 1, 0⟩,
  ⟨F.CLK_RESET_CAUSE_THERMAL, .ro, 0, true, 1, 0⟩,
  ⟨F.CLK_RESET_COUNT_COUNT, .ro, 0, true, 1, 0⟩,
  ⟨F.CLK_PINS_SYS_RST_N, .ro, 0, false, 1, 0⟩,
  ⟨F.CLK_PINS_PERST0_N, .ro, 0, false, 1, 0⟩,
  ⟨F.CLK_PINS_PERST1_N, .ro, 0, false, 1, 0⟩]

def rowsClk1 : List FieldRow := [
  ⟨F.CLK_PINS_FENCE_REQ_N, .ro, 0, false, 1, 0⟩,
  ⟨F.CLK_PINS_PSU_AC_OK, .ro, 0, false, 1, 0⟩,
  ⟨F.CLK_PINS_TRST_N, .ro, 0, false, 1, 0⟩,
  ⟨F.CLK_SLEW_XSPI, .rw, 1, false, 1, 0⟩,
  ⟨F.CLK_SLEW_I3C, .rw, 1, false, 1, 0⟩,
  ⟨F.CLK_SLEW_JTAG, .rw, 2, false, 1, 0⟩,
  ⟨F.CLK_SLEW_STATUS, .rw, 3, false, 1, 0⟩,
  ⟨F.CLK_MEAS_SEL_CLOCK, .rw, 0, false, 1, 0⟩,
  ⟨F.CLK_MEAS_KHZ, .ro, 0, false, 1, 0⟩,
  ⟨F.CLK_EVENT_STARTUP_DONE, .w1c, 0, false, 1, 0⟩,
  ⟨F.CLK_EVENT_SSC_REFUSED, .w1c, 0, false, 1, 0⟩,
  ⟨F.CLK_EVENT_FENCE_REQ, .w1c, 0, false, 1, 0⟩,
  ⟨F.CLK_EVENT_PORT_RESET, .w1c, 0, false, 1, 0⟩,
  ⟨F.CLK_EVENT_EN_EN, .rw, 0, false, 1, 0⟩]

/-- The field rows of block window 13 (R24). -/
def rowsClk : List FieldRow := rowsClk0 ++ rowsClk1

def rowsMgt0 : List FieldRow := [
  ⟨F.MGT_I3C_DYN_ADDR, .ro, 0, false, 1, 0⟩,
  ⟨F.MGT_I3C_ADDR_VALID, .ro, 0, false, 1, 0⟩,
  ⟨F.MGT_I3C_EID, .ro, 0, false, 1, 0⟩,
  ⟨F.MGT_PCIE_EID_PORT0, .ro, 0, false, 1, 0⟩,
  ⟨F.MGT_PCIE_EID_PORT1, .ro, 0, false, 1, 0⟩,
  ⟨F.MGT_PCIE_EID_VALID, .ro, 0, false, 1, 0⟩,
  ⟨F.MGT_FWUP_STATE, .ro, 0, false, 1, 0⟩,
  ⟨F.MGT_FWUP_ACTIVATE_PENDING, .ro, 0, false, 1, 0⟩,
  ⟨F.MGT_FWUP_SLOT, .ro, 0, false, 1, 0⟩,
  ⟨F.MGT_FWUP_LAST_RESULT, .ro, 0, false, 1, 0⟩,
  ⟨F.MGT_FWUP_VERSION_VERSION, .ro, 0, false, 1, 0⟩,
  ⟨F.MGT_METER_SEL_COMP, .rw, 0, false, 1, 0⟩,
  ⟨F.MGT_METER_CTRL_SNAP, .wo, 0, false, 1, 0⟩,
  ⟨F.MGT_METER_TICK_LO_FRAME, .ro, 0, false, 1, 0⟩,
  ⟨F.MGT_METER_TICK_HI_FRAME, .ro, 0, false, 1, 0⟩,
  ⟨F.MGT_METER_LO_VALUE, .ro, 0, false, 4, 8⟩,
  ⟨F.MGT_METER_HI_VALUE, .ro, 0, false, 4, 8⟩,
  ⟨F.MGT_EVENT_FWUP, .w1c, 0, false, 1, 0⟩,
  ⟨F.MGT_EVENT_EVENT_DROPPED, .w1c, 0, false, 1, 0⟩,
  ⟨F.MGT_EVENT_PMC_OVF, .w1c, 0, false, 1, 0⟩]

def rowsMgt1 : List FieldRow := [
  ⟨F.MGT_EVENT_EN_EN, .rw, 0, false, 1, 0⟩,
  ⟨F.PMC_CTRL_SNAP, .wo, 0, false, 1, 0⟩,
  ⟨F.PMC_CTRL_FREEZE, .wo, 0, false, 1, 0⟩,
  ⟨F.PMC_CTRL_UNFREEZE, .wo, 0, false, 1, 0⟩,
  ⟨F.PMC_CTRL_CLEAR_ALL, .wo, 0, false, 1, 0⟩,
  ⟨F.PMC_STATUS_FROZEN, .ro, 0, false, 1, 0⟩,
  ⟨F.PMC_STATUS_SNAP_BUSY, .ro, 0, false, 1, 0⟩,
  ⟨F.PMC_SEL_COUNTER, .rw, 0, false, 1, 0⟩,
  ⟨F.PMC_CFG_EVENT, .rw, 0, false, 1, 0⟩,
  ⟨F.PMC_CFG_EN, .rw, 0, false, 1, 0⟩,
  ⟨F.PMC_CFG_MODE, .rw, 0, false, 1, 0⟩,
  ⟨F.PMC_CFG_CHAIN, .rw, 0, false, 1, 0⟩,
  ⟨F.PMC_CFG_FREEZE_ON_OVF, .rw, 0, false, 1, 0⟩,
  ⟨F.PMC_CFG_OVF, .w1c, 0, false, 1, 0⟩,
  ⟨F.PMC_CFG_UNIT, .rw, 4095, false, 1, 0⟩,
  ⟨F.PMC_THRESH_THRESH, .rw, 0, false, 1, 0⟩,
  ⟨F.PMC_VALUE_LO_VALUE, .rw, 0, false, 1, 0⟩,
  ⟨F.PMC_VALUE_HI_VALUE, .rw, 0, false, 1, 0⟩,
  ⟨F.PMC_SNAP_LO_VALUE, .ro, 0, false, 1, 0⟩,
  ⟨F.PMC_SNAP_HI_VALUE, .ro, 0, false, 1, 0⟩]

def rowsMgt2 : List FieldRow := [
  ⟨F.PMC_OWNER_FUNC, .rw, 0, false, 1, 0⟩,
  ⟨F.PMC_OWNER_VIDX, .rw, 0, false, 1, 0⟩,
  ⟨F.PMC_OWNER_ASSIGNED, .rw, 0, false, 1, 0⟩,
  ⟨F.PMC_OWNER_GLOBAL_OK, .rw, 0, false, 1, 0⟩,
  ⟨F.PMC_OVF_FIRST_COUNTER, .ro, 0, false, 1, 0⟩,
  ⟨F.PMC_OVF_FIRST_VALID, .w1c, 0, false, 1, 0⟩,
  ⟨F.PMC_V_CTRL_SNAP, .wo, 0, false, 1, 0⟩,
  ⟨F.PMC_V_CTRL_FREEZE, .wo, 0, false, 1, 0⟩,
  ⟨F.PMC_V_CTRL_UNFREEZE, .wo, 0, false, 1, 0⟩,
  ⟨F.PMC_V_ASSIGNED_MASK, .ro, 0, false, 1, 0⟩]

/-- The field rows of block window 14 (R24). -/
def rowsMgt : List FieldRow := rowsMgt0 ++ rowsMgt1 ++ rowsMgt2

/-- The rows of the block window that holds an offset (R24: 1 MiB windows). -/
def blockRows (off : Nat) : List FieldRow :=
  match off / 0x100000 with
  | 0 => rowsCmdq
  | 1 => rowsFn
  | 2 => rowsPst
  | 3 => rowsXlt
  | 4 => rowsTier
  | 5 => rowsCore
  | 6 => rowsSvc
  | 7 => rowsHxl
  | 8 => rowsCoh
  | 9 => rowsGate
  | 10 => rowsErr
  | 11 => rowsSec
  | 12 => rowsPwr
  | 13 => rowsClk
  | 14 => rowsMgt
  | _ => []

/-- A row covers the register at `off`. -/
def FieldRow.covers (r : FieldRow) (off : Nat) : Bool :=
  if r.count = 1 then r.fld.off = off
  else decide (r.fld.off ≤ off) && decide (off < r.fld.off + r.count * r.stride) && ((off - r.fld.off) % r.stride == 0)

/-- The field rows of one register; none for an offset where no register is listed (R9). -/
def regRows (off : Nat) : List FieldRow := (blockRows off).filter fun r => r.covers off

/-- The reset word of a register: its fields' reset values (R11), reserved bits 0 (R9). -/
def resetWord (off : Nat) : Word :=
  (regRows off).foldl (fun w r => setBf w r.fld.hi r.fld.lo r.reset) 0

/-- Every row of every block window. -/
def allRows : List FieldRow :=
  rowsCmdq ++ rowsFn ++ rowsPst ++ rowsXlt ++ rowsTier ++ rowsCore ++ rowsSvc ++ rowsHxl ++ rowsCoh ++ rowsGate ++ rowsErr ++ rowsSec ++ rowsPwr ++ rowsClk ++ rowsMgt

end Sys2Proof.Machine
end

