-- ==== Sys2Proof/Machine/StCore.lean ====
section
/-!
DEFINITION. State of the edge cores (spec/06_edge_cores.md): recipe slots, invocations, Pockets, hold sets. Registers of
the CORE window with no structure of their own stand in the register file.
-/
namespace Sys2Proof.Machine

/-- A port of an invocation (R224). -/
structure InvPort where
  /-- port number 0 to 15 -/
  num : Nat
  base : Nat
  len : Nat
  read : Bool := true
  write : Bool := false
  atomic : Bool := false
  /-- the segments captured at the command's acceptance, a bit set (R149) -/
  segs : Nat := 0
  deriving DecidableEq, Repr

/-- An invocation record (R224). -/
structure Invocation where
  slot : Nat
  ports : List InvPort
  /-- S0 to S15 -/
  scalars : List Nat
  seed : Nat
  comp : Nat
  epoch : Nat
  /-- the command it works for and the work item its end answers (R252) -/
  entry : Nat
  item : Nat
  /-- the hook's cycle limit, 0 for none (R254) -/
  hookLimit : Nat := 0
  /-- restarted once after its core failed (R252) -/
  restarted : Bool := false
  deriving DecidableEq, Repr

/-- A stream step issued and not settled (R228): its step number, its rows as RSA and Pocket address pairs, and for a
store the Pocket bytes as they stood at issue. -/
structure StreamStep where
  step : Nat
  /-- number of the step among those its core has issued -/
  seq : Nat := 0
  op : Nat
  token : Nat
  /-- row bytes -/
  rowLen : Nat
  /-- store address of each row (none: a gather miss) and its Pocket address -/
  rows : List (Option Nat × Nat)
  /-- FMT_D of an ATOMIC_ADD is FP32 -/
  float : Bool := false
  hold : Bool := false
  data : List (List Byte) := []
  /-- the row after these fails its checks with this recipe fault (R225) -/
  fault : Option Nat := none
  deriving DecidableEq, Repr

/-- The hold set of a core (R231): granules acquired and granules still to acquire, ascending. -/
structure HoldSet where
  got : List Nat
  want : List Nat
  deriving DecidableEq, Repr

/-- What a flag record counts (R248). -/
structure FlagRec where
  nanIn : Nat := 0
  saturated : Nat := 0
  nanMade : Nat := 0
  indexMiss : Nat := 0
  topkNan : Nat := 0
  deriving DecidableEq, Repr

/-- A running invocation. -/
structure Running where
  inv : Invocation
  /-- the recipe it captured (R255) -/
  recipe : List Byte
  /-- S0 to S15 as the steps have left them -/
  scalars : List Nat := []
  step : Nat := 0
  /-- loops entered, innermost first: number of the LOOP step, iterations left with the present one -/
  loops : List (Nat × Nat) := []
  /-- running offsets in 8-byte units, keyed 4 * step + operand (0 D, 1 A, 2 B, 3 C); SINC of a stream step at operand 1 -/
  offs : Tab Int := {}
  /-- stream steps in flight, in issue order (R228) -/
  stream : List StreamStep := []
  /-- output elements written by each step (R241) -/
  drawn : Tab Nat := {}
  flags : FlagRec := {}
  hold : Option HoldSet := none
  /-- a STORE, SCATTER, ATOMIC_ADD or SIGNAL has settled (R252) -/
  settled : Bool := false
  /-- the item of a SIGNAL that its gate's home has not answered (R247) -/
  signal : Option Nat := none
  deriving DecidableEq, Repr

/-- One edge core (R217 to R220). -/
structure Core where
  queue : List Invocation := []
  run : Option Running := none
  /-- Pocket bytes by address, no zero listed (R221) -/
  pocket : List Host.Cell := []
  /-- Pocket words whose check bits an injection has inverted, and whether the code can correct them (R492) -/
  flips : List (Nat × Bool) := []
  /-- recipe slot and composition of the previous invocation, none after a reset (R223) -/
  last : Option (Nat × Nat) := none
  /-- invocations completed -/
  done : Nat := 0
  /-- stream steps issued, which number what they ask other members for -/
  seq : Nat := 0
  deriving DecidableEq, Repr

/-- A recipe slot's content (R244, R254). -/
structure RecipeSlot where
  recipe : List Byte
  version : Nat := 0
  deriving DecidableEq, Repr

structure CoreState where
  cores : Tab Core := {}
  /-- recipe slots 0 to 511 that hold a recipe -/
  slots : Tab RecipeSlot := {}
  /-- highest VERSION of each extension slot since power-on reset (R251) -/
  highest : Tab Nat := {}
  /-- waiters for held granules in order of arrival (R231): core, granule -/
  waiters : List (Nat × Nat) := []
  /-- invocations whose eligible queues were all full (R220), oldest first -/
  waiting : List Invocation := []
  /-- an extension load is reading its image: its physical function, address and length -/
  loading : Option (Nat × Nat × Nat) := none
  deriving DecidableEq, Repr

end Sys2Proof.Machine
end

