-- ==== Sys2Proof/Machine/StCmdq.lean ====
section
/-!
DEFINITION. State of the command intake (spec/02_command_packets.md): queue pairs, intake sources, the lift line,
result slots, MSI-X. Every structure's default values are the state after reset.
-/
namespace Sys2Proof.Machine

/-- The states of a queue pair (R47). -/
inductive QpState where
  | disabled | enabled | draining | error
  deriving DecidableEq, Repr

def QpState.code : QpState → Nat
  | .disabled => 0 | .enabled => 1 | .draining => 2 | .error => 3

/-- One queue pair (R38 to R49, R662, R91). -/
structure QueuePair where
  /-- R47 -/
  state : QpState := .disabled
  /-- FN_QP_STATUS.ERR_CODE (R49) -/
  errCode : Nat := 0
  /-- FN_SQ_BASE (R91) -/
  sqBase : Nat := 0
  /-- FN_CQ_BASE (R91) -/
  cqBase : Nat := 0
  /-- FN_QP_SIZE.SQ_LOG2 -/
  sqLog2 : Nat := 4
  /-- FN_QP_SIZE.CQ_LOG2 -/
  cqLog2 : Nat := 4
  /-- FN_CQ_COAL.COUNT -/
  coalCount : Nat := 1
  /-- FN_CQ_COAL.TIME_US -/
  coalTime : Nat := 0
  /-- Ring indices (R42) -/
  sqHead : Nat := 0
  sqTail : Nat := 0
  cqHead : Nat := 0
  cqTail : Nat := 0
  /-- The phase of the present pass (R68) -/
  phase : Bool := true
  /-- CQ slots reserved by fetched commands (R44) -/
  reserved : Nat := 0
  /-- Completions without NO_INTR since the last message (R70); not 0 means the TIME_US delay runs -/
  unsignalled : Nat := 0
  /-- R662: after code 0x3 or 0x4 no completion is written until the next ENABLE -/
  silent : Bool := false
  deriving DecidableEq, Repr

/-- A live result slot (R75, R77). Offsets and lengths are in 256-byte units. -/
structure Slot where
  offset : Nat
  len : Nat
  gen : Nat
  /-- the lift-line entry whose completion is still due, none once it is written -/
  owner : Option Nat
  deriving DecidableEq, Repr

/-- One of the 144 intake sources (R62, R141): its settings and counts. -/
structure Source where
  /-- FN_LIMITS.QP_ALLOT -/
  qpAllot : Nat := 0
  /-- lift-line reserve (R62) -/
  reserve : Nat := 0
  /-- lift-line limit (R62) -/
  limit : Nat := 16384
  /-- FN_CMD_TIMEOUT.MS (R84) -/
  timeoutMs : Nat := 10000
  /-- FN_PERM.OPC_RANGES -/
  opcRanges : Nat := 0x1F
  /-- FN_PERM.CLASS_MASK -/
  classMask : Nat := 0x7FFF
  /-- FN_RESULT_SIZE.SIZE, 64 KiB units -/
  resultSize : Nat := 0
  /-- FN_MISS_COUNT -/
  abortMiss : Nat := 0
  releaseStale : Nat := 0
  /-- live result slots, in allocation order (R75) -/
  slots : List Slot := []
  /-- generation of the last allocation (R77) -/
  slotGen : Nat := 0
  /-- FN_QP_ERR_FIRST: the queue pair, none while VALID is 0 -/
  qpErrFirst : Option Nat := none
  /-- HXL ports: command credits the link partner holds (R52) -/
  credits : Nat := 0
  /-- command credits on their way to it in CMD_CPL messages (R53), and in CTRL GRANT messages, oldest first (R386) -/
  creditsDue : Nat := 0
  grants : List Nat := []
  /-- function enabled for ATS (R154); PCI configuration state the host sets -/
  atsEnabled : Bool := true
  /-- R156: an earlier Response Failure stands for the function -/
  priBlocked : Bool := false
  deriving DecidableEq, Repr

/-- Where a lift-line entry was taken from (R62, R63). -/
inductive EntryPool where
  | reserve | shared | kept
  /-- no entry of this member's lift line: a command of another member's line, served here -/
  | away
  deriving DecidableEq, Repr

/-- The life of a fetched command (R44, R58, R61, R81, R82). -/
inductive Phase where
  /-- fetched, no entry free for it: it holds none and no check is made (R44) -/
  | held
  /-- holds an entry, checks of R57 not made yet -/
  | fetched
  /-- accepted (R58); its work is not done yet -/
  | accepted
  /-- its outcome is fixed and every home has answered: the completion may be written -/
  | ended
  deriving DecidableEq, Repr

/-- Why an accepted command is being stopped (R80, R84, R88, R173, R569). -/
inductive Stop where
  | abortTag | abortAll | flr | timeout | fenced | brace
  /-- with its subcode: 0x40 by REVOKE, 0x41 by MIGRATE_OUT (R170, R173) -/
  | revoked (sub : Nat)
  deriving DecidableEq, Repr

/-- One work item sent to another member (R34, R82), by the member it went to. What it carries is in `RackState.away`. -/
structure Item where
  /-- the member that serves it -/
  home : Nat
  /-- item ID, unique among the member's items (R511) -/
  id : Nat
  /-- effect classes it may have, a bit set (R83) -/
  classes : Nat
  /-- had begun, as the home last reported -/
  begun : Bool := true
  /-- a cancel was sent for it (R81) -/
  cancelled : Bool := false
  /-- twin-issued (R85, R86): the ID of the other copy's item while that copy has not answered -/
  other : Option Nat := none
  /-- how the other copy failed (R86) -/
  failure : Option (Nat × Nat) := none
  /-- a transfer of a cancelled invocation that had been issued and is awaited only (R253) -/
  transfer : Bool := false
  deriving DecidableEq, Repr

/-- A command this member performs for another: its intake member, the item by which it came, and whether this member performs
its own part of it only, or the whole of it as the anchor (R260, R291, R326, R343). -/
structure Proxy where
  origin : Nat
  item : Nat
  part : Bool
  deriving DecidableEq, Repr

/-- Where the second copy of what a command reads stands (R85, R277): its mirror, the same row in the window of the next slot, or
nowhere. -/
inductive Second where
  | mirror | rowMirror | nextWindow | none
  deriving DecidableEq, Repr

/-- A captured store range (R149): the deciding segments with the access asked for. -/
structure Capture where
  first : Nat
  len : Nat
  /-- segments used, a bit set -/
  segs : Nat
  /-- 0 read, 1 write, 2 atomic -/
  access : Nat
  deriving DecidableEq, Repr

/-- The completion record's content (R66), less PHASE, QP and SQ_HEAD. -/
structure Outcome where
  status : Nat := 0
  subcode : Nat := 0
  result0 : Nat := 0
  result1 : Nat := 0
  countDone : Nat := 0
  countAux : Nat := 0
  absent : Nat := 0
  homes : Nat := 0
  fellBack : Bool := false
  twinned : Bool := false
  /-- RESULT_IN_AREA with its handle and length -/
  area : Option (Nat × Nat) := none
  deriving DecidableEq, Repr

/-- A host page of a DMA command whose translation is missing or failed (R156). -/
structure MissPage where
  page : Nat
  /-- page request groups for it that ended in Success -/
  successes : Nat := 0
  /-- a page request group for it is outstanding -/
  asked : Bool := false
  /-- its group ended in Success: it is to be translated again -/
  again : Bool := false
  /-- it has failed for good: the subcode of XLT_FAULT -/
  fail : Option Nat := none
  deriving DecidableEq, Repr

/-- A DMA command's progress (R155 to R160, R167, R169, R170). -/
structure Dma where
  /-- bytes moved (pages translated, for PREFETCH_HOST) -/
  moved : Nat := 0
  /-- bytes for which a transfer has been issued -/
  issued : Nat := 0
  /-- bytes received in order and held until their destination granule is whole (R157 step 1) -/
  held : List (BitVec 8) := []
  /-- DMA reads outstanding: offset in the range and length -/
  reads : List (Nat × Nat) := []
  /-- data of reads that completed ahead of an earlier one, by offset -/
  got : Tab (List (BitVec 8)) := {}
  /-- host pages with a Translation Request outstanding -/
  want : List Nat := []
  missing : List MissPage := []
  /-- page requests issued in all (R165) -/
  requests : Nat := 0
  /-- bytes of the store range that translated at acceptance (R159), and the failure of the next one -/
  good : Nat := 0
  storeFail : Nat × Nat := (0, 0)
  /-- an offset at which the command ends once every earlier byte has moved: offset, STATUS, SUBCODE -/
  fail : Option (Nat × Nat × Nat) := none
  deriving DecidableEq, Repr

/-- A command in flight: one lift-line entry (R61). -/
structure Entry where
  src : Nat
  qp : Nat := 0
  packet : BitVec 512 := 0
  /-- SQ head after this command's fetch (R66) -/
  sqHead : Nat := 0
  /-- order of fetch within its SQ (R59) -/
  order : Nat := 0
  phase : Phase := .fetched
  pool : EntryPool := .shared
  /-- an HXL command's sender, for the answer (R51) -/
  endpoint : Nat := 0
  /-- CLASS of the CMD message (R389) -/
  msgClass : Nat := 0
  /-- the parameter block as read (R56) -/
  block : List Byte := []
  /-- captured translations (R149) -/
  captures : List Capture := []
  segGen : Nat := 0
  revEpoch : Nat := 0
  /-- the map epoch captured (R58) -/
  epoch : Nat := 0
  /-- the table version captured, where the opcode captures one (R58) -/
  version : Nat := 0
  /-- R59: BARRIER not yet released -/
  barrier : Bool := false
  /-- passed every check of R57 (R58) -/
  accepted : Bool := false
  /-- work items whose commit acknowledgement is recorded (R82, R83) -/
  acked : Nat := 0
  /-- members that have served an item of it (R66) -/
  served : List Nat := []
  /-- a command of another member, performed here for it -/
  proxy : Option Proxy := none
  /-- how many of the opcode's phases are behind it, for an opcode that runs in several (R185, R203) -/
  stage : Nat := 0
  /-- the opcode's effect has been performed at this member -/
  started : Bool := false
  /-- work items sent to other members and not answered -/
  items : List Item := []
  /-- effect classes of which some item began (R83) -/
  begun : Nat := 0
  out : Outcome := {}
  stop : Option Stop := none
  /-- result slot allocated at acceptance (offset, length in 256-byte units) -/
  slot : Option (Nat × Nat) := none
  /-- results that go into the slot before the completion is written (R71) -/
  pend : List (BitVec 8) := []
  dma : Dma := {}
  /-- of what it reads with TWIN = 1, the second copy -/
  second : Second := .mirror
  /-- addresses of the rows that a gather fetches, or of the edge records of a walk, which their homes count (R272, R310) -/
  rowAt : List Nat := []
  /-- addresses of the vectors that a walk has ranked, counted by their homes too (R310) -/
  rankAt : List Nat := []
  /-- its transfer with the host is under way (R155) -/
  moving : Bool := false
  /-- output that goes to host memory (R275): its IOVA, its bytes, and the local item that the transfer answers -/
  buffer : Option (Nat × List Byte × Nat) := none
  /-- R173: marked by a revocation; the items whose hold answers are due -/
  marked : Bool := false
  holdDue : List Nat := []
  /-- what the answers of other members returned beyond their counts -/
  reply : List Nat := []
  /-- the flag records of its invocations and of the arithmetic done for it, summed (R248) -/
  flags : FlagRec := {}
  /-- SEG_GEN of TARGET_CTX at acceptance (R172) -/
  targetGen : Nat := 0
  /-- R172, R173: entries waited for when accepted, still in flight -/
  waitsFor : List Nat := []
  /-- waits counted at acceptance: commands, raw transactions (R165) -/
  waited : Nat := 0
  rawWaited : Nat := 0
  /-- its place among the member's accepted commands (R203), and the rack frame of acceptance -/
  acceptNo : Nat := 0
  acceptFrame : Nat := 0
  /-- HXL: its CMD_CPL has been sent, with so many credits, and not delivered yet (R53, R61) -/
  cplSent : Option Nat := none
  deriving DecidableEq, Repr

/-- The intake block's state. -/
structure CmdqState where
  /-- settings of the intake sources that differ from their reset values, by source number (R141) -/
  sources : Tab Source := {}
  /-- queue pairs, keyed 2048 * source + local number (R38) -/
  qps : Tab QueuePair := {}
  /-- the lift line and fetched packets (R61), by entry identity -/
  entries : Tab Entry := {}
  /-- identity of the next fetched command -/
  nextId : Nat := 0
  /-- order of the next fetch -/
  nextOrder : Nat := 0
  /-- MSI-X vectors unmasked, keyed 2048 * function + vector (R70) -/
  unmasked : Tab Bool := {}
  /-- MSI-X pending bits (R70), same key -/
  pbaPending : Tab Bool := {}
  /-- PRI of each port's physical function enabled (R156) -/
  priEnabled : List Bool := [true, true]
  /-- Outstanding Page Request Allocation of each port (R156) -/
  priAlloc : List Nat := [512, 512]
  deriving DecidableEq, Repr

end Sys2Proof.Machine
end

