-- ==== Sys2Proof/Machine/StCoh.lean ====
section
/-!
DEFINITION. State of coherence (spec/11_coherence_and_memory_model.md): the snoop filter, transactions, queued
requests, outstanding INVs, agents, reclaims and the shadow filter.
-/
namespace Sys2Proof.Machine

/-- A snoop-filter entry (R411). BUSY is that a transaction on the granule is in progress. -/
structure SfEntry where
  owned : Bool
  coarse : Bool
  /-- POINTER form: at most four endpoint indexes -/
  holders : List Nat
  /-- COARSE form: the 64-bit vector -/
  vector : Nat
  way : Nat
  /-- allocation order, for the victim of R412 -/
  order : Nat
  /-- R419: the owner's hold time has not passed -/
  hold : Bool
  deriving DecidableEq, Repr

/-- What a queued request asks of the home (R414). -/
inductive CohKind where
  | rd (noCache : Bool) | rdOwn | wr | wrp (mask : Nat)
  | atom (aop : Nat) (w64 noReturn : Bool) (scope : Nat) (opa opb : Nat)
  | wb
  /-- an access of this member's command (a read or a write) -/
  | cmdRead (entry : Nat) | cmdWrite (entry : Nat)
  /-- a victim's eviction (R412), a back-invalidation (R424) -/
  | evict | backInv (entry : Nat)
  deriving DecidableEq, Repr

/-- A request at the home. -/
structure CohReq where
  id : Nat
  kind : CohKind
  granule : Nat
  /-- byte address (ATOM) -/
  addr : Nat
  /-- requester ID (R395) and its endpoint index, when it is a caching endpoint -/
  src : Nat
  index : Option Nat
  /-- member it came through: this member's port, or the receiving member -/
  port : Nat
  tag : Nat
  cls : Nat
  ctx : Nat
  data : List Byte
  deriving DecidableEq, Repr

/-- An INV not answered yet (R416). -/
structure Inv where
  granule : Nat
  index : Nat
  recalls : Bool
  back : Bool
  /-- R418: the owner's WB was taken as the answer; only the INV_ACK is missing -/
  crossed : Bool
  /-- R418: an INV_ACK with NOT_HELD came first from an owner whose WB is under way -/
  ackedFirst : Bool
  deriving DecidableEq, Repr

/-- A transaction in progress (R413): its request, and whether that request has been answered. -/
structure CohTxn where
  req : CohReq
  answered : Bool
  deriving DecidableEq, Repr

/-- The states of an endpoint index (R421). -/
inductive AgentState where
  | live | dead | reclaimed
  deriving DecidableEq, Repr

def AgentState.code : AgentState → Nat
  | .live => 0 | .dead => 1 | .reclaimed => 2

structure Agent where
  state : AgentState := .live
  byTimeout : Bool := false
  deriving DecidableEq, Repr

structure CohState where
  /-- snoop filter entries, by RSA / 128 -/
  sf : Tab SfEntry := {}
  nextOrder : Nat := 0
  /-- requests queued for a granule, in arrival order (R413) -/
  queue : List CohReq := []
  txns : List CohTxn := []
  invs : List Inv := []
  agents : Tab Agent := {}
  /-- extent walks under way: revocation entries (R424) -/
  walks : List Nat := []
  /-- the slot whose shadow this member holds, with the shadow's entries (R423) -/
  shadowSlot : Option Nat := none
  shadow : Tab SfEntry := {}
  nextReq : Nat := 0
  /-- answers to raw requests that wait until the mirror has the write (R474): request, message type, STATUS, SUBCODE, data -/
  due : List (CohReq × Nat × Nat × Nat × List Byte) := []
  deriving DecidableEq, Repr

end Sys2Proof.Machine
end

