-- ==== Sys2Proof/Machine/StEmb.lean ====
section
/-!
DEFINITION. State of the embedding table service (spec/07_embedding_tables.md) at one member.
-/
namespace Sys2Proof.Machine

/-- Location fields of a descriptor (R266): the part that publication changes. -/
structure EmbLoc where
  band0 : Nat
  band1 : Nat
  band1First : Nat
  default : Nat
  deriving DecidableEq, Repr

/-- A defined table (R259, R287 to R289). -/
structure EmbTable where
  /-- the 128-byte descriptor (R266); its location fields are those of the definition -/
  desc : List (BitVec 8)
  comp : Nat
  version : Nat := 1
  loc : EmbLoc
  /-- the retiring version's location fields, while RETIRING -/
  old : Option EmbLoc := none
  /-- open step of a DETERMINISTIC table -/
  step : Nat := 1
  deriving DecidableEq, Repr

/-- A contribution in a step buffer (R284): the combined gradient in FP32 codes. -/
structure Contribution where
  table : Nat
  row : Nat
  step : Nat
  srcNode : Nat
  seq : Nat
  g : List Nat
  deriving DecidableEq, Repr

structure EmbState where
  tables : Tab EmbTable := {}
  /-- working space reserved, bytes by lift-line entry (R276, R279) -/
  work : Tab Nat := {}
  /-- updates that wait for a reservation, in order of acceptance -/
  waiting : List Nat := []
  /-- the step buffer, in order of arrival (R284) -/
  steps : List Contribution := []
  /-- sizes in force since the last store bring-up, MiB (R290) -/
  workMib : Nat := 512
  stepMib : Nat := 256
  deriving DecidableEq, Repr

end Sys2Proof.Machine
end

