-- ==== Sys2Proof/Machine/StErr.lean ====
section
/-!
DEFINITION. State of error collection (spec/13_reliability.md): units, checkers, corrected-error windows, the
Sitzmark, ERR_FIRST, the Groomer and fault injection. Registers of the ERR window with no structure of their own
stand in the register file.
-/
namespace Sys2Proof.Machine

/-- What a collector knows of an error (R489). -/
structure ErrInfo where
  source : Nat
  severity : Nat
  chk : Nat := 0xFFF
  unitKind : Nat := 15
  unitIndex : Nat := 0
  addr : Nat := 0
  info : Nat := 0
  inj : Bool := false
  storm : Bool := false
  security : Bool := false
  deriving DecidableEq, Repr

/-- ERR_UNIT_STATUS of one unit (R487, R493). -/
structure UnitRec where
  offline : Bool := false
  retired : Bool := false
  suspect : Bool := false
  cause : Nat := 0
  errors : Nat := 0
  /-- program and erase failures counted toward retirement of a flash die (R486, 0x32) -/
  failures : Nat := 0
  /-- sectors of the die that failed R471 in the present pass (R486, 0x32) -/
  sectorFails : Nat := 0
  /-- goes offline once its running invocation ends (R486, 0x31) -/
  due : Bool := false
  /-- frame of the last POCKET_ECC of a core (R486, 0x31) -/
  lastPocketEcc : Option Nat := none
  deriving DecidableEq, Repr

/-- A corrected-error window of one source (R485). -/
structure CeWindow where
  window : Nat := 0
  count : Nat := 0
  stormed : Bool := false
  /-- the last error counted -/
  last : Option ErrInfo := none
  deriving DecidableEq, Repr

/-- A checker (R483): the rails as last sampled, T then C, and its error count. -/
structure Checker where
  railT : Bool := false
  railC : Bool := true
  count : Nat := 0
  deriving DecidableEq, Repr

/-- An injection that has not fired yet (R491, R492). -/
structure Injection where
  target : Nat
  side : Nat
  pattern : Nat
  addr : Nat
  mask : Nat
  deriving DecidableEq, Repr

structure ErrState where
  /-- keyed 4096 * UNIT_KIND + UNIT_INDEX (R489) -/
  units : Tab UnitRec := {}
  windows : Tab CeWindow := {}
  checkers : Tab Checker := {}
  /-- Sitzmark entries, newest first, at most 64 (R489) -/
  sitz : List (BitVec 256) := []
  /-- entries written since power-on reset (R489 SEQ) -/
  sitzSeq : Nat := 0
  /-- ERR_FIRST (R490) -/
  first : Option (BitVec 256) := none
  /-- a reset has followed the FATAL error (R490) -/
  fatalResetSeen : Bool := false
  injection : Option Injection := none
  /-- next granule of the Groomer, by tier (R480) -/
  groomAt : List Nat := [0, 0, 0]
  /-- channels whose bus errors asked for a retraining (R470), keyed 256 * UNIT_KIND + UNIT_INDEX -/
  busRetrained : Tab Bool := {}
  deriving DecidableEq, Repr

end Sys2Proof.Machine
end

