-- ==== Sys2Proof/Machine/StGate.lean ====
section
/-!
DEFINITION. State of gates, waits and fences (spec/12_gates_and_fences.md).
Gates and blocks are keyed by the home slot as well as by their number, because a member may come to serve a second
slot with gates of its own (R439, R458): gate key = 262144 * slot + index, block key = 1024 * slot + block.
-/
namespace Sys2Proof.Machine

/-- A block record (R440). -/
structure GateBlock where
  valid : Bool := false
  comp : Nat := 0
  ownerCtx : Nat := 0
  lost : Bool := false
  deriving DecidableEq, Repr

/-- Wait modes (R445). -/
inductive WaitMode where
  | ge | eq | ne
  deriving DecidableEq, Repr

/-- A held wait: one waiter table entry (R449). -/
structure Waiter where
  gate : Nat
  mode : WaitMode
  target : Nat
  /-- the intake member and that member's lift-line entry -/
  intake : Nat
  entry : Nat
  /-- frame of arrival -/
  since : Nat
  deriving DecidableEq, Repr

/-- One fence in flight (R460 to R464). -/
structure Fence where
  entry : Nat
  id : Nat
  src : Nat
  /-- destinations not yet acknowledged: member and snapshot -/
  waiting : List (Nat × Nat)
  /-- destinations whose first ACK was taken -/
  acked : List Nat
  /-- DRAIN REROUTE messages met (R448) -/
  reroutes : Nat
  deriving DecidableEq, Repr

/-- A DRAIN PROBE waiting at its destination (R460). -/
structure Probe where
  origin : Nat
  source : Nat
  fenceId : Nat
  count : Nat
  deriving DecidableEq, Repr

/-- A PROBE or REROUTE sent (R462). -/
structure SentProbe where
  origin : Nat
  fenceId : Nat
  target : Nat
  source : Nat
  count : Nat
  port : Nat
  frame : Nat
  deriving DecidableEq, Repr

structure GateState where
  /-- values that are not 0 -/
  vals : Tab Nat := {}
  blocks : Tab GateBlock := {}
  /-- check bits of a gate inverted by an injection and not read yet: 1 correctable, 2 not (R438, R492) -/
  flips : Tab Nat := {}
  waiters : List Waiter := []
  /-- GATE_WD, by context; unlisted: 10,000 ms -/
  watchdog : Tab Nat := {}
  fences : List Fence := []
  nextFence : Nat := 0
  /-- SENT[s][d], keyed 128 * s + d; a destination of 64 or more is the entry member of another rack (R460) -/
  sent : Tab Nat := {}
  /-- ENDED[i][s], keyed 144 * i + s -/
  ended : Tab Nat := {}
  /-- ABANDONED, keyed likewise -/
  abandoned : Tab Nat := {}
  /-- the count each destination has last acknowledged, keyed likewise -/
  ackedCount : Tab Nat := {}
  probes : List Probe := []
  sentProbes : List SentProbe := []
  /-- block records held for the slot whose shadow this member holds (R458) -/
  shadowBlocks : Tab GateBlock := {}
  deriving DecidableEq, Repr

end Sys2Proof.Machine
end

