-- ==== Sys2Proof/Machine/StHxl.lean ====
section
/-!
DEFINITION. State of the Hexolafin Link fabric (spec/10_hxl_fabric.md): ports, link-level retry, credits, routes.
-/
namespace Sys2Proof.Machine

/-- The states of a port (R368). -/
inductive PortState where
  | disabled | detect | equalize | lock | param | active | retrain | failed
  deriving DecidableEq, Repr

def PortState.code : PortState → Nat
  | .disabled => 0 | .detect => 1 | .equalize => 2 | .lock => 3
  | .param => 4 | .active => 5 | .retrain => 6 | .failed => 7

/-- HXL_PORT_CFG (R408). -/
structure PortCfg where
  en : Bool := true
  kind : Nat := 0
  nodeForm : Bool := false
  encReq : Bool := false
  deriving DecidableEq, Repr

/-- A message handed to a port's transmitter: the destination it goes toward (a member, 0x200 + endpoint, or 0xFFFF). -/
structure OutMsg where
  port : Nat
  dst : Nat
  msg : List Byte
  deriving DecidableEq, Repr

/-- A DATA flit kept for replay (R380): its SEQ, its payload, and the messages that begin in it. -/
structure KeptFlit where
  seq : Nat
  cont : Bool
  enc : Bool
  phase : Bool
  payload : List Byte
  msgs : List OutMsg
  deriving DecidableEq, Repr

/-- One HXL port. -/
structure Port where
  /-- HXL_PORT_CFG as written -/
  cfg : PortCfg := {}
  /-- the configuration in force since the last DETECT (R408) -/
  act : PortCfg := {}
  state : PortState := .disabled
  /-- failed attempts in a row (R368) -/
  attempts : Nat := 0
  partnerKind : Nat := 0
  partnerId : Nat := 0
  /-- a good PARAM arrived and passed R370 -/
  paramOk : Bool := false
  encOn : Bool := false
  /-- keys installed for the present and the next key phase (R405, R407) -/
  keysIn : Bool := false
  nextKeyIn : Bool := false
  keyPhase : Bool := false
  rxKeyPhase : Bool := false
  lanesReversed : Bool := false
  polarity : Nat := 0
  failCode : Nat := 0
  /-- the partner is fenced (R505) -/
  fenced : Bool := false
  /-- HXL_PORT_DELAY, and the ECHO exchanges of the measurement under way (R371) -/
  delay : Nat := 0
  echoCount : Nat := 0
  /-- ECHO requests sent in that measurement -/
  echoSent : Nat := 0
  echoSum : Nat := 0
  /-- relock done in RETRAIN -/
  relocked : Bool := false
  fecCorr : Nat := 0
  fecUncorr : Nat := 0
  crc : Nat := 0
  replayed : Nat := 0
  retrains : Nat := 0
  msgBad : Nat := 0
  abortMiss : Nat := 0
  releaseStale : Nat := 0
  /-- credits held for sending and the partner's advertisement, by VC (R383) -/
  credAvail : List Nat := [0, 0, 0, 0, 0, 0]
  credAdvert : List Nat := [0, 0, 0, 0, 0, 0]
  /-- credits owed to the partner, by VC, and the VC last returned (R385) -/
  credOwed : List Nat := [0, 0, 0, 0, 0, 0]
  lastVc : Nat := 5
  /-- SEQ of the next new DATA flit (R380) -/
  txSeq : Nat := 0
  /-- flits kept for replay, oldest first; at most 1,024 (R380) -/
  kept : List KeptFlit := []
  /-- the rest of a message begun in an earlier flit sent (R379) -/
  txRest : List Byte := []
  /-- flits still to send again (R381) -/
  replayQ : List KeptFlit := []
  /-- SEQ expected next, and whether the receiver is asking for a replay -/
  rxSeq : Nat := 0
  nak : Bool := false
  /-- NAKs received without ACK advancing (R382) -/
  naks : Nat := 0
  /-- a message begun in an earlier flit (R379) -/
  part : List Byte := []
  /-- frames of recent authentication failures (R407) -/
  authFails : List Nat := []
  /-- DATA flits sent under the present key phase (R406) -/
  phaseFlits : Nat := 0
  /-- raw requests in flight (R386) -/
  raws : Nat := 0
  /-- an SPDM session of the link is complete (R405, R537) -/
  session : Bool := false
  deriving DecidableEq, Repr

/-- HXL_ROUTE of one member (R399). -/
structure Route where
  ports : Nat := 0
  dist : Nat := 0
  /-- R402: new requests are held until earlier ones are answered -/
  draining : Bool := false
  deriving DecidableEq, Repr

/-- HXL_EP_ROUTE of one endpoint (R399). -/
structure EpRoute where
  member1 : Nat := 0
  port1 : Nat := 0
  valid1 : Bool := false
  member2 : Nat := 0
  port2 : Nat := 0
  valid2 : Bool := false
  deriving DecidableEq, Repr

/-- A message that waits for a port to come up (R399) or for its destination's route to drain (R402). -/
structure WaitingMsg where
  id : Nat
  dst : Nat
  msg : List Byte
  since : Nat
  /-- 0: no ACTIVE port; 1: held by R402 -/
  drain : Bool
  deriving DecidableEq, Repr

structure HxlState where
  ports : Tab Port := {}
  routes : Tab Route := {}
  epRoutes : Tab EpRoute := {}
  rackRoutes : Tab Nat := {}
  waiting : List WaitingMsg := []
  nextWait : Nat := 0
  /-- messages delivered by FLIT_RECEIVE and not yet acted on: port and bytes -/
  inbox : List (Nat × List Byte) := []
  /-- messages handed to a port's transmitter, oldest first -/
  outbox : List OutMsg := []
  /-- requests sent toward each member without a response yet (R402) -/
  owed : Tab Nat := {}
  deriving DecidableEq, Repr

end Sys2Proof.Machine
end

