-- ==== Sys2Proof/Machine/StRpl.lean ====
section
/-!
DEFINITION. State of the replay buffer service (spec/09_replay_and_kv.md) at one member.
-/
namespace Sys2Proof.Machine

/-- Who waits for something: a command of this member with the local item it answers, or a work item of another member. -/
inductive Asker where
  | entry (id item : Nat)
  | item (origin id : Nat)
  deriving DecidableEq, Repr

/-- A defined buffer (R326, R328). -/
structure RplBuffer where
  desc : List (BitVec 8)
  comp : Nat
  /-- HEAD, exact at the anchor, elsewhere as last known -/
  head : Nat := 0
  deriving DecidableEq, Repr

/-- A queued leaf change (R332): the clearing of step 2 of R333, or a value; `old` is OLD of R338 with CAS = 1. -/
structure RplChange where
  leaf : Nat
  clear : Bool := false
  value : Nat := 0
  old : Option Nat := none
  asker : Asker
  deriving DecidableEq, Repr

/-- An insert in flight, as the anchor knows it (R333 step 1). -/
structure RplFlight where
  asker : Asker
  /-- the member of the insert, and the item by which that member knows it -/
  origin : Nat
  item : Nat
  buffer : Nat
  first : Nat
  count : Nat
  deriving DecidableEq, Repr

/-- A draw of a sample (R335, R336): its shard, its target, and once it has run its slot, leaf value and record. -/
structure RplDraw where
  shard : Nat
  target : Nat
  done : Bool := false
  lost : Bool := false
  slot : Nat := 0
  prio : Nat := 0
  record : List (BitVec 8) := []
  deriving DecidableEq, Repr

/-- An insert, update or sample under way at this member. -/
structure RplJob where
  asker : Asker
  /-- its command packet (R339) -/
  packet : BitVec 512
  /-- first insert number once it is reserved -/
  first : Option Nat := none
  /-- the item by which the anchor elsewhere knows an insert (R333 step 1) -/
  asked : Option Nat := none
  /-- shards whose records have been copied -/
  copied : List Nat := []
  /-- the updates that a sample of another member brings to the shards here (R335 step 1) -/
  updateOnly : Bool := false
  applied : Nat := 0
  skipped : Nat := 0
  bad : Nat := 0
  fail : Option (Nat × Nat) := none
  /-- totals read (R335 step 2): p, live leaves, and the draws -/
  total : Option Nat := none
  live : Nat := 0
  draws : List RplDraw := []
  deriving DecidableEq, Repr

structure RplState where
  buffers : Tab RplBuffer := {}
  /-- queued leaf changes, keyed 64 * buffer + shard, oldest first (R332) -/
  queues : Tab (List RplChange) := {}
  /-- inserts in flight and reservations that wait, at the anchor (R333) -/
  flights : List RplFlight := []
  waits : List RplFlight := []
  jobs : List RplJob := []
  deriving DecidableEq, Repr

end Sys2Proof.Machine
end

