-- ==== Sys2Proof/Machine/StKvp.lean ====
section
/-!
DEFINITION. State of the KV page pool (spec/09_replay_and_kv.md) at one member: the page records of the windows it serves, those of
other windows as it last asked for them, the sequence records of its own window.
-/
namespace Sys2Proof.Machine

/-- A page that is not free (R344): its place, its reference count, its age stamp. -/
structure KvpPage where
  /-- in a spill slot; else in a frame -/
  spilled : Bool
  /-- the frame or the spill slot -/
  place : Nat
  refs : Nat
  stamp : Nat
  /-- LOCKED sequences of other members that hold it, as the member of its window knows (R355) -/
  locks : Nat := 0
  deriving DecidableEq, Repr

/-- The states of a sequence record that is not FREE (R347). -/
inductive SeqState where
  | owned | leaving | gone
  deriving DecidableEq, Repr

/-- An access queued at a LEAVING record (R347): a command of this member, or a work item of another with its packet and the
data that came with it. -/
structure KvpQueued where
  asker : Asker
  packet : BitVec 512
  block : List (BitVec 8)
  deriving DecidableEq, Repr

/-- A sequence record (R344, R347, R354). -/
structure SeqRec where
  /-- the sequence's ID -/
  id : Nat
  state : SeqState
  locked : Bool := false
  /-- RESERVE of the lock, and the first page of the list that it allocated -/
  reserve : Nat := 0
  reservedFrom : Nat := 0
  token : Nat := 1
  length : Nat := 0
  list : List Nat := []
  /-- TARGET of a GONE or LEAVING record -/
  target : Nat := 0
  /-- members of the last eight forwards -/
  forwards : List Nat := []
  /-- the offer that installed it: from which member, with which token -/
  installed : Option (Nat × Nat) := none
  /-- OFFERs sent, who asked for the handover, accesses queued while LEAVING -/
  offers : Nat := 0
  handover : Option Asker := none
  queued : List KvpQueued := []
  deriving DecidableEq, Repr

/-- A defined pool (R343 to R345). -/
structure KvpPool where
  desc : List (BitVec 8)
  comp : Nat
  /-- pages in use, keyed by handle -/
  pages : Tab KvpPage := {}
  /-- the eviction hand of each window -/
  hands : Tab Nat := {}
  /-- records that are not FREE, by record number in this member's window -/
  recs : Tab SeqRec := {}
  /-- generations of records, 0 where not listed -/
  gens : Tab Nat := {}
  deriving DecidableEq, Repr

/-- A resolution's log record (R360). -/
structure KvpResolve where
  seq : Nat
  winner : Nat
  other : Nat
  row : Nat
  truncated : Nat
  token : Nat
  deriving DecidableEq, Repr

structure KvpState where
  pools : Tab KvpPool := {}
  /-- pages of other windows that were unspilled for a waiter, and what a window's member answered where it did not serve -/
  brought : Tab Nat := {}
  refused : Tab (Nat × Nat) := {}
  /-- KVP_RESOLVE_LOG, newest first, at most four -/
  log : List KvpResolve := []
  deriving DecidableEq, Repr

end Sys2Proof.Machine
end

