-- ==== Sys2Proof/Machine/StMgt.lean ====
section
/-!
DEFINITION. State of management (spec/18_management_and_counters.md): MCTP and PLDM endpoints, firmware update, SPDM
sessions, performance counters. Endpoint 0 is I3C, 1 and 2 are the PCIe ports (R603); for SPDM, 16 + p is HXL port p.
-/
namespace Sys2Proof.Machine

/-- The states of a firmware update, as MGT_FWUP.STATE reports them (R609, R625). -/
inductive UpdateState where
  | update | download | ready
  deriving DecidableEq, Repr

def UpdateState.code : UpdateState → Nat
  | .update => 1 | .download => 2 | .ready => 5

/-- A firmware update under way (R609). -/
structure Update where
  endpoint : Nat
  state : UpdateState := .update
  slot : Nat
  maxTransfer : Nat
  /-- PassComponentTable has named the component -/
  listed : Bool := false
  version : Nat := 0
  /-- bytes of the component and bytes received -/
  size : Nat := 0
  got : Nat := 0
  header : List Byte := []
  deriving DecidableEq, Repr

/-- An SPDM session (R536). -/
structure Session where
  id : Nat
  endpoint : Nat
  finished : Bool := false
  /-- key updates made -/
  updates : Nat := 0
  deriving DecidableEq, Repr

/-- A physical performance counter (R616 to R622). -/
structure Pmc where
  event : Nat := 0
  en : Bool := false
  mode : Nat := 0
  chain : Bool := false
  freezeOnOvf : Bool := false
  ovf : Bool := false
  unit : Nat := 0xFFF
  thresh : Nat := 0
  value : Nat := 0
  snap : Nat := 0
  /-- PMC_OWNER -/
  func : Nat := 0
  vidx : Nat := 0
  assigned : Bool := false
  globalOk : Bool := false
  /-- PMC_CFG was last written through the owner's window (R623) -/
  own : Bool := false
  /-- frozen by its owner -/
  frozen : Bool := false
  deriving DecidableEq, Repr

structure MgtState where
  /-- dynamic address on I3C (R604) -/
  i3cAddr : Option Nat := none
  /-- MCTP endpoint IDs, by endpoint -/
  eids : List (Option Nat) := [none, none, none]
  /-- PLDM terminus ID -/
  tid : Nat := 0
  /-- event receivers, by endpoint, and events queued for polling: sensor and value (R608) -/
  receivers : List (Option Nat) := [none, none, none]
  queues : List (List (Nat × Nat)) := [[], [], []]
  /-- the states of sensors 32 to 37 as last told (R607) -/
  told : List Nat := [3, 0, 0, 0, 0, 0]
  update : Option Update := none
  /-- MGT_FWUP.ACTIVATE_PENDING, LAST_RESULT, SLOT, and MGT_FWUP_VERSION -/
  activate : Bool := false
  lastResult : Nat := 0
  lastSlot : Nat := 0
  fwVersion : Nat := 0
  sessions : List Session := []
  nextSession : Nat := 0
  /-- SPDM negotiation of each requester: 1 after GET_VERSION, 2 after GET_CAPABILITIES, 3 after NEGOTIATE_ALGORITHMS -/
  spdm : Tab Nat := {}
  /-- the chain of certificate slot 1 (R536) -/
  cert1 : List Byte := []
  /-- physical counters that differ from reset, by number (R616) -/
  pmcs : Tab Pmc := {}
  pmcFrozen : Bool := false
  /-- PMC_VALUE_HI as latched, for physical functions and by virtual counter 32 * function + v (R619, R626) -/
  pmcHi : Nat := 0
  pmcVHi : Tab Nat := {}
  deriving DecidableEq, Repr

end Sys2Proof.Machine
end

