-- ==== Sys2Proof/Machine/StPst.lean ====
section
/-!
DEFINITION. State of the cadence (spec/03_cadence.md): table banks, the running load, the armed switch, fill pointers,
suspended flash operations and frame alignment. The states that PST registers report stand in the register file.
-/
namespace Sys2Proof.Machine

/-- One of the two table banks: the image it holds, and whether it passed every check (R118, R120). -/
structure Bank where
  valid : Bool := false
  image : List Byte := []
  deriving DecidableEq, Repr

/-- A load under way (R118): the physical function it reads through, the bank it fills. -/
structure PstLoad where
  func : Nat
  len : Nat
  bank : Nat
  deriving DecidableEq, Repr

/-- The last marker of a port (R113) with the frame it came in, and the offset measured on it in units of 0.1 ns (R130). -/
structure Marker where
  ref : Nat
  align : Nat
  hops : Nat
  set : Nat
  frame : Nat
  switchFrame : Nat
  switchSet : Nat
  seen : Nat
  offset : Int
  deriving DecidableEq, Repr

structure PstState where
  /-- R115 -/
  banks : List Bank := [{}, {}]
  load : Option PstLoad := none
  /-- the armed switch: its frame and set ID (R121) -/
  switch : Option (Nat × Nat) := none
  /-- element each fill order's pointer stands at, keyed (64 * 256 * kind + instance) * 16 + order (R103) -/
  fillPtr : Tab Nat := {}
  /-- ONFI channels with suspended programs or erases (R98) -/
  suspended : List Nat := []
  /-- table instances whose channel's step runs in their present RETRAIN run, keyed 128 * kind + instance (R108, R208) -/
  retraining : Tab Bool := {}
  /-- by HXL port -/
  markers : Tab Marker := {}
  /-- the memory tables are idle: since REST, until the first frame boundary after it (R128) -/
  idle : Bool := false
  /-- offsets measured in the present window: their sum and number (R130) -/
  offSum : Int := 0
  offCount : Nat := 0
  /-- ACQUIRE: consecutive windows within 20 ns; HOLDOVER: not 0 once a new parent's first window has failed (R132) -/
  inRange : Nat := 0
  /-- the frame boundary was stepped in this ACQUIRE (R133) -/
  stepped : Bool := false
  /-- the frame HOLDOVER began (R132) -/
  holdSince : Nat := 0
  deriving DecidableEq, Repr

end Sys2Proof.Machine
end

