-- ==== Sys2Proof/Machine/StRack.lean ====
section
/-!
DEFINITION. State of rack-level fault tolerance (spec/14_rack_fault_tolerance.md): the composition map, suspicion and
agreement, work items across a change, re-mirroring, compositions and their metering (R524, R612).
-/
namespace Sys2Proof.Machine

/-- STATE[m] of the map (R494). -/
inductive MemberState where
  | absent | spare | active | fenced
  deriving DecidableEq, Repr

def MemberState.code : MemberState → Nat
  | .absent => 0 | .spare => 1 | .active => 2 | .fenced => 3

def MemberState.ofCode : Nat → Option MemberState
  | 0 => some .absent | 1 => some .spare | 2 => some .active | 3 => some .fenced | _ => none

/-- The composition map (R494). EPOCH 0 stands for a member that no formation or admission has reached (R497). -/
structure RackMap where
  epoch : Nat := 0
  width : Nat := 0
  salt : Nat := 0
  server : List Nat := []
  state : List MemberState := []
  /-- FLAGS[s][0] -/
  exposed : List Bool := []
  /-- FLAGS[s][1] -/
  rebuilding : List Bool := []
  remirror : Nat := 20
  rebuild : Nat := 4
  deriving DecidableEq, Repr

/-- CHANGE of a CONS message (R498). -/
inductive Change where
  | fence | admission | assign | manualFence
  deriving DecidableEq, Repr

def Change.ofCode : Nat → Option Change
  | 0 => some .fence | 1 => some .admission | 2 => some .assign | 3 => some .manualFence | _ => none

def Change.code : Change → Nat
  | .fence => 0 | .admission => 1 | .assign => 2 | .manualFence => 3

/-- A proposed change (R498, R501). -/
structure Proposal where
  epoch : Nat
  ballot : Nat
  change : Change
  mask : Nat := 0
  subject : Nat := 0
  slot : Nat := 0
  deriving DecidableEq, Repr

/-- What the last CONS of a member said (R497 to R502). -/
structure Peer where
  /-- silent for 300 µs, as the last suspicion timeout found -/
  silent : Bool := false
  fatal : Bool := false
  mapMismatch : Bool := false
  bracing : Bool := false
  mask : Nat := 0
  epoch : Nat := 0
  mapsum : Nat := 0
  frame : Nat := 0
  /-- alignment LOCKED (R134, R518), as the EPOCH messages of a neighbour show; a joiner that is no neighbour shows it by the
  admission summary, which it sends only while LOCKED -/
  locked : Bool := true
  /-- it has been reset since its fencing, as its MAPSUM shows (R518) -/
  resetSince : Bool := true
  deriving DecidableEq, Repr

/-- A work item as its WORK message carries it (R393, R510, R513). -/
structure WorkItem where
  origin : Nat
  id : Nat
  epoch : Nat
  forwarded : Bool
  /-- 1: addressed for a role of a slot (R511), or with slot 64 for the member in its own right; 0: for the home of an address -/
  role : Bool
  slot : Nat
  /-- 0 read, 1 write, 2 gate operation, 3 mirror update, 4 a command's phase, 5 back-invalidation, 6 shadow update, 7 read of a
  mirror copy, 8 reservation of frames, 9 atomic rows of a core's step, 10 end of a reservation, 11 records of KV pages, 12 changes of
  them, 13 a gate wait that its watchdog ended, 14 a mirror update is confirmed, 15 a read of a home copy for the mirror check at
  promotion, 16 a slot's mirror or copy is wanted no longer, 17 an assignment has ended, 18 a slot is to be copied to another member,
  19 a gate block record for the shadow's holder, 20 the map and the key pairs for a joiner, 21 a composition's key pair, 22 a granule
  for a returning member; 100 a raw request of another member that waits for its epoch -/
  kind : Nat
  addr : Nat
  data : List Byte
  /-- CLASS of the message (R393) -/
  cls : Nat := 0
  deriving DecidableEq, Repr

/-- A work item this member has sent and that has no answer (R34, R511): who waits for it (an entry of the lift line, 2^40 and the
ID of another member's item, 2^41 and a core, an engine of its own; none: whoever is being served now), where it went, what it
carries. -/
structure Away where
  owner : Option Nat
  home : Nat
  epoch : Nat
  role : Bool := false
  slot : Nat := 0
  kind : Nat
  addr : Nat := 0
  data : List Byte := []
  /-- CLASS of the message (R393, R474) -/
  cls : Nat := 0
  deriving DecidableEq, Repr

/-- A remembered item ID with its answer (R513). -/
structure ItemMemo where
  origin : Nat
  id : Nat
  frame : Nat
  status : Nat
  subcode : Nat
  data : List Byte := []
  deriving DecidableEq, Repr

/-- A pending-mirror entry (R507). -/
structure MirrorPending where
  /-- the work item's origin and ID -/
  origin : Nat
  id : Nat
  granule : Nat
  /-- the home that sent the update -/
  home : Nat := 0
  deriving DecidableEq, Repr

/-- A composition's record (R521) with its metering counters at this member (R524, R612). -/
structure Comp where
  limitHbm : Nat := 0
  limitDdr : Nat := 0
  limitFlash : Nat := 0
  poolHbm : Nat := 0
  poolDdr : Nat := 0
  /-- bytes of pool frames charged, HBM and DDR (R195) -/
  chargedHbm : Nat := 0
  chargedDdr : Nat := 0
  /-- counters HBM, DDR, FLASH in MiB·s and CORE in core-µs, with their remainders (R612) -/
  meter : List Nat := [0, 0, 0, 0]
  rem : List Nat := [0, 0, 0, 0]
  /-- the counters at the last two ticks, newest first, with the tick's frame (R613) -/
  ticks : List (Nat × List Nat) := []
  deriving DecidableEq, Repr

/-- A MAP_ASSIGN in its phase 1 or 3 (R519). -/
structure Assign where
  entry : Nat
  slot : Nat
  subject : Nat
  resync : Bool
  granules : Nat
  committed : Bool
  deriving DecidableEq, Repr

/-- A MAP_FORM in progress (R517): its entry, the members heard with this map's MAPSUM, and what stood before it. -/
structure Forming where
  entry : Nat
  heard : List Nat
  oldMap : RackMap
  oldWidth : Nat
  oldSaltLo : Nat
  oldSaltHi : Nat
  oldResult : Option Nat := none
  deriving DecidableEq, Repr

/-- A page copy of a re-mirroring still to make (R508). -/
structure MirrorDue where
  slot : Nat
  page : Nat
  /-- its granules are on their way: from here on writes go to the new partner too (R198) -/
  sent : Bool := false
  deriving DecidableEq, Repr

/-- A flash page of a parity stripe lost with its member and not rebuilt yet (R515, R516): a data page, or a parity page
when `page` is none. -/
structure LostPage where
  slab : Nat
  stripe : Nat
  slot : Nat
  page : Option Nat
  deriving DecidableEq, Repr

structure RackState where
  map : RackMap := {}
  peers : Tab Peer := {}
  /-- members this member suspects (R499) -/
  suspects : List Nat := []
  ballotSeen : Nat := 0
  accepted : Option Proposal := none
  /-- frame in which `accepted` was accepted (R501) -/
  acceptFrame : Nat := 0
  proposed : Option Proposal := none
  /-- members whose ACCEPT arrived for `proposed` -/
  accepts : List Nat := []
  /-- a committed change and the frame at which it applies -/
  commit : Option (Proposal × Nat) := none
  /-- the member fenced itself (R504, R488, R591) -/
  selfFenced : Bool := false
  /-- frame of the last change applied (R510) -/
  changeFrame : Nat := 0
  /-- R514: a kick turn is under way until this frame -/
  kickUntil : Nat := 0
  /-- items under a newer epoch, or under a hold, with the frame of their arrival (R510, R173) -/
  held : List (WorkItem × Nat) := []
  /-- items under a hold, by origin and ID (R173) -/
  holds : List (Nat × Nat) := []
  /-- items of a cancelled or held command this member is to drop when they arrive (R81) -/
  dropped : List (Nat × Nat) := []
  /-- the command that asked for the change proposed or committed (R501) -/
  asker : Option Nat := none
  memo : List ItemMemo := []
  mirrorPending : List MirrorPending := []
  /-- promoted granules whose mirror check is under way, with the frame at which the promoted copy stands (R507) -/
  checks : List (Nat × Nat) := []
  /-- the partner of a slot before the present one, which holds its mirror until the new one does (R508) -/
  oldPartner : Tab Nat := {}
  comps : Tab Comp := {}
  /-- the key store: the XTS key pair of each composition but composition 0, as a number that names it (R534) -/
  keys : Tab Nat := {}
  /-- a CONS message came with this member's own number as its source (R639) -/
  idClash : Bool := false
  assign : Option Assign := none
  /-- pages still to copy to a new partner (R508) -/
  remirror : List MirrorDue := []
  /-- flash pages still to rebuild (R515) -/
  missing : List LostPage := []
  forming : Option Forming := none
  /-- the member that served a slot before a MAP_ASSIGN, by slot (R519) -/
  former : Tab Nat := {}
  nextItem : Nat := 0
  /-- SERVER of the maps before this one, by epoch (R149) -/
  servers : Tab (List Nat) := {}
  /-- work items sent and not answered, by ID (R34) -/
  away : Tab Away := {}
  /-- granules homed elsewhere that have been read for a waiter, by waiter (R34) -/
  fetched : List (Nat × Nat) := []
  /-- granules homed elsewhere whose home answered the read with a failure: STATUS, SUBCODE -/
  fetchFail : Tab (Nat × Nat) := {}
  /-- who is being served, and waits for what is sent on the way -/
  writer : Option Nat := none
  /-- CLASS of what is being served for another agent, which the items sent for it carry (R474) -/
  cls : Nat := 0
  /-- answers to other members' items that wait for this member's own items (R474), by waiter -/
  due : List (Nat × WorkItem × Nat × Nat × List Byte) := []
  deriving DecidableEq, Repr

end Sys2Proof.Machine
end

