-- ==== Sys2Proof/Machine/StStore.lean ====
section
/-!
DEFINITION. State of the store (spec/05_store_tiers.md, spec/13_reliability.md): the bytes of the rack store, the
granule metadata, placement records, page records, pools, the Chairlift, PHY training, the durable journal and the
brace area.
-/
namespace Sys2Proof.Machine

/-- The bytes of the store by RSA: strictly rising addresses, no entry equal to 0, what an unlisted byte reads. -/
abbrev Memory := List Host.Cell

/-- Why a granule is poisoned (R466). -/
inductive PoisonKind where
  | uncorrectable | reclaim | divergent | stripeLost
  deriving DecidableEq, Repr

def PoisonKind.code : PoisonKind → Nat
  | .uncorrectable => 0 | .reclaim => 1 | .divergent => 2 | .stripeLost => 3

/-- A mirror copy that differs from the home copy (R472, R478). -/
structure MirrorCopy where
  data : List Byte
  wgen : Nat
  poison : Option PoisonKind
  damaged : Bool
  deriving DecidableEq, Repr

/-- A granule's metadata word and the state of its copies (R466, R469). -/
structure Gran where
  /-- WGEN, 48 bits -/
  wgen : Nat := 0
  /-- POISON with its KIND -/
  poison : Option PoisonKind := none
  /-- the home copy holds an error the code detects and cannot correct (R469) -/
  damaged : Bool := false
  /-- the home copy holds a correctable error -/
  corrupt : Bool := false
  /-- the error was injected (R492): its entries carry INJ -/
  injected : Bool := false
  /-- the mirror copy where it differs from the home copy; none: the same as the home copy -/
  mirror : Option MirrorCopy := none
  /-- the key pair under which the data of the granule stands encrypted (R535); none: the pair of its slab, or never written -/
  key : Option Nat := none
  deriving DecidableEq, Repr

/-- The tiers, from the top (R176, R200). -/
inductive Tier where
  | hbm | ddr | flash
  deriving DecidableEq, Repr

def Tier.code : Tier → Nat
  | .hbm => 0 | .ddr => 1 | .flash => 2

def Tier.ofCode : Nat → Option Tier
  | 0 => some .hbm | 1 => some .ddr | 2 => some .flash | _ => none

/-- A slab's placement record (R183) and its grant (R145). -/
structure Slab where
  home : Tier := .ddr
  copyMode : Bool := false
  ceiling : Tier := .hbm
  pin : Bool := false
  durable : Bool := false
  sealed : Bool := false
  /-- the composition the slab is granted to -/
  comp : Option Nat := none
  /-- CMP_WITHDRAW has stopped new captures of the grant (R522) -/
  withdrawing : Bool := false
  deriving DecidableEq, Repr

/-- A frame record of R190 with the heat of R191: one pool copy or the raised place of a page. -/
structure FrameRec where
  dirty : Bool := false
  pin : Bool := false
  count : Nat := 0
  /-- epochs since the last access, at most 16 kept -/
  age : Nat := 0
  deriving DecidableEq, Repr

/-- Where a page of the store stands at its home (R183 to R195). Unlisted: in its home frame only. -/
structure PageRec where
  /-- the pool frame in HBM -/
  hbm : Option FrameRec := none
  /-- the pool frame in DDR5 -/
  ddr : Option FrameRec := none
  /-- heat of the home frame, when the home tier is HBM or DDR5 (R191) -/
  homeCount : Nat := 0
  homeAge : Nat := 0
  /-- ADVICE code (R168) -/
  advice : Nat := 0
  /-- COPY FILLING data in the write buffer, not yet programmed (R189) -/
  buffered : Bool := false
  /-- flash contents were programmed at least once -/
  programmed : Bool := false
  /-- the map entry of a flash-home page: where in the flash its current contents stand (R189, R190); none until its first program -/
  flashAt : Option Nat := none
  /-- the foster that holds the page since it was rebuilt (R516) -/
  foster : Option Nat := none
  deriving DecidableEq, Repr

/-- A move in flight (R196, R197): to a pool frame of `target`, or home (an eviction, a write-back, a program). -/
structure Move where
  page : Nat
  target : Tier
  home : Bool
  deriving DecidableEq, Repr

/-- A live journal entry (R212). -/
structure JournalEntry where
  seq : Nat
  rsa : Nat
  granules : Nat
  wgen : Nat
  bytes : Nat
  data : List Byte
  deriving DecidableEq, Repr

/-- A durable write that waits for journal space (R213): a command's, or with none the raw transaction on a granule. -/
structure JournalWait where
  entry : Option Nat
  granule : Nat
  deriving DecidableEq, Repr

/-- A training instance of a memory PHY (R206 to R209). -/
structure Training where
  t0 : Nat := 0
  v0 : Nat := 0
  tNow : Nat := 0
  vNow : Nat := 0
  pending : Bool := false
  stepsLeft : Nat := 0
  count : Nat := 0
  lastFrame : Nat := 0
  deriving DecidableEq, Repr

/-- The device timing record of one kind, in the order of R179. -/
abbrev TimingRec := List Nat

/-- One half of the brace area (R214, R571): its header, delta and entries as far as they are programmed. -/
structure BraceHalf where
  erased : Bool := false
  /-- a header stands in it, with its FRAME and CAUSE -/
  header : Bool := false
  frame : Nat := 0
  cause : Nat := 0
  /-- FIRST_SEQ, LAST_SEQ, DELTA_BYTES and ENTRY_BYTES of the header -/
  firstSeq : Nat := 0
  lastSeq : Nat := 0
  deltaBytes : Nat := 0
  entryBytes : Nat := 0
  /-- the journal entries as programmed, byte by byte -/
  entries : List (List Byte) := []
  /-- the commit record is programmed -/
  committed : Bool := false
  /-- a die failed a program twice, so that the entries on it are lost (R573) -/
  dieFailed : Bool := false
  deriving DecidableEq, Repr

structure StoreState where
  /-- the bytes homed at this member; at addresses homed elsewhere, what this member has read from there or sent to be written
  there -/
  mem : Memory := []
  /-- the mirror copies this member holds as a partner (R472, R474): bytes by RSA, and the metadata of their granules -/
  mirrorMem : Memory := []
  mirrorGrans : Tab Gran := {}
  /-- granule metadata, by RSA / 128; unlisted: WGEN 0, not poisoned, copies intact and equal -/
  grans : Tab Gran := {}
  /-- placement records and grants, by slab number RSA[55:30]; unlisted: not granted -/
  slabs : Tab Slab := {}
  /-- page records, by RSA / 4096 -/
  pages : Tab PageRec := {}
  /-- clock hands, keyed 256 * tier + channel (R193) -/
  hands : Tab Nat := {}
  /-- pages of pool frames in clock order, keyed 256 * tier + channel -/
  pools : Tab (List Nat) := {}
  /-- the raise queue (R196), oldest first: page, target tier -/
  raises : List (Nat × Tier) := []
  moves : List Move := []
  journal : List JournalEntry := []
  journalSeq : Nat := 1
  journalWaits : List JournalWait := []
  braceHalves : List BraceHalf := [{}, {}]
  /-- bytes of the map entries in the metadata delta since the last checkpoint, and the frame of that checkpoint (R214, R572) -/
  deltaBytes : Nat := 0
  checkpointFrame : Nat := 0
  /-- the flash contents of pages whose store contents are not programmed, by page: bytes and granules (R189, R211, R215) -/
  flashOld : Tab (List Byte × List Gran) := {}
  /-- what the flash held at the last metadata checkpoint of pages programmed since, by page (R572) -/
  sinceCheck : Tab (List Byte × List Gran) := {}
  /-- training instances, keyed 64 * kind + instance (R206) -/
  training : Tab Training := {}
  /-- device temperature readouts as last read, keyed 64 * kind + instance: degrees C (R210) -/
  devTemp : Tab Nat := {}
  /-- frames an HBM stack has read at or below 80 degrees, by stack (R210) -/
  coolSince : Tab Nat := {}
  /-- R179; empty until the records are built -/
  timing : List TimingRec := []
  /-- frames still free for home frames: HBM, DDR5, flash (R185, R190) -/
  free : List Nat := [0, 0, 0]
  /-- the next flash location a page is programmed at, out of place (R189) -/
  flashNext : Nat := 0
  /-- frames reserved for a PLACE or a CMP_GRANT of a member (R185, R203): the member, the command's packet, tier, frames -/
  reserved : List (Nat × BitVec 512 × Nat × Nat) := []
  /-- slots and slabs of HOME HBM whose mirror this member holds in its DDR5 pool, and those whose mirror it has no frames for (R509) -/
  mirrorDdr : List (Nat × Nat) := []
  mirrorLacks : List (Nat × Nat) := []
  /-- slots whose mirror this member still holds for a partner that has changed (R508) -/
  oldMirrors : List Nat := []
  /-- the journal's size and the write buffer's, in force since the last store bring-up, MiB and GiB (R216, R661) -/
  journalMib : Nat := 512
  fillGib : Nat := 64
  /-- moves the Chairlift has started in the present frame (R196) -/
  movesStarted : Nat := 0
  /-- frame at which the present heat epoch began (R191) -/
  epochStart : Nat := 0
  /-- the slot whose window holds this member's result region (R182) -/
  resultSlot : Option Nat := none
  deriving DecidableEq, Repr

end Sys2Proof.Machine
end

