-- ==== Sys2Proof/Machine/StSys.lean ====
section
/-!
DEFINITION. State of the security processor, of supply and brace, of clocks and resets (spec/15 to spec/17, spec/19,
spec/20). Registers of the SEC, PWR and CLK windows with no structure of their own stand in the register file.
-/
namespace Sys2Proof.Machine

open Sys2Proof

/-- Lifecycle states (R540). -/
inductive Lifecycle where
  | blank | provisioned | sealed | returned
  deriving DecidableEq, Repr

def Lifecycle.code : Lifecycle → Nat
  | .blank => 0 | .provisioned => 1 | .sealed => 2 | .returned => 3

/-- Debug levels (R547). -/
inductive DebugLevel where
  | quiet | observe | invasive | maker
  deriving DecidableEq, Repr

def DebugLevel.code : DebugLevel → Nat
  | .quiet => 0 | .observe => 1 | .invasive => 2 | .maker => 3

def DebugLevel.ofCode : Nat → Option DebugLevel
  | 0 => some .quiet | 1 => some .observe | 2 => some .invasive | 3 => some .maker | _ => none

/-- Power states (R551). -/
inductive Power where
  | run | glide | rest | standby | off
  deriving DecidableEq, Repr

def Power.code : Power → Nat
  | .run => 0 | .glide => 1 | .rest => 2 | .standby => 3 | .off => 4

/-- Why the next start-up begins (R602). -/
inductive ResetCause where
  | por | brace | requested | sysRst | thermal
  deriving DecidableEq, Repr

/-- A brace under way (R566, R568). -/
structure BraceRun where
  cause : Nat
  /-- rack frame of step 2 -/
  frame : Nat
  /-- entry to RETURNED: the journal is discarded, not flushed (R545) -/
  discard : Bool := false
  /-- the half being written, once step 7 has begun -/
  half : Option Nat := none
  deriving DecidableEq, Repr

/-- What the PCIe configuration space of a function reads (R5, R39, R89): the same at both ports. -/
structure PcieFunction where
  physical : Bool
  deviceId : Nat := if physical then 0x7220 else 0x7221
  revisionId : Nat := 0x11
  classCode : Nat := 0x120000
  /-- SR-IOV of the physical function: TotalVFs, First VF Offset, VF Stride -/
  totalVfs : Nat := 63
  firstVfOffset : Nat := 1
  vfStride : Nat := 1
  /-- sizes of BAR0 and BAR2, 64-bit and not prefetchable; where BAR2 holds the MSI-X table and the PBA -/
  bar0 : Nat := if physical then 0x1000000 else 0x10000
  bar2 : Nat := 0x10000
  msixTable : Nat := 0
  msixPba : Nat := 0x8000
  /-- MSI-X Table Size, vectors -/
  msixSize : Nat := 2048
  /-- largest payload and read request, bytes -/
  maxPayload : Nat := 512
  maxReadRequest : Nat := 4096
  /-- bits of a tag -/
  tagBits : List Nat := [10, 14]
  /-- ARI, AER, D0 and D3hot, ASPM L1, ATS and PRI are supported -/
  ari : Bool := true
  aer : Bool := true
  d3hot : Bool := true
  aspmL1 : Bool := true
  atsPri : Bool := true
  /-- link: 64 GT/s in FLIT mode, sixteen lanes -/
  maxSpeedGt : Nat := 64
  maxLanes : Nat := 16
  deriving DecidableEq, Repr

structure SysState where
  /-- fuses: lifecycle state (R540), ADMIN_PORTS (R542), owner root hash, SVN, return epoch (R531, R533) -/
  lc : Lifecycle := .blank
  adminPorts : Nat := 0
  ownerHash : Nat := 0
  svn : Nat := 0
  returnEpoch : Bool := false
  /-- a transition that awaits its reset: the state it leads to (R541) -/
  lcNext : Option Lifecycle := none
  /-- what that transition fuses: ADMIN_PORTS of a SEAL token, the digest of PROVISION -/
  adminNext : Nat := 0
  hashNext : Nat := 0
  /-- SEC_OWNER_HASH_W0 to W11 as staged in BLANK -/
  hashWords : Tab Word := {}
  /-- straps as sampled: MEMBER_ID, SSC_DEPTH, PCIE_SRIS, DDR_MODE (R638) -/
  member : Nat := 0
  ssc : Nat := 0
  sris : Nat := 0
  ddrMode : Bool := false
  /-- SEC_STATUS.BOOT_OK, BOOT_SLOT, BOOT_ERR; VERSION and SVN of the image booted (R531) -/
  bootOk : Bool := false
  bootSlot : Nat := 0
  bootErr : Nat := 0
  fwVersion : Nat := 0
  imageSvn : Nat := 0
  /-- resident recipes of the image booted -/
  residents : List (Nat × List Byte) := []
  /-- image slots that a firmware update has changed, as they now stand: A, B (R609) -/
  slotNow : List (Option BootImage) := [none, none]
  /-- a valid owner manifest is in use, and the keys it brings (R532) -/
  manifest : Bool := false
  debugKey : Bool := false
  extKey : Bool := false
  epKey : Bool := false
  /-- R547, R550: level, composition readable, seconds granted -/
  debug : DebugLevel := .quiet
  dbgComp : Nat := 0
  dbgRemain : Nat := 0
  /-- the current nonce, none once it is consumed (R548), and the value SEC_DBG_NONCE shows -/
  nonce : Option Nat := none
  nonceShown : Nat := 0
  /-- the nonce of an accepted RETURN_OWNER token (R541) -/
  ownerReturn : Option Nat := none
  /-- SEC_TOKEN_W0 to W39 as written, and the token under verification with the nonce its submission consumed -/
  tokenWords : Tab Word := {}
  verifying : Option (List Byte × Option Nat) := none
  /-- composition keys drawn for composition 0 (R534) -/
  keyZero : Option Nat := none
  /-- the return record (R545) -/
  returnRecord : List Byte := []
  /-- R551 -/
  power : Power := .standby
  /-- start-up is under way and waits at step 2 for REFCLK (R582) -/
  starting : Bool := false
  /-- frames since start-up reached its present step (R602's CLK_STARTUP_TIME) -/
  upFrames : Nat := 0
  /-- the configuration space of the physical function and of every virtual function (R5, R39, R89) -/
  pcieFunctions : List PcieFunction := [{ physical := true }, { physical := false }]
  /-- filtered inputs (R561, R593, R560, R582): true is asserted, valid or present -/
  vstby5 : Bool := true
  vin12 : Bool := false
  psuOk : Bool := false
  refclk : Bool := false
  sysRst : Bool := false
  perst : List Bool := [false, false]
  fenceReq : Bool := false
  trst : Bool := true
  /-- VIN12 and PSU_AC_OK have stayed good for PWR_RESTART.MS (R574) -/
  restartOk : Bool := false
  /-- VIN12 is in the sag region; energy counted, in units of 10 µJ (R562, R577) -/
  sag : Bool := false
  energy : Nat := 0
  /-- the Snowplough: ticks of 10 µs in a row below 96 % of the cap, ticks above the cap at its floor (R564, R565) -/
  lowTicks : Nat := 0
  floorTicks : Nat := 0
  /-- the junction cap term, with samples counted at or above 100 degrees and below 97 degrees (R657) -/
  junction : Option Nat := none
  hotSamples : Nat := 0
  coolSamples : Nat := 0
  /-- hottest reading last taken, in 0.125 degree steps, and whether it was 115 degrees or more (R658) -/
  dieTemp : Nat := 0
  tripSample : Bool := false
  /-- a thermal trip awaits 90 degrees of the island's sensor (R658) -/
  tripped : Bool := false
  /-- R566 -/
  bracing : Bool := false
  brace : Option BraceRun := none
  /-- the BRACE_DONE pin (R637) -/
  braceDone : Bool := false
  /-- ERR_FATAL_n asserted (R637) -/
  errFatal : Bool := false
  /-- why the next start-up begins -/
  cause : ResetCause := .por
  /-- identities of the modules and packages the timing records were built from (R598) -/
  ddrIdent : List Nat := []
  flashIdent : List Nat := []
  /-- the control processors are halted by a debug access (R547) -/
  halted : Bool := false
  /-- the TAP's present instruction (R547, R592): 0 IDCODE, which a TAP reset selects, 1 the Ranward debug instruction,
  2 scan and built-in self-test, 3 a boundary-scan instruction or BYPASS -/
  tapIr : Nat := 0
  /-- MAKER scan has destroyed the arrays (R555) -/
  scanned : Bool := false
  deriving DecidableEq, Repr

end Sys2Proof.Machine
end

