-- ==== Sys2Proof/Machine/StVec.lean ====
section
/-!
DEFINITION. State of the vector retrieval service (spec/08_vector_search.md) at one member.
-/
namespace Sys2Proof.Machine

/-- A defined index (R291, R323). -/
structure VecIndex where
  /-- the 128-byte descriptor (R295) -/
  desc : List (BitVec 8)
  comp : Nat
  /-- number of the last pass started, 16 bits -/
  pass : Nat := 0
  /-- a pass runs -/
  running : Bool := false
  /-- the next node this member looks at in the pass, counted through its parts; nodes repaired in the running or last pass -/
  next : Nat := 0
  repaired : Nat := 0
  /-- the window of 1,024 frames in which nodes were last started, and how many (R323) -/
  rateWindow : Nat := 0
  rateUsed : Nat := 0
  deriving DecidableEq, Repr

/-- A queue entry of a walk: its key (FP32 code), its node, its word as read, whether it is expanded (R304). -/
structure QueueEntry where
  key : Nat
  node : Nat
  word : Nat
  expanded : Bool := false
  deriving DecidableEq, Repr

/-- A result of a walk: exact distance (FP32 code), node, word, part. -/
structure FoundNode where
  dist : Nat
  node : Nat
  word : Nat
  part : Nat
  deriving DecidableEq, Repr

/-- A walk of one part (R302 to R304), for a search or for an insert. -/
structure Walk where
  entry : Nat
  /-- the local item that its end answers -/
  item : Nat
  index : Nat
  part : Nat
  /-- it reads the mirror of its part's region, which this member holds (R311) -/
  mirror : Bool := false
  insert : Bool
  /-- Traverse unit, none while it waits for one -/
  unit : Option Nat
  k : Nat
  l : Nat
  w : Nat
  budget : Nat
  widen : Bool
  widenBudget : Nat
  widening : Bool := false
  routeTomb : Bool
  /-- filter clauses (R307): 12 bytes each -/
  clauses : List (List (BitVec 8))
  /-- the query for PQ distances and for exact distances, FP32 codes, with the format of the second -/
  queryPq : List Nat
  queryExact : List Nat
  qfmt : Nat
  queue : List QueueEntry := []
  results : List FoundNode := []
  visited : List Nat := []
  /-- nodes of the present round, in the order picked -/
  picks : List Nat := []
  /-- entry points considered -/
  begun : Bool := false
  /-- the walk has stopped -/
  ended : Bool := false
  expansions : Nat := 0
  widenExpansions : Nat := 0
  filtered : Nat := 0
  tombRouted : Nat := 0
  unreadable : Nat := 0
  visitedFull : Nat := 0
  flags : FlagRec := {}
  /-- the status of a LOCAL part's walk that failed (R312) -/
  fail : Option (Nat × Nat) := none
  /-- restarted once after its Traverse unit failed (R486, 0x35) -/
  restarted : Bool := false
  deriving DecidableEq, Repr

/-- An entry of a pending log (R293, R320). -/
structure PendEntry where
  index : Nat
  window : Nat
  target : Nat
  source : Nat
  deriving DecidableEq, Repr

/-- A node claimed by an insert that has not committed (R319): the word's address and the word that stood before. The member of the
insert and the node's home both know it; `entry` is the insert's own number, or at the home of another member's insert the first
number of that member's items. -/
structure VecClaim where
  entry : Nat
  index : Nat
  part : Nat
  node : Nat
  /-- the node home -/
  home : Nat
  addr : Nat
  old : Nat
  deriving DecidableEq, Repr

structure VecState where
  indexes : Tab VecIndex := {}
  walks : Tab Walk := {}
  nextWalk : Nat := 0
  /-- walks that wait for a unit, in order of arrival (R302) -/
  waiting : List Nat := []
  /-- pending logs, in order of logging -/
  pend : List PendEntry := []
  claims : List VecClaim := []
  deriving DecidableEq, Repr

end Sys2Proof.Machine
end

