-- ==== Sys2Proof/Machine/StXlt.lean ====
section
/-!
DEFINITION. State of translation (spec/04_translation.md): contexts, segments, the address translation cache,
ATS invalidations and page requests, and the work a revocation or an invalidation waits for.
-/
namespace Sys2Proof.Machine

/-- The states of a segment (R144). -/
inductive SegState where
  | invalid | valid | pending
  deriving DecidableEq, Repr

def SegState.code : SegState → Nat
  | .invalid => 0 | .valid => 1 | .pending => 2

/-- A segment record (R144, R175). -/
structure Segment where
  state : SegState := .invalid
  slab16 : Bool := false
  base : Nat := 0
  count : Nat := 0
  permR : Bool := false
  permW : Bool := false
  permA : Bool := false
  revoking : Bool := false
  deriving DecidableEq, Repr

/-- A context (R141). -/
structure Context where
  valid : Bool := false
  boundSrc : Nat := 0
  comp : Nat := 0
  revEpoch : Nat := 0
  segGen : Nat := 0
  segs : Tab Segment := {}
  deriving DecidableEq, Repr

/-- One address translation cache entry (R153), most recently used first in its port's list. -/
structure AtcEntry where
  func : Nat
  /-- first 4 KiB page covered and how many: 1 to 2^18 (R153) -/
  page : Nat
  pages : Nat := 1
  /-- write permission -/
  write : Bool
  deriving DecidableEq, Repr

/-- An ATS invalidation whose completion is due (R171). -/
structure Invalidation where
  port : Nat
  tag : Nat
  /-- frame of its arrival -/
  since : Nat
  /-- reads outstanding on removed entries: lift-line entry and offset -/
  draining : List (Nat × Nat)
  deriving DecidableEq, Repr

/-- A raw HXL transaction in flight under a context (R151, R172). -/
structure RawTxn where
  port : Nat
  tag : Nat
  ctx : Nat
  segs : Nat
  segGen : Nat
  /-- its byte address, and whether it writes (R204) -/
  addr : Nat
  write : Bool
  /-- the message, for a re-send under a new epoch (R511) -/
  msg : List (BitVec 8) := []
  deriving DecidableEq, Repr

/-- A page request group outstanding (R156). -/
structure PageGroup where
  id : Nat
  entry : Nat
  func : Nat
  pages : List Nat
  deriving DecidableEq, Repr

/-- A revocation whose step 5 has not come (R173), of REVOKE or of MIGRATE_OUT (R170). -/
structure Revocation where
  entry : Nat
  ctx : Nat
  seg : Nat
  /-- subcode of the commands it revokes -/
  sub : Nat := 0x40
  /-- the REV_EPOCH it opened -/
  epoch : Nat := 0
  /-- commands marked and not yet decided -/
  undecided : List Nat := []
  /-- commands released, still in flight -/
  released : List Nat := []
  /-- commands released and revoked in all (R165) -/
  nReleased : Nat := 0
  nRevoked : Nat := 0
  /-- step 4 has begun -/
  backStarted : Bool := false
  deriving DecidableEq, Repr

structure XltState where
  /-- contexts that differ from their reset record (R141) -/
  ctxs : Tab Context := {}
  /-- per port, R153 -/
  atc : List (List AtcEntry) := [[], []]
  invals : List Invalidation := []
  groups : List PageGroup := []
  nextGroup : Nat := 0
  raws : List RawTxn := []
  revocations : List Revocation := []
  deriving DecidableEq, Repr

end Sys2Proof.Machine
end

