-- ==== Sys2Proof/Machine/State.lean ====
section
/-!
DEFINITION. The whole state of one Spenal, the reasons a command can stop, and the state right after power-on reset.
-/
namespace Sys2Proof.Machine

/-- Why the machine stops. The spec gives the block no behaviour that stops it, so no meaning raises this. -/
inductive Fault where
  /-- raised by no meaning; there so that the type is a closed inductive with a value. Safe. -/
  | neverRaised
  deriving DecidableEq, Repr

/-- Why a command has no meaning. -/
inductive Refusal where
  /-- raised by the dispatch alone, for a row of the command table that has no meaning yet. Safe. -/
  | notModelled (mnemonic : String)
  deriving DecidableEq, Repr

/-- The state of one Spenal as a block. -/
structure State where
  /-- commands waiting, first in first out: the model's own field -/
  pending : List Instr := []
  /-- registers that differ from their reset value (R8, R11), keyed as `regKey` says -/
  regs : Tab Word := {}
  /-- rack frame number, 48 bits (R94) -/
  frame : Nat := 0
  /-- the model's own counter: index of the next free value -/
  fresh : Nat := 0
  /-- what the block has sent to the outside, oldest first -/
  out : List Emit := []
  cmdq : CmdqState := {}
  pst : PstState := {}
  xlt : XltState := {}
  store : StoreState := {}
  core : CoreState := {}
  emb : EmbState := {}
  vec : VecState := {}
  rpl : RplState := {}
  kvp : KvpState := {}
  hxl : HxlState := {}
  coh : CohState := {}
  gate : GateState := {}
  err : ErrState := {}
  rack : RackState := {}
  sys : SysState := {}
  mgt : MgtState := {}
  deriving DecidableEq, Repr

/-- The state after power-on reset: every field at the value its structure gives as default. -/
def State.reset : State := {}

/-- What a meaning answers. -/
abbrev Res := Host.Outcome State Fault Refusal

end Sys2Proof.Machine
end

