-- ==== Sys2Proof/Machine/Ops.lean ====
section
/-!
DEFINITION. The named operations over registers, events, interrupts and output, which every meaning goes through.
-/
namespace Sys2Proof.Machine

open Sys2Proof

/-! ### Output -/

/-- Send something to the outside world. -/
def State.emit (s : State) (e : Emit) : State := { s with out := s.out ++ [e] }

/-- A fresh index for a free value. -/
def State.tickFresh (s : State) : State := { s with fresh := s.fresh + 1 }

/-! ### Registers (R6, R8, R9, R11, R12) -/

/-- Where a block's event-enable register stands, for the blocks both physical functions see (R12). -/
def isSharedEventEn (off : Nat) : Bool :=
  [0x200048, 0x300030, 0x400074, 0x500054, 0x600048, 0x600144, 0x60023C, 0x600344, 0x70006C, 0x800054, 0x900050,
   0xA000B4, 0xB001B4, 0xC00050, 0xD0002C, 0xE00044].contains off

/-- The physical function of the port a function belongs to (R38, R141: 64 functions a port). -/
def pfOf (src : Nat) : Nat := 64 * (src / 64)

/-- Where the register file holds the register that function `src` reaches at `off`: registers of the FN window one
copy for each function, FN_ADM_ one for each port (R92), event enables one for each physical function (R12), every
other register once. -/
def regKey (src off : Nat) : Nat :=
  if off / 0x100000 = 1 then
    if off % 0x100000 < 0x1000 then 0x1000000 * (src + 1) + off
    else if off % 0x100000 < 0x1100 then 0x1000000 * (pfOf src + 1) + off
    else off
  else if isSharedEventEn off then 0x1000000 * (pfOf src + 1) + off
  else off

/-- The register word that function `src` reaches at `off`, as the register file holds it. -/
def State.regAt (s : State) (src off : Nat) : Word := s.regs.getD (regKey src off) (resetWord off)

/-- Set that word. -/
def State.setRegAt (s : State) (src off : Nat) (w : Word) : State :=
  { s with regs := s.regs.set (regKey src off) w }

/-- A field of a register that stands once. -/
def State.fld (s : State) (f : Fld) : Nat := bf (s.regAt 0 f.off) f.hi f.lo

/-- Set a field of a register that stands once. -/
def State.setFld (s : State) (f : Fld) (v : Nat) : State :=
  s.setRegAt 0 f.off (setBf (s.regAt 0 f.off) f.hi f.lo v)

/-- A field as function `src` sees it. -/
def State.fldAt (s : State) (src : Nat) (f : Fld) : Nat := bf (s.regAt src f.off) f.hi f.lo

/-- Set a field in function `src`'s copy. -/
def State.setFldAt (s : State) (src : Nat) (f : Fld) (v : Nat) : State :=
  s.setRegAt src f.off (setBf (s.regAt src f.off) f.hi f.lo v)

/-- Count in a register field, which stops at its largest value. -/
def State.count (s : State) (f : Fld) (n : Nat := 1) : State :=
  s.setFld f (min (s.fld f + n) (2 ^ (f.hi + 1 - f.lo) - 1))

/-- Count in a register field that wraps. -/
def State.countWrap (s : State) (f : Fld) (n : Nat := 1) : State :=
  s.setFld f ((s.fld f + n) % 2 ^ (f.hi + 1 - f.lo))

/-! ### MSI-X (R39, R70) -/

/-- Send a vector's message, or set its Pending Bit while it is masked (R12, R70). -/
def State.sendMsix (s : State) (func vec : Nat) : State :=
  if s.cmdq.unmasked.getD (2048 * func + vec) false then s.emit (.msix func vec)
  else { s with cmdq := { s.cmdq with pbaPending := s.cmdq.pbaPending.set (2048 * func + vec) true } }

/-! ### Events (R12) -/

/-- Set an event bit of a block that both physical functions see, and send vector 0 of each physical function whose
own enable of it is 1; a bit that is already 1 sends nothing (R12). The enable register follows the event register. -/
def State.raise (s : State) (ev : Fld) : State :=
  if s.fld ev = 1 then s
  else
    let s1 := s.setFld ev 1
    let fire (s : State) (pf : Nat) : State :=
      if bit (s.regAt pf (ev.off + 4)) ev.lo then s.sendMsix pf 0 else s
    fire (fire s1 0) 64

/-- The same for an event of one function's own FN_EVENT (R91). -/
def State.fnRaise (s : State) (src : Nat) (ev : Fld) : State :=
  if s.fldAt src ev = 1 then s
  else
    let s1 := s.setFldAt src ev 1
    if bit (s1.regAt src (ev.off + 4)) ev.lo then s1.sendMsix src 0 else s1

/-! ### Intake sources, queue pairs, lift-line entries -/

/-- An intake source's settings after reset (R91, R92): physical functions 0 and 64, virtual functions, HXL ports. -/
def Source.atReset (src : Nat) : Source :=
  if src ≥ 128 then { reserve := 1024, resultSize := 16 }
  else if src % 64 = 0 then
    { qpAllot := 64, reserve := 1024, opcRanges := 0x3F, classMask := 0xFFFF, resultSize := 16 }
  else {}

def State.source (s : State) (src : Nat) : Source := s.cmdq.sources.getD src (Source.atReset src)
def State.setSource (s : State) (src : Nat) (x : Source) : State :=
  { s with cmdq := { s.cmdq with sources := s.cmdq.sources.set src x } }

def qpKey (src qp : Nat) : Nat := 2048 * src + qp
def State.qp (s : State) (src qp : Nat) : QueuePair := s.cmdq.qps.getD (qpKey src qp) {}
def State.setQp (s : State) (src qp : Nat) (x : QueuePair) : State :=
  { s with cmdq := { s.cmdq with qps := s.cmdq.qps.set (qpKey src qp) x } }

def State.entry? (s : State) (id : Nat) : Option Entry := s.cmdq.entries.find? id
def State.setEntry (s : State) (id : Nat) (e : Entry) : State :=
  { s with cmdq := { s.cmdq with entries := s.cmdq.entries.set id e } }
def State.modEntry (s : State) (id : Nat) (f : Entry → Entry) : State :=
  { s with cmdq := { s.cmdq with entries := s.cmdq.entries.modify id f } }
def State.dropEntry (s : State) (id : Nat) : State :=
  { s with cmdq := { s.cmdq with entries := s.cmdq.entries.erase id } }

/-- The entries that satisfy a property, with their identities. -/
def State.entriesWhere (s : State) (p : Nat → Entry → Bool) : List (Nat × Entry) :=
  s.cmdq.entries.cells.filter fun c => p c.1 c.2

/-- An entry holds a place in the lift line: it is not a packet that waits for one (R44, R61), nor a
command of another member's line. -/
def Entry.holds (e : Entry) : Bool := e.phase != .held && e.proxy.isNone

/-- Entries a source holds (FN_LL_INUSE). -/
def State.inUse (s : State) (src : Nat) : Nat :=
  (s.entriesWhere fun _ e => e.src = src && e.holds).length

def State.poolUsed (s : State) (p : EntryPool) : Nat :=
  (s.entriesWhere fun _ e => e.holds && e.pool == p).length

def State.reserveUsed (s : State) (src : Nat) : Nat :=
  (s.entriesWhere fun _ e => e.holds && e.pool == .reserve && e.src = src).length

/-- The sum of all 144 reserves (R65). -/
def State.reserveSum (s : State) : Nat := ((List.range 144).map fun i => (s.source i).reserve).sum

/-- The entries outside the 1,024 that are kept: 64,512 in all (R61, R62). -/
def State.dataFull (s : State) : Bool := 64512 ≤ s.poolUsed .reserve + s.poolUsed .shared

/-- An entry a source may take for a command of CLASS 0 to 14: its reserve first, then the shared pool, up to its
limit (R62). -/
def State.takeData (s : State) (src : Nat) : Option EntryPool :=
  let x := s.source src
  if s.inUse src ≥ x.limit || s.dataFull then none
  else if s.reserveUsed src < x.reserve then some .reserve
  else if s.poolUsed .shared < 64512 - s.reserveSum then some .shared
  else none

/-- An entry for a CLASS 15 command: a kept entry, or its own reserve when all of those are in use (R63). -/
def State.takeControl (s : State) (src : Nat) : Option EntryPool :=
  let x := s.source src
  if s.inUse src ≥ x.limit then none
  else if s.poolUsed .kept < 1024 then some .kept
  else if s.dataFull then none
  else if s.reserveUsed src < x.reserve then some .reserve
  else none

def State.takeEntry (s : State) (src cls : Nat) : Option EntryPool :=
  if cls = 15 then s.takeControl src else s.takeData src

/-! ### The command packet (R54) -/

def pkOpcode (p : Packet) : Nat := bf p 7 0
def pkPblk (p : Packet) : Bool := bit p 8
def pkBarrier (p : Packet) : Bool := bit p 9
def pkTwin (p : Packet) : Bool := bit p 10
def pkNoIntr (p : Packet) : Bool := bit p 11
def pkQtag (p : Packet) : Nat := bf p 31 16
def pkContext (p : Packet) : Nat := bf p 43 32
def pkComp (p : Packet) : Nat := bf p 55 44
def pkClass (p : Packet) : Nat := bf p 59 56
/-- PB_ADDR, PB_LEN, PB_LOC (R55). -/
def pkPbAddr (p : Packet) : Nat := bf p 127 64
def pkPbLen (p : Packet) : Nat := bf p 148 128
def pkPbLoc (p : Packet) : Bool := bit p 159
/-- The little-endian field of `n` bytes at byte `b` of the packet (R16). -/
def pkField (p : Packet) (b n : Nat) : Nat := bf p (8 * (b + n) - 1) (8 * b)

/-! ### Status codes (R72, R73) -/

namespace St
abbrev done := 0x00
abbrev donePartial := 0x01
abbrev doneLateAbort := 0x02
abbrev aborted := 0x03
abbrev revoked := 0x08
abbrev staleVersion := 0x09
abbrev remap := 0x0A
abbrev xltFault := 0x10
abbrev xltDenied := 0x11
abbrev poisonRead := 0x18
abbrev divergent := 0x19
abbrev noSpace := 0x20
abbrev badOpcode := 0x30
abbrev badParam := 0x31
abbrev timeout := 0x38
abbrev fenced := 0x3F
end St

/-- ABSENT of a command (R83): the classes of which no item began. -/
def absentOf (begun : Nat) : Nat := 0xFF ^^^ (begun % 256)

/-- HOST_ADDR of the opcodes of chapter 4 (R163). -/
def xpHost (p : Packet) : Nat := pkField p 8 8

/-- What a DMA command reports of the bytes, or the pages, that it has moved (R160, R165); any other the work items whose commits
are acknowledged (R83). MIGRATE_OUT's count of commands REVOKED stands already. -/
def Entry.progress (e : Entry) (o : Outcome) : Outcome :=
  let host := xpHost e.packet
  match pkOpcode e.packet with
  | 0x01 | 0x02 => { o with result0 := host + e.dma.moved, countDone := e.dma.moved, countAux := e.dma.requests }
  | 0x08 => { o with result0 := (host / 4096 + e.dma.moved) * 4096, countDone := e.dma.moved, countAux := e.dma.requests }
  | 0x0C | 0x0D => { o with result0 := e.dma.moved, countDone := e.dma.moved / 4096 }
  | _ => { o with countDone := e.acked }

/-- A stopped command whose homes have all acknowledged ends with its stop's status (R82, R84, R173). -/
def Entry.endStopped (e : Entry) : Entry :=
  let done (st sub : Nat) : Entry :=
    { e with phase := .ended
             out := { e.progress e.out with status := st, subcode := sub, absent := absentOf e.begun } }
  match e.stop with
  | some .abortTag => done St.aborted 0x01
  | some .abortAll => done St.aborted 0x02
  | some .flr => done St.aborted 0x03
  | some .fenced => done St.fenced 0xB4
  | some .brace => done St.aborted 0xF0
  | some .timeout => done St.timeout (if pkOpcode e.packet = 0xA1 then 0x40 else 0x00)
  | some (.revoked sub) =>
    { e with phase := .ended, out := { e.out with status := St.revoked, subcode := sub, absent := 0xFF, countDone := 0 } }
  | none => { e with phase := .ended }

/-- Cancel every command of the lift line on a member that fences itself (R512, R488): one whose last effect has committed
keeps its outcome, one with items at other members waits for their answers, any other ends FENCED, subcode 0xB4. A packet
whose checks are not made yet ends so too. -/
def State.fenceCommands (s : State) : State :=
  { s with cmdq := { s.cmdq with entries := s.cmdq.entries.mapVals fun _ (e : Entry) =>
      if e.phase == .ended || e.phase == .held || e.stop.isSome then e
      else if !e.accepted then
        { e with phase := .ended, out := { e.out with status := St.fenced, subcode := 0xB4, absent := 0xFF } }
      else
        let away := e.items.filter fun (i : Item) => i.home != s.sys.member
        let e1 := { e with stop := some Stop.fenced, items := away.map fun (i : Item) => { i with cancelled := true } }
        if away.isEmpty then e1.endStopped else e1 } }

/-- The cancels that go out for them. -/
def State.sendCancels (s : State) : State :=
  let ids := s.cmdq.entries.cells.foldl (fun (l : List (Nat × Nat)) c => l ++ (c.2.items.filter fun (i : Item) => i.cancelled).map
    fun (i : Item) => (i.home, i.id)) []
  ids.foldl (fun (s : State) x => s.emit (.work x.1 x.2 1)) s

/-! ### The rack map: homes and partners (R181, R182, R494, R495) -/

/-- TIER_HASH.WIDTH, 0 counting as 1 (R180). -/
def State.width (s : State) : Nat := max 1 (s.fld F.TIER_HASH_WIDTH)
def State.salt (s : State) : Nat := s.fld F.TIER_SALT_LO_SALT + 2 ^ 32 * s.fld F.TIER_SALT_HI_SALT

/-- The home slot of an RSA (R181). -/
def homeSlotOf (salt n rsa : Nat) : Nat :=
  if rsa ≥ 0xFF000000000000 then nbf (rsa >>> 42) 5 0
  else
    let x := (rsa >>> 12) ^^^ (salt % 2 ^ 44)
    ((x >>> 22) ^^^ (x % 2 ^ 22)) % n

/-- The channel of an RSA in a tier with `c` channels (R181). -/
def channelOf (salt n rsa c : Nat) : Nat :=
  let q := if rsa ≥ 0xFF000000000000 then rsa >>> 12
    else
      let x := (rsa >>> 12) ^^^ (salt % 2 ^ 44)
      ((x >>> 22) ^^^ (x % 2 ^ 22)) / n
  (q ^^^ (salt >>> 44)) % c

def State.homeSlot (s : State) (rsa : Nat) : Nat := homeSlotOf s.salt s.width rsa

/-- The member that serves a slot: the map's server, or this member while no map is formed. -/
def State.serverOf (s : State) (slot : Nat) : Nat := s.rack.map.server.getD slot s.sys.member
def State.homeOf (s : State) (rsa : Nat) : Nat := s.serverOf (s.homeSlot rsa)
def State.isHome (s : State) (rsa : Nat) : Bool := s.homeOf rsa = s.sys.member

/-- STATE[m] of the map; an unformed member stands alone. -/
def State.memberState (s : State) (m : Nat) : MemberState :=
  s.rack.map.state.getD m (if m = s.sys.member then .active else .absent)

def State.voting (s : State) : List Nat :=
  (List.range 64).filter fun m => s.memberState m = .active || s.memberState m = .spare

/-- The partner member of a slot: the server of the first slot upward from it that is ACTIVE and another (R495). -/
def State.partnerOf (s : State) (slot : Nat) : Option Nat :=
  let n := s.width
  let own := s.serverOf slot
  ((List.range n).map fun k => s.serverOf ((slot + 1 + k) % n)).find? fun m =>
    m != own && s.memberState m == .active

/-- The slots this member serves, ascending. -/
def State.ownSlots (s : State) : List Nat :=
  (List.range s.width).filter fun i => s.serverOf i = s.sys.member

/-- The members that home part of a list of byte addresses, each once, in order of first use. -/
def State.homesOf (s : State) (addrs : List Nat) : List Nat :=
  addrs.foldl (fun l a => addNew l (s.homeOf a)) []

/-! ### Work items at other members (R34, R82, R149, R393, R511) -/

/-- A slot that a member serves, by which it is addressed; 64 for a member that serves none (R511). -/
def State.slotServed (s : State) (m : Nat) : Nat :=
  ((List.range s.width).find? fun i => s.serverOf i = m).getD 64

/-- Add an item to the command that waits for it. -/
def State.addItem (s : State) (owner : Option Nat) (i : Item) : State :=
  match owner with
  | none => s
  | some id => s.modEntry id fun e => { e with items := e.items ++ [i] }

/-- The waiter of what a stream step of a core, by its number, asks other members for. -/
def coreWaiter (c seq : Nat) : Nat := 2 ^ 41 + 2048 * (seq % 2 ^ 29) + c
/-- The core such a waiter stands for. -/
def waiterCore (id : Nat) : Option Nat :=
  if 2 ^ 41 ≤ id && id < 2 ^ 42 then some ((id - 2 ^ 41) % 2048) else none

/-- The CLASS in which items are sent for a waiter: its command's, or that of what is being served (R54, R474). -/
def State.itemClass (s : State) (owner : Option Nat) : Nat :=
  let core := (owner.bind waiterCore).bind fun c => (s.core.cores.getD c {}).run.map (·.inv.entry)
  (((core.orElse fun _ => owner).bind fun id => s.entry? id).map fun e => pkClass e.packet).getD s.rack.cls

/-- Send a work item, numbered afresh, and keep what it carries until its answer (R511). -/
def State.sendItem (s : State) (x : Away) (classes : Nat) : State :=
  let n := s.rack.nextItem
  let x := { x with cls := s.itemClass x.owner }
  let s := { s with rack := { s.rack with nextItem := n + 1, away := s.rack.away.set n x } }
  (s.emit (.item x.home s.sys.member n x.epoch x.cls false x.role x.slot x.kind x.addr x.data)).addItem x.owner
    { home := x.home, id := n, classes := classes, begun := false }

/-- The map epoch under which a waiter's items are routed: the one its command or its invocation captured (R149, R227, R510). -/
def State.epochOf (s : State) (owner : Option Nat) : Nat :=
  let core := (owner.bind waiterCore).bind fun c => (s.core.cores.getD c {}).run.map (·.inv.epoch)
  (core.orElse fun _ => (owner.bind fun id => s.entry? id).map (·.epoch)).getD s.rack.map.epoch

/-- The home of an RSA under the map of an epoch (R149); one that has been fenced since, or is this member itself, passes on what
would reach it to the home of today (R510, R511). -/
def State.homeUnder (s : State) (epoch rsa : Nat) : Nat :=
  let m := ((s.rack.servers.find? epoch).getD s.rack.map.server).getD (s.homeSlot rsa) s.sys.member
  if m = s.sys.member || s.memberState m == .fenced then s.homeOf rsa else m

/-- From here on, items are sent for this waiter. -/
def State.serving (s : State) (id : Nat) : State := { s with rack := { s.rack with writer := some id } }

/-- The waiter of another member's work item. -/
def itemWaiter (origin id : Nat) : Nat := 2 ^ 40 + 2 ^ 32 * origin + id

/-- A waiter's items have all been answered. -/
def State.noneAway (s : State) (id : Nat) : Bool := !(s.rack.away.cells.any fun c => c.2.owner == some id)

/-- What is known of an item's content goes with its answer. -/
def State.dropAway (s : State) (item : Nat) : State :=
  { s with rack := { s.rack with away := s.rack.away.erase item } }

/-- What has been read elsewhere for a waiter is forgotten once it has used it. -/
def State.dropFetched (s : State) (id : Nat) : State :=
  { s with rack := { s.rack with fetched := s.rack.fetched.filter fun f => f.1 != id } }

/-- Remember a work item's answer and send it (R513). -/
def State.answerOrigin (s : State) (origin id st sub : Nat) (data : List Byte) : State :=
  let m : ItemMemo := { origin := origin, id := id, frame := s.frame, status := st, subcode := sub, data := data }
  ({ s with rack := { s.rack with memo := (s.rack.memo.filter fun (x : ItemMemo) => decide (s.frame < x.frame + 256)) ++ [m] } }).emit
    (.workAnswer origin id st sub data)

/-! ### Administration (R8, R92, R542) -/

/-- May the physical function of a port administer (R542): any in BLANK and PROVISIONED, those ADMIN_PORTS names in
SEALED; a virtual function never. -/
def State.mayAdminister (s : State) (src : Nat) : Bool :=
  src < 128 && src % 64 = 0 && (s.sys.lc != .sealed || s.sys.adminPorts.testBit (src / 64))

/-- The administering port of the FN_HXL_ registers (R92): the lowest port that may administer. -/
def State.adminPort (s : State) : Nat := if s.mayAdminister 0 then 0 else 1

/-- The member is fenced, by itself or by the map (R488, R504, R505). -/
def State.fenced (s : State) : Bool :=
  s.rack.selfFenced || s.memberState s.sys.member == .fenced

/-- The member runs: commands are taken (R551). -/
def State.running (s : State) : Bool := s.sys.power = .run || s.sys.power = .glide

/-- The member has a quorum's map and its store is up. -/
def State.storeUp (s : State) : Bool := s.fld F.TIER_STATUS_STORE_UP = 1

/-- A checker's pair is masked: its unit is powered down (R483, R551). -/
def State.chkMasked (s : State) (chk : Nat) : Bool :=
  match s.sys.power with
  | .standby => !s.sys.starting
  | .off => true
  | .rest => Config.checkerUnitKind chk = 0 || Config.checkerUnitKind chk = 6
  | _ => false

/-- A member takes traffic outside the control class while it is aligned (R30, R132). -/
def State.aligned (s : State) : Bool := s.fld F.PST_STATUS_ALIGN_STATE = 2 || s.fld F.PST_STATUS_ALIGN_STATE = 3

/-- A member that is up takes nothing outside the control class while it is not aligned (R30, R132). -/
def State.unaligned (s : State) (cls : Nat) : Bool := s.storeUp && !s.aligned && cls != 15

/-! ### State sensors (R607, R608) -/

/-- What state sensors 32 to 37 read: the power state, the lifecycle state, the start-up step (13 for a population failure),
REFCLK, the result of the last brace, FATAL. -/
def State.stateSensors (s : State) : List Nat :=
  [s.sys.power.code, s.sys.lc.code,
   if s.fld F.TIER_POP_STATUS_ERR = 0 then s.fld F.CLK_STARTUP_STAGE else 13,
   b2n s.sys.refclk, s.fld F.PWR_BRACE_LAST_RESULT, s.fld F.ERR_STATUS_FATAL]

/-- One sensor event for one endpoint: sent to its receiver, else queued; a full queue drops its oldest (R608). -/
def State.sensorEvent (s : State) (ep sensor value : Nat) : State :=
  match s.mgt.receivers.getD ep none with
  | some eid => s.emit (.response ep 0x0A (toLe 1 eid ++ toLe 2 sensor ++ toLe 1 value))
  | none =>
    let q := s.mgt.queues.getD ep []
    let s := { s with mgt := { s.mgt with queues := s.mgt.queues.set ep ((q.drop (q.length - 15)) ++ [(sensor, value)]) } }
    if q.length ≥ 16 then s.raise F.MGT_EVENT_EVENT_DROPPED else s

/-- Every state sensor that has changed since it was last told sends its event to every endpoint (R608). -/
def State.tellSensors (s : State) : State :=
  let now := s.stateSensors
  let changed := (List.range 6).filter fun i => now.getD i 0 != s.mgt.told.getD i 0
  let s := { s with mgt := { s.mgt with told := now } }
  changed.foldl (fun (s : State) i =>
    ((s.sensorEvent 0 (32 + i) (now.getD i 0)).sensorEvent 1 (32 + i) (now.getD i 0)).sensorEvent 2 (32 + i) (now.getD i 0)) s

/-! ### Performance counters (R616 to R618) -/

def State.pmc (s : State) (k : Nat) : Pmc := s.mgt.pmcs.getD k {}
def State.setPmc (s : State) (k : Nat) (p : Pmc) : State := { s with mgt := { s.mgt with pmcs := s.mgt.pmcs.set k p } }

/-- The counter counts at all. -/
def State.pmcRuns (s : State) (p : Pmc) : Bool := p.en && !p.frozen && !s.mgt.pmcFrozen

/-- CHAIN of an odd counter is in effect (R618, R623): when its owner wrote it, v must be odd and v - 1 and v assigned to the
pair. -/
def State.chained (s : State) (k : Nat) : Bool :=
  let p := s.pmc k
  let q := s.pmc (k - 1)
  k % 2 = 1 && p.chain &&
    (!p.own || (p.assigned && q.assigned && p.func = q.func && p.vidx % 2 = 1 && q.vidx + 1 = p.vidx))

/-- A counter overflows (R618). -/
def State.pmcOverflow (s : State) (k : Nat) : State :=
  let p := s.pmc k
  let s := s.setPmc k { p with ovf := true }
  let s := if s.fld F.PMC_OVF_FIRST_VALID = 1 then s
    else (s.setFld F.PMC_OVF_FIRST_COUNTER k).setFld F.PMC_OVF_FIRST_VALID 1
  let s := s.raise F.MGT_EVENT_PMC_OVF
  if p.freezeOnOvf then { s with mgt := { s.mgt with pmcFrozen := true } } else s

/-- A counter wraps: within a chain its upper counter counts, else it overflows (R618). -/
def State.pmcWrap (s : State) (k : Nat) : State :=
  if k % 2 = 0 && s.chained (k + 1) && s.pmcRuns (s.pmc (k + 1)) then
    let u := s.pmc (k + 1)
    let s1 := s.setPmc (k + 1) { u with value := (u.value + 1) % 2 ^ 48 }
    if u.value + 1 < 2 ^ 48 then s1 else s1.pmcOverflow (k + 1)
  else s.pmcOverflow k

/-- What a pulse adds in each MODE (R617). -/
def Pmc.adds (p : Pmc) : Nat :=
  match p.mode with
  | 0 => 1
  | 1 => b2n (decide (p.thresh ≤ 1))
  | 3 => b2n (p.thresh = 1)
  | _ => 0

/-- A counter is set to an event at an instance: an event of scope Function that its owner selected counts the owner's
commands only (R616, R623). -/
def Pmc.counts (p : Pmc) (event unit : Nat) : Bool :=
  p.event = event && (if p.own && 0x040 ≤ event && event ≤ 0x044 then p.func = unit else p.unit = 0xFFF || p.unit = unit)

/-- An event pulses `n` times at an instance. -/
def State.pulse (s : State) (event unit : Nat) (n : Nat := 1) : State :=
  (s.mgt.pmcs.cells.filter fun c => s.pmcRuns c.2 && c.2.counts event unit && !s.chained c.1).foldl (fun (s : State) c =>
    let p := s.pmc c.1
    let v := p.value + n * p.adds
    let s1 := s.setPmc c.1 { p with value := v % 2 ^ 48 }
    if v < 2 ^ 48 then s1 else s1.pmcWrap c.1) s

end Sys2Proof.Machine
end

