-- ==== Sys2Proof/Machine/ErrOps.lean ====
section
/-!
DEFINITION. Collecting an error: counts, the Sitzmark, ERR_FIRST and the fatal sequence (R485, R488 to R490).
-/
namespace Sys2Proof.Machine

open Sys2Proof

/-- The Sitzmark entry of an error (R489). -/
def sitzEntry (frame seq resets : Nat) (e : ErrInfo) : BitVec 256 :=
  BitVec.ofNat 256 (leNat (toLe 6 frame ++ toLe 2 seq ++ toLe 2 (e.chk % 4096) ++
    toLe 1 (e.severity % 8 + 8 * b2n e.inj + 16 * b2n e.storm + 32 * b2n e.security) ++ toLe 1 e.source ++
    toLe 2 (e.unitKind % 16 + 16 * (e.unitIndex % 4096)) ++ toLe 2 resets ++ toLe 7 e.addr ++ toLe 1 0 ++
    toLe 4 e.info ++ toLe 4 0))

/-- Write an entry: the oldest of 64 goes; a frozen Sitzmark counts it in LOST instead. An error of severity 3 or above
fills an empty ERR_FIRST either way (R490). -/
def State.sitz (s : State) (e : ErrInfo) : State :=
  let w := sitzEntry s.frame s.err.sitzSeq (s.fld F.CLK_RESET_COUNT_COUNT) e
  let s1 := if e.severity ≥ 3 && s.err.first.isNone then { s with err := { s.err with first := some w } } else s
  if s1.fld F.ERR_STATUS_FROZEN = 1 then s1.count F.ERR_SITZ_STATUS_LOST
  else
    let l := (w :: s1.err.sitz).take 64
    { s1 with err := { s1.err with sitz := l, sitzSeq := (s1.err.sitzSeq + 1) % 65536 } }.setFld
      F.ERR_SITZ_STATUS_VALID l.length

/-- Frames of a corrected-error window, and the threshold (R485, R493). -/
def State.ceFrames (s : State) : Nat := (max 1 (s.fld F.ERR_CE_CFG_WINDOW)) * 65536
def State.ceThresh (s : State) : Nat := max 1 (s.fld F.ERR_CE_CFG_THRESH)

/-- A CORRECTED error of one source (R485): counted, in all and in the source's present window. `key` names the source:
one device, pseudo-channel, die, array or link. -/
def State.corrected (s : State) (key : Nat) (e : ErrInfo) : State :=
  let s := (s.count F.ERR_COUNT_CE).pulse 0x200 0xFFF
  let w := s.err.windows.getD key {}
  let w := if w.window = s.frame / s.ceFrames then w else { window := s.frame / s.ceFrames }
  { s with err := { s.err with windows := s.err.windows.set key { w with count := w.count + 1, last := some e } } }

/-- The unit an error names, changed. -/
def unitKey (kind index : Nat) : Nat := 4096 * kind + index
def State.unitRec (s : State) (kind index : Nat) : UnitRec := s.err.units.getD (unitKey kind index) {}
def State.setUnit (s : State) (kind index : Nat) (u : UnitRec) : State :=
  { s with err := { s.err with units := s.err.units.set (unitKey kind index) u } }

/-- Errors of severity 2 or above count at their unit (R493). -/
def State.unitError (s : State) (e : ErrInfo) : State :=
  if e.unitKind = 15 then s
  else
    let u := s.unitRec e.unitKind e.unitIndex
    s.setUnit e.unitKind e.unitIndex { u with errors := satInc 16 u.errors }

/-- A repair pass meets fencing, brace or reset (R324): it is abandoned. -/
def State.abandonPasses (s : State) : State :=
  if s.vec.indexes.cells.any fun c => c.2.running then
    ({ s with vec := { s.vec with
      indexes := s.vec.indexes.mapVals fun _ x => { x with running := false } } }).raise F.VEC_EVENT_PASS_ABANDONED
  else s

/-- Steps 2 to 5 of the fatal sequence (R488): the pin, the entry, the freeze, the notice to every member, and the
member acting as one that fences itself. -/
def State.fatal (s : State) (e : ErrInfo) : State :=
  let s := (s.sitz { e with severity := 5 })
  let first := s.fld F.ERR_STATUS_FATAL = 0
  let s := (((s.setFld F.ERR_STATUS_FROZEN 1).setFld F.ERR_STATUS_FATAL 1).setFld F.ERR_SITZ_STATUS_FROZEN 1).raise
    F.ERR_EVENT_SITZ_FROZEN
  let s := { s with
    sys := { s.sys with errFatal := true }
    rack := { s.rack with selfFenced := true }
    err := { s.err with fatalResetSeen := false } }
  let s := s.abandonPasses.fenceCommands.sendCancels.tellSensors
  if first then
    (s.voting.filter fun m => m != s.sys.member).foldl (fun s m => s.emit (.toMember m [0x11, 0x4F]))
      (s.emit (.pin 0 true))
  else s

/-- Collect an error of severity 2 or above, with the reaction of its severity (R485). -/
def State.logError (s : State) (e : ErrInfo) : State :=
  let s := s.unitError e
  match e.severity with
  | 2 =>
    let s := s.sitz e
    if e.source = 0x15 || e.source = 0x16 then s
    else (s.count F.ERR_COUNT_RECOVERED).raise F.ERR_EVENT_RECOVERED
  | 3 => ((s.sitz e).count F.ERR_COUNT_CONTAINED).raise F.ERR_EVENT_CONTAINED
  | 4 => ((s.sitz e).count F.ERR_COUNT_UNIT).raise F.ERR_EVENT_UNIT_OFFLINE
  | _ => s.fatal e

/-- Take a unit offline (R486, R487) and collect the error. -/
def State.unitOffline (s : State) (e : ErrInfo) : State :=
  let s := s.logError { e with severity := 4 }
  let u := s.unitRec e.unitKind e.unitIndex
  s.setUnit e.unitKind e.unitIndex { u with offline := true, cause := e.source }

end Sys2Proof.Machine
end

