-- ==== Sys2Proof/Machine/StoreOps.lean ====
section
/-!
DEFINITION. The store: its bytes, granule metadata, recovery and poison (R466 to R478), heat, pools and placement
(R183 to R195), the durable journal (R211 to R213).
-/
namespace Sys2Proof.Machine

open Sys2Proof

/-! ### Bytes -/

/-- The byte at an address; one that nothing lists reads 0 (R522). -/
def Memory.get : Memory → Nat → Byte
  | [], _ => 0
  | (i, b) :: r, a => if i = a then b else Memory.get r a

/-- Write one byte; the list stays sorted and lists no zero. -/
def Memory.set (m : Memory) (a : Nat) (b : Byte) : Memory := if b = 0 then cellsErase m a else cellsSet m a b

/-- Write a byte string from an address up. -/
def Memory.setBytes (m : Memory) (a : Nat) : List Byte → Memory
  | [] => m
  | b :: bs => Memory.setBytes (Memory.set m a b) (a + 1) bs

/-- The `n` bytes from an address up. -/
def Memory.getBytes (m : Memory) (a n : Nat) : List Byte := (List.range n).map fun i => Memory.get m (a + i)

/-- Strictly rising addresses. -/
def Memory.sorted (m : Memory) : Bool := cellsSorted m

/-- The canonical form: strictly rising addresses, no byte equal to what an unlisted address reads as. -/
def Memory.wf (m : Memory) : Bool := Memory.sorted m && m.all fun c => c.2 != 0

/-- The byte of the store at an RSA. -/
def State.byte (s : State) (a : Nat) : Byte := Memory.get s.store.mem a
def State.bytes (s : State) (a n : Nat) : List Byte := Memory.getBytes s.store.mem a n
def State.pokeBytes (s : State) (a : Nat) (l : List Byte) : State :=
  { s with store := { s.store with mem := Memory.setBytes s.store.mem a l } }

/-! ### Granules, slabs, pages -/

def State.gran (s : State) (g : Nat) : Gran := s.store.grans.getD g {}
def State.setGran (s : State) (g : Nat) (x : Gran) : State :=
  { s with store := { s.store with grans := s.store.grans.set g x } }
/-- The local windows of R182. -/
def isLocal (rsa : Nat) : Bool := rsa ≥ 0xFF000000000000
/-- The first 32 GiB of a local window (R182). -/
def inResultRegion (rsa : Nat) : Bool := isLocal rsa && decide (rsa % 2 ^ 42 < 2 ^ 35)
/-- The window of a slot holds the result region of the slot's server (R182): this member's is known, another's is that of the lowest
slot it serves. -/
def State.resultWindow (s : State) (w : Nat) : Bool :=
  if s.serverOf w = s.sys.member then s.store.resultSlot = some w
  else decide (w < s.width) && (List.range w).all fun i => s.serverOf i != s.serverOf w
/-- A slab's record; the slabs of a result region stand in HBM3E and are composition 0's, the first 32 GiB of another window are nobody's
(R182, R190, R521). -/
def State.slab (s : State) (rsa : Nat) : Slab :=
  if inResultRegion rsa then { home := .hbm, comp := if s.storeUp && s.resultWindow (rsa / 2 ^ 42 % 64) then some 0 else none }
  else s.store.slabs.getD (rsa / 0x40000000) {}
def State.setSlab (s : State) (n : Nat) (x : Slab) : State :=
  { s with store := { s.store with slabs := s.store.slabs.set n x } }
def State.page (s : State) (pg : Nat) : PageRec := s.store.pages.getD pg {}
def State.setPage (s : State) (pg : Nat) (x : PageRec) : State :=
  { s with store := { s.store with pages := s.store.pages.set pg x } }


/-- The page is protected by parity, not by a mirror (R473). -/
def State.striped (s : State) (pg : Nat) : Bool :=
  let sl := s.slab (pg * 4096)
  let p := s.page pg
  sl.copyMode && sl.home == .flash && s.width ≥ 10 && !isLocal (pg * 4096) && p.programmed && !p.buffered

/-- The page has a mirror (R472, R473, R508): the rack has a partner, parity does not stand for it, and no re-mirroring
has it still to copy. -/
def State.mirrored (s : State) (pg : Nat) : Bool :=
  s.width ≥ 2 && !s.striped pg && !(s.rack.remirror.any fun m => m.page = pg && !m.sent) &&
    (s.partnerOf (s.homeSlot (pg * 4096))).isSome

/-- The tier in which the page's highest copy stands (R186, R187). -/
def State.standsIn (s : State) (pg : Nat) : Tier :=
  let p := s.page pg
  if p.hbm.isSome then .hbm
  else if p.ddr.isSome || p.buffered then .ddr
  else (s.slab (pg * 4096)).home

/-- Channels of a tier (R181). -/
def Tier.channels : Tier → Nat
  | .hbm => 128 | _ => 32

/-- The unit that holds a page: its UNIT_KIND and UNIT_INDEX (R489). -/
def State.unitOf (s : State) (pg : Nat) : Nat × Nat :=
  let t := s.standsIn pg
  let c := channelOf s.salt s.width (pg * 4096) t.channels
  match t with
  | .hbm => (1, c) | .ddr => (2, c / 2) | .flash => (3, c)

/-- A stripe's number, data position and parity slots (R475) for the page of rank `r` at a slot. -/
def stripeOf (n slot r : Nat) : Nat × Nat × Nat × Nat :=
  let i := r * n + slot
  let k := i / 8
  let o := (2 * k) % (n - 9)
  (k, i % 8, (8 * k + 8 + o) % n, (8 * k + 9 + o) % n)

/-- gmul of R475: the product in GF(2^8) with polynomial 0x11D. -/
def gmul (a b : Nat) : Nat :=
  ((List.range 8).foldl (fun (acc : Nat × Nat) i =>
    let (p, x) := acc
    let p := if b.testBit i then p ^^^ x else p
    (p, if x ≥ 128 then ((2 * x) ^^^ 0x11D) % 256 else 2 * x)) (0, a % 256)).1

/-- P and Q of one byte position over the eight data pages (R475). -/
def parityPQ (d : List Nat) : Nat × Nat :=
  let p := d.foldl (· ^^^ ·) 0
  let q := ((List.range d.length).foldl (fun acc i => acc ^^^ gmul (2 ^ i % 256) (d.getD i 0)) 0)
  (p, q)

/-- The pages of the same slab homed at the same slot, below this one: its rank (R475). -/
def State.rank (s : State) (pg : Nat) : Nat :=
  let first := pg / 262144 * 262144
  ((List.range (pg - first)).filter fun i => s.homeSlot ((first + i) * 4096) = s.homeSlot (pg * 4096)).length

/-- The stripe of a page (R475). -/
def State.stripe (s : State) (pg : Nat) : Nat := (stripeOf s.width (s.homeSlot (pg * 4096)) (s.rank pg)).1

/-! ### Errors of the store -/

/-- What a read of a poisoned granule answers (R468). -/
def PoisonKind.answer : PoisonKind → Nat × Nat
  | .uncorrectable => (0x18, 0xD1)
  | .reclaim => (0x18, 0xCA)
  | .divergent => (0x19, 0xD9)
  | .stripeLost => (0x18, 0xD2)

/-- Send a work item for the one being served. -/
def State.sendServed (s : State) (x : Away) (classes : Nat) : State :=
  let owner := s.rack.writer
  s.sendItem { x with owner := owner, epoch := s.epochOf owner } classes

/-- The origin and the ID of the work item being served, by which the partner records an update (R507); member 64
for a write that no item asked for. -/
def State.servedItem (s : State) : Nat × Nat :=
  match s.rack.writer with
  | some w => if 2 ^ 40 ≤ w && w < 2 ^ 41 then ((w - 2 ^ 40) / 2 ^ 32, w % 2 ^ 32) else (64, 0)
  | none => (64, 0)

def poisonCode : Option PoisonKind → Nat
  | none => 0
  | some k => k.code + 1

def poisonOf : Nat → Option PoisonKind
  | 1 => some .uncorrectable | 2 => some .reclaim | 3 => some .divergent | 4 => some .stripeLost | _ => none

/-- What a granule's copy carries to another member: its bytes, WGEN, the work item that wrote it, and its poison. -/
def State.copyOf (s : State) (g : Nat) : List Byte :=
  s.bytes (g * 128) 128 ++ toLe 6 (s.gran g).wgen ++ toLe 1 s.servedItem.1 ++ toLe 4 s.servedItem.2 ++ toLe 1 (poisonCode (s.gran g).poison)

/-- The member that phase 1 of a MAP_ASSIGN is copying a slot of this member to (R519): every write reaches it too. -/
def State.copyingTo (s : State) (slot : Nat) : Option Nat :=
  match s.rack.assign with
  | some a => if a.slot = slot && s.serverOf slot = s.sys.member then some a.subject else none
  | none => none

/-- The home carries a write of a mirrored granule to the partner (R188, R474), and one to a slot that is being copied to the
member it is copied to (R519). -/
def State.mirrorWrite (s : State) (g : Nat) : State :=
  let slot := s.homeSlot (g * 128)
  let x : Away := { owner := none, home := (s.partnerOf slot).getD 0, epoch := 0, role := true, slot := slot, kind := 3, addr := g * 128,
                    data := s.copyOf g }
  let s := if s.mirrored (g / 32) then s.sendServed x 1 else s
  match s.copyingTo slot with
  | some m => s.sendServed { x with home := m, slot := 64 } 1
  | none => s

/-- Poison a granule in every copy (R477, R478). -/
def State.poison (s : State) (g : Nat) (k : PoisonKind) (wgen : Nat) : State :=
  (s.setGran g { wgen := wgen, poison := some k, key := (s.gran g).key }).mirrorWrite g

/-! ### Memory encryption (R535) -/

/-- The key pair a granule is encrypted under, by the composition that holds its slab's grant; storage of no composition takes the
pair of composition 0. None: the pair has been destroyed, or not been drawn. -/
def State.keyPair (s : State) (rsa : Nat) : Option Nat :=
  match (s.slab rsa).comp with
  | some c => if c = 0 then s.sys.keyZero else s.rack.keys.find? c
  | none => s.sys.keyZero

/-- A key pair as the cipher takes it. -/
def pairCode : Option Nat → Nat
  | none => 0
  | some k => k + 1

/-- What decrypting yields, under the present pair with the tweak RSA[55:7], of a granule that stands encrypted under another pair. -/
def State.underPair (s : State) (g : Nat) (old : Option Nat) (data : List Byte) : List Byte :=
  (Config.xtsDecrypt (pairCode (s.keyPair (g * 128))) g (Config.xtsEncrypt (pairCode old) g data) ++ List.replicate 128 0).take 128

/-- A granule is decrypted under the present pair of its slab: one that was encrypted under another reads as that makes of it. -/
def State.decrypt (s : State) (g : Nat) : State :=
  let x := s.gran g
  if x.key.isNone || x.key == s.keyPair (g * 128) then s
  else
    (s.pokeBytes (g * 128) (s.underPair g x.key (s.bytes (g * 128) 128))).setGran g
      { x with key := s.keyPair (g * 128), mirror := x.mirror.map fun m => { m with data := s.underPair g x.key m.data } }

/-- The granules of the page of a granule. -/
def pageGranules (g : Nat) : List Nat := (List.range 32).map fun i => g / 32 * 32 + i

/-- What a collector knows of an error at a granule. -/
def State.errAt (s : State) (g source severity info : Nat) (inj : Bool) : ErrInfo :=
  let (k, i) := s.unitOf (g / 32)
  { source := source, severity := severity, unitKind := k, unitIndex := i, addr := g * 128, info := info, inj := inj }

/-- Recover an uncorrectable granule in the first way R477 allows. True: the granule is readable again. -/
def State.recover (s : State) (g : Nat) : State × Bool :=
  let x := s.gran g
  let pg := g / 32
  let sl := s.slab (g * 128)
  let p := s.page pg
  let partner := (s.partnerOf (s.homeSlot (g * 128))).getD 0
  if sl.copyMode && (p.hbm.isSome || p.ddr.isSome) then
    let s := s.setPage pg { p with hbm := none, ddr := none }
    ((s.setGran g { x with damaged := false, injected := false }).logError (s.errAt g 0x12 2 0 x.injected), true)
  else if s.striped pg then
    if 2 < (s.rack.missing.filter fun m => m.slab = pg / 262144 && m.stripe = s.stripe pg && m.page != some pg).length + 1 then
      let s1 := (pageGranules g).foldl (fun s h => s.poison h .stripeLost (s.gran h).wgen) s
      (s1.logError (s.errAt g 0x22 3 0 x.injected), false)
    else
      let s1 := (pageGranules g).foldl (fun s h => s.setGran h { key := (s.gran h).key }) s
      ((s1.count F.ERR_COUNT_REBUILT).logError (s.errAt g 0x11 2 0 x.injected), true)
  else if s.mirrored pg && !(x.mirror.any fun m => m.damaged) then
    let s1 := match x.mirror with
      | some m => (s.pokeBytes (g * 128) m.data).setGran g { wgen := m.wgen, poison := m.poison, key := x.key }
      | none => s.setGran g { x with damaged := false, injected := false }
    let s1 := if s.standsIn pg == .flash then s1.count F.ERR_COUNT_REBUILT else s1
    (s1.logError (s.errAt g 0x10 2 partner x.injected), (s1.gran g).poison.isNone)
  else
    let gs := if sl.home == .flash && s.standsIn pg == .flash then pageGranules g else [g]
    let s1 := gs.foldl (fun s h => s.poison h .uncorrectable (s.gran h).wgen) s
    (s1.logError (s.errAt g 0x20 3 0 x.injected), false)

/-- Read a granule: its check, then its data; none when it can be served, else the STATUS and SUBCODE (R468, R477). Of a granule
homed elsewhere its home has told (R28). -/
def State.checkRead (s : State) (g : Nat) : State × Option (Nat × Nat) :=
  if !s.isHome (g * 128) then (s, s.rack.fetchFail.find? g) else
  let s := s.decrypt g
  let x := s.gran g
  match x.poison with
  | some k => (s, some k.answer)
  | none =>
    if x.damaged then
      match s.recover g with
      | (s1, true) => (s1, none)
      | (s1, false) => (s1, some (0x18, 0xD0))
    else if x.corrupt then
      let (k, i) := s.unitOf (g / 32)
      -- a flash page is programmed again out of place (R471)
      let s1 := if k = 3 then s.setGran g { x with corrupt := false, injected := false } else s
      (s1.corrected (unitKey k i) (s.errAt g k 1 0 x.injected), none)
    else (s, none)

/-- Check every granule of a byte range for a read, from the lowest up; the first failure with its granule. -/
def State.checkReads (s : State) : List Nat → State × Option (Nat × Nat × Nat)
  | [] => (s, none)
  | g :: gs =>
    match s.checkRead g with
    | (s1, none) => s1.checkReads gs
    | (s1, some (st, sub)) => (s1, some (st, sub, g))

/-- The granules a byte range touches. -/
def granulesOf (a n : Nat) : List Nat :=
  if n = 0 then [] else (List.range ((a + n - 1) / 128 - a / 128 + 1)).map fun i => a / 128 + i

/-- The pages a byte range touches. -/
def pagesOf (a n : Nat) : List Nat :=
  if n = 0 then [] else (List.range ((a + n - 1) / 4096 - a / 4096 + 1)).map fun i => a / 4096 + i

/-- Read `n` bytes at an RSA, or the failure. -/
def State.readStore (s : State) (a n : Nat) : State × Except (Nat × Nat) (List Byte) :=
  match s.checkReads (granulesOf a n) with
  | (s1, none) => (s1, .ok (s1.bytes a n))
  | (s1, some (st, sub, _)) => (s1, .error (st, sub))

/-! ### Pools and heat (R190 to R195, R523) -/

/-- A page's heat (R191). -/
def FrameRec.heat (f : FrameRec) : Nat := f.count >>> f.age

def State.evictAge (s : State) : Nat :=
  let v := s.fld F.TIER_HEAT_CFG_EVICT_AGE
  if 1 ≤ v && v ≤ 16 then v else 16

/-- HOT_T for a page: READ_MOSTLY halves it for a MOVE page (R192). -/
def State.hotT (s : State) (pg : Nat) : Nat :=
  let t := max 1 (s.fld F.TIER_HEAT_CFG_HOT_T)
  if (s.page pg).advice = 5 && !(s.slab (pg * 4096)).copyMode then (t + 1) / 2 else t

/-- The pool's key of a page's channel in a tier. -/
def State.poolKey (s : State) (t : Tier) (pg : Nat) : Nat :=
  256 * t.code + channelOf s.salt s.width (pg * 4096) t.channels

def State.pool (s : State) (k : Nat) : List Nat := s.store.pools.getD k []
def State.setPool (s : State) (k : Nat) (l : List Nat) : State :=
  { s with store := { s.store with pools := s.store.pools.set k l } }

/-- The frame record of a page in a pool tier. -/
def PageRec.frame (p : PageRec) : Tier → Option FrameRec
  | .hbm => p.hbm | .ddr => p.ddr | .flash => none
def PageRec.setFrame (p : PageRec) (t : Tier) (f : Option FrameRec) : PageRec :=
  match t with
  | .hbm => { p with hbm := f } | .ddr => { p with ddr := f } | .flash => p

/-- The composition a page's pool frames are charged to (R195). -/
def State.pageComp (s : State) (pg : Nat) : Option Nat := (s.slab (pg * 4096)).comp

/-- Charge or credit a composition with pool frames. -/
def State.charge (s : State) (pg : Nat) (t : Tier) (up : Bool) : State :=
  match s.pageComp pg with
  | none => s
  | some c =>
    let x := s.rack.comps.getD c {}
    let d (v : Nat) := if up then v + 4096 else v - 4096
    let x := if t == .hbm then { x with chargedHbm := d x.chargedHbm } else { x with chargedDdr := d x.chargedDdr }
    { s with rack := { s.rack with comps := s.rack.comps.set c x } }

/-- A page as one program of the flash holds it: its bytes, the home copies of its granules with their metadata. -/
def State.pageImage (s : State) (pg : Nat) : List Byte × List Gran :=
  (s.bytes (pg * 4096) 4096, (List.range 32).map fun i => s.gran (32 * pg + i))

/-- A page's flash contents as last programmed are no longer the store's: keep them for a loss of power (R211). -/
def State.keepOld (s : State) (pg : Nat) : State :=
  if s.store.flashOld.has pg then s else { s with store := { s.store with flashOld := s.store.flashOld.set pg (s.pageImage pg) } }

/-- A page returns to contents that flash holds. -/
def State.restorePage (s : State) (pg : Nat) (old : List Byte × List Gran) : State :=
  (List.range 32).foldl (fun (s : State) i => s.setGran (32 * pg + i) (old.2.getD i {})) (s.pokeBytes (pg * 4096) old.1)

/-- The page's store contents have been programmed: nothing older is kept, its journal entries retire (R213). What flash
held at the last checkpoint stays known, for a delta that is lost (R572). -/
def State.programmed (s : State) (pg : Nat) : State :=
  let p := s.page pg
  let again := s.store.sinceCheck.has pg
  let kept := if again then s.store.sinceCheck
    else s.store.sinceCheck.set pg ((s.store.flashOld.find? pg).getD (s.pageImage pg))
  { s with store := { s.store with
      flashOld := s.store.flashOld.erase pg
      sinceCheck := kept
      deltaBytes := s.store.deltaBytes + (if again then 0 else 4)
      journal := s.store.journal.filter fun j => j.rsa / 4096 != pg
      flashNext := s.store.flashNext + 1
      pages := s.store.pages.set pg { p with buffered := false, programmed := true, flashAt := some s.store.flashNext } } }

/-- A page leaves a pool tier: dropped, or written home when it was written (R186, R187). -/
def State.leavePool (s : State) (pg : Nat) (t : Tier) : State :=
  let p := s.page pg
  match p.frame t with
  | none => s
  | some f =>
    let s := (s.setPage pg (p.setFrame t none)).charge pg t false
    let s := s.setPool (s.poolKey t pg) ((s.pool (s.poolKey t pg)).filter (· != pg))
    let sl := s.slab (pg * 4096)
    if f.dirty && !sl.copyMode && sl.home == .flash then s.programmed pg else s

/-- A core holds a granule of a page, which then stays where it stands (R231). -/
def State.pageHeld (s : State) (pg : Nat) : Bool :=
  s.core.cores.cells.any fun c => c.2.run.any fun r => r.hold.any fun h => h.got.any fun g => g / 32 = pg

/-- The victim of R193 among frames from the hand on: the first COLD unpinned one, else the oldest unpinned one of at
least one epoch. -/
def State.victim (s : State) (t : Tier) (pages : List Nat) : Option Nat :=
  let recs := pages.filterMap fun pg => (s.page pg).frame t |>.map fun f => (pg, f)
  let recs := (recs.take 256).filter fun x => !x.2.pin && !s.pageHeld x.1
  match recs.find? fun x => x.2.age ≥ s.evictAge || (s.page x.1).advice = 2 with
  | some x => some x.1
  | none =>
    (recs.foldl (fun (best : Option (Nat × Nat)) x =>
      if x.2.age ≥ 1 && (best.all fun b => b.2 < x.2.age) then some (x.1, x.2.age) else best) none).map (·.1)

/-- The composition's POOL limit leaves room for one more frame (R523). -/
def State.underPoolLimit (s : State) (pg : Nat) (t : Tier) : Bool :=
  match s.pageComp pg with
  | none => true
  | some c =>
    let x := s.rack.comps.getD c {}
    let (lim, used) := if t == .hbm then (x.poolHbm, x.chargedHbm) else (x.poolDdr, x.chargedDdr)
    lim = 0 || used + 4096 ≤ lim * 0x40000000

/-- Pinned pool frames of a tier (R195). -/
def State.pinned (s : State) (t : Tier) : Nat :=
  (s.store.pages.cells.filter fun c => (c.2.frame t).any fun f => f.pin).length

/-- Pool frames of a tier over all channels: those that no home frame takes, and in DDR5 the set-aside of R661. -/
def State.poolFrames (s : State) (t : Tier) : Nat :=
  s.store.free.getD t.code 0 + (if t == .ddr then s.store.fillGib * 262144 + 4096 else 0)

/-- One more pinned frame is within half of the tier's pool (R195). -/
def State.mayPin (s : State) (t : Tier) : Bool := 2 * (s.pinned t + 1) ≤ s.poolFrames t

/-- The write buffer has a frame for one more page (R189, R194). -/
def State.bufferRoom (s : State) : Bool :=
  decide ((s.store.pages.cells.filter fun c => c.2.buffered).length < s.store.fillGib * 262144)

/-- A write to a page would need write-buffer space that there is not (R194). -/
def State.bufferFull (s : State) (pg : Nat) : Bool :=
  let sl := s.slab (pg * 4096)
  sl.copyMode && sl.home == .flash && !(s.page pg).buffered && !s.bufferRoom

/-- A pool frame for a page in a tier: free, or an evicted victim's (R193, R523); false when the channel is short. -/
def State.takeFrame (s : State) (t : Tier) (pg : Nat) (f : FrameRec) : State × Bool :=
  let k := s.poolKey t pg
  let l := s.pool k
  let hand := s.store.hands.getD k 0
  let size := s.store.free.getD t.code 0 / t.channels
  let order := l.drop (hand % (l.length + 1)) ++ l.take (hand % (l.length + 1))
  -- the page takes the frame at place `i` of the channel's clock
  let put (s : State) (i : Nat) : State :=
    let q := s.pool k
    let s := (s.setPool k (q.take i ++ pg :: q.drop i)).charge pg t true
    let s := s.setPage pg ((s.page pg).setFrame t (some f))
    if size ≤ (size - l.length) * 64 && (size - (q.length + 1)) * 64 < size then s.raise F.TIER_EVENT_POOL_LOW else s
  let evict (v : Nat) : State :=
    put ((s.leavePool v t).pulse 0x1C1 (channelOf s.salt s.width (v * 4096) t.channels)) (l.idxOf v)
  if !s.underPoolLimit pg t then
    match s.victim t (order.filter fun q => s.pageComp q == s.pageComp pg) with
    | some v => (evict v, true)
    | none => (s, false)
  else if l.length < size then (put s l.length, true)
  else
    match s.victim t order with
    | some v =>
      -- the hand moves on past the frame taken
      let s1 := evict v
      ({ s1 with store := { s1.store with hands := s1.store.hands.set k ((l.idxOf v + 1) % l.length) } }, true)
    | none => (s, false)

/-- Queue a raise (R196): a full queue drops it. -/
def State.queueRaise (s : State) (pg : Nat) (t : Tier) : State :=
  if s.store.raises.length < 4096 then { s with store := { s.store with raises := s.store.raises ++ [(pg, t)] } }
  else (s.count F.TIER_CHAIR_DROPS).raise F.TIER_EVENT_CHAIR_DROP

/-- The tier above. -/
def Tier.up : Tier → Option Tier
  | .hbm => none | .ddr => some .hbm | .flash => some .ddr

/-- A tier is at or above another. -/
def Tier.atLeast (t u : Tier) : Bool := decide (t.code ≤ u.code)

/-- A tier is at or below a ceiling. -/
def Tier.within (t ceiling : Tier) : Bool := decide (ceiling.code ≤ t.code)

/-- One access of a work item or raw transaction to a page (R191, R192, R194): heat, the raise of a HOT page, the fill
of a COPY page read from flash, the raise to DDR5 of a MOVE page written in flash. True: a slower path was taken. `counted`
says that it is an access of its own, not part of one. -/
def State.accessAs (s : State) (pg : Nat) (write counted : Bool) : State × Bool :=
  let sl := s.slab (pg * 4096)
  let p := s.page pg
  let bump (f : FrameRec) : FrameRec :=
    { f with count := min 255 (f.count + b2n counted), age := if counted then 0 else f.age, dirty := f.dirty || (write && !sl.copyMode) }
  let t := s.standsIn pg
  let slow (s : State) : State := s.count F.TIER_FALLBACK_COUNT
  -- where the page stands after the access
  let (s, fell) :=
    if t == .flash then
      if !write then
        if sl.copyMode && sl.ceiling != .flash && p.advice != 2 then
          match s.takeFrame .ddr pg { count := if p.advice = 4 then 0 else 1, pin := sl.pin && s.mayPin .ddr } with
          | (s1, true) => (s1, false)
          | (s1, false) => (slow s1, true)
        else (s, false)
      else if sl.copyMode then ((s.keepOld pg).setPage pg { p with buffered := true }, false)
      else
        match s.takeFrame .ddr pg { count := 1, dirty := true, pin := sl.pin && s.mayPin .ddr } with
        | (s1, true) => (s1.keepOld pg, false)
        | (s1, false) => (slow s1, true)
    else
      -- every frame record that holds the page counts the access (R191)
      let atHome := sl.copyMode || (p.hbm.isNone && p.ddr.isNone)
      let p1 := { p with
        hbm := p.hbm.map bump
        ddr := p.ddr.map bump
        homeCount := if atHome then min 255 (p.homeCount + b2n counted) else p.homeCount
        homeAge := if atHome && counted then 0 else p.homeAge
        buffered := p.buffered || (write && sl.copyMode && sl.home == .flash) }
      let s := if write && sl.home == .flash then s.keepOld pg else s
      (s.setPage pg p1, false)
  -- the automatic raise
  let p2 := s.page pg
  let t2 := s.standsIn pg
  let heat := match p2.frame t2 with
    | some f => f.heat
    | none => p2.homeCount >>> p2.homeAge
  let pinned := (p2.frame t2).any fun f => f.pin
  match t2.up with
  | some u =>
    if heat ≥ s.hotT pg && t2 != .flash && u.within sl.ceiling && !pinned &&
        s.fld F.TIER_CHAIR_CFG_PAUSE = 0 && s.sys.power != .glide && p2.advice != 2 then (s.queueRaise pg u, fell)
    else (s, fell)
  | none => (s, fell)

/-- One access of its own. -/
def State.access (s : State) (pg : Nat) (write : Bool) : State × Bool := s.accessAs pg write true

/-- Accesses to every page of a range that this member homes, once each. -/
def State.accessPages (s : State) (write : Bool) : List Nat → State × Bool
  | [] => (s, false)
  | pg :: r =>
    let (s1, f1) := if s.isHome (pg * 4096) then s.access pg write else (s, false)
    let (s2, f2) := s1.accessPages write r
    (s2, f1 || f2)

/-- A command one of whose work items takes a slower path completes with FELL_BACK (R194). -/
def State.noteFell (s : State) (fell : Bool) : State :=
  if !fell then s
  else match s.rack.writer with
  | some id => s.modEntry id fun e => { e with out := { e.out with fellBack := true } }
  | none => s

/-- The accesses of the command being served, with its FELL_BACK. -/
def State.accessFor (s : State) (write : Bool) (pages : List Nat) : State :=
  match s.accessPages write pages with
  | (s, fell) => s.noteFell fell

/-! ### The durable journal (R211 to R213) -/

/-- Bytes an entry of `n` granules takes (R212). -/
def journalBytes (n : Nat) : Nat := 64 + 128 * n
def State.journalUsed (s : State) : Nat := (s.store.journal.map fun j => journalBytes j.granules).sum
def State.journalSize (s : State) : Nat := s.store.journalMib * 1048576

/-- A write to this page is journalled: its slab is DURABLE and it stands outside flash (R211). -/
def State.journalled (s : State) (pg : Nat) : Bool :=
  (s.slab (pg * 4096)).durable && (s.standsIn pg != .flash)

/-- A journal entry as it stands in the ring and in the brace area (R212). -/
def JournalEntry.image (j : JournalEntry) : List Byte :=
  let head := toLe 4 0x72204A01 ++ toLe 4 j.granules ++ toLe 8 j.rsa ++ toLe 8 j.seq ++ toLe 8 j.wgen ++ toLe 4 j.bytes ++
    List.replicate 24 0
  head ++ toLe 4 (crc32c (head ++ j.data)) ++ j.data

/-- The entry that 64 bytes and data spell, when MAGIC and CRC hold (R215). -/
def parseEntry (l : List Byte) : Option JournalEntry :=
  if fieldAt l 0 4 = 0x72204A01 && fieldAt l 60 4 = crc32c (l.take 60 ++ l.drop 64) then
    some { seq := fieldAt l 16 8, rsa := fieldAt l 8 8, granules := fieldAt l 4 1, wgen := fieldAt l 24 8, bytes := fieldAt l 32 4,
           data := l.drop 64 }
  else none

/-- Enter a write of one granule of a journalled page in the journal (R211, R212): to the home copy, or to the mirror. -/
def State.journalEnter (s : State) (g bytes wgen : Nat) (data : List Byte) : State :=
  if s.journalled (g / 32) then
    let j : JournalEntry :=
      { seq := s.store.journalSeq, rsa := g * 128, granules := 1, wgen := wgen, bytes := bytes, data := data }
    let before := s.journalUsed
    let s := { s with store := { s.store with journal := s.store.journal ++ [j], journalSeq := s.store.journalSeq + 1 } }
    let s := s.setFld F.TIER_JOURNAL_USED_KIB (s.journalUsed / 1024)
    if before * 4 ≤ s.journalSize * 3 && s.journalUsed * 4 > s.journalSize * 3 then s.raise F.TIER_EVENT_JOURNAL_HIGH else s
  else s

/-- Enter a write that has been made. -/
def State.journalAdd (s : State) (g bytes : Nat) : State :=
  s.journalEnter g bytes (s.gran g).wgen (s.bytes (g * 128) 128)

/-- Bytes of the metadata delta (R214): the records of durable pages standing outside flash, and the map entries changed since the
last checkpoint. -/
def State.delta (s : State) : Nat :=
  s.store.deltaBytes + 16 * (s.store.pages.cells.filter fun c =>
    (s.slab (c.1 * 4096)).durable && (c.2.hbm.isSome || c.2.ddr.isSome)).length

/-- Room in the journal for a write to these granules (R213): each granule of a DURABLE slab takes an entry. While no half of
the brace area is erased, durable writes wait as for a full journal (R575). -/
def State.journalRoom (s : State) (gs : List Nat) : Bool :=
  let n := (gs.filter fun g => (s.slab (g * 128)).durable).length
  n = 0 || (s.fld F.TIER_STATUS_BRACE_READY = 1 && decide (s.journalUsed + n * journalBytes 1 ≤ s.journalSize))

/-- A durable write that finds no room waits (R213). -/
def State.waitJournal (s : State) (entry : Option Nat) (g : Nat) : State :=
  if s.store.journalWaits.any fun w => w.entry = entry && w.granule = g then s
  else ({ s with store := { s.store with
    journalWaits := s.store.journalWaits ++ [({ entry := entry, granule := g } : JournalWait)] } }).count
      F.TIER_JOURNAL_WAITS

/-- The waits of a command, or of a raw transaction on a granule, are over (R213). -/
def State.endJournalWait (s : State) (entry : Option Nat) (g : Nat) : State :=
  { s with store := { s.store with
    journalWaits := s.store.journalWaits.filter fun w => w.entry != entry || (entry.isNone && w.granule != g) } }

/-! ### Writes -/

/-- Write part of one granule at its home (R415, R467, R468): a write of all 128 bytes clears poison, any other to a
poisoned granule fails; WGEN grows by one in every copy. A granule homed elsewhere is written by its home, to which an item
goes (R28, R34). -/
def State.writeGranule (s : State) (g off : Nat) (data : List Byte) : State × Option (Nat × Nat) :=
  if !s.isHome (g * 128) then
    ((s.pokeBytes (g * 128 + off) data).sendServed
      { owner := none, home := s.homeUnder (s.epochOf s.rack.writer) (g * 128), epoch := 0, kind := 1, addr := g * 128 + off,
        data := data } 1, none)
  else
  let full := off = 0 && data.length = 128
  let (s, fail) := if full then (s, none) else
    match s.checkRead g with
    | (s1, f) => (s1, f)
  match fail with
  | some f => (s, some f)
  | none =>
    let x := s.gran g
    let w := (x.wgen + 1) % 2 ^ 48
    let mir := if full then none else x.mirror.map fun m =>
      { m with wgen := w, data := m.data.take off ++ data ++ m.data.drop (off + data.length) }
    let s := (s.pokeBytes (g * 128 + off) data).setGran g
      { x with wgen := w, poison := none, damaged := false, corrupt := x.corrupt && !full, mirror := mir, key := s.keyPair (g * 128) }
    ((s.journalAdd g data.length).mirrorWrite g, none)

/-- Write the granules of a byte range one after the other; the first failure ends it. Every granule then holds its
value from before or after (R83). -/
def State.writeRange (s : State) (a : Nat) (data : List Byte) : List Nat → State × Option (Nat × Nat)
  | [] => (s, none)
  | g :: gs =>
    let lo := max a (g * 128)
    let hi := min (a + data.length) (g * 128 + 128)
    match s.writeGranule g (lo - g * 128) ((data.drop (lo - a)).take (hi - lo)) with
    | (s1, none) => s1.writeRange a data gs
    | (s1, some f) => (s1, some f)

/-- Write the part of a byte string that this member homes, where it stands in a range. -/
def State.writeHere (s : State) (a : Nat) (data : List Byte) : State × Option (Nat × Nat) :=
  s.writeRange a data ((granulesOf a data.length).filter fun g => s.isHome (g * 128))

/-- Write a byte string at an RSA. -/
def State.writeStore (s : State) (a : Nat) (data : List Byte) : State × Option (Nat × Nat) :=
  s.writeRange a data (granulesOf a data.length)

/-- The same for a writer that goes on whatever the write meets. -/
def State.storeBytes (s : State) (a : Nat) (data : List Byte) : State := (s.writeStore a data).1

/-- Compare two generations (R467): the first is higher. -/
def wgenHigher (a b : Nat) : Bool :=
  let d := (a + 2 ^ 48 - b) % 2 ^ 48
  decide (0 < d) && decide (d < 2 ^ 47)
def wgenEqual (a b : Nat) : Bool :=
  let d := (a + 2 ^ 48 - b) % 2 ^ 48
  d = 0 || d = 2 ^ 47

/-- Compare the home copy of a granule with its mirror and repair by the first row that applies (R478). -/
def State.compareCopies (s : State) (g : Nat) : State :=
  let x := s.gran g
  let partner := (s.partnerOf (s.homeSlot (g * 128))).getD 0
  let m : MirrorCopy := x.mirror.getD { data := s.bytes (g * 128) 128, wgen := x.wgen, poison := x.poison, damaged := false }
  let takeMirror (s : State) := (s.pokeBytes (g * 128) m.data).setGran g { wgen := m.wgen, poison := m.poison, key := x.key }
  let takeHome (s : State) := (s.setGran g { x with damaged := false, mirror := none }).mirrorWrite g
  let repaired (s : State) (src : Nat) :=
    (s.count F.ERR_COUNT_GEN_REPAIR).logError (s.errAt g src 2 partner x.injected)
  let lost (s : State) (src : Nat) := s.logError (s.errAt g src 3 partner x.injected)
  if x.damaged && m.damaged then lost (s.poison g .uncorrectable 0) 0x20
  else if x.damaged then repaired (takeMirror s) 0x10
  else if m.damaged then repaired (takeHome s) 0x10
  else
    let hd := s.bytes (g * 128) 128
    if hd = m.data && x.wgen = m.wgen && x.poison = m.poison then s
    else match x.poison, m.poison with
    | some .uncorrectable, none =>
      if !wgenHigher x.wgen m.wgen then repaired (takeMirror s) 0x13
      else lost (s.poison g .uncorrectable x.wgen) 0x20
    | none, some .uncorrectable =>
      if !wgenHigher m.wgen x.wgen then repaired (takeHome s) 0x13
      else lost (s.poison g .uncorrectable x.wgen) 0x20
    | hp, mp =>
      if !wgenEqual x.wgen m.wgen then
        if wgenHigher x.wgen m.wgen then repaired (takeHome s) 0x13 else repaired (takeMirror s) 0x13
      else match hp, mp with
      | none, some k => lost (s.poison g k x.wgen) 0x21
      | some k, none => lost (s.poison g k x.wgen) 0x21
      | some a, some b =>
        if a = b then s
        else
          let order : List PoisonKind := [.reclaim, .divergent, .stripeLost, .uncorrectable]
          let k := (order.find? fun k => k = a || k = b).getD a
          repaired (s.poison g k x.wgen) 0x13
      | none, none =>
        (lost ((s.poison g .divergent x.wgen).count F.ERR_COUNT_DIVERGENT) 0x21).raise F.ERR_EVENT_DIVERGENT

end Sys2Proof.Machine
end

