-- ==== Sys2Proof/Machine/CoreOps.lean ====
section
/-!
DEFINITION. Edge cores: recipe fields (R244 to R246), the Pocket, transfers of stream steps (R225 to R230), hold sets
(R231, R232), stopping an invocation (R252, R253).
-/
namespace Sys2Proof.Machine

open Sys2Proof

/-! ### Recipes (R244 to R246) -/

def rcpSteps (r : List Byte) : Nat := fieldAt r 6 1 % 128
def rcpKeep (r : List Byte) : Bool := (fieldAt r 7 1).testBit 0
def rcpExt (r : List Byte) : Bool := (fieldAt r 7 1).testBit 1
def rcpId (r : List Byte) : Nat := fieldAt r 8 4
def rcpPocketLen (r : List Byte) : Nat := fieldAt r 12 4 % 2 ^ 19
def rcpCycleLimit (r : List Byte) : Nat := fieldAt r 16 1
def rcpPorts (r : List Byte) : Nat := fieldAt r 18 2

/-- A step of a recipe (R245). -/
structure RStep where
  op : Nat
  rnd : Nat
  sat : Bool
  order : Bool
  hold : Bool
  fmtD : Nat
  fmtA : Nat
  fmtB : Nat
  fmtC : Nat
  /-- elements per row and rows, 1 to 4,096 -/
  count : Nat
  rows : Nat
  /-- ITER of a LOOP -/
  iter : Nat
  sync : Nat
  d : Nat
  a : Nat
  b : Nat
  c : Nat
  deriving DecidableEq, Repr

/-- The 32 bytes of step `i`. -/
def rcpStepBytes (r : List Byte) (i : Nat) : List Byte := sub r (64 + 32 * i) 32

/-- Step `i` of a recipe. -/
def rcpStep (r : List Byte) (i : Nat) : RStep :=
  let x := rcpStepBytes r i
  let b1 := fieldAt x 1 1
  let n := fieldAt x 4 3
  { op := fieldAt x 0 1, rnd := b1 % 4, sat := b1.testBit 2, order := b1.testBit 3, hold := b1.testBit 4,
    fmtD := fieldAt x 2 1 % 16, fmtA := fieldAt x 2 1 / 16, fmtB := fieldAt x 3 1 % 16, fmtC := fieldAt x 3 1 / 16,
    count := n % 4096 + 1, rows := n / 4096 + 1, iter := n, sync := fieldAt x 7 1,
    d := fieldAt x 8 6, a := fieldAt x 14 6, b := fieldAt x 20 6, c := fieldAt x 26 6 }

def RStep.isStream (x : RStep) : Bool := decide (1 ≤ x.op) && decide (x.op ≤ 5)

/-- Operand reference `k`: 0 D, 1 A, 2 B, 3 C. -/
def RStep.ref (x : RStep) : Nat → Nat
  | 0 => x.d | 1 => x.a | 2 => x.b | _ => x.c

def RStep.fmtCode (x : RStep) : Nat → Nat
  | 0 => x.fmtD | 1 => x.fmtA | 2 => x.fmtB | _ => x.fmtC

def RStep.fmt (x : RStep) (k : Nat) : Fmt := (Fmt.ofCode (x.fmtCode k)).getD .raw8

/-- Fields of a Pocket or scalar operand reference (R246). -/
def refAddr (v : Nat) : Nat := v % 2 ^ 15
def refStride (v : Nat) : Nat := nbf v 30 15
def refInc (v : Nat) : Int := toSigned 16 (nbf v 46 31)
def refScalar (v : Nat) : Bool := v.testBit 47
def refReg (v : Nat) : Nat := v % 16

/-- Store-side references of a stream step (R246). -/
def RStep.port (x : RStep) : Nat := x.a % 16
def RStep.offset (x : RStep) : Nat := x.a / 16
def RStep.sstride (x : RStep) : Nat := x.b % 2 ^ 24
def RStep.sinc (x : RStep) : Int := toSigned 24 (x.b / 2 ^ 24)

/-- The operands an operation uses (R247), of D, A, B, C. -/
def usesOp (op : Nat) : List Nat :=
  match op with
  | 0x01 | 0x02 | 0x05 => [0, 1, 2]
  | 0x03 | 0x04 => [0, 1, 2, 3]
  | 0x08 | 0x0A => [1]
  | 0x0B => [0]
  | 0x10 | 0x17 | 0x19 | 0x22 => [0, 1]
  | 0x11 | 0x12 | 0x13 | 0x15 | 0x16 | 0x18 | 0x1A | 0x20 | 0x21 => [0, 1, 2]
  | 0x14 | 0x1B | 0x28 | 0x29 => [0, 1, 2, 3]
  | _ => []

/-- Every operation of the menu (R247). -/
def opMenu : List Nat :=
  [0x00, 0x01, 0x02, 0x03, 0x04, 0x05, 0x08, 0x09, 0x0A, 0x0B, 0x0F, 0x10, 0x11, 0x12, 0x13, 0x14, 0x15, 0x16, 0x17,
   0x18, 0x19, 0x1A, 0x1B, 0x20, 0x21, 0x22, 0x28, 0x29]

/-- The operand of a step that lies in the Pocket: bytes of a row and rows (R233, R247). None: not a Pocket operand. -/
def RStep.pocketRows (x : RStep) (k : Nat) : Option (Nat × Nat) :=
  if !(usesOp x.op).contains k then none
  else if x.isStream then
    if k = 0 then some ((x.fmt 0).rowBytes x.count, x.rows)
    else if k = 3 then some (4 * x.rows, 1)
    else none
  else if refScalar (x.ref k) then none
  else match x.op with
  | 0x08 | 0x0A => none
  | 0x0B => some (32, 1)
  | 0x20 | 0x21 => if k = 0 then some ((x.fmt 0).rowBytes 1, x.rows) else some ((x.fmt k).rowBytes x.count, x.rows)
  | 0x22 => if k = 0 then some ((x.fmt 0).rowBytes x.count, 1) else some ((x.fmt k).rowBytes x.count, x.rows)
  | 0x29 => if k = 0 then some (8 * x.rows, 1) else if k = 3 then none else some (4 * x.count, 1)
  | _ => some ((x.fmt k).rowBytes x.count, x.rows)

/-! ### Cores and their Pockets (R217, R221) -/

def State.edge (s : State) (c : Nat) : Core := s.core.cores.getD c {}
def State.setEdge (s : State) (c : Nat) (x : Core) : State :=
  { s with core := { s.core with cores := s.core.cores.set c x } }
def State.setRun (s : State) (c : Nat) (r : Running) : State := s.setEdge c { s.edge c with run := some r }

/-- The core is online (R220, R486). -/
def State.coreOnline (s : State) (c : Nat) : Bool := decide (c < 1200) && !(s.unitRec 0 c).offline

/-- Side of a core, its channel and Rink port (R217). -/
def coreSide (c : Nat) : Nat := if c < 384 then 0 else if c < 432 then 1 else 2
def coreChannel (c : Nat) : Nat := if c < 384 then c / 3 else if c < 432 then (c - 384) / 3 else (c - 432) / 24
def coreRink (c : Nat) : Nat := if c < 384 then c / 24 else if c < 432 then 16 + (c - 384) / 12 else 20 + (c - 432) / 384

/-- Pocket bytes. -/
def Core.bytes (x : Core) (a n : Nat) : List Byte := Memory.getBytes x.pocket a n
def Core.poke (x : Core) (a : Nat) (l : List Byte) : Core :=
  { x with
    pocket := Memory.setBytes x.pocket a l
    flips := x.flips.filter fun f => !(decide (a ≤ 8 * f.1) && decide (8 * f.1 + 8 ≤ a + l.length)) }
def State.pokePocket (s : State) (c a : Nat) (l : List Byte) : State := s.setEdge c ((s.edge c).poke a l)

/-- Running offset of an operand of a step (R249), in 8-byte units. -/
def Running.off (r : Running) (step k : Nat) : Int := r.offs.getD (4 * step + k) 0

/-- Pocket address of row `i` of an operand (R249). -/
def Running.pocketAddr (r : Running) (x : RStep) (k i : Nat) : Nat :=
  (8 * ((refAddr (x.ref k) : Int) + r.off r.step k + (i * refStride (x.ref k) : Nat))).toNat

/-! ### Flags (R248) -/

def FlagRec.add (a b : FlagRec) : FlagRec :=
  { nanIn := a.nanIn + b.nanIn, saturated := a.saturated + b.saturated, nanMade := a.nanMade + b.nanMade,
    indexMiss := a.indexMiss + b.indexMiss, topkNan := a.topkNan + b.topkNan }

/-- Word 0 of the flag record. -/
def FlagRec.bits (f : FlagRec) : Nat :=
  b2n (f.nanIn != 0) + 2 * b2n (f.nanMade != 0) + 4 * b2n (f.saturated != 0) + 8 * b2n (f.indexMiss != 0) +
    16 * b2n (f.topkNan != 0)

/-- The 32 bytes of the flag record; counts saturate. -/
def FlagRec.bytes (f : FlagRec) : List Byte :=
  let c (n : Nat) := toLe 4 (min n (2 ^ 32 - 1))
  toLe 4 f.bits ++ c f.saturated ++ c f.nanMade ++ c f.indexMiss ++ c f.topkNan ++ toLe 12 0

/-- CORE_FLAGS collects the bits (R248, R258). -/
def State.collectFlags (s : State) (f : FlagRec) : State :=
  let w := s.regAt 0 F.CORE_FLAGS_NAN_IN.off
  let w1 := w ||| BitVec.ofNat 32 f.bits
  if w1 = w then s else (s.setRegAt 0 F.CORE_FLAGS_NAN_IN.off w1).raise F.CORE_EVENT_FLAGS

/-! ### Held granules (R231) -/

/-- A core other than `except` holds the granule. -/
def State.coreHolds (s : State) (except : Option Nat) (g : Nat) : Bool :=
  s.core.cores.cells.any fun c => some c.1 != except && (c.2.run.any fun r => r.hold.any fun h => h.got.contains g)

/-- A core waits for nothing any more and holds nothing. -/
def State.releaseHold (s : State) (c : Nat) : State :=
  let s := { s with core := { s.core with waiters := s.core.waiters.filter fun w => w.1 != c } }
  match (s.edge c).run with
  | some r => s.setRun c { r with hold := none }
  | none => s

/-- Acquire the granules still wanted in ascending order, as far as they are free; a granule that another core holds or
waits for is waited for (R231). -/
def acquire (s : State) (c : Nat) : List Nat → List Nat → State × List Nat × List Nat
  | got, [] => (s, got, [])
  | got, g :: rest =>
    let first := s.core.waiters.find? fun w => w.2 = g
    if s.coreHolds (some c) g || (first.any fun w => w.1 != c) then
      let ws := if s.core.waiters.contains (c, g) then s.core.waiters else s.core.waiters ++ [(c, g)]
      ({ s with core := { s.core with waiters := ws } }, got, g :: rest)
    else
      acquire { s with core := { s.core with waiters := s.core.waiters.filter (· != (c, g)) } } c (got ++ [g]) rest

/-- Go on acquiring the hold set of a core. -/
def State.acquireHold (s : State) (c : Nat) : State :=
  match (s.edge c).run with
  | some r =>
    match r.hold with
    | some h =>
      let (s, got, want) := acquire s c h.got h.want
      s.setRun c { r with hold := some { got := got, want := want } }
    | none => s
  | none => s

/-! ### Transfers of stream steps (R225 to R230) -/

/-- Store granules a stream step touches. -/
def StreamStep.granules (x : StreamStep) : List Nat :=
  x.rows.foldl (fun l r => match r.1 with
    | some a => (granulesOf a x.rowLen).foldl addNew l
    | none => l) []

/-- It writes the store. -/
def StreamStep.writes (x : StreamStep) : Bool := x.op = 2 || x.op = 4 || x.op = 5

/-- Of bytes captured at issue and as they stand now, the bytes that a store moves: where they differ either may (a race
the spec leaves open). -/
def racedBytes (late : Bool) (old now : List Byte) : List Byte := if late then now else old

/-- Move one row into the Pocket; a row that no place holds reads as zero (R226). -/
def State.loadRow (s : State) (c p n : Nat) : Option Nat → State × Option (Nat × Nat)
  | none => (s.pokePocket c p (List.replicate n 0), none)
  | some a =>
    let s := (s.accessPages false (pagesOf a n)).1
    match s.readStore a n with
    | (s, .ok d) => (s.pokePocket c p d, none)
    | (s, .error f) => (s, some f)

/-- Move the rows of a LOAD or GATHER into the Pocket. -/
def State.loadRows (s : State) (c : Nat) (x : StreamStep) : List (Option Nat × Nat) → State × Option (Nat × Nat)
  | [] => (s, none)
  | r :: rs =>
    match s.loadRow c r.2 x.rowLen r.1 with
    | (s, none) => s.loadRows c x rs
    | (s, some f) => (s, some f)

/-- What an ATOMIC_ADD leaves in a row of 4-byte elements (R230): FP32 rounds to nearest even, INT32 wraps. -/
def atomicRow (float : Bool) (old add : List Byte) : List Byte :=
  ((List.range (old.length / 4)).map fun i =>
    let a := fieldAt old (4 * i) 4
    let b := fieldAt add (4 * i) 4
    toLe 4 (if float then faddCode a b else (a + b) % 2 ^ 32)).flatten

/-- The store writes of a stream step as pieces that no granule boundary divides: address and Pocket data, rows in
order. -/
def StreamStep.pieces (x : StreamStep) (data : List (List Byte)) : List (Nat × List Byte) :=
  ((List.range x.rows.length).map fun i =>
    match x.rows.getD i (none, 0) with
    | (some a, _) =>
      (granulesOf a x.rowLen).map fun g =>
        let lo := max a (g * 128)
        let hi := min (a + x.rowLen) (g * 128 + 128)
        (lo, ((data.getD i []).drop (lo - a)).take (hi - lo))
    | (none, _) => []).flatten

/-- Add rows of 4-byte elements to the store at their home (R230). -/
def State.addRow (s : State) (float : Bool) (a : Nat) (d : List Byte) : State × Option (Nat × Nat) :=
  let s := (s.accessPages true (pagesOf a d.length)).1
  s.writeStore a (atomicRow float (s.bytes a d.length) d)

/-- Write one piece: the bytes of a STORE or SCATTER, or the sums of an ATOMIC_ADD, which its home forms (R219, R230). -/
def State.writePiece (s : State) (x : StreamStep) (a : Nat) (d : List Byte) : State × Option (Nat × Nat) :=
  if x.op != 5 then ((s.accessPages true (pagesOf a d.length)).1).writeStore a d
  else if s.isHome a then s.addRow x.float a d
  else
    (s.sendServed { owner := none, home := s.homeUnder (s.epochOf s.rack.writer) a, epoch := 0, kind := 9, addr := a,
                    data := toLe 1 (b2n x.float) ++ d } 1, none)

def State.writePieces (s : State) (x : StreamStep) : List (Nat × List Byte) → State × Option (Nat × Nat)
  | [] => (s, none)
  | (a, d) :: r =>
    match s.writePiece x a d with
    | (s, none) => s.writePieces x r
    | (s, some f) => (s, some f)

/-- The Pocket rows a store moves. -/
def State.storeData (s : State) (c : Nat) (x : StreamStep) : List (List Byte) :=
  (List.range x.rows.length).map fun i =>
    racedBytes (Config.raceLate s.fresh) (x.data.getD i []) ((s.edge c).bytes (x.rows.getD i (none, 0)).2 x.rowLen)

/-- Perform a stream step: what it met, or none. A STORE with HOLD releases the hold set with its writes (R232). -/
def State.performStream (s : State) (c : Nat) (x : StreamStep) : State × Option (Nat × Nat) :=
  if x.writes then
    match (s.tickFresh).writePieces x (x.pieces (s.storeData c x)) with
    | (s, none) => (if x.op = 2 && x.hold then s.releaseHold c else s, none)
    | (s, some f) => (s, some f)
  else s.loadRows c x x.rows

/-- Stop the transfers of an invocation that ends: each store stops at a granule boundary, how far it came is open (R252,
R253); a granule that an endpoint or another core holds has not been written yet, nor one homed elsewhere. -/
def State.stopStreams (s : State) (c : Nat) (xs : List StreamStep) : State :=
  (xs.filter StreamStep.writes).foldl (fun (s : State) x =>
    let free (g : Nat) : Bool := s.isHome (g * 128) && (s.coh.sf.find? g).isNone && !s.coreHolds (some c) g
    let ps := ((x.pieces (s.storeData c x)).takeWhile fun p => free (p.1 / 128))
    (((s.serving (coreWaiter c x.seq)).tickFresh).writePieces x (ps.take (Config.stopPoint s.fresh))).1) s

/-- What a core's steps have asked other members for and has no answer yet. -/
def State.coreAway (s : State) (c : Nat) : List (Nat × Away) :=
  s.rack.away.cells.filter fun x => x.2.owner.bind waiterCore == some c

/-- The transfers a cancelled invocation had issued to other members settle before its command ends (R253). -/
def State.handOver (s : State) (c id : Nat) : State :=
  (s.coreAway c).foldl (fun (s : State) x =>
    ({ s with rack := { s.rack with away := s.rack.away.set x.1 { x.2 with owner := some id } } }).addItem (some id)
      { home := x.2.home, id := x.1, classes := 0, begun := true, transfer := true }) s

/-- The core leaves service (R486): no more invocations run on it. -/
def State.dropCore (s : State) (c source : Nat) : State :=
  (s.setUnit 0 c { s.unitRec 0 c with offline := true, due := false, cause := source }).raise F.CORE_EVENT_CORE_OFFLINE

/-- An invocation leaves its core: transfers stopped, holds released (R252, R253); one that ran no recipe leaves none whose Pocket the
next may keep (R223). A core that waits for its invocation to end
goes offline (R486, 0x31). -/
def State.leaveCore (s : State) (c : Nat) : State :=
  match (s.edge c).run with
  | none => s
  | some r =>
    let s := (s.releaseHold c).stopStreams c r.stream
    let s := r.stream.foldl (fun (s : State) x => s.dropFetched (coreWaiter c x.seq)) s
    let s := s.setEdge c { s.edge c with run := none, last := if r.recipe.isEmpty then none else some (r.inv.slot, r.inv.comp) }
    if (s.unitRec 0 c).due then s.dropCore c 0x31 else s

/-! ### Placement (R220) -/

/-- The channel beside which port 0 of an invocation begins: side and number. -/
def State.invChannel (s : State) (i : Invocation) : Nat × Nat :=
  let a := ((i.ports.find? fun p => p.num = 0).map (·.base)).getD 0
  match s.unitOf (a / 4096) with
  | (1, ch) => (0, ch)
  | (2, ch) => (1, ch)
  | (_, ch) => (2, ch)

/-- The online cores among which an invocation is placed: beside the channel, else of the port group, else of the side. -/
def State.eligible (s : State) (i : Invocation) : List Nat :=
  let (side, ch) := s.invChannel i
  let all := (List.range 1200).filter fun c => s.coreOnline c && coreSide c = side
  let beside := all.filter fun c => coreChannel c = ch
  let rink := (((List.range 1200).find? fun c => coreSide c = side && coreChannel c = ch).map coreRink).getD 0
  let group := all.filter fun c => coreRink c = rink
  if !beside.isEmpty then beside else if !group.isEmpty then group else all

/-- The core with the fewest queued invocations, ties to the lower number; a full queue takes none. -/
def State.pickCore (s : State) (i : Invocation) : Option Nat :=
  ((s.eligible i).foldl (fun (b : Option (Nat × Nat)) c =>
    let n := (s.edge c).queue.length
    if n < 16 && (b.all fun x => n < x.2) then some (c, n) else b) none).map (·.1)

/-- Place an invocation on a core, or let it wait in its service. -/
def State.placeAt (s : State) (i : Invocation) : Option Nat → State
  | some c => s.setEdge c { s.edge c with queue := (s.edge c).queue ++ [i] }
  | none => { s with core := { s.core with waiting := s.core.waiting ++ [i] } }

/-- Place an invocation; one that finds every eligible queue full waits in its service. -/
def State.placeInvocation (s : State) (i : Invocation) : State := s.placeAt i (s.pickCore i)

/-- Invocations that wait in their services are placed, oldest first, as queues get room. -/
def State.placeWaiting (s : State) : State :=
  let w := s.core.waiting
  w.foldl (fun (s : State) i => s.placeInvocation i) { s with core := { s.core with waiting := [] } }

/-- Cancel every invocation of a command (R81, R86, R253): running ones stop, queued ones are discarded, and those that waited for room
take their place. -/
def State.cancelInvocations (s : State) (id : Nat) : State :=
  let mine (i : Invocation) : Bool := i.entry = id
  let cs := (s.core.cores.cells.filter fun c => c.2.queue.any mine || c.2.run.any fun r => mine r.inv).map (·.1)
  let s := { s with core := { s.core with waiting := s.core.waiting.filter fun i => !mine i } }
  let s := cs.foldl (fun (s : State) c =>
    let s := if (s.edge c).run.any fun r => mine r.inv then (s.leaveCore c).handOver c id else s
    s.setEdge c { s.edge c with queue := (s.edge c).queue.filter fun i => !mine i }) s
  if cs.isEmpty then s else s.placeWaiting

end Sys2Proof.Machine
end

