-- ==== Sys2Proof/Machine/LiftOps.lean ====
section
/-!
DEFINITION. The lift line: translation at acceptance (R146 to R149), work items and their answers (R73, R82), stopping
a command (R80 to R84), result slots (R75 to R78).
-/
namespace Sys2Proof.Machine

open Sys2Proof

/-! ### Status precedence (R73) -/

/-- The order of precedence among item statuses (R73). -/
def statusOrder : List Nat :=
  [St.fenced, St.divergent, St.poisonRead, St.revoked, St.remap, St.timeout, St.badParam, St.xltDenied, St.xltFault,
   St.staleVersion, St.noSpace, St.donePartial, St.done]

def statusRank (st : Nat) : Nat := (statusOrder.findIdx? (· = st)).getD 13

/-- Merge an item's status into the command's: the first of R73's list wins, the subcode is that of the first item to
return it. -/
def Outcome.merge (o : Outcome) (st sub : Nat) : Outcome :=
  if statusRank st < statusRank o.status then { o with status := st, subcode := sub } else o

/-! ### Contexts and translation (R141 to R149) -/

def State.ctx (s : State) (c : Nat) : Context := s.xlt.ctxs.getD c {}
def State.setCtx (s : State) (c : Nat) (x : Context) : State :=
  { s with xlt := { s.xlt with ctxs := s.xlt.ctxs.set c x } }
def Context.seg (c : Context) (i : Nat) : Segment := c.segs.getD i {}
def Context.setSeg (c : Context) (i : Nat) (x : Segment) : Context := { c with segs := c.segs.set i x }
def State.seg (s : State) (c i : Nat) : Segment := (s.ctx c).seg i
def State.setSeg (s : State) (c i : Nat) (x : Segment) : State := s.setCtx c ((s.ctx c).setSeg i x)

/-- Bytes of a slab of the segment. -/
def Segment.slabSize (g : Segment) : Nat := if g.slab16 then 2 ^ 34 else 2 ^ 30
/-- First byte and length of a segment's extent (R144). -/
def Segment.first (g : Segment) : Nat := g.base * 2 ^ 30
def Segment.bytes (g : Segment) : Nat := g.count * g.slabSize
def Segment.covers (g : Segment) (a : Nat) : Bool :=
  g.state == .valid && decide (g.first ≤ a) && decide (a < g.first + g.bytes)

/-- The deciding segment of a byte: the lowest-numbered VALID one that covers it (R146). -/
def Context.deciding (c : Context) (a : Nat) : Option Nat := firstBelow 16 fun i => (c.seg i).covers a

/-- The access a store range needs (R146). -/
inductive Access where
  | read | write | atomic
  deriving DecidableEq, Repr

def Access.code : Access → Nat
  | .read => 0 | .write => 1 | .atomic => 2

def Segment.allows (g : Segment) : Access → Bool
  | .read => g.permR | .write => g.permW | .atomic => g.permA && g.permW

/-- The checks of one byte in the order of R147: mapped, access, sealed, grant. -/
def State.translateByte (s : State) (ctx : Nat) (comp : Nat) (accs : List Access) (a : Nat) : Except (Nat × Nat) Nat :=
  let c := s.ctx ctx
  match c.deciding a with
  | none => .error (St.xltFault, 0x40)
  | some i =>
    if !accs.all (c.seg i).allows then .error (St.xltDenied, 0x40)
    else if (accs.any fun x => x != .read) && (s.slab a).sealed then .error (St.xltDenied, 0x60)
    else if (s.slab a).comp != some comp || (s.slab a).withdrawing then .error (St.xltFault, 0x41)
    else .ok i

/-- The first byte of each 1 GiB slab a range meets: every byte of a slab has one answer, because windows, grants and
seals are made of whole slabs (R144, R145). -/
def slabStarts (a n : Nat) : List Nat :=
  if n = 0 then []
  else (List.range ((a + n - 1) / 2 ^ 30 - a / 2 ^ 30 + 1)).map fun i => if i = 0 then a else (a / 2 ^ 30 + i) * 2 ^ 30

/-- Translate a store range that needs all of the accesses named (R147): the deciding segments, or the first failing byte with its
failure. -/
def State.translate (s : State) (ctx comp : Nat) (accs : List Access) (a n : Nat) : Except (Nat × Nat × Nat) Capture :=
  if a + n > 2 ^ 56 then .error (St.xltFault, 0x42, a)
  else
    (slabStarts a n).foldl (fun r b =>
      match r with
      | .error e => .error e
      | .ok (c : Capture) =>
        match s.translateByte ctx comp accs b with
        | .error (st, sub) => .error (st, sub, b)
        | .ok i => .ok { c with segs := c.segs ||| 2 ^ i })
      (.ok { first := a, len := n, segs := 0, access := (accs.map Access.code).foldl max 0 })

/-- Translate ranges in the order the opcode lists them. -/
def State.translateAll (s : State) (ctx comp : Nat) :
    List (List Access × Nat × Nat) → Except (Nat × Nat × Nat) (List Capture)
  | [] => .ok []
  | (accs, a, n) :: r =>
    match s.translate ctx comp accs a n with
    | .error e => .error e
    | .ok c =>
      match s.translateAll ctx comp r with
      | .error e => .error e
      | .ok l => .ok (c :: l)

/-- Commands of this member's line accepted under a context and still in flight (R143, XLT_CTX_INFLIGHT). -/
def State.inFlight (s : State) (ctx : Nat) : List (Nat × Entry) :=
  s.entriesWhere fun _ e => e.accepted && e.proxy.isNone && pkContext e.packet = ctx

/-! ### Result slots (R75 to R78) -/

/-- Size of a source's result area in 256-byte units. -/
def Source.areaUnits (x : Source) : Nat := x.resultSize * 256

/-- The lowest place where `n` units are free among the live slots. -/
def Source.place (x : Source) (n : Nat) : Option Nat :=
  let starts := 0 :: x.slots.map fun t => t.offset + t.len
  let ok (o : Nat) := o + n ≤ x.areaUnits && x.slots.all fun t => o + n ≤ t.offset || t.offset + t.len ≤ o
  (starts.filter fun o => decide (ok o)).foldl (fun (b : Option Nat) o => some (min o (b.getD o))) none

/-- Free space in 4 KiB units (FN_RESULT_FREE). -/
def Source.free4k (x : Source) : Nat := (x.areaUnits - (x.slots.map Slot.len).sum) / 16

/-- Allocate a result slot of `bytes` bytes for an entry (R75), rounding up to 256 bytes; the generation grows on each
allocation (R77). None: no space, or the member has no result region (R182). -/
def State.allocSlot (s : State) (id src bytes : Nat) : Option State :=
  let x := s.source src
  if s.store.resultSlot.isNone then none
  else
    let n := ceilDiv bytes 256
    match x.place n with
    | none => none
    | some o =>
      let gen := (x.slotGen + 1) % 256
      let x := { x with slots := x.slots ++ [{ offset := o, len := n, gen := gen, owner := some id }], slotGen := gen }
      let s := (s.setSource src x).modEntry id fun e => { e with slot := some (o, n) }
      some (if x.free4k * 8 < x.areaUnits / 16 && src < 128 then s.fnRaise src F.FN_EVENT_RESULT_LOW else s)

/-- The handle of a slot (R77). -/
def slotHandle (t : Slot) : Nat := t.offset % 2 ^ 24 + 2 ^ 24 * t.gen

/-- Free the slot of an entry that no completion will name (R78). -/
def State.freeSlotOf (s : State) (id src : Nat) : State :=
  let x := s.source src
  s.setSource src { x with slots := x.slots.filter fun t => t.owner != some id }

/-- RSA of a source's result area (R75, R182). -/
def State.resultRsa (s : State) (src : Nat) : Nat :=
  match s.store.resultSlot with
  | none => 0
  | some w => 0xFF000000000000 + w * 2 ^ 42 + Config.resultOffset src

/-- Results for an entry's slot, which the completion names (R66, R75); they are written before the completion is (R71). -/
def State.putResults (s : State) (id : Nat) (data : List Byte) : State :=
  match s.entry? id with
  | none => s
  | some e =>
    match e.slot with
    | none => s
    | some _ =>
      let h := (((s.source e.src).slots.find? fun t => t.owner = some id).map slotHandle).getD 0
      s.setEntry id { e with pend := data, out := { e.out with area := some (h, data.length) } }

/-! ### Work items and the end of a command (R58, R73, R81, R82) -/

/-- The outcome of a command is fixed: its completion may be written once every home has answered what was sent to it. -/
def State.finish (s : State) (id : Nat) (f : Outcome → Outcome) : State :=
  s.modEntry id fun e => { e with phase := .ended, moving := false, out := f e.out }

/-- End an accepted command without effect. -/
def State.failWith (s : State) (id st sub : Nat) (r0 : Nat := 0) : State :=
  s.finish id fun o => { o with status := st, subcode := sub, result0 := r0, absent := 0xFF }

/-- This member performs only its own part of the command (R34). -/
def Entry.part (e : Entry) : Bool := e.proxy.any fun x => x.part

/-- What a command counts once, whatever members perform parts of it, so that the answers add up to it. -/
def Entry.share (e : Entry) (n : Nat) : Nat := if e.part then 0 else n

/-- What a phase of a command carries to another member: in ADDR whether that member performs the whole of it as the anchor
(1) or its own part (0), the intake source and the table version captured; in the data the packet and the parameter block. -/
def phaseItem (owner : Option Nat) (m slot epoch : Nat) (whole : Bool) (src version : Nat) (p : Packet) (block : List Byte) : Away :=
  { owner := owner, home := m, epoch := epoch, role := true, slot := slot, kind := 4,
    addr := b2n whole + 16 * (src % 256) + 4096 * version, data := bvBytes p 0 64 ++ block }

/-- A phase of a command goes to another member. -/
def State.sendPhase (s : State) (id m classes : Nat) (whole : Bool) : State :=
  match s.entry? id with
  | none => s
  | some e => s.sendItem (phaseItem (some id) m (s.slotServed m) e.epoch whole e.src e.version e.packet e.block) classes

/-- A stage of a command's work goes to another member, which the opcode numbers. -/
def State.sendStage (s : State) (id m k classes : Nat) : State :=
  match s.entry? id with
  | none => s
  | some e => s.sendItem (phaseItem (some id) m (s.slotServed m) e.epoch false e.src k e.packet e.block) classes

/-- This member's own effect of a command is done: what it did here counts, and what was sent elsewhere on the way is awaited;
with nothing to await every effect has committed and the command ends (R58, R82). `here` says that this member served an item
of it, `classes` are the effect classes of its items. -/
def State.conclude (s : State) (id : Nat) (here : Bool) (classes : Nat) (f : Outcome → Outcome) : State :=
  s.modEntry id fun e =>
    { e with
      started := true
      moving := false
      begun := if here then e.begun ||| classes else e.begun
      acked := e.acked + b2n here
      served := if here then addNew e.served s.sys.member else e.served
      out := { f e.out with homes := if here && !e.served.contains s.sys.member then e.out.homes + 1 else e.out.homes }
      phase := if e.items.isEmpty then .ended else .accepted }

/-- Each other member of a list gets its phase of the command (R34). What another member performs its part of reaches no further. -/
def State.sendParts (s : State) (id : Nat) (members : List Nat) (classes : Nat) : State :=
  let far := if (s.entry? id).any Entry.part then [] else members.filter fun m => m != s.sys.member
  far.foldl (fun (s : State) m => s.sendPhase id m classes false) s

/-- This member's part of a command is done, and the phases at the members listed perform the rest (R34). -/
def State.dispatch (s : State) (id : Nat) (homes : List Nat) (classes : Nat) (f : Outcome → Outcome) : State :=
  (s.sendParts id homes classes).conclude id (homes.contains s.sys.member) classes f

/-- A command whose effects begin at an anchor elsewhere goes there whole (R260, R291, R326, R343). -/
def State.forward (s : State) (id anchor classes : Nat) : State :=
  (s.sendPhase id anchor classes true).conclude id false classes fun o => o

/-- A MAP_FORM that fails or is stopped has no effect (R527): the map, width and salt before it stand again. -/
def State.unform (s : State) (id : Nat) : State :=
  match s.rack.forming with
  | none => s
  | some f =>
    if f.entry != id then s
    else
      let s := { s with rack := { s.rack with map := f.oldMap, forming := none }, store := { s.store with resultSlot := f.oldResult } }
      ((s.setFld F.TIER_HASH_WIDTH f.oldWidth).setFld F.TIER_SALT_LO_SALT f.oldSaltLo).setFld F.TIER_SALT_HI_SALT f.oldSaltHi

/-- A claim ends without its insert (R319): the node home's copy of the word stands as before. -/
def State.releaseClaim (s : State) (id : Nat) (c : VecClaim) : State :=
  if c.home = s.sys.member then s.pokeBytes c.addr (toLe 4 c.old)
  else match s.entry? id with
  | none => s
  | some e => s.sendItem (phaseItem none c.home (s.slotServed c.home) e.epoch false e.src 2 e.packet e.block) 0

/-- The walks of a command end; a node an uncommitted insert claimed is FREE again (R319). -/
def State.dropWalks (s : State) (id : Nat) : State :=
  let mine := s.vec.claims.filter fun c => c.entry = id
  let s := mine.foldl (fun (s : State) c => s.releaseClaim id c) s
  { s with vec := { s.vec with
    claims := s.vec.claims.filter fun c => c.entry != id
    waiting := s.vec.waiting.filter fun w => !((s.vec.walks.find? w).any fun x => x.entry = id)
    walks := s.vec.walks.filter fun _ x => x.entry != id } }

/-- An insert whose numbers an anchor elsewhere reserved is in flight there no longer (R333 step 1). -/
def State.endFlight (s : State) (id : Nat) (j : RplJob) : State :=
  match j.asked, s.entry? id with
  | some n, some e =>
    let m := s.serverOf (pkField j.packet 20 2 % s.width)
    s.sendItem (phaseItem none m (s.slotServed m) e.epoch false e.src (3 + 8 * n) e.packet []) 0
  | _, _ => s

/-- The replay work of a command ends (R334): its reservation and its updates not applied go; the clearing of an insert's
slots stays, so that no slot keeps its old priority. -/
def State.dropReplay (s : State) (id : Nat) : State :=
  let mine (a : Asker) : Bool := match a with
    | .entry i _ => i = id
    | .item .. => false
  let s := (s.rpl.jobs.filter fun j => mine j.asker).foldl (fun (s : State) j => s.endFlight id j) s
  { s with rpl := { s.rpl with
    queues := s.rpl.queues.mapVals fun _ l => l.filter fun c => c.clear || !mine c.asker
    flights := s.rpl.flights.filter fun f => !(mine f.asker && f.origin = s.sys.member)
    waits := s.rpl.waits.filter fun f => !mine f.asker
    jobs := s.rpl.jobs.filter fun j => !mine j.asker } }

/-- What this member received of a slot by a MAP_ASSIGN that has ended is free again (R520), unless it is the slot's partner. -/
def State.dropCopy (s : State) (slot : Nat) : State :=
  if s.partnerOf slot = some s.sys.member || s.serverOf slot = s.sys.member then s
  else { s with
    store := { s.store with
      mirrorMem := s.store.mirrorMem.filter fun c => s.homeSlot c.1 != slot
      mirrorGrans := s.store.mirrorGrans.filter fun g _ => s.homeSlot (g * 128) != slot }
    coh := { s.coh with sf := s.coh.sf.filter fun g _ => s.homeSlot (g * 128) != slot }
    gate := { s.gate with shadowBlocks := s.gate.shadowBlocks.filter fun k _ => k / 1024 != slot } }

/-- Phase 1 of a MAP_ASSIGN ends without effect (R520): the server sends the slot's writes to SUBJECT no longer, and SUBJECT frees what
it received; each learns it from the member whose command it was. Member `m`, which is gone, is told nothing. -/
def State.endAssign (s : State) (m : Nat) : State :=
  match s.rack.assign with
  | none => s
  | some a =>
    let s := { s with rack := { s.rack with assign := none } }
    let tell (s : State) (to' kind : Nat) : State :=
      if to' = m || to' = s.sys.member || s.memberState to' == .fenced then s
      else s.sendItem { owner := none, home := to', epoch := s.rack.map.epoch, role := true, slot := 64, kind := kind,
                        addr := a.slot, data := [] } 0
    let s := if a.subject = s.sys.member then s.dropCopy a.slot else tell s a.subject 16
    tell s (s.serverOf a.slot) 17

/-- Take from the blocks' own queues what a stopped command leaves there: held gate waits, journal waits, page request
groups, invocations, walks, changes of the map it asked for, working space (R277). -/
def State.withdraw (s : State) (id : Nat) : State :=
  let s := ((s.cancelInvocations id).dropWalks id).dropReplay id
  let asked := s.rack.asker = some id && s.rack.commit.isNone
  let s := s.unform id
  let s := if s.rack.assign.any fun a => a.entry = id && !a.committed then s.endAssign 64 else s
  { s with
    gate := { s.gate with
      waiters := s.gate.waiters.filter fun w => !(w.intake = s.sys.member && w.entry = id)
      fences := s.gate.fences.filter fun f => f.entry != id }
    store := { s.store with
      journalWaits := s.store.journalWaits.filter fun w => w.entry != some id }
    rack := { s.rack with
      proposed := if asked then none else s.rack.proposed
      asker := if asked then none else s.rack.asker
      fetched := s.rack.fetched.filter fun f => f.1 != id }
    xlt := { s.xlt with groups := s.xlt.groups.filter fun g => g.entry != id }
    emb := { s.emb with work := s.emb.work.erase id } }

/-- A marked command that is stopped is decided by that (R174): the revocations wait for its end, and count it neither way. -/
def State.stopFirst (s : State) (id : Nat) : State :=
  { s with xlt := { s.xlt with
    revocations := mapIf (fun r => r.undecided.contains id)
      (fun r => { r with undecided := r.undecided.filter (· != id), released := addNew r.released id }) s.xlt.revocations } }

/-- Stop a command (R80 to R82, R84): one whose last effect committed keeps its effects; any other is cancelled at every
home, and ends once all of them have acknowledged. -/
def State.stopEntry (s : State) (id : Nat) (why : Stop) : State :=
  match s.entry? id with
  | none => s
  | some e =>
    if !e.accepted || e.stop.isSome then s
    else if e.phase = .ended then
      match why with
      | .timeout | .fenced | .brace | .revoked _ => s
      | _ => s.setEntry id { e with stop := some why,
                                    out := { e.out with status := St.doneLateAbort, subcode := 0 } }
    else
      let away := e.items.filter fun i => i.home != s.sys.member
      let s := (away.foldl (fun (s : State) i => s.emit (.work i.home i.id 1)) s).withdraw id
      let settling := ((s.entry? id).map fun x => x.items.filter Item.transfer).getD []
      let items := (away.map fun i => { i with cancelled := true }) ++ settling
      let e1 := { e with stop := some why, moving := false, marked := false, holdDue := [], items := items }
      (s.setEntry id (if e1.items.isEmpty then e1.endStopped else e1)).stopFirst id

/-- Two items of a command are each other's copy (R85). -/
def State.linkTwins (s : State) (id a b : Nat) : State :=
  s.modEntry id fun e => { e with
    items := e.items.map fun (j : Item) =>
      if j.id = a then { j with other := some b } else if j.id = b then { j with other := some a } else j
    out := { e.out with twinned := true } }

/-- Issue an item a second time, to the holder of the second copy (R85). -/
def State.twinItem (s : State) (id : Nat) (i : Item) (x : Away) : State :=
  let n := s.rack.nextItem
  (s.sendItem x i.classes).linkTwins id i.id n

/-- What an answer to one of a command's items counts for (R86, R87): of two copies the first that succeeds wins, the other is
cancelled and its answer discarded; of two failures the first to arrive counts, but REMAP only when both are. -/
def Entry.verdict (e : Entry) (i : Item) (st sub : Nat) : Option (Nat × Nat) :=
  let good := st = St.done || st = St.donePartial
  if e.stop.isSome then some (st, sub)
  else if i.cancelled then none
  else if good then some (st, sub)
  else if i.other.isSome then none
  else match i.failure with
    | some f => if f.1 = St.remap && st != St.remap then some (st, sub) else some f
    | none => some (st, sub)

/-- The entry after the answer: the item is gone, its other copy knows. -/
def Entry.answered (e : Entry) (i : Item) (st sub : Nat) : Entry :=
  let good := st = St.done || st = St.donePartial
  let tell (j : Item) : Item :=
    if i.other = some j.id then
      { j with other := none, cancelled := j.cancelled || good, failure := if good then j.failure else some (st, sub) }
    else j
  { e with items := (e.items.filter fun j => j.id != i.id).map tell }

/-- An item of an entry has its final answer or its cancel's acknowledgement (R82): a command whose items have all
answered ends. -/
def State.answerItem (s : State) (id item st sub : Nat) (begun : Bool) : State :=
  match s.entry? id with
  | none => s
  | some e =>
    match e.items.find? fun i => i.id = item with
    | none => s
    | some i =>
      let good := st = St.done || st = St.donePartial
      let loser := i.cancelled && e.stop.isNone
      let s := if good && e.stop.isNone && !loser then
          (e.items.filter fun j => i.other = some j.id && j.home != s.sys.member).foldl (fun (s : State) j =>
            s.emit (.work j.home j.id 1)) s
        else s
      let e0 := e.answered i st sub
      let first := (begun || good) && !loser && !i.transfer && !e.served.contains i.home
      let out := match e.verdict i st sub with
        | some f => if e.stop.isSome then e.out else e.out.merge f.1 f.2
        | none => e.out
      let e1 := { e0 with
        acked := if begun && good && !loser && !i.transfer then e.acked + 1 else e.acked
        begun := if begun && !loser then e.begun ||| i.classes else e.begun
        served := if first then e.served ++ [i.home] else e.served
        out := if first then { out with homes := out.homes + 1 } else out }
      (s.setEntry id (if e0.items.isEmpty && ((e.started && !e.moving) || e.stop.isSome) then
        (if e.stop.isSome then e1.endStopped else { e1 with phase := .ended }) else e1)).dropAway item

/-- A command's phase has begun here. -/
def Entry.hasBegun (e : Entry) : Bool := e.started || e.begun != 0 || !e.served.isEmpty

/-- What a command performed for another member returns with its answer (R271, R202). -/
def Entry.results (e : Entry) : List Byte :=
  ([e.out.result0, e.out.countDone, e.out.countAux, e.out.result1, b2n e.out.fellBack] ++ e.reply).map (toLe 8) |>.flatten

/-- A command that stands accepted in the lift line, whose items may be sent: its opcode is the one asked for, it is not
being stopped, not held behind a BARRIER (R59) and not performed yet. -/
def State.runnable (s : State) (id opcode : Nat) : Option Entry :=
  match s.entry? id with
  | some e =>
    if pkOpcode e.packet = opcode && e.phase = .accepted && e.accepted && !e.barrier && !e.started && e.stop.isNone &&
        !e.marked then some e else none
  | none => none

/-- The same for an opcode whose work items go to the store: they wait for STORE_UP (R599). -/
def State.runnableStore (s : State) (id opcode : Nat) : Option Entry :=
  if s.storeUp then s.runnable id opcode else none

/-- A command of the opcode that has been started or may be started now: the rows that a command meets again while it
runs. -/
def State.resumable (s : State) (id opcode : Nat) : Option Entry :=
  match s.entry? id with
  | some e =>
    if pkOpcode e.packet = opcode && e.phase = .accepted && e.accepted && !e.barrier && e.stop.isNone && !e.marked
      then some e else none
  | none => none

/-! ### Coherence with endpoint copies, seen from a command (R414) -/

/-- Endpoints that hold a granule, by the filter. -/
def SfEntry.indexes (e : SfEntry) : List Nat :=
  if e.coarse then (List.range 512).filter fun i => e.vector.testBit (i / 8) else e.holders

/-- Granules of a list that a read must recalls, or a write must invalidate, before it is performed. -/
def State.heldGranules (s : State) (write : Bool) (gs : List Nat) : List Nat :=
  gs.filter fun g => match s.coh.sf.find? g with
    | none => s.coh.txns.any fun t => t.req.granule = g
    | some e => write || e.owned || s.coh.txns.any fun t => t.req.granule = g

end Sys2Proof.Machine
end

