-- ==== Sys2Proof/Machine/CohOps.lean ====
section
/-!
DEFINITION. The home's side of coherence (R411 to R424): filter entries, INVs, transactions and their answers; routing
of HXL messages (R395 to R400).
-/
namespace Sys2Proof.Machine

open Sys2Proof

/-! ### Ports and routes (R395 to R400) -/

def State.port (s : State) (p : Nat) : Port := s.hxl.ports.getD p {}
def State.setPort (s : State) (p : Nat) (x : Port) : State :=
  { s with hxl := { s.hxl with ports := s.hxl.ports.set p x } }
/-- A message refused or discarded (R393, R394). -/
def State.msgBad (s : State) (p : Nat) : State :=
  let x := s.port p
  (s.setPort p { x with msgBad := satInc 32 x.msgBad }).raise F.HXL_EVENT_MSG_BAD

def State.epRoute (s : State) (e : Nat) : EpRoute := s.hxl.epRoutes.getD e {}
def State.route (s : State) (m : Nat) : Route := s.hxl.routes.getD m {}

/-- pick_port of R400. -/
def State.pickPort (s : State) (mask src dst key : Nat) : Option Nat :=
  let ports := (List.range 16).filter fun p => mask.testBit p && (s.port p).state == .active
  match ports with
  | [] => none
  | _ => some (ports.getD (mix64 ((src <<< 48) ^^^ (dst <<< 32) ^^^ key ^^^ s.salt) % ports.length) 0)

/-- An endpoint's index is attached: its HXL_EP_ROUTE has a valid attachment (R411). -/
def State.attached (s : State) (index : Nat) : Bool := (s.epRoute index).valid1 || (s.epRoute index).valid2

/-- Hand a message to a port's transmitter. -/
def State.sendPort (s : State) (p : Nat) (msg : List Byte) (dst : Nat := 0xFFFF) : State :=
  { s with hxl := { s.hxl with
    outbox := s.hxl.outbox ++ [({ port := p, dst := dst, msg := msg } : OutMsg)] } }.emit (.hxl p msg)

/-- A message that finds no ACTIVE port waits (R399). -/
def State.waitRoute (s : State) (dst : Nat) (msg : List Byte) (drain : Bool) : State :=
  { s with hxl := { s.hxl with
      waiting := s.hxl.waiting ++ [{ id := s.hxl.nextWait, dst := dst, msg := msg, since := s.frame, drain := drain }]
      nextWait := s.hxl.nextWait + 1 } }

/-- Send a message toward a member by its route (R399, R660): nothing goes to a fenced member but CONS. -/
def State.sendMember (s : State) (m : Nat) (src key : Nat) (msg : List Byte) : State :=
  if m = s.sys.member then s
  else if s.memberState m == .fenced && (fieldAt msg 0 1 != 0x11) then s
  else match s.pickPort (s.route m).ports src m key with
    | some p => (s.sendPort p msg m).emit (.toMember m msg)
    | none => s.waitRoute m msg false

/-- Send a message to a compute endpoint (R399): the first valid attachment that is this member with an ACTIVE port,
else toward the member of the first valid attachment that has an ACTIVE route. -/
def State.sendEndpoint (s : State) (index : Nat) (key : Nat) (msg : List Byte) : State :=
  let r := s.epRoute index
  let here (v : Bool) (m p : Nat) : Bool := v && m = s.sys.member && (s.port p).state == .active
  if here r.valid1 r.member1 r.port1 then s.sendPort r.port1 msg
  else if here r.valid2 r.member2 r.port2 then s.sendPort r.port2 msg
  else
    let there (v : Bool) (m : Nat) : Bool :=
      v && m != s.sys.member && (s.pickPort (s.route m).ports 0 m key).isSome
    if there r.valid1 r.member1 then s.sendMember r.member1 s.sys.member key msg
    else if there r.valid2 r.member2 then s.sendMember r.member2 s.sys.member key msg
    else s.waitRoute (0x200 + index) msg false

/-! ### Messages (R388, R389) -/

/-- A response header with its data (R389). -/
def respMsg (mtype cls tag dst st sub addr home : Nat) (data : List Byte) : List Byte :=
  toLe 1 mtype ++ toLe 1 cls ++ toLe 2 tag ++ toLe 2 dst ++ toLe 1 st ++ toLe 1 sub ++ toLe 7 addr ++ toLe 1 home ++ data

/-- An INV (R388). -/
def invMsg (tag src dst addr : Nat) (recalls back : Bool) : List Byte :=
  toLe 1 0x07 ++ toLe 1 0 ++ toLe 2 tag ++ toLe 2 src ++ toLe 2 dst ++ toLe 7 addr ++ toLe 1 (b2n recalls + 2 * b2n back)

/-- The waiter of a raw request's items. -/
def CohReq.waiter (r : CohReq) : Nat := 2 ^ 44 + r.id

/-- Send a response to the requester of a request: to its port here, or back through the member it came from. Ports of
100 and above stand for members. -/
def State.respond (s : State) (r : CohReq) (mtype st sub : Nat) (data : List Byte) : State :=
  if !s.noneAway r.waiter then { s with coh := { s.coh with due := s.coh.due ++ [(r, mtype, st, sub, data)] } } else
  let msg := respMsg mtype r.cls r.tag r.src st sub r.addr s.sys.member data
  let s := { s with xlt := { s.xlt with raws := s.xlt.raws.filter fun w => !(w.port = r.port && w.tag = r.tag) } }
  if r.port ≥ 100 then s.sendMember (r.port - 100) s.sys.member r.tag msg
  else if r.port < 16 then
    let p := s.port r.port
    (s.setPort r.port { p with raws := p.raws - 1 }).sendPort r.port msg
  else s

/-- Raw requests whose writes stand in the mirror too are answered (R474). -/
def State.respondDue (s : State) : State :=
  let ready := s.coh.due.filter fun x => s.noneAway x.1.waiter
  let s := { s with coh := { s.coh with due := s.coh.due.filter fun x => !s.noneAway x.1.waiter } }
  ready.foldl (fun (s : State) x => s.respond x.1 x.2.1 x.2.2.1 x.2.2.2.1 x.2.2.2.2) s

/-! ### The snoop filter (R411, R412) -/

def sfSet (g : Nat) : Nat := (g ^^^ (g >>> 16) ^^^ (g >>> 32)) % 65536

def State.sfEntry (s : State) (g : Nat) : Option SfEntry := s.coh.sf.find? g
def State.setSf (s : State) (g : Nat) (e : SfEntry) : State := { s with coh := { s.coh with sf := s.coh.sf.set g e } }
def State.freeSf (s : State) (g : Nat) : State := { s with coh := { s.coh with sf := s.coh.sf.erase g } }
/-- The mirror check at promotion has a granule's former home copy still to compare (R507). -/
def State.checking (s : State) (g : Nat) : Bool := s.rack.checks.any fun c => c.1 = g && decide (s.frame < c.2)
/-- A transaction on the granule is in progress (R411). -/
def State.busy (s : State) (g : Nat) : Bool := s.coh.txns.any fun t => t.req.granule = g

def State.agent (s : State) (i : Nat) : Agent := s.coh.agents.getD i {}
def State.setAgent (s : State) (i : Nat) (a : Agent) : State := { s with coh := { s.coh with agents := s.coh.agents.set i a } }

/-- The entries of a granule's set. -/
def State.sfWays (s : State) (g : Nat) : List (Nat × SfEntry) := s.coh.sf.cells.filter fun c => sfSet c.1 = sfSet g

/-- The member that holds this member's shadow (R423): the one promoted in its place for the slot. -/
def State.shadowHolder (s : State) (g : Nat) : Option Nat := s.partnerOf (s.homeSlot (g * 128))

/-- A filter entry as its shadow update carries it: its form, its way, its holders, its vector. -/
def SfEntry.bytes (e : SfEntry) : List Byte :=
  toLe 1 (b2n e.owned + 2 * b2n e.coarse) ++ toLe 1 e.way ++ toLe 2 e.holders.length ++
    ((List.range 4).map fun i => toLe 2 (e.holders.getD i 0)).flatten ++ toLe 4 0 ++ toLe 8 e.vector

/-- The entry that such an update carries. -/
def sfEntryOf (b : List Byte) (order : Nat) : SfEntry :=
  { owned := (fieldAt b 0 1).testBit 0, coarse := (fieldAt b 0 1).testBit 1
    holders := (List.range (min 4 (fieldAt b 2 2))).map fun i => fieldAt b (4 + 2 * i) 2
    vector := fieldAt b 16 8, way := fieldAt b 1 1, order := order, hold := false }

/-- A change of an entry reaches the shadow before the request is answered (R423), and a member that the slot is being copied to
(R519). -/
def State.tellShadow (s : State) (g : Nat) : State :=
  let slot := s.homeSlot (g * 128)
  let x : Away := { owner := none, home := 0, epoch := 0, role := true, slot := slot, kind := 6, addr := g * 128,
                    data := ((s.sfEntry g).map SfEntry.bytes).getD [] }
  let s := match s.shadowHolder g with
    | some m => s.sendServed { x with home := m } 0
    | none => s
  match s.copyingTo slot with
  | some m => s.sendServed { x with home := m, slot := 64 } 0
  | none => s

/-- Add an endpoint as SHARED holder: a fifth turns the entry COARSE (R411). -/
def SfEntry.addShared (e : SfEntry) (i : Nat) : SfEntry :=
  if e.coarse then { e with vector := e.vector ||| 2 ^ (i / 8) }
  else if e.holders.contains i then e
  else if e.holders.length < 4 then { e with holders := e.holders ++ [i] }
  else { e with coarse := true, vector := (e.holders ++ [i]).foldl (fun v j => v ||| 2 ^ (j / 8)) 0, holders := [] }

/-- Allocate an entry in a way (R411, R412). -/
def State.allocSf (s : State) (g way : Nat) (owned : Bool) (i : Nat) : State :=
  let e : SfEntry := { owned := owned, coarse := false, holders := [i], vector := 0, way := way, order := s.coh.nextOrder,
                       hold := owned }
  let s := ({ s with coh := { s.coh with nextOrder := s.coh.nextOrder + 1 } }.setSf g e).count F.COH_SF_ALLOC
  if s.coh.sf.cells.length * 8 > 7 * 1048576 then s.raise F.COH_EVENT_SF_HIGH else s

/-! ### INVs (R411, R416, R421) -/

/-- The requester ID of an endpoint index (R395, R396): the node form's at a port of this member that uses it; between members the
native one. -/
def State.endpointId (s : State) (i : Nat) : Nat :=
  let r := s.epRoute i
  let node (v : Bool) (m p : Nat) : Bool := v && m = s.sys.member && (s.port p).act.nodeForm
  if node r.valid1 r.member1 r.port1 || node r.valid2 r.member2 r.port2 then s.fld F.HXL_ID_RACK * 512 + i else 0x200 + i

/-- The endpoint index of a requester ID (R411). -/
def State.indexOfId (s : State) (id : Nat) : Nat :=
  if s.endpointId (id % 512) = id then id % 512 else if 0x200 ≤ id then id - 0x200 else id

/-- Send one INV to an endpoint, unless it counts as answered: DEAD, RECLAIMED or not attached. -/
def State.sendInv (s : State) (g i : Nat) (recalls back : Bool) : State :=
  if (s.agent i).state != .live || !s.attached i then s
  else
    let s := { s with coh := { s.coh with invs := s.coh.invs ++
      [({ granule := g, index := i, recalls := recalls, back := back, crossed := false, ackedFirst := false } : Inv)] } }
    let s := s.pulse (if back then 0x181 else 0x180) 0xFFF
    (s.count F.COH_INV_SENT).sendEndpoint i g (invMsg i s.sys.member (s.endpointId i) (g * 128) recalls back)

/-- The holders a request must invalidate or recalls first, with RECALL (R414). -/
def cohTargets (e : SfEntry) (r : CohReq) : List (Nat × Bool) :=
  let all := e.indexes.map fun i => (i, e.owned)
  match r.kind with
  | .rd _ => if e.owned then all else []
  | .cmdRead _ => if e.owned then all else []
  | .rdOwn => all.filter fun x => some x.1 != r.index
  | .wr | .wrp _ | .atom .. | .cmdWrite _ => all
  | .wb => []
  | .evict => all
  | .backInv _ => all.filter fun x => some x.1 = r.index

/-- A granule that a DEAD endpoint held OWNED (R422 step 4): poisoned here and in its mirror, its generation grown, its
entry freed. -/
def State.reclaimOwned (s : State) (g : Nat) : State :=
  (((s.poison g .reclaim (((s.gran g).wgen + 1) % 2 ^ 48)).freeSf g).tellShadow g).count F.COH_RECLAIM_POISONED

/-! ### Atomics (R390, R426) -/

/-- An atomic operation on an element of `w` bits: the new value (R390). FADD adds in FP32, rounded to nearest even. -/
def atomicResult (aop w old a b : Nat) : Nat :=
  let m := 2 ^ w
  match aop with
  | 0 => (old + a) % m
  | 1 => faddCode old a
  | 2 => a % m
  | 3 => if old = a % m then b % m else old
  | 4 => old &&& (a % m)
  | 5 => old ||| (a % m)
  | 6 => old ^^^ (a % m)
  | 7 => min old (a % m)
  | 8 => max old (a % m)
  | 9 => if toSigned w old ≤ toSigned w a then old else a % m
  | _ => if toSigned w old ≥ toSigned w a then old else a % m

end Sys2Proof.Machine
end

