-- ==== Sys2Proof/Machine/KvpPages.lean ====
section
/-!
DEFINITION. KV page pools: descriptor fields (R345), the places of pages (R344), the age stamp of raw accesses to locked
pages.
-/
namespace Sys2Proof.Machine

open Sys2Proof

/-- First byte of window `w` (R182). -/
def windowRsa (w : Nat) : Nat := 0xFF000000000000 + w * 2 ^ 42

def kdPool (d : List Byte) : Nat := fieldAt d 0 1
def kdTokenLog2 (d : List Byte) : Nat := fieldAt d 1 1
def kdListMax (d : List Byte) : Nat := fieldAt d 2 2
def kdFrames (d : List Byte) : Nat := fieldAt d 4 4
def kdSpill (d : List Byte) : Nat := fieldAt d 8 4
def kdSeqs (d : List Byte) : Nat := fieldAt d 12 4
def kdFrameOff (d : List Byte) : Nat := fieldAt d 16 8
def kdSpillOff (d : List Byte) : Nat := fieldAt d 24 8
def kdMetaOff (d : List Byte) : Nat := fieldAt d 32 8

/-- TOKEN_BYTES and PAGE_TOKENS (R344, R345). -/
def kdTokenBytes (d : List Byte) : Nat := 2 ^ kdTokenLog2 d
def kdPageTokens (d : List Byte) : Nat := 65536 / kdTokenBytes d

/-- Bytes of the three arrays (R345). -/
def kdFrameBytes (d : List Byte) : Nat := kdFrames d * 65536
def kdSpillBytes (d : List Byte) : Nat := kdSpill d * 65536
def kdMetaBytes (d : List Byte) : Nat :=
  16 * (kdFrames d + kdSpill d) + kdSeqs d * (ceilDiv (64 + 4 * kdListMax d) 64 * 64)

/-- The window and the page number of a handle (R344). -/
def handleWindow (h : Nat) : Nat := h / 2 ^ 26
def handlePage (h : Nat) : Nat := h % 2 ^ 26

/-- The RSA of a frame or of a spill slot of a window. -/
def kvpFrameRsa (d : List Byte) (w f : Nat) : Nat := windowRsa w + kdFrameOff d + f * 65536
def kvpSpillRsa (d : List Byte) (w k : Nat) : Nat := windowRsa w + kdSpillOff d + k * 65536
def kvpPageRsa (d : List Byte) (h : Nat) (x : KvpPage) : Nat :=
  if x.spilled then kvpSpillRsa d (handleWindow h) x.place else kvpFrameRsa d (handleWindow h) x.place

def State.kvpPool (s : State) (p : Nat) : Option KvpPool := s.kvp.pools.find? p
def State.setKvpPool (s : State) (p : Nat) (x : KvpPool) : State :=
  { s with kvp := { s.kvp with pools := s.kvp.pools.set p x } }
def State.modKvpPool (s : State) (p : Nat) (f : KvpPool → KvpPool) : State :=
  { s with kvp := { s.kvp with pools := s.kvp.pools.modify p f } }

/-- The stamp of an access now (R344). -/
def State.kvpStamp (s : State) : Nat := s.frame / 1024

/-- A page that a LOCKED sequence holds (R355). -/
def KvpPool.lockedPage (x : KvpPool) (h : Nat) : Bool :=
  (x.recs.cells.any fun c => c.2.locked && c.2.list.contains h) || (x.pages.find? h).any fun pg => pg.locks != 0

/-- This member serves the window of a handle: it holds the page's record (R344). -/
def State.pageHere (s : State) (h : Nat) : Bool := s.serverOf (handleWindow h) = s.sys.member

/-- A raw access stamps the page it falls in, when a LOCK covers it (R344). -/
def State.kvpTouch (s : State) (addr : Nat) : State :=
  if s.kvp.pools.cells.isEmpty then s
  else
    let touch (x : KvpPool) : KvpPool :=
      { x with pages := x.pages.mapVals fun h pg =>
          if !pg.spilled && decide (kvpPageRsa x.desc h pg ≤ addr) && decide (addr < kvpPageRsa x.desc h pg + 65536) &&
            x.lockedPage h then { pg with stamp := s.kvpStamp } else pg }
    { s with kvp := { s.kvp with pools := s.kvp.pools.mapVals fun _ x => touch x } }

end Sys2Proof.Machine
end

