-- ==== Sys2Proof/Machine/CohTxn.lean ====
section
/-!
DEFINITION. Coherence transactions at the home: a request begins, its INVs are answered, it is performed and answered
(R412 to R424).
-/
namespace Sys2Proof.Machine

open Sys2Proof

/-- Count a raw write or atomic that has ended at this home, for the fences of its source (R460). -/
def State.countEnded (s : State) (r : CohReq) : State :=
  match r.kind with
  | .wr | .wrp _ | .atom .. =>
    let rt := s.epRoute (r.index.getD 0)
    let origin := if r.port < 16 then s.sys.member else rt.member1
    let src := 128 + (if r.port < 16 then r.port else rt.port1)
    let k := 144 * origin + src
    { s with gate := { s.gate with ended := s.gate.ended.set k ((s.gate.ended.getD k 0 + 1) % 2 ^ 32) } }
  | _ => s

/-- The data of a masked write over what the granule holds (R388). -/
def maskedData (mask : Nat) (old new : List Byte) : List Byte :=
  (List.range 128).map fun i => if mask.testBit i then new.getD i 0 else old.getD i 0

/-- A raw write or atomic of HXL (R231). -/
def CohReq.changes (r : CohReq) : Bool :=
  match r.kind with
  | .wr | .wrp _ | .atom .. | .wb => true
  | _ => false

/-- The way a new filter entry of a granule takes. -/
def State.freeWay (s : State) (g : Nat) : Nat := (firstBelow 16 fun w => (s.sfWays g).all fun c => c.2.way != w).getD 0

/-- A RD's data is read: without NO_CACHE its requester becomes a sharer, and an owner's entry goes (R414). -/
def State.performRd (s : State) (r : CohReq) (noCache : Bool) : State :=
  let g := r.granule
  let entry := s.sfEntry g
  match s.checkRead g with
  | (s, some (st, sub)) => s.respond r 0x0B st sub []
  | (s, none) =>
    let s := (s.access (g / 32) false).1
    let s := if noCache then (if entry.any fun e => e.owned then s.freeSf g else s)
      else match r.index with
      | none => s
      | some i => match entry with
        | some e => s.setSf g (({ e with owned := false, hold := false,
                                         holders := if e.owned then [] else e.holders,
                                         vector := if e.owned then 0 else e.vector,
                                         coarse := e.coarse && !e.owned } : SfEntry).addShared i)
        | none => s.allocSf g (s.freeWay g) false i
    let s := if noCache && entry.isNone then s else s.tellShadow g
    s.respond r 0x0A St.done 0 (s.bytes (g * 128) 128)

/-- A RD_OWN's data is read: its requester owns the granule alone (R414). -/
def State.performRdOwn (s : State) (r : CohReq) : State :=
  let g := r.granule
  let entry := s.sfEntry g
  match s.checkRead g with
  | (s, some (st, sub)) => s.respond r 0x0B st sub []
  | (s, none) =>
    let s := (s.access (g / 32) false).1
    let way := (entry.map (·.way)).getD (s.freeWay g)
    let s := ((s.freeSf g).allocSf g way true (r.index.getD 0)).tellShadow g
    s.respond r 0x0A St.done 0 (s.bytes (g * 128) 128)

/-- The copies of a granule are gone: its filter entry with them (R414). -/
def State.dropCopies (s : State) (g : Nat) : State :=
  if (s.sfEntry g).isSome then (s.freeSf g).tellShadow g else s.freeSf g

/-- A write's bytes are put into its granule and the request is answered, by `kind` and `data` when all is well (R415). -/
def State.landWrite (s : State) (r : CohReq) (off : Nat) (l : List Byte) (kind : Nat) (data : List Byte) : State :=
  match (s.access (r.granule / 32) true).1.writeGranule r.granule off l with
  | (s, some (st, sub)) => (s.countEnded r).respond r 0x0B st sub []
  | (s, none) => (s.countEnded r).respond r kind St.done 0 data

/-- A WRP: the bytes its mask selects; one that selects them all merges nothing (R414, R468). -/
def State.performWrp (s : State) (r : CohReq) (mask : Nat) : State :=
  let g := r.granule
  let whole := mask % 2 ^ 128 = 2 ^ 128 - 1
  let pre := if whole then (s, none) else s.checkRead g
  match pre with
  | (s, some (st, sub)) => (s.countEnded r).respond r 0x0B st sub []
  | (s, none) => s.landWrite r 0 (maskedData mask (s.bytes (g * 128) 128) r.data) 0x0B []

/-- An ATOM: read, changed and written as one (R414, R417). -/
def State.performAtom (s : State) (r : CohReq) (op n : Nat) (noReturn : Bool) (opa opb : Nat) : State :=
  let g := r.granule
  match s.checkRead g with
  | (s, some (st, sub)) => (s.countEnded r).respond r 0x0B st sub []
  | (s, none) =>
    let old := leNat (s.bytes r.addr n)
    let new := atomicResult op (8 * n) old opa opb
    s.landWrite r (r.addr - g * 128) (toLe n new) (if noReturn then 0x0B else 0x0C) (if noReturn then [] else toLe 8 old)

/-- Perform a request whose INVs have all been answered, and answer it (R414, R415). -/
def State.performReq (s : State) (r : CohReq) : State :=
  let s := if r.port < 50 then s.kvpTouch r.addr else s
  let s := { s.serving r.waiter with rack := { (s.serving r.waiter).rack with cls := r.cls } }
  let g := r.granule
  let entry := s.sfEntry g
  match r.kind with
  | .rd noCache => s.performRd r noCache
  | .rdOwn => s.performRdOwn r
  | .wr => (s.dropCopies g).landWrite r 0 (r.data.take 128) 0x0B []
  | .wrp mask => (s.dropCopies g).performWrp r mask
  | .atom aop w64 noReturn _ opa opb => (s.dropCopies g).performAtom r aop (if w64 then 8 else 4) noReturn opa opb
  | .wb =>
    if entry.any fun e => e.owned && some e.holders == r.index.map fun i => [i] then
      let s := ((s.access (g / 32) true).1.writeGranule g 0 (r.data.take 128)).1
      ((s.freeSf g).tellShadow g).respond r 0x0B St.done 0 []
    else (s.raise F.COH_EVENT_WB_REFUSED).respond r 0x0B St.badParam 0xC9 []
  | .cmdRead _ => if entry.any fun e => e.owned then (s.freeSf g).tellShadow g else s
  | .cmdWrite _ => (s.freeSf g).tellShadow g
  | .evict => ((s.freeSf g).tellShadow g).count F.COH_SF_BACKINV
  | .backInv _ =>
    match entry with
    | none => s
    | some e =>
      let left := if e.coarse then [] else e.holders.filter fun i => some i != r.index
      if e.coarse && !e.owned then s
      else if left.isEmpty then (s.freeSf g).tellShadow g
      else (s.setSf g { e with holders := left }).tellShadow g

/-- Write the value a recall brought, as the owner's copy at the home (R414). It is no access of an agent of its own (R191). -/
def State.writeRecalled (s : State) (g : Nat) (data : List Byte) : State :=
  (((s.serving (2 ^ 45)).accessAs (g / 32) true false).1.writeGranule g 0 (data.take 128)).1

/-- INVs outstanding for a granule. -/
def State.invsOf (s : State) (g : Nat) : List Inv := s.coh.invs.filter fun i => i.granule = g

/-- A transaction whose INVs are all answered performs its request; it ends then (R413). A crossing leaves an INV open
after the request is answered (R418). -/
def State.advanceTxn (s : State) (g : Nat) : State :=
  match s.coh.txns.find? fun t => t.req.granule = g with
  | none => s
  | some t =>
    let open' := s.invsOf g
    let writes := match t.req.kind with
      | .wr | .wrp _ | .atom .. | .wb => true
      | _ => false
    let s := if t.answered || (open'.any fun i => !i.crossed) then s
      else if writes && !s.journalRoom [g] then s.waitJournal none g
      else if writes && s.bufferFull (g / 32) then s
      else
        let txns := mapIf (fun (u : CohTxn) => u.req.granule = g) (fun u => { u with answered := true }) s.coh.txns
        let s := ({ s with coh := { s.coh with txns := txns } }).endJournalWait none g
        s.performReq t.req
    if (s.invsOf g).isEmpty && (s.coh.txns.any fun u => u.req.granule = g && u.answered) then
      { s with coh := { s.coh with txns := s.coh.txns.filter fun u => u.req.granule != g } }
    else s

/-- The victim of a full set (R412): the least recently allocated way that is not BUSY. -/
def State.sfVictim (s : State) (g : Nat) : Option Nat :=
  ((s.sfWays g).filter fun c => !s.busy c.1).foldl (fun (b : Option (Nat × Nat)) c =>
    if b.all fun x => c.2.order < x.2 then some (c.1, c.2.order) else b) none |>.map (·.1)

/-- Send the INVs of a request and keep it as the granule's transaction; with none it is performed at once. -/
def State.launchTxn (s : State) (r : CohReq) : State :=
  let targets := match s.sfEntry r.granule with
    | some e => cohTargets e r
    | none => []
  let back := match r.kind with
    | .evict | .backInv _ => true
    | _ => false
  let s := { s with coh := { s.coh with txns := s.coh.txns ++ [({ req := r, answered := false } : CohTxn)] } }
  (targets.foldl (fun s x => s.sendInv r.granule x.1 x.2 back) s).advanceTxn r.granule

/-- A request needs a filter entry of its own (R412). -/
def CohReq.allocates (r : CohReq) : Bool :=
  match r.kind with
  | .rd false => r.index.isSome
  | .rdOwn => true
  | _ => false

/-- A request of an endpoint or of another rack to the bytes of a page, which R401 keeps in the order its requester sent it. -/
def CohReq.ordered (r : CohReq) : Bool :=
  match r.kind with
  | .rd _ | .rdOwn | .wr | .wrp _ | .atom .. => true
  | _ => false

/-- A request of the same requester and CLASS to the same page came before and has not been applied (R401). -/
def State.pageBefore (s : State) (r : CohReq) : Bool :=
  let older (q : CohReq) : Bool :=
    q.ordered && q.src = r.src && q.cls = r.cls && q.granule / 32 = r.granule / 32 && decide (q.id < r.id)
  r.ordered && (s.coh.queue.any older || s.coh.txns.any fun t => !t.answered && older t.req)

/-- Begin the transaction of a request that stands at the head of its granule's queue (R413): a granule a DEAD endpoint
owns is reclaimed first (R422); an owner still in its hold time keeps the request waiting (R419), an earlier request to its page (R401), a core's hold a write (R231); a full set evicts a
victim first (R412). None: it cannot begin yet. -/
def State.beginTxn (s : State) (r : CohReq) : State × Bool :=
  let g := r.granule
  if s.busy g || s.pageBefore r || s.checking g || (r.changes && s.coreHolds none g) then (s, false)
  else
    let s := match s.sfEntry g with
      | some e =>
        if e.owned && (e.holders.any fun i => (s.agent i).state == AgentState.dead) && !(cohTargets e r).isEmpty then s.reclaimOwned g
        else s
      | none => s
    match s.sfEntry g with
    | some e => if e.hold && !(cohTargets e r).isEmpty then (s, false) else (s.launchTxn r, true)
    | none =>
      if r.allocates && (s.sfWays g).length ≥ 16 then
        match s.sfVictim g with
        | none => (s, false)
        | some v =>
          let ev : CohReq :=
            { r with id := s.coh.nextReq, kind := .evict, granule := v, addr := v * 128, port := 50, data := [] }
          let s := { s with coh := { s.coh with nextReq := s.coh.nextReq + 1 } }
          let held := (s.sfEntry v).any fun (e : SfEntry) => e.hold
          if held then (s, false)
          else
            let s := s.launchTxn ev
            if (s.sfWays g).length ≥ 16 then (s, false) else (s.launchTxn r, true)
      else (s.launchTxn r, true)

/-- Combining is active (R403). -/
def State.combining (s : State) : Bool :=
  let mode := s.fld F.HXL_COMBINE_MODE
  mode = 2 || (mode = 1 && (s.fld F.PST_STATUS_PLAIN = 1 || decide (s.frame < s.rack.kickUntil)))

/-- A request joins one that is queued and not issued (R404): the same kind of RD or ADD for the same granule or element,
CLASS and context, with no other write between; at most 64 join one issue. -/
def State.joins (s : State) (r : CohReq) : Bool :=
  let same (q : CohReq) : Bool := q.granule = r.granule && q.cls = r.cls && q.ctx = r.ctx &&
    match q.kind, r.kind with
    | .rd _, .rd _ => true
    | .atom 0 w sc .. , .atom 0 w' sc' .. => q.addr = r.addr && w = w' && sc = sc'
    | _, _ => false
  let writes (q : CohReq) : Bool := match q.kind with
    | .rd _ | .rdOwn | .cmdRead _ | .evict | .backInv _ => false
    | _ => true
  let mine := (s.coh.queue.filter fun q => q.granule = r.granule).reverse
  let run := mine.takeWhile fun q => same q || !writes q
  let n := (run.filter same).length
  s.combining && decide (0 < n) && decide (n < 64)

/-- A request arrives at the home (R413): it begins at once when nothing of its granule stands before it, else it queues. -/
def State.submitReq (s : State) (r : CohReq) : State :=
  let r := { r with id := s.coh.nextReq }
  let s := { s with coh := { s.coh with nextReq := s.coh.nextReq + 1 } }
  if s.busy r.granule || (s.coh.queue.any fun q => q.granule = r.granule) then
    let s := if s.joins r then s.count F.HXL_COMBINED else s
    { s with coh := { s.coh with queue := s.coh.queue ++ [r] } }
  else match s.beginTxn r with
    | (s, true) => s
    | (s, false) => { s with coh := { s.coh with queue := s.coh.queue ++ [r] } }

/-! ### Bytes homed at other members (R28, R34, R85) -/

/-- How many rows, and how many vectors to be ranked, of those a command names to their homes begin in a run of granules. -/
def State.rowsIn (s : State) (id first last : Nat) : Nat × Nat :=
  let within (l : List Nat) : Nat := l.countP fun a => decide (first ≤ a / 128) && decide (a / 128 ≤ last)
  match s.entry? id with
  | none => (0, 0)
  | some e => (within e.rowAt, within e.rankAt)

/-- The item that reads a run of granules homed elsewhere at their home: the bytes asked for, where they stand, whose command's rows
they are, how many rows and vectors to be ranked begin among them. -/
def State.readItem (s : State) (id first last : Nat) (rows : Nat × Nat) : Away :=
  { owner := some id, home := s.homeUnder (s.epochOf (some id)) (first * 128), epoch := s.epochOf (some id), kind := 0,
    addr := first * 128
    data := toLe 2 (128 * (last + 1 - first)) ++ toLe 7 (first * 128) ++
      toLe 1 (((s.entry? id).map fun e => pkOpcode e.packet).getD 0) ++ toLe 4 rows.1 ++ toLe 4 rows.2 }

/-- The item that reads the second copy of such a run (R85, R277): at the holder of the mirror, or in the next slot's window. -/
def State.secondItem (s : State) (id first last : Nat) : Option Away :=
  let a := first * 128
  let x := s.readItem id first last (0, 0)
  let mirror : Option Away := if !s.mirrored (first / 32) then none
    else (s.partnerOf (s.homeSlot a)).map fun m => { x with home := m, role := true, slot := s.homeSlot a, kind := 7 }
  let slot := s.homeSlot a
  match (s.entry? id).filter fun e => pkTwin e.packet with
  | none => none
  | some e => match e.second with
    | .none => none
    | .mirror => mirror
    | .rowMirror => if s.rowsIn id first last = (0, 0) then none else mirror
    | .nextWindow =>
      let next := (slot + 1) % s.width
      if !isLocal a || next = slot then none
      else some { x with home := s.serverOf next, addr := a % 2 ^ 42 + 0xFF000000000000 + next * 2 ^ 42 }

/-- Ask for granules of one page homed elsewhere, unless they are asked for already; with TWIN = 1 for their second copy too. -/
def State.fetchRun (s : State) (id first last : Nat) : State :=
  if s.rack.away.cells.any fun c => c.2.owner == some id && c.2.kind = 0 && c.2.addr = first * 128 then s
  else
    let n := s.rack.nextItem
    let gs := (List.range (last + 1 - first)).map (first + ·)
    let s := { s with rack := { s.rack with fetchFail := gs.foldl (fun (t : Tab (Nat × Nat)) g => t.erase g) s.rack.fetchFail } }
    let s := s.sendItem (s.readItem id first last (s.rowsIn id first last)) 0
    match s.secondItem id first last, (s.entry? id).bind fun e => e.items.find? fun i => i.id = n with
    | some x, some i => s.twinItem id i x
    | _, _ => s

/-- The runs of granules, one for each page, from the lowest granule needed to the highest. -/
def pageRuns (gs : List Nat) : List (Nat × Nat) :=
  (gs.foldl (fun l g => addNew l (g / 32)) []).map fun pg =>
    let mine := gs.filter fun g => g / 32 = pg
    (mine.foldl min (mine.headD 0), mine.foldl max 0)

/-- Of granules homed here, the second copies are read too, for a command with TWIN = 1; the home copy has answered first, so
that they are cancelled (R85, R86). -/
def State.twinHere (s : State) (id : Nat) (gs : List Nat) : State :=
  let new := gs.filter fun g => s.isHome (g * 128) && !s.rack.fetched.contains (id, g)
  (pageRuns new).foldl (fun (s : State) r =>
    match s.secondItem id r.1 r.2 with
    | none => s
    | some x =>
      let n := s.rack.nextItem
      let mine := (List.range (r.2 + 1 - r.1)).map fun i => (id, r.1 + i)
      let s := { s with rack := { s.rack with fetched := s.rack.fetched ++ mine } }
      let s := (s.sendItem x 0).emit (.work x.home n 1)
      s.modEntry id fun e => { e with
        items := mapIf (fun (i : Item) => i.id = n) (fun i => { i with cancelled := true }) e.items
        out := { e.out with twinned := true } }) s

/-- What a core's step has asked for is still wanted: the step stands in its core. -/
def State.stillAsked (s : State) (id : Nat) : Bool :=
  (waiterCore id).all fun c => (s.edge c).run.any fun r => r.stream.any fun x => coreWaiter c x.seq = id

/-- A home's answer to a read (R34): the bytes, or why there are none; of two copies as R86 and R87 say. -/
def State.fetchAnswered (s : State) (item : Nat) (x : Away) (st sub : Nat) (words : List Nat) : State :=
  let id := x.owner.getD 0
  let n := fieldAt x.data 0 2
  let at' := fieldAt x.data 2 7
  let gs := granulesOf at' n
  let good := st = St.done || st = St.donePartial
  let land (s : State) (f : Nat × Nat) : State :=
    let s := if f.1 = St.done || f.1 = St.donePartial then s.pokeBytes at' (((words.map (toLe 8)).flatten).take n)
      else { s with rack := { s.rack with
        fetchFail := gs.foldl (fun (t : Tab (Nat × Nat)) g => t.set g f) s.rack.fetchFail } }
    { s with rack := { s.rack with fetched := s.rack.fetched ++ gs.map fun g => (id, g) } }
  match s.entry? id with
  | none => (if s.stillAsked id then land s (st, sub) else s).dropAway item
  | some e =>
    match e.items.find? fun i => i.id = item with
    | none => s.dropAway item
    | some i =>
      let v := e.verdict i st sub
      let s := if good && v.isSome && e.stop.isNone then
          (e.items.filter fun j => i.other = some j.id).foldl (fun (s : State) j => s.emit (.work j.home j.id 1)) s
        else s
      let e1 := e.answered i st sub
      let e1 := if v.isSome && !i.transfer && !e.served.contains i.home then
          { e1 with served := e.served ++ [i.home], out := { e.out with homes := e.out.homes + 1 } } else e1
      let s := s.setEntry id (if e1.items.isEmpty && e.stop.isSome then e1.endStopped else e1)
      (match v with
        | some f => if e.stop.isSome then s else land s f
        | none => s).dropAway item

/-- Start what a command's accesses need before it may make them: the recalls and invalidations of granules homed here (R414), the
reads of granules homed elsewhere (R34). A durable write also needs room in the journal (R213), a write to a COPY page in flash a
frame of the write buffer (R194), and each waits while a core holds its granule (R231) or a promoted copy is to be checked (R507); a stream step of a core accesses under a number of its own. True: the access waits. -/
def State.prepare (s : State) (id : Nat) (reads writes : List Nat) : State × Bool :=
  let s := s.serving id
  let far := reads.filter fun g => !s.isHome (g * 128) && !s.rack.fetched.contains (id, g)
  let near := reads.filter fun g => s.isHome (g * 128)
  let nearW := writes.filter fun g => s.isHome (g * 128)
  let s := (pageRuns far).foldl (fun (s : State) r => s.fetchRun id r.1 r.2) s
  let need := s.heldGranules false near ++ s.heldGranules true nearW
  if nearW.any (s.coreHolds (waiterCore id)) || (near ++ nearW).any s.checking then (s, true)
  else if need.isEmpty then
    if !far.isEmpty || nearW.any fun g => s.bufferFull (g / 32) then (s, true)
    else if s.journalRoom nearW then ((s.endJournalWait (some id) 0).twinHere id near, false)
    else (s.waitJournal (some id) (nearW.headD 0), true)
  else
    let start (s : State) (w : Bool) (g : Nat) : State :=
      if s.busy g || (s.coh.queue.any fun q => q.granule = g) then s
      else
        let r : CohReq :=
          { id := 0, kind := if w then .cmdWrite id else .cmdRead id, granule := g, addr := g * 128, src := s.sys.member,
            index := none, port := 50, tag := 0, cls := 0, ctx := 0, data := [] }
        s.submitReq r
    let s := (s.heldGranules false near).foldl (fun s g => start s false g) s
    let s := (s.heldGranules true nearW).foldl (fun s g => start s true g) s
    (s, !(far.isEmpty && (s.heldGranules false near ++ s.heldGranules true nearW).isEmpty))

end Sys2Proof.Machine
end

