-- ==== Sys2Proof/Machine/TierOps.lean ====
section
/-!
DEFINITION. Tier operations the commands share (spec/05_store_tiers.md): moves between tiers, placement, retraining.
-/
namespace Sys2Proof.Machine

open Sys2Proof

/-! ### Moving pages (R186, R187, R195, R197) -/

/-- Take a page's pool frame away without writing it back. -/
def State.dropFrame (s : State) (pg : Nat) (t : Tier) : State :=
  if ((s.page pg).frame t).isNone then s
  else
    let s := (s.setPage pg ((s.page pg).setFrame t none)).charge pg t false
    s.setPool (s.poolKey t pg) ((s.pool (s.poolKey t pg)).filter (· != pg))

/-- Pin a page's pool frame, if it has one and R195 allows; true when the page is pinned. -/
def State.pinPage (s : State) (pg : Nat) : State × Bool :=
  let t := s.standsIn pg
  match (s.page pg).frame t with
  | none => (s, false)
  | some f =>
    if f.pin then (s, true)
    else if s.mayPin t then (s.setPage pg ((s.page pg).setFrame t (some { f with pin := true })), true)
    else (s, false)

/-- Raise a page to a tier (R186, R187): a MOVE page moves with its dirty bit, a COPY page gains a copy. False: the
channel is short. A page already at or above the tier stays. -/
def State.raisePage (s : State) (pg : Nat) (t : Tier) : State × Bool :=
  let here := s.standsIn pg
  if here.atLeast t then (s, true)
  else
    let sl := s.slab (pg * 4096)
    let old := (s.page pg).frame here
    let f : FrameRec := { dirty := !sl.copyMode && old.any (·.dirty), count := (old.map (·.count)).getD 0,
                          age := (old.map (·.age)).getD 0, pin := false }
    match s.takeFrame t pg f with
    | (s, false) => (s, false)
    | (s, true) =>
      let s := if sl.copyMode then s else s.dropFrame pg here
      if sl.pin then ((s.pinPage pg).1, true) else (s, true)

/-- Send a page home from every pool tier (R186, R187, R205). -/
def State.lowerPage (s : State) (pg : Nat) : State := (s.leavePool pg .hbm).leavePool pg .ddr

/-- A page's write buffer contents and journal entries are programmed to flash (R189, R213). -/
def State.programPage (s : State) (pg : Nat) : State :=
  let p := s.page pg
  let s := s.programmed pg
  let clean (f : FrameRec) : FrameRec := { f with dirty := false }
  let s := s.setPage pg { s.page pg with hbm := p.hbm.map clean, ddr := p.ddr.map clean }
  s.setFld F.TIER_JOURNAL_USED_KIB (s.journalUsed / 1024)

/-! ### Placement records (R183 to R185, R199 to R204) -/

def tpRsa (p : Packet) : Nat := pkField p 8 7
def tpCount (p : Packet) : Nat := pkField p 16 4
def tpHome (p : Packet) : Nat := bf p 161 160
def tpMode (p : Packet) : Bool := bit p 162
def tpCeiling (p : Packet) : Nat := bf p 164 163
def tpPin (p : Packet) : Bool := bit p 165
def tpDurable (p : Packet) : Bool := bit p 166
def tpRaisePin (p : Packet) : Bool := bit p 168
def tpUnpin (p : Packet) : Bool := bit p 169

/-- The slab numbers of PLACE and SEAL. -/
def tpSlabs (p : Packet) : List Nat := (List.range (tpCount p)).map fun i => tpRsa p / 2 ^ 30 + i
/-- The pages of RAISE, LOWER and RESIDENCY. -/
def tpPages (p : Packet) : List Nat := (List.range (tpCount p)).map fun i => tpRsa p / 4096 + i

/-- A placement record is valid (R184). -/
def Slab.valid (x : Slab) : Bool :=
  x.home.within x.ceiling && (!x.copyMode || x.home != .hbm) && (!x.durable || (!x.copyMode && x.home == .flash))

/-- The record PLACE asks for, when its fields name tiers. -/
def tpRecord (p : Packet) : Option Slab :=
  match Tier.ofCode (tpHome p), Tier.ofCode (tpCeiling p) with
  | some h, some c => some { home := h, copyMode := tpMode p, ceiling := c, pin := tpPin p, durable := tpDurable p }
  | _, _ => none

/-- Parameter check 9 of opcodes 0x30 to 0x34 (R201). -/
def State.tierParams (s : State) (p : Packet) : Option Nat :=
  let op := pkOpcode p
  let slabOp := op = 0x30 || op = 0x31
  if pkPblk p then some 0x40
  else if slabOp && (tpRsa p % 2 ^ 30 != 0 || tpCount p = 0 || tpCount p > 16384) then some 0x41
  else if !slabOp && (tpCount p = 0 || tpCount p > 4194304) then some 0x41
  else if op = 0x30 && !((tpRecord p).any Slab.valid) then some 0x42
  else if op = 0x32 && tpHome p > 1 then some 0x42
  else if op = 0x32 && (slabStarts (tpRsa p / 4096 * 4096) (4096 * tpCount p)).any (fun a =>
      decide (tpHome p < (s.slab a).ceiling.code)) then some 0x43
  else if op = 0x31 && (tpSlabs p).any (fun n =>
      let x := s.store.slabs.getD n {}
      !x.copyMode || x.sealed) then some 0x44
  else if op = 0x30 && tpHome p = 2 && s.fld F.TIER_POP_FLASH_GIB_PER_CH = 0 then some 0x45
  else none

/-- The range that check 10 translates (R199). -/
def tierRanges (p : Packet) : List (List Access × Nat × Nat) :=
  match pkOpcode p with
  | 0x30 | 0x31 => [([.write], tpRsa p, tpCount p * 2 ^ 30)]
  | _ => [([.read], tpRsa p / 4096 * 4096, tpCount p * 4096)]

/-- The pages of a slab that this member homes (R181). -/
def State.homedPages (s : State) (slab : Nat) : List Nat :=
  ((List.range 262144).map (262144 * slab + ·)).filter fun pg => s.isHome (pg * 4096)

/-- Pages of a slab whose mirror a record gives to this member (R36, R188, R472, R473): those of the slots whose partner it is. -/
def State.mirrorPages (s : State) (slab : Nat) : List Nat :=
  ((List.range 262144).map (262144 * slab + ·)).filter fun pg => s.partnerOf (s.homeSlot (pg * 4096)) == some s.sys.member

/-- Parity pages of a slab at this member, P or Q of a stripe (R475). -/
def State.parityPages (s : State) (slab : Nat) (second : Bool) : List Nat :=
  ((List.range 262144).map (262144 * slab + ·)).foldl (fun (l : List Nat) pg =>
    let (k, _, p, q) := stripeOf s.width (s.homeSlot (pg * 4096)) (s.rank pg)
    if s.serverOf (if second then q else p) = s.sys.member then addNew l k else l) []

/-- A record's flash pages are protected by parity (R36, R473). -/
def State.parityRecord (s : State) (slab : Nat) (x : Slab) : Bool :=
  x.copyMode && x.home == .flash && s.width ≥ 10 && !isLocal (slab * 2 ^ 30)

/-- Frames of the HOME tier that a slab takes at this member (R36, R37, R185, R188): for the pages it homes, and for the mirror or the
parity pages it holds. -/
def State.framesOf (s : State) (slab : Nat) (x : Slab) : Nat :=
  (s.homedPages slab).length +
    if s.width < 2 then 0
    else if s.parityRecord slab x then (s.parityPages slab false).length + (s.parityPages slab true).length
    else ((s.mirrorPages slab).filter fun pg =>
      let k := (s.homeSlot (pg * 4096), slab)
      !s.store.mirrorDdr.contains k && !s.store.mirrorLacks.contains k).length

/-- Frames of the DDR5 pool that a slab of HOME HBM takes at this member for its mirror (R509). -/
def State.ddrMirrors (s : State) (slab : Nat) : Nat :=
  ((s.mirrorPages slab).filter fun pg => s.store.mirrorDdr.contains (s.homeSlot (pg * 4096), slab)).length

/-- Every member of the rack, this one first: a placement record and a grant reach all of them (R183, R522). -/
def State.everyMember (s : State) : List Nat :=
  s.sys.member :: (s.voting.filter fun m => m != s.sys.member)

/-! ### Frames reserved at every member before a command takes effect (R185, R203) -/

/-- Reserve frames of a tier for a member's command. -/
def State.reserveFrames (s : State) (origin : Nat) (p : Packet) (t : Tier) (n : Nat) : State :=
  { s with store := { s.store with
    free := s.store.free.set t.code (s.store.free.getD t.code 0 - n)
    reserved := s.store.reserved ++ [(origin, p, t.code, n)] } }

/-- The reservation ends: its frames are free to take. -/
def State.unreserve (s : State) (origin : Nat) (p : Packet) : State :=
  match s.store.reserved.find? fun x => x.1 = origin && x.2.1 = p with
  | none => s
  | some x => { s with store := { s.store with
      free := s.store.free.set x.2.2.1 (s.store.free.getD x.2.2.1 0 + x.2.2.2)
      reserved := s.store.reserved.erase x } }

/-- The first phase of a command that takes frames at every member: this member's are reserved, the others are asked for theirs.
Stage 1 ends when all have answered. -/
def State.reserveAll (s : State) (id : Nat) (e : Entry) (t : Tier) (n : Nat) : State :=
  let s := (s.reserveFrames s.sys.member e.packet t n).modEntry id fun e => { e with stage := 1 }
  (s.everyMember.filter fun m => m != s.sys.member).foldl (fun (s : State) m =>
    s.sendItem { owner := some id, home := m, epoch := e.epoch, role := true, slot := s.slotServed m, kind := 8,
                 data := bvBytes e.packet 0 64 } 0) s

/-- The reservations of a command are given up everywhere. -/
def State.releaseAll (s : State) (p : Packet) : State :=
  (s.everyMember.filter fun m => m != s.sys.member).foldl (fun (s : State) m =>
    s.sendItem { owner := none, home := m, epoch := s.rack.map.epoch, role := true, slot := s.slotServed m, kind := 10,
                 data := bvBytes p 0 64 } 0) (s.unreserve s.sys.member p)

/-- An earlier PLACE or SEAL on some of the slabs has not finished here (R203). -/
def State.placeWaits (s : State) (id : Nat) (e : Entry) : Bool :=
  s.cmdq.entries.cells.any fun c => c.1 != id && c.2.accepted && c.2.phase == .accepted && decide (c.2.acceptNo < e.acceptNo) &&
    (pkOpcode c.2.packet = 0x30 || pkOpcode c.2.packet = 0x31) &&
    (tpSlabs c.2.packet).any fun n => (tpSlabs e.packet).contains n

/-- Commands accepted before a SEAL that captured write or atomic access to a byte of the slabs (R204). -/
def State.sealWaits (s : State) (id : Nat) (slabs : List Nat) : List Nat :=
  (s.entriesWhere fun i e => i != id && e.accepted && e.captures.any fun k => k.access != 0 &&
    slabs.any fun n => decide (k.first < (n + 1) * 2 ^ 30) && decide (n * 2 ^ 30 < k.first + k.len)).map (·.1)

/-- Raw writes and atomics in flight to the slabs (R204). -/
def State.sealRaws (s : State) (slabs : List Nat) : Bool :=
  s.xlt.raws.any fun r => r.write && slabs.contains (r.addr / 2 ^ 30)

/-- SEAL is applied at this member (R204): the slabs are SEALED and the writers in flight are noted. -/
def State.beginSeal (s : State) (id : Nat) (p : Packet) : State :=
  let slabs := tpSlabs p
  let waits := s.sealWaits id slabs
  let s := slabs.foldl (fun s n => s.setSlab n { s.store.slabs.getD n {} with sealed := true }) s
  s.modEntry id fun e => { e with waitsFor := waits, begun := e.begun ||| 32 }

/-! ### Training (R206 to R209) -/

/-- Steps of a retraining, by kind: HBM3E, DDR5, ONFI (R208). -/
def retrainSteps : Nat → Nat
  | 0 => 8 | 1 => 12 | _ => 4

/-- Instances of a kind (R216). -/
def trainInstances : Nat → Nat
  | 0 => 64 | 1 => 16 | 2 => 32 | _ => 0

def State.training (s : State) (kind inst : Nat) : Training := s.store.training.getD (64 * kind + inst) {}
def State.setTraining (s : State) (kind inst : Nat) (x : Training) : State :=
  { s with store := { s.store with training := s.store.training.set (64 * kind + inst) x } }

/-- The drift of R207 has reached its bound: |T − T0| ÷ DRIFT_T + |V − V0| ÷ DRIFT_MV ≥ 1, T in units of 0.125 °C and
DRIFT_T in units of 0.5 °C. -/
def driftReached (t t0 v v0 dt dv : Nat) : Bool :=
  let gap (a b : Nat) := (a - b) + (b - a)
  decide (gap t t0 * dv + gap v v0 * (4 * dt) ≥ 4 * dt * dv)

/-- One step of a retraining, in a RETRAIN run (R208): the tag is taken at the last. -/
def State.retrainStep (s : State) (kind inst : Nat) : State :=
  let x := s.training kind inst
  if !x.pending then s
  else if x.stepsLeft > 1 then s.setTraining kind inst { x with stepsLeft := x.stepsLeft - 1 }
  else
    (s.setTraining kind inst
      { x with stepsLeft := 0, pending := false, t0 := x.tNow, v0 := x.vNow, count := satInc 16 x.count,
               lastFrame := s.frame }).raise F.TIER_EVENT_RETRAINED

/-- Make a retraining pending. -/
def State.retrain (s : State) (kind inst : Nat) : State :=
  let x := s.training kind inst
  if x.pending then s else s.setTraining kind inst { x with pending := true, stepsLeft := retrainSteps kind }

/-- A metadata checkpoint is programmed (R572): the delta begins anew. -/
def State.checkpoint (s : State) : State :=
  { s with store := { s.store with checkpointFrame := s.frame, deltaBytes := 0, sinceCheck := {} } }

/-- Every journal entry is written back to flash (R575, R213). -/
def State.writeBackAll (s : State) : State :=
  (s.store.journal.foldl (fun l j => addNew l (j.rsa / 4096)) []).foldl (fun (s : State) pg => s.programPage pg) s

/-! ### The power state (R551, R128) -/

/-- The power state changes (R551, R557). -/
def State.setPower (s : State) (p : Power) : State :=
  if s.sys.power = p then s
  else ({ s with sys := { s.sys with power := p } }.raise F.SEC_EVENT_PWR_CHANGED).tellSensors

/-- A doorbell, a CMD message, a work item or a raw request brings a member in REST back to RUN, with retraining pending on
every HBM3E and DDR5 instance (R551, R128). -/
def State.wake (s : State) : State :=
  if s.sys.power != .rest then s
  else
    let s := (List.range 64).foldl (fun (s : State) i => s.retrain 0 i) s
    ((List.range 16).foldl (fun (s : State) i => s.retrain 1 i) s).setPower .run

end Sys2Proof.Machine
end

