-- ==== Sys2Proof/Machine/Coh.lean ====
section
/-!
DEFINITION. The meanings of the coherence commands (spec/11_coherence_and_memory_model.md) and of the raw requests that
start them (R388, R394, R151, R510).
-/
namespace Sys2Proof.Machine

open Sys2Proof

/-! ### Raw requests -/

/-- The request header of R388. -/
def hdClass (m : List Byte) : Nat := nbf (fieldAt m 1 1) 3 0
def hdNode (m : List Byte) : Bool := (fieldAt m 1 1).testBit 4
def hdNoCache (m : List Byte) : Bool := (fieldAt m 1 1).testBit 5
def hdTag (m : List Byte) : Nat := fieldAt m 2 2
def hdSrc (m : List Byte) : Nat := nbf (fieldAt m 4 2) 14 0
def hdEpoch (m : List Byte) : Nat := fieldAt m 6 2
def hdAddr (m : List Byte) : Nat := fieldAt m 8 7

/-- The kinds of raw request. -/
inductive RawKind where
  | rd | rdOwn | wr | wrp | atom | wb
  deriving DecidableEq, Repr

/-- The access a raw request needs (R151). -/
def RawKind.accesses : RawKind → List Access
  | .rd => [.read] | .rdOwn => [.read, .write] | .wr | .wrp => [.write] | .atom => [.atomic] | .wb => []

/-- Fields of an ATOM (R390). -/
def atAop (m : List Byte) : Nat := nbf (fieldAt m 16 1) 3 0
def atScope (m : List Byte) : Nat := nbf (fieldAt m 17 1) 2 0
def atW64 (m : List Byte) : Bool := (fieldAt m 17 1).testBit 3
def atNoReturn (m : List Byte) : Bool := (fieldAt m 17 1).testBit 4

/-- Check 4 of R394. -/
def rawAligned (k : RawKind) (m : List Byte) : Bool :=
  match k with
  | .atom => hdAddr m % (if atW64 m then 8 else 4) = 0
  | _ => hdAddr m % 128 = 0

/-- Check 5 of R394: operation, width, scope and reserved bits; ADDR[55] of the node/offset form is 0 (R396). -/
def rawFieldsOk (k : RawKind) (m : List Byte) : Bool :=
  nbf (fieldAt m 1 1) 7 6 = 0 && !(fieldAt m 4 2).testBit 15 && fieldAt m 15 1 / 4 = 0 && !(hdNode m && (hdAddr m).testBit 55) &&
  match k with
  | .atom =>
    atAop m ≤ 10 && !(atAop m = 1 && atW64 m) && atScope m ≤ 4 && (atScope m != 4 || hdNode m) &&
    nbf (fieldAt m 16 1) 7 4 = 0 && nbf (fieldAt m 17 1) 7 5 = 0 && fieldAt m 18 6 = 0
  | _ => true

/-- Where an address leads (R395, R396): an RSA of this rack, a compute endpoint, or another rack. -/
inductive Target where
  | rsa (a : Nat) | endpoint (index : Nat) | rack (r : Nat)
  deriving DecidableEq, Repr

def State.targetOf (s : State) (node : Bool) (addr : Nat) : Target :=
  if !node then .rsa addr
  else
    let n := nbf addr 54 40
    let rack := n / 512
    let l := n % 512
    if rack != s.fld F.HXL_ID_RACK then .rack rack
    else if l < 64 then .rsa (0xFF000000000000 + l * 2 ^ 42 + addr % 2 ^ 40)
    else .endpoint l

/-- A route exists toward a target (check 6 of R394). -/
def State.routeExists (s : State) : Target → Bool
  | .rsa a => s.isHome a || (s.route (s.homeOf a)).ports != 0
  | .endpoint i => s.attached i
  | .rack r => s.hxl.rackRoutes.getD r 0 != 0

/-- The endpoint index of a requester on an endpoint port (R411); a trunk's requesters have none (R409). -/
def requesterIndex (kind src : Nat) (node : Bool) : Option Nat :=
  if kind = 2 then none else if node then some (src % 512) else if src ≥ 0x200 then some (src - 0x200) else none

/-- The request as the home serves it. -/
def rawReq (k : RawKind) (m : List Byte) (addr port : Nat) (index : Option Nat) (ctx : Nat) : CohReq :=
  { id := 0
    kind := match k with
      | .rd => .rd (hdNoCache m || index.isNone)
      | .rdOwn => .rdOwn
      | .wr => .wr
      | .wrp => .wrp (fieldAt m 16 16)
      | .atom => .atom (atAop m) (atW64 m) (atNoReturn m) (atScope m) (fieldAt m 24 8) (fieldAt m 32 8)
      | .wb => .wb
    granule := addr / 128, addr := addr, src := hdSrc m, index := index, port := port, tag := hdTag m, cls := hdClass m,
    ctx := ctx, data := if k = .wrp then sub m 32 128 else sub m 16 128 }

/-- Count a raw write or atomic toward a destination (SENT of R460). -/
def State.countSent (s : State) (k : RawKind) (src dst : Nat) : State :=
  match k with
  | .wr | .wrp | .atom =>
    let i := 128 * src + dst
    { s with gate := { s.gate with sent := s.gate.sent.set i ((s.gate.sent.getD i 0 + 1) % 2 ^ 32) } }
  | _ => s

/-- Route a request whose address is an RSA: served here, or sent to its home with this member's epoch (R388). -/
def State.routeRaw (s : State) (k : RawKind) (m : List Byte) (r : CohReq) : State :=
  let home := s.homeOf r.addr
  let s := if r.port < 16 then s.countSent k (128 + r.port) home else s
  if home = s.sys.member then
    -- R418: a write-back that meets the home's own INV to its sender is that INV's answer
    match s.coh.invs.find? fun i => i.granule = r.granule && some i.index = r.index && !i.crossed with
    | some i =>
      if k = .wb then
        let s := s.writeRecalled r.granule r.data
        let s := (s.count F.COH_WB_CROSS).respond r 0x0B St.done 0 []
        let invs := if i.ackedFirst then s.coh.invs.filter fun j => !(j.granule = i.granule && j.index = i.index)
          else mapIf (fun (j : Inv) => j.granule = i.granule && j.index = i.index) (fun j => { j with crossed := true }) s.coh.invs
        { s with coh := { s.coh with invs := invs } }.advanceTxn r.granule
      else s.submitReq r
    | none => s.submitReq r
  else
    let msg := m.take 6 ++ toLe 2 (s.rack.map.epoch % 65536) ++ m.drop 8
    if (s.route home).draining && hdClass m != 15 then s.waitRoute home msg true
    else
      let s := { s with hxl := { s.hxl with owed := s.hxl.owed.set home (s.hxl.owed.getD home 0 + 1) } }
      s.sendMember home s.sys.member (r.addr / 4096) msg

/-- Refuse a raw request with a completion (R394). -/
def State.refuseRaw (s : State) (p : Nat) (m : List Byte) (st sub : Nat) : State :=
  s.sendPort p (respMsg 0x0B (hdClass m) (hdTag m) (hdSrc m) st sub (hdAddr m) s.sys.member [])

/-- Translate a raw request in the port's context (R151): the segments used, or the failure. -/
def State.translateRaw (s : State) (p : Nat) (addr n : Nat) (accs : List Access) : Except (Nat × Nat) Nat :=
  if accs.isEmpty then .ok 0
  else
    let w := s.regAt 0 (0x300100 + 4 * p)
    let c := bf w 11 0
    let x := s.ctx c
    if !bit w 31 || !x.valid || x.boundSrc != 128 + p then .error (St.xltDenied, 0x01)
    else match s.translate c x.comp accs addr n with
      | .error (st, sub, _) => .error (st, sub)
      | .ok cap => .ok cap.segs

/-- A raw request arrives from an endpoint or a trunk: the checks of R394, the agent's state (R421), translation (R151),
then its route. -/
def State.recvEndpoint (s : State) (k : RawKind) (p : Nat) (m : List Byte) : State :=
  let x := s.port p
  let bad (sub : Nat) : State := (s.refuseRaw p m St.badParam sub).msgBad p
  let index := requesterIndex x.act.kind (hdSrc m) (hdNode m)
  let ctx := bf (s.regAt 0 (0x300100 + 4 * p)) 11 0
  if s.fenced then s.refuseRaw p m St.fenced 0xB4
  else if s.sys.bracing then s.refuseRaw p m St.fenced 0xF1
  else if x.act.kind = 1 && hdSrc m != x.partnerId then bad 0xC5
  else if hdNode m != x.act.nodeForm then bad 0xC0
  else if !rawAligned k m then bad 0xC1
  else if !rawFieldsOk k m then bad 0xC2
  else
    let t := s.targetOf (hdNode m) (hdAddr m)
    if !s.routeExists t then bad 0xC4
    else if index.any fun i => (s.agent i).state != .live then
      let s := s.refuseRaw p m St.fenced 0xC8
      if k = .wb then s.raise F.COH_EVENT_WB_REFUSED else s
    else match t with
    | .endpoint i => s.sendEndpoint i (hdAddr m / 4096) m
    | .rack r =>
      let s := s.countSent k (128 + p) (64 + r)
      match s.pickPort (s.hxl.rackRoutes.getD r 0) (hdSrc m) r (hdAddr m / 4096) with
      | some q => s.sendPort q (m.take 6 ++ toLe 2 0 ++ m.drop 8) (0x8000 + r)
      | none => s.waitRoute (0x8000 + r) m false
    | .rsa a =>
      if x.act.kind = 2 && k = .rdOwn then s.refuseRaw p m St.badParam 0xC9
      else
        let n := match k with
          | .atom => if atW64 m then 8 else 4
          | _ => 128
        match s.translateRaw p a n k.accesses with
        | .error (st, sub) => s.refuseRaw p m st sub
        | .ok segs =>
          let raw : RawTxn :=
            { port := p, tag := hdTag m, ctx := ctx, segs := segs, segGen := (s.ctx ctx).segGen, addr := a,
              write := k.accesses != [.read], msg := m }
          let s := { s with xlt := { s.xlt with raws := s.xlt.raws ++ [raw] } }
          let s := s.setPort p { x with raws := x.raws + 1 }
          s.routeRaw k m (rawReq k m a p index ctx)

/-- How far a message's epoch lies behind this member's (R496): 0 current, 1 to 32,767 old, else newer. -/
def State.epochAge (s : State) (e : Nat) : Nat := (s.rack.map.epoch % 65536 + 65536 - e % 65536) % 65536

/-- A raw request arrives from another member: judged by its epoch (R510), then served or passed on. -/
def State.recvMember (s : State) (k : RawKind) (p : Nat) (m : List Byte) : State :=
  let partner := (s.port p).partnerId
  let d := s.epochAge (hdEpoch m)
  let a := match s.targetOf (hdNode m) (hdAddr m) with
    | .rsa a => a
    | _ => hdAddr m
  let src := hdSrc m
  let r := rawReq k m a (100 + partner) (requesterIndex (if src < 0x40 then 2 else 1) src (hdNode m)) 0
  if s.memberState partner == .fenced then s
  else if s.fenced then s.respond r 0x0B St.fenced 0xB4 []
  else if s.sys.bracing then s.respond r 0x0B St.fenced 0xF1 []
  else if d = 0 then s.routeRaw k m r
  else if d < 32768 then
    if s.isHome a then s.routeRaw k m r
    else if s.frame - s.rack.changeFrame ≤ 64 then s.routeRaw k m r
    else s.respond r 0x0B St.remap 0xB0 []
  else
    { s with rack := { s.rack with held := s.rack.held ++
      [({ origin := partner, id := 2 ^ 40 + hdTag m, epoch := hdEpoch m, forwarded := false, role := false, slot := 0, kind := 100,
          addr := a, data := m, cls := hdClass m }, s.frame)] } }

/-- A raw request on a port, by what the port leads to (R387). Ports that carry no traffic deliver nothing. A message the
receiver's link layer delivered is taken from the inbox; outside the control class it waits there while alignment is lost
(R30, R132). A member in REST wakes (R551), one in brace refuses it (R569). -/
def State.recvRaw (s : State) (k : RawKind) (p : Nat) (m : List Byte) : State :=
  if !s.aligned && hdClass m != 15 then s else
  let s := s.wake
  let s := { s with hxl := { s.hxl with inbox := s.hxl.inbox.erase (p, m) } }
  let x := s.port p
  if x.state != .active && x.state != .retrain then s
  else if x.act.kind = 0 then s.recvMember k p m
  else s.recvEndpoint k p m

def execRd (port : Nat) (msg : List Byte) (s : State) : Res := .next (s.recvRaw .rd port msg)
def execRdOwn (port : Nat) (msg : List Byte) (s : State) : Res := .next (s.recvRaw .rdOwn port msg)
def execWr (port : Nat) (msg : List Byte) (s : State) : Res := .next (s.recvRaw .wr port msg)
def execWrp (port : Nat) (msg : List Byte) (s : State) : Res := .next (s.recvRaw .wrp port msg)
def execAtom (port : Nat) (msg : List Byte) (s : State) : Res := .next (s.recvRaw .atom port msg)

/-! ### INV and its answers -/

/-- An INV reaches the endpoint it names (R416): on its way through this member it is handed to the endpoint's port. -/
def execInv (port : Nat) (msg : List Byte) (s : State) : Res :=
  let s := { s with hxl := { s.hxl with inbox := s.hxl.inbox.erase (port, msg) } }
  let i := s.indexOfId (hdEpoch msg % 2 ^ 15)
  .next (s.sendEndpoint i (hdTag msg) (msg.take 6 ++ toLe 2 (s.endpointId i) ++ msg.drop 8))

/-- The endpoint a response came from: the trained partner of an endpoint port. -/
def State.senderIndex (s : State) (p : Nat) : Option Nat :=
  let x := s.port p
  requesterIndex x.act.kind x.partnerId x.act.nodeForm

/-- Close an INV with an answer: `data` is the dirty granule of INV_DATA (R416, R418). An answer that matches no INV is
discarded and counted. -/
def State.answerInv (s : State) (p g : Nat) (index : Option Nat) (notHeld : Bool) (data : Option (List Byte)) : State :=
  match s.coh.invs.find? fun i => i.granule = g && some i.index = index with
  | none => s.msgBad p
  | some i =>
    let drop (s : State) : State :=
      { s with coh := { s.coh with invs := s.coh.invs.filter fun j => !(j.granule = g && j.index = i.index) } }
    let s := match data with
      | some d => if i.crossed then s else s.writeRecalled g d
      | none => s
    if i.crossed then (drop s).advanceTxn g
    else if notHeld && i.recalls && data.isNone then
      let invs := mapIf (fun (j : Inv) => j.granule = g && j.index = i.index) (fun j => { j with ackedFirst := true }) s.coh.invs
      { s with coh := { s.coh with invs := invs } }
    else (drop s).advanceTxn g

/-- An INV_ACK or INV_DATA at the home it answers; on its way through it is passed on (R389: DST is the home). -/
def State.recvInvAnswer (s : State) (p : Nat) (m : List Byte) (data : Option (List Byte)) : State :=
  let s := { s with hxl := { s.hxl with inbox := s.hxl.inbox.erase (p, m) } }
  let dst := hdSrc m
  if dst != s.sys.member && dst < 64 then s.sendMember dst s.sys.member (hdTag m) m
  else
    let x := s.port p
    -- the TAG of an INV is the index it goes to
    let index := if x.act.kind = 0 then some (hdTag m) else s.senderIndex p
    s.answerInv p (hdAddr m / 128) index ((fieldAt m 15 1).testBit 0) data

/-! ### Completions -/

/-- A completion reaches its requester (R389): an endpoint attached here, or it is passed toward its member. The raw
transaction it ends is no longer in flight. -/
def State.recvCpl (s : State) (p : Nat) (m : List Byte) : State :=
  let s := { s with hxl := { s.hxl with inbox := s.hxl.inbox.erase (p, m) } }
  let dst := hdSrc m
  let from' := (s.port p).partnerId
  let s := { s with hxl := { s.hxl with owed := s.hxl.owed.modify from' fun n => n - 1 } }
  if dst < 64 then s.sendMember dst s.sys.member (hdTag m) m
  else
    let i := s.indexOfId dst
    let r := s.epRoute i
    let q := if r.valid1 && r.member1 = s.sys.member then r.port1 else r.port2
    let x := s.port q
    let s := { s with xlt := { s.xlt with raws := s.xlt.raws.filter fun w => !(w.port = q && w.tag = hdTag m) } }
    (s.setPort q { x with raws := x.raws - 1 }).sendEndpoint i (hdTag m) m

def execCpl (port : Nat) (msg : List Byte) (s : State) : Res := .next (s.recvCpl port msg)
def execCplNd (port : Nat) (msg : List Byte) (s : State) : Res := .next (s.recvCpl port msg)
def execCplVal (port : Nat) (msg : List Byte) (s : State) : Res := .next (s.recvCpl port msg)

/-! ### Transactions, holds, agents -/

/-- The hold time of an OWNED grant has passed (R419). -/
def execCohHoldExpiry (granule : Nat) (s : State) : Res :=
  match s.sfEntry granule with
  | none => .next s
  | some e => .next (s.setSf granule { e with hold := false })

/-- An endpoint index becomes DEAD (R421): every INV outstanding to it counts as answered (R422 step 1) and the reclaim
runs. -/
def State.agentDies (s : State) (i : Nat) (byTimeout : Bool) : State :=
  let gs := (s.coh.invs.filter fun v => v.index = i).map (·.granule)
  let s := (s.setAgent i { state := .dead, byTimeout := byTimeout }).raise F.COH_EVENT_AGENT_DEAD
  let s := { s with coh := { s.coh with invs := s.coh.invs.filter fun v => v.index != i } }
  -- a granule the dead endpoint owned was recalled in vain: it is reclaimed before its request is performed
  gs.foldl (fun s g =>
    let owned := (s.sfEntry g).any fun e => e.owned && e.holders.contains i
    (if owned then s.reclaimOwned g else s).advanceTxn g) s

/-- The reclaim walk of an index ends (R422 steps 3 and 4): SHARED holdings go, granules it owned are poisoned, COARSE
entries keep their bit; the index becomes RECLAIMED. -/
def execReclaimEnd (index : Nat) (s : State) : Res :=
  if (s.agent index).state != .dead then .next s
  else
    let s := s.coh.sf.cells.foldl (fun s c =>
      let (g, e) := c
      if e.coarse || !e.holders.contains index then s
      else if e.owned then s.reclaimOwned g
      else
        let left := e.holders.filter (· != index)
        (if left.isEmpty then s.freeSf g else s.setSf g { e with holders := left }).tellShadow g) s
    let s := s.setAgent index { s.agent index with state := .reclaimed }
    .next (s.raise F.COH_EVENT_RECLAIM_DONE)

/-- COH_AGENT_CTRL.REVIVE: ignored in every state but RECLAIMED (R421). -/
def execCohAgentRevive (src index : Nat) (s : State) : Res :=
  if s.mayAdminister src && (s.agent index).state == .reclaimed then
    .next (s.setAgent index { s.agent index with state := .live })
  else .next s

/-- COH_PROBE_CTRL.PROBE (R437): the filter entry of the granule that COH_PROBE_ADDR names. -/
def execCohProbe (src : Nat) (s : State) : Res :=
  if 128 ≤ src || src % 64 != 0 then .next s
  else
    let g := (s.fld F.COH_PROBE_ADDR_LO_ADDR * 128 + 2 ^ 32 * s.fld F.COH_PROBE_ADDR_HI_ADDR) / 128
    let set (s : State) (st : Nat) (e : Option SfEntry) : State :=
      let s := (s.setFld F.COH_PROBE_RESULT_DONE 1).setFld F.COH_PROBE_RESULT_STATE st
      let s := s.setFld F.COH_PROBE_RESULT_COARSE (b2n (e.any fun x => x.coarse))
      let s := s.setFld F.COH_PROBE_RESULT_POINTERS ((e.map fun x => x.holders.length).getD 0)
      let s := s.setFld F.COH_PROBE_RESULT_WAY ((e.map fun x => x.way).getD 0)
      let w (i : Nat) : Nat := match e with
        | none => 0
        | some x => if x.coarse then (x.vector >>> (32 * i)) % 2 ^ 32
          else x.holders.getD (2 * i) 0 + 2 ^ 16 * x.holders.getD (2 * i + 1) 0
      (s.setFld F.COH_PROBE_HOLDERS0 (w 0)).setFld F.COH_PROBE_HOLDERS1 (w 1)
    match s.sfEntry g with
    | none => .next (set s 0 none)
    | some e => .next (set s (if s.busy g then 3 else if e.owned then 2 else 1) (some e))

end Sys2Proof.Machine
end

