-- ==== Sys2Proof/Machine/GateOps.lean ====
section
/-!
DEFINITION. Gates, held waits, blocks and fences: the operations the commands share (R438 to R464).
-/
namespace Sys2Proof.Machine

open Sys2Proof

/-- A gate's key is the low 24 bits of its name: home slot and index (R439). -/
def gateKey (name : Nat) : Nat := name % 2 ^ 24
def gateSlot (name : Nat) : Nat := nbf name 23 18
/-- A block's key: its slot and number. -/
def blockKey (gk : Nat) : Nat := gk / 256

def State.gateVal (s : State) (k : Nat) : Nat := s.gate.vals.getD k 0
def State.setGateVal (s : State) (k v : Nat) : State :=
  { s with gate := { s.gate with vals := if v % 2 ^ 32 = 0 then s.gate.vals.erase k else s.gate.vals.set k (v % 2 ^ 32) } }
def State.gateBlock (s : State) (b : Nat) : GateBlock := s.gate.blocks.getD b {}

/-- A block record as it goes to the member that holds the shadow filter (R458). -/
def GateBlock.bytes (x : GateBlock) : List Byte := toLe 1 (b2n x.valid) ++ toLe 2 x.comp ++ toLe 2 x.ownerCtx
def gateBlockOf (b : List Byte) : GateBlock :=
  { valid := fieldAt b 0 1 != 0, comp := fieldAt b 1 2, ownerCtx := fieldAt b 3 2, lost := false }

/-- A block record goes to the member that holds the shadow filter (R458), and to one that the slot is being copied to (R519). -/
def State.tellBlock (s : State) (b : Nat) : State :=
  let slot := b / 1024
  let x : Away := { owner := none, home := 0, epoch := 0, role := true, slot := slot, kind := 19, addr := b, data := (s.gateBlock b).bytes }
  if s.serverOf slot != s.sys.member then s
  else
    let s := match s.partnerOf slot with
      | some m => s.sendServed { x with home := m } 0
      | none => s
    match s.copyingTo slot with
    | some m => s.sendServed { x with home := m, slot := 64 } 0
    | none => s

/-- The record of a block. -/
def State.putGateBlock (s : State) (b : Nat) (x : GateBlock) : State :=
  { s with gate := { s.gate with blocks := s.gate.blocks.set b x } }

/-- A block's record changes: the holder of its copy is told (R507, R510). -/
def State.setGateBlock (s : State) (b : Nat) (x : GateBlock) : State := (s.putGateBlock b x).tellBlock b

/-- A gate is read (R438, R469): a single-bit error is corrected and counted; after an error that is detected and cannot be
corrected the gate holds a value the spec does not state. -/
def State.checkGate (s : State) (k : Nat) : State :=
  match s.gate.flips.find? k with
  | none => s
  | some n =>
    let s := { s with gate := { s.gate with flips := s.gate.flips.erase k } }
    if n = 1 then s.corrected 0x60000 { source := 0x04, severity := 1, inj := true }
    else (s.setGateVal k (Config.lostGate s.fresh)).tickFresh

/-- The slot whose gates the registers reach: the lowest slot this member serves. -/
def State.ownSlot (s : State) : Nat := s.ownSlots.headD 0

/-- A wait is satisfied by a value (R445). -/
def WaitMode.satisfied (m : WaitMode) (value target : Nat) : Bool :=
  match m with
  | .ge => decide ((value + 2 ^ 32 - target % 2 ^ 32) % 2 ^ 32 < 2 ^ 31)
  | .eq => value = target % 2 ^ 32
  | .ne => value != target % 2 ^ 32

def WaitMode.ofCode : Nat → Option WaitMode
  | 0 => some .ge | 1 => some .eq | 2 => some .ne | _ => none

/-- Time from a frame to now in µs, 3.2 µs a frame (R94), saturating at 32 bits. -/
def State.usSince (s : State) (frame : Nat) : Nat := min ((s.frame - frame) * 16 / 5) (2 ^ 32 - 1)

/-- A held wait ends: its reply goes to the intake member; here that is the end of the command. -/
def State.endWait (s : State) (w : Waiter) (st sub value : Nat) : State :=
  if w.intake = s.sys.member then
    s.finish w.entry fun o => { o with status := st, subcode := sub, result0 := value, countDone := s.usSince w.since,
                                       countAux := 0, absent := if st = St.done then 0 else 0xFF }
  else s.answerOrigin w.intake w.entry st sub (toLe 4 value)

/-- Update a gate: its held waits are evaluated against the new value in their order of arrival (R445, R449). The
number of waits woken. -/
def State.updateGate (s : State) (k v : Nat) : State × Nat :=
  let v := v % 2 ^ 32
  let s := ({ s with gate := { s.gate with flips := s.gate.flips.erase k } }.setGateVal k v).count F.GATE_COUNT_SIGNAL
  let woken := s.gate.waiters.filter fun w => w.gate = k && w.mode.satisfied v w.target
  let s := { s with gate := { s.gate with
    waiters := s.gate.waiters.filter fun w => !(w.gate = k && w.mode.satisfied v w.target) } }
  (woken.foldl (fun s w => (s.endWait w St.done 0 v).count F.GATE_COUNT_WAKE) s, woken.length)

/-- Why an operation on a gate fails at its home (R440, R458). -/
def State.gateFails (s : State) (k comp : Nat) : Option (Nat × Nat) :=
  let b := s.gateBlock (blockKey k)
  if !b.valid || b.comp != comp then some (St.xltDenied, 0x65)
  else if b.lost then some (St.fenced, 0x40)
  else none

/-- Clear a block (R456): all its gates become 0 and the waits held on them end REVOKED. -/
def State.clearBlock (s : State) (b : Nat) : State :=
  let held := s.gate.waiters.filter fun w => blockKey w.gate = b
  let s := { s with gate := { s.gate with
    vals := s.gate.vals.filter fun k _ => blockKey k != b
    waiters := s.gate.waiters.filter fun w => blockKey w.gate != b } }
  (held.foldl (fun s w => s.endWait w St.revoked 0x65 0) s).raise F.GATE_EVENT_CLEARED

/-- A context changes at an APPLY: the blocks it owns are cleared when it loses VALID or changes source or composition;
they stay VALID only if the context does and take its new composition (R456). -/
def State.switchBlocks (s : State) (ctx : Nat) (old new : Context) : State :=
  if old.valid && (!new.valid || new.boundSrc != old.boundSrc || new.comp != old.comp) then
    (s.gate.blocks.cells.filter fun c => c.2.valid && c.2.ownerCtx = ctx).foldl (fun s c =>
      (s.clearBlock c.1).setGateBlock c.1 { c.2 with valid := new.valid, comp := new.comp }) s
  else s

/-- The home of a wait that its watchdog ended records the gate (R453). -/
def State.watchdogHit (s : State) (name : Nat) : State :=
  ((s.setFld F.GATE_WD_LAST_GATE (gateKey name)).setFld F.GATE_WD_LAST_VALID 1).raise F.GATE_EVENT_WATCHDOG

/-! ### Fences -/

/-- A DRAIN message (R461). -/
def drainMsg (kind fenceId origin target source pend count : Nat) : List Byte :=
  toLe 1 0x12 ++ toLe 1 (0x0F + 16 * kind) ++ toLe 2 fenceId ++ toLe 2 origin ++ toLe 2 target ++ toLe 1 source ++
    toLe 1 0 ++ toLe 2 pend ++ toLe 4 count

/-- ENDED[i][s] has reached a count (R460). -/
def State.endedReached (s : State) (origin source count : Nat) : Bool :=
  decide ((s.gate.ended.getD (144 * origin + source) 0 + 2 ^ 32 - count % 2 ^ 32) % 2 ^ 32 < 2 ^ 31)

/-- The ports toward a destination: a member's route, or the trunk ports toward another rack (R399). -/
def State.portsToward (s : State) (target : Nat) : Nat :=
  if target ≥ 64 then s.hxl.rackRoutes.getD (target - 64) 0 else (s.route target).ports

/-- Remember a PROBE or REROUTE sent on a port, for 64 frames (R462). -/
def State.noteProbe (s : State) (x : SentProbe) : State :=
  { s with gate := { s.gate with
      sentProbes := (s.gate.sentProbes.filter fun (y : SentProbe) => decide (s.frame ≤ y.frame + 64)) ++ [x] } }

/-- Send a PROBE or REROUTE toward a destination, remembering the port it took (R462). -/
def State.sendProbe (s : State) (kind fenceId origin target source pend count : Nat) : State :=
  let msg := drainMsg kind fenceId origin target source pend count
  let s := match s.pickPort (s.portsToward target) s.sys.member target 0 with
    | some p => s.noteProbe { origin := origin, fenceId := fenceId, target := target, source := source, count := count,
                              port := p, frame := s.frame }
    | none => s
  if target ≥ 64 then
    match s.pickPort (s.portsToward target) s.sys.member target 0 with
    | some p => s.sendPort p msg
    | none => s.waitRoute (0x8000 + (target - 64)) msg false
  else s.sendMember target s.sys.member 0 msg

/-- PENDING of a REROUTE (R461): the requests of this member's source toward a destination that have no answer yet. -/
def State.pendingToward (s : State) (origin source target : Nat) : Nat :=
  if origin != s.sys.member then 0
  else
    let items := (s.entriesWhere fun _ e => e.src = source).map fun c =>
      (c.2.items.filter fun (i : Item) => i.home = target).length
    let raws := (s.xlt.raws.filter fun (r : RawTxn) => 128 + r.port = source && s.homeOf r.addr = target).length
    min (items.sum + raws) 65535

/-- A port has left the ACTIVE set of its routes: each PROBE and REROUTE sent on it within the last 64 frames is followed
by a REROUTE on the remaining ports (R462). -/
def State.rerouteProbes (s : State) (p : Nat) : State :=
  let lost := s.gate.sentProbes.filter fun (x : SentProbe) => x.port = p && decide (s.frame ≤ x.frame + 64)
  lost.foldl (fun (s : State) (x : SentProbe) =>
    match s.pickPort ((s.portsToward x.target) &&& (0xFFFF ^^^ 2 ^ p)) s.sys.member x.target 0 with
    | none => s
    | some q =>
      let pend := s.pendingToward x.origin x.source x.target
      let s := s.sendPort q (drainMsg 2 x.fenceId x.origin x.target x.source pend x.count) x.target
      let s := (s.noteProbe { x with port := q, frame := s.frame }).count F.GATE_COUNT_REROUTE
      let s := s.raise F.GATE_EVENT_FENCE_REROUTE
      if x.origin != s.sys.member then s
      else
        { s with gate := { s.gate with
            fences := mapIf (fun (f : Fence) => f.id = x.fenceId) (fun f => { f with reroutes := f.reroutes + 1 }) s.gate.fences } })
    { s with gate := { s.gate with sentProbes := s.gate.sentProbes.filter fun (x : SentProbe) => x.port != p } }

/-- The snapshot of a source toward a destination: SENT less ABANDONED (R460). -/
def State.snapshot (s : State) (src d : Nat) : Nat :=
  (s.gate.sent.getD (128 * src + d) 0 + 2 ^ 32 - s.gate.abandoned.getD (128 * src + d) 0) % 2 ^ 32

/-- Probe a destination with a snapshot; this member's own is checked locally. -/
def State.probeDest (s : State) (f : Fence) (d count : Nat) : State :=
  if d = s.sys.member then
    { s with gate := { s.gate with probes := s.gate.probes ++
      [({ origin := s.sys.member, source := f.src, fenceId := f.id, count := count } : Probe)] } }
  else s.sendProbe 0 f.id s.sys.member d f.src 0 count

/-- ADD on a gate on behalf of an entry, here or at its home: the outcome is the value after it (R459). -/
def State.signalGate (s : State) (id name value comp : Nat) : State × Option (Nat × Nat) × Nat :=
  let k := gateKey name
  match s.gateFails k comp with
  | some f => (s, some f, 0)
  | none =>
    let s := s.checkGate k
    let v := (s.gateVal k + value) % 2 ^ 32
    (((s.updateGate k v).1.modEntry id fun e => { e with begun := e.begun ||| 8 }), none, v)

/-- The item that adds to a gate at its home (R445). -/
def signalItem (owner : Option Nat) (s : State) (name value comp : Nat) : Away :=
  { owner := owner, home := s.serverOf (gateSlot name), epoch := s.epochOf owner, role := true, slot := gateSlot name, kind := 2,
    addr := name, data := toLe 4 value ++ toLe 2 comp }

/-- A fence with nothing left to wait for completes (R459): with SIG it signals its gate first. -/
def State.tryFence (s : State) (id : Nat) : State :=
  match s.gate.fences.find? fun f => f.entry = id, s.entry? id with
  | some f, some e =>
    let waits := e.waitsFor.any fun w => s.cmdq.entries.has w
    if !f.waiting.isEmpty || waits || e.phase != .accepted then s
    else
      let s := { s with gate := { s.gate with fences := s.gate.fences.filter fun g => g.entry != id } }
      let base (o : Outcome) : Outcome := { o with countDone := f.acked.length, countAux := f.reroutes }
      let pk := e.packet
      if pkField pk 12 1 / 4 % 2 = 1 then
        let name := pkField pk 8 4
        let home := s.serverOf (gateSlot name)
        if home = s.sys.member then
          match s.signalGate id name (pkField pk 16 4) (pkComp pk) with
          | (s, some (st, sub), _) => s.finish id fun o => { base o with status := st, subcode := sub, absent := 0xFF }
          | (s, none, v) => s.finish id fun o => { base o with result0 := v, homes := max o.homes 1 }
        else (s.sendItem (signalItem (some id) s name (pkField pk 16 4) (pkComp pk)) 8).conclude id false 8 base
      else s.finish id base
  | _, _ => s

/-- Every fence that may now complete does. -/
def State.tryFences (s : State) : State := (s.gate.fences.map (·.entry)).foldl (fun s id => s.tryFence id) s

/-- A destination has acknowledged a fence's snapshot (R462): the first ACK counts, a later one is a duplicate. -/
def State.ackFence (s : State) (fenceId target count : Nat) : State :=
  match s.gate.fences.find? fun f => f.id = fenceId with
  | none => s.count F.GATE_COUNT_DUP_ACK
  | some f =>
    if f.waiting.any fun w => w.1 = target then
      let f1 := { f with waiting := f.waiting.filter fun w => w.1 != target, acked := addNew f.acked target }
      let s := { s with gate := { s.gate with
        fences := mapIf (fun (g : Fence) => g.id = fenceId) (fun _ => f1) s.gate.fences
        ackedCount := s.gate.ackedCount.set (128 * f.src + target) count } }
      s.tryFence f.entry
    else s.count F.GATE_COUNT_DUP_ACK

end Sys2Proof.Machine
end

