-- ==== Sys2Proof/Machine/HxlOps.lean ====
section
/-!
DEFINITION. The HXL link layer the commands share (spec/10_hxl_fabric.md): port states, routes, flits, credits, replay.
-/
namespace Sys2Proof.Machine

open Sys2Proof

/-! ### Messages and virtual channels (R379, R383, R387) -/

/-- The length of a message that starts here, in bytes; 0 ends the flit's messages or is not known. -/
def msgLen (m : List Byte) : Nat :=
  match fieldAt m 0 1 with
  | 0x01 | 0x02 | 0x07 | 0x08 | 0x0B | 0x0F | 0x12 | 0x15 => 16
  | 0x03 | 0x06 | 0x09 | 0x0A => 144
  | 0x04 => 160
  | 0x05 => 40
  | 0x0C => 24
  | 0x0D => 80
  | 0x0E => 48
  | 0x10 | 0x11 => 32
  | 0x13 => 8 * fieldAt m 2 2
  | 0x14 => 64
  | _ => 0

/-- The virtual channel of a message (R383): CTRL for CLASS 15, else by its type. -/
def msgVc (m : List Byte) : Nat :=
  let t := fieldAt m 0 1
  if t = 0x0F || t = 0x11 || t = 0x12 || nbf (fieldAt m 1 1) 3 0 = 15 then 5
  else match t with
  | 0x01 | 0x02 | 0x03 | 0x04 | 0x05 | 0x0D => 0
  | 0x08 | 0x09 | 0x0A | 0x0B | 0x0C | 0x0E => 1
  | 0x07 => 2
  | 0x06 => 3
  | 0x13 => 4
  | _ => 5

/-- A request whose loss is answered FENCED, subcode 0xC6 (R399). -/
def isRequest (m : List Byte) : Bool :=
  let t := fieldAt m 0 1
  (1 ≤ t && t ≤ 6) || t = 0x0D

/-! ### Routes (R399, R402) -/

def State.setRoute (s : State) (m : Nat) (r : Route) : State :=
  { s with hxl := { s.hxl with routes := s.hxl.routes.set m r } }

/-- The ACTIVE set of a route changes at a port (R402): new requests to its members wait while earlier ones are owed. -/
def State.routesChange (s : State) (p : Nat) : State :=
  { s with hxl := { s.hxl with
    routes := s.hxl.routes.mapVals fun m r =>
      if r.ports.testBit p && s.hxl.owed.getD m 0 != 0 then { r with draining := true } else r } }

/-- A port leaves the ACTIVE sets of its routes (R402, R462). -/
def State.portLeaves (s : State) (p : Nat) : State := (s.routesChange p).rerouteProbes p

/-- Send the waiting messages that now have a port (R399). -/
def State.retryWaiting (s : State) : State :=
  let go := s.hxl.waiting.filter fun w => !w.drain
  let s := { s with hxl := { s.hxl with waiting := s.hxl.waiting.filter fun w => w.drain } }
  go.foldl (fun (s : State) w =>
    let again (s : State) : State := { s with hxl := { s.hxl with waiting := s.hxl.waiting ++ [w] } }
    if w.dst < 64 then
      match s.pickPort (s.route w.dst).ports s.sys.member w.dst 0 with
      | some p => s.sendPort p w.msg w.dst
      | none => again s
    else if w.dst ≥ 0x8000 then
      match s.pickPort (s.hxl.rackRoutes.getD (w.dst - 0x8000) 0) s.sys.member w.dst 0 with
      | some p => s.sendPort p w.msg w.dst
      | none => again s
    else
      let r := s.epRoute (w.dst - 0x200)
      let up (v : Bool) (m p : Nat) := v && m = s.sys.member && (s.port p).state == .active
      if up r.valid1 r.member1 r.port1 then s.sendPort r.port1 w.msg w.dst
      else if up r.valid2 r.member2 r.port2 then s.sendPort r.port2 w.msg w.dst
      else
        let there (v : Bool) (m : Nat) : Bool := v && m != s.sys.member && (s.pickPort (s.route m).ports 0 m 0).isSome
        if there r.valid1 r.member1 then s.sendMember r.member1 s.sys.member 0 w.msg
        else if there r.valid2 r.member2 then s.sendMember r.member2 s.sys.member 0 w.msg
        else again s) s

/-! ### Port states (R368, R382) -/

/-- A port's own state is dropped; its counters and configuration stay. -/
def Port.cleared (x : Port) : Port :=
  { cfg := x.cfg, act := x.act, attempts := x.attempts, failCode := x.failCode, fenced := x.fenced, delay := x.delay,
    fecCorr := x.fecCorr, fecUncorr := x.fecUncorr, crc := x.crc, replayed := x.replayed, retrains := x.retrains,
    msgBad := x.msgBad, abortMiss := x.abortMiss, releaseStale := x.releaseStale, raws := x.raws }

/-- Messages of a port between members are re-sent on other routes when it is lost (R382, R513); those of an endpoint
port are dropped. Nothing goes to a fenced member (R660). -/
def State.resendLost (s : State) (p : Nat) : State :=
  let x := s.port p
  let lost := x.kept.foldl (fun l k => l ++ k.msgs) [] ++ s.hxl.outbox.filter fun o => o.port = p
  let s := { s with hxl := { s.hxl with outbox := s.hxl.outbox.filter fun o => o.port != p } }
  if x.act.kind = 1 then s
  else lost.foldl (fun (s : State) o =>
    if o.dst < 64 then s.sendMember o.dst s.sys.member 0 o.msg
    else if o.dst < 0xFFFF then (s.waitRoute o.dst o.msg false).retryWaiting else s) s

/-- A port enters FAILED (R368, R382), an error of severity UNIT (R486). -/
def State.failPort (s : State) (p code : Nat) : State :=
  let s := s.setPort p { s.port p with state := .failed, failCode := code }
  let s := (s.portLeaves p).resendLost p
  let s := s.unitOffline { source := if code = 7 then 0x34 else 0x33, severity := 4, unitKind := 5, unitIndex := p,
                           security := code = 7 }
  (s.setPort p { (s.port p).cleared with state := .failed }).raise F.HXL_EVENT_PORT_DOWN

/-- One attempt fails (R368): the third in a row puts the port in FAILED. -/
def State.failAttempt (s : State) (p code : Nat) : State :=
  let x := s.port p
  if x.attempts + 1 ≥ 3 then ((s.setPort p { x with attempts := 3 }).failPort p code)
  else s.setPort p { x with attempts := x.attempts + 1, failCode := code, state := .detect }

/-- A port enters DETECT: HXL_PORT_CFG as written comes into force (R408); in SEALED encryption is required (R539). -/
def State.detectPort (s : State) (p : Nat) : State :=
  let x := s.port p
  let cfg := { x.cfg with encReq := x.cfg.encReq || s.sys.lc == .sealed }
  let s := s.setUnit 5 p { s.unitRec 5 p with offline := false }
  s.setPort p { x.cleared with act := cfg, state := .detect, attempts := 0, failCode := 0 }

/-- A port enters RETRAIN (R368): buffers, sequence numbers, credits and keys stay. -/
def State.retrainPort (s : State) (p : Nat) : State :=
  let x := s.port p
  if x.state != .active then s
  else
    let s := s.setPort p { x with state := .retrain, relocked := false, retrains := satInc 16 x.retrains, echoCount := 0,
                                  echoSum := 0, naks := 0, replayQ := [] }
    let s := s.corrected (0x50000 + p) { source := 0x06, severity := 1, unitKind := 5, unitIndex := p }
    (s.portLeaves p).raise F.HXL_EVENT_RETRAIN

/-- The average of 64 ECHO exchanges, rounded to 0.1 ns (R371). -/
def Port.measured (x : Port) : Nat := (x.echoSum + 32) / 64

/-- A port becomes ACTIVE (R368): waiting messages find it. -/
def State.activatePort (s : State) (p : Nat) : State :=
  let x := s.port p
  let s := s.setPort p { x with state := .active, attempts := 0, delay := x.measured }
  (s.routesChange p).retryWaiting

/-! ### Flits (R376 to R381, R385) -/

/-- Pick the VC whose credits the next header returns: the next after the last returned that has some (R385). An endpoint
port with 8,192 raw requests in flight returns no REQ credit (R386). -/
def Port.creditVc (x : Port) : Option Nat :=
  ((List.range 6).map fun i => (x.lastVc + 1 + i) % 6).find? fun v =>
    x.credOwed.getD v 0 != 0 && !(v = 0 && x.act.kind = 1 && x.raws ≥ 8192)

/-- The link header of R377, with the credits it returns, and the port after it. -/
def Port.header (x : Port) (ftype seq : Nat) (enc phase cont : Bool) : Nat × Port :=
  let vc := x.creditVc
  let n := min 8191 ((vc.map fun v => x.credOwed.getD v 0).getD 0)
  let v := vc.getD 0
  let h := ftype + 2 ^ 2 * (seq % 4096) + 2 ^ 14 * ((x.rxSeq + 4095) % 4096) + 2 ^ 26 * b2n x.nak + 2 ^ 27 * b2n enc +
    2 ^ 28 * b2n phase + 2 ^ 29 * b2n cont + 2 ^ 32 * v + 2 ^ 35 * n
  (h, match vc with
    | some v => { x with lastVc := v, credOwed := x.credOwed.set v (x.credOwed.getD v 0 - n) }
    | none => x)

/-- Send an unsequenced flit with the current header (R378, R380). -/
def State.sendBare (s : State) (p ftype : Nat) (payload : List Byte) : State :=
  let (h, x) := (s.port p).header ftype 0 (s.port p).encOn (s.port p).keyPhase false
  (s.setPort p x).emit (.flit p h payload true)

/-- What a DATA flit takes from the port's messages: payload, messages that begin in it, the rest left over, and the
port after credits (R379, R385). Only messages `may` allows are taken, in the order they came: one without credits holds back those
after it (R101). -/
def fillFlit (may : OutMsg → Bool) (room : Nat) (x : Port) :
    List OutMsg → List Byte → List OutMsg → List Byte × List OutMsg × List Byte × Port × List OutMsg
  | [], pay, begun => (pay, begun, [], x, [])
  | o :: rest, pay, begun =>
    let v := msgVc o.msg
    let units := o.msg.length / 8
    if may o && x.credAvail.getD v 0 < units then (pay, begun, [], x, o :: rest)
    else if !may o || pay.length ≥ room then
      let (p2, b2, r2, x2, l2) := fillFlit may room x rest pay begun
      (p2, b2, r2, x2, o :: l2)
    else
      let x := { x with credAvail := x.credAvail.set v (x.credAvail.getD v 0 - units) }
      let fit := room - pay.length
      if o.msg.length ≤ fit then fillFlit may room x rest (pay ++ o.msg) (begun ++ [o])
      else (pay ++ o.msg.take fit, begun ++ [o], o.msg.drop fit, x, rest)

/-- Put a new DATA flit on the wire: an injection on the port inverts a bit of its CRC, once (R492). -/
def State.emitData (s : State) (p h : Nat) (pay : List Byte) : State :=
  if s.err.injection.any fun i => i.target = 5 && i.addr % 16 = p then
    let s := { s with err := { s.err with injection := none } }
    ((s.setFld F.ERR_INJ_STATUS_DONE 1).raise F.ERR_EVENT_INJ_DONE).emit (.flit p h pay false)
  else s.emit (.flit p h pay true)

/-- Credits that Spenal advertises at a port, VC 0 first (R383). -/
def advertised (kind : Nat) : List Nat := [16384, 16384, 1024, 4096, if kind = 0 then 16384 else 0, 1024]

/-- The PARAM message of this member at a port (R369). -/
def State.paramMsg (s : State) (p : Nat) : List Byte :=
  let x := s.port p
  let rack := s.fld F.HXL_ID_RACK
  let id := if x.act.nodeForm then rack * 512 + s.sys.member else s.sys.member
  toLe 1 0x14 ++ toLe 1 1 ++ toLe 1 ((if x.act.kind = 2 then 2 else 0) + 4 * b2n x.act.nodeForm + 8 + 16 * b2n x.act.encReq) ++ toLe 1 0 ++
    toLe 2 id ++ toLe 1 rack ++ toLe 1 0 ++ ((advertised x.act.kind).map (toLe 2)).flatten ++
    toLe 4 (if x.act.kind = 1 then (s.source (128 + p)).limit else 0) ++ List.replicate 40 0

/-- A PARAM flit (R369, R371, R378): the PARAM message until the partner's good one has come, and the next ECHO request; in RETRAIN ECHO
alone. When its first wire bit leaves is a time the model does not count. -/
def State.sendTraining (s : State) (p : Nat) : State :=
  let x := s.port p
  let hello := if x.state == .param && !x.paramOk then s.paramMsg p else []
  let echo := if x.echoSent < 64 then
      toLe 1 0x15 ++ toLe 1 0 ++ toLe 2 x.echoSent ++ toLe 4 0 ++ toLe 4 (Config.linkTime s.fresh) ++ toLe 4 0 else []
  ((s.setPort p { x with echoSent := min 64 (x.echoSent + 1) }).sendBare p 3 (hello ++ echo)).tickFresh

/-- One slot of an ACTIVE port's transmitter (R379 to R381): a replayed flit first, else a new DATA flit, else IDLE. -/
def State.sendFlit (s : State) (p : Nat) (may : OutMsg → Bool) : State :=
  let x := s.port p
  if x.state != .active then s
  else match x.replayQ with
  | k :: rest =>
    let (h, y) := x.header 1 k.seq k.enc k.phase k.cont
    ((s.setPort p { y with replayQ := rest, replayed := satInc 32 y.replayed }).pulse 0x101 p).emit (.flit p h k.payload true)
  | [] =>
    if x.kept.length ≥ 1024 || (x.encOn && x.phaseFlits ≥ 2 ^ 32) then s.sendBare p 0 []
    else
      let room := if x.encOn then 212 else 228
      let cont := !x.txRest.isEmpty
      let mine := s.hxl.outbox.filter fun o => o.port = p
      let head := x.txRest.take room
      let tail := x.txRest.drop room
      let (pay, begun, rest, y, left) :=
        if tail.isEmpty then fillFlit may room x mine head [] else (head, [], tail, x, mine)
      if pay.isEmpty then
        (if mine.any may then s.pulse 0x102 p else s).sendBare p 0 []
      else
        let k : KeptFlit :=
          { seq := y.txSeq, cont := cont, enc := y.encOn, phase := y.keyPhase, payload := pay, msgs := begun }
        let (h, z) := y.header 1 y.txSeq y.encOn y.keyPhase cont
        let s := s.setPort p { z with
          txSeq := (z.txSeq + 1) % 4096
          kept := z.kept ++ [k]
          txRest := rest
          phaseFlits := if z.encOn then z.phaseFlits + 1 else z.phaseFlits }
        (({ s with hxl := { s.hxl with
          outbox := (s.hxl.outbox.filter fun (o : OutMsg) => o.port != p) ++ left } }).pulse 0x100 p).emitData p h pay

/-- Cut a payload into whole messages; the rest of a message not complete yet comes back. -/
def parsePayload : Nat → List Byte → List (List Byte) × List Byte
  | 0, _ => ([], [])
  | fuel + 1, l =>
    if l.isEmpty then ([], [])
    else
      let n := msgLen l
      if n = 0 then ([], [])
      else if l.length < n then ([], l)
      else
        let (ms, r) := parsePayload fuel (l.drop n)
        (l.take n :: ms, r)

/-- Deliver the messages of a good flit to the block, and owe their credits (R380, R385). -/
def State.deliver (s : State) (p : Nat) (payload : List Byte) (cont credit : Bool) : State :=
  let x := s.port p
  let l := if cont then x.part ++ payload else payload
  let (ms, rest) := parsePayload 40 l
  let owed := ms.foldl (fun (o : List Nat) m => o.set (msgVc m) (o.getD (msgVc m) 0 + m.length / 8)) x.credOwed
  let s := s.setPort p { x with part := if credit then rest else x.part, credOwed := if credit then owed else x.credOwed }
  { s with hxl := { s.hxl with inbox := s.hxl.inbox ++ ms.map fun m => (p, m) } }

/-- A message taken up by its own command leaves the inbox. -/
def State.takeMsg (s : State) (p : Nat) (m : List Byte) : State :=
  { s with hxl := { s.hxl with inbox := s.hxl.inbox.erase (p, m) } }

end Sys2Proof.Machine
end

