-- ==== Sys2Proof/Machine/RecipeCheck.lean ====
section
/-!
DEFINITION. The checks of a recipe when it is placed in a slot (R244 to R251): the first failure with its CODE, step and
operand.
-/
namespace Sys2Proof.Machine

open Sys2Proof

/-- What a load reports (R251, R258): CODE, STEP, OPERAND. -/
structure LoadResult where
  code : Nat
  step : Nat := 0
  operand : Nat := 0
  deriving DecidableEq, Repr

/-- The header is valid (R244, code 0x04); `ext` says that the slot is an extension slot. -/
def rcpHeaderOk (ext : Bool) (r : List Byte) : Bool :=
  fieldAt r 0 4 = 0x72205C01 && fieldAt r 4 2 = 1 && decide (2 ≤ rcpSteps r) && decide (rcpSteps r ≤ 64) &&
    (fieldAt r 6 1).testBit 7 == false && fieldAt r 7 1 / 4 = 0 && rcpExt r == ext &&
    decide (64 ≤ rcpPocketLen r) && decide (rcpPocketLen r ≤ 262144) && rcpPocketLen r % 64 = 0 &&
    fieldAt r 12 4 / 2 ^ 19 = 0 && decide (1 ≤ rcpCycleLimit r) && fieldAt r 17 1 = 0 && fieldAt r 20 40 = 0 &&
    r.length = 64 + 32 * rcpSteps r && fieldAt r 60 4 = crc32c (r.take 60 ++ r.drop 64)

/-- The steps of a recipe with their numbers. -/
def rcpAll (r : List Byte) : List (Nat × RStep) := (List.range (rcpSteps r)).map fun i => (i, rcpStep r i)

/-- A step breaks code 0x05: operand 0 unless an unused operand is what fails. -/
def stepBad (r : List Byte) (n i : Nat) (x : RStep) : Option Nat :=
  let uses := usesOp x.op
  -- a LOOP uses A only as a register
  let uses := if x.op = 0x08 && !refScalar x.a then [] else uses
  if !opMenu.contains x.op || x.rnd = 3 || fieldAt (rcpStepBytes r i) 1 1 / 32 != 0 || (x.isStream && x.sync / 8 != 0) ||
      (x.op == 0x0F) != (i + 1 == n) || (x.op = 0x29 && x.rows > 1024) then some 0
  else (List.range 4).find? fun k => !uses.contains k && x.ref k != 0

/-- Operands whose format field counts, with what each allows (code 0x06). -/
def formatBad (x : RStep) (k : Nat) : Bool :=
  let f := Fmt.ofCode (x.fmtCode k)
  let scalar := refScalar (x.ref k)
  let badScalar := scalar && f != some .fp32 && f != some .int32
  let mx := (f.any Fmt.isMx) && x.count % 32 != 0
  if !(usesOp x.op).contains k then false
  else if x.isStream then
    match k with
    | 0 => scalar || f.isNone || f == some .int64 || mx || (x.op = 0x05 && f != some .fp32 && f != some .int32)
    | 3 => scalar
    | _ => false
  else match x.op with
  | 0x08 => badScalar
  | 0x0A => !scalar || badScalar
  | 0x0B => scalar
  | 0x28 =>
    match k with
    | 0 => f != some .int32
    | 1 => f != some .int64 || scalar
    | 2 => !scalar || badScalar
    | _ => !scalar || badScalar || refReg x.c % 2 = 1
  | 0x29 =>
    match k with
    | 0 => scalar
    | 1 => f != some .fp32 || scalar
    | 2 => f != some .int32 || scalar
    | _ => !scalar || badScalar
  | _ =>
    f.isNone || f == some .int64 || (f == some .raw8 && x.op != 0x10) || badScalar || mx ||
      ((x.op = 0x20 || x.op = 0x21) && k = 0 && f.any Fmt.isMx)

/-- The LOOP steps around each step, innermost first; none where a LOOP or ENDLOOP does not match (code 0x07). -/
def loopNest : List (Nat × RStep) → List Nat → Option (List (Nat × List Nat))
  | [], st => if st.isEmpty then some [] else none
  | (i, x) :: r, st =>
    let st' := if x.op = 0x08 then i :: st else if x.op = 0x09 then st.tail else st
    if x.op = 0x09 && st.isEmpty then none
    else (loopNest r st').map fun l => (i, st) :: l

/-- How often the innermost loop around a step jumps back in a whole execution. -/
def jumpsOf (r : List Byte) (nest : List Nat) : Nat :=
  match nest with
  | [] => 0
  | i :: outer => ((rcpStep r i).iter - 1) * (outer.map fun j => (rcpStep r j).iter).foldl (· * ·) 1

/-- A Pocket operand leaves the extent in some execution, or its INC is not 0 in a loop counted by a register (0x08). -/
def pocketBad (r : List Byte) (nest : List Nat) (x : RStep) (k : Nat) : Bool :=
  match x.pocketRows k with
  | none => false
  | some (len, rows) =>
    let v := x.ref k
    let inc := refInc v
    let counted := nest.any fun i => refScalar (rcpStep r i).a
    let move : Int := if counted then 0 else inc * (jumpsOf r nest : Nat)
    let lo : Int := 8 * ((refAddr v : Int) + min 0 move)
    let hi : Int := 8 * ((refAddr v : Int) + max 0 move + ((rows - 1) * refStride v : Nat)) + (len : Nat)
    (counted && inc != 0) || decide (lo < 0) || decide (hi > (rcpPocketLen r : Nat))

/-- The checks of R251 from code 0x04 on. -/
def checkRecipe (ext : Bool) (r : List Byte) : LoadResult :=
  let steps := rcpAll r
  let n := rcpSteps r
  let at' (code : Nat) (p : Nat × RStep → Option Nat) : Option LoadResult :=
    steps.findSome? fun x => (p x).map fun k => { code := code, step := x.1, operand := k }
  if !rcpHeaderOk ext r then { code := 0x04 }
  else match at' 0x05 (fun x => stepBad r n x.1 x.2) with
  | some f => f
  | none =>
    match at' 0x06 (fun x => (List.range 4).find? fun k => formatBad x.2 k) with
    | some f => f
    | none =>
      match loopNest steps [] with
      | none => { code := 0x07, step := n - 1 }
      | some nest =>
        match at' 0x07 (fun x => if (x.2.op = 0x08 && !refScalar x.2.a && x.2.iter = 0) ||
            (x.2.op = 0x08 && ((nest.find? fun y => y.1 = x.1).any fun y => decide (3 ≤ y.2.length))) then some 0 else none) with
        | some f => f
        | none =>
          let nestOf (i : Nat) : List Nat := ((nest.find? fun y => y.1 = i).map (·.2)).getD []
          match at' 0x08 (fun x => (List.range 4).find? fun k => pocketBad r (nestOf x.1) x.2 k) with
          | some f => f
          | none =>
            match at' 0x09 (fun x => if x.2.isStream && !(rcpPorts r).testBit x.2.port then some 1 else none) with
            | some f => f
            | none =>
              match at' 0x0A (fun x => if ext && (x.2.hold || x.2.op = 0x05 || x.2.op = 0x0A) then some 0 else none) with
              | some f => f
              | none => { code := 0 }

/-- The step number of the LOOP that the ENDLOOP at `i` closes, and of the ENDLOOP that closes the LOOP at `i`. -/
def matchingLoop (r : List Byte) (i : Nat) : Nat :=
  ((loopNest (rcpAll r) []).bind fun l => (l.find? fun y => y.1 = i).bind fun y => y.2.head?).getD 0
def matchingEnd (r : List Byte) (i : Nat) : Nat :=
  ((rcpAll r).find? fun x => decide (i < x.1) && x.2.op = 0x09 && matchingLoop r x.1 = i).map (·.1) |>.getD i

end Sys2Proof.Machine
end

