-- ==== Sys2Proof/Machine/RecipeOps.lean ====
section
/-!
DEFINITION. Running recipes: starting and ending invocations, faults (R252), the order of steps (R229), stream steps
(R225), and the engines (R235 to R243, R247).
-/
namespace Sys2Proof.Machine

open Sys2Proof

/-! ### The end of an invocation (R229, R252) -/

/-- FLAGS of a gather's header, with those of its hook invocations (R275, R278). -/
def State.hookFlags (s : State) (id : Nat) : State :=
  match s.entry? id with
  | some e => match e.slot with
    | some (o, _) =>
      if pkOpcode e.packet = 0x44 then s.pokeBytes (s.resultRsa e.src + 256 * o + 24) e.flags.bytes else s
    | none => s
  | none => s

/-- The core tells the service that an invocation has ended: its flags add to the command's, its work item is answered. -/
def State.endInvocation (s : State) (c : Nat) (r : Running) (st sub : Nat) : State :=
  let s := s.leaveCore c
  let s := s.modEntry r.inv.entry fun e => { e with flags := e.flags.add r.flags }
  let s := s.hookFlags r.inv.entry
  s.answerItem r.inv.entry r.inv.item st sub true

/-- STATUS of a recipe fault (R252). -/
def faultStatus (code : Nat) : Nat :=
  match code with
  | 0x1 | 0x3 | 0x9 => St.badParam
  | 0x2 => St.xltDenied
  | 0x4 | 0x5 => St.timeout
  | 0x7 => St.divergent
  | _ => St.poisonRead

/-- An invocation faults (R252, R258): the first since CORE_EVENT.FAULT was cleared is recorded. -/
def State.recipeFault (s : State) (c code : Nat) : State :=
  match (s.edge c).run with
  | none => s
  | some r =>
    let s := if s.fld F.CORE_EVENT_FAULT = 1 then s else
      (((((s.setFld F.CORE_FAULT_INFO_CODE code).setFld F.CORE_FAULT_INFO_CORE c).setFld F.CORE_FAULT_INFO_SLOT r.inv.slot).setFld
        F.CORE_FAULT_INFO_STEP r.step).setFld F.CORE_FAULT_INFO_VALID 1).setFld F.CORE_FAULT_RECIPE (rcpId r.recipe)
    let s := (s.count F.CORE_FAULT_COUNT).raise F.CORE_EVENT_FAULT
    s.endInvocation c r (faultStatus code) (0xE0 + code)

/-- The core of an invocation fails (R252): it starts again once on another core unless a store of it has settled. -/
def State.coreFailed (s : State) (c : Nat) : State :=
  match (s.edge c).run with
  | none => s
  | some r =>
    if r.settled || r.inv.restarted then s.recipeFault c 0xA
    else
      let s := s.releaseHold c
      let s := s.setEdge c { s.edge c with run := none, last := none }
      (s.placeInvocation { r.inv with restarted := true }).placeWaiting

/-- Invocations queued on a core that has gone offline are placed again (R220). -/
def State.requeue (s : State) (c : Nat) : State :=
  let q := (s.edge c).queue
  q.foldl (fun (s : State) i => s.placeInvocation i) (s.setEdge c { s.edge c with queue := [] })

/-- SOURCE 0x31 (R486): the core goes offline, once its running invocation ends. -/
def State.coreWorn (s : State) (c : Nat) (e : ErrInfo) : State :=
  let s := s.logError { e with source := 0x31, severity := 4, unitKind := 0, unitIndex := c }
  if (s.edge c).run.isSome then s.setUnit 0 c { s.unitRec 0 c with due := true }
  else (s.dropCore c 0x31).requeue c

/-- An uncorrectable Pocket error (R486, 0x23): the invocation ends with POCKET_ECC; a second one within an hour, which is
1,125,000,000 frames, takes the core offline. -/
def State.pocketEcc (s : State) (c : Nat) (chk : Nat) (inj : Bool) : State :=
  let last := (s.unitRec 0 c).lastPocketEcc
  let e : ErrInfo := { source := 0x23, severity := 3, chk := chk, unitKind := 0, unitIndex := c, inj := inj }
  let s := s.logError e
  let s := s.setUnit 0 c { s.unitRec 0 c with lastPocketEcc := some s.frame }
  let s := s.recipeFault c 0x8
  if last.any fun f => decide (s.frame < f + 1125000000) then s.coreWorn c e else s

/-- Pocket words that a step reads: sources, and the data and indexes of stream steps. -/
def Running.pocketReads (r : Running) (x : RStep) : List (Nat × Nat) :=
  let row (k : Nat) : List (Nat × Nat) := match x.pocketRows k with
    | none => []
    | some (n, rows) => (List.range rows).map fun i => (r.pocketAddr x k i, n)
  if x.isStream then (if x.op = 0x02 || x.op = 0x04 || x.op = 0x05 then row 0 else []) ++ row 3
  else
    -- TOPK reads the list it merges into
    (if x.op = 0x29 then [(r.pocketAddr x 0 0, 8 * min x.rows (r.scalars.getD (refReg x.c) 0))] else []) ++
      row 1 ++ row 2 ++ row 3

/-- Words whose check bits an injection has inverted are read (R492): a correctable one is counted, another ends the
invocation. False: the invocation has ended. -/
def State.pocketCheck (s : State) (c : Nat) (r : Running) (x : RStep) : State × Bool :=
  let reads := r.pocketReads x
  let met (f : Nat × Bool) : Bool := reads.any fun a => decide (a.1 < 8 * f.1 + 8) && decide (8 * f.1 < a.1 + a.2)
  let hit := (s.edge c).flips.filter met
  let s := s.setEdge c { s.edge c with flips := (s.edge c).flips.filter fun f => !met f }
  let s := (hit.filter (·.2)).foldl (fun (s : State) _ =>
    s.corrected (0x70000 + c) { source := 0x04, severity := 1, unitKind := 0, unitIndex := c, inj := true }) s
  if hit.any fun f => !f.2 then (s.pocketEcc c 0xFFF true, false) else (s, true)

/-- Cores that run an invocation. -/
def State.runningCores (s : State) : Nat := s.core.cores.cells.countP fun c => c.2.run.isSome

/-! ### The order of steps (R228, R229) -/

/-- Every step of a token in the mask has settled. -/
def Running.waited (r : Running) (mask : Nat) : Bool := r.stream.all fun x => !mask.testBit x.token

/-- The running invocation of a core whose present step is the operation asked for and may start (R229): engine and
control steps wait for their tokens, a seventeenth stream step waits (R228), END for every stream step; nothing starts while a
SIGNAL waits for its gate's home, or after a row that failed its checks. -/
def State.ready (s : State) (c op : Nat) : Option (Running × RStep) :=
  match (s.edge c).run with
  | none => none
  | some r =>
    let x := rcpStep r.recipe r.step
    if x.op != op || !s.coreOnline c || r.signal.isSome || (r.stream.any fun y => y.fault.isSome) then none
    else if x.isStream then (if r.stream.length < 16 then some (r, x) else none)
    else if op = 0x0F then (if r.stream.isEmpty then some (r, x) else none)
    else if r.waited x.sync then some (r, x) else none

/-- The sequencer goes on at step `n`. -/
def State.goStep (s : State) (c n : Nat) : State :=
  match (s.edge c).run with
  | some r => s.setRun c { r with step := n }
  | none => s

/-- Add to the flags of the running invocation (R248). -/
def State.addFlags (s : State) (c : Nat) (f : FlagRec) : State :=
  match (s.edge c).run with
  | some r => (s.setRun c { r with flags := r.flags.add f }).collectFlags f
  | none => s

/-! ### Stream steps (R225, R226, R231) -/

/-- RSA of row `i` of a stream step in its port, which may lie outside it. -/
def rowAddr (r : Running) (x : RStep) (p : InvPort) (i : Int) : Int :=
  (p.base : Int) + 8 * ((x.offset : Int) + r.off r.step 1 + i * (x.sstride : Nat))

/-- Every byte of a row lies within the port. -/
def rowInside (p : InvPort) (a : Int) (len : Nat) : Bool :=
  decide ((p.base : Int) ≤ a) && decide (a + (len : Nat) ≤ ((p.base + p.len : Nat) : Int))

/-- The access a stream step needs of its port. -/
def portGrants (p : InvPort) (x : RStep) : Bool :=
  match x.op with
  | 0x01 => p.read && (!x.hold || p.write)
  | 0x03 => p.read
  | 0x05 => p.atomic
  | _ => p.write

/-- The rows a stream step issues in order, up to the first that fails its checks, with that fault (R225, R226). -/
def streamRows (r : Running) (x : RStep) (p : InvPort) (index : Nat → Int) (len : Nat) :
    List Nat → List (Option Nat × Nat) → List (Option Nat × Nat) × Option Nat
  | [], acc => (acc, none)
  | i :: is, acc =>
    let n := index i
    let a := rowAddr r x p n
    let inside := rowInside p a len
    let pocket := r.pocketAddr x 0 i
    if x.op = 0x03 && (n < 0 || !inside) then streamRows r x p index len is (acc ++ [(none, pocket)])
    else if !inside then (acc, some 0x1)
    else if !portGrants p x then (acc, some 0x2)
    else streamRows r x p index len is (acc ++ [(some a.toNat, pocket)])

/-- A hold set may be acquired (R231): none stands, every granule is homed here, at most 64. -/
def State.holdAllowed (s : State) (r : Running) (gs : List Nat) : Bool :=
  r.hold.isNone && decide (gs.length ≤ 64) && gs.all fun g => s.isHome (g * 128)

/-- Insert in ascending order, each once. -/
def insertUp (x : Nat) : List Nat → List Nat
  | [] => [x]
  | y :: ys => if x < y then x :: y :: ys else if x = y then y :: ys else y :: insertUp x ys

/-- Issue a stream step (R225 to R232): its rows, the fault of a failing row, the hold it asks for. -/
def State.issueStream (s : State) (c : Nat) (r : Running) (x : RStep) : State :=
  match r.inv.ports.find? fun p => p.num = x.port with
  | none => s.recipeFault c 0x2
  | some p =>
    let len := (x.fmt 0).rowBytes x.count
    let list := r.pocketAddr x 3 0
    let index (i : Nat) : Int :=
      if x.op = 0x03 || x.op = 0x04 then toSigned 32 (leNat ((s.edge c).bytes (list + 4 * i) 4)) else (i : Int)
    let (rows, bad) := streamRows r x p index len (List.range x.rows) []
    let misses := (rows.filter fun y => y.1.isNone).length
    let seq := (s.edge c).seq
    let t : StreamStep :=
      { step := r.step, seq := seq, fault := bad, op := x.op, token := x.sync % 8, rowLen := len, rows := rows, float := x.fmt 0 == .fp32,
        hold := x.hold,
        data := if x.op = 0x02 || x.op = 0x04 || x.op = 0x05 then rows.map fun y => (s.edge c).bytes y.2 len else [] }
    let s := s.addFlags c { indexMiss := misses }
    let hold := x.op = 0x01 && x.hold
    let gs := t.granules.foldl (fun l g => insertUp g l) []
    if hold && bad.isNone && !s.holdAllowed r gs then s.recipeFault c 0x3
    else
      let s := s.setEdge c { s.edge c with seq := seq + 1 }
      let s := match (s.edge c).run with
        | some r => s.setRun c { r with
            stream := r.stream ++ [t], step := if bad.isSome then r.step else r.step + 1
            hold := if hold && bad.isNone then some { got := [], want := gs } else r.hold }
        | none => s
      -- the rows before one that fails are moved first
      if bad.isSome then if rows.isEmpty then s.recipeFault c (bad.getD 0) else s
      else if hold then s.acquireHold c else s

/-- The Pocket words a stream step needs are read, then it issues. -/
def State.readAndIssue (s : State) (c : Nat) (r : Running) (x : RStep) : State :=
  match s.pocketCheck c r x with
  | (s, true) => s.issueStream c r x
  | (s, false) => s

/-- A stream step cannot go on with what it met (R252): a read of poisoned or divergent data is a recipe fault; with any other answer
of a home the invocation ends as that says (R227). -/
def State.streamFails (s : State) (c st sub : Nat) : State :=
  if st = St.divergent then s.recipeFault c 7
  else if st = St.poisonRead then s.recipeFault c 6
  else match (s.edge c).run with
  | some r => s.endInvocation c r st sub
  | none => s

/-- Two stream steps that land in issue order (R229): two that move into the same Pocket word, two stores to the same granule, a load
and a store of the same granule by one core (R427). -/
def StreamStep.meets (x y : StreamStep) : Bool :=
  let words (z : StreamStep) (a : Nat) : Bool := z.rows.any fun r => decide (r.2 / 8 ≤ a) && decide (8 * a < r.2 + z.rowLen)
  if x.writes || y.writes then x.granules.any y.granules.contains
  else x.rows.any fun r => (List.range (ceilDiv x.rowLen 8 + 1)).any fun i =>
    decide (8 * (r.2 / 8 + i) < r.2 + x.rowLen) && words y (r.2 / 8 + i)

/-- The steps that are performed before number `i` may settle, itself the last: those of its token, and whatever lands before one of
them. -/
def stepsBefore (xs : List StreamStep) (i : Nat) : List Nat :=
  let need (l : List Nat) (j : Nat) : Bool :=
    match xs[j]? with
    | none => false
    | some y => l.any fun k => (xs[k]?).any fun x => y.token = x.token || y.meets x
  (List.range i).reverse.foldl (fun l j => if need l j then j :: l else l) [i]

/-- Perform stream steps of a core, by their places in issue order (R229): a load under a hold waits until every granule is held, and
steps that meet endpoint copies or a hold of another core wait, as do those whose bytes stand at other members. True: all are done. A
step that has been performed keeps its place until it settles, and is not repeated. -/
def State.landSteps (s : State) (c : Nat) : List Nat → State × Bool
  | [] => (s, true)
  | i :: is =>
    match (s.edge c).run with
    | none => (s, false)
    | some r =>
      match r.stream[i]? with
      | none => (s, false)
      | some x =>
        if x.op = 1 && x.hold && (r.hold.any fun h => !h.want.isEmpty) then (s, false)
        else
          let gs := x.granules
          let w := coreWaiter c x.seq
          let near := gs.filter fun g => s.isHome (g * 128)
          match s.prepare w (if x.op = 5 then near else if x.writes then [] else gs) (if x.writes then gs else []) with
          | (s, true) => (s, false)
          | (s, false) =>
            match s.performStream c x with
            | (s, some f) => (s.streamFails c f.1 f.2, false)
            | (s, none) =>
              let s := s.dropFetched w
              let s := match (s.edge c).run with
                | some r => s.setRun c { r with
                    stream := r.stream.set i { x with rows := [], data := [], hold := false }
                    settled := r.settled || (x.writes && s.noneAway w) }
                | none => s
              s.landSteps c is

/-- The first stream step of a token settles, once it and what lands before it have been performed and every member it wrote at has
answered (R228). -/
def State.settleToken (s : State) (c token : Nat) : State :=
  match (s.edge c).run with
  | none => s
  | some r =>
    match r.stream.findIdx? fun x => x.token = token with
    | none => s
    | some i =>
      match s.landSteps c (stepsBefore r.stream i) with
      | (s, false) => s
      | (s, true) =>
        match (s.edge c).run with
        | none => s
        | some r =>
          match r.stream[i]? with
          | none => s
          | some x =>
            if !s.noneAway (coreWaiter c x.seq) then s
            else match x.fault with
            | some code => s.recipeFault c code
            | none => s.setRun c { r with stream := r.stream.eraseIdx i, settled := r.settled || x.writes }

/-- A SIGNAL has been performed at its gate's home: the sequencer goes on (R247). -/
def State.signalled (s : State) (c : Nat) : State :=
  match (s.edge c).run with
  | some r => s.setRun c { r with settled := true, signal := none, step := r.step + 1 }
  | none => s

/-- Another member answers what a core asked of it (R219, R247): a SIGNAL's gate has been updated, or may not be; a step's writes have
committed, or fail. What no step asks for any more ends there. -/
def State.coreAnswered (s : State) (item : Nat) (x : Away) (st sub : Nat) : State :=
  let s := s.dropAway item
  let id := x.owner.getD 0
  let good := st = St.done || st = St.donePartial
  match waiterCore id with
  | none => s
  | some c =>
    match (s.edge c).run with
    | none => s
    | some r =>
      if r.signal = some item then if good then s.signalled c else s.recipeFault c 0x2
      else if !good && s.stillAsked id then s.streamFails c st sub
      else s

/-! ### Engines (R235 to R243) -/

/-- Compute modes (R235). -/
inductive EngineMode where
  | int8 | int32 | fp8 | half | fp32
  deriving DecidableEq, Repr

def EngineMode.lanes : EngineMode → Nat
  | .int8 => 32 | .int32 => 8 | .fp8 => 32 | .half => 16 | .fp32 => 8

/-- Formats of a step's sources. -/
def RStep.sources (x : RStep) : List Fmt := ((usesOp x.op).filter (· != 0)).map x.fmt

def Fmt.isFp8 (f : Fmt) : Bool := f == .e4m3 || f == .e5m2 || f.isMx

/-- The mode of an operation on sources of some formats, the first line that applies (R235). -/
def modeFor (op : Nat) (fs : List Fmt) : EngineMode :=
  if [0x20, 0x21, 0x22].contains op && fs.all (fun f => f == .int8 || f == .rowscale) then .int8
  else if op = 0x18 || op = 0x19 then .fp32
  else if [0x11, 0x12, 0x13, 0x15, 0x16, 0x1A, 0x1B].contains op && fs.all (· == .int32) then .int32
  else if fs.all Fmt.isFp8 then .fp8
  else if fs.all (fun f => f == .bf16 || f == .fp16 || f.isFp8) then .half
  else .fp32

/-- The mode of a step. -/
def RStep.mode (x : RStep) : EngineMode := modeFor x.op x.sources

/-- The value of a scalar register as an operand (R246). -/
def scalarVal (f : Fmt) (v : Nat) : Val := if f == .int32 then Val.ofInt (toSigned 32 v) else decodeFp .fp32 v

/-- Row `i` of source operand `k`: its values, integers beyond FP32 rounded in FP32 mode (R235). -/
def State.sourceRow (s : State) (c : Nat) (r : Running) (x : RStep) (k i : Nat) : List Val :=
  let f := x.fmt k
  let vs :=
    if refScalar (x.ref k) then List.replicate x.count (scalarVal f (r.scalars.getD (refReg (x.ref k)) 0))
    else decodeRow f ((s.edge c).bytes (r.pocketAddr x k i) (f.rowBytes x.count)) x.count
  if f == .int32 && x.mode != .int32 then vs.map toFp32 else vs

/-- One element of an element-wise operation: stage 1 of R236, and INT32 saturations. -/
def elementOp (op : Nat) (m : EngineMode) (a b c : Val) : Val × Nat :=
  if m = .int32 then
    let i : Int := match op with
      | 0x11 => a.int + b.int
      | 0x12 => a.int - b.int
      | 0x13 => a.int * b.int
      | 0x15 => max a.int b.int
      | 0x16 => min a.int b.int
      | 0x1A => if a.int < b.int then 1 else 0
      | _ => if c.int != 0 then a.int else b.int
    let (v, n) := satInt32 i
    (Val.ofInt v, n)
  else
    match op with
    | 0x10 => (stage1 a, 0)
    | 0x11 => (stage1 (a.add b), 0)
    | 0x12 => (stage1 (a.sub b), 0)
    | 0x13 => (stage1 (a.mul b), 0)
    | 0x14 => (stage1 ((a.mul b).add c), 0)
    | 0x15 => (stage1 (a.max b), 0)
    | 0x16 => (stage1 (a.min b), 0)
    | 0x17 => (stage1 a.abs, 0)
    | 0x18 => (stage1 (a.div b), 0)
    | 0x19 => (a.sqrt32, 0)
    | 0x1A => (if a.lt false b then Val.ofInt 1 else .zero, 0)
    | _ => (stage1 (if c.isZero then b else a), 0)

/-- The row scale of a source row, 1 for a format without one (R240). -/
def State.rowScale (s : State) (c : Nat) (r : Running) (x : RStep) (k i : Nat) : Val :=
  if x.fmt k == .rowscale then decodeFp .fp32 (leNat ((s.edge c).bytes (r.pocketAddr x k i + x.count) 4)) else Val.ofInt 1

/-- The INT8 elements of a source row as integers. -/
def State.intRow (s : State) (c : Nat) (r : Running) (x : RStep) (k i : Nat) : List Int :=
  ((s.edge c).bytes (r.pocketAddr x k i) x.count).map fun b => toSigned 8 b.toNat

/-- Saturating INT32 addition that counts. -/
def addSat (a b : Int × Nat) : Int × Nat :=
  let (v, n) := satInt32 (a.1 + b.1)
  (v, a.2 + b.2 + n)

/-- DOT and L2SQ of one row (R242, R240): the result of stage 1, INT32 saturations, and whether a source was NaN. -/
def State.rowProduct (s : State) (c : Nat) (r : Running) (x : RStep) (i : Nat) : Val × Nat × Nat :=
  if x.mode = .int8 then
    let as := s.intRow c r x 1 i
    let bs := s.intRow c r x 2 i
    let ts := (as.zip bs).map fun p => ((if x.op = 0x20 then p.1 * p.2 else (p.1 - p.2) * (p.1 - p.2), 0) : Int × Nat)
    let (v, n) := rowSum addSat (0, 0) 32 ts
    let sa := s.rowScale c r x 1 i
    let sb := s.rowScale c r x 2 i
    (if x.fmt 1 == .rowscale || x.fmt 2 == .rowscale then stage1 (((Val.ofInt v).mul sa).mul sb) else Val.ofInt v, n,
     b2n sa.isNan + b2n sb.isNan)
  else
    let as := s.sourceRow c r x 1 i
    let bs := s.sourceRow c r x 2 i
    let ts := (as.zip bs).map fun p => if x.op = 0x20 then p.1.mul p.2 else let d := toFp32 (p.1.sub p.2); d.mul d
    (rowSum add32 .zero x.mode.lanes ts, 0, (as ++ bs).countP Val.isNan)

/-- REDUCE of one element column (R243). -/
def reduceCol (x : RStep) (vs : List Val) : Val × Nat :=
  if x.mode = .int8 && x.fmt 1 == .int8 then
    let is := vs.map fun v => ((v.int, 0) : Int × Nat)
    let (v, n) := ((if x.order then treeSum addSat 13 is else seqSum addSat is).getD (0, 0))
    (Val.ofInt v, n)
  else (((if x.order then treeSum add32 13 vs else seqSum add32 vs).getD .zero), 0)

/-- The values of every D row of an engine step: for each element its value after stage 1 and whether no source of it was
a NaN; with the INT32 saturations and NaN source elements met. -/
def State.engineRows (s : State) (c : Nat) (r : Running) (x : RStep) : List (List (Val × Bool)) × Nat × Nat :=
  match x.op with
  | 0x20 | 0x21 =>
    let rs := (List.range x.rows).map fun i => s.rowProduct c r x i
    (rs.map fun y => [(y.1, y.2.2 == 0)], (rs.map fun y => y.2.1).sum, (rs.map fun y => y.2.2).sum)
  | 0x22 =>
    let rows := (List.range x.rows).map fun i => s.sourceRow c r x 1 i
    let cols := (List.range x.count).map fun j => rows.map fun l => l.getD j .zero
    let es := cols.map fun l => (reduceCol x l, l.countP Val.isNan)
    ([es.map fun e => (e.1.1, e.2 == 0)], (es.map fun e => e.1.2).sum, (es.map fun e => e.2).sum)
  | _ =>
    let uses := usesOp x.op
    let rs := (List.range x.rows).map fun i =>
      let a := s.sourceRow c r x 1 i
      let b := if uses.contains 2 then s.sourceRow c r x 2 i else []
      let d := if uses.contains 3 then s.sourceRow c r x 3 i else []
      (List.range x.count).map fun j =>
        let va := a.getD j .zero
        let vb := b.getD j .zero
        let vd := d.getD j .zero
        let (v, n) := elementOp x.op x.mode va vb vd
        let nans := b2n va.isNan + b2n vb.isNan + b2n vd.isNan
        (v, nans == 0, n, nans)
    (rs.map fun l => l.map fun e => (e.1, e.2.1), (rs.map fun l => (l.map fun e => e.2.2.1).sum).sum,
     (rs.map fun l => (l.map fun e => e.2.2.2).sum).sum)

/-- Write a scalar register of the running invocation (R246). -/
def State.setScalar (s : State) (c n v : Nat) : State :=
  match (s.edge c).run with
  | some r => s.setRun c { r with scalars := r.scalars.set n (v % 2 ^ 32) }
  | none => s

/-- Output elements of a step counted (R241). -/
def State.drew (s : State) (c n : Nat) : State :=
  match (s.edge c).run with
  | some r => s.setRun c { r with drawn := r.drawn.set r.step (r.drawn.getD r.step 0 + n) }
  | none => s

/-- Write the results of an engine step, row after row, narrowed to FMT_D (R236 stage 2). -/
def State.writeRows (s : State) (c : Nat) (r : Running) (x : RStep) (i : Nat) : List (List (Val × Bool)) → State
  | [] => s
  | row :: rows =>
    let k := match (s.edge c).run with
      | some r => r.drawn.getD r.step 0
      | none => 0
    let (bytes, n) := encodeRow (x.fmt 0) { mode := x.rnd, seed := r.inv.seed, step := r.step } x.sat k row
    let s := (s.pokePocket c (r.pocketAddr x 0 i) bytes).drew c row.length
    (s.addFlags c { saturated := n.saturated, nanMade := n.nanMade }).writeRows c r x (i + 1) rows

/-- Bytes of an unsettled load that an engine step may already see, word by word (R229): which of them it sees is open. -/
def State.landEarly (s : State) (c : Nat) (x : StreamStep) : State :=
  if x.writes then s
  else
    (x.rows.foldl (fun (s : State) y =>
      let d := match y.1 with
        | some a => s.bytes a x.rowLen
        | none => List.replicate x.rowLen 0
      (List.range (ceilDiv x.rowLen 8)).foldl (fun (s : State) j =>
        if Config.raceLate s.fresh then (s.pokePocket c (y.2 + 8 * j) ((d.drop (8 * j)).take 8)).tickFresh
        else s.tickFresh) s) s)

/-- Run an engine step (R229, R235 to R243): sources are read, results narrowed and written, flags counted. -/
def State.runEngine (s : State) (c : Nat) (r : Running) (x : RStep) : State :=
  let s := r.stream.foldl (fun (s : State) t => s.landEarly c t) s
  let (rows, sat, nans) := s.engineRows c r x
  let s := s.addFlags c { nanIn := nans, saturated := sat }
  let s :=
    if x.op = 0x10 && x.fmt 0 == .raw8 && x.fmt 1 == .raw8 then
      -- uninterpreted bytes
      (List.range x.rows).foldl (fun (t : State) i =>
        t.pokePocket c (r.pocketAddr x 0 i) ((s.edge c).bytes (r.pocketAddr x 1 i) x.count)) s
    else if x.op = 0x10 && (x.fmt 0 == .raw8 || x.fmt 1 == .raw8) then
      -- what a conversion of uninterpreted bytes gives is not stated
      ((List.range x.rows).foldl (fun (s : State) i =>
        (s.pokePocket c (r.pocketAddr x 0 i) (toLe ((x.fmt 0).rowBytes x.count) (Config.openValue s.fresh))).tickFresh) s)
    else if refScalar x.d then
      let first := ((rows.headD []).take 1)
      let (bytes, n) := encodeRow (x.fmt 0) { mode := x.rnd, seed := r.inv.seed, step := r.step } x.sat
        (r.drawn.getD r.step 0) first
      ((s.setScalar c (refReg x.d) (leNat bytes)).drew c 1).addFlags c { saturated := n.saturated, nanMade := n.nanMade }
    else s.writeRows c r x 0 rows
  s.goStep c (r.step + 1)

/-! ### HASH and TOPK (R247) -/

/-- HASH of one key. -/
def hashKey (key salt n : Nat) : Nat := mix64 ((key ^^^ salt) % 2 ^ 64) % n

/-- Run HASH: for an N outside 1 to 2^31 − 1 the spec states no result. -/
def State.runHash (s : State) (c : Nat) (r : Running) (x : RStep) : State :=
  let s := r.stream.foldl (fun (s : State) t => s.landEarly c t) s
  let reg (i : Nat) := r.scalars.getD (i % 16) 0
  let n := reg (refReg x.b)
  let salt := reg (refReg x.c) + 2 ^ 32 * reg (refReg x.c + 1)
  let ok := decide (1 ≤ n) && decide (n ≤ 2147483647)
  let out (i : Nat) : List Nat := (List.range x.count).map fun j =>
    if ok then hashKey (leNat ((s.edge c).bytes (r.pocketAddr x 1 i + 8 * j) 8)) salt n
    else Config.openValue (s.fresh + i * x.count + j) % 2 ^ 32
  let s1 := { s with fresh := if ok then s.fresh else s.fresh + x.rows * x.count }
  let s1 := if refScalar x.d then s1.setScalar c (refReg x.d) ((out 0).headD 0)
    else (List.range x.rows).foldl (fun (t : State) i =>
      t.pokePocket c (r.pocketAddr x 0 i) ((out i).map (toLe 4)).flatten) s1
  s1.goStep c (r.step + 1)

/-- One entry of a TOPK list stands before another: the lower key, then the lower id. -/
def topkBefore (a b : Nat × Nat) : Bool :=
  let x := decodeFp .fp32 a.1
  let y := decodeFp .fp32 b.1
  if x.lt false y then true else if y.lt false x then false else decide (toSigned 32 a.2 < toSigned 32 b.2)

/-- Insert into a sorted list, behind entries that do not stand after it. -/
def topkInsert (e : Nat × Nat) : List (Nat × Nat) → List (Nat × Nat)
  | [] => [e]
  | f :: fs => if topkBefore e f then e :: f :: fs else f :: topkInsert e fs

/-- Merge candidates into a list of at most `k` entries. -/
def topkMerge (k : Nat) (l cands : List (Nat × Nat)) : List (Nat × Nat) :=
  (cands.foldl (fun l e => topkInsert e l) l).take k

/-- Run TOPK: for a length above K the spec states no result. -/
def State.runTopk (s : State) (c : Nat) (r : Running) (x : RStep) : State :=
  let s := r.stream.foldl (fun (s : State) t => s.landEarly c t) s
  let k := x.rows
  let len := r.scalars.getD (refReg x.c) 0
  let word (a : Nat) := leNat ((s.edge c).bytes a 4)
  let cands := (List.range x.count).map fun i => (word (r.pocketAddr x 1 0 + 4 * i), word (r.pocketAddr x 2 0 + 4 * i))
  let good := cands.filter fun e => !(decodeFp .fp32 e.1).isNan
  let at' := r.pocketAddr x 0 0
  let old := (List.range len).map fun i => (word (at' + 8 * i), word (at' + 8 * i + 4))
  let s1 := s.addFlags c { topkNan := cands.length - good.length }
  let s1 :=
    if len ≤ k then
      let l := topkMerge k old good
      (s1.pokePocket c at' (l.map fun e => toLe 4 e.1 ++ toLe 4 e.2).flatten).setScalar c (refReg x.c) l.length
    else
      let s2 := (s1.pokePocket c at' (toLe (8 * k) (Config.openValue s1.fresh))).setScalar c (refReg x.c)
        (Config.openValue (s1.fresh + 1))
      s2.tickFresh.tickFresh
  s1.goStep c (r.step + 1)

/-! ### Loops (R249) -/

/-- LOOP: enters the loop with its count, or skips the body. -/
def State.enterLoop (s : State) (c : Nat) (r : Running) (x : RStep) : State :=
  let n := if refScalar x.a then r.scalars.getD (refReg x.a) 0 else x.iter
  if n = 0 then s.goStep c (matchingEnd r.recipe r.step + 1)
  else s.setRun c { r with loops := (r.step, n) :: r.loops, step := r.step + 1 }

/-- Running offsets after a jump back over the loop that began at `first`: every operand whose innermost loop it is gains
its INC, a store-side one its SINC. -/
def bumpOffsets (r : Running) (first : Nat) : Tab Int :=
  let nest := (loopNest (rcpAll r.recipe) []).getD []
  let mine := nest.filter fun y => y.2.head? = some first
  mine.foldl (fun (t : Tab Int) y =>
    let x := rcpStep r.recipe y.1
    (usesOp x.op).foldl (fun (t : Tab Int) k =>
      let inc : Int := if x.isStream && k = 1 then x.sinc else if x.isStream && k = 2 then 0 else refInc (x.ref k)
      if inc = 0 || (!(x.isStream) && refScalar (x.ref k)) then t
      else t.set (4 * y.1 + k) (t.getD (4 * y.1 + k) 0 + inc)) t) r.offs

/-- ENDLOOP: jumps back while iterations are left. -/
def State.closeLoop (s : State) (c : Nat) (r : Running) : State :=
  match r.loops with
  | [] => s.goStep c (r.step + 1)
  | (first, n) :: outer =>
    if n > 1 then s.setRun c { r with loops := (first, n - 1) :: outer, offs := bumpOffsets r first, step := first + 1 }
    else s.setRun c { r with loops := outer, step := r.step + 1 }

end Sys2Proof.Machine
end

