-- ==== Sys2Proof/Machine/XltOps.lean ====
section
/-!
DEFINITION. Translation operations the commands share: fault records, revocations, the ATC and the host-memory mover
(spec/04_translation.md).
-/
namespace Sys2Proof.Machine

open Sys2Proof

/-! ### Fault records (R175) -/

/-- Record the first XLT_FAULT since FAULT_LOGGED was last cleared. -/
def State.logFault (s : State) (src sub : Nat) (host : Bool) (addr : Nat) : State :=
  if s.fld F.XLT_EVENT_FAULT_LOGGED = 1 then s
  else
    ((((((s.setFld F.XLT_FAULT_INFO_SUBCODE sub).setFld F.XLT_FAULT_INFO_SRC src).setFld F.XLT_FAULT_INFO_HOST
      (b2n host)).setFld F.XLT_FAULT_INFO_VALID 1).setFld F.XLT_FAULT_ADDR_LO_ADDR (nbf addr 31 0)).setFld
      F.XLT_FAULT_ADDR_HI_ADDR (nbf addr 63 32)).raise F.XLT_EVENT_FAULT_LOGGED

/-! ### Packet fields of opcodes 0x00 to 0x2F (R163) -/

def xpSrcRsa (p : Packet) : Nat := pkField p 8 7
def xpTargetCtx (p : Packet) : Nat := bf p 75 64
def xpSegMask (p : Packet) : Nat := pkField p 10 2
def xpTargetSeg (p : Packet) : Nat := bf p 83 80
def xpStore (p : Packet) : Nat := pkField p 16 7
def xpLen (p : Packet) : Nat := pkField p 24 4
def xpTile (p : Packet) : Nat := bf p 228 224
def xpAdvice (p : Packet) : Nat := bf p 227 224
def xpAtomicTile (p : Packet) : Bool := bit p 232
def xpNoPri (p : Packet) : Bool := bit p 233
def xpWriteIntent (p : Packet) : Bool := bit p 234
def xpSegment (p : Packet) : Nat := bf p 243 240

/-- Parameter check 9 of opcodes 0x00 to 0x2F (R152, R164). -/
def State.xltParams (s : State) (src : Nat) (p : Packet) : Option Nat :=
  let op := pkOpcode p
  let hostOp := op = 0x01 || op = 0x02 || op = 0x08 || op = 0x0C || op = 0x0D
  let mig := op = 0x0C || op = 0x0D
  let lenOp := op = 0x01 || op = 0x02 || op = 0x03 || op = 0x08
  let tileOp := op = 0x01 || op = 0x02 || mig
  let sg := s.seg (pkContext p) (xpSegment p)
  if pkPblk p || (hostOp && src ≥ 128) then some 0x40
  else if (lenOp && (xpLen p = 0 || xpLen p > 2147483648)) || (op = 0x09 && xpLen p = 0) ||
      (tileOp && (xpTile p < 12 || xpTile p > 21)) then some 0x41
  else if op = 0x03 && xpSrcRsa p < xpStore p + xpLen p && xpStore p < xpSrcRsa p + xpLen p then some 0x42
  else if (op = 0x20 && xpSegMask p = 0) || (op = 0x0C && sg.state != .pending) || (op = 0x0D && sg.state != .valid)
    then some 0x43
  else if mig && sg.bytes > 2 ^ 44 then some 0x44
  else if op = 0x09 && xpAdvice p > 5 then some 0x45
  else if (op = 0x20 || op = 0x21) && !(s.ctx (xpTargetCtx p)).valid then some 0x46
  else none

/-- The store ranges that check 10 translates in full (R162, R166). The DMA opcodes are checked by `dmaAccept`. -/
def xltRanges (p : Packet) : List (List Access × Nat × Nat) :=
  match pkOpcode p with
  | 0x03 => [([.read], xpSrcRsa p, xpLen p), ([.write], xpStore p, xpLen p)]
  | 0x09 => [([.read], xpStore p / 4096 * 4096, 4096 * xpLen p)]
  | _ => []

/-! ### The DMA opcodes -/

/-- What a DMA command moves (R157, R169, R170). -/
structure DmaOp where
  host : Nat
  rsa : Nat
  len : Nat
  toStore : Bool
  tile : Nat
  atomic : Bool
  noPri : Bool
  mig : Bool
  /-- PREFETCH_HOST: translations only -/
  prefetch : Bool := false
  /-- the pages must be writable -/
  write : Bool
  /-- the bytes come from the command's own output (R275) -/
  fromBuffer : Bool := false
  deriving DecidableEq, Repr

/-- The DMA of an entry; `none` for other opcodes. -/
def State.dmaOp (s : State) (e : Entry) : Option DmaOp :=
  let p := e.packet
  let sg := s.seg (pkContext p) (xpSegment p)
  match e.buffer with
  | some (host, data, _) =>
    some { host := host, rsa := 0, len := data.length, toStore := false, tile := 16, atomic := false, noPri := false,
           mig := false, write := true, fromBuffer := true }
  | none =>
  match pkOpcode p with
  | 0x01 => some { host := xpHost p, rsa := xpStore p, len := xpLen p, toStore := true, tile := xpTile p,
                   atomic := xpAtomicTile p, noPri := xpNoPri p, mig := false, write := false }
  | 0x02 => some { host := xpHost p, rsa := xpStore p, len := xpLen p, toStore := false, tile := xpTile p,
                   atomic := xpAtomicTile p, noPri := xpNoPri p, mig := false, write := true }
  | 0x08 => some { host := xpHost p, rsa := 0, len := xpLen p, toStore := false, tile := 12, atomic := false,
                   noPri := xpNoPri p, mig := false, prefetch := true, write := xpWriteIntent p }
  | 0x0C => some { host := xpHost p, rsa := sg.first, len := sg.bytes, toStore := true, tile := xpTile p,
                   atomic := xpAtomicTile p, noPri := xpNoPri p, mig := true, write := false }
  | 0x0D => some { host := xpHost p, rsa := sg.first, len := sg.bytes, toStore := false, tile := xpTile p,
                   atomic := xpAtomicTile p, noPri := xpNoPri p, mig := true, write := true }
  | _ => none

/-- First offset of the tile of an offset, and of the next tile: tiles are aligned in host address space (R157). -/
def DmaOp.tileStart (d : DmaOp) (off : Nat) : Nat := (d.host + off) / 2 ^ d.tile * 2 ^ d.tile - d.host
def DmaOp.tileEnd (d : DmaOp) (off : Nat) : Nat := min d.len (((d.host + off) / 2 ^ d.tile + 1) * 2 ^ d.tile - d.host)
/-- Host page of an offset, and the offset just past it. -/
def DmaOp.page (d : DmaOp) (off : Nat) : Nat := (d.host + off) / 4096
def DmaOp.pageEnd (d : DmaOp) (off : Nat) : Nat := min d.len ((d.page off + 1) * 4096 - d.host)

/-- Translate the store range of a DMA command byte by byte at acceptance (R159): the bytes that translate before the
first failure, that failure, and the segments met. MIGRATE_IN's own PENDING segment maps its extent (R146). -/
def State.dmaTranslate (s : State) (e : Entry) (d : DmaOp) : Nat × (Nat × Nat) × Nat :=
  let ctx := pkContext e.packet
  let comp := pkComp e.packet
  let acc : Access := if d.toStore then .write else .read
  let step (r : Nat × Option (Nat × Nat) × Nat) (b : Nat) : Nat × Option (Nat × Nat) × Nat :=
    match r with
    | (n, some f, m) => (n, some f, m)
    | (_, none, m) =>
      let ans := if pkOpcode e.packet = 0x0C then
          let sg := s.seg ctx (xpSegment e.packet)
          if !sg.allows acc then Except.error (St.xltDenied, 0x40)
          else if (s.slab b).sealed then Except.error (St.xltDenied, 0x60)
          else if (s.slab b).comp != some comp || (s.slab b).withdrawing then Except.error (St.xltFault, 0x41)
          else Except.ok (xpSegment e.packet)
        else s.translateByte ctx comp [acc] b
      match ans with
      | .error f => (b - d.rsa, some f, m)
      | .ok i => (d.len, none, m ||| 2 ^ i)
  let (n, f, m) := (slabStarts d.rsa d.len).foldl step (d.len, none, 0)
  (n, f.getD (0, 0), m)

/-- Check 10 of a DMA command (R159): the failure, or the entry with what it captured. -/
def State.dmaAccept (s : State) (e : Entry) (d : DmaOp) : Except (Nat × Nat × Nat) Entry :=
  if d.prefetch then .ok e
  else if d.rsa + d.len > 2 ^ 56 then .error (St.xltFault, 0x42, d.rsa)
  else
    let (n, f, m) := s.dmaTranslate e d
    let need := if d.atomic then d.tileEnd 0 else 1
    if n < min need d.len then .error (f.1, f.2, d.rsa + n)
    else
      let good := if d.atomic && n < d.len then d.tileStart n else n
      .ok { e with
        captures := [{ first := d.rsa, len := n, segs := m, access := if d.toStore then 1 else 0 }]
        dma := { e.dma with good := good, storeFail := f } }

/-! ### The address translation cache (R153) -/

def State.atc (s : State) (port : Nat) : List AtcEntry := s.xlt.atc.getD port []
def State.setAtc (s : State) (port : Nat) (l : List AtcEntry) : State :=
  { s with xlt := { s.xlt with atc := s.xlt.atc.set port l } }

def AtcEntry.hits (a : AtcEntry) (func page : Nat) : Bool :=
  a.func = func && decide (a.page ≤ page) && decide (page < a.page + a.pages)

/-- A translation of the page with the permission needed is held. -/
def State.atcHas (s : State) (func page : Nat) (write : Bool) : Bool :=
  (s.atc (func / 64)).any fun a => a.hits func page && (a.write || !write)

/-- Use an entry: it becomes the most recently used. -/
def State.atcTouch (s : State) (func page : Nat) : State :=
  let l := s.atc (func / 64)
  match l.find? fun a => a.hits func page with
  | some a => s.setAtc (func / 64) (a :: l.erase a)
  | none => s

/-- Enter a translation; the least recently used of 16,384 goes. -/
def State.atcAdd (s : State) (a : AtcEntry) : State :=
  let l := (s.atc (a.func / 64)).filter fun b => !(b.func = a.func && b.page = a.page && b.pages = a.pages)
  s.setAtc (a.func / 64) ((a :: l).take 16384)

/-- Page requests outstanding on a port (R156, XLT_PRI_OUT). -/
def State.priOut (s : State) (port : Nat) : Nat :=
  ((s.xlt.groups.filter fun g => g.func / 64 = port).map fun g => g.pages.length).sum

/-- Page requests are not allowed for the command (R156): the subcode that ends it. -/
def State.priRefused (s : State) (e : Entry) (d : DmaOp) : Option Nat :=
  let port := e.src / 64
  if d.noPri || !(s.cmdq.priEnabled.getD port false) || s.cmdq.priAlloc.getD port 0 = 0 then some 0x48
  else if (s.source e.src).priBlocked then some 0x4A
  else none

/-! ### The mover -/

/-- Translation Requests outstanding on a port (R153: at most 256). -/
def State.atsOut (s : State) (port : Nat) : Nat :=
  ((s.entriesWhere fun _ e => e.src / 64 = port).map fun c => c.2.dma.want.length).sum

/-- Ask for one page's translation (R155), with NW when the command only reads it. -/
def State.requestPage (s : State) (id : Nat) (e : Entry) (d : DmaOp) (page : Nat) : State :=
  (s.modEntry id fun x => { x with dma := { x.dma with want := addNew x.dma.want page } }).emit
    (.translation e.src page (!d.write))

/-- Request translations in ascending order, the mover's own page and up to 64 pages ahead of it (R155), and again those whose page
request succeeded (R156), within what the port may have outstanding (R153). -/
def State.requestAhead (s : State) (id : Nat) (d : DmaOp) : State :=
  match s.entry? id with
  | none => s
  | some e =>
    let first := d.page (if d.prefetch then 4096 * e.dma.moved else e.dma.issued)
    let last := (d.host + d.len - 1) / 4096
    let pages := (List.range 65).filterMap fun i => if first + i ≤ last then some (first + i) else none
    let ask := pages.filter fun pg => !s.atcHas e.src pg d.write && !e.dma.want.contains pg &&
      !(e.dma.missing.any fun m => m.page = pg && !m.again)
    (ask.take (256 - s.atsOut (e.src / 64))).foldl (fun s pg => s.requestPage id e d pg) s

/-- Issue a page request group for the missing pages not asked for yet (R156). -/
def State.requestGroup (s : State) (id : Nat) (d : DmaOp) : State :=
  match s.entry? id with
  | none => s
  | some e =>
    let open' := e.dma.missing.filter fun m => !m.asked && !m.again && m.fail.isNone && !e.dma.want.contains m.page
    if open'.isEmpty then s
    else match s.priRefused e d with
    | some sub =>
      s.setEntry id { e with dma := { e.dma with
        missing := mapIf (fun (m : MissPage) => !m.asked && !m.again && m.fail.isNone) (fun m => { m with fail := some sub })
          e.dma.missing } }
    | none =>
      let room := s.cmdq.priAlloc.getD (e.src / 64) 0 - s.priOut (e.src / 64)
      let pages := (open'.map (·.page)).take (min 64 room)
      if pages.isEmpty then s
      else
        let g : PageGroup := { id := s.xlt.nextGroup, entry := id, func := e.src, pages := pages }
        let s := { s with xlt := { s.xlt with groups := s.xlt.groups ++ [g], nextGroup := s.xlt.nextGroup + 1 } }
        let s := s.setEntry id { e with dma := { e.dma with
          missing := mapIf (fun (m : MissPage) => pages.contains m.page) (fun m => { m with asked := true }) e.dma.missing
          requests := e.dma.requests + pages.length } }
        s.emit (.pageRequest e.src (pages.headD 0) pages.length)

/-- Effect classes a DMA command may have (R162). -/
def DmaOp.classes (d : DmaOp) : Nat := (if d.toStore then 1 else 2) + (if d.mig then 64 else 0)

/-- What the completion of a DMA command reports (R160, R165). -/
def DmaOp.report (d : DmaOp) (e : Entry) (o : Outcome) : Outcome := if d.fromBuffer then o else e.progress o

/-- ABSENT of a DMA command that ends at a fault point (R160, R162). -/
def DmaOp.absent (d : DmaOp) : Nat :=
  if d.prefetch then 0xFF else if d.toStore then 0xFE else if d.mig then 0xBD else 0xFD

/-- End a DMA command at a fault (R160); `off` is the offset of the faulting byte. A transfer of a command's own output answers no
item any more. -/
def State.endFault (s : State) (id : Nat) (d : DmaOp) (st sub : Nat) (host : Bool) (off : Nat) : State :=
  match s.entry? id with
  | none => s
  | some e =>
    let s := if st = St.xltFault then
        s.logFault e.src sub host ((if host then d.host else d.rsa) + off) else s
    let s := (s.withdraw id).modEntry id fun x =>
      { x with items := x.items.filter fun i => !(x.buffer.any fun b => b.2.2 = i.id) }
    s.finish id fun o => { d.report e o with status := st, subcode := sub, absent := d.absent }

/-- Some page of a range is homed here. -/
def State.homesPart (s : State) (a n : Nat) : Bool := (pagesOf a n).any fun pg => s.isHome (pg * 4096)

/-- All bytes have moved: items of other homes are awaited, then the command is DONE (R58, R82). -/
def State.endDma (s : State) (id : Nat) (d : DmaOp) : State :=
  match s.entry? id with
  | none => s
  | some e =>
    if d.fromBuffer then (s.modEntry id fun x => { x with moving := false }).answerItem id ((e.buffer.map (·.2.2)).getD 0) St.done 0 true
    else s.conclude id (!d.prefetch && s.homesPart d.rsa d.len) (if d.prefetch then 0 else d.classes) (d.report e)

/-- The destination address of an offset: granules of it are written whole (R157 step 1, R160). -/
def DmaOp.dest (d : DmaOp) (off : Nat) : Nat := (if d.toStore then d.rsa else d.host) + off

/-- Write out the held bytes up to the last whole destination granule, or all of them at the end of the range. False: a
granule is held by an endpoint and must come back first. -/
def State.flush (s : State) (id : Nat) (d : DmaOp) : State × Bool :=
  match s.entry? id with
  | none => (s, true)
  | some e =>
    let x := e.dma
    let total := x.held.length
    let n := if x.moved + total ≥ d.len then total
      else
        let past := d.dest (x.moved + total)
        if past % 128 ≤ total then total - past % 128 else 0
    if n = 0 then (s, true)
    else if d.toStore then
      let a := d.rsa + x.moved
      match s.prepare id [] (granulesOf a n) with
      | (s, true) => (s, false)
      | (s, false) =>
        let s := s.accessFor true (pagesOf a n)
        let here := s.homesPart a n
        match s.writeStore a (x.held.take n) with
        | (s, none) =>
          (s.modEntry id fun e => { e with
            begun := if here then e.begun ||| d.classes else e.begun
            dma := { e.dma with moved := x.moved + n, held := x.held.drop n } }, true)
        | (s, some (st, sub)) =>
          (s.modEntry id fun e => { e with dma := { e.dma with fail := some (x.moved, st, sub), held := [] } }, true)
    else
      let s := s.emit (.hostWrite e.src (d.host + x.moved) (x.held.take n) true)
      (s.modEntry id fun e => { e with
        begun := e.begun ||| d.classes, dma := { e.dma with moved := x.moved + n, held := x.held.drop n } }, true)

/-- The first missing page between two that has failed for good. -/
def Dma.deadPage (x : Dma) (lo hi : Nat) : Option MissPage :=
  (x.missing.filter fun m => lo ≤ m.page && m.page ≤ hi && m.fail.isSome).foldl (fun (b : Option MissPage) m =>
    if b.all fun y => decide (m.page < y.page) then some m else b) none

/-- Why the mover may not go on, when a failure stands before or at `off`: the failure, whether it is on the host side, and the
offset of the faulting byte (R157, R158). -/
def Entry.faultAt (e : Entry) (d : DmaOp) (off : Nat) : Option (Nat × Nat × Bool × Nat) :=
  let x := e.dma
  let here := match x.fail with
    | some (o, st, sub) => if o ≤ off then some (st, sub, decide (st = St.xltFault), o) else none
    | none => none
  match here with
  | some f => some f
  | none =>
    if !d.prefetch && off ≥ x.good && off < d.len then
      some (x.storeFail.1, x.storeFail.2, false, ((e.captures.head?).map (·.len)).getD x.good)
    else
      let lo := d.page (if d.atomic then max 0 (d.tileStart off) else off)
      let hi := if d.atomic then d.page (d.tileEnd off - 1) else lo
      (x.deadPage lo hi).map fun m => (St.xltFault, m.fail.getD 0, true, max off (m.page * 4096 - d.host))

/-- Every page the next piece needs is translated (R155, R158). -/
def State.pieceReady (s : State) (e : Entry) (d : DmaOp) (off : Nat) : Bool :=
  let lo := d.page (if d.atomic then d.tileStart off else off)
  let hi := if d.atomic then d.page (d.tileEnd off - 1) else d.page off
  (List.range (hi + 1 - lo)).all fun i => s.atcHas e.src (lo + i) d.write

/-- Move on as far as translations allow: one page at a time, at most `fuel` pages (R155, R157). Reads of host memory
are issued and their data comes back with HOST_DMA_COMPLETION; writes to it are posted. -/
def State.pump (s : State) (id : Nat) : Nat → State
  | 0 => s
  | fuel + 1 =>
    match s.entry? id with
    | none => s
    | some e =>
      match s.dmaOp e with
      | none => s
      | some d =>
        let x := e.dma
        let off := x.issued
        if d.prefetch then
          let pg := d.page 0 + x.moved
          let last := (d.host + d.len - 1) / 4096
          if pg > last then s.endDma id d
          else if s.atcHas e.src pg d.write then
            ((s.atcTouch e.src pg).setEntry id { e with dma := { x with moved := x.moved + 1 } }).pump id fuel
          else match x.missing.find? fun m => m.page = pg && m.fail.isSome with
            | some m => s.endFault id d St.xltFault (m.fail.getD 0) true (pg * 4096 - d.host)
            | none => s
        else if x.moved ≥ d.len then s.endDma id d
        else match e.faultAt d off with
        | some (st, sub, host, o) =>
          if x.reads.isEmpty && x.got.cells.isEmpty then s.endFault id d st sub host o else s
        | none =>
          if off ≥ d.len then s
          else if (d.host + off) / 2 ^ d.tile ≥ (d.host + x.moved) / 2 ^ d.tile + 8 then s
          else if !s.pieceReady e d off then s
          else
            let stop := min (d.pageEnd off) x.good
            let s := s.atcTouch e.src (d.page off)
            if d.toStore then
              ((s.emit (.hostRead e.src (d.host + off) (stop - off))).setEntry id
                { e with dma := { x with issued := stop, reads := x.reads ++ [(off, stop - off)] } }).pump id fuel
            else if d.fromBuffer then
              let data := (e.buffer.map (·.2.1)).getD []
              let s := s.modEntry id fun e => { e with dma := { e.dma with
                issued := stop, held := e.dma.held ++ (data.drop off).take (stop - off) } }
              (s.flush id d).1.pump id fuel
            else
              let a := d.rsa + off
              match s.prepare id (granulesOf a (stop - off)) [] with
              | (s, true) => s
              | (s, false) =>
                let s := (s.accessFor false (pagesOf a (stop - off))).dropFetched id
                match s.checkReads (granulesOf a (stop - off)) with
                | (s, none) =>
                  let s := s.modEntry id fun e => { e with dma := { e.dma with
                    issued := stop, held := e.dma.held ++ s.bytes a (stop - off) } }
                  (s.flush id d).1.pump id fuel
                | (s, some (st, sub, g)) =>
                  let good := max a (g * 128) - a
                  let s := s.modEntry id fun e => { e with dma := { e.dma with
                    issued := off + good, held := e.dma.held ++ s.bytes a good, fail := some (off + good, st, sub) } }
                  (s.flush id d).1.pump id fuel

/-- Go on with a DMA command: its next requests, then its mover. -/
def State.runDma (s : State) (id : Nat) : State :=
  match s.entry? id with
  | none => s
  | some e =>
    match s.dmaOp e with
    | none => s
    | some d =>
      let s := (s.flush id d).1
      let s := (s.requestAhead id d).requestGroup id d
      let s := s.pump id (d.len / 4096 + 3)
      match s.entry? id with
      | some e => if e.phase = .accepted then (s.requestAhead id d).requestGroup id d else s
      | none => s

/-- Start or go on with a DMA command (R154, R155). -/
def State.startDma (s : State) (id : Nat) : State :=
  match s.entry? id with
  | none => s
  | some e =>
    match s.dmaOp e with
    | none => s
    | some d =>
      let s := s.setEntry id { e with started := true, moving := true }
      if !(s.source e.src).atsEnabled then s.endFault id d St.xltFault 0x4C true 0 else s.runDma id

/-- The DMA commands of a function that still run, by entry. -/
def State.runningDma (s : State) (func : Nat) : List Nat :=
  (s.entriesWhere fun _ e => e.src = func && e.accepted && e.started && e.phase = .accepted && e.stop.isNone && !e.marked &&
    (s.dmaOp e).isSome).map (·.1)

/-- A command that names host memory goes on after something it waited for: its mover when it runs, else its requests (R155, R156). -/
def State.dmaGoesOn (s : State) (id : Nat) : State :=
  match s.entry? id with
  | none => s
  | some e =>
    if (s.runningDma e.src).contains id then s.runDma id
    else match s.dmaOp e with
    | some d =>
      if e.accepted && e.phase = .accepted && e.stop.isNone && !e.marked && (s.source e.src).atsEnabled then
        (s.requestAhead id d).requestGroup id d
      else s
    | none => s

/-- Every command of a port that names host memory goes on: requests of one make room for the others (R153, R156). -/
def State.portGoesOn (s : State) (port : Nat) : State :=
  (s.entriesWhere fun _ e => decide (e.src < 128) && e.src / 64 = port && e.accepted && (s.dmaOp e).isSome).foldl
    (fun (s : State) c => s.dmaGoesOn c.1) s

/-! ### Revocation (R170, R173) -/

/-- Change a revocation record, named by the command it belongs to. -/
def State.modRevocation (s : State) (entry : Nat) (f : Revocation → Revocation) : State :=
  { s with xlt := { s.xlt with revocations := mapIf (fun r => r.entry = entry) f s.xlt.revocations } }

/-- A marked command is decided, for every revocation that marked it. -/
def State.decided (s : State) (id : Nat) (f : Revocation → Revocation) : State :=
  { s with xlt := { s.xlt with
    revocations := mapIf (fun r => r.undecided.contains id)
      (fun r => { f r with undecided := r.undecided.filter (· != id) }) s.xlt.revocations } }

/-- Some work item of a command had begun at some home (R173). -/
def Entry.anyBegun (e : Entry) : Bool :=
  e.begun != 0 || e.acked != 0 || !e.served.isEmpty || e.items.any fun i => i.begun

/-- Decide a marked command whose homes have all answered (R173 step 3): released when some item had begun, else every
item is cancelled and it ends REVOKED, which a MIGRATE_OUT counts (R165). -/
def State.decideMarked (s : State) (id : Nat) : State :=
  match s.entry? id with
  | none => s.decided id fun r => r
  | some e =>
    if !e.holdDue.isEmpty then s
    else if e.anyBegun then
      let s := (e.items.filter fun i => i.home != s.sys.member).foldl (fun s i => s.emit (.work i.home i.id 3)) s
      (s.setEntry id { e with marked := false }).decided id fun r =>
        { r with released := addNew r.released id, nReleased := r.nReleased + 1 }
    else
      let by' := s.xlt.revocations.filter fun r => r.undecided.contains id
      let s := e.items.foldl (fun s i => s.emit (.work i.home i.id 1)) s
      let e1 := { e with marked := false, stop := some (.revoked ((by'.head?.map (·.sub)).getD 0x40)),
                         items := e.items.map fun i => { i with cancelled := true } }
      let s := (s.setEntry id (if e.items.isEmpty then e1.endStopped else e1)).decided id fun r => { r with nRevoked := r.nRevoked + 1 }
      (by'.filter fun r => r.sub = 0x41).foldl (fun (s : State) r =>
        s.modEntry r.entry fun x => { x with out := { x.out with countAux := x.out.countAux + 1 } }) s

/-- Mark one command and send its holds (R173 step 2); one that another revocation has marked waits for the same answers. -/
def State.markEntry (s : State) (id : Nat) : State :=
  match s.entry? id with
  | none => s
  | some e =>
    if e.marked then s
    else
      let away := e.items.filter fun i => i.home != s.sys.member
      let s := away.foldl (fun s i => s.emit (.work i.home i.id 2)) s
      (s.setEntry id { e with marked := true, holdDue := away.map (·.id) }).decideMarked id

/-- Steps 1 and 2 of R173, at the acceptance of REVOKE or MIGRATE_OUT (R170). A segment that is not VALID: nothing. -/
def State.beginRevoke (s : State) (id ctx seg sub : Nat) : State :=
  let c := s.ctx ctx
  let sg := c.seg seg
  if sg.state != .valid then s
  else
    let epoch := (c.revEpoch + 1) % 65536
    -- step 1 is its effect of class 6 (R162)
    let s := s.modEntry id fun e => { e with begun := e.begun ||| 64 }
    let s := s.setCtx ctx ({ c with revEpoch := epoch }.setSeg seg { sg with state := .invalid, revoking := true })
    let hit := s.entriesWhere fun i e => i != id && e.accepted && e.proxy.isNone && e.phase = .accepted && e.stop.isNone &&
      pkContext e.packet = ctx && e.captures.any fun k => k.segs.testBit seg
    let r : Revocation := { entry := id, ctx := ctx, seg := seg, sub := sub, epoch := epoch, undecided := hit.map (·.1) }
    let s := { s with xlt := { s.xlt with revocations := s.xlt.revocations ++ [r] } }
    hit.foldl (fun s x => s.markEntry x.1) s

/-- A home has answered a hold (R173 step 3). -/
def State.holdAnswered (s : State) (id item : Nat) (begun : Bool) : State :=
  match s.entry? id with
  | none => s
  | some e =>
    if !e.marked || !e.holdDue.contains item then s
    else
      let s := s.setEntry id { e with
        holdDue := e.holdDue.filter (· != item)
        items := mapIf (fun (i : Item) => i.id = item) (fun i => { i with begun := begun }) e.items }
      s.decideMarked id

/-- Every command that completes before the epoch has completed (R170, R173). -/
def State.drained (s : State) (r : Revocation) : Bool :=
  r.undecided.isEmpty && r.released.all fun id => (s.entry? id).isNone

/-- The endpoint on the port a context's source names (R173 step 4). -/
def State.boundEndpoint (s : State) (ctx : Nat) : Option Nat :=
  let b := (s.ctx ctx).boundSrc
  if b < 128 then none
  else
    let p := s.port (b - 128)
    if p.act.kind != 1 then none
    else if p.act.nodeForm then some (p.partnerId % 512)
    else if p.partnerId ≥ 0x200 then some (p.partnerId - 0x200) else none

/-- Granules of a segment's extent that an endpoint holds. -/
def State.extentHeld (s : State) (sg : Segment) (index : Nat) : List Nat :=
  (s.coh.sf.cells.filter fun c =>
    decide (sg.first ≤ c.1 * 128) && decide (c.1 * 128 < sg.first + sg.bytes) && c.2.indexes.contains index).map (·.1)

/-- The waiter of a revocation's back-invalidations. -/
def revokeWaiter (entry : Nat) : Nat := 2 ^ 46 + entry

/-- Step 4 of R173 at this member (R424): one back-invalidation for each granule of the extent the endpoint holds. -/
def State.backInvalidate (s : State) (id : Nat) (sg : Segment) (index : Nat) : State :=
  (s.extentHeld sg index).foldl (fun s g => s.submitReq
    { id := 0, kind := .backInv id, granule := g, addr := g * 128, src := s.sys.member, index := some index, port := 50,
      tag := 0, cls := 0, ctx := 0, data := [] }) s

/-- Step 4 of R173: every home back-invalidates what the bound endpoint holds of the extent. -/
def State.startBack (s : State) (r : Revocation) : State :=
  if r.backStarted then s
  else
    let s := s.modRevocation r.entry fun r => { r with backStarted := true }
    match s.boundEndpoint r.ctx with
    | none => s
    | some i =>
      let sg := s.seg r.ctx r.seg
      let w := revokeWaiter r.entry
      let others := (s.rack.map.server.filter fun m => m != s.sys.member).foldl addNew []
      others.foldl (fun (s : State) m => s.sendItem
        { owner := some w, home := m, epoch := s.rack.map.epoch, role := true, slot := s.slotServed m, kind := 5,
          addr := sg.first, data := toLe 2 i ++ toLe 8 sg.bytes } 0) (s.backInvalidate w sg i)

/-- Back-invalidations of an entry still under way. -/
def State.backPending (s : State) (id : Nat) : Bool :=
  let mine (r : CohReq) : Bool := match r.kind with
    | .backInv i => i = id
    | _ => false
  (s.coh.queue.any mine) || s.coh.txns.any fun t => mine t.req

/-- A reclaim or an extent walk is running (COH_STATUS.RECLAIM_BUSY). -/
def State.walking (s : State) : Bool :=
  let walk (r : CohReq) : Bool := match r.kind with
    | .backInv _ => true
    | _ => false
  (s.coh.agents.cells.any fun a => a.2.state == .dead) || s.coh.queue.any walk || s.coh.txns.any fun t => walk t.req

/-- Raw transactions that used a segment under an older generation (R172), or at all when `gen` is none (R173). -/
def State.rawsOn (s : State) (ctx mask : Nat) (gen : Option Nat) : List RawTxn :=
  s.xlt.raws.filter fun r => r.ctx = ctx && (r.segs &&& mask) != 0 && gen.all fun g =>
    0 < (g + 65536 - r.segGen) % 65536 && (g + 65536 - r.segGen) % 65536 < 32768

/-- Commands in flight that INVALIDATE waits for (R172). -/
def State.oldCommands (s : State) (ctx mask gen : Nat) : List Nat :=
  ((s.inFlight ctx).filter fun c => c.2.segGen != gen && (gen + 65536 - c.2.segGen) % 65536 < 32768 &&
    c.2.captures.any fun k => (k.segs &&& mask) != 0).map (·.1)

/-- The end of a MIGRATE_OUT, however it comes (R170): REVOKING clears; what its revocation marked is still decided (R174). -/
def State.migrateOutEnded (s : State) (id : Nat) (e : Entry) : State :=
  if pkOpcode e.packet != 0x0D || !e.accepted then s
  else
    let ctx := pkContext e.packet
    let i := xpSegment e.packet
    let s := s.setSeg ctx i { s.seg ctx i with revoking := false }
    { s with xlt := { s.xlt with revocations := s.xlt.revocations.filter fun r => r.entry != id || !r.undecided.isEmpty } }

/-- What a completion of this chapter's opcodes changes in the cycle it is written (R169, R170). -/
def State.xltCompleted (s : State) (id : Nat) (e : Entry) : State :=
  let ctx := pkContext e.packet
  let i := xpSegment e.packet
  let c := s.ctx ctx
  match pkOpcode e.packet with
  | 0x0C =>
    if e.accepted && (e.out.status = St.done || e.out.status = St.doneLateAbort) then
      s.setCtx ctx ({ c with segGen := (c.segGen + 1) % 65536 }.setSeg i { c.seg i with state := .valid })
    else s
  | 0x0D => s.migrateOutEnded id e
  | _ => s

end Sys2Proof.Machine
end

