-- ==== Sys2Proof/Machine/RackOps.lean ====
section
/-!
DEFINITION. The composition map and the agreement the members reach on it (spec/14_rack_fault_tolerance.md): suspicion,
proposals, fencing, promotion, work in flight across a change.
-/
namespace Sys2Proof.Machine

open Sys2Proof

/-! ### The map image and MAPSUM (R494, R526) -/

/-- The 256-byte image of a map; `sums` false leaves MAPSUM and FLAGS at 0. -/
def RackMap.image (m : RackMap) (sum : Nat) (flags : Bool) : List Byte :=
  toLe 4 m.epoch ++ toLe 1 m.width ++ toLe 3 0 ++ toLe 4 sum ++ toLe 4 0 ++
  (List.range 64).map (fun i => BitVec.ofNat 8 (if i < m.width then m.server.getD i 0xFF else 0xFF)) ++
  (List.range 64).map (fun i => BitVec.ofNat 8 ((m.state.getD i .absent).code)) ++
  (List.range 64).map (fun i => BitVec.ofNat 8
    (if flags then b2n (m.exposed.getD i false) + 2 * b2n (m.rebuilding.getD i false) else 0)) ++
  toLe 8 m.salt ++ toLe 1 m.remirror ++ toLe 1 m.rebuild ++ toLe 38 0

def RackMap.mapsum (m : RackMap) : Nat := crc32c (m.image 0 false)

/-- The map an image spells. -/
def mapOf (b : List Byte) : RackMap :=
  let n := fieldAt b 4 1
  { epoch := fieldAt b 0 4, width := n, salt := fieldAt b 208 8
    server := (List.range n).map fun i => fieldAt b (16 + i) 1
    state := (List.range 64).map fun i => (MemberState.ofCode (fieldAt b (80 + i) 1)).getD .absent
    exposed := (List.range n).map fun i => (fieldAt b (144 + i) 1).testBit 0
    rebuilding := (List.range n).map fun i => (fieldAt b (144 + i) 1).testBit 1
    remirror := fieldAt b 216 1, rebuild := fieldAt b 217 1 }

/-- An image is one MAP_FORM may carry (R494, R517, R526). -/
def imageValid (b : List Byte) : Bool :=
  let m := mapOf b
  let serves (i : Nat) : Bool := m.server.contains i
  b.length = 256 && m.epoch = 1 && 1 ≤ m.width && m.width ≤ 64 &&
  (m.server.all fun x => decide (x < 64)) &&
  ((List.range 64).all fun i => (MemberState.ofCode (fieldAt b (80 + i) 1)).isSome) &&
  ((List.range 64).all fun i => (m.state.getD i .absent == .active) = serves i) &&
  1 ≤ m.remirror && m.remirror ≤ 64 && 1 ≤ m.rebuild && m.rebuild ≤ 32 &&
  b = m.image m.mapsum true

/-! ### Heartbeats, votes and quorum (R497 to R500) -/

/-- A CONS message (R498). -/
def consMsg (kind src change subject epoch mask ballot frame slot sum : Nat) : List Byte :=
  toLe 1 0x11 ++ toLe 1 (15 + 16 * kind) ++ toLe 1 src ++ toLe 1 (subject + 64 * change) ++ toLe 4 epoch ++ toLe 8 mask ++
    toLe 4 ballot ++ toLe 6 frame ++ toLe 1 slot ++ toLe 1 0 ++ toLe 4 sum

def csSrc (m : List Byte) : Nat := nbf (fieldAt m 2 1) 5 0
def csSubject (m : List Byte) : Nat := nbf (fieldAt m 3 1) 5 0
def csChange (m : List Byte) : Nat := nbf (fieldAt m 3 1) 7 6
def csEpoch (m : List Byte) : Nat := fieldAt m 4 4
def csMask (m : List Byte) : Nat := fieldAt m 8 8
def csBallot (m : List Byte) : Nat := fieldAt m 16 4
def csFrame (m : List Byte) : Nat := fieldAt m 20 6
def csSlot (m : List Byte) : Nat := nbf (fieldAt m 26 1) 5 0
def csMapsum (m : List Byte) : Nat := fieldAt m 28 4

/-- A set of members as the bits of a mask. -/
def maskOf (l : List Nat) : Nat := l.foldl (fun m x => m ||| 2 ^ x) 0

def State.peer (s : State) (m : Nat) : Peer := s.rack.peers.getD m {}
def State.setPeer (s : State) (m : Nat) (p : Peer) : State := { s with rack := { s.rack with peers := s.rack.peers.set m p } }

/-- The other voting members. -/
def State.others (s : State) : List Nat := s.voting.filter fun m => m != s.sys.member

/-- This member votes (R494). -/
def State.votes (s : State) : Bool := s.voting.contains s.sys.member

/-- A set of members is a quorum of the voting members (R500); members in brace do not count toward one (R502). -/
def State.quorum (s : State) (set : List Nat) : Bool :=
  let v := s.voting
  let for' := v.filter fun m => set.contains m && !((s.peer m).bracing && m != s.sys.member)
  decide (2 * for'.length > v.length) || (2 * for'.length = v.length && (v.head?.any fun m => for'.contains m))

/-- Member X is confirmed (R500): those that suspect it form a quorum. -/
def State.confirmed (s : State) (x : Nat) : Bool :=
  s.quorum (s.voting.filter fun m =>
    if m = s.sys.member then s.rack.suspects.contains x else !(s.peer m).silent && (s.peer m).mask.testBit x)

/-- The members confirmed. -/
def State.confirmedSet (s : State) : List Nat := s.voting.filter fun x => s.confirmed x

/-- The CRC of what a joiner must share with the rack (R518). -/
def State.summary (s : State) : Nat :=
  crc32c (toLe 8 s.salt ++ toLe 1 s.width ++ bvBytes (s.regAt 0 F.TIER_POP_DDR_GIB_PER_CH.off) 0 4 ++
    bvBytes (s.regAt 0 F.TIER_POP_FLASH_GIB_PER_CH.off) 0 4)

/-- The member has no vote in a rack: no formation or admission has reached it, or it stands FENCED or ABSENT (R497). -/
def State.joiner (s : State) : Bool := s.rack.map.epoch = 0 || !s.votes

/-- The heartbeat this member sends (R497, R498): a member without a vote sends EPOCH 0 and its admission summary; one in
brace sends KIND 5 (R502). A RETURNED member sends no summary (R544), nor does one whose alignment is not LOCKED (R134, R518). -/
def State.heartbeat (s : State) : List Byte :=
  consMsg (if s.sys.bracing then 5 else 0) s.sys.member 0 0 (if s.joiner then 0 else s.rack.map.epoch)
    (if s.joiner then (if s.sys.lc == .returned || s.fld F.PST_STATUS_ALIGN_STATE != 2 then 0 else s.summary)
      else maskOf s.rack.suspects) 0 s.frame 0 s.rack.map.mapsum

/-- Send the heartbeat to every other voting member; a joiner, which has no map, sends it to every member it has a route to (R497). -/
def State.sendHeartbeats (s : State) : State :=
  let to' := if s.joiner then (List.range 64).filter fun m => m != s.sys.member && (s.pickPort (s.route m).ports s.sys.member m 0).isSome
    else s.others
  to'.foldl (fun (s : State) m => s.sendMember m s.sys.member 0 s.heartbeat) s

/-- A kick turn is under way from the first suspicion (R514). -/
def State.kickBegins (s : State) : State := { s with rack := { s.rack with kickUntil := 2 ^ 48 } }

/-! ### Proposals (R501, R502) -/

/-- Send a CONS message about a proposal. -/
def State.sendCons (s : State) (kind : Nat) (p : Proposal) (frame : Nat) (to' : Nat) : State :=
  s.sendMember to' s.sys.member 0
    (consMsg kind s.sys.member p.change.code p.subject p.epoch p.mask p.ballot frame p.slot s.rack.map.mapsum)

/-- The proposal a CONS message carries. -/
def csProposal (m : List Byte) : Proposal :=
  { epoch := csEpoch m, ballot := csBallot m, change := (Change.ofCode (csChange m)).getD .fence, mask := csMask m,
    subject := csSubject m, slot := csSlot m }

/-- A joiner is sent the map, and every composition's key pair (R518, R534), before the change commits. -/
def State.sendMap (s : State) (m : Nat) : State :=
  let keys := (s.rack.keys.cells.map fun c => toLe 2 c.1 ++ toLe 64 c.2).flatten
  s.sendItem { owner := none, home := m, epoch := s.rack.map.epoch, role := true, slot := 64, kind := 20,
               data := s.rack.map.image s.rack.map.mapsum true ++ keys } 0

/-- The coordinator holds a quorum of ACCEPTs, members in MASK not counted: it sends COMMIT (R501). -/
def State.tryCommit (s : State) : State :=
  match s.rack.proposed with
  | none => s
  | some p =>
    let set := s.rack.accepts.filter fun m => !p.mask.testBit m
    if s.quorum set && s.rack.commit.isNone then
      let s := if p.change == .admission then s.sendMap p.subject else s
      let to' := if p.change == .admission then addNew s.others p.subject else s.others
      let s := to'.foldl (fun (s : State) m => s.sendCons 3 p (s.frame + 4) m) s
      { s with rack := { s.rack with
        commit := some (p, s.frame + 4)
        assign := s.rack.assign.map fun a => { a with committed := a.committed || p.change == .assign } } }
    else s

/-- Propose a change with a ballot above every one seen (R501); the proposer accepts its own. -/
def State.propose (s : State) (p : Proposal) : State :=
  let p := { p with epoch := s.rack.map.epoch + 1, ballot := ((s.rack.ballotSeen / 64 + 1) * 64 + s.sys.member) % 2 ^ 32 }
  let s := { s with rack := { s.rack with
    proposed := some p, accepts := [s.sys.member], accepted := some p, acceptFrame := s.frame, ballotSeen := p.ballot } }
  (s.others.foldl (fun (s : State) m => s.sendCons 1 p s.frame m) s).tryCommit

/-- A change is under way (R502). -/
def State.changing (s : State) : Bool := s.rack.proposed.isSome || s.rack.accepted.isSome || s.rack.commit.isSome

/-- The lowest-numbered voting member that is not confirmed coordinates (R501). -/
def State.coordinator (s : State) : Nat := (s.voting.find? fun m => !s.confirmed m).getD s.sys.member

/-- The coordinator that sees a confirmation proposes the fence (R501). -/
def State.coordinate (s : State) : State :=
  let set := s.confirmedSet
  if set.isEmpty || s.sys.bracing || !s.votes || s.fenced then s
  else if s.coordinator != s.sys.member then s
  else
    let mask := maskOf set
    if s.rack.proposed.any fun p => p.change = .fence && p.mask = mask then s
    else s.propose { epoch := 0, ballot := 0, change := .fence, mask := mask }

/-- This member suspects X from now on (R499): its heartbeats say so at once. -/
def State.suspect (s : State) (x : Nat) : State :=
  if s.rack.suspects.contains x || x = s.sys.member || !s.voting.contains x then s
  else
    let s := { s with rack := { s.rack with suspects := s.rack.suspects ++ [x] } }
    s.kickBegins.sendHeartbeats.coordinate

/-- Suspicion of X ends (R499, R514). -/
def State.unsuspect (s : State) (x : Nat) : State :=
  if s.rack.suspects.contains x then
    let l := s.rack.suspects.filter (· != x)
    { s with rack := { s.rack with suspects := l, kickUntil := if l.isEmpty then s.frame else s.rack.kickUntil } }.sendHeartbeats
  else s

/-! ### Self-fencing (R488, R504, R512) -/

/-- The member fences itself: ERR_FATAL_n, and every command in its lift line is cancelled and completes FENCED, 0xB4. -/
def State.selfFence (s : State) : State :=
  if s.rack.selfFenced then s
  else
    let s := s.abandonPasses
    let s := ({ s with rack := { s.rack with selfFenced := true }, sys := { s.sys with errFatal := true } }).emit (.pin 0 true)
    ((s.entriesWhere fun _ e => e.accepted).foldl (fun (s : State) c => s.stopEntry c.1 .fenced) s).fenceCommands

/-! ### Applying a change (R505 to R516) -/

/-- Pages of granted slabs homed at a slot that satisfy a property. -/
def State.slotPages (s : State) (slot : Nat) (p : Nat → Bool) : List Nat :=
  s.store.slabs.cells.foldl (fun l c =>
    if c.2.comp.isNone then l
    else l ++ ((List.range 262144).map (262144 * c.1 + ·)).filter fun pg => s.homeSlot (pg * 4096) = slot && p pg) []

/-- The first ACTIVE server upward from a slot that is not in a set: the slot's successor (R505). -/
def State.successor (s : State) (slot : Nat) (mask : Nat) : Option Nat :=
  let n := s.width
  ((List.range n).map fun k => s.serverOf ((slot + 1 + k) % n)).find? fun m =>
    !mask.testBit m && s.memberState m == .active

/-- STATE of every member that still votes, from SERVER (R494). -/
def RackMap.restate (m : RackMap) : RackMap :=
  { m with state := (List.range 64).map fun i =>
      match m.state.getD i .absent with
      | .active | .spare => if m.server.contains i then .active else .spare
      | st => st }

/-- The frames that held a slot's mirror, or a copy of it, become home frames (R506): its bytes and metadata are the home's now. What
this member knew of the slot as another's goes. -/
def State.takeSlot (s : State) (slot : Nat) : State :=
  let mine (a : Nat) : Bool := s.homeSlot a = slot
  let bytes := s.store.mirrorMem.filter fun c => mine c.1
  { s with store := { s.store with
    mem := bytes.foldl (fun (m : Memory) c => Memory.set m c.1 c.2) (s.store.mem.filter fun c => !mine c.1)
    grans := (s.store.mirrorGrans.cells.filter fun c => mine (c.1 * 128)).foldl (fun (t : Tab Gran) c => t.set c.1 c.2)
      (s.store.grans.filter fun g _ => !mine (g * 128))
    mirrorMem := s.store.mirrorMem.filter fun c => !mine c.1
    mirrorGrans := s.store.mirrorGrans.filter fun g _ => !mine (g * 128) } }

/-- A slot that this member served goes to another (R519): what stood here stays as a copy, by which a later assignment can
resynchronise. -/
def State.leaveSlot (s : State) (slot : Nat) : State :=
  let mine (a : Nat) : Bool := s.homeSlot a = slot
  { s with store := { s.store with
    mirrorMem := (s.store.mem.filter fun c => mine c.1).foldl (fun (m : Memory) c => Memory.set m c.1 c.2)
      (s.store.mirrorMem.filter fun c => !mine c.1)
    mirrorGrans := (s.store.grans.cells.filter fun c => mine (c.1 * 128)).foldl (fun (t : Tab Gran) c => t.set c.1 c.2)
      (s.store.mirrorGrans.filter fun g _ => !mine (g * 128))
    mem := s.store.mem.filter fun c => !mine c.1
    grans := s.store.grans.filter fun g _ => !mine (g * 128) } }

/-- Pages of a slab that one slot homes, when they are mirrored ones. -/
def State.slotShare (s : State) (slot slab : Nat) : Nat :=
  if s.parityRecord slab (s.store.slabs.getD slab {}) then 0
  else (((List.range 262144).map (262144 * slab + ·)).filter fun pg => s.homeSlot (pg * 4096) = slot).length

def State.takeFree (s : State) (t : Tier) (n : Nat) : State :=
  { s with store := { s.store with free := s.store.free.set t.code (s.store.free.getD t.code 0 - n) } }
def State.giveFree (s : State) (t : Tier) (n : Nat) : State :=
  { s with store := { s.store with free := s.store.free.set t.code (s.store.free.getD t.code 0 + n) } }

/-- The slabs granted. -/
def State.grantedSlabs (s : State) : List Nat := (s.store.slabs.cells.filter fun c => c.2.comp.isSome).map (·.1)

/-- Frames for the mirror of one slab's pages of a slot (R509). -/
def State.takeSlabMirror (s : State) (slot n : Nat) : State :=
  let k := s.slotShare slot n
  let t := (s.store.slabs.getD n {}).home
  let s := { s with store := { s.store with mirrorLacks := s.store.mirrorLacks.filter (· != (slot, n)) } }
  if k ≤ s.store.free.getD t.code 0 then s.takeFree t k
  else if t == .hbm && k ≤ s.store.free.getD Tier.ddr.code 0 then
    let s := s.takeFree .ddr k
    { s with store := { s.store with mirrorDdr := addNew s.store.mirrorDdr (slot, n) } }
  else { s with store := { s.store with mirrorLacks := addNew s.store.mirrorLacks (slot, n) } }

/-- This member is a slot's partner from now on: it takes frames for each slab's pages, in the HOME tier, for HBM-home slabs else in
DDR5, or it lacks them (R508, R509). -/
def State.takeMirror (s : State) (slot : Nat) : State :=
  s.grantedSlabs.foldl (fun (s : State) n => s.takeSlabMirror slot n) s

/-- The frames of a slot's mirror are free again. -/
def State.freeMirror (s : State) (slot : Nat) : State :=
  let s := s.grantedSlabs.foldl (fun (s : State) n =>
    let k := s.slotShare slot n
    if s.store.mirrorLacks.contains (slot, n) then s
    else if s.store.mirrorDdr.contains (slot, n) then s.giveFree .ddr k
    else s.giveFree (s.store.slabs.getD n {}).home k) s
  { s with store := { s.store with
    mirrorDdr := s.store.mirrorDdr.filter fun x => x.1 != slot
    mirrorLacks := s.store.mirrorLacks.filter fun x => x.1 != slot
    oldMirrors := s.store.oldMirrors.filter (· != slot)
    mirrorMem := s.store.mirrorMem.filter fun c => s.homeSlot c.1 != slot
    mirrorGrans := s.store.mirrorGrans.filter fun g _ => s.homeSlot (g * 128) != slot } }

/-- What a change of the map does to the frames this member holds of a slot, as its server or its partner (R505, R508, R509, R519). -/
def State.moveSlot (s old : State) (slot : Nat) : State :=
  let me := s.sys.member
  let own (s : State) : Bool := s.serverOf slot = me
  let held (s : State) : Bool := s.partnerOf slot = some me
  let all (s : State) (f : State → Tier → Nat → State) : State :=
    s.grantedSlabs.foldl (fun (s : State) n => f s (s.store.slabs.getD n {}).home (s.slotShare slot n)) s
  let s := if own old && !own s then all (s.leaveSlot slot) State.giveFree else s
  if own s && !own old && !held old then all s State.takeFree
  else if held s && !held old then
    if s.store.oldMirrors.contains slot then { s with store := { s.store with oldMirrors := s.store.oldMirrors.filter (· != slot) } }
    else s.takeMirror slot
  else if held old && !held s && !own s then { s with store := { s.store with oldMirrors := addNew s.store.oldMirrors slot } }
  else s

/-- The promoted granules that the pending-mirror record names are compared with what the fenced server still holds, when it answers
CLASS 15 reads (R507). -/
def State.checkMirror (s : State) (slot from' : Nat) : State :=
  let gs := (s.rack.mirrorPending.filter fun m => m.home = from' && s.homeSlot (m.granule * 128) = slot).foldl (fun l m => addNew l m.granule) []
  gs.foldl (fun (s : State) g =>
    let n := s.rack.nextItem
    let x : Away := { owner := none, home := from', epoch := s.rack.map.epoch, role := true, slot := 64, kind := 15, addr := g * 128, data := [], cls := 15 }
    { s with rack := { s.rack with
      nextItem := n + 1, away := s.rack.away.set n x, checks := s.rack.checks ++ [(g, s.frame + 64)] } }.emit
      (.item x.home s.sys.member n x.epoch 15 false true 64 15 x.addr [])) s

/-- The granules of a slab's pages that had no mirror copy when their server was lost are poisoned (R505, R509). -/
def State.loseUncopied (s : State) (slot : Nat) : State :=
  let pages := (s.store.mirrorLacks.filter fun x => x.1 = slot).foldl (fun l x =>
    l ++ ((List.range 262144).map (262144 * x.2 + ·)).filter fun pg => s.homeSlot (pg * 4096) = slot) []
  let s := pages.foldl (fun (s : State) pg =>
    (pageGranules (pg * 32)).foldl (fun s g => s.poison g .uncorrectable (s.gran g).wgen) s) s
  { s with store := { s.store with mirrorLacks := s.store.mirrorLacks.filter fun x => x.1 != slot } }

/-- A slot comes to be served by this member (R506, R423, R458): its mirror becomes the home copy, the shadow becomes its filter, its
gate blocks are restored LOST with every gate 0, and a member that served none takes its result slot (R182). -/
def State.promote (s : State) (slot : Nat) : State :=
  let s := (s.takeSlot slot).loseUncopied slot
  let s :=
    if s.coh.shadowSlot = some slot then
      { s with coh := { s.coh with
        sf := s.coh.shadow.cells.foldl (fun t c => t.set c.1 c.2) s.coh.sf, shadow := {}, shadowSlot := none } }
    else s
  let mine (k : Nat) : Bool := k / 1024 = slot
  let blocks := s.gate.shadowBlocks.cells.filter fun c => mine c.1
  let s := { s with gate := { s.gate with
    vals := s.gate.vals.filter fun k _ => k / 262144 != slot
    blocks := blocks.foldl (fun (t : Tab GateBlock) (c : Nat × GateBlock) => t.set c.1 { c.2 with lost := c.2.valid })
      (s.gate.blocks.mapVals fun k b => if mine k then { b with lost := b.valid } else b)
    shadowBlocks := s.gate.shadowBlocks.filter fun k _ => !mine k } }
  let s := if s.gate.blocks.cells.any fun (c : Nat × GateBlock) => mine c.1 && c.2.lost then s.raise F.GATE_EVENT_LOST else s
  if s.store.resultSlot.isNone && s.storeUp then { s with store := { s.store with resultSlot := some slot } } else s

/-- The writable pages of a slot whose mirror holder was fenced in the same change are poisoned (R505). -/
def State.loseSlot (s : State) (slot : Nat) : State :=
  (s.slotPages slot fun pg => !s.striped pg).foldl (fun (s : State) pg =>
    (pageGranules (pg * 32)).foldl (fun s g => s.poison g .uncorrectable (s.gran g).wgen) s) s

/-- Pages of this member's slots that a fenced foster held are missing again (R515, R516). -/
def State.loseFostered (s : State) (x : Nat) : State :=
  let lost := (s.store.pages.cells.filter fun c => c.2.foster = some x).map (·.1)
  { s with
    store := { s.store with pages := s.store.pages.mapVals fun _ p => if p.foster = some x then { p with foster := none } else p }
    rack := { s.rack with missing := s.rack.missing ++ lost.map fun pg =>
      ({ slab := pg / 262144, stripe := s.stripe pg, slot := s.homeSlot (pg * 4096), page := some pg } : LostPage) } }

/-- The stripes' pages, data and parity, that stood at a slot (R475, R515). -/
def State.lostAt (s : State) (slot : Nat) : List LostPage :=
  let n := s.width
  if n < 10 then []
  else s.store.slabs.cells.foldl (fun l c =>
    if !(c.2.copyMode && c.2.home == .flash) || isLocal (c.1 * 2 ^ 30) then l
    else
      let pages := ((List.range 262144).map (262144 * c.1 + ·)).filter fun pg => s.striped pg
      let data := (pages.filter fun pg => s.homeSlot (pg * 4096) = slot).map fun pg =>
        ({ slab := c.1, stripe := s.stripe pg, slot := slot, page := some pg } : LostPage)
      let parity := pages.foldl (fun (m : List LostPage) pg =>
        let (k, _, p, q) := stripeOf n (s.homeSlot (pg * 4096)) (s.rank pg)
        if p = slot || q = slot then addNew m { slab := c.1, stripe := k, slot := slot, page := none } else m) []
      l ++ data ++ parity) []

/-- The kind of a raw message by its MTYPE. -/
def rawKindOf (m : List Byte) : RawKind :=
  match fieldAt m 0 1 with
  | 0x02 => .rdOwn | 0x03 => .wr | 0x04 => .wrp | 0x05 => .atom | 0x06 => .wb | _ => .rd

/-- Raw requests this member had routed to X and that have no answer are routed again (R511). `home` gives the old map's
homes. -/
def State.resendRaws (s : State) (x : Nat) (home : Nat → Nat) : State :=
  (s.xlt.raws.filter fun r => home r.addr = x).foldl (fun (s : State) r =>
    let p := s.port r.port
    let index := requesterIndex p.act.kind (hdSrc r.msg) (hdNode r.msg)
    let q := rawReq (rawKindOf r.msg) r.msg r.addr r.port index r.ctx
    if s.memberState (s.homeOf r.addr) == .fenced then s.respond q 0x0B St.fenced 0xB3 []
    else s.routeRaw (rawKindOf r.msg) r.msg q) s

/-- The members that take over an item that stood at X (R511): the new home of its address, the new holder of its slot's role, the
new server of each slot X served; nobody for an item that X had as a member in its own right. -/
def State.heirsOf (s : State) (x : Away) (heirs : List Nat) : List Nat :=
  if !x.role then [s.homeOf x.addr]
  else if x.slot ≥ 64 then []
  else if x.kind = 3 || x.kind = 6 || x.kind = 7 then (s.partnerOf x.slot).toList
  else if x.kind = 4 && x.addr % 16 = 0 then heirs
  else [s.serverOf x.slot]

/-- An item that this member itself now serves is sent to it like any other; it reaches it as a WORK message of its own. -/
def State.sendAgain (s : State) (item m : Nat) (x : Away) : State :=
  let x := { x with home := m, epoch := s.rack.map.epoch }
  let s := { s with rack := { s.rack with away := s.rack.away.set item x } }
  s.emit (.item m s.sys.member item x.epoch x.cls false x.role x.slot x.kind x.addr x.data)

/-- One item of a command that stood at X goes again, once, under the new epoch, to those that took over (R511): its cancel or
hold when the command is being stopped; with nobody to take it over, or a fenced member, it ends FENCED, subcode 0xB3. -/
def State.resendItem (s : State) (id : Nat) (i : Item) (x : Away) (heirs : List Nat) : State :=
  match s.entry? id with
  | none => s
  | some e =>
    let to' := (s.heirsOf x heirs).filter fun m => s.memberState m != .fenced
    match to' with
    | [] => s.answerItem id i.id St.fenced 0xB3 (e.stop.isSome && i.begun)
    | m :: more =>
      let s := s.modEntry id fun e => { e with
        items := mapIf (fun (j : Item) => j.id = i.id) (fun j => { j with home := m }) e.items }
      let s :=
        if e.stop.isSome || i.cancelled || e.marked then
          if m = s.sys.member then
            let begun := s.rack.mirrorPending.any fun y => y.origin = m && y.id = i.id
            if e.marked && e.stop.isNone then s.holdAnswered id i.id begun else s.answerItem id i.id St.aborted 0 begun
          else s.emit (.work m i.id (if e.stop.isSome || i.cancelled then 1 else 2))
        else s.sendAgain i.id m x
      if e.stop.isSome || e.marked then s
      else more.foldl (fun (s : State) h => s.sendItem { x with home := h, epoch := s.rack.map.epoch } i.classes) s

/-- The items that stood at X (R511): those of commands, and those this member sent for others or for itself. -/
def State.resendItems (s : State) (x : Nat) (heirs : List Nat) : State :=
  -- the mirror check's reads are for the member X as it was, and go to nobody else
  let mine := s.rack.away.cells.filter fun c => c.2.home = x && c.2.kind != 15
  mine.foldl (fun (s : State) c =>
    match c.2.owner.bind fun id => (s.entry? id).bind fun e => (e.items.find? fun i => i.id = c.1).map fun i => (id, i) with
    | some (id, i) => s.resendItem id i c.2 heirs
    | none =>
      match (s.heirsOf c.2 heirs).filter fun m => s.memberState m != .fenced with
      | m :: _ => s.sendAgain c.1 m c.2
      | [] =>
        if c.2.kind = 0 || c.2.kind = 7 then s.fetchAnswered c.1 c.2 St.fenced 0xB3 []
        else if (c.2.owner.bind waiterCore).isSome then s.coreAnswered c.1 c.2 St.fenced 0xB3
        else s.dropAway c.1) s

/-- What a surviving member does about a fenced member X (R505, R511 to R513, R660). `heirs` are the members X's slots
passed to, `home` the old map's homes. -/
def State.fenceMember (s : State) (x : Nat) (heirs : List Nat) (home : Nat → Nat) : State :=
  let s := s.abandonPasses
  let ports := (List.range 16).filter fun p =>
    (s.port p).act.kind = 0 && (s.port p).partnerId = x && (s.port p).state != .disabled && (s.port p).state != .detect
  let s := ports.foldl (fun (s : State) p => s.setPort p { s.port p with fenced := true }) s
  -- messages toward X are discarded, the rest of those ports' messages go another way
  let s := { s with hxl := { s.hxl with
    waiting := s.hxl.waiting.filter fun w => w.dst != x
    outbox := s.hxl.outbox.filter fun o => o.dst != x || fieldAt o.msg 0 1 = 0x11
    owed := s.hxl.owed.erase x
    routes := s.hxl.routes.mapVals fun _ r =>
      { r with ports := ports.foldl (fun m p => if m.testBit p then m - 2 ^ p else m) r.ports } } }
  let s := ports.foldl (fun (s : State) p =>
    let s := s.resendLost p
    s.setPort p { s.port p with kept := [], replayQ := [], txRest := [] }) s
  -- X's own work at this home
  let s := s.dropWalks (itemWaiter x 0)
  let s := { s with rpl := { s.rpl with
    flights := s.rpl.flights.filter fun f => f.origin != x
    waits := s.rpl.waits.filter fun f => f.origin != x } }
  let s := { s with
    gate := { s.gate with
      waiters := s.gate.waiters.filter fun w => w.intake != x
      probes := s.gate.probes.filter fun p => p.origin != x }
    rack := { s.rack with
      held := s.rack.held.filter fun h => h.1.origin != x
      suspects := s.rack.suspects.filter (· != x) } }
  let s := (s.entriesWhere fun _ e => e.proxy.any fun y => y.origin = x).foldl (fun (s : State) c =>
    (s.withdraw c.1).dropEntry c.1) { s with rack := { s.rack with due := s.rack.due.filter fun y => y.2.1.origin != x } }
  -- this intake's work at X
  let s := s.resendItems x heirs
  let before (src d : Nat) := s.gate.sent.getD (128 * src + d) 0
  let s' := s.resendRaws x home
  -- fences that wait on X (R463)
  s'.gate.fences.foldl (fun (t : State) f =>
    if !(f.waiting.any fun w => w.1 = x) || heirs.isEmpty then t
    else
      let more := ((List.range 64).filter fun d => t.gate.sent.getD (128 * f.src + d) 0 != before f.src d).map fun d =>
        (d, t.snapshot f.src d)
      let f' := { f with waiting := (f.waiting.filter fun w => w.1 != x) ++ more }
      let t := { t with gate := { t.gate with fences := mapIf (fun (g : Fence) => g.id = f.id) (fun _ => f') t.gate.fences } }
      (more.foldl (fun (t : State) d => t.probeDest f' d.1 d.2) t).tryFence f.entry) s'

/-- The granules of a page that differ from what an unwritten one is: those that a copy must carry. -/
def State.writtenGranules (s : State) (pg : Nat) : List Nat :=
  (pageGranules (pg * 32)).filter fun g => s.store.grans.has g || (s.bytes (g * 128) 128).any fun b => b != 0

/-- The waiter of a page's copy to a new partner. -/
def copyWaiter (pg : Nat) : Nat := 2 ^ 47 + pg

/-- A page's copy has reached the new partner: after the slot's last one the slot is no longer EXPOSED, and the old partner frees its
frames (R508). -/
def State.pageMirrored (s : State) (slot page : Nat) : State :=
  let left := s.rack.remirror.filter fun m => !(m.slot = slot && m.page = page)
  let s := { s with rack := { s.rack with remirror := left } }
  if left.any fun m => m.slot = slot then s
  else
    let s := { s with rack := { s.rack with map := { s.rack.map with exposed := s.rack.map.exposed.set slot false } } }
    match s.rack.oldPartner.find? slot with
    | none => s
    | some m =>
      let s := { s with rack := { s.rack with oldPartner := s.rack.oldPartner.erase slot } }
      if m = s.sys.member || s.memberState m == .fenced then s
      else s.sendItem { owner := none, home := m, epoch := s.rack.map.epoch, role := true, slot := 64, kind := 16, addr := slot, data := [] } 0

/-- The filter entries and the gate block records of a slot go to the member that holds its shadow (R423, R458), or that it is being
copied to (R519). -/
def State.tellHolders (s : State) (slot : Nat) : State :=
  let s := (s.coh.sf.cells.filter fun c => s.homeSlot (c.1 * 128) = slot).foldl (fun (s : State) c => s.tellShadow c.1) s
  (s.gate.blocks.cells.filter fun c => c.1 / 1024 = slot).foldl (fun (s : State) c => s.tellBlock c.1) s

/-- The server of a slot copies it to SUBJECT (R519 phase 1): its home pages, its shadow filter, its gate block records; with RESYNC
SUBJECT takes only the granules that differ from its own. From now on every write to the slot goes to SUBJECT too. `owner` waits for
the copies. -/
def State.copySlot (s : State) (owner slot subject : Nat) (resync : Bool) : State :=
  let pages := s.slotPages slot fun _ => true
  let a : Assign := { entry := owner, slot := slot, subject := subject, resync := resync,
                      granules := if resync then 0 else 32 * pages.length, committed := false }
  let s := { s with rack := { s.rack with assign := some a, writer := some owner } }
  let s := (pages.foldl (fun l pg => l ++ s.writtenGranules pg) []).foldl (fun (s : State) g => s.sendItem
    { owner := some owner, home := subject, epoch := s.rack.map.epoch, role := true, slot := 64, kind := if resync then 22 else 3,
      addr := g * 128, data := s.copyOf g } 0) s
  s.tellHolders slot

/-- A slot's partner has changed (R508): it is EXPOSED, and its server has its mirrored pages to copy; the new holder of the shadow
takes the filter and the block records. -/
def State.exposeChanged (s : State) (oldPartner : Nat → Option Nat) : State :=
  (List.range s.width).foldl (fun (s : State) slot =>
    if s.partnerOf slot = oldPartner slot then s
    else
      let s := { s with rack := { s.rack with
        map := { s.rack.map with exposed := s.rack.map.exposed.set slot true }
        oldPartner := match oldPartner slot with
          | some m => s.rack.oldPartner.set slot m
          | none => s.rack.oldPartner.erase slot } }
      if s.serverOf slot != s.sys.member then s
      else
        let s := { s with rack := { s.rack with writer := none } }.tellHolders slot
        let due := (s.slotPages slot fun pg => !s.striped pg).map fun pg => ({ slot := slot, page := pg } : MirrorDue)
        { s with rack := { s.rack with
          remirror := (s.rack.remirror.filter fun m => m.slot != slot) ++ due
          map := { s.rack.map with exposed := s.rack.map.exposed.set slot (!due.isEmpty) } } }) s

/-- An interrupted MAP_ASSIGN ends without effect (R520). -/
def State.breakAssign (s : State) (m : Nat) : State :=
  match s.rack.assign with
  | none => s
  | some a =>
    if !a.committed && (a.subject = m || s.serverOf a.slot = m) then
      let s := s.endAssign m
      s.finish a.entry fun o => { o with status := St.fenced, subcode := 0xB5, absent := 0xFF }
    else s

/-- The members a change fences. -/
def Proposal.gone (p : Proposal) : List Nat :=
  if p.change == .fence || p.change == .manualFence then (List.range 64).filter fun m => p.mask.testBit m else []

/-- The map after a change: servers, states, the next epoch (R504, R505, R518, R519). `old` is the state before it. -/
def State.newMap (s old : State) (p : Proposal) : State :=
  let gone := p.gone
  let map := s.rack.map
  let server := (List.range s.width).map fun i =>
    if gone.contains (s.serverOf i) then (old.successor i p.mask).getD (s.serverOf i)
    else if p.change == .assign && i = p.slot then p.subject else s.serverOf i
  let state := (List.range 64).map fun m =>
    if gone.contains m then .fenced
    else if p.change == .admission && m = p.subject then .spare else s.memberState m
  { s with rack := { s.rack with
    map := { map with epoch := map.epoch + 1, server := server, state := state }.restate
    servers := s.rack.servers.set map.epoch map.server
    proposed := none, accepted := none, accepts := [], commit := none, changeFrame := s.frame
    kickUntil := if p.change == .fence || p.change == .manualFence then s.frame + 64 else s.rack.kickUntil } }

/-- A slot whose member is fenced has a new server (R505, R507). -/
def State.promoteLost (s old : State) (p : Proposal) (slot : Nat) : State :=
  let s := if (old.partnerOf slot).any fun m => p.mask.testBit m then s.loseSlot slot else s
  let s := { s with rack := { s.rack with missing := s.rack.missing ++ old.lostAt slot } }
  let s := if (old.lostAt slot).isEmpty then s else
    { s with rack := { s.rack with map := { s.rack.map with rebuilding := s.rack.map.rebuilding.set slot true } } }
  if s.serverOf slot != s.sys.member then s
  else
    let s := (s.promote slot).checkMirror slot (old.serverOf slot)
    -- a read of a missing page gives what its stripe reconstructs to, which other members hold
    ((old.lostAt slot).filterMap (·.page)).foldl (fun (s : State) pg =>
      (s.pokeBytes (pg * 4096) ((Config.rebuiltPage s.fresh pg ++ List.replicate 4096 0).take 4096)).tickFresh) s

/-- A third loss within a stripe (R516). -/
def State.loseStripe (s : State) (m : LostPage) : State :=
  if (s.rack.missing.filter fun k => k.slab = m.slab && k.stripe = m.stripe).length ≤ 2 then s
  else match m.page with
    | none => s
    | some pg => (pageGranules (pg * 32)).foldl (fun s g => s.poison g .stripeLost (s.gran g).wgen) s

/-- A fenced member is treated by every other as fenced (R504, R511). -/
def State.leaveMember (s old : State) (lost : List Nat) (x : Nat) : State :=
  let s := s.loseFostered x
  let heirs := (lost.filter fun i => old.serverOf i = x).foldl (fun l i =>
    if s.memberState (s.serverOf i) == .fenced then l else addNew l (s.serverOf i)) []
  let s := s.setPeer x { s.peer x with resetSince := false }
  if x = s.sys.member then s else s.fenceMember x heirs fun a => old.homeOf a

/-- A slot goes to the member it was assigned to (R519). -/
def State.applyAssign (s old : State) (p : Proposal) : State :=
  let s := if p.subject = s.sys.member then s.promote p.slot else s
  let s := { s with rack := { s.rack with
    assign := none, former := s.rack.former.set p.slot (old.serverOf p.slot) } }
  let s := s.setPeer (old.serverOf p.slot) { s.peer (old.serverOf p.slot) with resetSince := false }
  let home (pg : Nat) (x : PageRec) : PageRec := if s.homeSlot (pg * 4096) = p.slot then { x with foster := none } else x
  let s := { s with store := { s.store with pages := s.store.pages.mapVals home } }
  if old.serverOf p.slot = s.sys.member && s.store.resultSlot = some p.slot then
    { s with store := { s.store with resultSlot := s.ownSlots.head? } } else s

/-- An admitted member starts afresh (R505, R518). -/
def State.applyAdmission (s : State) (p : Proposal) : State :=
  let s := s.setPeer p.subject {}
  { s with hxl := { s.hxl with ports := s.hxl.ports.mapVals fun _ x =>
    if x.act.kind = 0 && x.partnerId = p.subject then { x with fenced := false } else x } }

/-- The command that asked for the change ends. -/
def State.answerAsker (s : State) (granules : Nat) : State :=
  match s.rack.asker with
  | none => s
  | some id =>
    let s := { s with rack := { s.rack with asker := none } }
    s.finish id fun o => { o with result0 := s.rack.map.epoch, countDone := s.voting.length, countAux := granules }

/-- Apply a committed change at its frame (R505, R510, R518, R519). -/
def State.applyChange (s : State) (p : Proposal) : State :=
  let old := s
  let gone := p.gone
  let s := gone.foldl (fun (s : State) m => s.breakAssign m) s
  let lost := (List.range s.width).filter fun i => gone.contains (s.serverOf i)
  let s := s.newMap old p
  let s := (List.range s.width).foldl (fun (s : State) slot => s.moveSlot old slot) s
  let s := lost.foldl (fun (s : State) slot => s.promoteLost old p slot) s
  let s := s.rack.missing.foldl (fun (s : State) m => s.loseStripe m) s
  let s := gone.foldl (fun (s : State) x => s.leaveMember old lost x) s
  let s := if p.change == .assign then s.applyAssign old p else s
  let s := if p.change == .admission then s.applyAdmission p else s
  let s := s.exposeChanged fun slot => old.partnerOf slot
  let s := if gone.contains s.sys.member then s.selfFence else s
  s.answerAsker (if p.change == .assign then ((old.rack.assign.map (·.granules)).getD 0) else 0)

end Sys2Proof.Machine
end

