-- ==== Sys2Proof/Machine/CmdqOps.lean ====
section
/-!
DEFINITION. What the queue commands share (spec/02_command_packets.md): errors of a queue pair, packets that wait for an
entry, the completion record and what ends with a command.
-/
namespace Sys2Proof.Machine

open Sys2Proof

/-! ### Queue pairs (R42, R44, R49, R662) -/

/-- A queue pair records an error (R49, R662): ERR_CODE keeps the first code, ENABLED goes to ERROR, and codes 0x3 and 0x4
end the writing of completions. -/
def State.qpError (s : State) (src qp code : Nat) : State :=
  let x := s.qp src qp
  let s := s.setQp src qp { x with
    errCode := if x.errCode = 0 then code else x.errCode
    silent := x.silent || decide (code = 3) || decide (code = 4)
    state := if x.state = .enabled then .error else x.state }
  let y := s.source src
  let s := if y.qpErrFirst.isNone then s.setSource src { y with qpErrFirst := some qp } else s
  s.fnRaise src F.FN_EVENT_QP_ERROR

/-- Free CQ slots that no fetched command has reserved (R42, R44). -/
def QueuePair.cqRoom (x : QueuePair) : Nat :=
  2 ^ x.cqLog2 - 1 - (x.cqTail + 2 ^ x.cqLog2 - x.cqHead) % 2 ^ x.cqLog2 - x.reserved

/-- A packet of this SQ, or of this HXL port, is fetched and waits for an entry (R44). -/
def State.sqHeld (s : State) (src qp : Nat) : Bool :=
  s.cmdq.entries.cells.any fun c => c.2.src = src && c.2.qp = qp && c.2.phase == .held

/-- Intake goes on: the member neither braces nor fences itself (R488, R568). -/
def State.intakeOpen (s : State) : Bool := !s.sys.bracing && !s.fenced

/-- Packets that wait for an entry take one that has become free (R44, R64). -/
def State.takeHeld (s : State) : State :=
  if !s.intakeOpen then s
  else (s.entriesWhere fun _ e => e.phase == .held).foldl (fun (s : State) c =>
    match s.takeEntry c.2.src (pkClass c.2.packet) with
    | some p => s.setEntry c.1 { c.2 with phase := .fetched, pool := p }
    | none => s) s

/-- A packet comes in: it takes an entry, or waits for one (R44, R61). -/
def State.enterPacket (s : State) (e : Entry) : State :=
  let pool := s.takeEntry e.src (pkClass e.packet)
  let e := { e with
    order := s.cmdq.nextOrder
    phase := if pool.isSome then Phase.fetched else Phase.held
    pool := pool.getD .shared }
  let s := if pool.isSome then s else s.pulse 0x043 e.src
  { s with cmdq := { s.cmdq with
      entries := s.cmdq.entries.set s.cmdq.nextId e
      nextId := s.cmdq.nextId + 1
      nextOrder := s.cmdq.nextOrder + 1 } }

/-- A DRAINING queue pair with no command in flight becomes DISABLED (R47). -/
def State.drainQp (s : State) (src qp : Nat) : State :=
  let x := s.qp src qp
  if x.state = .draining && (s.entriesWhere fun _ e => e.src = src && e.qp = qp).isEmpty then
    (s.setQp src qp { x with state := .disabled }).fnRaise src F.FN_EVENT_QP_DRAINED
  else s

/-- Send a CQ's message (R39, R70). -/
def State.signalCq (s : State) (src qp : Nat) : State :=
  let x := s.qp src qp
  if x.unsignalled = 0 then s else (s.setQp src qp { x with unsignalled := 0 }).sendMsix src (qp + 1)

/-- A ring access goes through the function's translation of its page (R41, R153): one not held is requested, and kept. A page request
is never made. -/
def State.ringPage (s : State) (src addr : Nat) (write : Bool) : State :=
  let page := addr / 4096
  if s.atcHas src page write then s.atcTouch src page
  else (s.emit (.translation src page (!write))).atcAdd { func := src, page := page, write := write }

/-! ### Result slots (R77, R78) -/

/-- Release a handle at a source: false when it names no live slot. -/
def State.releaseHandle (s : State) (src handle : Nat) : State × Bool :=
  let x := s.source src
  let hit (t : Slot) : Bool := slotHandle t = handle
  if x.slots.any hit then (s.setSource src { x with slots := x.slots.filter fun t => !hit t }, true) else (s, false)

/-- A handle that names no live slot, at a function (R78). -/
def State.releaseStale (s : State) (src : Nat) : State :=
  let x := s.source src
  (s.setSource src { x with releaseStale := satInc 16 x.releaseStale }).fnRaise src F.FN_EVENT_RELEASE_STALE

/-- An abort that matches no command, at a function (R80). -/
def State.abortMissed (s : State) (src : Nat) : State :=
  let x := s.source src
  (s.setSource src { x with abortMiss := satInc 16 x.abortMiss }).fnRaise src F.FN_EVENT_ABORT_MISS

/-- Commands of a queue pair, or of an HXL port, that an abort may act on: accepted and not completed (R80). -/
def State.abortable (s : State) (src qp : Nat) (tag : Option Nat) : List Nat :=
  (s.entriesWhere fun _ e => e.src = src && e.qp = qp && e.accepted && e.cplSent.isNone &&
    tag.all fun t => pkQtag e.packet = t).map (·.1)

/-- Abort them: false when there is none. -/
def State.abortAll (s : State) (src qp : Nat) (tag : Option Nat) : State × Bool :=
  let ids := s.abortable src qp tag
  (ids.foldl (fun (s : State) id => s.stopEntry id (if tag.isSome then .abortTag else .abortAll)) s, !ids.isEmpty)

/-- The results of a command are written to its slot, granule by granule and whole, once no endpoint holds a copy of one (R71, R414);
false while they wait. -/
def State.landResults (s : State) (id : Nat) (e : Entry) : State × Bool :=
  match e.slot with
  | none => (s, true)
  | some (o, _) =>
    if e.pend.isEmpty then (s, true)
    else
      let a := s.resultRsa e.src + 256 * o
      let gs := granulesOf a e.pend.length
      match s.prepare id [] gs with
      | (s, true) => (s, false)
      | (s, false) =>
        let s := gs.foldl (fun (s : State) g =>
          let part := (e.pend.drop (g * 128 - a)).take 128
          (s.writeGranule g 0 (part ++ (s.bytes (g * 128) 128).drop part.length)).1) s
        (s.modEntry id fun x => { x with pend := [] }, s.noneAway id)

/-! ### The completion record (R66, R72, R83) -/

/-- A status whose effects are all present. -/
def allPresent (st : Nat) : Bool := st = St.done || st = St.donePartial || st = St.doneLateAbort

/-- A status that R72 gives no effects. -/
def noEffect (st sub : Nat) : Bool :=
  st = St.revoked || st = St.staleVersion || st = St.xltDenied || (st = St.noSpace && decide (sub < 0x40)) ||
    st = St.badOpcode || (st = St.badParam && decide (sub < 0xE0))

/-- ABSENT of the record: as the meaning gave it, else by the classes begun. -/
def Entry.absentField (e : Entry) : Nat :=
  if e.out.absent != 0 || allPresent e.out.status then e.out.absent
  else if noEffect e.out.status e.out.subcode then 0xFF
  else absentOf e.begun

/-- The 32 bytes of the record (R66) with PHASE, QP and the SQ_HEAD field. -/
def Entry.record (e : Entry) (phase : Bool) (qp head : Nat) : List Byte :=
  let o := e.out
  toLe 2 (pkQtag e.packet) ++ toLe 1 o.status ++
    toLe 1 (b2n phase + 2 * b2n o.fellBack + 4 * b2n o.area.isSome + 8 * b2n o.twinned) ++ toLe 2 qp ++ toLe 2 head ++
    toLe 8 o.result0 ++ toLe 4 ((o.area.map (·.1)).getD o.result1) ++ toLe 4 o.countDone ++
    toLe 4 ((o.area.map (·.2)).getD o.countAux) ++ toLe 1 (if o.status = St.done then 0 else o.subcode) ++
    toLe 1 e.absentField ++ toLe 2 o.homes

/-- A completion written to a CQ (R67, R68, R70): two posted writes, the next slot, the message when COUNT is reached. -/
def State.writeRecord (s : State) (e : Entry) : State :=
  let x := s.qp e.src e.qp
  let r := e.record x.phase e.qp e.sqHead
  let addr := x.cqBase + 32 * x.cqTail
  let tail := (x.cqTail + 1) % 2 ^ x.cqLog2
  let counted := !pkNoIntr e.packet
  let n := x.unsignalled + b2n counted
  let s := s.ringPage e.src addr true
  let s := s.setQp e.src e.qp { x with
    cqTail := tail, phase := if tail = 0 then !x.phase else x.phase, reserved := x.reserved - 1, unsignalled := n }
  let s := (s.emit (.hostWrite e.src (addr + 4) (r.drop 4) false)).emit (.hostWrite e.src addr (r.take 4) false)
  if counted && decide (n ≥ max 1 x.coalCount) then s.signalCq e.src e.qp else s

/-- A command completion message (R53, R389) with the credits it returns; on a fenced member it goes as CLASS 15 (R512). -/
def State.cmdCpl (s : State) (p : Nat) (e : Entry) (credits : Nat) : State :=
  s.sendPort p (respMsg 0x0E (if s.fenced then 15 else e.msgClass) 0 e.endpoint 0 0 0 s.sys.member (e.record true 0 credits))

/-- The credit that a completion returns: one, unless the partner holds its limit already, or no entry is available to the port
(R52, R64, R386). -/
def State.creditBack (s : State) (p : Nat) : Nat :=
  let x := s.source (128 + p)
  b2n (decide (x.credits + x.creditsDue + x.grants.sum < x.limit) && !s.dataFull)

/-- A CTRL message of KIND GRANT (R391). -/
def grantMsg (member credits : Nat) : List Byte :=
  toLe 1 0x0F ++ toLe 1 0x0F ++ toLe 1 3 ++ toLe 1 0 ++ toLe 2 member ++ toLe 2 0 ++ toLe 4 credits ++ toLe 4 0

/-- Credits that an active endpoint port's limit grants beyond those that its partner holds, those on their way and the commands in
flight (R52, R386). -/
def State.creditsOwed (s : State) (p : Nat) : Nat :=
  let x := s.source (128 + p)
  if (s.port p).act.kind != 1 || ((s.port p).state != .active && (s.port p).state != .retrain) then 0
  else x.limit - (x.credits + x.creditsDue + x.grants.sum + s.inUse (128 + p))

/-- Grant them, while an entry is available (R64, R386). -/
def State.grantOwed (s : State) (p : Nat) : State :=
  let n := s.creditsOwed p
  let x := s.source (128 + p)
  if n = 0 || s.dataFull then s
  else (s.setSource (128 + p) { x with grants := x.grants ++ [n] }).sendPort p (grantMsg s.sys.member n)

/-- The credits withheld while there was no entry are granted (R64). -/
def State.grantAll (s : State) : State := (List.range 16).foldl (fun (s : State) p => s.grantOwed p) s

/-- Answer a CMD message at once: its credit goes back with the answer, when it brought one (R52, R488, R569). -/
def State.answerCmd (s : State) (p : Nat) (e : Entry) (credit : Bool) (st sub : Nat) : State :=
  let x := s.source (128 + p)
  let n := if credit then s.creditBack p else 0
  (s.setSource (128 + p) { x with credits := x.credits + n }).cmdCpl p
    { e with out := { e.out with status := st, subcode := sub, absent := 0xFF } } n

/-- What the cycle of the completion changes: the opcodes of chapter 4, counts (R169, R170). -/
def State.settle (s : State) (id : Nat) (e : Entry) : State :=
  let s := (s.withdraw id).xltCompleted id e
  let s := if e.out.status = St.staleVersion && pkOpcode e.packet / 32 = 2 then s.count F.EMB_COUNT_STALE_COUNT else s
  let s := s.pulse 0x041 e.src
  if e.out.fellBack then s.pulse 0x044 e.src else s

/-- An entry is free again; what waited for it goes on (R44, R47, R61, R464). -/
def State.endEntry (s : State) (id : Nat) (e : Entry) : State :=
  let s := (s.dropEntry id).tryFences
  let s := if e.src < 128 then s.drainQp e.src e.qp else s
  s.takeHeld.grantAll

end Sys2Proof.Machine
end

