-- ==== Sys2Proof/Machine/Adm.lean ====
section
/-!
DEFINITION. The administration of intake sources (spec/02_command_packets.md, R65, R75, R92): staging registers and APPLY, for
the functions of a port and for HXL ports.
-/
namespace Sys2Proof.Machine

open Sys2Proof

/-- The settings that APPLY commits. -/
structure Settings where
  qpAllot : Nat
  reserve : Nat
  limit : Nat
  timeout : Nat
  ranges : Nat
  classes : Nat
  resultSize : Nat
  deriving DecidableEq, Repr

def Source.settings (x : Source) : Settings :=
  { qpAllot := x.qpAllot, reserve := x.reserve, limit := x.limit, timeout := x.timeoutMs, ranges := x.opcRanges,
    classes := x.classMask, resultSize := x.resultSize }

/-- Put settings into force at a source. -/
def Source.take (x : Source) (y : Settings) : Source :=
  { x with qpAllot := y.qpAllot, reserve := y.reserve, limit := y.limit, timeoutMs := y.timeout, opcRanges := y.ranges,
           classMask := y.classes, resultSize := y.resultSize }

/-- Result areas of all sources, in 64 KiB units (R75). -/
def State.resultSum (s : State) : Nat := ((List.range 144).map fun i => (s.source i).resultSize).sum

/-- Queue pairs allotted on a port (R38). -/
def State.portQps (s : State) (port : Nat) : Nat := ((List.range 64).map fun f => (s.source (64 * port + f)).qpAllot).sum

/-- Why APPLY refuses new settings of a target, 0 for not at all (R65, R75, R92). -/
def State.refuseSettings (s : State) (t : Nat) (y : Settings) : Nat :=
  let x := s.source t
  let busy : Bool := if t < 128 then
      s.cmdq.qps.cells.any fun c => c.1 / 2048 = t && c.2.state != .disabled
    else s.inUse t != 0
  let sized := y.resultSize != x.resultSize
  if (y.qpAllot != x.qpAllot || sized) && busy then 1
  else if sized && !x.slots.isEmpty then 1
  else if y.qpAllot > 2047 then 6
  else if t < 128 && s.portQps (t / 64) - x.qpAllot + y.qpAllot > 4096 then 2
  else if s.reserveSum - x.reserve + y.reserve > 64512 then 3
  else if s.resultSum - x.resultSize + y.resultSize > 524288 then 4
  else if y.limit < y.reserve || y.limit > 65536 then 5
  else 0

/-- Commit settings, or refuse them all. The function is told (FN_EVENT.SETTINGS); a waiting packet may find an entry. -/
def State.applySettings (s : State) (t : Nat) (y : Settings) : State × Nat :=
  let err := s.refuseSettings t y
  let x := s.source t
  if err != 0 then (s, err)
  else if x.settings = y then (s, 0)
  else
    let s := s.setSource t (x.take y)
    let s := if t < 128 then s.fnRaise t F.FN_EVENT_SETTINGS else s.grantOwed (t - 128)
    (s.takeHeld, 0)

/-! ### FN_ADM_ (R92) -/

/-- FN_ADM_SEL: the staging registers take the target's present settings. -/
def execFnAdmSelWrite (src func : Nat) (s : State) : Res :=
  if !s.mayAdminister src then .next s
  else
    let f := func % 64
    let y := (s.source (src + f)).settings
    let set (s : State) (r : Fld) (v : Nat) : State := s.setFldAt src r v
    .next (set (set (set (set (set (set (set (set s F.FN_ADM_SEL_FUNC f) F.FN_ADM_QP_ALLOT_QP y.qpAllot)
      F.FN_ADM_LL_RESERVE_RESERVE y.reserve) F.FN_ADM_LL_LIMIT_LIMIT y.limit) F.FN_ADM_TIMEOUT_MS y.timeout)
      F.FN_ADM_PERM_OPC_RANGES y.ranges) F.FN_ADM_PERM_CLASS_MASK y.classes) F.FN_ADM_RESULT_SIZE_SIZE y.resultSize)

/-- FN_ADM_APPLY. -/
def execFnAdmApply (src : Nat) (s : State) : Res :=
  if !s.mayAdminister src then .next s
  else
    let get (r : Fld) : Nat := s.fldAt src r
    let y : Settings :=
      { qpAllot := get F.FN_ADM_QP_ALLOT_QP, reserve := get F.FN_ADM_LL_RESERVE_RESERVE
        limit := get F.FN_ADM_LL_LIMIT_LIMIT, timeout := get F.FN_ADM_TIMEOUT_MS, ranges := get F.FN_ADM_PERM_OPC_RANGES
        classes := get F.FN_ADM_PERM_CLASS_MASK, resultSize := get F.FN_ADM_RESULT_SIZE_SIZE }
    let (s, err) := s.applySettings (src + get F.FN_ADM_SEL_FUNC) y
    .next (s.setFldAt src F.FN_ADM_STATUS_ERR err)

/-! ### FN_HXL_ (R92) -/

/-- The physical function that may write the FN_HXL_ registers. -/
def State.mayAdminHxl (s : State) (src : Nat) : Bool := s.mayAdminister src && src = 64 * s.adminPort

/-- FN_HXL_SEL. -/
def execFnHxlSelWrite (src port : Nat) (s : State) : Res :=
  if !s.mayAdminHxl src then .next s
  else
    let p := port % 16
    let y := (s.source (128 + p)).settings
    .next (((((((s.setFld F.FN_HXL_SEL_PORT p).setFld F.FN_HXL_LL_RESERVE_RESERVE y.reserve).setFld
      F.FN_HXL_LL_LIMIT_LIMIT y.limit).setFld F.FN_HXL_TIMEOUT_MS y.timeout).setFld F.FN_HXL_PERM_OPC_RANGES y.ranges).setFld
      F.FN_HXL_PERM_CLASS_MASK y.classes).setFld F.FN_HXL_RESULT_SIZE_SIZE y.resultSize)

/-- FN_HXL_APPLY; a raised limit grants the difference (R386). -/
def execFnHxlApply (src : Nat) (s : State) : Res :=
  if !s.mayAdminHxl src then .next s
  else
    let y : Settings :=
      { qpAllot := 0, reserve := s.fld F.FN_HXL_LL_RESERVE_RESERVE, limit := s.fld F.FN_HXL_LL_LIMIT_LIMIT
        timeout := s.fld F.FN_HXL_TIMEOUT_MS, ranges := s.fld F.FN_HXL_PERM_OPC_RANGES
        classes := s.fld F.FN_HXL_PERM_CLASS_MASK, resultSize := s.fld F.FN_HXL_RESULT_SIZE_SIZE }
    let (s, err) := s.applySettings (128 + s.fld F.FN_HXL_SEL_PORT) y
    .next (s.setFld F.FN_HXL_STATUS_ERR err)

end Sys2Proof.Machine
end

