-- ==== Sys2Proof/Machine/Err.lean ====
section
/-!
DEFINITION. The meanings of the error commands (spec/13_reliability.md) that reach neither the edge cores nor the cadence.
-/
namespace Sys2Proof.Machine

open Sys2Proof

/-- The function is a port's physical function (R493: virtual functions have no ERR window). -/
def isPf (src : Nat) : Bool := src < 128 && src % 64 = 0

/-- A source's count in a window first exceeds THRESH (R485): one STORM entry a window. A DDR5 device is then SUSPECT, and
a core whose Pocket storms goes offline (R486). -/
def execCeStorm (key : Nat) (s : State) : Res :=
  match s.err.windows.find? key with
  | none => .next s
  | some w =>
    match w.last with
    | none => .next s
    | some e =>
      if w.stormed || w.window != s.frame / s.ceFrames || w.count ≤ s.ceThresh then .next s
      else
        let s := { s with err := { s.err with windows := s.err.windows.set key { w with stormed := true } } }
        let s := (s.sitz { e with storm := true }).raise F.ERR_EVENT_CE_STORM
        if e.source = 0x02 then
          let u := s.unitRec e.unitKind e.unitIndex
          .next (s.setUnit e.unitKind e.unitIndex { u with suspect := true, cause := e.source })
        else if e.source = 0x04 && e.unitKind = 0 then .next (s.coreWorn e.unitIndex e)
        else .next s

/-! ### The Groomer (R480 to R482) -/

/-- What the Groomer's read of a granule found. -/
def State.groomFound (s : State) (tier granule : Nat) (finding : Nat) : State :=
  let x := s.gran granule
  let finding := if x.damaged then 2 else if x.corrupt then max finding 1 else finding
  let (k, i) := s.unitOf (granule / 32)
  match finding with
  | 0 => s
  | 1 =>
    let s := s.corrected (unitKey k i) (s.errAt granule (tier + 1) 1 0 x.injected)
    (s.setGran granule { x with corrupt := false, injected := false }).count F.ERR_GROOM_REPAIRS
  | 2 =>
    let s := if x.damaged then s else s.setGran granule { x with damaged := true }
    match s.recover granule with
    | (s, true) => s.count F.ERR_GROOM_REPAIRS
    | (s, false) => s
  | _ => s.logError (s.errAt granule 0x14 2 0 false)

/-- The field of ERR_GROOM_PASSES of a tier. -/
def groomPasses : Nat → Fld
  | 0 => F.ERR_GROOM_PASSES_HBM | 1 => F.ERR_GROOM_PASSES_DDR | _ => F.ERR_GROOM_PASSES_FLASH

/-- The Groomer reads one granule (R480, R482): `finding` 0 clean, 1 corrected, 2 uncorrectable, 3 a stripe whose parity
does not match (R479). Pages in flight are skipped, brace and PAUSE stop it. `passEnd`: it was the tier's last. -/
def execGroomerRead (tier granule finding : Nat) (passEnd : Bool) (s : State) : Res :=
  if s.sys.bracing || s.sys.power != .run || s.fld F.ERR_GROOM_CFG_PAUSE = 1 then .next s
  else
    let moving := s.store.moves.any fun m => m.page = granule / 32
    let s := if moving || (s.gran granule).poison.isSome then s else s.groomFound tier granule finding
    let s := if !moving && s.fld F.ERR_GROOM_CFG_COMPARE = 1 && s.mirrored (granule / 32) && s.isHome (granule * 128) then
        s.compareCopies granule else s
    let s := { s with err := { s.err with groomAt := s.err.groomAt.set (tier % 3) (if passEnd then 0 else granule + 1) } }
    if passEnd then
      let s := if tier = 2 then
          { s with err := { s.err with units := s.err.units.mapVals fun _ u => { u with sectorFails := 0 } } } else s
      .next ((s.countWrap (groomPasses tier)).raise F.ERR_EVENT_GROOM_PASS)
    else .next s

/-! ### The Sitzmark's registers (R490, R493) -/

/-- UNFREEZE and CLEAR are refused: ERR_STATUS.FATAL is 1 and no reset has followed it. -/
def State.sitzLocked (s : State) : Bool := s.fld F.ERR_STATUS_FATAL = 1 && !s.err.fatalResetSeen

def execErrSitzUnfreeze (src : Nat) (s : State) : Res :=
  if !isPf src || s.sitzLocked then .next s
  else .next (((s.setFld F.ERR_STATUS_FROZEN 0).setFld F.ERR_SITZ_STATUS_FROZEN 0).setFld F.ERR_STATUS_FATAL 0)

def execErrSitzClear (src : Nat) (s : State) : Res :=
  if !isPf src || s.sitzLocked then .next s
  else .next (({ s with err := { s.err with sitz := [] } }.setFld F.ERR_SITZ_STATUS_VALID 0).setFld F.ERR_SITZ_STATUS_LOST 0)

def execErrFirstClear (src : Nat) (s : State) : Res :=
  if !isPf src then .next s else .next { s with err := { s.err with first := none } }

/-! ### Units (R486, R487) -/

/-- A checker of the unit reports an error or a broken wire. -/
def State.unitPending (s : State) (kind index : Nat) : Bool :=
  s.err.checkers.cells.any fun c => Config.checkerUnitKind c.1 = kind && Config.checkerUnitIndex c.1 = index &&
    !s.chkMasked c.1 && !(c.2.railC && !c.2.railT)

/-- ERR_UNIT_CTRL.ONLINE (R487): cores and Traverse units return, when no error of the unit is pending. -/
def execErrUnitOnline (src : Nat) (s : State) : Res :=
  let k := s.fld F.ERR_UNIT_SEL_KIND
  let i := s.fld F.ERR_UNIT_SEL_INDEX
  if !isPf src || !(k = 0 || k = 6) || s.unitPending k i then .next s
  else .next (s.setUnit k i { s.unitRec k i with offline := false })

/-- A flash die ends an operation (R486, 0x32): `op` 0 an array read, 1 a program, 2 an erase. Three program or erase
failures, or three sectors that fail in one pass, retire it for good. -/
def execFlashDieReady (die op : Nat) (pass : Bool) (s : State) : Res :=
  let u := s.unitRec 4 die
  if pass || u.retired then .next s
  else
    let u := if op = 0 then { u with sectorFails := u.sectorFails + 1 } else { u with failures := u.failures + 1 }
    let s := s.setUnit 4 die u
    if u.failures < 3 && u.sectorFails < 3 then .next s
    else
      let s := s.logError { source := 0x32, severity := 4, unitKind := 4, unitIndex := die }
      .next (s.setUnit 4 die { s.unitRec 4 die with retired := true, offline := true, cause := 0x32 })

/-- The training instance of a channel: HBM3E pseudo-channels in pairs, DDR5 channels (R216, R470). -/
def busInstance (kind channel : Nat) : Nat × Nat := if kind = 1 then (0, channel / 2) else (1, channel)

/-- A bus parity error (R470): `kind` 1 an HBM3E pseudo-channel, 2 a DDR5 channel; `attempt` retries have been made of this
access already. The first three are retried, a fourth failure makes a retraining pending; an error within 16 frames of
that retraining, or its failure, is FATAL. -/
def execBusParityError (kind channel attempt : Nat) (retrainFailed : Bool) (s : State) : Res :=
  let (tk, inst) := busInstance kind channel
  let key := 256 * kind + channel
  let t := s.training tk inst
  let asked := s.err.busRetrained.getD key false
  let e : ErrInfo := { source := 0x05, severity := 1, unitKind := kind, unitIndex := channel }
  if asked && (retrainFailed || (!t.pending && decide (s.frame < t.lastFrame + 16))) then
    .next (s.fatal { e with source := 0x41 })
  else
    let s := { s with err := { s.err with
      busRetrained := if asked && !t.pending then s.err.busRetrained.erase key else s.err.busRetrained } }
    if attempt < 3 then .next (s.corrected (unitKey kind channel) e)
    else .next ({ s with err := { s.err with busRetrained := s.err.busRetrained.set key true } }.retrain tk inst)

end Sys2Proof.Machine
end

