-- ==== Sys2Proof/Machine/PstTables.lean ====
section
/-!
DEFINITION. Piste tables (spec/03_cadence.md): the table image, its flows, fill orders and entries (R114 to R117), and the
plain cadence (R125, R126).
-/
namespace Sys2Proof.Machine

open Sys2Proof

/-! ### Resources (R93). Kinds: 0 HBM, 1 DDR5, 2 ONFI, 3 Rink, 4 HXL. -/

def pstInstances : Nat → Nat
  | 0 => 128 | 1 => 32 | 2 => 32 | 3 => 42 | 4 => 16 | _ => 0

/-- Entries of a frame. -/
def pstSlots (mrdimm : Bool) : Nat → Nat
  | 0 => 1920 | 1 => if mrdimm then 1760 else 1280 | 2 => 160 | 3 => 4096 | 4 => 1280 | _ => 1

/-- Bytes that an ONFI data slot moves at a rate in MT/s (R94). -/
def onfiSlotBytes (rate : Nat) : Nat := min 64 ((rate * 20 / 1000 - 8) / 16 * 16)

/-! ### The Rink's ports (R95) -/

/-- The port that serves a memory channel: HBM3E channel, DDR5 channel, ONFI channel, by kind. -/
def rinkOfChannel (kind channel : Nat) : Nat :=
  match kind with
  | 0 => channel / 4 | 1 => 16 + channel / 4 | _ => 20 + channel / 16
/-- The ports that serve an HXL port, a PCIe port, intake with the lift line, and the control domain. -/
def rinkOfHxl (port : Nat) : Nat := 22 + port
def rinkOfPcie (port : Nat) : Nat := 38 + port
def rinkIntake : Nat := 40
def rinkControl : Nat := 41

/-! ### The image (R114 to R117) -/

def imPeriod (b : List Byte) : Nat := nbf (fieldAt b 6 1) 2 0
def imMrdimm (b : List Byte) : Bool := (fieldAt b 7 1).testBit 0
def imSet (b : List Byte) : Nat := fieldAt b 8 4
def imLen (b : List Byte) : Nat := fieldAt b 12 4
def imFlowCount (b : List Byte) : Nat := nbf (fieldAt b 16 2) 11 0
def imFillCount (b : List Byte) : Nat := fieldAt b 18 1
def imRate (b : List Byte) : Nat := fieldAt b 20 2

/-- A flow record (R116). -/
structure Flow where
  id : Nat
  /-- 0 DEADLINE, 1 RESERVE, 2 FILL -/
  type : Nat
  spread : Bool
  mask : Nat
  kinds : Nat
  source : Nat
  /-- UNITS_MEM, UNITS_FLASH, UNITS_RINK, UNITS_HXL -/
  units : List Nat
  /-- BUDGET, in the same order, units of 10 ns -/
  budgets : List Nat
  rate : Nat
  deriving DecidableEq, Repr

/-- The place of a resource kind in `units` and `budgets`. -/
def unitsAt (kind : Nat) : Nat := kind - 1
def Flow.unitsOf (f : Flow) (kind : Nat) : Nat := f.units.getD (unitsAt kind) 0
def Flow.budgetOf (f : Flow) (kind : Nat) : Nat := f.budgets.getD (unitsAt kind) 0
def Flow.hasKind (f : Flow) (kind : Nat) : Bool := f.kinds.testBit kind

def flowOf (r : List Byte) : Flow :=
  { id := nbf (fieldAt r 0 2) 11 0, type := nbf (fieldAt r 0 2) 13 12, spread := (fieldAt r 0 2).testBit 14,
    mask := fieldAt r 2 2, kinds := nbf (fieldAt r 4 1) 4 0, source := fieldAt r 5 1,
    units := (List.range 4).map fun i => fieldAt r (8 + 2 * i) 2,
    budgets := (List.range 4).map fun i => fieldAt r (16 + 2 * i) 2, rate := fieldAt r 24 2 }

def imFlowBytes (b : List Byte) (i : Nat) : List Byte := sub b (128 + 32 * i) 32
def imFlows (b : List Byte) : List Flow := (List.range (imFlowCount b)).map fun i => flowOf (imFlowBytes b i)

def imFillBytes (b : List Byte) (i : Nat) : List Byte := sub b (128 + 32 * imFlowCount b + 512 * i) 512
/-- The elements of fill order `i` (R117). -/
def imFill (b : List Byte) (i : Nat) : List Nat :=
  let r := imFillBytes b i
  (List.range (fieldAt r 0 2)).map fun k => nbf (fieldAt r (2 + 2 * k) 2) 11 0

/-- Bytes of one table of a kind. -/
def imTableBytes (b : List Byte) (kind : Nat) : Nat := 2 * pstSlots (imMrdimm b) kind * 2 ^ imPeriod b
/-- Where a table begins (R115). -/
def imTableAt (b : List Byte) (kind inst : Nat) : Nat :=
  128 + 32 * imFlowCount b + 512 * imFillCount b +
    ((List.range kind).map fun k => pstInstances k * imTableBytes b k).sum + inst * imTableBytes b kind
/-- The entries of a table's frame. -/
def imFrame (b : List Byte) (kind inst frame : Nat) : List Nat :=
  let n := pstSlots (imMrdimm b) kind
  let r := (b.drop (imTableAt b kind inst + 2 * n * frame)).take (2 * n)
  (List.range n).map fun i => fieldAt (r.drop (2 * i)) 0 2
def imTotal (b : List Byte) : Nat := imTableAt b 4 16

/-! ### The plain cadence (R125, R126) -/

/-- The flows of the plain cadence. -/
def plainFlows : List Flow :=
  { id := 1, type := 2, spread := false, mask := 0x7FFF, kinds := 0x17, source := 0xFF, units := [0, 0, 0, 0],
    budgets := [0, 0, 0, 0], rate := 0 } ::
  (List.range 42).map fun s =>
    { id := 0x100 + s, type := 1, spread := false, mask := 0x7FFF, kinds := 8, source := s, units := [0, 0, 1, 0],
      budgets := [0, 0, 0, 0], rate := 0 }

/-- The numbers of one column of R126's memory rows: the REFRESH_2X, REFRESH and RETRAIN runs, where CONTROL stands first
and with which steps. -/
structure PlainMem where
  r2 : Nat × Nat
  r1 : Nat × Nat
  rt : Nat × Nat
  c0 : Nat
  c1 : Nat
  step : Nat
  step0 : Nat

def plainHbm : PlainMem := { r2 := (960, 1319), r1 := (0, 359), rt := (361, 959), c0 := 360, c1 := 1320, step := 75, step0 := 40 }
def plainDdr : PlainMem := { r2 := (640, 879), r1 := (0, 239), rt := (241, 639), c0 := 240, c1 := 880, step := 50, step0 := 25 }
def plainMrd : PlainMem := { r2 := (880, 1209), r1 := (0, 329), rt := (331, 879), c0 := 330, c1 := 1210, step := 68, step0 := 36 }

/-- A slot is start + step · j for some j below n. -/
def onGrid (slot start step n : Nat) : Bool := (List.range n).any fun j => start + step * j = slot

def PlainMem.entry (m : PlainMem) (frame slot : Nat) : Nat :=
  let within (r : Nat × Nat) : Bool := decide (r.1 ≤ slot) && decide (slot ≤ r.2)
  if within m.r2 then 0xFF3
  else if within m.r1 then 0xFF2
  else if frame = 0 && within m.rt then 0xFF4
  else if frame = 0 then (if slot = m.c0 || onGrid slot m.c1 m.step0 15 then 0xFF1 else 0)
  else if onGrid slot m.c0 m.step 8 || onGrid slot m.c1 m.step 8 then 0xFF1
  else 0

/-- The entry of the plain cadence (R126): an owner with fill order 0. -/
def plainEntry (mrdimm : Bool) (kind inst frame slot : Nat) : Nat :=
  match kind with
  | 0 => plainHbm.entry frame slot
  | 1 => (if mrdimm then plainMrd else plainDdr).entry frame slot
  | 2 =>
    if frame = 0 && 81 ≤ slot && slot ≤ 119 then 0xFF4
    else if slot = 0 || slot = 80 then 0xFF1
    else if slot = 40 then 0xFF5
    else if slot = 120 then 0xFF6
    else 0
  | 3 => 0x100 + (inst + 1 + slot % 41) % 42
  | _ => if slot = 0 then 0xFF0 else if slot % 25 = 0 && slot ≤ 1275 then 0xFF1 else 0

/-! ### The tables in force -/

/-- The bank of the active tables, none while the plain cadence runs. -/
def State.pstBank (s : State) : Option Bank :=
  if s.fld F.PST_STATUS_PLAIN = 1 then none else s.pst.banks[s.fld F.PST_STATUS_ACTIVE_BANK]?

/-- The inactive bank's number. -/
def State.pstSpare (s : State) : Nat := 1 - s.fld F.PST_STATUS_ACTIVE_BANK

def State.mrdimm (s : State) : Bool := s.fld F.TIER_POP_DDR_MRDIMM = 1

/-- The brace or the plain layout is in force (R125, R127). -/
def State.pstPlainLayout (s : State) : Bool := s.fld F.PST_STATUS_BRACE = 1 || s.pstBank.isNone

def State.pstPeriod (s : State) : Nat :=
  if s.pstPlainLayout then 4 else (s.pstBank.map fun b => imPeriod b.image).getD 4

/-- The table frame of a rack frame (R115). -/
def State.pstPhase (s : State) : Nat := s.frame % 2 ^ s.pstPeriod

/-- The entry of a slot of a table frame. A slot past the table (the HXL slack) has owner 0 and fill order 0. -/
def State.pstEntryAt (s : State) (kind inst phase slot : Nat) : Nat :=
  if slot ≥ pstSlots s.mrdimm kind then 0
  else if s.pstPlainLayout then plainEntry s.mrdimm kind inst phase slot
  else match s.pstBank with
  | none => 0
  | some b => fieldAt b.image (imTableAt b.image kind inst + 2 * (pstSlots s.mrdimm kind * phase + slot)) 2

/-- The entry of a slot of the present frame. -/
def State.pstEntry (s : State) (kind inst slot : Nat) : Nat := s.pstEntryAt kind inst s.pstPhase slot

def State.pstFlows (s : State) : List Flow :=
  if s.pstPlainLayout then plainFlows else (s.pstBank.map fun b => imFlows b.image).getD []
def State.pstFlow (s : State) (id : Nat) : Option Flow := s.pstFlows.find? fun f => f.id = id
/-- The brace flush flow, the only one that fill order 0 of the brace cadence names (R127). -/
def braceFlow : Nat := 0xFEF
def State.pstFill (s : State) (order : Nat) : List Nat :=
  if s.fld F.PST_STATUS_BRACE = 1 then (if order = 0 then [braceFlow] else [])
  else if s.pstPlainLayout then (if order = 0 then [1] else []) else (s.pstBank.map fun b => imFill b.image order).getD []

end Sys2Proof.Machine
end

