-- ==== Sys2Proof/Machine/Sha.lean ====
section
/-!
DEFINITION. SHA-384 (R114, R254): the digest the spec names. Its constants are the fractional parts of roots of the first
primes, computed here.
-/
namespace Sys2Proof.Machine

/-- The first `n` bits' integer k-th root: the largest r below 2^n with r^k ≤ v. -/
def intRoot (k v : Nat) : Nat → Nat → Nat
  | 0, r => r
  | n + 1, r => if (r + 2 ^ n) ^ k ≤ v then intRoot k v n (r + 2 ^ n) else intRoot k v n r

/-- The first 80 primes. -/
def shaPrimes : List Nat :=
  ((List.range 410).filter fun p => decide (2 ≤ p) && (List.range 21).all fun d => d < 2 || p % d != 0 || p = d).take 80

/-- 64 bits of the fractional part of the cube root of a prime. -/
def shaK (p : Nat) : Nat := intRoot 3 (p * 2 ^ 192) 70 0 % 2 ^ 64
/-- 64 bits of the fractional part of the square root of a prime. -/
def shaH (p : Nat) : Nat := intRoot 2 (p * 2 ^ 128) 70 0 % 2 ^ 64

def rotr64 (x n : Nat) : Nat := (x >>> n) ||| ((x <<< (64 - n)) % 2 ^ 64)

/-- The big-endian value of a byte string. -/
def beNat (l : List Byte) : Nat := l.foldl (fun v b => 256 * v + b.toNat) 0
/-- The `n` big-endian bytes of a number. -/
def toBe (n v : Nat) : List Byte := (toLe n v).reverse

/-- The message with its padding: blocks of 128 bytes. -/
def shaPad (l : List Byte) : List Byte :=
  let n := l.length
  l ++ [0x80] ++ List.replicate ((128 + 111 - n % 128) % 128) 0 ++ toBe 16 (8 * n)

/-- One round over the eight working words. -/
def shaRound (v : List Nat) (k w : Nat) : List Nat :=
  match v with
  | [a, b, c, d, e, f, g, h] =>
    let s1 := rotr64 e 14 ^^^ rotr64 e 18 ^^^ rotr64 e 41
    let ch := (e &&& f) ^^^ ((2 ^ 64 - 1 - e) &&& g)
    let t1 := (h + s1 + ch + k + w) % 2 ^ 64
    let s0 := rotr64 a 28 ^^^ rotr64 a 34 ^^^ rotr64 a 39
    let maj := (a &&& b) ^^^ (a &&& c) ^^^ (b &&& c)
    [(t1 + s0 + maj) % 2 ^ 64, a, b, c, (d + t1) % 2 ^ 64, e, f, g]
  | _ => v

/-- The 80 message words of a block, the newest first in the accumulator. -/
def shaExtend : Nat → List Nat → List Nat
  | 0, l => l.reverse
  | n + 1, l =>
    let x := l.getD 1 0
    let y := l.getD 14 0
    let s1 := rotr64 x 19 ^^^ rotr64 x 61 ^^^ (x >>> 6)
    let s0 := rotr64 y 1 ^^^ rotr64 y 8 ^^^ (y >>> 7)
    shaExtend n (((s1 + l.getD 6 0 + s0 + l.getD 15 0) % 2 ^ 64) :: l)

/-- One block. -/
def shaBlock (ks : List Nat) (h : List Nat) (b : List Byte) : List Nat :=
  let w0 := (List.range 16).map fun i => beNat (sub b (8 * i) 8)
  let ws := shaExtend 64 w0.reverse
  let v := (ks.zip ws).foldl (fun v x => shaRound v x.1 x.2) h
  (h.zip v).map fun x => (x.1 + x.2) % 2 ^ 64

/-- Cut a byte string into blocks of 128. -/
def shaBlocks : Nat → List Byte → List (List Byte)
  | 0, _ => []
  | n + 1, l => if l.isEmpty then [] else l.take 128 :: shaBlocks n (l.drop 128)

/-- The 48-byte SHA-384 of a byte string. -/
def sha384 (l : List Byte) : List Byte :=
  let ks := shaPrimes.map shaK
  let h0 := ((shaPrimes.drop 8).take 8).map shaH
  let p := shaPad l
  let h := (shaBlocks (p.length / 128) p).foldl (fun h b => shaBlock ks h b) h0
  (h.take 6).foldl (fun o x => o ++ toBe 8 x) []

end Sys2Proof.Machine
end

