-- ==== Sys2Proof/Machine/PstCheck.lean ====
section
/-!
DEFINITION. The table checker (spec/03_cadence.md, R105 to R111, R119, R137, R138): the checks of a table image in their
order, each with the place of its first failure.
-/
namespace Sys2Proof.Machine

open Sys2Proof

/-- Where a check failed: KIND, INDEX, FRAME and SLOT of PST_LOAD_STATUS and PST_LOAD_WHERE. -/
structure PstWhere where
  kind : Nat := 0
  index : Nat := 0
  frame : Nat := 0
  slot : Nat := 0
  deriving DecidableEq, Repr

/-- An image read into lists once. -/
structure PstImage where
  bytes : List Byte
  mrdimm : Bool
  period : Nat
  flows : List Flow
  fills : List (List Nat)

def readImage (b : List Byte) : PstImage :=
  { bytes := b, mrdimm := imMrdimm b, period := 2 ^ imPeriod b, flows := imFlows b,
    fills := (List.range (imFillCount b)).map (imFill b) }

def PstImage.slots (im : PstImage) (kind : Nat) : Nat := pstSlots im.mrdimm kind
/-- The entries of a whole table, frame after frame. -/
def PstImage.table (im : PstImage) (kind inst : Nat) : List Nat :=
  (List.range im.period).foldl (fun l f => l ++ imFrame im.bytes kind inst f) []
def PstImage.flow (im : PstImage) (id : Nat) : Option Flow := im.flows.find? fun f => f.id = id

/-- Owner and fill order of an entry (R97). -/
def owner (e : Nat) : Nat := e % 4096
def fillOf (e : Nat) : Nat := e / 4096 % 16

/-- The first place among all instances of some kinds at which a check of a whole table fails. -/
def PstImage.firstTable (im : PstImage) (kinds : List Nat) (p : Nat → Nat → List Nat → Option (Nat × Nat)) :
    Option PstWhere :=
  kinds.findSome? fun k => (List.range (pstInstances k)).findSome? fun i =>
    (p k i (im.table k i)).map fun x => { kind := k + 1, index := i, frame := x.1, slot := x.2 }

/-- The first entry of a table for which a property fails, as frame and slot. -/
def firstEntry (slots : Nat) (t : List Nat) (p : Nat → Nat → Bool) : Option (Nat × Nat) :=
  ((List.range t.length).find? fun i => !p i (t.getD i 0)).map fun i => (i / slots, i % slots)

/-! ### 0x01 to 0x06 -/

def badHeader (len : Nat) (b : List Byte) : Bool :=
  fieldAt b 0 4 != 0x72200C01 || fieldAt b 4 2 != 1 || imPeriod b > 4 || nbf (fieldAt b 6 1) 7 3 != 0 ||
    nbf (fieldAt b 7 1) 7 1 != 0 || imSet b = 0 || imFlowCount b = 0 || imFlowCount b > 4079 ||
    nbf (fieldAt b 16 2) 15 12 != 0 || imFillCount b = 0 || imFillCount b > 16 || fieldAt b 19 1 != 0 ||
    (sub b 22 58).any (· != 0) || imLen b != len || imLen b != imTotal b

def badDigest (b : List Byte) : Bool := sha384 (b.take 80 ++ b.drop 128) != sub b 80 48

/-- The largest UNITS of a place: MEM, FLASH, RINK, HXL (R116). -/
def unitsMax : Nat → Nat
  | 0 => 512 | 1 => 256 | 2 => 256 | _ => 512

/-- The kinds that use a place of UNITS and BUDGET. -/
def Flow.usesPlace (f : Flow) (i : Nat) : Bool := if i = 0 then f.hasKind 0 || f.hasKind 1 else f.hasKind (i + 1)

/-- A flow record is not valid (R116). -/
def badFlow (r : List Byte) (f : Flow) : Bool :=
  f.id = 0 || f.id > 0xFEF || f.type = 3 || (fieldAt r 0 2).testBit 15 || nbf (fieldAt r 4 1) 7 5 != 0 ||
    fieldAt r 6 2 != 0 || (sub r 26 6).any (· != 0) || (f.source > 41 && f.source != 0xFF) ||
    ((List.range 4).any fun i =>
      let u := f.units.getD i 0
      let b := f.budgets.getD i 0
      if f.type = 2 || !f.usesPlace i then u != 0 || (f.type != 0 && b != 0)
      else u = 0 || u > unitsMax i || (f.type != 0 && b != 0)) ||
    (f.type != 1 && f.rate != 0)

def PstImage.flowFails (im : PstImage) : Option PstWhere :=
  ((List.range im.flows.length).find? fun i =>
    let f := im.flows.getD i (flowOf [])
    badFlow (imFlowBytes im.bytes i) f || ((im.flows.take i).any fun g => g.id = f.id)).map fun i =>
      { kind := 6, index := (im.flows.getD i (flowOf [])).id }

/-- CLASS_COVER: every CLASS 0 to 14 belongs to exactly one flow at each kind, and at the Rink for each source port; CLASS
15 to none (R100), nor to a flow without a kind (R116). -/
def PstImage.coverFails (im : PstImage) : Option PstWhere :=
  ((List.range 5).findSome? fun k =>
    let fs := im.flows.filter fun f => f.hasKind k
    let srcs := if k = 3 then List.range 42 else [0]
    (srcs.find? fun p => (List.range 16).any fun c =>
      let n := (fs.filter fun f => f.mask.testBit c && (k != 3 || f.source = 0xFF || f.source = p)).length
      if c = 15 then n != 0 else n != 1).map fun p => ({ kind := k + 1, index := p } : PstWhere))
  <|> ((im.flows.find? fun f => f.mask.testBit 15).map fun f => ({ kind := 6, index := f.id } : PstWhere))

def PstImage.fillFails (im : PstImage) : Option PstWhere :=
  ((List.range im.fills.length).find? fun i =>
    let r := imFillBytes im.bytes i
    let n := fieldAt r 0 2
    n = 0 || n > 255 || ((List.range 255).any fun k =>
      let x := fieldAt r (2 + 2 * k) 2
      if k ≥ n then x != 0
      else x ≥ 4096 || (x != 0 && !((im.flow x).any fun f => f.type = 2)))).map fun i => { kind := 7, index := i }

/-! ### 0x07, 0x08 -/

/-- The tables a reserved operation may stand in (R98). -/
def reservedIn (o kind : Nat) : Bool :=
  match o with
  | 0xFF0 => kind = 4
  | 0xFF1 => kind = 0 || kind = 1 || kind = 2 || kind = 4
  | 0xFF2 | 0xFF3 => kind = 0 || kind = 1
  | 0xFF4 => kind = 0 || kind = 1 || kind = 2
  | 0xFF5 | 0xFF6 => kind = 2
  | _ => false

def PstImage.entryFails (im : PstImage) : Option PstWhere :=
  im.firstTable [0, 1, 2, 3, 4] fun k _ t => firstEntry (im.slots k) t fun _ e =>
    let o := owner e
    decide (fillOf e < im.fills.length) &&
      (o = 0 || (if o ≥ 0xFF0 then reservedIn o k else (im.flow o).any fun f => f.type != 2 && f.hasKind k))

/-- RINK_SOURCE (R104). -/
def PstImage.rinkFails (im : PstImage) : Option PstWhere :=
  let src (e : Nat) : Option Nat := (im.flow (owner e)).map (·.source)
  let tables := (List.range 42).map (im.table 3)
  im.firstTable [3] fun _ i t => firstEntry 4096 t fun c e =>
    match src e with
    | none => false
    | some p => p != 0xFF && p != i &&
        (List.range i).all fun j => src ((tables.getD j []).getD c 0) != some p

/-! ### Runs and intervals (R98, R106 to R111) -/

/-- Nominal slot length is 3200/slots ns: `n` slots last at least `ns` at the shortest length (R106). -/
def atLeastNs (slots n ns : Nat) : Bool := decide (n * 3200 * 99990 ≥ ns * slots * 100000)
/-- `n` slots last at most `ns` at the longest length. -/
def atMostNs (slots n ns : Nat) : Bool := decide (n * 3200 * 100513 ≤ ns * slots * 100000)

/-- The runs of an owner in a table: start and length, in order of their starts (R98); the entry after the period's last is its
first, so that a run may pass the period's end. -/
def runsOf (o : Nat) (t : List Nat) : List (Nat × Nat) :=
  let step (r : List (Nat × Nat)) (x : Nat × Nat) : List (Nat × Nat) :=
    if owner x.2 != o then r
    else match r with
    | (p, n) :: rest => if p + n = x.1 then (p, n + 1) :: rest else (x.1, 1) :: r
    | [] => [(x.1, 1)]
  let rs := (((List.range t.length).zip t).foldl step []).reverse
  match rs, rs.getLast? with
  | a :: b :: rest, some z => if a.1 = 0 && z.1 + z.2 = t.length then (b :: rest).dropLast ++ [(z.1, z.2 + a.2)] else rs
  | _, _ => rs

/-- The first of a cyclic list of positions whose distance to the next fails a test. -/
def cyclicFails (period : Nat) (ps : List Nat) (ok : Nat → Bool) : Option Nat :=
  match ps with
  | [] => some 0
  | p :: _ =>
    ((ps.zip (ps.drop 1 ++ [p + period])).find? fun x => !ok (x.2 - x.1)).map (·.1)

def State.trec (s : State) (kind field : Nat) : Nat := (s.store.timing.getD kind []).getD field 0

def sortNat (l : List Nat) : List Nat := l.mergeSort (fun a b => decide (a ≤ b))

/-- The first refresh run, in the table's order, that is too short (R107). -/
def PstImage.refreshShort (im : PstImage) (s : State) : Option PstWhere :=
  im.firstTable [0, 1] fun k _ t =>
    let n := im.slots k
    let short := (runsOf 0xFF2 t ++ runsOf 0xFF3 t).filter fun r => !atLeastNs n r.2 (s.trec k 2)
    (sortNat (short.map (·.1))).head?.map fun r => (r / n, r % n)

def PstImage.refreshInterval (im : PstImage) (s : State) : Option PstWhere :=
  im.firstTable [0, 1] fun k _ t =>
    let n := im.slots k
    let single := (runsOf 0xFF2 t).map (·.1)
    let both := sortNat (single ++ (runsOf 0xFF3 t).map (·.1))
    let f (ps : List Nat) (parts : Nat) := cyclicFails t.length ps fun d => atMostNs n (parts * d) (s.trec k 3)
    match f single 1 with
    | some p => some (p / n, p % n)
    | none => (f both 2).map fun p => (p / n, p % n)

/-- Every window of RETRAIN_WINDOW_FRAMES frames, cyclic, holds a run, and every run is long enough (R108). -/
def PstImage.retrainMissing (im : PstImage) (s : State) : Option PstWhere :=
  im.firstTable [0, 1, 2] fun k _ t =>
    let n := im.slots k
    let w := s.trec k 5
    let rs := runsOf 0xFF4 t
    match rs.find? fun r => !atLeastNs n r.2 (s.trec k 4) with
    | some r => some (r.1 / n, r.1 % n)
    | none =>
      ((List.range im.period).find? fun f =>
        (List.range (min w im.period)).all fun i =>
          rs.all fun r => r.1 / n != (f + i) % im.period).map fun f => (f, 0)

def PstImage.retrainSkew (im : PstImage) : Option PstWhere :=
  [0, 1].findSome? fun k => (List.range (pstInstances k / 2)).findSome? fun c =>
    let a := im.table k (2 * c)
    let b := im.table k (2 * c + 1)
    ((List.range a.length).find? fun i => (owner (a.getD i 0) = 0xFF4) != (owner (b.getD i 0) = 0xFF4)).map fun i =>
      { kind := k + 1, index := 2 * c + 1, frame := i / im.slots k, slot := i % im.slots k }

/-- A DEADLINE flow owns a slot of the table. -/
def PstImage.hasDeadline (im : PstImage) (t : List Nat) : Bool :=
  im.flows.any fun f => f.type = 0 && t.any fun e => owner e = f.id

def PstImage.suspendMissing (im : PstImage) : Option PstWhere :=
  im.firstTable [2] fun _ _ t =>
    if !im.hasDeadline t then none
    else ((List.range im.period).find? fun f =>
      let fr := (t.drop (160 * f)).take 160
      !(fr.any fun e => owner e = 0xFF5) || !(fr.any fun e => owner e = 0xFF6)).map fun f => (f, 0)

/-- Between each RESUME and the next SUSPEND, cyclic, RESUME_RUN_NS pass at the shortest length (R109). -/
def PstImage.suspendSpacing (im : PstImage) (s : State) : Option PstWhere :=
  im.firstTable [2] fun _ _ t =>
    if !im.hasDeadline t then none
    else
      let ps (o : Nat) := ((List.range t.length).filter fun i => owner (t.getD i 0) = o)
      let next (r : Nat) : Option Nat :=
        match (ps 0xFF5).find? fun p => decide (r < p) with
        | some p => some p
        | none => (ps 0xFF5).head?.map (· + t.length)
      ((ps 0xFF6).find? fun r => (next r).any fun p => !atLeastNs 160 (p - r - 1) (s.trec 2 8)).map fun r =>
        (r / 160, r % 160)

/-- The least number of CONTROL entries of a frame and their largest gap (R110): slots strictly between two of them, as the
worked bound of the chapter counts. -/
def controlNeeds : Nat → Nat × Nat
  | 0 | 1 => (8, 384) | 2 => (2, 96) | _ => (52, 25)

def isRun (o : Nat) : Bool := o = 0xFF2 || o = 0xFF3 || o = 0xFF4

def PstImage.controlShort (im : PstImage) : Option PstWhere :=
  im.firstTable [0, 1, 2, 4] fun k _ t =>
    let n := im.slots k
    let (need, gap) := controlNeeds k
    let isC (e : Nat) : Bool := owner e = 0xFF1 || (k = 4 && owner e = 0xFF0)
    match (List.range im.period).find? fun f => ((t.drop (n * f)).take n).countP isC < need with
    | some f => some (f, 0)
    | none =>
      -- positions counted in slots outside the runs
      let kept := ((List.range t.length).zip t).filter fun x => k = 4 || !isRun (owner x.2)
      let cs := ((List.range kept.length).zip kept).filter fun x => isC x.2.2
      (cyclicFails kept.length (cs.map (·.1)) fun d => decide (d - 1 ≤ gap)).map fun p =>
        let i := (kept.getD p (0, 0)).1
        (i / n, i % n)

def PstImage.epochSlot (im : PstImage) : Option PstWhere :=
  im.firstTable [4] fun _ _ t => firstEntry 1280 t fun i e => (owner e = 0xFF0) = (i % 1280 = 0)

/-! ### 0x11 to 0x13 (R137, R138) -/

/-- Queue space of an instance (R119). -/
def queueSpace : Nat → Nat
  | 0 | 1 => 512 | 2 | 3 => 256 | _ => 512

/-- The flows that own slots of a table. -/
def PstImage.ownersOf (im : PstImage) (t : List Nat) : List Flow := im.flows.filter fun f => t.any fun e => owner e = f.id

def PstImage.queueFails (im : PstImage) : Option PstWhere :=
  im.firstTable [0, 1, 2, 3, 4] fun k _ t =>
    if ((im.ownersOf t).map (·.unitsOf (max k 1))).sum > queueSpace k then some (0, 0) else none

/-- The positions of an owner over the period, HXL frames counted as 1,336 slot times (R138). -/
def positions (kind slots o : Nat) (t : List Nat) : List Nat :=
  ((List.range t.length).filter fun i => owner (t.getD i 0) = o).map fun i =>
    if kind = 4 then i / slots * 1336 + i % slots else i

/-- span(k) of R138; 0 slots take no time. -/
def spanOf (ps : List Nat) (period k : Nat) : Nat :=
  let n := ps.length
  if n = 0 || k = 0 then 0
  else (List.range n).foldl (fun worst i =>
    let prev := if i = 0 then ps.getD (n - 1) 0 else ps.getD (i - 1) 0 + period
    let j := i + k - 1
    max worst (ps.getD (j % n) 0 + (j / n + 1) * period - prev)) 0

/-- A DEADLINE flow's bound at an instance passes its budget (R137). -/
def State.overBudget (s : State) (kind slots period : Nat) (f : Flow) (t : List Nat) : Bool :=
  let b := 10 * f.budgetOf (max kind 1)
  let u := f.unitsOf (max kind 1)
  let ps := positions kind slots f.id t
  let len := if kind = 4 then 1336 * period else t.length
  let span (k : Nat) := spanOf ps len k
  -- times in units of 1/(slots · 100000) ns
  let longest := 3200 * 100513
  let ns (n : Nat) := n * slots * 100000
  if b = 0 then false
  else match kind with
  | 0 | 1 =>
    ns (s.trec kind 0) + span u * longest + (if f.spread then 0 else ns ((u - 1) * s.trec kind 1)) > ns b
  | 2 =>
    let gap := spanOf (positions 2 slots 0xFF5 t) len 1
    gap * longest + ns (s.trec 2 7) + span 1 * longest + ns (s.trec 2 6) + span (u - 1) * longest +
      (if f.spread then 0 else ns ((u - 1) * s.trec 2 6)) > ns b
  | 3 => (span u + 8) * longest > ns b
  | _ => span u * 240965 > b * 100000

def PstImage.deadlineFails (im : PstImage) (s : State) : Option PstWhere :=
  im.firstTable [0, 1, 2, 3, 4] fun k _ t =>
    if (im.ownersOf t).any fun f => f.type = 0 && s.overBudget k (im.slots k) im.period f t then some (0, 0) else none

def PstImage.reserveFails (im : PstImage) : Option PstWhere :=
  im.firstTable [0, 1, 2, 3, 4] fun _ _ t =>
    if (im.ownersOf t).any fun f => f.type = 1 && decide ((t.countP fun e => owner e = f.id) < f.rate * im.period) then
      some (0, 0) else none

/-- The checks 0x01 to 0x13 in order: the first that fails, with its place (R119). -/
def State.checkImage (s : State) (len : Nat) (b : List Byte) : Option (Nat × PstWhere) :=
  let fail (code : Nat) (w : Option PstWhere) : Option (Nat × PstWhere) := w.map fun x => (code, x)
  if badHeader len b then some (0x01, {})
  else if badDigest b then some (0x02, {})
  else if imMrdimm b != s.mrdimm || imRate b != s.fld F.TIER_POP_FLASH_RATE then some (0x03, {})
  else
    let im := readImage b
    (fail 0x04 im.flowFails <|> fail 0x05 im.coverFails <|> fail 0x06 im.fillFails <|> fail 0x07 im.entryFails <|>
     fail 0x08 im.rinkFails <|> fail 0x09 (im.refreshShort s) <|> fail 0x0A (im.refreshInterval s) <|>
     fail 0x0B (im.retrainMissing s) <|> fail 0x0C im.retrainSkew <|> fail 0x0D im.suspendMissing <|>
     fail 0x0E (im.suspendSpacing s) <|> fail 0x0F im.controlShort <|> fail 0x10 im.epochSlot <|>
     fail 0x11 im.queueFails <|> fail 0x12 (im.deadlineFails s) <|> fail 0x13 im.reserveFails)

end Sys2Proof.Machine
end

