-- ==== Sys2Proof/Machine/CompOps.lean ====
section
/-!
DEFINITION. Compositions at one member (spec/14_rack_fault_tolerance.md, R521 to R527): limits, grants, withdrawal.
-/
namespace Sys2Proof.Machine

open Sys2Proof

/-! ### Packet fields of opcodes 0xC0 to 0xCF (R526) -/

def mpSubject (p : Packet) : Nat := bf p 69 64
def mpSlot (p : Packet) : Nat := bf p 77 72
def mpResync (p : Packet) : Bool := bit p 80
def mpComp (p : Packet) : Nat := bf p 107 96
def mpRsa (p : Packet) : Nat := pkField p 16 7
def mpSlabs (p : Packet) : Nat := pkField p 24 4
def mpLimitHbm (p : Packet) : Nat := pkField p 16 4
def mpLimitDdr (p : Packet) : Nat := pkField p 20 4
def mpLimitFlash (p : Packet) : Nat := pkField p 24 4
def mpPoolHbm (p : Packet) : Nat := pkField p 28 2
def mpPoolDdr (p : Packet) : Nat := pkField p 30 2

/-- The slab numbers of CMP_GRANT and CMP_WITHDRAW. -/
def mpSlabList (p : Packet) : List Nat := (List.range (mpSlabs p)).map fun i => mpRsa p / 2 ^ 30 + i

/-! ### Compositions -/

/-- A composition is defined: composition 0 always is (R521). -/
def State.compDefined (s : State) (c : Nat) : Bool := c = 0 || s.rack.comps.has c
def State.comp (s : State) (c : Nat) : Comp := s.rack.comps.getD c {}
def State.setComp (s : State) (c : Nat) (x : Comp) : State :=
  { s with rack := { s.rack with comps := s.rack.comps.set c x } }

def State.slabNo (s : State) (n : Nat) : Slab := s.store.slabs.getD n {}

/-- GiB granted to a composition with a HOME tier. -/
def State.granted (s : State) (c : Nat) (t : Tier) : Nat :=
  (s.store.slabs.cells.filter fun x => x.2.comp == some c && x.2.home == t).length

/-- The limits CMP_DEFINE would set lie below what is in use (R527). -/
def State.belowUse (s : State) (p : Packet) : Bool :=
  let c := mpComp p
  let x := s.comp c
  let gib := 0x40000000
  decide (mpLimitHbm p < s.granted c .hbm) || decide (mpLimitDdr p < s.granted c .ddr) ||
    decide (mpLimitFlash p < s.granted c .flash) ||
    (mpPoolHbm p != 0 && decide (mpPoolHbm p * gib < x.chargedHbm)) ||
    (mpPoolDdr p != 0 && decide (mpPoolDdr p * gib < x.chargedDdr))

/-- The member that draws a composition's key pair draws it and sends it to every other (R534). -/
def State.drawKey (s : State) (c : Nat) : State :=
  if s.serverOf (c % s.width) != s.sys.member then s
  else
    let k := Config.randomDraw s.fresh % 2 ^ 512
    let s := { s with rack := { s.rack with keys := s.rack.keys.set c k } }.tickFresh
    ((s.voting.filter fun m => m != s.sys.member)).foldl (fun (s : State) m => s.sendItem
      { owner := none, home := m, epoch := s.rack.map.epoch, role := true, slot := 64, kind := 21, addr := c, data := toLe 64 k } 0) s

/-- CMP_DEFINE at this member (R521): a new composition has a key pair (R534). -/
def State.defineComp (s : State) (p : Packet) : State :=
  let c := mpComp p
  let x := { s.comp c with limitHbm := mpLimitHbm p, limitDdr := mpLimitDdr p, limitFlash := mpLimitFlash p,
                           poolHbm := mpPoolHbm p, poolDdr := mpPoolDdr p }
  if s.rack.comps.has c then s.setComp c x else (s.setComp c x).drawKey c

/-! ### Metering (R613, R615) -/

/-- A composition's counters as they stood at a tick, if this member holds that tick's (R613): 0 for a composition that has
been defined since, or not at all. -/
def State.meterAt (s : State) (c tick : Nat) : Option (List Nat) :=
  match (s.comp c).ticks.find? fun t => t.1 = tick with
  | some t => some t.2
  | none => if (s.comp 0).ticks.any fun t => t.1 = tick then some [0, 0, 0, 0] else none

/-- What this member reports for a query: its number, 1, and the four counters; nothing when it does not hold the tick. -/
def State.meterReport (s : State) (c tick : Nat) : List Nat :=
  match s.meterAt c tick with
  | some v => [s.sys.member, 1] ++ v
  | none => []

/-! ### Slabs -/

/-- A slab leaves every table of the store and reads as zero with WGEN 0 (R522). -/
def State.zeroSlab (s : State) (n : Nat) : State :=
  { s with store := { s.store with
      mem := s.store.mem.filter fun c => c.1 / 2 ^ 30 != n
      mirrorMem := s.store.mirrorMem.filter fun c => c.1 / 2 ^ 30 != n
      mirrorGrans := s.store.mirrorGrans.filter fun g _ => g / 8388608 != n
      mirrorDdr := s.store.mirrorDdr.filter fun x => x.2 != n
      mirrorLacks := s.store.mirrorLacks.filter fun x => x.2 != n
      grans := s.store.grans.filter fun g _ => g / 8388608 != n
      pages := s.store.pages.filter fun pg _ => pg / 262144 != n
      pools := s.store.pools.mapVals fun _ l => l.filter fun pg => pg / 262144 != n
      raises := s.store.raises.filter fun r => r.1 / 262144 != n
      moves := s.store.moves.filter fun m => m.page / 262144 != n
      journal := s.store.journal.filter fun j => j.rsa / 2 ^ 30 != n
      flashOld := s.store.flashOld.filter fun pg _ => pg / 262144 != n
      sinceCheck := s.store.sinceCheck.filter fun pg _ => pg / 262144 != n } }

/-- The default placement of R183 gives a new grant its home tier. -/
def grantHome : Tier := ({} : Slab).home

/-- Frames a grant needs at this member (R36, R185). -/
def State.grantNeeds (s : State) (slabs : List Nat) : Nat := (slabs.map fun n => s.framesOf n {}).sum

/-- The grant would pass a LIMIT (R522); composition 0 has none. -/
def State.passesLimit (s : State) (p : Packet) : Bool :=
  mpComp p != 0 && decide (s.granted (mpComp p) grantHome + mpSlabs p >
    match grantHome with
    | .hbm => (s.comp (mpComp p)).limitHbm | .ddr => (s.comp (mpComp p)).limitDdr | .flash => (s.comp (mpComp p)).limitFlash)

/-- CMP_GRANT at this member (R522, R183, R185). -/
def State.grantSlabs (s : State) (p : Packet) : State :=
  ((mpSlabList p).filter fun n => (s.store.slabs.getD n {}).comp != some (mpComp p)).foldl (fun (s : State) n =>
    let s := (s.zeroSlab n).setSlab n { comp := some (mpComp p) }
    let t := grantHome.code
    { s with store := { s.store with
      free := s.store.free.set t (s.store.free.getD t 0 - s.framesOf n {}) } }) s

/-- Step 1 of CMP_WITHDRAW at this member (R522): new captures stop; what must end first is noted. -/
def State.beginWithdraw (s : State) (id : Nat) (p : Packet) : State :=
  let slabs := mpSlabList p
  let waits := (s.entriesWhere fun i e => i != id && e.accepted && e.captures.any fun k =>
    slabs.any fun n => decide (k.first < (n + 1) * 2 ^ 30) && decide (n * 2 ^ 30 < k.first + k.len)).map (·.1)
  let s := slabs.foldl (fun (s : State) n => s.setSlab n { s.slabNo n with withdrawing := true }) s
  s.modEntry id fun e => { e with waitsFor := waits }

/-- Raw transactions in flight to the slabs (R522 step 2). -/
def State.rawsToSlabs (s : State) (slabs : List Nat) : Bool := s.xlt.raws.any fun r => slabs.contains (r.addr / 2 ^ 30)

/-- Endpoints that hold granules of the slabs, granule by granule (R522 step 3). -/
def State.heldInSlabs (s : State) (slabs : List Nat) : List (Nat × Nat) :=
  s.coh.sf.cells.foldl (fun l c =>
    if slabs.contains (c.1 / 8388608) then l ++ c.2.indexes.map fun i => (c.1, i) else l) []

/-- The walk of a withdrawal is over: no entry names a granule of the slabs. -/
def State.endWalk (s : State) (id : Nat) (slabs : List Nat) : State :=
  { s with coh := { s.coh with
    walks := s.coh.walks.filter (· != id)
    sf := s.coh.sf.filter fun g _ => !slabs.contains (g / 8388608) } }.raise F.COH_EVENT_RECLAIM_DONE

/-- Step 3 of CMP_WITHDRAW at this member (R522, R424): the walk begins once, and ends when every INV is answered. True: it
has not ended. -/
def State.walkSlabs (s : State) (id src : Nat) (slabs : List Nat) : State × Bool :=
  if s.coh.walks.contains id then
    if s.backPending id then (s, true)
    else (s.endWalk id slabs, false)
  else
    let s := { s with coh := { s.coh with walks := s.coh.walks ++ [id] } }
    let s := (s.heldInSlabs slabs).foldl (fun (s : State) x => s.submitReq
      { id := 0, kind := .backInv id, granule := x.1, addr := x.1 * 128, src := src, index := some x.2, port := 50,
        tag := 0, cls := 0, ctx := 0, data := [] }) s
    if s.backPending id then (s, true)
    else (s.endWalk id slabs, false)

/-- Step 4 of CMP_WITHDRAW at this member: frames, mirrors, flash pages and parity are free, the charge for pool frames
ends. -/
def State.freeSlabs (s : State) (slabs : List Nat) : State :=
  (slabs.filter fun n => (s.slabNo n).comp.isSome).foldl (fun (s : State) n =>
    let x := s.slabNo n
    let pages := (s.store.pages.cells.filter fun c => c.1 / 262144 = n).map (·.1)
    let s := pages.foldl (fun (s : State) pg => (s.dropFrame pg .hbm).dropFrame pg .ddr) s
    let t := x.home.code
    let back := s.store.free.set t (s.store.free.getD t 0 + s.framesOf n x)
    let s := { s with
      store := { s.store with
        free := back.set 1 (back.getD 1 0 + s.ddrMirrors n)
        slabs := s.store.slabs.erase n }
      rack := { s.rack with
        remirror := s.rack.remirror.filter fun m => m.page / 262144 != n
        missing := s.rack.missing.filter fun m => m.slab != n } }
    s.zeroSlab n) s

/-- Parameter check 9 of CMP_DEFINE, CMP_GRANT, CMP_WITHDRAW, CMP_DROP and CMP_QUERY (R525 to R527); what a CMP_DROP
still finds in use is checked with the service states. -/
def State.compParams (s : State) (p : Packet) : Option Nat :=
  let op := pkOpcode p
  let c := mpComp p
  let slabOp := op = 0xCA || op = 0xCB
  if pkPblk p then some 0x40
  else if (op != 0xCC && c = 0) || (op != 0xC8 && !s.compDefined c) then some 0x41
  else if slabOp && (mpRsa p % 2 ^ 30 != 0 || mpSlabs p = 0 || mpSlabs p > 16384 ||
      mpRsa p + mpSlabs p * 2 ^ 30 > 2 ^ 56) then some 0x41
  else if slabOp && (mpSlabList p).any (fun n => isLocal (n * 2 ^ 30) &&
      (decide (nbf (n * 2 ^ 30) 47 42 ≥ s.width) || decide (n * 2 ^ 30 % 2 ^ 42 < 2 ^ 35))) then some 0x41
  else if op = 0xC8 && s.rack.comps.has c && s.belowUse p then some 0x45
  else if op = 0xC9 && s.store.slabs.cells.any (fun x => x.2.comp == some c) then some 0x45
  else if op = 0xCA && (mpSlabList p).any (fun n => (s.slabNo n).comp.isSome) then some 0x46
  else if op = 0xCB && (mpSlabList p).any (fun n => (s.slabNo n).comp != some c || (s.slabNo n).withdrawing) then some 0x46
  else none

end Sys2Proof.Machine
end

