-- ==== Sys2Proof/Machine/SvcOps.lean ====
section
/-!
DEFINITION. What the four services share: reading lists and rows of the store for a command, its output (R75, R275), local
items, and the phases that reach every member.
-/
namespace Sys2Proof.Machine

open Sys2Proof

/-- Give an entry an item of this member that something local answers: an invocation, or a transfer to the host. -/
def State.localItem (s : State) (id classes : Nat) : State × Nat :=
  let n := s.rack.nextItem
  let s := { s with rack := { s.rack with nextItem := n + 1 } }
  (s.modEntry id fun e =>
    { e with items := e.items ++ [{ home := s.sys.member, id := n, classes := classes : Item }], phase := .accepted }, n)

/-- Send a command's output: into its result slot, or to host memory when HOST_OUT is not 0 (R275). -/
def State.sendOutput (s : State) (id hostOut : Nat) (data : List Byte) : State :=
  if hostOut = 0 then s.putResults id data
  else
    let (s, n) := s.localItem id 2
    let s := s.modEntry id fun e =>
      { e with buffer := some (hostOut, data, n), dma := { e.dma with good := data.length }, begun := e.begun ||| 2 }
    match s.entry? id with
    | none => s
    | some e =>
      match s.dmaOp e with
      | some d => if (s.source e.src).atsEnabled then s.runDma id else s.endFault id d St.xltFault 0x4C true 0
      | none => s

/-- The distinct members that home a list of byte ranges (address, length), by page. -/
def State.rangeHomes (s : State) (rs : List (Nat × Nat)) : List Nat :=
  rs.foldl (fun l r => (pagesOf r.1 r.2).foldl (fun l pg => addNew l (s.homeOf (pg * 4096))) l) []

/-- Granules of byte ranges, each once. -/
def rangeGranules (rs : List (Nat × Nat)) : List Nat :=
  rs.foldl (fun l r => (granulesOf r.1 r.2).foldl addNew l) []

/-- Read several ranges for a command, one after the other: their checks, heat and copies (R468, R477, R191). The first
failure ends it. -/
def State.readRanges (s : State) : List (Nat × Nat) → State × Option (Nat × Nat)
  | [] => (s, none)
  | (a, n) :: r =>
    let s := s.accessFor false (pagesOf a n)
    match s.checkReads (granulesOf a n) with
    | (s, none) => s.readRanges r
    | (s, some (st, sub, _)) => (s, some (st, sub))

/-- Little-endian elements of `n` bytes read from an RSA. -/
def State.elems (s : State) (a n count : Nat) : List Nat :=
  (List.range count).map fun i => leNat (s.bytes (a + n * i) n)

/-- FP32 values of a list of codes. -/
def fp32Of (c : Nat) : Val := decodeFp .fp32 c
/-- The FP32 code of a value (R237). -/
def codeOf (v : Val) : Nat := (narrow .fp32 .nearestEven false true v).1
/-- An FP32 code is finite. -/
def finite32 (c : Nat) : Bool := (fp32Of c).finite

/-- A code of a stored row's values is finite in each element. -/
def rowFinite (vs : List Val) : Bool := vs.all Val.finite

/-- The source node of an entry's commands (R284): 256 × intake member + intake source. -/
def State.srcNode (s : State) (src : Nat) : Nat :=
  if src ≥ 1024 then 256 * (src / 1024 - 1) + src % 1024 else 256 * s.sys.member + src

/-- Every member of the rack, this one first. -/
def State.members (s : State) : List Nat := s.sys.member :: (s.voting.filter fun m => m != s.sys.member)

/-- A work item waits for coherence with endpoint copies or for a core's hold: prepare reads and writes of ranges. -/
def State.prepareRanges (s : State) (id : Nat) (reads writes : List (Nat × Nat)) : State × Bool :=
  s.prepare id (rangeGranules reads) (rangeGranules writes)

/-- The waiter of an item's own items. -/
def WorkItem.waiter (w : WorkItem) : Nat := itemWaiter w.origin w.id

/-- Answer a work item (R513), once what it had written stands in the mirror too (R474) and the items it sent itself are answered. -/
def State.answerWork (s : State) (w : WorkItem) (st sub : Nat) (data : List Byte) : State :=
  if s.noneAway w.waiter then s.answerOrigin w.origin w.id st sub data
  else { s with rack := { s.rack with due := s.rack.due ++ [(w.waiter, w, st, sub, data)] } }

/-- The item that one of another member came as, for its answer. -/
def State.itemOf (s : State) (origin id : Nat) : WorkItem :=
  { origin := origin, id := id, epoch := s.rack.map.epoch, forwarded := false, role := true, slot := 64, kind := 4, addr := 0, data := [] }

/-- A local item is done: the command's outcome takes what it yields, then the item is answered. A command that has been
stopped meanwhile has no such item any more. -/
def State.answerLocal (s : State) (id item st sub : Nat) (f : Outcome → Outcome) : State :=
  if (s.entry? id).any fun e => e.items.any fun i => i.id = item then
    (s.modEntry id fun e => { e with out := f e.out }).answerItem id item st sub true
  else s

/-- A command that an anchor serves waits for those of the given opcodes, for the same named object, that reached the anchor before
it (R260, R291, R326, R343: one at a time, in order of arrival). -/
def State.anchorTaken (s : State) (entry : Nat) (e : Entry) (ops : List Nat) (same : Packet → Bool) : Bool :=
  !(s.entriesWhere fun i x => i != entry && x.accepted && x.phase = .accepted && !x.part &&
    ops.contains (pkOpcode x.packet) && same x.packet &&
    (x.stage != 0 || (!x.barrier && decide (x.acceptNo < e.acceptNo)))).isEmpty

/-- A command is the opcode asked for, stands accepted and has its local item still due. -/
def Entry.waitsOn (e : Entry) (member : Nat) : Bool := !(e.items.any fun i => i.home != member)

/-- The window a member reads its copy of a REPLICATED table from. -/
def State.ownWindow (s : State) : Nat := s.store.resultSlot.getD s.ownSlot

end Sys2Proof.Machine
end

