-- ==== Sys2Proof/Machine/EmbOps.lean ====
section
/-!
DEFINITION. Embedding tables: descriptors (R266, R267), packet fields and checks (R268 to R270), rows and keys (R261 to R265),
pooling (R274), the optimiser (R279 to R282), the step buffer (R284).
-/
namespace Sys2Proof.Machine

open Sys2Proof

/-! ### Packet fields (R269) -/

def epKeys (p : Packet) : Nat := pkField p 8 7
def epKey64 (p : Packet) : Bool := bit p 120
def epWeighted (p : Packet) : Bool := bit p 121
def epPerBag (p : Packet) : Bool := bit p 122
def epInit (p : Packet) : Bool := bit p 123
/-- Keys, 1 to 16,777,216. -/
def epCount (p : Packet) : Nat := pkField p 16 3 + 1
def epTable (p : Packet) : Nat := pkField p 20 2 % 4096
def epPool (p : Packet) : Nat := pkField p 22 1 % 4
def epMissing (p : Packet) : Nat := pkField p 22 1 / 4 % 4
def epFmt (p : Packet) : Nat := pkField p 22 1 / 16
def epRnd (p : Packet) : Nat := pkField p 23 1 % 4
def epSat (p : Packet) : Bool := bit p 186
def epHook (p : Packet) : Bool := bit p 187
def epOffs (p : Packet) : Nat := pkField p 24 7
def epStepClosed (p : Packet) : Nat := pkField p 24 4
def epExpect (p : Packet) : Nat := pkField p 24 4
def epLrClose (p : Packet) : Nat := pkField p 28 4
def epSource (p : Packet) : Nat := pkField p 28 2 % 4096
def epWts (p : Packet) : Nat := pkField p 32 7
def epData (p : Packet) : Nat := pkField p 40 7
/-- Bags of a gather, and of an update with GRAD_PER_BAG. -/
def epBags (p : Packet) : Nat := (if pkOpcode p = 0x44 then pkField p 40 3 else pkField p 48 3) % 2 ^ 20 + 1
def epVersion (p : Packet) : Nat := pkField p 44 4
def epHostOut (p : Packet) : Nat := pkField p 48 8
def epLr (p : Packet) : Nat := pkField p 52 4
def epStep (p : Packet) : Nat := pkField p 56 4
def epSeq (p : Packet) : Nat := pkField p 60 4
def epSeed (p : Packet) : Nat := pkField p 56 8

/-! ### Descriptor fields (R266) -/

def edTable (d : List Byte) : Nat := fieldAt d 0 2 % 4096
def edLayout (d : List Byte) : Nat := fieldAt d 2 1 % 4
def edKind (d : List Byte) : Nat := fieldAt d 2 1 / 4 % 4
def edDet (d : List Byte) : Bool := (fieldAt d 2 1).testBit 4
def edNanSkip (d : List Byte) : Bool := (fieldAt d 2 1).testBit 5
def edWfmtCode (d : List Byte) : Nat := fieldAt d 3 1 % 16
def edWfmt (d : List Byte) : Fmt := (Fmt.ofCode (edWfmtCode d)).getD .fp32
def edSfmt (d : List Byte) : Fmt := if (fieldAt d 3 1).testBit 4 then .bf16 else .fp32
def edOpt (d : List Byte) : Nat := fieldAt d 3 1 / 32
def edDim (d : List Byte) : Nat := fieldAt d 4 2 % 8192
def edCompose (d : List Byte) : Nat := fieldAt d 4 2 / 8192 % 4
def edBands (d : List Byte) : Bool := (fieldAt d 6 2).testBit 0
def edRows (d : List Byte) : Nat := fieldAt d 8 8
def edSalt (d : List Byte) : Nat := fieldAt d 16 8
def edCompM (d : List Byte) : Nat := fieldAt d 24 4
def edSubQ (d : List Byte) : Nat := fieldAt d 28 2
def edSubR (d : List Byte) : Nat := fieldAt d 30 2
def edStride (d : List Byte) : Nat := fieldAt d 40 4
def edBeta1 (d : List Byte) : Nat := fieldAt d 112 4
def edBeta2 (d : List Byte) : Nat := fieldAt d 116 4
def edEps (d : List Byte) : Nat := fieldAt d 120 4
def edWd (d : List Byte) : Nat := fieldAt d 124 4

/-- The location fields of a descriptor. -/
def edLoc (d : List Byte) : EmbLoc :=
  { band0 := fieldAt d 48 8, band1 := fieldAt d 56 8, band1First := fieldAt d 64 4, default := fieldAt d 32 8 }

/-- Bytes of a row's weights, padded to 4, and of its optimiser state (R263). -/
def edWeightBytes (d : List Byte) : Nat := ceilDiv ((edWfmt d).rowBytes (edDim d)) 4 * 4
def edStateBytes (d : List Byte) : Nat :=
  let n := (edSfmt d).rowBytes (edDim d)
  match edOpt d with
  | 2 | 3 => n
  | 4 => 4
  | 5 => 2 * n
  | _ => 0
def edRecord (d : List Byte) : Nat := edWeightBytes d + edStateBytes d

def State.embTable (s : State) (t : Nat) : Option EmbTable := s.emb.tables.find? t
def State.setEmbTable (s : State) (t : Nat) (x : EmbTable) : State :=
  { s with emb := { s.emb with tables := s.emb.tables.set t x } }

/-- Local rows of window `w` (R261). -/
def localRows (d : List Byte) (n w : Nat) : Nat :=
  if edLayout d = 0 then (edRows d + n - 1 - w) / n else edRows d

/-- The bands of window `w`: offset and bytes (R262). -/
def bandsOf (d : List Byte) (l : EmbLoc) (n w : Nat) : List (Nat × Nat) :=
  let rows := localRows d n w
  if edBands d then
    [(l.band0, min rows l.band1First * edStride d), (l.band1, (rows - l.band1First) * edStride d)]
  else [(l.band0, rows * edStride d)]

/-- Reserved fields are 0 and values in range (R266, R267). -/
def embRangeOk (t : Nat) (d : List Byte) : Bool :=
  d.length = 128 && fieldAt d 0 2 = t && edLayout d != 3 && edKind d != 3 && fieldAt d 2 1 / 64 = 0 &&
    ([0, 1, 2, 3, 4, 8, 9, 10, 11, 12, 13].contains (edWfmtCode d)) && decide (edOpt d ≤ 5) && decide (1 ≤ edDim d) &&
    decide (edDim d ≤ 4096) && edCompose d != 3 && (fieldAt d 4 2).testBit 15 == false && fieldAt d 6 2 / 2 = 0 &&
    decide (1 ≤ edRows d) && decide (edRows d ≤ 2 ^ 40) && (edKind d != 2 || (decide (1 ≤ edCompM d) &&
    decide (edCompM d < 2 ^ 31))) && fieldAt d 24 4 / 2 ^ 31 = 0 && decide (edSubQ d < 4096) && decide (edSubR d < 4096) &&
    decide (fieldAt d 32 8 < 2 ^ 56) && decide (4 ≤ edStride d) && decide (edStride d ≤ 65536) && edStride d % 4 = 0 &&
    fieldAt d 44 4 = 0 && decide (fieldAt d 48 8 < 2 ^ 56) && decide (fieldAt d 56 8 < 2 ^ 42) && fieldAt d 68 44 = 0

/-- β1, β2, EPS and WD (R267). -/
def embFloatsOk (d : List Byte) : Bool :=
  let unit (c : Nat) : Bool := !((fp32Of c).lt false .zero) && (fp32Of c).lt false (Val.ofInt 1)
  unit (edBeta1 d) && unit (edBeta2 d) && finite32 (edEps d) && Val.zero.lt false (fp32Of (edEps d)) && finite32 (edWd d) &&
    !((fp32Of (edWd d)).lt false .zero)

/-- The bands lie in their windows from 32 GiB up, clear of each other (R267). -/
def embBandsOk (n : Nat) (d : List Byte) : Bool :=
  let l := edLoc d
  let inside (b : Nat × Nat) : Bool := decide (2 ^ 35 ≤ b.1) && decide (b.1 + b.2 ≤ 2 ^ 42)
  if edLayout d = 2 then true
  else
    let ws := (List.range n).map fun w => bandsOf d l n w
    let last := localRows d n 0 - 1
    decide (l.band0 < 2 ^ 42) && ws.all (fun bs => bs.all inside) &&
      (if edBands d then
        decide (1 ≤ l.band1First) && decide (l.band1First ≤ last) &&
          ws.all (fun bs => match bs with
            | [a, b] => a.1 + a.2 ≤ b.1 || b.1 + b.2 ≤ a.1
            | _ => true)
      else l.band1 = 0 && l.band1First = 0)

/-- What a COMPOSED table asks of its sub-tables (R267). -/
def State.embComposedOk (s : State) (comp : Nat) (d : List Byte) : Bool :=
  if edKind d != 2 then true
  else match s.embTable (edSubQ d), s.embTable (edSubR d) with
  | some q, some r =>
    edOpt d = 0 && edKind q.desc = 0 && edKind r.desc = 0 && q.comp = comp && r.comp = comp &&
      (if edCompose d = 2 then edDim q.desc + edDim r.desc = edDim d
       else edDim q.desc = edDim d && edDim r.desc = edDim d) &&
      decide (edRows d ≤ edRows q.desc * edCompM d)
  | _, _ => false

/-- A descriptor is valid (R267). -/
def State.embDescOk (s : State) (t comp : Nat) (d : List Byte) : Bool :=
  embRangeOk t d && (!(edWfmt d).isMx || edDim d % 32 = 0) && decide (edRecord d ≤ edStride d) && embBandsOk s.width d &&
    (edLayout d != 2 || (edOpt d = 0 && !edDet d && !edBands d)) && (edLayout d != 1 || edOpt d = 0 || edDet d) &&
    (!edDet d || edOpt d != 0) && s.embComposedOk comp d && embFloatsOk d

/-! ### Checks and ranges (R268, R270) -/

/-- The tables that a table's rows stand in. -/
def EmbTable.parts (t : EmbTable) (id : Nat) : List Nat := if edKind t.desc = 2 then [edSubQ t.desc, edSubR t.desc] else [id]

/-- The store ranges of a table's bands, one per window and band, or one for PACKED (R268). -/
def State.bandRanges (s : State) (t : EmbTable) (l : EmbLoc) : List (Nat × Nat) :=
  if edLayout t.desc = 2 then [(l.band0, edRows t.desc * edStride t.desc)]
  else
    ((List.range s.width).map fun w =>
      (bandsOf t.desc l s.width w).map fun b => (0xFF000000000000 + w * 2 ^ 42 + b.1, b.2)).flatten.filter fun b => b.2 != 0

/-- The bands a command on a table reaches: those of its sub-tables for a COMPOSED one. -/
def State.tableRanges (s : State) (id : Nat) : List (Nat × Nat) :=
  match s.embTable id with
  | none => []
  | some t => ((t.parts id).map fun i => match s.embTable i with
    | some x => s.bandRanges x x.loc
    | none => []).flatten

/-- The default row of a table (R265). -/
def defaultRange (t : EmbTable) : List (Nat × Nat) :=
  if t.loc.default = 0 then [] else [(t.loc.default, (edWfmt t.desc).rowBytes (edDim t.desc))]

/-- The lists a command names: keys, offsets, weights, and gradients or source rows (R269). -/
def embLists (dim : Nat) (p : Packet) : List (Nat × Nat) :=
  let op := pkOpcode p
  let n := epCount p
  let f := (Fmt.ofCode (epFmt p)).getD .fp32
  let bags := (op = 0x44 && epPool p != 3) || (op = 0x45 && epPerBag p)
  [(epKeys p, n * (if epKey64 p then 8 else 4))] ++
    (if bags then [(epOffs p, 4 * (epBags p + 1))] else []) ++
    (if (op = 0x44 || op = 0x45) && epWeighted p then [(epWts p, 4 * n)] else []) ++
    (if op = 0x45 then [(epData p, f.rowBytes dim * (if epPerBag p then epBags p else n))]
     else if op = 0x46 then [(epData p, f.rowBytes dim * n)] else [])

/-- The ranges of an opcode of this chapter with the access each needs; a range read and written stands once here, with
both accesses asked of it (R268). -/
def State.embRanges (s : State) (e : Entry) : List (List Access × Nat × Nat) :=
  let p := e.packet
  let t := epTable p
  let dim := ((s.embTable t).map fun x => edDim x.desc).getD 1
  let r (l : List (Nat × Nat)) := l.map fun x => (([.read] : List Access), x.1, x.2)
  let rw (l : List (Nat × Nat)) := l.map fun x => (([.read, .write] : List Access), x.1, x.2)
  match pkOpcode p with
  | 0x40 =>
    let d : EmbTable := { desc := e.block, comp := pkComp p, loc := edLoc e.block }
    r ((if edKind e.block = 2 then (d.parts t).map (fun i => s.tableRanges i) |>.flatten else s.bandRanges d d.loc) ++ defaultRange d)
  | 0x44 => r (embLists dim p ++ s.tableRanges t ++ ((s.embTable t).map defaultRange).getD [])
  | 0x45 => r (embLists dim p) ++ rw (s.tableRanges t)
  | 0x46 => r (embLists dim p) ++ rw (s.tableRanges t)
  | 0x48 => rw (s.tableRanges t)
  | 0x4C => r (s.tableRanges (epSource p) ++ ((s.embTable (epSource p)).map defaultRange).getD [])
  | _ => []

/-- The tables a command names, of which all must be defined and in its composition (R259, R270). -/
def State.embNamed (s : State) (p : Packet) : List Nat :=
  let t := epTable p
  let subs := ((s.embTable t).map fun x => x.parts t).getD []
  match pkOpcode p with
  | 0x40 => []
  | 0x4C => [t, epSource p] ++ subs
  | _ => [t] ++ subs

/-- The tables that a command may not name from another composition (R259): those, and what EMB_DEFINE names. -/
def State.embOwned (s : State) (e : Entry) : List Nat :=
  if pkOpcode e.packet = 0x40 then
    epTable e.packet :: (if edKind e.block = 2 then [edSubQ e.block, edSubR e.block] else [])
  else s.embNamed e.packet

/-- Every source value of an EMB_WRITE is finite. -/
def State.writeFinite (s : State) (p : Packet) (dim : Nat) : Bool :=
  let f := (Fmt.ofCode (epFmt p)).getD .fp32
  let n := f.rowBytes dim
  (List.range (epCount p)).all fun i => rowFinite (decodeRow f (s.bytes (epData p + n * i) n) dim)

/-- A table may be updated (R270, 0x45): one that is COMPOSED through its sub-tables. -/
def State.embUpdatable (s : State) (id : Nat) : Bool :=
  match s.embTable id with
  | none => false
  | some t =>
    !(edKind t.desc = 2 && edCompose t.desc = 1) && (t.parts id).all fun i => match s.embTable i with
      | some x => edOpt x.desc != 0 && edLayout x.desc != 2
      | none => false

/-- Parameter check 9 of opcodes 0x40 to 0x5F (R270): STATUS and SUBCODE. -/
def State.embParams (s : State) (e : Entry) : Option (Nat × Nat) :=
  let p := e.packet
  let op := pkOpcode p
  let id := epTable p
  let named := s.embNamed p
  let t := (s.embTable id).getD { desc := [], comp := 0, loc := edLoc [] }
  let lists := op = 0x44 || op = 0x45 || op = 0x46
  let host := op = 0x44 && epHostOut p != 0
  if (op = 0x40) != pkPblk p || (op = 0x40 && pkPbLen p != 128) then some (St.badParam, 0x40)
  else if named.any fun i => (s.embTable i).isNone then some (St.badParam, 0x41)
  else if (s.embOwned e).any fun i => (s.embTable i).any fun x => x.comp != pkComp p then some (St.xltDenied, 0x61)
  else if op = 0x40 && !s.embDescOk id (pkComp p) e.block then some (St.badParam, 0x42)
  else if (s.embRanges e).length > 256 || (op = 0x44 && epMissing p = 3) || (lists && epRnd p = 3) ||
      (op = 0x48 && epRnd p = 3) then some (St.badParam, 0x43)
  else if (lists && epFmt p > 4 && !(op = 0x46 && epFmt p = edWfmtCode t.desc)) || (op = 0x45 && !finite32 (epLr p)) ||
      (op = 0x48 && !finite32 (epLrClose p)) || (op = 0x46 && !s.writeFinite p (edDim t.desc)) then some (St.badParam, 0x44)
  else if (op = 0x45 && !s.embUpdatable id) || (op = 0x46 && edKind t.desc = 2) then some (St.badParam, 0x45)
  else if host && e.src ≥ 128 then some (St.badParam, 0x46)
  else if lists && !epKey64 p && edKind t.desc != 0 then some (St.badParam, 0x47)
  else if (op = 0x48 && !edDet t.desc) || (op = 0x44 && epHook p &&
      (s.fld F.EMB_HOOK_VALID = 0 || s.fld F.EMB_HOOK_SLOT < 256 || host)) then some (St.badParam, 0x4C)
  else if op = 0x44 && epVersion p != 0 && epVersion p != t.version then some (St.staleVersion, 0x41)
  else if op = 0x45 && (t.parts id).any (fun i => (s.embTable i).any fun x => edDet x.desc && x.step != epStep p) then
    some (St.staleVersion, 0x42)
  else none

/-- Output rows of a gather, their stride, and the bytes of its output (R275). -/
def embRowsOut (p : Packet) : Nat := if epPool p = 3 then epCount p else epBags p
def embStrideOut (dim : Nat) (p : Packet) : Nat := ceilDiv (((Fmt.ofCode (epFmt p)).getD .fp32).rowBytes dim) 64 * 64
def State.embResultBytes (s : State) (p : Packet) : Nat :=
  64 + embRowsOut p * embStrideOut (((s.embTable (epTable p)).map fun x => edDim x.desc).getD 1) p

/-! ### Keys and rows (R261 to R265) -/

/-- The location fields of a captured version (R287). -/
def EmbTable.locAt (t : EmbTable) (version : Nat) : EmbLoc :=
  if version = t.version then t.loc else t.old.getD t.loc

/-- row_rsa of R262. -/
def rowRsa (d : List Byte) (l : EmbLoc) (n w r : Nat) : Nat :=
  if edLayout d = 2 then l.band0 + r * edStride d
  else
    let i := if edLayout d = 0 then r / n else r
    let base := 0xFF000000000000 + w * 2 ^ 42
    if edBands d && i ≥ l.band1First then base + l.band1 + (i - l.band1First) * edStride d
    else base + l.band0 + i * edStride d

/-- Address of a row for a read at this member. -/
def State.rowAt (s : State) (t : EmbTable) (l : EmbLoc) (r : Nat) : Nat :=
  rowRsa t.desc l s.width (if edLayout t.desc = 0 then r % s.width else s.ownWindow) r

/-- Every address a row is written at: one, or one in each copy. -/
def State.rowCopies (s : State) (t : EmbTable) (l : EmbLoc) (r : Nat) : List Nat :=
  if edLayout t.desc = 1 then (List.range s.width).map fun w => rowRsa t.desc l s.width w r else [s.rowAt t l r]

/-- The stored rows a key means: table and row; none when the key is missing (R264, R265). -/
def State.resolveKey (s : State) (id : Nat) (t : EmbTable) (key64 : Bool) (key : Nat) : Option (List (Nat × Nat)) :=
  let w := if key64 then 64 else 32
  let v := toSigned w key
  let rows := edRows t.desc
  if v = -1 then none
  else match edKind t.desc with
  | 1 => some [(id, mix64 ((key ^^^ edSalt t.desc) % 2 ^ 64) % rows)]
  | 2 =>
    if v < 0 || v ≥ (rows : Nat) then none
    else
      let q := v.toNat / edCompM t.desc
      let r := v.toNat % edCompM t.desc
      match s.embTable (edSubQ t.desc), s.embTable (edSubR t.desc) with
      | some x, some y =>
        if q < edRows x.desc && r < edRows y.desc then some [(edSubQ t.desc, q), (edSubR t.desc, r)] else none
      | _, _ => none
  | _ => if v < 0 || v ≥ (rows : Nat) then none else some [(id, v.toNat)]

/-- The key list of a command. -/
def State.keyList (s : State) (p : Packet) : List Nat := s.elems (epKeys p) (if epKey64 p then 8 else 4) (epCount p)

/-- Bag offsets (R269): start at 0, do not decrease, end at KEYS, no bag above 65,536. -/
def offsetsOk (offs : List Int) (keys : Nat) : Bool :=
  offs.head? == some 0 && offs.getLast? == some (keys : Int) &&
    (offs.zip offs.tail).all fun x => decide (x.1 ≤ x.2) && decide (x.2 - x.1 ≤ 65536)

def State.offsetList (s : State) (p : Packet) : List Int := (s.elems (epOffs p) 4 (epBags p + 1)).map (toSigned 32)

/-- Location in force for a part of a table: the captured one for the table itself. -/
def State.partLoc (s : State) (id version i : Nat) : Option (EmbTable × EmbLoc) :=
  (s.embTable i).map fun x => (x, if i = id then x.locAt version else x.loc)

/-- Byte range of the weights of a stored row. -/
def State.weightRange (s : State) (id version : Nat) (row : Nat × Nat) : Nat × Nat :=
  match s.partLoc id version row.1 with
  | some (x, l) => (s.rowAt x l row.2, (edWfmt x.desc).rowBytes (edDim x.desc))
  | none => (0, 0)

/-- The weights of a stored row as FP32 values. -/
def State.weightsOf (s : State) (id version : Nat) (row : Nat × Nat) : List Val :=
  match s.partLoc id version row.1 with
  | some (x, l) =>
    let n := (edWfmt x.desc).rowBytes (edDim x.desc)
    (decodeRow (edWfmt x.desc) (s.bytes (s.rowAt x l row.2) n) (edDim x.desc)).map toFp32
  | none => []

/-- The value of a key: its row, or its sub-rows combined (R264). -/
def State.keyValue (s : State) (id version : Nat) (t : EmbTable) (rows : List (Nat × Nat)) : List Val :=
  match rows with
  | [a] => s.weightsOf id version a
  | [a, b] =>
    let x := s.weightsOf id version a
    let y := s.weightsOf id version b
    match edCompose t.desc with
    | 0 => (x.zip y).map fun v => toFp32 (v.1.add v.2)
    | 1 => (x.zip y).map fun v => toFp32 (v.1.mul v.2)
    | _ => x ++ y
  | _ => []

/-! ### Gather (R273, R274) -/

/-- Segments cut at bag boundaries (R273): the distinct rows of each segment. -/
def segmentRows (limit : Nat) : List (List (Nat × Nat)) → List (Nat × Nat) → List (List (Nat × Nat))
  | [], cur => [cur]
  | bag :: bags, cur =>
    let new := bag.foldl addNew cur
    if new.length > limit && !cur.isEmpty then cur :: segmentRows limit bags (bag.foldl addNew [])
    else segmentRows limit bags new

/-- Working space of a gather in bytes (R276), and of an update (R279). -/
def gatherWork (keys wb : Nat) : Nat := 16 * min keys 65536 + 4 * keys + min keys 65536 * wb
def updateWork (keys : Nat) : Nat := 16 * min keys 65536 + 4 * keys

def State.workUsed (s : State) : Nat := (s.emb.work.cells.map (·.2)).sum
def State.workSize (s : State) : Nat := s.emb.workMib * 1048576

/-- Reserve working space for an entry, when there is room; WORK_LOW when free space falls below one eighth (R290). -/
def State.reserveWork (s : State) (id bytes : Nat) : Option State :=
  if s.workUsed + bytes > s.workSize then none
  else
    let s := { s with emb := { s.emb with work := s.emb.work.set id bytes } }
    let low (used : Nat) : Bool := decide ((s.workSize - used) * 8 < s.workSize)
    some (if low s.workUsed && !low (s.workUsed - bytes) then s.raise F.EMB_EVENT_WORK_LOW else s)

/-- Pool one bag: its terms, each a row of values (R274). -/
def poolBag (pool dim : Nat) (terms : List (List Val)) : List Val :=
  (List.range dim).map fun j =>
    let col := terms.map fun t => t.getD j .zero
    match pool with
    | 0 => (treeSum add32 17 col).getD .zero
    | 1 => if col.isEmpty then .zero else toFp32 (((treeSum add32 17 col).getD .zero).div (Val.ofInt col.length))
    | _ => match col with
      | [] => .zero
      | v :: vs => vs.foldl Val.max v

/-- The term of a key: its value times its weight, rounded once (R274). -/
def termOf (w : Option Val) (row : List Val) : List Val :=
  match w with
  | none => row
  | some w => row.map fun v => toFp32 (v.mul w)

/-! ### The optimiser (R279 to R282) -/

/-- One FP32 operation: exact, then rounded. -/
def fma32 (a b c : Val) : Val := toFp32 ((a.mul b).add c)
def mul32 (a b : Val) : Val := toFp32 (a.mul b)
def div32 (a b : Val) : Val := toFp32 (a.div b)

/-- β to the power t, exact. -/
def powVal (v : Val) (t : Nat) : Val :=
  match v with
  | .fin b n d => .fin (b && t % 2 = 1) (n ^ t) (d ^ t)
  | v => v

/-- c = 1 − β^t, exact, then rounded once (R280). -/
def biasOf (beta : Val) (t : Nat) : Val := toFp32 ((Val.ofInt 1).sub (powVal beta t))

/-- New weights and new state rows of a row under its optimiser (R280): `st` holds the state rows as FP32 values. -/
def optimise (d : List Byte) (lr : Val) (t : Nat) (g w : List Val) (st : List (List Val)) : List Val × List (List Val) :=
  let wd := fp32Of (edWd d)
  let b1 := fp32Of (edBeta1 d)
  let b2 := fp32Of (edBeta2 d)
  let eps := fp32Of (edEps d)
  let nlr := lr.neg
  let n := edDim d
  let gs := (List.range n).map fun j =>
    if wd.isZero then g.getD j .zero else fma32 wd (w.getD j .zero) (g.getD j .zero)
  let row (i : Nat) : List Val := st.getD i []
  let each (f : Nat → Val) : List Val := (List.range n).map f
  let wj (j : Nat) := w.getD j .zero
  let gj (j : Nat) := gs.getD j .zero
  match edOpt d with
  | 1 => (each fun j => fma32 nlr (gj j) (wj j), [])
  | 2 =>
    let m := each fun j => fma32 b1 ((row 0).getD j .zero) (gj j)
    (each fun j => fma32 nlr (m.getD j .zero) (wj j), [m])
  | 3 =>
    let sq := each fun j => fma32 (gj j) (gj j) ((row 0).getD j .zero)
    (each fun j =>
      let dd := add32 (sq.getD j .zero).sqrt32 eps
      fma32 nlr (div32 (gj j) dd) (wj j), [sq])
  | 4 =>
    let a := rowSum add32 .zero 8 (each fun j => (gj j).mul (gj j))
    let a := div32 a (Val.ofInt n)
    let sv := add32 ((row 0).getD 0 .zero) a
    let dd := add32 sv.sqrt32 eps
    (each fun j => fma32 nlr (div32 (gj j) dd) (wj j), [[sv]])
  | 5 =>
    let one := Val.ofInt 1
    let n1 := toFp32 (one.sub b1)
    let n2 := toFp32 (one.sub b2)
    let c1 := biasOf b1 t
    let c2 := biasOf b2 t
    let m := each fun j => fma32 b1 ((row 0).getD j .zero) (mul32 n1 (gj j))
    let v := each fun j => fma32 b2 ((row 1).getD j .zero) (mul32 n2 (mul32 (gj j) (gj j)))
    (each fun j =>
      let mh := div32 (m.getD j .zero) c1
      let vh := div32 (v.getD j .zero) c2
      let dd := add32 vh.sqrt32 eps
      fma32 nlr (div32 mh dd) (wj j), [m, v])
  | _ => (w, st)

/-- State rows of a record: format and length of each (R263). -/
def stateRows (d : List Byte) : List (Fmt × Nat) :=
  match edOpt d with
  | 2 | 3 => [(edSfmt d, edDim d)]
  | 4 => [(.fp32, 1)]
  | 5 => [(edSfmt d, edDim d), (edSfmt d, edDim d)]
  | _ => []

/-- The state of a record as FP32 values. -/
def recordState (d : List Byte) (rec : List Byte) : List (List Val) :=
  ((stateRows d).foldl (fun (acc : List (List Val) × Nat) r =>
    let n := r.1.rowBytes r.2
    (acc.1 ++ [decodeRow r.1 (sub rec acc.2 n) r.2], acc.2 + n)) ([], edWeightBytes d)).1

/-- The bytes of a record with new weights and state, narrowed under RND and SAT with the draws of R281 for row `r`. -/
def encodeRecord (d : List Byte) (rnd : Nat) (sat : Bool) (seed r : Nat) (w : List Val) (st : List (List Val)) : List Byte :=
  let enc (f : Fmt) (step : Nat) (vs : List Val) : List Byte :=
    (encodeRow f { mode := rnd, seed := seed, step := step } sat (r * edDim d) (vs.map fun v => (v, true))).1
  let wb := enc (edWfmt d) 1 w
  wb ++ List.replicate (edWeightBytes d - wb.length) 0 ++
    (((List.range st.length).map fun i => enc ((stateRows d).getD i (.fp32, 0)).1 (2 + i) (st.getD i [])).flatten)

/-- A record's new weights or state hold a NaN as they would be stored. -/
def recordNan (d : List Byte) (rec : List Byte) : Bool :=
  (decodeRow (edWfmt d) rec (edDim d)).any Val.isNan || (recordState d rec).any fun l => l.any Val.isNan

/-- Apply a combined gradient to one row homed here (R280 to R282), at each copy that this member holds: true when NAN_SKIP left it unchanged, or what a
read of it met. -/
def State.applyRow (s : State) (t : EmbTable) (l : EmbLoc) (r : Nat) (g : List Val) (lr : Val) (step rnd : Nat) (sat : Bool)
    (seed : Nat) : State × Bool × Option (Nat × Nat) :=
  let d := t.desc
  let a := s.rowAt t l r
  let n := edRecord d
  match s.readRanges [(a, n)] with
  | (s, some f) => (s, false, some f)
  | (s, none) =>
    let rec' := s.bytes a n
    let w := (decodeRow (edWfmt d) rec' (edDim d)).map toFp32
    let (w', st') := optimise d lr step g w (recordState d rec')
    let out := encodeRecord d rnd sat seed r w' st'
    let nan := w'.any Val.isNan || st'.any (fun l => l.any Val.isNan) || recordNan d out
    if edNanSkip d && (!(rowFinite g) || nan) then
      ((s.count F.EMB_COUNT_NAN_SKIP).raise F.EMB_EVENT_NAN_SKIP, true, none)
    else
      let (s, f) := ((s.rowCopies t l r).filter fun b => s.isHome b).foldl (fun (x : State × Option (Nat × Nat)) b =>
        match x with
        | (s, some f) => (s, some f)
        | (s, none) =>
          (s.accessFor true (pagesOf b n)).writeStore b out) (s, none)
      (s.count F.EMB_COUNT_RMW, false, f)

/-- Occurrences of stored rows in a segment of an update: for each key its stored rows with the part of the gradient each
takes (R279). -/
def gradParts (t : EmbTable) (q : Option EmbTable) (rows : List (Nat × Nat)) (g : List Val) : List ((Nat × Nat) × List Val) :=
  match rows with
  | [a, b] =>
    if edCompose t.desc = 2 then
      let n := (q.map fun x => edDim x.desc).getD 0
      [(a, g.take n), (b, g.drop n)]
    else [(a, g), (b, g)]
  | _ => rows.map fun a => (a, g)

/-- G of a row: tree_sum over its occurrences in order (R279). -/
def combine (dim : Nat) (gs : List (List Val)) : List Val :=
  (List.range dim).map fun j => (treeSum add32 25 (gs.map fun g => g.getD j .zero)).getD .zero

/-- Group occurrences by row, rows in order of first use, each with its gradients in order. -/
def groupRows (occ : List ((Nat × Nat) × List Val)) : List ((Nat × Nat) × List (List Val)) :=
  let rows := occ.foldl (fun l o => addNew l o.1) []
  rows.map fun r => (r, (occ.filter fun o => o.1 == r).map (·.2))

/-- Cut the occurrences of an update into segments of at most 65,536 distinct rows, at any key (R279, R273). -/
def cutSegments (limit : Nat) : List (List ((Nat × Nat) × List Val)) → List ((Nat × Nat) × List Val) → List (Nat × Nat) →
    List (List ((Nat × Nat) × List Val))
  | [], [], _ => []
  | [], cur, _ => [cur]
  | k :: ks, cur, seen =>
    let new := k.foldl (fun l o => addNew l o.1) seen
    if new.length > limit && !cur.isEmpty then
      cur :: cutSegments limit ks k (k.foldl (fun l o => addNew l o.1) [])
    else cutSegments limit ks (cur ++ k) new

/-! ### The step buffer (R284, R285) -/

/-- Bytes of an entry of the step buffer. -/
def Contribution.bytes (c : Contribution) : Nat := 16 + 4 * c.g.length

/-- A contribution is entered at this member's step buffer: its row is homed here, or every member enters it. -/
def State.entersHere (s : State) (t : EmbTable) (r : Nat) : Bool := edLayout t.desc = 1 || s.isHome (s.rowAt t t.loc r)

/-- Bytes of the step buffer in use at this member. -/
def State.stepUsed (s : State) : Nat :=
  ((s.emb.steps.filter fun c => (s.embTable c.table).any fun t => s.entersHere t c.row).map Contribution.bytes).sum

/-- Enter a contribution; false: the step buffer of its home is full. -/
def State.contribute (s : State) (c : Contribution) : State × Bool :=
  let here := (s.embTable c.table).any fun t => s.entersHere t c.row
  if here && s.stepUsed + c.bytes > s.emb.stepMib * 1048576 then (s.raise F.EMB_EVENT_STEP_FULL, false)
  else
    let dup := s.emb.steps.any fun x => x.table = c.table && x.row = c.row && x.step = c.step && x.srcNode = c.srcNode &&
      x.seq = c.seq
    let s := { s with emb := { s.emb with steps := s.emb.steps ++ [c] } }
    (if dup then s.raise F.EMB_EVENT_SEQ_DUP else s, true)

/-- Insert by SRC_NODE and then SEQ, behind equal ones. -/
def insertContribution (c : Contribution) : List Contribution → List Contribution
  | [] => [c]
  | x :: xs =>
    if c.srcNode < x.srcNode || (c.srcNode = x.srcNode && c.seq < x.seq) then c :: x :: xs
    else x :: insertContribution c xs

/-- Apply a closed step (R285 phase 3): rows updated, rows skipped, contributions combined, and the first failure. -/
def State.applyStep (s : State) (id step : Nat) (lr : Val) (rnd : Nat) (sat : Bool) (seed : Nat) :
    State × Nat × Nat × Nat × Option (Nat × Nat) :=
  match s.embTable id with
  | none => (s, 0, 0, 0, none)
  | some t =>
    let mine := s.emb.steps.filter fun c => c.table = id && c.step = step
    let rows := mine.foldl (fun l c => addNew l c.row) []
    let s := { s with emb := { s.emb with steps := s.emb.steps.filter fun c => !(c.table = id && c.step = step) } }
    let (s, done, skipped, f) := rows.foldl (fun (x : State × Nat × Nat × Option (Nat × Nat)) r =>
      let (s, done, skipped, f) := x
      let cs := (mine.filter fun c => c.row = r).foldl (fun l c => insertContribution c l) []
      let g := combine (edDim t.desc) (cs.map fun c => c.g.map fp32Of)
      match s.applyRow t t.loc r g lr step rnd sat seed with
      | (s, true, _) => (s, done, skipped + 1, f)
      | (s, false, none) => (s, done + 1, skipped, f)
      | (s, false, some e) => (s, done, skipped, some (f.getD e))) (s, 0, 0, none)
    (s.raise F.EMB_EVENT_STEP_APPLIED, done, skipped, mine.length, f)

end Sys2Proof.Machine
end

