-- ==== Sys2Proof/Machine/EmbRun.lean ====
section
/-!
DEFINITION. What the embedding commands do to the store (R272 to R286): a gather's output, the rows of an update and of a
write, and what each member does for the commands that reach all of them (R260).
-/
namespace Sys2Proof.Machine

open Sys2Proof

/-- The anchor of a table (R260). -/
def State.embAnchor (s : State) (id : Nat) : Nat := s.serverOf (id % s.width)

/-- What a gather yields (R272 to R275). -/
structure GatherResult where
  rows : List (List Byte)
  missing : Nat
  distinct : Nat
  segments : Nat
  /-- stored rows read: once for each segment, on the direct path once for each occurrence (R273, R276) -/
  reads : List (Nat × Nat)
  flags : FlagRec
  deriving DecidableEq, Repr

/-- The ranges of rows a gather reads: weights of every stored row, once each, and the default row where a missing key asks for it
(R272, R265). -/
def State.gatherRanges (s : State) (e : Entry) (t : EmbTable) : List (Nat × Nat) :=
  let p := e.packet
  let id := epTable p
  let keys := (s.keyList p).map fun k => s.resolveKey id t (epKey64 p) k
  let rows := keys.foldl (fun (l : List (Nat × Nat)) k => (k.getD []).foldl addNew l) []
  rows.map (s.weightRange id e.version) ++
    (if epMissing p = 0 && keys.any Option.isNone then defaultRange { t with loc := t.locAt e.version } else [])

/-- The key positions of each bag (R269, R274). -/
def State.bagPositions (s : State) (p : Packet) : List (List Nat) :=
  if epPool p = 3 then (List.range (epCount p)).map fun i => [i]
  else
    let offs := s.offsetList p
    (offs.zip offs.tail).map fun x => (List.range (x.2 - x.1).toNat).map fun i => x.1.toNat + i

/-- Compute a gather from rows as they stand (R273, R274). -/
def State.gather (s : State) (e : Entry) (t : EmbTable) (direct : Bool) : GatherResult :=
  let p := e.packet
  let id := epTable p
  let dim := edDim t.desc
  let keys := (s.keyList p).map fun k => s.resolveKey id t (epKey64 p) k
  let ws := if epWeighted p then (s.elems (epWts p) 4 (epCount p)).map (fun c => some (fp32Of c)) else []
  let l := t.locAt e.version
  let dflt := if l.default = 0 then List.replicate dim .zero
    else (decodeRow (edWfmt t.desc) (s.bytes l.default ((edWfmt t.desc).rowBytes dim)) dim).map toFp32
  let raw (i : Nat) : Option (List Val) := match keys.getD i none with
    | some rows => some (s.keyValue id e.version t rows)
    | none => match epMissing p with
      | 0 => some dflt
      | 1 => some (List.replicate dim .zero)
      | _ => none
  let bags := s.bagPositions p
  let pooled := bags.map fun b =>
    let rows := b.filterMap fun i => (raw i).map fun r => (r, ws.getD i none)
    let terms := rows.map fun r => termOf r.2 r.1
    let vals := poolBag (if epPool p = 3 then 0 else epPool p) dim terms
    let vals := if epPool p = 3 then terms.headD (List.replicate dim .zero) else vals
    let nans := (List.range dim).map fun j =>
      rows.countP fun r => (r.1.getD j .zero).isNan || (r.2.any Val.isNan)
    (vals, nans)
  let stride := embStrideOut dim p
  let f := (Fmt.ofCode (epFmt p)).getD .fp32
  let enc := (List.range pooled.length).map fun i =>
    let (vals, nans) := pooled.getD i ([], [])
    encodeRow f { mode := epRnd p, seed := epSeed p, step := 0 } (epSat p) (i * dim)
      (vals.zip (nans.map fun n => n == 0))
  let stored := bags.map fun b => (b.map fun i => (keys.getD i none).getD []).flatten
  let segs := segmentRows 65536 stored []
  { rows := enc.map fun x => x.1 ++ List.replicate (stride - x.1.length) 0
    missing := keys.countP Option.isNone
    distinct := if direct then (stored.flatten.foldl addNew []).length else (segs.map List.length).sum
    segments := if direct then 0 else segs.length
    reads := if direct then stored.flatten else segs.flatten
    flags := enc.foldl (fun a x => a.add { saturated := x.2.saturated, nanMade := x.2.nanMade })
      { nanIn := (pooled.map fun x => x.2.sum).sum } }

/-- The header and rows of a gather's output (R275). -/
def gatherOutput (version stride : Nat) (g : GatherResult) (flags : FlagRec) : List Byte :=
  toLe 4 version ++ toLe 4 g.rows.length ++ toLe 4 g.missing ++ toLe 4 g.distinct ++ toLe 4 g.segments ++ toLe 4 stride ++
    flags.bytes ++ toLe 8 0 ++ g.rows.flatten

/-! ### Update (R279 to R284) -/

/-- What an update or a write did. -/
structure RowsDone where
  done : Nat := 0
  skipped : Nat := 0
  distinct : Nat := 0
  fail : Option (Nat × Nat) := none
  deriving DecidableEq, Repr

/-- Gradient of position `i` of an update (R279). -/
def State.gradAt (s : State) (p : Packet) (dim : Nat) (bagOf : Nat → Nat) (ws : List Val) (i : Nat) : List Val :=
  let f := (Fmt.ofCode (epFmt p)).getD .fp32
  let n := f.rowBytes dim
  let at' (k : Nat) := decodeRow f (s.bytes (epData p + n * k) n) dim
  if epPerBag p then
    let g := at' (bagOf i)
    if epWeighted p then g.map fun v => mul32 v (ws.getD i .zero) else g
  else at' i

/-- The occurrences of stored rows in an update, key by key (R279). -/
def State.updateOccurrences (s : State) (p : Packet) (t : EmbTable) : List (List ((Nat × Nat) × List Val)) :=
  let id := epTable p
  let keys := s.keyList p
  let offs := if epPerBag p then s.offsetList p else []
  let bagOf (i : Nat) := offs.tail.countP fun o => decide (o ≤ (i : Int))
  let ws := if epWeighted p then (s.elems (epWts p) 4 (epCount p)).map fp32Of else []
  (List.range keys.length).map fun i =>
    match s.resolveKey id t (epKey64 p) (keys.getD i 0) with
    | none => []
    | some rows => gradParts t (s.embTable (edSubQ t.desc)) rows (s.gradAt p (edDim t.desc) bagOf ws i)

/-- Apply an update to the rows homed here: read-modify-writes in accumulate mode (R283), contributions in deterministic mode,
which every member enters of a REPLICATED table (R284); `once` says that this member counts the distinct rows of such a one. -/
def State.runUpdate (s : State) (p : Packet) (node version : Nat) (once : Bool) : State × RowsDone :=
  let id := epTable p
  match s.embTable id with
  | none => (s, {})
  | some t =>
    let segs := cutSegments 65536 (s.updateOccurrences p t) [] []
    let work := (segs.map groupRows).flatten
    let lr := fp32Of (epLr p)
    work.foldl (fun (x : State × RowsDone) w =>
      let (s, n) := x
      match s.partLoc id version w.1.1 with
      | none => (s, n)
      | some (pt, l) =>
        if edLayout pt.desc != 1 && !s.isHome (s.rowAt pt l w.1.2) then (s, n)
        else
          let n := { n with distinct := n.distinct + (if edLayout pt.desc = 1 then b2n once else 1) }
          let g := combine (edDim pt.desc) w.2
          if edDet pt.desc then
            match s.contribute { table := w.1.1, row := w.1.2, step := epStep p, srcNode := node, seq := epSeq p,
                                 g := g.map codeOf } with
            | (s, true) => (s, { n with done := n.done + 1 })
            | (s, false) => (s, { n with fail := some (n.fail.getD (St.noSpace, 0x40)) })
          else
            match s.applyRow pt l w.1.2 g lr (epStep p) (epRnd p) (epSat p) (epStep p * 2 ^ 32 + epSeq p) with
            | (s, true, _) => (s, { n with skipped := n.skipped + 1 })
            | (s, false, none) => (s, { n with done := n.done + 1 })
            | (s, false, some f) => (s, { n with fail := some (n.fail.getD f) })) (s, {})

/-- The ranges of rows an update or a write touches. -/
def State.touchedRows (s : State) (e : Entry) (t : EmbTable) : List (Nat × Nat) :=
  let p := e.packet
  let id := epTable p
  let rows := (s.keyList p).foldl (fun (l : List (Nat × Nat)) k =>
    ((s.resolveKey id t (epKey64 p) k).getD []).foldl addNew l) []
  (rows.map fun r => match s.partLoc id e.version r.1 with
    | some (x, l) => (s.rowCopies x l r.2).map fun a => (a, edRecord x.desc)
    | none => []).flatten

/-! ### Write (R286) -/

/-- Write the rows homed here from source rows: of a repeated row the last occurrence; at every copy this member holds. `once` says
that this member counts the rows of a REPLICATED table. -/
def State.runWrite (s : State) (p : Packet) (version : Nat) (once : Bool) : State × RowsDone :=
  let id := epTable p
  match s.embTable id with
  | none => (s, {})
  | some t =>
    let d := t.desc
    let l := t.locAt version
    let dim := edDim d
    let f := (Fmt.ofCode (epFmt p)).getD .fp32
    let n := f.rowBytes dim
    let keys := s.keyList p
    let rows := (List.range keys.length).filterMap fun i =>
      match s.resolveKey id t (epKey64 p) (keys.getD i 0) with
      | some [(_, r)] => some (r, i)
      | _ => none
    let last := rows.filter fun x => !(rows.any fun y => y.1 = x.1 && decide (x.2 < y.2))
    last.foldl (fun (x : State × RowsDone) y =>
      let (s, k) := x
      let addrs := (s.rowCopies t l y.1).filter fun a => s.homesPart a (edRecord d)
      let counts := edLayout d != 1 && addrs.any (fun a => s.isHome a) || (edLayout d = 1 && once)
      if addrs.isEmpty then (s, k)
      else
        let vals := (decodeRow f (s.bytes (epData p + n * y.2) n) dim).map toFp32
        let w := (encodeRow (edWfmt d) { mode := epRnd p, seed := epSeed p, step := 1 } (epSat p) (y.1 * dim)
          (vals.map fun v => (v, true))).1
        let w := w ++ List.replicate (edWeightBytes d - w.length) 0
        let out := if epInit p then w ++ List.replicate (edStateBytes d) 0 else w
        let (s, bad) := addrs.foldl (fun (x : State × Option (Nat × Nat)) a =>
          let (s, bad) := x
          match (s.accessFor true (pagesOf a out.length)).writeHere a out with
          | (s, none) => (if s.isHome a then s.count F.EMB_COUNT_RMW else s, bad)
          | (s, some f) => (s, some (bad.getD f))) (s, none)
        (s, { k with done := if bad.isNone && counts then k.done + 1 else k.done, fail := match k.fail with
          | some f => some f
          | none => bad })) (s, {})

/-! ### Phases at every member (R260) -/

/-- EMB_DEFINE at a member. -/
def State.defineTable (s : State) (p : Packet) (block : List Byte) : State :=
  s.setEmbTable (epTable p) { desc := block.take 128, comp := pkComp p, loc := edLoc block }

/-- EMB_DROP at a member. -/
def State.dropTable (s : State) (id : Nat) : State :=
  { s with emb := { s.emb with tables := s.emb.tables.erase id, steps := s.emb.steps.filter fun c => c.table != id } }

/-- EMB_PUBLISH at a member (R288). -/
def State.switchTable (s : State) (id source : Nat) : State :=
  match s.embTable id, s.embTable source with
  | some t, some x =>
    (s.setEmbTable id { t with version := (t.version + 1) % 2 ^ 32, loc := x.loc, old := some t.loc }).raise
      F.EMB_EVENT_PUBLISHED
  | _, _ => s

/-- Step 1 of a close at a member (R285): the open step moves on. -/
def State.closeStep (s : State) (id step : Nat) : State :=
  match s.embTable id with
  | some t => s.setEmbTable id { t with step := (step + 1) % 2 ^ 32 }
  | none => s

/-- An update of a table contributes to a table: the table itself, or a sub-table of it (R263, R285). -/
def State.updateFeeds (s : State) (target id : Nat) : Bool :=
  target = id || (s.embTable target).any fun x =>
    edKind x.desc = 2 && (edSubQ x.desc = id || edSubR x.desc = id)

/-- Updates that this member accepted for a step and that have not ended (R285 phase 2). -/
def State.updatesOpen (s : State) (id step : Nat) : Bool :=
  !(s.entriesWhere fun _ e => e.accepted && e.proxy.isNone && e.phase != .ended && pkOpcode e.packet = 0x45 &&
    s.updateFeeds (epTable e.packet) id && epStep e.packet = step).isEmpty

/-- Records that the application of a step touches. -/
def State.stepRanges (s : State) (id step : Nat) : List (Nat × Nat) :=
  match s.embTable id with
  | none => []
  | some t =>
    let rows := (s.emb.steps.filter fun c => c.table = id && c.step = step).foldl (fun l c => addNew l c.row) []
    (rows.map fun r => (s.rowCopies t t.loc r).map fun a => (a, edRecord t.desc)).flatten

end Sys2Proof.Machine
end

