-- ==== Sys2Proof/Machine/KvpOps.lean ====
section
/-!
DEFINITION. KV page pools: packet fields and checks (R345, R346, R361, R362), pages, eviction and spill (R350, R355, R356),
the operations of an owner (R351 to R354), routing, handover and resolution (R347, R348, R357 to R360).
-/
namespace Sys2Proof.Machine

open Sys2Proof

/-! ### Packet fields and checks (R361, R362) -/

def kpSeq (p : Packet) : Nat := pkField p 8 4
def kpTokens (p : Packet) : Nat := pkField p 12 4
def kpPool (p : Packet) : Nat := pkField p 20 1
def kpMember (p : Packet) : Nat := pkField p 22 1 % 64
def kpSelf (p : Packet) : Bool := bit p 182
def kpHint (p : Packet) : Nat := pkField p 23 1 % 64
def kpHintValid (p : Packet) : Bool := bit p 190
def kpSrc (p : Packet) : Nat := pkField p 24 7

/-- The birth window and the record number of a sequence ID (R347). -/
def seqWindow (i : Nat) : Nat := i / 2 ^ 26
def seqRecord (i : Nat) : Nat := i % 2 ^ 20

/-- Fields and arrays of a descriptor are valid (R345, R346). -/
def kvpDescOk (pool : Nat) (d : List Byte) : Bool :=
  let arrays := [(kdFrameOff d, kdFrameBytes d), (kdSpillOff d, kdSpillBytes d), (kdMetaOff d, kdMetaBytes d)]
  let apart (a b : Nat × Nat) : Bool := decide (a.1 + a.2 ≤ b.1) || decide (b.1 + b.2 ≤ a.1)
  kdPool d = pool && decide (pool < 64) && decide (6 ≤ kdTokenLog2 d) && decide (kdTokenLog2 d ≤ 16) &&
    decide (1 ≤ kdFrames d) && decide (kdFrames d ≤ 2 ^ 26) && decide (kdSpill d + kdFrames d ≤ 2 ^ 26) &&
    decide (1 ≤ kdSeqs d) && decide (kdSeqs d ≤ 2 ^ 20) && (sub d 40 24).all (· = 0) &&
    arrays.all (fun a => a.1 % 65536 = 0 && decide (2 ^ 35 ≤ a.1) && decide (a.1 + a.2 ≤ 2 ^ 42)) &&
    apart (arrays.getD 0 (0, 0)) (arrays.getD 1 (0, 0)) && apart (arrays.getD 0 (0, 0)) (arrays.getD 2 (0, 0)) &&
    apart (arrays.getD 1 (0, 0)) (arrays.getD 2 (0, 0))

/-- The slabs of an array are placed as R346 says, in every window. -/
def State.kvpPlaced (s : State) (d : List Byte) : Bool :=
  (List.range s.width).all fun w =>
    ((slabStarts (windowRsa w + kdFrameOff d) (kdFrameBytes d)).all fun a => (s.slab a).home != .flash) &&
    (slabStarts (windowRsa w + kdSpillOff d) (kdSpillBytes d)).all fun a =>
      !(s.slab a).copyMode && (s.slab a).home == .flash && (s.slab a).ceiling == .ddr

/-- The pool's ranges (R361): three arrays in each window. -/
def State.kvpWindows (s : State) (d : List Byte) : List (Nat × Nat) :=
  ((List.range s.width).map fun w =>
    [(windowRsa w + kdFrameOff d, kdFrameBytes d), (windowRsa w + kdSpillOff d, kdSpillBytes d),
     (windowRsa w + kdMetaOff d, kdMetaBytes d)]).flatten

/-- The ranges of an opcode of this chapter with their accesses (R361). -/
def State.kvpAccess (s : State) (e : Entry) : List (List Access × Nat × Nat) :=
  let p := e.packet
  let d := if pkOpcode p = 0x90 then e.block else ((s.kvpPool (kpPool p)).map (·.desc)).getD []
  let rs := s.kvpWindows d
  match pkOpcode p with
  | 0x90 => rs.map fun r => ([.read], r.1, r.2)
  | 0x91 | 0x92 => []
  | 0x95 => (([.read] : List Access), kpSrc p, kpTokens p * kdTokenBytes d) :: rs.map fun r => ([.read, .write], r.1, r.2)
  | _ => rs.map fun r => ([.read, .write], r.1, r.2)

/-- Parameter check 9 of opcodes 0x90 to 0x9F (R362): STATUS and SUBCODE. -/
def State.kvpParams (s : State) (e : Entry) : Option (Nat × Nat) :=
  let p := e.packet
  let op := pkOpcode p
  let x := s.kvpPool (kpPool p)
  let t := kpTokens p
  if (op = 0x90) != pkPblk p || (op = 0x90 && pkPbLen p != 64) then some (St.badParam, 0x40)
  else if op != 0x90 && x.isNone then some (St.badParam, 0x41)
  else if x.any fun y => y.comp != pkComp p then some (St.xltDenied, 0x64)
  else if op = 0x90 && !kvpDescOk (kpPool p) e.block then some (St.badParam, 0x42)
  else if (op = 0x95 && (t < 1 || t > 65536)) || (op = 0x96 && t > 65536) ||
      (((op = 0x94 && !kpSelf p) || op = 0x99) && kpMember p ≥ s.width) ||
      (decide (0x95 ≤ op) && kpHintValid p && kpHint p ≥ s.width) then some (St.badParam, 0x43)
  else if op = 0x90 && !s.kvpPlaced e.block then some (St.badParam, 0x44)
  else none

/-! ### Pages (R344, R350, R355, R356) -/

/-- What an operation on pages has met so far. -/
structure KvpTally where
  /-- a page was spilled, unspilled, or copied under R349 -/
  fell : Bool := false
  unspilled : Nat := 0
  copied : Nat := 0
  allocated : Nat := 0
  freed : Nat := 0
  reads : List (Nat × Nat) := []
  writes : List (Nat × Nat) := []
  fail : Option (Nat × Nat) := none
  deriving DecidableEq, Repr

/-- The pages of a window that are in frames, and those in spill slots: handle and record. -/
def KvpPool.inWindow (x : KvpPool) (w : Nat) (spilled : Bool) : List (Nat × KvpPage) :=
  x.pages.cells.filter fun c => handleWindow c.1 = w && c.2.spilled == spilled

/-- Free frames and free spill slots of a window. -/
def KvpPool.freeFrames (x : KvpPool) (w : Nat) : Nat := kdFrames x.desc - (x.inWindow w false).length
def KvpPool.freeSpill (x : KvpPool) (w : Nat) : Nat := kdSpill x.desc - (x.inWindow w true).length

/-- The lowest free place of a kind in a window. -/
def KvpPool.lowestFree (x : KvpPool) (w : Nat) (spilled : Bool) : Option Nat :=
  let used := (x.inWindow w spilled).map (·.2.place)
  firstBelow (if spilled then kdSpill x.desc else kdFrames x.desc) fun k => !used.contains k

/-- The failure that a copy met, if any. -/
def KvpTally.met (t : KvpTally) : Option (Nat × Nat) → KvpTally
  | some f => { t with fail := some (t.fail.getD f) }
  | none => t

/-- The page has been written, or not. -/
def State.pageWritten (t : KvpTally) : State × Option (Nat × Nat) → State × KvpTally
  | (s, o) => (s, t.met o)

/-- The page has been read: its bytes go to their new place. -/
def State.pageRead (t : KvpTally) (src dst : Nat) : State × Option (Nat × Nat) → State × KvpTally
  | (s, some f) => (s, t.met (some f))
  | (s, none) => State.pageWritten t ((s.accessPages true (pagesOf dst 65536)).1.writeStore dst (s.bytes src 65536))

/-- Copy 64 KiB of the store. -/
def State.copyPage64 (s : State) (t : KvpTally) (src dst : Nat) : State × KvpTally :=
  State.pageRead { t with reads := t.reads ++ [(src, 65536)], writes := t.writes ++ [(dst, 65536)] } src dst
    (s.readRanges [(src, 65536)])

/-- A window is short (R355, R356). -/
def State.poolShort (s : State) (w : Nat) (t : KvpTally) : State × KvpTally :=
  (if s.serverOf w = s.sys.member then s.raise F.KVP_EVENT_POOL_SHORT else s,
    { t with fail := some (t.fail.getD (St.noSpace, 0x50)) })

/-- The victim of R355 among the next 256 frames from the hand: its handle, and the frame. -/
def State.kvpVictim (s : State) (x : KvpPool) (w : Nat) (busy : List Nat) : Option (Nat × Nat) :=
  let n := kdFrames x.desc
  let hand := x.hands.getD w 0
  let frames := x.inWindow w false
  let next := (List.range (min 256 n)).filterMap fun k =>
    (frames.find? fun c => c.2.place = (hand + k) % n).map fun c => (c.1, c.2)
  let may := next.filter fun c => !x.lockedPage c.1 && !busy.contains c.1
  match may.find? fun c => s.kvpStamp ≥ c.2.stamp + s.fld F.KVP_CFG_EVICT_AGE with
  | some c => some (c.1, c.2.place)
  | none =>
    (may.foldl (fun (b : Option (Nat × KvpPage)) c => if b.all fun y => c.2.stamp < y.2.stamp then some c else b) none).map
      fun c => (c.1, c.2.place)

/-- A victim's page has been copied to its spill slot, unless the copy failed. -/
def State.spilled (p w : Nat) (x : KvpPool) (h f slot : Nat) : State × KvpTally → State × KvpTally × Option Nat
  | (s, t) =>
    if t.fail.isSome then (s, t, none)
    else
      let s := s.modKvpPool p fun y => { y with
        pages := y.pages.modify h fun pg => { pg with spilled := true, place := slot }
        hands := y.hands.set w ((f + 1) % kdFrames x.desc) }
      let s := s.count F.KVP_COUNT_EVICT_COUNT
      let s := if kdSpill x.desc ≤ x.freeSpill w * 64 && (x.freeSpill w - 1) * 64 < kdSpill x.desc then
        s.raise F.KVP_EVENT_SPILL_LOW else s
      (s, { t with fell := true }, some f)

/-- A victim's page leaves its frame for a free spill slot (R355); None: the copy failed. -/
def State.spillVictim (s : State) (p w : Nat) (x : KvpPool) (h f slot : Nat) (t : KvpTally) : State × KvpTally × Option Nat :=
  State.spilled p w x h f slot (s.copyPage64 t (kvpFrameRsa x.desc w f) (kvpSpillRsa x.desc w slot))

/-- A frame of a window for a page: a free one, or a victim's, whose page is copied into a free spill slot (R355). None: the
window is short, or the copy failed. -/
def State.takeKvpFrame (s : State) (p w : Nat) (busy : List Nat) (t : KvpTally) : State × KvpTally × Option Nat :=
  match s.kvpPool p with
  | none => (s, t, none)
  | some x =>
    match x.lowestFree w false with
    | some f => (s, t, some f)
    | none =>
      match s.kvpVictim x w busy, x.lowestFree w true with
      | some (h, f), some slot => s.spillVictim p w x h f slot t
      | _, _ =>
        let (s, t) := s.poolShort w t
        (s, t, none)

/-- A new page of a window, in a frame, with one reference: its handle. -/
def State.newKvpPage (s : State) (p w : Nat) (busy : List Nat) (t : KvpTally) : State × KvpTally × Option Nat :=
  match s.takeKvpFrame p w busy t with
  | (s, t, none) => (s, t, none)
  | (s, t, some f) =>
    match s.kvpPool p with
    | none => (s, t, none)
    | some x =>
      match firstBelow (kdFrames x.desc + kdSpill x.desc) fun k => !x.pages.has (w * 2 ^ 26 + k) with
      | none =>
        let (s, t) := s.poolShort w t
        (s, t, none)
      | some k =>
        let h := w * 2 ^ 26 + k
        let pg : KvpPage := { spilled := false, place := f, refs := 1, stamp := s.kvpStamp }
        (s.modKvpPool p fun x => { x with pages := x.pages.set h pg }, { t with allocated := t.allocated + 1 }, some h)

/-- A page is stamped as used (R356). -/
def State.stampPage (s : State) (p h : Nat) : State :=
  s.modKvpPool p fun x => { x with pages := x.pages.modify h fun y => { y with stamp := s.kvpStamp } }

/-- A spilled page has been copied into a frame, unless the copy failed. -/
def State.unspilled (p h f : Nat) : State × KvpTally → State × KvpTally
  | (s, t) =>
    if t.fail.isSome then (s, t)
    else
      let s := s.modKvpPool p fun x => { x with
        pages := x.pages.modify h fun y => { y with spilled := false, place := f } }
      let s := s.count F.KVP_COUNT_UNSPILL_COUNT
      (s.stampPage p h, { t with fell := true, unspilled := t.unspilled + 1 })

/-- A spilled page comes into a frame of its window (R356). -/
def State.unspillPage (s : State) (p h : Nat) (x : KvpPool) (place f : Nat) (t : KvpTally) : State × KvpTally :=
  State.unspilled p h f
    (s.copyPage64 t (kvpSpillRsa x.desc (handleWindow h) place) (kvpFrameRsa x.desc (handleWindow h) f))

/-- Bring a page into a frame of its window (R356) and stamp it. A page of another window has been brought in by that window's member,
unless the window is short. -/
def State.bringIn (s : State) (p h : Nat) (busy : List Nat) (t : KvpTally) : State × KvpTally :=
  match (s.kvpPool p).bind fun x => (x.pages.find? h).map fun pg => (x, pg) with
  | none => (s, t)
  | some (x, pg) =>
    if !pg.spilled then (s.stampPage p h, t)
    else if !s.pageHere h then (s, t.met (some (St.noSpace, 0x50)))
    else
      match s.takeKvpFrame p (handleWindow h) (h :: busy) t with
      | (s, t, none) => (s, t)
      | (s, t, some f) => s.unspillPage p h x pg.place f t

/-- One reference of a page goes; a page without references is free (R354). -/
def State.dropRef (s : State) (p h : Nat) (t : KvpTally) : State × KvpTally :=
  match (s.kvpPool p).bind fun x => x.pages.find? h with
  | none => (s, t)
  | some pg =>
    if pg.refs ≤ 1 then (s.modKvpPool p fun x => { x with pages := x.pages.erase h }, { t with freed := t.freed + 1 })
    else (s.modKvpPool p fun x => { x with pages := x.pages.modify h fun y => { y with refs := y.refs - 1 } }, t)

def State.dropRefs (s : State) (p : Nat) (t : KvpTally) : List Nat → State × KvpTally
  | [] => (s, t)
  | h :: r =>
    let (s, t) := s.dropRef p h t
    s.dropRefs p t r

/-- A page's record. -/
def State.kvpPage (s : State) (p h : Nat) : Option KvpPage := (s.kvpPool p).bind fun x => x.pages.find? h
/-- Where a page stands. -/
def State.kvpPageAt (s : State) (p h : Nat) : Nat :=
  ((s.kvpPool p).bind fun x => (x.pages.find? h).map fun pg => kvpPageRsa x.desc h pg).getD 0

/-- A page has been copied into a new page, unless the copy failed. -/
def State.copied (p n : Nat) : State × KvpTally → State × KvpTally × Option Nat
  | (s, t) =>
    if t.fail.isSome then
      let (s, t) := s.dropRef p n t
      (s, t, none)
    else (s.count F.KVP_COUNT_COW_COUNT, { t with copied := t.copied + 1, allocated := t.allocated - 1 }, some n)

/-- A copy of a page in a new page of this member's window (R349, R350). -/
def State.privateCopy (s : State) (p h : Nat) (busy : List Nat) (t : KvpTally) : State × KvpTally × Option Nat :=
  match s.newKvpPage p s.ownWindow (h :: busy) t with
  | (s, t, none) => (s, t, none)
  | (s, t, some n) => State.copied p n (s.copyPage64 t (s.kvpPageAt p h) (s.kvpPageAt p n))

/-! ### Records (R347) -/

/-- The record of a sequence at this member: its number and the record. -/
def KvpPool.recOf (x : KvpPool) (seq : Nat) : Option (Nat × SeqRec) := x.recs.cells.find? fun c => c.2.id = seq
def State.seqRec (s : State) (p seq : Nat) : Option (Nat × SeqRec) := (s.kvpPool p).bind fun x => x.recOf seq
def State.setSeq (s : State) (p slot : Nat) (r : SeqRec) : State :=
  s.modKvpPool p fun x => { x with recs := x.recs.set slot r }
/-- The lowest FREE record of this member's window. -/
def KvpPool.freeRec (x : KvpPool) : Option Nat := firstBelow (kdSeqs x.desc) fun k => !x.recs.has k
/-- A record becomes FREE: its generation grows (R347). -/
def State.freeSeq (s : State) (p slot : Nat) : State :=
  s.modKvpPool p fun x => { x with recs := x.recs.erase slot, gens := x.gens.set slot ((x.gens.getD slot 0 + 1) % 64) }

/-! ### The owner's operations (R349 to R354) -/

/-- What an operation answers. -/
structure KvpOut where
  st : Nat := 0
  sub : Nat := 0
  r0 : Nat := 0
  owner : Nat := 0
  done : Nat := 0
  aux : Nat := 0
  tally : KvpTally := {}
  data : List Byte := []
  /-- the pages of the sequence before it -/
  pages : List Nat := []
  deriving DecidableEq, Repr

def kvpFailed (t : KvpTally) (st sub : Nat) : KvpOut := { st := st, sub := sub, tally := t }

/-- Make the pages of a list from `first` on writable for `pages` pages in all (R350 to R352): a shared one is copied, a spilled
one brought in, a missing one allocated. The list as it then stands. -/
def State.preparePages (s : State) (p : Nat) (t : KvpTally) (list : List Nat) : List Nat → State × KvpTally × List Nat
  | [] => (s, t, list)
  | i :: r =>
    if t.fail.isSome then (s, t, list)
    else match list[i]? with
    | none =>
      match s.newKvpPage p s.ownWindow list t with
      | (s, t, none) => (s, t, list)
      | (s, t, some n) => s.preparePages p t (list ++ [n]) r
    | some h =>
      if (s.kvpPage p h).any fun pg => pg.refs > 1 then
        match s.privateCopy p h list t with
        | (s, t, none) => (s, t, list)
        | (s, t, some n) =>
          let (s, t) := s.dropRef p h t
          s.preparePages p t (list.set i n) r
      else
        let (s, t) := s.bringIn p h list t
        s.preparePages p t list r

/-- The indexes of pages from `a` to below `b`. -/
def pageSpan (a b : Nat) : List Nat := (List.range (b - a)).map fun k => a + k

/-- KVP_APPEND at the owner (R351). -/
def State.appendSeq (s : State) (p slot : Nat) (r : SeqRec) (src tokens : Nat) : State × KvpOut :=
  match s.kvpPool p with
  | none => (s, {})
  | some x =>
    let d := x.desc
    let pt := kdPageTokens d
    let tb := kdTokenBytes d
    let need := ceilDiv (r.length + tokens) pt
    let rd : KvpTally := { reads := [(src, tokens * tb)] }
    if need > kdListMax d + 1 then (s, kvpFailed {} St.noSpace 0x51)
    else match s.readRanges rd.reads with
    | (s, some (st, sub)) => (s, kvpFailed rd st sub)
    | (s, none) =>
      let (s, t, list) := s.preparePages p rd r.list (pageSpan (r.length / pt) need)
      match t.fail with
      | some (st, sub) => (s.setSeq p slot { r with list := list }, kvpFailed t st sub)
      | none =>
        let (s, t) := (pageSpan (r.length / pt) need).foldl (fun (acc : State × KvpTally) i =>
          let (s, t) := acc
          let lo := max r.length (i * pt)
          let hi := min (r.length + tokens) ((i + 1) * pt)
          let at' := s.kvpPageAt p (list.getD i 0) + (lo - i * pt) * tb
          let n := (hi - lo) * tb
          let t := { t with writes := t.writes ++ [(at', n)] }
          let s := (s.accessPages true (pagesOf at' n)).1
          match s.writeStore at' (s.bytes (src + (lo - r.length) * tb) n) with
          | (s, none) => (s, t)
          | (s, some f) => (s, { t with fail := some (t.fail.getD f) })) (s, t)
        match t.fail with
        | some (st, sub) =>
          let (s, t) := s.dropRefs p t (list.drop r.list.length)
          (s.setSeq p slot { r with list := list.take r.list.length }, kvpFailed t st sub)
        | none =>
          (s.setSeq p slot { r with list := list, length := r.length + tokens },
            { r0 := r.length + tokens, done := t.allocated, aux := t.copied, tally := t })

/-- KVP_LOCK at the owner (R352, R364). -/
def State.lockSeq (s : State) (p slot : Nat) (r : SeqRec) (reserve : Nat) : State × KvpOut :=
  match s.kvpPool p with
  | none => (s, {})
  | some x =>
    let d := x.desc
    let pt := kdPageTokens d
    let need := ceilDiv (r.length + reserve) pt
    if need > kdListMax d + 1 then (s, kvpFailed {} St.noSpace 0x51)
    else
      let old := r.list.length
      let (s, t, list) := s.preparePages p {} r.list
        (if reserve = 0 then [] else pageSpan (r.length / pt) need)
      let (s, t) := list.foldl (fun (acc : State × KvpTally) h =>
        if acc.2.fail.isSome then acc else acc.1.bringIn p h list acc.2) (s, t)
      match t.fail with
      | some (st, sub) => (s.setSeq p slot { r with list := list }, kvpFailed t st sub)
      | none =>
        let from' := if r.locked then min r.reservedFrom old else old
        let s := s.setSeq p slot { r with list := list, locked := true, reserve := reserve, reservedFrom := from' }
        let entries := ((List.range list.length).zip list).map fun y =>
          toLe 8 (s.kvpPageAt p y.2 + 2 ^ 56 * b2n ((s.kvpPage p y.2).any fun g => g.refs > 1) +
            2 ^ 57 * b2n (decide (old ≤ y.1)))
        (s, { r0 := r.length, done := list.length, aux := t.unspilled, tally := t
              data := toLe 4 r.length ++ toLe 4 list.length ++ toLe 4 (kdTokenBytes d) ++ toLe 4 r.length ++ toLe 48 0 ++
                entries.flatten })

/-- KVP_UNLOCK at the owner, and the expiry of a lock (R353). -/
def State.unlockSeq (s : State) (p slot : Nat) (r : SeqRec) (commit : Nat) : State × KvpOut :=
  match s.kvpPool p with
  | none => (s, {})
  | some x =>
    let len := r.length + commit
    let keep := max r.reservedFrom (ceilDiv len (kdPageTokens x.desc))
    let (s, t) := s.dropRefs p {} (r.list.drop keep)
    (s.setSeq p slot { r with length := len, list := r.list.take keep, locked := false, reserve := 0, reservedFrom := 0 },
      { r0 := len, done := t.freed, tally := t })

/-- KVP_CLOSE at the owner (R354): its references and its record; the members whose records the close must reach. -/
def State.closeSeq (s : State) (p slot : Nat) (r : SeqRec) : State × KvpOut × List Nat :=
  let (s, t) := s.dropRefs p {} r.list
  let birth := s.serverOf (seqWindow r.id)
  let others := (addNew r.forwards birth).filter fun m => m != s.sys.member
  (s.freeSeq p slot, { done := t.freed, aux := 1, tally := t }, others)

/-- KVP_OPEN at the owner, with the parent's length and list (R349). -/
def State.openSeq (s : State) (p shared' : Nat) (parent : List Nat) : State × KvpOut :=
  match s.kvpPool p with
  | none => (s, {})
  | some x =>
    match x.freeRec with
    | none => (s, kvpFailed {} St.noSpace 0x52)
    | some slot =>
      let shared := parent.take (ceilDiv shared' (kdPageTokens x.desc))
      let (s, t, list) := shared.foldl (fun (acc : State × KvpTally × List Nat) h =>
        let (s, t, list) := acc
        if t.fail.isSome then acc
        else match s.kvpPage p h with
        | none => (s, { t with fail := some (St.badParam, 0x47) }, list)
        | some pg =>
          if pg.refs < 65535 then
            (s.modKvpPool p fun x => { x with
              pages := x.pages.modify h fun y => { y with refs := y.refs + 1, stamp := s.kvpStamp } }, t, list ++ [h])
          else match s.privateCopy p h shared t with
          | (s, t, none) => (s, t, list)
          | (s, t, some n) => (s, { t with fell := true }, list ++ [n])) (s, {}, [])
      match t.fail with
      | some (st, sub) =>
        let (s, t) := s.dropRefs p t list
        (s, kvpFailed t st sub)
      | none =>
        let id := s.ownWindow * 2 ^ 26 + x.gens.getD slot 0 * 2 ^ 20 + slot
        (s.setSeq p slot { id := id, state := .owned, length := shared', list := list },
          { r0 := id, done := list.length - t.copied, aux := t.copied, tally := t })

/-! ### Handover and resolution (R357 to R360) -/

/-- The messages of a handover: OFFER, ACCEPT, DECLINE (R357), and the notice of a resolution (R360). -/
def offerMsg (kind p : Nat) (r : SeqRec) : List Byte :=
  toLe 1 kind ++ toLe 1 p ++ toLe 4 r.id ++ toLe 8 r.token ++
    (if kind = 1 then toLe 4 r.length ++ toLe 4 r.list.length ++ (r.list.map (toLe 4)).flatten else [])

/-- Step 1 and 2 of R357: the record is LEAVING, the OFFER goes out. -/
def State.startHandover (s : State) (p slot : Nat) (r : SeqRec) (target : Nat) (a : Asker) : State :=
  let r := { r with state := .leaving, token := (r.token + 1) % 2 ^ 64, target := target, offers := 1, handover := some a }
  (s.setSeq p slot r).emit (.toMember target (offerMsg 1 p r))

/-- Log a resolution and raise its events (R360). -/
def State.logResolve (s : State) (x : KvpResolve) : State :=
  let s := ({ s with kvp := { s.kvp with log := (x :: s.kvp.log).take 4 } }).raise F.KVP_EVENT_RESOLVED
  if x.row = 2 then s.raise F.KVP_EVENT_BOTH_RENOUNCED else s

/-- Check a kept list page by page and take a reference to every page that remains (R359): the list, the length, the pages
dropped. -/
def State.adoptList (s : State) (p length : Nat) (list : List Nat) : State × Nat × List Nat × Nat :=
  match s.kvpPool p with
  | none => (s, length, list, 0)
  | some x =>
    let live := list.takeWhile fun h => x.pages.has h
    let s := live.foldl (fun (s : State) h => s.modKvpPool p fun x => { x with
      pages := x.pages.modify h fun y => { y with refs := min 65535 (y.refs + 1) } }) s
    (s, if live.length < list.length then min length (live.length * kdPageTokens x.desc) else length, live,
      list.length - live.length)

/-- What a member that forwarded an item says of its own record (R348, R359). -/
structure KvpFrom where
  member : Nat
  owned : Bool
  token : Nat
  length : Nat
  list : List Nat
  deriving DecidableEq, Repr

/-- The data of a forwarded item: forwards so far, the forwarder, its record's state, token, length and list. -/
def forwardBlock (n member : Nat) (r : SeqRec) : List Byte :=
  toLe 1 n ++ toLe 1 member ++ toLe 1 (if r.state == .owned then 2 else 1) ++ toLe 8 r.token ++ toLe 4 r.length ++
    toLe 4 r.list.length ++ (r.list.map (toLe 4)).flatten
def kvpForwards (block : List Byte) : Nat := fieldAt block 0 1
def kvpFrom (block : List Byte) : Option KvpFrom :=
  if fieldAt block 2 1 = 0 then none
  else some
    { member := fieldAt block 1 1, owned := fieldAt block 2 1 = 2, token := fieldAt block 3 8, length := fieldAt block 11 4
      list := (List.range (fieldAt block 15 4)).map fun i => fieldAt block (19 + 4 * i) 4 }

/-- The row of R359 and whether X, this member, becomes the owner. -/
def resolveRow (me : Nat) (x : Option SeqRec) (y : KvpFrom) : Nat × Bool :=
  match x with
  | none => (3, true)
  | some r =>
    if r.state == .owned && y.owned then (4, decide (y.token < r.token) || (y.token = r.token && decide (me < y.member)))
    else if y.token < r.token then (0, false)
    else if r.token < y.token then (1, true)
    else (2, decide (me < y.member))

/-- Resolve a sequence that X, this member, and Y both disown, or both own (R359): none when no record is FREE for it. -/
def State.resolve (s : State) (p seq : Nat) (y : KvpFrom) : State × Bool :=
  let mine := s.seqRec p seq
  let x := mine.map (·.2)
  let (row, win) := resolveRow s.sys.member x y
  match (mine.map (·.1)).orElse (fun _ => (s.kvpPool p).bind (·.freeRec)) with
  | none => (s, false)
  | some slot =>
    let old : SeqRec := x.getD { id := seq, state := .gone, token := 0 }
    let token := (max old.token y.token + 1) % 2 ^ 64
    let log (s : State) (cut : Nat) : State := s.logResolve
      { seq := seq, winner := if win then s.sys.member else y.member, other := if win then y.member else s.sys.member
        row := row, truncated := min 65535 cut, token := token }
    let tell (s : State) : State := s.sendItem
      { owner := none, home := y.member, epoch := s.rack.map.epoch, role := true, slot := s.slotServed y.member, kind := 4
        data := toLe 1 0x99 ++ toLe 19 0 ++ toLe 1 p ++ toLe 43 0 ++
          (toLe 1 0xFF ++ toLe 1 p ++ toLe 4 seq ++ toLe 8 token ++ toLe 1 row ++ toLe 1 (b2n win) ++
            (if row = 0 then toLe 4 old.length ++ (old.list.map (toLe 4)).flatten else [])) } 0
    if win then
      let (len, list) := if row = 1 || row = 3 then (y.length, y.list) else (old.length, old.list)
      let (s, len, list, cut) := if row = 4 then (s, len, list, 0) else s.adoptList p len list
      let s := s.setSeq p slot { old with state := .owned, locked := if row = 4 then old.locked else false, token := token,
                                          length := len, list := list, target := 0 }
      (tell (log s cut), true)
    else
      let s := if row = 4 then (s.dropRefs p {} old.list).1 else s
      let s := s.setSeq p slot { old with state := .gone, locked := false, token := token, target := y.member }
      (tell (log s 0), true)

/-- Y learns how a resolution went (R359, R360): its record follows, and it logs it too. -/
def State.noteResolve (s : State) (p origin : Nat) (m : List Byte) : State :=
  let seq := fieldAt m 2 4
  let token := fieldAt m 6 8
  let row := fieldAt m 14 1
  let lost := fieldAt m 15 1 = 1
  match s.seqRec p seq with
  | none => s
  | some (slot, r) =>
    let log (s : State) (cut : Nat) : State := s.logResolve
      { seq := seq, winner := if lost then origin else s.sys.member, other := if lost then s.sys.member else origin
        row := row, truncated := min 65535 cut, token := token }
    if lost then
      let s := if row = 4 then (s.dropRefs p {} r.list).1 else s
      log (s.setSeq p slot { r with state := .gone, locked := false, token := token, target := origin }) 0
    else
      let kept := (List.range ((m.length - 20) / 4)).map fun i => fieldAt m (20 + 4 * i) 4
      let (len, list) := if row = 0 then (fieldAt m 16 4, kept) else (r.length, r.list)
      let (s, len, list, cut) := if row = 4 then (s, len, list, 0) else s.adoptList p len list
      log (s.setSeq p slot { r with state := .owned, token := token, length := len, list := list, target := 0 }) cut

/-! ### Routing (R348) -/

/-- Where a command that names a sequence goes next. -/
inductive KvpRoute where
  /-- served here, at the record with this number -/
  | here (slot : Nat)
  /-- queued at the LEAVING record -/
  | queue (slot : Nat)
  /-- sent to a member; with the data that goes with it -/
  | away (member : Nat) (block : List Byte)
  /-- it completes with this status -/
  | fail (st sub : Nat)
  deriving DecidableEq, Repr

/-- Route a command at this member's record (R348): resolution runs when the record and the forwarder's disown each other. -/
def State.routeSeq (s : State) (p seq : Nat) (block : List Byte) : State × KvpRoute :=
  let birth := s.serverOf (seqWindow seq)
  let from' := kvpFrom block
  let at' (s : State) : State × KvpRoute :=
    match s.seqRec p seq with
    | none => if birth = s.sys.member then (s, .fail St.badParam 0x47) else (s, .away birth [])
    | some (slot, r) =>
      match r.state with
      | .owned => (s, .here slot)
      | .leaving => (s, .queue slot)
      | .gone =>
        if kvpForwards block ≥ 8 then (s.raise F.KVP_EVENT_CHAIN_LONG, .fail St.badParam 0x4E)
        else
          (s.count F.KVP_COUNT_FORWARD_COUNT, .away r.target (forwardBlock (kvpForwards block + 1) s.sys.member r))
  match from' with
  | none => at' s
  | some y =>
    let loop : Bool := match s.seqRec p seq with
      | none => true
      | some (_, r) => (r.state == .gone && r.target = y.member) || (r.state == .owned && y.owned)
    if loop then
      match s.resolve p seq y with
      | (s, true) => at' s
      | (s, false) => (s, .fail St.noSpace 0x52)
    else at' s

/-- Remember the member that forwarded an item (R354). -/
def State.noteForward (s : State) (p slot : Nat) (block : List Byte) : State :=
  match kvpFrom block, (s.kvpPool p).bind fun x => x.recs.find? slot with
  | some y, some r =>
    let l := r.forwards ++ [y.member]
    s.setSeq p slot { r with forwards := l.drop (l.length - 8) }
  | _, _ => s

/-! ### Pages of other windows (R344, R349, R354 to R356) -/

/-- How a page of another window is marked as asked for by a waiter, among the granules read elsewhere. -/
def pageMark (p h : Nat) : Nat := 2 ^ 60 + 2 ^ 32 * p + h

/-- Ask the members of other windows for the records of pages, brought into frames where the operation needs them there. True: an
answer is still due. -/
def State.askPages (s : State) (wait p : Nat) (bring : Bool) (hs : List Nat) : State × Bool :=
  let need := hs.filter fun h => !s.pageHere h && !s.rack.fetched.contains (wait, pageMark p h)
  let homes := need.foldl (fun l h => addNew l (s.serverOf (handleWindow h))) []
  (homes.foldl (fun (s : State) m =>
    if s.rack.away.cells.any fun c => c.2.owner == some wait && c.2.kind = 11 && c.2.home = m then s
    else s.sendItem
      { owner := some wait, home := m, epoch := s.epochOf (some wait), role := true, slot := s.slotServed m, kind := 11
        addr := p + 64 * b2n bring
        data := ((need.filter fun h => s.serverOf (handleWindow h) = m).map (toLe 4)).flatten } 0) s, !need.isEmpty)

/-- The handles that the data of such an item names. -/
def pagesNamed (data : List Byte) : List Nat := (List.range (data.length / 4)).map fun i => fieldAt data (4 * i) 4

/-- The member of a window brings pages into frames (R356): how that went. -/
def State.bringAll (s : State) (p : Nat) (hs : List Nat) : State × KvpTally :=
  hs.foldl (fun (acc : State × KvpTally) h => if acc.2.fail.isSome then acc else acc.1.bringIn p h hs acc.2) (s, {})

/-- A page's record as it goes to another member: five numbers. -/
def State.pageWords (s : State) (p h : Nat) : List Nat :=
  match s.kvpPage p h with
  | none => [h, 0, 0, 0, 0]
  | some pg => [h, 1, b2n pg.spilled + 2 * pg.place, pg.refs, pg.stamp]

/-- Records that another window's member has told. -/
def State.notePages (s : State) (p : Nat) (words : List Nat) : State :=
  (blocksOf 5 words).foldl (fun (s : State) b =>
    let pg : KvpPage := { spilled := b.getD 2 0 % 2 = 1, place := b.getD 2 0 / 2, refs := b.getD 3 0, stamp := b.getD 4 0 }
    s.modKvpPool p fun x => { x with
      pages := if b.getD 1 0 = 0 then x.pages.erase (b.getD 0 0) else x.pages.set (b.getD 0 0) pg }) s

/-- Such a member has answered (R34). -/
def State.pagesAnswered (s : State) (item : Nat) (x : Away) (st sub : Nat) (words : List Nat) : State :=
  let wait := x.owner.getD 0
  let p := x.addr % 64
  let s := if st = St.done then
      let s := s.notePages p (words.drop 1)
      let n := s.kvp.brought.getD wait 0 + words.headD 0
      if n = 0 then s else { s with kvp := { s.kvp with brought := s.kvp.brought.set wait n } }
    else { s with kvp := { s.kvp with refused := s.kvp.refused.set wait (st, sub) } }
  let s := { s with rack := { s.rack with
    fetched := s.rack.fetched ++ (pagesNamed x.data).map fun h => (wait, pageMark p h) } }
  let s := s.modEntry wait fun e =>
    let e1 := { e with items := e.items.filter fun i => i.id != item }
    if e1.items.isEmpty && e.stop.isSome then e1.endStopped else e1
  s.dropAway item

/-- What an operation changed in the records of other windows' pages: handle, and 0 a reference less, 1 one more, 2 a lock, 3 a lock
less. -/
def farChanges (here : Nat → Bool) (before after : KvpPool) (hs : List Nat) : List (Nat × Nat) :=
  let refs (x : KvpPool) (h : Nat) : Nat := ((x.pages.find? h).map (·.refs)).getD 0
  let held (x : KvpPool) (h : Nat) : Bool := x.recs.cells.any fun c => c.2.locked && c.2.list.contains h
  ((hs.foldl addNew []).filter fun h => !here h).map (fun h =>
    List.replicate (refs before h - refs after h) (h, 0) ++ List.replicate (refs after h - refs before h) (h, 1) ++
      (if held after h && !held before h then [(h, 2)] else []) ++
      (if held before h && !held after h then [(h, 3)] else [])) |>.flatten

/-- They go to those windows' members. -/
def State.sendChanges (s : State) (wait p : Nat) (l : List (Nat × Nat)) : State :=
  let homes := l.foldl (fun l x => addNew l (s.serverOf (handleWindow x.1))) []
  homes.foldl (fun (s : State) m => s.sendItem
    { owner := some wait, home := m, epoch := s.epochOf (some wait), role := true, slot := s.slotServed m, kind := 12, addr := p
      data := ((l.filter fun x => s.serverOf (handleWindow x.1) = m).map fun x => toLe 4 x.1 ++ toLe 1 x.2).flatten } 0) s

/-- One change of a page's record, made by the member of its window (R349, R352, R354). -/
def State.changePage (s : State) (p h k : Nat) : State :=
  match k with
  | 0 => (s.dropRef p h {}).1
  | 1 => s.modKvpPool p fun x => { x with pages := x.pages.modify h fun y => { y with refs := min 65535 (y.refs + 1), stamp := s.kvpStamp } }
  | 2 => s.modKvpPool p fun x => { x with pages := x.pages.modify h fun y => { y with locks := y.locks + 1 } }
  | _ => s.modKvpPool p fun x => { x with pages := x.pages.modify h fun y => { y with locks := y.locks - 1 } }

def State.changePages (s : State) (p : Nat) (data : List Byte) : State :=
  (List.range (data.length / 5)).foldl (fun (s : State) i => s.changePage p (fieldAt data (5 * i) 4) (fieldAt data (5 * i + 4) 1)) s

/-- The pages whose records an owner's operation needs. -/
def kvpNeeds (op pageTokens : Nat) (r : SeqRec) : List Nat :=
  match op with
  | 0x95 => r.list.drop (r.length / pageTokens)
  | 0x96 | 0x98 => r.list
  | _ => []

/-- An operation of an owner: an outcome, or a handover that has begun. -/
def State.ownerOp (s : State) (p slot : Nat) (r : SeqRec) (pk : Packet) (a : Asker) : State × Option (KvpOut × List Nat) :=
  let me := s.sys.member
  let own (x : State × KvpOut) : State × Option (KvpOut × List Nat) := (x.1, some ({ x.2 with owner := me }, []))
  let t := kpTokens pk
  match pkOpcode pk with
  | 0x95 => own (s.appendSeq p slot r (kpSrc pk) t)
  | 0x96 => own (s.lockSeq p slot r t)
  | 0x97 =>
    if !r.locked then own (s, kvpFailed {} St.badParam 0x49)
    else if t > r.reserve then own (s, kvpFailed {} St.badParam 0x43)
    else own (s.unlockSeq p slot r t)
  | 0x98 =>
    if r.locked then own (s, kvpFailed {} St.badParam 0x48)
    else
      let (s, o, others) := s.closeSeq p slot r
      (s, some ({ o with owner := me }, others))
  | _ =>
    if r.locked || kpMember pk = me then own (s, kvpFailed {} St.badParam 0x48)
    else (s.startHandover p slot r (kpMember pk) a, none)

/-- Effect classes of an opcode and its outcome (R361). -/
def kvpClasses (op : Nat) (o : KvpOut) : Nat :=
  (if op = 0x95 then 17 else if op = 0x96 then 20 else 16) + (if o.tally.fell then 64 else 0)

end Sys2Proof.Machine
end

