-- ==== Sys2Proof/Machine/KvpRun.lean ====
section
/-!
DEFINITION. KV page pools: a command of this member and a work item of another, from routing to their completion (R347 to
R363).
-/
namespace Sys2Proof.Machine

open Sys2Proof

/-- A command, or an item, that names pages of other windows has used what it asked for. -/
def State.endPages (s : State) (wait : Nat) : State :=
  { s.dropFetched wait with kvp := { s.kvp with brought := s.kvp.brought.erase wait, refused := s.kvp.refused.erase wait } }

/-- Run an operation once the records of other windows' pages are known and the granules it reads and writes may be accessed: what it
changed of those records goes to the windows' members. `plan` is what it would do, for its reads and writes. True: it waits. -/
def State.withPages (s : State) (wait p : Nat) (bring : Bool) (hs : List Nat) (plan : State → KvpTally)
    (run : State → State × Option (KvpOut × List Nat)) : State × Bool × Option (KvpOut × List Nat) :=
  match s.askPages wait p bring hs with
  | (s, true) => (s, true, none)
  | (s, false) =>
    match s.kvp.refused.find? wait with
    | some f => (s.endPages wait, false, some (kvpFailed {} f.1 f.2, []))
    | none =>
      let t := plan s
      match s.prepareRanges wait t.reads t.writes with
      | (s, true) => (s, true, none)
      | (s, false) =>
        let before := s.kvpPool p
        let n := s.kvp.brought.getD wait 0
        let (s, o) := run (s.endPages wait)
        let lists := (o.map fun y => y.1.pages).getD []
        let s := match before, s.kvpPool p with
          | some x, some y => s.sendChanges wait p (farChanges s.pageHere x y (hs ++ lists))
          | _, _ => s
        (s, false, o.map fun y => ({ y.1 with
          tally := { y.1.tally with fell := y.1.tally.fell || n != 0, unspilled := y.1.tally.unspilled + n }
          aux := y.1.aux + (if bring && y.1.st = St.done then n else 0) }, y.2))

/-- Run an owner's operation. True: it waits. -/
def State.ownerRun (s : State) (wait p slot : Nat) (pk : Packet) (block : List Byte) (a : Asker) :
    State × Bool × Option (KvpOut × List Nat) :=
  let s := s.noteForward p slot block
  match s.kvpPool p, (s.kvpPool p).bind fun x => x.recs.find? slot with
  | some x, some r =>
    let hs := kvpNeeds (pkOpcode pk) (kdPageTokens x.desc) r
    s.withPages wait p (pkOpcode pk = 0x96) hs (fun s => ((s.ownerOp p slot r pk a).2.map fun o => o.1.tally).getD {})
      fun s => match s.ownerOp p slot r pk a with
        | (s, o) => (s, o.map fun y => ({ y.1 with pages := r.list }, y.2))
  | _, _ => (s, false, some (kvpFailed {} St.badParam 0x47, []))

/-- An item of a KV command goes to a member, with what its opcode keeps for it (R348, R349, R354). -/
def State.sendKvp (s : State) (id m classes : Nat) (block : List Byte) : State :=
  match s.entry? id with
  | none => s
  | some e => s.sendItem
      { owner := some id, home := m, epoch := e.epoch, role := true, slot := s.slotServed m, kind := 4
        data := bvBytes e.packet 0 64 ++ block } classes

/-- Such an item of another member goes on to a record's TARGET (R348). -/
def State.passKvp (s : State) (origin id m : Nat) (pk : Packet) (block : List Byte) : State :=
  s.emit (.item m origin id s.rack.map.epoch (pkClass pk) false true (s.slotServed m) 4 0 (bvBytes pk 0 64 ++ block))

/-- A command of this member ends with what the owner here answered (R363); a close reaches the records of the members that forwarded
the sequence's commands (R354). -/
def State.kvpEnd (s : State) (id : Nat) (o : KvpOut) (others : List Nat) : State :=
  let op := (((s.entry? id).map fun e => pkOpcode e.packet).getD 0)
  let s := if o.st = St.done then others.foldl (fun (s : State) m => s.sendKvp id m 16 (toLe 1 0xFE)) s else s
  let s := s.conclude id true (if o.st = St.done then kvpClasses op o else if o.tally.fell then 64 else 0) fun oc =>
    if o.st != St.done then { oc with
      status := o.st, subcode := o.sub, absent := if o.tally.fell then 0xBF else 0xFF, fellBack := oc.fellBack || o.tally.fell }
    else { oc with
      result0 := if op = 0x96 then o.r0 + 2 ^ 58 * o.owner else o.r0
      result1 := if op = 0x96 then 0 else o.owner
      countDone := o.done, countAux := o.aux, fellBack := oc.fellBack || o.tally.fell }
  if op = 0x96 && o.st = St.done then s.sendOutput id 0 o.data else s

/-- Where the intake member sends a command that names a sequence: HINT first, else the birth window's member (R348). -/
def State.firstRoute (s : State) (p : Nat) (pk : Packet) : State × KvpRoute :=
  let me := s.sys.member
  let birth := s.serverOf (seqWindow (kpSeq pk))
  if kpHintValid pk && kpHint pk != me then (s, .away (kpHint pk) [])
  else if birth = me || (kpHintValid pk && (s.seqRec p (kpSeq pk)).isSome) then s.routeSeq p (kpSeq pk) []
  else (s, .away birth [])

/-- A command of this member that names a sequence (R348): served here, queued, or sent on. LOCK keeps a local item for the
output that its answer brings. -/
def State.kvpRun (s : State) (id op : Nat) : State :=
  match s.runnableStore id op with
  | none => s
  | some e =>
    let pk := e.packet
    let p := kpPool pk
    match s.firstRoute p pk with
    | (s, .fail st sub) => s.failWith id st sub
    | (s, .away m b) =>
      let s := if op = 0x96 || op = 0x98 then (s.localItem id 0).1 else s
      (s.sendKvp id m (if op = 0x95 then 17 else if op = 0x96 then 20 else 16) b).conclude id false 0 fun o => o
    | (s, .queue slot) =>
      if op = 0x98 then s.failWith id St.badParam 0x48
      else
        s.modKvpPool p fun x => { x with recs := x.recs.modify slot fun r =>
          if (r.queued.any fun (q : KvpQueued) => q.asker = .entry id 0) then r
          else { r with queued := r.queued ++ [{ asker := .entry id 0, packet := pk, block := [] }] } }
    | (s, .here slot) =>
      match s.ownerRun id p slot pk [] (.entry id 0) with
      | (s, true, _) => s
      | (s, false, some (o, others)) => s.kvpEnd id o others
      | (s, false, none) =>
        let (s, item) := s.localItem id 16
        let s := s.modKvpPool p fun x => { x with
          recs := x.recs.modify slot fun r => { r with handover := some (.entry id item) } }
        s.conclude id true 16 fun o => o

/-- What an owner answers to another member: RESULT0, COUNT_DONE, COUNT_AUX, RESULT1, FELL_BACK, then the output, each in
eight bytes. -/
def KvpOut.bytes (o : KvpOut) (op : Nat) : List Byte :=
  toLe 8 (if op = 0x96 then o.r0 + 2 ^ 58 * o.owner else o.r0) ++ toLe 8 o.done ++ toLe 8 o.aux ++
    toLe 8 (if op = 0x96 then 0 else o.owner) ++ toLe 8 (b2n o.tally.fell) ++ o.data

/-- The parent's length and list as an OPEN item carries them (R349); none asks for them. -/
def openBlock (length : Nat) (list : List Nat) : List Byte :=
  toLe 1 1 ++ toLe 4 length ++ toLe 4 list.length ++ (list.map (toLe 4)).flatten
def openParent (block : List Byte) : List Nat := (List.range (fieldAt block 5 4)).map fun i => fieldAt block (9 + 4 * i) 4

/-- OPEN at its owner (R349): the pages it shares with the parent. -/
def State.openRun (s : State) (wait p shared' : Nat) (list : List Nat) : State × Bool × KvpOut :=
  let pt := ((s.kvpPool p).map fun x => kdPageTokens x.desc).getD 1
  match s.withPages wait p false (list.take (ceilDiv shared' pt)) (fun s => (s.openSeq p shared' list).2.tally)
      fun s => match s.openSeq p shared' list with
        | (s, o) => (s, some (o, [])) with
  | (s, true, _) => (s, true, {})
  | (s, false, o) => (s, false, { (o.map (·.1)).getD {} with owner := s.sys.member })

/-- A work item of another member's KV command at this member. True: it waits, for copies of endpoints or for other windows' pages. -/
def State.kvpItem (s : State) (origin id : Nat) (pk : Packet) (block : List Byte) : State × Bool :=
  let p := kpPool pk
  let op := pkOpcode pk
  let wait := itemWaiter origin id
  let answer (s : State) (o : KvpOut) : State × Bool :=
    (s.answerWork (s.itemOf origin id) o.st o.sub (if o.st = St.done then o.bytes op else []), false)
  match op with
  | 0x94 =>
    if fieldAt block 0 1 = 1 then
      match s.openRun wait p (kpTokens pk) (openParent block) with
      | (s, true, _) => (s, true)
      | (s, false, o) => answer s o
    else
      match s.routeSeq p (kpSeq pk) block with
      | (s, .fail st sub) => answer s { st := st, sub := sub }
      | (s, .away m b) => (s.passKvp origin id m pk b, false)
      | (s, .queue slot) =>
        (s.modKvpPool p fun x => { x with recs := x.recs.modify slot fun r =>
          { r with queued := r.queued ++ [{ asker := .item origin id, packet := pk, block := block }] } }, false)
      | (s, .here slot) =>
        match (s.kvpPool p).bind fun x => x.recs.find? slot with
        | none => answer s { st := St.badParam, sub := 0x47 }
        | some r => answer s { data := toLe 8 r.length ++ (r.list.map (toLe 8)).flatten }
  | _ =>
    if op = 0x98 && fieldAt block 0 1 = 0xFE then
      -- the close reaches a GONE record (R354)
      match s.seqRec p (kpSeq pk) with
      | some (slot, r) =>
        if r.state == .gone then answer (s.freeSeq p slot) { aux := 1 } else answer s {}
      | none => answer s {}
    else
      match s.routeSeq p (kpSeq pk) block with
      | (s, .fail st sub) => answer s { st := st, sub := sub }
      | (s, .away m b) => (s.passKvp origin id m pk b, false)
      | (s, .queue slot) =>
        if op = 0x98 then answer s { st := St.badParam, sub := 0x48 }
        else
          (s.modKvpPool p fun x => { x with recs := x.recs.modify slot fun r =>
            { r with queued := r.queued ++ [{ asker := .item origin id, packet := pk, block := block }] } }, false)
      | (s, .here slot) =>
        match s.ownerRun wait p slot pk block (.item origin id) with
        | (s, true, _) => (s, true)
        | (s, false, some (o, others)) =>
          answer s { o with data := if op = 0x98 then (others.map (toLe 8)).flatten else o.data }
        | (s, false, none) => (s, false)

/-- The accesses queued at a record go on as the record now stands (R347, R357, R358). -/
def State.runQueued (s : State) : List KvpQueued → State
  | [] => s
  | q :: r =>
    let s := match q.asker with
      | .entry id _ => if pkOpcode q.packet = 0x94 then s else s.kvpRun id (pkOpcode q.packet)
      | .item origin id =>
        match s.kvpItem origin id q.packet q.block with
        | (s, false) => s
        | (s, true) =>
          let w : WorkItem :=
            { s.itemOf origin id with data := bvBytes q.packet 0 64 ++ q.block, cls := pkClass q.packet }
          { s with rack := { s.rack with held := s.rack.held ++ [(w, s.frame)] } }
    s.runQueued r

/-- A handover ends: who asked for it learns how, and the queued accesses go on (R357). -/
def State.endHandover (s : State) (p slot : Nat) (r : SeqRec) (st sub r0 owner : Nat) : State :=
  let s := s.setSeq p slot { r with handover := none, offers := 0, queued := [] }
  let ok := st = St.done
  let s := match r.handover with
    | some (.entry id item) => s.answerLocal id item st sub fun o =>
        if ok then { o with result0 := r0, result1 := owner, countDone := r.offers } else o
    | some (.item origin id) => s.answerWork (s.itemOf origin id) st sub
        (if ok then toLe 8 r0 ++ toLe 8 r.offers ++ toLe 8 0 ++ toLe 8 owner ++ toLe 8 0 else [])
    | none => s
  s.runQueued r.queued

end Sys2Proof.Machine
end

