-- ==== Sys2Proof/Machine/RplOps.lean ====
section
/-!
DEFINITION. Replay buffers: descriptors (R327 to R329), priorities and the sum-tree (R330 to R332), targets and descents
(R335, R336), packet fields and checks (R339, R340), and the work on shards that inserts, updates and samples share.
-/
namespace Sys2Proof.Machine

open Sys2Proof

/-! ### Descriptor and packet fields (R328, R339) -/

def rdBuffer (d : List Byte) : Nat := fieldAt d 0 1
/-- S and REC_LOG2. -/
def rdS (d : List Byte) : Nat := fieldAt d 2 1
def rdRec (d : List Byte) : Nat := fieldAt d 3 1
def rdTreeOff (d : List Byte) : Nat := fieldAt d 8 8
def rdRecOff (d : List Byte) : Nat := fieldAt d 16 8

def rpRsa (p : Packet) : Nat := pkField p 8 7
def rpInitMax (p : Packet) : Bool := bit p 120
def rpReturnData (p : Packet) : Bool := bit p 121
def rpCas (p : Packet) : Bool := bit p 122
def rpCount (p : Packet) : Nat := pkField p 16 4
def rpBuffer (p : Packet) : Nat := pkField p 20 2
def rpBatch (p : Packet) : Nat := pkField p 22 2 + 1
def rpPrio (p : Packet) : Nat := pkField p 24 7
def rpHostOut (p : Packet) : Nat := pkField p 48 8
def rpSeed (p : Packet) : Nat := pkField p 56 8

/-- The tree and the record array of shard `w`: address and bytes (R328). -/
def rplTree (d : List Byte) (w : Nat) : Nat × Nat := (windowRsa w + rdTreeOff d, 2 ^ (rdS d + 3))
def rplRecords (d : List Byte) (w : Nat) : Nat × Nat := (windowRsa w + rdRecOff d, 2 ^ (rdS d + rdRec d))

/-- Address and length of word `i` of a shard's tree (R330) and of the record of local slot `l` (R329). -/
def rplWordAt (d : List Byte) (w i : Nat) : Nat := (rplTree d w).1 + 4 * i
def rplRecordRange (d : List Byte) (w l : Nat) : Nat × Nat := ((rplRecords d w).1 + l * 2 ^ rdRec d, 2 ^ rdRec d)

/-- A descriptor is valid (R329). -/
def rplDescOk (buffer : Nat) (d : List Byte) : Bool :=
  let arr (o n : Nat) : Bool := o % n = 0 && decide (2 ^ 35 ≤ o) && decide (o + n ≤ 2 ^ 42)
  let t := 2 ^ (rdS d + 3)
  let r := 2 ^ (rdS d + rdRec d)
  fieldAt d 1 1 = 0 && fieldAt d 4 4 = 0 && (sub d 24 40).all (· = 0) && rdBuffer d = buffer &&
    decide (4 ≤ rdS d) && decide (rdS d ≤ 32) && decide (6 ≤ rdRec d) && decide (rdRec d ≤ 20) &&
    arr (rdTreeOff d) t && arr (rdRecOff d) r &&
    (decide (rdTreeOff d + t ≤ rdRecOff d) || decide (rdRecOff d + r ≤ rdTreeOff d))

def State.rplBuffer (s : State) (b : Nat) : Option RplBuffer := s.rpl.buffers.find? b
def State.setRplBuffer (s : State) (b : Nat) (x : RplBuffer) : State :=
  { s with rpl := { s.rpl with buffers := s.rpl.buffers.set b x } }

/-- C of R327. -/
def State.rplCapacity (s : State) (d : List Byte) : Nat := s.width * 2 ^ rdS d

/-- Shard and local slot of an insert number (R327); of a global slot the same, since it lies below C. -/
def State.rplPlace (s : State) (d : List Byte) (q : Nat) : Nat × Nat :=
  let g := q % s.rplCapacity d
  (g % s.width, g / s.width)

/-- The buffer's ranges (R339): tree and records in each window. -/
def State.rplWindows (s : State) (d : List Byte) : List (Nat × Nat) :=
  ((List.range s.width).map fun w => [rplTree d w, rplRecords d w]).flatten

/-- The lists an opcode reads (R339). -/
def rplLists (d : List Byte) (p : Packet) : List (Nat × Nat) :=
  match pkOpcode p with
  | 0x84 => (rpRsa p, rpCount p * 2 ^ rdRec d) :: (if rpInitMax p then [] else [(rpPrio p, 4 * rpCount p)])
  | 0x85 => if rpCount p = 0 then [] else [(rpRsa p, 16 * rpCount p)]
  | 0x86 => [(rpRsa p, 16 * rpCount p)]
  | _ => []

/-- The ranges of an opcode of this chapter with their accesses (R339). -/
def State.rplAccess (s : State) (e : Entry) : List (List Access × Nat × Nat) :=
  let p := e.packet
  let d := if pkOpcode p = 0x80 then e.block else ((s.rplBuffer (rpBuffer p)).map (·.desc)).getD []
  match pkOpcode p with
  | 0x80 => (s.rplWindows d).map fun r => ([.read], r.1, r.2)
  | 0x84 | 0x85 | 0x86 =>
    ((rplLists d p).map fun r => (([.read] : List Access), r.1, r.2)) ++
      (s.rplWindows d).map fun r => ([.read, .write], r.1, r.2)
  | _ => []

/-- Parameter check 9 of opcodes 0x80 to 0x8F (R340): STATUS and SUBCODE. -/
def State.rplParams (s : State) (e : Entry) : Option (Nat × Nat) :=
  let p := e.packet
  let op := pkOpcode p
  let b := s.rplBuffer (rpBuffer p)
  let d := if op = 0x80 then e.block else (b.map (·.desc)).getD []
  let n := rpCount p
  if (op = 0x80) != pkPblk p || (op = 0x80 && pkPbLen p != 64) then some (St.badParam, 0x40)
  else if op != 0x80 && b.isNone then some (St.badParam, 0x41)
  else if b.any fun x => x.comp != pkComp p then some (St.xltDenied, 0x63)
  else if op = 0x80 && !rplDescOk (rpBuffer p) d then some (St.badParam, 0x42)
  else if (op = 0x84 && (n < 1 || n > 65536 || n > s.rplCapacity d)) || (op = 0x86 && (n < 1 || n > 65536)) ||
      (op = 0x85 && (n > 65536 || rpBatch p > 4096)) then some (St.badParam, 0x43)
  else if op = 0x85 && rpHostOut p != 0 && e.src ≥ 128 then some (St.badParam, 0x46)
  else none

/-- Where the records of a sample's output start (R342). -/
def rplDataAt (draws : Nat) : Nat := ceilDiv (64 + 32 * draws) 64 * 64

/-- Bytes of the result slot of a sample (R342). -/
def State.rplResultBytes (s : State) (p : Packet) : Nat :=
  let r := ((s.rplBuffer (rpBuffer p)).map fun x => rdRec x.desc).getD 6
  if rpReturnData p then rplDataAt (rpBatch p) + rpBatch p * 2 ^ r else 64 + 32 * rpBatch p

/-! ### Priorities and the tree (R330, R331) -/

/-- The leaf value for a supplied priority, and whether it counts as PRIO_BAD (R331). -/
def prioOf (code : Nat) : Nat × Bool :=
  let v := fp32Of code
  if v.isNan then (0, true)
  else if v.isZero then (0, false)
  else if code ≥ 2 ^ 31 then (0, true)
  else if code > 0x67800000 then (0x67800000, true)
  else (code, false)

/-- Word `i` of a shard's tree. -/
def State.rplWord (s : State) (d : List Byte) (w i : Nat) : Nat := leNat (s.bytes (rplWordAt d w i) 4)

/-- SHARD_MAXP and the root of a shard. -/
def State.shardMaxp (s : State) (d : List Byte) (w : Nat) : Nat := s.rplWord d w 0
def State.shardRoot (s : State) (d : List Byte) (w : Nat) : Nat := s.rplWord d w 1

/-- The members that home the shards of an update list's entries (R338). -/
def State.updateHomes (s : State) (d : List Byte) (list : List Byte) (n : Nat) : List Nat :=
  (List.range n).foldl (fun l i =>
    let slot := fieldAt list (16 * i) 8
    if slot ≥ s.rplCapacity d then l else addNew l (s.serverOf (s.rplPlace d slot).1)) []

/-- Leaves of a shard that are not +0. -/
def State.shardLive (s : State) (d : List Byte) (w : Nat) : Nat :=
  (List.range (2 ^ rdS d)).countP fun l => s.rplWord d w (2 ^ rdS d + l) != 0

/-- The parents of a level's words, each once. -/
def parentsOf (l : List Nat) : List Nat := (l.map (· / 2)).foldl addNew []

/-- The internal words above given leaves, level by level from the leaves upward (R332 step 3). -/
def wordsAbove : Nat → List Nat → List Nat
  | 0, _ => []
  | n + 1, l => parentsOf l ++ wordsAbove n (parentsOf l)

/-- Queue key of a shard. -/
def shardKey (buffer shard : Nat) : Nat := 64 * buffer + shard
def State.shardQueue (s : State) (buffer shard : Nat) : List RplChange := s.rpl.queues.getD (shardKey buffer shard) []
def State.setShardQueue (s : State) (buffer shard : Nat) (l : List RplChange) : State :=
  let k := shardKey buffer shard
  { s with rpl := { s.rpl with queues := if l.isEmpty then s.rpl.queues.erase k else s.rpl.queues.set k l } }
def State.queueChange (s : State) (buffer shard : Nat) (c : RplChange) : State :=
  s.setShardQueue buffer shard (s.shardQueue buffer shard ++ [c])

/-- Shard `w` lies in a window that this member serves. -/
def State.shardHere (s : State) (w : Nat) : Bool := s.serverOf w = s.sys.member

/-- Count a replaced priority or a slot out of range (R331, R338) where it is found. -/
def State.countPrioBad (s : State) (replaced : Bool) : State :=
  let s := s.count F.RPL_COUNT_PRIO_BAD_COUNT
  if replaced then s.raise F.RPL_EVENT_PRIO_BAD else s

/-! ### Jobs -/

def State.modJob (s : State) (a : Asker) (f : RplJob → RplJob) : State :=
  { s with rpl := { s.rpl with jobs := mapIf (fun (j : RplJob) => j.asker = a) f s.rpl.jobs } }
def State.jobOf (s : State) (a : Asker) : Option RplJob := s.rpl.jobs.find? fun j => j.asker = a
/-- The job of an entry of this member. -/
def State.jobOfEntry (s : State) (id : Nat) : Option RplJob := s.rpl.jobs.find? fun j => match j.asker with
  | .entry i _ => i = id
  | .item .. => false

/-- Changes of an asker still queued at a shard of a buffer, or at any shard of it. -/
def State.changesAt (s : State) (a : Asker) (buffer shard : Nat) (clear : Bool) : Bool :=
  (s.shardQueue buffer shard).any fun c => c.asker = a && (c.clear || !clear)
def State.changesLeft (s : State) (a : Asker) (buffer : Nat) : Bool :=
  (List.range s.width).any fun w => s.changesAt a buffer w false

/-- Queue one priority for a leaf: R331 is applied when it is queued, except that a compare-and-swap entry is judged when the
pass writes it. -/
def State.queuePrio (s : State) (a : Asker) (buffer shard leaf code : Nat) (old : Option Nat) : State :=
  let (v, bad) := prioOf code
  let s := if bad then (s.modJob a fun j => { j with bad := j.bad + 1 }) else s
  let s := if bad && s.shardHere shard then s.countPrioBad true else s
  s.queueChange buffer shard { leaf := leaf, value := v, old := old, asker := a }

/-- Queue the entries of an update list that belong to the shards here (R338); those of a SLOT not below C are skipped, and counted
at the intake member. -/
def State.queueUpdates (s : State) (a : Asker) (buffer : Nat) (d : List Byte) (cas : Bool) (list : List Byte) (n : Nat)
    (once : Bool) : State :=
  (List.range n).foldl (fun (s : State) i =>
    let slot := fieldAt list (16 * i) 8
    if slot ≥ s.rplCapacity d then
      if once then (s.modJob a fun j => { j with bad := j.bad + 1 }).countPrioBad false else s
    else
      let (w, l) := s.rplPlace d slot
      if s.shardHere w then
        s.queuePrio a buffer w l (fieldAt list (16 * i + 8) 4) (if cas then some (fieldAt list (16 * i + 12) 4) else none)
      else s) s

/-! ### The pass (R332) -/

/-- The granule ranges a pass of some changes touches: word 0, the leaves, the words above and their children. -/
def passRanges (d : List Byte) (w : Nat) (cs : List RplChange) : List (Nat × Nat) :=
  let leaves := cs.foldl (fun l c => addNew l (2 ^ rdS d + c.leaf)) []
  let up := wordsAbove (rdS d) leaves
  let words := (0 :: leaves ++ up ++ leaves.map (fun i => i ^^^ 1) ++ up.map fun i => if i = 1 then 1 else i ^^^ 1)
  words.map fun i => (rplWordAt d w i, 4)

/-- Write one word of a tree. -/
def State.setRplWord (s : State) (d : List Byte) (w i v : Nat) : State := s.storeBytes (rplWordAt d w i) (toLe 4 v)

/-- Write one leaf change; the leaf's index when it was written (R332 step 2, R338). -/
def State.applyChange' (s : State) (d : List Byte) (w : Nat) (c : RplChange) : State × Option Nat :=
  let i := 2 ^ rdS d + c.leaf
  if c.old.any fun o => s.rplWord d w i != o then
    let s := if s.shardHere w then s.count F.RPL_COUNT_SKIPPED_COUNT else s
    (s.modJob c.asker fun j => { j with skipped := j.skipped + 1 }, none)
  else
    let s := s.setRplWord d w i c.value
    (if c.clear then s else s.modJob c.asker fun j => { j with applied := j.applied + 1 }, some i)

/-- A pass over some changes (R332): the leaves in arrival order, then each affected word once, then SHARD_MAXP. -/
def State.runPass (s : State) (d : List Byte) (w : Nat) (cs : List RplChange) : State :=
  let (s, written, top) := cs.foldl (fun (x : State × List Nat × Nat) c =>
    match x.1.applyChange' d w c with
    | (s, some i) => (s, addNew x.2.1 i, max x.2.2 c.value)
    | (s, none) => (s, x.2)) (s, [], 0)
  let s := (wordsAbove (rdS d) written).foldl (fun (s : State) i =>
    s.setRplWord d w i (faddCode (s.rplWord d w (2 * i)) (s.rplWord d w (2 * i + 1)))) s
  let s := if top > s.shardMaxp d w then s.setRplWord d w 0 top else s
  if s.shardHere w then s.count F.RPL_COUNT_PASSES_COUNT else s

/-! ### Targets and descents (R335, R336) -/

/-- c[0] to c[n] of R335. -/
def runningTotals (tot : List Nat) : List Nat :=
  tot.foldl (fun (l : List Nat) t => l ++ [faddCode (l.getLastD 0) t]) [0]

/-- targets of R335: the shard and local target of each draw. -/
def targetsOf (tot : List Nat) (batch seed : Nat) : List (Nat × Nat) :=
  let c := runningTotals tot
  let p := fp32Of (c.getLastD 0)
  let live := (List.range tot.length).filter fun i => Val.lt true .zero (fp32Of (tot.getD i 0))
  (List.range batch).map fun i =>
    let u := mix64 ((seed + i * 0x9E3779B97F4A7C15) % 2 ^ 64) / 2 ^ 40
    let t := toFp32 (((Val.fin false (i * 2 ^ 24 + u) (2 ^ 24)).mul p).div (Val.ofInt batch))
    let w := (live.find? fun i => Val.lt true t (fp32Of (c.getD (i + 1) 0))).getD (live.getLastD 0)
    (w, codeOf (toFp32 (t.sub (fp32Of (c.getD w 0)))))

/-- The words a descent meets, the leaf it ends at. -/
def State.descendPath (s : State) (d : List Byte) (w : Nat) : Nat → Nat → Val → Nat × List Nat
  | 0, i, _ => (i, [i])
  | n + 1, i, t =>
    let a := fp32Of (s.rplWord d w (2 * i))
    let (j, t) := if Val.lt true t a then (2 * i, t) else (2 * i + 1, toFp32 (t.sub a))
    let (leaf, l) := s.descendPath d w n j t
    (leaf, i :: 2 * i :: l)

/-- The nearest slot below with a leaf that is not +0, or else the nearest above (R336). -/
def State.nearestLive (s : State) (d : List Byte) (w l : Nat) : Option Nat :=
  let live (x : Nat) : Bool := s.rplWord d w (2 ^ rdS d + x) != 0
  match (List.range l).reverse.find? live with
  | some x => some x
  | none => ((List.range (2 ^ rdS d - l - 1)).map fun k => l + 1 + k).find? live

/-- descend of R336: the slot, none when the root is +0; and the words read on the way. -/
def State.descend (s : State) (d : List Byte) (w target : Nat) : Option Nat × List Nat :=
  let root := s.shardRoot d w
  if root = 0 then (none, [1])
  else
    let t := if Val.lt true (fp32Of target) (fp32Of root) then target else root - 1
    let (i, path) := s.descendPath d w (rdS d) 1 (fp32Of t)
    let l := i - 2 ^ rdS d
    if s.rplWord d w i != 0 then (some l, path)
    else match s.nearestLive d w l with
      | some x => (some x, path ++ [2 ^ rdS d + x])
      | none => (none, path)

/-! ### Inserting (R333) -/

/-- The shards an insert reaches. -/
def State.insertShards (s : State) (d : List Byte) (q n : Nat) : List Nat :=
  (List.range (min n s.width)).map fun i => (s.rplPlace d (q + i)).1

/-- The anchor of a buffer (R326). -/
def State.rplAnchor (s : State) (b : Nat) : Nat := s.serverOf (b % s.width)

/-- The anchor grants a reservation: q + COUNT − C is at most the lowest insert number in flight (R333 step 1). -/
def State.mayReserve (s : State) (buffer : Nat) (x : RplBuffer) (count : Nat) : Bool :=
  (s.rpl.flights.filter fun f => f.buffer = buffer).all fun f =>
    decide (x.head + count ≤ s.rplCapacity x.desc + f.first)

/-- Reserve at the anchor: HEAD moves on, the insert is in flight; its first insert number. -/
def State.reserve (s : State) (f : RplFlight) (x : RplBuffer) : State × Nat :=
  let s := s.setRplBuffer f.buffer { x with head := (x.head + f.count) % 2 ^ 64 }
  ({ s with rpl := { s.rpl with flights := s.rpl.flights ++ [{ f with first := x.head }] } }, x.head)

/-- Step 2 of R333: queue the clearing of an insert's slots at the shards here. -/
def State.clearSlots (s : State) (a : Asker) (buffer : Nat) (d : List Byte) (q n : Nat) : State :=
  (List.range n).foldl (fun (s : State) i =>
    let (w, l) := s.rplPlace d (q + i)
    if s.shardHere w then s.queueChange buffer w { leaf := l, clear := true, asker := a } else s) s

/-- HEAD as last known at a member that is not the anchor (R341). -/
def State.noteHead (s : State) (buffer head : Nat) : State :=
  match s.rplBuffer buffer with
  | none => s
  | some x => s.setRplBuffer buffer { x with head := max x.head head }

/-- A reservation is granted to an asker: an insert of this member takes its numbers and begins step 2 at every shard it reaches; one
of another member is answered with its first insert number. -/
def State.insertGranted (s : State) (a : Asker) (buffer : Nat) (d : List Byte) (q n : Nat) : State :=
  match a with
  | .item .. => s
  | .entry id item =>
    let s := s.modEntry id fun e => { e with out := { e.out with result0 := q } }
    if (s.entry? id).any Entry.part then s.answerLocal id item St.done 0 fun o => o
    else
      let far := ((s.insertShards d q n).foldl (fun l w => addNew l (s.serverOf w)) []).filter fun m => m != s.sys.member
      let s := ((s.noteHead buffer ((q + n) % 2 ^ 64)).modJob a fun j => { j with first := some q }).clearSlots a buffer d q n
      far.foldl (fun (s : State) m => s.sendStage id m (2 + 8 * q) 1) s

/-- Ask the anchor, which is this member, for a reservation: in order of arrival (R333 step 1). -/
def State.askReserve (s : State) (f : RplFlight) (x : RplBuffer) : State :=
  if (s.rpl.waits.any fun g => g.buffer = f.buffer) || !s.mayReserve f.buffer x f.count then
    ({ s with rpl := { s.rpl with waits := s.rpl.waits ++ [f] } }).raise F.RPL_EVENT_INSERT_WAIT
  else
    let (s, q) := s.reserve f x
    s.insertGranted f.asker f.buffer x.desc q f.count

/-- The records of an insert that lie in a shard: index in the insert, local slot. -/
def State.insertPart (s : State) (d : List Byte) (q n w : Nat) : List (Nat × Nat) :=
  (List.range n).filterMap fun i => if (s.rplPlace d (q + i)).1 = w then some (i, (s.rplPlace d (q + i)).2) else none

/-- Copy the records of an insert into one shard's slots and queue their priorities (R333 steps 4 and 5). -/
def State.copyShard (s : State) (j : RplJob) (d : List Byte) (q w : Nat) : State :=
  let p := j.packet
  let b := rpBuffer p
  let n := 2 ^ rdRec d
  let part := s.insertPart d q (rpCount p) w
  let src := part.map fun x => (rpRsa p + x.1 * n, n)
  let dst := part.map fun x => rplRecordRange d w x.2
  let wait := match j.asker with
    | .entry id _ => id
    | .item .. => 0
  match s.prepareRanges wait src dst with
  | (s, true) => s
  | (s, false) =>
    let s := s.modJob j.asker fun j => { j with copied := j.copied ++ [w] }
    match s.readRanges src with
    | (s, some f) => s.modJob j.asker fun j => { j with fail := some (j.fail.getD f) }
    | (s, none) =>
      let (s, bad) := part.foldl (fun (x : State × Option (Nat × Nat)) y =>
        let (s, bad) := x
        let at' := rplRecordRange d w y.2
        let s := (s.accessPages true (pagesOf at'.1 at'.2)).1
        match s.writeStore at'.1 (s.bytes (rpRsa p + y.1 * n) n) with
        | (s, none) => (s, bad)
        | (s, some f) => (s, some (bad.getD f))) (s, none)
      match bad with
      | some f => s.modJob j.asker fun j => { j with fail := some (j.fail.getD f) }
      | none =>
        let top := s.shardMaxp d w
        part.foldl (fun (s : State) y =>
          let v := if rpInitMax p then (if top = 0 then 0x3F800000 else top) else leNat (s.bytes (rpPrio p + 4 * y.1) 4)
          s.queuePrio j.asker b w y.2 v none) s

/-! ### The ends of jobs -/

/-- A job is over: what it yields here, and its place among the inserts in flight. -/
def State.endJob (s : State) (j : RplJob) : State :=
  let p := j.packet
  let (st, sub) := j.fail.getD (St.done, 0)
  match j.asker with
  | .item .. => s
  | .entry id item =>
    let s := s.endFlight id j
    let s := { s with rpl := { s.rpl with
      jobs := s.rpl.jobs.filter fun x => x.asker != j.asker
      flights := s.rpl.flights.filter fun f => !(f.asker = j.asker && f.origin = s.sys.member) } }
    s.answerLocal id item st sub fun o =>
      if pkOpcode p = 0x84 then { o with countDone := o.countDone + j.applied, countAux := o.countAux + j.bad }
      else { o with result0 := o.result0 + j.applied, result1 := o.result1 + j.skipped, countDone := o.countDone + j.applied
                    countAux := o.countAux + j.bad }

/-- The output of a sample (R342). -/
def rplOutput (d : List Byte) (width : Nat) (j : RplJob) : List Byte :=
  let hit := j.draws.filter fun x => !x.lost
  let data := rpReturnData j.packet
  let at' := rplDataAt hit.length
  let entries := (hit.map fun x => toLe 8 (x.slot * width + x.shard) ++ toLe 4 x.prio ++ toLe 1 x.shard ++ toLe 19 0).flatten
  toLe 4 hit.length ++ toLe 4 (j.draws.length - hit.length) ++ toLe 4 (j.total.getD 0) ++ toLe 4 (2 ^ rdRec d) ++
    toLe 8 j.live ++ toLe 4 j.applied ++ toLe 4 j.skipped ++ toLe 4 j.bad ++ toLe 4 (if data then at' else 0) ++
    toLe 24 0 ++ entries ++
    (if data then List.replicate (at' - 64 - 32 * hit.length) 0 ++ (hit.map (·.record)).flatten else [])

/-- A draw that another member has made, as its answer tells: which draw, its slot and leaf value, the record. -/
def RplDraw.words (draw : Nat) (x : RplDraw) : List Nat :=
  [draw, b2n x.lost, x.slot, x.prio] ++ (List.range (x.record.length / 8)).map fun i => fieldAt x.record (8 * i) 8

/-- The draws of which the answers of other members tell, each with `n` words of its record unless it was lost. -/
def drawsOf (n : Nat) : Nat → List Nat → List (Nat × RplDraw)
  | 0, _ => []
  | fuel + 1, l =>
    if l.length < 4 then []
    else
      let lost := l.getD 1 0 != 0
      let k := if lost then 0 else n
      (l.getD 0 0,
        { shard := 0, target := 0, done := true, lost := lost, slot := l.getD 2 0, prio := l.getD 3 0
          record := (((l.drop 4).take k).map (toLe 8)).flatten }) :: drawsOf n fuel (l.drop (4 + k))

/-- The draws of a sample with those that other members made. -/
def RplJob.allDraws (j : RplJob) (d : List Byte) (reply : List Nat) : List RplDraw :=
  let far := drawsOf (if rpReturnData j.packet then 2 ^ rdRec d / 8 else 0) j.draws.length reply
  (List.range j.draws.length).map fun i =>
    let x := j.draws.getD i { shard := 0, target := 0 }
    match far.find? fun y => y.1 = i with
    | some y => { y.2 with shard := x.shard, target := x.target }
    | none => x

/-- A sample is over (R341, R342); a draw made for another member is returned to it. -/
def State.endSample (s : State) (j : RplJob) (d : List Byte) : State :=
  match j.asker with
  | .item .. => s
  | .entry id item =>
    let p := j.packet
    let e := (s.entry? id).getD { src := 0 }
    let s := { s with rpl := { s.rpl with jobs := s.rpl.jobs.filter fun x => x.asker != j.asker } }
    if e.part then
      let (st, sub) := j.fail.getD (St.done, 0)
      let s := s.modEntry id fun e => { e with reply := (j.draws.map (RplDraw.words (e.version / 8 / 2 ^ 38))).flatten }
      s.answerLocal id item st sub fun o => o
    else
      let j := { j with draws := j.allDraws d e.reply }
      let hit := j.draws.countP fun x => !x.lost
      let failed := j.fail.isSome || (e.out.status != St.done && e.out.status != St.donePartial)
      let (st, sub) := j.fail.getD (if j.total = some 0 || hit < j.draws.length then St.donePartial else St.done, 0)
      let s := if failed then s else s.sendOutput id (rpHostOut p) (rplOutput d s.width j)
      s.answerLocal id item st sub fun o =>
        { o with result0 := hit + 2 ^ 32 * j.total.getD 0, result1 := 0, countDone := hit, countAux := 0 }

/-- The draw that another member asks of a shard here: shard, target, which draw (R336). -/
def drawAsked (version : Nat) : Nat × Nat := (version / 8 % 64, version / 8 / 64 % 2 ^ 32)
def drawStage (x : RplDraw) (draw : Nat) : Nat := 5 + 8 * (x.shard + 64 * (x.target + 2 ^ 32 * draw))

/-- Roots and live counts that other members returned: shard, root, live leaves. -/
def totalsOf : List Nat → List (Nat × Nat × Nat)
  | w :: root :: live :: r => (w, root, live) :: totalsOf r
  | _ => []

/-- The shards here with their roots and live counts (R335 step 2). -/
def State.totalsHere (s : State) (d : List Byte) : List (Nat × Nat × Nat) :=
  s.ownSlots.map fun w => (w, s.shardRoot d w, s.shardLive d w)

/-- Step 3 of R335: every root and live count is known; the draws go to their shards' homes. -/
def State.startDraws (s : State) (j : RplJob) (d : List Byte) (all : List (Nat × Nat × Nat)) : State :=
  match j.asker with
  | .item .. => s
  | .entry id _ =>
    let at' (w : Nat) : Nat × Nat := ((all.find? fun x => x.1 = w).map (·.2)).getD (0, 0)
    let tot := (List.range s.width).map fun w => (at' w).1
    let live := ((List.range s.width).map fun w => (at' w).2).sum
    let total := (runningTotals tot).getLastD 0
    let out := ((s.entry? id).map (·.out)).getD {}
    let j := { j with
      total := some total, live := live, applied := j.applied + out.result0, skipped := j.skipped + out.result1
      bad := j.bad + out.countAux
      draws := if total = 0 then []
        else (targetsOf tot (rpBatch j.packet) (rpSeed j.packet)).map fun x => { shard := x.1, target := x.2 } }
    let s := (s.modJob j.asker fun _ => j).modEntry id fun e => { e with reply := [] }
    if total = 0 then s.endSample j d
    else (List.range j.draws.length).foldl (fun (s : State) i =>
      let x := j.draws.getD i { shard := 0, target := 0 }
      if s.shardHere x.shard then s else s.sendStage id (s.serverOf x.shard) (drawStage x i) 0) s

/-- Steps 2 and 3 of R335: every root and live count is read once, those of other members by asking them. -/
def State.readTotals (s : State) (j : RplJob) (d : List Byte) : State :=
  match j.asker with
  | .item .. => s
  | .entry id _ =>
    match s.entry? id with
    | none => s
    | some e =>
      let far := ((List.range s.width).foldl (fun l w => addNew l (s.serverOf w)) []).filter fun m => m != s.sys.member
      if e.stage = 1 then s.startDraws j d (s.totalsHere d ++ totalsOf e.reply)
      else
        let roots := s.ownSlots.map fun w => (rplWordAt d w 1, 4)
        match s.prepareRanges id roots [] with
        | (s, true) => s
        | (s, false) =>
          match s.readRanges roots with
          | (s, some f) => s.endSample { j with fail := some (j.fail.getD f) } d
          | (s, none) =>
            if far.isEmpty then s.startDraws j d (s.totalsHere d)
            else far.foldl (fun (s : State) m => s.sendStage id m 4 0) (s.modEntry id fun e => { e with stage := 1 })

/-- No other member owes a command an answer. -/
def State.noneFar (s : State) (a : Asker) : Bool :=
  match a with
  | .entry id _ => (s.entry? id).all fun e => e.waitsOn s.sys.member
  | .item .. => true

/-- A sample goes on: to the totals once its updates have been applied everywhere, to its end once every draw has been made. -/
def State.advanceSample (s : State) (j : RplJob) (d : List Byte) : State :=
  if s.changesLeft j.asker (rpBuffer j.packet) || !s.noneFar j.asker then s
  else if j.total.isNone then s.readTotals j d
  else if j.draws.all (fun x => x.done || !s.shardHere x.shard) then s.endSample j d else s

/-- Take a job as far as it goes: an insert copies where its slots are cleared and ends once every priority has been applied, here and
at every other shard's home; an update ends when its last change has been applied; a sample goes on to its targets (R333, R335, R338). -/
def State.advanceJob (s : State) (a : Asker) : State :=
  match s.jobOf a with
  | none => s
  | some j =>
    let b := rpBuffer j.packet
    match s.rplBuffer b with
    | none => s
    | some x =>
      let d := x.desc
      match pkOpcode j.packet with
      | 0x84 =>
        match j.first with
        | none => s
        | some q =>
          let mine := (s.insertShards d q (rpCount j.packet)).filter s.shardHere
          let due := mine.filter fun w => !j.copied.contains w && !s.changesAt a b w true
          let s := due.foldl (fun (s : State) w => s.copyShard j d q w) s
          match s.jobOf a with
          | none => s
          | some j => if mine.all (fun w => j.copied.contains w) && !s.changesLeft a b && s.noneFar a then s.endJob j else s
      | 0x85 =>
        if j.updateOnly then (if s.changesLeft a b then s else s.endJob j) else s.advanceSample j d
      | _ => if s.changesLeft a b then s else s.endJob j

end Sys2Proof.Machine
end

