-- ==== Sys2Proof/Machine/Tier.lean ====
section
/-!
DEFINITION. The meanings of the tier commands (spec/05_store_tiers.md).
-/
namespace Sys2Proof.Machine

open Sys2Proof

/-- TIER_CTRL.LOCK (R180): salt and width are fixed until power-on reset. -/
def execTierCtrlLock (src : Nat) (s : State) : Res :=
  if !s.mayAdminister src then .next s else .next (s.setFld F.TIER_STATUS_LOCKED 1)

/-- Frames of its HOME tier that PLACE's record needs at this member: those of each slab whose HOME changes, and what a change of
protection takes more (R36, R203). -/
def State.placeNeeds (s : State) (p : Packet) (new : Slab) : Nat :=
  ((tpSlabs p).map fun n =>
    let old := s.store.slabs.getD n {}
    if old.home != new.home then s.framesOf n new
    else if s.parityRecord n old = s.parityRecord n new then 0
    else s.framesOf n new - s.framesOf n old).sum

/-- Pages that stand above a lowered CEILING (R203). -/
def State.tooHigh (s : State) (n : Nat) (new : Slab) : List Nat :=
  if new.ceiling.code > (s.store.slabs.getD n {}).ceiling.code then
    (s.homedPages n).filter fun pg => decide ((s.standsIn pg).code < new.ceiling.code)
  else []

/-- A page takes the new home tier of its slab (R203). -/
def State.rehomePage (s : State) (new : Slab) (pg : Nat) : State :=
  let s := s.lowerPage pg
  s.setPage pg { s.page pg with programmed := new.home == .flash, buffered := false, homeCount := 0, homeAge := 0 }

/-- The free home frames of the tiers after a slab's frames pass from one record to another. -/
def State.moveFrames (s : State) (n : Nat) (old new : Slab) : State :=
  if old.home == new.home && s.parityRecord n old = s.parityRecord n new then s
  else
    let back := s.store.free.set old.home.code (s.store.free.getD old.home.code 0 + s.framesOf n old)
    { s with store := { s.store with free := back.set new.home.code (back.getD new.home.code 0 - s.framesOf n new) } }

/-- Queued raises and moves under way that a lowered CEILING no longer allows are given up (R186, R203). -/
def State.dropAbove (s : State) (n : Nat) (new : Slab) : State :=
  let keep (pg : Nat) (t : Tier) : Bool := pg / 262144 != n || t.within new.ceiling
  { s with store := { s.store with
    raises := s.store.raises.filter fun r => keep r.1 r.2
    moves := s.store.moves.filter fun m => m.home || keep m.page m.target } }

/-- Pages whose pool frames or write-buffer contents the other regime does not allow (R186, R187): they go home when MODE
changes. -/
def State.modeMoved (s : State) (n : Nat) (new : Slab) : List Nat :=
  if (s.store.slabs.getD n {}).copyMode = new.copyMode then []
  else (s.homedPages n).filter fun pg => (s.page pg).hbm.isSome || (s.page pg).ddr.isSome || (s.page pg).buffered

/-- A page goes home in the regime that its slab leaves. -/
def State.leaveMode (s : State) (pg : Nat) : State :=
  (if (s.page pg).buffered then s.programPage pg else s).lowerPage pg

/-- Apply PLACE's record to one slab: re-home its pages when HOME changes, and lower those that stand above a lowered
CEILING (R203) or away from home when MODE changes. The pages moved. -/
def State.placeSlab (s : State) (n : Nat) (new : Slab) : State × Nat :=
  let old := s.store.slabs.getD n {}
  let pages := if old.home != new.home then s.homedPages n else []
  let high := s.tooHigh n new
  let mode := s.modeMoved n new
  let moved := if old.home != new.home then pages else mode.foldl addNew high
  let s := mode.foldl (fun (s : State) pg => s.leaveMode pg) s
  let s := high.foldl (fun (s : State) pg => s.lowerPage pg) s
  let s := pages.foldl (fun (s : State) pg => s.rehomePage new pg) s
  let s := (s.moveFrames n old new).dropAbove n new
  (s.setSlab n { new with comp := old.comp, withdrawing := old.withdrawing,
                          sealed := old.sealed && old.copyMode && new.copyMode }, moved.length)

/-- Apply PLACE at this member and send it to the others (R203, second phase). -/
def State.applyPlace (s : State) (entry : Nat) (e : Entry) (x : Slab) : State :=
  let (s, moved) := (tpSlabs e.packet).foldl (fun (r : State × Nat) n =>
    let (s, k) := r.1.placeSlab n x
    (s, r.2 + k)) (s, 0)
  s.dispatch entry s.everyMember 32 fun o =>
    { o with result0 := moved, countDone := e.share (tpCount e.packet) }

/-- A core holds a granule of one of the slabs, whose pages then stay where they stand (R231). -/
def State.slabsHeld (s : State) (slabs : List Nat) : Bool :=
  s.core.cores.cells.any fun c => c.2.run.any fun r => r.hold.any fun h => h.got.any fun g => slabs.contains (g / 8388608)

/-- PLACE (R203): the frames are reserved at every member, or it ends without effect; then the record is applied. Of commands on
overlapping slabs an earlier one finishes first. -/
def execPlace (entry : Nat) (s : State) : Res :=
  match s.runnableStore entry 0x30 with
  | none => .next s
  | some e =>
    match tpRecord e.packet with
    | none => .next s
    | some x =>
      if s.placeWaits entry e || s.slabsHeld (tpSlabs e.packet) then .next s
      else if e.part then
        let origin := (e.proxy.map (·.origin)).getD 0
        .next ((s.unreserve origin e.packet).applyPlace entry e x)
      else if e.stage = 0 then
        if s.placeNeeds e.packet x > s.store.free.getD x.home.code 0 then .next (s.failWith entry St.noSpace 0x40)
        else if s.everyMember.length ≤ 1 then .next (s.applyPlace entry e x)
        else .next (s.reserveAll entry e x.home (s.placeNeeds e.packet x))
      else if !e.items.isEmpty then .next s
      else if e.out.status != St.done then
        .next ((s.releaseAll e.packet).finish entry fun o => { o with absent := 0xFF })
      else .next ((s.unreserve s.sys.member e.packet).applyPlace entry e x)

/-- SEAL (R204): it completes once the writers in flight have completed and every write-buffer page is programmed, at every
member. -/
def execSeal (entry : Nat) (s : State) : Res :=
  match s.runnableStore entry 0x31 with
  | none => .next s
  | some e =>
    let slabs := tpSlabs e.packet
    let fresh := slabs.any fun n => !(s.store.slabs.getD n {}).sealed
    let s := if fresh then s.beginSeal entry e.packet else s
    let waits := ((s.entry? entry).map (·.waitsFor)).getD []
    if (waits.any fun id => (s.entry? id).isSome) || s.sealRaws slabs || s.placeWaits entry e then .next s
    else
      let pages := (s.store.pages.cells.filter fun c => c.2.buffered && slabs.contains (c.1 / 262144) &&
        s.isHome (c.1 * 4096)).map (·.1)
      let s := pages.foldl (fun (s : State) pg => s.programPage pg) s
      .next (s.dispatch entry s.everyMember 32 fun o =>
        { o with result0 := pages.length, countDone := e.share slabs.length })

/-- Counts of RAISE: not raised, pinned, raised, already there. -/
structure RaiseCount where
  failed : Nat := 0
  pinned : Nat := 0
  raised : Nat := 0
  there : Nat := 0
  deriving DecidableEq, Repr

/-- RAISE of one page (R205). -/
def State.raiseOne (s : State) (pg : Nat) (t : Tier) (pin : Bool) (k : RaiseCount) : State × RaiseCount :=
  let there := (s.standsIn pg).atLeast t
  match s.raisePage pg t with
  | (s, false) =>
    (((s.count F.TIER_CHAIR_DROPS).count F.TIER_FALLBACK_COUNT).raise F.TIER_EVENT_CHAIR_DROP, { k with failed := k.failed + 1 })
  | (s, true) =>
    let k := if there then { k with there := k.there + 1 } else { k with raised := k.raised + 1 }
    if pin then
      let (s, ok) := s.pinPage pg
      (s, if ok then { k with pinned := k.pinned + 1 } else k)
    else (s, k)

/-- RAISE (R202, R205): it waits while a core holds a granule of a page (R231). -/
def execRaise (entry : Nat) (s : State) : Res :=
  match s.runnableStore entry 0x32 with
  | none => .next s
  | some e =>
    let t : Tier := if tpHome e.packet = 0 then .hbm else .ddr
    let pages := tpPages e.packet
    if pages.any s.pageHeld then .next s else
    let (s, k) := (pages.filter fun pg => s.isHome (pg * 4096)).foldl (fun (r : State × RaiseCount) pg =>
      r.1.raiseOne pg t (tpRaisePin e.packet) r.2) (s, {})
    .next (s.dispatch entry (s.homesOf (pages.map (· * 4096))) 32 fun o =>
      { o with status := if k.failed = 0 then o.status else St.donePartial, result0 := k.failed, result1 := k.pinned,
               countDone := k.raised, countAux := k.there, fellBack := o.fellBack || k.failed != 0 })

/-- LOWER (R202, R205): MOVE pages go home, copies are dropped; pinned pages stay unless UNPIN. It waits while a core
holds a granule of a page (R231). -/
def execLower (entry : Nat) (s : State) : Res :=
  match s.runnableStore entry 0x33 with
  | none => .next s
  | some e =>
    let pages := tpPages e.packet
    if pages.any s.pageHeld then .next s else
    let (s, done, left) := (pages.filter fun pg => s.isHome (pg * 4096)).foldl (fun (r : State × Nat × Nat) pg =>
      let (s, done, left) := r
      let p := s.page pg
      let pinned := (p.hbm.any (·.pin)) || (p.ddr.any (·.pin))
      if p.hbm.isNone && p.ddr.isNone then r
      else if pinned && !tpUnpin e.packet then (s, done, left + 1)
      else (s.lowerPage pg, done + 1, left)) (s, 0, 0)
    .next (s.dispatch entry (s.homesOf (pages.map (· * 4096))) 32 fun o => { o with countDone := done, countAux := left })

/-- RESIDENCY (R202, R205): it changes nothing but its own completion. -/
def execResidency (entry : Nat) (s : State) : Res :=
  match s.runnableStore entry 0x34 with
  | none => .next s
  | some e =>
    let all := tpPages e.packet
    let pages := all.filter fun pg => s.isHome (pg * 4096)
    let n (t : Tier) := (pages.filter fun pg => s.standsIn pg == t).length
    let pinned := (pages.filter fun pg => ((s.page pg).hbm.any (·.pin)) || ((s.page pg).ddr.any (·.pin))).length
    .next (s.dispatch entry (s.homesOf (all.map (· * 4096))) 0 fun o =>
      { o with result0 := n .hbm + 2 ^ 32 * n .ddr, result1 := pinned, countDone := pages.length, countAux := n .flash })

/-! ### The Chairlift (R196 to R198, R213) -/

/-- Pages TIER_CHAIR_CFG.RATE lets start in a frame. -/
def State.chairRate (s : State) : Nat := max 1 (s.fld F.TIER_CHAIR_CFG_RATE)

/-- The durable page with the oldest live entry, while the journal is more than half full (R213). -/
def State.writeBackDue (s : State) : Option Nat :=
  if s.journalUsed * 2 > s.journalSize then s.store.journal.head?.map fun j => j.rsa / 4096 else none

/-- A write-buffer page may be programmed (R189): a page under parity once its stripe is complete, as far as this member homes it. -/
def State.stripeComplete (s : State) (pg : Nat) : Bool :=
  !s.parityRecord (pg / 262144) (s.slab (pg * 4096)) ||
    ((s.homedPages (pg / 262144)).filter fun q => s.stripe q = s.stripe pg).all fun q => (s.page q).buffered || (s.page q).programmed

/-- A Chairlift move starts (R196): `home` 0 takes the oldest queued raise, 1 programs a write-buffer page or writes a
durable page back. -/
def execChairliftMoveStart (home : Bool) (page : Nat) (s : State) : Res :=
  if s.sys.bracing || s.store.movesStarted ≥ s.chairRate || s.store.moves.length ≥ 1024 then .next s
  else
    let add (s : State) (m : Move) : State :=
      { s with store := { s.store with moves := s.store.moves ++ [m], movesStarted := s.store.movesStarted + 1 } }
    if home then
      if ((s.page page).buffered && s.stripeComplete page) || s.writeBackDue = some page then .next (add s { page := page, target := .flash, home := true })
      else .next s
    else match s.store.raises with
      | [] => .next s
      | (pg, t) :: rest =>
        let s := { s with store := { s.store with raises := rest } }
        .next (if (s.standsIn pg).atLeast t || !t.within (s.slab (pg * 4096)).ceiling then s
          else add s { page := pg, target := t, home := false })

/-- A heat epoch of EPOCH_FRAMES frames ends (R191): every record ages by one epoch. -/
def execHeatEpochEnd (s : State) : Res :=
  if s.frame < s.store.epochStart + s.fld F.TIER_HEAT_CFG_EPOCH_FRAMES then .next s else
  let old (f : FrameRec) : FrameRec := { f with age := min 31 (f.age + 1) }
  .next { s with store := { s.store with
    pages := s.store.pages.mapVals fun _ p =>
      { p with hbm := p.hbm.map old, ddr := p.ddr.map old, homeAge := min 31 (p.homeAge + 1) }
    epochStart := s.frame } }

/-- A training instance is sampled (R207): temperature in units of 0.125 °C, voltage in mV; `osc` says that an interval
oscillator has moved by more than half the margin. -/
def execDriftSample (kind unit t v : Nat) (osc : Bool) (s : State) : Res :=
  if unit ≥ trainInstances kind then .next s
  else
    let x := s.training kind unit
    let s1 := s.setTraining kind unit { x with tNow := t, vNow := v }
    let due := driftReached t x.t0 v x.v0 (s.fld F.TIER_DRIFT_CFG_DRIFT_T) (s.fld F.TIER_DRIFT_CFG_DRIFT_MV) ||
      s.frame - x.lastFrame ≥ s.fld F.TIER_DRIFT_CFG_MAX_UNITS * 65536 || osc
    .next (if due then s1.retrain kind unit else s1)

/-- Set an units double refresh bit, with the event when it changes (R210). -/
def State.setRefresh (s : State) (i : Nat) (on : Bool) : State :=
  let w := s.regAt 0 F.TIER_REFRESH_2X_HBM.off
  if bit w i = on then s
  else (s.setRegAt 0 F.TIER_REFRESH_2X_HBM.off (setBf w i i (b2n on))).raise F.TIER_EVENT_REFRESH_RATE

/-- A device temperature is read (R210): `kind` 0 an HBM3E stack, 1 a DDR5 channel with what its MR4 calls for, 2 an
ONFI channel. -/
def execDeviceTempRead (kind unit temp : Nat) (twice : Bool) (s : State) : Res :=
  if unit ≥ (if kind = 0 then 4 else if kind = 1 then 16 else if kind = 2 then 32 else 0) then .next s else
  let s := { s with store := { s.store with devTemp := s.store.devTemp.set (64 * kind + unit) temp } }
  let s := if temp ≥ 95 then s.raise F.TIER_EVENT_DEV_HOT else s
  match kind with
  | 0 =>
    if temp > 85 then
      .next ({ s with store := { s.store with coolSince := s.store.coolSince.erase unit } }.setRefresh unit true)
    else if temp > 80 then .next { s with store := { s.store with coolSince := s.store.coolSince.erase unit } }
    else
      let since := s.store.coolSince.getD unit s.frame
      let s := { s with store := { s.store with coolSince := s.store.coolSince.set unit since } }
      .next (if s.frame - since ≥ 1000 then s.setRefresh unit false else s)
  | 1 => .next (s.setRefresh (4 + unit) twice)
  | _ => .next s

/-- The brace-area half not in use is erased (R214): a half is in use while a record stands in it that no erased half could take
the place of. -/
def execBraceAreaErased (half : Nat) (s : State) : Res :=
  let h := s.store.braceHalves.getD (half % 2) {}
  let other := s.store.braceHalves.getD ((half + 1) % 2) {}
  if h.erased || (h.header && (!other.header || decide (other.frame < h.frame))) then .next s
  else
    let x : BraceHalf := { erased := true }
    let s := { s with store := { s.store with braceHalves := s.store.braceHalves.set (half % 2) x } }
    .next ((s.setFld F.TIER_STATUS_BRACE_READY 1).raise F.TIER_EVENT_BRACE_READY)

end Sys2Proof.Machine
end

