-- ==== Sys2Proof/Machine/VecOps.lean ====
section
/-!
DEFINITION. Vector indexes: descriptors (R293 to R296), distances (R297 to R301), packet fields and checks (R313 to R316),
the walk (R304 to R308), repair of one node (R322).
-/
namespace Sys2Proof.Machine

open Sys2Proof

/-! ### Descriptor fields (R295) -/

def vdIndex (d : List Byte) : Nat := fieldAt d 0 2
def vdSpread (d : List Byte) : Bool := (fieldAt d 2 1).testBit 0
def vdMetric (d : List Byte) : Nat := fieldAt d 2 1 / 2 % 4
def vdVfmtCode (d : List Byte) : Nat := fieldAt d 3 1 % 16
def vdVfmt (d : List Byte) : Fmt := (Fmt.ofCode (vdVfmtCode d)).getD .fp32
def vdDim (d : List Byte) : Nat := fieldAt d 4 2
def vdDegree (d : List Byte) : Nat := fieldAt d 6 1
def vdPqM (d : List Byte) : Nat := fieldAt d 7 1
def vdParts (d : List Byte) : Nat := fieldAt d 8 1
def vdEntries (d : List Byte) : Nat := fieldAt d 9 1
def vdStride (d : List Byte) : Nat := 2 ^ fieldAt d 10 1
def vdNodes (d : List Byte) : Nat := fieldAt d 12 4
def vdVecAt (d : List Byte) : Nat := fieldAt d 16 8
def vdEdgeAt (d : List Byte) : Nat := fieldAt d 24 8
def vdCodeAt (d : List Byte) : Nat := fieldAt d 32 8
def vdWinOff (d : List Byte) : Nat := fieldAt d 40 8
def vdWinBytes (d : List Byte) : Nat := fieldAt d 48 8
def vdNodeAt (d : List Byte) : Nat := fieldAt d 56 8
def vdCbAt (d : List Byte) : Nat := fieldAt d 64 8
def vdEntryAt (d : List Byte) : Nat := fieldAt d 72 8
def vdPendAt (d : List Byte) : Nat := fieldAt d 80 8
def vdPendMib (d : List Byte) : Nat := fieldAt d 88 2

/-- Parts of an index. -/
def vdPartList (d : List Byte) : List Nat := List.range (if vdSpread d then 1 else vdParts d)

/-- First byte of the region of window `w` (R292). -/
def vdRegion (d : List Byte) (w : Nat) : Nat := 0xFF000000000000 + w * 2 ^ 42 + vdWinOff d

/-- Address of an array: an RSA for SPREAD, an offset in the part's region for LOCAL (R293). -/
def vdArray (d : List Byte) (part at' : Nat) : Nat := if vdSpread d then at' else vdRegion d part + at'

/-- Address and length of the records of a node (R293). -/
def vecRange (d : List Byte) (part n : Nat) : Nat × Nat :=
  (vdArray d part (vdVecAt d) + n * vdStride d, (vdVfmt d).rowBytes (vdDim d))
def edgeRange (d : List Byte) (part n : Nat) : Nat × Nat :=
  (vdArray d part (vdEdgeAt d) + 4 * vdDegree d * n, 4 * vdDegree d)
def codeRange (d : List Byte) (part n : Nat) : Nat × Nat := (vdArray d part (vdCodeAt d) + vdPqM d * n, vdPqM d)

/-- The windows that hold a part's node words (R292). -/
def State.vecWindows (s : State) (d : List Byte) (part : Nat) : List Nat := if vdSpread d then List.range s.width else [part]

/-- The window of a node's home (R293). -/
def State.nodeWindow (s : State) (d : List Byte) (part n : Nat) : Nat :=
  if vdSpread d then s.homeSlot (edgeRange d part n).1 else part

/-- The node home of a node, and the walk site of a part (R292, R293). -/
def State.nodeHome (s : State) (d : List Byte) (part n : Nat) : Nat := s.serverOf (s.nodeWindow d part n)
def State.walkSite (s : State) (d : List Byte) (part : Nat) : Nat := if vdSpread d then s.sys.member else s.serverOf part

/-- Address of a node's word in a window. -/
def wordAddr (d : List Byte) (w n : Nat) : Nat := vdRegion d w + vdNodeAt d + 4 * n

/-- States of a node word (R294). -/
def wordState (v : Nat) : Nat := v / 2 ^ 30 % 4
def wordAttr (v : Nat) : Nat := v % 2 ^ 30
def isLive (v : Nat) : Bool := wordState v = 1
def isTomb (v : Nat) : Bool := wordState v = 2 || wordState v = 3

def State.wordAt (s : State) (d : List Byte) (w n : Nat) : Nat := leNat (s.bytes (wordAddr d w n) 4)

/-- The windows that hold a node's word, the node home's first (R321). -/
def State.wordWindows (s : State) (d : List Byte) (part n : Nat) : List Nat :=
  let h := s.nodeWindow d part n
  h :: (s.vecWindows d part).filter fun w => w != h

/-- Set a node's word in the windows given. -/
def State.setWords (s : State) (d : List Byte) (ws : List Nat) (n v : Nat) : State :=
  ws.foldl (fun (s : State) w => (s.writeStore (wordAddr d w n) (toLe 4 v)).1) s

/-- The node home's copy of a node word. -/
def State.homeWord (s : State) (d : List Byte) (part n : Nat) : Nat := s.wordAt d (s.nodeWindow d part n) n

/-- The window from which this member reads the node words of a part, and its codebook (R310). -/
def State.siteWindow (s : State) (d : List Byte) (part : Nat) : Nat := if vdSpread d then s.ownWindow else part

/-- A node's word as this member reads it. -/
def State.siteWord (s : State) (d : List Byte) (part n : Nat) : Nat := s.wordAt d (s.siteWindow d part) n

/-- The node is homed here (R293). -/
def State.nodeHere (s : State) (d : List Byte) (part n : Nat) : Bool := s.nodeHome d part n = s.sys.member

/-- Nodes of an index homed at this member whose words satisfy a test. -/
def State.nodesHere (s : State) (d : List Byte) (p : Nat → Bool) : Nat :=
  ((vdPartList d).map fun part => ((List.range (vdNodes d)).filter fun n =>
    s.nodeHere d part n && p (s.homeWord d part n)).length).sum

/-- The edge list of a node without NONE. -/
def State.edgesOf (s : State) (d : List Byte) (part n : Nat) : List Nat :=
  (s.elems (edgeRange d part n).1 4 (vdDegree d)).filter (· != 0xFFFFFFFF)

def State.vecIndex (s : State) (i : Nat) : Option VecIndex := s.vec.indexes.find? i
def State.setVecIndex (s : State) (i : Nat) (x : VecIndex) : State :=
  { s with vec := { s.vec with indexes := s.vec.indexes.set i x } }

/-! ### Distances (R297 to R301) -/

/-- A distance by metric: L2SQ, or minus the dot product, in chunks of `lanes` (R242). -/
def metricDist (metric lanes : Nat) (q x : List Val) : Val :=
  let ts := (q.zip x).map fun p => if metric = 0 then let d := toFp32 (p.1.sub p.2); d.mul d else p.1.mul p.2
  let v := rowSum add32 .zero lanes ts
  if metric = 0 then v else v.neg

/-- The stored vector of a node. -/
def State.nodeVec (s : State) (d : List Byte) (part n : Nat) : List Val :=
  let r := vecRange d part n
  decodeRow (vdVfmt d) (s.bytes r.1 r.2) (vdDim d)

/-- Exact distance of a query in a format to a node (R297, R235). -/
def State.exactDist (s : State) (d : List Byte) (part n : Nat) (qfmt : Fmt) (q : List Val) : Val :=
  metricDist (vdMetric d) (modeFor (if vdMetric d = 0 then 0x21 else 0x20) [qfmt, vdVfmt d]).lanes q (s.nodeVec d part n)

/-- Centroid `c` of subspace `m` (R293). -/
def State.centroid (s : State) (d : List Byte) (w m c : Nat) : List Val :=
  let n := vdDim d / max 1 (vdPqM d)
  (s.elems (vdRegion d w + vdCbAt d + 4 * n * (256 * m + c)) 4 n).map fp32Of

/-- An entry of the distance table of a walk (R299). -/
def State.pqTerm (s : State) (d : List Byte) (w : Nat) (q : List Val) (m c : Nat) : Val :=
  let n := vdDim d / max 1 (vdPqM d)
  metricDist (vdMetric d) 8 ((q.drop (n * m)).take n) (s.centroid d w m c)

/-- PQ distance of a node (R299). -/
def State.pqDist (s : State) (d : List Byte) (part w n : Nat) (q : List Val) : Val :=
  let r := codeRange d part n
  let codes := s.bytes r.1 r.2
  (seqSum add32 ((List.range (vdPqM d)).map fun m => s.pqTerm d w q m (codes.getD m 0).toNat)).getD .zero

/-- The codes of a stored vector (R300): for each subspace the centroid of least L2SQ, ties to the lower number. -/
def State.pqCodes (s : State) (d : List Byte) (w : Nat) (x : List Val) : List Byte :=
  let n := vdDim d / max 1 (vdPqM d)
  (List.range (vdPqM d)).map fun m =>
    let ds := (List.range 256).map fun c => (c, metricDist 0 8 ((x.drop (n * m)).take n) (s.centroid d w m c))
    BitVec.ofNat 8 ((ds.foldl (fun (b : Option (Nat × Val)) y => match b with
      | none => some y
      | some z => if y.2.lt false z.2 then some y else some z) none).map (·.1) |>.getD 0)

/-- Order of R301: by value with −0 below +0, then by part, then by node. -/
def distBefore (a b : Nat × Nat × Nat) : Bool :=
  let x := fp32Of a.1
  let y := fp32Of b.1
  if x.lt true y then true else if y.lt true x then false
  else decide (a.2.1 < b.2.1) || (a.2.1 = b.2.1 && decide (a.2.2 < b.2.2))

/-- A vector normalised for COSINE (R298): none when its norm is 0 or not finite. -/
def normalise (v : List Val) : Option (List Val) :=
  let v := v.map toFp32
  let n := rowSum add32 .zero 8 (v.map fun x => x.mul x)
  if n.isZero || !n.finite then none else some (v.map fun x => toFp32 (x.div n.sqrt32))

/-! ### Packet fields (R314, R315) -/

def vpIndex (p : Packet) : Nat := pkField p 20 2 % 1024
def vpQfmt (p : Packet) : Nat := pkField p 22 1 % 16
def vpRouteTomb (p : Packet) : Bool := bit p 180
def vpWiden (p : Packet) : Bool := bit p 181
def vpList (p : Packet) : Bool := bit p 182
def vpPart (p : Packet) : Nat := pkField p 23 1 % 64
def vpK (p : Packet) : Nat := pkField p 24 2 % 2048
def vpL (p : Packet) : Nat := pkField p 26 2 % 2048
def vpW (p : Packet) : Nat := pkField p 28 1 % 32
def vpClauses (p : Packet) : Nat := pkField p 29 1 % 8
def vpMaxExpand (p : Packet) : Nat := pkField p 30 2
def vpWidenBudget (p : Packet) : Nat := pkField p 32 2
def vpNode (p : Packet) : Nat := pkField p 36 4
def vpAttr (p : Packet) : Nat := pkField p 40 4 % 2 ^ 30
def vpCount (p : Packet) : Nat := pkField p 40 4
def vpPartMask (p : Packet) : Nat := pkField p 40 8
def vpHostOut (p : Packet) : Nat := pkField p 48 8
def vpListRsa (p : Packet) : Nat := pkField p 48 7

/-- The query or inserted vector in a block, decoded. -/
def blockVector (d : List Byte) (p : Packet) (block : List Byte) : List Val :=
  let f := (Fmt.ofCode (vpQfmt p)).getD .fp32
  let v := if pkOpcode p = 0x64 then block.drop 64 else block
  decodeRow f (v.take (f.rowBytes (vdDim d))) (vdDim d)

/-- The query for PQ distances and for exact distances (R298): FP32 codes. -/
def queryOf (d : List Byte) (p : Packet) (block : List Byte) : List Val × List Val :=
  let v := blockVector d p block
  let f := (Fmt.ofCode (vpQfmt p)).getD .fp32
  if vdMetric d = 2 then
    let q := (normalise v).getD v
    (q, (decodeRow f (encodeRow f { mode := 0, seed := 0, step := 0 } true 0 (q.map fun x => (x, true))).1 (vdDim d)))
  else (v.map toFp32, v)

/-! ### Checks and ranges (R296, R313, R316) -/

/-- The ranges of an index (R313). -/
def State.vecRanges (s : State) (d : List Byte) : List (Nat × Nat) :=
  if vdSpread d then
    [(vdVecAt d, vdNodes d * vdStride d), (vdEdgeAt d, vdNodes d * 4 * vdDegree d)] ++
      (if vdPqM d = 0 then [] else [(vdCodeAt d, vdNodes d * vdPqM d)]) ++
      (List.range s.width).map fun w => (vdRegion d w, vdWinBytes d)
  else (List.range (vdParts d)).map fun w => (vdRegion d w, vdWinBytes d)

/-- Two ranges do not overlap. -/
def apart (a b : Nat × Nat) : Bool := a.2 = 0 || b.2 = 0 || decide (a.1 + a.2 ≤ b.1) || decide (b.1 + b.2 ≤ a.1)
def allApart : List (Nat × Nat) → Bool
  | [] => true
  | r :: rs => rs.all (apart r) && allApart rs

/-- Reserved fields are 0 and fields in range (R295). -/
def vecRangeOk (i : Nat) (d : List Byte) : Bool :=
  let at56 (o : Nat) : Bool := decide (fieldAt d o 8 < 2 ^ 56)
  let at42 (o : Nat) : Bool := decide (fieldAt d o 8 < 2 ^ 42)
  d.length = 128 && vdIndex d = i && fieldAt d 2 1 / 8 = 0 && vdMetric d != 3 && fieldAt d 3 1 / 16 = 0 &&
    [0, 1, 2, 3, 4, 8, 9, 10, 11, 12, 13].contains (vdVfmtCode d) && decide (8 ≤ vdDim d) && decide (vdDim d ≤ 4096) &&
    [8, 16, 32, 64, 128].contains (vdDegree d) && [0, 8, 16, 32, 64, 128].contains (vdPqM d) &&
    decide (1 ≤ vdParts d) && decide (vdParts d ≤ 64) && decide (1 ≤ vdEntries d) && decide (vdEntries d ≤ 8) &&
    decide (6 ≤ fieldAt d 10 1) && decide (fieldAt d 10 1 ≤ 12) && fieldAt d 11 1 = 0 && decide (1 ≤ vdNodes d) &&
    decide (vdNodes d ≤ 0xFFFFFFFE) && at56 16 && at56 24 && at56 32 && at42 40 && at42 48 && at42 56 && at42 64 && at42 72 &&
    at42 80 && fieldAt d 90 38 = 0

/-- Arrays inside the region of each window: offset and bytes (R293). -/
def vecInside (d : List Byte) : List (Nat × Nat) :=
  [(vdNodeAt d, 4 * vdNodes d), (vdCbAt d, if vdPqM d = 0 then 0 else vdDim d * 1024), (vdEntryAt d, 4 * vdEntries d),
   (vdPendAt d, vdPendMib d * 1048576)] ++
    (if vdSpread d then [] else
      [(vdVecAt d, vdNodes d * vdStride d), (vdEdgeAt d, vdNodes d * 4 * vdDegree d), (vdCodeAt d, vdNodes d * vdPqM d)])

/-- A descriptor is valid (R296), but for its entry lists. -/
def State.vecDescOk (s : State) (i : Nat) (d : List Byte) : Bool :=
  let aligned := vdVecAt d % vdStride d = 0 && vdEdgeAt d % (4 * max 1 (vdDegree d)) = 0 &&
    (vdPqM d = 0 || vdCodeAt d % vdPqM d = 0) && vdNodeAt d % 4 = 0 && vdCbAt d % 4 = 0 && vdEntryAt d % 4 = 0 &&
    vdPendAt d % 8 = 0
  vecRangeOk i d && decide ((vdVfmt d).rowBytes (vdDim d) ≤ vdStride d) && (!(vdVfmt d).isMx || vdDim d % 32 = 0) &&
    (vdPqM d = 0 || (vdDim d % vdPqM d = 0 && decide (vdDim d / vdPqM d ≤ 64))) && aligned &&
    (vecInside d).all (fun r => r.2 = 0 || decide (r.1 + r.2 ≤ vdWinBytes d)) && allApart (vecInside d) &&
    decide (2 ^ 35 ≤ vdWinOff d) && decide (vdWinOff d + vdWinBytes d ≤ 2 ^ 42) &&
    (if vdSpread d then
      let rs := [(vdVecAt d, vdNodes d * vdStride d), (vdEdgeAt d, vdNodes d * 4 * vdDegree d),
        (vdCodeAt d, vdNodes d * vdPqM d)]
      vdParts d = 1 && allApart rs && rs.all fun r => r.2 = 0 || decide (r.1 + r.2 ≤ 0xFF000000000000)
     else decide (vdParts d ≤ s.width))

/-- The entry list of each part, in every window that holds one (R293). -/
def State.entryLists (s : State) (d : List Byte) : List (Nat × Nat) :=
  ((vdPartList d).map fun p => s.vecWindows d p).flatten.map fun w => (vdRegion d w + vdEntryAt d, 4 * vdEntries d)

/-- Every entry point is a node of the index (R296). -/
def State.entriesOk (s : State) (d : List Byte) : Bool :=
  (s.entryLists d).all fun r => (s.elems r.1 4 (vdEntries d)).all fun n => decide (n < vdNodes d)

/-- A clause of a filter is valid, and a word passes it (R307). -/
def clauseOk (c : List Byte) : Bool :=
  let b0 := fieldAt c 0 1
  let w := fieldAt c 1 1
  b0 / 128 = 0 && w / 32 = 0 && fieldAt c 2 2 = 0 && decide (b0 % 32 ≤ 29) && decide (1 ≤ w) && decide (w ≤ 30) &&
    decide (b0 % 32 + w ≤ 30)
def clausePasses (c : List Byte) (word : Nat) : Bool :=
  let f := (wordAttr word >>> (fieldAt c 0 1 % 32)) % 2 ^ (fieldAt c 1 1 % 32)
  let lo := fieldAt c 4 4
  let hi := fieldAt c 8 4
  match fieldAt c 0 1 / 32 % 4 with
  | 0 => f = lo
  | 1 => f != lo
  | 2 => decide (lo ≤ f) && decide (f ≤ hi)
  | _ => decide (f < lo) || decide (hi < f)

/-- The clauses of a search. -/
def searchClauses (p : Packet) (block : List Byte) : List (List Byte) :=
  (List.range (vpClauses p)).map fun i => sub block (12 * i) 12

/-- Parameter check 9 of opcodes 0x60 to 0x7F (R316): STATUS and SUBCODE. -/
def State.vecParams (s : State) (e : Entry) : Option (Nat × Nat) :=
  let p := e.packet
  let op := pkOpcode p
  let i := vpIndex p
  let d := if op = 0x60 then e.block else ((s.vecIndex i).map (·.desc)).getD []
  let f := (Fmt.ofCode (vpQfmt p)).getD .fp32
  let up64 (n : Nat) := ceilDiv n 64 * 64
  let blocks := op = 0x60 || op = 0x64 || op = 0x68
  let len := if op = 0x60 then 128 else if op = 0x64 then 64 + up64 (f.rowBytes (vdDim d)) else up64 (f.rowBytes (vdDim d))
  let v := blockVector d p e.block
  let badVec := vpQfmt p > 4 || !rowFinite v || (vdMetric d = 2 && (normalise v).isNone)
  if op != 0x60 && (s.vecIndex i).isNone then some (St.badParam, 0x41)
  else if op != 0x60 && (s.vecIndex i).any (fun x => x.comp != pkComp p) then some (St.xltDenied, 0x62)
  else if blocks != pkPblk p || (blocks && pkPbLen p != len) then some (St.badParam, 0x40)
  else if op = 0x60 && !s.vecDescOk i d then some (St.badParam, 0x42)
  else if op = 0x64 && (vpK p < 1 || vpK p > 1024 || vpL p < vpK p || vpL p > 1024 || vpW p < 1 || vpW p > 16 ||
      vpMaxExpand p = 0 || vpPartMask p / 2 ^ (vdPartList d).length != 0) then some (St.badParam, 0x43)
  else if op = 0x68 && (vpL p < vdDegree d || vpL p > 1024 || vpW p < 1 || vpW p > 16 || vpMaxExpand p = 0) then
    some (St.badParam, 0x43)
  else if (op = 0x68 || op = 0x69) && vpPart p ≥ (vdPartList d).length then some (St.badParam, 0x43)
  else if op = 0x69 && (vpCount p = 0 || (vpList p && vpCount p > 16777216)) then some (St.badParam, 0x43)
  else if (op = 0x64 || op = 0x68) && badVec then some (St.badParam, 0x44)
  else if op = 0x64 && (vpClauses p > 4 || (searchClauses p e.block).any fun c => !clauseOk c) then some (St.badParam, 0x45)
  else if op = 0x64 && vpHostOut p != 0 && e.src ≥ 128 then some (St.badParam, 0x46)
  else if (op = 0x68 && vpNode p ≥ vdNodes d) || (op = 0x69 && !vpList p && vpNode p + vpCount p > vdNodes d) then
    some (St.badParam, 0x48)
  else none

/-- The ranges of an opcode of this chapter with their accesses (R313). -/
def State.vecAccess (s : State) (e : Entry) : List (List Access × Nat × Nat) :=
  let p := e.packet
  let d := if pkOpcode p = 0x60 then e.block else ((s.vecIndex (vpIndex p)).map (·.desc)).getD []
  let rs := s.vecRanges d
  match pkOpcode p with
  | 0x60 | 0x64 => rs.map fun r => ([.read], r.1, r.2)
  | 0x68 | 0x6C => rs.map fun r => ([.read, .write], r.1, r.2)
  | 0x69 => (((vdPartList d).map fun q => s.vecWindows d q).flatten.map fun w =>
      (([.write] : List Access), vdRegion d w, vdWinBytes d)) ++
      (if vpList p then [([.read], vpListRsa p, 4 * vpCount p)] else [])
  | _ => []

/-! ### The walk (R302 to R308) -/

def State.setWalk (s : State) (w : Nat) (x : Walk) : State := { s with vec := { s.vec with walks := s.vec.walks.set w x } }

/-- The unit with the fewest walks, ties to the lower number; none when every online unit holds four (R302). -/
def State.pickUnit (s : State) : Option Nat :=
  ((List.range 128).foldl (fun (b : Option (Nat × Nat)) u =>
    let n := s.vec.walks.cells.countP fun x => x.2.unit == some u
    if n < 4 && !(s.unitRec 6 u).offline && (b.all fun y => n < y.2) then some (u, n) else b) none).map (·.1)

/-- What a read of ranges inside a walk meets: the node counts as unreadable (SPREAD), or the walk fails (R312). -/
def State.walkRead (s : State) (rs : List (Nat × Nat)) : State × Option (Nat × Nat) := s.readRanges rs

/-- Insert into the queue in key order, at most 1,024 (R304). -/
def insertQueue (part : Nat) (e : QueueEntry) (q : List QueueEntry) : List QueueEntry :=
  let before (a b : QueueEntry) : Bool := distBefore (a.key, part, a.node) (b.key, part, b.node)
  let lo := q.takeWhile fun x => !before e x
  let hi := q.drop lo.length
  (lo ++ [e] ++ hi).take 1024

/-- A node's key: PQ distance, or its exact distance without codes (R304). -/
def State.walkKey (s : State) (d : List Byte) (x : Walk) (w v : Nat) : Val :=
  if vdPqM d = 0 then
    s.exactDist d x.part v ((Fmt.ofCode x.qfmt).getD .fp32) (x.queryExact.map fp32Of)
  else s.pqDist d x.part w v (x.queryPq.map fp32Of)

/-- consider of R304; `entry` says that the node is an entry point. -/
def State.consider (s : State) (d : List Byte) (x : Walk) (entry : Bool) (v : Nat) : State × Walk :=
  if x.visited.contains v then (s, x)
  else
    let full := x.visited.length ≥ 8192
    let s := if full then s.raise F.VEC_EVENT_VISITED_FULL else s
    let x := if full then { x with visitedFull := x.visitedFull + 1 } else { x with visited := x.visited ++ [v] }
    if x.queue.any fun q => q.node = v then (s, x)
    else
      let w := s.siteWindow d x.part
      let bad (s : State) (f : Nat × Nat) : State × Walk :=
        let s := if vdSpread d then (s.count F.VEC_COUNT_UNREADABLE).raise F.VEC_EVENT_UNREADABLE else s
        (s, if vdSpread d then { x with unreadable := x.unreadable + 1 } else { x with fail := some (x.fail.getD f) })
      match s.walkRead [(wordAddr d w v, 4)] with
      | (s, some f) => bad s f
      | (s, none) =>
        let word := s.wordAt d w v
        if !entry && wordState word = 0 then (s, x)
        else if !entry && isTomb word && !x.routeTomb then (s, x)
        else
          match s.walkRead (if vdPqM d = 0 then [vecRange d x.part v] else [codeRange d x.part v]) with
          | (s, some f) => bad s f
          | (s, none) =>
            let key := s.walkKey d x w v
            if key.isNan then (s, { x with flags := { x.flags with topkNan := x.flags.topkNan + 1 } })
            else (s, { x with queue := insertQueue x.part { key := codeOf key, node := v, word := word } x.queue })

def State.considerAll (s : State) (d : List Byte) (x : Walk) (entry : Bool) : List Nat → State × Walk
  | [] => (s, x)
  | v :: vs =>
    let (s, x) := s.consider d x entry v
    s.considerAll d x entry vs

/-- Pick the next round, widening where R304 says so; a walk with nothing to pick stops. -/
def pickRound : Nat → Walk → Walk
  | 0, x => { x with ended := true, picks := [] }
  | fuel + 1, x =>
    let open' := (x.queue.take x.l).filter fun q => !q.expanded
    let picks := (open'.take (min x.w x.budget)).map (·.node)
    if !picks.isEmpty then
      { x with
        picks := picks
        queue := x.queue.map fun q => if picks.contains q.node then { q with expanded := true } else q
        expansions := x.expansions + picks.length
        widenExpansions := if x.widening then x.widenExpansions + picks.length else x.widenExpansions
        tombRouted := x.tombRouted + (x.queue.countP fun q => picks.contains q.node && isTomb q.word) }
    else if x.results.length ≥ x.k || !x.widen then { x with ended := true, picks := [] }
    else
      let x := if x.widening then x else { x with widening := true, budget := x.widenBudget }
      if x.budget = 0 || x.l = 1024 then { x with ended := true, picks := [] }
      else pickRound fuel { x with l := min (2 * x.l) 1024 }

/-- The picks of a round with the words they were queued with. -/
def Walk.pickWords (x : Walk) : List (Nat × Nat) :=
  x.picks.map fun u => (u, ((x.queue.find? fun q => q.node = u).map (·.word)).getD 0)

/-- Apply one pick of a round (R304): its exact distance, then its edges. -/
def State.applyPick (s : State) (d : List Byte) (x : Walk) (u word : Nat) : State × Walk :=
  let bad (s : State) (f : Nat × Nat) : State × Walk :=
    let s := if vdSpread d then (s.count F.VEC_COUNT_UNREADABLE).raise F.VEC_EVENT_UNREADABLE else s
    (s, if vdSpread d then { x with unreadable := x.unreadable + 1 } else { x with fail := some (x.fail.getD f) })
  let live := isLive word
  match s.walkRead (edgeRange d x.part u :: (if live then [vecRange d x.part u] else [])) with
  | (s, some f) => bad s f
  | (s, none) =>
    let s := if s.isHome (edgeRange d x.part u).1 then s.count F.VEC_COUNT_EXPAND else s
    let s := if live && s.isHome (vecRange d x.part u).1 then s.count F.VEC_COUNT_RERANK else s
    let passes := x.clauses.all fun c => clausePasses c word
    let x := if live && !passes then { x with filtered := x.filtered + 1 } else x
    let x :=
      if !live then x
      else
        let v := s.nodeVec d x.part u
        let dist := s.exactDist d x.part u ((Fmt.ofCode x.qfmt).getD .fp32) (x.queryExact.map fp32Of)
        let nans := v.countP Val.isNan
        let fl := x.flags.add { nanIn := nans, nanMade := b2n (dist.isNan && nans == 0), topkNan := b2n dist.isNan }
        let x := { x with flags := fl }
        if !passes || dist.isNan || (x.results.any fun r => r.node = u) then x
        else
          let r : FoundNode := { dist := codeOf dist, node := u, word := word, part := x.part }
          let lo := x.results.takeWhile fun y => !distBefore (r.dist, r.part, r.node) (y.dist, y.part, y.node)
          { x with results := (lo ++ [r] ++ x.results.drop lo.length).take 1024 }
    s.considerAll d x false (s.edgesOf d x.part u)

/-- Apply a round in the order picked (R305). -/
def State.applyRound (s : State) (d : List Byte) (x : Walk) : List (Nat × Nat) → State × Walk
  | [] => (s, x)
  | (u, word) :: us =>
    let (s, x) := s.applyPick d x u word
    s.applyRound d x us

/-- What a walk reads next: the entry list at its start, then the records of its picks; with the words and the codes of the
nodes these name. -/
def State.walkRanges (s : State) (d : List Byte) (x : Walk) : List (Nat × Nat) :=
  let w := s.siteWindow d x.part
  let near (v : Nat) : List (Nat × Nat) :=
    [(wordAddr d w v, 4), if vdPqM d = 0 then vecRange d x.part v else codeRange d x.part v]
  if !x.begun then
    let at' := vdRegion d w + vdEntryAt d
    (at', 4 * vdEntries d) :: ((s.elems at' 4 (vdEntries d)).map near).flatten
  else (x.picks.map fun u =>
    [edgeRange d x.part u, vecRange d x.part u] ++ ((s.edgesOf d x.part u).map near).flatten).flatten

/-- One round of a walk: the entry points at first, then the replies of the picks; then the next picks (R304). A walk of a
LOCAL part that met a failure stops (R312). -/
def State.walkStep (s : State) (d : List Byte) (x : Walk) : State × Walk :=
  if !x.begun then
    match s.walkRead ((s.walkRanges d x).take 1) with
    | (s, some f) =>
      if vdSpread d then ((s.count F.VEC_COUNT_UNREADABLE).raise F.VEC_EVENT_UNREADABLE,
        { x with begun := true, ended := true, unreadable := x.unreadable + 1 })
      else (s, { x with begun := true, ended := true, fail := some f })
    | (s, none) =>
      let es := s.elems (vdRegion d (s.siteWindow d x.part) + vdEntryAt d) 4 (vdEntries d)
      let (s, x) := s.considerAll d { x with begun := true } true es
      (s, if x.fail.isSome then { x with ended := true } else pickRound 16 x)
  else
    let n := x.picks.length
    let (s, x) := s.applyRound d x x.pickWords
    let x := { x with budget := x.budget - n, picks := [] }
    if x.fail.isSome || (x.widening && x.results.length ≥ x.k) then (s, { x with ended := true })
    else (s, pickRound 16 x)

/-! ### Repair of one node (R322) -/

/-- Sort nodes nearest first; those of NaN distance last. -/
def insertNear (part : Nat) (e : Nat × Nat) : List (Nat × Nat) → List (Nat × Nat)
  | [] => [e]
  | f :: fs =>
    let nanE := (fp32Of e.1).isNan
    let nanF := (fp32Of f.1).isNan
    let before := if nanE then false else if nanF then true else distBefore (e.1, part, e.2) (f.1, part, f.2)
    if before then e :: f :: fs else f :: insertNear part e fs

/-- Tombstones in a node's edge list, and the nodes of which its repair compares distances (R322). -/
def State.repairTombs (s : State) (d : List Byte) (part v : Nat) : List Nat :=
  (s.edgesOf d part v).filter fun u => isTomb (s.siteWord d part u)
def State.repairCand (s : State) (d : List Byte) (part v : Nat) (sources : List Nat) : List Nat :=
  let live (u : Nat) : Bool := isLive (s.siteWord d part u)
  ((s.edgesOf d part v).filter live ++
    ((s.repairTombs d part v).map fun t => (s.edgesOf d part t).filter fun u => live u && u != v).flatten ++
    sources.filter fun u => live u && u != v).foldl addNew []

/-- Ranges a repair of a node reads: what it needs of the records it knows. -/
def State.repairRanges (s : State) (d : List Byte) (part v : Nat) (sources : List Nat) : List (Nat × Nat) :=
  [edgeRange d part v, vecRange d part v] ++ (s.repairTombs d part v).map (edgeRange d part) ++
    (s.repairCand d part v sources).map (if vdPqM d = 0 then vecRange d part else codeRange d part)

/-- Repair a LIVE node with the sources logged for it (R322): the failure of a read or of the write. -/
def State.repairNode (s : State) (d : List Byte) (part v : Nat) (sources : List Nat) : State × Option (Nat × Nat) :=
  match s.readRanges (s.repairRanges d part v sources) with
  | (s, some f) => (s, some f)
  | (s, none) =>
    if (s.repairTombs d part v).isEmpty && sources.isEmpty then (s, none)
    else
      let q := (s.nodeVec d part v).map toFp32
      let dist (u : Nat) : Val := if vdPqM d = 0 then s.exactDist d part u .fp32 q
        else s.pqDist d part (s.siteWindow d part) u q
      let sorted := ((s.repairCand d part v sources).map fun u => (codeOf (dist u), u)).foldl (fun l e => insertNear part e l) []
      let near := (sorted.take (vdDegree d)).map (·.2)
      let out := near ++ List.replicate (vdDegree d - near.length) 0xFFFFFFFF
      s.writeStore (edgeRange d part v).1 (out.map (toLe 4)).flatten

/-- Write a window's pending log as the list now stands, in order. -/
def State.writeLog (s : State) (d : List Byte) (i w : Nat) : State :=
  let mine := s.vec.pend.filter fun p => p.index = i && p.window = w
  (s.writeStore (vdRegion d w + vdPendAt d) ((mine.map fun p => toLe 4 p.target ++ toLe 4 p.source).flatten)).1

/-- Log a back edge at the node home of its target (R320): false when its log is full. -/
def State.logBackEdge (s : State) (d : List Byte) (i part target source : Nat) : State × Bool :=
  let w := s.nodeWindow d part target
  let n := s.vec.pend.countP fun p => p.index = i && p.window = w
  let cap := vdPendMib d * 131072
  if n ≥ cap then ((s.count F.VEC_COUNT_PEND_DROP).raise F.VEC_EVENT_PEND_DROP, false)
  else
    let s := { s with vec := { s.vec with
      pend := s.vec.pend ++ [{ index := i, window := w, target := target, source := source : PendEntry }] } }
    let s := (s.writeStore (vdRegion d w + vdPendAt d + 8 * n) (toLe 4 target ++ toLe 4 source)).1
    (if (n + 1) * 4 > cap * 3 && n * 4 ≤ cap * 3 then s.raise F.VEC_EVENT_PEND_HIGH else s, true)

/-! ### What every member does of an index (R291) -/

/-- An index leaves a member. -/
def State.dropIndex (s : State) (i : Nat) : State :=
  { s with vec := { s.vec with indexes := s.vec.indexes.erase i, pend := s.vec.pend.filter fun p => p.index != i } }

/-- Every node of an index homed here whose word satisfies a property, changed in every copy, the node home's first; how many. -/
def State.changeWords (s : State) (d : List Byte) (p : Nat → Bool) (f : Nat → Nat) : State × Nat :=
  (vdPartList d).foldl (fun (acc : State × Nat) q =>
    ((List.range (vdNodes d)).filter fun n => s.nodeHere d q n).foldl (fun (acc : State × Nat) n =>
      let v := acc.1.homeWord d q n
      if p v then (acc.1.setWords d (acc.1.wordWindows d q n) n (f v), acc.2 + 1) else acc) acc) (s, 0)

/-- A repair pass starts at this member (R323 step 1): how many of its nodes become RETIRING. -/
def State.startPass (s : State) (i : Nat) (x : VecIndex) : State × Nat :=
  let (s, n) := s.changeWords x.desc (fun v => wordState v = 2) fun v => 3 * 2 ^ 30 + wordAttr v
  (s.setVecIndex i { x with pass := (x.pass + 1) % 65536, running := true, next := 0, repaired := 0 }, n)

/-! ### What a walk returns (R309, R318) -/

/-- The results and counts of one walk, as they go to the member of the search. -/
structure WalkReport where
  part : Nat
  expansions : Nat
  widenExpansions : Nat
  filtered : Nat
  tombRouted : Nat
  unreadable : Nat
  visitedFull : Nat
  flags : FlagRec
  results : List FoundNode

def Walk.report (x : Walk) : WalkReport :=
  { part := x.part, expansions := x.expansions, widenExpansions := x.widenExpansions, filtered := x.filtered
    tombRouted := x.tombRouted, unreadable := x.unreadable, visitedFull := x.visitedFull, flags := x.flags
    results := x.results.take x.k }

/-- A report as numbers: thirteen of its own, then two for each result. -/
def WalkReport.words (r : WalkReport) : List Nat :=
  [r.part, r.expansions, r.widenExpansions, r.filtered, r.tombRouted, r.unreadable, r.visitedFull, r.flags.nanIn,
   r.flags.saturated, r.flags.nanMade, r.flags.indexMiss, r.flags.topkNan, r.results.length] ++
    (r.results.map fun (f : FoundNode) => [f.node, f.dist + 2 ^ 32 * f.word]).flatten

/-- The results that numbers stand for. -/
def resultsOf (part : Nat) : List Nat → List FoundNode
  | a :: b :: r => { dist := b % 2 ^ 32, node := a, word := b / 2 ^ 32, part := part } :: resultsOf part r
  | _ => []

/-- The reports that stand one behind the other; `fuel` bounds how many. -/
def reportsOf : Nat → List Nat → List WalkReport
  | 0, _ => []
  | fuel + 1, l =>
    if l.length < 13 then []
    else
      let at' (i : Nat) : Nat := l.getD i 0
      { part := at' 0, expansions := at' 1, widenExpansions := at' 2, filtered := at' 3, tombRouted := at' 4
        unreadable := at' 5, visitedFull := at' 6
        flags := { nanIn := at' 7, saturated := at' 8, nanMade := at' 9, indexMiss := at' 10, topkNan := at' 11 }
        results := resultsOf (at' 0) ((l.drop 13).take (2 * at' 12)) } :: reportsOf fuel (l.drop (13 + 2 * at' 12))

end Sys2Proof.Machine
end

