-- ==== Sys2Proof/Machine/Work.lean ====
section
/-!
DEFINITION. Work items between members (R510, R511, R513): what a home does with an item that reaches it.
-/
namespace Sys2Proof.Machine

open Sys2Proof

/-! ### Work items between members (R510, R511, R513) -/

/-- Where a work item belongs under this member's map (R510, R511): the home of its address, the server or the partner of its slot,
or the member it was sent to. -/
def State.itemHome (s : State) (w : WorkItem) : Nat :=
  if !w.role then s.homeOf w.addr
  else if w.slot ≥ 64 then s.sys.member
  else if w.kind = 3 || w.kind = 6 || w.kind = 7 || w.kind = 19 then (s.partnerOf w.slot).getD s.sys.member
  else s.serverOf w.slot

/-- Answers that waited for the mirror go out. -/
def State.answerDue (s : State) : State :=
  let ready := s.rack.due.filter fun x => s.noneAway x.1
  let s := { s with rack := { s.rack with due := s.rack.due.filter fun x => !s.noneAway x.1 } }
  ready.foldl (fun (s : State) x => s.answerOrigin x.2.1.origin x.2.1.id x.2.2.1 x.2.2.2.1 x.2.2.2.2) s

/-- An item waits here. -/
def State.holdItem (s : State) (w : WorkItem) : State :=
  { s with rack := { s.rack with held := s.rack.held ++ [(w, s.frame)] } }

/-- The intake source that a phase of a command of another member carries, as this member numbers it: beyond its own 144. -/
def proxySource (origin src : Nat) : Nat := 1024 * (origin + 1) + src

/-- A phase of another member's command arrives (R34, R199, R260, R522): it stands here as an entry of its own, which the opcode's
row performs, as the anchor or for this member's part. What begins with acceptance begins here too (R204, R522), and a step is closed at once (R285). -/
def State.takePhase (s : State) (w : WorkItem) : State :=
  let id := s.cmdq.nextId
  let p : Packet := BitVec.ofNat 512 (leNat (w.data.take 64))
  let e : Entry :=
    { src := proxySource w.origin (w.addr / 16 % 256), packet := p, order := s.cmdq.nextOrder, phase := .accepted, pool := .away,
      block := w.data.drop 64, epoch := w.epoch, version := w.addr / 4096, accepted := true, acceptNo := s.cmdq.nextOrder
      acceptFrame := s.frame
      proxy := some { origin := w.origin, item := w.id, part := w.addr % 16 = 0 } }
  let s := (s.setEntry id e)
  let s := { s with cmdq := { s.cmdq with nextId := id + 1, nextOrder := s.cmdq.nextOrder + 1 } }
  match pkOpcode p with
  | 0x31 => s.beginSeal id p
  | 0xCB => s.beginWithdraw id p
  | 0x48 => if w.addr % 16 = 0 && w.addr / 4096 = 0 then s.closeStep (epTable p) (epStepClosed p) else s
  | _ => s

/-- The command that an item of another member brought here. -/
def State.proxyOf (s : State) (origin id : Nat) : Option (Nat × Entry) :=
  s.cmdq.entries.cells.find? fun c => c.2.proxy.any fun x => x.origin = origin && x.item = id

/-- This member's copy of a granule takes the home's bytes, WGEN and poison (R211, R474), journalled like any write. -/
def State.takeCopy (s : State) (w : WorkItem) : State :=
  let g := w.addr / 128
  let wgen := fieldAt w.data 128 6
  let s := s.journalEnter g 128 wgen (w.data.take 128)
  let x : Gran := { wgen := wgen, poison := poisonOf (fieldAt w.data 139 1), key := s.keyPair (g * 128) }
  { s with store := { s.store with
    mirrorMem := Memory.setBytes s.store.mirrorMem (g * 128) (w.data.take 128), mirrorGrans := s.store.mirrorGrans.set g x } }

/-- A mirror update (R474, R507, R509): it is recorded until its home confirms it, by the work item that wrote the granule, and waits
while the home's record is full; a slab whose mirror has no frames here still has none unless some have become free. -/
def State.mirrorUpdate (s : State) (w : WorkItem) : State :=
  let g := w.addr / 128
  let k := (w.slot, w.addr / 2 ^ 30)
  let s := if w.slot < 64 && s.store.mirrorLacks.contains k then s.takeSlabMirror k.1 k.2 else s
  if w.slot < 64 && s.store.mirrorLacks.contains k then s.answerWork w St.noSpace 0x60 []
  else if (s.rack.mirrorPending.filter fun m => m.home = w.origin).length ≥ 65536 || !s.journalRoom [g] then s.holdItem w
  else
    let m : MirrorPending := { origin := fieldAt w.data 134 1, id := fieldAt w.data 135 4, granule := g, home := w.origin }
    let s := { s with rack := { s.rack with mirrorPending := s.rack.mirrorPending ++ [m] } }
    (s.takeCopy w).answerWork w St.done 0 []

/-- A granule reaches a member that served the slot before (R519 with RESYNC): it takes it where data or WGEN differ from its own, and
answers whether it did. -/
def State.resyncGranule (s : State) (w : WorkItem) : State :=
  let g := w.addr / 128
  let own := s.store.mirrorGrans.getD g {}
  if Memory.getBytes s.store.mirrorMem (g * 128) 128 = w.data.take 128 && own.wgen = fieldAt w.data 128 6 then s.answerWork w St.done 0 (toLe 8 0)
  else if !s.journalRoom [g] then s.holdItem w
  else (s.takeCopy w).answerWork w St.done 0 (toLe 8 1)

/-- A joiner takes the map and the key pairs that the coordinator sends it (R518, R534). -/
def State.joinMap (s : State) (data : List Byte) : State :=
  let pairs := (List.range (data.length / 66)).map fun i => (data.drop (256 + 66 * i)).take 66
  let keys := pairs.foldl (fun (t : Tab Nat) b => if b.length < 66 then t else t.set (fieldAt b 0 2) (fieldAt b 2 64)) s.rack.keys
  if !s.joiner then s
  else { s with rack := { s.rack with map := { mapOf data with epoch := s.rack.map.epoch }, keys := keys } }

/-- A slot is copied to SUBJECT for the coordinator (R519): the answer, with the granules copied, goes once SUBJECT has them. -/
def State.serveCopy (s : State) (w : WorkItem) : State :=
  let s := if s.rack.assign.any fun a => a.entry = w.waiter then s
    else s.copySlot w.waiter w.addr (fieldAt w.data 0 1) (fieldAt w.data 1 1 != 0)
  if s.noneAway w.waiter then
    s.answerWork w St.done 0 (([0, 0, (s.rack.assign.map (·.granules)).getD 0].map (toLe 8)).flatten)
  else s.holdItem w

/-- Rows of an embedding command, or edge records and vectors of a walk, are read at their home (EMB_COUNT_ROWS, VEC_COUNT_EXPAND,
VEC_COUNT_RERANK). -/
def State.countRows (s : State) (op rows ranks : Nat) : State :=
  if 0x60 ≤ op && op < 0x80 then (s.count F.VEC_COUNT_EXPAND rows).count F.VEC_COUNT_RERANK ranks
  else s.count F.EMB_COUNT_ROWS rows

/-- Serve a work item at this member, in its CLASS. Reads and writes of the store go through coherence; an item whose granule an
endpoint holds is held until the copy has come back. -/
def State.serveWork (s : State) (w : WorkItem) : State :=
  let n := w.data.length
  let s := { s with rack := { s.rack with cls := w.cls } }
  match w.kind with
  | 0 =>
    let len := max 1 (fieldAt w.data 0 2 % 4097)
    match s.prepare w.waiter (granulesOf w.addr len) [] with
    | (s, true) => s.holdItem w
    | (s, false) =>
      let s := (s.accessFor false (pagesOf w.addr len)).dropFetched w.waiter
      match s.readStore w.addr len with
      | (s, .ok d) => (s.countRows (fieldAt w.data 9 1) (fieldAt w.data 10 4) (fieldAt w.data 14 4)).answerWork w St.done 0 d
      | (s, .error (st, sub)) => s.answerWork w st sub []
  | 1 =>
    match s.prepare w.waiter [] (granulesOf w.addr n) with
    | (s, true) => s.holdItem w
    | (s, false) =>
      let s := s.accessFor true (pagesOf w.addr n)
      match s.writeStore w.addr w.data with
      | (s, none) => s.answerWork w St.done 0 []
      | (s, some (st, sub)) => s.answerWork w st sub []
  | 2 =>
    let k := gateKey w.addr
    match s.gateFails k (fieldAt w.data 4 2) with
    | some (st, sub) => s.answerWork w st sub []
    | none =>
      let s := s.checkGate k
      let (s, _) := s.updateGate k (s.gateVal k + fieldAt w.data 0 4)
      s.answerWork w St.done 0 (toLe 8 (s.gateVal k))
  | 3 => s.mirrorUpdate w
  | 4 =>
    let p : Packet := BitVec.ofNat 512 (leNat (w.data.take 64))
    if 0x94 ≤ pkOpcode p && pkOpcode p ≤ 0x9F && w.addr % 16 = 0 then
      if fieldAt w.data 64 1 = 0xFF then (s.noteResolve (kpPool p) w.origin (w.data.drop 64)).answerWork w St.done 0 []
      else match s.kvpItem w.origin w.id p (w.data.drop 64) with
        | (s, true) => s.holdItem w
        | (s, false) => s
    else if pkOpcode p = 0xD0 then
      s.answerWork w St.done 0 ((List.replicate 5 0 ++ s.meterReport (bf p 107 96) (fieldAt w.data 64 8)).map (toLe 8)).flatten
    else s.takePhase w
  | 5 =>
    let first := w.addr / 128
    let last := first + leNat (w.data.drop 2) / 128
    let held := (s.coh.sf.cells.filter fun c =>
      decide (first ≤ c.1) && decide (c.1 < last) && c.2.indexes.contains (fieldAt w.data 0 2)).map (·.1)
    let s := if s.backPending w.waiter then s else held.foldl (fun (s : State) g => s.submitReq
      { id := 0, kind := .backInv w.waiter, granule := g, addr := g * 128, src := w.origin,
        index := some (fieldAt w.data 0 2), port := 50, tag := 0, cls := 0, ctx := 0, data := [] }) s
    if s.backPending w.waiter then s.holdItem w else (s.raise F.COH_EVENT_RECLAIM_DONE).answerWork w St.done 0 []
  | 6 =>
    let g := w.addr / 128
    let e := sfEntryOf w.data s.coh.nextOrder
    let put (t : Tab SfEntry) : Tab SfEntry := if w.data.isEmpty then t.erase g else t.set g e
    -- the filter of a slot that is being copied here stands in the filter, the partner's in the shadow
    let s :=
      if w.slot ≥ 64 then { s with coh := { s.coh with sf := put s.coh.sf } }
      else if s.coh.shadowSlot = some w.slot then { s with coh := { s.coh with shadow := put s.coh.shadow } }
      else { s with coh := { s.coh with shadowSlot := some w.slot, shadow := put {} } }
    s.answerWork w St.done 0 []
  | 7 =>
    let len := max 1 (fieldAt w.data 0 2 % 4097)
    match (granulesOf w.addr len).findSome? fun g => (s.store.mirrorGrans.getD g {}).poison with
    | some k => s.answerWork w k.answer.1 k.answer.2 []
    | none => s.answerWork w St.done 0 (Memory.getBytes s.store.mirrorMem w.addr len)
  | 8 =>
    let p : Packet := BitVec.ofNat 512 (leNat (w.data.take 64))
    let (t, needs, sub) := match pkOpcode p, tpRecord p with
      | 0x30, some x => (x.home, s.placeNeeds p x, 0x40)
      | _, _ => (grantHome, s.grantNeeds (mpSlabList p), 0x60)
    if needs > s.store.free.getD t.code 0 then s.answerWork w St.noSpace sub []
    else (s.reserveFrames w.origin p t needs).answerWork w St.done 0 []
  | 11 =>
    let p := w.addr % 64
    let hs := pagesNamed w.data
    let bring := decide (w.addr ≥ 64)
    let t : KvpTally := if bring then (s.bringAll p hs).2 else {}
    match s.prepareRanges w.waiter t.reads t.writes with
    | (s, true) => s.holdItem w
    | (s, false) =>
      let (s, t) := if bring then s.bringAll p hs else (s, {})
      s.answerWork w St.done 0 (((t.unspilled :: (hs.map fun h => s.pageWords p h).flatten).map (toLe 8)).flatten)
  | 9 =>
    let d := w.data.drop 1
    match s.prepare w.waiter (granulesOf w.addr d.length) (granulesOf w.addr d.length) with
    | (s, true) => s.holdItem w
    | (s, false) =>
      match s.addRow (fieldAt w.data 0 1 != 0) w.addr d with
      | (s, none) => s.answerWork w St.done 0 []
      | (s, some (st, sub)) => s.answerWork w st sub []
  | 14 =>
    let named (m : MirrorPending) : Bool := m.home = w.origin && m.granule = w.addr / 128 && m.origin = fieldAt w.data 0 1 && m.id = fieldAt w.data 1 4
    { s with rack := { s.rack with mirrorPending := s.rack.mirrorPending.filter fun m => !named m } }.answerWork w St.done 0 []
  | 15 => s.answerWork w St.done 0 (s.copyOf (w.addr / 128))
  | 16 => (if s.partnerOf w.addr = some s.sys.member then s
      else if s.store.oldMirrors.contains w.addr then s.freeMirror w.addr else s.dropCopy w.addr).answerWork w St.done 0 []
  | 17 => (if s.rack.assign.any fun a => a.slot = w.addr && !a.committed then s.endAssign 64 else s).answerWork w St.done 0 []
  | 18 => s.serveCopy w
  | 19 => { s with gate := { s.gate with shadowBlocks := s.gate.shadowBlocks.set w.addr (gateBlockOf w.data) } }.answerWork w St.done 0 []
  | 20 => (s.joinMap w.data).answerWork w St.done 0 []
  | 21 => { s with rack := { s.rack with keys := s.rack.keys.set w.addr (fieldAt w.data 0 64) } }.answerWork w St.done 0 []
  | 22 => s.resyncGranule w
  | 13 => ((s.watchdogHit w.addr)).answerWork w St.done 0 []
  | 12 => (s.changePages w.addr w.data).answerWork w St.done 0 []
  | 10 => (s.unreserve w.origin (BitVec.ofNat 512 (leNat (w.data.take 64)))).answerWork w St.done 0 []
  | _ => s.answerWork w St.done 0 []

/-- A work item is judged by its epoch, then served, passed on once, held or answered REMAP (R510); outside the control class it
waits while this member is not aligned (R30). An item under a hold
is kept; its WORK coming again is its release from the hold (R173). -/
def State.receiveWork (s : State) (w : WorkItem) : State :=
  if w.kind = 100 then
    -- a raw request that waited for its epoch comes up like one that arrives
    let s := { s with rack := { s.rack with held := s.rack.held.filter fun (h : WorkItem × Nat) =>
      !(h.1.origin = w.origin && h.1.id = w.id) } }
    match firstBelow 16 fun p => (s.port p).act.kind = 0 && (s.port p).partnerId = w.origin with
    | some p => s.recvMember (rawKindOf w.data) p w.data
    | none => s
  else
  match s.proxyOf w.origin w.id with
  | some (id, _) =>
    let s := { s with rack := { s.rack with holds := s.rack.holds.filter (· != (w.origin, w.id)) } }
    s.modEntry id fun e => { e with marked := false }
  | none =>
  let again := s.rack.held.any fun (h : WorkItem × Nat) => h.1.origin = w.origin && h.1.id = w.id
  let s := { s with rack := { s.rack with
    holds := if again then s.rack.holds.filter (· != (w.origin, w.id)) else s.rack.holds } }
  let s := { s with rack := { s.rack with held := s.rack.held.filter fun (h : WorkItem × Nat) =>
    !(h.1.origin = w.origin && h.1.id = w.id) } }
  if s.unaligned w.cls then s.holdItem w
  -- a member that has fenced itself still answers the mirror check, and a joiner has no epoch yet
  else if w.kind = 15 || w.kind = 20 then s.serveWork w
  else
  let d := s.epochAge w.epoch
  let mine := s.itemHome w = s.sys.member
  if s.rack.holds.contains (w.origin, w.id) && !again then s.holdItem w
  else if s.rack.dropped.contains (w.origin, w.id) then s
  -- applied at the former home, as the pending-mirror record shows (R507)
  else if mine && !w.role && s.rack.mirrorPending.any (fun m => m.origin = w.origin && m.id = w.id) then s.answerWork w St.done 0 []
  else match s.rack.memo.find? fun (m : ItemMemo) => m.origin = w.origin && m.id = w.id && decide (s.frame < m.frame + 256) with
  | some m => s.emit (.workAnswer w.origin w.id m.status m.subcode m.data)
  | none =>
    if d = 0 then if mine then s.serveWork w else s.answerWork w St.remap 0xB6 []
    else if d < 32768 then
      if mine then s.serveWork w
      else if w.forwarded then s.answerWork w St.remap 0xB1 []
      else if s.frame ≤ s.rack.changeFrame + 64 then
        s.emit (.item (s.itemHome w) w.origin w.id w.epoch w.cls true w.role w.slot w.kind w.addr w.data)
      else s.answerWork w St.remap 0xB0 []
    else s.holdItem w

/-- The items held for an epoch this member has now applied, or for copies that have come back, are taken up again (R414, R510). -/
def State.releaseHeld (s : State) : State :=
  let due := s.rack.held.filter fun (h : WorkItem × Nat) =>
    decide (s.epochAge h.1.epoch < 32768) && !s.rack.holds.contains (h.1.origin, h.1.id)
  due.foldl (fun (s : State) h => s.receiveWork h.1) s

/-! ### The commands -/

/-- A WORK message reaches this member (R393, R510, R505): one from a fenced member is refused; a member in brace refuses every
one (R569), one in REST wakes (R551). -/
def execWork (origin id epoch cls : Nat) (forwarded role : Bool) (slot kind addr : Nat) (data : List Byte) (s : State) : Res :=
  if s.memberState origin == .fenced then .next s
  else if s.sys.bracing then .next (s.emit (.workAnswer origin id St.fenced 0xF1 []))
  else .next (s.wake.receiveWork
    { origin := origin, id := id, epoch := epoch, forwarded := forwarded, role := role, slot := slot, kind := kind,
      addr := addr, data := data, cls := cls })

/-- An item of another member has been performed here, as the remembered IDs and the pending-mirror record show. -/
def State.itemBegun (s : State) (origin id : Nat) : Bool :=
  (s.rack.memo.any fun m => m.origin = origin && m.id = id) ||
    s.rack.mirrorPending.any fun m => m.origin = origin && m.id = id

/-- A KV command of another member that waits at a LEAVING record waits no longer (R81). -/
def State.dropQueued (s : State) (origin id : Nat) : State :=
  { s with kvp := { s.kvp with pools := s.kvp.pools.mapVals fun _ (x : KvpPool) => { x with
    recs := x.recs.mapVals fun _ (r : SeqRec) => { r with queued := r.queued.filter fun q => q.asker != .item origin id } } } }

/-- A cancel reaches this home (R81): an item not started is dropped, and one that arrives later too; one under way stops, what is
left of it here goes; the answer says whether the item had begun. A phase that is under way answers once its own items have. -/
def execWorkCancel (origin id : Nat) (s : State) : Res :=
  let begun := s.itemBegun origin id
  let s := s.dropQueued origin id
  let s := { s with
    rack := { s.rack with
      held := s.rack.held.filter fun (h : WorkItem × Nat) => !(h.1.origin = origin && h.1.id = id)
      due := s.rack.due.filter fun x => x.1 != itemWaiter origin id
      holds := s.rack.holds.filter (· != (origin, id))
      dropped := if begun then s.rack.dropped else addNew s.rack.dropped (origin, id) } }
  match s.proxyOf origin id with
  | none => .next (s.emit (.workAnswer origin id St.aborted 0 [BitVec.ofNat 8 (b2n begun)]))
  | some (i, e) =>
    if e.hasBegun then .next (s.stopEntry i .abortTag)
    else .next (((s.withdraw i).dropEntry i).emit (.workAnswer origin id St.aborted 0 [0]))

/-- A hold reaches this home (R173): the item is not started; the answer says whether it had begun. -/
def execWorkHold (origin id : Nat) (s : State) : Res :=
  let proxy := s.proxyOf origin id
  let begun := s.itemBegun origin id || proxy.any fun x => x.2.hasBegun
  let s := { s with rack := { s.rack with holds := addNew s.rack.holds (origin, id) } }
  let s := match proxy with
    | some (i, e) => if e.hasBegun then s else s.setEntry i { e with marked := true }
    | none => s
  .next (s.emit (.workAnswer origin id St.revoked 0 [BitVec.ofNat 8 (b2n begun)]))

/-- The answers that a home's answer was the last to hold up (R423, R474). -/
def State.answersDue (s : State) : State := s.respondDue.answerDue.releaseHeld

/-- The results that an item's answer returns add up in its command's outcome. -/
def State.addResult (s : State) (entry item : Nat) (result : List Nat) : State :=
  if (s.entry? entry).any fun e => e.items.any fun i => i.id = item && !i.cancelled then
    s.modEntry entry fun e => { e with
      out := { e.out with
        result0 := (e.out.result0 + result.getD 0 0) % 2 ^ 64
        countDone := e.out.countDone + result.getD 1 0
        countAux := e.out.countAux + result.getD 2 0
        result1 := e.out.result1 + result.getD 3 0
        fellBack := e.out.fellBack || result.getD 4 0 != 0 }
      reply := e.reply ++ result.drop 5 }
  else s

/-- The partner has acknowledged a granule's copy, so that its write has committed: the home confirms it (R507); it had no frames for it,
so that the page stays to be copied and its slot EXPOSED (R509); the last granule of a page's copy has come (R508). -/
def State.mirrorAnswered (s : State) (item : Nat) (x : Away) (status : Nat) : State :=
  let g := x.addr / 128
  let s :=
    if status = St.noSpace then
      let due : MirrorDue := { slot := x.slot, page := g / 32 }
      let others := s.rack.remirror.filter fun m => !(m.slot = x.slot && m.page = g / 32)
      { s with rack := { s.rack with
        remirror := others ++ [due], map := { s.rack.map with exposed := s.rack.map.exposed.set x.slot true } } }
    else if x.slot ≥ 64 then s
    else s.sendItem { x with owner := none, slot := 64, kind := 14, data := (x.data.drop 134).take 5 } 0
  match x.owner with
  | none => s
  | some w =>
    if w < 2 ^ 47 then s
    else
      let s := s.dropAway item
      if s.noneAway w && (s.rack.remirror.any fun m => copyWaiter m.page = w && m.sent) then
        s.pageMirrored (s.homeSlot ((w - 2 ^ 47) * 4096)) (w - 2 ^ 47)
      else s

/-- A fenced member's copy of a granule is compared with the promoted one (R478, R507). -/
def State.checkAnswered (s : State) (g : Nat) (b : List Byte) : State :=
  let m : MirrorCopy := { data := b.take 128, wgen := fieldAt b 128 6, poison := poisonOf (fieldAt b 139 1), damaged := false }
  let s := (s.setGran g { s.gran g with mirror := some m }).compareCopies g
  let s := s.setGran g { s.gran g with mirror := none }
  { s with rack := { s.rack with checks := s.rack.checks.filter fun c => c.1 != g } }

/-- What an item's answer says of the granule it carried, before it is counted (R507, R519). -/
def State.copyAnswered (s : State) (item status : Nat) (result : List Nat) : State :=
  match s.rack.away.find? item with
  | none => s
  | some x =>
    if x.kind = 3 then s.mirrorAnswered item x status
    else if x.kind = 15 then (if status = St.done then s.checkAnswered (x.addr / 128) ((result.map (toLe 8)).flatten) else s)
    else if x.kind = 22 then
      let more (a : Assign) : Assign := { a with granules := a.granules + result.getD 0 0 }
      { s with rack := { s.rack with assign := s.rack.assign.map more } }
    else s

/-- A home's answer reaches this member (R82, R173): bytes that were read for a command; a final answer or a cancel's
acknowledgement, which ends the item, and the results it returns add up; a hold's answer goes to the revocation that asked. -/
def execWorkAnswer (entry item : Nat) (kind : AnswerKind) (status subcode : Nat) (begun : Bool) (result : List Nat)
    (s : State) : Res :=
  match kind with
  | .held => .next (s.holdAnswered entry item begun)
  | .cancelled => .next (s.answerItem entry item status subcode begun)
  | .final =>
    let kind := (s.rack.away.find? item).map (·.kind)
    let known := s.rack.away.has item
    let s := s.copyAnswered item status result
    -- a granule that the partner has no frames for commits with the home copy alone (R509); the count of a copy is its own
    let status := if kind = some 3 && status = St.noSpace then St.done else status
    let result := if kind = some 22 then [] else result
    match (s.rack.away.find? item).filter fun x => x.kind = 0 || x.kind = 7 || x.kind = 11 || (x.owner.bind waiterCore).isSome with
    | some x =>
      .next (if x.kind != 0 && x.kind != 7 && x.kind != 11 then s.coreAnswered item x status subcode
        else if x.kind = 11 then s.pagesAnswered item x status subcode result
        else s.fetchAnswered item x status subcode result).releaseHeld
    | none =>
      if known && !((s.entry? entry).any fun e => e.items.any fun i => i.id = item) then
        .next (s.dropAway item).answersDue
      else .next ((s.addResult entry item result).answerItem entry item status subcode begun)

/-- A cancel or a hold goes again to every home that has not answered it (R81, R173). -/
def execCancelResend (entry : Nat) (s : State) : Res :=
  match s.entry? entry with
  | none => .next s
  | some e =>
    if e.stop.isSome then .next ((e.items.filter (·.cancelled)).foldl (fun (s : State) i => s.emit (.work i.home i.id 1)) s)
    else .next ((e.items.filter fun i => i.cancelled || e.holdDue.contains i.id).foldl (fun (s : State) i =>
      s.emit (.work i.home i.id (if i.cancelled then 1 else 2))) s)

/-- A newer-epoch item has waited 64 frames (R510). -/
def execEpochHoldExpiry (origin id : Nat) (s : State) : Res :=
  match s.rack.held.find? fun (h : WorkItem × Nat) => h.1.origin = origin && h.1.id = id with
  | none => .next s
  | some (w, since) =>
    if s.epochAge w.epoch < 32768 || decide (s.frame < since + 64) then .next s
    else
      let s := { s with rack := { s.rack with held := s.rack.held.filter fun (h : WorkItem × Nat) =>
        !(h.1.origin = origin && h.1.id = id) } }
      .next (s.answerWork w St.remap 0xB2 [])

end Sys2Proof.Machine
end

