-- ==== Sys2Proof/Machine/Pst.lean ====
section
/-!
DEFINITION. The meanings of the cadence commands (spec/03_cadence.md): frames and slots, table loads and switches, frame
alignment.
-/
namespace Sys2Proof.Machine

open Sys2Proof

/-! ### Epoch markers (R113, R392) -/

def State.alignState (s : State) : Nat := s.fld F.PST_STATUS_ALIGN_STATE
/-- The member counts as aligned (R30, R132): LOCKED or HOLDOVER. -/
def State.isAligned (s : State) : Bool := 2 ≤ s.alignState
/-- HOPS of PST_ALIGN_STATUS and of the markers sent (R113, R140): 15 while the member is not aligned. -/
def State.hops (s : State) : Nat := if s.isAligned then s.fld F.PST_ALIGN_STATUS_HOPS else 15

/-- The frame reference member (R129): of the map, or, until a map is held, the lowest REF heard from members or this
member's own MEMBER_ID (R597). -/
def State.refMember (s : State) : Nat :=
  if s.rack.map.server.isEmpty then
    (s.pst.markers.cells.filter fun c => (s.port c.1).act.kind = 0 && decide (s.frame < c.2.seen + 4)).foldl
      (fun m c => min m c.2.ref) s.sys.member
  else s.voting.headD s.sys.member

/-- The EPOCH message of this member. -/
def State.epochMsg (s : State) : List Byte :=
  let (f, set) := s.pst.switch.getD (0, 0)
  toLe 1 0x10 ++ toLe 1 (s.refMember + 64 * s.alignState) ++ toLe 1 s.hops ++ toLe 1 0 ++
    toLe 4 (s.fld F.PST_ACTIVE_SET) ++ toLe 6 s.frame ++ toLe 6 f ++ toLe 4 set ++ toLe 8 0

/-- Slot 0 of a frame on every HXL port in service (R111, R113, R378). -/
def State.sendMarkers (s : State) : State :=
  ((List.range 16).filter fun p => (s.port p).state = .active).foldl (fun (s : State) p => s.sendBare p 2 s.epochMsg) s

/-! ### Alignment states (R129 to R135) -/

/-- What the register PST_PERIOD shows of the tables in force. -/
def State.showPeriod (s : State) : State :=
  (s.setFld F.PST_PERIOD_PERIOD_LOG2 s.pstPeriod).setFld F.PST_PERIOD_PHASE s.pstPhase

/-- A window starts anew. -/
def State.newWindow (s : State) : State := { s with pst := { s.pst with offSum := 0, offCount := 0 } }

/-- Enter an alignment state, with the event of reaching LOCKED; leaving FREE and reaching LOCKED are steps 7 and 8 of start-up
(R596). -/
def State.stageReached (s : State) (n : Nat) : State :=
  if n = s.fld F.CLK_STARTUP_STAGE then s
  else
    let us := s.fld F.CLK_STARTUP_TIME_US + s.sys.upFrames * 16 / 5
    let s := { s with sys := { s.sys with upFrames := 0 } }
    (s.setFld F.CLK_STARTUP_STAGE n).setFld F.CLK_STARTUP_TIME_US (min us 0xFFFFFFFF)

def State.setAlign (s : State) (st : Nat) : State :=
  let s := if st = 2 && s.alignState != 2 then s.raise F.PST_EVENT_ALIGN_LOCKED else s
  let s := s.setFld F.PST_STATUS_ALIGN_STATE st
  -- steps 7 and 8 of start-up
  let stage := s.fld F.CLK_STARTUP_STAGE
  let reached := max stage (if st = 2 then 8 else 7)
  if 6 ≤ stage && stage ≤ 8 && st != 0 then (s.stageReached reached).tellSensors else s

/-- Alignment is lost: ACQUIRE, with ALIGN_LOST (R132). -/
def State.loseAlign (s : State) : State :=
  let s := ((s.setFld F.PST_STATUS_ALIGN_STATE 1).setFld F.PST_ALIGN_STATUS_HOPS 15).raise F.PST_EVENT_ALIGN_LOST
  { s with pst := { s.pst with inRange := 0, stepped := false } }.newWindow

/-- The port whose marker names the best parent (R129): HOPS below 15, a sender of this map on a member port that is up and
not fenced, seen within 4 frames; ties go to the lower port. -/
def State.bestParent (s : State) : Option (Nat × Nat) :=
  (List.range 16).foldl (fun (b : Option (Nat × Nat)) p =>
    match s.pst.markers.find? p with
    | none => b
    | some m =>
      let x := s.port p
      if x.act.kind = 0 && x.state = .active && !x.fenced && m.hops < 15 && m.ref = s.refMember &&
          decide (s.frame < m.seen + 4) && (b.all fun y => decide (m.hops < y.2)) then some (p, m.hops) else b) none

/-- The parent of the moment. -/
def State.parentPort (s : State) : Option Nat :=
  if s.fld F.PST_ALIGN_STATUS_PARENT_VALID = 1 then some (s.fld F.PST_ALIGN_STATUS_PARENT_PORT) else none

/-- The parent's link is down or fenced, or its markers have stopped for 4 frames (R132). -/
def State.parentGone (s : State) : Bool :=
  s.parentPort.any fun p =>
    ((s.port p).state != .active && (s.port p).state != .retrain) || (s.port p).fenced || (s.pst.markers.find? p).all fun m => decide (m.seen + 4 ≤ s.frame)

/-- No parent is followed any more: LOCKED goes to HOLDOVER (R132). -/
def State.leaveParent (s : State) : State :=
  let s := s.newWindow.setFld F.PST_ALIGN_STATUS_PARENT_VALID 0
  if s.alignState = 2 then
    { s with pst := { s.pst with holdSince := s.frame, inRange := 0 } }.setFld F.PST_STATUS_ALIGN_STATE 3
  else s

/-- Follow the best parent, or be the reference (R129, R132); a parent that is gone is left first. -/
def State.chooseParent (s : State) : State :=
  let s := if s.parentGone && s.refMember != s.sys.member then s.leaveParent else s
  let old := s.fld F.PST_ALIGN_STATUS_REF_MEMBER
  let s := s.setFld F.PST_ALIGN_STATUS_REF_MEMBER s.refMember
  -- a member whose reference changes goes to ACQUIRE (R597)
  let s := if s.refMember != old && s.alignState = 2 && s.refMember != s.sys.member then s.loseAlign else s
  if s.fld F.PST_ALIGN_CTRL_ALIGN_EN = 0 then s
  else if s.refMember = s.sys.member then
    ((s.setFld F.PST_ALIGN_STATUS_PARENT_VALID 0).setFld F.PST_ALIGN_STATUS_HOPS 0).setAlign 2
  else match s.bestParent with
  | none => s
  | some (p, h) =>
    let same := s.fld F.PST_ALIGN_STATUS_PARENT_VALID = 1 && s.fld F.PST_ALIGN_STATUS_PARENT_PORT = p
    let s := if same then s else s.newWindow
    let s := if same || s.alignState != 3 then s else { s with pst := { s.pst with inRange := 0 } }
    let s := ((s.setFld F.PST_ALIGN_STATUS_PARENT_PORT p).setFld F.PST_ALIGN_STATUS_PARENT_VALID 1).setFld
      F.PST_ALIGN_STATUS_HOPS (if s.isAligned then min 15 (h + 1) else 15)
    if s.alignState = 0 then s.setAlign 1 else s

/-- The hop count that this member has behind its parent (R129), 15 without one. -/
def State.ownHops (s : State) : Nat :=
  match s.parentPort.bind fun p => s.pst.markers.find? p with
  | some m => min 15 (m.hops + 1)
  | none => 15

/-- LOCKED behind the parent. -/
def State.lockBehind (s : State) : State := (s.setAlign 2).setFld F.PST_ALIGN_STATUS_HOPS s.ownHops

/-- The member carries no traffic outside the control class (R133): no command, no raw request and no item of another member, nothing on
its way to another agent, no page on the move. -/
def State.quiet (s : State) : Bool :=
  (s.entriesWhere fun _ e => e.accepted && pkClass e.packet != 15).isEmpty && s.xlt.raws.isEmpty &&
    s.coh.txns.isEmpty && s.coh.queue.isEmpty && s.store.moves.isEmpty &&
    (s.rack.held.all fun h => h.1.cls = 15) && (s.rack.away.cells.all fun c => c.2.cls = 15) &&
    s.hxl.outbox.all fun o => nbf (fieldAt o.msg 1 1) 3 0 = 15

/-- The frame number is the parent's from now on (R133): what was seen so many frames ago was seen as many frames before it. -/
def State.adoptFrame (s : State) (frame : Nat) : State :=
  { s with
    frame := frame
    pst := { s.pst with
      stepped := true, markers := s.pst.markers.mapVals fun _ m => { m with seen := frame - (s.frame - m.seen) } } }

/-- When alignment is gained, the items that waited for it are taken up (R30, R132). -/
def State.regained (t s : State) : State := if !s.aligned && t.aligned then t.releaseHeld else t

/-- ALIGN_EN is written (R132, R542). -/
def execAlignCtrlWrite (src : Nat) (value : Word) (s : State) : Res :=
  if !s.mayAdminister src then .next s
  else
    let s := s.setFld F.PST_ALIGN_CTRL_ALIGN_EN (bf value 0 0)
    if bit value 0 then .next (s.chooseParent.regained s)
    else
      let s := ((s.setFld F.PST_STATUS_ALIGN_STATE 0).setFld F.PST_ALIGN_STATUS_PARENT_VALID 0).setFld
        F.PST_ALIGN_STATUS_HOPS 15
      .next { s with pst := { s.pst with inRange := 0, stepped := false } }.newWindow

/-- An EPOCH message arrives (R124, R129, R130, R133): `stamp` is its arrival against this member's frame boundary in units
of 0.1 ns. A marker from an endpoint carries nothing. -/
def execEpoch (port : Nat) (msg : List Byte) (stamp : Int) (s : State) : Res :=
  let s := s.takeMsg port msg
  let x := s.port port
  if x.act.kind = 1 then .next s
  else
    let frame := fieldAt msg 8 6
    let set := fieldAt msg 4 4
    let sf := fieldAt msg 14 6
    let ss := fieldAt msg 20 4
    let offset : Int := stamp - (x.delay : Int) + 32000 * ((s.frame : Int) - (frame : Int))
    let m : Marker := { ref := nbf (fieldAt msg 1 1) 5 0, align := nbf (fieldAt msg 1 1) 7 6,
                        hops := nbf (fieldAt msg 2 1) 3 0, set := set, frame := frame, switchFrame := sf, switchSet := ss,
                        seen := s.frame, offset := offset }
    let s := { s with pst := { s.pst with markers := s.pst.markers.set port m } }
    -- R124
    let (of', os) := s.pst.switch.getD (0, 0)
    let s := if set != s.fld F.PST_ACTIVE_SET || sf != of' || ss != os then
        (s.setFld F.PST_MISMATCH_PORTS (s.fld F.PST_MISMATCH_PORTS ||| 2 ^ port)).raise F.PST_EVENT_SET_MISMATCH
      else s
    let s := if x.act.kind = 0 then s.setPeer x.partnerId { s.peer x.partnerId with locked := m.align = 2 } else s
    let s := s.chooseParent
    if s.parentPort != some port || s.alignState = 0 then .next s
    else if s.alignState = 1 && !s.pst.stepped && s.quiet then
      -- the one step of R133 takes the parent's frame number
      .next (s.adoptFrame frame).newWindow.showPeriod
    else
      let apart := if s.frame < frame then frame - s.frame else s.frame - frame
      if s.alignState = 2 && apart > 1 then .next s.loseAlign
      else .next { s with pst := { s.pst with offSum := s.pst.offSum + offset, offCount := s.pst.offCount + 1 } }

def clampI (lo hi x : Int) : Int := max lo (min hi x)

/-- The trim after a window (R131): at most 2 ppm from the last one, within ±250 ppm, in units of 0.25 ppm. How far it
moves for an offset is the loop's own. -/
def nextTrim (offset trim : Int) : Int :=
  clampI (-1000) 1000 (trim + clampI (-8) 8 (Config.trimMove offset trim))

/-- A window of 10 frames ends (R130 to R132, R135). -/
def State.windowEnd (s : State) : State :=
  let n := s.pst.offCount
  if s.alignState = 0 || s.refMember = s.sys.member || s.parentPort.isNone || n = 0 then s.newWindow
  else
    let avg : Int := s.pst.offSum / (n : Int)
    let s := s.setFld F.PST_ALIGN_OFFSET (ofSigned 16 avg)
    let s := if s.alignState = 3 then s
      else s.setFld F.PST_ALIGN_TRIM (ofSigned 12 (nextTrim avg (toSigned 12 (s.fld F.PST_ALIGN_TRIM))))
    let near := decide (s.pst.offSum.natAbs ≤ 200 * n)
    let off := decide (s.pst.offSum.natAbs > 320 * n)
    let s := s.newWindow
    match s.alignState with
    | 1 =>
      let k := if near then s.pst.inRange + 1 else 0
      let s := { s with pst := { s.pst with inRange := k } }
      (if k ≥ 32 && s.ownHops ≤ 6 then s.lockBehind else s)
    | 2 => (if off then s.loseAlign else s)
    | _ =>
      -- only a new parent's first window confirms it
      (if near && s.pst.inRange = 0 then s.lockBehind else { s with pst := { s.pst with inRange := 1 } })

/-- ALIGN_WINDOW_END (R130 to R132, R135). -/
def execAlignWindowEnd (s : State) : Res := .next (s.windowEnd.regained s)

/-- PARENT_LOST (R132): the parent's link is down or fenced, or its markers have stopped for 4 frames. -/
def execParentLost (s : State) : Res :=
  match s.parentPort with
  | none => .next s
  | some p => .next { s with pst := { s.pst with markers := s.pst.markers.erase p } }.leaveParent.chooseParent

/-- 1,000 frames in HOLDOVER (R132). -/
def execHoldoverExpiry (s : State) : Res :=
  if s.alignState = 3 && decide (s.frame ≥ s.pst.holdSince + 1000) then .next s.loseAlign else .next s

/-! ### Frames (R94, R115) -/

/-- A frame begins (R94, R113, R115), from step 6 of start-up on (R596) and outside STANDBY and OFF. The markers of the frame that opens with a switch go out with TABLE_SWITCH, under the
new tables (R122). -/
def execFrameBoundary (s : State) : Res :=
  if s.fld F.CLK_STARTUP_STAGE < 6 || s.sys.power == .standby || s.sys.power == .off then .next s
  else
    let s := { s with frame := (s.frame + 1) % 2 ^ 48, store := { s.store with movesStarted := 0 }
                      sys := { s.sys with upFrames := s.sys.upFrames + 1 } }
    let s := { s with pst := { s.pst with idle := s.pst.idle && s.sys.power == Power.rest } }
    let s := s.showPeriod.chooseParent.regained s
    .next (if s.pst.switch.any fun x => x.1 = s.frame then s else s.sendMarkers)

/-! ### Slots (R97 to R104) -/

def fillKey (kind inst order : Nat) : Nat := (16384 * kind + inst) * 16 + order

/-- The training instance of a table instance (R93, R206). -/
def trainInst (kind inst : Nat) : Nat := if kind = 2 then inst else inst / 2

/-- An HBM or DDR5 instance runs at double refresh rate (R210). -/
def State.doubleRate (s : State) (kind inst : Nat) : Bool :=
  bit (s.regAt 0 F.TIER_REFRESH_2X_HBM.off) (if kind = 0 then inst / 32 else 4 + inst / 2)

/-- The message at the head of the queue that a mask of classes makes at a port may be sent now (R101, R379, R380, R385). -/
def State.hxlIssuable (s : State) (p mask : Nat) : Bool :=
  let x := s.port p
  x.kept.length < 1024 &&
    (s.hxl.outbox.find? fun o => o.port = p && mask.testBit (nbf (fieldAt o.msg 1 1) 3 0)).any fun o =>
      decide (o.msg.length / 8 ≤ x.credAvail.getD (msgVc o.msg) 0)

/-- What a slot serves. -/
inductive SlotUse where
  | idle
  | flow (id : Nat)
  | op (o : Nat)
  deriving DecidableEq, Repr

/-- The requests of a flow at an instance, by the directory in force (R100, R122): those whose CLASS the flow carries at the resource's
kind, from its source at the Rink; the brace flush flow's own; CLASS 15 is of none. -/
def State.flowQueue (s : State) (kind id : Nat) (queue : List QueuedReq) : List QueuedReq :=
  if s.fld F.PST_STATUS_BRACE = 1 then queue.filter fun r => id = braceFlow && r.flush
  else match s.pstFlow id with
  | none => []
  | some f => queue.filter fun r => f.hasKind kind && decide (r.cls < 15) && f.mask.testBit r.cls &&
      (kind != 3 || f.source = 0xFF || f.source = r.source)

/-- A request at the head of its queue is issuable (R101). -/
def reqIssuable (r : QueuedReq) (kind : Nat) : Bool := r.space && (decide (3 ≤ kind) || (r.lead && r.bank))

/-- A flow's head request is issuable at an instance: for an HXL port as its own queues say, elsewhere as the requests that wait
there. Under the brace cadence every class but CLASS 15 waits (R127). -/
def State.flowIssuable (s : State) (kind inst id : Nat) (queue : List QueuedReq) : Bool :=
  if kind = 4 then s.fld F.PST_STATUS_BRACE = 0 && (s.pstFlow id).any fun f => f.hasKind 4 && s.hxlIssuable inst f.mask
  else (s.flowQueue kind id queue).head?.any fun r => reqIssuable r kind

/-- A CLASS 15 request is issuable. -/
def State.controlIssuable (s : State) (kind inst : Nat) (queue : List QueuedReq) : Bool :=
  if kind = 4 then s.hxlIssuable inst 0x8000
  else (queue.find? fun r => r.cls = 15 && !r.flush).any fun r => reqIssuable r kind

/-- Serve a leftover slot through its fill order (R103, R104): the pointer advances in any case. -/
def State.fillSlot (s : State) (kind inst entry : Nat) (queue : List QueuedReq) : State × SlotUse :=
  let order := fillOf entry
  let l := s.pstFill order
  if l.isEmpty then (s, .idle)
  else
    let k := fillKey kind inst order
    let i := s.pst.fillPtr.getD k 0 % l.length
    let s := { s with pst := { s.pst with fillPtr := s.pst.fillPtr.set k ((i + 1) % l.length) } }
    let id := l.getD i 0
    let source (x : Nat) : Option Nat := (s.pstFlow x).map (·.source)
    let fits := kind != 3 || source id = source (owner entry)
    if id != 0 && fits && s.flowIssuable kind inst id queue then (s, .flow id) else (s, .idle)

/-- The entries that stand before and after one in time: across a frame's end they are of the table's neighbouring frames, unless the
tables change there (R98, R115, R122). -/
def State.pstBefore (s : State) (kind inst slot : Nat) : Nat :=
  if slot = 0 then
    let n := 2 ^ s.pstPeriod
    s.pstEntryAt kind inst ((s.pstPhase + n - 1) % n) (pstSlots s.mrdimm kind - 1)
  else s.pstEntry kind inst (slot - 1)
def State.pstAfter (s : State) (kind inst slot : Nat) : Nat :=
  if slot + 1 < pstSlots s.mrdimm kind then s.pstEntry kind inst (slot + 1)
  else if s.pst.switch.any fun x => x.1 = s.frame + 1 then 0
  else s.pstEntryAt kind inst ((s.pstPhase + 1) % 2 ^ s.pstPeriod) 0

/-- A slot of a RETRAIN run (R98, R108, R208): a retraining that is pending when the run begins runs its step in it, for the whole
channel; the first half's last slot of the run ends the step. -/
def State.retrainSlot (s : State) (kind inst slot : Nat) : State × Bool :=
  let t := trainInst kind inst
  let key := 128 * kind + inst
  let s := if owner (s.pstBefore kind inst slot) != 0xFF4 && (s.training kind t).pending then
      { s with pst := { s.pst with retraining := s.pst.retraining.set key true } } else s
  if !(s.pst.retraining.getD key false) then (s, false)
  else if owner (s.pstAfter kind inst slot) = 0xFF4 then (s, true)
  else
    let s := { s with pst := { s.pst with retraining := s.pst.retraining.erase key } }
    (if kind = 2 || inst % 2 = 0 then s.retrainStep kind t else s, true)

/-- Which use a slot gets, with its reserved operation's effect (R98, R102, R139, R208). `blocked`: a program or erase blocks a queued
read of a DEADLINE flow. -/
def State.useSlot (s : State) (kind inst slot : Nat) (queue : List QueuedReq) (blocked : Bool) : State × SlotUse :=
  let e := s.pstEntry kind inst slot
  match owner e with
  | 0xFF0 => (s, .op 0xFF0)
  | 0xFF1 => if s.controlIssuable kind inst queue then (s, .op 0xFF1) else s.fillSlot kind inst e queue
  | 0xFF2 => (s, .op 0xFF2)
  | 0xFF3 => if s.doubleRate kind inst then (s, .op 0xFF3) else s.fillSlot kind inst e queue
  | 0xFF4 =>
    match s.retrainSlot kind inst slot with
    | (s, true) => (s, .op 0xFF4)
    | (s, false) => s.fillSlot kind inst e queue
  | 0xFF5 =>
    if blocked then ({ s with pst := { s.pst with suspended := addNew s.pst.suspended inst } }, .op 0xFF5)
    else s.fillSlot kind inst e queue
  | 0xFF6 =>
    if s.pst.suspended.contains inst then
      ({ s with pst := { s.pst with suspended := s.pst.suspended.filter (· != inst) } }, .op 0xFF6)
    else s.fillSlot kind inst e queue
  | o =>
    if o != 0 && s.flowIssuable kind inst o queue then (s, .flow o)
    else
      let held := o != 0 && kind < 2 && ((s.flowQueue kind o queue).head?.any fun r => !r.bank) && (s.pstFlow o).any (·.spread)
      let s := if held then ((s.count F.PST_BANK_HELD).pulse 0x083 inst).raise F.PST_EVENT_BANK_HELD else s
      s.fillSlot kind inst e queue

/-- Bytes that a flow's slot moves at a resource (R93, R94). -/
def State.slotBytesOf (s : State) (kind : Nat) : Nat :=
  match kind with
  | 0 | 1 => 64
  | 2 => onfiSlotBytes (s.fld F.TIER_POP_FLASH_RATE)
  | _ => 256

/-- The Rink port that a slot's beat comes from (R104): the SOURCE of the entry's owner. -/
def State.slotSource (s : State) (kind inst slot : Nat) : Nat :=
  if kind = 3 then ((s.pstFlow (owner (s.pstEntry kind inst slot))).map (·.source)).getD 0 else 0

/-- The classes an HXL slot may carry. -/
def State.slotMask (s : State) : SlotUse → Nat
  | .flow id => (s.pstFlow id).elim 0 (·.mask)
  | .op 0xFF1 => 0x8000
  | _ => 0

/-- A slot begins (R102). Slot 0 of an HXL frame carried its marker at the boundary. Replayed flits take every other slot
whatever the table says (R381); after a FATAL error only CONTROL slots carry anything (R488). The memory tables are idle in
REST, and until the first frame boundary after it (R128). -/
def execSlotIssue (kind inst slot : Nat) (queue : List QueuedReq) (blocked : Bool) (s : State) : Res :=
  if inst ≥ pstInstances kind || (kind < 3 && (s.sys.power = .rest || s.pst.idle)) || (kind != 4 && decide (slot ≥ pstSlots s.mrdimm kind)) then
    .next s
  else if kind != 4 then
    let (s, u) := s.useSlot kind inst slot queue blocked
    let count (s : State) (event : Nat) : State := if kind < 3 then s.pulse event inst else s
    .next (match u with
      | .idle => count s 0x082
      | .flow id =>
        let s := if kind = 3 then s.pulse 0x0C0 inst else s
        (count s (if id = owner (s.pstEntry kind inst slot) then 0x080 else 0x081)).emit (.slot kind inst id (s.slotBytesOf kind) (s.slotSource kind inst slot))
      | .op o => (count s 0x080).emit (.slot kind inst o 0 0))
  else if slot = 0 then .next s
  else if (s.port inst).state == .param || ((s.port inst).state == .retrain && (s.port inst).relocked) then .next (s.sendTraining inst)
  else if (s.port inst).state != .active then .next s
  else
    let (s, u) := s.useSlot 4 inst slot queue blocked
    let mask := s.slotMask u
    if s.fenced && mask != 0x8000 && (s.port inst).replayQ.isEmpty then .next (s.sendBare inst 0 [])
    else .next (s.sendFlit inst fun o => mask.testBit (nbf (fieldAt o.msg 1 1) 3 0))

/-! ### Loads (R118 to R120) -/

/-- A load ends with a code and a place. -/
def State.endLoad (s : State) (code : Nat) (w : PstWhere) : State :=
  let s := ((s.setFld F.PST_LOAD_STATUS_CODE code).setFld F.PST_LOAD_STATUS_KIND w.kind).setFld F.PST_LOAD_STATUS_DONE 1
  let s := ((s.setFld F.PST_LOAD_WHERE_INDEX w.index).setFld F.PST_LOAD_WHERE_FRAME w.frame).setFld
    F.PST_LOAD_WHERE_SLOT w.slot
  s.raise F.PST_EVENT_LOAD_DONE

/-- No load runs any more. -/
def State.loadIdle (s : State) : State :=
  ({ s with pst := { s.pst with load := none } }.setFld F.PST_LOAD_STATUS_BUSY 0).setFld F.PST_STATUS_LOAD_BUSY 0

/-- PST_LOAD.LOAD (R118, R119, R543: in RETURNED at MAKER only): refused with CODE 0x14 while a load runs or an armed switch names the inactive set. -/
def execPstImageLoad (src : Nat) (s : State) : Res :=
  if !s.mayAdminister src || (s.sys.lc == .returned && s.sys.debug != .maker) then .next s
  else
    let armed := s.pst.switch.any fun x => x.2 != 0 && x.2 = s.fld F.PST_INACTIVE_SET
    if s.pst.load.isSome || armed then .next (s.endLoad 0x14 {})
    else
      let addr := 64 * s.fld F.PST_IMG_ADDR_LO + 2 ^ 32 * s.fld F.PST_IMG_ADDR_HI
      let len := s.fld F.PST_IMG_LEN
      let s := ((s.setFld F.PST_LOAD_STATUS_DONE 0).setFld F.PST_LOAD_STATUS_BUSY 1).setFld F.PST_STATUS_LOAD_BUSY 1
      let s := s.setFld F.PST_INACTIVE_SET 0
      let s := { s with pst := { s.pst with
        load := some { func := src, len := len, bank := s.pstSpare }, banks := s.pst.banks.set s.pstSpare {} } }
      .next (s.emit (.hostRead src addr len))

/-- The image has been read, or could not be, and is checked (R118 to R120). A switch to the plain cadence in the meantime
leaves the load in its bank, which is the inactive one once it is valid. -/
def execPstLoadDone (result : HostResult) (image : List Byte) (s : State) : Res :=
  match s.pst.load with
  | none => .next s
  | some l =>
    let s := s.loadIdle
    let fail (code : Nat) (w : PstWhere) : Res :=
      let s := { s with pst := { s.pst with banks := s.pst.banks.set l.bank {} } }
      .next ((if l.bank = s.pstSpare then s.setFld F.PST_INACTIVE_SET 0 else s).endLoad code w)
    if result != .ok then fail 0x15 {}
    else match s.checkImage l.len image with
    | some (code, w) => fail code w
    | none =>
      let s := { s with pst := { s.pst with banks := s.pst.banks.set l.bank { valid := true, image := image } } }
      .next (((s.setFld F.PST_STATUS_ACTIVE_BANK (1 - l.bank)).setFld F.PST_INACTIVE_SET (imSet image)).endLoad 0 {})

/-! ### Switches (R121 to R123) -/

/-- A switch is no longer armed. -/
def State.disarm (s : State) (result : Nat) : State :=
  (({ s with pst := { s.pst with switch := none } }.setFld F.PST_SWITCH_STATUS_PENDING 0).setFld
    F.PST_STATUS_SWITCH_PENDING 0).setFld F.PST_SWITCH_STATUS_RESULT result

/-- PST_SWITCH_CTRL.ARM (R121): a refusal leaves an earlier armed switch in force. -/
def execPstSwitchArm (src : Nat) (s : State) : Res :=
  if !s.mayAdminister src then .next s
  else
    let f := s.fld F.PST_SWITCH_FRAME_LO + 2 ^ 32 * s.fld F.PST_SWITCH_FRAME_HI
    let set := s.fld F.PST_SWITCH_SET
    let refuse (r : Nat) : Res := .next ((s.setFld F.PST_SWITCH_STATUS_RESULT r).raise F.PST_EVENT_SWITCH_FAIL)
    if f ≤ s.frame + 32 || f > s.frame + 2 ^ 32 then refuse 2
    else if (set != 0 && set != s.fld F.PST_INACTIVE_SET) || set = s.fld F.PST_ACTIVE_SET then refuse 3
    else if s.pst.load.isSome then refuse 6
    else
      .next ((({ s with pst := { s.pst with switch := some (f, set) } }.setFld F.PST_SWITCH_STATUS_PENDING 1).setFld
        F.PST_STATUS_SWITCH_PENDING 1).setFld F.PST_SWITCH_STATUS_RESULT 0)

/-- PST_SWITCH_CTRL.CANCEL (R123). -/
def execPstSwitchCancel (src : Nat) (s : State) : Res :=
  if !s.mayAdminister src || s.pst.switch.isNone then .next s
  else .next ((s.disarm 4).raise F.PST_EVENT_SWITCH_FAIL)

/-- Change to a set (R122): the bank that was active becomes the inactive one and stays valid; every fill pointer returns to
element 0. -/
def State.switchTo (s : State) (set : Nat) : State :=
  let plain := s.fld F.PST_STATUS_PLAIN = 1
  let old := s.fld F.PST_ACTIVE_SET
  let spare := s.pstSpare
  let s := { s with pst := { s.pst with fillPtr := {} } }
  let s := (s.setFld F.PST_ACTIVE_SET set).setFld F.PST_STATUS_PLAIN (b2n (set = 0))
  if set = 0 then
    (if plain then s else (s.setFld F.PST_STATUS_ACTIVE_BANK spare).setFld F.PST_INACTIVE_SET old).showPeriod
  else
    let s := s.setFld F.PST_STATUS_ACTIVE_BANK spare
    let b := s.pst.banks.getD s.pstSpare {}
    (s.setFld F.PST_INACTIVE_SET (if plain then (if b.valid then imSet b.image else 0) else old)).showPeriod

/-- The boundary that opens frame F (R122). -/
def execTableSwitch (s : State) : Res :=
  match s.pst.switch with
  | none => .next s
  | some (f, set) =>
    if s.frame < f then .next s
    else
      let s := (s.switchTo set).disarm 1
      let s := s.raise F.PST_EVENT_SWITCHED
      .next (if s.frame = f then s.sendMarkers else s)

/-- Brace at the cadence (R119, R123, R127): a load ends ABORTED, an armed switch is cancelled, the brace cadence runs. -/
def State.pstBrace (s : State) : State :=
  let s := if s.pst.load.isSome then s.loadIdle.endLoad 0x16 {} else s
  let s := if s.pst.switch.isSome then (s.disarm 5).raise F.PST_EVENT_SWITCH_FAIL else s
  (s.setFld F.PST_STATUS_BRACE 1).showPeriod

/-- An error of a table bank (R486): the inactive bank becomes not valid; the active tables give way to the plain
cadence. -/
def State.pstBankError (s : State) (active : Bool) : State :=
  if active then
    let b := s.fld F.PST_STATUS_ACTIVE_BANK
    let s := { s with pst := { s.pst with banks := s.pst.banks.set b {} } }
    if s.fld F.PST_STATUS_PLAIN = 1 then s
    else (s.switchTo 0).setFld F.PST_INACTIVE_SET 0
  else ({ s with pst := { s.pst with banks := s.pst.banks.set s.pstSpare {} } }).setFld F.PST_INACTIVE_SET 0

end Sys2Proof.Machine
end

