-- ==== Sys2Proof/Machine/Vec.lean ====
section
/-!
DEFINITION. The meanings of the vector retrieval commands (spec/08_vector_search.md).
-/
namespace Sys2Proof.Machine

open Sys2Proof

/-! ### Definition (R291, R316, R317) -/

/-- The anchor of an index (R291). -/
def State.vecAnchor (s : State) (i : Nat) : Nat := s.serverOf (i % s.width)

/-- A command that the anchor serves for an index waits for those that reached it before (R291). -/
def State.vecBusy (s : State) (entry i : Nat) (e : Entry) : Bool :=
  s.anchorTaken entry e [0x60, 0x61, 0x6C] fun p => vpIndex p = i

/-- VEC_DEFINE at its anchor and at every member (R291, R295). -/
def State.defineIndex (s : State) (entry : Nat) (e : Entry) : State :=
  (s.setVecIndex (vpIndex e.packet) { desc := e.block.take 128, comp := pkComp e.packet }).dispatch entry s.members 16 fun o =>
    { o with countDone := e.share s.members.length }

/-- VEC_DEFINE (R291, R295): the entry lists are read at the intake member (R296), the anchor then reaches every member. -/
def execVecDefine (entry : Nat) (s : State) : Res :=
  match s.runnable entry 0x60 with
  | none => .next s
  | some e =>
    let i := vpIndex e.packet
    let d := e.block.take 128
    if e.part then .next (s.defineIndex entry e)
    else
      match s.prepareRanges entry (if e.proxy.isSome then [] else s.entryLists d) [] with
      | (s, true) => .next s
      | (s, false) =>
        match s.readRanges (if e.proxy.isSome then [] else s.entryLists d) with
        | (s, some (st, sub)) => .next (s.failWith entry st sub)
        | (s, none) =>
          if e.proxy.isNone && !s.entriesOk d then .next (s.failWith entry St.badParam 0x42)
          else if s.vecAnchor i != s.sys.member then .next (s.forward entry (s.vecAnchor i) 16)
          else if s.vecBusy entry i e then .next s
          else if (s.vecIndex i).isSome then .next (s.failWith entry St.badParam 0x4A)
          else .next (s.defineIndex entry e)

/-- VEC_DROP at its anchor and at every member (R316, R324). -/
def State.removeIndex (s : State) (entry : Nat) (e : Entry) : State :=
  (s.dropIndex (vpIndex e.packet)).dispatch entry s.members 16 fun o => { o with countDone := e.share s.members.length }

/-- VEC_DROP (R316, R324). -/
def execVecDrop (entry : Nat) (s : State) : Res :=
  match s.runnable entry 0x61 with
  | none => .next s
  | some e =>
    let i := vpIndex e.packet
    let used := !(s.entriesWhere fun k f => k != entry && f.accepted && decide (0x60 ≤ pkOpcode f.packet) &&
      decide (pkOpcode f.packet ≤ 0x6C) && vpIndex f.packet = i).isEmpty
    if e.part then .next (s.removeIndex entry e)
    else if s.vecAnchor i != s.sys.member then .next (s.forward entry (s.vecAnchor i) 16)
    else if s.vecBusy entry i e then .next s
    else match s.vecIndex i with
    | none => .next (s.failWith entry St.badParam 0x41)
    | some x =>
      if used || x.running then .next (s.failWith entry St.badParam 0x4A) else .next (s.removeIndex entry e)

/-- VEC_QUERY (R317): each member counts the nodes and log entries it holds. -/
def execVecQuery (entry : Nat) (s : State) : Res :=
  match s.runnable entry 0x62 with
  | none => .next s
  | some e =>
    match s.vecIndex (vpIndex e.packet) with
    | none => .next (s.finish entry id)
    | some x =>
      .next (s.dispatch entry s.members 0 fun o => { o with
        result0 := o.result0 + s.nodesHere x.desc isLive + 2 ^ 32 * s.nodesHere x.desc isTomb
        result1 := e.share (1 + 2 * b2n x.running + 65536 * x.pass)
        countDone := s.nodesHere x.desc fun w => wordState w = 0
        countAux := s.vec.pend.countP fun p => p.index = vpIndex e.packet })

/-! ### Search (R302 to R312, R318) -/

/-- Start a walk: it takes a unit or waits for one (R302). -/
def State.startWalk (s : State) (x : Walk) : State :=
  let n := s.vec.nextWalk
  let s := { s with vec := { s.vec with nextWalk := n + 1 } }
  match s.pickUnit with
  | some u => s.setWalk n { x with unit := some u }
  | none =>
    ({ (s.setWalk n x) with vec := { (s.setWalk n x).vec with waiting := s.vec.waiting ++ [n] } }).raise F.VEC_EVENT_WALK_WAIT

/-- Waiting walks take the units that have become free, in order of arrival. -/
def State.placeWalks (s : State) : State :=
  s.vec.waiting.foldl (fun (s : State) n =>
    match s.vec.walks.find? n, s.pickUnit with
    | some x, some u =>
      if s.vec.waiting.head? = some n then
        let s := s.setWalk n { x with unit := some u }
        { s with vec := { s.vec with waiting := s.vec.waiting.drop 1 } }
      else s
    | none, _ => { s with vec := { s.vec with waiting := s.vec.waiting.filter (· != n) } }
    | _, none => s) s

/-- The parts a search walks (R309). -/
def searchParts (d : List Byte) (p : Packet) : List Nat :=
  (vdPartList d).filter fun q => vpPartMask p = 0 || (vpPartMask p).testBit q

/-- The effect class of a search's output (R313). -/
def searchClass (p : Packet) : Nat := if vpHostOut p = 0 then 4 else 2

/-- A walk of one part for a search. -/
def searchWalk (entry item : Nat) (e : Entry) (d : List Byte) (q : Nat) (mirror : Bool) : Walk :=
  let p := e.packet
  let v := queryOf d p e.block
  { entry := entry, item := item, index := vpIndex p, part := q, mirror := mirror, insert := false, unit := none
    k := vpK p, l := vpL p, w := vpW p, budget := vpMaxExpand p, widen := vpWiden p, widenBudget := vpWidenBudget p
    routeTomb := vpRouteTomb p, clauses := searchClauses p e.block
    queryPq := v.1.map codeOf, queryExact := v.2.map codeOf, qfmt := vpQfmt p }

/-- A part is walked here. -/
def State.walkHere (s : State) (entry : Nat) (e : Entry) (d : List Byte) (q : Nat) (mirror : Bool) : State :=
  let (s, item) := s.localItem entry 0
  s.startWalk (searchWalk entry item e d q mirror)

/-- The item that has part `q` walked at another member: its walk site, or the holder of its region's mirror (R309, R311). -/
def walkItem (entry m : Nat) (e : Entry) (q : Nat) (mirror : Bool) : Away :=
  phaseItem (some entry) m (if mirror then 64 else q) e.epoch false e.src (q + 1 + 64 * b2n mirror) e.packet e.block

/-- One copy of a part's walk is issued. -/
def State.issueWalk (s : State) (entry m : Nat) (e : Entry) (d : List Byte) (q : Nat) (mirror : Bool) : State :=
  if m = s.sys.member then s.walkHere entry e d q mirror else s.sendItem (walkItem entry m e q mirror) 0

/-- The member that holds the mirror of a part's region (R311). -/
def State.walkMirror (s : State) (d : List Byte) (q : Nat) : Option Nat :=
  if vdSpread d || !s.mirrored (vdRegion d q / 4096) then none else s.partnerOf q

/-- A part's walk is issued, twice with TWIN = 1 (R309, R311). -/
def State.walkPart (s : State) (entry : Nat) (e : Entry) (d : List Byte) (q : Nat) : State :=
  let a := s.rack.nextItem
  let s := s.issueWalk entry (s.walkSite d q) e d q false
  match if pkTwin e.packet then s.walkMirror d q else none with
  | none => s
  | some m =>
    let b := s.rack.nextItem
    (s.issueWalk entry m e d q true).linkTwins entry a b

/-- A search begins: the walks of every part it names, or at another member the one it was asked for (R309). -/
def State.startSearch (s : State) (entry : Nat) (e : Entry) (d : List Byte) : State :=
  let s := s.modEntry entry fun e => { e with stage := 1, second := if vdSpread d then .rowMirror else .none }
  if e.part then s.walkHere entry e d ((e.version - 1) % 64) (decide (e.version > 64))
  else (searchParts d e.packet).foldl (fun (s : State) q => s.walkPart entry e d q) s

/-- The walks of a command. -/
def State.walksOf (s : State) (entry : Nat) : List (Nat × Walk) := s.vec.walks.cells.filter fun c => c.2.entry = entry

/-- The output of a search (R318). -/
def searchOutput (metric k : Nat) (ws : List WalkReport) : List FoundNode × List Byte :=
  let before (a b : FoundNode) : Bool := distBefore (a.dist, a.part, a.node) (b.dist, b.part, b.node)
  let sorted := (ws.map (·.results)).flatten.foldl (fun (l : List FoundNode) r =>
    let lo := l.takeWhile fun y => !before r y
    lo ++ [r] ++ l.drop lo.length) []
  let found := sorted.take k
  let sum (f : WalkReport → Nat) := (ws.map f).sum
  let flags := ws.foldl (fun (a : FlagRec) w => a.add w.flags) {}
  (found,
    toLe 4 found.length ++ toLe 4 (sum (·.expansions)) ++ toLe 4 (sum (·.widenExpansions)) ++ toLe 4 (sum (·.filtered)) ++
      toLe 4 (sum (·.tombRouted)) ++ toLe 4 (sum (·.unreadable)) ++ toLe 4 (sum (·.visitedFull)) ++ toLe 1 ws.length ++
      toLe 1 metric ++ toLe 2 0 ++ flags.bytes ++
      (found.map fun r => toLe 4 r.node ++ toLe 4 r.dist ++ toLe 4 r.word ++ toLe 1 r.part ++ toLe 3 0).flatten)

/-- The walks of a command leave their units' memory. -/
def State.clearWalks (s : State) (entry : Nat) : State :=
  { s with vec := { s.vec with walks := s.vec.walks.filter fun _ x => x.entry != entry } }

/-- The walks of a search have all ended: their results are merged and go out (R309, R318). -/
def State.endSearch (s : State) (entry : Nat) (e : Entry) (d : List Byte) : State :=
  let p := e.packet
  let ws := ((s.walksOf entry).map fun w => w.2.report) ++ reportsOf 64 e.reply
  let (found, out) := searchOutput (vdMetric d) (vpK p) ws
  let partial' := found.length < vpK p
  let s := (s.clearWalks entry).collectFlags (ws.foldl (fun (a : FlagRec) w => a.add w.flags) {})
  let s := if partial' then s.count F.VEC_COUNT_PARTIAL else s
  let s := s.conclude entry false 0 fun o =>
    let o := if partial' then o.merge St.donePartial 0 else o
    { o with
      result0 := found.length + 2 ^ 32 * ((ws.map fun w => w.expansions).sum)
      countDone := found.length }
  (s.modEntry entry fun e => { e with begun := e.begun ||| searchClass p }).sendOutput entry (vpHostOut p) out

/-- The walk of one part, done for another member, returns its results (R309). -/
def State.returnWalk (s : State) (entry : Nat) : State :=
  let ws := (s.walksOf entry).map fun w => w.2.report
  let s := s.modEntry entry fun e => { e with reply := (ws.map WalkReport.words).flatten }
  (s.clearWalks entry).conclude entry true 0 id

/-- Walks whose other copy has won end (R86). -/
def State.dropLosers (s : State) (entry : Nat) (e : Entry) : State :=
  let lost := (e.items.filter fun i => i.cancelled && i.home = s.sys.member).map (·.id)
  let s := s.modEntry entry fun e => { e with items := e.items.filter fun i => !lost.contains i.id }
  { s with vec := { s.vec with walks := s.vec.walks.filter fun _ x => !(x.entry = entry && lost.contains x.item) } }

/-- A search whose walks have all answered ends. -/
def State.mergeSearch (s : State) (entry : Nat) : State :=
  match s.runnable entry 0x64 with
  | none => s
  | some e =>
    let s := (s.dropLosers entry e).placeWalks
    match s.entry? entry, s.vecIndex (vpIndex e.packet) with
    | some e, some ix =>
      if e.stage = 0 || !e.items.isEmpty then s
      else if e.part then s.returnWalk entry else s.endSearch entry e ix.desc
    | _, _ => s

/-- VEC_SEARCH (R309): a walk of every named part begins at its walk site; when all have answered, their results are merged. -/
def execVecSearch (entry : Nat) (s : State) : Res :=
  match s.runnableStore entry 0x64 with
  | none => .next s
  | some e =>
    match s.vecIndex (vpIndex e.packet) with
    | none => .next (s.failWith entry St.badParam 0x41)
    | some ix => if e.stage = 0 then .next (s.startSearch entry e ix.desc) else .next (s.mergeSearch entry)

/-! ### Insert (R319, R320) -/

/-- A claim is noted. -/
def State.addClaim (s : State) (c : VecClaim) : State := { s with vec := { s.vec with claims := s.vec.claims ++ [c] } }

/-- The claim an insert makes, or the one it made for `owner`. -/
def State.claimOf (s : State) (owner : Nat) (e : Entry) (d : List Byte) : VecClaim :=
  let p := e.packet
  let w := s.nodeWindow d (vpPart p) (vpNode p)
  { entry := owner, index := vpIndex p, part := vpPart p, node := vpNode p, home := s.serverOf w
    addr := wordAddr d w (vpNode p), old := s.wordAt d w (vpNode p) }

/-- The claims of an owner go, whatever became of their nodes. -/
def State.dropClaims (s : State) (owner : Nat) (node : Nat) : State :=
  { s with vec := { s.vec with claims := s.vec.claims.filter fun c => !(c.entry = owner && c.node = node) } }

/-- The node's word is claimed (R319 step 1). -/
def State.claimNode (s : State) (owner : Nat) (e : Entry) (d : List Byte) : State :=
  let p := e.packet
  (s.setWords d [s.nodeWindow d (vpPart p) (vpNode p)] (vpNode p) (2 ^ 30 + vpAttr p)).addClaim (s.claimOf owner e d)

/-- Claim the node whose word stands in `r`: true when that has been done; else it waits or has failed. -/
def State.claimAt (s : State) (entry owner : Nat) (e : Entry) (d : List Byte) (r : List (Nat × Nat)) : State × Bool :=
  match s.prepareRanges entry [] r with
  | (s, true) => (s, false)
  | (s, false) =>
    match s.readRanges r with
    | (s, some (st, _)) => (s.failWith entry st 0x40, false)
    | (s, none) =>
      if wordState (s.wordAt d (s.nodeWindow d (vpPart e.packet) (vpNode e.packet)) (vpNode e.packet)) != 0 then
        (s.failWith entry St.badParam 0x47, false)
      else (s.claimNode owner e d, true)

/-- Claim the node at its home, which this member is. -/
def State.tryClaim (s : State) (entry owner : Nat) (e : Entry) (d : List Byte) : State × Bool :=
  s.claimAt entry owner e d [(wordAddr d (s.nodeWindow d (vpPart e.packet) (vpNode e.packet)) (vpNode e.packet), 4)]

/-- The walk of an insert (R319 step 2). -/
def insertWalk (entry item : Nat) (e : Entry) (d : List Byte) : Walk :=
  let p := e.packet
  let (qp, qe) := queryOf d p e.block
  { entry := entry, item := item, index := vpIndex p, part := vpPart p, insert := true
    unit := none, k := vdDegree d, l := vpL p, w := vpW p, budget := vpMaxExpand p, widen := false
    widenBudget := 0, routeTomb := vpRouteTomb p, clauses := [], queryPq := qp.map codeOf
    queryExact := qe.map codeOf, qfmt := vpQfmt p }

/-- Its walk begins. -/
def State.beginInsert (entry : Nat) (e : Entry) (d : List Byte) (s : State) : State :=
  let s := (s.conclude entry true 0 id).modEntry entry fun e => { e with stage := 2, second := .none }
  match s.localItem entry 0 with
  | (s, item) => s.startWalk (insertWalk entry item e d)

/-- Log or apply one back edge at the home of its target (R319 step 5, R320): whether it was made, whether it was dropped, what it
met. -/
def State.backEdge (s : State) (d : List Byte) (i part v n : Nat) : State × Nat × Bool × Option (Nat × Nat) :=
  if vdPendMib d != 0 then
    match s.logBackEdge d i part v n with
    | (s, true) => (s, 1, false, none)
    | (s, false) => (s, 0, true, none)
  else match s.repairNode d part v [n] with
    | (s, none) => (s, 1, false, none)
    | (s, some f) => (s, 0, false, some f)

/-- What a back edge applied at once reads and writes (R322); one that is logged writes the log alone. -/
def State.backRanges (s : State) (d : List Byte) (part v n : Nat) : List (Nat × Nat) × List (Nat × Nat) :=
  if vdPendMib d != 0 then ([], []) else (s.repairRanges d part v [n], [edgeRange d part v])

/-- A back edge for another member's insert. -/
def State.backEdgeFor (s : State) (entry : Nat) (e : Entry) (d : List Byte) (v : Nat) : State :=
  let p := e.packet
  let r := s.backRanges d (vpPart p) v (vpNode p)
  match s.prepareRanges entry r.1 r.2 with
  | (s, true) => s
  | (s, false) =>
    let (s, made, dropped, f) := s.backEdge d (vpIndex p) (vpPart p) v (vpNode p)
    s.conclude entry true 0x80 fun o =>
      let o := match f with
        | some (st, _) => o.merge st 0x40
        | none => if dropped then o.merge St.donePartial 0 else o
      { o with countDone := made }

/-- What a node home does for another member's insert (R319): stage 1 claims the node, 2 releases the claim, 3 ends it, 4 + v makes the
back edge of node v. -/
def State.insertFor (s : State) (entry : Nat) (e : Entry) (d : List Byte) : State :=
  let owner := itemWaiter ((e.proxy.map (·.origin)).getD 0) 0
  let p := e.packet
  match e.version with
  | 1 =>
    match s.tryClaim entry owner e d with
    | (s, true) => s.conclude entry true 0 id
    | (s, false) => s
  | 2 =>
    let mine := s.vec.claims.filter fun c => c.entry = owner && c.index = vpIndex p && c.node = vpNode p
    ((mine.foldl (fun (s : State) c => s.releaseClaim owner c) s).dropClaims owner (vpNode p)).conclude entry true 0 id
  | 3 => (s.dropClaims owner (vpNode p)).conclude entry true 0 id
  | v => s.backEdgeFor entry e d (v - 4)

/-- VEC_INSERT step 1 and the start of step 2 (R319): claims the node at its home and walks its part. A part that another member
walks is inserted into there. -/
def execVecInsert (entry : Nat) (s : State) : Res :=
  match s.runnableStore entry 0x68 with
  | none => .next s
  | some e =>
    let p := e.packet
    match s.vecIndex (vpIndex p) with
    | none => .next (s.failWith entry St.badParam 0x41)
    | some ix =>
      let d := ix.desc
      let home := s.nodeHome d (vpPart p) (vpNode p)
      if e.part then .next (s.insertFor entry e d)
      else if s.walkSite d (vpPart p) != s.sys.member then .next (s.forward entry (s.walkSite d (vpPart p)) 0xC1)
      else if home = s.sys.member then
        match s.tryClaim entry entry e d with
        | (s, true) => .next (s.beginInsert entry e d)
        | (s, false) => .next s
      else if e.stage = 0 then
        .next (((s.addClaim (s.claimOf entry e d)).sendStage entry home 1 0).modEntry entry fun e => { e with stage := 1 })
      else if !e.items.isEmpty then .next s
      else if e.out.status != St.done then .next ((s.dropClaims entry (vpNode p)).conclude entry false 0 fun o => { o with absent := 0xFF })
      else .next (s.beginInsert entry e d)

/-- The records a committing insert writes: vector, code, edge list. -/
def State.insertWrites (s : State) (d : List Byte) (e : Entry) (x : Walk) : List (Nat × List Byte) :=
  let p := e.packet
  let q := vpPart p
  let n := vpNode p
  let v := blockVector d p e.block
  let v := if vdMetric d = 2 then (normalise v).getD v else v.map toFp32
  let row := (encodeRow (vdVfmt d) { mode := 0, seed := 0, step := 0 } true 0 (v.map fun y => (y, true))).1
  let row := row ++ List.replicate (vdStride d - row.length) 0
  let stored := (decodeRow (vdVfmt d) row (vdDim d)).map toFp32
  let near := (x.results.take x.k).map (·.node)
  let edges := near ++ List.replicate (vdDegree d - near.length) 0xFFFFFFFF
  [((vecRange d q n).1, row)] ++
    (if vdPqM d = 0 then [] else [((codeRange d q n).1, s.pqCodes d (s.nodeWindow d q n) stored)]) ++
    [((edgeRange d q n).1, (edges.map (toLe 4)).flatten)]

/-- Write several records; the first failure ends it. -/
def State.writeAll (s : State) : List (Nat × List Byte) → State × Option (Nat × Nat)
  | [] => (s, none)
  | (a, b) :: r =>
    let s := (s.accessPages true (pagesOf a b.length)).1
    match s.writeStore a b with
    | (s, none) => s.writeAll r
    | (s, some f) => (s, some f)

/-- The nodes of the new edge record, and those of them whose back edges are made here. -/
def Walk.near (x : Walk) : List Nat := (x.results.take x.k).map (·.node)

/-- The copies of the word that a committing insert writes, and what its back edges here read and write. -/
def State.commitRanges (s : State) (d : List Byte) (e : Entry) (x : Walk) : List (Nat × Nat) × List (Nat × Nat) :=
  let q := vpPart e.packet
  let n := vpNode e.packet
  let back := (x.near.filter fun v => s.nodeHere d q v).map fun v => s.backRanges d q v n
  ((back.map (·.1)).flatten, (s.vecWindows d q).map (fun w => (wordAddr d w n, 4)) ++ (back.map (·.2)).flatten)

/-- An insert ends without its commit: nothing reaches the node (R319). -/
def State.undoInsert (s : State) (entry : Nat) (x : Walk) (st absent : Nat) : State :=
  let s := (s.dropWalks entry).modEntry entry fun e => { e with out := { e.out with absent := absent } }
  (s.answerItem entry x.item st 0x40 true).placeWalks

/-- The insert's walk is over: its item answers. -/
def State.endInsert (s : State) (entry w : Nat) (x : Walk) (st sub : Nat) : State :=
  (({ s with vec := { s.vec with walks := s.vec.walks.erase w } }).answerItem entry x.item st sub true).placeWalks

/-- Steps 4 and 5 of an insert (R319, R320), its records being written. -/
def State.commitNode (s : State) (entry w : Nat) (e : Entry) (d : List Byte) (x : Walk) : State :=
  let p := e.packet
  let q := vpPart p
  let n := vpNode p
  let home := s.nodeHome d q n
  let s := s.setWords d (s.wordWindows d q n) n (2 ^ 30 + vpAttr p)
  let s := s.dropClaims entry n
  let s := if home = s.sys.member then s else s.sendStage entry home 3 0
  let (s, made, dropped, f) := (x.near.filter fun v => s.nodeHere d q v).foldl
    (fun (acc : State × Nat × Bool × Option (Nat × Nat)) v =>
      let (s, made, dropped, f) := acc
      let (s, k, drop, g) := s.backEdge d x.index q v n
      (s, made + k, dropped || drop, if f.isSome then f else g)) (s, 0, false, none)
  let far := x.near.filter fun v => !s.nodeHere d q v
  let s := far.foldl (fun (s : State) v => s.sendStage entry (s.nodeHome d q v) (4 + v) (if vdPendMib d != 0 then 0x80 else 0x01)) s
  let s := s.modEntry entry fun e => { e with
    begun := e.begun ||| 0x41 ||| (if vdPendMib d != 0 then 0x80 else 0)
    out := { e.out with result0 := x.near.length, countDone := made, countAux := x.expansions } }
  match f with
  | some (st, _) =>
    (s.modEntry entry fun e => { e with out := { e.out with absent := absentOf e.begun } }).endInsert entry w x st 0x40
  | none => s.endInsert entry w x (if dropped then St.donePartial else St.done) 0

/-- The records of an insert are written and every home has said so: it commits, or is undone where one failed. -/
def State.publishInsert (s : State) (entry w : Nat) (d : List Byte) (x : Walk) : State :=
  match s.entry? entry with
  | none => s
  | some e =>
    if e.items.any fun i => i.home != s.sys.member then s
    else if e.out.status != St.done then s.undoInsert entry x e.out.status 0xFE
    else
      let r := s.commitRanges d e x
      match s.prepareRanges entry r.1 r.2 with
      | (s, true) => s
      | (s, false) => s.commitNode entry w e d x

/-- Steps 3 to 5 of an insert (R319, R320). -/
def State.commitInsert (s : State) (entry w : Nat) (e : Entry) (d : List Byte) (x : Walk) : State :=
  match x.fail with
  | some (st, _) => s.undoInsert entry x st 0xFF
  | none =>
    if e.stage ≥ 3 then s.publishInsert entry w d x
    else
      match s.prepareRanges entry [] ((s.insertWrites d e x).map fun w => (w.1, w.2.length)) with
      | (s, true) => s
      | (s, false) =>
        match s.writeAll (s.insertWrites d e x) with
        | (s, some (st, _)) => s.undoInsert entry x st 0xFE
        | (s, none) =>
          (s.modEntry entry fun e => { e with stage := 3, begun := e.begun ||| 1 }).publishInsert entry w d x

/-- One round of a walk, in the copy it reads (R311): a walk of the mirror reads the copies held of others' regions. -/
def State.walkOn (s : State) (d : List Byte) (x : Walk) : State × Walk :=
  if x.mirror then
    match { s with store := { s.store with mem := s.store.mirrorMem, grans := s.store.mirrorGrans } }.walkStep d x with
    | (t, x) =>
      ({ t with store := { t.store with
          mem := s.store.mem, mirrorMem := s.store.mirrorMem, grans := s.store.grans, mirrorGrans := t.store.grans } }, x)
  else s.walkStep d x

/-- What a walk reads next may be read: true when that waits. The edge records and the vectors it ranks are counted where they lie
(R310). -/
def State.walkReady (s : State) (d : List Byte) (x : Walk) : State × Bool :=
  if x.mirror then (s, false)
  else
    let s := s.modEntry x.entry fun e => { e with
      rowAt := x.picks.map fun u => (edgeRange d x.part u).1
      rankAt := (x.pickWords.filter fun u => isLive u.2).map fun u => (vecRange d x.part u.1).1 }
    s.prepareRanges x.entry (s.walkRanges d x) []

/-- A walk has ended: its search has one result more, or its insert commits. -/
def State.walkEnded (s : State) (walk : Nat) (e : Entry) (d : List Byte) (x : Walk) : State :=
  if x.insert then s.commitInsert x.entry walk e d x
  else
    let f := x.fail.getD (St.done, 0)
    (s.answerItem x.entry x.item f.1 f.2 true).mergeSearch x.entry

/-- WALK_ROUND (R304): the replies of a round are applied and the next expansions picked; a walk that stops ends its search
with the last of its walks, or commits its insert. -/
def execWalkRound (walk : Nat) (s : State) : Res :=
  match s.vec.walks.find? walk with
  | none => .next s
  | some x =>
    match s.entry? x.entry, s.vecIndex x.index with
    | some e, some ix =>
      let d := ix.desc
      if x.ended then .next (s.walkEnded walk e d x)
      else if x.unit.isNone then .next s
      else
        match s.walkReady d x with
        | (s, true) => .next s
        | (s, false) =>
          let (s, x) := s.walkOn d x
          let x := if x.ended then { x with unit := none } else x
          let s := (s.setWalk walk x).dropFetched x.entry
          if x.ended then .next (s.placeWalks.walkEnded walk e d x) else .next s
    | _, _ => .next s

/-! ### Delete and repair (R321 to R324) -/

/-- The nodes a delete names. -/
def State.deleteNodes (s : State) (p : Packet) : List Nat :=
  if vpList p then s.elems (vpListRsa p) 4 (vpCount p) else (List.range (vpCount p)).map fun i => vpNode p + i

/-- The nodes of a delete that are homed here become TOMB (R321), the node home's copy of each word first. -/
def State.deleteHere (s : State) (entry : Nat) (d : List Byte) (q : Nat) (nodes mine : List Nat) : State :=
  let homes := nodes.foldl (fun l n => addNew l (s.nodeHome d q n)) []
  let s := s.sendParts entry homes 64
  let (s, done) := mine.foldl (fun (acc : State × Nat) n =>
    let v := acc.1.homeWord d q n
    if isLive v then (acc.1.setWords d (s.wordWindows d q n) n (2 ^ 31 + wordAttr v), acc.2 + 1) else acc) (s, 0)
  s.conclude entry (homes.contains s.sys.member) 64 fun o => { o with countDone := done, countAux := mine.length - done }

/-- VEC_DELETE (R321): each node home changes the nodes it homes, and waits for inserts of them (R319). -/
def execVecDelete (entry : Nat) (s : State) : Res :=
  match s.runnableStore entry 0x69 with
  | none => .next s
  | some e =>
    let p := e.packet
    match s.vecIndex (vpIndex p) with
    | none => .next (s.failWith entry St.badParam 0x41)
    | some ix =>
      let d := ix.desc
      let q := vpPart p
      let list := if vpList p then [(vpListRsa p, 4 * vpCount p)] else []
      match s.prepareRanges entry list [] with
      | (s, true) => .next s
      | (s, false) =>
        match s.readRanges list with
        | (s, some (st, sub)) => .next (s.failWith entry st sub)
        | (s, none) =>
          let nodes := s.deleteNodes p
          let mine := nodes.filter fun n => s.nodeHere d q n
          if nodes.any fun n => decide (vdNodes d ≤ n) then .next (s.failWith entry St.badParam 0x48)
          else if s.vec.claims.any fun c => c.home = s.sys.member && c.index = vpIndex p && c.part = q && mine.contains c.node then
            .next s
          else
            match s.prepareRanges entry [] ((mine.map fun n => (s.vecWindows d q).map fun w => (wordAddr d w n, 4)).flatten) with
            | (s, true) => .next s
            | (s, false) => .next (s.deleteHere entry d q nodes mine)

/-- VEC_REPAIR (R323 step 1): the anchor has every member start the pass on the nodes it homes. -/
def execVecRepair (entry : Nat) (s : State) : Res :=
  match s.runnableStore entry 0x6C with
  | none => .next s
  | some e =>
    let i := vpIndex e.packet
    if !e.part && s.vecAnchor i != s.sys.member then .next (s.forward entry (s.vecAnchor i) 16)
    else if !e.part && s.vecBusy entry i e then .next s
    else match s.vecIndex i with
    | none => .next (s.failWith entry St.badParam 0x41)
    | some x =>
      if !e.part && x.running then .next (s.failWith entry St.badParam 0x4A)
      else
        let (s, n) := (s.serving entry).startPass i x
        .next (s.dispatch entry s.members 16 fun o =>
          { o with result0 := e.share ((x.pass + 1) % 65536), countDone := e.share s.members.length, countAux := n })

/-- The number under which an index's passes access the store. -/
def passWaiter (index : Nat) : Nat := 2 ^ 42 + index

/-- The next node of a pass at this member: a position counted through the parts, at or after `from'`, of a node homed
here. -/
def State.nextRepair (s : State) (d : List Byte) (from' : Nat) : Option Nat :=
  let total := (vdPartList d).length * vdNodes d
  ((List.range (total - from')).find? fun k => s.nodeHere d ((from' + k) / vdNodes d) ((from' + k) % vdNodes d)).map (from' + ·)

/-- The node at a position of a pass is repaired (R322), its pending entries are consumed. -/
def State.repairAt (s : State) (index k w used : Nat) (x : VecIndex) (mine : List PendEntry) : State :=
  let d := x.desc
  let part := k / vdNodes d
  let n := k % vdNodes d
  let s := if isLive (s.homeWord d part n) then (s.repairNode d part n (mine.map (·.source))).1 else s
  let s := if mine.isEmpty then s
    else ({ s with vec := { s.vec with pend := s.vec.pend.filter fun p => !mine.contains p } }).writeLog d index (s.nodeWindow d part n)
  (s.dropFetched (passWaiter index)).setVecIndex index
    { x with next := k + 1, repaired := satInc 32 x.repaired, rateWindow := w, rateUsed := used + 1 }

/-- VEC_REPAIR_NODE_START (R322, R323 step 2): the next node homed here, at most RATE in 1,024 frames. -/
def execVecRepairNodeStart (index : Nat) (s : State) : Res :=
  match s.vecIndex index with
  | none => .next s
  | some x =>
    let d := x.desc
    let w := s.frame / 1024
    let used := if x.rateWindow = w then x.rateUsed else 0
    if !x.running || used ≥ max 1 (s.fld F.VEC_REPAIR_CFG_RATE) || !s.storeUp then .next s
    else match s.nextRepair d x.next with
    | none => .next (s.setVecIndex index { x with next := (vdPartList d).length * vdNodes d })
    | some k =>
      let part := k / vdNodes d
      let n := k % vdNodes d
      let mine := s.vec.pend.filter fun p => p.index = index && p.window = s.nodeWindow d part n && p.target = n
      match s.prepareRanges (passWaiter index) (s.repairRanges d part n (mine.map (·.source))) [edgeRange d part n] with
      | (s, true) => .next s
      | (s, false) => .next (s.repairAt index k w used x mine)

/-- What the anchor reads at the end of a pass (R323 step 3): the entry lists, the words of the entry points and their edge lists
with the words of the nodes these name. -/
def State.passRanges (s : State) (d : List Byte) : List (Nat × Nat) :=
  let word (q n : Nat) : Nat × Nat := (wordAddr d (s.siteWindow d q) n, 4)
  s.entryLists d ++ ((vdPartList d).map fun q => ((s.vecWindows d q).map fun w =>
    ((s.elems (vdRegion d w + vdEntryAt d) 4 (vdEntries d)).map fun n =>
      word q n :: edgeRange d q n :: (s.edgesOf d q n).map (word q)).flatten).flatten).flatten

/-- The entry points of a window after a pass (R323 step 3): one that is not LIVE gives way to the first LIVE node of its
edge list. -/
def State.newEntries (s : State) (d : List Byte) (part w : Nat) : List Nat :=
  (s.elems (vdRegion d w + vdEntryAt d) 4 (vdEntries d)).map fun n =>
    if isLive (s.siteWord d part n) then n
    else ((s.edgesOf d part n).find? fun u => isLive (s.siteWord d part u)).getD n

/-- The anchor replaces the entry points of every window (R323 step 3). -/
def State.replaceEntries (s : State) (d : List Byte) : State :=
  (vdPartList d).foldl (fun (s : State) q => (s.vecWindows d q).foldl (fun (s : State) w =>
    s.storeBytes (vdRegion d w + vdEntryAt d) (((s.newEntries d q w).map (toLe 4)).flatten)) s) s

/-- The pass ends at this member (R323 step 4). -/
def State.passEnded (s : State) (index : Nat) (x : VecIndex) : State :=
  let s := (s.changeWords x.desc (fun v => wordState v = 3) wordAttr).1
  ((s.dropFetched (passWaiter index)).setVecIndex index { x with running := false }).raise F.VEC_EVENT_PASS_DONE

/-- VEC_PASS_END (R323 steps 3 and 4): every member has finished its nodes. -/
def execVecPassEnd (index : Nat) (s : State) : Res :=
  match s.vecIndex index with
  | none => .next s
  | some x =>
    let d := x.desc
    if !x.running || (s.nextRepair d x.next).isSome then .next s
    else if s.vecAnchor index != s.sys.member then .next ((s.serving (passWaiter index)).passEnded index x)
    else
      match s.prepareRanges (passWaiter index) (s.passRanges d) (s.entryLists d) with
      | (s, true) => .next s
      | (s, false) =>
        match s.readRanges (s.passRanges d) with
        | (s, some _) => .next (s.passEnded index x)
        | (s, none) => .next ((s.replaceEntries d).passEnded index x)

end Sys2Proof.Machine
end

