-- ==== Sys2Proof/Machine/Chk.lean ====
section
/-!
DEFINITION. Checkers and fault injection (spec/13_reliability.md R483, R484, R486, R491, R492).
-/
namespace Sys2Proof.Machine

open Sys2Proof

/-- The fixed severity of a checker, by the SOURCE it reports (R486). -/
def checkerSeverity (chk : Nat) : Nat :=
  let v := Config.checkerSource chk
  if v < 0x10 then 1 else if v < 0x20 then 2 else if v < 0x30 then 3 else if v < 0x40 then 4 else 5

/-- What a collector knows of a checker's error. -/
def checkerError (chk : Nat) (inj : Bool) : ErrInfo :=
  { source := Config.checkerSource chk, severity := checkerSeverity chk, chk := chk
    unitKind := Config.checkerUnitKind chk, unitIndex := Config.checkerUnitIndex chk, inj := inj }

/-- An edge core goes offline for a checker (R486, 0x30, 0x37): its invocation restarts once elsewhere (R252). -/
def State.coreOut (s : State) (c : Nat) (e : ErrInfo) : State :=
  let s := s.logError { e with severity := 4 }
  let s := s.dropCore c e.source
  (s.coreFailed c).requeue c

/-- A walk starts again on another unit, or, when it has done so once, fails as the walk of a LOCAL part does (R486, R302): the
subcode is not stated. -/
def State.restartWalk (s : State) (n : Nat) (x : Walk) : State :=
  if x.restarted then
    (s.setWalk n { x with
      unit := none, ended := true, fail := some (St.poisonRead, Config.openValue s.fresh % 256) }).tickFresh
  else
    let p : Packet := ((s.entry? x.entry).map (·.packet)).getD 0
    let s := s.setWalk n { x with
      unit := none, queue := [], results := [], visited := [], picks := [], begun := false, widening := false
      l := vpL p, budget := vpMaxExpand p, expansions := 0, widenExpansions := 0, filtered := 0, tombRouted := 0, unreadable := 0
      visitedFull := 0, flags := {}, restarted := true }
    { s with vec := { s.vec with waiting := s.vec.waiting ++ [n] } }

/-- A Traverse unit goes offline (R486, 0x35): its walks restart once on other units. -/
def State.traverseOut (s : State) (u : Nat) (e : ErrInfo) : State :=
  let s := s.unitOffline e
  let mine := s.vec.walks.cells.filter fun c => c.2.unit == some u && !c.2.ended
  (mine.foldl (fun (s : State) c => s.restartWalk c.1 c.2) s).placeWalks

/-- The unit a checker watches goes offline. -/
def State.unitOut (s : State) (e : ErrInfo) : State :=
  match e.unitKind with
  | 0 => s.coreOut e.unitIndex e
  | 6 => s.traverseOut e.unitIndex e
  | 15 => s.logError { e with severity := 4 }
  | _ => s.unitOffline e

/-- A checker reports an error (R486). -/
def State.checkerFires (s : State) (chk : Nat) (inj : Bool) : State :=
  let e := checkerError chk inj
  match e.severity with
  | 1 => s.corrected (0x80000 + chk) e
  | 2 => s.logError e
  | 3 =>
    if e.source = 0x23 then s.pocketEcc e.unitIndex chk inj
    else
      let s := s.logError e
      if e.source = 0x25 then { s with core := { s.core with slots := s.core.slots.erase e.unitIndex } }
      else if e.source = 0x26 then s.pstBankError false
      else s
  | 4 =>
    if e.source = 0x31 then s.coreWorn e.unitIndex e
    else if e.source = 0x36 then (s.logError e).pstBankError true
    else s.unitOut e
  | _ => s.fatal e

/-- A checker's wire is broken (R484). -/
def State.wireBroken (s : State) (chk : Nat) (inj : Bool) : State :=
  let e := checkerError chk inj
  let s := (s.count F.ERR_COUNT_WIRE).raise F.ERR_EVENT_WIRE
  if e.severity = 5 then s.fatal { e with source := 0x42 } else s.unitOut { e with source := 0x37, severity := 4 }

def State.checker (s : State) (chk : Nat) : Checker := s.err.checkers.getD chk {}
def State.setChecker (s : State) (chk : Nat) (x : Checker) : State :=
  { s with err := { s.err with checkers := s.err.checkers.set chk x } }

/-- A collector has seen a state of a pair long enough (R483): quiet, an error, or a broken wire. -/
def State.checkerSeen (s : State) (chk : Nat) (railT railC inj : Bool) : State :=
  let x := s.checker chk
  if s.chkMasked chk || 3072 ≤ chk then s
  else
    let x := { x with railT := railT, railC := railC }
    if railT != railC then
      if !railT then s.setChecker chk x
      else (s.setChecker chk { x with count := satInc 16 x.count }).checkerFires chk inj
    else (s.setChecker chk { x with count := satInc 16 x.count }).wireBroken chk inj

/-- CHECKER_ERROR (R483): the rails of a pair, as seen. -/
def execCheckerError (chk : Nat) (railT railC : Bool) (s : State) : Res := .next (s.checkerSeen chk railT railC false)

/-! ### Fault injection (R491, R492) -/

/-- A FIRE is refused (R491, R493). -/
def State.injRefused (s : State) : Bool :=
  let t := s.fld F.ERR_INJ_CFG_TARGET
  let chk := s.fld F.ERR_INJ_ADDR_LO_ADDR % 4096
  (s.sys.debug != .invasive && s.sys.debug != .maker) || !s.running || decide (7 ≤ t) ||
    (t = 6 && checkerSeverity chk = 5 && s.fld F.ERR_INJ_CFG_FATAL_OK = 0)

/-- Whether the check bits that a PATTERN inverts leave an error the code corrects: one bit does. -/
def injCorrectable (pattern mask : Nat) : Bool :=
  if pattern = 1 then false else if pattern = 2 then popCount 32 mask = 1 else true

/-- A granule of memory is rewritten with inverted check bits, in the copies SIDE selects (R492). -/
def State.injectGranule (s : State) (g side pattern mask : Nat) : State :=
  let c : Bool := if pattern = 2 then decide (popCount 4 (b2n (mask % 256 != 0) + 2 * b2n (mask / 256 % 256 != 0) +
      4 * b2n (mask / 65536 % 256 != 0) + 8 * b2n (mask / 16777216 != 0)) = 1) else injCorrectable pattern mask
  let none' : Bool := pattern = 2 && mask = 0
  let x := s.gran g
  if none' then s
  else
    let home : Bool := side != 1
    let twin : Bool := side = 1 || side = 2
    let x := if home && c then { x with corrupt := true, injected := true } else x
    let x := if home && !c then { x with damaged := true, injected := true } else x
    let other : MirrorCopy := x.mirror.getD { data := s.bytes (g * 128) 128, wgen := x.wgen, poison := x.poison, damaged := false }
    let x := if twin && !c then { x with mirror := some { other with damaged := true }, injected := true } else x
    s.setGran g x

/-- The action of an injection (R492). -/
def State.injectAct (s : State) (target side pattern addr mask : Nat) : State :=
  match target with
  | 0 | 1 => s.injectGranule (addr / 128) side pattern mask
  | 2 => if pattern = 2 then s else (pageGranules (addr / 128)).foldl (fun (s : State) g => s.injectGranule g side 1 0) s
  | 3 =>
    let c := addr / 2 ^ 32 % 2048
    let w := nbf addr 17 3
    if pattern = 2 && mask = 0 then s
    else s.setEdge c { s.edge c with flips := ((s.edge c).flips.filter fun f => f.1 != w) ++ [(w, injCorrectable pattern mask)] }
  | 4 =>
    let k := s.ownSlot * 2 ^ 18 + addr % 2 ^ 18
    if pattern = 2 && mask = 0 then s
    else { s with gate := { s.gate with flips := s.gate.flips.set k (if injCorrectable pattern mask then 1 else 2) } }
  | _ =>
    let chk := addr % 4096
    if s.chkMasked chk then s
    else
      let s := match pattern with
        | 1 => s.checkerSeen chk false false true
        | 2 => s.checkerSeen chk true true true
        | _ => s.checkerSeen chk true false true
      -- the pair is released after 16 cycles
      s.setChecker chk { s.checker chk with railT := false, railC := true }

/-- An injection ends (R493). -/
def State.injDone (s : State) (refused : Bool) : State :=
  (((s.setFld F.ERR_INJ_STATUS_DONE 1).setFld F.ERR_INJ_STATUS_REFUSED (b2n refused)).raise F.ERR_EVENT_INJ_DONE)

/-- ERR_INJ_CTRL.FIRE (R491, R492). An address that this member does not home, or a core or checker that does not exist, is
refused. -/
def execErrInjFire (src : Nat) (s : State) : Res :=
  if !isPf src then .next s
  else
    let t := s.fld F.ERR_INJ_CFG_TARGET
    let side := s.fld F.ERR_INJ_CFG_SIDE % 3
    let pattern := s.fld F.ERR_INJ_CFG_PATTERN % 3
    let addr := s.fld F.ERR_INJ_ADDR_LO_ADDR + 2 ^ 32 * s.fld F.ERR_INJ_ADDR_HI_ADDR
    let mask := s.fld F.ERR_INJ_MASK_MASK
    let s := (s.setFld F.ERR_INJ_STATUS_DONE 0).setFld F.ERR_INJ_STATUS_REFUSED 0
    let reach : Bool := match t with
      | 0 | 1 | 2 => s.isHome addr
      | 3 => decide (addr / 2 ^ 32 % 2048 < 1200)
      | 6 => decide (addr % 4096 < 3072)
      | _ => true
    if s.injRefused || !reach then .next (s.injDone true)
    else if t = 5 then
      -- waits for the next DATA flit of the port
      .next { s with err := { s.err with
        injection := some { target := t, side := side, pattern := pattern, addr := addr, mask := mask } } }
    else .next ((s.injectAct t side pattern addr mask).injDone false)

end Sys2Proof.Machine
end

