-- ==== Sys2Proof/Machine/Cmdq.lean ====
section
/-!
DEFINITION. The meanings of the queue commands (spec/02_command_packets.md): doorbells, fetch, completion, aborts, releases,
enabling and resets of functions.
-/
namespace Sys2Proof.Machine

open Sys2Proof

/-! ### Doorbells (R43, R45, R46, R662) -/

/-- CMDQ_SQ_TAIL (R43): acted on only in ENABLED; a value of the SQ size or more is error 0x1. A doorbell wakes the member
(R551). -/
def execSqTailDoorbell (src qp tail : Nat) (s : State) : Res :=
  if src ≥ 128 || qp ≥ (s.source src).qpAllot then .next s
  else
    let s := s.wake
    let x := s.qp src qp
    if x.state ≠ .enabled then .next s
    else if tail ≥ 2 ^ x.sqLog2 then .next (s.qpError src qp 1)
    else .next (s.setQp src qp { x with sqTail := tail })

/-- CMDQ_CQ_HEAD (R46): ignored in DISABLED; past an entry not written yet, or of the CQ size or more, it is error 0x4. -/
def execCqHeadDoorbell (src qp head : Nat) (s : State) : Res :=
  if src ≥ 128 || qp ≥ (s.source src).qpAllot then .next s
  else
    let s := s.wake
    let x := s.qp src qp
    let n := 2 ^ x.cqLog2
    if x.state = .disabled then .next s
    else if head ≥ n || (head + n - x.cqHead) % n > (x.cqTail + n - x.cqHead) % n then .next (s.qpError src qp 4)
    else .next (s.setQp src qp { x with cqHead := head })

/-! ### Fetch (R41, R44, R64) -/

/-- The conditions of R44 but for the entry: fewer commands in flight than the smaller ring holds. -/
def State.mayFetch (s : State) (src qp : Nat) : Bool :=
  let x := s.qp src qp
  decide (src < 128) && decide (qp < (s.source src).qpAllot) && x.state = .enabled && x.sqHead != x.sqTail &&
    decide (0 < x.cqRoom) && decide ((s.entriesWhere fun _ e => e.src = src && e.qp = qp).length + 1 < 2 ^ x.sqLog2) && !s.sqHeld src qp && s.intakeOpen && s.running && decide (4 ≤ s.fld F.CLK_STARTUP_STAGE)

/-- SQ_FETCH: the packet at the SQ head is read. With no entry available, not even a kept one, nothing is fetched (R64); the access
faults with ATS disabled (R154). -/
def execSqFetch (src qp : Nat) (result : HostResult) (packet : Packet) (s : State) : Res :=
  if !s.mayFetch src qp then .next s
  else if (s.takeData src).isNone && (s.takeControl src).isNone then .next (s.pulse 0x043 src)
  else if !(s.source src).atsEnabled then .next (s.qpError src qp 2)
  else
    let x := s.qp src qp
    let s := (s.ringPage src (x.sqBase + 64 * x.sqHead) false).emit (.hostRead src (x.sqBase + 64 * x.sqHead) 64)
    if result ≠ .ok then .next (s.qpError src qp 2)
    else
    let head := (x.sqHead + 1) % 2 ^ x.sqLog2
    let s := s.setQp src qp { x with sqHead := head, reserved := x.reserved + 1 }
    .next (s.enterPacket { src := src, qp := qp, packet := packet, sqHead := head })

/-! ### BARRIER, completion, coalescing (R59, R66 to R71) -/

/-- BARRIER_RELEASE (R59): every earlier command of the same SQ, or port, has written its completion. -/
def execBarrierRelease (entry : Nat) (s : State) : Res :=
  match s.entry? entry with
  | none => .next s
  | some e =>
    if !e.accepted || !e.barrier ||
        !(s.entriesWhere fun _ x => x.src = e.src && x.qp = e.qp && decide (x.order < e.order)).isEmpty then .next s
    else .next (s.setEntry entry { e with barrier := false })

/-- COMMAND_COMPLETE (R58, R66, R82): the one completion of a command whose outcome stands and whose homes have all answered.
For a host it is written to the CQ, or lost (R50, R88, R662); for an endpoint it is sent as CMD_CPL; what was performed for
another member is answered to it. Its results are written first (R71). -/
def execCommandComplete (entry : Nat) (delivered : Bool) (s : State) : Res :=
  match s.entry? entry with
  | none => .next s
  | some e =>
    if e.phase ≠ .ended || !e.items.isEmpty || e.cplSent.isSome then .next s
    else match s.landResults entry e with
    | (s, false) => .next s
    | (s, true) =>
      let named (s : State) : State :=
        if e.out.area.isSome then
          let x := s.source e.src
          s.setSource e.src { x with
            slots := mapIf (fun (t : Slot) => t.owner = some entry) (fun t => { t with owner := none }) x.slots }
        else s.freeSlotOf entry e.src
      match e.proxy with
      | some x =>
        let data := if e.stop.isSome then [BitVec.ofNat 8 (b2n e.hasBegun)] else e.results
        .next (((s.withdraw entry).answerOrigin x.origin x.item e.out.status e.out.subcode data).endEntry entry e)
      | none =>
      if e.src < 128 then
        let x := s.qp e.src e.qp
        if x.state = .disabled then
          .next ((((s.withdraw entry).migrateOutEnded entry e).freeSlotOf entry e.src).endEntry entry e)
        else if x.silent || !delivered || !(s.source e.src).atsEnabled then
          let s := s.setQp e.src e.qp { x with reserved := x.reserved - 1 }
          let s := if x.silent then s else s.qpError e.src e.qp 3
          .next ((((s.withdraw entry).xltCompleted entry e).freeSlotOf entry e.src).endEntry entry e)
        else .next (((named (s.settle entry e)).writeRecord e).endEntry entry e)
      else
        let p := e.src - 128
        let s := named (s.settle entry e)
        let x := s.source e.src
        let n := s.creditBack p
        let s := s.setSource e.src { x with creditsDue := x.creditsDue + n }
        .next ((s.cmdCpl p e n).setEntry entry { e with cplSent := some n })

/-- CMD_CPL (R51, R53, R61): the completion message reaches the endpoint, with the credits it returns; the entry is free. One
that is dropped with its port (R513) is not delivered (R50). -/
def execCmdCpl (entry : Nat) (delivered : Bool) (s : State) : Res :=
  match s.entry? entry with
  | none => .next s
  | some e =>
    match e.cplSent with
    | none => .next s
    | some n =>
      let x := s.source e.src
      let due := decide (n ≤ x.creditsDue)
      let s := s.setSource e.src { x with
        credits := if delivered && due then x.credits + n else x.credits, creditsDue := x.creditsDue - n }
      let s := if delivered then s
        else match e.out.area with
          | some (h, _) => (s.releaseHandle e.src h).1
          | none => s
      .next (s.endEntry entry e)

/-- FN_CQ_COAL.TIME_US has passed since the oldest unsignalled completion (R70). -/
def execCqCoalesceTimeout (src qp : Nat) (s : State) : Res :=
  if (s.qp src qp).coalTime = 0 then .next s else .next (s.signalCq src qp)

/-! ### Stopping commands, releasing results (R78, R80, R84) -/

/-- FN_CMD_TIMEOUT has passed since a command's acceptance (R84); held gate waits are exempt. -/
def execCommandTimeout (entry : Nat) (s : State) : Res :=
  match s.entry? entry with
  | none => .next s
  | some e =>
    if (s.source e.src).timeoutMs = 0 || pkOpcode e.packet = 0xA1 then .next s else .next (s.stopEntry entry .timeout)

/-- CMDQ_ABORT with ALL = 0 (R80). -/
def execAbortQtag (src qp qtag : Nat) (s : State) : Res :=
  match s.abortAll src qp (some qtag) with
  | (s, true) => .next s
  | (s, false) => .next (s.abortMissed src)

/-- CMDQ_ABORT with ALL = 1 (R80). -/
def execAbortAllQp (src qp : Nat) (s : State) : Res :=
  match s.abortAll src qp none with
  | (s, true) => .next s
  | (s, false) => .next (s.abortMissed src)

/-- CMDQ_RELEASE, and CMDQ_RELEASE2 in a 64-bit write (R78). -/
def execResultRelease (src : Nat) (handles : List Nat) (s : State) : Res :=
  .next (handles.foldl (fun (s : State) h =>
    match s.releaseHandle src h with
    | (s, true) => s
    | (s, false) => s.releaseStale src) s)

/-! ### ENABLE and DISABLE (R47 to R49, R91) -/

/-- The queue pair that FN_QP_SEL names, while it is allotted (R91). -/
def State.selectedQp (s : State) (src : Nat) : Option Nat :=
  let q := s.fldAt src F.FN_QP_SEL_QP
  if src < 128 && q < (s.source src).qpAllot then some q else none

/-- Commands that a reset of the function aborted are still ending (R49). -/
def State.resetEnding (s : State) (src : Nat) : Bool :=
  s.cmdq.entries.cells.any fun c => c.2.src = src && (s.qp src c.2.qp).state = .disabled

/-- FN_QP_CTRL.ENABLE (R48): the indices, the phase and the error of a new life; refused with code 0x5 or 0x6 (R49). -/
def execQpEnable (src : Nat) (s : State) : Res :=
  match s.selectedQp src with
  | none => .next s
  | some q =>
    let x := s.qp src q
    let size (n : Nat) : Bool := decide (4 ≤ n) && decide (n ≤ 16)
    if x.state ≠ .disabled then .next s
    else if s.resetEnding src then .next (s.qpError src q 6)
    else if !size x.sqLog2 || !size x.cqLog2 || x.sqBase % 4096 != 0 || x.cqBase % 4096 != 0 then .next (s.qpError src q 5)
    else .next (s.setQp src q { x with
      state := .enabled, errCode := 0, sqHead := 0, sqTail := 0, cqHead := 0, cqTail := 0, phase := true, reserved := 0
      unsignalled := 0, silent := false })

/-- FN_QP_CTRL.DISABLE (R47, R48): commands already fetched go on. -/
def execQpDisable (src : Nat) (s : State) : Res :=
  match s.selectedQp src with
  | none => .next s
  | some q =>
    let x := s.qp src q
    if x.state = .enabled || x.state = .error then .next ((s.setQp src q { x with state := .draining }).drainQp src q)
    else .next s

/-! ### Function and port resets (R88, R586, R624) -/

/-- A function's own FN registers, those of the administration staging included, stand at their reset values. -/
def State.clearFnRegs (s : State) (src : Nat) : State :=
  let lo := 0x1000000 * (src + 1)
  let x := s.source src
  ({ s with regs := s.regs.filter fun k _ => !(decide (lo + 0x100000 ≤ k) && decide (k < lo + 0x101100)) }).setSource src
    { x with abortMiss := 0, releaseStale := 0, qpErrFirst := none, slots := [] }

/-- One function of a reset (R88): its commands are aborted without a completion, its slots are free, its queue pairs are
DISABLED, its FN registers stand at reset but for its administered settings, its virtual counters are zero and disabled. -/
def State.resetFunction (s : State) (src : Nat) : State :=
  let mine := (s.entriesWhere fun _ e => e.src = src).map (·.1)
  let hit := (s.entriesWhere fun _ e => e.src = src && e.holds).length
  let s := mine.foldl (fun (s : State) id =>
    match s.entry? id with
    | none => s
    | some e =>
      if e.phase = .held then s.dropEntry id
      else if !e.accepted then s.setEntry id { e with stop := some .flr, phase := .ended }
      else s.stopEntry id .flr) s
  let s := s.clearFnRegs src
  let s := { s with
    cmdq := { s.cmdq with qps := s.cmdq.qps.filter fun k _ => k / 2048 != src }
    mgt := { s.mgt with pmcs := s.mgt.pmcs.mapVals fun _ p =>
      if p.assigned && p.func = src then { p with value := 0, en := false } else p } }
  (if hit = 0 then s else s.fnRaise src F.FN_EVENT_FLR_ABORT).takeHeld

/-- A PCIe Function Level Reset (R88). -/
def execFunctionLevelReset (src : Nat) (s : State) : Res := if src < 128 then .next (s.resetFunction src) else .next s

/-- Every function of a port is reset, and CLK_EVENT records it (R586, R88). -/
def State.resetPcie (s : State) (port : Nat) : State :=
  ((List.range 64).foldl (fun (s : State) f => s.resetFunction (64 * port + f)) s).raise F.CLK_EVENT_PORT_RESET

/-- A Hot Reset or link-down of a PCIe port (R88). -/
def execPcieLinkDown (port : Nat) (s : State) : Res := if port < 2 then .next (s.resetPcie port) else .next s

end Sys2Proof.Machine
end

