-- ==== Sys2Proof/Machine/SysOps.lean ====
section
/-!
DEFINITION. The always-on island (spec/15 to spec/17): debug level, sessions, firmware updates under way, the boot chain,
brace, entry to STANDBY, and the start-up reset.
-/
namespace Sys2Proof.Machine

open Sys2Proof

/-! ### Security notices, debug level, sessions (R549, R550, R556, R557) -/

/-- A lifecycle transition, a change of debug level or a refused token is noted in the Sitzmark (R557, R486). -/
def State.securityNote (s : State) : State := s.logError { source := 0x15, severity := 2, security := true }

/-- The debug level is set, with the composition readable and the seconds granted (R550). -/
def State.setDebug (s : State) (l : DebugLevel) (comp remain : Nat) : State :=
  let changed : Bool := s.sys.debug != l
  let s := { s with sys := { s.sys with debug := l, dbgComp := comp, dbgRemain := remain } }
  if changed then (s.raise F.SEC_EVENT_LEVEL_CHANGED).securityNote else s

/-- Every SPDM session ends (R545, R556). -/
def State.endSessions (s : State) : State :=
  { s with
    mgt := { s.mgt with sessions := [] }
    hxl := { s.hxl with ports := s.hxl.ports.mapVals fun _ p => { p with session := false, keysIn := false, nextKeyIn := false } } }

/-- A token verification ends with a CODE (R548, R557): a refusal is noted. -/
def State.tokenDone (s : State) (code : Nat) : State :=
  let s := { s with sys := { s.sys with verifying := none } }
  let s := ((s.setFld F.SEC_TOKEN_STATUS_BUSY 0).setFld F.SEC_TOKEN_STATUS_DONE 1).setFld F.SEC_TOKEN_STATUS_CODE code
  let s := s.raise F.SEC_EVENT_TOKEN_DONE
  if code = 0 then s else s.securityNote

/-- A firmware update ends without an image in its slot (R611): 2 verify failed, 3 cancelled, 4 abandoned. -/
def State.dropUpdate (s : State) (result : Nat) : State :=
  match s.mgt.update with
  | none => s
  | some u =>
    if u.state == .ready then { s with mgt := { s.mgt with update := none } }
    else ({ s with mgt := { s.mgt with update := none, lastResult := result, lastSlot := u.slot } }).raise F.MGT_EVENT_FWUP

/-! ### The boot chain (R530 to R533) -/

/-- An image slot as it stands: what an update has made of it, else what the flash holds. -/
def State.slotImage (s : State) (flash : BootFlash) (i : Nat) : BootImage :=
  (s.sys.slotNow.getD i none).getD (if i = 0 then flash.slotA else flash.slotB)

/-- The header of an image is valid, its SVN included (R530). -/
def State.headerValid (s : State) (x : BootImage) : Bool := x.headerOk && decide (s.sys.svn ≤ x.svn)

/-- Steps 2 to 4 of the boot (R531): the slot booted with BOOT_ERR, or none when both are invalid. -/
def State.chooseSlot (s : State) (flash : BootFlash) : Option (Nat × Nat) :=
  let a := s.slotImage flash 0
  let b := s.slotImage flash 1
  let va := s.headerValid a
  let vb := s.headerValid b
  if !va && !vb then none
  else
    let first := if va && (!vb || decide (b.version ≤ a.version)) then 0 else 1
    let other := 1 - first
    let ok (i : Nat) : Bool := s.headerValid (s.slotImage flash i) && (s.slotImage flash i).bodyOk
    if ok first then some (first, 0)
    else if ok other then some (other, 1)
    else none

/-- The manifest is valid for this part (R532), where the lifecycle state verifies it (R531 step 5). -/
def State.manifestOk (s : State) (m : Manifest) : Bool :=
  (s.sys.lc == .provisioned || s.sys.lc == .sealed) && m.sigOk && m.keyDigest == s.sys.ownerHash

/-- Secure boot: steps 1 to 6 of R531. -/
def State.secureBoot (s : State) (flash : BootFlash) : State :=
  match s.chooseSlot flash with
  | none => { s with sys := { s.sys with bootOk := false, bootErr := 2, fwVersion := 0, imageSvn := 0, residents := [] } }
  | some (i, err) =>
    let x := s.slotImage flash i
    let m : Manifest := match flash.manifest with
      | some m => if s.manifestOk m then m else { m with sigOk := false, debugKey := false, extKey := false, epKey := false }
      | none => { keyDigest := 0, sigOk := false, debugKey := false, extKey := false, epKey := false }
    { s with sys := { s.sys with
      bootOk := true, bootSlot := i, bootErr := err, fwVersion := x.version, imageSvn := x.svn, residents := x.recipes
      manifest := m.sigOk, debugKey := m.debugKey, extKey := m.extKey, epKey := m.epKey } }

/-- A resident recipe of the image fails R251 (R531). -/
def State.residentBad (s : State) : Bool :=
  s.sys.residents.any fun r => decide (256 ≤ r.1) || (checkRecipe false r.2).code != 0

/-! ### Entry to STANDBY (R551, R568, R574) -/

/-- Everything outside the island stops: the rails are off. An activation pending makes the security processor boot again
(R610). -/
def State.toStandby (s : State) (cause : ResetCause) : State :=
  let s := (s.setDebug .quiet 0 0).endSessions
  let s := { s with
    cmdq := { s.cmdq with entries := {} }
    core := { s.core with cores := {}, waiters := [], waiting := [], loading := none }
    sys := { s.sys with
      bracing := false, brace := none, starting := false, restartOk := false, halted := false, cause := cause, sag := false
      fenceReq := false
      bootOk := s.sys.bootOk && !s.mgt.activate
      verifying := none }
    mgt := { s.mgt with activate := false } }
  (s.setFld F.PWR_STATUS_BRACING 0).setPower (if s.sys.vstby5 || s.sys.vin12 then .standby else .off)

/-! ### Brace (R566 to R576) -/

/-- The erased half of the brace area, the lower one when both are. -/
def State.erasedHalf (s : State) : Option Nat :=
  (List.range 2).find? fun i => (s.store.braceHalves.getD i {}).erased

def State.setHalf (s : State) (i : Nat) (h : BraceHalf) : State :=
  { s with store := { s.store with braceHalves := s.store.braceHalves.set i h } }

/-- Step 9 and 10 of brace (R568): BRACE_DONE, the record of times and bytes, and the rails. -/
def State.braceEnd (s : State) (doneUs kib : Nat) : State :=
  let s := (s.setFld F.PWR_BRACE_TIME_DONE_US (min doneUs 65535)).setFld F.PWR_BRACE_BYTES_KIB kib
  let s := { s with sys := { s.sys with braceDone := true } }.emit (.pin 1 true)
  (s.emit (.device 2 0)).toStandby s.sys.cause

/-- Brace stops the work of this member (R568 steps 3 and 4, R569): commands in the lift line end ABORTED, subcode 0xF0, the
rest of their effects absent; waits of other members held here are answered so; invocations and walks are cancelled. -/
def State.braceStops (s : State) : State :=
  let ids := (s.entriesWhere fun _ _ => true).map (·.1)
  let s := ids.foldl (fun (s : State) id =>
    match s.entry? id with
    | none => s
    | some e =>
      if e.accepted then s.stopEntry id .brace
      else if e.phase = .fetched then s.failWith id St.aborted 0xF0
      else s) s
  let foreign := s.gate.waiters
  let s := { s with gate := { s.gate with waiters := [] } }
  let s := foreign.foldl (fun (s : State) w => s.answerOrigin w.intake w.entry St.aborted 0xF0 []) s
  let running := (s.core.cores.cells.filter fun c => c.2.run.isSome).map (·.1)
  let s := running.foldl (fun (s : State) c => s.leaveCore c) s
  let claims := s.vec.claims
  let s := claims.foldl (fun (s : State) c => s.releaseClaim c.entry c) s
  { s with
    core := { s.core with cores := s.core.cores.mapVals fun _ c => { c with queue := [] }, waiting := [] }
    vec := { s.vec with walks := {}, waiting := [], claims := [] }
    store := { s.store with raises := [], moves := [], journalWaits := [] }
    rpl := { s.rpl with flights := [], waits := [], jobs := [] } }

/-- What waits here for others and has not begun is refused like what arrives from now on (R569). -/
def State.refuseHeld (s : State) : State :=
  let held := s.rack.held
  let s := { s with rack := { s.rack with held := [] } }
  held.foldl (fun (s : State) h =>
    if h.1.kind = 100 then s.receiveWork h.1 else s.emit (.workAnswer h.1.origin h.1.id St.fenced 0xF1 [])) s

/-- Brace begins (R566, R568 steps 2 to 4), a start-up under way included (R601), or, while it runs, a later trigger is recorded.
With no half of the brace area erased BRACE_DONE comes at step 5 (R575). -/
def State.braceTrigger (s : State) (cause : Nat) (why : ResetCause) (discard : Bool := false) : State :=
  if s.sys.bracing then
    s.setFld F.PWR_BRACE_LAST_LATER (s.fld F.PWR_BRACE_LAST_LATER ||| 2 ^ (cause - 1))
  else if (s.sys.power = .standby && !s.sys.starting) || s.sys.power = .off then s
  else
    let s := { s with
      sys := { s.sys with
        bracing := true, cause := why, brace := some { cause := cause, frame := s.frame, discard := discard } }
      err := { s.err with injection := none } }
    let s := (s.setFld F.PWR_STATUS_BRACING 1).count F.PWR_COUNT_BRACE
    let s := ((s.setFld F.PWR_BRACE_LAST_CAUSE cause).setFld F.PWR_BRACE_LAST_RESULT 0).setFld F.PWR_BRACE_LAST_LATER 0
    let s := s.pstBrace.setDebug .quiet 0 0
    let s := if s.sys.verifying.isSome then s.tokenDone 9 else s
    let s := ((s.abandonPasses.braceStops.refuseHeld).dropUpdate 4).endSessions
    let s := (s.emit (.device 1 0)).sendHeartbeats.tellSensors
    if s.erasedHalf.isNone then s.braceEnd 100 0 else s

/-- The supply fails at once (R562, R576): no brace, or an incomplete one. -/
def State.supplyFails (s : State) : State :=
  let s := { s with sys := { s.sys with restartOk := false, vin12 := false } }
  if s.sys.power = .standby && !s.sys.starting then
    if s.sys.vstby5 then s else s.setPower .off
  else if s.sys.power = .off then s
  else (s.dropUpdate 4).toStandby (if s.sys.bracing then s.sys.cause else .brace)

/-! ### What a loss of VIN12 leaves of the store (R211, R215) -/

/-- The page of an address at its home is a flash page of a granted slab. -/
def State.flashHome (s : State) (a : Nat) : Bool := (s.slab a).comp.isSome && (s.slab a).home == .flash

/-- Bytes of HBM3E and DDR5 homed or mirrored here are lost; a flash page homed here returns to its last program. -/
def State.losePower (s : State) : State :=
  let gone (a : Nat) : Bool := s.isHome a && !s.flashHome a
  let back := s.store.flashOld.cells.filter fun c => s.isHome (c.1 * 4096)
  let s1 := { s with store := { s.store with
    mem := s.store.mem.filter fun c => !gone c.1
    grans := s.store.grans.filter fun g _ => !gone (g * 128)
    mirrorMem := s.store.mirrorMem.filter fun c => s.flashHome c.1
    mirrorGrans := s.store.mirrorGrans.filter fun g _ => s.flashHome (g * 128)
    mirrorDdr := []
    mirrorLacks := []
    flashOld := {} } }
  back.foldl (fun (s : State) c => s.restorePage c.1 c.2) s1

/-! ### The start-up reset (R587, R588) -/

/-- The fields that stand in the always-on island: those marked "hold". -/
def holdFields : List Fld :=
  [F.TIER_STATUS_LOCKED, F.TIER_SALT_LO_SALT, F.TIER_SALT_HI_SALT, F.TIER_HASH_WIDTH, F.ERR_STATUS_FROZEN,
   F.ERR_STATUS_FATAL, F.ERR_SITZ_STATUS_VALID, F.ERR_SITZ_STATUS_FROZEN, F.ERR_SITZ_STATUS_LOST, F.PWR_RESTART_MS,
   F.PWR_VIN_MINMAX_MIN_MV, F.PWR_VIN_MINMAX_MAX_MV, F.PWR_COUNT_BRACE_COUNT, F.PWR_BRACE_LAST_CAUSE,
   F.PWR_BRACE_LAST_RESULT, F.PWR_BRACE_LAST_LATER, F.PWR_BRACE_TIME_DONE_US, F.PWR_BRACE_TIME_FLUSH_US,
   F.PWR_BRACE_BYTES_KIB, F.CLK_RESET_CAUSE_POR, F.CLK_RESET_CAUSE_BRACE, F.CLK_RESET_CAUSE_REQUESTED,
   F.CLK_RESET_CAUSE_SYS_RST, F.CLK_RESET_CAUSE_AFTER_FATAL, F.CLK_RESET_CAUSE_THERMAL, F.CLK_RESET_COUNT_COUNT]

/-- What flash keeps of the store: the bytes, the placement records and grants, the brace area, page records of flash pages
(R211, R214, R571); the timing records stay until power-on reset (R179). -/
def StoreState.kept (x : StoreState) (por : Bool) : StoreState :=
  { mem := x.mem, grans := x.grans, mirrorMem := x.mirrorMem, mirrorGrans := x.mirrorGrans, slabs := x.slabs
    braceHalves := x.braceHalves, sinceCheck := x.sinceCheck, deltaBytes := x.deltaBytes, flashNext := x.flashNext
    pages := (x.pages.filter fun _ p => p.programmed).mapVals fun _ p => { programmed := p.programmed, advice := p.advice, flashAt := p.flashAt }
    timing := if por then [] else x.timing }

/-- A composition after a start-up: its limits stay in flash, its counters are cleared (R613). -/
def Comp.afterReset (c : Comp) : Comp :=
  { limitHbm := c.limitHbm, limitDdr := c.limitDdr, limitFlash := c.limitFlash, poolHbm := c.poolHbm, poolDdr := c.poolDdr }

/-- The fuses after a reset, at which a pending lifecycle transition takes effect (R541, R545). -/
def SysState.fused (x : SysState) : SysState :=
  { x with
    lc := x.lcNext.getD x.lc
    lcNext := none
    adminPorts := if x.lcNext == some Lifecycle.sealed then x.adminNext else x.adminPorts
    ownerHash := if x.lcNext == some Lifecycle.provisioned then x.hashNext else x.ownerHash
    returnEpoch := x.returnEpoch || x.lcNext == some Lifecycle.returned }

/-- The straps show in the registers that take their reset values from them (R583, R595). -/
def State.showStraps (s : State) : State :=
  let depth := match s.sys.ssc with | 0 => 0 | 1 => 5 | _ => 10
  (s.setFld F.HXL_ID_MEMBER s.sys.member).setFld F.CLK_SSC_DEPTH depth

/-- Reset of everything outside the always-on island (R587, R588): fields marked "hold", the Sitzmark, the fuses and the
island's management endpoints stay; so do units that are offline (R487) and extension versions (R251). -/
def State.startupReset (s : State) : State :=
  let old := s.losePower
  let island : MgtState :=
    { i3cAddr := old.mgt.i3cAddr, eids := old.mgt.eids.set 1 none |>.set 2 none, tid := old.mgt.tid
      receivers := old.mgt.receivers.set 1 none |>.set 2 none, queues := old.mgt.queues.set 1 [] |>.set 2 []
      told := old.mgt.told, update := old.mgt.update, activate := old.mgt.activate, lastResult := old.mgt.lastResult
      lastSlot := old.mgt.lastSlot, fwVersion := old.mgt.fwVersion, cert1 := old.mgt.cert1 }
  let new : State :=
    { pending := old.pending, out := old.out, fresh := old.fresh
      store := old.store.kept false
      core := { highest := old.core.highest }
      err := { units := old.err.units, sitz := old.err.sitz, sitzSeq := old.err.sitzSeq, first := old.err.first,
               fatalResetSeen := true }
      rack := { comps := old.rack.comps.mapVals fun _ c => c.afterReset, keys := old.rack.keys }
      sys := old.sys
      mgt := island }
  let new := holdFields.foldl (fun (n : State) f => n.setFld f (old.fld f)) new
  let new := { new with sys := { new.sys.fused with
    debug := .quiet, dbgComp := 0, dbgRemain := 0, nonce := none, nonceShown := 0, ownerReturn := none, tokenWords := {}
    hashWords := {}, verifying := none, energy := 0, lowTicks := 0, floorTicks := 0, junction := none, hotSamples := 0
    coolSamples := 0, tripSample := false, braceDone := false, errFatal := false, halted := false } }
  -- an update on a PCIe endpoint ends as a cancel (R611)
  let new := if new.mgt.update.any fun (u : Update) => u.endpoint != 0 then new.dropUpdate 3 else new
  let new := if new.sys.lc != old.sys.lc then new.securityNote else new
  new.showStraps

/-- Erase the key table and both halves of the brace area, clear the key store, write the return record and zero every frame
of HBM3E and DDR5: steps 3 to 6 of entry to RETURNED (R545), which a RETURNED part repeats at every start-up. -/
def State.returnWipe (s : State) (writeRecord : Bool) : State :=
  let record := ((List.range 64).map fun i => bvBytes (s.err.sitz.getD i 0) 0 32).flatten ++
    bvBytes (s.regAt 0 F.ERR_STATUS_FATAL.off) 0 4 ++
    ([F.ERR_COUNT_CE.off, F.ERR_COUNT_RECOVERED.off, F.ERR_COUNT_CONTAINED.off, F.ERR_COUNT_UNIT.off,
      F.ERR_GROOM_PASSES_HBM.off, F.ERR_GROOM_PASSES_DDR.off, F.ERR_GROOM_PASSES_FLASH.off].map fun o =>
        bvBytes (s.regAt 0 o) 0 4).flatten
  let gone (a : Nat) : Bool := s.isHome a && !s.flashHome a
  { s with
    store := { s.store with
      braceHalves := [{ erased := true }, { erased := true }]
      journal := []
      mem := s.store.mem.filter fun c => !gone c.1
      grans := s.store.grans.filter fun g _ => !gone (g * 128)
      mirrorMem := s.store.mirrorMem.filter fun c => s.flashHome c.1
      mirrorGrans := s.store.mirrorGrans.filter fun g _ => s.flashHome (g * 128) }
    rack := { s.rack with keys := {} }
    sys := { s.sys with
      keyZero := none
      returnRecord := if writeRecord then record else s.sys.returnRecord } }

end Sys2Proof.Machine
end

