-- ==== Sys2Proof/Machine/Supply.lean ====
section
/-!
DEFINITION. The meanings of the supply, brace and thermal commands (spec/16_supply_and_brace.md,
spec/20_electrical_thermal.md).
-/
namespace Sys2Proof.Machine

open Sys2Proof

/-! ### VSTBY5 and PSU_AC_OK (R559 to R561) -/

/-- VSTBY5 is lost (R559, R560): with VIN12 up the island runs from it; in STANDBY without VIN12 the part is OFF. -/
def execVstby5Lost (s : State) : Res :=
  if !s.sys.vstby5 || s.sys.power = .off then .next s
  else
    let s := { s with sys := { s.sys with vstby5 := false } }
    if s.sys.vin12 || s.sys.power != .standby then
      let s := (s.setFld F.PWR_STATUS_STBY_FROM_VIN 1).raise F.PWR_EVENT_STBY_LOST
      .next (s.logError { source := 0x16, severity := 2 })
    else .next (s.setPower .off)

/-- VSTBY5 is valid again while VIN12 feeds the island (R560). -/
def execVstby5Restored (s : State) : Res :=
  if s.sys.vstby5 || s.sys.power = .off then .next s
  else .next ({ s with sys := { s.sys with vstby5 := true } }.setFld F.PWR_STATUS_STBY_FROM_VIN 0)

/-- The filtered PSU_AC_OK falls (R561): brace with CAUSE 1. -/
def execPsuAcOkDeassert (s : State) : Res :=
  if !s.sys.psuOk then .next s
  else .next ({ s with sys := { s.sys with psuOk := false, restartOk := false } }.braceTrigger 1 .brace)

/-- PSU_AC_OK has been high for 10 µs (R561). -/
def execPsuAcOkAssert (s : State) : Res := .next { s with sys := { s.sys with psuOk := true } }

/-! ### VIN12 (R562) -/

/-- OV trip: the regulators turn off at once. -/
def execVin12OvTrip (s : State) : Res := .next s.supplyFails
/-- UV trip: the regulators turn off at once. -/
def execVin12UvTrip (s : State) : Res := .next s.supplyFails

/-- A surge that braces: `long` is the 10 ms row, CAUSE 5; else CAUSE 4. -/
def execVin12SurgeBrace (long : Bool) (s : State) : Res :=
  .next ((s.setFld F.PWR_STATUS_REGION 3).braceTrigger (if long then 5 else 4) .brace)

/-- A surge that is counted. -/
def execVin12Surge (s : State) : Res :=
  .next (((s.setFld F.PWR_STATUS_REGION 3).count F.PWR_COUNT_DIST_SURGE).raise F.PWR_EVENT_SURGE)

/-! ### The Snowplough (R563 to R565) -/

/-- Any device readout stands at 95 °C or more (R210). -/
def State.devicesHot (s : State) : Bool := s.store.devTemp.cells.any fun c => decide (95 ≤ c.2)

/-- The terms of the effective cap that apply, with their numbers in PWR_STATUS.LIMIT (R563). -/
def State.capTerms (s : State) : List (Nat × Nat) :=
  [(1, s.fld F.PWR_CAP_W)] ++
  (if s.sys.sag then [(2, s.fld F.PWR_SAG_CAP_W)] else []) ++
  (if s.devicesHot then [(3, s.fld F.PWR_HOT_CAP_W)] else []) ++
  (match s.sys.junction with
   | some w => [(4, w)]
   | none => [])

/-- The least term, the first of equal ones (R563). -/
def State.effCap (s : State) : Nat × Nat :=
  (s.capTerms.tail).foldl (fun b t => if t.2 < b.2 then t else b) (s.capTerms.headD (1, 0))

/-- PWR_EFF_CAP and PWR_STATUS.LIMIT show the effective cap (R563). -/
def State.showCap (s : State) : State := (s.setFld F.PWR_EFF_CAP_W s.effCap.2).setFld F.PWR_STATUS_LIMIT s.effCap.1

/-- VIN12 enters the sag region. -/
def execVin12SagEnter (s : State) : Res :=
  if s.sys.sag then .next s
  else
    let s := { s with sys := { s.sys with sag := true, restartOk := false } }
    .next (((s.setFld F.PWR_STATUS_REGION 1).count F.PWR_COUNT_DIST_SAG).raise F.PWR_EVENT_SAG).showCap

/-- 1 ms above 11.0 V ends the sag region. -/
def execVin12SagExit (s : State) : Res :=
  if !s.sys.sag then .next s
  else .next ({ s with sys := { s.sys with sag := false } }.setFld F.PWR_STATUS_REGION 0).showCap

/-- A deep sag, or with `long` a long one: brace with CAUSE 2 or 3. -/
def execVin12DeepSag (long : Bool) (s : State) : Res :=
  let s := { s with sys := { s.sys with restartOk := false } }
  .next ((s.setFld F.PWR_STATUS_REGION 2).braceTrigger (if long then 3 else 2) .brace)

/-- The duty and the core limit are set; below their tops the part is in GLIDE (R564, R551). -/
def State.setThrottle (s : State) (duty limit : Nat) : State :=
  let s := if duty < 16 && s.fld F.CORE_GATE_DUTY = 16 then s.raise F.CORE_EVENT_GATED else s
  let s := ((s.setFld F.CORE_GATE_DUTY duty).setFld F.PWR_THROTTLE_DUTY duty).setFld F.PWR_THROTTLE_CORE_LIMIT limit
  let throttled : Bool := decide (duty < 16) || decide (limit < 1200)
  if throttled then
    if s.sys.power = .run then ((s.setFld F.PWR_STATUS_GLIDE 1).raise F.PWR_EVENT_GLIDE).setPower .glide else s
  else if s.sys.power = .glide then (s.setFld F.PWR_STATUS_GLIDE 0).setPower .run else s

/-- The Snowplough acts on the 10 µs average (R564, R565). -/
def State.snowplough (s : State) (w : Nat) : State :=
  let cap := s.effCap.2
  let duty := s.fld F.PWR_THROTTLE_DUTY
  let limit := s.fld F.PWR_THROTTLE_CORE_LIMIT
  if w > cap then
    let s := { s with sys := { s.sys with lowTicks := 0 } }
    if duty > 1 then ({ s with sys := { s.sys with floorTicks := 0 } }).setThrottle (duty - 1) limit
    else if limit > 150 then ({ s with sys := { s.sys with floorTicks := 0 } }).setThrottle duty (max 150 (limit - 150))
    else
      let s := { s with sys := { s.sys with floorTicks := s.sys.floorTicks + 1 } }
      if s.sys.floorTicks ≥ 100 then s.raise F.PWR_EVENT_CAP_UNMET else s
  else if 100 * w < 96 * cap then
    let s := { s with sys := { s.sys with floorTicks := 0, lowTicks := s.sys.lowTicks + 1 } }
    if s.sys.lowTicks < 10 then s
    else if limit < 1200 then s.setThrottle duty (min 1200 (limit + 150))
    else if duty < 16 then s.setThrottle (duty + 1) limit
    else s
  else { s with sys := { s.sys with lowTicks := 0, floorTicks := 0 } }

/-- PWR_STATUS.REGION after the average of 10 µs: a surge or a deep sag that is over gives way to what still holds (R562, R577). -/
def State.leaveRegion (s : State) (mv : Nat) : State :=
  let r := s.fld F.PWR_STATUS_REGION
  if (r = 3 && mv ≤ 13200) || (r = 2 && s.fld F.PWR_DEEP_CFG_MV ≤ mv) then s.setFld F.PWR_STATUS_REGION (b2n s.sys.sag) else s

/-- A 10 µs period of the Snowplough (R563, R564): VIN12 in mV and the input power in W over 10 µs, 1 ms and 100 ms. -/
def execSnowploughTick (mv w w1ms w100ms : Nat) (s : State) : Res :=
  let s := (s.setFld F.PWR_VIN_MV (min mv 16383)).setFld F.PWR_POWER_AVG_1MS (min w1ms 1023)
  let s := s.setFld F.PWR_POWER_AVG_100MS (min w100ms 1023)
  let low := s.fld F.PWR_VIN_MINMAX_MIN_MV
  let high := s.fld F.PWR_VIN_MINMAX_MAX_MV
  let s := s.setFld F.PWR_VIN_MINMAX_MIN_MV (if low = 0 then min mv 16383 else min low (min mv 16383))
  let s := s.setFld F.PWR_VIN_MINMAX_MAX_MV (max high (min mv 16383))
  let s := { s with sys := { s.sys with energy := (s.sys.energy + w) % (100 * 2 ^ 64) } }
  let s := (s.leaveRegion mv).showCap
  .next (if s.running && !s.sys.bracing then s.snowplough w else s)

/-- PWR_CTRL.CLEAR_MINMAX (R577). -/
def execPwrClearMinmax (src : Nat) (s : State) : Res :=
  if !isPf src then .next s
  else .next ((s.setFld F.PWR_VIN_MINMAX_MIN_MV (s.fld F.PWR_VIN_MV)).setFld F.PWR_VIN_MINMAX_MAX_MV (s.fld F.PWR_VIN_MV))

/-- PWR_CTRL.CLEAR_BRACE (R577). -/
def execPwrClearBrace (src : Nat) (s : State) : Res :=
  if !isPf src then .next s
  else
    .next (((s.setRegAt 0 F.PWR_BRACE_LAST_CAUSE.off 0).setRegAt 0 F.PWR_BRACE_TIME_DONE_US.off 0).setRegAt 0
      F.PWR_BRACE_BYTES_KIB.off 0).tellSensors

/-! ### Brace (R568) -/

/-- Step 7: the flush into the erased half begins, `us` after the trigger: the header, the metadata delta and the live
journal in SEQ order; after a FATAL error it stops at the first entry whose read fails (R488). -/
def execBraceFlushStart (us : Nat) (s : State) : Res :=
  match s.sys.brace, s.erasedHalf with
  | some b, some i =>
    if b.half.isSome then .next s
    else
      let sound (j : JournalEntry) : Bool := !(s.gran (j.rsa / 128)).damaged
      let live := if b.discard then [] else s.store.journal.takeWhile sound
      let images := live.map JournalEntry.image
      let h : BraceHalf :=
        { header := true, frame := b.frame, cause := b.cause, firstSeq := (live.head?.map (·.seq)).getD 0
          lastSeq := (live.getLast?.map (·.seq)).getD 0, deltaBytes := min s.delta 16777216
          entryBytes := (images.map (·.length)).sum, entries := images }
      let s := s.setHalf i h
      let s := { s with sys := { s.sys with brace := some { b with half := some i } } }
      .next ((s.setFld F.TIER_STATUS_BRACE_READY 0).setFld F.PWR_BRACE_TIME_FLUSH_US (min us 65535))
  | _, _ => .next s

/-- Steps 8 to 10: the commit record, BRACE_DONE and the rails, `us` after the trigger. `dieFailed`: a program failed twice on a
die, and the entries with the SEQ numbers in `lost` lay on it (R573). -/
def execBraceCommitRecord (us : Nat) (dieFailed : Bool) (lost : List Nat) (s : State) : Res :=
  match s.sys.brace with
  | some b =>
    match b.half with
    | none => .next s
    | some i =>
      let h := s.store.braceHalves.getD i {}
      let kib := (h.deltaBytes + h.entryBytes) / 1024
      -- what lay on the die that failed reads as erased flash
      let kept := if dieFailed then mapIf (fun (l : List Byte) => lost.contains (fieldAt l 16 8)) (fun l => l.map fun _ => 255) h.entries
        else h.entries
      .next ((s.setHalf i { h with entries := kept, committed := true, dieFailed := dieFailed }).braceEnd us kib)
  | none => .next s

/-- VIN12 and PSU_AC_OK have stayed good for PWR_RESTART.MS (R574). -/
def execRestartQualified (s : State) : Res :=
  if !s.sys.psuOk || (s.sys.power != .standby) || s.sys.starting then .next s
  else .next { s with sys := { s.sys with vin12 := true, restartOk := true } }

/-! ### The junction cap and the thermal trip (R657, R658) -/

/-- The junction cap term after a sample of the hottest sensor, in steps of 0.125 °C (R657). -/
def State.junctionStep (s : State) (t : Nat) : State :=
  let hot : Bool := decide (800 ≤ t)
  let cool : Bool := decide (t < 776)
  match s.sys.junction with
  | none =>
    if hot then
      { s with sys := { s.sys with junction := some (s.fld F.PWR_POWER_AVG_1MS), hotSamples := 0, coolSamples := 0 } }
    else s
  | some w =>
    let h := if hot then s.sys.hotSamples + 1 else 0
    let c := if cool then s.sys.coolSamples + 1 else 0
    if h ≥ 10 then { s with sys := { s.sys with junction := some (max 250 (w - 10)), hotSamples := 0, coolSamples := 0 } }
    else if c ≥ 100 then
      { s with sys := { s.sys with junction := (if w + 10 > s.fld F.PWR_CAP_W then none else some (w + 10)), coolSamples := 0 } }
    else { s with sys := { s.sys with hotSamples := h, coolSamples := c } }

/-- The trip (R658): the FATAL sequence and a brace, whatever brace is under way. -/
def State.thermalTrip (s : State) (sensor : Nat) : State :=
  let s := s.fatal { source := 0x40, severity := 5, info := sensor }
  let s := { s with sys := { s.sys with tripped := true } }
  let s := s.braceTrigger 6 .thermal
  { s with sys := { s.sys with cause := .thermal } }

/-- Every on-die sensor is sampled (R657, R658): the hottest reading in steps of 0.125 °C, its sensor, and whether a sensor
fails its self-check. -/
def execThermalSample (temp sensor : Nat) (selfFail : Bool) (s : State) : Res :=
  if s.sys.power = .standby && !s.sys.starting || s.sys.power = .off then .next s
  else
    let hotNow : Bool := decide (920 ≤ temp)
    let trip : Bool := selfFail || (hotNow && s.sys.tripSample)
    let s := (s.junctionStep temp).showCap
    let s := { s with sys := { s.sys with dieTemp := temp, tripSample := hotNow } }
    .next (if trip then s.thermalTrip sensor else s)

end Sys2Proof.Machine
end

