-- ==== Sys2Proof/Machine/Clk.lean ====
section
/-!
DEFINITION. The meanings of resets, start-up, store bring-up and the slow input pins (spec/17_clocks_reset_startup.md,
spec/19_package_and_signals.md).
-/
namespace Sys2Proof.Machine

open Sys2Proof

/-- RUN, GLIDE or REST (R551). -/
def State.inService (s : State) : Bool := s.sys.power == .run || s.sys.power == .glide || s.sys.power == .rest

/-! ### Power-on reset (R587, R638) -/

/-- POWER_ON_RESET: VSTBY5 is valid from OFF. Everything is reset, the straps are sampled, the security processor boots. What
flash and fuses hold stays, and so do the levels of the input pins. -/
def execPowerOnReset (straps : Straps) (flash : BootFlash) (s : State) : Res :=
  if s.sys.power != .off then .next s
  else
    let old := s.losePower
    let x := old.sys.fused
    let new : State :=
      { pending := old.pending, out := old.out, fresh := old.fresh
        store := old.store.kept true
        err := { units := old.err.units.filter fun _ u => u.retired }
        rack := { comps := old.rack.comps.mapVals fun _ c => c.afterReset, keys := old.rack.keys }
        mgt := { cert1 := old.mgt.cert1 }
        sys := {
          lc := x.lc, adminPorts := x.adminPorts, ownerHash := x.ownerHash, svn := x.svn, returnEpoch := x.returnEpoch
          slotNow := x.slotNow, keyZero := x.keyZero, returnRecord := x.returnRecord
          member := straps.member % 64, ssc := straps.ssc % 4, sris := straps.sris % 4, ddrMode := straps.ddrMode
          power := .standby, vin12 := x.vin12, psuOk := x.psuOk, refclk := x.refclk, sysRst := x.sysRst, perst := x.perst
          trst := x.trst } }
    let new := new.secureBoot flash
    .next { new.showStraps with mgt := { new.mgt with told := new.stateSensors } }

/-! ### Population (R177, R125, R598) -/

/-- The kinds whose timing record the plain cadence cannot serve (R125): HBM, DDR5, and ONFI when flash is populated. -/
def recordFails (records : List (List Nat)) (flash : Bool) (kind : Nat) : Bool :=
  let r (field : Nat) : Nat := (records.getD kind []).getD field 0
  if kind = 2 then flash && (decide (779 < r 4) || decide (r 5 < 16))
  else decide (599 < r 2) || decide (r 3 < 3300) || decide (997 < r 4) || decide (r 5 < 16)

/-- Kinds whose record has a field of R105: LEAD, TRC, REFRESH_RUN, TREFI, RETRAIN_RUN, RETRAIN_WINDOW, TR, SUSPEND, RESUME_RUN. -/
def hasField (kind field : Nat) : Bool :=
  if field < 4 then decide (kind < 2) else if field < 6 then decide (kind < 3) else kind == 2

/-- The worst value of one field over all devices of a kind: the shortest tREFI, else the largest. -/
def worstOf (field : Nat) : List Nat → Nat
  | [] => 0
  | x :: l => l.foldl (if field = 3 then min else max) x

/-- The device timing record of a kind (R179): RETRAIN_RUN_NS and RETRAIN_WINDOW_FRAMES are fixed per kind, a field that the kind
lacks reads 0, and so does the whole record of flash where there is none. -/
def buildRecord (pop : Population) (flash : Bool) (kind : Nat) : TimingRec :=
  (List.range 9).map fun f =>
    if !hasField kind f || (kind = 2 && !flash) then 0
    else if f = 4 then [900, 950, 700].getD kind 0
    else if f = 5 then [64, 128, 1024].getD kind 0
    else worstOf f ((pop.devices.filter fun d => d.1 = kind).map fun d => d.2.getD f 0)

/-- The records that a start-up builds. -/
def buildRecords (pop : Population) : List TimingRec :=
  (List.range 3).map fun k => buildRecord pop (decide (bf pop.popFlash 13 0 != 0)) k

/-- The modules read are within the table of R176: 4 to 512 GiB per channel, 16, 24 or 32 Gb, stacks up to 4-high, one or two ranks,
two modules a channel at most and one MRDIMM. -/
def ddrSupported (p : Word) (mrdimm : Bool) : Bool :=
  let gib := bf p 9 0
  let dimms := bf p 12 11
  let ranks := bf p 14 13
  decide (4 ≤ gib) && decide (gib ≤ 512) && (dimms = 1 || (dimms = 2 && !mrdimm)) && (ranks = 1 || ranks = 2) &&
    decide (bf p 17 15 ≤ 2) && decide (bf p 19 18 ≤ 2)

/-- The flash read is within the table of R176: none, or 32 GiB to 8 TiB per channel on 1 to 16 chip enables of at most 512 GiB, at
one of the four rates. -/
def flashSupported (p : Word) : Bool :=
  let gib := bf p 13 0
  let ce := bf p 18 14
  gib = 0 || (decide (32 ≤ gib) && decide (gib ≤ 8192) && decide (1 ≤ ce) && decide (ce ≤ 16) && decide (gib ≤ 512 * ce) &&
    [1600, 2400, 3200, 3600].contains (bf p 30 19))

/-- The first place where two lists differ. -/
def firstDiff (a b : List Nat) : Nat :=
  (firstBelow (max a.length b.length) fun i => decide (a[i]? ≠ b[i]?)).getD 0

/-- TIER_POP_STATUS (R177): the first check that fails, as ERR and INSTANCE. -/
def State.populationError (s : State) (pop : Population) : Option (Nat × Nat) :=
  let flash : Bool := decide (bf pop.popFlash 13 0 != 0)
  let built := !s.store.timing.isEmpty
  let records := if built then s.store.timing else buildRecords pop
  let ddrNew : Bool := built && pop.ddrIdent != s.sys.ddrIdent
  let flashNew : Bool := built && pop.flashIdent != s.sys.flashIdent
  (pop.hbmFails.map fun i => (1, i)) <|>
  (pop.ddrDiffers.map fun i => (2, i)) <|>
  (if ddrNew then some (2, firstDiff pop.ddrIdent s.sys.ddrIdent) else none) <|>
  (pop.ddrUnsupported.map fun i => (3, i)) <|>
  (if ddrSupported pop.popDdr pop.mrdimm then none else some (3, 0)) <|>
  (if pop.mrdimm != s.sys.ddrMode then some (4, 0) else none) <|>
  (pop.onfiDiffers.map fun i => (5, i)) <|>
  (if flashNew then some (5, firstDiff pop.flashIdent s.sys.flashIdent) else none) <|>
  (pop.onfiUnsupported.map fun i => (6, i)) <|>
  (if flashSupported pop.popFlash then none else some (6, 0)) <|>
  ((firstBelow 3 fun k => recordFails records flash k).map fun k => (7, k))

/-- The training of start-up tags every instance of the kinds populated (R206): with the temperature and the voltage at its last
step, which are measurements. -/
def State.trainAll (s : State) (flash : Bool) : State :=
  let all := (List.range 64).map (0, ·) ++ (List.range 16).map (1, ·) ++ (if flash then (List.range 32).map (2, ·) else [])
  all.foldl (fun (s : State) k =>
    let t := Config.trainedAt s.fresh k.1 k.2
    (s.setTraining k.1 k.2 { t0 := t.1, v0 := t.2, tNow := t.1, vNow := t.2 }).tickFresh) s

/-- Step 5: the devices are identified and trained; the records are built once after a power-on reset (R179), so that
PST_TIMING_GEN then reads 1, the generation that this and every later start-up checks. -/
def State.populate (s : State) (pop : Population) : State :=
  let s := (s.setRegAt 0 F.TIER_POP_DDR_GIB_PER_CH.off (pop.popDdr &&& 0xFFFFF)).setRegAt 0 F.TIER_POP_FLASH_GIB_PER_CH.off
    (pop.popFlash &&& 0x7FFFFFFF)
  let s := s.setFld F.TIER_POP_DDR_MRDIMM (b2n pop.mrdimm)
  let err := s.populationError pop
  let s :=
    if !(err.all fun (e : Nat × Nat) => e.1 = 7) then s
    else
      let s := s.setFld F.PST_TIMING_GEN_GEN 1
      if !s.store.timing.isEmpty then s
      else
        { s with
          store := { s.store with timing := buildRecords pop }
          sys := { s.sys with ddrIdent := pop.ddrIdent, flashIdent := pop.flashIdent } }
  match err with
  | some (code, inst) =>
    ((s.setFld F.TIER_POP_STATUS_ERR code).setFld F.TIER_POP_STATUS_INSTANCE inst).raise F.TIER_EVENT_POP_ERR
  | none => s.trainAll (decide (bf pop.popFlash 13 0 != 0))

/-! ### Start-up (R596 to R602) -/

/-- CLK_RESET_CAUSE and CLK_RESET_COUNT (R602): exactly one cause. -/
def State.noteCause (s : State) (fatal : Bool) : State :=
  let is (c : ResetCause) : Nat := b2n (s.sys.cause == c)
  let s := ((s.setFld F.CLK_RESET_CAUSE_POR (is .por)).setFld F.CLK_RESET_CAUSE_BRACE (is .brace)).setFld
    F.CLK_RESET_CAUSE_REQUESTED (is .requested)
  let s := ((s.setFld F.CLK_RESET_CAUSE_SYS_RST (is .sysRst)).setFld F.CLK_RESET_CAUSE_THERMAL (is .thermal)).setFld
    F.CLK_RESET_CAUSE_AFTER_FATAL (b2n fatal)
  s.count F.CLK_RESET_COUNT

/-- Step 6: the plain cadence at frame 0, and every enabled port begins to train. -/
def State.startCadence (s : State) : State :=
  let s := { s with frame := 0, sys := { s.sys with upFrames := 0 } }.showPeriod
  let s := (List.range 16).foldl (fun (s : State) p => if (s.port p).cfg.en then s.detectPort p else s) s
  (s.setFld F.CLK_STARTUP_STAGE 6).chooseParent

/-- Steps 2 to 7, once REFCLK is present. -/
def State.startRest (s : State) (pop : Population) (badCheckers : List Nat) (us : Nat) : State :=
  let s := { s with sys := { s.sys with starting := false } }
  let s := (s.setFld F.CLK_STARTUP_TIME_US (min us 0xFFFFFFFF)).setFld F.CLK_STATUS_SSC_APPLIED (min (s.fld F.CLK_SSC_DEPTH) 10)
  if s.residentBad then
    ({ s with sys := { s.sys with bootErr := 3, bootOk := false, restartOk := false } }.setFld F.CLK_STARTUP_STAGE 2).tellSensors
  else
    let slots : Tab RecipeSlot := s.sys.residents.foldl (fun (t : Tab RecipeSlot) r => t.set r.1 { recipe := r.2 }) {}
    let fatal : Bool := s.fld F.ERR_STATUS_FATAL = 1
    let s := { s with core := { s.core with slots := slots } }.setFld F.CLK_STARTUP_STAGE 4
    let s := badCheckers.foldl (fun (s : State) k => if k < 3072 then s.wireBroken k false else s) (s.noteCause fatal)
    let s := (s.populate pop).setPower .run
    if s.fld F.TIER_POP_STATUS_ERR != 0 then s.tellSensors
    else
      let s := s.startCadence
      (if s.sys.fenceReq then s.selfFence else s).tellSensors

/-- Start-up may begin (R596, R574, R658): `islandTemp` in steps of 0.125 °C. A member whose arrays a MAKER scan destroyed
waits for power-on reset (R555). -/
def State.mayStart (s : State) (islandTemp : Nat) : Bool :=
  s.sys.power == .standby && !s.sys.bracing && s.sys.vstby5 && !s.sys.sysRst && s.sys.restartOk && !s.sys.scanned &&
    (!s.sys.tripped || decide (islandTemp ≤ 720))

/-- STARTUP (R587, R596): steps 1 to 6, waiting at step 2 while REFCLK is absent. `badCheckers` do not follow their test
(R484); `us` is the time from step 1. A boot that has not succeeded is tried first (R531, R610). -/
def execStartup (flash : BootFlash) (pop : Population) (badCheckers : List Nat) (islandTemp us : Nat) (s : State) : Res :=
  if !s.mayStart islandTemp then .next s
  else
    let s := if s.sys.bootOk then s else s.secureBoot flash
    if !s.sys.bootOk then .next s
    else
      let s := if s.sys.starting then s
        else
          let s := s.startupReset
          let s := { s with sys := { s.sys with starting := true, tripped := false } }
          let s := (s.emit (.pin 0 false)).emit (.pin 1 false)
          (if s.sys.lc == .returned then s.returnWipe false else s).setFld F.CLK_STARTUP_STAGE 1
      .next (if s.sys.refclk then s.startRest pop badCheckers us else s.tellSensors)

/-! ### Store bring-up (R573, R596 steps 9 to 12) -/

/-- The half whose header is valid and whose FRAME is higher (R573). -/
def State.braceFound (s : State) : Option BraceHalf :=
  s.store.braceHalves.foldl (fun (b : Option BraceHalf) (h : BraceHalf) =>
    if h.header && (b.all fun y => decide (y.frame < h.frame)) then some h else b) none

/-- An entry of the journal is replayed onto its flash page (R215). -/
def State.replayEntry (s : State) (j : JournalEntry) : State :=
  let pg := j.rsa / 4096
  if s.store.mirrorGrans.has (j.rsa / 128) then
    -- a write to a mirror that this member holds
    { s with store := { s.store with
      mirrorMem := Memory.setBytes s.store.mirrorMem j.rsa j.data
      mirrorGrans := (granulesOf j.rsa (128 * j.granules)).foldl (fun (t : Tab Gran) g => t.set g { wgen := j.wgen }) s.store.mirrorGrans } }
  else
    let s := s.pokeBytes j.rsa j.data
    let s := (granulesOf j.rsa (128 * j.granules)).foldl (fun (s : State) g =>
      s.setGran g { wgen := j.wgen, key := s.keyPair (g * 128) }) s
    s.setPage pg { s.page pg with programmed := true }

/-- The delta is lost: every page it concerned returns to its contents at the last checkpoint (R572, R573). -/
def State.loseDelta (s : State) : State :=
  s.store.sinceCheck.cells.foldl (fun (s : State) c => s.restorePage c.1 c.2) s

/-- The bytes of an entry as the flash gives them back: `damage` lists an entry, a byte of it, and the bits that have changed. -/
def damaged (damage : List (Nat × Nat × Nat)) (n : Nat) (l : List Byte) : List Byte :=
  damage.foldl (fun (l : List Byte) d => if d.1 = n then l.set d.2.1 (l.getD d.2.1 0 ^^^ BitVec.ofNat 8 d.2.2) else l) l

/-- The entries before the first whose MAGIC or CRC fails (R215). -/
def goodEntries : List (List Byte) → List JournalEntry
  | [] => []
  | l :: r => match parseEntry l with
    | some j => j :: goodEntries r
    | none => []

/-- Steps 9 and 10: what the record of the last brace brings back (R573). `deltaOk`, every delta block verifies. A replay that a bad
entry ends is logged, as an incomplete brace is (R215). -/
def State.readBrace (s : State) (deltaOk : Bool) (damage : List (Nat × Nat × Nat)) : State :=
  match s.braceFound with
  | none => s.loseDelta.setFld F.PWR_BRACE_LAST_RESULT 0
  | some h =>
    let s := s.raise F.PWR_EVENT_BRACE_RECORD
    let run := goodEntries ((List.range h.entries.length).map fun n => damaged damage n (h.entries.getD n []))
    let s := if h.committed || deltaOk then s else s.loseDelta
    let s := run.foldl (fun (s : State) j => s.replayEntry j) s
    let s := s.setFld F.PWR_BRACE_LAST_RESULT (if !h.committed then 2 else if h.dieFailed then 3 else 1)
    if h.committed && run.length = h.entries.length then s
    else s.logError { source := 0x24, severity := 3, info := run.length }

/-- Frames of each tier that no region of R190 and R661 takes, before home frames: HBM3E, DDR5, flash. -/
def State.tierFrames (s : State) (journalMib : Nat) : List Nat :=
  let gib := 262144
  let ddr := s.fld F.TIER_POP_DDR_GIB_PER_CH * 16
  let flash := s.fld F.TIER_POP_FLASH_GIB_PER_CH * 32
  let metadata := ddr * gib / 256 + 144 * gib / 256 + flash * gib / 1024 + flash * gib / 8192
  let fill := max 16 (min 1024 (s.fld F.TIER_FILL_RESERVE)) * gib
  [112 * gib, ddr * gib - journalMib * 256 - metadata - fill - 4096, flash * gib - (if flash = 0 then 0 else 2 * gib)]

/-- Frames that standing grants take in a tier (R36, R185). -/
def State.homeFrames (s : State) (t : Tier) : Nat :=
  ((s.store.slabs.cells.filter fun c => c.2.comp.isSome && c.2.home == t).map fun c => s.framesOf c.1 c.2).sum +
    (if t == .ddr then ((s.store.slabs.cells.filter fun c => c.2.comp.isSome).map fun c => s.ddrMirrors c.1).sum else 0)

/-- The lowest slot this member serves; before a map stands it serves none (R182). -/
def State.formedSlot (s : State) : Option Nat := if s.rack.map.epoch = 0 then none else s.ownSlots.head?

/-- The sizes that take effect at a store bring-up (R190, R216, R290, R661). -/
def State.layOut (s : State) : State :=
  let journalMib := max 64 (min 512 (s.fld F.TIER_JOURNAL_CFG_SIZE_MIB))
  let total := s.tierFrames journalMib
  let free (t : Tier) : Nat := total.getD t.code 0 - s.homeFrames t
  { s with
    store := { s.store with
      journalMib := journalMib, fillGib := max 16 (min 1024 (s.fld F.TIER_FILL_RESERVE)), free := [free .hbm, free .ddr, free .flash], resultSlot := s.formedSlot }
    emb := { s.emb with
      workMib := max 64 (s.fld F.EMB_WORK_CFG), stepMib := min 1024 (s.fld F.EMB_STEP_CFG) } }

/-- Step 11: a metadata checkpoint, and both halves of the brace area erased (R600). -/
def State.eraseBrace (s : State) : State :=
  let s := s.checkpoint
  let s := { s with store := { s.store with braceHalves := [{ erased := true }, { erased := true }] } }
  (s.setFld F.TIER_STATUS_BRACE_READY 1).raise F.TIER_EVENT_BRACE_READY

/-- STORE_BRINGUP (R596 steps 9 to 12), `us` from step 1: alignment and LOCK are held and the population is good. -/
def execStoreBringup (deltaOk : Bool) (damage : List (Nat × Nat × Nat)) (us : Nat) (s : State) : Res :=
  if s.storeUp || s.sys.bracing || !s.inService || s.fld F.CLK_STARTUP_STAGE < 8 || s.alignState != 2 ||
      s.fld F.TIER_STATUS_LOCKED = 0 || s.fld F.TIER_POP_STATUS_ERR != 0 then .next s
  else
    let s := (s.readBrace deltaOk damage).eraseBrace.layOut
    let s := if s.sys.keyZero.isSome then s
      else { s with sys := { s.sys with keyZero := some (Config.randomDraw s.fresh) } }.tickFresh
    let s := (s.setFld F.TIER_STATUS_STORE_UP 1).raise F.TIER_EVENT_STORE_UP
    let s := s.setFld F.CLK_STARTUP_TIME_US (min us 0xFFFFFFFF)
    .next ((s.setFld F.CLK_STARTUP_STAGE 12).raise F.CLK_EVENT_STARTUP_DONE).tellSensors

/-- METADATA_CHECKPOINT (R572): 2^20 frames have passed since the last, or the delta has reached 16 MiB. -/
def execMetadataCheckpoint (s : State) : Res :=
  if s.storeUp && !s.sys.bracing &&
      (decide (s.store.checkpointFrame + 2 ^ 20 ≤ s.frame) || decide (2 ^ 24 ≤ s.delta)) then .next s.checkpoint
  else .next s

/-! ### The clocks (R582, R583) -/

/-- An HXL port drops: it leaves its routes and enters FAILED (R582, R368). -/
def State.dropPort (s : State) (p : Nat) : State :=
  let x := s.port p
  if x.state == .disabled || x.state == .failed then s
  else
    let s := (s.setPort p { x with state := .failed }).portLeaves p
    (s.setPort p { (s.port p).cleared with state := .failed }).raise F.HXL_EVENT_PORT_DOWN

/-- REFCLK_LOSS (R582): in service the root loses lock, which is FATAL, and every HXL and PCIe link drops. -/
def execRefclkLoss (s : State) : Res :=
  if !s.sys.refclk then .next s
  else
    let s := { s with sys := { s.sys with refclk := false } }
    if !s.inService then .next s.tellSensors
    else
      let s := s.fatal { source := 0x40, severity := 5 }
      let s := (List.range 16).foldl (fun (s : State) p => s.dropPort p) s
      .next ((s.resetPcie 0).resetPcie 1).tellSensors

/-- REFCLK_RESTORED (R582): REFCLK is present again; a start-up that waits at step 2 may go on. -/
def execRefclkRestored (s : State) : Res :=
  if s.sys.refclk then .next s else .next { s with sys := { s.sys with refclk := true } }.tellSensors

/-- CLK_SSC_WRITE (R583): taken while the member is FREE and no member or trunk port is ACTIVE. -/
def execClkSscWrite (src : Nat) (value : Word) (s : State) : Res :=
  if src ≥ 128 || src % 64 != 0 then .next s
  else
    let busy := (List.range 16).any fun p =>
      (s.port p).state == .active && ((s.port p).act.kind = 0 || (s.port p).act.kind = 2)
    if s.alignState != 0 || busy then .next (s.raise F.CLK_EVENT_SSC_REFUSED)
    else
      let depth := bf value 3 0
      .next ((s.setFld F.CLK_SSC_DEPTH depth).setFld F.CLK_STATUS_SSC_APPLIED (min depth 10))

/-! ### The pins (R587 to R593) -/

/-- SYS_RST_ASSERT (R589, R601): a member in service braces with CAUSE 6; start-up before step 12 stops at once. -/
def execSysRstAssert (s : State) : Res :=
  if s.sys.sysRst then .next s
  else
    let s := { s with sys := { s.sys with sysRst := true } }
    if s.sys.power = .off then .next s
    else if s.sys.bracing then .next (s.braceTrigger 6 .sysRst)
    else if s.sys.starting || (s.inService && s.fld F.CLK_STARTUP_STAGE < 12) then
      .next ((s.dropUpdate 4).toStandby .sysRst)
    else .next (s.braceTrigger 6 .sysRst)

def execSysRstDeassert (s : State) : Res := .next { s with sys := { s.sys with sysRst := false } }

/-- PERST_ASSERT (R587, R590): a port reset; in STANDBY and OFF it has no further effect. -/
def execPerstAssert (port : Nat) (s : State) : Res :=
  if port ≥ 2 || s.sys.perst.getD port false then .next s
  else
    let s := { s with sys := { s.sys with perst := s.sys.perst.set port true } }
    .next (if s.inService then s.resetPcie port else s)

def execPerstDeassert (port : Nat) (s : State) : Res :=
  .next { s with sys := { s.sys with perst := s.sys.perst.set port false } }

/-- FENCE_REQ_ASSERT (R591): the member fences itself; in start-up it does so at step 7 (R601). -/
def execFenceReqAssert (s : State) : Res :=
  let s := { s with sys := { s.sys with fenceReq := true } }
  if !s.inService then .next s
  else
    let s := s.raise F.CLK_EVENT_FENCE_REQ
    .next (if s.fld F.CLK_STARTUP_STAGE < 7 then s else s.selfFence)

/-- TAP_RESET (R587, R592), by TRST_n or by TMS: the TAP alone is reset; the debug level is unchanged. -/
def execTapReset (pin : Bool) (s : State) : Res :=
  .next { s with sys := { s.sys with tapIr := 0, trst := s.sys.trst || pin } }

end Sys2Proof.Machine
end

