-- ==== Sys2Proof/Machine/Gate.lean ====
section
/-!
DEFINITION. The meanings of the gate and fence commands (spec/12_gates_and_fences.md).
-/
namespace Sys2Proof.Machine

open Sys2Proof

/-- Parameter check 9 of the gate opcodes (R447). `nodePort` says that the command came on a node-form port. -/
def gateParams (width : Nat) (nodePort : Bool) (p : Packet) : Option (Nat × Nat) :=
  let op := pkOpcode p
  let name := pkField p 8 4
  let b12 := pkField p 12 1
  let mode := b12 % 4
  let sig := b12.testBit 2
  let count := pkField p 20 3
  let rsv (lo n : Nat) : Bool := pkField p lo n = 0
  let tail := rsv 24 40 && rsv 13 3
  let fieldsOk := match op with
    | 0xA0 | 0xA1 => tail && b12 / 4 = 0 && rsv 20 4
    | 0xA2 => tail && b12 = 0 && count / 2 ^ 17 = 0 && rsv 23 1
    | 0xA3 => tail && b12 = 0 && rsv 16 8
    | _ => tail && mode = 0 && b12 / 32 = 0 && rsv 20 4 && (sig || (name = 0 && rsv 16 4))
  let named := op != 0xA8 || sig
  if pkPblk p || !fieldsOk || (named && name / 2 ^ 24 != 0) then some (St.badParam, 0x40)
  else if (op = 0xA0 && mode ≥ 2) || (op = 0xA1 && mode = 3) || (named && gateSlot name ≥ width) ||
      (op = 0xA2 && (count = 0 || count > 65536 || name % 2 ^ 18 + count > 262144)) ||
      (op = 0xA8 && b12.testBit 4 && !nodePort) then some (St.badParam, 0x41)
  else none

/-- GATE_SIGNAL (R445, R448): ADD or SET at the gate's home, waking the waits the new value satisfies. -/
def execGateSignal (entry : Nat) (s : State) : Res :=
  match s.runnable entry 0xA0 with
  | none => .next s
  | some e =>
    let name := pkField e.packet 8 4
    let k := gateKey name
    let home := s.serverOf (gateSlot name)
    if home != s.sys.member then .next (s.forward entry home 8)
    else match s.gateFails k (pkComp e.packet) with
    | some (st, sub) => .next (s.failWith entry st sub)
    | none =>
      let s := s.checkGate k
      let old := s.gateVal k
      let v := if pkField e.packet 12 1 % 4 = 0 then (old + pkField e.packet 16 4) % 2 ^ 32 else pkField e.packet 16 4
      let (s1, woken) := s.updateGate k v
      .next (s1.conclude entry true 8 fun o => { o with result0 := old + 2 ^ 32 * v, countDone := woken })

/-- GATE_WAIT (R445, R449): completes at once when satisfied, else it is held in the home's waiter table. -/
def execGateWait (entry : Nat) (s : State) : Res :=
  match s.runnable entry 0xA1 with
  | none => .next s
  | some e =>
    let name := pkField e.packet 8 4
    let k := gateKey name
    let home := s.serverOf (gateSlot name)
    if home != s.sys.member then .next (s.forward entry home 0)
    else match s.gateFails k (pkComp e.packet) with
    | some (st, sub) => .next (s.failWith entry st sub)
    | none =>
      let mode := (WaitMode.ofCode (pkField e.packet 12 1 % 4)).getD .ge
      let target := pkField e.packet 16 4
      let s := s.checkGate k
      let v := s.gateVal k
      if mode.satisfied v target then
        .next (s.conclude entry true 0 fun o => { o with result0 := v, countAux := 1 })
      else if s.gate.waiters.length ≥ 16384 then .next (s.failWith entry St.noSpace 0x40)
      else
        let w : Waiter := { gate := k, mode := mode, target := target, intake := s.sys.member, entry := entry, since := s.frame }
        let s := { s with gate := { s.gate with waiters := s.gate.waiters ++ [w] } }
        let s := s.modEntry entry fun e => { e with started := true, out := { e.out with homes := 1 } }
        .next (if s.gate.waiters.length > 14336 then s.raise F.GATE_EVENT_WAITERS_HIGH else s)

/-- The gates a GATE_RESET covers. -/
def resetGates (name count : Nat) : List Nat := (List.range count).map fun i => gateKey name + i

/-- GATE_RESET (R445, R452, R458): writes VALUE to its gates in ascending order; a LOST block it covers whole is
re-validated. -/
def execGateReset (entry : Nat) (s : State) : Res :=
  match s.runnable entry 0xA2 with
  | none => .next s
  | some e =>
    let name := pkField e.packet 8 4
    let home := s.serverOf (gateSlot name)
    let count := pkField e.packet 20 3 % 2 ^ 17
    let value := pkField e.packet 16 4
    if home != s.sys.member then .next (s.forward entry home 8)
    else
      let gates := resetGates name count
      let first := gateKey name
      let covers (b : Nat) : Bool := decide (first ≤ 256 * b) && decide (256 * b + 256 ≤ first + count)
      let fails := gates.findSome? fun k =>
        match s.gateFails k (pkComp e.packet) with
        | some (0x3F, sub) => if covers (blockKey k) then none else some (St.fenced, sub)
        | r => r
      match fails with
      | some (st, sub) => .next (s.failWith entry st sub)
      | none =>
        let blocks := gates.foldl (fun l k => addNew l (blockKey k)) []
        let s := blocks.foldl (fun s b =>
          if covers b then s.setGateBlock b { s.gateBlock b with lost := false } else s) s
        let (s, woken) := gates.foldl (fun (x : State × Nat) k =>
          let (s, n) := x.1.updateGate k value
          (s, x.2 + n)) (s, 0)
        .next (s.conclude entry true 8 fun o => { o with countDone := count, countAux := woken })

/-- GATE_READ (R448). -/
def execGateRead (entry : Nat) (s : State) : Res :=
  match s.runnable entry 0xA3 with
  | none => .next s
  | some e =>
    let name := pkField e.packet 8 4
    let home := s.serverOf (gateSlot name)
    if home != s.sys.member then .next (s.forward entry home 0)
    else match s.gateFails (gateKey name) (pkComp e.packet) with
    | some (st, sub) => .next (s.failWith entry st sub)
    | none =>
      let s := s.checkGate (gateKey name)
      .next (s.conclude entry true 0 fun o => { o with result0 := s.gateVal (gateKey name) })

/-- FENCE (R459, R460): snapshots SENT less ABANDONED of its source and probes every destination whose count is not
acknowledged yet. -/
def execFence (entry : Nat) (s : State) : Res :=
  match s.runnable entry 0xA8 with
  | none => .next s
  | some e =>
    let system := (pkField e.packet 12 1).testBit 4
    let f : Fence := { entry := entry, id := s.gate.nextFence, src := e.src, waiting := [], acked := [], reroutes := 0 }
    let dests := (List.range (if system then 128 else 64)).filterMap fun d =>
      let c := s.snapshot e.src d
      if c = s.gate.ackedCount.getD (128 * e.src + d) 0 then none else some (d, c)
    -- this member's own count is checked locally
    let here := dests.filter fun d => d.1 = s.sys.member && s.endedReached s.sys.member e.src d.2
    let wait := dests.filter fun d => !(d.1 = s.sys.member && s.endedReached s.sys.member e.src d.2)
    let f := { f with waiting := wait, acked := here.map (·.1) }
    let s := { s with gate := { s.gate with fences := s.gate.fences ++ [f], nextFence := (s.gate.nextFence + 1) % 65536 } }
    let s := s.modEntry entry fun e => { e with started := true }
    let s := wait.foldl (fun s d => s.probeDest f d.1 d.2) s
    .next (s.tryFence entry)

/-- 64 frames without an ACK: the PROBE goes again (R462). -/
def execFenceProbeResend (entry target : Nat) (s : State) : Res :=
  match s.gate.fences.find? fun f => f.entry = entry with
  | none => .next s
  | some f =>
    match f.waiting.find? fun w => w.1 = target with
    | none => .next s
    | some w => .next (s.probeDest f w.1 w.2)

/-- No member was promoted in a fenced destination's place within 64 frames (R463): the fence completes FENCED and does
not signal. -/
def execFencePromotionTimeout (entry target : Nat) (s : State) : Res :=
  match s.gate.fences.find? fun f => f.entry = entry with
  | none => .next s
  | some f =>
    if (f.waiting.any fun w => w.1 = target) && s.memberState target == .fenced then
      let s := { s with gate := { s.gate with fences := s.gate.fences.filter fun g => g.entry != entry } }
      .next (s.finish entry fun o => { o with status := St.fenced, subcode := 0x41, absent := 0xFF, countDone := f.acked.length,
                                              countAux := f.reroutes })
    else .next s

/-- A held wait's watchdog time has passed (R453): the wait is cancelled and completes TIMEOUT, subcode 0x40, unless its
satisfaction was recorded first; the home records its gate. -/
def execGateWatchdogExpiry (entry : Nat) (s : State) : Res :=
  match s.entry? entry with
  | none => .next s
  | some e =>
    if pkOpcode e.packet = 0xA1 && e.accepted && e.phase = .accepted && e.stop.isNone then
      let name := pkField e.packet 8 4
      let s1 := s.stopEntry entry .timeout
      let s1 := s1.count F.GATE_COUNT_WATCHDOG
      if s.serverOf (gateSlot name) = s.sys.member then .next (s1.watchdogHit name)
      else .next (s1.sendItem { owner := none, home := s.serverOf (gateSlot name), epoch := e.epoch, role := true,
                                slot := gateSlot name, kind := 13, addr := name } 0)
    else .next s

/-! ### Block records -/

/-- Load the staging fields with a block's record (R465). -/
def State.stageBlock (s : State) (b : GateBlock) : State :=
  (((s.setFld F.GATE_BLK_CFG_VALID (b2n b.valid)).setFld F.GATE_BLK_CFG_OWNER_CTX b.ownerCtx).setFld
    F.GATE_BLK_CFG_COMPOSITION b.comp).setFld F.GATE_BLK_CFG_LOST (b2n b.lost)

/-- GATE_BLK_SEL (R465, R542). -/
def execGateBlkSelWrite (src block : Nat) (s : State) : Res :=
  if !s.mayAdminister src then .next s
  else
    let b := block % 1024
    .next ((s.setFld F.GATE_BLK_SEL b).stageBlock (s.gateBlock (1024 * s.ownSlot + b)))

/-- GATE_BLK_APPLY (R441): VALID from 0 to 1, or VALID 1 on a LOST block, zeroes the block; clearing VALID or changing
COMPOSITION clears it under R456; a change of OWNER_CTX alone changes nothing else. -/
def execGateBlkApply (src : Nat) (s : State) : Res :=
  if !s.mayAdminister src then .next s
  else
    let k := 1024 * s.ownSlot + s.fld F.GATE_BLK_SEL
    let old := s.gateBlock k
    let new : GateBlock :=
      { valid := s.fld F.GATE_BLK_CFG_VALID = 1, comp := s.fld F.GATE_BLK_CFG_COMPOSITION,
        ownerCtx := s.fld F.GATE_BLK_CFG_OWNER_CTX, lost := false }
    let zero (s : State) : State := { s with gate := { s.gate with vals := s.gate.vals.filter fun g _ => blockKey g != k } }
    let s1 :=
      if old.valid && (!new.valid || new.comp != old.comp) then s.clearBlock k
      else if new.valid && (!old.valid || old.lost) then zero s
      else s
    let s2 := s1.setGateBlock k { new with lost := old.lost && !new.valid }
    .next (s2.setFld F.GATE_BLK_CFG_LOST (b2n (old.lost && !new.valid)))

/-- GATE_DBG_CTRL.READ (R455): at any debug level. -/
def execGateDbgRead (src : Nat) (s : State) : Res :=
  if 128 ≤ src || src % 64 != 0 then .next s
  else
    let k := 262144 * s.ownSlot + s.fld F.GATE_DBG_GATE
    let s := s.checkGate k
    .next ((s.setFld F.GATE_DBG_VALUE (s.gateVal k)).setFld F.GATE_DBG_STATUS_DONE 1)

/-- GATE_DBG_CTRL.SET (R455): only at INVASIVE or MAKER; it acts as a SET from the control domain. -/
def execGateDbgSet (src : Nat) (s : State) : Res :=
  if 128 ≤ src || src % 64 != 0 then .next s
  else if s.sys.debug != .invasive && s.sys.debug != .maker then
    .next ((s.setFld F.GATE_DBG_STATUS_DONE 1).setFld F.GATE_DBG_STATUS_REFUSED 1)
  else
    let k := 262144 * s.ownSlot + s.fld F.GATE_DBG_GATE
    let (s, _) := s.updateGate k (s.fld F.GATE_DBG_VALUE)
    .next ((((s.setFld F.GATE_DBG_STATUS_DONE 1).setFld F.GATE_DBG_STATUS_REFUSED 0).count F.GATE_COUNT_HAND_SET).raise
      F.GATE_EVENT_HAND_SET)

/-! ### DRAIN messages (R460 to R462) -/

def drFence (m : List Byte) : Nat := fieldAt m 2 2
def drOrigin (m : List Byte) : Nat := nbf (fieldAt m 4 2) 14 0
def drTarget (m : List Byte) : Nat := nbf (fieldAt m 6 2) 14 0
def drSource (m : List Byte) : Nat := fieldAt m 8 1
def drCount (m : List Byte) : Nat := fieldAt m 12 4

/-- A PROBE or REROUTE (R460, R462): the destination answers once ENDED reaches the count; another member passes it on. -/
def State.recvProbe (s : State) (p : Nat) (m : List Byte) : State :=
  let s := { s with hxl := { s.hxl with inbox := s.hxl.inbox.erase (p, m) } }
  if (s.port p).act.kind = 1 then s.msgBad p
  else if drTarget m != s.sys.member then
    s.sendProbe (nbf (fieldAt m 1 1) 5 4) (drFence m) (drOrigin m) (drTarget m) (drSource m) (fieldAt m 10 2) (drCount m)
  else if s.endedReached (drOrigin m) (drSource m) (drCount m) then
    s.sendMember (drOrigin m) s.sys.member 0
      (drainMsg 1 (drFence m) (drOrigin m) s.sys.member (drSource m) 0
        (s.gate.ended.getD (144 * drOrigin m + drSource m) 0))
  else
    { s with gate := { s.gate with probes := s.gate.probes ++
      [({ origin := drOrigin m, source := drSource m, fenceId := drFence m, count := drCount m } : Probe)] } }

def execDrainProbe (port : Nat) (msg : List Byte) (s : State) : Res := .next (s.recvProbe port msg)
def execDrainReroute (port : Nat) (msg : List Byte) (s : State) : Res := .next (s.recvProbe port msg)

/-- An ACK reaches the origin (R462). -/
def execDrainAck (port : Nat) (msg : List Byte) (s : State) : Res :=
  let s := { s with hxl := { s.hxl with inbox := s.hxl.inbox.erase (port, msg) } }
  if drOrigin msg != s.sys.member then .next (s.sendMember (drOrigin msg) s.sys.member 0 msg)
  else
    let snap := ((s.gate.fences.find? fun f => f.id = drFence msg).bind fun f =>
      (f.waiting.find? fun w => w.1 = drTarget msg).map (·.2)).getD 0
    .next (s.ackFence (drFence msg) (drTarget msg) snap)

/-- ENDED has reached a waiting PROBE's count (R460): the ACK goes. -/
def execDrainAnswerDue (origin source fenceId : Nat) (s : State) : Res :=
  match s.gate.probes.find? fun p => p.origin = origin && p.source = source && p.fenceId = fenceId with
  | none => .next s
  | some p =>
    if !s.endedReached origin source p.count then .next s
    else
      let s := { s with gate := { s.gate with probes := s.gate.probes.filter fun q =>
        !(q.origin = origin && q.source = source && q.fenceId = fenceId) } }
      if origin = s.sys.member then .next (s.ackFence fenceId s.sys.member p.count)
      else .next (s.sendMember origin s.sys.member 0
        (drainMsg 1 fenceId origin s.sys.member source 0 (s.gate.ended.getD (144 * origin + source) 0)))

end Sys2Proof.Machine
end

