-- ==== Sys2Proof/Machine/Hxl.lean ====
section
/-!
DEFINITION. The meanings of the HXL link commands (spec/10_hxl_fabric.md).
-/
namespace Sys2Proof.Machine

open Sys2Proof

/-! ### Training (R368) -/

/-- All four lanes detect the partner; lane order and polarity are as found (R366). -/
def execDetectComplete (port : Nat) (reversed : Bool) (polarity : Nat) (s : State) : Res :=
  let x := s.port port
  if x.state != .detect then .next s
  else .next (s.setPort port { x with state := .equalize, lanesReversed := reversed, polarity := polarity % 16 })

def execDetectTimeout (port : Nat) (s : State) : Res :=
  if (s.port port).state != .detect then .next s else .next (s.failAttempt port 1)

def execEqualizeComplete (port : Nat) (s : State) : Res :=
  let x := s.port port
  if x.state != .equalize then .next s else .next (s.setPort port { x with state := .lock })

/-- After 30 ms: LOCK with an error ratio below 10⁻⁴, else the attempt fails. -/
def execEqualizeTimeout (port : Nat) (below : Bool) (s : State) : Res :=
  let x := s.port port
  if x.state != .equalize then .next s
  else if below then .next (s.setPort port { x with state := .lock })
  else .next (s.failAttempt port 2)

/-- Block lock: a port in LOCK goes to PARAM; one in RETRAIN has relocked and measures again (R368, R371). -/
def execBlockLockAcquired (port : Nat) (s : State) : Res :=
  let x := s.port port
  match x.state with
  | .lock => .next (s.setPort port { x with state := .param, paramOk := false, echoSent := 0, echoCount := 0, echoSum := 0 })
  | .retrain => .next (s.setPort port { x with relocked := true, echoSent := 0, echoCount := 0, echoSum := 0 })
  | _ => .next s

def execLockTimeout (port : Nat) (s : State) : Res :=
  if (s.port port).state != .lock then .next s else .next (s.failAttempt port 3)

def execBlockLockLost (port : Nat) (s : State) : Res := .next (s.retrainPort port)

/-! PARAM (R369, R370). -/

def paKind (m : List Byte) : Nat := nbf (fieldAt m 2 1) 1 0
def paNode (m : List Byte) : Bool := (fieldAt m 2 1).testBit 2
def paEncCap (m : List Byte) : Bool := (fieldAt m 2 1).testBit 3
def paEncReq (m : List Byte) : Bool := (fieldAt m 2 1).testBit 4
def paId (m : List Byte) : Nat := nbf (fieldAt m 4 2) 14 0
def paRack (m : List Byte) : Nat := nbf (fieldAt m 6 1) 5 0
def paCredits (m : List Byte) : List Nat := (List.range 6).map fun i => fieldAt m (8 + 2 * i) 2

/-- The least a partner must advertise, VC 0 first (R383). -/
def partnerMinimum (kind : Nat) : List Nat :=
  if kind = 1 then [0, 16384, 256, 0, 0, 256] else [16384, 16384, 1024, 4096, 16384, 1024]

/-- The index of a compute endpoint's requester ID on a port (R395, R396). -/
def endpointIndex (node : Bool) (id : Nat) : Option Nat :=
  if node then (if id % 512 ≥ 64 then some (id % 512) else none)
  else if 0x200 ≤ id && id < 0x400 then some (id - 0x200) else none

/-- The FAIL_CODE of a PARAM message, 0 when it passes (R370). -/
def State.paramFails (s : State) (p : Nat) (m : List Byte) : Nat :=
  let x := s.port p
  let form := fieldAt m 1 1 = 1 && paKind m = x.act.kind && x.act.kind != 3 && paNode m = x.act.nodeForm &&
    (x.act.kind = 2 || paRack m = s.fld F.HXL_ID_RACK)
  let who := match x.act.kind with
    | 1 => (endpointIndex x.act.nodeForm (paId m)).any fun i =>
        let r := s.epRoute i
        (r.valid1 && r.member1 = s.sys.member && r.port1 = p) || (r.valid2 && r.member2 = s.sys.member && r.port2 = p)
    | 0 => paId m < 64
    | _ => true
  let least := partnerMinimum x.act.kind
  let credits := (List.range 6).all fun v => (paCredits m).getD v 0 ≥ least.getD v 0
  if !form || !who || !credits then 4
  else if (x.act.encReq || paEncReq m) && !paEncCap m then 5
  else 0

/-- The partner's PARAM message (R369, R370): Spenal itself supports encryption. An endpoint partner is granted command
credits up to the port's lift-line limit (R52). -/
def execParam (port : Nat) (msg : List Byte) (s : State) : Res :=
  let s := s.takeMsg port msg
  let x := s.port port
  if x.state != .param || x.paramOk then .next s
  else
    let code := s.paramFails port msg
    if code != 0 then .next (s.failPort port code)
    else
      let y := { x with
        paramOk := true, partnerKind := paKind msg, partnerId := paId msg, encOn := x.act.encReq || paEncReq msg,
        credAdvert := paCredits msg, credAvail := paCredits msg }
      let s := s.setPort port y
      .next (if x.act.kind = 1 then
        s.setSource (128 + port) { s.source (128 + port) with
          credits := (s.source (128 + port)).limit, creditsDue := 0, grants := [] } else s)

/-- An ECHO message, delivered at time `now` in units of 0.1 ns (R371): a request is answered with the time it was held,
a reply adds to the average. -/
def execEcho (port : Nat) (msg : List Byte) (now hold : Nat) (s : State) : Res :=
  let s := s.takeMsg port msg
  let x := s.port port
  if x.state != .param && x.state != .retrain then .next s
  else if !(fieldAt msg 1 1).testBit 0 then
    .next (s.sendBare port 3 (toLe 1 0x15 ++ toLe 1 1 ++ sub msg 2 2 ++ toLe 4 0 ++ sub msg 8 4 ++ toLe 4 hold))
  else if x.echoCount ≥ 64 then .next s
  else
    let d := ((now + 2 ^ 32 - fieldAt msg 8 4 % 2 ^ 32) % 2 ^ 32 + 2 ^ 32 - fieldAt msg 12 4) % 2 ^ 32 / 2
    .next (s.setPort port { x with echoCount := x.echoCount + 1, echoSum := x.echoSum + d })

/-- Checks passed, delay measured, session complete and keys installed where they are needed: ACTIVE (R368, R405, R537). -/
def execPortActivate (port : Nat) (s : State) : Res :=
  let x := s.port port
  let session := x.act.kind = 0 || x.act.kind = 2 || x.encOn
  if x.state = .param && x.paramOk && x.echoCount ≥ 64 && (!x.encOn || x.keysIn) && (!session || x.session) then
    .next (((s.activatePort port).raise F.HXL_EVENT_PORT_UP).grantOwed port)
  else .next s

/-- Relock and measurement are done: ACTIVE again, and everything unacknowledged is replayed (R368, R382). -/
def execRetrainComplete (port : Nat) (s : State) : Res :=
  let x := s.port port
  if x.state = .retrain && x.relocked && x.echoCount ≥ 64 then
    .next ((s.setPort port { x with replayQ := x.kept }).activatePort port)
  else .next s

def execRetrainTimeout (port : Nat) (s : State) : Res :=
  if (s.port port).state != .retrain then .next s else .next (s.failPort port 6)

/-! ### HXL_PORT_CFG and HXL_PORT_CTRL (R408) -/

/-- HXL_PORT_CFG of the selected port: EN 0 acts at once; anything else waits for the next DETECT, which EN 1 starts from
DISABLED (R368, R408). -/
def execHxlPortCfgWrite (src : Nat) (value : Word) (s : State) : Res :=
  if !s.mayAdminister src then .next s
  else
    let p := s.fld F.HXL_PORT_SEL_PORT
    let x := s.port p
    let cfg : PortCfg := { en := bit value 0, kind := bf value 2 1, nodeForm := bit value 3, encReq := bit value 4 }
    let s1 := s.setPort p { x with cfg := cfg }
    if !cfg.en then
      if x.state = .disabled then .next s1
      else
        let s2 := ((s1.setPort p { s1.port p with state := .disabled }).portLeaves p).resendLost p
        .next (s2.setPort p { (s2.port p).cleared with state := .disabled })
    else if x.state = .disabled && s.running then .next (s1.detectPort p)
    else .next s1

/-- HXL_PORT_CTRL.RETRAIN (R368). -/
def execHxlPortRetrain (src : Nat) (s : State) : Res :=
  if src ≥ 128 || src % 64 != 0 then .next s else .next (s.retrainPort (s.fld F.HXL_PORT_SEL_PORT))

/-- HXL_PORT_CTRL.RESET (R368): the port's state is dropped and it enters DETECT. A DISABLED port stays so until EN. -/
def execHxlPortReset (src : Nat) (s : State) : Res :=
  if src ≥ 128 || src % 64 != 0 then .next s
  else
    let p := s.fld F.HXL_PORT_SEL_PORT
    if (s.port p).state = .disabled then .next s
    else
      let s1 := ((s.setPort p { s.port p with state := .detect }).portLeaves p).resendLost p
      .next (s1.detectPort p)

/-! ### Flits and retry (R375 to R382, R406, R407) -/

/-- What a receiver makes of a flit before its content: codewords corrected or not, CRC, tag (R375, R376, R406). -/
structure FlitCheck where
  fecOk : Bool
  crcOk : Bool
  tagOk : Bool
  deriving DecidableEq, Repr

/-- A bad flit is discarded and asks for a replay (R380); tag failures are counted toward FAILED (R407). -/
def State.badFlit (s : State) (p : Nat) (c : FlitCheck) (enc : Bool) : State :=
  let x := s.port p
  let x := { x with nak := true, crc := if c.crcOk && c.tagOk then x.crc else satInc 32 x.crc }
  if c.fecOk && c.crcOk && enc && !c.tagOk then
    let fails := (s.frame :: x.authFails).filter fun f => decide (s.frame < f + 312500)
    let s := s.setPort p { x with authFails := fails }
    if (fails.filter fun f => f = s.frame).length ≥ 4 || fails.length ≥ 16 then
      (s.failPort p 7).raise F.HXL_EVENT_AUTH_FAIL
    else s
  else s.setPort p x

/-- The header of a good flit acts (R380, R381, R385): ACK frees kept flits, CCNT returns credits, NAK starts a replay, the
eighth NAK without progress a RETRAIN. -/
def State.headerActs (s : State) (p : Nat) (hdr : Nat) : State :=
  let x := s.port p
  let ack := nbf hdr 25 14
  let covered (k : KeptFlit) : Bool := decide ((ack + 4096 - k.seq) % 4096 < 1024)
  let kept := x.kept.filter fun k => !covered k
  let progress := kept.length < x.kept.length
  let v := nbf hdr 34 32
  let x := { x with
    kept := kept
    replayQ := x.replayQ.filter fun k => !covered k
    naks := if progress then 0 else x.naks
    credAvail := if v < 6 then x.credAvail.set v (x.credAvail.getD v 0 + nbf hdr 47 35) else x.credAvail }
  if hdr.testBit 26 then
    let naks := x.naks + 1
    let s := s.setPort p { x with naks := naks, replayQ := kept }
    if naks ≥ 8 then s.retrainPort p
    else s.corrected (0x50000 + p) { source := 0x06, severity := 1, unitKind := 5, unitIndex := p }
  else s.setPort p x

/-- A flit is received (R375 to R381): FEC counts, checks, header, then its messages in order. -/
def execFlitReceive (port corrected uncorrectable : Nat) (fecOk crcOk tagOk : Bool) (hdr : Nat) (payload : List Byte)
    (s : State) : Res :=
  let x := s.port port
  if x.state != .param && x.state != .active && x.state != .retrain then .next s
  else
    let s := s.setPort port { x with fecCorr := min (2 ^ 32 - 1) (x.fecCorr + corrected),
                                     fecUncorr := min (2 ^ 32 - 1) (x.fecUncorr + uncorrectable) }
    let c : FlitCheck := { fecOk := fecOk, crcOk := crcOk, tagOk := tagOk }
    let enc := hdr.testBit 27
    if !fecOk || !crcOk || (enc && !tagOk) then .next (s.badFlit port c enc)
    else
      let s := s.headerActs port hdr
      let y := s.port port
      let s := if enc && hdr.testBit 28 != y.rxKeyPhase then s.setPort port { y with rxKeyPhase := hdr.testBit 28 } else s
      let y := s.port port
      match hdr % 4 with
      | 1 =>
        if y.state != .active then .next s
        else if nbf hdr 13 2 != y.rxSeq then .next (s.setPort port { y with nak := true })
        else
          let s := s.setPort port { y with rxSeq := (y.rxSeq + 1) % 4096, nak := false }
          .next (s.deliver port payload (hdr.testBit 29) true)
      | 2 | 3 => .next (s.deliver port payload false false)
      | _ => .next s

/-- 64 slot times have passed without the expected SEQ (R380): the NAK goes again. -/
def execNakRepeat (port : Nat) (s : State) : Res :=
  let x := s.port port
  if x.state = .active && x.nak then .next (s.sendBare port 0 []) else .next s

/-- Unacknowledged flits have waited 10 µs without ACK progress (R382). -/
def execAckTimeout (port : Nat) (s : State) : Res :=
  if (s.port port).kept.isEmpty then .next s else .next (s.retrainPort port)

/-- The transmitter changes key phase (R407), once the next key is installed; until then it sends IDLE in place of DATA. The
security processor installs the key after it before it is needed (R539). -/
def execRekey (port : Nat) (s : State) : Res :=
  let x := s.port port
  if x.encOn && x.nextKeyIn then
    .next (s.setPort port { x with keyPhase := !x.keyPhase, phaseFlits := 0 })
  else .next s

/-! ### Routes (R399, R402, R408) -/

/-- A message has waited 64 frames without an ACTIVE port (R399): discarded and counted; a request completes FENCED,
subcode 0xC6; an answer gets no other. One toward a fenced member goes without an answer (R660). -/
def execNoRouteExpiry (id : Nat) (s : State) : Res :=
  match s.hxl.waiting.find? fun w => w.id = id && !w.drain with
  | none => .next s
  | some w =>
    let s := { s with hxl := { s.hxl with waiting := s.hxl.waiting.filter fun v => v.id != id } }
    if w.dst < 64 && s.memberState w.dst == .fenced then .next s
    else
      let s := (s.count F.HXL_NO_ROUTE).raise F.HXL_EVENT_NO_ROUTE
      if isRequest w.msg then
        let src := nbf (fieldAt w.msg 4 2) 14 0
        let ans := respMsg 0x0B (nbf (fieldAt w.msg 1 1) 3 0) (fieldAt w.msg 2 2) src St.fenced 0xC6 (fieldAt w.msg 8 7)
          s.sys.member []
        let s := if w.dst < 64 then { s with hxl := { s.hxl with owed := s.hxl.owed.modify w.dst fun n => n - 1 } } else s
        if src < 64 then .next (s.sendMember src s.sys.member (fieldAt w.msg 2 2) ans)
        else
          let i := s.indexOfId src
          let r := s.epRoute i
          let q := if r.valid1 && r.member1 = s.sys.member then r.port1 else r.port2
          let y := s.port q
          let s := { s with xlt := { s.xlt with raws := s.xlt.raws.filter fun t => !(t.port = q && t.tag = fieldAt w.msg 2 2) } }
          .next ((s.setPort q { y with raws := y.raws - 1 }).sendEndpoint i (fieldAt w.msg 2 2) ans)
      else .next s

/-- Earlier requests to a member have all been answered (R402): the held ones go out on the new set. -/
def execRouteDrainEnd (member : Nat) (s : State) : Res :=
  let r := s.route member
  if !r.draining || s.hxl.owed.getD member 0 != 0 then .next s
  else
    let go := s.hxl.waiting.filter fun w => w.drain && w.dst = member
    let s := s.setRoute member { r with draining := false }
    let s := { s with hxl := { s.hxl with waiting := s.hxl.waiting.filter fun w => !(w.drain && w.dst = member) } }
    let s := go.foldl (fun (s : State) w =>
      let s := { s with hxl := { s.hxl with owed := s.hxl.owed.set member (s.hxl.owed.getD member 0 + 1) } }
      s.sendMember member s.sys.member (fieldAt w.msg 8 7 / 4096) w.msg) s
    .next (s.raise F.HXL_EVENT_ROUTE_DRAIN)

/-- HXL_ROUTE of the selected member (R399, R402, R408): it takes effect at once; when the ACTIVE set changes, new
requests wait for the earlier ones. -/
def execHxlRouteWrite (src : Nat) (value : Word) (s : State) : Res :=
  if !s.mayAdminister src then .next s
  else
    let m := s.fld F.HXL_ROUTE_SEL_MEMBER
    let r := s.route m
    let ports := bf value 15 0
    let active (mask : Nat) := (List.range 16).filter fun p => mask.testBit p && (s.port p).state == .active
    let changed := active ports != active r.ports
    let s := s.setRoute m { ports := ports, dist := bf value 18 16,
                            draining := r.draining || (changed && s.hxl.owed.getD m 0 != 0) }
    .next s.retryWaiting

end Sys2Proof.Machine
end

