-- ==== Sys2Proof/Machine/Comp.lean ====
section
/-!
DEFINITION. The meanings of the composition opcodes (spec/14_rack_fault_tolerance.md, R521 to R528).
-/
namespace Sys2Proof.Machine

open Sys2Proof

/-- CMP_DEFINE (R521, R534). -/
def execCmpDefine (entry : Nat) (s : State) : Res :=
  match s.runnable entry 0xC8 with
  | none => .next s
  | some e =>
    .next ((s.defineComp e.packet).dispatch entry s.everyMember 16 fun o =>
      { o with countDone := e.share s.everyMember.length })

/-- Apply CMP_GRANT at this member and send it to the others (R522). -/
def State.applyGrant (s : State) (entry : Nat) (e : Entry) : State :=
  (s.grantSlabs e.packet).dispatch entry s.everyMember 16 fun o =>
    { o with result0 := e.share (mpSlabs e.packet), countDone := e.share s.everyMember.length }

/-- CMP_GRANT (R185, R522): refused without effect when a LIMIT would be passed or any member lacks frames. -/
def execCmpGrant (entry : Nat) (s : State) : Res :=
  match s.runnableStore entry 0xCA with
  | none => .next s
  | some e =>
    let needs := s.grantNeeds (mpSlabList e.packet)
    if e.part then .next ((s.unreserve ((e.proxy.map (·.origin)).getD 0) e.packet).applyGrant entry e)
    else if e.stage = 0 then
      if s.passesLimit e.packet then .next (s.failWith entry St.noSpace 0x61)
      else if needs > s.store.free.getD grantHome.code 0 then .next (s.failWith entry St.noSpace 0x60)
      else if s.everyMember.length ≤ 1 then .next (s.applyGrant entry e)
      else .next (s.reserveAll entry e grantHome needs)
    else if !e.items.isEmpty then .next s
    else if e.out.status != St.done then
      .next ((s.releaseAll e.packet).finish entry fun o => { o with absent := 0xFF })
    else .next ((s.unreserve s.sys.member e.packet).applyGrant entry e)

/-- CMP_WITHDRAW (R522): it waits for the commands and raw transactions that captured the slabs, back-invalidates endpoint
copies, then frees the slabs. -/
def execCmpWithdraw (entry : Nat) (s : State) : Res :=
  match s.runnableStore entry 0xCB with
  | none => .next s
  | some e =>
    let slabs := mpSlabList e.packet
    let fresh := slabs.any fun n => !(s.slabNo n).withdrawing
    let s := if fresh then s.beginWithdraw entry e.packet else s
    let waits := ((s.entry? entry).map (·.waitsFor)).getD []
    if (waits.any fun id => (s.entry? id).isSome) || s.rawsToSlabs slabs then .next s
    else match s.walkSlabs entry s.sys.member slabs with
    | (s, true) => .next s
    | (s, false) =>
      .next ((s.freeSlabs slabs).dispatch entry s.everyMember 48 fun o =>
        { o with result0 := e.share slabs.length, countDone := e.share s.everyMember.length })

/-- CMP_QUERY (R528). -/
def execCmpQuery (entry : Nat) (s : State) : Res :=
  match s.runnable entry 0xCC with
  | none => .next s
  | some e =>
    let c := mpComp e.packet
    let x := s.comp c
    .next (s.finish entry fun o => { o with
      result0 := s.granted c .hbm + 2 ^ 32 * s.granted c .ddr
      result1 := s.granted c .flash
      countDone := (s.xlt.ctxs.cells.filter fun t => t.2.valid && t.2.comp = c).length
      countAux := (x.chargedHbm + x.chargedDdr) / 0x100000 })

end Sys2Proof.Machine
end

