-- ==== Sys2Proof/Machine/Meter.lean ====
section
/-!
DEFINITION. Composition metering (spec/18_management_and_counters.md, R524, R612 to R615), and CMP_DROP, which ends it.
-/
namespace Sys2Proof.Machine

open Sys2Proof

/-! ### The tick (R524, R612) -/

/-- Pages this member holds of a slab: home frames, mirror frames and parity pages (R472, R473, R475). -/
def State.pagesHeld (s : State) (slab : Nat) : Nat :=
  let me := s.sys.member
  let pages := (List.range 262144).map (262144 * slab + ·)
  let mirrors := pages.filter fun pg => s.mirrored pg && s.partnerOf (s.homeSlot (pg * 4096)) == some me
  let stripes (q : Bool) : List Nat := pages.foldl (fun (l : List Nat) pg =>
    if !s.striped pg then l
    else
      let (k, _, p, q') := stripeOf s.width (s.homeSlot (pg * 4096)) (s.rank pg)
      if s.serverOf (if q then q' else p) = me then addNew l k else l) []
  (s.homedPages slab).length + mirrors.length + (stripes false).length + (stripes true).length

/-- Bytes this member holds for a composition in a tier: those pages, and charged pool frames (R195, R524). -/
def State.bytesHeld (s : State) (c : Nat) (t : Tier) : Nat :=
  let slabs := s.store.slabs.cells.filter fun x => x.2.comp == some c && x.2.home == t
  let pool := match t with
    | .hbm => (s.comp c).chargedHbm
    | .ddr => (s.comp c).chargedDdr
    | .flash => 0
  4096 * (slabs.map fun x => s.pagesHeld x.1).sum + pool

/-- Add to the counters: tenths of a byte-second in MiB·s for the tiers, cycles in core-µs, each with its remainder (R612). -/
def Comp.addTick (x : Comp) (bytes : List Nat) (cycles frame : Nat) : Comp :=
  let unit (i : Nat) : Nat := if i = 3 then 1600 else 10 * 1048576
  let amount (i : Nat) : Nat := x.rem.getD i 0 + (if i = 3 then cycles else bytes.getD i 0)
  let meter := (List.range 4).map fun i => (x.meter.getD i 0 + amount i / unit i) % 2 ^ 64
  { x with
    meter := meter
    rem := (List.range 4).map fun i => amount i % unit i
    ticks := ((frame, meter) :: x.ticks).take 2 }

/-- METERING_TICK (R612): at a frame that is a multiple of 31,250, once. `cycles` names the compositions whose invocations
have run since the last tick. -/
def execMeteringTick (cycles : List (Nat × Nat)) (s : State) : Res :=
  if s.frame % 31250 != 0 || !s.storeUp || s.sys.bracing || ((s.comp 0).ticks.any fun t => t.1 = s.frame) then .next s
  else
    let comps := if s.rack.comps.has 0 then s.rack.comps else s.rack.comps.set 0 {}
    let comps := comps.mapVals fun c (x : Comp) =>
      x.addTick [s.bytesHeld c .hbm, s.bytesHeld c .ddr, s.bytesHeld c .flash]
        ((cycles.filter fun y => y.1 = c).map (·.2)).sum s.frame
    .next { s with rack := { s.rack with comps := comps } }

/-- MGT_METER_CTRL.SNAP (R614): the last tick's counters of the selected composition, and its frame. -/
def execMgtMeterSnap (src : Nat) (s : State) : Res :=
  if !isPf src then .next s
  else
    let tick := ((s.comp 0).ticks.head?.map (·.1)).getD 0
    let v := (s.meterAt (s.fld F.MGT_METER_SEL_COMP) tick).getD [0, 0, 0, 0]
    let put (s : State) (off value : Nat) : State := s.setRegAt 0 off (BitVec.ofNat 32 value)
    let s := put (put s F.MGT_METER_TICK_LO_FRAME.off tick) F.MGT_METER_TICK_HI_FRAME.off (tick / 2 ^ 32)
    .next ((List.range 4).foldl (fun (s : State) i =>
      put (put s (F.MGT_METER_LO_VALUE.off + 8 * i) (v.getD i 0)) (F.MGT_METER_HI_VALUE.off + 8 * i) (v.getD i 0 / 2 ^ 32)) s)

/-! ### METER_QUERY (R615) -/

/-- T: the latest tick at least 64 frames before acceptance. -/
def meterTick (accept : Nat) : Nat := (accept - 64) / 31250 * 31250

/-- The reports that have arrived, six numbers each. -/
def meterReports : Nat → List Nat → List (List Nat)
  | 0, _ => []
  | n + 1, l => if l.length < 6 then [] else l.take 6 :: meterReports n (l.drop 6)

/-- Every member has answered: the sums over those that reported. -/
def State.endMeter (s : State) (entry : Nat) (e : Entry) : State :=
  let reports := meterReports 64 e.reply
  let who := reports.map fun r => r.getD 0 0
  let silent := s.everyMember.filter fun m => !who.contains m
  let total (i : Nat) : Nat := (reports.map fun r => r.getD (2 + i) 0).sum
  let mask := (silent.map fun m => 2 ^ m).sum
  let t := meterTick e.acceptFrame
  let out := toLe 8 t ++ toLe 8 (total 0) ++ toLe 8 (total 1) ++ toLe 8 (total 2) ++ toLe 8 (total 3) ++ toLe 8 mask ++
    toLe 16 0
  (s.putResults entry out).finish entry fun o => { o with
    status := St.done, subcode := 0, result0 := t, countDone := who.length, countAux := silent.length }

/-- METER_QUERY (R615): asked of every voting member in its own right; taken up again once all of them have answered. -/
def execMeterQuery (entry : Nat) (s : State) : Res :=
  match s.resumable entry 0xD0 with
  | none => .next s
  | some e =>
    if !e.started then
      let t := meterTick e.acceptFrame
      let s := s.modEntry entry fun x =>
        { x with started := true, moving := true, begun := x.begun ||| 4, reply := s.meterReport (bf e.packet 107 96) t }
      let others := s.everyMember.filter fun m => m != s.sys.member
      let s := others.foldl (fun (s : State) m => s.sendItem
        { owner := some entry, home := m, epoch := e.epoch, role := true, slot := 64, kind := 4,
          data := bvBytes e.packet 0 64 ++ toLe 8 t } 4) s
      match s.entry? entry with
      | some x => .next (if others.isEmpty then s.endMeter entry x else s)
      | none => .next s
    else if !e.items.isEmpty then .next s
    else .next (s.endMeter entry e)

/-! ### CMP_DROP (R521, R534, R613) -/

/-- CMP_DROP: the record, the key pair and the counters of the composition go at every member. -/
def execCmpDrop (entry : Nat) (s : State) : Res :=
  match s.runnable entry 0xC9 with
  | none => .next s
  | some e =>
    let s := { s with rack := { s.rack with comps := s.rack.comps.erase (mpComp e.packet), keys := s.rack.keys.erase (mpComp e.packet) } }
    .next (s.dispatch entry s.everyMember 16 fun o => { o with countDone := e.share s.everyMember.length })

end Sys2Proof.Machine
end

