-- ==== Sys2Proof/Machine/Rack.lean ====
section
/-!
DEFINITION. The meanings of the rack commands (spec/14_rack_fault_tolerance.md): the messages of the agreement, the change
of a map, re-mirroring, rebuilding, formation and the MAP opcodes.
-/
namespace Sys2Proof.Machine

open Sys2Proof

/-! ### CONS messages (R497 to R502) -/

/-- Another member has this one's number (R639): the MAP_FORM under way fails, or the next one. -/
def State.idClashes (s : State) : State :=
  match s.rack.forming with
  | some f => (s.unform f.entry).failWith f.entry St.badParam 0x42
  | none => { s with rack := { s.rack with idClash := true } }

/-- A CONS message is taken up (R387, R498): it comes on a member port, from another member, 32 bytes long with its
reserved bits 0; anything else is refused. -/
def State.takeCons (s : State) (p : Nat) (m : List Byte) : State × Bool :=
  let s := s.takeMsg p m
  let ok := (s.port p).act.kind = 0 && m.length = 32 && fieldAt m 0 1 = 0x11 && fieldAt m 2 1 < 64 &&
    nbf (fieldAt m 26 1) 7 6 = 0 && fieldAt m 27 1 = 0
  if ok && csSrc m != s.sys.member then (s, true)
  else ((if ok then s.idClashes else s).msgBad p, false)

/-- What every CONS of a member shows: it is not silent, and suspicion of it ends unless it sent FATAL (R499). -/
def State.hearCons (s : State) (m : List Byte) : State :=
  let x := csSrc m
  let s := s.setPeer x { s.peer x with silent := false }
  if (s.peer x).fatal then s else s.unsuspect x

/-- A MAP_FORM completes once every member its image names ACTIVE has been heard with this member's MAPSUM (R517). -/
def State.tryForm (s : State) : State :=
  match s.rack.forming with
  | none => s
  | some f =>
    let named := (List.range 64).filter fun m => s.memberState m == .active && m != s.sys.member
    if named.all fun m => f.heard.contains m then
      let s := { s with rack := { s.rack with forming := none } }
      s.finish f.entry fun o => { o with result0 := s.rack.map.mapsum, countDone := f.heard.length + 1 }
    else s

/-- A member whose epoch differs from a quorum's by 32,768 or more cannot stay a voting member (R496). -/
def State.leftBehind (s : State) : State :=
  let e := s.rack.map.epoch
  let far := s.others.filter fun m => (s.rack.peers.has m) && decide (32768 ≤ ((s.peer m).epoch - e) + (e - (s.peer m).epoch))
  if s.votes && s.quorum far then s.selfFence else s

/-- A HEARTBEAT arrives (R497 to R501): the sender's suspect set, its epoch and MAPSUM; a joiner's admission summary. The
same epoch with another MAPSUM feeds suspicion. A changed MAPSUM of a fenced member shows that it was reset (R518). -/
def execHeartbeat (port : Nat) (msg : List Byte) (s : State) : Res :=
  match s.takeCons port msg with
  | (s, false) => .next s
  | (s, true) =>
    let x := csSrc msg
    let old := s.peer x
    let bad := csEpoch msg = s.rack.map.epoch && csMapsum msg != s.rack.map.mapsum && s.voting.contains x
    let s := s.setPeer x { old with
      silent := false, mapMismatch := bad, bracing := false, mask := csMask msg, epoch := csEpoch msg,
      mapsum := csMapsum msg, frame := csFrame msg,
      resetSince := old.resetSince || (s.memberState x == .fenced && csMapsum msg != old.mapsum) }
    let s := if bad then s.suspect x else s.hearCons msg
    let s := match s.rack.forming with
      | none => s
      | some f =>
        if csEpoch msg = s.rack.map.epoch && csMapsum msg = s.rack.map.mapsum then
          { s with rack := { s.rack with forming := some { f with heard := addNew f.heard x } } }.tryForm
        else s
    .next (s.leftBehind.coordinate)

/-- Every 100 µs (R497, R502). -/
def execHeartbeatSend (s : State) : Res := .next s.sendHeartbeats

/-- Silence of 300 µs (R499). -/
def execSuspicionTimeout (member : Nat) (s : State) : Res :=
  if member = s.sys.member || !s.voting.contains member then .next s
  else .next ((s.setPeer member { s.peer member with silent := true, mask := 0 }).suspect member)

/-- Every member a FENCE names is confirmed in this member's view or suspected by it (R501). -/
def State.agrees (s : State) (p : Proposal) : Bool :=
  p.change != .fence || (s.voting.filter fun m => p.mask.testBit m).all fun m => s.confirmed m || s.rack.suspects.contains m

/-- PROPOSE (R501, R502): ACCEPT goes to its sender when epoch, ballot and confirmation allow; a member in brace accepts
none. -/
def execPropose (port : Nat) (msg : List Byte) (s : State) : Res :=
  match s.takeCons port msg with
  | (s, false) => .next s
  | (s, true) =>
    let s := s.hearCons msg
    let p := csProposal msg
    let s := { s with rack := { s.rack with ballotSeen := max s.rack.ballotSeen p.ballot } }
    let low := s.rack.accepted.any fun a => a.epoch = p.epoch && decide (p.ballot < a.ballot)
    if s.sys.bracing || s.fenced || !s.votes || p.epoch != s.rack.map.epoch + 1 || low || !s.agrees p then .next s
    else
      let s := { s with rack := { s.rack with accepted := some p, acceptFrame := s.frame } }
      .next (s.sendCons 2 p s.frame (csSrc msg))

/-- ACCEPT (R501): COMMIT goes once a quorum has accepted. -/
def execAccept (port : Nat) (msg : List Byte) (s : State) : Res :=
  match s.takeCons port msg with
  | (s, false) => .next s
  | (s, true) =>
    let s := s.hearCons msg
    match s.rack.proposed with
    | none => .next s
    | some p =>
      if csEpoch msg = p.epoch && csBallot msg = p.ballot then
        .next { s with rack := { s.rack with accepts := addNew s.rack.accepts (csSrc msg) } }.tryCommit
      else .next s

/-- Apply a committed change and take up the items held for its epoch (R501, R505, R510). -/
def State.applyNow (s : State) (p : Proposal) : State := (s.applyChange p).releaseHeld

/-- A change is committed for a frame (R501, R504). -/
def State.takeCommit (s : State) (p : Proposal) (frame : Nat) (joins : Bool) : State :=
  let fenceIt := p.change == .fence || p.change == .manualFence
  let s := if joins then
      { s with rack := { s.rack with map := { s.rack.map with epoch := p.epoch - 1 } } } else s
  let s := { s with rack := { s.rack with
    commit := some (p, frame)
    assign := s.rack.assign.map fun a => { a with committed := a.committed || p.change == .assign } } }
  let s := if fenceIt && p.mask.testBit s.sys.member then s.selfFence else s
  if frame ≤ s.frame then s.applyNow p else s

/-- COMMIT (R501, R504): it fixes the frame of the change, which applies at once when that frame has begun. A member it
names fences itself; an admission names the joiner, which takes the epoch. -/
def execCommit (port : Nat) (msg : List Byte) (s : State) : Res :=
  match s.takeCons port msg with
  | (s, false) => .next s
  | (s, true) =>
    let s := s.hearCons msg
    let p := csProposal msg
    let joins := p.change == .admission && p.subject = s.sys.member
    if p.epoch != s.rack.map.epoch + 1 && !joins then .next s
    else .next (s.takeCommit p (csFrame msg) joins)

/-- A FATAL notice (R488, R499). -/
def execConsFatal (port : Nat) (msg : List Byte) (s : State) : Res :=
  match s.takeCons port msg with
  | (s, false) => .next s
  | (s, true) => .next ((s.setPeer (csSrc msg) { s.peer (csSrc msg) with fatal := true, silent := false }).suspect (csSrc msg))

/-- A bracing heartbeat (R502, R520): the sender no longer counts toward a quorum, and an assignment it takes part in
ends. -/
def execConsBrace (port : Nat) (msg : List Byte) (s : State) : Res :=
  match s.takeCons port msg with
  | (s, false) => .next s
  | (s, true) =>
    let x := csSrc msg
    let s := s.hearCons msg
    .next ((s.setPeer x { s.peer x with bracing := true, mask := csMask msg }).breakAssign x)

/-- The commit frame has come (R501, R505). -/
def execMapChangeApply (s : State) : Res :=
  match s.rack.commit with
  | none => .next s
  | some (p, frame) => if s.frame < frame then .next s else .next (s.applyNow p)

/-- No COMMIT within 64 frames of an ACCEPT (R501): the change of the highest ballot accepted is proposed again. -/
def execCoordinatorTakeover (s : State) : Res :=
  match s.rack.accepted with
  | none => .next s
  | some p =>
    if s.rack.commit.isSome || s.frame < s.rack.acceptFrame + 64 || s.sys.bracing || s.fenced then .next s
    else .next (s.propose p)

/-- For 2 ms this member has heard fewer than a quorum, itself included (R504). -/
def execQuorumLoss (s : State) : Res :=
  let heard := s.voting.filter fun m => m = s.sys.member || !(s.peer m).silent
  if s.quorum heard || !s.votes then .next s else .next s.selfFence

/-! ### Re-mirroring and rebuilding (R508, R515, R516) -/

/-- One page is copied to the slot's new partner, each granule with its WGEN and its poison (R508, R198); the page has its mirror once
every copy is acknowledged, and one that the partner has no frames for stays to be copied (R509). -/
def execRemirrorCopy (slot page : Nat) (s : State) : Res :=
  match s.rack.remirror.find? fun m => m.slot = slot && m.page = page with
  | none => .next s
  | some d =>
    if d.sent then .next (if s.noneAway (copyWaiter page) then s.pageMirrored slot page else s)
    else
      let s := (s.checkReads (pageGranules (page * 32))).1
      let s := { s with rack := { s.rack with
        remirror := mapIf (fun (m : MirrorDue) => m.slot = slot && m.page = page) (fun m => { m with sent := true }) s.rack.remirror
        cls := s.fld F.TIER_CHAIR_CFG_CLASS, writer := none } }
      let s := (pageGranules (page * 32)).foldl (fun (s : State) g =>
        if (s.gran g).mirror.isSome then s.setGran g { s.gran g with mirror := none } else s) s
      let gs := s.writtenGranules page
      if gs.isEmpty then .next (s.pageMirrored slot page)
      else .next (gs.foldl (fun (s : State) g => s.sendItem
        { owner := some (copyWaiter page), home := (s.partnerOf slot).getD 0, epoch := s.rack.map.epoch, role := true, slot := slot,
          kind := 3, addr := g * 128, data := s.copyOf g } 0) s)

/-- Slots that hold a page of a stripe (R475). -/
def stripeSlots (n k : Nat) : List Nat :=
  let o := (2 * k) % (n - 9)
  (List.range 8).map (fun j => (8 * k + j) % n) ++ [(8 * k + 8 + o) % n, (8 * k + 9 + o) % n]

/-- The foster of a stripe (R516). -/
def State.foster (s : State) (k : Nat) : Option Nat :=
  let n := s.width
  let holds := (stripeSlots n k).map s.serverOf
  ((List.range n).map fun i => s.serverOf (((stripeSlots n k).getD 9 0 + 1 + i) % n)).find? fun m =>
    s.memberState m == .active && !holds.contains m

/-- A missing flash page of a stripe is rebuilt by its foster and programmed there (R516): WGEN 0; with three losses in
the stripe nothing can be rebuilt. -/
def execFlashRebuild (slab stripe slot : Nat) (s : State) : Res :=
  match s.rack.missing.find? fun m => m.slab = slab && m.stripe = stripe && m.slot = slot with
  | none => .next s
  | some m =>
    if (s.rack.missing.filter fun k => k.slab = slab && k.stripe = stripe).length > 2 then .next s
    else
      let mine := s.foster stripe = some s.sys.member
      if mine && s.store.free.getD 2 0 = 0 then .next s
      else
        let s := match m.page with
          | none => s
          | some pg =>
            let s := s.setPage pg { s.page pg with foster := s.foster stripe }
            (pageGranules (pg * 32)).foldl (fun (s : State) g => s.setGran g { s.gran g with wgen := 0 }) s
        let s := if mine then
            ({ s with store := { s.store with free := s.store.free.set 2 (s.store.free.getD 2 0 - 1) } }).count
              F.ERR_COUNT_REBUILT
          else s
        let left := s.rack.missing.erase m
        .next { s with rack := { s.rack with
          missing := left
          map := { s.rack.map with
            rebuilding := if left.any fun k => k.slot = slot then s.rack.map.rebuilding
              else s.rack.map.rebuilding.set slot false } } }

/-! ### Formation and the MAP opcodes (R517 to R520, R525 to R528) -/

/-- MAP_ADMIT's conditions (R518), as this member's peers' heartbeats show them. -/
def State.admissible (s : State) (x : Nat) : Bool :=
  let p := s.peer x
  let st := s.memberState x
  st != .active && st != .spare && p.frame != 0 && p.epoch = 0 && p.mask % 2 ^ 32 = s.summary && p.locked &&
    !(st == .fenced && !p.resetSince)

/-- RESYNC is allowed (R519): SUBJECT served the slot before, and has not been reset since. -/
def State.resyncAllowed (s : State) (slot subject : Nat) : Bool :=
  s.rack.former.find? slot = some subject && (subject = s.sys.member || !(s.peer subject).resetSince)

/-- R182 forbids moving a member's result slot while its sources hold live result slots or commands in flight. -/
def State.resultSlotBusy (s : State) (id slot : Nat) : Bool :=
  s.serverOf slot = s.sys.member && s.store.resultSlot = some slot &&
    ((List.range 144).any (fun i => !(s.source i).slots.isEmpty) ||
      !(s.entriesWhere fun i e => i != id && e.holds).isEmpty)

/-- Parameter check 9 of opcodes 0xC0 to 0xCF (R527), with the parameter block. -/
def State.rackParams (s : State) (id : Nat) (p : Packet) (block : List Byte) : Option Nat :=
  match pkOpcode p with
  | 0xC0 | 0xC3 => if pkPblk p then some 0x40 else none
  | 0xC1 =>
    if !pkPblk p || pkPbLen p != 256 then some 0x40
    else
      let m := mapOf block
      let locked := s.fld F.TIER_STATUS_LOCKED = 1
      if !imageValid block || (locked && (m.width != s.width || m.salt != s.salt)) then some 0x42 else none
  | 0xC2 => if pkPblk p then some 0x40 else if !s.admissible (mpSubject p) then some 0x43 else none
  | 0xC4 =>
    if pkPblk p then some 0x40
    else if mpSlot p ≥ s.width then some 0x41
    else if !s.voting.contains (mpSubject p) || s.serverOf (mpSlot p) = mpSubject p ||
        (mpResync p && !s.resyncAllowed (mpSlot p) (mpSubject p)) || s.resultSlotBusy id (mpSlot p) then some 0x44
    else none
  | _ => s.compParams p

/-- MAP_QUERY (R528): the image goes to the result slot. -/
def execMapQuery (entry : Nat) (s : State) : Res :=
  match s.runnable entry 0xC0 with
  | none => .next s
  | some _ =>
    let m := s.rack.map
    let s := s.putResults entry (m.image m.mapsum true)
    .next (s.finish entry fun o => { o with
      result0 := m.epoch, countDone := s.voting.length, countAux := (m.exposed.filter id).length, homes := 1 })

/-- MAP_FORM (R517): salt and width are written, the map stands, and the member heartbeats until it has heard every member
the image names. It waits while a check of the population has failed or the alignment is not LOCKED; another member of its own number
fails it (R639). A member whose store is up takes its result slot when it first serves one (R182). -/
def execMapForm (entry : Nat) (s : State) : Res :=
  match s.runnable entry 0xC1 with
  | none => .next s
  | some e =>
    if s.rack.idClash then
      .next ({ s with rack := { s.rack with idClash := false } }.failWith entry St.badParam 0x42)
    else if s.fld F.TIER_POP_STATUS_ERR != 0 || s.store.timing.isEmpty || s.fld F.PST_STATUS_ALIGN_STATE != 2 || s.changing ||
        s.rack.forming.isSome then .next s
    else
      let m := mapOf e.block
      let f : Forming := { entry := entry, heard := [], oldMap := s.rack.map, oldWidth := s.fld F.TIER_HASH_WIDTH,
                           oldSaltLo := s.fld F.TIER_SALT_LO_SALT, oldSaltHi := s.fld F.TIER_SALT_HI_SALT
                           oldResult := s.store.resultSlot }
      let s := ((s.setFld F.TIER_HASH_WIDTH m.width).setFld F.TIER_SALT_LO_SALT (m.salt % 2 ^ 32)).setFld
        F.TIER_SALT_HI_SALT (m.salt / 2 ^ 32)
      let s := { s with rack := { s.rack with map := m, forming := some f, suspects := [] } }
      let s := if s.storeUp && !(s.store.resultSlot.any fun i => s.serverOf i = s.sys.member) then
          { s with store := { s.store with resultSlot := s.ownSlots.head? } }
        else s
      let s := s.modEntry entry fun e => { e with started := true, begun := e.begun ||| 16 }
      .next s.sendHeartbeats.tryForm

/-- One second has passed (R517, R527). -/
def execMapFormTimeout (entry : Nat) (s : State) : Res :=
  match s.resumable entry 0xC1 with
  | none => .next s
  | some _ => .next ((s.unform entry).failWith entry St.timeout 0x40)

/-- A change that a command asks for (R501, R502): it waits while another is under way; the coordinator proposes it, any
other member sends the command to the coordinator. -/
def State.askChange (s : State) (entry classes : Nat) (p : Proposal) : State :=
  if s.changing then s
  else if s.coordinator != s.sys.member then s.forward entry s.coordinator classes
  else
    let s := s.modEntry entry fun e => { e with started := true, begun := e.begun ||| classes }
    ({ s with rack := { s.rack with asker := some entry } }).propose p

/-- MAP_ADMIT (R518). -/
def execMapAdmit (entry : Nat) (s : State) : Res :=
  match s.runnable entry 0xC2 with
  | none => .next s
  | some e =>
    -- the coordinator commits only what it finds met itself
    if !s.changing && s.coordinator = s.sys.member && !s.admissible (mpSubject e.packet) then
      .next (s.failWith entry St.badParam 0x43)
    else .next (s.askChange entry 16 { epoch := 0, ballot := 0, change := .admission, subject := mpSubject e.packet })

/-- MAP_FENCE (R525): a MANUAL_FENCE of SUBJECT. -/
def execMapFence (entry : Nat) (s : State) : Res :=
  match s.runnable entry 0xC3 with
  | none => .next s
  | some e => .next (s.askChange entry 16
      { epoch := 0, ballot := 0, change := .manualFence, subject := mpSubject e.packet, mask := 2 ^ mpSubject e.packet })

/-- MAP_ASSIGN (R519): phase 1 has the server copy the slot to SUBJECT; then the change is proposed. -/
def execMapAssign (entry : Nat) (s : State) : Res :=
  match s.runnable entry 0xC4 with
  | none => .next s
  | some e =>
    let slot := mpSlot e.packet
    let subject := mpSubject e.packet
    let resync := mpResync e.packet
    if e.stage = 1 then
      if !e.items.isEmpty then .next s
      else if e.out.status != St.done then
        .next ((s.endAssign 64).finish entry fun o => { o with status := St.fenced, subcode := 0xB5, absent := 0xFF })
      else
        -- what the server has counted came with its answer
        let told (a : Assign) : Assign := if s.serverOf slot = s.sys.member then a else { a with granules := e.out.countAux }
        let s := { s with rack := { s.rack with assign := s.rack.assign.map told } }
        .next (s.askChange entry 48 { epoch := 0, ballot := 0, change := .assign, subject := subject, slot := slot })
    else if s.changing || s.rack.assign.isSome then .next s
    else if s.coordinator != s.sys.member then .next (s.forward entry s.coordinator 48)
    else
      let s := s.modEntry entry fun e => { e with stage := 1 }
      if s.serverOf slot = s.sys.member then .next (s.copySlot entry slot subject resync)
      else
        let a : Assign := { entry := entry, slot := slot, subject := subject, resync := resync,
                            granules := 0, committed := false }
        let s := { s with rack := { s.rack with assign := some a } }
        .next (s.sendItem { owner := some entry, home := s.serverOf slot, epoch := e.epoch, role := true, slot := slot, kind := 18,
                            addr := slot, data := [BitVec.ofNat 8 subject, BitVec.ofNat 8 (b2n resync)] } 48)

end Sys2Proof.Machine
end

