-- ==== Sys2Proof/Machine/Intake.lean ====
section
/-!
DEFINITION. Intake (spec/02_command_packets.md, R57, R58): the eleven checks, what acceptance fixes and what begins with it,
and the commands that come over HXL (R51 to R53, R386, R391).
-/
namespace Sys2Proof.Machine

open Sys2Proof

/-! ### Checks 1 to 7 (R57) -/

/-- The assigned opcodes, by the tables of the chapters. -/
def assignedOpcodes : List Nat :=
  [0x00, 0x01, 0x02, 0x03, 0x08, 0x09, 0x0C, 0x0D, 0x20, 0x21, 0x30, 0x31, 0x32, 0x33, 0x34, 0x40, 0x41, 0x42, 0x44, 0x45,
   0x46, 0x48, 0x4C, 0x60, 0x61, 0x62, 0x64, 0x68, 0x69, 0x6C, 0x80, 0x81, 0x82, 0x84, 0x85, 0x86, 0x90, 0x91, 0x92, 0x94,
   0x95, 0x96, 0x97, 0x98, 0x99, 0xA0, 0xA1, 0xA2, 0xA3, 0xA8, 0xC0, 0xC1, 0xC2, 0xC3, 0xC4, 0xC8, 0xC9, 0xCA, 0xCB, 0xCC,
   0xD0]

/-- The bit of OPC_RANGES that permits an opcode (R91). -/
def rangeBit (op : Nat) : Nat := if op < 0x40 then 0 else op / 32 - 1

/-- Opcodes that only an administering physical function may use (R542). -/
def adminOpcode (op : Nat) : Bool :=
  op = 0x20 || op = 0x21 || op = 0x30 || op = 0x31 || (decide (0xC0 ≤ op) && decide (op ≤ 0xCF))

/-- Twin-eligible opcodes (R85). -/
def twinOpcode (op : Nat) : Bool := op = 0x02 || op = 0x34 || op = 0x44 || op = 0x64

/-- OPC_RANGES in force: 0 in a RETURNED part below MAKER (R544). -/
def State.opcRanges (s : State) (src : Nat) : Nat :=
  if s.sys.lc == .returned && s.sys.debug != .maker then 0 else (s.source src).opcRanges

/-- Checks 1 to 7: the failure. -/
def State.earlyChecks (s : State) (src : Nat) (p : Packet) : Option (Nat × Nat) :=
  let op := pkOpcode p
  let c := s.ctx (pkContext p)
  if !assignedOpcodes.contains op then some (St.badOpcode, 1)
  else if !(s.opcRanges src).testBit (rangeBit op) || (adminOpcode op && !s.mayAdminister src) ||
      (op = 0xD0 && !(decide (src < 128) && src % 64 = 0)) then some (St.badOpcode, 2)
  else if bf p 15 12 != 0 || bf p 63 60 != 0 ||
      (pkPblk p && (pkPbAddr p % 64 != 0 || pkPbLen p < 64 || pkPbLen p > 1048576 || pkPbLen p % 64 != 0 ||
        (decide (128 ≤ src) && !pkPbLoc p))) then some (St.badParam, 1)
  else if !(s.source src).classMask.testBit (pkClass p) then some (St.badParam, 2)
  else if pkTwin p && !twinOpcode op then some (St.badParam, 4)
  else if !c.valid || c.boundSrc != src then some (St.xltDenied, 1)
  else if c.comp != pkComp p then some (St.xltDenied, 2)
  else none

/-! ### Check 8: the parameter block (R55, R56) -/

/-- What check 8 finds. -/
inductive BlockRead where
  | wait
  | failed (status subcode : Nat)
  | ok (block : List Byte)
  deriving DecidableEq, Repr

/-- Read the parameter block: in the host, as the command brings it; in the store, translated through CONTEXT and read at
its homes. -/
def State.readBlock (s : State) (id : Nat) (p : Packet) (result : HostResult) (block : List Byte) : State × BlockRead :=
  let n := pkPbLen p
  if !pkPblk p then (s, .ok [])
  else if !pkPbLoc p then
    if result = .ok then (s, .ok (sub block 0 n)) else (s, .failed St.xltFault 2)
  else
    let a := pkPbAddr p
    match s.translate (pkContext p) (pkComp p) [.read] a n with
    | .error _ => (s, .failed St.xltFault 2)
    | .ok _ =>
      if !s.storeUp then (s, .wait)
      else match s.prepare id (granulesOf a n) [] with
      | (s, true) => (s, .wait)
      | (s, false) =>
        match (s.accessPages false (pagesOf a n)).1.readStore a n with
        | (s, .ok data) => (s, .ok data)
        | (s, .error (st, sub)) => (s, .failed st sub)

/-! ### Check 9: the opcodes' own parameters -/

/-- METER_QUERY (R615). -/
def State.meterParams (s : State) (p : Packet) : Option Nat :=
  if pkPblk p || pkField p 8 4 != 0 || bf p 111 108 != 0 || pkField p 14 50 != 0 then some 0x40
  else if !s.compDefined (bf p 107 96) then some 0x41
  else none

/-- Something of the composition is still in use (R534): grants, bound contexts, tables, indexes, buffers, pools, blocks. -/
def State.compInUse (s : State) (c : Nat) : Bool :=
  (s.store.slabs.cells.any fun x => x.2.comp == some c) || (s.xlt.ctxs.cells.any fun x => x.2.valid && x.2.comp = c) ||
    (s.emb.tables.cells.any fun x => x.2.comp = c) || (s.vec.indexes.cells.any fun x => x.2.comp = c) ||
    (s.rpl.buffers.cells.any fun x => x.2.comp = c) || (s.kvp.pools.cells.any fun x => x.2.comp = c) ||
    (s.gate.blocks.cells.any fun x => x.2.valid && x.2.comp = c)

/-- Check 9 of an entry whose block has been read. -/
def State.ownChecks (s : State) (id : Nat) (e : Entry) : Option (Nat × Nat) :=
  let p := e.packet
  let op := pkOpcode p
  let bad (o : Option Nat) : Option (Nat × Nat) := o.map fun sub => (St.badParam, sub)
  if op < 0x30 then bad (s.xltParams e.src p)
  else if op < 0x40 then bad (s.tierParams p)
  else if op < 0x60 then s.embParams e
  else if op < 0x80 then s.vecParams e
  else if op < 0x90 then s.rplParams e
  else if op < 0xA0 then s.kvpParams e
  else if op < 0xC0 then gateParams s.width (decide (128 ≤ e.src) && (s.port (e.src - 128)).act.nodeForm) p
  else if op = 0xD0 then bad (s.meterParams p)
  else match bad (s.rackParams id p e.block) with
    | some f => some f
    | none => if op = 0xC9 && s.compInUse (mpComp p) then some (St.badParam, 0x45) else none

/-! ### Check 10: translation (R147, R149, R159) -/

/-- The store ranges an opcode lists, in order, each with the accesses it needs. -/
def State.listedRanges (s : State) (e : Entry) : List (List Access × Nat × Nat) :=
  let op := pkOpcode e.packet
  if op < 0x30 then xltRanges e.packet
  else if op < 0x40 then tierRanges e.packet
  else if op < 0x60 then s.embRanges e
  else if op < 0x80 then s.vecAccess e
  else if op < 0x90 then s.rplAccess e
  else if op < 0xA0 then s.kvpAccess e
  else []

/-- Check 10: the entry with its captures, or STATUS, SUBCODE and the failing RSA. -/
def State.translateEntry (s : State) (e : Entry) : Except (Nat × Nat × Nat) Entry :=
  match s.dmaOp e with
  | some d => s.dmaAccept e d
  | none =>
    match s.translateAll (pkContext e.packet) (pkComp e.packet) (s.listedRanges e) with
    | .error f => .error f
    | .ok l => .ok { e with captures := l }

/-! ### Check 11: result space (R75) -/

/-- Bytes of the result slot an opcode needs; 0 for none. -/
def State.slotBytes (s : State) (p : Packet) : Nat :=
  match pkOpcode p with
  | 0x44 => if epHostOut p = 0 then s.embResultBytes p else 0
  | 0x64 => if vpHostOut p = 0 then 64 + 16 * vpK p else 0
  | 0x85 => if rpHostOut p = 0 then s.rplResultBytes p else 0
  | 0x96 =>
    let pages := match s.kvpPool (kpPool p) with
      | none => 0
      | some x =>
        match x.recOf (kpSeq p) with
        | some (_, r) => r.list.length + ceilDiv (kpTokens p) (kdPageTokens x.desc) + 1
        | none => kdListMax x.desc + 1
    64 + 8 * pages
  | 0xC0 => 256
  | 0xD0 => 64
  | _ => 0

/-! ### Acceptance (R58) -/

/-- What an accepted command fixes (R58, R149): the generations, the map epoch, the table version. -/
def State.fixEntry (s : State) (e : Entry) : Entry :=
  let p := e.packet
  let c := s.ctx (pkContext p)
  let op := pkOpcode p
  { e with
    accepted := true
    phase := .accepted
    barrier := pkBarrier p
    segGen := c.segGen
    revEpoch := c.revEpoch
    epoch := s.rack.map.epoch
    acceptNo := s.cmdq.nextOrder
    acceptFrame := s.frame
    targetGen := (s.ctx (xpTargetCtx p)).segGen
    version := if op = 0x44 || op = 0x45 || op = 0x46 then ((s.embTable (epTable p)).map fun t => t.version).getD 0 else 0
    waitsFor := if op = 0xA8 && (pkField p 12 1).testBit 3 then
      (s.entriesWhere fun _ x => x.src = e.src && x.accepted && x.phase != .ended).map (·.1) else [] }

/-- What begins at a command's acceptance: requests for host translations (R155), INVALIDATE's counts (R165, R172), steps 1 and 2 of
REVOKE and MIGRATE_OUT (R170, R173), SEAL and CMP_WITHDRAW at this member (R204, R522), the counts of accepted work. -/
def State.beginAccepted (s : State) (id : Nat) (p : Packet) : State :=
  match pkOpcode p with
  | 0x20 =>
    let t := xpTargetCtx p
    let g := (s.ctx t).segGen
    let m := xpSegMask p
    let n := (s.oldCommands t m g).length
    let raws := (s.rawsOn t m (some g)).length
    s.modEntry id fun e => { e with waited := n, rawWaited := raws }
  | 0x21 => s.beginRevoke id (xpTargetCtx p) (xpTargetSeg p) 0x40
  | 0x0D => (s.beginRevoke id (pkContext p) (xpSegment p) 0x41).dmaGoesOn id
  | 0x01 | 0x02 | 0x08 | 0x0C => s.dmaGoesOn id
  | 0x31 => s.beginSeal id p
  | 0xCB => s.beginWithdraw id p
  | 0x44 => s.count F.EMB_COUNT_KEYS_COUNT (epCount p)
  | 0x45 => ({ s with emb := { s.emb with waiting := addNew s.emb.waiting id } }).count F.EMB_COUNT_KEYS_COUNT (epCount p)
  | 0x64 => s.count F.VEC_COUNT_SEARCH_COUNT
  | _ => s

/-- End an unaccepted command by its first failing check (R57): no effect, ABSENT 0xFF. -/
def State.rejectEntry (s : State) (id st sub : Nat) (r0 : Nat := 0) : State := s.failWith id st sub r0

/-- Check 11: the state with the result slot that the opcode needs. -/
def State.resultSpace (s : State) (id : Nat) (e : Entry) : Option State :=
  if s.slotBytes e.packet = 0 then some s else s.allocSlot id e.src (s.slotBytes e.packet)

/-- A command that passed every check is accepted (R58). -/
def State.acceptEntry (s : State) (id : Nat) (e : Entry) : State :=
  let slot := (s.entry? id).bind fun x => x.slot
  let t := (s.setEntry id (s.fixEntry { e with slot := slot })).pulse 0x040 e.src
  { t with cmdq := { t.cmdq with nextOrder := t.cmdq.nextOrder + 1 } }.beginAccepted id e.packet

/-- Checks 9 to 11 and acceptance. -/
def State.lateChecks (s : State) (id : Nat) (e : Entry) : State :=
  match s.ownChecks id e with
  | some (st, sub) => s.rejectEntry id st sub
  | none =>
    match s.translateEntry e with
    | .error (st, sub, a) =>
      (if st = St.xltFault then s.logFault e.src sub false a else s).rejectEntry id st sub a
    | .ok e =>
      match s.resultSpace id e with
      | none => s.rejectEntry id St.noSpace 2
      | some s => s.acceptEntry id e

/-- A command of the same SQ, or port, that came before waits for its checks (R59). -/
def State.heldBack (s : State) (e : Entry) : Bool :=
  s.cmdq.entries.cells.any fun c => c.2.src = e.src && c.2.qp = e.qp && decide (c.2.order < e.order) && !c.2.accepted &&
    (c.2.phase == .fetched || c.2.phase == .held)

/-- Fences of a source in flight (R464). -/
def State.fencesOf (s : State) (src : Nat) : Nat :=
  (s.entriesWhere fun _ e => e.src = src && e.accepted && pkOpcode e.packet = 0xA8).length

/-- INTAKE_ACCEPT (R57, R58): the checks of a packet that holds an entry, in order; the first that fails ends it, a command
that passes all is accepted. A fifth FENCE of a source waits before check 1 (R464). -/
def execIntakeAccept (entry : Nat) (result : HostResult) (block : List Byte) (s : State) : Res :=
  match s.entry? entry with
  | none => .next s
  | some e =>
    if e.phase ≠ .fetched || s.heldBack e || s.unaligned (pkClass e.packet) ||
        (pkOpcode e.packet = 0xA8 && decide (4 ≤ s.fencesOf e.src)) then .next s
    else match s.earlyChecks e.src e.packet with
    | some (st, sub) => .next (s.rejectEntry entry st sub)
    | none =>
      match s.readBlock entry e.packet result block with
      | (s, .wait) => .next s
      | (s, .failed st sub) => .next (s.rejectEntry entry st sub)
      | (s, .ok b) => .next (s.lateChecks entry { e with block := b })

/-! ### Commands over HXL (R51 to R53, R386, R391, R421) -/

/-- CMD: a forwarded command packet. Without a credit it is answered NO_SPACE; a fenced or bracing member and a dead endpoint's
index refuse it; it waits behind a packet of its port that waits for an entry (R44). -/
def execCmd (port : Nat) (msg : List Byte) (s : State) : Res :=
  let t := s.takeMsg port msg
  let x := t.source (128 + port)
  let e : Entry :=
    { src := 128 + port, packet := BitVec.ofNat 512 (fieldAt msg 16 64), endpoint := hdSrc msg, msgClass := hdClass msg }
  let paid := t.setSource (128 + port) { x with credits := x.credits - 1 }
  if port ≥ 16 || (s.port port).act.kind != 1 || msg.length != 80 then .next (t.msgBad port)
  else if x.credits = 0 then
    .next (t.answerCmd port e false (if s.fenced || s.sys.bracing then St.fenced else St.noSpace)
      (if s.fenced then 0xB4 else if s.sys.bracing then 0xF1 else 0x01))
  else if s.fenced then .next (paid.answerCmd port e true St.fenced 0xB4)
  else if s.sys.bracing then .next (paid.answerCmd port e true St.fenced 0xF1)
  else if (s.senderIndex port).any fun i => (s.agent i).state != .live then
    .next (paid.answerCmd port e true St.fenced 0xC8)
  else if s.sqHeld (128 + port) 0 then .next s
  else .next (paid.wake.enterPacket e)

/-- Fields of a CTRL message (R391). -/
def ctKind (m : List Byte) : Nat := fieldAt m 2 1
def ctTwo (m : List Byte) : Bool := (fieldAt m 3 1).testBit 0
def ctWord (m : List Byte) : Nat := fieldAt m 8 4
def ctWord2 (m : List Byte) : Nat := fieldAt m 12 4

/-- A CTRL message of a kind may act here: it comes as CLASS 15 on an endpoint port. -/
def State.ctrlOk (s : State) (p : Nat) (m : List Byte) (kind : Nat) : Bool :=
  decide (p < 16) && (s.port p).act.kind = 1 && m.length = 16 && fieldAt m 0 1 = 0x0F && hdClass m = 15 && ctKind m = kind

/-- A miss of an ABORT or a RELEASE on a port (R391). -/
def State.ctrlMiss (s : State) (p : Nat) (stale : Bool) : State :=
  let x := s.port p
  (s.setPort p (if stale then { x with releaseStale := satInc 16 x.releaseStale }
    else { x with abortMiss := satInc 16 x.abortMiss })).raise F.HXL_EVENT_CMD_MISS

/-- CTRL_ABORT (R80, R391): it reaches intake after every CMD before it (R401), so it waits for those still at their checks. -/
def execCtrlAbort (port : Nat) (msg : List Byte) (s : State) : Res :=
  let t := s.takeMsg port msg
  let src := 128 + port
  if !s.ctrlOk port msg 1 then .next (t.msgBad port)
  else if !(s.entriesWhere fun _ e => e.src = src && e.phase == .fetched).isEmpty then .next s
  else
    let w := ctWord msg
    match t.abortAll src 0 (if w.testBit 11 then none else some (w / 65536)) with
    | (t, true) => .next t
    | (t, false) => .next (t.ctrlMiss port false)

/-- CTRL_RELEASE (R78, R391). -/
def execCtrlRelease (port : Nat) (msg : List Byte) (s : State) : Res :=
  let t := s.takeMsg port msg
  if !s.ctrlOk port msg 2 then .next (t.msgBad port)
  else
    .next ((ctWord msg :: if ctTwo msg then [ctWord2 msg] else []).foldl (fun (s : State) h =>
      match s.releaseHandle (128 + port) h with
      | (s, true) => s
      | (s, false) => s.ctrlMiss port true) t)

/-- CTRL_GRANT (R386): the oldest GRANT that this member has sent on the port reaches the partner, which holds so many further
credits. -/
def execCtrlGrant (port : Nat) (s : State) : Res :=
  let x := s.source (128 + port)
  match x.grants with
  | [] => .next s
  | n :: rest => .next (s.setSource (128 + port) { x with credits := x.credits + n, grants := rest })

end Sys2Proof.Machine
end

