-- ==== Sys2Proof/Machine/Kvp.lean ====
section
/-!
DEFINITION. The meanings of the KV page pool commands (spec/09_replay_and_kv.md).
-/
namespace Sys2Proof.Machine

open Sys2Proof

/-- The anchor of a pool (R343). -/
def State.kvpAnchor (s : State) (p : Nat) : Nat := s.serverOf (p % s.width)

/-- KVP_DEFINE at its anchor and at every member (R343, R345). -/
def State.definePool (s : State) (entry : Nat) (e : Entry) : State :=
  (s.setKvpPool (kpPool e.packet) { desc := e.block.take 64, comp := pkComp e.packet }).dispatch entry s.members 16 fun o =>
    { o with countDone := e.share s.members.length }

/-- A DEFINE or DROP that the anchor serves waits for those that reached it before (R343). -/
def State.kvpBusy (s : State) (entry p : Nat) (e : Entry) : Bool :=
  s.anchorTaken entry e [0x90, 0x91] fun q => kpPool q = p

/-- KVP_DEFINE (R343, R345): at the anchor it reaches every member; a defined pool refuses it. -/
def execKvpDefine (entry : Nat) (s : State) : Res :=
  match s.runnable entry 0x90 with
  | none => .next s
  | some e =>
    let p := kpPool e.packet
    if e.part then .next (s.definePool entry e)
    else if s.kvpAnchor p != s.sys.member then .next (s.forward entry (s.kvpAnchor p) 16)
    else if s.kvpBusy entry p e then .next s
    else if (s.kvpPool p).isSome then .next (s.failWith entry St.badParam 0x4A)
    else .next (s.definePool entry e)

/-- KVP_DROP at its anchor and at every member (R362). -/
def State.removePool (s : State) (entry : Nat) (e : Entry) : State :=
  { s with kvp := { s.kvp with pools := s.kvp.pools.erase (kpPool e.packet) } }.dispatch entry s.members 16 fun o =>
    { o with countDone := e.share s.members.length }

/-- A pool has sequences open here: its anchor learns it from every member (R362). -/
def KvpPool.open' (x : KvpPool) : Bool := x.recs.cells.any fun c => c.2.state != .gone

/-- KVP_DROP (R362): a pool with open sequences, at any member, stays. The anchor asks the others first. -/
def execKvpDrop (entry : Nat) (s : State) : Res :=
  match s.runnable entry 0x91 with
  | none => .next s
  | some e =>
    let p := kpPool e.packet
    let opened := (s.kvpPool p).any KvpPool.open'
    if e.part then
      if e.version = 1 then
        .next (if opened then s.failWith entry St.badParam 0x4A else s.conclude entry true 0 fun o => o)
      else .next (s.removePool entry e)
    else if s.kvpAnchor p != s.sys.member then .next (s.forward entry (s.kvpAnchor p) 16)
    else if s.kvpBusy entry p e then .next s
    else if (s.kvpPool p).isNone then .next (s.failWith entry St.badParam 0x41)
    else if e.stage = 0 then
      if opened then .next (s.failWith entry St.badParam 0x4A)
      else
        let far := s.members.filter fun m => m != s.sys.member
        if far.isEmpty then .next (s.removePool entry e)
        else .next (far.foldl (fun (s : State) m => s.sendStage entry m 1 0) (s.modEntry entry fun e => { e with stage := 1 }))
    else if !e.items.isEmpty then .next s
    else if e.out.status != St.done then .next (s.conclude entry false 0 fun o => { o with absent := 0xFF })
    else .next (s.removePool entry e)

/-- OWNED and LOCKED sequences of a pool here. -/
def KvpPool.owned (x : KvpPool) : Nat := x.recs.cells.countP fun c => c.2.state == .owned
def KvpPool.lockedSeqs (x : KvpPool) : Nat := x.recs.cells.countP fun c => c.2.locked

/-- KVP_QUERY (R363). -/
def execKvpQuery (entry : Nat) (s : State) : Res :=
  match s.runnable entry 0x92 with
  | none => .next s
  | some e =>
    match s.kvpPool (kpPool e.packet) with
    | none => .next (s.finish entry id)
    | some x =>
      .next (s.finish entry fun o => { o with
        result0 := x.freeFrames s.ownWindow + 2 ^ 32 * x.freeSpill s.ownWindow
        result1 := 1
        countDone := x.owned
        countAux := x.lockedSeqs })

/-- The owner creates the sequence: here, or by an item with the parent's list (R349). -/
def State.openAt (s : State) (entry : Nat) (e : Entry) (length : Nat) (list : List Nat) : State :=
  let pk := e.packet
  let owner := if kpSelf pk then s.sys.member else kpMember pk
  if kpSeq pk != 0xFFFFFFFF && kpTokens pk > length then s.failWith entry St.badParam 0x43
  else
    let n := if kpSeq pk = 0xFFFFFFFF then 0 else kpTokens pk
    if owner = s.sys.member then
      match s.openRun entry (kpPool pk) n list with
      | (s, true, _) => s
      | (s, false, o) => s.kvpEnd entry o []
    else
      let mine := (e.items.filter fun i => i.home = s.sys.member).map (·.id)
      let s := (s.sendKvp entry owner 16 (openBlock length list)).conclude entry false 0 fun o => o
      mine.foldl (fun (s : State) i => s.answerLocal entry i St.done 0 fun o => { o with result0 := 0, result1 := 0 }) s

/-- KVP_OPEN (R349): with a parent, its owner's list first; then the new owner creates the sequence. -/
def execKvpOpen (entry : Nat) (s : State) : Res :=
  match if s.storeUp then s.resumable entry 0x94 else none with
  | none => .next s
  | some e =>
    let pk := e.packet
    let p := kpPool pk
    let me := s.sys.member
    if kpSeq pk = 0xFFFFFFFF then
      .next (if e.started then s else s.openAt entry e 0 [])
    else if e.started then
      -- the parent's owner has answered
      if !e.waitsOn me || e.items.isEmpty then .next s
      else if e.out.status != St.done then
        .next (s.failWith entry e.out.status e.out.subcode)
      else .next (s.openAt entry e (e.reply.headD 0) (e.reply.drop 1))
    else
      let birth := s.serverOf (seqWindow (kpSeq pk))
      match if birth = me then s.routeSeq p (kpSeq pk) [] else (s, .away birth []) with
      | (s, .fail st sub) => .next (s.failWith entry st sub)
      | (s, .queue _) => .next s
      | (s, .away m b) =>
        .next (((s.localItem entry 0).1.sendKvp entry m 0 (if b.isEmpty then toLe 1 0 else b)).conclude entry false 0 fun o => o)
      | (s, .here slot) =>
        match (s.kvpPool p).bind fun x => x.recs.find? slot with
        | none => .next (s.failWith entry St.badParam 0x47)
        | some r => .next (s.openAt entry e r.length r.list)

/-- KVP_APPEND (R351). -/
def execKvpAppend (entry : Nat) (s : State) : Res := .next (s.kvpRun entry 0x95)

/-- KVP_LOCK (R352): the list is returned here, or written here once another member's answer has brought it (R364). -/
def execKvpLock (entry : Nat) (s : State) : Res :=
  match s.resumable entry 0x96 with
  | none => .next s
  | some e =>
    if !e.started then .next (s.kvpRun entry 0x96)
    else if !e.waitsOn s.sys.member then .next s
    else
      let out := (e.reply.map (toLe 8)).flatten
      let s := if e.out.status = St.done then s.sendOutput entry 0 out else s
      .next (e.items.foldl (fun (s : State) i => s.answerLocal entry i.id St.done 0 fun o => o) s)

/-- KVP_UNLOCK (R353). -/
def execKvpUnlock (entry : Nat) (s : State) : Res := .next (s.kvpRun entry 0x97)

/-- KVP_LOCK_EXPIRY (R353): the lock is released as by an unlock with COMMIT 0. -/
def execKvpLockExpiry (pool seq : Nat) (s : State) : Res :=
  match s.seqRec pool seq with
  | none => .next s
  | some (slot, r) =>
    if !r.locked then .next s
    else
      let t := (s.unlockSeq pool slot r 0).1
      let t := match s.kvpPool pool, t.kvpPool pool with
        | some x, some y => t.sendChanges (2 ^ 43) pool (farChanges s.pageHere x y r.list)
        | _, _ => t
      .next (t.raise F.KVP_EVENT_LOCK_EXPIRED)

/-- KVP_CLOSE (R354): an owner elsewhere answers with the members whose records the close must still reach. -/
def execKvpClose (entry : Nat) (s : State) : Res :=
  match s.resumable entry 0x98 with
  | none => .next s
  | some e =>
    if !e.started then .next (s.kvpRun entry 0x98)
    else if !e.waitsOn s.sys.member then .next s
    else
      let s := e.reply.foldl (fun (s : State) m => s.sendKvp entry m 16 (toLe 1 0xFE)) (s.modEntry entry fun e => { e with reply := [] })
      .next (e.items.foldl (fun (s : State) i => s.answerLocal entry i.id St.done 0 fun o => o) s)

/-- KVP_HANDOVER (R357 steps 1 and 2). -/
def execKvpHandover (entry : Nat) (s : State) : Res := .next (s.kvpRun entry 0x99)

/-- KVP_OFFER reaches this member (R357 step 3): a record with a token that is not lower declines it, unless this very offer
installed it before. -/
def execKvpOffer (origin pool seq token length : Nat) (pages : List Nat) (s : State) : Res :=
  let answer (s : State) (kind : Nat) : Res :=
    .next (s.emit (.toMember origin (offerMsg kind pool { id := seq, state := .owned, token := token })))
  match s.kvpPool pool with
  | none => answer s 3
  | some x =>
    let install (s : State) (slot : Nat) (old : SeqRec) : State :=
      s.setSeq pool slot { old with
        state := .owned, token := token, length := length, list := pages, target := 0, locked := false,
        installed := some (origin, token) }
    match x.recOf seq with
    | some (slot, r) =>
      if r.installed = some (origin, token) then answer s 2
      else if token ≤ r.token then answer s 3
      else answer (install s slot r) 2
    | none =>
      match x.freeRec with
      | none => answer s 3
      | some slot => answer (install s slot { id := seq, state := .owned }) 2

/-- The LEAVING record of a sequence whose OFFER with a token went to a member. -/
def State.leavingTo (s : State) (pool seq token target : Nat) : Option (Nat × SeqRec) :=
  (s.seqRec pool seq).filter fun x => x.2.state == .leaving && x.2.token = token && x.2.target = target

/-- KVP_OFFER_ACCEPT (R357 step 4). -/
def execKvpOfferAccept (origin pool seq token : Nat) (s : State) : Res :=
  match s.leavingTo pool seq token origin with
  | none => .next s
  | some (slot, r) => .next (s.endHandover pool slot { r with state := .gone } St.done 0 token origin)

/-- KVP_OFFER_DECLINE (R357 step 4). -/
def execKvpOfferDecline (origin pool seq token : Nat) (s : State) : Res :=
  match s.leavingTo pool seq token origin with
  | none => .next s
  | some (slot, r) =>
    .next (s.endHandover pool slot { r with state := .owned, token := (r.token + 2 ^ 64 - 1) % 2 ^ 64, target := 0 }
      St.staleVersion 0x43 0 0)

/-- KVP_OFFER_TIMEOUT (R357 step 5): the OFFER goes again, up to RETRIES times; then this member renounces. -/
def execKvpOfferTimeout (pool seq : Nat) (s : State) : Res :=
  match s.seqRec pool seq with
  | none => .next s
  | some (slot, r) =>
    if r.state != .leaving then .next s
    else if r.offers ≤ s.fld F.KVP_HANDOVER_CFG_RETRIES then
      .next ((s.setSeq pool slot { r with offers := r.offers + 1 }).emit (.toMember r.target (offerMsg 1 pool r)))
    else .next (s.endHandover pool slot { r with state := .gone } St.timeout 0x40 0 0)

end Sys2Proof.Machine
end

