-- ==== Sys2Proof/Machine/Sec.lean ====
section
/-!
DEFINITION. The meanings of the lifecycle, debug and power commands (spec/15_lifecycle_debug_power.md).
-/
namespace Sys2Proof.Machine

open Sys2Proof

/-- SEC_SVN_CTRL.COMMIT (R531, R542): the fused SVN rises to the booted image's. -/
def execSecSvnCommit (src : Nat) (s : State) : Res :=
  if !s.mayAdminister src || !s.sys.bootOk then .next s
  else .next { s with sys := { s.sys with svn := max s.sys.svn s.sys.imageSvn } }

/-- SEC_OWNER_HASH as staged: 12 words, the first holding the lowest bytes. -/
def State.stagedHash (s : State) : Nat :=
  ((List.range 12).map fun i => (s.sys.hashWords.getD i 0).toNat * 2 ^ (32 * i)).sum

/-- A lifecycle request ends with a CODE of SEC_LC_RESULT (R541, R557). -/
def State.lcResult (s : State) (code : Nat) : State := s.setFld F.SEC_LC_RESULT_CODE code

/-- A lifecycle transition is accepted (R541): it awaits the next reset, and is noted. -/
def State.lcAccept (s : State) (next : Lifecycle) (ports hash : Nat) : State :=
  let s := { s with sys := { s.sys with lcNext := some next, adminNext := ports, hashNext := hash } }
  ((s.lcResult 1).raise F.SEC_EVENT_LC_PENDING).securityNote

/-- SEC_LC_CTRL.PROVISION (R541): from BLANK, in RUN, with a digest that is not zero. -/
def execSecLcProvision (src : Nat) (fuseOk : Bool) (s : State) : Res :=
  if !isPf src then .next s
  else if s.sys.lc != .blank || s.sys.lcNext.isSome then .next (s.lcResult 2)
  else if s.sys.power != .run then .next (s.lcResult 3)
  else if s.stagedHash = 0 then .next (s.lcResult 4)
  else if !fuseOk then .next (s.lcResult 5)
  else .next (s.lcAccept .provisioned 0 s.stagedHash)

/-! ### Tokens (R548 to R550) -/

/-- SEC_TOKEN_CTRL.NEW_NONCE (R548). -/
def execSecNewNonce (src : Nat) (s : State) : Res :=
  if !isPf src then .next s
  else
    let n := Config.randomDraw s.fresh % 2 ^ 64
    .next { s with sys := { s.sys with nonce := some n, nonceShown := n, ownerReturn := none } }.tickFresh

/-- SEC_TOKEN_CTRL.SUBMIT (R548): verification of the 160 bytes starts and the nonce is consumed. -/
def execSecTokenSubmit (src : Nat) (s : State) : Res :=
  if !isPf src || s.sys.verifying.isSome then .next s
  else
    let token := ((List.range 40).map fun i => toLe 4 (s.sys.tokenWords.getD i 0).toNat).flatten
    let s := { s with sys := { s.sys with verifying := some (token, s.sys.nonce), nonce := none } }
    .next ((s.setFld F.SEC_TOKEN_STATUS_BUSY 1).setFld F.SEC_TOKEN_STATUS_DONE 0)

def tkType (t : List Byte) : Nat := fieldAt t 4 1
def tkLevel (t : List Byte) : Nat := nbf (fieldAt t 5 1) 1 0
def tkComp (t : List Byte) : Nat := nbf (fieldAt t 6 2) 11 0
def tkNonce (t : List Byte) : Nat := fieldAt t 24 8
def tkDuration (t : List Byte) : Nat := fieldAt t 32 4
def tkPorts (t : List Byte) : Nat := fieldAt t 36 1

/-- The format of a token (R548). -/
def tokenFormat (t : List Byte) : Bool :=
  fieldAt t 0 4 = 0x7220D801 && 1 ≤ tkType t && tkType t ≤ 4 && fieldAt t 5 1 < 4 && fieldAt t 6 2 < 4096 &&
    (tkType t != 1 || (1 ≤ tkLevel t && 1 ≤ tkDuration t && tkDuration t ≤ 86400)) &&
    (tkType t != 2 || (1 ≤ tkPorts t && tkPorts t ≤ 3)) && tkPorts t < 4 && fieldAt t 37 27 = 0 && tkDuration t < 2 ^ 17

/-- The member is ACTIVE or SPARE in a rack (R494). -/
def State.inRack (s : State) : Bool := !s.rack.map.state.isEmpty && s.votes

/-- The CODE with which a well-formed token for this part is refused, 0 when it is accepted (R541, R549, R554). -/
def State.tokenCode (s : State) (t : List Byte) (sigOk fuseOk : Bool) : Nat :=
  let lc : Lifecycle := s.sys.lc
  let level := tkLevel t
  let never : Bool := match tkType t with
    | 1 => ((lc == .provisioned || lc == .sealed) && (level = 3 || !s.sys.debugKey))
    | 2 => lc != .provisioned
    | 3 => lc != .provisioned && lc != .sealed
    | _ => lc == .returned || ((lc == .provisioned || lc == .sealed) && s.sys.ownerReturn != some (tkNonce t))
  let unchecked : Bool := tkType t = 1 && lc == .blank && level != 3
  if never then 5
  else if !unchecked && !sigOk then 4
  else if tkType t = 1 && (s.sys.power == .standby || s.sys.power == .off) then 6
  else if tkType t != 1 && s.sys.power != Power.run then 6
  else if tkType t = 1 && lc == .sealed && level = 2 && s.inRack then 7
  else if (tkType t = 2 || tkType t = 4) && !fuseOk then 8
  else 0

/-- Entry to RETURNED (R545): brace without its deadline, the journal discarded, the fuses, the wipe, the reset. -/
def State.enterReturned (s : State) : State :=
  let s := (s.lcAccept .returned 0 0).endSessions
  let s := s.braceTrigger 6 .requested true
  let s := s.returnWipe true
  if s.sys.bracing then s.braceEnd 0 0 else s

/-- Verification ends (R549, R550): `sigOk`, the signature verifies under the key that R541 and R549 name. -/
def execTokenVerifyComplete (sigOk fuseOk : Bool) (s : State) : Res :=
  match s.sys.verifying with
  | none => .next s
  | some (t, nonce) =>
    let transition : Bool := tkType t != 1
    let refuse (c : Nat) : Res :=
      let s := s.tokenDone c
      let s := { s with sys := { s.sys with ownerReturn := none } }
      .next (if transition && c ≥ 5 then s.lcResult (if c = 6 then 3 else if c = 8 then 5 else 2) else s)
    let sameNonce : Bool := nonce == some (tkNonce t) || (tkType t = 4 && s.sys.ownerReturn == some (tkNonce t))
    if !tokenFormat t then refuse 1
    else if fieldAt t 8 16 != Config.dieId % 2 ^ 128 then refuse 2
    else if !sameNonce then refuse 3
    else
      let c := s.tokenCode t sigOk fuseOk
      if c != 0 then refuse c
      else
        let s := s.tokenDone 0
        match tkType t with
        | 1 =>
          let l := (DebugLevel.ofCode (tkLevel t)).getD .quiet
          .next (s.setDebug l (if l == .invasive then tkComp t else 0) (tkDuration t))
        | 2 => .next (s.lcAccept .sealed (tkPorts t) 0)
        | 3 => .next { s with sys := { s.sys with ownerReturn := some (tkNonce t) } }
        | _ => .next s.enterReturned

/-- SEC_TOKEN_CTRL.LOWER (R550). -/
def execSecTokenLower (src : Nat) (s : State) : Res := if !isPf src then .next s else .next (s.setDebug .quiet 0 0)

/-- SEC_DBG_REMAIN reaches 0 (R550). -/
def execDebugTimerExpiry (s : State) : Res := if s.sys.debug == .quiet then .next s else .next (s.setDebug .quiet 0 0)

/-! ### Power targets (R551, R552) -/

/-- SEC_PWR_CTRL.TARGET = RUN (R551). -/
def execSecPwrTargetRun (src : Nat) (s : State) : Res := if !s.mayAdminister src then .next s else .next s.wake

/-- Why TARGET = REST is refused (R552), 0 when it is not. -/
def State.restRefused (s : State) : Nat :=
  if !(s.entriesWhere fun _ e => e.holds).isEmpty then 1
  else if decide (s.frame < s.rack.kickUntil) || s.pst.load.isSome || (s.vec.indexes.cells.any fun c => c.2.running) ||
      !s.rack.missing.isEmpty then 2
  else if s.sys.power != .run then 3
  else 0

/-- The Pockets do not keep their contents through REST, so that the next invocation finds its extent zeroed (R223). -/
def State.losePockets (s : State) : State :=
  { s with core := { s.core with
    cores := s.core.cores.mapVals fun _ (x : Core) => { x with pocket := [], flips := [], last := none } } }

/-- SEC_PWR_CTRL.TARGET = REST (R552): before self-refresh every journal entry is written back and a checkpoint is taken
(R575). -/
def execSecPwrTargetRest (src : Nat) (s : State) : Res :=
  if !s.mayAdminister src || s.sys.bracing then .next s
  else
    let c := s.restRefused
    let s := s.setFld F.SEC_PWR_STATUS_REFUSE c
    if c != 0 then .next s else .next ({ s with pst := { s.pst with idle := true } }.writeBackAll.checkpoint.losePockets.setPower .rest)

/-- SEC_PWR_CTRL.TARGET = STANDBY (R551, R566): brace without its deadline. -/
def execSecPwrTargetStandby (src : Nat) (s : State) : Res :=
  if !s.mayAdminister src then .next s else .next (s.braceTrigger 6 .requested)

end Sys2Proof.Machine
end

