-- ==== Sys2Proof/Machine/RegView.lean ====
section
/-!
DEFINITION. What a read of a register answers (R6, R8, R9): the word of the register file with every field whose value lives
in a structure of the state computed from it.
-/
namespace Sys2Proof.Machine

open Sys2Proof

/-- Fields with their computed values; a value larger than its field shows the largest. -/
abbrev Shown := List (Fld × Nat)

def showField (w : Word) (x : Fld × Nat) : Word :=
  setBf w x.1.hi x.1.lo (min x.2 (2 ^ (x.1.hi + 1 - x.1.lo) - 1))

/-! ### FN (R91, R92) -/

/-- Bytes of a result area that no live slot takes, in 4 KiB units. -/
def Source.freeArea (x : Source) : Nat := (x.resultSize * 256 - (x.slots.map (·.len)).sum) / 16

/-- The queue pair that FN_QP_SEL names; one beyond QP_ALLOT reads 0 (R91). -/
def State.fnQp (s : State) (src : Nat) : QueuePair :=
  let q := s.fldAt src F.FN_QP_SEL_QP
  if q < (s.source src).qpAllot then s.qp src q else { sqLog2 := 0, cqLog2 := 0, coalCount := 0 }

def State.showFn (s : State) (src off : Nat) : Shown :=
  let x := s.source src
  let q := s.fnQp src
  match off with
  | 0x100000 => [(F.FN_ID_FUNC, src % 64), (F.FN_ID_PORT, src / 64), (F.FN_ID_IS_VF, b2n (src % 64 != 0))]
  | 0x10000C => [(F.FN_LIMITS_QP_ALLOT, x.qpAllot)]
  | 0x100010 => [(F.FN_LL_INUSE_INUSE, s.inUse src)]
  | 0x100014 => [(F.FN_CMD_TIMEOUT_MS, x.timeoutMs)]
  | 0x100018 => [(F.FN_PERM_OPC_RANGES, s.opcRanges src), (F.FN_PERM_CLASS_MASK, x.classMask)]
  | 0x10001C => [(F.FN_RESULT_SIZE_SIZE, x.resultSize)]
  | 0x100020 => [(F.FN_RESULT_FREE_FREE, x.freeArea)]
  | 0x100024 => [(F.FN_RESULT_RSA_LO_RSA_LO, s.resultRsa src % 2 ^ 32)]
  | 0x100028 => [(F.FN_RESULT_RSA_HI_RSA_HI, s.resultRsa src / 2 ^ 32)]
  | 0x10002C => [(F.FN_MISS_COUNT_ABORT_MISS, x.abortMiss), (F.FN_MISS_COUNT_RELEASE_STALE, x.releaseStale)]
  | 0x100034 => [(F.FN_SQ_BASE_LO_ADDR, nbf q.sqBase 31 12)]
  | 0x100038 => [(F.FN_SQ_BASE_HI_ADDR, q.sqBase / 2 ^ 32)]
  | 0x10003C => [(F.FN_CQ_BASE_LO_ADDR, nbf q.cqBase 31 12)]
  | 0x100040 => [(F.FN_CQ_BASE_HI_ADDR, q.cqBase / 2 ^ 32)]
  | 0x100044 => [(F.FN_QP_SIZE_SQ_LOG2, q.sqLog2), (F.FN_QP_SIZE_CQ_LOG2, q.cqLog2)]
  | 0x100048 => [(F.FN_CQ_COAL_COUNT, q.coalCount), (F.FN_CQ_COAL_TIME_US, q.coalTime)]
  | 0x100050 => [(F.FN_QP_STATUS_STATE, q.state.code), (F.FN_QP_STATUS_ERR_CODE, q.errCode),
                 (F.FN_QP_STATUS_SQ_HEAD, q.sqHead)]
  | 0x100054 => [(F.FN_QP_ERR_FIRST_QP, x.qpErrFirst.getD 0), (F.FN_QP_ERR_FIRST_VALID, b2n x.qpErrFirst.isSome)]
  | 0x101024 => [(F.FN_ADM_QP_FREE_FREE, 4096 - s.portQps (src / 64))]
  | 0x101028 => [(F.FN_ADM_LL_FREE_FREE, 64512 - s.reserveSum)]
  | _ => []

/-! ### PST and XLT (R140, R175) -/

def State.showPst (s : State) (off : Nat) : Shown :=
  match off with
  | 0x200000 => [(F.PST_STATUS_REFRESH_2X, b2n ((s.regAt 0 F.TIER_REFRESH_2X_HBM.off) != 0))]
  | 0x20000C => [(F.PST_FRAME_LO_FRAME, s.frame % 2 ^ 32)]
  | _ => []

def State.selCtx (s : State) : Nat := s.fld F.XLT_CTX_SEL_CTX

def State.showXlt (s : State) (off : Nat) : Shown :=
  let c := s.ctx s.selCtx
  match off with
  | 0x300008 => [(F.XLT_CTX_STATUS_REV_EPOCH, c.revEpoch), (F.XLT_CTX_STATUS_SEG_GEN, c.segGen)]
  | 0x30000C => [(F.XLT_CTX_INFLIGHT_COUNT,
(s.inFlight s.selCtx).length)]
  | 0x300014 => [(F.XLT_SEG_CTRL_REVOKING, b2n (s.seg s.selCtx (s.fld F.XLT_SEG_SEL_SEG)).revoking)]
  | 0x300044 => [(F.XLT_PRI_OUT_PORT0, s.priOut 0), (F.XLT_PRI_OUT_PORT1, s.priOut 1)]
  | _ => []

/-! ### TIER (R216) -/

/-- Frames of a tier's pools that hold no copy. -/
def State.poolFree (s : State) (t : Tier) : Nat :=
  s.poolFrames t - ((s.store.pools.cells.filter fun (c : Nat × List Nat) => c.1 / 256 = t.code).map
    fun c => c.2.length).sum

def State.showTier (s : State) (off : Nat) : Shown :=
  let kind := s.fld F.TIER_TRAIN_SEL_KIND
  let inst := s.fld F.TIER_TRAIN_SEL_INSTANCE
  let t : Training := if inst < trainInstances kind then s.training kind inst else {}
  match off with
  | 0x400000 => [(F.TIER_STATUS_CHAIR_BUSY, b2n !s.store.moves.isEmpty)]
  | 0x400024 => [(F.TIER_POOL_HBM_FREE_MIB, s.poolFree .hbm / 256)]
  | 0x400028 => [(F.TIER_POOL_DDR_FREE_MIB, s.poolFree .ddr / 256)]
  | 0x40002C => [(F.TIER_POOL_DDR_PINNED_MIB, s.pinned .ddr / 256)]
  | 0x40003C => [(F.TIER_CHAIR_STATUS_INFLIGHT, s.store.moves.length), (F.TIER_CHAIR_STATUS_RAISEQ, s.store.raises.length)]
  | 0x400048 => [(F.TIER_JOURNAL_USED_KIB, s.journalUsed / 1024)]
  | 0x400058 => [(F.TIER_TRAIN_TAG_T0, t.t0), (F.TIER_TRAIN_TAG_V0, t.v0)]
  | 0x40005C => [(F.TIER_TRAIN_NOW_T, t.tNow), (F.TIER_TRAIN_NOW_V, t.vNow)]
  | 0x400060 => [(F.TIER_TRAIN_STATE_PENDING, b2n t.pending), (F.TIER_TRAIN_STATE_STEPS_LEFT, t.stepsLeft),
                 (F.TIER_TRAIN_STATE_COUNT, t.count)]
  | 0x40006C => [(F.TIER_TREC_VAL_VALUE,
      (s.store.timing.getD (s.fld F.TIER_TREC_SEL_KIND) []).getD (s.fld F.TIER_TREC_SEL_FIELD) 0)]
  | _ => []

/-! ### CORE (R258) -/

def State.coreStateCode (s : State) (c : Nat) : Nat :=
  if !s.coreOnline c then 4
  else if s.sys.power == .rest || s.sys.power == .standby || s.sys.power == .off || s.sys.bracing then 3
  else if (s.edge c).run.isSome then 1
  else if !(s.coreAway c).isEmpty then 2
  else 0

def State.showCore (s : State) (off : Nat) : Shown :=
  let c := s.fld F.CORE_SEL_CORE
  let x := s.edge c
  let slot := s.fld F.CORE_RCP_SEL_SLOT
  let r := s.core.slots.find? slot
  let image := (r.map (·.recipe)).getD []
  match off with
  | 0x500000 => [(F.CORE_STATUS_ONLINE, ((List.range 1200).filter fun i => s.coreOnline i).length)]
  | 0x50000C =>
    if c ≥ 1200 then [(F.CORE_INFO_ONLINE, 0)]
    else [(F.CORE_INFO_SIDE, coreSide c), (F.CORE_INFO_CHANNEL, coreChannel c), (F.CORE_INFO_RINK_PORT, coreRink c),
          (F.CORE_INFO_ONLINE, b2n (s.coreOnline c)), (F.CORE_INFO_QUEUED, x.queue.length),
          (F.CORE_INFO_STATE, s.coreStateCode c)]
  | 0x500010 => [(F.CORE_RUN_SLOT, (x.run.map (·.inv.slot)).getD 0), (F.CORE_RUN_STEP, (x.run.map (·.step)).getD 0)]
  | 0x500014 => [(F.CORE_INVOCATIONS_COUNT, x.done)]
  -- a record of the present FAULT (R258)
  | 0x50001C => [(F.CORE_FAULT_INFO_VALID, b2n (s.fld F.CORE_FAULT_INFO_VALID = 1 && s.fld F.CORE_EVENT_FAULT = 1))]
  | 0x50002C => [(F.CORE_RCP_INFO_VALID, b2n r.isSome), (F.CORE_RCP_INFO_EXT, b2n (decide (256 ≤ slot))),
                 (F.CORE_RCP_INFO_STEPS, rcpSteps image)]
  | 0x500030 => [(F.CORE_RCP_ID_RECIPE_ID, rcpId image)]
  | 0x500034 => [(F.CORE_RCP_VERSION_VERSION, if slot < 256 then 0 else (r.map (·.version)).getD 0)]
  | _ => []

/-! ### SVC (R290, R325, R365) -/

/-- Commands in flight here that captured a version of a table. -/
def State.versionHolds (s : State) (t version : Nat) : Nat :=
  (s.entriesWhere fun _ e => e.accepted && e.phase != .ended && (s.embNamed e.packet).contains t &&
    pkOpcode e.packet / 16 = 4 && e.version = version).length

def State.showEmb (s : State) (off : Nat) : Shown :=
  let t := s.fld F.EMB_TBL_SEL_TABLE
  let x := s.embTable t
  match off with
  | 0x600000 => [(F.EMB_STATUS_TABLES, s.emb.tables.cells.length)]
  | 0x600008 => [(F.EMB_WORK_USED_MIB, s.workUsed / 1048576), (F.EMB_WORK_USED_WAITING, s.emb.waiting.length)]
  | 0x600010 => [(F.EMB_STEP_USED_MIB, s.stepUsed / 1048576)]
  | 0x600018 => match x with
    | none => []
    | some y => [(F.EMB_TBL_INFO_DEFINED, 1), (F.EMB_TBL_INFO_LAYOUT, edLayout y.desc), (F.EMB_TBL_INFO_KIND, edKind y.desc),
        (F.EMB_TBL_INFO_OPT, edOpt y.desc), (F.EMB_TBL_INFO_DETERMINISTIC, b2n (edDet y.desc)),
        (F.EMB_TBL_INFO_RETIRING, b2n y.old.isSome), (F.EMB_TBL_INFO_NAN_SKIP, b2n (edNanSkip y.desc)),
        (F.EMB_TBL_INFO_COMPOSITION, y.comp), (F.EMB_TBL_INFO_ANCHOR, s.embAnchor t)]
  | 0x60001C => [(F.EMB_TBL_VERSION_VERSION, (x.map (·.version)).getD 0)]
  | 0x600020 => [(F.EMB_TBL_STEP_STEP, (x.map fun y => if edDet y.desc then y.step else 0).getD 0)]
  | 0x600024 => match x with
    | none => []
    | some y => [(F.EMB_TBL_HOLD_CURRENT, s.versionHolds t y.version),
        (F.EMB_TBL_HOLD_RETIRING, if y.old.isSome then s.versionHolds t (y.version - 1) else 0)]
  | _ => []

def State.showVec (s : State) (off : Nat) : Shown :=
  let i := s.fld F.VEC_IDX_SEL_INDEX
  match off with
  | 0x600100 => [(F.VEC_STATUS_INDEXES, s.vec.indexes.cells.length),
      (F.VEC_STATUS_PASS_RUNNING, b2n (s.vec.indexes.cells.any fun c => c.2.running))]
  | 0x600104 => [(F.VEC_WALKS_ACTIVE, (s.vec.walks.cells.filter fun (c : Nat × Walk) => c.2.unit.isSome).length),
      (F.VEC_WALKS_WAITING, s.vec.waiting.length)]
  | _ => match s.vecIndex i with
    | none => []
    | some x => match off with
      | 0x60010C => [(F.VEC_IDX_INFO_DEFINED, 1), (F.VEC_IDX_INFO_LAYOUT, b2n (vdSpread x.desc)),
          (F.VEC_IDX_INFO_METRIC, vdMetric x.desc), (F.VEC_IDX_INFO_PARTS, vdParts x.desc),
          (F.VEC_IDX_INFO_PASS_RUNNING, b2n x.running), (F.VEC_IDX_INFO_COMPOSITION, x.comp),
          (F.VEC_IDX_INFO_ANCHOR, s.serverOf (i % s.width))]
      | 0x600110 => [(F.VEC_IDX_LIVE_COUNT, s.nodesHere x.desc isLive)]
      | 0x600114 => [(F.VEC_IDX_TOMB_COUNT, s.nodesHere x.desc isTomb)]
      | 0x600118 => [(F.VEC_IDX_PASS_PASS, x.pass)]
      | 0x60011C => [(F.VEC_IDX_PROGRESS_NODES, x.repaired)]
      | 0x600120 => [(F.VEC_IDX_PEND_ENTRIES, (s.vec.pend.filter fun (e : PendEntry) => e.index = i).length)]
      | _ => []

def State.showRpl (s : State) (off : Nat) : Shown :=
  let b := s.fld F.RPL_BUF_SEL_BUFFER
  match off, s.rplBuffer b with
  | 0x600200, _ => [(F.RPL_STATUS_BUFFERS, s.rpl.buffers.cells.length)]
  | 0x600208, some x => [(F.RPL_BUF_INFO_DEFINED, 1), (F.RPL_BUF_INFO_SLOTS_LOG2, rdS x.desc),
      (F.RPL_BUF_INFO_REC_LOG2, rdRec x.desc), (F.RPL_BUF_INFO_COMPOSITION, x.comp),
      (F.RPL_BUF_INFO_ANCHOR, s.rplAnchor b)]
  | 0x60020C, some x => [(F.RPL_BUF_HEAD_LO_HEAD, x.head % 2 ^ 32)]
  | 0x600214, some x => [(F.RPL_BUF_ROOT_TOTAL, s.shardRoot x.desc s.ownSlot)]
  | 0x600218, some x => [(F.RPL_BUF_MAXP_MAXP, s.shardMaxp x.desc s.ownSlot)]
  | 0x60021C, some x => [(F.RPL_BUF_LIVE_COUNT, s.shardLive x.desc s.ownSlot)]
  | 0x600220, some _ => [(F.RPL_BUF_QUEUED_CHANGES, (s.shardQueue b s.ownSlot).length)]
  | _, _ => []

def State.showKvp (s : State) (off : Nat) : Shown :=
  let p := s.fld F.KVP_POOL_SEL_POOL
  let log := s.kvp.log[s.fld F.KVP_RESOLVE_SEL_ENTRY]?
  match off, s.kvpPool p, log with
  | 0x600300, _, _ => [(F.KVP_STATUS_POOLS, s.kvp.pools.cells.length)]
  | 0x600308, some x, _ => [(F.KVP_POOL_INFO_DEFINED, 1), (F.KVP_POOL_INFO_TOKEN_LOG2, kdTokenLog2 x.desc),
      (F.KVP_POOL_INFO_COMPOSITION, x.comp), (F.KVP_POOL_INFO_ANCHOR, s.serverOf (p % s.width))]
  | 0x60030C, some x, _ => [(F.KVP_POOL_FREE_FRAMES, x.freeFrames s.ownWindow)]
  | 0x600310, some x, _ => [(F.KVP_POOL_SPILLED_PAGES, (x.inWindow s.ownWindow true).length)]
  | 0x600314, some x, _ => [(F.KVP_POOL_SEQS_OWNED,
      (x.recs.cells.filter fun (c : Nat × SeqRec) => c.2.state == .owned).length)]
  | 0x600334, _, some r => [(F.KVP_RESOLVE_SEQ_SEQ, r.seq)]
  | 0x600338, _, some r => [(F.KVP_RESOLVE_LOG_WINNER, r.winner), (F.KVP_RESOLVE_LOG_OTHER, r.other),
      (F.KVP_RESOLVE_LOG_ROW, r.row), (F.KVP_RESOLVE_LOG_VALID, 1), (F.KVP_RESOLVE_LOG_TRUNCATED, r.truncated)]
  | 0x60033C, _, some r => [(F.KVP_RESOLVE_TOKEN_TOKEN, r.token % 2 ^ 32)]
  | _, _, _ => []

/-! ### HXL and COH (R408, R437) -/

/-- A bit set of the ports that satisfy a test. -/
def State.portBits (s : State) (p : Port → Bool) : Nat :=
  ((List.range 16).map fun i => if p (s.port i) then 2 ^ i else 0).sum

def State.showHxl (s : State) (off : Nat) : Shown :=
  let p := s.fld F.HXL_PORT_SEL_PORT
  let x := s.port p
  let vc := s.fld F.HXL_PORT_CRED_SEL_VC
  let r := s.route (s.fld F.HXL_ROUTE_SEL_MEMBER)
  let e := s.epRoute (s.fld F.HXL_EP_SEL_EP)
  match off with
  | 0x700000 => [(F.HXL_ID_MEMBER, s.sys.member)]
  | 0x700004 => [(F.HXL_PORTS_UP_UP, s.portBits fun y => y.state == .active), (F.HXL_PORTS_UP_FENCED, s.portBits (·.fenced))]
  | 0x70000C => [(F.HXL_PORT_CFG_EN, b2n x.cfg.en), (F.HXL_PORT_CFG_KIND, x.cfg.kind),
      (F.HXL_PORT_CFG_NODE_FORM, b2n x.cfg.nodeForm), (F.HXL_PORT_CFG_ENC_REQ, b2n x.cfg.encReq)]
  | 0x700014 => [(F.HXL_PORT_STATUS_STATE, x.state.code), (F.HXL_PORT_STATUS_PARTNER_KIND, x.partnerKind),
      (F.HXL_PORT_STATUS_ENC_ON, b2n x.encOn), (F.HXL_PORT_STATUS_KEY_PHASE, b2n x.keyPhase),
      (F.HXL_PORT_STATUS_LANES_REVERSED, b2n x.lanesReversed), (F.HXL_PORT_STATUS_POLARITY, x.polarity),
      (F.HXL_PORT_STATUS_FAIL_CODE, x.failCode), (F.HXL_PORT_STATUS_PARTNER_ID, x.partnerId),
      (F.HXL_PORT_STATUS_FENCED, b2n x.fenced)]
  | 0x700018 => [(F.HXL_PORT_DELAY_DELAY, x.delay)]
  | 0x70001C => [(F.HXL_PORT_FEC_CORR_COUNT, x.fecCorr)]
  | 0x700020 => [(F.HXL_PORT_FEC_UNCORR_COUNT, x.fecUncorr)]
  | 0x700024 => [(F.HXL_PORT_CRC_COUNT, x.crc)]
  | 0x700028 => [(F.HXL_PORT_REPLAY_COUNT, x.replayed)]
  | 0x70002C => [(F.HXL_PORT_RETRAINS_COUNT, x.retrains)]
  | 0x700034 => [(F.HXL_PORT_CRED_AVAIL, x.credAvail.getD vc 0), (F.HXL_PORT_CRED_ADVERT, x.credAdvert.getD vc 0)]
  | 0x700038 => [(F.HXL_PORT_MSG_BAD_COUNT, x.msgBad)]
  | 0x70003C => [(F.HXL_PORT_MISS_ABORT_MISS, x.abortMiss), (F.HXL_PORT_MISS_RELEASE_STALE, x.releaseStale)]
  | 0x700040 => [(F.HXL_PORT_CMD_OUT_CREDITS, (s.source (128 + p)).credits)]
  | 0x700048 => [(F.HXL_ROUTE_PORTS, r.ports), (F.HXL_ROUTE_DIST, r.dist)]
  | 0x700050 => [(F.HXL_EP_ROUTE_MEMBER1, e.member1), (F.HXL_EP_ROUTE_PORT1, e.port1), (F.HXL_EP_ROUTE_VALID1, b2n e.valid1),
      (F.HXL_EP_ROUTE_MEMBER2, e.member2), (F.HXL_EP_ROUTE_PORT2, e.port2), (F.HXL_EP_ROUTE_VALID2, b2n e.valid2)]
  | 0x700058 => [(F.HXL_RACK_ROUTE_PORTS, s.hxl.rackRoutes.getD (s.fld F.HXL_RACK_SEL_RACK) 0)]
  | 0x70005C => [(F.HXL_COMBINE_ACTIVE, b2n s.combining)]
  | _ => []

def State.showCoh (s : State) (off : Nat) : Shown :=
  let i := s.fld F.COH_AGENT_SEL_INDEX
  match off with
  | 0x800000 => [(F.COH_STATUS_SF_USED, s.coh.sf.cells.length), (F.COH_STATUS_RECLAIM_BUSY, b2n s.walking)]
  | 0x800024 => [(F.COH_AGENT_STATUS_STATE, (s.agent i).state.code), (F.COH_AGENT_STATUS_BY_TIMEOUT, b2n (s.agent i).byTimeout)]
  | 0x800028 => [(F.COH_AGENT_HELD_ENTRIES,
      (s.coh.sf.cells.filter fun (c : Nat × SfEntry) => c.2.indexes.contains i).length)]
  | 0x800048 => [(F.COH_SHADOW_SLOT, s.coh.shadowSlot.getD 0), (F.COH_SHADOW_VALID, b2n s.coh.shadowSlot.isSome)]
  | 0x80004C => [(F.COH_SHADOW_USED_ENTRIES, s.coh.shadow.cells.length)]
  | _ => []

/-! ### GATE and ERR (R465, R493) -/

def State.showGate (s : State) (off : Nat) : Shown :=
  let blocks (p : GateBlock → Bool) : Nat := (s.gate.blocks.cells.filter fun (c : Nat × GateBlock) => p c.2).length
  match off with
  | 0x900000 => [(F.GATE_STATUS_BLOCKS, blocks (·.valid)), (F.GATE_STATUS_LOST, blocks (·.lost))]
  | 0x900004 => [(F.GATE_WAITERS_COUNT, s.gate.waiters.length)]
  | 0x900018 => [(F.GATE_WD_MS, s.gate.watchdog.getD (s.fld F.GATE_WD_SEL_CTX) 10000)]
  | 0x90001C => [(F.GATE_FENCES_INFLIGHT, s.gate.fences.length)]
  | _ => []

def State.showErr (s : State) (off : Nat) : Shown :=
  let chk := s.fld F.ERR_CHK_SEL_CHK
  let c : Checker := s.err.checkers.getD chk {}
  let u := s.unitRec (s.fld F.ERR_UNIT_SEL_KIND) (s.fld F.ERR_UNIT_SEL_INDEX)
  let word (e : Option (BitVec 256)) (base : Nat) : Nat := ((e.getD 0).toNat >>> (8 * (off - base))) % 2 ^ 32
  if 0xA00040 ≤ off ∧ off < 0xA00060 then
    [(⟨off, 31, 0⟩, word s.err.sitz[s.fld F.ERR_SITZ_SEL_ENTRY]? 0xA00040)]
  else if 0xA00060 ≤ off ∧ off < 0xA00080 then [(⟨off, 31, 0⟩, word s.err.first 0xA00060)]
  else match off with
  | 0xA00000 => [(F.ERR_STATUS_INJ_BUSY, b2n s.err.injection.isSome),
      (F.ERR_STATUS_GROOM_BUSY, b2n (s.err.groomAt.any fun (n : Nat) => n != 0))]
  | 0xA00088 => if chk ≥ 3072 then [(F.ERR_CHK_STATUS_WIRE, 0)] else
      [(F.ERR_CHK_STATUS_WIRE, b2n c.railC + 2 * b2n c.railT), (F.ERR_CHK_STATUS_SEVERITY, checkerSeverity chk),
       (F.ERR_CHK_STATUS_MASKED, b2n (s.chkMasked chk)), (F.ERR_CHK_STATUS_SOURCE, Config.checkerSource chk % 256),
       (F.ERR_CHK_STATUS_COUNT, c.count)]
  | 0xA00090 => [(F.ERR_UNIT_STATUS_OFFLINE, b2n u.offline), (F.ERR_UNIT_STATUS_RETIRED, b2n u.retired),
      (F.ERR_UNIT_STATUS_SUSPECT, b2n u.suspect), (F.ERR_UNIT_STATUS_CAUSE, u.cause), (F.ERR_UNIT_STATUS_ERRORS, u.errors)]
  | _ => []

/-! ### SEC, PWR and CLK (R557, R577, R602) -/

/-- The control domain is ready: step 4 of start-up is behind (R596). -/
def State.ctrlReady (s : State) : Bool :=
  (s.sys.power == .run || s.sys.power == .glide || s.sys.power == .rest) && decide (4 ≤ s.fld F.CLK_STARTUP_STAGE)

def State.showSec (s : State) (off : Nat) : Shown :=
  if 0xB00004 ≤ off ∧ off < 0xB00014 then [(⟨off, 31, 0⟩, (Config.dieId >>> (8 * (off - 0xB00004))) % 2 ^ 32)]
  else if 0xB00020 ≤ off ∧ off < 0xB00050 then
    let i := (off - 0xB00020) / 4
    [(⟨off, 31, 0⟩, if s.sys.lc == .blank then (s.sys.hashWords.getD i 0).toNat else (s.sys.ownerHash >>> (32 * i)) % 2 ^ 32)]
  else match off with
  | 0xB00000 => [(F.SEC_STATUS_LC, s.sys.lc.code), (F.SEC_STATUS_LC_PENDING, b2n s.sys.lcNext.isSome),
      (F.SEC_STATUS_DBG_LEVEL, (DebugLevel.code s.sys.debug)), (F.SEC_STATUS_BOOT_OK, b2n s.sys.bootOk),
      (F.SEC_STATUS_BOOT_SLOT, s.sys.bootSlot), (F.SEC_STATUS_MANIFEST, b2n s.sys.manifest),
      (F.SEC_STATUS_BOOT_ERR, s.sys.bootErr)]
  | 0xB00014 => [(F.SEC_FW_VERSION_VERSION, s.sys.fwVersion)]
  | 0xB00018 => [(F.SEC_SVN_FUSED, s.sys.svn), (F.SEC_SVN_IMAGE, s.sys.imageSvn)]
  | 0xB00058 => [(F.SEC_ADMIN_PORTS_PORTS, s.sys.adminPorts)]
  | 0xB0005C => [(F.SEC_DBG_NONCE_LO_NONCE, s.sys.nonceShown % 2 ^ 32)]
  | 0xB00060 => [(F.SEC_DBG_NONCE_HI_NONCE, s.sys.nonceShown / 2 ^ 32)]
  | 0xB0006C => [(F.SEC_DBG_REMAIN_SECONDS, s.sys.dbgRemain)]
  | 0xB00070 => [(F.SEC_DBG_COMP_COMP, if s.sys.debug == .invasive then s.sys.dbgComp else 0)]
  | 0xB001A4 => [(F.SEC_PWR_STATUS_STATE, s.sys.power.code), (F.SEC_PWR_STATUS_BUSY, b2n (s.sys.starting || s.sys.bracing))]
  | 0xB001A8 => [(F.SEC_KEYS_LOADED, b2n s.sys.keyZero.isSome +
      s.rack.keys.cells.length)]
  | 0xB001AC => [(F.SEC_SESSIONS_PORTS, s.portBits (·.session)), (F.SEC_SESSIONS_MGMT, (s.mgt.sessions.filter fun (x : Session) => decide (x.endpoint < 16)).length)]
  | _ => []

def State.showPwr (s : State) (off : Nat) : Shown :=
  match off with
  | 0xC00000 => [(F.PWR_STATUS_BRACE_DONE, b2n s.sys.braceDone), (F.PWR_STATUS_PSU_AC_OK, b2n (s.sys.psuOk && s.ctrlReady))]
  | 0xC0002C => [(F.PWR_ENERGY_LO_MJ, s.sys.energy / 100 % 2 ^ 32)]
  | _ => []

def State.showClk (s : State) (off : Nat) : Shown :=
  let lock := b2n s.sys.refclk
  -- the window is alive once the control domain is ready, at step 4; CLK_PINS shows the pins from then on
  if !s.ctrlReady then (if off = 0xD00000 then [(F.CLK_STATUS_SRIS, s.sys.sris)] else []) else match off with
  | 0xD00000 => [(F.CLK_STATUS_REFCLK_OK, b2n s.sys.refclk), (F.CLK_STATUS_ROOT_LOCK, lock), (F.CLK_STATUS_HXL_LOCK, lock),
      (F.CLK_STATUS_PCIE_LOCK, 3 * lock), (F.CLK_STATUS_STBY_OSC_OK, 1), (F.CLK_STATUS_SRIS, s.sys.sris)]
  | 0xD00018 => [(F.CLK_PINS_SYS_RST_N, b2n !s.sys.sysRst), (F.CLK_PINS_PERST0_N, b2n !(s.sys.perst.getD 0 false)),
      (F.CLK_PINS_PERST1_N, b2n !(s.sys.perst.getD 1 false)), (F.CLK_PINS_FENCE_REQ_N, b2n !s.sys.fenceReq),
      (F.CLK_PINS_PSU_AC_OK, b2n s.sys.psuOk), (F.CLK_PINS_TRST_N, b2n !s.sys.trst)]
  | 0xD00024 => [(F.CLK_MEAS_KHZ, Config.clockKhz (s.fld F.CLK_MEAS_SEL_CLOCK % 7) % 2 ^ 32)]
  | _ => []

/-! ### MGT and the counters (R625, R626) -/

/-- The physical counter assigned to a function's virtual index (R622). -/
def State.ownedPmc (s : State) (func v : Nat) : Option (Nat × Pmc) :=
  s.mgt.pmcs.cells.find? fun c => c.2.assigned && c.2.func = func && c.2.vidx = v

/-- PMC_CFG of a counter. -/
def Pmc.shown (x : Pmc) : Shown :=
  [(F.PMC_CFG_EVENT, x.event), (F.PMC_CFG_EN, b2n x.en), (F.PMC_CFG_MODE, x.mode), (F.PMC_CFG_CHAIN, b2n x.chain),
   (F.PMC_CFG_FREEZE_ON_OVF, b2n x.freezeOnOvf), (F.PMC_CFG_OVF, b2n x.ovf), (F.PMC_CFG_UNIT, x.unit)]

def State.showMgt (s : State) (off : Nat) : Shown :=
  let eid (i : Nat) : Option Nat := s.mgt.eids.getD i none
  match off with
  | 0xE00000 => [(F.MGT_I3C_DYN_ADDR, s.mgt.i3cAddr.getD 0), (F.MGT_I3C_ADDR_VALID, b2n s.mgt.i3cAddr.isSome),
      (F.MGT_I3C_EID, (eid 0).getD 0)]
  | 0xE00004 => [(F.MGT_PCIE_EID_PORT0, (eid 1).getD 0), (F.MGT_PCIE_EID_PORT1, (eid 2).getD 0),
      (F.MGT_PCIE_EID_VALID, b2n (eid 1).isSome + 2 * b2n (eid 2).isSome)]
  | 0xE00008 => [(F.MGT_FWUP_STATE, (s.mgt.update.map (·.state.code)).getD 0),
      (F.MGT_FWUP_ACTIVATE_PENDING, b2n s.mgt.activate),
      (F.MGT_FWUP_SLOT, (s.mgt.update.map (·.slot)).getD s.mgt.lastSlot), (F.MGT_FWUP_LAST_RESULT, s.mgt.lastResult)]
  | 0xE0000C => [(F.MGT_FWUP_VERSION_VERSION, s.mgt.fwVersion)]
  | _ => []

/-- The registers of the counter that PMC_SEL selects (R625). -/
def State.showPmc (s : State) (off : Nat) : Shown :=
  let x := s.pmc (s.fld F.PMC_SEL_COUNTER)
  match off with
  | 0xE08004 => [(F.PMC_STATUS_FROZEN, b2n s.mgt.pmcFrozen)]
  | 0xE0800C => x.shown
  | 0xE08010 => [(F.PMC_THRESH_THRESH, x.thresh)]
  | 0xE08014 => [(F.PMC_VALUE_LO_VALUE, x.value % 2 ^ 32)]
  | 0xE08018 => [(F.PMC_VALUE_HI_VALUE, s.mgt.pmcHi)]
  | 0xE0801C => [(F.PMC_SNAP_LO_VALUE, x.snap % 2 ^ 32)]
  | 0xE08020 => [(F.PMC_SNAP_HI_VALUE, x.snap / 2 ^ 32)]
  | 0xE08024 => [(F.PMC_OWNER_FUNC, x.func), (F.PMC_OWNER_VIDX, x.vidx), (F.PMC_OWNER_ASSIGNED, b2n x.assigned),
      (F.PMC_OWNER_GLOBAL_OK, b2n x.globalOk)]
  | _ => []

/-- The window of a function's own counters (R626): 32 bytes a virtual counter, CFG, THRESH, VALUE and SNAP as in R625. An
unassigned counter reads 0. -/
def State.showOwned (s : State) (src off : Nat) : Shown :=
  if off = 0xE0C404 then
    [(F.PMC_V_ASSIGNED_MASK, ((List.range 32).map fun v => if (s.ownedPmc src v).isSome then 2 ^ v else 0).sum)]
  else if off < 0xE0C400 then
    let v := (off - 0xE0C000) / 32
    match s.ownedPmc src v with
    | none => []
    | some (_, x) => match (off - 0xE0C000) % 32 with
      | 0x00 => x.shown.map fun f => (⟨off, f.1.hi, f.1.lo⟩, f.2)
      | 0x04 => [(⟨off, 16, 0⟩, x.thresh)]
      | 0x08 => [(⟨off, 31, 0⟩, x.value % 2 ^ 32)]
      | 0x0C => [(⟨off, 31, 0⟩, s.mgt.pmcVHi.getD (32 * src + v) 0)]
      | 0x10 => [(⟨off, 31, 0⟩, x.snap % 2 ^ 32)]
      | 0x14 => [(⟨off, 31, 0⟩, x.snap / 2 ^ 32)]
      | _ => []
  else []

/-! ### Reads -/

/-- The computed fields of a register. -/
def State.shown (s : State) (src off : Nat) : Shown :=
  match off / 0x100000 with
  | 1 => s.showFn src off
  | 2 => s.showPst off
  | 3 => s.showXlt off
  | 4 => s.showTier off
  | 5 => s.showCore off
  | 6 => if off < 0x600100 then s.showEmb off else if off < 0x600200 then s.showVec off
    else if off < 0x600300 then s.showRpl off else s.showKvp off
  | 7 => s.showHxl off
  | 8 => s.showCoh off
  | 9 => s.showGate off
  | 10 => s.showErr off
  | 11 => s.showSec off
  | 12 => s.showPwr off
  | 13 => s.showClk off
  | 14 => if off < 0xE08000 then s.showMgt off else if off < 0xE0C000 then s.showPmc off else s.showOwned src off
  | _ => []

/-- The value a read of a register by a function returns. WO fields and reserved bits read 0 (R8, R9): the register file
never holds a value in one. -/
def State.readReg (s : State) (src off : Nat) : Word := (s.shown src off).foldl showField (s.regAt src off)

end Sys2Proof.Machine
end

