-- ==== Sys2Proof/Machine/Pmc.lean ====
section
/-!
DEFINITION. The performance counters' commands (spec/18_management_and_counters.md, R616 to R626).
-/
namespace Sys2Proof.Machine

open Sys2Proof

/-- Change every counter that satisfies a property. -/
def State.mapPmcs (s : State) (p : Pmc → Bool) (f : Pmc → Pmc) : State :=
  { s with mgt := { s.mgt with pmcs := s.mgt.pmcs.mapVals fun _ (x : Pmc) => if p x then f x else x } }

def Pmc.takeSnap (x : Pmc) : Pmc := { x with snap := x.value }
def Pmc.ownedBy (x : Pmc) (func : Nat) : Bool := x.assigned && x.func = func

/-! ### PMC_CTRL (R620, R621, R625) -/

def State.snapPmcs (s : State) : State := s.mapPmcs (fun _ => true) Pmc.takeSnap
def State.freezePmcs (s : State) (on : Bool) : State := { s with mgt := { s.mgt with pmcFrozen := on } }
def State.clearPmcs (s : State) : State := s.mapPmcs (fun _ => true) fun x => { x with value := 0 }

/-- A write of PMC_CTRL as a whole: FREEZE wins over UNFREEZE. -/
def State.pmcCtrl (s : State) (src : Nat) (snap freeze unfreeze clear : Bool) : State :=
  if !isPf src then s
  else
    let s := if snap then s.snapPmcs else s
    let s := if freeze then s.freezePmcs true else if unfreeze then s.freezePmcs false else s
    if clear then s.clearPmcs else s

/-- PMC_CTRL.SNAP (R620). -/
def execPmcSnap (src : Nat) (s : State) : Res := if isPf src then .next s.snapPmcs else .next s
/-- PMC_CTRL.FREEZE (R625). -/
def execPmcFreeze (src : Nat) (s : State) : Res := if isPf src then .next (s.freezePmcs true) else .next s
/-- PMC_CTRL.UNFREEZE (R625). -/
def execPmcUnfreeze (src : Nat) (s : State) : Res := if isPf src then .next (s.freezePmcs false) else .next s
/-- PMC_CTRL.CLEAR_ALL (R621). -/
def execPmcClearAll (src : Nat) (s : State) : Res := if isPf src then .next s.clearPmcs else .next s

/-! ### PMC_OWNER (R622) -/

/-- What every assignment and release does to a counter: value and snapshot 0, PMC_CFG 0. -/
def Pmc.emptied (x : Pmc) : Pmc :=
  { x with event := 0, en := false, mode := 0, chain := false, freezeOnOvf := false, ovf := false, unit := 0
           value := 0, snap := 0, own := false, frozen := false }

/-- PMC_OWNER of the selected counter (R622): a counter assigned earlier to the same function and index is released. -/
def execPmcOwnerWrite (src : Nat) (value : Word) (s : State) : Res :=
  if !isPf src then .next s
  else
    let k := s.fld F.PMC_SEL_COUNTER
    let func := bf value 6 0
    let vidx := bf value 11 7
    let assigned := bit value 12
    let old := s.pmc k
    let s := if assigned then
        s.mapPmcs (fun x => x.ownedBy func && x.vidx = vidx) fun x => { x.emptied with assigned := false }
      else s
    let x := if assigned || old.assigned then (s.pmc k).emptied else s.pmc k
    let s := { s with mgt := { s.mgt with pmcVHi := (s.mgt.pmcVHi.erase (32 * func + vidx)).erase (32 * old.func + old.vidx) } }
    .next (s.setPmc k { x with func := func, vidx := vidx, assigned := assigned, globalOk := bit value 13 })

/-! ### Live reads and overflow (R618, R619) -/

/-- PMC_OVERFLOW (R618): a counter that runs wraps past 2^48 - 1; `value` is its count after the wrap. -/
def execPmcOverflow (counter value : Nat) (s : State) : Res :=
  let x := s.pmc counter
  if counter ≥ 2048 || !s.pmcRuns x || s.chained counter then .next s
  else .next ((s.setPmc counter { x with value := value % 2 ^ 48 }).pmcWrap counter)

/-! ### A function's own control (R623, R626) -/

/-- PMC_V_CTRL.SNAP: only the function's own counters. -/
def execPmcVSnap (src : Nat) (s : State) : Res := .next (s.mapPmcs (·.ownedBy src) Pmc.takeSnap)
/-- PMC_V_CTRL.FREEZE. -/
def execPmcVFreeze (src : Nat) (s : State) : Res := .next (s.mapPmcs (·.ownedBy src) fun x => { x with frozen := true })
/-- PMC_V_CTRL.UNFREEZE. -/
def execPmcVUnfreeze (src : Nat) (s : State) : Res := .next (s.mapPmcs (·.ownedBy src) fun x => { x with frozen := false })

/-- A write of PMC_V_CTRL as a whole: FREEZE wins over UNFREEZE. -/
def State.pmcOwnCtrl (s : State) (src : Nat) (snap freeze unfreeze : Bool) : State :=
  let s := if snap then s.mapPmcs (·.ownedBy src) Pmc.takeSnap else s
  if freeze then s.mapPmcs (·.ownedBy src) fun x => { x with frozen := true }
  else if unfreeze then s.mapPmcs (·.ownedBy src) fun x => { x with frozen := false }
  else s

end Sys2Proof.Machine
end

