-- ==== Sys2Proof/Machine/Recipe.lean ====
section
/-!
DEFINITION. The meanings of the edge-core commands (spec/06_edge_cores.md): starting an invocation, every step of a recipe,
what its stream unit and its limits bring, extension recipes.
-/
namespace Sys2Proof.Machine

open Sys2Proof

/-- Start the next invocation of a core's queue (R220, R223, R255): it captures its recipe; its Pocket extent is zeroed
unless KEEP, the same slot and the same composition let it stand; an empty slot or a port not supplied is a fault. -/
def State.startInvocation (s : State) (c : Nat) : State :=
  let x := s.edge c
  match x.queue with
  | [] => s
  | i :: rest =>
    let s := s.pulse 0x140 c
    let slot := s.core.slots.find? i.slot
    let recipe := (slot.map (·.recipe)).getD []
    let keep := rcpKeep recipe && x.last == some (i.slot, i.comp)
    let pocket := if keep then x.pocket else x.pocket.filter fun b => decide (rcpPocketLen recipe ≤ b.1)
    let s := s.setEdge c { x with
      queue := rest, pocket := pocket
      flips := if keep then x.flips else x.flips.filter fun f => decide (rcpPocketLen recipe ≤ 8 * f.1)
      run := some { inv := i, recipe := recipe, scalars := i.scalars } }
    let s := s.placeWaiting
    let missing := (List.range 16).any fun p => (rcpPorts recipe).testBit p && !(i.ports.any fun q => q.num = p)
    if slot.isNone then s.recipeFault c 0x9
    else if missing then s.recipeFault c 0x2
    else s

/-- INVOCATION_START (R220, R564): while fewer cores than the core limit run. -/
def execInvocationStart (core : Nat) (s : State) : Res :=
  if (s.edge core).run.isSome || !(s.coreAway core).isEmpty || !s.coreOnline core || !s.running || s.sys.bracing ||
      s.runningCores ≥ s.fld F.PWR_THROTTLE_CORE_LIMIT then .next s
  else .next (s.startInvocation core)

/-- NOP (R247, R429): with a WAIT_MASK a fence on its tokens. -/
def execRecipeNop (core : Nat) (s : State) : Res :=
  match s.ready core 0x00 with
  | none => .next s
  | some (r, _) => .next (s.goStep core (r.step + 1))

/-- LOAD (R225, R231). -/
def execRecipeLoad (core : Nat) (s : State) : Res :=
  match s.ready core 0x01 with
  | none => .next s
  | some (r, x) => .next (s.readAndIssue core r x)

/-- STORE (R225, R232). -/
def execRecipeStore (core : Nat) (s : State) : Res :=
  match s.ready core 0x02 with
  | none => .next s
  | some (r, x) => .next (s.readAndIssue core r x)

/-- GATHER (R225, R226). -/
def execRecipeGather (core : Nat) (s : State) : Res :=
  match s.ready core 0x03 with
  | none => .next s
  | some (r, x) => .next (s.readAndIssue core r x)

/-- SCATTER (R225, R226). -/
def execRecipeScatter (core : Nat) (s : State) : Res :=
  match s.ready core 0x04 with
  | none => .next s
  | some (r, x) => .next (s.readAndIssue core r x)

/-- ATOMIC_ADD (R225, R230). -/
def execAtomicAdd (core : Nat) (s : State) : Res :=
  match s.ready core 0x05 with
  | none => .next s
  | some (r, x) => .next (s.readAndIssue core r x)

/-- LOOP (R249). -/
def execLoop (core : Nat) (s : State) : Res :=
  match s.ready core 0x08 with
  | none => .next s
  | some (r, x) => .next (s.enterLoop core r x)

/-- ENDLOOP (R249). -/
def execEndloop (core : Nat) (s : State) : Res :=
  match s.ready core 0x09 with
  | none => .next s
  | some (r, _) => .next (s.closeLoop core r)

/-- SIGNAL (R247, R442): adds 1 to the gate that scalar A names; a gate the composition may not use is PORT_ACCESS. A gate
homed elsewhere is signalled there, and the step ends with its answer. -/
def execSignal (core : Nat) (s : State) : Res :=
  match s.ready core 0x0A with
  | none => .next s
  | some (r, x) =>
    let name := r.scalars.getD (refReg x.a) 0
    let home := s.serverOf (gateSlot name)
    if home != s.sys.member then
      let w := some (coreWaiter core (s.edge core).seq)
      .next ((s.setRun core { r with signal := some s.rack.nextItem }).sendItem (signalItem w s name 1 r.inv.comp) 0)
    else match s.signalGate r.inv.entry name 1 r.inv.comp with
    | (s, some _, _) => .next (s.recipeFault core 0x2)
    | (s, none, _) => .next (s.signalled core)

/-- FLAGS (R248). -/
def execFlags (core : Nat) (s : State) : Res :=
  match s.ready core 0x0B with
  | none => .next s
  | some (r, x) => .next ((s.pokePocket core (r.pocketAddr x 0 0) r.flags.bytes).goStep core (r.step + 1))

/-- END (R229): the invocation completes, its hold set is released. -/
def execRecipeEnd (core : Nat) (s : State) : Res :=
  match s.ready core 0x0F with
  | none => .next s
  | some (r, _) =>
    let s := s.setEdge core { s.edge core with done := satInc 32 (s.edge core).done }
    .next (s.endInvocation core r St.done 0)

/-- An engine step runs (R229, R247). -/
def State.engineStep (s : State) (core op : Nat) : State :=
  match s.ready core op with
  | none => s
  | some (r, x) =>
    match s.pocketCheck core r x with
    | (s, true) => s.runEngine core r x
    | (s, false) => s

/-- COPY. -/
def execCopy (core : Nat) (s : State) : Res := .next (s.engineStep core 0x10)
/-- ADD. -/
def execAdd (core : Nat) (s : State) : Res := .next (s.engineStep core 0x11)
/-- SUB. -/
def execSub (core : Nat) (s : State) : Res := .next (s.engineStep core 0x12)
/-- MUL. -/
def execMul (core : Nat) (s : State) : Res := .next (s.engineStep core 0x13)
/-- MULADD, one rounding in stage 1 (R236). -/
def execMuladd (core : Nat) (s : State) : Res := .next (s.engineStep core 0x14)
/-- MAX (R237). -/
def execMax (core : Nat) (s : State) : Res := .next (s.engineStep core 0x15)
/-- MIN (R237). -/
def execMin (core : Nat) (s : State) : Res := .next (s.engineStep core 0x16)
/-- ABS. -/
def execAbs (core : Nat) (s : State) : Res := .next (s.engineStep core 0x17)
/-- DIV (R237). -/
def execDiv (core : Nat) (s : State) : Res := .next (s.engineStep core 0x18)
/-- SQRT (R237). -/
def execSqrt (core : Nat) (s : State) : Res := .next (s.engineStep core 0x19)
/-- CMPLT (R237). -/
def execCmplt (core : Nat) (s : State) : Res := .next (s.engineStep core 0x1A)
/-- SELECT (R237). -/
def execSelect (core : Nat) (s : State) : Res := .next (s.engineStep core 0x1B)
/-- DOT (R242). -/
def execDot (core : Nat) (s : State) : Res := .next (s.engineStep core 0x20)
/-- L2SQ (R242). -/
def execL2sq (core : Nat) (s : State) : Res := .next (s.engineStep core 0x21)
/-- REDUCE (R243). -/
def execReduce (core : Nat) (s : State) : Res := .next (s.engineStep core 0x22)

/-- HASH (R247). -/
def execHash (core : Nat) (s : State) : Res :=
  match s.ready core 0x28 with
  | none => .next s
  | some (r, x) =>
    match s.pocketCheck core r x with
    | (s, true) => .next (s.runHash core r x)
    | (s, false) => .next s

/-- TOPK (R247). -/
def execTopk (core : Nat) (s : State) : Res :=
  match s.ready core 0x29 with
  | none => .next s
  | some (r, x) =>
    match s.pocketCheck core r x with
    | (s, true) => .next (s.runTopk core r x)
    | (s, false) => .next s

/-- STREAM_SETTLE (R228). -/
def execStreamSettle (core token : Nat) (s : State) : Res := .next (s.settleToken core token)

/-- HOLD_GRANULE_ACQUIRED (R231): a granule no core holds any more goes to the next waiter in order of arrival, which goes
on with its hold set. -/
def execHoldGranuleAcquired (granule : Nat) (s : State) : Res :=
  if s.coreHolds none granule then .next s
  else match s.core.waiters.find? fun w => w.2 = granule with
  | none => .next s
  | some w => .next (s.acquireHold w.1)

/-- HOLD_TIMEOUT (R232). -/
def execHoldTimeout (core : Nat) (s : State) : Res :=
  match (s.edge core).run with
  | some r => if r.hold.any fun h => !h.got.isEmpty then .next (s.recipeFault core 0x4) else .next s
  | none => .next s

/-- CYCLE_LIMIT_EXPIRY (R252, R254). -/
def execCycleLimitExpiry (core : Nat) (s : State) : Res := .next (s.recipeFault core 0x5)

/-! ### Extension recipes (R251, R254, R255, R543) -/

/-- The lifecycle state and debug level allow an extension load (R543). -/
def State.extAllowed (s : State) : Bool :=
  match s.sys.lc with
  | .blank => false
  | .provisioned | .sealed => s.sys.extKey
  | .returned => s.sys.debug == .maker

/-- An extension load ends (R251, R258). -/
def State.endExt (s : State) (slot : Nat) (x : LoadResult) : State :=
  let s := { s with core := { s.core with loading := none } }
  let s := ((s.setFld F.CORE_EXT_STATUS_BUSY 0).setFld F.CORE_EXT_STATUS_DONE 1).setFld F.CORE_EXT_STATUS_CODE x.code
  let s := s.setFld F.CORE_EXT_STATUS_SLOT slot
  let s := (s.setFld F.CORE_EXT_WHERE_STEP x.step).setFld F.CORE_EXT_WHERE_OPERAND x.operand
  s.raise F.CORE_EVENT_EXT_DONE

/-- CORE_EXT_CTRL.LOAD (R254, R542): reads the image through ATS; a load that is running refuses another. -/
def execCoreExtLoad (src : Nat) (s : State) : Res :=
  if !s.mayAdminister src then .next s
  else if s.core.loading.isSome then .next (s.setFld F.CORE_EXT_STATUS_CODE 0x0D)
  else
    let s := s.setFld F.CORE_EXT_STATUS_DONE 0
    if !s.extAllowed then .next (s.endExt 0 { code := 0x0C })
    else
      let addr := 64 * s.fld F.CORE_EXT_ADDR_LO_ADDR + 2 ^ 32 * s.fld F.CORE_EXT_ADDR_HI_ADDR
      let len := s.fld F.CORE_EXT_LEN_LEN
      let s := { s with core := { s.core with loading := some (src, addr, len) } }
      .next ((s.setFld F.CORE_EXT_STATUS_BUSY 1).emit (.hostRead src addr len))

/-- The header of an extension image is valid (R254, code 0x01). -/
def extHeaderOk (len : Nat) (image : List Byte) : Bool :=
  let slot := fieldAt image 4 2
  let n := fieldAt image 8 4
  fieldAt image 0 4 = 0x7220E701 && decide (256 ≤ slot) && decide (slot ≤ 511) && decide (128 ≤ n) && decide (n ≤ 2112) &&
    len = 128 + n && image.length = len && fieldAt image 6 2 = 0 && fieldAt image 112 16 = 0

/-- CORE_EXT_LOAD_DONE (R251): the image as read; `verified` is what the security processor finds of its signature. -/
def execCoreExtLoadDone (result : HostResult) (image : List Byte) (verified : Bool) (s : State) : Res :=
  match s.core.loading with
  | none => .next s
  | some (_, _, len) =>
    let slot := fieldAt image 4 2
    let version := fieldAt image 12 4
    let recipe := image.drop 128
    if result != .ok then .next (s.endExt 0 { code := 0x0B })
    else if !extHeaderOk len image then .next (s.endExt (slot % 512) { code := 0x01 })
    else if !verified then .next (s.endExt slot { code := 0x02 })
    else if (s.core.highest.find? slot).any fun v => decide (version ≤ v) then .next (s.endExt slot { code := 0x03 })
    else
      let x := checkRecipe true recipe
      if x.code != 0 then .next (s.endExt slot x)
      else
        let s := { s with core := { s.core with
          slots := s.core.slots.set slot { recipe := recipe, version := version }
          highest := s.core.highest.set slot version } }
        .next (s.endExt slot x)

/-- CORE_EXT_CTRL.REMOVE (R255): empties the extension slot at once. -/
def execCoreExtRemove (src : Nat) (s : State) : Res :=
  let slot := s.fld F.CORE_RCP_SEL_SLOT
  if !s.mayAdminister src || slot < 256 then .next s
  else .next { s with core := { s.core with slots := s.core.slots.erase slot } }

end Sys2Proof.Machine
end

