-- ==== Sys2Proof/Machine/RegWrite.lean ====
section
/-!
DEFINITION. Writes of registers that have no command of their own (R8, R9), of event enables (R12), and the unmasking of an
MSI-X vector (R70).
-/
namespace Sys2Proof.Machine

open Sys2Proof

/-- The word after a write, field by field as the access codes say (R8); reserved bits stay 0. -/
def written (off : Nat) (old value : Word) : Word :=
  (regRows off).foldl (fun (w : Word) (r : FieldRow) =>
    match r.acc with
    | .rw => setBf w r.fld.hi r.fld.lo (bf value r.fld.hi r.fld.lo)
    | .w1c => w &&& ~~~(setBf (0 : Word) r.fld.hi r.fld.lo (bf value r.fld.hi r.fld.lo))
    | _ => w) old

/-- Every register whose name ends in _EVENT_EN (R12). -/
def isEventEn (off : Nat) : Bool := isSharedEventEn off || off = 0x100008

/-- Registers whose writes are commands of their own. -/
def hasOwnWrite (off : Nat) : Bool :=
  isEventEn off ||
  [F.FN_ADM_SEL_FUNC.off, F.FN_HXL_SEL_PORT.off, F.PST_ALIGN_CTRL_ALIGN_EN.off, F.XLT_CTX_SEL_CTX.off, F.XLT_SEG_SEL_SEG.off,
   F.GATE_BLK_SEL_BLOCK.off, F.HXL_PORT_CFG_EN.off, F.HXL_ROUTE_PORTS.off, F.CLK_SSC_DEPTH.off, F.PMC_OWNER_FUNC.off].contains off

/-- A function's own windows: CMDQ, FN and the virtual counters (R38, R91, R626). -/
def isOwnWindow (off : Nat) : Bool := decide (off < 0x101000) || (decide (0xE0C000 ≤ off) && decide (off < 0xE0C408))

/-- A register write of a function is taken at all (R8, R92, R542): its window is one the function sees, the privileged
administration is its own, and TIER_SALT and TIER_HASH are not locked (R180). -/
def State.mayWrite (s : State) (src off : Nat) : Bool :=
  if src ≥ 128 then false
  else if isOwnWindow off then true
  else if src % 64 != 0 then false
  else if off < 0x101100 then s.mayAdminister src
  else if off < 0x200000 then s.mayAdminHxl src
  else if off < 0x400000 then s.mayAdminister src
  else if 0x400010 ≤ off && off < 0x400020 then s.mayAdminister src && s.fld F.TIER_STATUS_LOCKED = 0
  else if 0x900008 ≤ off && off < 0x900014 then s.mayAdminister src
  else if [0x700000, 0x700048, 0x700050, 0x700058].contains off then s.mayAdminister src
  else true

/-! ### Registers whose value stands in a structure -/

/-- FN_SQ_BASE, FN_CQ_BASE, FN_QP_SIZE and FN_CQ_COAL of the selected queue pair, taken only while it is DISABLED (R91). -/
def State.writeQp (s : State) (src off : Nat) (value : Word) : State :=
  let q := s.fldAt src F.FN_QP_SEL_QP
  let x := s.qp src q
  if q ≥ (s.source src).qpAllot || x.state != .disabled then s
  else
    let low (base : Nat) : Nat := base / 2 ^ 32 * 2 ^ 32 + bf value 31 12 * 4096
    let high (base : Nat) : Nat := value.toNat * 2 ^ 32 + base % 2 ^ 32
    s.setQp src q (match off with
      | 0x100034 => { x with sqBase := low x.sqBase }
      | 0x100038 => { x with sqBase := high x.sqBase }
      | 0x10003C => { x with cqBase := low x.cqBase }
      | 0x100040 => { x with cqBase := high x.cqBase }
      | 0x100044 => { x with sqLog2 := bf value 4 0, cqLog2 := bf value 12 8 }
      | _ => { x with coalCount := bf value 7 0, coalTime := bf value 17 8 })

/-- FN_EVENT (R91): clearing QP_ERROR lets the next error be the first. -/
def State.writeFnEvent (s : State) (src off : Nat) (value : Word) : State :=
  let s := s.setRegAt src off (written off (s.regAt src off) value)
  if bit value F.FN_EVENT_QP_ERROR.lo then s.setSource src { s.source src with qpErrFirst := none } else s

/-- HXL_EP_ROUTE of the selected endpoint (R399, R408). -/
def State.writeEpRoute (s : State) (value : Word) : State :=
  let r : EpRoute :=
    { member1 := bf value 5 0, port1 := bf value 9 6, valid1 := bit value 10
      member2 := bf value 16 11, port2 := bf value 20 17, valid2 := bit value 21 }
  { s with hxl := { s.hxl with epRoutes := s.hxl.epRoutes.set (s.fld F.HXL_EP_SEL_EP) r } }

/-- The events of scope Member (R616). -/
def isMemberEvent (event : Nat) : Bool :=
  [0x080, 0x081, 0x082, 0x083, 0x0C0, 0x100, 0x101, 0x102, 0x140, 0x141, 0x180, 0x181, 0x182, 0x1C0, 0x1C1, 0x200,
   0x240].contains event

/-- How many instances an event has (R616), 0 for an event that has none, none for a reserved EVENT. -/
def eventUnits : Nat → Option Nat
  | 0x000 | 0x001 | 0x002 | 0x180 | 0x181 | 0x182 | 0x200 | 0x240 => some 0
  | 0x040 | 0x041 | 0x042 | 0x043 | 0x044 => some 144
  | 0x080 | 0x081 | 0x082 | 0x083 => some 128
  | 0x0C0 => some 42
  | 0x100 | 0x101 | 0x102 => some 16
  | 0x140 | 0x141 => some 1200
  | 0x1C0 | 0x1C1 => some 128
  | _ => none

/-- EVENT and UNIT of a write may be taken (R616): UNIT is ignored where the event has no instances, or where the owner selects
an event of scope Function (R623). -/
def cfgOk (value : Word) (own : Bool) : Bool :=
  let event := bf value 9 0
  let unit := bf value 27 16
  match eventUnits event with
  | none => false
  | some n => n = 0 || unit = 0xFFF || unit < n || (own && !isMemberEvent event)

/-- PMC_CFG of counter `k`, from a physical function's registers or from its owner's window (R616, R618, R623, R625): CHAIN
stands on odd counters only. -/
def Pmc.writeCfg (x : Pmc) (k : Nat) (value : Word) (own : Bool) : Pmc :=
  if !cfgOk value own then x
  else
    { x with
      event := bf value 9 0, en := bit value 10, mode := bf value 12 11, chain := bit value 13 && k % 2 = 1
      freezeOnOvf := bit value 14, ovf := x.ovf && !bit value 15, unit := bf value 27 16, own := own }

/-- THRESH, VALUE_LO and VALUE_HI of a counter. -/
def Pmc.writeValue (x : Pmc) (place : Nat) (value : Word) : Pmc :=
  match place with
  | 0 => { x with thresh := bf value 16 0 }
  | 1 => { x with value := x.value / 2 ^ 32 * 2 ^ 32 + value.toNat }
  | _ => { x with value := bf value 15 0 * 2 ^ 32 + x.value % 2 ^ 32 }

/-- A write in a function's own counter window (R622, R623, R626); CFG with an event of scope Member needs GLOBAL_OK. -/
def State.writeOwned (s : State) (src off : Nat) (value : Word) : State :=
  let place := (off - 0xE0C000) % 32
  if off ≥ 0xE0C400 then s
  else match s.ownedPmc src ((off - 0xE0C000) / 32) with
  | none => s
  | some (k, x) =>
    match place with
    | 0x00 => if isMemberEvent (bf value 9 0) && !x.globalOk then s else s.setPmc k (x.writeCfg k value true)
    | 0x04 => s.setPmc k (x.writeValue 0 value)
    | 0x08 => s.setPmc k (x.writeValue 1 value)
    | 0x0C => s.setPmc k (x.writeValue 2 value)
    | _ => s

/-- The registers of the counter that PMC_SEL selects. -/
def State.writePmc (s : State) (off : Nat) (value : Word) : State :=
  let k := s.fld F.PMC_SEL_COUNTER
  let x := s.pmc k
  match off with
  | 0xE0800C => s.setPmc k (x.writeCfg k value false)
  | 0xE08010 => s.setPmc k (x.writeValue 0 value)
  | 0xE08014 => s.setPmc k (x.writeValue 1 value)
  | 0xE08018 => s.setPmc k (x.writeValue 2 value)
  | _ => s.setRegAt 0 off (written off (s.regAt 0 off) value)

/-- A write of a PWR register outside the stated range of a field is discarded (R577). -/
def pwrInRange (off : Nat) (value : Word) : Bool :=
  let within (f : Fld) (lo hi : Nat) : Bool := decide (lo ≤ bf value f.hi f.lo) && decide (bf value f.hi f.lo ≤ hi)
  if off = F.PWR_CAP_W.off then within F.PWR_CAP_W 250 780
  else if off = F.PWR_SAG_CAP_W.off then within F.PWR_SAG_CAP_W 250 780
  else if off = F.PWR_HOT_CAP_W.off then within F.PWR_HOT_CAP_W 250 780
  else if off = F.PWR_DEEP_CFG_MV.off then within F.PWR_DEEP_CFG_MV 9000 10400
  else if off = F.PWR_RESTART_MS.off then within F.PWR_RESTART_MS 10 60000
  else true

/-! ### One register (R8) -/

/-- A write of a register by a function: each field as its access code says, unless the write is discarded. -/
def State.writeRegister (s : State) (src off : Nat) (value : Word) : State :=
  if hasOwnWrite off || !s.mayWrite src off then s
  else
    let plain := s.setRegAt src off (written off (s.regAt src off) value)
    if off = 0x100004 then (s.writeFnEvent src off value)
    else if 0x100034 ≤ off ∧ off ≤ 0x100048 then (s.writeQp src off value)
    else if off = F.TIER_HEAT_CFG_EPOCH_FRAMES.off then
      (if bf value 15 0 < 1000 then s else plain)
    else if off = F.EMB_HOOK_SLOT.off then
      (if bf value 8 0 < 256 then s else plain)
    else if off = F.HXL_EP_ROUTE_MEMBER1.off then (s.writeEpRoute value)
    else if off = F.HXL_RACK_ROUTE_PORTS.off then
      { s with hxl := { s.hxl with rackRoutes := s.hxl.rackRoutes.set (s.fld F.HXL_RACK_SEL_RACK) (bf value 15 0) } }
    else if off = F.GATE_WD_MS.off then
      { s with gate := { s.gate with watchdog := s.gate.watchdog.set (s.fld F.GATE_WD_SEL_CTX) (bf value 15 0) } }
    else if 0xB00020 ≤ off ∧ off < 0xB00050 then
      (if s.sys.lc == .blank then
          { s with sys := { s.sys with hashWords := s.sys.hashWords.set ((off - 0xB00020) / 4) value } }
        else s)
    else if 0xB00100 ≤ off ∧ off < 0xB001A0 then
      { s with sys := { s.sys with tokenWords := s.sys.tokenWords.set ((off - 0xB00100) / 4) value } }
    else if 0xC00000 ≤ off ∧ off < 0xD00000 then (if pwrInRange off value then plain.showCap else s)
    else if 0xE08000 ≤ off ∧ off < 0xE0C000 then (s.writePmc off value)
    else if 0xE0C000 ≤ off ∧ off < 0xE0C408 then (s.writeOwned src off value)
    else plain

/-! ### Event enables and vectors (R12, R70) -/

/-- EVENT_EN_WRITE (R12): the function's own copy is set; vector 0 is sent when an enable goes to 1 while its bit is 1. The
event register stands below its enable register. -/
def execEventEnWrite (src off : Nat) (value : Word) (s : State) : Res :=
  if !isEventEn off || !s.mayWrite src off then .next s
  else
    let old := s.regAt src off
    let new := written off old value
    let ev := s.regAt src (off - 4)
    let s1 := s.setRegAt src off new
    .next (if new &&& ~~~old &&& ev != 0 then s1.sendMsix src 0 else s1)

/-- MSIX_VECTOR_UNMASK (R70): a message that waits on the vector is sent. -/
def execMsixVectorUnmask (func vec : Nat) (s : State) : Res :=
  if func ≥ 128 || vec ≥ 2048 then .next s
  else
    let k := 2048 * func + vec
    let s1 := { s with cmdq := { s.cmdq with unmasked := s.cmdq.unmasked.set k true } }
    .next (if s.cmdq.pbaPending.getD k false then
        { s1 with cmdq := { s1.cmdq with pbaPending := s1.cmdq.pbaPending.erase k } }.emit (.msix func vec)
      else s1)

end Sys2Proof.Machine
end

