-- ==== Sys2Proof/Machine/Emb.lean ====
section
/-!
DEFINITION. The meanings of the embedding commands (spec/07_embedding_tables.md).
-/
namespace Sys2Proof.Machine

open Sys2Proof

/-- A command that the anchor serves for a table waits for those that reached the anchor before it (R260: one at a time, in order of
arrival). -/
def State.anchorBusy (s : State) (entry id : Nat) (e : Entry) : Bool :=
  s.anchorTaken entry e [0x40, 0x41, 0x48, 0x4C] fun p => epTable p = id

/-- EMB_DEFINE (R260, R266): at the anchor it reaches every member; a defined table refuses it. -/
def execEmbDefine (entry : Nat) (s : State) : Res :=
  match s.runnable entry 0x40 with
  | none => .next s
  | some e =>
    let t := epTable e.packet
    let apply (s : State) : State := (s.defineTable e.packet e.block).dispatch entry s.members 16 fun o =>
      { o with result0 := e.share 1, countDone := e.share s.members.length }
    if e.part then .next (apply s)
    else if s.embAnchor t != s.sys.member then .next (s.forward entry (s.embAnchor t) 16)
    else if s.anchorBusy entry t e then .next s
    else if (s.embTable t).isSome then .next (s.failWith entry St.badParam 0x4A)
    else .next (apply s)

/-- Commands in flight at this member that captured a version of a table. -/
def State.embInFlight (s : State) (id version : Nat) : Nat :=
  (s.entriesWhere fun _ e => e.accepted && e.proxy.isNone && [0x44, 0x45, 0x46].contains (pkOpcode e.packet) &&
    epTable e.packet = id && e.version = version).length

/-- A table has commands in flight here, or is a sub-table of another (R270). -/
def State.embInUse (s : State) (entry id : Nat) : Bool :=
  !(s.entriesWhere fun i e => i != entry && e.accepted && decide (0x41 ≤ pkOpcode e.packet) &&
    decide (pkOpcode e.packet ≤ 0x4C) && epTable e.packet = id).isEmpty ||
    s.emb.tables.cells.any fun x => edKind x.2.desc = 2 && (edSubQ x.2.desc = id || edSubR x.2.desc = id)

/-- EMB_DROP (R270). -/
def execEmbDrop (entry : Nat) (s : State) : Res :=
  match s.runnable entry 0x41 with
  | none => .next s
  | some e =>
    let t := epTable e.packet
    let apply (s : State) (version : Nat) : State := (s.dropTable t).dispatch entry s.members 16 fun o =>
      { o with result0 := e.share version, countDone := e.share s.members.length }
    if e.part then .next (apply s 0)
    else if s.embAnchor t != s.sys.member then .next (s.forward entry (s.embAnchor t) 16)
    else if s.anchorBusy entry t e then .next s
    else match s.embTable t with
    | none => .next (s.failWith entry St.badParam 0x41)
    | some x =>
      if s.embInUse entry t || x.old.isSome then .next (s.failWith entry St.badParam 0x4A)
      else .next (apply s x.version)

/-- EMB_QUERY (R271). -/
def execEmbQuery (entry : Nat) (s : State) : Res :=
  match s.runnable entry 0x42 with
  | none => .next s
  | some e =>
    let t := epTable e.packet
    match s.embTable t with
    | none => .next (s.finish entry id)
    | some x =>
      .next (s.finish entry fun o => { o with
        result0 := x.version + 2 ^ 32 * (if edDet x.desc then x.step else 0)
        result1 := 1 + 2 * b2n x.old.isSome
        countDone := s.embInFlight t x.version
        countAux := if x.old.isSome then s.embInFlight t ((x.version + 2 ^ 32 - 1) % 2 ^ 32) else 0 })

/-- The hook invocations of a gather (R278): one for each run of up to 4,096 output rows. -/
def State.startHooks (s : State) (entry : Nat) (e : Entry) (t : EmbTable) (rows : Nat) : State :=
  let p := e.packet
  let stride := embStrideOut (edDim t.desc) p
  let base := match e.slot with
    | some (o, _) => s.resultRsa e.src + 256 * o + 64
    | none => 0
  (List.range (ceilDiv rows 4096)).foldl (fun (s : State) i =>
    let n := min 4096 (rows - 4096 * i)
    let (s, item) := s.localItem entry 4
    s.placeInvocation
      { slot := s.fld F.EMB_HOOK_SLOT
        ports := [{ num := 0, base := base + 4096 * i * stride, len := n * stride, write := true }]
        scalars := [n, edDim t.desc, epFmt p, 4096 * i] ++ List.replicate 12 0
        seed := epSeed p, comp := pkComp p, epoch := e.epoch, entry := entry, item := item, hookLimit := 4 }) s

/-- Working space for a gather; without it the direct path (R276). -/
def State.gatherSpace (s : State) : Option State → State × Bool
  | some s1 => (s1, false)
  | none => ((s.count F.EMB_COUNT_DIRECT).raise F.EMB_EVENT_DIRECT_PATH, true)

/-- The rows of a gather have been read: bags are pooled, the output goes out (R272 to R275). -/
def State.gatherOut (s : State) (entry : Nat) (e : Entry) (t : EmbTable) (lists rows : List (Nat × Nat)) (direct : Bool) :
    State :=
  let p := e.packet
  let g := s.gather e t direct
  let s := (s.count F.EMB_COUNT_ROWS (g.reads.countP fun r => s.isHome (s.weightRange (epTable p) e.version r).1)).collectFlags g.flags
  let flags := e.flags.add g.flags
  let s := s.modEntry entry fun x => { x with flags := flags }
  let out := gatherOutput e.version (embStrideOut (edDim t.desc) p) g flags
  let here := (lists ++ rows).any fun r => s.homesPart r.1 r.2
  let s := s.conclude entry here (if epHostOut p = 0 then 4 else 2) fun o => { o with
    result0 := e.version + 2 ^ 32 * g.distinct
    result1 := if epHostOut p = 0 then 0 else g.missing
    countDone := g.rows.length
    fellBack := o.fellBack || direct }
  let s := s.sendOutput entry (epHostOut p) out
  if epHook p then s.startHooks entry e t g.rows.length else s

/-- The rows of a gather can be accessed. -/
def State.gatherRows (entry : Nat) (e : Entry) (t : EmbTable) (lists rows : List (Nat × Nat)) : State × Bool → State
  | (s, direct) =>
    match (s.dropFetched entry).readRanges rows with
    | (s, some (st, sub)) => s.failWith entry st sub
    | (s, none) => s.gatherOut entry e t lists rows direct

/-- Where the second copies of a table's rows stand (R277). -/
def EmbTable.second (t : EmbTable) : Second := match edLayout t.desc with
  | 0 => .mirror | 1 => .nextWindow | _ => .none

/-- What a gather fetches next: its lists, of which nothing has a twin, or the rows of its table, which their homes count. -/
def State.fetchAs (s : State) (entry : Nat) (k : Second) (rows : List (Nat × Nat)) : State :=
  s.modEntry entry fun e => { e with second := k, rowAt := rows.map (·.1) }

/-- EMB_GATHER (R272 to R278): reads each distinct row once, pools the bags, writes the output; without working space it
takes the direct path. -/
def execEmbGather (entry : Nat) (s : State) : Res :=
  match s.runnableStore entry 0x44 with
  | none => .next s
  | some e =>
    let p := e.packet
    match s.embTable (epTable p) with
    | none => .next (s.failWith entry St.badParam 0x41)
    | some t =>
      let dim := edDim t.desc
      let lists := embLists dim p
      match (s.fetchAs entry .none []).prepareRanges entry lists [] with
      | (s, true) => .next s
      | (s, false) =>
        match s.readRanges lists with
        | (s, some (st, sub)) => .next (s.failWith entry st sub)
        | (s, none) =>
          if epPool p != 3 && !offsetsOk (s.offsetList p) (epCount p) then .next (s.failWith entry St.badParam 0x48)
          else
            let rows := s.gatherRanges e t
            match (s.fetchAs entry t.second rows).prepareRanges entry rows [] with
            | (s, true) => .next s
            | (s, false) => .next (State.gatherRows entry e t lists rows
              (s.gatherSpace (s.reserveWork entry (gatherWork (epCount p) ((edWfmt t.desc).rowBytes dim)))))

/-- Working space for an update, when it is its turn (R279). -/
def State.updateSpace (s : State) (entry bytes : Nat) (turn : Bool) : Option State :=
  if s.emb.work.has entry then some s else if turn then s.reserveWork entry bytes else none

/-- The effect classes an update of a table may have: store data, or the step buffer of a deterministic table, of each part. -/
def State.updateClasses (s : State) (id : Nat) (t : EmbTable) : Nat :=
  (t.parts id).foldl (fun k i => k ||| (if (s.embTable i).any fun x => edDet x.desc then 64 else 1)) 0

/-- An update has its working space: the homes of its rows combine and apply, each its own (R279). -/
def State.updateRows (s : State) (entry : Nat) (e : Entry) (t : EmbTable) : State :=
  let p := e.packet
  let lists := embLists (edDim t.desc) p
  match s.prepareRanges entry lists (s.touchedRows e t) with
  | (s, true) => s
  | (s, false) =>
    match s.readRanges lists with
    | (s, some (st, sub)) => s.failWith entry st sub
    | (s, none) =>
      if epPerBag p && !offsetsOk (s.offsetList p) (epCount p) then s.failWith entry St.badParam 0x48
      else
        let homes := s.rangeHomes (s.touchedRows e t)
        let missing := (s.keyList p).countP fun k => (s.resolveKey (epTable p) t (epKey64 p) k).isNone
        let classes := s.updateClasses (epTable p) t
        let (s, n) := (s.sendParts entry homes classes).runUpdate p (s.srcNode e.src) e.version !e.part
        s.conclude entry (homes.contains s.sys.member) classes fun o =>
          let o := match n.fail with
            | some (st, sub) => o.merge st sub
            | none => o
          { o with result0 := o.result0 + e.share e.version + 2 ^ 32 * n.distinct, result1 := o.result1 + n.skipped
                   countDone := o.countDone + n.done, countAux := o.countAux + e.share missing }

/-- EMB_UPDATE (R279 to R284): waits in order of acceptance for its working space at the intake member, then combines and applies. -/
def execEmbUpdate (entry : Nat) (s : State) : Res :=
  match s.runnableStore entry 0x45 with
  | none => .next s
  | some e =>
    let bytes := updateWork (epCount e.packet)
    match s.embTable (epTable e.packet) with
    | none => .next (s.failWith entry St.badParam 0x41)
    | some t =>
      if e.part then .next (s.updateRows entry e t)
      else if bytes > s.workSize then .next (s.failWith entry St.noSpace 0x42)
      else
        let waits := s.emb.waiting.filter fun i => (s.entry? i).any fun x => x.phase = .accepted && x.stop.isNone
        match s.updateSpace entry bytes (waits.head?.all fun i => i = entry) with
        | none => .next { s with emb := { s.emb with waiting := addNew waits entry } }
        | some s => .next ({ s with emb := { s.emb with waiting := waits.filter (· != entry) } }.updateRows entry e t)

/-- EMB_WRITE (R286): each home writes its rows. -/
def execEmbWrite (entry : Nat) (s : State) : Res :=
  match s.runnableStore entry 0x46 with
  | none => .next s
  | some e =>
    let p := e.packet
    match s.embTable (epTable p) with
    | none => .next (s.failWith entry St.badParam 0x41)
    | some t =>
      let lists := embLists (edDim t.desc) p
      match s.prepareRanges entry lists (s.touchedRows e t) with
      | (s, true) => .next s
      | (s, false) =>
        match s.readRanges lists with
        | (s, some (st, sub)) => .next (s.failWith entry st sub)
        | (s, none) =>
          let homes := s.rangeHomes (s.touchedRows e t)
          let missing := (s.keyList p).countP fun k => (s.resolveKey (epTable p) t (epKey64 p) k).isNone
          let (s, n) := (s.sendParts entry homes 1).runWrite p e.version !e.part
          .next (s.conclude entry (homes.contains s.sys.member) 1 fun o =>
            let o := match n.fail with
              | some (st, sub) => o.merge st sub
              | none => o
            { o with result0 := o.result0 + e.share e.version, countDone := o.countDone + n.done
                     countAux := o.countAux + e.share missing })

/-- Phase 3 of EMB_STEP_CLOSE at this member (R285): the contributions to the rows homed here are applied. -/
def State.closeApply (s : State) (entry : Nat) (e : Entry) : State :=
  let p := e.packet
  let t := epTable p
  let step := epStepClosed p
  match s.prepareRanges entry [] (s.stepRanges t step) with
  | (s, true) => s
  | (s, false) =>
    let s := if e.part || s.members.length ≤ 1 then s
      else ((s.modEntry entry fun e => { e with version := 1 }).sendParts entry s.members 17)
    let (s, done, skipped, n, f) := s.applyStep t step (fp32Of (epLrClose p)) (epRnd p) (epSat p) (epSeed p)
    s.conclude entry true 17 fun o =>
      let o := match f with
        | some (st, sub) => o.merge st sub
        | none => o
      { o with result0 := e.share step, result1 := o.result1 + skipped, countDone := o.countDone + done, countAux := o.countAux + n }

/-- EMB_STEP_CLOSE (R285): the anchor tells every member that the step is closed; each waits until the updates it accepted for the
step have ended; when all have, each applies the contributions at its home. -/
def execEmbStepClose (entry : Nat) (s : State) : Res :=
  match s.runnableStore entry 0x48 with
  | none => .next s
  | some e =>
    let p := e.packet
    let t := epTable p
    let step := epStepClosed p
    if e.part then
      if e.version = 1 then .next (s.closeApply entry e)
      else if s.updatesOpen t step then .next s
      else .next (s.conclude entry true 0 id)
    else if s.embAnchor t != s.sys.member then .next (s.forward entry (s.embAnchor t) 17)
    else if s.anchorBusy entry t e then .next s
    else match s.embTable t with
    | none => .next (s.failWith entry St.badParam 0x41)
    | some x =>
      if e.stage = 0 && x.step != step then .next (s.failWith entry St.staleVersion 0x42)
      else
        let s := if e.stage != 0 then s
          else (((s.closeStep t step).modEntry entry fun e => { e with stage := 1, begun := e.begun ||| 16 }).sendParts entry s.members 16)
        if s.updatesOpen t step || (s.entry? entry).any (fun e => !e.items.isEmpty) then .next s
        else .next (s.closeApply entry e)

/-- EMB_PUBLISH (R288): a compare-and-swap of the version at the anchor, then the switch at every member. -/
def execEmbPublish (entry : Nat) (s : State) : Res :=
  match s.runnable entry 0x4C with
  | none => .next s
  | some e =>
    let p := e.packet
    let t := epTable p
    let apply (s : State) (version : Nat) : State := (s.switchTable t (epSource p)).dispatch entry s.members 16 fun o =>
      { o with result0 := e.share ((version + 1) % 2 ^ 32), countDone := e.share s.members.length }
    if e.part then .next (apply s 0)
    else if s.embAnchor t != s.sys.member then .next (s.forward entry (s.embAnchor t) 16)
    else if s.anchorBusy entry t e then .next s
    else match s.embTable t, s.embTable (epSource p) with
    | some x, some y =>
      let same (d : List Byte) : List Byte := d.drop 2 |>.take 30
      let fixed (d : List Byte) : List Byte := same d ++ sub d 40 8 ++ sub d 68 60
      if epSource p = t || fixed x.desc != fixed y.desc then .next (s.failWith entry St.badParam 0x4B)
      else if x.version != epExpect p then .next (s.failWith entry St.staleVersion 0x40 x.version)
      else if x.old.isSome then .next (s.failWith entry St.noSpace 0x41)
      else .next (apply s x.version)
    | _, _ => .next (s.failWith entry St.badParam 0x41)

/-- EMB_RETIRE (R289): no command of this member holds the retiring version any more, and no other member's does. -/
def execEmbRetire (table : Nat) (s : State) : Res :=
  match s.embTable table with
  | none => .next s
  | some x =>
    if x.old.isNone || s.embInFlight table ((x.version + 2 ^ 32 - 1) % 2 ^ 32) != 0 then .next s
    else .next ((s.setEmbTable table { x with old := none }).raise F.EMB_EVENT_RETIRED)

end Sys2Proof.Machine
end

