-- ==== Sys2Proof/Machine/Rpl.lean ====
section
/-!
DEFINITION. The meanings of the replay buffer commands (spec/09_replay_and_kv.md).
-/
namespace Sys2Proof.Machine

open Sys2Proof

/-- RPL_DEFINE at its anchor and at every member (R326, R328). -/
def State.defineBuffer (s : State) (entry : Nat) (e : Entry) : State :=
  (s.setRplBuffer (rpBuffer e.packet) { desc := e.block.take 64, comp := pkComp e.packet }).dispatch entry s.members 16 fun o =>
    { o with countDone := e.share s.members.length }

/-- A DEFINE or DROP that the anchor serves waits for those that reached it before (R326). -/
def State.rplBusy (s : State) (entry b : Nat) (e : Entry) : Bool :=
  s.anchorTaken entry e [0x80, 0x81] fun p => rpBuffer p = b

/-- RPL_DEFINE (R326, R328): at the anchor it reaches every member; a defined buffer refuses it. -/
def execRplDefine (entry : Nat) (s : State) : Res :=
  match s.runnable entry 0x80 with
  | none => .next s
  | some e =>
    let b := rpBuffer e.packet
    if e.part then .next (s.defineBuffer entry e)
    else if s.rplAnchor b != s.sys.member then .next (s.forward entry (s.rplAnchor b) 16)
    else if s.rplBusy entry b e then .next s
    else if (s.rplBuffer b).isSome then .next (s.failWith entry St.badParam 0x4A)
    else .next (s.defineBuffer entry e)

/-- RPL_DROP at its anchor and at every member (R340). -/
def State.removeBuffer (s : State) (entry : Nat) (e : Entry) : State :=
  let b := rpBuffer e.packet
  let s := { s with rpl := { s.rpl with
    buffers := s.rpl.buffers.erase b, queues := s.rpl.queues.filter fun k _ => k / 64 != b } }
  s.dispatch entry s.members 16 fun o => { o with countDone := e.share s.members.length }

/-- RPL_DROP (R340): a buffer with commands in flight stays. -/
def execRplDrop (entry : Nat) (s : State) : Res :=
  match s.runnable entry 0x81 with
  | none => .next s
  | some e =>
    let b := rpBuffer e.packet
    let used := !(s.entriesWhere fun i f => i != entry && f.accepted && decide (0x80 ≤ pkOpcode f.packet) &&
      decide (pkOpcode f.packet ≤ 0x86) && rpBuffer f.packet = b).isEmpty || s.rpl.jobs.any fun j => rpBuffer j.packet = b
    if e.part then .next (s.removeBuffer entry e)
    else if s.rplAnchor b != s.sys.member then .next (s.forward entry (s.rplAnchor b) 16)
    else if s.rplBusy entry b e then .next s
    else if (s.rplBuffer b).isNone then .next (s.failWith entry St.badParam 0x41)
    else if used then .next (s.failWith entry St.badParam 0x4A)
    else .next (s.removeBuffer entry e)

/-- RPL_QUERY (R341). -/
def execRplQuery (entry : Nat) (s : State) : Res :=
  match s.runnable entry 0x82 with
  | none => .next s
  | some e =>
    let b := rpBuffer e.packet
    match s.rplBuffer b with
    | none => .next (s.finish entry id)
    | some x =>
      .next (s.finish entry fun o => { o with
        result0 := x.head
        result1 := 1
        countDone := s.shardLive x.desc s.ownWindow
        countAux := (s.shardQueue b s.ownWindow).length })

/-- Begin a job of a command: it gets its local item, and the job its place. -/
def State.beginJob (s : State) (entry classes : Nat) (p : Packet) : State × Asker :=
  let (s, item) := s.localItem entry classes
  let a : Asker := .entry entry item
  ({ s with rpl := { s.rpl with jobs := s.rpl.jobs ++ [{ asker := a, packet := p }] } }, a)

/-- The command stands started while its local item is due. -/
def State.hasStarted (s : State) (entry classes : Nat) : State := s.conclude entry false classes fun o => o

/-- What the anchor or the home of shards does for another member's insert (R333): stage 1 reserves, 2 writes the records of the
insert numbers from q on that fall in the shards here, 3 ends its flight. -/
def State.insertFor' (s : State) (entry : Nat) (e : Entry) (b : Nat) (x : RplBuffer) : State :=
  let p := e.packet
  let k := e.version / 8
  let origin := (e.proxy.map (·.origin)).getD 0
  match e.version % 8 with
  | 1 =>
    if e.started then s
    else
      let (s, item) := s.localItem entry 0
      (s.hasStarted entry 0).askReserve
        { asker := .entry entry item, origin := origin, item := (e.proxy.map (·.item)).getD 0, buffer := b, first := 0
          count := rpCount p } x
  | 2 =>
    match s.jobOfEntry entry with
    | some j => s.advanceJob j.asker
    | none =>
      if e.started then s
      else
        let s := if s.rplAnchor b = s.sys.member then s else s.noteHead b ((k + rpCount p) % 2 ^ 64)
        let (s, a) := s.beginJob entry 1 p
        (((s.hasStarted entry 1).modJob a fun j => { j with first := some k }).clearSlots a b x.desc k (rpCount p)).advanceJob a
  | _ =>
    let s := { s with rpl := { s.rpl with
      flights := s.rpl.flights.filter fun f => !(f.origin = origin && f.item = k)
      waits := s.rpl.waits.filter fun f => !(f.origin = origin && f.item = k) } }
    s.conclude entry true 0 id

/-- RPL_INSERT (R333): asks the anchor for its numbers, then goes on as far as its shards' passes let it. -/
def execRplInsert (entry : Nat) (s : State) : Res :=
  match s.resumable entry 0x84 with
  | none => .next s
  | some e =>
    let p := e.packet
    let b := rpBuffer p
    match s.rplBuffer b with
    | none => .next (s.failWith entry St.badParam 0x41)
    | some x =>
      if e.part then .next (s.insertFor' entry e b x)
      else match s.jobOfEntry entry with
      | some j =>
        if j.first.isSome then .next (s.advanceJob j.asker)
        else if j.asked.isSome && e.waitsOn s.sys.member then
          -- the anchor has answered: its number stands in RESULT0
          let q := e.out.result0
          if e.out.status != St.done then .next (s.endJob { j with asked := none, fail := some (e.out.status, e.out.subcode) })
          else .next (s.insertGranted j.asker b x.desc q (rpCount p))
        else .next s
      | none =>
        if !s.storeUp || e.started then .next s
        else
          let lists := rplLists x.desc p
          match s.prepareRanges entry lists [] with
          | (s, true) => .next s
          | (s, false) =>
            match s.readRanges lists with
            | (s, some (st, sub)) => .next (s.failWith entry st sub)
            | (s, none) =>
              let n := s.rack.nextItem
              let (s, a) := s.beginJob entry 1 p
              let s := s.hasStarted entry 1
              if s.rplAnchor b = s.sys.member then
                .next (s.askReserve
                  { asker := a, origin := s.sys.member, item := n, buffer := b, first := 0, count := rpCount p } x)
              else
                let n := s.rack.nextItem
                .next ((s.modJob a fun j => { j with asked := some n }).sendStage entry (s.rplAnchor b) 1 0)

/-- RPL_RESERVATION_GRANT (R333 step 1): the oldest reservation that waits for a buffer, once no insert in flight would be
overtaken. -/
def execRplReservationGrant (buffer : Nat) (s : State) : Res :=
  match s.rplBuffer buffer, s.rpl.waits.find? fun f => f.buffer = buffer with
  | some x, some f =>
    if s.mayReserve buffer x f.count then
      let s := { s with rpl := { s.rpl with waits := s.rpl.waits.filter fun g => !(g.origin = f.origin && g.item = f.item) } }
      let (s, q) := s.reserve f x
      .next (s.insertGranted f.asker buffer x.desc q f.count)
    else .next s
  | _, _ => .next s

/-- The updates of a command are queued at the shards here, and go to the homes of the others (R335 step 1, R338). -/
def State.startUpdates (s : State) (entry classes : Nat) (e : Entry) (d : List Byte) (a : Asker) : State :=
  let p := e.packet
  let list := s.bytes (rpRsa p) (16 * rpCount p)
  let far := if e.part then [] else (s.updateHomes d list (rpCount p)).filter fun m => m != s.sys.member
  let s := (s.hasStarted entry classes).queueUpdates a (rpBuffer p) d (rpCas p) list (rpCount p) !e.part
  far.foldl (fun (s : State) m => s.sendStage entry m 2 1) s

/-- What the homes of shards do for another member's sample (R335, R336): stage 2 brings updates, 4 asks for the totals, 5 for a draw. -/
def State.sampleFor (s : State) (entry : Nat) (e : Entry) (x : RplBuffer) : State :=
  let p := e.packet
  match e.version % 8 with
  | 2 =>
    let (s, a) := s.beginJob entry 1 p
    let s := s.modJob a fun j => { j with updateOnly := true }
    (s.startUpdates entry 1 e x.desc a).advanceJob a
  | 4 =>
    let roots := s.ownSlots.map fun w => (rplWordAt x.desc w 1, 4)
    match s.prepareRanges entry roots [] with
    | (s, true) => s
    | (s, false) =>
      match s.readRanges roots with
      | (s, some (st, sub)) => s.failWith entry st sub
      | (s, none) =>
        let l := (s.totalsHere x.desc).map fun t => [t.1, t.2.1, t.2.2]
        (s.modEntry entry fun e => { e with reply := l.flatten }).conclude entry true 0 id
  | _ =>
    let (w, t) := drawAsked e.version
    let (s, a) := s.beginJob entry 0 p
    (s.modJob a fun j => { j with total := some 1, draws := [{ shard := w, target := t }] }).hasStarted entry 0

/-- The list of a sample or an update may be read: true; else it waits, or has failed. -/
def State.listReady (s : State) (entry : Nat) (lists : List (Nat × Nat)) : State × Bool :=
  match s.prepareRanges entry lists [] with
  | (s, true) => (s, false)
  | (s, false) =>
    match s.readRanges lists with
    | (s, some (st, sub)) => (s.failWith entry st sub, false)
    | (s, none) => (s, true)

/-- RPL_SAMPLE (R335): its updates are queued, then the totals are read once no update of it is left in a queue. -/
def execRplSample (entry : Nat) (s : State) : Res :=
  match s.resumable entry 0x85 with
  | none => .next s
  | some e =>
    let p := e.packet
    match s.rplBuffer (rpBuffer p), s.jobOfEntry entry with
    | none, _ => .next (s.failWith entry St.badParam 0x41)
    | some _, some j => .next (s.advanceJob j.asker)
    | some x, none =>
      if !s.storeUp || e.started then .next s
      else if e.part && e.version % 8 != 2 then .next (s.sampleFor entry e x)
      else match s.listReady entry (rplLists x.desc p) with
      | (s, false) => .next s
      | (s, true) =>
        if e.part then .next (s.sampleFor entry e x)
        else
          let (s, a) := s.beginJob entry ((if rpHostOut p = 0 then 4 else 2) + b2n (rpCount p != 0)) p
          .next ((s.startUpdates entry ((if rpHostOut p = 0 then 4 else 2) + b2n (rpCount p != 0)) e x.desc a).advanceJob a)

/-- RPL_UPDATE (R338). -/
def execRplUpdate (entry : Nat) (s : State) : Res :=
  match s.runnableStore entry 0x86 with
  | none => .next s
  | some e =>
    let p := e.packet
    match s.rplBuffer (rpBuffer p) with
    | none => .next (s.failWith entry St.badParam 0x41)
    | some x =>
      match s.listReady entry (rplLists x.desc p) with
      | (s, false) => .next s
      | (s, true) =>
        let (s, a) := s.beginJob entry 1 p
        .next ((s.startUpdates entry 1 e x.desc a).advanceJob a)

/-- A pass whose words can be accessed (R332): it reads them, applies the changes and answers those who asked. -/
def State.treePass (s : State) (buffer shard : Nat) (d : List Byte) (rs : List (Nat × Nat)) (batch rest : List RplChange) : State :=
  let askers := batch.foldl (fun l c => addNew l c.asker) []
  match s.readRanges rs with
  | (s, some f) =>
    let s := s.setShardQueue buffer shard rest
    let s := askers.foldl (fun (s : State) a => s.modJob a fun j => { j with fail := some (j.fail.getD f) }) s
    askers.foldl (fun (s : State) a => s.advanceJob a) s
  | (s, none) =>
    let s := (s.setShardQueue buffer shard rest).runPass d shard batch
    askers.foldl (fun (s : State) a => s.advanceJob a) s

/-- RPL_TREE_PASS (R332): a shard takes up to 65,536 of its queued changes, writes them and recomputes; what waited for the
pass goes on. A tree word that cannot be read fails the commands whose changes the pass held. -/
def execRplTreePass (buffer shard : Nat) (s : State) : Res :=
  match s.rplBuffer buffer with
  | none => .next s
  | some x =>
    let batch := (s.shardQueue buffer shard).take 65536
    if batch.isEmpty then
      -- jobs of other members that wait for a copy go on
      .next (((s.rpl.jobs.filter fun j => rpBuffer j.packet = buffer).map (·.asker)).foldl
        (fun (s : State) a => s.advanceJob a) s)
    else
      let rs := passRanges x.desc shard batch
      match s.prepareRanges (2 ^ 42 + 2 ^ 16 + shardKey buffer shard) rs rs with
      | (s, true) => .next s
      | (s, false) => .next (s.treePass buffer shard x.desc rs batch ((s.shardQueue buffer shard).drop 65536))

/-- A draw descends its shard's tree (R336): what it reads, the draw as made, whether a read failed. -/
def State.makeDraw (s : State) (entry : Nat) (j : RplJob) (d : List Byte) (r : RplDraw) : State × Option (RplDraw × Option (Nat × Nat)) :=
  let w := r.shard
  let (slot, path) := s.descend d w r.target
  let tree := (path.map fun i => (rplWordAt d w i, 4))
  let rec' := match slot with
    | some l => if rpReturnData j.packet then [rplRecordRange d w l] else []
    | none => []
  match s.prepareRanges entry (tree ++ rec') [] with
  | (s, true) => (s, none)
  | (s, false) =>
    let (s, bad) := s.readRanges (tree ++ rec')
    let s := s.count F.RPL_COUNT_DRAWS_COUNT
    let s := if slot.isNone then (s.count F.RPL_COUNT_LOST_COUNT).raise F.RPL_EVENT_DRAW_LOST else s
    (s, some (match slot with
      | none => { r with done := true, lost := true }
      | some l =>
        { r with done := true, slot := l, prio := s.rplWord d w (2 ^ rdS d + l), record := match rec' with
          | [(a, n)] => s.bytes a n
          | _ => [] }, bad))

/-- RPL_DESCENT (R336): one draw of a sample descends its shard's tree, at the shard's home, and returns its slot and record. -/
def execRplDescent (entry draw : Nat) (s : State) : Res :=
  match s.jobOfEntry entry with
  | none => .next s
  | some j =>
    match s.rplBuffer (rpBuffer j.packet), j.draws.drop draw with
    | some x, r :: _ =>
      if r.done || !s.shardHere r.shard then .next s
      else match s.makeDraw entry j x.desc r with
      | (s, none) => .next s
      | (s, some (r, bad)) =>
        let j : RplJob := { j with
          draws := j.draws.take draw ++ [r] ++ j.draws.drop (draw + 1)
          fail := if bad.isSome then some (j.fail.getD (bad.getD (0, 0))) else j.fail }
        .next ((s.modJob j.asker fun _ => j).advanceJob j.asker)
    | _, _ => .next s

end Sys2Proof.Machine
end

