-- ==== Sys2Proof/Machine/Xlt.lean ====
section
/-!
DEFINITION. The meanings of the translation commands (spec/04_translation.md): XLT registers, ATS and PRI, the DMA
opcodes, INVALIDATE and REVOKE.
-/
namespace Sys2Proof.Machine

open Sys2Proof

/-! ### The XLT window (R142, R143, R151, R175) -/

/-- Load the staging fields of the segment selected (R175). -/
def State.stageSeg (s : State) (ctx seg : Nat) : State :=
  let g := s.seg ctx seg
  ((((((s.setFld F.XLT_SEG_CTRL_STATE g.state.code).setFld F.XLT_SEG_CTRL_SLAB16 (b2n g.slab16)).setFld
    F.XLT_SEG_CTRL_PERM_R (b2n g.permR)).setFld F.XLT_SEG_CTRL_PERM_W (b2n g.permW)).setFld
    F.XLT_SEG_CTRL_PERM_A (b2n g.permA)).setFld F.XLT_SEG_BASE_SLAB g.base).setFld F.XLT_SEG_COUNT_COUNT g.count

/-- Load the staging fields of the context selected (R175). -/
def State.stageCtx (s : State) (ctx : Nat) : State :=
  let c := s.ctx ctx
  ((s.setFld F.XLT_CTX_CFG_VALID (b2n c.valid)).setFld F.XLT_CTX_CFG_BOUND_SRC c.boundSrc).setFld
    F.XLT_CTX_CFG_COMPOSITION c.comp

/-- XLT_CTX_SEL (R175). -/
def execXltCtxSelWrite (src ctx : Nat) (s : State) : Res :=
  if !s.mayAdminister src then .next s
  else .next ((s.setFld F.XLT_CTX_SEL_CTX (ctx % 4096)).stageCtx (ctx % 4096))

/-- XLT_SEG_SEL (R175). -/
def execXltSegSelWrite (src seg : Nat) (s : State) : Res :=
  if !s.mayAdminister src then .next s
  else .next ((s.setFld F.XLT_SEG_SEL_SEG (seg % 16)).stageSeg (s.fld F.XLT_CTX_SEL_CTX) (seg % 16))

/-- Why the staged context record is refused (R143, R175): ERR, 0 for none. -/
def State.ctxErr (s : State) : Nat :=
  let ctx := s.fld F.XLT_CTX_SEL_CTX
  let c := s.ctx ctx
  let bound := s.fld F.XLT_CTX_CFG_BOUND_SRC
  if bound > 143 then 1
  else if !(s.inFlight ctx).isEmpty && ((c.valid && s.fld F.XLT_CTX_CFG_VALID = 0) || bound != c.boundSrc ||
      s.fld F.XLT_CTX_CFG_COMPOSITION != c.comp) then 4
  else 0

/-- The staged segment record. -/
def State.stagedSeg (s : State) : Segment :=
  { state := if s.fld F.XLT_SEG_CTRL_STATE = 1 then .valid else if s.fld F.XLT_SEG_CTRL_STATE = 2 then .pending else .invalid
    slab16 := s.fld F.XLT_SEG_CTRL_SLAB16 = 1
    base := s.fld F.XLT_SEG_BASE_SLAB
    count := s.fld F.XLT_SEG_COUNT_COUNT
    permR := s.fld F.XLT_SEG_CTRL_PERM_R = 1
    permW := s.fld F.XLT_SEG_CTRL_PERM_W = 1
    permA := s.fld F.XLT_SEG_CTRL_PERM_A = 1 }

/-- A MIGRATE_IN that names the segment runs (R175, ERR 5). -/
def State.migrating (s : State) (ctx seg : Nat) : Bool :=
  (s.inFlight ctx).any fun c => pkOpcode c.2.packet = 0x0C && xpSegment c.2.packet = seg

/-- Why the staged segment record is refused (R175): ERR, 0 for none. -/
def State.segErr (s : State) : Nat :=
  let ctx := s.fld F.XLT_CTX_SEL_CTX
  let seg := s.fld F.XLT_SEG_SEL_SEG
  let g := s.stagedSeg
  let size := if g.slab16 then 16 else 1
  if s.fld F.XLT_SEG_CTRL_STATE = 3 then 3
  else if g.state != .invalid && g.base % size != 0 then 2
  else if g.state != .invalid && (g.count = 0 || g.count > 4194304 || g.first + g.bytes > 2 ^ 56) then 3
  else if (s.seg ctx seg).revoking || s.migrating ctx seg then 5
  else 0

/-- Apply the staged records asked for, both or neither, and say so in ERR (R151, R175). -/
def State.applyRecords (s : State) (doCtx doSeg : Bool) : State :=
  let ctx := s.fld F.XLT_CTX_SEL_CTX
  let seg := s.fld F.XLT_SEG_SEL_SEG
  let e1 := if doCtx then s.ctxErr else 0
  let err := if e1 != 0 then e1 else if doSeg then s.segErr else 0
  let s1 :=
    if err != 0 then s
    else
      let old := s.ctx ctx
      let new := if doCtx then
          { old with valid := s.fld F.XLT_CTX_CFG_VALID = 1, boundSrc := s.fld F.XLT_CTX_CFG_BOUND_SRC,
                     comp := s.fld F.XLT_CTX_CFG_COMPOSITION }
        else old
      let new := if doSeg then ({ new with segGen := (new.segGen + 1) % 65536 }).setSeg seg s.stagedSeg else new
      (s.setCtx ctx new).switchBlocks ctx old new
  (s1.setFld F.XLT_APPLY_STATUS_ERR err).raise F.XLT_EVENT_APPLY_DONE

def execXltApplyCtx (src : Nat) (both : Bool) (s : State) : Res :=
  if !s.mayAdminister src then .next s else .next (s.applyRecords true both)

def execXltApplySeg (src : Nat) (both : Bool) (s : State) : Res :=
  if !s.mayAdminister src then .next s else .next (s.applyRecords both true)

/-! ### ATS and PRI (R153 to R156, R171) -/

/-- DMA reads outstanding that used a removed entry: lift-line entry and offset. -/
def State.readsUsing (s : State) (gone : Nat → Nat → Bool) : List (Nat × Nat) :=
  s.cmdq.entries.cells.foldl (fun l c =>
    match s.dmaOp c.2 with
    | none => l
    | some d => l ++ (c.2.dma.reads.filter fun r => gone c.2.src (d.page r.1)).map fun r => (c.1, r.1)) []

/-- XLT_ATC_FLUSH (R175): every entry of the ports named goes; transfers already issued complete. -/
def execXltAtcFlush (src : Nat) (port0 port1 : Bool) (s : State) : Res :=
  if !s.mayAdminister src then .next s
  else
    let s := if port0 then s.setAtc 0 [] else s
    .next (if port1 then s.setAtc 1 [] else s)

/-- An ATS Invalidation Request (R171): the matching entries go at once; its completion is due when the reads that used
them have drained. -/
def execAtsInvalidationRequest (port func tag page pages : Nat) (s : State) : Res :=
  let overlaps (a : AtcEntry) : Bool := a.func = func && decide (a.page < page + pages) && decide (page < a.page + a.pages)
  let gone := (s.atc port).filter overlaps
  let reads := s.readsUsing fun f pg => gone.any fun a => a.hits f pg
  let s := s.setAtc port ((s.atc port).filter fun a => !overlaps a)
  .next { s with xlt := { s.xlt with invals := s.xlt.invals ++
    [({ port := port, tag := tag, since := s.frame, draining := reads } : Invalidation)] } }

/-- The Invalidation Completion (R171), sent only once every read on a removed entry has drained. -/
def execAtsInvalidationCompletion (port tag : Nat) (s : State) : Res :=
  match s.xlt.invals.find? fun i => i.port = port && i.tag = tag with
  | none => .next s
  | some i =>
    if !i.draining.isEmpty then .next s
    else
      let s1 := ({ s with xlt := { s.xlt with invals := s.xlt.invals.erase i } }).emit (.invalCompletion port tag)
      .next (if s.usSince i.since > 100 then s1.raise F.XLT_EVENT_INVAL_SLOW else s1)

/-- An ATS Translation Completion (R155, R156): a translation enters the ATC and the movers that wait for it go on; a
missing one asks for the page, or ends the command where its mover arrives. -/
def execTranslationCompletion (func page pages : Nat) (result : HostResult) (write : Bool) (s : State) : Res :=
  let n := max 1 pages
  let wants (c : Nat × Entry) : Bool := c.2.src = func && c.2.dma.want.any fun p => decide (page ≤ p) && decide (p < page + n)
  let ids := (s.cmdq.entries.cells.filter wants).map (·.1)
  let s := if result = .ok then s.atcAdd { func := func, page := page, pages := n, write := write } else s
  let settle (s : State) (id : Nat) : State :=
    match s.entry? id with
    | none => s
    | some e =>
      let got := e.dma.want.filter fun p => decide (page ≤ p) && decide (p < page + n)
      let needWrite := ((s.dmaOp e).map (·.write)).getD false
      let good := result = .ok && (write || !needWrite)
      let put (l : List MissPage) (p : Nat) : List MissPage :=
        let old := (l.find? fun m => m.page = p).getD { page := p }
        let rest := l.filter fun m => m.page != p
        if good then rest
        else if result = .ok || result = .missing then
          rest ++ [{ old with asked := false, again := false, fail := if old.successes ≥ 3 then some 0x4E else none }]
        else rest ++ [{ old with asked := false, again := false, fail := some 0x4C }]
      s.setEntry id { e with dma := { e.dma with
        want := e.dma.want.filter fun p => !got.contains p
        missing := got.foldl put e.dma.missing } }
  .next ((ids.foldl settle s).portGoesOn (func / 64))

/-- The pages of a group change state in their command (R156); it goes on, and so do those that waited for the allocation. -/
def State.groupEnds (s : State) (g : PageGroup) (f : MissPage → MissPage) : State :=
  let s := { s with xlt := { s.xlt with groups := s.xlt.groups.filter fun h => h.id != g.id } }
  match s.entry? g.entry with
  | none => s
  | some e =>
    (s.setEntry g.entry { e with dma := { e.dma with
      missing := mapIf (fun (m : MissPage) => g.pages.contains m.page) f e.dma.missing } }).portGoesOn (g.func / 64)

/-- A PRG Response (R156). One that comes after its timeout finds no group and is discarded. -/
def execPrgResponse (group : Nat) (code : PrgCode) (s : State) : Res :=
  match s.xlt.groups.find? fun g => g.id = group with
  | none => .next s
  | some g =>
    match code with
    | .success => .next (s.groupEnds g fun m => { m with asked := false, again := true, successes := m.successes + 1 })
    | .invalidRequest => .next (s.groupEnds g fun m => { m with asked := false, fail := some 0x49 })
    | .responseFailure =>
      let s1 := s.setSource g.func { s.source g.func with priBlocked := true }
      .next ((s1.groupEnds g fun m => { m with asked := false, fail := some 0x4A }).raise F.XLT_EVENT_PRI_FAILURE)

/-- No PRG Response within XLT_PRI_TIMEOUT (R156). -/
def execPriTimeout (group : Nat) (s : State) : Res :=
  match s.xlt.groups.find? fun g => g.id = group with
  | none => .next s
  | some g =>
    .next ((s.groupEnds g fun m => { m with asked := false, fail := some 0x4B }).raise F.XLT_EVENT_PRI_TIMEOUT)

/-- The physical function's PRI is disabled and enabled again (R156): every block of the port is lifted. -/
def execPriReenable (port : Nat) (s : State) : Res :=
  let p := port % 2
  let s1 := (List.range 64).foldl (fun (s : State) i =>
    if (s.source (64 * p + i)).priBlocked then s.setSource (64 * p + i) { s.source (64 * p + i) with priBlocked := false }
    else s) s
  .next { s1 with cmdq := { s1.cmdq with priEnabled := s1.cmdq.priEnabled.set p true } }

/-- A read no longer outstanding: an invalidation does not wait for it. -/
def State.readDrained (s : State) (entry off : Nat) : State :=
  { s with xlt := { s.xlt with
    invals := s.xlt.invals.map fun i => { i with draining := i.draining.filter fun r => !(r = (entry, off)) } } }

/-- Take completed reads in order into the held bytes. -/
def Dma.take (x : Dma) (off : Nat) : Nat → Dma
  | 0 => x
  | fuel + 1 =>
    match x.got.find? off with
    | some l => Dma.take { x with got := x.got.erase off, held := x.held ++ l } (off + l.length) fuel
    | none => x

/-- A DMA completion (R156, R157): a read's data moves on in order; an error ends the command there with subcode 0x4D. -/
def execHostDmaCompletion (entry off : Nat) (result : HostResult) (data : List Byte) (s : State) : Res :=
  let s := s.readDrained entry off
  match s.entry? entry with
  | none => .next s
  | some e =>
    match s.dmaOp e with
    | none => .next s
    | some d =>
      let x := e.dma
      match x.reads.find? fun r => r.1 = off with
      | some r =>
        let x1 := { x with reads := x.reads.filter fun q => q.1 != off }
        let x2 := if result = .ok then
            Dma.take { x1 with got := x1.got.set off (sub data 0 r.2) } (x.moved + x.held.length) 4096
          else { x1 with fail := some (min off ((x.fail.map (·.1)).getD off), St.xltFault, 0x4D), got := {} }
        let s := s.setEntry entry { e with dma := x2 }
        .next (if (s.runningDma e.src).contains entry then s.runDma entry else s)
      | none =>
        -- a posted write to host memory failed
        let open' := (s.runningDma e.src).contains entry || (e.phase = .ended && e.stop.isNone && e.out.status = St.done)
        if result = .ok || d.toStore || d.prefetch || off ≥ x.issued || !open' then .next s
        else
          -- the first byte not moved lies on a granule of the destination (R160)
          let n := min off x.moved
          let excess := d.dest n % 128
          let s := s.setEntry entry { e with dma := { x with moved := if excess ≤ n then n - excess else 0, held := [] } }
          .next (s.endFault entry d St.xltFault 0x4D true off)

/-- A DMA read meets its Completion Timeout (R171): it is no longer outstanding, and an invalidation need not wait for
it. Its bytes have not come; the spec gives the command no other effect. -/
def execPcieCompletionTimeout (entry off : Nat) (s : State) : Res :=
  let s := s.readDrained entry off
  .next (s.modEntry entry fun e => { e with dma := { e.dma with reads := e.dma.reads.filter fun r => r.1 != off } })

/-! ### The opcodes -/

/-- NOP (R162, R165). -/
def execNop (entry : Nat) (s : State) : Res :=
  match s.runnable entry 0x00 with
  | none => .next s
  | some _ => .next (s.conclude entry false 0 id)

/-- Start a DMA command, or go on with it after a granule it needs has come back. -/
def State.dmaRow (s : State) (id opcode : Nat) : Res :=
  match s.resumable id opcode with
  | none => .next s
  | some e => if e.started then .next (s.runDma id) else .next (s.startDma id)

def execHostToStore (entry : Nat) (s : State) : Res := if s.storeUp then s.dmaRow entry 0x01 else .next s
def execStoreToHost (entry : Nat) (s : State) : Res := if s.storeUp then s.dmaRow entry 0x02 else .next s
def execPrefetchHost (entry : Nat) (s : State) : Res := s.dmaRow entry 0x08
def execMigrateIn (entry : Nat) (s : State) : Res := if s.storeUp then s.dmaRow entry 0x0C else .next s

/-- MIGRATE_OUT (R170): the copy starts once every command that completes before the epoch has completed. -/
def execMigrateOut (entry : Nat) (s : State) : Res :=
  match s.resumable entry 0x0D with
  | none => .next s
  | some e =>
    let begun := s.xlt.revocations.any fun r => r.entry = entry
    let s := if begun then s else s.beginRevoke entry (pkContext e.packet) (xpSegment e.packet) 0x41
    let clear := s.xlt.revocations.all fun r => r.entry != entry || s.drained r
    if s.storeUp && clear then s.dmaRow entry 0x0D else .next s

/-- STORE_COPY (R166): every source byte is read before any destination byte is written. -/
def execStoreCopy (entry : Nat) (s : State) : Res :=
  match s.runnableStore entry 0x03 with
  | none => .next s
  | some e =>
    let from' := xpSrcRsa e.packet
    let to' := xpStore e.packet
    let n := xpLen e.packet
    match s.prepare entry (granulesOf from' n) (granulesOf to' n) with
    | (s, true) => .next s
    | (s, false) =>
      match ((s.accessFor false (pagesOf from' n)).dropFetched entry).readStore from' n with
      | (s, .error (st, sub)) => .next (s.failWith entry st sub to')
      | (s, .ok data) =>
        let s := s.accessFor true (pagesOf to' n)
        let here := s.homesPart from' n || s.homesPart to' n
        match s.writeStore to' data with
        | (s, some (st, sub)) =>
          let ok := ((granulesOf to' n).takeWhile fun g => (s.gran g).poison.isNone).length
          let bytes := (to' / 128 + ok) * 128 - to'
          .next (s.finish entry fun o =>
            { o with status := st, subcode := sub, absent := 0xFE, result0 := to' + bytes, countDone := bytes })
        | (s, none) => .next (s.conclude entry here 1 fun o => { o with result0 := to' + n, countDone := n })

/-- ADVISE (R168): the code is recorded against every page of the range, at its home. -/
def execAdvise (entry : Nat) (s : State) : Res :=
  match s.runnableStore entry 0x09 with
  | none => .next s
  | some e =>
    let first := xpStore e.packet / 4096
    let code := xpAdvice e.packet
    let pages := (List.range (xpLen e.packet)).map (first + ·)
    let mine := pages.filter fun pg => s.isHome (pg * 4096)
    let homes := pages.foldl (fun l pg => addNew l (s.homeOf (pg * 4096))) []
    let s := mine.foldl (fun (s : State) pg =>
      let s := s.setPage pg { s.page pg with advice := code }
      let top := (s.slab (pg * 4096)).ceiling
      if code = 1 && !(s.standsIn pg).atLeast top then s.queueRaise pg top else s) s
    .next (s.dispatch entry homes 128 fun o => { o with countDone := o.countDone + mine.length })

/-- INVALIDATE (R172): it completes when nothing that captured a named segment under an older generation is in flight. -/
def execInvalidate (entry : Nat) (s : State) : Res :=
  match s.runnable entry 0x20 with
  | none => .next s
  | some e =>
    let t := xpTargetCtx e.packet
    let mask := xpSegMask e.packet
    if (s.oldCommands t mask e.targetGen).isEmpty && (s.rawsOn t mask (some e.targetGen)).isEmpty then
      .next (s.conclude entry false 0 fun o => { o with countDone := e.waited, countAux := e.rawWaited })
    else .next s

/-- REVOKE (R173): steps 1 and 2 belong to its acceptance; here step 4 starts at every home of the extent. A segment
that was not VALID completes DONE with zero counts. -/
def execRevoke (entry : Nat) (s : State) : Res :=
  match s.runnable entry 0x21 with
  | none => .next s
  | some e =>
    let ctx := xpTargetCtx e.packet
    let seg := xpTargetSeg e.packet
    let s := if s.xlt.revocations.any fun r => r.entry = entry then s else s.beginRevoke entry ctx seg 0x40
    match s.xlt.revocations.find? fun r => r.entry = entry with
    | none => .next (s.conclude entry false 0 fun o => { o with result0 := (s.ctx ctx).revEpoch })
    | some r => .next (s.startBack r)

/-- Step 5 of R173: nothing that completes before the epoch is in flight and the back-invalidation has ended at every home;
REVOKING clears and REVOKE may complete. An aborted REVOKE ended only its wait (R174). -/
def execRevokeComplete (ctx seg : Nat) (s : State) : Res :=
  match s.xlt.revocations.find? fun r => r.ctx = ctx && r.seg = seg && r.sub = 0x40 with
  | none => .next s
  | some r =>
    if !r.backStarted then .next (s.startBack r)
    else if !s.drained r || s.backPending (revokeWaiter r.entry) || !s.noneAway (revokeWaiter r.entry) ||
        !(s.rawsOn ctx (2 ^ seg) none).isEmpty then .next s
    else
      let c := s.ctx ctx
      let s := s.setCtx ctx (c.setSeg seg { c.seg seg with revoking := false })
      let s := { s with xlt := { s.xlt with revocations := s.xlt.revocations.filter fun q => q.entry != r.entry } }
      let s := s.raise F.XLT_EVENT_REVOKE_DONE
      let s := if (s.boundEndpoint ctx).isSome then s.raise F.COH_EVENT_RECLAIM_DONE else s
      match s.entry? r.entry with
      | some e =>
        if e.stop.isSome || pkOpcode e.packet != 0x21 then .next s
        else .next (s.finish r.entry fun o => { o with result0 := r.epoch, countDone := r.nReleased, countAux := r.nRevoked })
      | none => .next s

end Sys2Proof.Machine
end

