-- ==== Sys2Proof/Machine/Resume.lean ====
section
/-!
DEFINITION. What lets work that waited go on: copies that come back (R414), room in the journal (R213) and in the write buffer
(R194).
-/
namespace Sys2Proof.Machine

open Sys2Proof

/-- The effect of a command's opcode, taken up where it waited. -/
def resumeCommand (op entry : Nat) (s : State) : Res :=
  match op with
  | 0x01 => execHostToStore entry s
  | 0x03 => execStoreCopy entry s
  | 0x0C => execMigrateIn entry s
  | 0x45 => execEmbUpdate entry s
  | 0x46 => execEmbWrite entry s
  | 0x48 => execEmbStepClose entry s
  | 0x68 => execVecInsert entry s
  | 0x69 => execVecDelete entry s
  | 0x84 => execRplInsert entry s
  | 0x86 => execRplUpdate entry s
  | 0x95 => execKvpAppend entry s
  | _ => .next s

/-- What waited at `granule` of this member's own engines or for other members goes on: an item of another member is served
again; a core's stream, a tree pass or a repair goes on with its own row. -/
def State.resumeItem (s : State) (id : Nat) : State :=
  match s.rack.held.find? fun (h : WorkItem × Nat) => h.1.waiter = id with
  | some h => s.receiveWork h.1
  | none => s

/-- JOURNAL_WAIT_RESUME (R213): a durable write that waited proceeds once the journal has room. -/
def execJournalWaitResume (entry : Option Nat) (granule : Nat) (s : State) : Res :=
  if !(s.store.journalWaits.any fun w => w.entry = entry && w.granule = granule) || !s.journalRoom [granule] then .next s
  else
    let s := s.endJournalWait entry granule
    match entry with
    | none => .next (s.advanceTxn granule)
    | some id =>
      match s.entry? id with
      | some e => if e.accepted && e.phase = .accepted && e.stop.isNone then resumeCommand (pkOpcode e.packet) id s else .next s
      | none => .next (s.resumeItem id)

/-! ### Copies that come back (R413, R414, R416) -/

def execWb (port : Nat) (msg : List Byte) (s : State) : Res := .next (s.recvRaw .wb port msg).releaseHeld
def execInvAck (port : Nat) (msg : List Byte) (s : State) : Res := .next (s.recvInvAnswer port msg none).releaseHeld
def execInvData (port : Nat) (msg : List Byte) (s : State) : Res :=
  .next (s.recvInvAnswer port msg (some (sub msg 16 128))).releaseHeld

/-- The request at the head of a granule's queue begins (R413); until it can, it stays queued. -/
def execCohTransactionStart (granule : Nat) (s : State) : Res :=
  match s.coh.queue.find? fun q => q.granule = granule with
  | none => .next s
  | some r =>
    match s.beginTxn r with
    | (s1, true) => .next { s1 with coh := { s1.coh with queue := s1.coh.queue.filter fun q => q.id != r.id } }.releaseHeld
    | (s1, false) => .next s1

/-- An INV to an endpoint index was not answered in time (R416, R421). -/
def execSnoopTimeout (index granule : Nat) (s : State) : Res :=
  if (s.coh.invs.any fun i => i.index = index && i.granule = granule) && (s.agent index).state == .live then
    .next (s.agentDies index true).releaseHeld
  else .next s

/-- COH_AGENT_CTRL.DECLARE (R421, R542). -/
def execCohAgentDeclare (src index : Nat) (s : State) : Res :=
  if s.mayAdminister src && (s.agent index).state == .live then .next (s.agentDies index false).releaseHeld else .next s

/-! ### Frames of the write buffer (R189, R194) -/

/-- A frame of the write buffer is free: raw writes and items that waited for one go on. -/
def State.bufferFreed (s : State) : State :=
  ((s.coh.txns.filter fun t => !t.answered).foldl (fun (s : State) t => s.advanceTxn t.req.granule) s).releaseHeld

/-- The directory switches (R197): the page stands where its move took it; a raise that finds the channel short is not
done and counts (R194). -/
def execMoveDirectorySwitch (page : Nat) (s : State) : Res :=
  match s.store.moves.find? fun m => m.page = page with
  | none => .next s
  | some m =>
    -- a page with a held granule is not switched (R231)
    if s.pageHeld page then .next s else
    let s := { s with store := { s.store with moves := s.store.moves.erase m } }
    let s := s.pulse 0x1C0 (channelOf s.salt s.width (page * 4096) m.target.channels)
    if m.home then .next (s.programPage page).bufferFreed
    else if !m.target.within (s.slab (page * 4096)).ceiling then .next s
    else match s.raisePage page m.target with
      | (s, true) => .next s
      | (s, false) => .next (((s.count F.TIER_CHAIR_DROPS).count F.TIER_FALLBACK_COUNT).raise F.TIER_EVENT_CHAIR_DROP)

end Sys2Proof.Machine
end

