-- ==== Sys2Proof/Machine/Bus.lean ====
section
/-!
DEFINITION. Accesses of registers as a function's bus brings them (R6, R7): one register, the two of an aligned 64-bit access,
the bytes of a narrower read; what else there is changes nothing and reads 0.
-/
namespace Sys2Proof.Machine

open Sys2Proof

/-! ### Writes -/

/-- A write of a CMDQ register (R90): doorbells, CMDQ_ABORT, CMDQ_RELEASE. -/
def queueWrite (src off : Nat) (value : Word) (s : State) : Res :=
  if off < 0x3FF8 then
    if off % 8 = 0 then execSqTailDoorbell src (off / 8) (bf value 15 0) s
    else execCqHeadDoorbell src (off / 8) (bf value 15 0) s
  else if off = 0x4000 then
    if bit value 11 then execAbortAllQp src (bf value 10 0) s else execAbortQtag src (bf value 10 0) (bf value 31 16) s
  else if off = 0x4008 || off = 0x400C then execResultRelease src [value.toNat] s
  else .next s

/-- Do the first of two commands when its bit is written, else the second when its own is. -/
def firstOf (value : Word) (a b : Nat) (f g : State → Res) (s : State) : Res :=
  if bit value a then f s else if bit value b then g s else .next s

/-- A write of one whole register: the command that the register stands for, else its fields by their access codes. -/
def busWrite (src off : Nat) (value : Word) (s : State) : Res :=
  let on (i : Nat) (f : State → Res) : Res := if bit value i then f s else .next s
  if off < 0x100000 then queueWrite src off value s
  else if isEventEn off then execEventEnWrite src off value s
  else if off = F.FN_QP_CTRL_ENABLE.off then firstOf value 1 0 (execQpDisable src) (execQpEnable src) s
  else if off = F.FN_ADM_SEL_FUNC.off then execFnAdmSelWrite src (bf value F.FN_ADM_SEL_FUNC.hi F.FN_ADM_SEL_FUNC.lo) s
  else if off = F.FN_ADM_APPLY_APPLY.off then on 0 (execFnAdmApply src)
  else if off = F.FN_HXL_SEL_PORT.off then execFnHxlSelWrite src (bf value F.FN_HXL_SEL_PORT.hi F.FN_HXL_SEL_PORT.lo) s
  else if off = F.FN_HXL_APPLY_APPLY.off then on 0 (execFnHxlApply src)
  else if off = F.PST_ALIGN_CTRL_ALIGN_EN.off then execAlignCtrlWrite src value s
  else if off = F.PST_LOAD_LOAD.off then on 0 (execPstImageLoad src)
  else if off = F.PST_SWITCH_CTRL_ARM.off then firstOf value 1 0 (execPstSwitchCancel src) (execPstSwitchArm src) s
  else if off = F.XLT_CTX_SEL_CTX.off then execXltCtxSelWrite src (bf value F.XLT_CTX_SEL_CTX.hi F.XLT_CTX_SEL_CTX.lo) s
  else if off = F.XLT_SEG_SEL_SEG.off then execXltSegSelWrite src (bf value F.XLT_SEG_SEL_SEG.hi F.XLT_SEG_SEL_SEG.lo) s
  else if off = F.XLT_APPLY_CTX.off then firstOf value 0 1 (execXltApplyCtx src (bit value 1)) (execXltApplySeg src false) s
  else if off = F.XLT_ATC_FLUSH_PORT0.off then execXltAtcFlush src (bit value 0) (bit value 1) s
  else if off = F.TIER_CTRL_LOCK.off then on 0 (execTierCtrlLock src)
  else if off = F.CORE_EXT_CTRL_LOAD.off then firstOf value 0 1 (execCoreExtLoad src) (execCoreExtRemove src) s
  else if off = F.HXL_PORT_CFG_EN.off then execHxlPortCfgWrite src value s
  else if off = F.HXL_PORT_CTRL_RETRAIN.off then firstOf value 1 0 (execHxlPortReset src) (execHxlPortRetrain src) s
  else if off = F.HXL_ROUTE_PORTS.off then execHxlRouteWrite src value s
  else if off = F.COH_AGENT_CTRL_INDEX.off then
    firstOf value 9 10 (execCohAgentDeclare src (bf value 8 0)) (execCohAgentRevive src (bf value 8 0)) s
  else if off = F.COH_PROBE_CTRL_PROBE.off then on 0 (execCohProbe src)
  else if off = F.GATE_BLK_SEL_BLOCK.off then execGateBlkSelWrite src (bf value F.GATE_BLK_SEL_BLOCK.hi F.GATE_BLK_SEL_BLOCK.lo) s
  else if off = F.GATE_BLK_APPLY_APPLY.off then on 0 (execGateBlkApply src)
  else if off = F.GATE_DBG_CTRL_READ.off then firstOf value 0 1 (execGateDbgRead src) (execGateDbgSet src) s
  else if off = F.ERR_SITZ_CTRL_UNFREEZE.off then firstOf value 0 1 (execErrSitzUnfreeze src) (execErrSitzClear src) s
  else if off = F.ERR_FIRST_CTRL_CLEAR.off then on 0 (execErrFirstClear src)
  else if off = F.ERR_UNIT_CTRL_ONLINE.off then on 0 (execErrUnitOnline src)
  else if off = F.ERR_INJ_CTRL_FIRE.off then on 0 (execErrInjFire src)
  else if off = F.SEC_SVN_CTRL_COMMIT.off then on 0 (execSecSvnCommit src)
  else if off = F.SEC_LC_CTRL_PROVISION.off then on 0 (execSecLcProvision src true)
  else if off = F.SEC_TOKEN_CTRL_SUBMIT.off then
    if bit value 0 then execSecTokenSubmit src s else firstOf value 1 2 (execSecNewNonce src) (execSecTokenLower src) s
  else if off = F.SEC_PWR_CTRL_TARGET.off then
    match bf value 2 0 with
    | 0 => execSecPwrTargetRun src s
    | 2 => execSecPwrTargetRest src s
    | 3 => execSecPwrTargetStandby src s
    | _ => .next s
  else if off = F.PWR_CTRL_CLEAR_MINMAX.off then firstOf value 0 1 (execPwrClearMinmax src) (execPwrClearBrace src) s
  else if off = F.CLK_SSC_DEPTH.off then execClkSscWrite src value s
  else if off = F.MGT_METER_CTRL_SNAP.off then on 0 (execMgtMeterSnap src)
  else if off = F.PMC_CTRL_SNAP.off then .next (s.pmcCtrl src (bit value 0) (bit value 1) (bit value 2) (bit value 3))
  else if off = F.PMC_OWNER_FUNC.off then execPmcOwnerWrite src value s
  else if off = F.PMC_V_CTRL_SNAP.off then .next (s.pmcOwnCtrl src (bit value 0) (bit value 1) (bit value 2))
  else .next (s.writeRegister src off value)

/-- REGISTER_WRITE (R6, R7, R8): an aligned 32-bit write writes one register, an aligned 64-bit write two, the lower first; a
write of any other width or place is discarded. -/
def execRegisterWrite (src addr len : Nat) (value : BitVec 64) (s : State) : Res :=
  if len = 4 && addr % 4 = 0 then busWrite src addr (BitVec.ofNat 32 value.toNat) s
  else if len = 8 && addr % 8 = 0 then
    match busWrite src addr (BitVec.ofNat 32 value.toNat) s with
    | .next t => busWrite src (addr + 4) (BitVec.ofNat 32 (value.toNat / 2 ^ 32)) t
    | o => o
  else .next s

/-! ### Reads -/

/-- A function's registers stand at an address: its own windows, and for a physical function the blocks' (R24, R38). -/
def seesReg (src off : Nat) : Bool := decide (src < 128) && (isOwnWindow off || src % 64 = 0)

/-- What a read of a register does beside answering its word: the high word of a count is latched (R140, R365, R577, R619). -/
def State.latch (s : State) (src off : Nat) : State :=
  if off = F.PST_FRAME_LO_FRAME.off then s.setFld F.PST_FRAME_HI (s.frame / 2 ^ 32)
  else if off = F.RPL_BUF_HEAD_LO_HEAD.off then
    s.setFld F.RPL_BUF_HEAD_HI_HEAD (((s.rplBuffer (s.fld F.RPL_BUF_SEL_BUFFER)).map (·.head)).getD 0 / 2 ^ 32)
  else if off = F.PWR_ENERGY_LO_MJ.off then s.setFld F.PWR_ENERGY_HI_MJ (s.sys.energy / 100 / 2 ^ 32)
  else if off = F.PMC_VALUE_LO_VALUE.off then
    { s with mgt := { s.mgt with pmcHi := (s.pmc (s.fld F.PMC_SEL_COUNTER)).value / 2 ^ 32 } }
  else if 0xE0C000 ≤ off ∧ off < 0xE0C400 ∧ off % 32 = 8 then
    match s.ownedPmc src ((off - 0xE0C000) / 32) with
    | none => s
    | some (_, x) =>
      { s with mgt := { s.mgt with pmcVHi := s.mgt.pmcVHi.set (32 * src + (off - 0xE0C000) / 32) (x.value / 2 ^ 32) } }
  else s

/-- A read of one whole register, with its side effect. -/
def State.readWord (s : State) (src off : Nat) : State × Nat :=
  if seesReg src off then (s.latch src off, (s.readReg src off).toNat) else (s, 0)

/-- A read of some bytes (R6, R7): two registers, the lower first; the addressed bytes of one; else 0, and nothing happens. -/
def State.readAt (s : State) (src addr len : Nat) : State × Nat :=
  if len = 8 && addr % 8 = 0 then
    let lo := s.readWord src addr
    let hi := lo.1.readWord src (addr + 4)
    (hi.1, lo.2 + 2 ^ 32 * hi.2)
  else if 0 < len && addr % 4 + len ≤ 4 then
    let w := s.readWord src (addr / 4 * 4)
    (w.1, w.2 / 2 ^ (8 * (addr % 4)) % 2 ^ (8 * len))
  else (s, 0)

/-- A read by a function, which returns its data. -/
def busRead (src addr len : Nat) (s : State) : Res :=
  .next ((s.readAt src addr len).1.emit (.readData (s.readAt src addr len).2))

/-- The access has a byte of the register. -/
def touches (reg addr len : Nat) : Bool := decide (addr < reg + 4) && decide (reg < addr + len)

/-- A read whose bytes are of a register that has a row of its own. -/
def State.readOf (s : State) (reg src addr len : Nat) : Res := if touches reg addr len then busRead src addr len s else .next s

/-- PST_FRAME_LO_READ (R140): the frame number's low word; its high word is latched. -/
def execPstFrameLoRead (src addr len : Nat) (s : State) : Res := s.readOf F.PST_FRAME_LO_FRAME.off src addr len

/-- PWR_ENERGY_LO_READ (R577): the low word of the energy count in mJ; its high word is latched. -/
def execPwrEnergyLoRead (src addr len : Nat) (s : State) : Res := s.readOf F.PWR_ENERGY_LO_MJ.off src addr len

/-- RPL_BUF_HEAD_LO_READ (R365): HEAD of the selected buffer; its high word is latched. -/
def execRplBufHeadLoRead (src addr len : Nat) (s : State) : Res := s.readOf F.RPL_BUF_HEAD_LO_HEAD.off src addr len

/-- The registers that show a count's low word: PMC_VALUE_LO, and PMC_V_VALUE_LO of each virtual counter (R619, R626). -/
def isCountLo (off : Nat) : Bool :=
  off = F.PMC_VALUE_LO_VALUE.off || (decide (0xE0C000 ≤ off) && decide (off < 0xE0C400) && off % 32 = 8)

/-- PMC_VALUE_LO_READ (R619, R626): the live count of the selected counter, or of a function's own; its upper part is latched. -/
def execPmcValueLoRead (src off addr len : Nat) (s : State) : Res :=
  if isCountLo off then s.readOf off src addr len else .next s

end Sys2Proof.Machine
end

