-- ==== Sys2Proof/Machine/Jtag.lean ====
section
/-!
DEFINITION. Debug access through JTAG (R547, R553 to R555, R592): what each debug level and power state lets the Ranward debug
instruction do.
-/
namespace Sys2Proof.Machine

open Sys2Proof

/-! ### Debug access -/

/-- Data of a composition may be read (R547): that of SEC_DBG_COMP at INVASIVE, every composition's at MAKER. -/
def State.debugMayRead (s : State) (comp : Nat) : Bool :=
  s.sys.debug == .maker || (s.sys.debug == .invasive && s.sys.dbgComp = comp)

/-- The store, the Pocket and walk memory are open to debug access in RUN and GLIDE (R554). -/
def State.debugData (s : State) : Bool := s.sys.vin12 && (s.sys.power == .run || s.sys.power == .glide)

/-- Scan may run (R555): the member is neither ACTIVE nor SPARE, and no command is in flight. -/
def State.mayScan (s : State) : Bool :=
  s.sys.debug == .maker && s.debugData && !s.inRack && (s.entriesWhere fun _ e => e.holds).isEmpty

/-- IDCODE: its version field [31:28] is 1; the spec gives no other field. -/
def State.idcode (s : State) : Nat := 0x10000000 + Config.openValue s.fresh % 0x10000000

/-- JTAG_DEBUG_ACCESS (R547, R554, R555, R592): an access that the level or the power state does not grant has no effect. An access
shows that TRST_n is deasserted. -/
def execJtagDebugAccess (access : JtagAccess) (s : State) : Res :=
  let s := { s with sys := { s.sys with trst := false } }
  let dbg : State := { s with sys := { s.sys with tapIr := 1 } }
  let up : Bool := s.inService && s.sys.vin12
  let observe : Bool := up && s.sys.debug != .quiet
  let invasive : Bool := up && (s.sys.debug == .invasive || s.sys.debug == .maker)
  if s.sys.power = .off then .next s
  else match access with
  | .bypass => .next { s with sys := { s.sys with tapIr := 3 } }
  | .idcode => .next ({ s with sys := { s.sys with tapIr := 0 } }.emit (.readData s.idcode)).tickFresh
  | .boundary => .next (if up then { s with sys := { s.sys with tapIr := 3 } } else s)
  | .readReg port addr len => if observe && port < 2 then busRead (64 * port) addr len dbg else .next s
  | .writeReg port addr len value =>
    if invasive && port < 2 && s.mayAdminister (64 * port) then execRegisterWrite (64 * port) addr len value dbg else .next s
  | .readPocket c a =>
    let comp := ((s.edge c).run.map (·.inv.comp)).getD (((s.edge c).last.map (·.2)).getD 0)
    if s.debugData && s.debugMayRead comp then .next (dbg.emit (.readData (leNat ((s.edge c).bytes a 8)))) else .next s
  | .readWalk w _ =>
    let comp := ((s.vec.walks.find? w).bind fun x => s.entry? x.entry).map fun e => pkComp e.packet
    if s.debugData && s.debugMayRead (comp.getD 0) then
      .next (dbg.emit (.readData (Config.openValue s.fresh))).tickFresh
    else .next s
  | .readGranule a =>
    if s.debugData && s.storeUp && s.isHome a && s.debugMayRead ((s.slab a).comp.getD 0) then
      match dbg.checkRead (a / 128) with
      | (t, none) => .next (t.emit (.readData (leNat (t.bytes (a / 128 * 128) 128))))
      | (t, some _) => .next t
    else .next s
  | .halt => .next (if invasive then { dbg with sys := { dbg.sys with halted := true } } else s)
  | .step => .next (if invasive && s.sys.halted then dbg else s)
  | .resume => .next (if invasive then { dbg with sys := { dbg.sys with halted := false } } else s)
  | .scan => .next (if s.mayScan then { s with sys := { s.sys with tapIr := 2, scanned := true } } else s)

end Sys2Proof.Machine
end

