-- ==== Sys2Proof/Machine/MgtOps.lean ====
section
/-!
DEFINITION. What every management request meets first (R603 to R605, R531): which endpoint answers, and a secured session.
Response codes are those of the DMTF standards that R604 and R536 name (PRESUMED).
-/
namespace Sys2Proof.Machine

open Sys2Proof

/-- The kinds of request that a part without a booted image tells apart (R531). -/
inductive AskKind where
  | plain | update | version
  deriving DecidableEq, Repr

/-- An endpoint answers (R603, R605, R531): 0 I3C, 1 and 2 the PCIe ports. -/
def State.answers (s : State) (ep : Nat) (kind : AskKind) : Bool :=
  if ep = 0 then s.sys.power != .off && (decide (s.sys.bootErr < 2) || kind != .plain)
  else
    decide (ep < 3) && (s.sys.power == .run || s.sys.power == .glide || s.sys.power == .rest) &&
      decide (4 ≤ s.fld F.CLK_STARTUP_STAGE) && !(s.sys.perst.getD (ep - 1) false) &&
      decide (s.sys.bootErr < 2) && (s.sys.lc != .sealed || s.sys.adminPorts.testBit (ep - 1))

/-- A response of the responder on an endpoint. -/
def State.respondOn (s : State) (ep code : Nat) (data : List Byte) : State := s.emit (.response ep code data)

/-- A request that asks for something and changes nothing. -/
def State.askOn (s : State) (ep : Nat) (code : Nat) (data : List Byte) : Res :=
  if s.answers ep .plain then .next (s.respondOn ep code data) else .next s

/-- A finished session of an endpoint (R536). -/
def State.sessionOpen (s : State) (ep id : Nat) : Bool :=
  if 16 ≤ ep then (s.port (ep - 16)).session
  else s.mgt.sessions.any fun x => x.id = id && x.endpoint = ep && x.finished

/-- A PLDM type 5 request may be taken (R605): in SEALED only as a secured message of a session. -/
def State.mayUpdate (s : State) (ep : Nat) (session : Option Nat) : Bool :=
  s.answers ep .update && (s.sys.lc != .sealed || session.any fun id => s.sessionOpen ep id)

/-! Completion codes of DSP0240 and DSP0267 (PRESUMED). -/

namespace Cc
abbrev success := 0x00
abbrev error := 0x01
abbrev invalidData := 0x02
abbrev invalidLength := 0x03
abbrev notInUpdateMode := 0x80
abbrev alreadyInUpdateMode := 0x81
abbrev invalidState := 0x84
abbrev incompleteUpdate := 0x85
abbrev selfContained := 0x8C
/-- a sensor, record or type the terminus does not have -/
abbrev unknownId := 0x80
end Cc

end Sys2Proof.Machine
end

