-- ==== Sys2Proof/Machine/Mgt.lean ====
section
/-!
DEFINITION. The management endpoints (spec/18_management_and_counters.md, R603 to R611): MCTP control, PLDM base, monitoring,
firmware update, and the Ranward OEM commands. Layouts of payloads that the spec leaves to the standards are the model's.
-/
namespace Sys2Proof.Machine

open Sys2Proof

/-! ### I3C and MCTP (R603, R604) -/

/-- ENTDAA: the provisional ID is formed from DIE_ID[47:0]; the bus assigns the address. -/
def execEntdaa (addr : Nat) (s : State) : Res :=
  if s.sys.power = .off then .next s
  else
    .next ({ s with mgt := { s.mgt with i3cAddr := some (addr % 128) } }.respondOn 0 Cc.success (toLe 6 (Config.dieId % 2 ^ 48)))

/-- Set Endpoint ID; IDs 0 to 7 and 255 are not assignable (PRESUMED, DSP0236). -/
def execSetEndpointId (ep eid : Nat) (s : State) : Res :=
  if !s.answers ep .plain then .next s
  else if eid < 8 || 255 ≤ eid then .next (s.respondOn ep Cc.invalidData [])
  else .next ({ s with mgt := { s.mgt with eids := s.mgt.eids.set ep (some eid) } }.respondOn ep Cc.success (toLe 1 eid))

def execGetEndpointId (ep : Nat) (s : State) : Res :=
  s.askOn ep Cc.success (toLe 1 ((s.mgt.eids.getD ep none).getD 0))

/-- Get Endpoint UUID: the same at every endpoint (R603). -/
def execGetEndpointUuid (ep : Nat) (s : State) : Res := s.askOn ep Cc.success (Config.endpointUuid Config.dieId)

/-- MCTP base 1.3 (R604). -/
def execGetMctpVersionSupport (ep : Nat) (s : State) : Res := s.askOn ep Cc.success [1, 3]

/-- Message types 0x00, 0x01, 0x05 and 0x06 (R604). -/
def execGetMessageTypeSupport (ep : Nat) (s : State) : Res := s.askOn ep Cc.success [0x00, 0x01, 0x05, 0x06]

/-! ### PLDM base (R604) -/

def execGetTid (ep : Nat) (s : State) : Res := s.askOn ep Cc.success (toLe 1 s.mgt.tid)

/-- SetTID; 0 and 255 are no terminus IDs (PRESUMED, DSP0240). -/
def execSetTid (ep tid : Nat) (s : State) : Res :=
  if !s.answers ep .plain then .next s
  else if tid = 0 || 255 ≤ tid then .next (s.respondOn ep Cc.invalidData [])
  else .next ({ s with mgt := { s.mgt with tid := tid } }.respondOn ep Cc.success [])

/-- The PLDM types (R604). -/
def pldmTypes : List Nat := [0, 2, 5, 63]

/-- The commands of a type (R604, R606), by the numbers of the DMTF standards (PRESUMED). -/
def pldmCommands : Nat → List Nat
  | 0 => [0x01, 0x02, 0x03, 0x04, 0x05]
  | 2 => [0x04, 0x0A, 0x0B, 0x11, 0x21, 0x50, 0x51]
  | 5 => [0x01, 0x02, 0x10, 0x13, 0x14, 0x15, 0x16, 0x17, 0x18, 0x1A, 0x1B, 0x1C, 0x1D]
  | 63 => [0x01, 0x02, 0x03, 0x04]
  | _ => []

/-- A list of numbers as a bit mask of `n` bytes. -/
def pldmMask (n : Nat) (l : List Nat) : List Byte := toLe n (l.map fun i => 2 ^ i).sum

/-- GetPLDMVersion: the spec gives no version of a type. -/
def execGetPldmVersion (ep type : Nat) (s : State) : Res :=
  if pldmTypes.contains type then s.askOn ep Cc.success (toLe 4 (Config.openValue type)) else s.askOn ep Cc.unknownId []

def execGetPldmTypes (ep : Nat) (s : State) : Res := s.askOn ep Cc.success (pldmMask 8 pldmTypes)

def execGetPldmCommands (ep type : Nat) (s : State) : Res :=
  if pldmTypes.contains type then s.askOn ep Cc.success (pldmMask 32 (pldmCommands type)) else s.askOn ep Cc.unknownId []

/-! ### Monitoring (R607, R608) -/

/-- The sensors: 1 to 26 numeric, 32 to 37 state sensors. -/
def sensorIds : List Nat := (List.range 26).map (· + 1) ++ (List.range 6).map (· + 32)

def execGetPdrRepositoryInfo (ep : Nat) (s : State) : Res := s.askOn ep Cc.success (toLe 4 sensorIds.length)

/-- GetPDR: the record of a sensor; sensor 1 carries 100 °C and 115 °C as its upper warning and upper fatal thresholds, in its
unit of 0.125 °C (R607, R657, R658). -/
def execGetPdr (ep record : Nat) (s : State) : Res :=
  if !sensorIds.contains record then s.askOn ep Cc.unknownId []
  else
    let kind := b2n (decide (32 ≤ record))
    s.askOn ep Cc.success (toLe 2 record ++ toLe 1 kind ++ (if record = 1 then toLe 2 800 ++ toLe 2 920 else []))

/-- A sensor other than those of the island reads from step 4 of start-up, and not in STANDBY (R607). -/
def State.sensorReads (s : State) (sensor : Nat) : Bool :=
  sensor = 24 || decide (32 ≤ sensor) ||
    ((s.sys.power == .run || s.sys.power == .glide || s.sys.power == .rest) && decide (4 ≤ s.fld F.CLK_STARTUP_STAGE))

/-- The last completed update of a numeric sensor (R607): `vstby` is what the island's monitor measures, in mV. -/
def State.numericSensor (s : State) (sensor vstby : Nat) : Nat :=
  if sensor = 1 then s.sys.dieTemp
  else if sensor ≤ 5 then s.store.devTemp.getD (sensor - 2) 0
  else if sensor ≤ 21 then s.store.devTemp.getD (64 + (sensor - 6)) 0
  else match sensor with
  | 22 => s.fld F.PWR_VIN_MV
  | 23 => s.fld F.PWR_POWER_AVG_1MS
  | 24 => vstby
  | 25 => s.sys.energy / 100000
  | _ => s.fld F.PWR_EFF_CAP

/-- GetSensorReading: operational state (0 enabled, 2 unavailable; PRESUMED, DSP0248), then the reading. -/
def execGetSensorReading (ep sensor vstby : Nat) (s : State) : Res :=
  if sensor = 0 || 26 < sensor then s.askOn ep Cc.unknownId []
  else if s.sensorReads sensor then s.askOn ep Cc.success (toLe 1 0 ++ toLe 8 (s.numericSensor sensor vstby))
  else s.askOn ep Cc.success (toLe 1 2)

def execGetStateSensorReadings (ep sensor : Nat) (s : State) : Res :=
  if sensor < 32 || 37 < sensor then s.askOn ep Cc.unknownId []
  else s.askOn ep Cc.success (toLe 1 0 ++ toLe 1 (s.stateSensors.getD (sensor - 32) 0))

/-- SetEventReceiver (R608): a later one replaces an earlier one of the same endpoint. -/
def execSetEventReceiver (ep receiver : Nat) (s : State) : Res :=
  if !s.answers ep .plain then .next s
  else
    .next ({ s with mgt := { s.mgt with receivers := s.mgt.receivers.set ep (some receiver) } }.respondOn ep Cc.success [])

/-- PollForPlatformEventMessage (R608): the oldest queued event of the endpoint. -/
def execPollForPlatformEventMessage (ep : Nat) (s : State) : Res :=
  if !s.answers ep .plain then .next s
  else match s.mgt.queues.getD ep [] with
  | [] => .next (s.respondOn ep Cc.success [])
  | (sensor, value) :: rest =>
    .next ({ s with mgt := { s.mgt with queues := s.mgt.queues.set ep rest } }.respondOn ep Cc.success
      (toLe 2 sensor ++ toLe 1 value))

/-! ### Firmware update (R609 to R611) -/

/-- A type 5 request, answered with a code. -/
def State.updateRow (s : State) (ep : Nat) (session : Option Nat) (f : State → State) : Res :=
  if s.mayUpdate ep session then .next (f s) else .next s

/-- The spec gives no identifiers. -/
def execQueryDeviceIdentifiers (ep : Nat) (session : Option Nat) (s : State) : Res :=
  s.updateRow ep session fun s => (s.respondOn ep Cc.success (toLe 8 (Config.openValue s.fresh))).tickFresh

/-- GetFirmwareParameters: the component 0x7220 with the VERSION booted, and the VERSION written last (R609). -/
def execGetFirmwareParameters (ep : Nat) (session : Option Nat) (s : State) : Res :=
  s.updateRow ep session fun s =>
    s.respondOn ep Cc.success (toLe 2 0x7220 ++ toLe 4 s.sys.fwVersion ++ toLe 4 s.mgt.fwVersion)

/-- An image slot without a valid header. -/
def noImage : BootImage := { version := 0, svn := 0, headerOk := false, bodyOk := false, recipes := [] }

def State.setSlotImage (s : State) (slot : Nat) (x : BootImage) : State :=
  { s with sys := { s.sys with slotNow := s.sys.slotNow.set slot (some x) } }

def State.setUpdate (s : State) (u : Option Update) : State := { s with mgt := { s.mgt with update := u } }

/-- RequestUpdate (R609 step 1, R611): the header of the slot that was not booted is erased. -/
def execRequestUpdate (ep : Nat) (session : Option Nat) (maxTransfer : Nat) (s : State) : Res :=
  s.updateRow ep session fun s =>
    if s.mgt.update.isSome then s.respondOn ep Cc.alreadyInUpdateMode []
    else
      let slot := 1 - s.sys.bootSlot
      let s := (s.setSlotImage slot noImage).setUpdate (some { endpoint := ep, slot := slot, maxTransfer := maxTransfer })
      ({ s with mgt := { s.mgt with lastSlot := slot } }.raise F.MGT_EVENT_FWUP).respondOn ep Cc.success []

/-- PassComponentTable (R609): the package names the one component, classification Firmware, identifier 0x7220. -/
def execPassComponentTable (ep : Nat) (session : Option Nat) (firmware : Bool) (identifier : Nat) (s : State) : Res :=
  s.updateRow ep session fun s =>
    match s.mgt.update with
    | none => s.respondOn ep Cc.notInUpdateMode []
    | some u =>
      if u.state != .update then s.respondOn ep Cc.invalidState []
      else if !firmware || identifier != 0x7220 then s.respondOn ep Cc.success [1]
      else (s.setUpdate (some { u with listed := true })).respondOn ep Cc.success [0]

/-- UpdateComponent (R609 step 2): the transfer begins. -/
def execUpdateComponent (ep : Nat) (session : Option Nat) (version size : Nat) (s : State) : Res :=
  s.updateRow ep session fun s =>
    match s.mgt.update with
    | none => s.respondOn ep Cc.notInUpdateMode []
    | some u =>
      if u.state != .update || !u.listed then s.respondOn ep Cc.invalidState []
      else
        let s := s.setUpdate (some { u with state := .download, version := version, size := size, got := 0 })
        ({ s with mgt := { s.mgt with fwVersion := version } }).respondOn ep Cc.success []

/-- The image is valid under R530 and newer than the one that runs (R609 step 3). -/
def State.imageAccepted (s : State) (x : BootImage) : Bool :=
  s.headerValid x && x.bodyOk && decide (s.sys.fwVersion < x.version)

/-- FIRMWARE_DATA_CHUNK (R609 steps 2 to 4): a chunk is written; with the last one the image is verified, its header written,
and the outcome told. `image` is what the slot holds then. -/
def execFirmwareDataChunk (ep : Nat) (session : Option Nat) (len : Nat) (image : BootImage) (s : State) : Res :=
  s.updateRow ep session fun s =>
    match s.mgt.update with
    | none => s
    | some u =>
      if u.state != .download || u.endpoint != ep || u.maxTransfer < len then s
      else if u.got + len < u.size then s.setUpdate (some { u with got := u.got + len })
      else if !s.imageAccepted image then (s.dropUpdate 2).respondOn ep Cc.error [0x17]
      else
        let s := (s.setSlotImage u.slot image).setUpdate (some { u with state := .ready, got := u.size })
        let s := { s with mgt := { s.mgt with lastResult := 1, lastSlot := u.slot, fwVersion := image.version } }
        ((s.raise F.MGT_EVENT_FWUP).respondOn ep Cc.success [0x17]).respondOn ep Cc.success [0x18]

/-- ActivateFirmware (R610): the method is "system reboot"; activation awaits STANDBY. Self-contained activation is not
supported (R604). -/
def execActivateFirmware (ep : Nat) (session : Option Nat) (selfContained : Bool) (s : State) : Res :=
  s.updateRow ep session fun s =>
    match s.mgt.update with
    | none => s.respondOn ep Cc.notInUpdateMode []
    | some u =>
      if u.state != .ready then s.respondOn ep Cc.incompleteUpdate []
      else if selfContained then s.respondOn ep Cc.selfContained []
      else
        let s := { s with mgt := { s.mgt with update := none, activate := true } }
        (s.raise F.MGT_EVENT_FWUP).respondOn ep Cc.success []

/-- GetStatus: the state as MGT_FWUP.STATE gives it, and the last result. -/
def execGetStatus (ep : Nat) (session : Option Nat) (s : State) : Res :=
  s.updateRow ep session fun s =>
    s.respondOn ep Cc.success (toLe 1 ((s.mgt.update.map (·.state.code)).getD 0) ++ toLe 1 s.mgt.lastResult)

/-- CancelUpdateComponent (R611): the slot stays without a header, the device stays in update mode. -/
def execCancelUpdateComponent (ep : Nat) (session : Option Nat) (s : State) : Res :=
  s.updateRow ep session fun s =>
    match s.mgt.update with
    | none => s.respondOn ep Cc.notInUpdateMode []
    | some u =>
      if u.state != .download then s.respondOn ep Cc.invalidState []
      else
        let s := s.setUpdate (some { u with state := .update, got := 0 })
        ({ s with mgt := { s.mgt with lastResult := 3 } }.raise F.MGT_EVENT_FWUP).respondOn ep Cc.success []

/-- CancelUpdate (R611). -/
def execCancelUpdate (ep : Nat) (session : Option Nat) (s : State) : Res :=
  s.updateRow ep session fun s =>
    if s.mgt.update.isNone then s.respondOn ep Cc.notInUpdateMode [] else (s.dropUpdate 3).respondOn ep Cc.success []

/-! ### The Ranward OEM commands (R606) -/

/-- READ_SITZMARK: the entry, 0 the newest, followed by ERR_SITZ_STATUS. -/
def execReadSitzmark (ep entry : Nat) (s : State) : Res :=
  if 63 < entry then s.askOn ep Cc.invalidData []
  else s.askOn ep Cc.success (bvBytes (s.err.sitz.getD entry 0) 0 32 ++ bvBytes (s.readReg 0 F.ERR_SITZ_STATUS_VALID.off) 0 4)

/-- READ_FIRST: the eight words of ERR_FIRST. -/
def execReadFirst (ep : Nat) (s : State) : Res := s.askOn ep Cc.success (bvBytes (s.err.first.getD 0) 0 32)

/-- READ_RETURN: 1 to 192 bytes within the return record (R545). -/
def execReadReturn (ep off len : Nat) (s : State) : Res :=
  if len = 0 || 192 < len then s.askOn ep Cc.invalidLength []
  else if s.sys.returnRecord.length < off + len then s.askOn ep Cc.invalidData []
  else s.askOn ep Cc.success (sub s.sys.returnRecord off len)

/-- READ_REG: a register of the MGT, PWR, CLK, ERR or SEC window, read as the physical function of port 0 reads it, with what the
read does beside (R577, R619). -/
def execReadReg (ep off : Nat) (s : State) : Res :=
  if !s.answers ep .plain then .next s
  else if [10, 11, 12, 13, 14].contains (off / 0x100000) && off % 4 = 0 then
    .next ((s.readWord 0 off).1.respondOn ep Cc.success (toLe 4 (s.readWord 0 off).2))
  else .next (s.respondOn ep Cc.invalidData [])

end Sys2Proof.Machine
end

