-- ==== Sys2Proof/Machine/Spdm.lean ====
section
/-!
DEFINITION. The SPDM responder (R536 to R538): endpoints 0 to 2 are the management endpoints, 16 + p is HXL port p. Request and
error codes are those of DSP0274 (PRESUMED).
-/
namespace Sys2Proof.Machine

open Sys2Proof

/-- A request may be answered: over a management endpoint under R603 and R605, over a port that is in PARAM or ACTIVE. -/
def State.spdmOn (s : State) (ep : Nat) (kind : AskKind) : Bool :=
  if 16 ≤ ep then
    decide (ep < 32) && ((s.port (ep - 16)).state == .param || (s.port (ep - 16)).state == .active)
  else s.answers ep kind

/-- An ERROR response. -/
def State.spdmError (s : State) (ep code : Nat) : State := s.respondOn ep 0x7F [BitVec.ofNat 8 code]

def State.spdmStage (s : State) (ep : Nat) : Nat := s.mgt.spdm.getD ep 0
def State.setStage (s : State) (ep n : Nat) : State := { s with mgt := { s.mgt with spdm := s.mgt.spdm.set ep n } }

/-- A request that needs the negotiation to have reached a stage. -/
def State.spdmRow (s : State) (ep stage : Nat) (f : State → State) : Res :=
  if !s.spdmOn ep .plain then .next s
  else if s.spdmStage ep < stage then .next (s.spdmError ep 0x04)
  else .next (f s)

/-- A response that carries a value made with the part's keys. -/
def State.signed (s : State) (ep code : Nat) (data : List Byte) : State :=
  (s.respondOn ep code (data ++ Config.signature s.fresh)).tickFresh

/-! ### Negotiation -/

def execGetVersion (ep : Nat) (s : State) : Res :=
  if s.spdmOn ep .version then .next ((s.setStage ep 1).respondOn ep 0x04 [0x13]) else .next s

def execGetCapabilities (ep : Nat) (s : State) : Res :=
  s.spdmRow ep 1 fun s => (s.setStage ep 2).respondOn ep 0x61 (toLe 4 (Config.openValue 0))

/-- NEGOTIATE_ALGORITHMS: ECDSA P-384, SHA-384, ECDHE P-384 and AES-256-GCM, or nothing. -/
def execNegotiateAlgorithms (ep : Nat) (offered : Bool) (s : State) : Res :=
  s.spdmRow ep 2 fun s => if offered then (s.setStage ep 3).respondOn ep 0x63 [] else s.spdmError ep 0x01

/-! ### Certificates -/

/-- The chain of a certificate slot. -/
def State.certSlot (s : State) (slot : Nat) : Option (List Byte) :=
  match slot with
  | 0 => some Config.certChain
  | 1 => if s.mgt.cert1.isEmpty then none else some s.mgt.cert1
  | _ => none

def execGetDigests (ep : Nat) (s : State) : Res :=
  s.spdmRow ep 3 fun s =>
    let chains := (s.certSlot 0).toList ++ (s.certSlot 1).toList
    s.respondOn ep 0x01 ((chains.map sha384).flatten)

def execGetCertificate (ep slot off len : Nat) (s : State) : Res :=
  s.spdmRow ep 3 fun s =>
    match s.certSlot slot with
    | none => s.spdmError ep 0x01
    | some c => s.respondOn ep 0x02 ((c.drop off).take len)

/-- CHALLENGE: signed by the alias key. -/
def execChallenge (ep slot : Nat) (s : State) : Res :=
  s.spdmRow ep 3 fun s => if (s.certSlot slot).isNone then s.spdmError ep 0x01 else s.signed ep 0x03 []

def execGetCsr (ep : Nat) (s : State) : Res := s.spdmRow ep 3 fun s => s.signed ep 0x6D []

/-- SET_CERTIFICATE: slot 1, only in PROVISIONED, from a requester inside a session. -/
def execSetCertificate (ep session slot : Nat) (chain : List Byte) (s : State) : Res :=
  s.spdmRow ep 3 fun s =>
    if slot = 1 && s.sys.lc == .provisioned && s.sessionOpen ep session then
      ({ s with mgt := { s.mgt with cert1 := chain } }).respondOn ep 0x6E [1]
    else s.spdmError ep 0x04

/-! ### Measurements -/

/-- Measurement 1 to 8. -/
def State.measurement (s : State) (i : Nat) : List Byte :=
  let exts := s.core.slots.cells.filter fun c => decide (256 ≤ c.1)
  match i with
  | 1 => Config.digest [1]
  | 2 => Config.digest [2, s.sys.fwVersion, s.sys.imageSvn]
  | 3 => Config.digest [3, s.sys.fwVersion, s.sys.imageSvn]
  | 4 => Config.digest (4 :: (s.sys.residents.map fun r => r.1 :: r.2.map (·.toNat)).flatten)
  | 5 => if s.sys.manifest then Config.digest [5, s.sys.ownerHash] else List.replicate 48 0
  | 6 => Config.digest [6, s.sys.lc.code, (DebugLevel.code s.sys.debug), s.sys.dbgComp]
  | 7 => toLe 1 s.sys.svn ++ toLe 48 s.sys.ownerHash
  | _ => (exts.map fun c => sha384 c.2.recipe).flatten

/-- GET_MEASUREMENTS: index 0 asks for their number, 255 for all of them. -/
def execGetMeasurements (ep index : Nat) (sign : Bool) (s : State) : Res :=
  s.spdmRow ep 3 fun s =>
    let data : Option (List Byte) :=
      if index = 0 then some [8]
      else if index = 255 then some (((List.range 8).map fun i => s.measurement (i + 1)).flatten)
      else if index ≤ 8 then some (s.measurement index)
      else none
    match data with
    | none => s.spdmError ep 0x01
    | some d => if sign then s.signed ep 0x60 d else s.respondOn ep 0x60 d

/-! ### Sessions -/

/-- Sessions of the management endpoints, finished or not: at most 4 (R604). -/
def State.mgmtSessions (s : State) : Nat := (s.mgt.sessions.filter fun (x : Session) => decide (x.endpoint < 16)).length

/-- A port's session is wanted and due (R537): KIND 0 or 2, or KIND 1 that will encrypt, after a good PARAM. -/
def Port.wantsSession (x : Port) : Bool :=
  x.state == .param && x.paramOk && !x.session && (x.act.kind = 0 || x.act.kind = 2 || (x.act.kind = 1 && x.encOn))

/-- KEY_EXCHANGE, with mutual authentication. -/
def execKeyExchange (ep : Nat) (auth : Bool) (s : State) : Res :=
  s.spdmRow ep 3 fun s =>
    if !auth then s.spdmError ep 0x01
    else if ep < 16 && 4 ≤ s.mgmtSessions then s.spdmError ep 0x0A
    else if 16 ≤ ep && !(s.port (ep - 16)).wantsSession then s.spdmError ep 0x04
    else
      let id := s.mgt.nextSession
      let x : Session := { id := id, endpoint := ep }
      ({ s with mgt := { s.mgt with sessions := s.mgt.sessions ++ [x], nextSession := id + 1 } }).signed ep 0x64 (toLe 4 id)

/-- A session partner on a port is accepted (R538); a RETURNED part below MAKER accepts none (R544). -/
def State.acceptsPartner (s : State) (p : Nat) (x : Partner) : Bool :=
  if s.sys.lc == .returned && s.sys.debug != .maker then false
  else if (s.port p).act.kind = 1 then s.sys.lc != .sealed || (s.sys.epKey && x.epCaOk)
  else x.chainOk && (if s.sys.lc == .blank then x.blank else !x.blank && x.ownerHash = s.sys.ownerHash)

/-- The sessions without one. -/
def State.dropSession (s : State) (ep id : Nat) : State :=
  { s with mgt := { s.mgt with sessions := s.mgt.sessions.filter fun (x : Session) => !(x.id = id && x.endpoint = ep) } }

/-- The session of a port fails (R537, R538). -/
def State.portSessionFails (s : State) (p : Nat) : State :=
  let s := { s with mgt := { s.mgt with sessions := s.mgt.sessions.filter fun (x : Session) => x.endpoint != 16 + p } }
  (s.raise F.SEC_EVENT_SESSION_FAIL).failPort p 5

/-- FINISH: the partner is judged; on a port the session's keys are installed (R405, R538, R539). -/
def execFinish (ep session : Nat) (partner : Partner) (s : State) : Res :=
  if !s.spdmOn ep .plain then .next s
  else if !(s.mgt.sessions.any fun x => x.id = session && x.endpoint = ep && !x.finished) then .next (s.spdmError ep 0x04)
  else if ep < 16 then
    if !partner.chainOk then .next ((s.dropSession ep session).spdmError ep 0x06)
    else
      let done := mapIf (fun (x : Session) => x.id = session && x.endpoint = ep) (fun x => { x with finished := true })
        s.mgt.sessions
      .next ({ s with mgt := { s.mgt with sessions := done } }.respondOn ep 0x65 [])
  else
    let p := ep - 16
    if !s.acceptsPartner p partner then .next (s.portSessionFails p)
    else
      let s := s.dropSession ep session
      let x := s.port p
      .next ((s.setPort p { x with session := true, keysIn := x.encOn, nextKeyIn := x.encOn }).respondOn ep 0x65 [])

/-- SPDM_SESSION_TIMEOUT (R537): 20 ms have passed and the session is not complete. -/
def execSpdmSessionTimeout (port : Nat) (s : State) : Res :=
  if port < 16 && (s.port port).wantsSession then .next (s.portSessionFails port) else .next s

/-- A request inside a session. -/
def State.inSession (s : State) (ep session : Nat) (f : State → State) : Res :=
  if !s.spdmOn ep .plain then .next s
  else if s.sessionOpen ep session then .next (f s)
  else .next (s.spdmError ep 0x04)

def execSpdmHeartbeat (ep session : Nat) (s : State) : Res := s.inSession ep session fun s => s.respondOn ep 0x68 []

def execKeyUpdate (ep session : Nat) (s : State) : Res :=
  s.inSession ep session fun s =>
    let l := mapIf (fun (x : Session) => x.id = session && x.endpoint = ep) (fun x => { x with updates := x.updates + 1 })
      s.mgt.sessions
    ({ s with mgt := { s.mgt with sessions := l } }).respondOn ep 0x69 []

def execEndSession (ep session : Nat) (s : State) : Res :=
  s.inSession ep session fun s =>
    let s := if 16 ≤ ep then
        let x := s.port (ep - 16)
        s.setPort (ep - 16) { x with session := false, keysIn := false, nextKeyIn := false }
      else s.dropSession ep session
    s.respondOn ep 0x6C []

end Sys2Proof.Machine
end

