-- ==== Sys2Proof/Machine/Dispatch.lean ====
section
/-!
DEFINITION. The dispatch: each command runs its meaning.
-/
namespace Sys2Proof.Machine

open Sys2Proof

def exec (i : Instr) (s : State) : Host.Outcome State Fault Refusal :=
  match i with
  | .registerWrite src addr len value => Sys2Proof.Machine.execRegisterWrite src addr len value s
  | .eventEnWrite src off value => Sys2Proof.Machine.execEventEnWrite src off value s
  | .msixVectorUnmask func vec => Sys2Proof.Machine.execMsixVectorUnmask func vec s
  | .sqTailDoorbell src qp tail => Sys2Proof.Machine.execSqTailDoorbell src qp tail s
  | .cqHeadDoorbell src qp head => Sys2Proof.Machine.execCqHeadDoorbell src qp head s
  | .sqFetch src qp result packet => Sys2Proof.Machine.execSqFetch src qp result packet s
  | .intakeAccept entry result block => Sys2Proof.Machine.execIntakeAccept entry result block s
  | .barrierRelease entry => Sys2Proof.Machine.execBarrierRelease entry s
  | .work origin id epoch cls forwarded role slot kind addr data => Sys2Proof.Machine.execWork origin id epoch cls forwarded role slot kind addr data s
  | .workAnswer entry item kind status subcode begun result => Sys2Proof.Machine.execWorkAnswer entry item kind status subcode begun result s
  | .workCancel origin id => Sys2Proof.Machine.execWorkCancel origin id s
  | .workHold origin id => Sys2Proof.Machine.execWorkHold origin id s
  | .cancelResend entry => Sys2Proof.Machine.execCancelResend entry s
  | .commandComplete entry delivered => Sys2Proof.Machine.execCommandComplete entry delivered s
  | .cqCoalesceTimeout src qp => Sys2Proof.Machine.execCqCoalesceTimeout src qp s
  | .commandTimeout entry => Sys2Proof.Machine.execCommandTimeout entry s
  | .abortQtag src qp qtag => Sys2Proof.Machine.execAbortQtag src qp qtag s
  | .abortAllQp src qp => Sys2Proof.Machine.execAbortAllQp src qp s
  | .resultRelease src handles => Sys2Proof.Machine.execResultRelease src handles s
  | .qpEnable src => Sys2Proof.Machine.execQpEnable src s
  | .qpDisable src => Sys2Proof.Machine.execQpDisable src s
  | .functionLevelReset src => Sys2Proof.Machine.execFunctionLevelReset src s
  | .pcieLinkDown port => Sys2Proof.Machine.execPcieLinkDown port s
  | .fnAdmSelWrite src func => Sys2Proof.Machine.execFnAdmSelWrite src func s
  | .fnAdmApply src => Sys2Proof.Machine.execFnAdmApply src s
  | .fnHxlSelWrite src port => Sys2Proof.Machine.execFnHxlSelWrite src port s
  | .fnHxlApply src => Sys2Proof.Machine.execFnHxlApply src s
  | .frameBoundary => Sys2Proof.Machine.execFrameBoundary s
  | .slotIssue kind inst slot queue blocked => Sys2Proof.Machine.execSlotIssue kind inst slot queue blocked s
  | .pstImageLoad src => Sys2Proof.Machine.execPstImageLoad src s
  | .pstLoadDone result image => Sys2Proof.Machine.execPstLoadDone result image s
  | .pstSwitchArm src => Sys2Proof.Machine.execPstSwitchArm src s
  | .pstSwitchCancel src => Sys2Proof.Machine.execPstSwitchCancel src s
  | .tableSwitch => Sys2Proof.Machine.execTableSwitch s
  | .epoch port msg stamp => Sys2Proof.Machine.execEpoch port msg stamp s
  | .alignWindowEnd => Sys2Proof.Machine.execAlignWindowEnd s
  | .parentLost => Sys2Proof.Machine.execParentLost s
  | .holdoverExpiry => Sys2Proof.Machine.execHoldoverExpiry s
  | .alignCtrlWrite src value => Sys2Proof.Machine.execAlignCtrlWrite src value s
  | .pstFrameLoRead src addr len => Sys2Proof.Machine.execPstFrameLoRead src addr len s
  | .xltCtxSelWrite src ctx => Sys2Proof.Machine.execXltCtxSelWrite src ctx s
  | .xltSegSelWrite src seg => Sys2Proof.Machine.execXltSegSelWrite src seg s
  | .xltApplyCtx src both => Sys2Proof.Machine.execXltApplyCtx src both s
  | .xltApplySeg src both => Sys2Proof.Machine.execXltApplySeg src both s
  | .xltAtcFlush src port0 port1 => Sys2Proof.Machine.execXltAtcFlush src port0 port1 s
  | .atsInvalidationRequest port func tag page pages => Sys2Proof.Machine.execAtsInvalidationRequest port func tag page pages s
  | .atsInvalidationCompletion port tag => Sys2Proof.Machine.execAtsInvalidationCompletion port tag s
  | .translationCompletion func page pages result write => Sys2Proof.Machine.execTranslationCompletion func page pages result write s
  | .prgResponse group code => Sys2Proof.Machine.execPrgResponse group code s
  | .priTimeout group => Sys2Proof.Machine.execPriTimeout group s
  | .priReenable port => Sys2Proof.Machine.execPriReenable port s
  | .hostDmaCompletion entry off result data => Sys2Proof.Machine.execHostDmaCompletion entry off result data s
  | .nop entry => Sys2Proof.Machine.execNop entry s
  | .hostToStore entry => Sys2Proof.Machine.execHostToStore entry s
  | .storeToHost entry => Sys2Proof.Machine.execStoreToHost entry s
  | .storeCopy entry => Sys2Proof.Machine.execStoreCopy entry s
  | .prefetchHost entry => Sys2Proof.Machine.execPrefetchHost entry s
  | .advise entry => Sys2Proof.Machine.execAdvise entry s
  | .migrateIn entry => Sys2Proof.Machine.execMigrateIn entry s
  | .migrateOut entry => Sys2Proof.Machine.execMigrateOut entry s
  | .invalidate entry => Sys2Proof.Machine.execInvalidate entry s
  | .revoke entry => Sys2Proof.Machine.execRevoke entry s
  | .revokeComplete ctx seg => Sys2Proof.Machine.execRevokeComplete ctx seg s
  | .tierCtrlLock src => Sys2Proof.Machine.execTierCtrlLock src s
  | .place entry => Sys2Proof.Machine.execPlace entry s
  | .seal entry => Sys2Proof.Machine.execSeal entry s
  | .raise entry => Sys2Proof.Machine.execRaise entry s
  | .lower entry => Sys2Proof.Machine.execLower entry s
  | .residency entry => Sys2Proof.Machine.execResidency entry s
  | .chairliftMoveStart home page => Sys2Proof.Machine.execChairliftMoveStart home page s
  | .moveDirectorySwitch page => Sys2Proof.Machine.execMoveDirectorySwitch page s
  | .journalWaitResume entry granule => Sys2Proof.Machine.execJournalWaitResume entry granule s
  | .heatEpochEnd => Sys2Proof.Machine.execHeatEpochEnd s
  | .driftSample kind unit t v osc => Sys2Proof.Machine.execDriftSample kind unit t v osc s
  | .deviceTempRead kind unit temp twice => Sys2Proof.Machine.execDeviceTempRead kind unit temp twice s
  | .braceAreaErased half => Sys2Proof.Machine.execBraceAreaErased half s
  | .metadataCheckpoint => Sys2Proof.Machine.execMetadataCheckpoint s
  | .invocationStart core => Sys2Proof.Machine.execInvocationStart core s
  | .recipeNop core => Sys2Proof.Machine.execRecipeNop core s
  | .recipeLoad core => Sys2Proof.Machine.execRecipeLoad core s
  | .recipeStore core => Sys2Proof.Machine.execRecipeStore core s
  | .recipeGather core => Sys2Proof.Machine.execRecipeGather core s
  | .recipeScatter core => Sys2Proof.Machine.execRecipeScatter core s
  | .atomicAdd core => Sys2Proof.Machine.execAtomicAdd core s
  | .loop core => Sys2Proof.Machine.execLoop core s
  | .endloop core => Sys2Proof.Machine.execEndloop core s
  | .signal core => Sys2Proof.Machine.execSignal core s
  | .flags core => Sys2Proof.Machine.execFlags core s
  | .recipeEnd core => Sys2Proof.Machine.execRecipeEnd core s
  | .copy core => Sys2Proof.Machine.execCopy core s
  | .add core => Sys2Proof.Machine.execAdd core s
  | .sub core => Sys2Proof.Machine.execSub core s
  | .mul core => Sys2Proof.Machine.execMul core s
  | .muladd core => Sys2Proof.Machine.execMuladd core s
  | .max core => Sys2Proof.Machine.execMax core s
  | .min core => Sys2Proof.Machine.execMin core s
  | .abs core => Sys2Proof.Machine.execAbs core s
  | .div core => Sys2Proof.Machine.execDiv core s
  | .sqrt core => Sys2Proof.Machine.execSqrt core s
  | .cmplt core => Sys2Proof.Machine.execCmplt core s
  | .select core => Sys2Proof.Machine.execSelect core s
  | .dot core => Sys2Proof.Machine.execDot core s
  | .l2sq core => Sys2Proof.Machine.execL2sq core s
  | .reduce core => Sys2Proof.Machine.execReduce core s
  | .hash core => Sys2Proof.Machine.execHash core s
  | .topk core => Sys2Proof.Machine.execTopk core s
  | .streamSettle core token => Sys2Proof.Machine.execStreamSettle core token s
  | .holdGranuleAcquired granule => Sys2Proof.Machine.execHoldGranuleAcquired granule s
  | .holdTimeout core => Sys2Proof.Machine.execHoldTimeout core s
  | .cycleLimitExpiry core => Sys2Proof.Machine.execCycleLimitExpiry core s
  | .coreExtLoad src => Sys2Proof.Machine.execCoreExtLoad src s
  | .coreExtLoadDone result image verified => Sys2Proof.Machine.execCoreExtLoadDone result image verified s
  | .coreExtRemove src => Sys2Proof.Machine.execCoreExtRemove src s
  | .embDefine entry => Sys2Proof.Machine.execEmbDefine entry s
  | .embDrop entry => Sys2Proof.Machine.execEmbDrop entry s
  | .embQuery entry => Sys2Proof.Machine.execEmbQuery entry s
  | .embGather entry => Sys2Proof.Machine.execEmbGather entry s
  | .embUpdate entry => Sys2Proof.Machine.execEmbUpdate entry s
  | .embWrite entry => Sys2Proof.Machine.execEmbWrite entry s
  | .embStepClose entry => Sys2Proof.Machine.execEmbStepClose entry s
  | .embPublish entry => Sys2Proof.Machine.execEmbPublish entry s
  | .embRetire table => Sys2Proof.Machine.execEmbRetire table s
  | .vecDefine entry => Sys2Proof.Machine.execVecDefine entry s
  | .vecDrop entry => Sys2Proof.Machine.execVecDrop entry s
  | .vecQuery entry => Sys2Proof.Machine.execVecQuery entry s
  | .vecSearch entry => Sys2Proof.Machine.execVecSearch entry s
  | .walkRound walk => Sys2Proof.Machine.execWalkRound walk s
  | .vecInsert entry => Sys2Proof.Machine.execVecInsert entry s
  | .vecDelete entry => Sys2Proof.Machine.execVecDelete entry s
  | .vecRepair entry => Sys2Proof.Machine.execVecRepair entry s
  | .vecRepairNodeStart index => Sys2Proof.Machine.execVecRepairNodeStart index s
  | .vecPassEnd index => Sys2Proof.Machine.execVecPassEnd index s
  | .rplDefine entry => Sys2Proof.Machine.execRplDefine entry s
  | .rplDrop entry => Sys2Proof.Machine.execRplDrop entry s
  | .rplQuery entry => Sys2Proof.Machine.execRplQuery entry s
  | .rplInsert entry => Sys2Proof.Machine.execRplInsert entry s
  | .rplReservationGrant buffer => Sys2Proof.Machine.execRplReservationGrant buffer s
  | .rplSample entry => Sys2Proof.Machine.execRplSample entry s
  | .rplUpdate entry => Sys2Proof.Machine.execRplUpdate entry s
  | .rplTreePass buffer shard => Sys2Proof.Machine.execRplTreePass buffer shard s
  | .rplDescent entry draw => Sys2Proof.Machine.execRplDescent entry draw s
  | .kvpDefine entry => Sys2Proof.Machine.execKvpDefine entry s
  | .kvpDrop entry => Sys2Proof.Machine.execKvpDrop entry s
  | .kvpQuery entry => Sys2Proof.Machine.execKvpQuery entry s
  | .kvpOpen entry => Sys2Proof.Machine.execKvpOpen entry s
  | .kvpAppend entry => Sys2Proof.Machine.execKvpAppend entry s
  | .kvpLock entry => Sys2Proof.Machine.execKvpLock entry s
  | .kvpUnlock entry => Sys2Proof.Machine.execKvpUnlock entry s
  | .kvpLockExpiry pool seq => Sys2Proof.Machine.execKvpLockExpiry pool seq s
  | .kvpClose entry => Sys2Proof.Machine.execKvpClose entry s
  | .kvpHandover entry => Sys2Proof.Machine.execKvpHandover entry s
  | .kvpOffer origin pool seq token length pages => Sys2Proof.Machine.execKvpOffer origin pool seq token length pages s
  | .kvpOfferAccept origin pool seq token => Sys2Proof.Machine.execKvpOfferAccept origin pool seq token s
  | .kvpOfferDecline origin pool seq token => Sys2Proof.Machine.execKvpOfferDecline origin pool seq token s
  | .kvpOfferTimeout pool seq => Sys2Proof.Machine.execKvpOfferTimeout pool seq s
  | .gateSignal entry => Sys2Proof.Machine.execGateSignal entry s
  | .gateWait entry => Sys2Proof.Machine.execGateWait entry s
  | .gateReset entry => Sys2Proof.Machine.execGateReset entry s
  | .gateRead entry => Sys2Proof.Machine.execGateRead entry s
  | .fence entry => Sys2Proof.Machine.execFence entry s
  | .fenceProbeResend entry target => Sys2Proof.Machine.execFenceProbeResend entry target s
  | .fencePromotionTimeout entry target => Sys2Proof.Machine.execFencePromotionTimeout entry target s
  | .gateWatchdogExpiry entry => Sys2Proof.Machine.execGateWatchdogExpiry entry s
  | .gateBlkSelWrite src block => Sys2Proof.Machine.execGateBlkSelWrite src block s
  | .gateBlkApply src => Sys2Proof.Machine.execGateBlkApply src s
  | .gateDbgRead src => Sys2Proof.Machine.execGateDbgRead src s
  | .gateDbgSet src => Sys2Proof.Machine.execGateDbgSet src s
  | .drainProbe port msg => Sys2Proof.Machine.execDrainProbe port msg s
  | .drainAck port msg => Sys2Proof.Machine.execDrainAck port msg s
  | .drainReroute port msg => Sys2Proof.Machine.execDrainReroute port msg s
  | .drainAnswerDue origin source fenceId => Sys2Proof.Machine.execDrainAnswerDue origin source fenceId s
  | .rd port msg => Sys2Proof.Machine.execRd port msg s
  | .rdOwn port msg => Sys2Proof.Machine.execRdOwn port msg s
  | .wr port msg => Sys2Proof.Machine.execWr port msg s
  | .wrp port msg => Sys2Proof.Machine.execWrp port msg s
  | .atom port msg => Sys2Proof.Machine.execAtom port msg s
  | .wb port msg => Sys2Proof.Machine.execWb port msg s
  | .inv port msg => Sys2Proof.Machine.execInv port msg s
  | .invAck port msg => Sys2Proof.Machine.execInvAck port msg s
  | .invData port msg => Sys2Proof.Machine.execInvData port msg s
  | .cpl port msg => Sys2Proof.Machine.execCpl port msg s
  | .cplNd port msg => Sys2Proof.Machine.execCplNd port msg s
  | .cplVal port msg => Sys2Proof.Machine.execCplVal port msg s
  | .cmd port msg => Sys2Proof.Machine.execCmd port msg s
  | .cmdCpl entry delivered => Sys2Proof.Machine.execCmdCpl entry delivered s
  | .ctrlAbort port msg => Sys2Proof.Machine.execCtrlAbort port msg s
  | .ctrlRelease port msg => Sys2Proof.Machine.execCtrlRelease port msg s
  | .ctrlGrant port => Sys2Proof.Machine.execCtrlGrant port s
  | .cohTransactionStart granule => Sys2Proof.Machine.execCohTransactionStart granule s
  | .cohHoldExpiry granule => Sys2Proof.Machine.execCohHoldExpiry granule s
  | .snoopTimeout index granule => Sys2Proof.Machine.execSnoopTimeout index granule s
  | .reclaimEnd index => Sys2Proof.Machine.execReclaimEnd index s
  | .cohAgentDeclare src index => Sys2Proof.Machine.execCohAgentDeclare src index s
  | .cohAgentRevive src index => Sys2Proof.Machine.execCohAgentRevive src index s
  | .cohProbe src => Sys2Proof.Machine.execCohProbe src s
  | .flitReceive port corrected uncorrectable fecOk crcOk tagOk hdr payload => Sys2Proof.Machine.execFlitReceive port corrected uncorrectable fecOk crcOk tagOk hdr payload s
  | .nakRepeat port => Sys2Proof.Machine.execNakRepeat port s
  | .ackTimeout port => Sys2Proof.Machine.execAckTimeout port s
  | .rekey port => Sys2Proof.Machine.execRekey port s
  | .hxlPortCfgWrite src value => Sys2Proof.Machine.execHxlPortCfgWrite src value s
  | .hxlPortRetrain src => Sys2Proof.Machine.execHxlPortRetrain src s
  | .hxlPortReset src => Sys2Proof.Machine.execHxlPortReset src s
  | .detectComplete port reversed polarity => Sys2Proof.Machine.execDetectComplete port reversed polarity s
  | .detectTimeout port => Sys2Proof.Machine.execDetectTimeout port s
  | .equalizeComplete port => Sys2Proof.Machine.execEqualizeComplete port s
  | .equalizeTimeout port below => Sys2Proof.Machine.execEqualizeTimeout port below s
  | .blockLockAcquired port => Sys2Proof.Machine.execBlockLockAcquired port s
  | .lockTimeout port => Sys2Proof.Machine.execLockTimeout port s
  | .param port msg => Sys2Proof.Machine.execParam port msg s
  | .echo port msg now hold => Sys2Proof.Machine.execEcho port msg now hold s
  | .portActivate port => Sys2Proof.Machine.execPortActivate port s
  | .retrainComplete port => Sys2Proof.Machine.execRetrainComplete port s
  | .retrainTimeout port => Sys2Proof.Machine.execRetrainTimeout port s
  | .spdmSessionTimeout port => Sys2Proof.Machine.execSpdmSessionTimeout port s
  | .noRouteExpiry id => Sys2Proof.Machine.execNoRouteExpiry id s
  | .routeDrainEnd member => Sys2Proof.Machine.execRouteDrainEnd member s
  | .checkerError chk railT railC => Sys2Proof.Machine.execCheckerError chk railT railC s
  | .ceStorm key => Sys2Proof.Machine.execCeStorm key s
  | .groomerRead tier granule finding passEnd => Sys2Proof.Machine.execGroomerRead tier granule finding passEnd s
  | .errSitzUnfreeze src => Sys2Proof.Machine.execErrSitzUnfreeze src s
  | .errSitzClear src => Sys2Proof.Machine.execErrSitzClear src s
  | .errFirstClear src => Sys2Proof.Machine.execErrFirstClear src s
  | .errUnitOnline src => Sys2Proof.Machine.execErrUnitOnline src s
  | .errInjFire src => Sys2Proof.Machine.execErrInjFire src s
  | .heartbeat port msg => Sys2Proof.Machine.execHeartbeat port msg s
  | .heartbeatSend => Sys2Proof.Machine.execHeartbeatSend s
  | .suspicionTimeout member => Sys2Proof.Machine.execSuspicionTimeout member s
  | .propose port msg => Sys2Proof.Machine.execPropose port msg s
  | .accept port msg => Sys2Proof.Machine.execAccept port msg s
  | .commit port msg => Sys2Proof.Machine.execCommit port msg s
  | .consFatal port msg => Sys2Proof.Machine.execConsFatal port msg s
  | .consBrace port msg => Sys2Proof.Machine.execConsBrace port msg s
  | .mapChangeApply => Sys2Proof.Machine.execMapChangeApply s
  | .coordinatorTakeover => Sys2Proof.Machine.execCoordinatorTakeover s
  | .quorumLoss => Sys2Proof.Machine.execQuorumLoss s
  | .epochHoldExpiry origin id => Sys2Proof.Machine.execEpochHoldExpiry origin id s
  | .remirrorCopy slot page => Sys2Proof.Machine.execRemirrorCopy slot page s
  | .flashRebuild slab stripe slot => Sys2Proof.Machine.execFlashRebuild slab stripe slot s
  | .mapFormTimeout entry => Sys2Proof.Machine.execMapFormTimeout entry s
  | .mapQuery entry => Sys2Proof.Machine.execMapQuery entry s
  | .mapForm entry => Sys2Proof.Machine.execMapForm entry s
  | .mapAdmit entry => Sys2Proof.Machine.execMapAdmit entry s
  | .mapFence entry => Sys2Proof.Machine.execMapFence entry s
  | .mapAssign entry => Sys2Proof.Machine.execMapAssign entry s
  | .cmpDefine entry => Sys2Proof.Machine.execCmpDefine entry s
  | .cmpDrop entry => Sys2Proof.Machine.execCmpDrop entry s
  | .cmpGrant entry => Sys2Proof.Machine.execCmpGrant entry s
  | .cmpWithdraw entry => Sys2Proof.Machine.execCmpWithdraw entry s
  | .cmpQuery entry => Sys2Proof.Machine.execCmpQuery entry s
  | .meterQuery entry => Sys2Proof.Machine.execMeterQuery entry s
  | .meteringTick cycles => Sys2Proof.Machine.execMeteringTick cycles s
  | .mgtMeterSnap src => Sys2Proof.Machine.execMgtMeterSnap src s
  | .powerOnReset straps flash => Sys2Proof.Machine.execPowerOnReset straps flash s
  | .vstby5Lost => Sys2Proof.Machine.execVstby5Lost s
  | .startup flash pop badCheckers islandTemp us => Sys2Proof.Machine.execStartup flash pop badCheckers islandTemp us s
  | .storeBringup deltaOk damage us => Sys2Proof.Machine.execStoreBringup deltaOk damage us s
  | .refclkLoss => Sys2Proof.Machine.execRefclkLoss s
  | .clkSscWrite src value => Sys2Proof.Machine.execClkSscWrite src value s
  | .sysRstAssert => Sys2Proof.Machine.execSysRstAssert s
  | .sysRstDeassert => Sys2Proof.Machine.execSysRstDeassert s
  | .perstAssert port => Sys2Proof.Machine.execPerstAssert port s
  | .perstDeassert port => Sys2Proof.Machine.execPerstDeassert port s
  | .fenceReqAssert => Sys2Proof.Machine.execFenceReqAssert s
  | .tapReset pin => Sys2Proof.Machine.execTapReset pin s
  | .jtagDebugAccess access => Sys2Proof.Machine.execJtagDebugAccess access s
  | .psuAcOkDeassert => Sys2Proof.Machine.execPsuAcOkDeassert s
  | .psuAcOkAssert => Sys2Proof.Machine.execPsuAcOkAssert s
  | .vin12OvTrip => Sys2Proof.Machine.execVin12OvTrip s
  | .vin12SurgeBrace long => Sys2Proof.Machine.execVin12SurgeBrace long s
  | .vin12Surge => Sys2Proof.Machine.execVin12Surge s
  | .vin12SagEnter => Sys2Proof.Machine.execVin12SagEnter s
  | .vin12SagExit => Sys2Proof.Machine.execVin12SagExit s
  | .vin12DeepSag long => Sys2Proof.Machine.execVin12DeepSag long s
  | .vin12UvTrip => Sys2Proof.Machine.execVin12UvTrip s
  | .snowploughTick mv w w1ms w100ms => Sys2Proof.Machine.execSnowploughTick mv w w1ms w100ms s
  | .braceFlushStart us => Sys2Proof.Machine.execBraceFlushStart us s
  | .braceCommitRecord us dieFailed lost => Sys2Proof.Machine.execBraceCommitRecord us dieFailed lost s
  | .restartQualified => Sys2Proof.Machine.execRestartQualified s
  | .thermalSample temp sensor selfFail => Sys2Proof.Machine.execThermalSample temp sensor selfFail s
  | .pwrClearMinmax src => Sys2Proof.Machine.execPwrClearMinmax src s
  | .pwrClearBrace src => Sys2Proof.Machine.execPwrClearBrace src s
  | .pwrEnergyLoRead src addr len => Sys2Proof.Machine.execPwrEnergyLoRead src addr len s
  | .rplBufHeadLoRead src addr len => Sys2Proof.Machine.execRplBufHeadLoRead src addr len s
  | .secSvnCommit src => Sys2Proof.Machine.execSecSvnCommit src s
  | .secLcProvision src fuseOk => Sys2Proof.Machine.execSecLcProvision src fuseOk s
  | .secTokenSubmit src => Sys2Proof.Machine.execSecTokenSubmit src s
  | .tokenVerifyComplete sigOk fuseOk => Sys2Proof.Machine.execTokenVerifyComplete sigOk fuseOk s
  | .secNewNonce src => Sys2Proof.Machine.execSecNewNonce src s
  | .secTokenLower src => Sys2Proof.Machine.execSecTokenLower src s
  | .debugTimerExpiry => Sys2Proof.Machine.execDebugTimerExpiry s
  | .secPwrTargetRun src => Sys2Proof.Machine.execSecPwrTargetRun src s
  | .secPwrTargetRest src => Sys2Proof.Machine.execSecPwrTargetRest src s
  | .secPwrTargetStandby src => Sys2Proof.Machine.execSecPwrTargetStandby src s
  | .getVersion ep => Sys2Proof.Machine.execGetVersion ep s
  | .getCapabilities ep => Sys2Proof.Machine.execGetCapabilities ep s
  | .negotiateAlgorithms ep offered => Sys2Proof.Machine.execNegotiateAlgorithms ep offered s
  | .getDigests ep => Sys2Proof.Machine.execGetDigests ep s
  | .getCertificate ep slot off len => Sys2Proof.Machine.execGetCertificate ep slot off len s
  | .challenge ep slot => Sys2Proof.Machine.execChallenge ep slot s
  | .getMeasurements ep index sign => Sys2Proof.Machine.execGetMeasurements ep index sign s
  | .keyExchange ep auth => Sys2Proof.Machine.execKeyExchange ep auth s
  | .finish ep session partner => Sys2Proof.Machine.execFinish ep session partner s
  | .spdmHeartbeat ep session => Sys2Proof.Machine.execSpdmHeartbeat ep session s
  | .keyUpdate ep session => Sys2Proof.Machine.execKeyUpdate ep session s
  | .endSession ep session => Sys2Proof.Machine.execEndSession ep session s
  | .getCsr ep => Sys2Proof.Machine.execGetCsr ep s
  | .setCertificate ep session slot chain => Sys2Proof.Machine.execSetCertificate ep session slot chain s
  | .entdaa addr => Sys2Proof.Machine.execEntdaa addr s
  | .setEndpointId ep eid => Sys2Proof.Machine.execSetEndpointId ep eid s
  | .getEndpointId ep => Sys2Proof.Machine.execGetEndpointId ep s
  | .getEndpointUuid ep => Sys2Proof.Machine.execGetEndpointUuid ep s
  | .getMctpVersionSupport ep => Sys2Proof.Machine.execGetMctpVersionSupport ep s
  | .getMessageTypeSupport ep => Sys2Proof.Machine.execGetMessageTypeSupport ep s
  | .getTid ep => Sys2Proof.Machine.execGetTid ep s
  | .setTid ep tid => Sys2Proof.Machine.execSetTid ep tid s
  | .getPldmVersion ep type => Sys2Proof.Machine.execGetPldmVersion ep type s
  | .getPldmTypes ep => Sys2Proof.Machine.execGetPldmTypes ep s
  | .getPldmCommands ep type => Sys2Proof.Machine.execGetPldmCommands ep type s
  | .getPdrRepositoryInfo ep => Sys2Proof.Machine.execGetPdrRepositoryInfo ep s
  | .getPdr ep record => Sys2Proof.Machine.execGetPdr ep record s
  | .getSensorReading ep sensor vstby => Sys2Proof.Machine.execGetSensorReading ep sensor vstby s
  | .getStateSensorReadings ep sensor => Sys2Proof.Machine.execGetStateSensorReadings ep sensor s
  | .setEventReceiver ep receiver => Sys2Proof.Machine.execSetEventReceiver ep receiver s
  | .pollForPlatformEventMessage ep => Sys2Proof.Machine.execPollForPlatformEventMessage ep s
  | .requestUpdate ep session maxTransfer => Sys2Proof.Machine.execRequestUpdate ep session maxTransfer s
  | .firmwareDataChunk ep session len image => Sys2Proof.Machine.execFirmwareDataChunk ep session len image s
  | .activateFirmware ep session selfContained => Sys2Proof.Machine.execActivateFirmware ep session selfContained s
  | .cancelUpdate ep session => Sys2Proof.Machine.execCancelUpdate ep session s
  | .readSitzmark ep entry => Sys2Proof.Machine.execReadSitzmark ep entry s
  | .readFirst ep => Sys2Proof.Machine.execReadFirst ep s
  | .readReturn ep off len => Sys2Proof.Machine.execReadReturn ep off len s
  | .readReg ep off => Sys2Proof.Machine.execReadReg ep off s
  | .pmcSnap src => Sys2Proof.Machine.execPmcSnap src s
  | .pmcFreeze src => Sys2Proof.Machine.execPmcFreeze src s
  | .pmcUnfreeze src => Sys2Proof.Machine.execPmcUnfreeze src s
  | .pmcClearAll src => Sys2Proof.Machine.execPmcClearAll src s
  | .pmcOwnerWrite src value => Sys2Proof.Machine.execPmcOwnerWrite src value s
  | .pmcValueLoRead src off addr len => Sys2Proof.Machine.execPmcValueLoRead src off addr len s
  | .pmcOverflow counter value => Sys2Proof.Machine.execPmcOverflow counter value s
  | .pmcVSnap src => Sys2Proof.Machine.execPmcVSnap src s
  | .pmcVFreeze src => Sys2Proof.Machine.execPmcVFreeze src s
  | .pmcVUnfreeze src => Sys2Proof.Machine.execPmcVUnfreeze src s
  | .vstby5Restored => Sys2Proof.Machine.execVstby5Restored s
  | .refclkRestored => Sys2Proof.Machine.execRefclkRestored s
  | .blockLockLost port => Sys2Proof.Machine.execBlockLockLost port s
  | .pcieCompletionTimeout entry off => Sys2Proof.Machine.execPcieCompletionTimeout entry off s
  | .flashDieReady die op pass => Sys2Proof.Machine.execFlashDieReady die op pass s
  | .busParityError kind channel attempt retrainFailed => Sys2Proof.Machine.execBusParityError kind channel attempt retrainFailed s
  | .hxlRouteWrite src value => Sys2Proof.Machine.execHxlRouteWrite src value s
  | .queryDeviceIdentifiers ep session => Sys2Proof.Machine.execQueryDeviceIdentifiers ep session s
  | .getFirmwareParameters ep session => Sys2Proof.Machine.execGetFirmwareParameters ep session s
  | .passComponentTable ep session firmware identifier => Sys2Proof.Machine.execPassComponentTable ep session firmware identifier s
  | .updateComponent ep session version size => Sys2Proof.Machine.execUpdateComponent ep session version size s
  | .getStatus ep session => Sys2Proof.Machine.execGetStatus ep session s
  | .cancelUpdateComponent ep session => Sys2Proof.Machine.execCancelUpdateComponent ep session s

end Sys2Proof.Machine
end

