-- ==== Sys2Proof/Safety.lean ====
section
/-!
DEFINITION. What a safe run is, and the terms that claims use: a step that goes on, what two states agree on, the canonical
forms of memory and of the register file.
-/
namespace Sys2Proof.Machine

open Sys2Proof

/-- An outcome that goes on. -/
def Goes (o : Res) : Prop := ∃ t, o = .next t

/-- A step that neither faults nor refuses. -/
def SafeStep (s : State) : Prop := Goes (step s)

/-- The parts of the state. -/
inductive Part where
  | pending | regs | frame | fresh | out | cmdq | pst | xlt | store | core | emb | vec | rpl | kvp | hxl | coh | gate | err
  | rack | sys | mgt
  /-- the lift line, the MSI-X masks and pending bits, the bytes of the store -/
  | entries | msix | mem
  deriving DecidableEq, Repr

/-- The place of a part in a set of parts. -/
def Part.idx : Part → Nat
  | .pending => 0 | .regs => 1 | .frame => 2 | .fresh => 3 | .out => 4 | .cmdq => 5 | .pst => 6 | .xlt => 7 | .store => 8
  | .core => 9 | .emb => 10 | .vec => 11 | .rpl => 12 | .kvp => 13 | .hxl => 14 | .coh => 15 | .gate => 16 | .err => 17
  | .rack => 18 | .sys => 19 | .mgt => 20 | .entries => 21 | .msix => 22 | .mem => 23

/-- The command queues less the lift line and MSI-X; the store less its bytes. -/
@[reducible] def CmdqState.rest (x : CmdqState) : CmdqState := { x with entries := {}, unmasked := {}, pbaPending := {} }
@[reducible] def StoreState.rest (x : StoreState) : StoreState := { x with mem := [] }

/-- Two states agree on a part. -/
@[reducible] def State.agree (s t : State) : Part → Prop
  | .pending => t.pending = s.pending
  | .regs => t.regs = s.regs
  | .frame => t.frame = s.frame
  | .fresh => t.fresh = s.fresh
  | .out => t.out = s.out
  | .cmdq => t.cmdq.rest = s.cmdq.rest
  | .pst => t.pst = s.pst
  | .xlt => t.xlt = s.xlt
  | .store => t.store.rest = s.store.rest
  | .core => t.core = s.core
  | .emb => t.emb = s.emb
  | .vec => t.vec = s.vec
  | .rpl => t.rpl = s.rpl
  | .kvp => t.kvp = s.kvp
  | .hxl => t.hxl = s.hxl
  | .coh => t.coh = s.coh
  | .gate => t.gate = s.gate
  | .err => t.err = s.err
  | .rack => t.rack = s.rack
  | .sys => t.sys = s.sys
  | .mgt => t.mgt = s.mgt
  | .entries => t.cmdq.entries = s.cmdq.entries
  | .msix => (t.cmdq.unmasked, t.cmdq.pbaPending) = (s.cmdq.unmasked, s.cmdq.pbaPending)
  | .mem => t.store.mem = s.store.mem

/-- Every part of the state but those listed is unchanged. -/
def Frame (changed : List Part) (s t : State) : Prop := ∀ p, p ∉ changed → s.agree t p

/-- Nothing but one queue pair changes. -/
def OnlyQp (src qp : Nat) (s t : State) : Prop :=
  Frame [.cmdq] s t ∧ t.cmdq = { s.cmdq with qps := t.cmdq.qps } ∧ ∀ a b, qpKey a b ≠ qpKey src qp → t.qp a b = s.qp a b

/-- Nothing but one intake source changes. -/
def OnlySource (src : Nat) (s t : State) : Prop :=
  Frame [.cmdq] s t ∧ t.cmdq = { s.cmdq with sources := t.cmdq.sources } ∧ ∀ a, a ≠ src → t.source a = s.source a

/-- Nothing but one entry of the lift line changes. -/
def OnlyEntry (id : Nat) (s t : State) : Prop :=
  Frame [.entries] s t ∧ ∀ a, a ≠ id → t.entry? a = s.entry? a

/-- The command of an entry has ended with this outcome. -/
@[reducible] def State.Ended (t : State) (id : Nat) (o : Outcome) : Prop :=
  (t.entry? id).map (fun e => (e.phase, e.out)) = some (.ended, o)

/-- No core works for the command of an entry. -/
abbrev State.NoCoreFor (s : State) (id : Nat) : Prop :=
  ∀ c ∈ s.core.cores.cells, c.2.queue.any (fun i => i.entry = id) = false ∧ c.2.run.any (fun r => r.inv.entry = id) = false

/-- Nothing keeps a command from reading the store at once: this member homes every address, no endpoint holds a granule, no mirror
is asked (R34, R410, R414, R477). -/
abbrev State.NoneHeld (s : State) : Prop :=
  s.coh.sf.cells = [] ∧ s.coh.txns = [] ∧ s.rack.checks = [] ∧ ∀ a, s.isHome a = true

/-- What every granule holds was written under the key pair it is read under (R535). -/
abbrev State.KeysStand (s : State) : Prop := ∀ g, s.decrypt g = s

/-- No granule of the store holds an error (R466, R469). -/
abbrev State.Sound (s : State) : Prop :=
  ∀ g, (s.gran g).poison = none ∧ (s.gran g).damaged = false ∧ (s.gran g).corrupt = false

/-- Nothing keeps a command from writing these ranges: they are homed here, no endpoint and no core holds them, the journal and the
write buffer have room (R194, R213, R231, R414). -/
structure State.MayWrite (s : State) (id : Nat) (rs : List (Nat × Nat)) : Prop where
  held : s.NoneHeld
  room : s.journalRoom (rangeGranules rs) = true
  command : id < 2 ^ 41
  buffer : ∀ g ∈ rangeGranules rs, s.bufferFull (g / 32) = false
  cores : ∀ g ∈ rangeGranules rs, s.coreHolds none g = false

/-- An item of another member may come up at once (R28, R30, R34, R513): the member is in service and aligned, nothing holds, drops
or has answered an item, and none of its own items is away. -/
structure State.MayServe (s : State) (origin id cls : Nat) : Prop where
  sender : s.memberState origin ≠ .fenced
  service : s.sys.bracing = false
  power : s.sys.power ≠ .rest
  own : s.proxyOf origin id = none
  aligned : s.unaligned cls = false
  still : s.rack.held = [] ∧ s.rack.holds = [] ∧ s.rack.dropped = [] ∧ s.rack.memo = [] ∧ s.rack.mirrorPending = []
  away : s.rack.away = {}

/-- The home of every node of an index lies in one of its windows, as its descriptor's arrays are placed (R292, R293). -/
abbrev State.VecPlaced (s : State) (d : List Byte) : Prop :=
  ∀ q ∈ vdPartList d, ∀ n < vdNodes d, s.nodeWindow d q n ∈ s.vecWindows d q

/-- A KV sequence that a packet names, whose record at this member, its birth member, is OWNED; the packet gives no HINT (R347,
R348). -/
structure State.HoldsSeq (s : State) (pk : Packet) (x : KvpPool) (slot : Nat) (r : SeqRec) : Prop where
  pool : s.kvpPool (kpPool pk) = some x
  named : x.recOf (kpSeq pk) = some (slot, r)
  stands : x.recs.find? slot = some r
  owned : r.state = .owned
  birth : s.serverOf (seqWindow (kpSeq pk)) = s.sys.member
  hint : kpHintValid pk = false

/-- A DMA command that runs, whose bytes lie in one host page, with nothing moved and no read outstanding (R155, R157). -/
structure OnePage (s : State) (id : Nat) (e : Entry) (d : DmaOp) : Prop where
  entry : s.entry? id = some e
  op : s.dmaOp e = some d
  runs : (s.runningDma e.src).contains id = true
  plain : d.prefetch = false ∧ d.fromBuffer = false ∧ d.atomic = false
  page : 0 < d.len ∧ d.len ≤ 4096 - d.host % 4096
  fresh : e.dma.moved = 0 ∧ e.dma.issued = 0 ∧ e.dma.held = [] ∧ e.dma.reads = [] ∧ e.dma.got = {} ∧ e.dma.fail = none
  good : d.len ≤ e.dma.good
  alone : s.NoCoreFor id
  host : e.src < 128
  only : ∀ c ∈ s.cmdq.entries.cells, c.1 ≠ id → s.dmaOp c.2 = none

/-- No other member has a part in what this member homes: no mirror, no shadow, no slot being copied, no item on its way or waiting
(R423, R474, R519). -/
structure State.Alone (s : State) : Prop where
  homes : ∀ a, s.isHome a = true
  partner : ∀ slot, s.partnerOf slot = none
  copies : s.rack.assign = none ∧ s.rack.away.cells = [] ∧ s.rack.held = [] ∧ s.rack.checks = []

/-- The home serves a request to a granule at once: nothing of it is queued or in progress, no core holds it, the journal and the write
buffer have room (R194, R213, R231, R413). -/
structure State.Serves (s : State) (g : Nat) : Prop where
  alone : s.Alone
  first : s.coh.queue = [] ∧ s.coh.txns = [] ∧ s.coh.invs = []
  free : s.coreHolds none g = false
  room : s.journalRoom [g] = true ∧ s.bufferFull (g / 32) = false

/-- Bytes a raw request names (R151). -/
abbrev rawBytes (k : RawKind) (m : List Byte) : Nat := if k = .atom ∧ atW64 m = false then 4 else if k = .atom then 8 else 128

/-- A raw request of endpoint `i` on a port that passes every check of R394 and R151 and whose address is RSA `a`, homed here. -/
structure RawArrives (s : State) (k : RawKind) (p : Nat) (m : List Byte) (a i : Nat) : Prop where
  port : p < 16 ∧ (s.port p).state = .active ∧ (s.port p).act.kind = 1
  runs : (s.aligned = true ∨ hdClass m = 15) ∧ s.sys.power ≠ .rest ∧ s.fenced = false ∧ s.sys.bracing = false
  header : hdSrc m = (s.port p).partnerId ∧ hdNode m = (s.port p).act.nodeForm ∧ rawAligned k m = true ∧ rawFieldsOk k m = true
  target : s.targetOf (hdNode m) (hdAddr m) = .rsa a
  agent : requesterIndex 1 (hdSrc m) (hdNode m) = some i ∧ (s.agent i).state = .live
  allowed : (s.translateRaw p a (rawBytes k m) k.accesses).toOption.isSome = true
  served : s.Serves (a / 128)

/-- An engine step on one FP32 element of the Pocket, with no stream step unsettled and no injected error pending (R229, R236). -/
structure OneElement (s : State) (core : Nat) (r : Running) (x : RStep) : Prop where
  ready : s.ready core x.op = some (r, x)
  settled : r.stream = []
  sound : (s.edge core).flips = []
  single : x.count = 1 ∧ x.rows = 1
  formats : x.fmtD = 0 ∧ x.fmtA = 0 ∧ x.fmtB = 0 ∧ x.fmtC = 0
  rounding : x.rnd = 0 ∧ x.sat = false
  pocket : refScalar x.d = false ∧ refScalar x.a = false ∧ refScalar x.b = false ∧ refScalar x.c = false

/-- An engine step on INT8 rows of the Pocket with an INT32 result there (R235, R242, R243). -/
structure Int8Rows (s : State) (core : Nat) (r : Running) (x : RStep) : Prop where
  ready : s.ready core x.op = some (r, x)
  settled : r.stream = []
  sound : (s.edge core).flips = []
  formats : x.fmtD = 6 ∧ x.fmtA = 5 ∧ (x.op = 0x22 ∨ x.fmtB = 5)
  pocket : refScalar x.d = false ∧ refScalar x.a = false ∧ (x.op = 0x22 ∨ refScalar x.b = false)
  bounds : x.count ≤ 4096 ∧ x.rows ≤ 4096

/-- Two fields that share no bit of a register. -/
def Fld.Apart (f g : Fld) : Prop := f.off ≠ g.off ∨ f.hi < g.lo ∨ g.hi < f.lo

/-- Nothing but the register file changes, and there nothing but one field as a function sees it: fields of the same
function's copy that share no bit with it, and every other register, stand. -/
def OnlyField (src : Nat) (f : Fld) (s t : State) : Prop :=
  Frame [.regs] s t ∧
  (∀ g, g.off = f.off → Fld.Apart f g → t.fldAt src g = s.fldAt src g) ∧
  ∀ a g, regKey a g.off ≠ regKey src f.off → t.fldAt a g = s.fldAt a g

/-- Every field of the registers that stand once is unchanged but those listed; BAR0 has 16 MiB (R24). -/
def FieldsStand (changed : List Fld) (s t : State) : Prop :=
  ∀ g, g.off < 2 ^ 24 → (∀ f ∈ changed, Fld.Apart f g) → t.fld g = s.fld g

/-- What every command leaves standing: the queue, whatever was sent before, the canonical form of the store's bytes (R16,
R522), the order of the register file. -/
structure Keeps (s t : State) : Prop where
  pending : t.pending = s.pending
  out : s.out <+: t.out
  mem : Memory.wf s.store.mem = true → Memory.wf t.store.mem = true
  regs : cellsSorted s.regs.cells = true → cellsSorted t.regs.cells = true

/-- A set of parts as a number, one bit for each part. -/
def partsMask (l : List Part) : Nat := l.foldl (fun m p => m ||| 2 ^ p.idx) 0

/-- The parts of the state that each command may change (R5 to R12 for the registers, the output and MSI-X; each chapter for its
own parts); whatever command it is, every other part stands. -/
def changes : Instr → List Part
  | .registerWrite _ _ _ _ => [.regs, .fresh, .out, .cmdq, .pst, .xlt, .store, .core, .emb, .vec, .rpl, .kvp, .hxl, .coh, .gate, .err, .rack, .sys, .mgt, .entries, .msix, .mem]
  | .eventEnWrite _ _ _ => [.regs, .out, .msix]
  | .msixVectorUnmask _ _ => [.out, .msix]
  | .sqTailDoorbell _ _ _ => [.regs, .out, .cmdq, .store, .sys, .mgt, .msix]
  | .cqHeadDoorbell _ _ _ => [.regs, .out, .cmdq, .store, .sys, .mgt, .msix]
  | .sqFetch _ _ _ _ => [.regs, .out, .cmdq, .xlt, .mgt, .entries, .msix]
  | .intakeAccept _ _ _ => [.regs, .fresh, .out, .cmdq, .xlt, .store, .core, .emb, .vec, .rpl, .kvp, .hxl, .coh, .gate, .err, .rack, .sys, .mgt, .entries, .msix, .mem]
  | .barrierRelease _ => [.entries]
  | .work _ _ _ _ _ _ _ _ _ _ => [.regs, .fresh, .out, .cmdq, .xlt, .store, .emb, .vec, .kvp, .hxl, .coh, .gate, .err, .rack, .sys, .mgt, .entries, .msix, .mem]
  | .workAnswer _ _ _ _ _ _ _ => [.regs, .fresh, .out, .cmdq, .xlt, .store, .core, .emb, .vec, .kvp, .hxl, .coh, .gate, .err, .rack, .sys, .mgt, .entries, .msix, .mem]
  | .workCancel _ _ => [.regs, .fresh, .out, .xlt, .store, .core, .emb, .vec, .rpl, .kvp, .coh, .gate, .err, .rack, .sys, .mgt, .entries, .msix, .mem]
  | .workHold _ _ => [.out, .rack, .entries]
  | .cancelResend _ => [.out]
  | .commandComplete _ _ => [.regs, .fresh, .out, .cmdq, .xlt, .store, .core, .emb, .vec, .rpl, .kvp, .hxl, .coh, .gate, .err, .rack, .sys, .mgt, .entries, .msix, .mem]
  | .cqCoalesceTimeout _ _ => [.out, .cmdq, .msix]
  | .commandTimeout _ => [.regs, .fresh, .out, .xlt, .store, .core, .emb, .vec, .rpl, .coh, .gate, .err, .rack, .sys, .mgt, .entries, .msix, .mem]
  | .abortQtag _ _ _ => [.regs, .fresh, .out, .cmdq, .xlt, .store, .core, .emb, .vec, .rpl, .coh, .gate, .err, .rack, .sys, .mgt, .entries, .msix, .mem]
  | .abortAllQp _ _ => [.regs, .fresh, .out, .cmdq, .xlt, .store, .core, .emb, .vec, .rpl, .coh, .gate, .err, .rack, .sys, .mgt, .entries, .msix, .mem]
  | .resultRelease _ _ => [.regs, .out, .cmdq, .msix]
  | .qpEnable _ => [.regs, .out, .cmdq, .msix]
  | .qpDisable _ => [.regs, .out, .cmdq, .msix]
  | .functionLevelReset _ => [.regs, .fresh, .out, .cmdq, .xlt, .store, .core, .emb, .vec, .rpl, .coh, .gate, .err, .rack, .sys, .mgt, .entries, .msix, .mem]
  | .pcieLinkDown _ => [.regs, .fresh, .out, .cmdq, .xlt, .store, .core, .emb, .vec, .rpl, .coh, .gate, .err, .rack, .sys, .mgt, .entries, .msix, .mem]
  | .fnAdmSelWrite _ _ => [.regs]
  | .fnAdmApply _ => [.regs, .out, .cmdq, .hxl, .entries, .msix]
  | .fnHxlSelWrite _ _ => [.regs]
  | .fnHxlApply _ => [.regs, .out, .cmdq, .hxl, .entries, .msix]
  | .frameBoundary => [.regs, .frame, .fresh, .out, .cmdq, .pst, .xlt, .store, .emb, .vec, .kvp, .hxl, .coh, .gate, .err, .rack, .sys, .mgt, .entries, .msix, .mem]
  | .slotIssue _ _ _ _ _ => [.regs, .fresh, .out, .pst, .store, .hxl, .err, .mgt, .msix]
  | .pstImageLoad _ => [.regs, .out, .pst, .msix]
  | .pstLoadDone _ _ => [.regs, .out, .pst, .msix]
  | .pstSwitchArm _ => [.regs, .out, .pst, .msix]
  | .pstSwitchCancel _ => [.regs, .out, .pst, .msix]
  | .tableSwitch => [.regs, .out, .pst, .hxl, .msix]
  | .epoch _ _ _ => [.regs, .frame, .out, .pst, .hxl, .rack, .sys, .mgt, .msix]
  | .alignWindowEnd => [.regs, .fresh, .out, .cmdq, .pst, .xlt, .store, .emb, .vec, .kvp, .hxl, .coh, .gate, .err, .rack, .sys, .mgt, .entries, .msix, .mem]
  | .parentLost => [.regs, .out, .pst, .sys, .mgt, .msix]
  | .holdoverExpiry => [.regs, .out, .pst, .msix]
  | .alignCtrlWrite _ _ => [.regs, .fresh, .out, .cmdq, .pst, .xlt, .store, .emb, .vec, .kvp, .hxl, .coh, .gate, .err, .rack, .sys, .mgt, .entries, .msix, .mem]
  | .pstFrameLoRead _ _ _ => [.regs, .out, .mgt]
  | .xltCtxSelWrite _ _ => [.regs]
  | .xltSegSelWrite _ _ => [.regs]
  | .xltApplyCtx _ _ => [.regs, .out, .xlt, .gate, .rack, .entries, .msix]
  | .xltApplySeg _ _ => [.regs, .out, .xlt, .gate, .rack, .entries, .msix]
  | .xltAtcFlush _ _ _ => [.xlt]
  | .atsInvalidationRequest _ _ _ _ _ => [.xlt]
  | .atsInvalidationCompletion _ _ => [.regs, .out, .xlt, .msix]
  | .translationCompletion _ _ _ _ _ => [.regs, .fresh, .out, .xlt, .store, .core, .emb, .vec, .rpl, .kvp, .hxl, .coh, .gate, .err, .rack, .sys, .mgt, .entries, .msix, .mem]
  | .prgResponse _ _ => [.regs, .fresh, .out, .cmdq, .xlt, .store, .core, .emb, .vec, .rpl, .kvp, .hxl, .coh, .gate, .err, .rack, .sys, .mgt, .entries, .msix, .mem]
  | .priTimeout _ => [.regs, .fresh, .out, .xlt, .store, .core, .emb, .vec, .rpl, .kvp, .hxl, .coh, .gate, .err, .rack, .sys, .mgt, .entries, .msix, .mem]
  | .priReenable _ => [.cmdq]
  | .hostDmaCompletion _ _ _ _ => [.regs, .fresh, .out, .xlt, .store, .core, .emb, .vec, .rpl, .kvp, .hxl, .coh, .gate, .err, .rack, .sys, .mgt, .entries, .msix, .mem]
  | .nop _ => [.entries]
  | .hostToStore _ => [.regs, .fresh, .out, .xlt, .store, .core, .emb, .vec, .rpl, .kvp, .hxl, .coh, .gate, .err, .rack, .sys, .mgt, .entries, .msix, .mem]
  | .storeToHost _ => [.regs, .fresh, .out, .xlt, .store, .core, .emb, .vec, .rpl, .kvp, .hxl, .coh, .gate, .err, .rack, .sys, .mgt, .entries, .msix, .mem]
  | .storeCopy _ => [.regs, .out, .xlt, .store, .vec, .kvp, .hxl, .coh, .gate, .err, .rack, .sys, .mgt, .entries, .msix, .mem]
  | .prefetchHost _ => [.regs, .fresh, .out, .xlt, .store, .core, .emb, .vec, .rpl, .kvp, .hxl, .coh, .gate, .err, .rack, .sys, .mgt, .entries, .msix, .mem]
  | .advise _ => [.regs, .out, .store, .rack, .entries, .msix]
  | .migrateIn _ => [.regs, .fresh, .out, .xlt, .store, .core, .emb, .vec, .rpl, .kvp, .hxl, .coh, .gate, .err, .rack, .sys, .mgt, .entries, .msix, .mem]
  | .migrateOut _ => [.regs, .fresh, .out, .xlt, .store, .core, .emb, .vec, .rpl, .kvp, .hxl, .coh, .gate, .err, .rack, .sys, .mgt, .entries, .msix, .mem]
  | .invalidate _ => [.entries]
  | .revoke _ => [.regs, .out, .xlt, .store, .vec, .kvp, .hxl, .coh, .gate, .err, .rack, .sys, .mgt, .entries, .msix, .mem]
  | .revokeComplete _ _ => [.regs, .out, .xlt, .store, .vec, .kvp, .hxl, .coh, .gate, .err, .rack, .sys, .mgt, .entries, .msix, .mem]
  | .tierCtrlLock _ => [.regs]
  | .place _ => [.regs, .out, .store, .rack, .entries]
  | .seal _ => [.regs, .out, .store, .rack, .entries]
  | .raise _ => [.regs, .out, .store, .rack, .mgt, .entries, .msix]
  | .lower _ => [.out, .store, .rack, .entries]
  | .residency _ => [.out, .rack, .entries]
  | .chairliftMoveStart _ _ => [.store]
  | .moveDirectorySwitch _ => [.regs, .fresh, .out, .cmdq, .xlt, .store, .emb, .vec, .kvp, .hxl, .coh, .gate, .err, .rack, .sys, .mgt, .entries, .msix, .mem]
  | .journalWaitResume _ _ => [.regs, .fresh, .out, .cmdq, .xlt, .store, .core, .emb, .vec, .rpl, .kvp, .hxl, .coh, .gate, .err, .rack, .sys, .mgt, .entries, .msix, .mem]
  | .heatEpochEnd => [.store]
  | .driftSample _ _ _ _ _ => [.store]
  | .deviceTempRead _ _ _ _ => [.regs, .out, .store, .msix]
  | .braceAreaErased _ => [.regs, .out, .store, .msix]
  | .metadataCheckpoint => [.store]
  | .invocationStart _ => [.regs, .fresh, .out, .store, .core, .vec, .err, .rack, .sys, .mgt, .entries, .msix, .mem]
  | .recipeNop _ => [.core]
  | .recipeLoad _ => [.regs, .fresh, .out, .store, .core, .vec, .err, .rack, .sys, .mgt, .entries, .msix, .mem]
  | .recipeStore _ => [.regs, .fresh, .out, .store, .core, .vec, .err, .rack, .sys, .mgt, .entries, .msix, .mem]
  | .recipeGather _ => [.regs, .fresh, .out, .store, .core, .vec, .err, .rack, .sys, .mgt, .entries, .msix, .mem]
  | .recipeScatter _ => [.regs, .fresh, .out, .store, .core, .vec, .err, .rack, .sys, .mgt, .entries, .msix, .mem]
  | .atomicAdd _ => [.regs, .fresh, .out, .store, .core, .vec, .err, .rack, .sys, .mgt, .entries, .msix, .mem]
  | .loop _ => [.core]
  | .endloop _ => [.core]
  | .signal _ => [.regs, .fresh, .out, .store, .core, .vec, .gate, .err, .rack, .sys, .mgt, .entries, .msix, .mem]
  | .flags _ => [.core]
  | .recipeEnd _ => [.regs, .fresh, .out, .store, .core, .vec, .err, .rack, .sys, .mgt, .entries, .msix, .mem]
  | .copy _ => [.regs, .fresh, .out, .store, .core, .vec, .err, .rack, .sys, .mgt, .entries, .msix, .mem]
  | .add _ => [.regs, .fresh, .out, .store, .core, .vec, .err, .rack, .sys, .mgt, .entries, .msix, .mem]
  | .sub _ => [.regs, .fresh, .out, .store, .core, .vec, .err, .rack, .sys, .mgt, .entries, .msix, .mem]
  | .mul _ => [.regs, .fresh, .out, .store, .core, .vec, .err, .rack, .sys, .mgt, .entries, .msix, .mem]
  | .muladd _ => [.regs, .fresh, .out, .store, .core, .vec, .err, .rack, .sys, .mgt, .entries, .msix, .mem]
  | .max _ => [.regs, .fresh, .out, .store, .core, .vec, .err, .rack, .sys, .mgt, .entries, .msix, .mem]
  | .min _ => [.regs, .fresh, .out, .store, .core, .vec, .err, .rack, .sys, .mgt, .entries, .msix, .mem]
  | .abs _ => [.regs, .fresh, .out, .store, .core, .vec, .err, .rack, .sys, .mgt, .entries, .msix, .mem]
  | .div _ => [.regs, .fresh, .out, .store, .core, .vec, .err, .rack, .sys, .mgt, .entries, .msix, .mem]
  | .sqrt _ => [.regs, .fresh, .out, .store, .core, .vec, .err, .rack, .sys, .mgt, .entries, .msix, .mem]
  | .cmplt _ => [.regs, .fresh, .out, .store, .core, .vec, .err, .rack, .sys, .mgt, .entries, .msix, .mem]
  | .select _ => [.regs, .fresh, .out, .store, .core, .vec, .err, .rack, .sys, .mgt, .entries, .msix, .mem]
  | .dot _ => [.regs, .fresh, .out, .store, .core, .vec, .err, .rack, .sys, .mgt, .entries, .msix, .mem]
  | .l2sq _ => [.regs, .fresh, .out, .store, .core, .vec, .err, .rack, .sys, .mgt, .entries, .msix, .mem]
  | .reduce _ => [.regs, .fresh, .out, .store, .core, .vec, .err, .rack, .sys, .mgt, .entries, .msix, .mem]
  | .hash _ => [.regs, .fresh, .out, .store, .core, .vec, .err, .rack, .sys, .mgt, .entries, .msix, .mem]
  | .topk _ => [.regs, .fresh, .out, .store, .core, .vec, .err, .rack, .sys, .mgt, .entries, .msix, .mem]
  | .streamSettle _ _ => [.regs, .fresh, .out, .xlt, .store, .core, .vec, .kvp, .hxl, .coh, .gate, .err, .rack, .sys, .mgt, .entries, .msix, .mem]
  | .holdGranuleAcquired _ => [.core]
  | .holdTimeout _ => [.regs, .fresh, .out, .store, .core, .vec, .err, .rack, .sys, .mgt, .entries, .msix, .mem]
  | .cycleLimitExpiry _ => [.regs, .fresh, .out, .store, .core, .vec, .err, .rack, .sys, .mgt, .entries, .msix, .mem]
  | .coreExtLoad _ => [.regs, .out, .core, .msix]
  | .coreExtLoadDone _ _ _ => [.regs, .out, .core, .msix]
  | .coreExtRemove _ => [.core]
  | .embDefine _ => [.out, .emb, .rack, .entries]
  | .embDrop _ => [.out, .emb, .rack, .entries]
  | .embQuery _ => [.entries]
  | .embGather _ => [.regs, .fresh, .out, .xlt, .store, .core, .emb, .vec, .rpl, .kvp, .hxl, .coh, .gate, .err, .rack, .sys, .mgt, .entries, .msix, .mem]
  | .embUpdate _ => [.regs, .out, .xlt, .store, .emb, .vec, .kvp, .hxl, .coh, .gate, .err, .rack, .sys, .mgt, .entries, .msix, .mem]
  | .embWrite _ => [.regs, .out, .xlt, .store, .vec, .kvp, .hxl, .coh, .gate, .err, .rack, .sys, .mgt, .entries, .msix, .mem]
  | .embStepClose _ => [.regs, .out, .xlt, .store, .emb, .vec, .kvp, .hxl, .coh, .gate, .err, .rack, .sys, .mgt, .entries, .msix, .mem]
  | .embPublish _ => [.regs, .out, .emb, .rack, .entries, .msix]
  | .embRetire _ => [.regs, .out, .emb, .msix]
  | .vecDefine _ => [.regs, .out, .xlt, .store, .vec, .kvp, .hxl, .coh, .gate, .err, .rack, .sys, .mgt, .entries, .msix, .mem]
  | .vecDrop _ => [.out, .vec, .rack, .entries]
  | .vecQuery _ => [.out, .rack, .entries]
  | .vecSearch _ => [.regs, .fresh, .out, .xlt, .store, .core, .emb, .vec, .rpl, .kvp, .hxl, .coh, .gate, .err, .rack, .sys, .mgt, .entries, .msix, .mem]
  | .walkRound _ => [.regs, .fresh, .out, .xlt, .store, .core, .emb, .vec, .rpl, .kvp, .hxl, .coh, .gate, .err, .rack, .sys, .mgt, .entries, .msix, .mem]
  | .vecInsert _ => [.regs, .out, .xlt, .store, .vec, .kvp, .hxl, .coh, .gate, .err, .rack, .sys, .mgt, .entries, .msix, .mem]
  | .vecDelete _ => [.regs, .out, .xlt, .store, .vec, .kvp, .hxl, .coh, .gate, .err, .rack, .sys, .mgt, .entries, .msix, .mem]
  | .vecRepair _ => [.regs, .out, .store, .vec, .err, .rack, .sys, .mgt, .entries, .msix, .mem]
  | .vecRepairNodeStart _ => [.regs, .out, .xlt, .store, .vec, .kvp, .hxl, .coh, .gate, .err, .rack, .sys, .mgt, .entries, .msix, .mem]
  | .vecPassEnd _ => [.regs, .out, .xlt, .store, .vec, .kvp, .hxl, .coh, .gate, .err, .rack, .sys, .mgt, .entries, .msix, .mem]
  | .rplDefine _ => [.out, .rpl, .rack, .entries]
  | .rplDrop _ => [.out, .rpl, .rack, .entries]
  | .rplQuery _ => [.entries]
  | .rplInsert _ => [.regs, .fresh, .out, .xlt, .store, .core, .emb, .vec, .rpl, .kvp, .hxl, .coh, .gate, .err, .rack, .sys, .mgt, .entries, .msix, .mem]
  | .rplReservationGrant _ => [.out, .rpl, .rack, .entries]
  | .rplSample _ => [.regs, .fresh, .out, .xlt, .store, .core, .emb, .vec, .rpl, .kvp, .hxl, .coh, .gate, .err, .rack, .sys, .mgt, .entries, .msix, .mem]
  | .rplUpdate _ => [.regs, .fresh, .out, .xlt, .store, .core, .emb, .vec, .rpl, .kvp, .hxl, .coh, .gate, .err, .rack, .sys, .mgt, .entries, .msix, .mem]
  | .rplTreePass _ _ => [.regs, .fresh, .out, .xlt, .store, .core, .emb, .vec, .rpl, .kvp, .hxl, .coh, .gate, .err, .rack, .sys, .mgt, .entries, .msix, .mem]
  | .rplDescent _ _ => [.regs, .fresh, .out, .xlt, .store, .core, .emb, .vec, .rpl, .kvp, .hxl, .coh, .gate, .err, .rack, .sys, .mgt, .entries, .msix, .mem]
  | .kvpDefine _ => [.out, .kvp, .rack, .entries]
  | .kvpDrop _ => [.out, .kvp, .rack, .entries]
  | .kvpQuery _ => [.entries]
  | .kvpOpen _ => [.regs, .fresh, .out, .xlt, .store, .core, .emb, .vec, .rpl, .kvp, .hxl, .coh, .gate, .err, .rack, .sys, .mgt, .entries, .msix, .mem]
  | .kvpAppend _ => [.regs, .fresh, .out, .xlt, .store, .core, .emb, .vec, .rpl, .kvp, .hxl, .coh, .gate, .err, .rack, .sys, .mgt, .entries, .msix, .mem]
  | .kvpLock _ => [.regs, .fresh, .out, .xlt, .store, .core, .emb, .vec, .rpl, .kvp, .hxl, .coh, .gate, .err, .rack, .sys, .mgt, .entries, .msix, .mem]
  | .kvpUnlock _ => [.regs, .fresh, .out, .xlt, .store, .core, .emb, .vec, .rpl, .kvp, .hxl, .coh, .gate, .err, .rack, .sys, .mgt, .entries, .msix, .mem]
  | .kvpLockExpiry _ _ => [.regs, .out, .kvp, .rack, .entries, .msix]
  | .kvpClose _ => [.regs, .fresh, .out, .xlt, .store, .core, .emb, .vec, .rpl, .kvp, .hxl, .coh, .gate, .err, .rack, .sys, .mgt, .entries, .msix, .mem]
  | .kvpHandover _ => [.regs, .fresh, .out, .xlt, .store, .core, .emb, .vec, .rpl, .kvp, .hxl, .coh, .gate, .err, .rack, .sys, .mgt, .entries, .msix, .mem]
  | .kvpOffer _ _ _ _ _ _ => [.out, .kvp]
  | .kvpOfferAccept _ _ _ _ => [.regs, .fresh, .out, .xlt, .store, .core, .emb, .vec, .rpl, .kvp, .hxl, .coh, .gate, .err, .rack, .sys, .mgt, .entries, .msix, .mem]
  | .kvpOfferDecline _ _ _ _ => [.regs, .fresh, .out, .xlt, .store, .core, .emb, .vec, .rpl, .kvp, .hxl, .coh, .gate, .err, .rack, .sys, .mgt, .entries, .msix, .mem]
  | .kvpOfferTimeout _ _ => [.regs, .fresh, .out, .xlt, .store, .core, .emb, .vec, .rpl, .kvp, .hxl, .coh, .gate, .err, .rack, .sys, .mgt, .entries, .msix, .mem]
  | .gateSignal _ => [.regs, .fresh, .out, .gate, .err, .rack, .mgt, .entries, .msix]
  | .gateWait _ => [.regs, .fresh, .out, .gate, .err, .rack, .mgt, .entries, .msix]
  | .gateReset _ => [.regs, .out, .gate, .rack, .entries]
  | .gateRead _ => [.regs, .fresh, .out, .gate, .err, .rack, .mgt, .entries, .msix]
  | .fence _ => [.regs, .fresh, .out, .hxl, .gate, .err, .rack, .mgt, .entries, .msix]
  | .fenceProbeResend _ _ => [.out, .hxl, .gate]
  | .fencePromotionTimeout _ _ => [.gate, .entries]
  | .gateWatchdogExpiry _ => [.regs, .fresh, .out, .xlt, .store, .core, .emb, .vec, .rpl, .coh, .gate, .err, .rack, .sys, .mgt, .entries, .msix, .mem]
  | .gateBlkSelWrite _ _ => [.regs]
  | .gateBlkApply _ => [.regs, .out, .gate, .rack, .entries, .msix]
  | .gateDbgRead _ => [.regs, .fresh, .out, .gate, .err, .mgt, .msix]
  | .gateDbgSet _ => [.regs, .out, .gate, .rack, .entries, .msix]
  | .drainProbe _ _ => [.regs, .out, .hxl, .gate, .msix]
  | .drainAck _ _ => [.regs, .fresh, .out, .hxl, .gate, .err, .rack, .mgt, .entries, .msix]
  | .drainReroute _ _ => [.regs, .out, .hxl, .gate, .msix]
  | .drainAnswerDue _ _ _ => [.regs, .fresh, .out, .hxl, .gate, .err, .rack, .mgt, .entries, .msix]
  | .rd _ _ => [.regs, .out, .xlt, .store, .vec, .kvp, .hxl, .coh, .gate, .err, .rack, .sys, .mgt, .entries, .msix, .mem]
  | .rdOwn _ _ => [.regs, .out, .xlt, .store, .vec, .kvp, .hxl, .coh, .gate, .err, .rack, .sys, .mgt, .entries, .msix, .mem]
  | .wr _ _ => [.regs, .out, .xlt, .store, .vec, .kvp, .hxl, .coh, .gate, .err, .rack, .sys, .mgt, .entries, .msix, .mem]
  | .wrp _ _ => [.regs, .out, .xlt, .store, .vec, .kvp, .hxl, .coh, .gate, .err, .rack, .sys, .mgt, .entries, .msix, .mem]
  | .atom _ _ => [.regs, .out, .xlt, .store, .vec, .kvp, .hxl, .coh, .gate, .err, .rack, .sys, .mgt, .entries, .msix, .mem]
  | .wb _ _ => [.regs, .fresh, .out, .cmdq, .xlt, .store, .emb, .vec, .kvp, .hxl, .coh, .gate, .err, .rack, .sys, .mgt, .entries, .msix, .mem]
  | .inv _ _ => [.out, .hxl]
  | .invAck _ _ => [.regs, .fresh, .out, .cmdq, .xlt, .store, .emb, .vec, .kvp, .hxl, .coh, .gate, .err, .rack, .sys, .mgt, .entries, .msix, .mem]
  | .invData _ _ => [.regs, .fresh, .out, .cmdq, .xlt, .store, .emb, .vec, .kvp, .hxl, .coh, .gate, .err, .rack, .sys, .mgt, .entries, .msix, .mem]
  | .cpl _ _ => [.out, .xlt, .hxl]
  | .cplNd _ _ => [.out, .xlt, .hxl]
  | .cplVal _ _ => [.out, .xlt, .hxl]
  | .cmd _ _ => [.regs, .out, .cmdq, .store, .hxl, .sys, .mgt, .entries, .msix]
  | .cmdCpl _ _ => [.regs, .fresh, .out, .cmdq, .hxl, .gate, .err, .rack, .mgt, .entries, .msix]
  | .ctrlAbort _ _ => [.regs, .fresh, .out, .xlt, .store, .core, .emb, .vec, .rpl, .hxl, .coh, .gate, .err, .rack, .sys, .mgt, .entries, .msix, .mem]
  | .ctrlRelease _ _ => [.regs, .out, .cmdq, .hxl, .msix]
  | .ctrlGrant _ => [.cmdq]
  | .cohTransactionStart _ => [.regs, .fresh, .out, .cmdq, .xlt, .store, .emb, .vec, .kvp, .hxl, .coh, .gate, .err, .rack, .sys, .mgt, .entries, .msix, .mem]
  | .cohHoldExpiry _ => [.coh]
  | .snoopTimeout _ _ => [.regs, .fresh, .out, .cmdq, .xlt, .store, .emb, .vec, .kvp, .hxl, .coh, .gate, .err, .rack, .sys, .mgt, .entries, .msix, .mem]
  | .reclaimEnd _ => [.regs, .out, .store, .coh, .rack, .entries, .msix]
  | .cohAgentDeclare _ _ => [.regs, .fresh, .out, .cmdq, .xlt, .store, .emb, .vec, .kvp, .hxl, .coh, .gate, .err, .rack, .sys, .mgt, .entries, .msix, .mem]
  | .cohAgentRevive _ _ => [.coh]
  | .cohProbe _ => [.regs]
  | .flitReceive _ _ _ _ _ _ _ _ => [.regs, .out, .vec, .hxl, .gate, .err, .rack, .sys, .mgt, .entries, .msix]
  | .nakRepeat _ => [.out, .hxl]
  | .ackTimeout _ => [.regs, .out, .hxl, .gate, .err, .mgt, .msix]
  | .rekey _ => [.hxl]
  | .hxlPortCfgWrite _ _ => [.regs, .out, .hxl, .gate, .err, .msix]
  | .hxlPortRetrain _ => [.regs, .out, .hxl, .gate, .err, .mgt, .msix]
  | .hxlPortReset _ => [.regs, .out, .hxl, .gate, .err, .msix]
  | .detectComplete _ _ _ => [.hxl]
  | .detectTimeout _ => [.regs, .out, .vec, .hxl, .gate, .err, .rack, .sys, .mgt, .entries, .msix]
  | .equalizeComplete _ => [.hxl]
  | .equalizeTimeout _ _ => [.regs, .out, .vec, .hxl, .gate, .err, .rack, .sys, .mgt, .entries, .msix]
  | .blockLockAcquired _ => [.hxl]
  | .lockTimeout _ => [.regs, .out, .vec, .hxl, .gate, .err, .rack, .sys, .mgt, .entries, .msix]
  | .param _ _ => [.regs, .out, .cmdq, .vec, .hxl, .gate, .err, .rack, .sys, .mgt, .entries, .msix]
  | .echo _ _ _ _ => [.out, .hxl]
  | .portActivate _ => [.regs, .out, .cmdq, .hxl, .msix]
  | .retrainComplete _ => [.out, .hxl]
  | .retrainTimeout _ => [.regs, .out, .vec, .hxl, .gate, .err, .rack, .sys, .mgt, .entries, .msix]
  | .spdmSessionTimeout _ => [.regs, .out, .vec, .hxl, .gate, .err, .rack, .sys, .mgt, .entries, .msix]
  | .noRouteExpiry _ => [.regs, .out, .xlt, .hxl, .msix]
  | .routeDrainEnd _ => [.regs, .out, .hxl, .msix]
  | .checkerError _ _ _ => [.regs, .fresh, .out, .pst, .store, .core, .vec, .err, .rack, .sys, .mgt, .entries, .msix, .mem]
  | .ceStorm _ => [.regs, .out, .core, .vec, .err, .rack, .sys, .mgt, .entries, .msix]
  | .groomerRead _ _ _ _ => [.regs, .out, .store, .vec, .err, .rack, .sys, .mgt, .entries, .msix, .mem]
  | .errSitzUnfreeze _ => [.regs]
  | .errSitzClear _ => [.regs, .err]
  | .errFirstClear _ => [.err]
  | .errUnitOnline _ => [.err]
  | .errInjFire _ => [.regs, .fresh, .out, .pst, .store, .core, .vec, .gate, .err, .rack, .sys, .mgt, .entries, .msix, .mem]
  | .heartbeat _ _ => [.regs, .fresh, .out, .xlt, .store, .core, .emb, .vec, .rpl, .hxl, .coh, .gate, .err, .rack, .sys, .mgt, .entries, .msix, .mem]
  | .heartbeatSend => [.out, .hxl]
  | .suspicionTimeout _ => [.out, .hxl, .rack, .entries]
  | .propose _ _ => [.regs, .out, .store, .hxl, .rack, .entries, .msix]
  | .accept _ _ => [.regs, .out, .store, .hxl, .rack, .entries, .msix]
  | .commit _ _ => [.regs, .fresh, .out, .cmdq, .xlt, .store, .core, .emb, .vec, .rpl, .kvp, .hxl, .coh, .gate, .err, .rack, .sys, .mgt, .entries, .msix, .mem]
  | .consFatal _ _ => [.regs, .out, .store, .hxl, .rack, .entries, .msix]
  | .consBrace _ _ => [.regs, .out, .store, .hxl, .coh, .gate, .rack, .entries, .msix]
  | .mapChangeApply => [.regs, .fresh, .out, .cmdq, .xlt, .store, .core, .emb, .vec, .rpl, .kvp, .hxl, .coh, .gate, .err, .rack, .sys, .mgt, .entries, .msix, .mem]
  | .coordinatorTakeover => [.out, .hxl, .rack, .entries]
  | .quorumLoss => [.regs, .fresh, .out, .xlt, .store, .core, .emb, .vec, .rpl, .coh, .gate, .err, .rack, .sys, .mgt, .entries, .msix, .mem]
  | .epochHoldExpiry _ _ => [.out, .rack]
  | .remirrorCopy _ _ => [.regs, .out, .store, .vec, .err, .rack, .sys, .mgt, .entries, .msix, .mem]
  | .flashRebuild _ _ _ => [.regs, .store, .rack]
  | .mapFormTimeout _ => [.regs, .store, .rack, .entries]
  | .mapQuery _ => [.entries]
  | .mapForm _ => [.regs, .out, .store, .hxl, .rack, .entries]
  | .mapAdmit _ => [.out, .hxl, .rack, .entries]
  | .mapFence _ => [.out, .hxl, .rack, .entries]
  | .mapAssign _ => [.out, .store, .hxl, .coh, .gate, .rack, .entries]
  | .cmpDefine _ => [.fresh, .out, .rack, .entries]
  | .cmpDrop _ => [.out, .rack, .entries]
  | .cmpGrant _ => [.out, .store, .rack, .entries, .mem]
  | .cmpWithdraw _ => [.regs, .out, .xlt, .store, .vec, .kvp, .hxl, .coh, .gate, .err, .rack, .sys, .mgt, .entries, .msix, .mem]
  | .cmpQuery _ => [.entries]
  | .meterQuery _ => [.out, .rack, .entries]
  | .meteringTick _ => [.rack]
  | .mgtMeterSnap _ => [.regs]
  | .powerOnReset _ _ => [.regs, .frame, .cmdq, .pst, .xlt, .store, .core, .emb, .vec, .rpl, .kvp, .hxl, .coh, .gate, .err, .rack, .sys, .mgt, .entries, .msix, .mem]
  | .vstby5Lost => [.regs, .out, .vec, .err, .rack, .sys, .mgt, .entries, .msix]
  | .startup _ _ _ _ _ => [.regs, .frame, .fresh, .out, .cmdq, .pst, .xlt, .store, .core, .emb, .vec, .rpl, .kvp, .hxl, .coh, .gate, .err, .rack, .sys, .mgt, .entries, .msix, .mem]
  | .storeBringup _ _ _ => [.regs, .fresh, .out, .store, .emb, .vec, .err, .rack, .sys, .mgt, .entries, .msix, .mem]
  | .refclkLoss => [.regs, .fresh, .out, .cmdq, .xlt, .store, .core, .emb, .vec, .rpl, .hxl, .coh, .gate, .err, .rack, .sys, .mgt, .entries, .msix, .mem]
  | .clkSscWrite _ _ => [.regs, .out, .msix]
  | .sysRstAssert => [.regs, .fresh, .out, .cmdq, .pst, .xlt, .store, .core, .emb, .vec, .rpl, .kvp, .hxl, .coh, .gate, .err, .rack, .sys, .mgt, .entries, .msix, .mem]
  | .sysRstDeassert => [.sys]
  | .perstAssert _ => [.regs, .fresh, .out, .cmdq, .xlt, .store, .core, .emb, .vec, .rpl, .coh, .gate, .err, .rack, .sys, .mgt, .entries, .msix, .mem]
  | .perstDeassert _ => [.sys]
  | .fenceReqAssert => [.regs, .fresh, .out, .xlt, .store, .core, .emb, .vec, .rpl, .coh, .gate, .err, .rack, .sys, .mgt, .entries, .msix, .mem]
  | .tapReset _ => [.sys]
  | .jtagDebugAccess _ => [.regs, .fresh, .out, .cmdq, .pst, .xlt, .store, .core, .emb, .vec, .rpl, .kvp, .hxl, .coh, .gate, .err, .rack, .sys, .mgt, .entries, .msix, .mem]
  | .psuAcOkDeassert => [.regs, .fresh, .out, .cmdq, .pst, .xlt, .store, .core, .emb, .vec, .rpl, .kvp, .hxl, .coh, .gate, .err, .rack, .sys, .mgt, .entries, .msix, .mem]
  | .psuAcOkAssert => [.sys]
  | .vin12OvTrip => [.regs, .out, .core, .vec, .hxl, .err, .rack, .sys, .mgt, .entries, .msix]
  | .vin12SurgeBrace _ => [.regs, .fresh, .out, .cmdq, .pst, .xlt, .store, .core, .emb, .vec, .rpl, .kvp, .hxl, .coh, .gate, .err, .rack, .sys, .mgt, .entries, .msix, .mem]
  | .vin12Surge => [.regs, .out, .msix]
  | .vin12SagEnter => [.regs, .out, .sys, .msix]
  | .vin12SagExit => [.regs, .sys]
  | .vin12DeepSag _ => [.regs, .fresh, .out, .cmdq, .pst, .xlt, .store, .core, .emb, .vec, .rpl, .kvp, .hxl, .coh, .gate, .err, .rack, .sys, .mgt, .entries, .msix, .mem]
  | .vin12UvTrip => [.regs, .out, .core, .vec, .hxl, .err, .rack, .sys, .mgt, .entries, .msix]
  | .snowploughTick _ _ _ _ => [.regs, .out, .sys, .mgt, .msix]
  | .braceFlushStart _ => [.regs, .store, .sys]
  | .braceCommitRecord _ _ _ => [.regs, .out, .store, .core, .vec, .hxl, .err, .rack, .sys, .mgt, .entries, .msix]
  | .restartQualified => [.sys]
  | .thermalSample _ _ _ => [.regs, .fresh, .out, .cmdq, .pst, .xlt, .store, .core, .emb, .vec, .rpl, .kvp, .hxl, .coh, .gate, .err, .rack, .sys, .mgt, .entries, .msix, .mem]
  | .pwrClearMinmax _ => [.regs]
  | .pwrClearBrace _ => [.regs, .out, .mgt, .msix]
  | .pwrEnergyLoRead _ _ _ => [.regs, .out, .mgt]
  | .rplBufHeadLoRead _ _ _ => [.regs, .out, .mgt]
  | .secSvnCommit _ => [.sys]
  | .secLcProvision _ _ => [.regs, .out, .vec, .err, .rack, .sys, .mgt, .entries, .msix]
  | .secTokenSubmit _ => [.regs, .sys]
  | .tokenVerifyComplete _ _ => [.regs, .fresh, .out, .cmdq, .pst, .xlt, .store, .core, .emb, .vec, .rpl, .kvp, .hxl, .coh, .gate, .err, .rack, .sys, .mgt, .entries, .msix, .mem]
  | .secNewNonce _ => [.fresh, .sys]
  | .secTokenLower _ => [.regs, .out, .vec, .err, .rack, .sys, .mgt, .entries, .msix]
  | .debugTimerExpiry => [.regs, .out, .vec, .err, .rack, .sys, .mgt, .entries, .msix]
  | .secPwrTargetRun _ => [.regs, .out, .store, .sys, .mgt, .msix]
  | .secPwrTargetRest _ => [.regs, .out, .pst, .store, .core, .sys, .mgt, .msix]
  | .secPwrTargetStandby _ => [.regs, .fresh, .out, .cmdq, .pst, .xlt, .store, .core, .emb, .vec, .rpl, .kvp, .hxl, .coh, .gate, .err, .rack, .sys, .mgt, .entries, .msix, .mem]
  | .getVersion _ => [.out, .mgt]
  | .getCapabilities _ => [.out, .mgt]
  | .negotiateAlgorithms _ _ => [.out, .mgt]
  | .getDigests _ => [.out]
  | .getCertificate _ _ _ _ => [.out]
  | .challenge _ _ => [.fresh, .out]
  | .getMeasurements _ _ _ => [.fresh, .out]
  | .keyExchange _ _ => [.fresh, .out, .mgt]
  | .finish _ _ _ => [.regs, .out, .vec, .hxl, .gate, .err, .rack, .sys, .mgt, .entries, .msix]
  | .spdmHeartbeat _ _ => [.out]
  | .keyUpdate _ _ => [.out, .mgt]
  | .endSession _ _ => [.out, .hxl, .mgt]
  | .getCsr _ => [.fresh, .out]
  | .setCertificate _ _ _ _ => [.out, .mgt]
  | .entdaa _ => [.out, .mgt]
  | .setEndpointId _ _ => [.out, .mgt]
  | .getEndpointId _ => [.out]
  | .getEndpointUuid _ => [.out]
  | .getMctpVersionSupport _ => [.out]
  | .getMessageTypeSupport _ => [.out]
  | .getTid _ => [.out]
  | .setTid _ _ => [.out, .mgt]
  | .getPldmVersion _ _ => [.out]
  | .getPldmTypes _ => [.out]
  | .getPldmCommands _ _ => [.out]
  | .getPdrRepositoryInfo _ => [.out]
  | .getPdr _ _ => [.out]
  | .getSensorReading _ _ _ => [.out]
  | .getStateSensorReadings _ _ => [.out]
  | .setEventReceiver _ _ => [.out, .mgt]
  | .pollForPlatformEventMessage _ => [.out, .mgt]
  | .requestUpdate _ _ _ => [.regs, .out, .sys, .mgt, .msix]
  | .firmwareDataChunk _ _ _ _ => [.regs, .out, .sys, .mgt, .msix]
  | .activateFirmware _ _ _ => [.regs, .out, .mgt, .msix]
  | .cancelUpdate _ _ => [.regs, .out, .mgt, .msix]
  | .readSitzmark _ _ => [.out]
  | .readFirst _ => [.out]
  | .readReturn _ _ _ => [.out]
  | .readReg _ _ => [.regs, .out, .mgt]
  | .pmcSnap _ => [.mgt]
  | .pmcFreeze _ => [.mgt]
  | .pmcUnfreeze _ => [.mgt]
  | .pmcClearAll _ => [.mgt]
  | .pmcOwnerWrite _ _ => [.mgt]
  | .pmcValueLoRead _ _ _ _ => [.regs, .out, .mgt]
  | .pmcOverflow _ _ => [.regs, .out, .mgt, .msix]
  | .pmcVSnap _ => [.mgt]
  | .pmcVFreeze _ => [.mgt]
  | .pmcVUnfreeze _ => [.mgt]
  | .vstby5Restored => [.regs, .sys]
  | .refclkRestored => [.regs, .out, .sys, .mgt, .msix]
  | .blockLockLost _ => [.regs, .out, .hxl, .gate, .err, .mgt, .msix]
  | .pcieCompletionTimeout _ _ => [.xlt, .entries]
  | .flashDieReady _ _ _ => [.regs, .out, .vec, .err, .rack, .sys, .mgt, .entries, .msix]
  | .busParityError _ _ _ _ => [.regs, .out, .store, .vec, .err, .rack, .sys, .mgt, .entries, .msix]
  | .hxlRouteWrite _ _ => [.out, .hxl]
  | .queryDeviceIdentifiers _ _ => [.fresh, .out]
  | .getFirmwareParameters _ _ => [.out]
  | .passComponentTable _ _ _ _ => [.out, .mgt]
  | .updateComponent _ _ _ _ => [.out, .mgt]
  | .getStatus _ _ => [.out]
  | .cancelUpdateComponent _ _ => [.regs, .out, .mgt, .msix]

end Sys2Proof.Machine
end

