-- ==== Sys2Proof/WellFormed.lean ====
section
/-!
DEFINITION. Well-formed commands: what the rules say of an operand's range whatever the state is. A command from outside these
ranges cannot reach the block; the meanings answer it with no effect.
-/
namespace Sys2Proof

/-- A PCIe function, 64 x port + number (R38, R141). -/
def funcOk (f : Nat) : Bool := decide (f < 128)
/-- A function's number within its port (R92). -/
def vfOk (f : Nat) : Bool := decide (f < 64)
/-- An HXL port (R368). -/
def portOk (p : Nat) : Bool := decide (p < 16)
/-- A PCIe port (R38). -/
def pcieOk (p : Nat) : Bool := decide (p < 2)
/-- A local queue pair (R90). -/
def qpOk (q : Nat) : Bool := decide (q < 2048)
/-- A 16-bit value: an index of a ring, a QTAG (R90). -/
def halfOk (v : Nat) : Bool := decide (v < 65536)
/-- An MSI-X vector (R39). -/
def vectorOk (v : Nat) : Bool := decide (v < 2048)
/-- A context, or a table (R141, R260). -/
def ctxOk (c : Nat) : Bool := decide (c < 4096)
/-- A segment of a context (R144). -/
def segOk (i : Nat) : Bool := decide (i < 16)
/-- An edge core (R217). -/
def coreOk (c : Nat) : Bool := decide (c < 1200)
/-- A checker (R483). -/
def checkerOk (c : Nat) : Bool := decide (c < 3072)
/-- A physical counter (R616). -/
def counterOk (c : Nat) : Bool := decide (c < 2048)
/-- A member of the rack (R494). -/
def memberOk (m : Nat) : Bool := decide (m < 64)
/-- A gate block (R465). -/
def blockOk (b : Nat) : Bool := decide (b < 1024)
/-- A management endpoint, or the link of HXL port p as 16 + p (R536, R603). -/
def endpointOk (e : Nat) : Bool := decide (e < 3) || (decide (16 ≤ e) && decide (e < 32))
/-- A coherence agent (R437). -/
def agentOk (i : Nat) : Bool := decide (i < 512)
/-- A granule of the rack's store: 2^56 bytes (R144, R181). -/
def granuleOk (g : Nat) : Bool := decide (g < 2 ^ 49)
/-- A page of the rack's store. -/
def pageOk (p : Nat) : Bool := decide (p < 2 ^ 44)
/-- One of the two halves of the brace area (R571). -/
def twoOk (h : Nat) : Bool := decide (h < 2)
/-- The operands of a command lie in their ranges. -/
def Instr.wf (i : Instr) : Bool :=
  match i with
  | .registerWrite src _ _ _ => funcOk src
  | .eventEnWrite src _ _ => funcOk src
  | .msixVectorUnmask func vec => funcOk func && vectorOk vec
  | .sqTailDoorbell src qp tail => funcOk src && qpOk qp && halfOk tail
  | .cqHeadDoorbell src qp head => funcOk src && qpOk qp && halfOk head
  | .sqFetch src qp _ _ => funcOk src && qpOk qp
  | .intakeAccept _ _ _ => true
  | .barrierRelease _ => true
  | .work origin _ _ cls _ _ _ _ _ _ => memberOk origin && decide (cls < 16)
  | .workAnswer _ _ _ _ _ _ _ => true
  | .workCancel origin _ => memberOk origin
  | .workHold origin _ => memberOk origin
  | .cancelResend _ => true
  | .commandComplete _ _ => true
  | .cqCoalesceTimeout src qp => funcOk src && qpOk qp
  | .commandTimeout _ => true
  | .abortQtag src qp qtag => funcOk src && qpOk qp && halfOk qtag
  | .abortAllQp src qp => funcOk src && qpOk qp
  | .resultRelease src _ => funcOk src
  | .qpEnable src => funcOk src
  | .qpDisable src => funcOk src
  | .functionLevelReset src => funcOk src
  | .pcieLinkDown port => pcieOk port
  | .fnAdmSelWrite src func => funcOk src && vfOk func
  | .fnAdmApply src => funcOk src
  | .fnHxlSelWrite src port => funcOk src && portOk port
  | .fnHxlApply src => funcOk src
  | .frameBoundary => true
  | .slotIssue kind _ _ queue _ => decide (kind < 5) && queue.all fun q => decide (q.cls < 16) && decide (q.source < 42)
  | .pstImageLoad src => funcOk src
  | .pstLoadDone _ _ => true
  | .pstSwitchArm src => funcOk src
  | .pstSwitchCancel src => funcOk src
  | .tableSwitch => true
  | .epoch port _ _ => portOk port
  | .alignWindowEnd => true
  | .parentLost => true
  | .holdoverExpiry => true
  | .alignCtrlWrite src _ => funcOk src
  | .pstFrameLoRead src _ _ => funcOk src
  | .xltCtxSelWrite src ctx => funcOk src && ctxOk ctx
  | .xltSegSelWrite src seg => funcOk src && segOk seg
  | .xltApplyCtx src _ => funcOk src
  | .xltApplySeg src _ => funcOk src
  | .xltAtcFlush src _ _ => funcOk src
  | .atsInvalidationRequest port func _ _ _ => pcieOk port && funcOk func
  | .atsInvalidationCompletion port _ => pcieOk port
  | .translationCompletion func _ _ _ _ => funcOk func
  | .prgResponse _ _ => true
  | .priTimeout _ => true
  | .priReenable port => pcieOk port
  | .hostDmaCompletion _ _ _ _ => true
  | .nop _ => true
  | .hostToStore _ => true
  | .storeToHost _ => true
  | .storeCopy _ => true
  | .prefetchHost _ => true
  | .advise _ => true
  | .migrateIn _ => true
  | .migrateOut _ => true
  | .invalidate _ => true
  | .revoke _ => true
  | .revokeComplete ctx seg => ctxOk ctx && segOk seg
  | .tierCtrlLock src => funcOk src
  | .place _ => true
  | .seal _ => true
  | .raise _ => true
  | .lower _ => true
  | .residency _ => true
  | .chairliftMoveStart _ page => pageOk page
  | .moveDirectorySwitch page => pageOk page
  | .journalWaitResume _ granule => granuleOk granule
  | .heatEpochEnd => true
  | .driftSample _ _ _ _ _ => true
  | .deviceTempRead _ _ _ _ => true
  | .braceAreaErased half => twoOk half
  | .metadataCheckpoint => true
  | .invocationStart core => coreOk core
  | .recipeNop core => coreOk core
  | .recipeLoad core => coreOk core
  | .recipeStore core => coreOk core
  | .recipeGather core => coreOk core
  | .recipeScatter core => coreOk core
  | .atomicAdd core => coreOk core
  | .loop core => coreOk core
  | .endloop core => coreOk core
  | .signal core => coreOk core
  | .flags core => coreOk core
  | .recipeEnd core => coreOk core
  | .copy core => coreOk core
  | .add core => coreOk core
  | .sub core => coreOk core
  | .mul core => coreOk core
  | .muladd core => coreOk core
  | .max core => coreOk core
  | .min core => coreOk core
  | .abs core => coreOk core
  | .div core => coreOk core
  | .sqrt core => coreOk core
  | .cmplt core => coreOk core
  | .select core => coreOk core
  | .dot core => coreOk core
  | .l2sq core => coreOk core
  | .reduce core => coreOk core
  | .hash core => coreOk core
  | .topk core => coreOk core
  | .streamSettle core _ => coreOk core
  | .holdGranuleAcquired granule => granuleOk granule
  | .holdTimeout core => coreOk core
  | .cycleLimitExpiry core => coreOk core
  | .coreExtLoad src => funcOk src
  | .coreExtLoadDone _ _ _ => true
  | .coreExtRemove src => funcOk src
  | .embDefine _ => true
  | .embDrop _ => true
  | .embQuery _ => true
  | .embGather _ => true
  | .embUpdate _ => true
  | .embWrite _ => true
  | .embStepClose _ => true
  | .embPublish _ => true
  | .embRetire table => ctxOk table
  | .vecDefine _ => true
  | .vecDrop _ => true
  | .vecQuery _ => true
  | .vecSearch _ => true
  | .walkRound _ => true
  | .vecInsert _ => true
  | .vecDelete _ => true
  | .vecRepair _ => true
  | .vecRepairNodeStart _ => true
  | .vecPassEnd _ => true
  | .rplDefine _ => true
  | .rplDrop _ => true
  | .rplQuery _ => true
  | .rplInsert _ => true
  | .rplReservationGrant _ => true
  | .rplSample _ => true
  | .rplUpdate _ => true
  | .rplTreePass _ _ => true
  | .rplDescent _ _ => true
  | .kvpDefine _ => true
  | .kvpDrop _ => true
  | .kvpQuery _ => true
  | .kvpOpen _ => true
  | .kvpAppend _ => true
  | .kvpLock _ => true
  | .kvpUnlock _ => true
  | .kvpLockExpiry _ _ => true
  | .kvpClose _ => true
  | .kvpHandover _ => true
  | .kvpOffer origin _ _ _ _ _ => memberOk origin
  | .kvpOfferAccept origin _ _ _ => memberOk origin
  | .kvpOfferDecline origin _ _ _ => memberOk origin
  | .kvpOfferTimeout _ _ => true
  | .gateSignal _ => true
  | .gateWait _ => true
  | .gateReset _ => true
  | .gateRead _ => true
  | .fence _ => true
  | .fenceProbeResend _ _ => true
  | .fencePromotionTimeout _ _ => true
  | .gateWatchdogExpiry _ => true
  | .gateBlkSelWrite src block => funcOk src && blockOk block
  | .gateBlkApply src => funcOk src
  | .gateDbgRead src => funcOk src
  | .gateDbgSet src => funcOk src
  | .drainProbe port _ => portOk port
  | .drainAck port _ => portOk port
  | .drainReroute port _ => portOk port
  | .drainAnswerDue origin _ _ => memberOk origin
  | .rd port _ => portOk port
  | .rdOwn port _ => portOk port
  | .wr port _ => portOk port
  | .wrp port _ => portOk port
  | .atom port _ => portOk port
  | .wb port _ => portOk port
  | .inv port _ => portOk port
  | .invAck port _ => portOk port
  | .invData port _ => portOk port
  | .cpl port _ => portOk port
  | .cplNd port _ => portOk port
  | .cplVal port _ => portOk port
  | .cmd port _ => portOk port
  | .cmdCpl _ _ => true
  | .ctrlAbort port _ => portOk port
  | .ctrlRelease port _ => portOk port
  | .ctrlGrant port => portOk port
  | .cohTransactionStart granule => granuleOk granule
  | .cohHoldExpiry granule => granuleOk granule
  | .snoopTimeout index granule => agentOk index && granuleOk granule
  | .reclaimEnd index => agentOk index
  | .cohAgentDeclare src index => funcOk src && agentOk index
  | .cohAgentRevive src index => funcOk src && agentOk index
  | .cohProbe src => funcOk src
  | .flitReceive port _ _ _ _ _ _ _ => portOk port
  | .nakRepeat port => portOk port
  | .ackTimeout port => portOk port
  | .rekey port => portOk port
  | .hxlPortCfgWrite src _ => funcOk src
  | .hxlPortRetrain src => funcOk src
  | .hxlPortReset src => funcOk src
  | .detectComplete port _ _ => portOk port
  | .detectTimeout port => portOk port
  | .equalizeComplete port => portOk port
  | .equalizeTimeout port _ => portOk port
  | .blockLockAcquired port => portOk port
  | .lockTimeout port => portOk port
  | .param port _ => portOk port
  | .echo port _ _ _ => portOk port
  | .portActivate port => portOk port
  | .retrainComplete port => portOk port
  | .retrainTimeout port => portOk port
  | .spdmSessionTimeout port => portOk port
  | .noRouteExpiry _ => true
  | .routeDrainEnd member => memberOk member
  | .checkerError chk _ _ => checkerOk chk
  | .ceStorm _ => true
  | .groomerRead _ _ _ _ => true
  | .errSitzUnfreeze src => funcOk src
  | .errSitzClear src => funcOk src
  | .errFirstClear src => funcOk src
  | .errUnitOnline src => funcOk src
  | .errInjFire src => funcOk src
  | .heartbeat port _ => portOk port
  | .heartbeatSend => true
  | .suspicionTimeout member => memberOk member
  | .propose port _ => portOk port
  | .accept port _ => portOk port
  | .commit port _ => portOk port
  | .consFatal port _ => portOk port
  | .consBrace port _ => portOk port
  | .mapChangeApply => true
  | .coordinatorTakeover => true
  | .quorumLoss => true
  | .epochHoldExpiry origin _ => memberOk origin
  | .remirrorCopy _ page => pageOk page
  | .flashRebuild _ _ _ => true
  | .mapFormTimeout _ => true
  | .mapQuery _ => true
  | .mapForm _ => true
  | .mapAdmit _ => true
  | .mapFence _ => true
  | .mapAssign _ => true
  | .cmpDefine _ => true
  | .cmpDrop _ => true
  | .cmpGrant _ => true
  | .cmpWithdraw _ => true
  | .cmpQuery _ => true
  | .meterQuery _ => true
  | .meteringTick _ => true
  | .mgtMeterSnap src => funcOk src
  | .powerOnReset _ _ => true
  | .vstby5Lost => true
  | .startup _ _ _ _ _ => true
  | .storeBringup _ _ _ => true
  | .refclkLoss => true
  | .clkSscWrite src _ => funcOk src
  | .sysRstAssert => true
  | .sysRstDeassert => true
  | .perstAssert port => pcieOk port
  | .perstDeassert port => pcieOk port
  | .fenceReqAssert => true
  | .tapReset _ => true
  | .jtagDebugAccess _ => true
  | .psuAcOkDeassert => true
  | .psuAcOkAssert => true
  | .vin12OvTrip => true
  | .vin12SurgeBrace _ => true
  | .vin12Surge => true
  | .vin12SagEnter => true
  | .vin12SagExit => true
  | .vin12DeepSag _ => true
  | .vin12UvTrip => true
  | .snowploughTick _ _ _ _ => true
  | .braceFlushStart _ => true
  | .braceCommitRecord _ _ _ => true
  | .restartQualified => true
  | .thermalSample _ _ _ => true
  | .pwrClearMinmax src => funcOk src
  | .pwrClearBrace src => funcOk src
  | .pwrEnergyLoRead src _ _ => funcOk src
  | .rplBufHeadLoRead src _ _ => funcOk src
  | .secSvnCommit src => funcOk src
  | .secLcProvision src _ => funcOk src
  | .secTokenSubmit src => funcOk src
  | .tokenVerifyComplete _ _ => true
  | .secNewNonce src => funcOk src
  | .secTokenLower src => funcOk src
  | .debugTimerExpiry => true
  | .secPwrTargetRun src => funcOk src
  | .secPwrTargetRest src => funcOk src
  | .secPwrTargetStandby src => funcOk src
  | .getVersion ep => endpointOk ep
  | .getCapabilities ep => endpointOk ep
  | .negotiateAlgorithms ep _ => endpointOk ep
  | .getDigests ep => endpointOk ep
  | .getCertificate ep _ _ _ => endpointOk ep
  | .challenge ep _ => endpointOk ep
  | .getMeasurements ep _ _ => endpointOk ep
  | .keyExchange ep _ => endpointOk ep
  | .finish ep _ _ => endpointOk ep
  | .spdmHeartbeat ep _ => endpointOk ep
  | .keyUpdate ep _ => endpointOk ep
  | .endSession ep _ => endpointOk ep
  | .getCsr ep => endpointOk ep
  | .setCertificate ep _ _ _ => endpointOk ep
  | .entdaa _ => true
  | .setEndpointId ep _ => endpointOk ep
  | .getEndpointId ep => endpointOk ep
  | .getEndpointUuid ep => endpointOk ep
  | .getMctpVersionSupport ep => endpointOk ep
  | .getMessageTypeSupport ep => endpointOk ep
  | .getTid ep => endpointOk ep
  | .setTid ep _ => endpointOk ep
  | .getPldmVersion ep _ => endpointOk ep
  | .getPldmTypes ep => endpointOk ep
  | .getPldmCommands ep _ => endpointOk ep
  | .getPdrRepositoryInfo ep => endpointOk ep
  | .getPdr ep _ => endpointOk ep
  | .getSensorReading ep _ _ => endpointOk ep
  | .getStateSensorReadings ep _ => endpointOk ep
  | .setEventReceiver ep _ => endpointOk ep
  | .pollForPlatformEventMessage ep => endpointOk ep
  | .requestUpdate ep _ _ => endpointOk ep
  | .firmwareDataChunk ep _ _ _ => endpointOk ep
  | .activateFirmware ep _ _ => endpointOk ep
  | .cancelUpdate ep _ => endpointOk ep
  | .readSitzmark ep _ => endpointOk ep
  | .readFirst ep => endpointOk ep
  | .readReturn ep _ _ => endpointOk ep
  | .readReg ep _ => endpointOk ep
  | .pmcSnap src => funcOk src
  | .pmcFreeze src => funcOk src
  | .pmcUnfreeze src => funcOk src
  | .pmcClearAll src => funcOk src
  | .pmcOwnerWrite src _ => funcOk src
  | .pmcValueLoRead src _ _ _ => funcOk src
  | .pmcOverflow counter _ => counterOk counter
  | .pmcVSnap src => funcOk src
  | .pmcVFreeze src => funcOk src
  | .pmcVUnfreeze src => funcOk src
  | .vstby5Restored => true
  | .refclkRestored => true
  | .blockLockLost port => portOk port
  | .pcieCompletionTimeout _ _ => true
  | .flashDieReady _ _ _ => true
  | .busParityError _ _ _ _ => true
  | .hxlRouteWrite src _ => funcOk src
  | .queryDeviceIdentifiers ep _ => endpointOk ep
  | .getFirmwareParameters ep _ => endpointOk ep
  | .passComponentTable ep _ _ _ => endpointOk ep
  | .updateComponent ep _ _ _ => endpointOk ep
  | .getStatus ep _ => endpointOk ep
  | .cancelUpdateComponent ep _ => endpointOk ep

end Sys2Proof
end

