-- ==== Sys2Proof/Certificates/Slice0/Obligations.lean ====
section
/-!
DEFINITION. The statements for the provers, chapter by chapter of the spec.
-/
open Sys2Proof Sys2Proof.Machine

/-- The model's own shape of a step: the command at the front of the queue runs on the state with the queue's rest, and an empty
queue idles (log entry 4). -/
def Obligations.StepRunsFront : Prop :=
  (∀ (c : Instr) (rest : List Instr) (s : State), step { s with pending := c :: rest } = exec c { s with pending := rest }) ∧
  ∀ s : State, s.pending = [] → step s = .next s

/-- No command stops the block: every command answers a next state on every state. -/
def Obligations.EveryCommandGoesOn : Prop := ∀ (c : Instr) (s : State), ∃ t, exec c s = .next t

/-- A step takes exactly the front of the queue. -/
def Obligations.StepTakesOneCommand : Prop :=
  ∀ s t : State, step s = .next t → t.pending = s.pending.tail

/-- Every step keeps the canonical forms: of the store's bytes (R522: an unlisted byte reads 0) and of the register file. -/
def Obligations.StepKeepsCanonicalForms : Prop :=
  ∀ s t : State, Memory.wf s.store.mem = true → cellsSorted s.regs.cells = true → step s = .next t →
    Memory.wf t.store.mem = true ∧ cellsSorted t.regs.cells = true

/-- What the block has sent stays sent: a step only adds to the output. -/
def Obligations.OutputOnlyGrows : Prop :=
  ∀ s t : State, step s = .next t → ∃ l, t.out = s.out ++ l

/-- The frame of every command: the parts of the state that `changes` does not name for it stand as they stood. -/
def Obligations.FramesOfCommands : Prop :=
  ∀ (c : Instr) (s t : State), exec c s = .next t → Frame (changes c) s t

/-- R11: what the field tables give for reset stands after reset in the registers of the administering function: every field, of every
register that stands once or many times, holds its Reset column. The store lists no byte and nothing waits. Fields whose column says
hold, strap or fuse are left out: their 0 is the model's choice (log entry 13). -/
def Obligations.ResetHolds : Prop :=
  (∀ r ∈ allRows, ∀ k < r.count, r.hold = false →
    State.reset.fld ⟨r.fld.off + k * r.stride, r.fld.hi, r.fld.lo⟩ = r.reset) ∧
  Memory.wf State.reset.store.mem = true ∧ cellsSorted State.reset.regs.cells = true ∧ State.reset.pending = [] ∧
  (∀ src qp, (State.reset.qp src qp).state = .disabled)

/-- R43, R46, R70: the doorbells of a queue pair and what sends its message. An accepted doorbell moves its one index; a value out
of range is recorded as the error R49 numbers, with the event; unmasking a vector and the coalescing time send what waits. -/
def Obligations.DoorbellsAndVectors : Prop :=
  (∀ (s : State) (src qp v : Nat), src < 128 → qp < (s.source src).qpAllot → (s.wake.qp src qp).state = .enabled →
    v < 2 ^ (s.wake.qp src qp).sqLog2 →
    ∃ t, exec (.sqTailDoorbell src qp v) s = .next t ∧ t.qp src qp = { s.wake.qp src qp with sqTail := v } ∧
      OnlyQp src qp s.wake t) ∧
  (∀ (s : State) (src qp v : Nat), src < 128 → qp < (s.source src).qpAllot → (s.wake.qp src qp).state = .enabled →
    2 ^ (s.wake.qp src qp).sqLog2 ≤ v →
    ∃ t, exec (.sqTailDoorbell src qp v) s = .next t ∧ (t.qp src qp).state = .error ∧
      (t.qp src qp).errCode = (if (s.wake.qp src qp).errCode = 0 then 1 else (s.wake.qp src qp).errCode) ∧
      (t.qp src qp).sqTail = (s.wake.qp src qp).sqTail ∧ t.fldAt src F.FN_EVENT_QP_ERROR = 1) ∧
  (∀ (s : State) (src qp v : Nat), src < 128 → qp < (s.source src).qpAllot → (s.wake.qp src qp).state ≠ .disabled →
    v < 2 ^ (s.wake.qp src qp).cqLog2 →
    (v + 2 ^ (s.wake.qp src qp).cqLog2 - (s.wake.qp src qp).cqHead) % 2 ^ (s.wake.qp src qp).cqLog2 ≤
      ((s.wake.qp src qp).cqTail + 2 ^ (s.wake.qp src qp).cqLog2 - (s.wake.qp src qp).cqHead) % 2 ^ (s.wake.qp src qp).cqLog2 →
    ∃ t, exec (.cqHeadDoorbell src qp v) s = .next t ∧ t.qp src qp = { s.wake.qp src qp with cqHead := v } ∧
      OnlyQp src qp s.wake t) ∧
  (∀ (s : State) (src qp : Nat), (s.qp src qp).coalTime ≠ 0 → (s.qp src qp).unsignalled ≠ 0 →
    s.cmdq.unmasked.getD (2048 * src + (qp + 1)) false = true →
    ∃ t, exec (.cqCoalesceTimeout src qp) s = .next t ∧ (t.qp src qp).unsignalled = 0 ∧
      t.out = s.out ++ [.msix src (qp + 1)] ∧ Frame [.cmdq, .out] s t) ∧
  (∀ (s : State) (func vec : Nat), func < 128 → vec < 2048 →
    s.cmdq.pbaPending.getD (2048 * func + vec) false = true →
    ∃ t, exec (.msixVectorUnmask func vec) s = .next t ∧ t.out = s.out ++ [.msix func vec] ∧
      t.cmdq.unmasked.getD (2048 * func + vec) false = true ∧
      t.cmdq.pbaPending.getD (2048 * func + vec) false = false ∧
      (∀ k, k ≠ 2048 * func + vec → t.cmdq.unmasked.getD k false = s.cmdq.unmasked.getD k false ∧
        t.cmdq.pbaPending.getD k false = s.cmdq.pbaPending.getD k false) ∧
      Frame [.msix, .out] s t)

/-- R47 to R49: ENABLE begins a new life of the selected queue pair with its indices 0; DISABLE of one with no command in flight
makes it DISABLED; a ring of a size outside 4 to 16 is refused with ERR_CODE 0x5. -/
def Obligations.EnableAndDisable : Prop :=
  (∀ (s : State) (src q : Nat), s.selectedQp src = some q → (s.qp src q).state = .disabled → s.resetEnding src = false →
    4 ≤ (s.qp src q).sqLog2 → (s.qp src q).sqLog2 ≤ 16 → 4 ≤ (s.qp src q).cqLog2 → (s.qp src q).cqLog2 ≤ 16 →
    (s.qp src q).sqBase % 4096 = 0 → (s.qp src q).cqBase % 4096 = 0 →
    ∃ t, exec (.qpEnable src) s = .next t ∧
      t.qp src q = { s.qp src q with
        state := .enabled, errCode := 0, sqHead := 0, sqTail := 0, cqHead := 0, cqTail := 0, phase := true, reserved := 0,
        unsignalled := 0, silent := false } ∧
      OnlyQp src q s t) ∧
  (∀ (s : State) (src q : Nat), s.selectedQp src = some q → (s.qp src q).state = .disabled → s.resetEnding src = false →
    (s.qp src q).sqLog2 < 4 ∨ 16 < (s.qp src q).sqLog2 ∨ (s.qp src q).cqLog2 < 4 ∨ 16 < (s.qp src q).cqLog2 →
    ∃ t, exec (.qpEnable src) s = .next t ∧ (t.qp src q).state = .disabled ∧
      (t.qp src q).errCode = (if (s.qp src q).errCode = 0 then 5 else (s.qp src q).errCode) ∧
      t.fldAt src F.FN_EVENT_QP_ERROR = 1) ∧
  (∀ (s : State) (src q : Nat), s.selectedQp src = some q → (s.qp src q).state = .enabled ∨ (s.qp src q).state = .error →
    s.cmdq.entries.cells = [] →
    ∃ t, exec (.qpDisable src) s = .next t ∧ t.qp src q = { s.qp src q with state := .disabled } ∧
      t.fldAt src F.FN_EVENT_QP_DRAINED = 1 ∧ Frame [.cmdq, .msix, .regs, .out] s t) ∧
  (∀ (s : State) (src q id : Nat) (e : Entry), s.selectedQp src = some q →
    (s.qp src q).state = .enabled ∨ (s.qp src q).state = .error → (id, e) ∈ s.cmdq.entries.cells → e.src = src → e.qp = q →
    ∃ t, exec (.qpDisable src) s = .next t ∧ t.qp src q = { s.qp src q with state := .draining } ∧ OnlyQp src q s t)

/-- R44, R51, R57 to R59: a fetched packet, or one that an endpoint sends with a credit, enters the lift line; the first failing
check ends it with its status and no effect; a command that passes every check is accepted; a BARRIER goes once every earlier
command of its queue has written its completion. -/
def Obligations.FetchAndAcceptance : Prop :=
  (∀ (s : State) (src qp : Nat) (packet : Packet) (pool : EntryPool), s.mayFetch src qp = true →
    (s.source src).atsEnabled = true → s.takeEntry src (pkClass packet) = some pool →
    ∃ t, exec (.sqFetch src qp .ok packet) s = .next t ∧
      .hostRead src ((s.qp src qp).sqBase + 64 * (s.qp src qp).sqHead) 64 ∈ t.out ∧
      t.qp src qp = { s.qp src qp with
        sqHead := ((s.qp src qp).sqHead + 1) % 2 ^ (s.qp src qp).sqLog2, reserved := (s.qp src qp).reserved + 1 } ∧
      t.entry? s.cmdq.nextId = some
        { src := src, qp := qp, packet := packet, sqHead := ((s.qp src qp).sqHead + 1) % 2 ^ (s.qp src qp).sqLog2,
          order := s.cmdq.nextOrder, phase := .fetched, pool := pool } ∧
      t.cmdq.nextId = s.cmdq.nextId + 1 ∧ (∀ i, i ≠ s.cmdq.nextId → t.entry? i = s.entry? i) ∧
      (∀ a, t.source a = s.source a) ∧ Frame [.cmdq, .entries, .xlt, .out] s t) ∧
  (∀ (s : State) (port : Nat) (msg : List Byte), port < 16 → (s.port port).act.kind = 1 → msg.length = 80 →
    ((s.takeMsg port msg).source (128 + port)).credits ≠ 0 → s.fenced = false → s.sys.bracing = false →
    (s.senderIndex port).all (fun i => (s.agent i).state == .live) = true → s.sqHeld (128 + port) 0 = false →
    ∃ t, exec (.cmd port msg) s = .next t ∧
      ∃ w : State, w = ((s.takeMsg port msg).setSource (128 + port) { (s.takeMsg port msg).source (128 + port) with
        credits := ((s.takeMsg port msg).source (128 + port)).credits - 1 }).wake ∧
      t.cmdq.nextId = w.cmdq.nextId + 1 ∧
      ∃ e, t.entry? w.cmdq.nextId = some e ∧ e.src = 128 + port ∧ e.packet = BitVec.ofNat 512 (fieldAt msg 16 64) ∧
        e.endpoint = hdSrc msg ∧ e.accepted = false ∧
        e.phase = (if (w.takeEntry (128 + port) (pkClass e.packet)).isSome then .fetched else .held)) ∧
  (∀ (s : State) (id : Nat) (e : Entry) (r : HostResult) (b : List Byte) (st sub : Nat), s.entry? id = some e →
    e.phase = .fetched → s.heldBack e = false → s.unaligned (pkClass e.packet) = false → pkOpcode e.packet ≠ 0xA8 →
    s.earlyChecks e.src e.packet = some (st, sub) →
    ∃ t, exec (.intakeAccept id r b) s = .next t ∧
      t.entry? id = some { e with
        phase := .ended, moving := false
        out := { e.out with status := st, subcode := sub, result0 := 0, absent := 0xFF } } ∧
      OnlyEntry id s t) ∧
  (∀ (s : State) (id : Nat) (e e' : Entry) (r : HostResult) (b : List Byte), s.entry? id = some e →
    e.phase = .fetched → s.heldBack e = false → s.unaligned (pkClass e.packet) = false → pkOpcode e.packet ≠ 0xA8 →
    s.earlyChecks e.src e.packet = none → pkPblk e.packet = false → s.ownChecks id { e with block := [] } = none →
    s.translateEntry { e with block := [] } = .ok e' → s.slotBytes e'.packet = 0 →
    exec (.intakeAccept id r b) s = .next (s.acceptEntry id e') ∧
      (s.fixEntry e').accepted = true ∧ (s.fixEntry e').phase = .accepted ∧ (s.fixEntry e').epoch = s.rack.map.epoch ∧
      (s.fixEntry e').captures = e'.captures) ∧
  (∀ (s : State) (id : Nat) (e : Entry), s.entry? id = some e → e.accepted = true → e.barrier = true →
    (∀ c ∈ s.cmdq.entries.cells, c.2.src = e.src → c.2.qp = e.qp → e.order ≤ c.2.order) →
    ∃ t, exec (.barrierRelease id) s = .next t ∧ t.entry? id = some { e with barrier := false } ∧ OnlyEntry id s t) ∧
  (∀ (s : State) (id : Nat) (e : Entry) (c : Nat × Entry), s.entry? id = some e → c ∈ s.cmdq.entries.cells →
    c.2.src = e.src → c.2.qp = e.qp → c.2.order < e.order →
    exec (.barrierRelease id) s = .next s)

/-- R53, R66, R67, R81, R82: the answer of the last home ends its command; its one record is written to the completion queue in two
writes, or goes to the endpoint, which gets its credits back; a cancel drops an item that has not begun. -/
def Obligations.CompletionOfCommands : Prop :=
  (∀ (s : State) (id item st sub : Nat) (i : Item) (e : Entry) (r : List Nat), s.entry? id = some e → e.items = [i] →
    i.id = item → i.cancelled = false → i.other = none → i.failure = none → i.transfer = false → e.stop = none → e.started = true →
    e.moving = false → (∀ x, s.rack.away.find? item = some x → x.owner = some id ∧ id < 2 ^ 41 ∧ (x.kind = 1 ∨ x.kind = 4)) →
    ∃ t, exec (.workAnswer id item .final st sub true r) s = .next t ∧ Frame [.entries, .rack] s t ∧
      (∀ a, a ≠ id → t.entry? a = s.entry? a) ∧ t.rack = { s.rack with away := s.rack.away.erase item } ∧
      ∃ e', t.entry? id = some e' ∧ e'.phase = .ended ∧ e'.items = [] ∧ e'.begun = e.begun ||| i.classes ∧
        e'.acked = (if st = 0x00 ∨ st = 0x01 then e.acked + 1 else e.acked) ∧
        e'.out.countDone = e.out.countDone + r.getD 1 0 ∧ e'.out.result0 = (e.out.result0 + r.getD 0 0) % 2 ^ 64 ∧
        (e'.out.status, e'.out.subcode) =
          (if statusRank st < statusRank e.out.status then (st, sub) else (e.out.status, e.out.subcode))) ∧
  (∀ (s : State) (id : Nat) (e : Entry) (x : QueuePair) (w : State), s.entry? id = some e → e.phase = .ended → e.items = [] →
    e.proxy = none → e.cplSent = none → e.src < 128 → (s.qp e.src e.qp).state ≠ .disabled → (s.qp e.src e.qp).silent = false →
    e.out.area = none → e.pend = [] → (s.source e.src).atsEnabled = true → w = (s.settle id e).freeSlotOf id e.src → x = w.qp e.src e.qp →
    ∃ t, exec (.commandComplete id true) s = .next t ∧ t = (w.writeRecord e).endEntry id e ∧
      .hostWrite e.src (x.cqBase + 32 * x.cqTail + 4) ((e.record x.phase e.qp e.sqHead).drop 4) false ∈ t.out ∧
      .hostWrite e.src (x.cqBase + 32 * x.cqTail) ((e.record x.phase e.qp e.sqHead).take 4) false ∈ t.out) ∧
  (∀ (s : State) (id n : Nat) (e : Entry), s.entry? id = some e → e.cplSent = some n →
    n ≤ (s.source e.src).creditsDue →
    exec (.cmdCpl id true) s = .next ((s.setSource e.src { s.source e.src with
      credits := (s.source e.src).credits + n, creditsDue := (s.source e.src).creditsDue - n }).endEntry id e)) ∧
  (∀ (s : State) (origin id : Nat), s.itemBegun origin id = false → s.proxyOf origin id = none →
    ∃ t, exec (.workCancel origin id) s = .next t ∧ t.out = s.out ++ [.workAnswer origin id 0x03 0 [0]] ∧
      (∀ h ∈ t.rack.held, ¬(h.1.origin = origin ∧ h.1.id = id)) ∧ (origin, id) ∈ t.rack.dropped ∧
      Frame [.rack, .kvp, .out] s t) ∧
  (∀ (s : State) (id : Nat) (e : Entry), s.entry? id = some e → e.stop ≠ none →
    ∃ t, exec (.cancelResend id) s = .next t ∧
      t.out = s.out ++ (e.items.filter fun i => i.cancelled).map (fun i => .work i.home i.id 1) ∧
      Frame [.out] s t)

/-- R78, R80, R84, R88: a command that is stopped with no item at another member ends with its stop's status; a command timeout and
the aborts stop the commands they name; an abort that matches none is counted with its event; releases free the slot their
handle names; a reset of a function leaves its queue pairs as after reset. -/
def Obligations.StopsReleasesAndResets : Prop :=
  (∀ (s : State) (id : Nat) (e : Entry), s.entry? id = some e → e.accepted = true → e.stop = none → e.phase ≠ .ended →
    e.items = [] → s.NoCoreFor id → (s.source e.src).timeoutMs ≠ 0 → pkOpcode e.packet ≠ 0xA1 →
    ∃ t, exec (.commandTimeout id) s = .next t ∧ ∃ e', t.entry? id = some e' ∧ e'.phase = .ended ∧ e'.out.status = 0x38 ∧
      e'.out.subcode = 0 ∧ e'.out.absent = absentOf e.begun ∧ e'.out.countDone = (e.progress e.out).countDone) ∧
  (∀ (s : State) (src qp tag id : Nat) (e : Entry), s.abortable src qp (some tag) = [id] → s.entry? id = some e →
    e.accepted = true → e.stop = none → e.phase ≠ .ended → e.items = [] → s.NoCoreFor id →
    ∃ t, exec (.abortQtag src qp tag) s = .next t ∧ ∃ e', t.entry? id = some e' ∧ e'.phase = .ended ∧ e'.out.status = 0x03 ∧
      e'.out.subcode = 1 ∧ e'.out.absent = absentOf e.begun) ∧
  (∀ (s : State) (src qp tag : Nat), s.abortable src qp (some tag) = [] →
    ∃ t, exec (.abortQtag src qp tag) s = .next t ∧ (t.source src).abortMiss = satInc 16 (s.source src).abortMiss ∧
      t.fldAt src F.FN_EVENT_ABORT_MISS = 1 ∧ Frame [.cmdq, .msix, .regs, .out] s t) ∧
  (∀ (s : State) (src qp id : Nat) (ids : List Nat), s.abortable src qp none = id :: ids →
    exec (.abortAllQp src qp) s = .next ((id :: ids).foldl (fun u i => u.stopEntry i .abortAll) s)) ∧
  (∀ (s : State) (src h : Nat) (t : Slot), t ∈ (s.source src).slots → slotHandle t = h →
    ∃ u, exec (.resultRelease src [h]) s = .next u ∧
      (u.source src).slots = (s.source src).slots.filter (fun x => slotHandle x != h) ∧ OnlySource src s u) ∧
  (∀ (s : State) (src h : Nat), (∀ t ∈ (s.source src).slots, slotHandle t ≠ h) →
    ∃ u, exec (.resultRelease src [h]) s = .next u ∧ (u.source src).releaseStale = satInc 16 (s.source src).releaseStale ∧
      (u.source src).slots = (s.source src).slots ∧ u.fldAt src F.FN_EVENT_RELEASE_STALE = 1) ∧
  (∀ (s u : State) (src h : Nat) (hs : List Nat), exec (.resultRelease src [h]) s = .next u →
    exec (.resultRelease src (h :: hs)) s = exec (.resultRelease src hs) u) ∧
  (∀ (s : State) (src q : Nat), src < 128 → q < 2048 →
    ∃ t, exec (.functionLevelReset src) s = .next t ∧ t.qp src q = {} ∧ (t.source src).slots = [] ∧
      (t.source src).abortMiss = 0 ∧ (t.source src).qpErrFirst = none) ∧
  (∀ (s : State) (port : Nat), port < 2 →
    ∃ t, exec (.pcieLinkDown port) s = .next t ∧ t.fld F.CLK_EVENT_PORT_RESET = 1 ∧
      ∃ u, t = u.raise F.CLK_EVENT_PORT_RESET ∧
        ((List.range 64).map fun f => Instr.functionLevelReset (64 * port + f)).foldlM (fun v c =>
          match exec c v with
          | .next w => some w
          | _ => none) s = some u)

/-- R65, R92: SEL loads the staging registers with the target's present settings; APPLY commits all of them, or refuses them all
and records why. -/
def Obligations.Administration : Prop :=
  (∀ (s : State) (src func : Nat) (y : Settings), s.mayAdminister src = true → y = (s.source (src + func % 64)).settings →
    ∃ t, exec (.fnAdmSelWrite src func) s = .next t ∧ t.fldAt src F.FN_ADM_SEL_FUNC = func % 64 ∧
      t.fldAt src F.FN_ADM_QP_ALLOT_QP = y.qpAllot % 2 ^ (F.FN_ADM_QP_ALLOT_QP.hi + 1 - F.FN_ADM_QP_ALLOT_QP.lo) ∧
      t.fldAt src F.FN_ADM_LL_RESERVE_RESERVE =
        y.reserve % 2 ^ (F.FN_ADM_LL_RESERVE_RESERVE.hi + 1 - F.FN_ADM_LL_RESERVE_RESERVE.lo) ∧
      t.fldAt src F.FN_ADM_LL_LIMIT_LIMIT = y.limit % 2 ^ (F.FN_ADM_LL_LIMIT_LIMIT.hi + 1 - F.FN_ADM_LL_LIMIT_LIMIT.lo) ∧
      t.fldAt src F.FN_ADM_RESULT_SIZE_SIZE =
        y.resultSize % 2 ^ (F.FN_ADM_RESULT_SIZE_SIZE.hi + 1 - F.FN_ADM_RESULT_SIZE_SIZE.lo) ∧
      Frame [.regs] s t) ∧
  (∀ (s : State) (src : Nat) (y : Settings), s.mayAdminister src = true →
    y = { qpAllot := s.fldAt src F.FN_ADM_QP_ALLOT_QP, reserve := s.fldAt src F.FN_ADM_LL_RESERVE_RESERVE
          limit := s.fldAt src F.FN_ADM_LL_LIMIT_LIMIT, timeout := s.fldAt src F.FN_ADM_TIMEOUT_MS
          ranges := s.fldAt src F.FN_ADM_PERM_OPC_RANGES, classes := s.fldAt src F.FN_ADM_PERM_CLASS_MASK
          resultSize := s.fldAt src F.FN_ADM_RESULT_SIZE_SIZE } →
    ∃ t, exec (.fnAdmApply src) s = .next t ∧
      t.fldAt src F.FN_ADM_STATUS_ERR = s.refuseSettings (src + s.fldAt src F.FN_ADM_SEL_FUNC) y ∧
      (s.refuseSettings (src + s.fldAt src F.FN_ADM_SEL_FUNC) y ≠ 0 → OnlyField src F.FN_ADM_STATUS_ERR s t) ∧
      (s.refuseSettings (src + s.fldAt src F.FN_ADM_SEL_FUNC) y = 0 →
        (t.source (src + s.fldAt src F.FN_ADM_SEL_FUNC)).settings = y)) ∧
  (∀ (s : State) (src port : Nat) (y : Settings), s.mayAdminHxl src = true → y = (s.source (128 + port % 16)).settings →
    ∃ t, exec (.fnHxlSelWrite src port) s = .next t ∧ t.fld F.FN_HXL_SEL_PORT = port % 16 ∧
      t.fld F.FN_HXL_LL_RESERVE_RESERVE =
        y.reserve % 2 ^ (F.FN_HXL_LL_RESERVE_RESERVE.hi + 1 - F.FN_HXL_LL_RESERVE_RESERVE.lo) ∧
      t.fld F.FN_HXL_LL_LIMIT_LIMIT = y.limit % 2 ^ (F.FN_HXL_LL_LIMIT_LIMIT.hi + 1 - F.FN_HXL_LL_LIMIT_LIMIT.lo) ∧
      Frame [.regs] s t) ∧
  (∀ (s : State) (src : Nat) (y : Settings), s.mayAdminHxl src = true →
    y = { qpAllot := 0, reserve := s.fld F.FN_HXL_LL_RESERVE_RESERVE, limit := s.fld F.FN_HXL_LL_LIMIT_LIMIT
          timeout := s.fld F.FN_HXL_TIMEOUT_MS, ranges := s.fld F.FN_HXL_PERM_OPC_RANGES
          classes := s.fld F.FN_HXL_PERM_CLASS_MASK, resultSize := s.fld F.FN_HXL_RESULT_SIZE_SIZE } →
    ∃ t, exec (.fnHxlApply src) s = .next t ∧
      t.fld F.FN_HXL_STATUS_ERR = s.refuseSettings (128 + s.fld F.FN_HXL_SEL_PORT) y ∧
      (s.refuseSettings (128 + s.fld F.FN_HXL_SEL_PORT) y ≠ 0 → OnlyField 0 F.FN_HXL_STATUS_ERR s t) ∧
      (s.refuseSettings (128 + s.fld F.FN_HXL_SEL_PORT) y = 0 →
        (t.source (128 + s.fld F.FN_HXL_SEL_PORT)).settings = y))

/-- R63: a packet of CLASS 15 that comes in takes one of the 1,024 kept entries, its source's own reserve only while none of those
is free, and nothing beyond its source's limit. -/
def Obligations.ControlClassEntries : Prop :=
  ∀ (s : State) (e : Entry), pkClass e.packet = 15 →
    ∃ e', (s.enterPacket e).entry? s.cmdq.nextId = some e' ∧ e'.packet = e.packet ∧
      (s.inUse e.src < (s.source e.src).limit → s.poolUsed .kept < 1024 → e'.phase = .fetched ∧ e'.pool = .kept) ∧
      (s.inUse e.src < (s.source e.src).limit → 1024 ≤ s.poolUsed .kept → s.reserveUsed e.src < (s.source e.src).reserve →
        e'.phase = .fetched ∧ e'.pool = .reserve) ∧
      (s.inUse e.src < (s.source e.src).limit → 1024 ≤ s.poolUsed .kept → (s.source e.src).reserve ≤ s.reserveUsed e.src →
        e'.phase = .held) ∧
      ((s.source e.src).limit ≤ s.inUse e.src → e'.phase = .held)

/-- R77: the handle of an allocated slot holds its offset in the result area, in units of 256 bytes, in bits 23 to 0, and in bits
31 to 24 the generation, which each allocation from the source increments. -/
def Obligations.ResultHandles : Prop :=
  ∀ (s t : State) (id src bytes : Nat), s.allocSlot id src bytes = some t → 0 < bytes →
    ∃ x, (t.source src).slots = (s.source src).slots ++ [x] ∧ (t.source src).slotGen = x.gen ∧
      x.gen = ((s.source src).slotGen + 1) % 256 ∧ x.len = ceilDiv bytes 256 ∧ x.offset + x.len ≤ (s.source src).areaUnits ∧
      slotHandle x / 2 ^ 24 = x.gen ∧ slotHandle x < 2 ^ 32 ∧
      ((s.source src).areaUnits ≤ 2 ^ 24 → slotHandle x % 2 ^ 24 = x.offset)

/-- R94, R102, R103, R140: a frame boundary advances the rack frame number; a slot whose owner's head request is issuable goes to
it, a slot without owner takes its fill order's element and advances the pointer; reading PST_FRAME_LO latches the high part. -/
def Obligations.FramesAndSlots : Prop :=
  (∀ s : State, 6 ≤ s.fld F.CLK_STARTUP_STAGE → s.sys.power ≠ .standby → s.sys.power ≠ .off →
    (s.aligned = true ∨ s.rack.held = []) →
    ∃ t, exec .frameBoundary s = .next t ∧ t.frame = (s.frame + 1) % 2 ^ 48 ∧
      t.store.movesStarted = 0 ∧ t.store.mem = s.store.mem ∧ t.core = s.core ∧ t.coh = s.coh ∧ t.xlt = s.xlt) ∧
  (∀ (s : State) (kind inst slot o : Nat) (queue : List QueuedReq) (blocked : Bool), kind < 4 → inst < pstInstances kind →
    slot < pstSlots s.mrdimm kind → (3 ≤ kind ∨ s.sys.power ≠ .rest ∧ s.pst.idle = false) →
    owner (s.pstEntry kind inst slot) = o → 0 < o → o < 0xFF0 → s.flowIssuable kind inst o queue = true →
    ∃ t, exec (.slotIssue kind inst slot queue blocked) s = .next t ∧
      .slot kind inst o (s.slotBytesOf kind) (s.slotSource kind inst slot) ∈ t.out ∧ t.pst = s.pst) ∧
  (∀ (s : State) (inst slot : Nat) (queue : List QueuedReq) (blocked : Bool) (n i : Nat) (order : List Nat), inst < 128 →
    slot < 1920 → s.sys.power ≠ .rest → s.pst.idle = false → owner (s.pstEntry 0 inst slot) = 0 →
    order = s.pstFill (fillOf (s.pstEntry 0 inst slot)) → n = order.length → 0 < n →
    i = s.pst.fillPtr.getD (fillKey 0 inst (fillOf (s.pstEntry 0 inst slot))) 0 % n →
    ∃ t, exec (.slotIssue 0 inst slot queue blocked) s = .next t ∧
      t.pst.fillPtr.getD (fillKey 0 inst (fillOf (s.pstEntry 0 inst slot))) 0 = (i + 1) % n ∧
      (order.getD i 0 ≠ 0 → s.flowIssuable 0 inst (order.getD i 0) queue = true →
        .slot 0 inst (order.getD i 0) 64 0 ∈ t.out)) ∧
  (∀ (s : State) (src : Nat), src < 128 → src % 64 = 0 →
    ∃ t, exec (.pstFrameLoRead src F.PST_FRAME_LO_FRAME.off 4) s = .next t ∧ t.out = s.out ++ [.readData (s.frame % 2 ^ 32)] ∧
      t.fld F.PST_FRAME_HI = s.frame / 2 ^ 32 % 2 ^ 16 ∧ FieldsStand [F.PST_FRAME_HI] s t ∧ Frame [.regs, .out] s t)

/-- R118 to R123: a load empties the inactive bank and reads the image, and ends valid or with the first failed check; an armed
switch takes place at the boundary of its frame; neither a load nor a refused arm touches the tables in force. -/
def Obligations.TableLoadsAndSwitches : Prop :=
  (∀ (s : State) (src : Nat), s.mayAdminister src = true → (s.sys.lc = .returned → s.sys.debug = .maker) →
    s.pst.load = none → (∀ x, s.pst.switch = some x → x.2 = 0 ∨ x.2 ≠ s.fld F.PST_INACTIVE_SET) →
    ∃ t, exec (.pstImageLoad src) s = .next t ∧
      t.pst = { s.pst with load := some { func := src, len := s.fld F.PST_IMG_LEN, bank := s.pstSpare },
                           banks := s.pst.banks.set s.pstSpare {} } ∧
      t.out = s.out ++ [.hostRead src (64 * s.fld F.PST_IMG_ADDR_LO + 2 ^ 32 * s.fld F.PST_IMG_ADDR_HI) (s.fld F.PST_IMG_LEN)] ∧
      t.fld F.PST_INACTIVE_SET = 0 ∧ t.fld F.PST_LOAD_STATUS_BUSY = 1 ∧ t.fld F.PST_LOAD_STATUS_DONE = 0 ∧
      t.fld F.PST_STATUS_PLAIN = s.fld F.PST_STATUS_PLAIN ∧ t.fld F.PST_ACTIVE_SET = s.fld F.PST_ACTIVE_SET ∧
      Frame [.pst, .regs, .out] s t) ∧
  (∀ (s : State) (src : Nat) (l : PstLoad), s.mayAdminister src = true → (s.sys.lc = .returned → s.sys.debug = .maker) →
    s.pst.load = some l →
    ∃ t, exec (.pstImageLoad src) s = .next t ∧ t.fld F.PST_LOAD_STATUS_CODE = 0x14 ∧ t.pst = s.pst ∧
      t.fld F.PST_LOAD_STATUS_BUSY = s.fld F.PST_LOAD_STATUS_BUSY ∧ t.fld F.PST_ACTIVE_SET = s.fld F.PST_ACTIVE_SET) ∧
  (∀ (s : State) (image : List Byte) (l : PstLoad), s.pst.load = some l → s.loadIdle.checkImage l.len image = none →
    ∃ t, exec (.pstLoadDone .ok image) s = .next t ∧
      t.pst = { s.pst with load := none, banks := s.pst.banks.set l.bank { valid := true, image := image } } ∧
      t.fld F.PST_INACTIVE_SET = imSet image % 2 ^ 32 ∧ t.fld F.PST_LOAD_STATUS_CODE = 0 ∧ t.fld F.PST_LOAD_STATUS_DONE = 1 ∧
      t.fld F.PST_LOAD_STATUS_BUSY = 0 ∧ t.fld F.PST_EVENT_LOAD_DONE = 1 ∧ t.fld F.PST_ACTIVE_SET = s.fld F.PST_ACTIVE_SET) ∧
  (∀ (s : State) (image : List Byte) (r : HostResult) (l : PstLoad), s.pst.load = some l → r ≠ .ok →
    ∃ t, exec (.pstLoadDone r image) s = .next t ∧
      t.pst = { s.pst with load := none, banks := s.pst.banks.set l.bank {} } ∧
      (l.bank = s.pstSpare → t.fld F.PST_INACTIVE_SET = 0) ∧ t.fld F.PST_LOAD_STATUS_CODE = 0x15 ∧
      t.fld F.PST_LOAD_STATUS_DONE = 1 ∧ t.fld F.PST_ACTIVE_SET = s.fld F.PST_ACTIVE_SET) ∧
  (∀ (s : State) (src f set : Nat), s.mayAdminister src = true →
    f = s.fld F.PST_SWITCH_FRAME_LO + 2 ^ 32 * s.fld F.PST_SWITCH_FRAME_HI → set = s.fld F.PST_SWITCH_SET →
    s.frame + 32 < f → f ≤ s.frame + 2 ^ 32 → (set = 0 ∨ set = s.fld F.PST_INACTIVE_SET) → set ≠ s.fld F.PST_ACTIVE_SET →
    s.pst.load = none →
    ∃ t, exec (.pstSwitchArm src) s = .next t ∧ t.pst = { s.pst with switch := some (f, set) } ∧
      t.fld F.PST_SWITCH_STATUS_PENDING = 1 ∧ t.fld F.PST_STATUS_SWITCH_PENDING = 1 ∧ Frame [.pst, .regs] s t) ∧
  (∀ (s : State) (src : Nat), s.mayAdminister src = true →
    (s.fld F.PST_SWITCH_FRAME_LO + 2 ^ 32 * s.fld F.PST_SWITCH_FRAME_HI ≤ s.frame + 32 ∨
      s.frame + 2 ^ 32 < s.fld F.PST_SWITCH_FRAME_LO + 2 ^ 32 * s.fld F.PST_SWITCH_FRAME_HI) →
    ∃ t, exec (.pstSwitchArm src) s = .next t ∧ t.fld F.PST_SWITCH_STATUS_RESULT = 2 ∧ t.fld F.PST_EVENT_SWITCH_FAIL = 1 ∧
      t.pst = s.pst) ∧
  (∀ (s : State) (src : Nat) (x : Nat × Nat), s.mayAdminister src = true → s.pst.switch = some x →
    ∃ t, exec (.pstSwitchCancel src) s = .next t ∧ t.pst = { s.pst with switch := none } ∧
      t.fld F.PST_SWITCH_STATUS_RESULT = 4 ∧ t.fld F.PST_SWITCH_STATUS_PENDING = 0 ∧ t.fld F.PST_EVENT_SWITCH_FAIL = 1) ∧
  (∀ (s : State) (f set : Nat), s.pst.switch = some (f, set) → f < s.frame → set ≠ 0 → set < 2 ^ 32 →
    ∃ t, exec .tableSwitch s = .next t ∧ t.fld F.PST_ACTIVE_SET = set ∧ t.fld F.PST_STATUS_PLAIN = 0 ∧
      t.fld F.PST_STATUS_ACTIVE_BANK = s.pstSpare % 2 ∧ t.fld F.PST_SWITCH_STATUS_RESULT = 1 ∧
      t.fld F.PST_EVENT_SWITCHED = 1 ∧ t.pst = { s.pst with switch := none, fillPtr := {} } ∧
      (s.fld F.PST_STATUS_PLAIN = 0 → t.fld F.PST_INACTIVE_SET = s.fld F.PST_ACTIVE_SET))

/-- R129 to R132: markers that differ are reported, a member that loses its parent goes to HOLDOVER and after 1,000 frames to
ACQUIRE, the 32nd window within 20 ns locks it, ALIGN_EN 0 frees it. -/
def Obligations.FrameAlignment : Prop :=
  (∀ (s : State) (port : Nat) (msg : List Byte) (stamp : Int), ((s.takeMsg port msg).port port).act.kind ≠ 1 →
    fieldAt msg 4 4 ≠ s.fld F.PST_ACTIVE_SET →
    ∃ t, exec (.epoch port msg stamp) s = .next t ∧ (t.pst.markers.find? port).map (·.set) = some (fieldAt msg 4 4) ∧
      (t.pst.markers.find? port).map (·.frame) = some (fieldAt msg 8 6) ∧ t.fld F.PST_EVENT_SET_MISMATCH = 1) ∧
  (∀ (s : State) (port : Nat) (msg : List Byte) (stamp : Int), ((s.takeMsg port msg).port port).act.kind = 1 →
    exec (.epoch port msg stamp) s = .next (s.takeMsg port msg)) ∧
  (∀ s : State, s.fld F.PST_STATUS_ALIGN_STATE = 1 → s.refMember ≠ s.sys.member → s.parentPort ≠ none → s.pst.offCount ≠ 0 →
    s.rack.held = [] → s.pst.offSum.natAbs ≤ 200 * s.pst.offCount → 31 ≤ s.pst.inRange → s.ownHops ≤ 6 →
    ∃ t, exec .alignWindowEnd s = .next t ∧ t.fld F.PST_STATUS_ALIGN_STATE = 2 ∧ t.fld F.PST_EVENT_ALIGN_LOCKED = 1 ∧
      t.fld F.PST_ALIGN_STATUS_HOPS = s.ownHops ∧ t.pst.offCount = 0 ∧ t.frame = s.frame) ∧
  (∀ s : State, s.fld F.PST_STATUS_ALIGN_STATE = 2 → s.refMember ≠ s.sys.member → s.parentPort ≠ none → s.pst.offCount ≠ 0 →
    320 * s.pst.offCount < s.pst.offSum.natAbs →
    ∃ t, exec .alignWindowEnd s = .next t ∧ t.fld F.PST_STATUS_ALIGN_STATE = 1 ∧ t.fld F.PST_EVENT_ALIGN_LOST = 1 ∧
      t.fld F.PST_ALIGN_STATUS_HOPS = 15) ∧
  (∀ (s : State) (p : Nat), s.parentPort = some p → s.fld F.PST_STATUS_ALIGN_STATE = 2 → s.rack.map.server ≠ [] →
    s.refMember ≠ s.sys.member →
    ∃ t, exec .parentLost s = .next t ∧ t.fld F.PST_STATUS_ALIGN_STATE = 3 ∧ t.pst.holdSince = s.frame ∧
      t.pst.markers.find? p = none ∧ t.fld F.PST_ALIGN_TRIM = s.fld F.PST_ALIGN_TRIM ∧ t.frame = s.frame) ∧
  (∀ s : State, s.fld F.PST_STATUS_ALIGN_STATE = 3 → s.pst.holdSince + 1000 ≤ s.frame →
    ∃ t, exec .holdoverExpiry s = .next t ∧ t.fld F.PST_STATUS_ALIGN_STATE = 1 ∧ t.fld F.PST_EVENT_ALIGN_LOST = 1 ∧
      t.frame = s.frame) ∧
  (∀ s : State, (s.fld F.PST_STATUS_ALIGN_STATE ≠ 3 ∨ s.frame < s.pst.holdSince + 1000) → exec .holdoverExpiry s = .next s) ∧
  (∀ (s : State) (src : Nat) (v : Word), s.mayAdminister src = true → bit v 0 = false →
    ∃ t, exec (.alignCtrlWrite src v) s = .next t ∧ t.fld F.PST_STATUS_ALIGN_STATE = 0 ∧ t.fld F.PST_ALIGN_CTRL_ALIGN_EN = 0 ∧
      t.fld F.PST_ALIGN_STATUS_HOPS = 15 ∧ t.fld F.PST_ALIGN_STATUS_PARENT_VALID = 0 ∧ Frame [.regs, .pst] s t)

/-- R143, R151, R175: the selectors load the staging fields; an APPLY commits the staged record or is refused with the reason; a
flush empties the translation caches of the ports named. -/
def Obligations.TranslationWindow : Prop :=
  (∀ (s : State) (src c : Nat), s.mayAdminister src = true →
    ∃ t, exec (.xltCtxSelWrite src c) s = .next t ∧ t.fld F.XLT_CTX_SEL_CTX = c % 4096 ∧
      t.fld F.XLT_CTX_CFG_VALID = b2n (s.ctx (c % 4096)).valid ∧
      t.fld F.XLT_CTX_CFG_BOUND_SRC = (s.ctx (c % 4096)).boundSrc % 256 ∧
      t.fld F.XLT_CTX_CFG_COMPOSITION = (s.ctx (c % 4096)).comp % 4096 ∧ Frame [.regs] s t ∧
      FieldsStand [F.XLT_CTX_SEL_CTX, F.XLT_CTX_CFG_VALID, F.XLT_CTX_CFG_BOUND_SRC, F.XLT_CTX_CFG_COMPOSITION] s t) ∧
  (∀ (s : State) (src i : Nat) (g : Segment), s.mayAdminister src = true → g = s.seg (s.fld F.XLT_CTX_SEL_CTX) (i % 16) →
    ∃ t, exec (.xltSegSelWrite src i) s = .next t ∧ t.fld F.XLT_SEG_SEL_SEG = i % 16 ∧ t.fld F.XLT_SEG_CTRL_STATE = g.state.code ∧
      t.fld F.XLT_SEG_CTRL_SLAB16 = b2n g.slab16 ∧ t.fld F.XLT_SEG_CTRL_PERM_R = b2n g.permR ∧
      t.fld F.XLT_SEG_CTRL_PERM_W = b2n g.permW ∧ t.fld F.XLT_SEG_CTRL_PERM_A = b2n g.permA ∧
      t.fld F.XLT_SEG_BASE_SLAB = g.base % 2 ^ 26 ∧ t.fld F.XLT_SEG_COUNT_COUNT = g.count % 2 ^ 23 ∧ Frame [.regs] s t) ∧
  (∀ (s : State) (src c : Nat), s.mayAdminister src = true → c = s.fld F.XLT_CTX_SEL_CTX → s.fld F.XLT_CTX_CFG_BOUND_SRC ≤ 143 →
    s.inFlight c = [] →
    ∃ t, exec (.xltApplyCtx src false) s = .next t ∧ t.fld F.XLT_APPLY_STATUS_ERR = 0 ∧ t.fld F.XLT_EVENT_APPLY_DONE = 1 ∧
      t.ctx c = { s.ctx c with valid := s.fld F.XLT_CTX_CFG_VALID = 1, boundSrc := s.fld F.XLT_CTX_CFG_BOUND_SRC,
                               comp := s.fld F.XLT_CTX_CFG_COMPOSITION } ∧
      (∀ b, b ≠ c → t.ctx b = s.ctx b) ∧ t.store = s.store ∧
      (∀ a, (∀ w ∈ s.gate.waiters, w.entry ≠ a) → t.entry? a = s.entry? a)) ∧
  (∀ (s : State) (src c : Nat), s.mayAdminister src = true → c = s.fld F.XLT_CTX_SEL_CTX →
    143 < s.fld F.XLT_CTX_CFG_BOUND_SRC ∨ s.inFlight c ≠ [] ∧ (s.ctx c).valid = true ∧ s.fld F.XLT_CTX_CFG_VALID = 0 →
    ∃ t, exec (.xltApplyCtx src false) s = .next t ∧
      t.fld F.XLT_APPLY_STATUS_ERR = (if 143 < s.fld F.XLT_CTX_CFG_BOUND_SRC then 1 else 4) ∧
      t.fld F.XLT_EVENT_APPLY_DONE = 1 ∧ Frame [.regs, .msix, .out] s t) ∧
  (∀ (s : State) (src c i : Nat), s.mayAdminister src = true → c = s.fld F.XLT_CTX_SEL_CTX → i = s.fld F.XLT_SEG_SEL_SEG →
    s.segErr = 0 →
    ∃ t, exec (.xltApplySeg src false) s = .next t ∧ t.fld F.XLT_APPLY_STATUS_ERR = 0 ∧ t.fld F.XLT_EVENT_APPLY_DONE = 1 ∧
      t.ctx c = ({ s.ctx c with segGen := ((s.ctx c).segGen + 1) % 65536 }).setSeg i s.stagedSeg ∧
      (∀ b, b ≠ c → t.ctx b = s.ctx b) ∧ Frame [.xlt, .regs, .msix, .out] s t) ∧
  (∀ (s : State) (src : Nat), s.mayAdminister src = true → s.fld F.XLT_SEG_CTRL_STATE = 0 →
    (s.seg (s.fld F.XLT_CTX_SEL_CTX) (s.fld F.XLT_SEG_SEL_SEG)).revoking = true →
    ∃ t, exec (.xltApplySeg src false) s = .next t ∧ t.fld F.XLT_APPLY_STATUS_ERR = 5 ∧ Frame [.regs, .msix, .out] s t) ∧
  (∀ (s : State) (src : Nat) (p0 p1 : Bool), s.mayAdminister src = true →
    ∃ t, exec (.xltAtcFlush src p0 p1) s = .next t ∧ t.atc 0 = (if p0 then [] else s.atc 0) ∧
      t.atc 1 = (if p1 then [] else s.atc 1) ∧ Frame [.xlt] s t)

/-- R155, R156, R171: an invalidation takes the matching translations at once and is completed when the reads that used them have
drained; a translation, a page response, a timeout or a DMA completion lets a waiting mover go on or ends its command. -/
def Obligations.AtsAndPri : Prop :=
  (∀ (s : State) (port func tag page pages : Nat),
    ∃ t, exec (.atsInvalidationRequest port func tag page pages) s = .next t ∧
      (∀ a, a ∈ t.atc port ↔ a ∈ s.atc port ∧ ¬ (a.func = func ∧ a.page < page + pages ∧ page < a.page + a.pages)) ∧
      (∃ l, t.xlt.invals = s.xlt.invals ++ [({ port := port, tag := tag, since := s.frame, draining := l } : Invalidation)]) ∧
      Frame [.xlt] s t) ∧
  (∀ (s : State) (port tag : Nat) (i : Invalidation), s.xlt.invals.find? (fun i => i.port = port && i.tag = tag) = some i →
    i.draining = [] →
    ∃ t, exec (.atsInvalidationCompletion port tag) s = .next t ∧ Emit.invalCompletion port tag ∈ t.out ∧
      t.xlt = { s.xlt with invals := s.xlt.invals.erase i } ∧ (100 < s.usSince i.since → t.fld F.XLT_EVENT_INVAL_SLOW = 1)) ∧
  (∀ (s : State) (port tag : Nat) (i : Invalidation), s.xlt.invals.find? (fun i => i.port = port && i.tag = tag) = some i →
    i.draining ≠ [] → exec (.atsInvalidationCompletion port tag) s = .next s) ∧
  (∀ (s : State) (func page pages : Nat) (w : Bool), s.cmdq.entries.cells = [] →
    ∃ t, exec (.translationCompletion func page pages .ok w) s = .next t ∧
      (func / 64 < s.xlt.atc.length → t.atcHas func page w = true) ∧ Frame [.xlt] s t) ∧
  (∀ (s : State) (g : PageGroup) (e : Entry) (d : DmaOp) (n : Nat), s.xlt.groups.find? (fun h => h.id = g.id) = some g →
    OnePage s g.entry e d → g.func = e.src → g.pages = [d.host / 4096] → e.dma.missing = [{ page := d.host / 4096, successes := n, asked := true }] →
    ∃ t, exec (.prgResponse g.id .invalidRequest) s = .next t ∧
      t.Ended g.entry { e.out with status := St.xltFault, subcode := 0x49, absent := d.absent,
                                   result0 := if d.mig then 0 else d.host, countDone := 0,
                                   countAux := if d.mig then e.out.countAux else e.dma.requests }) ∧
  (∀ (s : State) (g : PageGroup) (e : Entry) (d : DmaOp) (n : Nat), s.xlt.groups.find? (fun h => h.id = g.id) = some g →
    OnePage s g.entry e d → g.func = e.src → g.pages = [d.host / 4096] → e.dma.missing = [{ page := d.host / 4096, successes := n, asked := true }] →
    ∃ t, exec (.prgResponse g.id .responseFailure) s = .next t ∧ (t.entry? g.entry).map (·.out.subcode) = some 0x4A ∧
      (t.source g.func).priBlocked = true ∧ t.fld F.XLT_EVENT_PRI_FAILURE = 1) ∧
  (∀ (s : State) (g : PageGroup) (e : Entry) (d : DmaOp) (n : Nat), s.xlt.groups.find? (fun h => h.id = g.id) = some g →
    OnePage s g.entry e d → g.func = e.src → g.pages = [d.host / 4096] → e.dma.missing = [{ page := d.host / 4096, successes := n, asked := true }] →
    e.dma.want = [] → s.atcHas e.src (d.host / 4096) d.write = false → s.atsOut (e.src / 64) < 256 →
    ∃ t, exec (.prgResponse g.id .success) s = .next t ∧ Emit.translation e.src (d.host / 4096) (!d.write) ∈ t.out ∧
      (t.entry? g.entry).map (fun x => (x.phase, x.dma.want, x.dma.missing)) =
        some (.accepted, [d.host / 4096], [{ page := d.host / 4096, successes := n + 1, asked := false, again := true }])) ∧
  (∀ (s : State) (g : PageGroup) (e : Entry) (d : DmaOp) (n : Nat), s.xlt.groups.find? (fun h => h.id = g.id) = some g →
    OnePage s g.entry e d → g.func = e.src → g.pages = [d.host / 4096] → e.dma.missing = [{ page := d.host / 4096, successes := n, asked := true }] →
    ∃ t, exec (.priTimeout g.id) s = .next t ∧
      (t.entry? g.entry).map (fun x => (x.phase, x.out.status, x.out.subcode)) = some (.ended, St.xltFault, 0x4B) ∧
      t.fld F.XLT_EVENT_PRI_TIMEOUT = 1) ∧
  (∀ (s : State) (port f : Nat), port < 2 → f / 64 = port →
    ∃ t, exec (.priReenable port) s = .next t ∧ (t.source f).priBlocked = false ∧
      (∀ a, a / 64 ≠ port → t.source a = s.source a) ∧ Frame [.cmdq] s t) ∧
  (∀ (s : State) (id off n : Nat) (e : Entry) (d : DmaOp) (r : HostResult) (data : List Byte), s.entry? id = some e →
    s.dmaOp e = some d → d.prefetch = false → (s.runningDma e.src).contains id = true → s.NoCoreFor id → r ≠ .ok →
    e.dma = { issued := n, reads := [(0, n)], good := d.len } → off = 0 → 0 < n → n ≤ d.len →
    d.fromBuffer = false →
    ∃ t, exec (.hostDmaCompletion id off r data) s = .next t ∧
      (t.entry? id).map (fun x => (x.phase, x.out.status, x.out.subcode, x.out.countDone)) =
        some (.ended, St.xltFault, 0x4D, 0)) ∧
  (∀ (s : State) (id off : Nat) (e : Entry), s.entry? id = some e →
    ∃ t, exec (.pcieCompletionTimeout id off) s = .next t ∧
      t.entry? id = some { e with dma := { e.dma with reads := e.dma.reads.filter fun r => r.1 != off } } ∧
      (∀ i ∈ t.xlt.invals, (id, off) ∉ i.draining) ∧ Frame [.xlt, .entries] s t)

/-- R154, R155, R157, R160, R162, R165 to R168: NOP does nothing; a mover asks for the translations it lacks, reads the host or
writes to it what it has, and reports; STORE_COPY reads its source before it writes; ADVISE records its code on every page. -/
def Obligations.MovesAndCopies : Prop :=
  (∀ (s : State) (id : Nat) (e : Entry), s.runnable id 0x00 = some e → e.items = [] →
    ∃ t, exec (.nop id) s = .next t ∧ t.Ended id e.out ∧ OnlyEntry id s t) ∧
  (∀ (s : State) (id : Nat) (e : Entry) (d : DmaOp), s.storeUp = true → s.resumable id 0x01 = some e → e.buffer = none →
    s.dmaOp e = some d → e.started = false → (s.source e.src).atsEnabled = true → d.atomic = false →
    e.dma = { good := e.dma.good } → d.len ≤ e.dma.good → 0 < d.len → d.len ≤ 4096 - d.host % 4096 →
    s.atcHas e.src (d.host / 4096) false = true →
    ∃ t, exec (.hostToStore id) s = .next t ∧ t.out = s.out ++ [.hostRead e.src d.host d.len] ∧
      t.store = s.store ∧ (t.entry? id).map (fun x => (x.phase, x.dma)) =
        some (.accepted, { good := e.dma.good, issued := d.len, reads := [(0, d.len)] })) ∧
  (∀ (s : State) (id : Nat) (e : Entry) (d : DmaOp), s.storeUp = true → s.resumable id 0x01 = some e → e.buffer = none →
    s.dmaOp e = some d → e.started = false → (s.source e.src).atsEnabled = false → e.dma.moved = 0 → s.NoCoreFor id →
    ∃ t, exec (.hostToStore id) s = .next t ∧
      t.Ended id { e.out with status := St.xltFault, subcode := 0x4C, absent := 0xFE, result0 := d.host, countDone := 0,
                              countAux := e.dma.requests }) ∧
  (∀ (s u w : State) (id : Nat) (e : Entry) (d : DmaOp), s.storeUp = true → s.resumable id 0x02 = some e →
    e.buffer = none → s.dmaOp e = some d → e.started = true → d.atomic = false → e.dma = { good := e.dma.good } →
    d.len ≤ e.dma.good → 0 < d.len → d.len ≤ 4096 - d.host % 4096 → s.atcHas e.src (d.host / 4096) true = true →
    (s.atcTouch e.src (d.host / 4096)).prepare id (granulesOf d.rsa d.len) [] = (u, false) →
    ((u.accessFor false (pagesOf d.rsa d.len)).dropFetched id).checkReads (granulesOf d.rsa d.len) = (w, none) →
    w.entry? id = some e →
    ∃ t, exec (.storeToHost id) s = .next t ∧ .hostWrite e.src d.host (w.bytes d.rsa d.len) true ∈ t.out ∧
      (t.entry? id).map (fun x => (x.out.result0, x.out.countDone)) = some (d.host + d.len, d.len) ∧
      t.store.mem = w.store.mem) ∧
  (∀ (s : State) (id : Nat) (e : Entry) (d : DmaOp), s.resumable id 0x08 = some e → e.buffer = none → s.dmaOp e = some d →
    e.started = false → (s.source e.src).atsEnabled = true → e.dma = {} → e.items = [] → 0 < d.len →
    d.len ≤ 4096 - d.host % 4096 → s.atcHas e.src (d.host / 4096) d.write = true →
    ∃ t, exec (.prefetchHost id) s = .next t ∧ t.out = s.out ∧ t.store = s.store ∧
      t.Ended id { e.out with result0 := (d.host / 4096 + 1) * 4096, countDone := 1, countAux := 0 }) ∧
  (∀ (s : State) (id : Nat) (e : Entry) (d : DmaOp), s.resumable id 0x08 = some e → e.buffer = none → s.dmaOp e = some d →
    e.started = false → (s.source e.src).atsEnabled = true → e.dma = {} → 0 < d.len → s.atsOut (e.src / 64) < 256 →
    s.atcHas e.src (d.host / 4096) d.write = false →
    ∃ t, exec (.prefetchHost id) s = .next t ∧ .translation e.src (d.host / 4096) (!d.write) ∈ t.out ∧ t.store = s.store) ∧
  (∀ (s u w x y : State) (id a b n : Nat) (e e' : Entry) (data : List Byte), s.runnableStore id 0x03 = some e →
    a = xpSrcRsa e.packet → b = xpStore e.packet → n = xpLen e.packet →
    s.prepare id (granulesOf a n) (granulesOf b n) = (u, false) →
    ((u.accessFor false (pagesOf a n)).dropFetched id).readStore a n = (w, .ok data) → x = w.accessFor true (pagesOf b n) →
    x.writeStore b data = (y, none) → y.entry? id = some e' → e'.items = [] →
    ∃ t, exec (.storeCopy id) s = .next t ∧ t.store = y.store ∧ t.out = y.out ∧
      t.Ended id { e'.out with result0 := b + n, countDone := n,
                               homes := e'.out.homes + (if (x.homesPart a n || x.homesPart b n) &&
                                 !e'.served.contains y.sys.member then 1 else 0) }) ∧
  (∀ (s : State) (id n : Nat) (e : Entry), s.runnableStore id 0x09 = some e → n = xpLen e.packet →
    ∃ t, exec (.advise id) s = .next t ∧ t.store.mem = s.store.mem ∧
      (t.entry? id).map (·.out.countDone) = some (e.out.countDone +
        ((List.range n).filter fun i => s.isHome ((xpStore e.packet / 4096 + i) * 4096)).length) ∧
      (∀ p, xpStore e.packet / 4096 ≤ p → p < xpStore e.packet / 4096 + n → s.isHome (p * 4096) = true →
        t.page p = { s.page p with advice := xpAdvice e.packet }) ∧
      (∀ p, p < xpStore e.packet / 4096 ∨ xpStore e.packet / 4096 + n ≤ p ∨ s.isHome (p * 4096) = false → t.page p = s.page p))

/-- R169, R170, R172 to R174: a migration starts its copy; INVALIDATE waits for older work under the segments named; REVOKE takes the
segment at once and completes when nothing of the old epoch is left; a hold is answered with whether the item had begun. -/
def Obligations.Withdrawals : Prop :=
  (∀ (s : State) (id : Nat) (e : Entry) (d : DmaOp), s.storeUp = true → s.resumable id 0x0C = some e → e.buffer = none →
    s.dmaOp e = some d → e.started = false → (s.source e.src).atsEnabled = true → e.dma = { good := e.dma.good } → 0 < d.len →
    0 < e.dma.good → s.atsOut (e.src / 64) < 256 → s.atcHas e.src (d.host / 4096) false = false →
    ∃ t, exec (.migrateIn id) s = .next t ∧ .translation e.src (d.host / 4096) true ∈ t.out ∧ t.store = s.store ∧
      (t.entry? id).map (·.started) = some true) ∧
  (∀ (s : State) (id : Nat) (e : Entry) (w : State) (i : Nat), s.entry? id = some e → e.phase = .ended → e.items = [] →
    e.accepted = true → pkOpcode e.packet = 0x0C → e.out.status = St.done → w = s.xltCompleted id e → i = xpSegment e.packet →
    w.seg (pkContext e.packet) i = { s.seg (pkContext e.packet) i with state := .valid } ∧
      (w.ctx (pkContext e.packet)).segGen = ((s.ctx (pkContext e.packet)).segGen + 1) % 65536) ∧
  (∀ (s : State) (id : Nat) (e : Entry) (r : Revocation), s.resumable id 0x0D = some e → r ∈ s.xlt.revocations → r.entry = id →
    s.drained r = false → exec (.migrateOut id) s = .next s) ∧
  (∀ (s : State) (id : Nat) (e : Entry) (d : DmaOp) (r : Revocation), s.storeUp = true → s.resumable id 0x0D = some e →
    s.xlt.revocations = [r] → r.entry = id → s.drained r = true → e.buffer = none → s.dmaOp e = some d → e.started = false →
    (s.source e.src).atsEnabled = true → e.dma = { good := e.dma.good } → 0 < d.len → 0 < e.dma.good →
    s.atsOut (e.src / 64) < 256 → s.atcHas e.src (d.host / 4096) true = false →
    ∃ t, exec (.migrateOut id) s = .next t ∧ .translation e.src (d.host / 4096) false ∈ t.out ∧ t.store = s.store) ∧
  (∀ (s : State) (id : Nat) (e : Entry), s.runnable id 0x20 = some e → e.items = [] →
    s.oldCommands (xpTargetCtx e.packet) (xpSegMask e.packet) e.targetGen = [] →
    s.rawsOn (xpTargetCtx e.packet) (xpSegMask e.packet) (some e.targetGen) = [] →
    ∃ t, exec (.invalidate id) s = .next t ∧ t.Ended id { e.out with countDone := e.waited, countAux := e.rawWaited } ∧
      OnlyEntry id s t) ∧
  (∀ (s : State) (id : Nat) (e : Entry), s.runnable id 0x20 = some e →
    s.oldCommands (xpTargetCtx e.packet) (xpSegMask e.packet) e.targetGen ≠ [] → exec (.invalidate id) s = .next s) ∧
  (∀ (s : State) (id c i : Nat) (e : Entry), s.runnable id 0x21 = some e → c = xpTargetCtx e.packet → i = xpTargetSeg e.packet →
    s.xlt.revocations = [] → (s.seg c i).state = .valid → s.boundEndpoint c = none → (∀ x ∈ s.inFlight c, x.1 = id) →
    ∃ t, exec (.revoke id) s = .next t ∧ t.seg c i = { s.seg c i with state := .invalid, revoking := true } ∧
      (t.ctx c).revEpoch = ((s.ctx c).revEpoch + 1) % 65536 ∧ t.out = s.out ∧ t.store = s.store ∧
      (∀ b, b ≠ c → t.ctx b = s.ctx b)) ∧
  (∀ (s : State) (id : Nat) (e : Entry), s.runnable id 0x21 = some e → e.items = [] → s.xlt.revocations = [] →
    (s.seg (xpTargetCtx e.packet) (xpTargetSeg e.packet)).state ≠ .valid →
    ∃ t, exec (.revoke id) s = .next t ∧ t.Ended id { e.out with result0 := (s.ctx (xpTargetCtx e.packet)).revEpoch } ∧
      OnlyEntry id s t) ∧
  (∀ (s : State) (c i : Nat) (r : Revocation) (e : Entry), s.xlt.revocations = [r] → r.ctx = c → r.seg = i → r.sub = 0x40 →
    r.backStarted = true → s.drained r = true → s.backPending (revokeWaiter r.entry) = false → s.noneAway (revokeWaiter r.entry) = true →
    s.rawsOn c (2 ^ i) none = [] →
    s.entry? r.entry = some e → e.items = [] → e.stop = none → pkOpcode e.packet = 0x21 →
    ∃ t, exec (.revokeComplete c i) s = .next t ∧ t.seg c i = { s.seg c i with revoking := false } ∧ t.xlt.revocations = [] ∧
      t.fld F.XLT_EVENT_REVOKE_DONE = 1 ∧
      t.Ended r.entry { e.out with result0 := r.epoch, countDone := r.nReleased, countAux := r.nRevoked }) ∧
  (∀ (s : State) (c i : Nat) (r : Revocation), s.xlt.revocations = [r] → r.ctx = c → r.seg = i → r.sub = 0x40 →
    r.backStarted = true → s.drained r = false → exec (.revokeComplete c i) s = .next s) ∧
  (∀ (s : State) (origin id : Nat), s.proxyOf origin id = none →
    ∃ t, exec (.workHold origin id) s = .next t ∧ (origin, id) ∈ t.rack.holds ∧
      t.out = s.out ++ [.workAnswer origin id St.revoked 0 [BitVec.ofNat 8 (b2n (s.itemBegun origin id))]] ∧
      Frame [.rack, .out] s t)

/-- R180, R201 to R205: the lock; PLACE applies its record to every slab named, or with too few frames to none; SEAL seals at once and
ends when its writers have drained; RAISE and LOWER take pages to a tier and home again; RESIDENCY counts. -/
def Obligations.TierCommands : Prop :=
  (∀ (s : State) (src : Nat), s.mayAdminister src = true →
    ∃ t, exec (.tierCtrlLock src) s = .next t ∧ t.fld F.TIER_STATUS_LOCKED = 1 ∧ Frame [.regs] s t ∧
      FieldsStand [F.TIER_STATUS_LOCKED] s t) ∧
  (∀ (s : State) (id : Nat) (e : Entry) (x : Slab), s.runnableStore id 0x30 = some e → tpRecord e.packet = some x →
    e.part = false → e.stage = 0 → s.placeWaits id e = false → s.slabsHeld (tpSlabs e.packet) = false →
    s.everyMember.length ≤ 1 → s.placeNeeds e.packet x ≤ s.store.free.getD x.home.code 0 →
    ∃ t, exec (.place id) s = .next t ∧ t.store.mem = s.store.mem ∧ (t.entry? id).map (·.out.countDone) = some (tpCount e.packet) ∧
      (∀ n ∈ tpSlabs e.packet, ∃ y z, s.store.slabs.getD n {} = y ∧ t.store.slabs.getD n {} = z ∧
        z = { x with comp := y.comp, withdrawing := y.withdrawing, sealed := y.sealed && y.copyMode && x.copyMode }) ∧
      (∀ n, n ∉ tpSlabs e.packet → t.store.slabs.getD n {} = s.store.slabs.getD n {})) ∧
  (∀ (s : State) (id : Nat) (e : Entry) (x : Slab), s.runnableStore id 0x30 = some e → tpRecord e.packet = some x →
    e.part = false → e.stage = 0 → s.placeWaits id e = false → s.slabsHeld (tpSlabs e.packet) = false →
    1 < s.everyMember.length → s.placeNeeds e.packet x ≤ s.store.free.getD x.home.code 0 →
    ∃ t, exec (.place id) s = .next t ∧ t.store.slabs = s.store.slabs ∧ t.store.mem = s.store.mem ∧
      (t.entry? id).map (fun y => (y.phase, y.stage)) = some (.accepted, 1)) ∧
  (∀ (s : State) (id : Nat) (e : Entry) (x : Slab), s.runnableStore id 0x30 = some e → tpRecord e.packet = some x →
    e.part = false → e.stage = 0 → s.placeWaits id e = false → s.slabsHeld (tpSlabs e.packet) = false →
    s.store.free.getD x.home.code 0 < s.placeNeeds e.packet x →
    ∃ t, exec (.place id) s = .next t ∧ t.store = s.store ∧
      (t.entry? id).map (fun y => (y.phase, y.out.status, y.out.subcode, y.out.absent)) = some (.ended, St.noSpace, 0x40, 0xFF)) ∧
  (∀ (s : State) (id n : Nat) (e : Entry), s.runnableStore id 0x31 = some e → n ∈ tpSlabs e.packet →
    ∃ t, exec (.seal id) s = .next t ∧ (t.store.slabs.getD n {}).sealed = true ∧ t.store.mem = s.store.mem) ∧
  (∀ (s : State) (id w : Nat) (e x : Entry), s.runnableStore id 0x31 = some e →
    (∀ n ∈ tpSlabs e.packet, (s.store.slabs.getD n {}).sealed = true) → w ∈ e.waitsFor → s.entry? w = some x →
    exec (.seal id) s = .next s) ∧
  (∀ (s : State) (id : Nat) (e : Entry), s.runnableStore id 0x31 = some e →
    (∀ n ∈ tpSlabs e.packet, (s.store.slabs.getD n {}).sealed = true) → (∀ w ∈ e.waitsFor, s.entry? w = none) →
    s.sealRaws (tpSlabs e.packet) = false → s.placeWaits id e = false → e.part = false →
    (∀ m ∈ s.everyMember, m = s.sys.member) → e.items = [] →
    ∃ t, exec (.seal id) s = .next t ∧ (t.entry? id).map (fun x => (x.phase, x.out.countDone)) = some (.ended, (tpSlabs e.packet).length) ∧
      ∀ pg, s.isHome (pg * 4096) = true → pg / 262144 ∈ tpSlabs e.packet → (t.page pg).buffered = false) ∧
  (∀ (s u : State) (id pg : Nat) (e : Entry) (tier : Tier), s.runnableStore id 0x32 = some e → tpPages e.packet = [pg] →
    tpRaisePin e.packet = false → tier = (if tpHome e.packet = 0 then .hbm else .ddr) →
    s.pageHeld pg = false → (s.standsIn pg).atLeast tier = false → s.raisePage pg tier = (u, true) → s.homesOf [pg * 4096] = [s.sys.member] →
    s.isHome (pg * 4096) = true → e.items = [] →
    ∃ t, exec (.raise id) s = .next t ∧ (t.standsIn pg).atLeast tier = true ∧ t.store.mem = s.store.mem ∧
      (t.entry? id).map (fun x => (x.phase, x.out.status, x.out.result0, x.out.countDone, x.out.countAux)) =
        some (.ended, e.out.status, 0, 1, 0)) ∧
  (∀ (s u : State) (id pg : Nat) (e : Entry) (tier : Tier), s.runnableStore id 0x32 = some e → tpPages e.packet = [pg] →
    tier = (if tpHome e.packet = 0 then .hbm else .ddr) → s.pageHeld pg = false → s.raisePage pg tier = (u, false) →
    s.homesOf [pg * 4096] = [s.sys.member] → s.isHome (pg * 4096) = true → e.items = [] →
    ∃ t, exec (.raise id) s = .next t ∧ t.store = s.store ∧ t.fld F.TIER_EVENT_CHAIR_DROP = 1 ∧
      (t.entry? id).map (fun x => (x.phase, x.out.status, x.out.result0, x.out.countDone)) = some (.ended, St.donePartial, 1, 0)) ∧
  (∀ (s : State) (id : Nat) (e : Entry), s.runnableStore id 0x33 = some e → (∀ pg ∈ tpPages e.packet, s.pageHeld pg = false) →
    ∃ t, exec (.lower id) s = .next t ∧ t.store.mem = s.store.mem ∧ (∀ pg, pg ∉ tpPages e.packet → t.page pg = s.page pg) ∧
      ∀ pg ∈ tpPages e.packet, s.isHome (pg * 4096) = true →
        ((s.page pg).hbm.any (·.pin) || (s.page pg).ddr.any (·.pin)) = false ∨ tpUnpin e.packet = true →
        (t.page pg).hbm = none ∧ (t.page pg).ddr = none) ∧
  (∀ (s : State) (id pg : Nat) (e : Entry), s.runnableStore id 0x33 = some e → tpUnpin e.packet = false →
    ((s.page pg).hbm.any (·.pin) || (s.page pg).ddr.any (·.pin)) = true →
    ∃ t, exec (.lower id) s = .next t ∧ t.page pg = s.page pg) ∧
  (∀ (s : State) (id : Nat) (e : Entry), s.runnableStore id 0x34 = some e →
    (∀ pg ∈ tpPages e.packet, s.isHome (pg * 4096) = true) → s.homesOf ((tpPages e.packet).map (· * 4096)) = [s.sys.member] →
    e.items = [] →
    ∃ t h d f p, exec (.residency id) s = .next t ∧ h + d + f = tpCount e.packet ∧
      h = ((tpPages e.packet).filter fun pg => s.standsIn pg == .hbm).length ∧
      d = ((tpPages e.packet).filter fun pg => s.standsIn pg == .ddr).length ∧
      p = ((tpPages e.packet).filter fun pg => (s.page pg).hbm.any (·.pin) || (s.page pg).ddr.any (·.pin)).length ∧
      (t.entry? id).map (fun x => (x.phase, x.out.result0, x.out.result1, x.out.countDone, x.out.countAux)) =
        some (.ended, h + 2 ^ 32 * d, p, tpCount e.packet, f))

/-- R191, R196, R197, R207, R210, R213, R214: the Chairlift starts and ends its moves, heat ages, retrainings fall due, device
temperatures set the refresh rate, a wait for journal space ends, the erased half of the brace area is ready. -/
def Obligations.ChairliftAndMedia : Prop :=
  (∀ (s : State) (n pg : Nat) (tier : Tier) (rest : List (Nat × Tier)), s.sys.bracing = false →
    s.store.movesStarted < s.chairRate → s.store.moves.length < 1024 → s.store.raises = (pg, tier) :: rest →
    (s.standsIn pg).atLeast tier = false → tier.within (s.slab (pg * 4096)).ceiling = true →
    exec (.chairliftMoveStart false n) s = .next { s with store := { s.store with
      raises := rest, moves := s.store.moves ++ [{ page := pg, target := tier, home := false }],
      movesStarted := s.store.movesStarted + 1 } }) ∧
  (∀ (s : State) (n : Nat) (home : Bool), s.sys.bracing = true ∨ s.chairRate ≤ s.store.movesStarted ∨ 1024 ≤ s.store.moves.length →
    exec (.chairliftMoveStart home n) s = .next s) ∧
  (∀ (s : State) (pg : Nat), s.sys.bracing = false → s.store.movesStarted < s.chairRate → s.store.moves.length < 1024 →
    (s.page pg).buffered = true ∧ s.stripeComplete pg = true ∨ s.writeBackDue = some pg →
    exec (.chairliftMoveStart true pg) s = .next { s with store := { s.store with
      moves := s.store.moves ++ [{ page := pg, target := .flash, home := true }], movesStarted := s.store.movesStarted + 1 } }) ∧
  (∀ (s : State) (pg : Nat) (m : Move), s.store.moves.find? (fun m => m.page = pg) = some m → m.home = true →
    s.pageHeld pg = false → s.coh.txns = [] → s.rack.held = [] →
    ∃ t, exec (.moveDirectorySwitch pg) s = .next t ∧ t.store.moves = s.store.moves.erase m ∧ t.store.mem = s.store.mem ∧
      (t.page pg).buffered = false ∧ (∀ j ∈ t.store.journal, j.rsa / 4096 ≠ pg) ∧ ∀ q, q ≠ pg → t.page q = s.page q) ∧
  (∀ (s : State) (pg : Nat) (m : Move), s.store.moves.find? (fun m => m.page = pg) = some m → m.home = false →
    m.target ≠ .flash → s.pageHeld pg = false → m.target.within (s.slab (pg * 4096)).ceiling = true →
    ∃ t, exec (.moveDirectorySwitch pg) s = .next t ∧ t.store.moves = s.store.moves.erase m ∧ t.store.mem = s.store.mem ∧
      ((t.standsIn pg).atLeast m.target = true ∨ t.fld F.TIER_EVENT_CHAIR_DROP = 1)) ∧
  (∀ (s : State) (pg : Nat), s.pageHeld pg = true → exec (.moveDirectorySwitch pg) s = .next s) ∧
  (∀ (s : State) (id g : Nat) (e : Entry), { entry := some id, granule := g } ∈ s.store.journalWaits → s.journalRoom [g] = true →
    s.entry? id = some e → e.accepted = true → e.phase = .accepted → e.stop = none → pkOpcode e.packet = 0x03 →
    exec (.journalWaitResume (some id) g) s = exec (.storeCopy id) (s.endJournalWait (some id) g)) ∧
  (∀ (s : State) (id : Option Nat) (g : Nat), s.journalRoom [g] = false → exec (.journalWaitResume id g) s = .next s) ∧
  (∀ (s : State), s.frame < s.store.epochStart + s.fld F.TIER_HEAT_CFG_EPOCH_FRAMES → exec .heatEpochEnd s = .next s) ∧
  (∀ (s : State), s.store.epochStart + s.fld F.TIER_HEAT_CFG_EPOCH_FRAMES ≤ s.frame →
    ∃ t, exec .heatEpochEnd s = .next t ∧ t.store.epochStart = s.frame ∧ t.store.mem = s.store.mem ∧ Frame [.store] s t ∧
    ∀ pg, (s.store.pages.find? pg).isSome → (t.page pg).homeAge = min 31 ((s.page pg).homeAge + 1) ∧
      (t.page pg).hbm = (s.page pg).hbm.map (fun f => { f with age := min 31 (f.age + 1) }) ∧
      (t.page pg).ddr = (s.page pg).ddr.map (fun f => { f with age := min 31 (f.age + 1) })) ∧
  (∀ (s : State) (kind unit a v : Nat) (osc : Bool), unit < trainInstances kind →
    ∃ t, exec (.driftSample kind unit a v osc) s = .next t ∧ (t.training kind unit).tNow = a ∧ (t.training kind unit).vNow = v ∧
      ((t.training kind unit).pending = true ↔ (s.training kind unit).pending = true ∨ osc = true ∨
        driftReached a (s.training kind unit).t0 v (s.training kind unit).v0 (s.fld F.TIER_DRIFT_CFG_DRIFT_T)
          (s.fld F.TIER_DRIFT_CFG_DRIFT_MV) = true ∨
        s.fld F.TIER_DRIFT_CFG_MAX_UNITS * 65536 ≤ s.frame - (s.training kind unit).lastFrame) ∧
      ((s.training kind unit).pending = false → (t.training kind unit).pending = true →
        (t.training kind unit).stepsLeft = retrainSteps kind) ∧ Frame [.store] s t) ∧
  (∀ (s : State) (unit temp : Nat) (b : Bool), unit < 4 → 85 < temp →
    ∃ t, exec (.deviceTempRead 0 unit temp b) s = .next t ∧ bit (t.regAt 0 F.TIER_REFRESH_2X_HBM.off) unit = true ∧
      t.store.devTemp.getD unit 0 = temp ∧ (95 ≤ temp → t.fld F.TIER_EVENT_DEV_HOT = 1)) ∧
  (∀ (s : State) (unit temp since : Nat) (b : Bool), unit < 4 → temp ≤ 80 → s.store.coolSince.find? unit = some since →
    ∃ t, exec (.deviceTempRead 0 unit temp b) s = .next t ∧
      bit (t.regAt 0 F.TIER_REFRESH_2X_HBM.off) unit =
        (bit (s.regAt 0 F.TIER_REFRESH_2X_HBM.off) unit && decide (s.frame - since < 1000))) ∧
  (∀ (s : State) (unit temp : Nat) (b : Bool), unit < 16 →
    ∃ t, exec (.deviceTempRead 1 unit temp b) s = .next t ∧ bit (t.regAt 0 F.TIER_REFRESH_2X_HBM.off) (4 + unit) = b) ∧
  (∀ (s : State), s.storeUp = true → s.sys.bracing = false → s.store.checkpointFrame + 2 ^ 20 ≤ s.frame ∨ 2 ^ 24 ≤ s.delta →
    ∃ t, exec .metadataCheckpoint s = .next t ∧ t.store.checkpointFrame = s.frame ∧ t.store.deltaBytes = 0 ∧
      t.store.mem = s.store.mem ∧ t.store.pages = s.store.pages ∧ Frame [.store] s t) ∧
  (∀ (s : State), s.frame < s.store.checkpointFrame + 2 ^ 20 → s.delta < 2 ^ 24 → exec .metadataCheckpoint s = .next s) ∧
  (∀ (s : State) (half : Nat) (x y : BraceHalf), s.store.braceHalves.getD (half % 2) {} = x →
    s.store.braceHalves.getD ((half + 1) % 2) {} = y → x.erased = false →
    x.header = false ∨ y.header = true ∧ x.frame ≤ y.frame →
    ∃ t, exec (.braceAreaErased half) s = .next t ∧ t.fld F.TIER_STATUS_BRACE_READY = 1 ∧ t.fld F.TIER_EVENT_BRACE_READY = 1 ∧
      t.store = { s.store with braceHalves := s.store.braceHalves.set (half % 2) { erased := true } } ∧
      Frame [.regs, .out, .store, .msix] s t)

/-- R415, R467, R468: a write of the store writes exactly its bytes, raises the generation of a granule it writes whole and
clears its poison; a part of a poisoned granule is not written. -/
def Obligations.StoreWrites : Prop :=
  (∀ (s t : State) (a : Nat) (data : List Byte), s.writeStore a data = (t, none) → t.bytes a data.length = data) ∧
  (∀ (s t : State) (a : Nat) (data : List Byte) (f : Option (Nat × Nat)), s.writeStore a data = (t, f) →
    (∀ g ∈ granulesOf a data.length, (s.gran g).damaged = false ∧ s.decrypt g = s) →
    ∀ x, x < a ∨ a + data.length ≤ x → t.byte x = s.byte x) ∧
  (∀ (s : State) (g : Nat) (data : List Byte), data.length = 128 → s.isHome (g * 128) = true →
    ∃ t, s.writeStore (128 * g) data = (t, none) ∧ (t.gran g).wgen = ((s.gran g).wgen + 1) % 2 ^ 48 ∧ (t.gran g).poison = none ∧
      (t.gran g).damaged = false ∧ (t.gran g).mirror = none) ∧
  (∀ (s : State) (g off : Nat) (data : List Byte) (k : PoisonKind), (s.gran g).poison = some k → off + data.length ≤ 128 →
    0 < data.length → data.length < 128 → s.isHome (g * 128) = true → s.decrypt g = s → s.writeStore (128 * g + off) data = (s, some k.answer))

/-- R220, R223, R229, R248, R249, R252, R255: an invocation starts with its recipe and a zeroed Pocket extent; control steps move the
sequencer; END leaves the core idle; limits that pass end the invocation with their fault. -/
def Obligations.RecipeControl : Prop :=
  (∀ (s : State) (core : Nat) (i : Invocation) (rest : List Invocation) (q : RecipeSlot), (s.edge core).run = none →
    s.coreOnline core = true → s.running = true → s.sys.bracing = false → s.runningCores < s.fld F.PWR_THROTTLE_CORE_LIMIT →
    s.coreAway core = [] → (s.edge core).queue = i :: rest → s.core.slots.find? i.slot = some q → s.core.waiting = [] →
    (∀ p, p < 16 → (rcpPorts q.recipe).testBit p = true → ∃ x ∈ i.ports, x.num = p) →
    ∃ t, exec (.invocationStart core) s = .next t ∧ (t.edge core).run = some { inv := i, recipe := q.recipe, scalars := i.scalars } ∧
      (t.edge core).queue = rest ∧ (∀ c, c ≠ core → t.edge c = s.edge c) ∧
      (rcpKeep q.recipe = false ∨ (s.edge core).last ≠ some (i.slot, i.comp) →
        ∀ a, a < rcpPocketLen q.recipe → Memory.get (t.edge core).pocket a = 0)) ∧
  (∀ (s : State) (core : Nat) (i : Invocation) (rest : List Invocation), (s.edge core).run = none →
    s.coreOnline core = true → s.running = true → s.sys.bracing = false → s.runningCores < s.fld F.PWR_THROTTLE_CORE_LIMIT →
    s.coreAway core = [] → (s.edge core).queue = i :: rest → s.core.slots.find? i.slot = none → s.core.waiting = [] →
    ∃ t, exec (.invocationStart core) s = .next t ∧ (t.edge core).run = none ∧ t.fld F.CORE_EVENT_FAULT = 1 ∧
      (s.fld F.CORE_EVENT_FAULT = 0 → t.fld F.CORE_FAULT_INFO_CODE = 9)) ∧
  (∀ (s : State) (core : Nat) (r : Running) (x : RStep), s.ready core 0x00 = some (r, x) →
    exec (.recipeNop core) s = .next (s.setRun core { r with step := r.step + 1 })) ∧
  (∀ (s : State) (core n : Nat) (r : Running) (x : RStep), s.ready core 0x08 = some (r, x) →
    n = (if refScalar x.a then r.scalars.getD (refReg x.a) 0 else x.iter) → n ≠ 0 →
    exec (.loop core) s = .next (s.setRun core { r with loops := (r.step, n) :: r.loops, step := r.step + 1 })) ∧
  (∀ (s : State) (core : Nat) (r : Running) (x : RStep), s.ready core 0x08 = some (r, x) → refScalar x.a = true →
    r.scalars.getD (refReg x.a) 0 = 0 →
    exec (.loop core) s = .next (s.setRun core { r with step := matchingEnd r.recipe r.step + 1 })) ∧
  (∀ (s : State) (core first n : Nat) (outer : List (Nat × Nat)) (r : Running) (x : RStep), s.ready core 0x09 = some (r, x) →
    r.loops = (first, n) :: outer →
    ∃ t q, exec (.endloop core) s = .next t ∧ (t.edge core).run = some q ∧ Frame [.core] s t ∧
      (1 < n → q.step = first + 1 ∧ q.loops = (first, n - 1) :: outer) ∧
      (n ≤ 1 → q.step = r.step + 1 ∧ q.loops = outer ∧ q.offs = r.offs)) ∧
  (∀ (s u : State) (core name v : Nat) (r : Running) (x : RStep), s.ready core 0x0A = some (r, x) →
    name = r.scalars.getD (refReg x.a) 0 → s.serverOf (gateSlot name) = s.sys.member →
    s.signalGate r.inv.entry name 1 r.inv.comp = (u, none, v) → (u.edge core).run = some r →
    exec (.signal core) s = .next (u.setRun core { r with settled := true, signal := none, step := r.step + 1 })) ∧
  (∀ (s : State) (core name : Nat) (r : Running) (x : RStep), s.ready core 0x0A = some (r, x) →
    name = r.scalars.getD (refReg x.a) 0 → s.serverOf (gateSlot name) ≠ s.sys.member →
    ∃ t y, exec (.signal core) s = .next t ∧ (t.edge core).run = some { r with signal := some s.rack.nextItem } ∧
      t.rack.away.find? s.rack.nextItem = some y ∧ y.home = s.serverOf (gateSlot name) ∧ y.addr = name ∧
      t.out.length = s.out.length + 1 ∧ t.gate = s.gate) ∧
  (∀ (s : State) (core : Nat) (r : Running) (x : RStep), s.ready core 0x0B = some (r, x) →
    ∃ t, exec (.flags core) s = .next t ∧ (t.edge core).bytes (r.pocketAddr x 0 0) 32 = r.flags.bytes ∧
      (t.edge core).run = some { r with step := r.step + 1 } ∧ Frame [.core] s t ∧ (∀ c, c ≠ core → t.edge c = s.edge c) ∧
      ∀ a, a < r.pocketAddr x 0 0 ∨ r.pocketAddr x 0 0 + 32 ≤ a →
        Memory.get (t.edge core).pocket a = Memory.get (s.edge core).pocket a) ∧
  (∀ (s : State) (core : Nat) (r : Running) (x : RStep), s.ready core 0x0F = some (r, x) →
    ∃ t, exec (.recipeEnd core) s = .next t ∧ (t.edge core).run = none ∧ (t.edge core).done = satInc 32 (s.edge core).done ∧
      (t.edge core).last = some (r.inv.slot, r.inv.comp) ∧
      ((∀ e, s.entry? r.inv.entry = some e → pkOpcode e.packet ≠ 0x44) → t.store.mem = s.store.mem)) ∧
  (∀ (s : State) (core : Nat) (r : Running) (h : HoldSet) (e : Entry) (i : Item), (s.edge core).run = some r → r.hold = some h →
    h.got ≠ [] → r.stream = [] → s.entry? r.inv.entry = some e → e.items = [i] → i.id = r.inv.item → i.cancelled = false →
    i.other = none → i.failure = none → i.transfer = false → e.moving = false → e.stop = none → e.started = true → e.out.status = 0 →
    ∃ t, exec (.holdTimeout core) s = .next t ∧ (t.edge core).run = none ∧ t.fld F.CORE_EVENT_FAULT = 1 ∧
      (s.fld F.CORE_EVENT_FAULT = 0 → t.fld F.CORE_FAULT_INFO_CODE = 4) ∧
      (t.entry? r.inv.entry).map (fun x => (x.phase, x.out.status, x.out.subcode)) = some (.ended, St.timeout, 0xE4)) ∧
  (∀ (s : State) (core : Nat) (r : Running) (e : Entry) (i : Item), (s.edge core).run = some r → r.stream = [] →
    s.entry? r.inv.entry = some e → e.items = [i] → i.id = r.inv.item → i.cancelled = false → i.other = none → i.failure = none →
    i.transfer = false → e.moving = false → e.stop = none → e.started = true → e.out.status = 0 →
    ∃ t, exec (.cycleLimitExpiry core) s = .next t ∧ (t.edge core).run = none ∧ t.fld F.CORE_EVENT_FAULT = 1 ∧
      (s.fld F.CORE_EVENT_FAULT = 0 → t.fld F.CORE_FAULT_INFO_CODE = 5) ∧
      (t.entry? r.inv.entry).map (fun x => (x.phase, x.out.status, x.out.subcode)) = some (.ended, St.timeout, 0xE5))

/-- R225, R226, R228, R230, R231: a stream step of one row inside its port is issued and the sequencer goes on; a gather miss counts; a
row outside ends the invocation; settling moves the bytes; the next waiter takes a released granule. -/
def Obligations.RecipeStreams : Prop :=
  (∀ (s : State) (core : Nat) (r : Running) (x : RStep) (p : InvPort) (i : Instr) (n a : Int),
    (i, x.op, n) ∈ [(Instr.recipeLoad core, 0x01, 0), (.recipeStore core, 0x02, 0), (.atomicAdd core, 0x05, 0),
      (.recipeGather core, 0x03, toSigned 32 (leNat ((s.edge core).bytes (r.pocketAddr x 3 0) 4))),
      (.recipeScatter core, 0x04, toSigned 32 (leNat ((s.edge core).bytes (r.pocketAddr x 3 0) 4)))] →
    s.ready core x.op = some (r, x) → (s.edge core).flips = [] → r.inv.ports.find? (fun p => p.num = x.port) = some p →
    x.rows = 1 → x.hold = false → a = rowAddr r x p n → 0 ≤ n → rowInside p a ((x.fmt 0).rowBytes x.count) = true →
    portGrants p x = true →
    ∃ t d, exec i s = .next t ∧ Frame [.core] s t ∧ (t.edge core).pocket = (s.edge core).pocket ∧
      (∀ c, c ≠ core → t.edge c = s.edge c) ∧
      d = { step := r.step, seq := (s.edge core).seq, op := x.op, token := x.sync % 8, rowLen := (x.fmt 0).rowBytes x.count,
            rows := [(some a.toNat, r.pocketAddr x 0 0)], float := x.fmt 0 == .fp32,
            data := if x.op = 0x02 ∨ x.op = 0x04 ∨ x.op = 0x05 then
              [(s.edge core).bytes (r.pocketAddr x 0 0) ((x.fmt 0).rowBytes x.count)] else [] : StreamStep } ∧
      (t.edge core).run = some { r with stream := r.stream ++ [d], step := r.step + 1 }) ∧
  (∀ (s : State) (core : Nat) (r : Running) (x : RStep) (p : InvPort) (n : Int), s.ready core 0x03 = some (r, x) →
    (s.edge core).flips = [] → r.inv.ports.find? (fun p => p.num = x.port) = some p → x.rows = 1 →
    n = toSigned 32 (leNat ((s.edge core).bytes (r.pocketAddr x 3 0) 4)) → x.hold = false →
    n < 0 ∨ rowInside p (rowAddr r x p n) ((x.fmt 0).rowBytes x.count) = false →
    ∃ t q, exec (.recipeGather core) s = .next t ∧ (t.edge core).run = some q ∧ q.flags.indexMiss = r.flags.indexMiss + 1 ∧
      q.step = r.step + 1 ∧ t.fld F.CORE_FLAGS_INDEX_MISS = 1 ∧ t.store = s.store) ∧
  (∀ (s : State) (core : Nat) (r : Running) (x : RStep) (p : InvPort) (i : Instr),
    (i, x.op) ∈ [(Instr.recipeLoad core, 0x01), (.recipeStore core, 0x02), (.atomicAdd core, 0x05)] →
    s.ready core x.op = some (r, x) → (s.edge core).flips = [] → r.inv.ports.find? (fun p => p.num = x.port) = some p →
    rowInside p (rowAddr r x p 0) ((x.fmt 0).rowBytes x.count) = false ∨ portGrants p x = false → 0 < x.rows →
    ∃ t, exec i s = .next t ∧ (t.edge core).run = none ∧ t.fld F.CORE_EVENT_FAULT = 1 ∧
      (s.fld F.CORE_EVENT_FAULT = 0 → t.fld F.CORE_FAULT_INFO_CODE =
        if rowInside p (rowAddr r x p 0) ((x.fmt 0).rowBytes x.count) then 2 else 1)) ∧
  (∀ (s u v : State) (core a p : Nat) (r : Running) (x : StreamStep), (s.edge core).run = some r → r.stream = [x] → x.op = 0x01 →
    x.hold = false → x.fault = none → x.rows = [(some a, p)] → s.prepare (coreWaiter core x.seq) x.granules [] = (v, false) →
    (v.edge core).run = some r → v.performStream core x = (u, none) → u.noneAway (coreWaiter core x.seq) = true →
    ∃ t, exec (.streamSettle core x.token) s = .next t ∧ (t.edge core).bytes p x.rowLen = u.bytes a x.rowLen ∧
      t.store = u.store ∧ (t.edge core).run = some { r with stream := [] }) ∧
  (∀ (s u v : State) (core a p : Nat) (r : Running) (x : StreamStep) (data : List Byte), (s.edge core).run = some r →
    r.stream = [x] → x.op = 0x02 → x.hold = false → x.fault = none → x.rows = [(some a, p)] → data = (v.edge core).bytes p x.rowLen → x.data = [data] →
    s.prepare (coreWaiter core x.seq) [] x.granules = (v, false) → (v.edge core).run = some r → v.performStream core x = (u, none) →
    u.noneAway (coreWaiter core x.seq) = true →
    ∃ t, exec (.streamSettle core x.token) s = .next t ∧ t.bytes a x.rowLen = data ∧ t.store = u.store ∧
      (t.edge core).run = some { r with stream := [], settled := true }) ∧
  (∀ (s : State) (core g : Nat) (r : Running) (got : List Nat), s.coreHolds none g = false →
    s.core.waiters.find? (fun w => w.2 = g) = some (core, g) → (s.edge core).run = some r →
    r.hold = some { got := got, want := [g] } →
    ∃ t, exec (.holdGranuleAcquired g) s = .next t ∧ (core, g) ∉ t.core.waiters ∧ t.coreHolds none g = true ∧
      (t.edge core).run = some { r with hold := some { got := got ++ [g], want := [] } } ∧ Frame [.core] s t) ∧
  (∀ (s : State) (g : Nat), s.coreHolds none g = true → exec (.holdGranuleAcquired g) s = .next s)

/-- R236, R237, R247: each elementwise operation on an FP32 element is formed exactly, rounded once to nearest even, and written to D
alone. -/
def Obligations.EngineElements : Prop :=
  ∀ (s : State) (core : Nat) (r : Running) (x : RStep) (i : Instr) (a b c v : Val), OneElement s core r x →
    a = decodeFp .fp32 (leNat ((s.edge core).bytes (r.pocketAddr x 1 0) 4)) →
    b = decodeFp .fp32 (leNat ((s.edge core).bytes (r.pocketAddr x 2 0) 4)) →
    c = decodeFp .fp32 (leNat ((s.edge core).bytes (r.pocketAddr x 3 0) 4)) →
    (i, x.op, v) ∈ [(Instr.copy core, 0x10, a), (.add core, 0x11, a.add b), (.sub core, 0x12, a.sub b), (.mul core, 0x13, a.mul b),
      (.muladd core, 0x14, (a.mul b).add c), (.max core, 0x15, a.max b), (.min core, 0x16, a.min b), (.abs core, 0x17, a.abs),
      (.div core, 0x18, a.div b), (.sqrt core, 0x19, a.sqrt32), (.cmplt core, 0x1A, if a.lt false b then Val.ofInt 1 else .zero),
      (.select core, 0x1B, if c.isZero then b else a)] →
    ∃ t, exec i s = .next t ∧
      (t.edge core).bytes (r.pocketAddr x 0 0) 4 = toLe 4 (narrow .fp32 .nearestEven false true (toFp32 v)).1 ∧
      (∀ n, n < r.pocketAddr x 0 0 ∨ r.pocketAddr x 0 0 + 4 ≤ n →
        Memory.get (t.edge core).pocket n = Memory.get (s.edge core).pocket n) ∧
      (t.edge core).run.map (·.step) = some (r.step + 1) ∧ (∀ k, k ≠ core → t.edge k = s.edge k) ∧ t.store = s.store

/-- R235, R242, R243, R247: DOT, L2SQ and REDUCE of INT8 rows are the exact integer sums in whatever order; HASH is mix64 modulo N; TOPK
keeps the least candidates in ascending order. -/
def Obligations.EngineSums : Prop :=
  (∀ (s : State) (core : Nat) (r : Running) (x : RStep) (i : Instr) (f : Int → Int → Int), Int8Rows s core r x →
    (i, x.op) = (Instr.dot core, 0x20) ∧ f = (fun a b => a * b) ∨ (i, x.op) = (.l2sq core, 0x21) ∧ f = (fun a b => (a - b) * (a - b)) →
    x.rows = 1 →
    ∃ t, exec i s = .next t ∧ (t.edge core).run.map (·.step) = some (r.step + 1) ∧
      toSigned 32 (leNat ((t.edge core).bytes (r.pocketAddr x 0 0) 4)) = (((List.range x.count).map fun j =>
        f (toSigned 8 (leNat ((s.edge core).bytes (r.pocketAddr x 1 0 + j) 1)))
          (toSigned 8 (leNat ((s.edge core).bytes (r.pocketAddr x 2 0 + j) 1)))).sum : Int)) ∧
  (∀ (s : State) (core j : Nat) (r : Running) (x : RStep), Int8Rows s core r x → x.op = 0x22 → j < x.count → 0 < x.rows →
    ∃ t, exec (.reduce core) s = .next t ∧ (t.edge core).run.map (·.step) = some (r.step + 1) ∧
      toSigned 32 (leNat ((t.edge core).bytes (r.pocketAddr x 0 0 + 4 * j) 4)) = (((List.range x.rows).map fun k =>
        toSigned 8 (leNat ((s.edge core).bytes (r.pocketAddr x 1 k + j) 1))).sum : Int)) ∧
  (∀ (s : State) (core n salt j : Nat) (r : Running) (x : RStep), s.ready core 0x28 = some (r, x) → r.stream = [] →
    (s.edge core).flips = [] → refScalar x.d = false → x.rows = 1 → j < x.count →
    n = r.scalars.getD (refReg x.b % 16) 0 → 1 ≤ n → n ≤ 2147483647 →
    salt = r.scalars.getD (refReg x.c % 16) 0 + 2 ^ 32 * r.scalars.getD ((refReg x.c + 1) % 16) 0 →
    ∃ t, exec (.hash core) s = .next t ∧ (t.edge core).run.map (·.step) = some (r.step + 1) ∧
      leNat ((t.edge core).bytes (r.pocketAddr x 0 0 + 4 * j) 4) =
        mix64 ((leNat ((s.edge core).bytes (r.pocketAddr x 1 0 + 8 * j) 8) ^^^ salt) % 2 ^ 64) % n) ∧
  (∀ (s : State) (core len : Nat) (r : Running) (x : RStep) (old cands : List (Nat × Nat)), s.ready core 0x29 = some (r, x) →
    r.stream = [] → (s.edge core).flips = [] → len = r.scalars.getD (refReg x.c) 0 → len ≤ x.rows → r.scalars.length = 16 →
    x.rows ≤ 4096 →
    old = (List.range len).map (fun i => (leNat ((s.edge core).bytes (r.pocketAddr x 0 0 + 8 * i) 4),
      leNat ((s.edge core).bytes (r.pocketAddr x 0 0 + 8 * i + 4) 4))) →
    cands = (List.range x.count).map (fun i => (leNat ((s.edge core).bytes (r.pocketAddr x 1 0 + 4 * i) 4),
      leNat ((s.edge core).bytes (r.pocketAddr x 2 0 + 4 * i) 4))) →
    (∀ e ∈ old, (decodeFp .fp32 e.1).isNan = false) → old.Pairwise (fun a b => topkBefore b a = false) →
    ∃ t q, ∃ l : List (Nat × Nat), exec (.topk core) s = .next t ∧ (t.edge core).run = some q ∧ q.step = r.step + 1 ∧
      q.scalars.getD (refReg x.c) 0 = l.length ∧
      (t.edge core).bytes (r.pocketAddr x 0 0) (8 * l.length) = (l.map fun e => toLe 4 e.1 ++ toLe 4 e.2).flatten ∧
      l.length = min x.rows (len + (cands.filter fun e => !(decodeFp .fp32 e.1).isNan).length) ∧
      l.Pairwise (fun a b => topkBefore b a = false) ∧
      (∀ e ∈ l, e ∈ old ∨ e ∈ cands ∧ (decodeFp .fp32 e.1).isNan = false) ∧
      ∀ e, e ∈ old ∨ e ∈ cands ∧ (decodeFp .fp32 e.1).isNan = false → e ∉ l → ∀ f ∈ l, topkBefore e f = false)

/-- R251, R254, R255: loading an extension recipe reads its image, checks it and puts it into its slot, or reports the first failure;
removing one empties its slot. -/
def Obligations.ExtensionRecipes : Prop :=
  (∀ (s : State) (src : Nat), s.mayAdminister src = true → s.core.loading = none → s.extAllowed = true →
    ∃ t, exec (.coreExtLoad src) s = .next t ∧ t.fld F.CORE_EXT_STATUS_BUSY = 1 ∧ t.fld F.CORE_EXT_STATUS_DONE = 0 ∧
      t.out = s.out ++ [.hostRead src (64 * s.fld F.CORE_EXT_ADDR_LO_ADDR + 2 ^ 32 * s.fld F.CORE_EXT_ADDR_HI_ADDR)
        (s.fld F.CORE_EXT_LEN_LEN)] ∧ t.core.slots = s.core.slots) ∧
  (∀ (s : State) (src : Nat) (l : Nat × Nat × Nat), s.mayAdminister src = true → s.core.loading = some l →
    ∃ t, exec (.coreExtLoad src) s = .next t ∧ t.fld F.CORE_EXT_STATUS_CODE = 0x0D ∧ Frame [.regs] s t ∧
      FieldsStand [F.CORE_EXT_STATUS_CODE] s t) ∧
  (∀ (s : State) (src : Nat), s.mayAdminister src = true → s.core.loading = none → s.extAllowed = false →
    ∃ t, exec (.coreExtLoad src) s = .next t ∧ t.fld F.CORE_EXT_STATUS_CODE = 0x0C ∧ t.fld F.CORE_EXT_STATUS_DONE = 1 ∧
      t.fld F.CORE_EVENT_EXT_DONE = 1 ∧ t.core.slots = s.core.slots) ∧
  (∀ (s : State) (src addr len slot version : Nat) (image : List Byte), s.core.loading = some (src, addr, len) →
    slot = fieldAt image 4 2 → version = fieldAt image 12 4 → extHeaderOk len image = true →
    (∀ v, s.core.highest.find? slot = some v → v < version) → (checkRecipe true (image.drop 128)).code = 0 →
    ∃ t, exec (.coreExtLoadDone .ok image true) s = .next t ∧
      t.core.slots.find? slot = some { recipe := image.drop 128, version := version } ∧
      (∀ n, n ≠ slot → t.core.slots.find? n = s.core.slots.find? n) ∧ t.core.highest.find? slot = some version ∧
      t.fld F.CORE_EXT_STATUS_CODE = 0 ∧ t.fld F.CORE_EXT_STATUS_SLOT = slot ∧ t.fld F.CORE_EXT_STATUS_BUSY = 0 ∧
      t.fld F.CORE_EXT_STATUS_DONE = 1 ∧ t.fld F.CORE_EVENT_EXT_DONE = 1 ∧ t.core.cores = s.core.cores) ∧
  (∀ (s : State) (src addr len code : Nat) (result : HostResult) (image : List Byte) (ok : Bool),
    s.core.loading = some (src, addr, len) →
    code = (if result ≠ .ok then 0x0B else if extHeaderOk len image = false then 0x01 else if ok = false then 0x02
      else if (s.core.highest.find? (fieldAt image 4 2)).any (fun v => decide (fieldAt image 12 4 ≤ v)) then 0x03
      else (checkRecipe true (image.drop 128)).code) → code ≠ 0 →
    ∃ t, exec (.coreExtLoadDone result image ok) s = .next t ∧ t.fld F.CORE_EXT_STATUS_CODE = code % 256 ∧
      t.core = { s.core with loading := none }) ∧
  (∀ (s : State) (src slot : Nat), s.mayAdminister src = true → slot = s.fld F.CORE_RCP_SEL_SLOT → 256 ≤ slot →
    ∃ t, exec (.coreExtRemove src) s = .next t ∧ t.core.slots.find? slot = none ∧
      (∀ n, n ≠ slot → t.core.slots.find? n = s.core.slots.find? n) ∧ t.core.cores = s.core.cores ∧ Frame [.core] s t)

/-- R233, R236, R241: a representable number is narrowed to itself in every floating format and every rounding mode, with nothing
counted, subnormal numbers among them. -/
def Obligations.RepresentableStands : Prop :=
  ∀ (f : Fmt) (rnd : Rnd) (sat fresh neg : Bool) (code : Nat),
    f ∈ [Fmt.fp32, .bf16, .fp16, .e4m3, .e5m2, .mx8e4m3, .mx8e5m2, .mx6e3m2, .mx6e2m3, .mx4e2m1] → code ≤ f.layout.maxCode →
    narrow f rnd sat fresh (decodeFp f (code + if neg then 2 ^ (f.layout.width - 1) else 0)) =
      (code + if neg then 2 ^ (f.layout.width - 1) else 0, {})

/-- R260, R266, R270, R271, R287 to R289: a table is defined, dropped, queried, published and retired at its anchor. -/
def Obligations.EmbeddingTables : Prop :=
  (∀ (s : State) (id k : Nat) (e : Entry), s.runnable id 0x40 = some e → k = epTable e.packet → s.embAnchor k = s.sys.member →
    e.part = false → s.anchorBusy id k e = false → s.embTable k = none →
    ∃ t, exec (.embDefine id) s = .next t ∧
      t.embTable k = some { desc := e.block.take 128, comp := pkComp e.packet, version := 1, loc := edLoc e.block, step := 1 } ∧
      (∀ j, j ≠ k → t.embTable j = s.embTable j) ∧ t.emb.steps = s.emb.steps ∧ t.store = s.store ∧
      (t.entry? id).map (fun x => (x.started, x.out.result0, x.out.countDone)) = some (true, 1, s.members.length)) ∧
  (∀ (s : State) (id : Nat) (e : Entry) (x : EmbTable), s.runnable id 0x40 = some e →
    s.embAnchor (epTable e.packet) = s.sys.member → e.part = false → s.anchorBusy id (epTable e.packet) e = false →
    s.embTable (epTable e.packet) = some x →
    ∃ t, exec (.embDefine id) s = .next t ∧ OnlyEntry id s t ∧
      (t.entry? id).map (fun y => (y.phase, y.out.status, y.out.subcode)) = some (.ended, St.badParam, 0x4A)) ∧
  (∀ (s : State) (id : Nat) (e : Entry), s.runnable id 0x40 = some e → s.embAnchor (epTable e.packet) ≠ s.sys.member → e.part = false →
    ∃ t, exec (.embDefine id) s = .next t ∧ t.emb = s.emb ∧
      (t.entry? id).map (fun x => x.items.map (·.home)) = some (e.items.map (·.home) ++ [s.embAnchor (epTable e.packet)])) ∧
  (∀ (s : State) (id k : Nat) (e : Entry) (x : EmbTable), s.runnable id 0x41 = some e → k = epTable e.packet →
    s.embAnchor k = s.sys.member → e.part = false → s.anchorBusy id k e = false → s.embTable k = some x → s.embInUse id k = false → x.old = none →
    ∃ t, exec (.embDrop id) s = .next t ∧ t.embTable k = none ∧ (∀ j, j ≠ k → t.embTable j = s.embTable j) ∧
      t.emb.steps = s.emb.steps.filter (fun c => c.table != k) ∧ t.store = s.store ∧
      (t.entry? id).map (fun y => (y.started, y.out.result0, y.out.countDone)) = some (true, x.version, s.members.length)) ∧
  (∀ (s : State) (id k : Nat) (e : Entry) (x : EmbTable), s.runnable id 0x41 = some e → k = epTable e.packet →
    s.embAnchor k = s.sys.member → e.part = false → s.anchorBusy id k e = false → s.embTable k = some x → (s.embInUse id k = true ∨ x.old ≠ none) →
    ∃ t, exec (.embDrop id) s = .next t ∧ OnlyEntry id s t ∧
      (t.entry? id).map (fun y => (y.phase, y.out.status, y.out.subcode)) = some (.ended, St.badParam, 0x4A)) ∧
  (∀ (s : State) (id : Nat) (e : Entry) (x : EmbTable), s.runnable id 0x42 = some e → s.embTable (epTable e.packet) = some x →
    ∃ t, exec (.embQuery id) s = .next t ∧ OnlyEntry id s t ∧
      (t.entry? id).map (fun y => (y.phase, y.out.result0, y.out.result1, y.out.countDone)) =
        some (.ended, x.version + 2 ^ 32 * (if edDet x.desc then x.step else 0), (if x.old = none then 1 else 3),
          s.embInFlight (epTable e.packet) x.version)) ∧
  (∀ (s : State) (id : Nat) (e : Entry), s.runnable id 0x42 = some e → s.embTable (epTable e.packet) = none →
    ∃ t, exec (.embQuery id) s = .next t ∧ t.Ended id e.out ∧ OnlyEntry id s t) ∧
  (∀ (s : State) (id k : Nat) (e : Entry) (x y : EmbTable), s.runnable id 0x4C = some e → k = epTable e.packet →
    s.embAnchor k = s.sys.member → e.part = false → s.anchorBusy id k e = false → s.embTable k = some x → s.embTable (epSource e.packet) = some y →
    epSource e.packet ≠ k → (x.desc.drop 2).take 30 = (y.desc.drop 2).take 30 → sub x.desc 40 8 = sub y.desc 40 8 →
    sub x.desc 68 60 = sub y.desc 68 60 → x.version = epExpect e.packet → x.old = none →
    ∃ t, exec (.embPublish id) s = .next t ∧
      t.embTable k = some { x with version := (x.version + 1) % 2 ^ 32, loc := y.loc, old := some x.loc } ∧
      (∀ j, j ≠ k → t.embTable j = s.embTable j) ∧ t.fld F.EMB_EVENT_PUBLISHED = 1 ∧ t.store = s.store ∧
      (t.entry? id).map (fun z => (z.started, z.out.result0, z.out.countDone)) =
        some (true, (x.version + 1) % 2 ^ 32, s.members.length)) ∧
  (∀ (s : State) (id k : Nat) (e : Entry) (x y : EmbTable), s.runnable id 0x4C = some e → k = epTable e.packet →
    s.embAnchor k = s.sys.member → e.part = false → s.anchorBusy id k e = false → s.embTable k = some x → s.embTable (epSource e.packet) = some y →
    epSource e.packet ≠ k → (x.desc.drop 2).take 30 = (y.desc.drop 2).take 30 → sub x.desc 40 8 = sub y.desc 40 8 →
    sub x.desc 68 60 = sub y.desc 68 60 → x.version ≠ epExpect e.packet →
    ∃ t, exec (.embPublish id) s = .next t ∧ OnlyEntry id s t ∧
      (t.entry? id).map (fun z => (z.phase, z.out.status, z.out.subcode, z.out.result0)) =
        some (.ended, St.staleVersion, 0x40, x.version)) ∧
  (∀ (s : State) (k : Nat) (x : EmbTable), s.embTable k = some x → x.old ≠ none →
    s.embInFlight k ((x.version + 2 ^ 32 - 1) % 2 ^ 32) = 0 →
    ∃ t, exec (.embRetire k) s = .next t ∧ t.embTable k = some { x with old := none } ∧
      (∀ j, j ≠ k → t.embTable j = s.embTable j) ∧ t.fld F.EMB_EVENT_RETIRED = 1 ∧ Frame [.regs, .out, .msix, .emb] s t) ∧
  (∀ (s : State) (k : Nat) (x : EmbTable), s.embTable k = some x →
    s.embInFlight k ((x.version + 2 ^ 32 - 1) % 2 ^ 32) ≠ 0 → exec (.embRetire k) s = .next s)

/-- R272 to R276, R279 to R286: a gather pools the rows it reads and answers header and rows, the same on either path; an update
waits its turn for working space, is refused when it can never have it, and writes no byte outside its rows, in deterministic mode
none; a write writes no other byte; a step closes at once, waits for its updates, and is applied whatever the order of arrival. -/
def Obligations.EmbeddingRows : Prop :=
  (∀ (s s0 s1 s2 s3 : State) (id o n w : Nat) (e e3 : Entry) (x : EmbTable) (rows : List (Nat × Nat)) (direct : Bool),
    s.runnableStore id 0x44 = some e → s.embTable (epTable e.packet) = some x → e.slot = some (o, n) →
    epHostOut e.packet = 0 → epHook e.packet = false →
    (s.fetchAs id .none []).prepareRanges id (embLists (edDim x.desc) e.packet) [] = (s0, false) →
    s0.readRanges (embLists (edDim x.desc) e.packet) = (s1, none) →
    (epPool e.packet = 3 ∨ offsetsOk (s1.offsetList e.packet) (epCount e.packet) = true) →
    rows = s1.gatherRanges e x → (s1.fetchAs id x.second rows).prepareRanges id rows [] = (s2, false) →
    w = gatherWork (epCount e.packet) ((edWfmt x.desc).rowBytes (edDim x.desc)) →
    (s2.gatherSpace (s2.reserveWork id w)).2 = direct →
    ((s2.gatherSpace (s2.reserveWork id w)).1.dropFetched id).readRanges rows = (s3, none) → s3.entry? id = some e3 →
    ∃ t g f, exec (.embGather id) s = .next t ∧ g = s3.gather e x direct ∧ t.store.mem = s3.store.mem ∧
      (t.entry? id).map (·.pend) = some (gatherOutput e.version (embStrideOut (edDim x.desc) e.packet) g f) ∧
      (t.entry? id).map (fun y => (y.started, y.out.result0, y.out.countDone, y.out.fellBack)) =
        some (true, e.version + 2 ^ 32 * g.distinct, g.rows.length, e3.out.fellBack || direct)) ∧
  (∀ (s : State) (e : Entry) (x : EmbTable), (s.gather e x true).rows = (s.gather e x false).rows ∧
    (s.gather e x true).missing = (s.gather e x false).missing ∧ (s.gather e x true).segments = 0 ∧
    1 ≤ (s.gather e x false).segments) ∧
  (∀ (bags : List (List (Nat × Nat))), ((bags.flatten.foldl addNew []).length ≤ 65536 →
      segmentRows 65536 bags [] = [bags.flatten.foldl addNew []]) ∧
    ∀ r, (∃ b ∈ bags, r ∈ b) ↔ r ∈ (segmentRows 65536 bags []).flatten) ∧
  (∀ (s : State) (id : Nat) (e : Entry) (x : EmbTable), s.runnableStore id 0x45 = some e →
    s.embTable (epTable e.packet) = some x → e.part = false → s.workSize < updateWork (epCount e.packet) →
    ∃ t, exec (.embUpdate id) s = .next t ∧ OnlyEntry id s t ∧
      (t.entry? id).map (fun y => (y.phase, y.out.status, y.out.subcode)) = some (.ended, St.noSpace, 0x42)) ∧
  (∀ (s : State) (id w : Nat) (e : Entry) (x : EmbTable) (l : List Nat), s.runnableStore id 0x45 = some e →
    updateWork (epCount e.packet) ≤ s.workSize → s.embTable (epTable e.packet) = some x → e.part = false →
    s.emb.work.has id = false → l = (s.emb.waiting.filter fun i => (s.entry? i).any fun x => x.phase = .accepted && x.stop.isNone) →
    l.head? = some w → w ≠ id →
    exec (.embUpdate id) s = .next { s with emb := { s.emb with waiting := addNew l id } }) ∧
  (∀ (s : State) (id : Nat) (e : Entry) (x : EmbTable), s.runnableStore id 0x45 = some e →
    s.embTable (epTable e.packet) = some x → s.NoneHeld → s.KeysStand → (∀ g, (s.gran g).damaged = false) →
    ∃ t, exec (.embUpdate id) s = .next t ∧
      (∀ a, (∀ r ∈ s.touchedRows e x, a < r.1 ∨ r.1 + r.2 ≤ a) → t.byte a = s.byte a) ∧
      (edKind x.desc ≠ 2 → edDet x.desc = true → t.store.mem = s.store.mem)) ∧
  (∀ (s v s1 w u : State) (id : Nat) (e y : Entry) (x : EmbTable) (r : RowsDone) (l : List Nat), s.runnableStore id 0x45 = some e →
    s.embTable (epTable e.packet) = some x → e.part = false → updateWork (epCount e.packet) ≤ s.workSize → s.emb.work.has id = true →
    l = (s.emb.waiting.filter fun i => (s.entry? i).any fun x => x.phase = .accepted && x.stop.isNone).filter (· != id) →
    ({ s with emb := { s.emb with waiting := l } } : State).prepareRanges id (embLists (edDim x.desc) e.packet)
      (({ s with emb := { s.emb with waiting := l } } : State).touchedRows e x) = (v, false) →
    v.readRanges (embLists (edDim x.desc) e.packet) = (s1, none) → epPerBag e.packet = false →
    w = s1.sendParts id (s1.rangeHomes (s1.touchedRows e x)) (s1.updateClasses (epTable e.packet) x) →
    w.runUpdate e.packet (s1.srcNode e.src) e.version true = (u, r) → r.fail = none → u.entry? id = some y →
    ∃ t, exec (.embUpdate id) s = .next t ∧ t.store.mem = u.store.mem ∧ t.emb.steps = u.emb.steps ∧
      (t.entry? id).map (fun z => (z.started, z.out.result0, z.out.result1, z.out.countDone)) =
        some (true, y.out.result0 + e.version + 2 ^ 32 * r.distinct, y.out.result1 + r.skipped, y.out.countDone + r.done)) ∧
  (∀ (s : State) (id : Nat) (e : Entry) (x : EmbTable), s.runnableStore id 0x46 = some e →
    s.embTable (epTable e.packet) = some x → s.NoneHeld → s.KeysStand → (∀ g, (s.gran g).damaged = false) →
    ∃ t, exec (.embWrite id) s = .next t ∧
      ∀ a, (∀ r ∈ s.touchedRows e x, a < r.1 ∨ r.1 + r.2 ≤ a) → t.byte a = s.byte a) ∧
  (∀ (s v s1 w u : State) (id : Nat) (e y : Entry) (x : EmbTable) (r : RowsDone), s.runnableStore id 0x46 = some e →
    s.embTable (epTable e.packet) = some x → e.part = false →
    s.prepareRanges id (embLists (edDim x.desc) e.packet) (s.touchedRows e x) = (v, false) →
    v.readRanges (embLists (edDim x.desc) e.packet) = (s1, none) →
    w = s1.sendParts id (s1.rangeHomes (s1.touchedRows e x)) 1 →
    w.runWrite e.packet e.version true = (u, r) → r.fail = none → u.entry? id = some y →
    ∃ t, exec (.embWrite id) s = .next t ∧ t.store.mem = u.store.mem ∧
      (t.entry? id).map (fun z => (z.started, z.out.result0, z.out.countDone)) =
        some (true, y.out.result0 + e.version, y.out.countDone + r.done)) ∧
  (∀ (s : State) (id k : Nat) (e : Entry) (x : EmbTable), s.runnableStore id 0x48 = some e → k = epTable e.packet →
    s.embAnchor k = s.sys.member → e.part = false → s.anchorBusy id k e = false → s.embTable k = some x → e.stage = 0 →
    x.step = epStepClosed e.packet → s.updatesOpen k x.step = true →
    ∃ t, exec (.embStepClose id) s = .next t ∧ t.embTable k = some { x with step := (x.step + 1) % 2 ^ 32 } ∧
      t.emb.steps = s.emb.steps ∧ t.store = s.store ∧ (t.entry? id).map (fun y => (y.phase, y.stage)) = some (.accepted, 1)) ∧
  (∀ (s : State) (id k : Nat) (e : Entry) (x : EmbTable), s.runnableStore id 0x48 = some e → k = epTable e.packet →
    s.embAnchor k = s.sys.member → e.part = false → s.anchorBusy id k e = false → s.embTable k = some x → e.stage = 0 →
    x.step ≠ epStepClosed e.packet →
    ∃ t, exec (.embStepClose id) s = .next t ∧ OnlyEntry id s t ∧
      (t.entry? id).map (fun y => (y.phase, y.out.status, y.out.subcode)) = some (.ended, St.staleVersion, 0x42)) ∧
  (∀ (s v u : State) (id k step done skipped n : Nat) (e y : Entry) (x : EmbTable), s.runnableStore id 0x48 = some e →
    k = epTable e.packet → step = epStepClosed e.packet → s.embAnchor k = s.sys.member → e.part = false →
    s.anchorBusy id k e = false → s.embTable k = some x → e.stage = 1 → e.items = [] → s.updatesOpen k step = false →
    s.members.length ≤ 1 → s.prepareRanges id [] (s.stepRanges k step) = (v, false) →
    v.applyStep k step (fp32Of (epLrClose e.packet)) (epRnd e.packet) (epSat e.packet) (epSeed e.packet) =
      (u, done, skipped, n, none) → u.entry? id = some y →
    ∃ t, exec (.embStepClose id) s = .next t ∧ t.fld F.EMB_EVENT_STEP_APPLIED = 1 ∧ t.store.mem = u.store.mem ∧
      t.emb.steps = s.emb.steps.filter (fun c => !(c.table = k && c.step = step)) ∧
      (t.entry? id).map (fun z => (z.started, z.out.result0, z.out.countDone, z.out.countAux)) =
        some (true, step, y.out.countDone + done, (s.emb.steps.filter fun c => c.table = k && c.step = step).length)) ∧
  (∀ (l m : List Contribution), l.Perm m → l.Pairwise (fun a b => (a.srcNode, a.seq) ≠ (b.srcNode, b.seq)) →
    l.foldl (fun r c => insertContribution c r) [] = m.foldl (fun r c => insertContribution c r) [])

/-- R291, R295, R316, R317, R319 to R324: an index is defined, dropped and queried; a node is claimed, deleted, repaired and freed. -/
def Obligations.VectorIndexes : Prop :=
  (∀ (s u v : State) (id i : Nat) (e : Entry) (l : List (Nat × Nat)), s.runnable id 0x60 = some e → i = vpIndex e.packet →
    e.part = false → l = (if e.proxy.isSome then [] else s.entryLists (e.block.take 128)) → s.prepareRanges id l [] = (u, false) →
    u.readRanges (if e.proxy.isSome then [] else u.entryLists (e.block.take 128)) = (v, none) →
    (e.proxy = none → v.entriesOk (e.block.take 128) = true) → v.vecAnchor i = v.sys.member → v.vecBusy id i e = false →
    v.vecIndex i = none → (v.entry? id).isSome = true →
    ∃ t, exec (.vecDefine id) s = .next t ∧ t.vecIndex i = some { desc := e.block.take 128, comp := pkComp e.packet } ∧
      (∀ j, j ≠ i → t.vecIndex j = v.vecIndex j) ∧ t.store = v.store ∧
      (t.entry? id).map (fun x => (x.started, x.out.countDone)) = some (true, v.members.length)) ∧
  (∀ (s u v : State) (id i : Nat) (e : Entry) (x : VecIndex), s.runnable id 0x60 = some e → i = vpIndex e.packet →
    e.part = false → e.proxy = none → s.prepareRanges id (s.entryLists (e.block.take 128)) [] = (u, false) →
    u.readRanges (u.entryLists (e.block.take 128)) = (v, none) → v.entriesOk (e.block.take 128) = true →
    v.vecAnchor i = v.sys.member → v.vecBusy id i e = false → v.vecIndex i = some x → (v.entry? id).isSome = true →
    ∃ t, exec (.vecDefine id) s = .next t ∧ OnlyEntry id v t ∧
      (t.entry? id).map (fun y => (y.phase, y.out.status, y.out.subcode)) = some (.ended, St.badParam, 0x4A)) ∧
  (∀ (s : State) (id i : Nat) (e : Entry) (x : VecIndex), s.runnable id 0x61 = some e → i = vpIndex e.packet → e.part = false →
    s.vecAnchor i = s.sys.member → s.vecBusy id i e = false → s.vecIndex i = some x → x.running = false →
    (∀ k f, s.entry? k = some f → k ≠ id → f.accepted = true → pkOpcode f.packet < 0x60 ∨ 0x6C < pkOpcode f.packet ∨
      vpIndex f.packet ≠ i) →
    ∃ t, exec (.vecDrop id) s = .next t ∧ t.vecIndex i = none ∧ (∀ j, j ≠ i → t.vecIndex j = s.vecIndex j) ∧
      (∀ p ∈ t.vec.pend, p.index ≠ i) ∧ t.store = s.store ∧
      (t.entry? id).map (fun y => (y.started, y.out.countDone)) = some (true, s.members.length)) ∧
  (∀ (s : State) (id i : Nat) (e : Entry) (x : VecIndex), s.runnable id 0x61 = some e → i = vpIndex e.packet → e.part = false →
    s.vecAnchor i = s.sys.member → s.vecBusy id i e = false → s.vecIndex i = some x → x.running = true →
    ∃ t, exec (.vecDrop id) s = .next t ∧ OnlyEntry id s t ∧
      (t.entry? id).map (fun y => (y.phase, y.out.status, y.out.subcode)) = some (.ended, St.badParam, 0x4A)) ∧
  (∀ (s : State) (id live tomb free : Nat) (e : Entry) (x : VecIndex), s.runnable id 0x62 = some e →
    s.vecIndex (vpIndex e.packet) = some x → e.part = false → e.items = [] → (∀ m ∈ s.members, m = s.sys.member) →
    live = s.nodesHere x.desc isLive → tomb = s.nodesHere x.desc isTomb → free = s.nodesHere x.desc (fun w => wordState w = 0) →
    ∃ t, exec (.vecQuery id) s = .next t ∧ OnlyEntry id s t ∧ live + tomb + free = s.nodesHere x.desc (fun _ => true) ∧
      (t.entry? id).map (fun y => (y.phase, y.out.result0, y.out.result1, y.out.countDone)) =
        some (.ended, e.out.result0 + live + 2 ^ 32 * tomb, 1 + (if x.running then 2 else 0) + 65536 * x.pass, free)) ∧
  (∀ (s : State) (id : Nat) (e : Entry), s.runnable id 0x62 = some e → s.vecIndex (vpIndex e.packet) = none →
    ∃ t, exec (.vecQuery id) s = .next t ∧ t.Ended id e.out ∧ OnlyEntry id s t) ∧
  (∀ (s : State) (id q n w : Nat) (e : Entry) (x : VecIndex), s.runnableStore id 0x68 = some e → e.part = false →
    s.vecIndex (vpIndex e.packet) = some x → q = vpPart e.packet → n = vpNode e.packet → w = s.nodeWindow x.desc q n →
    s.walkSite x.desc q = s.sys.member → s.nodeHere x.desc q n = true → s.Sound → s.KeysStand →
    s.MayWrite id [(wordAddr x.desc w n, 4)] → wordState (s.wordAt x.desc w n) = 0 →
    ∃ t, exec (.vecInsert id) s = .next t ∧ t.wordAt x.desc w n = 2 ^ 30 + vpAttr e.packet ∧
      (∀ a, a < wordAddr x.desc w n ∨ wordAddr x.desc w n + 4 ≤ a → t.byte a = s.byte a) ∧
      t.vec.claims = s.vec.claims ++ [⟨id, vpIndex e.packet, q, n, s.sys.member, wordAddr x.desc w n, s.wordAt x.desc w n⟩] ∧
      (t.vec.walks.find? s.vec.nextWalk).map (fun y => (y.entry, y.part, y.insert, y.k, y.l, y.w, y.budget, y.widen)) =
        some (id, q, true, vdDegree x.desc, vpL e.packet, vpW e.packet, vpMaxExpand e.packet, false)) ∧
  (∀ (s : State) (id q n w : Nat) (e : Entry) (x : VecIndex), s.runnableStore id 0x68 = some e → e.part = false →
    s.vecIndex (vpIndex e.packet) = some x → q = vpPart e.packet → n = vpNode e.packet → w = s.nodeWindow x.desc q n →
    s.walkSite x.desc q = s.sys.member → s.nodeHere x.desc q n = true → s.Sound → s.KeysStand →
    s.MayWrite id [(wordAddr x.desc w n, 4)] → wordState (s.wordAt x.desc w n) ≠ 0 →
    ∃ t, exec (.vecInsert id) s = .next t ∧ t.store.mem = s.store.mem ∧ t.vec = s.vec ∧
      (t.entry? id).map (fun y => (y.phase, y.out.status, y.out.subcode)) = some (.ended, St.badParam, 0x47)) ∧
  (∀ (s : State) (id q k n : Nat) (e : Entry) (x : VecIndex), s.runnableStore id 0x69 = some e →
    s.vecIndex (vpIndex e.packet) = some x → vpList e.packet = false → q = vpPart e.packet → k = vpNode e.packet →
    n = vpCount e.packet → k + n ≤ vdNodes x.desc → q ∈ vdPartList x.desc → s.VecPlaced x.desc →
    (∀ j < n, s.nodeHere x.desc q (k + j) = true) → s.Sound → s.KeysStand →
    (∀ c ∈ s.vec.claims, c.index ≠ vpIndex e.packet ∨ c.part ≠ q ∨ c.node < k ∨ k + n ≤ c.node) →
    s.MayWrite id (((List.range n).map fun j => (s.vecWindows x.desc q).map fun w => (wordAddr x.desc w (k + j), 4)).flatten) →
    ∃ t done, exec (.vecDelete id) s = .next t ∧ (∀ j < n, isLive (t.homeWord x.desc q (k + j)) = false) ∧
      (∀ a, (∀ j < n, ∀ w ∈ s.vecWindows x.desc q, a < wordAddr x.desc w (k + j) ∨ wordAddr x.desc w (k + j) + 4 ≤ a) →
        t.byte a = s.byte a) ∧
      done ≤ n ∧ (t.entry? id).map (fun y => (y.started, y.out.countDone, y.out.countAux)) = some (true, done, n - done)) ∧
  (∀ (s : State) (id q : Nat) (e : Entry) (x : VecIndex) (c : VecClaim), s.runnableStore id 0x69 = some e →
    s.vecIndex (vpIndex e.packet) = some x → vpList e.packet = false → q = vpPart e.packet →
    vpNode e.packet + vpCount e.packet ≤ vdNodes x.desc → c ∈ s.vec.claims → c.index = vpIndex e.packet →
    c.part = q → c.home = s.sys.member → s.nodeHere x.desc q c.node = true → vpNode e.packet ≤ c.node →
    c.node < vpNode e.packet + vpCount e.packet →
    ∃ t, exec (.vecDelete id) s = .next t ∧ t.store.mem = s.store.mem ∧ t.entry? id = s.entry? id ∧ t.vec = s.vec) ∧
  (∀ (s : State) (id i : Nat) (e : Entry) (x : VecIndex), s.runnableStore id 0x6C = some e → i = vpIndex e.packet → e.part = false →
    s.vecAnchor i = s.sys.member → s.vecBusy id i e = false → s.vecIndex i = some x → x.running = false →
    s.Sound → s.KeysStand →
    ∃ t, exec (.vecRepair id) s = .next t ∧
      t.vecIndex i = some { x with pass := (x.pass + 1) % 65536, running := true, next := 0, repaired := 0 } ∧
      (∀ q ∈ vdPartList x.desc, ∀ n < vdNodes x.desc, s.nodeHere x.desc q n = true → wordState (t.homeWord x.desc q n) ≠ 2) ∧
      (t.entry? id).map (fun y => (y.started, y.out.result0, y.out.countDone)) =
        some (true, (x.pass + 1) % 65536, s.members.length)) ∧
  (∀ (s : State) (id i : Nat) (e : Entry) (x : VecIndex), s.runnableStore id 0x6C = some e → i = vpIndex e.packet → e.part = false →
    s.vecAnchor i = s.sys.member → s.vecBusy id i e = false → s.vecIndex i = some x → x.running = true →
    ∃ t, exec (.vecRepair id) s = .next t ∧ OnlyEntry id s t ∧
      (t.entry? id).map (fun y => (y.phase, y.out.status, y.out.subcode)) = some (.ended, St.badParam, 0x4A)) ∧
  (∀ (s v : State) (i k q n w : Nat) (x : VecIndex) (mine : List PendEntry), s.vecIndex i = some x → x.running = true →
    s.storeUp = true → x.rateWindow ≠ s.frame / 1024 → s.nextRepair x.desc x.next = some k → q = k / vdNodes x.desc →
    n = k % vdNodes x.desc → w = s.nodeWindow x.desc q n →
    mine = s.vec.pend.filter (fun p => p.index = i && p.window = w && p.target = n) →
    s.prepareRanges (passWaiter i) (s.repairRanges x.desc q n (mine.map (·.source))) [edgeRange x.desc q n] = (v, false) →
    ∃ t, exec (.vecRepairNodeStart i) s = .next t ∧
      t.vecIndex i = some { x with next := k + 1, repaired := satInc 32 x.repaired, rateWindow := s.frame / 1024, rateUsed := 1 } ∧
      t.vec.pend = s.vec.pend.filter (fun p => !(p.index = i && p.window = w && p.target = n))) ∧
  (∀ (s : State) (i : Nat) (x : VecIndex), s.vecIndex i = some x →
    (x.running = false ∨ x.rateWindow = s.frame / 1024 ∧ max 1 (s.fld F.VEC_REPAIR_CFG_RATE) ≤ x.rateUsed) →
    exec (.vecRepairNodeStart i) s = .next s) ∧
  (∀ (s : State) (i : Nat) (x : VecIndex), s.vecIndex i = some x → x.running = true → s.nextRepair x.desc x.next = none →
    s.vecAnchor i ≠ s.sys.member → s.Sound → s.KeysStand →
    ∃ t, exec (.vecPassEnd i) s = .next t ∧ t.vecIndex i = some { x with running := false } ∧ t.fld F.VEC_EVENT_PASS_DONE = 1 ∧
      ∀ q ∈ vdPartList x.desc, ∀ n < vdNodes x.desc, s.nodeHere x.desc q n = true → wordState (t.homeWord x.desc q n) ≠ 3) ∧
  (∀ (s u v w : State) (i : Nat) (x : VecIndex), s.vecIndex i = some x → x.running = true → s.nextRepair x.desc x.next = none →
    s.vecAnchor i = s.sys.member → s.prepareRanges (passWaiter i) (s.passRanges x.desc) (s.entryLists x.desc) = (u, false) →
    u.readRanges (u.passRanges x.desc) = (v, none) → w = v.replaceEntries x.desc → w.Sound → w.KeysStand →
    ∃ t, exec (.vecPassEnd i) s = .next t ∧ t.vecIndex i = some { x with running := false } ∧ t.fld F.VEC_EVENT_PASS_DONE = 1 ∧
      ∀ q ∈ vdPartList x.desc, ∀ n < vdNodes x.desc, w.nodeHere x.desc q n = true → wordState (t.homeWord x.desc q n) ≠ 3) ∧
  (∀ (s : State) (i k : Nat) (x : VecIndex), s.vecIndex i = some x → s.nextRepair x.desc x.next = some k →
    exec (.vecPassEnd i) s = .next s)

/-- R304 to R309, R318, R319: a search starts a walk of each part named; rounds keep the bounds of the walk's memory and return LIVE
nodes that pass the filter, no other; the last walk's end merges the results; an insert's walk commits it or undoes its claim. -/
def Obligations.VectorWalks : Prop :=
  (∀ (s : State) (id : Nat) (e : Entry) (x : VecIndex), s.runnableStore id 0x64 = some e →
    s.vecIndex (vpIndex e.packet) = some x → pkTwin e.packet = false → e.part = false → e.stage = 0 →
    (∀ q ∈ searchParts x.desc e.packet, s.walkSite x.desc q = s.sys.member) →
    ∃ t, exec (.vecSearch id) s = .next t ∧ t.store = s.store ∧ (t.entry? id).map (·.stage) = some 1 ∧
      t.vec.nextWalk = s.vec.nextWalk + (searchParts x.desc e.packet).length ∧
      (∀ j (h : j < (searchParts x.desc e.packet).length), (t.vec.walks.find? (s.vec.nextWalk + j)).map
        (fun y => (y.entry, y.part, y.insert, y.begun, y.k, y.l, y.w, y.budget, y.routeTomb, y.clauses)) =
          some (id, (searchParts x.desc e.packet)[j], false, false, vpK e.packet, vpL e.packet, vpW e.packet,
            vpMaxExpand e.packet, vpRouteTomb e.packet, searchClauses e.packet e.block)) ∧
      ∀ q, q ∈ searchParts x.desc e.packet ↔
        q ∈ vdPartList x.desc ∧ (vpPartMask e.packet = 0 ∨ (vpPartMask e.packet).testBit q = true)) ∧
  (∀ (s : State) (n : Nat) (x : Walk), s.vec.walks.find? n = some x → x.unit = none → x.ended = false →
    exec (.walkRound n) s = .next s) ∧
  (∀ (s s1 s2 : State) (n : Nat) (x y : Walk) (e : Entry) (ix : VecIndex), s.vec.walks.find? n = some x →
    s.entry? x.entry = some e → s.vecIndex x.index = some ix → x.unit ≠ none → x.ended = false →
    s.walkReady ix.desc x = (s1, false) → s1.walkOn ix.desc x = (s2, y) → y.ended = false →
    exec (.walkRound n) s = .next ((s2.setWalk n y).dropFetched y.entry)) ∧
  (∀ (s t : State) (d : List Byte) (x y : Walk), s.walkStep d x = (t, y) → x.picks.length ≤ x.w →
    (s.Sound → s.KeysStand → t.store.mem = s.store.mem) ∧ y.expansions ≤ x.expansions + x.w ∧ y.picks.length ≤ x.w ∧
    (x.queue.length ≤ 1024 → y.queue.length ≤ 1024) ∧ (x.results.length ≤ 1024 → y.results.length ≤ 1024) ∧
    (x.visited.length ≤ 8192 → y.visited.length ≤ 8192) ∧
    (∀ r ∈ y.results, r ∈ x.results ∨ isLive r.word = true ∧ (∀ c ∈ x.clauses, clausePasses c r.word = true) ∧ r.node ∈ x.picks) ∧
    ((x.results.map (·.node)).Nodup → (y.results.map (·.node)).Nodup) ∧
    ((x.queue.map (·.node)).Nodup → (y.queue.map (·.node)).Nodup) ∧
    (x.begun = true → x.routeTomb = false → ∀ q ∈ y.queue, (∃ p ∈ x.queue, p.node = q.node) ∨ isLive q.word = true)) ∧
  (∀ (s : State) (n o len : Nat) (x : Walk) (e : Entry) (ix : VecIndex) (i : Item), s.vec.walks.cells = [(n, x)] →
    s.vec.waiting = [] → s.runnable x.entry 0x64 = some e → x.index = vpIndex e.packet → s.vecIndex x.index = some ix →
    x.ended = true → x.insert = false → x.fail = none → e.stage = 1 → e.part = false → e.reply = [] →
    e.slot = some (o, len) → vpHostOut e.packet = 0 → e.items = [i] → i.id = x.item → i.cancelled = false → i.other = none →
    i.failure = none → i.transfer = false →
    ∃ t found, exec (.walkRound n) s = .next t ∧ found = (searchOutput (vdMetric ix.desc) (vpK e.packet) [x.report]).1 ∧
      found.length = min (vpK e.packet) (min x.k x.results.length) ∧ t.vec.walks.cells = [] ∧
      (t.entry? x.entry).map (·.pend) = some (searchOutput (vdMetric ix.desc) (vpK e.packet) [x.report]).2 ∧
      (searchOutput (vdMetric ix.desc) (vpK e.packet) [x.report]).2.length = 64 + 16 * found.length ∧
      (t.entry? x.entry).map (fun y => (y.phase, y.out.result0, y.out.countDone)) =
        some (.ended, found.length + 2 ^ 32 * x.expansions, found.length)) ∧
  (∀ (s u v w y : State) (n : Nat) (x : Walk) (e e1 e2 : Entry) (ix : VecIndex) (i : Item) (c : VecClaim),
    s.vec.walks.cells = [(n, x)] → s.vec.waiting = [] → s.entry? x.entry = some e → s.vecIndex x.index = some ix →
    x.ended = true → x.insert = true → x.fail = none → x.results = [] → e.stage < 3 →
    s.prepareRanges x.entry [] ((s.insertWrites ix.desc e x).map fun a => (a.1, a.2.length)) = (u, false) →
    u.writeAll (u.insertWrites ix.desc e x) = (v, none) → v.entry? x.entry = some e1 → e1.items = [i] →
    i.home = v.sys.member → e1.out.status = 0 → e1.packet = e.packet →
    w = v.modEntry x.entry (fun e => { e with stage := 3, begun := e.begun ||| 1 }) →
    w.prepareRanges x.entry (w.commitRanges ix.desc e x).1 (w.commitRanges ix.desc e x).2 = (y, false) →
    y.Sound → y.KeysStand → y.nodeHere ix.desc (vpPart e.packet) (vpNode e.packet) = true → y.vec.walks.cells = [(n, x)] →
    y.vec.waiting = [] → y.vec.claims = [c] → c.entry = x.entry → c.node = vpNode e.packet → y.entry? x.entry = some e2 →
    e2.items = [i] → i.id = x.item → i.cancelled = false → i.other = none → i.failure = none → i.transfer = false →
    e2.started = true → e2.moving = false → e2.stop = none →
    ∃ t, exec (.walkRound n) s = .next t ∧ t.vec.walks.cells = [] ∧ t.vec.claims = [] ∧
      (∀ w ∈ y.vecWindows ix.desc (vpPart e.packet), t.wordAt ix.desc w (vpNode e.packet) = 2 ^ 30 + vpAttr e.packet) ∧
      (t.entry? x.entry).map (fun y => (y.phase, y.out.result0, y.out.countDone, y.out.countAux)) =
        some (.ended, 0, 0, x.expansions)) ∧
  (∀ (s : State) (n st sub : Nat) (x : Walk) (e : Entry) (ix : VecIndex) (i : Item) (c : VecClaim), s.vec.walks.cells = [(n, x)] →
    s.vec.waiting = [] → s.entry? x.entry = some e → s.vecIndex x.index = some ix → x.ended = true → x.insert = true →
    x.fail = some (st, sub) → s.vec.claims = [c] → c.entry = x.entry → c.home = s.sys.member →
    e.items = [i] → i.id = x.item → i.cancelled = false → e.started = true → e.stop = none →
    ∃ t, exec (.walkRound n) s = .next t ∧ t.vec.walks.cells = [] ∧ t.vec.claims = [] ∧
      t.bytes c.addr 4 = toLe 4 c.old ∧ (t.entry? x.entry).map (·.out.absent) = some 0xFF)

/-- R326 to R333, R336, R341, R365: a buffer is defined, dropped and queried; inserts take their numbers in order and queue the clearing of
their slots; only a pass changes a shard's tree, and it leaves every word above a changed leaf the sum of its children. -/
def Obligations.ReplayBuffers : Prop :=
  (∀ (s : State) (id b : Nat) (e : Entry), s.runnable id 0x80 = some e → b = rpBuffer e.packet → e.part = false →
    s.rplAnchor b = s.sys.member → s.rplBusy id b e = false → s.rplBuffer b = none →
    ∃ t, exec (.rplDefine id) s = .next t ∧ t.rplBuffer b = some { desc := e.block.take 64, comp := pkComp e.packet } ∧
      (∀ j, j ≠ b → t.rplBuffer j = s.rplBuffer j) ∧ t.store = s.store ∧
      (t.entry? id).map (fun x => (x.started, x.out.countDone)) = some (true, s.members.length)) ∧
  (∀ (s : State) (id b : Nat) (e : Entry) (x : RplBuffer), s.runnable id 0x80 = some e → b = rpBuffer e.packet →
    e.part = false → s.rplAnchor b = s.sys.member → s.rplBusy id b e = false → s.rplBuffer b = some x →
    ∃ t, exec (.rplDefine id) s = .next t ∧ OnlyEntry id s t ∧
      (t.entry? id).map (fun y => (y.phase, y.out.status, y.out.subcode)) = some (.ended, St.badParam, 0x4A)) ∧
  (∀ (s : State) (id b : Nat) (e : Entry) (x : RplBuffer), s.runnable id 0x81 = some e → b = rpBuffer e.packet →
    e.part = false → s.rplAnchor b = s.sys.member → s.rplBusy id b e = false → s.rplBuffer b = some x →
    (∀ k f, s.entry? k = some f → k ≠ id → f.accepted = true → pkOpcode f.packet < 0x80 ∨ 0x86 < pkOpcode f.packet ∨
      rpBuffer f.packet ≠ b) → (∀ j ∈ s.rpl.jobs, rpBuffer j.packet ≠ b) →
    ∃ t, exec (.rplDrop id) s = .next t ∧ t.rplBuffer b = none ∧ (∀ j, j ≠ b → t.rplBuffer j = s.rplBuffer j) ∧
      (∀ w < 64, t.shardQueue b w = []) ∧ t.store = s.store ∧
      (t.entry? id).map (fun y => (y.started, y.out.countDone)) = some (true, s.members.length)) ∧
  (∀ (s : State) (id : Nat) (e : Entry) (x : RplBuffer) (j : RplJob), s.runnable id 0x81 = some e →
    e.part = false →
    s.rplAnchor (rpBuffer e.packet) = s.sys.member → s.rplBusy id (rpBuffer e.packet) e = false → s.rplBuffer (rpBuffer e.packet) = some x →
    j ∈ s.rpl.jobs → rpBuffer j.packet = rpBuffer e.packet →
    ∃ t, exec (.rplDrop id) s = .next t ∧ OnlyEntry id s t ∧
      (t.entry? id).map (fun y => (y.phase, y.out.status, y.out.subcode)) = some (.ended, St.badParam, 0x4A)) ∧
  (∀ (s : State) (id : Nat) (e : Entry) (x : RplBuffer), s.runnable id 0x82 = some e → s.rplBuffer (rpBuffer e.packet) = some x →
    ∃ t, exec (.rplQuery id) s = .next t ∧ OnlyEntry id s t ∧
      (t.entry? id).map (fun y => (y.phase, y.out.result0, y.out.result1, y.out.countDone, y.out.countAux)) =
        some (.ended, x.head, 1, s.shardLive x.desc s.ownWindow, (s.shardQueue (rpBuffer e.packet) s.ownWindow).length)) ∧
  (∀ (s : State) (id : Nat) (e : Entry), s.runnable id 0x82 = some e → s.rplBuffer (rpBuffer e.packet) = none →
    ∃ t, exec (.rplQuery id) s = .next t ∧ t.Ended id e.out ∧ OnlyEntry id s t) ∧
  (∀ (s : State) (src : Nat), src < 128 → src % 64 = 0 →
    ∃ t, exec (.rplBufHeadLoRead src F.RPL_BUF_HEAD_LO_HEAD.off 4) s = .next t ∧
      t.out = s.out ++ [.readData (((s.rplBuffer (s.fld F.RPL_BUF_SEL_BUFFER)).elim 0 (·.head)) % 2 ^ 32)] ∧
      t.fld F.RPL_BUF_HEAD_HI_HEAD = ((s.rplBuffer (s.fld F.RPL_BUF_SEL_BUFFER)).elim 0 (·.head)) / 2 ^ 32 % 2 ^ 32 ∧
      Frame [.regs, .out] s t ∧ FieldsStand [F.RPL_BUF_HEAD_HI_HEAD] s t) ∧
  (∀ (s u v : State) (id b n k : Nat) (e : Entry) (x : RplBuffer) (a : Asker), s.resumable id 0x84 = some e → e.started = false →
    e.part = false → s.storeUp = true → b = rpBuffer e.packet → n = rpCount e.packet → s.rplBuffer b = some x →
    s.jobOfEntry id = none → s.prepareRanges id (rplLists x.desc e.packet) [] = (u, false) →
    u.readRanges (rplLists x.desc e.packet) = (v, none) → v.rplBuffer b = some x → v.jobOfEntry id = none →
    v.rplAnchor b = v.sys.member → (∀ f ∈ v.rpl.waits, f.buffer ≠ b) → v.mayReserve b x n = true → v.width ≤ 64 →
    (v.entry? id).any Entry.part = false → (v.entry? id).isSome = true → k = v.rack.nextItem → a = .entry id k →
    ∃ t, exec (.rplInsert id) s = .next t ∧ t.rplBuffer b = some { x with head := (x.head + n) % 2 ^ 64 } ∧
      t.rpl.flights = v.rpl.flights ++ [⟨a, v.sys.member, k, b, x.head, n⟩] ∧ t.rpl.waits = v.rpl.waits ∧ t.store = v.store ∧
      (∀ w < v.width, v.shardHere w = true → t.shardQueue b w = v.shardQueue b w ++
        ((List.range n).filter fun i => (v.rplPlace x.desc (x.head + i)).1 = w).map fun i =>
          { leaf := (v.rplPlace x.desc (x.head + i)).2, clear := true, asker := a }) ∧
      (t.jobOfEntry id).map (fun j => (j.asker, j.packet, j.first, j.copied)) = some (a, e.packet, some x.head, []) ∧
      (t.entry? id).map (fun y => (y.started, y.out.result0)) = some (true, x.head)) ∧
  (∀ (s u v : State) (id b n k : Nat) (e : Entry) (x : RplBuffer), s.resumable id 0x84 = some e → e.started = false →
    e.part = false → s.storeUp = true → b = rpBuffer e.packet → n = rpCount e.packet → s.rplBuffer b = some x →
    s.jobOfEntry id = none → s.prepareRanges id (rplLists x.desc e.packet) [] = (u, false) →
    u.readRanges (rplLists x.desc e.packet) = (v, none) → v.rplBuffer b = some x → v.rplAnchor b = v.sys.member →
    v.mayReserve b x n = false → k = v.rack.nextItem →
    ∃ t, exec (.rplInsert id) s = .next t ∧ t.rplBuffer b = some x ∧ t.rpl.flights = v.rpl.flights ∧
      t.rpl.waits = v.rpl.waits ++ [⟨.entry id k, v.sys.member, k, b, 0, n⟩] ∧ t.rpl.queues = v.rpl.queues ∧ t.store = v.store ∧
      t.fld F.RPL_EVENT_INSERT_WAIT = 1) ∧
  (∀ (s : State) (b id k : Nat) (x : RplBuffer) (f : RplFlight) (e : Entry), s.rplBuffer b = some x →
    s.rpl.waits.find? (fun f => f.buffer = b) = some f → f.asker = .entry id k → s.entry? id = some e → e.part = false →
    s.mayReserve b x f.count = true →
    ∃ t, exec (.rplReservationGrant b) s = .next t ∧ t.rplBuffer b = some { x with head := (x.head + f.count) % 2 ^ 64 } ∧
      t.rpl.flights = s.rpl.flights ++ [{ f with first := x.head }] ∧
      t.rpl.waits = s.rpl.waits.filter (fun g => !(g.origin = f.origin && g.item = f.item)) ∧ t.store = s.store ∧
      (∀ w < s.width, s.width ≤ 64 → s.shardHere w = true → t.shardQueue b w = s.shardQueue b w ++
        ((List.range f.count).filter fun i => (s.rplPlace x.desc (x.head + i)).1 = w).map fun i =>
          { leaf := (s.rplPlace x.desc (x.head + i)).2, clear := true, asker := f.asker }) ∧
      (t.entry? id).map (·.out.result0) = some x.head) ∧
  (∀ (s : State) (b : Nat) (x : RplBuffer) (f : RplFlight), s.rplBuffer b = some x →
    s.rpl.waits.find? (fun f => f.buffer = b) = some f → s.mayReserve b x f.count = false →
    exec (.rplReservationGrant b) s = .next s) ∧
  (∀ (s u v : State) (b w : Nat) (x : RplBuffer) (rs : List (Nat × Nat)) (batch : List RplChange), s.rplBuffer b = some x →
    batch = (s.shardQueue b w).take 65536 → batch ≠ [] → rs = passRanges x.desc w batch → w < 64 → b < 256 →
    s.prepareRanges (2 ^ 42 + 2 ^ 16 + shardKey b w) rs rs = (u, false) → u.readRanges rs = (v, none) → v.Sound → v.KeysStand →
    v.rpl.jobs = [] → (∀ c ∈ batch, c.leaf < 2 ^ rdS x.desc ∧ c.value < 2 ^ 32 ∧ c.old = none) →
    ∃ t, exec (.rplTreePass b w) s = .next t ∧ t.shardQueue b w = (s.shardQueue b w).drop 65536 ∧
      (∀ k, k ≠ shardKey b w → t.rpl.queues.find? k = v.rpl.queues.find? k) ∧
      (∀ l < 2 ^ rdS x.desc, t.rplWord x.desc w (2 ^ rdS x.desc + l) =
        ((batch.filter fun c => c.leaf = l).getLast?.map (·.value)).getD (v.rplWord x.desc w (2 ^ rdS x.desc + l))) ∧
      (∀ i, 0 < i → i < 2 ^ rdS x.desc → t.rplWord x.desc w i =
        if batch.any fun c => (List.range (rdS x.desc)).any fun k => (2 ^ rdS x.desc + c.leaf) / 2 ^ (k + 1) = i then
          faddCode (t.rplWord x.desc w (2 * i)) (t.rplWord x.desc w (2 * i + 1)) % 2 ^ 32
        else v.rplWord x.desc w i) ∧
      t.shardMaxp x.desc w = batch.foldl (fun m c => max m c.value) (v.shardMaxp x.desc w) ∧
      ∀ a, a < rplWordAt x.desc w 0 ∨ rplWordAt x.desc w (2 ^ (rdS x.desc + 1)) ≤ a → t.byte a = v.byte a) ∧
  (∀ (s : State) (d : List Byte) (w : Nat) (c : RplChange) (o : Nat), c.old = some o →
    s.rplWord d w (2 ^ rdS d + c.leaf) ≠ o →
    (s.applyChange' d w c).2 = none ∧ (s.applyChange' d w c).1.store = s.store) ∧
  (∀ (s : State) (j : RplJob) (d : List Byte) (q w id item k l n : Nat), j.asker = .entry id item → n = 2 ^ rdRec d → s.Sound → s.KeysStand →
    s.MayWrite id ((s.insertPart d q (rpCount j.packet) w).map fun y => rplRecordRange d w y.2) →
    rpCount j.packet ≤ s.rplCapacity d → (k, l) ∈ s.insertPart d q (rpCount j.packet) w →
    (rpRsa j.packet + rpCount j.packet * n ≤ (rplRecords d w).1 ∨ (rplRecords d w).1 + (rplRecords d w).2 ≤ rpRsa j.packet) →
    (s.copyShard j d q w).bytes (rplRecordRange d w l).1 n = s.bytes (rpRsa j.packet + k * n) n)

/-- R335, R336, R338, R341: a sample reads the roots once and draws by them; a descent ends at a live leaf; an update queues its changes
and changes no byte. -/
def Obligations.ReplaySampling : Prop :=
  (∀ (s : State) (id b : Nat) (e : Entry) (x : RplBuffer) (tot : List Nat), s.resumable id 0x85 = some e → e.started = false →
    e.part = false → pkTwin e.packet = false → e.stage = 0 → e.items = [] → s.storeUp = true → b = rpBuffer e.packet → rpCount e.packet = 0 →
    s.rplBuffer b = some x → s.jobOfEntry id = none → s.rpl.queues.cells = [] → (∀ w < s.width, s.shardHere w = true) →
    s.MayWrite id [] → s.Sound → s.KeysStand → tot = (List.range s.width).map (s.shardRoot x.desc) →
    (runningTotals tot).getLastD 0 ≠ 0 →
    ∃ t, exec (.rplSample id) s = .next t ∧ t.store.mem = s.store.mem ∧ t.rpl.queues = s.rpl.queues ∧
      (t.jobOfEntry id).map (fun j => (j.packet, j.total, j.draws)) = some (e.packet, some ((runningTotals tot).getLastD 0),
        (targetsOf tot (rpBatch e.packet) (rpSeed e.packet)).map fun y => { shard := y.1, target := y.2 }) ∧
      (t.jobOfEntry id).map (·.live) = some ((List.range s.width).map (s.shardLive x.desc)).sum ∧
      (t.entry? id).map (·.started) = some true) ∧
  (∀ (tot : List Nat) (n seed : Nat), (targetsOf tot n seed).length = n ∧
    ((∃ c ∈ tot, Val.lt true .zero (fp32Of c) = true) →
      ∀ y ∈ targetsOf tot n seed, y.1 < tot.length ∧ Val.lt true .zero (fp32Of (tot.getD y.1 0)) = true)) ∧
  (∀ (s : State) (d : List Byte) (w target l : Nat) (path : List Nat), s.descend d w target = (some l, path) →
    l < 2 ^ rdS d ∧ s.rplWord d w (2 ^ rdS d + l) ≠ 0 ∧ s.shardRoot d w ≠ 0) ∧
  (∀ (s : State) (d : List Byte) (w target : Nat), s.shardRoot d w = 0 → s.descend d w target = (none, [1])) ∧
  (∀ (s : State) (id n l m : Nat) (j : RplJob) (x : RplBuffer) (r y : RplDraw) (path : List Nat), s.jobOfEntry id = some j →
    pkOpcode j.packet = 0x85 → j.updateOnly = false → j.total ≠ none → s.rplBuffer (rpBuffer j.packet) = some x →
    j.draws[n]? = some r → r.done = false → s.shardHere r.shard = true → rpReturnData j.packet = false →
    m ≠ n → j.draws[m]? = some y → y.done = false → s.shardHere y.shard = true →
    s.descend x.desc r.shard r.target = (some l, path) → s.MayWrite id [] → s.Sound → s.KeysStand →
    ∃ t, exec (.rplDescent id n) s = .next t ∧ t.store.mem = s.store.mem ∧
      (t.entry? id).map (·.phase) = (s.entry? id).map (·.phase) ∧
      (t.jobOfEntry id).map (·.draws) = some (j.draws.set n
        { r with done := true, slot := l, prio := s.rplWord x.desc r.shard (2 ^ rdS x.desc + l), record := [] })) ∧
  (∀ (s : State) (id n m : Nat) (j : RplJob) (x : RplBuffer) (r y : RplDraw), s.jobOfEntry id = some j →
    pkOpcode j.packet = 0x85 → j.updateOnly = false → j.total ≠ none → s.rplBuffer (rpBuffer j.packet) = some x →
    j.draws[n]? = some r → r.done = false → s.shardHere r.shard = true → m ≠ n → j.draws[m]? = some y → y.done = false →
    s.shardHere y.shard = true → s.shardRoot x.desc r.shard = 0 → s.MayWrite id [] → s.Sound → s.KeysStand →
    ∃ t, exec (.rplDescent id n) s = .next t ∧ t.store.mem = s.store.mem ∧ t.fld F.RPL_EVENT_DRAW_LOST = 1 ∧
      (t.jobOfEntry id).map (·.draws) = some (j.draws.set n { r with done := true, lost := true })) ∧
  (∀ (s u v : State) (id b n : Nat) (e : Entry) (x : RplBuffer) (l : List Byte) (a : Asker), s.runnableStore id 0x86 = some e →
    e.part = false → b = rpBuffer e.packet → n = rpCount e.packet → s.rplBuffer b = some x →
    s.prepareRanges id (rplLists x.desc e.packet) [] = (u, false) → u.readRanges (rplLists x.desc e.packet) = (v, none) →
    v.width ≤ 64 → v.rplBuffer b = some x → l = v.bytes (rpRsa e.packet) (16 * n) →
    (∀ k < n, fieldAt l (16 * k) 8 < v.rplCapacity x.desc) → a = .entry id v.rack.nextItem →
    (∃ k < n, v.shardHere (v.rplPlace x.desc (fieldAt l (16 * k) 8)).1 = true) → (v.entry? id).isSome = true →
    ∃ t, exec (.rplUpdate id) s = .next t ∧ t.store = v.store ∧ t.rpl.buffers = v.rpl.buffers ∧
      (∀ w < v.width, v.shardHere w = true → t.shardQueue b w = v.shardQueue b w ++
        ((List.range n).filter fun k => (v.rplPlace x.desc (fieldAt l (16 * k) 8)).1 = w).map fun k =>
          { leaf := (v.rplPlace x.desc (fieldAt l (16 * k) 8)).2, value := (prioOf (fieldAt l (16 * k + 8) 4)).1,
            old := if rpCas e.packet then some (fieldAt l (16 * k + 12) 4) else none, asker := a }) ∧
      (t.entry? id).map (·.started) = some true) ∧
  (∀ code, (prioOf code).1 ≤ 0x67800000)

/-- R343 to R345, R347, R349 to R354, R363, R364: pools and sequences at their owner. -/
def Obligations.KvpSequences : Prop :=
  (∀ (s : State) (id p : Nat) (e : Entry), s.runnable id 0x90 = some e → p = kpPool e.packet → e.part = false →
    s.kvpAnchor p = s.sys.member → s.kvpBusy id p e = false → s.kvpPool p = none →
    ∃ t, exec (.kvpDefine id) s = .next t ∧ t.kvpPool p = some { desc := e.block.take 64, comp := pkComp e.packet } ∧
      (∀ j, j ≠ p → t.kvpPool j = s.kvpPool j) ∧ t.store = s.store ∧
      (t.entry? id).map (fun x => (x.started, x.out.countDone)) = some (true, s.members.length)) ∧
  (∀ (s : State) (id p : Nat) (e : Entry) (x : KvpPool), s.runnable id 0x91 = some e → p = kpPool e.packet → e.part = false →
    s.kvpAnchor p = s.sys.member → s.kvpBusy id p e = false → s.kvpPool p = some x → e.stage = 0 →
    ∃ t, exec (.kvpDrop id) s = .next t ∧ (∀ j, j ≠ p → t.kvpPool j = s.kvpPool j) ∧ t.store = s.store ∧
      (x.open' = true → OnlyEntry id s t ∧
        (t.entry? id).map (fun y => (y.phase, y.out.status, y.out.subcode)) = some (.ended, St.badParam, 0x4A)) ∧
      (x.open' = false → (∀ m ∈ s.members, m = s.sys.member) → t.kvpPool p = none ∧
        (t.entry? id).map (fun y => (y.started, y.out.countDone)) = some (true, s.members.length)) ∧
      (x.open' = false → (∃ m ∈ s.members, m ≠ s.sys.member) → t.kvp = s.kvp ∧
        (t.entry? id).map (fun y => (y.stage, y.started)) = some (1, false))) ∧
  (∀ (s : State) (id p : Nat) (e : Entry) (x : KvpPool), s.runnable id 0x91 = some e → p = kpPool e.packet → e.part = false →
    s.kvpAnchor p = s.sys.member → s.kvpBusy id p e = false → s.kvpPool p = some x → e.stage = 1 → e.items = [] →
    e.out.status = St.done →
    ∃ t, exec (.kvpDrop id) s = .next t ∧ t.kvpPool p = none ∧ (∀ j, j ≠ p → t.kvpPool j = s.kvpPool j) ∧ t.store = s.store ∧
      (t.entry? id).map (fun y => (y.started, y.out.countDone)) = some (true, s.members.length)) ∧
  (∀ (s : State) (id : Nat) (e : Entry) (x : KvpPool), s.runnable id 0x92 = some e → s.kvpPool (kpPool e.packet) = some x →
    ∃ t, exec (.kvpQuery id) s = .next t ∧ OnlyEntry id s t ∧
      (t.entry? id).map (fun y => (y.phase, y.out.result0, y.out.result1, y.out.countDone, y.out.countAux)) =
        some (.ended, x.freeFrames s.ownWindow + 2 ^ 32 * x.freeSpill s.ownWindow, 1, x.owned, x.lockedSeqs)) ∧
  (∀ (s : State) (id slot i : Nat) (e : Entry) (x : KvpPool), s.storeUp = true → s.resumable id 0x94 = some e →
    e.started = false → kpSeq e.packet = 0xFFFFFFFF → kpSelf e.packet = true → s.kvpPool (kpPool e.packet) = some x →
    s.kvp.refused.find? id = none → s.MayWrite id [] → x.freeRec = some slot → i = s.ownWindow * 2 ^ 26 + x.gens.getD slot 0 * 2 ^ 20 + slot →
    ∃ t, exec (.kvpOpen id) s = .next t ∧ t.kvpPool (kpPool e.packet) = some { x with recs := x.recs.set slot { id := i, state := .owned } } ∧
      t.store.mem = s.store.mem ∧
      (t.entry? id).map (fun y => (y.started, y.out.result0, y.out.result1, y.out.countDone)) = some (true, i, s.sys.member, 0)) ∧
  (∀ (s : State) (id : Nat) (e : Entry) (x : KvpPool), s.storeUp = true → s.resumable id 0x94 = some e → e.started = false →
    kpSeq e.packet = 0xFFFFFFFF → kpSelf e.packet = true → s.kvpPool (kpPool e.packet) = some x → x.freeRec = none →
    e.items = [] → s.kvp.refused.find? id = none → s.MayWrite id [] →
    ∃ t, exec (.kvpOpen id) s = .next t ∧ t.kvp.pools = s.kvp.pools ∧ t.store.mem = s.store.mem ∧
      (t.entry? id).map (fun y => (y.phase, y.out.status, y.out.subcode)) = some (.ended, St.noSpace, 0x52)) ∧
  (∀ (s : State) (id slot new i : Nat) (e : Entry) (x : KvpPool) (r : SeqRec) (l : List Nat), s.storeUp = true →
    s.resumable id 0x94 = some e → e.started = false → kpSeq e.packet ≠ 0xFFFFFFFF → kpSelf e.packet = true →
    s.HoldsSeq e.packet x slot r → kpTokens e.packet ≤ r.length → x.freeRec = some new →
    l = r.list.take (ceilDiv (kpTokens e.packet) (kdPageTokens x.desc)) → l.Nodup → (∀ h ∈ l, s.pageHere h = true) →
    s.kvp.refused.find? id = none → s.MayWrite id [] →
    (∀ h ∈ l, ∃ pg, x.pages.find? h = some pg ∧ pg.refs < 65535) →
    i = s.ownWindow * 2 ^ 26 + x.gens.getD new 0 * 2 ^ 20 + new →
    ∃ t, exec (.kvpOpen id) s = .next t ∧ t.store.mem = s.store.mem ∧
      ((t.kvpPool (kpPool e.packet)).bind fun y => y.recs.find? new) = some { id := i, state := .owned, length := kpTokens e.packet, list := l } ∧
      (∀ h, t.kvpPage (kpPool e.packet) h = if h ∈ l then (x.pages.find? h).map fun pg => { pg with refs := pg.refs + 1, stamp := s.kvpStamp }
        else x.pages.find? h) ∧
      (t.entry? id).map (fun y => (y.started, y.out.result0, y.out.countDone, y.out.countAux)) = some (true, i, l.length, 0)) ∧
  (∀ (s : State) (id slot : Nat) (e : Entry) (x : KvpPool) (r : SeqRec), s.storeUp = true →
    s.resumable id 0x94 = some e → e.started = false → kpSeq e.packet ≠ 0xFFFFFFFF → s.HoldsSeq e.packet x slot r →
    r.length < kpTokens e.packet →
    ∃ t, exec (.kvpOpen id) s = .next t ∧ t.kvp = s.kvp ∧ t.store.mem = s.store.mem ∧
      (t.entry? id).map (fun y => (y.phase, y.out.status, y.out.subcode)) = some (.ended, St.badParam, 0x43)) ∧
  (∀ (s : State) (id slot h n a pt tb : Nat) (e : Entry) (x : KvpPool) (r : SeqRec) (pg : KvpPage),
    s.runnableStore id 0x95 = some e → s.HoldsSeq e.packet x slot r → n = kpTokens e.packet → pt = kdPageTokens x.desc →
    tb = kdTokenBytes x.desc → 0 < n → r.length % pt + n ≤ pt → r.length / pt ≤ kdListMax x.desc →
    r.list[r.length / pt]? = some h → x.pages.find? h = some pg → pg.refs ≤ 1 → pg.spilled = false →
    a = kvpPageRsa x.desc h pg + r.length % pt * tb → s.MayWrite id [(a, n * tb)] → s.Sound → s.KeysStand →
    (∀ k ∈ r.list.drop (r.length / pt), s.pageHere k = true) → s.kvp.refused.find? id = none → s.kvp.brought.find? id = none →
    ∃ t, exec (.kvpAppend id) s = .next t ∧ t.bytes a (n * tb) = s.bytes (kpSrc e.packet) (n * tb) ∧
      (∀ b, b < a ∨ a + n * tb ≤ b → t.byte b = s.byte b) ∧
      ((t.kvpPool (kpPool e.packet)).bind fun y => y.recs.find? slot) = some { r with length := r.length + n } ∧
      (∀ k, k ≠ h → t.kvpPage (kpPool e.packet) k = x.pages.find? k) ∧
      (t.entry? id).map (fun y => (y.started, y.out.result0, y.out.result1, y.out.countDone, y.out.countAux)) =
        some (true, r.length + n, s.sys.member, 0, 0)) ∧
  (∀ (s : State) (id slot f n a pt tb k0 : Nat) (e : Entry) (x : KvpPool) (r : SeqRec), s.runnableStore id 0x95 = some e →
    s.HoldsSeq e.packet x slot r → n = kpTokens e.packet → pt = kdPageTokens x.desc → tb = kdTokenBytes x.desc → 0 < n →
    r.length % pt + n ≤ pt → r.length / pt ≤ kdListMax x.desc → r.list.length = r.length / pt →
    x.lowestFree s.ownWindow false = some f → k0 < kdFrames x.desc + kdSpill x.desc → kdFrames x.desc + kdSpill x.desc ≤ 2 ^ 26 →
    x.pages.has (s.ownWindow * 2 ^ 26 + k0) = false → a = kvpFrameRsa x.desc s.ownWindow f + r.length % pt * tb →
    s.MayWrite id [(a, n * tb)] → s.Sound → s.KeysStand → s.kvp.refused.find? id = none → s.kvp.brought.find? id = none →
    ∃ t h, exec (.kvpAppend id) s = .next t ∧ handleWindow h = s.ownWindow ∧ x.pages.find? h = none ∧
      t.kvpPage (kpPool e.packet) h = some { spilled := false, place := f, refs := 1, stamp := s.kvpStamp } ∧
      t.bytes a (n * tb) = s.bytes (kpSrc e.packet) (n * tb) ∧
      ((t.kvpPool (kpPool e.packet)).bind fun y => y.recs.find? slot) = some { r with length := r.length + n, list := r.list ++ [h] } ∧
      (t.entry? id).map (fun y => (y.started, y.out.result0, y.out.countDone)) = some (true, r.length + n, 1)) ∧
  (∀ (s : State) (id slot f n i h q pt tb k0 : Nat) (e : Entry) (x : KvpPool) (r : SeqRec) (pg : KvpPage),
    s.runnableStore id 0x95 = some e → s.HoldsSeq e.packet x slot r → n = kpTokens e.packet → pt = kdPageTokens x.desc →
    tb = kdTokenBytes x.desc → 0 < n → r.length % pt + n ≤ pt → i = r.length / pt → i ≤ kdListMax x.desc → r.list[i]? = some h →
    x.pages.find? h = some pg → 1 < pg.refs → x.lowestFree s.ownWindow false = some f →
    k0 < kdFrames x.desc + kdSpill x.desc → x.pages.has (s.ownWindow * 2 ^ 26 + k0) = false →
    kdFrames x.desc + kdSpill x.desc ≤ 2 ^ 26 → q = kvpFrameRsa x.desc s.ownWindow f →
    (kpSrc e.packet + n * tb ≤ q ∨ q + 65536 ≤ kpSrc e.packet) →
    s.MayWrite id [(q, 65536), (q + r.length % pt * tb, n * tb)] → s.Sound → s.KeysStand →
    (∀ k ∈ r.list.drop i, s.pageHere k = true) → s.kvp.refused.find? id = none → s.kvp.brought.find? id = none →
    ∃ t new, exec (.kvpAppend id) s = .next t ∧ x.pages.find? new = none ∧
      ((t.kvpPool (kpPool e.packet)).bind fun y => y.recs.find? slot) = some { r with length := r.length + n, list := r.list.set i new } ∧
      t.kvpPage (kpPool e.packet) new = some { spilled := false, place := f, refs := 1, stamp := s.kvpStamp } ∧
      t.kvpPage (kpPool e.packet) h = some { pg with refs := pg.refs - 1 } ∧
      t.bytes q (r.length % pt * tb) = s.bytes (kvpPageRsa x.desc h pg) (r.length % pt * tb) ∧
      t.bytes (q + r.length % pt * tb) (n * tb) = s.bytes (kpSrc e.packet) (n * tb) ∧
      (t.entry? id).map (fun y => (y.started, y.out.result0, y.out.countDone, y.out.countAux)) = some (true, r.length + n, 0, 1)) ∧
  (∀ (s : State) (id slot : Nat) (e : Entry) (x : KvpPool) (r : SeqRec), s.runnableStore id 0x95 = some e →
    s.HoldsSeq e.packet x slot r → kdListMax x.desc + 1 < ceilDiv (r.length + kpTokens e.packet) (kdPageTokens x.desc) → e.items = [] →
    (∀ k ∈ r.list, s.pageHere k = true) → s.kvp.refused.find? id = none → s.MayWrite id [] →
    ∃ t, exec (.kvpAppend id) s = .next t ∧ t.kvp.pools = s.kvp.pools ∧ t.store.mem = s.store.mem ∧
      (t.entry? id).map (fun y => (y.phase, y.out.status, y.out.subcode)) = some (.ended, St.noSpace, 0x51)) ∧
  (∀ (s : State) (id slot o len : Nat) (e : Entry) (x : KvpPool) (r : SeqRec) (l : List Byte), s.resumable id 0x96 = some e →
    e.started = false → s.storeUp = true → s.HoldsSeq e.packet x slot r → r.locked = false → kpTokens e.packet = 0 →
    ceilDiv r.length (kdPageTokens x.desc) ≤ kdListMax x.desc + 1 → e.slot = some (o, len) →
    (∀ h ∈ r.list, s.pageHere h = true ∧ ∃ pg, x.pages.find? h = some pg ∧ pg.spilled = false) →
    s.kvp.refused.find? id = none → s.kvp.brought.find? id = none → s.MayWrite id [] →
    l = toLe 4 r.length ++ toLe 4 r.list.length ++ toLe 4 (kdTokenBytes x.desc) ++ toLe 4 r.length ++ toLe 48 0 ++ (r.list.map fun h =>
      toLe 8 (((x.pages.find? h).elim 0 (kvpPageRsa x.desc h)) + (if (x.pages.find? h).any (1 < ·.refs) then 2 ^ 56 else 0))).flatten →
    ∃ t, exec (.kvpLock id) s = .next t ∧ t.store.mem = s.store.mem ∧ (t.entry? id).map (·.pend) = some l ∧
      ((t.kvpPool (kpPool e.packet)).bind fun y => y.recs.find? slot) =
        some { r with locked := true, reserve := 0, reservedFrom := r.list.length } ∧
      (∀ k, k ∉ r.list → t.kvpPage (kpPool e.packet) k = x.pages.find? k) ∧
      (t.entry? id).map (fun y => (y.started, y.out.result0, y.out.countDone, y.out.countAux)) =
        some (true, r.length + 2 ^ 58 * s.sys.member, r.list.length, 0)) ∧
  (∀ (s : State) (id slot n : Nat) (e : Entry) (x : KvpPool) (r : SeqRec), s.runnableStore id 0x97 = some e →
    s.HoldsSeq e.packet x slot r → n = r.length + kpTokens e.packet → e.items = [] →
    (∀ h ∈ r.list, s.pageHere h = true) → s.kvp.refused.find? id = none → s.MayWrite id [] →
    ∃ t keep, exec (.kvpUnlock id) s = .next t ∧ t.store.mem = s.store.mem ∧ keep = max r.reservedFrom (ceilDiv n (kdPageTokens x.desc)) ∧
      (r.locked = true → kpTokens e.packet ≤ r.reserve →
        ((t.kvpPool (kpPool e.packet)).bind fun y => y.recs.find? slot) =
          some { r with length := n, list := r.list.take keep, locked := false, reserve := 0, reservedFrom := 0 } ∧
        (∀ h, h ∉ r.list.drop keep → t.kvpPage (kpPool e.packet) h = x.pages.find? h) ∧
        (t.entry? id).map (fun y => (y.started, y.out.result0)) = some (true, n)) ∧
      (r.locked = false → t.kvp.pools = s.kvp.pools ∧
        (t.entry? id).map (fun y => (y.phase, y.out.status, y.out.subcode)) = some (.ended, St.badParam, 0x49)) ∧
      (r.locked = true → r.reserve < kpTokens e.packet → t.kvp.pools = s.kvp.pools ∧
        (t.entry? id).map (fun y => (y.phase, y.out.status, y.out.subcode)) = some (.ended, St.badParam, 0x43))) ∧
  (∀ (s : State) (p q slot : Nat) (x : KvpPool) (r : SeqRec), s.kvpPool p = some x → x.recOf q = some (slot, r) → r.locked = true →
    (∀ h ∈ r.list, s.pageHere h = true) →
    ∃ t keep, exec (.kvpLockExpiry p q) s = .next t ∧ keep = max r.reservedFrom (ceilDiv r.length (kdPageTokens x.desc)) ∧
      t.store = s.store ∧ t.fld F.KVP_EVENT_LOCK_EXPIRED = 1 ∧ ((t.kvpPool p).bind fun y => y.recs.find? slot) =
        some { r with list := r.list.take keep, locked := false, reserve := 0, reservedFrom := 0 }) ∧
  (∀ (s : State) (p q slot : Nat) (r : SeqRec), s.seqRec p q = some (slot, r) → r.locked = false →
    exec (.kvpLockExpiry p q) s = .next s) ∧
  (∀ (s : State) (id slot : Nat) (e : Entry) (x : KvpPool) (r : SeqRec), s.runnableStore id 0x98 = some e →
    s.HoldsSeq e.packet x slot r → r.locked = false → r.list.Nodup → (∀ h ∈ r.list, s.pageHere h = true) →
    s.kvp.refused.find? id = none → s.MayWrite id [] →
    ∃ t, exec (.kvpClose id) s = .next t ∧ t.store.mem = s.store.mem ∧
      ((t.kvpPool (kpPool e.packet)).map fun y => (y.recs.find? slot, y.gens.getD slot 0)) = some (none, (x.gens.getD slot 0 + 1) % 64) ∧
      (∀ h, t.kvpPage (kpPool e.packet) h = if h ∈ r.list then
          (x.pages.find? h).bind fun pg => if pg.refs ≤ 1 then none else some { pg with refs := pg.refs - 1 }
        else x.pages.find? h) ∧
      (t.entry? id).map (fun y => (y.started, y.out.result1, y.out.countDone, y.out.countAux)) =
        some (true, s.sys.member, (r.list.filter fun h => (x.pages.find? h).any (·.refs ≤ 1)).length, 1)) ∧
  (∀ (s : State) (id slot : Nat) (e : Entry) (x : KvpPool) (r : SeqRec), s.runnableStore id 0x98 = some e →
    s.HoldsSeq e.packet x slot r → r.locked = true → e.items = [] →
    (∀ h ∈ r.list, s.pageHere h = true) → s.kvp.refused.find? id = none → s.MayWrite id [] →
    ∃ t, exec (.kvpClose id) s = .next t ∧ t.kvp.pools = s.kvp.pools ∧ t.store.mem = s.store.mem ∧
      (t.entry? id).map (fun y => (y.phase, y.out.status, y.out.subcode)) = some (.ended, St.badParam, 0x48))

/-- R347, R357, R359, R360: ownership moves by an OFFER and its answer or its silence; two members that disown a sequence resolve it. -/
def Obligations.KvpHandover : Prop :=
  (∀ (s : State) (id slot : Nat) (e : Entry) (x : KvpPool) (r q : SeqRec), s.runnableStore id 0x99 = some e →
    s.HoldsSeq e.packet x slot r → r.locked = false → kpMember e.packet ≠ s.sys.member →
    s.kvp.refused.find? id = none → s.MayWrite id [] →
    q = { r with state := .leaving, token := (r.token + 1) % 2 ^ 64, target := kpMember e.packet, offers := 1, handover := some (.entry id s.rack.nextItem) } →
    ∃ t, exec (.kvpHandover id) s = .next t ∧
      ((t.kvpPool (kpPool e.packet)).bind fun y => y.recs.find? slot) = some q ∧
      t.out = s.out ++ [.toMember (kpMember e.packet) (offerMsg 1 (kpPool e.packet) q)] ∧ t.store.mem = s.store.mem ∧
      (t.entry? id).map (fun y => (y.phase, y.started)) = some (.accepted, true)) ∧
  (∀ (s : State) (id slot : Nat) (e : Entry) (x : KvpPool) (r : SeqRec), s.runnableStore id 0x99 = some e →
    s.HoldsSeq e.packet x slot r → (r.locked = true ∨ kpMember e.packet = s.sys.member) →
    e.items = [] → s.kvp.refused.find? id = none → s.MayWrite id [] →
    ∃ t, exec (.kvpHandover id) s = .next t ∧ t.kvp.pools = s.kvp.pools ∧ t.out = s.out ∧
      (t.entry? id).map (fun y => (y.phase, y.out.status, y.out.subcode)) = some (.ended, St.badParam, 0x48)) ∧
  (∀ (s : State) (o p q n len slot : Nat) (l : List Nat) (x : KvpPool) (old : SeqRec), s.kvpPool p = some x →
    (x.recOf q = some (slot, old) ∧ old.token < n ∧ old.installed ≠ some (o, n) ∨
      x.recOf q = none ∧ x.freeRec = some slot ∧ old = { id := q, state := .owned }) →
    ∃ t, exec (.kvpOffer o p q n len l) s = .next t ∧ Frame [.kvp, .out] s t ∧
      ((t.kvpPool p).bind fun y => y.recs.find? slot) = some { old with state := .owned, token := n, length := len, list := l, target := 0, locked := false, installed := some (o, n) } ∧
      t.out = s.out ++ [.toMember o (offerMsg 2 p { id := q, state := .owned, token := n })]) ∧
  (∀ (s : State) (o p q n len slot : Nat) (l : List Nat) (x : KvpPool) (old : SeqRec), s.kvpPool p = some x →
    x.recOf q = some (slot, old) →
    (old.installed = some (o, n) → ∃ t, exec (.kvpOffer o p q n len l) s = .next t ∧ Frame [.out] s t ∧
      t.out = s.out ++ [.toMember o (offerMsg 2 p { id := q, state := .owned, token := n })]) ∧
    (old.installed ≠ some (o, n) → n ≤ old.token → ∃ t, exec (.kvpOffer o p q n len l) s = .next t ∧ Frame [.out] s t ∧
      t.out = s.out ++ [.toMember o (offerMsg 3 p { id := q, state := .owned, token := n })])) ∧
  (∀ (s : State) (o p q n slot id item : Nat) (r : SeqRec) (e : Entry) (i : Item), s.leavingTo p q n o = some (slot, r) →
    r.queued = [] → r.handover = some (.entry id item) → s.entry? id = some e → e.items = [i] → i.id = item → i.cancelled = false →
    i.other = none → i.failure = none → i.transfer = false → e.started = true → e.moving = false → e.stop = none →
    e.out.status = St.done →
    (∃ t, exec (.kvpOfferAccept o p q n) s = .next t ∧ ((t.kvpPool p).bind fun y => y.recs.find? slot) =
        some { r with state := .gone, handover := none, offers := 0, queued := [] } ∧ t.store = s.store ∧
      (t.entry? id).map (fun y => (y.phase, y.out.status, y.out.result0, y.out.result1, y.out.countDone)) =
        some (.ended, St.done, n, o, r.offers)) ∧
    ∃ t, exec (.kvpOfferDecline o p q n) s = .next t ∧ ((t.kvpPool p).bind fun y => y.recs.find? slot) =
        some { r with state := .owned, token := (r.token + 2 ^ 64 - 1) % 2 ^ 64, target := 0, handover := none, offers := 0, queued := [] } ∧
      t.store = s.store ∧ (t.entry? id).map (fun y => (y.phase, y.out.status, y.out.subcode)) = some (.ended, St.staleVersion, 0x43)) ∧
  (∀ (s : State) (o p q n : Nat), s.leavingTo p q n o = none →
    exec (.kvpOfferAccept o p q n) s = .next s ∧ exec (.kvpOfferDecline o p q n) s = .next s) ∧
  (∀ (s : State) (p q slot : Nat) (x : KvpPool) (r : SeqRec), s.kvpPool p = some x → x.recOf q = some (slot, r) → r.state = .leaving →
    r.offers ≤ s.fld F.KVP_HANDOVER_CFG_RETRIES →
    ∃ t, exec (.kvpOfferTimeout p q) s = .next t ∧ Frame [.kvp, .out] s t ∧
      ((t.kvpPool p).bind fun y => y.recs.find? slot) = some { r with offers := r.offers + 1 } ∧
      t.out = s.out ++ [.toMember r.target (offerMsg 1 p r)]) ∧
  (∀ (s : State) (p q slot id item : Nat) (x : KvpPool) (r : SeqRec) (e : Entry) (i : Item), s.kvpPool p = some x →
    x.recOf q = some (slot, r) → r.state = .leaving → s.fld F.KVP_HANDOVER_CFG_RETRIES < r.offers → r.queued = [] →
    r.handover = some (.entry id item) → s.entry? id = some e → e.items = [i] → i.id = item → i.cancelled = false →
    i.other = none → i.failure = none → i.transfer = false → e.started = true → e.moving = false → e.stop = none →
    e.out.status = St.done →
    ∃ t, exec (.kvpOfferTimeout p q) s = .next t ∧ ((t.kvpPool p).bind fun y => y.recs.find? slot) =
        some { r with state := .gone, handover := none, offers := 0, queued := [] } ∧ t.store = s.store ∧
      (t.entry? id).map (fun y => (y.phase, y.out.status, y.out.subcode)) = some (.ended, St.timeout, 0x40)) ∧
  (∀ (s : State) (p q slot : Nat) (r : SeqRec), s.seqRec p q = some (slot, r) → r.state ≠ .leaving →
    exec (.kvpOfferTimeout p q) s = .next s) ∧
  (∀ (s : State) (p q slot : Nat) (x : KvpPool) (r : SeqRec) (y : KvpFrom), s.kvpPool p = some x → x.recOf q = some (slot, r) →
    r.state = .gone → y.owned = false →
    ∃ t z, s.resolve p q y = (t, true) ∧ ((t.kvpPool p).bind fun y => y.recs.find? slot) = some z ∧
      z.token = (max r.token y.token + 1) % 2 ^ 64 ∧ t.fld F.KVP_EVENT_RESOLVED = 1 ∧ t.store = s.store ∧
      (r.token < y.token ∨ r.token = y.token ∧ s.sys.member < y.member → z.state = .owned ∧
        z.list = (if r.token < y.token then y.list else r.list).takeWhile fun h => x.pages.has h) ∧
      (y.token < r.token ∨ r.token = y.token ∧ y.member ≤ s.sys.member → z.state = .gone ∧ z.target = y.member ∧ z.list = r.list) ∧
      (r.token = y.token → t.fld F.KVP_EVENT_BOTH_RENOUNCED = 1))

/-- R438 to R440, R445, R448, R449, R452, R453, R458: gates are signalled, waited on, written and read at their home. -/
def Obligations.Gates : Prop :=
  (∀ (s : State) (id k old v : Nat) (e : Entry), s.runnable id 0xA0 = some e → k = gateKey (pkField e.packet 8 4) →
    s.serverOf (gateSlot (pkField e.packet 8 4)) = s.sys.member → s.gateFails k (pkComp e.packet) = none →
    s.gate.flips.find? k = none → old = s.gateVal k →
    v = (if pkField e.packet 12 1 % 4 = 0 then (old + pkField e.packet 16 4) % 2 ^ 32 else pkField e.packet 16 4) →
    ∃ t, exec (.gateSignal id) s = .next t ∧ t.gateVal k = v ∧ (∀ j, j ≠ k → t.gateVal j = s.gateVal j) ∧ t.store = s.store ∧
      t.gate.waiters = s.gate.waiters.filter (fun w => !(w.gate = k && w.mode.satisfied v w.target)) ∧
      (∀ w ∈ s.gate.waiters, w.gate = k → w.mode.satisfied v w.target = true → w.intake = s.sys.member → w.entry ≠ id →
        (s.entry? w.entry).isSome = true → (t.entry? w.entry).map (fun y => (y.phase, y.out.status, y.out.result0)) =
          some (.ended, St.done, v)) ∧
      (t.entry? id).map (fun y => (y.started, y.out.result0, y.out.countDone)) = some (true, old + 2 ^ 32 * v,
        (s.gate.waiters.filter fun w => w.gate = k && w.mode.satisfied v w.target).length)) ∧
  (∀ (s : State) (id k v target : Nat) (m : WaitMode) (e : Entry), s.runnable id 0xA1 = some e → k = gateKey (pkField e.packet 8 4) →
    s.serverOf (gateSlot (pkField e.packet 8 4)) = s.sys.member → s.gateFails k (pkComp e.packet) = none →
    s.gate.flips.find? k = none → e.items = [] → v = s.gateVal k → WaitMode.ofCode (pkField e.packet 12 1 % 4) = some m →
    target = pkField e.packet 16 4 →
    ∃ t, exec (.gateWait id) s = .next t ∧ t.gate.vals = s.gate.vals ∧ t.store = s.store ∧
      (m.satisfied v target = true → t.gate = s.gate ∧
        (t.entry? id).map (fun y => (y.phase, y.out.result0, y.out.countAux)) = some (.ended, v, 1)) ∧
      (m.satisfied v target = false → s.gate.waiters.length < 16384 →
        t.gate = { s.gate with waiters := s.gate.waiters ++ [{ gate := k, mode := m, target := target, intake := s.sys.member, entry := id, since := s.frame }] } ∧
        (t.entry? id).map (fun y => (y.phase, y.started)) = some (.accepted, true) ∧
        (14336 ≤ s.gate.waiters.length → t.fld F.GATE_EVENT_WAITERS_HIGH = 1)) ∧
      (m.satisfied v target = false → 16384 ≤ s.gate.waiters.length → t.gate = s.gate ∧
        (t.entry? id).map (fun y => (y.phase, y.out.status, y.out.subcode)) = some (.ended, St.noSpace, 0x40))) ∧
  (∀ (s : State) (id first n value : Nat) (e : Entry) (gs : List Nat), s.runnable id 0xA2 = some e →
    first = gateKey (pkField e.packet 8 4) → n = pkField e.packet 20 3 % 2 ^ 17 → value = pkField e.packet 16 4 →
    gs = resetGates (pkField e.packet 8 4) n → s.serverOf (gateSlot (pkField e.packet 8 4)) = s.sys.member →
    (∀ k ∈ gs, s.gateFails k (pkComp e.packet) = none ∨ (∃ sub, s.gateFails k (pkComp e.packet) = some (St.fenced, sub)) ∧
      first ≤ 256 * blockKey k ∧ 256 * blockKey k + 256 ≤ first + n) →
    ∃ t, exec (.gateReset id) s = .next t ∧ (∀ k, t.gateVal k = if first ≤ k ∧ k < first + n then value else s.gateVal k) ∧
      (∀ b, first ≤ 256 * b → 256 * b + 256 ≤ first + n → (t.gateBlock b).lost = false) ∧
      (∀ b, (t.gateBlock b).valid = (s.gateBlock b).valid) ∧ t.store = s.store ∧
      (t.entry? id).map (fun y => (y.started, y.out.countDone)) = some (true, n)) ∧
  (∀ (s : State) (id k : Nat) (e : Entry), s.runnable id 0xA3 = some e → k = gateKey (pkField e.packet 8 4) → e.items = [] →
    s.serverOf (gateSlot (pkField e.packet 8 4)) = s.sys.member → s.gateFails k (pkComp e.packet) = none →
    s.gate.flips.find? k = none →
    ∃ t, exec (.gateRead id) s = .next t ∧ OnlyEntry id s t ∧
      (t.entry? id).map (fun y => (y.phase, y.out.result0)) = some (.ended, s.gateVal k)) ∧
  (∀ (s : State) (id st sub : Nat) (e : Entry) (c : Instr), (c, pkOpcode e.packet) ∈ [(Instr.gateSignal id, 0xA0), (.gateWait id, 0xA1), (.gateRead id, 0xA3)] →
    s.runnable id (pkOpcode e.packet) = some e → s.serverOf (gateSlot (pkField e.packet 8 4)) = s.sys.member →
    s.gateFails (gateKey (pkField e.packet 8 4)) (pkComp e.packet) = some (st, sub) →
    ∃ t, exec c s = .next t ∧ OnlyEntry id s t ∧
      (t.entry? id).map (fun y => (y.phase, y.out.status, y.out.subcode)) = some (.ended, st, sub)) ∧
  (∀ (s : State) (id : Nat) (e : Entry), s.entry? id = some e → pkOpcode e.packet = 0xA1 → e.accepted = true → e.phase = .accepted →
    e.stop = none → e.items = [] → s.NoCoreFor id → s.serverOf (gateSlot (pkField e.packet 8 4)) = s.sys.member →
    ∃ t, exec (.gateWatchdogExpiry id) s = .next t ∧ t.gate.vals = s.gate.vals ∧
      t.gate.waiters = s.gate.waiters.filter (fun w => !(w.intake = s.sys.member && w.entry = id)) ∧
      t.fld F.GATE_WD_LAST_GATE = gateKey (pkField e.packet 8 4) ∧ t.fld F.GATE_WD_LAST_VALID = 1 ∧
      t.fld F.GATE_EVENT_WATCHDOG = 1 ∧
      (t.entry? id).map (fun y => (y.phase, y.out.status, y.out.subcode)) = some (.ended, St.timeout, 0x40)) ∧
  (∀ (m : WaitMode) (v target : Nat), v < 2 ^ 32 → target < 2 ^ 32 → (m.satisfied v target = true ↔
    match m with
    | .ge => (v + 2 ^ 32 - target) % 2 ^ 32 < 2 ^ 31
    | .eq => v = target
    | .ne => v ≠ target))

/-- R440, R441, R455, R456, R465: a block's record is selected and applied, and its gates are cleared with it; the debug window
reads a gate, and sets it only where the debug level allows. -/
def Obligations.GateBlocks : Prop :=
  (∀ (s : State) (src b : Nat), s.mayAdminister src = true → b < 1024 →
    ∃ t x, exec (.gateBlkSelWrite src b) s = .next t ∧ x = s.gateBlock (1024 * s.ownSlot + b) ∧ t.fld F.GATE_BLK_SEL = b ∧
      t.fld F.GATE_BLK_CFG_VALID = b2n x.valid ∧ t.fld F.GATE_BLK_CFG_LOST = b2n x.lost ∧
      t.fld F.GATE_BLK_CFG_OWNER_CTX = x.ownerCtx % 4096 ∧ t.fld F.GATE_BLK_CFG_COMPOSITION = x.comp % 4096 ∧ Frame [.regs] s t) ∧
  (∀ (s : State) (src k : Nat) (old : GateBlock), s.mayAdminister src = true → k = 1024 * s.ownSlot + s.fld F.GATE_BLK_SEL →
    old = s.gateBlock k →
    ∃ t, exec (.gateBlkApply src) s = .next t ∧
      t.gateBlock k = { valid := s.fld F.GATE_BLK_CFG_VALID = 1, comp := s.fld F.GATE_BLK_CFG_COMPOSITION, ownerCtx := s.fld F.GATE_BLK_CFG_OWNER_CTX, lost := old.lost && !(decide (s.fld F.GATE_BLK_CFG_VALID = 1)) } ∧
      (∀ j, j ≠ k → t.gateBlock j = s.gateBlock j) ∧ (∀ g, blockKey g ≠ k → t.gateVal g = s.gateVal g) ∧ t.store = s.store ∧
      (s.fld F.GATE_BLK_CFG_VALID = 1 → old.valid = false ∨ old.lost = true → ∀ g, blockKey g = k → t.gateVal g = 0) ∧
      (old.valid = true → s.fld F.GATE_BLK_CFG_VALID = 0 ∨ s.fld F.GATE_BLK_CFG_COMPOSITION ≠ old.comp →
        (∀ g, blockKey g = k → t.gateVal g = 0) ∧ (∀ w ∈ t.gate.waiters, blockKey w.gate ≠ k) ∧ t.fld F.GATE_EVENT_CLEARED = 1 ∧
        ∀ w ∈ s.gate.waiters, blockKey w.gate = k → w.intake = s.sys.member → (s.entry? w.entry).isSome = true →
          (t.entry? w.entry).map (fun y => (y.phase, y.out.status, y.out.subcode)) = some (.ended, St.revoked, 0x65)) ∧
      (old.valid = true → old.lost = false → s.fld F.GATE_BLK_CFG_VALID = 1 → s.fld F.GATE_BLK_CFG_COMPOSITION = old.comp →
        t.gate.vals = s.gate.vals ∧ t.gate.waiters = s.gate.waiters)) ∧
  (∀ (s : State) (src k : Nat), src < 128 → src % 64 = 0 → k = 262144 * s.ownSlot + s.fld F.GATE_DBG_GATE →
    s.gate.flips.find? k = none →
    ∃ t, exec (.gateDbgRead src) s = .next t ∧ t.fld F.GATE_DBG_VALUE = s.gateVal k % 2 ^ 32 ∧ t.fld F.GATE_DBG_STATUS_DONE = 1 ∧
      Frame [.regs] s t) ∧
  (∀ (s : State) (src k : Nat), src < 128 → src % 64 = 0 → k = 262144 * s.ownSlot + s.fld F.GATE_DBG_GATE →
    ∃ t, exec (.gateDbgSet src) s = .next t ∧ t.store = s.store ∧ t.fld F.GATE_DBG_STATUS_DONE = 1 ∧
      (s.sys.debug = .invasive ∨ s.sys.debug = .maker → t.gateVal k = s.fld F.GATE_DBG_VALUE ∧
        (∀ j, j ≠ k → t.gateVal j = s.gateVal j) ∧ t.fld F.GATE_DBG_STATUS_REFUSED = 0 ∧ t.fld F.GATE_EVENT_HAND_SET = 1) ∧
      (s.sys.debug ≠ .invasive → s.sys.debug ≠ .maker → t.gate = s.gate ∧ t.fld F.GATE_DBG_STATUS_REFUSED = 1))

/-- R459 to R463: a fence snapshots what its source has sent, asks every destination short of it, and completes when all have
answered; a destination answers a PROBE once it has ended that much. -/
def Obligations.Fences : Prop :=
  (∀ (s : State) (id : Nat) (e : Entry), s.runnable id 0xA8 = some e → (∀ f ∈ s.gate.fences, f.entry ≠ id) →
    (∀ w ∈ e.waitsFor, s.entry? w = none) →
    (∀ d < 128, s.snapshot e.src d = s.gate.ackedCount.getD (128 * e.src + d) 0) →
    ∃ t, exec (.fence id) s = .next t ∧ t.gate.fences = s.gate.fences ∧ t.store = s.store ∧
      (pkField e.packet 12 1 / 4 % 2 = 0 → t.gate.vals = s.gate.vals ∧
        (t.entry? id).map (fun y => (y.phase, y.out.countDone, y.out.countAux)) = some (.ended, 0, 0)) ∧
      (∀ k v, pkField e.packet 12 1 / 4 % 2 = 1 → k = gateKey (pkField e.packet 8 4) →
        s.serverOf (gateSlot (pkField e.packet 8 4)) = s.sys.member → s.gateFails k (pkComp e.packet) = none →
        s.gate.flips.find? k = none → v = (s.gateVal k + pkField e.packet 16 4) % 2 ^ 32 → t.gateVal k = v ∧
          (t.entry? id).map (fun y => (y.phase, y.out.result0, y.out.countDone)) = some (.ended, v, 0))) ∧
  (∀ (s : State) (id d : Nat) (e : Entry), s.runnable id 0xA8 = some e → (∀ f ∈ s.gate.fences, f.entry ≠ id) → d < 64 →
    d ≠ s.sys.member → s.snapshot e.src d ≠ s.gate.ackedCount.getD (128 * e.src + d) 0 →
    ∃ t f, exec (.fence id) s = .next t ∧ t.gate.fences = s.gate.fences ++ [f] ∧ f.entry = id ∧ f.src = e.src ∧ f.acked.contains d = false ∧
      (d, s.snapshot e.src d) ∈ f.waiting ∧ (t.entry? id).map (fun y => (y.phase, y.started)) = some (.accepted, true)) ∧
  (∀ (s : State) (id m c p : Nat) (f : Fence) (msg : List Byte), s.gate.fences.find? (fun f => f.entry = id) = some f →
    f.waiting.find? (fun w => w.1 = m) = some (m, c) → m < 64 → m ≠ s.sys.member → s.memberState m ≠ .fenced →
    s.pickPort (s.route m).ports s.sys.member m 0 = some p → msg = drainMsg 0 f.id s.sys.member m f.src 0 c →
    ∃ t, exec (.fenceProbeResend id m) s = .next t ∧ Frame [.gate, .hxl, .out] s t ∧ t.gate.fences = s.gate.fences ∧
      t.hxl.outbox = s.hxl.outbox ++ [{ port := p, dst := m, msg := msg }]) ∧
  (∀ (s : State) (id m : Nat) (f : Fence), s.gate.fences.find? (fun f => f.entry = id) = some f →
    (∃ w ∈ f.waiting, w.1 = m) → s.memberState m = .fenced → (s.entry? id).isSome = true →
    ∃ t, exec (.fencePromotionTimeout id m) s = .next t ∧ t.gate = { s.gate with fences := s.gate.fences.filter fun g => g.entry != id } ∧
      t.store = s.store ∧ (t.entry? id).map (fun y => (y.phase, y.out.status, y.out.subcode, y.out.countDone)) =
        some (.ended, St.fenced, 0x41, f.acked.length)) ∧
  (∀ (s : State) (p q : Nat) (m : List Byte) (c : Instr), c = .drainProbe p m ∨ c = .drainReroute p m → (s.port p).act.kind ≠ 1 →
    drTarget m = s.sys.member → drOrigin m ≠ s.sys.member → s.memberState (drOrigin m) ≠ .fenced →
    s.pickPort (s.route (drOrigin m)).ports s.sys.member (drOrigin m) 0 = some q →
    ∃ t, exec c s = .next t ∧ Frame [.gate, .hxl, .out] s t ∧ t.hxl.inbox = s.hxl.inbox.erase (p, m) ∧
      (s.endedReached (drOrigin m) (drSource m) (drCount m) = true → t.gate = s.gate ∧ t.hxl.outbox = s.hxl.outbox ++
        [{ port := q, dst := drOrigin m, msg := drainMsg 1 (drFence m) (drOrigin m) s.sys.member (drSource m) 0 (s.gate.ended.getD (144 * drOrigin m + drSource m) 0) }]) ∧
      (s.endedReached (drOrigin m) (drSource m) (drCount m) = false → t.hxl.outbox = s.hxl.outbox ∧ t.gate = { s.gate with probes := s.gate.probes ++ [{ origin := drOrigin m, source := drSource m, fenceId := drFence m, count := drCount m }] })) ∧
  (∀ (s : State) (p m : Nat) (msg : List Byte), (s.port p).act.kind ≠ 1 → m = drTarget msg → m ≠ s.sys.member → m < 64 →
    s.memberState m ≠ .fenced → (∃ q, s.pickPort (s.route m).ports s.sys.member m 0 = some q) →
    ∃ t u, exec (.drainProbe p msg) s = .next t ∧ exec (.drainReroute p msg) s = .next t ∧ t.gate.probes = s.gate.probes ∧
      t.hxl.outbox = s.hxl.outbox ++ [u] ∧ u.dst = m) ∧
  (∀ (s : State) (p c : Nat) (m : List Byte) (f : Fence) (e : Entry), drOrigin m = s.sys.member → s.gate.fences.find? (fun f => f.id = drFence m) = some f →
    f.waiting = [(drTarget m, c)] → (∀ g ∈ s.gate.fences, g.entry = f.entry ↔ g.id = f.id) → s.entry? f.entry = some e →
    e.phase = .accepted → (∀ w ∈ e.waitsFor, s.entry? w = none) → pkField e.packet 12 1 / 4 % 2 = 0 →
    ∃ t, exec (.drainAck p m) s = .next t ∧ t.gate.vals = s.gate.vals ∧ t.gate.fences = s.gate.fences.filter (fun g => g.entry != f.entry) ∧
      t.gate.ackedCount.getD (128 * f.src + drTarget m) 0 = c ∧ t.store = s.store ∧
      (t.entry? f.entry).map (fun y => (y.phase, y.out.countDone, y.out.countAux)) =
        some (.ended, (addNew f.acked (drTarget m)).length, f.reroutes)) ∧
  (∀ (s : State) (p : Nat) (m : List Byte), drOrigin m = s.sys.member →
    (∀ f, s.gate.fences.find? (fun f => f.id = drFence m) = some f → ∀ w ∈ f.waiting, w.1 ≠ drTarget m) →
    ∃ t, exec (.drainAck p m) s = .next t ∧ t.gate = s.gate ∧ t.fld F.GATE_COUNT_DUP_ACK = min (s.fld F.GATE_COUNT_DUP_ACK + 1) (2 ^ 32 - 1)) ∧
  (∀ (s : State) (o src n p : Nat) (x : Probe), s.gate.probes.find? (fun p => p.origin = o && p.source = src && p.fenceId = n) = some x →
    o ≠ s.sys.member → s.memberState o ≠ .fenced → s.pickPort (s.route o).ports s.sys.member o 0 = some p →
    s.endedReached o src x.count = true →
    ∃ t, exec (.drainAnswerDue o src n) s = .next t ∧ Frame [.gate, .hxl, .out] s t ∧
      t.gate = { s.gate with probes := s.gate.probes.filter fun q => !(q.origin = o && q.source = src && q.fenceId = n) } ∧
      t.hxl.outbox = s.hxl.outbox ++ [{ port := p, dst := o, msg := drainMsg 1 n o s.sys.member src 0 (s.gate.ended.getD (144 * o + src) 0) }]) ∧
  (∀ (s : State) (o src n : Nat) (x : Probe), s.gate.probes.find? (fun p => p.origin = o && p.source = src && p.fenceId = n) = some x →
    s.endedReached o src x.count = false → exec (.drainAnswerDue o src n) s = .next s)

/-- R388, R390, R411, R413 to R419: raw requests read and write the store at their home, filter entries follow, holders are recalled
first and their answers let the request through. -/
def Obligations.RawTransactions : Prop :=
  (∀ (s : State) (p a i : Nat) (m : List Byte), RawArrives s .rd p m a i → s.coh.sf.cells = [] → s.Sound → s.KeysStand →
    ∃ t, exec (.rd p m) s = .next t ∧ t.store.mem = s.store.mem ∧ t.coh.txns = [] ∧
      (t.sfEntry (a / 128)).map (fun e => (e.owned, e.coarse, e.holders)) = (if hdNoCache m then none else some (false, false, [i])) ∧
      t.hxl.outbox = s.hxl.outbox ++ [{ port := p, dst := 0xFFFF, msg := respMsg 0x0A (hdClass m) (hdTag m) (hdSrc m) St.done 0 a s.sys.member (s.bytes (a / 128 * 128) 128) }]) ∧
  (∀ (s : State) (p a i : Nat) (m : List Byte), RawArrives s .rdOwn p m a i → s.coh.sf.cells = [] → s.Sound → s.KeysStand →
    ∃ t, exec (.rdOwn p m) s = .next t ∧ t.store.mem = s.store.mem ∧ t.coh.txns = [] ∧
      (t.sfEntry (a / 128)).map (fun e => (e.owned, e.coarse, e.holders, e.hold)) = some (true, false, [i], true) ∧
      t.hxl.outbox = s.hxl.outbox ++ [{ port := p, dst := 0xFFFF, msg := respMsg 0x0A (hdClass m) (hdTag m) (hdSrc m) St.done 0 a s.sys.member (s.bytes (a / 128 * 128) 128) }]) ∧
  (∀ (s : State) (p a i : Nat) (m : List Byte), RawArrives s .wr p m a i → s.coh.sf.cells = [] → s.KeysStand →
    ∃ t, exec (.wr p m) s = .next t ∧ t.bytes (a / 128 * 128) 128 = sub m 16 128 ∧ t.coh.txns = [] ∧
      (∀ b, b < a / 128 * 128 ∨ a / 128 * 128 + 128 ≤ b → t.byte b = s.byte b) ∧
      t.hxl.outbox = s.hxl.outbox ++ [{ port := p, dst := 0xFFFF, msg := respMsg 0x0B (hdClass m) (hdTag m) (hdSrc m) St.done 0 a s.sys.member [] }]) ∧
  (∀ (s : State) (p a i : Nat) (m : List Byte), RawArrives s .wrp p m a i → s.coh.sf.cells = [] → s.Sound → s.KeysStand →
    ∃ t, exec (.wrp p m) s = .next t ∧ t.coh.txns = [] ∧
      (∀ j < 128, t.byte (a / 128 * 128 + j) = if (fieldAt m 16 16).testBit j then m.getD (32 + j) 0 else s.byte (a / 128 * 128 + j)) ∧
      (∀ b, b < a / 128 * 128 ∨ a / 128 * 128 + 128 ≤ b → t.byte b = s.byte b) ∧
      t.hxl.outbox = s.hxl.outbox ++ [{ port := p, dst := 0xFFFF, msg := respMsg 0x0B (hdClass m) (hdTag m) (hdSrc m) St.done 0 a s.sys.member [] }]) ∧
  (∀ (s : State) (p a i n old new : Nat) (m : List Byte), RawArrives s .atom p m a i → s.coh.sf.cells = [] → s.Sound → s.KeysStand →
    n = (if atW64 m then 8 else 4) → old = leNat (s.bytes a n) →
    new = atomicResult (atAop m) (8 * n) old (fieldAt m 24 8) (fieldAt m 32 8) →
    ∃ t, exec (.atom p m) s = .next t ∧ t.bytes a n = toLe n new ∧ t.coh.txns = [] ∧
      (∀ b, b < a ∨ a + n ≤ b → t.byte b = s.byte b) ∧ t.hxl.outbox = s.hxl.outbox ++ [{ port := p, dst := 0xFFFF, msg := respMsg (if atNoReturn m then 0x0B else 0x0C) (hdClass m) (hdTag m) (hdSrc m) St.done 0 a s.sys.member (if atNoReturn m then [] else toLe 8 old) }]) ∧
  (∀ (s : State) (p a i : Nat) (m : List Byte) (e : SfEntry), RawArrives s .wb p m a i → s.coh.sf.cells = [(a / 128, e)] →
    e.owned = true → e.holders = [i] → s.KeysStand →
    ∃ t, exec (.wb p m) s = .next t ∧ t.bytes (a / 128 * 128) 128 = sub m 16 128 ∧ t.sfEntry (a / 128) = none ∧ t.coh.txns = [] ∧
      (∀ b, b < a / 128 * 128 ∨ a / 128 * 128 + 128 ≤ b → t.byte b = s.byte b) ∧
      t.hxl.outbox = s.hxl.outbox ++ [{ port := p, dst := 0xFFFF, msg := respMsg 0x0B (hdClass m) (hdTag m) (hdSrc m) St.done 0 a s.sys.member [] }]) ∧
  (∀ (s : State) (k : RawKind) (c : Instr) (p a i j : Nat) (m : List Byte) (e : SfEntry), (k, c) ∈ [(RawKind.rd, Instr.rd p m), (.rdOwn, .rdOwn p m), (.wr, .wr p m), (.wrp, .wrp p m), (.atom, .atom p m)] →
    RawArrives s k p m a i → s.coh.sf.cells = [(a / 128, e)] → e.owned = true → e.coarse = false → e.holders = [j] → e.hold = false → j ≠ i →
    (s.agent j).state = .live → s.attached j = true →
    ∃ t, exec c s = .next t ∧ t.store.mem = s.store.mem ∧ t.sfEntry (a / 128) = some e ∧
      t.coh.invs = [{ granule := a / 128, index := j, recalls := true, back := false, crossed := false, ackedFirst := false }] ∧
      t.coh.txns.map (fun x => (x.req.granule, x.req.src, x.req.tag, x.answered)) = [(a / 128, hdSrc m, hdTag m, false)]) ∧
  (∀ (s : State) (k : RawKind) (c : Instr) (p a i j : Nat) (m : List Byte) (e : SfEntry), (k, c) ∈ [(RawKind.rd, Instr.rd p m), (.rdOwn, .rdOwn p m), (.wr, .wr p m), (.wrp, .wrp p m), (.atom, .atom p m)] →
    RawArrives s k p m a i → s.coh.sf.cells = [(a / 128, e)] → e.owned = true → e.coarse = false → e.holders = [j] → e.hold = true → j ≠ i →
    (s.agent j).state = .live →
    ∃ t, exec c s = .next t ∧ t.store.mem = s.store.mem ∧ t.coh.txns = [] ∧ t.coh.invs = [] ∧ t.coh.sf = s.coh.sf ∧
      t.coh.queue.map (fun r => (r.granule, r.src, r.tag)) = [(a / 128, hdSrc m, hdTag m)]) ∧
  (∀ (s : State) (k : RawKind) (c : Instr) (p : Nat) (m : List Byte), (k, c) ∈ [(RawKind.rd, Instr.rd p m), (.rdOwn, .rdOwn p m), (.wr, .wr p m), (.wrp, .wrp p m), (.atom, .atom p m), (.wb, .wb p m)] →
    (s.port p).state = .active → (s.port p).act.kind = 1 → (s.aligned = true ∨ hdClass m = 15) → s.sys.power ≠ .rest →
    s.fenced = false → s.sys.bracing = false → s.rack.held = [] → hdSrc m = (s.port p).partnerId →
    hdNode m = (s.port p).act.nodeForm → (rawAligned k m = false ∨ rawFieldsOk k m = false) →
    ∃ t, exec c s = .next t ∧ t.store = s.store ∧ t.coh = s.coh ∧ t.fld F.HXL_EVENT_MSG_BAD = 1 ∧
      t.hxl.outbox = s.hxl.outbox ++ [{ port := p, dst := 0xFFFF, msg := respMsg 0x0B (hdClass m) (hdTag m) (hdSrc m) St.badParam (if rawAligned k m then 0xC2 else 0xC1) (hdAddr m) s.sys.member [] }]) ∧
  (∀ (s : State) (p g i id : Nat) (m : List Byte) (v : Inv) (e : SfEntry) (x : CohTxn) (c : Instr), g = hdAddr m / 128 →
    c = .invAck p m ∨ c = .invData p m → hdSrc m = s.sys.member → (s.port p).act.kind ≠ 0 → s.senderIndex p = some i →
    s.coh.invs = [v] → v.granule = g → v.index = i → v.crossed = false →
    (c = .invAck p m → (fieldAt m 15 1).testBit 0 = false ∨ v.recalls = false) →
    s.coh.txns = [x] → x.req.granule = g → x.req.kind = .cmdWrite id → x.answered = false → s.coh.sf.cells = [(g, e)] →
    s.Alone → s.KeysStand →
    ∃ t, exec c s = .next t ∧ t.coh.invs = [] ∧ t.coh.txns = [] ∧ t.coh.sf.cells = [] ∧
      (c = .invAck p m → t.store.mem = s.store.mem) ∧
      (c = .invData p m → t.bytes (g * 128) 128 = sub m 16 128 ∧ ∀ b, b < g * 128 ∨ g * 128 + 128 ≤ b → t.byte b = s.byte b)) ∧
  (∀ (s : State) (p : Nat) (m : List Byte) (c : Instr), c = .invAck p m ∨ c = .invData p m → hdSrc m = s.sys.member →
    (s.port p).act.kind ≠ 0 → s.coh.invs = [] → s.rack.held = [] →
    ∃ t, exec c s = .next t ∧ t.coh = s.coh ∧ t.store = s.store ∧ t.fld F.HXL_EVENT_MSG_BAD = 1) ∧
  (∀ (s : State) (p i : Nat) (m : List Byte) (r : EpRoute), i = s.indexOfId (hdEpoch m % 2 ^ 15) → r = s.epRoute i → r.valid1 = true →
    r.member1 = s.sys.member → (s.port r.port1).state = .active →
    ∃ t, exec (.inv p m) s = .next t ∧ Frame [.hxl, .out] s t ∧ t.hxl.inbox = s.hxl.inbox.erase (p, m) ∧
      t.hxl.outbox = s.hxl.outbox ++ [{ port := r.port1, dst := 0xFFFF, msg := m.take 6 ++ toLe 2 (s.endpointId i) ++ m.drop 8 }]) ∧
  (∀ (s : State) (p i : Nat) (m : List Byte) (r : EpRoute) (c : Instr), c ∈ [Instr.cpl p m, .cplNd p m, .cplVal p m] → 64 ≤ hdSrc m →
    i = s.indexOfId (hdSrc m) → r = s.epRoute i → r.valid1 = true → r.member1 = s.sys.member → (s.port r.port1).state = .active →
    ∃ t, exec c s = .next t ∧ Frame [.hxl, .xlt, .out] s t ∧ (t.port r.port1).raws = (s.port r.port1).raws - 1 ∧
      t.xlt = { s.xlt with raws := s.xlt.raws.filter fun w => !(w.port = r.port1 && w.tag = hdTag m) } ∧
      t.hxl.outbox = s.hxl.outbox ++ [{ port := r.port1, dst := 0xFFFF, msg := m }]) ∧
  (∀ (s : State) (p q : Nat) (m : List Byte) (c : Instr), c ∈ [Instr.cpl p m, .cplNd p m, .cplVal p m] → hdSrc m < 64 →
    hdSrc m ≠ s.sys.member → s.memberState (hdSrc m) ≠ .fenced → s.pickPort (s.route (hdSrc m)).ports s.sys.member (hdSrc m) (hdTag m) = some q →
    ∃ t, exec c s = .next t ∧ Frame [.hxl, .out] s t ∧ t.hxl.outbox = s.hxl.outbox ++ [{ port := q, dst := hdSrc m, msg := m }]) ∧
  (∀ (s : State) (g : Nat) (r : CohReq), s.coh.queue = [r] → r.granule = g → r.kind = .wr → r.port < 16 → r.data.length = 128 →
    s.coh.txns = [] → s.coh.invs = [] → s.coh.sf.cells = [] → s.coreHolds none g = false → s.journalRoom [g] = true →
    s.bufferFull (g / 32) = false → s.Alone → s.KeysStand →
    ∃ t, exec (.cohTransactionStart g) s = .next t ∧ t.coh.queue = [] ∧ t.coh.txns = [] ∧ t.bytes (g * 128) 128 = r.data ∧
      (∀ b, b < g * 128 ∨ g * 128 + 128 ≤ b → t.byte b = s.byte b) ∧
      t.hxl.outbox = s.hxl.outbox ++ [{ port := r.port, dst := 0xFFFF, msg := respMsg 0x0B r.cls r.tag r.src St.done 0 r.addr s.sys.member [] }]) ∧
  (∀ (s : State) (g : Nat), s.busy g = true → exec (.cohTransactionStart g) s = .next s) ∧
  (∀ (s : State) (g : Nat) (e : SfEntry), s.sfEntry g = some e →
    ∃ t, exec (.cohHoldExpiry g) s = .next t ∧ Frame [.coh] s t ∧ t.sfEntry g = some { e with hold := false } ∧
      t.coh = { s.coh with sf := t.coh.sf } ∧ ∀ h, h ≠ g → t.sfEntry h = s.sfEntry h)

/-- R421, R422, R437: an endpoint that keeps silent or is declared dead is out; its holdings are reclaimed; then it may be revived. -/
def Obligations.CoherenceAgents : Prop :=
  (∀ (s : State) (i g : Nat), (∃ v ∈ s.coh.invs, v.index = i ∧ v.granule = g) → (s.agent i).state = .live → s.rack.held = [] →
    ∃ t, exec (.snoopTimeout i g) s = .next t ∧ t.agent i = { state := .dead, byTimeout := true } ∧
      (∀ j, j ≠ i → t.agent j = s.agent j) ∧ (∀ v ∈ t.coh.invs, v.index ≠ i) ∧ t.fld F.COH_EVENT_AGENT_DEAD = 1) ∧
  (∀ (s : State) (i g : Nat), ((∀ v ∈ s.coh.invs, v.index = i → v.granule ≠ g) ∨ (s.agent i).state ≠ .live) →
    exec (.snoopTimeout i g) s = .next s) ∧
  (∀ (s : State) (src i : Nat), s.mayAdminister src = true → (s.agent i).state = .live → s.rack.held = [] →
    ∃ t, exec (.cohAgentDeclare src i) s = .next t ∧ t.agent i = { state := .dead, byTimeout := false } ∧
      (∀ j, j ≠ i → t.agent j = s.agent j) ∧ (∀ v ∈ t.coh.invs, v.index ≠ i) ∧ t.fld F.COH_EVENT_AGENT_DEAD = 1) ∧
  (∀ (s : State) (i g : Nat) (e : SfEntry), (s.agent i).state = .dead → s.coh.sf.cells = [(g, e)] → e.coarse = false → i ∈ e.holders →
    s.Alone →
    ∃ t, exec (.reclaimEnd i) s = .next t ∧ (t.agent i).state = .reclaimed ∧ (∀ j, j ≠ i → t.agent j = s.agent j) ∧
      t.fld F.COH_EVENT_RECLAIM_DONE = 1 ∧ t.store.mem = s.store.mem ∧
      (e.owned = true → t.sfEntry g = none ∧ (t.gran g).poison = some .reclaim ∧ (t.gran g).wgen = ((s.gran g).wgen + 1) % 2 ^ 48) ∧
      (e.owned = false → t.store = s.store ∧ t.sfEntry g = (if (e.holders.filter fun j => j != i) = [] then none
        else some { e with holders := e.holders.filter fun j => j != i }))) ∧
  (∀ (s : State) (i : Nat), (s.agent i).state ≠ .dead → exec (.reclaimEnd i) s = .next s) ∧
  (∀ (s : State) (src i : Nat), s.mayAdminister src = true →
    ∃ t, exec (.cohAgentRevive src i) s = .next t ∧ Frame [.coh] s t ∧
      (t.agent i).state = (if (s.agent i).state = .reclaimed then .live else (s.agent i).state) ∧ ∀ j, j ≠ i → t.agent j = s.agent j) ∧
  (∀ (s : State) (src g : Nat) (x : Option SfEntry), src < 128 → src % 64 = 0 →
    g = (s.fld F.COH_PROBE_ADDR_LO_ADDR * 128 + 2 ^ 32 * s.fld F.COH_PROBE_ADDR_HI_ADDR) / 128 → x = s.sfEntry g →
    ∃ t, exec (.cohProbe src) s = .next t ∧ Frame [.regs] s t ∧ t.fld F.COH_PROBE_RESULT_DONE = 1 ∧
      (x = none → t.fld F.COH_PROBE_RESULT_STATE = 0 ∧ t.fld F.COH_PROBE_HOLDERS0 = 0 ∧ t.fld F.COH_PROBE_HOLDERS1 = 0) ∧
      (∀ e, x = some e → t.fld F.COH_PROBE_RESULT_STATE = (if s.busy g then 3 else if e.owned then 2 else 1) ∧
        t.fld F.COH_PROBE_RESULT_COARSE = b2n e.coarse ∧ t.fld F.COH_PROBE_RESULT_POINTERS = e.holders.length % 8 ∧
        t.fld F.COH_PROBE_RESULT_WAY = e.way % 16 ∧
        (e.coarse = true → t.fld F.COH_PROBE_HOLDERS0 = e.vector % 2 ^ 32 ∧ t.fld F.COH_PROBE_HOLDERS1 = e.vector / 2 ^ 32 % 2 ^ 32) ∧
        (∀ a b, e.coarse = false → e.holders = [a, b] → a < 512 → b < 512 → t.fld F.COH_PROBE_HOLDERS0 = a + 2 ^ 16 * b)))

/-- R366 to R371, R382, R405, R408: a port trains from DETECT to ACTIVE, retrains and fails as R368 says; its control registers act on
the selected port. -/
def Obligations.HxlTraining : Prop :=
  (∀ (s : State) (p pol : Nat) (rev : Bool), (s.port p).state = .detect →
    ∃ t, exec (.detectComplete p rev pol) s = .next t ∧ Frame [.hxl] s t ∧ (∀ q, q ≠ p → t.port q = s.port q) ∧
      t.port p = { s.port p with state := .equalize, lanesReversed := rev, polarity := pol % 16 }) ∧
  (∀ (s : State) (p code : Nat) (c : Instr), (c, code, (s.port p).state) ∈
      [(Instr.detectTimeout p, 1, PortState.detect), (.equalizeTimeout p false, 2, .equalize), (.lockTimeout p, 3, .lock)] →
    ∃ t, exec c s = .next t ∧
      ((s.port p).attempts + 1 < 3 → Frame [.hxl] s t ∧ t.port p = { s.port p with state := .detect, attempts := (s.port p).attempts + 1, failCode := code }) ∧
      (3 ≤ (s.port p).attempts + 1 → (t.port p).state = .failed ∧ (t.port p).failCode = code ∧ t.fld F.HXL_EVENT_PORT_DOWN = 1)) ∧
  (∀ (s : State) (p : Nat) (c : Instr), c = .equalizeComplete p ∨ c = .equalizeTimeout p true → (s.port p).state = .equalize →
    ∃ t, exec c s = .next t ∧ Frame [.hxl] s t ∧ t.port p = { s.port p with state := .lock }) ∧
  (∀ (s : State) (p : Nat), ∃ t, exec (.blockLockAcquired p) s = .next t ∧ Frame [.hxl] s t ∧
    ((s.port p).state = .lock → t.port p = { s.port p with state := .param, paramOk := false, echoSent := 0, echoCount := 0, echoSum := 0 }) ∧
    ((s.port p).state = .retrain → t.port p = { s.port p with relocked := true, echoSent := 0, echoCount := 0, echoSum := 0 })) ∧
  (∀ (s : State) (p : Nat) (m : List Byte), (s.port p).state = .param → (s.port p).paramOk = false →
    ∃ t, exec (.param p m) s = .next t ∧
      (s.paramFails p m = 0 → Frame [.hxl, .cmdq] s t ∧ t.hxl.inbox = s.hxl.inbox.erase (p, m) ∧
        t.port p = { s.port p with paramOk := true, partnerKind := paKind m, partnerId := paId m, encOn := (s.port p).act.encReq || paEncReq m, credAdvert := paCredits m, credAvail := paCredits m } ∧
        ((s.port p).act.kind = 1 → t.source (128 + p) =
          { s.source (128 + p) with credits := (s.source (128 + p)).limit, creditsDue := 0, grants := [] })) ∧
      (s.paramFails p m ≠ 0 → (t.port p).state = .failed ∧ (t.port p).failCode = s.paramFails p m ∧ t.fld F.HXL_EVENT_PORT_DOWN = 1)) ∧
  (∀ (s : State) (p now hold d : Nat) (m : List Byte), (s.port p).state = .param ∨ (s.port p).state = .retrain →
    d = ((now + 2 ^ 32 - fieldAt m 8 4 % 2 ^ 32) % 2 ^ 32 + 2 ^ 32 - fieldAt m 12 4) % 2 ^ 32 / 2 →
    ∃ t, exec (.echo p m now hold) s = .next t ∧ Frame [.hxl, .out] s t ∧ t.hxl.inbox = s.hxl.inbox.erase (p, m) ∧
      ((fieldAt m 1 1).testBit 0 = false → ∃ h, t.out = s.out ++ [.flit p h (toLe 1 0x15 ++ toLe 1 1 ++ sub m 2 2 ++ toLe 4 0 ++ sub m 8 4 ++ toLe 4 hold) true]) ∧
      ((fieldAt m 1 1).testBit 0 = true → (s.port p).echoCount < 64 → t.out = s.out ∧
        t.port p = { s.port p with echoCount := (s.port p).echoCount + 1, echoSum := (s.port p).echoSum + d })) ∧
  (∀ (s : State) (p : Nat) (x : Port), x = s.port p → x.state = .param → x.paramOk = true → 64 ≤ x.echoCount →
    (x.encOn = true → x.keysIn = true) → (x.act.kind = 0 ∨ x.act.kind = 2 ∨ x.encOn = true → x.session = true) →
    ∃ t, exec (.portActivate p) s = .next t ∧ t.port p = { x with state := .active, attempts := 0, delay := (x.echoSum + 32) / 64 } ∧
      t.fld F.HXL_EVENT_PORT_UP = 1) ∧
  (∀ (s : State) (p : Nat) (x : Port), x = s.port p → x.state = .retrain → x.relocked = true → 64 ≤ x.echoCount →
    ∃ t, exec (.retrainComplete p) s = .next t ∧
      t.port p = { x with state := .active, attempts := 0, delay := (x.echoSum + 32) / 64, replayQ := x.kept }) ∧
  (∀ (s : State) (p : Nat), (s.port p).state = .retrain →
    ∃ t, exec (.retrainTimeout p) s = .next t ∧ (t.port p).state = .failed ∧ (t.port p).failCode = 6 ∧ t.fld F.HXL_EVENT_PORT_DOWN = 1) ∧
  (∀ (s : State) (p src : Nat) (c : Instr), c = .blockLockLost p ∨ (c = .ackTimeout p ∧ (s.port p).kept ≠ []) ∨
      (c = .hxlPortRetrain src ∧ src < 128 ∧ src % 64 = 0 ∧ p = s.fld F.HXL_PORT_SEL_PORT) → (s.port p).state = .active →
    ∃ t, exec c s = .next t ∧ (t.port p).state = .retrain ∧ (t.port p).retrains = satInc 16 (s.port p).retrains ∧
      (t.port p).kept = (s.port p).kept ∧ (t.port p).credAvail = (s.port p).credAvail ∧ t.fld F.HXL_EVENT_RETRAIN = 1) ∧
  (∀ (s : State) (p : Nat), p < 16 → (s.port p).wantsSession = true →
    ∃ t, exec (.spdmSessionTimeout p) s = .next t ∧ (t.port p).state = .failed ∧ (t.port p).failCode = 5 ∧
      (∀ x ∈ t.mgt.sessions, x.endpoint ≠ 16 + p) ∧ t.fld F.SEC_EVENT_SESSION_FAIL = 1) ∧
  (∀ (s : State) (src p : Nat) (v : Word) (cfg : PortCfg), s.mayAdminister src = true → p = s.fld F.HXL_PORT_SEL_PORT →
    cfg = { en := bit v 0, kind := bf v 2 1, nodeForm := bit v 3, encReq := bit v 4 } →
    ∃ t, exec (.hxlPortCfgWrite src v) s = .next t ∧ (t.port p).cfg = cfg ∧ (∀ q, q ≠ p → t.port q = s.port q) ∧
      (cfg.en = false → (t.port p).state = .disabled) ∧
      (cfg.en = true → (s.port p).state ≠ .disabled → t.port p = { s.port p with cfg := cfg }) ∧
      (cfg.en = true → (s.port p).state = .disabled → s.running = true → (t.port p).state = .detect ∧ (t.port p).attempts = 0 ∧
        (t.port p).act = { cfg with encReq := cfg.encReq || s.sys.lc == .sealed })) ∧
  (∀ (s : State) (src p : Nat), src < 128 → src % 64 = 0 → p = s.fld F.HXL_PORT_SEL_PORT → (s.port p).state ≠ .disabled →
    ∃ t, exec (.hxlPortReset src) s = .next t ∧ (t.port p).state = .detect ∧ (t.port p).attempts = 0 ∧ (t.port p).kept = [] ∧
      (t.port p).act = { (s.port p).cfg with encReq := (s.port p).cfg.encReq || s.sys.lc == .sealed })

/-- R377 to R382, R386, R391, R399, R402, R407, R408: what a flit delivers and acknowledges, what a port and a route do with messages, and
the control messages of an endpoint. -/
def Obligations.HxlTraffic : Prop :=
  (∀ (s : State) (p fc fu hdr : Nat) (pay : List Byte) (x : Port), x = s.port p → x.state = .active → hdr % 4 = 1 →
    hdr.testBit 27 = false → hdr.testBit 26 = false →
    ∃ t, exec (.flitReceive p fc fu true true true hdr pay) s = .next t ∧ Frame [.hxl] s t ∧
      (t.port p).kept = x.kept.filter (fun k => !(decide ((nbf hdr 25 14 + 4096 - k.seq) % 4096 < 1024))) ∧
      (t.port p).fecCorr = min (2 ^ 32 - 1) (x.fecCorr + fc) ∧
      (nbf hdr 13 2 = x.rxSeq → (t.port p).rxSeq = (x.rxSeq + 1) % 4096 ∧ (t.port p).nak = false ∧ t.hxl.inbox = s.hxl.inbox ++
        ((parsePayload 40 (if hdr.testBit 29 then x.part ++ pay else pay)).1.map fun m => (p, m))) ∧
      (nbf hdr 13 2 ≠ x.rxSeq → (t.port p).rxSeq = x.rxSeq ∧ (t.port p).nak = true ∧ t.hxl.inbox = s.hxl.inbox)) ∧
  (∀ (s : State) (p fc fu hdr : Nat) (fec crc tag : Bool) (pay : List Byte), (s.port p).state = .active → fec = false ∨ crc = false →
    ∃ t, exec (.flitReceive p fc fu fec crc tag hdr pay) s = .next t ∧ Frame [.hxl] s t ∧ (t.port p).nak = true ∧
      (t.port p).rxSeq = (s.port p).rxSeq ∧ (t.port p).kept = (s.port p).kept ∧ t.hxl.inbox = s.hxl.inbox ∧
      (crc = false → (t.port p).crc = satInc 32 (s.port p).crc)) ∧
  (∀ (s : State) (p fc fu hdr : Nat) (pay : List Byte) (x : Port), x = s.port p → x.state = .active → hdr % 4 = 0 →
    hdr.testBit 27 = false → hdr.testBit 26 = true → (∀ k ∈ x.kept, 1024 ≤ (nbf hdr 25 14 + 4096 - k.seq) % 4096) →
    ∃ t, exec (.flitReceive p fc fu true true true hdr pay) s = .next t ∧ t.hxl.inbox = s.hxl.inbox ∧ (t.port p).kept = x.kept ∧
      (x.naks < 7 → (t.port p).naks = x.naks + 1 ∧ (t.port p).replayQ = x.kept ∧ (t.port p).state = .active) ∧
      (7 ≤ x.naks → (t.port p).state = .retrain ∧ t.fld F.HXL_EVENT_RETRAIN = 1)) ∧
  (∀ (s : State) (p : Nat), (s.port p).state = .active → (s.port p).nak = true →
    ∃ t h, exec (.nakRepeat p) s = .next t ∧ t.out = s.out ++ [.flit p h [] true] ∧ h % 4 = 0 ∧ h / 2 ^ 26 % 2 = 1 ∧ Frame [.hxl, .out] s t) ∧
  (∀ (s : State) (p : Nat), (s.port p).encOn = true → (s.port p).nextKeyIn = true →
    ∃ t, exec (.rekey p) s = .next t ∧ Frame [.hxl] s t ∧ t.port p = { s.port p with keyPhase := !(s.port p).keyPhase, phaseFlits := 0 }) ∧
  (∀ (s : State) (id : Nat) (w : WaitingMsg), s.hxl.waiting.find? (fun w => w.id = id && !w.drain) = some w →
    w.dst < 64 → s.memberState w.dst ≠ .fenced →
    ∃ t, exec (.noRouteExpiry id) s = .next t ∧ t.fld F.HXL_EVENT_NO_ROUTE = 1 ∧
      t.fld F.HXL_NO_ROUTE = min (s.fld F.HXL_NO_ROUTE + 1) (2 ^ (F.HXL_NO_ROUTE.hi + 1 - F.HXL_NO_ROUTE.lo) - 1) ∧
      (isRequest w.msg = false → t.hxl = { s.hxl with waiting := s.hxl.waiting.filter fun v => v.id != id }) ∧
      (∀ src p, isRequest w.msg = true → src = nbf (fieldAt w.msg 4 2) 14 0 → src < 64 → src ≠ s.sys.member → s.memberState src ≠ .fenced →
        s.pickPort (s.route src).ports s.sys.member src (fieldAt w.msg 2 2) = some p →
        t.hxl.outbox = s.hxl.outbox ++ [{ port := p, dst := src, msg := respMsg 0x0B (nbf (fieldAt w.msg 1 1) 3 0) (fieldAt w.msg 2 2) src St.fenced 0xC6 (fieldAt w.msg 8 7) s.sys.member [] }])) ∧
  (∀ (s : State) (m : Nat), (s.route m).draining = true → s.hxl.owed.getD m 0 = 0 →
    ∃ t, exec (.routeDrainEnd m) s = .next t ∧ t.route m = { s.route m with draining := false } ∧
      (∀ w ∈ t.hxl.waiting, ¬(w.drain = true ∧ w.dst = m)) ∧ t.fld F.HXL_EVENT_ROUTE_DRAIN = 1) ∧
  (∀ (s : State) (src m : Nat) (v : Word), s.mayAdminister src = true → m = s.fld F.HXL_ROUTE_SEL_MEMBER →
    ∃ t, exec (.hxlRouteWrite src v) s = .next t ∧ Frame [.hxl, .out] s t ∧ (∀ n, n ≠ m → t.route n = s.route n) ∧
      (t.route m).ports = bf v 15 0 ∧ (t.route m).dist = bf v 18 16 ∧
      (s.hxl.owed.getD m 0 = 0 → (t.route m).draining = (s.route m).draining)) ∧
  (∀ (s : State) (p id : Nat) (m : List Byte) (e : Entry), s.ctrlOk p m 1 = true → (∀ c ∈ s.cmdq.entries.cells, c.2.src = 128 + p → c.2.phase ≠ .fetched) →
    (ctWord m).testBit 11 = false → s.abortable (128 + p) 0 (some (ctWord m / 65536)) = [id] → s.entry? id = some e → e.accepted = true →
    e.stop = none → e.phase ≠ .ended → e.items = [] → s.NoCoreFor id →
    ∃ t, exec (.ctrlAbort p m) s = .next t ∧ t.hxl.inbox = s.hxl.inbox.erase (p, m) ∧
      (t.entry? id).map (fun y => (y.phase, y.out.status, y.out.subcode)) = some (.ended, St.aborted, 1)) ∧
  (∀ (s : State) (p : Nat) (m : List Byte), s.ctrlOk p m 1 = true → (∀ c ∈ s.cmdq.entries.cells, c.2.src = 128 + p → c.2.phase ≠ .fetched) →
    (ctWord m).testBit 11 = false → s.abortable (128 + p) 0 (some (ctWord m / 65536)) = [] →
    ∃ t, exec (.ctrlAbort p m) s = .next t ∧ t.cmdq.entries = s.cmdq.entries ∧ (t.port p).abortMiss = satInc 16 (s.port p).abortMiss ∧
      t.fld F.HXL_EVENT_CMD_MISS = 1) ∧
  (∀ (s : State) (p : Nat) (m : List Byte), s.ctrlOk p m 2 = true → ctTwo m = false →
    ∃ t, exec (.ctrlRelease p m) s = .next t ∧ t.hxl.inbox = s.hxl.inbox.erase (p, m) ∧
      (t.source (128 + p)).slots = (s.source (128 + p)).slots.filter (fun x => slotHandle x != ctWord m) ∧
      ((∃ x ∈ (s.source (128 + p)).slots, slotHandle x = ctWord m) → Frame [.cmdq, .hxl] s t) ∧
      ((∀ x ∈ (s.source (128 + p)).slots, slotHandle x ≠ ctWord m) →
        (t.port p).releaseStale = satInc 16 (s.port p).releaseStale ∧ t.fld F.HXL_EVENT_CMD_MISS = 1)) ∧
  (∀ (s : State) (p n : Nat) (rest : List Nat), (s.source (128 + p)).grants = n :: rest →
    ∃ t, exec (.ctrlGrant p) s = .next t ∧ OnlySource (128 + p) s t ∧
      t.source (128 + p) = { s.source (128 + p) with credits := (s.source (128 + p)).credits + n, grants := rest })

/-- R470, R480, R481, R483 to R487, R490 to R493: what checkers, corrected-error storms, the Groomer, flash dies and buses report, and the
registers of the ERR window that act. -/
def Obligations.ErrorCollection : Prop :=
  (∀ (s : State) (chk : Nat) (a b : Bool), chk < 3072 → s.chkMasked chk = false →
    ∃ t, exec (.checkerError chk a b) s = .next t ∧ (t.checker chk).railT = a ∧ (t.checker chk).railC = b ∧
      (a = false → b = true → t = s.setChecker chk { s.checker chk with railT := false, railC := true }) ∧
      (a = b ∨ a = true → (t.checker chk).count = satInc 16 (s.checker chk).count) ∧ (a = b → t.fld F.ERR_EVENT_WIRE = 1)) ∧
  (∀ (s : State) (chk : Nat) (a b : Bool), 3072 ≤ chk ∨ s.chkMasked chk = true → exec (.checkerError chk a b) s = .next s) ∧
  (∀ (s : State) (key : Nat) (w : CeWindow) (e : ErrInfo), s.err.windows.find? key = some w → w.last = some e → w.stormed = false →
    w.window = s.frame / s.ceFrames → s.ceThresh < w.count → e.source ≠ 4 →
    ∃ t, exec (.ceStorm key) s = .next t ∧ t.fld F.ERR_EVENT_CE_STORM = 1 ∧ t.err.windows = s.err.windows.set key { w with stormed := true } ∧
      (s.fld F.ERR_STATUS_FROZEN = 0 → t.err.sitz = (sitzEntry s.frame s.err.sitzSeq (s.fld F.CLK_RESET_COUNT_COUNT) { e with storm := true } :: s.err.sitz).take 64) ∧
      (e.source = 2 → (t.unitRec e.unitKind e.unitIndex).suspect = true) ∧ Frame [.err, .regs, .out, .msix] s t) ∧
  (∀ (s : State) (key : Nat), (∀ w, s.err.windows.find? key = some w → w.stormed = true ∨ w.window ≠ s.frame / s.ceFrames ∨ w.count ≤ s.ceThresh) →
    exec (.ceStorm key) s = .next s) ∧
  (∀ (s : State) (tier g n : Nat) (last : Bool), s.sys.bracing = false → s.sys.power = .run → s.fld F.ERR_GROOM_CFG_PAUSE = 0 →
    s.fld F.ERR_GROOM_CFG_COMPARE = 0 → (∀ m ∈ s.store.moves, m.page ≠ g / 32) → (s.gran g).poison = none → (s.gran g).damaged = false →
    ∃ t, exec (.groomerRead tier g n last) s = .next t ∧ t.err.groomAt = s.err.groomAt.set (tier % 3) (if last then 0 else g + 1) ∧
      (n ≤ 1 → t.store.mem = s.store.mem) ∧
      (n = 0 → (s.gran g).corrupt = false → t.store = s.store ∧ t.fld F.ERR_COUNT_CE = s.fld F.ERR_COUNT_CE) ∧
      (n ≤ 1 → n = 1 ∨ (s.gran g).corrupt = true → t.gran g = { s.gran g with corrupt := false, injected := false } ∧
        t.fld F.ERR_COUNT_CE = min (s.fld F.ERR_COUNT_CE + 1) (2 ^ 32 - 1) ∧ t.fld F.ERR_GROOM_REPAIRS = min (s.fld F.ERR_GROOM_REPAIRS + 1) (2 ^ 32 - 1)) ∧
      (n = 2 → (s.slab (g * 128)).copyMode = false → s.striped (g / 32) = false → s.mirrored (g / 32) = false → (s.slab (g * 128)).home ≠ .flash →
        (t.gran g).poison = some .uncorrectable ∧ t.fld F.ERR_EVENT_CONTAINED = 1) ∧
      (last = true → t.fld F.ERR_EVENT_GROOM_PASS = 1 ∧ t.fld (groomPasses tier) = (s.fld (groomPasses tier) + 1) % 2 ^ ((groomPasses tier).hi + 1 - (groomPasses tier).lo))) ∧
  (∀ (s : State) (tier g n : Nat) (last : Bool), s.sys.bracing = true ∨ s.sys.power ≠ .run ∨ s.fld F.ERR_GROOM_CFG_PAUSE = 1 →
    exec (.groomerRead tier g n last) s = .next s) ∧
  (∀ (s : State) (src : Nat), src < 128 → src % 64 = 0 →
    (∃ t, exec (.errSitzUnfreeze src) s = .next t ∧ Frame [.regs] s t ∧
      (s.sitzLocked = false → t.fld F.ERR_STATUS_FROZEN = 0 ∧ t.fld F.ERR_SITZ_STATUS_FROZEN = 0 ∧ t.fld F.ERR_STATUS_FATAL = 0) ∧
      (s.sitzLocked = true → t = s)) ∧
    (∃ t, exec (.errSitzClear src) s = .next t ∧ Frame [.regs, .err] s t ∧
      (s.sitzLocked = false → t.err = { s.err with sitz := [] } ∧ t.fld F.ERR_SITZ_STATUS_VALID = 0 ∧ t.fld F.ERR_SITZ_STATUS_LOST = 0) ∧
      (s.sitzLocked = true → t = s)) ∧
    exec (.errFirstClear src) s = .next { s with err := { s.err with first := none } } ∧
    ∃ t, exec (.errUnitOnline src) s = .next t ∧ Frame [.err] s t ∧
      (∀ k i, k = s.fld F.ERR_UNIT_SEL_KIND → i = s.fld F.ERR_UNIT_SEL_INDEX →
        (k = 0 ∨ k = 6 → s.unitPending k i = false → t = s.setUnit k i { s.unitRec k i with offline := false }) ∧
        ((k ≠ 0 ∧ k ≠ 6) ∨ s.unitPending k i = true → t = s))) ∧
  (∀ (s : State) (src : Nat), src < 128 → src % 64 = 0 → s.injRefused = true →
    ∃ t, exec (.errInjFire src) s = .next t ∧ Frame [.regs, .out, .msix] s t ∧ t.fld F.ERR_INJ_STATUS_DONE = 1 ∧
      t.fld F.ERR_INJ_STATUS_REFUSED = 1 ∧ t.fld F.ERR_EVENT_INJ_DONE = 1) ∧
  (∀ (s : State) (src a : Nat), src < 128 → src % 64 = 0 → s.injRefused = false →
    a = s.fld F.ERR_INJ_ADDR_LO_ADDR + 2 ^ 32 * s.fld F.ERR_INJ_ADDR_HI_ADDR →
    ∃ t, exec (.errInjFire src) s = .next t ∧ (s.fld F.ERR_INJ_CFG_TARGET < 6 → t.store.mem = s.store.mem) ∧
      (s.fld F.ERR_INJ_CFG_TARGET = 5 → t.fld F.ERR_INJ_STATUS_DONE = 0 ∧ t.err.injection = some { target := 5, side := s.fld F.ERR_INJ_CFG_SIDE % 3, pattern := s.fld F.ERR_INJ_CFG_PATTERN % 3, addr := a, mask := s.fld F.ERR_INJ_MASK_MASK }) ∧
      (s.fld F.ERR_INJ_CFG_TARGET = 0 → s.isHome a = true → s.fld F.ERR_INJ_CFG_SIDE = 0 → t.fld F.ERR_INJ_STATUS_DONE = 1 ∧ t.fld F.ERR_INJ_STATUS_REFUSED = 0 ∧
        (s.fld F.ERR_INJ_CFG_PATTERN = 0 → t.gran (a / 128) = { s.gran (a / 128) with corrupt := true, injected := true }) ∧
        (s.fld F.ERR_INJ_CFG_PATTERN = 1 → t.gran (a / 128) = { s.gran (a / 128) with damaged := true, injected := true })) ∧
      (s.fld F.ERR_INJ_CFG_TARGET < 3 → s.isHome a = false → t.store = s.store ∧ t.fld F.ERR_INJ_STATUS_DONE = 1 ∧ t.fld F.ERR_INJ_STATUS_REFUSED = 1)) ∧
  (∀ (s : State) (die op : Nat) (u : UnitRec), (s.unitRec 4 die).retired = false →
    u = (if op = 0 then { s.unitRec 4 die with sectorFails := (s.unitRec 4 die).sectorFails + 1 } else { s.unitRec 4 die with failures := (s.unitRec 4 die).failures + 1 }) →
    exec (.flashDieReady die op true) s = .next s ∧ ∃ t, exec (.flashDieReady die op false) s = .next t ∧
      (u.failures < 3 → u.sectorFails < 3 → t = s.setUnit 4 die u) ∧
      (3 ≤ u.failures ∨ 3 ≤ u.sectorFails → (t.unitRec 4 die).retired = true ∧ (t.unitRec 4 die).offline = true ∧ (t.unitRec 4 die).cause = 0x32 ∧
        t.fld F.ERR_EVENT_UNIT_OFFLINE = 1 ∧ t.fld F.ERR_COUNT_UNIT = min (s.fld F.ERR_COUNT_UNIT + 1) (2 ^ (F.ERR_COUNT_UNIT.hi + 1 - F.ERR_COUNT_UNIT.lo) - 1))) ∧
  (∀ (s : State) (kind ch n : Nat) (bad : Bool), kind = 1 ∨ kind = 2 →
    ∃ t, exec (.busParityError kind ch n bad) s = .next t ∧
      (s.err.busRetrained.getD (256 * kind + ch) false = false → n < 3 →
        t.fld F.ERR_COUNT_CE = min (s.fld F.ERR_COUNT_CE + 1) (2 ^ 32 - 1) ∧ t.store = s.store) ∧
      (s.err.busRetrained.getD (256 * kind + ch) false = false → 3 ≤ n → t.err.busRetrained.getD (256 * kind + ch) false = true ∧
        (t.training (kind - 1) (if kind = 1 then ch / 2 else ch)).pending = true ∧ Frame [.err, .store] s t) ∧
      (s.err.busRetrained.getD (256 * kind + ch) false = true → bad = true → t.sys.errFatal = true ∧ t.rack.selfFenced = true ∧
        t.fld F.ERR_STATUS_FATAL = 1 ∧ t.fld F.ERR_STATUS_FROZEN = 1))

/-- R497 to R505, R510, R518, R519: heartbeats, suspicion, the agreement on a change of the map, and the change at its frame. -/
def Obligations.RackAgreement : Prop :=
  (∀ (s : State) (p : Nat) (m : List Byte) (c : Instr), c ∈ [.heartbeat p m, .propose p m, .accept p m, .commit p m, .consFatal p m, .consBrace p m] →
    (s.takeCons p m).2 = false → csSrc m ≠ s.sys.member →
    ∃ t, exec c s = .next t ∧ t.rack = s.rack ∧ (t.port p).msgBad = satInc 32 (s.port p).msgBad ∧ t.fld F.HXL_EVENT_MSG_BAD = 1) ∧
  (∀ (s : State) (p x : Nat) (m : List Byte) (bad : Bool), (s.takeCons p m).2 = true → x = csSrc m →
    bad = (csEpoch m = s.rack.map.epoch && csMapsum m != s.rack.map.mapsum && s.voting.contains x) →
    ∃ t, exec (.heartbeat p m) s = .next t ∧ (s.rack.forming = none → t.rack.map = s.rack.map) ∧
      t.peer x = { s.peer x with silent := false, mapMismatch := bad, bracing := false, mask := csMask m, epoch := csEpoch m, mapsum := csMapsum m, frame := csFrame m, resetSince := (s.peer x).resetSince || (s.memberState x == .fenced && csMapsum m != (s.peer x).mapsum) } ∧
      (bad = true → x ∈ t.rack.suspects) ∧ (bad = false → (s.peer x).fatal = false → x ∉ t.rack.suspects) ∧
      (∀ f, s.rack.forming = some f → csEpoch m = s.rack.map.epoch → csMapsum m = s.rack.map.mapsum → (s.entry? f.entry).isSome = true →
        (∀ y < 64, s.memberState y = .active → y ≠ s.sys.member → y ∈ f.heard ∨ y = x) → t.rack.forming = none ∧
        (t.entry? f.entry).map (fun y => (y.phase, y.out.result0)) = some (.ended, s.rack.map.mapsum))) ∧
  (∀ (s : State), ∃ t, exec .heartbeatSend s = .next t ∧ Frame [.hxl, .out] s t ∧
    ∀ m p, s.others = [m] → s.joiner = false → s.sys.bracing = false → s.pickPort (s.route m).ports s.sys.member m 0 = some p →
      t.hxl.outbox = s.hxl.outbox ++ [{ port := p, dst := m, msg := consMsg 0 s.sys.member 0 0 s.rack.map.epoch (maskOf s.rack.suspects) 0 s.frame 0 s.rack.map.mapsum }]) ∧
  (∀ (s : State) (m : Nat), m ≠ s.sys.member → s.voting.contains m = true →
    ∃ t, exec (.suspicionTimeout m) s = .next t ∧ m ∈ t.rack.suspects ∧ t.peer m = { s.peer m with silent := true, mask := 0 } ∧ t.rack.map = s.rack.map) ∧
  (∀ (s : State) (p : Nat) (m : List Byte), (s.takeCons p m).2 = true →
    (∃ t, exec (.consFatal p m) s = .next t ∧ (t.peer (csSrc m)).fatal = true ∧ (s.voting.contains (csSrc m) = true → csSrc m ∈ t.rack.suspects)) ∧
    ∃ t, exec (.consBrace p m) s = .next t ∧ (t.peer (csSrc m)).bracing = true ∧ (t.peer (csSrc m)).mask = csMask m ∧ t.rack.map = s.rack.map) ∧
  (∀ (s : State) (p : Nat) (m : List Byte) (x : Proposal), (s.takeCons p m).2 = true → x = csProposal m → s.sys.bracing = false →
    s.fenced = false → s.votes = true → x.epoch = s.rack.map.epoch + 1 → x.change ≠ .fence ∨ (∀ k ∈ s.voting, x.mask.testBit k = true → k ∈ s.rack.suspects ∧ k ≠ csSrc m) →
    ∃ t, exec (.propose p m) s = .next t ∧ t.rack.map = s.rack.map ∧
      ((∀ a, s.rack.accepted = some a → a.epoch = x.epoch → a.ballot ≤ x.ballot) → t.rack.accepted = some x ∧ t.rack.acceptFrame = s.frame ∧
        ∀ q, s.pickPort (s.route (csSrc m)).ports s.sys.member (csSrc m) 0 = some q →
          { port := q, dst := csSrc m, msg := consMsg 2 s.sys.member x.change.code x.subject x.epoch x.mask x.ballot s.frame x.slot s.rack.map.mapsum } ∈ t.hxl.outbox) ∧
      ((∃ a, s.rack.accepted = some a ∧ a.epoch = x.epoch ∧ x.ballot < a.ballot) → t.rack.accepted = s.rack.accepted)) ∧
  (∀ (s : State) (p : Nat) (m : List Byte) (x : Proposal) (set : List Nat), (s.takeCons p m).2 = true → s.rack.proposed = some x →
    csEpoch m = x.epoch → csBallot m = x.ballot → set = (addNew s.rack.accepts (csSrc m)).filter (fun k => !x.mask.testBit k) →
    ∃ t, exec (.accept p m) s = .next t ∧ t.rack.accepts = addNew s.rack.accepts (csSrc m) ∧ t.rack.map = s.rack.map ∧
      (s.quorum set = true → s.rack.commit = none → t.rack.commit = some (x, s.frame + 4) ∧
        ∀ k q, k ∈ s.others → s.pickPort (s.route k).ports s.sys.member k 0 = some q →
          { port := q, dst := k, msg := consMsg 3 s.sys.member x.change.code x.subject x.epoch x.mask x.ballot (s.frame + 4) x.slot s.rack.map.mapsum } ∈ t.hxl.outbox) ∧
      (s.quorum set = false → t.rack.commit = s.rack.commit)) ∧
  (∀ (s : State) (p : Nat) (m : List Byte) (x : Proposal), (s.takeCons p m).2 = true → x = csProposal m → x.epoch = s.rack.map.epoch + 1 →
    s.frame < csFrame m →
    ∃ t, exec (.commit p m) s = .next t ∧ t.rack.commit = some (x, csFrame m) ∧ (s.rack.forming = none → t.rack.map = s.rack.map) ∧
      (x.change = .fence ∨ x.change = .manualFence → x.mask.testBit s.sys.member = true → t.rack.selfFenced = true)) ∧
  (∀ (s : State) (x : Proposal) (f : Nat), s.rack.commit = some (x, f) → s.frame < f → exec .mapChangeApply s = .next s) ∧
  (∀ (s : State) (x : Proposal) (f : Nat), s.rack.commit = some (x, f) → f ≤ s.frame → s.rack.held = [] → s.rack.forming = none →
    ∃ t, exec .mapChangeApply s = .next t ∧ t.rack.map.epoch = s.rack.map.epoch + 1 ∧ t.rack.commit = none ∧
      (x.change = .fence ∨ x.change = .manualFence →
        (∀ k < 64, x.mask.testBit k = true → t.memberState k = .fenced) ∧
        ∀ i < s.width, s.serverOf i < 64 → t.serverOf i = if x.mask.testBit (s.serverOf i) then (s.successor i x.mask).getD (s.serverOf i) else s.serverOf i) ∧
      (x.change = .assign → s.memberState x.subject = .active ∨ s.memberState x.subject = .spare → x.subject < 64 → x.slot < s.width →
        t.serverOf x.slot = x.subject ∧ t.memberState x.subject = .active ∧ ∀ i < s.width, i ≠ x.slot → t.serverOf i = s.serverOf i) ∧
      (x.change = .admission → x.subject < 64 → (∀ i < s.width, s.serverOf i ≠ x.subject) → t.memberState x.subject = .spare ∧
        ∀ i < s.width, t.serverOf i = s.serverOf i)) ∧
  (∀ (s : State) (x : Proposal), s.rack.accepted = some x → s.rack.commit = none → s.rack.acceptFrame + 64 ≤ s.frame → s.sys.bracing = false →
    s.fenced = false →
    ∃ t y, exec .coordinatorTakeover s = .next t ∧ t.rack.proposed = some y ∧ t.rack.accepted = some y ∧ t.rack.map = s.rack.map ∧
      y = { x with epoch := s.rack.map.epoch + 1, ballot := ((s.rack.ballotSeen / 64 + 1) * 64 + s.sys.member) % 2 ^ 32 }) ∧
  (∀ (s : State), s.votes = true →
    (s.quorum (s.voting.filter fun m => m = s.sys.member || !(s.peer m).silent) = true → exec .quorumLoss s = .next s) ∧
    (s.quorum (s.voting.filter fun m => m = s.sys.member || !(s.peer m).silent) = false →
      ∃ t, exec .quorumLoss s = .next t ∧ t.rack.selfFenced = true ∧ (s.rack.selfFenced = false → t.sys.errFatal = true))) ∧
  (∀ (s : State) (o i f : Nat) (w : WorkItem), s.rack.held.find? (fun h => h.1.origin = o && h.1.id = i) = some (w, f) →
    32768 ≤ s.epochAge w.epoch → f + 64 ≤ s.frame → s.noneAway w.waiter = true →
    ∃ t, exec (.epochHoldExpiry o i) s = .next t ∧ Frame [.rack, .out] s t ∧ t.out = s.out ++ [.workAnswer o i St.remap 0xB2 []] ∧
      t.rack.held = s.rack.held.filter fun h => !(h.1.origin = o && h.1.id = i))

/-- R508, R516 to R519, R525 to R528: the MAP opcodes at the coordinator, and the copies and rebuilds that follow a change. -/
def Obligations.MapCommands : Prop :=
  (∀ (s : State) (id : Nat) (e : Entry), s.runnable id 0xC0 = some e →
    ∃ t, exec (.mapQuery id) s = .next t ∧ OnlyEntry id s t ∧ (e.slot.isSome = true → (t.entry? id).map (·.pend) = some (s.rack.map.image s.rack.map.mapsum true)) ∧
      (t.entry? id).map (fun y => (y.phase, y.out.result0, y.out.countDone, y.out.countAux)) =
        some (.ended, s.rack.map.epoch, s.voting.length, (s.rack.map.exposed.filter fun b => b).length)) ∧
  (∀ (s : State) (id : Nat) (e : Entry) (m : RackMap), s.runnable id 0xC1 = some e → m = mapOf e.block → imageValid e.block = true →
    s.rack.idClash = false → s.fld F.TIER_POP_STATUS_ERR = 0 → s.store.timing ≠ {} → s.fld F.PST_STATUS_ALIGN_STATE = 2 →
    s.changing = false → s.rack.forming = none →
    ∃ t, exec (.mapForm id) s = .next t ∧ t.rack.map = m ∧ t.width = m.width ∧ t.salt = m.salt ∧ t.store.mem = s.store.mem ∧
      ((∀ k < 64, m.state.getD k .absent = .active → k = s.sys.member) → t.rack.forming = none ∧
        (t.entry? id).map (fun y => (y.phase, y.out.result0, y.out.countDone)) = some (.ended, m.mapsum, 1)) ∧
      ((∃ k < 64, m.state.getD k .absent = .active ∧ k ≠ s.sys.member) → (t.rack.forming.map fun f => (f.entry, f.heard, f.oldMap)) = some (id, [], s.rack.map) ∧
        (t.entry? id).map (fun y => (y.phase, y.started)) = some (.accepted, true))) ∧
  (∀ (s : State) (id : Nat) (e : Entry), s.runnable id 0xC1 = some e → s.rack.idClash = true →
    ∃ t, exec (.mapForm id) s = .next t ∧ t.rack.map = s.rack.map ∧ t.rack.idClash = false ∧
      (t.entry? id).map (fun y => (y.phase, y.out.status, y.out.subcode)) = some (.ended, St.badParam, 0x42)) ∧
  (∀ (s : State) (id : Nat) (e : Entry) (f : Forming), s.resumable id 0xC1 = some e → s.rack.forming = some f → f.entry = id →
    ∃ t, exec (.mapFormTimeout id) s = .next t ∧ t.rack.map = f.oldMap ∧ t.rack.forming = none ∧
      (t.entry? id).map (fun y => (y.phase, y.out.status, y.out.subcode)) = some (.ended, St.timeout, 0x40)) ∧
  (∀ (s : State) (id op : Nat) (c : Instr) (e : Entry) (x : Proposal),
    ((c, op) = (Instr.mapAdmit id, 0xC2) ∧ s.admissible (mpSubject e.packet) = true ∧ x = { epoch := 0, ballot := 0, change := .admission, subject := mpSubject e.packet }) ∨
    ((c, op) = (Instr.mapFence id, 0xC3) ∧ x = { epoch := 0, ballot := 0, change := .manualFence, subject := mpSubject e.packet, mask := 2 ^ mpSubject e.packet }) →
    s.runnable id op = some e →
    ∃ t, exec c s = .next t ∧ t.rack.map = s.rack.map ∧ t.store = s.store ∧ (s.changing = true → t = s) ∧
      (s.changing = false → s.coordinator = s.sys.member → t.rack.asker = some id ∧ t.rack.proposed = some { x with epoch := s.rack.map.epoch + 1, ballot := ((s.rack.ballotSeen / 64 + 1) * 64 + s.sys.member) % 2 ^ 32 } ∧
        (t.entry? id).map (fun y => (y.phase, y.started)) = some (.accepted, true)) ∧
      (s.changing = false → s.coordinator ≠ s.sys.member → t.rack.proposed = none ∧ (t.entry? id).map (fun y => (y.phase, y.started)) = some (.accepted, true) ∧
        ∃ n z, t.rack.away.find? n = some z ∧ z.home = s.coordinator ∧ z.kind = 4)) ∧
  (∀ (s : State) (id : Nat) (e : Entry), s.runnable id 0xC2 = some e → s.changing = false → s.coordinator = s.sys.member →
    s.admissible (mpSubject e.packet) = false →
    ∃ t, exec (.mapAdmit id) s = .next t ∧ OnlyEntry id s t ∧ (t.entry? id).map (fun y => (y.phase, y.out.status, y.out.subcode)) = some (.ended, St.badParam, 0x43)) ∧
  (∀ (s : State) (id : Nat) (e : Entry), s.runnable id 0xC4 = some e → e.stage = 0 → s.changing = false → s.rack.assign = none →
    s.coordinator = s.sys.member → s.serverOf (mpSlot e.packet) = s.sys.member →
    ∃ t a, exec (.mapAssign id) s = .next t ∧ t.rack.assign = some a ∧ a.entry = id ∧ a.slot = mpSlot e.packet ∧ a.subject = mpSubject e.packet ∧
      a.committed = false ∧ t.rack.map = s.rack.map ∧ t.store.mem = s.store.mem ∧ (t.entry? id).map (fun y => (y.phase, y.stage)) = some (.accepted, 1)) ∧
  (∀ (s : State) (id : Nat) (e : Entry), s.runnable id 0xC4 = some e → e.stage = 1 → e.items = [] →
    ∃ t, exec (.mapAssign id) s = .next t ∧ t.rack.map = s.rack.map ∧
      (e.out.status ≠ St.done → t.rack.assign = none ∧ (t.entry? id).map (fun y => (y.phase, y.out.status, y.out.subcode)) = some (.ended, St.fenced, 0xB5)) ∧
      (e.out.status = St.done → s.changing = false → s.coordinator = s.sys.member → t.rack.asker = some id ∧
        t.rack.proposed = some { epoch := s.rack.map.epoch + 1, ballot := ((s.rack.ballotSeen / 64 + 1) * 64 + s.sys.member) % 2 ^ 32, change := .assign, subject := mpSubject e.packet, slot := mpSlot e.packet })) ∧
  (∀ (s : State) (slot pg : Nat) (d : MirrorDue), s.rack.remirror.find? (fun m => m.slot = slot && m.page = pg) = some d → s.Sound → s.KeysStand →
    (∀ a, s.isHome a = true) →
    ∃ t, exec (.remirrorCopy slot pg) s = .next t ∧ t.store.mem = s.store.mem ∧
      (d.sent = false → ∀ g ∈ s.writtenGranules pg, (∃ n z, t.rack.away.find? n = some z ∧ some z.home = some ((s.partnerOf slot).getD 0) ∧ z.kind = 3 ∧
        z.addr = g * 128 ∧ z.data.take 128 = s.bytes (g * 128) 128)) ∧
      (d.sent = false → s.writtenGranules pg ≠ [] → t.rack.map = s.rack.map ∧ ∃ m ∈ t.rack.remirror, m.slot = slot ∧ m.page = pg ∧ m.sent = true) ∧
      (d.sent = true ∧ s.noneAway (copyWaiter pg) = true ∨ d.sent = false ∧ s.writtenGranules pg = [] →
        (∀ m, m ∈ t.rack.remirror ↔ m ∈ s.rack.remirror ∧ ¬(m.slot = slot ∧ m.page = pg)) ∧
        ((∀ m ∈ s.rack.remirror, m.slot = slot → m.page = pg) → t.rack.map = { s.rack.map with exposed := s.rack.map.exposed.set slot false }))) ∧
  (∀ (s : State) (slab stripe slot : Nat) (m : LostPage), s.rack.missing.find? (fun m => m.slab = slab && m.stripe = stripe && m.slot = slot) = some m →
    (2 < (s.rack.missing.filter fun k => k.slab = slab && k.stripe = stripe).length → exec (.flashRebuild slab stripe slot) s = .next s) ∧
    ((s.rack.missing.filter fun k => k.slab = slab && k.stripe = stripe).length ≤ 2 → s.foster stripe ≠ some s.sys.member ∨ 0 < s.store.free.getD 2 0 →
      ∃ t, exec (.flashRebuild slab stripe slot) s = .next t ∧ t.rack.missing = s.rack.missing.erase m ∧ t.store.mem = s.store.mem ∧
        (∀ pg, m.page = some pg → (t.page pg).foster = s.foster stripe ∧ ∀ g ∈ pageGranules (pg * 32), (t.gran g).wgen = 0) ∧
        (s.rack.missing = [m] → t.rack.map = { s.rack.map with rebuilding := s.rack.map.rebuilding.set slot false })))

/-- R185, R521 to R528, R612 to R615: compositions are defined, granted slabs, withdrawn, queried and dropped; the meter counts at its
tick and answers. -/
def Obligations.Compositions : Prop :=
  (∀ (s : State) (id c : Nat) (e : Entry), s.runnable id 0xC8 = some e → e.part = false → c = mpComp e.packet →
    ∃ t, exec (.cmpDefine id) s = .next t ∧ t.store = s.store ∧ t.rack.comps.has c = true ∧ (∀ d, d ≠ c → t.comp d = s.comp d) ∧
      t.comp c = { s.comp c with limitHbm := mpLimitHbm e.packet, limitDdr := mpLimitDdr e.packet, limitFlash := mpLimitFlash e.packet, poolHbm := mpPoolHbm e.packet, poolDdr := mpPoolDdr e.packet } ∧
      (s.rack.comps.has c = false → s.serverOf (c % s.width) = s.sys.member → t.rack.keys.has c = true) ∧ (s.rack.comps.has c = true → t.rack.keys = s.rack.keys) ∧
      (t.entry? id).map (fun y => (y.started, y.out.countDone)) = some (true, s.everyMember.length) ∧
      (s.everyMember.length = 1 → e.items = [] → (t.entry? id).map (·.phase) = some .ended)) ∧
  (∀ (s : State) (id c : Nat) (e : Entry), s.runnable id 0xC9 = some e → e.part = false → c = mpComp e.packet →
    ∃ t, exec (.cmpDrop id) s = .next t ∧ t.store = s.store ∧ t.rack.comps = s.rack.comps.erase c ∧ t.rack.keys = s.rack.keys.erase c ∧
      (t.entry? id).map (fun y => (y.started, y.out.countDone)) = some (true, s.everyMember.length) ∧
      (s.everyMember.length = 1 → e.items = [] → (t.entry? id).map (·.phase) = some .ended)) ∧
  (∀ (s : State) (id : Nat) (e : Entry) (l : List Nat), s.runnableStore id 0xCA = some e → e.part = false → e.stage = 0 → l = mpSlabList e.packet →
    (∀ n ∈ l, (s.slabNo n).comp ≠ some (mpComp e.packet)) →
    ∃ t, exec (.cmpGrant id) s = .next t ∧
      (s.passesLimit e.packet = true → OnlyEntry id s t ∧ (t.entry? id).map (fun y => (y.phase, y.out.status, y.out.subcode)) = some (.ended, St.noSpace, 0x61)) ∧
      (s.passesLimit e.packet = false → s.store.free.getD grantHome.code 0 < s.grantNeeds l →
        OnlyEntry id s t ∧ (t.entry? id).map (fun y => (y.phase, y.out.status, y.out.subcode)) = some (.ended, St.noSpace, 0x60)) ∧
      (s.passesLimit e.packet = false → s.grantNeeds l ≤ s.store.free.getD grantHome.code 0 → s.everyMember.length = 1 → e.items = [] →
        (∀ n ∈ l, t.slabNo n = { comp := some (mpComp e.packet) }) ∧ (∀ n, n ∉ l → t.slabNo n = s.slabNo n) ∧
        (∀ a, a / 2 ^ 30 ∈ l → t.byte a = 0) ∧ (∀ a, a / 2 ^ 30 ∉ l → t.byte a = s.byte a) ∧
        (∀ g, g / 2 ^ 23 ∈ l → (t.gran g).wgen = 0) ∧
        (t.entry? id).map (fun y => (y.phase, y.out.result0, y.out.countDone)) = some (.ended, mpSlabs e.packet, 1)) ∧
      (s.passesLimit e.packet = false → s.grantNeeds l ≤ s.store.free.getD grantHome.code 0 → 1 < s.everyMember.length →
        t.store.slabs = s.store.slabs ∧ t.store.mem = s.store.mem ∧ (t.entry? id).map (fun y => (y.phase, y.stage)) = some (.accepted, 1))) ∧
  (∀ (s : State) (id : Nat) (e : Entry) (l : List Nat), s.runnableStore id 0xCB = some e → e.part = false → l = mpSlabList e.packet →
    (∀ n ∈ l, (s.slabNo n).comp.isSome = true) →
    ((∃ r ∈ s.xlt.raws, r.addr / 2 ^ 30 ∈ l) → (∃ t, exec (.cmpWithdraw id) s = .next t ∧ t.store.mem = s.store.mem ∧ (∀ n ∈ l, (t.slabNo n).withdrawing = true) ∧
      (t.entry? id).map (·.phase) = some .accepted)) ∧
    ((∀ c ∈ s.cmdq.entries.cells, c.1 ≠ id → c.2.captures = []) → e.waitsFor = [] → s.rawsToSlabs l = false → s.heldInSlabs l = [] →
      s.coh.walks.contains id = false → s.backPending id = false →
      ∃ t, exec (.cmpWithdraw id) s = .next t ∧ (∀ n ∈ l, t.slabNo n = {}) ∧ (∀ n, n ∉ l → t.slabNo n = s.slabNo n) ∧
        (∀ a, a / 2 ^ 30 ∈ l → t.byte a = 0) ∧ (∀ a, a / 2 ^ 30 ∉ l → t.byte a = s.byte a) ∧ t.fld F.COH_EVENT_RECLAIM_DONE = 1 ∧
        (t.entry? id).map (fun y => (y.started, y.out.result0, y.out.countDone)) = some (true, l.length, s.everyMember.length))) ∧
  (∀ (s : State) (id c : Nat) (e : Entry), s.runnable id 0xCC = some e → c = mpComp e.packet →
    ∃ t, exec (.cmpQuery id) s = .next t ∧ OnlyEntry id s t ∧ (t.entry? id).map (fun y => (y.phase, y.out.result0, y.out.result1, y.out.countAux)) =
      some (.ended, s.granted c .hbm + 2 ^ 32 * s.granted c .ddr, s.granted c .flash, ((s.comp c).chargedHbm + (s.comp c).chargedDdr) / 2 ^ 20)) ∧
  (∀ (s : State) (cycles : List (Nat × Nat)), s.frame % 31250 = 0 → s.storeUp = true → s.sys.bracing = false →
    (∀ x ∈ (s.comp 0).ticks, x.1 ≠ s.frame) →
    ∃ t, exec (.meteringTick cycles) s = .next t ∧ Frame [.rack] s t ∧ ∀ c, c = 0 ∨ s.rack.comps.has c = true →
      t.comp c = (s.comp c).addTick [s.bytesHeld c .hbm, s.bytesHeld c .ddr, s.bytesHeld c .flash] ((cycles.filter fun y => y.1 = c).map (·.2)).sum s.frame) ∧
  (∀ (s : State) (cycles : List (Nat × Nat)), s.frame % 31250 ≠ 0 ∨ s.storeUp = false ∨ s.sys.bracing = true →
    exec (.meteringTick cycles) s = .next s) ∧
  (∀ (s : State) (src tick : Nat) (v : List Nat), src < 128 → src % 64 = 0 → tick = ((s.comp 0).ticks.head?.map (·.1)).getD 0 →
    v = (s.meterAt (s.fld F.MGT_METER_SEL_COMP) tick).getD [0, 0, 0, 0] →
    ∃ t, exec (.mgtMeterSnap src) s = .next t ∧ Frame [.regs] s t ∧ t.regAt 0 F.MGT_METER_TICK_LO_FRAME.off = BitVec.ofNat 32 tick ∧
      t.regAt 0 F.MGT_METER_TICK_HI_FRAME.off = BitVec.ofNat 32 (tick / 2 ^ 32) ∧
      ∀ i < 4, t.regAt 0 (F.MGT_METER_LO_VALUE.off + 8 * i) = BitVec.ofNat 32 (v.getD i 0) ∧
        t.regAt 0 (F.MGT_METER_HI_VALUE.off + 8 * i) = BitVec.ofNat 32 (v.getD i 0 / 2 ^ 32)) ∧
  (∀ (s : State) (id T : Nat) (e : Entry), s.resumable id 0xD0 = some e → e.started = false → T = (e.acceptFrame - 64) / 31250 * 31250 →
    s.everyMember.length = 1 → e.slot.isSome = true →
    ∃ t, exec (.meterQuery id) s = .next t ∧ OnlyEntry id s t ∧
      (∀ a b c d, s.meterAt (bf e.packet 107 96) T = some [a, b, c, d] →
        (t.entry? id).map (fun y => (y.phase, y.out.result0, y.out.countDone, y.out.countAux)) = some (.ended, T, 1, 0) ∧
        (t.entry? id).map (·.pend) = some (toLe 8 T ++ toLe 8 a ++ toLe 8 b ++ toLe 8 c ++ toLe 8 d ++ toLe 8 0 ++ toLe 16 0)) ∧
      (s.meterAt (bf e.packet 107 96) T = none →
        (t.entry? id).map (fun y => (y.phase, y.out.result0, y.out.countDone, y.out.countAux)) = some (.ended, T, 0, 1))) ∧
  (∀ (s : State) (id : Nat) (e : Entry), s.resumable id 0xD0 = some e → e.started = false → 1 < s.everyMember.length →
    ∃ t, exec (.meterQuery id) s = .next t ∧ (t.entry? id).map (fun y => (y.phase, y.started, (y.items.map (·.home)).drop e.items.length)) =
      some (.accepted, true, s.everyMember.filter fun m => m != s.sys.member))

/-- R530, R541, R545, R548 to R552, R556, R557: fuses, lifecycle requests, tokens, the debug level and the power targets. -/
def Obligations.LifecycleAndTokens : Prop :=
  (∀ (s : State) (src : Nat),
    (s.mayAdminister src = true → s.sys.bootOk = true → exec (.secSvnCommit src) s = .next { s with sys := { s.sys with svn := max s.sys.svn s.sys.imageSvn } }) ∧
    (s.mayAdminister src = false ∨ s.sys.bootOk = false → exec (.secSvnCommit src) s = .next s)) ∧
  (∀ (s : State) (src c : Nat) (fuse : Bool), src < 128 → src % 64 = 0 →
    c = (if s.sys.lc ≠ .blank ∨ s.sys.lcNext ≠ none then 2 else if s.sys.power ≠ .run then 3 else if s.stagedHash = 0 then 4 else if fuse then 1 else 5) →
    ∃ t, exec (.secLcProvision src fuse) s = .next t ∧ t.fld F.SEC_LC_RESULT_CODE = c ∧ t.sys.lc = s.sys.lc ∧
      (c ≠ 1 → Frame [.regs] s t) ∧ (c = 1 → t.sys.lcNext = some .provisioned ∧ t.sys.hashNext = s.stagedHash ∧ t.fld F.SEC_EVENT_LC_PENDING = 1)) ∧
  (∀ (s : State) (src : Nat), src < 128 → src % 64 = 0 →
    ∃ t n, exec (.secNewNonce src) s = .next t ∧ n < 2 ^ 64 ∧ Frame [.sys, .fresh] s t ∧ t.fresh = s.fresh + 1 ∧
      t.sys = { s.sys with nonce := some n, nonceShown := n, ownerReturn := none }) ∧
  (∀ (s : State) (src : Nat), src < 128 → src % 64 = 0 → s.sys.verifying = none →
    ∃ t, exec (.secTokenSubmit src) s = .next t ∧ Frame [.sys, .regs] s t ∧ t.fld F.SEC_TOKEN_STATUS_BUSY = 1 ∧ t.fld F.SEC_TOKEN_STATUS_DONE = 0 ∧
      t.sys = { s.sys with verifying := some (((List.range 40).map fun i => toLe 4 (s.sys.tokenWords.getD i 0).toNat).flatten, s.sys.nonce), nonce := none }) ∧
  (∀ (s : State) (k : List Byte) (n : Option Nat) (sig fuse : Bool) (c : Nat), s.sys.verifying = some (k, n) →
    c = (if tokenFormat k = false then 1 else if fieldAt k 8 16 ≠ Config.dieId % 2 ^ 128 then 2
      else if n ≠ some (tkNonce k) ∧ ¬(tkType k = 4 ∧ s.sys.ownerReturn = some (tkNonce k)) then 3 else s.tokenCode k sig fuse) →
    ∃ t, exec (.tokenVerifyComplete sig fuse) s = .next t ∧ t.sys.verifying = none ∧ t.sys.lc = s.sys.lc ∧
      (c ≠ 0 → t.fld F.SEC_TOKEN_STATUS_CODE = c ∧ t.fld F.SEC_TOKEN_STATUS_DONE = 1 ∧ t.fld F.SEC_EVENT_TOKEN_DONE = 1 ∧
        t.sys.debug = s.sys.debug ∧ t.sys.lcNext = s.sys.lcNext ∧ t.sys.ownerReturn = none ∧ t.store = s.store) ∧
      (c = 0 → tkType k ≠ 4 → t.fld F.SEC_TOKEN_STATUS_CODE = 0 ∧ t.fld F.SEC_TOKEN_STATUS_DONE = 1 ∧ t.fld F.SEC_EVENT_TOKEN_DONE = 1) ∧
      (c = 0 → tkType k = 1 → t.sys.debug = (DebugLevel.ofCode (tkLevel k)).getD .quiet ∧ t.sys.dbgRemain = tkDuration k) ∧
      (c = 0 → tkType k = 2 → t.sys.lcNext = some .sealed ∧ t.sys.adminNext = tkPorts k) ∧
      (c = 0 → tkType k = 3 → t.sys.ownerReturn = some (tkNonce k)) ∧
      (c = 0 → tkType k = 4 → t.sys.lcNext = some .returned ∧ t.rack.keys = {} ∧ t.sys.keyZero = none)) ∧
  (∀ (s : State) (src : Nat) (c : Instr), (c = .secTokenLower src ∧ src < 128 ∧ src % 64 = 0) ∨ c = .debugTimerExpiry → s.sys.debug ≠ .quiet →
    ∃ t, exec c s = .next t ∧ t.sys = { s.sys with debug := .quiet, dbgComp := 0, dbgRemain := 0 } ∧ t.fld F.SEC_EVENT_LEVEL_CHANGED = 1 ∧ t.store = s.store) ∧
  (∀ (s : State) (src : Nat), s.mayAdminister src = true →
    ∃ t, exec (.secPwrTargetRun src) s = .next t ∧ t.store.mem = s.store.mem ∧ (s.sys.power ≠ .rest → t = s) ∧
      (s.sys.power = .rest → t.sys.power = .run ∧ t.fld F.SEC_EVENT_PWR_CHANGED = 1 ∧ (∀ i < 64, (t.training 0 i).pending = true) ∧ ∀ i < 16, (t.training 1 i).pending = true)) ∧
  (∀ (s : State) (src : Nat), s.mayAdminister src = true → s.sys.bracing = false →
    ∃ t, exec (.secPwrTargetRest src) s = .next t ∧ t.fld F.SEC_PWR_STATUS_REFUSE = s.restRefused ∧ t.store.mem = s.store.mem ∧
      (s.restRefused ≠ 0 → Frame [.regs] s t) ∧ (s.restRefused = 0 → t.sys.power = .rest ∧ t.pst.idle = true ∧ t.store.checkpointFrame = s.frame)) ∧
  (∀ (s : State) (src : Nat), s.mayAdminister src = true → s.sys.bracing = false → s.sys.power ≠ .standby → s.sys.power ≠ .off →
    ∃ t, exec (.secPwrTargetStandby src) s = .next t ∧ t.fld F.PWR_BRACE_LAST_CAUSE = 6 ∧ t.sys.cause = .requested ∧ t.sys.debug = .quiet ∧
      (s.erasedHalf.isSome = true → t.sys.bracing = true ∧ t.fld F.PWR_STATUS_BRACING = 1) ∧
      (s.erasedHalf = none → t.sys.bracing = false ∧ (t.sys.power = .standby ∨ t.sys.power = .off)))

/-- R536 to R538, R604: what the SPDM responder answers at each stage, and the sessions it keeps. -/
def Obligations.SpdmSessions : Prop :=
  (∀ (s : State) (ep : Nat), s.spdmOn ep .version = true →
    ∃ t, exec (.getVersion ep) s = .next t ∧ t.out = s.out ++ [.response ep 0x04 [0x13]] ∧ t.spdmStage ep = 1 ∧ Frame [.mgt, .out] s t) ∧
  (∀ (s : State) (ep need : Nat) (c : Instr), s.spdmOn ep .plain = true →
    (c, need) ∈ [(Instr.getCapabilities ep, 1), (.negotiateAlgorithms ep true, 2), (.getDigests ep, 3), (.getCertificate ep 0 0 1, 3), (.challenge ep 0, 3),
      (.getCsr ep, 3), (.getMeasurements ep 1 false, 3), (.setCertificate ep 1 1 [], 3), (.keyExchange ep true, 3)] → s.spdmStage ep < need →
    ∃ t, exec c s = .next t ∧ t.out = s.out ++ [.response ep 0x7F [0x04]] ∧ Frame [.out] s t) ∧
  (∀ (s : State) (ep : Nat), s.spdmOn ep .plain = true → 1 ≤ s.spdmStage ep →
    ∃ t, exec (.getCapabilities ep) s = .next t ∧ (∃ d, t.out = s.out ++ [.response ep 0x61 d]) ∧ t.spdmStage ep = 2 ∧ Frame [.mgt, .out] s t) ∧
  (∀ (s : State) (ep : Nat), s.spdmOn ep .plain = true → 2 ≤ s.spdmStage ep →
    (∃ t, exec (.negotiateAlgorithms ep true) s = .next t ∧ t.out = s.out ++ [.response ep 0x63 []] ∧ t.spdmStage ep = 3 ∧ Frame [.mgt, .out] s t) ∧
    ∃ t, exec (.negotiateAlgorithms ep false) s = .next t ∧ t.out = s.out ++ [.response ep 0x7F [0x01]] ∧ Frame [.out] s t) ∧
  (∀ (s : State) (ep slot off len : Nat), s.spdmOn ep .plain = true → 3 ≤ s.spdmStage ep →
    (∃ t, exec (.getDigests ep) s = .next t ∧ Frame [.out] s t ∧
      t.out = s.out ++ [.response ep 0x01 ((((s.certSlot 0).toList ++ (s.certSlot 1).toList).map sha384).flatten)]) ∧
    (∃ t, exec (.getCertificate ep slot off len) s = .next t ∧ Frame [.out] s t ∧
      (∀ ch, s.certSlot slot = some ch → t.out = s.out ++ [.response ep 0x02 ((ch.drop off).take len)]) ∧
      (s.certSlot slot = none → t.out = s.out ++ [.response ep 0x7F [0x01]])) ∧
    (∃ t, exec (.challenge ep slot) s = .next t ∧ Frame [.out, .fresh] s t ∧
      ((s.certSlot slot).isSome = true → t.out = s.out ++ [.response ep 0x03 (Config.signature s.fresh)]) ∧
      (s.certSlot slot = none → t.out = s.out ++ [.response ep 0x7F [0x01]])) ∧
    ∃ t, exec (.getCsr ep) s = .next t ∧ Frame [.out, .fresh] s t ∧ t.out = s.out ++ [.response ep 0x6D (Config.signature s.fresh)]) ∧
  (∀ (s : State) (ep i : Nat) (d : List Byte), s.spdmOn ep .plain = true → 3 ≤ s.spdmStage ep →
    (i = 0 ∧ d = [8]) ∨ (1 ≤ i ∧ i ≤ 8 ∧ d = s.measurement i) ∨ (i = 255 ∧ d = (((List.range 8).map fun j => s.measurement (j + 1)).flatten)) →
    (∃ t, exec (.getMeasurements ep i false) s = .next t ∧ Frame [.out] s t ∧ t.out = s.out ++ [.response ep 0x60 d]) ∧
    ∃ t, exec (.getMeasurements ep i true) s = .next t ∧ Frame [.out, .fresh] s t ∧ t.out = s.out ++ [.response ep 0x60 (d ++ Config.signature s.fresh)]) ∧
  (∀ (s : State) (ep ses slot : Nat) (ch : List Byte), s.spdmOn ep .plain = true → 3 ≤ s.spdmStage ep →
    ∃ t, exec (.setCertificate ep ses slot ch) s = .next t ∧
      (slot = 1 → s.sys.lc = .provisioned → s.sessionOpen ep ses = true → t.mgt = { s.mgt with cert1 := ch } ∧ t.out = s.out ++ [.response ep 0x6E [1]]) ∧
      (slot ≠ 1 ∨ s.sys.lc ≠ .provisioned ∨ s.sessionOpen ep ses = false → t.mgt = s.mgt ∧ t.out = s.out ++ [.response ep 0x7F [0x04]])) ∧
  (∀ (s : State) (ep : Nat), s.spdmOn ep .plain = true → 3 ≤ s.spdmStage ep → (ep < 16 → s.mgmtSessions < 4) → (16 ≤ ep → (s.port (ep - 16)).wantsSession = true) →
    ∃ t, exec (.keyExchange ep true) s = .next t ∧ t.mgt = { s.mgt with sessions := s.mgt.sessions ++ [{ id := s.mgt.nextSession, endpoint := ep }], nextSession := s.mgt.nextSession + 1 } ∧
      t.out = s.out ++ [.response ep 0x64 (toLe 4 s.mgt.nextSession ++ Config.signature s.fresh)] ∧ Frame [.mgt, .out, .fresh] s t) ∧
  (∀ (s : State) (ep code : Nat) (auth : Bool), s.spdmOn ep .plain = true → 3 ≤ s.spdmStage ep →
    (auth = false ∧ code = 1) ∨ (auth = true ∧ ep < 16 ∧ 4 ≤ s.mgmtSessions ∧ code = 0x0A) ∨ (auth = true ∧ 16 ≤ ep ∧ (s.port (ep - 16)).wantsSession = false ∧ code = 4) →
    ∃ t, exec (.keyExchange ep auth) s = .next t ∧ Frame [.out] s t ∧ t.out = s.out ++ [.response ep 0x7F [BitVec.ofNat 8 code]]) ∧
  (∀ (s : State) (ep ses : Nat) (x : Partner), s.spdmOn ep .plain = true → (∃ y ∈ s.mgt.sessions, y.id = ses ∧ y.endpoint = ep ∧ y.finished = false) →
    ∃ t, exec (.finish ep ses x) s = .next t ∧
      (ep < 16 → x.chainOk = true → (∀ y ∈ t.mgt.sessions, y.id = ses → y.endpoint = ep → y.finished = true) ∧ t.out = s.out ++ [.response ep 0x65 []] ∧ Frame [.mgt, .out] s t) ∧
      (ep < 16 → x.chainOk = false → (∀ y ∈ t.mgt.sessions, ¬(y.id = ses ∧ y.endpoint = ep)) ∧ t.out = s.out ++ [.response ep 0x7F [0x06]] ∧ Frame [.mgt, .out] s t) ∧
      (16 ≤ ep → s.acceptsPartner (ep - 16) x = true → t.out = s.out ++ [.response ep 0x65 []] ∧ Frame [.mgt, .hxl, .out] s t ∧
        t.port (ep - 16) = { s.port (ep - 16) with session := true, keysIn := (s.port (ep - 16)).encOn, nextKeyIn := (s.port (ep - 16)).encOn }) ∧
      (16 ≤ ep → s.acceptsPartner (ep - 16) x = false → (t.port (ep - 16)).state = .failed ∧ (t.port (ep - 16)).failCode = 5 ∧ t.fld F.SEC_EVENT_SESSION_FAIL = 1)) ∧
  (∀ (s : State) (ep ses : Nat), s.spdmOn ep .plain = true →
    (s.sessionOpen ep ses = true →
      (∃ t, exec (.spdmHeartbeat ep ses) s = .next t ∧ Frame [.out] s t ∧ t.out = s.out ++ [.response ep 0x68 []]) ∧
      (∃ t, exec (.keyUpdate ep ses) s = .next t ∧ Frame [.mgt, .out] s t ∧ t.out = s.out ++ [.response ep 0x69 []] ∧ t.sessionOpen ep ses = true) ∧
      ∃ t, exec (.endSession ep ses) s = .next t ∧ Frame [.mgt, .hxl, .out] s t ∧ t.out = s.out ++ [.response ep 0x6C []] ∧ t.sessionOpen ep ses = false) ∧
    (s.sessionOpen ep ses = false → ∀ c, c ∈ [Instr.spdmHeartbeat ep ses, .keyUpdate ep ses, .endSession ep ses] →
      ∃ t, exec c s = .next t ∧ Frame [.out] s t ∧ t.out = s.out ++ [.response ep 0x7F [0x04]]))

/-- R559 to R569, R574, R577, R657, R658: the supply's events, the Snowplough, brace and its record, the thermal samples. -/
def Obligations.SupplyAndBrace : Prop :=
  (∀ (s : State), s.sys.vstby5 = true → s.sys.power ≠ .off →
    ∃ t, exec .vstby5Lost s = .next t ∧ t.sys.vstby5 = false ∧ t.store = s.store ∧
      (s.sys.vin12 = true ∨ s.sys.power ≠ .standby → t.sys.power = s.sys.power ∧ t.fld F.PWR_STATUS_STBY_FROM_VIN = 1 ∧ t.fld F.PWR_EVENT_STBY_LOST = 1) ∧
      (s.sys.vin12 = false → s.sys.power = .standby → t.sys.power = .off)) ∧
  (∀ (s : State), s.sys.vstby5 = false → s.sys.power ≠ .off →
    ∃ t, exec .vstby5Restored s = .next t ∧ t.sys = { s.sys with vstby5 := true } ∧ t.fld F.PWR_STATUS_STBY_FROM_VIN = 0 ∧ Frame [.sys, .regs] s t) ∧
  (∀ (s : State), exec .psuAcOkAssert s = .next { s with sys := { s.sys with psuOk := true } }) ∧
  (∀ (s : State) (cause : Nat) (long : Bool) (c : Instr), s.sys.power = .run ∨ s.sys.power = .glide ∨ s.sys.power = .rest →
    (c = .psuAcOkDeassert ∧ s.sys.psuOk = true ∧ cause = 1) ∨ (c = .vin12DeepSag long ∧ cause = if long then 3 else 2) ∨
      (c = .vin12SurgeBrace long ∧ cause = if long then 5 else 4) →
    ∃ t, exec c s = .next t ∧
      (s.sys.bracing = false → s.erasedHalf.isSome = true → t.sys.bracing = true ∧ t.sys.brace.map (fun b => (b.cause, b.frame)) = some (cause, s.frame) ∧
        t.fld F.PWR_BRACE_LAST_CAUSE = cause ∧ t.fld F.PWR_STATUS_BRACING = 1 ∧ t.sys.debug = .quiet) ∧
      (s.sys.bracing = true → t.sys.brace = s.sys.brace ∧ (t.fld F.PWR_BRACE_LAST_LATER).testBit (cause - 1) = true) ∧
      (c = .psuAcOkDeassert → t.sys.psuOk = false) ∧ ((∀ b, c ≠ .vin12SurgeBrace b) → t.sys.restartOk = false)) ∧
  (∀ (s : State) (c : Instr), c = .vin12OvTrip ∨ c = .vin12UvTrip →
    ∃ t, exec c s = .next t ∧ t.sys.vin12 = false ∧ t.sys.restartOk = false ∧ t.store = s.store ∧
      (s.sys.power = .run ∨ s.sys.power = .glide ∨ s.sys.power = .rest → t.cmdq.entries = {} ∧ t.sys.bracing = false ∧
        t.sys.power = if s.sys.vstby5 then .standby else .off) ∧
      (s.sys.power = .standby → s.sys.starting = false → t.sys.power = if s.sys.vstby5 then .standby else .off)) ∧
  (∀ (s : State), ∃ t, exec .vin12Surge s = .next t ∧ t.fld F.PWR_STATUS_REGION = 3 ∧ t.fld F.PWR_EVENT_SURGE = 1 ∧ Frame [.regs, .out, .msix] s t ∧
    t.fld F.PWR_COUNT_DIST_SURGE = min (s.fld F.PWR_COUNT_DIST_SURGE + 1) (2 ^ (F.PWR_COUNT_DIST_SURGE.hi + 1 - F.PWR_COUNT_DIST_SURGE.lo) - 1)) ∧
  (∀ (s : State), s.sys.sag = false → ∃ t, exec .vin12SagEnter s = .next t ∧ t.sys = { s.sys with sag := true, restartOk := false } ∧
    t.fld F.PWR_STATUS_REGION = 1 ∧ t.fld F.PWR_EVENT_SAG = 1 ∧ t.fld F.PWR_EFF_CAP_W = t.effCap.2 % 2 ^ 10 ∧ Frame [.sys, .regs, .out, .msix] s t) ∧
  (∀ (s : State), s.sys.sag = true → ∃ t, exec .vin12SagExit s = .next t ∧ t.sys = { s.sys with sag := false } ∧ t.fld F.PWR_STATUS_REGION = 0 ∧
    t.fld F.PWR_EFF_CAP_W = t.effCap.2 % 2 ^ 10 ∧ Frame [.sys, .regs] s t) ∧
  (∀ (s : State), (s.effCap ∈ s.capTerms) ∧ ∀ x ∈ s.capTerms, s.effCap.2 ≤ x.2) ∧
  (∀ (s : State) (mv w a b duty limit cap : Nat), duty = s.fld F.PWR_THROTTLE_DUTY → limit = s.fld F.PWR_THROTTLE_CORE_LIMIT → cap = s.effCap.2 →
    ∃ t, exec (.snowploughTick mv w a b) s = .next t ∧ t.fld F.PWR_VIN_MV = min mv 16383 ∧ t.sys.energy = (s.sys.energy + w) % (100 * 2 ^ 64) ∧
      (s.running = false ∨ s.sys.bracing = true → t.fld F.PWR_THROTTLE_DUTY = duty ∧ t.fld F.PWR_THROTTLE_CORE_LIMIT = limit) ∧
      (s.running = true → s.sys.bracing = false →
        (cap < w → 1 < duty → t.fld F.PWR_THROTTLE_DUTY = duty - 1 ∧ t.fld F.CORE_GATE_DUTY = duty - 1 ∧ t.fld F.PWR_THROTTLE_CORE_LIMIT = limit ∧
          (duty ≤ 16 → t.sys.power = .glide ∧ t.fld F.PWR_STATUS_GLIDE = if s.sys.power = .run then 1 else s.fld F.PWR_STATUS_GLIDE)) ∧
        (cap < w → duty ≤ 1 → 150 < limit → t.fld F.PWR_THROTTLE_DUTY = duty ∧ t.fld F.PWR_THROTTLE_CORE_LIMIT = max 150 (limit - 150)) ∧
        (cap < w → duty ≤ 1 → limit ≤ 150 → t.fld F.PWR_THROTTLE_DUTY = duty ∧ t.fld F.PWR_THROTTLE_CORE_LIMIT = limit ∧ t.sys.floorTicks = s.sys.floorTicks + 1 ∧
          (99 ≤ s.sys.floorTicks → t.fld F.PWR_EVENT_CAP_UNMET = 1)) ∧
        (w ≤ cap → 96 * cap ≤ 100 * w ∨ s.sys.lowTicks < 9 → t.fld F.PWR_THROTTLE_DUTY = duty ∧ t.fld F.PWR_THROTTLE_CORE_LIMIT = limit) ∧
        (100 * w < 96 * cap → 9 ≤ s.sys.lowTicks → limit < 1200 → t.fld F.PWR_THROTTLE_DUTY = duty ∧ t.fld F.PWR_THROTTLE_CORE_LIMIT = min 1200 (limit + 150)) ∧
        (100 * w < 96 * cap → 9 ≤ s.sys.lowTicks → 1200 ≤ limit → duty < 16 → t.fld F.PWR_THROTTLE_DUTY = duty + 1 ∧ t.fld F.PWR_THROTTLE_CORE_LIMIT = limit))) ∧
  (∀ (s : State) (T sensor : Nat) (bad : Bool), s.sys.power = .run ∨ s.sys.power = .glide ∨ s.sys.power = .rest →
    ∃ t, exec (.thermalSample T sensor bad) s = .next t ∧
      (bad = false → T < 920 ∨ s.sys.tripSample = false → Frame [.sys, .regs] s t ∧ t.sys.dieTemp = T ∧ t.sys.tripSample = decide (920 ≤ T) ∧
        (s.sys.junction = none → t.sys.junction = if 800 ≤ T then some (s.fld F.PWR_POWER_AVG_1MS) else none) ∧
        (∀ w, s.sys.junction = some w → 800 ≤ T → 9 ≤ s.sys.hotSamples → t.sys.junction = some (max 250 (w - 10))) ∧
        (∀ w, s.sys.junction = some w → T < 776 → 99 ≤ s.sys.coolSamples → t.sys.junction = if w + 10 > s.fld F.PWR_CAP_W then none else some (w + 10))) ∧
      (bad = true ∨ (920 ≤ T ∧ s.sys.tripSample = true) → t.sys.tripped = true ∧ t.sys.cause = .thermal ∧ t.sys.errFatal = true ∧ t.fld F.ERR_STATUS_FATAL = 1)) ∧
  (∀ (s : State) (us i : Nat) (b : BraceRun), s.sys.brace = some b → b.half = none → b.discard = false → s.erasedHalf = some i →
    (∀ j ∈ s.store.journal, (s.gran (j.rsa / 128)).damaged = false) →
    ∃ t h, exec (.braceFlushStart us) s = .next t ∧ Frame [.store, .sys, .regs] s t ∧ t.sys.brace = some { b with half := some i } ∧ t.store.mem = s.store.mem ∧
      t.store.braceHalves = s.store.braceHalves.set i h ∧ h.header = true ∧ h.erased = false ∧ h.committed = false ∧ h.frame = b.frame ∧ h.cause = b.cause ∧
      h.entries = s.store.journal.map JournalEntry.image ∧ t.fld F.TIER_STATUS_BRACE_READY = 0 ∧ t.fld F.PWR_BRACE_TIME_FLUSH_US = min us 65535) ∧
  (∀ (s : State) (us i : Nat) (bad : Bool) (lost : List Nat) (b : BraceRun) (h : BraceHalf), s.sys.brace = some b → b.half = some i →
    s.store.braceHalves[i]? = some h → s.sys.power = .run ∨ s.sys.power = .glide ∨ s.sys.power = .rest →
    ∃ t h', exec (.braceCommitRecord us bad lost) s = .next t ∧ t.store.braceHalves = s.store.braceHalves.set i h' ∧ h'.committed = true ∧ h'.dieFailed = bad ∧
      (bad = false → h'.entries = h.entries) ∧ t.sys.braceDone = true ∧ t.sys.bracing = false ∧ t.fld F.PWR_STATUS_BRACING = 0 ∧
      t.fld F.PWR_BRACE_TIME_DONE_US = min us 65535 ∧ t.sys.power = if s.sys.vstby5 || s.sys.vin12 then .standby else .off) ∧
  (∀ (s : State), s.sys.psuOk = true → s.sys.power = .standby → s.sys.starting = false →
    exec .restartQualified s = .next { s with sys := { s.sys with vin12 := true, restartOk := true } }) ∧
  (∀ (s : State) (src : Nat), src < 128 → src % 64 = 0 →
    (∃ t, exec (.pwrClearMinmax src) s = .next t ∧ Frame [.regs] s t ∧ t.fld F.PWR_VIN_MINMAX_MIN_MV = s.fld F.PWR_VIN_MV ∧ t.fld F.PWR_VIN_MINMAX_MAX_MV = s.fld F.PWR_VIN_MV) ∧
    (∃ t, exec (.pwrClearBrace src) s = .next t ∧ t.store = s.store ∧ t.fld F.PWR_BRACE_LAST_CAUSE = 0 ∧ t.fld F.PWR_BRACE_LAST_RESULT = 0 ∧ t.fld F.PWR_BRACE_LAST_LATER = 0 ∧
      t.fld F.PWR_BRACE_TIME_DONE_US = 0 ∧ t.fld F.PWR_BRACE_BYTES_KIB = 0) ∧
    ∃ t, exec (.pwrEnergyLoRead src F.PWR_ENERGY_LO_MJ.off 4) s = .next t ∧ Frame [.regs, .out] s t ∧
      t.out = s.out ++ [.readData (s.sys.energy / 100 % 2 ^ 32)] ∧ t.fld F.PWR_ENERGY_HI_MJ = s.sys.energy / 100 / 2 ^ 32 % 2 ^ 32)

/-- R547, R553 to R555, R573, R582, R583, R587 to R592, R596, R600 to R602, R638: resets, start-up, store bring-up, the clocks, the
pins, and what JTAG debug access may do. -/
def Obligations.ResetsAndStartup : Prop :=
  (∀ (s : State) (st : Straps) (fl : BootFlash), (s.sys.power ≠ .off → exec (.powerOnReset st fl) s = .next s) ∧
    (s.sys.power = .off → ∃ t, exec (.powerOnReset st fl) s = .next t ∧ t.sys.power = .standby ∧ t.sys.cause = .por ∧ t.sys.debug = .quiet ∧
      (t.sys.member, t.sys.ssc, t.sys.sris, t.sys.ddrMode) = (st.member % 64, st.ssc % 4, st.sris % 4, st.ddrMode) ∧ t.fld F.HXL_ID_MEMBER = st.member % 64 ∧
      t.fld F.CLK_SSC_DEPTH = (if st.ssc % 4 = 0 then 0 else if st.ssc % 4 = 1 then 5 else 10) ∧ t.cmdq.entries = {} ∧ t.frame = 0 ∧ t.store.braceHalves = s.store.braceHalves ∧
      t.sys.svn = s.sys.svn ∧ t.sys.keyZero = s.sys.keyZero ∧ t.rack.keys = s.rack.keys ∧ t.sys.lc = s.sys.lcNext.getD s.sys.lc ∧ t.sys.lcNext = none)) ∧
  (∀ (s : State) (fl : BootFlash) (pop : Population) (bad : List Nat) (temp us : Nat), s.mayStart temp = false → exec (.startup fl pop bad temp us) s = .next s) ∧
  (∀ (s : State) (fl : BootFlash) (pop : Population) (bad : List Nat) (temp us : Nat), s.mayStart temp = true → s.sys.bootOk = true → s.sys.starting = false →
    ∃ t, exec (.startup fl pop bad temp us) s = .next t ∧ t.cmdq.entries = {} ∧ t.sys.tripped = false ∧ Emit.pin 0 false ∈ t.out ∧ Emit.pin 1 false ∈ t.out ∧
      (s.sys.refclk = false → t.sys.power = .standby ∧ t.sys.starting = true ∧ t.fld F.CLK_STARTUP_STAGE = 1) ∧
      (s.sys.refclk = true → s.residentBad = true → t.sys.power = .standby ∧ t.sys.bootErr = 3 ∧ t.sys.bootOk = false ∧ t.fld F.CLK_STARTUP_STAGE = 2) ∧
      (s.sys.refclk = true → s.residentBad = false → t.sys.power = .run ∧ t.sys.starting = false ∧
        t.fld F.CLK_RESET_CAUSE_POR = (if s.sys.cause = .por then 1 else 0) ∧ t.fld F.CLK_RESET_CAUSE_BRACE = (if s.sys.cause = .brace then 1 else 0) ∧
        t.fld F.CLK_RESET_CAUSE_REQUESTED = (if s.sys.cause = .requested then 1 else 0) ∧ t.fld F.CLK_RESET_CAUSE_SYS_RST = (if s.sys.cause = .sysRst then 1 else 0) ∧
        t.fld F.CLK_RESET_CAUSE_THERMAL = (if s.sys.cause = .thermal then 1 else 0) ∧
        (t.fld F.TIER_POP_STATUS_ERR = 0 → t.frame = 0 ∧ 6 ≤ t.fld F.CLK_STARTUP_STAGE))) ∧
  (∀ (s : State) (ok : Bool) (dmg : List (Nat × Nat × Nat)) (us : Nat), s.storeUp = false → s.sys.bracing = false → s.inService = true → 8 ≤ s.fld F.CLK_STARTUP_STAGE →
    s.alignState = 2 → s.fld F.TIER_STATUS_LOCKED ≠ 0 → s.fld F.TIER_POP_STATUS_ERR = 0 →
    ∃ t, exec (.storeBringup ok dmg us) s = .next t ∧ t.fld F.TIER_STATUS_STORE_UP = 1 ∧ t.fld F.CLK_STARTUP_STAGE = 12 ∧ t.fld F.TIER_STATUS_BRACE_READY = 1 ∧
      t.fld F.TIER_EVENT_STORE_UP = 1 ∧ t.fld F.CLK_EVENT_STARTUP_DONE = 1 ∧ t.fld F.CLK_STARTUP_TIME_US = min us 0xFFFFFFFF ∧ t.sys.keyZero.isSome = true ∧
      (s.sys.keyZero.isSome = true → t.sys.keyZero = s.sys.keyZero) ∧ t.store.resultSlot = s.formedSlot ∧ t.store.sinceCheck = {} ∧
      t.store.braceHalves.map (fun h => (h.erased, h.header)) = [(true, false), (true, false)] ∧
      (s.braceFound = none → t.fld F.PWR_BRACE_LAST_RESULT = 0) ∧
      ∀ h, s.braceFound = some h → t.fld F.PWR_BRACE_LAST_RESULT = (if h.committed = false then 2 else if h.dieFailed then 3 else 1) ∧ t.fld F.PWR_EVENT_BRACE_RECORD = 1) ∧
  (∀ (s : State), s.sys.refclk = true → ∃ t, exec .refclkLoss s = .next t ∧ t.sys.refclk = false ∧
    (s.inService = false → t.sys = { s.sys with refclk := false } ∧ Frame [.sys, .mgt, .regs, .out, .msix] s t) ∧
    (s.inService = true → t.sys.errFatal = true ∧ t.fld F.ERR_STATUS_FATAL = 1 ∧ t.fld F.CLK_EVENT_PORT_RESET = 1 ∧
      ∀ p < 16, (s.port p).state ≠ .disabled → (t.port p).state = .failed)) ∧
  (∀ (s : State), s.sys.refclk = false → ∃ t, exec .refclkRestored s = .next t ∧ t.sys = { s.sys with refclk := true } ∧ Frame [.sys, .mgt, .regs, .out, .msix] s t) ∧
  (∀ (s : State) (src : Nat) (v : Word), src < 128 → src % 64 = 0 →
    ∃ t, exec (.clkSscWrite src v) s = .next t ∧ Frame [.regs, .out, .msix] s t ∧
      (s.alignState ≠ 0 ∨ (∃ p < 16, (s.port p).state = .active ∧ ((s.port p).act.kind = 0 ∨ (s.port p).act.kind = 2)) →
        t.fld F.CLK_EVENT_SSC_REFUSED = 1 ∧ t.fld F.CLK_SSC_DEPTH = s.fld F.CLK_SSC_DEPTH ∧ t.fld F.CLK_STATUS_SSC_APPLIED = s.fld F.CLK_STATUS_SSC_APPLIED) ∧
      (s.alignState = 0 → (∀ p < 16, (s.port p).state = .active → (s.port p).act.kind ≠ 0 ∧ (s.port p).act.kind ≠ 2) →
        t.fld F.CLK_SSC_DEPTH = bf v 3 0 ∧ t.fld F.CLK_STATUS_SSC_APPLIED = min (bf v 3 0) 10)) ∧
  (∀ (s : State), (s.sys.sysRst = true → exec .sysRstAssert s = .next s) ∧ exec .sysRstDeassert s = .next { s with sys := { s.sys with sysRst := false } } ∧
    (s.sys.sysRst = false → ∃ t, exec .sysRstAssert s = .next t ∧ t.sys.sysRst = true ∧
      (s.sys.power = .off → t = { s with sys := { s.sys with sysRst := true } }) ∧
      (s.sys.power ≠ .off → s.sys.bracing = false → (s.sys.starting = true ∨ (s.inService = true ∧ s.fld F.CLK_STARTUP_STAGE < 12)) →
        t.sys.starting = false ∧ t.sys.cause = .sysRst ∧ t.cmdq.entries = {} ∧ t.sys.restartOk = false ∧ t.sys.power = if s.sys.vstby5 || s.sys.vin12 then .standby else .off) ∧
      (s.inService = true → s.sys.bracing = false → s.sys.starting = false → 12 ≤ s.fld F.CLK_STARTUP_STAGE →
        t.fld F.PWR_BRACE_LAST_CAUSE = 6 ∧ t.sys.cause = .sysRst ∧ t.sys.debug = .quiet ∧ (s.erasedHalf.isSome = true → t.sys.bracing = true ∧ t.fld F.PWR_STATUS_BRACING = 1)))) ∧
  (∀ (s : State) (p : Nat), p < 2 → s.sys.perst.length = 2 →
    exec (.perstDeassert p) s = .next { s with sys := { s.sys with perst := s.sys.perst.set p false } } ∧
    (s.sys.perst.getD p false = false → ∃ t, exec (.perstAssert p) s = .next t ∧ t.sys.perst = s.sys.perst.set p true ∧
      (s.inService = false → t = { s with sys := { s.sys with perst := s.sys.perst.set p true } }) ∧ (s.inService = true → t.fld F.CLK_EVENT_PORT_RESET = 1))) ∧
  (∀ (s : State), ∃ t, exec .fenceReqAssert s = .next t ∧ t.sys.fenceReq = true ∧ (s.inService = false → t = { s with sys := { s.sys with fenceReq := true } }) ∧
    (s.inService = true → t.fld F.CLK_EVENT_FENCE_REQ = 1 ∧ (s.fld F.CLK_STARTUP_STAGE < 7 → t.rack = s.rack) ∧
      (7 ≤ s.fld F.CLK_STARTUP_STAGE → t.rack.selfFenced = true ∧ (s.rack.selfFenced = false → t.sys.errFatal = true)))) ∧
  (∀ (s : State) (pin : Bool), exec (.tapReset pin) s = .next { s with sys := { s.sys with tapIr := 0, trst := s.sys.trst || pin } }) ∧
  (∀ (s : State) (a : JtagAccess), s.sys.power = .off → exec (.jtagDebugAccess a) s = .next { s with sys := { s.sys with trst := false } }) ∧
  (∀ (s q : State), s.sys.power ≠ .off → q = { s with sys := { s.sys with trst := false } } →
    exec (.jtagDebugAccess .bypass) s = .next { q with sys := { q.sys with tapIr := 3 } } ∧
    (∃ t n, exec (.jtagDebugAccess .idcode) s = .next t ∧ t.out = s.out ++ [.readData n] ∧ n / 2 ^ 28 = 1 ∧ Frame [.sys, .fresh, .out] s t) ∧
    (∃ t, exec (.jtagDebugAccess .boundary) s = .next t ∧ Frame [.sys] s t ∧ t.sys.tapIr = if s.inService && s.sys.vin12 then 3 else s.sys.tapIr) ∧
    (∀ port addr len, port < 2 → s.inService = true → s.sys.vin12 = true →
      (s.sys.debug ≠ .quiet → exec (.jtagDebugAccess (.readReg port addr len)) s = busRead (64 * port) addr len { q with sys := { q.sys with tapIr := 1 } }) ∧
      (s.sys.debug = .quiet → exec (.jtagDebugAccess (.readReg port addr len)) s = .next q)) ∧
    (∀ port addr len v, s.sys.debug = .quiet ∨ s.sys.debug = .observe → exec (.jtagDebugAccess (.writeReg port addr len v)) s = .next q) ∧
    (∀ c a, s.debugData = true → s.debugMayRead (((s.edge c).run.map (·.inv.comp)).getD (((s.edge c).last.map (·.2)).getD 0)) = true →
      ∃ t, exec (.jtagDebugAccess (.readPocket c a)) s = .next t ∧ t.out = s.out ++ [.readData (leNat ((s.edge c).bytes a 8))] ∧ Frame [.sys, .out] s t) ∧
    (∀ w a, s.debugData = true → s.debugMayRead ((((s.vec.walks.find? w).bind fun x => s.entry? x.entry).map fun e => pkComp e.packet).getD 0) = true →
      ∃ t n, exec (.jtagDebugAccess (.readWalk w a)) s = .next t ∧ t.out = s.out ++ [.readData n] ∧ Frame [.sys, .fresh, .out] s t) ∧
    (∀ a d, d = { q with sys := { q.sys with tapIr := 1 } } → s.debugData = true → s.storeUp = true → s.isHome a = true → s.debugMayRead ((s.slab a).comp.getD 0) = true →
      d.checkRead (a / 128) = (d, none) →
      exec (.jtagDebugAccess (.readGranule a)) s = .next (d.emit (.readData (leNat (s.bytes (a / 128 * 128) 128))))) ∧
    (∀ c a, s.debugMayRead (((s.edge c).run.map (·.inv.comp)).getD (((s.edge c).last.map (·.2)).getD 0)) = false → exec (.jtagDebugAccess (.readPocket c a)) s = .next q) ∧
    (s.inService = true → s.sys.vin12 = true → s.sys.debug = .invasive ∨ s.sys.debug = .maker →
      exec (.jtagDebugAccess .halt) s = .next { q with sys := { q.sys with tapIr := 1, halted := true } } ∧
      exec (.jtagDebugAccess .resume) s = .next { q with sys := { q.sys with tapIr := 1, halted := false } } ∧
      (s.sys.halted = true → exec (.jtagDebugAccess .step) s = .next { q with sys := { q.sys with tapIr := 1 } })) ∧
    (s.mayScan = true → exec (.jtagDebugAccess .scan) s = .next { q with sys := { q.sys with tapIr := 2, scanned := true } }) ∧
    (s.mayScan = false → exec (.jtagDebugAccess .scan) s = .next q))

/-- R603 to R608, R614 of the OEM reads: what the MCTP control, PLDM base, monitoring and Ranward OEM requests answer at an endpoint
that answers; at one that does not, nothing happens. -/
def Obligations.ManagementRequests : Prop :=
  (∀ (s : State) (addr : Nat), s.sys.power ≠ .off →
    ∃ t, exec (.entdaa addr) s = .next t ∧ t.mgt = { s.mgt with i3cAddr := some (addr % 128) } ∧ t.out = s.out ++ [.response 0 0 (toLe 6 (Config.dieId % 2 ^ 48))] ∧
      Frame [.mgt, .out] s t) ∧
  (∀ (s : State) (ep eid tid recv : Nat), s.answers ep .plain = true →
    (∃ t, exec (.setEndpointId ep eid) s = .next t ∧ Frame [.mgt, .out] s t ∧
      (8 ≤ eid → eid < 255 → t.mgt = { s.mgt with eids := s.mgt.eids.set ep (some eid) } ∧ t.out = s.out ++ [.response ep 0 [BitVec.ofNat 8 eid]]) ∧
      (eid < 8 ∨ 255 ≤ eid → t.mgt = s.mgt ∧ t.out = s.out ++ [.response ep 2 []])) ∧
    (∃ t, exec (.setTid ep tid) s = .next t ∧ Frame [.mgt, .out] s t ∧
      (0 < tid → tid < 255 → t.mgt = { s.mgt with tid := tid } ∧ t.out = s.out ++ [.response ep 0 []]) ∧
      (tid = 0 ∨ 255 ≤ tid → t.mgt = s.mgt ∧ t.out = s.out ++ [.response ep 2 []])) ∧
    (∃ t, exec (.setEventReceiver ep recv) s = .next t ∧ Frame [.mgt, .out] s t ∧ t.mgt = { s.mgt with receivers := s.mgt.receivers.set ep (some recv) } ∧
      t.out = s.out ++ [.response ep 0 []]) ∧
    ∃ t, exec (.pollForPlatformEventMessage ep) s = .next t ∧ Frame [.mgt, .out] s t ∧
      (s.mgt.queues.getD ep [] = [] → t.mgt = s.mgt ∧ t.out = s.out ++ [.response ep 0 []]) ∧
      ∀ a v l, s.mgt.queues.getD ep [] = (a, v) :: l → t.mgt = { s.mgt with queues := s.mgt.queues.set ep l } ∧ t.out = s.out ++ [.response ep 0 (toLe 2 a ++ toLe 1 v)]) ∧
  (∀ (s : State) (ep type : Nat), s.answers ep .plain = true →
    exec (.getEndpointId ep) s = .next (s.emit (.response ep 0 (toLe 1 ((s.mgt.eids.getD ep none).getD 0)))) ∧
    exec (.getEndpointUuid ep) s = .next (s.emit (.response ep 0 (Config.endpointUuid Config.dieId))) ∧
    exec (.getMctpVersionSupport ep) s = .next (s.emit (.response ep 0 [1, 3])) ∧
    exec (.getMessageTypeSupport ep) s = .next (s.emit (.response ep 0 [0x00, 0x01, 0x05, 0x06])) ∧
    exec (.getTid ep) s = .next (s.emit (.response ep 0 (toLe 1 s.mgt.tid))) ∧
    exec (.getPldmTypes ep) s = .next (s.emit (.response ep 0 (toLe 8 (2 ^ 0 + 2 ^ 2 + 2 ^ 5 + 2 ^ 63)))) ∧
    exec (.getPdrRepositoryInfo ep) s = .next (s.emit (.response ep 0 (toLe 4 32))) ∧
    exec (.readFirst ep) s = .next (s.emit (.response ep 0 (bvBytes (s.err.first.getD 0) 0 32))) ∧
    (∃ d, exec (.getPldmVersion ep type) s = .next (s.emit (.response ep (if type ∈ [0, 2, 5, 63] then 0 else 0x80) d)) ∧ (type ∈ [0, 2, 5, 63] → d.length = 4)) ∧
    ∃ d, exec (.getPldmCommands ep type) s = .next (s.emit (.response ep (if type ∈ [0, 2, 5, 63] then 0 else 0x80) d)) ∧ (type ∈ [0, 2, 5, 63] → d.length = 32)) ∧
  (∀ (s : State) (ep n mv : Nat), s.answers ep .plain = true →
    ((1 ≤ n ∧ n ≤ 26) ∨ (32 ≤ n ∧ n ≤ 37) → ∃ d, exec (.getPdr ep n) s = .next (s.emit (.response ep 0 (toLe 2 n ++ toLe 1 (if 32 ≤ n then 1 else 0) ++ d))) ∧
      (n = 1 → d = toLe 2 (100 * 8) ++ toLe 2 (115 * 8))) ∧
    (n = 0 ∨ (26 < n ∧ n < 32) ∨ 37 < n → exec (.getPdr ep n) s = .next (s.emit (.response ep 0x80 []))) ∧
    (1 ≤ n → n ≤ 26 → n = 24 ∨ ((s.sys.power = .run ∨ s.sys.power = .glide ∨ s.sys.power = .rest) ∧ 4 ≤ s.fld F.CLK_STARTUP_STAGE) →
      ∃ v, exec (.getSensorReading ep n mv) s = .next (s.emit (.response ep 0 (0 :: toLe 8 v))) ∧ (n = 1 → v = s.sys.dieTemp) ∧ (n = 22 → v = s.fld F.PWR_VIN_MV) ∧
        (n = 23 → v = s.fld F.PWR_POWER_AVG_1MS) ∧ (n = 24 → v = mv) ∧ (n = 25 → v = s.sys.energy / 100000)) ∧
    (1 ≤ n → n ≤ 26 → n ≠ 24 → s.sys.power = .standby ∨ s.fld F.CLK_STARTUP_STAGE < 4 → exec (.getSensorReading ep n mv) s = .next (s.emit (.response ep 0 [2]))) ∧
    (n = 0 ∨ 26 < n → exec (.getSensorReading ep n mv) s = .next (s.emit (.response ep 0x80 []))) ∧
    (32 ≤ n → n ≤ 37 → ∃ v, exec (.getStateSensorReadings ep n) s = .next (s.emit (.response ep 0 (0 :: toLe 1 v))) ∧ (n = 32 → v = s.sys.power.code) ∧
      (n = 33 → v = s.sys.lc.code) ∧ (n = 36 → v = s.fld F.PWR_BRACE_LAST_RESULT) ∧ (n = 37 → v = s.fld F.ERR_STATUS_FATAL))) ∧
  (∀ (s : State) (ep n len : Nat), s.answers ep .plain = true →
    (n < 64 → exec (.readSitzmark ep n) s = .next (s.emit (.response ep 0 (bvBytes (s.err.sitz.getD n 0) 0 32 ++ bvBytes (s.readReg 0 F.ERR_SITZ_STATUS_VALID.off) 0 4)))) ∧
    (64 ≤ n → exec (.readSitzmark ep n) s = .next (s.emit (.response ep 2 []))) ∧
    (1 ≤ len → len ≤ 192 → n + len ≤ s.sys.returnRecord.length → exec (.readReturn ep n len) s = .next (s.emit (.response ep 0 ((s.sys.returnRecord.drop n).take len)))) ∧
    (len = 0 ∨ 192 < len → exec (.readReturn ep n len) s = .next (s.emit (.response ep 3 []))) ∧
    (∃ t, exec (.readReg ep n) s = .next t ∧
      (0xA00000 ≤ n → n < 0xF00000 → n % 4 = 0 → t.out = s.out ++ [.response ep 0 (toLe 4 (s.readReg 0 n).toNat)]) ∧
      (n < 0xA00000 ∨ 0xF00000 ≤ n ∨ n % 4 ≠ 0 → t = s.emit (.response ep 2 [])))) ∧
  (∀ (s : State) (ep : Nat) (c : Instr), s.answers ep .plain = false →
    c ∈ [Instr.setEndpointId ep 9, .getEndpointId ep, .getEndpointUuid ep, .getMctpVersionSupport ep, .getMessageTypeSupport ep, .getTid ep, .setTid ep 1, .getPldmTypes ep,
      .getPdrRepositoryInfo ep, .getPdr ep 1, .getSensorReading ep 24 0, .getStateSensorReadings ep 32, .setEventReceiver ep 9, .pollForPlatformEventMessage ep, .readFirst ep,
      .readSitzmark ep 0, .readReg ep 0xA00000] → exec c s = .next s)

/-- R605, R609 to R611: a firmware update is requested, transferred, verified, activated or cancelled; without a session in SEALED
nothing is taken. -/
def Obligations.FirmwareUpdates : Prop :=
  (∀ (s : State) (ep : Nat) (ses : Option Nat) (c : Instr), s.mayUpdate ep ses = false →
    c ∈ [Instr.queryDeviceIdentifiers ep ses, .getFirmwareParameters ep ses, .requestUpdate ep ses 64, .passComponentTable ep ses true 0x7220, .updateComponent ep ses 1 1,
      .activateFirmware ep ses false, .getStatus ep ses, .cancelUpdateComponent ep ses, .cancelUpdate ep ses] → exec c s = .next s) ∧
  (∀ (s : State) (ep : Nat) (ses : Option Nat) (c : Instr), s.mayUpdate ep ses = true → s.mgt.update = none →
    c ∈ [Instr.passComponentTable ep ses true 0x7220, .updateComponent ep ses 1 1, .activateFirmware ep ses false, .cancelUpdateComponent ep ses, .cancelUpdate ep ses] →
    exec c s = .next (s.emit (.response ep 0x80 []))) ∧
  (∀ (s : State) (ep : Nat) (ses : Option Nat), s.mayUpdate ep ses = true →
    (∃ t d, exec (.queryDeviceIdentifiers ep ses) s = .next t ∧ t.out = s.out ++ [.response ep 0 d] ∧ d.length = 8 ∧ Frame [.fresh, .out] s t) ∧
    exec (.getFirmwareParameters ep ses) s = .next (s.emit (.response ep 0 (toLe 2 0x7220 ++ toLe 4 s.sys.fwVersion ++ toLe 4 s.mgt.fwVersion))) ∧
    ∃ v, exec (.getStatus ep ses) s = .next (s.emit (.response ep 0 (toLe 1 v ++ toLe 1 s.mgt.lastResult))) ∧ (s.mgt.update = none → v = 0)) ∧
  (∀ (s : State) (ep n : Nat) (ses : Option Nat), s.mayUpdate ep ses = true →
    (s.mgt.update.isSome = true → exec (.requestUpdate ep ses n) s = .next (s.emit (.response ep 0x81 []))) ∧
    (s.mgt.update = none → ∃ t, exec (.requestUpdate ep ses n) s = .next t ∧
      t.mgt = { s.mgt with update := some { endpoint := ep, slot := 1 - s.sys.bootSlot, maxTransfer := n }, lastSlot := 1 - s.sys.bootSlot } ∧
      t.sys = { s.sys with slotNow := s.sys.slotNow.set (1 - s.sys.bootSlot) (some noImage) } ∧ t.fld F.MGT_EVENT_FWUP = 1 ∧ Emit.response ep 0 [] ∈ t.out)) ∧
  (∀ (s : State) (ep : Nat) (ses : Option Nat) (fw : Bool) (id v size : Nat) (u : Update), s.mayUpdate ep ses = true → s.mgt.update = some u → u.state = .update →
    (fw = true → id = 0x7220 → ∃ t, exec (.passComponentTable ep ses fw id) s = .next t ∧ t.mgt = { s.mgt with update := some { u with listed := true } } ∧ t.out = s.out ++ [.response ep 0 [0]] ∧
      Frame [.mgt, .out] s t) ∧
    (fw = false ∨ id ≠ 0x7220 → exec (.passComponentTable ep ses fw id) s = .next (s.emit (.response ep 0 [1]))) ∧
    (u.listed = true → ∃ t, exec (.updateComponent ep ses v size) s = .next t ∧ Frame [.mgt, .out] s t ∧ t.out = s.out ++ [.response ep 0 []] ∧
      t.mgt = { s.mgt with update := some { u with state := .download, version := v, size := size, got := 0 }, fwVersion := v })) ∧
  (∀ (s : State) (ep n : Nat) (ses : Option Nat) (x : BootImage) (u : Update), s.mayUpdate ep ses = true → s.mgt.update = some u → u.state = .download → u.endpoint = ep →
    n ≤ u.maxTransfer → ∃ t, exec (.firmwareDataChunk ep ses n x) s = .next t ∧
      (u.got + n < u.size → t.mgt = { s.mgt with update := some { u with got := u.got + n } } ∧ Frame [.mgt] s t) ∧
      (u.size ≤ u.got + n → (s.headerValid x && x.bodyOk) = true → s.sys.fwVersion < x.version →
        t.mgt.update = some { u with state := .ready, got := u.size } ∧ t.mgt.lastResult = 1 ∧ t.mgt.lastSlot = u.slot ∧ t.mgt.fwVersion = x.version ∧
        t.sys = { s.sys with slotNow := s.sys.slotNow.set u.slot (some x) } ∧ t.fld F.MGT_EVENT_FWUP = 1) ∧
      (u.size ≤ u.got + n → (s.headerValid x && x.bodyOk) = false ∨ x.version ≤ s.sys.fwVersion →
        t.mgt.update = none ∧ t.mgt.lastResult = 2 ∧ t.mgt.lastSlot = u.slot ∧ t.sys = s.sys ∧ t.fld F.MGT_EVENT_FWUP = 1)) ∧
  (∀ (s : State) (ep : Nat) (ses : Option Nat) (u : Update), s.mayUpdate ep ses = true → s.mgt.update = some u →
    (u.state ≠ .ready → exec (.activateFirmware ep ses false) s = .next (s.emit (.response ep 0x85 []))) ∧
    (u.state = .ready → exec (.activateFirmware ep ses true) s = .next (s.emit (.response ep 0x8C [])) ∧
      ∃ t, exec (.activateFirmware ep ses false) s = .next t ∧ t.mgt = { s.mgt with update := none, activate := true } ∧ t.fld F.MGT_EVENT_FWUP = 1 ∧ t.sys = s.sys) ∧
    (u.state = .download → ∃ t, exec (.cancelUpdateComponent ep ses) s = .next t ∧ t.mgt = { s.mgt with update := some { u with state := .update, got := 0 }, lastResult := 3 } ∧
      t.fld F.MGT_EVENT_FWUP = 1 ∧ t.sys = s.sys) ∧
    (∃ t, exec (.cancelUpdate ep ses) s = .next t ∧ t.mgt.update = none ∧ t.mgt.lastResult = (if u.state = .ready then s.mgt.lastResult else 3) ∧ t.sys = s.sys))

/-- R616 to R626: the counters' controls act on every counter for a physical function and on a function's own otherwise; assignment
empties a counter; an overflow is noted; a live read latches the upper part. -/
def Obligations.PerformanceCounters : Prop :=
  (∀ (s : State) (src : Nat), (src < 128 ∧ src % 64 = 0) →
    (∃ t, exec (.pmcSnap src) s = .next t ∧ Frame [.mgt] s t ∧ ∀ k, t.pmc k = { s.pmc k with snap := (s.pmc k).value }) ∧
    (∃ t, exec (.pmcClearAll src) s = .next t ∧ Frame [.mgt] s t ∧ ∀ k, t.pmc k = { s.pmc k with value := 0 }) ∧
    exec (.pmcFreeze src) s = .next { s with mgt := { s.mgt with pmcFrozen := true } } ∧ exec (.pmcUnfreeze src) s = .next { s with mgt := { s.mgt with pmcFrozen := false } }) ∧
  (∀ (s : State) (src : Nat) (v : Word), src % 64 ≠ 0 ∨ 128 ≤ src →
    exec (.pmcSnap src) s = .next s ∧ exec (.pmcClearAll src) s = .next s ∧ exec (.pmcFreeze src) s = .next s ∧ exec (.pmcUnfreeze src) s = .next s ∧ exec (.pmcOwnerWrite src v) s = .next s) ∧
  (∀ (s : State) (src k : Nat),
    (∃ t, exec (.pmcVSnap src) s = .next t ∧ Frame [.mgt] s t ∧ t.pmc k = if (s.pmc k).assigned = true ∧ (s.pmc k).func = src then { s.pmc k with snap := (s.pmc k).value } else s.pmc k) ∧
    (∃ t, exec (.pmcVFreeze src) s = .next t ∧ Frame [.mgt] s t ∧ t.pmc k = if (s.pmc k).assigned = true ∧ (s.pmc k).func = src then { s.pmc k with frozen := true } else s.pmc k) ∧
    (∃ t, exec (.pmcVUnfreeze src) s = .next t ∧ Frame [.mgt] s t ∧ t.pmc k = if (s.pmc k).assigned = true ∧ (s.pmc k).func = src then { s.pmc k with frozen := false } else s.pmc k)) ∧
  (∀ (s : State) (src k : Nat) (v : Word), src < 128 → src % 64 = 0 → k = s.fld F.PMC_SEL_COUNTER →
    ∃ t, exec (.pmcOwnerWrite src v) s = .next t ∧ Frame [.mgt] s t ∧
      ((t.pmc k).func, (t.pmc k).vidx, (t.pmc k).assigned, (t.pmc k).globalOk) = (bf v 6 0, bf v 11 7, bit v 12, bit v 13) ∧
      (bit v 12 = true ∨ (s.pmc k).assigned = true → ((t.pmc k).value, (t.pmc k).snap, (t.pmc k).event, (t.pmc k).en, (t.pmc k).chain, (t.pmc k).mode) = (0, 0, 0, false, false, 0)) ∧
      (∀ j, j ≠ k → bit v 12 = true → (s.pmc j).assigned = true → (s.pmc j).func = bf v 6 0 → (s.pmc j).vidx = bf v 11 7 → (t.pmc j).assigned = false ∧ (t.pmc j).value = 0 ∧ (t.pmc j).en = false) ∧
      (∀ j, j ≠ k → bit v 12 = false ∨ (s.pmc j).assigned = false ∨ (s.pmc j).func ≠ bf v 6 0 ∨ (s.pmc j).vidx ≠ bf v 11 7 → t.pmc j = s.pmc j)) ∧
  (∀ (s : State) (k v : Nat), k < 2048 → (s.pmc k).en = true → (s.pmc k).frozen = false → s.mgt.pmcFrozen = false → s.chained k = false → s.chained (k + 1) = false ∨ k % 2 = 1 →
    ∃ t, exec (.pmcOverflow k v) s = .next t ∧ t.pmc k = { s.pmc k with value := v % 2 ^ 48, ovf := true } ∧ (∀ j, j ≠ k → t.pmc j = s.pmc j) ∧ t.fld F.MGT_EVENT_PMC_OVF = 1 ∧
      t.mgt.pmcFrozen = (s.pmc k).freezeOnOvf ∧ t.fld F.PMC_OVF_FIRST_VALID = 1 ∧
      (s.fld F.PMC_OVF_FIRST_VALID = 0 → t.fld F.PMC_OVF_FIRST_COUNTER = k) ∧ (s.fld F.PMC_OVF_FIRST_VALID = 1 → t.fld F.PMC_OVF_FIRST_COUNTER = s.fld F.PMC_OVF_FIRST_COUNTER)) ∧
  (∀ (s : State) (k v : Nat), k < 2048 → k % 2 = 0 → (s.pmc k).en = true → (s.pmc k).frozen = false → s.mgt.pmcFrozen = false → s.chained (k + 1) = true →
    (s.pmc (k + 1)).en = true → (s.pmc (k + 1)).frozen = false → (s.pmc (k + 1)).value + 1 < 2 ^ 48 →
    ∃ t, exec (.pmcOverflow k v) s = .next t ∧ Frame [.mgt] s t ∧ t.pmc k = { s.pmc k with value := v % 2 ^ 48 } ∧
      t.pmc (k + 1) = { s.pmc (k + 1) with value := (s.pmc (k + 1)).value + 1 }) ∧
  (∀ (s : State) (src k : Nat), src < 128 → src % 64 = 0 → k = s.fld F.PMC_SEL_COUNTER →
    ∃ t, exec (.pmcValueLoRead src F.PMC_VALUE_LO_VALUE.off F.PMC_VALUE_LO_VALUE.off 4) s = .next t ∧ Frame [.mgt, .out] s t ∧
      t.mgt = { s.mgt with pmcHi := (s.pmc k).value / 2 ^ 32 } ∧ t.out = s.out ++ [.readData ((s.pmc k).value % 2 ^ 32)])

/-- R6 to R9, R542 on the bus: a register takes a whole aligned word in the fields its row calls RW or W1C, an 8-byte access is its two
words with the lower first, any other write is discarded; an enable bit newly set over a pending event sends vector 0. -/
def Obligations.RegisterAccess : Prop :=
  (∀ (s : State) (src a len : Nat) (v : BitVec 64), ¬(len = 4 ∧ a % 4 = 0) → ¬(len = 8 ∧ a % 8 = 0) → exec (.registerWrite src a len v) s = .next s) ∧
  (∀ (s t : State) (src a : Nat) (v : BitVec 64), a % 8 = 0 → exec (.registerWrite src a 4 (BitVec.ofNat 64 (v.toNat % 2 ^ 32))) s = .next t →
    exec (.registerWrite src a 8 v) s = exec (.registerWrite src (a + 4) 4 (BitVec.ofNat 64 (v.toNat / 2 ^ 32))) t) ∧
  (∀ (s : State) (src off : Nat) (v : BitVec 64) (w : Word), s.mayWrite src off = true → w = BitVec.ofNat 32 v.toNat →
    off ∈ [F.CLK_SLEW_XSPI.off, F.CLK_MEAS_SEL_CLOCK.off, F.CLK_EVENT_STARTUP_DONE.off, F.TIER_EVENT_STORE_UP.off, F.PST_EVENT_ALIGN_LOCKED.off, F.MGT_EVENT_FWUP.off,
      F.FN_ADM_QP_ALLOT_QP.off, F.FN_ADM_LL_RESERVE_RESERVE.off, F.GATE_WD_SEL_CTX.off] →
    ∃ t, exec (.registerWrite src off 4 v) s = .next t ∧ Frame [.regs] s t ∧ t.regAt src off = written off (s.regAt src off) w ∧
      ∀ a b, regKey a b ≠ regKey src off → t.regAt a b = s.regAt a b) ∧
  (∀ (s : State) (src : Nat) (v : BitVec 64), src < 128 → src % 64 = 0 →
    ∃ t, exec (.registerWrite src F.CLK_EVENT_STARTUP_DONE.off 4 v) s = .next t ∧
      t.fld F.CLK_EVENT_STARTUP_DONE = (if v.getLsbD 0 then 0 else s.fld F.CLK_EVENT_STARTUP_DONE) ∧
      t.fld F.CLK_EVENT_PORT_RESET = (if v.getLsbD 3 then 0 else s.fld F.CLK_EVENT_PORT_RESET)) ∧
  (∀ (s : State) (src : Nat) (v : BitVec 64), ¬(src < 128 ∧ src % 64 = 0) → exec (.registerWrite src F.CLK_SLEW_XSPI.off 4 v) s = .next s) ∧
  (∀ (s : State) (src off : Nat) (v new : Word), isEventEn off = true → s.mayWrite src off = true → new = written off (s.regAt src off) v →
    ∃ t, exec (.eventEnWrite src off v) s = .next t ∧ t.regAt src off = new ∧ (∀ a b, regKey a b ≠ regKey src off → t.regAt a b = s.regAt a b) ∧ Frame [.regs, .out, .msix] s t ∧
      (new &&& ~~~(s.regAt src off) &&& s.regAt src (off - 4) = 0 → Frame [.regs] s t) ∧
      (new &&& ~~~(s.regAt src off) &&& s.regAt src (off - 4) ≠ 0 → s.cmdq.unmasked.getD (2048 * src) false = true → t.out = s.out ++ [.msix src 0]) ∧
      (new &&& ~~~(s.regAt src off) &&& s.regAt src (off - 4) ≠ 0 → s.cmdq.unmasked.getD (2048 * src) false = false →
        t.out = s.out ∧ t.cmdq.pbaPending.getD (2048 * src) false = true)) ∧
  (∀ (s : State) (src off : Nat) (v : Word), isEventEn off = false ∨ s.mayWrite src off = false → exec (.eventEnWrite src off v) s = .next s)

/-- R28, R30, R34, R501, R504, R513: a work item of another member is served under its epoch at its home, read, written or signalled
there and answered; one that this member does not home is told REMAP, one of a later epoch or before alignment waits. -/
def Obligations.WorkItems : Prop :=
  (∀ (s : State) (o i ep cls slot kind addr : Nat) (fwd role : Bool) (data : List Byte) (w : WorkItem),
    w = { origin := o, id := i, epoch := ep, forwarded := fwd, role := role, slot := slot, kind := kind, addr := addr, data := data, cls := cls } →
    kind ≠ 100 → kind ≠ 15 → kind ≠ 20 → s.MayServe o i cls →
    (s.epochAge ep = 0 → s.itemHome w = s.sys.member → exec (.work o i ep cls fwd role slot kind addr data) s = .next (s.serveWork w)) ∧
    (s.epochAge ep = 0 → s.itemHome w ≠ s.sys.member →
      ∃ t, exec (.work o i ep cls fwd role slot kind addr data) s = .next t ∧ t.out = s.out ++ [.workAnswer o i 0x0A 0xB6 []] ∧ Frame [.rack, .out] s t) ∧
    (0 < s.epochAge ep → s.epochAge ep < 32768 → s.itemHome w ≠ s.sys.member → s.frame ≤ s.rack.changeFrame + 64 → fwd = false →
      exec (.work o i ep cls fwd role slot kind addr data) s = .next (s.emit (.item (s.itemHome w) o i ep cls true role slot kind addr data))) ∧
    (0 < s.epochAge ep → s.epochAge ep < 32768 → s.itemHome w ≠ s.sys.member → fwd = true ∨ s.rack.changeFrame + 64 < s.frame →
      ∃ t, exec (.work o i ep cls fwd role slot kind addr data) s = .next t ∧ t.out = s.out ++ [.workAnswer o i 0x0A (if fwd then 0xB1 else 0xB0) []] ∧ Frame [.rack, .out] s t) ∧
    (32768 ≤ s.epochAge ep → exec (.work o i ep cls fwd role slot kind addr data) s = .next { s with rack := { s.rack with held := [(w, s.frame)] } })) ∧
  (∀ (s : State) (o i ep cls slot kind addr : Nat) (fwd role : Bool) (data : List Byte), s.memberState o ≠ .fenced →
    (s.sys.bracing = true → exec (.work o i ep cls fwd role slot kind addr data) s = .next (s.emit (.workAnswer o i 0x3F 0xF1 []))) ∧
    (s.sys.bracing = false → s.sys.power ≠ .rest → s.proxyOf o i = none → kind ≠ 100 → s.rack.held = [] → s.unaligned cls = true →
      ∃ t, exec (.work o i ep cls fwd role slot kind addr data) s = .next t ∧ t.rack.held.map (fun h => (h.1.origin, h.1.id, h.1.kind, h.1.data)) = [(o, i, kind, data)] ∧ Frame [.rack] s t)) ∧
  (∀ (s : State) (o i ep cls slot kind addr : Nat) (fwd role : Bool) (data : List Byte), s.memberState o = .fenced →
    exec (.work o i ep cls fwd role slot kind addr data) s = .next s) ∧
  (∀ (s r u v : State) (o i ep cls slot addr len : Nat) (fwd : Bool) (data d : List Byte), s.MayServe o i cls → s.epochAge ep = 0 → s.isHome addr = true →
    r = { s with rack := { s.rack with cls := cls } } → len = max 1 (fieldAt data 0 2 % 4097) →
    r.prepare (itemWaiter o i) (granulesOf addr len) [] = (u, false) → ((u.accessFor false (pagesOf addr len)).dropFetched (itemWaiter o i)).readStore addr len = (v, .ok d) →
    v.noneAway (itemWaiter o i) = true →
    ∃ t, exec (.work o i ep cls fwd false slot 0 addr data) s = .next t ∧ Emit.workAnswer o i 0 0 d ∈ t.out ∧ t.store = v.store) ∧
  (∀ (s r u v : State) (o i ep cls slot addr : Nat) (fwd : Bool) (data : List Byte), s.MayServe o i cls → s.epochAge ep = 0 → s.isHome addr = true →
    r = { s with rack := { s.rack with cls := cls } } → r.prepare (itemWaiter o i) [] (granulesOf addr data.length) = (u, false) →
    (u.accessFor true (pagesOf addr data.length)).writeStore addr data = (v, none) → v.noneAway (itemWaiter o i) = true →
    ∃ t, exec (.work o i ep cls fwd false slot 1 addr data) s = .next t ∧ Emit.workAnswer o i 0 0 [] ∈ t.out ∧ t.store = v.store) ∧
  (∀ (s : State) (o i ep cls slot addr k v : Nat) (fwd : Bool) (data : List Byte), s.MayServe o i cls → s.epochAge ep = 0 → s.serverOf slot = s.sys.member → slot < 64 →
    k = gateKey addr → s.gateFails k (fieldAt data 4 2) = none → s.gate.flips.find? k = none → v = (s.gateVal k + fieldAt data 0 4) % 2 ^ 32 →
    ∃ t, exec (.work o i ep cls fwd true slot 2 addr data) s = .next t ∧ t.gateVal k = v ∧ (∀ j, j ≠ k → t.gateVal j = s.gateVal j) ∧ t.store = s.store ∧
      Emit.workAnswer o i 0 0 (toLe 8 v) ∈ t.out)
end

