-- ==== Sys2Proof/Laws/Tab.lean ====
section
/-!
SUPPORT. The laws of sparse tables: a read after a write, and their canonical form.
-/
namespace Sys2Proof.Machine

variable {α β : Type}

theorem cellsFind_set_same (l : List (Nat × α)) (k : Nat) (v : α) : cellsFind (cellsSet l k v) k = some v := by
  induction l with
  | nil => simp [cellsSet, cellsFind]
  | cons c r ih =>
    obtain ⟨i, w⟩ := c
    unfold cellsSet
    split
    · simp [cellsFind]
    · split
      · simp [cellsFind]
      · rename_i h; simp [cellsFind, Ne.symm h, ih]

theorem cellsFind_set_other (l : List (Nat × α)) {k j : Nat} (v : α) (h : j ≠ k) :
    cellsFind (cellsSet l k v) j = cellsFind l j := by
  induction l with
  | nil => simp [cellsSet, cellsFind, Ne.symm h]
  | cons c r ih =>
    obtain ⟨i, w⟩ := c
    unfold cellsSet
    split
    · simp [cellsFind, Ne.symm h]
    · split
      · rename_i e; subst e; simp [cellsFind, Ne.symm h]
      · simp [cellsFind, ih]

theorem cellsFind_erase_same (l : List (Nat × α)) (k : Nat) : cellsFind (cellsErase l k) k = none := by
  induction l with
  | nil => rfl
  | cons c r ih =>
    obtain ⟨i, w⟩ := c
    unfold cellsErase
    split
    · exact ih
    · rename_i h; simp [cellsFind, h, ih]

theorem cellsFind_erase_other (l : List (Nat × α)) {k j : Nat} (h : j ≠ k) :
    cellsFind (cellsErase l k) j = cellsFind l j := by
  induction l with
  | nil => rfl
  | cons c r ih =>
    obtain ⟨i, w⟩ := c
    unfold cellsErase
    split
    · rename_i e; subst e; simp [cellsFind, Ne.symm h, ih]
    · simp [cellsFind, ih]

/-- Every key of a list is above a bound. -/
def cellsAbove (b : Nat) (l : List (Nat × α)) : Prop := ∀ c ∈ l, b < c.1

theorem cellsSorted_cons (i : Nat) (w : α) (r : List (Nat × α)) :
    cellsSorted ((i, w) :: r) = true ↔ cellsAbove i r ∧ cellsSorted r = true := by
  induction r generalizing i w with
  | nil => simp [cellsSorted, cellsAbove]
  | cons c r ih =>
    obtain ⟨j, v⟩ := c
    constructor
    · intro h
      simp only [cellsSorted, Bool.and_eq_true, decide_eq_true_eq] at h
      refine ⟨?_, h.2⟩
      intro c hc
      rcases List.mem_cons.mp hc with e | hc
      · subst e; exact h.1
      · exact Nat.lt_trans h.1 (((ih j v).mp h.2).1 c hc)
    · intro h
      simp only [cellsSorted, Bool.and_eq_true, decide_eq_true_eq]
      exact ⟨h.1 (j, v) (by simp), h.2⟩

theorem cellsAbove_set {b k : Nat} {v : α} {l : List (Nat × α)} (h : cellsAbove b l) (hk : b < k) :
    cellsAbove b (cellsSet l k v) := by
  induction l with
  | nil => intro c hc; simp [cellsSet] at hc; subst hc; exact hk
  | cons c r ih =>
    obtain ⟨i, w⟩ := c
    have hr : cellsAbove b r := fun c hc => h c (by simp [hc])
    unfold cellsSet
    split
    · intro c hc
      rcases List.mem_cons.mp hc with e | hc
      · subst e; exact hk
      · exact h c hc
    · split
      · intro c hc
        rcases List.mem_cons.mp hc with e | hc
        · subst e; exact hk
        · exact hr c hc
      · intro c hc
        rcases List.mem_cons.mp hc with e | hc
        · subst e; exact h (i, w) (by simp)
        · exact ih hr c hc

theorem cellsSorted_set {l : List (Nat × α)} (k : Nat) (v : α) (h : cellsSorted l = true) :
    cellsSorted (cellsSet l k v) = true := by
  induction l with
  | nil => rfl
  | cons c r ih =>
    obtain ⟨i, w⟩ := c
    have hs := (cellsSorted_cons i w r).mp h
    unfold cellsSet
    split
    · rename_i hk
      refine (cellsSorted_cons k v _).mpr ⟨?_, h⟩
      intro c hc
      rcases List.mem_cons.mp hc with e | hc
      · subst e; exact hk
      · exact Nat.lt_trans hk (hs.1 c hc)
    · split
      · rename_i e; subst e
        exact (cellsSorted_cons _ v r).mpr hs
      · refine (cellsSorted_cons i w _).mpr ⟨cellsAbove_set hs.1 (by omega), ih hs.2⟩

theorem cellsAbove_sublist {b : Nat} {l r : List (Nat × α)} (h : cellsAbove b l) (hs : ∀ c ∈ r, c ∈ l) : cellsAbove b r :=
  fun c hc => h c (hs c hc)

theorem cellsErase_mem {l : List (Nat × α)} {k : Nat} {c : Nat × α} (h : c ∈ cellsErase l k) : c ∈ l := by
  induction l with
  | nil => simp [cellsErase] at h
  | cons x r ih =>
    obtain ⟨i, w⟩ := x
    unfold cellsErase at h
    split at h
    · exact List.mem_cons_of_mem _ (ih h)
    · rcases List.mem_cons.mp h with e | h
      · subst e; simp
      · exact List.mem_cons_of_mem _ (ih h)

theorem cellsSorted_erase {l : List (Nat × α)} (k : Nat) (h : cellsSorted l = true) : cellsSorted (cellsErase l k) = true := by
  induction l with
  | nil => rfl
  | cons c r ih =>
    obtain ⟨i, w⟩ := c
    have hs := (cellsSorted_cons i w r).mp h
    unfold cellsErase
    split
    · exact ih hs.2
    · exact (cellsSorted_cons i w _).mpr ⟨cellsAbove_sublist hs.1 fun c hc => cellsErase_mem hc, ih hs.2⟩

theorem cellsSorted_filter {l : List (Nat × α)} (p : Nat × α → Bool) (h : cellsSorted l = true) :
    cellsSorted (l.filter p) = true := by
  induction l with
  | nil => rfl
  | cons c r ih =>
    obtain ⟨i, w⟩ := c
    have hs := (cellsSorted_cons i w r).mp h
    rw [List.filter_cons]
    split
    · exact (cellsSorted_cons i w _).mpr ⟨cellsAbove_sublist hs.1 fun c hc => (List.mem_filter.mp hc).1, ih hs.2⟩
    · exact ih hs.2

theorem Tab.find?_set_same (t : Tab α) (k : Nat) (v : α) : (t.set k v).find? k = some v := cellsFind_set_same t.cells k v
theorem Tab.find?_set_other (t : Tab α) {k j : Nat} (v : α) (h : j ≠ k) : (t.set k v).find? j = t.find? j :=
  cellsFind_set_other t.cells v h
@[simp] theorem Tab.getD_set_same (t : Tab α) (k : Nat) (v d : α) : (t.set k v).getD k d = v := by
  simp [Tab.getD, Tab.find?_set_same]
theorem Tab.getD_set_other (t : Tab α) {k j : Nat} (v d : α) (h : j ≠ k) : (t.set k v).getD j d = t.getD j d := by
  simp [Tab.getD, Tab.find?_set_other t v h]
@[simp] theorem Tab.find?_erase_same (t : Tab α) (k : Nat) : (t.erase k).find? k = none := cellsFind_erase_same t.cells k
theorem Tab.find?_erase_other (t : Tab α) {k j : Nat} (h : j ≠ k) : (t.erase k).find? j = t.find? j :=
  cellsFind_erase_other t.cells h
@[simp] theorem Tab.find?_set (t : Tab α) (k j : Nat) (v : α) :
    (t.set k v).find? j = if j = k then some v else t.find? j := by
  split
  · rename_i h; subst h; exact t.find?_set_same _ v
  · rename_i h; exact t.find?_set_other v h
theorem Tab.getD_set (t : Tab α) (k j : Nat) (v d : α) : (t.set k v).getD j d = if j = k then v else t.getD j d := by
  simp only [Tab.getD, Tab.find?_set]; split <;> rfl
theorem Tab.modify_of_find {t : Tab α} {k : Nat} {v : α} (h : t.find? k = some v) (f : α → α) :
    t.modify k f = t.set k (f v) := by simp [Tab.modify, h]
theorem Tab.find?_modify_same {t : Tab α} {k : Nat} {v : α} (h : t.find? k = some v) (f : α → α) :
    (t.modify k f).find? k = some (f v) := by simp [Tab.modify_of_find h]

/-- A filter by key keeps what stands at the keys it keeps, and nothing at the others. -/
theorem cellsFind_filter_key {α : Type} (p : Nat → Bool) (l : List (Nat × α)) (k : Nat) :
    cellsFind (l.filter fun c => p c.1) k = if p k then cellsFind l k else none := by
  induction l with
  | nil => simp [cellsFind]
  | cons c l ih =>
    obtain ⟨i, v⟩ := c
    by_cases hp : p i = true <;> by_cases hk : i = k <;> simp [List.filter_cons, cellsFind, hp, hk, ih]
    · subst hk; simp [hp, cellsFind]
    · subst hk; simpa [hp] using ih
theorem Tab.find?_filter_key {α : Type} (t : Tab α) (p : Nat → Bool) (k : Nat) :
    (t.filter fun i _ => p i).find? k = if p k then t.find? k else none := cellsFind_filter_key p t.cells k

end Sys2Proof.Machine
end

