-- ==== Sys2Proof/Laws/Field.lean ====
section
/-!
SUPPORT. The laws of bit fields and of the register file: what a field reads after a field was set.
-/
namespace Sys2Proof.Machine

open Sys2Proof

theorem bf_lt {n : Nat} (w : BitVec n) (hi lo : Nat) : bf w hi lo < 2 ^ (hi + 1 - lo) :=
  Nat.mod_lt _ (Nat.two_pow_pos _)

theorem bf_testBit {n : Nat} (w : BitVec n) (hi lo i : Nat) :
    (bf w hi lo).testBit i = (decide (i < hi + 1 - lo) && w.toNat.testBit (lo + i)) := by
  simp [bf, Nat.testBit_mod_two_pow, Nat.testBit_shiftRight]

/-- A field is part of its word. -/
theorem bf_mul_le {n : Nat} (w : BitVec n) (hi lo : Nat) : bf w hi lo * 2 ^ lo ≤ w.toNat := by
  unfold bf
  rw [Nat.shiftRight_eq_div_pow]
  calc w.toNat / 2 ^ lo % 2 ^ (hi + 1 - lo) * 2 ^ lo
      ≤ w.toNat / 2 ^ lo * 2 ^ lo := Nat.mul_le_mul_right _ (Nat.mod_le _ _)
    _ ≤ w.toNat := Nat.div_mul_le_self _ _

/-- A number in three parts around a field. -/
theorem split_field (a lo k : Nat) : a = a % 2 ^ lo + 2 ^ lo * (a / 2 ^ lo % 2 ^ k + 2 ^ k * (a / 2 ^ lo / 2 ^ k)) := by
  rw [Nat.mod_add_div, Nat.mod_add_div]

theorem setBf_testBit {n : Nat} (w : BitVec n) {hi lo : Nat} (v i : Nat) (h : lo ≤ hi) (hn : hi < n) :
    (setBf w hi lo v).toNat.testBit i = if lo ≤ i ∧ i ≤ hi then v.testBit (i - lo) else w.toNat.testBit i := by
  have hk : hi + 1 - lo + lo = hi + 1 := by omega
  generalize hkk : hi + 1 - lo = k at hk
  have e : w.toNat - bf w hi lo * 2 ^ lo + (v % 2 ^ (hi + 1 - lo)) * 2 ^ lo =
      2 ^ lo * (2 ^ k * (w.toNat / 2 ^ lo / 2 ^ k) + v % 2 ^ k) + w.toNat % 2 ^ lo := by
    have hs := split_field w.toNat lo k
    have hb : bf w hi lo = w.toNat / 2 ^ lo % 2 ^ k := by simp [bf, Nat.shiftRight_eq_div_pow, hkk]
    rw [hb, hkk]
    generalize w.toNat / 2 ^ lo / 2 ^ k = c at *
    generalize w.toNat / 2 ^ lo % 2 ^ k = b at *
    generalize w.toNat % 2 ^ lo = a at *
    rw [hs]
    generalize v % 2 ^ k = d
    have h1 : a + 2 ^ lo * (b + 2 ^ k * c) = b * 2 ^ lo + (2 ^ lo * (2 ^ k * c) + a) := by
      rw [Nat.mul_add, Nat.mul_comm b]; omega
    rw [h1, Nat.add_sub_cancel_left, Nat.mul_add, Nat.mul_comm d]; omega
  have hlt : 2 ^ lo * (2 ^ k * (w.toNat / 2 ^ lo / 2 ^ k) + v % 2 ^ k) + w.toNat % 2 ^ lo < 2 ^ n := by
    have h1 : w.toNat / 2 ^ lo / 2 ^ k = w.toNat / 2 ^ (lo + k) := by rw [Nat.div_div_eq_div_mul, Nat.pow_add]
    have h2 : w.toNat / 2 ^ (lo + k) < 2 ^ (n - (lo + k)) := by
      rw [Nat.div_lt_iff_lt_mul (Nat.two_pow_pos _), ← Nat.pow_add, show n - (lo + k) + (lo + k) = n by omega]
      exact w.isLt
    have h3 : v % 2 ^ k < 2 ^ k := Nat.mod_lt _ (Nat.two_pow_pos _)
    have h4 : w.toNat % 2 ^ lo < 2 ^ lo := Nat.mod_lt _ (Nat.two_pow_pos _)
    have h5 : 2 ^ n = 2 ^ lo * (2 ^ k * 2 ^ (n - (lo + k))) := by
      rw [← Nat.pow_add, ← Nat.pow_add]; congr 1; omega
    rw [h5, h1]
    generalize w.toNat / 2 ^ (lo + k) = c at *
    calc 2 ^ lo * (2 ^ k * c + v % 2 ^ k) + w.toNat % 2 ^ lo < 2 ^ lo * (2 ^ k * c + v % 2 ^ k) + 2 ^ lo := by omega
      _ = 2 ^ lo * (2 ^ k * c + v % 2 ^ k + 1) := by rw [Nat.mul_add _ _ 1, Nat.mul_one]
      _ ≤ 2 ^ lo * (2 ^ k * c + 2 ^ k) := Nat.mul_le_mul_left _ (by omega)
      _ = 2 ^ lo * (2 ^ k * (c + 1)) := by rw [Nat.mul_add (2 ^ k) c 1, Nat.mul_one]
      _ ≤ 2 ^ lo * (2 ^ k * 2 ^ (n - (lo + k))) := Nat.mul_le_mul_left _ (Nat.mul_le_mul_left _ h2)
  have e2 : (setBf w hi lo v).toNat = 2 ^ lo * (2 ^ k * (w.toNat / 2 ^ lo / 2 ^ k) + v % 2 ^ k) + w.toNat % 2 ^ lo := by
    rw [setBf, e, BitVec.toNat_ofNat, Nat.mod_eq_of_lt hlt]
  rw [e2]
  rw [Nat.testBit_two_pow_mul_add _ (Nat.mod_lt _ (Nat.two_pow_pos _))]
  by_cases hi1 : i < lo
  · simp [hi1, Nat.testBit_mod_two_pow, show ¬ lo ≤ i by omega]
  · rw [if_neg hi1, Nat.testBit_two_pow_mul_add _ (Nat.mod_lt _ (Nat.two_pow_pos _))]
    by_cases hi2 : i - lo < k
    · simp [hi2, Nat.testBit_mod_two_pow, show lo ≤ i ∧ i ≤ hi by omega]
    · rw [if_neg hi2, if_neg (by omega), Nat.testBit_div_two_pow, Nat.testBit_div_two_pow]
      congr 1; omega

/-- A field reads back what was set, modulo its size. -/
theorem bf_setBf_same {n : Nat} (w : BitVec n) {hi lo : Nat} (v : Nat) (h : lo ≤ hi) (hn : hi < n) :
    bf (setBf w hi lo v) hi lo = v % 2 ^ (hi + 1 - lo) := by
  apply Nat.eq_of_testBit_eq
  intro i
  rw [bf_testBit, setBf_testBit w v _ h hn, Nat.testBit_mod_two_pow]
  by_cases c : i < hi + 1 - lo
  · rw [if_pos (by omega), Nat.add_sub_cancel_left]
  · simp [c]

/-- A field beside the one that was set reads as before. -/
theorem bf_setBf_other {n : Nat} (w : BitVec n) {hi lo hi' lo' : Nat} (v : Nat) (h : lo ≤ hi) (hn : hi < n)
    (hd : hi' < lo ∨ hi < lo') : bf (setBf w hi lo v) hi' lo' = bf w hi' lo' := by
  apply Nat.eq_of_testBit_eq
  intro i
  rw [bf_testBit, bf_testBit, setBf_testBit w v _ h hn]
  by_cases c : i < hi' + 1 - lo'
  · rw [if_neg (by omega)]
  · simp [c]

theorem State.regAt_setRegAt (s : State) (src off a b : Nat) (w : Word) :
    (s.setRegAt src off w).regAt a b = if regKey a b = regKey src off then w else s.regAt a b := by
  simp only [State.regAt, State.setRegAt, Tab.getD_set]

@[simp] theorem State.regAt_setRegAt_same (s : State) (src off : Nat) (w : Word) : (s.setRegAt src off w).regAt src off = w := by
  simp [State.regAt, State.setRegAt]

theorem State.regAt_setRegAt_other (s : State) {src off a b : Nat} (w : Word) (h : regKey a b ≠ regKey src off) :
    (s.setRegAt src off w).regAt a b = s.regAt a b := by
  simp [State.regAt, State.setRegAt, Tab.getD_set, h]

/-- A field of a register that stands once reads back what was set. -/
theorem State.fld_setFld_same (s : State) (f : Fld) (v : Nat) (h : f.lo ≤ f.hi ∧ f.hi < 32 ∧ v < 2 ^ (f.hi + 1 - f.lo)) :
    (s.setFld f v).fld f = v := by
  simp only [State.fld, State.setFld, State.regAt_setRegAt_same]
  rw [bf_setBf_same _ _ h.1 h.2.1, Nat.mod_eq_of_lt h.2.2]

theorem State.fld_setFld_mod (s : State) (f : Fld) (v : Nat) (h : f.lo ≤ f.hi ∧ f.hi < 32) :
    (s.setFld f v).fld f = v % 2 ^ (f.hi + 1 - f.lo) := by
  simp only [State.fld, State.setFld, State.regAt_setRegAt_same]
  exact bf_setBf_same _ _ h.1 h.2
theorem State.fldAt_setFldAt_mod (s : State) (src : Nat) (f : Fld) (v : Nat) (h : f.lo ≤ f.hi ∧ f.hi < 32) :
    (s.setFldAt src f v).fldAt src f = v % 2 ^ (f.hi + 1 - f.lo) := by
  simp only [State.fldAt, State.setFldAt, State.regAt_setRegAt_same]
  exact bf_setBf_same _ _ h.1 h.2
/-- Fields follow the register file alone. -/
theorem State.fld_congr {s t : State} (h : t.regs = s.regs) (g : Fld) : t.fld g = s.fld g := by
  simp only [State.fld, State.regAt, h]

/-- A field of another register, or beside it in the same register, is unchanged. -/
theorem State.fld_setFld_other (s : State) (f g : Fld) (v : Nat) (h : f.lo ≤ f.hi ∧ f.hi < 32)
    (hd : regKey 0 g.off ≠ regKey 0 f.off ∨ g.off = f.off ∧ (g.hi < f.lo ∨ f.hi < g.lo)) :
    (s.setFld f v).fld g = s.fld g := by
  rcases hd with hd | ⟨e, hd⟩
  · simp only [State.fld, State.setFld, State.regAt_setRegAt_other s _ hd]
  · simp only [State.fld, State.setFld, e, State.regAt_setRegAt_same]
    rw [bf_setBf_other _ _ h.1 h.2 hd]

theorem State.fldAt_setFldAt_same (s : State) (src : Nat) (f : Fld) (v : Nat)
    (h : f.lo ≤ f.hi ∧ f.hi < 32 ∧ v < 2 ^ (f.hi + 1 - f.lo)) : (s.setFldAt src f v).fldAt src f = v := by
  simp only [State.fldAt, State.setFldAt, State.regAt_setRegAt_same]
  rw [bf_setBf_same _ _ h.1 h.2.1, Nat.mod_eq_of_lt h.2.2]

theorem State.fldAt_setFldAt_other (s : State) (src a : Nat) (f g : Fld) (v : Nat) (h : f.lo ≤ f.hi ∧ f.hi < 32)
    (hd : regKey a g.off ≠ regKey src f.off ∨ a = src ∧ g.off = f.off ∧ (g.hi < f.lo ∨ f.hi < g.lo)) :
    (s.setFldAt src f v).fldAt a g = s.fldAt a g := by
  rcases hd with hd | ⟨ea, e, hd⟩
  · simp only [State.fldAt, State.setFldAt, State.regAt_setRegAt_other s _ hd]
  · subst ea
    simp only [State.fldAt, State.setFldAt, e, State.regAt_setRegAt_same]
    rw [bf_setBf_other _ _ h.1 h.2 hd]

theorem State.fld_eq_fldAt (s : State) (f : Fld) : s.fld f = s.fldAt 0 f := rfl

end Sys2Proof.Machine
end

