-- ==== Sys2Proof/Laws/State.lean ====
section
/-!
SUPPORT. The parts of the state that each named operation leaves alone: one lemma for a part and an operation.
-/
namespace Sys2Proof.Machine

/-- A fold keeps what each of its steps keeps. -/
theorem foldl_keeps {α β : Type} (g : State → β) (f : State → α → State) (h : ∀ s a, g (f s a) = g s) (l : List α) (s : State) :
    g (l.foldl f s) = g s := by
  induction l generalizing s with
  | nil => rfl
  | cons a l ih => exact (ih _).trans (h s a)

@[simp] theorem State.emit_pending (s : State) (e : Sys2Proof.Emit) : (State.emit s e).pending = s.pending := rfl
@[simp] theorem State.emit_regs (s : State) (e : Sys2Proof.Emit) : (State.emit s e).regs = s.regs := rfl
@[simp] theorem State.emit_frame (s : State) (e : Sys2Proof.Emit) : (State.emit s e).frame = s.frame := rfl
@[simp] theorem State.emit_fresh (s : State) (e : Sys2Proof.Emit) : (State.emit s e).fresh = s.fresh := rfl
@[simp] theorem State.emit_cmdq (s : State) (e : Sys2Proof.Emit) : (State.emit s e).cmdq = s.cmdq := rfl
@[simp] theorem State.emit_pst (s : State) (e : Sys2Proof.Emit) : (State.emit s e).pst = s.pst := rfl
@[simp] theorem State.emit_xlt (s : State) (e : Sys2Proof.Emit) : (State.emit s e).xlt = s.xlt := rfl
@[simp] theorem State.emit_store (s : State) (e : Sys2Proof.Emit) : (State.emit s e).store = s.store := rfl
@[simp] theorem State.emit_core (s : State) (e : Sys2Proof.Emit) : (State.emit s e).core = s.core := rfl
@[simp] theorem State.emit_emb (s : State) (e : Sys2Proof.Emit) : (State.emit s e).emb = s.emb := rfl
@[simp] theorem State.emit_vec (s : State) (e : Sys2Proof.Emit) : (State.emit s e).vec = s.vec := rfl
@[simp] theorem State.emit_rpl (s : State) (e : Sys2Proof.Emit) : (State.emit s e).rpl = s.rpl := rfl
@[simp] theorem State.emit_kvp (s : State) (e : Sys2Proof.Emit) : (State.emit s e).kvp = s.kvp := rfl
@[simp] theorem State.emit_hxl (s : State) (e : Sys2Proof.Emit) : (State.emit s e).hxl = s.hxl := rfl
@[simp] theorem State.emit_coh (s : State) (e : Sys2Proof.Emit) : (State.emit s e).coh = s.coh := rfl
@[simp] theorem State.emit_gate (s : State) (e : Sys2Proof.Emit) : (State.emit s e).gate = s.gate := rfl
@[simp] theorem State.emit_err (s : State) (e : Sys2Proof.Emit) : (State.emit s e).err = s.err := rfl
@[simp] theorem State.emit_rack (s : State) (e : Sys2Proof.Emit) : (State.emit s e).rack = s.rack := rfl
@[simp] theorem State.emit_sys (s : State) (e : Sys2Proof.Emit) : (State.emit s e).sys = s.sys := rfl
@[simp] theorem State.emit_mgt (s : State) (e : Sys2Proof.Emit) : (State.emit s e).mgt = s.mgt := rfl
@[simp] theorem State.tickFresh_pending (s : State) : (State.tickFresh s).pending = s.pending := rfl
@[simp] theorem State.tickFresh_regs (s : State) : (State.tickFresh s).regs = s.regs := rfl
@[simp] theorem State.tickFresh_frame (s : State) : (State.tickFresh s).frame = s.frame := rfl
@[simp] theorem State.tickFresh_out (s : State) : (State.tickFresh s).out = s.out := rfl
@[simp] theorem State.tickFresh_cmdq (s : State) : (State.tickFresh s).cmdq = s.cmdq := rfl
@[simp] theorem State.tickFresh_pst (s : State) : (State.tickFresh s).pst = s.pst := rfl
@[simp] theorem State.tickFresh_xlt (s : State) : (State.tickFresh s).xlt = s.xlt := rfl
@[simp] theorem State.tickFresh_store (s : State) : (State.tickFresh s).store = s.store := rfl
@[simp] theorem State.tickFresh_core (s : State) : (State.tickFresh s).core = s.core := rfl
@[simp] theorem State.tickFresh_emb (s : State) : (State.tickFresh s).emb = s.emb := rfl
@[simp] theorem State.tickFresh_vec (s : State) : (State.tickFresh s).vec = s.vec := rfl
@[simp] theorem State.tickFresh_rpl (s : State) : (State.tickFresh s).rpl = s.rpl := rfl
@[simp] theorem State.tickFresh_kvp (s : State) : (State.tickFresh s).kvp = s.kvp := rfl
@[simp] theorem State.tickFresh_hxl (s : State) : (State.tickFresh s).hxl = s.hxl := rfl
@[simp] theorem State.tickFresh_coh (s : State) : (State.tickFresh s).coh = s.coh := rfl
@[simp] theorem State.tickFresh_gate (s : State) : (State.tickFresh s).gate = s.gate := rfl
@[simp] theorem State.tickFresh_err (s : State) : (State.tickFresh s).err = s.err := rfl
@[simp] theorem State.tickFresh_rack (s : State) : (State.tickFresh s).rack = s.rack := rfl
@[simp] theorem State.tickFresh_sys (s : State) : (State.tickFresh s).sys = s.sys := rfl
@[simp] theorem State.tickFresh_mgt (s : State) : (State.tickFresh s).mgt = s.mgt := rfl
@[simp] theorem State.setRegAt_pending (s : State) (src : Nat) (off : Nat) (w : Sys2Proof.Word) : (State.setRegAt s src off w).pending = s.pending := rfl
@[simp] theorem State.setRegAt_frame (s : State) (src : Nat) (off : Nat) (w : Sys2Proof.Word) : (State.setRegAt s src off w).frame = s.frame := rfl
@[simp] theorem State.setRegAt_fresh (s : State) (src : Nat) (off : Nat) (w : Sys2Proof.Word) : (State.setRegAt s src off w).fresh = s.fresh := rfl
@[simp] theorem State.setRegAt_out (s : State) (src : Nat) (off : Nat) (w : Sys2Proof.Word) : (State.setRegAt s src off w).out = s.out := rfl
@[simp] theorem State.setRegAt_cmdq (s : State) (src : Nat) (off : Nat) (w : Sys2Proof.Word) : (State.setRegAt s src off w).cmdq = s.cmdq := rfl
@[simp] theorem State.setRegAt_pst (s : State) (src : Nat) (off : Nat) (w : Sys2Proof.Word) : (State.setRegAt s src off w).pst = s.pst := rfl
@[simp] theorem State.setRegAt_xlt (s : State) (src : Nat) (off : Nat) (w : Sys2Proof.Word) : (State.setRegAt s src off w).xlt = s.xlt := rfl
@[simp] theorem State.setRegAt_store (s : State) (src : Nat) (off : Nat) (w : Sys2Proof.Word) : (State.setRegAt s src off w).store = s.store := rfl
@[simp] theorem State.setRegAt_core (s : State) (src : Nat) (off : Nat) (w : Sys2Proof.Word) : (State.setRegAt s src off w).core = s.core := rfl
@[simp] theorem State.setRegAt_emb (s : State) (src : Nat) (off : Nat) (w : Sys2Proof.Word) : (State.setRegAt s src off w).emb = s.emb := rfl
@[simp] theorem State.setRegAt_vec (s : State) (src : Nat) (off : Nat) (w : Sys2Proof.Word) : (State.setRegAt s src off w).vec = s.vec := rfl
@[simp] theorem State.setRegAt_rpl (s : State) (src : Nat) (off : Nat) (w : Sys2Proof.Word) : (State.setRegAt s src off w).rpl = s.rpl := rfl
@[simp] theorem State.setRegAt_kvp (s : State) (src : Nat) (off : Nat) (w : Sys2Proof.Word) : (State.setRegAt s src off w).kvp = s.kvp := rfl
@[simp] theorem State.setRegAt_hxl (s : State) (src : Nat) (off : Nat) (w : Sys2Proof.Word) : (State.setRegAt s src off w).hxl = s.hxl := rfl
@[simp] theorem State.setRegAt_coh (s : State) (src : Nat) (off : Nat) (w : Sys2Proof.Word) : (State.setRegAt s src off w).coh = s.coh := rfl
@[simp] theorem State.setRegAt_gate (s : State) (src : Nat) (off : Nat) (w : Sys2Proof.Word) : (State.setRegAt s src off w).gate = s.gate := rfl
@[simp] theorem State.setRegAt_err (s : State) (src : Nat) (off : Nat) (w : Sys2Proof.Word) : (State.setRegAt s src off w).err = s.err := rfl
@[simp] theorem State.setRegAt_rack (s : State) (src : Nat) (off : Nat) (w : Sys2Proof.Word) : (State.setRegAt s src off w).rack = s.rack := rfl
@[simp] theorem State.setRegAt_sys (s : State) (src : Nat) (off : Nat) (w : Sys2Proof.Word) : (State.setRegAt s src off w).sys = s.sys := rfl
@[simp] theorem State.setRegAt_mgt (s : State) (src : Nat) (off : Nat) (w : Sys2Proof.Word) : (State.setRegAt s src off w).mgt = s.mgt := rfl
@[simp] theorem State.setFld_pending (s : State) (f : Fld) (v : Nat) : (State.setFld s f v).pending = s.pending := rfl
@[simp] theorem State.setFld_frame (s : State) (f : Fld) (v : Nat) : (State.setFld s f v).frame = s.frame := rfl
@[simp] theorem State.setFld_fresh (s : State) (f : Fld) (v : Nat) : (State.setFld s f v).fresh = s.fresh := rfl
@[simp] theorem State.setFld_out (s : State) (f : Fld) (v : Nat) : (State.setFld s f v).out = s.out := rfl
@[simp] theorem State.setFld_cmdq (s : State) (f : Fld) (v : Nat) : (State.setFld s f v).cmdq = s.cmdq := rfl
@[simp] theorem State.setFld_pst (s : State) (f : Fld) (v : Nat) : (State.setFld s f v).pst = s.pst := rfl
@[simp] theorem State.setFld_xlt (s : State) (f : Fld) (v : Nat) : (State.setFld s f v).xlt = s.xlt := rfl
@[simp] theorem State.setFld_store (s : State) (f : Fld) (v : Nat) : (State.setFld s f v).store = s.store := rfl
@[simp] theorem State.setFld_core (s : State) (f : Fld) (v : Nat) : (State.setFld s f v).core = s.core := rfl
@[simp] theorem State.setFld_emb (s : State) (f : Fld) (v : Nat) : (State.setFld s f v).emb = s.emb := rfl
@[simp] theorem State.setFld_vec (s : State) (f : Fld) (v : Nat) : (State.setFld s f v).vec = s.vec := rfl
@[simp] theorem State.setFld_rpl (s : State) (f : Fld) (v : Nat) : (State.setFld s f v).rpl = s.rpl := rfl
@[simp] theorem State.setFld_kvp (s : State) (f : Fld) (v : Nat) : (State.setFld s f v).kvp = s.kvp := rfl
@[simp] theorem State.setFld_hxl (s : State) (f : Fld) (v : Nat) : (State.setFld s f v).hxl = s.hxl := rfl
@[simp] theorem State.setFld_coh (s : State) (f : Fld) (v : Nat) : (State.setFld s f v).coh = s.coh := rfl
@[simp] theorem State.setFld_gate (s : State) (f : Fld) (v : Nat) : (State.setFld s f v).gate = s.gate := rfl
@[simp] theorem State.setFld_err (s : State) (f : Fld) (v : Nat) : (State.setFld s f v).err = s.err := rfl
@[simp] theorem State.setFld_rack (s : State) (f : Fld) (v : Nat) : (State.setFld s f v).rack = s.rack := rfl
@[simp] theorem State.setFld_sys (s : State) (f : Fld) (v : Nat) : (State.setFld s f v).sys = s.sys := rfl
@[simp] theorem State.setFld_mgt (s : State) (f : Fld) (v : Nat) : (State.setFld s f v).mgt = s.mgt := rfl
@[simp] theorem State.setFldAt_pending (s : State) (src : Nat) (f : Fld) (v : Nat) : (State.setFldAt s src f v).pending = s.pending := rfl
@[simp] theorem State.setFldAt_frame (s : State) (src : Nat) (f : Fld) (v : Nat) : (State.setFldAt s src f v).frame = s.frame := rfl
@[simp] theorem State.setFldAt_fresh (s : State) (src : Nat) (f : Fld) (v : Nat) : (State.setFldAt s src f v).fresh = s.fresh := rfl
@[simp] theorem State.setFldAt_out (s : State) (src : Nat) (f : Fld) (v : Nat) : (State.setFldAt s src f v).out = s.out := rfl
@[simp] theorem State.setFldAt_cmdq (s : State) (src : Nat) (f : Fld) (v : Nat) : (State.setFldAt s src f v).cmdq = s.cmdq := rfl
@[simp] theorem State.setFldAt_pst (s : State) (src : Nat) (f : Fld) (v : Nat) : (State.setFldAt s src f v).pst = s.pst := rfl
@[simp] theorem State.setFldAt_xlt (s : State) (src : Nat) (f : Fld) (v : Nat) : (State.setFldAt s src f v).xlt = s.xlt := rfl
@[simp] theorem State.setFldAt_store (s : State) (src : Nat) (f : Fld) (v : Nat) : (State.setFldAt s src f v).store = s.store := rfl
@[simp] theorem State.setFldAt_core (s : State) (src : Nat) (f : Fld) (v : Nat) : (State.setFldAt s src f v).core = s.core := rfl
@[simp] theorem State.setFldAt_emb (s : State) (src : Nat) (f : Fld) (v : Nat) : (State.setFldAt s src f v).emb = s.emb := rfl
@[simp] theorem State.setFldAt_vec (s : State) (src : Nat) (f : Fld) (v : Nat) : (State.setFldAt s src f v).vec = s.vec := rfl
@[simp] theorem State.setFldAt_rpl (s : State) (src : Nat) (f : Fld) (v : Nat) : (State.setFldAt s src f v).rpl = s.rpl := rfl
@[simp] theorem State.setFldAt_kvp (s : State) (src : Nat) (f : Fld) (v : Nat) : (State.setFldAt s src f v).kvp = s.kvp := rfl
@[simp] theorem State.setFldAt_hxl (s : State) (src : Nat) (f : Fld) (v : Nat) : (State.setFldAt s src f v).hxl = s.hxl := rfl
@[simp] theorem State.setFldAt_coh (s : State) (src : Nat) (f : Fld) (v : Nat) : (State.setFldAt s src f v).coh = s.coh := rfl
@[simp] theorem State.setFldAt_gate (s : State) (src : Nat) (f : Fld) (v : Nat) : (State.setFldAt s src f v).gate = s.gate := rfl
@[simp] theorem State.setFldAt_err (s : State) (src : Nat) (f : Fld) (v : Nat) : (State.setFldAt s src f v).err = s.err := rfl
@[simp] theorem State.setFldAt_rack (s : State) (src : Nat) (f : Fld) (v : Nat) : (State.setFldAt s src f v).rack = s.rack := rfl
@[simp] theorem State.setFldAt_sys (s : State) (src : Nat) (f : Fld) (v : Nat) : (State.setFldAt s src f v).sys = s.sys := rfl
@[simp] theorem State.setFldAt_mgt (s : State) (src : Nat) (f : Fld) (v : Nat) : (State.setFldAt s src f v).mgt = s.mgt := rfl
@[simp] theorem State.count_pending (s : State) (f : Fld) (n : optParam Nat 1) : (State.count s f n).pending = s.pending := rfl
@[simp] theorem State.count_frame (s : State) (f : Fld) (n : optParam Nat 1) : (State.count s f n).frame = s.frame := rfl
@[simp] theorem State.count_fresh (s : State) (f : Fld) (n : optParam Nat 1) : (State.count s f n).fresh = s.fresh := rfl
@[simp] theorem State.count_out (s : State) (f : Fld) (n : optParam Nat 1) : (State.count s f n).out = s.out := rfl
@[simp] theorem State.count_cmdq (s : State) (f : Fld) (n : optParam Nat 1) : (State.count s f n).cmdq = s.cmdq := rfl
@[simp] theorem State.count_pst (s : State) (f : Fld) (n : optParam Nat 1) : (State.count s f n).pst = s.pst := rfl
@[simp] theorem State.count_xlt (s : State) (f : Fld) (n : optParam Nat 1) : (State.count s f n).xlt = s.xlt := rfl
@[simp] theorem State.count_store (s : State) (f : Fld) (n : optParam Nat 1) : (State.count s f n).store = s.store := rfl
@[simp] theorem State.count_core (s : State) (f : Fld) (n : optParam Nat 1) : (State.count s f n).core = s.core := rfl
@[simp] theorem State.count_emb (s : State) (f : Fld) (n : optParam Nat 1) : (State.count s f n).emb = s.emb := rfl
@[simp] theorem State.count_vec (s : State) (f : Fld) (n : optParam Nat 1) : (State.count s f n).vec = s.vec := rfl
@[simp] theorem State.count_rpl (s : State) (f : Fld) (n : optParam Nat 1) : (State.count s f n).rpl = s.rpl := rfl
@[simp] theorem State.count_kvp (s : State) (f : Fld) (n : optParam Nat 1) : (State.count s f n).kvp = s.kvp := rfl
@[simp] theorem State.count_hxl (s : State) (f : Fld) (n : optParam Nat 1) : (State.count s f n).hxl = s.hxl := rfl
@[simp] theorem State.count_coh (s : State) (f : Fld) (n : optParam Nat 1) : (State.count s f n).coh = s.coh := rfl
@[simp] theorem State.count_gate (s : State) (f : Fld) (n : optParam Nat 1) : (State.count s f n).gate = s.gate := rfl
@[simp] theorem State.count_err (s : State) (f : Fld) (n : optParam Nat 1) : (State.count s f n).err = s.err := rfl
@[simp] theorem State.count_rack (s : State) (f : Fld) (n : optParam Nat 1) : (State.count s f n).rack = s.rack := rfl
@[simp] theorem State.count_sys (s : State) (f : Fld) (n : optParam Nat 1) : (State.count s f n).sys = s.sys := rfl
@[simp] theorem State.count_mgt (s : State) (f : Fld) (n : optParam Nat 1) : (State.count s f n).mgt = s.mgt := rfl
@[simp] theorem State.countWrap_pending (s : State) (f : Fld) (n : optParam Nat 1) : (State.countWrap s f n).pending = s.pending := rfl
@[simp] theorem State.countWrap_frame (s : State) (f : Fld) (n : optParam Nat 1) : (State.countWrap s f n).frame = s.frame := rfl
@[simp] theorem State.countWrap_fresh (s : State) (f : Fld) (n : optParam Nat 1) : (State.countWrap s f n).fresh = s.fresh := rfl
@[simp] theorem State.countWrap_out (s : State) (f : Fld) (n : optParam Nat 1) : (State.countWrap s f n).out = s.out := rfl
@[simp] theorem State.countWrap_cmdq (s : State) (f : Fld) (n : optParam Nat 1) : (State.countWrap s f n).cmdq = s.cmdq := rfl
@[simp] theorem State.countWrap_pst (s : State) (f : Fld) (n : optParam Nat 1) : (State.countWrap s f n).pst = s.pst := rfl
@[simp] theorem State.countWrap_xlt (s : State) (f : Fld) (n : optParam Nat 1) : (State.countWrap s f n).xlt = s.xlt := rfl
@[simp] theorem State.countWrap_store (s : State) (f : Fld) (n : optParam Nat 1) : (State.countWrap s f n).store = s.store := rfl
@[simp] theorem State.countWrap_core (s : State) (f : Fld) (n : optParam Nat 1) : (State.countWrap s f n).core = s.core := rfl
@[simp] theorem State.countWrap_emb (s : State) (f : Fld) (n : optParam Nat 1) : (State.countWrap s f n).emb = s.emb := rfl
@[simp] theorem State.countWrap_vec (s : State) (f : Fld) (n : optParam Nat 1) : (State.countWrap s f n).vec = s.vec := rfl
@[simp] theorem State.countWrap_rpl (s : State) (f : Fld) (n : optParam Nat 1) : (State.countWrap s f n).rpl = s.rpl := rfl
@[simp] theorem State.countWrap_kvp (s : State) (f : Fld) (n : optParam Nat 1) : (State.countWrap s f n).kvp = s.kvp := rfl
@[simp] theorem State.countWrap_hxl (s : State) (f : Fld) (n : optParam Nat 1) : (State.countWrap s f n).hxl = s.hxl := rfl
@[simp] theorem State.countWrap_coh (s : State) (f : Fld) (n : optParam Nat 1) : (State.countWrap s f n).coh = s.coh := rfl
@[simp] theorem State.countWrap_gate (s : State) (f : Fld) (n : optParam Nat 1) : (State.countWrap s f n).gate = s.gate := rfl
@[simp] theorem State.countWrap_err (s : State) (f : Fld) (n : optParam Nat 1) : (State.countWrap s f n).err = s.err := rfl
@[simp] theorem State.countWrap_rack (s : State) (f : Fld) (n : optParam Nat 1) : (State.countWrap s f n).rack = s.rack := rfl
@[simp] theorem State.countWrap_sys (s : State) (f : Fld) (n : optParam Nat 1) : (State.countWrap s f n).sys = s.sys := rfl
@[simp] theorem State.countWrap_mgt (s : State) (f : Fld) (n : optParam Nat 1) : (State.countWrap s f n).mgt = s.mgt := rfl
@[simp] theorem State.sendMsix_pending (s : State) (func : Nat) (vec : Nat) : (State.sendMsix s func vec).pending = s.pending := by
  unfold State.sendMsix; split <;> rfl
@[simp] theorem State.sendMsix_regs (s : State) (func : Nat) (vec : Nat) : (State.sendMsix s func vec).regs = s.regs := by
  unfold State.sendMsix; split <;> rfl
@[simp] theorem State.sendMsix_frame (s : State) (func : Nat) (vec : Nat) : (State.sendMsix s func vec).frame = s.frame := by
  unfold State.sendMsix; split <;> rfl
@[simp] theorem State.sendMsix_fresh (s : State) (func : Nat) (vec : Nat) : (State.sendMsix s func vec).fresh = s.fresh := by
  unfold State.sendMsix; split <;> rfl
@[simp] theorem State.sendMsix_pst (s : State) (func : Nat) (vec : Nat) : (State.sendMsix s func vec).pst = s.pst := by
  unfold State.sendMsix; split <;> rfl
@[simp] theorem State.sendMsix_xlt (s : State) (func : Nat) (vec : Nat) : (State.sendMsix s func vec).xlt = s.xlt := by
  unfold State.sendMsix; split <;> rfl
@[simp] theorem State.sendMsix_store (s : State) (func : Nat) (vec : Nat) : (State.sendMsix s func vec).store = s.store := by
  unfold State.sendMsix; split <;> rfl
@[simp] theorem State.sendMsix_core (s : State) (func : Nat) (vec : Nat) : (State.sendMsix s func vec).core = s.core := by
  unfold State.sendMsix; split <;> rfl
@[simp] theorem State.sendMsix_emb (s : State) (func : Nat) (vec : Nat) : (State.sendMsix s func vec).emb = s.emb := by
  unfold State.sendMsix; split <;> rfl
@[simp] theorem State.sendMsix_vec (s : State) (func : Nat) (vec : Nat) : (State.sendMsix s func vec).vec = s.vec := by
  unfold State.sendMsix; split <;> rfl
@[simp] theorem State.sendMsix_rpl (s : State) (func : Nat) (vec : Nat) : (State.sendMsix s func vec).rpl = s.rpl := by
  unfold State.sendMsix; split <;> rfl
@[simp] theorem State.sendMsix_kvp (s : State) (func : Nat) (vec : Nat) : (State.sendMsix s func vec).kvp = s.kvp := by
  unfold State.sendMsix; split <;> rfl
@[simp] theorem State.sendMsix_hxl (s : State) (func : Nat) (vec : Nat) : (State.sendMsix s func vec).hxl = s.hxl := by
  unfold State.sendMsix; split <;> rfl
@[simp] theorem State.sendMsix_coh (s : State) (func : Nat) (vec : Nat) : (State.sendMsix s func vec).coh = s.coh := by
  unfold State.sendMsix; split <;> rfl
@[simp] theorem State.sendMsix_gate (s : State) (func : Nat) (vec : Nat) : (State.sendMsix s func vec).gate = s.gate := by
  unfold State.sendMsix; split <;> rfl
@[simp] theorem State.sendMsix_err (s : State) (func : Nat) (vec : Nat) : (State.sendMsix s func vec).err = s.err := by
  unfold State.sendMsix; split <;> rfl
@[simp] theorem State.sendMsix_rack (s : State) (func : Nat) (vec : Nat) : (State.sendMsix s func vec).rack = s.rack := by
  unfold State.sendMsix; split <;> rfl
@[simp] theorem State.sendMsix_sys (s : State) (func : Nat) (vec : Nat) : (State.sendMsix s func vec).sys = s.sys := by
  unfold State.sendMsix; split <;> rfl
@[simp] theorem State.sendMsix_mgt (s : State) (func : Nat) (vec : Nat) : (State.sendMsix s func vec).mgt = s.mgt := by
  unfold State.sendMsix; split <;> rfl
@[simp] theorem State.raise_pending (s : State) (ev : Fld) : (State.raise s ev).pending = s.pending := by
  simp only [State.raise]; repeat' split
  all_goals simp
@[simp] theorem State.raise_frame (s : State) (ev : Fld) : (State.raise s ev).frame = s.frame := by
  simp only [State.raise]; repeat' split
  all_goals simp
@[simp] theorem State.raise_fresh (s : State) (ev : Fld) : (State.raise s ev).fresh = s.fresh := by
  simp only [State.raise]; repeat' split
  all_goals simp
@[simp] theorem State.raise_pst (s : State) (ev : Fld) : (State.raise s ev).pst = s.pst := by
  simp only [State.raise]; repeat' split
  all_goals simp
@[simp] theorem State.raise_xlt (s : State) (ev : Fld) : (State.raise s ev).xlt = s.xlt := by
  simp only [State.raise]; repeat' split
  all_goals simp
@[simp] theorem State.raise_store (s : State) (ev : Fld) : (State.raise s ev).store = s.store := by
  simp only [State.raise]; repeat' split
  all_goals simp
@[simp] theorem State.raise_core (s : State) (ev : Fld) : (State.raise s ev).core = s.core := by
  simp only [State.raise]; repeat' split
  all_goals simp
@[simp] theorem State.raise_emb (s : State) (ev : Fld) : (State.raise s ev).emb = s.emb := by
  simp only [State.raise]; repeat' split
  all_goals simp
@[simp] theorem State.raise_vec (s : State) (ev : Fld) : (State.raise s ev).vec = s.vec := by
  simp only [State.raise]; repeat' split
  all_goals simp
@[simp] theorem State.raise_rpl (s : State) (ev : Fld) : (State.raise s ev).rpl = s.rpl := by
  simp only [State.raise]; repeat' split
  all_goals simp
@[simp] theorem State.raise_kvp (s : State) (ev : Fld) : (State.raise s ev).kvp = s.kvp := by
  simp only [State.raise]; repeat' split
  all_goals simp
@[simp] theorem State.raise_hxl (s : State) (ev : Fld) : (State.raise s ev).hxl = s.hxl := by
  simp only [State.raise]; repeat' split
  all_goals simp
@[simp] theorem State.raise_coh (s : State) (ev : Fld) : (State.raise s ev).coh = s.coh := by
  simp only [State.raise]; repeat' split
  all_goals simp
@[simp] theorem State.raise_gate (s : State) (ev : Fld) : (State.raise s ev).gate = s.gate := by
  simp only [State.raise]; repeat' split
  all_goals simp
@[simp] theorem State.raise_err (s : State) (ev : Fld) : (State.raise s ev).err = s.err := by
  simp only [State.raise]; repeat' split
  all_goals simp
@[simp] theorem State.raise_rack (s : State) (ev : Fld) : (State.raise s ev).rack = s.rack := by
  simp only [State.raise]; repeat' split
  all_goals simp
@[simp] theorem State.raise_sys (s : State) (ev : Fld) : (State.raise s ev).sys = s.sys := by
  simp only [State.raise]; repeat' split
  all_goals simp
@[simp] theorem State.raise_mgt (s : State) (ev : Fld) : (State.raise s ev).mgt = s.mgt := by
  simp only [State.raise]; repeat' split
  all_goals simp
@[simp] theorem State.fnRaise_pending (s : State) (src : Nat) (ev : Fld) : (State.fnRaise s src ev).pending = s.pending := by
  simp only [State.fnRaise]; repeat' split
  all_goals simp
@[simp] theorem State.fnRaise_frame (s : State) (src : Nat) (ev : Fld) : (State.fnRaise s src ev).frame = s.frame := by
  simp only [State.fnRaise]; repeat' split
  all_goals simp
@[simp] theorem State.fnRaise_fresh (s : State) (src : Nat) (ev : Fld) : (State.fnRaise s src ev).fresh = s.fresh := by
  simp only [State.fnRaise]; repeat' split
  all_goals simp
@[simp] theorem State.fnRaise_pst (s : State) (src : Nat) (ev : Fld) : (State.fnRaise s src ev).pst = s.pst := by
  simp only [State.fnRaise]; repeat' split
  all_goals simp
@[simp] theorem State.fnRaise_xlt (s : State) (src : Nat) (ev : Fld) : (State.fnRaise s src ev).xlt = s.xlt := by
  simp only [State.fnRaise]; repeat' split
  all_goals simp
@[simp] theorem State.fnRaise_store (s : State) (src : Nat) (ev : Fld) : (State.fnRaise s src ev).store = s.store := by
  simp only [State.fnRaise]; repeat' split
  all_goals simp
@[simp] theorem State.fnRaise_core (s : State) (src : Nat) (ev : Fld) : (State.fnRaise s src ev).core = s.core := by
  simp only [State.fnRaise]; repeat' split
  all_goals simp
@[simp] theorem State.fnRaise_emb (s : State) (src : Nat) (ev : Fld) : (State.fnRaise s src ev).emb = s.emb := by
  simp only [State.fnRaise]; repeat' split
  all_goals simp
@[simp] theorem State.fnRaise_vec (s : State) (src : Nat) (ev : Fld) : (State.fnRaise s src ev).vec = s.vec := by
  simp only [State.fnRaise]; repeat' split
  all_goals simp
@[simp] theorem State.fnRaise_rpl (s : State) (src : Nat) (ev : Fld) : (State.fnRaise s src ev).rpl = s.rpl := by
  simp only [State.fnRaise]; repeat' split
  all_goals simp
@[simp] theorem State.fnRaise_kvp (s : State) (src : Nat) (ev : Fld) : (State.fnRaise s src ev).kvp = s.kvp := by
  simp only [State.fnRaise]; repeat' split
  all_goals simp
@[simp] theorem State.fnRaise_hxl (s : State) (src : Nat) (ev : Fld) : (State.fnRaise s src ev).hxl = s.hxl := by
  simp only [State.fnRaise]; repeat' split
  all_goals simp
@[simp] theorem State.fnRaise_coh (s : State) (src : Nat) (ev : Fld) : (State.fnRaise s src ev).coh = s.coh := by
  simp only [State.fnRaise]; repeat' split
  all_goals simp
@[simp] theorem State.fnRaise_gate (s : State) (src : Nat) (ev : Fld) : (State.fnRaise s src ev).gate = s.gate := by
  simp only [State.fnRaise]; repeat' split
  all_goals simp
@[simp] theorem State.fnRaise_err (s : State) (src : Nat) (ev : Fld) : (State.fnRaise s src ev).err = s.err := by
  simp only [State.fnRaise]; repeat' split
  all_goals simp
@[simp] theorem State.fnRaise_rack (s : State) (src : Nat) (ev : Fld) : (State.fnRaise s src ev).rack = s.rack := by
  simp only [State.fnRaise]; repeat' split
  all_goals simp
@[simp] theorem State.fnRaise_sys (s : State) (src : Nat) (ev : Fld) : (State.fnRaise s src ev).sys = s.sys := by
  simp only [State.fnRaise]; repeat' split
  all_goals simp
@[simp] theorem State.fnRaise_mgt (s : State) (src : Nat) (ev : Fld) : (State.fnRaise s src ev).mgt = s.mgt := by
  simp only [State.fnRaise]; repeat' split
  all_goals simp
@[simp] theorem State.setSource_pending (s : State) (src : Nat) (x : Source) : (State.setSource s src x).pending = s.pending := rfl
@[simp] theorem State.setSource_regs (s : State) (src : Nat) (x : Source) : (State.setSource s src x).regs = s.regs := rfl
@[simp] theorem State.setSource_frame (s : State) (src : Nat) (x : Source) : (State.setSource s src x).frame = s.frame := rfl
@[simp] theorem State.setSource_fresh (s : State) (src : Nat) (x : Source) : (State.setSource s src x).fresh = s.fresh := rfl
@[simp] theorem State.setSource_out (s : State) (src : Nat) (x : Source) : (State.setSource s src x).out = s.out := rfl
@[simp] theorem State.setSource_pst (s : State) (src : Nat) (x : Source) : (State.setSource s src x).pst = s.pst := rfl
@[simp] theorem State.setSource_xlt (s : State) (src : Nat) (x : Source) : (State.setSource s src x).xlt = s.xlt := rfl
@[simp] theorem State.setSource_store (s : State) (src : Nat) (x : Source) : (State.setSource s src x).store = s.store := rfl
@[simp] theorem State.setSource_core (s : State) (src : Nat) (x : Source) : (State.setSource s src x).core = s.core := rfl
@[simp] theorem State.setSource_emb (s : State) (src : Nat) (x : Source) : (State.setSource s src x).emb = s.emb := rfl
@[simp] theorem State.setSource_vec (s : State) (src : Nat) (x : Source) : (State.setSource s src x).vec = s.vec := rfl
@[simp] theorem State.setSource_rpl (s : State) (src : Nat) (x : Source) : (State.setSource s src x).rpl = s.rpl := rfl
@[simp] theorem State.setSource_kvp (s : State) (src : Nat) (x : Source) : (State.setSource s src x).kvp = s.kvp := rfl
@[simp] theorem State.setSource_hxl (s : State) (src : Nat) (x : Source) : (State.setSource s src x).hxl = s.hxl := rfl
@[simp] theorem State.setSource_coh (s : State) (src : Nat) (x : Source) : (State.setSource s src x).coh = s.coh := rfl
@[simp] theorem State.setSource_gate (s : State) (src : Nat) (x : Source) : (State.setSource s src x).gate = s.gate := rfl
@[simp] theorem State.setSource_err (s : State) (src : Nat) (x : Source) : (State.setSource s src x).err = s.err := rfl
@[simp] theorem State.setSource_rack (s : State) (src : Nat) (x : Source) : (State.setSource s src x).rack = s.rack := rfl
@[simp] theorem State.setSource_sys (s : State) (src : Nat) (x : Source) : (State.setSource s src x).sys = s.sys := rfl
@[simp] theorem State.setSource_mgt (s : State) (src : Nat) (x : Source) : (State.setSource s src x).mgt = s.mgt := rfl
@[simp] theorem State.setQp_pending (s : State) (src : Nat) (qp : Nat) (x : QueuePair) : (State.setQp s src qp x).pending = s.pending := rfl
@[simp] theorem State.setQp_regs (s : State) (src : Nat) (qp : Nat) (x : QueuePair) : (State.setQp s src qp x).regs = s.regs := rfl
@[simp] theorem State.setQp_frame (s : State) (src : Nat) (qp : Nat) (x : QueuePair) : (State.setQp s src qp x).frame = s.frame := rfl
@[simp] theorem State.setQp_fresh (s : State) (src : Nat) (qp : Nat) (x : QueuePair) : (State.setQp s src qp x).fresh = s.fresh := rfl
@[simp] theorem State.setQp_out (s : State) (src : Nat) (qp : Nat) (x : QueuePair) : (State.setQp s src qp x).out = s.out := rfl
@[simp] theorem State.setQp_pst (s : State) (src : Nat) (qp : Nat) (x : QueuePair) : (State.setQp s src qp x).pst = s.pst := rfl
@[simp] theorem State.setQp_xlt (s : State) (src : Nat) (qp : Nat) (x : QueuePair) : (State.setQp s src qp x).xlt = s.xlt := rfl
@[simp] theorem State.setQp_store (s : State) (src : Nat) (qp : Nat) (x : QueuePair) : (State.setQp s src qp x).store = s.store := rfl
@[simp] theorem State.setQp_core (s : State) (src : Nat) (qp : Nat) (x : QueuePair) : (State.setQp s src qp x).core = s.core := rfl
@[simp] theorem State.setQp_emb (s : State) (src : Nat) (qp : Nat) (x : QueuePair) : (State.setQp s src qp x).emb = s.emb := rfl
@[simp] theorem State.setQp_vec (s : State) (src : Nat) (qp : Nat) (x : QueuePair) : (State.setQp s src qp x).vec = s.vec := rfl
@[simp] theorem State.setQp_rpl (s : State) (src : Nat) (qp : Nat) (x : QueuePair) : (State.setQp s src qp x).rpl = s.rpl := rfl
@[simp] theorem State.setQp_kvp (s : State) (src : Nat) (qp : Nat) (x : QueuePair) : (State.setQp s src qp x).kvp = s.kvp := rfl
@[simp] theorem State.setQp_hxl (s : State) (src : Nat) (qp : Nat) (x : QueuePair) : (State.setQp s src qp x).hxl = s.hxl := rfl
@[simp] theorem State.setQp_coh (s : State) (src : Nat) (qp : Nat) (x : QueuePair) : (State.setQp s src qp x).coh = s.coh := rfl
@[simp] theorem State.setQp_gate (s : State) (src : Nat) (qp : Nat) (x : QueuePair) : (State.setQp s src qp x).gate = s.gate := rfl
@[simp] theorem State.setQp_err (s : State) (src : Nat) (qp : Nat) (x : QueuePair) : (State.setQp s src qp x).err = s.err := rfl
@[simp] theorem State.setQp_rack (s : State) (src : Nat) (qp : Nat) (x : QueuePair) : (State.setQp s src qp x).rack = s.rack := rfl
@[simp] theorem State.setQp_sys (s : State) (src : Nat) (qp : Nat) (x : QueuePair) : (State.setQp s src qp x).sys = s.sys := rfl
@[simp] theorem State.setQp_mgt (s : State) (src : Nat) (qp : Nat) (x : QueuePair) : (State.setQp s src qp x).mgt = s.mgt := rfl
@[simp] theorem State.setEntry_pending (s : State) (id : Nat) (e : Entry) : (State.setEntry s id e).pending = s.pending := rfl
@[simp] theorem State.setEntry_regs (s : State) (id : Nat) (e : Entry) : (State.setEntry s id e).regs = s.regs := rfl
@[simp] theorem State.setEntry_frame (s : State) (id : Nat) (e : Entry) : (State.setEntry s id e).frame = s.frame := rfl
@[simp] theorem State.setEntry_fresh (s : State) (id : Nat) (e : Entry) : (State.setEntry s id e).fresh = s.fresh := rfl
@[simp] theorem State.setEntry_out (s : State) (id : Nat) (e : Entry) : (State.setEntry s id e).out = s.out := rfl
@[simp] theorem State.setEntry_pst (s : State) (id : Nat) (e : Entry) : (State.setEntry s id e).pst = s.pst := rfl
@[simp] theorem State.setEntry_xlt (s : State) (id : Nat) (e : Entry) : (State.setEntry s id e).xlt = s.xlt := rfl
@[simp] theorem State.setEntry_store (s : State) (id : Nat) (e : Entry) : (State.setEntry s id e).store = s.store := rfl
@[simp] theorem State.setEntry_core (s : State) (id : Nat) (e : Entry) : (State.setEntry s id e).core = s.core := rfl
@[simp] theorem State.setEntry_emb (s : State) (id : Nat) (e : Entry) : (State.setEntry s id e).emb = s.emb := rfl
@[simp] theorem State.setEntry_vec (s : State) (id : Nat) (e : Entry) : (State.setEntry s id e).vec = s.vec := rfl
@[simp] theorem State.setEntry_rpl (s : State) (id : Nat) (e : Entry) : (State.setEntry s id e).rpl = s.rpl := rfl
@[simp] theorem State.setEntry_kvp (s : State) (id : Nat) (e : Entry) : (State.setEntry s id e).kvp = s.kvp := rfl
@[simp] theorem State.setEntry_hxl (s : State) (id : Nat) (e : Entry) : (State.setEntry s id e).hxl = s.hxl := rfl
@[simp] theorem State.setEntry_coh (s : State) (id : Nat) (e : Entry) : (State.setEntry s id e).coh = s.coh := rfl
@[simp] theorem State.setEntry_gate (s : State) (id : Nat) (e : Entry) : (State.setEntry s id e).gate = s.gate := rfl
@[simp] theorem State.setEntry_err (s : State) (id : Nat) (e : Entry) : (State.setEntry s id e).err = s.err := rfl
@[simp] theorem State.setEntry_rack (s : State) (id : Nat) (e : Entry) : (State.setEntry s id e).rack = s.rack := rfl
@[simp] theorem State.setEntry_sys (s : State) (id : Nat) (e : Entry) : (State.setEntry s id e).sys = s.sys := rfl
@[simp] theorem State.setEntry_mgt (s : State) (id : Nat) (e : Entry) : (State.setEntry s id e).mgt = s.mgt := rfl
@[simp] theorem State.modEntry_pending (s : State) (id : Nat) (f : Entry → Entry) : (State.modEntry s id f).pending = s.pending := rfl
@[simp] theorem State.modEntry_regs (s : State) (id : Nat) (f : Entry → Entry) : (State.modEntry s id f).regs = s.regs := rfl
@[simp] theorem State.modEntry_frame (s : State) (id : Nat) (f : Entry → Entry) : (State.modEntry s id f).frame = s.frame := rfl
@[simp] theorem State.modEntry_fresh (s : State) (id : Nat) (f : Entry → Entry) : (State.modEntry s id f).fresh = s.fresh := rfl
@[simp] theorem State.modEntry_out (s : State) (id : Nat) (f : Entry → Entry) : (State.modEntry s id f).out = s.out := rfl
@[simp] theorem State.modEntry_pst (s : State) (id : Nat) (f : Entry → Entry) : (State.modEntry s id f).pst = s.pst := rfl
@[simp] theorem State.modEntry_xlt (s : State) (id : Nat) (f : Entry → Entry) : (State.modEntry s id f).xlt = s.xlt := rfl
@[simp] theorem State.modEntry_store (s : State) (id : Nat) (f : Entry → Entry) : (State.modEntry s id f).store = s.store := rfl
@[simp] theorem State.modEntry_core (s : State) (id : Nat) (f : Entry → Entry) : (State.modEntry s id f).core = s.core := rfl
@[simp] theorem State.modEntry_emb (s : State) (id : Nat) (f : Entry → Entry) : (State.modEntry s id f).emb = s.emb := rfl
@[simp] theorem State.modEntry_vec (s : State) (id : Nat) (f : Entry → Entry) : (State.modEntry s id f).vec = s.vec := rfl
@[simp] theorem State.modEntry_rpl (s : State) (id : Nat) (f : Entry → Entry) : (State.modEntry s id f).rpl = s.rpl := rfl
@[simp] theorem State.modEntry_kvp (s : State) (id : Nat) (f : Entry → Entry) : (State.modEntry s id f).kvp = s.kvp := rfl
@[simp] theorem State.modEntry_hxl (s : State) (id : Nat) (f : Entry → Entry) : (State.modEntry s id f).hxl = s.hxl := rfl
@[simp] theorem State.modEntry_coh (s : State) (id : Nat) (f : Entry → Entry) : (State.modEntry s id f).coh = s.coh := rfl
@[simp] theorem State.modEntry_gate (s : State) (id : Nat) (f : Entry → Entry) : (State.modEntry s id f).gate = s.gate := rfl
@[simp] theorem State.modEntry_err (s : State) (id : Nat) (f : Entry → Entry) : (State.modEntry s id f).err = s.err := rfl
@[simp] theorem State.modEntry_rack (s : State) (id : Nat) (f : Entry → Entry) : (State.modEntry s id f).rack = s.rack := rfl
@[simp] theorem State.modEntry_sys (s : State) (id : Nat) (f : Entry → Entry) : (State.modEntry s id f).sys = s.sys := rfl
@[simp] theorem State.modEntry_mgt (s : State) (id : Nat) (f : Entry → Entry) : (State.modEntry s id f).mgt = s.mgt := rfl
@[simp] theorem State.dropEntry_pending (s : State) (id : Nat) : (State.dropEntry s id).pending = s.pending := rfl
@[simp] theorem State.dropEntry_regs (s : State) (id : Nat) : (State.dropEntry s id).regs = s.regs := rfl
@[simp] theorem State.dropEntry_frame (s : State) (id : Nat) : (State.dropEntry s id).frame = s.frame := rfl
@[simp] theorem State.dropEntry_fresh (s : State) (id : Nat) : (State.dropEntry s id).fresh = s.fresh := rfl
@[simp] theorem State.dropEntry_out (s : State) (id : Nat) : (State.dropEntry s id).out = s.out := rfl
@[simp] theorem State.dropEntry_pst (s : State) (id : Nat) : (State.dropEntry s id).pst = s.pst := rfl
@[simp] theorem State.dropEntry_xlt (s : State) (id : Nat) : (State.dropEntry s id).xlt = s.xlt := rfl
@[simp] theorem State.dropEntry_store (s : State) (id : Nat) : (State.dropEntry s id).store = s.store := rfl
@[simp] theorem State.dropEntry_core (s : State) (id : Nat) : (State.dropEntry s id).core = s.core := rfl
@[simp] theorem State.dropEntry_emb (s : State) (id : Nat) : (State.dropEntry s id).emb = s.emb := rfl
@[simp] theorem State.dropEntry_vec (s : State) (id : Nat) : (State.dropEntry s id).vec = s.vec := rfl
@[simp] theorem State.dropEntry_rpl (s : State) (id : Nat) : (State.dropEntry s id).rpl = s.rpl := rfl
@[simp] theorem State.dropEntry_kvp (s : State) (id : Nat) : (State.dropEntry s id).kvp = s.kvp := rfl
@[simp] theorem State.dropEntry_hxl (s : State) (id : Nat) : (State.dropEntry s id).hxl = s.hxl := rfl
@[simp] theorem State.dropEntry_coh (s : State) (id : Nat) : (State.dropEntry s id).coh = s.coh := rfl
@[simp] theorem State.dropEntry_gate (s : State) (id : Nat) : (State.dropEntry s id).gate = s.gate := rfl
@[simp] theorem State.dropEntry_err (s : State) (id : Nat) : (State.dropEntry s id).err = s.err := rfl
@[simp] theorem State.dropEntry_rack (s : State) (id : Nat) : (State.dropEntry s id).rack = s.rack := rfl
@[simp] theorem State.dropEntry_sys (s : State) (id : Nat) : (State.dropEntry s id).sys = s.sys := rfl
@[simp] theorem State.dropEntry_mgt (s : State) (id : Nat) : (State.dropEntry s id).mgt = s.mgt := rfl
@[simp] theorem State.setPmc_pending (s : State) (k : Nat) (p : Pmc) : (State.setPmc s k p).pending = s.pending := rfl
@[simp] theorem State.setPmc_regs (s : State) (k : Nat) (p : Pmc) : (State.setPmc s k p).regs = s.regs := rfl
@[simp] theorem State.setPmc_frame (s : State) (k : Nat) (p : Pmc) : (State.setPmc s k p).frame = s.frame := rfl
@[simp] theorem State.setPmc_fresh (s : State) (k : Nat) (p : Pmc) : (State.setPmc s k p).fresh = s.fresh := rfl
@[simp] theorem State.setPmc_out (s : State) (k : Nat) (p : Pmc) : (State.setPmc s k p).out = s.out := rfl
@[simp] theorem State.setPmc_cmdq (s : State) (k : Nat) (p : Pmc) : (State.setPmc s k p).cmdq = s.cmdq := rfl
@[simp] theorem State.setPmc_pst (s : State) (k : Nat) (p : Pmc) : (State.setPmc s k p).pst = s.pst := rfl
@[simp] theorem State.setPmc_xlt (s : State) (k : Nat) (p : Pmc) : (State.setPmc s k p).xlt = s.xlt := rfl
@[simp] theorem State.setPmc_store (s : State) (k : Nat) (p : Pmc) : (State.setPmc s k p).store = s.store := rfl
@[simp] theorem State.setPmc_core (s : State) (k : Nat) (p : Pmc) : (State.setPmc s k p).core = s.core := rfl
@[simp] theorem State.setPmc_emb (s : State) (k : Nat) (p : Pmc) : (State.setPmc s k p).emb = s.emb := rfl
@[simp] theorem State.setPmc_vec (s : State) (k : Nat) (p : Pmc) : (State.setPmc s k p).vec = s.vec := rfl
@[simp] theorem State.setPmc_rpl (s : State) (k : Nat) (p : Pmc) : (State.setPmc s k p).rpl = s.rpl := rfl
@[simp] theorem State.setPmc_kvp (s : State) (k : Nat) (p : Pmc) : (State.setPmc s k p).kvp = s.kvp := rfl
@[simp] theorem State.setPmc_hxl (s : State) (k : Nat) (p : Pmc) : (State.setPmc s k p).hxl = s.hxl := rfl
@[simp] theorem State.setPmc_coh (s : State) (k : Nat) (p : Pmc) : (State.setPmc s k p).coh = s.coh := rfl
@[simp] theorem State.setPmc_gate (s : State) (k : Nat) (p : Pmc) : (State.setPmc s k p).gate = s.gate := rfl
@[simp] theorem State.setPmc_err (s : State) (k : Nat) (p : Pmc) : (State.setPmc s k p).err = s.err := rfl
@[simp] theorem State.setPmc_rack (s : State) (k : Nat) (p : Pmc) : (State.setPmc s k p).rack = s.rack := rfl
@[simp] theorem State.setPmc_sys (s : State) (k : Nat) (p : Pmc) : (State.setPmc s k p).sys = s.sys := rfl
@[simp] theorem State.setCtx_pending (s : State) (c : Nat) (x : Context) : (State.setCtx s c x).pending = s.pending := rfl
@[simp] theorem State.setCtx_regs (s : State) (c : Nat) (x : Context) : (State.setCtx s c x).regs = s.regs := rfl
@[simp] theorem State.setCtx_frame (s : State) (c : Nat) (x : Context) : (State.setCtx s c x).frame = s.frame := rfl
@[simp] theorem State.setCtx_fresh (s : State) (c : Nat) (x : Context) : (State.setCtx s c x).fresh = s.fresh := rfl
@[simp] theorem State.setCtx_out (s : State) (c : Nat) (x : Context) : (State.setCtx s c x).out = s.out := rfl
@[simp] theorem State.setCtx_cmdq (s : State) (c : Nat) (x : Context) : (State.setCtx s c x).cmdq = s.cmdq := rfl
@[simp] theorem State.setCtx_pst (s : State) (c : Nat) (x : Context) : (State.setCtx s c x).pst = s.pst := rfl
@[simp] theorem State.setCtx_store (s : State) (c : Nat) (x : Context) : (State.setCtx s c x).store = s.store := rfl
@[simp] theorem State.setCtx_core (s : State) (c : Nat) (x : Context) : (State.setCtx s c x).core = s.core := rfl
@[simp] theorem State.setCtx_emb (s : State) (c : Nat) (x : Context) : (State.setCtx s c x).emb = s.emb := rfl
@[simp] theorem State.setCtx_vec (s : State) (c : Nat) (x : Context) : (State.setCtx s c x).vec = s.vec := rfl
@[simp] theorem State.setCtx_rpl (s : State) (c : Nat) (x : Context) : (State.setCtx s c x).rpl = s.rpl := rfl
@[simp] theorem State.setCtx_kvp (s : State) (c : Nat) (x : Context) : (State.setCtx s c x).kvp = s.kvp := rfl
@[simp] theorem State.setCtx_hxl (s : State) (c : Nat) (x : Context) : (State.setCtx s c x).hxl = s.hxl := rfl
@[simp] theorem State.setCtx_coh (s : State) (c : Nat) (x : Context) : (State.setCtx s c x).coh = s.coh := rfl
@[simp] theorem State.setCtx_gate (s : State) (c : Nat) (x : Context) : (State.setCtx s c x).gate = s.gate := rfl
@[simp] theorem State.setCtx_err (s : State) (c : Nat) (x : Context) : (State.setCtx s c x).err = s.err := rfl
@[simp] theorem State.setCtx_rack (s : State) (c : Nat) (x : Context) : (State.setCtx s c x).rack = s.rack := rfl
@[simp] theorem State.setCtx_sys (s : State) (c : Nat) (x : Context) : (State.setCtx s c x).sys = s.sys := rfl
@[simp] theorem State.setCtx_mgt (s : State) (c : Nat) (x : Context) : (State.setCtx s c x).mgt = s.mgt := rfl
@[simp] theorem State.setSeg_pending (s : State) (c : Nat) (i : Nat) (x : Segment) : (State.setSeg s c i x).pending = s.pending := rfl
@[simp] theorem State.setSeg_regs (s : State) (c : Nat) (i : Nat) (x : Segment) : (State.setSeg s c i x).regs = s.regs := rfl
@[simp] theorem State.setSeg_frame (s : State) (c : Nat) (i : Nat) (x : Segment) : (State.setSeg s c i x).frame = s.frame := rfl
@[simp] theorem State.setSeg_fresh (s : State) (c : Nat) (i : Nat) (x : Segment) : (State.setSeg s c i x).fresh = s.fresh := rfl
@[simp] theorem State.setSeg_out (s : State) (c : Nat) (i : Nat) (x : Segment) : (State.setSeg s c i x).out = s.out := rfl
@[simp] theorem State.setSeg_cmdq (s : State) (c : Nat) (i : Nat) (x : Segment) : (State.setSeg s c i x).cmdq = s.cmdq := rfl
@[simp] theorem State.setSeg_pst (s : State) (c : Nat) (i : Nat) (x : Segment) : (State.setSeg s c i x).pst = s.pst := rfl
@[simp] theorem State.setSeg_store (s : State) (c : Nat) (i : Nat) (x : Segment) : (State.setSeg s c i x).store = s.store := rfl
@[simp] theorem State.setSeg_core (s : State) (c : Nat) (i : Nat) (x : Segment) : (State.setSeg s c i x).core = s.core := rfl
@[simp] theorem State.setSeg_emb (s : State) (c : Nat) (i : Nat) (x : Segment) : (State.setSeg s c i x).emb = s.emb := rfl
@[simp] theorem State.setSeg_vec (s : State) (c : Nat) (i : Nat) (x : Segment) : (State.setSeg s c i x).vec = s.vec := rfl
@[simp] theorem State.setSeg_rpl (s : State) (c : Nat) (i : Nat) (x : Segment) : (State.setSeg s c i x).rpl = s.rpl := rfl
@[simp] theorem State.setSeg_kvp (s : State) (c : Nat) (i : Nat) (x : Segment) : (State.setSeg s c i x).kvp = s.kvp := rfl
@[simp] theorem State.setSeg_hxl (s : State) (c : Nat) (i : Nat) (x : Segment) : (State.setSeg s c i x).hxl = s.hxl := rfl
@[simp] theorem State.setSeg_coh (s : State) (c : Nat) (i : Nat) (x : Segment) : (State.setSeg s c i x).coh = s.coh := rfl
@[simp] theorem State.setSeg_gate (s : State) (c : Nat) (i : Nat) (x : Segment) : (State.setSeg s c i x).gate = s.gate := rfl
@[simp] theorem State.setSeg_err (s : State) (c : Nat) (i : Nat) (x : Segment) : (State.setSeg s c i x).err = s.err := rfl
@[simp] theorem State.setSeg_rack (s : State) (c : Nat) (i : Nat) (x : Segment) : (State.setSeg s c i x).rack = s.rack := rfl
@[simp] theorem State.setSeg_sys (s : State) (c : Nat) (i : Nat) (x : Segment) : (State.setSeg s c i x).sys = s.sys := rfl
@[simp] theorem State.setSeg_mgt (s : State) (c : Nat) (i : Nat) (x : Segment) : (State.setSeg s c i x).mgt = s.mgt := rfl
@[simp] theorem State.pokeBytes_pending (s : State) (a : Nat) (l : List Sys2Proof.Byte) : (State.pokeBytes s a l).pending = s.pending := rfl
@[simp] theorem State.pokeBytes_regs (s : State) (a : Nat) (l : List Sys2Proof.Byte) : (State.pokeBytes s a l).regs = s.regs := rfl
@[simp] theorem State.pokeBytes_frame (s : State) (a : Nat) (l : List Sys2Proof.Byte) : (State.pokeBytes s a l).frame = s.frame := rfl
@[simp] theorem State.pokeBytes_fresh (s : State) (a : Nat) (l : List Sys2Proof.Byte) : (State.pokeBytes s a l).fresh = s.fresh := rfl
@[simp] theorem State.pokeBytes_out (s : State) (a : Nat) (l : List Sys2Proof.Byte) : (State.pokeBytes s a l).out = s.out := rfl
@[simp] theorem State.pokeBytes_cmdq (s : State) (a : Nat) (l : List Sys2Proof.Byte) : (State.pokeBytes s a l).cmdq = s.cmdq := rfl
@[simp] theorem State.pokeBytes_pst (s : State) (a : Nat) (l : List Sys2Proof.Byte) : (State.pokeBytes s a l).pst = s.pst := rfl
@[simp] theorem State.pokeBytes_xlt (s : State) (a : Nat) (l : List Sys2Proof.Byte) : (State.pokeBytes s a l).xlt = s.xlt := rfl
@[simp] theorem State.pokeBytes_core (s : State) (a : Nat) (l : List Sys2Proof.Byte) : (State.pokeBytes s a l).core = s.core := rfl
@[simp] theorem State.pokeBytes_emb (s : State) (a : Nat) (l : List Sys2Proof.Byte) : (State.pokeBytes s a l).emb = s.emb := rfl
@[simp] theorem State.pokeBytes_vec (s : State) (a : Nat) (l : List Sys2Proof.Byte) : (State.pokeBytes s a l).vec = s.vec := rfl
@[simp] theorem State.pokeBytes_rpl (s : State) (a : Nat) (l : List Sys2Proof.Byte) : (State.pokeBytes s a l).rpl = s.rpl := rfl
@[simp] theorem State.pokeBytes_kvp (s : State) (a : Nat) (l : List Sys2Proof.Byte) : (State.pokeBytes s a l).kvp = s.kvp := rfl
@[simp] theorem State.pokeBytes_hxl (s : State) (a : Nat) (l : List Sys2Proof.Byte) : (State.pokeBytes s a l).hxl = s.hxl := rfl
@[simp] theorem State.pokeBytes_coh (s : State) (a : Nat) (l : List Sys2Proof.Byte) : (State.pokeBytes s a l).coh = s.coh := rfl
@[simp] theorem State.pokeBytes_gate (s : State) (a : Nat) (l : List Sys2Proof.Byte) : (State.pokeBytes s a l).gate = s.gate := rfl
@[simp] theorem State.pokeBytes_err (s : State) (a : Nat) (l : List Sys2Proof.Byte) : (State.pokeBytes s a l).err = s.err := rfl
@[simp] theorem State.pokeBytes_rack (s : State) (a : Nat) (l : List Sys2Proof.Byte) : (State.pokeBytes s a l).rack = s.rack := rfl
@[simp] theorem State.pokeBytes_sys (s : State) (a : Nat) (l : List Sys2Proof.Byte) : (State.pokeBytes s a l).sys = s.sys := rfl
@[simp] theorem State.pokeBytes_mgt (s : State) (a : Nat) (l : List Sys2Proof.Byte) : (State.pokeBytes s a l).mgt = s.mgt := rfl
@[simp] theorem State.setGran_pending (s : State) (g : Nat) (x : Gran) : (State.setGran s g x).pending = s.pending := rfl
@[simp] theorem State.setGran_regs (s : State) (g : Nat) (x : Gran) : (State.setGran s g x).regs = s.regs := rfl
@[simp] theorem State.setGran_frame (s : State) (g : Nat) (x : Gran) : (State.setGran s g x).frame = s.frame := rfl
@[simp] theorem State.setGran_fresh (s : State) (g : Nat) (x : Gran) : (State.setGran s g x).fresh = s.fresh := rfl
@[simp] theorem State.setGran_out (s : State) (g : Nat) (x : Gran) : (State.setGran s g x).out = s.out := rfl
@[simp] theorem State.setGran_cmdq (s : State) (g : Nat) (x : Gran) : (State.setGran s g x).cmdq = s.cmdq := rfl
@[simp] theorem State.setGran_pst (s : State) (g : Nat) (x : Gran) : (State.setGran s g x).pst = s.pst := rfl
@[simp] theorem State.setGran_xlt (s : State) (g : Nat) (x : Gran) : (State.setGran s g x).xlt = s.xlt := rfl
@[simp] theorem State.setGran_core (s : State) (g : Nat) (x : Gran) : (State.setGran s g x).core = s.core := rfl
@[simp] theorem State.setGran_emb (s : State) (g : Nat) (x : Gran) : (State.setGran s g x).emb = s.emb := rfl
@[simp] theorem State.setGran_vec (s : State) (g : Nat) (x : Gran) : (State.setGran s g x).vec = s.vec := rfl
@[simp] theorem State.setGran_rpl (s : State) (g : Nat) (x : Gran) : (State.setGran s g x).rpl = s.rpl := rfl
@[simp] theorem State.setGran_kvp (s : State) (g : Nat) (x : Gran) : (State.setGran s g x).kvp = s.kvp := rfl
@[simp] theorem State.setGran_hxl (s : State) (g : Nat) (x : Gran) : (State.setGran s g x).hxl = s.hxl := rfl
@[simp] theorem State.setGran_coh (s : State) (g : Nat) (x : Gran) : (State.setGran s g x).coh = s.coh := rfl
@[simp] theorem State.setGran_gate (s : State) (g : Nat) (x : Gran) : (State.setGran s g x).gate = s.gate := rfl
@[simp] theorem State.setGran_err (s : State) (g : Nat) (x : Gran) : (State.setGran s g x).err = s.err := rfl
@[simp] theorem State.setGran_rack (s : State) (g : Nat) (x : Gran) : (State.setGran s g x).rack = s.rack := rfl
@[simp] theorem State.setGran_sys (s : State) (g : Nat) (x : Gran) : (State.setGran s g x).sys = s.sys := rfl
@[simp] theorem State.setGran_mgt (s : State) (g : Nat) (x : Gran) : (State.setGran s g x).mgt = s.mgt := rfl
@[simp] theorem State.setSlab_pending (s : State) (n : Nat) (x : Slab) : (State.setSlab s n x).pending = s.pending := rfl
@[simp] theorem State.setSlab_regs (s : State) (n : Nat) (x : Slab) : (State.setSlab s n x).regs = s.regs := rfl
@[simp] theorem State.setSlab_frame (s : State) (n : Nat) (x : Slab) : (State.setSlab s n x).frame = s.frame := rfl
@[simp] theorem State.setSlab_fresh (s : State) (n : Nat) (x : Slab) : (State.setSlab s n x).fresh = s.fresh := rfl
@[simp] theorem State.setSlab_out (s : State) (n : Nat) (x : Slab) : (State.setSlab s n x).out = s.out := rfl
@[simp] theorem State.setSlab_cmdq (s : State) (n : Nat) (x : Slab) : (State.setSlab s n x).cmdq = s.cmdq := rfl
@[simp] theorem State.setSlab_pst (s : State) (n : Nat) (x : Slab) : (State.setSlab s n x).pst = s.pst := rfl
@[simp] theorem State.setSlab_xlt (s : State) (n : Nat) (x : Slab) : (State.setSlab s n x).xlt = s.xlt := rfl
@[simp] theorem State.setSlab_core (s : State) (n : Nat) (x : Slab) : (State.setSlab s n x).core = s.core := rfl
@[simp] theorem State.setSlab_emb (s : State) (n : Nat) (x : Slab) : (State.setSlab s n x).emb = s.emb := rfl
@[simp] theorem State.setSlab_vec (s : State) (n : Nat) (x : Slab) : (State.setSlab s n x).vec = s.vec := rfl
@[simp] theorem State.setSlab_rpl (s : State) (n : Nat) (x : Slab) : (State.setSlab s n x).rpl = s.rpl := rfl
@[simp] theorem State.setSlab_kvp (s : State) (n : Nat) (x : Slab) : (State.setSlab s n x).kvp = s.kvp := rfl
@[simp] theorem State.setSlab_hxl (s : State) (n : Nat) (x : Slab) : (State.setSlab s n x).hxl = s.hxl := rfl
@[simp] theorem State.setSlab_coh (s : State) (n : Nat) (x : Slab) : (State.setSlab s n x).coh = s.coh := rfl
@[simp] theorem State.setSlab_gate (s : State) (n : Nat) (x : Slab) : (State.setSlab s n x).gate = s.gate := rfl
@[simp] theorem State.setSlab_err (s : State) (n : Nat) (x : Slab) : (State.setSlab s n x).err = s.err := rfl
@[simp] theorem State.setSlab_rack (s : State) (n : Nat) (x : Slab) : (State.setSlab s n x).rack = s.rack := rfl
@[simp] theorem State.setSlab_sys (s : State) (n : Nat) (x : Slab) : (State.setSlab s n x).sys = s.sys := rfl
@[simp] theorem State.setSlab_mgt (s : State) (n : Nat) (x : Slab) : (State.setSlab s n x).mgt = s.mgt := rfl
@[simp] theorem State.setPage_pending (s : State) (pg : Nat) (x : PageRec) : (State.setPage s pg x).pending = s.pending := rfl
@[simp] theorem State.setPage_regs (s : State) (pg : Nat) (x : PageRec) : (State.setPage s pg x).regs = s.regs := rfl
@[simp] theorem State.setPage_frame (s : State) (pg : Nat) (x : PageRec) : (State.setPage s pg x).frame = s.frame := rfl
@[simp] theorem State.setPage_fresh (s : State) (pg : Nat) (x : PageRec) : (State.setPage s pg x).fresh = s.fresh := rfl
@[simp] theorem State.setPage_out (s : State) (pg : Nat) (x : PageRec) : (State.setPage s pg x).out = s.out := rfl
@[simp] theorem State.setPage_cmdq (s : State) (pg : Nat) (x : PageRec) : (State.setPage s pg x).cmdq = s.cmdq := rfl
@[simp] theorem State.setPage_pst (s : State) (pg : Nat) (x : PageRec) : (State.setPage s pg x).pst = s.pst := rfl
@[simp] theorem State.setPage_xlt (s : State) (pg : Nat) (x : PageRec) : (State.setPage s pg x).xlt = s.xlt := rfl
@[simp] theorem State.setPage_core (s : State) (pg : Nat) (x : PageRec) : (State.setPage s pg x).core = s.core := rfl
@[simp] theorem State.setPage_emb (s : State) (pg : Nat) (x : PageRec) : (State.setPage s pg x).emb = s.emb := rfl
@[simp] theorem State.setPage_vec (s : State) (pg : Nat) (x : PageRec) : (State.setPage s pg x).vec = s.vec := rfl
@[simp] theorem State.setPage_rpl (s : State) (pg : Nat) (x : PageRec) : (State.setPage s pg x).rpl = s.rpl := rfl
@[simp] theorem State.setPage_kvp (s : State) (pg : Nat) (x : PageRec) : (State.setPage s pg x).kvp = s.kvp := rfl
@[simp] theorem State.setPage_hxl (s : State) (pg : Nat) (x : PageRec) : (State.setPage s pg x).hxl = s.hxl := rfl
@[simp] theorem State.setPage_coh (s : State) (pg : Nat) (x : PageRec) : (State.setPage s pg x).coh = s.coh := rfl
@[simp] theorem State.setPage_gate (s : State) (pg : Nat) (x : PageRec) : (State.setPage s pg x).gate = s.gate := rfl
@[simp] theorem State.setPage_err (s : State) (pg : Nat) (x : PageRec) : (State.setPage s pg x).err = s.err := rfl
@[simp] theorem State.setPage_rack (s : State) (pg : Nat) (x : PageRec) : (State.setPage s pg x).rack = s.rack := rfl
@[simp] theorem State.setPage_sys (s : State) (pg : Nat) (x : PageRec) : (State.setPage s pg x).sys = s.sys := rfl
@[simp] theorem State.setPage_mgt (s : State) (pg : Nat) (x : PageRec) : (State.setPage s pg x).mgt = s.mgt := rfl
@[simp] theorem State.setPool_pending (s : State) (k : Nat) (l : List Nat) : (State.setPool s k l).pending = s.pending := rfl
@[simp] theorem State.setPool_regs (s : State) (k : Nat) (l : List Nat) : (State.setPool s k l).regs = s.regs := rfl
@[simp] theorem State.setPool_frame (s : State) (k : Nat) (l : List Nat) : (State.setPool s k l).frame = s.frame := rfl
@[simp] theorem State.setPool_fresh (s : State) (k : Nat) (l : List Nat) : (State.setPool s k l).fresh = s.fresh := rfl
@[simp] theorem State.setPool_out (s : State) (k : Nat) (l : List Nat) : (State.setPool s k l).out = s.out := rfl
@[simp] theorem State.setPool_cmdq (s : State) (k : Nat) (l : List Nat) : (State.setPool s k l).cmdq = s.cmdq := rfl
@[simp] theorem State.setPool_pst (s : State) (k : Nat) (l : List Nat) : (State.setPool s k l).pst = s.pst := rfl
@[simp] theorem State.setPool_xlt (s : State) (k : Nat) (l : List Nat) : (State.setPool s k l).xlt = s.xlt := rfl
@[simp] theorem State.setPool_core (s : State) (k : Nat) (l : List Nat) : (State.setPool s k l).core = s.core := rfl
@[simp] theorem State.setPool_emb (s : State) (k : Nat) (l : List Nat) : (State.setPool s k l).emb = s.emb := rfl
@[simp] theorem State.setPool_vec (s : State) (k : Nat) (l : List Nat) : (State.setPool s k l).vec = s.vec := rfl
@[simp] theorem State.setPool_rpl (s : State) (k : Nat) (l : List Nat) : (State.setPool s k l).rpl = s.rpl := rfl
@[simp] theorem State.setPool_kvp (s : State) (k : Nat) (l : List Nat) : (State.setPool s k l).kvp = s.kvp := rfl
@[simp] theorem State.setPool_hxl (s : State) (k : Nat) (l : List Nat) : (State.setPool s k l).hxl = s.hxl := rfl
@[simp] theorem State.setPool_coh (s : State) (k : Nat) (l : List Nat) : (State.setPool s k l).coh = s.coh := rfl
@[simp] theorem State.setPool_gate (s : State) (k : Nat) (l : List Nat) : (State.setPool s k l).gate = s.gate := rfl
@[simp] theorem State.setPool_err (s : State) (k : Nat) (l : List Nat) : (State.setPool s k l).err = s.err := rfl
@[simp] theorem State.setPool_rack (s : State) (k : Nat) (l : List Nat) : (State.setPool s k l).rack = s.rack := rfl
@[simp] theorem State.setPool_sys (s : State) (k : Nat) (l : List Nat) : (State.setPool s k l).sys = s.sys := rfl
@[simp] theorem State.setPool_mgt (s : State) (k : Nat) (l : List Nat) : (State.setPool s k l).mgt = s.mgt := rfl
@[simp] theorem State.setChecker_pending (s : State) (chk : Nat) (x : Checker) : (State.setChecker s chk x).pending = s.pending := rfl
@[simp] theorem State.setChecker_regs (s : State) (chk : Nat) (x : Checker) : (State.setChecker s chk x).regs = s.regs := rfl
@[simp] theorem State.setChecker_frame (s : State) (chk : Nat) (x : Checker) : (State.setChecker s chk x).frame = s.frame := rfl
@[simp] theorem State.setChecker_fresh (s : State) (chk : Nat) (x : Checker) : (State.setChecker s chk x).fresh = s.fresh := rfl
@[simp] theorem State.setChecker_out (s : State) (chk : Nat) (x : Checker) : (State.setChecker s chk x).out = s.out := rfl
@[simp] theorem State.setChecker_cmdq (s : State) (chk : Nat) (x : Checker) : (State.setChecker s chk x).cmdq = s.cmdq := rfl
@[simp] theorem State.setChecker_pst (s : State) (chk : Nat) (x : Checker) : (State.setChecker s chk x).pst = s.pst := rfl
@[simp] theorem State.setChecker_xlt (s : State) (chk : Nat) (x : Checker) : (State.setChecker s chk x).xlt = s.xlt := rfl
@[simp] theorem State.setChecker_store (s : State) (chk : Nat) (x : Checker) : (State.setChecker s chk x).store = s.store := rfl
@[simp] theorem State.setChecker_core (s : State) (chk : Nat) (x : Checker) : (State.setChecker s chk x).core = s.core := rfl
@[simp] theorem State.setChecker_emb (s : State) (chk : Nat) (x : Checker) : (State.setChecker s chk x).emb = s.emb := rfl
@[simp] theorem State.setChecker_vec (s : State) (chk : Nat) (x : Checker) : (State.setChecker s chk x).vec = s.vec := rfl
@[simp] theorem State.setChecker_rpl (s : State) (chk : Nat) (x : Checker) : (State.setChecker s chk x).rpl = s.rpl := rfl
@[simp] theorem State.setChecker_kvp (s : State) (chk : Nat) (x : Checker) : (State.setChecker s chk x).kvp = s.kvp := rfl
@[simp] theorem State.setChecker_hxl (s : State) (chk : Nat) (x : Checker) : (State.setChecker s chk x).hxl = s.hxl := rfl
@[simp] theorem State.setChecker_coh (s : State) (chk : Nat) (x : Checker) : (State.setChecker s chk x).coh = s.coh := rfl
@[simp] theorem State.setChecker_gate (s : State) (chk : Nat) (x : Checker) : (State.setChecker s chk x).gate = s.gate := rfl
@[simp] theorem State.setChecker_rack (s : State) (chk : Nat) (x : Checker) : (State.setChecker s chk x).rack = s.rack := rfl
@[simp] theorem State.setChecker_sys (s : State) (chk : Nat) (x : Checker) : (State.setChecker s chk x).sys = s.sys := rfl
@[simp] theorem State.setChecker_mgt (s : State) (chk : Nat) (x : Checker) : (State.setChecker s chk x).mgt = s.mgt := rfl
@[simp] theorem State.setPort_pending (s : State) (p : Nat) (x : Port) : (State.setPort s p x).pending = s.pending := rfl
@[simp] theorem State.setPort_regs (s : State) (p : Nat) (x : Port) : (State.setPort s p x).regs = s.regs := rfl
@[simp] theorem State.setPort_frame (s : State) (p : Nat) (x : Port) : (State.setPort s p x).frame = s.frame := rfl
@[simp] theorem State.setPort_fresh (s : State) (p : Nat) (x : Port) : (State.setPort s p x).fresh = s.fresh := rfl
@[simp] theorem State.setPort_out (s : State) (p : Nat) (x : Port) : (State.setPort s p x).out = s.out := rfl
@[simp] theorem State.setPort_cmdq (s : State) (p : Nat) (x : Port) : (State.setPort s p x).cmdq = s.cmdq := rfl
@[simp] theorem State.setPort_pst (s : State) (p : Nat) (x : Port) : (State.setPort s p x).pst = s.pst := rfl
@[simp] theorem State.setPort_xlt (s : State) (p : Nat) (x : Port) : (State.setPort s p x).xlt = s.xlt := rfl
@[simp] theorem State.setPort_store (s : State) (p : Nat) (x : Port) : (State.setPort s p x).store = s.store := rfl
@[simp] theorem State.setPort_core (s : State) (p : Nat) (x : Port) : (State.setPort s p x).core = s.core := rfl
@[simp] theorem State.setPort_emb (s : State) (p : Nat) (x : Port) : (State.setPort s p x).emb = s.emb := rfl
@[simp] theorem State.setPort_vec (s : State) (p : Nat) (x : Port) : (State.setPort s p x).vec = s.vec := rfl
@[simp] theorem State.setPort_rpl (s : State) (p : Nat) (x : Port) : (State.setPort s p x).rpl = s.rpl := rfl
@[simp] theorem State.setPort_kvp (s : State) (p : Nat) (x : Port) : (State.setPort s p x).kvp = s.kvp := rfl
@[simp] theorem State.setPort_coh (s : State) (p : Nat) (x : Port) : (State.setPort s p x).coh = s.coh := rfl
@[simp] theorem State.setPort_gate (s : State) (p : Nat) (x : Port) : (State.setPort s p x).gate = s.gate := rfl
@[simp] theorem State.setPort_err (s : State) (p : Nat) (x : Port) : (State.setPort s p x).err = s.err := rfl
@[simp] theorem State.setPort_rack (s : State) (p : Nat) (x : Port) : (State.setPort s p x).rack = s.rack := rfl
@[simp] theorem State.setPort_sys (s : State) (p : Nat) (x : Port) : (State.setPort s p x).sys = s.sys := rfl
@[simp] theorem State.setPort_mgt (s : State) (p : Nat) (x : Port) : (State.setPort s p x).mgt = s.mgt := rfl
@[simp] theorem State.setSf_pending (s : State) (g : Nat) (e : SfEntry) : (State.setSf s g e).pending = s.pending := rfl
@[simp] theorem State.setSf_regs (s : State) (g : Nat) (e : SfEntry) : (State.setSf s g e).regs = s.regs := rfl
@[simp] theorem State.setSf_frame (s : State) (g : Nat) (e : SfEntry) : (State.setSf s g e).frame = s.frame := rfl
@[simp] theorem State.setSf_fresh (s : State) (g : Nat) (e : SfEntry) : (State.setSf s g e).fresh = s.fresh := rfl
@[simp] theorem State.setSf_out (s : State) (g : Nat) (e : SfEntry) : (State.setSf s g e).out = s.out := rfl
@[simp] theorem State.setSf_cmdq (s : State) (g : Nat) (e : SfEntry) : (State.setSf s g e).cmdq = s.cmdq := rfl
@[simp] theorem State.setSf_pst (s : State) (g : Nat) (e : SfEntry) : (State.setSf s g e).pst = s.pst := rfl
@[simp] theorem State.setSf_xlt (s : State) (g : Nat) (e : SfEntry) : (State.setSf s g e).xlt = s.xlt := rfl
@[simp] theorem State.setSf_store (s : State) (g : Nat) (e : SfEntry) : (State.setSf s g e).store = s.store := rfl
@[simp] theorem State.setSf_core (s : State) (g : Nat) (e : SfEntry) : (State.setSf s g e).core = s.core := rfl
@[simp] theorem State.setSf_emb (s : State) (g : Nat) (e : SfEntry) : (State.setSf s g e).emb = s.emb := rfl
@[simp] theorem State.setSf_vec (s : State) (g : Nat) (e : SfEntry) : (State.setSf s g e).vec = s.vec := rfl
@[simp] theorem State.setSf_rpl (s : State) (g : Nat) (e : SfEntry) : (State.setSf s g e).rpl = s.rpl := rfl
@[simp] theorem State.setSf_kvp (s : State) (g : Nat) (e : SfEntry) : (State.setSf s g e).kvp = s.kvp := rfl
@[simp] theorem State.setSf_hxl (s : State) (g : Nat) (e : SfEntry) : (State.setSf s g e).hxl = s.hxl := rfl
@[simp] theorem State.setSf_gate (s : State) (g : Nat) (e : SfEntry) : (State.setSf s g e).gate = s.gate := rfl
@[simp] theorem State.setSf_err (s : State) (g : Nat) (e : SfEntry) : (State.setSf s g e).err = s.err := rfl
@[simp] theorem State.setSf_rack (s : State) (g : Nat) (e : SfEntry) : (State.setSf s g e).rack = s.rack := rfl
@[simp] theorem State.setSf_sys (s : State) (g : Nat) (e : SfEntry) : (State.setSf s g e).sys = s.sys := rfl
@[simp] theorem State.setSf_mgt (s : State) (g : Nat) (e : SfEntry) : (State.setSf s g e).mgt = s.mgt := rfl
@[simp] theorem State.freeSf_pending (s : State) (g : Nat) : (State.freeSf s g).pending = s.pending := rfl
@[simp] theorem State.freeSf_regs (s : State) (g : Nat) : (State.freeSf s g).regs = s.regs := rfl
@[simp] theorem State.freeSf_frame (s : State) (g : Nat) : (State.freeSf s g).frame = s.frame := rfl
@[simp] theorem State.freeSf_fresh (s : State) (g : Nat) : (State.freeSf s g).fresh = s.fresh := rfl
@[simp] theorem State.freeSf_out (s : State) (g : Nat) : (State.freeSf s g).out = s.out := rfl
@[simp] theorem State.freeSf_cmdq (s : State) (g : Nat) : (State.freeSf s g).cmdq = s.cmdq := rfl
@[simp] theorem State.freeSf_pst (s : State) (g : Nat) : (State.freeSf s g).pst = s.pst := rfl
@[simp] theorem State.freeSf_xlt (s : State) (g : Nat) : (State.freeSf s g).xlt = s.xlt := rfl
@[simp] theorem State.freeSf_store (s : State) (g : Nat) : (State.freeSf s g).store = s.store := rfl
@[simp] theorem State.freeSf_core (s : State) (g : Nat) : (State.freeSf s g).core = s.core := rfl
@[simp] theorem State.freeSf_emb (s : State) (g : Nat) : (State.freeSf s g).emb = s.emb := rfl
@[simp] theorem State.freeSf_vec (s : State) (g : Nat) : (State.freeSf s g).vec = s.vec := rfl
@[simp] theorem State.freeSf_rpl (s : State) (g : Nat) : (State.freeSf s g).rpl = s.rpl := rfl
@[simp] theorem State.freeSf_kvp (s : State) (g : Nat) : (State.freeSf s g).kvp = s.kvp := rfl
@[simp] theorem State.freeSf_hxl (s : State) (g : Nat) : (State.freeSf s g).hxl = s.hxl := rfl
@[simp] theorem State.freeSf_gate (s : State) (g : Nat) : (State.freeSf s g).gate = s.gate := rfl
@[simp] theorem State.freeSf_err (s : State) (g : Nat) : (State.freeSf s g).err = s.err := rfl
@[simp] theorem State.freeSf_rack (s : State) (g : Nat) : (State.freeSf s g).rack = s.rack := rfl
@[simp] theorem State.freeSf_sys (s : State) (g : Nat) : (State.freeSf s g).sys = s.sys := rfl
@[simp] theorem State.freeSf_mgt (s : State) (g : Nat) : (State.freeSf s g).mgt = s.mgt := rfl
@[simp] theorem State.setAgent_pending (s : State) (i : Nat) (a : Agent) : (State.setAgent s i a).pending = s.pending := rfl
@[simp] theorem State.setAgent_regs (s : State) (i : Nat) (a : Agent) : (State.setAgent s i a).regs = s.regs := rfl
@[simp] theorem State.setAgent_frame (s : State) (i : Nat) (a : Agent) : (State.setAgent s i a).frame = s.frame := rfl
@[simp] theorem State.setAgent_fresh (s : State) (i : Nat) (a : Agent) : (State.setAgent s i a).fresh = s.fresh := rfl
@[simp] theorem State.setAgent_out (s : State) (i : Nat) (a : Agent) : (State.setAgent s i a).out = s.out := rfl
@[simp] theorem State.setAgent_cmdq (s : State) (i : Nat) (a : Agent) : (State.setAgent s i a).cmdq = s.cmdq := rfl
@[simp] theorem State.setAgent_pst (s : State) (i : Nat) (a : Agent) : (State.setAgent s i a).pst = s.pst := rfl
@[simp] theorem State.setAgent_xlt (s : State) (i : Nat) (a : Agent) : (State.setAgent s i a).xlt = s.xlt := rfl
@[simp] theorem State.setAgent_store (s : State) (i : Nat) (a : Agent) : (State.setAgent s i a).store = s.store := rfl
@[simp] theorem State.setAgent_core (s : State) (i : Nat) (a : Agent) : (State.setAgent s i a).core = s.core := rfl
@[simp] theorem State.setAgent_emb (s : State) (i : Nat) (a : Agent) : (State.setAgent s i a).emb = s.emb := rfl
@[simp] theorem State.setAgent_vec (s : State) (i : Nat) (a : Agent) : (State.setAgent s i a).vec = s.vec := rfl
@[simp] theorem State.setAgent_rpl (s : State) (i : Nat) (a : Agent) : (State.setAgent s i a).rpl = s.rpl := rfl
@[simp] theorem State.setAgent_kvp (s : State) (i : Nat) (a : Agent) : (State.setAgent s i a).kvp = s.kvp := rfl
@[simp] theorem State.setAgent_hxl (s : State) (i : Nat) (a : Agent) : (State.setAgent s i a).hxl = s.hxl := rfl
@[simp] theorem State.setAgent_gate (s : State) (i : Nat) (a : Agent) : (State.setAgent s i a).gate = s.gate := rfl
@[simp] theorem State.setAgent_err (s : State) (i : Nat) (a : Agent) : (State.setAgent s i a).err = s.err := rfl
@[simp] theorem State.setAgent_rack (s : State) (i : Nat) (a : Agent) : (State.setAgent s i a).rack = s.rack := rfl
@[simp] theorem State.setAgent_sys (s : State) (i : Nat) (a : Agent) : (State.setAgent s i a).sys = s.sys := rfl
@[simp] theorem State.setAgent_mgt (s : State) (i : Nat) (a : Agent) : (State.setAgent s i a).mgt = s.mgt := rfl
@[simp] theorem State.setComp_pending (s : State) (c : Nat) (x : Comp) : (State.setComp s c x).pending = s.pending := rfl
@[simp] theorem State.setComp_regs (s : State) (c : Nat) (x : Comp) : (State.setComp s c x).regs = s.regs := rfl
@[simp] theorem State.setComp_frame (s : State) (c : Nat) (x : Comp) : (State.setComp s c x).frame = s.frame := rfl
@[simp] theorem State.setComp_fresh (s : State) (c : Nat) (x : Comp) : (State.setComp s c x).fresh = s.fresh := rfl
@[simp] theorem State.setComp_out (s : State) (c : Nat) (x : Comp) : (State.setComp s c x).out = s.out := rfl
@[simp] theorem State.setComp_cmdq (s : State) (c : Nat) (x : Comp) : (State.setComp s c x).cmdq = s.cmdq := rfl
@[simp] theorem State.setComp_pst (s : State) (c : Nat) (x : Comp) : (State.setComp s c x).pst = s.pst := rfl
@[simp] theorem State.setComp_xlt (s : State) (c : Nat) (x : Comp) : (State.setComp s c x).xlt = s.xlt := rfl
@[simp] theorem State.setComp_store (s : State) (c : Nat) (x : Comp) : (State.setComp s c x).store = s.store := rfl
@[simp] theorem State.setComp_core (s : State) (c : Nat) (x : Comp) : (State.setComp s c x).core = s.core := rfl
@[simp] theorem State.setComp_emb (s : State) (c : Nat) (x : Comp) : (State.setComp s c x).emb = s.emb := rfl
@[simp] theorem State.setComp_vec (s : State) (c : Nat) (x : Comp) : (State.setComp s c x).vec = s.vec := rfl
@[simp] theorem State.setComp_rpl (s : State) (c : Nat) (x : Comp) : (State.setComp s c x).rpl = s.rpl := rfl
@[simp] theorem State.setComp_kvp (s : State) (c : Nat) (x : Comp) : (State.setComp s c x).kvp = s.kvp := rfl
@[simp] theorem State.setComp_hxl (s : State) (c : Nat) (x : Comp) : (State.setComp s c x).hxl = s.hxl := rfl
@[simp] theorem State.setComp_coh (s : State) (c : Nat) (x : Comp) : (State.setComp s c x).coh = s.coh := rfl
@[simp] theorem State.setComp_gate (s : State) (c : Nat) (x : Comp) : (State.setComp s c x).gate = s.gate := rfl
@[simp] theorem State.setComp_err (s : State) (c : Nat) (x : Comp) : (State.setComp s c x).err = s.err := rfl
@[simp] theorem State.setComp_sys (s : State) (c : Nat) (x : Comp) : (State.setComp s c x).sys = s.sys := rfl
@[simp] theorem State.setComp_mgt (s : State) (c : Nat) (x : Comp) : (State.setComp s c x).mgt = s.mgt := rfl
@[simp] theorem State.setEdge_pending (s : State) (c : Nat) (x : Core) : (State.setEdge s c x).pending = s.pending := rfl
@[simp] theorem State.setEdge_regs (s : State) (c : Nat) (x : Core) : (State.setEdge s c x).regs = s.regs := rfl
@[simp] theorem State.setEdge_frame (s : State) (c : Nat) (x : Core) : (State.setEdge s c x).frame = s.frame := rfl
@[simp] theorem State.setEdge_fresh (s : State) (c : Nat) (x : Core) : (State.setEdge s c x).fresh = s.fresh := rfl
@[simp] theorem State.setEdge_out (s : State) (c : Nat) (x : Core) : (State.setEdge s c x).out = s.out := rfl
@[simp] theorem State.setEdge_cmdq (s : State) (c : Nat) (x : Core) : (State.setEdge s c x).cmdq = s.cmdq := rfl
@[simp] theorem State.setEdge_pst (s : State) (c : Nat) (x : Core) : (State.setEdge s c x).pst = s.pst := rfl
@[simp] theorem State.setEdge_xlt (s : State) (c : Nat) (x : Core) : (State.setEdge s c x).xlt = s.xlt := rfl
@[simp] theorem State.setEdge_store (s : State) (c : Nat) (x : Core) : (State.setEdge s c x).store = s.store := rfl
@[simp] theorem State.setEdge_emb (s : State) (c : Nat) (x : Core) : (State.setEdge s c x).emb = s.emb := rfl
@[simp] theorem State.setEdge_vec (s : State) (c : Nat) (x : Core) : (State.setEdge s c x).vec = s.vec := rfl
@[simp] theorem State.setEdge_rpl (s : State) (c : Nat) (x : Core) : (State.setEdge s c x).rpl = s.rpl := rfl
@[simp] theorem State.setEdge_kvp (s : State) (c : Nat) (x : Core) : (State.setEdge s c x).kvp = s.kvp := rfl
@[simp] theorem State.setEdge_hxl (s : State) (c : Nat) (x : Core) : (State.setEdge s c x).hxl = s.hxl := rfl
@[simp] theorem State.setEdge_coh (s : State) (c : Nat) (x : Core) : (State.setEdge s c x).coh = s.coh := rfl
@[simp] theorem State.setEdge_gate (s : State) (c : Nat) (x : Core) : (State.setEdge s c x).gate = s.gate := rfl
@[simp] theorem State.setEdge_err (s : State) (c : Nat) (x : Core) : (State.setEdge s c x).err = s.err := rfl
@[simp] theorem State.setEdge_rack (s : State) (c : Nat) (x : Core) : (State.setEdge s c x).rack = s.rack := rfl
@[simp] theorem State.setEdge_sys (s : State) (c : Nat) (x : Core) : (State.setEdge s c x).sys = s.sys := rfl
@[simp] theorem State.setEdge_mgt (s : State) (c : Nat) (x : Core) : (State.setEdge s c x).mgt = s.mgt := rfl
@[simp] theorem State.setRun_pending (s : State) (c : Nat) (r : Running) : (State.setRun s c r).pending = s.pending := rfl
@[simp] theorem State.setRun_regs (s : State) (c : Nat) (r : Running) : (State.setRun s c r).regs = s.regs := rfl
@[simp] theorem State.setRun_frame (s : State) (c : Nat) (r : Running) : (State.setRun s c r).frame = s.frame := rfl
@[simp] theorem State.setRun_fresh (s : State) (c : Nat) (r : Running) : (State.setRun s c r).fresh = s.fresh := rfl
@[simp] theorem State.setRun_out (s : State) (c : Nat) (r : Running) : (State.setRun s c r).out = s.out := rfl
@[simp] theorem State.setRun_cmdq (s : State) (c : Nat) (r : Running) : (State.setRun s c r).cmdq = s.cmdq := rfl
@[simp] theorem State.setRun_pst (s : State) (c : Nat) (r : Running) : (State.setRun s c r).pst = s.pst := rfl
@[simp] theorem State.setRun_xlt (s : State) (c : Nat) (r : Running) : (State.setRun s c r).xlt = s.xlt := rfl
@[simp] theorem State.setRun_store (s : State) (c : Nat) (r : Running) : (State.setRun s c r).store = s.store := rfl
@[simp] theorem State.setRun_emb (s : State) (c : Nat) (r : Running) : (State.setRun s c r).emb = s.emb := rfl
@[simp] theorem State.setRun_vec (s : State) (c : Nat) (r : Running) : (State.setRun s c r).vec = s.vec := rfl
@[simp] theorem State.setRun_rpl (s : State) (c : Nat) (r : Running) : (State.setRun s c r).rpl = s.rpl := rfl
@[simp] theorem State.setRun_kvp (s : State) (c : Nat) (r : Running) : (State.setRun s c r).kvp = s.kvp := rfl
@[simp] theorem State.setRun_hxl (s : State) (c : Nat) (r : Running) : (State.setRun s c r).hxl = s.hxl := rfl
@[simp] theorem State.setRun_coh (s : State) (c : Nat) (r : Running) : (State.setRun s c r).coh = s.coh := rfl
@[simp] theorem State.setRun_gate (s : State) (c : Nat) (r : Running) : (State.setRun s c r).gate = s.gate := rfl
@[simp] theorem State.setRun_err (s : State) (c : Nat) (r : Running) : (State.setRun s c r).err = s.err := rfl
@[simp] theorem State.setRun_rack (s : State) (c : Nat) (r : Running) : (State.setRun s c r).rack = s.rack := rfl
@[simp] theorem State.setRun_sys (s : State) (c : Nat) (r : Running) : (State.setRun s c r).sys = s.sys := rfl
@[simp] theorem State.setRun_mgt (s : State) (c : Nat) (r : Running) : (State.setRun s c r).mgt = s.mgt := rfl
@[simp] theorem State.setEmbTable_pending (s : State) (t : Nat) (x : EmbTable) : (State.setEmbTable s t x).pending = s.pending := rfl
@[simp] theorem State.setEmbTable_regs (s : State) (t : Nat) (x : EmbTable) : (State.setEmbTable s t x).regs = s.regs := rfl
@[simp] theorem State.setEmbTable_frame (s : State) (t : Nat) (x : EmbTable) : (State.setEmbTable s t x).frame = s.frame := rfl
@[simp] theorem State.setEmbTable_fresh (s : State) (t : Nat) (x : EmbTable) : (State.setEmbTable s t x).fresh = s.fresh := rfl
@[simp] theorem State.setEmbTable_out (s : State) (t : Nat) (x : EmbTable) : (State.setEmbTable s t x).out = s.out := rfl
@[simp] theorem State.setEmbTable_cmdq (s : State) (t : Nat) (x : EmbTable) : (State.setEmbTable s t x).cmdq = s.cmdq := rfl
@[simp] theorem State.setEmbTable_pst (s : State) (t : Nat) (x : EmbTable) : (State.setEmbTable s t x).pst = s.pst := rfl
@[simp] theorem State.setEmbTable_xlt (s : State) (t : Nat) (x : EmbTable) : (State.setEmbTable s t x).xlt = s.xlt := rfl
@[simp] theorem State.setEmbTable_store (s : State) (t : Nat) (x : EmbTable) : (State.setEmbTable s t x).store = s.store := rfl
@[simp] theorem State.setEmbTable_core (s : State) (t : Nat) (x : EmbTable) : (State.setEmbTable s t x).core = s.core := rfl
@[simp] theorem State.setEmbTable_vec (s : State) (t : Nat) (x : EmbTable) : (State.setEmbTable s t x).vec = s.vec := rfl
@[simp] theorem State.setEmbTable_rpl (s : State) (t : Nat) (x : EmbTable) : (State.setEmbTable s t x).rpl = s.rpl := rfl
@[simp] theorem State.setEmbTable_kvp (s : State) (t : Nat) (x : EmbTable) : (State.setEmbTable s t x).kvp = s.kvp := rfl
@[simp] theorem State.setEmbTable_hxl (s : State) (t : Nat) (x : EmbTable) : (State.setEmbTable s t x).hxl = s.hxl := rfl
@[simp] theorem State.setEmbTable_coh (s : State) (t : Nat) (x : EmbTable) : (State.setEmbTable s t x).coh = s.coh := rfl
@[simp] theorem State.setEmbTable_gate (s : State) (t : Nat) (x : EmbTable) : (State.setEmbTable s t x).gate = s.gate := rfl
@[simp] theorem State.setEmbTable_err (s : State) (t : Nat) (x : EmbTable) : (State.setEmbTable s t x).err = s.err := rfl
@[simp] theorem State.setEmbTable_rack (s : State) (t : Nat) (x : EmbTable) : (State.setEmbTable s t x).rack = s.rack := rfl
@[simp] theorem State.setEmbTable_sys (s : State) (t : Nat) (x : EmbTable) : (State.setEmbTable s t x).sys = s.sys := rfl
@[simp] theorem State.setEmbTable_mgt (s : State) (t : Nat) (x : EmbTable) : (State.setEmbTable s t x).mgt = s.mgt := rfl
@[simp] theorem State.setUnit_pending (s : State) (kind : Nat) (index : Nat) (u : UnitRec) : (State.setUnit s kind index u).pending = s.pending := rfl
@[simp] theorem State.setUnit_regs (s : State) (kind : Nat) (index : Nat) (u : UnitRec) : (State.setUnit s kind index u).regs = s.regs := rfl
@[simp] theorem State.setUnit_frame (s : State) (kind : Nat) (index : Nat) (u : UnitRec) : (State.setUnit s kind index u).frame = s.frame := rfl
@[simp] theorem State.setUnit_fresh (s : State) (kind : Nat) (index : Nat) (u : UnitRec) : (State.setUnit s kind index u).fresh = s.fresh := rfl
@[simp] theorem State.setUnit_out (s : State) (kind : Nat) (index : Nat) (u : UnitRec) : (State.setUnit s kind index u).out = s.out := rfl
@[simp] theorem State.setUnit_cmdq (s : State) (kind : Nat) (index : Nat) (u : UnitRec) : (State.setUnit s kind index u).cmdq = s.cmdq := rfl
@[simp] theorem State.setUnit_pst (s : State) (kind : Nat) (index : Nat) (u : UnitRec) : (State.setUnit s kind index u).pst = s.pst := rfl
@[simp] theorem State.setUnit_xlt (s : State) (kind : Nat) (index : Nat) (u : UnitRec) : (State.setUnit s kind index u).xlt = s.xlt := rfl
@[simp] theorem State.setUnit_store (s : State) (kind : Nat) (index : Nat) (u : UnitRec) : (State.setUnit s kind index u).store = s.store := rfl
@[simp] theorem State.setUnit_core (s : State) (kind : Nat) (index : Nat) (u : UnitRec) : (State.setUnit s kind index u).core = s.core := rfl
@[simp] theorem State.setUnit_emb (s : State) (kind : Nat) (index : Nat) (u : UnitRec) : (State.setUnit s kind index u).emb = s.emb := rfl
@[simp] theorem State.setUnit_vec (s : State) (kind : Nat) (index : Nat) (u : UnitRec) : (State.setUnit s kind index u).vec = s.vec := rfl
@[simp] theorem State.setUnit_rpl (s : State) (kind : Nat) (index : Nat) (u : UnitRec) : (State.setUnit s kind index u).rpl = s.rpl := rfl
@[simp] theorem State.setUnit_kvp (s : State) (kind : Nat) (index : Nat) (u : UnitRec) : (State.setUnit s kind index u).kvp = s.kvp := rfl
@[simp] theorem State.setUnit_hxl (s : State) (kind : Nat) (index : Nat) (u : UnitRec) : (State.setUnit s kind index u).hxl = s.hxl := rfl
@[simp] theorem State.setUnit_coh (s : State) (kind : Nat) (index : Nat) (u : UnitRec) : (State.setUnit s kind index u).coh = s.coh := rfl
@[simp] theorem State.setUnit_gate (s : State) (kind : Nat) (index : Nat) (u : UnitRec) : (State.setUnit s kind index u).gate = s.gate := rfl
@[simp] theorem State.setUnit_rack (s : State) (kind : Nat) (index : Nat) (u : UnitRec) : (State.setUnit s kind index u).rack = s.rack := rfl
@[simp] theorem State.setUnit_sys (s : State) (kind : Nat) (index : Nat) (u : UnitRec) : (State.setUnit s kind index u).sys = s.sys := rfl
@[simp] theorem State.setUnit_mgt (s : State) (kind : Nat) (index : Nat) (u : UnitRec) : (State.setUnit s kind index u).mgt = s.mgt := rfl
@[simp] theorem State.setGateVal_pending (s : State) (k : Nat) (v : Nat) : (State.setGateVal s k v).pending = s.pending := rfl
@[simp] theorem State.setGateVal_regs (s : State) (k : Nat) (v : Nat) : (State.setGateVal s k v).regs = s.regs := rfl
@[simp] theorem State.setGateVal_frame (s : State) (k : Nat) (v : Nat) : (State.setGateVal s k v).frame = s.frame := rfl
@[simp] theorem State.setGateVal_fresh (s : State) (k : Nat) (v : Nat) : (State.setGateVal s k v).fresh = s.fresh := rfl
@[simp] theorem State.setGateVal_out (s : State) (k : Nat) (v : Nat) : (State.setGateVal s k v).out = s.out := rfl
@[simp] theorem State.setGateVal_cmdq (s : State) (k : Nat) (v : Nat) : (State.setGateVal s k v).cmdq = s.cmdq := rfl
@[simp] theorem State.setGateVal_pst (s : State) (k : Nat) (v : Nat) : (State.setGateVal s k v).pst = s.pst := rfl
@[simp] theorem State.setGateVal_xlt (s : State) (k : Nat) (v : Nat) : (State.setGateVal s k v).xlt = s.xlt := rfl
@[simp] theorem State.setGateVal_store (s : State) (k : Nat) (v : Nat) : (State.setGateVal s k v).store = s.store := rfl
@[simp] theorem State.setGateVal_core (s : State) (k : Nat) (v : Nat) : (State.setGateVal s k v).core = s.core := rfl
@[simp] theorem State.setGateVal_emb (s : State) (k : Nat) (v : Nat) : (State.setGateVal s k v).emb = s.emb := rfl
@[simp] theorem State.setGateVal_vec (s : State) (k : Nat) (v : Nat) : (State.setGateVal s k v).vec = s.vec := rfl
@[simp] theorem State.setGateVal_rpl (s : State) (k : Nat) (v : Nat) : (State.setGateVal s k v).rpl = s.rpl := rfl
@[simp] theorem State.setGateVal_kvp (s : State) (k : Nat) (v : Nat) : (State.setGateVal s k v).kvp = s.kvp := rfl
@[simp] theorem State.setGateVal_hxl (s : State) (k : Nat) (v : Nat) : (State.setGateVal s k v).hxl = s.hxl := rfl
@[simp] theorem State.setGateVal_coh (s : State) (k : Nat) (v : Nat) : (State.setGateVal s k v).coh = s.coh := rfl
@[simp] theorem State.setGateVal_err (s : State) (k : Nat) (v : Nat) : (State.setGateVal s k v).err = s.err := rfl
@[simp] theorem State.setGateVal_rack (s : State) (k : Nat) (v : Nat) : (State.setGateVal s k v).rack = s.rack := rfl
@[simp] theorem State.setGateVal_sys (s : State) (k : Nat) (v : Nat) : (State.setGateVal s k v).sys = s.sys := rfl
@[simp] theorem State.setGateVal_mgt (s : State) (k : Nat) (v : Nat) : (State.setGateVal s k v).mgt = s.mgt := rfl
@[simp] theorem State.putGateBlock_pending (s : State) (b : Nat) (x : GateBlock) : (State.putGateBlock s b x).pending = s.pending := rfl
@[simp] theorem State.putGateBlock_regs (s : State) (b : Nat) (x : GateBlock) : (State.putGateBlock s b x).regs = s.regs := rfl
@[simp] theorem State.putGateBlock_frame (s : State) (b : Nat) (x : GateBlock) : (State.putGateBlock s b x).frame = s.frame := rfl
@[simp] theorem State.putGateBlock_fresh (s : State) (b : Nat) (x : GateBlock) : (State.putGateBlock s b x).fresh = s.fresh := rfl
@[simp] theorem State.putGateBlock_out (s : State) (b : Nat) (x : GateBlock) : (State.putGateBlock s b x).out = s.out := rfl
@[simp] theorem State.putGateBlock_cmdq (s : State) (b : Nat) (x : GateBlock) : (State.putGateBlock s b x).cmdq = s.cmdq := rfl
@[simp] theorem State.putGateBlock_pst (s : State) (b : Nat) (x : GateBlock) : (State.putGateBlock s b x).pst = s.pst := rfl
@[simp] theorem State.putGateBlock_xlt (s : State) (b : Nat) (x : GateBlock) : (State.putGateBlock s b x).xlt = s.xlt := rfl
@[simp] theorem State.putGateBlock_store (s : State) (b : Nat) (x : GateBlock) : (State.putGateBlock s b x).store = s.store := rfl
@[simp] theorem State.putGateBlock_core (s : State) (b : Nat) (x : GateBlock) : (State.putGateBlock s b x).core = s.core := rfl
@[simp] theorem State.putGateBlock_emb (s : State) (b : Nat) (x : GateBlock) : (State.putGateBlock s b x).emb = s.emb := rfl
@[simp] theorem State.putGateBlock_vec (s : State) (b : Nat) (x : GateBlock) : (State.putGateBlock s b x).vec = s.vec := rfl
@[simp] theorem State.putGateBlock_rpl (s : State) (b : Nat) (x : GateBlock) : (State.putGateBlock s b x).rpl = s.rpl := rfl
@[simp] theorem State.putGateBlock_kvp (s : State) (b : Nat) (x : GateBlock) : (State.putGateBlock s b x).kvp = s.kvp := rfl
@[simp] theorem State.putGateBlock_hxl (s : State) (b : Nat) (x : GateBlock) : (State.putGateBlock s b x).hxl = s.hxl := rfl
@[simp] theorem State.putGateBlock_coh (s : State) (b : Nat) (x : GateBlock) : (State.putGateBlock s b x).coh = s.coh := rfl
@[simp] theorem State.putGateBlock_err (s : State) (b : Nat) (x : GateBlock) : (State.putGateBlock s b x).err = s.err := rfl
@[simp] theorem State.putGateBlock_rack (s : State) (b : Nat) (x : GateBlock) : (State.putGateBlock s b x).rack = s.rack := rfl
@[simp] theorem State.putGateBlock_sys (s : State) (b : Nat) (x : GateBlock) : (State.putGateBlock s b x).sys = s.sys := rfl
@[simp] theorem State.putGateBlock_mgt (s : State) (b : Nat) (x : GateBlock) : (State.putGateBlock s b x).mgt = s.mgt := rfl
@[simp] theorem State.setRoute_pending (s : State) (m : Nat) (r : Route) : (State.setRoute s m r).pending = s.pending := rfl
@[simp] theorem State.setRoute_regs (s : State) (m : Nat) (r : Route) : (State.setRoute s m r).regs = s.regs := rfl
@[simp] theorem State.setRoute_frame (s : State) (m : Nat) (r : Route) : (State.setRoute s m r).frame = s.frame := rfl
@[simp] theorem State.setRoute_fresh (s : State) (m : Nat) (r : Route) : (State.setRoute s m r).fresh = s.fresh := rfl
@[simp] theorem State.setRoute_out (s : State) (m : Nat) (r : Route) : (State.setRoute s m r).out = s.out := rfl
@[simp] theorem State.setRoute_cmdq (s : State) (m : Nat) (r : Route) : (State.setRoute s m r).cmdq = s.cmdq := rfl
@[simp] theorem State.setRoute_pst (s : State) (m : Nat) (r : Route) : (State.setRoute s m r).pst = s.pst := rfl
@[simp] theorem State.setRoute_xlt (s : State) (m : Nat) (r : Route) : (State.setRoute s m r).xlt = s.xlt := rfl
@[simp] theorem State.setRoute_store (s : State) (m : Nat) (r : Route) : (State.setRoute s m r).store = s.store := rfl
@[simp] theorem State.setRoute_core (s : State) (m : Nat) (r : Route) : (State.setRoute s m r).core = s.core := rfl
@[simp] theorem State.setRoute_emb (s : State) (m : Nat) (r : Route) : (State.setRoute s m r).emb = s.emb := rfl
@[simp] theorem State.setRoute_vec (s : State) (m : Nat) (r : Route) : (State.setRoute s m r).vec = s.vec := rfl
@[simp] theorem State.setRoute_rpl (s : State) (m : Nat) (r : Route) : (State.setRoute s m r).rpl = s.rpl := rfl
@[simp] theorem State.setRoute_kvp (s : State) (m : Nat) (r : Route) : (State.setRoute s m r).kvp = s.kvp := rfl
@[simp] theorem State.setRoute_coh (s : State) (m : Nat) (r : Route) : (State.setRoute s m r).coh = s.coh := rfl
@[simp] theorem State.setRoute_gate (s : State) (m : Nat) (r : Route) : (State.setRoute s m r).gate = s.gate := rfl
@[simp] theorem State.setRoute_err (s : State) (m : Nat) (r : Route) : (State.setRoute s m r).err = s.err := rfl
@[simp] theorem State.setRoute_rack (s : State) (m : Nat) (r : Route) : (State.setRoute s m r).rack = s.rack := rfl
@[simp] theorem State.setRoute_sys (s : State) (m : Nat) (r : Route) : (State.setRoute s m r).sys = s.sys := rfl
@[simp] theorem State.setRoute_mgt (s : State) (m : Nat) (r : Route) : (State.setRoute s m r).mgt = s.mgt := rfl
@[simp] theorem State.setKvpPool_pending (s : State) (p : Nat) (x : KvpPool) : (State.setKvpPool s p x).pending = s.pending := rfl
@[simp] theorem State.setKvpPool_regs (s : State) (p : Nat) (x : KvpPool) : (State.setKvpPool s p x).regs = s.regs := rfl
@[simp] theorem State.setKvpPool_frame (s : State) (p : Nat) (x : KvpPool) : (State.setKvpPool s p x).frame = s.frame := rfl
@[simp] theorem State.setKvpPool_fresh (s : State) (p : Nat) (x : KvpPool) : (State.setKvpPool s p x).fresh = s.fresh := rfl
@[simp] theorem State.setKvpPool_out (s : State) (p : Nat) (x : KvpPool) : (State.setKvpPool s p x).out = s.out := rfl
@[simp] theorem State.setKvpPool_cmdq (s : State) (p : Nat) (x : KvpPool) : (State.setKvpPool s p x).cmdq = s.cmdq := rfl
@[simp] theorem State.setKvpPool_pst (s : State) (p : Nat) (x : KvpPool) : (State.setKvpPool s p x).pst = s.pst := rfl
@[simp] theorem State.setKvpPool_xlt (s : State) (p : Nat) (x : KvpPool) : (State.setKvpPool s p x).xlt = s.xlt := rfl
@[simp] theorem State.setKvpPool_store (s : State) (p : Nat) (x : KvpPool) : (State.setKvpPool s p x).store = s.store := rfl
@[simp] theorem State.setKvpPool_core (s : State) (p : Nat) (x : KvpPool) : (State.setKvpPool s p x).core = s.core := rfl
@[simp] theorem State.setKvpPool_emb (s : State) (p : Nat) (x : KvpPool) : (State.setKvpPool s p x).emb = s.emb := rfl
@[simp] theorem State.setKvpPool_vec (s : State) (p : Nat) (x : KvpPool) : (State.setKvpPool s p x).vec = s.vec := rfl
@[simp] theorem State.setKvpPool_rpl (s : State) (p : Nat) (x : KvpPool) : (State.setKvpPool s p x).rpl = s.rpl := rfl
@[simp] theorem State.setKvpPool_hxl (s : State) (p : Nat) (x : KvpPool) : (State.setKvpPool s p x).hxl = s.hxl := rfl
@[simp] theorem State.setKvpPool_coh (s : State) (p : Nat) (x : KvpPool) : (State.setKvpPool s p x).coh = s.coh := rfl
@[simp] theorem State.setKvpPool_gate (s : State) (p : Nat) (x : KvpPool) : (State.setKvpPool s p x).gate = s.gate := rfl
@[simp] theorem State.setKvpPool_err (s : State) (p : Nat) (x : KvpPool) : (State.setKvpPool s p x).err = s.err := rfl
@[simp] theorem State.setKvpPool_rack (s : State) (p : Nat) (x : KvpPool) : (State.setKvpPool s p x).rack = s.rack := rfl
@[simp] theorem State.setKvpPool_sys (s : State) (p : Nat) (x : KvpPool) : (State.setKvpPool s p x).sys = s.sys := rfl
@[simp] theorem State.setKvpPool_mgt (s : State) (p : Nat) (x : KvpPool) : (State.setKvpPool s p x).mgt = s.mgt := rfl
@[simp] theorem State.setUpdate_pending (s : State) (u : Option Update) : (State.setUpdate s u).pending = s.pending := rfl
@[simp] theorem State.setUpdate_regs (s : State) (u : Option Update) : (State.setUpdate s u).regs = s.regs := rfl
@[simp] theorem State.setUpdate_frame (s : State) (u : Option Update) : (State.setUpdate s u).frame = s.frame := rfl
@[simp] theorem State.setUpdate_fresh (s : State) (u : Option Update) : (State.setUpdate s u).fresh = s.fresh := rfl
@[simp] theorem State.setUpdate_out (s : State) (u : Option Update) : (State.setUpdate s u).out = s.out := rfl
@[simp] theorem State.setUpdate_cmdq (s : State) (u : Option Update) : (State.setUpdate s u).cmdq = s.cmdq := rfl
@[simp] theorem State.setUpdate_pst (s : State) (u : Option Update) : (State.setUpdate s u).pst = s.pst := rfl
@[simp] theorem State.setUpdate_xlt (s : State) (u : Option Update) : (State.setUpdate s u).xlt = s.xlt := rfl
@[simp] theorem State.setUpdate_store (s : State) (u : Option Update) : (State.setUpdate s u).store = s.store := rfl
@[simp] theorem State.setUpdate_core (s : State) (u : Option Update) : (State.setUpdate s u).core = s.core := rfl
@[simp] theorem State.setUpdate_emb (s : State) (u : Option Update) : (State.setUpdate s u).emb = s.emb := rfl
@[simp] theorem State.setUpdate_vec (s : State) (u : Option Update) : (State.setUpdate s u).vec = s.vec := rfl
@[simp] theorem State.setUpdate_rpl (s : State) (u : Option Update) : (State.setUpdate s u).rpl = s.rpl := rfl
@[simp] theorem State.setUpdate_kvp (s : State) (u : Option Update) : (State.setUpdate s u).kvp = s.kvp := rfl
@[simp] theorem State.setUpdate_hxl (s : State) (u : Option Update) : (State.setUpdate s u).hxl = s.hxl := rfl
@[simp] theorem State.setUpdate_coh (s : State) (u : Option Update) : (State.setUpdate s u).coh = s.coh := rfl
@[simp] theorem State.setUpdate_gate (s : State) (u : Option Update) : (State.setUpdate s u).gate = s.gate := rfl
@[simp] theorem State.setUpdate_err (s : State) (u : Option Update) : (State.setUpdate s u).err = s.err := rfl
@[simp] theorem State.setUpdate_rack (s : State) (u : Option Update) : (State.setUpdate s u).rack = s.rack := rfl
@[simp] theorem State.setUpdate_sys (s : State) (u : Option Update) : (State.setUpdate s u).sys = s.sys := rfl
@[simp] theorem State.setPeer_pending (s : State) (m : Nat) (p : Peer) : (State.setPeer s m p).pending = s.pending := rfl
@[simp] theorem State.setPeer_regs (s : State) (m : Nat) (p : Peer) : (State.setPeer s m p).regs = s.regs := rfl
@[simp] theorem State.setPeer_frame (s : State) (m : Nat) (p : Peer) : (State.setPeer s m p).frame = s.frame := rfl
@[simp] theorem State.setPeer_fresh (s : State) (m : Nat) (p : Peer) : (State.setPeer s m p).fresh = s.fresh := rfl
@[simp] theorem State.setPeer_out (s : State) (m : Nat) (p : Peer) : (State.setPeer s m p).out = s.out := rfl
@[simp] theorem State.setPeer_cmdq (s : State) (m : Nat) (p : Peer) : (State.setPeer s m p).cmdq = s.cmdq := rfl
@[simp] theorem State.setPeer_pst (s : State) (m : Nat) (p : Peer) : (State.setPeer s m p).pst = s.pst := rfl
@[simp] theorem State.setPeer_xlt (s : State) (m : Nat) (p : Peer) : (State.setPeer s m p).xlt = s.xlt := rfl
@[simp] theorem State.setPeer_store (s : State) (m : Nat) (p : Peer) : (State.setPeer s m p).store = s.store := rfl
@[simp] theorem State.setPeer_core (s : State) (m : Nat) (p : Peer) : (State.setPeer s m p).core = s.core := rfl
@[simp] theorem State.setPeer_emb (s : State) (m : Nat) (p : Peer) : (State.setPeer s m p).emb = s.emb := rfl
@[simp] theorem State.setPeer_vec (s : State) (m : Nat) (p : Peer) : (State.setPeer s m p).vec = s.vec := rfl
@[simp] theorem State.setPeer_rpl (s : State) (m : Nat) (p : Peer) : (State.setPeer s m p).rpl = s.rpl := rfl
@[simp] theorem State.setPeer_kvp (s : State) (m : Nat) (p : Peer) : (State.setPeer s m p).kvp = s.kvp := rfl
@[simp] theorem State.setPeer_hxl (s : State) (m : Nat) (p : Peer) : (State.setPeer s m p).hxl = s.hxl := rfl
@[simp] theorem State.setPeer_coh (s : State) (m : Nat) (p : Peer) : (State.setPeer s m p).coh = s.coh := rfl
@[simp] theorem State.setPeer_gate (s : State) (m : Nat) (p : Peer) : (State.setPeer s m p).gate = s.gate := rfl
@[simp] theorem State.setPeer_err (s : State) (m : Nat) (p : Peer) : (State.setPeer s m p).err = s.err := rfl
@[simp] theorem State.setPeer_sys (s : State) (m : Nat) (p : Peer) : (State.setPeer s m p).sys = s.sys := rfl
@[simp] theorem State.setPeer_mgt (s : State) (m : Nat) (p : Peer) : (State.setPeer s m p).mgt = s.mgt := rfl
@[simp] theorem State.setRplBuffer_pending (s : State) (b : Nat) (x : RplBuffer) : (State.setRplBuffer s b x).pending = s.pending := rfl
@[simp] theorem State.setRplBuffer_regs (s : State) (b : Nat) (x : RplBuffer) : (State.setRplBuffer s b x).regs = s.regs := rfl
@[simp] theorem State.setRplBuffer_frame (s : State) (b : Nat) (x : RplBuffer) : (State.setRplBuffer s b x).frame = s.frame := rfl
@[simp] theorem State.setRplBuffer_fresh (s : State) (b : Nat) (x : RplBuffer) : (State.setRplBuffer s b x).fresh = s.fresh := rfl
@[simp] theorem State.setRplBuffer_out (s : State) (b : Nat) (x : RplBuffer) : (State.setRplBuffer s b x).out = s.out := rfl
@[simp] theorem State.setRplBuffer_cmdq (s : State) (b : Nat) (x : RplBuffer) : (State.setRplBuffer s b x).cmdq = s.cmdq := rfl
@[simp] theorem State.setRplBuffer_pst (s : State) (b : Nat) (x : RplBuffer) : (State.setRplBuffer s b x).pst = s.pst := rfl
@[simp] theorem State.setRplBuffer_xlt (s : State) (b : Nat) (x : RplBuffer) : (State.setRplBuffer s b x).xlt = s.xlt := rfl
@[simp] theorem State.setRplBuffer_store (s : State) (b : Nat) (x : RplBuffer) : (State.setRplBuffer s b x).store = s.store := rfl
@[simp] theorem State.setRplBuffer_core (s : State) (b : Nat) (x : RplBuffer) : (State.setRplBuffer s b x).core = s.core := rfl
@[simp] theorem State.setRplBuffer_emb (s : State) (b : Nat) (x : RplBuffer) : (State.setRplBuffer s b x).emb = s.emb := rfl
@[simp] theorem State.setRplBuffer_vec (s : State) (b : Nat) (x : RplBuffer) : (State.setRplBuffer s b x).vec = s.vec := rfl
@[simp] theorem State.setRplBuffer_kvp (s : State) (b : Nat) (x : RplBuffer) : (State.setRplBuffer s b x).kvp = s.kvp := rfl
@[simp] theorem State.setRplBuffer_hxl (s : State) (b : Nat) (x : RplBuffer) : (State.setRplBuffer s b x).hxl = s.hxl := rfl
@[simp] theorem State.setRplBuffer_coh (s : State) (b : Nat) (x : RplBuffer) : (State.setRplBuffer s b x).coh = s.coh := rfl
@[simp] theorem State.setRplBuffer_gate (s : State) (b : Nat) (x : RplBuffer) : (State.setRplBuffer s b x).gate = s.gate := rfl
@[simp] theorem State.setRplBuffer_err (s : State) (b : Nat) (x : RplBuffer) : (State.setRplBuffer s b x).err = s.err := rfl
@[simp] theorem State.setRplBuffer_rack (s : State) (b : Nat) (x : RplBuffer) : (State.setRplBuffer s b x).rack = s.rack := rfl
@[simp] theorem State.setRplBuffer_sys (s : State) (b : Nat) (x : RplBuffer) : (State.setRplBuffer s b x).sys = s.sys := rfl
@[simp] theorem State.setRplBuffer_mgt (s : State) (b : Nat) (x : RplBuffer) : (State.setRplBuffer s b x).mgt = s.mgt := rfl
@[simp] theorem State.setTraining_pending (s : State) (kind : Nat) (inst : Nat) (x : Training) : (State.setTraining s kind inst x).pending = s.pending := rfl
@[simp] theorem State.setTraining_regs (s : State) (kind : Nat) (inst : Nat) (x : Training) : (State.setTraining s kind inst x).regs = s.regs := rfl
@[simp] theorem State.setTraining_frame (s : State) (kind : Nat) (inst : Nat) (x : Training) : (State.setTraining s kind inst x).frame = s.frame := rfl
@[simp] theorem State.setTraining_fresh (s : State) (kind : Nat) (inst : Nat) (x : Training) : (State.setTraining s kind inst x).fresh = s.fresh := rfl
@[simp] theorem State.setTraining_out (s : State) (kind : Nat) (inst : Nat) (x : Training) : (State.setTraining s kind inst x).out = s.out := rfl
@[simp] theorem State.setTraining_cmdq (s : State) (kind : Nat) (inst : Nat) (x : Training) : (State.setTraining s kind inst x).cmdq = s.cmdq := rfl
@[simp] theorem State.setTraining_pst (s : State) (kind : Nat) (inst : Nat) (x : Training) : (State.setTraining s kind inst x).pst = s.pst := rfl
@[simp] theorem State.setTraining_xlt (s : State) (kind : Nat) (inst : Nat) (x : Training) : (State.setTraining s kind inst x).xlt = s.xlt := rfl
@[simp] theorem State.setTraining_core (s : State) (kind : Nat) (inst : Nat) (x : Training) : (State.setTraining s kind inst x).core = s.core := rfl
@[simp] theorem State.setTraining_emb (s : State) (kind : Nat) (inst : Nat) (x : Training) : (State.setTraining s kind inst x).emb = s.emb := rfl
@[simp] theorem State.setTraining_vec (s : State) (kind : Nat) (inst : Nat) (x : Training) : (State.setTraining s kind inst x).vec = s.vec := rfl
@[simp] theorem State.setTraining_rpl (s : State) (kind : Nat) (inst : Nat) (x : Training) : (State.setTraining s kind inst x).rpl = s.rpl := rfl
@[simp] theorem State.setTraining_kvp (s : State) (kind : Nat) (inst : Nat) (x : Training) : (State.setTraining s kind inst x).kvp = s.kvp := rfl
@[simp] theorem State.setTraining_hxl (s : State) (kind : Nat) (inst : Nat) (x : Training) : (State.setTraining s kind inst x).hxl = s.hxl := rfl
@[simp] theorem State.setTraining_coh (s : State) (kind : Nat) (inst : Nat) (x : Training) : (State.setTraining s kind inst x).coh = s.coh := rfl
@[simp] theorem State.setTraining_gate (s : State) (kind : Nat) (inst : Nat) (x : Training) : (State.setTraining s kind inst x).gate = s.gate := rfl
@[simp] theorem State.setTraining_err (s : State) (kind : Nat) (inst : Nat) (x : Training) : (State.setTraining s kind inst x).err = s.err := rfl
@[simp] theorem State.setTraining_rack (s : State) (kind : Nat) (inst : Nat) (x : Training) : (State.setTraining s kind inst x).rack = s.rack := rfl
@[simp] theorem State.setTraining_sys (s : State) (kind : Nat) (inst : Nat) (x : Training) : (State.setTraining s kind inst x).sys = s.sys := rfl
@[simp] theorem State.setTraining_mgt (s : State) (kind : Nat) (inst : Nat) (x : Training) : (State.setTraining s kind inst x).mgt = s.mgt := rfl
@[simp] theorem State.setVecIndex_pending (s : State) (i : Nat) (x : VecIndex) : (State.setVecIndex s i x).pending = s.pending := rfl
@[simp] theorem State.setVecIndex_regs (s : State) (i : Nat) (x : VecIndex) : (State.setVecIndex s i x).regs = s.regs := rfl
@[simp] theorem State.setVecIndex_frame (s : State) (i : Nat) (x : VecIndex) : (State.setVecIndex s i x).frame = s.frame := rfl
@[simp] theorem State.setVecIndex_fresh (s : State) (i : Nat) (x : VecIndex) : (State.setVecIndex s i x).fresh = s.fresh := rfl
@[simp] theorem State.setVecIndex_out (s : State) (i : Nat) (x : VecIndex) : (State.setVecIndex s i x).out = s.out := rfl
@[simp] theorem State.setVecIndex_cmdq (s : State) (i : Nat) (x : VecIndex) : (State.setVecIndex s i x).cmdq = s.cmdq := rfl
@[simp] theorem State.setVecIndex_pst (s : State) (i : Nat) (x : VecIndex) : (State.setVecIndex s i x).pst = s.pst := rfl
@[simp] theorem State.setVecIndex_xlt (s : State) (i : Nat) (x : VecIndex) : (State.setVecIndex s i x).xlt = s.xlt := rfl
@[simp] theorem State.setVecIndex_store (s : State) (i : Nat) (x : VecIndex) : (State.setVecIndex s i x).store = s.store := rfl
@[simp] theorem State.setVecIndex_core (s : State) (i : Nat) (x : VecIndex) : (State.setVecIndex s i x).core = s.core := rfl
@[simp] theorem State.setVecIndex_emb (s : State) (i : Nat) (x : VecIndex) : (State.setVecIndex s i x).emb = s.emb := rfl
@[simp] theorem State.setVecIndex_rpl (s : State) (i : Nat) (x : VecIndex) : (State.setVecIndex s i x).rpl = s.rpl := rfl
@[simp] theorem State.setVecIndex_kvp (s : State) (i : Nat) (x : VecIndex) : (State.setVecIndex s i x).kvp = s.kvp := rfl
@[simp] theorem State.setVecIndex_hxl (s : State) (i : Nat) (x : VecIndex) : (State.setVecIndex s i x).hxl = s.hxl := rfl
@[simp] theorem State.setVecIndex_coh (s : State) (i : Nat) (x : VecIndex) : (State.setVecIndex s i x).coh = s.coh := rfl
@[simp] theorem State.setVecIndex_gate (s : State) (i : Nat) (x : VecIndex) : (State.setVecIndex s i x).gate = s.gate := rfl
@[simp] theorem State.setVecIndex_err (s : State) (i : Nat) (x : VecIndex) : (State.setVecIndex s i x).err = s.err := rfl
@[simp] theorem State.setVecIndex_rack (s : State) (i : Nat) (x : VecIndex) : (State.setVecIndex s i x).rack = s.rack := rfl
@[simp] theorem State.setVecIndex_sys (s : State) (i : Nat) (x : VecIndex) : (State.setVecIndex s i x).sys = s.sys := rfl
@[simp] theorem State.setVecIndex_mgt (s : State) (i : Nat) (x : VecIndex) : (State.setVecIndex s i x).mgt = s.mgt := rfl
@[simp] theorem State.setWalk_pending (s : State) (w : Nat) (x : Walk) : (State.setWalk s w x).pending = s.pending := rfl
@[simp] theorem State.setWalk_regs (s : State) (w : Nat) (x : Walk) : (State.setWalk s w x).regs = s.regs := rfl
@[simp] theorem State.setWalk_frame (s : State) (w : Nat) (x : Walk) : (State.setWalk s w x).frame = s.frame := rfl
@[simp] theorem State.setWalk_fresh (s : State) (w : Nat) (x : Walk) : (State.setWalk s w x).fresh = s.fresh := rfl
@[simp] theorem State.setWalk_out (s : State) (w : Nat) (x : Walk) : (State.setWalk s w x).out = s.out := rfl
@[simp] theorem State.setWalk_cmdq (s : State) (w : Nat) (x : Walk) : (State.setWalk s w x).cmdq = s.cmdq := rfl
@[simp] theorem State.setWalk_pst (s : State) (w : Nat) (x : Walk) : (State.setWalk s w x).pst = s.pst := rfl
@[simp] theorem State.setWalk_xlt (s : State) (w : Nat) (x : Walk) : (State.setWalk s w x).xlt = s.xlt := rfl
@[simp] theorem State.setWalk_store (s : State) (w : Nat) (x : Walk) : (State.setWalk s w x).store = s.store := rfl
@[simp] theorem State.setWalk_core (s : State) (w : Nat) (x : Walk) : (State.setWalk s w x).core = s.core := rfl
@[simp] theorem State.setWalk_emb (s : State) (w : Nat) (x : Walk) : (State.setWalk s w x).emb = s.emb := rfl
@[simp] theorem State.setWalk_rpl (s : State) (w : Nat) (x : Walk) : (State.setWalk s w x).rpl = s.rpl := rfl
@[simp] theorem State.setWalk_kvp (s : State) (w : Nat) (x : Walk) : (State.setWalk s w x).kvp = s.kvp := rfl
@[simp] theorem State.setWalk_hxl (s : State) (w : Nat) (x : Walk) : (State.setWalk s w x).hxl = s.hxl := rfl
@[simp] theorem State.setWalk_coh (s : State) (w : Nat) (x : Walk) : (State.setWalk s w x).coh = s.coh := rfl
@[simp] theorem State.setWalk_gate (s : State) (w : Nat) (x : Walk) : (State.setWalk s w x).gate = s.gate := rfl
@[simp] theorem State.setWalk_err (s : State) (w : Nat) (x : Walk) : (State.setWalk s w x).err = s.err := rfl
@[simp] theorem State.setWalk_rack (s : State) (w : Nat) (x : Walk) : (State.setWalk s w x).rack = s.rack := rfl
@[simp] theorem State.setWalk_sys (s : State) (w : Nat) (x : Walk) : (State.setWalk s w x).sys = s.sys := rfl
@[simp] theorem State.setWalk_mgt (s : State) (w : Nat) (x : Walk) : (State.setWalk s w x).mgt = s.mgt := rfl
@[simp] theorem State.setStage_pending (s : State) (ep : Nat) (n : Nat) : (State.setStage s ep n).pending = s.pending := rfl
@[simp] theorem State.setStage_regs (s : State) (ep : Nat) (n : Nat) : (State.setStage s ep n).regs = s.regs := rfl
@[simp] theorem State.setStage_frame (s : State) (ep : Nat) (n : Nat) : (State.setStage s ep n).frame = s.frame := rfl
@[simp] theorem State.setStage_fresh (s : State) (ep : Nat) (n : Nat) : (State.setStage s ep n).fresh = s.fresh := rfl
@[simp] theorem State.setStage_out (s : State) (ep : Nat) (n : Nat) : (State.setStage s ep n).out = s.out := rfl
@[simp] theorem State.setStage_cmdq (s : State) (ep : Nat) (n : Nat) : (State.setStage s ep n).cmdq = s.cmdq := rfl
@[simp] theorem State.setStage_pst (s : State) (ep : Nat) (n : Nat) : (State.setStage s ep n).pst = s.pst := rfl
@[simp] theorem State.setStage_xlt (s : State) (ep : Nat) (n : Nat) : (State.setStage s ep n).xlt = s.xlt := rfl
@[simp] theorem State.setStage_store (s : State) (ep : Nat) (n : Nat) : (State.setStage s ep n).store = s.store := rfl
@[simp] theorem State.setStage_core (s : State) (ep : Nat) (n : Nat) : (State.setStage s ep n).core = s.core := rfl
@[simp] theorem State.setStage_emb (s : State) (ep : Nat) (n : Nat) : (State.setStage s ep n).emb = s.emb := rfl
@[simp] theorem State.setStage_vec (s : State) (ep : Nat) (n : Nat) : (State.setStage s ep n).vec = s.vec := rfl
@[simp] theorem State.setStage_rpl (s : State) (ep : Nat) (n : Nat) : (State.setStage s ep n).rpl = s.rpl := rfl
@[simp] theorem State.setStage_kvp (s : State) (ep : Nat) (n : Nat) : (State.setStage s ep n).kvp = s.kvp := rfl
@[simp] theorem State.setStage_hxl (s : State) (ep : Nat) (n : Nat) : (State.setStage s ep n).hxl = s.hxl := rfl
@[simp] theorem State.setStage_coh (s : State) (ep : Nat) (n : Nat) : (State.setStage s ep n).coh = s.coh := rfl
@[simp] theorem State.setStage_gate (s : State) (ep : Nat) (n : Nat) : (State.setStage s ep n).gate = s.gate := rfl
@[simp] theorem State.setStage_err (s : State) (ep : Nat) (n : Nat) : (State.setStage s ep n).err = s.err := rfl
@[simp] theorem State.setStage_rack (s : State) (ep : Nat) (n : Nat) : (State.setStage s ep n).rack = s.rack := rfl
@[simp] theorem State.setStage_sys (s : State) (ep : Nat) (n : Nat) : (State.setStage s ep n).sys = s.sys := rfl
@[simp] theorem State.setHalf_pending (s : State) (i : Nat) (h : BraceHalf) : (State.setHalf s i h).pending = s.pending := rfl
@[simp] theorem State.setHalf_regs (s : State) (i : Nat) (h : BraceHalf) : (State.setHalf s i h).regs = s.regs := rfl
@[simp] theorem State.setHalf_frame (s : State) (i : Nat) (h : BraceHalf) : (State.setHalf s i h).frame = s.frame := rfl
@[simp] theorem State.setHalf_fresh (s : State) (i : Nat) (h : BraceHalf) : (State.setHalf s i h).fresh = s.fresh := rfl
@[simp] theorem State.setHalf_out (s : State) (i : Nat) (h : BraceHalf) : (State.setHalf s i h).out = s.out := rfl
@[simp] theorem State.setHalf_cmdq (s : State) (i : Nat) (h : BraceHalf) : (State.setHalf s i h).cmdq = s.cmdq := rfl
@[simp] theorem State.setHalf_pst (s : State) (i : Nat) (h : BraceHalf) : (State.setHalf s i h).pst = s.pst := rfl
@[simp] theorem State.setHalf_xlt (s : State) (i : Nat) (h : BraceHalf) : (State.setHalf s i h).xlt = s.xlt := rfl
@[simp] theorem State.setHalf_core (s : State) (i : Nat) (h : BraceHalf) : (State.setHalf s i h).core = s.core := rfl
@[simp] theorem State.setHalf_emb (s : State) (i : Nat) (h : BraceHalf) : (State.setHalf s i h).emb = s.emb := rfl
@[simp] theorem State.setHalf_vec (s : State) (i : Nat) (h : BraceHalf) : (State.setHalf s i h).vec = s.vec := rfl
@[simp] theorem State.setHalf_rpl (s : State) (i : Nat) (h : BraceHalf) : (State.setHalf s i h).rpl = s.rpl := rfl
@[simp] theorem State.setHalf_kvp (s : State) (i : Nat) (h : BraceHalf) : (State.setHalf s i h).kvp = s.kvp := rfl
@[simp] theorem State.setHalf_hxl (s : State) (i : Nat) (h : BraceHalf) : (State.setHalf s i h).hxl = s.hxl := rfl
@[simp] theorem State.setHalf_coh (s : State) (i : Nat) (h : BraceHalf) : (State.setHalf s i h).coh = s.coh := rfl
@[simp] theorem State.setHalf_gate (s : State) (i : Nat) (h : BraceHalf) : (State.setHalf s i h).gate = s.gate := rfl
@[simp] theorem State.setHalf_err (s : State) (i : Nat) (h : BraceHalf) : (State.setHalf s i h).err = s.err := rfl
@[simp] theorem State.setHalf_rack (s : State) (i : Nat) (h : BraceHalf) : (State.setHalf s i h).rack = s.rack := rfl
@[simp] theorem State.setHalf_sys (s : State) (i : Nat) (h : BraceHalf) : (State.setHalf s i h).sys = s.sys := rfl
@[simp] theorem State.setHalf_mgt (s : State) (i : Nat) (h : BraceHalf) : (State.setHalf s i h).mgt = s.mgt := rfl
@[simp] theorem State.pmcOverflow_pending (s : State) (k : Nat) : (State.pmcOverflow s k).pending = s.pending := by
  simp only [State.pmcOverflow]
  repeat' split
  all_goals simp
@[simp] theorem State.pmcOverflow_frame (s : State) (k : Nat) : (State.pmcOverflow s k).frame = s.frame := by
  simp only [State.pmcOverflow]
  repeat' split
  all_goals simp
@[simp] theorem State.pmcOverflow_fresh (s : State) (k : Nat) : (State.pmcOverflow s k).fresh = s.fresh := by
  simp only [State.pmcOverflow]
  repeat' split
  all_goals simp
@[simp] theorem State.pmcOverflow_pst (s : State) (k : Nat) : (State.pmcOverflow s k).pst = s.pst := by
  simp only [State.pmcOverflow]
  repeat' split
  all_goals simp
@[simp] theorem State.pmcOverflow_xlt (s : State) (k : Nat) : (State.pmcOverflow s k).xlt = s.xlt := by
  simp only [State.pmcOverflow]
  repeat' split
  all_goals simp
@[simp] theorem State.pmcOverflow_store (s : State) (k : Nat) : (State.pmcOverflow s k).store = s.store := by
  simp only [State.pmcOverflow]
  repeat' split
  all_goals simp
@[simp] theorem State.pmcOverflow_core (s : State) (k : Nat) : (State.pmcOverflow s k).core = s.core := by
  simp only [State.pmcOverflow]
  repeat' split
  all_goals simp
@[simp] theorem State.pmcOverflow_emb (s : State) (k : Nat) : (State.pmcOverflow s k).emb = s.emb := by
  simp only [State.pmcOverflow]
  repeat' split
  all_goals simp
@[simp] theorem State.pmcOverflow_vec (s : State) (k : Nat) : (State.pmcOverflow s k).vec = s.vec := by
  simp only [State.pmcOverflow]
  repeat' split
  all_goals simp
@[simp] theorem State.pmcOverflow_rpl (s : State) (k : Nat) : (State.pmcOverflow s k).rpl = s.rpl := by
  simp only [State.pmcOverflow]
  repeat' split
  all_goals simp
@[simp] theorem State.pmcOverflow_kvp (s : State) (k : Nat) : (State.pmcOverflow s k).kvp = s.kvp := by
  simp only [State.pmcOverflow]
  repeat' split
  all_goals simp
@[simp] theorem State.pmcOverflow_hxl (s : State) (k : Nat) : (State.pmcOverflow s k).hxl = s.hxl := by
  simp only [State.pmcOverflow]
  repeat' split
  all_goals simp
@[simp] theorem State.pmcOverflow_coh (s : State) (k : Nat) : (State.pmcOverflow s k).coh = s.coh := by
  simp only [State.pmcOverflow]
  repeat' split
  all_goals simp
@[simp] theorem State.pmcOverflow_gate (s : State) (k : Nat) : (State.pmcOverflow s k).gate = s.gate := by
  simp only [State.pmcOverflow]
  repeat' split
  all_goals simp
@[simp] theorem State.pmcOverflow_err (s : State) (k : Nat) : (State.pmcOverflow s k).err = s.err := by
  simp only [State.pmcOverflow]
  repeat' split
  all_goals simp
@[simp] theorem State.pmcOverflow_rack (s : State) (k : Nat) : (State.pmcOverflow s k).rack = s.rack := by
  simp only [State.pmcOverflow]
  repeat' split
  all_goals simp
@[simp] theorem State.pmcOverflow_sys (s : State) (k : Nat) : (State.pmcOverflow s k).sys = s.sys := by
  simp only [State.pmcOverflow]
  repeat' split
  all_goals simp
@[simp] theorem State.pmcWrap_pending (s : State) (k : Nat) : (State.pmcWrap s k).pending = s.pending := by
  simp only [State.pmcWrap]
  repeat' split
  all_goals simp
@[simp] theorem State.pmcWrap_frame (s : State) (k : Nat) : (State.pmcWrap s k).frame = s.frame := by
  simp only [State.pmcWrap]
  repeat' split
  all_goals simp
@[simp] theorem State.pmcWrap_fresh (s : State) (k : Nat) : (State.pmcWrap s k).fresh = s.fresh := by
  simp only [State.pmcWrap]
  repeat' split
  all_goals simp
@[simp] theorem State.pmcWrap_pst (s : State) (k : Nat) : (State.pmcWrap s k).pst = s.pst := by
  simp only [State.pmcWrap]
  repeat' split
  all_goals simp
@[simp] theorem State.pmcWrap_xlt (s : State) (k : Nat) : (State.pmcWrap s k).xlt = s.xlt := by
  simp only [State.pmcWrap]
  repeat' split
  all_goals simp
@[simp] theorem State.pmcWrap_store (s : State) (k : Nat) : (State.pmcWrap s k).store = s.store := by
  simp only [State.pmcWrap]
  repeat' split
  all_goals simp
@[simp] theorem State.pmcWrap_core (s : State) (k : Nat) : (State.pmcWrap s k).core = s.core := by
  simp only [State.pmcWrap]
  repeat' split
  all_goals simp
@[simp] theorem State.pmcWrap_emb (s : State) (k : Nat) : (State.pmcWrap s k).emb = s.emb := by
  simp only [State.pmcWrap]
  repeat' split
  all_goals simp
@[simp] theorem State.pmcWrap_vec (s : State) (k : Nat) : (State.pmcWrap s k).vec = s.vec := by
  simp only [State.pmcWrap]
  repeat' split
  all_goals simp
@[simp] theorem State.pmcWrap_rpl (s : State) (k : Nat) : (State.pmcWrap s k).rpl = s.rpl := by
  simp only [State.pmcWrap]
  repeat' split
  all_goals simp
@[simp] theorem State.pmcWrap_kvp (s : State) (k : Nat) : (State.pmcWrap s k).kvp = s.kvp := by
  simp only [State.pmcWrap]
  repeat' split
  all_goals simp
@[simp] theorem State.pmcWrap_hxl (s : State) (k : Nat) : (State.pmcWrap s k).hxl = s.hxl := by
  simp only [State.pmcWrap]
  repeat' split
  all_goals simp
@[simp] theorem State.pmcWrap_coh (s : State) (k : Nat) : (State.pmcWrap s k).coh = s.coh := by
  simp only [State.pmcWrap]
  repeat' split
  all_goals simp
@[simp] theorem State.pmcWrap_gate (s : State) (k : Nat) : (State.pmcWrap s k).gate = s.gate := by
  simp only [State.pmcWrap]
  repeat' split
  all_goals simp
@[simp] theorem State.pmcWrap_err (s : State) (k : Nat) : (State.pmcWrap s k).err = s.err := by
  simp only [State.pmcWrap]
  repeat' split
  all_goals simp
@[simp] theorem State.pmcWrap_rack (s : State) (k : Nat) : (State.pmcWrap s k).rack = s.rack := by
  simp only [State.pmcWrap]
  repeat' split
  all_goals simp
@[simp] theorem State.pmcWrap_sys (s : State) (k : Nat) : (State.pmcWrap s k).sys = s.sys := by
  simp only [State.pmcWrap]
  repeat' split
  all_goals simp
@[simp] theorem State.pulse_pending (s : State) (event : Nat) (unit : Nat) (n : optParam Nat 1) : (State.pulse s event unit n).pending = s.pending := by
  unfold State.pulse
  exact foldl_keeps (fun s : State => s.pending) _ (by intro s c; dsimp only; split <;> simp) _ _
@[simp] theorem State.pulse_frame (s : State) (event : Nat) (unit : Nat) (n : optParam Nat 1) : (State.pulse s event unit n).frame = s.frame := by
  unfold State.pulse
  exact foldl_keeps (fun s : State => s.frame) _ (by intro s c; dsimp only; split <;> simp) _ _
@[simp] theorem State.pulse_fresh (s : State) (event : Nat) (unit : Nat) (n : optParam Nat 1) : (State.pulse s event unit n).fresh = s.fresh := by
  unfold State.pulse
  exact foldl_keeps (fun s : State => s.fresh) _ (by intro s c; dsimp only; split <;> simp) _ _
@[simp] theorem State.pulse_pst (s : State) (event : Nat) (unit : Nat) (n : optParam Nat 1) : (State.pulse s event unit n).pst = s.pst := by
  unfold State.pulse
  exact foldl_keeps (fun s : State => s.pst) _ (by intro s c; dsimp only; split <;> simp) _ _
@[simp] theorem State.pulse_xlt (s : State) (event : Nat) (unit : Nat) (n : optParam Nat 1) : (State.pulse s event unit n).xlt = s.xlt := by
  unfold State.pulse
  exact foldl_keeps (fun s : State => s.xlt) _ (by intro s c; dsimp only; split <;> simp) _ _
@[simp] theorem State.pulse_store (s : State) (event : Nat) (unit : Nat) (n : optParam Nat 1) : (State.pulse s event unit n).store = s.store := by
  unfold State.pulse
  exact foldl_keeps (fun s : State => s.store) _ (by intro s c; dsimp only; split <;> simp) _ _
@[simp] theorem State.pulse_core (s : State) (event : Nat) (unit : Nat) (n : optParam Nat 1) : (State.pulse s event unit n).core = s.core := by
  unfold State.pulse
  exact foldl_keeps (fun s : State => s.core) _ (by intro s c; dsimp only; split <;> simp) _ _
@[simp] theorem State.pulse_emb (s : State) (event : Nat) (unit : Nat) (n : optParam Nat 1) : (State.pulse s event unit n).emb = s.emb := by
  unfold State.pulse
  exact foldl_keeps (fun s : State => s.emb) _ (by intro s c; dsimp only; split <;> simp) _ _
@[simp] theorem State.pulse_vec (s : State) (event : Nat) (unit : Nat) (n : optParam Nat 1) : (State.pulse s event unit n).vec = s.vec := by
  unfold State.pulse
  exact foldl_keeps (fun s : State => s.vec) _ (by intro s c; dsimp only; split <;> simp) _ _
@[simp] theorem State.pulse_rpl (s : State) (event : Nat) (unit : Nat) (n : optParam Nat 1) : (State.pulse s event unit n).rpl = s.rpl := by
  unfold State.pulse
  exact foldl_keeps (fun s : State => s.rpl) _ (by intro s c; dsimp only; split <;> simp) _ _
@[simp] theorem State.pulse_kvp (s : State) (event : Nat) (unit : Nat) (n : optParam Nat 1) : (State.pulse s event unit n).kvp = s.kvp := by
  unfold State.pulse
  exact foldl_keeps (fun s : State => s.kvp) _ (by intro s c; dsimp only; split <;> simp) _ _
@[simp] theorem State.pulse_hxl (s : State) (event : Nat) (unit : Nat) (n : optParam Nat 1) : (State.pulse s event unit n).hxl = s.hxl := by
  unfold State.pulse
  exact foldl_keeps (fun s : State => s.hxl) _ (by intro s c; dsimp only; split <;> simp) _ _
@[simp] theorem State.pulse_coh (s : State) (event : Nat) (unit : Nat) (n : optParam Nat 1) : (State.pulse s event unit n).coh = s.coh := by
  unfold State.pulse
  exact foldl_keeps (fun s : State => s.coh) _ (by intro s c; dsimp only; split <;> simp) _ _
@[simp] theorem State.pulse_gate (s : State) (event : Nat) (unit : Nat) (n : optParam Nat 1) : (State.pulse s event unit n).gate = s.gate := by
  unfold State.pulse
  exact foldl_keeps (fun s : State => s.gate) _ (by intro s c; dsimp only; split <;> simp) _ _
@[simp] theorem State.pulse_err (s : State) (event : Nat) (unit : Nat) (n : optParam Nat 1) : (State.pulse s event unit n).err = s.err := by
  unfold State.pulse
  exact foldl_keeps (fun s : State => s.err) _ (by intro s c; dsimp only; split <;> simp) _ _
@[simp] theorem State.pulse_rack (s : State) (event : Nat) (unit : Nat) (n : optParam Nat 1) : (State.pulse s event unit n).rack = s.rack := by
  unfold State.pulse
  exact foldl_keeps (fun s : State => s.rack) _ (by intro s c; dsimp only; split <;> simp) _ _
@[simp] theorem State.pulse_sys (s : State) (event : Nat) (unit : Nat) (n : optParam Nat 1) : (State.pulse s event unit n).sys = s.sys := by
  unfold State.pulse
  exact foldl_keeps (fun s : State => s.sys) _ (by intro s c; dsimp only; split <;> simp) _ _
@[simp] theorem State.setAtc_pending (s : State) (port : Nat) (l : List AtcEntry) : (State.setAtc s port l).pending = s.pending := rfl
@[simp] theorem State.setAtc_regs (s : State) (port : Nat) (l : List AtcEntry) : (State.setAtc s port l).regs = s.regs := rfl
@[simp] theorem State.setAtc_frame (s : State) (port : Nat) (l : List AtcEntry) : (State.setAtc s port l).frame = s.frame := rfl
@[simp] theorem State.setAtc_fresh (s : State) (port : Nat) (l : List AtcEntry) : (State.setAtc s port l).fresh = s.fresh := rfl
@[simp] theorem State.setAtc_out (s : State) (port : Nat) (l : List AtcEntry) : (State.setAtc s port l).out = s.out := rfl
@[simp] theorem State.setAtc_cmdq (s : State) (port : Nat) (l : List AtcEntry) : (State.setAtc s port l).cmdq = s.cmdq := rfl
@[simp] theorem State.setAtc_pst (s : State) (port : Nat) (l : List AtcEntry) : (State.setAtc s port l).pst = s.pst := rfl
@[simp] theorem State.setAtc_store (s : State) (port : Nat) (l : List AtcEntry) : (State.setAtc s port l).store = s.store := rfl
@[simp] theorem State.setAtc_core (s : State) (port : Nat) (l : List AtcEntry) : (State.setAtc s port l).core = s.core := rfl
@[simp] theorem State.setAtc_emb (s : State) (port : Nat) (l : List AtcEntry) : (State.setAtc s port l).emb = s.emb := rfl
@[simp] theorem State.setAtc_vec (s : State) (port : Nat) (l : List AtcEntry) : (State.setAtc s port l).vec = s.vec := rfl
@[simp] theorem State.setAtc_rpl (s : State) (port : Nat) (l : List AtcEntry) : (State.setAtc s port l).rpl = s.rpl := rfl
@[simp] theorem State.setAtc_kvp (s : State) (port : Nat) (l : List AtcEntry) : (State.setAtc s port l).kvp = s.kvp := rfl
@[simp] theorem State.setAtc_hxl (s : State) (port : Nat) (l : List AtcEntry) : (State.setAtc s port l).hxl = s.hxl := rfl
@[simp] theorem State.setAtc_coh (s : State) (port : Nat) (l : List AtcEntry) : (State.setAtc s port l).coh = s.coh := rfl
@[simp] theorem State.setAtc_gate (s : State) (port : Nat) (l : List AtcEntry) : (State.setAtc s port l).gate = s.gate := rfl
@[simp] theorem State.setAtc_err (s : State) (port : Nat) (l : List AtcEntry) : (State.setAtc s port l).err = s.err := rfl
@[simp] theorem State.setAtc_rack (s : State) (port : Nat) (l : List AtcEntry) : (State.setAtc s port l).rack = s.rack := rfl
@[simp] theorem State.setAtc_sys (s : State) (port : Nat) (l : List AtcEntry) : (State.setAtc s port l).sys = s.sys := rfl
@[simp] theorem State.setAtc_mgt (s : State) (port : Nat) (l : List AtcEntry) : (State.setAtc s port l).mgt = s.mgt := rfl
@[simp] theorem State.finish_pending (s : State) (id : Nat) (f : Outcome → Outcome) : (State.finish s id f).pending = s.pending := rfl
@[simp] theorem State.finish_regs (s : State) (id : Nat) (f : Outcome → Outcome) : (State.finish s id f).regs = s.regs := rfl
@[simp] theorem State.finish_frame (s : State) (id : Nat) (f : Outcome → Outcome) : (State.finish s id f).frame = s.frame := rfl
@[simp] theorem State.finish_fresh (s : State) (id : Nat) (f : Outcome → Outcome) : (State.finish s id f).fresh = s.fresh := rfl
@[simp] theorem State.finish_out (s : State) (id : Nat) (f : Outcome → Outcome) : (State.finish s id f).out = s.out := rfl
@[simp] theorem State.finish_pst (s : State) (id : Nat) (f : Outcome → Outcome) : (State.finish s id f).pst = s.pst := rfl
@[simp] theorem State.finish_xlt (s : State) (id : Nat) (f : Outcome → Outcome) : (State.finish s id f).xlt = s.xlt := rfl
@[simp] theorem State.finish_store (s : State) (id : Nat) (f : Outcome → Outcome) : (State.finish s id f).store = s.store := rfl
@[simp] theorem State.finish_core (s : State) (id : Nat) (f : Outcome → Outcome) : (State.finish s id f).core = s.core := rfl
@[simp] theorem State.finish_emb (s : State) (id : Nat) (f : Outcome → Outcome) : (State.finish s id f).emb = s.emb := rfl
@[simp] theorem State.finish_vec (s : State) (id : Nat) (f : Outcome → Outcome) : (State.finish s id f).vec = s.vec := rfl
@[simp] theorem State.finish_rpl (s : State) (id : Nat) (f : Outcome → Outcome) : (State.finish s id f).rpl = s.rpl := rfl
@[simp] theorem State.finish_kvp (s : State) (id : Nat) (f : Outcome → Outcome) : (State.finish s id f).kvp = s.kvp := rfl
@[simp] theorem State.finish_hxl (s : State) (id : Nat) (f : Outcome → Outcome) : (State.finish s id f).hxl = s.hxl := rfl
@[simp] theorem State.finish_coh (s : State) (id : Nat) (f : Outcome → Outcome) : (State.finish s id f).coh = s.coh := rfl
@[simp] theorem State.finish_gate (s : State) (id : Nat) (f : Outcome → Outcome) : (State.finish s id f).gate = s.gate := rfl
@[simp] theorem State.finish_err (s : State) (id : Nat) (f : Outcome → Outcome) : (State.finish s id f).err = s.err := rfl
@[simp] theorem State.finish_rack (s : State) (id : Nat) (f : Outcome → Outcome) : (State.finish s id f).rack = s.rack := rfl
@[simp] theorem State.finish_sys (s : State) (id : Nat) (f : Outcome → Outcome) : (State.finish s id f).sys = s.sys := rfl
@[simp] theorem State.finish_mgt (s : State) (id : Nat) (f : Outcome → Outcome) : (State.finish s id f).mgt = s.mgt := rfl
@[simp] theorem State.failWith_pending (s : State) (id : Nat) (st : Nat) (sub : Nat) (r0 : optParam Nat 0) : (State.failWith s id st sub r0).pending = s.pending := rfl
@[simp] theorem State.failWith_regs (s : State) (id : Nat) (st : Nat) (sub : Nat) (r0 : optParam Nat 0) : (State.failWith s id st sub r0).regs = s.regs := rfl
@[simp] theorem State.failWith_frame (s : State) (id : Nat) (st : Nat) (sub : Nat) (r0 : optParam Nat 0) : (State.failWith s id st sub r0).frame = s.frame := rfl
@[simp] theorem State.failWith_fresh (s : State) (id : Nat) (st : Nat) (sub : Nat) (r0 : optParam Nat 0) : (State.failWith s id st sub r0).fresh = s.fresh := rfl
@[simp] theorem State.failWith_out (s : State) (id : Nat) (st : Nat) (sub : Nat) (r0 : optParam Nat 0) : (State.failWith s id st sub r0).out = s.out := rfl
@[simp] theorem State.failWith_pst (s : State) (id : Nat) (st : Nat) (sub : Nat) (r0 : optParam Nat 0) : (State.failWith s id st sub r0).pst = s.pst := rfl
@[simp] theorem State.failWith_xlt (s : State) (id : Nat) (st : Nat) (sub : Nat) (r0 : optParam Nat 0) : (State.failWith s id st sub r0).xlt = s.xlt := rfl
@[simp] theorem State.failWith_store (s : State) (id : Nat) (st : Nat) (sub : Nat) (r0 : optParam Nat 0) : (State.failWith s id st sub r0).store = s.store := rfl
@[simp] theorem State.failWith_core (s : State) (id : Nat) (st : Nat) (sub : Nat) (r0 : optParam Nat 0) : (State.failWith s id st sub r0).core = s.core := rfl
@[simp] theorem State.failWith_emb (s : State) (id : Nat) (st : Nat) (sub : Nat) (r0 : optParam Nat 0) : (State.failWith s id st sub r0).emb = s.emb := rfl
@[simp] theorem State.failWith_vec (s : State) (id : Nat) (st : Nat) (sub : Nat) (r0 : optParam Nat 0) : (State.failWith s id st sub r0).vec = s.vec := rfl
@[simp] theorem State.failWith_rpl (s : State) (id : Nat) (st : Nat) (sub : Nat) (r0 : optParam Nat 0) : (State.failWith s id st sub r0).rpl = s.rpl := rfl
@[simp] theorem State.failWith_kvp (s : State) (id : Nat) (st : Nat) (sub : Nat) (r0 : optParam Nat 0) : (State.failWith s id st sub r0).kvp = s.kvp := rfl
@[simp] theorem State.failWith_hxl (s : State) (id : Nat) (st : Nat) (sub : Nat) (r0 : optParam Nat 0) : (State.failWith s id st sub r0).hxl = s.hxl := rfl
@[simp] theorem State.failWith_coh (s : State) (id : Nat) (st : Nat) (sub : Nat) (r0 : optParam Nat 0) : (State.failWith s id st sub r0).coh = s.coh := rfl
@[simp] theorem State.failWith_gate (s : State) (id : Nat) (st : Nat) (sub : Nat) (r0 : optParam Nat 0) : (State.failWith s id st sub r0).gate = s.gate := rfl
@[simp] theorem State.failWith_err (s : State) (id : Nat) (st : Nat) (sub : Nat) (r0 : optParam Nat 0) : (State.failWith s id st sub r0).err = s.err := rfl
@[simp] theorem State.failWith_rack (s : State) (id : Nat) (st : Nat) (sub : Nat) (r0 : optParam Nat 0) : (State.failWith s id st sub r0).rack = s.rack := rfl
@[simp] theorem State.failWith_sys (s : State) (id : Nat) (st : Nat) (sub : Nat) (r0 : optParam Nat 0) : (State.failWith s id st sub r0).sys = s.sys := rfl
@[simp] theorem State.failWith_mgt (s : State) (id : Nat) (st : Nat) (sub : Nat) (r0 : optParam Nat 0) : (State.failWith s id st sub r0).mgt = s.mgt := rfl

end Sys2Proof.Machine
end

