-- ==== Sys2Proof/Laws/Read.lean ====
section
/-!
SUPPORT. What a table of the state reads after the named operation that writes it.
-/
namespace Sys2Proof.Machine

open Sys2Proof

@[simp] theorem State.source_setSource_same (s : State) (a : Nat) (x : Source) : (s.setSource a x).source a = x := by
  simp [State.source, State.setSource]
theorem State.source_setSource_other (s : State) {a b : Nat} (x : Source) (h : b ≠ a) :
    (s.setSource a x).source b = s.source b := by simp [State.source, State.setSource, Tab.getD_set, h]
@[simp] theorem State.qp_setSource (s : State) (a b c : Nat) (x : Source) : (s.setSource a x).qp b c = s.qp b c := rfl
@[simp] theorem State.entry?_setSource (s : State) (a i : Nat) (x : Source) : (s.setSource a x).entry? i = s.entry? i := rfl
@[simp] theorem State.qp_setQp_same (s : State) (a b : Nat) (x : QueuePair) : (s.setQp a b x).qp a b = x := by
  simp [State.qp, State.setQp]
theorem State.qp_setQp_other (s : State) {a b c d : Nat} (x : QueuePair) (h : qpKey c d ≠ qpKey a b) :
    (s.setQp a b x).qp c d = s.qp c d := by simp [State.qp, State.setQp, Tab.getD_set, h]
@[simp] theorem State.source_setQp (s : State) (a b c : Nat) (x : QueuePair) : (s.setQp a b x).source c = s.source c := rfl
@[simp] theorem State.entry?_setQp (s : State) (a b i : Nat) (x : QueuePair) : (s.setQp a b x).entry? i = s.entry? i := rfl
@[simp] theorem State.entry?_setEntry_same (s : State) (i : Nat) (e : Entry) : (s.setEntry i e).entry? i = some e := by
  simp [State.entry?, State.setEntry]
theorem State.entry?_setEntry_other (s : State) {i j : Nat} (e : Entry) (h : j ≠ i) :
    (s.setEntry i e).entry? j = s.entry? j := by simp [State.entry?, State.setEntry, h]
@[simp] theorem State.entry?_dropEntry_same (s : State) (i : Nat) : (s.dropEntry i).entry? i = none := by
  simp [State.entry?, State.dropEntry]
theorem State.entry?_dropEntry_other (s : State) {i j : Nat} (h : j ≠ i) : (s.dropEntry i).entry? j = s.entry? j := by
  simp only [State.entry?, State.dropEntry]; exact Tab.find?_erase_other _ h
theorem State.modEntry_eq {s : State} {i : Nat} {e : Entry} (h : s.entry? i = some e) (f : Entry → Entry) :
    s.modEntry i f = s.setEntry i (f e) := by
  simp only [State.entry?] at h; simp [State.modEntry, State.setEntry, Tab.modify_of_find h]
@[simp] theorem State.source_setEntry (s : State) (i a : Nat) (e : Entry) : (s.setEntry i e).source a = s.source a := rfl
@[simp] theorem State.qp_setEntry (s : State) (i a b : Nat) (e : Entry) : (s.setEntry i e).qp a b = s.qp a b := rfl
@[simp] theorem State.source_dropEntry (s : State) (i a : Nat) : (s.dropEntry i).source a = s.source a := rfl
@[simp] theorem State.qp_dropEntry (s : State) (i a b : Nat) : (s.dropEntry i).qp a b = s.qp a b := rfl
@[simp] theorem State.source_emit (s : State) (x : Emit) (a : Nat) : (s.emit x).source a = s.source a := rfl
@[simp] theorem State.qp_emit (s : State) (x : Emit) (a b : Nat) : (s.emit x).qp a b = s.qp a b := rfl
@[simp] theorem State.entry?_emit (s : State) (x : Emit) (i : Nat) : (s.emit x).entry? i = s.entry? i := rfl
@[simp] theorem State.source_setFld (s : State) (f : Fld) (v a : Nat) : (s.setFld f v).source a = s.source a := rfl
@[simp] theorem State.qp_setFld (s : State) (f : Fld) (v a b : Nat) : (s.setFld f v).qp a b = s.qp a b := rfl
@[simp] theorem State.entry?_setFld (s : State) (f : Fld) (v i : Nat) : (s.setFld f v).entry? i = s.entry? i := rfl
@[simp] theorem State.source_setFldAt (s : State) (b : Nat) (f : Fld) (v a : Nat) : (s.setFldAt b f v).source a = s.source a := rfl
@[simp] theorem State.qp_setFldAt (s : State) (c : Nat) (f : Fld) (v a b : Nat) : (s.setFldAt c f v).qp a b = s.qp a b := rfl

@[simp] theorem State.entry?_setFldAt (s : State) (c : Nat) (f : Fld) (v i : Nat) : (s.setFldAt c f v).entry? i = s.entry? i := rfl

/-- A message of MSI-X changes no queue pair, no source and no entry. -/
@[simp] theorem State.source_sendMsix (s : State) (f v a : Nat) : (s.sendMsix f v).source a = s.source a := by
  unfold State.sendMsix; split <;> rfl
@[simp] theorem State.qp_sendMsix (s : State) (f v a b : Nat) : (s.sendMsix f v).qp a b = s.qp a b := by
  unfold State.sendMsix; split <;> rfl
@[simp] theorem State.entry?_sendMsix (s : State) (f v i : Nat) : (s.sendMsix f v).entry? i = s.entry? i := by
  unfold State.sendMsix; split <;> rfl
@[simp] theorem State.source_fnRaise (s : State) (f : Nat) (ev : Fld) (a : Nat) : (s.fnRaise f ev).source a = s.source a := by
  simp only [State.fnRaise]; repeat' split
  all_goals simp
@[simp] theorem State.qp_fnRaise (s : State) (f : Nat) (ev : Fld) (a b : Nat) : (s.fnRaise f ev).qp a b = s.qp a b := by
  simp only [State.fnRaise]; repeat' split
  all_goals simp
@[simp] theorem State.entry?_fnRaise (s : State) (f : Nat) (ev : Fld) (i : Nat) : (s.fnRaise f ev).entry? i = s.entry? i := by
  simp only [State.fnRaise]; repeat' split
  all_goals simp
@[simp] theorem State.source_raise (s : State) (ev : Fld) (a : Nat) : (s.raise ev).source a = s.source a := by
  simp only [State.raise]; repeat' split
  all_goals simp
@[simp] theorem State.qp_raise (s : State) (ev : Fld) (a b : Nat) : (s.raise ev).qp a b = s.qp a b := by
  simp only [State.raise]; repeat' split
  all_goals simp
@[simp] theorem State.entry?_raise (s : State) (ev : Fld) (i : Nat) : (s.raise ev).entry? i = s.entry? i := by
  simp only [State.raise]; repeat' split
  all_goals simp

/-- An event bit is set after it is raised. -/
theorem State.fld_sendMsix (s : State) (f v : Nat) (g : Fld) : (s.sendMsix f v).fld g = s.fld g := by
  unfold State.sendMsix; split <;> rfl
theorem State.fldAt_sendMsix (s : State) (f v a : Nat) (g : Fld) : (s.sendMsix f v).fldAt a g = s.fldAt a g := by
  unfold State.sendMsix; split <;> rfl
theorem State.fldAt_fnRaise_same (s : State) (f : Nat) (ev : Fld) (h : ev.lo = ev.hi ∧ ev.hi < 32) :
    (s.fnRaise f ev).fldAt f ev = 1 := by
  have hb : ev.lo ≤ ev.hi ∧ ev.hi < 32 ∧ 1 < 2 ^ (ev.hi + 1 - ev.lo) := by
    rw [h.1]; exact ⟨by omega, h.2, by rw [show ev.hi + 1 - ev.hi = 1 by omega]; decide⟩
  simp only [State.fnRaise]
  split
  · assumption
  · split
    · rw [State.fldAt_sendMsix]; exact s.fldAt_setFldAt_same f ev 1 hb
    · exact s.fldAt_setFldAt_same f ev 1 hb
theorem State.fld_raise_same (s : State) (ev : Fld) (h : ev.lo = ev.hi ∧ ev.hi < 32) : (s.raise ev).fld ev = 1 := by
  have hb : ev.lo ≤ ev.hi ∧ ev.hi < 32 ∧ 1 < 2 ^ (ev.hi + 1 - ev.lo) := by
    rw [h.1]; exact ⟨by omega, h.2, by rw [show ev.hi + 1 - ev.hi = 1 by omega]; decide⟩
  simp only [State.raise]
  split
  · assumption
  · repeat' split
    all_goals (try simp only [State.fld_sendMsix]); exact s.fld_setFld_same ev 1 hb

/-- Raising an event leaves every other field. -/
theorem State.fld_raise_other (s : State) (ev g : Fld) (h : ev.lo ≤ ev.hi ∧ ev.hi < 32)
    (hd : regKey 0 g.off ≠ regKey 0 ev.off ∨ g.off = ev.off ∧ (g.hi < ev.lo ∨ ev.hi < g.lo)) :
    (s.raise ev).fld g = s.fld g := by
  simp only [State.raise]
  split
  · rfl
  · repeat' split
    all_goals (try simp only [State.fld_sendMsix]); exact s.fld_setFld_other ev g 1 h hd
theorem State.fld_emit (s : State) (e : Emit) (g : Fld) : (s.emit e).fld g = s.fld g := rfl
theorem State.fld_setPort (s : State) (p : Nat) (x : Port) (g : Fld) : (s.setPort p x).fld g = s.fld g := rfl
theorem State.fld_setSource (s : State) (p : Nat) (x : Source) (g : Fld) : (s.setSource p x).fld g = s.fld g := rfl
theorem State.fld_setEntry (s : State) (p : Nat) (x : Entry) (g : Fld) : (s.setEntry p x).fld g = s.fld g := rfl

/-! ### Fields through the register file -/

/-- A field of a register that stands once, of a register file. With it a field passes through every update of other parts. -/
def regsFld (r : Tab Word) (g : Fld) : Nat := bf (r.getD (regKey 0 g.off) (resetWord g.off)) g.hi g.lo
theorem State.fld_eq_regsFld (s : State) (g : Fld) : s.fld g = regsFld s.regs g := rfl
theorem regsFld_setFld_other (s : State) (f g : Fld) (v : Nat) (h : f.lo ≤ f.hi ∧ f.hi < 32)
    (hd : regKey 0 g.off ≠ regKey 0 f.off ∨ g.off = f.off ∧ (g.hi < f.lo ∨ f.hi < g.lo)) :
    regsFld (s.setFld f v).regs g = regsFld s.regs g := s.fld_setFld_other f g v h hd
theorem regsFld_setFld_same (s : State) (f : Fld) (v : Nat) (h : f.lo ≤ f.hi ∧ f.hi < 32) :
    regsFld (s.setFld f v).regs f = v % 2 ^ (f.hi + 1 - f.lo) := s.fld_setFld_mod f v h
theorem regsFld_raise_other (s : State) (ev g : Fld) (h : ev.lo ≤ ev.hi ∧ ev.hi < 32)
    (hd : regKey 0 g.off ≠ regKey 0 ev.off ∨ g.off = ev.off ∧ (g.hi < ev.lo ∨ ev.hi < g.lo)) :
    regsFld (s.raise ev).regs g = regsFld s.regs g := s.fld_raise_other ev g h hd
theorem regsFld_raise_same (s : State) (ev : Fld) (h : ev.lo = ev.hi ∧ ev.hi < 32) : regsFld (s.raise ev).regs ev = 1 :=
  s.fld_raise_same ev h

/-! ### Parts of the intake that events and counters leave alone -/
@[simp] theorem State.cmdq_sources_sendMsix (s : State) (f v : Nat) : (s.sendMsix f v).cmdq.sources = s.cmdq.sources := by
  unfold State.sendMsix; split <;> rfl
@[simp] theorem State.cmdq_qps_sendMsix (s : State) (f v : Nat) : (s.sendMsix f v).cmdq.qps = s.cmdq.qps := by
  unfold State.sendMsix; split <;> rfl
@[simp] theorem State.cmdq_entries_sendMsix (s : State) (f v : Nat) : (s.sendMsix f v).cmdq.entries = s.cmdq.entries := by
  unfold State.sendMsix; split <;> rfl
@[simp] theorem State.cmdq_nextId_sendMsix (s : State) (f v : Nat) : (s.sendMsix f v).cmdq.nextId = s.cmdq.nextId := by
  unfold State.sendMsix; split <;> rfl
@[simp] theorem State.cmdq_nextOrder_sendMsix (s : State) (f v : Nat) : (s.sendMsix f v).cmdq.nextOrder = s.cmdq.nextOrder := by
  unfold State.sendMsix; split <;> rfl
@[simp] theorem State.cmdq_sources_raise (s : State) (ev : Fld) : (s.raise ev).cmdq.sources = s.cmdq.sources := by
  simp only [State.raise]; repeat' split
  all_goals simp
@[simp] theorem State.cmdq_qps_raise (s : State) (ev : Fld) : (s.raise ev).cmdq.qps = s.cmdq.qps := by
  simp only [State.raise]; repeat' split
  all_goals simp
@[simp] theorem State.cmdq_entries_raise (s : State) (ev : Fld) : (s.raise ev).cmdq.entries = s.cmdq.entries := by
  simp only [State.raise]; repeat' split
  all_goals simp
@[simp] theorem State.cmdq_nextId_raise (s : State) (ev : Fld) : (s.raise ev).cmdq.nextId = s.cmdq.nextId := by
  simp only [State.raise]; repeat' split
  all_goals simp
@[simp] theorem State.cmdq_nextOrder_raise (s : State) (ev : Fld) : (s.raise ev).cmdq.nextOrder = s.cmdq.nextOrder := by
  simp only [State.raise]; repeat' split
  all_goals simp
@[simp] theorem State.cmdq_sources_fnRaise (s : State) (f : Nat) (ev : Fld) : (s.fnRaise f ev).cmdq.sources = s.cmdq.sources := by
  simp only [State.fnRaise]; repeat' split
  all_goals simp
@[simp] theorem State.cmdq_qps_fnRaise (s : State) (f : Nat) (ev : Fld) : (s.fnRaise f ev).cmdq.qps = s.cmdq.qps := by
  simp only [State.fnRaise]; repeat' split
  all_goals simp
@[simp] theorem State.cmdq_entries_fnRaise (s : State) (f : Nat) (ev : Fld) : (s.fnRaise f ev).cmdq.entries = s.cmdq.entries := by
  simp only [State.fnRaise]; repeat' split
  all_goals simp
@[simp] theorem State.cmdq_nextId_fnRaise (s : State) (f : Nat) (ev : Fld) : (s.fnRaise f ev).cmdq.nextId = s.cmdq.nextId := by
  simp only [State.fnRaise]; repeat' split
  all_goals simp
@[simp] theorem State.cmdq_nextOrder_fnRaise (s : State) (f : Nat) (ev : Fld) : (s.fnRaise f ev).cmdq.nextOrder = s.cmdq.nextOrder := by
  simp only [State.fnRaise]; repeat' split
  all_goals simp
@[simp] theorem State.cmdq_sources_pmcOverflow (s : State) (k : Nat) : (s.pmcOverflow k).cmdq.sources = s.cmdq.sources := by
  simp only [State.pmcOverflow]; repeat' split
  all_goals simp
@[simp] theorem State.cmdq_qps_pmcOverflow (s : State) (k : Nat) : (s.pmcOverflow k).cmdq.qps = s.cmdq.qps := by
  simp only [State.pmcOverflow]; repeat' split
  all_goals simp
@[simp] theorem State.cmdq_entries_pmcOverflow (s : State) (k : Nat) : (s.pmcOverflow k).cmdq.entries = s.cmdq.entries := by
  simp only [State.pmcOverflow]; repeat' split
  all_goals simp
@[simp] theorem State.cmdq_nextId_pmcOverflow (s : State) (k : Nat) : (s.pmcOverflow k).cmdq.nextId = s.cmdq.nextId := by
  simp only [State.pmcOverflow]; repeat' split
  all_goals simp
@[simp] theorem State.cmdq_nextOrder_pmcOverflow (s : State) (k : Nat) : (s.pmcOverflow k).cmdq.nextOrder = s.cmdq.nextOrder := by
  simp only [State.pmcOverflow]; repeat' split
  all_goals simp
@[simp] theorem State.cmdq_sources_pmcWrap (s : State) (k : Nat) : (s.pmcWrap k).cmdq.sources = s.cmdq.sources := by
  simp only [State.pmcWrap]; repeat' split
  all_goals simp
@[simp] theorem State.cmdq_qps_pmcWrap (s : State) (k : Nat) : (s.pmcWrap k).cmdq.qps = s.cmdq.qps := by
  simp only [State.pmcWrap]; repeat' split
  all_goals simp
@[simp] theorem State.cmdq_entries_pmcWrap (s : State) (k : Nat) : (s.pmcWrap k).cmdq.entries = s.cmdq.entries := by
  simp only [State.pmcWrap]; repeat' split
  all_goals simp
@[simp] theorem State.cmdq_nextId_pmcWrap (s : State) (k : Nat) : (s.pmcWrap k).cmdq.nextId = s.cmdq.nextId := by
  simp only [State.pmcWrap]; repeat' split
  all_goals simp
@[simp] theorem State.cmdq_nextOrder_pmcWrap (s : State) (k : Nat) : (s.pmcWrap k).cmdq.nextOrder = s.cmdq.nextOrder := by
  simp only [State.pmcWrap]; repeat' split
  all_goals simp
@[simp] theorem State.cmdq_sources_pulse (s : State) (e u n : Nat) : (s.pulse e u n).cmdq.sources = s.cmdq.sources := by
  unfold State.pulse
  exact foldl_keeps (fun s : State => s.cmdq.sources) _ (by intro s c; dsimp only; split <;> simp) _ _
@[simp] theorem State.cmdq_qps_pulse (s : State) (e u n : Nat) : (s.pulse e u n).cmdq.qps = s.cmdq.qps := by
  unfold State.pulse
  exact foldl_keeps (fun s : State => s.cmdq.qps) _ (by intro s c; dsimp only; split <;> simp) _ _
@[simp] theorem State.cmdq_entries_pulse (s : State) (e u n : Nat) : (s.pulse e u n).cmdq.entries = s.cmdq.entries := by
  unfold State.pulse
  exact foldl_keeps (fun s : State => s.cmdq.entries) _ (by intro s c; dsimp only; split <;> simp) _ _
@[simp] theorem State.cmdq_nextId_pulse (s : State) (e u n : Nat) : (s.pulse e u n).cmdq.nextId = s.cmdq.nextId := by
  unfold State.pulse
  exact foldl_keeps (fun s : State => s.cmdq.nextId) _ (by intro s c; dsimp only; split <;> simp) _ _
@[simp] theorem State.cmdq_nextOrder_pulse (s : State) (e u n : Nat) : (s.pulse e u n).cmdq.nextOrder = s.cmdq.nextOrder := by
  unfold State.pulse
  exact foldl_keeps (fun s : State => s.cmdq.nextOrder) _ (by intro s c; dsimp only; split <;> simp) _ _
@[simp] theorem State.source_pulse (s : State) (e u n : Nat) (i : Nat) : (s.pulse e u n).source i = s.source i := by simp [State.source]
@[simp] theorem State.qp_pulse (s : State) (e u n : Nat) (i j : Nat) : (s.pulse e u n).qp i j = s.qp i j := by simp [State.qp]
@[simp] theorem State.entry?_pulse (s : State) (e u n : Nat) (i : Nat) : (s.pulse e u n).entry? i = s.entry? i := by simp [State.entry?]

/-- What waits for an entry changes no source and no queue pair when it takes one. -/
@[simp] theorem State.source_takeHeld (s : State) (a : Nat) : s.takeHeld.source a = s.source a := by
  unfold State.takeHeld
  split
  · rfl
  · exact foldl_keeps (fun s : State => s.source a) _ (by intro s c; dsimp only; split <;> simp) _ _
@[simp] theorem State.qp_takeHeld (s : State) (a b : Nat) : s.takeHeld.qp a b = s.qp a b := by
  unfold State.takeHeld
  split
  · rfl
  · exact foldl_keeps (fun s : State => s.qp a b) _ (by intro s c; dsimp only; split <;> simp) _ _
theorem State.takeHeld_frame {β : Type} (s : State) (g : State → β) (h : ∀ s i e, g (State.setEntry s i e) = g s) : g s.takeHeld = g s := by
  unfold State.takeHeld
  split
  · rfl
  · exact foldl_keeps g _ (by intro s c; dsimp only; split; exact h _ _ _; rfl) _ _

end Sys2Proof.Machine
end

