-- ==== Sys2Proof/Laws/Frame.lean ====
section
/-!
SUPPORT. Frames: how "nothing but these changes" passes through an update and through a chain of them.
-/
namespace Sys2Proof.Machine

open Sys2Proof

theorem Frame.refl (l : List Part) (s : State) : Frame l s s := by intro p _; cases p <;> rfl
theorem Frame.trans {l : List Part} {r s t : State} (a : Frame l r s) (b : Frame l s t) : Frame l r t := by
  intro p hp
  have x := a p hp
  have y := b p hp
  cases p <;> exact y.trans x
theorem Frame.mono {k l : List Part} {s t : State} (h : Frame k s t) (hs : k ⊆ l) : Frame l s t :=
  fun p hp => h p fun hk => hp (hs hk)

theorem Part.idx_inj {p q : Part} (h : p.idx = q.idx) : p = q := by
  cases p <;> cases q <;> first | rfl | (exact absurd h (by decide))

/-- The number of a set of parts holds the bits of its members. -/
theorem testBit_partsMask (l : List Part) (p : Part) : (partsMask l).testBit p.idx = decide (p ∈ l) := by
  have key : ∀ (l : List Part) (m : Nat), (l.foldl (fun m q => m ||| 2 ^ q.idx) m).testBit p.idx = (m.testBit p.idx || decide (p ∈ l)) := by
    intro l
    induction l with
    | nil => intro m; simp
    | cons q l ih =>
      intro m
      rw [List.foldl_cons, ih, Nat.testBit_or, Nat.testBit_two_pow]
      by_cases h : p = q
      · subst h; simp
      · have : q.idx ≠ p.idx := fun e => h (Part.idx_inj e).symm
        simp [h, this]
  rw [partsMask, key]; simp

theorem FieldsStand.refl (l : List Fld) (s : State) : FieldsStand l s s := fun _ _ _ => rfl
theorem FieldsStand.trans {l : List Fld} {r s t : State} (a : FieldsStand l r s) (b : FieldsStand l s t) : FieldsStand l r t :=
  fun g hg h => (b g hg h).trans (a g hg h)
theorem FieldsStand.of_regs {l : List Fld} {s t : State} (h : t.regs = s.regs) : FieldsStand l s t :=
  fun g _ _ => State.fld_congr h g

theorem isSharedEventEn_lt {o : Nat} (h : isSharedEventEn o = true) : o < 2 ^ 24 := by
  simp only [isSharedEventEn, List.contains_eq_mem, List.mem_cons, List.not_mem_nil, or_false, decide_eq_true_eq] at h
  omega

/-- Registers that stand at different offsets of BAR0 stand at different places of the register file. -/
theorem regKey_zero_inj {a b : Nat} (ha : a < 2 ^ 24) (hb : b < 2 ^ 24) (h : regKey 0 a = regKey 0 b) : a = b := by
  unfold regKey pfOf at h
  split at h <;> split at h <;> (repeat' split at h) <;> omega

/-- Setting one field leaves every field that shares no bit with it. -/
theorem FieldsStand.setFld {l : List Fld} {r s : State} (hs : FieldsStand l r s) (f : Fld) (v : Nat)
    (h : f.lo ≤ f.hi ∧ f.hi < 32 ∧ f.off < 2 ^ 24) (hf : f ∈ l) : FieldsStand l r (s.setFld f v) := by
  intro g hg hl
  rw [← hs g hg hl]
  apply State.fld_setFld_other _ _ _ _ ⟨h.1, h.2.1⟩
  by_cases e : g.off = f.off
  · right
    refine ⟨e, ?_⟩
    rcases hl f hf with k | k | k
    · exact absurd e.symm k
    · exact Or.inr k
    · exact Or.inl k
  · left
    exact fun k => e (regKey_zero_inj hg h.2.2 k)
theorem FieldsStand.raise {l : List Fld} {r s : State} (hs : FieldsStand l r s) (f : Fld)
    (h : f.lo ≤ f.hi ∧ f.hi < 32 ∧ f.off < 2 ^ 24) (hf : f ∈ l) : FieldsStand l r (s.raise f) := by
  intro g hg hl
  rw [← hs g hg hl]
  apply State.fld_raise_other _ _ _ ⟨h.1, h.2.1⟩
  by_cases e : g.off = f.off
  · right
    refine ⟨e, ?_⟩
    rcases hl f hf with k | k | k
    · exact absurd e.symm k
    · exact Or.inr k
    · exact Or.inl k
  · left
    exact fun k => e (regKey_zero_inj hg h.2.2 k)

/-- Setting a field of one function's copy changes that field alone. -/
theorem onlyField_setFldAt (s : State) (a : Nat) (f : Fld) (v : Nat) (h : f.lo ≤ f.hi ∧ f.hi < 32) :
    OnlyField a f s (s.setFldAt a f v) := by
  refine ⟨by intro p hp; cases p <;> first | (exfalso; revert hp; decide) | rfl, ?_, ?_⟩
  · intro g he hd
    apply State.fldAt_setFldAt_other _ _ _ _ _ _ h
    right
    refine ⟨rfl, he, ?_⟩
    rcases hd with hd | hd | hd
    · exact absurd he.symm hd
    · right; exact hd
    · left; exact hd
  · intro b g hd
    exact State.fldAt_setFldAt_other _ _ _ _ _ _ h (Or.inl hd)

end Sys2Proof.Machine
end

