-- ==== Sys2Proof/Laws/Keeps.lean ====
section
/-!
SUPPORT. What every operation and every meaning keeps and which parts of the state it leaves alone: one lemma for each function
that answers a state. A set of parts is a number, one bit for each part.
-/
set_option linter.all false

namespace Sys2Proof.Machine

open Sys2Proof

/-- From `r` to `s` nothing but the parts of `m` has changed, and what every command keeps is kept. -/
structure Kept (m : Nat) (r s : State) : Prop where
  keeps : Keeps r s
  frame : ∀ p : Part, m.testBit p.idx = false → r.agree s p

/-- The same of an operation that answers a state and a value. -/
@[irreducible] def KeptP {β : Type} (m : Nat) (r : State) (p : State × β) : Prop :=
  match p with
  | (t, _) => Kept m r t

/-- The same of an outcome that goes on. -/
@[irreducible] def KeptRes (m : Nat) (r : State) (o : Res) : Prop := ∀ t, o = .next t → Kept m r t

theorem Kept.sub {a b m : Nat} (h : Nat.land b m = b) (k : Nat.land a b = a) : Nat.land a m = a := by
  change a &&& m = a
  change b &&& m = b at h
  change a &&& b = a at k
  rw [← k, Nat.and_assoc, h]
theorem Kept.bit {a m : Nat} (h : Nat.land a m = a) (i : Nat) (k : a.testBit i = true) : m.testBit i = true := by
  change a &&& m = a at h
  have := congrArg (fun x => x.testBit i) h
  simp only [Nat.testBit_and, k, Bool.true_and] at this
  exact this

theorem Kept.no {a m i : Nat} (h : Nat.land a m = a) (hp : m.testBit i = false) (k : a.testBit i = true) : False := by
  rw [Kept.bit h i k] at hp; cases hp

theorem Kept.refl (m : Nat) (s : State) : Kept m s s :=
  ⟨⟨rfl, List.prefix_refl _, id, id⟩, by intro p _; cases p <;> rfl⟩
theorem Kept.trans {m : Nat} {r s t : State} (a : Kept m r s) (b : Kept m s t) : Kept m r t :=
  ⟨⟨b.keeps.pending.trans a.keeps.pending, a.keeps.out.trans b.keeps.out, b.keeps.mem ∘ a.keeps.mem, b.keeps.regs ∘ a.keeps.regs⟩, by
    intro p hp
    have x := a.frame p hp
    have y := b.frame p hp
    cases p <;> exact y.trans x⟩

/-- An update of parts that hold neither the queue, nor the output, nor the registers, nor the store's bytes. -/
theorem Kept.upd {m : Nat} {r t : State} (h : Kept m r t) {a b c d e} {st : StoreState} {f g i j k l mm n o p q u}
    (hs : st.mem = t.store.mem)
    (hd : ∀ x : Part, m.testBit x.idx = false → t.agree (State.mk t.pending t.regs a b t.out c d e st f g i j k l mm n o p q u) x) :
    Kept m r (State.mk t.pending t.regs a b t.out c d e st f g i j k l mm n o p q u) :=
  h.trans ⟨⟨rfl, List.prefix_refl _, fun w => by rw [show (State.mk t.pending t.regs a b t.out c d e st f g i j k l mm n o p q u).store.mem = t.store.mem from hs]; exact w, id⟩, hd⟩

theorem Kept.foldl {α : Type} {m : Nat} {r s : State} {f : State → α → State} {l : List α} (h : Kept m r s)
    (hf : ∀ t a, Kept m r t → Kept m r (f t a)) : Kept m r (l.foldl f s) := by
  induction l generalizing s with
  | nil => exact h
  | cons a l ih => exact ih (hf s a h)

theorem KeptP.mk {β : Type} {m : Nat} {r s : State} {b : β} (h : Kept m r s) : KeptP m r (s, b) := by unfold KeptP; exact h
theorem KeptP.fst {β : Type} {m : Nat} {r : State} {p : State × β} (h : KeptP m r p) : Kept m r p.1 := by
  unfold KeptP at h; obtain ⟨t, b⟩ := p; exact h
theorem KeptP.of_eq {β : Type} {m : Nat} {r s : State} {p : State × β} {b : β} (e : p = (s, b)) (h : KeptP m r p) : Kept m r s := by
  subst e; exact h.fst

theorem KeptP.foldl {α β : Type} {m : Nat} {r : State} {p : State × β} {f : State × β → α → State × β} {l : List α} (h : KeptP m r p)
    (hf : ∀ t b a, Kept m r t → KeptP m r (f (t, b) a)) : KeptP m r (l.foldl f p) := by
  induction l generalizing p with
  | nil => exact h
  | cons a l ih => obtain ⟨t, b⟩ := p; exact ih (hf t b a h.fst)

theorem KeptP.cond {c : Prop} [Decidable c] {β : Type} {m : Nat} {r : State} {a b : State × β} (ha : KeptP m r a) (hb : KeptP m r b) :
    KeptP m r (if c then a else b) := by split <;> assumption

theorem Kept.cond {c : Prop} [Decidable c] {m : Nat} {r a b : State} (ha : Kept m r a) (hb : Kept m r b) : Kept m r (if c then a else b) := by
  split <;> assumption

theorem KeptRes.next {m : Nat} {r s : State} (h : Kept m r s) : KeptRes m r (.next s) := by
  unfold KeptRes; intro t e; cases e; exact h

theorem KeptRes.cond {c : Prop} [Decidable c] {m : Nat} {r : State} {a b : Res} (ha : KeptRes m r a) (hb : KeptRes m r b) :
    KeptRes m r (if c then a else b) := by split <;> assumption

theorem Memory.above_erase {b : Nat} {m : Memory} {a : Nat} (h : ∀ c ∈ m, b < c.1) : ∀ c ∈ cellsErase m a, b < c.1 := by
  induction m with
  | nil => intro c hc; simp [cellsErase] at hc
  | cons x l ih =>
    obtain ⟨i, w⟩ := x
    have hl : ∀ c ∈ l, b < c.1 := fun c hc => h c (by simp [hc])
    unfold cellsErase
    split
    · exact ih hl
    · intro c hc
      rcases List.mem_cons.mp hc with rfl | hc
      · exact h _ (by simp)
      · exact ih hl c hc

theorem Memory.above_put {b : Nat} {m : Memory} {a : Nat} {v : Byte} (h : ∀ c ∈ m, b < c.1) (ha : b < a) :
    ∀ c ∈ cellsSet m a v, b < c.1 := by
  induction m with
  | nil => intro c hc; simp only [cellsSet, List.mem_singleton] at hc; subst hc; exact ha
  | cons x l ih =>
    obtain ⟨i, w⟩ := x
    have hl : ∀ c ∈ l, b < c.1 := fun c hc => h c (by simp [hc])
    have hi : b < i := h (i, w) (by simp)
    unfold cellsSet
    intro c
    repeat' split
    all_goals simp only [List.mem_cons]
    · rintro (rfl | rfl | hc); exact ha; exact hi; exact hl c hc
    · rintro (rfl | hc); exact ha; exact hl c hc
    · rintro (rfl | hc); exact hi; exact ih hl c hc

theorem Memory.sorted_cons (i : Nat) (w : Byte) (m : Memory) :
    Memory.sorted ((i, w) :: m) = true ↔ (∀ c ∈ m, i < c.1) ∧ Memory.sorted m = true := by
  unfold Memory.sorted
  induction m generalizing i w with
  | nil => simp [cellsSorted]
  | cons c l ih =>
    obtain ⟨j, v⟩ := c
    simp only [cellsSorted, Bool.and_eq_true, decide_eq_true_eq]
    constructor
    · rintro ⟨h1, h2⟩
      refine ⟨fun c hc => ?_, h2⟩
      rcases List.mem_cons.mp hc with rfl | hc
      · exact h1
      · exact h1.trans (((ih j v).mp h2).1 c hc)
    · rintro ⟨h1, h2⟩; exact ⟨h1 (j, v) (by simp), h2⟩

theorem Memory.wf_cons (i : Nat) (w : Byte) (m : Memory) :
    Memory.wf ((i, w) :: m) = true ↔ (∀ c ∈ m, i < c.1) ∧ w ≠ 0 ∧ Memory.wf m = true := by
  simp only [Memory.wf, Bool.and_eq_true, Memory.sorted_cons, List.all_cons, bne_iff_ne, ne_eq]
  tauto

theorem Memory.wf_erase {m : Memory} (a : Nat) (h : Memory.wf m = true) : Memory.wf (cellsErase m a) = true := by
  induction m with
  | nil => rfl
  | cons x l ih =>
    obtain ⟨i, w⟩ := x
    obtain ⟨h1, h2, h3⟩ := (Memory.wf_cons i w l).mp h
    unfold cellsErase
    split
    · exact ih h3
    · exact (Memory.wf_cons i w _).mpr ⟨Memory.above_erase h1, h2, ih h3⟩

theorem Memory.wf_put {m : Memory} (a : Nat) {v : Byte} (hv : v ≠ 0) (h : Memory.wf m = true) :
    Memory.wf (cellsSet m a v) = true := by
  induction m with
  | nil => exact (Memory.wf_cons a v []).mpr ⟨by simp, hv, rfl⟩
  | cons x l ih =>
    obtain ⟨i, w⟩ := x
    obtain ⟨h1, h2, h3⟩ := (Memory.wf_cons i w l).mp h
    unfold cellsSet
    split
    · rename_i hlt
      refine (Memory.wf_cons a v _).mpr ⟨fun c hc => ?_, hv, h⟩
      rcases List.mem_cons.mp hc with rfl | hc
      · exact hlt
      · exact hlt.trans (h1 c hc)
    split
    · rename_i he; subst he; exact (Memory.wf_cons _ v l).mpr ⟨h1, hv, h3⟩
    · exact (Memory.wf_cons i w _).mpr ⟨Memory.above_put h1 (by omega), h2, ih h3⟩

/-- A write of one byte keeps the canonical form. -/
theorem Memory.wf_set {m : Memory} (a : Nat) (v : Byte) (h : Memory.wf m = true) : Memory.wf (Memory.set m a v) = true := by
  unfold Memory.set
  split
  · exact Memory.wf_erase a h
  · exact Memory.wf_put a (by assumption) h

theorem Memory.wf_setBytes {m : Memory} (a : Nat) (l : List Byte) (h : Memory.wf m = true) :
    Memory.wf (Memory.setBytes m a l) = true := by
  induction l generalizing m a with
  | nil => exact h
  | cons b l ih => exact ih _ (Memory.wf_set a b h)

theorem Memory.wf_filter {m : Memory} (p : Host.Cell → Bool) (h : Memory.wf m = true) : Memory.wf (m.filter p) = true := by
  induction m with
  | nil => rfl
  | cons x l ih =>
    obtain ⟨i, w⟩ := x
    obtain ⟨h1, h2, h3⟩ := (Memory.wf_cons i w l).mp h
    rw [List.filter_cons]
    split
    · exact (Memory.wf_cons i w _).mpr ⟨fun c hc => h1 c (List.mem_filter.mp hc).1, h2, ih h3⟩
    · exact ih h3

theorem Memory.wf_sets {l : List Host.Cell} {m : Memory} (h : Memory.wf m = true) :
    Memory.wf (l.foldl (fun (m : Memory) c => Memory.set m c.1 c.2) m) = true := by
  induction l generalizing m with
  | nil => exact h
  | cons c l ih => exact ih (Memory.wf_set c.1 c.2 h)



theorem Kept.part {m : Nat} {r s t : State} (h : Kept m r s) (k : Keeps s t) (q : Part) (hq : m.testBit q.idx = true)
    (ha : ∀ p, p ≠ q → s.agree t p) : Kept m r t :=
  h.trans ⟨k, fun p hp => ha p fun e => by rw [e, hq] at hp; cases hp⟩
theorem State.emit_keeps {m : Nat} {r : State} (s : State) (e : Emit) (hm : Nat.land 16 m = 16) (h : Kept m r s) : Kept m r (State.emit s e) :=
  h.part ⟨rfl, List.prefix_append _ _, id, id⟩ .out (Kept.bit hm _ rfl) (by intro p hp; cases p <;> first | rfl | exact absurd rfl hp)
theorem State.setRegAt_keeps {m : Nat} {r : State} (s : State) (src : Nat) (off : Nat) (w : Word) (hm : Nat.land 2 m = 2) (h : Kept m r s) :
    Kept m r (State.setRegAt s src off w) :=
  h.part ⟨rfl, List.prefix_refl _, id, fun k => cellsSorted_set _ _ k⟩ .regs (Kept.bit hm _ rfl) (by intro p hp; cases p <;> first | rfl | exact absurd rfl hp)
theorem State.pokeBytes_keeps {m : Nat} {r : State} (s : State) (a : Nat) (l : List Byte) (hm : Nat.land 8388608 m = 8388608) (h : Kept m r s) :
    Kept m r (State.pokeBytes s a l) :=
  h.part ⟨rfl, List.prefix_refl _, fun w => Memory.wf_setBytes a l w, id⟩ .mem (Kept.bit hm _ rfl) (by intro p hp; cases p <;> first | rfl | exact absurd rfl hp)
theorem State.zeroSlab_keeps {m : Nat} {r : State} (s : State) (n : Nat) (hm : Nat.land 8388864 m = 8388864) (h : Kept m r s) : Kept m r (State.zeroSlab s n) :=
  h.trans ⟨⟨rfl, List.prefix_refl _, fun w => Memory.wf_filter _ w, id⟩, by intro p hp; cases p <;> first | rfl | exact (Kept.no hm hp (by decide)).elim⟩
theorem State.returnWipe_keeps {m : Nat} {r : State} (s : State) (b : Bool) (hm : Nat.land 9175296 m = 9175296) (h : Kept m r s) : Kept m r (State.returnWipe s b) :=
  h.trans ⟨⟨rfl, List.prefix_refl _, fun w => Memory.wf_filter _ w, id⟩, by intro p hp; cases p <;> first | rfl | exact (Kept.no hm hp (by decide)).elim⟩
theorem State.tickFresh_keeps {m : Nat} {r : State} (s : State) (hm : Nat.land 8 m = 8) (h : Kept m r s) : Kept m r (State.tickFresh s) := by
  unfold State.tickFresh
  with_reducible repeat' (first | assumption | exact Kept.sub hm rfl | exact Kept.refl _ _ | refine KeptRes.next ?_ | refine Kept.cond ?_ ?_ | refine KeptRes.cond ?_ ?_ | refine KeptP.cond ?_ ?_ | refine Kept.foldl ?_ ?_ | intro _ | refine KeptP.foldl ?_ ?_ | refine KeptP.of_eq (by assumption) ?_ | dsimp only | split | dsimp only | refine KeptP.fst ?_ | refine KeptP.mk ?_ | fail_if_no_progress (refine Kept.upd ?_ (by rfl) (by intro p hp; cases p <;> first | rfl | exact (Kept.no hm hp (by decide)).elim)))
theorem State.setFld_keeps {m : Nat} {r : State} (s : State) (f : Fld) (v : Nat) (hm : Nat.land 2 m = 2) (h : Kept m r s) : Kept m r (State.setFld s f v) := by
  unfold State.setFld
  with_reducible repeat' (first | assumption | exact Kept.sub hm rfl | exact Kept.refl _ _ | refine KeptRes.next ?_ | refine Kept.cond ?_ ?_ | refine KeptRes.cond ?_ ?_ | refine KeptP.cond ?_ ?_ | apply State.setRegAt_keeps | refine Kept.foldl ?_ ?_ | intro _ | refine KeptP.foldl ?_ ?_ | refine KeptP.of_eq (by assumption) ?_ | dsimp only | split | dsimp only | refine KeptP.fst ?_ | refine KeptP.mk ?_ | fail_if_no_progress (refine Kept.upd ?_ (by rfl) (by intro p hp; cases p <;> first | rfl | exact (Kept.no hm hp (by decide)).elim)))
theorem State.setFldAt_keeps {m : Nat} {r : State} (s : State) (src : Nat) (f : Fld) (v : Nat) (hm : Nat.land 2 m = 2) (h : Kept m r s) : Kept m r (State.setFldAt s src f v) := by
  unfold State.setFldAt
  with_reducible repeat' (first | assumption | exact Kept.sub hm rfl | exact Kept.refl _ _ | refine KeptRes.next ?_ | refine Kept.cond ?_ ?_ | refine KeptRes.cond ?_ ?_ | refine KeptP.cond ?_ ?_ | apply State.setRegAt_keeps | refine Kept.foldl ?_ ?_ | intro _ | refine KeptP.foldl ?_ ?_ | refine KeptP.of_eq (by assumption) ?_ | dsimp only | split | dsimp only | refine KeptP.fst ?_ | refine KeptP.mk ?_ | fail_if_no_progress (refine Kept.upd ?_ (by rfl) (by intro p hp; cases p <;> first | rfl | exact (Kept.no hm hp (by decide)).elim)))
theorem State.count_keeps {m : Nat} {r : State} (s : State) (f : Fld) (n : optParam Nat 1) (hm : Nat.land 2 m = 2) (h : Kept m r s) : Kept m r (State.count s f n) := by
  unfold State.count
  with_reducible repeat' (first | assumption | exact Kept.sub hm rfl | exact Kept.refl _ _ | refine KeptRes.next ?_ | refine Kept.cond ?_ ?_ | refine KeptRes.cond ?_ ?_ | refine KeptP.cond ?_ ?_ | apply State.setFld_keeps | refine Kept.foldl ?_ ?_ | intro _ | refine KeptP.foldl ?_ ?_ | refine KeptP.of_eq (by assumption) ?_ | dsimp only | split | dsimp only | refine KeptP.fst ?_ | refine KeptP.mk ?_ | fail_if_no_progress (refine Kept.upd ?_ (by rfl) (by intro p hp; cases p <;> first | rfl | exact (Kept.no hm hp (by decide)).elim)))
theorem State.countWrap_keeps {m : Nat} {r : State} (s : State) (f : Fld) (n : optParam Nat 1) (hm : Nat.land 2 m = 2) (h : Kept m r s) : Kept m r (State.countWrap s f n) := by
  unfold State.countWrap
  with_reducible repeat' (first | assumption | exact Kept.sub hm rfl | exact Kept.refl _ _ | refine KeptRes.next ?_ | refine Kept.cond ?_ ?_ | refine KeptRes.cond ?_ ?_ | refine KeptP.cond ?_ ?_ | apply State.setFld_keeps | refine Kept.foldl ?_ ?_ | intro _ | refine KeptP.foldl ?_ ?_ | refine KeptP.of_eq (by assumption) ?_ | dsimp only | split | dsimp only | refine KeptP.fst ?_ | refine KeptP.mk ?_ | fail_if_no_progress (refine Kept.upd ?_ (by rfl) (by intro p hp; cases p <;> first | rfl | exact (Kept.no hm hp (by decide)).elim)))
theorem State.sendMsix_keeps {m : Nat} {r : State} (s : State) (func : Nat) (vec : Nat) (hm : Nat.land 4194320 m = 4194320) (h : Kept m r s) : Kept m r (State.sendMsix s func vec) := by
  unfold State.sendMsix
  with_reducible repeat' (first | assumption | exact Kept.sub hm rfl | exact Kept.refl _ _ | refine KeptRes.next ?_ | refine Kept.cond ?_ ?_ | refine KeptRes.cond ?_ ?_ | refine KeptP.cond ?_ ?_ | apply State.emit_keeps | refine Kept.foldl ?_ ?_ | intro _ | refine KeptP.foldl ?_ ?_ | refine KeptP.of_eq (by assumption) ?_ | dsimp only | split | dsimp only | refine KeptP.fst ?_ | refine KeptP.mk ?_ | fail_if_no_progress (refine Kept.upd ?_ (by rfl) (by intro p hp; cases p <;> first | rfl | exact (Kept.no hm hp (by decide)).elim)))
theorem State.raise_keeps {m : Nat} {r : State} (s : State) (ev : Fld) (hm : Nat.land 4194322 m = 4194322) (h : Kept m r s) : Kept m r (State.raise s ev) := by
  unfold State.raise
  with_reducible repeat' (first | assumption | exact Kept.sub hm rfl | exact Kept.refl _ _ | refine KeptRes.next ?_ | refine Kept.cond ?_ ?_ | refine KeptRes.cond ?_ ?_ | refine KeptP.cond ?_ ?_ | apply State.sendMsix_keeps | apply State.setFld_keeps | refine Kept.foldl ?_ ?_ | intro _ | refine KeptP.foldl ?_ ?_ | refine KeptP.of_eq (by assumption) ?_ | dsimp only | split | dsimp only | refine KeptP.fst ?_ | refine KeptP.mk ?_ | fail_if_no_progress (refine Kept.upd ?_ (by rfl) (by intro p hp; cases p <;> first | rfl | exact (Kept.no hm hp (by decide)).elim)))
theorem State.fnRaise_keeps {m : Nat} {r : State} (s : State) (src : Nat) (ev : Fld) (hm : Nat.land 4194322 m = 4194322) (h : Kept m r s) : Kept m r (State.fnRaise s src ev) := by
  unfold State.fnRaise
  with_reducible repeat' (first | assumption | exact Kept.sub hm rfl | exact Kept.refl _ _ | refine KeptRes.next ?_ | refine Kept.cond ?_ ?_ | refine KeptRes.cond ?_ ?_ | refine KeptP.cond ?_ ?_ | apply State.sendMsix_keeps | apply State.setFldAt_keeps | refine Kept.foldl ?_ ?_ | intro _ | refine KeptP.foldl ?_ ?_ | refine KeptP.of_eq (by assumption) ?_ | dsimp only | split | dsimp only | refine KeptP.fst ?_ | refine KeptP.mk ?_ | fail_if_no_progress (refine Kept.upd ?_ (by rfl) (by intro p hp; cases p <;> first | rfl | exact (Kept.no hm hp (by decide)).elim)))
theorem State.setSource_keeps {m : Nat} {r : State} (s : State) (src : Nat) (x : Source) (hm : Nat.land 32 m = 32) (h : Kept m r s) : Kept m r (State.setSource s src x) := by
  unfold State.setSource
  with_reducible repeat' (first | assumption | exact Kept.sub hm rfl | exact Kept.refl _ _ | refine KeptRes.next ?_ | refine Kept.cond ?_ ?_ | refine KeptRes.cond ?_ ?_ | refine KeptP.cond ?_ ?_ | refine Kept.foldl ?_ ?_ | intro _ | refine KeptP.foldl ?_ ?_ | refine KeptP.of_eq (by assumption) ?_ | dsimp only | split | dsimp only | refine KeptP.fst ?_ | refine KeptP.mk ?_ | fail_if_no_progress (refine Kept.upd ?_ (by rfl) (by intro p hp; cases p <;> first | rfl | exact (Kept.no hm hp (by decide)).elim)))
theorem State.setQp_keeps {m : Nat} {r : State} (s : State) (src : Nat) (qp : Nat) (x : QueuePair) (hm : Nat.land 32 m = 32) (h : Kept m r s) : Kept m r (State.setQp s src qp x) := by
  unfold State.setQp
  with_reducible repeat' (first | assumption | exact Kept.sub hm rfl | exact Kept.refl _ _ | refine KeptRes.next ?_ | refine Kept.cond ?_ ?_ | refine KeptRes.cond ?_ ?_ | refine KeptP.cond ?_ ?_ | refine Kept.foldl ?_ ?_ | intro _ | refine KeptP.foldl ?_ ?_ | refine KeptP.of_eq (by assumption) ?_ | dsimp only | split | dsimp only | refine KeptP.fst ?_ | refine KeptP.mk ?_ | fail_if_no_progress (refine Kept.upd ?_ (by rfl) (by intro p hp; cases p <;> first | rfl | exact (Kept.no hm hp (by decide)).elim)))
theorem State.setEntry_keeps {m : Nat} {r : State} (s : State) (id : Nat) (e : Entry) (hm : Nat.land 2097152 m = 2097152) (h : Kept m r s) : Kept m r (State.setEntry s id e) := by
  unfold State.setEntry
  with_reducible repeat' (first | assumption | exact Kept.sub hm rfl | exact Kept.refl _ _ | refine KeptRes.next ?_ | refine Kept.cond ?_ ?_ | refine KeptRes.cond ?_ ?_ | refine KeptP.cond ?_ ?_ | refine Kept.foldl ?_ ?_ | intro _ | refine KeptP.foldl ?_ ?_ | refine KeptP.of_eq (by assumption) ?_ | dsimp only | split | dsimp only | refine KeptP.fst ?_ | refine KeptP.mk ?_ | fail_if_no_progress (refine Kept.upd ?_ (by rfl) (by intro p hp; cases p <;> first | rfl | exact (Kept.no hm hp (by decide)).elim)))
theorem State.modEntry_keeps {m : Nat} {r : State} (s : State) (id : Nat) (f : Entry → Entry) (hm : Nat.land 2097152 m = 2097152) (h : Kept m r s) : Kept m r (State.modEntry s id f) := by
  unfold State.modEntry
  with_reducible repeat' (first | assumption | exact Kept.sub hm rfl | exact Kept.refl _ _ | refine KeptRes.next ?_ | refine Kept.cond ?_ ?_ | refine KeptRes.cond ?_ ?_ | refine KeptP.cond ?_ ?_ | refine Kept.foldl ?_ ?_ | intro _ | refine KeptP.foldl ?_ ?_ | refine KeptP.of_eq (by assumption) ?_ | dsimp only | split | dsimp only | refine KeptP.fst ?_ | refine KeptP.mk ?_ | fail_if_no_progress (refine Kept.upd ?_ (by rfl) (by intro p hp; cases p <;> first | rfl | exact (Kept.no hm hp (by decide)).elim)))
theorem State.dropEntry_keeps {m : Nat} {r : State} (s : State) (id : Nat) (hm : Nat.land 2097152 m = 2097152) (h : Kept m r s) : Kept m r (State.dropEntry s id) := by
  unfold State.dropEntry
  with_reducible repeat' (first | assumption | exact Kept.sub hm rfl | exact Kept.refl _ _ | refine KeptRes.next ?_ | refine Kept.cond ?_ ?_ | refine KeptRes.cond ?_ ?_ | refine KeptP.cond ?_ ?_ | refine Kept.foldl ?_ ?_ | intro _ | refine KeptP.foldl ?_ ?_ | refine KeptP.of_eq (by assumption) ?_ | dsimp only | split | dsimp only | refine KeptP.fst ?_ | refine KeptP.mk ?_ | fail_if_no_progress (refine Kept.upd ?_ (by rfl) (by intro p hp; cases p <;> first | rfl | exact (Kept.no hm hp (by decide)).elim)))
theorem State.fenceCommands_keeps {m : Nat} {r : State} (s : State) (hm : Nat.land 2097152 m = 2097152) (h : Kept m r s) : Kept m r (State.fenceCommands s) := by
  unfold State.fenceCommands
  with_reducible repeat' (first | assumption | exact Kept.sub hm rfl | exact Kept.refl _ _ | refine KeptRes.next ?_ | refine Kept.cond ?_ ?_ | refine KeptRes.cond ?_ ?_ | refine KeptP.cond ?_ ?_ | refine Kept.foldl ?_ ?_ | intro _ | refine KeptP.foldl ?_ ?_ | refine KeptP.of_eq (by assumption) ?_ | dsimp only | split | dsimp only | refine KeptP.fst ?_ | refine KeptP.mk ?_ | fail_if_no_progress (refine Kept.upd ?_ (by rfl) (by intro p hp; cases p <;> first | rfl | exact (Kept.no hm hp (by decide)).elim)))
theorem State.sendCancels_keeps {m : Nat} {r : State} (s : State) (hm : Nat.land 16 m = 16) (h : Kept m r s) : Kept m r (State.sendCancels s) := by
  unfold State.sendCancels
  with_reducible repeat' (first | assumption | exact Kept.sub hm rfl | exact Kept.refl _ _ | refine KeptRes.next ?_ | refine Kept.cond ?_ ?_ | refine KeptRes.cond ?_ ?_ | refine KeptP.cond ?_ ?_ | apply State.emit_keeps | refine Kept.foldl ?_ ?_ | intro _ | refine KeptP.foldl ?_ ?_ | refine KeptP.of_eq (by assumption) ?_ | dsimp only | split | dsimp only | refine KeptP.fst ?_ | refine KeptP.mk ?_ | fail_if_no_progress (refine Kept.upd ?_ (by rfl) (by intro p hp; cases p <;> first | rfl | exact (Kept.no hm hp (by decide)).elim)))
theorem State.addItem_keeps {m : Nat} {r : State} (s : State) (owner : Option Nat) (i : Item) (hm : Nat.land 2097152 m = 2097152) (h : Kept m r s) : Kept m r (State.addItem s owner i) := by
  unfold State.addItem
  with_reducible repeat' (first | assumption | exact Kept.sub hm rfl | exact Kept.refl _ _ | refine KeptRes.next ?_ | refine Kept.cond ?_ ?_ | refine KeptRes.cond ?_ ?_ | refine KeptP.cond ?_ ?_ | apply State.modEntry_keeps | refine Kept.foldl ?_ ?_ | intro _ | refine KeptP.foldl ?_ ?_ | refine KeptP.of_eq (by assumption) ?_ | dsimp only | split | dsimp only | refine KeptP.fst ?_ | refine KeptP.mk ?_ | fail_if_no_progress (refine Kept.upd ?_ (by rfl) (by intro p hp; cases p <;> first | rfl | exact (Kept.no hm hp (by decide)).elim)))
theorem State.sendItem_keeps {m : Nat} {r : State} (s : State) (x : Away) (classes : Nat) (hm : Nat.land 2359312 m = 2359312) (h : Kept m r s) : Kept m r (State.sendItem s x classes) := by
  unfold State.sendItem
  with_reducible repeat' (first | assumption | exact Kept.sub hm rfl | exact Kept.refl _ _ | refine KeptRes.next ?_ | refine Kept.cond ?_ ?_ | refine KeptRes.cond ?_ ?_ | refine KeptP.cond ?_ ?_ | apply State.addItem_keeps | apply State.emit_keeps | refine Kept.foldl ?_ ?_ | intro _ | refine KeptP.foldl ?_ ?_ | refine KeptP.of_eq (by assumption) ?_ | dsimp only | split | dsimp only | refine KeptP.fst ?_ | refine KeptP.mk ?_ | fail_if_no_progress (refine Kept.upd ?_ (by rfl) (by intro p hp; cases p <;> first | rfl | exact (Kept.no hm hp (by decide)).elim)))
theorem State.serving_keeps {m : Nat} {r : State} (s : State) (id : Nat) (hm : Nat.land 262144 m = 262144) (h : Kept m r s) : Kept m r (State.serving s id) := by
  unfold State.serving
  with_reducible repeat' (first | assumption | exact Kept.sub hm rfl | exact Kept.refl _ _ | refine KeptRes.next ?_ | refine Kept.cond ?_ ?_ | refine KeptRes.cond ?_ ?_ | refine KeptP.cond ?_ ?_ | refine Kept.foldl ?_ ?_ | intro _ | refine KeptP.foldl ?_ ?_ | refine KeptP.of_eq (by assumption) ?_ | dsimp only | split | dsimp only | refine KeptP.fst ?_ | refine KeptP.mk ?_ | fail_if_no_progress (refine Kept.upd ?_ (by rfl) (by intro p hp; cases p <;> first | rfl | exact (Kept.no hm hp (by decide)).elim)))
theorem State.dropAway_keeps {m : Nat} {r : State} (s : State) (item : Nat) (hm : Nat.land 262144 m = 262144) (h : Kept m r s) : Kept m r (State.dropAway s item) := by
  unfold State.dropAway
  with_reducible repeat' (first | assumption | exact Kept.sub hm rfl | exact Kept.refl _ _ | refine KeptRes.next ?_ | refine Kept.cond ?_ ?_ | refine KeptRes.cond ?_ ?_ | refine KeptP.cond ?_ ?_ | refine Kept.foldl ?_ ?_ | intro _ | refine KeptP.foldl ?_ ?_ | refine KeptP.of_eq (by assumption) ?_ | dsimp only | split | dsimp only | refine KeptP.fst ?_ | refine KeptP.mk ?_ | fail_if_no_progress (refine Kept.upd ?_ (by rfl) (by intro p hp; cases p <;> first | rfl | exact (Kept.no hm hp (by decide)).elim)))
theorem State.dropFetched_keeps {m : Nat} {r : State} (s : State) (id : Nat) (hm : Nat.land 262144 m = 262144) (h : Kept m r s) : Kept m r (State.dropFetched s id) := by
  unfold State.dropFetched
  with_reducible repeat' (first | assumption | exact Kept.sub hm rfl | exact Kept.refl _ _ | refine KeptRes.next ?_ | refine Kept.cond ?_ ?_ | refine KeptRes.cond ?_ ?_ | refine KeptP.cond ?_ ?_ | refine Kept.foldl ?_ ?_ | intro _ | refine KeptP.foldl ?_ ?_ | refine KeptP.of_eq (by assumption) ?_ | dsimp only | split | dsimp only | refine KeptP.fst ?_ | refine KeptP.mk ?_ | fail_if_no_progress (refine Kept.upd ?_ (by rfl) (by intro p hp; cases p <;> first | rfl | exact (Kept.no hm hp (by decide)).elim)))
theorem State.answerOrigin_keeps {m : Nat} {r : State} (s : State) (origin : Nat) (id : Nat) (st : Nat) (sub : Nat) (data : List Byte) (hm : Nat.land 262160 m = 262160) (h : Kept m r s) : Kept m r (State.answerOrigin s origin id st sub data) := by
  unfold State.answerOrigin
  with_reducible repeat' (first | assumption | exact Kept.sub hm rfl | exact Kept.refl _ _ | refine KeptRes.next ?_ | refine Kept.cond ?_ ?_ | refine KeptRes.cond ?_ ?_ | refine KeptP.cond ?_ ?_ | apply State.emit_keeps | refine Kept.foldl ?_ ?_ | intro _ | refine KeptP.foldl ?_ ?_ | refine KeptP.of_eq (by assumption) ?_ | dsimp only | split | dsimp only | refine KeptP.fst ?_ | refine KeptP.mk ?_ | fail_if_no_progress (refine Kept.upd ?_ (by rfl) (by intro p hp; cases p <;> first | rfl | exact (Kept.no hm hp (by decide)).elim)))
theorem State.sensorEvent_keeps {m : Nat} {r : State} (s : State) (ep : Nat) (sensor : Nat) (value : Nat) (hm : Nat.land 5242898 m = 5242898) (h : Kept m r s) : Kept m r (State.sensorEvent s ep sensor value) := by
  unfold State.sensorEvent
  with_reducible repeat' (first | assumption | exact Kept.sub hm rfl | exact Kept.refl _ _ | refine KeptRes.next ?_ | refine Kept.cond ?_ ?_ | refine KeptRes.cond ?_ ?_ | refine KeptP.cond ?_ ?_ | apply State.emit_keeps | apply State.raise_keeps | refine Kept.foldl ?_ ?_ | intro _ | refine KeptP.foldl ?_ ?_ | refine KeptP.of_eq (by assumption) ?_ | dsimp only | split | dsimp only | refine KeptP.fst ?_ | refine KeptP.mk ?_ | fail_if_no_progress (refine Kept.upd ?_ (by rfl) (by intro p hp; cases p <;> first | rfl | exact (Kept.no hm hp (by decide)).elim)))
theorem State.tellSensors_keeps {m : Nat} {r : State} (s : State) (hm : Nat.land 5242898 m = 5242898) (h : Kept m r s) : Kept m r (State.tellSensors s) := by
  unfold State.tellSensors
  with_reducible repeat' (first | assumption | exact Kept.sub hm rfl | exact Kept.refl _ _ | refine KeptRes.next ?_ | refine Kept.cond ?_ ?_ | refine KeptRes.cond ?_ ?_ | refine KeptP.cond ?_ ?_ | apply State.sensorEvent_keeps | refine Kept.foldl ?_ ?_ | intro _ | refine KeptP.foldl ?_ ?_ | refine KeptP.of_eq (by assumption) ?_ | dsimp only | split | dsimp only | refine KeptP.fst ?_ | refine KeptP.mk ?_ | fail_if_no_progress (refine Kept.upd ?_ (by rfl) (by intro p hp; cases p <;> first | rfl | exact (Kept.no hm hp (by decide)).elim)))
theorem State.setPmc_keeps {m : Nat} {r : State} (s : State) (k : Nat) (p : Pmc) (hm : Nat.land 1048576 m = 1048576) (h : Kept m r s) : Kept m r (State.setPmc s k p) := by
  unfold State.setPmc
  with_reducible repeat' (first | assumption | exact Kept.sub hm rfl | exact Kept.refl _ _ | refine KeptRes.next ?_ | refine Kept.cond ?_ ?_ | refine KeptRes.cond ?_ ?_ | refine KeptP.cond ?_ ?_ | refine Kept.foldl ?_ ?_ | intro _ | refine KeptP.foldl ?_ ?_ | refine KeptP.of_eq (by assumption) ?_ | dsimp only | split | dsimp only | refine KeptP.fst ?_ | refine KeptP.mk ?_ | fail_if_no_progress (refine Kept.upd ?_ (by rfl) (by intro p hp; cases p <;> first | rfl | exact (Kept.no hm hp (by decide)).elim)))
theorem State.pmcOverflow_keeps {m : Nat} {r : State} (s : State) (k : Nat) (hm : Nat.land 5242898 m = 5242898) (h : Kept m r s) : Kept m r (State.pmcOverflow s k) := by
  unfold State.pmcOverflow
  with_reducible repeat' (first | assumption | exact Kept.sub hm rfl | exact Kept.refl _ _ | refine KeptRes.next ?_ | refine Kept.cond ?_ ?_ | refine KeptRes.cond ?_ ?_ | refine KeptP.cond ?_ ?_ | apply State.raise_keeps | apply State.setFld_keeps | apply State.setPmc_keeps | refine Kept.foldl ?_ ?_ | intro _ | refine KeptP.foldl ?_ ?_ | refine KeptP.of_eq (by assumption) ?_ | dsimp only | split | dsimp only | refine KeptP.fst ?_ | refine KeptP.mk ?_ | fail_if_no_progress (refine Kept.upd ?_ (by rfl) (by intro p hp; cases p <;> first | rfl | exact (Kept.no hm hp (by decide)).elim)))
theorem State.pmcWrap_keeps {m : Nat} {r : State} (s : State) (k : Nat) (hm : Nat.land 5242898 m = 5242898) (h : Kept m r s) : Kept m r (State.pmcWrap s k) := by
  unfold State.pmcWrap
  with_reducible repeat' (first | assumption | exact Kept.sub hm rfl | exact Kept.refl _ _ | refine KeptRes.next ?_ | refine Kept.cond ?_ ?_ | refine KeptRes.cond ?_ ?_ | refine KeptP.cond ?_ ?_ | apply State.pmcOverflow_keeps | apply State.setPmc_keeps | refine Kept.foldl ?_ ?_ | intro _ | refine KeptP.foldl ?_ ?_ | refine KeptP.of_eq (by assumption) ?_ | dsimp only | split | dsimp only | refine KeptP.fst ?_ | refine KeptP.mk ?_ | fail_if_no_progress (refine Kept.upd ?_ (by rfl) (by intro p hp; cases p <;> first | rfl | exact (Kept.no hm hp (by decide)).elim)))
theorem State.pulse_keeps {m : Nat} {r : State} (s : State) (event : Nat) (unit : Nat) (n : optParam Nat 1) (hm : Nat.land 5242898 m = 5242898) (h : Kept m r s) : Kept m r (State.pulse s event unit n) := by
  unfold State.pulse
  with_reducible repeat' (first | assumption | exact Kept.sub hm rfl | exact Kept.refl _ _ | refine KeptRes.next ?_ | refine Kept.cond ?_ ?_ | refine KeptRes.cond ?_ ?_ | refine KeptP.cond ?_ ?_ | apply State.pmcWrap_keeps | apply State.setPmc_keeps | refine Kept.foldl ?_ ?_ | intro _ | refine KeptP.foldl ?_ ?_ | refine KeptP.of_eq (by assumption) ?_ | dsimp only | split | dsimp only | refine KeptP.fst ?_ | refine KeptP.mk ?_ | fail_if_no_progress (refine Kept.upd ?_ (by rfl) (by intro p hp; cases p <;> first | rfl | exact (Kept.no hm hp (by decide)).elim)))
theorem State.sitz_keeps {m : Nat} {r : State} (s : State) (e : ErrInfo) (hm : Nat.land 131074 m = 131074) (h : Kept m r s) : Kept m r (State.sitz s e) := by
  unfold State.sitz
  with_reducible repeat' (first | assumption | exact Kept.sub hm rfl | exact Kept.refl _ _ | refine KeptRes.next ?_ | refine Kept.cond ?_ ?_ | refine KeptRes.cond ?_ ?_ | refine KeptP.cond ?_ ?_ | apply State.count_keeps | apply State.setFld_keeps | refine Kept.foldl ?_ ?_ | intro _ | refine KeptP.foldl ?_ ?_ | refine KeptP.of_eq (by assumption) ?_ | dsimp only | split | dsimp only | refine KeptP.fst ?_ | refine KeptP.mk ?_ | fail_if_no_progress (refine Kept.upd ?_ (by rfl) (by intro p hp; cases p <;> first | rfl | exact (Kept.no hm hp (by decide)).elim)))
theorem State.corrected_keeps {m : Nat} {r : State} (s : State) (key : Nat) (e : ErrInfo) (hm : Nat.land 5373970 m = 5373970) (h : Kept m r s) : Kept m r (State.corrected s key e) := by
  unfold State.corrected
  with_reducible repeat' (first | assumption | exact Kept.sub hm rfl | exact Kept.refl _ _ | refine KeptRes.next ?_ | refine Kept.cond ?_ ?_ | refine KeptRes.cond ?_ ?_ | refine KeptP.cond ?_ ?_ | apply State.count_keeps | apply State.pulse_keeps | refine Kept.foldl ?_ ?_ | intro _ | refine KeptP.foldl ?_ ?_ | refine KeptP.of_eq (by assumption) ?_ | dsimp only | split | dsimp only | refine KeptP.fst ?_ | refine KeptP.mk ?_ | fail_if_no_progress (refine Kept.upd ?_ (by rfl) (by intro p hp; cases p <;> first | rfl | exact (Kept.no hm hp (by decide)).elim)))
theorem State.setUnit_keeps {m : Nat} {r : State} (s : State) (kind : Nat) (index : Nat) (u : UnitRec) (hm : Nat.land 131072 m = 131072) (h : Kept m r s) : Kept m r (State.setUnit s kind index u) := by
  unfold State.setUnit
  with_reducible repeat' (first | assumption | exact Kept.sub hm rfl | exact Kept.refl _ _ | refine KeptRes.next ?_ | refine Kept.cond ?_ ?_ | refine KeptRes.cond ?_ ?_ | refine KeptP.cond ?_ ?_ | refine Kept.foldl ?_ ?_ | intro _ | refine KeptP.foldl ?_ ?_ | refine KeptP.of_eq (by assumption) ?_ | dsimp only | split | dsimp only | refine KeptP.fst ?_ | refine KeptP.mk ?_ | fail_if_no_progress (refine Kept.upd ?_ (by rfl) (by intro p hp; cases p <;> first | rfl | exact (Kept.no hm hp (by decide)).elim)))
theorem State.unitError_keeps {m : Nat} {r : State} (s : State) (e : ErrInfo) (hm : Nat.land 131072 m = 131072) (h : Kept m r s) : Kept m r (State.unitError s e) := by
  unfold State.unitError
  with_reducible repeat' (first | assumption | exact Kept.sub hm rfl | exact Kept.refl _ _ | refine KeptRes.next ?_ | refine Kept.cond ?_ ?_ | refine KeptRes.cond ?_ ?_ | refine KeptP.cond ?_ ?_ | apply State.setUnit_keeps | refine Kept.foldl ?_ ?_ | intro _ | refine KeptP.foldl ?_ ?_ | refine KeptP.of_eq (by assumption) ?_ | dsimp only | split | dsimp only | refine KeptP.fst ?_ | refine KeptP.mk ?_ | fail_if_no_progress (refine Kept.upd ?_ (by rfl) (by intro p hp; cases p <;> first | rfl | exact (Kept.no hm hp (by decide)).elim)))
theorem State.abandonPasses_keeps {m : Nat} {r : State} (s : State) (hm : Nat.land 4196370 m = 4196370) (h : Kept m r s) : Kept m r (State.abandonPasses s) := by
  unfold State.abandonPasses
  with_reducible repeat' (first | assumption | exact Kept.sub hm rfl | exact Kept.refl _ _ | refine KeptRes.next ?_ | refine Kept.cond ?_ ?_ | refine KeptRes.cond ?_ ?_ | refine KeptP.cond ?_ ?_ | apply State.raise_keeps | refine Kept.foldl ?_ ?_ | intro _ | refine KeptP.foldl ?_ ?_ | refine KeptP.of_eq (by assumption) ?_ | dsimp only | split | dsimp only | refine KeptP.fst ?_ | refine KeptP.mk ?_ | fail_if_no_progress (refine Kept.upd ?_ (by rfl) (by intro p hp; cases p <;> first | rfl | exact (Kept.no hm hp (by decide)).elim)))
theorem State.fatal_keeps {m : Nat} {r : State} (s : State) (e : ErrInfo) (hm : Nat.land 8259602 m = 8259602) (h : Kept m r s) : Kept m r (State.fatal s e) := by
  unfold State.fatal
  with_reducible repeat' (first | assumption | exact Kept.sub hm rfl | exact Kept.refl _ _ | refine KeptRes.next ?_ | refine Kept.cond ?_ ?_ | refine KeptRes.cond ?_ ?_ | refine KeptP.cond ?_ ?_ | apply State.abandonPasses_keeps | apply State.emit_keeps | apply State.fenceCommands_keeps | apply State.raise_keeps | apply State.sendCancels_keeps | apply State.setFld_keeps | apply State.sitz_keeps | apply State.tellSensors_keeps | refine Kept.foldl ?_ ?_ | intro _ | refine KeptP.foldl ?_ ?_ | refine KeptP.of_eq (by assumption) ?_ | dsimp only | split | dsimp only | refine KeptP.fst ?_ | refine KeptP.mk ?_ | fail_if_no_progress (refine Kept.upd ?_ (by rfl) (by intro p hp; cases p <;> first | rfl | exact (Kept.no hm hp (by decide)).elim)))
theorem State.logError_keeps {m : Nat} {r : State} (s : State) (e : ErrInfo) (hm : Nat.land 8259602 m = 8259602) (h : Kept m r s) : Kept m r (State.logError s e) := by
  unfold State.logError
  with_reducible repeat' (first | assumption | exact Kept.sub hm rfl | exact Kept.refl _ _ | refine KeptRes.next ?_ | refine Kept.cond ?_ ?_ | refine KeptRes.cond ?_ ?_ | refine KeptP.cond ?_ ?_ | apply State.count_keeps | apply State.fatal_keeps | apply State.raise_keeps | apply State.sitz_keeps | apply State.unitError_keeps | refine Kept.foldl ?_ ?_ | intro _ | refine KeptP.foldl ?_ ?_ | refine KeptP.of_eq (by assumption) ?_ | dsimp only | split | dsimp only | refine KeptP.fst ?_ | refine KeptP.mk ?_ | fail_if_no_progress (refine Kept.upd ?_ (by rfl) (by intro p hp; cases p <;> first | rfl | exact (Kept.no hm hp (by decide)).elim)))
theorem State.unitOffline_keeps {m : Nat} {r : State} (s : State) (e : ErrInfo) (hm : Nat.land 8259602 m = 8259602) (h : Kept m r s) : Kept m r (State.unitOffline s e) := by
  unfold State.unitOffline
  with_reducible repeat' (first | assumption | exact Kept.sub hm rfl | exact Kept.refl _ _ | refine KeptRes.next ?_ | refine Kept.cond ?_ ?_ | refine KeptRes.cond ?_ ?_ | refine KeptP.cond ?_ ?_ | apply State.logError_keeps | apply State.setUnit_keeps | refine Kept.foldl ?_ ?_ | intro _ | refine KeptP.foldl ?_ ?_ | refine KeptP.of_eq (by assumption) ?_ | dsimp only | split | dsimp only | refine KeptP.fst ?_ | refine KeptP.mk ?_ | fail_if_no_progress (refine Kept.upd ?_ (by rfl) (by intro p hp; cases p <;> first | rfl | exact (Kept.no hm hp (by decide)).elim)))
theorem State.setGran_keeps {m : Nat} {r : State} (s : State) (g : Nat) (x : Gran) (hm : Nat.land 256 m = 256) (h : Kept m r s) : Kept m r (State.setGran s g x) := by
  unfold State.setGran
  with_reducible repeat' (first | assumption | exact Kept.sub hm rfl | exact Kept.refl _ _ | refine KeptRes.next ?_ | refine Kept.cond ?_ ?_ | refine KeptRes.cond ?_ ?_ | refine KeptP.cond ?_ ?_ | refine Kept.foldl ?_ ?_ | intro _ | refine KeptP.foldl ?_ ?_ | refine KeptP.of_eq (by assumption) ?_ | dsimp only | split | dsimp only | refine KeptP.fst ?_ | refine KeptP.mk ?_ | fail_if_no_progress (refine Kept.upd ?_ (by rfl) (by intro p hp; cases p <;> first | rfl | exact (Kept.no hm hp (by decide)).elim)))
theorem State.setSlab_keeps {m : Nat} {r : State} (s : State) (n : Nat) (x : Slab) (hm : Nat.land 256 m = 256) (h : Kept m r s) : Kept m r (State.setSlab s n x) := by
  unfold State.setSlab
  with_reducible repeat' (first | assumption | exact Kept.sub hm rfl | exact Kept.refl _ _ | refine KeptRes.next ?_ | refine Kept.cond ?_ ?_ | refine KeptRes.cond ?_ ?_ | refine KeptP.cond ?_ ?_ | refine Kept.foldl ?_ ?_ | intro _ | refine KeptP.foldl ?_ ?_ | refine KeptP.of_eq (by assumption) ?_ | dsimp only | split | dsimp only | refine KeptP.fst ?_ | refine KeptP.mk ?_ | fail_if_no_progress (refine Kept.upd ?_ (by rfl) (by intro p hp; cases p <;> first | rfl | exact (Kept.no hm hp (by decide)).elim)))
theorem State.setPage_keeps {m : Nat} {r : State} (s : State) (pg : Nat) (x : PageRec) (hm : Nat.land 256 m = 256) (h : Kept m r s) : Kept m r (State.setPage s pg x) := by
  unfold State.setPage
  with_reducible repeat' (first | assumption | exact Kept.sub hm rfl | exact Kept.refl _ _ | refine KeptRes.next ?_ | refine Kept.cond ?_ ?_ | refine KeptRes.cond ?_ ?_ | refine KeptP.cond ?_ ?_ | refine Kept.foldl ?_ ?_ | intro _ | refine KeptP.foldl ?_ ?_ | refine KeptP.of_eq (by assumption) ?_ | dsimp only | split | dsimp only | refine KeptP.fst ?_ | refine KeptP.mk ?_ | fail_if_no_progress (refine Kept.upd ?_ (by rfl) (by intro p hp; cases p <;> first | rfl | exact (Kept.no hm hp (by decide)).elim)))
theorem State.sendServed_keeps {m : Nat} {r : State} (s : State) (x : Away) (classes : Nat) (hm : Nat.land 2359312 m = 2359312) (h : Kept m r s) : Kept m r (State.sendServed s x classes) := by
  unfold State.sendServed
  with_reducible repeat' (first | assumption | exact Kept.sub hm rfl | exact Kept.refl _ _ | refine KeptRes.next ?_ | refine Kept.cond ?_ ?_ | refine KeptRes.cond ?_ ?_ | refine KeptP.cond ?_ ?_ | apply State.sendItem_keeps | refine Kept.foldl ?_ ?_ | intro _ | refine KeptP.foldl ?_ ?_ | refine KeptP.of_eq (by assumption) ?_ | dsimp only | split | dsimp only | refine KeptP.fst ?_ | refine KeptP.mk ?_ | fail_if_no_progress (refine Kept.upd ?_ (by rfl) (by intro p hp; cases p <;> first | rfl | exact (Kept.no hm hp (by decide)).elim)))
theorem State.mirrorWrite_keeps {m : Nat} {r : State} (s : State) (g : Nat) (hm : Nat.land 2359312 m = 2359312) (h : Kept m r s) : Kept m r (State.mirrorWrite s g) := by
  unfold State.mirrorWrite
  with_reducible repeat' (first | assumption | exact Kept.sub hm rfl | exact Kept.refl _ _ | refine KeptRes.next ?_ | refine Kept.cond ?_ ?_ | refine KeptRes.cond ?_ ?_ | refine KeptP.cond ?_ ?_ | apply State.sendServed_keeps | refine Kept.foldl ?_ ?_ | intro _ | refine KeptP.foldl ?_ ?_ | refine KeptP.of_eq (by assumption) ?_ | dsimp only | split | dsimp only | refine KeptP.fst ?_ | refine KeptP.mk ?_ | fail_if_no_progress (refine Kept.upd ?_ (by rfl) (by intro p hp; cases p <;> first | rfl | exact (Kept.no hm hp (by decide)).elim)))
theorem State.poison_keeps {m : Nat} {r : State} (s : State) (g : Nat) (k : PoisonKind) (wgen : Nat) (hm : Nat.land 2359568 m = 2359568) (h : Kept m r s) : Kept m r (State.poison s g k wgen) := by
  unfold State.poison
  with_reducible repeat' (first | assumption | exact Kept.sub hm rfl | exact Kept.refl _ _ | refine KeptRes.next ?_ | refine Kept.cond ?_ ?_ | refine KeptRes.cond ?_ ?_ | refine KeptP.cond ?_ ?_ | apply State.mirrorWrite_keeps | apply State.setGran_keeps | refine Kept.foldl ?_ ?_ | intro _ | refine KeptP.foldl ?_ ?_ | refine KeptP.of_eq (by assumption) ?_ | dsimp only | split | dsimp only | refine KeptP.fst ?_ | refine KeptP.mk ?_ | fail_if_no_progress (refine Kept.upd ?_ (by rfl) (by intro p hp; cases p <;> first | rfl | exact (Kept.no hm hp (by decide)).elim)))
theorem State.decrypt_keeps {m : Nat} {r : State} (s : State) (g : Nat) (hm : Nat.land 8388864 m = 8388864) (h : Kept m r s) : Kept m r (State.decrypt s g) := by
  unfold State.decrypt
  with_reducible repeat' (first | assumption | exact Kept.sub hm rfl | exact Kept.refl _ _ | refine KeptRes.next ?_ | refine Kept.cond ?_ ?_ | refine KeptRes.cond ?_ ?_ | refine KeptP.cond ?_ ?_ | apply State.pokeBytes_keeps | apply State.setGran_keeps | refine Kept.foldl ?_ ?_ | intro _ | refine KeptP.foldl ?_ ?_ | refine KeptP.of_eq (by assumption) ?_ | dsimp only | split | dsimp only | refine KeptP.fst ?_ | refine KeptP.mk ?_ | fail_if_no_progress (refine Kept.upd ?_ (by rfl) (by intro p hp; cases p <;> first | rfl | exact (Kept.no hm hp (by decide)).elim)))
theorem State.recover_keeps {m : Nat} {r : State} (s : State) (g : Nat) (hm : Nat.land 16648466 m = 16648466) (h : Kept m r s) : KeptP m r (State.recover s g) := by
  unfold State.recover
  with_reducible repeat' (first | assumption | exact Kept.sub hm rfl | exact Kept.refl _ _ | refine KeptRes.next ?_ | refine Kept.cond ?_ ?_ | refine KeptRes.cond ?_ ?_ | refine KeptP.cond ?_ ?_ | apply State.count_keeps | apply State.logError_keeps | apply State.poison_keeps | apply State.pokeBytes_keeps | apply State.setGran_keeps | apply State.setPage_keeps | refine Kept.foldl ?_ ?_ | intro _ | refine KeptP.foldl ?_ ?_ | refine KeptP.of_eq (by assumption) ?_ | dsimp only | split | dsimp only | refine KeptP.fst ?_ | refine KeptP.mk ?_ | fail_if_no_progress (refine Kept.upd ?_ (by rfl) (by intro p hp; cases p <;> first | rfl | exact (Kept.no hm hp (by decide)).elim)))
theorem State.checkRead_keeps {m : Nat} {r : State} (s : State) (g : Nat) (hm : Nat.land 16648466 m = 16648466) (h : Kept m r s) : KeptP m r (State.checkRead s g) := by
  unfold State.checkRead
  with_reducible repeat' (first | assumption | exact Kept.sub hm rfl | exact Kept.refl _ _ | refine KeptRes.next ?_ | refine Kept.cond ?_ ?_ | refine KeptRes.cond ?_ ?_ | refine KeptP.cond ?_ ?_ | apply State.corrected_keeps | apply State.decrypt_keeps | apply State.recover_keeps | apply State.setGran_keeps | refine Kept.foldl ?_ ?_ | intro _ | refine KeptP.foldl ?_ ?_ | refine KeptP.of_eq (by assumption) ?_ | dsimp only | split | dsimp only | refine KeptP.fst ?_ | refine KeptP.mk ?_ | fail_if_no_progress (refine Kept.upd ?_ (by rfl) (by intro p hp; cases p <;> first | rfl | exact (Kept.no hm hp (by decide)).elim)))
theorem State.checkReads_keeps {m : Nat} {r : State} (s : State) (a1 : List Nat) (hm : Nat.land 16648466 m = 16648466) (h : Kept m r s) : KeptP m r (State.checkReads s a1) := by
  induction a1 generalizing s with
  | nil =>
    unfold State.checkReads
    with_reducible repeat' (first | assumption | exact Kept.sub hm rfl | exact Kept.refl _ _ | refine KeptRes.next ?_ | refine Kept.cond ?_ ?_ | refine KeptRes.cond ?_ ?_ | refine KeptP.cond ?_ ?_ | apply ih | apply State.checkRead_keeps | refine Kept.foldl ?_ ?_ | intro _ | refine KeptP.foldl ?_ ?_ | refine KeptP.of_eq (by assumption) ?_ | dsimp only | split | dsimp only | refine KeptP.fst ?_ | refine KeptP.mk ?_ | fail_if_no_progress (refine Kept.upd ?_ (by rfl) (by intro p hp; cases p <;> first | rfl | exact (Kept.no hm hp (by decide)).elim)))
  | cons a l ih =>
    unfold State.checkReads
    with_reducible repeat' (first | assumption | exact Kept.sub hm rfl | exact Kept.refl _ _ | refine KeptRes.next ?_ | refine Kept.cond ?_ ?_ | refine KeptRes.cond ?_ ?_ | refine KeptP.cond ?_ ?_ | apply ih | apply State.checkRead_keeps | refine Kept.foldl ?_ ?_ | intro _ | refine KeptP.foldl ?_ ?_ | refine KeptP.of_eq (by assumption) ?_ | dsimp only | split | dsimp only | refine KeptP.fst ?_ | refine KeptP.mk ?_ | fail_if_no_progress (refine Kept.upd ?_ (by rfl) (by intro p hp; cases p <;> first | rfl | exact (Kept.no hm hp (by decide)).elim)))
theorem State.readStore_keeps {m : Nat} {r : State} (s : State) (a : Nat) (n : Nat) (hm : Nat.land 16648466 m = 16648466) (h : Kept m r s) : KeptP m r (State.readStore s a n) := by
  unfold State.readStore
  with_reducible repeat' (first | assumption | exact Kept.sub hm rfl | exact Kept.refl _ _ | refine KeptRes.next ?_ | refine Kept.cond ?_ ?_ | refine KeptRes.cond ?_ ?_ | refine KeptP.cond ?_ ?_ | apply State.checkReads_keeps | refine Kept.foldl ?_ ?_ | intro _ | refine KeptP.foldl ?_ ?_ | refine KeptP.of_eq (by assumption) ?_ | dsimp only | split | dsimp only | refine KeptP.fst ?_ | refine KeptP.mk ?_ | fail_if_no_progress (refine Kept.upd ?_ (by rfl) (by intro p hp; cases p <;> first | rfl | exact (Kept.no hm hp (by decide)).elim)))
theorem State.setPool_keeps {m : Nat} {r : State} (s : State) (k : Nat) (l : List Nat) (hm : Nat.land 256 m = 256) (h : Kept m r s) : Kept m r (State.setPool s k l) := by
  unfold State.setPool
  with_reducible repeat' (first | assumption | exact Kept.sub hm rfl | exact Kept.refl _ _ | refine KeptRes.next ?_ | refine Kept.cond ?_ ?_ | refine KeptRes.cond ?_ ?_ | refine KeptP.cond ?_ ?_ | refine Kept.foldl ?_ ?_ | intro _ | refine KeptP.foldl ?_ ?_ | refine KeptP.of_eq (by assumption) ?_ | dsimp only | split | dsimp only | refine KeptP.fst ?_ | refine KeptP.mk ?_ | fail_if_no_progress (refine Kept.upd ?_ (by rfl) (by intro p hp; cases p <;> first | rfl | exact (Kept.no hm hp (by decide)).elim)))
theorem State.charge_keeps {m : Nat} {r : State} (s : State) (pg : Nat) (t : Tier) (up : Bool) (hm : Nat.land 262144 m = 262144) (h : Kept m r s) : Kept m r (State.charge s pg t up) := by
  unfold State.charge
  with_reducible repeat' (first | assumption | exact Kept.sub hm rfl | exact Kept.refl _ _ | refine KeptRes.next ?_ | refine Kept.cond ?_ ?_ | refine KeptRes.cond ?_ ?_ | refine KeptP.cond ?_ ?_ | refine Kept.foldl ?_ ?_ | intro _ | refine KeptP.foldl ?_ ?_ | refine KeptP.of_eq (by assumption) ?_ | dsimp only | split | dsimp only | refine KeptP.fst ?_ | refine KeptP.mk ?_ | fail_if_no_progress (refine Kept.upd ?_ (by rfl) (by intro p hp; cases p <;> first | rfl | exact (Kept.no hm hp (by decide)).elim)))
theorem State.keepOld_keeps {m : Nat} {r : State} (s : State) (pg : Nat) (hm : Nat.land 256 m = 256) (h : Kept m r s) : Kept m r (State.keepOld s pg) := by
  unfold State.keepOld
  with_reducible repeat' (first | assumption | exact Kept.sub hm rfl | exact Kept.refl _ _ | refine KeptRes.next ?_ | refine Kept.cond ?_ ?_ | refine KeptRes.cond ?_ ?_ | refine KeptP.cond ?_ ?_ | refine Kept.foldl ?_ ?_ | intro _ | refine KeptP.foldl ?_ ?_ | refine KeptP.of_eq (by assumption) ?_ | dsimp only | split | dsimp only | refine KeptP.fst ?_ | refine KeptP.mk ?_ | fail_if_no_progress (refine Kept.upd ?_ (by rfl) (by intro p hp; cases p <;> first | rfl | exact (Kept.no hm hp (by decide)).elim)))
theorem State.restorePage_keeps {m : Nat} {r : State} (s : State) (pg : Nat) (old : List Byte × List Gran) (hm : Nat.land 8388864 m = 8388864) (h : Kept m r s) : Kept m r (State.restorePage s pg old) := by
  unfold State.restorePage
  with_reducible repeat' (first | assumption | exact Kept.sub hm rfl | exact Kept.refl _ _ | refine KeptRes.next ?_ | refine Kept.cond ?_ ?_ | refine KeptRes.cond ?_ ?_ | refine KeptP.cond ?_ ?_ | apply State.pokeBytes_keeps | apply State.setGran_keeps | refine Kept.foldl ?_ ?_ | intro _ | refine KeptP.foldl ?_ ?_ | refine KeptP.of_eq (by assumption) ?_ | dsimp only | split | dsimp only | refine KeptP.fst ?_ | refine KeptP.mk ?_ | fail_if_no_progress (refine Kept.upd ?_ (by rfl) (by intro p hp; cases p <;> first | rfl | exact (Kept.no hm hp (by decide)).elim)))
theorem State.programmed_keeps {m : Nat} {r : State} (s : State) (pg : Nat) (hm : Nat.land 256 m = 256) (h : Kept m r s) : Kept m r (State.programmed s pg) := by
  unfold State.programmed
  with_reducible repeat' (first | assumption | exact Kept.sub hm rfl | exact Kept.refl _ _ | refine KeptRes.next ?_ | refine Kept.cond ?_ ?_ | refine KeptRes.cond ?_ ?_ | refine KeptP.cond ?_ ?_ | refine Kept.foldl ?_ ?_ | intro _ | refine KeptP.foldl ?_ ?_ | refine KeptP.of_eq (by assumption) ?_ | dsimp only | split | dsimp only | refine KeptP.fst ?_ | refine KeptP.mk ?_ | fail_if_no_progress (refine Kept.upd ?_ (by rfl) (by intro p hp; cases p <;> first | rfl | exact (Kept.no hm hp (by decide)).elim)))
theorem State.leavePool_keeps {m : Nat} {r : State} (s : State) (pg : Nat) (t : Tier) (hm : Nat.land 262400 m = 262400) (h : Kept m r s) : Kept m r (State.leavePool s pg t) := by
  unfold State.leavePool
  with_reducible repeat' (first | assumption | exact Kept.sub hm rfl | exact Kept.refl _ _ | refine KeptRes.next ?_ | refine Kept.cond ?_ ?_ | refine KeptRes.cond ?_ ?_ | refine KeptP.cond ?_ ?_ | apply State.charge_keeps | apply State.programmed_keeps | apply State.setPage_keeps | apply State.setPool_keeps | refine Kept.foldl ?_ ?_ | intro _ | refine KeptP.foldl ?_ ?_ | refine KeptP.of_eq (by assumption) ?_ | dsimp only | split | dsimp only | refine KeptP.fst ?_ | refine KeptP.mk ?_ | fail_if_no_progress (refine Kept.upd ?_ (by rfl) (by intro p hp; cases p <;> first | rfl | exact (Kept.no hm hp (by decide)).elim)))
theorem State.takeFrame_keeps {m : Nat} {r : State} (s : State) (t : Tier) (pg : Nat) (f : FrameRec) (hm : Nat.land 5505298 m = 5505298) (h : Kept m r s) : KeptP m r (State.takeFrame s t pg f) := by
  unfold State.takeFrame
  with_reducible repeat' (first | assumption | exact Kept.sub hm rfl | exact Kept.refl _ _ | refine KeptRes.next ?_ | refine Kept.cond ?_ ?_ | refine KeptRes.cond ?_ ?_ | refine KeptP.cond ?_ ?_ | apply State.charge_keeps | apply State.leavePool_keeps | apply State.pulse_keeps | apply State.raise_keeps | apply State.setPage_keeps | apply State.setPool_keeps | refine Kept.foldl ?_ ?_ | intro _ | refine KeptP.foldl ?_ ?_ | refine KeptP.of_eq (by assumption) ?_ | dsimp only | split | dsimp only | refine KeptP.fst ?_ | refine KeptP.mk ?_ | fail_if_no_progress (refine Kept.upd ?_ (by rfl) (by intro p hp; cases p <;> first | rfl | exact (Kept.no hm hp (by decide)).elim)))
theorem State.queueRaise_keeps {m : Nat} {r : State} (s : State) (pg : Nat) (t : Tier) (hm : Nat.land 4194578 m = 4194578) (h : Kept m r s) : Kept m r (State.queueRaise s pg t) := by
  unfold State.queueRaise
  with_reducible repeat' (first | assumption | exact Kept.sub hm rfl | exact Kept.refl _ _ | refine KeptRes.next ?_ | refine Kept.cond ?_ ?_ | refine KeptRes.cond ?_ ?_ | refine KeptP.cond ?_ ?_ | apply State.count_keeps | apply State.raise_keeps | refine Kept.foldl ?_ ?_ | intro _ | refine KeptP.foldl ?_ ?_ | refine KeptP.of_eq (by assumption) ?_ | dsimp only | split | dsimp only | refine KeptP.fst ?_ | refine KeptP.mk ?_ | fail_if_no_progress (refine Kept.upd ?_ (by rfl) (by intro p hp; cases p <;> first | rfl | exact (Kept.no hm hp (by decide)).elim)))
theorem State.accessAs_keeps {m : Nat} {r : State} (s : State) (pg : Nat) (write : Bool) (counted : Bool) (hm : Nat.land 5505298 m = 5505298) (h : Kept m r s) : KeptP m r (State.accessAs s pg write counted) := by
  unfold State.accessAs
  with_reducible repeat' (first | assumption | exact Kept.sub hm rfl | exact Kept.refl _ _ | refine KeptRes.next ?_ | refine Kept.cond ?_ ?_ | refine KeptRes.cond ?_ ?_ | refine KeptP.cond ?_ ?_ | apply State.count_keeps | apply State.keepOld_keeps | apply State.queueRaise_keeps | apply State.setPage_keeps | apply State.takeFrame_keeps | refine Kept.foldl ?_ ?_ | intro _ | refine KeptP.foldl ?_ ?_ | refine KeptP.of_eq (by assumption) ?_ | dsimp only | split | dsimp only | refine KeptP.fst ?_ | refine KeptP.mk ?_ | fail_if_no_progress (refine Kept.upd ?_ (by rfl) (by intro p hp; cases p <;> first | rfl | exact (Kept.no hm hp (by decide)).elim)))
theorem State.access_keeps {m : Nat} {r : State} (s : State) (pg : Nat) (write : Bool) (hm : Nat.land 5505298 m = 5505298) (h : Kept m r s) : KeptP m r (State.access s pg write) := by
  unfold State.access
  with_reducible repeat' (first | assumption | exact Kept.sub hm rfl | exact Kept.refl _ _ | refine KeptRes.next ?_ | refine Kept.cond ?_ ?_ | refine KeptRes.cond ?_ ?_ | refine KeptP.cond ?_ ?_ | apply State.accessAs_keeps | refine Kept.foldl ?_ ?_ | intro _ | refine KeptP.foldl ?_ ?_ | refine KeptP.of_eq (by assumption) ?_ | dsimp only | split | dsimp only | refine KeptP.fst ?_ | refine KeptP.mk ?_ | fail_if_no_progress (refine Kept.upd ?_ (by rfl) (by intro p hp; cases p <;> first | rfl | exact (Kept.no hm hp (by decide)).elim)))
theorem State.accessPages_keeps {m : Nat} {r : State} (s : State) (write : Bool) (a2 : List Nat) (hm : Nat.land 5505298 m = 5505298) (h : Kept m r s) : KeptP m r (State.accessPages s write a2) := by
  induction a2 generalizing s write with
  | nil =>
    unfold State.accessPages
    with_reducible repeat' (first | assumption | exact Kept.sub hm rfl | exact Kept.refl _ _ | refine KeptRes.next ?_ | refine Kept.cond ?_ ?_ | refine KeptRes.cond ?_ ?_ | refine KeptP.cond ?_ ?_ | apply ih | apply State.access_keeps | refine Kept.foldl ?_ ?_ | intro _ | refine KeptP.foldl ?_ ?_ | refine KeptP.of_eq (by assumption) ?_ | dsimp only | split | dsimp only | refine KeptP.fst ?_ | refine KeptP.mk ?_ | fail_if_no_progress (refine Kept.upd ?_ (by rfl) (by intro p hp; cases p <;> first | rfl | exact (Kept.no hm hp (by decide)).elim)))
  | cons a l ih =>
    unfold State.accessPages
    with_reducible repeat' (first | assumption | exact Kept.sub hm rfl | exact Kept.refl _ _ | refine KeptRes.next ?_ | refine Kept.cond ?_ ?_ | refine KeptRes.cond ?_ ?_ | refine KeptP.cond ?_ ?_ | apply ih | apply State.access_keeps | refine Kept.foldl ?_ ?_ | intro _ | refine KeptP.foldl ?_ ?_ | refine KeptP.of_eq (by assumption) ?_ | dsimp only | split | dsimp only | refine KeptP.fst ?_ | refine KeptP.mk ?_ | fail_if_no_progress (refine Kept.upd ?_ (by rfl) (by intro p hp; cases p <;> first | rfl | exact (Kept.no hm hp (by decide)).elim)))
theorem State.noteFell_keeps {m : Nat} {r : State} (s : State) (fell : Bool) (hm : Nat.land 2097152 m = 2097152) (h : Kept m r s) : Kept m r (State.noteFell s fell) := by
  unfold State.noteFell
  with_reducible repeat' (first | assumption | exact Kept.sub hm rfl | exact Kept.refl _ _ | refine KeptRes.next ?_ | refine Kept.cond ?_ ?_ | refine KeptRes.cond ?_ ?_ | refine KeptP.cond ?_ ?_ | apply State.modEntry_keeps | refine Kept.foldl ?_ ?_ | intro _ | refine KeptP.foldl ?_ ?_ | refine KeptP.of_eq (by assumption) ?_ | dsimp only | split | dsimp only | refine KeptP.fst ?_ | refine KeptP.mk ?_ | fail_if_no_progress (refine Kept.upd ?_ (by rfl) (by intro p hp; cases p <;> first | rfl | exact (Kept.no hm hp (by decide)).elim)))
theorem State.accessFor_keeps {m : Nat} {r : State} (s : State) (write : Bool) (pages : List Nat) (hm : Nat.land 7602450 m = 7602450) (h : Kept m r s) : Kept m r (State.accessFor s write pages) := by
  unfold State.accessFor
  with_reducible repeat' (first | assumption | exact Kept.sub hm rfl | exact Kept.refl _ _ | refine KeptRes.next ?_ | refine Kept.cond ?_ ?_ | refine KeptRes.cond ?_ ?_ | refine KeptP.cond ?_ ?_ | apply State.accessPages_keeps | apply State.noteFell_keeps | refine Kept.foldl ?_ ?_ | intro _ | refine KeptP.foldl ?_ ?_ | refine KeptP.of_eq (by assumption) ?_ | dsimp only | split | dsimp only | refine KeptP.fst ?_ | refine KeptP.mk ?_ | fail_if_no_progress (refine Kept.upd ?_ (by rfl) (by intro p hp; cases p <;> first | rfl | exact (Kept.no hm hp (by decide)).elim)))
theorem State.journalEnter_keeps {m : Nat} {r : State} (s : State) (g : Nat) (bytes : Nat) (wgen : Nat) (data : List Byte) (hm : Nat.land 4194578 m = 4194578) (h : Kept m r s) : Kept m r (State.journalEnter s g bytes wgen data) := by
  unfold State.journalEnter
  with_reducible repeat' (first | assumption | exact Kept.sub hm rfl | exact Kept.refl _ _ | refine KeptRes.next ?_ | refine Kept.cond ?_ ?_ | refine KeptRes.cond ?_ ?_ | refine KeptP.cond ?_ ?_ | apply State.raise_keeps | apply State.setFld_keeps | refine Kept.foldl ?_ ?_ | intro _ | refine KeptP.foldl ?_ ?_ | refine KeptP.of_eq (by assumption) ?_ | dsimp only | split | dsimp only | refine KeptP.fst ?_ | refine KeptP.mk ?_ | fail_if_no_progress (refine Kept.upd ?_ (by rfl) (by intro p hp; cases p <;> first | rfl | exact (Kept.no hm hp (by decide)).elim)))
theorem State.journalAdd_keeps {m : Nat} {r : State} (s : State) (g : Nat) (bytes : Nat) (hm : Nat.land 4194578 m = 4194578) (h : Kept m r s) : Kept m r (State.journalAdd s g bytes) := by
  unfold State.journalAdd
  with_reducible repeat' (first | assumption | exact Kept.sub hm rfl | exact Kept.refl _ _ | refine KeptRes.next ?_ | refine Kept.cond ?_ ?_ | refine KeptRes.cond ?_ ?_ | refine KeptP.cond ?_ ?_ | apply State.journalEnter_keeps | refine Kept.foldl ?_ ?_ | intro _ | refine KeptP.foldl ?_ ?_ | refine KeptP.of_eq (by assumption) ?_ | dsimp only | split | dsimp only | refine KeptP.fst ?_ | refine KeptP.mk ?_ | fail_if_no_progress (refine Kept.upd ?_ (by rfl) (by intro p hp; cases p <;> first | rfl | exact (Kept.no hm hp (by decide)).elim)))
theorem State.waitJournal_keeps {m : Nat} {r : State} (s : State) (entry : Option Nat) (g : Nat) (hm : Nat.land 258 m = 258) (h : Kept m r s) : Kept m r (State.waitJournal s entry g) := by
  unfold State.waitJournal
  with_reducible repeat' (first | assumption | exact Kept.sub hm rfl | exact Kept.refl _ _ | refine KeptRes.next ?_ | refine Kept.cond ?_ ?_ | refine KeptRes.cond ?_ ?_ | refine KeptP.cond ?_ ?_ | apply State.count_keeps | refine Kept.foldl ?_ ?_ | intro _ | refine KeptP.foldl ?_ ?_ | refine KeptP.of_eq (by assumption) ?_ | dsimp only | split | dsimp only | refine KeptP.fst ?_ | refine KeptP.mk ?_ | fail_if_no_progress (refine Kept.upd ?_ (by rfl) (by intro p hp; cases p <;> first | rfl | exact (Kept.no hm hp (by decide)).elim)))
theorem State.endJournalWait_keeps {m : Nat} {r : State} (s : State) (entry : Option Nat) (g : Nat) (hm : Nat.land 256 m = 256) (h : Kept m r s) : Kept m r (State.endJournalWait s entry g) := by
  unfold State.endJournalWait
  with_reducible repeat' (first | assumption | exact Kept.sub hm rfl | exact Kept.refl _ _ | refine KeptRes.next ?_ | refine Kept.cond ?_ ?_ | refine KeptRes.cond ?_ ?_ | refine KeptP.cond ?_ ?_ | refine Kept.foldl ?_ ?_ | intro _ | refine KeptP.foldl ?_ ?_ | refine KeptP.of_eq (by assumption) ?_ | dsimp only | split | dsimp only | refine KeptP.fst ?_ | refine KeptP.mk ?_ | fail_if_no_progress (refine Kept.upd ?_ (by rfl) (by intro p hp; cases p <;> first | rfl | exact (Kept.no hm hp (by decide)).elim)))
theorem State.writeGranule_keeps {m : Nat} {r : State} (s : State) (g : Nat) (off : Nat) (data : List Byte) (hm : Nat.land 16648466 m = 16648466) (h : Kept m r s) : KeptP m r (State.writeGranule s g off data) := by
  unfold State.writeGranule
  with_reducible repeat' (first | assumption | exact Kept.sub hm rfl | exact Kept.refl _ _ | refine KeptRes.next ?_ | refine Kept.cond ?_ ?_ | refine KeptRes.cond ?_ ?_ | refine KeptP.cond ?_ ?_ | apply State.checkRead_keeps | apply State.journalAdd_keeps | apply State.mirrorWrite_keeps | apply State.pokeBytes_keeps | apply State.sendServed_keeps | apply State.setGran_keeps | refine Kept.foldl ?_ ?_ | intro _ | refine KeptP.foldl ?_ ?_ | refine KeptP.of_eq (by assumption) ?_ | dsimp only | split | dsimp only | refine KeptP.fst ?_ | refine KeptP.mk ?_ | fail_if_no_progress (refine Kept.upd ?_ (by rfl) (by intro p hp; cases p <;> first | rfl | exact (Kept.no hm hp (by decide)).elim)))
theorem State.writeRange_keeps {m : Nat} {r : State} (s : State) (a : Nat) (data : List Byte) (a3 : List Nat) (hm : Nat.land 16648466 m = 16648466) (h : Kept m r s) : KeptP m r (State.writeRange s a data a3) := by
  induction a3 generalizing s a data with
  | nil =>
    unfold State.writeRange
    with_reducible repeat' (first | assumption | exact Kept.sub hm rfl | exact Kept.refl _ _ | refine KeptRes.next ?_ | refine Kept.cond ?_ ?_ | refine KeptRes.cond ?_ ?_ | refine KeptP.cond ?_ ?_ | apply ih | apply State.writeGranule_keeps | refine Kept.foldl ?_ ?_ | intro _ | refine KeptP.foldl ?_ ?_ | refine KeptP.of_eq (by assumption) ?_ | dsimp only | split | dsimp only | refine KeptP.fst ?_ | refine KeptP.mk ?_ | fail_if_no_progress (refine Kept.upd ?_ (by rfl) (by intro p hp; cases p <;> first | rfl | exact (Kept.no hm hp (by decide)).elim)))
  | cons a l ih =>
    unfold State.writeRange
    with_reducible repeat' (first | assumption | exact Kept.sub hm rfl | exact Kept.refl _ _ | refine KeptRes.next ?_ | refine Kept.cond ?_ ?_ | refine KeptRes.cond ?_ ?_ | refine KeptP.cond ?_ ?_ | apply ih | apply State.writeGranule_keeps | refine Kept.foldl ?_ ?_ | intro _ | refine KeptP.foldl ?_ ?_ | refine KeptP.of_eq (by assumption) ?_ | dsimp only | split | dsimp only | refine KeptP.fst ?_ | refine KeptP.mk ?_ | fail_if_no_progress (refine Kept.upd ?_ (by rfl) (by intro p hp; cases p <;> first | rfl | exact (Kept.no hm hp (by decide)).elim)))
theorem State.writeHere_keeps {m : Nat} {r : State} (s : State) (a : Nat) (data : List Byte) (hm : Nat.land 16648466 m = 16648466) (h : Kept m r s) : KeptP m r (State.writeHere s a data) := by
  unfold State.writeHere
  with_reducible repeat' (first | assumption | exact Kept.sub hm rfl | exact Kept.refl _ _ | refine KeptRes.next ?_ | refine Kept.cond ?_ ?_ | refine KeptRes.cond ?_ ?_ | refine KeptP.cond ?_ ?_ | apply State.writeRange_keeps | refine Kept.foldl ?_ ?_ | intro _ | refine KeptP.foldl ?_ ?_ | refine KeptP.of_eq (by assumption) ?_ | dsimp only | split | dsimp only | refine KeptP.fst ?_ | refine KeptP.mk ?_ | fail_if_no_progress (refine Kept.upd ?_ (by rfl) (by intro p hp; cases p <;> first | rfl | exact (Kept.no hm hp (by decide)).elim)))
theorem State.writeStore_keeps {m : Nat} {r : State} (s : State) (a : Nat) (data : List Byte) (hm : Nat.land 16648466 m = 16648466) (h : Kept m r s) : KeptP m r (State.writeStore s a data) := by
  unfold State.writeStore
  with_reducible repeat' (first | assumption | exact Kept.sub hm rfl | exact Kept.refl _ _ | refine KeptRes.next ?_ | refine Kept.cond ?_ ?_ | refine KeptRes.cond ?_ ?_ | refine KeptP.cond ?_ ?_ | apply State.writeRange_keeps | refine Kept.foldl ?_ ?_ | intro _ | refine KeptP.foldl ?_ ?_ | refine KeptP.of_eq (by assumption) ?_ | dsimp only | split | dsimp only | refine KeptP.fst ?_ | refine KeptP.mk ?_ | fail_if_no_progress (refine Kept.upd ?_ (by rfl) (by intro p hp; cases p <;> first | rfl | exact (Kept.no hm hp (by decide)).elim)))
theorem State.storeBytes_keeps {m : Nat} {r : State} (s : State) (a : Nat) (data : List Byte) (hm : Nat.land 16648466 m = 16648466) (h : Kept m r s) : Kept m r (State.storeBytes s a data) := by
  unfold State.storeBytes
  with_reducible repeat' (first | assumption | exact Kept.sub hm rfl | exact Kept.refl _ _ | refine KeptRes.next ?_ | refine Kept.cond ?_ ?_ | refine KeptRes.cond ?_ ?_ | refine KeptP.cond ?_ ?_ | apply State.writeStore_keeps | refine Kept.foldl ?_ ?_ | intro _ | refine KeptP.foldl ?_ ?_ | refine KeptP.of_eq (by assumption) ?_ | dsimp only | split | dsimp only | refine KeptP.fst ?_ | refine KeptP.mk ?_ | fail_if_no_progress (refine Kept.upd ?_ (by rfl) (by intro p hp; cases p <;> first | rfl | exact (Kept.no hm hp (by decide)).elim)))
theorem State.compareCopies_keeps {m : Nat} {r : State} (s : State) (g : Nat) (hm : Nat.land 16648466 m = 16648466) (h : Kept m r s) : Kept m r (State.compareCopies s g) := by
  unfold State.compareCopies
  with_reducible repeat' (first | assumption | exact Kept.sub hm rfl | exact Kept.refl _ _ | refine KeptRes.next ?_ | refine Kept.cond ?_ ?_ | refine KeptRes.cond ?_ ?_ | refine KeptP.cond ?_ ?_ | apply State.count_keeps | apply State.logError_keeps | apply State.mirrorWrite_keeps | apply State.poison_keeps | apply State.pokeBytes_keeps | apply State.raise_keeps | apply State.setGran_keeps | refine Kept.foldl ?_ ?_ | intro _ | refine KeptP.foldl ?_ ?_ | refine KeptP.of_eq (by assumption) ?_ | dsimp only | split | dsimp only | refine KeptP.fst ?_ | refine KeptP.mk ?_ | fail_if_no_progress (refine Kept.upd ?_ (by rfl) (by intro p hp; cases p <;> first | rfl | exact (Kept.no hm hp (by decide)).elim)))
theorem State.setEdge_keeps {m : Nat} {r : State} (s : State) (c : Nat) (x : Core) (hm : Nat.land 512 m = 512) (h : Kept m r s) : Kept m r (State.setEdge s c x) := by
  unfold State.setEdge
  with_reducible repeat' (first | assumption | exact Kept.sub hm rfl | exact Kept.refl _ _ | refine KeptRes.next ?_ | refine Kept.cond ?_ ?_ | refine KeptRes.cond ?_ ?_ | refine KeptP.cond ?_ ?_ | refine Kept.foldl ?_ ?_ | intro _ | refine KeptP.foldl ?_ ?_ | refine KeptP.of_eq (by assumption) ?_ | dsimp only | split | dsimp only | refine KeptP.fst ?_ | refine KeptP.mk ?_ | fail_if_no_progress (refine Kept.upd ?_ (by rfl) (by intro p hp; cases p <;> first | rfl | exact (Kept.no hm hp (by decide)).elim)))
theorem State.setRun_keeps {m : Nat} {r : State} (s : State) (c : Nat) (x2 : Running) (hm : Nat.land 512 m = 512) (h : Kept m r s) : Kept m r (State.setRun s c x2) := by
  unfold State.setRun
  with_reducible repeat' (first | assumption | exact Kept.sub hm rfl | exact Kept.refl _ _ | refine KeptRes.next ?_ | refine Kept.cond ?_ ?_ | refine KeptRes.cond ?_ ?_ | refine KeptP.cond ?_ ?_ | apply State.setEdge_keeps | refine Kept.foldl ?_ ?_ | intro _ | refine KeptP.foldl ?_ ?_ | refine KeptP.of_eq (by assumption) ?_ | dsimp only | split | dsimp only | refine KeptP.fst ?_ | refine KeptP.mk ?_ | fail_if_no_progress (refine Kept.upd ?_ (by rfl) (by intro p hp; cases p <;> first | rfl | exact (Kept.no hm hp (by decide)).elim)))
theorem State.pokePocket_keeps {m : Nat} {r : State} (s : State) (c : Nat) (a : Nat) (l : List Byte) (hm : Nat.land 512 m = 512) (h : Kept m r s) : Kept m r (State.pokePocket s c a l) := by
  unfold State.pokePocket
  with_reducible repeat' (first | assumption | exact Kept.sub hm rfl | exact Kept.refl _ _ | refine KeptRes.next ?_ | refine Kept.cond ?_ ?_ | refine KeptRes.cond ?_ ?_ | refine KeptP.cond ?_ ?_ | apply State.setEdge_keeps | refine Kept.foldl ?_ ?_ | intro _ | refine KeptP.foldl ?_ ?_ | refine KeptP.of_eq (by assumption) ?_ | dsimp only | split | dsimp only | refine KeptP.fst ?_ | refine KeptP.mk ?_ | fail_if_no_progress (refine Kept.upd ?_ (by rfl) (by intro p hp; cases p <;> first | rfl | exact (Kept.no hm hp (by decide)).elim)))
theorem State.collectFlags_keeps {m : Nat} {r : State} (s : State) (f : FlagRec) (hm : Nat.land 4194322 m = 4194322) (h : Kept m r s) : Kept m r (State.collectFlags s f) := by
  unfold State.collectFlags
  with_reducible repeat' (first | assumption | exact Kept.sub hm rfl | exact Kept.refl _ _ | refine KeptRes.next ?_ | refine Kept.cond ?_ ?_ | refine KeptRes.cond ?_ ?_ | refine KeptP.cond ?_ ?_ | apply State.raise_keeps | apply State.setRegAt_keeps | refine Kept.foldl ?_ ?_ | intro _ | refine KeptP.foldl ?_ ?_ | refine KeptP.of_eq (by assumption) ?_ | dsimp only | split | dsimp only | refine KeptP.fst ?_ | refine KeptP.mk ?_ | fail_if_no_progress (refine Kept.upd ?_ (by rfl) (by intro p hp; cases p <;> first | rfl | exact (Kept.no hm hp (by decide)).elim)))
theorem State.releaseHold_keeps {m : Nat} {r : State} (s : State) (c : Nat) (hm : Nat.land 512 m = 512) (h : Kept m r s) : Kept m r (State.releaseHold s c) := by
  unfold State.releaseHold
  with_reducible repeat' (first | assumption | exact Kept.sub hm rfl | exact Kept.refl _ _ | refine KeptRes.next ?_ | refine Kept.cond ?_ ?_ | refine KeptRes.cond ?_ ?_ | refine KeptP.cond ?_ ?_ | apply State.setRun_keeps | refine Kept.foldl ?_ ?_ | intro _ | refine KeptP.foldl ?_ ?_ | refine KeptP.of_eq (by assumption) ?_ | dsimp only | split | dsimp only | refine KeptP.fst ?_ | refine KeptP.mk ?_ | fail_if_no_progress (refine Kept.upd ?_ (by rfl) (by intro p hp; cases p <;> first | rfl | exact (Kept.no hm hp (by decide)).elim)))
theorem acquire_keeps {m : Nat} {r : State} (s : State) (c : Nat) (a2 : List Nat) (a3 : List Nat) (hm : Nat.land 512 m = 512) (h : Kept m r s) : KeptP m r (acquire s c a2 a3) := by
  induction a3 generalizing s c a2 with
  | nil =>
    unfold acquire
    with_reducible repeat' (first | assumption | exact Kept.sub hm rfl | exact Kept.refl _ _ | refine KeptRes.next ?_ | refine Kept.cond ?_ ?_ | refine KeptRes.cond ?_ ?_ | refine KeptP.cond ?_ ?_ | apply ih | refine Kept.foldl ?_ ?_ | intro _ | refine KeptP.foldl ?_ ?_ | refine KeptP.of_eq (by assumption) ?_ | dsimp only | split | dsimp only | refine KeptP.fst ?_ | refine KeptP.mk ?_ | fail_if_no_progress (refine Kept.upd ?_ (by rfl) (by intro p hp; cases p <;> first | rfl | exact (Kept.no hm hp (by decide)).elim)))
  | cons a l ih =>
    unfold acquire
    with_reducible repeat' (first | assumption | exact Kept.sub hm rfl | exact Kept.refl _ _ | refine KeptRes.next ?_ | refine Kept.cond ?_ ?_ | refine KeptRes.cond ?_ ?_ | refine KeptP.cond ?_ ?_ | apply ih | refine Kept.foldl ?_ ?_ | intro _ | refine KeptP.foldl ?_ ?_ | refine KeptP.of_eq (by assumption) ?_ | dsimp only | split | dsimp only | refine KeptP.fst ?_ | refine KeptP.mk ?_ | fail_if_no_progress (refine Kept.upd ?_ (by rfl) (by intro p hp; cases p <;> first | rfl | exact (Kept.no hm hp (by decide)).elim)))
theorem State.acquireHold_keeps {m : Nat} {r : State} (s : State) (c : Nat) (hm : Nat.land 512 m = 512) (h : Kept m r s) : Kept m r (State.acquireHold s c) := by
  unfold State.acquireHold
  with_reducible repeat' (first | assumption | exact Kept.sub hm rfl | exact Kept.refl _ _ | refine KeptRes.next ?_ | refine Kept.cond ?_ ?_ | refine KeptRes.cond ?_ ?_ | refine KeptP.cond ?_ ?_ | apply State.setRun_keeps | apply acquire_keeps | refine Kept.foldl ?_ ?_ | intro _ | refine KeptP.foldl ?_ ?_ | refine KeptP.of_eq (by assumption) ?_ | dsimp only | split | dsimp only | refine KeptP.fst ?_ | refine KeptP.mk ?_ | fail_if_no_progress (refine Kept.upd ?_ (by rfl) (by intro p hp; cases p <;> first | rfl | exact (Kept.no hm hp (by decide)).elim)))
theorem State.loadRow_keeps {m : Nat} {r : State} (s : State) (c : Nat) (p : Nat) (n : Nat) (a4 : Option Nat) (hm : Nat.land 16648978 m = 16648978) (h : Kept m r s) : KeptP m r (State.loadRow s c p n a4) := by
  unfold State.loadRow
  with_reducible repeat' (first | assumption | exact Kept.sub hm rfl | exact Kept.refl _ _ | refine KeptRes.next ?_ | refine Kept.cond ?_ ?_ | refine KeptRes.cond ?_ ?_ | refine KeptP.cond ?_ ?_ | apply State.accessPages_keeps | apply State.pokePocket_keeps | apply State.readStore_keeps | refine Kept.foldl ?_ ?_ | intro _ | refine KeptP.foldl ?_ ?_ | refine KeptP.of_eq (by assumption) ?_ | dsimp only | split | dsimp only | refine KeptP.fst ?_ | refine KeptP.mk ?_ | fail_if_no_progress (refine Kept.upd ?_ (by rfl) (by intro p hp; cases p <;> first | rfl | exact (Kept.no hm hp (by decide)).elim)))
theorem State.loadRows_keeps {m : Nat} {r : State} (s : State) (c : Nat) (x : StreamStep) (a3 : List (Option Nat × Nat)) (hm : Nat.land 16648978 m = 16648978) (h : Kept m r s) : KeptP m r (State.loadRows s c x a3) := by
  induction a3 generalizing s c x with
  | nil =>
    unfold State.loadRows
    with_reducible repeat' (first | assumption | exact Kept.sub hm rfl | exact Kept.refl _ _ | refine KeptRes.next ?_ | refine Kept.cond ?_ ?_ | refine KeptRes.cond ?_ ?_ | refine KeptP.cond ?_ ?_ | apply ih | apply State.loadRow_keeps | refine Kept.foldl ?_ ?_ | intro _ | refine KeptP.foldl ?_ ?_ | refine KeptP.of_eq (by assumption) ?_ | dsimp only | split | dsimp only | refine KeptP.fst ?_ | refine KeptP.mk ?_ | fail_if_no_progress (refine Kept.upd ?_ (by rfl) (by intro p hp; cases p <;> first | rfl | exact (Kept.no hm hp (by decide)).elim)))
  | cons a l ih =>
    unfold State.loadRows
    with_reducible repeat' (first | assumption | exact Kept.sub hm rfl | exact Kept.refl _ _ | refine KeptRes.next ?_ | refine Kept.cond ?_ ?_ | refine KeptRes.cond ?_ ?_ | refine KeptP.cond ?_ ?_ | apply ih | apply State.loadRow_keeps | refine Kept.foldl ?_ ?_ | intro _ | refine KeptP.foldl ?_ ?_ | refine KeptP.of_eq (by assumption) ?_ | dsimp only | split | dsimp only | refine KeptP.fst ?_ | refine KeptP.mk ?_ | fail_if_no_progress (refine Kept.upd ?_ (by rfl) (by intro p hp; cases p <;> first | rfl | exact (Kept.no hm hp (by decide)).elim)))
theorem State.addRow_keeps {m : Nat} {r : State} (s : State) (float : Bool) (a : Nat) (d : List Byte) (hm : Nat.land 16648466 m = 16648466) (h : Kept m r s) : KeptP m r (State.addRow s float a d) := by
  unfold State.addRow
  with_reducible repeat' (first | assumption | exact Kept.sub hm rfl | exact Kept.refl _ _ | refine KeptRes.next ?_ | refine Kept.cond ?_ ?_ | refine KeptRes.cond ?_ ?_ | refine KeptP.cond ?_ ?_ | apply State.accessPages_keeps | apply State.writeStore_keeps | refine Kept.foldl ?_ ?_ | intro _ | refine KeptP.foldl ?_ ?_ | refine KeptP.of_eq (by assumption) ?_ | dsimp only | split | dsimp only | refine KeptP.fst ?_ | refine KeptP.mk ?_ | fail_if_no_progress (refine Kept.upd ?_ (by rfl) (by intro p hp; cases p <;> first | rfl | exact (Kept.no hm hp (by decide)).elim)))
theorem State.writePiece_keeps {m : Nat} {r : State} (s : State) (x : StreamStep) (a : Nat) (d : List Byte) (hm : Nat.land 16648466 m = 16648466) (h : Kept m r s) : KeptP m r (State.writePiece s x a d) := by
  unfold State.writePiece
  with_reducible repeat' (first | assumption | exact Kept.sub hm rfl | exact Kept.refl _ _ | refine KeptRes.next ?_ | refine Kept.cond ?_ ?_ | refine KeptRes.cond ?_ ?_ | refine KeptP.cond ?_ ?_ | apply State.accessPages_keeps | apply State.addRow_keeps | apply State.sendServed_keeps | apply State.writeStore_keeps | refine Kept.foldl ?_ ?_ | intro _ | refine KeptP.foldl ?_ ?_ | refine KeptP.of_eq (by assumption) ?_ | dsimp only | split | dsimp only | refine KeptP.fst ?_ | refine KeptP.mk ?_ | fail_if_no_progress (refine Kept.upd ?_ (by rfl) (by intro p hp; cases p <;> first | rfl | exact (Kept.no hm hp (by decide)).elim)))
theorem State.writePieces_keeps {m : Nat} {r : State} (s : State) (x : StreamStep) (a2 : List (Nat × List Byte)) (hm : Nat.land 16648466 m = 16648466) (h : Kept m r s) : KeptP m r (State.writePieces s x a2) := by
  induction a2 generalizing s x with
  | nil =>
    unfold State.writePieces
    with_reducible repeat' (first | assumption | exact Kept.sub hm rfl | exact Kept.refl _ _ | refine KeptRes.next ?_ | refine Kept.cond ?_ ?_ | refine KeptRes.cond ?_ ?_ | refine KeptP.cond ?_ ?_ | apply ih | apply State.writePiece_keeps | refine Kept.foldl ?_ ?_ | intro _ | refine KeptP.foldl ?_ ?_ | refine KeptP.of_eq (by assumption) ?_ | dsimp only | split | dsimp only | refine KeptP.fst ?_ | refine KeptP.mk ?_ | fail_if_no_progress (refine Kept.upd ?_ (by rfl) (by intro p hp; cases p <;> first | rfl | exact (Kept.no hm hp (by decide)).elim)))
  | cons a l ih =>
    unfold State.writePieces
    with_reducible repeat' (first | assumption | exact Kept.sub hm rfl | exact Kept.refl _ _ | refine KeptRes.next ?_ | refine Kept.cond ?_ ?_ | refine KeptRes.cond ?_ ?_ | refine KeptP.cond ?_ ?_ | apply ih | apply State.writePiece_keeps | refine Kept.foldl ?_ ?_ | intro _ | refine KeptP.foldl ?_ ?_ | refine KeptP.of_eq (by assumption) ?_ | dsimp only | split | dsimp only | refine KeptP.fst ?_ | refine KeptP.mk ?_ | fail_if_no_progress (refine Kept.upd ?_ (by rfl) (by intro p hp; cases p <;> first | rfl | exact (Kept.no hm hp (by decide)).elim)))
theorem State.performStream_keeps {m : Nat} {r : State} (s : State) (c : Nat) (x : StreamStep) (hm : Nat.land 16648986 m = 16648986) (h : Kept m r s) : KeptP m r (State.performStream s c x) := by
  unfold State.performStream
  with_reducible repeat' (first | assumption | exact Kept.sub hm rfl | exact Kept.refl _ _ | refine KeptRes.next ?_ | refine Kept.cond ?_ ?_ | refine KeptRes.cond ?_ ?_ | refine KeptP.cond ?_ ?_ | apply State.loadRows_keeps | apply State.releaseHold_keeps | apply State.tickFresh_keeps | apply State.writePieces_keeps | refine Kept.foldl ?_ ?_ | intro _ | refine KeptP.foldl ?_ ?_ | refine KeptP.of_eq (by assumption) ?_ | dsimp only | split | dsimp only | refine KeptP.fst ?_ | refine KeptP.mk ?_ | fail_if_no_progress (refine Kept.upd ?_ (by rfl) (by intro p hp; cases p <;> first | rfl | exact (Kept.no hm hp (by decide)).elim)))
theorem State.stopStreams_keeps {m : Nat} {r : State} (s : State) (c : Nat) (xs : List StreamStep) (hm : Nat.land 16648474 m = 16648474) (h : Kept m r s) : Kept m r (State.stopStreams s c xs) := by
  unfold State.stopStreams
  with_reducible repeat' (first | assumption | exact Kept.sub hm rfl | exact Kept.refl _ _ | refine KeptRes.next ?_ | refine Kept.cond ?_ ?_ | refine KeptRes.cond ?_ ?_ | refine KeptP.cond ?_ ?_ | apply State.serving_keeps | apply State.tickFresh_keeps | apply State.writePieces_keeps | refine Kept.foldl ?_ ?_ | intro _ | refine KeptP.foldl ?_ ?_ | refine KeptP.of_eq (by assumption) ?_ | dsimp only | split | dsimp only | refine KeptP.fst ?_ | refine KeptP.mk ?_ | fail_if_no_progress (refine Kept.upd ?_ (by rfl) (by intro p hp; cases p <;> first | rfl | exact (Kept.no hm hp (by decide)).elim)))
theorem State.handOver_keeps {m : Nat} {r : State} (s : State) (c : Nat) (id : Nat) (hm : Nat.land 2359296 m = 2359296) (h : Kept m r s) : Kept m r (State.handOver s c id) := by
  unfold State.handOver
  with_reducible repeat' (first | assumption | exact Kept.sub hm rfl | exact Kept.refl _ _ | refine KeptRes.next ?_ | refine Kept.cond ?_ ?_ | refine KeptRes.cond ?_ ?_ | refine KeptP.cond ?_ ?_ | apply State.addItem_keeps | refine Kept.foldl ?_ ?_ | intro _ | refine KeptP.foldl ?_ ?_ | refine KeptP.of_eq (by assumption) ?_ | dsimp only | split | dsimp only | refine KeptP.fst ?_ | refine KeptP.mk ?_ | fail_if_no_progress (refine Kept.upd ?_ (by rfl) (by intro p hp; cases p <;> first | rfl | exact (Kept.no hm hp (by decide)).elim)))
theorem State.dropCore_keeps {m : Nat} {r : State} (s : State) (c : Nat) (source : Nat) (hm : Nat.land 4325394 m = 4325394) (h : Kept m r s) : Kept m r (State.dropCore s c source) := by
  unfold State.dropCore
  with_reducible repeat' (first | assumption | exact Kept.sub hm rfl | exact Kept.refl _ _ | refine KeptRes.next ?_ | refine Kept.cond ?_ ?_ | refine KeptRes.cond ?_ ?_ | refine KeptP.cond ?_ ?_ | apply State.raise_keeps | apply State.setUnit_keeps | refine Kept.foldl ?_ ?_ | intro _ | refine KeptP.foldl ?_ ?_ | refine KeptP.of_eq (by assumption) ?_ | dsimp only | split | dsimp only | refine KeptP.fst ?_ | refine KeptP.mk ?_ | fail_if_no_progress (refine Kept.upd ?_ (by rfl) (by intro p hp; cases p <;> first | rfl | exact (Kept.no hm hp (by decide)).elim)))
theorem State.leaveCore_keeps {m : Nat} {r : State} (s : State) (c : Nat) (hm : Nat.land 16648986 m = 16648986) (h : Kept m r s) : Kept m r (State.leaveCore s c) := by
  unfold State.leaveCore
  with_reducible repeat' (first | assumption | exact Kept.sub hm rfl | exact Kept.refl _ _ | refine KeptRes.next ?_ | refine Kept.cond ?_ ?_ | refine KeptRes.cond ?_ ?_ | refine KeptP.cond ?_ ?_ | apply State.dropCore_keeps | apply State.dropFetched_keeps | apply State.releaseHold_keeps | apply State.setEdge_keeps | apply State.stopStreams_keeps | refine Kept.foldl ?_ ?_ | intro _ | refine KeptP.foldl ?_ ?_ | refine KeptP.of_eq (by assumption) ?_ | dsimp only | split | dsimp only | refine KeptP.fst ?_ | refine KeptP.mk ?_ | fail_if_no_progress (refine Kept.upd ?_ (by rfl) (by intro p hp; cases p <;> first | rfl | exact (Kept.no hm hp (by decide)).elim)))
theorem State.placeAt_keeps {m : Nat} {r : State} (s : State) (i : Invocation) (a2 : Option Nat) (hm : Nat.land 512 m = 512) (h : Kept m r s) : Kept m r (State.placeAt s i a2) := by
  unfold State.placeAt
  with_reducible repeat' (first | assumption | exact Kept.sub hm rfl | exact Kept.refl _ _ | refine KeptRes.next ?_ | refine Kept.cond ?_ ?_ | refine KeptRes.cond ?_ ?_ | refine KeptP.cond ?_ ?_ | apply State.setEdge_keeps | refine Kept.foldl ?_ ?_ | intro _ | refine KeptP.foldl ?_ ?_ | refine KeptP.of_eq (by assumption) ?_ | dsimp only | split | dsimp only | refine KeptP.fst ?_ | refine KeptP.mk ?_ | fail_if_no_progress (refine Kept.upd ?_ (by rfl) (by intro p hp; cases p <;> first | rfl | exact (Kept.no hm hp (by decide)).elim)))
theorem State.placeInvocation_keeps {m : Nat} {r : State} (s : State) (i : Invocation) (hm : Nat.land 512 m = 512) (h : Kept m r s) : Kept m r (State.placeInvocation s i) := by
  unfold State.placeInvocation
  with_reducible repeat' (first | assumption | exact Kept.sub hm rfl | exact Kept.refl _ _ | refine KeptRes.next ?_ | refine Kept.cond ?_ ?_ | refine KeptRes.cond ?_ ?_ | refine KeptP.cond ?_ ?_ | apply State.placeAt_keeps | refine Kept.foldl ?_ ?_ | intro _ | refine KeptP.foldl ?_ ?_ | refine KeptP.of_eq (by assumption) ?_ | dsimp only | split | dsimp only | refine KeptP.fst ?_ | refine KeptP.mk ?_ | fail_if_no_progress (refine Kept.upd ?_ (by rfl) (by intro p hp; cases p <;> first | rfl | exact (Kept.no hm hp (by decide)).elim)))
theorem State.placeWaiting_keeps {m : Nat} {r : State} (s : State) (hm : Nat.land 512 m = 512) (h : Kept m r s) : Kept m r (State.placeWaiting s) := by
  unfold State.placeWaiting
  with_reducible repeat' (first | assumption | exact Kept.sub hm rfl | exact Kept.refl _ _ | refine KeptRes.next ?_ | refine Kept.cond ?_ ?_ | refine KeptRes.cond ?_ ?_ | refine KeptP.cond ?_ ?_ | apply State.placeInvocation_keeps | refine Kept.foldl ?_ ?_ | intro _ | refine KeptP.foldl ?_ ?_ | refine KeptP.of_eq (by assumption) ?_ | dsimp only | split | dsimp only | refine KeptP.fst ?_ | refine KeptP.mk ?_ | fail_if_no_progress (refine Kept.upd ?_ (by rfl) (by intro p hp; cases p <;> first | rfl | exact (Kept.no hm hp (by decide)).elim)))
theorem State.cancelInvocations_keeps {m : Nat} {r : State} (s : State) (id : Nat) (hm : Nat.land 16648986 m = 16648986) (h : Kept m r s) : Kept m r (State.cancelInvocations s id) := by
  unfold State.cancelInvocations
  with_reducible repeat' (first | assumption | exact Kept.sub hm rfl | exact Kept.refl _ _ | refine KeptRes.next ?_ | refine Kept.cond ?_ ?_ | refine KeptRes.cond ?_ ?_ | refine KeptP.cond ?_ ?_ | apply State.handOver_keeps | apply State.leaveCore_keeps | apply State.placeWaiting_keeps | apply State.setEdge_keeps | refine Kept.foldl ?_ ?_ | intro _ | refine KeptP.foldl ?_ ?_ | refine KeptP.of_eq (by assumption) ?_ | dsimp only | split | dsimp only | refine KeptP.fst ?_ | refine KeptP.mk ?_ | fail_if_no_progress (refine Kept.upd ?_ (by rfl) (by intro p hp; cases p <;> first | rfl | exact (Kept.no hm hp (by decide)).elim)))
theorem State.setCtx_keeps {m : Nat} {r : State} (s : State) (c : Nat) (x : Context) (hm : Nat.land 128 m = 128) (h : Kept m r s) : Kept m r (State.setCtx s c x) := by
  unfold State.setCtx
  with_reducible repeat' (first | assumption | exact Kept.sub hm rfl | exact Kept.refl _ _ | refine KeptRes.next ?_ | refine Kept.cond ?_ ?_ | refine KeptRes.cond ?_ ?_ | refine KeptP.cond ?_ ?_ | refine Kept.foldl ?_ ?_ | intro _ | refine KeptP.foldl ?_ ?_ | refine KeptP.of_eq (by assumption) ?_ | dsimp only | split | dsimp only | refine KeptP.fst ?_ | refine KeptP.mk ?_ | fail_if_no_progress (refine Kept.upd ?_ (by rfl) (by intro p hp; cases p <;> first | rfl | exact (Kept.no hm hp (by decide)).elim)))
theorem State.setSeg_keeps {m : Nat} {r : State} (s : State) (c : Nat) (i : Nat) (x : Segment) (hm : Nat.land 128 m = 128) (h : Kept m r s) : Kept m r (State.setSeg s c i x) := by
  unfold State.setSeg
  with_reducible repeat' (first | assumption | exact Kept.sub hm rfl | exact Kept.refl _ _ | refine KeptRes.next ?_ | refine Kept.cond ?_ ?_ | refine KeptRes.cond ?_ ?_ | refine KeptP.cond ?_ ?_ | apply State.setCtx_keeps | refine Kept.foldl ?_ ?_ | intro _ | refine KeptP.foldl ?_ ?_ | refine KeptP.of_eq (by assumption) ?_ | dsimp only | split | dsimp only | refine KeptP.fst ?_ | refine KeptP.mk ?_ | fail_if_no_progress (refine Kept.upd ?_ (by rfl) (by intro p hp; cases p <;> first | rfl | exact (Kept.no hm hp (by decide)).elim)))
theorem State.allocSlot_keeps {m : Nat} {r : State} (s : State) (id : Nat) (src : Nat) (bytes : Nat) (hm : Nat.land 6291506 m = 6291506) (h : Kept m r s) : ∀ t, State.allocSlot s id src bytes = some t → Kept m r t := by
  intro t e
  unfold State.allocSlot at e
  dsimp only at e
  split at e
  · cases e
  · split at e
    · cases e
    · cases e
      split
      · exact State.fnRaise_keeps _ _ _ (Kept.sub hm rfl) (State.modEntry_keeps _ _ _ (Kept.sub hm rfl) (State.setSource_keeps _ _ _ (Kept.sub hm rfl) h))
      · exact State.modEntry_keeps _ _ _ (Kept.sub hm rfl) (State.setSource_keeps _ _ _ (Kept.sub hm rfl) h)
theorem State.freeSlotOf_keeps {m : Nat} {r : State} (s : State) (id : Nat) (src : Nat) (hm : Nat.land 32 m = 32) (h : Kept m r s) : Kept m r (State.freeSlotOf s id src) := by
  unfold State.freeSlotOf
  with_reducible repeat' (first | assumption | exact Kept.sub hm rfl | exact Kept.refl _ _ | refine KeptRes.next ?_ | refine Kept.cond ?_ ?_ | refine KeptRes.cond ?_ ?_ | refine KeptP.cond ?_ ?_ | apply State.setSource_keeps | refine Kept.foldl ?_ ?_ | intro _ | refine KeptP.foldl ?_ ?_ | refine KeptP.of_eq (by assumption) ?_ | dsimp only | split | dsimp only | refine KeptP.fst ?_ | refine KeptP.mk ?_ | fail_if_no_progress (refine Kept.upd ?_ (by rfl) (by intro p hp; cases p <;> first | rfl | exact (Kept.no hm hp (by decide)).elim)))
theorem State.putResults_keeps {m : Nat} {r : State} (s : State) (id : Nat) (data : List Byte) (hm : Nat.land 2097152 m = 2097152) (h : Kept m r s) : Kept m r (State.putResults s id data) := by
  unfold State.putResults
  with_reducible repeat' (first | assumption | exact Kept.sub hm rfl | exact Kept.refl _ _ | refine KeptRes.next ?_ | refine Kept.cond ?_ ?_ | refine KeptRes.cond ?_ ?_ | refine KeptP.cond ?_ ?_ | apply State.setEntry_keeps | refine Kept.foldl ?_ ?_ | intro _ | refine KeptP.foldl ?_ ?_ | refine KeptP.of_eq (by assumption) ?_ | dsimp only | split | dsimp only | refine KeptP.fst ?_ | refine KeptP.mk ?_ | fail_if_no_progress (refine Kept.upd ?_ (by rfl) (by intro p hp; cases p <;> first | rfl | exact (Kept.no hm hp (by decide)).elim)))
theorem State.finish_keeps {m : Nat} {r : State} (s : State) (id : Nat) (f : Outcome → Outcome) (hm : Nat.land 2097152 m = 2097152) (h : Kept m r s) : Kept m r (State.finish s id f) := by
  unfold State.finish
  with_reducible repeat' (first | assumption | exact Kept.sub hm rfl | exact Kept.refl _ _ | refine KeptRes.next ?_ | refine Kept.cond ?_ ?_ | refine KeptRes.cond ?_ ?_ | refine KeptP.cond ?_ ?_ | apply State.modEntry_keeps | refine Kept.foldl ?_ ?_ | intro _ | refine KeptP.foldl ?_ ?_ | refine KeptP.of_eq (by assumption) ?_ | dsimp only | split | dsimp only | refine KeptP.fst ?_ | refine KeptP.mk ?_ | fail_if_no_progress (refine Kept.upd ?_ (by rfl) (by intro p hp; cases p <;> first | rfl | exact (Kept.no hm hp (by decide)).elim)))
theorem State.failWith_keeps {m : Nat} {r : State} (s : State) (id : Nat) (st : Nat) (sub : Nat) (r0 : optParam Nat 0) (hm : Nat.land 2097152 m = 2097152) (h : Kept m r s) : Kept m r (State.failWith s id st sub r0) := by
  unfold State.failWith
  with_reducible repeat' (first | assumption | exact Kept.sub hm rfl | exact Kept.refl _ _ | refine KeptRes.next ?_ | refine Kept.cond ?_ ?_ | refine KeptRes.cond ?_ ?_ | refine KeptP.cond ?_ ?_ | apply State.finish_keeps | refine Kept.foldl ?_ ?_ | intro _ | refine KeptP.foldl ?_ ?_ | refine KeptP.of_eq (by assumption) ?_ | dsimp only | split | dsimp only | refine KeptP.fst ?_ | refine KeptP.mk ?_ | fail_if_no_progress (refine Kept.upd ?_ (by rfl) (by intro p hp; cases p <;> first | rfl | exact (Kept.no hm hp (by decide)).elim)))
theorem State.sendPhase_keeps {m : Nat} {r : State} (s : State) (id : Nat) (x2 : Nat) (classes : Nat) (whole : Bool) (hm : Nat.land 2359312 m = 2359312) (h : Kept m r s) : Kept m r (State.sendPhase s id x2 classes whole) := by
  unfold State.sendPhase
  with_reducible repeat' (first | assumption | exact Kept.sub hm rfl | exact Kept.refl _ _ | refine KeptRes.next ?_ | refine Kept.cond ?_ ?_ | refine KeptRes.cond ?_ ?_ | refine KeptP.cond ?_ ?_ | apply State.sendItem_keeps | refine Kept.foldl ?_ ?_ | intro _ | refine KeptP.foldl ?_ ?_ | refine KeptP.of_eq (by assumption) ?_ | dsimp only | split | dsimp only | refine KeptP.fst ?_ | refine KeptP.mk ?_ | fail_if_no_progress (refine Kept.upd ?_ (by rfl) (by intro p hp; cases p <;> first | rfl | exact (Kept.no hm hp (by decide)).elim)))
theorem State.sendStage_keeps {m : Nat} {r : State} (s : State) (id : Nat) (x2 : Nat) (k : Nat) (classes : Nat) (hm : Nat.land 2359312 m = 2359312) (h : Kept m r s) : Kept m r (State.sendStage s id x2 k classes) := by
  unfold State.sendStage
  with_reducible repeat' (first | assumption | exact Kept.sub hm rfl | exact Kept.refl _ _ | refine KeptRes.next ?_ | refine Kept.cond ?_ ?_ | refine KeptRes.cond ?_ ?_ | refine KeptP.cond ?_ ?_ | apply State.sendItem_keeps | refine Kept.foldl ?_ ?_ | intro _ | refine KeptP.foldl ?_ ?_ | refine KeptP.of_eq (by assumption) ?_ | dsimp only | split | dsimp only | refine KeptP.fst ?_ | refine KeptP.mk ?_ | fail_if_no_progress (refine Kept.upd ?_ (by rfl) (by intro p hp; cases p <;> first | rfl | exact (Kept.no hm hp (by decide)).elim)))
theorem State.conclude_keeps {m : Nat} {r : State} (s : State) (id : Nat) (here : Bool) (classes : Nat) (f : Outcome → Outcome) (hm : Nat.land 2097152 m = 2097152) (h : Kept m r s) : Kept m r (State.conclude s id here classes f) := by
  unfold State.conclude
  with_reducible repeat' (first | assumption | exact Kept.sub hm rfl | exact Kept.refl _ _ | refine KeptRes.next ?_ | refine Kept.cond ?_ ?_ | refine KeptRes.cond ?_ ?_ | refine KeptP.cond ?_ ?_ | apply State.modEntry_keeps | refine Kept.foldl ?_ ?_ | intro _ | refine KeptP.foldl ?_ ?_ | refine KeptP.of_eq (by assumption) ?_ | dsimp only | split | dsimp only | refine KeptP.fst ?_ | refine KeptP.mk ?_ | fail_if_no_progress (refine Kept.upd ?_ (by rfl) (by intro p hp; cases p <;> first | rfl | exact (Kept.no hm hp (by decide)).elim)))
theorem State.sendParts_keeps {m : Nat} {r : State} (s : State) (id : Nat) (members : List Nat) (classes : Nat) (hm : Nat.land 2359312 m = 2359312) (h : Kept m r s) : Kept m r (State.sendParts s id members classes) := by
  unfold State.sendParts
  with_reducible repeat' (first | assumption | exact Kept.sub hm rfl | exact Kept.refl _ _ | refine KeptRes.next ?_ | refine Kept.cond ?_ ?_ | refine KeptRes.cond ?_ ?_ | refine KeptP.cond ?_ ?_ | apply State.sendPhase_keeps | refine Kept.foldl ?_ ?_ | intro _ | refine KeptP.foldl ?_ ?_ | refine KeptP.of_eq (by assumption) ?_ | dsimp only | split | dsimp only | refine KeptP.fst ?_ | refine KeptP.mk ?_ | fail_if_no_progress (refine Kept.upd ?_ (by rfl) (by intro p hp; cases p <;> first | rfl | exact (Kept.no hm hp (by decide)).elim)))
theorem State.dispatch_keeps {m : Nat} {r : State} (s : State) (id : Nat) (homes : List Nat) (classes : Nat) (f : Outcome → Outcome) (hm : Nat.land 2359312 m = 2359312) (h : Kept m r s) : Kept m r (State.dispatch s id homes classes f) := by
  unfold State.dispatch
  with_reducible repeat' (first | assumption | exact Kept.sub hm rfl | exact Kept.refl _ _ | refine KeptRes.next ?_ | refine Kept.cond ?_ ?_ | refine KeptRes.cond ?_ ?_ | refine KeptP.cond ?_ ?_ | apply State.conclude_keeps | apply State.sendParts_keeps | refine Kept.foldl ?_ ?_ | intro _ | refine KeptP.foldl ?_ ?_ | refine KeptP.of_eq (by assumption) ?_ | dsimp only | split | dsimp only | refine KeptP.fst ?_ | refine KeptP.mk ?_ | fail_if_no_progress (refine Kept.upd ?_ (by rfl) (by intro p hp; cases p <;> first | rfl | exact (Kept.no hm hp (by decide)).elim)))
theorem State.forward_keeps {m : Nat} {r : State} (s : State) (id : Nat) (anchor : Nat) (classes : Nat) (hm : Nat.land 2359312 m = 2359312) (h : Kept m r s) : Kept m r (State.forward s id anchor classes) := by
  unfold State.forward
  with_reducible repeat' (first | assumption | exact Kept.sub hm rfl | exact Kept.refl _ _ | refine KeptRes.next ?_ | refine Kept.cond ?_ ?_ | refine KeptRes.cond ?_ ?_ | refine KeptP.cond ?_ ?_ | apply State.conclude_keeps | apply State.sendPhase_keeps | refine Kept.foldl ?_ ?_ | intro _ | refine KeptP.foldl ?_ ?_ | refine KeptP.of_eq (by assumption) ?_ | dsimp only | split | dsimp only | refine KeptP.fst ?_ | refine KeptP.mk ?_ | fail_if_no_progress (refine Kept.upd ?_ (by rfl) (by intro p hp; cases p <;> first | rfl | exact (Kept.no hm hp (by decide)).elim)))
theorem State.unform_keeps {m : Nat} {r : State} (s : State) (id : Nat) (hm : Nat.land 262402 m = 262402) (h : Kept m r s) : Kept m r (State.unform s id) := by
  unfold State.unform
  with_reducible repeat' (first | assumption | exact Kept.sub hm rfl | exact Kept.refl _ _ | refine KeptRes.next ?_ | refine Kept.cond ?_ ?_ | refine KeptRes.cond ?_ ?_ | refine KeptP.cond ?_ ?_ | apply State.setFld_keeps | refine Kept.foldl ?_ ?_ | intro _ | refine KeptP.foldl ?_ ?_ | refine KeptP.of_eq (by assumption) ?_ | dsimp only | split | dsimp only | refine KeptP.fst ?_ | refine KeptP.mk ?_ | fail_if_no_progress (refine Kept.upd ?_ (by rfl) (by intro p hp; cases p <;> first | rfl | exact (Kept.no hm hp (by decide)).elim)))
theorem State.releaseClaim_keeps {m : Nat} {r : State} (s : State) (id : Nat) (c : VecClaim) (hm : Nat.land 10747920 m = 10747920) (h : Kept m r s) : Kept m r (State.releaseClaim s id c) := by
  unfold State.releaseClaim
  with_reducible repeat' (first | assumption | exact Kept.sub hm rfl | exact Kept.refl _ _ | refine KeptRes.next ?_ | refine Kept.cond ?_ ?_ | refine KeptRes.cond ?_ ?_ | refine KeptP.cond ?_ ?_ | apply State.pokeBytes_keeps | apply State.sendItem_keeps | refine Kept.foldl ?_ ?_ | intro _ | refine KeptP.foldl ?_ ?_ | refine KeptP.of_eq (by assumption) ?_ | dsimp only | split | dsimp only | refine KeptP.fst ?_ | refine KeptP.mk ?_ | fail_if_no_progress (refine Kept.upd ?_ (by rfl) (by intro p hp; cases p <;> first | rfl | exact (Kept.no hm hp (by decide)).elim)))
theorem State.dropWalks_keeps {m : Nat} {r : State} (s : State) (id : Nat) (hm : Nat.land 10749968 m = 10749968) (h : Kept m r s) : Kept m r (State.dropWalks s id) := by
  unfold State.dropWalks
  with_reducible repeat' (first | assumption | exact Kept.sub hm rfl | exact Kept.refl _ _ | refine KeptRes.next ?_ | refine Kept.cond ?_ ?_ | refine KeptRes.cond ?_ ?_ | refine KeptP.cond ?_ ?_ | apply State.releaseClaim_keeps | refine Kept.foldl ?_ ?_ | intro _ | refine KeptP.foldl ?_ ?_ | refine KeptP.of_eq (by assumption) ?_ | dsimp only | split | dsimp only | refine KeptP.fst ?_ | refine KeptP.mk ?_ | fail_if_no_progress (refine Kept.upd ?_ (by rfl) (by intro p hp; cases p <;> first | rfl | exact (Kept.no hm hp (by decide)).elim)))
theorem State.endFlight_keeps {m : Nat} {r : State} (s : State) (id : Nat) (j : RplJob) (hm : Nat.land 2359312 m = 2359312) (h : Kept m r s) : Kept m r (State.endFlight s id j) := by
  unfold State.endFlight
  with_reducible repeat' (first | assumption | exact Kept.sub hm rfl | exact Kept.refl _ _ | refine KeptRes.next ?_ | refine Kept.cond ?_ ?_ | refine KeptRes.cond ?_ ?_ | refine KeptP.cond ?_ ?_ | apply State.sendItem_keeps | refine Kept.foldl ?_ ?_ | intro _ | refine KeptP.foldl ?_ ?_ | refine KeptP.of_eq (by assumption) ?_ | dsimp only | split | dsimp only | refine KeptP.fst ?_ | refine KeptP.mk ?_ | fail_if_no_progress (refine Kept.upd ?_ (by rfl) (by intro p hp; cases p <;> first | rfl | exact (Kept.no hm hp (by decide)).elim)))
theorem State.dropReplay_keeps {m : Nat} {r : State} (s : State) (id : Nat) (hm : Nat.land 2363408 m = 2363408) (h : Kept m r s) : Kept m r (State.dropReplay s id) := by
  unfold State.dropReplay
  with_reducible repeat' (first | assumption | exact Kept.sub hm rfl | exact Kept.refl _ _ | refine KeptRes.next ?_ | refine Kept.cond ?_ ?_ | refine KeptRes.cond ?_ ?_ | refine KeptP.cond ?_ ?_ | apply State.endFlight_keeps | refine Kept.foldl ?_ ?_ | intro _ | refine KeptP.foldl ?_ ?_ | refine KeptP.of_eq (by assumption) ?_ | dsimp only | split | dsimp only | refine KeptP.fst ?_ | refine KeptP.mk ?_ | fail_if_no_progress (refine Kept.upd ?_ (by rfl) (by intro p hp; cases p <;> first | rfl | exact (Kept.no hm hp (by decide)).elim)))
theorem State.dropCopy_keeps {m : Nat} {r : State} (s : State) (slot : Nat) (hm : Nat.land 98560 m = 98560) (h : Kept m r s) : Kept m r (State.dropCopy s slot) := by
  unfold State.dropCopy
  with_reducible repeat' (first | assumption | exact Kept.sub hm rfl | exact Kept.refl _ _ | refine KeptRes.next ?_ | refine Kept.cond ?_ ?_ | refine KeptRes.cond ?_ ?_ | refine KeptP.cond ?_ ?_ | refine Kept.foldl ?_ ?_ | intro _ | refine KeptP.foldl ?_ ?_ | refine KeptP.of_eq (by assumption) ?_ | dsimp only | split | dsimp only | refine KeptP.fst ?_ | refine KeptP.mk ?_ | fail_if_no_progress (refine Kept.upd ?_ (by rfl) (by intro p hp; cases p <;> first | rfl | exact (Kept.no hm hp (by decide)).elim)))
theorem State.endAssign_keeps {m : Nat} {r : State} (s : State) (x1 : Nat) (hm : Nat.land 2457872 m = 2457872) (h : Kept m r s) : Kept m r (State.endAssign s x1) := by
  unfold State.endAssign
  with_reducible repeat' (first | assumption | exact Kept.sub hm rfl | exact Kept.refl _ _ | refine KeptRes.next ?_ | refine Kept.cond ?_ ?_ | refine KeptRes.cond ?_ ?_ | refine KeptP.cond ?_ ?_ | apply State.dropCopy_keeps | apply State.sendItem_keeps | refine Kept.foldl ?_ ?_ | intro _ | refine KeptP.foldl ?_ ?_ | refine KeptP.of_eq (by assumption) ?_ | dsimp only | split | dsimp only | refine KeptP.fst ?_ | refine KeptP.mk ?_ | fail_if_no_progress (refine Kept.upd ?_ (by rfl) (by intro p hp; cases p <;> first | rfl | exact (Kept.no hm hp (by decide)).elim)))
theorem State.withdraw_keeps {m : Nat} {r : State} (s : State) (id : Nat) (hm : Nat.land 16752538 m = 16752538) (h : Kept m r s) : Kept m r (State.withdraw s id) := by
  unfold State.withdraw
  with_reducible repeat' (first | assumption | exact Kept.sub hm rfl | exact Kept.refl _ _ | refine KeptRes.next ?_ | refine Kept.cond ?_ ?_ | refine KeptRes.cond ?_ ?_ | refine KeptP.cond ?_ ?_ | apply State.cancelInvocations_keeps | apply State.dropReplay_keeps | apply State.dropWalks_keeps | apply State.endAssign_keeps | apply State.unform_keeps | refine Kept.foldl ?_ ?_ | intro _ | refine KeptP.foldl ?_ ?_ | refine KeptP.of_eq (by assumption) ?_ | dsimp only | split | dsimp only | refine KeptP.fst ?_ | refine KeptP.mk ?_ | fail_if_no_progress (refine Kept.upd ?_ (by rfl) (by intro p hp; cases p <;> first | rfl | exact (Kept.no hm hp (by decide)).elim)))
theorem State.stopFirst_keeps {m : Nat} {r : State} (s : State) (id : Nat) (hm : Nat.land 128 m = 128) (h : Kept m r s) : Kept m r (State.stopFirst s id) := by
  unfold State.stopFirst
  with_reducible repeat' (first | assumption | exact Kept.sub hm rfl | exact Kept.refl _ _ | refine KeptRes.next ?_ | refine Kept.cond ?_ ?_ | refine KeptRes.cond ?_ ?_ | refine KeptP.cond ?_ ?_ | refine Kept.foldl ?_ ?_ | intro _ | refine KeptP.foldl ?_ ?_ | refine KeptP.of_eq (by assumption) ?_ | dsimp only | split | dsimp only | refine KeptP.fst ?_ | refine KeptP.mk ?_ | fail_if_no_progress (refine Kept.upd ?_ (by rfl) (by intro p hp; cases p <;> first | rfl | exact (Kept.no hm hp (by decide)).elim)))
theorem State.stopEntry_keeps {m : Nat} {r : State} (s : State) (id : Nat) (why : Stop) (hm : Nat.land 16752538 m = 16752538) (h : Kept m r s) : Kept m r (State.stopEntry s id why) := by
  unfold State.stopEntry
  with_reducible repeat' (first | assumption | exact Kept.sub hm rfl | exact Kept.refl _ _ | refine KeptRes.next ?_ | refine Kept.cond ?_ ?_ | refine KeptRes.cond ?_ ?_ | refine KeptP.cond ?_ ?_ | apply State.emit_keeps | apply State.setEntry_keeps | apply State.stopFirst_keeps | apply State.withdraw_keeps | refine Kept.foldl ?_ ?_ | intro _ | refine KeptP.foldl ?_ ?_ | refine KeptP.of_eq (by assumption) ?_ | dsimp only | split | dsimp only | refine KeptP.fst ?_ | refine KeptP.mk ?_ | fail_if_no_progress (refine Kept.upd ?_ (by rfl) (by intro p hp; cases p <;> first | rfl | exact (Kept.no hm hp (by decide)).elim)))
theorem State.linkTwins_keeps {m : Nat} {r : State} (s : State) (id : Nat) (a : Nat) (b : Nat) (hm : Nat.land 2097152 m = 2097152) (h : Kept m r s) : Kept m r (State.linkTwins s id a b) := by
  unfold State.linkTwins
  with_reducible repeat' (first | assumption | exact Kept.sub hm rfl | exact Kept.refl _ _ | refine KeptRes.next ?_ | refine Kept.cond ?_ ?_ | refine KeptRes.cond ?_ ?_ | refine KeptP.cond ?_ ?_ | apply State.modEntry_keeps | refine Kept.foldl ?_ ?_ | intro _ | refine KeptP.foldl ?_ ?_ | refine KeptP.of_eq (by assumption) ?_ | dsimp only | split | dsimp only | refine KeptP.fst ?_ | refine KeptP.mk ?_ | fail_if_no_progress (refine Kept.upd ?_ (by rfl) (by intro p hp; cases p <;> first | rfl | exact (Kept.no hm hp (by decide)).elim)))
theorem State.twinItem_keeps {m : Nat} {r : State} (s : State) (id : Nat) (i : Item) (x : Away) (hm : Nat.land 2359312 m = 2359312) (h : Kept m r s) : Kept m r (State.twinItem s id i x) := by
  unfold State.twinItem
  with_reducible repeat' (first | assumption | exact Kept.sub hm rfl | exact Kept.refl _ _ | refine KeptRes.next ?_ | refine Kept.cond ?_ ?_ | refine KeptRes.cond ?_ ?_ | refine KeptP.cond ?_ ?_ | apply State.linkTwins_keeps | apply State.sendItem_keeps | refine Kept.foldl ?_ ?_ | intro _ | refine KeptP.foldl ?_ ?_ | refine KeptP.of_eq (by assumption) ?_ | dsimp only | split | dsimp only | refine KeptP.fst ?_ | refine KeptP.mk ?_ | fail_if_no_progress (refine Kept.upd ?_ (by rfl) (by intro p hp; cases p <;> first | rfl | exact (Kept.no hm hp (by decide)).elim)))
theorem State.answerItem_keeps {m : Nat} {r : State} (s : State) (id : Nat) (item : Nat) (st : Nat) (sub : Nat) (begun : Bool) (hm : Nat.land 2359312 m = 2359312) (h : Kept m r s) : Kept m r (State.answerItem s id item st sub begun) := by
  unfold State.answerItem
  with_reducible repeat' (first | assumption | exact Kept.sub hm rfl | exact Kept.refl _ _ | refine KeptRes.next ?_ | refine Kept.cond ?_ ?_ | refine KeptRes.cond ?_ ?_ | refine KeptP.cond ?_ ?_ | apply State.dropAway_keeps | apply State.emit_keeps | apply State.setEntry_keeps | refine Kept.foldl ?_ ?_ | intro _ | refine KeptP.foldl ?_ ?_ | refine KeptP.of_eq (by assumption) ?_ | dsimp only | split | dsimp only | refine KeptP.fst ?_ | refine KeptP.mk ?_ | fail_if_no_progress (refine Kept.upd ?_ (by rfl) (by intro p hp; cases p <;> first | rfl | exact (Kept.no hm hp (by decide)).elim)))
theorem State.setPort_keeps {m : Nat} {r : State} (s : State) (p : Nat) (x : Port) (hm : Nat.land 16384 m = 16384) (h : Kept m r s) : Kept m r (State.setPort s p x) := by
  unfold State.setPort
  with_reducible repeat' (first | assumption | exact Kept.sub hm rfl | exact Kept.refl _ _ | refine KeptRes.next ?_ | refine Kept.cond ?_ ?_ | refine KeptRes.cond ?_ ?_ | refine KeptP.cond ?_ ?_ | refine Kept.foldl ?_ ?_ | intro _ | refine KeptP.foldl ?_ ?_ | refine KeptP.of_eq (by assumption) ?_ | dsimp only | split | dsimp only | refine KeptP.fst ?_ | refine KeptP.mk ?_ | fail_if_no_progress (refine Kept.upd ?_ (by rfl) (by intro p hp; cases p <;> first | rfl | exact (Kept.no hm hp (by decide)).elim)))
theorem State.msgBad_keeps {m : Nat} {r : State} (s : State) (p : Nat) (hm : Nat.land 4210706 m = 4210706) (h : Kept m r s) : Kept m r (State.msgBad s p) := by
  unfold State.msgBad
  with_reducible repeat' (first | assumption | exact Kept.sub hm rfl | exact Kept.refl _ _ | refine KeptRes.next ?_ | refine Kept.cond ?_ ?_ | refine KeptRes.cond ?_ ?_ | refine KeptP.cond ?_ ?_ | apply State.raise_keeps | apply State.setPort_keeps | refine Kept.foldl ?_ ?_ | intro _ | refine KeptP.foldl ?_ ?_ | refine KeptP.of_eq (by assumption) ?_ | dsimp only | split | dsimp only | refine KeptP.fst ?_ | refine KeptP.mk ?_ | fail_if_no_progress (refine Kept.upd ?_ (by rfl) (by intro p hp; cases p <;> first | rfl | exact (Kept.no hm hp (by decide)).elim)))
theorem State.sendPort_keeps {m : Nat} {r : State} (s : State) (p : Nat) (msg : List Byte) (dst : optParam Nat 65535) (hm : Nat.land 16400 m = 16400) (h : Kept m r s) : Kept m r (State.sendPort s p msg dst) := by
  unfold State.sendPort
  with_reducible repeat' (first | assumption | exact Kept.sub hm rfl | exact Kept.refl _ _ | refine KeptRes.next ?_ | refine Kept.cond ?_ ?_ | refine KeptRes.cond ?_ ?_ | refine KeptP.cond ?_ ?_ | apply State.emit_keeps | refine Kept.foldl ?_ ?_ | intro _ | refine KeptP.foldl ?_ ?_ | refine KeptP.of_eq (by assumption) ?_ | dsimp only | split | dsimp only | refine KeptP.fst ?_ | refine KeptP.mk ?_ | fail_if_no_progress (refine Kept.upd ?_ (by rfl) (by intro p hp; cases p <;> first | rfl | exact (Kept.no hm hp (by decide)).elim)))
theorem State.waitRoute_keeps {m : Nat} {r : State} (s : State) (dst : Nat) (msg : List Byte) (drain : Bool) (hm : Nat.land 16384 m = 16384) (h : Kept m r s) : Kept m r (State.waitRoute s dst msg drain) := by
  unfold State.waitRoute
  with_reducible repeat' (first | assumption | exact Kept.sub hm rfl | exact Kept.refl _ _ | refine KeptRes.next ?_ | refine Kept.cond ?_ ?_ | refine KeptRes.cond ?_ ?_ | refine KeptP.cond ?_ ?_ | refine Kept.foldl ?_ ?_ | intro _ | refine KeptP.foldl ?_ ?_ | refine KeptP.of_eq (by assumption) ?_ | dsimp only | split | dsimp only | refine KeptP.fst ?_ | refine KeptP.mk ?_ | fail_if_no_progress (refine Kept.upd ?_ (by rfl) (by intro p hp; cases p <;> first | rfl | exact (Kept.no hm hp (by decide)).elim)))
theorem State.sendMember_keeps {m : Nat} {r : State} (s : State) (x1 : Nat) (src : Nat) (key : Nat) (msg : List Byte) (hm : Nat.land 16400 m = 16400) (h : Kept m r s) : Kept m r (State.sendMember s x1 src key msg) := by
  unfold State.sendMember
  with_reducible repeat' (first | assumption | exact Kept.sub hm rfl | exact Kept.refl _ _ | refine KeptRes.next ?_ | refine Kept.cond ?_ ?_ | refine KeptRes.cond ?_ ?_ | refine KeptP.cond ?_ ?_ | apply State.emit_keeps | apply State.sendPort_keeps | apply State.waitRoute_keeps | refine Kept.foldl ?_ ?_ | intro _ | refine KeptP.foldl ?_ ?_ | refine KeptP.of_eq (by assumption) ?_ | dsimp only | split | dsimp only | refine KeptP.fst ?_ | refine KeptP.mk ?_ | fail_if_no_progress (refine Kept.upd ?_ (by rfl) (by intro p hp; cases p <;> first | rfl | exact (Kept.no hm hp (by decide)).elim)))
theorem State.sendEndpoint_keeps {m : Nat} {r : State} (s : State) (index : Nat) (key : Nat) (msg : List Byte) (hm : Nat.land 16400 m = 16400) (h : Kept m r s) : Kept m r (State.sendEndpoint s index key msg) := by
  unfold State.sendEndpoint
  with_reducible repeat' (first | assumption | exact Kept.sub hm rfl | exact Kept.refl _ _ | refine KeptRes.next ?_ | refine Kept.cond ?_ ?_ | refine KeptRes.cond ?_ ?_ | refine KeptP.cond ?_ ?_ | apply State.sendMember_keeps | apply State.sendPort_keeps | apply State.waitRoute_keeps | refine Kept.foldl ?_ ?_ | intro _ | refine KeptP.foldl ?_ ?_ | refine KeptP.of_eq (by assumption) ?_ | dsimp only | split | dsimp only | refine KeptP.fst ?_ | refine KeptP.mk ?_ | fail_if_no_progress (refine Kept.upd ?_ (by rfl) (by intro p hp; cases p <;> first | rfl | exact (Kept.no hm hp (by decide)).elim)))
theorem State.respond_keeps {m : Nat} {r : State} (s : State) (x1 : CohReq) (mtype : Nat) (st : Nat) (sub : Nat) (data : List Byte) (hm : Nat.land 49296 m = 49296) (h : Kept m r s) : Kept m r (State.respond s x1 mtype st sub data) := by
  unfold State.respond
  with_reducible repeat' (first | assumption | exact Kept.sub hm rfl | exact Kept.refl _ _ | refine KeptRes.next ?_ | refine Kept.cond ?_ ?_ | refine KeptRes.cond ?_ ?_ | refine KeptP.cond ?_ ?_ | apply State.sendMember_keeps | apply State.sendPort_keeps | apply State.setPort_keeps | refine Kept.foldl ?_ ?_ | intro _ | refine KeptP.foldl ?_ ?_ | refine KeptP.of_eq (by assumption) ?_ | dsimp only | split | dsimp only | refine KeptP.fst ?_ | refine KeptP.mk ?_ | fail_if_no_progress (refine Kept.upd ?_ (by rfl) (by intro p hp; cases p <;> first | rfl | exact (Kept.no hm hp (by decide)).elim)))
theorem State.respondDue_keeps {m : Nat} {r : State} (s : State) (hm : Nat.land 49296 m = 49296) (h : Kept m r s) : Kept m r (State.respondDue s) := by
  unfold State.respondDue
  with_reducible repeat' (first | assumption | exact Kept.sub hm rfl | exact Kept.refl _ _ | refine KeptRes.next ?_ | refine Kept.cond ?_ ?_ | refine KeptRes.cond ?_ ?_ | refine KeptP.cond ?_ ?_ | apply State.respond_keeps | refine Kept.foldl ?_ ?_ | intro _ | refine KeptP.foldl ?_ ?_ | refine KeptP.of_eq (by assumption) ?_ | dsimp only | split | dsimp only | refine KeptP.fst ?_ | refine KeptP.mk ?_ | fail_if_no_progress (refine Kept.upd ?_ (by rfl) (by intro p hp; cases p <;> first | rfl | exact (Kept.no hm hp (by decide)).elim)))
theorem State.setSf_keeps {m : Nat} {r : State} (s : State) (g : Nat) (e : SfEntry) (hm : Nat.land 32768 m = 32768) (h : Kept m r s) : Kept m r (State.setSf s g e) := by
  unfold State.setSf
  with_reducible repeat' (first | assumption | exact Kept.sub hm rfl | exact Kept.refl _ _ | refine KeptRes.next ?_ | refine Kept.cond ?_ ?_ | refine KeptRes.cond ?_ ?_ | refine KeptP.cond ?_ ?_ | refine Kept.foldl ?_ ?_ | intro _ | refine KeptP.foldl ?_ ?_ | refine KeptP.of_eq (by assumption) ?_ | dsimp only | split | dsimp only | refine KeptP.fst ?_ | refine KeptP.mk ?_ | fail_if_no_progress (refine Kept.upd ?_ (by rfl) (by intro p hp; cases p <;> first | rfl | exact (Kept.no hm hp (by decide)).elim)))
theorem State.freeSf_keeps {m : Nat} {r : State} (s : State) (g : Nat) (hm : Nat.land 32768 m = 32768) (h : Kept m r s) : Kept m r (State.freeSf s g) := by
  unfold State.freeSf
  with_reducible repeat' (first | assumption | exact Kept.sub hm rfl | exact Kept.refl _ _ | refine KeptRes.next ?_ | refine Kept.cond ?_ ?_ | refine KeptRes.cond ?_ ?_ | refine KeptP.cond ?_ ?_ | refine Kept.foldl ?_ ?_ | intro _ | refine KeptP.foldl ?_ ?_ | refine KeptP.of_eq (by assumption) ?_ | dsimp only | split | dsimp only | refine KeptP.fst ?_ | refine KeptP.mk ?_ | fail_if_no_progress (refine Kept.upd ?_ (by rfl) (by intro p hp; cases p <;> first | rfl | exact (Kept.no hm hp (by decide)).elim)))
theorem State.setAgent_keeps {m : Nat} {r : State} (s : State) (i : Nat) (a : Agent) (hm : Nat.land 32768 m = 32768) (h : Kept m r s) : Kept m r (State.setAgent s i a) := by
  unfold State.setAgent
  with_reducible repeat' (first | assumption | exact Kept.sub hm rfl | exact Kept.refl _ _ | refine KeptRes.next ?_ | refine Kept.cond ?_ ?_ | refine KeptRes.cond ?_ ?_ | refine KeptP.cond ?_ ?_ | refine Kept.foldl ?_ ?_ | intro _ | refine KeptP.foldl ?_ ?_ | refine KeptP.of_eq (by assumption) ?_ | dsimp only | split | dsimp only | refine KeptP.fst ?_ | refine KeptP.mk ?_ | fail_if_no_progress (refine Kept.upd ?_ (by rfl) (by intro p hp; cases p <;> first | rfl | exact (Kept.no hm hp (by decide)).elim)))
theorem State.tellShadow_keeps {m : Nat} {r : State} (s : State) (g : Nat) (hm : Nat.land 2359312 m = 2359312) (h : Kept m r s) : Kept m r (State.tellShadow s g) := by
  unfold State.tellShadow
  with_reducible repeat' (first | assumption | exact Kept.sub hm rfl | exact Kept.refl _ _ | refine KeptRes.next ?_ | refine Kept.cond ?_ ?_ | refine KeptRes.cond ?_ ?_ | refine KeptP.cond ?_ ?_ | apply State.sendServed_keeps | refine Kept.foldl ?_ ?_ | intro _ | refine KeptP.foldl ?_ ?_ | refine KeptP.of_eq (by assumption) ?_ | dsimp only | split | dsimp only | refine KeptP.fst ?_ | refine KeptP.mk ?_ | fail_if_no_progress (refine Kept.upd ?_ (by rfl) (by intro p hp; cases p <;> first | rfl | exact (Kept.no hm hp (by decide)).elim)))
theorem State.allocSf_keeps {m : Nat} {r : State} (s : State) (g : Nat) (way : Nat) (owned : Bool) (i : Nat) (hm : Nat.land 4227090 m = 4227090) (h : Kept m r s) : Kept m r (State.allocSf s g way owned i) := by
  unfold State.allocSf
  with_reducible repeat' (first | assumption | exact Kept.sub hm rfl | exact Kept.refl _ _ | refine KeptRes.next ?_ | refine Kept.cond ?_ ?_ | refine KeptRes.cond ?_ ?_ | refine KeptP.cond ?_ ?_ | apply State.count_keeps | apply State.raise_keeps | apply State.setSf_keeps | refine Kept.foldl ?_ ?_ | intro _ | refine KeptP.foldl ?_ ?_ | refine KeptP.of_eq (by assumption) ?_ | dsimp only | split | dsimp only | refine KeptP.fst ?_ | refine KeptP.mk ?_ | fail_if_no_progress (refine Kept.upd ?_ (by rfl) (by intro p hp; cases p <;> first | rfl | exact (Kept.no hm hp (by decide)).elim)))
theorem State.sendInv_keeps {m : Nat} {r : State} (s : State) (g : Nat) (i : Nat) (recalls : Bool) (back : Bool) (hm : Nat.land 5292050 m = 5292050) (h : Kept m r s) : Kept m r (State.sendInv s g i recalls back) := by
  unfold State.sendInv
  with_reducible repeat' (first | assumption | exact Kept.sub hm rfl | exact Kept.refl _ _ | refine KeptRes.next ?_ | refine Kept.cond ?_ ?_ | refine KeptRes.cond ?_ ?_ | refine KeptP.cond ?_ ?_ | apply State.count_keeps | apply State.pulse_keeps | apply State.sendEndpoint_keeps | refine Kept.foldl ?_ ?_ | intro _ | refine KeptP.foldl ?_ ?_ | refine KeptP.of_eq (by assumption) ?_ | dsimp only | split | dsimp only | refine KeptP.fst ?_ | refine KeptP.mk ?_ | fail_if_no_progress (refine Kept.upd ?_ (by rfl) (by intro p hp; cases p <;> first | rfl | exact (Kept.no hm hp (by decide)).elim)))
theorem State.reclaimOwned_keeps {m : Nat} {r : State} (s : State) (g : Nat) (hm : Nat.land 2392338 m = 2392338) (h : Kept m r s) : Kept m r (State.reclaimOwned s g) := by
  unfold State.reclaimOwned
  with_reducible repeat' (first | assumption | exact Kept.sub hm rfl | exact Kept.refl _ _ | refine KeptRes.next ?_ | refine Kept.cond ?_ ?_ | refine KeptRes.cond ?_ ?_ | refine KeptP.cond ?_ ?_ | apply State.count_keeps | apply State.freeSf_keeps | apply State.poison_keeps | apply State.tellShadow_keeps | refine Kept.foldl ?_ ?_ | intro _ | refine KeptP.foldl ?_ ?_ | refine KeptP.of_eq (by assumption) ?_ | dsimp only | split | dsimp only | refine KeptP.fst ?_ | refine KeptP.mk ?_ | fail_if_no_progress (refine Kept.upd ?_ (by rfl) (by intro p hp; cases p <;> first | rfl | exact (Kept.no hm hp (by decide)).elim)))
theorem State.setKvpPool_keeps {m : Nat} {r : State} (s : State) (p : Nat) (x : KvpPool) (hm : Nat.land 8192 m = 8192) (h : Kept m r s) : Kept m r (State.setKvpPool s p x) := by
  unfold State.setKvpPool
  with_reducible repeat' (first | assumption | exact Kept.sub hm rfl | exact Kept.refl _ _ | refine KeptRes.next ?_ | refine Kept.cond ?_ ?_ | refine KeptRes.cond ?_ ?_ | refine KeptP.cond ?_ ?_ | refine Kept.foldl ?_ ?_ | intro _ | refine KeptP.foldl ?_ ?_ | refine KeptP.of_eq (by assumption) ?_ | dsimp only | split | dsimp only | refine KeptP.fst ?_ | refine KeptP.mk ?_ | fail_if_no_progress (refine Kept.upd ?_ (by rfl) (by intro p hp; cases p <;> first | rfl | exact (Kept.no hm hp (by decide)).elim)))
theorem State.modKvpPool_keeps {m : Nat} {r : State} (s : State) (p : Nat) (f : KvpPool → KvpPool) (hm : Nat.land 8192 m = 8192) (h : Kept m r s) : Kept m r (State.modKvpPool s p f) := by
  unfold State.modKvpPool
  with_reducible repeat' (first | assumption | exact Kept.sub hm rfl | exact Kept.refl _ _ | refine KeptRes.next ?_ | refine Kept.cond ?_ ?_ | refine KeptRes.cond ?_ ?_ | refine KeptP.cond ?_ ?_ | refine Kept.foldl ?_ ?_ | intro _ | refine KeptP.foldl ?_ ?_ | refine KeptP.of_eq (by assumption) ?_ | dsimp only | split | dsimp only | refine KeptP.fst ?_ | refine KeptP.mk ?_ | fail_if_no_progress (refine Kept.upd ?_ (by rfl) (by intro p hp; cases p <;> first | rfl | exact (Kept.no hm hp (by decide)).elim)))
theorem State.kvpTouch_keeps {m : Nat} {r : State} (s : State) (addr : Nat) (hm : Nat.land 8192 m = 8192) (h : Kept m r s) : Kept m r (State.kvpTouch s addr) := by
  unfold State.kvpTouch
  with_reducible repeat' (first | assumption | exact Kept.sub hm rfl | exact Kept.refl _ _ | refine KeptRes.next ?_ | refine Kept.cond ?_ ?_ | refine KeptRes.cond ?_ ?_ | refine KeptP.cond ?_ ?_ | refine Kept.foldl ?_ ?_ | intro _ | refine KeptP.foldl ?_ ?_ | refine KeptP.of_eq (by assumption) ?_ | dsimp only | split | dsimp only | refine KeptP.fst ?_ | refine KeptP.mk ?_ | fail_if_no_progress (refine Kept.upd ?_ (by rfl) (by intro p hp; cases p <;> first | rfl | exact (Kept.no hm hp (by decide)).elim)))
theorem State.countEnded_keeps {m : Nat} {r : State} (s : State) (x1 : CohReq) (hm : Nat.land 65536 m = 65536) (h : Kept m r s) : Kept m r (State.countEnded s x1) := by
  unfold State.countEnded
  with_reducible repeat' (first | assumption | exact Kept.sub hm rfl | exact Kept.refl _ _ | refine KeptRes.next ?_ | refine Kept.cond ?_ ?_ | refine KeptRes.cond ?_ ?_ | refine KeptP.cond ?_ ?_ | refine Kept.foldl ?_ ?_ | intro _ | refine KeptP.foldl ?_ ?_ | refine KeptP.of_eq (by assumption) ?_ | dsimp only | split | dsimp only | refine KeptP.fst ?_ | refine KeptP.mk ?_ | fail_if_no_progress (refine Kept.upd ?_ (by rfl) (by intro p hp; cases p <;> first | rfl | exact (Kept.no hm hp (by decide)).elim)))
theorem State.performRd_keeps {m : Nat} {r : State} (s : State) (x1 : CohReq) (noCache : Bool) (hm : Nat.land 16697746 m = 16697746) (h : Kept m r s) : Kept m r (State.performRd s x1 noCache) := by
  unfold State.performRd
  with_reducible repeat' (first | assumption | exact Kept.sub hm rfl | exact Kept.refl _ _ | refine KeptRes.next ?_ | refine Kept.cond ?_ ?_ | refine KeptRes.cond ?_ ?_ | refine KeptP.cond ?_ ?_ | apply State.access_keeps | apply State.allocSf_keeps | apply State.checkRead_keeps | apply State.freeSf_keeps | apply State.respond_keeps | apply State.setSf_keeps | apply State.tellShadow_keeps | refine Kept.foldl ?_ ?_ | intro _ | refine KeptP.foldl ?_ ?_ | refine KeptP.of_eq (by assumption) ?_ | dsimp only | split | dsimp only | refine KeptP.fst ?_ | refine KeptP.mk ?_ | fail_if_no_progress (refine Kept.upd ?_ (by rfl) (by intro p hp; cases p <;> first | rfl | exact (Kept.no hm hp (by decide)).elim)))
theorem State.performRdOwn_keeps {m : Nat} {r : State} (s : State) (x1 : CohReq) (hm : Nat.land 16697746 m = 16697746) (h : Kept m r s) : Kept m r (State.performRdOwn s x1) := by
  unfold State.performRdOwn
  with_reducible repeat' (first | assumption | exact Kept.sub hm rfl | exact Kept.refl _ _ | refine KeptRes.next ?_ | refine Kept.cond ?_ ?_ | refine KeptRes.cond ?_ ?_ | refine KeptP.cond ?_ ?_ | apply State.access_keeps | apply State.allocSf_keeps | apply State.checkRead_keeps | apply State.freeSf_keeps | apply State.respond_keeps | apply State.tellShadow_keeps | refine Kept.foldl ?_ ?_ | intro _ | refine KeptP.foldl ?_ ?_ | refine KeptP.of_eq (by assumption) ?_ | dsimp only | split | dsimp only | refine KeptP.fst ?_ | refine KeptP.mk ?_ | fail_if_no_progress (refine Kept.upd ?_ (by rfl) (by intro p hp; cases p <;> first | rfl | exact (Kept.no hm hp (by decide)).elim)))
theorem State.dropCopies_keeps {m : Nat} {r : State} (s : State) (g : Nat) (hm : Nat.land 2392080 m = 2392080) (h : Kept m r s) : Kept m r (State.dropCopies s g) := by
  unfold State.dropCopies
  with_reducible repeat' (first | assumption | exact Kept.sub hm rfl | exact Kept.refl _ _ | refine KeptRes.next ?_ | refine Kept.cond ?_ ?_ | refine KeptRes.cond ?_ ?_ | refine KeptP.cond ?_ ?_ | apply State.freeSf_keeps | apply State.tellShadow_keeps | refine Kept.foldl ?_ ?_ | intro _ | refine KeptP.foldl ?_ ?_ | refine KeptP.of_eq (by assumption) ?_ | dsimp only | split | dsimp only | refine KeptP.fst ?_ | refine KeptP.mk ?_ | fail_if_no_progress (refine Kept.upd ?_ (by rfl) (by intro p hp; cases p <;> first | rfl | exact (Kept.no hm hp (by decide)).elim)))
theorem State.landWrite_keeps {m : Nat} {r : State} (s : State) (x1 : CohReq) (off : Nat) (l : List Byte) (kind : Nat) (data : List Byte) (hm : Nat.land 16763282 m = 16763282) (h : Kept m r s) : Kept m r (State.landWrite s x1 off l kind data) := by
  unfold State.landWrite
  with_reducible repeat' (first | assumption | exact Kept.sub hm rfl | exact Kept.refl _ _ | refine KeptRes.next ?_ | refine Kept.cond ?_ ?_ | refine KeptRes.cond ?_ ?_ | refine KeptP.cond ?_ ?_ | apply State.access_keeps | apply State.countEnded_keeps | apply State.respond_keeps | apply State.writeGranule_keeps | refine Kept.foldl ?_ ?_ | intro _ | refine KeptP.foldl ?_ ?_ | refine KeptP.of_eq (by assumption) ?_ | dsimp only | split | dsimp only | refine KeptP.fst ?_ | refine KeptP.mk ?_ | fail_if_no_progress (refine Kept.upd ?_ (by rfl) (by intro p hp; cases p <;> first | rfl | exact (Kept.no hm hp (by decide)).elim)))
theorem State.performWrp_keeps {m : Nat} {r : State} (s : State) (x1 : CohReq) (mask : Nat) (hm : Nat.land 16763282 m = 16763282) (h : Kept m r s) : Kept m r (State.performWrp s x1 mask) := by
  unfold State.performWrp
  with_reducible repeat' (first | assumption | exact Kept.sub hm rfl | exact Kept.refl _ _ | refine KeptRes.next ?_ | refine Kept.cond ?_ ?_ | refine KeptRes.cond ?_ ?_ | refine KeptP.cond ?_ ?_ | apply State.checkRead_keeps | apply State.countEnded_keeps | apply State.landWrite_keeps | apply State.respond_keeps | refine Kept.foldl ?_ ?_ | intro _ | refine KeptP.foldl ?_ ?_ | refine KeptP.of_eq (by assumption) ?_ | dsimp only | split | dsimp only | refine KeptP.fst ?_ | refine KeptP.mk ?_ | fail_if_no_progress (refine Kept.upd ?_ (by rfl) (by intro p hp; cases p <;> first | rfl | exact (Kept.no hm hp (by decide)).elim)))
theorem State.performAtom_keeps {m : Nat} {r : State} (s : State) (x1 : CohReq) (op : Nat) (n : Nat) (noReturn : Bool) (opa : Nat) (opb : Nat) (hm : Nat.land 16763282 m = 16763282) (h : Kept m r s) : Kept m r (State.performAtom s x1 op n noReturn opa opb) := by
  unfold State.performAtom
  with_reducible repeat' (first | assumption | exact Kept.sub hm rfl | exact Kept.refl _ _ | refine KeptRes.next ?_ | refine Kept.cond ?_ ?_ | refine KeptRes.cond ?_ ?_ | refine KeptP.cond ?_ ?_ | apply State.checkRead_keeps | apply State.countEnded_keeps | apply State.landWrite_keeps | apply State.respond_keeps | refine Kept.foldl ?_ ?_ | intro _ | refine KeptP.foldl ?_ ?_ | refine KeptP.of_eq (by assumption) ?_ | dsimp only | split | dsimp only | refine KeptP.fst ?_ | refine KeptP.mk ?_ | fail_if_no_progress (refine Kept.upd ?_ (by rfl) (by intro p hp; cases p <;> first | rfl | exact (Kept.no hm hp (by decide)).elim)))
theorem State.performReq_keeps {m : Nat} {r : State} (s : State) (x1 : CohReq) (hm : Nat.land 16771474 m = 16771474) (h : Kept m r s) : Kept m r (State.performReq s x1) := by
  unfold State.performReq
  with_reducible repeat' (first | assumption | exact Kept.sub hm rfl | exact Kept.refl _ _ | refine KeptRes.next ?_ | refine Kept.cond ?_ ?_ | refine KeptRes.cond ?_ ?_ | refine KeptP.cond ?_ ?_ | apply State.access_keeps | apply State.count_keeps | apply State.dropCopies_keeps | apply State.freeSf_keeps | apply State.kvpTouch_keeps | apply State.landWrite_keeps | apply State.performAtom_keeps | apply State.performRd_keeps | apply State.performRdOwn_keeps | apply State.performWrp_keeps | apply State.raise_keeps | apply State.respond_keeps | apply State.serving_keeps | apply State.setSf_keeps | apply State.tellShadow_keeps | apply State.writeGranule_keeps | refine Kept.foldl ?_ ?_ | intro _ | refine KeptP.foldl ?_ ?_ | refine KeptP.of_eq (by assumption) ?_ | dsimp only | split | dsimp only | refine KeptP.fst ?_ | refine KeptP.mk ?_ | fail_if_no_progress (refine Kept.upd ?_ (by rfl) (by intro p hp; cases p <;> first | rfl | exact (Kept.no hm hp (by decide)).elim)))
theorem State.writeRecalled_keeps {m : Nat} {r : State} (s : State) (g : Nat) (data : List Byte) (hm : Nat.land 16648466 m = 16648466) (h : Kept m r s) : Kept m r (State.writeRecalled s g data) := by
  unfold State.writeRecalled
  with_reducible repeat' (first | assumption | exact Kept.sub hm rfl | exact Kept.refl _ _ | refine KeptRes.next ?_ | refine Kept.cond ?_ ?_ | refine KeptRes.cond ?_ ?_ | refine KeptP.cond ?_ ?_ | apply State.accessAs_keeps | apply State.serving_keeps | apply State.writeGranule_keeps | refine Kept.foldl ?_ ?_ | intro _ | refine KeptP.foldl ?_ ?_ | refine KeptP.of_eq (by assumption) ?_ | dsimp only | split | dsimp only | refine KeptP.fst ?_ | refine KeptP.mk ?_ | fail_if_no_progress (refine Kept.upd ?_ (by rfl) (by intro p hp; cases p <;> first | rfl | exact (Kept.no hm hp (by decide)).elim)))
theorem State.advanceTxn_keeps {m : Nat} {r : State} (s : State) (g : Nat) (hm : Nat.land 16771474 m = 16771474) (h : Kept m r s) : Kept m r (State.advanceTxn s g) := by
  unfold State.advanceTxn
  with_reducible repeat' (first | assumption | exact Kept.sub hm rfl | exact Kept.refl _ _ | refine KeptRes.next ?_ | refine Kept.cond ?_ ?_ | refine KeptRes.cond ?_ ?_ | refine KeptP.cond ?_ ?_ | apply State.endJournalWait_keeps | apply State.performReq_keeps | apply State.waitJournal_keeps | refine Kept.foldl ?_ ?_ | intro _ | refine KeptP.foldl ?_ ?_ | refine KeptP.of_eq (by assumption) ?_ | dsimp only | split | dsimp only | refine KeptP.fst ?_ | refine KeptP.mk ?_ | fail_if_no_progress (refine Kept.upd ?_ (by rfl) (by intro p hp; cases p <;> first | rfl | exact (Kept.no hm hp (by decide)).elim)))
theorem State.launchTxn_keeps {m : Nat} {r : State} (s : State) (x1 : CohReq) (hm : Nat.land 16771474 m = 16771474) (h : Kept m r s) : Kept m r (State.launchTxn s x1) := by
  unfold State.launchTxn
  with_reducible repeat' (first | assumption | exact Kept.sub hm rfl | exact Kept.refl _ _ | refine KeptRes.next ?_ | refine Kept.cond ?_ ?_ | refine KeptRes.cond ?_ ?_ | refine KeptP.cond ?_ ?_ | apply State.advanceTxn_keeps | apply State.sendInv_keeps | refine Kept.foldl ?_ ?_ | intro _ | refine KeptP.foldl ?_ ?_ | refine KeptP.of_eq (by assumption) ?_ | dsimp only | split | dsimp only | refine KeptP.fst ?_ | refine KeptP.mk ?_ | fail_if_no_progress (refine Kept.upd ?_ (by rfl) (by intro p hp; cases p <;> first | rfl | exact (Kept.no hm hp (by decide)).elim)))
theorem State.beginTxn_keeps {m : Nat} {r : State} (s : State) (x1 : CohReq) (hm : Nat.land 16771474 m = 16771474) (h : Kept m r s) : KeptP m r (State.beginTxn s x1) := by
  unfold State.beginTxn
  with_reducible repeat' (first | assumption | exact Kept.sub hm rfl | exact Kept.refl _ _ | refine KeptRes.next ?_ | refine Kept.cond ?_ ?_ | refine KeptRes.cond ?_ ?_ | refine KeptP.cond ?_ ?_ | apply State.launchTxn_keeps | apply State.reclaimOwned_keeps | refine Kept.foldl ?_ ?_ | intro _ | refine KeptP.foldl ?_ ?_ | refine KeptP.of_eq (by assumption) ?_ | dsimp only | split | dsimp only | refine KeptP.fst ?_ | refine KeptP.mk ?_ | fail_if_no_progress (refine Kept.upd ?_ (by rfl) (by intro p hp; cases p <;> first | rfl | exact (Kept.no hm hp (by decide)).elim)))
theorem State.submitReq_keeps {m : Nat} {r : State} (s : State) (x1 : CohReq) (hm : Nat.land 16771474 m = 16771474) (h : Kept m r s) : Kept m r (State.submitReq s x1) := by
  unfold State.submitReq
  with_reducible repeat' (first | assumption | exact Kept.sub hm rfl | exact Kept.refl _ _ | refine KeptRes.next ?_ | refine Kept.cond ?_ ?_ | refine KeptRes.cond ?_ ?_ | refine KeptP.cond ?_ ?_ | apply State.beginTxn_keeps | apply State.count_keeps | refine Kept.foldl ?_ ?_ | intro _ | refine KeptP.foldl ?_ ?_ | refine KeptP.of_eq (by assumption) ?_ | dsimp only | split | dsimp only | refine KeptP.fst ?_ | refine KeptP.mk ?_ | fail_if_no_progress (refine Kept.upd ?_ (by rfl) (by intro p hp; cases p <;> first | rfl | exact (Kept.no hm hp (by decide)).elim)))
theorem State.fetchRun_keeps {m : Nat} {r : State} (s : State) (id : Nat) (first : Nat) (last : Nat) (hm : Nat.land 2359312 m = 2359312) (h : Kept m r s) : Kept m r (State.fetchRun s id first last) := by
  unfold State.fetchRun
  with_reducible repeat' (first | assumption | exact Kept.sub hm rfl | exact Kept.refl _ _ | refine KeptRes.next ?_ | refine Kept.cond ?_ ?_ | refine KeptRes.cond ?_ ?_ | refine KeptP.cond ?_ ?_ | apply State.sendItem_keeps | apply State.twinItem_keeps | refine Kept.foldl ?_ ?_ | intro _ | refine KeptP.foldl ?_ ?_ | refine KeptP.of_eq (by assumption) ?_ | dsimp only | split | dsimp only | refine KeptP.fst ?_ | refine KeptP.mk ?_ | fail_if_no_progress (refine Kept.upd ?_ (by rfl) (by intro p hp; cases p <;> first | rfl | exact (Kept.no hm hp (by decide)).elim)))
theorem State.twinHere_keeps {m : Nat} {r : State} (s : State) (id : Nat) (gs : List Nat) (hm : Nat.land 2359312 m = 2359312) (h : Kept m r s) : Kept m r (State.twinHere s id gs) := by
  unfold State.twinHere
  with_reducible repeat' (first | assumption | exact Kept.sub hm rfl | exact Kept.refl _ _ | refine KeptRes.next ?_ | refine Kept.cond ?_ ?_ | refine KeptRes.cond ?_ ?_ | refine KeptP.cond ?_ ?_ | apply State.emit_keeps | apply State.modEntry_keeps | apply State.sendItem_keeps | refine Kept.foldl ?_ ?_ | intro _ | refine KeptP.foldl ?_ ?_ | refine KeptP.of_eq (by assumption) ?_ | dsimp only | split | dsimp only | refine KeptP.fst ?_ | refine KeptP.mk ?_ | fail_if_no_progress (refine Kept.upd ?_ (by rfl) (by intro p hp; cases p <;> first | rfl | exact (Kept.no hm hp (by decide)).elim)))
theorem State.fetchAnswered_keeps {m : Nat} {r : State} (s : State) (item : Nat) (x : Away) (st : Nat) (sub : Nat) (words : List Nat) (hm : Nat.land 10747920 m = 10747920) (h : Kept m r s) : Kept m r (State.fetchAnswered s item x st sub words) := by
  unfold State.fetchAnswered
  with_reducible repeat' (first | assumption | exact Kept.sub hm rfl | exact Kept.refl _ _ | refine KeptRes.next ?_ | refine Kept.cond ?_ ?_ | refine KeptRes.cond ?_ ?_ | refine KeptP.cond ?_ ?_ | apply State.dropAway_keeps | apply State.emit_keeps | apply State.pokeBytes_keeps | apply State.setEntry_keeps | refine Kept.foldl ?_ ?_ | intro _ | refine KeptP.foldl ?_ ?_ | refine KeptP.of_eq (by assumption) ?_ | dsimp only | split | dsimp only | refine KeptP.fst ?_ | refine KeptP.mk ?_ | fail_if_no_progress (refine Kept.upd ?_ (by rfl) (by intro p hp; cases p <;> first | rfl | exact (Kept.no hm hp (by decide)).elim)))
theorem State.prepare_keeps {m : Nat} {r : State} (s : State) (id : Nat) (reads : List Nat) (writes : List Nat) (hm : Nat.land 16771474 m = 16771474) (h : Kept m r s) : KeptP m r (State.prepare s id reads writes) := by
  unfold State.prepare
  with_reducible repeat' (first | assumption | exact Kept.sub hm rfl | exact Kept.refl _ _ | refine KeptRes.next ?_ | refine Kept.cond ?_ ?_ | refine KeptRes.cond ?_ ?_ | refine KeptP.cond ?_ ?_ | apply State.endJournalWait_keeps | apply State.fetchRun_keeps | apply State.serving_keeps | apply State.submitReq_keeps | apply State.twinHere_keeps | apply State.waitJournal_keeps | refine Kept.foldl ?_ ?_ | intro _ | refine KeptP.foldl ?_ ?_ | refine KeptP.of_eq (by assumption) ?_ | dsimp only | split | dsimp only | refine KeptP.fst ?_ | refine KeptP.mk ?_ | fail_if_no_progress (refine Kept.upd ?_ (by rfl) (by intro p hp; cases p <;> first | rfl | exact (Kept.no hm hp (by decide)).elim)))
theorem State.setGateVal_keeps {m : Nat} {r : State} (s : State) (k : Nat) (v : Nat) (hm : Nat.land 65536 m = 65536) (h : Kept m r s) : Kept m r (State.setGateVal s k v) := by
  unfold State.setGateVal
  with_reducible repeat' (first | assumption | exact Kept.sub hm rfl | exact Kept.refl _ _ | refine KeptRes.next ?_ | refine Kept.cond ?_ ?_ | refine KeptRes.cond ?_ ?_ | refine KeptP.cond ?_ ?_ | refine Kept.foldl ?_ ?_ | intro _ | refine KeptP.foldl ?_ ?_ | refine KeptP.of_eq (by assumption) ?_ | dsimp only | split | dsimp only | refine KeptP.fst ?_ | refine KeptP.mk ?_ | fail_if_no_progress (refine Kept.upd ?_ (by rfl) (by intro p hp; cases p <;> first | rfl | exact (Kept.no hm hp (by decide)).elim)))
theorem State.tellBlock_keeps {m : Nat} {r : State} (s : State) (b : Nat) (hm : Nat.land 2359312 m = 2359312) (h : Kept m r s) : Kept m r (State.tellBlock s b) := by
  unfold State.tellBlock
  with_reducible repeat' (first | assumption | exact Kept.sub hm rfl | exact Kept.refl _ _ | refine KeptRes.next ?_ | refine Kept.cond ?_ ?_ | refine KeptRes.cond ?_ ?_ | refine KeptP.cond ?_ ?_ | apply State.sendServed_keeps | refine Kept.foldl ?_ ?_ | intro _ | refine KeptP.foldl ?_ ?_ | refine KeptP.of_eq (by assumption) ?_ | dsimp only | split | dsimp only | refine KeptP.fst ?_ | refine KeptP.mk ?_ | fail_if_no_progress (refine Kept.upd ?_ (by rfl) (by intro p hp; cases p <;> first | rfl | exact (Kept.no hm hp (by decide)).elim)))
theorem State.putGateBlock_keeps {m : Nat} {r : State} (s : State) (b : Nat) (x : GateBlock) (hm : Nat.land 65536 m = 65536) (h : Kept m r s) : Kept m r (State.putGateBlock s b x) := by
  unfold State.putGateBlock
  with_reducible repeat' (first | assumption | exact Kept.sub hm rfl | exact Kept.refl _ _ | refine KeptRes.next ?_ | refine Kept.cond ?_ ?_ | refine KeptRes.cond ?_ ?_ | refine KeptP.cond ?_ ?_ | refine Kept.foldl ?_ ?_ | intro _ | refine KeptP.foldl ?_ ?_ | refine KeptP.of_eq (by assumption) ?_ | dsimp only | split | dsimp only | refine KeptP.fst ?_ | refine KeptP.mk ?_ | fail_if_no_progress (refine Kept.upd ?_ (by rfl) (by intro p hp; cases p <;> first | rfl | exact (Kept.no hm hp (by decide)).elim)))
theorem State.setGateBlock_keeps {m : Nat} {r : State} (s : State) (b : Nat) (x : GateBlock) (hm : Nat.land 2424848 m = 2424848) (h : Kept m r s) : Kept m r (State.setGateBlock s b x) := by
  unfold State.setGateBlock
  with_reducible repeat' (first | assumption | exact Kept.sub hm rfl | exact Kept.refl _ _ | refine KeptRes.next ?_ | refine Kept.cond ?_ ?_ | refine KeptRes.cond ?_ ?_ | refine KeptP.cond ?_ ?_ | apply State.putGateBlock_keeps | apply State.tellBlock_keeps | refine Kept.foldl ?_ ?_ | intro _ | refine KeptP.foldl ?_ ?_ | refine KeptP.of_eq (by assumption) ?_ | dsimp only | split | dsimp only | refine KeptP.fst ?_ | refine KeptP.mk ?_ | fail_if_no_progress (refine Kept.upd ?_ (by rfl) (by intro p hp; cases p <;> first | rfl | exact (Kept.no hm hp (by decide)).elim)))
theorem State.checkGate_keeps {m : Nat} {r : State} (s : State) (k : Nat) (hm : Nat.land 5439514 m = 5439514) (h : Kept m r s) : Kept m r (State.checkGate s k) := by
  unfold State.checkGate
  with_reducible repeat' (first | assumption | exact Kept.sub hm rfl | exact Kept.refl _ _ | refine KeptRes.next ?_ | refine Kept.cond ?_ ?_ | refine KeptRes.cond ?_ ?_ | refine KeptP.cond ?_ ?_ | apply State.corrected_keeps | apply State.setGateVal_keeps | apply State.tickFresh_keeps | refine Kept.foldl ?_ ?_ | intro _ | refine KeptP.foldl ?_ ?_ | refine KeptP.of_eq (by assumption) ?_ | dsimp only | split | dsimp only | refine KeptP.fst ?_ | refine KeptP.mk ?_ | fail_if_no_progress (refine Kept.upd ?_ (by rfl) (by intro p hp; cases p <;> first | rfl | exact (Kept.no hm hp (by decide)).elim)))
theorem State.endWait_keeps {m : Nat} {r : State} (s : State) (w : Waiter) (st : Nat) (sub : Nat) (value : Nat) (hm : Nat.land 2359312 m = 2359312) (h : Kept m r s) : Kept m r (State.endWait s w st sub value) := by
  unfold State.endWait
  with_reducible repeat' (first | assumption | exact Kept.sub hm rfl | exact Kept.refl _ _ | refine KeptRes.next ?_ | refine Kept.cond ?_ ?_ | refine KeptRes.cond ?_ ?_ | refine KeptP.cond ?_ ?_ | apply State.answerOrigin_keeps | apply State.finish_keeps | refine Kept.foldl ?_ ?_ | intro _ | refine KeptP.foldl ?_ ?_ | refine KeptP.of_eq (by assumption) ?_ | dsimp only | split | dsimp only | refine KeptP.fst ?_ | refine KeptP.mk ?_ | fail_if_no_progress (refine Kept.upd ?_ (by rfl) (by intro p hp; cases p <;> first | rfl | exact (Kept.no hm hp (by decide)).elim)))
theorem State.updateGate_keeps {m : Nat} {r : State} (s : State) (k : Nat) (v : Nat) (hm : Nat.land 2424850 m = 2424850) (h : Kept m r s) : KeptP m r (State.updateGate s k v) := by
  unfold State.updateGate
  with_reducible repeat' (first | assumption | exact Kept.sub hm rfl | exact Kept.refl _ _ | refine KeptRes.next ?_ | refine Kept.cond ?_ ?_ | refine KeptRes.cond ?_ ?_ | refine KeptP.cond ?_ ?_ | apply State.count_keeps | apply State.endWait_keeps | apply State.setGateVal_keeps | refine Kept.foldl ?_ ?_ | intro _ | refine KeptP.foldl ?_ ?_ | refine KeptP.of_eq (by assumption) ?_ | dsimp only | split | dsimp only | refine KeptP.fst ?_ | refine KeptP.mk ?_ | fail_if_no_progress (refine Kept.upd ?_ (by rfl) (by intro p hp; cases p <;> first | rfl | exact (Kept.no hm hp (by decide)).elim)))
theorem State.clearBlock_keeps {m : Nat} {r : State} (s : State) (b : Nat) (hm : Nat.land 6619154 m = 6619154) (h : Kept m r s) : Kept m r (State.clearBlock s b) := by
  unfold State.clearBlock
  with_reducible repeat' (first | assumption | exact Kept.sub hm rfl | exact Kept.refl _ _ | refine KeptRes.next ?_ | refine Kept.cond ?_ ?_ | refine KeptRes.cond ?_ ?_ | refine KeptP.cond ?_ ?_ | apply State.endWait_keeps | apply State.raise_keeps | refine Kept.foldl ?_ ?_ | intro _ | refine KeptP.foldl ?_ ?_ | refine KeptP.of_eq (by assumption) ?_ | dsimp only | split | dsimp only | refine KeptP.fst ?_ | refine KeptP.mk ?_ | fail_if_no_progress (refine Kept.upd ?_ (by rfl) (by intro p hp; cases p <;> first | rfl | exact (Kept.no hm hp (by decide)).elim)))
theorem State.switchBlocks_keeps {m : Nat} {r : State} (s : State) (ctx : Nat) (old : Context) (new : Context) (hm : Nat.land 6619154 m = 6619154) (h : Kept m r s) : Kept m r (State.switchBlocks s ctx old new) := by
  unfold State.switchBlocks
  with_reducible repeat' (first | assumption | exact Kept.sub hm rfl | exact Kept.refl _ _ | refine KeptRes.next ?_ | refine Kept.cond ?_ ?_ | refine KeptRes.cond ?_ ?_ | refine KeptP.cond ?_ ?_ | apply State.clearBlock_keeps | apply State.setGateBlock_keeps | refine Kept.foldl ?_ ?_ | intro _ | refine KeptP.foldl ?_ ?_ | refine KeptP.of_eq (by assumption) ?_ | dsimp only | split | dsimp only | refine KeptP.fst ?_ | refine KeptP.mk ?_ | fail_if_no_progress (refine Kept.upd ?_ (by rfl) (by intro p hp; cases p <;> first | rfl | exact (Kept.no hm hp (by decide)).elim)))
theorem State.watchdogHit_keeps {m : Nat} {r : State} (s : State) (name : Nat) (hm : Nat.land 4194322 m = 4194322) (h : Kept m r s) : Kept m r (State.watchdogHit s name) := by
  unfold State.watchdogHit
  with_reducible repeat' (first | assumption | exact Kept.sub hm rfl | exact Kept.refl _ _ | refine KeptRes.next ?_ | refine Kept.cond ?_ ?_ | refine KeptRes.cond ?_ ?_ | refine KeptP.cond ?_ ?_ | apply State.raise_keeps | apply State.setFld_keeps | refine Kept.foldl ?_ ?_ | intro _ | refine KeptP.foldl ?_ ?_ | refine KeptP.of_eq (by assumption) ?_ | dsimp only | split | dsimp only | refine KeptP.fst ?_ | refine KeptP.mk ?_ | fail_if_no_progress (refine Kept.upd ?_ (by rfl) (by intro p hp; cases p <;> first | rfl | exact (Kept.no hm hp (by decide)).elim)))
theorem State.noteProbe_keeps {m : Nat} {r : State} (s : State) (x : SentProbe) (hm : Nat.land 65536 m = 65536) (h : Kept m r s) : Kept m r (State.noteProbe s x) := by
  unfold State.noteProbe
  with_reducible repeat' (first | assumption | exact Kept.sub hm rfl | exact Kept.refl _ _ | refine KeptRes.next ?_ | refine Kept.cond ?_ ?_ | refine KeptRes.cond ?_ ?_ | refine KeptP.cond ?_ ?_ | refine Kept.foldl ?_ ?_ | intro _ | refine KeptP.foldl ?_ ?_ | refine KeptP.of_eq (by assumption) ?_ | dsimp only | split | dsimp only | refine KeptP.fst ?_ | refine KeptP.mk ?_ | fail_if_no_progress (refine Kept.upd ?_ (by rfl) (by intro p hp; cases p <;> first | rfl | exact (Kept.no hm hp (by decide)).elim)))
theorem State.sendProbe_keeps {m : Nat} {r : State} (s : State) (kind : Nat) (fenceId : Nat) (origin : Nat) (target : Nat) (source : Nat) (pend : Nat) (count : Nat) (hm : Nat.land 81936 m = 81936) (h : Kept m r s) : Kept m r (State.sendProbe s kind fenceId origin target source pend count) := by
  unfold State.sendProbe
  with_reducible repeat' (first | assumption | exact Kept.sub hm rfl | exact Kept.refl _ _ | refine KeptRes.next ?_ | refine Kept.cond ?_ ?_ | refine KeptRes.cond ?_ ?_ | refine KeptP.cond ?_ ?_ | apply State.noteProbe_keeps | apply State.sendMember_keeps | apply State.sendPort_keeps | apply State.waitRoute_keeps | refine Kept.foldl ?_ ?_ | intro _ | refine KeptP.foldl ?_ ?_ | refine KeptP.of_eq (by assumption) ?_ | dsimp only | split | dsimp only | refine KeptP.fst ?_ | refine KeptP.mk ?_ | fail_if_no_progress (refine Kept.upd ?_ (by rfl) (by intro p hp; cases p <;> first | rfl | exact (Kept.no hm hp (by decide)).elim)))
theorem State.rerouteProbes_keeps {m : Nat} {r : State} (s : State) (p : Nat) (hm : Nat.land 4276242 m = 4276242) (h : Kept m r s) : Kept m r (State.rerouteProbes s p) := by
  unfold State.rerouteProbes
  with_reducible repeat' (first | assumption | exact Kept.sub hm rfl | exact Kept.refl _ _ | refine KeptRes.next ?_ | refine Kept.cond ?_ ?_ | refine KeptRes.cond ?_ ?_ | refine KeptP.cond ?_ ?_ | apply State.count_keeps | apply State.noteProbe_keeps | apply State.raise_keeps | apply State.sendPort_keeps | refine Kept.foldl ?_ ?_ | intro _ | refine KeptP.foldl ?_ ?_ | refine KeptP.of_eq (by assumption) ?_ | dsimp only | split | dsimp only | refine KeptP.fst ?_ | refine KeptP.mk ?_ | fail_if_no_progress (refine Kept.upd ?_ (by rfl) (by intro p hp; cases p <;> first | rfl | exact (Kept.no hm hp (by decide)).elim)))
theorem State.probeDest_keeps {m : Nat} {r : State} (s : State) (f : Fence) (d : Nat) (count : Nat) (hm : Nat.land 81936 m = 81936) (h : Kept m r s) : Kept m r (State.probeDest s f d count) := by
  unfold State.probeDest
  with_reducible repeat' (first | assumption | exact Kept.sub hm rfl | exact Kept.refl _ _ | refine KeptRes.next ?_ | refine Kept.cond ?_ ?_ | refine KeptRes.cond ?_ ?_ | refine KeptP.cond ?_ ?_ | apply State.sendProbe_keeps | refine Kept.foldl ?_ ?_ | intro _ | refine KeptP.foldl ?_ ?_ | refine KeptP.of_eq (by assumption) ?_ | dsimp only | split | dsimp only | refine KeptP.fst ?_ | refine KeptP.mk ?_ | fail_if_no_progress (refine Kept.upd ?_ (by rfl) (by intro p hp; cases p <;> first | rfl | exact (Kept.no hm hp (by decide)).elim)))
theorem State.signalGate_keeps {m : Nat} {r : State} (s : State) (id : Nat) (name : Nat) (value : Nat) (comp : Nat) (hm : Nat.land 7798810 m = 7798810) (h : Kept m r s) : KeptP m r (State.signalGate s id name value comp) := by
  unfold State.signalGate
  with_reducible repeat' (first | assumption | exact Kept.sub hm rfl | exact Kept.refl _ _ | refine KeptRes.next ?_ | refine Kept.cond ?_ ?_ | refine KeptRes.cond ?_ ?_ | refine KeptP.cond ?_ ?_ | apply State.checkGate_keeps | apply State.modEntry_keeps | apply State.updateGate_keeps | refine Kept.foldl ?_ ?_ | intro _ | refine KeptP.foldl ?_ ?_ | refine KeptP.of_eq (by assumption) ?_ | dsimp only | split | dsimp only | refine KeptP.fst ?_ | refine KeptP.mk ?_ | fail_if_no_progress (refine Kept.upd ?_ (by rfl) (by intro p hp; cases p <;> first | rfl | exact (Kept.no hm hp (by decide)).elim)))
theorem State.tryFence_keeps {m : Nat} {r : State} (s : State) (id : Nat) (hm : Nat.land 7798810 m = 7798810) (h : Kept m r s) : Kept m r (State.tryFence s id) := by
  unfold State.tryFence
  with_reducible repeat' (first | assumption | exact Kept.sub hm rfl | exact Kept.refl _ _ | refine KeptRes.next ?_ | refine Kept.cond ?_ ?_ | refine KeptRes.cond ?_ ?_ | refine KeptP.cond ?_ ?_ | apply State.conclude_keeps | apply State.finish_keeps | apply State.sendItem_keeps | apply State.signalGate_keeps | refine Kept.foldl ?_ ?_ | intro _ | refine KeptP.foldl ?_ ?_ | refine KeptP.of_eq (by assumption) ?_ | dsimp only | split | dsimp only | refine KeptP.fst ?_ | refine KeptP.mk ?_ | fail_if_no_progress (refine Kept.upd ?_ (by rfl) (by intro p hp; cases p <;> first | rfl | exact (Kept.no hm hp (by decide)).elim)))
theorem State.tryFences_keeps {m : Nat} {r : State} (s : State) (hm : Nat.land 7798810 m = 7798810) (h : Kept m r s) : Kept m r (State.tryFences s) := by
  unfold State.tryFences
  with_reducible repeat' (first | assumption | exact Kept.sub hm rfl | exact Kept.refl _ _ | refine KeptRes.next ?_ | refine Kept.cond ?_ ?_ | refine KeptRes.cond ?_ ?_ | refine KeptP.cond ?_ ?_ | apply State.tryFence_keeps | refine Kept.foldl ?_ ?_ | intro _ | refine KeptP.foldl ?_ ?_ | refine KeptP.of_eq (by assumption) ?_ | dsimp only | split | dsimp only | refine KeptP.fst ?_ | refine KeptP.mk ?_ | fail_if_no_progress (refine Kept.upd ?_ (by rfl) (by intro p hp; cases p <;> first | rfl | exact (Kept.no hm hp (by decide)).elim)))
theorem State.ackFence_keeps {m : Nat} {r : State} (s : State) (fenceId : Nat) (target : Nat) (count : Nat) (hm : Nat.land 7798810 m = 7798810) (h : Kept m r s) : Kept m r (State.ackFence s fenceId target count) := by
  unfold State.ackFence
  with_reducible repeat' (first | assumption | exact Kept.sub hm rfl | exact Kept.refl _ _ | refine KeptRes.next ?_ | refine Kept.cond ?_ ?_ | refine KeptRes.cond ?_ ?_ | refine KeptP.cond ?_ ?_ | apply State.count_keeps | apply State.tryFence_keeps | refine Kept.foldl ?_ ?_ | intro _ | refine KeptP.foldl ?_ ?_ | refine KeptP.of_eq (by assumption) ?_ | dsimp only | split | dsimp only | refine KeptP.fst ?_ | refine KeptP.mk ?_ | fail_if_no_progress (refine Kept.upd ?_ (by rfl) (by intro p hp; cases p <;> first | rfl | exact (Kept.no hm hp (by decide)).elim)))
theorem State.setRoute_keeps {m : Nat} {r : State} (s : State) (x1 : Nat) (x2 : Route) (hm : Nat.land 16384 m = 16384) (h : Kept m r s) : Kept m r (State.setRoute s x1 x2) := by
  unfold State.setRoute
  with_reducible repeat' (first | assumption | exact Kept.sub hm rfl | exact Kept.refl _ _ | refine KeptRes.next ?_ | refine Kept.cond ?_ ?_ | refine KeptRes.cond ?_ ?_ | refine KeptP.cond ?_ ?_ | refine Kept.foldl ?_ ?_ | intro _ | refine KeptP.foldl ?_ ?_ | refine KeptP.of_eq (by assumption) ?_ | dsimp only | split | dsimp only | refine KeptP.fst ?_ | refine KeptP.mk ?_ | fail_if_no_progress (refine Kept.upd ?_ (by rfl) (by intro p hp; cases p <;> first | rfl | exact (Kept.no hm hp (by decide)).elim)))
theorem State.routesChange_keeps {m : Nat} {r : State} (s : State) (p : Nat) (hm : Nat.land 16384 m = 16384) (h : Kept m r s) : Kept m r (State.routesChange s p) := by
  unfold State.routesChange
  with_reducible repeat' (first | assumption | exact Kept.sub hm rfl | exact Kept.refl _ _ | refine KeptRes.next ?_ | refine Kept.cond ?_ ?_ | refine KeptRes.cond ?_ ?_ | refine KeptP.cond ?_ ?_ | refine Kept.foldl ?_ ?_ | intro _ | refine KeptP.foldl ?_ ?_ | refine KeptP.of_eq (by assumption) ?_ | dsimp only | split | dsimp only | refine KeptP.fst ?_ | refine KeptP.mk ?_ | fail_if_no_progress (refine Kept.upd ?_ (by rfl) (by intro p hp; cases p <;> first | rfl | exact (Kept.no hm hp (by decide)).elim)))
theorem State.portLeaves_keeps {m : Nat} {r : State} (s : State) (p : Nat) (hm : Nat.land 4276242 m = 4276242) (h : Kept m r s) : Kept m r (State.portLeaves s p) := by
  unfold State.portLeaves
  with_reducible repeat' (first | assumption | exact Kept.sub hm rfl | exact Kept.refl _ _ | refine KeptRes.next ?_ | refine Kept.cond ?_ ?_ | refine KeptRes.cond ?_ ?_ | refine KeptP.cond ?_ ?_ | apply State.rerouteProbes_keeps | apply State.routesChange_keeps | refine Kept.foldl ?_ ?_ | intro _ | refine KeptP.foldl ?_ ?_ | refine KeptP.of_eq (by assumption) ?_ | dsimp only | split | dsimp only | refine KeptP.fst ?_ | refine KeptP.mk ?_ | fail_if_no_progress (refine Kept.upd ?_ (by rfl) (by intro p hp; cases p <;> first | rfl | exact (Kept.no hm hp (by decide)).elim)))
theorem State.retryWaiting_keeps {m : Nat} {r : State} (s : State) (hm : Nat.land 16400 m = 16400) (h : Kept m r s) : Kept m r (State.retryWaiting s) := by
  unfold State.retryWaiting
  with_reducible repeat' (first | assumption | exact Kept.sub hm rfl | exact Kept.refl _ _ | refine KeptRes.next ?_ | refine Kept.cond ?_ ?_ | refine KeptRes.cond ?_ ?_ | refine KeptP.cond ?_ ?_ | apply State.sendMember_keeps | apply State.sendPort_keeps | refine Kept.foldl ?_ ?_ | intro _ | refine KeptP.foldl ?_ ?_ | refine KeptP.of_eq (by assumption) ?_ | dsimp only | split | dsimp only | refine KeptP.fst ?_ | refine KeptP.mk ?_ | fail_if_no_progress (refine Kept.upd ?_ (by rfl) (by intro p hp; cases p <;> first | rfl | exact (Kept.no hm hp (by decide)).elim)))
theorem State.resendLost_keeps {m : Nat} {r : State} (s : State) (p : Nat) (hm : Nat.land 16400 m = 16400) (h : Kept m r s) : Kept m r (State.resendLost s p) := by
  unfold State.resendLost
  with_reducible repeat' (first | assumption | exact Kept.sub hm rfl | exact Kept.refl _ _ | refine KeptRes.next ?_ | refine Kept.cond ?_ ?_ | refine KeptRes.cond ?_ ?_ | refine KeptP.cond ?_ ?_ | apply State.retryWaiting_keeps | apply State.sendMember_keeps | apply State.waitRoute_keeps | refine Kept.foldl ?_ ?_ | intro _ | refine KeptP.foldl ?_ ?_ | refine KeptP.of_eq (by assumption) ?_ | dsimp only | split | dsimp only | refine KeptP.fst ?_ | refine KeptP.mk ?_ | fail_if_no_progress (refine Kept.upd ?_ (by rfl) (by intro p hp; cases p <;> first | rfl | exact (Kept.no hm hp (by decide)).elim)))
theorem State.failPort_keeps {m : Nat} {r : State} (s : State) (p : Nat) (code : Nat) (hm : Nat.land 8341522 m = 8341522) (h : Kept m r s) : Kept m r (State.failPort s p code) := by
  unfold State.failPort
  with_reducible repeat' (first | assumption | exact Kept.sub hm rfl | exact Kept.refl _ _ | refine KeptRes.next ?_ | refine Kept.cond ?_ ?_ | refine KeptRes.cond ?_ ?_ | refine KeptP.cond ?_ ?_ | apply State.portLeaves_keeps | apply State.raise_keeps | apply State.resendLost_keeps | apply State.setPort_keeps | apply State.unitOffline_keeps | refine Kept.foldl ?_ ?_ | intro _ | refine KeptP.foldl ?_ ?_ | refine KeptP.of_eq (by assumption) ?_ | dsimp only | split | dsimp only | refine KeptP.fst ?_ | refine KeptP.mk ?_ | fail_if_no_progress (refine Kept.upd ?_ (by rfl) (by intro p hp; cases p <;> first | rfl | exact (Kept.no hm hp (by decide)).elim)))
theorem State.failAttempt_keeps {m : Nat} {r : State} (s : State) (p : Nat) (code : Nat) (hm : Nat.land 8341522 m = 8341522) (h : Kept m r s) : Kept m r (State.failAttempt s p code) := by
  unfold State.failAttempt
  with_reducible repeat' (first | assumption | exact Kept.sub hm rfl | exact Kept.refl _ _ | refine KeptRes.next ?_ | refine Kept.cond ?_ ?_ | refine KeptRes.cond ?_ ?_ | refine KeptP.cond ?_ ?_ | apply State.failPort_keeps | apply State.setPort_keeps | refine Kept.foldl ?_ ?_ | intro _ | refine KeptP.foldl ?_ ?_ | refine KeptP.of_eq (by assumption) ?_ | dsimp only | split | dsimp only | refine KeptP.fst ?_ | refine KeptP.mk ?_ | fail_if_no_progress (refine Kept.upd ?_ (by rfl) (by intro p hp; cases p <;> first | rfl | exact (Kept.no hm hp (by decide)).elim)))
theorem State.detectPort_keeps {m : Nat} {r : State} (s : State) (p : Nat) (hm : Nat.land 147456 m = 147456) (h : Kept m r s) : Kept m r (State.detectPort s p) := by
  unfold State.detectPort
  with_reducible repeat' (first | assumption | exact Kept.sub hm rfl | exact Kept.refl _ _ | refine KeptRes.next ?_ | refine Kept.cond ?_ ?_ | refine KeptRes.cond ?_ ?_ | refine KeptP.cond ?_ ?_ | apply State.setPort_keeps | apply State.setUnit_keeps | refine Kept.foldl ?_ ?_ | intro _ | refine KeptP.foldl ?_ ?_ | refine KeptP.of_eq (by assumption) ?_ | dsimp only | split | dsimp only | refine KeptP.fst ?_ | refine KeptP.mk ?_ | fail_if_no_progress (refine Kept.upd ?_ (by rfl) (by intro p hp; cases p <;> first | rfl | exact (Kept.no hm hp (by decide)).elim)))
theorem State.retrainPort_keeps {m : Nat} {r : State} (s : State) (p : Nat) (hm : Nat.land 5455890 m = 5455890) (h : Kept m r s) : Kept m r (State.retrainPort s p) := by
  unfold State.retrainPort
  with_reducible repeat' (first | assumption | exact Kept.sub hm rfl | exact Kept.refl _ _ | refine KeptRes.next ?_ | refine Kept.cond ?_ ?_ | refine KeptRes.cond ?_ ?_ | refine KeptP.cond ?_ ?_ | apply State.corrected_keeps | apply State.portLeaves_keeps | apply State.raise_keeps | apply State.setPort_keeps | refine Kept.foldl ?_ ?_ | intro _ | refine KeptP.foldl ?_ ?_ | refine KeptP.of_eq (by assumption) ?_ | dsimp only | split | dsimp only | refine KeptP.fst ?_ | refine KeptP.mk ?_ | fail_if_no_progress (refine Kept.upd ?_ (by rfl) (by intro p hp; cases p <;> first | rfl | exact (Kept.no hm hp (by decide)).elim)))
theorem State.activatePort_keeps {m : Nat} {r : State} (s : State) (p : Nat) (hm : Nat.land 16400 m = 16400) (h : Kept m r s) : Kept m r (State.activatePort s p) := by
  unfold State.activatePort
  with_reducible repeat' (first | assumption | exact Kept.sub hm rfl | exact Kept.refl _ _ | refine KeptRes.next ?_ | refine Kept.cond ?_ ?_ | refine KeptRes.cond ?_ ?_ | refine KeptP.cond ?_ ?_ | apply State.retryWaiting_keeps | apply State.routesChange_keeps | apply State.setPort_keeps | refine Kept.foldl ?_ ?_ | intro _ | refine KeptP.foldl ?_ ?_ | refine KeptP.of_eq (by assumption) ?_ | dsimp only | split | dsimp only | refine KeptP.fst ?_ | refine KeptP.mk ?_ | fail_if_no_progress (refine Kept.upd ?_ (by rfl) (by intro p hp; cases p <;> first | rfl | exact (Kept.no hm hp (by decide)).elim)))
theorem State.sendBare_keeps {m : Nat} {r : State} (s : State) (p : Nat) (ftype : Nat) (payload : List Byte) (hm : Nat.land 16400 m = 16400) (h : Kept m r s) : Kept m r (State.sendBare s p ftype payload) := by
  unfold State.sendBare
  with_reducible repeat' (first | assumption | exact Kept.sub hm rfl | exact Kept.refl _ _ | refine KeptRes.next ?_ | refine Kept.cond ?_ ?_ | refine KeptRes.cond ?_ ?_ | refine KeptP.cond ?_ ?_ | apply State.emit_keeps | apply State.setPort_keeps | refine Kept.foldl ?_ ?_ | intro _ | refine KeptP.foldl ?_ ?_ | refine KeptP.of_eq (by assumption) ?_ | dsimp only | split | dsimp only | refine KeptP.fst ?_ | refine KeptP.mk ?_ | fail_if_no_progress (refine Kept.upd ?_ (by rfl) (by intro p hp; cases p <;> first | rfl | exact (Kept.no hm hp (by decide)).elim)))
theorem State.emitData_keeps {m : Nat} {r : State} (s : State) (p : Nat) (x2 : Nat) (pay : List Byte) (hm : Nat.land 4325394 m = 4325394) (h : Kept m r s) : Kept m r (State.emitData s p x2 pay) := by
  unfold State.emitData
  with_reducible repeat' (first | assumption | exact Kept.sub hm rfl | exact Kept.refl _ _ | refine KeptRes.next ?_ | refine Kept.cond ?_ ?_ | refine KeptRes.cond ?_ ?_ | refine KeptP.cond ?_ ?_ | apply State.emit_keeps | apply State.raise_keeps | apply State.setFld_keeps | refine Kept.foldl ?_ ?_ | intro _ | refine KeptP.foldl ?_ ?_ | refine KeptP.of_eq (by assumption) ?_ | dsimp only | split | dsimp only | refine KeptP.fst ?_ | refine KeptP.mk ?_ | fail_if_no_progress (refine Kept.upd ?_ (by rfl) (by intro p hp; cases p <;> first | rfl | exact (Kept.no hm hp (by decide)).elim)))
theorem State.sendTraining_keeps {m : Nat} {r : State} (s : State) (p : Nat) (hm : Nat.land 16408 m = 16408) (h : Kept m r s) : Kept m r (State.sendTraining s p) := by
  unfold State.sendTraining
  with_reducible repeat' (first | assumption | exact Kept.sub hm rfl | exact Kept.refl _ _ | refine KeptRes.next ?_ | refine Kept.cond ?_ ?_ | refine KeptRes.cond ?_ ?_ | refine KeptP.cond ?_ ?_ | apply State.sendBare_keeps | apply State.setPort_keeps | apply State.tickFresh_keeps | refine Kept.foldl ?_ ?_ | intro _ | refine KeptP.foldl ?_ ?_ | refine KeptP.of_eq (by assumption) ?_ | dsimp only | split | dsimp only | refine KeptP.fst ?_ | refine KeptP.mk ?_ | fail_if_no_progress (refine Kept.upd ?_ (by rfl) (by intro p hp; cases p <;> first | rfl | exact (Kept.no hm hp (by decide)).elim)))
theorem State.sendFlit_keeps {m : Nat} {r : State} (s : State) (p : Nat) (may : OutMsg → Bool) (hm : Nat.land 5390354 m = 5390354) (h : Kept m r s) : Kept m r (State.sendFlit s p may) := by
  unfold State.sendFlit
  with_reducible repeat' (first | assumption | exact Kept.sub hm rfl | exact Kept.refl _ _ | refine KeptRes.next ?_ | refine Kept.cond ?_ ?_ | refine KeptRes.cond ?_ ?_ | refine KeptP.cond ?_ ?_ | apply State.emit_keeps | apply State.emitData_keeps | apply State.pulse_keeps | apply State.sendBare_keeps | apply State.setPort_keeps | refine Kept.foldl ?_ ?_ | intro _ | refine KeptP.foldl ?_ ?_ | refine KeptP.of_eq (by assumption) ?_ | dsimp only | split | dsimp only | refine KeptP.fst ?_ | refine KeptP.mk ?_ | fail_if_no_progress (refine Kept.upd ?_ (by rfl) (by intro p hp; cases p <;> first | rfl | exact (Kept.no hm hp (by decide)).elim)))
theorem State.deliver_keeps {m : Nat} {r : State} (s : State) (p : Nat) (payload : List Byte) (cont : Bool) (credit : Bool) (hm : Nat.land 16384 m = 16384) (h : Kept m r s) : Kept m r (State.deliver s p payload cont credit) := by
  unfold State.deliver
  with_reducible repeat' (first | assumption | exact Kept.sub hm rfl | exact Kept.refl _ _ | refine KeptRes.next ?_ | refine Kept.cond ?_ ?_ | refine KeptRes.cond ?_ ?_ | refine KeptP.cond ?_ ?_ | apply State.setPort_keeps | refine Kept.foldl ?_ ?_ | intro _ | refine KeptP.foldl ?_ ?_ | refine KeptP.of_eq (by assumption) ?_ | dsimp only | split | dsimp only | refine KeptP.fst ?_ | refine KeptP.mk ?_ | fail_if_no_progress (refine Kept.upd ?_ (by rfl) (by intro p hp; cases p <;> first | rfl | exact (Kept.no hm hp (by decide)).elim)))
theorem State.takeMsg_keeps {m : Nat} {r : State} (s : State) (p : Nat) (x2 : List Byte) (hm : Nat.land 16384 m = 16384) (h : Kept m r s) : Kept m r (State.takeMsg s p x2) := by
  unfold State.takeMsg
  with_reducible repeat' (first | assumption | exact Kept.sub hm rfl | exact Kept.refl _ _ | refine KeptRes.next ?_ | refine Kept.cond ?_ ?_ | refine KeptRes.cond ?_ ?_ | refine KeptP.cond ?_ ?_ | refine Kept.foldl ?_ ?_ | intro _ | refine KeptP.foldl ?_ ?_ | refine KeptP.of_eq (by assumption) ?_ | dsimp only | split | dsimp only | refine KeptP.fst ?_ | refine KeptP.mk ?_ | fail_if_no_progress (refine Kept.upd ?_ (by rfl) (by intro p hp; cases p <;> first | rfl | exact (Kept.no hm hp (by decide)).elim)))
theorem State.dropFrame_keeps {m : Nat} {r : State} (s : State) (pg : Nat) (t : Tier) (hm : Nat.land 262400 m = 262400) (h : Kept m r s) : Kept m r (State.dropFrame s pg t) := by
  unfold State.dropFrame
  with_reducible repeat' (first | assumption | exact Kept.sub hm rfl | exact Kept.refl _ _ | refine KeptRes.next ?_ | refine Kept.cond ?_ ?_ | refine KeptRes.cond ?_ ?_ | refine KeptP.cond ?_ ?_ | apply State.charge_keeps | apply State.setPage_keeps | apply State.setPool_keeps | refine Kept.foldl ?_ ?_ | intro _ | refine KeptP.foldl ?_ ?_ | refine KeptP.of_eq (by assumption) ?_ | dsimp only | split | dsimp only | refine KeptP.fst ?_ | refine KeptP.mk ?_ | fail_if_no_progress (refine Kept.upd ?_ (by rfl) (by intro p hp; cases p <;> first | rfl | exact (Kept.no hm hp (by decide)).elim)))
theorem State.pinPage_keeps {m : Nat} {r : State} (s : State) (pg : Nat) (hm : Nat.land 256 m = 256) (h : Kept m r s) : KeptP m r (State.pinPage s pg) := by
  unfold State.pinPage
  with_reducible repeat' (first | assumption | exact Kept.sub hm rfl | exact Kept.refl _ _ | refine KeptRes.next ?_ | refine Kept.cond ?_ ?_ | refine KeptRes.cond ?_ ?_ | refine KeptP.cond ?_ ?_ | apply State.setPage_keeps | refine Kept.foldl ?_ ?_ | intro _ | refine KeptP.foldl ?_ ?_ | refine KeptP.of_eq (by assumption) ?_ | dsimp only | split | dsimp only | refine KeptP.fst ?_ | refine KeptP.mk ?_ | fail_if_no_progress (refine Kept.upd ?_ (by rfl) (by intro p hp; cases p <;> first | rfl | exact (Kept.no hm hp (by decide)).elim)))
theorem State.raisePage_keeps {m : Nat} {r : State} (s : State) (pg : Nat) (t : Tier) (hm : Nat.land 5505298 m = 5505298) (h : Kept m r s) : KeptP m r (State.raisePage s pg t) := by
  unfold State.raisePage
  with_reducible repeat' (first | assumption | exact Kept.sub hm rfl | exact Kept.refl _ _ | refine KeptRes.next ?_ | refine Kept.cond ?_ ?_ | refine KeptRes.cond ?_ ?_ | refine KeptP.cond ?_ ?_ | apply State.dropFrame_keeps | apply State.pinPage_keeps | apply State.takeFrame_keeps | refine Kept.foldl ?_ ?_ | intro _ | refine KeptP.foldl ?_ ?_ | refine KeptP.of_eq (by assumption) ?_ | dsimp only | split | dsimp only | refine KeptP.fst ?_ | refine KeptP.mk ?_ | fail_if_no_progress (refine Kept.upd ?_ (by rfl) (by intro p hp; cases p <;> first | rfl | exact (Kept.no hm hp (by decide)).elim)))
theorem State.lowerPage_keeps {m : Nat} {r : State} (s : State) (pg : Nat) (hm : Nat.land 262400 m = 262400) (h : Kept m r s) : Kept m r (State.lowerPage s pg) := by
  unfold State.lowerPage
  with_reducible repeat' (first | assumption | exact Kept.sub hm rfl | exact Kept.refl _ _ | refine KeptRes.next ?_ | refine Kept.cond ?_ ?_ | refine KeptRes.cond ?_ ?_ | refine KeptP.cond ?_ ?_ | apply State.leavePool_keeps | refine Kept.foldl ?_ ?_ | intro _ | refine KeptP.foldl ?_ ?_ | refine KeptP.of_eq (by assumption) ?_ | dsimp only | split | dsimp only | refine KeptP.fst ?_ | refine KeptP.mk ?_ | fail_if_no_progress (refine Kept.upd ?_ (by rfl) (by intro p hp; cases p <;> first | rfl | exact (Kept.no hm hp (by decide)).elim)))
theorem State.programPage_keeps {m : Nat} {r : State} (s : State) (pg : Nat) (hm : Nat.land 258 m = 258) (h : Kept m r s) : Kept m r (State.programPage s pg) := by
  unfold State.programPage
  with_reducible repeat' (first | assumption | exact Kept.sub hm rfl | exact Kept.refl _ _ | refine KeptRes.next ?_ | refine Kept.cond ?_ ?_ | refine KeptRes.cond ?_ ?_ | refine KeptP.cond ?_ ?_ | apply State.programmed_keeps | apply State.setFld_keeps | apply State.setPage_keeps | refine Kept.foldl ?_ ?_ | intro _ | refine KeptP.foldl ?_ ?_ | refine KeptP.of_eq (by assumption) ?_ | dsimp only | split | dsimp only | refine KeptP.fst ?_ | refine KeptP.mk ?_ | fail_if_no_progress (refine Kept.upd ?_ (by rfl) (by intro p hp; cases p <;> first | rfl | exact (Kept.no hm hp (by decide)).elim)))
theorem State.reserveFrames_keeps {m : Nat} {r : State} (s : State) (origin : Nat) (p : Packet) (t : Tier) (n : Nat) (hm : Nat.land 256 m = 256) (h : Kept m r s) : Kept m r (State.reserveFrames s origin p t n) := by
  unfold State.reserveFrames
  with_reducible repeat' (first | assumption | exact Kept.sub hm rfl | exact Kept.refl _ _ | refine KeptRes.next ?_ | refine Kept.cond ?_ ?_ | refine KeptRes.cond ?_ ?_ | refine KeptP.cond ?_ ?_ | refine Kept.foldl ?_ ?_ | intro _ | refine KeptP.foldl ?_ ?_ | refine KeptP.of_eq (by assumption) ?_ | dsimp only | split | dsimp only | refine KeptP.fst ?_ | refine KeptP.mk ?_ | fail_if_no_progress (refine Kept.upd ?_ (by rfl) (by intro p hp; cases p <;> first | rfl | exact (Kept.no hm hp (by decide)).elim)))
theorem State.unreserve_keeps {m : Nat} {r : State} (s : State) (origin : Nat) (p : Packet) (hm : Nat.land 256 m = 256) (h : Kept m r s) : Kept m r (State.unreserve s origin p) := by
  unfold State.unreserve
  with_reducible repeat' (first | assumption | exact Kept.sub hm rfl | exact Kept.refl _ _ | refine KeptRes.next ?_ | refine Kept.cond ?_ ?_ | refine KeptRes.cond ?_ ?_ | refine KeptP.cond ?_ ?_ | refine Kept.foldl ?_ ?_ | intro _ | refine KeptP.foldl ?_ ?_ | refine KeptP.of_eq (by assumption) ?_ | dsimp only | split | dsimp only | refine KeptP.fst ?_ | refine KeptP.mk ?_ | fail_if_no_progress (refine Kept.upd ?_ (by rfl) (by intro p hp; cases p <;> first | rfl | exact (Kept.no hm hp (by decide)).elim)))
theorem State.reserveAll_keeps {m : Nat} {r : State} (s : State) (id : Nat) (e : Entry) (t : Tier) (n : Nat) (hm : Nat.land 2359568 m = 2359568) (h : Kept m r s) : Kept m r (State.reserveAll s id e t n) := by
  unfold State.reserveAll
  with_reducible repeat' (first | assumption | exact Kept.sub hm rfl | exact Kept.refl _ _ | refine KeptRes.next ?_ | refine Kept.cond ?_ ?_ | refine KeptRes.cond ?_ ?_ | refine KeptP.cond ?_ ?_ | apply State.modEntry_keeps | apply State.reserveFrames_keeps | apply State.sendItem_keeps | refine Kept.foldl ?_ ?_ | intro _ | refine KeptP.foldl ?_ ?_ | refine KeptP.of_eq (by assumption) ?_ | dsimp only | split | dsimp only | refine KeptP.fst ?_ | refine KeptP.mk ?_ | fail_if_no_progress (refine Kept.upd ?_ (by rfl) (by intro p hp; cases p <;> first | rfl | exact (Kept.no hm hp (by decide)).elim)))
theorem State.releaseAll_keeps {m : Nat} {r : State} (s : State) (p : Packet) (hm : Nat.land 2359568 m = 2359568) (h : Kept m r s) : Kept m r (State.releaseAll s p) := by
  unfold State.releaseAll
  with_reducible repeat' (first | assumption | exact Kept.sub hm rfl | exact Kept.refl _ _ | refine KeptRes.next ?_ | refine Kept.cond ?_ ?_ | refine KeptRes.cond ?_ ?_ | refine KeptP.cond ?_ ?_ | apply State.sendItem_keeps | apply State.unreserve_keeps | refine Kept.foldl ?_ ?_ | intro _ | refine KeptP.foldl ?_ ?_ | refine KeptP.of_eq (by assumption) ?_ | dsimp only | split | dsimp only | refine KeptP.fst ?_ | refine KeptP.mk ?_ | fail_if_no_progress (refine Kept.upd ?_ (by rfl) (by intro p hp; cases p <;> first | rfl | exact (Kept.no hm hp (by decide)).elim)))
theorem State.beginSeal_keeps {m : Nat} {r : State} (s : State) (id : Nat) (p : Packet) (hm : Nat.land 2097408 m = 2097408) (h : Kept m r s) : Kept m r (State.beginSeal s id p) := by
  unfold State.beginSeal
  with_reducible repeat' (first | assumption | exact Kept.sub hm rfl | exact Kept.refl _ _ | refine KeptRes.next ?_ | refine Kept.cond ?_ ?_ | refine KeptRes.cond ?_ ?_ | refine KeptP.cond ?_ ?_ | apply State.modEntry_keeps | apply State.setSlab_keeps | refine Kept.foldl ?_ ?_ | intro _ | refine KeptP.foldl ?_ ?_ | refine KeptP.of_eq (by assumption) ?_ | dsimp only | split | dsimp only | refine KeptP.fst ?_ | refine KeptP.mk ?_ | fail_if_no_progress (refine Kept.upd ?_ (by rfl) (by intro p hp; cases p <;> first | rfl | exact (Kept.no hm hp (by decide)).elim)))
theorem State.setTraining_keeps {m : Nat} {r : State} (s : State) (kind : Nat) (x2 : Nat) (x : Training) (hm : Nat.land 256 m = 256) (h : Kept m r s) : Kept m r (State.setTraining s kind x2 x) := by
  unfold State.setTraining
  with_reducible repeat' (first | assumption | exact Kept.sub hm rfl | exact Kept.refl _ _ | refine KeptRes.next ?_ | refine Kept.cond ?_ ?_ | refine KeptRes.cond ?_ ?_ | refine KeptP.cond ?_ ?_ | refine Kept.foldl ?_ ?_ | intro _ | refine KeptP.foldl ?_ ?_ | refine KeptP.of_eq (by assumption) ?_ | dsimp only | split | dsimp only | refine KeptP.fst ?_ | refine KeptP.mk ?_ | fail_if_no_progress (refine Kept.upd ?_ (by rfl) (by intro p hp; cases p <;> first | rfl | exact (Kept.no hm hp (by decide)).elim)))
theorem State.retrainStep_keeps {m : Nat} {r : State} (s : State) (kind : Nat) (x2 : Nat) (hm : Nat.land 4194578 m = 4194578) (h : Kept m r s) : Kept m r (State.retrainStep s kind x2) := by
  unfold State.retrainStep
  with_reducible repeat' (first | assumption | exact Kept.sub hm rfl | exact Kept.refl _ _ | refine KeptRes.next ?_ | refine Kept.cond ?_ ?_ | refine KeptRes.cond ?_ ?_ | refine KeptP.cond ?_ ?_ | apply State.raise_keeps | apply State.setTraining_keeps | refine Kept.foldl ?_ ?_ | intro _ | refine KeptP.foldl ?_ ?_ | refine KeptP.of_eq (by assumption) ?_ | dsimp only | split | dsimp only | refine KeptP.fst ?_ | refine KeptP.mk ?_ | fail_if_no_progress (refine Kept.upd ?_ (by rfl) (by intro p hp; cases p <;> first | rfl | exact (Kept.no hm hp (by decide)).elim)))
theorem State.retrain_keeps {m : Nat} {r : State} (s : State) (kind : Nat) (x2 : Nat) (hm : Nat.land 256 m = 256) (h : Kept m r s) : Kept m r (State.retrain s kind x2) := by
  unfold State.retrain
  with_reducible repeat' (first | assumption | exact Kept.sub hm rfl | exact Kept.refl _ _ | refine KeptRes.next ?_ | refine Kept.cond ?_ ?_ | refine KeptRes.cond ?_ ?_ | refine KeptP.cond ?_ ?_ | apply State.setTraining_keeps | refine Kept.foldl ?_ ?_ | intro _ | refine KeptP.foldl ?_ ?_ | refine KeptP.of_eq (by assumption) ?_ | dsimp only | split | dsimp only | refine KeptP.fst ?_ | refine KeptP.mk ?_ | fail_if_no_progress (refine Kept.upd ?_ (by rfl) (by intro p hp; cases p <;> first | rfl | exact (Kept.no hm hp (by decide)).elim)))
theorem State.checkpoint_keeps {m : Nat} {r : State} (s : State) (hm : Nat.land 256 m = 256) (h : Kept m r s) : Kept m r (State.checkpoint s) := by
  unfold State.checkpoint
  with_reducible repeat' (first | assumption | exact Kept.sub hm rfl | exact Kept.refl _ _ | refine KeptRes.next ?_ | refine Kept.cond ?_ ?_ | refine KeptRes.cond ?_ ?_ | refine KeptP.cond ?_ ?_ | refine Kept.foldl ?_ ?_ | intro _ | refine KeptP.foldl ?_ ?_ | refine KeptP.of_eq (by assumption) ?_ | dsimp only | split | dsimp only | refine KeptP.fst ?_ | refine KeptP.mk ?_ | fail_if_no_progress (refine Kept.upd ?_ (by rfl) (by intro p hp; cases p <;> first | rfl | exact (Kept.no hm hp (by decide)).elim)))
theorem State.writeBackAll_keeps {m : Nat} {r : State} (s : State) (hm : Nat.land 258 m = 258) (h : Kept m r s) : Kept m r (State.writeBackAll s) := by
  unfold State.writeBackAll
  with_reducible repeat' (first | assumption | exact Kept.sub hm rfl | exact Kept.refl _ _ | refine KeptRes.next ?_ | refine Kept.cond ?_ ?_ | refine KeptRes.cond ?_ ?_ | refine KeptP.cond ?_ ?_ | apply State.programPage_keeps | refine Kept.foldl ?_ ?_ | intro _ | refine KeptP.foldl ?_ ?_ | refine KeptP.of_eq (by assumption) ?_ | dsimp only | split | dsimp only | refine KeptP.fst ?_ | refine KeptP.mk ?_ | fail_if_no_progress (refine Kept.upd ?_ (by rfl) (by intro p hp; cases p <;> first | rfl | exact (Kept.no hm hp (by decide)).elim)))
theorem State.setPower_keeps {m : Nat} {r : State} (s : State) (p : Power) (hm : Nat.land 5767186 m = 5767186) (h : Kept m r s) : Kept m r (State.setPower s p) := by
  unfold State.setPower
  with_reducible repeat' (first | assumption | exact Kept.sub hm rfl | exact Kept.refl _ _ | refine KeptRes.next ?_ | refine Kept.cond ?_ ?_ | refine KeptRes.cond ?_ ?_ | refine KeptP.cond ?_ ?_ | apply State.raise_keeps | apply State.tellSensors_keeps | refine Kept.foldl ?_ ?_ | intro _ | refine KeptP.foldl ?_ ?_ | refine KeptP.of_eq (by assumption) ?_ | dsimp only | split | dsimp only | refine KeptP.fst ?_ | refine KeptP.mk ?_ | fail_if_no_progress (refine Kept.upd ?_ (by rfl) (by intro p hp; cases p <;> first | rfl | exact (Kept.no hm hp (by decide)).elim)))
theorem State.wake_keeps {m : Nat} {r : State} (s : State) (hm : Nat.land 5767442 m = 5767442) (h : Kept m r s) : Kept m r (State.wake s) := by
  unfold State.wake
  with_reducible repeat' (first | assumption | exact Kept.sub hm rfl | exact Kept.refl _ _ | refine KeptRes.next ?_ | refine Kept.cond ?_ ?_ | refine KeptRes.cond ?_ ?_ | refine KeptP.cond ?_ ?_ | apply State.retrain_keeps | apply State.setPower_keeps | refine Kept.foldl ?_ ?_ | intro _ | refine KeptP.foldl ?_ ?_ | refine KeptP.of_eq (by assumption) ?_ | dsimp only | split | dsimp only | refine KeptP.fst ?_ | refine KeptP.mk ?_ | fail_if_no_progress (refine Kept.upd ?_ (by rfl) (by intro p hp; cases p <;> first | rfl | exact (Kept.no hm hp (by decide)).elim)))
theorem State.countSent_keeps {m : Nat} {r : State} (s : State) (k : RawKind) (src : Nat) (dst : Nat) (hm : Nat.land 65536 m = 65536) (h : Kept m r s) : Kept m r (State.countSent s k src dst) := by
  unfold State.countSent
  with_reducible repeat' (first | assumption | exact Kept.sub hm rfl | exact Kept.refl _ _ | refine KeptRes.next ?_ | refine Kept.cond ?_ ?_ | refine KeptRes.cond ?_ ?_ | refine KeptP.cond ?_ ?_ | refine Kept.foldl ?_ ?_ | intro _ | refine KeptP.foldl ?_ ?_ | refine KeptP.of_eq (by assumption) ?_ | dsimp only | split | dsimp only | refine KeptP.fst ?_ | refine KeptP.mk ?_ | fail_if_no_progress (refine Kept.upd ?_ (by rfl) (by intro p hp; cases p <;> first | rfl | exact (Kept.no hm hp (by decide)).elim)))
theorem State.routeRaw_keeps {m : Nat} {r : State} (s : State) (k : RawKind) (x2 : List Byte) (x3 : CohReq) (hm : Nat.land 16771474 m = 16771474) (h : Kept m r s) : Kept m r (State.routeRaw s k x2 x3) := by
  unfold State.routeRaw
  with_reducible repeat' (first | assumption | exact Kept.sub hm rfl | exact Kept.refl _ _ | refine KeptRes.next ?_ | refine Kept.cond ?_ ?_ | refine KeptRes.cond ?_ ?_ | refine KeptP.cond ?_ ?_ | apply State.advanceTxn_keeps | apply State.count_keeps | apply State.countSent_keeps | apply State.respond_keeps | apply State.sendMember_keeps | apply State.submitReq_keeps | apply State.waitRoute_keeps | apply State.writeRecalled_keeps | refine Kept.foldl ?_ ?_ | intro _ | refine KeptP.foldl ?_ ?_ | refine KeptP.of_eq (by assumption) ?_ | dsimp only | split | dsimp only | refine KeptP.fst ?_ | refine KeptP.mk ?_ | fail_if_no_progress (refine Kept.upd ?_ (by rfl) (by intro p hp; cases p <;> first | rfl | exact (Kept.no hm hp (by decide)).elim)))
theorem State.refuseRaw_keeps {m : Nat} {r : State} (s : State) (p : Nat) (x2 : List Byte) (st : Nat) (sub : Nat) (hm : Nat.land 16400 m = 16400) (h : Kept m r s) : Kept m r (State.refuseRaw s p x2 st sub) := by
  unfold State.refuseRaw
  with_reducible repeat' (first | assumption | exact Kept.sub hm rfl | exact Kept.refl _ _ | refine KeptRes.next ?_ | refine Kept.cond ?_ ?_ | refine KeptRes.cond ?_ ?_ | refine KeptP.cond ?_ ?_ | apply State.sendPort_keeps | refine Kept.foldl ?_ ?_ | intro _ | refine KeptP.foldl ?_ ?_ | refine KeptP.of_eq (by assumption) ?_ | dsimp only | split | dsimp only | refine KeptP.fst ?_ | refine KeptP.mk ?_ | fail_if_no_progress (refine Kept.upd ?_ (by rfl) (by intro p hp; cases p <;> first | rfl | exact (Kept.no hm hp (by decide)).elim)))
theorem State.recvEndpoint_keeps {m : Nat} {r : State} (s : State) (k : RawKind) (p : Nat) (x3 : List Byte) (hm : Nat.land 16771474 m = 16771474) (h : Kept m r s) : Kept m r (State.recvEndpoint s k p x3) := by
  unfold State.recvEndpoint
  with_reducible repeat' (first | assumption | exact Kept.sub hm rfl | exact Kept.refl _ _ | refine KeptRes.next ?_ | refine Kept.cond ?_ ?_ | refine KeptRes.cond ?_ ?_ | refine KeptP.cond ?_ ?_ | apply State.countSent_keeps | apply State.msgBad_keeps | apply State.raise_keeps | apply State.refuseRaw_keeps | apply State.routeRaw_keeps | apply State.sendEndpoint_keeps | apply State.sendPort_keeps | apply State.setPort_keeps | apply State.waitRoute_keeps | refine Kept.foldl ?_ ?_ | intro _ | refine KeptP.foldl ?_ ?_ | refine KeptP.of_eq (by assumption) ?_ | dsimp only | split | dsimp only | refine KeptP.fst ?_ | refine KeptP.mk ?_ | fail_if_no_progress (refine Kept.upd ?_ (by rfl) (by intro p hp; cases p <;> first | rfl | exact (Kept.no hm hp (by decide)).elim)))
theorem State.recvMember_keeps {m : Nat} {r : State} (s : State) (k : RawKind) (p : Nat) (x3 : List Byte) (hm : Nat.land 16771474 m = 16771474) (h : Kept m r s) : Kept m r (State.recvMember s k p x3) := by
  unfold State.recvMember
  with_reducible repeat' (first | assumption | exact Kept.sub hm rfl | exact Kept.refl _ _ | refine KeptRes.next ?_ | refine Kept.cond ?_ ?_ | refine KeptRes.cond ?_ ?_ | refine KeptP.cond ?_ ?_ | apply State.respond_keeps | apply State.routeRaw_keeps | refine Kept.foldl ?_ ?_ | intro _ | refine KeptP.foldl ?_ ?_ | refine KeptP.of_eq (by assumption) ?_ | dsimp only | split | dsimp only | refine KeptP.fst ?_ | refine KeptP.mk ?_ | fail_if_no_progress (refine Kept.upd ?_ (by rfl) (by intro p hp; cases p <;> first | rfl | exact (Kept.no hm hp (by decide)).elim)))
theorem State.recvRaw_keeps {m : Nat} {r : State} (s : State) (k : RawKind) (p : Nat) (x3 : List Byte) (hm : Nat.land 16771474 m = 16771474) (h : Kept m r s) : Kept m r (State.recvRaw s k p x3) := by
  unfold State.recvRaw
  with_reducible repeat' (first | assumption | exact Kept.sub hm rfl | exact Kept.refl _ _ | refine KeptRes.next ?_ | refine Kept.cond ?_ ?_ | refine KeptRes.cond ?_ ?_ | refine KeptP.cond ?_ ?_ | apply State.recvEndpoint_keeps | apply State.recvMember_keeps | apply State.wake_keeps | refine Kept.foldl ?_ ?_ | intro _ | refine KeptP.foldl ?_ ?_ | refine KeptP.of_eq (by assumption) ?_ | dsimp only | split | dsimp only | refine KeptP.fst ?_ | refine KeptP.mk ?_ | fail_if_no_progress (refine Kept.upd ?_ (by rfl) (by intro p hp; cases p <;> first | rfl | exact (Kept.no hm hp (by decide)).elim)))
theorem execRd_keeps {m : Nat} {r : State} (port : Nat) (msg : List Byte) (s : State) (hm : Nat.land 16771474 m = 16771474) (h : Kept m r s) : KeptRes m r (execRd port msg s) := by
  unfold execRd
  with_reducible repeat' (first | assumption | exact Kept.sub hm rfl | exact Kept.refl _ _ | refine KeptRes.next ?_ | refine Kept.cond ?_ ?_ | refine KeptRes.cond ?_ ?_ | refine KeptP.cond ?_ ?_ | apply State.recvRaw_keeps | refine Kept.foldl ?_ ?_ | intro _ | refine KeptP.foldl ?_ ?_ | refine KeptP.of_eq (by assumption) ?_ | dsimp only | split | dsimp only | refine KeptP.fst ?_ | refine KeptP.mk ?_ | fail_if_no_progress (refine Kept.upd ?_ (by rfl) (by intro p hp; cases p <;> first | rfl | exact (Kept.no hm hp (by decide)).elim)))
theorem execRdOwn_keeps {m : Nat} {r : State} (port : Nat) (msg : List Byte) (s : State) (hm : Nat.land 16771474 m = 16771474) (h : Kept m r s) : KeptRes m r (execRdOwn port msg s) := by
  unfold execRdOwn
  with_reducible repeat' (first | assumption | exact Kept.sub hm rfl | exact Kept.refl _ _ | refine KeptRes.next ?_ | refine Kept.cond ?_ ?_ | refine KeptRes.cond ?_ ?_ | refine KeptP.cond ?_ ?_ | apply State.recvRaw_keeps | refine Kept.foldl ?_ ?_ | intro _ | refine KeptP.foldl ?_ ?_ | refine KeptP.of_eq (by assumption) ?_ | dsimp only | split | dsimp only | refine KeptP.fst ?_ | refine KeptP.mk ?_ | fail_if_no_progress (refine Kept.upd ?_ (by rfl) (by intro p hp; cases p <;> first | rfl | exact (Kept.no hm hp (by decide)).elim)))
theorem execWr_keeps {m : Nat} {r : State} (port : Nat) (msg : List Byte) (s : State) (hm : Nat.land 16771474 m = 16771474) (h : Kept m r s) : KeptRes m r (execWr port msg s) := by
  unfold execWr
  with_reducible repeat' (first | assumption | exact Kept.sub hm rfl | exact Kept.refl _ _ | refine KeptRes.next ?_ | refine Kept.cond ?_ ?_ | refine KeptRes.cond ?_ ?_ | refine KeptP.cond ?_ ?_ | apply State.recvRaw_keeps | refine Kept.foldl ?_ ?_ | intro _ | refine KeptP.foldl ?_ ?_ | refine KeptP.of_eq (by assumption) ?_ | dsimp only | split | dsimp only | refine KeptP.fst ?_ | refine KeptP.mk ?_ | fail_if_no_progress (refine Kept.upd ?_ (by rfl) (by intro p hp; cases p <;> first | rfl | exact (Kept.no hm hp (by decide)).elim)))
theorem execWrp_keeps {m : Nat} {r : State} (port : Nat) (msg : List Byte) (s : State) (hm : Nat.land 16771474 m = 16771474) (h : Kept m r s) : KeptRes m r (execWrp port msg s) := by
  unfold execWrp
  with_reducible repeat' (first | assumption | exact Kept.sub hm rfl | exact Kept.refl _ _ | refine KeptRes.next ?_ | refine Kept.cond ?_ ?_ | refine KeptRes.cond ?_ ?_ | refine KeptP.cond ?_ ?_ | apply State.recvRaw_keeps | refine Kept.foldl ?_ ?_ | intro _ | refine KeptP.foldl ?_ ?_ | refine KeptP.of_eq (by assumption) ?_ | dsimp only | split | dsimp only | refine KeptP.fst ?_ | refine KeptP.mk ?_ | fail_if_no_progress (refine Kept.upd ?_ (by rfl) (by intro p hp; cases p <;> first | rfl | exact (Kept.no hm hp (by decide)).elim)))
theorem execAtom_keeps {m : Nat} {r : State} (port : Nat) (msg : List Byte) (s : State) (hm : Nat.land 16771474 m = 16771474) (h : Kept m r s) : KeptRes m r (execAtom port msg s) := by
  unfold execAtom
  with_reducible repeat' (first | assumption | exact Kept.sub hm rfl | exact Kept.refl _ _ | refine KeptRes.next ?_ | refine Kept.cond ?_ ?_ | refine KeptRes.cond ?_ ?_ | refine KeptP.cond ?_ ?_ | apply State.recvRaw_keeps | refine Kept.foldl ?_ ?_ | intro _ | refine KeptP.foldl ?_ ?_ | refine KeptP.of_eq (by assumption) ?_ | dsimp only | split | dsimp only | refine KeptP.fst ?_ | refine KeptP.mk ?_ | fail_if_no_progress (refine Kept.upd ?_ (by rfl) (by intro p hp; cases p <;> first | rfl | exact (Kept.no hm hp (by decide)).elim)))
theorem execInv_keeps {m : Nat} {r : State} (port : Nat) (msg : List Byte) (s : State) (hm : Nat.land 16400 m = 16400) (h : Kept m r s) : KeptRes m r (execInv port msg s) := by
  unfold execInv
  with_reducible repeat' (first | assumption | exact Kept.sub hm rfl | exact Kept.refl _ _ | refine KeptRes.next ?_ | refine Kept.cond ?_ ?_ | refine KeptRes.cond ?_ ?_ | refine KeptP.cond ?_ ?_ | apply State.sendEndpoint_keeps | refine Kept.foldl ?_ ?_ | intro _ | refine KeptP.foldl ?_ ?_ | refine KeptP.of_eq (by assumption) ?_ | dsimp only | split | dsimp only | refine KeptP.fst ?_ | refine KeptP.mk ?_ | fail_if_no_progress (refine Kept.upd ?_ (by rfl) (by intro p hp; cases p <;> first | rfl | exact (Kept.no hm hp (by decide)).elim)))
theorem State.answerInv_keeps {m : Nat} {r : State} (s : State) (p : Nat) (g : Nat) (index : Option Nat) (notHeld : Bool) (data : Option (List Byte)) (hm : Nat.land 16771474 m = 16771474) (h : Kept m r s) : Kept m r (State.answerInv s p g index notHeld data) := by
  unfold State.answerInv
  with_reducible repeat' (first | assumption | exact Kept.sub hm rfl | exact Kept.refl _ _ | refine KeptRes.next ?_ | refine Kept.cond ?_ ?_ | refine KeptRes.cond ?_ ?_ | refine KeptP.cond ?_ ?_ | apply State.advanceTxn_keeps | apply State.msgBad_keeps | apply State.writeRecalled_keeps | refine Kept.foldl ?_ ?_ | intro _ | refine KeptP.foldl ?_ ?_ | refine KeptP.of_eq (by assumption) ?_ | dsimp only | split | dsimp only | refine KeptP.fst ?_ | refine KeptP.mk ?_ | fail_if_no_progress (refine Kept.upd ?_ (by rfl) (by intro p hp; cases p <;> first | rfl | exact (Kept.no hm hp (by decide)).elim)))
theorem State.recvInvAnswer_keeps {m : Nat} {r : State} (s : State) (p : Nat) (x2 : List Byte) (data : Option (List Byte)) (hm : Nat.land 16771474 m = 16771474) (h : Kept m r s) : Kept m r (State.recvInvAnswer s p x2 data) := by
  unfold State.recvInvAnswer
  with_reducible repeat' (first | assumption | exact Kept.sub hm rfl | exact Kept.refl _ _ | refine KeptRes.next ?_ | refine Kept.cond ?_ ?_ | refine KeptRes.cond ?_ ?_ | refine KeptP.cond ?_ ?_ | apply State.answerInv_keeps | apply State.sendMember_keeps | refine Kept.foldl ?_ ?_ | intro _ | refine KeptP.foldl ?_ ?_ | refine KeptP.of_eq (by assumption) ?_ | dsimp only | split | dsimp only | refine KeptP.fst ?_ | refine KeptP.mk ?_ | fail_if_no_progress (refine Kept.upd ?_ (by rfl) (by intro p hp; cases p <;> first | rfl | exact (Kept.no hm hp (by decide)).elim)))
theorem State.recvCpl_keeps {m : Nat} {r : State} (s : State) (p : Nat) (x2 : List Byte) (hm : Nat.land 16528 m = 16528) (h : Kept m r s) : Kept m r (State.recvCpl s p x2) := by
  unfold State.recvCpl
  with_reducible repeat' (first | assumption | exact Kept.sub hm rfl | exact Kept.refl _ _ | refine KeptRes.next ?_ | refine Kept.cond ?_ ?_ | refine KeptRes.cond ?_ ?_ | refine KeptP.cond ?_ ?_ | apply State.sendEndpoint_keeps | apply State.sendMember_keeps | apply State.setPort_keeps | refine Kept.foldl ?_ ?_ | intro _ | refine KeptP.foldl ?_ ?_ | refine KeptP.of_eq (by assumption) ?_ | dsimp only | split | dsimp only | refine KeptP.fst ?_ | refine KeptP.mk ?_ | fail_if_no_progress (refine Kept.upd ?_ (by rfl) (by intro p hp; cases p <;> first | rfl | exact (Kept.no hm hp (by decide)).elim)))
theorem execCpl_keeps {m : Nat} {r : State} (port : Nat) (msg : List Byte) (s : State) (hm : Nat.land 16528 m = 16528) (h : Kept m r s) : KeptRes m r (execCpl port msg s) := by
  unfold execCpl
  with_reducible repeat' (first | assumption | exact Kept.sub hm rfl | exact Kept.refl _ _ | refine KeptRes.next ?_ | refine Kept.cond ?_ ?_ | refine KeptRes.cond ?_ ?_ | refine KeptP.cond ?_ ?_ | apply State.recvCpl_keeps | refine Kept.foldl ?_ ?_ | intro _ | refine KeptP.foldl ?_ ?_ | refine KeptP.of_eq (by assumption) ?_ | dsimp only | split | dsimp only | refine KeptP.fst ?_ | refine KeptP.mk ?_ | fail_if_no_progress (refine Kept.upd ?_ (by rfl) (by intro p hp; cases p <;> first | rfl | exact (Kept.no hm hp (by decide)).elim)))
theorem execCplNd_keeps {m : Nat} {r : State} (port : Nat) (msg : List Byte) (s : State) (hm : Nat.land 16528 m = 16528) (h : Kept m r s) : KeptRes m r (execCplNd port msg s) := by
  unfold execCplNd
  with_reducible repeat' (first | assumption | exact Kept.sub hm rfl | exact Kept.refl _ _ | refine KeptRes.next ?_ | refine Kept.cond ?_ ?_ | refine KeptRes.cond ?_ ?_ | refine KeptP.cond ?_ ?_ | apply State.recvCpl_keeps | refine Kept.foldl ?_ ?_ | intro _ | refine KeptP.foldl ?_ ?_ | refine KeptP.of_eq (by assumption) ?_ | dsimp only | split | dsimp only | refine KeptP.fst ?_ | refine KeptP.mk ?_ | fail_if_no_progress (refine Kept.upd ?_ (by rfl) (by intro p hp; cases p <;> first | rfl | exact (Kept.no hm hp (by decide)).elim)))
theorem execCplVal_keeps {m : Nat} {r : State} (port : Nat) (msg : List Byte) (s : State) (hm : Nat.land 16528 m = 16528) (h : Kept m r s) : KeptRes m r (execCplVal port msg s) := by
  unfold execCplVal
  with_reducible repeat' (first | assumption | exact Kept.sub hm rfl | exact Kept.refl _ _ | refine KeptRes.next ?_ | refine Kept.cond ?_ ?_ | refine KeptRes.cond ?_ ?_ | refine KeptP.cond ?_ ?_ | apply State.recvCpl_keeps | refine Kept.foldl ?_ ?_ | intro _ | refine KeptP.foldl ?_ ?_ | refine KeptP.of_eq (by assumption) ?_ | dsimp only | split | dsimp only | refine KeptP.fst ?_ | refine KeptP.mk ?_ | fail_if_no_progress (refine Kept.upd ?_ (by rfl) (by intro p hp; cases p <;> first | rfl | exact (Kept.no hm hp (by decide)).elim)))
theorem execCohHoldExpiry_keeps {m : Nat} {r : State} (granule : Nat) (s : State) (hm : Nat.land 32768 m = 32768) (h : Kept m r s) : KeptRes m r (execCohHoldExpiry granule s) := by
  unfold execCohHoldExpiry
  with_reducible repeat' (first | assumption | exact Kept.sub hm rfl | exact Kept.refl _ _ | refine KeptRes.next ?_ | refine Kept.cond ?_ ?_ | refine KeptRes.cond ?_ ?_ | refine KeptP.cond ?_ ?_ | apply State.setSf_keeps | refine Kept.foldl ?_ ?_ | intro _ | refine KeptP.foldl ?_ ?_ | refine KeptP.of_eq (by assumption) ?_ | dsimp only | split | dsimp only | refine KeptP.fst ?_ | refine KeptP.mk ?_ | fail_if_no_progress (refine Kept.upd ?_ (by rfl) (by intro p hp; cases p <;> first | rfl | exact (Kept.no hm hp (by decide)).elim)))
theorem State.agentDies_keeps {m : Nat} {r : State} (s : State) (i : Nat) (byTimeout : Bool) (hm : Nat.land 16771474 m = 16771474) (h : Kept m r s) : Kept m r (State.agentDies s i byTimeout) := by
  unfold State.agentDies
  with_reducible repeat' (first | assumption | exact Kept.sub hm rfl | exact Kept.refl _ _ | refine KeptRes.next ?_ | refine Kept.cond ?_ ?_ | refine KeptRes.cond ?_ ?_ | refine KeptP.cond ?_ ?_ | apply State.advanceTxn_keeps | apply State.raise_keeps | apply State.reclaimOwned_keeps | apply State.setAgent_keeps | refine Kept.foldl ?_ ?_ | intro _ | refine KeptP.foldl ?_ ?_ | refine KeptP.of_eq (by assumption) ?_ | dsimp only | split | dsimp only | refine KeptP.fst ?_ | refine KeptP.mk ?_ | fail_if_no_progress (refine Kept.upd ?_ (by rfl) (by intro p hp; cases p <;> first | rfl | exact (Kept.no hm hp (by decide)).elim)))
theorem execReclaimEnd_keeps {m : Nat} {r : State} (index : Nat) (s : State) (hm : Nat.land 6586642 m = 6586642) (h : Kept m r s) : KeptRes m r (execReclaimEnd index s) := by
  unfold execReclaimEnd
  with_reducible repeat' (first | assumption | exact Kept.sub hm rfl | exact Kept.refl _ _ | refine KeptRes.next ?_ | refine Kept.cond ?_ ?_ | refine KeptRes.cond ?_ ?_ | refine KeptP.cond ?_ ?_ | apply State.freeSf_keeps | apply State.raise_keeps | apply State.reclaimOwned_keeps | apply State.setAgent_keeps | apply State.setSf_keeps | apply State.tellShadow_keeps | refine Kept.foldl ?_ ?_ | intro _ | refine KeptP.foldl ?_ ?_ | refine KeptP.of_eq (by assumption) ?_ | dsimp only | split | dsimp only | refine KeptP.fst ?_ | refine KeptP.mk ?_ | fail_if_no_progress (refine Kept.upd ?_ (by rfl) (by intro p hp; cases p <;> first | rfl | exact (Kept.no hm hp (by decide)).elim)))
theorem execCohAgentRevive_keeps {m : Nat} {r : State} (src : Nat) (index : Nat) (s : State) (hm : Nat.land 32768 m = 32768) (h : Kept m r s) : KeptRes m r (execCohAgentRevive src index s) := by
  unfold execCohAgentRevive
  with_reducible repeat' (first | assumption | exact Kept.sub hm rfl | exact Kept.refl _ _ | refine KeptRes.next ?_ | refine Kept.cond ?_ ?_ | refine KeptRes.cond ?_ ?_ | refine KeptP.cond ?_ ?_ | apply State.setAgent_keeps | refine Kept.foldl ?_ ?_ | intro _ | refine KeptP.foldl ?_ ?_ | refine KeptP.of_eq (by assumption) ?_ | dsimp only | split | dsimp only | refine KeptP.fst ?_ | refine KeptP.mk ?_ | fail_if_no_progress (refine Kept.upd ?_ (by rfl) (by intro p hp; cases p <;> first | rfl | exact (Kept.no hm hp (by decide)).elim)))
theorem execCohProbe_keeps {m : Nat} {r : State} (src : Nat) (s : State) (hm : Nat.land 2 m = 2) (h : Kept m r s) : KeptRes m r (execCohProbe src s) := by
  unfold execCohProbe
  with_reducible repeat' (first | assumption | exact Kept.sub hm rfl | exact Kept.refl _ _ | refine KeptRes.next ?_ | refine Kept.cond ?_ ?_ | refine KeptRes.cond ?_ ?_ | refine KeptP.cond ?_ ?_ | apply State.setFld_keeps | refine Kept.foldl ?_ ?_ | intro _ | refine KeptP.foldl ?_ ?_ | refine KeptP.of_eq (by assumption) ?_ | dsimp only | split | dsimp only | refine KeptP.fst ?_ | refine KeptP.mk ?_ | fail_if_no_progress (refine Kept.upd ?_ (by rfl) (by intro p hp; cases p <;> first | rfl | exact (Kept.no hm hp (by decide)).elim)))
theorem State.logFault_keeps {m : Nat} {r : State} (s : State) (src : Nat) (sub : Nat) (host : Bool) (addr : Nat) (hm : Nat.land 4194322 m = 4194322) (h : Kept m r s) : Kept m r (State.logFault s src sub host addr) := by
  unfold State.logFault
  with_reducible repeat' (first | assumption | exact Kept.sub hm rfl | exact Kept.refl _ _ | refine KeptRes.next ?_ | refine Kept.cond ?_ ?_ | refine KeptRes.cond ?_ ?_ | refine KeptP.cond ?_ ?_ | apply State.raise_keeps | apply State.setFld_keeps | refine Kept.foldl ?_ ?_ | intro _ | refine KeptP.foldl ?_ ?_ | refine KeptP.of_eq (by assumption) ?_ | dsimp only | split | dsimp only | refine KeptP.fst ?_ | refine KeptP.mk ?_ | fail_if_no_progress (refine Kept.upd ?_ (by rfl) (by intro p hp; cases p <;> first | rfl | exact (Kept.no hm hp (by decide)).elim)))
theorem State.setAtc_keeps {m : Nat} {r : State} (s : State) (port : Nat) (l : List AtcEntry) (hm : Nat.land 128 m = 128) (h : Kept m r s) : Kept m r (State.setAtc s port l) := by
  unfold State.setAtc
  with_reducible repeat' (first | assumption | exact Kept.sub hm rfl | exact Kept.refl _ _ | refine KeptRes.next ?_ | refine Kept.cond ?_ ?_ | refine KeptRes.cond ?_ ?_ | refine KeptP.cond ?_ ?_ | refine Kept.foldl ?_ ?_ | intro _ | refine KeptP.foldl ?_ ?_ | refine KeptP.of_eq (by assumption) ?_ | dsimp only | split | dsimp only | refine KeptP.fst ?_ | refine KeptP.mk ?_ | fail_if_no_progress (refine Kept.upd ?_ (by rfl) (by intro p hp; cases p <;> first | rfl | exact (Kept.no hm hp (by decide)).elim)))
theorem State.atcTouch_keeps {m : Nat} {r : State} (s : State) (func : Nat) (page : Nat) (hm : Nat.land 128 m = 128) (h : Kept m r s) : Kept m r (State.atcTouch s func page) := by
  unfold State.atcTouch
  with_reducible repeat' (first | assumption | exact Kept.sub hm rfl | exact Kept.refl _ _ | refine KeptRes.next ?_ | refine Kept.cond ?_ ?_ | refine KeptRes.cond ?_ ?_ | refine KeptP.cond ?_ ?_ | apply State.setAtc_keeps | refine Kept.foldl ?_ ?_ | intro _ | refine KeptP.foldl ?_ ?_ | refine KeptP.of_eq (by assumption) ?_ | dsimp only | split | dsimp only | refine KeptP.fst ?_ | refine KeptP.mk ?_ | fail_if_no_progress (refine Kept.upd ?_ (by rfl) (by intro p hp; cases p <;> first | rfl | exact (Kept.no hm hp (by decide)).elim)))
theorem State.atcAdd_keeps {m : Nat} {r : State} (s : State) (a : AtcEntry) (hm : Nat.land 128 m = 128) (h : Kept m r s) : Kept m r (State.atcAdd s a) := by
  unfold State.atcAdd
  with_reducible repeat' (first | assumption | exact Kept.sub hm rfl | exact Kept.refl _ _ | refine KeptRes.next ?_ | refine Kept.cond ?_ ?_ | refine KeptRes.cond ?_ ?_ | refine KeptP.cond ?_ ?_ | apply State.setAtc_keeps | refine Kept.foldl ?_ ?_ | intro _ | refine KeptP.foldl ?_ ?_ | refine KeptP.of_eq (by assumption) ?_ | dsimp only | split | dsimp only | refine KeptP.fst ?_ | refine KeptP.mk ?_ | fail_if_no_progress (refine Kept.upd ?_ (by rfl) (by intro p hp; cases p <;> first | rfl | exact (Kept.no hm hp (by decide)).elim)))
theorem State.requestPage_keeps {m : Nat} {r : State} (s : State) (id : Nat) (e : Entry) (d : DmaOp) (page : Nat) (hm : Nat.land 2097168 m = 2097168) (h : Kept m r s) : Kept m r (State.requestPage s id e d page) := by
  unfold State.requestPage
  with_reducible repeat' (first | assumption | exact Kept.sub hm rfl | exact Kept.refl _ _ | refine KeptRes.next ?_ | refine Kept.cond ?_ ?_ | refine KeptRes.cond ?_ ?_ | refine KeptP.cond ?_ ?_ | apply State.emit_keeps | apply State.modEntry_keeps | refine Kept.foldl ?_ ?_ | intro _ | refine KeptP.foldl ?_ ?_ | refine KeptP.of_eq (by assumption) ?_ | dsimp only | split | dsimp only | refine KeptP.fst ?_ | refine KeptP.mk ?_ | fail_if_no_progress (refine Kept.upd ?_ (by rfl) (by intro p hp; cases p <;> first | rfl | exact (Kept.no hm hp (by decide)).elim)))
theorem State.requestAhead_keeps {m : Nat} {r : State} (s : State) (id : Nat) (d : DmaOp) (hm : Nat.land 2097168 m = 2097168) (h : Kept m r s) : Kept m r (State.requestAhead s id d) := by
  unfold State.requestAhead
  with_reducible repeat' (first | assumption | exact Kept.sub hm rfl | exact Kept.refl _ _ | refine KeptRes.next ?_ | refine Kept.cond ?_ ?_ | refine KeptRes.cond ?_ ?_ | refine KeptP.cond ?_ ?_ | apply State.requestPage_keeps | refine Kept.foldl ?_ ?_ | intro _ | refine KeptP.foldl ?_ ?_ | refine KeptP.of_eq (by assumption) ?_ | dsimp only | split | dsimp only | refine KeptP.fst ?_ | refine KeptP.mk ?_ | fail_if_no_progress (refine Kept.upd ?_ (by rfl) (by intro p hp; cases p <;> first | rfl | exact (Kept.no hm hp (by decide)).elim)))
theorem State.requestGroup_keeps {m : Nat} {r : State} (s : State) (id : Nat) (d : DmaOp) (hm : Nat.land 2097296 m = 2097296) (h : Kept m r s) : Kept m r (State.requestGroup s id d) := by
  unfold State.requestGroup
  with_reducible repeat' (first | assumption | exact Kept.sub hm rfl | exact Kept.refl _ _ | refine KeptRes.next ?_ | refine Kept.cond ?_ ?_ | refine KeptRes.cond ?_ ?_ | refine KeptP.cond ?_ ?_ | apply State.emit_keeps | apply State.setEntry_keeps | refine Kept.foldl ?_ ?_ | intro _ | refine KeptP.foldl ?_ ?_ | refine KeptP.of_eq (by assumption) ?_ | dsimp only | split | dsimp only | refine KeptP.fst ?_ | refine KeptP.mk ?_ | fail_if_no_progress (refine Kept.upd ?_ (by rfl) (by intro p hp; cases p <;> first | rfl | exact (Kept.no hm hp (by decide)).elim)))
theorem State.endFault_keeps {m : Nat} {r : State} (s : State) (id : Nat) (d : DmaOp) (st : Nat) (sub : Nat) (host : Bool) (off : Nat) (hm : Nat.land 16752538 m = 16752538) (h : Kept m r s) : Kept m r (State.endFault s id d st sub host off) := by
  unfold State.endFault
  with_reducible repeat' (first | assumption | exact Kept.sub hm rfl | exact Kept.refl _ _ | refine KeptRes.next ?_ | refine Kept.cond ?_ ?_ | refine KeptRes.cond ?_ ?_ | refine KeptP.cond ?_ ?_ | apply State.finish_keeps | apply State.logFault_keeps | apply State.modEntry_keeps | apply State.withdraw_keeps | refine Kept.foldl ?_ ?_ | intro _ | refine KeptP.foldl ?_ ?_ | refine KeptP.of_eq (by assumption) ?_ | dsimp only | split | dsimp only | refine KeptP.fst ?_ | refine KeptP.mk ?_ | fail_if_no_progress (refine Kept.upd ?_ (by rfl) (by intro p hp; cases p <;> first | rfl | exact (Kept.no hm hp (by decide)).elim)))
theorem State.endDma_keeps {m : Nat} {r : State} (s : State) (id : Nat) (d : DmaOp) (hm : Nat.land 2359312 m = 2359312) (h : Kept m r s) : Kept m r (State.endDma s id d) := by
  unfold State.endDma
  with_reducible repeat' (first | assumption | exact Kept.sub hm rfl | exact Kept.refl _ _ | refine KeptRes.next ?_ | refine Kept.cond ?_ ?_ | refine KeptRes.cond ?_ ?_ | refine KeptP.cond ?_ ?_ | apply State.answerItem_keeps | apply State.conclude_keeps | apply State.modEntry_keeps | refine Kept.foldl ?_ ?_ | intro _ | refine KeptP.foldl ?_ ?_ | refine KeptP.of_eq (by assumption) ?_ | dsimp only | split | dsimp only | refine KeptP.fst ?_ | refine KeptP.mk ?_ | fail_if_no_progress (refine Kept.upd ?_ (by rfl) (by intro p hp; cases p <;> first | rfl | exact (Kept.no hm hp (by decide)).elim)))
theorem State.flush_keeps {m : Nat} {r : State} (s : State) (id : Nat) (d : DmaOp) (hm : Nat.land 16771474 m = 16771474) (h : Kept m r s) : KeptP m r (State.flush s id d) := by
  unfold State.flush
  with_reducible repeat' (first | assumption | exact Kept.sub hm rfl | exact Kept.refl _ _ | refine KeptRes.next ?_ | refine Kept.cond ?_ ?_ | refine KeptRes.cond ?_ ?_ | refine KeptP.cond ?_ ?_ | apply State.accessFor_keeps | apply State.emit_keeps | apply State.modEntry_keeps | apply State.prepare_keeps | apply State.writeStore_keeps | refine Kept.foldl ?_ ?_ | intro _ | refine KeptP.foldl ?_ ?_ | refine KeptP.of_eq (by assumption) ?_ | dsimp only | split | dsimp only | refine KeptP.fst ?_ | refine KeptP.mk ?_ | fail_if_no_progress (refine Kept.upd ?_ (by rfl) (by intro p hp; cases p <;> first | rfl | exact (Kept.no hm hp (by decide)).elim)))
theorem State.pump_keeps {m : Nat} {r : State} (s : State) (id : Nat) (a2 : Nat) (hm : Nat.land 16777114 m = 16777114) (h : Kept m r s) : Kept m r (State.pump s id a2) := by
  induction a2 generalizing s id with
  | zero =>
    unfold State.pump
    with_reducible repeat' (first | assumption | exact Kept.sub hm rfl | exact Kept.refl _ _ | refine KeptRes.next ?_ | refine Kept.cond ?_ ?_ | refine KeptRes.cond ?_ ?_ | refine KeptP.cond ?_ ?_ | apply ih | apply State.accessFor_keeps | apply State.atcTouch_keeps | apply State.checkReads_keeps | apply State.dropFetched_keeps | apply State.emit_keeps | apply State.endDma_keeps | apply State.endFault_keeps | apply State.flush_keeps | apply State.modEntry_keeps | apply State.prepare_keeps | apply State.setEntry_keeps | refine Kept.foldl ?_ ?_ | intro _ | refine KeptP.foldl ?_ ?_ | refine KeptP.of_eq (by assumption) ?_ | (guard_target =ₛ Kept m r z; subst z) | (guard_target =ₛ KeptP m r z; subst z) | (extract_lets -underBinder +onlyGivenNames z; first | (have kz : Kept m r z := ?_) | (have kz : KeptP m r z := ?_) | (have _f := fun a => z a; clear _f; subst z) | skip) | split | dsimp only | refine KeptP.fst ?_ | refine KeptP.mk ?_ | fail_if_no_progress (refine Kept.upd ?_ (by rfl) (by intro p hp; cases p <;> first | rfl | exact (Kept.no hm hp (by decide)).elim)))
  | succ n ih =>
    unfold State.pump
    with_reducible repeat' (first | assumption | exact Kept.sub hm rfl | exact Kept.refl _ _ | refine KeptRes.next ?_ | refine Kept.cond ?_ ?_ | refine KeptRes.cond ?_ ?_ | refine KeptP.cond ?_ ?_ | apply ih | apply State.accessFor_keeps | apply State.atcTouch_keeps | apply State.checkReads_keeps | apply State.dropFetched_keeps | apply State.emit_keeps | apply State.endDma_keeps | apply State.endFault_keeps | apply State.flush_keeps | apply State.modEntry_keeps | apply State.prepare_keeps | apply State.setEntry_keeps | refine Kept.foldl ?_ ?_ | intro _ | refine KeptP.foldl ?_ ?_ | refine KeptP.of_eq (by assumption) ?_ | (guard_target =ₛ Kept m r z; subst z) | (guard_target =ₛ KeptP m r z; subst z) | (extract_lets -underBinder +onlyGivenNames z; first | (have kz : Kept m r z := ?_) | (have kz : KeptP m r z := ?_) | (have _f := fun a => z a; clear _f; subst z) | skip) | split | dsimp only | refine KeptP.fst ?_ | refine KeptP.mk ?_ | fail_if_no_progress (refine Kept.upd ?_ (by rfl) (by intro p hp; cases p <;> first | rfl | exact (Kept.no hm hp (by decide)).elim)))
theorem State.runDma_keeps {m : Nat} {r : State} (s : State) (id : Nat) (hm : Nat.land 16777114 m = 16777114) (h : Kept m r s) : Kept m r (State.runDma s id) := by
  unfold State.runDma
  with_reducible repeat' (first | assumption | exact Kept.sub hm rfl | exact Kept.refl _ _ | refine KeptRes.next ?_ | refine Kept.cond ?_ ?_ | refine KeptRes.cond ?_ ?_ | refine KeptP.cond ?_ ?_ | apply State.flush_keeps | apply State.pump_keeps | apply State.requestAhead_keeps | apply State.requestGroup_keeps | refine Kept.foldl ?_ ?_ | intro _ | refine KeptP.foldl ?_ ?_ | refine KeptP.of_eq (by assumption) ?_ | dsimp only | split | dsimp only | refine KeptP.fst ?_ | refine KeptP.mk ?_ | fail_if_no_progress (refine Kept.upd ?_ (by rfl) (by intro p hp; cases p <;> first | rfl | exact (Kept.no hm hp (by decide)).elim)))
theorem State.startDma_keeps {m : Nat} {r : State} (s : State) (id : Nat) (hm : Nat.land 16777114 m = 16777114) (h : Kept m r s) : Kept m r (State.startDma s id) := by
  unfold State.startDma
  with_reducible repeat' (first | assumption | exact Kept.sub hm rfl | exact Kept.refl _ _ | refine KeptRes.next ?_ | refine Kept.cond ?_ ?_ | refine KeptRes.cond ?_ ?_ | refine KeptP.cond ?_ ?_ | apply State.endFault_keeps | apply State.runDma_keeps | apply State.setEntry_keeps | refine Kept.foldl ?_ ?_ | intro _ | refine KeptP.foldl ?_ ?_ | refine KeptP.of_eq (by assumption) ?_ | dsimp only | split | dsimp only | refine KeptP.fst ?_ | refine KeptP.mk ?_ | fail_if_no_progress (refine Kept.upd ?_ (by rfl) (by intro p hp; cases p <;> first | rfl | exact (Kept.no hm hp (by decide)).elim)))
theorem State.dmaGoesOn_keeps {m : Nat} {r : State} (s : State) (id : Nat) (hm : Nat.land 16777114 m = 16777114) (h : Kept m r s) : Kept m r (State.dmaGoesOn s id) := by
  unfold State.dmaGoesOn
  with_reducible repeat' (first | assumption | exact Kept.sub hm rfl | exact Kept.refl _ _ | refine KeptRes.next ?_ | refine Kept.cond ?_ ?_ | refine KeptRes.cond ?_ ?_ | refine KeptP.cond ?_ ?_ | apply State.requestAhead_keeps | apply State.requestGroup_keeps | apply State.runDma_keeps | refine Kept.foldl ?_ ?_ | intro _ | refine KeptP.foldl ?_ ?_ | refine KeptP.of_eq (by assumption) ?_ | dsimp only | split | dsimp only | refine KeptP.fst ?_ | refine KeptP.mk ?_ | fail_if_no_progress (refine Kept.upd ?_ (by rfl) (by intro p hp; cases p <;> first | rfl | exact (Kept.no hm hp (by decide)).elim)))
theorem State.portGoesOn_keeps {m : Nat} {r : State} (s : State) (port : Nat) (hm : Nat.land 16777114 m = 16777114) (h : Kept m r s) : Kept m r (State.portGoesOn s port) := by
  unfold State.portGoesOn
  with_reducible repeat' (first | assumption | exact Kept.sub hm rfl | exact Kept.refl _ _ | refine KeptRes.next ?_ | refine Kept.cond ?_ ?_ | refine KeptRes.cond ?_ ?_ | refine KeptP.cond ?_ ?_ | apply State.dmaGoesOn_keeps | refine Kept.foldl ?_ ?_ | intro _ | refine KeptP.foldl ?_ ?_ | refine KeptP.of_eq (by assumption) ?_ | dsimp only | split | dsimp only | refine KeptP.fst ?_ | refine KeptP.mk ?_ | fail_if_no_progress (refine Kept.upd ?_ (by rfl) (by intro p hp; cases p <;> first | rfl | exact (Kept.no hm hp (by decide)).elim)))
theorem State.modRevocation_keeps {m : Nat} {r : State} (s : State) (entry : Nat) (f : Revocation → Revocation) (hm : Nat.land 128 m = 128) (h : Kept m r s) : Kept m r (State.modRevocation s entry f) := by
  unfold State.modRevocation
  with_reducible repeat' (first | assumption | exact Kept.sub hm rfl | exact Kept.refl _ _ | refine KeptRes.next ?_ | refine Kept.cond ?_ ?_ | refine KeptRes.cond ?_ ?_ | refine KeptP.cond ?_ ?_ | refine Kept.foldl ?_ ?_ | intro _ | refine KeptP.foldl ?_ ?_ | refine KeptP.of_eq (by assumption) ?_ | dsimp only | split | dsimp only | refine KeptP.fst ?_ | refine KeptP.mk ?_ | fail_if_no_progress (refine Kept.upd ?_ (by rfl) (by intro p hp; cases p <;> first | rfl | exact (Kept.no hm hp (by decide)).elim)))
theorem State.decided_keeps {m : Nat} {r : State} (s : State) (id : Nat) (f : Revocation → Revocation) (hm : Nat.land 128 m = 128) (h : Kept m r s) : Kept m r (State.decided s id f) := by
  unfold State.decided
  with_reducible repeat' (first | assumption | exact Kept.sub hm rfl | exact Kept.refl _ _ | refine KeptRes.next ?_ | refine Kept.cond ?_ ?_ | refine KeptRes.cond ?_ ?_ | refine KeptP.cond ?_ ?_ | refine Kept.foldl ?_ ?_ | intro _ | refine KeptP.foldl ?_ ?_ | refine KeptP.of_eq (by assumption) ?_ | dsimp only | split | dsimp only | refine KeptP.fst ?_ | refine KeptP.mk ?_ | fail_if_no_progress (refine Kept.upd ?_ (by rfl) (by intro p hp; cases p <;> first | rfl | exact (Kept.no hm hp (by decide)).elim)))
theorem State.decideMarked_keeps {m : Nat} {r : State} (s : State) (id : Nat) (hm : Nat.land 2097296 m = 2097296) (h : Kept m r s) : Kept m r (State.decideMarked s id) := by
  unfold State.decideMarked
  with_reducible repeat' (first | assumption | exact Kept.sub hm rfl | exact Kept.refl _ _ | refine KeptRes.next ?_ | refine Kept.cond ?_ ?_ | refine KeptRes.cond ?_ ?_ | refine KeptP.cond ?_ ?_ | apply State.decided_keeps | apply State.emit_keeps | apply State.modEntry_keeps | apply State.setEntry_keeps | refine Kept.foldl ?_ ?_ | intro _ | refine KeptP.foldl ?_ ?_ | refine KeptP.of_eq (by assumption) ?_ | dsimp only | split | dsimp only | refine KeptP.fst ?_ | refine KeptP.mk ?_ | fail_if_no_progress (refine Kept.upd ?_ (by rfl) (by intro p hp; cases p <;> first | rfl | exact (Kept.no hm hp (by decide)).elim)))
theorem State.markEntry_keeps {m : Nat} {r : State} (s : State) (id : Nat) (hm : Nat.land 2097296 m = 2097296) (h : Kept m r s) : Kept m r (State.markEntry s id) := by
  unfold State.markEntry
  with_reducible repeat' (first | assumption | exact Kept.sub hm rfl | exact Kept.refl _ _ | refine KeptRes.next ?_ | refine Kept.cond ?_ ?_ | refine KeptRes.cond ?_ ?_ | refine KeptP.cond ?_ ?_ | apply State.decideMarked_keeps | apply State.emit_keeps | apply State.setEntry_keeps | refine Kept.foldl ?_ ?_ | intro _ | refine KeptP.foldl ?_ ?_ | refine KeptP.of_eq (by assumption) ?_ | dsimp only | split | dsimp only | refine KeptP.fst ?_ | refine KeptP.mk ?_ | fail_if_no_progress (refine Kept.upd ?_ (by rfl) (by intro p hp; cases p <;> first | rfl | exact (Kept.no hm hp (by decide)).elim)))
theorem State.beginRevoke_keeps {m : Nat} {r : State} (s : State) (id : Nat) (ctx : Nat) (seg : Nat) (sub : Nat) (hm : Nat.land 2097296 m = 2097296) (h : Kept m r s) : Kept m r (State.beginRevoke s id ctx seg sub) := by
  unfold State.beginRevoke
  with_reducible repeat' (first | assumption | exact Kept.sub hm rfl | exact Kept.refl _ _ | refine KeptRes.next ?_ | refine Kept.cond ?_ ?_ | refine KeptRes.cond ?_ ?_ | refine KeptP.cond ?_ ?_ | apply State.markEntry_keeps | apply State.modEntry_keeps | apply State.setCtx_keeps | refine Kept.foldl ?_ ?_ | intro _ | refine KeptP.foldl ?_ ?_ | refine KeptP.of_eq (by assumption) ?_ | dsimp only | split | dsimp only | refine KeptP.fst ?_ | refine KeptP.mk ?_ | fail_if_no_progress (refine Kept.upd ?_ (by rfl) (by intro p hp; cases p <;> first | rfl | exact (Kept.no hm hp (by decide)).elim)))
theorem State.holdAnswered_keeps {m : Nat} {r : State} (s : State) (id : Nat) (item : Nat) (begun : Bool) (hm : Nat.land 2097296 m = 2097296) (h : Kept m r s) : Kept m r (State.holdAnswered s id item begun) := by
  unfold State.holdAnswered
  with_reducible repeat' (first | assumption | exact Kept.sub hm rfl | exact Kept.refl _ _ | refine KeptRes.next ?_ | refine Kept.cond ?_ ?_ | refine KeptRes.cond ?_ ?_ | refine KeptP.cond ?_ ?_ | apply State.decideMarked_keeps | apply State.setEntry_keeps | refine Kept.foldl ?_ ?_ | intro _ | refine KeptP.foldl ?_ ?_ | refine KeptP.of_eq (by assumption) ?_ | dsimp only | split | dsimp only | refine KeptP.fst ?_ | refine KeptP.mk ?_ | fail_if_no_progress (refine Kept.upd ?_ (by rfl) (by intro p hp; cases p <;> first | rfl | exact (Kept.no hm hp (by decide)).elim)))
theorem State.backInvalidate_keeps {m : Nat} {r : State} (s : State) (id : Nat) (sg : Segment) (index : Nat) (hm : Nat.land 16771474 m = 16771474) (h : Kept m r s) : Kept m r (State.backInvalidate s id sg index) := by
  unfold State.backInvalidate
  with_reducible repeat' (first | assumption | exact Kept.sub hm rfl | exact Kept.refl _ _ | refine KeptRes.next ?_ | refine Kept.cond ?_ ?_ | refine KeptRes.cond ?_ ?_ | refine KeptP.cond ?_ ?_ | apply State.submitReq_keeps | refine Kept.foldl ?_ ?_ | intro _ | refine KeptP.foldl ?_ ?_ | refine KeptP.of_eq (by assumption) ?_ | dsimp only | split | dsimp only | refine KeptP.fst ?_ | refine KeptP.mk ?_ | fail_if_no_progress (refine Kept.upd ?_ (by rfl) (by intro p hp; cases p <;> first | rfl | exact (Kept.no hm hp (by decide)).elim)))
theorem State.startBack_keeps {m : Nat} {r : State} (s : State) (x1 : Revocation) (hm : Nat.land 16771474 m = 16771474) (h : Kept m r s) : Kept m r (State.startBack s x1) := by
  unfold State.startBack
  with_reducible repeat' (first | assumption | exact Kept.sub hm rfl | exact Kept.refl _ _ | refine KeptRes.next ?_ | refine Kept.cond ?_ ?_ | refine KeptRes.cond ?_ ?_ | refine KeptP.cond ?_ ?_ | apply State.backInvalidate_keeps | apply State.modRevocation_keeps | apply State.sendItem_keeps | refine Kept.foldl ?_ ?_ | intro _ | refine KeptP.foldl ?_ ?_ | refine KeptP.of_eq (by assumption) ?_ | dsimp only | split | dsimp only | refine KeptP.fst ?_ | refine KeptP.mk ?_ | fail_if_no_progress (refine Kept.upd ?_ (by rfl) (by intro p hp; cases p <;> first | rfl | exact (Kept.no hm hp (by decide)).elim)))
theorem State.migrateOutEnded_keeps {m : Nat} {r : State} (s : State) (id : Nat) (e : Entry) (hm : Nat.land 128 m = 128) (h : Kept m r s) : Kept m r (State.migrateOutEnded s id e) := by
  unfold State.migrateOutEnded
  with_reducible repeat' (first | assumption | exact Kept.sub hm rfl | exact Kept.refl _ _ | refine KeptRes.next ?_ | refine Kept.cond ?_ ?_ | refine KeptRes.cond ?_ ?_ | refine KeptP.cond ?_ ?_ | apply State.setSeg_keeps | refine Kept.foldl ?_ ?_ | intro _ | refine KeptP.foldl ?_ ?_ | refine KeptP.of_eq (by assumption) ?_ | dsimp only | split | dsimp only | refine KeptP.fst ?_ | refine KeptP.mk ?_ | fail_if_no_progress (refine Kept.upd ?_ (by rfl) (by intro p hp; cases p <;> first | rfl | exact (Kept.no hm hp (by decide)).elim)))
theorem State.xltCompleted_keeps {m : Nat} {r : State} (s : State) (id : Nat) (e : Entry) (hm : Nat.land 128 m = 128) (h : Kept m r s) : Kept m r (State.xltCompleted s id e) := by
  unfold State.xltCompleted
  with_reducible repeat' (first | assumption | exact Kept.sub hm rfl | exact Kept.refl _ _ | refine KeptRes.next ?_ | refine Kept.cond ?_ ?_ | refine KeptRes.cond ?_ ?_ | refine KeptP.cond ?_ ?_ | apply State.migrateOutEnded_keeps | apply State.setCtx_keeps | refine Kept.foldl ?_ ?_ | intro _ | refine KeptP.foldl ?_ ?_ | refine KeptP.of_eq (by assumption) ?_ | dsimp only | split | dsimp only | refine KeptP.fst ?_ | refine KeptP.mk ?_ | fail_if_no_progress (refine Kept.upd ?_ (by rfl) (by intro p hp; cases p <;> first | rfl | exact (Kept.no hm hp (by decide)).elim)))
theorem State.hookFlags_keeps {m : Nat} {r : State} (s : State) (id : Nat) (hm : Nat.land 8388608 m = 8388608) (h : Kept m r s) : Kept m r (State.hookFlags s id) := by
  unfold State.hookFlags
  with_reducible repeat' (first | assumption | exact Kept.sub hm rfl | exact Kept.refl _ _ | refine KeptRes.next ?_ | refine Kept.cond ?_ ?_ | refine KeptRes.cond ?_ ?_ | refine KeptP.cond ?_ ?_ | apply State.pokeBytes_keeps | refine Kept.foldl ?_ ?_ | intro _ | refine KeptP.foldl ?_ ?_ | refine KeptP.of_eq (by assumption) ?_ | dsimp only | split | dsimp only | refine KeptP.fst ?_ | refine KeptP.mk ?_ | fail_if_no_progress (refine Kept.upd ?_ (by rfl) (by intro p hp; cases p <;> first | rfl | exact (Kept.no hm hp (by decide)).elim)))
theorem State.endInvocation_keeps {m : Nat} {r : State} (s : State) (c : Nat) (x2 : Running) (st : Nat) (sub : Nat) (hm : Nat.land 16648986 m = 16648986) (h : Kept m r s) : Kept m r (State.endInvocation s c x2 st sub) := by
  unfold State.endInvocation
  with_reducible repeat' (first | assumption | exact Kept.sub hm rfl | exact Kept.refl _ _ | refine KeptRes.next ?_ | refine Kept.cond ?_ ?_ | refine KeptRes.cond ?_ ?_ | refine KeptP.cond ?_ ?_ | apply State.answerItem_keeps | apply State.hookFlags_keeps | apply State.leaveCore_keeps | apply State.modEntry_keeps | refine Kept.foldl ?_ ?_ | intro _ | refine KeptP.foldl ?_ ?_ | refine KeptP.of_eq (by assumption) ?_ | dsimp only | split | dsimp only | refine KeptP.fst ?_ | refine KeptP.mk ?_ | fail_if_no_progress (refine Kept.upd ?_ (by rfl) (by intro p hp; cases p <;> first | rfl | exact (Kept.no hm hp (by decide)).elim)))
theorem State.recipeFault_keeps {m : Nat} {r : State} (s : State) (c : Nat) (code : Nat) (hm : Nat.land 16648986 m = 16648986) (h : Kept m r s) : Kept m r (State.recipeFault s c code) := by
  unfold State.recipeFault
  with_reducible repeat' (first | assumption | exact Kept.sub hm rfl | exact Kept.refl _ _ | refine KeptRes.next ?_ | refine Kept.cond ?_ ?_ | refine KeptRes.cond ?_ ?_ | refine KeptP.cond ?_ ?_ | apply State.count_keeps | apply State.endInvocation_keeps | apply State.raise_keeps | apply State.setFld_keeps | refine Kept.foldl ?_ ?_ | intro _ | refine KeptP.foldl ?_ ?_ | refine KeptP.of_eq (by assumption) ?_ | dsimp only | split | dsimp only | refine KeptP.fst ?_ | refine KeptP.mk ?_ | fail_if_no_progress (refine Kept.upd ?_ (by rfl) (by intro p hp; cases p <;> first | rfl | exact (Kept.no hm hp (by decide)).elim)))
theorem State.coreFailed_keeps {m : Nat} {r : State} (s : State) (c : Nat) (hm : Nat.land 16648986 m = 16648986) (h : Kept m r s) : Kept m r (State.coreFailed s c) := by
  unfold State.coreFailed
  with_reducible repeat' (first | assumption | exact Kept.sub hm rfl | exact Kept.refl _ _ | refine KeptRes.next ?_ | refine Kept.cond ?_ ?_ | refine KeptRes.cond ?_ ?_ | refine KeptP.cond ?_ ?_ | apply State.placeInvocation_keeps | apply State.placeWaiting_keeps | apply State.recipeFault_keeps | apply State.releaseHold_keeps | apply State.setEdge_keeps | refine Kept.foldl ?_ ?_ | intro _ | refine KeptP.foldl ?_ ?_ | refine KeptP.of_eq (by assumption) ?_ | dsimp only | split | dsimp only | refine KeptP.fst ?_ | refine KeptP.mk ?_ | fail_if_no_progress (refine Kept.upd ?_ (by rfl) (by intro p hp; cases p <;> first | rfl | exact (Kept.no hm hp (by decide)).elim)))
theorem State.requeue_keeps {m : Nat} {r : State} (s : State) (c : Nat) (hm : Nat.land 512 m = 512) (h : Kept m r s) : Kept m r (State.requeue s c) := by
  unfold State.requeue
  with_reducible repeat' (first | assumption | exact Kept.sub hm rfl | exact Kept.refl _ _ | refine KeptRes.next ?_ | refine Kept.cond ?_ ?_ | refine KeptRes.cond ?_ ?_ | refine KeptP.cond ?_ ?_ | apply State.placeInvocation_keeps | apply State.setEdge_keeps | refine Kept.foldl ?_ ?_ | intro _ | refine KeptP.foldl ?_ ?_ | refine KeptP.of_eq (by assumption) ?_ | dsimp only | split | dsimp only | refine KeptP.fst ?_ | refine KeptP.mk ?_ | fail_if_no_progress (refine Kept.upd ?_ (by rfl) (by intro p hp; cases p <;> first | rfl | exact (Kept.no hm hp (by decide)).elim)))
theorem State.coreWorn_keeps {m : Nat} {r : State} (s : State) (c : Nat) (e : ErrInfo) (hm : Nat.land 8260114 m = 8260114) (h : Kept m r s) : Kept m r (State.coreWorn s c e) := by
  unfold State.coreWorn
  with_reducible repeat' (first | assumption | exact Kept.sub hm rfl | exact Kept.refl _ _ | refine KeptRes.next ?_ | refine Kept.cond ?_ ?_ | refine KeptRes.cond ?_ ?_ | refine KeptP.cond ?_ ?_ | apply State.dropCore_keeps | apply State.logError_keeps | apply State.requeue_keeps | apply State.setUnit_keeps | refine Kept.foldl ?_ ?_ | intro _ | refine KeptP.foldl ?_ ?_ | refine KeptP.of_eq (by assumption) ?_ | dsimp only | split | dsimp only | refine KeptP.fst ?_ | refine KeptP.mk ?_ | fail_if_no_progress (refine Kept.upd ?_ (by rfl) (by intro p hp; cases p <;> first | rfl | exact (Kept.no hm hp (by decide)).elim)))
theorem State.pocketEcc_keeps {m : Nat} {r : State} (s : State) (c : Nat) (chk : Nat) (inj : Bool) (hm : Nat.land 16648986 m = 16648986) (h : Kept m r s) : Kept m r (State.pocketEcc s c chk inj) := by
  unfold State.pocketEcc
  with_reducible repeat' (first | assumption | exact Kept.sub hm rfl | exact Kept.refl _ _ | refine KeptRes.next ?_ | refine Kept.cond ?_ ?_ | refine KeptRes.cond ?_ ?_ | refine KeptP.cond ?_ ?_ | apply State.coreWorn_keeps | apply State.logError_keeps | apply State.recipeFault_keeps | apply State.setUnit_keeps | refine Kept.foldl ?_ ?_ | intro _ | refine KeptP.foldl ?_ ?_ | refine KeptP.of_eq (by assumption) ?_ | dsimp only | split | dsimp only | refine KeptP.fst ?_ | refine KeptP.mk ?_ | fail_if_no_progress (refine Kept.upd ?_ (by rfl) (by intro p hp; cases p <;> first | rfl | exact (Kept.no hm hp (by decide)).elim)))
theorem State.pocketCheck_keeps {m : Nat} {r : State} (s : State) (c : Nat) (x2 : Running) (x : RStep) (hm : Nat.land 16648986 m = 16648986) (h : Kept m r s) : KeptP m r (State.pocketCheck s c x2 x) := by
  unfold State.pocketCheck
  with_reducible repeat' (first | assumption | exact Kept.sub hm rfl | exact Kept.refl _ _ | refine KeptRes.next ?_ | refine Kept.cond ?_ ?_ | refine KeptRes.cond ?_ ?_ | refine KeptP.cond ?_ ?_ | apply State.corrected_keeps | apply State.pocketEcc_keeps | apply State.setEdge_keeps | refine Kept.foldl ?_ ?_ | intro _ | refine KeptP.foldl ?_ ?_ | refine KeptP.of_eq (by assumption) ?_ | dsimp only | split | dsimp only | refine KeptP.fst ?_ | refine KeptP.mk ?_ | fail_if_no_progress (refine Kept.upd ?_ (by rfl) (by intro p hp; cases p <;> first | rfl | exact (Kept.no hm hp (by decide)).elim)))
theorem State.goStep_keeps {m : Nat} {r : State} (s : State) (c : Nat) (n : Nat) (hm : Nat.land 512 m = 512) (h : Kept m r s) : Kept m r (State.goStep s c n) := by
  unfold State.goStep
  with_reducible repeat' (first | assumption | exact Kept.sub hm rfl | exact Kept.refl _ _ | refine KeptRes.next ?_ | refine Kept.cond ?_ ?_ | refine KeptRes.cond ?_ ?_ | refine KeptP.cond ?_ ?_ | apply State.setRun_keeps | refine Kept.foldl ?_ ?_ | intro _ | refine KeptP.foldl ?_ ?_ | refine KeptP.of_eq (by assumption) ?_ | dsimp only | split | dsimp only | refine KeptP.fst ?_ | refine KeptP.mk ?_ | fail_if_no_progress (refine Kept.upd ?_ (by rfl) (by intro p hp; cases p <;> first | rfl | exact (Kept.no hm hp (by decide)).elim)))
theorem State.addFlags_keeps {m : Nat} {r : State} (s : State) (c : Nat) (f : FlagRec) (hm : Nat.land 4194834 m = 4194834) (h : Kept m r s) : Kept m r (State.addFlags s c f) := by
  unfold State.addFlags
  with_reducible repeat' (first | assumption | exact Kept.sub hm rfl | exact Kept.refl _ _ | refine KeptRes.next ?_ | refine Kept.cond ?_ ?_ | refine KeptRes.cond ?_ ?_ | refine KeptP.cond ?_ ?_ | apply State.collectFlags_keeps | apply State.setRun_keeps | refine Kept.foldl ?_ ?_ | intro _ | refine KeptP.foldl ?_ ?_ | refine KeptP.of_eq (by assumption) ?_ | dsimp only | split | dsimp only | refine KeptP.fst ?_ | refine KeptP.mk ?_ | fail_if_no_progress (refine Kept.upd ?_ (by rfl) (by intro p hp; cases p <;> first | rfl | exact (Kept.no hm hp (by decide)).elim)))
theorem State.issueStream_keeps {m : Nat} {r : State} (s : State) (c : Nat) (x2 : Running) (x : RStep) (hm : Nat.land 16648986 m = 16648986) (h : Kept m r s) : Kept m r (State.issueStream s c x2 x) := by
  unfold State.issueStream
  with_reducible repeat' (first | assumption | exact Kept.sub hm rfl | exact Kept.refl _ _ | refine KeptRes.next ?_ | refine Kept.cond ?_ ?_ | refine KeptRes.cond ?_ ?_ | refine KeptP.cond ?_ ?_ | apply State.acquireHold_keeps | apply State.addFlags_keeps | apply State.recipeFault_keeps | apply State.setEdge_keeps | apply State.setRun_keeps | refine Kept.foldl ?_ ?_ | intro _ | refine KeptP.foldl ?_ ?_ | refine KeptP.of_eq (by assumption) ?_ | dsimp only | split | dsimp only | refine KeptP.fst ?_ | refine KeptP.mk ?_ | fail_if_no_progress (refine Kept.upd ?_ (by rfl) (by intro p hp; cases p <;> first | rfl | exact (Kept.no hm hp (by decide)).elim)))
theorem State.readAndIssue_keeps {m : Nat} {r : State} (s : State) (c : Nat) (x2 : Running) (x : RStep) (hm : Nat.land 16648986 m = 16648986) (h : Kept m r s) : Kept m r (State.readAndIssue s c x2 x) := by
  unfold State.readAndIssue
  with_reducible repeat' (first | assumption | exact Kept.sub hm rfl | exact Kept.refl _ _ | refine KeptRes.next ?_ | refine Kept.cond ?_ ?_ | refine KeptRes.cond ?_ ?_ | refine KeptP.cond ?_ ?_ | apply State.issueStream_keeps | apply State.pocketCheck_keeps | refine Kept.foldl ?_ ?_ | intro _ | refine KeptP.foldl ?_ ?_ | refine KeptP.of_eq (by assumption) ?_ | dsimp only | split | dsimp only | refine KeptP.fst ?_ | refine KeptP.mk ?_ | fail_if_no_progress (refine Kept.upd ?_ (by rfl) (by intro p hp; cases p <;> first | rfl | exact (Kept.no hm hp (by decide)).elim)))
theorem State.streamFails_keeps {m : Nat} {r : State} (s : State) (c : Nat) (st : Nat) (sub : Nat) (hm : Nat.land 16648986 m = 16648986) (h : Kept m r s) : Kept m r (State.streamFails s c st sub) := by
  unfold State.streamFails
  with_reducible repeat' (first | assumption | exact Kept.sub hm rfl | exact Kept.refl _ _ | refine KeptRes.next ?_ | refine Kept.cond ?_ ?_ | refine KeptRes.cond ?_ ?_ | refine KeptP.cond ?_ ?_ | apply State.endInvocation_keeps | apply State.recipeFault_keeps | refine Kept.foldl ?_ ?_ | intro _ | refine KeptP.foldl ?_ ?_ | refine KeptP.of_eq (by assumption) ?_ | dsimp only | split | dsimp only | refine KeptP.fst ?_ | refine KeptP.mk ?_ | fail_if_no_progress (refine Kept.upd ?_ (by rfl) (by intro p hp; cases p <;> first | rfl | exact (Kept.no hm hp (by decide)).elim)))
theorem State.landSteps_keeps {m : Nat} {r : State} (s : State) (c : Nat) (a2 : List Nat) (hm : Nat.land 16771994 m = 16771994) (h : Kept m r s) : KeptP m r (State.landSteps s c a2) := by
  induction a2 generalizing s c with
  | nil =>
    unfold State.landSteps
    with_reducible repeat' (first | assumption | exact Kept.sub hm rfl | exact Kept.refl _ _ | refine KeptRes.next ?_ | refine Kept.cond ?_ ?_ | refine KeptRes.cond ?_ ?_ | refine KeptP.cond ?_ ?_ | apply ih | apply State.dropFetched_keeps | apply State.performStream_keeps | apply State.prepare_keeps | apply State.setRun_keeps | apply State.streamFails_keeps | refine Kept.foldl ?_ ?_ | intro _ | refine KeptP.foldl ?_ ?_ | refine KeptP.of_eq (by assumption) ?_ | dsimp only | split | dsimp only | refine KeptP.fst ?_ | refine KeptP.mk ?_ | fail_if_no_progress (refine Kept.upd ?_ (by rfl) (by intro p hp; cases p <;> first | rfl | exact (Kept.no hm hp (by decide)).elim)))
  | cons a l ih =>
    unfold State.landSteps
    with_reducible repeat' (first | assumption | exact Kept.sub hm rfl | exact Kept.refl _ _ | refine KeptRes.next ?_ | refine Kept.cond ?_ ?_ | refine KeptRes.cond ?_ ?_ | refine KeptP.cond ?_ ?_ | apply ih | apply State.dropFetched_keeps | apply State.performStream_keeps | apply State.prepare_keeps | apply State.setRun_keeps | apply State.streamFails_keeps | refine Kept.foldl ?_ ?_ | intro _ | refine KeptP.foldl ?_ ?_ | refine KeptP.of_eq (by assumption) ?_ | dsimp only | split | dsimp only | refine KeptP.fst ?_ | refine KeptP.mk ?_ | fail_if_no_progress (refine Kept.upd ?_ (by rfl) (by intro p hp; cases p <;> first | rfl | exact (Kept.no hm hp (by decide)).elim)))
theorem State.settleToken_keeps {m : Nat} {r : State} (s : State) (c : Nat) (token : Nat) (hm : Nat.land 16771994 m = 16771994) (h : Kept m r s) : Kept m r (State.settleToken s c token) := by
  unfold State.settleToken
  with_reducible repeat' (first | assumption | exact Kept.sub hm rfl | exact Kept.refl _ _ | refine KeptRes.next ?_ | refine Kept.cond ?_ ?_ | refine KeptRes.cond ?_ ?_ | refine KeptP.cond ?_ ?_ | apply State.landSteps_keeps | apply State.recipeFault_keeps | apply State.setRun_keeps | refine Kept.foldl ?_ ?_ | intro _ | refine KeptP.foldl ?_ ?_ | refine KeptP.of_eq (by assumption) ?_ | dsimp only | split | dsimp only | refine KeptP.fst ?_ | refine KeptP.mk ?_ | fail_if_no_progress (refine Kept.upd ?_ (by rfl) (by intro p hp; cases p <;> first | rfl | exact (Kept.no hm hp (by decide)).elim)))
theorem State.signalled_keeps {m : Nat} {r : State} (s : State) (c : Nat) (hm : Nat.land 512 m = 512) (h : Kept m r s) : Kept m r (State.signalled s c) := by
  unfold State.signalled
  with_reducible repeat' (first | assumption | exact Kept.sub hm rfl | exact Kept.refl _ _ | refine KeptRes.next ?_ | refine Kept.cond ?_ ?_ | refine KeptRes.cond ?_ ?_ | refine KeptP.cond ?_ ?_ | apply State.setRun_keeps | refine Kept.foldl ?_ ?_ | intro _ | refine KeptP.foldl ?_ ?_ | refine KeptP.of_eq (by assumption) ?_ | dsimp only | split | dsimp only | refine KeptP.fst ?_ | refine KeptP.mk ?_ | fail_if_no_progress (refine Kept.upd ?_ (by rfl) (by intro p hp; cases p <;> first | rfl | exact (Kept.no hm hp (by decide)).elim)))
theorem State.coreAnswered_keeps {m : Nat} {r : State} (s : State) (item : Nat) (x : Away) (st : Nat) (sub : Nat) (hm : Nat.land 16648986 m = 16648986) (h : Kept m r s) : Kept m r (State.coreAnswered s item x st sub) := by
  unfold State.coreAnswered
  with_reducible repeat' (first | assumption | exact Kept.sub hm rfl | exact Kept.refl _ _ | refine KeptRes.next ?_ | refine Kept.cond ?_ ?_ | refine KeptRes.cond ?_ ?_ | refine KeptP.cond ?_ ?_ | apply State.dropAway_keeps | apply State.recipeFault_keeps | apply State.signalled_keeps | apply State.streamFails_keeps | refine Kept.foldl ?_ ?_ | intro _ | refine KeptP.foldl ?_ ?_ | refine KeptP.of_eq (by assumption) ?_ | dsimp only | split | dsimp only | refine KeptP.fst ?_ | refine KeptP.mk ?_ | fail_if_no_progress (refine Kept.upd ?_ (by rfl) (by intro p hp; cases p <;> first | rfl | exact (Kept.no hm hp (by decide)).elim)))
theorem State.setScalar_keeps {m : Nat} {r : State} (s : State) (c : Nat) (n : Nat) (v : Nat) (hm : Nat.land 512 m = 512) (h : Kept m r s) : Kept m r (State.setScalar s c n v) := by
  unfold State.setScalar
  with_reducible repeat' (first | assumption | exact Kept.sub hm rfl | exact Kept.refl _ _ | refine KeptRes.next ?_ | refine Kept.cond ?_ ?_ | refine KeptRes.cond ?_ ?_ | refine KeptP.cond ?_ ?_ | apply State.setRun_keeps | refine Kept.foldl ?_ ?_ | intro _ | refine KeptP.foldl ?_ ?_ | refine KeptP.of_eq (by assumption) ?_ | dsimp only | split | dsimp only | refine KeptP.fst ?_ | refine KeptP.mk ?_ | fail_if_no_progress (refine Kept.upd ?_ (by rfl) (by intro p hp; cases p <;> first | rfl | exact (Kept.no hm hp (by decide)).elim)))
theorem State.drew_keeps {m : Nat} {r : State} (s : State) (c : Nat) (n : Nat) (hm : Nat.land 512 m = 512) (h : Kept m r s) : Kept m r (State.drew s c n) := by
  unfold State.drew
  with_reducible repeat' (first | assumption | exact Kept.sub hm rfl | exact Kept.refl _ _ | refine KeptRes.next ?_ | refine Kept.cond ?_ ?_ | refine KeptRes.cond ?_ ?_ | refine KeptP.cond ?_ ?_ | apply State.setRun_keeps | refine Kept.foldl ?_ ?_ | intro _ | refine KeptP.foldl ?_ ?_ | refine KeptP.of_eq (by assumption) ?_ | dsimp only | split | dsimp only | refine KeptP.fst ?_ | refine KeptP.mk ?_ | fail_if_no_progress (refine Kept.upd ?_ (by rfl) (by intro p hp; cases p <;> first | rfl | exact (Kept.no hm hp (by decide)).elim)))
theorem State.writeRows_keeps {m : Nat} {r : State} (s : State) (c : Nat) (x2 : Running) (x : RStep) (i : Nat) (a5 : List (List (Val × Bool))) (hm : Nat.land 4194834 m = 4194834) (h : Kept m r s) : Kept m r (State.writeRows s c x2 x i a5) := by
  induction a5 generalizing s c x2 x i with
  | nil =>
    unfold State.writeRows
    with_reducible repeat' (first | assumption | exact Kept.sub hm rfl | exact Kept.refl _ _ | refine KeptRes.next ?_ | refine Kept.cond ?_ ?_ | refine KeptRes.cond ?_ ?_ | refine KeptP.cond ?_ ?_ | apply ih | apply State.addFlags_keeps | apply State.drew_keeps | apply State.pokePocket_keeps | refine Kept.foldl ?_ ?_ | intro _ | refine KeptP.foldl ?_ ?_ | refine KeptP.of_eq (by assumption) ?_ | dsimp only | split | dsimp only | refine KeptP.fst ?_ | refine KeptP.mk ?_ | fail_if_no_progress (refine Kept.upd ?_ (by rfl) (by intro p hp; cases p <;> first | rfl | exact (Kept.no hm hp (by decide)).elim)))
  | cons a l ih =>
    unfold State.writeRows
    with_reducible repeat' (first | assumption | exact Kept.sub hm rfl | exact Kept.refl _ _ | refine KeptRes.next ?_ | refine Kept.cond ?_ ?_ | refine KeptRes.cond ?_ ?_ | refine KeptP.cond ?_ ?_ | apply ih | apply State.addFlags_keeps | apply State.drew_keeps | apply State.pokePocket_keeps | refine Kept.foldl ?_ ?_ | intro _ | refine KeptP.foldl ?_ ?_ | refine KeptP.of_eq (by assumption) ?_ | dsimp only | split | dsimp only | refine KeptP.fst ?_ | refine KeptP.mk ?_ | fail_if_no_progress (refine Kept.upd ?_ (by rfl) (by intro p hp; cases p <;> first | rfl | exact (Kept.no hm hp (by decide)).elim)))
theorem State.landEarly_keeps {m : Nat} {r : State} (s : State) (c : Nat) (x : StreamStep) (hm : Nat.land 520 m = 520) (h : Kept m r s) : Kept m r (State.landEarly s c x) := by
  unfold State.landEarly
  with_reducible repeat' (first | assumption | exact Kept.sub hm rfl | exact Kept.refl _ _ | refine KeptRes.next ?_ | refine Kept.cond ?_ ?_ | refine KeptRes.cond ?_ ?_ | refine KeptP.cond ?_ ?_ | apply State.pokePocket_keeps | apply State.tickFresh_keeps | refine Kept.foldl ?_ ?_ | intro _ | refine KeptP.foldl ?_ ?_ | refine KeptP.of_eq (by assumption) ?_ | dsimp only | split | dsimp only | refine KeptP.fst ?_ | refine KeptP.mk ?_ | fail_if_no_progress (refine Kept.upd ?_ (by rfl) (by intro p hp; cases p <;> first | rfl | exact (Kept.no hm hp (by decide)).elim)))
theorem State.runEngine_keeps {m : Nat} {r : State} (s : State) (c : Nat) (x2 : Running) (x : RStep) (hm : Nat.land 4194842 m = 4194842) (h : Kept m r s) : Kept m r (State.runEngine s c x2 x) := by
  unfold State.runEngine
  with_reducible repeat' (first | assumption | exact Kept.sub hm rfl | exact Kept.refl _ _ | refine KeptRes.next ?_ | refine Kept.cond ?_ ?_ | refine KeptRes.cond ?_ ?_ | refine KeptP.cond ?_ ?_ | apply State.addFlags_keeps | apply State.drew_keeps | apply State.goStep_keeps | apply State.landEarly_keeps | apply State.pokePocket_keeps | apply State.setScalar_keeps | apply State.tickFresh_keeps | apply State.writeRows_keeps | refine Kept.foldl ?_ ?_ | intro _ | refine KeptP.foldl ?_ ?_ | refine KeptP.of_eq (by assumption) ?_ | dsimp only | split | dsimp only | refine KeptP.fst ?_ | refine KeptP.mk ?_ | fail_if_no_progress (refine Kept.upd ?_ (by rfl) (by intro p hp; cases p <;> first | rfl | exact (Kept.no hm hp (by decide)).elim)))
theorem State.runHash_keeps {m : Nat} {r : State} (s : State) (c : Nat) (x2 : Running) (x : RStep) (hm : Nat.land 520 m = 520) (h : Kept m r s) : Kept m r (State.runHash s c x2 x) := by
  unfold State.runHash
  with_reducible repeat' (first | assumption | exact Kept.sub hm rfl | exact Kept.refl _ _ | refine KeptRes.next ?_ | refine Kept.cond ?_ ?_ | refine KeptRes.cond ?_ ?_ | refine KeptP.cond ?_ ?_ | apply State.goStep_keeps | apply State.landEarly_keeps | apply State.pokePocket_keeps | apply State.setScalar_keeps | refine Kept.foldl ?_ ?_ | intro _ | refine KeptP.foldl ?_ ?_ | refine KeptP.of_eq (by assumption) ?_ | dsimp only | split | dsimp only | refine KeptP.fst ?_ | refine KeptP.mk ?_ | fail_if_no_progress (refine Kept.upd ?_ (by rfl) (by intro p hp; cases p <;> first | rfl | exact (Kept.no hm hp (by decide)).elim)))
theorem State.runTopk_keeps {m : Nat} {r : State} (s : State) (c : Nat) (x2 : Running) (x : RStep) (hm : Nat.land 4194842 m = 4194842) (h : Kept m r s) : Kept m r (State.runTopk s c x2 x) := by
  unfold State.runTopk
  with_reducible repeat' (first | assumption | exact Kept.sub hm rfl | exact Kept.refl _ _ | refine KeptRes.next ?_ | refine Kept.cond ?_ ?_ | refine KeptRes.cond ?_ ?_ | refine KeptP.cond ?_ ?_ | apply State.addFlags_keeps | apply State.goStep_keeps | apply State.landEarly_keeps | apply State.pokePocket_keeps | apply State.setScalar_keeps | apply State.tickFresh_keeps | refine Kept.foldl ?_ ?_ | intro _ | refine KeptP.foldl ?_ ?_ | refine KeptP.of_eq (by assumption) ?_ | dsimp only | split | dsimp only | refine KeptP.fst ?_ | refine KeptP.mk ?_ | fail_if_no_progress (refine Kept.upd ?_ (by rfl) (by intro p hp; cases p <;> first | rfl | exact (Kept.no hm hp (by decide)).elim)))
theorem State.enterLoop_keeps {m : Nat} {r : State} (s : State) (c : Nat) (x2 : Running) (x : RStep) (hm : Nat.land 512 m = 512) (h : Kept m r s) : Kept m r (State.enterLoop s c x2 x) := by
  unfold State.enterLoop
  with_reducible repeat' (first | assumption | exact Kept.sub hm rfl | exact Kept.refl _ _ | refine KeptRes.next ?_ | refine Kept.cond ?_ ?_ | refine KeptRes.cond ?_ ?_ | refine KeptP.cond ?_ ?_ | apply State.goStep_keeps | apply State.setRun_keeps | refine Kept.foldl ?_ ?_ | intro _ | refine KeptP.foldl ?_ ?_ | refine KeptP.of_eq (by assumption) ?_ | dsimp only | split | dsimp only | refine KeptP.fst ?_ | refine KeptP.mk ?_ | fail_if_no_progress (refine Kept.upd ?_ (by rfl) (by intro p hp; cases p <;> first | rfl | exact (Kept.no hm hp (by decide)).elim)))
theorem State.closeLoop_keeps {m : Nat} {r : State} (s : State) (c : Nat) (x2 : Running) (hm : Nat.land 512 m = 512) (h : Kept m r s) : Kept m r (State.closeLoop s c x2) := by
  unfold State.closeLoop
  with_reducible repeat' (first | assumption | exact Kept.sub hm rfl | exact Kept.refl _ _ | refine KeptRes.next ?_ | refine Kept.cond ?_ ?_ | refine KeptRes.cond ?_ ?_ | refine KeptP.cond ?_ ?_ | apply State.goStep_keeps | apply State.setRun_keeps | refine Kept.foldl ?_ ?_ | intro _ | refine KeptP.foldl ?_ ?_ | refine KeptP.of_eq (by assumption) ?_ | dsimp only | split | dsimp only | refine KeptP.fst ?_ | refine KeptP.mk ?_ | fail_if_no_progress (refine Kept.upd ?_ (by rfl) (by intro p hp; cases p <;> first | rfl | exact (Kept.no hm hp (by decide)).elim)))
theorem State.setPeer_keeps {m : Nat} {r : State} (s : State) (x1 : Nat) (p : Peer) (hm : Nat.land 262144 m = 262144) (h : Kept m r s) : Kept m r (State.setPeer s x1 p) := by
  unfold State.setPeer
  with_reducible repeat' (first | assumption | exact Kept.sub hm rfl | exact Kept.refl _ _ | refine KeptRes.next ?_ | refine Kept.cond ?_ ?_ | refine KeptRes.cond ?_ ?_ | refine KeptP.cond ?_ ?_ | refine Kept.foldl ?_ ?_ | intro _ | refine KeptP.foldl ?_ ?_ | refine KeptP.of_eq (by assumption) ?_ | dsimp only | split | dsimp only | refine KeptP.fst ?_ | refine KeptP.mk ?_ | fail_if_no_progress (refine Kept.upd ?_ (by rfl) (by intro p hp; cases p <;> first | rfl | exact (Kept.no hm hp (by decide)).elim)))
theorem State.sendHeartbeats_keeps {m : Nat} {r : State} (s : State) (hm : Nat.land 16400 m = 16400) (h : Kept m r s) : Kept m r (State.sendHeartbeats s) := by
  unfold State.sendHeartbeats
  with_reducible repeat' (first | assumption | exact Kept.sub hm rfl | exact Kept.refl _ _ | refine KeptRes.next ?_ | refine Kept.cond ?_ ?_ | refine KeptRes.cond ?_ ?_ | refine KeptP.cond ?_ ?_ | apply State.sendMember_keeps | refine Kept.foldl ?_ ?_ | intro _ | refine KeptP.foldl ?_ ?_ | refine KeptP.of_eq (by assumption) ?_ | dsimp only | split | dsimp only | refine KeptP.fst ?_ | refine KeptP.mk ?_ | fail_if_no_progress (refine Kept.upd ?_ (by rfl) (by intro p hp; cases p <;> first | rfl | exact (Kept.no hm hp (by decide)).elim)))
theorem State.kickBegins_keeps {m : Nat} {r : State} (s : State) (hm : Nat.land 262144 m = 262144) (h : Kept m r s) : Kept m r (State.kickBegins s) := by
  unfold State.kickBegins
  with_reducible repeat' (first | assumption | exact Kept.sub hm rfl | exact Kept.refl _ _ | refine KeptRes.next ?_ | refine Kept.cond ?_ ?_ | refine KeptRes.cond ?_ ?_ | refine KeptP.cond ?_ ?_ | refine Kept.foldl ?_ ?_ | intro _ | refine KeptP.foldl ?_ ?_ | refine KeptP.of_eq (by assumption) ?_ | dsimp only | split | dsimp only | refine KeptP.fst ?_ | refine KeptP.mk ?_ | fail_if_no_progress (refine Kept.upd ?_ (by rfl) (by intro p hp; cases p <;> first | rfl | exact (Kept.no hm hp (by decide)).elim)))
theorem State.sendCons_keeps {m : Nat} {r : State} (s : State) (kind : Nat) (p : Proposal) (frame : Nat) (to' : Nat) (hm : Nat.land 16400 m = 16400) (h : Kept m r s) : Kept m r (State.sendCons s kind p frame to') := by
  unfold State.sendCons
  with_reducible repeat' (first | assumption | exact Kept.sub hm rfl | exact Kept.refl _ _ | refine KeptRes.next ?_ | refine Kept.cond ?_ ?_ | refine KeptRes.cond ?_ ?_ | refine KeptP.cond ?_ ?_ | apply State.sendMember_keeps | refine Kept.foldl ?_ ?_ | intro _ | refine KeptP.foldl ?_ ?_ | refine KeptP.of_eq (by assumption) ?_ | dsimp only | split | dsimp only | refine KeptP.fst ?_ | refine KeptP.mk ?_ | fail_if_no_progress (refine Kept.upd ?_ (by rfl) (by intro p hp; cases p <;> first | rfl | exact (Kept.no hm hp (by decide)).elim)))
theorem State.sendMap_keeps {m : Nat} {r : State} (s : State) (x1 : Nat) (hm : Nat.land 2359312 m = 2359312) (h : Kept m r s) : Kept m r (State.sendMap s x1) := by
  unfold State.sendMap
  with_reducible repeat' (first | assumption | exact Kept.sub hm rfl | exact Kept.refl _ _ | refine KeptRes.next ?_ | refine Kept.cond ?_ ?_ | refine KeptRes.cond ?_ ?_ | refine KeptP.cond ?_ ?_ | apply State.sendItem_keeps | refine Kept.foldl ?_ ?_ | intro _ | refine KeptP.foldl ?_ ?_ | refine KeptP.of_eq (by assumption) ?_ | dsimp only | split | dsimp only | refine KeptP.fst ?_ | refine KeptP.mk ?_ | fail_if_no_progress (refine Kept.upd ?_ (by rfl) (by intro p hp; cases p <;> first | rfl | exact (Kept.no hm hp (by decide)).elim)))
theorem State.tryCommit_keeps {m : Nat} {r : State} (s : State) (hm : Nat.land 2375696 m = 2375696) (h : Kept m r s) : Kept m r (State.tryCommit s) := by
  unfold State.tryCommit
  with_reducible repeat' (first | assumption | exact Kept.sub hm rfl | exact Kept.refl _ _ | refine KeptRes.next ?_ | refine Kept.cond ?_ ?_ | refine KeptRes.cond ?_ ?_ | refine KeptP.cond ?_ ?_ | apply State.sendCons_keeps | apply State.sendMap_keeps | refine Kept.foldl ?_ ?_ | intro _ | refine KeptP.foldl ?_ ?_ | refine KeptP.of_eq (by assumption) ?_ | dsimp only | split | dsimp only | refine KeptP.fst ?_ | refine KeptP.mk ?_ | fail_if_no_progress (refine Kept.upd ?_ (by rfl) (by intro p hp; cases p <;> first | rfl | exact (Kept.no hm hp (by decide)).elim)))
theorem State.propose_keeps {m : Nat} {r : State} (s : State) (p : Proposal) (hm : Nat.land 2375696 m = 2375696) (h : Kept m r s) : Kept m r (State.propose s p) := by
  unfold State.propose
  with_reducible repeat' (first | assumption | exact Kept.sub hm rfl | exact Kept.refl _ _ | refine KeptRes.next ?_ | refine Kept.cond ?_ ?_ | refine KeptRes.cond ?_ ?_ | refine KeptP.cond ?_ ?_ | apply State.sendCons_keeps | apply State.tryCommit_keeps | refine Kept.foldl ?_ ?_ | intro _ | refine KeptP.foldl ?_ ?_ | refine KeptP.of_eq (by assumption) ?_ | dsimp only | split | dsimp only | refine KeptP.fst ?_ | refine KeptP.mk ?_ | fail_if_no_progress (refine Kept.upd ?_ (by rfl) (by intro p hp; cases p <;> first | rfl | exact (Kept.no hm hp (by decide)).elim)))
theorem State.coordinate_keeps {m : Nat} {r : State} (s : State) (hm : Nat.land 2375696 m = 2375696) (h : Kept m r s) : Kept m r (State.coordinate s) := by
  unfold State.coordinate
  with_reducible repeat' (first | assumption | exact Kept.sub hm rfl | exact Kept.refl _ _ | refine KeptRes.next ?_ | refine Kept.cond ?_ ?_ | refine KeptRes.cond ?_ ?_ | refine KeptP.cond ?_ ?_ | apply State.propose_keeps | refine Kept.foldl ?_ ?_ | intro _ | refine KeptP.foldl ?_ ?_ | refine KeptP.of_eq (by assumption) ?_ | dsimp only | split | dsimp only | refine KeptP.fst ?_ | refine KeptP.mk ?_ | fail_if_no_progress (refine Kept.upd ?_ (by rfl) (by intro p hp; cases p <;> first | rfl | exact (Kept.no hm hp (by decide)).elim)))
theorem State.suspect_keeps {m : Nat} {r : State} (s : State) (x : Nat) (hm : Nat.land 2375696 m = 2375696) (h : Kept m r s) : Kept m r (State.suspect s x) := by
  unfold State.suspect
  with_reducible repeat' (first | assumption | exact Kept.sub hm rfl | exact Kept.refl _ _ | refine KeptRes.next ?_ | refine Kept.cond ?_ ?_ | refine KeptRes.cond ?_ ?_ | refine KeptP.cond ?_ ?_ | apply State.coordinate_keeps | apply State.kickBegins_keeps | apply State.sendHeartbeats_keeps | refine Kept.foldl ?_ ?_ | intro _ | refine KeptP.foldl ?_ ?_ | refine KeptP.of_eq (by assumption) ?_ | dsimp only | split | dsimp only | refine KeptP.fst ?_ | refine KeptP.mk ?_ | fail_if_no_progress (refine Kept.upd ?_ (by rfl) (by intro p hp; cases p <;> first | rfl | exact (Kept.no hm hp (by decide)).elim)))
theorem State.unsuspect_keeps {m : Nat} {r : State} (s : State) (x : Nat) (hm : Nat.land 278544 m = 278544) (h : Kept m r s) : Kept m r (State.unsuspect s x) := by
  unfold State.unsuspect
  with_reducible repeat' (first | assumption | exact Kept.sub hm rfl | exact Kept.refl _ _ | refine KeptRes.next ?_ | refine Kept.cond ?_ ?_ | refine KeptRes.cond ?_ ?_ | refine KeptP.cond ?_ ?_ | apply State.sendHeartbeats_keeps | refine Kept.foldl ?_ ?_ | intro _ | refine KeptP.foldl ?_ ?_ | refine KeptP.of_eq (by assumption) ?_ | dsimp only | split | dsimp only | refine KeptP.fst ?_ | refine KeptP.mk ?_ | fail_if_no_progress (refine Kept.upd ?_ (by rfl) (by intro p hp; cases p <;> first | rfl | exact (Kept.no hm hp (by decide)).elim)))
theorem State.selfFence_keeps {m : Nat} {r : State} (s : State) (hm : Nat.land 16752538 m = 16752538) (h : Kept m r s) : Kept m r (State.selfFence s) := by
  unfold State.selfFence
  with_reducible repeat' (first | assumption | exact Kept.sub hm rfl | exact Kept.refl _ _ | refine KeptRes.next ?_ | refine Kept.cond ?_ ?_ | refine KeptRes.cond ?_ ?_ | refine KeptP.cond ?_ ?_ | apply State.abandonPasses_keeps | apply State.emit_keeps | apply State.fenceCommands_keeps | apply State.stopEntry_keeps | refine Kept.foldl ?_ ?_ | intro _ | refine KeptP.foldl ?_ ?_ | refine KeptP.of_eq (by assumption) ?_ | dsimp only | split | dsimp only | refine KeptP.fst ?_ | refine KeptP.mk ?_ | fail_if_no_progress (refine Kept.upd ?_ (by rfl) (by intro p hp; cases p <;> first | rfl | exact (Kept.no hm hp (by decide)).elim)))
theorem State.takeSlot_keeps {m : Nat} {r : State} (s : State) (slot : Nat) (hm : Nat.land 8388864 m = 8388864) (h : Kept m r s) : Kept m r (State.takeSlot s slot) := by
  unfold State.takeSlot
  exact h.trans ⟨⟨rfl, List.prefix_refl _, fun w => Memory.wf_sets (Memory.wf_filter _ w), id⟩, by intro p hp; cases p <;> first | rfl | exact (Kept.no hm hp (by decide)).elim⟩
theorem State.leaveSlot_keeps {m : Nat} {r : State} (s : State) (slot : Nat) (hm : Nat.land 8388864 m = 8388864) (h : Kept m r s) : Kept m r (State.leaveSlot s slot) := by
  unfold State.leaveSlot
  exact h.trans ⟨⟨rfl, List.prefix_refl _, fun w => Memory.wf_filter _ w, id⟩, by intro p hp; cases p <;> first | rfl | exact (Kept.no hm hp (by decide)).elim⟩
theorem State.takeFree_keeps {m : Nat} {r : State} (s : State) (t : Tier) (n : Nat) (hm : Nat.land 256 m = 256) (h : Kept m r s) : Kept m r (State.takeFree s t n) := by
  unfold State.takeFree
  with_reducible repeat' (first | assumption | exact Kept.sub hm rfl | exact Kept.refl _ _ | refine KeptRes.next ?_ | refine Kept.cond ?_ ?_ | refine KeptRes.cond ?_ ?_ | refine KeptP.cond ?_ ?_ | refine Kept.foldl ?_ ?_ | intro _ | refine KeptP.foldl ?_ ?_ | refine KeptP.of_eq (by assumption) ?_ | dsimp only | split | dsimp only | refine KeptP.fst ?_ | refine KeptP.mk ?_ | fail_if_no_progress (refine Kept.upd ?_ (by rfl) (by intro p hp; cases p <;> first | rfl | exact (Kept.no hm hp (by decide)).elim)))
theorem State.giveFree_keeps {m : Nat} {r : State} (s : State) (t : Tier) (n : Nat) (hm : Nat.land 256 m = 256) (h : Kept m r s) : Kept m r (State.giveFree s t n) := by
  unfold State.giveFree
  with_reducible repeat' (first | assumption | exact Kept.sub hm rfl | exact Kept.refl _ _ | refine KeptRes.next ?_ | refine Kept.cond ?_ ?_ | refine KeptRes.cond ?_ ?_ | refine KeptP.cond ?_ ?_ | refine Kept.foldl ?_ ?_ | intro _ | refine KeptP.foldl ?_ ?_ | refine KeptP.of_eq (by assumption) ?_ | dsimp only | split | dsimp only | refine KeptP.fst ?_ | refine KeptP.mk ?_ | fail_if_no_progress (refine Kept.upd ?_ (by rfl) (by intro p hp; cases p <;> first | rfl | exact (Kept.no hm hp (by decide)).elim)))
theorem State.takeSlabMirror_keeps {m : Nat} {r : State} (s : State) (slot : Nat) (n : Nat) (hm : Nat.land 256 m = 256) (h : Kept m r s) : Kept m r (State.takeSlabMirror s slot n) := by
  unfold State.takeSlabMirror
  with_reducible repeat' (first | assumption | exact Kept.sub hm rfl | exact Kept.refl _ _ | refine KeptRes.next ?_ | refine Kept.cond ?_ ?_ | refine KeptRes.cond ?_ ?_ | refine KeptP.cond ?_ ?_ | apply State.takeFree_keeps | refine Kept.foldl ?_ ?_ | intro _ | refine KeptP.foldl ?_ ?_ | refine KeptP.of_eq (by assumption) ?_ | dsimp only | split | dsimp only | refine KeptP.fst ?_ | refine KeptP.mk ?_ | fail_if_no_progress (refine Kept.upd ?_ (by rfl) (by intro p hp; cases p <;> first | rfl | exact (Kept.no hm hp (by decide)).elim)))
theorem State.takeMirror_keeps {m : Nat} {r : State} (s : State) (slot : Nat) (hm : Nat.land 256 m = 256) (h : Kept m r s) : Kept m r (State.takeMirror s slot) := by
  unfold State.takeMirror
  with_reducible repeat' (first | assumption | exact Kept.sub hm rfl | exact Kept.refl _ _ | refine KeptRes.next ?_ | refine Kept.cond ?_ ?_ | refine KeptRes.cond ?_ ?_ | refine KeptP.cond ?_ ?_ | apply State.takeSlabMirror_keeps | refine Kept.foldl ?_ ?_ | intro _ | refine KeptP.foldl ?_ ?_ | refine KeptP.of_eq (by assumption) ?_ | dsimp only | split | dsimp only | refine KeptP.fst ?_ | refine KeptP.mk ?_ | fail_if_no_progress (refine Kept.upd ?_ (by rfl) (by intro p hp; cases p <;> first | rfl | exact (Kept.no hm hp (by decide)).elim)))
theorem State.freeMirror_keeps {m : Nat} {r : State} (s : State) (slot : Nat) (hm : Nat.land 256 m = 256) (h : Kept m r s) : Kept m r (State.freeMirror s slot) := by
  unfold State.freeMirror
  with_reducible repeat' (first | assumption | exact Kept.sub hm rfl | exact Kept.refl _ _ | refine KeptRes.next ?_ | refine Kept.cond ?_ ?_ | refine KeptRes.cond ?_ ?_ | refine KeptP.cond ?_ ?_ | apply State.giveFree_keeps | refine Kept.foldl ?_ ?_ | intro _ | refine KeptP.foldl ?_ ?_ | refine KeptP.of_eq (by assumption) ?_ | dsimp only | split | dsimp only | refine KeptP.fst ?_ | refine KeptP.mk ?_ | fail_if_no_progress (refine Kept.upd ?_ (by rfl) (by intro p hp; cases p <;> first | rfl | exact (Kept.no hm hp (by decide)).elim)))
theorem State.moveSlot_keeps {m : Nat} {r : State} (s : State) (old : State) (slot : Nat) (hm : Nat.land 8388864 m = 8388864) (h : Kept m r s) : Kept m r (State.moveSlot s old slot) := by
  unfold State.moveSlot
  with_reducible repeat' (first | assumption | exact Kept.sub hm rfl | exact Kept.refl _ _ | refine KeptRes.next ?_ | refine Kept.cond ?_ ?_ | refine KeptRes.cond ?_ ?_ | refine KeptP.cond ?_ ?_ | apply State.giveFree_keeps | apply State.leaveSlot_keeps | apply State.takeFree_keeps | apply State.takeMirror_keeps | refine Kept.foldl ?_ ?_ | intro _ | refine KeptP.foldl ?_ ?_ | refine KeptP.of_eq (by assumption) ?_ | dsimp only | split | dsimp only | refine KeptP.fst ?_ | refine KeptP.mk ?_ | fail_if_no_progress (refine Kept.upd ?_ (by rfl) (by intro p hp; cases p <;> first | rfl | exact (Kept.no hm hp (by decide)).elim)))
theorem State.checkMirror_keeps {m : Nat} {r : State} (s : State) (slot : Nat) (from' : Nat) (hm : Nat.land 262160 m = 262160) (h : Kept m r s) : Kept m r (State.checkMirror s slot from') := by
  unfold State.checkMirror
  with_reducible repeat' (first | assumption | exact Kept.sub hm rfl | exact Kept.refl _ _ | refine KeptRes.next ?_ | refine Kept.cond ?_ ?_ | refine KeptRes.cond ?_ ?_ | refine KeptP.cond ?_ ?_ | apply State.emit_keeps | refine Kept.foldl ?_ ?_ | intro _ | refine KeptP.foldl ?_ ?_ | refine KeptP.of_eq (by assumption) ?_ | dsimp only | split | dsimp only | refine KeptP.fst ?_ | refine KeptP.mk ?_ | fail_if_no_progress (refine Kept.upd ?_ (by rfl) (by intro p hp; cases p <;> first | rfl | exact (Kept.no hm hp (by decide)).elim)))
theorem State.loseUncopied_keeps {m : Nat} {r : State} (s : State) (slot : Nat) (hm : Nat.land 2359568 m = 2359568) (h : Kept m r s) : Kept m r (State.loseUncopied s slot) := by
  unfold State.loseUncopied
  with_reducible repeat' (first | assumption | exact Kept.sub hm rfl | exact Kept.refl _ _ | refine KeptRes.next ?_ | refine Kept.cond ?_ ?_ | refine KeptRes.cond ?_ ?_ | refine KeptP.cond ?_ ?_ | apply State.poison_keeps | refine Kept.foldl ?_ ?_ | intro _ | refine KeptP.foldl ?_ ?_ | refine KeptP.of_eq (by assumption) ?_ | dsimp only | split | dsimp only | refine KeptP.fst ?_ | refine KeptP.mk ?_ | fail_if_no_progress (refine Kept.upd ?_ (by rfl) (by intro p hp; cases p <;> first | rfl | exact (Kept.no hm hp (by decide)).elim)))
theorem State.promote_keeps {m : Nat} {r : State} (s : State) (slot : Nat) (hm : Nat.land 15040786 m = 15040786) (h : Kept m r s) : Kept m r (State.promote s slot) := by
  unfold State.promote
  with_reducible repeat' (first | assumption | exact Kept.sub hm rfl | exact Kept.refl _ _ | refine KeptRes.next ?_ | refine Kept.cond ?_ ?_ | refine KeptRes.cond ?_ ?_ | refine KeptP.cond ?_ ?_ | apply State.loseUncopied_keeps | apply State.raise_keeps | apply State.takeSlot_keeps | refine Kept.foldl ?_ ?_ | intro _ | refine KeptP.foldl ?_ ?_ | refine KeptP.of_eq (by assumption) ?_ | dsimp only | split | dsimp only | refine KeptP.fst ?_ | refine KeptP.mk ?_ | fail_if_no_progress (refine Kept.upd ?_ (by rfl) (by intro p hp; cases p <;> first | rfl | exact (Kept.no hm hp (by decide)).elim)))
theorem State.loseSlot_keeps {m : Nat} {r : State} (s : State) (slot : Nat) (hm : Nat.land 2359568 m = 2359568) (h : Kept m r s) : Kept m r (State.loseSlot s slot) := by
  unfold State.loseSlot
  with_reducible repeat' (first | assumption | exact Kept.sub hm rfl | exact Kept.refl _ _ | refine KeptRes.next ?_ | refine Kept.cond ?_ ?_ | refine KeptRes.cond ?_ ?_ | refine KeptP.cond ?_ ?_ | apply State.poison_keeps | refine Kept.foldl ?_ ?_ | intro _ | refine KeptP.foldl ?_ ?_ | refine KeptP.of_eq (by assumption) ?_ | dsimp only | split | dsimp only | refine KeptP.fst ?_ | refine KeptP.mk ?_ | fail_if_no_progress (refine Kept.upd ?_ (by rfl) (by intro p hp; cases p <;> first | rfl | exact (Kept.no hm hp (by decide)).elim)))
theorem State.loseFostered_keeps {m : Nat} {r : State} (s : State) (x : Nat) (hm : Nat.land 262400 m = 262400) (h : Kept m r s) : Kept m r (State.loseFostered s x) := by
  unfold State.loseFostered
  with_reducible repeat' (first | assumption | exact Kept.sub hm rfl | exact Kept.refl _ _ | refine KeptRes.next ?_ | refine Kept.cond ?_ ?_ | refine KeptRes.cond ?_ ?_ | refine KeptP.cond ?_ ?_ | refine Kept.foldl ?_ ?_ | intro _ | refine KeptP.foldl ?_ ?_ | refine KeptP.of_eq (by assumption) ?_ | dsimp only | split | dsimp only | refine KeptP.fst ?_ | refine KeptP.mk ?_ | fail_if_no_progress (refine Kept.upd ?_ (by rfl) (by intro p hp; cases p <;> first | rfl | exact (Kept.no hm hp (by decide)).elim)))
theorem State.resendRaws_keeps {m : Nat} {r : State} (s : State) (x : Nat) (home : Nat → Nat) (hm : Nat.land 16771474 m = 16771474) (h : Kept m r s) : Kept m r (State.resendRaws s x home) := by
  unfold State.resendRaws
  with_reducible repeat' (first | assumption | exact Kept.sub hm rfl | exact Kept.refl _ _ | refine KeptRes.next ?_ | refine Kept.cond ?_ ?_ | refine KeptRes.cond ?_ ?_ | refine KeptP.cond ?_ ?_ | apply State.respond_keeps | apply State.routeRaw_keeps | refine Kept.foldl ?_ ?_ | intro _ | refine KeptP.foldl ?_ ?_ | refine KeptP.of_eq (by assumption) ?_ | dsimp only | split | dsimp only | refine KeptP.fst ?_ | refine KeptP.mk ?_ | fail_if_no_progress (refine Kept.upd ?_ (by rfl) (by intro p hp; cases p <;> first | rfl | exact (Kept.no hm hp (by decide)).elim)))
theorem State.sendAgain_keeps {m : Nat} {r : State} (s : State) (item : Nat) (x2 : Nat) (x : Away) (hm : Nat.land 262160 m = 262160) (h : Kept m r s) : Kept m r (State.sendAgain s item x2 x) := by
  unfold State.sendAgain
  with_reducible repeat' (first | assumption | exact Kept.sub hm rfl | exact Kept.refl _ _ | refine KeptRes.next ?_ | refine Kept.cond ?_ ?_ | refine KeptRes.cond ?_ ?_ | refine KeptP.cond ?_ ?_ | apply State.emit_keeps | refine Kept.foldl ?_ ?_ | intro _ | refine KeptP.foldl ?_ ?_ | refine KeptP.of_eq (by assumption) ?_ | dsimp only | split | dsimp only | refine KeptP.fst ?_ | refine KeptP.mk ?_ | fail_if_no_progress (refine Kept.upd ?_ (by rfl) (by intro p hp; cases p <;> first | rfl | exact (Kept.no hm hp (by decide)).elim)))
theorem State.resendItem_keeps {m : Nat} {r : State} (s : State) (id : Nat) (i : Item) (x : Away) (heirs : List Nat) (hm : Nat.land 2359440 m = 2359440) (h : Kept m r s) : Kept m r (State.resendItem s id i x heirs) := by
  unfold State.resendItem
  with_reducible repeat' (first | assumption | exact Kept.sub hm rfl | exact Kept.refl _ _ | refine KeptRes.next ?_ | refine Kept.cond ?_ ?_ | refine KeptRes.cond ?_ ?_ | refine KeptP.cond ?_ ?_ | apply State.answerItem_keeps | apply State.emit_keeps | apply State.holdAnswered_keeps | apply State.modEntry_keeps | apply State.sendAgain_keeps | apply State.sendItem_keeps | refine Kept.foldl ?_ ?_ | intro _ | refine KeptP.foldl ?_ ?_ | refine KeptP.of_eq (by assumption) ?_ | dsimp only | split | dsimp only | refine KeptP.fst ?_ | refine KeptP.mk ?_ | fail_if_no_progress (refine Kept.upd ?_ (by rfl) (by intro p hp; cases p <;> first | rfl | exact (Kept.no hm hp (by decide)).elim)))
theorem State.resendItems_keeps {m : Nat} {r : State} (s : State) (x : Nat) (heirs : List Nat) (hm : Nat.land 16649114 m = 16649114) (h : Kept m r s) : Kept m r (State.resendItems s x heirs) := by
  unfold State.resendItems
  with_reducible repeat' (first | assumption | exact Kept.sub hm rfl | exact Kept.refl _ _ | refine KeptRes.next ?_ | refine Kept.cond ?_ ?_ | refine KeptRes.cond ?_ ?_ | refine KeptP.cond ?_ ?_ | apply State.coreAnswered_keeps | apply State.dropAway_keeps | apply State.fetchAnswered_keeps | apply State.resendItem_keeps | apply State.sendAgain_keeps | refine Kept.foldl ?_ ?_ | intro _ | refine KeptP.foldl ?_ ?_ | refine KeptP.of_eq (by assumption) ?_ | dsimp only | split | dsimp only | refine KeptP.fst ?_ | refine KeptP.mk ?_ | fail_if_no_progress (refine Kept.upd ?_ (by rfl) (by intro p hp; cases p <;> first | rfl | exact (Kept.no hm hp (by decide)).elim)))
theorem State.fenceMember_keeps {m : Nat} {r : State} (s : State) (x : Nat) (heirs : List Nat) (home : Nat → Nat) (hm : Nat.land 16777114 m = 16777114) (h : Kept m r s) : Kept m r (State.fenceMember s x heirs home) := by
  unfold State.fenceMember
  with_reducible repeat' (first | assumption | exact Kept.sub hm rfl | exact Kept.refl _ _ | refine KeptRes.next ?_ | refine Kept.cond ?_ ?_ | refine KeptRes.cond ?_ ?_ | refine KeptP.cond ?_ ?_ | apply State.abandonPasses_keeps | apply State.dropEntry_keeps | apply State.dropWalks_keeps | apply State.probeDest_keeps | apply State.resendItems_keeps | apply State.resendLost_keeps | apply State.resendRaws_keeps | apply State.setPort_keeps | apply State.tryFence_keeps | apply State.withdraw_keeps | refine Kept.foldl ?_ ?_ | intro _ | refine KeptP.foldl ?_ ?_ | refine KeptP.of_eq (by assumption) ?_ | dsimp only | split | dsimp only | refine KeptP.fst ?_ | refine KeptP.mk ?_ | fail_if_no_progress (refine Kept.upd ?_ (by rfl) (by intro p hp; cases p <;> first | rfl | exact (Kept.no hm hp (by decide)).elim)))
theorem State.pageMirrored_keeps {m : Nat} {r : State} (s : State) (slot : Nat) (page : Nat) (hm : Nat.land 2359312 m = 2359312) (h : Kept m r s) : Kept m r (State.pageMirrored s slot page) := by
  unfold State.pageMirrored
  with_reducible repeat' (first | assumption | exact Kept.sub hm rfl | exact Kept.refl _ _ | refine KeptRes.next ?_ | refine Kept.cond ?_ ?_ | refine KeptRes.cond ?_ ?_ | refine KeptP.cond ?_ ?_ | apply State.sendItem_keeps | refine Kept.foldl ?_ ?_ | intro _ | refine KeptP.foldl ?_ ?_ | refine KeptP.of_eq (by assumption) ?_ | dsimp only | split | dsimp only | refine KeptP.fst ?_ | refine KeptP.mk ?_ | fail_if_no_progress (refine Kept.upd ?_ (by rfl) (by intro p hp; cases p <;> first | rfl | exact (Kept.no hm hp (by decide)).elim)))
theorem State.tellHolders_keeps {m : Nat} {r : State} (s : State) (slot : Nat) (hm : Nat.land 2359312 m = 2359312) (h : Kept m r s) : Kept m r (State.tellHolders s slot) := by
  unfold State.tellHolders
  with_reducible repeat' (first | assumption | exact Kept.sub hm rfl | exact Kept.refl _ _ | refine KeptRes.next ?_ | refine Kept.cond ?_ ?_ | refine KeptRes.cond ?_ ?_ | refine KeptP.cond ?_ ?_ | apply State.tellBlock_keeps | apply State.tellShadow_keeps | refine Kept.foldl ?_ ?_ | intro _ | refine KeptP.foldl ?_ ?_ | refine KeptP.of_eq (by assumption) ?_ | dsimp only | split | dsimp only | refine KeptP.fst ?_ | refine KeptP.mk ?_ | fail_if_no_progress (refine Kept.upd ?_ (by rfl) (by intro p hp; cases p <;> first | rfl | exact (Kept.no hm hp (by decide)).elim)))
theorem State.copySlot_keeps {m : Nat} {r : State} (s : State) (owner : Nat) (slot : Nat) (subject : Nat) (resync : Bool) (hm : Nat.land 2359312 m = 2359312) (h : Kept m r s) : Kept m r (State.copySlot s owner slot subject resync) := by
  unfold State.copySlot
  with_reducible repeat' (first | assumption | exact Kept.sub hm rfl | exact Kept.refl _ _ | refine KeptRes.next ?_ | refine Kept.cond ?_ ?_ | refine KeptRes.cond ?_ ?_ | refine KeptP.cond ?_ ?_ | apply State.sendItem_keeps | apply State.tellHolders_keeps | refine Kept.foldl ?_ ?_ | intro _ | refine KeptP.foldl ?_ ?_ | refine KeptP.of_eq (by assumption) ?_ | dsimp only | split | dsimp only | refine KeptP.fst ?_ | refine KeptP.mk ?_ | fail_if_no_progress (refine Kept.upd ?_ (by rfl) (by intro p hp; cases p <;> first | rfl | exact (Kept.no hm hp (by decide)).elim)))
theorem State.exposeChanged_keeps {m : Nat} {r : State} (s : State) (oldPartner : Nat → Option Nat) (hm : Nat.land 2359312 m = 2359312) (h : Kept m r s) : Kept m r (State.exposeChanged s oldPartner) := by
  unfold State.exposeChanged
  with_reducible repeat' (first | assumption | exact Kept.sub hm rfl | exact Kept.refl _ _ | refine KeptRes.next ?_ | refine Kept.cond ?_ ?_ | refine KeptRes.cond ?_ ?_ | refine KeptP.cond ?_ ?_ | apply State.tellHolders_keeps | refine Kept.foldl ?_ ?_ | intro _ | refine KeptP.foldl ?_ ?_ | refine KeptP.of_eq (by assumption) ?_ | dsimp only | split | dsimp only | refine KeptP.fst ?_ | refine KeptP.mk ?_ | fail_if_no_progress (refine Kept.upd ?_ (by rfl) (by intro p hp; cases p <;> first | rfl | exact (Kept.no hm hp (by decide)).elim)))
theorem State.breakAssign_keeps {m : Nat} {r : State} (s : State) (x1 : Nat) (hm : Nat.land 2457872 m = 2457872) (h : Kept m r s) : Kept m r (State.breakAssign s x1) := by
  unfold State.breakAssign
  with_reducible repeat' (first | assumption | exact Kept.sub hm rfl | exact Kept.refl _ _ | refine KeptRes.next ?_ | refine Kept.cond ?_ ?_ | refine KeptRes.cond ?_ ?_ | refine KeptP.cond ?_ ?_ | apply State.endAssign_keeps | apply State.finish_keeps | refine Kept.foldl ?_ ?_ | intro _ | refine KeptP.foldl ?_ ?_ | refine KeptP.of_eq (by assumption) ?_ | dsimp only | split | dsimp only | refine KeptP.fst ?_ | refine KeptP.mk ?_ | fail_if_no_progress (refine Kept.upd ?_ (by rfl) (by intro p hp; cases p <;> first | rfl | exact (Kept.no hm hp (by decide)).elim)))
theorem State.newMap_keeps {m : Nat} {r : State} (s : State) (old : State) (p : Proposal) (hm : Nat.land 262144 m = 262144) (h : Kept m r s) : Kept m r (State.newMap s old p) := by
  unfold State.newMap
  with_reducible repeat' (first | assumption | exact Kept.sub hm rfl | exact Kept.refl _ _ | refine KeptRes.next ?_ | refine Kept.cond ?_ ?_ | refine KeptRes.cond ?_ ?_ | refine KeptP.cond ?_ ?_ | refine Kept.foldl ?_ ?_ | intro _ | refine KeptP.foldl ?_ ?_ | refine KeptP.of_eq (by assumption) ?_ | dsimp only | split | dsimp only | refine KeptP.fst ?_ | refine KeptP.mk ?_ | fail_if_no_progress (refine Kept.upd ?_ (by rfl) (by intro p hp; cases p <;> first | rfl | exact (Kept.no hm hp (by decide)).elim)))
theorem State.promoteLost_keeps {m : Nat} {r : State} (s : State) (old : State) (p : Proposal) (slot : Nat) (hm : Nat.land 15040794 m = 15040794) (h : Kept m r s) : Kept m r (State.promoteLost s old p slot) := by
  unfold State.promoteLost
  with_reducible repeat' (first | assumption | exact Kept.sub hm rfl | exact Kept.refl _ _ | refine KeptRes.next ?_ | refine Kept.cond ?_ ?_ | refine KeptRes.cond ?_ ?_ | refine KeptP.cond ?_ ?_ | apply State.checkMirror_keeps | apply State.loseSlot_keeps | apply State.pokeBytes_keeps | apply State.promote_keeps | apply State.tickFresh_keeps | refine Kept.foldl ?_ ?_ | intro _ | refine KeptP.foldl ?_ ?_ | refine KeptP.of_eq (by assumption) ?_ | dsimp only | split | dsimp only | refine KeptP.fst ?_ | refine KeptP.mk ?_ | fail_if_no_progress (refine Kept.upd ?_ (by rfl) (by intro p hp; cases p <;> first | rfl | exact (Kept.no hm hp (by decide)).elim)))
theorem State.loseStripe_keeps {m : Nat} {r : State} (s : State) (x1 : LostPage) (hm : Nat.land 2359568 m = 2359568) (h : Kept m r s) : Kept m r (State.loseStripe s x1) := by
  unfold State.loseStripe
  with_reducible repeat' (first | assumption | exact Kept.sub hm rfl | exact Kept.refl _ _ | refine KeptRes.next ?_ | refine Kept.cond ?_ ?_ | refine KeptRes.cond ?_ ?_ | refine KeptP.cond ?_ ?_ | apply State.poison_keeps | refine Kept.foldl ?_ ?_ | intro _ | refine KeptP.foldl ?_ ?_ | refine KeptP.of_eq (by assumption) ?_ | dsimp only | split | dsimp only | refine KeptP.fst ?_ | refine KeptP.mk ?_ | fail_if_no_progress (refine Kept.upd ?_ (by rfl) (by intro p hp; cases p <;> first | rfl | exact (Kept.no hm hp (by decide)).elim)))
theorem State.leaveMember_keeps {m : Nat} {r : State} (s : State) (old : State) (lost : List Nat) (x : Nat) (hm : Nat.land 16777114 m = 16777114) (h : Kept m r s) : Kept m r (State.leaveMember s old lost x) := by
  unfold State.leaveMember
  with_reducible repeat' (first | assumption | exact Kept.sub hm rfl | exact Kept.refl _ _ | refine KeptRes.next ?_ | refine Kept.cond ?_ ?_ | refine KeptRes.cond ?_ ?_ | refine KeptP.cond ?_ ?_ | apply State.fenceMember_keeps | apply State.loseFostered_keeps | apply State.setPeer_keeps | refine Kept.foldl ?_ ?_ | intro _ | refine KeptP.foldl ?_ ?_ | refine KeptP.of_eq (by assumption) ?_ | dsimp only | split | dsimp only | refine KeptP.fst ?_ | refine KeptP.mk ?_ | fail_if_no_progress (refine Kept.upd ?_ (by rfl) (by intro p hp; cases p <;> first | rfl | exact (Kept.no hm hp (by decide)).elim)))
theorem State.applyAssign_keeps {m : Nat} {r : State} (s : State) (old : State) (p : Proposal) (hm : Nat.land 15040786 m = 15040786) (h : Kept m r s) : Kept m r (State.applyAssign s old p) := by
  unfold State.applyAssign
  with_reducible repeat' (first | assumption | exact Kept.sub hm rfl | exact Kept.refl _ _ | refine KeptRes.next ?_ | refine Kept.cond ?_ ?_ | refine KeptRes.cond ?_ ?_ | refine KeptP.cond ?_ ?_ | apply State.promote_keeps | apply State.setPeer_keeps | refine Kept.foldl ?_ ?_ | intro _ | refine KeptP.foldl ?_ ?_ | refine KeptP.of_eq (by assumption) ?_ | dsimp only | split | dsimp only | refine KeptP.fst ?_ | refine KeptP.mk ?_ | fail_if_no_progress (refine Kept.upd ?_ (by rfl) (by intro p hp; cases p <;> first | rfl | exact (Kept.no hm hp (by decide)).elim)))
theorem State.applyAdmission_keeps {m : Nat} {r : State} (s : State) (p : Proposal) (hm : Nat.land 278528 m = 278528) (h : Kept m r s) : Kept m r (State.applyAdmission s p) := by
  unfold State.applyAdmission
  with_reducible repeat' (first | assumption | exact Kept.sub hm rfl | exact Kept.refl _ _ | refine KeptRes.next ?_ | refine Kept.cond ?_ ?_ | refine KeptRes.cond ?_ ?_ | refine KeptP.cond ?_ ?_ | apply State.setPeer_keeps | refine Kept.foldl ?_ ?_ | intro _ | refine KeptP.foldl ?_ ?_ | refine KeptP.of_eq (by assumption) ?_ | dsimp only | split | dsimp only | refine KeptP.fst ?_ | refine KeptP.mk ?_ | fail_if_no_progress (refine Kept.upd ?_ (by rfl) (by intro p hp; cases p <;> first | rfl | exact (Kept.no hm hp (by decide)).elim)))
theorem State.answerAsker_keeps {m : Nat} {r : State} (s : State) (granules : Nat) (hm : Nat.land 2359296 m = 2359296) (h : Kept m r s) : Kept m r (State.answerAsker s granules) := by
  unfold State.answerAsker
  with_reducible repeat' (first | assumption | exact Kept.sub hm rfl | exact Kept.refl _ _ | refine KeptRes.next ?_ | refine Kept.cond ?_ ?_ | refine KeptRes.cond ?_ ?_ | refine KeptP.cond ?_ ?_ | apply State.finish_keeps | refine Kept.foldl ?_ ?_ | intro _ | refine KeptP.foldl ?_ ?_ | refine KeptP.of_eq (by assumption) ?_ | dsimp only | split | dsimp only | refine KeptP.fst ?_ | refine KeptP.mk ?_ | fail_if_no_progress (refine Kept.upd ?_ (by rfl) (by intro p hp; cases p <;> first | rfl | exact (Kept.no hm hp (by decide)).elim)))
theorem State.applyChange_keeps {m : Nat} {r : State} (s : State) (p : Proposal) (hm : Nat.land 16777114 m = 16777114) (h : Kept m r s) : Kept m r (State.applyChange s p) := by
  unfold State.applyChange
  with_reducible repeat' (first | assumption | exact Kept.sub hm rfl | exact Kept.refl _ _ | refine KeptRes.next ?_ | refine Kept.cond ?_ ?_ | refine KeptRes.cond ?_ ?_ | refine KeptP.cond ?_ ?_ | apply State.answerAsker_keeps | apply State.applyAdmission_keeps | apply State.applyAssign_keeps | apply State.breakAssign_keeps | apply State.exposeChanged_keeps | apply State.leaveMember_keeps | apply State.loseStripe_keeps | apply State.moveSlot_keeps | apply State.newMap_keeps | apply State.promoteLost_keeps | apply State.selfFence_keeps | refine Kept.foldl ?_ ?_ | intro _ | refine KeptP.foldl ?_ ?_ | refine KeptP.of_eq (by assumption) ?_ | dsimp only | split | dsimp only | refine KeptP.fst ?_ | refine KeptP.mk ?_ | fail_if_no_progress (refine Kept.upd ?_ (by rfl) (by intro p hp; cases p <;> first | rfl | exact (Kept.no hm hp (by decide)).elim)))
theorem State.qpError_keeps {m : Nat} {r : State} (s : State) (src : Nat) (qp : Nat) (code : Nat) (hm : Nat.land 4194354 m = 4194354) (h : Kept m r s) : Kept m r (State.qpError s src qp code) := by
  unfold State.qpError
  with_reducible repeat' (first | assumption | exact Kept.sub hm rfl | exact Kept.refl _ _ | refine KeptRes.next ?_ | refine Kept.cond ?_ ?_ | refine KeptRes.cond ?_ ?_ | refine KeptP.cond ?_ ?_ | apply State.fnRaise_keeps | apply State.setQp_keeps | apply State.setSource_keeps | refine Kept.foldl ?_ ?_ | intro _ | refine KeptP.foldl ?_ ?_ | refine KeptP.of_eq (by assumption) ?_ | dsimp only | split | dsimp only | refine KeptP.fst ?_ | refine KeptP.mk ?_ | fail_if_no_progress (refine Kept.upd ?_ (by rfl) (by intro p hp; cases p <;> first | rfl | exact (Kept.no hm hp (by decide)).elim)))
theorem State.takeHeld_keeps {m : Nat} {r : State} (s : State) (hm : Nat.land 2097152 m = 2097152) (h : Kept m r s) : Kept m r (State.takeHeld s) := by
  unfold State.takeHeld
  with_reducible repeat' (first | assumption | exact Kept.sub hm rfl | exact Kept.refl _ _ | refine KeptRes.next ?_ | refine Kept.cond ?_ ?_ | refine KeptRes.cond ?_ ?_ | refine KeptP.cond ?_ ?_ | apply State.setEntry_keeps | refine Kept.foldl ?_ ?_ | intro _ | refine KeptP.foldl ?_ ?_ | refine KeptP.of_eq (by assumption) ?_ | dsimp only | split | dsimp only | refine KeptP.fst ?_ | refine KeptP.mk ?_ | fail_if_no_progress (refine Kept.upd ?_ (by rfl) (by intro p hp; cases p <;> first | rfl | exact (Kept.no hm hp (by decide)).elim)))
theorem State.enterPacket_keeps {m : Nat} {r : State} (s : State) (e : Entry) (hm : Nat.land 7340082 m = 7340082) (h : Kept m r s) : Kept m r (State.enterPacket s e) := by
  unfold State.enterPacket
  with_reducible repeat' (first | assumption | exact Kept.sub hm rfl | exact Kept.refl _ _ | refine KeptRes.next ?_ | refine Kept.cond ?_ ?_ | refine KeptRes.cond ?_ ?_ | refine KeptP.cond ?_ ?_ | apply State.pulse_keeps | refine Kept.foldl ?_ ?_ | intro _ | refine KeptP.foldl ?_ ?_ | refine KeptP.of_eq (by assumption) ?_ | dsimp only | split | dsimp only | refine KeptP.fst ?_ | refine KeptP.mk ?_ | fail_if_no_progress (refine Kept.upd ?_ (by rfl) (by intro p hp; cases p <;> first | rfl | exact (Kept.no hm hp (by decide)).elim)))
theorem State.drainQp_keeps {m : Nat} {r : State} (s : State) (src : Nat) (qp : Nat) (hm : Nat.land 4194354 m = 4194354) (h : Kept m r s) : Kept m r (State.drainQp s src qp) := by
  unfold State.drainQp
  with_reducible repeat' (first | assumption | exact Kept.sub hm rfl | exact Kept.refl _ _ | refine KeptRes.next ?_ | refine Kept.cond ?_ ?_ | refine KeptRes.cond ?_ ?_ | refine KeptP.cond ?_ ?_ | apply State.fnRaise_keeps | apply State.setQp_keeps | refine Kept.foldl ?_ ?_ | intro _ | refine KeptP.foldl ?_ ?_ | refine KeptP.of_eq (by assumption) ?_ | dsimp only | split | dsimp only | refine KeptP.fst ?_ | refine KeptP.mk ?_ | fail_if_no_progress (refine Kept.upd ?_ (by rfl) (by intro p hp; cases p <;> first | rfl | exact (Kept.no hm hp (by decide)).elim)))
theorem State.signalCq_keeps {m : Nat} {r : State} (s : State) (src : Nat) (qp : Nat) (hm : Nat.land 4194352 m = 4194352) (h : Kept m r s) : Kept m r (State.signalCq s src qp) := by
  unfold State.signalCq
  with_reducible repeat' (first | assumption | exact Kept.sub hm rfl | exact Kept.refl _ _ | refine KeptRes.next ?_ | refine Kept.cond ?_ ?_ | refine KeptRes.cond ?_ ?_ | refine KeptP.cond ?_ ?_ | apply State.sendMsix_keeps | apply State.setQp_keeps | refine Kept.foldl ?_ ?_ | intro _ | refine KeptP.foldl ?_ ?_ | refine KeptP.of_eq (by assumption) ?_ | dsimp only | split | dsimp only | refine KeptP.fst ?_ | refine KeptP.mk ?_ | fail_if_no_progress (refine Kept.upd ?_ (by rfl) (by intro p hp; cases p <;> first | rfl | exact (Kept.no hm hp (by decide)).elim)))
theorem State.ringPage_keeps {m : Nat} {r : State} (s : State) (src : Nat) (addr : Nat) (write : Bool) (hm : Nat.land 144 m = 144) (h : Kept m r s) : Kept m r (State.ringPage s src addr write) := by
  unfold State.ringPage
  with_reducible repeat' (first | assumption | exact Kept.sub hm rfl | exact Kept.refl _ _ | refine KeptRes.next ?_ | refine Kept.cond ?_ ?_ | refine KeptRes.cond ?_ ?_ | refine KeptP.cond ?_ ?_ | apply State.atcAdd_keeps | apply State.atcTouch_keeps | apply State.emit_keeps | refine Kept.foldl ?_ ?_ | intro _ | refine KeptP.foldl ?_ ?_ | refine KeptP.of_eq (by assumption) ?_ | dsimp only | split | dsimp only | refine KeptP.fst ?_ | refine KeptP.mk ?_ | fail_if_no_progress (refine Kept.upd ?_ (by rfl) (by intro p hp; cases p <;> first | rfl | exact (Kept.no hm hp (by decide)).elim)))
theorem State.releaseHandle_keeps {m : Nat} {r : State} (s : State) (src : Nat) (handle : Nat) (hm : Nat.land 32 m = 32) (h : Kept m r s) : KeptP m r (State.releaseHandle s src handle) := by
  unfold State.releaseHandle
  with_reducible repeat' (first | assumption | exact Kept.sub hm rfl | exact Kept.refl _ _ | refine KeptRes.next ?_ | refine Kept.cond ?_ ?_ | refine KeptRes.cond ?_ ?_ | refine KeptP.cond ?_ ?_ | apply State.setSource_keeps | refine Kept.foldl ?_ ?_ | intro _ | refine KeptP.foldl ?_ ?_ | refine KeptP.of_eq (by assumption) ?_ | dsimp only | split | dsimp only | refine KeptP.fst ?_ | refine KeptP.mk ?_ | fail_if_no_progress (refine Kept.upd ?_ (by rfl) (by intro p hp; cases p <;> first | rfl | exact (Kept.no hm hp (by decide)).elim)))
theorem State.releaseStale_keeps {m : Nat} {r : State} (s : State) (src : Nat) (hm : Nat.land 4194354 m = 4194354) (h : Kept m r s) : Kept m r (State.releaseStale s src) := by
  unfold State.releaseStale
  with_reducible repeat' (first | assumption | exact Kept.sub hm rfl | exact Kept.refl _ _ | refine KeptRes.next ?_ | refine Kept.cond ?_ ?_ | refine KeptRes.cond ?_ ?_ | refine KeptP.cond ?_ ?_ | apply State.fnRaise_keeps | apply State.setSource_keeps | refine Kept.foldl ?_ ?_ | intro _ | refine KeptP.foldl ?_ ?_ | refine KeptP.of_eq (by assumption) ?_ | dsimp only | split | dsimp only | refine KeptP.fst ?_ | refine KeptP.mk ?_ | fail_if_no_progress (refine Kept.upd ?_ (by rfl) (by intro p hp; cases p <;> first | rfl | exact (Kept.no hm hp (by decide)).elim)))
theorem State.abortMissed_keeps {m : Nat} {r : State} (s : State) (src : Nat) (hm : Nat.land 4194354 m = 4194354) (h : Kept m r s) : Kept m r (State.abortMissed s src) := by
  unfold State.abortMissed
  with_reducible repeat' (first | assumption | exact Kept.sub hm rfl | exact Kept.refl _ _ | refine KeptRes.next ?_ | refine Kept.cond ?_ ?_ | refine KeptRes.cond ?_ ?_ | refine KeptP.cond ?_ ?_ | apply State.fnRaise_keeps | apply State.setSource_keeps | refine Kept.foldl ?_ ?_ | intro _ | refine KeptP.foldl ?_ ?_ | refine KeptP.of_eq (by assumption) ?_ | dsimp only | split | dsimp only | refine KeptP.fst ?_ | refine KeptP.mk ?_ | fail_if_no_progress (refine Kept.upd ?_ (by rfl) (by intro p hp; cases p <;> first | rfl | exact (Kept.no hm hp (by decide)).elim)))
theorem State.abortAll_keeps {m : Nat} {r : State} (s : State) (src : Nat) (qp : Nat) (tag : Option Nat) (hm : Nat.land 16752538 m = 16752538) (h : Kept m r s) : KeptP m r (State.abortAll s src qp tag) := by
  unfold State.abortAll
  with_reducible repeat' (first | assumption | exact Kept.sub hm rfl | exact Kept.refl _ _ | refine KeptRes.next ?_ | refine Kept.cond ?_ ?_ | refine KeptRes.cond ?_ ?_ | refine KeptP.cond ?_ ?_ | apply State.stopEntry_keeps | refine Kept.foldl ?_ ?_ | intro _ | refine KeptP.foldl ?_ ?_ | refine KeptP.of_eq (by assumption) ?_ | dsimp only | split | dsimp only | refine KeptP.fst ?_ | refine KeptP.mk ?_ | fail_if_no_progress (refine Kept.upd ?_ (by rfl) (by intro p hp; cases p <;> first | rfl | exact (Kept.no hm hp (by decide)).elim)))
theorem State.landResults_keeps {m : Nat} {r : State} (s : State) (id : Nat) (e : Entry) (hm : Nat.land 16771474 m = 16771474) (h : Kept m r s) : KeptP m r (State.landResults s id e) := by
  unfold State.landResults
  with_reducible repeat' (first | assumption | exact Kept.sub hm rfl | exact Kept.refl _ _ | refine KeptRes.next ?_ | refine Kept.cond ?_ ?_ | refine KeptRes.cond ?_ ?_ | refine KeptP.cond ?_ ?_ | apply State.modEntry_keeps | apply State.prepare_keeps | apply State.writeGranule_keeps | refine Kept.foldl ?_ ?_ | intro _ | refine KeptP.foldl ?_ ?_ | refine KeptP.of_eq (by assumption) ?_ | dsimp only | split | dsimp only | refine KeptP.fst ?_ | refine KeptP.mk ?_ | fail_if_no_progress (refine Kept.upd ?_ (by rfl) (by intro p hp; cases p <;> first | rfl | exact (Kept.no hm hp (by decide)).elim)))
theorem State.writeRecord_keeps {m : Nat} {r : State} (s : State) (e : Entry) (hm : Nat.land 4194480 m = 4194480) (h : Kept m r s) : Kept m r (State.writeRecord s e) := by
  unfold State.writeRecord
  with_reducible repeat' (first | assumption | exact Kept.sub hm rfl | exact Kept.refl _ _ | refine KeptRes.next ?_ | refine Kept.cond ?_ ?_ | refine KeptRes.cond ?_ ?_ | refine KeptP.cond ?_ ?_ | apply State.emit_keeps | apply State.ringPage_keeps | apply State.setQp_keeps | apply State.signalCq_keeps | refine Kept.foldl ?_ ?_ | intro _ | refine KeptP.foldl ?_ ?_ | refine KeptP.of_eq (by assumption) ?_ | dsimp only | split | dsimp only | refine KeptP.fst ?_ | refine KeptP.mk ?_ | fail_if_no_progress (refine Kept.upd ?_ (by rfl) (by intro p hp; cases p <;> first | rfl | exact (Kept.no hm hp (by decide)).elim)))
theorem State.cmdCpl_keeps {m : Nat} {r : State} (s : State) (p : Nat) (e : Entry) (credits : Nat) (hm : Nat.land 16400 m = 16400) (h : Kept m r s) : Kept m r (State.cmdCpl s p e credits) := by
  unfold State.cmdCpl
  with_reducible repeat' (first | assumption | exact Kept.sub hm rfl | exact Kept.refl _ _ | refine KeptRes.next ?_ | refine Kept.cond ?_ ?_ | refine KeptRes.cond ?_ ?_ | refine KeptP.cond ?_ ?_ | apply State.sendPort_keeps | refine Kept.foldl ?_ ?_ | intro _ | refine KeptP.foldl ?_ ?_ | refine KeptP.of_eq (by assumption) ?_ | dsimp only | split | dsimp only | refine KeptP.fst ?_ | refine KeptP.mk ?_ | fail_if_no_progress (refine Kept.upd ?_ (by rfl) (by intro p hp; cases p <;> first | rfl | exact (Kept.no hm hp (by decide)).elim)))
theorem State.grantOwed_keeps {m : Nat} {r : State} (s : State) (p : Nat) (hm : Nat.land 16432 m = 16432) (h : Kept m r s) : Kept m r (State.grantOwed s p) := by
  unfold State.grantOwed
  with_reducible repeat' (first | assumption | exact Kept.sub hm rfl | exact Kept.refl _ _ | refine KeptRes.next ?_ | refine Kept.cond ?_ ?_ | refine KeptRes.cond ?_ ?_ | refine KeptP.cond ?_ ?_ | apply State.sendPort_keeps | apply State.setSource_keeps | refine Kept.foldl ?_ ?_ | intro _ | refine KeptP.foldl ?_ ?_ | refine KeptP.of_eq (by assumption) ?_ | dsimp only | split | dsimp only | refine KeptP.fst ?_ | refine KeptP.mk ?_ | fail_if_no_progress (refine Kept.upd ?_ (by rfl) (by intro p hp; cases p <;> first | rfl | exact (Kept.no hm hp (by decide)).elim)))
theorem State.grantAll_keeps {m : Nat} {r : State} (s : State) (hm : Nat.land 16432 m = 16432) (h : Kept m r s) : Kept m r (State.grantAll s) := by
  unfold State.grantAll
  with_reducible repeat' (first | assumption | exact Kept.sub hm rfl | exact Kept.refl _ _ | refine KeptRes.next ?_ | refine Kept.cond ?_ ?_ | refine KeptRes.cond ?_ ?_ | refine KeptP.cond ?_ ?_ | apply State.grantOwed_keeps | refine Kept.foldl ?_ ?_ | intro _ | refine KeptP.foldl ?_ ?_ | refine KeptP.of_eq (by assumption) ?_ | dsimp only | split | dsimp only | refine KeptP.fst ?_ | refine KeptP.mk ?_ | fail_if_no_progress (refine Kept.upd ?_ (by rfl) (by intro p hp; cases p <;> first | rfl | exact (Kept.no hm hp (by decide)).elim)))
theorem State.answerCmd_keeps {m : Nat} {r : State} (s : State) (p : Nat) (e : Entry) (credit : Bool) (st : Nat) (sub : Nat) (hm : Nat.land 16432 m = 16432) (h : Kept m r s) : Kept m r (State.answerCmd s p e credit st sub) := by
  unfold State.answerCmd
  with_reducible repeat' (first | assumption | exact Kept.sub hm rfl | exact Kept.refl _ _ | refine KeptRes.next ?_ | refine Kept.cond ?_ ?_ | refine KeptRes.cond ?_ ?_ | refine KeptP.cond ?_ ?_ | apply State.cmdCpl_keeps | apply State.setSource_keeps | refine Kept.foldl ?_ ?_ | intro _ | refine KeptP.foldl ?_ ?_ | refine KeptP.of_eq (by assumption) ?_ | dsimp only | split | dsimp only | refine KeptP.fst ?_ | refine KeptP.mk ?_ | fail_if_no_progress (refine Kept.upd ?_ (by rfl) (by intro p hp; cases p <;> first | rfl | exact (Kept.no hm hp (by decide)).elim)))
theorem State.settle_keeps {m : Nat} {r : State} (s : State) (id : Nat) (e : Entry) (hm : Nat.land 16752538 m = 16752538) (h : Kept m r s) : Kept m r (State.settle s id e) := by
  unfold State.settle
  with_reducible repeat' (first | assumption | exact Kept.sub hm rfl | exact Kept.refl _ _ | refine KeptRes.next ?_ | refine Kept.cond ?_ ?_ | refine KeptRes.cond ?_ ?_ | refine KeptP.cond ?_ ?_ | apply State.count_keeps | apply State.pulse_keeps | apply State.withdraw_keeps | apply State.xltCompleted_keeps | refine Kept.foldl ?_ ?_ | intro _ | refine KeptP.foldl ?_ ?_ | refine KeptP.of_eq (by assumption) ?_ | dsimp only | split | dsimp only | refine KeptP.fst ?_ | refine KeptP.mk ?_ | fail_if_no_progress (refine Kept.upd ?_ (by rfl) (by intro p hp; cases p <;> first | rfl | exact (Kept.no hm hp (by decide)).elim)))
theorem State.endEntry_keeps {m : Nat} {r : State} (s : State) (id : Nat) (e : Entry) (hm : Nat.land 7815226 m = 7815226) (h : Kept m r s) : Kept m r (State.endEntry s id e) := by
  unfold State.endEntry
  with_reducible repeat' (first | assumption | exact Kept.sub hm rfl | exact Kept.refl _ _ | refine KeptRes.next ?_ | refine Kept.cond ?_ ?_ | refine KeptRes.cond ?_ ?_ | refine KeptP.cond ?_ ?_ | apply State.drainQp_keeps | apply State.dropEntry_keeps | apply State.grantAll_keeps | apply State.takeHeld_keeps | apply State.tryFences_keeps | refine Kept.foldl ?_ ?_ | intro _ | refine KeptP.foldl ?_ ?_ | refine KeptP.of_eq (by assumption) ?_ | dsimp only | split | dsimp only | refine KeptP.fst ?_ | refine KeptP.mk ?_ | fail_if_no_progress (refine Kept.upd ?_ (by rfl) (by intro p hp; cases p <;> first | rfl | exact (Kept.no hm hp (by decide)).elim)))
theorem State.applySettings_keeps {m : Nat} {r : State} (s : State) (t : Nat) (y : Settings) (hm : Nat.land 6307890 m = 6307890) (h : Kept m r s) : KeptP m r (State.applySettings s t y) := by
  unfold State.applySettings
  with_reducible repeat' (first | assumption | exact Kept.sub hm rfl | exact Kept.refl _ _ | refine KeptRes.next ?_ | refine Kept.cond ?_ ?_ | refine KeptRes.cond ?_ ?_ | refine KeptP.cond ?_ ?_ | apply State.fnRaise_keeps | apply State.grantOwed_keeps | apply State.setSource_keeps | apply State.takeHeld_keeps | refine Kept.foldl ?_ ?_ | intro _ | refine KeptP.foldl ?_ ?_ | refine KeptP.of_eq (by assumption) ?_ | dsimp only | split | dsimp only | refine KeptP.fst ?_ | refine KeptP.mk ?_ | fail_if_no_progress (refine Kept.upd ?_ (by rfl) (by intro p hp; cases p <;> first | rfl | exact (Kept.no hm hp (by decide)).elim)))
theorem execFnAdmSelWrite_keeps {m : Nat} {r : State} (src : Nat) (func : Nat) (s : State) (hm : Nat.land 2 m = 2) (h : Kept m r s) : KeptRes m r (execFnAdmSelWrite src func s) := by
  unfold execFnAdmSelWrite
  with_reducible repeat' (first | assumption | exact Kept.sub hm rfl | exact Kept.refl _ _ | refine KeptRes.next ?_ | refine Kept.cond ?_ ?_ | refine KeptRes.cond ?_ ?_ | refine KeptP.cond ?_ ?_ | apply State.setFldAt_keeps | refine Kept.foldl ?_ ?_ | intro _ | refine KeptP.foldl ?_ ?_ | refine KeptP.of_eq (by assumption) ?_ | dsimp only | split | dsimp only | refine KeptP.fst ?_ | refine KeptP.mk ?_ | fail_if_no_progress (refine Kept.upd ?_ (by rfl) (by intro p hp; cases p <;> first | rfl | exact (Kept.no hm hp (by decide)).elim)))
theorem execFnAdmApply_keeps {m : Nat} {r : State} (src : Nat) (s : State) (hm : Nat.land 6307890 m = 6307890) (h : Kept m r s) : KeptRes m r (execFnAdmApply src s) := by
  unfold execFnAdmApply
  with_reducible repeat' (first | assumption | exact Kept.sub hm rfl | exact Kept.refl _ _ | refine KeptRes.next ?_ | refine Kept.cond ?_ ?_ | refine KeptRes.cond ?_ ?_ | refine KeptP.cond ?_ ?_ | apply State.applySettings_keeps | apply State.setFldAt_keeps | refine Kept.foldl ?_ ?_ | intro _ | refine KeptP.foldl ?_ ?_ | refine KeptP.of_eq (by assumption) ?_ | dsimp only | split | dsimp only | refine KeptP.fst ?_ | refine KeptP.mk ?_ | fail_if_no_progress (refine Kept.upd ?_ (by rfl) (by intro p hp; cases p <;> first | rfl | exact (Kept.no hm hp (by decide)).elim)))
theorem execFnHxlSelWrite_keeps {m : Nat} {r : State} (src : Nat) (port : Nat) (s : State) (hm : Nat.land 2 m = 2) (h : Kept m r s) : KeptRes m r (execFnHxlSelWrite src port s) := by
  unfold execFnHxlSelWrite
  with_reducible repeat' (first | assumption | exact Kept.sub hm rfl | exact Kept.refl _ _ | refine KeptRes.next ?_ | refine Kept.cond ?_ ?_ | refine KeptRes.cond ?_ ?_ | refine KeptP.cond ?_ ?_ | apply State.setFld_keeps | refine Kept.foldl ?_ ?_ | intro _ | refine KeptP.foldl ?_ ?_ | refine KeptP.of_eq (by assumption) ?_ | dsimp only | split | dsimp only | refine KeptP.fst ?_ | refine KeptP.mk ?_ | fail_if_no_progress (refine Kept.upd ?_ (by rfl) (by intro p hp; cases p <;> first | rfl | exact (Kept.no hm hp (by decide)).elim)))
theorem execFnHxlApply_keeps {m : Nat} {r : State} (src : Nat) (s : State) (hm : Nat.land 6307890 m = 6307890) (h : Kept m r s) : KeptRes m r (execFnHxlApply src s) := by
  unfold execFnHxlApply
  with_reducible repeat' (first | assumption | exact Kept.sub hm rfl | exact Kept.refl _ _ | refine KeptRes.next ?_ | refine Kept.cond ?_ ?_ | refine KeptRes.cond ?_ ?_ | refine KeptP.cond ?_ ?_ | apply State.applySettings_keeps | apply State.setFld_keeps | refine Kept.foldl ?_ ?_ | intro _ | refine KeptP.foldl ?_ ?_ | refine KeptP.of_eq (by assumption) ?_ | dsimp only | split | dsimp only | refine KeptP.fst ?_ | refine KeptP.mk ?_ | fail_if_no_progress (refine Kept.upd ?_ (by rfl) (by intro p hp; cases p <;> first | rfl | exact (Kept.no hm hp (by decide)).elim)))
theorem execTierCtrlLock_keeps {m : Nat} {r : State} (src : Nat) (s : State) (hm : Nat.land 2 m = 2) (h : Kept m r s) : KeptRes m r (execTierCtrlLock src s) := by
  unfold execTierCtrlLock
  with_reducible repeat' (first | assumption | exact Kept.sub hm rfl | exact Kept.refl _ _ | refine KeptRes.next ?_ | refine Kept.cond ?_ ?_ | refine KeptRes.cond ?_ ?_ | refine KeptP.cond ?_ ?_ | apply State.setFld_keeps | refine Kept.foldl ?_ ?_ | intro _ | refine KeptP.foldl ?_ ?_ | refine KeptP.of_eq (by assumption) ?_ | dsimp only | split | dsimp only | refine KeptP.fst ?_ | refine KeptP.mk ?_ | fail_if_no_progress (refine Kept.upd ?_ (by rfl) (by intro p hp; cases p <;> first | rfl | exact (Kept.no hm hp (by decide)).elim)))
theorem State.rehomePage_keeps {m : Nat} {r : State} (s : State) (new : Slab) (pg : Nat) (hm : Nat.land 262400 m = 262400) (h : Kept m r s) : Kept m r (State.rehomePage s new pg) := by
  unfold State.rehomePage
  with_reducible repeat' (first | assumption | exact Kept.sub hm rfl | exact Kept.refl _ _ | refine KeptRes.next ?_ | refine Kept.cond ?_ ?_ | refine KeptRes.cond ?_ ?_ | refine KeptP.cond ?_ ?_ | apply State.lowerPage_keeps | apply State.setPage_keeps | refine Kept.foldl ?_ ?_ | intro _ | refine KeptP.foldl ?_ ?_ | refine KeptP.of_eq (by assumption) ?_ | dsimp only | split | dsimp only | refine KeptP.fst ?_ | refine KeptP.mk ?_ | fail_if_no_progress (refine Kept.upd ?_ (by rfl) (by intro p hp; cases p <;> first | rfl | exact (Kept.no hm hp (by decide)).elim)))
theorem State.moveFrames_keeps {m : Nat} {r : State} (s : State) (n : Nat) (old : Slab) (new : Slab) (hm : Nat.land 256 m = 256) (h : Kept m r s) : Kept m r (State.moveFrames s n old new) := by
  unfold State.moveFrames
  with_reducible repeat' (first | assumption | exact Kept.sub hm rfl | exact Kept.refl _ _ | refine KeptRes.next ?_ | refine Kept.cond ?_ ?_ | refine KeptRes.cond ?_ ?_ | refine KeptP.cond ?_ ?_ | refine Kept.foldl ?_ ?_ | intro _ | refine KeptP.foldl ?_ ?_ | refine KeptP.of_eq (by assumption) ?_ | dsimp only | split | dsimp only | refine KeptP.fst ?_ | refine KeptP.mk ?_ | fail_if_no_progress (refine Kept.upd ?_ (by rfl) (by intro p hp; cases p <;> first | rfl | exact (Kept.no hm hp (by decide)).elim)))
theorem State.dropAbove_keeps {m : Nat} {r : State} (s : State) (n : Nat) (new : Slab) (hm : Nat.land 256 m = 256) (h : Kept m r s) : Kept m r (State.dropAbove s n new) := by
  unfold State.dropAbove
  with_reducible repeat' (first | assumption | exact Kept.sub hm rfl | exact Kept.refl _ _ | refine KeptRes.next ?_ | refine Kept.cond ?_ ?_ | refine KeptRes.cond ?_ ?_ | refine KeptP.cond ?_ ?_ | refine Kept.foldl ?_ ?_ | intro _ | refine KeptP.foldl ?_ ?_ | refine KeptP.of_eq (by assumption) ?_ | dsimp only | split | dsimp only | refine KeptP.fst ?_ | refine KeptP.mk ?_ | fail_if_no_progress (refine Kept.upd ?_ (by rfl) (by intro p hp; cases p <;> first | rfl | exact (Kept.no hm hp (by decide)).elim)))
theorem State.leaveMode_keeps {m : Nat} {r : State} (s : State) (pg : Nat) (hm : Nat.land 262402 m = 262402) (h : Kept m r s) : Kept m r (State.leaveMode s pg) := by
  unfold State.leaveMode
  with_reducible repeat' (first | assumption | exact Kept.sub hm rfl | exact Kept.refl _ _ | refine KeptRes.next ?_ | refine Kept.cond ?_ ?_ | refine KeptRes.cond ?_ ?_ | refine KeptP.cond ?_ ?_ | apply State.lowerPage_keeps | apply State.programPage_keeps | refine Kept.foldl ?_ ?_ | intro _ | refine KeptP.foldl ?_ ?_ | refine KeptP.of_eq (by assumption) ?_ | dsimp only | split | dsimp only | refine KeptP.fst ?_ | refine KeptP.mk ?_ | fail_if_no_progress (refine Kept.upd ?_ (by rfl) (by intro p hp; cases p <;> first | rfl | exact (Kept.no hm hp (by decide)).elim)))
theorem State.placeSlab_keeps {m : Nat} {r : State} (s : State) (n : Nat) (new : Slab) (hm : Nat.land 262402 m = 262402) (h : Kept m r s) : KeptP m r (State.placeSlab s n new) := by
  unfold State.placeSlab
  with_reducible repeat' (first | assumption | exact Kept.sub hm rfl | exact Kept.refl _ _ | refine KeptRes.next ?_ | refine Kept.cond ?_ ?_ | refine KeptRes.cond ?_ ?_ | refine KeptP.cond ?_ ?_ | apply State.dropAbove_keeps | apply State.leaveMode_keeps | apply State.lowerPage_keeps | apply State.moveFrames_keeps | apply State.rehomePage_keeps | apply State.setSlab_keeps | refine Kept.foldl ?_ ?_ | intro _ | refine KeptP.foldl ?_ ?_ | refine KeptP.of_eq (by assumption) ?_ | dsimp only | split | dsimp only | refine KeptP.fst ?_ | refine KeptP.mk ?_ | fail_if_no_progress (refine Kept.upd ?_ (by rfl) (by intro p hp; cases p <;> first | rfl | exact (Kept.no hm hp (by decide)).elim)))
theorem State.applyPlace_keeps {m : Nat} {r : State} (s : State) (entry : Nat) (e : Entry) (x : Slab) (hm : Nat.land 2359570 m = 2359570) (h : Kept m r s) : Kept m r (State.applyPlace s entry e x) := by
  unfold State.applyPlace
  with_reducible repeat' (first | assumption | exact Kept.sub hm rfl | exact Kept.refl _ _ | refine KeptRes.next ?_ | refine Kept.cond ?_ ?_ | refine KeptRes.cond ?_ ?_ | refine KeptP.cond ?_ ?_ | apply State.dispatch_keeps | apply State.placeSlab_keeps | refine Kept.foldl ?_ ?_ | intro _ | refine KeptP.foldl ?_ ?_ | refine KeptP.of_eq (by assumption) ?_ | dsimp only | split | dsimp only | refine KeptP.fst ?_ | refine KeptP.mk ?_ | fail_if_no_progress (refine Kept.upd ?_ (by rfl) (by intro p hp; cases p <;> first | rfl | exact (Kept.no hm hp (by decide)).elim)))
theorem execPlace_keeps {m : Nat} {r : State} (entry : Nat) (s : State) (hm : Nat.land 2359570 m = 2359570) (h : Kept m r s) : KeptRes m r (execPlace entry s) := by
  unfold execPlace
  with_reducible repeat' (first | assumption | exact Kept.sub hm rfl | exact Kept.refl _ _ | refine KeptRes.next ?_ | refine Kept.cond ?_ ?_ | refine KeptRes.cond ?_ ?_ | refine KeptP.cond ?_ ?_ | apply State.applyPlace_keeps | apply State.failWith_keeps | apply State.finish_keeps | apply State.releaseAll_keeps | apply State.reserveAll_keeps | apply State.unreserve_keeps | refine Kept.foldl ?_ ?_ | intro _ | refine KeptP.foldl ?_ ?_ | refine KeptP.of_eq (by assumption) ?_ | dsimp only | split | dsimp only | refine KeptP.fst ?_ | refine KeptP.mk ?_ | fail_if_no_progress (refine Kept.upd ?_ (by rfl) (by intro p hp; cases p <;> first | rfl | exact (Kept.no hm hp (by decide)).elim)))
theorem execSeal_keeps {m : Nat} {r : State} (entry : Nat) (s : State) (hm : Nat.land 2359570 m = 2359570) (h : Kept m r s) : KeptRes m r (execSeal entry s) := by
  unfold execSeal
  with_reducible repeat' (first | assumption | exact Kept.sub hm rfl | exact Kept.refl _ _ | refine KeptRes.next ?_ | refine Kept.cond ?_ ?_ | refine KeptRes.cond ?_ ?_ | refine KeptP.cond ?_ ?_ | apply State.beginSeal_keeps | apply State.dispatch_keeps | apply State.programPage_keeps | refine Kept.foldl ?_ ?_ | intro _ | refine KeptP.foldl ?_ ?_ | refine KeptP.of_eq (by assumption) ?_ | dsimp only | split | dsimp only | refine KeptP.fst ?_ | refine KeptP.mk ?_ | fail_if_no_progress (refine Kept.upd ?_ (by rfl) (by intro p hp; cases p <;> first | rfl | exact (Kept.no hm hp (by decide)).elim)))
theorem State.raiseOne_keeps {m : Nat} {r : State} (s : State) (pg : Nat) (t : Tier) (pin : Bool) (k : RaiseCount) (hm : Nat.land 5505298 m = 5505298) (h : Kept m r s) : KeptP m r (State.raiseOne s pg t pin k) := by
  unfold State.raiseOne
  with_reducible repeat' (first | assumption | exact Kept.sub hm rfl | exact Kept.refl _ _ | refine KeptRes.next ?_ | refine Kept.cond ?_ ?_ | refine KeptRes.cond ?_ ?_ | refine KeptP.cond ?_ ?_ | apply State.count_keeps | apply State.pinPage_keeps | apply State.raise_keeps | apply State.raisePage_keeps | refine Kept.foldl ?_ ?_ | intro _ | refine KeptP.foldl ?_ ?_ | refine KeptP.of_eq (by assumption) ?_ | dsimp only | split | dsimp only | refine KeptP.fst ?_ | refine KeptP.mk ?_ | fail_if_no_progress (refine Kept.upd ?_ (by rfl) (by intro p hp; cases p <;> first | rfl | exact (Kept.no hm hp (by decide)).elim)))
theorem execRaise_keeps {m : Nat} {r : State} (entry : Nat) (s : State) (hm : Nat.land 7602450 m = 7602450) (h : Kept m r s) : KeptRes m r (execRaise entry s) := by
  unfold execRaise
  with_reducible repeat' (first | assumption | exact Kept.sub hm rfl | exact Kept.refl _ _ | refine KeptRes.next ?_ | refine Kept.cond ?_ ?_ | refine KeptRes.cond ?_ ?_ | refine KeptP.cond ?_ ?_ | apply State.dispatch_keeps | apply State.raiseOne_keeps | refine Kept.foldl ?_ ?_ | intro _ | refine KeptP.foldl ?_ ?_ | refine KeptP.of_eq (by assumption) ?_ | dsimp only | split | dsimp only | refine KeptP.fst ?_ | refine KeptP.mk ?_ | fail_if_no_progress (refine Kept.upd ?_ (by rfl) (by intro p hp; cases p <;> first | rfl | exact (Kept.no hm hp (by decide)).elim)))
theorem execLower_keeps {m : Nat} {r : State} (entry : Nat) (s : State) (hm : Nat.land 2359568 m = 2359568) (h : Kept m r s) : KeptRes m r (execLower entry s) := by
  unfold execLower
  with_reducible repeat' (first | assumption | exact Kept.sub hm rfl | exact Kept.refl _ _ | refine KeptRes.next ?_ | refine Kept.cond ?_ ?_ | refine KeptRes.cond ?_ ?_ | refine KeptP.cond ?_ ?_ | apply State.dispatch_keeps | apply State.lowerPage_keeps | refine Kept.foldl ?_ ?_ | intro _ | refine KeptP.foldl ?_ ?_ | refine KeptP.of_eq (by assumption) ?_ | dsimp only | split | dsimp only | refine KeptP.fst ?_ | refine KeptP.mk ?_ | fail_if_no_progress (refine Kept.upd ?_ (by rfl) (by intro p hp; cases p <;> first | rfl | exact (Kept.no hm hp (by decide)).elim)))
theorem execResidency_keeps {m : Nat} {r : State} (entry : Nat) (s : State) (hm : Nat.land 2359312 m = 2359312) (h : Kept m r s) : KeptRes m r (execResidency entry s) := by
  unfold execResidency
  with_reducible repeat' (first | assumption | exact Kept.sub hm rfl | exact Kept.refl _ _ | refine KeptRes.next ?_ | refine Kept.cond ?_ ?_ | refine KeptRes.cond ?_ ?_ | refine KeptP.cond ?_ ?_ | apply State.dispatch_keeps | refine Kept.foldl ?_ ?_ | intro _ | refine KeptP.foldl ?_ ?_ | refine KeptP.of_eq (by assumption) ?_ | dsimp only | split | dsimp only | refine KeptP.fst ?_ | refine KeptP.mk ?_ | fail_if_no_progress (refine Kept.upd ?_ (by rfl) (by intro p hp; cases p <;> first | rfl | exact (Kept.no hm hp (by decide)).elim)))
theorem execChairliftMoveStart_keeps {m : Nat} {r : State} (home : Bool) (page : Nat) (s : State) (hm : Nat.land 256 m = 256) (h : Kept m r s) : KeptRes m r (execChairliftMoveStart home page s) := by
  unfold execChairliftMoveStart
  with_reducible repeat' (first | assumption | exact Kept.sub hm rfl | exact Kept.refl _ _ | refine KeptRes.next ?_ | refine Kept.cond ?_ ?_ | refine KeptRes.cond ?_ ?_ | refine KeptP.cond ?_ ?_ | refine Kept.foldl ?_ ?_ | intro _ | refine KeptP.foldl ?_ ?_ | refine KeptP.of_eq (by assumption) ?_ | dsimp only | split | dsimp only | refine KeptP.fst ?_ | refine KeptP.mk ?_ | fail_if_no_progress (refine Kept.upd ?_ (by rfl) (by intro p hp; cases p <;> first | rfl | exact (Kept.no hm hp (by decide)).elim)))
theorem execHeatEpochEnd_keeps {m : Nat} {r : State} (s : State) (hm : Nat.land 256 m = 256) (h : Kept m r s) : KeptRes m r (execHeatEpochEnd s) := by
  unfold execHeatEpochEnd
  with_reducible repeat' (first | assumption | exact Kept.sub hm rfl | exact Kept.refl _ _ | refine KeptRes.next ?_ | refine Kept.cond ?_ ?_ | refine KeptRes.cond ?_ ?_ | refine KeptP.cond ?_ ?_ | refine Kept.foldl ?_ ?_ | intro _ | refine KeptP.foldl ?_ ?_ | refine KeptP.of_eq (by assumption) ?_ | dsimp only | split | dsimp only | refine KeptP.fst ?_ | refine KeptP.mk ?_ | fail_if_no_progress (refine Kept.upd ?_ (by rfl) (by intro p hp; cases p <;> first | rfl | exact (Kept.no hm hp (by decide)).elim)))
theorem execDriftSample_keeps {m : Nat} {r : State} (kind : Nat) (unit : Nat) (t : Nat) (v : Nat) (osc : Bool) (s : State) (hm : Nat.land 256 m = 256) (h : Kept m r s) : KeptRes m r (execDriftSample kind unit t v osc s) := by
  unfold execDriftSample
  with_reducible repeat' (first | assumption | exact Kept.sub hm rfl | exact Kept.refl _ _ | refine KeptRes.next ?_ | refine Kept.cond ?_ ?_ | refine KeptRes.cond ?_ ?_ | refine KeptP.cond ?_ ?_ | apply State.retrain_keeps | apply State.setTraining_keeps | refine Kept.foldl ?_ ?_ | intro _ | refine KeptP.foldl ?_ ?_ | refine KeptP.of_eq (by assumption) ?_ | dsimp only | split | dsimp only | refine KeptP.fst ?_ | refine KeptP.mk ?_ | fail_if_no_progress (refine Kept.upd ?_ (by rfl) (by intro p hp; cases p <;> first | rfl | exact (Kept.no hm hp (by decide)).elim)))
theorem State.setRefresh_keeps {m : Nat} {r : State} (s : State) (i : Nat) (on : Bool) (hm : Nat.land 4194322 m = 4194322) (h : Kept m r s) : Kept m r (State.setRefresh s i on) := by
  unfold State.setRefresh
  with_reducible repeat' (first | assumption | exact Kept.sub hm rfl | exact Kept.refl _ _ | refine KeptRes.next ?_ | refine Kept.cond ?_ ?_ | refine KeptRes.cond ?_ ?_ | refine KeptP.cond ?_ ?_ | apply State.raise_keeps | apply State.setRegAt_keeps | refine Kept.foldl ?_ ?_ | intro _ | refine KeptP.foldl ?_ ?_ | refine KeptP.of_eq (by assumption) ?_ | dsimp only | split | dsimp only | refine KeptP.fst ?_ | refine KeptP.mk ?_ | fail_if_no_progress (refine Kept.upd ?_ (by rfl) (by intro p hp; cases p <;> first | rfl | exact (Kept.no hm hp (by decide)).elim)))
theorem execDeviceTempRead_keeps {m : Nat} {r : State} (kind : Nat) (unit : Nat) (temp : Nat) (twice : Bool) (s : State) (hm : Nat.land 4194578 m = 4194578) (h : Kept m r s) : KeptRes m r (execDeviceTempRead kind unit temp twice s) := by
  unfold execDeviceTempRead
  with_reducible repeat' (first | assumption | exact Kept.sub hm rfl | exact Kept.refl _ _ | refine KeptRes.next ?_ | refine Kept.cond ?_ ?_ | refine KeptRes.cond ?_ ?_ | refine KeptP.cond ?_ ?_ | apply State.raise_keeps | apply State.setRefresh_keeps | refine Kept.foldl ?_ ?_ | intro _ | refine KeptP.foldl ?_ ?_ | refine KeptP.of_eq (by assumption) ?_ | dsimp only | split | dsimp only | refine KeptP.fst ?_ | refine KeptP.mk ?_ | fail_if_no_progress (refine Kept.upd ?_ (by rfl) (by intro p hp; cases p <;> first | rfl | exact (Kept.no hm hp (by decide)).elim)))
theorem execBraceAreaErased_keeps {m : Nat} {r : State} (half : Nat) (s : State) (hm : Nat.land 4194578 m = 4194578) (h : Kept m r s) : KeptRes m r (execBraceAreaErased half s) := by
  unfold execBraceAreaErased
  with_reducible repeat' (first | assumption | exact Kept.sub hm rfl | exact Kept.refl _ _ | refine KeptRes.next ?_ | refine Kept.cond ?_ ?_ | refine KeptRes.cond ?_ ?_ | refine KeptP.cond ?_ ?_ | apply State.raise_keeps | apply State.setFld_keeps | refine Kept.foldl ?_ ?_ | intro _ | refine KeptP.foldl ?_ ?_ | refine KeptP.of_eq (by assumption) ?_ | dsimp only | split | dsimp only | refine KeptP.fst ?_ | refine KeptP.mk ?_ | fail_if_no_progress (refine Kept.upd ?_ (by rfl) (by intro p hp; cases p <;> first | rfl | exact (Kept.no hm hp (by decide)).elim)))
theorem State.setComp_keeps {m : Nat} {r : State} (s : State) (c : Nat) (x : Comp) (hm : Nat.land 262144 m = 262144) (h : Kept m r s) : Kept m r (State.setComp s c x) := by
  unfold State.setComp
  with_reducible repeat' (first | assumption | exact Kept.sub hm rfl | exact Kept.refl _ _ | refine KeptRes.next ?_ | refine Kept.cond ?_ ?_ | refine KeptRes.cond ?_ ?_ | refine KeptP.cond ?_ ?_ | refine Kept.foldl ?_ ?_ | intro _ | refine KeptP.foldl ?_ ?_ | refine KeptP.of_eq (by assumption) ?_ | dsimp only | split | dsimp only | refine KeptP.fst ?_ | refine KeptP.mk ?_ | fail_if_no_progress (refine Kept.upd ?_ (by rfl) (by intro p hp; cases p <;> first | rfl | exact (Kept.no hm hp (by decide)).elim)))
theorem State.drawKey_keeps {m : Nat} {r : State} (s : State) (c : Nat) (hm : Nat.land 2359320 m = 2359320) (h : Kept m r s) : Kept m r (State.drawKey s c) := by
  unfold State.drawKey
  with_reducible repeat' (first | assumption | exact Kept.sub hm rfl | exact Kept.refl _ _ | refine KeptRes.next ?_ | refine Kept.cond ?_ ?_ | refine KeptRes.cond ?_ ?_ | refine KeptP.cond ?_ ?_ | apply State.sendItem_keeps | apply State.tickFresh_keeps | refine Kept.foldl ?_ ?_ | intro _ | refine KeptP.foldl ?_ ?_ | refine KeptP.of_eq (by assumption) ?_ | dsimp only | split | dsimp only | refine KeptP.fst ?_ | refine KeptP.mk ?_ | fail_if_no_progress (refine Kept.upd ?_ (by rfl) (by intro p hp; cases p <;> first | rfl | exact (Kept.no hm hp (by decide)).elim)))
theorem State.defineComp_keeps {m : Nat} {r : State} (s : State) (p : Packet) (hm : Nat.land 2359320 m = 2359320) (h : Kept m r s) : Kept m r (State.defineComp s p) := by
  unfold State.defineComp
  with_reducible repeat' (first | assumption | exact Kept.sub hm rfl | exact Kept.refl _ _ | refine KeptRes.next ?_ | refine Kept.cond ?_ ?_ | refine KeptRes.cond ?_ ?_ | refine KeptP.cond ?_ ?_ | apply State.drawKey_keeps | apply State.setComp_keeps | refine Kept.foldl ?_ ?_ | intro _ | refine KeptP.foldl ?_ ?_ | refine KeptP.of_eq (by assumption) ?_ | dsimp only | split | dsimp only | refine KeptP.fst ?_ | refine KeptP.mk ?_ | fail_if_no_progress (refine Kept.upd ?_ (by rfl) (by intro p hp; cases p <;> first | rfl | exact (Kept.no hm hp (by decide)).elim)))
theorem State.grantSlabs_keeps {m : Nat} {r : State} (s : State) (p : Packet) (hm : Nat.land 8388864 m = 8388864) (h : Kept m r s) : Kept m r (State.grantSlabs s p) := by
  unfold State.grantSlabs
  with_reducible repeat' (first | assumption | exact Kept.sub hm rfl | exact Kept.refl _ _ | refine KeptRes.next ?_ | refine Kept.cond ?_ ?_ | refine KeptRes.cond ?_ ?_ | refine KeptP.cond ?_ ?_ | apply State.setSlab_keeps | apply State.zeroSlab_keeps | refine Kept.foldl ?_ ?_ | intro _ | refine KeptP.foldl ?_ ?_ | refine KeptP.of_eq (by assumption) ?_ | dsimp only | split | dsimp only | refine KeptP.fst ?_ | refine KeptP.mk ?_ | fail_if_no_progress (refine Kept.upd ?_ (by rfl) (by intro p hp; cases p <;> first | rfl | exact (Kept.no hm hp (by decide)).elim)))
theorem State.beginWithdraw_keeps {m : Nat} {r : State} (s : State) (id : Nat) (p : Packet) (hm : Nat.land 2097408 m = 2097408) (h : Kept m r s) : Kept m r (State.beginWithdraw s id p) := by
  unfold State.beginWithdraw
  with_reducible repeat' (first | assumption | exact Kept.sub hm rfl | exact Kept.refl _ _ | refine KeptRes.next ?_ | refine Kept.cond ?_ ?_ | refine KeptRes.cond ?_ ?_ | refine KeptP.cond ?_ ?_ | apply State.modEntry_keeps | apply State.setSlab_keeps | refine Kept.foldl ?_ ?_ | intro _ | refine KeptP.foldl ?_ ?_ | refine KeptP.of_eq (by assumption) ?_ | dsimp only | split | dsimp only | refine KeptP.fst ?_ | refine KeptP.mk ?_ | fail_if_no_progress (refine Kept.upd ?_ (by rfl) (by intro p hp; cases p <;> first | rfl | exact (Kept.no hm hp (by decide)).elim)))
theorem State.endWalk_keeps {m : Nat} {r : State} (s : State) (id : Nat) (slabs : List Nat) (hm : Nat.land 4227090 m = 4227090) (h : Kept m r s) : Kept m r (State.endWalk s id slabs) := by
  unfold State.endWalk
  with_reducible repeat' (first | assumption | exact Kept.sub hm rfl | exact Kept.refl _ _ | refine KeptRes.next ?_ | refine Kept.cond ?_ ?_ | refine KeptRes.cond ?_ ?_ | refine KeptP.cond ?_ ?_ | apply State.raise_keeps | refine Kept.foldl ?_ ?_ | intro _ | refine KeptP.foldl ?_ ?_ | refine KeptP.of_eq (by assumption) ?_ | dsimp only | split | dsimp only | refine KeptP.fst ?_ | refine KeptP.mk ?_ | fail_if_no_progress (refine Kept.upd ?_ (by rfl) (by intro p hp; cases p <;> first | rfl | exact (Kept.no hm hp (by decide)).elim)))
theorem State.walkSlabs_keeps {m : Nat} {r : State} (s : State) (id : Nat) (src : Nat) (slabs : List Nat) (hm : Nat.land 16771474 m = 16771474) (h : Kept m r s) : KeptP m r (State.walkSlabs s id src slabs) := by
  unfold State.walkSlabs
  with_reducible repeat' (first | assumption | exact Kept.sub hm rfl | exact Kept.refl _ _ | refine KeptRes.next ?_ | refine Kept.cond ?_ ?_ | refine KeptRes.cond ?_ ?_ | refine KeptP.cond ?_ ?_ | apply State.endWalk_keeps | apply State.submitReq_keeps | refine Kept.foldl ?_ ?_ | intro _ | refine KeptP.foldl ?_ ?_ | refine KeptP.of_eq (by assumption) ?_ | dsimp only | split | dsimp only | refine KeptP.fst ?_ | refine KeptP.mk ?_ | fail_if_no_progress (refine Kept.upd ?_ (by rfl) (by intro p hp; cases p <;> first | rfl | exact (Kept.no hm hp (by decide)).elim)))
theorem State.freeSlabs_keeps {m : Nat} {r : State} (s : State) (slabs : List Nat) (hm : Nat.land 8651008 m = 8651008) (h : Kept m r s) : Kept m r (State.freeSlabs s slabs) := by
  unfold State.freeSlabs
  with_reducible repeat' (first | assumption | exact Kept.sub hm rfl | exact Kept.refl _ _ | refine KeptRes.next ?_ | refine Kept.cond ?_ ?_ | refine KeptRes.cond ?_ ?_ | refine KeptP.cond ?_ ?_ | apply State.dropFrame_keeps | apply State.zeroSlab_keeps | refine Kept.foldl ?_ ?_ | intro _ | refine KeptP.foldl ?_ ?_ | refine KeptP.of_eq (by assumption) ?_ | dsimp only | split | dsimp only | refine KeptP.fst ?_ | refine KeptP.mk ?_ | fail_if_no_progress (refine Kept.upd ?_ (by rfl) (by intro p hp; cases p <;> first | rfl | exact (Kept.no hm hp (by decide)).elim)))
theorem State.localItem_keeps {m : Nat} {r : State} (s : State) (id : Nat) (classes : Nat) (hm : Nat.land 2359296 m = 2359296) (h : Kept m r s) : KeptP m r (State.localItem s id classes) := by
  unfold State.localItem
  with_reducible repeat' (first | assumption | exact Kept.sub hm rfl | exact Kept.refl _ _ | refine KeptRes.next ?_ | refine Kept.cond ?_ ?_ | refine KeptRes.cond ?_ ?_ | refine KeptP.cond ?_ ?_ | apply State.modEntry_keeps | refine Kept.foldl ?_ ?_ | intro _ | refine KeptP.foldl ?_ ?_ | refine KeptP.of_eq (by assumption) ?_ | dsimp only | split | dsimp only | refine KeptP.fst ?_ | refine KeptP.mk ?_ | fail_if_no_progress (refine Kept.upd ?_ (by rfl) (by intro p hp; cases p <;> first | rfl | exact (Kept.no hm hp (by decide)).elim)))
theorem State.sendOutput_keeps {m : Nat} {r : State} (s : State) (id : Nat) (hostOut : Nat) (data : List Byte) (hm : Nat.land 16777114 m = 16777114) (h : Kept m r s) : Kept m r (State.sendOutput s id hostOut data) := by
  unfold State.sendOutput
  with_reducible repeat' (first | assumption | exact Kept.sub hm rfl | exact Kept.refl _ _ | refine KeptRes.next ?_ | refine Kept.cond ?_ ?_ | refine KeptRes.cond ?_ ?_ | refine KeptP.cond ?_ ?_ | apply State.endFault_keeps | apply State.localItem_keeps | apply State.modEntry_keeps | apply State.putResults_keeps | apply State.runDma_keeps | refine Kept.foldl ?_ ?_ | intro _ | refine KeptP.foldl ?_ ?_ | refine KeptP.of_eq (by assumption) ?_ | dsimp only | split | dsimp only | refine KeptP.fst ?_ | refine KeptP.mk ?_ | fail_if_no_progress (refine Kept.upd ?_ (by rfl) (by intro p hp; cases p <;> first | rfl | exact (Kept.no hm hp (by decide)).elim)))
theorem State.readRanges_keeps {m : Nat} {r : State} (s : State) (a1 : List (Nat × Nat)) (hm : Nat.land 16648466 m = 16648466) (h : Kept m r s) : KeptP m r (State.readRanges s a1) := by
  induction a1 generalizing s with
  | nil =>
    unfold State.readRanges
    with_reducible repeat' (first | assumption | exact Kept.sub hm rfl | exact Kept.refl _ _ | refine KeptRes.next ?_ | refine Kept.cond ?_ ?_ | refine KeptRes.cond ?_ ?_ | refine KeptP.cond ?_ ?_ | apply ih | apply State.accessFor_keeps | apply State.checkReads_keeps | refine Kept.foldl ?_ ?_ | intro _ | refine KeptP.foldl ?_ ?_ | refine KeptP.of_eq (by assumption) ?_ | dsimp only | split | dsimp only | refine KeptP.fst ?_ | refine KeptP.mk ?_ | fail_if_no_progress (refine Kept.upd ?_ (by rfl) (by intro p hp; cases p <;> first | rfl | exact (Kept.no hm hp (by decide)).elim)))
  | cons a l ih =>
    unfold State.readRanges
    with_reducible repeat' (first | assumption | exact Kept.sub hm rfl | exact Kept.refl _ _ | refine KeptRes.next ?_ | refine Kept.cond ?_ ?_ | refine KeptRes.cond ?_ ?_ | refine KeptP.cond ?_ ?_ | apply ih | apply State.accessFor_keeps | apply State.checkReads_keeps | refine Kept.foldl ?_ ?_ | intro _ | refine KeptP.foldl ?_ ?_ | refine KeptP.of_eq (by assumption) ?_ | dsimp only | split | dsimp only | refine KeptP.fst ?_ | refine KeptP.mk ?_ | fail_if_no_progress (refine Kept.upd ?_ (by rfl) (by intro p hp; cases p <;> first | rfl | exact (Kept.no hm hp (by decide)).elim)))
theorem State.prepareRanges_keeps {m : Nat} {r : State} (s : State) (id : Nat) (reads : List (Nat × Nat)) (writes : List (Nat × Nat)) (hm : Nat.land 16771474 m = 16771474) (h : Kept m r s) : KeptP m r (State.prepareRanges s id reads writes) := by
  unfold State.prepareRanges
  with_reducible repeat' (first | assumption | exact Kept.sub hm rfl | exact Kept.refl _ _ | refine KeptRes.next ?_ | refine Kept.cond ?_ ?_ | refine KeptRes.cond ?_ ?_ | refine KeptP.cond ?_ ?_ | apply State.prepare_keeps | refine Kept.foldl ?_ ?_ | intro _ | refine KeptP.foldl ?_ ?_ | refine KeptP.of_eq (by assumption) ?_ | dsimp only | split | dsimp only | refine KeptP.fst ?_ | refine KeptP.mk ?_ | fail_if_no_progress (refine Kept.upd ?_ (by rfl) (by intro p hp; cases p <;> first | rfl | exact (Kept.no hm hp (by decide)).elim)))
theorem State.answerWork_keeps {m : Nat} {r : State} (s : State) (w : WorkItem) (st : Nat) (sub : Nat) (data : List Byte) (hm : Nat.land 262160 m = 262160) (h : Kept m r s) : Kept m r (State.answerWork s w st sub data) := by
  unfold State.answerWork
  with_reducible repeat' (first | assumption | exact Kept.sub hm rfl | exact Kept.refl _ _ | refine KeptRes.next ?_ | refine Kept.cond ?_ ?_ | refine KeptRes.cond ?_ ?_ | refine KeptP.cond ?_ ?_ | apply State.answerOrigin_keeps | refine Kept.foldl ?_ ?_ | intro _ | refine KeptP.foldl ?_ ?_ | refine KeptP.of_eq (by assumption) ?_ | dsimp only | split | dsimp only | refine KeptP.fst ?_ | refine KeptP.mk ?_ | fail_if_no_progress (refine Kept.upd ?_ (by rfl) (by intro p hp; cases p <;> first | rfl | exact (Kept.no hm hp (by decide)).elim)))
theorem State.answerLocal_keeps {m : Nat} {r : State} (s : State) (id : Nat) (item : Nat) (st : Nat) (sub : Nat) (f : Outcome → Outcome) (hm : Nat.land 2359312 m = 2359312) (h : Kept m r s) : Kept m r (State.answerLocal s id item st sub f) := by
  unfold State.answerLocal
  with_reducible repeat' (first | assumption | exact Kept.sub hm rfl | exact Kept.refl _ _ | refine KeptRes.next ?_ | refine Kept.cond ?_ ?_ | refine KeptRes.cond ?_ ?_ | refine KeptP.cond ?_ ?_ | apply State.answerItem_keeps | apply State.modEntry_keeps | refine Kept.foldl ?_ ?_ | intro _ | refine KeptP.foldl ?_ ?_ | refine KeptP.of_eq (by assumption) ?_ | dsimp only | split | dsimp only | refine KeptP.fst ?_ | refine KeptP.mk ?_ | fail_if_no_progress (refine Kept.upd ?_ (by rfl) (by intro p hp; cases p <;> first | rfl | exact (Kept.no hm hp (by decide)).elim)))
theorem State.setEmbTable_keeps {m : Nat} {r : State} (s : State) (t : Nat) (x : EmbTable) (hm : Nat.land 1024 m = 1024) (h : Kept m r s) : Kept m r (State.setEmbTable s t x) := by
  unfold State.setEmbTable
  with_reducible repeat' (first | assumption | exact Kept.sub hm rfl | exact Kept.refl _ _ | refine KeptRes.next ?_ | refine Kept.cond ?_ ?_ | refine KeptRes.cond ?_ ?_ | refine KeptP.cond ?_ ?_ | refine Kept.foldl ?_ ?_ | intro _ | refine KeptP.foldl ?_ ?_ | refine KeptP.of_eq (by assumption) ?_ | dsimp only | split | dsimp only | refine KeptP.fst ?_ | refine KeptP.mk ?_ | fail_if_no_progress (refine Kept.upd ?_ (by rfl) (by intro p hp; cases p <;> first | rfl | exact (Kept.no hm hp (by decide)).elim)))
theorem State.reserveWork_keeps {m : Nat} {r : State} (s : State) (id : Nat) (bytes : Nat) (hm : Nat.land 4195346 m = 4195346) (h : Kept m r s) : ∀ t, State.reserveWork s id bytes = some t → Kept m r t := by
  intro t e
  unfold State.reserveWork at e
  split at e
  · cases e
  · cases e
    have k : Kept m r { s with emb := { s.emb with work := s.emb.work.set id bytes } } := Kept.upd h rfl (by intro p hp; cases p <;> first | rfl | exact (Kept.no hm hp (by decide)).elim)
    split
    · exact State.raise_keeps _ _ (Kept.sub hm rfl) k
    · exact k
theorem State.applyRow_keeps {m : Nat} {r : State} (s : State) (t : EmbTable) (l : EmbLoc) (x3 : Nat) (g : List Val) (lr : Val) (step : Nat) (rnd : Nat) (sat : Bool) (seed : Nat) (hm : Nat.land 16648466 m = 16648466) (h : Kept m r s) : KeptP m r (State.applyRow s t l x3 g lr step rnd sat seed) := by
  unfold State.applyRow
  with_reducible repeat' (first | assumption | exact Kept.sub hm rfl | exact Kept.refl _ _ | refine KeptRes.next ?_ | refine Kept.cond ?_ ?_ | refine KeptRes.cond ?_ ?_ | refine KeptP.cond ?_ ?_ | apply State.accessFor_keeps | apply State.count_keeps | apply State.raise_keeps | apply State.readRanges_keeps | apply State.writeStore_keeps | refine Kept.foldl ?_ ?_ | intro _ | refine KeptP.foldl ?_ ?_ | refine KeptP.of_eq (by assumption) ?_ | dsimp only | split | dsimp only | refine KeptP.fst ?_ | refine KeptP.mk ?_ | fail_if_no_progress (refine Kept.upd ?_ (by rfl) (by intro p hp; cases p <;> first | rfl | exact (Kept.no hm hp (by decide)).elim)))
theorem State.contribute_keeps {m : Nat} {r : State} (s : State) (c : Contribution) (hm : Nat.land 4195346 m = 4195346) (h : Kept m r s) : KeptP m r (State.contribute s c) := by
  unfold State.contribute
  with_reducible repeat' (first | assumption | exact Kept.sub hm rfl | exact Kept.refl _ _ | refine KeptRes.next ?_ | refine Kept.cond ?_ ?_ | refine KeptRes.cond ?_ ?_ | refine KeptP.cond ?_ ?_ | apply State.raise_keeps | refine Kept.foldl ?_ ?_ | intro _ | refine KeptP.foldl ?_ ?_ | refine KeptP.of_eq (by assumption) ?_ | dsimp only | split | dsimp only | refine KeptP.fst ?_ | refine KeptP.mk ?_ | fail_if_no_progress (refine Kept.upd ?_ (by rfl) (by intro p hp; cases p <;> first | rfl | exact (Kept.no hm hp (by decide)).elim)))
theorem State.applyStep_keeps {m : Nat} {r : State} (s : State) (id : Nat) (step : Nat) (lr : Val) (rnd : Nat) (sat : Bool) (seed : Nat) (hm : Nat.land 16649490 m = 16649490) (h : Kept m r s) : KeptP m r (State.applyStep s id step lr rnd sat seed) := by
  unfold State.applyStep
  with_reducible repeat' (first | assumption | exact Kept.sub hm rfl | exact Kept.refl _ _ | refine KeptRes.next ?_ | refine Kept.cond ?_ ?_ | refine KeptRes.cond ?_ ?_ | refine KeptP.cond ?_ ?_ | apply State.applyRow_keeps | apply State.raise_keeps | refine Kept.foldl ?_ ?_ | intro _ | refine KeptP.foldl ?_ ?_ | refine KeptP.of_eq (by assumption) ?_ | dsimp only | split | dsimp only | refine KeptP.fst ?_ | refine KeptP.mk ?_ | fail_if_no_progress (refine Kept.upd ?_ (by rfl) (by intro p hp; cases p <;> first | rfl | exact (Kept.no hm hp (by decide)).elim)))
theorem State.runUpdate_keeps {m : Nat} {r : State} (s : State) (p : Packet) (node : Nat) (version : Nat) (once : Bool) (hm : Nat.land 16649490 m = 16649490) (h : Kept m r s) : KeptP m r (State.runUpdate s p node version once) := by
  unfold State.runUpdate
  with_reducible repeat' (first | assumption | exact Kept.sub hm rfl | exact Kept.refl _ _ | refine KeptRes.next ?_ | refine Kept.cond ?_ ?_ | refine KeptRes.cond ?_ ?_ | refine KeptP.cond ?_ ?_ | apply State.applyRow_keeps | apply State.contribute_keeps | refine Kept.foldl ?_ ?_ | intro _ | refine KeptP.foldl ?_ ?_ | refine KeptP.of_eq (by assumption) ?_ | dsimp only | split | dsimp only | refine KeptP.fst ?_ | refine KeptP.mk ?_ | fail_if_no_progress (refine Kept.upd ?_ (by rfl) (by intro p hp; cases p <;> first | rfl | exact (Kept.no hm hp (by decide)).elim)))
theorem State.runWrite_keeps {m : Nat} {r : State} (s : State) (p : Packet) (version : Nat) (once : Bool) (hm : Nat.land 16648466 m = 16648466) (h : Kept m r s) : KeptP m r (State.runWrite s p version once) := by
  unfold State.runWrite
  with_reducible repeat' (first | assumption | exact Kept.sub hm rfl | exact Kept.refl _ _ | refine KeptRes.next ?_ | refine Kept.cond ?_ ?_ | refine KeptRes.cond ?_ ?_ | refine KeptP.cond ?_ ?_ | apply State.accessFor_keeps | apply State.count_keeps | apply State.writeHere_keeps | refine Kept.foldl ?_ ?_ | intro _ | refine KeptP.foldl ?_ ?_ | refine KeptP.of_eq (by assumption) ?_ | dsimp only | split | dsimp only | refine KeptP.fst ?_ | refine KeptP.mk ?_ | fail_if_no_progress (refine Kept.upd ?_ (by rfl) (by intro p hp; cases p <;> first | rfl | exact (Kept.no hm hp (by decide)).elim)))
theorem State.defineTable_keeps {m : Nat} {r : State} (s : State) (p : Packet) (block : List Byte) (hm : Nat.land 1024 m = 1024) (h : Kept m r s) : Kept m r (State.defineTable s p block) := by
  unfold State.defineTable
  with_reducible repeat' (first | assumption | exact Kept.sub hm rfl | exact Kept.refl _ _ | refine KeptRes.next ?_ | refine Kept.cond ?_ ?_ | refine KeptRes.cond ?_ ?_ | refine KeptP.cond ?_ ?_ | apply State.setEmbTable_keeps | refine Kept.foldl ?_ ?_ | intro _ | refine KeptP.foldl ?_ ?_ | refine KeptP.of_eq (by assumption) ?_ | dsimp only | split | dsimp only | refine KeptP.fst ?_ | refine KeptP.mk ?_ | fail_if_no_progress (refine Kept.upd ?_ (by rfl) (by intro p hp; cases p <;> first | rfl | exact (Kept.no hm hp (by decide)).elim)))
theorem State.dropTable_keeps {m : Nat} {r : State} (s : State) (id : Nat) (hm : Nat.land 1024 m = 1024) (h : Kept m r s) : Kept m r (State.dropTable s id) := by
  unfold State.dropTable
  with_reducible repeat' (first | assumption | exact Kept.sub hm rfl | exact Kept.refl _ _ | refine KeptRes.next ?_ | refine Kept.cond ?_ ?_ | refine KeptRes.cond ?_ ?_ | refine KeptP.cond ?_ ?_ | refine Kept.foldl ?_ ?_ | intro _ | refine KeptP.foldl ?_ ?_ | refine KeptP.of_eq (by assumption) ?_ | dsimp only | split | dsimp only | refine KeptP.fst ?_ | refine KeptP.mk ?_ | fail_if_no_progress (refine Kept.upd ?_ (by rfl) (by intro p hp; cases p <;> first | rfl | exact (Kept.no hm hp (by decide)).elim)))
theorem State.switchTable_keeps {m : Nat} {r : State} (s : State) (id : Nat) (source : Nat) (hm : Nat.land 4195346 m = 4195346) (h : Kept m r s) : Kept m r (State.switchTable s id source) := by
  unfold State.switchTable
  with_reducible repeat' (first | assumption | exact Kept.sub hm rfl | exact Kept.refl _ _ | refine KeptRes.next ?_ | refine Kept.cond ?_ ?_ | refine KeptRes.cond ?_ ?_ | refine KeptP.cond ?_ ?_ | apply State.raise_keeps | apply State.setEmbTable_keeps | refine Kept.foldl ?_ ?_ | intro _ | refine KeptP.foldl ?_ ?_ | refine KeptP.of_eq (by assumption) ?_ | dsimp only | split | dsimp only | refine KeptP.fst ?_ | refine KeptP.mk ?_ | fail_if_no_progress (refine Kept.upd ?_ (by rfl) (by intro p hp; cases p <;> first | rfl | exact (Kept.no hm hp (by decide)).elim)))
theorem State.closeStep_keeps {m : Nat} {r : State} (s : State) (id : Nat) (step : Nat) (hm : Nat.land 1024 m = 1024) (h : Kept m r s) : Kept m r (State.closeStep s id step) := by
  unfold State.closeStep
  with_reducible repeat' (first | assumption | exact Kept.sub hm rfl | exact Kept.refl _ _ | refine KeptRes.next ?_ | refine Kept.cond ?_ ?_ | refine KeptRes.cond ?_ ?_ | refine KeptP.cond ?_ ?_ | apply State.setEmbTable_keeps | refine Kept.foldl ?_ ?_ | intro _ | refine KeptP.foldl ?_ ?_ | refine KeptP.of_eq (by assumption) ?_ | dsimp only | split | dsimp only | refine KeptP.fst ?_ | refine KeptP.mk ?_ | fail_if_no_progress (refine Kept.upd ?_ (by rfl) (by intro p hp; cases p <;> first | rfl | exact (Kept.no hm hp (by decide)).elim)))
theorem State.setWords_keeps {m : Nat} {r : State} (s : State) (d : List Byte) (ws : List Nat) (n : Nat) (v : Nat) (hm : Nat.land 16648466 m = 16648466) (h : Kept m r s) : Kept m r (State.setWords s d ws n v) := by
  unfold State.setWords
  with_reducible repeat' (first | assumption | exact Kept.sub hm rfl | exact Kept.refl _ _ | refine KeptRes.next ?_ | refine Kept.cond ?_ ?_ | refine KeptRes.cond ?_ ?_ | refine KeptP.cond ?_ ?_ | apply State.writeStore_keeps | refine Kept.foldl ?_ ?_ | intro _ | refine KeptP.foldl ?_ ?_ | refine KeptP.of_eq (by assumption) ?_ | dsimp only | split | dsimp only | refine KeptP.fst ?_ | refine KeptP.mk ?_ | fail_if_no_progress (refine Kept.upd ?_ (by rfl) (by intro p hp; cases p <;> first | rfl | exact (Kept.no hm hp (by decide)).elim)))
theorem State.setVecIndex_keeps {m : Nat} {r : State} (s : State) (i : Nat) (x : VecIndex) (hm : Nat.land 2048 m = 2048) (h : Kept m r s) : Kept m r (State.setVecIndex s i x) := by
  unfold State.setVecIndex
  with_reducible repeat' (first | assumption | exact Kept.sub hm rfl | exact Kept.refl _ _ | refine KeptRes.next ?_ | refine Kept.cond ?_ ?_ | refine KeptRes.cond ?_ ?_ | refine KeptP.cond ?_ ?_ | refine Kept.foldl ?_ ?_ | intro _ | refine KeptP.foldl ?_ ?_ | refine KeptP.of_eq (by assumption) ?_ | dsimp only | split | dsimp only | refine KeptP.fst ?_ | refine KeptP.mk ?_ | fail_if_no_progress (refine Kept.upd ?_ (by rfl) (by intro p hp; cases p <;> first | rfl | exact (Kept.no hm hp (by decide)).elim)))
theorem State.setWalk_keeps {m : Nat} {r : State} (s : State) (w : Nat) (x : Walk) (hm : Nat.land 2048 m = 2048) (h : Kept m r s) : Kept m r (State.setWalk s w x) := by
  unfold State.setWalk
  with_reducible repeat' (first | assumption | exact Kept.sub hm rfl | exact Kept.refl _ _ | refine KeptRes.next ?_ | refine Kept.cond ?_ ?_ | refine KeptRes.cond ?_ ?_ | refine KeptP.cond ?_ ?_ | refine Kept.foldl ?_ ?_ | intro _ | refine KeptP.foldl ?_ ?_ | refine KeptP.of_eq (by assumption) ?_ | dsimp only | split | dsimp only | refine KeptP.fst ?_ | refine KeptP.mk ?_ | fail_if_no_progress (refine Kept.upd ?_ (by rfl) (by intro p hp; cases p <;> first | rfl | exact (Kept.no hm hp (by decide)).elim)))
theorem State.walkRead_keeps {m : Nat} {r : State} (s : State) (rs : List (Nat × Nat)) (hm : Nat.land 16648466 m = 16648466) (h : Kept m r s) : KeptP m r (State.walkRead s rs) := by
  unfold State.walkRead
  with_reducible repeat' (first | assumption | exact Kept.sub hm rfl | exact Kept.refl _ _ | refine KeptRes.next ?_ | refine Kept.cond ?_ ?_ | refine KeptRes.cond ?_ ?_ | refine KeptP.cond ?_ ?_ | apply State.readRanges_keeps | refine Kept.foldl ?_ ?_ | intro _ | refine KeptP.foldl ?_ ?_ | refine KeptP.of_eq (by assumption) ?_ | dsimp only | split | dsimp only | refine KeptP.fst ?_ | refine KeptP.mk ?_ | fail_if_no_progress (refine Kept.upd ?_ (by rfl) (by intro p hp; cases p <;> first | rfl | exact (Kept.no hm hp (by decide)).elim)))
theorem State.consider_keeps {m : Nat} {r : State} (s : State) (d : List Byte) (x : Walk) (entry : Bool) (v : Nat) (hm : Nat.land 16648466 m = 16648466) (h : Kept m r s) : KeptP m r (State.consider s d x entry v) := by
  unfold State.consider
  with_reducible repeat' (first | assumption | exact Kept.sub hm rfl | exact Kept.refl _ _ | refine KeptRes.next ?_ | refine Kept.cond ?_ ?_ | refine KeptRes.cond ?_ ?_ | refine KeptP.cond ?_ ?_ | apply State.count_keeps | apply State.raise_keeps | apply State.walkRead_keeps | refine Kept.foldl ?_ ?_ | intro _ | refine KeptP.foldl ?_ ?_ | refine KeptP.of_eq (by assumption) ?_ | (guard_target =ₛ Kept m r z; subst z) | (guard_target =ₛ KeptP m r z; subst z) | (extract_lets -underBinder +onlyGivenNames z; first | (have kz : Kept m r z := ?_) | (have kz : KeptP m r z := ?_) | (have _f := fun a => z a; clear _f; subst z) | skip) | split | dsimp only | refine KeptP.fst ?_ | refine KeptP.mk ?_ | fail_if_no_progress (refine Kept.upd ?_ (by rfl) (by intro p hp; cases p <;> first | rfl | exact (Kept.no hm hp (by decide)).elim)))
theorem State.considerAll_keeps {m : Nat} {r : State} (s : State) (d : List Byte) (x : Walk) (entry : Bool) (a4 : List Nat) (hm : Nat.land 16648466 m = 16648466) (h : Kept m r s) : KeptP m r (State.considerAll s d x entry a4) := by
  induction a4 generalizing s d x entry with
  | nil =>
    unfold State.considerAll
    with_reducible repeat' (first | assumption | exact Kept.sub hm rfl | exact Kept.refl _ _ | refine KeptRes.next ?_ | refine Kept.cond ?_ ?_ | refine KeptRes.cond ?_ ?_ | refine KeptP.cond ?_ ?_ | apply ih | apply State.consider_keeps | refine Kept.foldl ?_ ?_ | intro _ | refine KeptP.foldl ?_ ?_ | refine KeptP.of_eq (by assumption) ?_ | dsimp only | split | dsimp only | refine KeptP.fst ?_ | refine KeptP.mk ?_ | fail_if_no_progress (refine Kept.upd ?_ (by rfl) (by intro p hp; cases p <;> first | rfl | exact (Kept.no hm hp (by decide)).elim)))
  | cons a l ih =>
    unfold State.considerAll
    with_reducible repeat' (first | assumption | exact Kept.sub hm rfl | exact Kept.refl _ _ | refine KeptRes.next ?_ | refine Kept.cond ?_ ?_ | refine KeptRes.cond ?_ ?_ | refine KeptP.cond ?_ ?_ | apply ih | apply State.consider_keeps | refine Kept.foldl ?_ ?_ | intro _ | refine KeptP.foldl ?_ ?_ | refine KeptP.of_eq (by assumption) ?_ | dsimp only | split | dsimp only | refine KeptP.fst ?_ | refine KeptP.mk ?_ | fail_if_no_progress (refine Kept.upd ?_ (by rfl) (by intro p hp; cases p <;> first | rfl | exact (Kept.no hm hp (by decide)).elim)))
theorem State.applyPick_keeps {m : Nat} {r : State} (s : State) (d : List Byte) (x : Walk) (u : Nat) (word : Nat) (hm : Nat.land 16648466 m = 16648466) (h : Kept m r s) : KeptP m r (State.applyPick s d x u word) := by
  unfold State.applyPick
  with_reducible repeat' (first | assumption | exact Kept.sub hm rfl | exact Kept.refl _ _ | refine KeptRes.next ?_ | refine Kept.cond ?_ ?_ | refine KeptRes.cond ?_ ?_ | refine KeptP.cond ?_ ?_ | apply State.considerAll_keeps | apply State.count_keeps | apply State.raise_keeps | apply State.walkRead_keeps | refine Kept.foldl ?_ ?_ | intro _ | refine KeptP.foldl ?_ ?_ | refine KeptP.of_eq (by assumption) ?_ | dsimp only | split | dsimp only | refine KeptP.fst ?_ | refine KeptP.mk ?_ | fail_if_no_progress (refine Kept.upd ?_ (by rfl) (by intro p hp; cases p <;> first | rfl | exact (Kept.no hm hp (by decide)).elim)))
theorem State.applyRound_keeps {m : Nat} {r : State} (s : State) (d : List Byte) (x : Walk) (a3 : List (Nat × Nat)) (hm : Nat.land 16648466 m = 16648466) (h : Kept m r s) : KeptP m r (State.applyRound s d x a3) := by
  induction a3 generalizing s d x with
  | nil =>
    unfold State.applyRound
    with_reducible repeat' (first | assumption | exact Kept.sub hm rfl | exact Kept.refl _ _ | refine KeptRes.next ?_ | refine Kept.cond ?_ ?_ | refine KeptRes.cond ?_ ?_ | refine KeptP.cond ?_ ?_ | apply ih | apply State.applyPick_keeps | refine Kept.foldl ?_ ?_ | intro _ | refine KeptP.foldl ?_ ?_ | refine KeptP.of_eq (by assumption) ?_ | dsimp only | split | dsimp only | refine KeptP.fst ?_ | refine KeptP.mk ?_ | fail_if_no_progress (refine Kept.upd ?_ (by rfl) (by intro p hp; cases p <;> first | rfl | exact (Kept.no hm hp (by decide)).elim)))
  | cons a l ih =>
    unfold State.applyRound
    with_reducible repeat' (first | assumption | exact Kept.sub hm rfl | exact Kept.refl _ _ | refine KeptRes.next ?_ | refine Kept.cond ?_ ?_ | refine KeptRes.cond ?_ ?_ | refine KeptP.cond ?_ ?_ | apply ih | apply State.applyPick_keeps | refine Kept.foldl ?_ ?_ | intro _ | refine KeptP.foldl ?_ ?_ | refine KeptP.of_eq (by assumption) ?_ | dsimp only | split | dsimp only | refine KeptP.fst ?_ | refine KeptP.mk ?_ | fail_if_no_progress (refine Kept.upd ?_ (by rfl) (by intro p hp; cases p <;> first | rfl | exact (Kept.no hm hp (by decide)).elim)))
theorem State.walkStep_keeps {m : Nat} {r : State} (s : State) (d : List Byte) (x : Walk) (hm : Nat.land 16648466 m = 16648466) (h : Kept m r s) : KeptP m r (State.walkStep s d x) := by
  unfold State.walkStep
  with_reducible repeat' (first | assumption | exact Kept.sub hm rfl | exact Kept.refl _ _ | refine KeptRes.next ?_ | refine Kept.cond ?_ ?_ | refine KeptRes.cond ?_ ?_ | refine KeptP.cond ?_ ?_ | apply State.applyRound_keeps | apply State.considerAll_keeps | apply State.count_keeps | apply State.raise_keeps | apply State.walkRead_keeps | refine Kept.foldl ?_ ?_ | intro _ | refine KeptP.foldl ?_ ?_ | refine KeptP.of_eq (by assumption) ?_ | dsimp only | split | dsimp only | refine KeptP.fst ?_ | refine KeptP.mk ?_ | fail_if_no_progress (refine Kept.upd ?_ (by rfl) (by intro p hp; cases p <;> first | rfl | exact (Kept.no hm hp (by decide)).elim)))
theorem State.repairNode_keeps {m : Nat} {r : State} (s : State) (d : List Byte) (part : Nat) (v : Nat) (sources : List Nat) (hm : Nat.land 16648466 m = 16648466) (h : Kept m r s) : KeptP m r (State.repairNode s d part v sources) := by
  unfold State.repairNode
  with_reducible repeat' (first | assumption | exact Kept.sub hm rfl | exact Kept.refl _ _ | refine KeptRes.next ?_ | refine Kept.cond ?_ ?_ | refine KeptRes.cond ?_ ?_ | refine KeptP.cond ?_ ?_ | apply State.readRanges_keeps | apply State.writeStore_keeps | refine Kept.foldl ?_ ?_ | intro _ | refine KeptP.foldl ?_ ?_ | refine KeptP.of_eq (by assumption) ?_ | dsimp only | split | dsimp only | refine KeptP.fst ?_ | refine KeptP.mk ?_ | fail_if_no_progress (refine Kept.upd ?_ (by rfl) (by intro p hp; cases p <;> first | rfl | exact (Kept.no hm hp (by decide)).elim)))
theorem State.writeLog_keeps {m : Nat} {r : State} (s : State) (d : List Byte) (i : Nat) (w : Nat) (hm : Nat.land 16648466 m = 16648466) (h : Kept m r s) : Kept m r (State.writeLog s d i w) := by
  unfold State.writeLog
  with_reducible repeat' (first | assumption | exact Kept.sub hm rfl | exact Kept.refl _ _ | refine KeptRes.next ?_ | refine Kept.cond ?_ ?_ | refine KeptRes.cond ?_ ?_ | refine KeptP.cond ?_ ?_ | apply State.writeStore_keeps | refine Kept.foldl ?_ ?_ | intro _ | refine KeptP.foldl ?_ ?_ | refine KeptP.of_eq (by assumption) ?_ | dsimp only | split | dsimp only | refine KeptP.fst ?_ | refine KeptP.mk ?_ | fail_if_no_progress (refine Kept.upd ?_ (by rfl) (by intro p hp; cases p <;> first | rfl | exact (Kept.no hm hp (by decide)).elim)))
theorem State.logBackEdge_keeps {m : Nat} {r : State} (s : State) (d : List Byte) (i : Nat) (part : Nat) (target : Nat) (source : Nat) (hm : Nat.land 16648466 m = 16648466) (h : Kept m r s) : KeptP m r (State.logBackEdge s d i part target source) := by
  unfold State.logBackEdge
  with_reducible repeat' (first | assumption | exact Kept.sub hm rfl | exact Kept.refl _ _ | refine KeptRes.next ?_ | refine Kept.cond ?_ ?_ | refine KeptRes.cond ?_ ?_ | refine KeptP.cond ?_ ?_ | apply State.count_keeps | apply State.raise_keeps | apply State.writeStore_keeps | refine Kept.foldl ?_ ?_ | intro _ | refine KeptP.foldl ?_ ?_ | refine KeptP.of_eq (by assumption) ?_ | dsimp only | split | dsimp only | refine KeptP.fst ?_ | refine KeptP.mk ?_ | fail_if_no_progress (refine Kept.upd ?_ (by rfl) (by intro p hp; cases p <;> first | rfl | exact (Kept.no hm hp (by decide)).elim)))
theorem State.dropIndex_keeps {m : Nat} {r : State} (s : State) (i : Nat) (hm : Nat.land 2048 m = 2048) (h : Kept m r s) : Kept m r (State.dropIndex s i) := by
  unfold State.dropIndex
  with_reducible repeat' (first | assumption | exact Kept.sub hm rfl | exact Kept.refl _ _ | refine KeptRes.next ?_ | refine Kept.cond ?_ ?_ | refine KeptRes.cond ?_ ?_ | refine KeptP.cond ?_ ?_ | refine Kept.foldl ?_ ?_ | intro _ | refine KeptP.foldl ?_ ?_ | refine KeptP.of_eq (by assumption) ?_ | dsimp only | split | dsimp only | refine KeptP.fst ?_ | refine KeptP.mk ?_ | fail_if_no_progress (refine Kept.upd ?_ (by rfl) (by intro p hp; cases p <;> first | rfl | exact (Kept.no hm hp (by decide)).elim)))
theorem State.changeWords_keeps {m : Nat} {r : State} (s : State) (d : List Byte) (p : Nat → Bool) (f : Nat → Nat) (hm : Nat.land 16648466 m = 16648466) (h : Kept m r s) : KeptP m r (State.changeWords s d p f) := by
  unfold State.changeWords
  with_reducible repeat' (first | assumption | exact Kept.sub hm rfl | exact Kept.refl _ _ | refine KeptRes.next ?_ | refine Kept.cond ?_ ?_ | refine KeptRes.cond ?_ ?_ | refine KeptP.cond ?_ ?_ | apply State.setWords_keeps | refine Kept.foldl ?_ ?_ | intro _ | refine KeptP.foldl ?_ ?_ | refine KeptP.of_eq (by assumption) ?_ | dsimp only | split | dsimp only | refine KeptP.fst ?_ | refine KeptP.mk ?_ | fail_if_no_progress (refine Kept.upd ?_ (by rfl) (by intro p hp; cases p <;> first | rfl | exact (Kept.no hm hp (by decide)).elim)))
theorem State.startPass_keeps {m : Nat} {r : State} (s : State) (i : Nat) (x : VecIndex) (hm : Nat.land 16648466 m = 16648466) (h : Kept m r s) : KeptP m r (State.startPass s i x) := by
  unfold State.startPass
  with_reducible repeat' (first | assumption | exact Kept.sub hm rfl | exact Kept.refl _ _ | refine KeptRes.next ?_ | refine Kept.cond ?_ ?_ | refine KeptRes.cond ?_ ?_ | refine KeptP.cond ?_ ?_ | apply State.changeWords_keeps | apply State.setVecIndex_keeps | refine Kept.foldl ?_ ?_ | intro _ | refine KeptP.foldl ?_ ?_ | refine KeptP.of_eq (by assumption) ?_ | dsimp only | split | dsimp only | refine KeptP.fst ?_ | refine KeptP.mk ?_ | fail_if_no_progress (refine Kept.upd ?_ (by rfl) (by intro p hp; cases p <;> first | rfl | exact (Kept.no hm hp (by decide)).elim)))
theorem State.setRplBuffer_keeps {m : Nat} {r : State} (s : State) (b : Nat) (x : RplBuffer) (hm : Nat.land 4096 m = 4096) (h : Kept m r s) : Kept m r (State.setRplBuffer s b x) := by
  unfold State.setRplBuffer
  with_reducible repeat' (first | assumption | exact Kept.sub hm rfl | exact Kept.refl _ _ | refine KeptRes.next ?_ | refine Kept.cond ?_ ?_ | refine KeptRes.cond ?_ ?_ | refine KeptP.cond ?_ ?_ | refine Kept.foldl ?_ ?_ | intro _ | refine KeptP.foldl ?_ ?_ | refine KeptP.of_eq (by assumption) ?_ | dsimp only | split | dsimp only | refine KeptP.fst ?_ | refine KeptP.mk ?_ | fail_if_no_progress (refine Kept.upd ?_ (by rfl) (by intro p hp; cases p <;> first | rfl | exact (Kept.no hm hp (by decide)).elim)))
theorem State.setShardQueue_keeps {m : Nat} {r : State} (s : State) (buffer : Nat) (shard : Nat) (l : List RplChange) (hm : Nat.land 4096 m = 4096) (h : Kept m r s) : Kept m r (State.setShardQueue s buffer shard l) := by
  unfold State.setShardQueue
  with_reducible repeat' (first | assumption | exact Kept.sub hm rfl | exact Kept.refl _ _ | refine KeptRes.next ?_ | refine Kept.cond ?_ ?_ | refine KeptRes.cond ?_ ?_ | refine KeptP.cond ?_ ?_ | refine Kept.foldl ?_ ?_ | intro _ | refine KeptP.foldl ?_ ?_ | refine KeptP.of_eq (by assumption) ?_ | dsimp only | split | dsimp only | refine KeptP.fst ?_ | refine KeptP.mk ?_ | fail_if_no_progress (refine Kept.upd ?_ (by rfl) (by intro p hp; cases p <;> first | rfl | exact (Kept.no hm hp (by decide)).elim)))
theorem State.queueChange_keeps {m : Nat} {r : State} (s : State) (buffer : Nat) (shard : Nat) (c : RplChange) (hm : Nat.land 4096 m = 4096) (h : Kept m r s) : Kept m r (State.queueChange s buffer shard c) := by
  unfold State.queueChange
  with_reducible repeat' (first | assumption | exact Kept.sub hm rfl | exact Kept.refl _ _ | refine KeptRes.next ?_ | refine Kept.cond ?_ ?_ | refine KeptRes.cond ?_ ?_ | refine KeptP.cond ?_ ?_ | apply State.setShardQueue_keeps | refine Kept.foldl ?_ ?_ | intro _ | refine KeptP.foldl ?_ ?_ | refine KeptP.of_eq (by assumption) ?_ | dsimp only | split | dsimp only | refine KeptP.fst ?_ | refine KeptP.mk ?_ | fail_if_no_progress (refine Kept.upd ?_ (by rfl) (by intro p hp; cases p <;> first | rfl | exact (Kept.no hm hp (by decide)).elim)))
theorem State.countPrioBad_keeps {m : Nat} {r : State} (s : State) (replaced : Bool) (hm : Nat.land 4194322 m = 4194322) (h : Kept m r s) : Kept m r (State.countPrioBad s replaced) := by
  unfold State.countPrioBad
  with_reducible repeat' (first | assumption | exact Kept.sub hm rfl | exact Kept.refl _ _ | refine KeptRes.next ?_ | refine Kept.cond ?_ ?_ | refine KeptRes.cond ?_ ?_ | refine KeptP.cond ?_ ?_ | apply State.count_keeps | apply State.raise_keeps | refine Kept.foldl ?_ ?_ | intro _ | refine KeptP.foldl ?_ ?_ | refine KeptP.of_eq (by assumption) ?_ | dsimp only | split | dsimp only | refine KeptP.fst ?_ | refine KeptP.mk ?_ | fail_if_no_progress (refine Kept.upd ?_ (by rfl) (by intro p hp; cases p <;> first | rfl | exact (Kept.no hm hp (by decide)).elim)))
theorem State.modJob_keeps {m : Nat} {r : State} (s : State) (a : Asker) (f : RplJob → RplJob) (hm : Nat.land 4096 m = 4096) (h : Kept m r s) : Kept m r (State.modJob s a f) := by
  unfold State.modJob
  with_reducible repeat' (first | assumption | exact Kept.sub hm rfl | exact Kept.refl _ _ | refine KeptRes.next ?_ | refine Kept.cond ?_ ?_ | refine KeptRes.cond ?_ ?_ | refine KeptP.cond ?_ ?_ | refine Kept.foldl ?_ ?_ | intro _ | refine KeptP.foldl ?_ ?_ | refine KeptP.of_eq (by assumption) ?_ | dsimp only | split | dsimp only | refine KeptP.fst ?_ | refine KeptP.mk ?_ | fail_if_no_progress (refine Kept.upd ?_ (by rfl) (by intro p hp; cases p <;> first | rfl | exact (Kept.no hm hp (by decide)).elim)))
theorem State.queuePrio_keeps {m : Nat} {r : State} (s : State) (a : Asker) (buffer : Nat) (shard : Nat) (leaf : Nat) (code : Nat) (old : Option Nat) (hm : Nat.land 4198418 m = 4198418) (h : Kept m r s) : Kept m r (State.queuePrio s a buffer shard leaf code old) := by
  unfold State.queuePrio
  with_reducible repeat' (first | assumption | exact Kept.sub hm rfl | exact Kept.refl _ _ | refine KeptRes.next ?_ | refine Kept.cond ?_ ?_ | refine KeptRes.cond ?_ ?_ | refine KeptP.cond ?_ ?_ | apply State.countPrioBad_keeps | apply State.modJob_keeps | apply State.queueChange_keeps | refine Kept.foldl ?_ ?_ | intro _ | refine KeptP.foldl ?_ ?_ | refine KeptP.of_eq (by assumption) ?_ | dsimp only | split | dsimp only | refine KeptP.fst ?_ | refine KeptP.mk ?_ | fail_if_no_progress (refine Kept.upd ?_ (by rfl) (by intro p hp; cases p <;> first | rfl | exact (Kept.no hm hp (by decide)).elim)))
theorem State.queueUpdates_keeps {m : Nat} {r : State} (s : State) (a : Asker) (buffer : Nat) (d : List Byte) (cas : Bool) (list : List Byte) (n : Nat) (once : Bool) (hm : Nat.land 4198418 m = 4198418) (h : Kept m r s) : Kept m r (State.queueUpdates s a buffer d cas list n once) := by
  unfold State.queueUpdates
  with_reducible repeat' (first | assumption | exact Kept.sub hm rfl | exact Kept.refl _ _ | refine KeptRes.next ?_ | refine Kept.cond ?_ ?_ | refine KeptRes.cond ?_ ?_ | refine KeptP.cond ?_ ?_ | apply State.countPrioBad_keeps | apply State.modJob_keeps | apply State.queuePrio_keeps | refine Kept.foldl ?_ ?_ | intro _ | refine KeptP.foldl ?_ ?_ | refine KeptP.of_eq (by assumption) ?_ | dsimp only | split | dsimp only | refine KeptP.fst ?_ | refine KeptP.mk ?_ | fail_if_no_progress (refine Kept.upd ?_ (by rfl) (by intro p hp; cases p <;> first | rfl | exact (Kept.no hm hp (by decide)).elim)))
theorem State.setRplWord_keeps {m : Nat} {r : State} (s : State) (d : List Byte) (w : Nat) (i : Nat) (v : Nat) (hm : Nat.land 16648466 m = 16648466) (h : Kept m r s) : Kept m r (State.setRplWord s d w i v) := by
  unfold State.setRplWord
  with_reducible repeat' (first | assumption | exact Kept.sub hm rfl | exact Kept.refl _ _ | refine KeptRes.next ?_ | refine Kept.cond ?_ ?_ | refine KeptRes.cond ?_ ?_ | refine KeptP.cond ?_ ?_ | apply State.storeBytes_keeps | refine Kept.foldl ?_ ?_ | intro _ | refine KeptP.foldl ?_ ?_ | refine KeptP.of_eq (by assumption) ?_ | dsimp only | split | dsimp only | refine KeptP.fst ?_ | refine KeptP.mk ?_ | fail_if_no_progress (refine Kept.upd ?_ (by rfl) (by intro p hp; cases p <;> first | rfl | exact (Kept.no hm hp (by decide)).elim)))
theorem State.applyChange'_keeps {m : Nat} {r : State} (s : State) (d : List Byte) (w : Nat) (c : RplChange) (hm : Nat.land 16652562 m = 16652562) (h : Kept m r s) : KeptP m r (State.applyChange' s d w c) := by
  unfold State.applyChange'
  with_reducible repeat' (first | assumption | exact Kept.sub hm rfl | exact Kept.refl _ _ | refine KeptRes.next ?_ | refine Kept.cond ?_ ?_ | refine KeptRes.cond ?_ ?_ | refine KeptP.cond ?_ ?_ | apply State.count_keeps | apply State.modJob_keeps | apply State.setRplWord_keeps | refine Kept.foldl ?_ ?_ | intro _ | refine KeptP.foldl ?_ ?_ | refine KeptP.of_eq (by assumption) ?_ | dsimp only | split | dsimp only | refine KeptP.fst ?_ | refine KeptP.mk ?_ | fail_if_no_progress (refine Kept.upd ?_ (by rfl) (by intro p hp; cases p <;> first | rfl | exact (Kept.no hm hp (by decide)).elim)))
theorem State.runPass_keeps {m : Nat} {r : State} (s : State) (d : List Byte) (w : Nat) (cs : List RplChange) (hm : Nat.land 16652562 m = 16652562) (h : Kept m r s) : Kept m r (State.runPass s d w cs) := by
  unfold State.runPass
  with_reducible repeat' (first | assumption | exact Kept.sub hm rfl | exact Kept.refl _ _ | refine KeptRes.next ?_ | refine Kept.cond ?_ ?_ | refine KeptRes.cond ?_ ?_ | refine KeptP.cond ?_ ?_ | apply State.applyChange'_keeps | apply State.count_keeps | apply State.setRplWord_keeps | refine Kept.foldl ?_ ?_ | intro _ | refine KeptP.foldl ?_ ?_ | refine KeptP.of_eq (by assumption) ?_ | dsimp only | split | dsimp only | refine KeptP.fst ?_ | refine KeptP.mk ?_ | fail_if_no_progress (refine Kept.upd ?_ (by rfl) (by intro p hp; cases p <;> first | rfl | exact (Kept.no hm hp (by decide)).elim)))
theorem State.reserve_keeps {m : Nat} {r : State} (s : State) (f : RplFlight) (x : RplBuffer) (hm : Nat.land 4096 m = 4096) (h : Kept m r s) : KeptP m r (State.reserve s f x) := by
  unfold State.reserve
  with_reducible repeat' (first | assumption | exact Kept.sub hm rfl | exact Kept.refl _ _ | refine KeptRes.next ?_ | refine Kept.cond ?_ ?_ | refine KeptRes.cond ?_ ?_ | refine KeptP.cond ?_ ?_ | apply State.setRplBuffer_keeps | refine Kept.foldl ?_ ?_ | intro _ | refine KeptP.foldl ?_ ?_ | refine KeptP.of_eq (by assumption) ?_ | dsimp only | split | dsimp only | refine KeptP.fst ?_ | refine KeptP.mk ?_ | fail_if_no_progress (refine Kept.upd ?_ (by rfl) (by intro p hp; cases p <;> first | rfl | exact (Kept.no hm hp (by decide)).elim)))
theorem State.clearSlots_keeps {m : Nat} {r : State} (s : State) (a : Asker) (buffer : Nat) (d : List Byte) (q : Nat) (n : Nat) (hm : Nat.land 4096 m = 4096) (h : Kept m r s) : Kept m r (State.clearSlots s a buffer d q n) := by
  unfold State.clearSlots
  with_reducible repeat' (first | assumption | exact Kept.sub hm rfl | exact Kept.refl _ _ | refine KeptRes.next ?_ | refine Kept.cond ?_ ?_ | refine KeptRes.cond ?_ ?_ | refine KeptP.cond ?_ ?_ | apply State.queueChange_keeps | refine Kept.foldl ?_ ?_ | intro _ | refine KeptP.foldl ?_ ?_ | refine KeptP.of_eq (by assumption) ?_ | dsimp only | split | dsimp only | refine KeptP.fst ?_ | refine KeptP.mk ?_ | fail_if_no_progress (refine Kept.upd ?_ (by rfl) (by intro p hp; cases p <;> first | rfl | exact (Kept.no hm hp (by decide)).elim)))
theorem State.noteHead_keeps {m : Nat} {r : State} (s : State) (buffer : Nat) (head : Nat) (hm : Nat.land 4096 m = 4096) (h : Kept m r s) : Kept m r (State.noteHead s buffer head) := by
  unfold State.noteHead
  with_reducible repeat' (first | assumption | exact Kept.sub hm rfl | exact Kept.refl _ _ | refine KeptRes.next ?_ | refine Kept.cond ?_ ?_ | refine KeptRes.cond ?_ ?_ | refine KeptP.cond ?_ ?_ | apply State.setRplBuffer_keeps | refine Kept.foldl ?_ ?_ | intro _ | refine KeptP.foldl ?_ ?_ | refine KeptP.of_eq (by assumption) ?_ | dsimp only | split | dsimp only | refine KeptP.fst ?_ | refine KeptP.mk ?_ | fail_if_no_progress (refine Kept.upd ?_ (by rfl) (by intro p hp; cases p <;> first | rfl | exact (Kept.no hm hp (by decide)).elim)))
theorem State.insertGranted_keeps {m : Nat} {r : State} (s : State) (a : Asker) (buffer : Nat) (d : List Byte) (q : Nat) (n : Nat) (hm : Nat.land 2363408 m = 2363408) (h : Kept m r s) : Kept m r (State.insertGranted s a buffer d q n) := by
  unfold State.insertGranted
  with_reducible repeat' (first | assumption | exact Kept.sub hm rfl | exact Kept.refl _ _ | refine KeptRes.next ?_ | refine Kept.cond ?_ ?_ | refine KeptRes.cond ?_ ?_ | refine KeptP.cond ?_ ?_ | apply State.answerLocal_keeps | apply State.clearSlots_keeps | apply State.modEntry_keeps | apply State.modJob_keeps | apply State.noteHead_keeps | apply State.sendStage_keeps | refine Kept.foldl ?_ ?_ | intro _ | refine KeptP.foldl ?_ ?_ | refine KeptP.of_eq (by assumption) ?_ | dsimp only | split | dsimp only | refine KeptP.fst ?_ | refine KeptP.mk ?_ | fail_if_no_progress (refine Kept.upd ?_ (by rfl) (by intro p hp; cases p <;> first | rfl | exact (Kept.no hm hp (by decide)).elim)))
theorem State.askReserve_keeps {m : Nat} {r : State} (s : State) (f : RplFlight) (x : RplBuffer) (hm : Nat.land 6557714 m = 6557714) (h : Kept m r s) : Kept m r (State.askReserve s f x) := by
  unfold State.askReserve
  with_reducible repeat' (first | assumption | exact Kept.sub hm rfl | exact Kept.refl _ _ | refine KeptRes.next ?_ | refine Kept.cond ?_ ?_ | refine KeptRes.cond ?_ ?_ | refine KeptP.cond ?_ ?_ | apply State.insertGranted_keeps | apply State.raise_keeps | apply State.reserve_keeps | refine Kept.foldl ?_ ?_ | intro _ | refine KeptP.foldl ?_ ?_ | refine KeptP.of_eq (by assumption) ?_ | dsimp only | split | dsimp only | refine KeptP.fst ?_ | refine KeptP.mk ?_ | fail_if_no_progress (refine Kept.upd ?_ (by rfl) (by intro p hp; cases p <;> first | rfl | exact (Kept.no hm hp (by decide)).elim)))
theorem State.copyShard_keeps {m : Nat} {r : State} (s : State) (j : RplJob) (d : List Byte) (q : Nat) (w : Nat) (hm : Nat.land 16775570 m = 16775570) (h : Kept m r s) : Kept m r (State.copyShard s j d q w) := by
  unfold State.copyShard
  with_reducible repeat' (first | assumption | exact Kept.sub hm rfl | exact Kept.refl _ _ | refine KeptRes.next ?_ | refine Kept.cond ?_ ?_ | refine KeptRes.cond ?_ ?_ | refine KeptP.cond ?_ ?_ | apply State.accessPages_keeps | apply State.modJob_keeps | apply State.prepareRanges_keeps | apply State.queuePrio_keeps | apply State.readRanges_keeps | apply State.writeStore_keeps | refine Kept.foldl ?_ ?_ | intro _ | refine KeptP.foldl ?_ ?_ | refine KeptP.of_eq (by assumption) ?_ | (guard_target =ₛ Kept m r z; subst z) | (guard_target =ₛ KeptP m r z; subst z) | (extract_lets -underBinder +onlyGivenNames z; first | (have kz : Kept m r z := ?_) | (have kz : KeptP m r z := ?_) | (have _f := fun a => z a; clear _f; subst z) | skip) | split | dsimp only | refine KeptP.fst ?_ | refine KeptP.mk ?_ | fail_if_no_progress (refine Kept.upd ?_ (by rfl) (by intro p hp; cases p <;> first | rfl | exact (Kept.no hm hp (by decide)).elim)))
theorem State.endJob_keeps {m : Nat} {r : State} (s : State) (j : RplJob) (hm : Nat.land 2363408 m = 2363408) (h : Kept m r s) : Kept m r (State.endJob s j) := by
  unfold State.endJob
  with_reducible repeat' (first | assumption | exact Kept.sub hm rfl | exact Kept.refl _ _ | refine KeptRes.next ?_ | refine Kept.cond ?_ ?_ | refine KeptRes.cond ?_ ?_ | refine KeptP.cond ?_ ?_ | apply State.answerLocal_keeps | apply State.endFlight_keeps | refine Kept.foldl ?_ ?_ | intro _ | refine KeptP.foldl ?_ ?_ | refine KeptP.of_eq (by assumption) ?_ | dsimp only | split | dsimp only | refine KeptP.fst ?_ | refine KeptP.mk ?_ | fail_if_no_progress (refine Kept.upd ?_ (by rfl) (by intro p hp; cases p <;> first | rfl | exact (Kept.no hm hp (by decide)).elim)))
theorem State.endSample_keeps {m : Nat} {r : State} (s : State) (j : RplJob) (d : List Byte) (hm : Nat.land 16777114 m = 16777114) (h : Kept m r s) : Kept m r (State.endSample s j d) := by
  unfold State.endSample
  with_reducible repeat' (first | assumption | exact Kept.sub hm rfl | exact Kept.refl _ _ | refine KeptRes.next ?_ | refine Kept.cond ?_ ?_ | refine KeptRes.cond ?_ ?_ | refine KeptP.cond ?_ ?_ | apply State.answerLocal_keeps | apply State.modEntry_keeps | apply State.sendOutput_keeps | refine Kept.foldl ?_ ?_ | intro _ | refine KeptP.foldl ?_ ?_ | refine KeptP.of_eq (by assumption) ?_ | dsimp only | split | dsimp only | refine KeptP.fst ?_ | refine KeptP.mk ?_ | fail_if_no_progress (refine Kept.upd ?_ (by rfl) (by intro p hp; cases p <;> first | rfl | exact (Kept.no hm hp (by decide)).elim)))
theorem State.startDraws_keeps {m : Nat} {r : State} (s : State) (j : RplJob) (d : List Byte) (all : List (Nat × Nat × Nat)) (hm : Nat.land 16777114 m = 16777114) (h : Kept m r s) : Kept m r (State.startDraws s j d all) := by
  unfold State.startDraws
  with_reducible repeat' (first | assumption | exact Kept.sub hm rfl | exact Kept.refl _ _ | refine KeptRes.next ?_ | refine Kept.cond ?_ ?_ | refine KeptRes.cond ?_ ?_ | refine KeptP.cond ?_ ?_ | apply State.endSample_keeps | apply State.modEntry_keeps | apply State.modJob_keeps | apply State.sendStage_keeps | refine Kept.foldl ?_ ?_ | intro _ | refine KeptP.foldl ?_ ?_ | refine KeptP.of_eq (by assumption) ?_ | dsimp only | split | dsimp only | refine KeptP.fst ?_ | refine KeptP.mk ?_ | fail_if_no_progress (refine Kept.upd ?_ (by rfl) (by intro p hp; cases p <;> first | rfl | exact (Kept.no hm hp (by decide)).elim)))
theorem State.readTotals_keeps {m : Nat} {r : State} (s : State) (j : RplJob) (d : List Byte) (hm : Nat.land 16777114 m = 16777114) (h : Kept m r s) : Kept m r (State.readTotals s j d) := by
  unfold State.readTotals
  with_reducible repeat' (first | assumption | exact Kept.sub hm rfl | exact Kept.refl _ _ | refine KeptRes.next ?_ | refine Kept.cond ?_ ?_ | refine KeptRes.cond ?_ ?_ | refine KeptP.cond ?_ ?_ | apply State.endSample_keeps | apply State.modEntry_keeps | apply State.prepareRanges_keeps | apply State.readRanges_keeps | apply State.sendStage_keeps | apply State.startDraws_keeps | refine Kept.foldl ?_ ?_ | intro _ | refine KeptP.foldl ?_ ?_ | refine KeptP.of_eq (by assumption) ?_ | dsimp only | split | dsimp only | refine KeptP.fst ?_ | refine KeptP.mk ?_ | fail_if_no_progress (refine Kept.upd ?_ (by rfl) (by intro p hp; cases p <;> first | rfl | exact (Kept.no hm hp (by decide)).elim)))
theorem State.advanceSample_keeps {m : Nat} {r : State} (s : State) (j : RplJob) (d : List Byte) (hm : Nat.land 16777114 m = 16777114) (h : Kept m r s) : Kept m r (State.advanceSample s j d) := by
  unfold State.advanceSample
  with_reducible repeat' (first | assumption | exact Kept.sub hm rfl | exact Kept.refl _ _ | refine KeptRes.next ?_ | refine Kept.cond ?_ ?_ | refine KeptRes.cond ?_ ?_ | refine KeptP.cond ?_ ?_ | apply State.endSample_keeps | apply State.readTotals_keeps | refine Kept.foldl ?_ ?_ | intro _ | refine KeptP.foldl ?_ ?_ | refine KeptP.of_eq (by assumption) ?_ | dsimp only | split | dsimp only | refine KeptP.fst ?_ | refine KeptP.mk ?_ | fail_if_no_progress (refine Kept.upd ?_ (by rfl) (by intro p hp; cases p <;> first | rfl | exact (Kept.no hm hp (by decide)).elim)))
theorem State.advanceJob_keeps {m : Nat} {r : State} (s : State) (a : Asker) (hm : Nat.land 16777114 m = 16777114) (h : Kept m r s) : Kept m r (State.advanceJob s a) := by
  unfold State.advanceJob
  with_reducible repeat' (first | assumption | exact Kept.sub hm rfl | exact Kept.refl _ _ | refine KeptRes.next ?_ | refine Kept.cond ?_ ?_ | refine KeptRes.cond ?_ ?_ | refine KeptP.cond ?_ ?_ | apply State.advanceSample_keeps | apply State.copyShard_keeps | apply State.endJob_keeps | refine Kept.foldl ?_ ?_ | intro _ | refine KeptP.foldl ?_ ?_ | refine KeptP.of_eq (by assumption) ?_ | dsimp only | split | dsimp only | refine KeptP.fst ?_ | refine KeptP.mk ?_ | fail_if_no_progress (refine Kept.upd ?_ (by rfl) (by intro p hp; cases p <;> first | rfl | exact (Kept.no hm hp (by decide)).elim)))
theorem State.pageWritten_keeps {m : Nat} {r : State} (t : KvpTally) (a1 : State × Option (Nat × Nat)) (hm : Nat.land 0 m = 0) (h : KeptP m r a1) : KeptP m r (State.pageWritten t a1) := by
  obtain ⟨s0, b0⟩ := a1
  have h0 := h.fst
  dsimp only at h0
  unfold State.pageWritten
  with_reducible repeat' (first | assumption | exact Kept.sub hm rfl | exact Kept.refl _ _ | refine KeptRes.next ?_ | refine Kept.cond ?_ ?_ | refine KeptRes.cond ?_ ?_ | refine KeptP.cond ?_ ?_ | refine Kept.foldl ?_ ?_ | intro _ | refine KeptP.foldl ?_ ?_ | refine KeptP.of_eq (by assumption) ?_ | dsimp only | split | dsimp only | refine KeptP.fst ?_ | refine KeptP.mk ?_ | fail_if_no_progress (refine Kept.upd ?_ (by rfl) (by intro p hp; cases p <;> first | rfl | exact (Kept.no hm hp (by decide)).elim)))
theorem State.pageRead_keeps {m : Nat} {r : State} (t : KvpTally) (src : Nat) (dst : Nat) (a3 : State × Option (Nat × Nat)) (hm : Nat.land 16648466 m = 16648466) (h : KeptP m r a3) : KeptP m r (State.pageRead t src dst a3) := by
  obtain ⟨s0, b0⟩ := a3
  have h0 := h.fst
  dsimp only at h0
  unfold State.pageRead
  with_reducible repeat' (first | assumption | exact Kept.sub hm rfl | exact Kept.refl _ _ | refine KeptRes.next ?_ | refine Kept.cond ?_ ?_ | refine KeptRes.cond ?_ ?_ | refine KeptP.cond ?_ ?_ | apply State.accessPages_keeps | apply State.pageWritten_keeps | apply State.writeStore_keeps | refine Kept.foldl ?_ ?_ | intro _ | refine KeptP.foldl ?_ ?_ | refine KeptP.of_eq (by assumption) ?_ | dsimp only | split | dsimp only | refine KeptP.fst ?_ | refine KeptP.mk ?_ | fail_if_no_progress (refine Kept.upd ?_ (by rfl) (by intro p hp; cases p <;> first | rfl | exact (Kept.no hm hp (by decide)).elim)))
theorem State.copyPage64_keeps {m : Nat} {r : State} (s : State) (t : KvpTally) (src : Nat) (dst : Nat) (hm : Nat.land 16648466 m = 16648466) (h : Kept m r s) : KeptP m r (State.copyPage64 s t src dst) := by
  unfold State.copyPage64
  with_reducible repeat' (first | assumption | exact Kept.sub hm rfl | exact Kept.refl _ _ | refine KeptRes.next ?_ | refine Kept.cond ?_ ?_ | refine KeptRes.cond ?_ ?_ | refine KeptP.cond ?_ ?_ | apply State.pageRead_keeps | apply State.readRanges_keeps | refine Kept.foldl ?_ ?_ | intro _ | refine KeptP.foldl ?_ ?_ | refine KeptP.of_eq (by assumption) ?_ | dsimp only | split | dsimp only | refine KeptP.fst ?_ | refine KeptP.mk ?_ | fail_if_no_progress (refine Kept.upd ?_ (by rfl) (by intro p hp; cases p <;> first | rfl | exact (Kept.no hm hp (by decide)).elim)))
theorem State.poolShort_keeps {m : Nat} {r : State} (s : State) (w : Nat) (t : KvpTally) (hm : Nat.land 4194322 m = 4194322) (h : Kept m r s) : KeptP m r (State.poolShort s w t) := by
  unfold State.poolShort
  with_reducible repeat' (first | assumption | exact Kept.sub hm rfl | exact Kept.refl _ _ | refine KeptRes.next ?_ | refine Kept.cond ?_ ?_ | refine KeptRes.cond ?_ ?_ | refine KeptP.cond ?_ ?_ | apply State.raise_keeps | refine Kept.foldl ?_ ?_ | intro _ | refine KeptP.foldl ?_ ?_ | refine KeptP.of_eq (by assumption) ?_ | dsimp only | split | dsimp only | refine KeptP.fst ?_ | refine KeptP.mk ?_ | fail_if_no_progress (refine Kept.upd ?_ (by rfl) (by intro p hp; cases p <;> first | rfl | exact (Kept.no hm hp (by decide)).elim)))
theorem State.spilled_keeps {m : Nat} {r : State} (p : Nat) (w : Nat) (x : KvpPool) (x3 : Nat) (f : Nat) (slot : Nat) (a6 : State × KvpTally) (hm : Nat.land 4202514 m = 4202514) (h : KeptP m r a6) : KeptP m r (State.spilled p w x x3 f slot a6) := by
  obtain ⟨s0, b0⟩ := a6
  have h0 := h.fst
  dsimp only at h0
  unfold State.spilled
  with_reducible repeat' (first | assumption | exact Kept.sub hm rfl | exact Kept.refl _ _ | refine KeptRes.next ?_ | refine Kept.cond ?_ ?_ | refine KeptRes.cond ?_ ?_ | refine KeptP.cond ?_ ?_ | apply State.count_keeps | apply State.modKvpPool_keeps | apply State.raise_keeps | refine Kept.foldl ?_ ?_ | intro _ | refine KeptP.foldl ?_ ?_ | refine KeptP.of_eq (by assumption) ?_ | dsimp only | split | dsimp only | refine KeptP.fst ?_ | refine KeptP.mk ?_ | fail_if_no_progress (refine Kept.upd ?_ (by rfl) (by intro p hp; cases p <;> first | rfl | exact (Kept.no hm hp (by decide)).elim)))
theorem State.spillVictim_keeps {m : Nat} {r : State} (s : State) (p : Nat) (w : Nat) (x : KvpPool) (x4 : Nat) (f : Nat) (slot : Nat) (t : KvpTally) (hm : Nat.land 16656658 m = 16656658) (h : Kept m r s) : KeptP m r (State.spillVictim s p w x x4 f slot t) := by
  unfold State.spillVictim
  with_reducible repeat' (first | assumption | exact Kept.sub hm rfl | exact Kept.refl _ _ | refine KeptRes.next ?_ | refine Kept.cond ?_ ?_ | refine KeptRes.cond ?_ ?_ | refine KeptP.cond ?_ ?_ | apply State.copyPage64_keeps | apply State.spilled_keeps | refine Kept.foldl ?_ ?_ | intro _ | refine KeptP.foldl ?_ ?_ | refine KeptP.of_eq (by assumption) ?_ | dsimp only | split | dsimp only | refine KeptP.fst ?_ | refine KeptP.mk ?_ | fail_if_no_progress (refine Kept.upd ?_ (by rfl) (by intro p hp; cases p <;> first | rfl | exact (Kept.no hm hp (by decide)).elim)))
theorem State.takeKvpFrame_keeps {m : Nat} {r : State} (s : State) (p : Nat) (w : Nat) (busy : List Nat) (t : KvpTally) (hm : Nat.land 16656658 m = 16656658) (h : Kept m r s) : KeptP m r (State.takeKvpFrame s p w busy t) := by
  unfold State.takeKvpFrame
  with_reducible repeat' (first | assumption | exact Kept.sub hm rfl | exact Kept.refl _ _ | refine KeptRes.next ?_ | refine Kept.cond ?_ ?_ | refine KeptRes.cond ?_ ?_ | refine KeptP.cond ?_ ?_ | apply State.poolShort_keeps | apply State.spillVictim_keeps | refine Kept.foldl ?_ ?_ | intro _ | refine KeptP.foldl ?_ ?_ | refine KeptP.of_eq (by assumption) ?_ | dsimp only | split | dsimp only | refine KeptP.fst ?_ | refine KeptP.mk ?_ | fail_if_no_progress (refine Kept.upd ?_ (by rfl) (by intro p hp; cases p <;> first | rfl | exact (Kept.no hm hp (by decide)).elim)))
theorem State.newKvpPage_keeps {m : Nat} {r : State} (s : State) (p : Nat) (w : Nat) (busy : List Nat) (t : KvpTally) (hm : Nat.land 16656658 m = 16656658) (h : Kept m r s) : KeptP m r (State.newKvpPage s p w busy t) := by
  unfold State.newKvpPage
  with_reducible repeat' (first | assumption | exact Kept.sub hm rfl | exact Kept.refl _ _ | refine KeptRes.next ?_ | refine Kept.cond ?_ ?_ | refine KeptRes.cond ?_ ?_ | refine KeptP.cond ?_ ?_ | apply State.modKvpPool_keeps | apply State.poolShort_keeps | apply State.takeKvpFrame_keeps | refine Kept.foldl ?_ ?_ | intro _ | refine KeptP.foldl ?_ ?_ | refine KeptP.of_eq (by assumption) ?_ | dsimp only | split | dsimp only | refine KeptP.fst ?_ | refine KeptP.mk ?_ | fail_if_no_progress (refine Kept.upd ?_ (by rfl) (by intro p hp; cases p <;> first | rfl | exact (Kept.no hm hp (by decide)).elim)))
theorem State.stampPage_keeps {m : Nat} {r : State} (s : State) (p : Nat) (x2 : Nat) (hm : Nat.land 8192 m = 8192) (h : Kept m r s) : Kept m r (State.stampPage s p x2) := by
  unfold State.stampPage
  with_reducible repeat' (first | assumption | exact Kept.sub hm rfl | exact Kept.refl _ _ | refine KeptRes.next ?_ | refine Kept.cond ?_ ?_ | refine KeptRes.cond ?_ ?_ | refine KeptP.cond ?_ ?_ | apply State.modKvpPool_keeps | refine Kept.foldl ?_ ?_ | intro _ | refine KeptP.foldl ?_ ?_ | refine KeptP.of_eq (by assumption) ?_ | dsimp only | split | dsimp only | refine KeptP.fst ?_ | refine KeptP.mk ?_ | fail_if_no_progress (refine Kept.upd ?_ (by rfl) (by intro p hp; cases p <;> first | rfl | exact (Kept.no hm hp (by decide)).elim)))
theorem State.unspilled_keeps {m : Nat} {r : State} (p : Nat) (x1 : Nat) (f : Nat) (a3 : State × KvpTally) (hm : Nat.land 8194 m = 8194) (h : KeptP m r a3) : KeptP m r (State.unspilled p x1 f a3) := by
  obtain ⟨s0, b0⟩ := a3
  have h0 := h.fst
  dsimp only at h0
  unfold State.unspilled
  with_reducible repeat' (first | assumption | exact Kept.sub hm rfl | exact Kept.refl _ _ | refine KeptRes.next ?_ | refine Kept.cond ?_ ?_ | refine KeptRes.cond ?_ ?_ | refine KeptP.cond ?_ ?_ | apply State.count_keeps | apply State.modKvpPool_keeps | apply State.stampPage_keeps | refine Kept.foldl ?_ ?_ | intro _ | refine KeptP.foldl ?_ ?_ | refine KeptP.of_eq (by assumption) ?_ | dsimp only | split | dsimp only | refine KeptP.fst ?_ | refine KeptP.mk ?_ | fail_if_no_progress (refine Kept.upd ?_ (by rfl) (by intro p hp; cases p <;> first | rfl | exact (Kept.no hm hp (by decide)).elim)))
theorem State.unspillPage_keeps {m : Nat} {r : State} (s : State) (p : Nat) (x2 : Nat) (x : KvpPool) (place : Nat) (f : Nat) (t : KvpTally) (hm : Nat.land 16656658 m = 16656658) (h : Kept m r s) : KeptP m r (State.unspillPage s p x2 x place f t) := by
  unfold State.unspillPage
  with_reducible repeat' (first | assumption | exact Kept.sub hm rfl | exact Kept.refl _ _ | refine KeptRes.next ?_ | refine Kept.cond ?_ ?_ | refine KeptRes.cond ?_ ?_ | refine KeptP.cond ?_ ?_ | apply State.copyPage64_keeps | apply State.unspilled_keeps | refine Kept.foldl ?_ ?_ | intro _ | refine KeptP.foldl ?_ ?_ | refine KeptP.of_eq (by assumption) ?_ | dsimp only | split | dsimp only | refine KeptP.fst ?_ | refine KeptP.mk ?_ | fail_if_no_progress (refine Kept.upd ?_ (by rfl) (by intro p hp; cases p <;> first | rfl | exact (Kept.no hm hp (by decide)).elim)))
theorem State.bringIn_keeps {m : Nat} {r : State} (s : State) (p : Nat) (x2 : Nat) (busy : List Nat) (t : KvpTally) (hm : Nat.land 16656658 m = 16656658) (h : Kept m r s) : KeptP m r (State.bringIn s p x2 busy t) := by
  unfold State.bringIn
  with_reducible repeat' (first | assumption | exact Kept.sub hm rfl | exact Kept.refl _ _ | refine KeptRes.next ?_ | refine Kept.cond ?_ ?_ | refine KeptRes.cond ?_ ?_ | refine KeptP.cond ?_ ?_ | apply State.stampPage_keeps | apply State.takeKvpFrame_keeps | apply State.unspillPage_keeps | refine Kept.foldl ?_ ?_ | intro _ | refine KeptP.foldl ?_ ?_ | refine KeptP.of_eq (by assumption) ?_ | dsimp only | split | dsimp only | refine KeptP.fst ?_ | refine KeptP.mk ?_ | fail_if_no_progress (refine Kept.upd ?_ (by rfl) (by intro p hp; cases p <;> first | rfl | exact (Kept.no hm hp (by decide)).elim)))
theorem State.dropRef_keeps {m : Nat} {r : State} (s : State) (p : Nat) (x2 : Nat) (t : KvpTally) (hm : Nat.land 8192 m = 8192) (h : Kept m r s) : KeptP m r (State.dropRef s p x2 t) := by
  unfold State.dropRef
  with_reducible repeat' (first | assumption | exact Kept.sub hm rfl | exact Kept.refl _ _ | refine KeptRes.next ?_ | refine Kept.cond ?_ ?_ | refine KeptRes.cond ?_ ?_ | refine KeptP.cond ?_ ?_ | apply State.modKvpPool_keeps | refine Kept.foldl ?_ ?_ | intro _ | refine KeptP.foldl ?_ ?_ | refine KeptP.of_eq (by assumption) ?_ | dsimp only | split | dsimp only | refine KeptP.fst ?_ | refine KeptP.mk ?_ | fail_if_no_progress (refine Kept.upd ?_ (by rfl) (by intro p hp; cases p <;> first | rfl | exact (Kept.no hm hp (by decide)).elim)))
theorem State.dropRefs_keeps {m : Nat} {r : State} (s : State) (p : Nat) (t : KvpTally) (a3 : List Nat) (hm : Nat.land 8192 m = 8192) (h : Kept m r s) : KeptP m r (State.dropRefs s p t a3) := by
  induction a3 generalizing s p t with
  | nil =>
    unfold State.dropRefs
    with_reducible repeat' (first | assumption | exact Kept.sub hm rfl | exact Kept.refl _ _ | refine KeptRes.next ?_ | refine Kept.cond ?_ ?_ | refine KeptRes.cond ?_ ?_ | refine KeptP.cond ?_ ?_ | apply ih | apply State.dropRef_keeps | refine Kept.foldl ?_ ?_ | intro _ | refine KeptP.foldl ?_ ?_ | refine KeptP.of_eq (by assumption) ?_ | dsimp only | split | dsimp only | refine KeptP.fst ?_ | refine KeptP.mk ?_ | fail_if_no_progress (refine Kept.upd ?_ (by rfl) (by intro p hp; cases p <;> first | rfl | exact (Kept.no hm hp (by decide)).elim)))
  | cons a l ih =>
    unfold State.dropRefs
    with_reducible repeat' (first | assumption | exact Kept.sub hm rfl | exact Kept.refl _ _ | refine KeptRes.next ?_ | refine Kept.cond ?_ ?_ | refine KeptRes.cond ?_ ?_ | refine KeptP.cond ?_ ?_ | apply ih | apply State.dropRef_keeps | refine Kept.foldl ?_ ?_ | intro _ | refine KeptP.foldl ?_ ?_ | refine KeptP.of_eq (by assumption) ?_ | dsimp only | split | dsimp only | refine KeptP.fst ?_ | refine KeptP.mk ?_ | fail_if_no_progress (refine Kept.upd ?_ (by rfl) (by intro p hp; cases p <;> first | rfl | exact (Kept.no hm hp (by decide)).elim)))
theorem State.copied_keeps {m : Nat} {r : State} (p : Nat) (n : Nat) (a2 : State × KvpTally) (hm : Nat.land 8194 m = 8194) (h : KeptP m r a2) : KeptP m r (State.copied p n a2) := by
  obtain ⟨s0, b0⟩ := a2
  have h0 := h.fst
  dsimp only at h0
  unfold State.copied
  with_reducible repeat' (first | assumption | exact Kept.sub hm rfl | exact Kept.refl _ _ | refine KeptRes.next ?_ | refine Kept.cond ?_ ?_ | refine KeptRes.cond ?_ ?_ | refine KeptP.cond ?_ ?_ | apply State.count_keeps | apply State.dropRef_keeps | refine Kept.foldl ?_ ?_ | intro _ | refine KeptP.foldl ?_ ?_ | refine KeptP.of_eq (by assumption) ?_ | dsimp only | split | dsimp only | refine KeptP.fst ?_ | refine KeptP.mk ?_ | fail_if_no_progress (refine Kept.upd ?_ (by rfl) (by intro p hp; cases p <;> first | rfl | exact (Kept.no hm hp (by decide)).elim)))
theorem State.privateCopy_keeps {m : Nat} {r : State} (s : State) (p : Nat) (x2 : Nat) (busy : List Nat) (t : KvpTally) (hm : Nat.land 16656658 m = 16656658) (h : Kept m r s) : KeptP m r (State.privateCopy s p x2 busy t) := by
  unfold State.privateCopy
  with_reducible repeat' (first | assumption | exact Kept.sub hm rfl | exact Kept.refl _ _ | refine KeptRes.next ?_ | refine Kept.cond ?_ ?_ | refine KeptRes.cond ?_ ?_ | refine KeptP.cond ?_ ?_ | apply State.copied_keeps | apply State.copyPage64_keeps | apply State.newKvpPage_keeps | refine Kept.foldl ?_ ?_ | intro _ | refine KeptP.foldl ?_ ?_ | refine KeptP.of_eq (by assumption) ?_ | dsimp only | split | dsimp only | refine KeptP.fst ?_ | refine KeptP.mk ?_ | fail_if_no_progress (refine Kept.upd ?_ (by rfl) (by intro p hp; cases p <;> first | rfl | exact (Kept.no hm hp (by decide)).elim)))
theorem State.setSeq_keeps {m : Nat} {r : State} (s : State) (p : Nat) (slot : Nat) (x3 : SeqRec) (hm : Nat.land 8192 m = 8192) (h : Kept m r s) : Kept m r (State.setSeq s p slot x3) := by
  unfold State.setSeq
  with_reducible repeat' (first | assumption | exact Kept.sub hm rfl | exact Kept.refl _ _ | refine KeptRes.next ?_ | refine Kept.cond ?_ ?_ | refine KeptRes.cond ?_ ?_ | refine KeptP.cond ?_ ?_ | apply State.modKvpPool_keeps | refine Kept.foldl ?_ ?_ | intro _ | refine KeptP.foldl ?_ ?_ | refine KeptP.of_eq (by assumption) ?_ | dsimp only | split | dsimp only | refine KeptP.fst ?_ | refine KeptP.mk ?_ | fail_if_no_progress (refine Kept.upd ?_ (by rfl) (by intro p hp; cases p <;> first | rfl | exact (Kept.no hm hp (by decide)).elim)))
theorem State.freeSeq_keeps {m : Nat} {r : State} (s : State) (p : Nat) (slot : Nat) (hm : Nat.land 8192 m = 8192) (h : Kept m r s) : Kept m r (State.freeSeq s p slot) := by
  unfold State.freeSeq
  with_reducible repeat' (first | assumption | exact Kept.sub hm rfl | exact Kept.refl _ _ | refine KeptRes.next ?_ | refine Kept.cond ?_ ?_ | refine KeptRes.cond ?_ ?_ | refine KeptP.cond ?_ ?_ | apply State.modKvpPool_keeps | refine Kept.foldl ?_ ?_ | intro _ | refine KeptP.foldl ?_ ?_ | refine KeptP.of_eq (by assumption) ?_ | dsimp only | split | dsimp only | refine KeptP.fst ?_ | refine KeptP.mk ?_ | fail_if_no_progress (refine Kept.upd ?_ (by rfl) (by intro p hp; cases p <;> first | rfl | exact (Kept.no hm hp (by decide)).elim)))
theorem State.preparePages_keeps {m : Nat} {r : State} (s : State) (p : Nat) (t : KvpTally) (list : List Nat) (a4 : List Nat) (hm : Nat.land 16656658 m = 16656658) (h : Kept m r s) : KeptP m r (State.preparePages s p t list a4) := by
  induction a4 generalizing s p t list with
  | nil =>
    unfold State.preparePages
    with_reducible repeat' (first | assumption | exact Kept.sub hm rfl | exact Kept.refl _ _ | refine KeptRes.next ?_ | refine Kept.cond ?_ ?_ | refine KeptRes.cond ?_ ?_ | refine KeptP.cond ?_ ?_ | apply ih | apply State.bringIn_keeps | apply State.dropRef_keeps | apply State.newKvpPage_keeps | apply State.privateCopy_keeps | refine Kept.foldl ?_ ?_ | intro _ | refine KeptP.foldl ?_ ?_ | refine KeptP.of_eq (by assumption) ?_ | dsimp only | split | dsimp only | refine KeptP.fst ?_ | refine KeptP.mk ?_ | fail_if_no_progress (refine Kept.upd ?_ (by rfl) (by intro p hp; cases p <;> first | rfl | exact (Kept.no hm hp (by decide)).elim)))
  | cons a l ih =>
    unfold State.preparePages
    with_reducible repeat' (first | assumption | exact Kept.sub hm rfl | exact Kept.refl _ _ | refine KeptRes.next ?_ | refine Kept.cond ?_ ?_ | refine KeptRes.cond ?_ ?_ | refine KeptP.cond ?_ ?_ | apply ih | apply State.bringIn_keeps | apply State.dropRef_keeps | apply State.newKvpPage_keeps | apply State.privateCopy_keeps | refine Kept.foldl ?_ ?_ | intro _ | refine KeptP.foldl ?_ ?_ | refine KeptP.of_eq (by assumption) ?_ | dsimp only | split | dsimp only | refine KeptP.fst ?_ | refine KeptP.mk ?_ | fail_if_no_progress (refine Kept.upd ?_ (by rfl) (by intro p hp; cases p <;> first | rfl | exact (Kept.no hm hp (by decide)).elim)))
theorem State.appendSeq_keeps {m : Nat} {r : State} (s : State) (p : Nat) (slot : Nat) (x3 : SeqRec) (src : Nat) (tokens : Nat) (hm : Nat.land 16656658 m = 16656658) (h : Kept m r s) : KeptP m r (State.appendSeq s p slot x3 src tokens) := by
  unfold State.appendSeq
  with_reducible repeat' (first | assumption | exact Kept.sub hm rfl | exact Kept.refl _ _ | refine KeptRes.next ?_ | refine Kept.cond ?_ ?_ | refine KeptRes.cond ?_ ?_ | refine KeptP.cond ?_ ?_ | apply State.accessPages_keeps | apply State.dropRefs_keeps | apply State.preparePages_keeps | apply State.readRanges_keeps | apply State.setSeq_keeps | apply State.writeStore_keeps | refine Kept.foldl ?_ ?_ | intro _ | refine KeptP.foldl ?_ ?_ | refine KeptP.of_eq (by assumption) ?_ | dsimp only | split | dsimp only | refine KeptP.fst ?_ | refine KeptP.mk ?_ | fail_if_no_progress (refine Kept.upd ?_ (by rfl) (by intro p hp; cases p <;> first | rfl | exact (Kept.no hm hp (by decide)).elim)))
theorem State.lockSeq_keeps {m : Nat} {r : State} (s : State) (p : Nat) (slot : Nat) (x3 : SeqRec) (reserve : Nat) (hm : Nat.land 16656658 m = 16656658) (h : Kept m r s) : KeptP m r (State.lockSeq s p slot x3 reserve) := by
  unfold State.lockSeq
  with_reducible repeat' (first | assumption | exact Kept.sub hm rfl | exact Kept.refl _ _ | refine KeptRes.next ?_ | refine Kept.cond ?_ ?_ | refine KeptRes.cond ?_ ?_ | refine KeptP.cond ?_ ?_ | apply State.bringIn_keeps | apply State.preparePages_keeps | apply State.setSeq_keeps | refine Kept.foldl ?_ ?_ | intro _ | refine KeptP.foldl ?_ ?_ | refine KeptP.of_eq (by assumption) ?_ | dsimp only | split | dsimp only | refine KeptP.fst ?_ | refine KeptP.mk ?_ | fail_if_no_progress (refine Kept.upd ?_ (by rfl) (by intro p hp; cases p <;> first | rfl | exact (Kept.no hm hp (by decide)).elim)))
theorem State.unlockSeq_keeps {m : Nat} {r : State} (s : State) (p : Nat) (slot : Nat) (x3 : SeqRec) (commit : Nat) (hm : Nat.land 8192 m = 8192) (h : Kept m r s) : KeptP m r (State.unlockSeq s p slot x3 commit) := by
  unfold State.unlockSeq
  with_reducible repeat' (first | assumption | exact Kept.sub hm rfl | exact Kept.refl _ _ | refine KeptRes.next ?_ | refine Kept.cond ?_ ?_ | refine KeptRes.cond ?_ ?_ | refine KeptP.cond ?_ ?_ | apply State.dropRefs_keeps | apply State.setSeq_keeps | refine Kept.foldl ?_ ?_ | intro _ | refine KeptP.foldl ?_ ?_ | refine KeptP.of_eq (by assumption) ?_ | dsimp only | split | dsimp only | refine KeptP.fst ?_ | refine KeptP.mk ?_ | fail_if_no_progress (refine Kept.upd ?_ (by rfl) (by intro p hp; cases p <;> first | rfl | exact (Kept.no hm hp (by decide)).elim)))
theorem State.closeSeq_keeps {m : Nat} {r : State} (s : State) (p : Nat) (slot : Nat) (x3 : SeqRec) (hm : Nat.land 8192 m = 8192) (h : Kept m r s) : KeptP m r (State.closeSeq s p slot x3) := by
  unfold State.closeSeq
  with_reducible repeat' (first | assumption | exact Kept.sub hm rfl | exact Kept.refl _ _ | refine KeptRes.next ?_ | refine Kept.cond ?_ ?_ | refine KeptRes.cond ?_ ?_ | refine KeptP.cond ?_ ?_ | apply State.dropRefs_keeps | apply State.freeSeq_keeps | refine Kept.foldl ?_ ?_ | intro _ | refine KeptP.foldl ?_ ?_ | refine KeptP.of_eq (by assumption) ?_ | dsimp only | split | dsimp only | refine KeptP.fst ?_ | refine KeptP.mk ?_ | fail_if_no_progress (refine Kept.upd ?_ (by rfl) (by intro p hp; cases p <;> first | rfl | exact (Kept.no hm hp (by decide)).elim)))
theorem State.openSeq_keeps {m : Nat} {r : State} (s : State) (p : Nat) (shared' : Nat) (parent : List Nat) (hm : Nat.land 16656658 m = 16656658) (h : Kept m r s) : KeptP m r (State.openSeq s p shared' parent) := by
  unfold State.openSeq
  with_reducible repeat' (first | assumption | exact Kept.sub hm rfl | exact Kept.refl _ _ | refine KeptRes.next ?_ | refine Kept.cond ?_ ?_ | refine KeptRes.cond ?_ ?_ | refine KeptP.cond ?_ ?_ | apply State.dropRefs_keeps | apply State.modKvpPool_keeps | apply State.privateCopy_keeps | apply State.setSeq_keeps | refine Kept.foldl ?_ ?_ | intro _ | refine KeptP.foldl ?_ ?_ | refine KeptP.of_eq (by assumption) ?_ | dsimp only | split | dsimp only | refine KeptP.fst ?_ | refine KeptP.mk ?_ | fail_if_no_progress (refine Kept.upd ?_ (by rfl) (by intro p hp; cases p <;> first | rfl | exact (Kept.no hm hp (by decide)).elim)))
theorem State.startHandover_keeps {m : Nat} {r : State} (s : State) (p : Nat) (slot : Nat) (x3 : SeqRec) (target : Nat) (a : Asker) (hm : Nat.land 8208 m = 8208) (h : Kept m r s) : Kept m r (State.startHandover s p slot x3 target a) := by
  unfold State.startHandover
  with_reducible repeat' (first | assumption | exact Kept.sub hm rfl | exact Kept.refl _ _ | refine KeptRes.next ?_ | refine Kept.cond ?_ ?_ | refine KeptRes.cond ?_ ?_ | refine KeptP.cond ?_ ?_ | apply State.emit_keeps | apply State.setSeq_keeps | refine Kept.foldl ?_ ?_ | intro _ | refine KeptP.foldl ?_ ?_ | refine KeptP.of_eq (by assumption) ?_ | dsimp only | split | dsimp only | refine KeptP.fst ?_ | refine KeptP.mk ?_ | fail_if_no_progress (refine Kept.upd ?_ (by rfl) (by intro p hp; cases p <;> first | rfl | exact (Kept.no hm hp (by decide)).elim)))
theorem State.logResolve_keeps {m : Nat} {r : State} (s : State) (x : KvpResolve) (hm : Nat.land 4202514 m = 4202514) (h : Kept m r s) : Kept m r (State.logResolve s x) := by
  unfold State.logResolve
  with_reducible repeat' (first | assumption | exact Kept.sub hm rfl | exact Kept.refl _ _ | refine KeptRes.next ?_ | refine Kept.cond ?_ ?_ | refine KeptRes.cond ?_ ?_ | refine KeptP.cond ?_ ?_ | apply State.raise_keeps | refine Kept.foldl ?_ ?_ | intro _ | refine KeptP.foldl ?_ ?_ | refine KeptP.of_eq (by assumption) ?_ | dsimp only | split | dsimp only | refine KeptP.fst ?_ | refine KeptP.mk ?_ | fail_if_no_progress (refine Kept.upd ?_ (by rfl) (by intro p hp; cases p <;> first | rfl | exact (Kept.no hm hp (by decide)).elim)))
theorem State.adoptList_keeps {m : Nat} {r : State} (s : State) (p : Nat) (length : Nat) (list : List Nat) (hm : Nat.land 8192 m = 8192) (h : Kept m r s) : KeptP m r (State.adoptList s p length list) := by
  unfold State.adoptList
  with_reducible repeat' (first | assumption | exact Kept.sub hm rfl | exact Kept.refl _ _ | refine KeptRes.next ?_ | refine Kept.cond ?_ ?_ | refine KeptRes.cond ?_ ?_ | refine KeptP.cond ?_ ?_ | apply State.modKvpPool_keeps | refine Kept.foldl ?_ ?_ | intro _ | refine KeptP.foldl ?_ ?_ | refine KeptP.of_eq (by assumption) ?_ | dsimp only | split | dsimp only | refine KeptP.fst ?_ | refine KeptP.mk ?_ | fail_if_no_progress (refine Kept.upd ?_ (by rfl) (by intro p hp; cases p <;> first | rfl | exact (Kept.no hm hp (by decide)).elim)))
theorem State.resolve_keeps {m : Nat} {r : State} (s : State) (p : Nat) (seq : Nat) (y : KvpFrom) (hm : Nat.land 6561810 m = 6561810) (h : Kept m r s) : KeptP m r (State.resolve s p seq y) := by
  unfold State.resolve
  with_reducible repeat' (first | assumption | exact Kept.sub hm rfl | exact Kept.refl _ _ | refine KeptRes.next ?_ | refine Kept.cond ?_ ?_ | refine KeptRes.cond ?_ ?_ | refine KeptP.cond ?_ ?_ | apply State.adoptList_keeps | apply State.dropRefs_keeps | apply State.logResolve_keeps | apply State.sendItem_keeps | apply State.setSeq_keeps | refine Kept.foldl ?_ ?_ | intro _ | refine KeptP.foldl ?_ ?_ | refine KeptP.of_eq (by assumption) ?_ | dsimp only | split | dsimp only | refine KeptP.fst ?_ | refine KeptP.mk ?_ | fail_if_no_progress (refine Kept.upd ?_ (by rfl) (by intro p hp; cases p <;> first | rfl | exact (Kept.no hm hp (by decide)).elim)))
theorem State.noteResolve_keeps {m : Nat} {r : State} (s : State) (p : Nat) (origin : Nat) (x3 : List Byte) (hm : Nat.land 4202514 m = 4202514) (h : Kept m r s) : Kept m r (State.noteResolve s p origin x3) := by
  unfold State.noteResolve
  with_reducible repeat' (first | assumption | exact Kept.sub hm rfl | exact Kept.refl _ _ | refine KeptRes.next ?_ | refine Kept.cond ?_ ?_ | refine KeptRes.cond ?_ ?_ | refine KeptP.cond ?_ ?_ | apply State.adoptList_keeps | apply State.dropRefs_keeps | apply State.logResolve_keeps | apply State.setSeq_keeps | refine Kept.foldl ?_ ?_ | intro _ | refine KeptP.foldl ?_ ?_ | refine KeptP.of_eq (by assumption) ?_ | dsimp only | split | dsimp only | refine KeptP.fst ?_ | refine KeptP.mk ?_ | fail_if_no_progress (refine Kept.upd ?_ (by rfl) (by intro p hp; cases p <;> first | rfl | exact (Kept.no hm hp (by decide)).elim)))
theorem State.routeSeq_keeps {m : Nat} {r : State} (s : State) (p : Nat) (seq : Nat) (block : List Byte) (hm : Nat.land 6561810 m = 6561810) (h : Kept m r s) : KeptP m r (State.routeSeq s p seq block) := by
  unfold State.routeSeq
  with_reducible repeat' (first | assumption | exact Kept.sub hm rfl | exact Kept.refl _ _ | refine KeptRes.next ?_ | refine Kept.cond ?_ ?_ | refine KeptRes.cond ?_ ?_ | refine KeptP.cond ?_ ?_ | apply State.count_keeps | apply State.raise_keeps | apply State.resolve_keeps | refine Kept.foldl ?_ ?_ | intro _ | refine KeptP.foldl ?_ ?_ | refine KeptP.of_eq (by assumption) ?_ | dsimp only | split | dsimp only | refine KeptP.fst ?_ | refine KeptP.mk ?_ | fail_if_no_progress (refine Kept.upd ?_ (by rfl) (by intro p hp; cases p <;> first | rfl | exact (Kept.no hm hp (by decide)).elim)))
theorem State.noteForward_keeps {m : Nat} {r : State} (s : State) (p : Nat) (slot : Nat) (block : List Byte) (hm : Nat.land 8192 m = 8192) (h : Kept m r s) : Kept m r (State.noteForward s p slot block) := by
  unfold State.noteForward
  with_reducible repeat' (first | assumption | exact Kept.sub hm rfl | exact Kept.refl _ _ | refine KeptRes.next ?_ | refine Kept.cond ?_ ?_ | refine KeptRes.cond ?_ ?_ | refine KeptP.cond ?_ ?_ | apply State.setSeq_keeps | refine Kept.foldl ?_ ?_ | intro _ | refine KeptP.foldl ?_ ?_ | refine KeptP.of_eq (by assumption) ?_ | dsimp only | split | dsimp only | refine KeptP.fst ?_ | refine KeptP.mk ?_ | fail_if_no_progress (refine Kept.upd ?_ (by rfl) (by intro p hp; cases p <;> first | rfl | exact (Kept.no hm hp (by decide)).elim)))
theorem State.askPages_keeps {m : Nat} {r : State} (s : State) (wait : Nat) (p : Nat) (bring : Bool) (hs : List Nat) (hm : Nat.land 2359312 m = 2359312) (h : Kept m r s) : KeptP m r (State.askPages s wait p bring hs) := by
  unfold State.askPages
  with_reducible repeat' (first | assumption | exact Kept.sub hm rfl | exact Kept.refl _ _ | refine KeptRes.next ?_ | refine Kept.cond ?_ ?_ | refine KeptRes.cond ?_ ?_ | refine KeptP.cond ?_ ?_ | apply State.sendItem_keeps | refine Kept.foldl ?_ ?_ | intro _ | refine KeptP.foldl ?_ ?_ | refine KeptP.of_eq (by assumption) ?_ | dsimp only | split | dsimp only | refine KeptP.fst ?_ | refine KeptP.mk ?_ | fail_if_no_progress (refine Kept.upd ?_ (by rfl) (by intro p hp; cases p <;> first | rfl | exact (Kept.no hm hp (by decide)).elim)))
theorem State.bringAll_keeps {m : Nat} {r : State} (s : State) (p : Nat) (hs : List Nat) (hm : Nat.land 16656658 m = 16656658) (h : Kept m r s) : KeptP m r (State.bringAll s p hs) := by
  unfold State.bringAll
  with_reducible repeat' (first | assumption | exact Kept.sub hm rfl | exact Kept.refl _ _ | refine KeptRes.next ?_ | refine Kept.cond ?_ ?_ | refine KeptRes.cond ?_ ?_ | refine KeptP.cond ?_ ?_ | apply State.bringIn_keeps | refine Kept.foldl ?_ ?_ | intro _ | refine KeptP.foldl ?_ ?_ | refine KeptP.of_eq (by assumption) ?_ | dsimp only | split | dsimp only | refine KeptP.fst ?_ | refine KeptP.mk ?_ | fail_if_no_progress (refine Kept.upd ?_ (by rfl) (by intro p hp; cases p <;> first | rfl | exact (Kept.no hm hp (by decide)).elim)))
theorem State.notePages_keeps {m : Nat} {r : State} (s : State) (p : Nat) (words : List Nat) (hm : Nat.land 8192 m = 8192) (h : Kept m r s) : Kept m r (State.notePages s p words) := by
  unfold State.notePages
  with_reducible repeat' (first | assumption | exact Kept.sub hm rfl | exact Kept.refl _ _ | refine KeptRes.next ?_ | refine Kept.cond ?_ ?_ | refine KeptRes.cond ?_ ?_ | refine KeptP.cond ?_ ?_ | apply State.modKvpPool_keeps | refine Kept.foldl ?_ ?_ | intro _ | refine KeptP.foldl ?_ ?_ | refine KeptP.of_eq (by assumption) ?_ | dsimp only | split | dsimp only | refine KeptP.fst ?_ | refine KeptP.mk ?_ | fail_if_no_progress (refine Kept.upd ?_ (by rfl) (by intro p hp; cases p <;> first | rfl | exact (Kept.no hm hp (by decide)).elim)))
theorem State.pagesAnswered_keeps {m : Nat} {r : State} (s : State) (item : Nat) (x : Away) (st : Nat) (sub : Nat) (words : List Nat) (hm : Nat.land 2367488 m = 2367488) (h : Kept m r s) : Kept m r (State.pagesAnswered s item x st sub words) := by
  unfold State.pagesAnswered
  with_reducible repeat' (first | assumption | exact Kept.sub hm rfl | exact Kept.refl _ _ | refine KeptRes.next ?_ | refine Kept.cond ?_ ?_ | refine KeptRes.cond ?_ ?_ | refine KeptP.cond ?_ ?_ | apply State.dropAway_keeps | apply State.modEntry_keeps | apply State.notePages_keeps | refine Kept.foldl ?_ ?_ | intro _ | refine KeptP.foldl ?_ ?_ | refine KeptP.of_eq (by assumption) ?_ | dsimp only | split | dsimp only | refine KeptP.fst ?_ | refine KeptP.mk ?_ | fail_if_no_progress (refine Kept.upd ?_ (by rfl) (by intro p hp; cases p <;> first | rfl | exact (Kept.no hm hp (by decide)).elim)))
theorem State.sendChanges_keeps {m : Nat} {r : State} (s : State) (wait : Nat) (p : Nat) (l : List (Nat × Nat)) (hm : Nat.land 2359312 m = 2359312) (h : Kept m r s) : Kept m r (State.sendChanges s wait p l) := by
  unfold State.sendChanges
  with_reducible repeat' (first | assumption | exact Kept.sub hm rfl | exact Kept.refl _ _ | refine KeptRes.next ?_ | refine Kept.cond ?_ ?_ | refine KeptRes.cond ?_ ?_ | refine KeptP.cond ?_ ?_ | apply State.sendItem_keeps | refine Kept.foldl ?_ ?_ | intro _ | refine KeptP.foldl ?_ ?_ | refine KeptP.of_eq (by assumption) ?_ | dsimp only | split | dsimp only | refine KeptP.fst ?_ | refine KeptP.mk ?_ | fail_if_no_progress (refine Kept.upd ?_ (by rfl) (by intro p hp; cases p <;> first | rfl | exact (Kept.no hm hp (by decide)).elim)))
theorem State.changePage_keeps {m : Nat} {r : State} (s : State) (p : Nat) (x2 : Nat) (k : Nat) (hm : Nat.land 8192 m = 8192) (h : Kept m r s) : Kept m r (State.changePage s p x2 k) := by
  unfold State.changePage
  with_reducible repeat' (first | assumption | exact Kept.sub hm rfl | exact Kept.refl _ _ | refine KeptRes.next ?_ | refine Kept.cond ?_ ?_ | refine KeptRes.cond ?_ ?_ | refine KeptP.cond ?_ ?_ | apply State.dropRef_keeps | apply State.modKvpPool_keeps | refine Kept.foldl ?_ ?_ | intro _ | refine KeptP.foldl ?_ ?_ | refine KeptP.of_eq (by assumption) ?_ | dsimp only | split | dsimp only | refine KeptP.fst ?_ | refine KeptP.mk ?_ | fail_if_no_progress (refine Kept.upd ?_ (by rfl) (by intro p hp; cases p <;> first | rfl | exact (Kept.no hm hp (by decide)).elim)))
theorem State.changePages_keeps {m : Nat} {r : State} (s : State) (p : Nat) (data : List Byte) (hm : Nat.land 8192 m = 8192) (h : Kept m r s) : Kept m r (State.changePages s p data) := by
  unfold State.changePages
  with_reducible repeat' (first | assumption | exact Kept.sub hm rfl | exact Kept.refl _ _ | refine KeptRes.next ?_ | refine Kept.cond ?_ ?_ | refine KeptRes.cond ?_ ?_ | refine KeptP.cond ?_ ?_ | apply State.changePage_keeps | refine Kept.foldl ?_ ?_ | intro _ | refine KeptP.foldl ?_ ?_ | refine KeptP.of_eq (by assumption) ?_ | dsimp only | split | dsimp only | refine KeptP.fst ?_ | refine KeptP.mk ?_ | fail_if_no_progress (refine Kept.upd ?_ (by rfl) (by intro p hp; cases p <;> first | rfl | exact (Kept.no hm hp (by decide)).elim)))
theorem State.ownerOp_keeps {m : Nat} {r : State} (s : State) (p : Nat) (slot : Nat) (x3 : SeqRec) (pk : Packet) (a : Asker) (hm : Nat.land 16656658 m = 16656658) (h : Kept m r s) : KeptP m r (State.ownerOp s p slot x3 pk a) := by
  unfold State.ownerOp
  with_reducible repeat' (first | assumption | exact Kept.sub hm rfl | exact Kept.refl _ _ | refine KeptRes.next ?_ | refine Kept.cond ?_ ?_ | refine KeptRes.cond ?_ ?_ | refine KeptP.cond ?_ ?_ | apply State.appendSeq_keeps | apply State.closeSeq_keeps | apply State.lockSeq_keeps | apply State.startHandover_keeps | apply State.unlockSeq_keeps | refine Kept.foldl ?_ ?_ | intro _ | refine KeptP.foldl ?_ ?_ | refine KeptP.of_eq (by assumption) ?_ | dsimp only | split | dsimp only | refine KeptP.fst ?_ | refine KeptP.mk ?_ | fail_if_no_progress (refine Kept.upd ?_ (by rfl) (by intro p hp; cases p <;> first | rfl | exact (Kept.no hm hp (by decide)).elim)))
theorem State.endPages_keeps {m : Nat} {r : State} (s : State) (wait : Nat) (hm : Nat.land 270336 m = 270336) (h : Kept m r s) : Kept m r (State.endPages s wait) := by
  unfold State.endPages
  with_reducible repeat' (first | assumption | exact Kept.sub hm rfl | exact Kept.refl _ _ | refine KeptRes.next ?_ | refine Kept.cond ?_ ?_ | refine KeptRes.cond ?_ ?_ | refine KeptP.cond ?_ ?_ | apply State.dropFetched_keeps | refine Kept.foldl ?_ ?_ | intro _ | refine KeptP.foldl ?_ ?_ | refine KeptP.of_eq (by assumption) ?_ | dsimp only | split | dsimp only | refine KeptP.fst ?_ | refine KeptP.mk ?_ | fail_if_no_progress (refine Kept.upd ?_ (by rfl) (by intro p hp; cases p <;> first | rfl | exact (Kept.no hm hp (by decide)).elim)))
theorem State.withPages_keeps {m : Nat} {r : State} (s : State) (wait : Nat) (p : Nat) (bring : Bool) (hs : List Nat) (plan : State → KvpTally) (run : State → State × Option (KvpOut × List Nat)) (hm : Nat.land 16771474 m = 16771474) (h : Kept m r s) (hr : ∀ s, Kept m r s → KeptP m r (run s)) : KeptP m r (State.withPages s wait p bring hs plan run) := by
  unfold State.withPages
  split
  · rename_i e1
    exact KeptP.mk (KeptP.of_eq e1 (State.askPages_keeps _ _ _ _ _ (Kept.sub hm rfl) h))
  · rename_i e1
    have k1 := KeptP.of_eq e1 (State.askPages_keeps (m := m) _ _ _ _ _ (Kept.sub hm rfl) h)
    split
    · exact KeptP.mk (State.endPages_keeps _ _ (Kept.sub hm rfl) k1)
    · dsimp only
      split
      · rename_i e2
        exact KeptP.mk (KeptP.of_eq e2 (State.prepareRanges_keeps _ _ _ _ (Kept.sub hm rfl) k1))
      · rename_i e2
        have k2 := KeptP.of_eq e2 (State.prepareRanges_keeps (m := m) _ _ _ _ (Kept.sub hm rfl) k1)
        have k3 := hr _ (State.endPages_keeps _ wait (Kept.sub hm rfl) k2)
        generalize run _ = y at k3 ⊢
        obtain ⟨t, o⟩ := y
        have k3 := k3.fst
        refine KeptP.mk ?_
        split
        · exact State.sendChanges_keeps _ _ _ _ (Kept.sub hm rfl) k3
        · exact k3
theorem State.ownerRun_keeps {m : Nat} {r : State} (s : State) (wait : Nat) (p : Nat) (slot : Nat) (pk : Packet) (block : List Byte) (a : Asker) (hm : Nat.land 16771474 m = 16771474) (h : Kept m r s) : KeptP m r (State.ownerRun s wait p slot pk block a) := by
  unfold State.ownerRun
  with_reducible repeat' (first | assumption | exact Kept.sub hm rfl | exact Kept.refl _ _ | refine KeptRes.next ?_ | refine Kept.cond ?_ ?_ | refine KeptRes.cond ?_ ?_ | refine KeptP.cond ?_ ?_ | apply State.noteForward_keeps | apply State.ownerOp_keeps | apply State.withPages_keeps | refine Kept.foldl ?_ ?_ | intro _ | refine KeptP.foldl ?_ ?_ | refine KeptP.of_eq (by assumption) ?_ | dsimp only | split | dsimp only | refine KeptP.fst ?_ | refine KeptP.mk ?_ | fail_if_no_progress (refine Kept.upd ?_ (by rfl) (by intro p hp; cases p <;> first | rfl | exact (Kept.no hm hp (by decide)).elim)))
theorem State.sendKvp_keeps {m : Nat} {r : State} (s : State) (id : Nat) (x2 : Nat) (classes : Nat) (block : List Byte) (hm : Nat.land 2359312 m = 2359312) (h : Kept m r s) : Kept m r (State.sendKvp s id x2 classes block) := by
  unfold State.sendKvp
  with_reducible repeat' (first | assumption | exact Kept.sub hm rfl | exact Kept.refl _ _ | refine KeptRes.next ?_ | refine Kept.cond ?_ ?_ | refine KeptRes.cond ?_ ?_ | refine KeptP.cond ?_ ?_ | apply State.sendItem_keeps | refine Kept.foldl ?_ ?_ | intro _ | refine KeptP.foldl ?_ ?_ | refine KeptP.of_eq (by assumption) ?_ | dsimp only | split | dsimp only | refine KeptP.fst ?_ | refine KeptP.mk ?_ | fail_if_no_progress (refine Kept.upd ?_ (by rfl) (by intro p hp; cases p <;> first | rfl | exact (Kept.no hm hp (by decide)).elim)))
theorem State.passKvp_keeps {m : Nat} {r : State} (s : State) (origin : Nat) (id : Nat) (x3 : Nat) (pk : Packet) (block : List Byte) (hm : Nat.land 16 m = 16) (h : Kept m r s) : Kept m r (State.passKvp s origin id x3 pk block) := by
  unfold State.passKvp
  with_reducible repeat' (first | assumption | exact Kept.sub hm rfl | exact Kept.refl _ _ | refine KeptRes.next ?_ | refine Kept.cond ?_ ?_ | refine KeptRes.cond ?_ ?_ | refine KeptP.cond ?_ ?_ | apply State.emit_keeps | refine Kept.foldl ?_ ?_ | intro _ | refine KeptP.foldl ?_ ?_ | refine KeptP.of_eq (by assumption) ?_ | dsimp only | split | dsimp only | refine KeptP.fst ?_ | refine KeptP.mk ?_ | fail_if_no_progress (refine Kept.upd ?_ (by rfl) (by intro p hp; cases p <;> first | rfl | exact (Kept.no hm hp (by decide)).elim)))
theorem State.kvpEnd_keeps {m : Nat} {r : State} (s : State) (id : Nat) (o : KvpOut) (others : List Nat) (hm : Nat.land 16777114 m = 16777114) (h : Kept m r s) : Kept m r (State.kvpEnd s id o others) := by
  unfold State.kvpEnd
  with_reducible repeat' (first | assumption | exact Kept.sub hm rfl | exact Kept.refl _ _ | refine KeptRes.next ?_ | refine Kept.cond ?_ ?_ | refine KeptRes.cond ?_ ?_ | refine KeptP.cond ?_ ?_ | apply State.conclude_keeps | apply State.sendKvp_keeps | apply State.sendOutput_keeps | refine Kept.foldl ?_ ?_ | intro _ | refine KeptP.foldl ?_ ?_ | refine KeptP.of_eq (by assumption) ?_ | dsimp only | split | dsimp only | refine KeptP.fst ?_ | refine KeptP.mk ?_ | fail_if_no_progress (refine Kept.upd ?_ (by rfl) (by intro p hp; cases p <;> first | rfl | exact (Kept.no hm hp (by decide)).elim)))
theorem State.firstRoute_keeps {m : Nat} {r : State} (s : State) (p : Nat) (pk : Packet) (hm : Nat.land 6561810 m = 6561810) (h : Kept m r s) : KeptP m r (State.firstRoute s p pk) := by
  unfold State.firstRoute
  with_reducible repeat' (first | assumption | exact Kept.sub hm rfl | exact Kept.refl _ _ | refine KeptRes.next ?_ | refine Kept.cond ?_ ?_ | refine KeptRes.cond ?_ ?_ | refine KeptP.cond ?_ ?_ | apply State.routeSeq_keeps | refine Kept.foldl ?_ ?_ | intro _ | refine KeptP.foldl ?_ ?_ | refine KeptP.of_eq (by assumption) ?_ | dsimp only | split | dsimp only | refine KeptP.fst ?_ | refine KeptP.mk ?_ | fail_if_no_progress (refine Kept.upd ?_ (by rfl) (by intro p hp; cases p <;> first | rfl | exact (Kept.no hm hp (by decide)).elim)))
theorem State.kvpRun_keeps {m : Nat} {r : State} (s : State) (id : Nat) (op : Nat) (hm : Nat.land 16777114 m = 16777114) (h : Kept m r s) : Kept m r (State.kvpRun s id op) := by
  unfold State.kvpRun
  with_reducible repeat' (first | assumption | exact Kept.sub hm rfl | exact Kept.refl _ _ | refine KeptRes.next ?_ | refine Kept.cond ?_ ?_ | refine KeptRes.cond ?_ ?_ | refine KeptP.cond ?_ ?_ | apply State.conclude_keeps | apply State.failWith_keeps | apply State.firstRoute_keeps | apply State.kvpEnd_keeps | apply State.localItem_keeps | apply State.modKvpPool_keeps | apply State.ownerRun_keeps | apply State.sendKvp_keeps | refine Kept.foldl ?_ ?_ | intro _ | refine KeptP.foldl ?_ ?_ | refine KeptP.of_eq (by assumption) ?_ | dsimp only | split | dsimp only | refine KeptP.fst ?_ | refine KeptP.mk ?_ | fail_if_no_progress (refine Kept.upd ?_ (by rfl) (by intro p hp; cases p <;> first | rfl | exact (Kept.no hm hp (by decide)).elim)))
theorem State.openRun_keeps {m : Nat} {r : State} (s : State) (wait : Nat) (p : Nat) (shared' : Nat) (list : List Nat) (hm : Nat.land 16771474 m = 16771474) (h : Kept m r s) : KeptP m r (State.openRun s wait p shared' list) := by
  unfold State.openRun
  with_reducible repeat' (first | assumption | exact Kept.sub hm rfl | exact Kept.refl _ _ | refine KeptRes.next ?_ | refine Kept.cond ?_ ?_ | refine KeptRes.cond ?_ ?_ | refine KeptP.cond ?_ ?_ | apply State.openSeq_keeps | apply State.withPages_keeps | refine Kept.foldl ?_ ?_ | intro _ | refine KeptP.foldl ?_ ?_ | refine KeptP.of_eq (by assumption) ?_ | dsimp only | split | dsimp only | refine KeptP.fst ?_ | refine KeptP.mk ?_ | fail_if_no_progress (refine Kept.upd ?_ (by rfl) (by intro p hp; cases p <;> first | rfl | exact (Kept.no hm hp (by decide)).elim)))
theorem State.kvpItem_keeps {m : Nat} {r : State} (s : State) (origin : Nat) (id : Nat) (pk : Packet) (block : List Byte) (hm : Nat.land 16771474 m = 16771474) (h : Kept m r s) : KeptP m r (State.kvpItem s origin id pk block) := by
  unfold State.kvpItem
  with_reducible repeat' (first | assumption | exact Kept.sub hm rfl | exact Kept.refl _ _ | refine KeptRes.next ?_ | refine Kept.cond ?_ ?_ | refine KeptRes.cond ?_ ?_ | refine KeptP.cond ?_ ?_ | apply State.answerWork_keeps | apply State.freeSeq_keeps | apply State.modKvpPool_keeps | apply State.openRun_keeps | apply State.ownerRun_keeps | apply State.passKvp_keeps | apply State.routeSeq_keeps | refine Kept.foldl ?_ ?_ | intro _ | refine KeptP.foldl ?_ ?_ | refine KeptP.of_eq (by assumption) ?_ | dsimp only | split | dsimp only | refine KeptP.fst ?_ | refine KeptP.mk ?_ | fail_if_no_progress (refine Kept.upd ?_ (by rfl) (by intro p hp; cases p <;> first | rfl | exact (Kept.no hm hp (by decide)).elim)))
theorem State.runQueued_keeps {m : Nat} {r : State} (s : State) (a1 : List KvpQueued) (hm : Nat.land 16777114 m = 16777114) (h : Kept m r s) : Kept m r (State.runQueued s a1) := by
  induction a1 generalizing s with
  | nil =>
    unfold State.runQueued
    with_reducible repeat' (first | assumption | exact Kept.sub hm rfl | exact Kept.refl _ _ | refine KeptRes.next ?_ | refine Kept.cond ?_ ?_ | refine KeptRes.cond ?_ ?_ | refine KeptP.cond ?_ ?_ | apply ih | apply State.kvpItem_keeps | apply State.kvpRun_keeps | refine Kept.foldl ?_ ?_ | intro _ | refine KeptP.foldl ?_ ?_ | refine KeptP.of_eq (by assumption) ?_ | dsimp only | split | dsimp only | refine KeptP.fst ?_ | refine KeptP.mk ?_ | fail_if_no_progress (refine Kept.upd ?_ (by rfl) (by intro p hp; cases p <;> first | rfl | exact (Kept.no hm hp (by decide)).elim)))
  | cons a l ih =>
    unfold State.runQueued
    with_reducible repeat' (first | assumption | exact Kept.sub hm rfl | exact Kept.refl _ _ | refine KeptRes.next ?_ | refine Kept.cond ?_ ?_ | refine KeptRes.cond ?_ ?_ | refine KeptP.cond ?_ ?_ | apply ih | apply State.kvpItem_keeps | apply State.kvpRun_keeps | refine Kept.foldl ?_ ?_ | intro _ | refine KeptP.foldl ?_ ?_ | refine KeptP.of_eq (by assumption) ?_ | dsimp only | split | dsimp only | refine KeptP.fst ?_ | refine KeptP.mk ?_ | fail_if_no_progress (refine Kept.upd ?_ (by rfl) (by intro p hp; cases p <;> first | rfl | exact (Kept.no hm hp (by decide)).elim)))
theorem State.endHandover_keeps {m : Nat} {r : State} (s : State) (p : Nat) (slot : Nat) (x3 : SeqRec) (st : Nat) (sub : Nat) (r0 : Nat) (owner : Nat) (hm : Nat.land 16777114 m = 16777114) (h : Kept m r s) : Kept m r (State.endHandover s p slot x3 st sub r0 owner) := by
  unfold State.endHandover
  with_reducible repeat' (first | assumption | exact Kept.sub hm rfl | exact Kept.refl _ _ | refine KeptRes.next ?_ | refine Kept.cond ?_ ?_ | refine KeptRes.cond ?_ ?_ | refine KeptP.cond ?_ ?_ | apply State.answerLocal_keeps | apply State.answerWork_keeps | apply State.runQueued_keeps | apply State.setSeq_keeps | refine Kept.foldl ?_ ?_ | intro _ | refine KeptP.foldl ?_ ?_ | refine KeptP.of_eq (by assumption) ?_ | dsimp only | split | dsimp only | refine KeptP.fst ?_ | refine KeptP.mk ?_ | fail_if_no_progress (refine Kept.upd ?_ (by rfl) (by intro p hp; cases p <;> first | rfl | exact (Kept.no hm hp (by decide)).elim)))
theorem State.answerDue_keeps {m : Nat} {r : State} (s : State) (hm : Nat.land 262160 m = 262160) (h : Kept m r s) : Kept m r (State.answerDue s) := by
  unfold State.answerDue
  with_reducible repeat' (first | assumption | exact Kept.sub hm rfl | exact Kept.refl _ _ | refine KeptRes.next ?_ | refine Kept.cond ?_ ?_ | refine KeptRes.cond ?_ ?_ | refine KeptP.cond ?_ ?_ | apply State.answerOrigin_keeps | refine Kept.foldl ?_ ?_ | intro _ | refine KeptP.foldl ?_ ?_ | refine KeptP.of_eq (by assumption) ?_ | dsimp only | split | dsimp only | refine KeptP.fst ?_ | refine KeptP.mk ?_ | fail_if_no_progress (refine Kept.upd ?_ (by rfl) (by intro p hp; cases p <;> first | rfl | exact (Kept.no hm hp (by decide)).elim)))
theorem State.holdItem_keeps {m : Nat} {r : State} (s : State) (w : WorkItem) (hm : Nat.land 262144 m = 262144) (h : Kept m r s) : Kept m r (State.holdItem s w) := by
  unfold State.holdItem
  with_reducible repeat' (first | assumption | exact Kept.sub hm rfl | exact Kept.refl _ _ | refine KeptRes.next ?_ | refine Kept.cond ?_ ?_ | refine KeptRes.cond ?_ ?_ | refine KeptP.cond ?_ ?_ | refine Kept.foldl ?_ ?_ | intro _ | refine KeptP.foldl ?_ ?_ | refine KeptP.of_eq (by assumption) ?_ | dsimp only | split | dsimp only | refine KeptP.fst ?_ | refine KeptP.mk ?_ | fail_if_no_progress (refine Kept.upd ?_ (by rfl) (by intro p hp; cases p <;> first | rfl | exact (Kept.no hm hp (by decide)).elim)))
theorem State.takePhase_keeps {m : Nat} {r : State} (s : State) (w : WorkItem) (hm : Nat.land 2098464 m = 2098464) (h : Kept m r s) : Kept m r (State.takePhase s w) := by
  unfold State.takePhase
  with_reducible repeat' (first | assumption | exact Kept.sub hm rfl | exact Kept.refl _ _ | refine KeptRes.next ?_ | refine Kept.cond ?_ ?_ | refine KeptRes.cond ?_ ?_ | refine KeptP.cond ?_ ?_ | apply State.beginSeal_keeps | apply State.beginWithdraw_keeps | apply State.closeStep_keeps | apply State.setEntry_keeps | refine Kept.foldl ?_ ?_ | intro _ | refine KeptP.foldl ?_ ?_ | refine KeptP.of_eq (by assumption) ?_ | dsimp only | split | dsimp only | refine KeptP.fst ?_ | refine KeptP.mk ?_ | fail_if_no_progress (refine Kept.upd ?_ (by rfl) (by intro p hp; cases p <;> first | rfl | exact (Kept.no hm hp (by decide)).elim)))
theorem State.takeCopy_keeps {m : Nat} {r : State} (s : State) (w : WorkItem) (hm : Nat.land 4194578 m = 4194578) (h : Kept m r s) : Kept m r (State.takeCopy s w) := by
  unfold State.takeCopy
  with_reducible repeat' (first | assumption | exact Kept.sub hm rfl | exact Kept.refl _ _ | refine KeptRes.next ?_ | refine Kept.cond ?_ ?_ | refine KeptRes.cond ?_ ?_ | refine KeptP.cond ?_ ?_ | apply State.journalEnter_keeps | refine Kept.foldl ?_ ?_ | intro _ | refine KeptP.foldl ?_ ?_ | refine KeptP.of_eq (by assumption) ?_ | dsimp only | split | dsimp only | refine KeptP.fst ?_ | refine KeptP.mk ?_ | fail_if_no_progress (refine Kept.upd ?_ (by rfl) (by intro p hp; cases p <;> first | rfl | exact (Kept.no hm hp (by decide)).elim)))
theorem State.mirrorUpdate_keeps {m : Nat} {r : State} (s : State) (w : WorkItem) (hm : Nat.land 4456722 m = 4456722) (h : Kept m r s) : Kept m r (State.mirrorUpdate s w) := by
  unfold State.mirrorUpdate
  with_reducible repeat' (first | assumption | exact Kept.sub hm rfl | exact Kept.refl _ _ | refine KeptRes.next ?_ | refine Kept.cond ?_ ?_ | refine KeptRes.cond ?_ ?_ | refine KeptP.cond ?_ ?_ | apply State.answerWork_keeps | apply State.holdItem_keeps | apply State.takeCopy_keeps | apply State.takeSlabMirror_keeps | refine Kept.foldl ?_ ?_ | intro _ | refine KeptP.foldl ?_ ?_ | refine KeptP.of_eq (by assumption) ?_ | dsimp only | split | dsimp only | refine KeptP.fst ?_ | refine KeptP.mk ?_ | fail_if_no_progress (refine Kept.upd ?_ (by rfl) (by intro p hp; cases p <;> first | rfl | exact (Kept.no hm hp (by decide)).elim)))
theorem State.resyncGranule_keeps {m : Nat} {r : State} (s : State) (w : WorkItem) (hm : Nat.land 4456722 m = 4456722) (h : Kept m r s) : Kept m r (State.resyncGranule s w) := by
  unfold State.resyncGranule
  with_reducible repeat' (first | assumption | exact Kept.sub hm rfl | exact Kept.refl _ _ | refine KeptRes.next ?_ | refine Kept.cond ?_ ?_ | refine KeptRes.cond ?_ ?_ | refine KeptP.cond ?_ ?_ | apply State.answerWork_keeps | apply State.holdItem_keeps | apply State.takeCopy_keeps | refine Kept.foldl ?_ ?_ | intro _ | refine KeptP.foldl ?_ ?_ | refine KeptP.of_eq (by assumption) ?_ | dsimp only | split | dsimp only | refine KeptP.fst ?_ | refine KeptP.mk ?_ | fail_if_no_progress (refine Kept.upd ?_ (by rfl) (by intro p hp; cases p <;> first | rfl | exact (Kept.no hm hp (by decide)).elim)))
theorem State.joinMap_keeps {m : Nat} {r : State} (s : State) (data : List Byte) (hm : Nat.land 262144 m = 262144) (h : Kept m r s) : Kept m r (State.joinMap s data) := by
  unfold State.joinMap
  with_reducible repeat' (first | assumption | exact Kept.sub hm rfl | exact Kept.refl _ _ | refine KeptRes.next ?_ | refine Kept.cond ?_ ?_ | refine KeptRes.cond ?_ ?_ | refine KeptP.cond ?_ ?_ | refine Kept.foldl ?_ ?_ | intro _ | refine KeptP.foldl ?_ ?_ | refine KeptP.of_eq (by assumption) ?_ | dsimp only | split | dsimp only | refine KeptP.fst ?_ | refine KeptP.mk ?_ | fail_if_no_progress (refine Kept.upd ?_ (by rfl) (by intro p hp; cases p <;> first | rfl | exact (Kept.no hm hp (by decide)).elim)))
theorem State.serveCopy_keeps {m : Nat} {r : State} (s : State) (w : WorkItem) (hm : Nat.land 2359312 m = 2359312) (h : Kept m r s) : Kept m r (State.serveCopy s w) := by
  unfold State.serveCopy
  with_reducible repeat' (first | assumption | exact Kept.sub hm rfl | exact Kept.refl _ _ | refine KeptRes.next ?_ | refine Kept.cond ?_ ?_ | refine KeptRes.cond ?_ ?_ | refine KeptP.cond ?_ ?_ | apply State.answerWork_keeps | apply State.copySlot_keeps | apply State.holdItem_keeps | refine Kept.foldl ?_ ?_ | intro _ | refine KeptP.foldl ?_ ?_ | refine KeptP.of_eq (by assumption) ?_ | dsimp only | split | dsimp only | refine KeptP.fst ?_ | refine KeptP.mk ?_ | fail_if_no_progress (refine Kept.upd ?_ (by rfl) (by intro p hp; cases p <;> first | rfl | exact (Kept.no hm hp (by decide)).elim)))
theorem State.countRows_keeps {m : Nat} {r : State} (s : State) (op : Nat) (rows : Nat) (ranks : Nat) (hm : Nat.land 2 m = 2) (h : Kept m r s) : Kept m r (State.countRows s op rows ranks) := by
  unfold State.countRows
  with_reducible repeat' (first | assumption | exact Kept.sub hm rfl | exact Kept.refl _ _ | refine KeptRes.next ?_ | refine Kept.cond ?_ ?_ | refine KeptRes.cond ?_ ?_ | refine KeptP.cond ?_ ?_ | apply State.count_keeps | refine Kept.foldl ?_ ?_ | intro _ | refine KeptP.foldl ?_ ?_ | refine KeptP.of_eq (by assumption) ?_ | dsimp only | split | dsimp only | refine KeptP.fst ?_ | refine KeptP.mk ?_ | fail_if_no_progress (refine Kept.upd ?_ (by rfl) (by intro p hp; cases p <;> first | rfl | exact (Kept.no hm hp (by decide)).elim)))
theorem State.serveWork_keeps {m : Nat} {r : State} (s : State) (w : WorkItem) (hm : Nat.land 16772538 m = 16772538) (h : Kept m r s) : Kept m r (State.serveWork s w) := by
  unfold State.serveWork
  with_reducible repeat' (first | assumption | exact Kept.sub hm rfl | exact Kept.refl _ _ | refine KeptRes.next ?_ | refine Kept.cond ?_ ?_ | refine KeptRes.cond ?_ ?_ | refine KeptP.cond ?_ ?_ | apply State.accessFor_keeps | apply State.addRow_keeps | apply State.answerWork_keeps | apply State.bringAll_keeps | apply State.changePages_keeps | apply State.checkGate_keeps | apply State.countRows_keeps | apply State.dropCopy_keeps | apply State.dropFetched_keeps | apply State.endAssign_keeps | apply State.freeMirror_keeps | apply State.holdItem_keeps | apply State.joinMap_keeps | apply State.kvpItem_keeps | apply State.mirrorUpdate_keeps | apply State.noteResolve_keeps | apply State.prepare_keeps | apply State.prepareRanges_keeps | apply State.raise_keeps | apply State.readStore_keeps | apply State.reserveFrames_keeps | apply State.resyncGranule_keeps | apply State.serveCopy_keeps | apply State.submitReq_keeps | apply State.takePhase_keeps | apply State.unreserve_keeps | apply State.updateGate_keeps | apply State.watchdogHit_keeps | apply State.writeStore_keeps | refine Kept.foldl ?_ ?_ | intro _ | refine KeptP.foldl ?_ ?_ | refine KeptP.of_eq (by assumption) ?_ | dsimp only | split | dsimp only | refine KeptP.fst ?_ | refine KeptP.mk ?_ | fail_if_no_progress (refine Kept.upd ?_ (by rfl) (by intro p hp; cases p <;> first | rfl | exact (Kept.no hm hp (by decide)).elim)))
theorem State.receiveWork_keeps {m : Nat} {r : State} (s : State) (w : WorkItem) (hm : Nat.land 16772538 m = 16772538) (h : Kept m r s) : Kept m r (State.receiveWork s w) := by
  unfold State.receiveWork
  with_reducible repeat' (first | assumption | exact Kept.sub hm rfl | exact Kept.refl _ _ | refine KeptRes.next ?_ | refine Kept.cond ?_ ?_ | refine KeptRes.cond ?_ ?_ | refine KeptP.cond ?_ ?_ | apply State.answerWork_keeps | apply State.emit_keeps | apply State.holdItem_keeps | apply State.modEntry_keeps | apply State.recvMember_keeps | apply State.serveWork_keeps | refine Kept.foldl ?_ ?_ | intro _ | refine KeptP.foldl ?_ ?_ | refine KeptP.of_eq (by assumption) ?_ | dsimp only | split | dsimp only | refine KeptP.fst ?_ | refine KeptP.mk ?_ | fail_if_no_progress (refine Kept.upd ?_ (by rfl) (by intro p hp; cases p <;> first | rfl | exact (Kept.no hm hp (by decide)).elim)))
theorem State.releaseHeld_keeps {m : Nat} {r : State} (s : State) (hm : Nat.land 16772538 m = 16772538) (h : Kept m r s) : Kept m r (State.releaseHeld s) := by
  unfold State.releaseHeld
  with_reducible repeat' (first | assumption | exact Kept.sub hm rfl | exact Kept.refl _ _ | refine KeptRes.next ?_ | refine Kept.cond ?_ ?_ | refine KeptRes.cond ?_ ?_ | refine KeptP.cond ?_ ?_ | apply State.receiveWork_keeps | refine Kept.foldl ?_ ?_ | intro _ | refine KeptP.foldl ?_ ?_ | refine KeptP.of_eq (by assumption) ?_ | dsimp only | split | dsimp only | refine KeptP.fst ?_ | refine KeptP.mk ?_ | fail_if_no_progress (refine Kept.upd ?_ (by rfl) (by intro p hp; cases p <;> first | rfl | exact (Kept.no hm hp (by decide)).elim)))
theorem execWork_keeps {m : Nat} {r : State} (origin : Nat) (id : Nat) (epoch : Nat) (cls : Nat) (forwarded : Bool) (role : Bool) (slot : Nat) (kind : Nat) (addr : Nat) (data : List Byte) (s : State) (hm : Nat.land 16772538 m = 16772538) (h : Kept m r s) : KeptRes m r (execWork origin id epoch cls forwarded role slot kind addr data s) := by
  unfold execWork
  with_reducible repeat' (first | assumption | exact Kept.sub hm rfl | exact Kept.refl _ _ | refine KeptRes.next ?_ | refine Kept.cond ?_ ?_ | refine KeptRes.cond ?_ ?_ | refine KeptP.cond ?_ ?_ | apply State.emit_keeps | apply State.receiveWork_keeps | apply State.wake_keeps | refine Kept.foldl ?_ ?_ | intro _ | refine KeptP.foldl ?_ ?_ | refine KeptP.of_eq (by assumption) ?_ | dsimp only | split | dsimp only | refine KeptP.fst ?_ | refine KeptP.mk ?_ | fail_if_no_progress (refine Kept.upd ?_ (by rfl) (by intro p hp; cases p <;> first | rfl | exact (Kept.no hm hp (by decide)).elim)))
theorem State.dropQueued_keeps {m : Nat} {r : State} (s : State) (origin : Nat) (id : Nat) (hm : Nat.land 8192 m = 8192) (h : Kept m r s) : Kept m r (State.dropQueued s origin id) := by
  unfold State.dropQueued
  with_reducible repeat' (first | assumption | exact Kept.sub hm rfl | exact Kept.refl _ _ | refine KeptRes.next ?_ | refine Kept.cond ?_ ?_ | refine KeptRes.cond ?_ ?_ | refine KeptP.cond ?_ ?_ | refine Kept.foldl ?_ ?_ | intro _ | refine KeptP.foldl ?_ ?_ | refine KeptP.of_eq (by assumption) ?_ | dsimp only | split | dsimp only | refine KeptP.fst ?_ | refine KeptP.mk ?_ | fail_if_no_progress (refine Kept.upd ?_ (by rfl) (by intro p hp; cases p <;> first | rfl | exact (Kept.no hm hp (by decide)).elim)))
theorem execWorkCancel_keeps {m : Nat} {r : State} (origin : Nat) (id : Nat) (s : State) (hm : Nat.land 16760730 m = 16760730) (h : Kept m r s) : KeptRes m r (execWorkCancel origin id s) := by
  unfold execWorkCancel
  with_reducible repeat' (first | assumption | exact Kept.sub hm rfl | exact Kept.refl _ _ | refine KeptRes.next ?_ | refine Kept.cond ?_ ?_ | refine KeptRes.cond ?_ ?_ | refine KeptP.cond ?_ ?_ | apply State.dropEntry_keeps | apply State.dropQueued_keeps | apply State.emit_keeps | apply State.stopEntry_keeps | apply State.withdraw_keeps | refine Kept.foldl ?_ ?_ | intro _ | refine KeptP.foldl ?_ ?_ | refine KeptP.of_eq (by assumption) ?_ | dsimp only | split | dsimp only | refine KeptP.fst ?_ | refine KeptP.mk ?_ | fail_if_no_progress (refine Kept.upd ?_ (by rfl) (by intro p hp; cases p <;> first | rfl | exact (Kept.no hm hp (by decide)).elim)))
theorem execWorkHold_keeps {m : Nat} {r : State} (origin : Nat) (id : Nat) (s : State) (hm : Nat.land 2359312 m = 2359312) (h : Kept m r s) : KeptRes m r (execWorkHold origin id s) := by
  unfold execWorkHold
  with_reducible repeat' (first | assumption | exact Kept.sub hm rfl | exact Kept.refl _ _ | refine KeptRes.next ?_ | refine Kept.cond ?_ ?_ | refine KeptRes.cond ?_ ?_ | refine KeptP.cond ?_ ?_ | apply State.emit_keeps | apply State.setEntry_keeps | refine Kept.foldl ?_ ?_ | intro _ | refine KeptP.foldl ?_ ?_ | refine KeptP.of_eq (by assumption) ?_ | dsimp only | split | dsimp only | refine KeptP.fst ?_ | refine KeptP.mk ?_ | fail_if_no_progress (refine Kept.upd ?_ (by rfl) (by intro p hp; cases p <;> first | rfl | exact (Kept.no hm hp (by decide)).elim)))
theorem State.answersDue_keeps {m : Nat} {r : State} (s : State) (hm : Nat.land 16772538 m = 16772538) (h : Kept m r s) : Kept m r (State.answersDue s) := by
  unfold State.answersDue
  with_reducible repeat' (first | assumption | exact Kept.sub hm rfl | exact Kept.refl _ _ | refine KeptRes.next ?_ | refine Kept.cond ?_ ?_ | refine KeptRes.cond ?_ ?_ | refine KeptP.cond ?_ ?_ | apply State.answerDue_keeps | apply State.releaseHeld_keeps | apply State.respondDue_keeps | refine Kept.foldl ?_ ?_ | intro _ | refine KeptP.foldl ?_ ?_ | refine KeptP.of_eq (by assumption) ?_ | dsimp only | split | dsimp only | refine KeptP.fst ?_ | refine KeptP.mk ?_ | fail_if_no_progress (refine Kept.upd ?_ (by rfl) (by intro p hp; cases p <;> first | rfl | exact (Kept.no hm hp (by decide)).elim)))
theorem State.addResult_keeps {m : Nat} {r : State} (s : State) (entry : Nat) (item : Nat) (result : List Nat) (hm : Nat.land 2097152 m = 2097152) (h : Kept m r s) : Kept m r (State.addResult s entry item result) := by
  unfold State.addResult
  with_reducible repeat' (first | assumption | exact Kept.sub hm rfl | exact Kept.refl _ _ | refine KeptRes.next ?_ | refine Kept.cond ?_ ?_ | refine KeptRes.cond ?_ ?_ | refine KeptP.cond ?_ ?_ | apply State.modEntry_keeps | refine Kept.foldl ?_ ?_ | intro _ | refine KeptP.foldl ?_ ?_ | refine KeptP.of_eq (by assumption) ?_ | dsimp only | split | dsimp only | refine KeptP.fst ?_ | refine KeptP.mk ?_ | fail_if_no_progress (refine Kept.upd ?_ (by rfl) (by intro p hp; cases p <;> first | rfl | exact (Kept.no hm hp (by decide)).elim)))
theorem State.mirrorAnswered_keeps {m : Nat} {r : State} (s : State) (item : Nat) (x : Away) (status : Nat) (hm : Nat.land 2359312 m = 2359312) (h : Kept m r s) : Kept m r (State.mirrorAnswered s item x status) := by
  unfold State.mirrorAnswered
  with_reducible repeat' (first | assumption | exact Kept.sub hm rfl | exact Kept.refl _ _ | refine KeptRes.next ?_ | refine Kept.cond ?_ ?_ | refine KeptRes.cond ?_ ?_ | refine KeptP.cond ?_ ?_ | apply State.dropAway_keeps | apply State.pageMirrored_keeps | apply State.sendItem_keeps | refine Kept.foldl ?_ ?_ | intro _ | refine KeptP.foldl ?_ ?_ | refine KeptP.of_eq (by assumption) ?_ | dsimp only | split | dsimp only | refine KeptP.fst ?_ | refine KeptP.mk ?_ | fail_if_no_progress (refine Kept.upd ?_ (by rfl) (by intro p hp; cases p <;> first | rfl | exact (Kept.no hm hp (by decide)).elim)))
theorem State.checkAnswered_keeps {m : Nat} {r : State} (s : State) (g : Nat) (b : List Byte) (hm : Nat.land 16648466 m = 16648466) (h : Kept m r s) : Kept m r (State.checkAnswered s g b) := by
  unfold State.checkAnswered
  with_reducible repeat' (first | assumption | exact Kept.sub hm rfl | exact Kept.refl _ _ | refine KeptRes.next ?_ | refine Kept.cond ?_ ?_ | refine KeptRes.cond ?_ ?_ | refine KeptP.cond ?_ ?_ | apply State.compareCopies_keeps | apply State.setGran_keeps | refine Kept.foldl ?_ ?_ | intro _ | refine KeptP.foldl ?_ ?_ | refine KeptP.of_eq (by assumption) ?_ | dsimp only | split | dsimp only | refine KeptP.fst ?_ | refine KeptP.mk ?_ | fail_if_no_progress (refine Kept.upd ?_ (by rfl) (by intro p hp; cases p <;> first | rfl | exact (Kept.no hm hp (by decide)).elim)))
theorem State.copyAnswered_keeps {m : Nat} {r : State} (s : State) (item : Nat) (status : Nat) (result : List Nat) (hm : Nat.land 16648466 m = 16648466) (h : Kept m r s) : Kept m r (State.copyAnswered s item status result) := by
  unfold State.copyAnswered
  with_reducible repeat' (first | assumption | exact Kept.sub hm rfl | exact Kept.refl _ _ | refine KeptRes.next ?_ | refine Kept.cond ?_ ?_ | refine KeptRes.cond ?_ ?_ | refine KeptP.cond ?_ ?_ | apply State.checkAnswered_keeps | apply State.mirrorAnswered_keeps | refine Kept.foldl ?_ ?_ | intro _ | refine KeptP.foldl ?_ ?_ | refine KeptP.of_eq (by assumption) ?_ | dsimp only | split | dsimp only | refine KeptP.fst ?_ | refine KeptP.mk ?_ | fail_if_no_progress (refine Kept.upd ?_ (by rfl) (by intro p hp; cases p <;> first | rfl | exact (Kept.no hm hp (by decide)).elim)))
theorem execWorkAnswer_keeps {m : Nat} {r : State} (entry : Nat) (item : Nat) (kind : AnswerKind) (status : Nat) (subcode : Nat) (begun : Bool) (result : List Nat) (s : State) (hm : Nat.land 16773050 m = 16773050) (h : Kept m r s) : KeptRes m r (execWorkAnswer entry item kind status subcode begun result s) := by
  unfold execWorkAnswer
  with_reducible repeat' (first | assumption | exact Kept.sub hm rfl | exact Kept.refl _ _ | refine KeptRes.next ?_ | refine Kept.cond ?_ ?_ | refine KeptRes.cond ?_ ?_ | refine KeptP.cond ?_ ?_ | apply State.addResult_keeps | apply State.answerItem_keeps | apply State.answersDue_keeps | apply State.copyAnswered_keeps | apply State.coreAnswered_keeps | apply State.dropAway_keeps | apply State.fetchAnswered_keeps | apply State.holdAnswered_keeps | apply State.pagesAnswered_keeps | apply State.releaseHeld_keeps | refine Kept.foldl ?_ ?_ | intro _ | refine KeptP.foldl ?_ ?_ | refine KeptP.of_eq (by assumption) ?_ | dsimp only | split | dsimp only | refine KeptP.fst ?_ | refine KeptP.mk ?_ | fail_if_no_progress (refine Kept.upd ?_ (by rfl) (by intro p hp; cases p <;> first | rfl | exact (Kept.no hm hp (by decide)).elim)))
theorem execCancelResend_keeps {m : Nat} {r : State} (entry : Nat) (s : State) (hm : Nat.land 16 m = 16) (h : Kept m r s) : KeptRes m r (execCancelResend entry s) := by
  unfold execCancelResend
  with_reducible repeat' (first | assumption | exact Kept.sub hm rfl | exact Kept.refl _ _ | refine KeptRes.next ?_ | refine Kept.cond ?_ ?_ | refine KeptRes.cond ?_ ?_ | refine KeptP.cond ?_ ?_ | apply State.emit_keeps | refine Kept.foldl ?_ ?_ | intro _ | refine KeptP.foldl ?_ ?_ | refine KeptP.of_eq (by assumption) ?_ | dsimp only | split | dsimp only | refine KeptP.fst ?_ | refine KeptP.mk ?_ | fail_if_no_progress (refine Kept.upd ?_ (by rfl) (by intro p hp; cases p <;> first | rfl | exact (Kept.no hm hp (by decide)).elim)))
theorem execEpochHoldExpiry_keeps {m : Nat} {r : State} (origin : Nat) (id : Nat) (s : State) (hm : Nat.land 262160 m = 262160) (h : Kept m r s) : KeptRes m r (execEpochHoldExpiry origin id s) := by
  unfold execEpochHoldExpiry
  with_reducible repeat' (first | assumption | exact Kept.sub hm rfl | exact Kept.refl _ _ | refine KeptRes.next ?_ | refine Kept.cond ?_ ?_ | refine KeptRes.cond ?_ ?_ | refine KeptP.cond ?_ ?_ | apply State.answerWork_keeps | refine Kept.foldl ?_ ?_ | intro _ | refine KeptP.foldl ?_ ?_ | refine KeptP.of_eq (by assumption) ?_ | dsimp only | split | dsimp only | refine KeptP.fst ?_ | refine KeptP.mk ?_ | fail_if_no_progress (refine Kept.upd ?_ (by rfl) (by intro p hp; cases p <;> first | rfl | exact (Kept.no hm hp (by decide)).elim)))
theorem State.sendMarkers_keeps {m : Nat} {r : State} (s : State) (hm : Nat.land 16400 m = 16400) (h : Kept m r s) : Kept m r (State.sendMarkers s) := by
  unfold State.sendMarkers
  with_reducible repeat' (first | assumption | exact Kept.sub hm rfl | exact Kept.refl _ _ | refine KeptRes.next ?_ | refine Kept.cond ?_ ?_ | refine KeptRes.cond ?_ ?_ | refine KeptP.cond ?_ ?_ | apply State.sendBare_keeps | refine Kept.foldl ?_ ?_ | intro _ | refine KeptP.foldl ?_ ?_ | refine KeptP.of_eq (by assumption) ?_ | dsimp only | split | dsimp only | refine KeptP.fst ?_ | refine KeptP.mk ?_ | fail_if_no_progress (refine Kept.upd ?_ (by rfl) (by intro p hp; cases p <;> first | rfl | exact (Kept.no hm hp (by decide)).elim)))
theorem State.showPeriod_keeps {m : Nat} {r : State} (s : State) (hm : Nat.land 2 m = 2) (h : Kept m r s) : Kept m r (State.showPeriod s) := by
  unfold State.showPeriod
  with_reducible repeat' (first | assumption | exact Kept.sub hm rfl | exact Kept.refl _ _ | refine KeptRes.next ?_ | refine Kept.cond ?_ ?_ | refine KeptRes.cond ?_ ?_ | refine KeptP.cond ?_ ?_ | apply State.setFld_keeps | refine Kept.foldl ?_ ?_ | intro _ | refine KeptP.foldl ?_ ?_ | refine KeptP.of_eq (by assumption) ?_ | dsimp only | split | dsimp only | refine KeptP.fst ?_ | refine KeptP.mk ?_ | fail_if_no_progress (refine Kept.upd ?_ (by rfl) (by intro p hp; cases p <;> first | rfl | exact (Kept.no hm hp (by decide)).elim)))
theorem State.newWindow_keeps {m : Nat} {r : State} (s : State) (hm : Nat.land 64 m = 64) (h : Kept m r s) : Kept m r (State.newWindow s) := by
  unfold State.newWindow
  with_reducible repeat' (first | assumption | exact Kept.sub hm rfl | exact Kept.refl _ _ | refine KeptRes.next ?_ | refine Kept.cond ?_ ?_ | refine KeptRes.cond ?_ ?_ | refine KeptP.cond ?_ ?_ | refine Kept.foldl ?_ ?_ | intro _ | refine KeptP.foldl ?_ ?_ | refine KeptP.of_eq (by assumption) ?_ | dsimp only | split | dsimp only | refine KeptP.fst ?_ | refine KeptP.mk ?_ | fail_if_no_progress (refine Kept.upd ?_ (by rfl) (by intro p hp; cases p <;> first | rfl | exact (Kept.no hm hp (by decide)).elim)))
theorem State.stageReached_keeps {m : Nat} {r : State} (s : State) (n : Nat) (hm : Nat.land 524290 m = 524290) (h : Kept m r s) : Kept m r (State.stageReached s n) := by
  unfold State.stageReached
  with_reducible repeat' (first | assumption | exact Kept.sub hm rfl | exact Kept.refl _ _ | refine KeptRes.next ?_ | refine Kept.cond ?_ ?_ | refine KeptRes.cond ?_ ?_ | refine KeptP.cond ?_ ?_ | apply State.setFld_keeps | refine Kept.foldl ?_ ?_ | intro _ | refine KeptP.foldl ?_ ?_ | refine KeptP.of_eq (by assumption) ?_ | dsimp only | split | dsimp only | refine KeptP.fst ?_ | refine KeptP.mk ?_ | fail_if_no_progress (refine Kept.upd ?_ (by rfl) (by intro p hp; cases p <;> first | rfl | exact (Kept.no hm hp (by decide)).elim)))
theorem State.setAlign_keeps {m : Nat} {r : State} (s : State) (st : Nat) (hm : Nat.land 5767186 m = 5767186) (h : Kept m r s) : Kept m r (State.setAlign s st) := by
  unfold State.setAlign
  with_reducible repeat' (first | assumption | exact Kept.sub hm rfl | exact Kept.refl _ _ | refine KeptRes.next ?_ | refine Kept.cond ?_ ?_ | refine KeptRes.cond ?_ ?_ | refine KeptP.cond ?_ ?_ | apply State.raise_keeps | apply State.setFld_keeps | apply State.stageReached_keeps | apply State.tellSensors_keeps | refine Kept.foldl ?_ ?_ | intro _ | refine KeptP.foldl ?_ ?_ | refine KeptP.of_eq (by assumption) ?_ | dsimp only | split | dsimp only | refine KeptP.fst ?_ | refine KeptP.mk ?_ | fail_if_no_progress (refine Kept.upd ?_ (by rfl) (by intro p hp; cases p <;> first | rfl | exact (Kept.no hm hp (by decide)).elim)))
theorem State.loseAlign_keeps {m : Nat} {r : State} (s : State) (hm : Nat.land 4194386 m = 4194386) (h : Kept m r s) : Kept m r (State.loseAlign s) := by
  unfold State.loseAlign
  with_reducible repeat' (first | assumption | exact Kept.sub hm rfl | exact Kept.refl _ _ | refine KeptRes.next ?_ | refine Kept.cond ?_ ?_ | refine KeptRes.cond ?_ ?_ | refine KeptP.cond ?_ ?_ | apply State.newWindow_keeps | apply State.raise_keeps | apply State.setFld_keeps | refine Kept.foldl ?_ ?_ | intro _ | refine KeptP.foldl ?_ ?_ | refine KeptP.of_eq (by assumption) ?_ | dsimp only | split | dsimp only | refine KeptP.fst ?_ | refine KeptP.mk ?_ | fail_if_no_progress (refine Kept.upd ?_ (by rfl) (by intro p hp; cases p <;> first | rfl | exact (Kept.no hm hp (by decide)).elim)))
theorem State.leaveParent_keeps {m : Nat} {r : State} (s : State) (hm : Nat.land 66 m = 66) (h : Kept m r s) : Kept m r (State.leaveParent s) := by
  unfold State.leaveParent
  with_reducible repeat' (first | assumption | exact Kept.sub hm rfl | exact Kept.refl _ _ | refine KeptRes.next ?_ | refine Kept.cond ?_ ?_ | refine KeptRes.cond ?_ ?_ | refine KeptP.cond ?_ ?_ | apply State.newWindow_keeps | apply State.setFld_keeps | refine Kept.foldl ?_ ?_ | intro _ | refine KeptP.foldl ?_ ?_ | refine KeptP.of_eq (by assumption) ?_ | dsimp only | split | dsimp only | refine KeptP.fst ?_ | refine KeptP.mk ?_ | fail_if_no_progress (refine Kept.upd ?_ (by rfl) (by intro p hp; cases p <;> first | rfl | exact (Kept.no hm hp (by decide)).elim)))
theorem State.chooseParent_keeps {m : Nat} {r : State} (s : State) (hm : Nat.land 5767250 m = 5767250) (h : Kept m r s) : Kept m r (State.chooseParent s) := by
  unfold State.chooseParent
  with_reducible repeat' (first | assumption | exact Kept.sub hm rfl | exact Kept.refl _ _ | refine KeptRes.next ?_ | refine Kept.cond ?_ ?_ | refine KeptRes.cond ?_ ?_ | refine KeptP.cond ?_ ?_ | apply State.leaveParent_keeps | apply State.loseAlign_keeps | apply State.newWindow_keeps | apply State.setAlign_keeps | apply State.setFld_keeps | refine Kept.foldl ?_ ?_ | intro _ | refine KeptP.foldl ?_ ?_ | refine KeptP.of_eq (by assumption) ?_ | dsimp only | split | dsimp only | refine KeptP.fst ?_ | refine KeptP.mk ?_ | fail_if_no_progress (refine Kept.upd ?_ (by rfl) (by intro p hp; cases p <;> first | rfl | exact (Kept.no hm hp (by decide)).elim)))
theorem State.lockBehind_keeps {m : Nat} {r : State} (s : State) (hm : Nat.land 5767186 m = 5767186) (h : Kept m r s) : Kept m r (State.lockBehind s) := by
  unfold State.lockBehind
  with_reducible repeat' (first | assumption | exact Kept.sub hm rfl | exact Kept.refl _ _ | refine KeptRes.next ?_ | refine Kept.cond ?_ ?_ | refine KeptRes.cond ?_ ?_ | refine KeptP.cond ?_ ?_ | apply State.setAlign_keeps | apply State.setFld_keeps | refine Kept.foldl ?_ ?_ | intro _ | refine KeptP.foldl ?_ ?_ | refine KeptP.of_eq (by assumption) ?_ | dsimp only | split | dsimp only | refine KeptP.fst ?_ | refine KeptP.mk ?_ | fail_if_no_progress (refine Kept.upd ?_ (by rfl) (by intro p hp; cases p <;> first | rfl | exact (Kept.no hm hp (by decide)).elim)))
theorem State.adoptFrame_keeps {m : Nat} {r : State} (s : State) (frame : Nat) (hm : Nat.land 68 m = 68) (h : Kept m r s) : Kept m r (State.adoptFrame s frame) := by
  unfold State.adoptFrame
  with_reducible repeat' (first | assumption | exact Kept.sub hm rfl | exact Kept.refl _ _ | refine KeptRes.next ?_ | refine Kept.cond ?_ ?_ | refine KeptRes.cond ?_ ?_ | refine KeptP.cond ?_ ?_ | refine Kept.foldl ?_ ?_ | intro _ | refine KeptP.foldl ?_ ?_ | refine KeptP.of_eq (by assumption) ?_ | dsimp only | split | dsimp only | refine KeptP.fst ?_ | refine KeptP.mk ?_ | fail_if_no_progress (refine Kept.upd ?_ (by rfl) (by intro p hp; cases p <;> first | rfl | exact (Kept.no hm hp (by decide)).elim)))
theorem State.regained_keeps {m : Nat} {r : State} (t : State) (s : State) (hm : Nat.land 16772538 m = 16772538) (h : Kept m r t) : Kept m r (State.regained t s) := by
  unfold State.regained
  with_reducible repeat' (first | assumption | exact Kept.sub hm rfl | exact Kept.refl _ _ | refine KeptRes.next ?_ | refine Kept.cond ?_ ?_ | refine KeptRes.cond ?_ ?_ | refine KeptP.cond ?_ ?_ | apply State.releaseHeld_keeps | refine Kept.foldl ?_ ?_ | intro _ | refine KeptP.foldl ?_ ?_ | refine KeptP.of_eq (by assumption) ?_ | dsimp only | split | dsimp only | refine KeptP.fst ?_ | refine KeptP.mk ?_ | fail_if_no_progress (refine Kept.upd ?_ (by rfl) (by intro p hp; cases p <;> first | rfl | exact (Kept.no hm hp (by decide)).elim)))
theorem execAlignCtrlWrite_keeps {m : Nat} {r : State} (src : Nat) (value : Word) (s : State) (hm : Nat.land 16772602 m = 16772602) (h : Kept m r s) : KeptRes m r (execAlignCtrlWrite src value s) := by
  unfold execAlignCtrlWrite
  with_reducible repeat' (first | assumption | exact Kept.sub hm rfl | exact Kept.refl _ _ | refine KeptRes.next ?_ | refine Kept.cond ?_ ?_ | refine KeptRes.cond ?_ ?_ | refine KeptP.cond ?_ ?_ | apply State.chooseParent_keeps | apply State.newWindow_keeps | apply State.regained_keeps | apply State.setFld_keeps | refine Kept.foldl ?_ ?_ | intro _ | refine KeptP.foldl ?_ ?_ | refine KeptP.of_eq (by assumption) ?_ | dsimp only | split | dsimp only | refine KeptP.fst ?_ | refine KeptP.mk ?_ | fail_if_no_progress (refine Kept.upd ?_ (by rfl) (by intro p hp; cases p <;> first | rfl | exact (Kept.no hm hp (by decide)).elim)))
theorem execEpoch_keeps {m : Nat} {r : State} (port : Nat) (msg : List Byte) (stamp : Int) (s : State) (hm : Nat.land 6045782 m = 6045782) (h : Kept m r s) : KeptRes m r (execEpoch port msg stamp s) := by
  unfold execEpoch
  with_reducible repeat' (first | assumption | exact Kept.sub hm rfl | exact Kept.refl _ _ | refine KeptRes.next ?_ | refine Kept.cond ?_ ?_ | refine KeptRes.cond ?_ ?_ | refine KeptP.cond ?_ ?_ | apply State.adoptFrame_keeps | apply State.chooseParent_keeps | apply State.loseAlign_keeps | apply State.newWindow_keeps | apply State.raise_keeps | apply State.setFld_keeps | apply State.setPeer_keeps | apply State.showPeriod_keeps | apply State.takeMsg_keeps | refine Kept.foldl ?_ ?_ | intro _ | refine KeptP.foldl ?_ ?_ | refine KeptP.of_eq (by assumption) ?_ | dsimp only | split | dsimp only | refine KeptP.fst ?_ | refine KeptP.mk ?_ | fail_if_no_progress (refine Kept.upd ?_ (by rfl) (by intro p hp; cases p <;> first | rfl | exact (Kept.no hm hp (by decide)).elim)))
theorem State.windowEnd_keeps {m : Nat} {r : State} (s : State) (hm : Nat.land 5767250 m = 5767250) (h : Kept m r s) : Kept m r (State.windowEnd s) := by
  unfold State.windowEnd
  with_reducible repeat' (first | assumption | exact Kept.sub hm rfl | exact Kept.refl _ _ | refine KeptRes.next ?_ | refine Kept.cond ?_ ?_ | refine KeptRes.cond ?_ ?_ | refine KeptP.cond ?_ ?_ | apply State.lockBehind_keeps | apply State.loseAlign_keeps | apply State.newWindow_keeps | apply State.setFld_keeps | refine Kept.foldl ?_ ?_ | intro _ | refine KeptP.foldl ?_ ?_ | refine KeptP.of_eq (by assumption) ?_ | dsimp only | split | dsimp only | refine KeptP.fst ?_ | refine KeptP.mk ?_ | fail_if_no_progress (refine Kept.upd ?_ (by rfl) (by intro p hp; cases p <;> first | rfl | exact (Kept.no hm hp (by decide)).elim)))
theorem execAlignWindowEnd_keeps {m : Nat} {r : State} (s : State) (hm : Nat.land 16772602 m = 16772602) (h : Kept m r s) : KeptRes m r (execAlignWindowEnd s) := by
  unfold execAlignWindowEnd
  with_reducible repeat' (first | assumption | exact Kept.sub hm rfl | exact Kept.refl _ _ | refine KeptRes.next ?_ | refine Kept.cond ?_ ?_ | refine KeptRes.cond ?_ ?_ | refine KeptP.cond ?_ ?_ | apply State.regained_keeps | apply State.windowEnd_keeps | refine Kept.foldl ?_ ?_ | intro _ | refine KeptP.foldl ?_ ?_ | refine KeptP.of_eq (by assumption) ?_ | dsimp only | split | dsimp only | refine KeptP.fst ?_ | refine KeptP.mk ?_ | fail_if_no_progress (refine Kept.upd ?_ (by rfl) (by intro p hp; cases p <;> first | rfl | exact (Kept.no hm hp (by decide)).elim)))
theorem execParentLost_keeps {m : Nat} {r : State} (s : State) (hm : Nat.land 5767250 m = 5767250) (h : Kept m r s) : KeptRes m r (execParentLost s) := by
  unfold execParentLost
  with_reducible repeat' (first | assumption | exact Kept.sub hm rfl | exact Kept.refl _ _ | refine KeptRes.next ?_ | refine Kept.cond ?_ ?_ | refine KeptRes.cond ?_ ?_ | refine KeptP.cond ?_ ?_ | apply State.chooseParent_keeps | apply State.leaveParent_keeps | refine Kept.foldl ?_ ?_ | intro _ | refine KeptP.foldl ?_ ?_ | refine KeptP.of_eq (by assumption) ?_ | dsimp only | split | dsimp only | refine KeptP.fst ?_ | refine KeptP.mk ?_ | fail_if_no_progress (refine Kept.upd ?_ (by rfl) (by intro p hp; cases p <;> first | rfl | exact (Kept.no hm hp (by decide)).elim)))
theorem execHoldoverExpiry_keeps {m : Nat} {r : State} (s : State) (hm : Nat.land 4194386 m = 4194386) (h : Kept m r s) : KeptRes m r (execHoldoverExpiry s) := by
  unfold execHoldoverExpiry
  with_reducible repeat' (first | assumption | exact Kept.sub hm rfl | exact Kept.refl _ _ | refine KeptRes.next ?_ | refine Kept.cond ?_ ?_ | refine KeptRes.cond ?_ ?_ | refine KeptP.cond ?_ ?_ | apply State.loseAlign_keeps | refine Kept.foldl ?_ ?_ | intro _ | refine KeptP.foldl ?_ ?_ | refine KeptP.of_eq (by assumption) ?_ | dsimp only | split | dsimp only | refine KeptP.fst ?_ | refine KeptP.mk ?_ | fail_if_no_progress (refine Kept.upd ?_ (by rfl) (by intro p hp; cases p <;> first | rfl | exact (Kept.no hm hp (by decide)).elim)))
theorem execFrameBoundary_keeps {m : Nat} {r : State} (s : State) (hm : Nat.land 16772606 m = 16772606) (h : Kept m r s) : KeptRes m r (execFrameBoundary s) := by
  unfold execFrameBoundary
  with_reducible repeat' (first | assumption | exact Kept.sub hm rfl | exact Kept.refl _ _ | refine KeptRes.next ?_ | refine Kept.cond ?_ ?_ | refine KeptRes.cond ?_ ?_ | refine KeptP.cond ?_ ?_ | apply State.chooseParent_keeps | apply State.regained_keeps | apply State.sendMarkers_keeps | apply State.showPeriod_keeps | refine Kept.foldl ?_ ?_ | intro _ | refine KeptP.foldl ?_ ?_ | refine KeptP.of_eq (by assumption) ?_ | dsimp only | split | dsimp only | refine KeptP.fst ?_ | refine KeptP.mk ?_ | fail_if_no_progress (refine Kept.upd ?_ (by rfl) (by intro p hp; cases p <;> first | rfl | exact (Kept.no hm hp (by decide)).elim)))
theorem State.fillSlot_keeps {m : Nat} {r : State} (s : State) (kind : Nat) (x2 : Nat) (entry : Nat) (queue : List QueuedReq) (hm : Nat.land 64 m = 64) (h : Kept m r s) : KeptP m r (State.fillSlot s kind x2 entry queue) := by
  unfold State.fillSlot
  with_reducible repeat' (first | assumption | exact Kept.sub hm rfl | exact Kept.refl _ _ | refine KeptRes.next ?_ | refine Kept.cond ?_ ?_ | refine KeptRes.cond ?_ ?_ | refine KeptP.cond ?_ ?_ | refine Kept.foldl ?_ ?_ | intro _ | refine KeptP.foldl ?_ ?_ | refine KeptP.of_eq (by assumption) ?_ | dsimp only | split | dsimp only | refine KeptP.fst ?_ | refine KeptP.mk ?_ | fail_if_no_progress (refine Kept.upd ?_ (by rfl) (by intro p hp; cases p <;> first | rfl | exact (Kept.no hm hp (by decide)).elim)))
theorem State.retrainSlot_keeps {m : Nat} {r : State} (s : State) (kind : Nat) (x2 : Nat) (slot : Nat) (hm : Nat.land 4194642 m = 4194642) (h : Kept m r s) : KeptP m r (State.retrainSlot s kind x2 slot) := by
  unfold State.retrainSlot
  with_reducible repeat' (first | assumption | exact Kept.sub hm rfl | exact Kept.refl _ _ | refine KeptRes.next ?_ | refine Kept.cond ?_ ?_ | refine KeptRes.cond ?_ ?_ | refine KeptP.cond ?_ ?_ | apply State.retrainStep_keeps | refine Kept.foldl ?_ ?_ | intro _ | refine KeptP.foldl ?_ ?_ | refine KeptP.of_eq (by assumption) ?_ | dsimp only | split | dsimp only | refine KeptP.fst ?_ | refine KeptP.mk ?_ | fail_if_no_progress (refine Kept.upd ?_ (by rfl) (by intro p hp; cases p <;> first | rfl | exact (Kept.no hm hp (by decide)).elim)))
theorem State.useSlot_keeps {m : Nat} {r : State} (s : State) (kind : Nat) (x2 : Nat) (slot : Nat) (queue : List QueuedReq) (blocked : Bool) (hm : Nat.land 5243218 m = 5243218) (h : Kept m r s) : KeptP m r (State.useSlot s kind x2 slot queue blocked) := by
  unfold State.useSlot
  with_reducible repeat' (first | assumption | exact Kept.sub hm rfl | exact Kept.refl _ _ | refine KeptRes.next ?_ | refine Kept.cond ?_ ?_ | refine KeptRes.cond ?_ ?_ | refine KeptP.cond ?_ ?_ | apply State.count_keeps | apply State.fillSlot_keeps | apply State.pulse_keeps | apply State.raise_keeps | apply State.retrainSlot_keeps | refine Kept.foldl ?_ ?_ | intro _ | refine KeptP.foldl ?_ ?_ | refine KeptP.of_eq (by assumption) ?_ | dsimp only | split | dsimp only | refine KeptP.fst ?_ | refine KeptP.mk ?_ | fail_if_no_progress (refine Kept.upd ?_ (by rfl) (by intro p hp; cases p <;> first | rfl | exact (Kept.no hm hp (by decide)).elim)))
theorem execSlotIssue_keeps {m : Nat} {r : State} (kind : Nat) (x1 : Nat) (slot : Nat) (queue : List QueuedReq) (blocked : Bool) (s : State) (hm : Nat.land 5390682 m = 5390682) (h : Kept m r s) : KeptRes m r (execSlotIssue kind x1 slot queue blocked s) := by
  unfold execSlotIssue
  with_reducible repeat' (first | assumption | exact Kept.sub hm rfl | exact Kept.refl _ _ | refine KeptRes.next ?_ | refine Kept.cond ?_ ?_ | refine KeptRes.cond ?_ ?_ | refine KeptP.cond ?_ ?_ | apply State.emit_keeps | apply State.pulse_keeps | apply State.sendBare_keeps | apply State.sendFlit_keeps | apply State.sendTraining_keeps | apply State.useSlot_keeps | refine Kept.foldl ?_ ?_ | intro _ | refine KeptP.foldl ?_ ?_ | refine KeptP.of_eq (by assumption) ?_ | dsimp only | split | dsimp only | refine KeptP.fst ?_ | refine KeptP.mk ?_ | fail_if_no_progress (refine Kept.upd ?_ (by rfl) (by intro p hp; cases p <;> first | rfl | exact (Kept.no hm hp (by decide)).elim)))
theorem State.endLoad_keeps {m : Nat} {r : State} (s : State) (code : Nat) (w : PstWhere) (hm : Nat.land 4194322 m = 4194322) (h : Kept m r s) : Kept m r (State.endLoad s code w) := by
  unfold State.endLoad
  with_reducible repeat' (first | assumption | exact Kept.sub hm rfl | exact Kept.refl _ _ | refine KeptRes.next ?_ | refine Kept.cond ?_ ?_ | refine KeptRes.cond ?_ ?_ | refine KeptP.cond ?_ ?_ | apply State.raise_keeps | apply State.setFld_keeps | refine Kept.foldl ?_ ?_ | intro _ | refine KeptP.foldl ?_ ?_ | refine KeptP.of_eq (by assumption) ?_ | dsimp only | split | dsimp only | refine KeptP.fst ?_ | refine KeptP.mk ?_ | fail_if_no_progress (refine Kept.upd ?_ (by rfl) (by intro p hp; cases p <;> first | rfl | exact (Kept.no hm hp (by decide)).elim)))
theorem State.loadIdle_keeps {m : Nat} {r : State} (s : State) (hm : Nat.land 66 m = 66) (h : Kept m r s) : Kept m r (State.loadIdle s) := by
  unfold State.loadIdle
  with_reducible repeat' (first | assumption | exact Kept.sub hm rfl | exact Kept.refl _ _ | refine KeptRes.next ?_ | refine Kept.cond ?_ ?_ | refine KeptRes.cond ?_ ?_ | refine KeptP.cond ?_ ?_ | apply State.setFld_keeps | refine Kept.foldl ?_ ?_ | intro _ | refine KeptP.foldl ?_ ?_ | refine KeptP.of_eq (by assumption) ?_ | dsimp only | split | dsimp only | refine KeptP.fst ?_ | refine KeptP.mk ?_ | fail_if_no_progress (refine Kept.upd ?_ (by rfl) (by intro p hp; cases p <;> first | rfl | exact (Kept.no hm hp (by decide)).elim)))
theorem execPstImageLoad_keeps {m : Nat} {r : State} (src : Nat) (s : State) (hm : Nat.land 4194386 m = 4194386) (h : Kept m r s) : KeptRes m r (execPstImageLoad src s) := by
  unfold execPstImageLoad
  with_reducible repeat' (first | assumption | exact Kept.sub hm rfl | exact Kept.refl _ _ | refine KeptRes.next ?_ | refine Kept.cond ?_ ?_ | refine KeptRes.cond ?_ ?_ | refine KeptP.cond ?_ ?_ | apply State.emit_keeps | apply State.endLoad_keeps | apply State.setFld_keeps | refine Kept.foldl ?_ ?_ | intro _ | refine KeptP.foldl ?_ ?_ | refine KeptP.of_eq (by assumption) ?_ | dsimp only | split | dsimp only | refine KeptP.fst ?_ | refine KeptP.mk ?_ | fail_if_no_progress (refine Kept.upd ?_ (by rfl) (by intro p hp; cases p <;> first | rfl | exact (Kept.no hm hp (by decide)).elim)))
theorem execPstLoadDone_keeps {m : Nat} {r : State} (result : HostResult) (image : List Byte) (s : State) (hm : Nat.land 4194386 m = 4194386) (h : Kept m r s) : KeptRes m r (execPstLoadDone result image s) := by
  unfold execPstLoadDone
  with_reducible repeat' (first | assumption | exact Kept.sub hm rfl | exact Kept.refl _ _ | refine KeptRes.next ?_ | refine Kept.cond ?_ ?_ | refine KeptRes.cond ?_ ?_ | refine KeptP.cond ?_ ?_ | apply State.endLoad_keeps | apply State.loadIdle_keeps | apply State.setFld_keeps | refine Kept.foldl ?_ ?_ | intro _ | refine KeptP.foldl ?_ ?_ | refine KeptP.of_eq (by assumption) ?_ | dsimp only | split | dsimp only | refine KeptP.fst ?_ | refine KeptP.mk ?_ | fail_if_no_progress (refine Kept.upd ?_ (by rfl) (by intro p hp; cases p <;> first | rfl | exact (Kept.no hm hp (by decide)).elim)))
theorem State.disarm_keeps {m : Nat} {r : State} (s : State) (result : Nat) (hm : Nat.land 66 m = 66) (h : Kept m r s) : Kept m r (State.disarm s result) := by
  unfold State.disarm
  with_reducible repeat' (first | assumption | exact Kept.sub hm rfl | exact Kept.refl _ _ | refine KeptRes.next ?_ | refine Kept.cond ?_ ?_ | refine KeptRes.cond ?_ ?_ | refine KeptP.cond ?_ ?_ | apply State.setFld_keeps | refine Kept.foldl ?_ ?_ | intro _ | refine KeptP.foldl ?_ ?_ | refine KeptP.of_eq (by assumption) ?_ | dsimp only | split | dsimp only | refine KeptP.fst ?_ | refine KeptP.mk ?_ | fail_if_no_progress (refine Kept.upd ?_ (by rfl) (by intro p hp; cases p <;> first | rfl | exact (Kept.no hm hp (by decide)).elim)))
theorem execPstSwitchArm_keeps {m : Nat} {r : State} (src : Nat) (s : State) (hm : Nat.land 4194386 m = 4194386) (h : Kept m r s) : KeptRes m r (execPstSwitchArm src s) := by
  unfold execPstSwitchArm
  with_reducible repeat' (first | assumption | exact Kept.sub hm rfl | exact Kept.refl _ _ | refine KeptRes.next ?_ | refine Kept.cond ?_ ?_ | refine KeptRes.cond ?_ ?_ | refine KeptP.cond ?_ ?_ | apply State.raise_keeps | apply State.setFld_keeps | refine Kept.foldl ?_ ?_ | intro _ | refine KeptP.foldl ?_ ?_ | refine KeptP.of_eq (by assumption) ?_ | dsimp only | split | dsimp only | refine KeptP.fst ?_ | refine KeptP.mk ?_ | fail_if_no_progress (refine Kept.upd ?_ (by rfl) (by intro p hp; cases p <;> first | rfl | exact (Kept.no hm hp (by decide)).elim)))
theorem execPstSwitchCancel_keeps {m : Nat} {r : State} (src : Nat) (s : State) (hm : Nat.land 4194386 m = 4194386) (h : Kept m r s) : KeptRes m r (execPstSwitchCancel src s) := by
  unfold execPstSwitchCancel
  with_reducible repeat' (first | assumption | exact Kept.sub hm rfl | exact Kept.refl _ _ | refine KeptRes.next ?_ | refine Kept.cond ?_ ?_ | refine KeptRes.cond ?_ ?_ | refine KeptP.cond ?_ ?_ | apply State.disarm_keeps | apply State.raise_keeps | refine Kept.foldl ?_ ?_ | intro _ | refine KeptP.foldl ?_ ?_ | refine KeptP.of_eq (by assumption) ?_ | dsimp only | split | dsimp only | refine KeptP.fst ?_ | refine KeptP.mk ?_ | fail_if_no_progress (refine Kept.upd ?_ (by rfl) (by intro p hp; cases p <;> first | rfl | exact (Kept.no hm hp (by decide)).elim)))
theorem State.switchTo_keeps {m : Nat} {r : State} (s : State) (set : Nat) (hm : Nat.land 66 m = 66) (h : Kept m r s) : Kept m r (State.switchTo s set) := by
  unfold State.switchTo
  with_reducible repeat' (first | assumption | exact Kept.sub hm rfl | exact Kept.refl _ _ | refine KeptRes.next ?_ | refine Kept.cond ?_ ?_ | refine KeptRes.cond ?_ ?_ | refine KeptP.cond ?_ ?_ | apply State.setFld_keeps | apply State.showPeriod_keeps | refine Kept.foldl ?_ ?_ | intro _ | refine KeptP.foldl ?_ ?_ | refine KeptP.of_eq (by assumption) ?_ | dsimp only | split | dsimp only | refine KeptP.fst ?_ | refine KeptP.mk ?_ | fail_if_no_progress (refine Kept.upd ?_ (by rfl) (by intro p hp; cases p <;> first | rfl | exact (Kept.no hm hp (by decide)).elim)))
theorem execTableSwitch_keeps {m : Nat} {r : State} (s : State) (hm : Nat.land 4210770 m = 4210770) (h : Kept m r s) : KeptRes m r (execTableSwitch s) := by
  unfold execTableSwitch
  with_reducible repeat' (first | assumption | exact Kept.sub hm rfl | exact Kept.refl _ _ | refine KeptRes.next ?_ | refine Kept.cond ?_ ?_ | refine KeptRes.cond ?_ ?_ | refine KeptP.cond ?_ ?_ | apply State.disarm_keeps | apply State.raise_keeps | apply State.sendMarkers_keeps | apply State.switchTo_keeps | refine Kept.foldl ?_ ?_ | intro _ | refine KeptP.foldl ?_ ?_ | refine KeptP.of_eq (by assumption) ?_ | dsimp only | split | dsimp only | refine KeptP.fst ?_ | refine KeptP.mk ?_ | fail_if_no_progress (refine Kept.upd ?_ (by rfl) (by intro p hp; cases p <;> first | rfl | exact (Kept.no hm hp (by decide)).elim)))
theorem State.pstBrace_keeps {m : Nat} {r : State} (s : State) (hm : Nat.land 4194386 m = 4194386) (h : Kept m r s) : Kept m r (State.pstBrace s) := by
  unfold State.pstBrace
  with_reducible repeat' (first | assumption | exact Kept.sub hm rfl | exact Kept.refl _ _ | refine KeptRes.next ?_ | refine Kept.cond ?_ ?_ | refine KeptRes.cond ?_ ?_ | refine KeptP.cond ?_ ?_ | apply State.disarm_keeps | apply State.endLoad_keeps | apply State.loadIdle_keeps | apply State.raise_keeps | apply State.setFld_keeps | apply State.showPeriod_keeps | refine Kept.foldl ?_ ?_ | intro _ | refine KeptP.foldl ?_ ?_ | refine KeptP.of_eq (by assumption) ?_ | dsimp only | split | dsimp only | refine KeptP.fst ?_ | refine KeptP.mk ?_ | fail_if_no_progress (refine Kept.upd ?_ (by rfl) (by intro p hp; cases p <;> first | rfl | exact (Kept.no hm hp (by decide)).elim)))
theorem State.pstBankError_keeps {m : Nat} {r : State} (s : State) (active : Bool) (hm : Nat.land 66 m = 66) (h : Kept m r s) : Kept m r (State.pstBankError s active) := by
  unfold State.pstBankError
  with_reducible repeat' (first | assumption | exact Kept.sub hm rfl | exact Kept.refl _ _ | refine KeptRes.next ?_ | refine Kept.cond ?_ ?_ | refine KeptRes.cond ?_ ?_ | refine KeptP.cond ?_ ?_ | apply State.setFld_keeps | apply State.switchTo_keeps | refine Kept.foldl ?_ ?_ | intro _ | refine KeptP.foldl ?_ ?_ | refine KeptP.of_eq (by assumption) ?_ | dsimp only | split | dsimp only | refine KeptP.fst ?_ | refine KeptP.mk ?_ | fail_if_no_progress (refine Kept.upd ?_ (by rfl) (by intro p hp; cases p <;> first | rfl | exact (Kept.no hm hp (by decide)).elim)))
theorem State.defineIndex_keeps {m : Nat} {r : State} (s : State) (entry : Nat) (e : Entry) (hm : Nat.land 2361360 m = 2361360) (h : Kept m r s) : Kept m r (State.defineIndex s entry e) := by
  unfold State.defineIndex
  with_reducible repeat' (first | assumption | exact Kept.sub hm rfl | exact Kept.refl _ _ | refine KeptRes.next ?_ | refine Kept.cond ?_ ?_ | refine KeptRes.cond ?_ ?_ | refine KeptP.cond ?_ ?_ | apply State.dispatch_keeps | apply State.setVecIndex_keeps | refine Kept.foldl ?_ ?_ | intro _ | refine KeptP.foldl ?_ ?_ | refine KeptP.of_eq (by assumption) ?_ | dsimp only | split | dsimp only | refine KeptP.fst ?_ | refine KeptP.mk ?_ | fail_if_no_progress (refine Kept.upd ?_ (by rfl) (by intro p hp; cases p <;> first | rfl | exact (Kept.no hm hp (by decide)).elim)))
theorem execVecDefine_keeps {m : Nat} {r : State} (entry : Nat) (s : State) (hm : Nat.land 16771474 m = 16771474) (h : Kept m r s) : KeptRes m r (execVecDefine entry s) := by
  unfold execVecDefine
  with_reducible repeat' (first | assumption | exact Kept.sub hm rfl | exact Kept.refl _ _ | refine KeptRes.next ?_ | refine Kept.cond ?_ ?_ | refine KeptRes.cond ?_ ?_ | refine KeptP.cond ?_ ?_ | apply State.defineIndex_keeps | apply State.failWith_keeps | apply State.forward_keeps | apply State.prepareRanges_keeps | apply State.readRanges_keeps | refine Kept.foldl ?_ ?_ | intro _ | refine KeptP.foldl ?_ ?_ | refine KeptP.of_eq (by assumption) ?_ | dsimp only | split | dsimp only | refine KeptP.fst ?_ | refine KeptP.mk ?_ | fail_if_no_progress (refine Kept.upd ?_ (by rfl) (by intro p hp; cases p <;> first | rfl | exact (Kept.no hm hp (by decide)).elim)))
theorem State.removeIndex_keeps {m : Nat} {r : State} (s : State) (entry : Nat) (e : Entry) (hm : Nat.land 2361360 m = 2361360) (h : Kept m r s) : Kept m r (State.removeIndex s entry e) := by
  unfold State.removeIndex
  with_reducible repeat' (first | assumption | exact Kept.sub hm rfl | exact Kept.refl _ _ | refine KeptRes.next ?_ | refine Kept.cond ?_ ?_ | refine KeptRes.cond ?_ ?_ | refine KeptP.cond ?_ ?_ | apply State.dispatch_keeps | apply State.dropIndex_keeps | refine Kept.foldl ?_ ?_ | intro _ | refine KeptP.foldl ?_ ?_ | refine KeptP.of_eq (by assumption) ?_ | dsimp only | split | dsimp only | refine KeptP.fst ?_ | refine KeptP.mk ?_ | fail_if_no_progress (refine Kept.upd ?_ (by rfl) (by intro p hp; cases p <;> first | rfl | exact (Kept.no hm hp (by decide)).elim)))
theorem execVecDrop_keeps {m : Nat} {r : State} (entry : Nat) (s : State) (hm : Nat.land 2361360 m = 2361360) (h : Kept m r s) : KeptRes m r (execVecDrop entry s) := by
  unfold execVecDrop
  with_reducible repeat' (first | assumption | exact Kept.sub hm rfl | exact Kept.refl _ _ | refine KeptRes.next ?_ | refine Kept.cond ?_ ?_ | refine KeptRes.cond ?_ ?_ | refine KeptP.cond ?_ ?_ | apply State.failWith_keeps | apply State.forward_keeps | apply State.removeIndex_keeps | refine Kept.foldl ?_ ?_ | intro _ | refine KeptP.foldl ?_ ?_ | refine KeptP.of_eq (by assumption) ?_ | dsimp only | split | dsimp only | refine KeptP.fst ?_ | refine KeptP.mk ?_ | fail_if_no_progress (refine Kept.upd ?_ (by rfl) (by intro p hp; cases p <;> first | rfl | exact (Kept.no hm hp (by decide)).elim)))
theorem execVecQuery_keeps {m : Nat} {r : State} (entry : Nat) (s : State) (hm : Nat.land 2359312 m = 2359312) (h : Kept m r s) : KeptRes m r (execVecQuery entry s) := by
  unfold execVecQuery
  with_reducible repeat' (first | assumption | exact Kept.sub hm rfl | exact Kept.refl _ _ | refine KeptRes.next ?_ | refine Kept.cond ?_ ?_ | refine KeptRes.cond ?_ ?_ | refine KeptP.cond ?_ ?_ | apply State.dispatch_keeps | apply State.finish_keeps | refine Kept.foldl ?_ ?_ | intro _ | refine KeptP.foldl ?_ ?_ | refine KeptP.of_eq (by assumption) ?_ | dsimp only | split | dsimp only | refine KeptP.fst ?_ | refine KeptP.mk ?_ | fail_if_no_progress (refine Kept.upd ?_ (by rfl) (by intro p hp; cases p <;> first | rfl | exact (Kept.no hm hp (by decide)).elim)))
theorem State.startWalk_keeps {m : Nat} {r : State} (s : State) (x : Walk) (hm : Nat.land 4196370 m = 4196370) (h : Kept m r s) : Kept m r (State.startWalk s x) := by
  unfold State.startWalk
  with_reducible repeat' (first | assumption | exact Kept.sub hm rfl | exact Kept.refl _ _ | refine KeptRes.next ?_ | refine Kept.cond ?_ ?_ | refine KeptRes.cond ?_ ?_ | refine KeptP.cond ?_ ?_ | apply State.raise_keeps | apply State.setWalk_keeps | refine Kept.foldl ?_ ?_ | intro _ | refine KeptP.foldl ?_ ?_ | refine KeptP.of_eq (by assumption) ?_ | dsimp only | split | dsimp only | refine KeptP.fst ?_ | refine KeptP.mk ?_ | fail_if_no_progress (refine Kept.upd ?_ (by rfl) (by intro p hp; cases p <;> first | rfl | exact (Kept.no hm hp (by decide)).elim)))
theorem State.placeWalks_keeps {m : Nat} {r : State} (s : State) (hm : Nat.land 2048 m = 2048) (h : Kept m r s) : Kept m r (State.placeWalks s) := by
  unfold State.placeWalks
  with_reducible repeat' (first | assumption | exact Kept.sub hm rfl | exact Kept.refl _ _ | refine KeptRes.next ?_ | refine Kept.cond ?_ ?_ | refine KeptRes.cond ?_ ?_ | refine KeptP.cond ?_ ?_ | apply State.setWalk_keeps | refine Kept.foldl ?_ ?_ | intro _ | refine KeptP.foldl ?_ ?_ | refine KeptP.of_eq (by assumption) ?_ | dsimp only | split | dsimp only | refine KeptP.fst ?_ | refine KeptP.mk ?_ | fail_if_no_progress (refine Kept.upd ?_ (by rfl) (by intro p hp; cases p <;> first | rfl | exact (Kept.no hm hp (by decide)).elim)))
theorem State.walkHere_keeps {m : Nat} {r : State} (s : State) (entry : Nat) (e : Entry) (d : List Byte) (q : Nat) (mirror : Bool) (hm : Nat.land 6555666 m = 6555666) (h : Kept m r s) : Kept m r (State.walkHere s entry e d q mirror) := by
  unfold State.walkHere
  with_reducible repeat' (first | assumption | exact Kept.sub hm rfl | exact Kept.refl _ _ | refine KeptRes.next ?_ | refine Kept.cond ?_ ?_ | refine KeptRes.cond ?_ ?_ | refine KeptP.cond ?_ ?_ | apply State.localItem_keeps | apply State.startWalk_keeps | refine Kept.foldl ?_ ?_ | intro _ | refine KeptP.foldl ?_ ?_ | refine KeptP.of_eq (by assumption) ?_ | dsimp only | split | dsimp only | refine KeptP.fst ?_ | refine KeptP.mk ?_ | fail_if_no_progress (refine Kept.upd ?_ (by rfl) (by intro p hp; cases p <;> first | rfl | exact (Kept.no hm hp (by decide)).elim)))
theorem State.issueWalk_keeps {m : Nat} {r : State} (s : State) (entry : Nat) (x2 : Nat) (e : Entry) (d : List Byte) (q : Nat) (mirror : Bool) (hm : Nat.land 6555666 m = 6555666) (h : Kept m r s) : Kept m r (State.issueWalk s entry x2 e d q mirror) := by
  unfold State.issueWalk
  with_reducible repeat' (first | assumption | exact Kept.sub hm rfl | exact Kept.refl _ _ | refine KeptRes.next ?_ | refine Kept.cond ?_ ?_ | refine KeptRes.cond ?_ ?_ | refine KeptP.cond ?_ ?_ | apply State.sendItem_keeps | apply State.walkHere_keeps | refine Kept.foldl ?_ ?_ | intro _ | refine KeptP.foldl ?_ ?_ | refine KeptP.of_eq (by assumption) ?_ | dsimp only | split | dsimp only | refine KeptP.fst ?_ | refine KeptP.mk ?_ | fail_if_no_progress (refine Kept.upd ?_ (by rfl) (by intro p hp; cases p <;> first | rfl | exact (Kept.no hm hp (by decide)).elim)))
theorem State.walkPart_keeps {m : Nat} {r : State} (s : State) (entry : Nat) (e : Entry) (d : List Byte) (q : Nat) (hm : Nat.land 6555666 m = 6555666) (h : Kept m r s) : Kept m r (State.walkPart s entry e d q) := by
  unfold State.walkPart
  with_reducible repeat' (first | assumption | exact Kept.sub hm rfl | exact Kept.refl _ _ | refine KeptRes.next ?_ | refine Kept.cond ?_ ?_ | refine KeptRes.cond ?_ ?_ | refine KeptP.cond ?_ ?_ | apply State.issueWalk_keeps | apply State.linkTwins_keeps | refine Kept.foldl ?_ ?_ | intro _ | refine KeptP.foldl ?_ ?_ | refine KeptP.of_eq (by assumption) ?_ | dsimp only | split | dsimp only | refine KeptP.fst ?_ | refine KeptP.mk ?_ | fail_if_no_progress (refine Kept.upd ?_ (by rfl) (by intro p hp; cases p <;> first | rfl | exact (Kept.no hm hp (by decide)).elim)))
theorem State.startSearch_keeps {m : Nat} {r : State} (s : State) (entry : Nat) (e : Entry) (d : List Byte) (hm : Nat.land 6555666 m = 6555666) (h : Kept m r s) : Kept m r (State.startSearch s entry e d) := by
  unfold State.startSearch
  with_reducible repeat' (first | assumption | exact Kept.sub hm rfl | exact Kept.refl _ _ | refine KeptRes.next ?_ | refine Kept.cond ?_ ?_ | refine KeptRes.cond ?_ ?_ | refine KeptP.cond ?_ ?_ | apply State.modEntry_keeps | apply State.walkHere_keeps | apply State.walkPart_keeps | refine Kept.foldl ?_ ?_ | intro _ | refine KeptP.foldl ?_ ?_ | refine KeptP.of_eq (by assumption) ?_ | dsimp only | split | dsimp only | refine KeptP.fst ?_ | refine KeptP.mk ?_ | fail_if_no_progress (refine Kept.upd ?_ (by rfl) (by intro p hp; cases p <;> first | rfl | exact (Kept.no hm hp (by decide)).elim)))
theorem State.clearWalks_keeps {m : Nat} {r : State} (s : State) (entry : Nat) (hm : Nat.land 2048 m = 2048) (h : Kept m r s) : Kept m r (State.clearWalks s entry) := by
  unfold State.clearWalks
  with_reducible repeat' (first | assumption | exact Kept.sub hm rfl | exact Kept.refl _ _ | refine KeptRes.next ?_ | refine Kept.cond ?_ ?_ | refine KeptRes.cond ?_ ?_ | refine KeptP.cond ?_ ?_ | refine Kept.foldl ?_ ?_ | intro _ | refine KeptP.foldl ?_ ?_ | refine KeptP.of_eq (by assumption) ?_ | dsimp only | split | dsimp only | refine KeptP.fst ?_ | refine KeptP.mk ?_ | fail_if_no_progress (refine Kept.upd ?_ (by rfl) (by intro p hp; cases p <;> first | rfl | exact (Kept.no hm hp (by decide)).elim)))
theorem State.endSearch_keeps {m : Nat} {r : State} (s : State) (entry : Nat) (e : Entry) (d : List Byte) (hm : Nat.land 16777114 m = 16777114) (h : Kept m r s) : Kept m r (State.endSearch s entry e d) := by
  unfold State.endSearch
  with_reducible repeat' (first | assumption | exact Kept.sub hm rfl | exact Kept.refl _ _ | refine KeptRes.next ?_ | refine Kept.cond ?_ ?_ | refine KeptRes.cond ?_ ?_ | refine KeptP.cond ?_ ?_ | apply State.clearWalks_keeps | apply State.collectFlags_keeps | apply State.conclude_keeps | apply State.count_keeps | apply State.modEntry_keeps | apply State.sendOutput_keeps | refine Kept.foldl ?_ ?_ | intro _ | refine KeptP.foldl ?_ ?_ | refine KeptP.of_eq (by assumption) ?_ | dsimp only | split | dsimp only | refine KeptP.fst ?_ | refine KeptP.mk ?_ | fail_if_no_progress (refine Kept.upd ?_ (by rfl) (by intro p hp; cases p <;> first | rfl | exact (Kept.no hm hp (by decide)).elim)))
theorem State.returnWalk_keeps {m : Nat} {r : State} (s : State) (entry : Nat) (hm : Nat.land 2099200 m = 2099200) (h : Kept m r s) : Kept m r (State.returnWalk s entry) := by
  unfold State.returnWalk
  with_reducible repeat' (first | assumption | exact Kept.sub hm rfl | exact Kept.refl _ _ | refine KeptRes.next ?_ | refine Kept.cond ?_ ?_ | refine KeptRes.cond ?_ ?_ | refine KeptP.cond ?_ ?_ | apply State.clearWalks_keeps | apply State.conclude_keeps | apply State.modEntry_keeps | refine Kept.foldl ?_ ?_ | intro _ | refine KeptP.foldl ?_ ?_ | refine KeptP.of_eq (by assumption) ?_ | dsimp only | split | dsimp only | refine KeptP.fst ?_ | refine KeptP.mk ?_ | fail_if_no_progress (refine Kept.upd ?_ (by rfl) (by intro p hp; cases p <;> first | rfl | exact (Kept.no hm hp (by decide)).elim)))
theorem State.dropLosers_keeps {m : Nat} {r : State} (s : State) (entry : Nat) (e : Entry) (hm : Nat.land 2099200 m = 2099200) (h : Kept m r s) : Kept m r (State.dropLosers s entry e) := by
  unfold State.dropLosers
  with_reducible repeat' (first | assumption | exact Kept.sub hm rfl | exact Kept.refl _ _ | refine KeptRes.next ?_ | refine Kept.cond ?_ ?_ | refine KeptRes.cond ?_ ?_ | refine KeptP.cond ?_ ?_ | apply State.modEntry_keeps | refine Kept.foldl ?_ ?_ | intro _ | refine KeptP.foldl ?_ ?_ | refine KeptP.of_eq (by assumption) ?_ | dsimp only | split | dsimp only | refine KeptP.fst ?_ | refine KeptP.mk ?_ | fail_if_no_progress (refine Kept.upd ?_ (by rfl) (by intro p hp; cases p <;> first | rfl | exact (Kept.no hm hp (by decide)).elim)))
theorem State.mergeSearch_keeps {m : Nat} {r : State} (s : State) (entry : Nat) (hm : Nat.land 16777114 m = 16777114) (h : Kept m r s) : Kept m r (State.mergeSearch s entry) := by
  unfold State.mergeSearch
  with_reducible repeat' (first | assumption | exact Kept.sub hm rfl | exact Kept.refl _ _ | refine KeptRes.next ?_ | refine Kept.cond ?_ ?_ | refine KeptRes.cond ?_ ?_ | refine KeptP.cond ?_ ?_ | apply State.dropLosers_keeps | apply State.endSearch_keeps | apply State.placeWalks_keeps | apply State.returnWalk_keeps | refine Kept.foldl ?_ ?_ | intro _ | refine KeptP.foldl ?_ ?_ | refine KeptP.of_eq (by assumption) ?_ | dsimp only | split | dsimp only | refine KeptP.fst ?_ | refine KeptP.mk ?_ | fail_if_no_progress (refine Kept.upd ?_ (by rfl) (by intro p hp; cases p <;> first | rfl | exact (Kept.no hm hp (by decide)).elim)))
theorem execVecSearch_keeps {m : Nat} {r : State} (entry : Nat) (s : State) (hm : Nat.land 16777114 m = 16777114) (h : Kept m r s) : KeptRes m r (execVecSearch entry s) := by
  unfold execVecSearch
  with_reducible repeat' (first | assumption | exact Kept.sub hm rfl | exact Kept.refl _ _ | refine KeptRes.next ?_ | refine Kept.cond ?_ ?_ | refine KeptRes.cond ?_ ?_ | refine KeptP.cond ?_ ?_ | apply State.failWith_keeps | apply State.mergeSearch_keeps | apply State.startSearch_keeps | refine Kept.foldl ?_ ?_ | intro _ | refine KeptP.foldl ?_ ?_ | refine KeptP.of_eq (by assumption) ?_ | dsimp only | split | dsimp only | refine KeptP.fst ?_ | refine KeptP.mk ?_ | fail_if_no_progress (refine Kept.upd ?_ (by rfl) (by intro p hp; cases p <;> first | rfl | exact (Kept.no hm hp (by decide)).elim)))
theorem State.addClaim_keeps {m : Nat} {r : State} (s : State) (c : VecClaim) (hm : Nat.land 2048 m = 2048) (h : Kept m r s) : Kept m r (State.addClaim s c) := by
  unfold State.addClaim
  with_reducible repeat' (first | assumption | exact Kept.sub hm rfl | exact Kept.refl _ _ | refine KeptRes.next ?_ | refine Kept.cond ?_ ?_ | refine KeptRes.cond ?_ ?_ | refine KeptP.cond ?_ ?_ | refine Kept.foldl ?_ ?_ | intro _ | refine KeptP.foldl ?_ ?_ | refine KeptP.of_eq (by assumption) ?_ | dsimp only | split | dsimp only | refine KeptP.fst ?_ | refine KeptP.mk ?_ | fail_if_no_progress (refine Kept.upd ?_ (by rfl) (by intro p hp; cases p <;> first | rfl | exact (Kept.no hm hp (by decide)).elim)))
theorem State.dropClaims_keeps {m : Nat} {r : State} (s : State) (owner : Nat) (node : Nat) (hm : Nat.land 2048 m = 2048) (h : Kept m r s) : Kept m r (State.dropClaims s owner node) := by
  unfold State.dropClaims
  with_reducible repeat' (first | assumption | exact Kept.sub hm rfl | exact Kept.refl _ _ | refine KeptRes.next ?_ | refine Kept.cond ?_ ?_ | refine KeptRes.cond ?_ ?_ | refine KeptP.cond ?_ ?_ | refine Kept.foldl ?_ ?_ | intro _ | refine KeptP.foldl ?_ ?_ | refine KeptP.of_eq (by assumption) ?_ | dsimp only | split | dsimp only | refine KeptP.fst ?_ | refine KeptP.mk ?_ | fail_if_no_progress (refine Kept.upd ?_ (by rfl) (by intro p hp; cases p <;> first | rfl | exact (Kept.no hm hp (by decide)).elim)))
theorem State.claimNode_keeps {m : Nat} {r : State} (s : State) (owner : Nat) (e : Entry) (d : List Byte) (hm : Nat.land 16648466 m = 16648466) (h : Kept m r s) : Kept m r (State.claimNode s owner e d) := by
  unfold State.claimNode
  with_reducible repeat' (first | assumption | exact Kept.sub hm rfl | exact Kept.refl _ _ | refine KeptRes.next ?_ | refine Kept.cond ?_ ?_ | refine KeptRes.cond ?_ ?_ | refine KeptP.cond ?_ ?_ | apply State.addClaim_keeps | apply State.setWords_keeps | refine Kept.foldl ?_ ?_ | intro _ | refine KeptP.foldl ?_ ?_ | refine KeptP.of_eq (by assumption) ?_ | dsimp only | split | dsimp only | refine KeptP.fst ?_ | refine KeptP.mk ?_ | fail_if_no_progress (refine Kept.upd ?_ (by rfl) (by intro p hp; cases p <;> first | rfl | exact (Kept.no hm hp (by decide)).elim)))
theorem State.claimAt_keeps {m : Nat} {r : State} (s : State) (entry : Nat) (owner : Nat) (e : Entry) (d : List Byte) (x5 : List (Nat × Nat)) (hm : Nat.land 16771474 m = 16771474) (h : Kept m r s) : KeptP m r (State.claimAt s entry owner e d x5) := by
  unfold State.claimAt
  with_reducible repeat' (first | assumption | exact Kept.sub hm rfl | exact Kept.refl _ _ | refine KeptRes.next ?_ | refine Kept.cond ?_ ?_ | refine KeptRes.cond ?_ ?_ | refine KeptP.cond ?_ ?_ | apply State.claimNode_keeps | apply State.failWith_keeps | apply State.prepareRanges_keeps | apply State.readRanges_keeps | refine Kept.foldl ?_ ?_ | intro _ | refine KeptP.foldl ?_ ?_ | refine KeptP.of_eq (by assumption) ?_ | dsimp only | split | dsimp only | refine KeptP.fst ?_ | refine KeptP.mk ?_ | fail_if_no_progress (refine Kept.upd ?_ (by rfl) (by intro p hp; cases p <;> first | rfl | exact (Kept.no hm hp (by decide)).elim)))
theorem State.tryClaim_keeps {m : Nat} {r : State} (s : State) (entry : Nat) (owner : Nat) (e : Entry) (d : List Byte) (hm : Nat.land 16771474 m = 16771474) (h : Kept m r s) : KeptP m r (State.tryClaim s entry owner e d) := by
  unfold State.tryClaim
  with_reducible repeat' (first | assumption | exact Kept.sub hm rfl | exact Kept.refl _ _ | refine KeptRes.next ?_ | refine Kept.cond ?_ ?_ | refine KeptRes.cond ?_ ?_ | refine KeptP.cond ?_ ?_ | apply State.claimAt_keeps | refine Kept.foldl ?_ ?_ | intro _ | refine KeptP.foldl ?_ ?_ | refine KeptP.of_eq (by assumption) ?_ | dsimp only | split | dsimp only | refine KeptP.fst ?_ | refine KeptP.mk ?_ | fail_if_no_progress (refine Kept.upd ?_ (by rfl) (by intro p hp; cases p <;> first | rfl | exact (Kept.no hm hp (by decide)).elim)))
theorem State.beginInsert_keeps {m : Nat} {r : State} (entry : Nat) (e : Entry) (d : List Byte) (s : State) (hm : Nat.land 6555666 m = 6555666) (h : Kept m r s) : Kept m r (State.beginInsert entry e d s) := by
  unfold State.beginInsert
  with_reducible repeat' (first | assumption | exact Kept.sub hm rfl | exact Kept.refl _ _ | refine KeptRes.next ?_ | refine Kept.cond ?_ ?_ | refine KeptRes.cond ?_ ?_ | refine KeptP.cond ?_ ?_ | apply State.conclude_keeps | apply State.localItem_keeps | apply State.modEntry_keeps | apply State.startWalk_keeps | refine Kept.foldl ?_ ?_ | intro _ | refine KeptP.foldl ?_ ?_ | refine KeptP.of_eq (by assumption) ?_ | dsimp only | split | dsimp only | refine KeptP.fst ?_ | refine KeptP.mk ?_ | fail_if_no_progress (refine Kept.upd ?_ (by rfl) (by intro p hp; cases p <;> first | rfl | exact (Kept.no hm hp (by decide)).elim)))
theorem State.backEdge_keeps {m : Nat} {r : State} (s : State) (d : List Byte) (i : Nat) (part : Nat) (v : Nat) (n : Nat) (hm : Nat.land 16648466 m = 16648466) (h : Kept m r s) : KeptP m r (State.backEdge s d i part v n) := by
  unfold State.backEdge
  with_reducible repeat' (first | assumption | exact Kept.sub hm rfl | exact Kept.refl _ _ | refine KeptRes.next ?_ | refine Kept.cond ?_ ?_ | refine KeptRes.cond ?_ ?_ | refine KeptP.cond ?_ ?_ | apply State.logBackEdge_keeps | apply State.repairNode_keeps | refine Kept.foldl ?_ ?_ | intro _ | refine KeptP.foldl ?_ ?_ | refine KeptP.of_eq (by assumption) ?_ | dsimp only | split | dsimp only | refine KeptP.fst ?_ | refine KeptP.mk ?_ | fail_if_no_progress (refine Kept.upd ?_ (by rfl) (by intro p hp; cases p <;> first | rfl | exact (Kept.no hm hp (by decide)).elim)))
theorem State.backEdgeFor_keeps {m : Nat} {r : State} (s : State) (entry : Nat) (e : Entry) (d : List Byte) (v : Nat) (hm : Nat.land 16771474 m = 16771474) (h : Kept m r s) : Kept m r (State.backEdgeFor s entry e d v) := by
  unfold State.backEdgeFor
  with_reducible repeat' (first | assumption | exact Kept.sub hm rfl | exact Kept.refl _ _ | refine KeptRes.next ?_ | refine Kept.cond ?_ ?_ | refine KeptRes.cond ?_ ?_ | refine KeptP.cond ?_ ?_ | apply State.backEdge_keeps | apply State.conclude_keeps | apply State.prepareRanges_keeps | refine Kept.foldl ?_ ?_ | intro _ | refine KeptP.foldl ?_ ?_ | refine KeptP.of_eq (by assumption) ?_ | dsimp only | split | dsimp only | refine KeptP.fst ?_ | refine KeptP.mk ?_ | fail_if_no_progress (refine Kept.upd ?_ (by rfl) (by intro p hp; cases p <;> first | rfl | exact (Kept.no hm hp (by decide)).elim)))
theorem State.insertFor_keeps {m : Nat} {r : State} (s : State) (entry : Nat) (e : Entry) (d : List Byte) (hm : Nat.land 16771474 m = 16771474) (h : Kept m r s) : Kept m r (State.insertFor s entry e d) := by
  unfold State.insertFor
  with_reducible repeat' (first | assumption | exact Kept.sub hm rfl | exact Kept.refl _ _ | refine KeptRes.next ?_ | refine Kept.cond ?_ ?_ | refine KeptRes.cond ?_ ?_ | refine KeptP.cond ?_ ?_ | apply State.backEdgeFor_keeps | apply State.conclude_keeps | apply State.dropClaims_keeps | apply State.releaseClaim_keeps | apply State.tryClaim_keeps | refine Kept.foldl ?_ ?_ | intro _ | refine KeptP.foldl ?_ ?_ | refine KeptP.of_eq (by assumption) ?_ | dsimp only | split | dsimp only | refine KeptP.fst ?_ | refine KeptP.mk ?_ | fail_if_no_progress (refine Kept.upd ?_ (by rfl) (by intro p hp; cases p <;> first | rfl | exact (Kept.no hm hp (by decide)).elim)))
theorem execVecInsert_keeps {m : Nat} {r : State} (entry : Nat) (s : State) (hm : Nat.land 16771474 m = 16771474) (h : Kept m r s) : KeptRes m r (execVecInsert entry s) := by
  unfold execVecInsert
  with_reducible repeat' (first | assumption | exact Kept.sub hm rfl | exact Kept.refl _ _ | refine KeptRes.next ?_ | refine Kept.cond ?_ ?_ | refine KeptRes.cond ?_ ?_ | refine KeptP.cond ?_ ?_ | apply State.addClaim_keeps | apply State.beginInsert_keeps | apply State.conclude_keeps | apply State.dropClaims_keeps | apply State.failWith_keeps | apply State.forward_keeps | apply State.insertFor_keeps | apply State.modEntry_keeps | apply State.sendStage_keeps | apply State.tryClaim_keeps | refine Kept.foldl ?_ ?_ | intro _ | refine KeptP.foldl ?_ ?_ | refine KeptP.of_eq (by assumption) ?_ | dsimp only | split | dsimp only | refine KeptP.fst ?_ | refine KeptP.mk ?_ | fail_if_no_progress (refine Kept.upd ?_ (by rfl) (by intro p hp; cases p <;> first | rfl | exact (Kept.no hm hp (by decide)).elim)))
theorem State.writeAll_keeps {m : Nat} {r : State} (s : State) (a1 : List (Nat × List Byte)) (hm : Nat.land 16648466 m = 16648466) (h : Kept m r s) : KeptP m r (State.writeAll s a1) := by
  induction a1 generalizing s with
  | nil =>
    unfold State.writeAll
    with_reducible repeat' (first | assumption | exact Kept.sub hm rfl | exact Kept.refl _ _ | refine KeptRes.next ?_ | refine Kept.cond ?_ ?_ | refine KeptRes.cond ?_ ?_ | refine KeptP.cond ?_ ?_ | apply ih | apply State.accessPages_keeps | apply State.writeStore_keeps | refine Kept.foldl ?_ ?_ | intro _ | refine KeptP.foldl ?_ ?_ | refine KeptP.of_eq (by assumption) ?_ | dsimp only | split | dsimp only | refine KeptP.fst ?_ | refine KeptP.mk ?_ | fail_if_no_progress (refine Kept.upd ?_ (by rfl) (by intro p hp; cases p <;> first | rfl | exact (Kept.no hm hp (by decide)).elim)))
  | cons a l ih =>
    unfold State.writeAll
    with_reducible repeat' (first | assumption | exact Kept.sub hm rfl | exact Kept.refl _ _ | refine KeptRes.next ?_ | refine Kept.cond ?_ ?_ | refine KeptRes.cond ?_ ?_ | refine KeptP.cond ?_ ?_ | apply ih | apply State.accessPages_keeps | apply State.writeStore_keeps | refine Kept.foldl ?_ ?_ | intro _ | refine KeptP.foldl ?_ ?_ | refine KeptP.of_eq (by assumption) ?_ | dsimp only | split | dsimp only | refine KeptP.fst ?_ | refine KeptP.mk ?_ | fail_if_no_progress (refine Kept.upd ?_ (by rfl) (by intro p hp; cases p <;> first | rfl | exact (Kept.no hm hp (by decide)).elim)))
theorem State.undoInsert_keeps {m : Nat} {r : State} (s : State) (entry : Nat) (x : Walk) (st : Nat) (absent : Nat) (hm : Nat.land 10749968 m = 10749968) (h : Kept m r s) : Kept m r (State.undoInsert s entry x st absent) := by
  unfold State.undoInsert
  with_reducible repeat' (first | assumption | exact Kept.sub hm rfl | exact Kept.refl _ _ | refine KeptRes.next ?_ | refine Kept.cond ?_ ?_ | refine KeptRes.cond ?_ ?_ | refine KeptP.cond ?_ ?_ | apply State.answerItem_keeps | apply State.dropWalks_keeps | apply State.modEntry_keeps | apply State.placeWalks_keeps | refine Kept.foldl ?_ ?_ | intro _ | refine KeptP.foldl ?_ ?_ | refine KeptP.of_eq (by assumption) ?_ | dsimp only | split | dsimp only | refine KeptP.fst ?_ | refine KeptP.mk ?_ | fail_if_no_progress (refine Kept.upd ?_ (by rfl) (by intro p hp; cases p <;> first | rfl | exact (Kept.no hm hp (by decide)).elim)))
theorem State.endInsert_keeps {m : Nat} {r : State} (s : State) (entry : Nat) (w : Nat) (x : Walk) (st : Nat) (sub : Nat) (hm : Nat.land 2361360 m = 2361360) (h : Kept m r s) : Kept m r (State.endInsert s entry w x st sub) := by
  unfold State.endInsert
  with_reducible repeat' (first | assumption | exact Kept.sub hm rfl | exact Kept.refl _ _ | refine KeptRes.next ?_ | refine Kept.cond ?_ ?_ | refine KeptRes.cond ?_ ?_ | refine KeptP.cond ?_ ?_ | apply State.answerItem_keeps | apply State.placeWalks_keeps | refine Kept.foldl ?_ ?_ | intro _ | refine KeptP.foldl ?_ ?_ | refine KeptP.of_eq (by assumption) ?_ | dsimp only | split | dsimp only | refine KeptP.fst ?_ | refine KeptP.mk ?_ | fail_if_no_progress (refine Kept.upd ?_ (by rfl) (by intro p hp; cases p <;> first | rfl | exact (Kept.no hm hp (by decide)).elim)))
theorem State.commitNode_keeps {m : Nat} {r : State} (s : State) (entry : Nat) (w : Nat) (e : Entry) (d : List Byte) (x : Walk) (hm : Nat.land 16648466 m = 16648466) (h : Kept m r s) : Kept m r (State.commitNode s entry w e d x) := by
  unfold State.commitNode
  with_reducible repeat' (first | assumption | exact Kept.sub hm rfl | exact Kept.refl _ _ | refine KeptRes.next ?_ | refine Kept.cond ?_ ?_ | refine KeptRes.cond ?_ ?_ | refine KeptP.cond ?_ ?_ | apply State.backEdge_keeps | apply State.dropClaims_keeps | apply State.endInsert_keeps | apply State.modEntry_keeps | apply State.sendStage_keeps | apply State.setWords_keeps | refine Kept.foldl ?_ ?_ | intro _ | refine KeptP.foldl ?_ ?_ | refine KeptP.of_eq (by assumption) ?_ | dsimp only | split | dsimp only | refine KeptP.fst ?_ | refine KeptP.mk ?_ | fail_if_no_progress (refine Kept.upd ?_ (by rfl) (by intro p hp; cases p <;> first | rfl | exact (Kept.no hm hp (by decide)).elim)))
theorem State.publishInsert_keeps {m : Nat} {r : State} (s : State) (entry : Nat) (w : Nat) (d : List Byte) (x : Walk) (hm : Nat.land 16771474 m = 16771474) (h : Kept m r s) : Kept m r (State.publishInsert s entry w d x) := by
  unfold State.publishInsert
  with_reducible repeat' (first | assumption | exact Kept.sub hm rfl | exact Kept.refl _ _ | refine KeptRes.next ?_ | refine Kept.cond ?_ ?_ | refine KeptRes.cond ?_ ?_ | refine KeptP.cond ?_ ?_ | apply State.commitNode_keeps | apply State.prepareRanges_keeps | apply State.undoInsert_keeps | refine Kept.foldl ?_ ?_ | intro _ | refine KeptP.foldl ?_ ?_ | refine KeptP.of_eq (by assumption) ?_ | dsimp only | split | dsimp only | refine KeptP.fst ?_ | refine KeptP.mk ?_ | fail_if_no_progress (refine Kept.upd ?_ (by rfl) (by intro p hp; cases p <;> first | rfl | exact (Kept.no hm hp (by decide)).elim)))
theorem State.commitInsert_keeps {m : Nat} {r : State} (s : State) (entry : Nat) (w : Nat) (e : Entry) (d : List Byte) (x : Walk) (hm : Nat.land 16771474 m = 16771474) (h : Kept m r s) : Kept m r (State.commitInsert s entry w e d x) := by
  unfold State.commitInsert
  with_reducible repeat' (first | assumption | exact Kept.sub hm rfl | exact Kept.refl _ _ | refine KeptRes.next ?_ | refine Kept.cond ?_ ?_ | refine KeptRes.cond ?_ ?_ | refine KeptP.cond ?_ ?_ | apply State.modEntry_keeps | apply State.prepareRanges_keeps | apply State.publishInsert_keeps | apply State.undoInsert_keeps | apply State.writeAll_keeps | refine Kept.foldl ?_ ?_ | intro _ | refine KeptP.foldl ?_ ?_ | refine KeptP.of_eq (by assumption) ?_ | dsimp only | split | dsimp only | refine KeptP.fst ?_ | refine KeptP.mk ?_ | fail_if_no_progress (refine Kept.upd ?_ (by rfl) (by intro p hp; cases p <;> first | rfl | exact (Kept.no hm hp (by decide)).elim)))
theorem State.walkOn_keeps {m : Nat} {r : State} (s : State) (d : List Byte) (x : Walk) (hm : Nat.land 16648466 m = 16648466) (h : Kept m r s) : KeptP m r (State.walkOn s d x) := by
  unfold State.walkOn
  split
  · have k := State.walkStep_keeps (m := m) { s with store := { s.store with mem := s.store.mirrorMem, grans := s.store.mirrorGrans } } d x (Kept.sub hm rfl) (Kept.refl _ _)
    generalize State.walkStep { s with store := { s.store with mem := s.store.mirrorMem, grans := s.store.mirrorGrans } } d x = y at k ⊢
    obtain ⟨t, y⟩ := y
    have k := k.fst
    exact KeptP.mk (h.trans ⟨⟨k.keeps.pending, k.keeps.out, id, k.keeps.regs⟩, by
      intro p hp
      have f := k.frame p hp
      cases p <;> first | exact f | rfl | exact (Kept.no hm hp (by decide)).elim⟩)
  · exact State.walkStep_keeps _ _ _ (Kept.sub hm rfl) h
theorem State.walkReady_keeps {m : Nat} {r : State} (s : State) (d : List Byte) (x : Walk) (hm : Nat.land 16771474 m = 16771474) (h : Kept m r s) : KeptP m r (State.walkReady s d x) := by
  unfold State.walkReady
  with_reducible repeat' (first | assumption | exact Kept.sub hm rfl | exact Kept.refl _ _ | refine KeptRes.next ?_ | refine Kept.cond ?_ ?_ | refine KeptRes.cond ?_ ?_ | refine KeptP.cond ?_ ?_ | apply State.modEntry_keeps | apply State.prepareRanges_keeps | refine Kept.foldl ?_ ?_ | intro _ | refine KeptP.foldl ?_ ?_ | refine KeptP.of_eq (by assumption) ?_ | dsimp only | split | dsimp only | refine KeptP.fst ?_ | refine KeptP.mk ?_ | fail_if_no_progress (refine Kept.upd ?_ (by rfl) (by intro p hp; cases p <;> first | rfl | exact (Kept.no hm hp (by decide)).elim)))
theorem State.walkEnded_keeps {m : Nat} {r : State} (s : State) (walk : Nat) (e : Entry) (d : List Byte) (x : Walk) (hm : Nat.land 16777114 m = 16777114) (h : Kept m r s) : Kept m r (State.walkEnded s walk e d x) := by
  unfold State.walkEnded
  with_reducible repeat' (first | assumption | exact Kept.sub hm rfl | exact Kept.refl _ _ | refine KeptRes.next ?_ | refine Kept.cond ?_ ?_ | refine KeptRes.cond ?_ ?_ | refine KeptP.cond ?_ ?_ | apply State.answerItem_keeps | apply State.commitInsert_keeps | apply State.mergeSearch_keeps | refine Kept.foldl ?_ ?_ | intro _ | refine KeptP.foldl ?_ ?_ | refine KeptP.of_eq (by assumption) ?_ | dsimp only | split | dsimp only | refine KeptP.fst ?_ | refine KeptP.mk ?_ | fail_if_no_progress (refine Kept.upd ?_ (by rfl) (by intro p hp; cases p <;> first | rfl | exact (Kept.no hm hp (by decide)).elim)))
theorem execWalkRound_keeps {m : Nat} {r : State} (walk : Nat) (s : State) (hm : Nat.land 16777114 m = 16777114) (h : Kept m r s) : KeptRes m r (execWalkRound walk s) := by
  unfold execWalkRound
  with_reducible repeat' (first | assumption | exact Kept.sub hm rfl | exact Kept.refl _ _ | refine KeptRes.next ?_ | refine Kept.cond ?_ ?_ | refine KeptRes.cond ?_ ?_ | refine KeptP.cond ?_ ?_ | apply State.dropFetched_keeps | apply State.placeWalks_keeps | apply State.setWalk_keeps | apply State.walkEnded_keeps | apply State.walkOn_keeps | apply State.walkReady_keeps | refine Kept.foldl ?_ ?_ | intro _ | refine KeptP.foldl ?_ ?_ | refine KeptP.of_eq (by assumption) ?_ | dsimp only | split | dsimp only | refine KeptP.fst ?_ | refine KeptP.mk ?_ | fail_if_no_progress (refine Kept.upd ?_ (by rfl) (by intro p hp; cases p <;> first | rfl | exact (Kept.no hm hp (by decide)).elim)))
theorem State.deleteHere_keeps {m : Nat} {r : State} (s : State) (entry : Nat) (d : List Byte) (q : Nat) (nodes : List Nat) (mine : List Nat) (hm : Nat.land 16648466 m = 16648466) (h : Kept m r s) : Kept m r (State.deleteHere s entry d q nodes mine) := by
  unfold State.deleteHere
  with_reducible repeat' (first | assumption | exact Kept.sub hm rfl | exact Kept.refl _ _ | refine KeptRes.next ?_ | refine Kept.cond ?_ ?_ | refine KeptRes.cond ?_ ?_ | refine KeptP.cond ?_ ?_ | apply State.conclude_keeps | apply State.sendParts_keeps | apply State.setWords_keeps | refine Kept.foldl ?_ ?_ | intro _ | refine KeptP.foldl ?_ ?_ | refine KeptP.of_eq (by assumption) ?_ | dsimp only | split | dsimp only | refine KeptP.fst ?_ | refine KeptP.mk ?_ | fail_if_no_progress (refine Kept.upd ?_ (by rfl) (by intro p hp; cases p <;> first | rfl | exact (Kept.no hm hp (by decide)).elim)))
theorem execVecDelete_keeps {m : Nat} {r : State} (entry : Nat) (s : State) (hm : Nat.land 16771474 m = 16771474) (h : Kept m r s) : KeptRes m r (execVecDelete entry s) := by
  unfold execVecDelete
  with_reducible repeat' (first | assumption | exact Kept.sub hm rfl | exact Kept.refl _ _ | refine KeptRes.next ?_ | refine Kept.cond ?_ ?_ | refine KeptRes.cond ?_ ?_ | refine KeptP.cond ?_ ?_ | apply State.deleteHere_keeps | apply State.failWith_keeps | apply State.prepareRanges_keeps | apply State.readRanges_keeps | refine Kept.foldl ?_ ?_ | intro _ | refine KeptP.foldl ?_ ?_ | refine KeptP.of_eq (by assumption) ?_ | dsimp only | split | dsimp only | refine KeptP.fst ?_ | refine KeptP.mk ?_ | fail_if_no_progress (refine Kept.upd ?_ (by rfl) (by intro p hp; cases p <;> first | rfl | exact (Kept.no hm hp (by decide)).elim)))
theorem execVecRepair_keeps {m : Nat} {r : State} (entry : Nat) (s : State) (hm : Nat.land 16648466 m = 16648466) (h : Kept m r s) : KeptRes m r (execVecRepair entry s) := by
  unfold execVecRepair
  with_reducible repeat' (first | assumption | exact Kept.sub hm rfl | exact Kept.refl _ _ | refine KeptRes.next ?_ | refine Kept.cond ?_ ?_ | refine KeptRes.cond ?_ ?_ | refine KeptP.cond ?_ ?_ | apply State.dispatch_keeps | apply State.failWith_keeps | apply State.forward_keeps | apply State.serving_keeps | apply State.startPass_keeps | refine Kept.foldl ?_ ?_ | intro _ | refine KeptP.foldl ?_ ?_ | refine KeptP.of_eq (by assumption) ?_ | dsimp only | split | dsimp only | refine KeptP.fst ?_ | refine KeptP.mk ?_ | fail_if_no_progress (refine Kept.upd ?_ (by rfl) (by intro p hp; cases p <;> first | rfl | exact (Kept.no hm hp (by decide)).elim)))
theorem State.repairAt_keeps {m : Nat} {r : State} (s : State) (index : Nat) (k : Nat) (w : Nat) (used : Nat) (x : VecIndex) (mine : List PendEntry) (hm : Nat.land 16648466 m = 16648466) (h : Kept m r s) : Kept m r (State.repairAt s index k w used x mine) := by
  unfold State.repairAt
  with_reducible repeat' (first | assumption | exact Kept.sub hm rfl | exact Kept.refl _ _ | refine KeptRes.next ?_ | refine Kept.cond ?_ ?_ | refine KeptRes.cond ?_ ?_ | refine KeptP.cond ?_ ?_ | apply State.dropFetched_keeps | apply State.repairNode_keeps | apply State.setVecIndex_keeps | apply State.writeLog_keeps | refine Kept.foldl ?_ ?_ | intro _ | refine KeptP.foldl ?_ ?_ | refine KeptP.of_eq (by assumption) ?_ | dsimp only | split | dsimp only | refine KeptP.fst ?_ | refine KeptP.mk ?_ | fail_if_no_progress (refine Kept.upd ?_ (by rfl) (by intro p hp; cases p <;> first | rfl | exact (Kept.no hm hp (by decide)).elim)))
theorem execVecRepairNodeStart_keeps {m : Nat} {r : State} (index : Nat) (s : State) (hm : Nat.land 16771474 m = 16771474) (h : Kept m r s) : KeptRes m r (execVecRepairNodeStart index s) := by
  unfold execVecRepairNodeStart
  with_reducible repeat' (first | assumption | exact Kept.sub hm rfl | exact Kept.refl _ _ | refine KeptRes.next ?_ | refine Kept.cond ?_ ?_ | refine KeptRes.cond ?_ ?_ | refine KeptP.cond ?_ ?_ | apply State.prepareRanges_keeps | apply State.repairAt_keeps | apply State.setVecIndex_keeps | refine Kept.foldl ?_ ?_ | intro _ | refine KeptP.foldl ?_ ?_ | refine KeptP.of_eq (by assumption) ?_ | dsimp only | split | dsimp only | refine KeptP.fst ?_ | refine KeptP.mk ?_ | fail_if_no_progress (refine Kept.upd ?_ (by rfl) (by intro p hp; cases p <;> first | rfl | exact (Kept.no hm hp (by decide)).elim)))
theorem State.replaceEntries_keeps {m : Nat} {r : State} (s : State) (d : List Byte) (hm : Nat.land 16648466 m = 16648466) (h : Kept m r s) : Kept m r (State.replaceEntries s d) := by
  unfold State.replaceEntries
  with_reducible repeat' (first | assumption | exact Kept.sub hm rfl | exact Kept.refl _ _ | refine KeptRes.next ?_ | refine Kept.cond ?_ ?_ | refine KeptRes.cond ?_ ?_ | refine KeptP.cond ?_ ?_ | apply State.storeBytes_keeps | refine Kept.foldl ?_ ?_ | intro _ | refine KeptP.foldl ?_ ?_ | refine KeptP.of_eq (by assumption) ?_ | dsimp only | split | dsimp only | refine KeptP.fst ?_ | refine KeptP.mk ?_ | fail_if_no_progress (refine Kept.upd ?_ (by rfl) (by intro p hp; cases p <;> first | rfl | exact (Kept.no hm hp (by decide)).elim)))
theorem State.passEnded_keeps {m : Nat} {r : State} (s : State) (index : Nat) (x : VecIndex) (hm : Nat.land 16648466 m = 16648466) (h : Kept m r s) : Kept m r (State.passEnded s index x) := by
  unfold State.passEnded
  with_reducible repeat' (first | assumption | exact Kept.sub hm rfl | exact Kept.refl _ _ | refine KeptRes.next ?_ | refine Kept.cond ?_ ?_ | refine KeptRes.cond ?_ ?_ | refine KeptP.cond ?_ ?_ | apply State.changeWords_keeps | apply State.dropFetched_keeps | apply State.raise_keeps | apply State.setVecIndex_keeps | refine Kept.foldl ?_ ?_ | intro _ | refine KeptP.foldl ?_ ?_ | refine KeptP.of_eq (by assumption) ?_ | dsimp only | split | dsimp only | refine KeptP.fst ?_ | refine KeptP.mk ?_ | fail_if_no_progress (refine Kept.upd ?_ (by rfl) (by intro p hp; cases p <;> first | rfl | exact (Kept.no hm hp (by decide)).elim)))
theorem execVecPassEnd_keeps {m : Nat} {r : State} (index : Nat) (s : State) (hm : Nat.land 16771474 m = 16771474) (h : Kept m r s) : KeptRes m r (execVecPassEnd index s) := by
  unfold execVecPassEnd
  with_reducible repeat' (first | assumption | exact Kept.sub hm rfl | exact Kept.refl _ _ | refine KeptRes.next ?_ | refine Kept.cond ?_ ?_ | refine KeptRes.cond ?_ ?_ | refine KeptP.cond ?_ ?_ | apply State.passEnded_keeps | apply State.prepareRanges_keeps | apply State.readRanges_keeps | apply State.replaceEntries_keeps | apply State.serving_keeps | refine Kept.foldl ?_ ?_ | intro _ | refine KeptP.foldl ?_ ?_ | refine KeptP.of_eq (by assumption) ?_ | dsimp only | split | dsimp only | refine KeptP.fst ?_ | refine KeptP.mk ?_ | fail_if_no_progress (refine Kept.upd ?_ (by rfl) (by intro p hp; cases p <;> first | rfl | exact (Kept.no hm hp (by decide)).elim)))
theorem execCeStorm_keeps {m : Nat} {r : State} (key : Nat) (s : State) (hm : Nat.land 8260114 m = 8260114) (h : Kept m r s) : KeptRes m r (execCeStorm key s) := by
  unfold execCeStorm
  with_reducible repeat' (first | assumption | exact Kept.sub hm rfl | exact Kept.refl _ _ | refine KeptRes.next ?_ | refine Kept.cond ?_ ?_ | refine KeptRes.cond ?_ ?_ | refine KeptP.cond ?_ ?_ | apply State.coreWorn_keeps | apply State.raise_keeps | apply State.setUnit_keeps | apply State.sitz_keeps | refine Kept.foldl ?_ ?_ | intro _ | refine KeptP.foldl ?_ ?_ | refine KeptP.of_eq (by assumption) ?_ | dsimp only | split | dsimp only | refine KeptP.fst ?_ | refine KeptP.mk ?_ | fail_if_no_progress (refine Kept.upd ?_ (by rfl) (by intro p hp; cases p <;> first | rfl | exact (Kept.no hm hp (by decide)).elim)))
theorem State.groomFound_keeps {m : Nat} {r : State} (s : State) (tier : Nat) (granule : Nat) (finding : Nat) (hm : Nat.land 16648466 m = 16648466) (h : Kept m r s) : Kept m r (State.groomFound s tier granule finding) := by
  unfold State.groomFound
  with_reducible repeat' (first | assumption | exact Kept.sub hm rfl | exact Kept.refl _ _ | refine KeptRes.next ?_ | refine Kept.cond ?_ ?_ | refine KeptRes.cond ?_ ?_ | refine KeptP.cond ?_ ?_ | apply State.corrected_keeps | apply State.count_keeps | apply State.logError_keeps | apply State.recover_keeps | apply State.setGran_keeps | refine Kept.foldl ?_ ?_ | intro _ | refine KeptP.foldl ?_ ?_ | refine KeptP.of_eq (by assumption) ?_ | dsimp only | split | dsimp only | refine KeptP.fst ?_ | refine KeptP.mk ?_ | fail_if_no_progress (refine Kept.upd ?_ (by rfl) (by intro p hp; cases p <;> first | rfl | exact (Kept.no hm hp (by decide)).elim)))
theorem execGroomerRead_keeps {m : Nat} {r : State} (tier : Nat) (granule : Nat) (finding : Nat) (passEnd : Bool) (s : State) (hm : Nat.land 16648466 m = 16648466) (h : Kept m r s) : KeptRes m r (execGroomerRead tier granule finding passEnd s) := by
  unfold execGroomerRead
  with_reducible repeat' (first | assumption | exact Kept.sub hm rfl | exact Kept.refl _ _ | refine KeptRes.next ?_ | refine Kept.cond ?_ ?_ | refine KeptRes.cond ?_ ?_ | refine KeptP.cond ?_ ?_ | apply State.compareCopies_keeps | apply State.countWrap_keeps | apply State.groomFound_keeps | apply State.raise_keeps | refine Kept.foldl ?_ ?_ | intro _ | refine KeptP.foldl ?_ ?_ | refine KeptP.of_eq (by assumption) ?_ | dsimp only | split | dsimp only | refine KeptP.fst ?_ | refine KeptP.mk ?_ | fail_if_no_progress (refine Kept.upd ?_ (by rfl) (by intro p hp; cases p <;> first | rfl | exact (Kept.no hm hp (by decide)).elim)))
theorem execErrSitzUnfreeze_keeps {m : Nat} {r : State} (src : Nat) (s : State) (hm : Nat.land 2 m = 2) (h : Kept m r s) : KeptRes m r (execErrSitzUnfreeze src s) := by
  unfold execErrSitzUnfreeze
  with_reducible repeat' (first | assumption | exact Kept.sub hm rfl | exact Kept.refl _ _ | refine KeptRes.next ?_ | refine Kept.cond ?_ ?_ | refine KeptRes.cond ?_ ?_ | refine KeptP.cond ?_ ?_ | apply State.setFld_keeps | refine Kept.foldl ?_ ?_ | intro _ | refine KeptP.foldl ?_ ?_ | refine KeptP.of_eq (by assumption) ?_ | dsimp only | split | dsimp only | refine KeptP.fst ?_ | refine KeptP.mk ?_ | fail_if_no_progress (refine Kept.upd ?_ (by rfl) (by intro p hp; cases p <;> first | rfl | exact (Kept.no hm hp (by decide)).elim)))
theorem execErrSitzClear_keeps {m : Nat} {r : State} (src : Nat) (s : State) (hm : Nat.land 131074 m = 131074) (h : Kept m r s) : KeptRes m r (execErrSitzClear src s) := by
  unfold execErrSitzClear
  with_reducible repeat' (first | assumption | exact Kept.sub hm rfl | exact Kept.refl _ _ | refine KeptRes.next ?_ | refine Kept.cond ?_ ?_ | refine KeptRes.cond ?_ ?_ | refine KeptP.cond ?_ ?_ | apply State.setFld_keeps | refine Kept.foldl ?_ ?_ | intro _ | refine KeptP.foldl ?_ ?_ | refine KeptP.of_eq (by assumption) ?_ | dsimp only | split | dsimp only | refine KeptP.fst ?_ | refine KeptP.mk ?_ | fail_if_no_progress (refine Kept.upd ?_ (by rfl) (by intro p hp; cases p <;> first | rfl | exact (Kept.no hm hp (by decide)).elim)))
theorem execErrFirstClear_keeps {m : Nat} {r : State} (src : Nat) (s : State) (hm : Nat.land 131072 m = 131072) (h : Kept m r s) : KeptRes m r (execErrFirstClear src s) := by
  unfold execErrFirstClear
  with_reducible repeat' (first | assumption | exact Kept.sub hm rfl | exact Kept.refl _ _ | refine KeptRes.next ?_ | refine Kept.cond ?_ ?_ | refine KeptRes.cond ?_ ?_ | refine KeptP.cond ?_ ?_ | refine Kept.foldl ?_ ?_ | intro _ | refine KeptP.foldl ?_ ?_ | refine KeptP.of_eq (by assumption) ?_ | dsimp only | split | dsimp only | refine KeptP.fst ?_ | refine KeptP.mk ?_ | fail_if_no_progress (refine Kept.upd ?_ (by rfl) (by intro p hp; cases p <;> first | rfl | exact (Kept.no hm hp (by decide)).elim)))
theorem execErrUnitOnline_keeps {m : Nat} {r : State} (src : Nat) (s : State) (hm : Nat.land 131072 m = 131072) (h : Kept m r s) : KeptRes m r (execErrUnitOnline src s) := by
  unfold execErrUnitOnline
  with_reducible repeat' (first | assumption | exact Kept.sub hm rfl | exact Kept.refl _ _ | refine KeptRes.next ?_ | refine Kept.cond ?_ ?_ | refine KeptRes.cond ?_ ?_ | refine KeptP.cond ?_ ?_ | apply State.setUnit_keeps | refine Kept.foldl ?_ ?_ | intro _ | refine KeptP.foldl ?_ ?_ | refine KeptP.of_eq (by assumption) ?_ | dsimp only | split | dsimp only | refine KeptP.fst ?_ | refine KeptP.mk ?_ | fail_if_no_progress (refine Kept.upd ?_ (by rfl) (by intro p hp; cases p <;> first | rfl | exact (Kept.no hm hp (by decide)).elim)))
theorem execFlashDieReady_keeps {m : Nat} {r : State} (die : Nat) (op : Nat) (pass : Bool) (s : State) (hm : Nat.land 8259602 m = 8259602) (h : Kept m r s) : KeptRes m r (execFlashDieReady die op pass s) := by
  unfold execFlashDieReady
  with_reducible repeat' (first | assumption | exact Kept.sub hm rfl | exact Kept.refl _ _ | refine KeptRes.next ?_ | refine Kept.cond ?_ ?_ | refine KeptRes.cond ?_ ?_ | refine KeptP.cond ?_ ?_ | apply State.logError_keeps | apply State.setUnit_keeps | refine Kept.foldl ?_ ?_ | intro _ | refine KeptP.foldl ?_ ?_ | refine KeptP.of_eq (by assumption) ?_ | dsimp only | split | dsimp only | refine KeptP.fst ?_ | refine KeptP.mk ?_ | fail_if_no_progress (refine Kept.upd ?_ (by rfl) (by intro p hp; cases p <;> first | rfl | exact (Kept.no hm hp (by decide)).elim)))
theorem execBusParityError_keeps {m : Nat} {r : State} (kind : Nat) (channel : Nat) (attempt : Nat) (retrainFailed : Bool) (s : State) (hm : Nat.land 8259858 m = 8259858) (h : Kept m r s) : KeptRes m r (execBusParityError kind channel attempt retrainFailed s) := by
  unfold execBusParityError
  with_reducible repeat' (first | assumption | exact Kept.sub hm rfl | exact Kept.refl _ _ | refine KeptRes.next ?_ | refine Kept.cond ?_ ?_ | refine KeptRes.cond ?_ ?_ | refine KeptP.cond ?_ ?_ | apply State.corrected_keeps | apply State.fatal_keeps | apply State.retrain_keeps | refine Kept.foldl ?_ ?_ | intro _ | refine KeptP.foldl ?_ ?_ | refine KeptP.of_eq (by assumption) ?_ | dsimp only | split | dsimp only | refine KeptP.fst ?_ | refine KeptP.mk ?_ | fail_if_no_progress (refine Kept.upd ?_ (by rfl) (by intro p hp; cases p <;> first | rfl | exact (Kept.no hm hp (by decide)).elim)))
theorem State.coreOut_keeps {m : Nat} {r : State} (s : State) (c : Nat) (e : ErrInfo) (hm : Nat.land 16648986 m = 16648986) (h : Kept m r s) : Kept m r (State.coreOut s c e) := by
  unfold State.coreOut
  with_reducible repeat' (first | assumption | exact Kept.sub hm rfl | exact Kept.refl _ _ | refine KeptRes.next ?_ | refine Kept.cond ?_ ?_ | refine KeptRes.cond ?_ ?_ | refine KeptP.cond ?_ ?_ | apply State.coreFailed_keeps | apply State.dropCore_keeps | apply State.logError_keeps | apply State.requeue_keeps | refine Kept.foldl ?_ ?_ | intro _ | refine KeptP.foldl ?_ ?_ | refine KeptP.of_eq (by assumption) ?_ | dsimp only | split | dsimp only | refine KeptP.fst ?_ | refine KeptP.mk ?_ | fail_if_no_progress (refine Kept.upd ?_ (by rfl) (by intro p hp; cases p <;> first | rfl | exact (Kept.no hm hp (by decide)).elim)))
theorem State.restartWalk_keeps {m : Nat} {r : State} (s : State) (n : Nat) (x : Walk) (hm : Nat.land 2056 m = 2056) (h : Kept m r s) : Kept m r (State.restartWalk s n x) := by
  unfold State.restartWalk
  with_reducible repeat' (first | assumption | exact Kept.sub hm rfl | exact Kept.refl _ _ | refine KeptRes.next ?_ | refine Kept.cond ?_ ?_ | refine KeptRes.cond ?_ ?_ | refine KeptP.cond ?_ ?_ | apply State.setWalk_keeps | apply State.tickFresh_keeps | refine Kept.foldl ?_ ?_ | intro _ | refine KeptP.foldl ?_ ?_ | refine KeptP.of_eq (by assumption) ?_ | dsimp only | split | dsimp only | refine KeptP.fst ?_ | refine KeptP.mk ?_ | fail_if_no_progress (refine Kept.upd ?_ (by rfl) (by intro p hp; cases p <;> first | rfl | exact (Kept.no hm hp (by decide)).elim)))
theorem State.traverseOut_keeps {m : Nat} {r : State} (s : State) (u : Nat) (e : ErrInfo) (hm : Nat.land 8259610 m = 8259610) (h : Kept m r s) : Kept m r (State.traverseOut s u e) := by
  unfold State.traverseOut
  with_reducible repeat' (first | assumption | exact Kept.sub hm rfl | exact Kept.refl _ _ | refine KeptRes.next ?_ | refine Kept.cond ?_ ?_ | refine KeptRes.cond ?_ ?_ | refine KeptP.cond ?_ ?_ | apply State.placeWalks_keeps | apply State.restartWalk_keeps | apply State.unitOffline_keeps | refine Kept.foldl ?_ ?_ | intro _ | refine KeptP.foldl ?_ ?_ | refine KeptP.of_eq (by assumption) ?_ | dsimp only | split | dsimp only | refine KeptP.fst ?_ | refine KeptP.mk ?_ | fail_if_no_progress (refine Kept.upd ?_ (by rfl) (by intro p hp; cases p <;> first | rfl | exact (Kept.no hm hp (by decide)).elim)))
theorem State.unitOut_keeps {m : Nat} {r : State} (s : State) (e : ErrInfo) (hm : Nat.land 16648986 m = 16648986) (h : Kept m r s) : Kept m r (State.unitOut s e) := by
  unfold State.unitOut
  with_reducible repeat' (first | assumption | exact Kept.sub hm rfl | exact Kept.refl _ _ | refine KeptRes.next ?_ | refine Kept.cond ?_ ?_ | refine KeptRes.cond ?_ ?_ | refine KeptP.cond ?_ ?_ | apply State.coreOut_keeps | apply State.logError_keeps | apply State.traverseOut_keeps | apply State.unitOffline_keeps | refine Kept.foldl ?_ ?_ | intro _ | refine KeptP.foldl ?_ ?_ | refine KeptP.of_eq (by assumption) ?_ | dsimp only | split | dsimp only | refine KeptP.fst ?_ | refine KeptP.mk ?_ | fail_if_no_progress (refine Kept.upd ?_ (by rfl) (by intro p hp; cases p <;> first | rfl | exact (Kept.no hm hp (by decide)).elim)))
theorem State.checkerFires_keeps {m : Nat} {r : State} (s : State) (chk : Nat) (inj : Bool) (hm : Nat.land 16649050 m = 16649050) (h : Kept m r s) : Kept m r (State.checkerFires s chk inj) := by
  unfold State.checkerFires
  with_reducible repeat' (first | assumption | exact Kept.sub hm rfl | exact Kept.refl _ _ | refine KeptRes.next ?_ | refine Kept.cond ?_ ?_ | refine KeptRes.cond ?_ ?_ | refine KeptP.cond ?_ ?_ | apply State.coreWorn_keeps | apply State.corrected_keeps | apply State.fatal_keeps | apply State.logError_keeps | apply State.pocketEcc_keeps | apply State.pstBankError_keeps | apply State.unitOut_keeps | refine Kept.foldl ?_ ?_ | intro _ | refine KeptP.foldl ?_ ?_ | refine KeptP.of_eq (by assumption) ?_ | dsimp only | split | dsimp only | refine KeptP.fst ?_ | refine KeptP.mk ?_ | fail_if_no_progress (refine Kept.upd ?_ (by rfl) (by intro p hp; cases p <;> first | rfl | exact (Kept.no hm hp (by decide)).elim)))
theorem State.wireBroken_keeps {m : Nat} {r : State} (s : State) (chk : Nat) (inj : Bool) (hm : Nat.land 16648986 m = 16648986) (h : Kept m r s) : Kept m r (State.wireBroken s chk inj) := by
  unfold State.wireBroken
  with_reducible repeat' (first | assumption | exact Kept.sub hm rfl | exact Kept.refl _ _ | refine KeptRes.next ?_ | refine Kept.cond ?_ ?_ | refine KeptRes.cond ?_ ?_ | refine KeptP.cond ?_ ?_ | apply State.count_keeps | apply State.fatal_keeps | apply State.raise_keeps | apply State.unitOut_keeps | refine Kept.foldl ?_ ?_ | intro _ | refine KeptP.foldl ?_ ?_ | refine KeptP.of_eq (by assumption) ?_ | dsimp only | split | dsimp only | refine KeptP.fst ?_ | refine KeptP.mk ?_ | fail_if_no_progress (refine Kept.upd ?_ (by rfl) (by intro p hp; cases p <;> first | rfl | exact (Kept.no hm hp (by decide)).elim)))
theorem State.setChecker_keeps {m : Nat} {r : State} (s : State) (chk : Nat) (x : Checker) (hm : Nat.land 131072 m = 131072) (h : Kept m r s) : Kept m r (State.setChecker s chk x) := by
  unfold State.setChecker
  with_reducible repeat' (first | assumption | exact Kept.sub hm rfl | exact Kept.refl _ _ | refine KeptRes.next ?_ | refine Kept.cond ?_ ?_ | refine KeptRes.cond ?_ ?_ | refine KeptP.cond ?_ ?_ | refine Kept.foldl ?_ ?_ | intro _ | refine KeptP.foldl ?_ ?_ | refine KeptP.of_eq (by assumption) ?_ | dsimp only | split | dsimp only | refine KeptP.fst ?_ | refine KeptP.mk ?_ | fail_if_no_progress (refine Kept.upd ?_ (by rfl) (by intro p hp; cases p <;> first | rfl | exact (Kept.no hm hp (by decide)).elim)))
theorem State.checkerSeen_keeps {m : Nat} {r : State} (s : State) (chk : Nat) (railT : Bool) (railC : Bool) (inj : Bool) (hm : Nat.land 16649050 m = 16649050) (h : Kept m r s) : Kept m r (State.checkerSeen s chk railT railC inj) := by
  unfold State.checkerSeen
  with_reducible repeat' (first | assumption | exact Kept.sub hm rfl | exact Kept.refl _ _ | refine KeptRes.next ?_ | refine Kept.cond ?_ ?_ | refine KeptRes.cond ?_ ?_ | refine KeptP.cond ?_ ?_ | apply State.checkerFires_keeps | apply State.setChecker_keeps | apply State.wireBroken_keeps | refine Kept.foldl ?_ ?_ | intro _ | refine KeptP.foldl ?_ ?_ | refine KeptP.of_eq (by assumption) ?_ | dsimp only | split | dsimp only | refine KeptP.fst ?_ | refine KeptP.mk ?_ | fail_if_no_progress (refine Kept.upd ?_ (by rfl) (by intro p hp; cases p <;> first | rfl | exact (Kept.no hm hp (by decide)).elim)))
theorem execCheckerError_keeps {m : Nat} {r : State} (chk : Nat) (railT : Bool) (railC : Bool) (s : State) (hm : Nat.land 16649050 m = 16649050) (h : Kept m r s) : KeptRes m r (execCheckerError chk railT railC s) := by
  unfold execCheckerError
  with_reducible repeat' (first | assumption | exact Kept.sub hm rfl | exact Kept.refl _ _ | refine KeptRes.next ?_ | refine Kept.cond ?_ ?_ | refine KeptRes.cond ?_ ?_ | refine KeptP.cond ?_ ?_ | apply State.checkerSeen_keeps | refine Kept.foldl ?_ ?_ | intro _ | refine KeptP.foldl ?_ ?_ | refine KeptP.of_eq (by assumption) ?_ | dsimp only | split | dsimp only | refine KeptP.fst ?_ | refine KeptP.mk ?_ | fail_if_no_progress (refine Kept.upd ?_ (by rfl) (by intro p hp; cases p <;> first | rfl | exact (Kept.no hm hp (by decide)).elim)))
theorem State.injectGranule_keeps {m : Nat} {r : State} (s : State) (g : Nat) (side : Nat) (pattern : Nat) (mask : Nat) (hm : Nat.land 256 m = 256) (h : Kept m r s) : Kept m r (State.injectGranule s g side pattern mask) := by
  unfold State.injectGranule
  with_reducible repeat' (first | assumption | exact Kept.sub hm rfl | exact Kept.refl _ _ | refine KeptRes.next ?_ | refine Kept.cond ?_ ?_ | refine KeptRes.cond ?_ ?_ | refine KeptP.cond ?_ ?_ | apply State.setGran_keeps | refine Kept.foldl ?_ ?_ | intro _ | refine KeptP.foldl ?_ ?_ | refine KeptP.of_eq (by assumption) ?_ | dsimp only | split | dsimp only | refine KeptP.fst ?_ | refine KeptP.mk ?_ | fail_if_no_progress (refine Kept.upd ?_ (by rfl) (by intro p hp; cases p <;> first | rfl | exact (Kept.no hm hp (by decide)).elim)))
theorem State.injectAct_keeps {m : Nat} {r : State} (s : State) (target : Nat) (side : Nat) (pattern : Nat) (addr : Nat) (mask : Nat) (hm : Nat.land 16714586 m = 16714586) (h : Kept m r s) : Kept m r (State.injectAct s target side pattern addr mask) := by
  unfold State.injectAct
  with_reducible repeat' (first | assumption | exact Kept.sub hm rfl | exact Kept.refl _ _ | refine KeptRes.next ?_ | refine Kept.cond ?_ ?_ | refine KeptRes.cond ?_ ?_ | refine KeptP.cond ?_ ?_ | apply State.checkerSeen_keeps | apply State.injectGranule_keeps | apply State.setChecker_keeps | apply State.setEdge_keeps | refine Kept.foldl ?_ ?_ | intro _ | refine KeptP.foldl ?_ ?_ | refine KeptP.of_eq (by assumption) ?_ | dsimp only | split | dsimp only | refine KeptP.fst ?_ | refine KeptP.mk ?_ | fail_if_no_progress (refine Kept.upd ?_ (by rfl) (by intro p hp; cases p <;> first | rfl | exact (Kept.no hm hp (by decide)).elim)))
theorem State.injDone_keeps {m : Nat} {r : State} (s : State) (refused : Bool) (hm : Nat.land 4194322 m = 4194322) (h : Kept m r s) : Kept m r (State.injDone s refused) := by
  unfold State.injDone
  with_reducible repeat' (first | assumption | exact Kept.sub hm rfl | exact Kept.refl _ _ | refine KeptRes.next ?_ | refine Kept.cond ?_ ?_ | refine KeptRes.cond ?_ ?_ | refine KeptP.cond ?_ ?_ | apply State.raise_keeps | apply State.setFld_keeps | refine Kept.foldl ?_ ?_ | intro _ | refine KeptP.foldl ?_ ?_ | refine KeptP.of_eq (by assumption) ?_ | dsimp only | split | dsimp only | refine KeptP.fst ?_ | refine KeptP.mk ?_ | fail_if_no_progress (refine Kept.upd ?_ (by rfl) (by intro p hp; cases p <;> first | rfl | exact (Kept.no hm hp (by decide)).elim)))
theorem execErrInjFire_keeps {m : Nat} {r : State} (src : Nat) (s : State) (hm : Nat.land 16714586 m = 16714586) (h : Kept m r s) : KeptRes m r (execErrInjFire src s) := by
  unfold execErrInjFire
  with_reducible repeat' (first | assumption | exact Kept.sub hm rfl | exact Kept.refl _ _ | refine KeptRes.next ?_ | refine Kept.cond ?_ ?_ | refine KeptRes.cond ?_ ?_ | refine KeptP.cond ?_ ?_ | apply State.injDone_keeps | apply State.injectAct_keeps | apply State.setFld_keeps | refine Kept.foldl ?_ ?_ | intro _ | refine KeptP.foldl ?_ ?_ | refine KeptP.of_eq (by assumption) ?_ | dsimp only | split | dsimp only | refine KeptP.fst ?_ | refine KeptP.mk ?_ | fail_if_no_progress (refine Kept.upd ?_ (by rfl) (by intro p hp; cases p <;> first | rfl | exact (Kept.no hm hp (by decide)).elim)))
theorem State.securityNote_keeps {m : Nat} {r : State} (s : State) (hm : Nat.land 8259602 m = 8259602) (h : Kept m r s) : Kept m r (State.securityNote s) := by
  unfold State.securityNote
  with_reducible repeat' (first | assumption | exact Kept.sub hm rfl | exact Kept.refl _ _ | refine KeptRes.next ?_ | refine Kept.cond ?_ ?_ | refine KeptRes.cond ?_ ?_ | refine KeptP.cond ?_ ?_ | apply State.logError_keeps | refine Kept.foldl ?_ ?_ | intro _ | refine KeptP.foldl ?_ ?_ | refine KeptP.of_eq (by assumption) ?_ | dsimp only | split | dsimp only | refine KeptP.fst ?_ | refine KeptP.mk ?_ | fail_if_no_progress (refine Kept.upd ?_ (by rfl) (by intro p hp; cases p <;> first | rfl | exact (Kept.no hm hp (by decide)).elim)))
theorem State.setDebug_keeps {m : Nat} {r : State} (s : State) (l : DebugLevel) (comp : Nat) (remain : Nat) (hm : Nat.land 8259602 m = 8259602) (h : Kept m r s) : Kept m r (State.setDebug s l comp remain) := by
  unfold State.setDebug
  with_reducible repeat' (first | assumption | exact Kept.sub hm rfl | exact Kept.refl _ _ | refine KeptRes.next ?_ | refine Kept.cond ?_ ?_ | refine KeptRes.cond ?_ ?_ | refine KeptP.cond ?_ ?_ | apply State.raise_keeps | apply State.securityNote_keeps | refine Kept.foldl ?_ ?_ | intro _ | refine KeptP.foldl ?_ ?_ | refine KeptP.of_eq (by assumption) ?_ | dsimp only | split | dsimp only | refine KeptP.fst ?_ | refine KeptP.mk ?_ | fail_if_no_progress (refine Kept.upd ?_ (by rfl) (by intro p hp; cases p <;> first | rfl | exact (Kept.no hm hp (by decide)).elim)))
theorem State.endSessions_keeps {m : Nat} {r : State} (s : State) (hm : Nat.land 1064960 m = 1064960) (h : Kept m r s) : Kept m r (State.endSessions s) := by
  unfold State.endSessions
  with_reducible repeat' (first | assumption | exact Kept.sub hm rfl | exact Kept.refl _ _ | refine KeptRes.next ?_ | refine Kept.cond ?_ ?_ | refine KeptRes.cond ?_ ?_ | refine KeptP.cond ?_ ?_ | refine Kept.foldl ?_ ?_ | intro _ | refine KeptP.foldl ?_ ?_ | refine KeptP.of_eq (by assumption) ?_ | dsimp only | split | dsimp only | refine KeptP.fst ?_ | refine KeptP.mk ?_ | fail_if_no_progress (refine Kept.upd ?_ (by rfl) (by intro p hp; cases p <;> first | rfl | exact (Kept.no hm hp (by decide)).elim)))
theorem State.tokenDone_keeps {m : Nat} {r : State} (s : State) (code : Nat) (hm : Nat.land 8259602 m = 8259602) (h : Kept m r s) : Kept m r (State.tokenDone s code) := by
  unfold State.tokenDone
  with_reducible repeat' (first | assumption | exact Kept.sub hm rfl | exact Kept.refl _ _ | refine KeptRes.next ?_ | refine Kept.cond ?_ ?_ | refine KeptRes.cond ?_ ?_ | refine KeptP.cond ?_ ?_ | apply State.raise_keeps | apply State.securityNote_keeps | apply State.setFld_keeps | refine Kept.foldl ?_ ?_ | intro _ | refine KeptP.foldl ?_ ?_ | refine KeptP.of_eq (by assumption) ?_ | dsimp only | split | dsimp only | refine KeptP.fst ?_ | refine KeptP.mk ?_ | fail_if_no_progress (refine Kept.upd ?_ (by rfl) (by intro p hp; cases p <;> first | rfl | exact (Kept.no hm hp (by decide)).elim)))
theorem State.dropUpdate_keeps {m : Nat} {r : State} (s : State) (result : Nat) (hm : Nat.land 5242898 m = 5242898) (h : Kept m r s) : Kept m r (State.dropUpdate s result) := by
  unfold State.dropUpdate
  with_reducible repeat' (first | assumption | exact Kept.sub hm rfl | exact Kept.refl _ _ | refine KeptRes.next ?_ | refine Kept.cond ?_ ?_ | refine KeptRes.cond ?_ ?_ | refine KeptP.cond ?_ ?_ | apply State.raise_keeps | refine Kept.foldl ?_ ?_ | intro _ | refine KeptP.foldl ?_ ?_ | refine KeptP.of_eq (by assumption) ?_ | dsimp only | split | dsimp only | refine KeptP.fst ?_ | refine KeptP.mk ?_ | fail_if_no_progress (refine Kept.upd ?_ (by rfl) (by intro p hp; cases p <;> first | rfl | exact (Kept.no hm hp (by decide)).elim)))
theorem State.secureBoot_keeps {m : Nat} {r : State} (s : State) (flash : BootFlash) (hm : Nat.land 524288 m = 524288) (h : Kept m r s) : Kept m r (State.secureBoot s flash) := by
  unfold State.secureBoot
  with_reducible repeat' (first | assumption | exact Kept.sub hm rfl | exact Kept.refl _ _ | refine KeptRes.next ?_ | refine Kept.cond ?_ ?_ | refine KeptRes.cond ?_ ?_ | refine KeptP.cond ?_ ?_ | refine Kept.foldl ?_ ?_ | intro _ | refine KeptP.foldl ?_ ?_ | refine KeptP.of_eq (by assumption) ?_ | dsimp only | split | dsimp only | refine KeptP.fst ?_ | refine KeptP.mk ?_ | fail_if_no_progress (refine Kept.upd ?_ (by rfl) (by intro p hp; cases p <;> first | rfl | exact (Kept.no hm hp (by decide)).elim)))
theorem State.toStandby_keeps {m : Nat} {r : State} (s : State) (cause : ResetCause) (hm : Nat.land 8276498 m = 8276498) (h : Kept m r s) : Kept m r (State.toStandby s cause) := by
  unfold State.toStandby
  with_reducible repeat' (first | assumption | exact Kept.sub hm rfl | exact Kept.refl _ _ | refine KeptRes.next ?_ | refine Kept.cond ?_ ?_ | refine KeptRes.cond ?_ ?_ | refine KeptP.cond ?_ ?_ | apply State.endSessions_keeps | apply State.setDebug_keeps | apply State.setFld_keeps | apply State.setPower_keeps | refine Kept.foldl ?_ ?_ | intro _ | refine KeptP.foldl ?_ ?_ | refine KeptP.of_eq (by assumption) ?_ | dsimp only | split | dsimp only | refine KeptP.fst ?_ | refine KeptP.mk ?_ | fail_if_no_progress (refine Kept.upd ?_ (by rfl) (by intro p hp; cases p <;> first | rfl | exact (Kept.no hm hp (by decide)).elim)))
theorem State.setHalf_keeps {m : Nat} {r : State} (s : State) (i : Nat) (x2 : BraceHalf) (hm : Nat.land 256 m = 256) (h : Kept m r s) : Kept m r (State.setHalf s i x2) := by
  unfold State.setHalf
  with_reducible repeat' (first | assumption | exact Kept.sub hm rfl | exact Kept.refl _ _ | refine KeptRes.next ?_ | refine Kept.cond ?_ ?_ | refine KeptRes.cond ?_ ?_ | refine KeptP.cond ?_ ?_ | refine Kept.foldl ?_ ?_ | intro _ | refine KeptP.foldl ?_ ?_ | refine KeptP.of_eq (by assumption) ?_ | dsimp only | split | dsimp only | refine KeptP.fst ?_ | refine KeptP.mk ?_ | fail_if_no_progress (refine Kept.upd ?_ (by rfl) (by intro p hp; cases p <;> first | rfl | exact (Kept.no hm hp (by decide)).elim)))
theorem State.braceEnd_keeps {m : Nat} {r : State} (s : State) (doneUs : Nat) (kib : Nat) (hm : Nat.land 8276498 m = 8276498) (h : Kept m r s) : Kept m r (State.braceEnd s doneUs kib) := by
  unfold State.braceEnd
  with_reducible repeat' (first | assumption | exact Kept.sub hm rfl | exact Kept.refl _ _ | refine KeptRes.next ?_ | refine Kept.cond ?_ ?_ | refine KeptRes.cond ?_ ?_ | refine KeptP.cond ?_ ?_ | apply State.emit_keeps | apply State.setFld_keeps | apply State.toStandby_keeps | refine Kept.foldl ?_ ?_ | intro _ | refine KeptP.foldl ?_ ?_ | refine KeptP.of_eq (by assumption) ?_ | dsimp only | split | dsimp only | refine KeptP.fst ?_ | refine KeptP.mk ?_ | fail_if_no_progress (refine Kept.upd ?_ (by rfl) (by intro p hp; cases p <;> first | rfl | exact (Kept.no hm hp (by decide)).elim)))
theorem State.braceStops_keeps {m : Nat} {r : State} (s : State) (hm : Nat.land 16752538 m = 16752538) (h : Kept m r s) : Kept m r (State.braceStops s) := by
  unfold State.braceStops
  with_reducible repeat' (first | assumption | exact Kept.sub hm rfl | exact Kept.refl _ _ | refine KeptRes.next ?_ | refine Kept.cond ?_ ?_ | refine KeptRes.cond ?_ ?_ | refine KeptP.cond ?_ ?_ | apply State.answerOrigin_keeps | apply State.failWith_keeps | apply State.leaveCore_keeps | apply State.releaseClaim_keeps | apply State.stopEntry_keeps | refine Kept.foldl ?_ ?_ | intro _ | refine KeptP.foldl ?_ ?_ | refine KeptP.of_eq (by assumption) ?_ | dsimp only | split | dsimp only | refine KeptP.fst ?_ | refine KeptP.mk ?_ | fail_if_no_progress (refine Kept.upd ?_ (by rfl) (by intro p hp; cases p <;> first | rfl | exact (Kept.no hm hp (by decide)).elim)))
theorem State.refuseHeld_keeps {m : Nat} {r : State} (s : State) (hm : Nat.land 16772538 m = 16772538) (h : Kept m r s) : Kept m r (State.refuseHeld s) := by
  unfold State.refuseHeld
  with_reducible repeat' (first | assumption | exact Kept.sub hm rfl | exact Kept.refl _ _ | refine KeptRes.next ?_ | refine Kept.cond ?_ ?_ | refine KeptRes.cond ?_ ?_ | refine KeptP.cond ?_ ?_ | apply State.emit_keeps | apply State.receiveWork_keeps | refine Kept.foldl ?_ ?_ | intro _ | refine KeptP.foldl ?_ ?_ | refine KeptP.of_eq (by assumption) ?_ | dsimp only | split | dsimp only | refine KeptP.fst ?_ | refine KeptP.mk ?_ | fail_if_no_progress (refine Kept.upd ?_ (by rfl) (by intro p hp; cases p <;> first | rfl | exact (Kept.no hm hp (by decide)).elim)))
theorem State.braceTrigger_keeps {m : Nat} {r : State} (s : State) (cause : Nat) (why : ResetCause) (discard : optParam Bool false) (hm : Nat.land 16777210 m = 16777210) (h : Kept m r s) : Kept m r (State.braceTrigger s cause why discard) := by
  unfold State.braceTrigger
  with_reducible repeat' (first | assumption | exact Kept.sub hm rfl | exact Kept.refl _ _ | refine KeptRes.next ?_ | refine Kept.cond ?_ ?_ | refine KeptRes.cond ?_ ?_ | refine KeptP.cond ?_ ?_ | apply State.abandonPasses_keeps | apply State.braceEnd_keeps | apply State.braceStops_keeps | apply State.count_keeps | apply State.dropUpdate_keeps | apply State.emit_keeps | apply State.endSessions_keeps | apply State.pstBrace_keeps | apply State.refuseHeld_keeps | apply State.sendHeartbeats_keeps | apply State.setDebug_keeps | apply State.setFld_keeps | apply State.tellSensors_keeps | apply State.tokenDone_keeps | refine Kept.foldl ?_ ?_ | intro _ | refine KeptP.foldl ?_ ?_ | refine KeptP.of_eq (by assumption) ?_ | dsimp only | split | dsimp only | refine KeptP.fst ?_ | refine KeptP.mk ?_ | fail_if_no_progress (refine Kept.upd ?_ (by rfl) (by intro p hp; cases p <;> first | rfl | exact (Kept.no hm hp (by decide)).elim)))
theorem State.supplyFails_keeps {m : Nat} {r : State} (s : State) (hm : Nat.land 8276498 m = 8276498) (h : Kept m r s) : Kept m r (State.supplyFails s) := by
  unfold State.supplyFails
  with_reducible repeat' (first | assumption | exact Kept.sub hm rfl | exact Kept.refl _ _ | refine KeptRes.next ?_ | refine Kept.cond ?_ ?_ | refine KeptRes.cond ?_ ?_ | refine KeptP.cond ?_ ?_ | apply State.dropUpdate_keeps | apply State.setPower_keeps | apply State.toStandby_keeps | refine Kept.foldl ?_ ?_ | intro _ | refine KeptP.foldl ?_ ?_ | refine KeptP.of_eq (by assumption) ?_ | dsimp only | split | dsimp only | refine KeptP.fst ?_ | refine KeptP.mk ?_ | fail_if_no_progress (refine Kept.upd ?_ (by rfl) (by intro p hp; cases p <;> first | rfl | exact (Kept.no hm hp (by decide)).elim)))
theorem State.losePower_keeps {m : Nat} {r : State} (s : State) (hm : Nat.land 8388864 m = 8388864) (h : Kept m r s) : Kept m r (State.losePower s) := by
  unfold State.losePower
  exact Kept.foldl (h.trans ⟨⟨rfl, List.prefix_refl _, fun w => Memory.wf_filter _ w, id⟩, by intro p hp; cases p <;> first | rfl | exact (Kept.no hm hp (by decide)).elim⟩)
    fun t a k => State.restorePage_keeps t _ _ (Kept.sub hm rfl) k
theorem State.showStraps_keeps {m : Nat} {r : State} (s : State) (hm : Nat.land 2 m = 2) (h : Kept m r s) : Kept m r (State.showStraps s) := by
  unfold State.showStraps
  with_reducible repeat' (first | assumption | exact Kept.sub hm rfl | exact Kept.refl _ _ | refine KeptRes.next ?_ | refine Kept.cond ?_ ?_ | refine KeptRes.cond ?_ ?_ | refine KeptP.cond ?_ ?_ | apply State.setFld_keeps | refine Kept.foldl ?_ ?_ | intro _ | refine KeptP.foldl ?_ ?_ | refine KeptP.of_eq (by assumption) ?_ | dsimp only | split | dsimp only | refine KeptP.fst ?_ | refine KeptP.mk ?_ | fail_if_no_progress (refine Kept.upd ?_ (by rfl) (by intro p hp; cases p <;> first | rfl | exact (Kept.no hm hp (by decide)).elim)))
theorem State.startupReset_keeps {m : Nat} {r : State} (s : State) (hm : Nat.land 16777206 m = 16777206) (h : Kept m r s) : Kept m r (State.startupReset s) := by
  have k0 : Kept m r s.losePower := State.losePower_keeps s (Kept.sub hm rfl) h
  unfold State.startupReset
  generalize s.losePower = old at k0
  extract_lets +onlyGivenNames oldS island new1
  have k1 : Kept m r new1 := k0.trans ⟨⟨rfl, List.prefix_refl _, id, fun _ => rfl⟩, by intro p hp; cases p <;> first | rfl | exact (Kept.no hm hp (by decide)).elim⟩
  clear_value new1
  extract_lets +onlyGivenNames new2
  have k2 : Kept m r new2 := Kept.foldl k1 fun t f k => State.setFld_keeps t _ _ (Kept.sub hm rfl) k
  clear_value new2
  extract_lets +onlyGivenNames srcSys new3
  have k3 : Kept m r new3 := Kept.upd k2 rfl (by intro p hp; cases p <;> first | rfl | exact (Kept.no hm hp (by decide)).elim)
  clear_value new3
  extract_lets +onlyGivenNames new4
  have k4 : Kept m r new4 := by
    show Kept m r (if _ then _ else _)
    split
    · exact State.dropUpdate_keeps _ _ (Kept.sub hm rfl) k3
    · exact k3
  clear_value new4
  extract_lets +onlyGivenNames new5
  have k5 : Kept m r new5 := by
    show Kept m r (if _ then _ else _)
    split
    · exact State.securityNote_keeps _ (Kept.sub hm rfl) k4
    · exact k4
  exact State.showStraps_keeps _ (Kept.sub hm rfl) k5
theorem execVstby5Lost_keeps {m : Nat} {r : State} (s : State) (hm : Nat.land 8259602 m = 8259602) (h : Kept m r s) : KeptRes m r (execVstby5Lost s) := by
  unfold execVstby5Lost
  with_reducible repeat' (first | assumption | exact Kept.sub hm rfl | exact Kept.refl _ _ | refine KeptRes.next ?_ | refine Kept.cond ?_ ?_ | refine KeptRes.cond ?_ ?_ | refine KeptP.cond ?_ ?_ | apply State.logError_keeps | apply State.raise_keeps | apply State.setFld_keeps | apply State.setPower_keeps | refine Kept.foldl ?_ ?_ | intro _ | refine KeptP.foldl ?_ ?_ | refine KeptP.of_eq (by assumption) ?_ | dsimp only | split | dsimp only | refine KeptP.fst ?_ | refine KeptP.mk ?_ | fail_if_no_progress (refine Kept.upd ?_ (by rfl) (by intro p hp; cases p <;> first | rfl | exact (Kept.no hm hp (by decide)).elim)))
theorem execVstby5Restored_keeps {m : Nat} {r : State} (s : State) (hm : Nat.land 524290 m = 524290) (h : Kept m r s) : KeptRes m r (execVstby5Restored s) := by
  unfold execVstby5Restored
  with_reducible repeat' (first | assumption | exact Kept.sub hm rfl | exact Kept.refl _ _ | refine KeptRes.next ?_ | refine Kept.cond ?_ ?_ | refine KeptRes.cond ?_ ?_ | refine KeptP.cond ?_ ?_ | apply State.setFld_keeps | refine Kept.foldl ?_ ?_ | intro _ | refine KeptP.foldl ?_ ?_ | refine KeptP.of_eq (by assumption) ?_ | dsimp only | split | dsimp only | refine KeptP.fst ?_ | refine KeptP.mk ?_ | fail_if_no_progress (refine Kept.upd ?_ (by rfl) (by intro p hp; cases p <;> first | rfl | exact (Kept.no hm hp (by decide)).elim)))
theorem execPsuAcOkDeassert_keeps {m : Nat} {r : State} (s : State) (hm : Nat.land 16777210 m = 16777210) (h : Kept m r s) : KeptRes m r (execPsuAcOkDeassert s) := by
  unfold execPsuAcOkDeassert
  with_reducible repeat' (first | assumption | exact Kept.sub hm rfl | exact Kept.refl _ _ | refine KeptRes.next ?_ | refine Kept.cond ?_ ?_ | refine KeptRes.cond ?_ ?_ | refine KeptP.cond ?_ ?_ | apply State.braceTrigger_keeps | refine Kept.foldl ?_ ?_ | intro _ | refine KeptP.foldl ?_ ?_ | refine KeptP.of_eq (by assumption) ?_ | dsimp only | split | dsimp only | refine KeptP.fst ?_ | refine KeptP.mk ?_ | fail_if_no_progress (refine Kept.upd ?_ (by rfl) (by intro p hp; cases p <;> first | rfl | exact (Kept.no hm hp (by decide)).elim)))
theorem execPsuAcOkAssert_keeps {m : Nat} {r : State} (s : State) (hm : Nat.land 524288 m = 524288) (h : Kept m r s) : KeptRes m r (execPsuAcOkAssert s) := by
  unfold execPsuAcOkAssert
  with_reducible repeat' (first | assumption | exact Kept.sub hm rfl | exact Kept.refl _ _ | refine KeptRes.next ?_ | refine Kept.cond ?_ ?_ | refine KeptRes.cond ?_ ?_ | refine KeptP.cond ?_ ?_ | refine Kept.foldl ?_ ?_ | intro _ | refine KeptP.foldl ?_ ?_ | refine KeptP.of_eq (by assumption) ?_ | dsimp only | split | dsimp only | refine KeptP.fst ?_ | refine KeptP.mk ?_ | fail_if_no_progress (refine Kept.upd ?_ (by rfl) (by intro p hp; cases p <;> first | rfl | exact (Kept.no hm hp (by decide)).elim)))
theorem execVin12OvTrip_keeps {m : Nat} {r : State} (s : State) (hm : Nat.land 8276498 m = 8276498) (h : Kept m r s) : KeptRes m r (execVin12OvTrip s) := by
  unfold execVin12OvTrip
  with_reducible repeat' (first | assumption | exact Kept.sub hm rfl | exact Kept.refl _ _ | refine KeptRes.next ?_ | refine Kept.cond ?_ ?_ | refine KeptRes.cond ?_ ?_ | refine KeptP.cond ?_ ?_ | apply State.supplyFails_keeps | refine Kept.foldl ?_ ?_ | intro _ | refine KeptP.foldl ?_ ?_ | refine KeptP.of_eq (by assumption) ?_ | dsimp only | split | dsimp only | refine KeptP.fst ?_ | refine KeptP.mk ?_ | fail_if_no_progress (refine Kept.upd ?_ (by rfl) (by intro p hp; cases p <;> first | rfl | exact (Kept.no hm hp (by decide)).elim)))
theorem execVin12UvTrip_keeps {m : Nat} {r : State} (s : State) (hm : Nat.land 8276498 m = 8276498) (h : Kept m r s) : KeptRes m r (execVin12UvTrip s) := by
  unfold execVin12UvTrip
  with_reducible repeat' (first | assumption | exact Kept.sub hm rfl | exact Kept.refl _ _ | refine KeptRes.next ?_ | refine Kept.cond ?_ ?_ | refine KeptRes.cond ?_ ?_ | refine KeptP.cond ?_ ?_ | apply State.supplyFails_keeps | refine Kept.foldl ?_ ?_ | intro _ | refine KeptP.foldl ?_ ?_ | refine KeptP.of_eq (by assumption) ?_ | dsimp only | split | dsimp only | refine KeptP.fst ?_ | refine KeptP.mk ?_ | fail_if_no_progress (refine Kept.upd ?_ (by rfl) (by intro p hp; cases p <;> first | rfl | exact (Kept.no hm hp (by decide)).elim)))
theorem execVin12SurgeBrace_keeps {m : Nat} {r : State} (long : Bool) (s : State) (hm : Nat.land 16777210 m = 16777210) (h : Kept m r s) : KeptRes m r (execVin12SurgeBrace long s) := by
  unfold execVin12SurgeBrace
  with_reducible repeat' (first | assumption | exact Kept.sub hm rfl | exact Kept.refl _ _ | refine KeptRes.next ?_ | refine Kept.cond ?_ ?_ | refine KeptRes.cond ?_ ?_ | refine KeptP.cond ?_ ?_ | apply State.braceTrigger_keeps | apply State.setFld_keeps | refine Kept.foldl ?_ ?_ | intro _ | refine KeptP.foldl ?_ ?_ | refine KeptP.of_eq (by assumption) ?_ | dsimp only | split | dsimp only | refine KeptP.fst ?_ | refine KeptP.mk ?_ | fail_if_no_progress (refine Kept.upd ?_ (by rfl) (by intro p hp; cases p <;> first | rfl | exact (Kept.no hm hp (by decide)).elim)))
theorem execVin12Surge_keeps {m : Nat} {r : State} (s : State) (hm : Nat.land 4194322 m = 4194322) (h : Kept m r s) : KeptRes m r (execVin12Surge s) := by
  unfold execVin12Surge
  with_reducible repeat' (first | assumption | exact Kept.sub hm rfl | exact Kept.refl _ _ | refine KeptRes.next ?_ | refine Kept.cond ?_ ?_ | refine KeptRes.cond ?_ ?_ | refine KeptP.cond ?_ ?_ | apply State.count_keeps | apply State.raise_keeps | apply State.setFld_keeps | refine Kept.foldl ?_ ?_ | intro _ | refine KeptP.foldl ?_ ?_ | refine KeptP.of_eq (by assumption) ?_ | dsimp only | split | dsimp only | refine KeptP.fst ?_ | refine KeptP.mk ?_ | fail_if_no_progress (refine Kept.upd ?_ (by rfl) (by intro p hp; cases p <;> first | rfl | exact (Kept.no hm hp (by decide)).elim)))
theorem State.showCap_keeps {m : Nat} {r : State} (s : State) (hm : Nat.land 2 m = 2) (h : Kept m r s) : Kept m r (State.showCap s) := by
  unfold State.showCap
  with_reducible repeat' (first | assumption | exact Kept.sub hm rfl | exact Kept.refl _ _ | refine KeptRes.next ?_ | refine Kept.cond ?_ ?_ | refine KeptRes.cond ?_ ?_ | refine KeptP.cond ?_ ?_ | apply State.setFld_keeps | refine Kept.foldl ?_ ?_ | intro _ | refine KeptP.foldl ?_ ?_ | refine KeptP.of_eq (by assumption) ?_ | dsimp only | split | dsimp only | refine KeptP.fst ?_ | refine KeptP.mk ?_ | fail_if_no_progress (refine Kept.upd ?_ (by rfl) (by intro p hp; cases p <;> first | rfl | exact (Kept.no hm hp (by decide)).elim)))
theorem execVin12SagEnter_keeps {m : Nat} {r : State} (s : State) (hm : Nat.land 4718610 m = 4718610) (h : Kept m r s) : KeptRes m r (execVin12SagEnter s) := by
  unfold execVin12SagEnter
  with_reducible repeat' (first | assumption | exact Kept.sub hm rfl | exact Kept.refl _ _ | refine KeptRes.next ?_ | refine Kept.cond ?_ ?_ | refine KeptRes.cond ?_ ?_ | refine KeptP.cond ?_ ?_ | apply State.count_keeps | apply State.raise_keeps | apply State.setFld_keeps | apply State.showCap_keeps | refine Kept.foldl ?_ ?_ | intro _ | refine KeptP.foldl ?_ ?_ | refine KeptP.of_eq (by assumption) ?_ | dsimp only | split | dsimp only | refine KeptP.fst ?_ | refine KeptP.mk ?_ | fail_if_no_progress (refine Kept.upd ?_ (by rfl) (by intro p hp; cases p <;> first | rfl | exact (Kept.no hm hp (by decide)).elim)))
theorem execVin12SagExit_keeps {m : Nat} {r : State} (s : State) (hm : Nat.land 524290 m = 524290) (h : Kept m r s) : KeptRes m r (execVin12SagExit s) := by
  unfold execVin12SagExit
  with_reducible repeat' (first | assumption | exact Kept.sub hm rfl | exact Kept.refl _ _ | refine KeptRes.next ?_ | refine Kept.cond ?_ ?_ | refine KeptRes.cond ?_ ?_ | refine KeptP.cond ?_ ?_ | apply State.setFld_keeps | apply State.showCap_keeps | refine Kept.foldl ?_ ?_ | intro _ | refine KeptP.foldl ?_ ?_ | refine KeptP.of_eq (by assumption) ?_ | dsimp only | split | dsimp only | refine KeptP.fst ?_ | refine KeptP.mk ?_ | fail_if_no_progress (refine Kept.upd ?_ (by rfl) (by intro p hp; cases p <;> first | rfl | exact (Kept.no hm hp (by decide)).elim)))
theorem execVin12DeepSag_keeps {m : Nat} {r : State} (long : Bool) (s : State) (hm : Nat.land 16777210 m = 16777210) (h : Kept m r s) : KeptRes m r (execVin12DeepSag long s) := by
  unfold execVin12DeepSag
  with_reducible repeat' (first | assumption | exact Kept.sub hm rfl | exact Kept.refl _ _ | refine KeptRes.next ?_ | refine Kept.cond ?_ ?_ | refine KeptRes.cond ?_ ?_ | refine KeptP.cond ?_ ?_ | apply State.braceTrigger_keeps | apply State.setFld_keeps | refine Kept.foldl ?_ ?_ | intro _ | refine KeptP.foldl ?_ ?_ | refine KeptP.of_eq (by assumption) ?_ | dsimp only | split | dsimp only | refine KeptP.fst ?_ | refine KeptP.mk ?_ | fail_if_no_progress (refine Kept.upd ?_ (by rfl) (by intro p hp; cases p <;> first | rfl | exact (Kept.no hm hp (by decide)).elim)))
theorem State.setThrottle_keeps {m : Nat} {r : State} (s : State) (duty : Nat) (limit : Nat) (hm : Nat.land 5767186 m = 5767186) (h : Kept m r s) : Kept m r (State.setThrottle s duty limit) := by
  unfold State.setThrottle
  with_reducible repeat' (first | assumption | exact Kept.sub hm rfl | exact Kept.refl _ _ | refine KeptRes.next ?_ | refine Kept.cond ?_ ?_ | refine KeptRes.cond ?_ ?_ | refine KeptP.cond ?_ ?_ | apply State.raise_keeps | apply State.setFld_keeps | apply State.setPower_keeps | refine Kept.foldl ?_ ?_ | intro _ | refine KeptP.foldl ?_ ?_ | refine KeptP.of_eq (by assumption) ?_ | dsimp only | split | dsimp only | refine KeptP.fst ?_ | refine KeptP.mk ?_ | fail_if_no_progress (refine Kept.upd ?_ (by rfl) (by intro p hp; cases p <;> first | rfl | exact (Kept.no hm hp (by decide)).elim)))
theorem State.snowplough_keeps {m : Nat} {r : State} (s : State) (w : Nat) (hm : Nat.land 5767186 m = 5767186) (h : Kept m r s) : Kept m r (State.snowplough s w) := by
  unfold State.snowplough
  with_reducible repeat' (first | assumption | exact Kept.sub hm rfl | exact Kept.refl _ _ | refine KeptRes.next ?_ | refine Kept.cond ?_ ?_ | refine KeptRes.cond ?_ ?_ | refine KeptP.cond ?_ ?_ | apply State.raise_keeps | apply State.setThrottle_keeps | refine Kept.foldl ?_ ?_ | intro _ | refine KeptP.foldl ?_ ?_ | refine KeptP.of_eq (by assumption) ?_ | dsimp only | split | dsimp only | refine KeptP.fst ?_ | refine KeptP.mk ?_ | fail_if_no_progress (refine Kept.upd ?_ (by rfl) (by intro p hp; cases p <;> first | rfl | exact (Kept.no hm hp (by decide)).elim)))
theorem State.leaveRegion_keeps {m : Nat} {r : State} (s : State) (mv : Nat) (hm : Nat.land 2 m = 2) (h : Kept m r s) : Kept m r (State.leaveRegion s mv) := by
  unfold State.leaveRegion
  with_reducible repeat' (first | assumption | exact Kept.sub hm rfl | exact Kept.refl _ _ | refine KeptRes.next ?_ | refine Kept.cond ?_ ?_ | refine KeptRes.cond ?_ ?_ | refine KeptP.cond ?_ ?_ | apply State.setFld_keeps | refine Kept.foldl ?_ ?_ | intro _ | refine KeptP.foldl ?_ ?_ | refine KeptP.of_eq (by assumption) ?_ | dsimp only | split | dsimp only | refine KeptP.fst ?_ | refine KeptP.mk ?_ | fail_if_no_progress (refine Kept.upd ?_ (by rfl) (by intro p hp; cases p <;> first | rfl | exact (Kept.no hm hp (by decide)).elim)))
theorem execSnowploughTick_keeps {m : Nat} {r : State} (mv : Nat) (w : Nat) (w1ms : Nat) (w100ms : Nat) (s : State) (hm : Nat.land 5767186 m = 5767186) (h : Kept m r s) : KeptRes m r (execSnowploughTick mv w w1ms w100ms s) := by
  unfold execSnowploughTick
  with_reducible repeat' (first | assumption | exact Kept.sub hm rfl | exact Kept.refl _ _ | refine KeptRes.next ?_ | refine Kept.cond ?_ ?_ | refine KeptRes.cond ?_ ?_ | refine KeptP.cond ?_ ?_ | apply State.leaveRegion_keeps | apply State.setFld_keeps | apply State.showCap_keeps | apply State.snowplough_keeps | refine Kept.foldl ?_ ?_ | intro _ | refine KeptP.foldl ?_ ?_ | refine KeptP.of_eq (by assumption) ?_ | dsimp only | split | dsimp only | refine KeptP.fst ?_ | refine KeptP.mk ?_ | fail_if_no_progress (refine Kept.upd ?_ (by rfl) (by intro p hp; cases p <;> first | rfl | exact (Kept.no hm hp (by decide)).elim)))
theorem execPwrClearMinmax_keeps {m : Nat} {r : State} (src : Nat) (s : State) (hm : Nat.land 2 m = 2) (h : Kept m r s) : KeptRes m r (execPwrClearMinmax src s) := by
  unfold execPwrClearMinmax
  with_reducible repeat' (first | assumption | exact Kept.sub hm rfl | exact Kept.refl _ _ | refine KeptRes.next ?_ | refine Kept.cond ?_ ?_ | refine KeptRes.cond ?_ ?_ | refine KeptP.cond ?_ ?_ | apply State.setFld_keeps | refine Kept.foldl ?_ ?_ | intro _ | refine KeptP.foldl ?_ ?_ | refine KeptP.of_eq (by assumption) ?_ | dsimp only | split | dsimp only | refine KeptP.fst ?_ | refine KeptP.mk ?_ | fail_if_no_progress (refine Kept.upd ?_ (by rfl) (by intro p hp; cases p <;> first | rfl | exact (Kept.no hm hp (by decide)).elim)))
theorem execPwrClearBrace_keeps {m : Nat} {r : State} (src : Nat) (s : State) (hm : Nat.land 5242898 m = 5242898) (h : Kept m r s) : KeptRes m r (execPwrClearBrace src s) := by
  unfold execPwrClearBrace
  with_reducible repeat' (first | assumption | exact Kept.sub hm rfl | exact Kept.refl _ _ | refine KeptRes.next ?_ | refine Kept.cond ?_ ?_ | refine KeptRes.cond ?_ ?_ | refine KeptP.cond ?_ ?_ | apply State.setRegAt_keeps | apply State.tellSensors_keeps | refine Kept.foldl ?_ ?_ | intro _ | refine KeptP.foldl ?_ ?_ | refine KeptP.of_eq (by assumption) ?_ | dsimp only | split | dsimp only | refine KeptP.fst ?_ | refine KeptP.mk ?_ | fail_if_no_progress (refine Kept.upd ?_ (by rfl) (by intro p hp; cases p <;> first | rfl | exact (Kept.no hm hp (by decide)).elim)))
theorem execBraceFlushStart_keeps {m : Nat} {r : State} (us : Nat) (s : State) (hm : Nat.land 524546 m = 524546) (h : Kept m r s) : KeptRes m r (execBraceFlushStart us s) := by
  unfold execBraceFlushStart
  with_reducible repeat' (first | assumption | exact Kept.sub hm rfl | exact Kept.refl _ _ | refine KeptRes.next ?_ | refine Kept.cond ?_ ?_ | refine KeptRes.cond ?_ ?_ | refine KeptP.cond ?_ ?_ | apply State.setFld_keeps | apply State.setHalf_keeps | refine Kept.foldl ?_ ?_ | intro _ | refine KeptP.foldl ?_ ?_ | refine KeptP.of_eq (by assumption) ?_ | dsimp only | split | dsimp only | refine KeptP.fst ?_ | refine KeptP.mk ?_ | fail_if_no_progress (refine Kept.upd ?_ (by rfl) (by intro p hp; cases p <;> first | rfl | exact (Kept.no hm hp (by decide)).elim)))
theorem execBraceCommitRecord_keeps {m : Nat} {r : State} (us : Nat) (dieFailed : Bool) (lost : List Nat) (s : State) (hm : Nat.land 8276754 m = 8276754) (h : Kept m r s) : KeptRes m r (execBraceCommitRecord us dieFailed lost s) := by
  unfold execBraceCommitRecord
  with_reducible repeat' (first | assumption | exact Kept.sub hm rfl | exact Kept.refl _ _ | refine KeptRes.next ?_ | refine Kept.cond ?_ ?_ | refine KeptRes.cond ?_ ?_ | refine KeptP.cond ?_ ?_ | apply State.braceEnd_keeps | apply State.setHalf_keeps | refine Kept.foldl ?_ ?_ | intro _ | refine KeptP.foldl ?_ ?_ | refine KeptP.of_eq (by assumption) ?_ | dsimp only | split | dsimp only | refine KeptP.fst ?_ | refine KeptP.mk ?_ | fail_if_no_progress (refine Kept.upd ?_ (by rfl) (by intro p hp; cases p <;> first | rfl | exact (Kept.no hm hp (by decide)).elim)))
theorem execRestartQualified_keeps {m : Nat} {r : State} (s : State) (hm : Nat.land 524288 m = 524288) (h : Kept m r s) : KeptRes m r (execRestartQualified s) := by
  unfold execRestartQualified
  with_reducible repeat' (first | assumption | exact Kept.sub hm rfl | exact Kept.refl _ _ | refine KeptRes.next ?_ | refine Kept.cond ?_ ?_ | refine KeptRes.cond ?_ ?_ | refine KeptP.cond ?_ ?_ | refine Kept.foldl ?_ ?_ | intro _ | refine KeptP.foldl ?_ ?_ | refine KeptP.of_eq (by assumption) ?_ | dsimp only | split | dsimp only | refine KeptP.fst ?_ | refine KeptP.mk ?_ | fail_if_no_progress (refine Kept.upd ?_ (by rfl) (by intro p hp; cases p <;> first | rfl | exact (Kept.no hm hp (by decide)).elim)))
theorem State.junctionStep_keeps {m : Nat} {r : State} (s : State) (t : Nat) (hm : Nat.land 524288 m = 524288) (h : Kept m r s) : Kept m r (State.junctionStep s t) := by
  unfold State.junctionStep
  with_reducible repeat' (first | assumption | exact Kept.sub hm rfl | exact Kept.refl _ _ | refine KeptRes.next ?_ | refine Kept.cond ?_ ?_ | refine KeptRes.cond ?_ ?_ | refine KeptP.cond ?_ ?_ | refine Kept.foldl ?_ ?_ | intro _ | refine KeptP.foldl ?_ ?_ | refine KeptP.of_eq (by assumption) ?_ | dsimp only | split | dsimp only | refine KeptP.fst ?_ | refine KeptP.mk ?_ | fail_if_no_progress (refine Kept.upd ?_ (by rfl) (by intro p hp; cases p <;> first | rfl | exact (Kept.no hm hp (by decide)).elim)))
theorem State.thermalTrip_keeps {m : Nat} {r : State} (s : State) (sensor : Nat) (hm : Nat.land 16777210 m = 16777210) (h : Kept m r s) : Kept m r (State.thermalTrip s sensor) := by
  unfold State.thermalTrip
  with_reducible repeat' (first | assumption | exact Kept.sub hm rfl | exact Kept.refl _ _ | refine KeptRes.next ?_ | refine Kept.cond ?_ ?_ | refine KeptRes.cond ?_ ?_ | refine KeptP.cond ?_ ?_ | apply State.braceTrigger_keeps | apply State.fatal_keeps | refine Kept.foldl ?_ ?_ | intro _ | refine KeptP.foldl ?_ ?_ | refine KeptP.of_eq (by assumption) ?_ | dsimp only | split | dsimp only | refine KeptP.fst ?_ | refine KeptP.mk ?_ | fail_if_no_progress (refine Kept.upd ?_ (by rfl) (by intro p hp; cases p <;> first | rfl | exact (Kept.no hm hp (by decide)).elim)))
theorem execThermalSample_keeps {m : Nat} {r : State} (temp : Nat) (sensor : Nat) (selfFail : Bool) (s : State) (hm : Nat.land 16777210 m = 16777210) (h : Kept m r s) : KeptRes m r (execThermalSample temp sensor selfFail s) := by
  unfold execThermalSample
  with_reducible repeat' (first | assumption | exact Kept.sub hm rfl | exact Kept.refl _ _ | refine KeptRes.next ?_ | refine Kept.cond ?_ ?_ | refine KeptRes.cond ?_ ?_ | refine KeptP.cond ?_ ?_ | apply State.junctionStep_keeps | apply State.showCap_keeps | apply State.thermalTrip_keeps | refine Kept.foldl ?_ ?_ | intro _ | refine KeptP.foldl ?_ ?_ | refine KeptP.of_eq (by assumption) ?_ | dsimp only | split | dsimp only | refine KeptP.fst ?_ | refine KeptP.mk ?_ | fail_if_no_progress (refine Kept.upd ?_ (by rfl) (by intro p hp; cases p <;> first | rfl | exact (Kept.no hm hp (by decide)).elim)))
theorem execSqTailDoorbell_keeps {m : Nat} {r : State} (src : Nat) (qp : Nat) (tail : Nat) (s : State) (hm : Nat.land 5767474 m = 5767474) (h : Kept m r s) : KeptRes m r (execSqTailDoorbell src qp tail s) := by
  unfold execSqTailDoorbell
  with_reducible repeat' (first | assumption | exact Kept.sub hm rfl | exact Kept.refl _ _ | refine KeptRes.next ?_ | refine Kept.cond ?_ ?_ | refine KeptRes.cond ?_ ?_ | refine KeptP.cond ?_ ?_ | apply State.qpError_keeps | apply State.setQp_keeps | apply State.wake_keeps | refine Kept.foldl ?_ ?_ | intro _ | refine KeptP.foldl ?_ ?_ | refine KeptP.of_eq (by assumption) ?_ | dsimp only | split | dsimp only | refine KeptP.fst ?_ | refine KeptP.mk ?_ | fail_if_no_progress (refine Kept.upd ?_ (by rfl) (by intro p hp; cases p <;> first | rfl | exact (Kept.no hm hp (by decide)).elim)))
theorem execCqHeadDoorbell_keeps {m : Nat} {r : State} (src : Nat) (qp : Nat) (head : Nat) (s : State) (hm : Nat.land 5767474 m = 5767474) (h : Kept m r s) : KeptRes m r (execCqHeadDoorbell src qp head s) := by
  unfold execCqHeadDoorbell
  with_reducible repeat' (first | assumption | exact Kept.sub hm rfl | exact Kept.refl _ _ | refine KeptRes.next ?_ | refine Kept.cond ?_ ?_ | refine KeptRes.cond ?_ ?_ | refine KeptP.cond ?_ ?_ | apply State.qpError_keeps | apply State.setQp_keeps | apply State.wake_keeps | refine Kept.foldl ?_ ?_ | intro _ | refine KeptP.foldl ?_ ?_ | refine KeptP.of_eq (by assumption) ?_ | dsimp only | split | dsimp only | refine KeptP.fst ?_ | refine KeptP.mk ?_ | fail_if_no_progress (refine Kept.upd ?_ (by rfl) (by intro p hp; cases p <;> first | rfl | exact (Kept.no hm hp (by decide)).elim)))
theorem execSqFetch_keeps {m : Nat} {r : State} (src : Nat) (qp : Nat) (result : HostResult) (packet : Packet) (s : State) (hm : Nat.land 7340210 m = 7340210) (h : Kept m r s) : KeptRes m r (execSqFetch src qp result packet s) := by
  unfold execSqFetch
  with_reducible repeat' (first | assumption | exact Kept.sub hm rfl | exact Kept.refl _ _ | refine KeptRes.next ?_ | refine Kept.cond ?_ ?_ | refine KeptRes.cond ?_ ?_ | refine KeptP.cond ?_ ?_ | apply State.emit_keeps | apply State.enterPacket_keeps | apply State.pulse_keeps | apply State.qpError_keeps | apply State.ringPage_keeps | apply State.setQp_keeps | refine Kept.foldl ?_ ?_ | intro _ | refine KeptP.foldl ?_ ?_ | refine KeptP.of_eq (by assumption) ?_ | dsimp only | split | dsimp only | refine KeptP.fst ?_ | refine KeptP.mk ?_ | fail_if_no_progress (refine Kept.upd ?_ (by rfl) (by intro p hp; cases p <;> first | rfl | exact (Kept.no hm hp (by decide)).elim)))
theorem execBarrierRelease_keeps {m : Nat} {r : State} (entry : Nat) (s : State) (hm : Nat.land 2097152 m = 2097152) (h : Kept m r s) : KeptRes m r (execBarrierRelease entry s) := by
  unfold execBarrierRelease
  with_reducible repeat' (first | assumption | exact Kept.sub hm rfl | exact Kept.refl _ _ | refine KeptRes.next ?_ | refine Kept.cond ?_ ?_ | refine KeptRes.cond ?_ ?_ | refine KeptP.cond ?_ ?_ | apply State.setEntry_keeps | refine Kept.foldl ?_ ?_ | intro _ | refine KeptP.foldl ?_ ?_ | refine KeptP.of_eq (by assumption) ?_ | dsimp only | split | dsimp only | refine KeptP.fst ?_ | refine KeptP.mk ?_ | fail_if_no_progress (refine Kept.upd ?_ (by rfl) (by intro p hp; cases p <;> first | rfl | exact (Kept.no hm hp (by decide)).elim)))
theorem execCommandComplete_keeps {m : Nat} {r : State} (entry : Nat) (delivered : Bool) (s : State) (hm : Nat.land 16777146 m = 16777146) (h : Kept m r s) : KeptRes m r (execCommandComplete entry delivered s) := by
  unfold execCommandComplete
  with_reducible repeat' (first | assumption | exact Kept.sub hm rfl | exact Kept.refl _ _ | refine KeptRes.next ?_ | refine Kept.cond ?_ ?_ | refine KeptRes.cond ?_ ?_ | refine KeptP.cond ?_ ?_ | apply State.answerOrigin_keeps | apply State.cmdCpl_keeps | apply State.endEntry_keeps | apply State.freeSlotOf_keeps | apply State.landResults_keeps | apply State.migrateOutEnded_keeps | apply State.qpError_keeps | apply State.setEntry_keeps | apply State.setQp_keeps | apply State.setSource_keeps | apply State.settle_keeps | apply State.withdraw_keeps | apply State.writeRecord_keeps | apply State.xltCompleted_keeps | refine Kept.foldl ?_ ?_ | intro _ | refine KeptP.foldl ?_ ?_ | refine KeptP.of_eq (by assumption) ?_ | dsimp only | split | dsimp only | refine KeptP.fst ?_ | refine KeptP.mk ?_ | fail_if_no_progress (refine Kept.upd ?_ (by rfl) (by intro p hp; cases p <;> first | rfl | exact (Kept.no hm hp (by decide)).elim)))
theorem execCmdCpl_keeps {m : Nat} {r : State} (entry : Nat) (delivered : Bool) (s : State) (hm : Nat.land 7815226 m = 7815226) (h : Kept m r s) : KeptRes m r (execCmdCpl entry delivered s) := by
  unfold execCmdCpl
  with_reducible repeat' (first | assumption | exact Kept.sub hm rfl | exact Kept.refl _ _ | refine KeptRes.next ?_ | refine Kept.cond ?_ ?_ | refine KeptRes.cond ?_ ?_ | refine KeptP.cond ?_ ?_ | apply State.endEntry_keeps | apply State.releaseHandle_keeps | apply State.setSource_keeps | refine Kept.foldl ?_ ?_ | intro _ | refine KeptP.foldl ?_ ?_ | refine KeptP.of_eq (by assumption) ?_ | dsimp only | split | dsimp only | refine KeptP.fst ?_ | refine KeptP.mk ?_ | fail_if_no_progress (refine Kept.upd ?_ (by rfl) (by intro p hp; cases p <;> first | rfl | exact (Kept.no hm hp (by decide)).elim)))
theorem execCqCoalesceTimeout_keeps {m : Nat} {r : State} (src : Nat) (qp : Nat) (s : State) (hm : Nat.land 4194352 m = 4194352) (h : Kept m r s) : KeptRes m r (execCqCoalesceTimeout src qp s) := by
  unfold execCqCoalesceTimeout
  with_reducible repeat' (first | assumption | exact Kept.sub hm rfl | exact Kept.refl _ _ | refine KeptRes.next ?_ | refine Kept.cond ?_ ?_ | refine KeptRes.cond ?_ ?_ | refine KeptP.cond ?_ ?_ | apply State.signalCq_keeps | refine Kept.foldl ?_ ?_ | intro _ | refine KeptP.foldl ?_ ?_ | refine KeptP.of_eq (by assumption) ?_ | dsimp only | split | dsimp only | refine KeptP.fst ?_ | refine KeptP.mk ?_ | fail_if_no_progress (refine Kept.upd ?_ (by rfl) (by intro p hp; cases p <;> first | rfl | exact (Kept.no hm hp (by decide)).elim)))
theorem execCommandTimeout_keeps {m : Nat} {r : State} (entry : Nat) (s : State) (hm : Nat.land 16752538 m = 16752538) (h : Kept m r s) : KeptRes m r (execCommandTimeout entry s) := by
  unfold execCommandTimeout
  with_reducible repeat' (first | assumption | exact Kept.sub hm rfl | exact Kept.refl _ _ | refine KeptRes.next ?_ | refine Kept.cond ?_ ?_ | refine KeptRes.cond ?_ ?_ | refine KeptP.cond ?_ ?_ | apply State.stopEntry_keeps | refine Kept.foldl ?_ ?_ | intro _ | refine KeptP.foldl ?_ ?_ | refine KeptP.of_eq (by assumption) ?_ | dsimp only | split | dsimp only | refine KeptP.fst ?_ | refine KeptP.mk ?_ | fail_if_no_progress (refine Kept.upd ?_ (by rfl) (by intro p hp; cases p <;> first | rfl | exact (Kept.no hm hp (by decide)).elim)))
theorem execAbortQtag_keeps {m : Nat} {r : State} (src : Nat) (qp : Nat) (qtag : Nat) (s : State) (hm : Nat.land 16752570 m = 16752570) (h : Kept m r s) : KeptRes m r (execAbortQtag src qp qtag s) := by
  unfold execAbortQtag
  with_reducible repeat' (first | assumption | exact Kept.sub hm rfl | exact Kept.refl _ _ | refine KeptRes.next ?_ | refine Kept.cond ?_ ?_ | refine KeptRes.cond ?_ ?_ | refine KeptP.cond ?_ ?_ | apply State.abortAll_keeps | apply State.abortMissed_keeps | refine Kept.foldl ?_ ?_ | intro _ | refine KeptP.foldl ?_ ?_ | refine KeptP.of_eq (by assumption) ?_ | dsimp only | split | dsimp only | refine KeptP.fst ?_ | refine KeptP.mk ?_ | fail_if_no_progress (refine Kept.upd ?_ (by rfl) (by intro p hp; cases p <;> first | rfl | exact (Kept.no hm hp (by decide)).elim)))
theorem execAbortAllQp_keeps {m : Nat} {r : State} (src : Nat) (qp : Nat) (s : State) (hm : Nat.land 16752570 m = 16752570) (h : Kept m r s) : KeptRes m r (execAbortAllQp src qp s) := by
  unfold execAbortAllQp
  with_reducible repeat' (first | assumption | exact Kept.sub hm rfl | exact Kept.refl _ _ | refine KeptRes.next ?_ | refine Kept.cond ?_ ?_ | refine KeptRes.cond ?_ ?_ | refine KeptP.cond ?_ ?_ | apply State.abortAll_keeps | apply State.abortMissed_keeps | refine Kept.foldl ?_ ?_ | intro _ | refine KeptP.foldl ?_ ?_ | refine KeptP.of_eq (by assumption) ?_ | dsimp only | split | dsimp only | refine KeptP.fst ?_ | refine KeptP.mk ?_ | fail_if_no_progress (refine Kept.upd ?_ (by rfl) (by intro p hp; cases p <;> first | rfl | exact (Kept.no hm hp (by decide)).elim)))
theorem execResultRelease_keeps {m : Nat} {r : State} (src : Nat) (handles : List Nat) (s : State) (hm : Nat.land 4194354 m = 4194354) (h : Kept m r s) : KeptRes m r (execResultRelease src handles s) := by
  unfold execResultRelease
  with_reducible repeat' (first | assumption | exact Kept.sub hm rfl | exact Kept.refl _ _ | refine KeptRes.next ?_ | refine Kept.cond ?_ ?_ | refine KeptRes.cond ?_ ?_ | refine KeptP.cond ?_ ?_ | apply State.releaseHandle_keeps | apply State.releaseStale_keeps | refine Kept.foldl ?_ ?_ | intro _ | refine KeptP.foldl ?_ ?_ | refine KeptP.of_eq (by assumption) ?_ | dsimp only | split | dsimp only | refine KeptP.fst ?_ | refine KeptP.mk ?_ | fail_if_no_progress (refine Kept.upd ?_ (by rfl) (by intro p hp; cases p <;> first | rfl | exact (Kept.no hm hp (by decide)).elim)))
theorem execQpEnable_keeps {m : Nat} {r : State} (src : Nat) (s : State) (hm : Nat.land 4194354 m = 4194354) (h : Kept m r s) : KeptRes m r (execQpEnable src s) := by
  unfold execQpEnable
  with_reducible repeat' (first | assumption | exact Kept.sub hm rfl | exact Kept.refl _ _ | refine KeptRes.next ?_ | refine Kept.cond ?_ ?_ | refine KeptRes.cond ?_ ?_ | refine KeptP.cond ?_ ?_ | apply State.qpError_keeps | apply State.setQp_keeps | refine Kept.foldl ?_ ?_ | intro _ | refine KeptP.foldl ?_ ?_ | refine KeptP.of_eq (by assumption) ?_ | dsimp only | split | dsimp only | refine KeptP.fst ?_ | refine KeptP.mk ?_ | fail_if_no_progress (refine Kept.upd ?_ (by rfl) (by intro p hp; cases p <;> first | rfl | exact (Kept.no hm hp (by decide)).elim)))
theorem execQpDisable_keeps {m : Nat} {r : State} (src : Nat) (s : State) (hm : Nat.land 4194354 m = 4194354) (h : Kept m r s) : KeptRes m r (execQpDisable src s) := by
  unfold execQpDisable
  with_reducible repeat' (first | assumption | exact Kept.sub hm rfl | exact Kept.refl _ _ | refine KeptRes.next ?_ | refine Kept.cond ?_ ?_ | refine KeptRes.cond ?_ ?_ | refine KeptP.cond ?_ ?_ | apply State.drainQp_keeps | apply State.setQp_keeps | refine Kept.foldl ?_ ?_ | intro _ | refine KeptP.foldl ?_ ?_ | refine KeptP.of_eq (by assumption) ?_ | dsimp only | split | dsimp only | refine KeptP.fst ?_ | refine KeptP.mk ?_ | fail_if_no_progress (refine Kept.upd ?_ (by rfl) (by intro p hp; cases p <;> first | rfl | exact (Kept.no hm hp (by decide)).elim)))
theorem State.clearFnRegs_keeps {m : Nat} {r : State} (s : State) (src : Nat) (hm : Nat.land 34 m = 34) (h : Kept m r s) : Kept m r (State.clearFnRegs s src) := by
  unfold State.clearFnRegs
  exact State.setSource_keeps _ _ _ (Kept.sub hm rfl) (h.trans ⟨⟨rfl, List.prefix_refl _, id, fun k => cellsSorted_filter _ k⟩, by intro p hp; cases p <;> first | rfl | exact (Kept.no hm hp (by decide)).elim⟩)
theorem State.resetFunction_keeps {m : Nat} {r : State} (s : State) (src : Nat) (hm : Nat.land 16752570 m = 16752570) (h : Kept m r s) : Kept m r (State.resetFunction s src) := by
  unfold State.resetFunction
  with_reducible repeat' (first | assumption | exact Kept.sub hm rfl | exact Kept.refl _ _ | refine KeptRes.next ?_ | refine Kept.cond ?_ ?_ | refine KeptRes.cond ?_ ?_ | refine KeptP.cond ?_ ?_ | apply State.clearFnRegs_keeps | apply State.dropEntry_keeps | apply State.fnRaise_keeps | apply State.setEntry_keeps | apply State.stopEntry_keeps | apply State.takeHeld_keeps | refine Kept.foldl ?_ ?_ | intro _ | refine KeptP.foldl ?_ ?_ | refine KeptP.of_eq (by assumption) ?_ | dsimp only | split | dsimp only | refine KeptP.fst ?_ | refine KeptP.mk ?_ | fail_if_no_progress (refine Kept.upd ?_ (by rfl) (by intro p hp; cases p <;> first | rfl | exact (Kept.no hm hp (by decide)).elim)))
theorem execFunctionLevelReset_keeps {m : Nat} {r : State} (src : Nat) (s : State) (hm : Nat.land 16752570 m = 16752570) (h : Kept m r s) : KeptRes m r (execFunctionLevelReset src s) := by
  unfold execFunctionLevelReset
  with_reducible repeat' (first | assumption | exact Kept.sub hm rfl | exact Kept.refl _ _ | refine KeptRes.next ?_ | refine Kept.cond ?_ ?_ | refine KeptRes.cond ?_ ?_ | refine KeptP.cond ?_ ?_ | apply State.resetFunction_keeps | refine Kept.foldl ?_ ?_ | intro _ | refine KeptP.foldl ?_ ?_ | refine KeptP.of_eq (by assumption) ?_ | dsimp only | split | dsimp only | refine KeptP.fst ?_ | refine KeptP.mk ?_ | fail_if_no_progress (refine Kept.upd ?_ (by rfl) (by intro p hp; cases p <;> first | rfl | exact (Kept.no hm hp (by decide)).elim)))
theorem State.resetPcie_keeps {m : Nat} {r : State} (s : State) (port : Nat) (hm : Nat.land 16752570 m = 16752570) (h : Kept m r s) : Kept m r (State.resetPcie s port) := by
  unfold State.resetPcie
  with_reducible repeat' (first | assumption | exact Kept.sub hm rfl | exact Kept.refl _ _ | refine KeptRes.next ?_ | refine Kept.cond ?_ ?_ | refine KeptRes.cond ?_ ?_ | refine KeptP.cond ?_ ?_ | apply State.raise_keeps | apply State.resetFunction_keeps | refine Kept.foldl ?_ ?_ | intro _ | refine KeptP.foldl ?_ ?_ | refine KeptP.of_eq (by assumption) ?_ | dsimp only | split | dsimp only | refine KeptP.fst ?_ | refine KeptP.mk ?_ | fail_if_no_progress (refine Kept.upd ?_ (by rfl) (by intro p hp; cases p <;> first | rfl | exact (Kept.no hm hp (by decide)).elim)))
theorem execPcieLinkDown_keeps {m : Nat} {r : State} (port : Nat) (s : State) (hm : Nat.land 16752570 m = 16752570) (h : Kept m r s) : KeptRes m r (execPcieLinkDown port s) := by
  unfold execPcieLinkDown
  with_reducible repeat' (first | assumption | exact Kept.sub hm rfl | exact Kept.refl _ _ | refine KeptRes.next ?_ | refine Kept.cond ?_ ?_ | refine KeptRes.cond ?_ ?_ | refine KeptP.cond ?_ ?_ | apply State.resetPcie_keeps | refine Kept.foldl ?_ ?_ | intro _ | refine KeptP.foldl ?_ ?_ | refine KeptP.of_eq (by assumption) ?_ | dsimp only | split | dsimp only | refine KeptP.fst ?_ | refine KeptP.mk ?_ | fail_if_no_progress (refine Kept.upd ?_ (by rfl) (by intro p hp; cases p <;> first | rfl | exact (Kept.no hm hp (by decide)).elim)))
theorem execPowerOnReset_keeps {m : Nat} {r : State} (straps : Straps) (flash : BootFlash) (s : State) (hm : Nat.land 16777190 m = 16777190) (h : Kept m r s) : KeptRes m r (execPowerOnReset straps flash s) := by
  unfold execPowerOnReset
  split
  · exact KeptRes.next h
  · have k0 : Kept m r s.losePower := State.losePower_keeps s (Kept.sub hm rfl) h
    generalize s.losePower = old at k0
    extract_lets oldS x new1 new2
    have k1 : Kept m r new1 := k0.trans ⟨⟨rfl, List.prefix_refl _, id, fun _ => rfl⟩, by intro p hp; cases p <;> first | rfl | exact (Kept.no hm hp (by decide)).elim⟩
    have k2 : Kept m r new2 := State.secureBoot_keeps _ _ (Kept.sub hm rfl) k1
    clear_value new2
    exact KeptRes.next (Kept.upd (State.showStraps_keeps _ (Kept.sub hm rfl) k2) rfl (by intro p hp; cases p <;> first | rfl | exact (Kept.no hm hp (by decide)).elim))
theorem State.trainAll_keeps {m : Nat} {r : State} (s : State) (flash : Bool) (hm : Nat.land 264 m = 264) (h : Kept m r s) : Kept m r (State.trainAll s flash) := by
  unfold State.trainAll
  with_reducible repeat' (first | assumption | exact Kept.sub hm rfl | exact Kept.refl _ _ | refine KeptRes.next ?_ | refine Kept.cond ?_ ?_ | refine KeptRes.cond ?_ ?_ | refine KeptP.cond ?_ ?_ | apply State.setTraining_keeps | apply State.tickFresh_keeps | refine Kept.foldl ?_ ?_ | intro _ | refine KeptP.foldl ?_ ?_ | refine KeptP.of_eq (by assumption) ?_ | dsimp only | split | dsimp only | refine KeptP.fst ?_ | refine KeptP.mk ?_ | fail_if_no_progress (refine Kept.upd ?_ (by rfl) (by intro p hp; cases p <;> first | rfl | exact (Kept.no hm hp (by decide)).elim)))
theorem State.populate_keeps {m : Nat} {r : State} (s : State) (pop : Population) (hm : Nat.land 4718874 m = 4718874) (h : Kept m r s) : Kept m r (State.populate s pop) := by
  unfold State.populate
  with_reducible repeat' (first | assumption | exact Kept.sub hm rfl | exact Kept.refl _ _ | refine KeptRes.next ?_ | refine Kept.cond ?_ ?_ | refine KeptRes.cond ?_ ?_ | refine KeptP.cond ?_ ?_ | apply State.raise_keeps | apply State.setFld_keeps | apply State.setRegAt_keeps | apply State.trainAll_keeps | refine Kept.foldl ?_ ?_ | intro _ | refine KeptP.foldl ?_ ?_ | refine KeptP.of_eq (by assumption) ?_ | dsimp only | split | dsimp only | refine KeptP.fst ?_ | refine KeptP.mk ?_ | fail_if_no_progress (refine Kept.upd ?_ (by rfl) (by intro p hp; cases p <;> first | rfl | exact (Kept.no hm hp (by decide)).elim)))
theorem State.noteCause_keeps {m : Nat} {r : State} (s : State) (fatal : Bool) (hm : Nat.land 2 m = 2) (h : Kept m r s) : Kept m r (State.noteCause s fatal) := by
  unfold State.noteCause
  with_reducible repeat' (first | assumption | exact Kept.sub hm rfl | exact Kept.refl _ _ | refine KeptRes.next ?_ | refine Kept.cond ?_ ?_ | refine KeptRes.cond ?_ ?_ | refine KeptP.cond ?_ ?_ | apply State.count_keeps | apply State.setFld_keeps | refine Kept.foldl ?_ ?_ | intro _ | refine KeptP.foldl ?_ ?_ | refine KeptP.of_eq (by assumption) ?_ | dsimp only | split | dsimp only | refine KeptP.fst ?_ | refine KeptP.mk ?_ | fail_if_no_progress (refine Kept.upd ?_ (by rfl) (by intro p hp; cases p <;> first | rfl | exact (Kept.no hm hp (by decide)).elim)))
theorem State.startCadence_keeps {m : Nat} {r : State} (s : State) (hm : Nat.land 5914710 m = 5914710) (h : Kept m r s) : Kept m r (State.startCadence s) := by
  unfold State.startCadence
  with_reducible repeat' (first | assumption | exact Kept.sub hm rfl | exact Kept.refl _ _ | refine KeptRes.next ?_ | refine Kept.cond ?_ ?_ | refine KeptRes.cond ?_ ?_ | refine KeptP.cond ?_ ?_ | apply State.chooseParent_keeps | apply State.detectPort_keeps | apply State.setFld_keeps | apply State.showPeriod_keeps | refine Kept.foldl ?_ ?_ | intro _ | refine KeptP.foldl ?_ ?_ | refine KeptP.of_eq (by assumption) ?_ | dsimp only | split | dsimp only | refine KeptP.fst ?_ | refine KeptP.mk ?_ | fail_if_no_progress (refine Kept.upd ?_ (by rfl) (by intro p hp; cases p <;> first | rfl | exact (Kept.no hm hp (by decide)).elim)))
theorem State.startRest_keeps {m : Nat} {r : State} (s : State) (pop : Population) (badCheckers : List Nat) (us : Nat) (hm : Nat.land 16768990 m = 16768990) (h : Kept m r s) : Kept m r (State.startRest s pop badCheckers us) := by
  unfold State.startRest
  with_reducible repeat' (first | assumption | exact Kept.sub hm rfl | exact Kept.refl _ _ | refine KeptRes.next ?_ | refine Kept.cond ?_ ?_ | refine KeptRes.cond ?_ ?_ | refine KeptP.cond ?_ ?_ | apply State.noteCause_keeps | apply State.populate_keeps | apply State.selfFence_keeps | apply State.setFld_keeps | apply State.setPower_keeps | apply State.startCadence_keeps | apply State.tellSensors_keeps | apply State.wireBroken_keeps | refine Kept.foldl ?_ ?_ | intro _ | refine KeptP.foldl ?_ ?_ | refine KeptP.of_eq (by assumption) ?_ | dsimp only | split | dsimp only | refine KeptP.fst ?_ | refine KeptP.mk ?_ | fail_if_no_progress (refine Kept.upd ?_ (by rfl) (by intro p hp; cases p <;> first | rfl | exact (Kept.no hm hp (by decide)).elim)))
theorem execStartup_keeps {m : Nat} {r : State} (flash : BootFlash) (pop : Population) (badCheckers : List Nat) (islandTemp : Nat) (us : Nat) (s : State) (hm : Nat.land 16777214 m = 16777214) (h : Kept m r s) : KeptRes m r (execStartup flash pop badCheckers islandTemp us s) := by
  unfold execStartup
  with_reducible repeat' (first | assumption | exact Kept.sub hm rfl | exact Kept.refl _ _ | refine KeptRes.next ?_ | refine Kept.cond ?_ ?_ | refine KeptRes.cond ?_ ?_ | refine KeptP.cond ?_ ?_ | apply State.emit_keeps | apply State.returnWipe_keeps | apply State.secureBoot_keeps | apply State.setFld_keeps | apply State.startRest_keeps | apply State.startupReset_keeps | apply State.tellSensors_keeps | refine Kept.foldl ?_ ?_ | intro _ | refine KeptP.foldl ?_ ?_ | refine KeptP.of_eq (by assumption) ?_ | dsimp only | split | dsimp only | refine KeptP.fst ?_ | refine KeptP.mk ?_ | fail_if_no_progress (refine Kept.upd ?_ (by rfl) (by intro p hp; cases p <;> first | rfl | exact (Kept.no hm hp (by decide)).elim)))
theorem State.replayEntry_keeps {m : Nat} {r : State} (s : State) (j : JournalEntry) (hm : Nat.land 8388864 m = 8388864) (h : Kept m r s) : Kept m r (State.replayEntry s j) := by
  unfold State.replayEntry
  with_reducible repeat' (first | assumption | exact Kept.sub hm rfl | exact Kept.refl _ _ | refine KeptRes.next ?_ | refine Kept.cond ?_ ?_ | refine KeptRes.cond ?_ ?_ | refine KeptP.cond ?_ ?_ | apply State.pokeBytes_keeps | apply State.setGran_keeps | apply State.setPage_keeps | refine Kept.foldl ?_ ?_ | intro _ | refine KeptP.foldl ?_ ?_ | refine KeptP.of_eq (by assumption) ?_ | dsimp only | split | dsimp only | refine KeptP.fst ?_ | refine KeptP.mk ?_ | fail_if_no_progress (refine Kept.upd ?_ (by rfl) (by intro p hp; cases p <;> first | rfl | exact (Kept.no hm hp (by decide)).elim)))
theorem State.loseDelta_keeps {m : Nat} {r : State} (s : State) (hm : Nat.land 8388864 m = 8388864) (h : Kept m r s) : Kept m r (State.loseDelta s) := by
  unfold State.loseDelta
  with_reducible repeat' (first | assumption | exact Kept.sub hm rfl | exact Kept.refl _ _ | refine KeptRes.next ?_ | refine Kept.cond ?_ ?_ | refine KeptRes.cond ?_ ?_ | refine KeptP.cond ?_ ?_ | apply State.restorePage_keeps | refine Kept.foldl ?_ ?_ | intro _ | refine KeptP.foldl ?_ ?_ | refine KeptP.of_eq (by assumption) ?_ | dsimp only | split | dsimp only | refine KeptP.fst ?_ | refine KeptP.mk ?_ | fail_if_no_progress (refine Kept.upd ?_ (by rfl) (by intro p hp; cases p <;> first | rfl | exact (Kept.no hm hp (by decide)).elim)))
theorem State.readBrace_keeps {m : Nat} {r : State} (s : State) (deltaOk : Bool) (damage : List (Nat × Nat × Nat)) (hm : Nat.land 16648466 m = 16648466) (h : Kept m r s) : Kept m r (State.readBrace s deltaOk damage) := by
  unfold State.readBrace
  with_reducible repeat' (first | assumption | exact Kept.sub hm rfl | exact Kept.refl _ _ | refine KeptRes.next ?_ | refine Kept.cond ?_ ?_ | refine KeptRes.cond ?_ ?_ | refine KeptP.cond ?_ ?_ | apply State.logError_keeps | apply State.loseDelta_keeps | apply State.raise_keeps | apply State.replayEntry_keeps | apply State.setFld_keeps | refine Kept.foldl ?_ ?_ | intro _ | refine KeptP.foldl ?_ ?_ | refine KeptP.of_eq (by assumption) ?_ | dsimp only | split | dsimp only | refine KeptP.fst ?_ | refine KeptP.mk ?_ | fail_if_no_progress (refine Kept.upd ?_ (by rfl) (by intro p hp; cases p <;> first | rfl | exact (Kept.no hm hp (by decide)).elim)))
theorem State.layOut_keeps {m : Nat} {r : State} (s : State) (hm : Nat.land 1280 m = 1280) (h : Kept m r s) : Kept m r (State.layOut s) := by
  unfold State.layOut
  with_reducible repeat' (first | assumption | exact Kept.sub hm rfl | exact Kept.refl _ _ | refine KeptRes.next ?_ | refine Kept.cond ?_ ?_ | refine KeptRes.cond ?_ ?_ | refine KeptP.cond ?_ ?_ | refine Kept.foldl ?_ ?_ | intro _ | refine KeptP.foldl ?_ ?_ | refine KeptP.of_eq (by assumption) ?_ | dsimp only | split | dsimp only | refine KeptP.fst ?_ | refine KeptP.mk ?_ | fail_if_no_progress (refine Kept.upd ?_ (by rfl) (by intro p hp; cases p <;> first | rfl | exact (Kept.no hm hp (by decide)).elim)))
theorem State.eraseBrace_keeps {m : Nat} {r : State} (s : State) (hm : Nat.land 4194578 m = 4194578) (h : Kept m r s) : Kept m r (State.eraseBrace s) := by
  unfold State.eraseBrace
  with_reducible repeat' (first | assumption | exact Kept.sub hm rfl | exact Kept.refl _ _ | refine KeptRes.next ?_ | refine Kept.cond ?_ ?_ | refine KeptRes.cond ?_ ?_ | refine KeptP.cond ?_ ?_ | apply State.checkpoint_keeps | apply State.raise_keeps | apply State.setFld_keeps | refine Kept.foldl ?_ ?_ | intro _ | refine KeptP.foldl ?_ ?_ | refine KeptP.of_eq (by assumption) ?_ | dsimp only | split | dsimp only | refine KeptP.fst ?_ | refine KeptP.mk ?_ | fail_if_no_progress (refine Kept.upd ?_ (by rfl) (by intro p hp; cases p <;> first | rfl | exact (Kept.no hm hp (by decide)).elim)))
theorem execStoreBringup_keeps {m : Nat} {r : State} (deltaOk : Bool) (damage : List (Nat × Nat × Nat)) (us : Nat) (s : State) (hm : Nat.land 16649498 m = 16649498) (h : Kept m r s) : KeptRes m r (execStoreBringup deltaOk damage us s) := by
  unfold execStoreBringup
  with_reducible repeat' (first | assumption | exact Kept.sub hm rfl | exact Kept.refl _ _ | refine KeptRes.next ?_ | refine Kept.cond ?_ ?_ | refine KeptRes.cond ?_ ?_ | refine KeptP.cond ?_ ?_ | apply State.eraseBrace_keeps | apply State.layOut_keeps | apply State.raise_keeps | apply State.readBrace_keeps | apply State.setFld_keeps | apply State.tellSensors_keeps | apply State.tickFresh_keeps | refine Kept.foldl ?_ ?_ | intro _ | refine KeptP.foldl ?_ ?_ | refine KeptP.of_eq (by assumption) ?_ | dsimp only | split | dsimp only | refine KeptP.fst ?_ | refine KeptP.mk ?_ | fail_if_no_progress (refine Kept.upd ?_ (by rfl) (by intro p hp; cases p <;> first | rfl | exact (Kept.no hm hp (by decide)).elim)))
theorem execMetadataCheckpoint_keeps {m : Nat} {r : State} (s : State) (hm : Nat.land 256 m = 256) (h : Kept m r s) : KeptRes m r (execMetadataCheckpoint s) := by
  unfold execMetadataCheckpoint
  with_reducible repeat' (first | assumption | exact Kept.sub hm rfl | exact Kept.refl _ _ | refine KeptRes.next ?_ | refine Kept.cond ?_ ?_ | refine KeptRes.cond ?_ ?_ | refine KeptP.cond ?_ ?_ | apply State.checkpoint_keeps | refine Kept.foldl ?_ ?_ | intro _ | refine KeptP.foldl ?_ ?_ | refine KeptP.of_eq (by assumption) ?_ | dsimp only | split | dsimp only | refine KeptP.fst ?_ | refine KeptP.mk ?_ | fail_if_no_progress (refine Kept.upd ?_ (by rfl) (by intro p hp; cases p <;> first | rfl | exact (Kept.no hm hp (by decide)).elim)))
theorem State.dropPort_keeps {m : Nat} {r : State} (s : State) (p : Nat) (hm : Nat.land 4276242 m = 4276242) (h : Kept m r s) : Kept m r (State.dropPort s p) := by
  unfold State.dropPort
  with_reducible repeat' (first | assumption | exact Kept.sub hm rfl | exact Kept.refl _ _ | refine KeptRes.next ?_ | refine Kept.cond ?_ ?_ | refine KeptRes.cond ?_ ?_ | refine KeptP.cond ?_ ?_ | apply State.portLeaves_keeps | apply State.raise_keeps | apply State.setPort_keeps | refine Kept.foldl ?_ ?_ | intro _ | refine KeptP.foldl ?_ ?_ | refine KeptP.of_eq (by assumption) ?_ | dsimp only | split | dsimp only | refine KeptP.fst ?_ | refine KeptP.mk ?_ | fail_if_no_progress (refine Kept.upd ?_ (by rfl) (by intro p hp; cases p <;> first | rfl | exact (Kept.no hm hp (by decide)).elim)))
theorem execRefclkLoss_keeps {m : Nat} {r : State} (s : State) (hm : Nat.land 16768954 m = 16768954) (h : Kept m r s) : KeptRes m r (execRefclkLoss s) := by
  unfold execRefclkLoss
  with_reducible repeat' (first | assumption | exact Kept.sub hm rfl | exact Kept.refl _ _ | refine KeptRes.next ?_ | refine Kept.cond ?_ ?_ | refine KeptRes.cond ?_ ?_ | refine KeptP.cond ?_ ?_ | apply State.dropPort_keeps | apply State.fatal_keeps | apply State.resetPcie_keeps | apply State.tellSensors_keeps | refine Kept.foldl ?_ ?_ | intro _ | refine KeptP.foldl ?_ ?_ | refine KeptP.of_eq (by assumption) ?_ | dsimp only | split | dsimp only | refine KeptP.fst ?_ | refine KeptP.mk ?_ | fail_if_no_progress (refine Kept.upd ?_ (by rfl) (by intro p hp; cases p <;> first | rfl | exact (Kept.no hm hp (by decide)).elim)))
theorem execRefclkRestored_keeps {m : Nat} {r : State} (s : State) (hm : Nat.land 5767186 m = 5767186) (h : Kept m r s) : KeptRes m r (execRefclkRestored s) := by
  unfold execRefclkRestored
  with_reducible repeat' (first | assumption | exact Kept.sub hm rfl | exact Kept.refl _ _ | refine KeptRes.next ?_ | refine Kept.cond ?_ ?_ | refine KeptRes.cond ?_ ?_ | refine KeptP.cond ?_ ?_ | apply State.tellSensors_keeps | refine Kept.foldl ?_ ?_ | intro _ | refine KeptP.foldl ?_ ?_ | refine KeptP.of_eq (by assumption) ?_ | dsimp only | split | dsimp only | refine KeptP.fst ?_ | refine KeptP.mk ?_ | fail_if_no_progress (refine Kept.upd ?_ (by rfl) (by intro p hp; cases p <;> first | rfl | exact (Kept.no hm hp (by decide)).elim)))
theorem execClkSscWrite_keeps {m : Nat} {r : State} (src : Nat) (value : Word) (s : State) (hm : Nat.land 4194322 m = 4194322) (h : Kept m r s) : KeptRes m r (execClkSscWrite src value s) := by
  unfold execClkSscWrite
  with_reducible repeat' (first | assumption | exact Kept.sub hm rfl | exact Kept.refl _ _ | refine KeptRes.next ?_ | refine Kept.cond ?_ ?_ | refine KeptRes.cond ?_ ?_ | refine KeptP.cond ?_ ?_ | apply State.raise_keeps | apply State.setFld_keeps | refine Kept.foldl ?_ ?_ | intro _ | refine KeptP.foldl ?_ ?_ | refine KeptP.of_eq (by assumption) ?_ | dsimp only | split | dsimp only | refine KeptP.fst ?_ | refine KeptP.mk ?_ | fail_if_no_progress (refine Kept.upd ?_ (by rfl) (by intro p hp; cases p <;> first | rfl | exact (Kept.no hm hp (by decide)).elim)))
theorem execSysRstAssert_keeps {m : Nat} {r : State} (s : State) (hm : Nat.land 16777210 m = 16777210) (h : Kept m r s) : KeptRes m r (execSysRstAssert s) := by
  unfold execSysRstAssert
  with_reducible repeat' (first | assumption | exact Kept.sub hm rfl | exact Kept.refl _ _ | refine KeptRes.next ?_ | refine Kept.cond ?_ ?_ | refine KeptRes.cond ?_ ?_ | refine KeptP.cond ?_ ?_ | apply State.braceTrigger_keeps | apply State.dropUpdate_keeps | apply State.toStandby_keeps | refine Kept.foldl ?_ ?_ | intro _ | refine KeptP.foldl ?_ ?_ | refine KeptP.of_eq (by assumption) ?_ | dsimp only | split | dsimp only | refine KeptP.fst ?_ | refine KeptP.mk ?_ | fail_if_no_progress (refine Kept.upd ?_ (by rfl) (by intro p hp; cases p <;> first | rfl | exact (Kept.no hm hp (by decide)).elim)))
theorem execSysRstDeassert_keeps {m : Nat} {r : State} (s : State) (hm : Nat.land 524288 m = 524288) (h : Kept m r s) : KeptRes m r (execSysRstDeassert s) := by
  unfold execSysRstDeassert
  with_reducible repeat' (first | assumption | exact Kept.sub hm rfl | exact Kept.refl _ _ | refine KeptRes.next ?_ | refine Kept.cond ?_ ?_ | refine KeptRes.cond ?_ ?_ | refine KeptP.cond ?_ ?_ | refine Kept.foldl ?_ ?_ | intro _ | refine KeptP.foldl ?_ ?_ | refine KeptP.of_eq (by assumption) ?_ | dsimp only | split | dsimp only | refine KeptP.fst ?_ | refine KeptP.mk ?_ | fail_if_no_progress (refine Kept.upd ?_ (by rfl) (by intro p hp; cases p <;> first | rfl | exact (Kept.no hm hp (by decide)).elim)))
theorem execPerstAssert_keeps {m : Nat} {r : State} (port : Nat) (s : State) (hm : Nat.land 16752570 m = 16752570) (h : Kept m r s) : KeptRes m r (execPerstAssert port s) := by
  unfold execPerstAssert
  with_reducible repeat' (first | assumption | exact Kept.sub hm rfl | exact Kept.refl _ _ | refine KeptRes.next ?_ | refine Kept.cond ?_ ?_ | refine KeptRes.cond ?_ ?_ | refine KeptP.cond ?_ ?_ | apply State.resetPcie_keeps | refine Kept.foldl ?_ ?_ | intro _ | refine KeptP.foldl ?_ ?_ | refine KeptP.of_eq (by assumption) ?_ | dsimp only | split | dsimp only | refine KeptP.fst ?_ | refine KeptP.mk ?_ | fail_if_no_progress (refine Kept.upd ?_ (by rfl) (by intro p hp; cases p <;> first | rfl | exact (Kept.no hm hp (by decide)).elim)))
theorem execPerstDeassert_keeps {m : Nat} {r : State} (port : Nat) (s : State) (hm : Nat.land 524288 m = 524288) (h : Kept m r s) : KeptRes m r (execPerstDeassert port s) := by
  unfold execPerstDeassert
  with_reducible repeat' (first | assumption | exact Kept.sub hm rfl | exact Kept.refl _ _ | refine KeptRes.next ?_ | refine Kept.cond ?_ ?_ | refine KeptRes.cond ?_ ?_ | refine KeptP.cond ?_ ?_ | refine Kept.foldl ?_ ?_ | intro _ | refine KeptP.foldl ?_ ?_ | refine KeptP.of_eq (by assumption) ?_ | dsimp only | split | dsimp only | refine KeptP.fst ?_ | refine KeptP.mk ?_ | fail_if_no_progress (refine Kept.upd ?_ (by rfl) (by intro p hp; cases p <;> first | rfl | exact (Kept.no hm hp (by decide)).elim)))
theorem execFenceReqAssert_keeps {m : Nat} {r : State} (s : State) (hm : Nat.land 16752538 m = 16752538) (h : Kept m r s) : KeptRes m r (execFenceReqAssert s) := by
  unfold execFenceReqAssert
  with_reducible repeat' (first | assumption | exact Kept.sub hm rfl | exact Kept.refl _ _ | refine KeptRes.next ?_ | refine Kept.cond ?_ ?_ | refine KeptRes.cond ?_ ?_ | refine KeptP.cond ?_ ?_ | apply State.raise_keeps | apply State.selfFence_keeps | refine Kept.foldl ?_ ?_ | intro _ | refine KeptP.foldl ?_ ?_ | refine KeptP.of_eq (by assumption) ?_ | dsimp only | split | dsimp only | refine KeptP.fst ?_ | refine KeptP.mk ?_ | fail_if_no_progress (refine Kept.upd ?_ (by rfl) (by intro p hp; cases p <;> first | rfl | exact (Kept.no hm hp (by decide)).elim)))
theorem execTapReset_keeps {m : Nat} {r : State} (pin : Bool) (s : State) (hm : Nat.land 524288 m = 524288) (h : Kept m r s) : KeptRes m r (execTapReset pin s) := by
  unfold execTapReset
  with_reducible repeat' (first | assumption | exact Kept.sub hm rfl | exact Kept.refl _ _ | refine KeptRes.next ?_ | refine Kept.cond ?_ ?_ | refine KeptRes.cond ?_ ?_ | refine KeptP.cond ?_ ?_ | refine Kept.foldl ?_ ?_ | intro _ | refine KeptP.foldl ?_ ?_ | refine KeptP.of_eq (by assumption) ?_ | dsimp only | split | dsimp only | refine KeptP.fst ?_ | refine KeptP.mk ?_ | fail_if_no_progress (refine Kept.upd ?_ (by rfl) (by intro p hp; cases p <;> first | rfl | exact (Kept.no hm hp (by decide)).elim)))
theorem execSecSvnCommit_keeps {m : Nat} {r : State} (src : Nat) (s : State) (hm : Nat.land 524288 m = 524288) (h : Kept m r s) : KeptRes m r (execSecSvnCommit src s) := by
  unfold execSecSvnCommit
  with_reducible repeat' (first | assumption | exact Kept.sub hm rfl | exact Kept.refl _ _ | refine KeptRes.next ?_ | refine Kept.cond ?_ ?_ | refine KeptRes.cond ?_ ?_ | refine KeptP.cond ?_ ?_ | refine Kept.foldl ?_ ?_ | intro _ | refine KeptP.foldl ?_ ?_ | refine KeptP.of_eq (by assumption) ?_ | dsimp only | split | dsimp only | refine KeptP.fst ?_ | refine KeptP.mk ?_ | fail_if_no_progress (refine Kept.upd ?_ (by rfl) (by intro p hp; cases p <;> first | rfl | exact (Kept.no hm hp (by decide)).elim)))
theorem State.lcResult_keeps {m : Nat} {r : State} (s : State) (code : Nat) (hm : Nat.land 2 m = 2) (h : Kept m r s) : Kept m r (State.lcResult s code) := by
  unfold State.lcResult
  with_reducible repeat' (first | assumption | exact Kept.sub hm rfl | exact Kept.refl _ _ | refine KeptRes.next ?_ | refine Kept.cond ?_ ?_ | refine KeptRes.cond ?_ ?_ | refine KeptP.cond ?_ ?_ | apply State.setFld_keeps | refine Kept.foldl ?_ ?_ | intro _ | refine KeptP.foldl ?_ ?_ | refine KeptP.of_eq (by assumption) ?_ | dsimp only | split | dsimp only | refine KeptP.fst ?_ | refine KeptP.mk ?_ | fail_if_no_progress (refine Kept.upd ?_ (by rfl) (by intro p hp; cases p <;> first | rfl | exact (Kept.no hm hp (by decide)).elim)))
theorem State.lcAccept_keeps {m : Nat} {r : State} (s : State) (next : Lifecycle) (ports : Nat) (hash : Nat) (hm : Nat.land 8259602 m = 8259602) (h : Kept m r s) : Kept m r (State.lcAccept s next ports hash) := by
  unfold State.lcAccept
  with_reducible repeat' (first | assumption | exact Kept.sub hm rfl | exact Kept.refl _ _ | refine KeptRes.next ?_ | refine Kept.cond ?_ ?_ | refine KeptRes.cond ?_ ?_ | refine KeptP.cond ?_ ?_ | apply State.lcResult_keeps | apply State.raise_keeps | apply State.securityNote_keeps | refine Kept.foldl ?_ ?_ | intro _ | refine KeptP.foldl ?_ ?_ | refine KeptP.of_eq (by assumption) ?_ | dsimp only | split | dsimp only | refine KeptP.fst ?_ | refine KeptP.mk ?_ | fail_if_no_progress (refine Kept.upd ?_ (by rfl) (by intro p hp; cases p <;> first | rfl | exact (Kept.no hm hp (by decide)).elim)))
theorem execSecLcProvision_keeps {m : Nat} {r : State} (src : Nat) (fuseOk : Bool) (s : State) (hm : Nat.land 8259602 m = 8259602) (h : Kept m r s) : KeptRes m r (execSecLcProvision src fuseOk s) := by
  unfold execSecLcProvision
  with_reducible repeat' (first | assumption | exact Kept.sub hm rfl | exact Kept.refl _ _ | refine KeptRes.next ?_ | refine Kept.cond ?_ ?_ | refine KeptRes.cond ?_ ?_ | refine KeptP.cond ?_ ?_ | apply State.lcAccept_keeps | apply State.lcResult_keeps | refine Kept.foldl ?_ ?_ | intro _ | refine KeptP.foldl ?_ ?_ | refine KeptP.of_eq (by assumption) ?_ | dsimp only | split | dsimp only | refine KeptP.fst ?_ | refine KeptP.mk ?_ | fail_if_no_progress (refine Kept.upd ?_ (by rfl) (by intro p hp; cases p <;> first | rfl | exact (Kept.no hm hp (by decide)).elim)))
theorem execSecNewNonce_keeps {m : Nat} {r : State} (src : Nat) (s : State) (hm : Nat.land 524296 m = 524296) (h : Kept m r s) : KeptRes m r (execSecNewNonce src s) := by
  unfold execSecNewNonce
  with_reducible repeat' (first | assumption | exact Kept.sub hm rfl | exact Kept.refl _ _ | refine KeptRes.next ?_ | refine Kept.cond ?_ ?_ | refine KeptRes.cond ?_ ?_ | refine KeptP.cond ?_ ?_ | apply State.tickFresh_keeps | refine Kept.foldl ?_ ?_ | intro _ | refine KeptP.foldl ?_ ?_ | refine KeptP.of_eq (by assumption) ?_ | dsimp only | split | dsimp only | refine KeptP.fst ?_ | refine KeptP.mk ?_ | fail_if_no_progress (refine Kept.upd ?_ (by rfl) (by intro p hp; cases p <;> first | rfl | exact (Kept.no hm hp (by decide)).elim)))
theorem execSecTokenSubmit_keeps {m : Nat} {r : State} (src : Nat) (s : State) (hm : Nat.land 524290 m = 524290) (h : Kept m r s) : KeptRes m r (execSecTokenSubmit src s) := by
  unfold execSecTokenSubmit
  with_reducible repeat' (first | assumption | exact Kept.sub hm rfl | exact Kept.refl _ _ | refine KeptRes.next ?_ | refine Kept.cond ?_ ?_ | refine KeptRes.cond ?_ ?_ | refine KeptP.cond ?_ ?_ | apply State.setFld_keeps | refine Kept.foldl ?_ ?_ | intro _ | refine KeptP.foldl ?_ ?_ | refine KeptP.of_eq (by assumption) ?_ | dsimp only | split | dsimp only | refine KeptP.fst ?_ | refine KeptP.mk ?_ | fail_if_no_progress (refine Kept.upd ?_ (by rfl) (by intro p hp; cases p <;> first | rfl | exact (Kept.no hm hp (by decide)).elim)))
theorem State.enterReturned_keeps {m : Nat} {r : State} (s : State) (hm : Nat.land 16777210 m = 16777210) (h : Kept m r s) : Kept m r (State.enterReturned s) := by
  unfold State.enterReturned
  with_reducible repeat' (first | assumption | exact Kept.sub hm rfl | exact Kept.refl _ _ | refine KeptRes.next ?_ | refine Kept.cond ?_ ?_ | refine KeptRes.cond ?_ ?_ | refine KeptP.cond ?_ ?_ | apply State.braceEnd_keeps | apply State.braceTrigger_keeps | apply State.endSessions_keeps | apply State.lcAccept_keeps | apply State.returnWipe_keeps | refine Kept.foldl ?_ ?_ | intro _ | refine KeptP.foldl ?_ ?_ | refine KeptP.of_eq (by assumption) ?_ | dsimp only | split | dsimp only | refine KeptP.fst ?_ | refine KeptP.mk ?_ | fail_if_no_progress (refine Kept.upd ?_ (by rfl) (by intro p hp; cases p <;> first | rfl | exact (Kept.no hm hp (by decide)).elim)))
theorem execTokenVerifyComplete_keeps {m : Nat} {r : State} (sigOk : Bool) (fuseOk : Bool) (s : State) (hm : Nat.land 16777210 m = 16777210) (h : Kept m r s) : KeptRes m r (execTokenVerifyComplete sigOk fuseOk s) := by
  unfold execTokenVerifyComplete
  with_reducible repeat' (first | assumption | exact Kept.sub hm rfl | exact Kept.refl _ _ | refine KeptRes.next ?_ | refine Kept.cond ?_ ?_ | refine KeptRes.cond ?_ ?_ | refine KeptP.cond ?_ ?_ | apply State.enterReturned_keeps | apply State.lcAccept_keeps | apply State.lcResult_keeps | apply State.setDebug_keeps | apply State.tokenDone_keeps | refine Kept.foldl ?_ ?_ | intro _ | refine KeptP.foldl ?_ ?_ | refine KeptP.of_eq (by assumption) ?_ | dsimp only | split | dsimp only | refine KeptP.fst ?_ | refine KeptP.mk ?_ | fail_if_no_progress (refine Kept.upd ?_ (by rfl) (by intro p hp; cases p <;> first | rfl | exact (Kept.no hm hp (by decide)).elim)))
theorem execSecTokenLower_keeps {m : Nat} {r : State} (src : Nat) (s : State) (hm : Nat.land 8259602 m = 8259602) (h : Kept m r s) : KeptRes m r (execSecTokenLower src s) := by
  unfold execSecTokenLower
  with_reducible repeat' (first | assumption | exact Kept.sub hm rfl | exact Kept.refl _ _ | refine KeptRes.next ?_ | refine Kept.cond ?_ ?_ | refine KeptRes.cond ?_ ?_ | refine KeptP.cond ?_ ?_ | apply State.setDebug_keeps | refine Kept.foldl ?_ ?_ | intro _ | refine KeptP.foldl ?_ ?_ | refine KeptP.of_eq (by assumption) ?_ | dsimp only | split | dsimp only | refine KeptP.fst ?_ | refine KeptP.mk ?_ | fail_if_no_progress (refine Kept.upd ?_ (by rfl) (by intro p hp; cases p <;> first | rfl | exact (Kept.no hm hp (by decide)).elim)))
theorem execDebugTimerExpiry_keeps {m : Nat} {r : State} (s : State) (hm : Nat.land 8259602 m = 8259602) (h : Kept m r s) : KeptRes m r (execDebugTimerExpiry s) := by
  unfold execDebugTimerExpiry
  with_reducible repeat' (first | assumption | exact Kept.sub hm rfl | exact Kept.refl _ _ | refine KeptRes.next ?_ | refine Kept.cond ?_ ?_ | refine KeptRes.cond ?_ ?_ | refine KeptP.cond ?_ ?_ | apply State.setDebug_keeps | refine Kept.foldl ?_ ?_ | intro _ | refine KeptP.foldl ?_ ?_ | refine KeptP.of_eq (by assumption) ?_ | dsimp only | split | dsimp only | refine KeptP.fst ?_ | refine KeptP.mk ?_ | fail_if_no_progress (refine Kept.upd ?_ (by rfl) (by intro p hp; cases p <;> first | rfl | exact (Kept.no hm hp (by decide)).elim)))
theorem execSecPwrTargetRun_keeps {m : Nat} {r : State} (src : Nat) (s : State) (hm : Nat.land 5767442 m = 5767442) (h : Kept m r s) : KeptRes m r (execSecPwrTargetRun src s) := by
  unfold execSecPwrTargetRun
  with_reducible repeat' (first | assumption | exact Kept.sub hm rfl | exact Kept.refl _ _ | refine KeptRes.next ?_ | refine Kept.cond ?_ ?_ | refine KeptRes.cond ?_ ?_ | refine KeptP.cond ?_ ?_ | apply State.wake_keeps | refine Kept.foldl ?_ ?_ | intro _ | refine KeptP.foldl ?_ ?_ | refine KeptP.of_eq (by assumption) ?_ | dsimp only | split | dsimp only | refine KeptP.fst ?_ | refine KeptP.mk ?_ | fail_if_no_progress (refine Kept.upd ?_ (by rfl) (by intro p hp; cases p <;> first | rfl | exact (Kept.no hm hp (by decide)).elim)))
theorem State.losePockets_keeps {m : Nat} {r : State} (s : State) (hm : Nat.land 512 m = 512) (h : Kept m r s) : Kept m r (State.losePockets s) := by
  unfold State.losePockets
  with_reducible repeat' (first | assumption | exact Kept.sub hm rfl | exact Kept.refl _ _ | refine KeptRes.next ?_ | refine Kept.cond ?_ ?_ | refine KeptRes.cond ?_ ?_ | refine KeptP.cond ?_ ?_ | refine Kept.foldl ?_ ?_ | intro _ | refine KeptP.foldl ?_ ?_ | refine KeptP.of_eq (by assumption) ?_ | dsimp only | split | dsimp only | refine KeptP.fst ?_ | refine KeptP.mk ?_ | fail_if_no_progress (refine Kept.upd ?_ (by rfl) (by intro p hp; cases p <;> first | rfl | exact (Kept.no hm hp (by decide)).elim)))
theorem execSecPwrTargetRest_keeps {m : Nat} {r : State} (src : Nat) (s : State) (hm : Nat.land 5768018 m = 5768018) (h : Kept m r s) : KeptRes m r (execSecPwrTargetRest src s) := by
  unfold execSecPwrTargetRest
  with_reducible repeat' (first | assumption | exact Kept.sub hm rfl | exact Kept.refl _ _ | refine KeptRes.next ?_ | refine Kept.cond ?_ ?_ | refine KeptRes.cond ?_ ?_ | refine KeptP.cond ?_ ?_ | apply State.checkpoint_keeps | apply State.losePockets_keeps | apply State.setFld_keeps | apply State.setPower_keeps | apply State.writeBackAll_keeps | refine Kept.foldl ?_ ?_ | intro _ | refine KeptP.foldl ?_ ?_ | refine KeptP.of_eq (by assumption) ?_ | dsimp only | split | dsimp only | refine KeptP.fst ?_ | refine KeptP.mk ?_ | fail_if_no_progress (refine Kept.upd ?_ (by rfl) (by intro p hp; cases p <;> first | rfl | exact (Kept.no hm hp (by decide)).elim)))
theorem execSecPwrTargetStandby_keeps {m : Nat} {r : State} (src : Nat) (s : State) (hm : Nat.land 16777210 m = 16777210) (h : Kept m r s) : KeptRes m r (execSecPwrTargetStandby src s) := by
  unfold execSecPwrTargetStandby
  with_reducible repeat' (first | assumption | exact Kept.sub hm rfl | exact Kept.refl _ _ | refine KeptRes.next ?_ | refine Kept.cond ?_ ?_ | refine KeptRes.cond ?_ ?_ | refine KeptP.cond ?_ ?_ | apply State.braceTrigger_keeps | refine Kept.foldl ?_ ?_ | intro _ | refine KeptP.foldl ?_ ?_ | refine KeptP.of_eq (by assumption) ?_ | dsimp only | split | dsimp only | refine KeptP.fst ?_ | refine KeptP.mk ?_ | fail_if_no_progress (refine Kept.upd ?_ (by rfl) (by intro p hp; cases p <;> first | rfl | exact (Kept.no hm hp (by decide)).elim)))
theorem execCmpDefine_keeps {m : Nat} {r : State} (entry : Nat) (s : State) (hm : Nat.land 2359320 m = 2359320) (h : Kept m r s) : KeptRes m r (execCmpDefine entry s) := by
  unfold execCmpDefine
  with_reducible repeat' (first | assumption | exact Kept.sub hm rfl | exact Kept.refl _ _ | refine KeptRes.next ?_ | refine Kept.cond ?_ ?_ | refine KeptRes.cond ?_ ?_ | refine KeptP.cond ?_ ?_ | apply State.defineComp_keeps | apply State.dispatch_keeps | refine Kept.foldl ?_ ?_ | intro _ | refine KeptP.foldl ?_ ?_ | refine KeptP.of_eq (by assumption) ?_ | dsimp only | split | dsimp only | refine KeptP.fst ?_ | refine KeptP.mk ?_ | fail_if_no_progress (refine Kept.upd ?_ (by rfl) (by intro p hp; cases p <;> first | rfl | exact (Kept.no hm hp (by decide)).elim)))
theorem State.applyGrant_keeps {m : Nat} {r : State} (s : State) (entry : Nat) (e : Entry) (hm : Nat.land 10748176 m = 10748176) (h : Kept m r s) : Kept m r (State.applyGrant s entry e) := by
  unfold State.applyGrant
  with_reducible repeat' (first | assumption | exact Kept.sub hm rfl | exact Kept.refl _ _ | refine KeptRes.next ?_ | refine Kept.cond ?_ ?_ | refine KeptRes.cond ?_ ?_ | refine KeptP.cond ?_ ?_ | apply State.dispatch_keeps | apply State.grantSlabs_keeps | refine Kept.foldl ?_ ?_ | intro _ | refine KeptP.foldl ?_ ?_ | refine KeptP.of_eq (by assumption) ?_ | dsimp only | split | dsimp only | refine KeptP.fst ?_ | refine KeptP.mk ?_ | fail_if_no_progress (refine Kept.upd ?_ (by rfl) (by intro p hp; cases p <;> first | rfl | exact (Kept.no hm hp (by decide)).elim)))
theorem execCmpGrant_keeps {m : Nat} {r : State} (entry : Nat) (s : State) (hm : Nat.land 10748176 m = 10748176) (h : Kept m r s) : KeptRes m r (execCmpGrant entry s) := by
  unfold execCmpGrant
  with_reducible repeat' (first | assumption | exact Kept.sub hm rfl | exact Kept.refl _ _ | refine KeptRes.next ?_ | refine Kept.cond ?_ ?_ | refine KeptRes.cond ?_ ?_ | refine KeptP.cond ?_ ?_ | apply State.applyGrant_keeps | apply State.failWith_keeps | apply State.finish_keeps | apply State.releaseAll_keeps | apply State.reserveAll_keeps | apply State.unreserve_keeps | refine Kept.foldl ?_ ?_ | intro _ | refine KeptP.foldl ?_ ?_ | refine KeptP.of_eq (by assumption) ?_ | dsimp only | split | dsimp only | refine KeptP.fst ?_ | refine KeptP.mk ?_ | fail_if_no_progress (refine Kept.upd ?_ (by rfl) (by intro p hp; cases p <;> first | rfl | exact (Kept.no hm hp (by decide)).elim)))
theorem execCmpWithdraw_keeps {m : Nat} {r : State} (entry : Nat) (s : State) (hm : Nat.land 16771474 m = 16771474) (h : Kept m r s) : KeptRes m r (execCmpWithdraw entry s) := by
  unfold execCmpWithdraw
  with_reducible repeat' (first | assumption | exact Kept.sub hm rfl | exact Kept.refl _ _ | refine KeptRes.next ?_ | refine Kept.cond ?_ ?_ | refine KeptRes.cond ?_ ?_ | refine KeptP.cond ?_ ?_ | apply State.beginWithdraw_keeps | apply State.dispatch_keeps | apply State.freeSlabs_keeps | apply State.walkSlabs_keeps | refine Kept.foldl ?_ ?_ | intro _ | refine KeptP.foldl ?_ ?_ | refine KeptP.of_eq (by assumption) ?_ | dsimp only | split | dsimp only | refine KeptP.fst ?_ | refine KeptP.mk ?_ | fail_if_no_progress (refine Kept.upd ?_ (by rfl) (by intro p hp; cases p <;> first | rfl | exact (Kept.no hm hp (by decide)).elim)))
theorem execCmpQuery_keeps {m : Nat} {r : State} (entry : Nat) (s : State) (hm : Nat.land 2097152 m = 2097152) (h : Kept m r s) : KeptRes m r (execCmpQuery entry s) := by
  unfold execCmpQuery
  with_reducible repeat' (first | assumption | exact Kept.sub hm rfl | exact Kept.refl _ _ | refine KeptRes.next ?_ | refine Kept.cond ?_ ?_ | refine KeptRes.cond ?_ ?_ | refine KeptP.cond ?_ ?_ | apply State.finish_keeps | refine Kept.foldl ?_ ?_ | intro _ | refine KeptP.foldl ?_ ?_ | refine KeptP.of_eq (by assumption) ?_ | dsimp only | split | dsimp only | refine KeptP.fst ?_ | refine KeptP.mk ?_ | fail_if_no_progress (refine Kept.upd ?_ (by rfl) (by intro p hp; cases p <;> first | rfl | exact (Kept.no hm hp (by decide)).elim)))
theorem execGateSignal_keeps {m : Nat} {r : State} (entry : Nat) (s : State) (hm : Nat.land 7798810 m = 7798810) (h : Kept m r s) : KeptRes m r (execGateSignal entry s) := by
  unfold execGateSignal
  with_reducible repeat' (first | assumption | exact Kept.sub hm rfl | exact Kept.refl _ _ | refine KeptRes.next ?_ | refine Kept.cond ?_ ?_ | refine KeptRes.cond ?_ ?_ | refine KeptP.cond ?_ ?_ | apply State.checkGate_keeps | apply State.conclude_keeps | apply State.failWith_keeps | apply State.forward_keeps | apply State.updateGate_keeps | refine Kept.foldl ?_ ?_ | intro _ | refine KeptP.foldl ?_ ?_ | refine KeptP.of_eq (by assumption) ?_ | dsimp only | split | dsimp only | refine KeptP.fst ?_ | refine KeptP.mk ?_ | fail_if_no_progress (refine Kept.upd ?_ (by rfl) (by intro p hp; cases p <;> first | rfl | exact (Kept.no hm hp (by decide)).elim)))
theorem execGateWait_keeps {m : Nat} {r : State} (entry : Nat) (s : State) (hm : Nat.land 7798810 m = 7798810) (h : Kept m r s) : KeptRes m r (execGateWait entry s) := by
  unfold execGateWait
  with_reducible repeat' (first | assumption | exact Kept.sub hm rfl | exact Kept.refl _ _ | refine KeptRes.next ?_ | refine Kept.cond ?_ ?_ | refine KeptRes.cond ?_ ?_ | refine KeptP.cond ?_ ?_ | apply State.checkGate_keeps | apply State.conclude_keeps | apply State.failWith_keeps | apply State.forward_keeps | apply State.modEntry_keeps | apply State.raise_keeps | refine Kept.foldl ?_ ?_ | intro _ | refine KeptP.foldl ?_ ?_ | refine KeptP.of_eq (by assumption) ?_ | dsimp only | split | dsimp only | refine KeptP.fst ?_ | refine KeptP.mk ?_ | fail_if_no_progress (refine Kept.upd ?_ (by rfl) (by intro p hp; cases p <;> first | rfl | exact (Kept.no hm hp (by decide)).elim)))
theorem execGateReset_keeps {m : Nat} {r : State} (entry : Nat) (s : State) (hm : Nat.land 2424850 m = 2424850) (h : Kept m r s) : KeptRes m r (execGateReset entry s) := by
  unfold execGateReset
  with_reducible repeat' (first | assumption | exact Kept.sub hm rfl | exact Kept.refl _ _ | refine KeptRes.next ?_ | refine Kept.cond ?_ ?_ | refine KeptRes.cond ?_ ?_ | refine KeptP.cond ?_ ?_ | apply State.conclude_keeps | apply State.failWith_keeps | apply State.forward_keeps | apply State.setGateBlock_keeps | apply State.updateGate_keeps | refine Kept.foldl ?_ ?_ | intro _ | refine KeptP.foldl ?_ ?_ | refine KeptP.of_eq (by assumption) ?_ | dsimp only | split | dsimp only | refine KeptP.fst ?_ | refine KeptP.mk ?_ | fail_if_no_progress (refine Kept.upd ?_ (by rfl) (by intro p hp; cases p <;> first | rfl | exact (Kept.no hm hp (by decide)).elim)))
theorem execGateRead_keeps {m : Nat} {r : State} (entry : Nat) (s : State) (hm : Nat.land 7798810 m = 7798810) (h : Kept m r s) : KeptRes m r (execGateRead entry s) := by
  unfold execGateRead
  with_reducible repeat' (first | assumption | exact Kept.sub hm rfl | exact Kept.refl _ _ | refine KeptRes.next ?_ | refine Kept.cond ?_ ?_ | refine KeptRes.cond ?_ ?_ | refine KeptP.cond ?_ ?_ | apply State.checkGate_keeps | apply State.conclude_keeps | apply State.failWith_keeps | apply State.forward_keeps | refine Kept.foldl ?_ ?_ | intro _ | refine KeptP.foldl ?_ ?_ | refine KeptP.of_eq (by assumption) ?_ | dsimp only | split | dsimp only | refine KeptP.fst ?_ | refine KeptP.mk ?_ | fail_if_no_progress (refine Kept.upd ?_ (by rfl) (by intro p hp; cases p <;> first | rfl | exact (Kept.no hm hp (by decide)).elim)))
theorem execFence_keeps {m : Nat} {r : State} (entry : Nat) (s : State) (hm : Nat.land 7815194 m = 7815194) (h : Kept m r s) : KeptRes m r (execFence entry s) := by
  unfold execFence
  with_reducible repeat' (first | assumption | exact Kept.sub hm rfl | exact Kept.refl _ _ | refine KeptRes.next ?_ | refine Kept.cond ?_ ?_ | refine KeptRes.cond ?_ ?_ | refine KeptP.cond ?_ ?_ | apply State.modEntry_keeps | apply State.probeDest_keeps | apply State.tryFence_keeps | refine Kept.foldl ?_ ?_ | intro _ | refine KeptP.foldl ?_ ?_ | refine KeptP.of_eq (by assumption) ?_ | dsimp only | split | dsimp only | refine KeptP.fst ?_ | refine KeptP.mk ?_ | fail_if_no_progress (refine Kept.upd ?_ (by rfl) (by intro p hp; cases p <;> first | rfl | exact (Kept.no hm hp (by decide)).elim)))
theorem execFenceProbeResend_keeps {m : Nat} {r : State} (entry : Nat) (target : Nat) (s : State) (hm : Nat.land 81936 m = 81936) (h : Kept m r s) : KeptRes m r (execFenceProbeResend entry target s) := by
  unfold execFenceProbeResend
  with_reducible repeat' (first | assumption | exact Kept.sub hm rfl | exact Kept.refl _ _ | refine KeptRes.next ?_ | refine Kept.cond ?_ ?_ | refine KeptRes.cond ?_ ?_ | refine KeptP.cond ?_ ?_ | apply State.probeDest_keeps | refine Kept.foldl ?_ ?_ | intro _ | refine KeptP.foldl ?_ ?_ | refine KeptP.of_eq (by assumption) ?_ | dsimp only | split | dsimp only | refine KeptP.fst ?_ | refine KeptP.mk ?_ | fail_if_no_progress (refine Kept.upd ?_ (by rfl) (by intro p hp; cases p <;> first | rfl | exact (Kept.no hm hp (by decide)).elim)))
theorem execFencePromotionTimeout_keeps {m : Nat} {r : State} (entry : Nat) (target : Nat) (s : State) (hm : Nat.land 2162688 m = 2162688) (h : Kept m r s) : KeptRes m r (execFencePromotionTimeout entry target s) := by
  unfold execFencePromotionTimeout
  with_reducible repeat' (first | assumption | exact Kept.sub hm rfl | exact Kept.refl _ _ | refine KeptRes.next ?_ | refine Kept.cond ?_ ?_ | refine KeptRes.cond ?_ ?_ | refine KeptP.cond ?_ ?_ | apply State.finish_keeps | refine Kept.foldl ?_ ?_ | intro _ | refine KeptP.foldl ?_ ?_ | refine KeptP.of_eq (by assumption) ?_ | dsimp only | split | dsimp only | refine KeptP.fst ?_ | refine KeptP.mk ?_ | fail_if_no_progress (refine Kept.upd ?_ (by rfl) (by intro p hp; cases p <;> first | rfl | exact (Kept.no hm hp (by decide)).elim)))
theorem execGateWatchdogExpiry_keeps {m : Nat} {r : State} (entry : Nat) (s : State) (hm : Nat.land 16752538 m = 16752538) (h : Kept m r s) : KeptRes m r (execGateWatchdogExpiry entry s) := by
  unfold execGateWatchdogExpiry
  with_reducible repeat' (first | assumption | exact Kept.sub hm rfl | exact Kept.refl _ _ | refine KeptRes.next ?_ | refine Kept.cond ?_ ?_ | refine KeptRes.cond ?_ ?_ | refine KeptP.cond ?_ ?_ | apply State.count_keeps | apply State.sendItem_keeps | apply State.stopEntry_keeps | apply State.watchdogHit_keeps | refine Kept.foldl ?_ ?_ | intro _ | refine KeptP.foldl ?_ ?_ | refine KeptP.of_eq (by assumption) ?_ | dsimp only | split | dsimp only | refine KeptP.fst ?_ | refine KeptP.mk ?_ | fail_if_no_progress (refine Kept.upd ?_ (by rfl) (by intro p hp; cases p <;> first | rfl | exact (Kept.no hm hp (by decide)).elim)))
theorem State.stageBlock_keeps {m : Nat} {r : State} (s : State) (b : GateBlock) (hm : Nat.land 2 m = 2) (h : Kept m r s) : Kept m r (State.stageBlock s b) := by
  unfold State.stageBlock
  with_reducible repeat' (first | assumption | exact Kept.sub hm rfl | exact Kept.refl _ _ | refine KeptRes.next ?_ | refine Kept.cond ?_ ?_ | refine KeptRes.cond ?_ ?_ | refine KeptP.cond ?_ ?_ | apply State.setFld_keeps | refine Kept.foldl ?_ ?_ | intro _ | refine KeptP.foldl ?_ ?_ | refine KeptP.of_eq (by assumption) ?_ | dsimp only | split | dsimp only | refine KeptP.fst ?_ | refine KeptP.mk ?_ | fail_if_no_progress (refine Kept.upd ?_ (by rfl) (by intro p hp; cases p <;> first | rfl | exact (Kept.no hm hp (by decide)).elim)))
theorem execGateBlkSelWrite_keeps {m : Nat} {r : State} (src : Nat) (block : Nat) (s : State) (hm : Nat.land 2 m = 2) (h : Kept m r s) : KeptRes m r (execGateBlkSelWrite src block s) := by
  unfold execGateBlkSelWrite
  with_reducible repeat' (first | assumption | exact Kept.sub hm rfl | exact Kept.refl _ _ | refine KeptRes.next ?_ | refine Kept.cond ?_ ?_ | refine KeptRes.cond ?_ ?_ | refine KeptP.cond ?_ ?_ | apply State.setFld_keeps | apply State.stageBlock_keeps | refine Kept.foldl ?_ ?_ | intro _ | refine KeptP.foldl ?_ ?_ | refine KeptP.of_eq (by assumption) ?_ | dsimp only | split | dsimp only | refine KeptP.fst ?_ | refine KeptP.mk ?_ | fail_if_no_progress (refine Kept.upd ?_ (by rfl) (by intro p hp; cases p <;> first | rfl | exact (Kept.no hm hp (by decide)).elim)))
theorem execGateBlkApply_keeps {m : Nat} {r : State} (src : Nat) (s : State) (hm : Nat.land 6619154 m = 6619154) (h : Kept m r s) : KeptRes m r (execGateBlkApply src s) := by
  unfold execGateBlkApply
  with_reducible repeat' (first | assumption | exact Kept.sub hm rfl | exact Kept.refl _ _ | refine KeptRes.next ?_ | refine Kept.cond ?_ ?_ | refine KeptRes.cond ?_ ?_ | refine KeptP.cond ?_ ?_ | apply State.clearBlock_keeps | apply State.setFld_keeps | apply State.setGateBlock_keeps | refine Kept.foldl ?_ ?_ | intro _ | refine KeptP.foldl ?_ ?_ | refine KeptP.of_eq (by assumption) ?_ | dsimp only | split | dsimp only | refine KeptP.fst ?_ | refine KeptP.mk ?_ | fail_if_no_progress (refine Kept.upd ?_ (by rfl) (by intro p hp; cases p <;> first | rfl | exact (Kept.no hm hp (by decide)).elim)))
theorem execGateDbgRead_keeps {m : Nat} {r : State} (src : Nat) (s : State) (hm : Nat.land 5439514 m = 5439514) (h : Kept m r s) : KeptRes m r (execGateDbgRead src s) := by
  unfold execGateDbgRead
  with_reducible repeat' (first | assumption | exact Kept.sub hm rfl | exact Kept.refl _ _ | refine KeptRes.next ?_ | refine Kept.cond ?_ ?_ | refine KeptRes.cond ?_ ?_ | refine KeptP.cond ?_ ?_ | apply State.checkGate_keeps | apply State.setFld_keeps | refine Kept.foldl ?_ ?_ | intro _ | refine KeptP.foldl ?_ ?_ | refine KeptP.of_eq (by assumption) ?_ | dsimp only | split | dsimp only | refine KeptP.fst ?_ | refine KeptP.mk ?_ | fail_if_no_progress (refine Kept.upd ?_ (by rfl) (by intro p hp; cases p <;> first | rfl | exact (Kept.no hm hp (by decide)).elim)))
theorem execGateDbgSet_keeps {m : Nat} {r : State} (src : Nat) (s : State) (hm : Nat.land 6619154 m = 6619154) (h : Kept m r s) : KeptRes m r (execGateDbgSet src s) := by
  unfold execGateDbgSet
  with_reducible repeat' (first | assumption | exact Kept.sub hm rfl | exact Kept.refl _ _ | refine KeptRes.next ?_ | refine Kept.cond ?_ ?_ | refine KeptRes.cond ?_ ?_ | refine KeptP.cond ?_ ?_ | apply State.count_keeps | apply State.raise_keeps | apply State.setFld_keeps | apply State.updateGate_keeps | refine Kept.foldl ?_ ?_ | intro _ | refine KeptP.foldl ?_ ?_ | refine KeptP.of_eq (by assumption) ?_ | dsimp only | split | dsimp only | refine KeptP.fst ?_ | refine KeptP.mk ?_ | fail_if_no_progress (refine Kept.upd ?_ (by rfl) (by intro p hp; cases p <;> first | rfl | exact (Kept.no hm hp (by decide)).elim)))
theorem State.recvProbe_keeps {m : Nat} {r : State} (s : State) (p : Nat) (x2 : List Byte) (hm : Nat.land 4276242 m = 4276242) (h : Kept m r s) : Kept m r (State.recvProbe s p x2) := by
  unfold State.recvProbe
  with_reducible repeat' (first | assumption | exact Kept.sub hm rfl | exact Kept.refl _ _ | refine KeptRes.next ?_ | refine Kept.cond ?_ ?_ | refine KeptRes.cond ?_ ?_ | refine KeptP.cond ?_ ?_ | apply State.msgBad_keeps | apply State.sendMember_keeps | apply State.sendProbe_keeps | refine Kept.foldl ?_ ?_ | intro _ | refine KeptP.foldl ?_ ?_ | refine KeptP.of_eq (by assumption) ?_ | dsimp only | split | dsimp only | refine KeptP.fst ?_ | refine KeptP.mk ?_ | fail_if_no_progress (refine Kept.upd ?_ (by rfl) (by intro p hp; cases p <;> first | rfl | exact (Kept.no hm hp (by decide)).elim)))
theorem execDrainProbe_keeps {m : Nat} {r : State} (port : Nat) (msg : List Byte) (s : State) (hm : Nat.land 4276242 m = 4276242) (h : Kept m r s) : KeptRes m r (execDrainProbe port msg s) := by
  unfold execDrainProbe
  with_reducible repeat' (first | assumption | exact Kept.sub hm rfl | exact Kept.refl _ _ | refine KeptRes.next ?_ | refine Kept.cond ?_ ?_ | refine KeptRes.cond ?_ ?_ | refine KeptP.cond ?_ ?_ | apply State.recvProbe_keeps | refine Kept.foldl ?_ ?_ | intro _ | refine KeptP.foldl ?_ ?_ | refine KeptP.of_eq (by assumption) ?_ | dsimp only | split | dsimp only | refine KeptP.fst ?_ | refine KeptP.mk ?_ | fail_if_no_progress (refine Kept.upd ?_ (by rfl) (by intro p hp; cases p <;> first | rfl | exact (Kept.no hm hp (by decide)).elim)))
theorem execDrainReroute_keeps {m : Nat} {r : State} (port : Nat) (msg : List Byte) (s : State) (hm : Nat.land 4276242 m = 4276242) (h : Kept m r s) : KeptRes m r (execDrainReroute port msg s) := by
  unfold execDrainReroute
  with_reducible repeat' (first | assumption | exact Kept.sub hm rfl | exact Kept.refl _ _ | refine KeptRes.next ?_ | refine Kept.cond ?_ ?_ | refine KeptRes.cond ?_ ?_ | refine KeptP.cond ?_ ?_ | apply State.recvProbe_keeps | refine Kept.foldl ?_ ?_ | intro _ | refine KeptP.foldl ?_ ?_ | refine KeptP.of_eq (by assumption) ?_ | dsimp only | split | dsimp only | refine KeptP.fst ?_ | refine KeptP.mk ?_ | fail_if_no_progress (refine Kept.upd ?_ (by rfl) (by intro p hp; cases p <;> first | rfl | exact (Kept.no hm hp (by decide)).elim)))
theorem execDrainAck_keeps {m : Nat} {r : State} (port : Nat) (msg : List Byte) (s : State) (hm : Nat.land 7815194 m = 7815194) (h : Kept m r s) : KeptRes m r (execDrainAck port msg s) := by
  unfold execDrainAck
  with_reducible repeat' (first | assumption | exact Kept.sub hm rfl | exact Kept.refl _ _ | refine KeptRes.next ?_ | refine Kept.cond ?_ ?_ | refine KeptRes.cond ?_ ?_ | refine KeptP.cond ?_ ?_ | apply State.ackFence_keeps | apply State.sendMember_keeps | refine Kept.foldl ?_ ?_ | intro _ | refine KeptP.foldl ?_ ?_ | refine KeptP.of_eq (by assumption) ?_ | dsimp only | split | dsimp only | refine KeptP.fst ?_ | refine KeptP.mk ?_ | fail_if_no_progress (refine Kept.upd ?_ (by rfl) (by intro p hp; cases p <;> first | rfl | exact (Kept.no hm hp (by decide)).elim)))
theorem execDrainAnswerDue_keeps {m : Nat} {r : State} (origin : Nat) (source : Nat) (fenceId : Nat) (s : State) (hm : Nat.land 7815194 m = 7815194) (h : Kept m r s) : KeptRes m r (execDrainAnswerDue origin source fenceId s) := by
  unfold execDrainAnswerDue
  with_reducible repeat' (first | assumption | exact Kept.sub hm rfl | exact Kept.refl _ _ | refine KeptRes.next ?_ | refine Kept.cond ?_ ?_ | refine KeptRes.cond ?_ ?_ | refine KeptP.cond ?_ ?_ | apply State.ackFence_keeps | apply State.sendMember_keeps | refine Kept.foldl ?_ ?_ | intro _ | refine KeptP.foldl ?_ ?_ | refine KeptP.of_eq (by assumption) ?_ | dsimp only | split | dsimp only | refine KeptP.fst ?_ | refine KeptP.mk ?_ | fail_if_no_progress (refine Kept.upd ?_ (by rfl) (by intro p hp; cases p <;> first | rfl | exact (Kept.no hm hp (by decide)).elim)))
theorem State.idClashes_keeps {m : Nat} {r : State} (s : State) (hm : Nat.land 2359554 m = 2359554) (h : Kept m r s) : Kept m r (State.idClashes s) := by
  unfold State.idClashes
  with_reducible repeat' (first | assumption | exact Kept.sub hm rfl | exact Kept.refl _ _ | refine KeptRes.next ?_ | refine Kept.cond ?_ ?_ | refine KeptRes.cond ?_ ?_ | refine KeptP.cond ?_ ?_ | apply State.failWith_keeps | apply State.unform_keeps | refine Kept.foldl ?_ ?_ | intro _ | refine KeptP.foldl ?_ ?_ | refine KeptP.of_eq (by assumption) ?_ | dsimp only | split | dsimp only | refine KeptP.fst ?_ | refine KeptP.mk ?_ | fail_if_no_progress (refine Kept.upd ?_ (by rfl) (by intro p hp; cases p <;> first | rfl | exact (Kept.no hm hp (by decide)).elim)))
theorem State.takeCons_keeps {m : Nat} {r : State} (s : State) (p : Nat) (x2 : List Byte) (hm : Nat.land 6570258 m = 6570258) (h : Kept m r s) : KeptP m r (State.takeCons s p x2) := by
  unfold State.takeCons
  with_reducible repeat' (first | assumption | exact Kept.sub hm rfl | exact Kept.refl _ _ | refine KeptRes.next ?_ | refine Kept.cond ?_ ?_ | refine KeptRes.cond ?_ ?_ | refine KeptP.cond ?_ ?_ | apply State.idClashes_keeps | apply State.msgBad_keeps | apply State.takeMsg_keeps | refine Kept.foldl ?_ ?_ | intro _ | refine KeptP.foldl ?_ ?_ | refine KeptP.of_eq (by assumption) ?_ | dsimp only | split | dsimp only | refine KeptP.fst ?_ | refine KeptP.mk ?_ | fail_if_no_progress (refine Kept.upd ?_ (by rfl) (by intro p hp; cases p <;> first | rfl | exact (Kept.no hm hp (by decide)).elim)))
theorem State.hearCons_keeps {m : Nat} {r : State} (s : State) (x1 : List Byte) (hm : Nat.land 278544 m = 278544) (h : Kept m r s) : Kept m r (State.hearCons s x1) := by
  unfold State.hearCons
  with_reducible repeat' (first | assumption | exact Kept.sub hm rfl | exact Kept.refl _ _ | refine KeptRes.next ?_ | refine Kept.cond ?_ ?_ | refine KeptRes.cond ?_ ?_ | refine KeptP.cond ?_ ?_ | apply State.setPeer_keeps | apply State.unsuspect_keeps | refine Kept.foldl ?_ ?_ | intro _ | refine KeptP.foldl ?_ ?_ | refine KeptP.of_eq (by assumption) ?_ | dsimp only | split | dsimp only | refine KeptP.fst ?_ | refine KeptP.mk ?_ | fail_if_no_progress (refine Kept.upd ?_ (by rfl) (by intro p hp; cases p <;> first | rfl | exact (Kept.no hm hp (by decide)).elim)))
theorem State.tryForm_keeps {m : Nat} {r : State} (s : State) (hm : Nat.land 2359296 m = 2359296) (h : Kept m r s) : Kept m r (State.tryForm s) := by
  unfold State.tryForm
  with_reducible repeat' (first | assumption | exact Kept.sub hm rfl | exact Kept.refl _ _ | refine KeptRes.next ?_ | refine Kept.cond ?_ ?_ | refine KeptRes.cond ?_ ?_ | refine KeptP.cond ?_ ?_ | apply State.finish_keeps | refine Kept.foldl ?_ ?_ | intro _ | refine KeptP.foldl ?_ ?_ | refine KeptP.of_eq (by assumption) ?_ | dsimp only | split | dsimp only | refine KeptP.fst ?_ | refine KeptP.mk ?_ | fail_if_no_progress (refine Kept.upd ?_ (by rfl) (by intro p hp; cases p <;> first | rfl | exact (Kept.no hm hp (by decide)).elim)))
theorem State.leftBehind_keeps {m : Nat} {r : State} (s : State) (hm : Nat.land 16752538 m = 16752538) (h : Kept m r s) : Kept m r (State.leftBehind s) := by
  unfold State.leftBehind
  with_reducible repeat' (first | assumption | exact Kept.sub hm rfl | exact Kept.refl _ _ | refine KeptRes.next ?_ | refine Kept.cond ?_ ?_ | refine KeptRes.cond ?_ ?_ | refine KeptP.cond ?_ ?_ | apply State.selfFence_keeps | refine Kept.foldl ?_ ?_ | intro _ | refine KeptP.foldl ?_ ?_ | refine KeptP.of_eq (by assumption) ?_ | dsimp only | split | dsimp only | refine KeptP.fst ?_ | refine KeptP.mk ?_ | fail_if_no_progress (refine Kept.upd ?_ (by rfl) (by intro p hp; cases p <;> first | rfl | exact (Kept.no hm hp (by decide)).elim)))
theorem execHeartbeat_keeps {m : Nat} {r : State} (port : Nat) (msg : List Byte) (s : State) (hm : Nat.land 16768922 m = 16768922) (h : Kept m r s) : KeptRes m r (execHeartbeat port msg s) := by
  unfold execHeartbeat
  with_reducible repeat' (first | assumption | exact Kept.sub hm rfl | exact Kept.refl _ _ | refine KeptRes.next ?_ | refine Kept.cond ?_ ?_ | refine KeptRes.cond ?_ ?_ | refine KeptP.cond ?_ ?_ | apply State.coordinate_keeps | apply State.hearCons_keeps | apply State.leftBehind_keeps | apply State.setPeer_keeps | apply State.suspect_keeps | apply State.takeCons_keeps | apply State.tryForm_keeps | refine Kept.foldl ?_ ?_ | intro _ | refine KeptP.foldl ?_ ?_ | refine KeptP.of_eq (by assumption) ?_ | dsimp only | split | dsimp only | refine KeptP.fst ?_ | refine KeptP.mk ?_ | fail_if_no_progress (refine Kept.upd ?_ (by rfl) (by intro p hp; cases p <;> first | rfl | exact (Kept.no hm hp (by decide)).elim)))
theorem execHeartbeatSend_keeps {m : Nat} {r : State} (s : State) (hm : Nat.land 16400 m = 16400) (h : Kept m r s) : KeptRes m r (execHeartbeatSend s) := by
  unfold execHeartbeatSend
  with_reducible repeat' (first | assumption | exact Kept.sub hm rfl | exact Kept.refl _ _ | refine KeptRes.next ?_ | refine Kept.cond ?_ ?_ | refine KeptRes.cond ?_ ?_ | refine KeptP.cond ?_ ?_ | apply State.sendHeartbeats_keeps | refine Kept.foldl ?_ ?_ | intro _ | refine KeptP.foldl ?_ ?_ | refine KeptP.of_eq (by assumption) ?_ | dsimp only | split | dsimp only | refine KeptP.fst ?_ | refine KeptP.mk ?_ | fail_if_no_progress (refine Kept.upd ?_ (by rfl) (by intro p hp; cases p <;> first | rfl | exact (Kept.no hm hp (by decide)).elim)))
theorem execSuspicionTimeout_keeps {m : Nat} {r : State} (member : Nat) (s : State) (hm : Nat.land 2375696 m = 2375696) (h : Kept m r s) : KeptRes m r (execSuspicionTimeout member s) := by
  unfold execSuspicionTimeout
  with_reducible repeat' (first | assumption | exact Kept.sub hm rfl | exact Kept.refl _ _ | refine KeptRes.next ?_ | refine Kept.cond ?_ ?_ | refine KeptRes.cond ?_ ?_ | refine KeptP.cond ?_ ?_ | apply State.setPeer_keeps | apply State.suspect_keeps | refine Kept.foldl ?_ ?_ | intro _ | refine KeptP.foldl ?_ ?_ | refine KeptP.of_eq (by assumption) ?_ | dsimp only | split | dsimp only | refine KeptP.fst ?_ | refine KeptP.mk ?_ | fail_if_no_progress (refine Kept.upd ?_ (by rfl) (by intro p hp; cases p <;> first | rfl | exact (Kept.no hm hp (by decide)).elim)))
theorem execPropose_keeps {m : Nat} {r : State} (port : Nat) (msg : List Byte) (s : State) (hm : Nat.land 6570258 m = 6570258) (h : Kept m r s) : KeptRes m r (execPropose port msg s) := by
  unfold execPropose
  with_reducible repeat' (first | assumption | exact Kept.sub hm rfl | exact Kept.refl _ _ | refine KeptRes.next ?_ | refine Kept.cond ?_ ?_ | refine KeptRes.cond ?_ ?_ | refine KeptP.cond ?_ ?_ | apply State.hearCons_keeps | apply State.sendCons_keeps | apply State.takeCons_keeps | refine Kept.foldl ?_ ?_ | intro _ | refine KeptP.foldl ?_ ?_ | refine KeptP.of_eq (by assumption) ?_ | dsimp only | split | dsimp only | refine KeptP.fst ?_ | refine KeptP.mk ?_ | fail_if_no_progress (refine Kept.upd ?_ (by rfl) (by intro p hp; cases p <;> first | rfl | exact (Kept.no hm hp (by decide)).elim)))
theorem execAccept_keeps {m : Nat} {r : State} (port : Nat) (msg : List Byte) (s : State) (hm : Nat.land 6570258 m = 6570258) (h : Kept m r s) : KeptRes m r (execAccept port msg s) := by
  unfold execAccept
  with_reducible repeat' (first | assumption | exact Kept.sub hm rfl | exact Kept.refl _ _ | refine KeptRes.next ?_ | refine Kept.cond ?_ ?_ | refine KeptRes.cond ?_ ?_ | refine KeptP.cond ?_ ?_ | apply State.hearCons_keeps | apply State.takeCons_keeps | apply State.tryCommit_keeps | refine Kept.foldl ?_ ?_ | intro _ | refine KeptP.foldl ?_ ?_ | refine KeptP.of_eq (by assumption) ?_ | dsimp only | split | dsimp only | refine KeptP.fst ?_ | refine KeptP.mk ?_ | fail_if_no_progress (refine Kept.upd ?_ (by rfl) (by intro p hp; cases p <;> first | rfl | exact (Kept.no hm hp (by decide)).elim)))
theorem State.applyNow_keeps {m : Nat} {r : State} (s : State) (p : Proposal) (hm : Nat.land 16777146 m = 16777146) (h : Kept m r s) : Kept m r (State.applyNow s p) := by
  unfold State.applyNow
  with_reducible repeat' (first | assumption | exact Kept.sub hm rfl | exact Kept.refl _ _ | refine KeptRes.next ?_ | refine Kept.cond ?_ ?_ | refine KeptRes.cond ?_ ?_ | refine KeptP.cond ?_ ?_ | apply State.applyChange_keeps | apply State.releaseHeld_keeps | refine Kept.foldl ?_ ?_ | intro _ | refine KeptP.foldl ?_ ?_ | refine KeptP.of_eq (by assumption) ?_ | dsimp only | split | dsimp only | refine KeptP.fst ?_ | refine KeptP.mk ?_ | fail_if_no_progress (refine Kept.upd ?_ (by rfl) (by intro p hp; cases p <;> first | rfl | exact (Kept.no hm hp (by decide)).elim)))
theorem State.takeCommit_keeps {m : Nat} {r : State} (s : State) (p : Proposal) (frame : Nat) (joins : Bool) (hm : Nat.land 16777146 m = 16777146) (h : Kept m r s) : Kept m r (State.takeCommit s p frame joins) := by
  unfold State.takeCommit
  with_reducible repeat' (first | assumption | exact Kept.sub hm rfl | exact Kept.refl _ _ | refine KeptRes.next ?_ | refine Kept.cond ?_ ?_ | refine KeptRes.cond ?_ ?_ | refine KeptP.cond ?_ ?_ | apply State.applyNow_keeps | apply State.selfFence_keeps | refine Kept.foldl ?_ ?_ | intro _ | refine KeptP.foldl ?_ ?_ | refine KeptP.of_eq (by assumption) ?_ | dsimp only | split | dsimp only | refine KeptP.fst ?_ | refine KeptP.mk ?_ | fail_if_no_progress (refine Kept.upd ?_ (by rfl) (by intro p hp; cases p <;> first | rfl | exact (Kept.no hm hp (by decide)).elim)))
theorem execCommit_keeps {m : Nat} {r : State} (port : Nat) (msg : List Byte) (s : State) (hm : Nat.land 16777146 m = 16777146) (h : Kept m r s) : KeptRes m r (execCommit port msg s) := by
  unfold execCommit
  with_reducible repeat' (first | assumption | exact Kept.sub hm rfl | exact Kept.refl _ _ | refine KeptRes.next ?_ | refine Kept.cond ?_ ?_ | refine KeptRes.cond ?_ ?_ | refine KeptP.cond ?_ ?_ | apply State.hearCons_keeps | apply State.takeCommit_keeps | apply State.takeCons_keeps | refine Kept.foldl ?_ ?_ | intro _ | refine KeptP.foldl ?_ ?_ | refine KeptP.of_eq (by assumption) ?_ | dsimp only | split | dsimp only | refine KeptP.fst ?_ | refine KeptP.mk ?_ | fail_if_no_progress (refine Kept.upd ?_ (by rfl) (by intro p hp; cases p <;> first | rfl | exact (Kept.no hm hp (by decide)).elim)))
theorem execConsFatal_keeps {m : Nat} {r : State} (port : Nat) (msg : List Byte) (s : State) (hm : Nat.land 6570258 m = 6570258) (h : Kept m r s) : KeptRes m r (execConsFatal port msg s) := by
  unfold execConsFatal
  with_reducible repeat' (first | assumption | exact Kept.sub hm rfl | exact Kept.refl _ _ | refine KeptRes.next ?_ | refine Kept.cond ?_ ?_ | refine KeptRes.cond ?_ ?_ | refine KeptP.cond ?_ ?_ | apply State.setPeer_keeps | apply State.suspect_keeps | apply State.takeCons_keeps | refine Kept.foldl ?_ ?_ | intro _ | refine KeptP.foldl ?_ ?_ | refine KeptP.of_eq (by assumption) ?_ | dsimp only | split | dsimp only | refine KeptP.fst ?_ | refine KeptP.mk ?_ | fail_if_no_progress (refine Kept.upd ?_ (by rfl) (by intro p hp; cases p <;> first | rfl | exact (Kept.no hm hp (by decide)).elim)))
theorem execConsBrace_keeps {m : Nat} {r : State} (port : Nat) (msg : List Byte) (s : State) (hm : Nat.land 6668562 m = 6668562) (h : Kept m r s) : KeptRes m r (execConsBrace port msg s) := by
  unfold execConsBrace
  with_reducible repeat' (first | assumption | exact Kept.sub hm rfl | exact Kept.refl _ _ | refine KeptRes.next ?_ | refine Kept.cond ?_ ?_ | refine KeptRes.cond ?_ ?_ | refine KeptP.cond ?_ ?_ | apply State.breakAssign_keeps | apply State.hearCons_keeps | apply State.setPeer_keeps | apply State.takeCons_keeps | refine Kept.foldl ?_ ?_ | intro _ | refine KeptP.foldl ?_ ?_ | refine KeptP.of_eq (by assumption) ?_ | dsimp only | split | dsimp only | refine KeptP.fst ?_ | refine KeptP.mk ?_ | fail_if_no_progress (refine Kept.upd ?_ (by rfl) (by intro p hp; cases p <;> first | rfl | exact (Kept.no hm hp (by decide)).elim)))
theorem execMapChangeApply_keeps {m : Nat} {r : State} (s : State) (hm : Nat.land 16777146 m = 16777146) (h : Kept m r s) : KeptRes m r (execMapChangeApply s) := by
  unfold execMapChangeApply
  with_reducible repeat' (first | assumption | exact Kept.sub hm rfl | exact Kept.refl _ _ | refine KeptRes.next ?_ | refine Kept.cond ?_ ?_ | refine KeptRes.cond ?_ ?_ | refine KeptP.cond ?_ ?_ | apply State.applyNow_keeps | refine Kept.foldl ?_ ?_ | intro _ | refine KeptP.foldl ?_ ?_ | refine KeptP.of_eq (by assumption) ?_ | dsimp only | split | dsimp only | refine KeptP.fst ?_ | refine KeptP.mk ?_ | fail_if_no_progress (refine Kept.upd ?_ (by rfl) (by intro p hp; cases p <;> first | rfl | exact (Kept.no hm hp (by decide)).elim)))
theorem execCoordinatorTakeover_keeps {m : Nat} {r : State} (s : State) (hm : Nat.land 2375696 m = 2375696) (h : Kept m r s) : KeptRes m r (execCoordinatorTakeover s) := by
  unfold execCoordinatorTakeover
  with_reducible repeat' (first | assumption | exact Kept.sub hm rfl | exact Kept.refl _ _ | refine KeptRes.next ?_ | refine Kept.cond ?_ ?_ | refine KeptRes.cond ?_ ?_ | refine KeptP.cond ?_ ?_ | apply State.propose_keeps | refine Kept.foldl ?_ ?_ | intro _ | refine KeptP.foldl ?_ ?_ | refine KeptP.of_eq (by assumption) ?_ | dsimp only | split | dsimp only | refine KeptP.fst ?_ | refine KeptP.mk ?_ | fail_if_no_progress (refine Kept.upd ?_ (by rfl) (by intro p hp; cases p <;> first | rfl | exact (Kept.no hm hp (by decide)).elim)))
theorem execQuorumLoss_keeps {m : Nat} {r : State} (s : State) (hm : Nat.land 16752538 m = 16752538) (h : Kept m r s) : KeptRes m r (execQuorumLoss s) := by
  unfold execQuorumLoss
  with_reducible repeat' (first | assumption | exact Kept.sub hm rfl | exact Kept.refl _ _ | refine KeptRes.next ?_ | refine Kept.cond ?_ ?_ | refine KeptRes.cond ?_ ?_ | refine KeptP.cond ?_ ?_ | apply State.selfFence_keeps | refine Kept.foldl ?_ ?_ | intro _ | refine KeptP.foldl ?_ ?_ | refine KeptP.of_eq (by assumption) ?_ | dsimp only | split | dsimp only | refine KeptP.fst ?_ | refine KeptP.mk ?_ | fail_if_no_progress (refine Kept.upd ?_ (by rfl) (by intro p hp; cases p <;> first | rfl | exact (Kept.no hm hp (by decide)).elim)))
theorem execRemirrorCopy_keeps {m : Nat} {r : State} (slot : Nat) (page : Nat) (s : State) (hm : Nat.land 16648466 m = 16648466) (h : Kept m r s) : KeptRes m r (execRemirrorCopy slot page s) := by
  unfold execRemirrorCopy
  with_reducible repeat' (first | assumption | exact Kept.sub hm rfl | exact Kept.refl _ _ | refine KeptRes.next ?_ | refine Kept.cond ?_ ?_ | refine KeptRes.cond ?_ ?_ | refine KeptP.cond ?_ ?_ | apply State.checkReads_keeps | apply State.pageMirrored_keeps | apply State.sendItem_keeps | apply State.setGran_keeps | refine Kept.foldl ?_ ?_ | intro _ | refine KeptP.foldl ?_ ?_ | refine KeptP.of_eq (by assumption) ?_ | dsimp only | split | dsimp only | refine KeptP.fst ?_ | refine KeptP.mk ?_ | fail_if_no_progress (refine Kept.upd ?_ (by rfl) (by intro p hp; cases p <;> first | rfl | exact (Kept.no hm hp (by decide)).elim)))
theorem execFlashRebuild_keeps {m : Nat} {r : State} (slab : Nat) (stripe : Nat) (slot : Nat) (s : State) (hm : Nat.land 262402 m = 262402) (h : Kept m r s) : KeptRes m r (execFlashRebuild slab stripe slot s) := by
  unfold execFlashRebuild
  with_reducible repeat' (first | assumption | exact Kept.sub hm rfl | exact Kept.refl _ _ | refine KeptRes.next ?_ | refine Kept.cond ?_ ?_ | refine KeptRes.cond ?_ ?_ | refine KeptP.cond ?_ ?_ | apply State.count_keeps | apply State.setGran_keeps | apply State.setPage_keeps | refine Kept.foldl ?_ ?_ | intro _ | refine KeptP.foldl ?_ ?_ | refine KeptP.of_eq (by assumption) ?_ | dsimp only | split | dsimp only | refine KeptP.fst ?_ | refine KeptP.mk ?_ | fail_if_no_progress (refine Kept.upd ?_ (by rfl) (by intro p hp; cases p <;> first | rfl | exact (Kept.no hm hp (by decide)).elim)))
theorem execMapQuery_keeps {m : Nat} {r : State} (entry : Nat) (s : State) (hm : Nat.land 2097152 m = 2097152) (h : Kept m r s) : KeptRes m r (execMapQuery entry s) := by
  unfold execMapQuery
  with_reducible repeat' (first | assumption | exact Kept.sub hm rfl | exact Kept.refl _ _ | refine KeptRes.next ?_ | refine Kept.cond ?_ ?_ | refine KeptRes.cond ?_ ?_ | refine KeptP.cond ?_ ?_ | apply State.finish_keeps | apply State.putResults_keeps | refine Kept.foldl ?_ ?_ | intro _ | refine KeptP.foldl ?_ ?_ | refine KeptP.of_eq (by assumption) ?_ | dsimp only | split | dsimp only | refine KeptP.fst ?_ | refine KeptP.mk ?_ | fail_if_no_progress (refine Kept.upd ?_ (by rfl) (by intro p hp; cases p <;> first | rfl | exact (Kept.no hm hp (by decide)).elim)))
theorem execMapForm_keeps {m : Nat} {r : State} (entry : Nat) (s : State) (hm : Nat.land 2375954 m = 2375954) (h : Kept m r s) : KeptRes m r (execMapForm entry s) := by
  unfold execMapForm
  with_reducible repeat' (first | assumption | exact Kept.sub hm rfl | exact Kept.refl _ _ | refine KeptRes.next ?_ | refine Kept.cond ?_ ?_ | refine KeptRes.cond ?_ ?_ | refine KeptP.cond ?_ ?_ | apply State.failWith_keeps | apply State.modEntry_keeps | apply State.sendHeartbeats_keeps | apply State.setFld_keeps | apply State.tryForm_keeps | refine Kept.foldl ?_ ?_ | intro _ | refine KeptP.foldl ?_ ?_ | refine KeptP.of_eq (by assumption) ?_ | dsimp only | split | dsimp only | refine KeptP.fst ?_ | refine KeptP.mk ?_ | fail_if_no_progress (refine Kept.upd ?_ (by rfl) (by intro p hp; cases p <;> first | rfl | exact (Kept.no hm hp (by decide)).elim)))
theorem execMapFormTimeout_keeps {m : Nat} {r : State} (entry : Nat) (s : State) (hm : Nat.land 2359554 m = 2359554) (h : Kept m r s) : KeptRes m r (execMapFormTimeout entry s) := by
  unfold execMapFormTimeout
  with_reducible repeat' (first | assumption | exact Kept.sub hm rfl | exact Kept.refl _ _ | refine KeptRes.next ?_ | refine Kept.cond ?_ ?_ | refine KeptRes.cond ?_ ?_ | refine KeptP.cond ?_ ?_ | apply State.failWith_keeps | apply State.unform_keeps | refine Kept.foldl ?_ ?_ | intro _ | refine KeptP.foldl ?_ ?_ | refine KeptP.of_eq (by assumption) ?_ | dsimp only | split | dsimp only | refine KeptP.fst ?_ | refine KeptP.mk ?_ | fail_if_no_progress (refine Kept.upd ?_ (by rfl) (by intro p hp; cases p <;> first | rfl | exact (Kept.no hm hp (by decide)).elim)))
theorem State.askChange_keeps {m : Nat} {r : State} (s : State) (entry : Nat) (classes : Nat) (p : Proposal) (hm : Nat.land 2375696 m = 2375696) (h : Kept m r s) : Kept m r (State.askChange s entry classes p) := by
  unfold State.askChange
  with_reducible repeat' (first | assumption | exact Kept.sub hm rfl | exact Kept.refl _ _ | refine KeptRes.next ?_ | refine Kept.cond ?_ ?_ | refine KeptRes.cond ?_ ?_ | refine KeptP.cond ?_ ?_ | apply State.forward_keeps | apply State.modEntry_keeps | apply State.propose_keeps | refine Kept.foldl ?_ ?_ | intro _ | refine KeptP.foldl ?_ ?_ | refine KeptP.of_eq (by assumption) ?_ | dsimp only | split | dsimp only | refine KeptP.fst ?_ | refine KeptP.mk ?_ | fail_if_no_progress (refine Kept.upd ?_ (by rfl) (by intro p hp; cases p <;> first | rfl | exact (Kept.no hm hp (by decide)).elim)))
theorem execMapAdmit_keeps {m : Nat} {r : State} (entry : Nat) (s : State) (hm : Nat.land 2375696 m = 2375696) (h : Kept m r s) : KeptRes m r (execMapAdmit entry s) := by
  unfold execMapAdmit
  with_reducible repeat' (first | assumption | exact Kept.sub hm rfl | exact Kept.refl _ _ | refine KeptRes.next ?_ | refine Kept.cond ?_ ?_ | refine KeptRes.cond ?_ ?_ | refine KeptP.cond ?_ ?_ | apply State.askChange_keeps | apply State.failWith_keeps | refine Kept.foldl ?_ ?_ | intro _ | refine KeptP.foldl ?_ ?_ | refine KeptP.of_eq (by assumption) ?_ | dsimp only | split | dsimp only | refine KeptP.fst ?_ | refine KeptP.mk ?_ | fail_if_no_progress (refine Kept.upd ?_ (by rfl) (by intro p hp; cases p <;> first | rfl | exact (Kept.no hm hp (by decide)).elim)))
theorem execMapFence_keeps {m : Nat} {r : State} (entry : Nat) (s : State) (hm : Nat.land 2375696 m = 2375696) (h : Kept m r s) : KeptRes m r (execMapFence entry s) := by
  unfold execMapFence
  with_reducible repeat' (first | assumption | exact Kept.sub hm rfl | exact Kept.refl _ _ | refine KeptRes.next ?_ | refine Kept.cond ?_ ?_ | refine KeptRes.cond ?_ ?_ | refine KeptP.cond ?_ ?_ | apply State.askChange_keeps | refine Kept.foldl ?_ ?_ | intro _ | refine KeptP.foldl ?_ ?_ | refine KeptP.of_eq (by assumption) ?_ | dsimp only | split | dsimp only | refine KeptP.fst ?_ | refine KeptP.mk ?_ | fail_if_no_progress (refine Kept.upd ?_ (by rfl) (by intro p hp; cases p <;> first | rfl | exact (Kept.no hm hp (by decide)).elim)))
theorem execMapAssign_keeps {m : Nat} {r : State} (entry : Nat) (s : State) (hm : Nat.land 2474256 m = 2474256) (h : Kept m r s) : KeptRes m r (execMapAssign entry s) := by
  unfold execMapAssign
  with_reducible repeat' (first | assumption | exact Kept.sub hm rfl | exact Kept.refl _ _ | refine KeptRes.next ?_ | refine Kept.cond ?_ ?_ | refine KeptRes.cond ?_ ?_ | refine KeptP.cond ?_ ?_ | apply State.askChange_keeps | apply State.copySlot_keeps | apply State.endAssign_keeps | apply State.finish_keeps | apply State.forward_keeps | apply State.modEntry_keeps | apply State.sendItem_keeps | refine Kept.foldl ?_ ?_ | intro _ | refine KeptP.foldl ?_ ?_ | refine KeptP.of_eq (by assumption) ?_ | dsimp only | split | dsimp only | refine KeptP.fst ?_ | refine KeptP.mk ?_ | fail_if_no_progress (refine Kept.upd ?_ (by rfl) (by intro p hp; cases p <;> first | rfl | exact (Kept.no hm hp (by decide)).elim)))
theorem State.readBlock_keeps {m : Nat} {r : State} (s : State) (id : Nat) (p : Packet) (result : HostResult) (block : List Byte) (hm : Nat.land 16771474 m = 16771474) (h : Kept m r s) : KeptP m r (State.readBlock s id p result block) := by
  unfold State.readBlock
  with_reducible repeat' (first | assumption | exact Kept.sub hm rfl | exact Kept.refl _ _ | refine KeptRes.next ?_ | refine Kept.cond ?_ ?_ | refine KeptRes.cond ?_ ?_ | refine KeptP.cond ?_ ?_ | apply State.accessPages_keeps | apply State.prepare_keeps | apply State.readStore_keeps | refine Kept.foldl ?_ ?_ | intro _ | refine KeptP.foldl ?_ ?_ | refine KeptP.of_eq (by assumption) ?_ | dsimp only | split | dsimp only | refine KeptP.fst ?_ | refine KeptP.mk ?_ | fail_if_no_progress (refine Kept.upd ?_ (by rfl) (by intro p hp; cases p <;> first | rfl | exact (Kept.no hm hp (by decide)).elim)))
theorem State.beginAccepted_keeps {m : Nat} {r : State} (s : State) (id : Nat) (p : Packet) (hm : Nat.land 16777114 m = 16777114) (h : Kept m r s) : Kept m r (State.beginAccepted s id p) := by
  unfold State.beginAccepted
  with_reducible repeat' (first | assumption | exact Kept.sub hm rfl | exact Kept.refl _ _ | refine KeptRes.next ?_ | refine Kept.cond ?_ ?_ | refine KeptRes.cond ?_ ?_ | refine KeptP.cond ?_ ?_ | apply State.beginRevoke_keeps | apply State.beginSeal_keeps | apply State.beginWithdraw_keeps | apply State.count_keeps | apply State.dmaGoesOn_keeps | apply State.modEntry_keeps | refine Kept.foldl ?_ ?_ | intro _ | refine KeptP.foldl ?_ ?_ | refine KeptP.of_eq (by assumption) ?_ | dsimp only | split | dsimp only | refine KeptP.fst ?_ | refine KeptP.mk ?_ | fail_if_no_progress (refine Kept.upd ?_ (by rfl) (by intro p hp; cases p <;> first | rfl | exact (Kept.no hm hp (by decide)).elim)))
theorem State.rejectEntry_keeps {m : Nat} {r : State} (s : State) (id : Nat) (st : Nat) (sub : Nat) (r0 : optParam Nat 0) (hm : Nat.land 2097152 m = 2097152) (h : Kept m r s) : Kept m r (State.rejectEntry s id st sub r0) := by
  unfold State.rejectEntry
  with_reducible repeat' (first | assumption | exact Kept.sub hm rfl | exact Kept.refl _ _ | refine KeptRes.next ?_ | refine Kept.cond ?_ ?_ | refine KeptRes.cond ?_ ?_ | refine KeptP.cond ?_ ?_ | apply State.failWith_keeps | refine Kept.foldl ?_ ?_ | intro _ | refine KeptP.foldl ?_ ?_ | refine KeptP.of_eq (by assumption) ?_ | dsimp only | split | dsimp only | refine KeptP.fst ?_ | refine KeptP.mk ?_ | fail_if_no_progress (refine Kept.upd ?_ (by rfl) (by intro p hp; cases p <;> first | rfl | exact (Kept.no hm hp (by decide)).elim)))
theorem State.resultSpace_keeps {m : Nat} {r : State} (s : State) (id : Nat) (e : Entry) (hm : Nat.land 6291506 m = 6291506) (h : Kept m r s) : ∀ t, State.resultSpace s id e = some t → Kept m r t := by
  intro t e
  unfold State.resultSpace at e
  split at e
  · cases e; exact h
  · exact State.allocSlot_keeps _ _ _ _ (Kept.sub hm rfl) h _ e
theorem State.acceptEntry_keeps {m : Nat} {r : State} (s : State) (id : Nat) (e : Entry) (hm : Nat.land 16777146 m = 16777146) (h : Kept m r s) : Kept m r (State.acceptEntry s id e) := by
  unfold State.acceptEntry
  with_reducible repeat' (first | assumption | exact Kept.sub hm rfl | exact Kept.refl _ _ | refine KeptRes.next ?_ | refine Kept.cond ?_ ?_ | refine KeptRes.cond ?_ ?_ | refine KeptP.cond ?_ ?_ | apply State.beginAccepted_keeps | apply State.pulse_keeps | apply State.setEntry_keeps | refine Kept.foldl ?_ ?_ | intro _ | refine KeptP.foldl ?_ ?_ | refine KeptP.of_eq (by assumption) ?_ | dsimp only | split | dsimp only | refine KeptP.fst ?_ | refine KeptP.mk ?_ | fail_if_no_progress (refine Kept.upd ?_ (by rfl) (by intro p hp; cases p <;> first | rfl | exact (Kept.no hm hp (by decide)).elim)))
theorem State.lateChecks_keeps {m : Nat} {r : State} (s : State) (id : Nat) (e : Entry) (hm : Nat.land 16777146 m = 16777146) (h : Kept m r s) : Kept m r (State.lateChecks s id e) := by
  unfold State.lateChecks
  with_reducible repeat' (first | assumption | exact Kept.sub hm rfl | exact Kept.refl _ _ | refine KeptRes.next ?_ | refine Kept.cond ?_ ?_ | refine KeptRes.cond ?_ ?_ | refine KeptP.cond ?_ ?_ | apply State.acceptEntry_keeps | apply State.logFault_keeps | apply State.rejectEntry_keeps | refine State.resultSpace_keeps _ _ _ ?_ ?_ _ (by assumption) | refine Kept.foldl ?_ ?_ | intro _ | refine KeptP.foldl ?_ ?_ | refine KeptP.of_eq (by assumption) ?_ | dsimp only | split | dsimp only | refine KeptP.fst ?_ | refine KeptP.mk ?_ | fail_if_no_progress (refine Kept.upd ?_ (by rfl) (by intro p hp; cases p <;> first | rfl | exact (Kept.no hm hp (by decide)).elim)))
theorem execIntakeAccept_keeps {m : Nat} {r : State} (entry : Nat) (result : HostResult) (block : List Byte) (s : State) (hm : Nat.land 16777146 m = 16777146) (h : Kept m r s) : KeptRes m r (execIntakeAccept entry result block s) := by
  unfold execIntakeAccept
  with_reducible repeat' (first | assumption | exact Kept.sub hm rfl | exact Kept.refl _ _ | refine KeptRes.next ?_ | refine Kept.cond ?_ ?_ | refine KeptRes.cond ?_ ?_ | refine KeptP.cond ?_ ?_ | apply State.lateChecks_keeps | apply State.readBlock_keeps | apply State.rejectEntry_keeps | refine Kept.foldl ?_ ?_ | intro _ | refine KeptP.foldl ?_ ?_ | refine KeptP.of_eq (by assumption) ?_ | dsimp only | split | dsimp only | refine KeptP.fst ?_ | refine KeptP.mk ?_ | fail_if_no_progress (refine Kept.upd ?_ (by rfl) (by intro p hp; cases p <;> first | rfl | exact (Kept.no hm hp (by decide)).elim)))
theorem execCmd_keeps {m : Nat} {r : State} (port : Nat) (msg : List Byte) (s : State) (hm : Nat.land 7881010 m = 7881010) (h : Kept m r s) : KeptRes m r (execCmd port msg s) := by
  unfold execCmd
  with_reducible repeat' (first | assumption | exact Kept.sub hm rfl | exact Kept.refl _ _ | refine KeptRes.next ?_ | refine Kept.cond ?_ ?_ | refine KeptRes.cond ?_ ?_ | refine KeptP.cond ?_ ?_ | apply State.answerCmd_keeps | apply State.enterPacket_keeps | apply State.msgBad_keeps | apply State.setSource_keeps | apply State.takeMsg_keeps | apply State.wake_keeps | refine Kept.foldl ?_ ?_ | intro _ | refine KeptP.foldl ?_ ?_ | refine KeptP.of_eq (by assumption) ?_ | dsimp only | split | dsimp only | refine KeptP.fst ?_ | refine KeptP.mk ?_ | fail_if_no_progress (refine Kept.upd ?_ (by rfl) (by intro p hp; cases p <;> first | rfl | exact (Kept.no hm hp (by decide)).elim)))
theorem State.ctrlMiss_keeps {m : Nat} {r : State} (s : State) (p : Nat) (stale : Bool) (hm : Nat.land 4210706 m = 4210706) (h : Kept m r s) : Kept m r (State.ctrlMiss s p stale) := by
  unfold State.ctrlMiss
  with_reducible repeat' (first | assumption | exact Kept.sub hm rfl | exact Kept.refl _ _ | refine KeptRes.next ?_ | refine Kept.cond ?_ ?_ | refine KeptRes.cond ?_ ?_ | refine KeptP.cond ?_ ?_ | apply State.raise_keeps | apply State.setPort_keeps | refine Kept.foldl ?_ ?_ | intro _ | refine KeptP.foldl ?_ ?_ | refine KeptP.of_eq (by assumption) ?_ | dsimp only | split | dsimp only | refine KeptP.fst ?_ | refine KeptP.mk ?_ | fail_if_no_progress (refine Kept.upd ?_ (by rfl) (by intro p hp; cases p <;> first | rfl | exact (Kept.no hm hp (by decide)).elim)))
theorem execCtrlAbort_keeps {m : Nat} {r : State} (port : Nat) (msg : List Byte) (s : State) (hm : Nat.land 16768922 m = 16768922) (h : Kept m r s) : KeptRes m r (execCtrlAbort port msg s) := by
  unfold execCtrlAbort
  with_reducible repeat' (first | assumption | exact Kept.sub hm rfl | exact Kept.refl _ _ | refine KeptRes.next ?_ | refine Kept.cond ?_ ?_ | refine KeptRes.cond ?_ ?_ | refine KeptP.cond ?_ ?_ | apply State.abortAll_keeps | apply State.ctrlMiss_keeps | apply State.msgBad_keeps | apply State.takeMsg_keeps | refine Kept.foldl ?_ ?_ | intro _ | refine KeptP.foldl ?_ ?_ | refine KeptP.of_eq (by assumption) ?_ | dsimp only | split | dsimp only | refine KeptP.fst ?_ | refine KeptP.mk ?_ | fail_if_no_progress (refine Kept.upd ?_ (by rfl) (by intro p hp; cases p <;> first | rfl | exact (Kept.no hm hp (by decide)).elim)))
theorem execCtrlRelease_keeps {m : Nat} {r : State} (port : Nat) (msg : List Byte) (s : State) (hm : Nat.land 4210738 m = 4210738) (h : Kept m r s) : KeptRes m r (execCtrlRelease port msg s) := by
  unfold execCtrlRelease
  with_reducible repeat' (first | assumption | exact Kept.sub hm rfl | exact Kept.refl _ _ | refine KeptRes.next ?_ | refine Kept.cond ?_ ?_ | refine KeptRes.cond ?_ ?_ | refine KeptP.cond ?_ ?_ | apply State.ctrlMiss_keeps | apply State.msgBad_keeps | apply State.releaseHandle_keeps | apply State.takeMsg_keeps | refine Kept.foldl ?_ ?_ | intro _ | refine KeptP.foldl ?_ ?_ | refine KeptP.of_eq (by assumption) ?_ | dsimp only | split | dsimp only | refine KeptP.fst ?_ | refine KeptP.mk ?_ | fail_if_no_progress (refine Kept.upd ?_ (by rfl) (by intro p hp; cases p <;> first | rfl | exact (Kept.no hm hp (by decide)).elim)))
theorem execCtrlGrant_keeps {m : Nat} {r : State} (port : Nat) (s : State) (hm : Nat.land 32 m = 32) (h : Kept m r s) : KeptRes m r (execCtrlGrant port s) := by
  unfold execCtrlGrant
  with_reducible repeat' (first | assumption | exact Kept.sub hm rfl | exact Kept.refl _ _ | refine KeptRes.next ?_ | refine Kept.cond ?_ ?_ | refine KeptRes.cond ?_ ?_ | refine KeptP.cond ?_ ?_ | apply State.setSource_keeps | refine Kept.foldl ?_ ?_ | intro _ | refine KeptP.foldl ?_ ?_ | refine KeptP.of_eq (by assumption) ?_ | dsimp only | split | dsimp only | refine KeptP.fst ?_ | refine KeptP.mk ?_ | fail_if_no_progress (refine Kept.upd ?_ (by rfl) (by intro p hp; cases p <;> first | rfl | exact (Kept.no hm hp (by decide)).elim)))
theorem State.definePool_keeps {m : Nat} {r : State} (s : State) (entry : Nat) (e : Entry) (hm : Nat.land 2367504 m = 2367504) (h : Kept m r s) : Kept m r (State.definePool s entry e) := by
  unfold State.definePool
  with_reducible repeat' (first | assumption | exact Kept.sub hm rfl | exact Kept.refl _ _ | refine KeptRes.next ?_ | refine Kept.cond ?_ ?_ | refine KeptRes.cond ?_ ?_ | refine KeptP.cond ?_ ?_ | apply State.dispatch_keeps | apply State.setKvpPool_keeps | refine Kept.foldl ?_ ?_ | intro _ | refine KeptP.foldl ?_ ?_ | refine KeptP.of_eq (by assumption) ?_ | dsimp only | split | dsimp only | refine KeptP.fst ?_ | refine KeptP.mk ?_ | fail_if_no_progress (refine Kept.upd ?_ (by rfl) (by intro p hp; cases p <;> first | rfl | exact (Kept.no hm hp (by decide)).elim)))
theorem execKvpDefine_keeps {m : Nat} {r : State} (entry : Nat) (s : State) (hm : Nat.land 2367504 m = 2367504) (h : Kept m r s) : KeptRes m r (execKvpDefine entry s) := by
  unfold execKvpDefine
  with_reducible repeat' (first | assumption | exact Kept.sub hm rfl | exact Kept.refl _ _ | refine KeptRes.next ?_ | refine Kept.cond ?_ ?_ | refine KeptRes.cond ?_ ?_ | refine KeptP.cond ?_ ?_ | apply State.definePool_keeps | apply State.failWith_keeps | apply State.forward_keeps | refine Kept.foldl ?_ ?_ | intro _ | refine KeptP.foldl ?_ ?_ | refine KeptP.of_eq (by assumption) ?_ | dsimp only | split | dsimp only | refine KeptP.fst ?_ | refine KeptP.mk ?_ | fail_if_no_progress (refine Kept.upd ?_ (by rfl) (by intro p hp; cases p <;> first | rfl | exact (Kept.no hm hp (by decide)).elim)))
theorem State.removePool_keeps {m : Nat} {r : State} (s : State) (entry : Nat) (e : Entry) (hm : Nat.land 2367504 m = 2367504) (h : Kept m r s) : Kept m r (State.removePool s entry e) := by
  unfold State.removePool
  with_reducible repeat' (first | assumption | exact Kept.sub hm rfl | exact Kept.refl _ _ | refine KeptRes.next ?_ | refine Kept.cond ?_ ?_ | refine KeptRes.cond ?_ ?_ | refine KeptP.cond ?_ ?_ | apply State.dispatch_keeps | refine Kept.foldl ?_ ?_ | intro _ | refine KeptP.foldl ?_ ?_ | refine KeptP.of_eq (by assumption) ?_ | dsimp only | split | dsimp only | refine KeptP.fst ?_ | refine KeptP.mk ?_ | fail_if_no_progress (refine Kept.upd ?_ (by rfl) (by intro p hp; cases p <;> first | rfl | exact (Kept.no hm hp (by decide)).elim)))
theorem execKvpDrop_keeps {m : Nat} {r : State} (entry : Nat) (s : State) (hm : Nat.land 2367504 m = 2367504) (h : Kept m r s) : KeptRes m r (execKvpDrop entry s) := by
  unfold execKvpDrop
  with_reducible repeat' (first | assumption | exact Kept.sub hm rfl | exact Kept.refl _ _ | refine KeptRes.next ?_ | refine Kept.cond ?_ ?_ | refine KeptRes.cond ?_ ?_ | refine KeptP.cond ?_ ?_ | apply State.conclude_keeps | apply State.failWith_keeps | apply State.forward_keeps | apply State.modEntry_keeps | apply State.removePool_keeps | apply State.sendStage_keeps | refine Kept.foldl ?_ ?_ | intro _ | refine KeptP.foldl ?_ ?_ | refine KeptP.of_eq (by assumption) ?_ | dsimp only | split | dsimp only | refine KeptP.fst ?_ | refine KeptP.mk ?_ | fail_if_no_progress (refine Kept.upd ?_ (by rfl) (by intro p hp; cases p <;> first | rfl | exact (Kept.no hm hp (by decide)).elim)))
theorem execKvpQuery_keeps {m : Nat} {r : State} (entry : Nat) (s : State) (hm : Nat.land 2097152 m = 2097152) (h : Kept m r s) : KeptRes m r (execKvpQuery entry s) := by
  unfold execKvpQuery
  with_reducible repeat' (first | assumption | exact Kept.sub hm rfl | exact Kept.refl _ _ | refine KeptRes.next ?_ | refine Kept.cond ?_ ?_ | refine KeptRes.cond ?_ ?_ | refine KeptP.cond ?_ ?_ | apply State.finish_keeps | refine Kept.foldl ?_ ?_ | intro _ | refine KeptP.foldl ?_ ?_ | refine KeptP.of_eq (by assumption) ?_ | dsimp only | split | dsimp only | refine KeptP.fst ?_ | refine KeptP.mk ?_ | fail_if_no_progress (refine Kept.upd ?_ (by rfl) (by intro p hp; cases p <;> first | rfl | exact (Kept.no hm hp (by decide)).elim)))
theorem State.openAt_keeps {m : Nat} {r : State} (s : State) (entry : Nat) (e : Entry) (length : Nat) (list : List Nat) (hm : Nat.land 16777114 m = 16777114) (h : Kept m r s) : Kept m r (State.openAt s entry e length list) := by
  unfold State.openAt
  with_reducible repeat' (first | assumption | exact Kept.sub hm rfl | exact Kept.refl _ _ | refine KeptRes.next ?_ | refine Kept.cond ?_ ?_ | refine KeptRes.cond ?_ ?_ | refine KeptP.cond ?_ ?_ | apply State.answerLocal_keeps | apply State.conclude_keeps | apply State.failWith_keeps | apply State.kvpEnd_keeps | apply State.openRun_keeps | apply State.sendKvp_keeps | refine Kept.foldl ?_ ?_ | intro _ | refine KeptP.foldl ?_ ?_ | refine KeptP.of_eq (by assumption) ?_ | dsimp only | split | dsimp only | refine KeptP.fst ?_ | refine KeptP.mk ?_ | fail_if_no_progress (refine Kept.upd ?_ (by rfl) (by intro p hp; cases p <;> first | rfl | exact (Kept.no hm hp (by decide)).elim)))
theorem execKvpOpen_keeps {m : Nat} {r : State} (entry : Nat) (s : State) (hm : Nat.land 16777114 m = 16777114) (h : Kept m r s) : KeptRes m r (execKvpOpen entry s) := by
  unfold execKvpOpen
  with_reducible repeat' (first | assumption | exact Kept.sub hm rfl | exact Kept.refl _ _ | refine KeptRes.next ?_ | refine Kept.cond ?_ ?_ | refine KeptRes.cond ?_ ?_ | refine KeptP.cond ?_ ?_ | apply State.conclude_keeps | apply State.failWith_keeps | apply State.localItem_keeps | apply State.openAt_keeps | apply State.routeSeq_keeps | apply State.sendKvp_keeps | refine Kept.foldl ?_ ?_ | intro _ | refine KeptP.foldl ?_ ?_ | refine KeptP.of_eq (by assumption) ?_ | dsimp only | split | dsimp only | refine KeptP.fst ?_ | refine KeptP.mk ?_ | fail_if_no_progress (refine Kept.upd ?_ (by rfl) (by intro p hp; cases p <;> first | rfl | exact (Kept.no hm hp (by decide)).elim)))
theorem execKvpAppend_keeps {m : Nat} {r : State} (entry : Nat) (s : State) (hm : Nat.land 16777114 m = 16777114) (h : Kept m r s) : KeptRes m r (execKvpAppend entry s) := by
  unfold execKvpAppend
  with_reducible repeat' (first | assumption | exact Kept.sub hm rfl | exact Kept.refl _ _ | refine KeptRes.next ?_ | refine Kept.cond ?_ ?_ | refine KeptRes.cond ?_ ?_ | refine KeptP.cond ?_ ?_ | apply State.kvpRun_keeps | refine Kept.foldl ?_ ?_ | intro _ | refine KeptP.foldl ?_ ?_ | refine KeptP.of_eq (by assumption) ?_ | dsimp only | split | dsimp only | refine KeptP.fst ?_ | refine KeptP.mk ?_ | fail_if_no_progress (refine Kept.upd ?_ (by rfl) (by intro p hp; cases p <;> first | rfl | exact (Kept.no hm hp (by decide)).elim)))
theorem execKvpLock_keeps {m : Nat} {r : State} (entry : Nat) (s : State) (hm : Nat.land 16777114 m = 16777114) (h : Kept m r s) : KeptRes m r (execKvpLock entry s) := by
  unfold execKvpLock
  with_reducible repeat' (first | assumption | exact Kept.sub hm rfl | exact Kept.refl _ _ | refine KeptRes.next ?_ | refine Kept.cond ?_ ?_ | refine KeptRes.cond ?_ ?_ | refine KeptP.cond ?_ ?_ | apply State.answerLocal_keeps | apply State.kvpRun_keeps | apply State.sendOutput_keeps | refine Kept.foldl ?_ ?_ | intro _ | refine KeptP.foldl ?_ ?_ | refine KeptP.of_eq (by assumption) ?_ | dsimp only | split | dsimp only | refine KeptP.fst ?_ | refine KeptP.mk ?_ | fail_if_no_progress (refine Kept.upd ?_ (by rfl) (by intro p hp; cases p <;> first | rfl | exact (Kept.no hm hp (by decide)).elim)))
theorem execKvpUnlock_keeps {m : Nat} {r : State} (entry : Nat) (s : State) (hm : Nat.land 16777114 m = 16777114) (h : Kept m r s) : KeptRes m r (execKvpUnlock entry s) := by
  unfold execKvpUnlock
  with_reducible repeat' (first | assumption | exact Kept.sub hm rfl | exact Kept.refl _ _ | refine KeptRes.next ?_ | refine Kept.cond ?_ ?_ | refine KeptRes.cond ?_ ?_ | refine KeptP.cond ?_ ?_ | apply State.kvpRun_keeps | refine Kept.foldl ?_ ?_ | intro _ | refine KeptP.foldl ?_ ?_ | refine KeptP.of_eq (by assumption) ?_ | dsimp only | split | dsimp only | refine KeptP.fst ?_ | refine KeptP.mk ?_ | fail_if_no_progress (refine Kept.upd ?_ (by rfl) (by intro p hp; cases p <;> first | rfl | exact (Kept.no hm hp (by decide)).elim)))
theorem execKvpLockExpiry_keeps {m : Nat} {r : State} (pool : Nat) (seq : Nat) (s : State) (hm : Nat.land 6561810 m = 6561810) (h : Kept m r s) : KeptRes m r (execKvpLockExpiry pool seq s) := by
  unfold execKvpLockExpiry
  with_reducible repeat' (first | assumption | exact Kept.sub hm rfl | exact Kept.refl _ _ | refine KeptRes.next ?_ | refine Kept.cond ?_ ?_ | refine KeptRes.cond ?_ ?_ | refine KeptP.cond ?_ ?_ | apply State.raise_keeps | apply State.sendChanges_keeps | apply State.unlockSeq_keeps | refine Kept.foldl ?_ ?_ | intro _ | refine KeptP.foldl ?_ ?_ | refine KeptP.of_eq (by assumption) ?_ | dsimp only | split | dsimp only | refine KeptP.fst ?_ | refine KeptP.mk ?_ | fail_if_no_progress (refine Kept.upd ?_ (by rfl) (by intro p hp; cases p <;> first | rfl | exact (Kept.no hm hp (by decide)).elim)))
theorem execKvpClose_keeps {m : Nat} {r : State} (entry : Nat) (s : State) (hm : Nat.land 16777114 m = 16777114) (h : Kept m r s) : KeptRes m r (execKvpClose entry s) := by
  unfold execKvpClose
  with_reducible repeat' (first | assumption | exact Kept.sub hm rfl | exact Kept.refl _ _ | refine KeptRes.next ?_ | refine Kept.cond ?_ ?_ | refine KeptRes.cond ?_ ?_ | refine KeptP.cond ?_ ?_ | apply State.answerLocal_keeps | apply State.kvpRun_keeps | apply State.modEntry_keeps | apply State.sendKvp_keeps | refine Kept.foldl ?_ ?_ | intro _ | refine KeptP.foldl ?_ ?_ | refine KeptP.of_eq (by assumption) ?_ | dsimp only | split | dsimp only | refine KeptP.fst ?_ | refine KeptP.mk ?_ | fail_if_no_progress (refine Kept.upd ?_ (by rfl) (by intro p hp; cases p <;> first | rfl | exact (Kept.no hm hp (by decide)).elim)))
theorem execKvpHandover_keeps {m : Nat} {r : State} (entry : Nat) (s : State) (hm : Nat.land 16777114 m = 16777114) (h : Kept m r s) : KeptRes m r (execKvpHandover entry s) := by
  unfold execKvpHandover
  with_reducible repeat' (first | assumption | exact Kept.sub hm rfl | exact Kept.refl _ _ | refine KeptRes.next ?_ | refine Kept.cond ?_ ?_ | refine KeptRes.cond ?_ ?_ | refine KeptP.cond ?_ ?_ | apply State.kvpRun_keeps | refine Kept.foldl ?_ ?_ | intro _ | refine KeptP.foldl ?_ ?_ | refine KeptP.of_eq (by assumption) ?_ | dsimp only | split | dsimp only | refine KeptP.fst ?_ | refine KeptP.mk ?_ | fail_if_no_progress (refine Kept.upd ?_ (by rfl) (by intro p hp; cases p <;> first | rfl | exact (Kept.no hm hp (by decide)).elim)))
theorem execKvpOffer_keeps {m : Nat} {r : State} (origin : Nat) (pool : Nat) (seq : Nat) (token : Nat) (length : Nat) (pages : List Nat) (s : State) (hm : Nat.land 8208 m = 8208) (h : Kept m r s) : KeptRes m r (execKvpOffer origin pool seq token length pages s) := by
  unfold execKvpOffer
  with_reducible repeat' (first | assumption | exact Kept.sub hm rfl | exact Kept.refl _ _ | refine KeptRes.next ?_ | refine Kept.cond ?_ ?_ | refine KeptRes.cond ?_ ?_ | refine KeptP.cond ?_ ?_ | apply State.emit_keeps | apply State.setSeq_keeps | refine Kept.foldl ?_ ?_ | intro _ | refine KeptP.foldl ?_ ?_ | refine KeptP.of_eq (by assumption) ?_ | dsimp only | split | dsimp only | refine KeptP.fst ?_ | refine KeptP.mk ?_ | fail_if_no_progress (refine Kept.upd ?_ (by rfl) (by intro p hp; cases p <;> first | rfl | exact (Kept.no hm hp (by decide)).elim)))
theorem execKvpOfferAccept_keeps {m : Nat} {r : State} (origin : Nat) (pool : Nat) (seq : Nat) (token : Nat) (s : State) (hm : Nat.land 16777114 m = 16777114) (h : Kept m r s) : KeptRes m r (execKvpOfferAccept origin pool seq token s) := by
  unfold execKvpOfferAccept
  with_reducible repeat' (first | assumption | exact Kept.sub hm rfl | exact Kept.refl _ _ | refine KeptRes.next ?_ | refine Kept.cond ?_ ?_ | refine KeptRes.cond ?_ ?_ | refine KeptP.cond ?_ ?_ | apply State.endHandover_keeps | refine Kept.foldl ?_ ?_ | intro _ | refine KeptP.foldl ?_ ?_ | refine KeptP.of_eq (by assumption) ?_ | dsimp only | split | dsimp only | refine KeptP.fst ?_ | refine KeptP.mk ?_ | fail_if_no_progress (refine Kept.upd ?_ (by rfl) (by intro p hp; cases p <;> first | rfl | exact (Kept.no hm hp (by decide)).elim)))
theorem execKvpOfferDecline_keeps {m : Nat} {r : State} (origin : Nat) (pool : Nat) (seq : Nat) (token : Nat) (s : State) (hm : Nat.land 16777114 m = 16777114) (h : Kept m r s) : KeptRes m r (execKvpOfferDecline origin pool seq token s) := by
  unfold execKvpOfferDecline
  with_reducible repeat' (first | assumption | exact Kept.sub hm rfl | exact Kept.refl _ _ | refine KeptRes.next ?_ | refine Kept.cond ?_ ?_ | refine KeptRes.cond ?_ ?_ | refine KeptP.cond ?_ ?_ | apply State.endHandover_keeps | refine Kept.foldl ?_ ?_ | intro _ | refine KeptP.foldl ?_ ?_ | refine KeptP.of_eq (by assumption) ?_ | dsimp only | split | dsimp only | refine KeptP.fst ?_ | refine KeptP.mk ?_ | fail_if_no_progress (refine Kept.upd ?_ (by rfl) (by intro p hp; cases p <;> first | rfl | exact (Kept.no hm hp (by decide)).elim)))
theorem execKvpOfferTimeout_keeps {m : Nat} {r : State} (pool : Nat) (seq : Nat) (s : State) (hm : Nat.land 16777114 m = 16777114) (h : Kept m r s) : KeptRes m r (execKvpOfferTimeout pool seq s) := by
  unfold execKvpOfferTimeout
  with_reducible repeat' (first | assumption | exact Kept.sub hm rfl | exact Kept.refl _ _ | refine KeptRes.next ?_ | refine Kept.cond ?_ ?_ | refine KeptRes.cond ?_ ?_ | refine KeptP.cond ?_ ?_ | apply State.emit_keeps | apply State.endHandover_keeps | apply State.setSeq_keeps | refine Kept.foldl ?_ ?_ | intro _ | refine KeptP.foldl ?_ ?_ | refine KeptP.of_eq (by assumption) ?_ | dsimp only | split | dsimp only | refine KeptP.fst ?_ | refine KeptP.mk ?_ | fail_if_no_progress (refine Kept.upd ?_ (by rfl) (by intro p hp; cases p <;> first | rfl | exact (Kept.no hm hp (by decide)).elim)))
theorem State.writeQp_keeps {m : Nat} {r : State} (s : State) (src : Nat) (off : Nat) (value : Word) (hm : Nat.land 32 m = 32) (h : Kept m r s) : Kept m r (State.writeQp s src off value) := by
  unfold State.writeQp
  with_reducible repeat' (first | assumption | exact Kept.sub hm rfl | exact Kept.refl _ _ | refine KeptRes.next ?_ | refine Kept.cond ?_ ?_ | refine KeptRes.cond ?_ ?_ | refine KeptP.cond ?_ ?_ | apply State.setQp_keeps | refine Kept.foldl ?_ ?_ | intro _ | refine KeptP.foldl ?_ ?_ | refine KeptP.of_eq (by assumption) ?_ | dsimp only | split | dsimp only | refine KeptP.fst ?_ | refine KeptP.mk ?_ | fail_if_no_progress (refine Kept.upd ?_ (by rfl) (by intro p hp; cases p <;> first | rfl | exact (Kept.no hm hp (by decide)).elim)))
theorem State.writeFnEvent_keeps {m : Nat} {r : State} (s : State) (src : Nat) (off : Nat) (value : Word) (hm : Nat.land 34 m = 34) (h : Kept m r s) : Kept m r (State.writeFnEvent s src off value) := by
  unfold State.writeFnEvent
  with_reducible repeat' (first | assumption | exact Kept.sub hm rfl | exact Kept.refl _ _ | refine KeptRes.next ?_ | refine Kept.cond ?_ ?_ | refine KeptRes.cond ?_ ?_ | refine KeptP.cond ?_ ?_ | apply State.setRegAt_keeps | apply State.setSource_keeps | refine Kept.foldl ?_ ?_ | intro _ | refine KeptP.foldl ?_ ?_ | refine KeptP.of_eq (by assumption) ?_ | dsimp only | split | dsimp only | refine KeptP.fst ?_ | refine KeptP.mk ?_ | fail_if_no_progress (refine Kept.upd ?_ (by rfl) (by intro p hp; cases p <;> first | rfl | exact (Kept.no hm hp (by decide)).elim)))
theorem State.writeEpRoute_keeps {m : Nat} {r : State} (s : State) (value : Word) (hm : Nat.land 16384 m = 16384) (h : Kept m r s) : Kept m r (State.writeEpRoute s value) := by
  unfold State.writeEpRoute
  with_reducible repeat' (first | assumption | exact Kept.sub hm rfl | exact Kept.refl _ _ | refine KeptRes.next ?_ | refine Kept.cond ?_ ?_ | refine KeptRes.cond ?_ ?_ | refine KeptP.cond ?_ ?_ | refine Kept.foldl ?_ ?_ | intro _ | refine KeptP.foldl ?_ ?_ | refine KeptP.of_eq (by assumption) ?_ | dsimp only | split | dsimp only | refine KeptP.fst ?_ | refine KeptP.mk ?_ | fail_if_no_progress (refine Kept.upd ?_ (by rfl) (by intro p hp; cases p <;> first | rfl | exact (Kept.no hm hp (by decide)).elim)))
theorem State.writeOwned_keeps {m : Nat} {r : State} (s : State) (src : Nat) (off : Nat) (value : Word) (hm : Nat.land 1048576 m = 1048576) (h : Kept m r s) : Kept m r (State.writeOwned s src off value) := by
  unfold State.writeOwned
  with_reducible repeat' (first | assumption | exact Kept.sub hm rfl | exact Kept.refl _ _ | refine KeptRes.next ?_ | refine Kept.cond ?_ ?_ | refine KeptRes.cond ?_ ?_ | refine KeptP.cond ?_ ?_ | apply State.setPmc_keeps | refine Kept.foldl ?_ ?_ | intro _ | refine KeptP.foldl ?_ ?_ | refine KeptP.of_eq (by assumption) ?_ | dsimp only | split | dsimp only | refine KeptP.fst ?_ | refine KeptP.mk ?_ | fail_if_no_progress (refine Kept.upd ?_ (by rfl) (by intro p hp; cases p <;> first | rfl | exact (Kept.no hm hp (by decide)).elim)))
theorem State.writePmc_keeps {m : Nat} {r : State} (s : State) (off : Nat) (value : Word) (hm : Nat.land 1048578 m = 1048578) (h : Kept m r s) : Kept m r (State.writePmc s off value) := by
  unfold State.writePmc
  with_reducible repeat' (first | assumption | exact Kept.sub hm rfl | exact Kept.refl _ _ | refine KeptRes.next ?_ | refine Kept.cond ?_ ?_ | refine KeptRes.cond ?_ ?_ | refine KeptP.cond ?_ ?_ | apply State.setPmc_keeps | apply State.setRegAt_keeps | refine Kept.foldl ?_ ?_ | intro _ | refine KeptP.foldl ?_ ?_ | refine KeptP.of_eq (by assumption) ?_ | dsimp only | split | dsimp only | refine KeptP.fst ?_ | refine KeptP.mk ?_ | fail_if_no_progress (refine Kept.upd ?_ (by rfl) (by intro p hp; cases p <;> first | rfl | exact (Kept.no hm hp (by decide)).elim)))
theorem State.writeRegister_keeps {m : Nat} {r : State} (s : State) (src : Nat) (off : Nat) (value : Word) (hm : Nat.land 1654818 m = 1654818) (h : Kept m r s) : Kept m r (State.writeRegister s src off value) := by
  unfold State.writeRegister
  with_reducible repeat' (first | assumption | exact Kept.sub hm rfl | exact Kept.refl _ _ | refine KeptRes.next ?_ | refine Kept.cond ?_ ?_ | refine KeptRes.cond ?_ ?_ | refine KeptP.cond ?_ ?_ | apply State.setRegAt_keeps | apply State.showCap_keeps | apply State.writeEpRoute_keeps | apply State.writeFnEvent_keeps | apply State.writeOwned_keeps | apply State.writePmc_keeps | apply State.writeQp_keeps | refine Kept.foldl ?_ ?_ | intro _ | refine KeptP.foldl ?_ ?_ | refine KeptP.of_eq (by assumption) ?_ | dsimp only | split | dsimp only | refine KeptP.fst ?_ | refine KeptP.mk ?_ | fail_if_no_progress (refine Kept.upd ?_ (by rfl) (by intro p hp; cases p <;> first | rfl | exact (Kept.no hm hp (by decide)).elim)))
theorem execEventEnWrite_keeps {m : Nat} {r : State} (src : Nat) (off : Nat) (value : Word) (s : State) (hm : Nat.land 4194322 m = 4194322) (h : Kept m r s) : KeptRes m r (execEventEnWrite src off value s) := by
  unfold execEventEnWrite
  with_reducible repeat' (first | assumption | exact Kept.sub hm rfl | exact Kept.refl _ _ | refine KeptRes.next ?_ | refine Kept.cond ?_ ?_ | refine KeptRes.cond ?_ ?_ | refine KeptP.cond ?_ ?_ | apply State.sendMsix_keeps | apply State.setRegAt_keeps | refine Kept.foldl ?_ ?_ | intro _ | refine KeptP.foldl ?_ ?_ | refine KeptP.of_eq (by assumption) ?_ | dsimp only | split | dsimp only | refine KeptP.fst ?_ | refine KeptP.mk ?_ | fail_if_no_progress (refine Kept.upd ?_ (by rfl) (by intro p hp; cases p <;> first | rfl | exact (Kept.no hm hp (by decide)).elim)))
theorem execMsixVectorUnmask_keeps {m : Nat} {r : State} (func : Nat) (vec : Nat) (s : State) (hm : Nat.land 4194320 m = 4194320) (h : Kept m r s) : KeptRes m r (execMsixVectorUnmask func vec s) := by
  unfold execMsixVectorUnmask
  with_reducible repeat' (first | assumption | exact Kept.sub hm rfl | exact Kept.refl _ _ | refine KeptRes.next ?_ | refine Kept.cond ?_ ?_ | refine KeptRes.cond ?_ ?_ | refine KeptP.cond ?_ ?_ | apply State.emit_keeps | refine Kept.foldl ?_ ?_ | intro _ | refine KeptP.foldl ?_ ?_ | refine KeptP.of_eq (by assumption) ?_ | dsimp only | split | dsimp only | refine KeptP.fst ?_ | refine KeptP.mk ?_ | fail_if_no_progress (refine Kept.upd ?_ (by rfl) (by intro p hp; cases p <;> first | rfl | exact (Kept.no hm hp (by decide)).elim)))
theorem execMeteringTick_keeps {m : Nat} {r : State} (cycles : List (Nat × Nat)) (s : State) (hm : Nat.land 262144 m = 262144) (h : Kept m r s) : KeptRes m r (execMeteringTick cycles s) := by
  unfold execMeteringTick
  with_reducible repeat' (first | assumption | exact Kept.sub hm rfl | exact Kept.refl _ _ | refine KeptRes.next ?_ | refine Kept.cond ?_ ?_ | refine KeptRes.cond ?_ ?_ | refine KeptP.cond ?_ ?_ | refine Kept.foldl ?_ ?_ | intro _ | refine KeptP.foldl ?_ ?_ | refine KeptP.of_eq (by assumption) ?_ | dsimp only | split | dsimp only | refine KeptP.fst ?_ | refine KeptP.mk ?_ | fail_if_no_progress (refine Kept.upd ?_ (by rfl) (by intro p hp; cases p <;> first | rfl | exact (Kept.no hm hp (by decide)).elim)))
theorem execMgtMeterSnap_keeps {m : Nat} {r : State} (src : Nat) (s : State) (hm : Nat.land 2 m = 2) (h : Kept m r s) : KeptRes m r (execMgtMeterSnap src s) := by
  unfold execMgtMeterSnap
  with_reducible repeat' (first | assumption | exact Kept.sub hm rfl | exact Kept.refl _ _ | refine KeptRes.next ?_ | refine Kept.cond ?_ ?_ | refine KeptRes.cond ?_ ?_ | refine KeptP.cond ?_ ?_ | apply State.setRegAt_keeps | refine Kept.foldl ?_ ?_ | intro _ | refine KeptP.foldl ?_ ?_ | refine KeptP.of_eq (by assumption) ?_ | dsimp only | split | dsimp only | refine KeptP.fst ?_ | refine KeptP.mk ?_ | fail_if_no_progress (refine Kept.upd ?_ (by rfl) (by intro p hp; cases p <;> first | rfl | exact (Kept.no hm hp (by decide)).elim)))
theorem State.endMeter_keeps {m : Nat} {r : State} (s : State) (entry : Nat) (e : Entry) (hm : Nat.land 2097152 m = 2097152) (h : Kept m r s) : Kept m r (State.endMeter s entry e) := by
  unfold State.endMeter
  with_reducible repeat' (first | assumption | exact Kept.sub hm rfl | exact Kept.refl _ _ | refine KeptRes.next ?_ | refine Kept.cond ?_ ?_ | refine KeptRes.cond ?_ ?_ | refine KeptP.cond ?_ ?_ | apply State.finish_keeps | apply State.putResults_keeps | refine Kept.foldl ?_ ?_ | intro _ | refine KeptP.foldl ?_ ?_ | refine KeptP.of_eq (by assumption) ?_ | dsimp only | split | dsimp only | refine KeptP.fst ?_ | refine KeptP.mk ?_ | fail_if_no_progress (refine Kept.upd ?_ (by rfl) (by intro p hp; cases p <;> first | rfl | exact (Kept.no hm hp (by decide)).elim)))
theorem execMeterQuery_keeps {m : Nat} {r : State} (entry : Nat) (s : State) (hm : Nat.land 2359312 m = 2359312) (h : Kept m r s) : KeptRes m r (execMeterQuery entry s) := by
  unfold execMeterQuery
  with_reducible repeat' (first | assumption | exact Kept.sub hm rfl | exact Kept.refl _ _ | refine KeptRes.next ?_ | refine Kept.cond ?_ ?_ | refine KeptRes.cond ?_ ?_ | refine KeptP.cond ?_ ?_ | apply State.endMeter_keeps | apply State.modEntry_keeps | apply State.sendItem_keeps | refine Kept.foldl ?_ ?_ | intro _ | refine KeptP.foldl ?_ ?_ | refine KeptP.of_eq (by assumption) ?_ | dsimp only | split | dsimp only | refine KeptP.fst ?_ | refine KeptP.mk ?_ | fail_if_no_progress (refine Kept.upd ?_ (by rfl) (by intro p hp; cases p <;> first | rfl | exact (Kept.no hm hp (by decide)).elim)))
theorem execCmpDrop_keeps {m : Nat} {r : State} (entry : Nat) (s : State) (hm : Nat.land 2359312 m = 2359312) (h : Kept m r s) : KeptRes m r (execCmpDrop entry s) := by
  unfold execCmpDrop
  with_reducible repeat' (first | assumption | exact Kept.sub hm rfl | exact Kept.refl _ _ | refine KeptRes.next ?_ | refine Kept.cond ?_ ?_ | refine KeptRes.cond ?_ ?_ | refine KeptP.cond ?_ ?_ | apply State.dispatch_keeps | refine Kept.foldl ?_ ?_ | intro _ | refine KeptP.foldl ?_ ?_ | refine KeptP.of_eq (by assumption) ?_ | dsimp only | split | dsimp only | refine KeptP.fst ?_ | refine KeptP.mk ?_ | fail_if_no_progress (refine Kept.upd ?_ (by rfl) (by intro p hp; cases p <;> first | rfl | exact (Kept.no hm hp (by decide)).elim)))
theorem State.mapPmcs_keeps {m : Nat} {r : State} (s : State) (p : Pmc → Bool) (f : Pmc → Pmc) (hm : Nat.land 1048576 m = 1048576) (h : Kept m r s) : Kept m r (State.mapPmcs s p f) := by
  unfold State.mapPmcs
  with_reducible repeat' (first | assumption | exact Kept.sub hm rfl | exact Kept.refl _ _ | refine KeptRes.next ?_ | refine Kept.cond ?_ ?_ | refine KeptRes.cond ?_ ?_ | refine KeptP.cond ?_ ?_ | refine Kept.foldl ?_ ?_ | intro _ | refine KeptP.foldl ?_ ?_ | refine KeptP.of_eq (by assumption) ?_ | dsimp only | split | dsimp only | refine KeptP.fst ?_ | refine KeptP.mk ?_ | fail_if_no_progress (refine Kept.upd ?_ (by rfl) (by intro p hp; cases p <;> first | rfl | exact (Kept.no hm hp (by decide)).elim)))
theorem State.snapPmcs_keeps {m : Nat} {r : State} (s : State) (hm : Nat.land 1048576 m = 1048576) (h : Kept m r s) : Kept m r (State.snapPmcs s) := by
  unfold State.snapPmcs
  with_reducible repeat' (first | assumption | exact Kept.sub hm rfl | exact Kept.refl _ _ | refine KeptRes.next ?_ | refine Kept.cond ?_ ?_ | refine KeptRes.cond ?_ ?_ | refine KeptP.cond ?_ ?_ | apply State.mapPmcs_keeps | refine Kept.foldl ?_ ?_ | intro _ | refine KeptP.foldl ?_ ?_ | refine KeptP.of_eq (by assumption) ?_ | dsimp only | split | dsimp only | refine KeptP.fst ?_ | refine KeptP.mk ?_ | fail_if_no_progress (refine Kept.upd ?_ (by rfl) (by intro p hp; cases p <;> first | rfl | exact (Kept.no hm hp (by decide)).elim)))
theorem State.freezePmcs_keeps {m : Nat} {r : State} (s : State) (on : Bool) (hm : Nat.land 1048576 m = 1048576) (h : Kept m r s) : Kept m r (State.freezePmcs s on) := by
  unfold State.freezePmcs
  with_reducible repeat' (first | assumption | exact Kept.sub hm rfl | exact Kept.refl _ _ | refine KeptRes.next ?_ | refine Kept.cond ?_ ?_ | refine KeptRes.cond ?_ ?_ | refine KeptP.cond ?_ ?_ | refine Kept.foldl ?_ ?_ | intro _ | refine KeptP.foldl ?_ ?_ | refine KeptP.of_eq (by assumption) ?_ | dsimp only | split | dsimp only | refine KeptP.fst ?_ | refine KeptP.mk ?_ | fail_if_no_progress (refine Kept.upd ?_ (by rfl) (by intro p hp; cases p <;> first | rfl | exact (Kept.no hm hp (by decide)).elim)))
theorem State.clearPmcs_keeps {m : Nat} {r : State} (s : State) (hm : Nat.land 1048576 m = 1048576) (h : Kept m r s) : Kept m r (State.clearPmcs s) := by
  unfold State.clearPmcs
  with_reducible repeat' (first | assumption | exact Kept.sub hm rfl | exact Kept.refl _ _ | refine KeptRes.next ?_ | refine Kept.cond ?_ ?_ | refine KeptRes.cond ?_ ?_ | refine KeptP.cond ?_ ?_ | apply State.mapPmcs_keeps | refine Kept.foldl ?_ ?_ | intro _ | refine KeptP.foldl ?_ ?_ | refine KeptP.of_eq (by assumption) ?_ | dsimp only | split | dsimp only | refine KeptP.fst ?_ | refine KeptP.mk ?_ | fail_if_no_progress (refine Kept.upd ?_ (by rfl) (by intro p hp; cases p <;> first | rfl | exact (Kept.no hm hp (by decide)).elim)))
theorem State.pmcCtrl_keeps {m : Nat} {r : State} (s : State) (src : Nat) (snap : Bool) (freeze : Bool) (unfreeze : Bool) (clear : Bool) (hm : Nat.land 1048576 m = 1048576) (h : Kept m r s) : Kept m r (State.pmcCtrl s src snap freeze unfreeze clear) := by
  unfold State.pmcCtrl
  with_reducible repeat' (first | assumption | exact Kept.sub hm rfl | exact Kept.refl _ _ | refine KeptRes.next ?_ | refine Kept.cond ?_ ?_ | refine KeptRes.cond ?_ ?_ | refine KeptP.cond ?_ ?_ | apply State.clearPmcs_keeps | apply State.freezePmcs_keeps | apply State.snapPmcs_keeps | refine Kept.foldl ?_ ?_ | intro _ | refine KeptP.foldl ?_ ?_ | refine KeptP.of_eq (by assumption) ?_ | dsimp only | split | dsimp only | refine KeptP.fst ?_ | refine KeptP.mk ?_ | fail_if_no_progress (refine Kept.upd ?_ (by rfl) (by intro p hp; cases p <;> first | rfl | exact (Kept.no hm hp (by decide)).elim)))
theorem execPmcSnap_keeps {m : Nat} {r : State} (src : Nat) (s : State) (hm : Nat.land 1048576 m = 1048576) (h : Kept m r s) : KeptRes m r (execPmcSnap src s) := by
  unfold execPmcSnap
  with_reducible repeat' (first | assumption | exact Kept.sub hm rfl | exact Kept.refl _ _ | refine KeptRes.next ?_ | refine Kept.cond ?_ ?_ | refine KeptRes.cond ?_ ?_ | refine KeptP.cond ?_ ?_ | apply State.snapPmcs_keeps | refine Kept.foldl ?_ ?_ | intro _ | refine KeptP.foldl ?_ ?_ | refine KeptP.of_eq (by assumption) ?_ | dsimp only | split | dsimp only | refine KeptP.fst ?_ | refine KeptP.mk ?_ | fail_if_no_progress (refine Kept.upd ?_ (by rfl) (by intro p hp; cases p <;> first | rfl | exact (Kept.no hm hp (by decide)).elim)))
theorem execPmcFreeze_keeps {m : Nat} {r : State} (src : Nat) (s : State) (hm : Nat.land 1048576 m = 1048576) (h : Kept m r s) : KeptRes m r (execPmcFreeze src s) := by
  unfold execPmcFreeze
  with_reducible repeat' (first | assumption | exact Kept.sub hm rfl | exact Kept.refl _ _ | refine KeptRes.next ?_ | refine Kept.cond ?_ ?_ | refine KeptRes.cond ?_ ?_ | refine KeptP.cond ?_ ?_ | apply State.freezePmcs_keeps | refine Kept.foldl ?_ ?_ | intro _ | refine KeptP.foldl ?_ ?_ | refine KeptP.of_eq (by assumption) ?_ | dsimp only | split | dsimp only | refine KeptP.fst ?_ | refine KeptP.mk ?_ | fail_if_no_progress (refine Kept.upd ?_ (by rfl) (by intro p hp; cases p <;> first | rfl | exact (Kept.no hm hp (by decide)).elim)))
theorem execPmcUnfreeze_keeps {m : Nat} {r : State} (src : Nat) (s : State) (hm : Nat.land 1048576 m = 1048576) (h : Kept m r s) : KeptRes m r (execPmcUnfreeze src s) := by
  unfold execPmcUnfreeze
  with_reducible repeat' (first | assumption | exact Kept.sub hm rfl | exact Kept.refl _ _ | refine KeptRes.next ?_ | refine Kept.cond ?_ ?_ | refine KeptRes.cond ?_ ?_ | refine KeptP.cond ?_ ?_ | apply State.freezePmcs_keeps | refine Kept.foldl ?_ ?_ | intro _ | refine KeptP.foldl ?_ ?_ | refine KeptP.of_eq (by assumption) ?_ | dsimp only | split | dsimp only | refine KeptP.fst ?_ | refine KeptP.mk ?_ | fail_if_no_progress (refine Kept.upd ?_ (by rfl) (by intro p hp; cases p <;> first | rfl | exact (Kept.no hm hp (by decide)).elim)))
theorem execPmcClearAll_keeps {m : Nat} {r : State} (src : Nat) (s : State) (hm : Nat.land 1048576 m = 1048576) (h : Kept m r s) : KeptRes m r (execPmcClearAll src s) := by
  unfold execPmcClearAll
  with_reducible repeat' (first | assumption | exact Kept.sub hm rfl | exact Kept.refl _ _ | refine KeptRes.next ?_ | refine Kept.cond ?_ ?_ | refine KeptRes.cond ?_ ?_ | refine KeptP.cond ?_ ?_ | apply State.clearPmcs_keeps | refine Kept.foldl ?_ ?_ | intro _ | refine KeptP.foldl ?_ ?_ | refine KeptP.of_eq (by assumption) ?_ | dsimp only | split | dsimp only | refine KeptP.fst ?_ | refine KeptP.mk ?_ | fail_if_no_progress (refine Kept.upd ?_ (by rfl) (by intro p hp; cases p <;> first | rfl | exact (Kept.no hm hp (by decide)).elim)))
theorem execPmcOwnerWrite_keeps {m : Nat} {r : State} (src : Nat) (value : Word) (s : State) (hm : Nat.land 1048576 m = 1048576) (h : Kept m r s) : KeptRes m r (execPmcOwnerWrite src value s) := by
  unfold execPmcOwnerWrite
  with_reducible repeat' (first | assumption | exact Kept.sub hm rfl | exact Kept.refl _ _ | refine KeptRes.next ?_ | refine Kept.cond ?_ ?_ | refine KeptRes.cond ?_ ?_ | refine KeptP.cond ?_ ?_ | apply State.mapPmcs_keeps | apply State.setPmc_keeps | refine Kept.foldl ?_ ?_ | intro _ | refine KeptP.foldl ?_ ?_ | refine KeptP.of_eq (by assumption) ?_ | dsimp only | split | dsimp only | refine KeptP.fst ?_ | refine KeptP.mk ?_ | fail_if_no_progress (refine Kept.upd ?_ (by rfl) (by intro p hp; cases p <;> first | rfl | exact (Kept.no hm hp (by decide)).elim)))
theorem execPmcOverflow_keeps {m : Nat} {r : State} (counter : Nat) (value : Nat) (s : State) (hm : Nat.land 5242898 m = 5242898) (h : Kept m r s) : KeptRes m r (execPmcOverflow counter value s) := by
  unfold execPmcOverflow
  with_reducible repeat' (first | assumption | exact Kept.sub hm rfl | exact Kept.refl _ _ | refine KeptRes.next ?_ | refine Kept.cond ?_ ?_ | refine KeptRes.cond ?_ ?_ | refine KeptP.cond ?_ ?_ | apply State.pmcWrap_keeps | apply State.setPmc_keeps | refine Kept.foldl ?_ ?_ | intro _ | refine KeptP.foldl ?_ ?_ | refine KeptP.of_eq (by assumption) ?_ | dsimp only | split | dsimp only | refine KeptP.fst ?_ | refine KeptP.mk ?_ | fail_if_no_progress (refine Kept.upd ?_ (by rfl) (by intro p hp; cases p <;> first | rfl | exact (Kept.no hm hp (by decide)).elim)))
theorem execPmcVSnap_keeps {m : Nat} {r : State} (src : Nat) (s : State) (hm : Nat.land 1048576 m = 1048576) (h : Kept m r s) : KeptRes m r (execPmcVSnap src s) := by
  unfold execPmcVSnap
  with_reducible repeat' (first | assumption | exact Kept.sub hm rfl | exact Kept.refl _ _ | refine KeptRes.next ?_ | refine Kept.cond ?_ ?_ | refine KeptRes.cond ?_ ?_ | refine KeptP.cond ?_ ?_ | apply State.mapPmcs_keeps | refine Kept.foldl ?_ ?_ | intro _ | refine KeptP.foldl ?_ ?_ | refine KeptP.of_eq (by assumption) ?_ | dsimp only | split | dsimp only | refine KeptP.fst ?_ | refine KeptP.mk ?_ | fail_if_no_progress (refine Kept.upd ?_ (by rfl) (by intro p hp; cases p <;> first | rfl | exact (Kept.no hm hp (by decide)).elim)))
theorem execPmcVFreeze_keeps {m : Nat} {r : State} (src : Nat) (s : State) (hm : Nat.land 1048576 m = 1048576) (h : Kept m r s) : KeptRes m r (execPmcVFreeze src s) := by
  unfold execPmcVFreeze
  with_reducible repeat' (first | assumption | exact Kept.sub hm rfl | exact Kept.refl _ _ | refine KeptRes.next ?_ | refine Kept.cond ?_ ?_ | refine KeptRes.cond ?_ ?_ | refine KeptP.cond ?_ ?_ | apply State.mapPmcs_keeps | refine Kept.foldl ?_ ?_ | intro _ | refine KeptP.foldl ?_ ?_ | refine KeptP.of_eq (by assumption) ?_ | dsimp only | split | dsimp only | refine KeptP.fst ?_ | refine KeptP.mk ?_ | fail_if_no_progress (refine Kept.upd ?_ (by rfl) (by intro p hp; cases p <;> first | rfl | exact (Kept.no hm hp (by decide)).elim)))
theorem execPmcVUnfreeze_keeps {m : Nat} {r : State} (src : Nat) (s : State) (hm : Nat.land 1048576 m = 1048576) (h : Kept m r s) : KeptRes m r (execPmcVUnfreeze src s) := by
  unfold execPmcVUnfreeze
  with_reducible repeat' (first | assumption | exact Kept.sub hm rfl | exact Kept.refl _ _ | refine KeptRes.next ?_ | refine Kept.cond ?_ ?_ | refine KeptRes.cond ?_ ?_ | refine KeptP.cond ?_ ?_ | apply State.mapPmcs_keeps | refine Kept.foldl ?_ ?_ | intro _ | refine KeptP.foldl ?_ ?_ | refine KeptP.of_eq (by assumption) ?_ | dsimp only | split | dsimp only | refine KeptP.fst ?_ | refine KeptP.mk ?_ | fail_if_no_progress (refine Kept.upd ?_ (by rfl) (by intro p hp; cases p <;> first | rfl | exact (Kept.no hm hp (by decide)).elim)))
theorem State.pmcOwnCtrl_keeps {m : Nat} {r : State} (s : State) (src : Nat) (snap : Bool) (freeze : Bool) (unfreeze : Bool) (hm : Nat.land 1048576 m = 1048576) (h : Kept m r s) : Kept m r (State.pmcOwnCtrl s src snap freeze unfreeze) := by
  unfold State.pmcOwnCtrl
  with_reducible repeat' (first | assumption | exact Kept.sub hm rfl | exact Kept.refl _ _ | refine KeptRes.next ?_ | refine Kept.cond ?_ ?_ | refine KeptRes.cond ?_ ?_ | refine KeptP.cond ?_ ?_ | apply State.mapPmcs_keeps | refine Kept.foldl ?_ ?_ | intro _ | refine KeptP.foldl ?_ ?_ | refine KeptP.of_eq (by assumption) ?_ | dsimp only | split | dsimp only | refine KeptP.fst ?_ | refine KeptP.mk ?_ | fail_if_no_progress (refine Kept.upd ?_ (by rfl) (by intro p hp; cases p <;> first | rfl | exact (Kept.no hm hp (by decide)).elim)))
theorem State.stageSeg_keeps {m : Nat} {r : State} (s : State) (ctx : Nat) (seg : Nat) (hm : Nat.land 2 m = 2) (h : Kept m r s) : Kept m r (State.stageSeg s ctx seg) := by
  unfold State.stageSeg
  with_reducible repeat' (first | assumption | exact Kept.sub hm rfl | exact Kept.refl _ _ | refine KeptRes.next ?_ | refine Kept.cond ?_ ?_ | refine KeptRes.cond ?_ ?_ | refine KeptP.cond ?_ ?_ | apply State.setFld_keeps | refine Kept.foldl ?_ ?_ | intro _ | refine KeptP.foldl ?_ ?_ | refine KeptP.of_eq (by assumption) ?_ | dsimp only | split | dsimp only | refine KeptP.fst ?_ | refine KeptP.mk ?_ | fail_if_no_progress (refine Kept.upd ?_ (by rfl) (by intro p hp; cases p <;> first | rfl | exact (Kept.no hm hp (by decide)).elim)))
theorem State.stageCtx_keeps {m : Nat} {r : State} (s : State) (ctx : Nat) (hm : Nat.land 2 m = 2) (h : Kept m r s) : Kept m r (State.stageCtx s ctx) := by
  unfold State.stageCtx
  with_reducible repeat' (first | assumption | exact Kept.sub hm rfl | exact Kept.refl _ _ | refine KeptRes.next ?_ | refine Kept.cond ?_ ?_ | refine KeptRes.cond ?_ ?_ | refine KeptP.cond ?_ ?_ | apply State.setFld_keeps | refine Kept.foldl ?_ ?_ | intro _ | refine KeptP.foldl ?_ ?_ | refine KeptP.of_eq (by assumption) ?_ | dsimp only | split | dsimp only | refine KeptP.fst ?_ | refine KeptP.mk ?_ | fail_if_no_progress (refine Kept.upd ?_ (by rfl) (by intro p hp; cases p <;> first | rfl | exact (Kept.no hm hp (by decide)).elim)))
theorem execXltCtxSelWrite_keeps {m : Nat} {r : State} (src : Nat) (ctx : Nat) (s : State) (hm : Nat.land 2 m = 2) (h : Kept m r s) : KeptRes m r (execXltCtxSelWrite src ctx s) := by
  unfold execXltCtxSelWrite
  with_reducible repeat' (first | assumption | exact Kept.sub hm rfl | exact Kept.refl _ _ | refine KeptRes.next ?_ | refine Kept.cond ?_ ?_ | refine KeptRes.cond ?_ ?_ | refine KeptP.cond ?_ ?_ | apply State.setFld_keeps | apply State.stageCtx_keeps | refine Kept.foldl ?_ ?_ | intro _ | refine KeptP.foldl ?_ ?_ | refine KeptP.of_eq (by assumption) ?_ | dsimp only | split | dsimp only | refine KeptP.fst ?_ | refine KeptP.mk ?_ | fail_if_no_progress (refine Kept.upd ?_ (by rfl) (by intro p hp; cases p <;> first | rfl | exact (Kept.no hm hp (by decide)).elim)))
theorem execXltSegSelWrite_keeps {m : Nat} {r : State} (src : Nat) (seg : Nat) (s : State) (hm : Nat.land 2 m = 2) (h : Kept m r s) : KeptRes m r (execXltSegSelWrite src seg s) := by
  unfold execXltSegSelWrite
  with_reducible repeat' (first | assumption | exact Kept.sub hm rfl | exact Kept.refl _ _ | refine KeptRes.next ?_ | refine Kept.cond ?_ ?_ | refine KeptRes.cond ?_ ?_ | refine KeptP.cond ?_ ?_ | apply State.setFld_keeps | apply State.stageSeg_keeps | refine Kept.foldl ?_ ?_ | intro _ | refine KeptP.foldl ?_ ?_ | refine KeptP.of_eq (by assumption) ?_ | dsimp only | split | dsimp only | refine KeptP.fst ?_ | refine KeptP.mk ?_ | fail_if_no_progress (refine Kept.upd ?_ (by rfl) (by intro p hp; cases p <;> first | rfl | exact (Kept.no hm hp (by decide)).elim)))
theorem State.applyRecords_keeps {m : Nat} {r : State} (s : State) (doCtx : Bool) (doSeg : Bool) (hm : Nat.land 6619282 m = 6619282) (h : Kept m r s) : Kept m r (State.applyRecords s doCtx doSeg) := by
  unfold State.applyRecords
  with_reducible repeat' (first | assumption | exact Kept.sub hm rfl | exact Kept.refl _ _ | refine KeptRes.next ?_ | refine Kept.cond ?_ ?_ | refine KeptRes.cond ?_ ?_ | refine KeptP.cond ?_ ?_ | apply State.raise_keeps | apply State.setCtx_keeps | apply State.setFld_keeps | apply State.switchBlocks_keeps | refine Kept.foldl ?_ ?_ | intro _ | refine KeptP.foldl ?_ ?_ | refine KeptP.of_eq (by assumption) ?_ | dsimp only | split | dsimp only | refine KeptP.fst ?_ | refine KeptP.mk ?_ | fail_if_no_progress (refine Kept.upd ?_ (by rfl) (by intro p hp; cases p <;> first | rfl | exact (Kept.no hm hp (by decide)).elim)))
theorem execXltApplyCtx_keeps {m : Nat} {r : State} (src : Nat) (both : Bool) (s : State) (hm : Nat.land 6619282 m = 6619282) (h : Kept m r s) : KeptRes m r (execXltApplyCtx src both s) := by
  unfold execXltApplyCtx
  with_reducible repeat' (first | assumption | exact Kept.sub hm rfl | exact Kept.refl _ _ | refine KeptRes.next ?_ | refine Kept.cond ?_ ?_ | refine KeptRes.cond ?_ ?_ | refine KeptP.cond ?_ ?_ | apply State.applyRecords_keeps | refine Kept.foldl ?_ ?_ | intro _ | refine KeptP.foldl ?_ ?_ | refine KeptP.of_eq (by assumption) ?_ | dsimp only | split | dsimp only | refine KeptP.fst ?_ | refine KeptP.mk ?_ | fail_if_no_progress (refine Kept.upd ?_ (by rfl) (by intro p hp; cases p <;> first | rfl | exact (Kept.no hm hp (by decide)).elim)))
theorem execXltApplySeg_keeps {m : Nat} {r : State} (src : Nat) (both : Bool) (s : State) (hm : Nat.land 6619282 m = 6619282) (h : Kept m r s) : KeptRes m r (execXltApplySeg src both s) := by
  unfold execXltApplySeg
  with_reducible repeat' (first | assumption | exact Kept.sub hm rfl | exact Kept.refl _ _ | refine KeptRes.next ?_ | refine Kept.cond ?_ ?_ | refine KeptRes.cond ?_ ?_ | refine KeptP.cond ?_ ?_ | apply State.applyRecords_keeps | refine Kept.foldl ?_ ?_ | intro _ | refine KeptP.foldl ?_ ?_ | refine KeptP.of_eq (by assumption) ?_ | dsimp only | split | dsimp only | refine KeptP.fst ?_ | refine KeptP.mk ?_ | fail_if_no_progress (refine Kept.upd ?_ (by rfl) (by intro p hp; cases p <;> first | rfl | exact (Kept.no hm hp (by decide)).elim)))
theorem execXltAtcFlush_keeps {m : Nat} {r : State} (src : Nat) (port0 : Bool) (port1 : Bool) (s : State) (hm : Nat.land 128 m = 128) (h : Kept m r s) : KeptRes m r (execXltAtcFlush src port0 port1 s) := by
  unfold execXltAtcFlush
  with_reducible repeat' (first | assumption | exact Kept.sub hm rfl | exact Kept.refl _ _ | refine KeptRes.next ?_ | refine Kept.cond ?_ ?_ | refine KeptRes.cond ?_ ?_ | refine KeptP.cond ?_ ?_ | apply State.setAtc_keeps | refine Kept.foldl ?_ ?_ | intro _ | refine KeptP.foldl ?_ ?_ | refine KeptP.of_eq (by assumption) ?_ | dsimp only | split | dsimp only | refine KeptP.fst ?_ | refine KeptP.mk ?_ | fail_if_no_progress (refine Kept.upd ?_ (by rfl) (by intro p hp; cases p <;> first | rfl | exact (Kept.no hm hp (by decide)).elim)))
theorem execAtsInvalidationRequest_keeps {m : Nat} {r : State} (port : Nat) (func : Nat) (tag : Nat) (page : Nat) (pages : Nat) (s : State) (hm : Nat.land 128 m = 128) (h : Kept m r s) : KeptRes m r (execAtsInvalidationRequest port func tag page pages s) := by
  unfold execAtsInvalidationRequest
  with_reducible repeat' (first | assumption | exact Kept.sub hm rfl | exact Kept.refl _ _ | refine KeptRes.next ?_ | refine Kept.cond ?_ ?_ | refine KeptRes.cond ?_ ?_ | refine KeptP.cond ?_ ?_ | apply State.setAtc_keeps | refine Kept.foldl ?_ ?_ | intro _ | refine KeptP.foldl ?_ ?_ | refine KeptP.of_eq (by assumption) ?_ | dsimp only | split | dsimp only | refine KeptP.fst ?_ | refine KeptP.mk ?_ | fail_if_no_progress (refine Kept.upd ?_ (by rfl) (by intro p hp; cases p <;> first | rfl | exact (Kept.no hm hp (by decide)).elim)))
theorem execAtsInvalidationCompletion_keeps {m : Nat} {r : State} (port : Nat) (tag : Nat) (s : State) (hm : Nat.land 4194450 m = 4194450) (h : Kept m r s) : KeptRes m r (execAtsInvalidationCompletion port tag s) := by
  unfold execAtsInvalidationCompletion
  with_reducible repeat' (first | assumption | exact Kept.sub hm rfl | exact Kept.refl _ _ | refine KeptRes.next ?_ | refine Kept.cond ?_ ?_ | refine KeptRes.cond ?_ ?_ | refine KeptP.cond ?_ ?_ | apply State.emit_keeps | apply State.raise_keeps | refine Kept.foldl ?_ ?_ | intro _ | refine KeptP.foldl ?_ ?_ | refine KeptP.of_eq (by assumption) ?_ | dsimp only | split | dsimp only | refine KeptP.fst ?_ | refine KeptP.mk ?_ | fail_if_no_progress (refine Kept.upd ?_ (by rfl) (by intro p hp; cases p <;> first | rfl | exact (Kept.no hm hp (by decide)).elim)))
theorem execTranslationCompletion_keeps {m : Nat} {r : State} (func : Nat) (page : Nat) (pages : Nat) (result : HostResult) (write : Bool) (s : State) (hm : Nat.land 16777114 m = 16777114) (h : Kept m r s) : KeptRes m r (execTranslationCompletion func page pages result write s) := by
  unfold execTranslationCompletion
  with_reducible repeat' (first | assumption | exact Kept.sub hm rfl | exact Kept.refl _ _ | refine KeptRes.next ?_ | refine Kept.cond ?_ ?_ | refine KeptRes.cond ?_ ?_ | refine KeptP.cond ?_ ?_ | apply State.atcAdd_keeps | apply State.portGoesOn_keeps | apply State.setEntry_keeps | refine Kept.foldl ?_ ?_ | intro _ | refine KeptP.foldl ?_ ?_ | refine KeptP.of_eq (by assumption) ?_ | dsimp only | split | dsimp only | refine KeptP.fst ?_ | refine KeptP.mk ?_ | fail_if_no_progress (refine Kept.upd ?_ (by rfl) (by intro p hp; cases p <;> first | rfl | exact (Kept.no hm hp (by decide)).elim)))
theorem State.groupEnds_keeps {m : Nat} {r : State} (s : State) (g : PageGroup) (f : MissPage → MissPage) (hm : Nat.land 16777114 m = 16777114) (h : Kept m r s) : Kept m r (State.groupEnds s g f) := by
  unfold State.groupEnds
  with_reducible repeat' (first | assumption | exact Kept.sub hm rfl | exact Kept.refl _ _ | refine KeptRes.next ?_ | refine Kept.cond ?_ ?_ | refine KeptRes.cond ?_ ?_ | refine KeptP.cond ?_ ?_ | apply State.portGoesOn_keeps | apply State.setEntry_keeps | refine Kept.foldl ?_ ?_ | intro _ | refine KeptP.foldl ?_ ?_ | refine KeptP.of_eq (by assumption) ?_ | dsimp only | split | dsimp only | refine KeptP.fst ?_ | refine KeptP.mk ?_ | fail_if_no_progress (refine Kept.upd ?_ (by rfl) (by intro p hp; cases p <;> first | rfl | exact (Kept.no hm hp (by decide)).elim)))
theorem execPrgResponse_keeps {m : Nat} {r : State} (group : Nat) (code : PrgCode) (s : State) (hm : Nat.land 16777146 m = 16777146) (h : Kept m r s) : KeptRes m r (execPrgResponse group code s) := by
  unfold execPrgResponse
  with_reducible repeat' (first | assumption | exact Kept.sub hm rfl | exact Kept.refl _ _ | refine KeptRes.next ?_ | refine Kept.cond ?_ ?_ | refine KeptRes.cond ?_ ?_ | refine KeptP.cond ?_ ?_ | apply State.groupEnds_keeps | apply State.raise_keeps | apply State.setSource_keeps | refine Kept.foldl ?_ ?_ | intro _ | refine KeptP.foldl ?_ ?_ | refine KeptP.of_eq (by assumption) ?_ | dsimp only | split | dsimp only | refine KeptP.fst ?_ | refine KeptP.mk ?_ | fail_if_no_progress (refine Kept.upd ?_ (by rfl) (by intro p hp; cases p <;> first | rfl | exact (Kept.no hm hp (by decide)).elim)))
theorem execPriTimeout_keeps {m : Nat} {r : State} (group : Nat) (s : State) (hm : Nat.land 16777114 m = 16777114) (h : Kept m r s) : KeptRes m r (execPriTimeout group s) := by
  unfold execPriTimeout
  with_reducible repeat' (first | assumption | exact Kept.sub hm rfl | exact Kept.refl _ _ | refine KeptRes.next ?_ | refine Kept.cond ?_ ?_ | refine KeptRes.cond ?_ ?_ | refine KeptP.cond ?_ ?_ | apply State.groupEnds_keeps | apply State.raise_keeps | refine Kept.foldl ?_ ?_ | intro _ | refine KeptP.foldl ?_ ?_ | refine KeptP.of_eq (by assumption) ?_ | dsimp only | split | dsimp only | refine KeptP.fst ?_ | refine KeptP.mk ?_ | fail_if_no_progress (refine Kept.upd ?_ (by rfl) (by intro p hp; cases p <;> first | rfl | exact (Kept.no hm hp (by decide)).elim)))
theorem execPriReenable_keeps {m : Nat} {r : State} (port : Nat) (s : State) (hm : Nat.land 32 m = 32) (h : Kept m r s) : KeptRes m r (execPriReenable port s) := by
  unfold execPriReenable
  with_reducible repeat' (first | assumption | exact Kept.sub hm rfl | exact Kept.refl _ _ | refine KeptRes.next ?_ | refine Kept.cond ?_ ?_ | refine KeptRes.cond ?_ ?_ | refine KeptP.cond ?_ ?_ | apply State.setSource_keeps | refine Kept.foldl ?_ ?_ | intro _ | refine KeptP.foldl ?_ ?_ | refine KeptP.of_eq (by assumption) ?_ | dsimp only | split | dsimp only | refine KeptP.fst ?_ | refine KeptP.mk ?_ | fail_if_no_progress (refine Kept.upd ?_ (by rfl) (by intro p hp; cases p <;> first | rfl | exact (Kept.no hm hp (by decide)).elim)))
theorem State.readDrained_keeps {m : Nat} {r : State} (s : State) (entry : Nat) (off : Nat) (hm : Nat.land 128 m = 128) (h : Kept m r s) : Kept m r (State.readDrained s entry off) := by
  unfold State.readDrained
  with_reducible repeat' (first | assumption | exact Kept.sub hm rfl | exact Kept.refl _ _ | refine KeptRes.next ?_ | refine Kept.cond ?_ ?_ | refine KeptRes.cond ?_ ?_ | refine KeptP.cond ?_ ?_ | refine Kept.foldl ?_ ?_ | intro _ | refine KeptP.foldl ?_ ?_ | refine KeptP.of_eq (by assumption) ?_ | dsimp only | split | dsimp only | refine KeptP.fst ?_ | refine KeptP.mk ?_ | fail_if_no_progress (refine Kept.upd ?_ (by rfl) (by intro p hp; cases p <;> first | rfl | exact (Kept.no hm hp (by decide)).elim)))
theorem execHostDmaCompletion_keeps {m : Nat} {r : State} (entry : Nat) (off : Nat) (result : HostResult) (data : List Byte) (s : State) (hm : Nat.land 16777114 m = 16777114) (h : Kept m r s) : KeptRes m r (execHostDmaCompletion entry off result data s) := by
  unfold execHostDmaCompletion
  with_reducible repeat' (first | assumption | exact Kept.sub hm rfl | exact Kept.refl _ _ | refine KeptRes.next ?_ | refine Kept.cond ?_ ?_ | refine KeptRes.cond ?_ ?_ | refine KeptP.cond ?_ ?_ | apply State.endFault_keeps | apply State.readDrained_keeps | apply State.runDma_keeps | apply State.setEntry_keeps | refine Kept.foldl ?_ ?_ | intro _ | refine KeptP.foldl ?_ ?_ | refine KeptP.of_eq (by assumption) ?_ | dsimp only | split | dsimp only | refine KeptP.fst ?_ | refine KeptP.mk ?_ | fail_if_no_progress (refine Kept.upd ?_ (by rfl) (by intro p hp; cases p <;> first | rfl | exact (Kept.no hm hp (by decide)).elim)))
theorem execPcieCompletionTimeout_keeps {m : Nat} {r : State} (entry : Nat) (off : Nat) (s : State) (hm : Nat.land 2097280 m = 2097280) (h : Kept m r s) : KeptRes m r (execPcieCompletionTimeout entry off s) := by
  unfold execPcieCompletionTimeout
  with_reducible repeat' (first | assumption | exact Kept.sub hm rfl | exact Kept.refl _ _ | refine KeptRes.next ?_ | refine Kept.cond ?_ ?_ | refine KeptRes.cond ?_ ?_ | refine KeptP.cond ?_ ?_ | apply State.modEntry_keeps | apply State.readDrained_keeps | refine Kept.foldl ?_ ?_ | intro _ | refine KeptP.foldl ?_ ?_ | refine KeptP.of_eq (by assumption) ?_ | dsimp only | split | dsimp only | refine KeptP.fst ?_ | refine KeptP.mk ?_ | fail_if_no_progress (refine Kept.upd ?_ (by rfl) (by intro p hp; cases p <;> first | rfl | exact (Kept.no hm hp (by decide)).elim)))
theorem execNop_keeps {m : Nat} {r : State} (entry : Nat) (s : State) (hm : Nat.land 2097152 m = 2097152) (h : Kept m r s) : KeptRes m r (execNop entry s) := by
  unfold execNop
  with_reducible repeat' (first | assumption | exact Kept.sub hm rfl | exact Kept.refl _ _ | refine KeptRes.next ?_ | refine Kept.cond ?_ ?_ | refine KeptRes.cond ?_ ?_ | refine KeptP.cond ?_ ?_ | apply State.conclude_keeps | refine Kept.foldl ?_ ?_ | intro _ | refine KeptP.foldl ?_ ?_ | refine KeptP.of_eq (by assumption) ?_ | dsimp only | split | dsimp only | refine KeptP.fst ?_ | refine KeptP.mk ?_ | fail_if_no_progress (refine Kept.upd ?_ (by rfl) (by intro p hp; cases p <;> first | rfl | exact (Kept.no hm hp (by decide)).elim)))
theorem State.dmaRow_keeps {m : Nat} {r : State} (s : State) (id : Nat) (opcode : Nat) (hm : Nat.land 16777114 m = 16777114) (h : Kept m r s) : KeptRes m r (State.dmaRow s id opcode) := by
  unfold State.dmaRow
  with_reducible repeat' (first | assumption | exact Kept.sub hm rfl | exact Kept.refl _ _ | refine KeptRes.next ?_ | refine Kept.cond ?_ ?_ | refine KeptRes.cond ?_ ?_ | refine KeptP.cond ?_ ?_ | apply State.runDma_keeps | apply State.startDma_keeps | refine Kept.foldl ?_ ?_ | intro _ | refine KeptP.foldl ?_ ?_ | refine KeptP.of_eq (by assumption) ?_ | dsimp only | split | dsimp only | refine KeptP.fst ?_ | refine KeptP.mk ?_ | fail_if_no_progress (refine Kept.upd ?_ (by rfl) (by intro p hp; cases p <;> first | rfl | exact (Kept.no hm hp (by decide)).elim)))
theorem execHostToStore_keeps {m : Nat} {r : State} (entry : Nat) (s : State) (hm : Nat.land 16777114 m = 16777114) (h : Kept m r s) : KeptRes m r (execHostToStore entry s) := by
  unfold execHostToStore
  with_reducible repeat' (first | assumption | exact Kept.sub hm rfl | exact Kept.refl _ _ | refine KeptRes.next ?_ | refine Kept.cond ?_ ?_ | refine KeptRes.cond ?_ ?_ | refine KeptP.cond ?_ ?_ | apply State.dmaRow_keeps | refine Kept.foldl ?_ ?_ | intro _ | refine KeptP.foldl ?_ ?_ | refine KeptP.of_eq (by assumption) ?_ | dsimp only | split | dsimp only | refine KeptP.fst ?_ | refine KeptP.mk ?_ | fail_if_no_progress (refine Kept.upd ?_ (by rfl) (by intro p hp; cases p <;> first | rfl | exact (Kept.no hm hp (by decide)).elim)))
theorem execStoreToHost_keeps {m : Nat} {r : State} (entry : Nat) (s : State) (hm : Nat.land 16777114 m = 16777114) (h : Kept m r s) : KeptRes m r (execStoreToHost entry s) := by
  unfold execStoreToHost
  with_reducible repeat' (first | assumption | exact Kept.sub hm rfl | exact Kept.refl _ _ | refine KeptRes.next ?_ | refine Kept.cond ?_ ?_ | refine KeptRes.cond ?_ ?_ | refine KeptP.cond ?_ ?_ | apply State.dmaRow_keeps | refine Kept.foldl ?_ ?_ | intro _ | refine KeptP.foldl ?_ ?_ | refine KeptP.of_eq (by assumption) ?_ | dsimp only | split | dsimp only | refine KeptP.fst ?_ | refine KeptP.mk ?_ | fail_if_no_progress (refine Kept.upd ?_ (by rfl) (by intro p hp; cases p <;> first | rfl | exact (Kept.no hm hp (by decide)).elim)))
theorem execPrefetchHost_keeps {m : Nat} {r : State} (entry : Nat) (s : State) (hm : Nat.land 16777114 m = 16777114) (h : Kept m r s) : KeptRes m r (execPrefetchHost entry s) := by
  unfold execPrefetchHost
  with_reducible repeat' (first | assumption | exact Kept.sub hm rfl | exact Kept.refl _ _ | refine KeptRes.next ?_ | refine Kept.cond ?_ ?_ | refine KeptRes.cond ?_ ?_ | refine KeptP.cond ?_ ?_ | apply State.dmaRow_keeps | refine Kept.foldl ?_ ?_ | intro _ | refine KeptP.foldl ?_ ?_ | refine KeptP.of_eq (by assumption) ?_ | dsimp only | split | dsimp only | refine KeptP.fst ?_ | refine KeptP.mk ?_ | fail_if_no_progress (refine Kept.upd ?_ (by rfl) (by intro p hp; cases p <;> first | rfl | exact (Kept.no hm hp (by decide)).elim)))
theorem execMigrateIn_keeps {m : Nat} {r : State} (entry : Nat) (s : State) (hm : Nat.land 16777114 m = 16777114) (h : Kept m r s) : KeptRes m r (execMigrateIn entry s) := by
  unfold execMigrateIn
  with_reducible repeat' (first | assumption | exact Kept.sub hm rfl | exact Kept.refl _ _ | refine KeptRes.next ?_ | refine Kept.cond ?_ ?_ | refine KeptRes.cond ?_ ?_ | refine KeptP.cond ?_ ?_ | apply State.dmaRow_keeps | refine Kept.foldl ?_ ?_ | intro _ | refine KeptP.foldl ?_ ?_ | refine KeptP.of_eq (by assumption) ?_ | dsimp only | split | dsimp only | refine KeptP.fst ?_ | refine KeptP.mk ?_ | fail_if_no_progress (refine Kept.upd ?_ (by rfl) (by intro p hp; cases p <;> first | rfl | exact (Kept.no hm hp (by decide)).elim)))
theorem execMigrateOut_keeps {m : Nat} {r : State} (entry : Nat) (s : State) (hm : Nat.land 16777114 m = 16777114) (h : Kept m r s) : KeptRes m r (execMigrateOut entry s) := by
  unfold execMigrateOut
  with_reducible repeat' (first | assumption | exact Kept.sub hm rfl | exact Kept.refl _ _ | refine KeptRes.next ?_ | refine Kept.cond ?_ ?_ | refine KeptRes.cond ?_ ?_ | refine KeptP.cond ?_ ?_ | apply State.beginRevoke_keeps | apply State.dmaRow_keeps | refine Kept.foldl ?_ ?_ | intro _ | refine KeptP.foldl ?_ ?_ | refine KeptP.of_eq (by assumption) ?_ | dsimp only | split | dsimp only | refine KeptP.fst ?_ | refine KeptP.mk ?_ | fail_if_no_progress (refine Kept.upd ?_ (by rfl) (by intro p hp; cases p <;> first | rfl | exact (Kept.no hm hp (by decide)).elim)))
theorem execStoreCopy_keeps {m : Nat} {r : State} (entry : Nat) (s : State) (hm : Nat.land 16771474 m = 16771474) (h : Kept m r s) : KeptRes m r (execStoreCopy entry s) := by
  unfold execStoreCopy
  with_reducible repeat' (first | assumption | exact Kept.sub hm rfl | exact Kept.refl _ _ | refine KeptRes.next ?_ | refine Kept.cond ?_ ?_ | refine KeptRes.cond ?_ ?_ | refine KeptP.cond ?_ ?_ | apply State.accessFor_keeps | apply State.conclude_keeps | apply State.dropFetched_keeps | apply State.failWith_keeps | apply State.finish_keeps | apply State.prepare_keeps | apply State.readStore_keeps | apply State.writeStore_keeps | refine Kept.foldl ?_ ?_ | intro _ | refine KeptP.foldl ?_ ?_ | refine KeptP.of_eq (by assumption) ?_ | dsimp only | split | dsimp only | refine KeptP.fst ?_ | refine KeptP.mk ?_ | fail_if_no_progress (refine Kept.upd ?_ (by rfl) (by intro p hp; cases p <;> first | rfl | exact (Kept.no hm hp (by decide)).elim)))
theorem execAdvise_keeps {m : Nat} {r : State} (entry : Nat) (s : State) (hm : Nat.land 6553874 m = 6553874) (h : Kept m r s) : KeptRes m r (execAdvise entry s) := by
  unfold execAdvise
  with_reducible repeat' (first | assumption | exact Kept.sub hm rfl | exact Kept.refl _ _ | refine KeptRes.next ?_ | refine Kept.cond ?_ ?_ | refine KeptRes.cond ?_ ?_ | refine KeptP.cond ?_ ?_ | apply State.dispatch_keeps | apply State.queueRaise_keeps | apply State.setPage_keeps | refine Kept.foldl ?_ ?_ | intro _ | refine KeptP.foldl ?_ ?_ | refine KeptP.of_eq (by assumption) ?_ | dsimp only | split | dsimp only | refine KeptP.fst ?_ | refine KeptP.mk ?_ | fail_if_no_progress (refine Kept.upd ?_ (by rfl) (by intro p hp; cases p <;> first | rfl | exact (Kept.no hm hp (by decide)).elim)))
theorem execInvalidate_keeps {m : Nat} {r : State} (entry : Nat) (s : State) (hm : Nat.land 2097152 m = 2097152) (h : Kept m r s) : KeptRes m r (execInvalidate entry s) := by
  unfold execInvalidate
  with_reducible repeat' (first | assumption | exact Kept.sub hm rfl | exact Kept.refl _ _ | refine KeptRes.next ?_ | refine Kept.cond ?_ ?_ | refine KeptRes.cond ?_ ?_ | refine KeptP.cond ?_ ?_ | apply State.conclude_keeps | refine Kept.foldl ?_ ?_ | intro _ | refine KeptP.foldl ?_ ?_ | refine KeptP.of_eq (by assumption) ?_ | dsimp only | split | dsimp only | refine KeptP.fst ?_ | refine KeptP.mk ?_ | fail_if_no_progress (refine Kept.upd ?_ (by rfl) (by intro p hp; cases p <;> first | rfl | exact (Kept.no hm hp (by decide)).elim)))
theorem execRevoke_keeps {m : Nat} {r : State} (entry : Nat) (s : State) (hm : Nat.land 16771474 m = 16771474) (h : Kept m r s) : KeptRes m r (execRevoke entry s) := by
  unfold execRevoke
  with_reducible repeat' (first | assumption | exact Kept.sub hm rfl | exact Kept.refl _ _ | refine KeptRes.next ?_ | refine Kept.cond ?_ ?_ | refine KeptRes.cond ?_ ?_ | refine KeptP.cond ?_ ?_ | apply State.beginRevoke_keeps | apply State.conclude_keeps | apply State.startBack_keeps | refine Kept.foldl ?_ ?_ | intro _ | refine KeptP.foldl ?_ ?_ | refine KeptP.of_eq (by assumption) ?_ | dsimp only | split | dsimp only | refine KeptP.fst ?_ | refine KeptP.mk ?_ | fail_if_no_progress (refine Kept.upd ?_ (by rfl) (by intro p hp; cases p <;> first | rfl | exact (Kept.no hm hp (by decide)).elim)))
theorem execRevokeComplete_keeps {m : Nat} {r : State} (ctx : Nat) (seg : Nat) (s : State) (hm : Nat.land 16771474 m = 16771474) (h : Kept m r s) : KeptRes m r (execRevokeComplete ctx seg s) := by
  unfold execRevokeComplete
  with_reducible repeat' (first | assumption | exact Kept.sub hm rfl | exact Kept.refl _ _ | refine KeptRes.next ?_ | refine Kept.cond ?_ ?_ | refine KeptRes.cond ?_ ?_ | refine KeptP.cond ?_ ?_ | apply State.finish_keeps | apply State.raise_keeps | apply State.setCtx_keeps | apply State.startBack_keeps | refine Kept.foldl ?_ ?_ | intro _ | refine KeptP.foldl ?_ ?_ | refine KeptP.of_eq (by assumption) ?_ | dsimp only | split | dsimp only | refine KeptP.fst ?_ | refine KeptP.mk ?_ | fail_if_no_progress (refine Kept.upd ?_ (by rfl) (by intro p hp; cases p <;> first | rfl | exact (Kept.no hm hp (by decide)).elim)))
theorem execEmbDefine_keeps {m : Nat} {r : State} (entry : Nat) (s : State) (hm : Nat.land 2360336 m = 2360336) (h : Kept m r s) : KeptRes m r (execEmbDefine entry s) := by
  unfold execEmbDefine
  with_reducible repeat' (first | assumption | exact Kept.sub hm rfl | exact Kept.refl _ _ | refine KeptRes.next ?_ | refine Kept.cond ?_ ?_ | refine KeptRes.cond ?_ ?_ | refine KeptP.cond ?_ ?_ | apply State.defineTable_keeps | apply State.dispatch_keeps | apply State.failWith_keeps | apply State.forward_keeps | refine Kept.foldl ?_ ?_ | intro _ | refine KeptP.foldl ?_ ?_ | refine KeptP.of_eq (by assumption) ?_ | dsimp only | split | dsimp only | refine KeptP.fst ?_ | refine KeptP.mk ?_ | fail_if_no_progress (refine Kept.upd ?_ (by rfl) (by intro p hp; cases p <;> first | rfl | exact (Kept.no hm hp (by decide)).elim)))
theorem execEmbDrop_keeps {m : Nat} {r : State} (entry : Nat) (s : State) (hm : Nat.land 2360336 m = 2360336) (h : Kept m r s) : KeptRes m r (execEmbDrop entry s) := by
  unfold execEmbDrop
  with_reducible repeat' (first | assumption | exact Kept.sub hm rfl | exact Kept.refl _ _ | refine KeptRes.next ?_ | refine Kept.cond ?_ ?_ | refine KeptRes.cond ?_ ?_ | refine KeptP.cond ?_ ?_ | apply State.dispatch_keeps | apply State.dropTable_keeps | apply State.failWith_keeps | apply State.forward_keeps | refine Kept.foldl ?_ ?_ | intro _ | refine KeptP.foldl ?_ ?_ | refine KeptP.of_eq (by assumption) ?_ | dsimp only | split | dsimp only | refine KeptP.fst ?_ | refine KeptP.mk ?_ | fail_if_no_progress (refine Kept.upd ?_ (by rfl) (by intro p hp; cases p <;> first | rfl | exact (Kept.no hm hp (by decide)).elim)))
theorem execEmbQuery_keeps {m : Nat} {r : State} (entry : Nat) (s : State) (hm : Nat.land 2097152 m = 2097152) (h : Kept m r s) : KeptRes m r (execEmbQuery entry s) := by
  unfold execEmbQuery
  with_reducible repeat' (first | assumption | exact Kept.sub hm rfl | exact Kept.refl _ _ | refine KeptRes.next ?_ | refine Kept.cond ?_ ?_ | refine KeptRes.cond ?_ ?_ | refine KeptP.cond ?_ ?_ | apply State.finish_keeps | refine Kept.foldl ?_ ?_ | intro _ | refine KeptP.foldl ?_ ?_ | refine KeptP.of_eq (by assumption) ?_ | dsimp only | split | dsimp only | refine KeptP.fst ?_ | refine KeptP.mk ?_ | fail_if_no_progress (refine Kept.upd ?_ (by rfl) (by intro p hp; cases p <;> first | rfl | exact (Kept.no hm hp (by decide)).elim)))
theorem State.startHooks_keeps {m : Nat} {r : State} (s : State) (entry : Nat) (e : Entry) (t : EmbTable) (rows : Nat) (hm : Nat.land 2359808 m = 2359808) (h : Kept m r s) : Kept m r (State.startHooks s entry e t rows) := by
  unfold State.startHooks
  with_reducible repeat' (first | assumption | exact Kept.sub hm rfl | exact Kept.refl _ _ | refine KeptRes.next ?_ | refine Kept.cond ?_ ?_ | refine KeptRes.cond ?_ ?_ | refine KeptP.cond ?_ ?_ | apply State.localItem_keeps | apply State.placeInvocation_keeps | refine Kept.foldl ?_ ?_ | intro _ | refine KeptP.foldl ?_ ?_ | refine KeptP.of_eq (by assumption) ?_ | dsimp only | split | dsimp only | refine KeptP.fst ?_ | refine KeptP.mk ?_ | fail_if_no_progress (refine Kept.upd ?_ (by rfl) (by intro p hp; cases p <;> first | rfl | exact (Kept.no hm hp (by decide)).elim)))
theorem State.gatherSpace_keeps {m : Nat} {r : State} (s : State) (a1 : Option State) (hm : Nat.land 4194322 m = 4194322) (h : Kept m r s) (ho : ∀ t, a1 = some t → Kept m r t) : KeptP m r (State.gatherSpace s a1) := by
  unfold State.gatherSpace
  split
  · exact KeptP.mk (ho _ rfl)
  · exact KeptP.mk (State.raise_keeps _ _ (Kept.sub hm rfl) (State.count_keeps _ _ _ (Kept.sub hm rfl) h))
theorem State.gatherOut_keeps {m : Nat} {r : State} (s : State) (entry : Nat) (e : Entry) (t : EmbTable) (lists : List (Nat × Nat)) (rows : List (Nat × Nat)) (direct : Bool) (hm : Nat.land 16777114 m = 16777114) (h : Kept m r s) : Kept m r (State.gatherOut s entry e t lists rows direct) := by
  unfold State.gatherOut
  with_reducible repeat' (first | assumption | exact Kept.sub hm rfl | exact Kept.refl _ _ | refine KeptRes.next ?_ | refine Kept.cond ?_ ?_ | refine KeptRes.cond ?_ ?_ | refine KeptP.cond ?_ ?_ | apply State.collectFlags_keeps | apply State.conclude_keeps | apply State.count_keeps | apply State.modEntry_keeps | apply State.sendOutput_keeps | apply State.startHooks_keeps | refine Kept.foldl ?_ ?_ | intro _ | refine KeptP.foldl ?_ ?_ | refine KeptP.of_eq (by assumption) ?_ | dsimp only | split | dsimp only | refine KeptP.fst ?_ | refine KeptP.mk ?_ | fail_if_no_progress (refine Kept.upd ?_ (by rfl) (by intro p hp; cases p <;> first | rfl | exact (Kept.no hm hp (by decide)).elim)))
theorem State.gatherRows_keeps {m : Nat} {r : State} (entry : Nat) (e : Entry) (t : EmbTable) (lists : List (Nat × Nat)) (rows : List (Nat × Nat)) (a5 : State × Bool) (hm : Nat.land 16777114 m = 16777114) (h : KeptP m r a5) : Kept m r (State.gatherRows entry e t lists rows a5) := by
  obtain ⟨s0, b0⟩ := a5
  have h0 := h.fst
  dsimp only at h0
  unfold State.gatherRows
  with_reducible repeat' (first | assumption | exact Kept.sub hm rfl | exact Kept.refl _ _ | refine KeptRes.next ?_ | refine Kept.cond ?_ ?_ | refine KeptRes.cond ?_ ?_ | refine KeptP.cond ?_ ?_ | apply State.dropFetched_keeps | apply State.failWith_keeps | apply State.gatherOut_keeps | apply State.readRanges_keeps | refine Kept.foldl ?_ ?_ | intro _ | refine KeptP.foldl ?_ ?_ | refine KeptP.of_eq (by assumption) ?_ | dsimp only | split | dsimp only | refine KeptP.fst ?_ | refine KeptP.mk ?_ | fail_if_no_progress (refine Kept.upd ?_ (by rfl) (by intro p hp; cases p <;> first | rfl | exact (Kept.no hm hp (by decide)).elim)))
theorem State.fetchAs_keeps {m : Nat} {r : State} (s : State) (entry : Nat) (k : Second) (rows : List (Nat × Nat)) (hm : Nat.land 2097152 m = 2097152) (h : Kept m r s) : Kept m r (State.fetchAs s entry k rows) := by
  unfold State.fetchAs
  with_reducible repeat' (first | assumption | exact Kept.sub hm rfl | exact Kept.refl _ _ | refine KeptRes.next ?_ | refine Kept.cond ?_ ?_ | refine KeptRes.cond ?_ ?_ | refine KeptP.cond ?_ ?_ | apply State.modEntry_keeps | refine Kept.foldl ?_ ?_ | intro _ | refine KeptP.foldl ?_ ?_ | refine KeptP.of_eq (by assumption) ?_ | dsimp only | split | dsimp only | refine KeptP.fst ?_ | refine KeptP.mk ?_ | fail_if_no_progress (refine Kept.upd ?_ (by rfl) (by intro p hp; cases p <;> first | rfl | exact (Kept.no hm hp (by decide)).elim)))
theorem execEmbGather_keeps {m : Nat} {r : State} (entry : Nat) (s : State) (hm : Nat.land 16777114 m = 16777114) (h : Kept m r s) : KeptRes m r (execEmbGather entry s) := by
  unfold execEmbGather
  with_reducible repeat' (first | assumption | exact Kept.sub hm rfl | exact Kept.refl _ _ | refine KeptRes.next ?_ | refine Kept.cond ?_ ?_ | refine KeptRes.cond ?_ ?_ | refine KeptP.cond ?_ ?_ | apply State.failWith_keeps | apply State.fetchAs_keeps | apply State.gatherRows_keeps | apply State.gatherSpace_keeps | apply State.prepareRanges_keeps | apply State.readRanges_keeps | refine State.reserveWork_keeps _ _ _ ?_ ?_ _ (by assumption) | refine Kept.foldl ?_ ?_ | intro _ | refine KeptP.foldl ?_ ?_ | refine KeptP.of_eq (by assumption) ?_ | dsimp only | split | dsimp only | refine KeptP.fst ?_ | refine KeptP.mk ?_ | fail_if_no_progress (refine Kept.upd ?_ (by rfl) (by intro p hp; cases p <;> first | rfl | exact (Kept.no hm hp (by decide)).elim)))
theorem State.updateSpace_keeps {m : Nat} {r : State} (s : State) (entry : Nat) (bytes : Nat) (turn : Bool) (hm : Nat.land 4195346 m = 4195346) (h : Kept m r s) : ∀ t, State.updateSpace s entry bytes turn = some t → Kept m r t := by
  intro t e
  unfold State.updateSpace at e
  split at e
  · cases e; exact h
  · split at e
    · exact State.reserveWork_keeps _ _ _ (Kept.sub hm rfl) h _ e
    · cases e
theorem State.updateRows_keeps {m : Nat} {r : State} (s : State) (entry : Nat) (e : Entry) (t : EmbTable) (hm : Nat.land 16772498 m = 16772498) (h : Kept m r s) : Kept m r (State.updateRows s entry e t) := by
  unfold State.updateRows
  with_reducible repeat' (first | assumption | exact Kept.sub hm rfl | exact Kept.refl _ _ | refine KeptRes.next ?_ | refine Kept.cond ?_ ?_ | refine KeptRes.cond ?_ ?_ | refine KeptP.cond ?_ ?_ | apply State.conclude_keeps | apply State.failWith_keeps | apply State.prepareRanges_keeps | apply State.readRanges_keeps | apply State.runUpdate_keeps | apply State.sendParts_keeps | refine Kept.foldl ?_ ?_ | intro _ | refine KeptP.foldl ?_ ?_ | refine KeptP.of_eq (by assumption) ?_ | dsimp only | split | dsimp only | refine KeptP.fst ?_ | refine KeptP.mk ?_ | fail_if_no_progress (refine Kept.upd ?_ (by rfl) (by intro p hp; cases p <;> first | rfl | exact (Kept.no hm hp (by decide)).elim)))
theorem execEmbUpdate_keeps {m : Nat} {r : State} (entry : Nat) (s : State) (hm : Nat.land 16772498 m = 16772498) (h : Kept m r s) : KeptRes m r (execEmbUpdate entry s) := by
  unfold execEmbUpdate
  with_reducible repeat' (first | assumption | exact Kept.sub hm rfl | exact Kept.refl _ _ | refine KeptRes.next ?_ | refine Kept.cond ?_ ?_ | refine KeptRes.cond ?_ ?_ | refine KeptP.cond ?_ ?_ | apply State.failWith_keeps | apply State.updateRows_keeps | refine State.updateSpace_keeps _ _ _ _ ?_ ?_ _ (by assumption) | refine Kept.foldl ?_ ?_ | intro _ | refine KeptP.foldl ?_ ?_ | refine KeptP.of_eq (by assumption) ?_ | dsimp only | split | dsimp only | refine KeptP.fst ?_ | refine KeptP.mk ?_ | fail_if_no_progress (refine Kept.upd ?_ (by rfl) (by intro p hp; cases p <;> first | rfl | exact (Kept.no hm hp (by decide)).elim)))
theorem execEmbWrite_keeps {m : Nat} {r : State} (entry : Nat) (s : State) (hm : Nat.land 16771474 m = 16771474) (h : Kept m r s) : KeptRes m r (execEmbWrite entry s) := by
  unfold execEmbWrite
  with_reducible repeat' (first | assumption | exact Kept.sub hm rfl | exact Kept.refl _ _ | refine KeptRes.next ?_ | refine Kept.cond ?_ ?_ | refine KeptRes.cond ?_ ?_ | refine KeptP.cond ?_ ?_ | apply State.conclude_keeps | apply State.failWith_keeps | apply State.prepareRanges_keeps | apply State.readRanges_keeps | apply State.runWrite_keeps | apply State.sendParts_keeps | refine Kept.foldl ?_ ?_ | intro _ | refine KeptP.foldl ?_ ?_ | refine KeptP.of_eq (by assumption) ?_ | dsimp only | split | dsimp only | refine KeptP.fst ?_ | refine KeptP.mk ?_ | fail_if_no_progress (refine Kept.upd ?_ (by rfl) (by intro p hp; cases p <;> first | rfl | exact (Kept.no hm hp (by decide)).elim)))
theorem State.closeApply_keeps {m : Nat} {r : State} (s : State) (entry : Nat) (e : Entry) (hm : Nat.land 16772498 m = 16772498) (h : Kept m r s) : Kept m r (State.closeApply s entry e) := by
  unfold State.closeApply
  with_reducible repeat' (first | assumption | exact Kept.sub hm rfl | exact Kept.refl _ _ | refine KeptRes.next ?_ | refine Kept.cond ?_ ?_ | refine KeptRes.cond ?_ ?_ | refine KeptP.cond ?_ ?_ | apply State.applyStep_keeps | apply State.conclude_keeps | apply State.modEntry_keeps | apply State.prepareRanges_keeps | apply State.sendParts_keeps | refine Kept.foldl ?_ ?_ | intro _ | refine KeptP.foldl ?_ ?_ | refine KeptP.of_eq (by assumption) ?_ | dsimp only | split | dsimp only | refine KeptP.fst ?_ | refine KeptP.mk ?_ | fail_if_no_progress (refine Kept.upd ?_ (by rfl) (by intro p hp; cases p <;> first | rfl | exact (Kept.no hm hp (by decide)).elim)))
theorem execEmbStepClose_keeps {m : Nat} {r : State} (entry : Nat) (s : State) (hm : Nat.land 16772498 m = 16772498) (h : Kept m r s) : KeptRes m r (execEmbStepClose entry s) := by
  unfold execEmbStepClose
  with_reducible repeat' (first | assumption | exact Kept.sub hm rfl | exact Kept.refl _ _ | refine KeptRes.next ?_ | refine Kept.cond ?_ ?_ | refine KeptRes.cond ?_ ?_ | refine KeptP.cond ?_ ?_ | apply State.closeApply_keeps | apply State.closeStep_keeps | apply State.conclude_keeps | apply State.failWith_keeps | apply State.forward_keeps | apply State.modEntry_keeps | apply State.sendParts_keeps | refine Kept.foldl ?_ ?_ | intro _ | refine KeptP.foldl ?_ ?_ | refine KeptP.of_eq (by assumption) ?_ | dsimp only | split | dsimp only | refine KeptP.fst ?_ | refine KeptP.mk ?_ | fail_if_no_progress (refine Kept.upd ?_ (by rfl) (by intro p hp; cases p <;> first | rfl | exact (Kept.no hm hp (by decide)).elim)))
theorem execEmbPublish_keeps {m : Nat} {r : State} (entry : Nat) (s : State) (hm : Nat.land 6554642 m = 6554642) (h : Kept m r s) : KeptRes m r (execEmbPublish entry s) := by
  unfold execEmbPublish
  with_reducible repeat' (first | assumption | exact Kept.sub hm rfl | exact Kept.refl _ _ | refine KeptRes.next ?_ | refine Kept.cond ?_ ?_ | refine KeptRes.cond ?_ ?_ | refine KeptP.cond ?_ ?_ | apply State.dispatch_keeps | apply State.failWith_keeps | apply State.forward_keeps | apply State.switchTable_keeps | refine Kept.foldl ?_ ?_ | intro _ | refine KeptP.foldl ?_ ?_ | refine KeptP.of_eq (by assumption) ?_ | dsimp only | split | dsimp only | refine KeptP.fst ?_ | refine KeptP.mk ?_ | fail_if_no_progress (refine Kept.upd ?_ (by rfl) (by intro p hp; cases p <;> first | rfl | exact (Kept.no hm hp (by decide)).elim)))
theorem execEmbRetire_keeps {m : Nat} {r : State} (table : Nat) (s : State) (hm : Nat.land 4195346 m = 4195346) (h : Kept m r s) : KeptRes m r (execEmbRetire table s) := by
  unfold execEmbRetire
  with_reducible repeat' (first | assumption | exact Kept.sub hm rfl | exact Kept.refl _ _ | refine KeptRes.next ?_ | refine Kept.cond ?_ ?_ | refine KeptRes.cond ?_ ?_ | refine KeptP.cond ?_ ?_ | apply State.raise_keeps | apply State.setEmbTable_keeps | refine Kept.foldl ?_ ?_ | intro _ | refine KeptP.foldl ?_ ?_ | refine KeptP.of_eq (by assumption) ?_ | dsimp only | split | dsimp only | refine KeptP.fst ?_ | refine KeptP.mk ?_ | fail_if_no_progress (refine Kept.upd ?_ (by rfl) (by intro p hp; cases p <;> first | rfl | exact (Kept.no hm hp (by decide)).elim)))
theorem State.defineBuffer_keeps {m : Nat} {r : State} (s : State) (entry : Nat) (e : Entry) (hm : Nat.land 2363408 m = 2363408) (h : Kept m r s) : Kept m r (State.defineBuffer s entry e) := by
  unfold State.defineBuffer
  with_reducible repeat' (first | assumption | exact Kept.sub hm rfl | exact Kept.refl _ _ | refine KeptRes.next ?_ | refine Kept.cond ?_ ?_ | refine KeptRes.cond ?_ ?_ | refine KeptP.cond ?_ ?_ | apply State.dispatch_keeps | apply State.setRplBuffer_keeps | refine Kept.foldl ?_ ?_ | intro _ | refine KeptP.foldl ?_ ?_ | refine KeptP.of_eq (by assumption) ?_ | dsimp only | split | dsimp only | refine KeptP.fst ?_ | refine KeptP.mk ?_ | fail_if_no_progress (refine Kept.upd ?_ (by rfl) (by intro p hp; cases p <;> first | rfl | exact (Kept.no hm hp (by decide)).elim)))
theorem execRplDefine_keeps {m : Nat} {r : State} (entry : Nat) (s : State) (hm : Nat.land 2363408 m = 2363408) (h : Kept m r s) : KeptRes m r (execRplDefine entry s) := by
  unfold execRplDefine
  with_reducible repeat' (first | assumption | exact Kept.sub hm rfl | exact Kept.refl _ _ | refine KeptRes.next ?_ | refine Kept.cond ?_ ?_ | refine KeptRes.cond ?_ ?_ | refine KeptP.cond ?_ ?_ | apply State.defineBuffer_keeps | apply State.failWith_keeps | apply State.forward_keeps | refine Kept.foldl ?_ ?_ | intro _ | refine KeptP.foldl ?_ ?_ | refine KeptP.of_eq (by assumption) ?_ | dsimp only | split | dsimp only | refine KeptP.fst ?_ | refine KeptP.mk ?_ | fail_if_no_progress (refine Kept.upd ?_ (by rfl) (by intro p hp; cases p <;> first | rfl | exact (Kept.no hm hp (by decide)).elim)))
theorem State.removeBuffer_keeps {m : Nat} {r : State} (s : State) (entry : Nat) (e : Entry) (hm : Nat.land 2363408 m = 2363408) (h : Kept m r s) : Kept m r (State.removeBuffer s entry e) := by
  unfold State.removeBuffer
  with_reducible repeat' (first | assumption | exact Kept.sub hm rfl | exact Kept.refl _ _ | refine KeptRes.next ?_ | refine Kept.cond ?_ ?_ | refine KeptRes.cond ?_ ?_ | refine KeptP.cond ?_ ?_ | apply State.dispatch_keeps | refine Kept.foldl ?_ ?_ | intro _ | refine KeptP.foldl ?_ ?_ | refine KeptP.of_eq (by assumption) ?_ | dsimp only | split | dsimp only | refine KeptP.fst ?_ | refine KeptP.mk ?_ | fail_if_no_progress (refine Kept.upd ?_ (by rfl) (by intro p hp; cases p <;> first | rfl | exact (Kept.no hm hp (by decide)).elim)))
theorem execRplDrop_keeps {m : Nat} {r : State} (entry : Nat) (s : State) (hm : Nat.land 2363408 m = 2363408) (h : Kept m r s) : KeptRes m r (execRplDrop entry s) := by
  unfold execRplDrop
  with_reducible repeat' (first | assumption | exact Kept.sub hm rfl | exact Kept.refl _ _ | refine KeptRes.next ?_ | refine Kept.cond ?_ ?_ | refine KeptRes.cond ?_ ?_ | refine KeptP.cond ?_ ?_ | apply State.failWith_keeps | apply State.forward_keeps | apply State.removeBuffer_keeps | refine Kept.foldl ?_ ?_ | intro _ | refine KeptP.foldl ?_ ?_ | refine KeptP.of_eq (by assumption) ?_ | dsimp only | split | dsimp only | refine KeptP.fst ?_ | refine KeptP.mk ?_ | fail_if_no_progress (refine Kept.upd ?_ (by rfl) (by intro p hp; cases p <;> first | rfl | exact (Kept.no hm hp (by decide)).elim)))
theorem execRplQuery_keeps {m : Nat} {r : State} (entry : Nat) (s : State) (hm : Nat.land 2097152 m = 2097152) (h : Kept m r s) : KeptRes m r (execRplQuery entry s) := by
  unfold execRplQuery
  with_reducible repeat' (first | assumption | exact Kept.sub hm rfl | exact Kept.refl _ _ | refine KeptRes.next ?_ | refine Kept.cond ?_ ?_ | refine KeptRes.cond ?_ ?_ | refine KeptP.cond ?_ ?_ | apply State.finish_keeps | refine Kept.foldl ?_ ?_ | intro _ | refine KeptP.foldl ?_ ?_ | refine KeptP.of_eq (by assumption) ?_ | dsimp only | split | dsimp only | refine KeptP.fst ?_ | refine KeptP.mk ?_ | fail_if_no_progress (refine Kept.upd ?_ (by rfl) (by intro p hp; cases p <;> first | rfl | exact (Kept.no hm hp (by decide)).elim)))
theorem State.beginJob_keeps {m : Nat} {r : State} (s : State) (entry : Nat) (classes : Nat) (p : Packet) (hm : Nat.land 2363392 m = 2363392) (h : Kept m r s) : KeptP m r (State.beginJob s entry classes p) := by
  unfold State.beginJob
  with_reducible repeat' (first | assumption | exact Kept.sub hm rfl | exact Kept.refl _ _ | refine KeptRes.next ?_ | refine Kept.cond ?_ ?_ | refine KeptRes.cond ?_ ?_ | refine KeptP.cond ?_ ?_ | apply State.localItem_keeps | refine Kept.foldl ?_ ?_ | intro _ | refine KeptP.foldl ?_ ?_ | refine KeptP.of_eq (by assumption) ?_ | dsimp only | split | dsimp only | refine KeptP.fst ?_ | refine KeptP.mk ?_ | fail_if_no_progress (refine Kept.upd ?_ (by rfl) (by intro p hp; cases p <;> first | rfl | exact (Kept.no hm hp (by decide)).elim)))
theorem State.hasStarted_keeps {m : Nat} {r : State} (s : State) (entry : Nat) (classes : Nat) (hm : Nat.land 2097152 m = 2097152) (h : Kept m r s) : Kept m r (State.hasStarted s entry classes) := by
  unfold State.hasStarted
  with_reducible repeat' (first | assumption | exact Kept.sub hm rfl | exact Kept.refl _ _ | refine KeptRes.next ?_ | refine Kept.cond ?_ ?_ | refine KeptRes.cond ?_ ?_ | refine KeptP.cond ?_ ?_ | apply State.conclude_keeps | refine Kept.foldl ?_ ?_ | intro _ | refine KeptP.foldl ?_ ?_ | refine KeptP.of_eq (by assumption) ?_ | dsimp only | split | dsimp only | refine KeptP.fst ?_ | refine KeptP.mk ?_ | fail_if_no_progress (refine Kept.upd ?_ (by rfl) (by intro p hp; cases p <;> first | rfl | exact (Kept.no hm hp (by decide)).elim)))
theorem State.insertFor'_keeps {m : Nat} {r : State} (s : State) (entry : Nat) (e : Entry) (b : Nat) (x : RplBuffer) (hm : Nat.land 16777114 m = 16777114) (h : Kept m r s) : Kept m r (State.insertFor' s entry e b x) := by
  unfold State.insertFor'
  with_reducible repeat' (first | assumption | exact Kept.sub hm rfl | exact Kept.refl _ _ | refine KeptRes.next ?_ | refine Kept.cond ?_ ?_ | refine KeptRes.cond ?_ ?_ | refine KeptP.cond ?_ ?_ | apply State.advanceJob_keeps | apply State.askReserve_keeps | apply State.beginJob_keeps | apply State.clearSlots_keeps | apply State.conclude_keeps | apply State.hasStarted_keeps | apply State.localItem_keeps | apply State.modJob_keeps | apply State.noteHead_keeps | refine Kept.foldl ?_ ?_ | intro _ | refine KeptP.foldl ?_ ?_ | refine KeptP.of_eq (by assumption) ?_ | dsimp only | split | dsimp only | refine KeptP.fst ?_ | refine KeptP.mk ?_ | fail_if_no_progress (refine Kept.upd ?_ (by rfl) (by intro p hp; cases p <;> first | rfl | exact (Kept.no hm hp (by decide)).elim)))
theorem execRplInsert_keeps {m : Nat} {r : State} (entry : Nat) (s : State) (hm : Nat.land 16777114 m = 16777114) (h : Kept m r s) : KeptRes m r (execRplInsert entry s) := by
  unfold execRplInsert
  with_reducible repeat' (first | assumption | exact Kept.sub hm rfl | exact Kept.refl _ _ | refine KeptRes.next ?_ | refine Kept.cond ?_ ?_ | refine KeptRes.cond ?_ ?_ | refine KeptP.cond ?_ ?_ | apply State.advanceJob_keeps | apply State.askReserve_keeps | apply State.beginJob_keeps | apply State.endJob_keeps | apply State.failWith_keeps | apply State.hasStarted_keeps | apply State.insertFor'_keeps | apply State.insertGranted_keeps | apply State.modJob_keeps | apply State.prepareRanges_keeps | apply State.readRanges_keeps | apply State.sendStage_keeps | refine Kept.foldl ?_ ?_ | intro _ | refine KeptP.foldl ?_ ?_ | refine KeptP.of_eq (by assumption) ?_ | dsimp only | split | dsimp only | refine KeptP.fst ?_ | refine KeptP.mk ?_ | fail_if_no_progress (refine Kept.upd ?_ (by rfl) (by intro p hp; cases p <;> first | rfl | exact (Kept.no hm hp (by decide)).elim)))
theorem execRplReservationGrant_keeps {m : Nat} {r : State} (buffer : Nat) (s : State) (hm : Nat.land 2363408 m = 2363408) (h : Kept m r s) : KeptRes m r (execRplReservationGrant buffer s) := by
  unfold execRplReservationGrant
  with_reducible repeat' (first | assumption | exact Kept.sub hm rfl | exact Kept.refl _ _ | refine KeptRes.next ?_ | refine Kept.cond ?_ ?_ | refine KeptRes.cond ?_ ?_ | refine KeptP.cond ?_ ?_ | apply State.insertGranted_keeps | apply State.reserve_keeps | refine Kept.foldl ?_ ?_ | intro _ | refine KeptP.foldl ?_ ?_ | refine KeptP.of_eq (by assumption) ?_ | dsimp only | split | dsimp only | refine KeptP.fst ?_ | refine KeptP.mk ?_ | fail_if_no_progress (refine Kept.upd ?_ (by rfl) (by intro p hp; cases p <;> first | rfl | exact (Kept.no hm hp (by decide)).elim)))
theorem State.startUpdates_keeps {m : Nat} {r : State} (s : State) (entry : Nat) (classes : Nat) (e : Entry) (d : List Byte) (a : Asker) (hm : Nat.land 6557714 m = 6557714) (h : Kept m r s) : Kept m r (State.startUpdates s entry classes e d a) := by
  unfold State.startUpdates
  with_reducible repeat' (first | assumption | exact Kept.sub hm rfl | exact Kept.refl _ _ | refine KeptRes.next ?_ | refine Kept.cond ?_ ?_ | refine KeptRes.cond ?_ ?_ | refine KeptP.cond ?_ ?_ | apply State.hasStarted_keeps | apply State.queueUpdates_keeps | apply State.sendStage_keeps | refine Kept.foldl ?_ ?_ | intro _ | refine KeptP.foldl ?_ ?_ | refine KeptP.of_eq (by assumption) ?_ | dsimp only | split | dsimp only | refine KeptP.fst ?_ | refine KeptP.mk ?_ | fail_if_no_progress (refine Kept.upd ?_ (by rfl) (by intro p hp; cases p <;> first | rfl | exact (Kept.no hm hp (by decide)).elim)))
theorem State.sampleFor_keeps {m : Nat} {r : State} (s : State) (entry : Nat) (e : Entry) (x : RplBuffer) (hm : Nat.land 16777114 m = 16777114) (h : Kept m r s) : Kept m r (State.sampleFor s entry e x) := by
  unfold State.sampleFor
  with_reducible repeat' (first | assumption | exact Kept.sub hm rfl | exact Kept.refl _ _ | refine KeptRes.next ?_ | refine Kept.cond ?_ ?_ | refine KeptRes.cond ?_ ?_ | refine KeptP.cond ?_ ?_ | apply State.advanceJob_keeps | apply State.beginJob_keeps | apply State.conclude_keeps | apply State.failWith_keeps | apply State.hasStarted_keeps | apply State.modEntry_keeps | apply State.modJob_keeps | apply State.prepareRanges_keeps | apply State.readRanges_keeps | apply State.startUpdates_keeps | refine Kept.foldl ?_ ?_ | intro _ | refine KeptP.foldl ?_ ?_ | refine KeptP.of_eq (by assumption) ?_ | dsimp only | split | dsimp only | refine KeptP.fst ?_ | refine KeptP.mk ?_ | fail_if_no_progress (refine Kept.upd ?_ (by rfl) (by intro p hp; cases p <;> first | rfl | exact (Kept.no hm hp (by decide)).elim)))
theorem State.listReady_keeps {m : Nat} {r : State} (s : State) (entry : Nat) (lists : List (Nat × Nat)) (hm : Nat.land 16771474 m = 16771474) (h : Kept m r s) : KeptP m r (State.listReady s entry lists) := by
  unfold State.listReady
  with_reducible repeat' (first | assumption | exact Kept.sub hm rfl | exact Kept.refl _ _ | refine KeptRes.next ?_ | refine Kept.cond ?_ ?_ | refine KeptRes.cond ?_ ?_ | refine KeptP.cond ?_ ?_ | apply State.failWith_keeps | apply State.prepareRanges_keeps | apply State.readRanges_keeps | refine Kept.foldl ?_ ?_ | intro _ | refine KeptP.foldl ?_ ?_ | refine KeptP.of_eq (by assumption) ?_ | dsimp only | split | dsimp only | refine KeptP.fst ?_ | refine KeptP.mk ?_ | fail_if_no_progress (refine Kept.upd ?_ (by rfl) (by intro p hp; cases p <;> first | rfl | exact (Kept.no hm hp (by decide)).elim)))
theorem execRplSample_keeps {m : Nat} {r : State} (entry : Nat) (s : State) (hm : Nat.land 16777114 m = 16777114) (h : Kept m r s) : KeptRes m r (execRplSample entry s) := by
  unfold execRplSample
  with_reducible repeat' (first | assumption | exact Kept.sub hm rfl | exact Kept.refl _ _ | refine KeptRes.next ?_ | refine Kept.cond ?_ ?_ | refine KeptRes.cond ?_ ?_ | refine KeptP.cond ?_ ?_ | apply State.advanceJob_keeps | apply State.beginJob_keeps | apply State.failWith_keeps | apply State.listReady_keeps | apply State.sampleFor_keeps | apply State.startUpdates_keeps | refine Kept.foldl ?_ ?_ | intro _ | refine KeptP.foldl ?_ ?_ | refine KeptP.of_eq (by assumption) ?_ | dsimp only | split | dsimp only | refine KeptP.fst ?_ | refine KeptP.mk ?_ | fail_if_no_progress (refine Kept.upd ?_ (by rfl) (by intro p hp; cases p <;> first | rfl | exact (Kept.no hm hp (by decide)).elim)))
theorem execRplUpdate_keeps {m : Nat} {r : State} (entry : Nat) (s : State) (hm : Nat.land 16777114 m = 16777114) (h : Kept m r s) : KeptRes m r (execRplUpdate entry s) := by
  unfold execRplUpdate
  with_reducible repeat' (first | assumption | exact Kept.sub hm rfl | exact Kept.refl _ _ | refine KeptRes.next ?_ | refine Kept.cond ?_ ?_ | refine KeptRes.cond ?_ ?_ | refine KeptP.cond ?_ ?_ | apply State.advanceJob_keeps | apply State.beginJob_keeps | apply State.failWith_keeps | apply State.listReady_keeps | apply State.startUpdates_keeps | refine Kept.foldl ?_ ?_ | intro _ | refine KeptP.foldl ?_ ?_ | refine KeptP.of_eq (by assumption) ?_ | dsimp only | split | dsimp only | refine KeptP.fst ?_ | refine KeptP.mk ?_ | fail_if_no_progress (refine Kept.upd ?_ (by rfl) (by intro p hp; cases p <;> first | rfl | exact (Kept.no hm hp (by decide)).elim)))
theorem State.treePass_keeps {m : Nat} {r : State} (s : State) (buffer : Nat) (shard : Nat) (d : List Byte) (rs : List (Nat × Nat)) (batch : List RplChange) (rest : List RplChange) (hm : Nat.land 16777114 m = 16777114) (h : Kept m r s) : Kept m r (State.treePass s buffer shard d rs batch rest) := by
  unfold State.treePass
  with_reducible repeat' (first | assumption | exact Kept.sub hm rfl | exact Kept.refl _ _ | refine KeptRes.next ?_ | refine Kept.cond ?_ ?_ | refine KeptRes.cond ?_ ?_ | refine KeptP.cond ?_ ?_ | apply State.advanceJob_keeps | apply State.modJob_keeps | apply State.readRanges_keeps | apply State.runPass_keeps | apply State.setShardQueue_keeps | refine Kept.foldl ?_ ?_ | intro _ | refine KeptP.foldl ?_ ?_ | refine KeptP.of_eq (by assumption) ?_ | dsimp only | split | dsimp only | refine KeptP.fst ?_ | refine KeptP.mk ?_ | fail_if_no_progress (refine Kept.upd ?_ (by rfl) (by intro p hp; cases p <;> first | rfl | exact (Kept.no hm hp (by decide)).elim)))
theorem execRplTreePass_keeps {m : Nat} {r : State} (buffer : Nat) (shard : Nat) (s : State) (hm : Nat.land 16777114 m = 16777114) (h : Kept m r s) : KeptRes m r (execRplTreePass buffer shard s) := by
  unfold execRplTreePass
  with_reducible repeat' (first | assumption | exact Kept.sub hm rfl | exact Kept.refl _ _ | refine KeptRes.next ?_ | refine Kept.cond ?_ ?_ | refine KeptRes.cond ?_ ?_ | refine KeptP.cond ?_ ?_ | apply State.advanceJob_keeps | apply State.prepareRanges_keeps | apply State.treePass_keeps | refine Kept.foldl ?_ ?_ | intro _ | refine KeptP.foldl ?_ ?_ | refine KeptP.of_eq (by assumption) ?_ | dsimp only | split | dsimp only | refine KeptP.fst ?_ | refine KeptP.mk ?_ | fail_if_no_progress (refine Kept.upd ?_ (by rfl) (by intro p hp; cases p <;> first | rfl | exact (Kept.no hm hp (by decide)).elim)))
theorem State.makeDraw_keeps {m : Nat} {r : State} (s : State) (entry : Nat) (j : RplJob) (d : List Byte) (x4 : RplDraw) (hm : Nat.land 16771474 m = 16771474) (h : Kept m r s) : KeptP m r (State.makeDraw s entry j d x4) := by
  unfold State.makeDraw
  with_reducible repeat' (first | assumption | exact Kept.sub hm rfl | exact Kept.refl _ _ | refine KeptRes.next ?_ | refine Kept.cond ?_ ?_ | refine KeptRes.cond ?_ ?_ | refine KeptP.cond ?_ ?_ | apply State.count_keeps | apply State.prepareRanges_keeps | apply State.raise_keeps | apply State.readRanges_keeps | refine Kept.foldl ?_ ?_ | intro _ | refine KeptP.foldl ?_ ?_ | refine KeptP.of_eq (by assumption) ?_ | dsimp only | split | dsimp only | refine KeptP.fst ?_ | refine KeptP.mk ?_ | fail_if_no_progress (refine Kept.upd ?_ (by rfl) (by intro p hp; cases p <;> first | rfl | exact (Kept.no hm hp (by decide)).elim)))
theorem execRplDescent_keeps {m : Nat} {r : State} (entry : Nat) (draw : Nat) (s : State) (hm : Nat.land 16777114 m = 16777114) (h : Kept m r s) : KeptRes m r (execRplDescent entry draw s) := by
  unfold execRplDescent
  with_reducible repeat' (first | assumption | exact Kept.sub hm rfl | exact Kept.refl _ _ | refine KeptRes.next ?_ | refine Kept.cond ?_ ?_ | refine KeptRes.cond ?_ ?_ | refine KeptP.cond ?_ ?_ | apply State.advanceJob_keeps | apply State.makeDraw_keeps | apply State.modJob_keeps | refine Kept.foldl ?_ ?_ | intro _ | refine KeptP.foldl ?_ ?_ | refine KeptP.of_eq (by assumption) ?_ | dsimp only | split | dsimp only | refine KeptP.fst ?_ | refine KeptP.mk ?_ | fail_if_no_progress (refine Kept.upd ?_ (by rfl) (by intro p hp; cases p <;> first | rfl | exact (Kept.no hm hp (by decide)).elim)))
theorem resumeCommand_keeps {m : Nat} {r : State} (op : Nat) (entry : Nat) (s : State) (hm : Nat.land 16777114 m = 16777114) (h : Kept m r s) : KeptRes m r (resumeCommand op entry s) := by
  unfold resumeCommand
  with_reducible repeat' (first | assumption | exact Kept.sub hm rfl | exact Kept.refl _ _ | refine KeptRes.next ?_ | refine Kept.cond ?_ ?_ | refine KeptRes.cond ?_ ?_ | refine KeptP.cond ?_ ?_ | apply execEmbStepClose_keeps | apply execEmbUpdate_keeps | apply execEmbWrite_keeps | apply execHostToStore_keeps | apply execKvpAppend_keeps | apply execMigrateIn_keeps | apply execRplInsert_keeps | apply execRplUpdate_keeps | apply execStoreCopy_keeps | apply execVecDelete_keeps | apply execVecInsert_keeps | refine Kept.foldl ?_ ?_ | intro _ | refine KeptP.foldl ?_ ?_ | refine KeptP.of_eq (by assumption) ?_ | dsimp only | split | dsimp only | refine KeptP.fst ?_ | refine KeptP.mk ?_ | fail_if_no_progress (refine Kept.upd ?_ (by rfl) (by intro p hp; cases p <;> first | rfl | exact (Kept.no hm hp (by decide)).elim)))
theorem State.resumeItem_keeps {m : Nat} {r : State} (s : State) (id : Nat) (hm : Nat.land 16772538 m = 16772538) (h : Kept m r s) : Kept m r (State.resumeItem s id) := by
  unfold State.resumeItem
  with_reducible repeat' (first | assumption | exact Kept.sub hm rfl | exact Kept.refl _ _ | refine KeptRes.next ?_ | refine Kept.cond ?_ ?_ | refine KeptRes.cond ?_ ?_ | refine KeptP.cond ?_ ?_ | apply State.receiveWork_keeps | refine Kept.foldl ?_ ?_ | intro _ | refine KeptP.foldl ?_ ?_ | refine KeptP.of_eq (by assumption) ?_ | dsimp only | split | dsimp only | refine KeptP.fst ?_ | refine KeptP.mk ?_ | fail_if_no_progress (refine Kept.upd ?_ (by rfl) (by intro p hp; cases p <;> first | rfl | exact (Kept.no hm hp (by decide)).elim)))
theorem execJournalWaitResume_keeps {m : Nat} {r : State} (entry : Option Nat) (granule : Nat) (s : State) (hm : Nat.land 16777146 m = 16777146) (h : Kept m r s) : KeptRes m r (execJournalWaitResume entry granule s) := by
  unfold execJournalWaitResume
  with_reducible repeat' (first | assumption | exact Kept.sub hm rfl | exact Kept.refl _ _ | refine KeptRes.next ?_ | refine Kept.cond ?_ ?_ | refine KeptRes.cond ?_ ?_ | refine KeptP.cond ?_ ?_ | apply State.advanceTxn_keeps | apply State.endJournalWait_keeps | apply State.resumeItem_keeps | apply resumeCommand_keeps | refine Kept.foldl ?_ ?_ | intro _ | refine KeptP.foldl ?_ ?_ | refine KeptP.of_eq (by assumption) ?_ | dsimp only | split | dsimp only | refine KeptP.fst ?_ | refine KeptP.mk ?_ | fail_if_no_progress (refine Kept.upd ?_ (by rfl) (by intro p hp; cases p <;> first | rfl | exact (Kept.no hm hp (by decide)).elim)))
theorem execWb_keeps {m : Nat} {r : State} (port : Nat) (msg : List Byte) (s : State) (hm : Nat.land 16772538 m = 16772538) (h : Kept m r s) : KeptRes m r (execWb port msg s) := by
  unfold execWb
  with_reducible repeat' (first | assumption | exact Kept.sub hm rfl | exact Kept.refl _ _ | refine KeptRes.next ?_ | refine Kept.cond ?_ ?_ | refine KeptRes.cond ?_ ?_ | refine KeptP.cond ?_ ?_ | apply State.recvRaw_keeps | apply State.releaseHeld_keeps | refine Kept.foldl ?_ ?_ | intro _ | refine KeptP.foldl ?_ ?_ | refine KeptP.of_eq (by assumption) ?_ | dsimp only | split | dsimp only | refine KeptP.fst ?_ | refine KeptP.mk ?_ | fail_if_no_progress (refine Kept.upd ?_ (by rfl) (by intro p hp; cases p <;> first | rfl | exact (Kept.no hm hp (by decide)).elim)))
theorem execInvAck_keeps {m : Nat} {r : State} (port : Nat) (msg : List Byte) (s : State) (hm : Nat.land 16772538 m = 16772538) (h : Kept m r s) : KeptRes m r (execInvAck port msg s) := by
  unfold execInvAck
  with_reducible repeat' (first | assumption | exact Kept.sub hm rfl | exact Kept.refl _ _ | refine KeptRes.next ?_ | refine Kept.cond ?_ ?_ | refine KeptRes.cond ?_ ?_ | refine KeptP.cond ?_ ?_ | apply State.recvInvAnswer_keeps | apply State.releaseHeld_keeps | refine Kept.foldl ?_ ?_ | intro _ | refine KeptP.foldl ?_ ?_ | refine KeptP.of_eq (by assumption) ?_ | dsimp only | split | dsimp only | refine KeptP.fst ?_ | refine KeptP.mk ?_ | fail_if_no_progress (refine Kept.upd ?_ (by rfl) (by intro p hp; cases p <;> first | rfl | exact (Kept.no hm hp (by decide)).elim)))
theorem execInvData_keeps {m : Nat} {r : State} (port : Nat) (msg : List Byte) (s : State) (hm : Nat.land 16772538 m = 16772538) (h : Kept m r s) : KeptRes m r (execInvData port msg s) := by
  unfold execInvData
  with_reducible repeat' (first | assumption | exact Kept.sub hm rfl | exact Kept.refl _ _ | refine KeptRes.next ?_ | refine Kept.cond ?_ ?_ | refine KeptRes.cond ?_ ?_ | refine KeptP.cond ?_ ?_ | apply State.recvInvAnswer_keeps | apply State.releaseHeld_keeps | refine Kept.foldl ?_ ?_ | intro _ | refine KeptP.foldl ?_ ?_ | refine KeptP.of_eq (by assumption) ?_ | dsimp only | split | dsimp only | refine KeptP.fst ?_ | refine KeptP.mk ?_ | fail_if_no_progress (refine Kept.upd ?_ (by rfl) (by intro p hp; cases p <;> first | rfl | exact (Kept.no hm hp (by decide)).elim)))
theorem execCohTransactionStart_keeps {m : Nat} {r : State} (granule : Nat) (s : State) (hm : Nat.land 16772538 m = 16772538) (h : Kept m r s) : KeptRes m r (execCohTransactionStart granule s) := by
  unfold execCohTransactionStart
  with_reducible repeat' (first | assumption | exact Kept.sub hm rfl | exact Kept.refl _ _ | refine KeptRes.next ?_ | refine Kept.cond ?_ ?_ | refine KeptRes.cond ?_ ?_ | refine KeptP.cond ?_ ?_ | apply State.beginTxn_keeps | apply State.releaseHeld_keeps | refine Kept.foldl ?_ ?_ | intro _ | refine KeptP.foldl ?_ ?_ | refine KeptP.of_eq (by assumption) ?_ | dsimp only | split | dsimp only | refine KeptP.fst ?_ | refine KeptP.mk ?_ | fail_if_no_progress (refine Kept.upd ?_ (by rfl) (by intro p hp; cases p <;> first | rfl | exact (Kept.no hm hp (by decide)).elim)))
theorem execSnoopTimeout_keeps {m : Nat} {r : State} (index : Nat) (granule : Nat) (s : State) (hm : Nat.land 16772538 m = 16772538) (h : Kept m r s) : KeptRes m r (execSnoopTimeout index granule s) := by
  unfold execSnoopTimeout
  with_reducible repeat' (first | assumption | exact Kept.sub hm rfl | exact Kept.refl _ _ | refine KeptRes.next ?_ | refine Kept.cond ?_ ?_ | refine KeptRes.cond ?_ ?_ | refine KeptP.cond ?_ ?_ | apply State.agentDies_keeps | apply State.releaseHeld_keeps | refine Kept.foldl ?_ ?_ | intro _ | refine KeptP.foldl ?_ ?_ | refine KeptP.of_eq (by assumption) ?_ | dsimp only | split | dsimp only | refine KeptP.fst ?_ | refine KeptP.mk ?_ | fail_if_no_progress (refine Kept.upd ?_ (by rfl) (by intro p hp; cases p <;> first | rfl | exact (Kept.no hm hp (by decide)).elim)))
theorem execCohAgentDeclare_keeps {m : Nat} {r : State} (src : Nat) (index : Nat) (s : State) (hm : Nat.land 16772538 m = 16772538) (h : Kept m r s) : KeptRes m r (execCohAgentDeclare src index s) := by
  unfold execCohAgentDeclare
  with_reducible repeat' (first | assumption | exact Kept.sub hm rfl | exact Kept.refl _ _ | refine KeptRes.next ?_ | refine Kept.cond ?_ ?_ | refine KeptRes.cond ?_ ?_ | refine KeptP.cond ?_ ?_ | apply State.agentDies_keeps | apply State.releaseHeld_keeps | refine Kept.foldl ?_ ?_ | intro _ | refine KeptP.foldl ?_ ?_ | refine KeptP.of_eq (by assumption) ?_ | dsimp only | split | dsimp only | refine KeptP.fst ?_ | refine KeptP.mk ?_ | fail_if_no_progress (refine Kept.upd ?_ (by rfl) (by intro p hp; cases p <;> first | rfl | exact (Kept.no hm hp (by decide)).elim)))
theorem State.bufferFreed_keeps {m : Nat} {r : State} (s : State) (hm : Nat.land 16772538 m = 16772538) (h : Kept m r s) : Kept m r (State.bufferFreed s) := by
  unfold State.bufferFreed
  with_reducible repeat' (first | assumption | exact Kept.sub hm rfl | exact Kept.refl _ _ | refine KeptRes.next ?_ | refine Kept.cond ?_ ?_ | refine KeptRes.cond ?_ ?_ | refine KeptP.cond ?_ ?_ | apply State.advanceTxn_keeps | apply State.releaseHeld_keeps | refine Kept.foldl ?_ ?_ | intro _ | refine KeptP.foldl ?_ ?_ | refine KeptP.of_eq (by assumption) ?_ | dsimp only | split | dsimp only | refine KeptP.fst ?_ | refine KeptP.mk ?_ | fail_if_no_progress (refine Kept.upd ?_ (by rfl) (by intro p hp; cases p <;> first | rfl | exact (Kept.no hm hp (by decide)).elim)))
theorem execMoveDirectorySwitch_keeps {m : Nat} {r : State} (page : Nat) (s : State) (hm : Nat.land 16772538 m = 16772538) (h : Kept m r s) : KeptRes m r (execMoveDirectorySwitch page s) := by
  unfold execMoveDirectorySwitch
  with_reducible repeat' (first | assumption | exact Kept.sub hm rfl | exact Kept.refl _ _ | refine KeptRes.next ?_ | refine Kept.cond ?_ ?_ | refine KeptRes.cond ?_ ?_ | refine KeptP.cond ?_ ?_ | apply State.bufferFreed_keeps | apply State.count_keeps | apply State.programPage_keeps | apply State.pulse_keeps | apply State.raise_keeps | apply State.raisePage_keeps | refine Kept.foldl ?_ ?_ | intro _ | refine KeptP.foldl ?_ ?_ | refine KeptP.of_eq (by assumption) ?_ | dsimp only | split | dsimp only | refine KeptP.fst ?_ | refine KeptP.mk ?_ | fail_if_no_progress (refine Kept.upd ?_ (by rfl) (by intro p hp; cases p <;> first | rfl | exact (Kept.no hm hp (by decide)).elim)))
theorem execDetectComplete_keeps {m : Nat} {r : State} (port : Nat) (reversed : Bool) (polarity : Nat) (s : State) (hm : Nat.land 16384 m = 16384) (h : Kept m r s) : KeptRes m r (execDetectComplete port reversed polarity s) := by
  unfold execDetectComplete
  with_reducible repeat' (first | assumption | exact Kept.sub hm rfl | exact Kept.refl _ _ | refine KeptRes.next ?_ | refine Kept.cond ?_ ?_ | refine KeptRes.cond ?_ ?_ | refine KeptP.cond ?_ ?_ | apply State.setPort_keeps | refine Kept.foldl ?_ ?_ | intro _ | refine KeptP.foldl ?_ ?_ | refine KeptP.of_eq (by assumption) ?_ | dsimp only | split | dsimp only | refine KeptP.fst ?_ | refine KeptP.mk ?_ | fail_if_no_progress (refine Kept.upd ?_ (by rfl) (by intro p hp; cases p <;> first | rfl | exact (Kept.no hm hp (by decide)).elim)))
theorem execDetectTimeout_keeps {m : Nat} {r : State} (port : Nat) (s : State) (hm : Nat.land 8341522 m = 8341522) (h : Kept m r s) : KeptRes m r (execDetectTimeout port s) := by
  unfold execDetectTimeout
  with_reducible repeat' (first | assumption | exact Kept.sub hm rfl | exact Kept.refl _ _ | refine KeptRes.next ?_ | refine Kept.cond ?_ ?_ | refine KeptRes.cond ?_ ?_ | refine KeptP.cond ?_ ?_ | apply State.failAttempt_keeps | refine Kept.foldl ?_ ?_ | intro _ | refine KeptP.foldl ?_ ?_ | refine KeptP.of_eq (by assumption) ?_ | dsimp only | split | dsimp only | refine KeptP.fst ?_ | refine KeptP.mk ?_ | fail_if_no_progress (refine Kept.upd ?_ (by rfl) (by intro p hp; cases p <;> first | rfl | exact (Kept.no hm hp (by decide)).elim)))
theorem execEqualizeComplete_keeps {m : Nat} {r : State} (port : Nat) (s : State) (hm : Nat.land 16384 m = 16384) (h : Kept m r s) : KeptRes m r (execEqualizeComplete port s) := by
  unfold execEqualizeComplete
  with_reducible repeat' (first | assumption | exact Kept.sub hm rfl | exact Kept.refl _ _ | refine KeptRes.next ?_ | refine Kept.cond ?_ ?_ | refine KeptRes.cond ?_ ?_ | refine KeptP.cond ?_ ?_ | apply State.setPort_keeps | refine Kept.foldl ?_ ?_ | intro _ | refine KeptP.foldl ?_ ?_ | refine KeptP.of_eq (by assumption) ?_ | dsimp only | split | dsimp only | refine KeptP.fst ?_ | refine KeptP.mk ?_ | fail_if_no_progress (refine Kept.upd ?_ (by rfl) (by intro p hp; cases p <;> first | rfl | exact (Kept.no hm hp (by decide)).elim)))
theorem execEqualizeTimeout_keeps {m : Nat} {r : State} (port : Nat) (below : Bool) (s : State) (hm : Nat.land 8341522 m = 8341522) (h : Kept m r s) : KeptRes m r (execEqualizeTimeout port below s) := by
  unfold execEqualizeTimeout
  with_reducible repeat' (first | assumption | exact Kept.sub hm rfl | exact Kept.refl _ _ | refine KeptRes.next ?_ | refine Kept.cond ?_ ?_ | refine KeptRes.cond ?_ ?_ | refine KeptP.cond ?_ ?_ | apply State.failAttempt_keeps | apply State.setPort_keeps | refine Kept.foldl ?_ ?_ | intro _ | refine KeptP.foldl ?_ ?_ | refine KeptP.of_eq (by assumption) ?_ | dsimp only | split | dsimp only | refine KeptP.fst ?_ | refine KeptP.mk ?_ | fail_if_no_progress (refine Kept.upd ?_ (by rfl) (by intro p hp; cases p <;> first | rfl | exact (Kept.no hm hp (by decide)).elim)))
theorem execBlockLockAcquired_keeps {m : Nat} {r : State} (port : Nat) (s : State) (hm : Nat.land 16384 m = 16384) (h : Kept m r s) : KeptRes m r (execBlockLockAcquired port s) := by
  unfold execBlockLockAcquired
  with_reducible repeat' (first | assumption | exact Kept.sub hm rfl | exact Kept.refl _ _ | refine KeptRes.next ?_ | refine Kept.cond ?_ ?_ | refine KeptRes.cond ?_ ?_ | refine KeptP.cond ?_ ?_ | apply State.setPort_keeps | refine Kept.foldl ?_ ?_ | intro _ | refine KeptP.foldl ?_ ?_ | refine KeptP.of_eq (by assumption) ?_ | dsimp only | split | dsimp only | refine KeptP.fst ?_ | refine KeptP.mk ?_ | fail_if_no_progress (refine Kept.upd ?_ (by rfl) (by intro p hp; cases p <;> first | rfl | exact (Kept.no hm hp (by decide)).elim)))
theorem execLockTimeout_keeps {m : Nat} {r : State} (port : Nat) (s : State) (hm : Nat.land 8341522 m = 8341522) (h : Kept m r s) : KeptRes m r (execLockTimeout port s) := by
  unfold execLockTimeout
  with_reducible repeat' (first | assumption | exact Kept.sub hm rfl | exact Kept.refl _ _ | refine KeptRes.next ?_ | refine Kept.cond ?_ ?_ | refine KeptRes.cond ?_ ?_ | refine KeptP.cond ?_ ?_ | apply State.failAttempt_keeps | refine Kept.foldl ?_ ?_ | intro _ | refine KeptP.foldl ?_ ?_ | refine KeptP.of_eq (by assumption) ?_ | dsimp only | split | dsimp only | refine KeptP.fst ?_ | refine KeptP.mk ?_ | fail_if_no_progress (refine Kept.upd ?_ (by rfl) (by intro p hp; cases p <;> first | rfl | exact (Kept.no hm hp (by decide)).elim)))
theorem execBlockLockLost_keeps {m : Nat} {r : State} (port : Nat) (s : State) (hm : Nat.land 5455890 m = 5455890) (h : Kept m r s) : KeptRes m r (execBlockLockLost port s) := by
  unfold execBlockLockLost
  with_reducible repeat' (first | assumption | exact Kept.sub hm rfl | exact Kept.refl _ _ | refine KeptRes.next ?_ | refine Kept.cond ?_ ?_ | refine KeptRes.cond ?_ ?_ | refine KeptP.cond ?_ ?_ | apply State.retrainPort_keeps | refine Kept.foldl ?_ ?_ | intro _ | refine KeptP.foldl ?_ ?_ | refine KeptP.of_eq (by assumption) ?_ | dsimp only | split | dsimp only | refine KeptP.fst ?_ | refine KeptP.mk ?_ | fail_if_no_progress (refine Kept.upd ?_ (by rfl) (by intro p hp; cases p <;> first | rfl | exact (Kept.no hm hp (by decide)).elim)))
theorem execParam_keeps {m : Nat} {r : State} (port : Nat) (msg : List Byte) (s : State) (hm : Nat.land 8341554 m = 8341554) (h : Kept m r s) : KeptRes m r (execParam port msg s) := by
  unfold execParam
  with_reducible repeat' (first | assumption | exact Kept.sub hm rfl | exact Kept.refl _ _ | refine KeptRes.next ?_ | refine Kept.cond ?_ ?_ | refine KeptRes.cond ?_ ?_ | refine KeptP.cond ?_ ?_ | apply State.failPort_keeps | apply State.setPort_keeps | apply State.setSource_keeps | apply State.takeMsg_keeps | refine Kept.foldl ?_ ?_ | intro _ | refine KeptP.foldl ?_ ?_ | refine KeptP.of_eq (by assumption) ?_ | dsimp only | split | dsimp only | refine KeptP.fst ?_ | refine KeptP.mk ?_ | fail_if_no_progress (refine Kept.upd ?_ (by rfl) (by intro p hp; cases p <;> first | rfl | exact (Kept.no hm hp (by decide)).elim)))
theorem execEcho_keeps {m : Nat} {r : State} (port : Nat) (msg : List Byte) (now : Nat) (hold : Nat) (s : State) (hm : Nat.land 16400 m = 16400) (h : Kept m r s) : KeptRes m r (execEcho port msg now hold s) := by
  unfold execEcho
  with_reducible repeat' (first | assumption | exact Kept.sub hm rfl | exact Kept.refl _ _ | refine KeptRes.next ?_ | refine Kept.cond ?_ ?_ | refine KeptRes.cond ?_ ?_ | refine KeptP.cond ?_ ?_ | apply State.sendBare_keeps | apply State.setPort_keeps | apply State.takeMsg_keeps | refine Kept.foldl ?_ ?_ | intro _ | refine KeptP.foldl ?_ ?_ | refine KeptP.of_eq (by assumption) ?_ | dsimp only | split | dsimp only | refine KeptP.fst ?_ | refine KeptP.mk ?_ | fail_if_no_progress (refine Kept.upd ?_ (by rfl) (by intro p hp; cases p <;> first | rfl | exact (Kept.no hm hp (by decide)).elim)))
theorem execPortActivate_keeps {m : Nat} {r : State} (port : Nat) (s : State) (hm : Nat.land 4210738 m = 4210738) (h : Kept m r s) : KeptRes m r (execPortActivate port s) := by
  unfold execPortActivate
  with_reducible repeat' (first | assumption | exact Kept.sub hm rfl | exact Kept.refl _ _ | refine KeptRes.next ?_ | refine Kept.cond ?_ ?_ | refine KeptRes.cond ?_ ?_ | refine KeptP.cond ?_ ?_ | apply State.activatePort_keeps | apply State.grantOwed_keeps | apply State.raise_keeps | refine Kept.foldl ?_ ?_ | intro _ | refine KeptP.foldl ?_ ?_ | refine KeptP.of_eq (by assumption) ?_ | dsimp only | split | dsimp only | refine KeptP.fst ?_ | refine KeptP.mk ?_ | fail_if_no_progress (refine Kept.upd ?_ (by rfl) (by intro p hp; cases p <;> first | rfl | exact (Kept.no hm hp (by decide)).elim)))
theorem execRetrainComplete_keeps {m : Nat} {r : State} (port : Nat) (s : State) (hm : Nat.land 16400 m = 16400) (h : Kept m r s) : KeptRes m r (execRetrainComplete port s) := by
  unfold execRetrainComplete
  with_reducible repeat' (first | assumption | exact Kept.sub hm rfl | exact Kept.refl _ _ | refine KeptRes.next ?_ | refine Kept.cond ?_ ?_ | refine KeptRes.cond ?_ ?_ | refine KeptP.cond ?_ ?_ | apply State.activatePort_keeps | apply State.setPort_keeps | refine Kept.foldl ?_ ?_ | intro _ | refine KeptP.foldl ?_ ?_ | refine KeptP.of_eq (by assumption) ?_ | dsimp only | split | dsimp only | refine KeptP.fst ?_ | refine KeptP.mk ?_ | fail_if_no_progress (refine Kept.upd ?_ (by rfl) (by intro p hp; cases p <;> first | rfl | exact (Kept.no hm hp (by decide)).elim)))
theorem execRetrainTimeout_keeps {m : Nat} {r : State} (port : Nat) (s : State) (hm : Nat.land 8341522 m = 8341522) (h : Kept m r s) : KeptRes m r (execRetrainTimeout port s) := by
  unfold execRetrainTimeout
  with_reducible repeat' (first | assumption | exact Kept.sub hm rfl | exact Kept.refl _ _ | refine KeptRes.next ?_ | refine Kept.cond ?_ ?_ | refine KeptRes.cond ?_ ?_ | refine KeptP.cond ?_ ?_ | apply State.failPort_keeps | refine Kept.foldl ?_ ?_ | intro _ | refine KeptP.foldl ?_ ?_ | refine KeptP.of_eq (by assumption) ?_ | dsimp only | split | dsimp only | refine KeptP.fst ?_ | refine KeptP.mk ?_ | fail_if_no_progress (refine Kept.upd ?_ (by rfl) (by intro p hp; cases p <;> first | rfl | exact (Kept.no hm hp (by decide)).elim)))
theorem execHxlPortCfgWrite_keeps {m : Nat} {r : State} (src : Nat) (value : Word) (s : State) (hm : Nat.land 4407314 m = 4407314) (h : Kept m r s) : KeptRes m r (execHxlPortCfgWrite src value s) := by
  unfold execHxlPortCfgWrite
  with_reducible repeat' (first | assumption | exact Kept.sub hm rfl | exact Kept.refl _ _ | refine KeptRes.next ?_ | refine Kept.cond ?_ ?_ | refine KeptRes.cond ?_ ?_ | refine KeptP.cond ?_ ?_ | apply State.detectPort_keeps | apply State.portLeaves_keeps | apply State.resendLost_keeps | apply State.setPort_keeps | refine Kept.foldl ?_ ?_ | intro _ | refine KeptP.foldl ?_ ?_ | refine KeptP.of_eq (by assumption) ?_ | dsimp only | split | dsimp only | refine KeptP.fst ?_ | refine KeptP.mk ?_ | fail_if_no_progress (refine Kept.upd ?_ (by rfl) (by intro p hp; cases p <;> first | rfl | exact (Kept.no hm hp (by decide)).elim)))
theorem execHxlPortRetrain_keeps {m : Nat} {r : State} (src : Nat) (s : State) (hm : Nat.land 5455890 m = 5455890) (h : Kept m r s) : KeptRes m r (execHxlPortRetrain src s) := by
  unfold execHxlPortRetrain
  with_reducible repeat' (first | assumption | exact Kept.sub hm rfl | exact Kept.refl _ _ | refine KeptRes.next ?_ | refine Kept.cond ?_ ?_ | refine KeptRes.cond ?_ ?_ | refine KeptP.cond ?_ ?_ | apply State.retrainPort_keeps | refine Kept.foldl ?_ ?_ | intro _ | refine KeptP.foldl ?_ ?_ | refine KeptP.of_eq (by assumption) ?_ | dsimp only | split | dsimp only | refine KeptP.fst ?_ | refine KeptP.mk ?_ | fail_if_no_progress (refine Kept.upd ?_ (by rfl) (by intro p hp; cases p <;> first | rfl | exact (Kept.no hm hp (by decide)).elim)))
theorem execHxlPortReset_keeps {m : Nat} {r : State} (src : Nat) (s : State) (hm : Nat.land 4407314 m = 4407314) (h : Kept m r s) : KeptRes m r (execHxlPortReset src s) := by
  unfold execHxlPortReset
  with_reducible repeat' (first | assumption | exact Kept.sub hm rfl | exact Kept.refl _ _ | refine KeptRes.next ?_ | refine Kept.cond ?_ ?_ | refine KeptRes.cond ?_ ?_ | refine KeptP.cond ?_ ?_ | apply State.detectPort_keeps | apply State.portLeaves_keeps | apply State.resendLost_keeps | apply State.setPort_keeps | refine Kept.foldl ?_ ?_ | intro _ | refine KeptP.foldl ?_ ?_ | refine KeptP.of_eq (by assumption) ?_ | dsimp only | split | dsimp only | refine KeptP.fst ?_ | refine KeptP.mk ?_ | fail_if_no_progress (refine Kept.upd ?_ (by rfl) (by intro p hp; cases p <;> first | rfl | exact (Kept.no hm hp (by decide)).elim)))
theorem State.badFlit_keeps {m : Nat} {r : State} (s : State) (p : Nat) (c : FlitCheck) (enc : Bool) (hm : Nat.land 8341522 m = 8341522) (h : Kept m r s) : Kept m r (State.badFlit s p c enc) := by
  unfold State.badFlit
  with_reducible repeat' (first | assumption | exact Kept.sub hm rfl | exact Kept.refl _ _ | refine KeptRes.next ?_ | refine Kept.cond ?_ ?_ | refine KeptRes.cond ?_ ?_ | refine KeptP.cond ?_ ?_ | apply State.failPort_keeps | apply State.raise_keeps | apply State.setPort_keeps | refine Kept.foldl ?_ ?_ | intro _ | refine KeptP.foldl ?_ ?_ | refine KeptP.of_eq (by assumption) ?_ | dsimp only | split | dsimp only | refine KeptP.fst ?_ | refine KeptP.mk ?_ | fail_if_no_progress (refine Kept.upd ?_ (by rfl) (by intro p hp; cases p <;> first | rfl | exact (Kept.no hm hp (by decide)).elim)))
theorem State.headerActs_keeps {m : Nat} {r : State} (s : State) (p : Nat) (hdr : Nat) (hm : Nat.land 5455890 m = 5455890) (h : Kept m r s) : Kept m r (State.headerActs s p hdr) := by
  unfold State.headerActs
  with_reducible repeat' (first | assumption | exact Kept.sub hm rfl | exact Kept.refl _ _ | refine KeptRes.next ?_ | refine Kept.cond ?_ ?_ | refine KeptRes.cond ?_ ?_ | refine KeptP.cond ?_ ?_ | apply State.corrected_keeps | apply State.retrainPort_keeps | apply State.setPort_keeps | refine Kept.foldl ?_ ?_ | intro _ | refine KeptP.foldl ?_ ?_ | refine KeptP.of_eq (by assumption) ?_ | dsimp only | split | dsimp only | refine KeptP.fst ?_ | refine KeptP.mk ?_ | fail_if_no_progress (refine Kept.upd ?_ (by rfl) (by intro p hp; cases p <;> first | rfl | exact (Kept.no hm hp (by decide)).elim)))
theorem execFlitReceive_keeps {m : Nat} {r : State} (port : Nat) (corrected : Nat) (uncorrectable : Nat) (fecOk : Bool) (crcOk : Bool) (tagOk : Bool) (hdr : Nat) (payload : List Byte) (s : State) (hm : Nat.land 8341522 m = 8341522) (h : Kept m r s) : KeptRes m r (execFlitReceive port corrected uncorrectable fecOk crcOk tagOk hdr payload s) := by
  unfold execFlitReceive
  with_reducible repeat' (first | assumption | exact Kept.sub hm rfl | exact Kept.refl _ _ | refine KeptRes.next ?_ | refine Kept.cond ?_ ?_ | refine KeptRes.cond ?_ ?_ | refine KeptP.cond ?_ ?_ | apply State.badFlit_keeps | apply State.deliver_keeps | apply State.headerActs_keeps | apply State.setPort_keeps | refine Kept.foldl ?_ ?_ | intro _ | refine KeptP.foldl ?_ ?_ | refine KeptP.of_eq (by assumption) ?_ | dsimp only | split | dsimp only | refine KeptP.fst ?_ | refine KeptP.mk ?_ | fail_if_no_progress (refine Kept.upd ?_ (by rfl) (by intro p hp; cases p <;> first | rfl | exact (Kept.no hm hp (by decide)).elim)))
theorem execNakRepeat_keeps {m : Nat} {r : State} (port : Nat) (s : State) (hm : Nat.land 16400 m = 16400) (h : Kept m r s) : KeptRes m r (execNakRepeat port s) := by
  unfold execNakRepeat
  with_reducible repeat' (first | assumption | exact Kept.sub hm rfl | exact Kept.refl _ _ | refine KeptRes.next ?_ | refine Kept.cond ?_ ?_ | refine KeptRes.cond ?_ ?_ | refine KeptP.cond ?_ ?_ | apply State.sendBare_keeps | refine Kept.foldl ?_ ?_ | intro _ | refine KeptP.foldl ?_ ?_ | refine KeptP.of_eq (by assumption) ?_ | dsimp only | split | dsimp only | refine KeptP.fst ?_ | refine KeptP.mk ?_ | fail_if_no_progress (refine Kept.upd ?_ (by rfl) (by intro p hp; cases p <;> first | rfl | exact (Kept.no hm hp (by decide)).elim)))
theorem execAckTimeout_keeps {m : Nat} {r : State} (port : Nat) (s : State) (hm : Nat.land 5455890 m = 5455890) (h : Kept m r s) : KeptRes m r (execAckTimeout port s) := by
  unfold execAckTimeout
  with_reducible repeat' (first | assumption | exact Kept.sub hm rfl | exact Kept.refl _ _ | refine KeptRes.next ?_ | refine Kept.cond ?_ ?_ | refine KeptRes.cond ?_ ?_ | refine KeptP.cond ?_ ?_ | apply State.retrainPort_keeps | refine Kept.foldl ?_ ?_ | intro _ | refine KeptP.foldl ?_ ?_ | refine KeptP.of_eq (by assumption) ?_ | dsimp only | split | dsimp only | refine KeptP.fst ?_ | refine KeptP.mk ?_ | fail_if_no_progress (refine Kept.upd ?_ (by rfl) (by intro p hp; cases p <;> first | rfl | exact (Kept.no hm hp (by decide)).elim)))
theorem execRekey_keeps {m : Nat} {r : State} (port : Nat) (s : State) (hm : Nat.land 16384 m = 16384) (h : Kept m r s) : KeptRes m r (execRekey port s) := by
  unfold execRekey
  with_reducible repeat' (first | assumption | exact Kept.sub hm rfl | exact Kept.refl _ _ | refine KeptRes.next ?_ | refine Kept.cond ?_ ?_ | refine KeptRes.cond ?_ ?_ | refine KeptP.cond ?_ ?_ | apply State.setPort_keeps | refine Kept.foldl ?_ ?_ | intro _ | refine KeptP.foldl ?_ ?_ | refine KeptP.of_eq (by assumption) ?_ | dsimp only | split | dsimp only | refine KeptP.fst ?_ | refine KeptP.mk ?_ | fail_if_no_progress (refine Kept.upd ?_ (by rfl) (by intro p hp; cases p <;> first | rfl | exact (Kept.no hm hp (by decide)).elim)))
theorem execNoRouteExpiry_keeps {m : Nat} {r : State} (id : Nat) (s : State) (hm : Nat.land 4210834 m = 4210834) (h : Kept m r s) : KeptRes m r (execNoRouteExpiry id s) := by
  unfold execNoRouteExpiry
  with_reducible repeat' (first | assumption | exact Kept.sub hm rfl | exact Kept.refl _ _ | refine KeptRes.next ?_ | refine Kept.cond ?_ ?_ | refine KeptRes.cond ?_ ?_ | refine KeptP.cond ?_ ?_ | apply State.count_keeps | apply State.raise_keeps | apply State.sendEndpoint_keeps | apply State.sendMember_keeps | apply State.setPort_keeps | refine Kept.foldl ?_ ?_ | intro _ | refine KeptP.foldl ?_ ?_ | refine KeptP.of_eq (by assumption) ?_ | dsimp only | split | dsimp only | refine KeptP.fst ?_ | refine KeptP.mk ?_ | fail_if_no_progress (refine Kept.upd ?_ (by rfl) (by intro p hp; cases p <;> first | rfl | exact (Kept.no hm hp (by decide)).elim)))
theorem execRouteDrainEnd_keeps {m : Nat} {r : State} (member : Nat) (s : State) (hm : Nat.land 4210706 m = 4210706) (h : Kept m r s) : KeptRes m r (execRouteDrainEnd member s) := by
  unfold execRouteDrainEnd
  with_reducible repeat' (first | assumption | exact Kept.sub hm rfl | exact Kept.refl _ _ | refine KeptRes.next ?_ | refine Kept.cond ?_ ?_ | refine KeptRes.cond ?_ ?_ | refine KeptP.cond ?_ ?_ | apply State.raise_keeps | apply State.sendMember_keeps | apply State.setRoute_keeps | refine Kept.foldl ?_ ?_ | intro _ | refine KeptP.foldl ?_ ?_ | refine KeptP.of_eq (by assumption) ?_ | dsimp only | split | dsimp only | refine KeptP.fst ?_ | refine KeptP.mk ?_ | fail_if_no_progress (refine Kept.upd ?_ (by rfl) (by intro p hp; cases p <;> first | rfl | exact (Kept.no hm hp (by decide)).elim)))
theorem execHxlRouteWrite_keeps {m : Nat} {r : State} (src : Nat) (value : Word) (s : State) (hm : Nat.land 16400 m = 16400) (h : Kept m r s) : KeptRes m r (execHxlRouteWrite src value s) := by
  unfold execHxlRouteWrite
  with_reducible repeat' (first | assumption | exact Kept.sub hm rfl | exact Kept.refl _ _ | refine KeptRes.next ?_ | refine Kept.cond ?_ ?_ | refine KeptRes.cond ?_ ?_ | refine KeptP.cond ?_ ?_ | apply State.retryWaiting_keeps | apply State.setRoute_keeps | refine Kept.foldl ?_ ?_ | intro _ | refine KeptP.foldl ?_ ?_ | refine KeptP.of_eq (by assumption) ?_ | dsimp only | split | dsimp only | refine KeptP.fst ?_ | refine KeptP.mk ?_ | fail_if_no_progress (refine Kept.upd ?_ (by rfl) (by intro p hp; cases p <;> first | rfl | exact (Kept.no hm hp (by decide)).elim)))
theorem State.startInvocation_keeps {m : Nat} {r : State} (s : State) (c : Nat) (hm : Nat.land 16648986 m = 16648986) (h : Kept m r s) : Kept m r (State.startInvocation s c) := by
  unfold State.startInvocation
  with_reducible repeat' (first | assumption | exact Kept.sub hm rfl | exact Kept.refl _ _ | refine KeptRes.next ?_ | refine Kept.cond ?_ ?_ | refine KeptRes.cond ?_ ?_ | refine KeptP.cond ?_ ?_ | apply State.placeWaiting_keeps | apply State.pulse_keeps | apply State.recipeFault_keeps | apply State.setEdge_keeps | refine Kept.foldl ?_ ?_ | intro _ | refine KeptP.foldl ?_ ?_ | refine KeptP.of_eq (by assumption) ?_ | dsimp only | split | dsimp only | refine KeptP.fst ?_ | refine KeptP.mk ?_ | fail_if_no_progress (refine Kept.upd ?_ (by rfl) (by intro p hp; cases p <;> first | rfl | exact (Kept.no hm hp (by decide)).elim)))
theorem execInvocationStart_keeps {m : Nat} {r : State} (core : Nat) (s : State) (hm : Nat.land 16648986 m = 16648986) (h : Kept m r s) : KeptRes m r (execInvocationStart core s) := by
  unfold execInvocationStart
  with_reducible repeat' (first | assumption | exact Kept.sub hm rfl | exact Kept.refl _ _ | refine KeptRes.next ?_ | refine Kept.cond ?_ ?_ | refine KeptRes.cond ?_ ?_ | refine KeptP.cond ?_ ?_ | apply State.startInvocation_keeps | refine Kept.foldl ?_ ?_ | intro _ | refine KeptP.foldl ?_ ?_ | refine KeptP.of_eq (by assumption) ?_ | dsimp only | split | dsimp only | refine KeptP.fst ?_ | refine KeptP.mk ?_ | fail_if_no_progress (refine Kept.upd ?_ (by rfl) (by intro p hp; cases p <;> first | rfl | exact (Kept.no hm hp (by decide)).elim)))
theorem execRecipeNop_keeps {m : Nat} {r : State} (core : Nat) (s : State) (hm : Nat.land 512 m = 512) (h : Kept m r s) : KeptRes m r (execRecipeNop core s) := by
  unfold execRecipeNop
  with_reducible repeat' (first | assumption | exact Kept.sub hm rfl | exact Kept.refl _ _ | refine KeptRes.next ?_ | refine Kept.cond ?_ ?_ | refine KeptRes.cond ?_ ?_ | refine KeptP.cond ?_ ?_ | apply State.goStep_keeps | refine Kept.foldl ?_ ?_ | intro _ | refine KeptP.foldl ?_ ?_ | refine KeptP.of_eq (by assumption) ?_ | dsimp only | split | dsimp only | refine KeptP.fst ?_ | refine KeptP.mk ?_ | fail_if_no_progress (refine Kept.upd ?_ (by rfl) (by intro p hp; cases p <;> first | rfl | exact (Kept.no hm hp (by decide)).elim)))
theorem execRecipeLoad_keeps {m : Nat} {r : State} (core : Nat) (s : State) (hm : Nat.land 16648986 m = 16648986) (h : Kept m r s) : KeptRes m r (execRecipeLoad core s) := by
  unfold execRecipeLoad
  with_reducible repeat' (first | assumption | exact Kept.sub hm rfl | exact Kept.refl _ _ | refine KeptRes.next ?_ | refine Kept.cond ?_ ?_ | refine KeptRes.cond ?_ ?_ | refine KeptP.cond ?_ ?_ | apply State.readAndIssue_keeps | refine Kept.foldl ?_ ?_ | intro _ | refine KeptP.foldl ?_ ?_ | refine KeptP.of_eq (by assumption) ?_ | dsimp only | split | dsimp only | refine KeptP.fst ?_ | refine KeptP.mk ?_ | fail_if_no_progress (refine Kept.upd ?_ (by rfl) (by intro p hp; cases p <;> first | rfl | exact (Kept.no hm hp (by decide)).elim)))
theorem execRecipeStore_keeps {m : Nat} {r : State} (core : Nat) (s : State) (hm : Nat.land 16648986 m = 16648986) (h : Kept m r s) : KeptRes m r (execRecipeStore core s) := by
  unfold execRecipeStore
  with_reducible repeat' (first | assumption | exact Kept.sub hm rfl | exact Kept.refl _ _ | refine KeptRes.next ?_ | refine Kept.cond ?_ ?_ | refine KeptRes.cond ?_ ?_ | refine KeptP.cond ?_ ?_ | apply State.readAndIssue_keeps | refine Kept.foldl ?_ ?_ | intro _ | refine KeptP.foldl ?_ ?_ | refine KeptP.of_eq (by assumption) ?_ | dsimp only | split | dsimp only | refine KeptP.fst ?_ | refine KeptP.mk ?_ | fail_if_no_progress (refine Kept.upd ?_ (by rfl) (by intro p hp; cases p <;> first | rfl | exact (Kept.no hm hp (by decide)).elim)))
theorem execRecipeGather_keeps {m : Nat} {r : State} (core : Nat) (s : State) (hm : Nat.land 16648986 m = 16648986) (h : Kept m r s) : KeptRes m r (execRecipeGather core s) := by
  unfold execRecipeGather
  with_reducible repeat' (first | assumption | exact Kept.sub hm rfl | exact Kept.refl _ _ | refine KeptRes.next ?_ | refine Kept.cond ?_ ?_ | refine KeptRes.cond ?_ ?_ | refine KeptP.cond ?_ ?_ | apply State.readAndIssue_keeps | refine Kept.foldl ?_ ?_ | intro _ | refine KeptP.foldl ?_ ?_ | refine KeptP.of_eq (by assumption) ?_ | dsimp only | split | dsimp only | refine KeptP.fst ?_ | refine KeptP.mk ?_ | fail_if_no_progress (refine Kept.upd ?_ (by rfl) (by intro p hp; cases p <;> first | rfl | exact (Kept.no hm hp (by decide)).elim)))
theorem execRecipeScatter_keeps {m : Nat} {r : State} (core : Nat) (s : State) (hm : Nat.land 16648986 m = 16648986) (h : Kept m r s) : KeptRes m r (execRecipeScatter core s) := by
  unfold execRecipeScatter
  with_reducible repeat' (first | assumption | exact Kept.sub hm rfl | exact Kept.refl _ _ | refine KeptRes.next ?_ | refine Kept.cond ?_ ?_ | refine KeptRes.cond ?_ ?_ | refine KeptP.cond ?_ ?_ | apply State.readAndIssue_keeps | refine Kept.foldl ?_ ?_ | intro _ | refine KeptP.foldl ?_ ?_ | refine KeptP.of_eq (by assumption) ?_ | dsimp only | split | dsimp only | refine KeptP.fst ?_ | refine KeptP.mk ?_ | fail_if_no_progress (refine Kept.upd ?_ (by rfl) (by intro p hp; cases p <;> first | rfl | exact (Kept.no hm hp (by decide)).elim)))
theorem execAtomicAdd_keeps {m : Nat} {r : State} (core : Nat) (s : State) (hm : Nat.land 16648986 m = 16648986) (h : Kept m r s) : KeptRes m r (execAtomicAdd core s) := by
  unfold execAtomicAdd
  with_reducible repeat' (first | assumption | exact Kept.sub hm rfl | exact Kept.refl _ _ | refine KeptRes.next ?_ | refine Kept.cond ?_ ?_ | refine KeptRes.cond ?_ ?_ | refine KeptP.cond ?_ ?_ | apply State.readAndIssue_keeps | refine Kept.foldl ?_ ?_ | intro _ | refine KeptP.foldl ?_ ?_ | refine KeptP.of_eq (by assumption) ?_ | dsimp only | split | dsimp only | refine KeptP.fst ?_ | refine KeptP.mk ?_ | fail_if_no_progress (refine Kept.upd ?_ (by rfl) (by intro p hp; cases p <;> first | rfl | exact (Kept.no hm hp (by decide)).elim)))
theorem execLoop_keeps {m : Nat} {r : State} (core : Nat) (s : State) (hm : Nat.land 512 m = 512) (h : Kept m r s) : KeptRes m r (execLoop core s) := by
  unfold execLoop
  with_reducible repeat' (first | assumption | exact Kept.sub hm rfl | exact Kept.refl _ _ | refine KeptRes.next ?_ | refine Kept.cond ?_ ?_ | refine KeptRes.cond ?_ ?_ | refine KeptP.cond ?_ ?_ | apply State.enterLoop_keeps | refine Kept.foldl ?_ ?_ | intro _ | refine KeptP.foldl ?_ ?_ | refine KeptP.of_eq (by assumption) ?_ | dsimp only | split | dsimp only | refine KeptP.fst ?_ | refine KeptP.mk ?_ | fail_if_no_progress (refine Kept.upd ?_ (by rfl) (by intro p hp; cases p <;> first | rfl | exact (Kept.no hm hp (by decide)).elim)))
theorem execEndloop_keeps {m : Nat} {r : State} (core : Nat) (s : State) (hm : Nat.land 512 m = 512) (h : Kept m r s) : KeptRes m r (execEndloop core s) := by
  unfold execEndloop
  with_reducible repeat' (first | assumption | exact Kept.sub hm rfl | exact Kept.refl _ _ | refine KeptRes.next ?_ | refine Kept.cond ?_ ?_ | refine KeptRes.cond ?_ ?_ | refine KeptP.cond ?_ ?_ | apply State.closeLoop_keeps | refine Kept.foldl ?_ ?_ | intro _ | refine KeptP.foldl ?_ ?_ | refine KeptP.of_eq (by assumption) ?_ | dsimp only | split | dsimp only | refine KeptP.fst ?_ | refine KeptP.mk ?_ | fail_if_no_progress (refine Kept.upd ?_ (by rfl) (by intro p hp; cases p <;> first | rfl | exact (Kept.no hm hp (by decide)).elim)))
theorem execSignal_keeps {m : Nat} {r : State} (core : Nat) (s : State) (hm : Nat.land 16714522 m = 16714522) (h : Kept m r s) : KeptRes m r (execSignal core s) := by
  unfold execSignal
  with_reducible repeat' (first | assumption | exact Kept.sub hm rfl | exact Kept.refl _ _ | refine KeptRes.next ?_ | refine Kept.cond ?_ ?_ | refine KeptRes.cond ?_ ?_ | refine KeptP.cond ?_ ?_ | apply State.recipeFault_keeps | apply State.sendItem_keeps | apply State.setRun_keeps | apply State.signalGate_keeps | apply State.signalled_keeps | refine Kept.foldl ?_ ?_ | intro _ | refine KeptP.foldl ?_ ?_ | refine KeptP.of_eq (by assumption) ?_ | dsimp only | split | dsimp only | refine KeptP.fst ?_ | refine KeptP.mk ?_ | fail_if_no_progress (refine Kept.upd ?_ (by rfl) (by intro p hp; cases p <;> first | rfl | exact (Kept.no hm hp (by decide)).elim)))
theorem execFlags_keeps {m : Nat} {r : State} (core : Nat) (s : State) (hm : Nat.land 512 m = 512) (h : Kept m r s) : KeptRes m r (execFlags core s) := by
  unfold execFlags
  with_reducible repeat' (first | assumption | exact Kept.sub hm rfl | exact Kept.refl _ _ | refine KeptRes.next ?_ | refine Kept.cond ?_ ?_ | refine KeptRes.cond ?_ ?_ | refine KeptP.cond ?_ ?_ | apply State.goStep_keeps | apply State.pokePocket_keeps | refine Kept.foldl ?_ ?_ | intro _ | refine KeptP.foldl ?_ ?_ | refine KeptP.of_eq (by assumption) ?_ | dsimp only | split | dsimp only | refine KeptP.fst ?_ | refine KeptP.mk ?_ | fail_if_no_progress (refine Kept.upd ?_ (by rfl) (by intro p hp; cases p <;> first | rfl | exact (Kept.no hm hp (by decide)).elim)))
theorem execRecipeEnd_keeps {m : Nat} {r : State} (core : Nat) (s : State) (hm : Nat.land 16648986 m = 16648986) (h : Kept m r s) : KeptRes m r (execRecipeEnd core s) := by
  unfold execRecipeEnd
  with_reducible repeat' (first | assumption | exact Kept.sub hm rfl | exact Kept.refl _ _ | refine KeptRes.next ?_ | refine Kept.cond ?_ ?_ | refine KeptRes.cond ?_ ?_ | refine KeptP.cond ?_ ?_ | apply State.endInvocation_keeps | apply State.setEdge_keeps | refine Kept.foldl ?_ ?_ | intro _ | refine KeptP.foldl ?_ ?_ | refine KeptP.of_eq (by assumption) ?_ | dsimp only | split | dsimp only | refine KeptP.fst ?_ | refine KeptP.mk ?_ | fail_if_no_progress (refine Kept.upd ?_ (by rfl) (by intro p hp; cases p <;> first | rfl | exact (Kept.no hm hp (by decide)).elim)))
theorem State.engineStep_keeps {m : Nat} {r : State} (s : State) (core : Nat) (op : Nat) (hm : Nat.land 16648986 m = 16648986) (h : Kept m r s) : Kept m r (State.engineStep s core op) := by
  unfold State.engineStep
  with_reducible repeat' (first | assumption | exact Kept.sub hm rfl | exact Kept.refl _ _ | refine KeptRes.next ?_ | refine Kept.cond ?_ ?_ | refine KeptRes.cond ?_ ?_ | refine KeptP.cond ?_ ?_ | apply State.pocketCheck_keeps | apply State.runEngine_keeps | refine Kept.foldl ?_ ?_ | intro _ | refine KeptP.foldl ?_ ?_ | refine KeptP.of_eq (by assumption) ?_ | dsimp only | split | dsimp only | refine KeptP.fst ?_ | refine KeptP.mk ?_ | fail_if_no_progress (refine Kept.upd ?_ (by rfl) (by intro p hp; cases p <;> first | rfl | exact (Kept.no hm hp (by decide)).elim)))
theorem execCopy_keeps {m : Nat} {r : State} (core : Nat) (s : State) (hm : Nat.land 16648986 m = 16648986) (h : Kept m r s) : KeptRes m r (execCopy core s) := by
  unfold execCopy
  with_reducible repeat' (first | assumption | exact Kept.sub hm rfl | exact Kept.refl _ _ | refine KeptRes.next ?_ | refine Kept.cond ?_ ?_ | refine KeptRes.cond ?_ ?_ | refine KeptP.cond ?_ ?_ | apply State.engineStep_keeps | refine Kept.foldl ?_ ?_ | intro _ | refine KeptP.foldl ?_ ?_ | refine KeptP.of_eq (by assumption) ?_ | dsimp only | split | dsimp only | refine KeptP.fst ?_ | refine KeptP.mk ?_ | fail_if_no_progress (refine Kept.upd ?_ (by rfl) (by intro p hp; cases p <;> first | rfl | exact (Kept.no hm hp (by decide)).elim)))
theorem execAdd_keeps {m : Nat} {r : State} (core : Nat) (s : State) (hm : Nat.land 16648986 m = 16648986) (h : Kept m r s) : KeptRes m r (execAdd core s) := by
  unfold execAdd
  with_reducible repeat' (first | assumption | exact Kept.sub hm rfl | exact Kept.refl _ _ | refine KeptRes.next ?_ | refine Kept.cond ?_ ?_ | refine KeptRes.cond ?_ ?_ | refine KeptP.cond ?_ ?_ | apply State.engineStep_keeps | refine Kept.foldl ?_ ?_ | intro _ | refine KeptP.foldl ?_ ?_ | refine KeptP.of_eq (by assumption) ?_ | dsimp only | split | dsimp only | refine KeptP.fst ?_ | refine KeptP.mk ?_ | fail_if_no_progress (refine Kept.upd ?_ (by rfl) (by intro p hp; cases p <;> first | rfl | exact (Kept.no hm hp (by decide)).elim)))
theorem execSub_keeps {m : Nat} {r : State} (core : Nat) (s : State) (hm : Nat.land 16648986 m = 16648986) (h : Kept m r s) : KeptRes m r (execSub core s) := by
  unfold execSub
  with_reducible repeat' (first | assumption | exact Kept.sub hm rfl | exact Kept.refl _ _ | refine KeptRes.next ?_ | refine Kept.cond ?_ ?_ | refine KeptRes.cond ?_ ?_ | refine KeptP.cond ?_ ?_ | apply State.engineStep_keeps | refine Kept.foldl ?_ ?_ | intro _ | refine KeptP.foldl ?_ ?_ | refine KeptP.of_eq (by assumption) ?_ | dsimp only | split | dsimp only | refine KeptP.fst ?_ | refine KeptP.mk ?_ | fail_if_no_progress (refine Kept.upd ?_ (by rfl) (by intro p hp; cases p <;> first | rfl | exact (Kept.no hm hp (by decide)).elim)))
theorem execMul_keeps {m : Nat} {r : State} (core : Nat) (s : State) (hm : Nat.land 16648986 m = 16648986) (h : Kept m r s) : KeptRes m r (execMul core s) := by
  unfold execMul
  with_reducible repeat' (first | assumption | exact Kept.sub hm rfl | exact Kept.refl _ _ | refine KeptRes.next ?_ | refine Kept.cond ?_ ?_ | refine KeptRes.cond ?_ ?_ | refine KeptP.cond ?_ ?_ | apply State.engineStep_keeps | refine Kept.foldl ?_ ?_ | intro _ | refine KeptP.foldl ?_ ?_ | refine KeptP.of_eq (by assumption) ?_ | dsimp only | split | dsimp only | refine KeptP.fst ?_ | refine KeptP.mk ?_ | fail_if_no_progress (refine Kept.upd ?_ (by rfl) (by intro p hp; cases p <;> first | rfl | exact (Kept.no hm hp (by decide)).elim)))
theorem execMuladd_keeps {m : Nat} {r : State} (core : Nat) (s : State) (hm : Nat.land 16648986 m = 16648986) (h : Kept m r s) : KeptRes m r (execMuladd core s) := by
  unfold execMuladd
  with_reducible repeat' (first | assumption | exact Kept.sub hm rfl | exact Kept.refl _ _ | refine KeptRes.next ?_ | refine Kept.cond ?_ ?_ | refine KeptRes.cond ?_ ?_ | refine KeptP.cond ?_ ?_ | apply State.engineStep_keeps | refine Kept.foldl ?_ ?_ | intro _ | refine KeptP.foldl ?_ ?_ | refine KeptP.of_eq (by assumption) ?_ | dsimp only | split | dsimp only | refine KeptP.fst ?_ | refine KeptP.mk ?_ | fail_if_no_progress (refine Kept.upd ?_ (by rfl) (by intro p hp; cases p <;> first | rfl | exact (Kept.no hm hp (by decide)).elim)))
theorem execMax_keeps {m : Nat} {r : State} (core : Nat) (s : State) (hm : Nat.land 16648986 m = 16648986) (h : Kept m r s) : KeptRes m r (execMax core s) := by
  unfold execMax
  with_reducible repeat' (first | assumption | exact Kept.sub hm rfl | exact Kept.refl _ _ | refine KeptRes.next ?_ | refine Kept.cond ?_ ?_ | refine KeptRes.cond ?_ ?_ | refine KeptP.cond ?_ ?_ | apply State.engineStep_keeps | refine Kept.foldl ?_ ?_ | intro _ | refine KeptP.foldl ?_ ?_ | refine KeptP.of_eq (by assumption) ?_ | dsimp only | split | dsimp only | refine KeptP.fst ?_ | refine KeptP.mk ?_ | fail_if_no_progress (refine Kept.upd ?_ (by rfl) (by intro p hp; cases p <;> first | rfl | exact (Kept.no hm hp (by decide)).elim)))
theorem execMin_keeps {m : Nat} {r : State} (core : Nat) (s : State) (hm : Nat.land 16648986 m = 16648986) (h : Kept m r s) : KeptRes m r (execMin core s) := by
  unfold execMin
  with_reducible repeat' (first | assumption | exact Kept.sub hm rfl | exact Kept.refl _ _ | refine KeptRes.next ?_ | refine Kept.cond ?_ ?_ | refine KeptRes.cond ?_ ?_ | refine KeptP.cond ?_ ?_ | apply State.engineStep_keeps | refine Kept.foldl ?_ ?_ | intro _ | refine KeptP.foldl ?_ ?_ | refine KeptP.of_eq (by assumption) ?_ | dsimp only | split | dsimp only | refine KeptP.fst ?_ | refine KeptP.mk ?_ | fail_if_no_progress (refine Kept.upd ?_ (by rfl) (by intro p hp; cases p <;> first | rfl | exact (Kept.no hm hp (by decide)).elim)))
theorem execAbs_keeps {m : Nat} {r : State} (core : Nat) (s : State) (hm : Nat.land 16648986 m = 16648986) (h : Kept m r s) : KeptRes m r (execAbs core s) := by
  unfold execAbs
  with_reducible repeat' (first | assumption | exact Kept.sub hm rfl | exact Kept.refl _ _ | refine KeptRes.next ?_ | refine Kept.cond ?_ ?_ | refine KeptRes.cond ?_ ?_ | refine KeptP.cond ?_ ?_ | apply State.engineStep_keeps | refine Kept.foldl ?_ ?_ | intro _ | refine KeptP.foldl ?_ ?_ | refine KeptP.of_eq (by assumption) ?_ | dsimp only | split | dsimp only | refine KeptP.fst ?_ | refine KeptP.mk ?_ | fail_if_no_progress (refine Kept.upd ?_ (by rfl) (by intro p hp; cases p <;> first | rfl | exact (Kept.no hm hp (by decide)).elim)))
theorem execDiv_keeps {m : Nat} {r : State} (core : Nat) (s : State) (hm : Nat.land 16648986 m = 16648986) (h : Kept m r s) : KeptRes m r (execDiv core s) := by
  unfold execDiv
  with_reducible repeat' (first | assumption | exact Kept.sub hm rfl | exact Kept.refl _ _ | refine KeptRes.next ?_ | refine Kept.cond ?_ ?_ | refine KeptRes.cond ?_ ?_ | refine KeptP.cond ?_ ?_ | apply State.engineStep_keeps | refine Kept.foldl ?_ ?_ | intro _ | refine KeptP.foldl ?_ ?_ | refine KeptP.of_eq (by assumption) ?_ | dsimp only | split | dsimp only | refine KeptP.fst ?_ | refine KeptP.mk ?_ | fail_if_no_progress (refine Kept.upd ?_ (by rfl) (by intro p hp; cases p <;> first | rfl | exact (Kept.no hm hp (by decide)).elim)))
theorem execSqrt_keeps {m : Nat} {r : State} (core : Nat) (s : State) (hm : Nat.land 16648986 m = 16648986) (h : Kept m r s) : KeptRes m r (execSqrt core s) := by
  unfold execSqrt
  with_reducible repeat' (first | assumption | exact Kept.sub hm rfl | exact Kept.refl _ _ | refine KeptRes.next ?_ | refine Kept.cond ?_ ?_ | refine KeptRes.cond ?_ ?_ | refine KeptP.cond ?_ ?_ | apply State.engineStep_keeps | refine Kept.foldl ?_ ?_ | intro _ | refine KeptP.foldl ?_ ?_ | refine KeptP.of_eq (by assumption) ?_ | dsimp only | split | dsimp only | refine KeptP.fst ?_ | refine KeptP.mk ?_ | fail_if_no_progress (refine Kept.upd ?_ (by rfl) (by intro p hp; cases p <;> first | rfl | exact (Kept.no hm hp (by decide)).elim)))
theorem execCmplt_keeps {m : Nat} {r : State} (core : Nat) (s : State) (hm : Nat.land 16648986 m = 16648986) (h : Kept m r s) : KeptRes m r (execCmplt core s) := by
  unfold execCmplt
  with_reducible repeat' (first | assumption | exact Kept.sub hm rfl | exact Kept.refl _ _ | refine KeptRes.next ?_ | refine Kept.cond ?_ ?_ | refine KeptRes.cond ?_ ?_ | refine KeptP.cond ?_ ?_ | apply State.engineStep_keeps | refine Kept.foldl ?_ ?_ | intro _ | refine KeptP.foldl ?_ ?_ | refine KeptP.of_eq (by assumption) ?_ | dsimp only | split | dsimp only | refine KeptP.fst ?_ | refine KeptP.mk ?_ | fail_if_no_progress (refine Kept.upd ?_ (by rfl) (by intro p hp; cases p <;> first | rfl | exact (Kept.no hm hp (by decide)).elim)))
theorem execSelect_keeps {m : Nat} {r : State} (core : Nat) (s : State) (hm : Nat.land 16648986 m = 16648986) (h : Kept m r s) : KeptRes m r (execSelect core s) := by
  unfold execSelect
  with_reducible repeat' (first | assumption | exact Kept.sub hm rfl | exact Kept.refl _ _ | refine KeptRes.next ?_ | refine Kept.cond ?_ ?_ | refine KeptRes.cond ?_ ?_ | refine KeptP.cond ?_ ?_ | apply State.engineStep_keeps | refine Kept.foldl ?_ ?_ | intro _ | refine KeptP.foldl ?_ ?_ | refine KeptP.of_eq (by assumption) ?_ | dsimp only | split | dsimp only | refine KeptP.fst ?_ | refine KeptP.mk ?_ | fail_if_no_progress (refine Kept.upd ?_ (by rfl) (by intro p hp; cases p <;> first | rfl | exact (Kept.no hm hp (by decide)).elim)))
theorem execDot_keeps {m : Nat} {r : State} (core : Nat) (s : State) (hm : Nat.land 16648986 m = 16648986) (h : Kept m r s) : KeptRes m r (execDot core s) := by
  unfold execDot
  with_reducible repeat' (first | assumption | exact Kept.sub hm rfl | exact Kept.refl _ _ | refine KeptRes.next ?_ | refine Kept.cond ?_ ?_ | refine KeptRes.cond ?_ ?_ | refine KeptP.cond ?_ ?_ | apply State.engineStep_keeps | refine Kept.foldl ?_ ?_ | intro _ | refine KeptP.foldl ?_ ?_ | refine KeptP.of_eq (by assumption) ?_ | dsimp only | split | dsimp only | refine KeptP.fst ?_ | refine KeptP.mk ?_ | fail_if_no_progress (refine Kept.upd ?_ (by rfl) (by intro p hp; cases p <;> first | rfl | exact (Kept.no hm hp (by decide)).elim)))
theorem execL2sq_keeps {m : Nat} {r : State} (core : Nat) (s : State) (hm : Nat.land 16648986 m = 16648986) (h : Kept m r s) : KeptRes m r (execL2sq core s) := by
  unfold execL2sq
  with_reducible repeat' (first | assumption | exact Kept.sub hm rfl | exact Kept.refl _ _ | refine KeptRes.next ?_ | refine Kept.cond ?_ ?_ | refine KeptRes.cond ?_ ?_ | refine KeptP.cond ?_ ?_ | apply State.engineStep_keeps | refine Kept.foldl ?_ ?_ | intro _ | refine KeptP.foldl ?_ ?_ | refine KeptP.of_eq (by assumption) ?_ | dsimp only | split | dsimp only | refine KeptP.fst ?_ | refine KeptP.mk ?_ | fail_if_no_progress (refine Kept.upd ?_ (by rfl) (by intro p hp; cases p <;> first | rfl | exact (Kept.no hm hp (by decide)).elim)))
theorem execReduce_keeps {m : Nat} {r : State} (core : Nat) (s : State) (hm : Nat.land 16648986 m = 16648986) (h : Kept m r s) : KeptRes m r (execReduce core s) := by
  unfold execReduce
  with_reducible repeat' (first | assumption | exact Kept.sub hm rfl | exact Kept.refl _ _ | refine KeptRes.next ?_ | refine Kept.cond ?_ ?_ | refine KeptRes.cond ?_ ?_ | refine KeptP.cond ?_ ?_ | apply State.engineStep_keeps | refine Kept.foldl ?_ ?_ | intro _ | refine KeptP.foldl ?_ ?_ | refine KeptP.of_eq (by assumption) ?_ | dsimp only | split | dsimp only | refine KeptP.fst ?_ | refine KeptP.mk ?_ | fail_if_no_progress (refine Kept.upd ?_ (by rfl) (by intro p hp; cases p <;> first | rfl | exact (Kept.no hm hp (by decide)).elim)))
theorem execHash_keeps {m : Nat} {r : State} (core : Nat) (s : State) (hm : Nat.land 16648986 m = 16648986) (h : Kept m r s) : KeptRes m r (execHash core s) := by
  unfold execHash
  with_reducible repeat' (first | assumption | exact Kept.sub hm rfl | exact Kept.refl _ _ | refine KeptRes.next ?_ | refine Kept.cond ?_ ?_ | refine KeptRes.cond ?_ ?_ | refine KeptP.cond ?_ ?_ | apply State.pocketCheck_keeps | apply State.runHash_keeps | refine Kept.foldl ?_ ?_ | intro _ | refine KeptP.foldl ?_ ?_ | refine KeptP.of_eq (by assumption) ?_ | dsimp only | split | dsimp only | refine KeptP.fst ?_ | refine KeptP.mk ?_ | fail_if_no_progress (refine Kept.upd ?_ (by rfl) (by intro p hp; cases p <;> first | rfl | exact (Kept.no hm hp (by decide)).elim)))
theorem execTopk_keeps {m : Nat} {r : State} (core : Nat) (s : State) (hm : Nat.land 16648986 m = 16648986) (h : Kept m r s) : KeptRes m r (execTopk core s) := by
  unfold execTopk
  with_reducible repeat' (first | assumption | exact Kept.sub hm rfl | exact Kept.refl _ _ | refine KeptRes.next ?_ | refine Kept.cond ?_ ?_ | refine KeptRes.cond ?_ ?_ | refine KeptP.cond ?_ ?_ | apply State.pocketCheck_keeps | apply State.runTopk_keeps | refine Kept.foldl ?_ ?_ | intro _ | refine KeptP.foldl ?_ ?_ | refine KeptP.of_eq (by assumption) ?_ | dsimp only | split | dsimp only | refine KeptP.fst ?_ | refine KeptP.mk ?_ | fail_if_no_progress (refine Kept.upd ?_ (by rfl) (by intro p hp; cases p <;> first | rfl | exact (Kept.no hm hp (by decide)).elim)))
theorem execStreamSettle_keeps {m : Nat} {r : State} (core : Nat) (token : Nat) (s : State) (hm : Nat.land 16771994 m = 16771994) (h : Kept m r s) : KeptRes m r (execStreamSettle core token s) := by
  unfold execStreamSettle
  with_reducible repeat' (first | assumption | exact Kept.sub hm rfl | exact Kept.refl _ _ | refine KeptRes.next ?_ | refine Kept.cond ?_ ?_ | refine KeptRes.cond ?_ ?_ | refine KeptP.cond ?_ ?_ | apply State.settleToken_keeps | refine Kept.foldl ?_ ?_ | intro _ | refine KeptP.foldl ?_ ?_ | refine KeptP.of_eq (by assumption) ?_ | dsimp only | split | dsimp only | refine KeptP.fst ?_ | refine KeptP.mk ?_ | fail_if_no_progress (refine Kept.upd ?_ (by rfl) (by intro p hp; cases p <;> first | rfl | exact (Kept.no hm hp (by decide)).elim)))
theorem execHoldGranuleAcquired_keeps {m : Nat} {r : State} (granule : Nat) (s : State) (hm : Nat.land 512 m = 512) (h : Kept m r s) : KeptRes m r (execHoldGranuleAcquired granule s) := by
  unfold execHoldGranuleAcquired
  with_reducible repeat' (first | assumption | exact Kept.sub hm rfl | exact Kept.refl _ _ | refine KeptRes.next ?_ | refine Kept.cond ?_ ?_ | refine KeptRes.cond ?_ ?_ | refine KeptP.cond ?_ ?_ | apply State.acquireHold_keeps | refine Kept.foldl ?_ ?_ | intro _ | refine KeptP.foldl ?_ ?_ | refine KeptP.of_eq (by assumption) ?_ | dsimp only | split | dsimp only | refine KeptP.fst ?_ | refine KeptP.mk ?_ | fail_if_no_progress (refine Kept.upd ?_ (by rfl) (by intro p hp; cases p <;> first | rfl | exact (Kept.no hm hp (by decide)).elim)))
theorem execHoldTimeout_keeps {m : Nat} {r : State} (core : Nat) (s : State) (hm : Nat.land 16648986 m = 16648986) (h : Kept m r s) : KeptRes m r (execHoldTimeout core s) := by
  unfold execHoldTimeout
  with_reducible repeat' (first | assumption | exact Kept.sub hm rfl | exact Kept.refl _ _ | refine KeptRes.next ?_ | refine Kept.cond ?_ ?_ | refine KeptRes.cond ?_ ?_ | refine KeptP.cond ?_ ?_ | apply State.recipeFault_keeps | refine Kept.foldl ?_ ?_ | intro _ | refine KeptP.foldl ?_ ?_ | refine KeptP.of_eq (by assumption) ?_ | dsimp only | split | dsimp only | refine KeptP.fst ?_ | refine KeptP.mk ?_ | fail_if_no_progress (refine Kept.upd ?_ (by rfl) (by intro p hp; cases p <;> first | rfl | exact (Kept.no hm hp (by decide)).elim)))
theorem execCycleLimitExpiry_keeps {m : Nat} {r : State} (core : Nat) (s : State) (hm : Nat.land 16648986 m = 16648986) (h : Kept m r s) : KeptRes m r (execCycleLimitExpiry core s) := by
  unfold execCycleLimitExpiry
  with_reducible repeat' (first | assumption | exact Kept.sub hm rfl | exact Kept.refl _ _ | refine KeptRes.next ?_ | refine Kept.cond ?_ ?_ | refine KeptRes.cond ?_ ?_ | refine KeptP.cond ?_ ?_ | apply State.recipeFault_keeps | refine Kept.foldl ?_ ?_ | intro _ | refine KeptP.foldl ?_ ?_ | refine KeptP.of_eq (by assumption) ?_ | dsimp only | split | dsimp only | refine KeptP.fst ?_ | refine KeptP.mk ?_ | fail_if_no_progress (refine Kept.upd ?_ (by rfl) (by intro p hp; cases p <;> first | rfl | exact (Kept.no hm hp (by decide)).elim)))
theorem State.endExt_keeps {m : Nat} {r : State} (s : State) (slot : Nat) (x : LoadResult) (hm : Nat.land 4194834 m = 4194834) (h : Kept m r s) : Kept m r (State.endExt s slot x) := by
  unfold State.endExt
  with_reducible repeat' (first | assumption | exact Kept.sub hm rfl | exact Kept.refl _ _ | refine KeptRes.next ?_ | refine Kept.cond ?_ ?_ | refine KeptRes.cond ?_ ?_ | refine KeptP.cond ?_ ?_ | apply State.raise_keeps | apply State.setFld_keeps | refine Kept.foldl ?_ ?_ | intro _ | refine KeptP.foldl ?_ ?_ | refine KeptP.of_eq (by assumption) ?_ | dsimp only | split | dsimp only | refine KeptP.fst ?_ | refine KeptP.mk ?_ | fail_if_no_progress (refine Kept.upd ?_ (by rfl) (by intro p hp; cases p <;> first | rfl | exact (Kept.no hm hp (by decide)).elim)))
theorem execCoreExtLoad_keeps {m : Nat} {r : State} (src : Nat) (s : State) (hm : Nat.land 4194834 m = 4194834) (h : Kept m r s) : KeptRes m r (execCoreExtLoad src s) := by
  unfold execCoreExtLoad
  with_reducible repeat' (first | assumption | exact Kept.sub hm rfl | exact Kept.refl _ _ | refine KeptRes.next ?_ | refine Kept.cond ?_ ?_ | refine KeptRes.cond ?_ ?_ | refine KeptP.cond ?_ ?_ | apply State.emit_keeps | apply State.endExt_keeps | apply State.setFld_keeps | refine Kept.foldl ?_ ?_ | intro _ | refine KeptP.foldl ?_ ?_ | refine KeptP.of_eq (by assumption) ?_ | dsimp only | split | dsimp only | refine KeptP.fst ?_ | refine KeptP.mk ?_ | fail_if_no_progress (refine Kept.upd ?_ (by rfl) (by intro p hp; cases p <;> first | rfl | exact (Kept.no hm hp (by decide)).elim)))
theorem execCoreExtLoadDone_keeps {m : Nat} {r : State} (result : HostResult) (image : List Byte) (verified : Bool) (s : State) (hm : Nat.land 4194834 m = 4194834) (h : Kept m r s) : KeptRes m r (execCoreExtLoadDone result image verified s) := by
  unfold execCoreExtLoadDone
  with_reducible repeat' (first | assumption | exact Kept.sub hm rfl | exact Kept.refl _ _ | refine KeptRes.next ?_ | refine Kept.cond ?_ ?_ | refine KeptRes.cond ?_ ?_ | refine KeptP.cond ?_ ?_ | apply State.endExt_keeps | refine Kept.foldl ?_ ?_ | intro _ | refine KeptP.foldl ?_ ?_ | refine KeptP.of_eq (by assumption) ?_ | dsimp only | split | dsimp only | refine KeptP.fst ?_ | refine KeptP.mk ?_ | fail_if_no_progress (refine Kept.upd ?_ (by rfl) (by intro p hp; cases p <;> first | rfl | exact (Kept.no hm hp (by decide)).elim)))
theorem execCoreExtRemove_keeps {m : Nat} {r : State} (src : Nat) (s : State) (hm : Nat.land 512 m = 512) (h : Kept m r s) : KeptRes m r (execCoreExtRemove src s) := by
  unfold execCoreExtRemove
  with_reducible repeat' (first | assumption | exact Kept.sub hm rfl | exact Kept.refl _ _ | refine KeptRes.next ?_ | refine Kept.cond ?_ ?_ | refine KeptRes.cond ?_ ?_ | refine KeptP.cond ?_ ?_ | refine Kept.foldl ?_ ?_ | intro _ | refine KeptP.foldl ?_ ?_ | refine KeptP.of_eq (by assumption) ?_ | dsimp only | split | dsimp only | refine KeptP.fst ?_ | refine KeptP.mk ?_ | fail_if_no_progress (refine Kept.upd ?_ (by rfl) (by intro p hp; cases p <;> first | rfl | exact (Kept.no hm hp (by decide)).elim)))
theorem queueWrite_keeps {m : Nat} {r : State} (src : Nat) (off : Nat) (value : Word) (s : State) (hm : Nat.land 16752570 m = 16752570) (h : Kept m r s) : KeptRes m r (queueWrite src off value s) := by
  unfold queueWrite
  with_reducible repeat' (first | assumption | exact Kept.sub hm rfl | exact Kept.refl _ _ | refine KeptRes.next ?_ | refine Kept.cond ?_ ?_ | refine KeptRes.cond ?_ ?_ | refine KeptP.cond ?_ ?_ | apply execAbortAllQp_keeps | apply execAbortQtag_keeps | apply execCqHeadDoorbell_keeps | apply execResultRelease_keeps | apply execSqTailDoorbell_keeps | refine Kept.foldl ?_ ?_ | intro _ | refine KeptP.foldl ?_ ?_ | refine KeptP.of_eq (by assumption) ?_ | dsimp only | split | dsimp only | refine KeptP.fst ?_ | refine KeptP.mk ?_ | fail_if_no_progress (refine Kept.upd ?_ (by rfl) (by intro p hp; cases p <;> first | rfl | exact (Kept.no hm hp (by decide)).elim)))
theorem firstOf_keeps {m : Nat} {r : State} (value : Word) (a : Nat) (b : Nat) (f : State → Res) (g : State → Res) (s : State) (hm : Nat.land 0 m = 0) (h : Kept m r s) (hf : ∀ s, Kept m r s → KeptRes m r (f s)) (hg : ∀ s, Kept m r s → KeptRes m r (g s)) : KeptRes m r (firstOf value a b f g s) := by
  unfold firstOf
  split
  · exact hf s h
  · split
    · exact hg s h
    · exact KeptRes.next h
theorem busWrite_keeps {m : Nat} {r : State} (src : Nat) (off : Nat) (value : Word) (s : State) (hm : Nat.land 16777210 m = 16777210) (h : Kept m r s) : KeptRes m r (busWrite src off value s) := by
  unfold busWrite
  with_reducible repeat' (first | assumption | exact Kept.sub hm rfl | exact Kept.refl _ _ | refine KeptRes.next ?_ | refine Kept.cond ?_ ?_ | refine KeptRes.cond ?_ ?_ | refine KeptP.cond ?_ ?_ | apply State.pmcCtrl_keeps | apply State.pmcOwnCtrl_keeps | apply State.writeRegister_keeps | apply execAlignCtrlWrite_keeps | apply execClkSscWrite_keeps | apply execCohAgentDeclare_keeps | apply execCohAgentRevive_keeps | apply execCohProbe_keeps | apply execCoreExtLoad_keeps | apply execCoreExtRemove_keeps | apply execErrFirstClear_keeps | apply execErrInjFire_keeps | apply execErrSitzClear_keeps | apply execErrSitzUnfreeze_keeps | apply execErrUnitOnline_keeps | apply execEventEnWrite_keeps | apply execFnAdmApply_keeps | apply execFnAdmSelWrite_keeps | apply execFnHxlApply_keeps | apply execFnHxlSelWrite_keeps | apply execGateBlkApply_keeps | apply execGateBlkSelWrite_keeps | apply execGateDbgRead_keeps | apply execGateDbgSet_keeps | apply execHxlPortCfgWrite_keeps | apply execHxlPortReset_keeps | apply execHxlPortRetrain_keeps | apply execHxlRouteWrite_keeps | apply execMgtMeterSnap_keeps | apply execPmcOwnerWrite_keeps | apply execPstImageLoad_keeps | apply execPstSwitchArm_keeps | apply execPstSwitchCancel_keeps | apply execPwrClearBrace_keeps | apply execPwrClearMinmax_keeps | apply execQpDisable_keeps | apply execQpEnable_keeps | apply execSecLcProvision_keeps | apply execSecNewNonce_keeps | apply execSecPwrTargetRest_keeps | apply execSecPwrTargetRun_keeps | apply execSecPwrTargetStandby_keeps | apply execSecSvnCommit_keeps | apply execSecTokenLower_keeps | apply execSecTokenSubmit_keeps | apply execTierCtrlLock_keeps | apply execXltApplyCtx_keeps | apply execXltApplySeg_keeps | apply execXltAtcFlush_keeps | apply execXltCtxSelWrite_keeps | apply execXltSegSelWrite_keeps | apply firstOf_keeps | apply queueWrite_keeps | refine Kept.foldl ?_ ?_ | intro _ | refine KeptP.foldl ?_ ?_ | refine KeptP.of_eq (by assumption) ?_ | dsimp only | split | dsimp only | refine KeptP.fst ?_ | refine KeptP.mk ?_ | fail_if_no_progress (refine Kept.upd ?_ (by rfl) (by intro p hp; cases p <;> first | rfl | exact (Kept.no hm hp (by decide)).elim)))
theorem execRegisterWrite_keeps {m : Nat} {r : State} (src : Nat) (addr : Nat) (len : Nat) (value : BitVec 64) (s : State) (hm : Nat.land 16777210 m = 16777210) (h : Kept m r s) : KeptRes m r (execRegisterWrite src addr len value s) := by
  unfold execRegisterWrite
  split
  · exact busWrite_keeps _ _ _ _ (Kept.sub hm rfl) h
  · split
    · have k := busWrite_keeps (m := m) src addr (BitVec.ofNat 32 value.toNat) s (Kept.sub hm rfl) h
      split
      · rename_i e
        unfold KeptRes at k
        exact busWrite_keeps _ _ _ _ (Kept.sub hm rfl) (k _ e)
      · exact k
    · exact KeptRes.next h
theorem State.latch_keeps {m : Nat} {r : State} (s : State) (src : Nat) (off : Nat) (hm : Nat.land 1048578 m = 1048578) (h : Kept m r s) : Kept m r (State.latch s src off) := by
  unfold State.latch
  with_reducible repeat' (first | assumption | exact Kept.sub hm rfl | exact Kept.refl _ _ | refine KeptRes.next ?_ | refine Kept.cond ?_ ?_ | refine KeptRes.cond ?_ ?_ | refine KeptP.cond ?_ ?_ | apply State.setFld_keeps | refine Kept.foldl ?_ ?_ | intro _ | refine KeptP.foldl ?_ ?_ | refine KeptP.of_eq (by assumption) ?_ | dsimp only | split | dsimp only | refine KeptP.fst ?_ | refine KeptP.mk ?_ | fail_if_no_progress (refine Kept.upd ?_ (by rfl) (by intro p hp; cases p <;> first | rfl | exact (Kept.no hm hp (by decide)).elim)))
theorem State.readWord_keeps {m : Nat} {r : State} (s : State) (src : Nat) (off : Nat) (hm : Nat.land 1048578 m = 1048578) (h : Kept m r s) : KeptP m r (State.readWord s src off) := by
  unfold State.readWord
  with_reducible repeat' (first | assumption | exact Kept.sub hm rfl | exact Kept.refl _ _ | refine KeptRes.next ?_ | refine Kept.cond ?_ ?_ | refine KeptRes.cond ?_ ?_ | refine KeptP.cond ?_ ?_ | apply State.latch_keeps | refine Kept.foldl ?_ ?_ | intro _ | refine KeptP.foldl ?_ ?_ | refine KeptP.of_eq (by assumption) ?_ | dsimp only | split | dsimp only | refine KeptP.fst ?_ | refine KeptP.mk ?_ | fail_if_no_progress (refine Kept.upd ?_ (by rfl) (by intro p hp; cases p <;> first | rfl | exact (Kept.no hm hp (by decide)).elim)))
theorem State.readAt_keeps {m : Nat} {r : State} (s : State) (src : Nat) (addr : Nat) (len : Nat) (hm : Nat.land 1048578 m = 1048578) (h : Kept m r s) : KeptP m r (State.readAt s src addr len) := by
  unfold State.readAt
  with_reducible repeat' (first | assumption | exact Kept.sub hm rfl | exact Kept.refl _ _ | refine KeptRes.next ?_ | refine Kept.cond ?_ ?_ | refine KeptRes.cond ?_ ?_ | refine KeptP.cond ?_ ?_ | apply State.readWord_keeps | refine Kept.foldl ?_ ?_ | intro _ | refine KeptP.foldl ?_ ?_ | refine KeptP.of_eq (by assumption) ?_ | dsimp only | split | dsimp only | refine KeptP.fst ?_ | refine KeptP.mk ?_ | fail_if_no_progress (refine Kept.upd ?_ (by rfl) (by intro p hp; cases p <;> first | rfl | exact (Kept.no hm hp (by decide)).elim)))
theorem busRead_keeps {m : Nat} {r : State} (src : Nat) (addr : Nat) (len : Nat) (s : State) (hm : Nat.land 1048594 m = 1048594) (h : Kept m r s) : KeptRes m r (busRead src addr len s) := by
  unfold busRead
  with_reducible repeat' (first | assumption | exact Kept.sub hm rfl | exact Kept.refl _ _ | refine KeptRes.next ?_ | refine Kept.cond ?_ ?_ | refine KeptRes.cond ?_ ?_ | refine KeptP.cond ?_ ?_ | apply State.emit_keeps | apply State.readAt_keeps | refine Kept.foldl ?_ ?_ | intro _ | refine KeptP.foldl ?_ ?_ | refine KeptP.of_eq (by assumption) ?_ | dsimp only | split | dsimp only | refine KeptP.fst ?_ | refine KeptP.mk ?_ | fail_if_no_progress (refine Kept.upd ?_ (by rfl) (by intro p hp; cases p <;> first | rfl | exact (Kept.no hm hp (by decide)).elim)))
theorem State.readOf_keeps {m : Nat} {r : State} (s : State) (reg : Nat) (src : Nat) (addr : Nat) (len : Nat) (hm : Nat.land 1048594 m = 1048594) (h : Kept m r s) : KeptRes m r (State.readOf s reg src addr len) := by
  unfold State.readOf
  with_reducible repeat' (first | assumption | exact Kept.sub hm rfl | exact Kept.refl _ _ | refine KeptRes.next ?_ | refine Kept.cond ?_ ?_ | refine KeptRes.cond ?_ ?_ | refine KeptP.cond ?_ ?_ | apply busRead_keeps | refine Kept.foldl ?_ ?_ | intro _ | refine KeptP.foldl ?_ ?_ | refine KeptP.of_eq (by assumption) ?_ | dsimp only | split | dsimp only | refine KeptP.fst ?_ | refine KeptP.mk ?_ | fail_if_no_progress (refine Kept.upd ?_ (by rfl) (by intro p hp; cases p <;> first | rfl | exact (Kept.no hm hp (by decide)).elim)))
theorem execPstFrameLoRead_keeps {m : Nat} {r : State} (src : Nat) (addr : Nat) (len : Nat) (s : State) (hm : Nat.land 1048594 m = 1048594) (h : Kept m r s) : KeptRes m r (execPstFrameLoRead src addr len s) := by
  unfold execPstFrameLoRead
  with_reducible repeat' (first | assumption | exact Kept.sub hm rfl | exact Kept.refl _ _ | refine KeptRes.next ?_ | refine Kept.cond ?_ ?_ | refine KeptRes.cond ?_ ?_ | refine KeptP.cond ?_ ?_ | apply State.readOf_keeps | refine Kept.foldl ?_ ?_ | intro _ | refine KeptP.foldl ?_ ?_ | refine KeptP.of_eq (by assumption) ?_ | dsimp only | split | dsimp only | refine KeptP.fst ?_ | refine KeptP.mk ?_ | fail_if_no_progress (refine Kept.upd ?_ (by rfl) (by intro p hp; cases p <;> first | rfl | exact (Kept.no hm hp (by decide)).elim)))
theorem execPwrEnergyLoRead_keeps {m : Nat} {r : State} (src : Nat) (addr : Nat) (len : Nat) (s : State) (hm : Nat.land 1048594 m = 1048594) (h : Kept m r s) : KeptRes m r (execPwrEnergyLoRead src addr len s) := by
  unfold execPwrEnergyLoRead
  with_reducible repeat' (first | assumption | exact Kept.sub hm rfl | exact Kept.refl _ _ | refine KeptRes.next ?_ | refine Kept.cond ?_ ?_ | refine KeptRes.cond ?_ ?_ | refine KeptP.cond ?_ ?_ | apply State.readOf_keeps | refine Kept.foldl ?_ ?_ | intro _ | refine KeptP.foldl ?_ ?_ | refine KeptP.of_eq (by assumption) ?_ | dsimp only | split | dsimp only | refine KeptP.fst ?_ | refine KeptP.mk ?_ | fail_if_no_progress (refine Kept.upd ?_ (by rfl) (by intro p hp; cases p <;> first | rfl | exact (Kept.no hm hp (by decide)).elim)))
theorem execRplBufHeadLoRead_keeps {m : Nat} {r : State} (src : Nat) (addr : Nat) (len : Nat) (s : State) (hm : Nat.land 1048594 m = 1048594) (h : Kept m r s) : KeptRes m r (execRplBufHeadLoRead src addr len s) := by
  unfold execRplBufHeadLoRead
  with_reducible repeat' (first | assumption | exact Kept.sub hm rfl | exact Kept.refl _ _ | refine KeptRes.next ?_ | refine Kept.cond ?_ ?_ | refine KeptRes.cond ?_ ?_ | refine KeptP.cond ?_ ?_ | apply State.readOf_keeps | refine Kept.foldl ?_ ?_ | intro _ | refine KeptP.foldl ?_ ?_ | refine KeptP.of_eq (by assumption) ?_ | dsimp only | split | dsimp only | refine KeptP.fst ?_ | refine KeptP.mk ?_ | fail_if_no_progress (refine Kept.upd ?_ (by rfl) (by intro p hp; cases p <;> first | rfl | exact (Kept.no hm hp (by decide)).elim)))
theorem execPmcValueLoRead_keeps {m : Nat} {r : State} (src : Nat) (off : Nat) (addr : Nat) (len : Nat) (s : State) (hm : Nat.land 1048594 m = 1048594) (h : Kept m r s) : KeptRes m r (execPmcValueLoRead src off addr len s) := by
  unfold execPmcValueLoRead
  with_reducible repeat' (first | assumption | exact Kept.sub hm rfl | exact Kept.refl _ _ | refine KeptRes.next ?_ | refine Kept.cond ?_ ?_ | refine KeptRes.cond ?_ ?_ | refine KeptP.cond ?_ ?_ | apply State.readOf_keeps | refine Kept.foldl ?_ ?_ | intro _ | refine KeptP.foldl ?_ ?_ | refine KeptP.of_eq (by assumption) ?_ | dsimp only | split | dsimp only | refine KeptP.fst ?_ | refine KeptP.mk ?_ | fail_if_no_progress (refine Kept.upd ?_ (by rfl) (by intro p hp; cases p <;> first | rfl | exact (Kept.no hm hp (by decide)).elim)))
theorem execJtagDebugAccess_keeps {m : Nat} {r : State} (access : JtagAccess) (s : State) (hm : Nat.land 16777210 m = 16777210) (h : Kept m r s) : KeptRes m r (execJtagDebugAccess access s) := by
  unfold execJtagDebugAccess
  with_reducible repeat' (first | assumption | exact Kept.sub hm rfl | exact Kept.refl _ _ | refine KeptRes.next ?_ | refine Kept.cond ?_ ?_ | refine KeptRes.cond ?_ ?_ | refine KeptP.cond ?_ ?_ | apply State.checkRead_keeps | apply State.emit_keeps | apply State.tickFresh_keeps | apply busRead_keeps | apply execRegisterWrite_keeps | refine Kept.foldl ?_ ?_ | intro _ | refine KeptP.foldl ?_ ?_ | refine KeptP.of_eq (by assumption) ?_ | dsimp only | split | dsimp only | refine KeptP.fst ?_ | refine KeptP.mk ?_ | fail_if_no_progress (refine Kept.upd ?_ (by rfl) (by intro p hp; cases p <;> first | rfl | exact (Kept.no hm hp (by decide)).elim)))
theorem State.respondOn_keeps {m : Nat} {r : State} (s : State) (ep : Nat) (code : Nat) (data : List Byte) (hm : Nat.land 16 m = 16) (h : Kept m r s) : Kept m r (State.respondOn s ep code data) := by
  unfold State.respondOn
  with_reducible repeat' (first | assumption | exact Kept.sub hm rfl | exact Kept.refl _ _ | refine KeptRes.next ?_ | refine Kept.cond ?_ ?_ | refine KeptRes.cond ?_ ?_ | refine KeptP.cond ?_ ?_ | apply State.emit_keeps | refine Kept.foldl ?_ ?_ | intro _ | refine KeptP.foldl ?_ ?_ | refine KeptP.of_eq (by assumption) ?_ | dsimp only | split | dsimp only | refine KeptP.fst ?_ | refine KeptP.mk ?_ | fail_if_no_progress (refine Kept.upd ?_ (by rfl) (by intro p hp; cases p <;> first | rfl | exact (Kept.no hm hp (by decide)).elim)))
theorem State.askOn_keeps {m : Nat} {r : State} (s : State) (ep : Nat) (code : Nat) (data : List Byte) (hm : Nat.land 16 m = 16) (h : Kept m r s) : KeptRes m r (State.askOn s ep code data) := by
  unfold State.askOn
  with_reducible repeat' (first | assumption | exact Kept.sub hm rfl | exact Kept.refl _ _ | refine KeptRes.next ?_ | refine Kept.cond ?_ ?_ | refine KeptRes.cond ?_ ?_ | refine KeptP.cond ?_ ?_ | apply State.respondOn_keeps | refine Kept.foldl ?_ ?_ | intro _ | refine KeptP.foldl ?_ ?_ | refine KeptP.of_eq (by assumption) ?_ | dsimp only | split | dsimp only | refine KeptP.fst ?_ | refine KeptP.mk ?_ | fail_if_no_progress (refine Kept.upd ?_ (by rfl) (by intro p hp; cases p <;> first | rfl | exact (Kept.no hm hp (by decide)).elim)))
theorem execEntdaa_keeps {m : Nat} {r : State} (addr : Nat) (s : State) (hm : Nat.land 1048592 m = 1048592) (h : Kept m r s) : KeptRes m r (execEntdaa addr s) := by
  unfold execEntdaa
  with_reducible repeat' (first | assumption | exact Kept.sub hm rfl | exact Kept.refl _ _ | refine KeptRes.next ?_ | refine Kept.cond ?_ ?_ | refine KeptRes.cond ?_ ?_ | refine KeptP.cond ?_ ?_ | apply State.respondOn_keeps | refine Kept.foldl ?_ ?_ | intro _ | refine KeptP.foldl ?_ ?_ | refine KeptP.of_eq (by assumption) ?_ | dsimp only | split | dsimp only | refine KeptP.fst ?_ | refine KeptP.mk ?_ | fail_if_no_progress (refine Kept.upd ?_ (by rfl) (by intro p hp; cases p <;> first | rfl | exact (Kept.no hm hp (by decide)).elim)))
theorem execSetEndpointId_keeps {m : Nat} {r : State} (ep : Nat) (eid : Nat) (s : State) (hm : Nat.land 1048592 m = 1048592) (h : Kept m r s) : KeptRes m r (execSetEndpointId ep eid s) := by
  unfold execSetEndpointId
  with_reducible repeat' (first | assumption | exact Kept.sub hm rfl | exact Kept.refl _ _ | refine KeptRes.next ?_ | refine Kept.cond ?_ ?_ | refine KeptRes.cond ?_ ?_ | refine KeptP.cond ?_ ?_ | apply State.respondOn_keeps | refine Kept.foldl ?_ ?_ | intro _ | refine KeptP.foldl ?_ ?_ | refine KeptP.of_eq (by assumption) ?_ | dsimp only | split | dsimp only | refine KeptP.fst ?_ | refine KeptP.mk ?_ | fail_if_no_progress (refine Kept.upd ?_ (by rfl) (by intro p hp; cases p <;> first | rfl | exact (Kept.no hm hp (by decide)).elim)))
theorem execGetEndpointId_keeps {m : Nat} {r : State} (ep : Nat) (s : State) (hm : Nat.land 16 m = 16) (h : Kept m r s) : KeptRes m r (execGetEndpointId ep s) := by
  unfold execGetEndpointId
  with_reducible repeat' (first | assumption | exact Kept.sub hm rfl | exact Kept.refl _ _ | refine KeptRes.next ?_ | refine Kept.cond ?_ ?_ | refine KeptRes.cond ?_ ?_ | refine KeptP.cond ?_ ?_ | apply State.askOn_keeps | refine Kept.foldl ?_ ?_ | intro _ | refine KeptP.foldl ?_ ?_ | refine KeptP.of_eq (by assumption) ?_ | dsimp only | split | dsimp only | refine KeptP.fst ?_ | refine KeptP.mk ?_ | fail_if_no_progress (refine Kept.upd ?_ (by rfl) (by intro p hp; cases p <;> first | rfl | exact (Kept.no hm hp (by decide)).elim)))
theorem execGetEndpointUuid_keeps {m : Nat} {r : State} (ep : Nat) (s : State) (hm : Nat.land 16 m = 16) (h : Kept m r s) : KeptRes m r (execGetEndpointUuid ep s) := by
  unfold execGetEndpointUuid
  with_reducible repeat' (first | assumption | exact Kept.sub hm rfl | exact Kept.refl _ _ | refine KeptRes.next ?_ | refine Kept.cond ?_ ?_ | refine KeptRes.cond ?_ ?_ | refine KeptP.cond ?_ ?_ | apply State.askOn_keeps | refine Kept.foldl ?_ ?_ | intro _ | refine KeptP.foldl ?_ ?_ | refine KeptP.of_eq (by assumption) ?_ | dsimp only | split | dsimp only | refine KeptP.fst ?_ | refine KeptP.mk ?_ | fail_if_no_progress (refine Kept.upd ?_ (by rfl) (by intro p hp; cases p <;> first | rfl | exact (Kept.no hm hp (by decide)).elim)))
theorem execGetMctpVersionSupport_keeps {m : Nat} {r : State} (ep : Nat) (s : State) (hm : Nat.land 16 m = 16) (h : Kept m r s) : KeptRes m r (execGetMctpVersionSupport ep s) := by
  unfold execGetMctpVersionSupport
  with_reducible repeat' (first | assumption | exact Kept.sub hm rfl | exact Kept.refl _ _ | refine KeptRes.next ?_ | refine Kept.cond ?_ ?_ | refine KeptRes.cond ?_ ?_ | refine KeptP.cond ?_ ?_ | apply State.askOn_keeps | refine Kept.foldl ?_ ?_ | intro _ | refine KeptP.foldl ?_ ?_ | refine KeptP.of_eq (by assumption) ?_ | dsimp only | split | dsimp only | refine KeptP.fst ?_ | refine KeptP.mk ?_ | fail_if_no_progress (refine Kept.upd ?_ (by rfl) (by intro p hp; cases p <;> first | rfl | exact (Kept.no hm hp (by decide)).elim)))
theorem execGetMessageTypeSupport_keeps {m : Nat} {r : State} (ep : Nat) (s : State) (hm : Nat.land 16 m = 16) (h : Kept m r s) : KeptRes m r (execGetMessageTypeSupport ep s) := by
  unfold execGetMessageTypeSupport
  with_reducible repeat' (first | assumption | exact Kept.sub hm rfl | exact Kept.refl _ _ | refine KeptRes.next ?_ | refine Kept.cond ?_ ?_ | refine KeptRes.cond ?_ ?_ | refine KeptP.cond ?_ ?_ | apply State.askOn_keeps | refine Kept.foldl ?_ ?_ | intro _ | refine KeptP.foldl ?_ ?_ | refine KeptP.of_eq (by assumption) ?_ | dsimp only | split | dsimp only | refine KeptP.fst ?_ | refine KeptP.mk ?_ | fail_if_no_progress (refine Kept.upd ?_ (by rfl) (by intro p hp; cases p <;> first | rfl | exact (Kept.no hm hp (by decide)).elim)))
theorem execGetTid_keeps {m : Nat} {r : State} (ep : Nat) (s : State) (hm : Nat.land 16 m = 16) (h : Kept m r s) : KeptRes m r (execGetTid ep s) := by
  unfold execGetTid
  with_reducible repeat' (first | assumption | exact Kept.sub hm rfl | exact Kept.refl _ _ | refine KeptRes.next ?_ | refine Kept.cond ?_ ?_ | refine KeptRes.cond ?_ ?_ | refine KeptP.cond ?_ ?_ | apply State.askOn_keeps | refine Kept.foldl ?_ ?_ | intro _ | refine KeptP.foldl ?_ ?_ | refine KeptP.of_eq (by assumption) ?_ | dsimp only | split | dsimp only | refine KeptP.fst ?_ | refine KeptP.mk ?_ | fail_if_no_progress (refine Kept.upd ?_ (by rfl) (by intro p hp; cases p <;> first | rfl | exact (Kept.no hm hp (by decide)).elim)))
theorem execSetTid_keeps {m : Nat} {r : State} (ep : Nat) (tid : Nat) (s : State) (hm : Nat.land 1048592 m = 1048592) (h : Kept m r s) : KeptRes m r (execSetTid ep tid s) := by
  unfold execSetTid
  with_reducible repeat' (first | assumption | exact Kept.sub hm rfl | exact Kept.refl _ _ | refine KeptRes.next ?_ | refine Kept.cond ?_ ?_ | refine KeptRes.cond ?_ ?_ | refine KeptP.cond ?_ ?_ | apply State.respondOn_keeps | refine Kept.foldl ?_ ?_ | intro _ | refine KeptP.foldl ?_ ?_ | refine KeptP.of_eq (by assumption) ?_ | dsimp only | split | dsimp only | refine KeptP.fst ?_ | refine KeptP.mk ?_ | fail_if_no_progress (refine Kept.upd ?_ (by rfl) (by intro p hp; cases p <;> first | rfl | exact (Kept.no hm hp (by decide)).elim)))
theorem execGetPldmVersion_keeps {m : Nat} {r : State} (ep : Nat) (type : Nat) (s : State) (hm : Nat.land 16 m = 16) (h : Kept m r s) : KeptRes m r (execGetPldmVersion ep type s) := by
  unfold execGetPldmVersion
  with_reducible repeat' (first | assumption | exact Kept.sub hm rfl | exact Kept.refl _ _ | refine KeptRes.next ?_ | refine Kept.cond ?_ ?_ | refine KeptRes.cond ?_ ?_ | refine KeptP.cond ?_ ?_ | apply State.askOn_keeps | refine Kept.foldl ?_ ?_ | intro _ | refine KeptP.foldl ?_ ?_ | refine KeptP.of_eq (by assumption) ?_ | dsimp only | split | dsimp only | refine KeptP.fst ?_ | refine KeptP.mk ?_ | fail_if_no_progress (refine Kept.upd ?_ (by rfl) (by intro p hp; cases p <;> first | rfl | exact (Kept.no hm hp (by decide)).elim)))
theorem execGetPldmTypes_keeps {m : Nat} {r : State} (ep : Nat) (s : State) (hm : Nat.land 16 m = 16) (h : Kept m r s) : KeptRes m r (execGetPldmTypes ep s) := by
  unfold execGetPldmTypes
  with_reducible repeat' (first | assumption | exact Kept.sub hm rfl | exact Kept.refl _ _ | refine KeptRes.next ?_ | refine Kept.cond ?_ ?_ | refine KeptRes.cond ?_ ?_ | refine KeptP.cond ?_ ?_ | apply State.askOn_keeps | refine Kept.foldl ?_ ?_ | intro _ | refine KeptP.foldl ?_ ?_ | refine KeptP.of_eq (by assumption) ?_ | dsimp only | split | dsimp only | refine KeptP.fst ?_ | refine KeptP.mk ?_ | fail_if_no_progress (refine Kept.upd ?_ (by rfl) (by intro p hp; cases p <;> first | rfl | exact (Kept.no hm hp (by decide)).elim)))
theorem execGetPldmCommands_keeps {m : Nat} {r : State} (ep : Nat) (type : Nat) (s : State) (hm : Nat.land 16 m = 16) (h : Kept m r s) : KeptRes m r (execGetPldmCommands ep type s) := by
  unfold execGetPldmCommands
  with_reducible repeat' (first | assumption | exact Kept.sub hm rfl | exact Kept.refl _ _ | refine KeptRes.next ?_ | refine Kept.cond ?_ ?_ | refine KeptRes.cond ?_ ?_ | refine KeptP.cond ?_ ?_ | apply State.askOn_keeps | refine Kept.foldl ?_ ?_ | intro _ | refine KeptP.foldl ?_ ?_ | refine KeptP.of_eq (by assumption) ?_ | dsimp only | split | dsimp only | refine KeptP.fst ?_ | refine KeptP.mk ?_ | fail_if_no_progress (refine Kept.upd ?_ (by rfl) (by intro p hp; cases p <;> first | rfl | exact (Kept.no hm hp (by decide)).elim)))
theorem execGetPdrRepositoryInfo_keeps {m : Nat} {r : State} (ep : Nat) (s : State) (hm : Nat.land 16 m = 16) (h : Kept m r s) : KeptRes m r (execGetPdrRepositoryInfo ep s) := by
  unfold execGetPdrRepositoryInfo
  with_reducible repeat' (first | assumption | exact Kept.sub hm rfl | exact Kept.refl _ _ | refine KeptRes.next ?_ | refine Kept.cond ?_ ?_ | refine KeptRes.cond ?_ ?_ | refine KeptP.cond ?_ ?_ | apply State.askOn_keeps | refine Kept.foldl ?_ ?_ | intro _ | refine KeptP.foldl ?_ ?_ | refine KeptP.of_eq (by assumption) ?_ | dsimp only | split | dsimp only | refine KeptP.fst ?_ | refine KeptP.mk ?_ | fail_if_no_progress (refine Kept.upd ?_ (by rfl) (by intro p hp; cases p <;> first | rfl | exact (Kept.no hm hp (by decide)).elim)))
theorem execGetPdr_keeps {m : Nat} {r : State} (ep : Nat) (record : Nat) (s : State) (hm : Nat.land 16 m = 16) (h : Kept m r s) : KeptRes m r (execGetPdr ep record s) := by
  unfold execGetPdr
  with_reducible repeat' (first | assumption | exact Kept.sub hm rfl | exact Kept.refl _ _ | refine KeptRes.next ?_ | refine Kept.cond ?_ ?_ | refine KeptRes.cond ?_ ?_ | refine KeptP.cond ?_ ?_ | apply State.askOn_keeps | refine Kept.foldl ?_ ?_ | intro _ | refine KeptP.foldl ?_ ?_ | refine KeptP.of_eq (by assumption) ?_ | dsimp only | split | dsimp only | refine KeptP.fst ?_ | refine KeptP.mk ?_ | fail_if_no_progress (refine Kept.upd ?_ (by rfl) (by intro p hp; cases p <;> first | rfl | exact (Kept.no hm hp (by decide)).elim)))
theorem execGetSensorReading_keeps {m : Nat} {r : State} (ep : Nat) (sensor : Nat) (vstby : Nat) (s : State) (hm : Nat.land 16 m = 16) (h : Kept m r s) : KeptRes m r (execGetSensorReading ep sensor vstby s) := by
  unfold execGetSensorReading
  with_reducible repeat' (first | assumption | exact Kept.sub hm rfl | exact Kept.refl _ _ | refine KeptRes.next ?_ | refine Kept.cond ?_ ?_ | refine KeptRes.cond ?_ ?_ | refine KeptP.cond ?_ ?_ | apply State.askOn_keeps | refine Kept.foldl ?_ ?_ | intro _ | refine KeptP.foldl ?_ ?_ | refine KeptP.of_eq (by assumption) ?_ | dsimp only | split | dsimp only | refine KeptP.fst ?_ | refine KeptP.mk ?_ | fail_if_no_progress (refine Kept.upd ?_ (by rfl) (by intro p hp; cases p <;> first | rfl | exact (Kept.no hm hp (by decide)).elim)))
theorem execGetStateSensorReadings_keeps {m : Nat} {r : State} (ep : Nat) (sensor : Nat) (s : State) (hm : Nat.land 16 m = 16) (h : Kept m r s) : KeptRes m r (execGetStateSensorReadings ep sensor s) := by
  unfold execGetStateSensorReadings
  with_reducible repeat' (first | assumption | exact Kept.sub hm rfl | exact Kept.refl _ _ | refine KeptRes.next ?_ | refine Kept.cond ?_ ?_ | refine KeptRes.cond ?_ ?_ | refine KeptP.cond ?_ ?_ | apply State.askOn_keeps | refine Kept.foldl ?_ ?_ | intro _ | refine KeptP.foldl ?_ ?_ | refine KeptP.of_eq (by assumption) ?_ | dsimp only | split | dsimp only | refine KeptP.fst ?_ | refine KeptP.mk ?_ | fail_if_no_progress (refine Kept.upd ?_ (by rfl) (by intro p hp; cases p <;> first | rfl | exact (Kept.no hm hp (by decide)).elim)))
theorem execSetEventReceiver_keeps {m : Nat} {r : State} (ep : Nat) (receiver : Nat) (s : State) (hm : Nat.land 1048592 m = 1048592) (h : Kept m r s) : KeptRes m r (execSetEventReceiver ep receiver s) := by
  unfold execSetEventReceiver
  with_reducible repeat' (first | assumption | exact Kept.sub hm rfl | exact Kept.refl _ _ | refine KeptRes.next ?_ | refine Kept.cond ?_ ?_ | refine KeptRes.cond ?_ ?_ | refine KeptP.cond ?_ ?_ | apply State.respondOn_keeps | refine Kept.foldl ?_ ?_ | intro _ | refine KeptP.foldl ?_ ?_ | refine KeptP.of_eq (by assumption) ?_ | dsimp only | split | dsimp only | refine KeptP.fst ?_ | refine KeptP.mk ?_ | fail_if_no_progress (refine Kept.upd ?_ (by rfl) (by intro p hp; cases p <;> first | rfl | exact (Kept.no hm hp (by decide)).elim)))
theorem execPollForPlatformEventMessage_keeps {m : Nat} {r : State} (ep : Nat) (s : State) (hm : Nat.land 1048592 m = 1048592) (h : Kept m r s) : KeptRes m r (execPollForPlatformEventMessage ep s) := by
  unfold execPollForPlatformEventMessage
  with_reducible repeat' (first | assumption | exact Kept.sub hm rfl | exact Kept.refl _ _ | refine KeptRes.next ?_ | refine Kept.cond ?_ ?_ | refine KeptRes.cond ?_ ?_ | refine KeptP.cond ?_ ?_ | apply State.respondOn_keeps | refine Kept.foldl ?_ ?_ | intro _ | refine KeptP.foldl ?_ ?_ | refine KeptP.of_eq (by assumption) ?_ | dsimp only | split | dsimp only | refine KeptP.fst ?_ | refine KeptP.mk ?_ | fail_if_no_progress (refine Kept.upd ?_ (by rfl) (by intro p hp; cases p <;> first | rfl | exact (Kept.no hm hp (by decide)).elim)))
theorem State.updateRow_keeps {m : Nat} {r : State} (s : State) (ep : Nat) (session : Option Nat) (f : State → State) (hm : Nat.land 0 m = 0) (h : Kept m r s) (hf : ∀ s, Kept m r s → Kept m r (f s)) : KeptRes m r (State.updateRow s ep session f) := by
  unfold State.updateRow
  split
  · exact KeptRes.next (hf s h)
  · exact KeptRes.next h
theorem execQueryDeviceIdentifiers_keeps {m : Nat} {r : State} (ep : Nat) (session : Option Nat) (s : State) (hm : Nat.land 24 m = 24) (h : Kept m r s) : KeptRes m r (execQueryDeviceIdentifiers ep session s) := by
  unfold execQueryDeviceIdentifiers
  with_reducible repeat' (first | assumption | exact Kept.sub hm rfl | exact Kept.refl _ _ | refine KeptRes.next ?_ | refine Kept.cond ?_ ?_ | refine KeptRes.cond ?_ ?_ | refine KeptP.cond ?_ ?_ | apply State.respondOn_keeps | apply State.tickFresh_keeps | apply State.updateRow_keeps | refine Kept.foldl ?_ ?_ | intro _ | refine KeptP.foldl ?_ ?_ | refine KeptP.of_eq (by assumption) ?_ | dsimp only | split | dsimp only | refine KeptP.fst ?_ | refine KeptP.mk ?_ | fail_if_no_progress (refine Kept.upd ?_ (by rfl) (by intro p hp; cases p <;> first | rfl | exact (Kept.no hm hp (by decide)).elim)))
theorem execGetFirmwareParameters_keeps {m : Nat} {r : State} (ep : Nat) (session : Option Nat) (s : State) (hm : Nat.land 16 m = 16) (h : Kept m r s) : KeptRes m r (execGetFirmwareParameters ep session s) := by
  unfold execGetFirmwareParameters
  with_reducible repeat' (first | assumption | exact Kept.sub hm rfl | exact Kept.refl _ _ | refine KeptRes.next ?_ | refine Kept.cond ?_ ?_ | refine KeptRes.cond ?_ ?_ | refine KeptP.cond ?_ ?_ | apply State.respondOn_keeps | apply State.updateRow_keeps | refine Kept.foldl ?_ ?_ | intro _ | refine KeptP.foldl ?_ ?_ | refine KeptP.of_eq (by assumption) ?_ | dsimp only | split | dsimp only | refine KeptP.fst ?_ | refine KeptP.mk ?_ | fail_if_no_progress (refine Kept.upd ?_ (by rfl) (by intro p hp; cases p <;> first | rfl | exact (Kept.no hm hp (by decide)).elim)))
theorem State.setSlotImage_keeps {m : Nat} {r : State} (s : State) (slot : Nat) (x : BootImage) (hm : Nat.land 524288 m = 524288) (h : Kept m r s) : Kept m r (State.setSlotImage s slot x) := by
  unfold State.setSlotImage
  with_reducible repeat' (first | assumption | exact Kept.sub hm rfl | exact Kept.refl _ _ | refine KeptRes.next ?_ | refine Kept.cond ?_ ?_ | refine KeptRes.cond ?_ ?_ | refine KeptP.cond ?_ ?_ | refine Kept.foldl ?_ ?_ | intro _ | refine KeptP.foldl ?_ ?_ | refine KeptP.of_eq (by assumption) ?_ | dsimp only | split | dsimp only | refine KeptP.fst ?_ | refine KeptP.mk ?_ | fail_if_no_progress (refine Kept.upd ?_ (by rfl) (by intro p hp; cases p <;> first | rfl | exact (Kept.no hm hp (by decide)).elim)))
theorem State.setUpdate_keeps {m : Nat} {r : State} (s : State) (u : Option Update) (hm : Nat.land 1048576 m = 1048576) (h : Kept m r s) : Kept m r (State.setUpdate s u) := by
  unfold State.setUpdate
  with_reducible repeat' (first | assumption | exact Kept.sub hm rfl | exact Kept.refl _ _ | refine KeptRes.next ?_ | refine Kept.cond ?_ ?_ | refine KeptRes.cond ?_ ?_ | refine KeptP.cond ?_ ?_ | refine Kept.foldl ?_ ?_ | intro _ | refine KeptP.foldl ?_ ?_ | refine KeptP.of_eq (by assumption) ?_ | dsimp only | split | dsimp only | refine KeptP.fst ?_ | refine KeptP.mk ?_ | fail_if_no_progress (refine Kept.upd ?_ (by rfl) (by intro p hp; cases p <;> first | rfl | exact (Kept.no hm hp (by decide)).elim)))
theorem execRequestUpdate_keeps {m : Nat} {r : State} (ep : Nat) (session : Option Nat) (maxTransfer : Nat) (s : State) (hm : Nat.land 5767186 m = 5767186) (h : Kept m r s) : KeptRes m r (execRequestUpdate ep session maxTransfer s) := by
  unfold execRequestUpdate
  with_reducible repeat' (first | assumption | exact Kept.sub hm rfl | exact Kept.refl _ _ | refine KeptRes.next ?_ | refine Kept.cond ?_ ?_ | refine KeptRes.cond ?_ ?_ | refine KeptP.cond ?_ ?_ | apply State.raise_keeps | apply State.respondOn_keeps | apply State.setSlotImage_keeps | apply State.setUpdate_keeps | apply State.updateRow_keeps | refine Kept.foldl ?_ ?_ | intro _ | refine KeptP.foldl ?_ ?_ | refine KeptP.of_eq (by assumption) ?_ | dsimp only | split | dsimp only | refine KeptP.fst ?_ | refine KeptP.mk ?_ | fail_if_no_progress (refine Kept.upd ?_ (by rfl) (by intro p hp; cases p <;> first | rfl | exact (Kept.no hm hp (by decide)).elim)))
theorem execPassComponentTable_keeps {m : Nat} {r : State} (ep : Nat) (session : Option Nat) (firmware : Bool) (identifier : Nat) (s : State) (hm : Nat.land 1048592 m = 1048592) (h : Kept m r s) : KeptRes m r (execPassComponentTable ep session firmware identifier s) := by
  unfold execPassComponentTable
  with_reducible repeat' (first | assumption | exact Kept.sub hm rfl | exact Kept.refl _ _ | refine KeptRes.next ?_ | refine Kept.cond ?_ ?_ | refine KeptRes.cond ?_ ?_ | refine KeptP.cond ?_ ?_ | apply State.respondOn_keeps | apply State.setUpdate_keeps | apply State.updateRow_keeps | refine Kept.foldl ?_ ?_ | intro _ | refine KeptP.foldl ?_ ?_ | refine KeptP.of_eq (by assumption) ?_ | dsimp only | split | dsimp only | refine KeptP.fst ?_ | refine KeptP.mk ?_ | fail_if_no_progress (refine Kept.upd ?_ (by rfl) (by intro p hp; cases p <;> first | rfl | exact (Kept.no hm hp (by decide)).elim)))
theorem execUpdateComponent_keeps {m : Nat} {r : State} (ep : Nat) (session : Option Nat) (version : Nat) (size : Nat) (s : State) (hm : Nat.land 1048592 m = 1048592) (h : Kept m r s) : KeptRes m r (execUpdateComponent ep session version size s) := by
  unfold execUpdateComponent
  with_reducible repeat' (first | assumption | exact Kept.sub hm rfl | exact Kept.refl _ _ | refine KeptRes.next ?_ | refine Kept.cond ?_ ?_ | refine KeptRes.cond ?_ ?_ | refine KeptP.cond ?_ ?_ | apply State.respondOn_keeps | apply State.setUpdate_keeps | apply State.updateRow_keeps | refine Kept.foldl ?_ ?_ | intro _ | refine KeptP.foldl ?_ ?_ | refine KeptP.of_eq (by assumption) ?_ | dsimp only | split | dsimp only | refine KeptP.fst ?_ | refine KeptP.mk ?_ | fail_if_no_progress (refine Kept.upd ?_ (by rfl) (by intro p hp; cases p <;> first | rfl | exact (Kept.no hm hp (by decide)).elim)))
theorem execFirmwareDataChunk_keeps {m : Nat} {r : State} (ep : Nat) (session : Option Nat) (len : Nat) (image : BootImage) (s : State) (hm : Nat.land 5767186 m = 5767186) (h : Kept m r s) : KeptRes m r (execFirmwareDataChunk ep session len image s) := by
  unfold execFirmwareDataChunk
  with_reducible repeat' (first | assumption | exact Kept.sub hm rfl | exact Kept.refl _ _ | refine KeptRes.next ?_ | refine Kept.cond ?_ ?_ | refine KeptRes.cond ?_ ?_ | refine KeptP.cond ?_ ?_ | apply State.dropUpdate_keeps | apply State.raise_keeps | apply State.respondOn_keeps | apply State.setSlotImage_keeps | apply State.setUpdate_keeps | apply State.updateRow_keeps | refine Kept.foldl ?_ ?_ | intro _ | refine KeptP.foldl ?_ ?_ | refine KeptP.of_eq (by assumption) ?_ | dsimp only | split | dsimp only | refine KeptP.fst ?_ | refine KeptP.mk ?_ | fail_if_no_progress (refine Kept.upd ?_ (by rfl) (by intro p hp; cases p <;> first | rfl | exact (Kept.no hm hp (by decide)).elim)))
theorem execActivateFirmware_keeps {m : Nat} {r : State} (ep : Nat) (session : Option Nat) (selfContained : Bool) (s : State) (hm : Nat.land 5242898 m = 5242898) (h : Kept m r s) : KeptRes m r (execActivateFirmware ep session selfContained s) := by
  unfold execActivateFirmware
  with_reducible repeat' (first | assumption | exact Kept.sub hm rfl | exact Kept.refl _ _ | refine KeptRes.next ?_ | refine Kept.cond ?_ ?_ | refine KeptRes.cond ?_ ?_ | refine KeptP.cond ?_ ?_ | apply State.raise_keeps | apply State.respondOn_keeps | apply State.updateRow_keeps | refine Kept.foldl ?_ ?_ | intro _ | refine KeptP.foldl ?_ ?_ | refine KeptP.of_eq (by assumption) ?_ | dsimp only | split | dsimp only | refine KeptP.fst ?_ | refine KeptP.mk ?_ | fail_if_no_progress (refine Kept.upd ?_ (by rfl) (by intro p hp; cases p <;> first | rfl | exact (Kept.no hm hp (by decide)).elim)))
theorem execGetStatus_keeps {m : Nat} {r : State} (ep : Nat) (session : Option Nat) (s : State) (hm : Nat.land 16 m = 16) (h : Kept m r s) : KeptRes m r (execGetStatus ep session s) := by
  unfold execGetStatus
  with_reducible repeat' (first | assumption | exact Kept.sub hm rfl | exact Kept.refl _ _ | refine KeptRes.next ?_ | refine Kept.cond ?_ ?_ | refine KeptRes.cond ?_ ?_ | refine KeptP.cond ?_ ?_ | apply State.respondOn_keeps | apply State.updateRow_keeps | refine Kept.foldl ?_ ?_ | intro _ | refine KeptP.foldl ?_ ?_ | refine KeptP.of_eq (by assumption) ?_ | dsimp only | split | dsimp only | refine KeptP.fst ?_ | refine KeptP.mk ?_ | fail_if_no_progress (refine Kept.upd ?_ (by rfl) (by intro p hp; cases p <;> first | rfl | exact (Kept.no hm hp (by decide)).elim)))
theorem execCancelUpdateComponent_keeps {m : Nat} {r : State} (ep : Nat) (session : Option Nat) (s : State) (hm : Nat.land 5242898 m = 5242898) (h : Kept m r s) : KeptRes m r (execCancelUpdateComponent ep session s) := by
  unfold execCancelUpdateComponent
  with_reducible repeat' (first | assumption | exact Kept.sub hm rfl | exact Kept.refl _ _ | refine KeptRes.next ?_ | refine Kept.cond ?_ ?_ | refine KeptRes.cond ?_ ?_ | refine KeptP.cond ?_ ?_ | apply State.raise_keeps | apply State.respondOn_keeps | apply State.setUpdate_keeps | apply State.updateRow_keeps | refine Kept.foldl ?_ ?_ | intro _ | refine KeptP.foldl ?_ ?_ | refine KeptP.of_eq (by assumption) ?_ | dsimp only | split | dsimp only | refine KeptP.fst ?_ | refine KeptP.mk ?_ | fail_if_no_progress (refine Kept.upd ?_ (by rfl) (by intro p hp; cases p <;> first | rfl | exact (Kept.no hm hp (by decide)).elim)))
theorem execCancelUpdate_keeps {m : Nat} {r : State} (ep : Nat) (session : Option Nat) (s : State) (hm : Nat.land 5242898 m = 5242898) (h : Kept m r s) : KeptRes m r (execCancelUpdate ep session s) := by
  unfold execCancelUpdate
  with_reducible repeat' (first | assumption | exact Kept.sub hm rfl | exact Kept.refl _ _ | refine KeptRes.next ?_ | refine Kept.cond ?_ ?_ | refine KeptRes.cond ?_ ?_ | refine KeptP.cond ?_ ?_ | apply State.dropUpdate_keeps | apply State.respondOn_keeps | apply State.updateRow_keeps | refine Kept.foldl ?_ ?_ | intro _ | refine KeptP.foldl ?_ ?_ | refine KeptP.of_eq (by assumption) ?_ | dsimp only | split | dsimp only | refine KeptP.fst ?_ | refine KeptP.mk ?_ | fail_if_no_progress (refine Kept.upd ?_ (by rfl) (by intro p hp; cases p <;> first | rfl | exact (Kept.no hm hp (by decide)).elim)))
theorem execReadSitzmark_keeps {m : Nat} {r : State} (ep : Nat) (entry : Nat) (s : State) (hm : Nat.land 16 m = 16) (h : Kept m r s) : KeptRes m r (execReadSitzmark ep entry s) := by
  unfold execReadSitzmark
  with_reducible repeat' (first | assumption | exact Kept.sub hm rfl | exact Kept.refl _ _ | refine KeptRes.next ?_ | refine Kept.cond ?_ ?_ | refine KeptRes.cond ?_ ?_ | refine KeptP.cond ?_ ?_ | apply State.askOn_keeps | refine Kept.foldl ?_ ?_ | intro _ | refine KeptP.foldl ?_ ?_ | refine KeptP.of_eq (by assumption) ?_ | dsimp only | split | dsimp only | refine KeptP.fst ?_ | refine KeptP.mk ?_ | fail_if_no_progress (refine Kept.upd ?_ (by rfl) (by intro p hp; cases p <;> first | rfl | exact (Kept.no hm hp (by decide)).elim)))
theorem execReadFirst_keeps {m : Nat} {r : State} (ep : Nat) (s : State) (hm : Nat.land 16 m = 16) (h : Kept m r s) : KeptRes m r (execReadFirst ep s) := by
  unfold execReadFirst
  with_reducible repeat' (first | assumption | exact Kept.sub hm rfl | exact Kept.refl _ _ | refine KeptRes.next ?_ | refine Kept.cond ?_ ?_ | refine KeptRes.cond ?_ ?_ | refine KeptP.cond ?_ ?_ | apply State.askOn_keeps | refine Kept.foldl ?_ ?_ | intro _ | refine KeptP.foldl ?_ ?_ | refine KeptP.of_eq (by assumption) ?_ | dsimp only | split | dsimp only | refine KeptP.fst ?_ | refine KeptP.mk ?_ | fail_if_no_progress (refine Kept.upd ?_ (by rfl) (by intro p hp; cases p <;> first | rfl | exact (Kept.no hm hp (by decide)).elim)))
theorem execReadReturn_keeps {m : Nat} {r : State} (ep : Nat) (off : Nat) (len : Nat) (s : State) (hm : Nat.land 16 m = 16) (h : Kept m r s) : KeptRes m r (execReadReturn ep off len s) := by
  unfold execReadReturn
  with_reducible repeat' (first | assumption | exact Kept.sub hm rfl | exact Kept.refl _ _ | refine KeptRes.next ?_ | refine Kept.cond ?_ ?_ | refine KeptRes.cond ?_ ?_ | refine KeptP.cond ?_ ?_ | apply State.askOn_keeps | refine Kept.foldl ?_ ?_ | intro _ | refine KeptP.foldl ?_ ?_ | refine KeptP.of_eq (by assumption) ?_ | dsimp only | split | dsimp only | refine KeptP.fst ?_ | refine KeptP.mk ?_ | fail_if_no_progress (refine Kept.upd ?_ (by rfl) (by intro p hp; cases p <;> first | rfl | exact (Kept.no hm hp (by decide)).elim)))
theorem execReadReg_keeps {m : Nat} {r : State} (ep : Nat) (off : Nat) (s : State) (hm : Nat.land 1048594 m = 1048594) (h : Kept m r s) : KeptRes m r (execReadReg ep off s) := by
  unfold execReadReg
  with_reducible repeat' (first | assumption | exact Kept.sub hm rfl | exact Kept.refl _ _ | refine KeptRes.next ?_ | refine Kept.cond ?_ ?_ | refine KeptRes.cond ?_ ?_ | refine KeptP.cond ?_ ?_ | apply State.readWord_keeps | apply State.respondOn_keeps | refine Kept.foldl ?_ ?_ | intro _ | refine KeptP.foldl ?_ ?_ | refine KeptP.of_eq (by assumption) ?_ | dsimp only | split | dsimp only | refine KeptP.fst ?_ | refine KeptP.mk ?_ | fail_if_no_progress (refine Kept.upd ?_ (by rfl) (by intro p hp; cases p <;> first | rfl | exact (Kept.no hm hp (by decide)).elim)))
theorem State.spdmError_keeps {m : Nat} {r : State} (s : State) (ep : Nat) (code : Nat) (hm : Nat.land 16 m = 16) (h : Kept m r s) : Kept m r (State.spdmError s ep code) := by
  unfold State.spdmError
  with_reducible repeat' (first | assumption | exact Kept.sub hm rfl | exact Kept.refl _ _ | refine KeptRes.next ?_ | refine Kept.cond ?_ ?_ | refine KeptRes.cond ?_ ?_ | refine KeptP.cond ?_ ?_ | apply State.respondOn_keeps | refine Kept.foldl ?_ ?_ | intro _ | refine KeptP.foldl ?_ ?_ | refine KeptP.of_eq (by assumption) ?_ | dsimp only | split | dsimp only | refine KeptP.fst ?_ | refine KeptP.mk ?_ | fail_if_no_progress (refine Kept.upd ?_ (by rfl) (by intro p hp; cases p <;> first | rfl | exact (Kept.no hm hp (by decide)).elim)))
theorem State.setStage_keeps {m : Nat} {r : State} (s : State) (ep : Nat) (n : Nat) (hm : Nat.land 1048576 m = 1048576) (h : Kept m r s) : Kept m r (State.setStage s ep n) := by
  unfold State.setStage
  with_reducible repeat' (first | assumption | exact Kept.sub hm rfl | exact Kept.refl _ _ | refine KeptRes.next ?_ | refine Kept.cond ?_ ?_ | refine KeptRes.cond ?_ ?_ | refine KeptP.cond ?_ ?_ | refine Kept.foldl ?_ ?_ | intro _ | refine KeptP.foldl ?_ ?_ | refine KeptP.of_eq (by assumption) ?_ | dsimp only | split | dsimp only | refine KeptP.fst ?_ | refine KeptP.mk ?_ | fail_if_no_progress (refine Kept.upd ?_ (by rfl) (by intro p hp; cases p <;> first | rfl | exact (Kept.no hm hp (by decide)).elim)))
theorem State.spdmRow_keeps {m : Nat} {r : State} (s : State) (ep stage : Nat) (f : State → State) (hm : Nat.land 16 m = 16) (h : Kept m r s) (hf : ∀ s, Kept m r s → Kept m r (f s)) : KeptRes m r (State.spdmRow s ep stage f) := by
  unfold State.spdmRow
  split
  · exact KeptRes.next h
  · split
    · exact KeptRes.next (State.spdmError_keeps _ _ _ (Kept.sub hm rfl) h)
    · exact KeptRes.next (hf s h)
theorem State.signed_keeps {m : Nat} {r : State} (s : State) (ep : Nat) (code : Nat) (data : List Byte) (hm : Nat.land 24 m = 24) (h : Kept m r s) : Kept m r (State.signed s ep code data) := by
  unfold State.signed
  with_reducible repeat' (first | assumption | exact Kept.sub hm rfl | exact Kept.refl _ _ | refine KeptRes.next ?_ | refine Kept.cond ?_ ?_ | refine KeptRes.cond ?_ ?_ | refine KeptP.cond ?_ ?_ | apply State.respondOn_keeps | apply State.tickFresh_keeps | refine Kept.foldl ?_ ?_ | intro _ | refine KeptP.foldl ?_ ?_ | refine KeptP.of_eq (by assumption) ?_ | dsimp only | split | dsimp only | refine KeptP.fst ?_ | refine KeptP.mk ?_ | fail_if_no_progress (refine Kept.upd ?_ (by rfl) (by intro p hp; cases p <;> first | rfl | exact (Kept.no hm hp (by decide)).elim)))
theorem execGetVersion_keeps {m : Nat} {r : State} (ep : Nat) (s : State) (hm : Nat.land 1048592 m = 1048592) (h : Kept m r s) : KeptRes m r (execGetVersion ep s) := by
  unfold execGetVersion
  with_reducible repeat' (first | assumption | exact Kept.sub hm rfl | exact Kept.refl _ _ | refine KeptRes.next ?_ | refine Kept.cond ?_ ?_ | refine KeptRes.cond ?_ ?_ | refine KeptP.cond ?_ ?_ | apply State.respondOn_keeps | apply State.setStage_keeps | refine Kept.foldl ?_ ?_ | intro _ | refine KeptP.foldl ?_ ?_ | refine KeptP.of_eq (by assumption) ?_ | dsimp only | split | dsimp only | refine KeptP.fst ?_ | refine KeptP.mk ?_ | fail_if_no_progress (refine Kept.upd ?_ (by rfl) (by intro p hp; cases p <;> first | rfl | exact (Kept.no hm hp (by decide)).elim)))
theorem execGetCapabilities_keeps {m : Nat} {r : State} (ep : Nat) (s : State) (hm : Nat.land 1048592 m = 1048592) (h : Kept m r s) : KeptRes m r (execGetCapabilities ep s) := by
  unfold execGetCapabilities
  with_reducible repeat' (first | assumption | exact Kept.sub hm rfl | exact Kept.refl _ _ | refine KeptRes.next ?_ | refine Kept.cond ?_ ?_ | refine KeptRes.cond ?_ ?_ | refine KeptP.cond ?_ ?_ | apply State.respondOn_keeps | apply State.setStage_keeps | apply State.spdmRow_keeps | refine Kept.foldl ?_ ?_ | intro _ | refine KeptP.foldl ?_ ?_ | refine KeptP.of_eq (by assumption) ?_ | dsimp only | split | dsimp only | refine KeptP.fst ?_ | refine KeptP.mk ?_ | fail_if_no_progress (refine Kept.upd ?_ (by rfl) (by intro p hp; cases p <;> first | rfl | exact (Kept.no hm hp (by decide)).elim)))
theorem execNegotiateAlgorithms_keeps {m : Nat} {r : State} (ep : Nat) (offered : Bool) (s : State) (hm : Nat.land 1048592 m = 1048592) (h : Kept m r s) : KeptRes m r (execNegotiateAlgorithms ep offered s) := by
  unfold execNegotiateAlgorithms
  with_reducible repeat' (first | assumption | exact Kept.sub hm rfl | exact Kept.refl _ _ | refine KeptRes.next ?_ | refine Kept.cond ?_ ?_ | refine KeptRes.cond ?_ ?_ | refine KeptP.cond ?_ ?_ | apply State.respondOn_keeps | apply State.setStage_keeps | apply State.spdmError_keeps | apply State.spdmRow_keeps | refine Kept.foldl ?_ ?_ | intro _ | refine KeptP.foldl ?_ ?_ | refine KeptP.of_eq (by assumption) ?_ | dsimp only | split | dsimp only | refine KeptP.fst ?_ | refine KeptP.mk ?_ | fail_if_no_progress (refine Kept.upd ?_ (by rfl) (by intro p hp; cases p <;> first | rfl | exact (Kept.no hm hp (by decide)).elim)))
theorem execGetDigests_keeps {m : Nat} {r : State} (ep : Nat) (s : State) (hm : Nat.land 16 m = 16) (h : Kept m r s) : KeptRes m r (execGetDigests ep s) := by
  unfold execGetDigests
  with_reducible repeat' (first | assumption | exact Kept.sub hm rfl | exact Kept.refl _ _ | refine KeptRes.next ?_ | refine Kept.cond ?_ ?_ | refine KeptRes.cond ?_ ?_ | refine KeptP.cond ?_ ?_ | apply State.respondOn_keeps | apply State.spdmRow_keeps | refine Kept.foldl ?_ ?_ | intro _ | refine KeptP.foldl ?_ ?_ | refine KeptP.of_eq (by assumption) ?_ | dsimp only | split | dsimp only | refine KeptP.fst ?_ | refine KeptP.mk ?_ | fail_if_no_progress (refine Kept.upd ?_ (by rfl) (by intro p hp; cases p <;> first | rfl | exact (Kept.no hm hp (by decide)).elim)))
theorem execGetCertificate_keeps {m : Nat} {r : State} (ep : Nat) (slot : Nat) (off : Nat) (len : Nat) (s : State) (hm : Nat.land 16 m = 16) (h : Kept m r s) : KeptRes m r (execGetCertificate ep slot off len s) := by
  unfold execGetCertificate
  with_reducible repeat' (first | assumption | exact Kept.sub hm rfl | exact Kept.refl _ _ | refine KeptRes.next ?_ | refine Kept.cond ?_ ?_ | refine KeptRes.cond ?_ ?_ | refine KeptP.cond ?_ ?_ | apply State.respondOn_keeps | apply State.spdmError_keeps | apply State.spdmRow_keeps | refine Kept.foldl ?_ ?_ | intro _ | refine KeptP.foldl ?_ ?_ | refine KeptP.of_eq (by assumption) ?_ | dsimp only | split | dsimp only | refine KeptP.fst ?_ | refine KeptP.mk ?_ | fail_if_no_progress (refine Kept.upd ?_ (by rfl) (by intro p hp; cases p <;> first | rfl | exact (Kept.no hm hp (by decide)).elim)))
theorem execChallenge_keeps {m : Nat} {r : State} (ep : Nat) (slot : Nat) (s : State) (hm : Nat.land 24 m = 24) (h : Kept m r s) : KeptRes m r (execChallenge ep slot s) := by
  unfold execChallenge
  with_reducible repeat' (first | assumption | exact Kept.sub hm rfl | exact Kept.refl _ _ | refine KeptRes.next ?_ | refine Kept.cond ?_ ?_ | refine KeptRes.cond ?_ ?_ | refine KeptP.cond ?_ ?_ | apply State.signed_keeps | apply State.spdmError_keeps | apply State.spdmRow_keeps | refine Kept.foldl ?_ ?_ | intro _ | refine KeptP.foldl ?_ ?_ | refine KeptP.of_eq (by assumption) ?_ | dsimp only | split | dsimp only | refine KeptP.fst ?_ | refine KeptP.mk ?_ | fail_if_no_progress (refine Kept.upd ?_ (by rfl) (by intro p hp; cases p <;> first | rfl | exact (Kept.no hm hp (by decide)).elim)))
theorem execGetCsr_keeps {m : Nat} {r : State} (ep : Nat) (s : State) (hm : Nat.land 24 m = 24) (h : Kept m r s) : KeptRes m r (execGetCsr ep s) := by
  unfold execGetCsr
  with_reducible repeat' (first | assumption | exact Kept.sub hm rfl | exact Kept.refl _ _ | refine KeptRes.next ?_ | refine Kept.cond ?_ ?_ | refine KeptRes.cond ?_ ?_ | refine KeptP.cond ?_ ?_ | apply State.signed_keeps | apply State.spdmRow_keeps | refine Kept.foldl ?_ ?_ | intro _ | refine KeptP.foldl ?_ ?_ | refine KeptP.of_eq (by assumption) ?_ | dsimp only | split | dsimp only | refine KeptP.fst ?_ | refine KeptP.mk ?_ | fail_if_no_progress (refine Kept.upd ?_ (by rfl) (by intro p hp; cases p <;> first | rfl | exact (Kept.no hm hp (by decide)).elim)))
theorem execSetCertificate_keeps {m : Nat} {r : State} (ep : Nat) (session : Nat) (slot : Nat) (chain : List Byte) (s : State) (hm : Nat.land 1048592 m = 1048592) (h : Kept m r s) : KeptRes m r (execSetCertificate ep session slot chain s) := by
  unfold execSetCertificate
  with_reducible repeat' (first | assumption | exact Kept.sub hm rfl | exact Kept.refl _ _ | refine KeptRes.next ?_ | refine Kept.cond ?_ ?_ | refine KeptRes.cond ?_ ?_ | refine KeptP.cond ?_ ?_ | apply State.respondOn_keeps | apply State.spdmError_keeps | apply State.spdmRow_keeps | refine Kept.foldl ?_ ?_ | intro _ | refine KeptP.foldl ?_ ?_ | refine KeptP.of_eq (by assumption) ?_ | dsimp only | split | dsimp only | refine KeptP.fst ?_ | refine KeptP.mk ?_ | fail_if_no_progress (refine Kept.upd ?_ (by rfl) (by intro p hp; cases p <;> first | rfl | exact (Kept.no hm hp (by decide)).elim)))
theorem execGetMeasurements_keeps {m : Nat} {r : State} (ep : Nat) (index : Nat) (sign : Bool) (s : State) (hm : Nat.land 24 m = 24) (h : Kept m r s) : KeptRes m r (execGetMeasurements ep index sign s) := by
  unfold execGetMeasurements
  with_reducible repeat' (first | assumption | exact Kept.sub hm rfl | exact Kept.refl _ _ | refine KeptRes.next ?_ | refine Kept.cond ?_ ?_ | refine KeptRes.cond ?_ ?_ | refine KeptP.cond ?_ ?_ | apply State.respondOn_keeps | apply State.signed_keeps | apply State.spdmError_keeps | apply State.spdmRow_keeps | refine Kept.foldl ?_ ?_ | intro _ | refine KeptP.foldl ?_ ?_ | refine KeptP.of_eq (by assumption) ?_ | dsimp only | split | dsimp only | refine KeptP.fst ?_ | refine KeptP.mk ?_ | fail_if_no_progress (refine Kept.upd ?_ (by rfl) (by intro p hp; cases p <;> first | rfl | exact (Kept.no hm hp (by decide)).elim)))
theorem execKeyExchange_keeps {m : Nat} {r : State} (ep : Nat) (auth : Bool) (s : State) (hm : Nat.land 1048600 m = 1048600) (h : Kept m r s) : KeptRes m r (execKeyExchange ep auth s) := by
  unfold execKeyExchange
  with_reducible repeat' (first | assumption | exact Kept.sub hm rfl | exact Kept.refl _ _ | refine KeptRes.next ?_ | refine Kept.cond ?_ ?_ | refine KeptRes.cond ?_ ?_ | refine KeptP.cond ?_ ?_ | apply State.signed_keeps | apply State.spdmError_keeps | apply State.spdmRow_keeps | refine Kept.foldl ?_ ?_ | intro _ | refine KeptP.foldl ?_ ?_ | refine KeptP.of_eq (by assumption) ?_ | dsimp only | split | dsimp only | refine KeptP.fst ?_ | refine KeptP.mk ?_ | fail_if_no_progress (refine Kept.upd ?_ (by rfl) (by intro p hp; cases p <;> first | rfl | exact (Kept.no hm hp (by decide)).elim)))
theorem State.dropSession_keeps {m : Nat} {r : State} (s : State) (ep : Nat) (id : Nat) (hm : Nat.land 1048576 m = 1048576) (h : Kept m r s) : Kept m r (State.dropSession s ep id) := by
  unfold State.dropSession
  with_reducible repeat' (first | assumption | exact Kept.sub hm rfl | exact Kept.refl _ _ | refine KeptRes.next ?_ | refine Kept.cond ?_ ?_ | refine KeptRes.cond ?_ ?_ | refine KeptP.cond ?_ ?_ | refine Kept.foldl ?_ ?_ | intro _ | refine KeptP.foldl ?_ ?_ | refine KeptP.of_eq (by assumption) ?_ | dsimp only | split | dsimp only | refine KeptP.fst ?_ | refine KeptP.mk ?_ | fail_if_no_progress (refine Kept.upd ?_ (by rfl) (by intro p hp; cases p <;> first | rfl | exact (Kept.no hm hp (by decide)).elim)))
theorem State.portSessionFails_keeps {m : Nat} {r : State} (s : State) (p : Nat) (hm : Nat.land 8341522 m = 8341522) (h : Kept m r s) : Kept m r (State.portSessionFails s p) := by
  unfold State.portSessionFails
  with_reducible repeat' (first | assumption | exact Kept.sub hm rfl | exact Kept.refl _ _ | refine KeptRes.next ?_ | refine Kept.cond ?_ ?_ | refine KeptRes.cond ?_ ?_ | refine KeptP.cond ?_ ?_ | apply State.failPort_keeps | apply State.raise_keeps | refine Kept.foldl ?_ ?_ | intro _ | refine KeptP.foldl ?_ ?_ | refine KeptP.of_eq (by assumption) ?_ | dsimp only | split | dsimp only | refine KeptP.fst ?_ | refine KeptP.mk ?_ | fail_if_no_progress (refine Kept.upd ?_ (by rfl) (by intro p hp; cases p <;> first | rfl | exact (Kept.no hm hp (by decide)).elim)))
theorem execFinish_keeps {m : Nat} {r : State} (ep : Nat) (session : Nat) (partner : Partner) (s : State) (hm : Nat.land 8341522 m = 8341522) (h : Kept m r s) : KeptRes m r (execFinish ep session partner s) := by
  unfold execFinish
  with_reducible repeat' (first | assumption | exact Kept.sub hm rfl | exact Kept.refl _ _ | refine KeptRes.next ?_ | refine Kept.cond ?_ ?_ | refine KeptRes.cond ?_ ?_ | refine KeptP.cond ?_ ?_ | apply State.dropSession_keeps | apply State.portSessionFails_keeps | apply State.respondOn_keeps | apply State.setPort_keeps | apply State.spdmError_keeps | refine Kept.foldl ?_ ?_ | intro _ | refine KeptP.foldl ?_ ?_ | refine KeptP.of_eq (by assumption) ?_ | dsimp only | split | dsimp only | refine KeptP.fst ?_ | refine KeptP.mk ?_ | fail_if_no_progress (refine Kept.upd ?_ (by rfl) (by intro p hp; cases p <;> first | rfl | exact (Kept.no hm hp (by decide)).elim)))
theorem execSpdmSessionTimeout_keeps {m : Nat} {r : State} (port : Nat) (s : State) (hm : Nat.land 8341522 m = 8341522) (h : Kept m r s) : KeptRes m r (execSpdmSessionTimeout port s) := by
  unfold execSpdmSessionTimeout
  with_reducible repeat' (first | assumption | exact Kept.sub hm rfl | exact Kept.refl _ _ | refine KeptRes.next ?_ | refine Kept.cond ?_ ?_ | refine KeptRes.cond ?_ ?_ | refine KeptP.cond ?_ ?_ | apply State.portSessionFails_keeps | refine Kept.foldl ?_ ?_ | intro _ | refine KeptP.foldl ?_ ?_ | refine KeptP.of_eq (by assumption) ?_ | dsimp only | split | dsimp only | refine KeptP.fst ?_ | refine KeptP.mk ?_ | fail_if_no_progress (refine Kept.upd ?_ (by rfl) (by intro p hp; cases p <;> first | rfl | exact (Kept.no hm hp (by decide)).elim)))
theorem State.inSession_keeps {m : Nat} {r : State} (s : State) (ep session : Nat) (f : State → State) (hm : Nat.land 16 m = 16) (h : Kept m r s) (hf : ∀ s, Kept m r s → Kept m r (f s)) : KeptRes m r (State.inSession s ep session f) := by
  unfold State.inSession
  split
  · exact KeptRes.next h
  · split
    · exact KeptRes.next (hf s h)
    · exact KeptRes.next (State.spdmError_keeps _ _ _ (Kept.sub hm rfl) h)
theorem execSpdmHeartbeat_keeps {m : Nat} {r : State} (ep : Nat) (session : Nat) (s : State) (hm : Nat.land 16 m = 16) (h : Kept m r s) : KeptRes m r (execSpdmHeartbeat ep session s) := by
  unfold execSpdmHeartbeat
  with_reducible repeat' (first | assumption | exact Kept.sub hm rfl | exact Kept.refl _ _ | refine KeptRes.next ?_ | refine Kept.cond ?_ ?_ | refine KeptRes.cond ?_ ?_ | refine KeptP.cond ?_ ?_ | apply State.inSession_keeps | apply State.respondOn_keeps | refine Kept.foldl ?_ ?_ | intro _ | refine KeptP.foldl ?_ ?_ | refine KeptP.of_eq (by assumption) ?_ | dsimp only | split | dsimp only | refine KeptP.fst ?_ | refine KeptP.mk ?_ | fail_if_no_progress (refine Kept.upd ?_ (by rfl) (by intro p hp; cases p <;> first | rfl | exact (Kept.no hm hp (by decide)).elim)))
theorem execKeyUpdate_keeps {m : Nat} {r : State} (ep : Nat) (session : Nat) (s : State) (hm : Nat.land 1048592 m = 1048592) (h : Kept m r s) : KeptRes m r (execKeyUpdate ep session s) := by
  unfold execKeyUpdate
  with_reducible repeat' (first | assumption | exact Kept.sub hm rfl | exact Kept.refl _ _ | refine KeptRes.next ?_ | refine Kept.cond ?_ ?_ | refine KeptRes.cond ?_ ?_ | refine KeptP.cond ?_ ?_ | apply State.inSession_keeps | apply State.respondOn_keeps | refine Kept.foldl ?_ ?_ | intro _ | refine KeptP.foldl ?_ ?_ | refine KeptP.of_eq (by assumption) ?_ | dsimp only | split | dsimp only | refine KeptP.fst ?_ | refine KeptP.mk ?_ | fail_if_no_progress (refine Kept.upd ?_ (by rfl) (by intro p hp; cases p <;> first | rfl | exact (Kept.no hm hp (by decide)).elim)))
theorem execEndSession_keeps {m : Nat} {r : State} (ep : Nat) (session : Nat) (s : State) (hm : Nat.land 1064976 m = 1064976) (h : Kept m r s) : KeptRes m r (execEndSession ep session s) := by
  unfold execEndSession
  with_reducible repeat' (first | assumption | exact Kept.sub hm rfl | exact Kept.refl _ _ | refine KeptRes.next ?_ | refine Kept.cond ?_ ?_ | refine KeptRes.cond ?_ ?_ | refine KeptP.cond ?_ ?_ | apply State.dropSession_keeps | apply State.inSession_keeps | apply State.respondOn_keeps | apply State.setPort_keeps | refine Kept.foldl ?_ ?_ | intro _ | refine KeptP.foldl ?_ ?_ | refine KeptP.of_eq (by assumption) ?_ | dsimp only | split | dsimp only | refine KeptP.fst ?_ | refine KeptP.mk ?_ | fail_if_no_progress (refine Kept.upd ?_ (by rfl) (by intro p hp; cases p <;> first | rfl | exact (Kept.no hm hp (by decide)).elim)))
theorem mask_registerWrite (src addr len value) : Nat.land 16777210 (partsMask (changes (.registerWrite src addr len value))) = 16777210 :=
  show Nat.land 16777210 (partsMask [.regs, .fresh, .out, .cmdq, .pst, .xlt, .store, .core, .emb, .vec, .rpl, .kvp, .hxl, .coh, .gate, .err, .rack, .sys, .mgt, .entries, .msix, .mem]) = 16777210 from by decide
theorem mask_eventEnWrite (src off value) : Nat.land 4194322 (partsMask (changes (.eventEnWrite src off value))) = 4194322 :=
  show Nat.land 4194322 (partsMask [.regs, .out, .msix]) = 4194322 from by decide
theorem mask_msixVectorUnmask (func vec) : Nat.land 4194320 (partsMask (changes (.msixVectorUnmask func vec))) = 4194320 :=
  show Nat.land 4194320 (partsMask [.out, .msix]) = 4194320 from by decide
theorem mask_sqTailDoorbell (src qp tail) : Nat.land 5767474 (partsMask (changes (.sqTailDoorbell src qp tail))) = 5767474 :=
  show Nat.land 5767474 (partsMask [.regs, .out, .cmdq, .store, .sys, .mgt, .msix]) = 5767474 from by decide
theorem mask_cqHeadDoorbell (src qp head) : Nat.land 5767474 (partsMask (changes (.cqHeadDoorbell src qp head))) = 5767474 :=
  show Nat.land 5767474 (partsMask [.regs, .out, .cmdq, .store, .sys, .mgt, .msix]) = 5767474 from by decide
theorem mask_sqFetch (src qp result packet) : Nat.land 7340210 (partsMask (changes (.sqFetch src qp result packet))) = 7340210 :=
  show Nat.land 7340210 (partsMask [.regs, .out, .cmdq, .xlt, .mgt, .entries, .msix]) = 7340210 from by decide
theorem mask_intakeAccept (entry result block) : Nat.land 16777146 (partsMask (changes (.intakeAccept entry result block))) = 16777146 :=
  show Nat.land 16777146 (partsMask [.regs, .fresh, .out, .cmdq, .xlt, .store, .core, .emb, .vec, .rpl, .kvp, .hxl, .coh, .gate, .err, .rack, .sys, .mgt, .entries, .msix, .mem]) = 16777146 from by decide
theorem mask_barrierRelease (entry) : Nat.land 2097152 (partsMask (changes (.barrierRelease entry))) = 2097152 :=
  show Nat.land 2097152 (partsMask [.entries]) = 2097152 from by decide
theorem mask_work (origin id epoch cls forwarded role slot kind addr data) : Nat.land 16772538 (partsMask (changes (.work origin id epoch cls forwarded role slot kind addr data))) = 16772538 :=
  show Nat.land 16772538 (partsMask [.regs, .fresh, .out, .cmdq, .xlt, .store, .emb, .vec, .kvp, .hxl, .coh, .gate, .err, .rack, .sys, .mgt, .entries, .msix, .mem]) = 16772538 from by decide
theorem mask_workAnswer (entry item kind status subcode begun result) : Nat.land 16773050 (partsMask (changes (.workAnswer entry item kind status subcode begun result))) = 16773050 :=
  show Nat.land 16773050 (partsMask [.regs, .fresh, .out, .cmdq, .xlt, .store, .core, .emb, .vec, .kvp, .hxl, .coh, .gate, .err, .rack, .sys, .mgt, .entries, .msix, .mem]) = 16773050 from by decide
theorem mask_workCancel (origin id) : Nat.land 16760730 (partsMask (changes (.workCancel origin id))) = 16760730 :=
  show Nat.land 16760730 (partsMask [.regs, .fresh, .out, .xlt, .store, .core, .emb, .vec, .rpl, .kvp, .coh, .gate, .err, .rack, .sys, .mgt, .entries, .msix, .mem]) = 16760730 from by decide
theorem mask_workHold (origin id) : Nat.land 2359312 (partsMask (changes (.workHold origin id))) = 2359312 :=
  show Nat.land 2359312 (partsMask [.out, .rack, .entries]) = 2359312 from by decide
theorem mask_cancelResend (entry) : Nat.land 16 (partsMask (changes (.cancelResend entry))) = 16 :=
  show Nat.land 16 (partsMask [.out]) = 16 from by decide
theorem mask_commandComplete (entry delivered) : Nat.land 16777146 (partsMask (changes (.commandComplete entry delivered))) = 16777146 :=
  show Nat.land 16777146 (partsMask [.regs, .fresh, .out, .cmdq, .xlt, .store, .core, .emb, .vec, .rpl, .kvp, .hxl, .coh, .gate, .err, .rack, .sys, .mgt, .entries, .msix, .mem]) = 16777146 from by decide
theorem mask_cqCoalesceTimeout (src qp) : Nat.land 4194352 (partsMask (changes (.cqCoalesceTimeout src qp))) = 4194352 :=
  show Nat.land 4194352 (partsMask [.out, .cmdq, .msix]) = 4194352 from by decide
theorem mask_commandTimeout (entry) : Nat.land 16752538 (partsMask (changes (.commandTimeout entry))) = 16752538 :=
  show Nat.land 16752538 (partsMask [.regs, .fresh, .out, .xlt, .store, .core, .emb, .vec, .rpl, .coh, .gate, .err, .rack, .sys, .mgt, .entries, .msix, .mem]) = 16752538 from by decide
theorem mask_abortQtag (src qp qtag) : Nat.land 16752570 (partsMask (changes (.abortQtag src qp qtag))) = 16752570 :=
  show Nat.land 16752570 (partsMask [.regs, .fresh, .out, .cmdq, .xlt, .store, .core, .emb, .vec, .rpl, .coh, .gate, .err, .rack, .sys, .mgt, .entries, .msix, .mem]) = 16752570 from by decide
theorem mask_abortAllQp (src qp) : Nat.land 16752570 (partsMask (changes (.abortAllQp src qp))) = 16752570 :=
  show Nat.land 16752570 (partsMask [.regs, .fresh, .out, .cmdq, .xlt, .store, .core, .emb, .vec, .rpl, .coh, .gate, .err, .rack, .sys, .mgt, .entries, .msix, .mem]) = 16752570 from by decide
theorem mask_resultRelease (src handles) : Nat.land 4194354 (partsMask (changes (.resultRelease src handles))) = 4194354 :=
  show Nat.land 4194354 (partsMask [.regs, .out, .cmdq, .msix]) = 4194354 from by decide
theorem mask_qpEnable (src) : Nat.land 4194354 (partsMask (changes (.qpEnable src))) = 4194354 :=
  show Nat.land 4194354 (partsMask [.regs, .out, .cmdq, .msix]) = 4194354 from by decide
theorem mask_qpDisable (src) : Nat.land 4194354 (partsMask (changes (.qpDisable src))) = 4194354 :=
  show Nat.land 4194354 (partsMask [.regs, .out, .cmdq, .msix]) = 4194354 from by decide
theorem mask_functionLevelReset (src) : Nat.land 16752570 (partsMask (changes (.functionLevelReset src))) = 16752570 :=
  show Nat.land 16752570 (partsMask [.regs, .fresh, .out, .cmdq, .xlt, .store, .core, .emb, .vec, .rpl, .coh, .gate, .err, .rack, .sys, .mgt, .entries, .msix, .mem]) = 16752570 from by decide
theorem mask_pcieLinkDown (port) : Nat.land 16752570 (partsMask (changes (.pcieLinkDown port))) = 16752570 :=
  show Nat.land 16752570 (partsMask [.regs, .fresh, .out, .cmdq, .xlt, .store, .core, .emb, .vec, .rpl, .coh, .gate, .err, .rack, .sys, .mgt, .entries, .msix, .mem]) = 16752570 from by decide
theorem mask_fnAdmSelWrite (src func) : Nat.land 2 (partsMask (changes (.fnAdmSelWrite src func))) = 2 :=
  show Nat.land 2 (partsMask [.regs]) = 2 from by decide
theorem mask_fnAdmApply (src) : Nat.land 6307890 (partsMask (changes (.fnAdmApply src))) = 6307890 :=
  show Nat.land 6307890 (partsMask [.regs, .out, .cmdq, .hxl, .entries, .msix]) = 6307890 from by decide
theorem mask_fnHxlSelWrite (src port) : Nat.land 2 (partsMask (changes (.fnHxlSelWrite src port))) = 2 :=
  show Nat.land 2 (partsMask [.regs]) = 2 from by decide
theorem mask_fnHxlApply (src) : Nat.land 6307890 (partsMask (changes (.fnHxlApply src))) = 6307890 :=
  show Nat.land 6307890 (partsMask [.regs, .out, .cmdq, .hxl, .entries, .msix]) = 6307890 from by decide
theorem mask_frameBoundary : Nat.land 16772606 (partsMask (changes .frameBoundary)) = 16772606 :=
  show Nat.land 16772606 (partsMask [.regs, .frame, .fresh, .out, .cmdq, .pst, .xlt, .store, .emb, .vec, .kvp, .hxl, .coh, .gate, .err, .rack, .sys, .mgt, .entries, .msix, .mem]) = 16772606 from by decide
theorem mask_slotIssue (kind inst slot queue blocked) : Nat.land 5390682 (partsMask (changes (.slotIssue kind inst slot queue blocked))) = 5390682 :=
  show Nat.land 5390682 (partsMask [.regs, .fresh, .out, .pst, .store, .hxl, .err, .mgt, .msix]) = 5390682 from by decide
theorem mask_pstImageLoad (src) : Nat.land 4194386 (partsMask (changes (.pstImageLoad src))) = 4194386 :=
  show Nat.land 4194386 (partsMask [.regs, .out, .pst, .msix]) = 4194386 from by decide
theorem mask_pstLoadDone (result image) : Nat.land 4194386 (partsMask (changes (.pstLoadDone result image))) = 4194386 :=
  show Nat.land 4194386 (partsMask [.regs, .out, .pst, .msix]) = 4194386 from by decide
theorem mask_pstSwitchArm (src) : Nat.land 4194386 (partsMask (changes (.pstSwitchArm src))) = 4194386 :=
  show Nat.land 4194386 (partsMask [.regs, .out, .pst, .msix]) = 4194386 from by decide
theorem mask_pstSwitchCancel (src) : Nat.land 4194386 (partsMask (changes (.pstSwitchCancel src))) = 4194386 :=
  show Nat.land 4194386 (partsMask [.regs, .out, .pst, .msix]) = 4194386 from by decide
theorem mask_tableSwitch : Nat.land 4210770 (partsMask (changes .tableSwitch)) = 4210770 :=
  show Nat.land 4210770 (partsMask [.regs, .out, .pst, .hxl, .msix]) = 4210770 from by decide
theorem mask_epoch (port msg stamp) : Nat.land 6045782 (partsMask (changes (.epoch port msg stamp))) = 6045782 :=
  show Nat.land 6045782 (partsMask [.regs, .frame, .out, .pst, .hxl, .rack, .sys, .mgt, .msix]) = 6045782 from by decide
theorem mask_alignWindowEnd : Nat.land 16772602 (partsMask (changes .alignWindowEnd)) = 16772602 :=
  show Nat.land 16772602 (partsMask [.regs, .fresh, .out, .cmdq, .pst, .xlt, .store, .emb, .vec, .kvp, .hxl, .coh, .gate, .err, .rack, .sys, .mgt, .entries, .msix, .mem]) = 16772602 from by decide
theorem mask_parentLost : Nat.land 5767250 (partsMask (changes .parentLost)) = 5767250 :=
  show Nat.land 5767250 (partsMask [.regs, .out, .pst, .sys, .mgt, .msix]) = 5767250 from by decide
theorem mask_holdoverExpiry : Nat.land 4194386 (partsMask (changes .holdoverExpiry)) = 4194386 :=
  show Nat.land 4194386 (partsMask [.regs, .out, .pst, .msix]) = 4194386 from by decide
theorem mask_alignCtrlWrite (src value) : Nat.land 16772602 (partsMask (changes (.alignCtrlWrite src value))) = 16772602 :=
  show Nat.land 16772602 (partsMask [.regs, .fresh, .out, .cmdq, .pst, .xlt, .store, .emb, .vec, .kvp, .hxl, .coh, .gate, .err, .rack, .sys, .mgt, .entries, .msix, .mem]) = 16772602 from by decide
theorem mask_pstFrameLoRead (src addr len) : Nat.land 1048594 (partsMask (changes (.pstFrameLoRead src addr len))) = 1048594 :=
  show Nat.land 1048594 (partsMask [.regs, .out, .mgt]) = 1048594 from by decide
theorem mask_xltCtxSelWrite (src ctx) : Nat.land 2 (partsMask (changes (.xltCtxSelWrite src ctx))) = 2 :=
  show Nat.land 2 (partsMask [.regs]) = 2 from by decide
theorem mask_xltSegSelWrite (src seg) : Nat.land 2 (partsMask (changes (.xltSegSelWrite src seg))) = 2 :=
  show Nat.land 2 (partsMask [.regs]) = 2 from by decide
theorem mask_xltApplyCtx (src both) : Nat.land 6619282 (partsMask (changes (.xltApplyCtx src both))) = 6619282 :=
  show Nat.land 6619282 (partsMask [.regs, .out, .xlt, .gate, .rack, .entries, .msix]) = 6619282 from by decide
theorem mask_xltApplySeg (src both) : Nat.land 6619282 (partsMask (changes (.xltApplySeg src both))) = 6619282 :=
  show Nat.land 6619282 (partsMask [.regs, .out, .xlt, .gate, .rack, .entries, .msix]) = 6619282 from by decide
theorem mask_xltAtcFlush (src port0 port1) : Nat.land 128 (partsMask (changes (.xltAtcFlush src port0 port1))) = 128 :=
  show Nat.land 128 (partsMask [.xlt]) = 128 from by decide
theorem mask_atsInvalidationRequest (port func tag page pages) : Nat.land 128 (partsMask (changes (.atsInvalidationRequest port func tag page pages))) = 128 :=
  show Nat.land 128 (partsMask [.xlt]) = 128 from by decide
theorem mask_atsInvalidationCompletion (port tag) : Nat.land 4194450 (partsMask (changes (.atsInvalidationCompletion port tag))) = 4194450 :=
  show Nat.land 4194450 (partsMask [.regs, .out, .xlt, .msix]) = 4194450 from by decide
theorem mask_translationCompletion (func page pages result write) : Nat.land 16777114 (partsMask (changes (.translationCompletion func page pages result write))) = 16777114 :=
  show Nat.land 16777114 (partsMask [.regs, .fresh, .out, .xlt, .store, .core, .emb, .vec, .rpl, .kvp, .hxl, .coh, .gate, .err, .rack, .sys, .mgt, .entries, .msix, .mem]) = 16777114 from by decide
theorem mask_prgResponse (group code) : Nat.land 16777146 (partsMask (changes (.prgResponse group code))) = 16777146 :=
  show Nat.land 16777146 (partsMask [.regs, .fresh, .out, .cmdq, .xlt, .store, .core, .emb, .vec, .rpl, .kvp, .hxl, .coh, .gate, .err, .rack, .sys, .mgt, .entries, .msix, .mem]) = 16777146 from by decide
theorem mask_priTimeout (group) : Nat.land 16777114 (partsMask (changes (.priTimeout group))) = 16777114 :=
  show Nat.land 16777114 (partsMask [.regs, .fresh, .out, .xlt, .store, .core, .emb, .vec, .rpl, .kvp, .hxl, .coh, .gate, .err, .rack, .sys, .mgt, .entries, .msix, .mem]) = 16777114 from by decide
theorem mask_priReenable (port) : Nat.land 32 (partsMask (changes (.priReenable port))) = 32 :=
  show Nat.land 32 (partsMask [.cmdq]) = 32 from by decide
theorem mask_hostDmaCompletion (entry off result data) : Nat.land 16777114 (partsMask (changes (.hostDmaCompletion entry off result data))) = 16777114 :=
  show Nat.land 16777114 (partsMask [.regs, .fresh, .out, .xlt, .store, .core, .emb, .vec, .rpl, .kvp, .hxl, .coh, .gate, .err, .rack, .sys, .mgt, .entries, .msix, .mem]) = 16777114 from by decide
theorem mask_nop (entry) : Nat.land 2097152 (partsMask (changes (.nop entry))) = 2097152 :=
  show Nat.land 2097152 (partsMask [.entries]) = 2097152 from by decide
theorem mask_hostToStore (entry) : Nat.land 16777114 (partsMask (changes (.hostToStore entry))) = 16777114 :=
  show Nat.land 16777114 (partsMask [.regs, .fresh, .out, .xlt, .store, .core, .emb, .vec, .rpl, .kvp, .hxl, .coh, .gate, .err, .rack, .sys, .mgt, .entries, .msix, .mem]) = 16777114 from by decide
theorem mask_storeToHost (entry) : Nat.land 16777114 (partsMask (changes (.storeToHost entry))) = 16777114 :=
  show Nat.land 16777114 (partsMask [.regs, .fresh, .out, .xlt, .store, .core, .emb, .vec, .rpl, .kvp, .hxl, .coh, .gate, .err, .rack, .sys, .mgt, .entries, .msix, .mem]) = 16777114 from by decide
theorem mask_storeCopy (entry) : Nat.land 16771474 (partsMask (changes (.storeCopy entry))) = 16771474 :=
  show Nat.land 16771474 (partsMask [.regs, .out, .xlt, .store, .vec, .kvp, .hxl, .coh, .gate, .err, .rack, .sys, .mgt, .entries, .msix, .mem]) = 16771474 from by decide
theorem mask_prefetchHost (entry) : Nat.land 16777114 (partsMask (changes (.prefetchHost entry))) = 16777114 :=
  show Nat.land 16777114 (partsMask [.regs, .fresh, .out, .xlt, .store, .core, .emb, .vec, .rpl, .kvp, .hxl, .coh, .gate, .err, .rack, .sys, .mgt, .entries, .msix, .mem]) = 16777114 from by decide
theorem mask_advise (entry) : Nat.land 6553874 (partsMask (changes (.advise entry))) = 6553874 :=
  show Nat.land 6553874 (partsMask [.regs, .out, .store, .rack, .entries, .msix]) = 6553874 from by decide
theorem mask_migrateIn (entry) : Nat.land 16777114 (partsMask (changes (.migrateIn entry))) = 16777114 :=
  show Nat.land 16777114 (partsMask [.regs, .fresh, .out, .xlt, .store, .core, .emb, .vec, .rpl, .kvp, .hxl, .coh, .gate, .err, .rack, .sys, .mgt, .entries, .msix, .mem]) = 16777114 from by decide
theorem mask_migrateOut (entry) : Nat.land 16777114 (partsMask (changes (.migrateOut entry))) = 16777114 :=
  show Nat.land 16777114 (partsMask [.regs, .fresh, .out, .xlt, .store, .core, .emb, .vec, .rpl, .kvp, .hxl, .coh, .gate, .err, .rack, .sys, .mgt, .entries, .msix, .mem]) = 16777114 from by decide
theorem mask_invalidate (entry) : Nat.land 2097152 (partsMask (changes (.invalidate entry))) = 2097152 :=
  show Nat.land 2097152 (partsMask [.entries]) = 2097152 from by decide
theorem mask_revoke (entry) : Nat.land 16771474 (partsMask (changes (.revoke entry))) = 16771474 :=
  show Nat.land 16771474 (partsMask [.regs, .out, .xlt, .store, .vec, .kvp, .hxl, .coh, .gate, .err, .rack, .sys, .mgt, .entries, .msix, .mem]) = 16771474 from by decide
theorem mask_revokeComplete (ctx seg) : Nat.land 16771474 (partsMask (changes (.revokeComplete ctx seg))) = 16771474 :=
  show Nat.land 16771474 (partsMask [.regs, .out, .xlt, .store, .vec, .kvp, .hxl, .coh, .gate, .err, .rack, .sys, .mgt, .entries, .msix, .mem]) = 16771474 from by decide
theorem mask_tierCtrlLock (src) : Nat.land 2 (partsMask (changes (.tierCtrlLock src))) = 2 :=
  show Nat.land 2 (partsMask [.regs]) = 2 from by decide
theorem mask_place (entry) : Nat.land 2359570 (partsMask (changes (.place entry))) = 2359570 :=
  show Nat.land 2359570 (partsMask [.regs, .out, .store, .rack, .entries]) = 2359570 from by decide
theorem mask_seal (entry) : Nat.land 2359570 (partsMask (changes (.seal entry))) = 2359570 :=
  show Nat.land 2359570 (partsMask [.regs, .out, .store, .rack, .entries]) = 2359570 from by decide
theorem mask_raise (entry) : Nat.land 7602450 (partsMask (changes (.raise entry))) = 7602450 :=
  show Nat.land 7602450 (partsMask [.regs, .out, .store, .rack, .mgt, .entries, .msix]) = 7602450 from by decide
theorem mask_lower (entry) : Nat.land 2359568 (partsMask (changes (.lower entry))) = 2359568 :=
  show Nat.land 2359568 (partsMask [.out, .store, .rack, .entries]) = 2359568 from by decide
theorem mask_residency (entry) : Nat.land 2359312 (partsMask (changes (.residency entry))) = 2359312 :=
  show Nat.land 2359312 (partsMask [.out, .rack, .entries]) = 2359312 from by decide
theorem mask_chairliftMoveStart (home page) : Nat.land 256 (partsMask (changes (.chairliftMoveStart home page))) = 256 :=
  show Nat.land 256 (partsMask [.store]) = 256 from by decide
theorem mask_moveDirectorySwitch (page) : Nat.land 16772538 (partsMask (changes (.moveDirectorySwitch page))) = 16772538 :=
  show Nat.land 16772538 (partsMask [.regs, .fresh, .out, .cmdq, .xlt, .store, .emb, .vec, .kvp, .hxl, .coh, .gate, .err, .rack, .sys, .mgt, .entries, .msix, .mem]) = 16772538 from by decide
theorem mask_journalWaitResume (entry granule) : Nat.land 16777146 (partsMask (changes (.journalWaitResume entry granule))) = 16777146 :=
  show Nat.land 16777146 (partsMask [.regs, .fresh, .out, .cmdq, .xlt, .store, .core, .emb, .vec, .rpl, .kvp, .hxl, .coh, .gate, .err, .rack, .sys, .mgt, .entries, .msix, .mem]) = 16777146 from by decide
theorem mask_heatEpochEnd : Nat.land 256 (partsMask (changes .heatEpochEnd)) = 256 :=
  show Nat.land 256 (partsMask [.store]) = 256 from by decide
theorem mask_driftSample (kind unit t v osc) : Nat.land 256 (partsMask (changes (.driftSample kind unit t v osc))) = 256 :=
  show Nat.land 256 (partsMask [.store]) = 256 from by decide
theorem mask_deviceTempRead (kind unit temp twice) : Nat.land 4194578 (partsMask (changes (.deviceTempRead kind unit temp twice))) = 4194578 :=
  show Nat.land 4194578 (partsMask [.regs, .out, .store, .msix]) = 4194578 from by decide
theorem mask_braceAreaErased (half) : Nat.land 4194578 (partsMask (changes (.braceAreaErased half))) = 4194578 :=
  show Nat.land 4194578 (partsMask [.regs, .out, .store, .msix]) = 4194578 from by decide
theorem mask_metadataCheckpoint : Nat.land 256 (partsMask (changes .metadataCheckpoint)) = 256 :=
  show Nat.land 256 (partsMask [.store]) = 256 from by decide
theorem mask_invocationStart (core) : Nat.land 16648986 (partsMask (changes (.invocationStart core))) = 16648986 :=
  show Nat.land 16648986 (partsMask [.regs, .fresh, .out, .store, .core, .vec, .err, .rack, .sys, .mgt, .entries, .msix, .mem]) = 16648986 from by decide
theorem mask_recipeNop (core) : Nat.land 512 (partsMask (changes (.recipeNop core))) = 512 :=
  show Nat.land 512 (partsMask [.core]) = 512 from by decide
theorem mask_recipeLoad (core) : Nat.land 16648986 (partsMask (changes (.recipeLoad core))) = 16648986 :=
  show Nat.land 16648986 (partsMask [.regs, .fresh, .out, .store, .core, .vec, .err, .rack, .sys, .mgt, .entries, .msix, .mem]) = 16648986 from by decide
theorem mask_recipeStore (core) : Nat.land 16648986 (partsMask (changes (.recipeStore core))) = 16648986 :=
  show Nat.land 16648986 (partsMask [.regs, .fresh, .out, .store, .core, .vec, .err, .rack, .sys, .mgt, .entries, .msix, .mem]) = 16648986 from by decide
theorem mask_recipeGather (core) : Nat.land 16648986 (partsMask (changes (.recipeGather core))) = 16648986 :=
  show Nat.land 16648986 (partsMask [.regs, .fresh, .out, .store, .core, .vec, .err, .rack, .sys, .mgt, .entries, .msix, .mem]) = 16648986 from by decide
theorem mask_recipeScatter (core) : Nat.land 16648986 (partsMask (changes (.recipeScatter core))) = 16648986 :=
  show Nat.land 16648986 (partsMask [.regs, .fresh, .out, .store, .core, .vec, .err, .rack, .sys, .mgt, .entries, .msix, .mem]) = 16648986 from by decide
theorem mask_atomicAdd (core) : Nat.land 16648986 (partsMask (changes (.atomicAdd core))) = 16648986 :=
  show Nat.land 16648986 (partsMask [.regs, .fresh, .out, .store, .core, .vec, .err, .rack, .sys, .mgt, .entries, .msix, .mem]) = 16648986 from by decide
theorem mask_loop (core) : Nat.land 512 (partsMask (changes (.loop core))) = 512 :=
  show Nat.land 512 (partsMask [.core]) = 512 from by decide
theorem mask_endloop (core) : Nat.land 512 (partsMask (changes (.endloop core))) = 512 :=
  show Nat.land 512 (partsMask [.core]) = 512 from by decide
theorem mask_signal (core) : Nat.land 16714522 (partsMask (changes (.signal core))) = 16714522 :=
  show Nat.land 16714522 (partsMask [.regs, .fresh, .out, .store, .core, .vec, .gate, .err, .rack, .sys, .mgt, .entries, .msix, .mem]) = 16714522 from by decide
theorem mask_flags (core) : Nat.land 512 (partsMask (changes (.flags core))) = 512 :=
  show Nat.land 512 (partsMask [.core]) = 512 from by decide
theorem mask_recipeEnd (core) : Nat.land 16648986 (partsMask (changes (.recipeEnd core))) = 16648986 :=
  show Nat.land 16648986 (partsMask [.regs, .fresh, .out, .store, .core, .vec, .err, .rack, .sys, .mgt, .entries, .msix, .mem]) = 16648986 from by decide
theorem mask_copy (core) : Nat.land 16648986 (partsMask (changes (.copy core))) = 16648986 :=
  show Nat.land 16648986 (partsMask [.regs, .fresh, .out, .store, .core, .vec, .err, .rack, .sys, .mgt, .entries, .msix, .mem]) = 16648986 from by decide
theorem mask_add (core) : Nat.land 16648986 (partsMask (changes (.add core))) = 16648986 :=
  show Nat.land 16648986 (partsMask [.regs, .fresh, .out, .store, .core, .vec, .err, .rack, .sys, .mgt, .entries, .msix, .mem]) = 16648986 from by decide
theorem mask_sub (core) : Nat.land 16648986 (partsMask (changes (.sub core))) = 16648986 :=
  show Nat.land 16648986 (partsMask [.regs, .fresh, .out, .store, .core, .vec, .err, .rack, .sys, .mgt, .entries, .msix, .mem]) = 16648986 from by decide
theorem mask_mul (core) : Nat.land 16648986 (partsMask (changes (.mul core))) = 16648986 :=
  show Nat.land 16648986 (partsMask [.regs, .fresh, .out, .store, .core, .vec, .err, .rack, .sys, .mgt, .entries, .msix, .mem]) = 16648986 from by decide
theorem mask_muladd (core) : Nat.land 16648986 (partsMask (changes (.muladd core))) = 16648986 :=
  show Nat.land 16648986 (partsMask [.regs, .fresh, .out, .store, .core, .vec, .err, .rack, .sys, .mgt, .entries, .msix, .mem]) = 16648986 from by decide
theorem mask_max (core) : Nat.land 16648986 (partsMask (changes (.max core))) = 16648986 :=
  show Nat.land 16648986 (partsMask [.regs, .fresh, .out, .store, .core, .vec, .err, .rack, .sys, .mgt, .entries, .msix, .mem]) = 16648986 from by decide
theorem mask_min (core) : Nat.land 16648986 (partsMask (changes (.min core))) = 16648986 :=
  show Nat.land 16648986 (partsMask [.regs, .fresh, .out, .store, .core, .vec, .err, .rack, .sys, .mgt, .entries, .msix, .mem]) = 16648986 from by decide
theorem mask_abs (core) : Nat.land 16648986 (partsMask (changes (.abs core))) = 16648986 :=
  show Nat.land 16648986 (partsMask [.regs, .fresh, .out, .store, .core, .vec, .err, .rack, .sys, .mgt, .entries, .msix, .mem]) = 16648986 from by decide
theorem mask_div (core) : Nat.land 16648986 (partsMask (changes (.div core))) = 16648986 :=
  show Nat.land 16648986 (partsMask [.regs, .fresh, .out, .store, .core, .vec, .err, .rack, .sys, .mgt, .entries, .msix, .mem]) = 16648986 from by decide
theorem mask_sqrt (core) : Nat.land 16648986 (partsMask (changes (.sqrt core))) = 16648986 :=
  show Nat.land 16648986 (partsMask [.regs, .fresh, .out, .store, .core, .vec, .err, .rack, .sys, .mgt, .entries, .msix, .mem]) = 16648986 from by decide
theorem mask_cmplt (core) : Nat.land 16648986 (partsMask (changes (.cmplt core))) = 16648986 :=
  show Nat.land 16648986 (partsMask [.regs, .fresh, .out, .store, .core, .vec, .err, .rack, .sys, .mgt, .entries, .msix, .mem]) = 16648986 from by decide
theorem mask_select (core) : Nat.land 16648986 (partsMask (changes (.select core))) = 16648986 :=
  show Nat.land 16648986 (partsMask [.regs, .fresh, .out, .store, .core, .vec, .err, .rack, .sys, .mgt, .entries, .msix, .mem]) = 16648986 from by decide
theorem mask_dot (core) : Nat.land 16648986 (partsMask (changes (.dot core))) = 16648986 :=
  show Nat.land 16648986 (partsMask [.regs, .fresh, .out, .store, .core, .vec, .err, .rack, .sys, .mgt, .entries, .msix, .mem]) = 16648986 from by decide
theorem mask_l2sq (core) : Nat.land 16648986 (partsMask (changes (.l2sq core))) = 16648986 :=
  show Nat.land 16648986 (partsMask [.regs, .fresh, .out, .store, .core, .vec, .err, .rack, .sys, .mgt, .entries, .msix, .mem]) = 16648986 from by decide
theorem mask_reduce (core) : Nat.land 16648986 (partsMask (changes (.reduce core))) = 16648986 :=
  show Nat.land 16648986 (partsMask [.regs, .fresh, .out, .store, .core, .vec, .err, .rack, .sys, .mgt, .entries, .msix, .mem]) = 16648986 from by decide
theorem mask_hash (core) : Nat.land 16648986 (partsMask (changes (.hash core))) = 16648986 :=
  show Nat.land 16648986 (partsMask [.regs, .fresh, .out, .store, .core, .vec, .err, .rack, .sys, .mgt, .entries, .msix, .mem]) = 16648986 from by decide
theorem mask_topk (core) : Nat.land 16648986 (partsMask (changes (.topk core))) = 16648986 :=
  show Nat.land 16648986 (partsMask [.regs, .fresh, .out, .store, .core, .vec, .err, .rack, .sys, .mgt, .entries, .msix, .mem]) = 16648986 from by decide
theorem mask_streamSettle (core token) : Nat.land 16771994 (partsMask (changes (.streamSettle core token))) = 16771994 :=
  show Nat.land 16771994 (partsMask [.regs, .fresh, .out, .xlt, .store, .core, .vec, .kvp, .hxl, .coh, .gate, .err, .rack, .sys, .mgt, .entries, .msix, .mem]) = 16771994 from by decide
theorem mask_holdGranuleAcquired (granule) : Nat.land 512 (partsMask (changes (.holdGranuleAcquired granule))) = 512 :=
  show Nat.land 512 (partsMask [.core]) = 512 from by decide
theorem mask_holdTimeout (core) : Nat.land 16648986 (partsMask (changes (.holdTimeout core))) = 16648986 :=
  show Nat.land 16648986 (partsMask [.regs, .fresh, .out, .store, .core, .vec, .err, .rack, .sys, .mgt, .entries, .msix, .mem]) = 16648986 from by decide
theorem mask_cycleLimitExpiry (core) : Nat.land 16648986 (partsMask (changes (.cycleLimitExpiry core))) = 16648986 :=
  show Nat.land 16648986 (partsMask [.regs, .fresh, .out, .store, .core, .vec, .err, .rack, .sys, .mgt, .entries, .msix, .mem]) = 16648986 from by decide
theorem mask_coreExtLoad (src) : Nat.land 4194834 (partsMask (changes (.coreExtLoad src))) = 4194834 :=
  show Nat.land 4194834 (partsMask [.regs, .out, .core, .msix]) = 4194834 from by decide
theorem mask_coreExtLoadDone (result image verified) : Nat.land 4194834 (partsMask (changes (.coreExtLoadDone result image verified))) = 4194834 :=
  show Nat.land 4194834 (partsMask [.regs, .out, .core, .msix]) = 4194834 from by decide
theorem mask_coreExtRemove (src) : Nat.land 512 (partsMask (changes (.coreExtRemove src))) = 512 :=
  show Nat.land 512 (partsMask [.core]) = 512 from by decide
theorem mask_embDefine (entry) : Nat.land 2360336 (partsMask (changes (.embDefine entry))) = 2360336 :=
  show Nat.land 2360336 (partsMask [.out, .emb, .rack, .entries]) = 2360336 from by decide
theorem mask_embDrop (entry) : Nat.land 2360336 (partsMask (changes (.embDrop entry))) = 2360336 :=
  show Nat.land 2360336 (partsMask [.out, .emb, .rack, .entries]) = 2360336 from by decide
theorem mask_embQuery (entry) : Nat.land 2097152 (partsMask (changes (.embQuery entry))) = 2097152 :=
  show Nat.land 2097152 (partsMask [.entries]) = 2097152 from by decide
theorem mask_embGather (entry) : Nat.land 16777114 (partsMask (changes (.embGather entry))) = 16777114 :=
  show Nat.land 16777114 (partsMask [.regs, .fresh, .out, .xlt, .store, .core, .emb, .vec, .rpl, .kvp, .hxl, .coh, .gate, .err, .rack, .sys, .mgt, .entries, .msix, .mem]) = 16777114 from by decide
theorem mask_embUpdate (entry) : Nat.land 16772498 (partsMask (changes (.embUpdate entry))) = 16772498 :=
  show Nat.land 16772498 (partsMask [.regs, .out, .xlt, .store, .emb, .vec, .kvp, .hxl, .coh, .gate, .err, .rack, .sys, .mgt, .entries, .msix, .mem]) = 16772498 from by decide
theorem mask_embWrite (entry) : Nat.land 16771474 (partsMask (changes (.embWrite entry))) = 16771474 :=
  show Nat.land 16771474 (partsMask [.regs, .out, .xlt, .store, .vec, .kvp, .hxl, .coh, .gate, .err, .rack, .sys, .mgt, .entries, .msix, .mem]) = 16771474 from by decide
theorem mask_embStepClose (entry) : Nat.land 16772498 (partsMask (changes (.embStepClose entry))) = 16772498 :=
  show Nat.land 16772498 (partsMask [.regs, .out, .xlt, .store, .emb, .vec, .kvp, .hxl, .coh, .gate, .err, .rack, .sys, .mgt, .entries, .msix, .mem]) = 16772498 from by decide
theorem mask_embPublish (entry) : Nat.land 6554642 (partsMask (changes (.embPublish entry))) = 6554642 :=
  show Nat.land 6554642 (partsMask [.regs, .out, .emb, .rack, .entries, .msix]) = 6554642 from by decide
theorem mask_embRetire (table) : Nat.land 4195346 (partsMask (changes (.embRetire table))) = 4195346 :=
  show Nat.land 4195346 (partsMask [.regs, .out, .emb, .msix]) = 4195346 from by decide
theorem mask_vecDefine (entry) : Nat.land 16771474 (partsMask (changes (.vecDefine entry))) = 16771474 :=
  show Nat.land 16771474 (partsMask [.regs, .out, .xlt, .store, .vec, .kvp, .hxl, .coh, .gate, .err, .rack, .sys, .mgt, .entries, .msix, .mem]) = 16771474 from by decide
theorem mask_vecDrop (entry) : Nat.land 2361360 (partsMask (changes (.vecDrop entry))) = 2361360 :=
  show Nat.land 2361360 (partsMask [.out, .vec, .rack, .entries]) = 2361360 from by decide
theorem mask_vecQuery (entry) : Nat.land 2359312 (partsMask (changes (.vecQuery entry))) = 2359312 :=
  show Nat.land 2359312 (partsMask [.out, .rack, .entries]) = 2359312 from by decide
theorem mask_vecSearch (entry) : Nat.land 16777114 (partsMask (changes (.vecSearch entry))) = 16777114 :=
  show Nat.land 16777114 (partsMask [.regs, .fresh, .out, .xlt, .store, .core, .emb, .vec, .rpl, .kvp, .hxl, .coh, .gate, .err, .rack, .sys, .mgt, .entries, .msix, .mem]) = 16777114 from by decide
theorem mask_walkRound (walk) : Nat.land 16777114 (partsMask (changes (.walkRound walk))) = 16777114 :=
  show Nat.land 16777114 (partsMask [.regs, .fresh, .out, .xlt, .store, .core, .emb, .vec, .rpl, .kvp, .hxl, .coh, .gate, .err, .rack, .sys, .mgt, .entries, .msix, .mem]) = 16777114 from by decide
theorem mask_vecInsert (entry) : Nat.land 16771474 (partsMask (changes (.vecInsert entry))) = 16771474 :=
  show Nat.land 16771474 (partsMask [.regs, .out, .xlt, .store, .vec, .kvp, .hxl, .coh, .gate, .err, .rack, .sys, .mgt, .entries, .msix, .mem]) = 16771474 from by decide
theorem mask_vecDelete (entry) : Nat.land 16771474 (partsMask (changes (.vecDelete entry))) = 16771474 :=
  show Nat.land 16771474 (partsMask [.regs, .out, .xlt, .store, .vec, .kvp, .hxl, .coh, .gate, .err, .rack, .sys, .mgt, .entries, .msix, .mem]) = 16771474 from by decide
theorem mask_vecRepair (entry) : Nat.land 16648466 (partsMask (changes (.vecRepair entry))) = 16648466 :=
  show Nat.land 16648466 (partsMask [.regs, .out, .store, .vec, .err, .rack, .sys, .mgt, .entries, .msix, .mem]) = 16648466 from by decide
theorem mask_vecRepairNodeStart (index) : Nat.land 16771474 (partsMask (changes (.vecRepairNodeStart index))) = 16771474 :=
  show Nat.land 16771474 (partsMask [.regs, .out, .xlt, .store, .vec, .kvp, .hxl, .coh, .gate, .err, .rack, .sys, .mgt, .entries, .msix, .mem]) = 16771474 from by decide
theorem mask_vecPassEnd (index) : Nat.land 16771474 (partsMask (changes (.vecPassEnd index))) = 16771474 :=
  show Nat.land 16771474 (partsMask [.regs, .out, .xlt, .store, .vec, .kvp, .hxl, .coh, .gate, .err, .rack, .sys, .mgt, .entries, .msix, .mem]) = 16771474 from by decide
theorem mask_rplDefine (entry) : Nat.land 2363408 (partsMask (changes (.rplDefine entry))) = 2363408 :=
  show Nat.land 2363408 (partsMask [.out, .rpl, .rack, .entries]) = 2363408 from by decide
theorem mask_rplDrop (entry) : Nat.land 2363408 (partsMask (changes (.rplDrop entry))) = 2363408 :=
  show Nat.land 2363408 (partsMask [.out, .rpl, .rack, .entries]) = 2363408 from by decide
theorem mask_rplQuery (entry) : Nat.land 2097152 (partsMask (changes (.rplQuery entry))) = 2097152 :=
  show Nat.land 2097152 (partsMask [.entries]) = 2097152 from by decide
theorem mask_rplInsert (entry) : Nat.land 16777114 (partsMask (changes (.rplInsert entry))) = 16777114 :=
  show Nat.land 16777114 (partsMask [.regs, .fresh, .out, .xlt, .store, .core, .emb, .vec, .rpl, .kvp, .hxl, .coh, .gate, .err, .rack, .sys, .mgt, .entries, .msix, .mem]) = 16777114 from by decide
theorem mask_rplReservationGrant (buffer) : Nat.land 2363408 (partsMask (changes (.rplReservationGrant buffer))) = 2363408 :=
  show Nat.land 2363408 (partsMask [.out, .rpl, .rack, .entries]) = 2363408 from by decide
theorem mask_rplSample (entry) : Nat.land 16777114 (partsMask (changes (.rplSample entry))) = 16777114 :=
  show Nat.land 16777114 (partsMask [.regs, .fresh, .out, .xlt, .store, .core, .emb, .vec, .rpl, .kvp, .hxl, .coh, .gate, .err, .rack, .sys, .mgt, .entries, .msix, .mem]) = 16777114 from by decide
theorem mask_rplUpdate (entry) : Nat.land 16777114 (partsMask (changes (.rplUpdate entry))) = 16777114 :=
  show Nat.land 16777114 (partsMask [.regs, .fresh, .out, .xlt, .store, .core, .emb, .vec, .rpl, .kvp, .hxl, .coh, .gate, .err, .rack, .sys, .mgt, .entries, .msix, .mem]) = 16777114 from by decide
theorem mask_rplTreePass (buffer shard) : Nat.land 16777114 (partsMask (changes (.rplTreePass buffer shard))) = 16777114 :=
  show Nat.land 16777114 (partsMask [.regs, .fresh, .out, .xlt, .store, .core, .emb, .vec, .rpl, .kvp, .hxl, .coh, .gate, .err, .rack, .sys, .mgt, .entries, .msix, .mem]) = 16777114 from by decide
theorem mask_rplDescent (entry draw) : Nat.land 16777114 (partsMask (changes (.rplDescent entry draw))) = 16777114 :=
  show Nat.land 16777114 (partsMask [.regs, .fresh, .out, .xlt, .store, .core, .emb, .vec, .rpl, .kvp, .hxl, .coh, .gate, .err, .rack, .sys, .mgt, .entries, .msix, .mem]) = 16777114 from by decide
theorem mask_kvpDefine (entry) : Nat.land 2367504 (partsMask (changes (.kvpDefine entry))) = 2367504 :=
  show Nat.land 2367504 (partsMask [.out, .kvp, .rack, .entries]) = 2367504 from by decide
theorem mask_kvpDrop (entry) : Nat.land 2367504 (partsMask (changes (.kvpDrop entry))) = 2367504 :=
  show Nat.land 2367504 (partsMask [.out, .kvp, .rack, .entries]) = 2367504 from by decide
theorem mask_kvpQuery (entry) : Nat.land 2097152 (partsMask (changes (.kvpQuery entry))) = 2097152 :=
  show Nat.land 2097152 (partsMask [.entries]) = 2097152 from by decide
theorem mask_kvpOpen (entry) : Nat.land 16777114 (partsMask (changes (.kvpOpen entry))) = 16777114 :=
  show Nat.land 16777114 (partsMask [.regs, .fresh, .out, .xlt, .store, .core, .emb, .vec, .rpl, .kvp, .hxl, .coh, .gate, .err, .rack, .sys, .mgt, .entries, .msix, .mem]) = 16777114 from by decide
theorem mask_kvpAppend (entry) : Nat.land 16777114 (partsMask (changes (.kvpAppend entry))) = 16777114 :=
  show Nat.land 16777114 (partsMask [.regs, .fresh, .out, .xlt, .store, .core, .emb, .vec, .rpl, .kvp, .hxl, .coh, .gate, .err, .rack, .sys, .mgt, .entries, .msix, .mem]) = 16777114 from by decide
theorem mask_kvpLock (entry) : Nat.land 16777114 (partsMask (changes (.kvpLock entry))) = 16777114 :=
  show Nat.land 16777114 (partsMask [.regs, .fresh, .out, .xlt, .store, .core, .emb, .vec, .rpl, .kvp, .hxl, .coh, .gate, .err, .rack, .sys, .mgt, .entries, .msix, .mem]) = 16777114 from by decide
theorem mask_kvpUnlock (entry) : Nat.land 16777114 (partsMask (changes (.kvpUnlock entry))) = 16777114 :=
  show Nat.land 16777114 (partsMask [.regs, .fresh, .out, .xlt, .store, .core, .emb, .vec, .rpl, .kvp, .hxl, .coh, .gate, .err, .rack, .sys, .mgt, .entries, .msix, .mem]) = 16777114 from by decide
theorem mask_kvpLockExpiry (pool seq) : Nat.land 6561810 (partsMask (changes (.kvpLockExpiry pool seq))) = 6561810 :=
  show Nat.land 6561810 (partsMask [.regs, .out, .kvp, .rack, .entries, .msix]) = 6561810 from by decide
theorem mask_kvpClose (entry) : Nat.land 16777114 (partsMask (changes (.kvpClose entry))) = 16777114 :=
  show Nat.land 16777114 (partsMask [.regs, .fresh, .out, .xlt, .store, .core, .emb, .vec, .rpl, .kvp, .hxl, .coh, .gate, .err, .rack, .sys, .mgt, .entries, .msix, .mem]) = 16777114 from by decide
theorem mask_kvpHandover (entry) : Nat.land 16777114 (partsMask (changes (.kvpHandover entry))) = 16777114 :=
  show Nat.land 16777114 (partsMask [.regs, .fresh, .out, .xlt, .store, .core, .emb, .vec, .rpl, .kvp, .hxl, .coh, .gate, .err, .rack, .sys, .mgt, .entries, .msix, .mem]) = 16777114 from by decide
theorem mask_kvpOffer (origin pool seq token length pages) : Nat.land 8208 (partsMask (changes (.kvpOffer origin pool seq token length pages))) = 8208 :=
  show Nat.land 8208 (partsMask [.out, .kvp]) = 8208 from by decide
theorem mask_kvpOfferAccept (origin pool seq token) : Nat.land 16777114 (partsMask (changes (.kvpOfferAccept origin pool seq token))) = 16777114 :=
  show Nat.land 16777114 (partsMask [.regs, .fresh, .out, .xlt, .store, .core, .emb, .vec, .rpl, .kvp, .hxl, .coh, .gate, .err, .rack, .sys, .mgt, .entries, .msix, .mem]) = 16777114 from by decide
theorem mask_kvpOfferDecline (origin pool seq token) : Nat.land 16777114 (partsMask (changes (.kvpOfferDecline origin pool seq token))) = 16777114 :=
  show Nat.land 16777114 (partsMask [.regs, .fresh, .out, .xlt, .store, .core, .emb, .vec, .rpl, .kvp, .hxl, .coh, .gate, .err, .rack, .sys, .mgt, .entries, .msix, .mem]) = 16777114 from by decide
theorem mask_kvpOfferTimeout (pool seq) : Nat.land 16777114 (partsMask (changes (.kvpOfferTimeout pool seq))) = 16777114 :=
  show Nat.land 16777114 (partsMask [.regs, .fresh, .out, .xlt, .store, .core, .emb, .vec, .rpl, .kvp, .hxl, .coh, .gate, .err, .rack, .sys, .mgt, .entries, .msix, .mem]) = 16777114 from by decide
theorem mask_gateSignal (entry) : Nat.land 7798810 (partsMask (changes (.gateSignal entry))) = 7798810 :=
  show Nat.land 7798810 (partsMask [.regs, .fresh, .out, .gate, .err, .rack, .mgt, .entries, .msix]) = 7798810 from by decide
theorem mask_gateWait (entry) : Nat.land 7798810 (partsMask (changes (.gateWait entry))) = 7798810 :=
  show Nat.land 7798810 (partsMask [.regs, .fresh, .out, .gate, .err, .rack, .mgt, .entries, .msix]) = 7798810 from by decide
theorem mask_gateReset (entry) : Nat.land 2424850 (partsMask (changes (.gateReset entry))) = 2424850 :=
  show Nat.land 2424850 (partsMask [.regs, .out, .gate, .rack, .entries]) = 2424850 from by decide
theorem mask_gateRead (entry) : Nat.land 7798810 (partsMask (changes (.gateRead entry))) = 7798810 :=
  show Nat.land 7798810 (partsMask [.regs, .fresh, .out, .gate, .err, .rack, .mgt, .entries, .msix]) = 7798810 from by decide
theorem mask_fence (entry) : Nat.land 7815194 (partsMask (changes (.fence entry))) = 7815194 :=
  show Nat.land 7815194 (partsMask [.regs, .fresh, .out, .hxl, .gate, .err, .rack, .mgt, .entries, .msix]) = 7815194 from by decide
theorem mask_fenceProbeResend (entry target) : Nat.land 81936 (partsMask (changes (.fenceProbeResend entry target))) = 81936 :=
  show Nat.land 81936 (partsMask [.out, .hxl, .gate]) = 81936 from by decide
theorem mask_fencePromotionTimeout (entry target) : Nat.land 2162688 (partsMask (changes (.fencePromotionTimeout entry target))) = 2162688 :=
  show Nat.land 2162688 (partsMask [.gate, .entries]) = 2162688 from by decide
theorem mask_gateWatchdogExpiry (entry) : Nat.land 16752538 (partsMask (changes (.gateWatchdogExpiry entry))) = 16752538 :=
  show Nat.land 16752538 (partsMask [.regs, .fresh, .out, .xlt, .store, .core, .emb, .vec, .rpl, .coh, .gate, .err, .rack, .sys, .mgt, .entries, .msix, .mem]) = 16752538 from by decide
theorem mask_gateBlkSelWrite (src block) : Nat.land 2 (partsMask (changes (.gateBlkSelWrite src block))) = 2 :=
  show Nat.land 2 (partsMask [.regs]) = 2 from by decide
theorem mask_gateBlkApply (src) : Nat.land 6619154 (partsMask (changes (.gateBlkApply src))) = 6619154 :=
  show Nat.land 6619154 (partsMask [.regs, .out, .gate, .rack, .entries, .msix]) = 6619154 from by decide
theorem mask_gateDbgRead (src) : Nat.land 5439514 (partsMask (changes (.gateDbgRead src))) = 5439514 :=
  show Nat.land 5439514 (partsMask [.regs, .fresh, .out, .gate, .err, .mgt, .msix]) = 5439514 from by decide
theorem mask_gateDbgSet (src) : Nat.land 6619154 (partsMask (changes (.gateDbgSet src))) = 6619154 :=
  show Nat.land 6619154 (partsMask [.regs, .out, .gate, .rack, .entries, .msix]) = 6619154 from by decide
theorem mask_drainProbe (port msg) : Nat.land 4276242 (partsMask (changes (.drainProbe port msg))) = 4276242 :=
  show Nat.land 4276242 (partsMask [.regs, .out, .hxl, .gate, .msix]) = 4276242 from by decide
theorem mask_drainAck (port msg) : Nat.land 7815194 (partsMask (changes (.drainAck port msg))) = 7815194 :=
  show Nat.land 7815194 (partsMask [.regs, .fresh, .out, .hxl, .gate, .err, .rack, .mgt, .entries, .msix]) = 7815194 from by decide
theorem mask_drainReroute (port msg) : Nat.land 4276242 (partsMask (changes (.drainReroute port msg))) = 4276242 :=
  show Nat.land 4276242 (partsMask [.regs, .out, .hxl, .gate, .msix]) = 4276242 from by decide
theorem mask_drainAnswerDue (origin source fenceId) : Nat.land 7815194 (partsMask (changes (.drainAnswerDue origin source fenceId))) = 7815194 :=
  show Nat.land 7815194 (partsMask [.regs, .fresh, .out, .hxl, .gate, .err, .rack, .mgt, .entries, .msix]) = 7815194 from by decide
theorem mask_rd (port msg) : Nat.land 16771474 (partsMask (changes (.rd port msg))) = 16771474 :=
  show Nat.land 16771474 (partsMask [.regs, .out, .xlt, .store, .vec, .kvp, .hxl, .coh, .gate, .err, .rack, .sys, .mgt, .entries, .msix, .mem]) = 16771474 from by decide
theorem mask_rdOwn (port msg) : Nat.land 16771474 (partsMask (changes (.rdOwn port msg))) = 16771474 :=
  show Nat.land 16771474 (partsMask [.regs, .out, .xlt, .store, .vec, .kvp, .hxl, .coh, .gate, .err, .rack, .sys, .mgt, .entries, .msix, .mem]) = 16771474 from by decide
theorem mask_wr (port msg) : Nat.land 16771474 (partsMask (changes (.wr port msg))) = 16771474 :=
  show Nat.land 16771474 (partsMask [.regs, .out, .xlt, .store, .vec, .kvp, .hxl, .coh, .gate, .err, .rack, .sys, .mgt, .entries, .msix, .mem]) = 16771474 from by decide
theorem mask_wrp (port msg) : Nat.land 16771474 (partsMask (changes (.wrp port msg))) = 16771474 :=
  show Nat.land 16771474 (partsMask [.regs, .out, .xlt, .store, .vec, .kvp, .hxl, .coh, .gate, .err, .rack, .sys, .mgt, .entries, .msix, .mem]) = 16771474 from by decide
theorem mask_atom (port msg) : Nat.land 16771474 (partsMask (changes (.atom port msg))) = 16771474 :=
  show Nat.land 16771474 (partsMask [.regs, .out, .xlt, .store, .vec, .kvp, .hxl, .coh, .gate, .err, .rack, .sys, .mgt, .entries, .msix, .mem]) = 16771474 from by decide
theorem mask_wb (port msg) : Nat.land 16772538 (partsMask (changes (.wb port msg))) = 16772538 :=
  show Nat.land 16772538 (partsMask [.regs, .fresh, .out, .cmdq, .xlt, .store, .emb, .vec, .kvp, .hxl, .coh, .gate, .err, .rack, .sys, .mgt, .entries, .msix, .mem]) = 16772538 from by decide
theorem mask_inv (port msg) : Nat.land 16400 (partsMask (changes (.inv port msg))) = 16400 :=
  show Nat.land 16400 (partsMask [.out, .hxl]) = 16400 from by decide
theorem mask_invAck (port msg) : Nat.land 16772538 (partsMask (changes (.invAck port msg))) = 16772538 :=
  show Nat.land 16772538 (partsMask [.regs, .fresh, .out, .cmdq, .xlt, .store, .emb, .vec, .kvp, .hxl, .coh, .gate, .err, .rack, .sys, .mgt, .entries, .msix, .mem]) = 16772538 from by decide
theorem mask_invData (port msg) : Nat.land 16772538 (partsMask (changes (.invData port msg))) = 16772538 :=
  show Nat.land 16772538 (partsMask [.regs, .fresh, .out, .cmdq, .xlt, .store, .emb, .vec, .kvp, .hxl, .coh, .gate, .err, .rack, .sys, .mgt, .entries, .msix, .mem]) = 16772538 from by decide
theorem mask_cpl (port msg) : Nat.land 16528 (partsMask (changes (.cpl port msg))) = 16528 :=
  show Nat.land 16528 (partsMask [.out, .xlt, .hxl]) = 16528 from by decide
theorem mask_cplNd (port msg) : Nat.land 16528 (partsMask (changes (.cplNd port msg))) = 16528 :=
  show Nat.land 16528 (partsMask [.out, .xlt, .hxl]) = 16528 from by decide
theorem mask_cplVal (port msg) : Nat.land 16528 (partsMask (changes (.cplVal port msg))) = 16528 :=
  show Nat.land 16528 (partsMask [.out, .xlt, .hxl]) = 16528 from by decide
theorem mask_cmd (port msg) : Nat.land 7881010 (partsMask (changes (.cmd port msg))) = 7881010 :=
  show Nat.land 7881010 (partsMask [.regs, .out, .cmdq, .store, .hxl, .sys, .mgt, .entries, .msix]) = 7881010 from by decide
theorem mask_cmdCpl (entry delivered) : Nat.land 7815226 (partsMask (changes (.cmdCpl entry delivered))) = 7815226 :=
  show Nat.land 7815226 (partsMask [.regs, .fresh, .out, .cmdq, .hxl, .gate, .err, .rack, .mgt, .entries, .msix]) = 7815226 from by decide
theorem mask_ctrlAbort (port msg) : Nat.land 16768922 (partsMask (changes (.ctrlAbort port msg))) = 16768922 :=
  show Nat.land 16768922 (partsMask [.regs, .fresh, .out, .xlt, .store, .core, .emb, .vec, .rpl, .hxl, .coh, .gate, .err, .rack, .sys, .mgt, .entries, .msix, .mem]) = 16768922 from by decide
theorem mask_ctrlRelease (port msg) : Nat.land 4210738 (partsMask (changes (.ctrlRelease port msg))) = 4210738 :=
  show Nat.land 4210738 (partsMask [.regs, .out, .cmdq, .hxl, .msix]) = 4210738 from by decide
theorem mask_ctrlGrant (port) : Nat.land 32 (partsMask (changes (.ctrlGrant port))) = 32 :=
  show Nat.land 32 (partsMask [.cmdq]) = 32 from by decide
theorem mask_cohTransactionStart (granule) : Nat.land 16772538 (partsMask (changes (.cohTransactionStart granule))) = 16772538 :=
  show Nat.land 16772538 (partsMask [.regs, .fresh, .out, .cmdq, .xlt, .store, .emb, .vec, .kvp, .hxl, .coh, .gate, .err, .rack, .sys, .mgt, .entries, .msix, .mem]) = 16772538 from by decide
theorem mask_cohHoldExpiry (granule) : Nat.land 32768 (partsMask (changes (.cohHoldExpiry granule))) = 32768 :=
  show Nat.land 32768 (partsMask [.coh]) = 32768 from by decide
theorem mask_snoopTimeout (index granule) : Nat.land 16772538 (partsMask (changes (.snoopTimeout index granule))) = 16772538 :=
  show Nat.land 16772538 (partsMask [.regs, .fresh, .out, .cmdq, .xlt, .store, .emb, .vec, .kvp, .hxl, .coh, .gate, .err, .rack, .sys, .mgt, .entries, .msix, .mem]) = 16772538 from by decide
theorem mask_reclaimEnd (index) : Nat.land 6586642 (partsMask (changes (.reclaimEnd index))) = 6586642 :=
  show Nat.land 6586642 (partsMask [.regs, .out, .store, .coh, .rack, .entries, .msix]) = 6586642 from by decide
theorem mask_cohAgentDeclare (src index) : Nat.land 16772538 (partsMask (changes (.cohAgentDeclare src index))) = 16772538 :=
  show Nat.land 16772538 (partsMask [.regs, .fresh, .out, .cmdq, .xlt, .store, .emb, .vec, .kvp, .hxl, .coh, .gate, .err, .rack, .sys, .mgt, .entries, .msix, .mem]) = 16772538 from by decide
theorem mask_cohAgentRevive (src index) : Nat.land 32768 (partsMask (changes (.cohAgentRevive src index))) = 32768 :=
  show Nat.land 32768 (partsMask [.coh]) = 32768 from by decide
theorem mask_cohProbe (src) : Nat.land 2 (partsMask (changes (.cohProbe src))) = 2 :=
  show Nat.land 2 (partsMask [.regs]) = 2 from by decide
theorem mask_flitReceive (port corrected uncorrectable fecOk crcOk tagOk hdr payload) : Nat.land 8341522 (partsMask (changes (.flitReceive port corrected uncorrectable fecOk crcOk tagOk hdr payload))) = 8341522 :=
  show Nat.land 8341522 (partsMask [.regs, .out, .vec, .hxl, .gate, .err, .rack, .sys, .mgt, .entries, .msix]) = 8341522 from by decide
theorem mask_nakRepeat (port) : Nat.land 16400 (partsMask (changes (.nakRepeat port))) = 16400 :=
  show Nat.land 16400 (partsMask [.out, .hxl]) = 16400 from by decide
theorem mask_ackTimeout (port) : Nat.land 5455890 (partsMask (changes (.ackTimeout port))) = 5455890 :=
  show Nat.land 5455890 (partsMask [.regs, .out, .hxl, .gate, .err, .mgt, .msix]) = 5455890 from by decide
theorem mask_rekey (port) : Nat.land 16384 (partsMask (changes (.rekey port))) = 16384 :=
  show Nat.land 16384 (partsMask [.hxl]) = 16384 from by decide
theorem mask_hxlPortCfgWrite (src value) : Nat.land 4407314 (partsMask (changes (.hxlPortCfgWrite src value))) = 4407314 :=
  show Nat.land 4407314 (partsMask [.regs, .out, .hxl, .gate, .err, .msix]) = 4407314 from by decide
theorem mask_hxlPortRetrain (src) : Nat.land 5455890 (partsMask (changes (.hxlPortRetrain src))) = 5455890 :=
  show Nat.land 5455890 (partsMask [.regs, .out, .hxl, .gate, .err, .mgt, .msix]) = 5455890 from by decide
theorem mask_hxlPortReset (src) : Nat.land 4407314 (partsMask (changes (.hxlPortReset src))) = 4407314 :=
  show Nat.land 4407314 (partsMask [.regs, .out, .hxl, .gate, .err, .msix]) = 4407314 from by decide
theorem mask_detectComplete (port reversed polarity) : Nat.land 16384 (partsMask (changes (.detectComplete port reversed polarity))) = 16384 :=
  show Nat.land 16384 (partsMask [.hxl]) = 16384 from by decide
theorem mask_detectTimeout (port) : Nat.land 8341522 (partsMask (changes (.detectTimeout port))) = 8341522 :=
  show Nat.land 8341522 (partsMask [.regs, .out, .vec, .hxl, .gate, .err, .rack, .sys, .mgt, .entries, .msix]) = 8341522 from by decide
theorem mask_equalizeComplete (port) : Nat.land 16384 (partsMask (changes (.equalizeComplete port))) = 16384 :=
  show Nat.land 16384 (partsMask [.hxl]) = 16384 from by decide
theorem mask_equalizeTimeout (port below) : Nat.land 8341522 (partsMask (changes (.equalizeTimeout port below))) = 8341522 :=
  show Nat.land 8341522 (partsMask [.regs, .out, .vec, .hxl, .gate, .err, .rack, .sys, .mgt, .entries, .msix]) = 8341522 from by decide
theorem mask_blockLockAcquired (port) : Nat.land 16384 (partsMask (changes (.blockLockAcquired port))) = 16384 :=
  show Nat.land 16384 (partsMask [.hxl]) = 16384 from by decide
theorem mask_lockTimeout (port) : Nat.land 8341522 (partsMask (changes (.lockTimeout port))) = 8341522 :=
  show Nat.land 8341522 (partsMask [.regs, .out, .vec, .hxl, .gate, .err, .rack, .sys, .mgt, .entries, .msix]) = 8341522 from by decide
theorem mask_param (port msg) : Nat.land 8341554 (partsMask (changes (.param port msg))) = 8341554 :=
  show Nat.land 8341554 (partsMask [.regs, .out, .cmdq, .vec, .hxl, .gate, .err, .rack, .sys, .mgt, .entries, .msix]) = 8341554 from by decide
theorem mask_echo (port msg now hold) : Nat.land 16400 (partsMask (changes (.echo port msg now hold))) = 16400 :=
  show Nat.land 16400 (partsMask [.out, .hxl]) = 16400 from by decide
theorem mask_portActivate (port) : Nat.land 4210738 (partsMask (changes (.portActivate port))) = 4210738 :=
  show Nat.land 4210738 (partsMask [.regs, .out, .cmdq, .hxl, .msix]) = 4210738 from by decide
theorem mask_retrainComplete (port) : Nat.land 16400 (partsMask (changes (.retrainComplete port))) = 16400 :=
  show Nat.land 16400 (partsMask [.out, .hxl]) = 16400 from by decide
theorem mask_retrainTimeout (port) : Nat.land 8341522 (partsMask (changes (.retrainTimeout port))) = 8341522 :=
  show Nat.land 8341522 (partsMask [.regs, .out, .vec, .hxl, .gate, .err, .rack, .sys, .mgt, .entries, .msix]) = 8341522 from by decide
theorem mask_spdmSessionTimeout (port) : Nat.land 8341522 (partsMask (changes (.spdmSessionTimeout port))) = 8341522 :=
  show Nat.land 8341522 (partsMask [.regs, .out, .vec, .hxl, .gate, .err, .rack, .sys, .mgt, .entries, .msix]) = 8341522 from by decide
theorem mask_noRouteExpiry (id) : Nat.land 4210834 (partsMask (changes (.noRouteExpiry id))) = 4210834 :=
  show Nat.land 4210834 (partsMask [.regs, .out, .xlt, .hxl, .msix]) = 4210834 from by decide
theorem mask_routeDrainEnd (member) : Nat.land 4210706 (partsMask (changes (.routeDrainEnd member))) = 4210706 :=
  show Nat.land 4210706 (partsMask [.regs, .out, .hxl, .msix]) = 4210706 from by decide
theorem mask_checkerError (chk railT railC) : Nat.land 16649050 (partsMask (changes (.checkerError chk railT railC))) = 16649050 :=
  show Nat.land 16649050 (partsMask [.regs, .fresh, .out, .pst, .store, .core, .vec, .err, .rack, .sys, .mgt, .entries, .msix, .mem]) = 16649050 from by decide
theorem mask_ceStorm (key) : Nat.land 8260114 (partsMask (changes (.ceStorm key))) = 8260114 :=
  show Nat.land 8260114 (partsMask [.regs, .out, .core, .vec, .err, .rack, .sys, .mgt, .entries, .msix]) = 8260114 from by decide
theorem mask_groomerRead (tier granule finding passEnd) : Nat.land 16648466 (partsMask (changes (.groomerRead tier granule finding passEnd))) = 16648466 :=
  show Nat.land 16648466 (partsMask [.regs, .out, .store, .vec, .err, .rack, .sys, .mgt, .entries, .msix, .mem]) = 16648466 from by decide
theorem mask_errSitzUnfreeze (src) : Nat.land 2 (partsMask (changes (.errSitzUnfreeze src))) = 2 :=
  show Nat.land 2 (partsMask [.regs]) = 2 from by decide
theorem mask_errSitzClear (src) : Nat.land 131074 (partsMask (changes (.errSitzClear src))) = 131074 :=
  show Nat.land 131074 (partsMask [.regs, .err]) = 131074 from by decide
theorem mask_errFirstClear (src) : Nat.land 131072 (partsMask (changes (.errFirstClear src))) = 131072 :=
  show Nat.land 131072 (partsMask [.err]) = 131072 from by decide
theorem mask_errUnitOnline (src) : Nat.land 131072 (partsMask (changes (.errUnitOnline src))) = 131072 :=
  show Nat.land 131072 (partsMask [.err]) = 131072 from by decide
theorem mask_errInjFire (src) : Nat.land 16714586 (partsMask (changes (.errInjFire src))) = 16714586 :=
  show Nat.land 16714586 (partsMask [.regs, .fresh, .out, .pst, .store, .core, .vec, .gate, .err, .rack, .sys, .mgt, .entries, .msix, .mem]) = 16714586 from by decide
theorem mask_heartbeat (port msg) : Nat.land 16768922 (partsMask (changes (.heartbeat port msg))) = 16768922 :=
  show Nat.land 16768922 (partsMask [.regs, .fresh, .out, .xlt, .store, .core, .emb, .vec, .rpl, .hxl, .coh, .gate, .err, .rack, .sys, .mgt, .entries, .msix, .mem]) = 16768922 from by decide
theorem mask_heartbeatSend : Nat.land 16400 (partsMask (changes .heartbeatSend)) = 16400 :=
  show Nat.land 16400 (partsMask [.out, .hxl]) = 16400 from by decide
theorem mask_suspicionTimeout (member) : Nat.land 2375696 (partsMask (changes (.suspicionTimeout member))) = 2375696 :=
  show Nat.land 2375696 (partsMask [.out, .hxl, .rack, .entries]) = 2375696 from by decide
theorem mask_propose (port msg) : Nat.land 6570258 (partsMask (changes (.propose port msg))) = 6570258 :=
  show Nat.land 6570258 (partsMask [.regs, .out, .store, .hxl, .rack, .entries, .msix]) = 6570258 from by decide
theorem mask_accept (port msg) : Nat.land 6570258 (partsMask (changes (.accept port msg))) = 6570258 :=
  show Nat.land 6570258 (partsMask [.regs, .out, .store, .hxl, .rack, .entries, .msix]) = 6570258 from by decide
theorem mask_commit (port msg) : Nat.land 16777146 (partsMask (changes (.commit port msg))) = 16777146 :=
  show Nat.land 16777146 (partsMask [.regs, .fresh, .out, .cmdq, .xlt, .store, .core, .emb, .vec, .rpl, .kvp, .hxl, .coh, .gate, .err, .rack, .sys, .mgt, .entries, .msix, .mem]) = 16777146 from by decide
theorem mask_consFatal (port msg) : Nat.land 6570258 (partsMask (changes (.consFatal port msg))) = 6570258 :=
  show Nat.land 6570258 (partsMask [.regs, .out, .store, .hxl, .rack, .entries, .msix]) = 6570258 from by decide
theorem mask_consBrace (port msg) : Nat.land 6668562 (partsMask (changes (.consBrace port msg))) = 6668562 :=
  show Nat.land 6668562 (partsMask [.regs, .out, .store, .hxl, .coh, .gate, .rack, .entries, .msix]) = 6668562 from by decide
theorem mask_mapChangeApply : Nat.land 16777146 (partsMask (changes .mapChangeApply)) = 16777146 :=
  show Nat.land 16777146 (partsMask [.regs, .fresh, .out, .cmdq, .xlt, .store, .core, .emb, .vec, .rpl, .kvp, .hxl, .coh, .gate, .err, .rack, .sys, .mgt, .entries, .msix, .mem]) = 16777146 from by decide
theorem mask_coordinatorTakeover : Nat.land 2375696 (partsMask (changes .coordinatorTakeover)) = 2375696 :=
  show Nat.land 2375696 (partsMask [.out, .hxl, .rack, .entries]) = 2375696 from by decide
theorem mask_quorumLoss : Nat.land 16752538 (partsMask (changes .quorumLoss)) = 16752538 :=
  show Nat.land 16752538 (partsMask [.regs, .fresh, .out, .xlt, .store, .core, .emb, .vec, .rpl, .coh, .gate, .err, .rack, .sys, .mgt, .entries, .msix, .mem]) = 16752538 from by decide
theorem mask_epochHoldExpiry (origin id) : Nat.land 262160 (partsMask (changes (.epochHoldExpiry origin id))) = 262160 :=
  show Nat.land 262160 (partsMask [.out, .rack]) = 262160 from by decide
theorem mask_remirrorCopy (slot page) : Nat.land 16648466 (partsMask (changes (.remirrorCopy slot page))) = 16648466 :=
  show Nat.land 16648466 (partsMask [.regs, .out, .store, .vec, .err, .rack, .sys, .mgt, .entries, .msix, .mem]) = 16648466 from by decide
theorem mask_flashRebuild (slab stripe slot) : Nat.land 262402 (partsMask (changes (.flashRebuild slab stripe slot))) = 262402 :=
  show Nat.land 262402 (partsMask [.regs, .store, .rack]) = 262402 from by decide
theorem mask_mapFormTimeout (entry) : Nat.land 2359554 (partsMask (changes (.mapFormTimeout entry))) = 2359554 :=
  show Nat.land 2359554 (partsMask [.regs, .store, .rack, .entries]) = 2359554 from by decide
theorem mask_mapQuery (entry) : Nat.land 2097152 (partsMask (changes (.mapQuery entry))) = 2097152 :=
  show Nat.land 2097152 (partsMask [.entries]) = 2097152 from by decide
theorem mask_mapForm (entry) : Nat.land 2375954 (partsMask (changes (.mapForm entry))) = 2375954 :=
  show Nat.land 2375954 (partsMask [.regs, .out, .store, .hxl, .rack, .entries]) = 2375954 from by decide
theorem mask_mapAdmit (entry) : Nat.land 2375696 (partsMask (changes (.mapAdmit entry))) = 2375696 :=
  show Nat.land 2375696 (partsMask [.out, .hxl, .rack, .entries]) = 2375696 from by decide
theorem mask_mapFence (entry) : Nat.land 2375696 (partsMask (changes (.mapFence entry))) = 2375696 :=
  show Nat.land 2375696 (partsMask [.out, .hxl, .rack, .entries]) = 2375696 from by decide
theorem mask_mapAssign (entry) : Nat.land 2474256 (partsMask (changes (.mapAssign entry))) = 2474256 :=
  show Nat.land 2474256 (partsMask [.out, .store, .hxl, .coh, .gate, .rack, .entries]) = 2474256 from by decide
theorem mask_cmpDefine (entry) : Nat.land 2359320 (partsMask (changes (.cmpDefine entry))) = 2359320 :=
  show Nat.land 2359320 (partsMask [.fresh, .out, .rack, .entries]) = 2359320 from by decide
theorem mask_cmpDrop (entry) : Nat.land 2359312 (partsMask (changes (.cmpDrop entry))) = 2359312 :=
  show Nat.land 2359312 (partsMask [.out, .rack, .entries]) = 2359312 from by decide
theorem mask_cmpGrant (entry) : Nat.land 10748176 (partsMask (changes (.cmpGrant entry))) = 10748176 :=
  show Nat.land 10748176 (partsMask [.out, .store, .rack, .entries, .mem]) = 10748176 from by decide
theorem mask_cmpWithdraw (entry) : Nat.land 16771474 (partsMask (changes (.cmpWithdraw entry))) = 16771474 :=
  show Nat.land 16771474 (partsMask [.regs, .out, .xlt, .store, .vec, .kvp, .hxl, .coh, .gate, .err, .rack, .sys, .mgt, .entries, .msix, .mem]) = 16771474 from by decide
theorem mask_cmpQuery (entry) : Nat.land 2097152 (partsMask (changes (.cmpQuery entry))) = 2097152 :=
  show Nat.land 2097152 (partsMask [.entries]) = 2097152 from by decide
theorem mask_meterQuery (entry) : Nat.land 2359312 (partsMask (changes (.meterQuery entry))) = 2359312 :=
  show Nat.land 2359312 (partsMask [.out, .rack, .entries]) = 2359312 from by decide
theorem mask_meteringTick (cycles) : Nat.land 262144 (partsMask (changes (.meteringTick cycles))) = 262144 :=
  show Nat.land 262144 (partsMask [.rack]) = 262144 from by decide
theorem mask_mgtMeterSnap (src) : Nat.land 2 (partsMask (changes (.mgtMeterSnap src))) = 2 :=
  show Nat.land 2 (partsMask [.regs]) = 2 from by decide
theorem mask_powerOnReset (straps flash) : Nat.land 16777190 (partsMask (changes (.powerOnReset straps flash))) = 16777190 :=
  show Nat.land 16777190 (partsMask [.regs, .frame, .cmdq, .pst, .xlt, .store, .core, .emb, .vec, .rpl, .kvp, .hxl, .coh, .gate, .err, .rack, .sys, .mgt, .entries, .msix, .mem]) = 16777190 from by decide
theorem mask_vstby5Lost : Nat.land 8259602 (partsMask (changes .vstby5Lost)) = 8259602 :=
  show Nat.land 8259602 (partsMask [.regs, .out, .vec, .err, .rack, .sys, .mgt, .entries, .msix]) = 8259602 from by decide
theorem mask_startup (flash pop badCheckers islandTemp us) : Nat.land 16777214 (partsMask (changes (.startup flash pop badCheckers islandTemp us))) = 16777214 :=
  show Nat.land 16777214 (partsMask [.regs, .frame, .fresh, .out, .cmdq, .pst, .xlt, .store, .core, .emb, .vec, .rpl, .kvp, .hxl, .coh, .gate, .err, .rack, .sys, .mgt, .entries, .msix, .mem]) = 16777214 from by decide
theorem mask_storeBringup (deltaOk damage us) : Nat.land 16649498 (partsMask (changes (.storeBringup deltaOk damage us))) = 16649498 :=
  show Nat.land 16649498 (partsMask [.regs, .fresh, .out, .store, .emb, .vec, .err, .rack, .sys, .mgt, .entries, .msix, .mem]) = 16649498 from by decide
theorem mask_refclkLoss : Nat.land 16768954 (partsMask (changes .refclkLoss)) = 16768954 :=
  show Nat.land 16768954 (partsMask [.regs, .fresh, .out, .cmdq, .xlt, .store, .core, .emb, .vec, .rpl, .hxl, .coh, .gate, .err, .rack, .sys, .mgt, .entries, .msix, .mem]) = 16768954 from by decide
theorem mask_clkSscWrite (src value) : Nat.land 4194322 (partsMask (changes (.clkSscWrite src value))) = 4194322 :=
  show Nat.land 4194322 (partsMask [.regs, .out, .msix]) = 4194322 from by decide
theorem mask_sysRstAssert : Nat.land 16777210 (partsMask (changes .sysRstAssert)) = 16777210 :=
  show Nat.land 16777210 (partsMask [.regs, .fresh, .out, .cmdq, .pst, .xlt, .store, .core, .emb, .vec, .rpl, .kvp, .hxl, .coh, .gate, .err, .rack, .sys, .mgt, .entries, .msix, .mem]) = 16777210 from by decide
theorem mask_sysRstDeassert : Nat.land 524288 (partsMask (changes .sysRstDeassert)) = 524288 :=
  show Nat.land 524288 (partsMask [.sys]) = 524288 from by decide
theorem mask_perstAssert (port) : Nat.land 16752570 (partsMask (changes (.perstAssert port))) = 16752570 :=
  show Nat.land 16752570 (partsMask [.regs, .fresh, .out, .cmdq, .xlt, .store, .core, .emb, .vec, .rpl, .coh, .gate, .err, .rack, .sys, .mgt, .entries, .msix, .mem]) = 16752570 from by decide
theorem mask_perstDeassert (port) : Nat.land 524288 (partsMask (changes (.perstDeassert port))) = 524288 :=
  show Nat.land 524288 (partsMask [.sys]) = 524288 from by decide
theorem mask_fenceReqAssert : Nat.land 16752538 (partsMask (changes .fenceReqAssert)) = 16752538 :=
  show Nat.land 16752538 (partsMask [.regs, .fresh, .out, .xlt, .store, .core, .emb, .vec, .rpl, .coh, .gate, .err, .rack, .sys, .mgt, .entries, .msix, .mem]) = 16752538 from by decide
theorem mask_tapReset (pin) : Nat.land 524288 (partsMask (changes (.tapReset pin))) = 524288 :=
  show Nat.land 524288 (partsMask [.sys]) = 524288 from by decide
theorem mask_jtagDebugAccess (access) : Nat.land 16777210 (partsMask (changes (.jtagDebugAccess access))) = 16777210 :=
  show Nat.land 16777210 (partsMask [.regs, .fresh, .out, .cmdq, .pst, .xlt, .store, .core, .emb, .vec, .rpl, .kvp, .hxl, .coh, .gate, .err, .rack, .sys, .mgt, .entries, .msix, .mem]) = 16777210 from by decide
theorem mask_psuAcOkDeassert : Nat.land 16777210 (partsMask (changes .psuAcOkDeassert)) = 16777210 :=
  show Nat.land 16777210 (partsMask [.regs, .fresh, .out, .cmdq, .pst, .xlt, .store, .core, .emb, .vec, .rpl, .kvp, .hxl, .coh, .gate, .err, .rack, .sys, .mgt, .entries, .msix, .mem]) = 16777210 from by decide
theorem mask_psuAcOkAssert : Nat.land 524288 (partsMask (changes .psuAcOkAssert)) = 524288 :=
  show Nat.land 524288 (partsMask [.sys]) = 524288 from by decide
theorem mask_vin12OvTrip : Nat.land 8276498 (partsMask (changes .vin12OvTrip)) = 8276498 :=
  show Nat.land 8276498 (partsMask [.regs, .out, .core, .vec, .hxl, .err, .rack, .sys, .mgt, .entries, .msix]) = 8276498 from by decide
theorem mask_vin12SurgeBrace (long) : Nat.land 16777210 (partsMask (changes (.vin12SurgeBrace long))) = 16777210 :=
  show Nat.land 16777210 (partsMask [.regs, .fresh, .out, .cmdq, .pst, .xlt, .store, .core, .emb, .vec, .rpl, .kvp, .hxl, .coh, .gate, .err, .rack, .sys, .mgt, .entries, .msix, .mem]) = 16777210 from by decide
theorem mask_vin12Surge : Nat.land 4194322 (partsMask (changes .vin12Surge)) = 4194322 :=
  show Nat.land 4194322 (partsMask [.regs, .out, .msix]) = 4194322 from by decide
theorem mask_vin12SagEnter : Nat.land 4718610 (partsMask (changes .vin12SagEnter)) = 4718610 :=
  show Nat.land 4718610 (partsMask [.regs, .out, .sys, .msix]) = 4718610 from by decide
theorem mask_vin12SagExit : Nat.land 524290 (partsMask (changes .vin12SagExit)) = 524290 :=
  show Nat.land 524290 (partsMask [.regs, .sys]) = 524290 from by decide
theorem mask_vin12DeepSag (long) : Nat.land 16777210 (partsMask (changes (.vin12DeepSag long))) = 16777210 :=
  show Nat.land 16777210 (partsMask [.regs, .fresh, .out, .cmdq, .pst, .xlt, .store, .core, .emb, .vec, .rpl, .kvp, .hxl, .coh, .gate, .err, .rack, .sys, .mgt, .entries, .msix, .mem]) = 16777210 from by decide
theorem mask_vin12UvTrip : Nat.land 8276498 (partsMask (changes .vin12UvTrip)) = 8276498 :=
  show Nat.land 8276498 (partsMask [.regs, .out, .core, .vec, .hxl, .err, .rack, .sys, .mgt, .entries, .msix]) = 8276498 from by decide
theorem mask_snowploughTick (mv w w1ms w100ms) : Nat.land 5767186 (partsMask (changes (.snowploughTick mv w w1ms w100ms))) = 5767186 :=
  show Nat.land 5767186 (partsMask [.regs, .out, .sys, .mgt, .msix]) = 5767186 from by decide
theorem mask_braceFlushStart (us) : Nat.land 524546 (partsMask (changes (.braceFlushStart us))) = 524546 :=
  show Nat.land 524546 (partsMask [.regs, .store, .sys]) = 524546 from by decide
theorem mask_braceCommitRecord (us dieFailed lost) : Nat.land 8276754 (partsMask (changes (.braceCommitRecord us dieFailed lost))) = 8276754 :=
  show Nat.land 8276754 (partsMask [.regs, .out, .store, .core, .vec, .hxl, .err, .rack, .sys, .mgt, .entries, .msix]) = 8276754 from by decide
theorem mask_restartQualified : Nat.land 524288 (partsMask (changes .restartQualified)) = 524288 :=
  show Nat.land 524288 (partsMask [.sys]) = 524288 from by decide
theorem mask_thermalSample (temp sensor selfFail) : Nat.land 16777210 (partsMask (changes (.thermalSample temp sensor selfFail))) = 16777210 :=
  show Nat.land 16777210 (partsMask [.regs, .fresh, .out, .cmdq, .pst, .xlt, .store, .core, .emb, .vec, .rpl, .kvp, .hxl, .coh, .gate, .err, .rack, .sys, .mgt, .entries, .msix, .mem]) = 16777210 from by decide
theorem mask_pwrClearMinmax (src) : Nat.land 2 (partsMask (changes (.pwrClearMinmax src))) = 2 :=
  show Nat.land 2 (partsMask [.regs]) = 2 from by decide
theorem mask_pwrClearBrace (src) : Nat.land 5242898 (partsMask (changes (.pwrClearBrace src))) = 5242898 :=
  show Nat.land 5242898 (partsMask [.regs, .out, .mgt, .msix]) = 5242898 from by decide
theorem mask_pwrEnergyLoRead (src addr len) : Nat.land 1048594 (partsMask (changes (.pwrEnergyLoRead src addr len))) = 1048594 :=
  show Nat.land 1048594 (partsMask [.regs, .out, .mgt]) = 1048594 from by decide
theorem mask_rplBufHeadLoRead (src addr len) : Nat.land 1048594 (partsMask (changes (.rplBufHeadLoRead src addr len))) = 1048594 :=
  show Nat.land 1048594 (partsMask [.regs, .out, .mgt]) = 1048594 from by decide
theorem mask_secSvnCommit (src) : Nat.land 524288 (partsMask (changes (.secSvnCommit src))) = 524288 :=
  show Nat.land 524288 (partsMask [.sys]) = 524288 from by decide
theorem mask_secLcProvision (src fuseOk) : Nat.land 8259602 (partsMask (changes (.secLcProvision src fuseOk))) = 8259602 :=
  show Nat.land 8259602 (partsMask [.regs, .out, .vec, .err, .rack, .sys, .mgt, .entries, .msix]) = 8259602 from by decide
theorem mask_secTokenSubmit (src) : Nat.land 524290 (partsMask (changes (.secTokenSubmit src))) = 524290 :=
  show Nat.land 524290 (partsMask [.regs, .sys]) = 524290 from by decide
theorem mask_tokenVerifyComplete (sigOk fuseOk) : Nat.land 16777210 (partsMask (changes (.tokenVerifyComplete sigOk fuseOk))) = 16777210 :=
  show Nat.land 16777210 (partsMask [.regs, .fresh, .out, .cmdq, .pst, .xlt, .store, .core, .emb, .vec, .rpl, .kvp, .hxl, .coh, .gate, .err, .rack, .sys, .mgt, .entries, .msix, .mem]) = 16777210 from by decide
theorem mask_secNewNonce (src) : Nat.land 524296 (partsMask (changes (.secNewNonce src))) = 524296 :=
  show Nat.land 524296 (partsMask [.fresh, .sys]) = 524296 from by decide
theorem mask_secTokenLower (src) : Nat.land 8259602 (partsMask (changes (.secTokenLower src))) = 8259602 :=
  show Nat.land 8259602 (partsMask [.regs, .out, .vec, .err, .rack, .sys, .mgt, .entries, .msix]) = 8259602 from by decide
theorem mask_debugTimerExpiry : Nat.land 8259602 (partsMask (changes .debugTimerExpiry)) = 8259602 :=
  show Nat.land 8259602 (partsMask [.regs, .out, .vec, .err, .rack, .sys, .mgt, .entries, .msix]) = 8259602 from by decide
theorem mask_secPwrTargetRun (src) : Nat.land 5767442 (partsMask (changes (.secPwrTargetRun src))) = 5767442 :=
  show Nat.land 5767442 (partsMask [.regs, .out, .store, .sys, .mgt, .msix]) = 5767442 from by decide
theorem mask_secPwrTargetRest (src) : Nat.land 5768018 (partsMask (changes (.secPwrTargetRest src))) = 5768018 :=
  show Nat.land 5768018 (partsMask [.regs, .out, .pst, .store, .core, .sys, .mgt, .msix]) = 5768018 from by decide
theorem mask_secPwrTargetStandby (src) : Nat.land 16777210 (partsMask (changes (.secPwrTargetStandby src))) = 16777210 :=
  show Nat.land 16777210 (partsMask [.regs, .fresh, .out, .cmdq, .pst, .xlt, .store, .core, .emb, .vec, .rpl, .kvp, .hxl, .coh, .gate, .err, .rack, .sys, .mgt, .entries, .msix, .mem]) = 16777210 from by decide
theorem mask_getVersion (ep) : Nat.land 1048592 (partsMask (changes (.getVersion ep))) = 1048592 :=
  show Nat.land 1048592 (partsMask [.out, .mgt]) = 1048592 from by decide
theorem mask_getCapabilities (ep) : Nat.land 1048592 (partsMask (changes (.getCapabilities ep))) = 1048592 :=
  show Nat.land 1048592 (partsMask [.out, .mgt]) = 1048592 from by decide
theorem mask_negotiateAlgorithms (ep offered) : Nat.land 1048592 (partsMask (changes (.negotiateAlgorithms ep offered))) = 1048592 :=
  show Nat.land 1048592 (partsMask [.out, .mgt]) = 1048592 from by decide
theorem mask_getDigests (ep) : Nat.land 16 (partsMask (changes (.getDigests ep))) = 16 :=
  show Nat.land 16 (partsMask [.out]) = 16 from by decide
theorem mask_getCertificate (ep slot off len) : Nat.land 16 (partsMask (changes (.getCertificate ep slot off len))) = 16 :=
  show Nat.land 16 (partsMask [.out]) = 16 from by decide
theorem mask_challenge (ep slot) : Nat.land 24 (partsMask (changes (.challenge ep slot))) = 24 :=
  show Nat.land 24 (partsMask [.fresh, .out]) = 24 from by decide
theorem mask_getMeasurements (ep index sign) : Nat.land 24 (partsMask (changes (.getMeasurements ep index sign))) = 24 :=
  show Nat.land 24 (partsMask [.fresh, .out]) = 24 from by decide
theorem mask_keyExchange (ep auth) : Nat.land 1048600 (partsMask (changes (.keyExchange ep auth))) = 1048600 :=
  show Nat.land 1048600 (partsMask [.fresh, .out, .mgt]) = 1048600 from by decide
theorem mask_finish (ep session partner) : Nat.land 8341522 (partsMask (changes (.finish ep session partner))) = 8341522 :=
  show Nat.land 8341522 (partsMask [.regs, .out, .vec, .hxl, .gate, .err, .rack, .sys, .mgt, .entries, .msix]) = 8341522 from by decide
theorem mask_spdmHeartbeat (ep session) : Nat.land 16 (partsMask (changes (.spdmHeartbeat ep session))) = 16 :=
  show Nat.land 16 (partsMask [.out]) = 16 from by decide
theorem mask_keyUpdate (ep session) : Nat.land 1048592 (partsMask (changes (.keyUpdate ep session))) = 1048592 :=
  show Nat.land 1048592 (partsMask [.out, .mgt]) = 1048592 from by decide
theorem mask_endSession (ep session) : Nat.land 1064976 (partsMask (changes (.endSession ep session))) = 1064976 :=
  show Nat.land 1064976 (partsMask [.out, .hxl, .mgt]) = 1064976 from by decide
theorem mask_getCsr (ep) : Nat.land 24 (partsMask (changes (.getCsr ep))) = 24 :=
  show Nat.land 24 (partsMask [.fresh, .out]) = 24 from by decide
theorem mask_setCertificate (ep session slot chain) : Nat.land 1048592 (partsMask (changes (.setCertificate ep session slot chain))) = 1048592 :=
  show Nat.land 1048592 (partsMask [.out, .mgt]) = 1048592 from by decide
theorem mask_entdaa (addr) : Nat.land 1048592 (partsMask (changes (.entdaa addr))) = 1048592 :=
  show Nat.land 1048592 (partsMask [.out, .mgt]) = 1048592 from by decide
theorem mask_setEndpointId (ep eid) : Nat.land 1048592 (partsMask (changes (.setEndpointId ep eid))) = 1048592 :=
  show Nat.land 1048592 (partsMask [.out, .mgt]) = 1048592 from by decide
theorem mask_getEndpointId (ep) : Nat.land 16 (partsMask (changes (.getEndpointId ep))) = 16 :=
  show Nat.land 16 (partsMask [.out]) = 16 from by decide
theorem mask_getEndpointUuid (ep) : Nat.land 16 (partsMask (changes (.getEndpointUuid ep))) = 16 :=
  show Nat.land 16 (partsMask [.out]) = 16 from by decide
theorem mask_getMctpVersionSupport (ep) : Nat.land 16 (partsMask (changes (.getMctpVersionSupport ep))) = 16 :=
  show Nat.land 16 (partsMask [.out]) = 16 from by decide
theorem mask_getMessageTypeSupport (ep) : Nat.land 16 (partsMask (changes (.getMessageTypeSupport ep))) = 16 :=
  show Nat.land 16 (partsMask [.out]) = 16 from by decide
theorem mask_getTid (ep) : Nat.land 16 (partsMask (changes (.getTid ep))) = 16 :=
  show Nat.land 16 (partsMask [.out]) = 16 from by decide
theorem mask_setTid (ep tid) : Nat.land 1048592 (partsMask (changes (.setTid ep tid))) = 1048592 :=
  show Nat.land 1048592 (partsMask [.out, .mgt]) = 1048592 from by decide
theorem mask_getPldmVersion (ep type) : Nat.land 16 (partsMask (changes (.getPldmVersion ep type))) = 16 :=
  show Nat.land 16 (partsMask [.out]) = 16 from by decide
theorem mask_getPldmTypes (ep) : Nat.land 16 (partsMask (changes (.getPldmTypes ep))) = 16 :=
  show Nat.land 16 (partsMask [.out]) = 16 from by decide
theorem mask_getPldmCommands (ep type) : Nat.land 16 (partsMask (changes (.getPldmCommands ep type))) = 16 :=
  show Nat.land 16 (partsMask [.out]) = 16 from by decide
theorem mask_getPdrRepositoryInfo (ep) : Nat.land 16 (partsMask (changes (.getPdrRepositoryInfo ep))) = 16 :=
  show Nat.land 16 (partsMask [.out]) = 16 from by decide
theorem mask_getPdr (ep record) : Nat.land 16 (partsMask (changes (.getPdr ep record))) = 16 :=
  show Nat.land 16 (partsMask [.out]) = 16 from by decide
theorem mask_getSensorReading (ep sensor vstby) : Nat.land 16 (partsMask (changes (.getSensorReading ep sensor vstby))) = 16 :=
  show Nat.land 16 (partsMask [.out]) = 16 from by decide
theorem mask_getStateSensorReadings (ep sensor) : Nat.land 16 (partsMask (changes (.getStateSensorReadings ep sensor))) = 16 :=
  show Nat.land 16 (partsMask [.out]) = 16 from by decide
theorem mask_setEventReceiver (ep receiver) : Nat.land 1048592 (partsMask (changes (.setEventReceiver ep receiver))) = 1048592 :=
  show Nat.land 1048592 (partsMask [.out, .mgt]) = 1048592 from by decide
theorem mask_pollForPlatformEventMessage (ep) : Nat.land 1048592 (partsMask (changes (.pollForPlatformEventMessage ep))) = 1048592 :=
  show Nat.land 1048592 (partsMask [.out, .mgt]) = 1048592 from by decide
theorem mask_requestUpdate (ep session maxTransfer) : Nat.land 5767186 (partsMask (changes (.requestUpdate ep session maxTransfer))) = 5767186 :=
  show Nat.land 5767186 (partsMask [.regs, .out, .sys, .mgt, .msix]) = 5767186 from by decide
theorem mask_firmwareDataChunk (ep session len image) : Nat.land 5767186 (partsMask (changes (.firmwareDataChunk ep session len image))) = 5767186 :=
  show Nat.land 5767186 (partsMask [.regs, .out, .sys, .mgt, .msix]) = 5767186 from by decide
theorem mask_activateFirmware (ep session selfContained) : Nat.land 5242898 (partsMask (changes (.activateFirmware ep session selfContained))) = 5242898 :=
  show Nat.land 5242898 (partsMask [.regs, .out, .mgt, .msix]) = 5242898 from by decide
theorem mask_cancelUpdate (ep session) : Nat.land 5242898 (partsMask (changes (.cancelUpdate ep session))) = 5242898 :=
  show Nat.land 5242898 (partsMask [.regs, .out, .mgt, .msix]) = 5242898 from by decide
theorem mask_readSitzmark (ep entry) : Nat.land 16 (partsMask (changes (.readSitzmark ep entry))) = 16 :=
  show Nat.land 16 (partsMask [.out]) = 16 from by decide
theorem mask_readFirst (ep) : Nat.land 16 (partsMask (changes (.readFirst ep))) = 16 :=
  show Nat.land 16 (partsMask [.out]) = 16 from by decide
theorem mask_readReturn (ep off len) : Nat.land 16 (partsMask (changes (.readReturn ep off len))) = 16 :=
  show Nat.land 16 (partsMask [.out]) = 16 from by decide
theorem mask_readReg (ep off) : Nat.land 1048594 (partsMask (changes (.readReg ep off))) = 1048594 :=
  show Nat.land 1048594 (partsMask [.regs, .out, .mgt]) = 1048594 from by decide
theorem mask_pmcSnap (src) : Nat.land 1048576 (partsMask (changes (.pmcSnap src))) = 1048576 :=
  show Nat.land 1048576 (partsMask [.mgt]) = 1048576 from by decide
theorem mask_pmcFreeze (src) : Nat.land 1048576 (partsMask (changes (.pmcFreeze src))) = 1048576 :=
  show Nat.land 1048576 (partsMask [.mgt]) = 1048576 from by decide
theorem mask_pmcUnfreeze (src) : Nat.land 1048576 (partsMask (changes (.pmcUnfreeze src))) = 1048576 :=
  show Nat.land 1048576 (partsMask [.mgt]) = 1048576 from by decide
theorem mask_pmcClearAll (src) : Nat.land 1048576 (partsMask (changes (.pmcClearAll src))) = 1048576 :=
  show Nat.land 1048576 (partsMask [.mgt]) = 1048576 from by decide
theorem mask_pmcOwnerWrite (src value) : Nat.land 1048576 (partsMask (changes (.pmcOwnerWrite src value))) = 1048576 :=
  show Nat.land 1048576 (partsMask [.mgt]) = 1048576 from by decide
theorem mask_pmcValueLoRead (src off addr len) : Nat.land 1048594 (partsMask (changes (.pmcValueLoRead src off addr len))) = 1048594 :=
  show Nat.land 1048594 (partsMask [.regs, .out, .mgt]) = 1048594 from by decide
theorem mask_pmcOverflow (counter value) : Nat.land 5242898 (partsMask (changes (.pmcOverflow counter value))) = 5242898 :=
  show Nat.land 5242898 (partsMask [.regs, .out, .mgt, .msix]) = 5242898 from by decide
theorem mask_pmcVSnap (src) : Nat.land 1048576 (partsMask (changes (.pmcVSnap src))) = 1048576 :=
  show Nat.land 1048576 (partsMask [.mgt]) = 1048576 from by decide
theorem mask_pmcVFreeze (src) : Nat.land 1048576 (partsMask (changes (.pmcVFreeze src))) = 1048576 :=
  show Nat.land 1048576 (partsMask [.mgt]) = 1048576 from by decide
theorem mask_pmcVUnfreeze (src) : Nat.land 1048576 (partsMask (changes (.pmcVUnfreeze src))) = 1048576 :=
  show Nat.land 1048576 (partsMask [.mgt]) = 1048576 from by decide
theorem mask_vstby5Restored : Nat.land 524290 (partsMask (changes .vstby5Restored)) = 524290 :=
  show Nat.land 524290 (partsMask [.regs, .sys]) = 524290 from by decide
theorem mask_refclkRestored : Nat.land 5767186 (partsMask (changes .refclkRestored)) = 5767186 :=
  show Nat.land 5767186 (partsMask [.regs, .out, .sys, .mgt, .msix]) = 5767186 from by decide
theorem mask_blockLockLost (port) : Nat.land 5455890 (partsMask (changes (.blockLockLost port))) = 5455890 :=
  show Nat.land 5455890 (partsMask [.regs, .out, .hxl, .gate, .err, .mgt, .msix]) = 5455890 from by decide
theorem mask_pcieCompletionTimeout (entry off) : Nat.land 2097280 (partsMask (changes (.pcieCompletionTimeout entry off))) = 2097280 :=
  show Nat.land 2097280 (partsMask [.xlt, .entries]) = 2097280 from by decide
theorem mask_flashDieReady (die op pass) : Nat.land 8259602 (partsMask (changes (.flashDieReady die op pass))) = 8259602 :=
  show Nat.land 8259602 (partsMask [.regs, .out, .vec, .err, .rack, .sys, .mgt, .entries, .msix]) = 8259602 from by decide
theorem mask_busParityError (kind channel attempt retrainFailed) : Nat.land 8259858 (partsMask (changes (.busParityError kind channel attempt retrainFailed))) = 8259858 :=
  show Nat.land 8259858 (partsMask [.regs, .out, .store, .vec, .err, .rack, .sys, .mgt, .entries, .msix]) = 8259858 from by decide
theorem mask_hxlRouteWrite (src value) : Nat.land 16400 (partsMask (changes (.hxlRouteWrite src value))) = 16400 :=
  show Nat.land 16400 (partsMask [.out, .hxl]) = 16400 from by decide
theorem mask_queryDeviceIdentifiers (ep session) : Nat.land 24 (partsMask (changes (.queryDeviceIdentifiers ep session))) = 24 :=
  show Nat.land 24 (partsMask [.fresh, .out]) = 24 from by decide
theorem mask_getFirmwareParameters (ep session) : Nat.land 16 (partsMask (changes (.getFirmwareParameters ep session))) = 16 :=
  show Nat.land 16 (partsMask [.out]) = 16 from by decide
theorem mask_passComponentTable (ep session firmware identifier) : Nat.land 1048592 (partsMask (changes (.passComponentTable ep session firmware identifier))) = 1048592 :=
  show Nat.land 1048592 (partsMask [.out, .mgt]) = 1048592 from by decide
theorem mask_updateComponent (ep session version size) : Nat.land 1048592 (partsMask (changes (.updateComponent ep session version size))) = 1048592 :=
  show Nat.land 1048592 (partsMask [.out, .mgt]) = 1048592 from by decide
theorem mask_getStatus (ep session) : Nat.land 16 (partsMask (changes (.getStatus ep session))) = 16 :=
  show Nat.land 16 (partsMask [.out]) = 16 from by decide
theorem mask_cancelUpdateComponent (ep session) : Nat.land 5242898 (partsMask (changes (.cancelUpdateComponent ep session))) = 5242898 :=
  show Nat.land 5242898 (partsMask [.regs, .out, .mgt, .msix]) = 5242898 from by decide
theorem exec_keeps {r : State} (i : Instr) (s : State) (h : Kept (partsMask (changes i)) r s) : KeptRes (partsMask (changes i)) r (exec i s) := by
  match i with
  | .registerWrite src addr len value => exact execRegisterWrite_keeps _ _ _ _ _ (mask_registerWrite _ _ _ _) h
  | .eventEnWrite src off value => exact execEventEnWrite_keeps _ _ _ _ (mask_eventEnWrite _ _ _) h
  | .msixVectorUnmask func vec => exact execMsixVectorUnmask_keeps _ _ _ (mask_msixVectorUnmask _ _) h
  | .sqTailDoorbell src qp tail => exact execSqTailDoorbell_keeps _ _ _ _ (mask_sqTailDoorbell _ _ _) h
  | .cqHeadDoorbell src qp head => exact execCqHeadDoorbell_keeps _ _ _ _ (mask_cqHeadDoorbell _ _ _) h
  | .sqFetch src qp result packet => exact execSqFetch_keeps _ _ _ _ _ (mask_sqFetch _ _ _ _) h
  | .intakeAccept entry result block => exact execIntakeAccept_keeps _ _ _ _ (mask_intakeAccept _ _ _) h
  | .barrierRelease entry => exact execBarrierRelease_keeps _ _ (mask_barrierRelease _) h
  | .work origin id epoch cls forwarded role slot kind addr data => exact execWork_keeps _ _ _ _ _ _ _ _ _ _ _ (mask_work _ _ _ _ _ _ _ _ _ _) h
  | .workAnswer entry item kind status subcode begun result => exact execWorkAnswer_keeps _ _ _ _ _ _ _ _ (mask_workAnswer _ _ _ _ _ _ _) h
  | .workCancel origin id => exact execWorkCancel_keeps _ _ _ (mask_workCancel _ _) h
  | .workHold origin id => exact execWorkHold_keeps _ _ _ (mask_workHold _ _) h
  | .cancelResend entry => exact execCancelResend_keeps _ _ (mask_cancelResend _) h
  | .commandComplete entry delivered => exact execCommandComplete_keeps _ _ _ (mask_commandComplete _ _) h
  | .cqCoalesceTimeout src qp => exact execCqCoalesceTimeout_keeps _ _ _ (mask_cqCoalesceTimeout _ _) h
  | .commandTimeout entry => exact execCommandTimeout_keeps _ _ (mask_commandTimeout _) h
  | .abortQtag src qp qtag => exact execAbortQtag_keeps _ _ _ _ (mask_abortQtag _ _ _) h
  | .abortAllQp src qp => exact execAbortAllQp_keeps _ _ _ (mask_abortAllQp _ _) h
  | .resultRelease src handles => exact execResultRelease_keeps _ _ _ (mask_resultRelease _ _) h
  | .qpEnable src => exact execQpEnable_keeps _ _ (mask_qpEnable _) h
  | .qpDisable src => exact execQpDisable_keeps _ _ (mask_qpDisable _) h
  | .functionLevelReset src => exact execFunctionLevelReset_keeps _ _ (mask_functionLevelReset _) h
  | .pcieLinkDown port => exact execPcieLinkDown_keeps _ _ (mask_pcieLinkDown _) h
  | .fnAdmSelWrite src func => exact execFnAdmSelWrite_keeps _ _ _ (mask_fnAdmSelWrite _ _) h
  | .fnAdmApply src => exact execFnAdmApply_keeps _ _ (mask_fnAdmApply _) h
  | .fnHxlSelWrite src port => exact execFnHxlSelWrite_keeps _ _ _ (mask_fnHxlSelWrite _ _) h
  | .fnHxlApply src => exact execFnHxlApply_keeps _ _ (mask_fnHxlApply _) h
  | .frameBoundary => exact execFrameBoundary_keeps _ (mask_frameBoundary) h
  | .slotIssue kind inst slot queue blocked => exact execSlotIssue_keeps _ _ _ _ _ _ (mask_slotIssue _ _ _ _ _) h
  | .pstImageLoad src => exact execPstImageLoad_keeps _ _ (mask_pstImageLoad _) h
  | .pstLoadDone result image => exact execPstLoadDone_keeps _ _ _ (mask_pstLoadDone _ _) h
  | .pstSwitchArm src => exact execPstSwitchArm_keeps _ _ (mask_pstSwitchArm _) h
  | .pstSwitchCancel src => exact execPstSwitchCancel_keeps _ _ (mask_pstSwitchCancel _) h
  | .tableSwitch => exact execTableSwitch_keeps _ (mask_tableSwitch) h
  | .epoch port msg stamp => exact execEpoch_keeps _ _ _ _ (mask_epoch _ _ _) h
  | .alignWindowEnd => exact execAlignWindowEnd_keeps _ (mask_alignWindowEnd) h
  | .parentLost => exact execParentLost_keeps _ (mask_parentLost) h
  | .holdoverExpiry => exact execHoldoverExpiry_keeps _ (mask_holdoverExpiry) h
  | .alignCtrlWrite src value => exact execAlignCtrlWrite_keeps _ _ _ (mask_alignCtrlWrite _ _) h
  | .pstFrameLoRead src addr len => exact execPstFrameLoRead_keeps _ _ _ _ (mask_pstFrameLoRead _ _ _) h
  | .xltCtxSelWrite src ctx => exact execXltCtxSelWrite_keeps _ _ _ (mask_xltCtxSelWrite _ _) h
  | .xltSegSelWrite src seg => exact execXltSegSelWrite_keeps _ _ _ (mask_xltSegSelWrite _ _) h
  | .xltApplyCtx src both => exact execXltApplyCtx_keeps _ _ _ (mask_xltApplyCtx _ _) h
  | .xltApplySeg src both => exact execXltApplySeg_keeps _ _ _ (mask_xltApplySeg _ _) h
  | .xltAtcFlush src port0 port1 => exact execXltAtcFlush_keeps _ _ _ _ (mask_xltAtcFlush _ _ _) h
  | .atsInvalidationRequest port func tag page pages => exact execAtsInvalidationRequest_keeps _ _ _ _ _ _ (mask_atsInvalidationRequest _ _ _ _ _) h
  | .atsInvalidationCompletion port tag => exact execAtsInvalidationCompletion_keeps _ _ _ (mask_atsInvalidationCompletion _ _) h
  | .translationCompletion func page pages result write => exact execTranslationCompletion_keeps _ _ _ _ _ _ (mask_translationCompletion _ _ _ _ _) h
  | .prgResponse group code => exact execPrgResponse_keeps _ _ _ (mask_prgResponse _ _) h
  | .priTimeout group => exact execPriTimeout_keeps _ _ (mask_priTimeout _) h
  | .priReenable port => exact execPriReenable_keeps _ _ (mask_priReenable _) h
  | .hostDmaCompletion entry off result data => exact execHostDmaCompletion_keeps _ _ _ _ _ (mask_hostDmaCompletion _ _ _ _) h
  | .nop entry => exact execNop_keeps _ _ (mask_nop _) h
  | .hostToStore entry => exact execHostToStore_keeps _ _ (mask_hostToStore _) h
  | .storeToHost entry => exact execStoreToHost_keeps _ _ (mask_storeToHost _) h
  | .storeCopy entry => exact execStoreCopy_keeps _ _ (mask_storeCopy _) h
  | .prefetchHost entry => exact execPrefetchHost_keeps _ _ (mask_prefetchHost _) h
  | .advise entry => exact execAdvise_keeps _ _ (mask_advise _) h
  | .migrateIn entry => exact execMigrateIn_keeps _ _ (mask_migrateIn _) h
  | .migrateOut entry => exact execMigrateOut_keeps _ _ (mask_migrateOut _) h
  | .invalidate entry => exact execInvalidate_keeps _ _ (mask_invalidate _) h
  | .revoke entry => exact execRevoke_keeps _ _ (mask_revoke _) h
  | .revokeComplete ctx seg => exact execRevokeComplete_keeps _ _ _ (mask_revokeComplete _ _) h
  | .tierCtrlLock src => exact execTierCtrlLock_keeps _ _ (mask_tierCtrlLock _) h
  | .place entry => exact execPlace_keeps _ _ (mask_place _) h
  | .seal entry => exact execSeal_keeps _ _ (mask_seal _) h
  | .raise entry => exact execRaise_keeps _ _ (mask_raise _) h
  | .lower entry => exact execLower_keeps _ _ (mask_lower _) h
  | .residency entry => exact execResidency_keeps _ _ (mask_residency _) h
  | .chairliftMoveStart home page => exact execChairliftMoveStart_keeps _ _ _ (mask_chairliftMoveStart _ _) h
  | .moveDirectorySwitch page => exact execMoveDirectorySwitch_keeps _ _ (mask_moveDirectorySwitch _) h
  | .journalWaitResume entry granule => exact execJournalWaitResume_keeps _ _ _ (mask_journalWaitResume _ _) h
  | .heatEpochEnd => exact execHeatEpochEnd_keeps _ (mask_heatEpochEnd) h
  | .driftSample kind unit t v osc => exact execDriftSample_keeps _ _ _ _ _ _ (mask_driftSample _ _ _ _ _) h
  | .deviceTempRead kind unit temp twice => exact execDeviceTempRead_keeps _ _ _ _ _ (mask_deviceTempRead _ _ _ _) h
  | .braceAreaErased half => exact execBraceAreaErased_keeps _ _ (mask_braceAreaErased _) h
  | .metadataCheckpoint => exact execMetadataCheckpoint_keeps _ (mask_metadataCheckpoint) h
  | .invocationStart core => exact execInvocationStart_keeps _ _ (mask_invocationStart _) h
  | .recipeNop core => exact execRecipeNop_keeps _ _ (mask_recipeNop _) h
  | .recipeLoad core => exact execRecipeLoad_keeps _ _ (mask_recipeLoad _) h
  | .recipeStore core => exact execRecipeStore_keeps _ _ (mask_recipeStore _) h
  | .recipeGather core => exact execRecipeGather_keeps _ _ (mask_recipeGather _) h
  | .recipeScatter core => exact execRecipeScatter_keeps _ _ (mask_recipeScatter _) h
  | .atomicAdd core => exact execAtomicAdd_keeps _ _ (mask_atomicAdd _) h
  | .loop core => exact execLoop_keeps _ _ (mask_loop _) h
  | .endloop core => exact execEndloop_keeps _ _ (mask_endloop _) h
  | .signal core => exact execSignal_keeps _ _ (mask_signal _) h
  | .flags core => exact execFlags_keeps _ _ (mask_flags _) h
  | .recipeEnd core => exact execRecipeEnd_keeps _ _ (mask_recipeEnd _) h
  | .copy core => exact execCopy_keeps _ _ (mask_copy _) h
  | .add core => exact execAdd_keeps _ _ (mask_add _) h
  | .sub core => exact execSub_keeps _ _ (mask_sub _) h
  | .mul core => exact execMul_keeps _ _ (mask_mul _) h
  | .muladd core => exact execMuladd_keeps _ _ (mask_muladd _) h
  | .max core => exact execMax_keeps _ _ (mask_max _) h
  | .min core => exact execMin_keeps _ _ (mask_min _) h
  | .abs core => exact execAbs_keeps _ _ (mask_abs _) h
  | .div core => exact execDiv_keeps _ _ (mask_div _) h
  | .sqrt core => exact execSqrt_keeps _ _ (mask_sqrt _) h
  | .cmplt core => exact execCmplt_keeps _ _ (mask_cmplt _) h
  | .select core => exact execSelect_keeps _ _ (mask_select _) h
  | .dot core => exact execDot_keeps _ _ (mask_dot _) h
  | .l2sq core => exact execL2sq_keeps _ _ (mask_l2sq _) h
  | .reduce core => exact execReduce_keeps _ _ (mask_reduce _) h
  | .hash core => exact execHash_keeps _ _ (mask_hash _) h
  | .topk core => exact execTopk_keeps _ _ (mask_topk _) h
  | .streamSettle core token => exact execStreamSettle_keeps _ _ _ (mask_streamSettle _ _) h
  | .holdGranuleAcquired granule => exact execHoldGranuleAcquired_keeps _ _ (mask_holdGranuleAcquired _) h
  | .holdTimeout core => exact execHoldTimeout_keeps _ _ (mask_holdTimeout _) h
  | .cycleLimitExpiry core => exact execCycleLimitExpiry_keeps _ _ (mask_cycleLimitExpiry _) h
  | .coreExtLoad src => exact execCoreExtLoad_keeps _ _ (mask_coreExtLoad _) h
  | .coreExtLoadDone result image verified => exact execCoreExtLoadDone_keeps _ _ _ _ (mask_coreExtLoadDone _ _ _) h
  | .coreExtRemove src => exact execCoreExtRemove_keeps _ _ (mask_coreExtRemove _) h
  | .embDefine entry => exact execEmbDefine_keeps _ _ (mask_embDefine _) h
  | .embDrop entry => exact execEmbDrop_keeps _ _ (mask_embDrop _) h
  | .embQuery entry => exact execEmbQuery_keeps _ _ (mask_embQuery _) h
  | .embGather entry => exact execEmbGather_keeps _ _ (mask_embGather _) h
  | .embUpdate entry => exact execEmbUpdate_keeps _ _ (mask_embUpdate _) h
  | .embWrite entry => exact execEmbWrite_keeps _ _ (mask_embWrite _) h
  | .embStepClose entry => exact execEmbStepClose_keeps _ _ (mask_embStepClose _) h
  | .embPublish entry => exact execEmbPublish_keeps _ _ (mask_embPublish _) h
  | .embRetire table => exact execEmbRetire_keeps _ _ (mask_embRetire _) h
  | .vecDefine entry => exact execVecDefine_keeps _ _ (mask_vecDefine _) h
  | .vecDrop entry => exact execVecDrop_keeps _ _ (mask_vecDrop _) h
  | .vecQuery entry => exact execVecQuery_keeps _ _ (mask_vecQuery _) h
  | .vecSearch entry => exact execVecSearch_keeps _ _ (mask_vecSearch _) h
  | .walkRound walk => exact execWalkRound_keeps _ _ (mask_walkRound _) h
  | .vecInsert entry => exact execVecInsert_keeps _ _ (mask_vecInsert _) h
  | .vecDelete entry => exact execVecDelete_keeps _ _ (mask_vecDelete _) h
  | .vecRepair entry => exact execVecRepair_keeps _ _ (mask_vecRepair _) h
  | .vecRepairNodeStart index => exact execVecRepairNodeStart_keeps _ _ (mask_vecRepairNodeStart _) h
  | .vecPassEnd index => exact execVecPassEnd_keeps _ _ (mask_vecPassEnd _) h
  | .rplDefine entry => exact execRplDefine_keeps _ _ (mask_rplDefine _) h
  | .rplDrop entry => exact execRplDrop_keeps _ _ (mask_rplDrop _) h
  | .rplQuery entry => exact execRplQuery_keeps _ _ (mask_rplQuery _) h
  | .rplInsert entry => exact execRplInsert_keeps _ _ (mask_rplInsert _) h
  | .rplReservationGrant buffer => exact execRplReservationGrant_keeps _ _ (mask_rplReservationGrant _) h
  | .rplSample entry => exact execRplSample_keeps _ _ (mask_rplSample _) h
  | .rplUpdate entry => exact execRplUpdate_keeps _ _ (mask_rplUpdate _) h
  | .rplTreePass buffer shard => exact execRplTreePass_keeps _ _ _ (mask_rplTreePass _ _) h
  | .rplDescent entry draw => exact execRplDescent_keeps _ _ _ (mask_rplDescent _ _) h
  | .kvpDefine entry => exact execKvpDefine_keeps _ _ (mask_kvpDefine _) h
  | .kvpDrop entry => exact execKvpDrop_keeps _ _ (mask_kvpDrop _) h
  | .kvpQuery entry => exact execKvpQuery_keeps _ _ (mask_kvpQuery _) h
  | .kvpOpen entry => exact execKvpOpen_keeps _ _ (mask_kvpOpen _) h
  | .kvpAppend entry => exact execKvpAppend_keeps _ _ (mask_kvpAppend _) h
  | .kvpLock entry => exact execKvpLock_keeps _ _ (mask_kvpLock _) h
  | .kvpUnlock entry => exact execKvpUnlock_keeps _ _ (mask_kvpUnlock _) h
  | .kvpLockExpiry pool seq => exact execKvpLockExpiry_keeps _ _ _ (mask_kvpLockExpiry _ _) h
  | .kvpClose entry => exact execKvpClose_keeps _ _ (mask_kvpClose _) h
  | .kvpHandover entry => exact execKvpHandover_keeps _ _ (mask_kvpHandover _) h
  | .kvpOffer origin pool seq token length pages => exact execKvpOffer_keeps _ _ _ _ _ _ _ (mask_kvpOffer _ _ _ _ _ _) h
  | .kvpOfferAccept origin pool seq token => exact execKvpOfferAccept_keeps _ _ _ _ _ (mask_kvpOfferAccept _ _ _ _) h
  | .kvpOfferDecline origin pool seq token => exact execKvpOfferDecline_keeps _ _ _ _ _ (mask_kvpOfferDecline _ _ _ _) h
  | .kvpOfferTimeout pool seq => exact execKvpOfferTimeout_keeps _ _ _ (mask_kvpOfferTimeout _ _) h
  | .gateSignal entry => exact execGateSignal_keeps _ _ (mask_gateSignal _) h
  | .gateWait entry => exact execGateWait_keeps _ _ (mask_gateWait _) h
  | .gateReset entry => exact execGateReset_keeps _ _ (mask_gateReset _) h
  | .gateRead entry => exact execGateRead_keeps _ _ (mask_gateRead _) h
  | .fence entry => exact execFence_keeps _ _ (mask_fence _) h
  | .fenceProbeResend entry target => exact execFenceProbeResend_keeps _ _ _ (mask_fenceProbeResend _ _) h
  | .fencePromotionTimeout entry target => exact execFencePromotionTimeout_keeps _ _ _ (mask_fencePromotionTimeout _ _) h
  | .gateWatchdogExpiry entry => exact execGateWatchdogExpiry_keeps _ _ (mask_gateWatchdogExpiry _) h
  | .gateBlkSelWrite src block => exact execGateBlkSelWrite_keeps _ _ _ (mask_gateBlkSelWrite _ _) h
  | .gateBlkApply src => exact execGateBlkApply_keeps _ _ (mask_gateBlkApply _) h
  | .gateDbgRead src => exact execGateDbgRead_keeps _ _ (mask_gateDbgRead _) h
  | .gateDbgSet src => exact execGateDbgSet_keeps _ _ (mask_gateDbgSet _) h
  | .drainProbe port msg => exact execDrainProbe_keeps _ _ _ (mask_drainProbe _ _) h
  | .drainAck port msg => exact execDrainAck_keeps _ _ _ (mask_drainAck _ _) h
  | .drainReroute port msg => exact execDrainReroute_keeps _ _ _ (mask_drainReroute _ _) h
  | .drainAnswerDue origin source fenceId => exact execDrainAnswerDue_keeps _ _ _ _ (mask_drainAnswerDue _ _ _) h
  | .rd port msg => exact execRd_keeps _ _ _ (mask_rd _ _) h
  | .rdOwn port msg => exact execRdOwn_keeps _ _ _ (mask_rdOwn _ _) h
  | .wr port msg => exact execWr_keeps _ _ _ (mask_wr _ _) h
  | .wrp port msg => exact execWrp_keeps _ _ _ (mask_wrp _ _) h
  | .atom port msg => exact execAtom_keeps _ _ _ (mask_atom _ _) h
  | .wb port msg => exact execWb_keeps _ _ _ (mask_wb _ _) h
  | .inv port msg => exact execInv_keeps _ _ _ (mask_inv _ _) h
  | .invAck port msg => exact execInvAck_keeps _ _ _ (mask_invAck _ _) h
  | .invData port msg => exact execInvData_keeps _ _ _ (mask_invData _ _) h
  | .cpl port msg => exact execCpl_keeps _ _ _ (mask_cpl _ _) h
  | .cplNd port msg => exact execCplNd_keeps _ _ _ (mask_cplNd _ _) h
  | .cplVal port msg => exact execCplVal_keeps _ _ _ (mask_cplVal _ _) h
  | .cmd port msg => exact execCmd_keeps _ _ _ (mask_cmd _ _) h
  | .cmdCpl entry delivered => exact execCmdCpl_keeps _ _ _ (mask_cmdCpl _ _) h
  | .ctrlAbort port msg => exact execCtrlAbort_keeps _ _ _ (mask_ctrlAbort _ _) h
  | .ctrlRelease port msg => exact execCtrlRelease_keeps _ _ _ (mask_ctrlRelease _ _) h
  | .ctrlGrant port => exact execCtrlGrant_keeps _ _ (mask_ctrlGrant _) h
  | .cohTransactionStart granule => exact execCohTransactionStart_keeps _ _ (mask_cohTransactionStart _) h
  | .cohHoldExpiry granule => exact execCohHoldExpiry_keeps _ _ (mask_cohHoldExpiry _) h
  | .snoopTimeout index granule => exact execSnoopTimeout_keeps _ _ _ (mask_snoopTimeout _ _) h
  | .reclaimEnd index => exact execReclaimEnd_keeps _ _ (mask_reclaimEnd _) h
  | .cohAgentDeclare src index => exact execCohAgentDeclare_keeps _ _ _ (mask_cohAgentDeclare _ _) h
  | .cohAgentRevive src index => exact execCohAgentRevive_keeps _ _ _ (mask_cohAgentRevive _ _) h
  | .cohProbe src => exact execCohProbe_keeps _ _ (mask_cohProbe _) h
  | .flitReceive port corrected uncorrectable fecOk crcOk tagOk hdr payload => exact execFlitReceive_keeps _ _ _ _ _ _ _ _ _ (mask_flitReceive _ _ _ _ _ _ _ _) h
  | .nakRepeat port => exact execNakRepeat_keeps _ _ (mask_nakRepeat _) h
  | .ackTimeout port => exact execAckTimeout_keeps _ _ (mask_ackTimeout _) h
  | .rekey port => exact execRekey_keeps _ _ (mask_rekey _) h
  | .hxlPortCfgWrite src value => exact execHxlPortCfgWrite_keeps _ _ _ (mask_hxlPortCfgWrite _ _) h
  | .hxlPortRetrain src => exact execHxlPortRetrain_keeps _ _ (mask_hxlPortRetrain _) h
  | .hxlPortReset src => exact execHxlPortReset_keeps _ _ (mask_hxlPortReset _) h
  | .detectComplete port reversed polarity => exact execDetectComplete_keeps _ _ _ _ (mask_detectComplete _ _ _) h
  | .detectTimeout port => exact execDetectTimeout_keeps _ _ (mask_detectTimeout _) h
  | .equalizeComplete port => exact execEqualizeComplete_keeps _ _ (mask_equalizeComplete _) h
  | .equalizeTimeout port below => exact execEqualizeTimeout_keeps _ _ _ (mask_equalizeTimeout _ _) h
  | .blockLockAcquired port => exact execBlockLockAcquired_keeps _ _ (mask_blockLockAcquired _) h
  | .lockTimeout port => exact execLockTimeout_keeps _ _ (mask_lockTimeout _) h
  | .param port msg => exact execParam_keeps _ _ _ (mask_param _ _) h
  | .echo port msg now hold => exact execEcho_keeps _ _ _ _ _ (mask_echo _ _ _ _) h
  | .portActivate port => exact execPortActivate_keeps _ _ (mask_portActivate _) h
  | .retrainComplete port => exact execRetrainComplete_keeps _ _ (mask_retrainComplete _) h
  | .retrainTimeout port => exact execRetrainTimeout_keeps _ _ (mask_retrainTimeout _) h
  | .spdmSessionTimeout port => exact execSpdmSessionTimeout_keeps _ _ (mask_spdmSessionTimeout _) h
  | .noRouteExpiry id => exact execNoRouteExpiry_keeps _ _ (mask_noRouteExpiry _) h
  | .routeDrainEnd member => exact execRouteDrainEnd_keeps _ _ (mask_routeDrainEnd _) h
  | .checkerError chk railT railC => exact execCheckerError_keeps _ _ _ _ (mask_checkerError _ _ _) h
  | .ceStorm key => exact execCeStorm_keeps _ _ (mask_ceStorm _) h
  | .groomerRead tier granule finding passEnd => exact execGroomerRead_keeps _ _ _ _ _ (mask_groomerRead _ _ _ _) h
  | .errSitzUnfreeze src => exact execErrSitzUnfreeze_keeps _ _ (mask_errSitzUnfreeze _) h
  | .errSitzClear src => exact execErrSitzClear_keeps _ _ (mask_errSitzClear _) h
  | .errFirstClear src => exact execErrFirstClear_keeps _ _ (mask_errFirstClear _) h
  | .errUnitOnline src => exact execErrUnitOnline_keeps _ _ (mask_errUnitOnline _) h
  | .errInjFire src => exact execErrInjFire_keeps _ _ (mask_errInjFire _) h
  | .heartbeat port msg => exact execHeartbeat_keeps _ _ _ (mask_heartbeat _ _) h
  | .heartbeatSend => exact execHeartbeatSend_keeps _ (mask_heartbeatSend) h
  | .suspicionTimeout member => exact execSuspicionTimeout_keeps _ _ (mask_suspicionTimeout _) h
  | .propose port msg => exact execPropose_keeps _ _ _ (mask_propose _ _) h
  | .accept port msg => exact execAccept_keeps _ _ _ (mask_accept _ _) h
  | .commit port msg => exact execCommit_keeps _ _ _ (mask_commit _ _) h
  | .consFatal port msg => exact execConsFatal_keeps _ _ _ (mask_consFatal _ _) h
  | .consBrace port msg => exact execConsBrace_keeps _ _ _ (mask_consBrace _ _) h
  | .mapChangeApply => exact execMapChangeApply_keeps _ (mask_mapChangeApply) h
  | .coordinatorTakeover => exact execCoordinatorTakeover_keeps _ (mask_coordinatorTakeover) h
  | .quorumLoss => exact execQuorumLoss_keeps _ (mask_quorumLoss) h
  | .epochHoldExpiry origin id => exact execEpochHoldExpiry_keeps _ _ _ (mask_epochHoldExpiry _ _) h
  | .remirrorCopy slot page => exact execRemirrorCopy_keeps _ _ _ (mask_remirrorCopy _ _) h
  | .flashRebuild slab stripe slot => exact execFlashRebuild_keeps _ _ _ _ (mask_flashRebuild _ _ _) h
  | .mapFormTimeout entry => exact execMapFormTimeout_keeps _ _ (mask_mapFormTimeout _) h
  | .mapQuery entry => exact execMapQuery_keeps _ _ (mask_mapQuery _) h
  | .mapForm entry => exact execMapForm_keeps _ _ (mask_mapForm _) h
  | .mapAdmit entry => exact execMapAdmit_keeps _ _ (mask_mapAdmit _) h
  | .mapFence entry => exact execMapFence_keeps _ _ (mask_mapFence _) h
  | .mapAssign entry => exact execMapAssign_keeps _ _ (mask_mapAssign _) h
  | .cmpDefine entry => exact execCmpDefine_keeps _ _ (mask_cmpDefine _) h
  | .cmpDrop entry => exact execCmpDrop_keeps _ _ (mask_cmpDrop _) h
  | .cmpGrant entry => exact execCmpGrant_keeps _ _ (mask_cmpGrant _) h
  | .cmpWithdraw entry => exact execCmpWithdraw_keeps _ _ (mask_cmpWithdraw _) h
  | .cmpQuery entry => exact execCmpQuery_keeps _ _ (mask_cmpQuery _) h
  | .meterQuery entry => exact execMeterQuery_keeps _ _ (mask_meterQuery _) h
  | .meteringTick cycles => exact execMeteringTick_keeps _ _ (mask_meteringTick _) h
  | .mgtMeterSnap src => exact execMgtMeterSnap_keeps _ _ (mask_mgtMeterSnap _) h
  | .powerOnReset straps flash => exact execPowerOnReset_keeps _ _ _ (mask_powerOnReset _ _) h
  | .vstby5Lost => exact execVstby5Lost_keeps _ (mask_vstby5Lost) h
  | .startup flash pop badCheckers islandTemp us => exact execStartup_keeps _ _ _ _ _ _ (mask_startup _ _ _ _ _) h
  | .storeBringup deltaOk damage us => exact execStoreBringup_keeps _ _ _ _ (mask_storeBringup _ _ _) h
  | .refclkLoss => exact execRefclkLoss_keeps _ (mask_refclkLoss) h
  | .clkSscWrite src value => exact execClkSscWrite_keeps _ _ _ (mask_clkSscWrite _ _) h
  | .sysRstAssert => exact execSysRstAssert_keeps _ (mask_sysRstAssert) h
  | .sysRstDeassert => exact execSysRstDeassert_keeps _ (mask_sysRstDeassert) h
  | .perstAssert port => exact execPerstAssert_keeps _ _ (mask_perstAssert _) h
  | .perstDeassert port => exact execPerstDeassert_keeps _ _ (mask_perstDeassert _) h
  | .fenceReqAssert => exact execFenceReqAssert_keeps _ (mask_fenceReqAssert) h
  | .tapReset pin => exact execTapReset_keeps _ _ (mask_tapReset _) h
  | .jtagDebugAccess access => exact execJtagDebugAccess_keeps _ _ (mask_jtagDebugAccess _) h
  | .psuAcOkDeassert => exact execPsuAcOkDeassert_keeps _ (mask_psuAcOkDeassert) h
  | .psuAcOkAssert => exact execPsuAcOkAssert_keeps _ (mask_psuAcOkAssert) h
  | .vin12OvTrip => exact execVin12OvTrip_keeps _ (mask_vin12OvTrip) h
  | .vin12SurgeBrace long => exact execVin12SurgeBrace_keeps _ _ (mask_vin12SurgeBrace _) h
  | .vin12Surge => exact execVin12Surge_keeps _ (mask_vin12Surge) h
  | .vin12SagEnter => exact execVin12SagEnter_keeps _ (mask_vin12SagEnter) h
  | .vin12SagExit => exact execVin12SagExit_keeps _ (mask_vin12SagExit) h
  | .vin12DeepSag long => exact execVin12DeepSag_keeps _ _ (mask_vin12DeepSag _) h
  | .vin12UvTrip => exact execVin12UvTrip_keeps _ (mask_vin12UvTrip) h
  | .snowploughTick mv w w1ms w100ms => exact execSnowploughTick_keeps _ _ _ _ _ (mask_snowploughTick _ _ _ _) h
  | .braceFlushStart us => exact execBraceFlushStart_keeps _ _ (mask_braceFlushStart _) h
  | .braceCommitRecord us dieFailed lost => exact execBraceCommitRecord_keeps _ _ _ _ (mask_braceCommitRecord _ _ _) h
  | .restartQualified => exact execRestartQualified_keeps _ (mask_restartQualified) h
  | .thermalSample temp sensor selfFail => exact execThermalSample_keeps _ _ _ _ (mask_thermalSample _ _ _) h
  | .pwrClearMinmax src => exact execPwrClearMinmax_keeps _ _ (mask_pwrClearMinmax _) h
  | .pwrClearBrace src => exact execPwrClearBrace_keeps _ _ (mask_pwrClearBrace _) h
  | .pwrEnergyLoRead src addr len => exact execPwrEnergyLoRead_keeps _ _ _ _ (mask_pwrEnergyLoRead _ _ _) h
  | .rplBufHeadLoRead src addr len => exact execRplBufHeadLoRead_keeps _ _ _ _ (mask_rplBufHeadLoRead _ _ _) h
  | .secSvnCommit src => exact execSecSvnCommit_keeps _ _ (mask_secSvnCommit _) h
  | .secLcProvision src fuseOk => exact execSecLcProvision_keeps _ _ _ (mask_secLcProvision _ _) h
  | .secTokenSubmit src => exact execSecTokenSubmit_keeps _ _ (mask_secTokenSubmit _) h
  | .tokenVerifyComplete sigOk fuseOk => exact execTokenVerifyComplete_keeps _ _ _ (mask_tokenVerifyComplete _ _) h
  | .secNewNonce src => exact execSecNewNonce_keeps _ _ (mask_secNewNonce _) h
  | .secTokenLower src => exact execSecTokenLower_keeps _ _ (mask_secTokenLower _) h
  | .debugTimerExpiry => exact execDebugTimerExpiry_keeps _ (mask_debugTimerExpiry) h
  | .secPwrTargetRun src => exact execSecPwrTargetRun_keeps _ _ (mask_secPwrTargetRun _) h
  | .secPwrTargetRest src => exact execSecPwrTargetRest_keeps _ _ (mask_secPwrTargetRest _) h
  | .secPwrTargetStandby src => exact execSecPwrTargetStandby_keeps _ _ (mask_secPwrTargetStandby _) h
  | .getVersion ep => exact execGetVersion_keeps _ _ (mask_getVersion _) h
  | .getCapabilities ep => exact execGetCapabilities_keeps _ _ (mask_getCapabilities _) h
  | .negotiateAlgorithms ep offered => exact execNegotiateAlgorithms_keeps _ _ _ (mask_negotiateAlgorithms _ _) h
  | .getDigests ep => exact execGetDigests_keeps _ _ (mask_getDigests _) h
  | .getCertificate ep slot off len => exact execGetCertificate_keeps _ _ _ _ _ (mask_getCertificate _ _ _ _) h
  | .challenge ep slot => exact execChallenge_keeps _ _ _ (mask_challenge _ _) h
  | .getMeasurements ep index sign => exact execGetMeasurements_keeps _ _ _ _ (mask_getMeasurements _ _ _) h
  | .keyExchange ep auth => exact execKeyExchange_keeps _ _ _ (mask_keyExchange _ _) h
  | .finish ep session partner => exact execFinish_keeps _ _ _ _ (mask_finish _ _ _) h
  | .spdmHeartbeat ep session => exact execSpdmHeartbeat_keeps _ _ _ (mask_spdmHeartbeat _ _) h
  | .keyUpdate ep session => exact execKeyUpdate_keeps _ _ _ (mask_keyUpdate _ _) h
  | .endSession ep session => exact execEndSession_keeps _ _ _ (mask_endSession _ _) h
  | .getCsr ep => exact execGetCsr_keeps _ _ (mask_getCsr _) h
  | .setCertificate ep session slot chain => exact execSetCertificate_keeps _ _ _ _ _ (mask_setCertificate _ _ _ _) h
  | .entdaa addr => exact execEntdaa_keeps _ _ (mask_entdaa _) h
  | .setEndpointId ep eid => exact execSetEndpointId_keeps _ _ _ (mask_setEndpointId _ _) h
  | .getEndpointId ep => exact execGetEndpointId_keeps _ _ (mask_getEndpointId _) h
  | .getEndpointUuid ep => exact execGetEndpointUuid_keeps _ _ (mask_getEndpointUuid _) h
  | .getMctpVersionSupport ep => exact execGetMctpVersionSupport_keeps _ _ (mask_getMctpVersionSupport _) h
  | .getMessageTypeSupport ep => exact execGetMessageTypeSupport_keeps _ _ (mask_getMessageTypeSupport _) h
  | .getTid ep => exact execGetTid_keeps _ _ (mask_getTid _) h
  | .setTid ep tid => exact execSetTid_keeps _ _ _ (mask_setTid _ _) h
  | .getPldmVersion ep type => exact execGetPldmVersion_keeps _ _ _ (mask_getPldmVersion _ _) h
  | .getPldmTypes ep => exact execGetPldmTypes_keeps _ _ (mask_getPldmTypes _) h
  | .getPldmCommands ep type => exact execGetPldmCommands_keeps _ _ _ (mask_getPldmCommands _ _) h
  | .getPdrRepositoryInfo ep => exact execGetPdrRepositoryInfo_keeps _ _ (mask_getPdrRepositoryInfo _) h
  | .getPdr ep record => exact execGetPdr_keeps _ _ _ (mask_getPdr _ _) h
  | .getSensorReading ep sensor vstby => exact execGetSensorReading_keeps _ _ _ _ (mask_getSensorReading _ _ _) h
  | .getStateSensorReadings ep sensor => exact execGetStateSensorReadings_keeps _ _ _ (mask_getStateSensorReadings _ _) h
  | .setEventReceiver ep receiver => exact execSetEventReceiver_keeps _ _ _ (mask_setEventReceiver _ _) h
  | .pollForPlatformEventMessage ep => exact execPollForPlatformEventMessage_keeps _ _ (mask_pollForPlatformEventMessage _) h
  | .requestUpdate ep session maxTransfer => exact execRequestUpdate_keeps _ _ _ _ (mask_requestUpdate _ _ _) h
  | .firmwareDataChunk ep session len image => exact execFirmwareDataChunk_keeps _ _ _ _ _ (mask_firmwareDataChunk _ _ _ _) h
  | .activateFirmware ep session selfContained => exact execActivateFirmware_keeps _ _ _ _ (mask_activateFirmware _ _ _) h
  | .cancelUpdate ep session => exact execCancelUpdate_keeps _ _ _ (mask_cancelUpdate _ _) h
  | .readSitzmark ep entry => exact execReadSitzmark_keeps _ _ _ (mask_readSitzmark _ _) h
  | .readFirst ep => exact execReadFirst_keeps _ _ (mask_readFirst _) h
  | .readReturn ep off len => exact execReadReturn_keeps _ _ _ _ (mask_readReturn _ _ _) h
  | .readReg ep off => exact execReadReg_keeps _ _ _ (mask_readReg _ _) h
  | .pmcSnap src => exact execPmcSnap_keeps _ _ (mask_pmcSnap _) h
  | .pmcFreeze src => exact execPmcFreeze_keeps _ _ (mask_pmcFreeze _) h
  | .pmcUnfreeze src => exact execPmcUnfreeze_keeps _ _ (mask_pmcUnfreeze _) h
  | .pmcClearAll src => exact execPmcClearAll_keeps _ _ (mask_pmcClearAll _) h
  | .pmcOwnerWrite src value => exact execPmcOwnerWrite_keeps _ _ _ (mask_pmcOwnerWrite _ _) h
  | .pmcValueLoRead src off addr len => exact execPmcValueLoRead_keeps _ _ _ _ _ (mask_pmcValueLoRead _ _ _ _) h
  | .pmcOverflow counter value => exact execPmcOverflow_keeps _ _ _ (mask_pmcOverflow _ _) h
  | .pmcVSnap src => exact execPmcVSnap_keeps _ _ (mask_pmcVSnap _) h
  | .pmcVFreeze src => exact execPmcVFreeze_keeps _ _ (mask_pmcVFreeze _) h
  | .pmcVUnfreeze src => exact execPmcVUnfreeze_keeps _ _ (mask_pmcVUnfreeze _) h
  | .vstby5Restored => exact execVstby5Restored_keeps _ (mask_vstby5Restored) h
  | .refclkRestored => exact execRefclkRestored_keeps _ (mask_refclkRestored) h
  | .blockLockLost port => exact execBlockLockLost_keeps _ _ (mask_blockLockLost _) h
  | .pcieCompletionTimeout entry off => exact execPcieCompletionTimeout_keeps _ _ _ (mask_pcieCompletionTimeout _ _) h
  | .flashDieReady die op pass => exact execFlashDieReady_keeps _ _ _ _ (mask_flashDieReady _ _ _) h
  | .busParityError kind channel attempt retrainFailed => exact execBusParityError_keeps _ _ _ _ _ (mask_busParityError _ _ _ _) h
  | .hxlRouteWrite src value => exact execHxlRouteWrite_keeps _ _ _ (mask_hxlRouteWrite _ _) h
  | .queryDeviceIdentifiers ep session => exact execQueryDeviceIdentifiers_keeps _ _ _ (mask_queryDeviceIdentifiers _ _) h
  | .getFirmwareParameters ep session => exact execGetFirmwareParameters_keeps _ _ _ (mask_getFirmwareParameters _ _) h
  | .passComponentTable ep session firmware identifier => exact execPassComponentTable_keeps _ _ _ _ _ (mask_passComponentTable _ _ _ _) h
  | .updateComponent ep session version size => exact execUpdateComponent_keeps _ _ _ _ _ (mask_updateComponent _ _ _ _) h
  | .getStatus ep session => exact execGetStatus_keeps _ _ _ (mask_getStatus _ _) h
  | .cancelUpdateComponent ep session => exact execCancelUpdateComponent_keeps _ _ _ (mask_cancelUpdateComponent _ _) h

end Sys2Proof.Machine
end

