-- ==== Sys2Proof/Laws/Intake.lean ====
section
/-!
SUPPORT. What the shared operations of the intake do (spec/02_command_packets.md): one lemma for each.
-/
namespace Sys2Proof.Machine

open Sys2Proof

/-- What an event may touch: the registers, the MSI-X bits, the output. -/
theorem State.raise_only (s : State) (ev : Fld) : Frame [.regs, .msix, .out] s (s.raise ev) := by
  intro p hp
  refine (State.raise_keeps (m := partsMask [.regs, .msix, .out]) s ev (by decide) (Kept.refl _ _)).frame p ?_
  rw [testBit_partsMask]; simpa using hp
theorem State.setFld_only (s : State) (f : Fld) (v : Nat) : Frame [.regs] s (s.setFld f v) := by
  intro p hp; cases p <;> first | (exfalso; revert hp; decide) | rfl

/-- An update of one queue pair. -/
theorem onlyQp_setQp (a b : Nat) (x : QueuePair) (s : State) : OnlyQp a b s (s.setQp a b x) :=
  ⟨by intro p hp; cases p <;> first | (exfalso; revert hp; decide) | rfl, rfl, fun _ _ h => State.qp_setQp_other _ _ h⟩
theorem onlyEntry_setEntry (s : State) (i : Nat) (e : Entry) : OnlyEntry i s (s.setEntry i e) :=
  ⟨by intro p hp; cases p <;> first | (exfalso; revert hp; decide) | rfl, fun _ h => State.entry?_setEntry_other _ _ h⟩
theorem onlySource_setSource (s : State) (i : Nat) (e : Source) : OnlySource i s (s.setSource i e) :=
  ⟨by intro p hp; cases p <;> first | (exfalso; revert hp; decide) | rfl, rfl, fun _ h => State.source_setSource_other _ _ h⟩

theorem OnlyEntry.trans {i : Nat} {r s t : State} (a : OnlyEntry i r s) (b : OnlyEntry i s t) : OnlyEntry i r t :=
  ⟨a.1.trans b.1, fun j h => (b.2 j h).trans (a.2 j h)⟩

/-- The error of a queue pair (R49, R662): the first code stands, ENABLED becomes ERROR, the event is set. -/
theorem State.qp_qpError (s : State) (a b c : Nat) : (s.qpError a b c).qp a b = { s.qp a b with
    errCode := if (s.qp a b).errCode = 0 then c else (s.qp a b).errCode
    silent := (s.qp a b).silent || decide (c = 3) || decide (c = 4)
    state := if (s.qp a b).state = .enabled then .error else (s.qp a b).state } := by
  simp only [State.qpError, State.qp_fnRaise]
  repeat' split
  all_goals simp_all
theorem State.event_qpError (s : State) (a b c : Nat) : (s.qpError a b c).fldAt a F.FN_EVENT_QP_ERROR = 1 := by
  simp only [State.qpError]
  exact State.fldAt_fnRaise_same _ _ _ (by decide)

/-- A packet that comes in (R44, R61) holds an entry, or waits for one. -/
theorem State.entry?_enterPacket (s : State) (e : Entry) : (s.enterPacket e).entry? s.cmdq.nextId = some { e with
    order := s.cmdq.nextOrder
    phase := if (s.takeEntry e.src (pkClass e.packet)).isSome then Phase.fetched else Phase.held
    pool := (s.takeEntry e.src (pkClass e.packet)).getD .shared } := by
  simp only [State.enterPacket, State.entry?]
  split <;> simp
theorem State.nextId_enterPacket (s : State) (e : Entry) : (s.enterPacket e).cmdq.nextId = s.cmdq.nextId + 1 := by
  simp only [State.enterPacket]
  split <;> simp

/-- An item that no entry of the lift line waits for leaves the lift line as it is. -/
theorem State.sendItem_entries (s : State) (x : Away) (n : Nat) (h : x.owner = none) : (s.sendItem x n).cmdq.entries = s.cmdq.entries := by
  simp [State.sendItem, State.addItem, h, State.emit]

theorem foldl_entries {α : Type} {f : State → α → State} (h : ∀ s a, (f s a).cmdq.entries = s.cmdq.entries) (l : List α) (s : State) :
    (l.foldl f s).cmdq.entries = s.cmdq.entries := by
  induction l generalizing s with
  | nil => rfl
  | cons a l ih => rw [List.foldl_cons, ih, h]

theorem State.releaseClaim_entries (s : State) (id : Nat) (c : VecClaim) : (s.releaseClaim id c).cmdq.entries = s.cmdq.entries := by
  unfold State.releaseClaim
  split
  · rfl
  · split
    · rfl
    · exact State.sendItem_entries _ _ _ rfl

theorem State.endFlight_entries (s : State) (id : Nat) (j : RplJob) : (s.endFlight id j).cmdq.entries = s.cmdq.entries := by
  unfold State.endFlight
  split
  · exact State.sendItem_entries _ _ _ rfl
  · rfl

/-- The end of a MAP_ASSIGN's phase 1 leaves the lift line as it is. -/
theorem State.endAssign_entries (s : State) (m : Nat) : (s.endAssign m).cmdq.entries = s.cmdq.entries := by
  have hd : ∀ (t : State) (k : Nat), (t.dropCopy k).cmdq.entries = t.cmdq.entries := by
    intro t k
    unfold State.dropCopy
    split <;> rfl
  unfold State.endAssign
  split
  · rfl
  · dsimp only
    repeat' split
    all_goals simp only [State.sendItem_entries, hd]

/-- What a stopped command leaves in the blocks' own queues goes; its entry stands while no core works for it. -/
theorem State.withdraw_entries (s : State) {id : Nat} (h : s.NoCoreFor id) : (s.withdraw id).cmdq.entries = s.cmdq.entries := by
  have h1 : (s.cancelInvocations id).cmdq.entries = s.cmdq.entries := by
    have : s.core.cores.cells.filter (fun c => c.2.queue.any (fun i => decide (i.entry = id)) ||
        c.2.run.any fun r => decide (r.inv.entry = id)) = [] := by
      rw [List.filter_eq_nil_iff]
      intro c hc
      have := h c hc
      simp only [this.1, this.2, Bool.or_false, not_false_eq_true, Bool.false_eq_true]
    unfold State.cancelInvocations
    dsimp only
    rw [this]
    rfl
  have h2 : ∀ t : State, (t.dropWalks id).cmdq.entries = t.cmdq.entries := fun t =>
    foldl_entries (fun s c => State.releaseClaim_entries s id c) _ t
  have h3 : ∀ t : State, (t.dropReplay id).cmdq.entries = t.cmdq.entries := fun t =>
    foldl_entries (fun s c => State.endFlight_entries s id c) _ t
  have h4 : ∀ t : State, (t.unform id).cmdq.entries = t.cmdq.entries := by
    intro t
    unfold State.unform
    split
    · rfl
    · split <;> rfl
  unfold State.withdraw
  dsimp only
  split
  · rw [State.endAssign_entries, h4, h3, h2, h1]
  · rw [h4, h3, h2, h1]

theorem State.withdraw_entry? (s : State) {id : Nat} (h : s.NoCoreFor id) (i : Nat) : (s.withdraw id).entry? i = s.entry? i := by
  simp only [State.entry?, State.withdraw_entries s h]

/-- A stopped command ends once no other member serves an item of it (R80 to R84). -/
theorem State.entry?_stopEntry {s : State} {id : Nat} {e : Entry} (why : Stop) (h : s.entry? id = some e) (ha : e.accepted = true)
    (hs : e.stop = none) (hp : e.phase ≠ .ended) (hi : e.items = []) (hc : s.NoCoreFor id) :
    (s.stopEntry id why).entry? id = some (Entry.endStopped
      { e with stop := some why, moving := false, marked := false, holdDue := [], items := [] }) := by
  have hw : (s.withdraw id).entry? id = some e := by rw [State.withdraw_entry? _ hc, h]
  unfold State.stopEntry
  simp only [h, ha, hs, hp, hi, List.filter_nil, List.foldl_nil, hw, Option.map_some, Option.getD_some, List.map_nil, List.append_nil,
    List.isEmpty_nil, Bool.not_true, Option.isSome_none, Bool.or_false, if_true, if_false, Bool.false_eq_true]
  exact State.entry?_setEntry_same _ _ _

/-- The last answer to a running command's one item ends it, with the statuses merged (R73, R82). -/
theorem State.answerItem_last {s : State} {id : Nat} {e : Entry} {i : Item} (st sub : Nat) (b : Bool) (h : s.entry? id = some e)
    (hi : e.items = [i]) (hc : i.cancelled = false) (ho : i.other = none) (hf : i.failure = none) (ht : i.transfer = false)
    (hs : e.stop = none) (hr : e.started = true) (hm : e.moving = false) :
    s.answerItem id i.id st sub b = (s.setEntry id { e with
      items := []
      acked := if b && (st = St.done || st = St.donePartial) then e.acked + 1 else e.acked
      begun := if b then e.begun ||| i.classes else e.begun
      served := if (b || (st = St.done || st = St.donePartial)) && !e.served.contains i.home then e.served ++ [i.home] else e.served
      out := if (b || (st = St.done || st = St.donePartial)) && !e.served.contains i.home then
          { e.out.merge st sub with homes := (e.out.merge st sub).homes + 1 } else e.out.merge st sub
      phase := .ended }).dropAway i.id := by
  unfold State.answerItem
  simp only [h, hi, List.find?_cons, decide_true, ho, hc, hs, hr, hm, ht, Entry.answered, Entry.verdict, hf]
  by_cases hg : st = St.done ∨ st = St.donePartial <;> cases b <;> by_cases hk : i.home ∈ e.served <;> simp [hg, hk]

/-- The place of a new slot lies inside the area. -/
theorem Source.place_fits {x : Source} {n o : Nat} (h : x.place n = some o) : o + n ≤ x.areaUnits := by
  unfold Source.place at h
  dsimp only at h
  generalize hl : (0 :: x.slots.map fun t => t.offset + t.len).filter _ = l at h
  have hm : ∀ a ∈ l, a + n ≤ x.areaUnits := by
    intro a ha
    rw [← hl] at ha
    have := (List.mem_filter.mp ha).2
    simp at this
    exact this.1
  have key : ∀ (l : List Nat) (b : Option Nat), (∀ a ∈ l, a + n ≤ x.areaUnits) → (∀ a, b = some a → a + n ≤ x.areaUnits) →
      ∀ o, l.foldl (fun (b : Option Nat) o => some (min o (b.getD o))) b = some o → o + n ≤ x.areaUnits := by
    intro l
    induction l with
    | nil => intro b _ hb o ho; exact hb o ho
    | cons a l ih =>
      intro b hl hb o ho
      refine ih _ (fun c hc => hl c (by simp [hc])) ?_ o ho
      intro c hc
      cases hc
      have := hl a (by simp)
      omega
  exact key l none hm (by simp) o h

end Sys2Proof.Machine
end

