-- ==== Sys2Proof/Tests/Slice0.lean ====
section
/-!
SUPPORT. The model's own tests: an ill-formed command for each check of WellFormed, and for every statement about commands, clause
by clause, a state and operands that meet its hypotheses together, with what the spec's rule says comes of them there.
-/
set_option linter.all false

namespace Sys2Proof.Tests

set_option Elab.async false

open Sys2Proof Sys2Proof.Machine

/-- What a command answers satisfies a test. -/
def after (c : Instr) (s : State) (p : State → Bool) : Bool :=
  match exec c s with
  | .next t => p t
  | _ => false

/-- A packet from the little-endian values of its fields: the byte each begins at, and its value. -/
def pk (l : List (Nat × Nat)) : Packet := BitVec.ofNat 512 (l.map fun x => x.2 * 256 ^ x.1).sum

/-- A member of its own, up, running and aligned, its store up (R596). -/
def up : State :=
  let s : State := { State.reset with
    sys := { State.reset.sys with power := .run, starting := false } }
  ((s.setFld F.CLK_STARTUP_STAGE 12).setFld F.TIER_STATUS_STORE_UP 1).setFld F.PST_STATUS_ALIGN_STATE 2

/-- The same with an accepted command in entry 7. -/
def with7 (s : State) (e : Entry) : State := s.setEntry 7 { e with accepted := true, phase := .accepted }


/-! ### The queue -/

/-- StepRunsFront: a queue of two, of which a step takes the first. -/
theorem test_step_front : (match step { up with pending := [.frameBoundary, .cancelResend 7] } with
    | .next t => t.frame == 1 && t.pending == [.cancelResend 7]
    | _ => false) = true := by decide +kernel
theorem test_step_idle : step State.reset = .next State.reset := rfl
/-- StepKeepsCanonicalForms: the state after reset is in canonical form, and so is one that lists a byte. -/
theorem test_forms_reset : Memory.wf State.reset.store.mem = true ∧ cellsSorted State.reset.regs.cells = true := by
  decide +kernel
theorem test_forms_byte : Memory.wf (Memory.set (Memory.set [] 9 3) 4 1) = true ∧ Memory.set (Memory.set [] 9 3) 9 0 = [] := by
  decide +kernel

/-! ### Translation (04) -/

def adm4 : State := (up.setCtx 5 { valid := true, boundSrc := 3, comp := 9, segs := ⟨[(2, { state := .valid, base := 16, count := 1, permR := true, permW := true })]⟩ })
def sel4 : State := ((adm4.setFld F.XLT_CTX_SEL_CTX 5).setFld F.XLT_SEG_SEL_SEG 2).setFld F.XLT_CTX_CFG_BOUND_SRC 143

theorem test_ctx_sel : adm4.mayAdminister 0 = true ∧ after (.xltCtxSelWrite 0 4101) adm4 (fun t => t.fld F.XLT_CTX_SEL_CTX = 5 &&
    t.fld F.XLT_CTX_CFG_VALID = 1 && t.fld F.XLT_CTX_CFG_BOUND_SRC = 3 && t.fld F.XLT_CTX_CFG_COMPOSITION = 9) = true := by decide +kernel
theorem test_seg_sel : sel4.mayAdminister 64 = true ∧ after (.xltSegSelWrite 64 18) sel4 (fun t => t.fld F.XLT_SEG_SEL_SEG = 2 &&
    t.fld F.XLT_SEG_CTRL_STATE = 1 && t.fld F.XLT_SEG_BASE_SLAB = 16 && t.fld F.XLT_SEG_COUNT_COUNT = 1 && t.fld F.XLT_SEG_CTRL_PERM_A = 0) = true := by decide +kernel
theorem test_apply_ctx : sel4.mayAdminister 0 = true ∧ sel4.fld F.XLT_CTX_CFG_BOUND_SRC ≤ 143 ∧ sel4.inFlight 5 = [] ∧
    after (.xltApplyCtx 0 false) sel4 (fun t => t.fld F.XLT_APPLY_STATUS_ERR = 0 && (t.ctx 5).boundSrc = 143 && !(t.ctx 5).valid) = true := by decide +kernel
theorem test_apply_ctx_refused : (sel4.setFld F.XLT_CTX_CFG_BOUND_SRC 144).mayAdminister 0 = true ∧
    143 < (sel4.setFld F.XLT_CTX_CFG_BOUND_SRC 144).fld F.XLT_CTX_CFG_BOUND_SRC ∧
    after (.xltApplyCtx 0 false) (sel4.setFld F.XLT_CTX_CFG_BOUND_SRC 144) (fun t => t.fld F.XLT_APPLY_STATUS_ERR = 1 && t.ctx 5 = sel4.ctx 5) = true := by decide +kernel
def busy4 : State := with7 sel4 { src := 3, packet := pk [(4, 5)] }
theorem test_apply_ctx_in_flight : busy4.inFlight 5 ≠ [] ∧ (busy4.ctx 5).valid = true ∧ busy4.fld F.XLT_CTX_CFG_VALID = 0 ∧
    after (.xltApplyCtx 0 false) busy4 (fun t => t.fld F.XLT_APPLY_STATUS_ERR = 4 && t.fld F.XLT_EVENT_APPLY_DONE = 1) = true := by decide +kernel
theorem test_apply_seg : sel4.segErr = 0 ∧ after (.xltApplySeg 0 false) sel4 (fun t => (t.ctx 5).segGen = 1 && (t.seg 5 2).state = .invalid) = true := by decide +kernel
def revoking4 : State := sel4.setSeg 5 2 { revoking := true }
theorem test_apply_seg_revoking : revoking4.fld F.XLT_SEG_CTRL_STATE = 0 ∧ (revoking4.seg 5 2).revoking = true ∧
    after (.xltApplySeg 0 false) revoking4 (fun t => t.fld F.XLT_APPLY_STATUS_ERR = 5) = true := by decide +kernel
def atc4 : State := (up.setAtc 0 [{ func := 3, page := 16, pages := 4, write := true }, { func := 4, page := 16, pages := 4, write := false }])
theorem test_atc_flush : after (.xltAtcFlush 0 true false) (atc4.setAtc 1 [{ func := 70, page := 1, write := true }])
    (fun t => t.atc 0 = [] && (t.atc 1).length = 1) = true := by decide +kernel
theorem test_invalidation : after (.atsInvalidationRequest 0 3 1 19 1) atc4 (fun t => t.atc 0 = [{ func := 4, page := 16, pages := 4, write := false }] &&
    t.xlt.invals.length = 1) = true := by decide +kernel
def inv4 (l : List (Nat × Nat)) : State := { up with frame := 40, xlt := { up.xlt with invals := [{ port := 0, tag := 9, since := 0, draining := l }] } }
theorem test_invalidation_done : after (.atsInvalidationCompletion 0 9) (inv4 []) (fun t => t.xlt.invals = [] && t.out = [.invalCompletion 0 9] &&
    t.fld F.XLT_EVENT_INVAL_SLOW = 1) = true := by decide +kernel
theorem test_invalidation_drains : after (.atsInvalidationCompletion 0 9) (inv4 [(1, 0)]) (fun t => t = inv4 [(1, 0)]) = true := by decide +kernel
theorem test_translation : up.cmdq.entries.cells = [] ∧ 3 / 64 < up.xlt.atc.length ∧
    after (.translationCompletion 3 16 4 .ok true) up (fun t => t.atcHas 3 19 true && !t.atcHas 3 20 false) = true := by decide +kernel
/-- HOST_TO_STORE of 16 bytes from page 16 of function 3, waiting for its page. -/
def dma4 (m : List MissPage) (w : List Nat) : Entry :=
  { src := 3, packet := pk [(0, 1), (4, 5), (8, 65536), (16, 2 ^ 34), (24, 16), (28, 16)], accepted := true, phase := .accepted,
    started := true, dma := { good := 16, missing := m, want := w } }
def op4 : DmaOp := { host := 65536, rsa := 2 ^ 34, len := 16, toStore := true, tile := 16, atomic := false, noPri := false, mig := false, write := false }
def grp4 : PageGroup := { id := 2, entry := 7, func := 3, pages := [16] }
def ask4 : MissPage := { page := 16, successes := 0, asked := true }
def page4 : State := { (up.setEntry 7 (dma4 [ask4] [])).setSource 3 { atsEnabled := true } with xlt := { up.xlt with groups := [grp4] } }
theorem page4_waits : OnePage page4 7 (dma4 [ask4] []) op4 :=
  ⟨by decide +kernel, by decide +kernel, by decide +kernel, by decide +kernel, by decide +kernel, by decide +kernel, by decide +kernel,
   by decide +kernel, by decide +kernel, by decide +kernel⟩
theorem test_prg_invalid : page4.xlt.groups.find? (fun h => h.id = 2) = some grp4 ∧ after (.prgResponse 2 .invalidRequest) page4 (fun t =>
    (t.entry? 7).map (fun e => (e.phase, e.out)) = some (.ended, { status := 0x10, subcode := 0x49, absent := 0xFE, result0 := 65536 })) = true := by decide +kernel
theorem test_prg_failure : after (.prgResponse 2 .responseFailure) page4 (fun t => (t.entry? 7).map (·.out.subcode) = some 0x4A &&
    (t.source 3).priBlocked && t.fld F.XLT_EVENT_PRI_FAILURE = 1) = true := by decide +kernel
theorem test_prg_success : page4.atcHas 3 16 false = false ∧ page4.atsOut (3 / 64) < 256 ∧ grp4.func = (dma4 [ask4] []).src ∧ after (.prgResponse 2 .success) page4 (fun t =>
    t.out = [.translation 3 16 true] && (t.entry? 7).map (fun x => (x.phase, x.dma.want, x.dma.missing)) =
      some (.accepted, [16], [{ page := 16, successes := 1, asked := false, again := true }])) = true := by decide +kernel
theorem test_pri_timeout : after (.priTimeout 2) page4 (fun t => (t.entry? 7).map (fun x => (x.phase, x.out.status, x.out.subcode)) =
      some (.ended, 0x10, 0x4B) && t.fld F.XLT_EVENT_PRI_TIMEOUT = 1) = true := by decide +kernel
theorem test_pri_reenable : after (.priReenable 1) (up.setSource 70 { priBlocked := true }) (fun t => !(t.source 70).priBlocked) = true := by decide +kernel
def read4 : State := (up.setEntry 7 { dma4 [] [] with dma := { issued := 16, reads := [(0, 16)], good := 16 } }).setSource 3 { atsEnabled := true }
theorem test_dma_error : read4.dmaOp { dma4 [] [] with dma := { issued := 16, reads := [(0, 16)], good := 16 } } = some op4 ∧
    (read4.runningDma 3).contains 7 = true ∧ after (.hostDmaCompletion 7 0 .abort []) read4 (fun t =>
      (t.entry? 7).map (fun x => (x.phase, x.out.status, x.out.subcode, x.out.countDone)) = some (.ended, 0x10, 0x4D, 0)) = true := by decide +kernel
theorem test_dma_data : after (.hostDmaCompletion 7 0 .ok (List.replicate 16 0x5A)) read4 (fun t =>
    t.bytes (2 ^ 34) 16 = List.replicate 16 0x5A && (t.entry? 7).map (fun x => (x.phase, x.out.status, x.out.result0, x.out.countDone)) =
      some (.ended, 0, 65552, 16)) = true := by decide +kernel
theorem test_completion_timeout : after (.pcieCompletionTimeout 7 0) read4 (fun t => (t.entry? 7).map (·.dma.reads) = some []) = true := by decide +kernel

def cmd4 (op : Nat) (l : List (Nat × Nat)) : Entry := { src := 3, packet := pk ((0, op) :: l), accepted := true, phase := .accepted }
def run4 (e : Entry) : State := ((atc4.setEntry 7 e).setSource 3 { atsEnabled := true }).setCtx 5 { valid := true, boundSrc := 3, comp := 9, segs := ⟨[(2, { state := .valid, base := 16, count := 1, permR := true, permW := true }), (3, { state := .pending, base := 32, count := 1, permW := true })]⟩ }
theorem test_nop : (run4 (cmd4 0 [])).runnable 7 0 = some (cmd4 0 []) ∧ after (.nop 7) (run4 (cmd4 0 [])) (fun t => t.Ended 7 {}) = true := by decide +kernel
def h2s4 : Entry := { cmd4 1 [(4, 5), (8, 65536), (16, 2 ^ 34), (24, 16), (28, 16)] with dma := { good := 16 } }
theorem test_host_to_store : (run4 h2s4).resumable 7 1 = some h2s4 ∧ (run4 h2s4).dmaOp h2s4 = some op4 ∧ (run4 h2s4).atcHas 3 16 false = true ∧
    after (.hostToStore 7) (run4 h2s4) (fun t => t.out = [.hostRead 3 65536 16] && (t.entry? 7).map (·.dma) =
      some { good := 16, issued := 16, reads := [(0, 16)] }) = true := by decide +kernel
theorem test_ats_disabled : (((run4 h2s4).setSource 3 { atsEnabled := false }).source 3).atsEnabled = false ∧ ((run4 h2s4).setSource 3 { atsEnabled := false }).NoCoreFor 7 ∧
    after (.hostToStore 7) ((run4 h2s4).setSource 3 { atsEnabled := false }) (fun t => t.Ended 7 { status := 0x10, subcode := 0x4C, absent := 0xFE, result0 := 65536 }) = true := by decide +kernel
def s2h4 : Entry := { cmd4 2 [(4, 5), (8, 65536), (16, 2 ^ 34), (24, 16), (28, 16)] with dma := { good := 16 }, started := true }
def src4 (e : Entry) : State := (run4 e).pokeBytes (2 ^ 34) (List.replicate 16 0x77)
theorem test_store_to_host : (src4 s2h4).resumable 7 2 = some s2h4 ∧ (src4 s2h4).atcHas 3 16 true = true ∧
    (((src4 s2h4).atcTouch 3 16).prepare 7 (granulesOf (2 ^ 34) 16) []).2 = false ∧
    (let v := (((src4 s2h4).atcTouch 3 16).prepare 7 (granulesOf (2 ^ 34) 16) []).1.accessFor false (pagesOf (2 ^ 34) 16)
     ((v.dropFetched 7).checkReads (granulesOf (2 ^ 34) 16)).2 = none ∧ ((v.dropFetched 7).checkReads (granulesOf (2 ^ 34) 16)).1.entry? 7 = some s2h4) ∧
    after (.storeToHost 7) (src4 s2h4) (fun t => t.out.contains (.hostWrite 3 65536 (List.replicate 16 0x77) true) &&
      (t.entry? 7).map (fun x => (x.out.result0, x.out.countDone)) = some (65552, 16)) = true := by decide +kernel
def pre4 : Entry := cmd4 8 [(8, 65600), (24, 16)]
theorem test_prefetch : after (.prefetchHost 7) (run4 pre4) (fun t => t.out = [] && t.Ended 7 { result0 := 69632, countDone := 1 }) = true := by decide +kernel
theorem test_prefetch_asks : ((run4 pre4).setAtc 0 []).atcHas 3 16 false = false ∧ ((run4 pre4).setAtc 0 []).atsOut 0 < 256 ∧
    after (.prefetchHost 7) ((run4 pre4).setAtc 0 []) (fun t => t.out = [.translation 3 16 true]) = true := by decide +kernel
def copy4 : Entry := cmd4 3 [(4, 5), (8, 2 ^ 34), (16, 2 ^ 34 + 4096), (24, 16)]
theorem test_store_copy : (src4 copy4).runnableStore 7 3 = some copy4 ∧
    (let u := (src4 copy4).prepare 7 (granulesOf (2 ^ 34) 16) (granulesOf (2 ^ 34 + 4096) 16)
     let w := ((u.1.accessFor false (pagesOf (2 ^ 34) 16)).dropFetched 7).readStore (2 ^ 34) 16
     let y := (w.1.accessFor true (pagesOf (2 ^ 34 + 4096) 16)).writeStore (2 ^ 34 + 4096) (List.replicate 16 0x77)
     u.2 = false ∧ w.2.toOption = some (List.replicate 16 0x77) ∧ y.2 = none ∧ (y.1.entry? 7).map (·.items) = some []) ∧ after (.storeCopy 7) (src4 copy4) (fun t =>
    t.bytes (2 ^ 34 + 4096) 16 = List.replicate 16 0x77 && t.bytes (2 ^ 34 + 4112) 4 = [0, 0, 0, 0] &&
    (t.entry? 7).map (fun x => (x.phase, x.out.result0, x.out.countDone)) = some (.ended, 2 ^ 34 + 4112, 16)) = true := by decide +kernel
def adv4 : Entry := cmd4 9 [(4, 5), (16, 2 ^ 34 + 5000), (24, 2), (28, 4)]
theorem test_advise : (run4 adv4).runnableStore 7 9 = some adv4 ∧ after (.advise 7) (run4 adv4) (fun t => (t.page (2 ^ 22 + 1)).advice = 4 &&
    (t.page (2 ^ 22 + 2)).advice = 4 && (t.page (2 ^ 22 + 3)).advice = 0 && (t.entry? 7).map (·.out.countDone) = some 2) = true := by decide +kernel
def min4 : Entry := { cmd4 0x0C [(4, 5), (8, 2 ^ 20), (28, 16), (30, 3)] with dma := { good := 2 ^ 30 } }
theorem test_migrate_in : (run4 min4).resumable 7 0x0C = some min4 ∧ after (.migrateIn 7) (run4 min4) (fun t => t.out.contains (.translation 3 256 true) &&
    (t.entry? 7).map (·.started) = some true) = true := by decide +kernel
theorem test_migrate_in_valid : ((run4 min4).xltCompleted 7 { min4 with phase := .ended }).seg 5 3 = { state := .valid, base := 32, count := 1, permW := true } := by decide +kernel
def mout4 : Entry := { cmd4 0x0D [(4, 5), (8, 2 ^ 20), (28, 16), (30, 2)] with dma := { good := 2 ^ 30 } }
def out4 (l : List Nat) : State := { run4 mout4 with xlt := { (run4 mout4).xlt with revocations := [{ entry := 7, ctx := 5, seg := 2, sub := 0x41, undecided := l }] } }
theorem test_migrate_out_waits : (out4 [9]).drained { entry := 7, ctx := 5, seg := 2, sub := 0x41, undecided := [9] } = false ∧
    after (.migrateOut 7) (out4 [9]) (fun t => t = out4 [9]) = true := by decide +kernel
theorem test_migrate_out : (out4 []).drained { entry := 7, ctx := 5, seg := 2, sub := 0x41 } = true ∧
    after (.migrateOut 7) (out4 []) (fun t => t.out.contains (.translation 3 256 false)) = true := by decide +kernel
def invd4 : Entry := { cmd4 0x20 [(8, 5), (10, 4)] with targetGen := 1, waited := 1 }
theorem test_invalidate : (run4 invd4).runnable 7 0x20 = some invd4 ∧ (run4 invd4).oldCommands 5 4 1 = [] ∧ (run4 invd4).rawsOn 5 4 (some 1) = [] ∧
    after (.invalidate 7) (run4 invd4) (fun t => t.Ended 7 { countDone := 1 }) = true := by decide +kernel
def old4 : State := (run4 invd4).setEntry 8 { h2s4 with captures := [{ first := 2 ^ 34, len := 16, segs := 4, access := 1 }] }
theorem test_invalidate_waits : old4.oldCommands 5 4 1 = [8] ∧ after (.invalidate 7) old4 (fun t => t = old4) = true := by decide +kernel
def rev4 (i : Nat) : Entry := cmd4 0x21 [(8, 5), (10, i)]
theorem test_revoke : (run4 (rev4 2)).runnable 7 0x21 = some (rev4 2) ∧ (run4 (rev4 2)).boundEndpoint 5 = none ∧ (∀ x ∈ (run4 (rev4 2)).inFlight 5, x.1 = 7) ∧
    after (.revoke 7) (run4 (rev4 2)) (fun t => (t.seg 5 2).state = .invalid && (t.seg 5 2).revoking && (t.ctx 5).revEpoch = 1) = true := by decide +kernel
theorem test_revoke_nothing : ((run4 (rev4 4)).seg 5 4).state ≠ .valid ∧ after (.revoke 7) (run4 (rev4 4)) (fun t => t.Ended 7 {}) = true := by decide +kernel
def revd4 (l : List Nat) : State := { (run4 (rev4 2)).setSeg 5 2 { revoking := true } with xlt := { ((run4 (rev4 2)).setSeg 5 2 { revoking := true }).xlt with revocations := [{ entry := 7, ctx := 5, seg := 2, released := l, nReleased := 3, nRevoked := 1, backStarted := true }] } }
theorem test_revoke_complete : (revd4 []).drained { entry := 7, ctx := 5, seg := 2, nReleased := 3, nRevoked := 1, backStarted := true } = true ∧
    (revd4 []).backPending (revokeWaiter 7) = false ∧ (revd4 []).noneAway (revokeWaiter 7) = true ∧ (revd4 []).rawsOn 5 4 none = [] ∧
    after (.revokeComplete 5 2) (revd4 []) (fun t => !(t.seg 5 2).revoking && t.fld F.XLT_EVENT_REVOKE_DONE = 1 &&
      t.Ended 7 { countDone := 3, countAux := 1 }) = true := by decide +kernel
theorem test_revoke_complete_waits : (revd4 [7]).drained { entry := 7, ctx := 5, seg := 2, released := [7], nReleased := 3, nRevoked := 1, backStarted := true } = false ∧ after (.revokeComplete 5 2) (revd4 [7]) (fun t => t = revd4 [7]) = true := by decide +kernel
theorem test_work_hold : up.proxyOf 2 55 = none ∧ after (.workHold 2 55) up (fun t => t.rack.holds.contains (2, 55) && t.out = [.workAnswer 2 55 0x08 0 [0]]) = true := by decide +kernel


/-! ### Store tiers (05) -/

def ent5 (op : Nat) (l : List (Nat × Nat)) : Entry := { src := 3, packet := pk ((0, op) :: l), accepted := true, phase := .accepted }
/-- Slab 16 MOVE with home in DDR5, slab 17 COPY with home in flash; free frames in every tier. -/
def st5 : State := ((({ up with store := { up.store with free := [1280, 320, 64] } }).setSlab 16 { home := .ddr, comp := some 9 }).setSlab 17 { home := .flash, copyMode := true, comp := some 9 })
def run5 (e : Entry) : State := st5.setEntry 7 e

theorem test_tier_lock : st5.mayAdminister 0 = true ∧ after (.tierCtrlLock 0) st5 (fun t => t.fld F.TIER_STATUS_LOCKED = 1) = true := by decide +kernel
/-- PLACE of slab 16: home DDR5, MOVE, ceiling DDR5 as TIER code 1, PIN. -/
def place5 (home : Nat) : Entry := ent5 0x30 [(8, 16 * 2 ^ 30), (16, 1), (20, home + 32)]
theorem test_place : (place5 1).part = false ∧ (run5 (place5 1)).placeWaits 7 (place5 1) = false ∧ (run5 (place5 1)).slabsHeld (tpSlabs (place5 1).packet) = false ∧
    (run5 (place5 1)).everyMember.length ≤ 1 ∧ (run5 (place5 1)).runnableStore 7 0x30 = some (place5 1) ∧
    tpRecord (place5 1).packet = some { home := .ddr, ceiling := .hbm, pin := true } ∧
    (run5 (place5 1)).placeNeeds (place5 1).packet { home := .ddr, ceiling := .hbm, pin := true } ≤ (run5 (place5 1)).store.free.getD 1 0 ∧
    after (.place 7) (run5 (place5 1)) (fun t => t.store.slabs.getD 16 {} = { home := .ddr, ceiling := .hbm, pin := true, comp := some 9 } &&
      t.store.slabs.getD 17 {} = st5.store.slabs.getD 17 {} && (t.entry? 7).map (·.out.countDone) = some 1) = true := by decide +kernel
theorem needs_pos (s : State) (p : Packet) (x : Slab) (n : Nat) (hp : tpSlabs p = [n]) (hf : s.store.free.getD x.home.code 0 = 0)
    (hh : ((s.store.slabs.getD n {}).home == x.home) = false) (hm : s.isHome ((262144 * n + 0) * 4096) = true) :
    s.store.free.getD x.home.code 0 < s.placeNeeds p x := by
  have hg : 262144 * n + 0 ∈ s.homedPages n :=
    List.mem_filter.2 ⟨List.mem_map.2 ⟨0, List.mem_range.2 (by decide), rfl⟩, hm⟩
  have hl := List.length_pos_of_mem hg
  unfold State.placeNeeds
  have hne : ¬ (s.store.slabs.getD n {}).home = x.home := by simpa using hh
  rw [hp, hf]
  simp [hne, State.framesOf]
  omega

/-- With no HBM frame free, slab 16 cannot take its home there: page 2^22 alone needs one. -/
def full5 : State := { run5 (place5 0) with store := { (run5 (place5 0)).store with free := [0, 0, 0] } }
theorem test_place_no_space : full5.runnableStore 7 0x30 = some (place5 0) ∧ (place5 0).items = [] ∧ full5.placeWaits 7 (place5 0) = false ∧
    tpRecord (place5 0).packet = some { home := .hbm, ceiling := .hbm, pin := true } ∧
    full5.store.free.getD 0 0 < full5.placeNeeds (place5 0).packet { home := .hbm, ceiling := .hbm, pin := true } := by
  refine ⟨by decide +kernel, rfl, by decide +kernel, by decide +kernel, ?_⟩
  refine needs_pos full5 (place5 0).packet { home := .hbm, ceiling := .hbm, pin := true } 16 (by decide +kernel) (by decide +kernel) (by decide +kernel) (by decide +kernel)

def seal5 : Entry := ent5 0x31 [(8, 17 * 2 ^ 30), (16, 1)]
def buf5 (e : Entry) : State := (run5 e).setPage (17 * 262144 + 3) { buffered := true }
theorem test_seal : (buf5 seal5).runnableStore 7 0x31 = some seal5 ∧ after (.seal 7) (buf5 seal5) (fun t => (t.store.slabs.getD 17 {}).sealed) = true := by decide +kernel
def sealed5 (l : List Nat) : State := (buf5 { seal5 with waitsFor := l }).setSlab 17 { home := .flash, copyMode := true, sealed := true }
theorem test_seal_waits : (sealed5 [9]).setEntry 9 (ent5 0 []) = (sealed5 [9]).setEntry 9 (ent5 0 []) ∧
    after (.seal 7) ((sealed5 [9]).setEntry 9 (ent5 0 [])) (fun t => t = (sealed5 [9]).setEntry 9 (ent5 0 [])) = true := by decide +kernel
theorem test_seal_done : (sealed5 [9]).entry? 9 = none ∧ (sealed5 [9]).sealRaws [17] = false ∧ (sealed5 [9]).placeWaits 7 { seal5 with waitsFor := [9] } = false ∧ (∀ m ∈ (sealed5 [9]).everyMember, m = (sealed5 [9]).sys.member) ∧
    after (.seal 7) (sealed5 [9]) (fun t => (t.entry? 7).map (fun x => (x.phase, x.out.result0, x.out.countDone)) = some (.ended, 1, 1) &&
      !(t.page (17 * 262144 + 3)).buffered) = true := by decide +kernel
def raise5 (pin : Nat) : Entry := ent5 0x32 [(8, 16 * 2 ^ 30 + 4096), (16, 1), (20, 0), (21, pin)]
theorem test_raise : (run5 (raise5 0)).pageHeld 4194305 = false ∧ tpPages (raise5 0).packet = [4194305] ∧ ((run5 (raise5 0)).raisePage 4194305 .hbm).2 = true ∧
    (run5 (raise5 0)).homesOf [4194305 * 4096] = [(run5 (raise5 0)).sys.member] ∧ ((run5 (raise5 0)).standsIn 4194305).atLeast .hbm = false ∧
    after (.raise 7) (run5 (raise5 0)) (fun t => t.standsIn 4194305 = .hbm &&
      (t.entry? 7).map (fun x => (x.phase, x.out.status, x.out.result0, x.out.countDone)) = some (.ended, 0, 0, 1)) = true := by decide +kernel
theorem test_raise_pins : after (.raise 7) (run5 (raise5 1)) (fun t => (t.page 4194305).hbm.any (·.pin) &&
      (t.entry? 7).map (·.out.result1) = some 1) = true := by decide +kernel
def short5 : State := { run5 (raise5 0) with store := { (run5 (raise5 0)).store with free := [0, 320, 64] } }
theorem test_raise_short : (short5.raisePage 4194305 .hbm) = (short5, false) ∧ after (.raise 7) short5 (fun t => t.store = short5.store &&
      t.fld F.TIER_EVENT_CHAIR_DROP = 1 && (t.entry? 7).map (fun x => (x.phase, x.out.status, x.out.result0)) = some (.ended, 1, 1)) = true := by decide +kernel
def lower5 (unpin : Nat) : Entry := ent5 0x33 [(8, 16 * 2 ^ 30 + 4096), (16, 2), (21, 2 * unpin)]
def raised5 (pin : Bool) (unpin : Nat) : State := (run5 (lower5 unpin)).setPage 4194305 { hbm := some { pin := pin } }
theorem test_lower : (raised5 true 1).runnableStore 7 0x33 = some (lower5 1) ∧ after (.lower 7) (raised5 true 1) (fun t =>
      (t.page 4194305).hbm = none && (t.entry? 7).map (fun x => (x.out.countDone, x.out.countAux)) = some (1, 0)) = true := by decide +kernel
theorem test_lower_pinned : ((raised5 true 0).page 4194305).hbm.any (·.pin) = true ∧ after (.lower 7) (raised5 true 0) (fun t =>
      t.page 4194305 = { hbm := some { pin := true } } && (t.entry? 7).map (fun x => (x.out.countDone, x.out.countAux)) = some (0, 1)) = true := by decide +kernel
def res5 : Entry := ent5 0x34 [(8, 16 * 2 ^ 30 + 4096), (16, 2)]
theorem test_residency : (∀ pg ∈ tpPages res5.packet, ((run5 res5).setPage 4194305 { hbm := some {} }).isHome (pg * 4096) = true) ∧
    after (.residency 7) ((run5 res5).setPage 4194305 { hbm := some {} }) (fun t =>
      (t.entry? 7).map (fun x => (x.out.result0, x.out.result1, x.out.countDone, x.out.countAux)) = some (1 + 2 ^ 32, 0, 2, 0)) = true := by decide +kernel

def lift5 (l : List (Nat × Tier)) : State := { st5 with store := { st5.store with raises := l } }
theorem test_move_start : (lift5 [(4194305, .hbm)]).sys.bracing = false ∧ (lift5 [(4194305, .hbm)]).store.movesStarted < (lift5 [(4194305, .hbm)]).chairRate ∧
    after (.chairliftMoveStart false 0) (lift5 [(4194305, .hbm)]) (fun t => t.store.raises = [] &&
      t.store.moves = [{ page := 4194305, target := .hbm, home := false }] && t.store.movesStarted = 1) = true := by decide +kernel
theorem test_move_start_home : (st5.setPage 9 { buffered := true }).stripeComplete 9 = true ∧ after (.chairliftMoveStart true 9) (st5.setPage 9 { buffered := true }) (fun t =>
      t.store.moves = [{ page := 9, target := .flash, home := true }]) = true := by decide +kernel
theorem test_move_rate : st5.chairRate ≤ (({ st5 with store := { st5.store with movesStarted := 70000 } } : State)).store.movesStarted := by decide +kernel
def mv5 (x : Move) (p : PageRec) : State := { st5 with store := { (st5.setPage x.page p).store with moves := [x] } }
theorem test_switch_home : (mv5 { page := 17 * 262144, target := .flash, home := true } { buffered := true }).pageHeld (17 * 262144) = false ∧ st5.coh.txns = [] ∧ st5.rack.held = [] ∧
    after (.moveDirectorySwitch (17 * 262144)) (mv5 { page := 17 * 262144, target := .flash, home := true } { buffered := true }) (fun t =>
      t.store.moves = [] && (t.page (17 * 262144)).programmed && !(t.page (17 * 262144)).buffered) = true := by decide +kernel
theorem test_switch_raise : after (.moveDirectorySwitch 4194305) (mv5 { page := 4194305, target := .hbm, home := false } {}) (fun t =>
      t.store.moves = [] && t.standsIn 4194305 = .hbm) = true := by decide +kernel
def inv5 : Invocation := { slot := 0, ports := [], scalars := [], seed := 0, comp := 0, epoch := 0, entry := 1, item := 0 }
def held5 : State := { mv5 { page := 4194305, target := .hbm, home := false } {} with core := { st5.core with cores := ⟨[(0, { run := some { inv := inv5, recipe := [], hold := some { want := [], got := [4194305 * 32 + 1] } } })]⟩ } }
theorem test_switch_held : held5.pageHeld 4194305 = true ∧ after (.moveDirectorySwitch 4194305) held5 (fun t => t = held5) = true := by decide +kernel
def wait5 : State := let s := run4 copy4; { s with store := { s.store with journalWaits := [{ entry := some 7, granule := 2 ^ 27 }] } }
theorem test_journal_resume : { entry := some 7, granule := 2 ^ 27 } ∈ wait5.store.journalWaits ∧ wait5.journalRoom [2 ^ 27] = true ∧
    after (.journalWaitResume (some 7) (2 ^ 27)) wait5 (fun t => t.store.journalWaits = [] && (t.entry? 7).map (·.phase) = some .ended) = true := by decide +kernel
def noroom5 : State := { st5.setSlab 16 { durable := true } with store := { (st5.setSlab 16 { durable := true }).store with journalMib := 0 } }
theorem test_journal_full : noroom5.journalRoom [2 ^ 27] = false := by decide +kernel
theorem test_heat_epoch_runs : after .heatEpochEnd (st5.setFld F.TIER_HEAT_CFG_EPOCH_FRAMES 1000) (fun t => t = st5.setFld F.TIER_HEAT_CFG_EPOCH_FRAMES 1000) = true := by decide +kernel
def heat5 : State := { st5.setPage 9 { hbm := some { age := 30 }, homeAge := 31 } with frame := 1000000 }
theorem test_heat_epoch : (heat5.store.pages.find? 9).isSome = true ∧ heat5.store.epochStart + heat5.fld F.TIER_HEAT_CFG_EPOCH_FRAMES ≤ heat5.frame ∧
    after .heatEpochEnd heat5 (fun t => t.page 9 = { hbm := some { age := 31 }, homeAge := 31 }) = true := by decide +kernel
/-- DRIFT_T 20 is 10 °C and DRIFT_MV 20: 5 °C and 10 mV together reach the bound, one unit of 0.125 °C less does not (R207). -/
def drift5 : State := ((st5.setFld F.TIER_DRIFT_CFG_DRIFT_T 20).setFld F.TIER_DRIFT_CFG_DRIFT_MV 20).setFld F.TIER_DRIFT_CFG_MAX_UNITS 1
theorem test_drift : after (.driftSample 1 3 40 10 false) drift5 (fun t => t.training 1 3 = { tNow := 40, vNow := 10, pending := true, stepsLeft := 12 }) = true := by decide +kernel
theorem test_drift_below : after (.driftSample 1 3 39 10 false) drift5 (fun t => t.training 1 3 = { tNow := 39, vNow := 10 }) = true := by decide +kernel
theorem test_hot_stack : after (.deviceTempRead 0 3 95 false) st5 (fun t => t.regAt 0 F.TIER_REFRESH_2X_HBM.off = 8 && t.fld F.TIER_EVENT_DEV_HOT = 1) = true := by decide +kernel
def cool5 (f : Nat) : State := { st5.setRegAt 0 F.TIER_REFRESH_2X_HBM.off 8 with frame := f, store := { st5.store with coolSince := ⟨[(3, 0)]⟩ } }
theorem test_cool_stack : (cool5 1000).store.coolSince.find? 3 = some 0 ∧ after (.deviceTempRead 0 3 80 false) (cool5 1000) (fun t => t.regAt 0 F.TIER_REFRESH_2X_HBM.off = 0) = true := by decide +kernel
theorem test_cooling_stack : after (.deviceTempRead 0 3 80 false) (cool5 999) (fun t => t.regAt 0 F.TIER_REFRESH_2X_HBM.off = 8) = true := by decide +kernel
theorem test_ddr_temp : after (.deviceTempRead 1 15 40 true) st5 (fun t => t.regAt 0 F.TIER_REFRESH_2X_HBM.off = 2 ^ 19) = true := by decide +kernel
theorem test_brace_area : after (.braceAreaErased 1) st5 (fun t => t.fld F.TIER_STATUS_BRACE_READY = 1 && t.store.braceHalves = [{}, { erased := true }]) = true := by decide +kernel
theorem test_checkpoint : st5.storeUp = true ∧ after .metadataCheckpoint { st5 with frame := 2 ^ 20, store := { st5.store with deltaBytes := 8 } } (fun t =>
    t.store.checkpointFrame = 2 ^ 20 && t.store.deltaBytes = 0) = true := by decide +kernel
theorem test_no_checkpoint : st5.frame < st5.store.checkpointFrame + 2 ^ 20 ∧ st5.delta < 2 ^ 24 := by decide +kernel
theorem test_store_write : (up.writeStore 120 (List.replicate 16 7)).2 = none ∧ (up.gran 0).damaged = false ∧ (up.gran 1).damaged = false ∧ up.decrypt 0 = up ∧ up.decrypt 1 = up ∧
    (up.writeStore 120 (List.replicate 16 7)).1.bytes 119 18 = [0] ++ List.replicate 16 7 ++ [0] := by decide +kernel
theorem test_poisoned_write : up.isHome 128 = true ∧ (up.setGran 1 { poison := some .reclaim }).decrypt 1 = up.setGran 1 { poison := some .reclaim } ∧ ((up.setGran 1 { poison := some .reclaim }).writeStore 130 [1]).2 = some (0x18, 0xCA) := by decide +kernel


/-! ### Edge cores (06) -/

/-- A step from the values of its fields: the bit each begins at, and its value (R245). -/
def stp (l : List (Nat × Nat)) : List Byte := toLe 32 (l.map fun x => x.2 * 2 ^ x.1).sum
def inv6 : Invocation := { slot := 300, ports := [{ num := 1, base := 2 ^ 34, len := 4096, write := true, atomic := true }], scalars := [7, 9, 0, 0, 0, 0, 0, 0, 0, 0, 0, 0, 0, 0, 0, 0], seed := 0, comp := 9, epoch := 0, entry := 7, item := 4 }
def item6 : Item := { home := 0, id := 4, classes := 1 }
def ent6 : Entry := { src := 3, packet := pk [(0, 0x40)], accepted := true, phase := .accepted, started := true, items := [item6] }
/-- Core 5 runs one step, then END, for the command of entry 7; its Pocket holds the bytes given. -/
def rcp6 (x : List (Nat × Nat)) : List Byte := List.replicate 64 0 ++ stp x ++ stp [(0, 0x0F)]
def run6 (x : List (Nat × Nat)) : Running := { inv := inv6, recipe := rcp6 x, scalars := inv6.scalars }
def core6 (r : Running) (pocket : List (Nat × List Byte)) : State := ((st5.setEntry 7 ent6).setEdge 5 { run := some r, pocket := pocket.foldl (fun m b => Memory.setBytes m b.1 b.2) [] })
def on6 (x : List (Nat × Nat)) (pocket : List (Nat × List Byte)) : State := core6 (run6 x) pocket
def xs6 (x : List (Nat × Nat)) : RStep := rcpStep (rcp6 x) 0
theorem ready6 (x : List (Nat × Nat)) (pocket : List (Nat × List Byte)) (op : Nat) (h : ((on6 x pocket).ready 5 op).isSome = true) :
    (on6 x pocket).ready 5 op = some (run6 x, xs6 x) := by
  unfold State.ready at h ⊢
  have hr : ((on6 x pocket).edge 5).run = some (run6 x) := by
    unfold on6 core6 State.setEdge State.edge
    simp [Tab.getD, Tab.set, Tab.find?, State.setEntry, cellsFind, show st5.core.cores.cells = [] from by decide +kernel, cellsSet]
  rw [hr] at h ⊢
  dsimp only at h ⊢
  split at h
  · cases h
  · rename_i h1; rw [if_neg h1]
    split at h
    · rename_i h2; rw [if_pos h2]
      split at h
      · rename_i h3; rw [if_pos h3]; rfl
      · cases h
    · rename_i h2; rw [if_neg h2]
      split at h
      · rename_i h3; rw [if_pos h3]
        split at h
        · rename_i h4; rw [if_pos h4]; rfl
        · cases h
      · rename_i h3; rw [if_neg h3]
        split at h
        · rename_i h4; rw [if_pos h4]; rfl
        · cases h

def queue6 (slots : List (Nat × RecipeSlot)) : State := { (st5.setFld F.PWR_THROTTLE_CORE_LIMIT 1200).setEdge 5 { queue := [inv6], pocket := [(3, 9), (200, 8)] } with core := { ((st5.setEdge 5 { queue := [inv6], pocket := [(3, 9), (200, 8)] }).core) with slots := ⟨slots⟩ } }
def hdr6 : List Byte := toLe 64 (64 * 2 ^ 96 + 2 * 2 ^ 144)
theorem test_invocation_start : (queue6 [(300, { recipe := hdr6 })]).coreAway 5 = [] ∧ (queue6 [(300, { recipe := hdr6 })]).running = true ∧ rcpPorts hdr6 = 2 ∧ rcpPocketLen hdr6 = 64 ∧
    (queue6 [(300, { recipe := hdr6 })]).coreOnline 5 = true ∧ (queue6 [(300, { recipe := hdr6 })]).runningCores < 1200 ∧
    after (.invocationStart 5) (queue6 [(300, { recipe := hdr6 })]) (fun t => (t.edge 5).run = some { inv := inv6, recipe := hdr6, scalars := inv6.scalars } &&
      (t.edge 5).queue = [] && (t.edge 5).pocket = [(200, 8)]) = true := by decide +kernel
theorem test_invocation_empty_slot : after (.invocationStart 5) (queue6 []) (fun t => (t.edge 5).run = none && t.fld F.CORE_FAULT_INFO_CODE = 9 &&
    t.fld F.CORE_EVENT_FAULT = 1) = true := by decide +kernel
theorem test_recipe_nop : ((on6 [] []).ready 5 0).isSome = true ∧ after (.recipeNop 5) (on6 [] []) (fun t => (t.edge 5).run.map (·.step) = some 1) = true := by decide +kernel
theorem test_loop : ((on6 [(0, 8), (32, 3)] []).ready 5 8).isSome = true ∧ after (.loop 5) (on6 [(0, 8), (32, 3)] []) (fun t =>
    (t.edge 5).run.map (·.loops) = some [(0, 3)]) = true := by decide +kernel
/-- A LOOP counted by S3, which is 0, skips its body. -/
theorem test_loop_skips : ((on6 [(0, 8), (112, 3), (159, 1)] []).ready 5 8).isSome = true ∧ refScalar (xs6 [(0, 8), (112, 3), (159, 1)]).a = true ∧
    inv6.scalars.getD (refReg (xs6 [(0, 8), (112, 3), (159, 1)]).a) 0 = 0 := by decide +kernel
def loop6 (n : Nat) : State := core6 { run6 [] with recipe := List.replicate 64 0 ++ stp [(0, 8), (32, 2)] ++ stp [(0, 0x10), (95, 4)] ++ stp [(0, 9)], step := 2, loops := [(0, n)] } []
theorem test_endloop_back : ((loop6 2).ready 5 9).isSome = true ∧ after (.endloop 5) (loop6 2) (fun t => (t.edge 5).run.map (fun q => (q.step, q.loops)) = some (1, [(0, 1)])) = true := by decide +kernel
theorem test_endloop_out : ((loop6 1).ready 5 9).isSome = true ∧ after (.endloop 5) (loop6 1) (fun t => (t.edge 5).run.map (fun q => (q.step, q.loops)) = some (3, [])) = true := by decide +kernel
theorem test_flags : ((on6 [(0, 0x0B), (64, 2)] [(40, [1, 2])]).ready 5 0x0B).isSome = true ∧
    after (.flags 5) (core6 { run6 [(0, 0x0B), (64, 2)] with flags := { nanIn := 1, indexMiss := 5 } } [(40, [1, 2])]) (fun t =>
      (t.edge 5).bytes 16 32 = toLe 4 9 ++ toLe 12 (5 * 2 ^ 64) ++ toLe 16 0 ++ [] || (t.edge 5).bytes 16 32 = toLe 32 (9 + 5 * 2 ^ 96)) = true := by decide +kernel
theorem test_end : ((core6 { run6 [] with step := 1 } []).ready 5 0x0F).isSome = true ∧ after (.recipeEnd 5) (core6 { run6 [] with step := 1 } []) (fun t =>
    (t.edge 5).run = none && (t.edge 5).done = 1 && (t.edge 5).last = some (300, 9) && (t.entry? 7).map (fun e => (e.phase, e.out.status)) = some (.ended, 0)) = true := by decide +kernel
theorem test_hold_timeout : after (.holdTimeout 5) (core6 { run6 [] with hold := some { got := [3], want := [] } } []) (fun t => (t.edge 5).run = none &&
    t.fld F.CORE_FAULT_INFO_CODE = 4 && (t.entry? 7).map (fun e => (e.phase, e.out.status, e.out.subcode)) = some (.ended, 0x38, 0xE4)) = true := by decide +kernel
theorem test_cycle_limit : after (.cycleLimitExpiry 5) (on6 [] []) (fun t => (t.edge 5).run = none &&
    t.fld F.CORE_FAULT_INFO_CODE = 5 && (t.entry? 7).map (fun e => (e.phase, e.out.status, e.out.subcode)) = some (.ended, 0x38, 0xE5)) = true := by decide +kernel

/-- A stream step of one row of four FP32 elements: Pocket address 64, port 1, offset 16, index list at 0. -/
def str6 (op : Nat) : List (Nat × Nat) := [(0, op), (32, 3), (56, 2), (64, 8), (112, 1), (116, 2)]
def sstr6 (op : Nat) : List (Nat × Nat) := str6 op ++ [(160, 2)]
theorem test_load_issues : ((on6 (str6 1) []).ready 5 1).isSome = true ∧ after (.recipeLoad 5) (on6 (str6 1) []) (fun t => (t.edge 5).run.map (·.stream) =
    some [{ step := 0, op := 1, token := 2, rowLen := 16, rows := [(some (2 ^ 34 + 16), 64)], float := true }]) = true := by decide +kernel
theorem test_store_issues : ((on6 (str6 2) [(64, [9])]).ready 5 2).isSome = true ∧ after (.recipeStore 5) (on6 (str6 2) [(64, [9])]) (fun t => (t.edge 5).run.map (·.stream) =
    some [{ step := 0, op := 2, token := 2, rowLen := 16, rows := [(some (2 ^ 34 + 16), 64)], float := true, data := [9 :: List.replicate 15 0] }]) = true := by decide +kernel
theorem test_atomic_issues : ((on6 (str6 5) []).ready 5 5).isSome = true ∧ after (.atomicAdd 5) (on6 (str6 5) []) (fun t => (t.edge 5).run.map (·.step) = some 1) = true := by decide +kernel
theorem test_gather_issues : ((on6 (sstr6 3) [(0, [3])]).ready 5 3).isSome = true ∧ after (.recipeGather 5) (on6 (sstr6 3) [(0, [3])]) (fun t => (t.edge 5).run.map (·.stream.map (·.rows)) =
    some [[(some (2 ^ 34 + 64), 64)]]) = true := by decide +kernel
theorem test_scatter_issues : ((on6 (sstr6 4) [(0, [3])]).ready 5 4).isSome = true ∧ after (.recipeScatter 5) (on6 (sstr6 4) [(0, [3])]) (fun t => (t.edge 5).run.map (·.stream.map (·.rows)) =
    some [[(some (2 ^ 34 + 64), 64)]]) = true := by decide +kernel
theorem test_gather_miss : after (.recipeGather 5) (on6 (sstr6 3) [(0, [255, 255, 255, 255])]) (fun t =>
    (t.edge 5).run.map (fun q => (q.flags.indexMiss, q.step)) = some (1, 1) && t.fld F.CORE_FLAGS_INDEX_MISS = 1) = true := by decide +kernel
theorem test_load_outside : after (.recipeLoad 5) (on6 [(0, 1), (32, 3), (112, 1), (116, 511)] []) (fun t => (t.edge 5).run = none && t.fld F.CORE_FAULT_INFO_CODE = 1) = true := by decide +kernel
theorem test_load_denied : after (.recipeLoad 5) (core6 { run6 (str6 1) with inv := { inv6 with ports := [{ num := 1, base := 2 ^ 34, len := 4096, read := false, write := true }] } } []) (fun t =>
    (t.edge 5).run = none && t.fld F.CORE_FAULT_INFO_CODE = 2) = true := by decide +kernel
def ld6 : StreamStep := { step := 0, op := 1, token := 2, rowLen := 16, rows := [(some (2 ^ 34 + 16), 64)] }
def st6 : StreamStep := { step := 0, op := 2, token := 2, rowLen := 16, rows := [(some (2 ^ 34 + 16), 64)], data := [List.replicate 16 5] }
def settle6 (x : StreamStep) (p : List Byte) : State := (core6 { run6 [] with stream := [x] } [(64, p)]).pokeBytes (2 ^ 34) (List.replicate 32 0x66)
theorem test_load_settles : (let v := (settle6 ld6 []).prepare (coreWaiter 5 0) ld6.granules []
     v.2 = false ∧ (v.1.edge 5).run = ((settle6 ld6 []).edge 5).run ∧ (v.1.performStream 5 ld6).2 = none ∧
      (v.1.performStream 5 ld6).1.noneAway (coreWaiter 5 0) = true) ∧
    after (.streamSettle 5 2) (settle6 ld6 []) (fun t => (t.edge 5).bytes 64 16 = List.replicate 16 0x66 && (t.edge 5).run.map (·.stream) = some []) = true := by decide +kernel
theorem test_store_settles : (let v := (settle6 st6 (List.replicate 16 5)).prepare (coreWaiter 5 0) [] st6.granules
     v.2 = false ∧ (v.1.edge 5).run = ((settle6 st6 (List.replicate 16 5)).edge 5).run ∧ (v.1.edge 5).bytes 64 16 = List.replicate 16 5) ∧
    (let v := (settle6 st6 (List.replicate 16 5)).prepare (coreWaiter 5 0) [] st6.granules
     ((v.1.tickFresh).writePieces st6 (st6.pieces [List.replicate 16 5])).2 = none) := by decide +kernel
def wait6 : State := { core6 { run6 [] with hold := some { got := [1], want := [3] } } [] with core := { (core6 { run6 [] with hold := some { got := [1], want := [3] } } []).core with waiters := [(5, 3), (6, 3)] } }
theorem test_hold_acquired : wait6.coreHolds none 3 = false ∧ after (.holdGranuleAcquired 3) wait6 (fun t => t.core.waiters = [(6, 3)] &&
    (t.edge 5).run.map (·.hold) = some (some { got := [1, 3], want := [] })) = true := by decide +kernel
theorem test_hold_held : wait6.coreHolds none 1 = true ∧ after (.holdGranuleAcquired 1) wait6 (fun t => t = wait6) = true := by decide +kernel

/-- One element: D at 0, A at 8, B at 16, C at 24. -/
def el6 (op : Nat) : List (Nat × Nat) := [(0, op), (112, 1), (160, 2), (208, 3)]
def mem6 (a b c : Nat) : List (Nat × List Byte) := [(8, toLe 4 a), (16, toLe 4 b), (24, toLe 4 c)]
theorem one6 (op a b c : Nat) (h : ((on6 (el6 op) (mem6 a b c)).ready 5 (xs6 (el6 op)).op).isSome = true)
    (hf : ((on6 (el6 op) (mem6 a b c)).edge 5).flips = [])
    (hx : (xs6 (el6 op)).count = 1 ∧ (xs6 (el6 op)).rows = 1 ∧ (xs6 (el6 op)).fmtD = 0 ∧ (xs6 (el6 op)).fmtA = 0 ∧ (xs6 (el6 op)).fmtB = 0 ∧
      (xs6 (el6 op)).fmtC = 0 ∧ (xs6 (el6 op)).rnd = 0 ∧ (xs6 (el6 op)).sat = false ∧ refScalar (xs6 (el6 op)).d = false ∧
      refScalar (xs6 (el6 op)).a = false ∧ refScalar (xs6 (el6 op)).b = false ∧ refScalar (xs6 (el6 op)).c = false) :
    OneElement (on6 (el6 op) (mem6 a b c)) 5 (run6 (el6 op)) (xs6 (el6 op)) :=
  have ⟨h1, h2, h3, h4, h5, h6, h7, h8, h9, h10, h11, h12⟩ := hx
  ⟨ready6 _ _ _ h, rfl, hf, ⟨h1, h2⟩, ⟨h3, h4, h5, h6⟩, ⟨h7, h8⟩, ⟨h9, h10, h11, h12⟩⟩
theorem test_one_element : OneElement (on6 (el6 0x11) (mem6 1 2 3)) 5 (run6 (el6 0x11)) (xs6 (el6 0x11)) := one6 0x11 1 2 3 (by decide +kernel) (by decide +kernel) (by decide +kernel)
/-- The FP32 code at Pocket address 0 after an operation. -/
def out6 (i : Instr) (op a b c : Nat) : Option Nat :=
  match exec i (on6 (el6 op) (mem6 a b c)) with
  | .next t => some (leNat ((t.edge 5).bytes 0 4))
  | _ => none
-- 1.5 is 0x3FC00000, 2.25 is 0x40100000, -2.0 is 0xC0000000
theorem test_copy : out6 (.copy 5) 0x10 0x3FC00000 0 0 = some 0x3FC00000 := by decide +kernel
theorem test_add : out6 (.add 5) 0x11 0x3FC00000 0x40100000 0 = some 0x40700000 := by decide +kernel
theorem test_add_overflow : out6 (.add 5) 0x11 0x7F7FFFFF 0x7F7FFFFF 0 = some 0x7F800000 := by decide +kernel
theorem test_sub : out6 (.sub 5) 0x12 0x3FC00000 0x40100000 0 = some 0xBF400000 := by decide +kernel
theorem test_mul : out6 (.mul 5) 0x13 0x3FC00000 0xC0000000 0 = some 0xC0400000 := by decide +kernel
theorem test_muladd : out6 (.muladd 5) 0x14 0x3FC00000 0xC0000000 0x40100000 = some 0xBF400000 := by decide +kernel
theorem test_max_nan : out6 (.max 5) 0x15 0x7FC00001 0xC0000000 0 = some 0xC0000000 := by decide +kernel
theorem test_min_zero : out6 (.min 5) 0x16 0 0x80000000 0 = some 0x80000000 := by decide +kernel
theorem test_abs : out6 (.abs 5) 0x17 0xC0000000 0 0 = some 0x40000000 := by decide +kernel
theorem test_div : out6 (.div 5) 0x18 0x3F800000 0x40400000 0 = some 0x3EAAAAAB := by decide +kernel
theorem test_div_zero : out6 (.div 5) 0x18 0x3F800000 0x80000000 0 = some 0xFF800000 := by decide +kernel
theorem test_sqrt : out6 (.sqrt 5) 0x19 0x40000000 0 0 = some 0x3FB504F3 := by decide +kernel
theorem test_sqrt_negative : out6 (.sqrt 5) 0x19 0xC0000000 0 0 = some 0x7FC00000 := by decide +kernel
theorem test_cmplt : out6 (.cmplt 5) 0x1A 0xC0000000 0x3FC00000 0 = some 0x3F800000 := by decide +kernel
theorem test_select : out6 (.select 5) 0x1B 0x3FC00000 0x40100000 0x80000000 = some 0x40100000 := by decide +kernel

/-- Three INT8 elements a row, INT32 results: D at 0, A at 64, B at 72. -/
def sum6 (op rows : Nat) : List (Nat × Nat) := [(0, op), (16, 6), (20, 5), (24, 5), (32, 2), (44, rows - 1), (112, 8), (127, 1)] ++ (if op = 0x22 then [] else [(160, 9)])
def int6 : List (Nat × List Byte) := [(64, [1, 254, 3]), (72, [4, 5, 250])]
theorem test_dot : after (.dot 5) (on6 (sum6 0x20 1) int6) (fun t => toSigned 32 (leNat ((t.edge 5).bytes 0 4)) = 4 - 10 - 18) = true := by decide +kernel
theorem test_l2sq : after (.l2sq 5) (on6 (sum6 0x21 1) int6) (fun t => leNat ((t.edge 5).bytes 0 4) = 9 + 49 + 81) = true := by decide +kernel
theorem test_reduce : after (.reduce 5) (on6 (sum6 0x22 2) int6) (fun t => (t.edge 5).bytes 0 12 = [5, 0, 0, 0, 3, 0, 0, 0, 253, 255, 255, 255]) = true := by decide +kernel
theorem test_int8_rows : Int8Rows (on6 (sum6 0x20 1) int6) 5 (run6 (sum6 0x20 1)) (xs6 (sum6 0x20 1)) ∧
    Int8Rows (on6 (sum6 0x22 2) int6) 5 (run6 (sum6 0x22 2)) (xs6 (sum6 0x22 2)) :=
  ⟨⟨ready6 _ _ _ (by decide +kernel), rfl, by decide +kernel, by decide +kernel, by decide +kernel, by decide +kernel⟩,
   ⟨ready6 _ _ _ (by decide +kernel), rfl, by decide +kernel, by decide +kernel, by decide +kernel, by decide +kernel⟩⟩
/-- HASH of one key at 64 modulo S1 with the salt S2, S3. -/
def hash6 : List (Nat × Nat) := [(0, 0x28), (16, 6), (20, 7), (24, 6), (28, 6), (112, 8), (160, 1), (207, 1), (208, 2), (255, 1)]
theorem test_hash : ((on6 hash6 [(64, [77])]).ready 5 0x28).isSome = true ∧ after (.hash 5) (on6 hash6 [(64, [77])]) (fun t => leNat ((t.edge 5).bytes 0 4) = mix64 77 % 9) = true := by decide +kernel
/-- TOPK of two candidates into a list of at most 7 with its length in S2: keys 2.25 and 1.5, ids 4 and 3. -/
def topk6 : List (Nat × Nat) := [(0, 0x29), (24, 6), (28, 6), (32, 1), (44, 6), (64, 16), (112, 8), (160, 9), (208, 2), (255, 1)]
theorem test_topk : ((on6 topk6 []).ready 5 0x29).isSome = true ∧ after (.topk 5) (on6 topk6 [(64, toLe 4 0x40100000 ++ toLe 4 0x3FC00000), (72, toLe 4 4 ++ toLe 4 3)]) (fun t =>
    (t.edge 5).bytes 128 16 = toLe 4 0x3FC00000 ++ toLe 4 3 ++ toLe 4 0x40100000 ++ toLe 4 4 && (t.edge 5).run.map (fun q => q.scalars.getD 2 0) = some 2) = true := by decide +kernel

def ext6 : State := ({ st5 with sys := { st5.sys with lc := .provisioned, extKey := true } }).setFld F.CORE_EXT_LEN_LEN 256
theorem test_ext_load : ext6.mayAdminister 0 = true ∧ ext6.extAllowed = true ∧ after (.coreExtLoad 0) ext6 (fun t => t.out = [.hostRead 0 0 256] && t.fld F.CORE_EXT_STATUS_BUSY = 1) = true := by decide +kernel
def loading6 : State := { ext6 with core := { ext6.core with loading := some (0, 0, 256) } }
theorem test_ext_busy : after (.coreExtLoad 0) loading6 (fun t => t.fld F.CORE_EXT_STATUS_CODE = 0x0D) = true := by decide +kernel
theorem test_ext_not_permitted : after (.coreExtLoad 0) { ext6 with sys := { ext6.sys with extKey := false } } (fun t => t.fld F.CORE_EXT_STATUS_CODE = 0x0C && t.fld F.CORE_EXT_STATUS_DONE = 1) = true := by decide +kernel
/-- A recipe of NOP and END for slot 300 in its image. -/
def body6 : List Byte := toLe 60 (0x72205C01 + 1 * 2 ^ 32 + 2 * 2 ^ 48 + 2 * 2 ^ 56 + 64 * 2 ^ 96 + 1 * 2 ^ 128)
def full6 : List Byte := body6 ++ toLe 4 (crc32c (body6 ++ stp [] ++ stp [(0, 15)])) ++ stp [] ++ stp [(0, 15)]
def image6 : List Byte := toLe 128 (0x7220E701 + 300 * 2 ^ 32 + 128 * 2 ^ 64 + 3 * 2 ^ 96) ++ full6
theorem test_ext_loaded : extHeaderOk 256 image6 = true ∧ (checkRecipe true full6).code = 0 ∧ after (.coreExtLoadDone .ok image6 true) loading6 (fun t =>
    t.core.slots.find? 300 = some { recipe := full6, version := 3 } && t.fld F.CORE_EXT_STATUS_SLOT = 300 && t.fld F.CORE_EVENT_EXT_DONE = 1) = true := by decide +kernel
theorem test_ext_refused : after (.coreExtLoadDone .abort image6 true) loading6 (fun t => t.fld F.CORE_EXT_STATUS_CODE = 0x0B) = true ∧
    after (.coreExtLoadDone .ok (image6.set 0 0) true) loading6 (fun t => t.fld F.CORE_EXT_STATUS_CODE = 1) = true ∧
    after (.coreExtLoadDone .ok image6 false) loading6 (fun t => t.fld F.CORE_EXT_STATUS_CODE = 2) = true ∧
    after (.coreExtLoadDone .ok image6 true) { loading6 with core := { loading6.core with highest := ⟨[(300, 3)]⟩ } } (fun t => t.fld F.CORE_EXT_STATUS_CODE = 3) = true ∧
    after (.coreExtLoadDone .ok (image6.set 200 1) true) loading6 (fun t => t.fld F.CORE_EXT_STATUS_CODE = 4) = true := by decide +kernel
theorem test_ext_remove : after (.coreExtRemove 0) ({ ext6 with core := { ext6.core with slots := ⟨[(300, { recipe := [] })]⟩ } }.setFld F.CORE_RCP_SEL_SLOT 300) (fun t =>
    t.core.slots.find? 300 = none) = true := by decide +kernel
/-- The worked block of the chapter: 0.8125, 0.30078125, 0.010009765625 and −0.96875 under RND 0 (R239). -/
theorem test_mx_block : (mxEncode .mx6e2m3 { mode := 0, seed := 0, step := 0 } 0 1 ([decodeFp .fp32 0x3F500000, decodeFp .fp32 0x3E9A0000, decodeFp .fp32 0x3C240000, decodeFp .fp32 0xBF780000] ++ List.replicate 28 .zero)).1 = 124 ∧
    (mxEncode .mx6e2m3 { mode := 0, seed := 0, step := 0 } 0 1 ([decodeFp .fp32 0x3F500000, decodeFp .fp32 0x3E9A0000, decodeFp .fp32 0x3C240000, decodeFp .fp32 0xBF780000] ++ List.replicate 28 .zero)).2.1.take 4 = [0x1D, 0x12, 0x01, 0x3F] := by decide +kernel


/-! ### Embedding tables -/

/-- A descriptor of table 3 from its fields: the byte each begins at, and its value; BETA1 and BETA2 0, EPS 1 (R266). -/
def td (l : List (Nat × Nat)) : List Byte := toLe 128 (((0, 3) :: (4, 2) :: (8, 10) :: (40, 8) :: (120, 0x3F800000) :: l).map fun x => x.2 * 256 ^ x.1).sum
/-- SHARDED, DIRECT, FP32, SGD, two elements, ten rows of 8 bytes from 32 GiB of the window. -/
def sgd7 (more : List (Nat × Nat)) : EmbTable :=
  let d := td ([(3, 32), (48, 2 ^ 35)] ++ more)
  { desc := d, comp := 9, loc := edLoc d }
def st7 (e : Entry) (x : EmbTable) : State := (run5 e).setEmbTable 3 x
def def7 : Entry := { ent5 0x40 [(20, 3)] with block := td [(3, 32)] }
theorem test_emb_define : (run5 def7).runnable 7 0x40 = some def7 ∧ (run5 def7).embAnchor 3 = (run5 def7).sys.member ∧ (run5 def7).anchorBusy 7 3 def7 = false ∧ (run5 def7).embTable 3 = none ∧
    after (.embDefine 7) (run5 def7) (fun t => t.embTable 3 = some { desc := td [(3, 32)], comp := 0, loc := ⟨0, 0, 0, 0⟩ } &&
      (t.entry? 7).map (fun x => (x.phase, x.out.result0, x.out.countDone)) = some (.ended, 1, 1)) = true := by decide +kernel
theorem test_emb_redefine : (st7 def7 (sgd7 [])).embTable (epTable def7.packet) = some (sgd7 []) ∧ after (.embDefine 7) (st7 def7 (sgd7 [])) (fun t => t.emb = (st7 def7 (sgd7 [])).emb &&
      (t.entry? 7).map (fun x => (x.phase, x.out.status, x.out.subcode)) = some (.ended, St.badParam, 0x4A)) = true := by decide +kernel
/-- A rack of three members, of which member 0 is this one: the anchor of table 1 stands elsewhere (R260). -/
def away7 : State := { run5 { def7 with packet := pk [(0, 0x40), (20, 1)] } with rack := { up.rack with map := { up.rack.map with server := [0, 1, 2] } } }.setFld F.TIER_HASH_WIDTH 3
theorem test_emb_away : away7.embAnchor 1 ≠ away7.sys.member ∧ after (.embDefine 7) away7 (fun t => t.emb = away7.emb && (t.entry? 7).map (fun x => (x.phase, x.items.map (·.home))) = some (.accepted, [1])) = true := by decide +kernel
def drop7 : Entry := ent5 0x41 [(20, 3)]
theorem test_emb_drop : (st7 drop7 (sgd7 [])).embInUse 7 3 = false ∧ after (.embDrop 7) (st7 drop7 (sgd7 [])) (fun t => t.embTable 3 = none && (t.entry? 7).map (fun x => (x.phase, x.out.result0)) = some (.ended, 1)) = true := by decide +kernel
def retiring7 (v : Nat) : EmbTable := { sgd7 [] with version := v, old := some ⟨1, 2, 3, 4⟩ }
theorem test_emb_drop_retiring : after (.embDrop 7) (st7 drop7 (retiring7 5)) (fun t => (t.embTable 3).isSome && (t.entry? 7).map (fun x => (x.out.status, x.out.subcode)) = some (St.badParam, 0x4A)) = true := by decide +kernel
theorem test_emb_query : after (.embQuery 7) (st7 (ent5 0x42 [(20, 3)]) { retiring7 5 with desc := td [(2, 16)], step := 6 }) (fun t =>
      (t.entry? 7).map (fun x => (x.phase, x.out.result0, x.out.result1)) = some (.ended, 5 + 6 * 2 ^ 32, 3)) = true := by decide +kernel
theorem test_emb_query_none : after (.embQuery 7) (run5 (ent5 0x42 [(20, 3)])) (fun t => (t.entry? 7).map (fun x => (x.phase, x.out.result1)) = some (.ended, 0)) = true := by decide +kernel
def pub7 (expect : Nat) : State := (st7 (ent5 0x4C [(20, 3), (24, expect), (28, 4)]) { sgd7 [] with version := 2 ^ 32 - 1 }).setEmbTable 4 { sgd7 [] with loc := ⟨9, 8, 7, 6⟩ }
theorem test_emb_publish : after (.embPublish 7) (pub7 (2 ^ 32 - 1)) (fun t =>
      (t.embTable 3).map (fun x => (x.version, x.loc, x.old)) = some (0, ⟨9, 8, 7, 6⟩, some (sgd7 []).loc) && t.fld F.EMB_EVENT_PUBLISHED = 1) = true := by decide +kernel
theorem test_emb_publish_stale : after (.embPublish 7) (pub7 5) (fun t => t.emb = (pub7 5).emb &&
      (t.entry? 7).map (fun x => (x.phase, x.out.status, x.out.subcode, x.out.result0)) = some (.ended, St.staleVersion, 0x40, 2 ^ 32 - 1)) = true := by decide +kernel
theorem test_emb_retire : (st7 drop7 (retiring7 5)).embInFlight 3 ((5 + 2 ^ 32 - 1) % 2 ^ 32) = 0 ∧ after (.embRetire 3) (st7 drop7 (retiring7 5)) (fun t => (t.embTable 3).map (·.old) = some none && t.fld F.EMB_EVENT_RETIRED = 1) = true := by decide +kernel
theorem test_emb_retire_waits : (st7 { ent5 0x44 [(20, 3)] with version := 4 } (retiring7 5)).embInFlight 3 4 ≠ 0 := by decide +kernel

/-- Keys 1, 1, 12 as INT32; bags [0, 2) and [2, 3); row 1 is (1.0, 2.0). -/
def rows7 (e : Entry) (x : EmbTable) : State :=
  (((st7 e x).pokeBytes (2 ^ 34) (toLe 12 (1 + 2 ^ 32 + 12 * 2 ^ 64))).pokeBytes (2 ^ 34 + 64) (toLe 12 (2 * 2 ^ 32 + 3 * 2 ^ 64))).pokeBytes (0xFF000000000000 + 2 ^ 35 + 8) (toLe 8 (0x3F800000 + 0x40000000 * 2 ^ 32))
def gat7 (pool : Nat) : Entry := { ent5 0x44 [(8, 2 ^ 34), (16, 2), (20, 3), (22, pool), (24, 2 ^ 34 + 64), (40, 1)] with version := 1, slot := some (0, 1) }
/-- The reading of a gather, in the order of the statement. -/
def gather7 (s : State) (e : Entry) (x : EmbTable) : Option (State × Bool) :=
  match (s.fetchAs 7 .none []).prepareRanges 7 (embLists (edDim x.desc) e.packet) [] with
  | (s0, false) => match s0.readRanges (embLists (edDim x.desc) e.packet) with
    | (s1, none) => match (s1.fetchAs 7 x.second (s1.gatherRanges e x)).prepareRanges 7 (s1.gatherRanges e x) [] with
      | (s2, false) =>
        let y := s2.gatherSpace (s2.reserveWork 7 (gatherWork (epCount e.packet) ((edWfmt x.desc).rowBytes (edDim x.desc))))
        match (y.1.dropFetched 7).readRanges (s1.gatherRanges e x) with
        | (s3, none) => if epPool e.packet = 3 || offsetsOk (s1.offsetList e.packet) (epCount e.packet) then some (s3, y.2) else none
        | _ => none
      | _ => none
    | _ => none
  | _ => none
theorem test_gather_ready : (rows7 (gat7 0) (sgd7 [])).runnableStore 7 0x44 = some (gat7 0) ∧ ((gather7 (rows7 (gat7 0) (sgd7 [])) (gat7 0) (sgd7 [])).map (·.2)) = some false := by decide +kernel
/-- The first bag sums row 1 twice, to (2.0, 4.0); key 12 is missing, its row zeros; one stored row is read, in one segment (R273, R274). -/
theorem test_gather : after (.embGather 7) (rows7 (gat7 0) (sgd7 [])) (fun t =>
      (t.entry? 7).map (fun x => (x.pend.take 24, (x.pend.drop 64).take 8, (x.pend.drop 128).take 8)) =
        some (toLe 24 (1 + 2 * 2 ^ 32 + 2 ^ 64 + 2 ^ 96 + 2 ^ 128 + 64 * 2 ^ 160), toLe 8 (0x40000000 + 0x40800000 * 2 ^ 32), toLe 8 0) &&
      (t.entry? 7).map (fun x => (x.phase, x.out.result0, x.out.countDone, x.out.fellBack)) = some (.ended, 1 + 2 ^ 32, 2, false)) = true := by decide +kernel
def tight7 (e : Entry) : State := { rows7 e (sgd7 []) with emb := { (rows7 e (sgd7 [])).emb with workMib := 0 } }
theorem test_gather_direct : after (.embGather 7) (tight7 (gat7 3)) (fun t => t.fld F.EMB_COUNT_DIRECT_COUNT = 1 && t.fld F.EMB_EVENT_DIRECT_PATH = 1 &&
      (t.entry? 7).map (fun x => (x.phase, x.out.countDone, x.out.fellBack)) = some (.ended, 3, true)) = true := by decide +kernel
/-- Gradients (1, 1), (2, 2) on row 1; LR 0.5: the row becomes (1 − 1.5, 2 − 1.5). -/
def upd7 (more : List (Nat × Nat)) : Entry := { ent5 0x45 ([(8, 2 ^ 34), (16, 1), (20, 3), (40, 2 ^ 34 + 128), (52, 0x3F000000), (56, 1)] ++ more) with version := 1 }
def grads7 (e : Entry) (x : EmbTable) : State := (rows7 e x).pokeBytes (2 ^ 34 + 128) (toLe 16 (0x3F8000003F800000 + 0x4000000040000000 * 2 ^ 64))
theorem test_update : (grads7 (upd7 []) (sgd7 [])).runnableStore 7 0x45 = some (upd7 []) ∧ (grads7 (upd7 []) (sgd7 [])).touchedRows (upd7 []) (sgd7 []) = [(0xFF000000000000 + 2 ^ 35 + 8, 8)] ∧
    after (.embUpdate 7) (grads7 (upd7 []) (sgd7 [])) (fun t => t.bytes (0xFF000000000000 + 2 ^ 35) 24 = toLe 8 0 ++ toLe 8 (0xBF000000 + 0x3F000000 * 2 ^ 32) ++ toLe 8 0 &&
      (t.entry? 7).map (fun x => (x.phase, x.out.result0, x.out.result1, x.out.countDone)) = some (.ended, 1 + 2 ^ 32, 0, 1)) = true := by decide +kernel
theorem test_update_deterministic : after (.embUpdate 7) (grads7 (upd7 [(60, 4)]) (sgd7 [(2, 16)])) (fun t => t.store.mem = (grads7 (upd7 []) (sgd7 [])).store.mem &&
      t.emb.steps = [{ table := 3, row := 1, step := 1, srcNode := t.srcNode 3, seq := 4, g := [0x40400000, 0x40400000] }]) = true := by decide +kernel
theorem test_update_never : (upd7 []).part = false ∧ (tight7 (upd7 [])).workSize < updateWork (epCount (upd7 []).packet) ∧ after (.embUpdate 7) (tight7 (upd7 [])) (fun t => (t.entry? 7).map (fun x => (x.out.status, x.out.subcode)) = some (St.noSpace, 0x42)) = true := by decide +kernel
def turn7 : State := { (grads7 (upd7 []) (sgd7 [])).setEntry 6 (upd7 []) with emb := { (grads7 (upd7 []) (sgd7 [])).emb with waiting := [6] } }
theorem test_update_turn : after (.embUpdate 7) turn7 (fun t => t.emb.waiting = [6, 7]) = true := by decide +kernel
def own7 (e : Entry) (x : EmbTable) : State := { grads7 e x with emb := { (grads7 e x).emb with work := ⟨[(7, 40)]⟩ } }
def read7 (s : State) (e : Entry) (x : EmbTable) : Option State :=
  match s.prepareRanges 7 (embLists (edDim x.desc) e.packet) (s.touchedRows e x) with
  | (s0, false) => match s0.readRanges (embLists (edDim x.desc) e.packet) with
    | (s1, none) => some s1
    | _ => none
  | _ => none
theorem test_update_reads : ((read7 (own7 (upd7 []) (sgd7 [])) (upd7 []) (sgd7 [])).map fun s => (s.runUpdate (upd7 []).packet (s.srcNode 3) 1 true).2) = some { done := 1, distinct := 1 } := by decide +kernel
def wr7 : Entry := { ent5 0x46 [(8, 2 ^ 34), (16, 1), (20, 3), (40, 2 ^ 34 + 128)] with version := 1 }
/-- Two source rows for key 1: the last one is written (R286). -/
theorem test_emb_write : ((read7 (grads7 wr7 (sgd7 [])) wr7 (sgd7 [])).map fun s => (s.runWrite wr7.packet 1 true).2.done) = some 1 ∧
    after (.embWrite 7) (grads7 wr7 (sgd7 [])) (fun t => t.bytes (0xFF000000000000 + 2 ^ 35) 24 = toLe 8 0 ++ toLe 8 0x4000000040000000 ++ toLe 8 0 &&
      (t.entry? 7).map (fun x => (x.phase, x.out.result0, x.out.countDone)) = some (.ended, 1, 1)) = true := by decide +kernel
def close7 (stage step : Nat) : State :=
  let s := (rows7 { ent5 0x48 [(20, 3), (24, step), (28, 0x3F000000)] with stage := stage } (sgd7 [(2, 16)]))
  { s with emb := { s.emb with steps := [{ table := 3, row := 1, step := 1, srcNode := 2, seq := 9, g := [0x3F800000, 0x40000000] }, { table := 3, row := 1, step := 2, srcNode := 2, seq := 9, g := [0, 0] }] } }
theorem test_step_close : (close7 1 1).updatesOpen 3 1 = false ∧ (close7 1 1).members.length ≤ 1 ∧
    ((close7 1 1).prepareRanges 7 [] ((close7 1 1).stepRanges 3 1)).2 = false ∧
    (((close7 1 1).prepareRanges 7 [] ((close7 1 1).stepRanges 3 1)).1.applyStep 3 1 (fp32Of 0x3F000000) 0 false 0).2.2.2.2 = none ∧
    after (.embStepClose 7) (close7 1 1) (fun t => t.bytes (0xFF000000000000 + 2 ^ 35 + 8) 8 = toLe 8 (0x3F000000 + 0x3F800000 * 2 ^ 32) && t.emb.steps.map (·.step) = [2] &&
      (t.entry? 7).map (fun x => (x.phase, x.out.result0, x.out.countDone, x.out.countAux)) = some (.ended, 1, 1, 1)) = true := by decide +kernel
theorem test_step_close_waits : ((close7 0 1).setEntry 6 (upd7 [])).updatesOpen 3 1 = true ∧ after (.embStepClose 7) ((close7 0 1).setEntry 6 (upd7 [])) (fun t => (t.entry? 7).map (·.stage) = some 1 && (t.embTable 3).map (·.step) = some 2) = true := by decide +kernel
theorem test_step_close_stale : after (.embStepClose 7) (close7 0 2) (fun t => (t.entry? 7).map (fun x => (x.out.status, x.out.subcode)) = some (St.staleVersion, 0x42)) = true := by decide +kernel
theorem test_segments : segmentRows 2 [[(3, 1), (3, 1)], [(3, 2)], [(3, 1), (3, 4)], [(3, 1)]] [] = [[(3, 1), (3, 2)], [(3, 1), (3, 4)]] := by decide


/-! ### Vector indexes -/

/-- A LOCAL index of one part, L2SQ, FP32 of 8 elements, degree 8, one entry point, 8 nodes: words at 0, the entry list at 0x100,
vectors at 0x1000, edge lists at 0x2000 of the region (R293, R295). -/
def vd8 (more : List (Nat × Nat)) : List Byte := toLe 128 (((0, 2) :: (4, 8) :: (6, 8) :: (8, 1) :: (9, 1) :: (10, 6) :: (12, 8) :: (16, 0x1000) :: (24, 0x2000) :: (40, 2 ^ 35) :: (48, 2 ^ 20) :: (72, 0x100) :: more).map fun x => x.2 * 256 ^ x.1).sum
def base8 : Nat := 0xFF000000000000 + 2 ^ 35
def ix8 : VecIndex := { desc := vd8 [], comp := 9 }
def st8 (e : Entry) (x : VecIndex) : State := (run5 e).setVecIndex 2 x
def vdef8 : Entry := { ent5 0x60 [(20, 2)] with block := vd8 [] }
theorem test_vec_define : (run5 vdef8).runnable 7 0x60 = some vdef8 ∧ (run5 vdef8).vecAnchor 2 = (run5 vdef8).sys.member ∧ (run5 vdef8).vecBusy 7 2 vdef8 = false ∧ ((run5 vdef8).prepareRanges 7 ((run5 vdef8).entryLists (vd8 [])) []).2 = false ∧
    (((run5 vdef8).prepareRanges 7 ((run5 vdef8).entryLists (vd8 [])) []).1.readRanges ((run5 vdef8).entryLists (vd8 []))).2 = none ∧ (run5 vdef8).entriesOk (vd8 []) = true ∧ (run5 vdef8).vecIndex 2 = none ∧
    after (.vecDefine 7) (run5 vdef8) (fun t => t.vecIndex 2 = some { desc := vd8 [], comp := 0 } && (t.entry? 7).map (fun x => (x.phase, x.out.countDone)) = some (.ended, 1)) = true := by decide +kernel
theorem test_vec_redefine : after (.vecDefine 7) (st8 vdef8 ix8) (fun t => t.vec = (st8 vdef8 ix8).vec && (t.entry? 7).map (fun x => (x.out.status, x.out.subcode)) = some (St.badParam, 0x4A)) = true := by decide +kernel
theorem test_vec_drop : after (.vecDrop 7) (st8 (ent5 0x61 [(20, 2)]) ix8) (fun t => t.vecIndex 2 = none && (t.entry? 7).map (fun x => (x.phase, x.out.countDone)) = some (.ended, 1)) = true := by decide +kernel
theorem test_vec_drop_pass : after (.vecDrop 7) (st8 (ent5 0x61 [(20, 2)]) { ix8 with running := true }) (fun t => (t.vecIndex 2).isSome && (t.entry? 7).map (fun x => (x.out.status, x.out.subcode)) = some (St.badParam, 0x4A)) = true := by decide +kernel
/-- What holds of a slab that is not granted and of every slab granted holds of every slab. -/
theorem slab_all (s : State) (p : Slab → Bool) (h0 : p {} = true) (h1 : ∀ c, p { home := .hbm, comp := c } = true)
    (h : (s.store.slabs.cells.all fun c => p c.2) = true) (a : Nat) : p (s.slab a) = true := by
  have k : ∀ (l : List (Nat × Slab)) (n : Nat), (l.all fun c => p c.2) = true → p ((cellsFind l n).getD {}) = true := by
    intro l n
    induction l with
    | nil => intro _; exact h0
    | cons c l ih =>
      intro hl
      rw [List.all_cons, Bool.and_eq_true] at hl
      unfold cellsFind
      split
      · exact hl.1
      · exact ih hl.2
  unfold State.slab
  split
  · exact h1 _
  · exact k _ _ h
/-- With room in the write buffer no page waits for it; where no slab is DURABLE no write waits for the journal. -/
theorem noBuffer (s : State) (h : s.bufferRoom = true) (pg : Nat) : s.bufferFull pg = false := by simp [State.bufferFull, h]
theorem noJournal (s : State) (h : (s.store.slabs.cells.all fun c => !c.2.durable) = true) (gs : List Nat) : s.journalRoom gs = true := by
  have c : ∀ g, (s.slab g).durable = false := fun g => by simpa using slab_all s (fun x => !x.durable) rfl (fun _ => rfl) h g
  simp [State.journalRoom, c]
/-- Nodes 0 and 1 LIVE with ATTR 5 and 6, node 2 TOMB, node 3 RETIRING, the others FREE; 0 → 1, 2; vectors (node + 1, 0, …); entry 0. -/
def nodes8 (s : State) : State :=
  { s with store := { s.store with mem := (([(0, 5), (3, 0x40), (4, 6), (7, 0x40), (8, 7), (11, 0x80), (15, 0xC0),
      (0x1002, 0x80), (0x1003, 0x3F), (0x1043, 0x40), (0x1082, 0x40), (0x1083, 0x40), (0x2000, 1), (0x2004, 2)] ++
    (List.range 248).map fun i => (0x2008 + i, 255)) : List (Nat × Byte)).map fun x => (base8 + x.1, x.2) } }
def all8 (e : Entry) (x : VecIndex) : State := nodes8 (st8 e x)
theorem test_vec_query : after (.vecQuery 7) (all8 (ent5 0x62 [(20, 2)]) { ix8 with pass := 3, running := true }) (fun t =>
      (t.entry? 7).map (fun x => (x.phase, x.out.result0, x.out.result1, x.out.countDone)) = some (.ended, 2 + 2 * 2 ^ 32, 3 + 3 * 65536, 4)) = true := by decide +kernel
theorem test_vec_query_none : after (.vecQuery 7) (run5 (ent5 0x62 [(20, 2)])) (fun t => (t.entry? 7).map (fun x => (x.phase, x.out.result1)) = some (.ended, 0)) = true := by decide +kernel
theorem test_vec_sound : ∀ g, ((all8 vdef8 ix8).gran g).poison = none ∧ ((all8 vdef8 ix8).gran g).damaged = false ∧ ((all8 vdef8 ix8).gran g).corrupt = false := by
  intro g; have h : (all8 vdef8 ix8).gran g = {} := rfl
  rw [h]; decide
theorem test_vec_keys : (all8 vdef8 ix8).KeysStand := fun _ => rfl
theorem test_vec_placed : (all8 vdef8 ix8).VecPlaced ix8.desc := by unfold State.VecPlaced; decide +kernel
def ins8 (n : Nat) : Entry := { ent5 0x68 [(20, 2), (26, 8), (28, 4), (30, 100), (36, n), (40, 77)] with block := toLe 64 0x40800000 }
theorem test_vec_insert_free : (all8 (ins8 5) ix8).MayWrite 7 [(wordAddr (vd8 []) 0 5, 4)] := ⟨⟨by decide +kernel, by decide +kernel, by decide +kernel, fun _ => rfl⟩, noJournal _ (by decide +kernel) _, by decide, fun _ _ => noBuffer _ (by decide +kernel) _, fun _ _ => rfl⟩
theorem test_vec_insert : (all8 (ins8 5) ix8).runnableStore 7 0x68 = some (ins8 5) ∧ wordState ((all8 (ins8 5) ix8).homeWord (vd8 []) 0 5) = 0 ∧
    after (.vecInsert 7) (all8 (ins8 5) ix8) (fun t => t.wordAt (vd8 []) 0 5 = 2 ^ 30 + 77 && t.vec.claims = [⟨7, 2, 0, 5, 0, base8 + 20, 0⟩] &&
      (t.vec.walks.find? 0).map (fun y => (y.entry, y.insert, y.k, y.l, y.w, y.budget)) = some (7, true, 8, 8, 4, 100)) = true := by decide +kernel
theorem test_vec_insert_twice : after (.vecInsert 7) (all8 (ins8 1) ix8) (fun t => t.vec = (all8 (ins8 1) ix8).vec && (t.entry? 7).map (fun x => (x.phase, x.out.status, x.out.subcode)) = some (.ended, St.badParam, 0x47)) = true := by decide +kernel
def del8 : Entry := ent5 0x69 [(20, 2), (36, 1), (40, 3)]
theorem test_vec_delete : after (.vecDelete 7) (all8 del8 ix8) (fun t => (List.range 5).map (fun n => t.homeWord (vd8 []) 0 n) = [2 ^ 30 + 5, 2 ^ 31 + 6, 2 ^ 31 + 7, 3 * 2 ^ 30, 0] &&
      (t.entry? 7).map (fun x => (x.phase, x.out.countDone, x.out.countAux)) = some (.ended, 1, 2)) = true := by decide +kernel
theorem test_vec_delete_free : (all8 del8 ix8).MayWrite 7 (((List.range 3).map fun j => ((all8 del8 ix8).vecWindows (vd8 []) 0).map fun w => (wordAddr (vd8 []) w (1 + j), 4)).flatten) := ⟨⟨by decide +kernel, by decide +kernel, by decide +kernel, fun _ => rfl⟩, noJournal _ (by decide +kernel) _, by decide, fun _ _ => noBuffer _ (by decide +kernel) _, fun _ _ => rfl⟩
def claim8 : State := { all8 del8 ix8 with vec := { (all8 del8 ix8).vec with claims := [⟨9, 2, 0, 3, 0, base8 + 12, 0⟩] } }
theorem test_vec_delete_waits : claim8.nodeHere (vd8 []) 0 3 = true ∧ after (.vecDelete 7) claim8 (fun t => t.entry? 7 = some del8 && t.store.mem = claim8.store.mem) = true := by decide +kernel
theorem test_vec_repair : after (.vecRepair 7) (all8 (ent5 0x6C [(20, 2)]) { ix8 with pass := 65535 }) (fun t => (t.vecIndex 2).map (fun x => (x.pass, x.running)) = some (0, true) &&
      t.homeWord (vd8 []) 0 2 = 3 * 2 ^ 30 + 7 && (t.entry? 7).map (fun x => (x.phase, x.out.countDone, x.out.countAux)) = some (.ended, 1, 1)) = true := by decide +kernel
theorem test_vec_repair_runs : after (.vecRepair 7) (all8 (ent5 0x6C [(20, 2)]) { ix8 with running := true }) (fun t => (t.entry? 7).map (fun x => (x.out.status, x.out.subcode)) = some (St.badParam, 0x4A)) = true := by decide +kernel
/-- Node 0's list 1, 2 holds the tombstone 2, whose list names 0 and 1: the new list is 1 alone (R322). -/
def pass8 : State := { (all8 vdef8 { ix8 with running := true, rateWindow := 5 }).pokeBytes (base8 + 0x2040) (toLe 8 (2 ^ 32)) with vec := { (all8 vdef8 { ix8 with running := true, rateWindow := 5 }).vec with pend := [⟨2, 0, 0, 4⟩, ⟨2, 0, 1, 4⟩] } }
theorem test_repair_node_ready : pass8.nextRepair (vd8 []) 0 = some 0 ∧
    (pass8.prepareRanges (passWaiter 2) (pass8.repairRanges (vd8 []) 0 0 [4]) [edgeRange (vd8 []) 0 0]).2 = false := by decide +kernel
theorem test_repair_node : after (.vecRepairNodeStart 2) pass8 (fun t => t.edgesOf (vd8 []) 0 0 = [1] && t.vec.pend = [⟨2, 0, 1, 4⟩] &&
      (t.vecIndex 2).map (fun x => (x.next, x.repaired, x.rateUsed)) = some (1, 1, 1)) = true := by decide +kernel
theorem test_repair_rate : max 1 (pass8.fld F.VEC_REPAIR_CFG_RATE) = 256 := by decide +kernel
def passEnd8 : State := all8 vdef8 { ix8 with running := true, next := 8 }
theorem test_pass_end : passEnd8.vecAnchor 2 = passEnd8.sys.member ∧ (passEnd8.prepareRanges (passWaiter 2) (passEnd8.passRanges (vd8 [])) (passEnd8.entryLists (vd8 []))).2 = false ∧
    (let u := (passEnd8.prepareRanges (passWaiter 2) (passEnd8.passRanges (vd8 [])) (passEnd8.entryLists (vd8 []))).1; (u.readRanges (u.passRanges (vd8 []))).2 = none) ∧
    after (.vecPassEnd 2) passEnd8 (fun t => t.homeWord (vd8 []) 0 3 = 0 && t.homeWord (vd8 []) 0 2 = 2 ^ 31 + 7 && t.fld F.VEC_EVENT_PASS_DONE = 1 &&
      (t.vecIndex 2).map (·.running) = some false) = true := by decide +kernel
def srch8 (n : Nat) : Entry := { ent5 0x64 [(20, 2), (22, 0), (24, 2), (26, 4), (28, 2), (30, 50)] with block := toLe 96 0, slot := some (0, 1), stage := n, items := if n = 0 then [] else [{ home := 0, id := 3, classes := 4 }] }
theorem test_search : after (.vecSearch 7) (all8 (srch8 0) ix8) (fun t => t.vec.nextWalk = 1 && (t.vec.walks.find? 0).map (fun y => (y.entry, y.k, y.l, y.w, y.budget)) = some (7, 2, 4, 2, 50)) = true := by decide +kernel
def walk8 : Walk := { entry := 7, item := 3, index := 2, part := 0, insert := false, unit := some 0, k := 2, l := 4, w := 2, budget := 50, widen := false, widenBudget := 0, routeTomb := false, clauses := [], queryPq := List.replicate 8 0, queryExact := List.replicate 8 0, qfmt := 0 }
def walking8 (x : Walk) : State := { all8 (srch8 1) ix8 with vec := { (all8 (srch8 1) ix8).vec with walks := ⟨[(4, x)]⟩ } }
/-- Entry point 0 at distance 1, then its neighbour 1 at distance 4; the tombstone 2 is not entered (R304, R306). -/
def round8 (x : Walk) : Option Walk := match exec (.walkRound 4) (walking8 x) with
  | .next t => t.vec.walks.find? 4
  | _ => none
theorem test_round_ready : ((walking8 walk8).walkReady (vd8 []) walk8).2 = false ∧
    (((walking8 walk8).walkReady (vd8 []) walk8).1.walkOn (vd8 []) walk8).2.ended = false := by decide +kernel
theorem test_round_first : (round8 walk8).map (fun y => (y.picks, y.queue, y.expansions)) = some ([0], [⟨0x3F800000, 0, 2 ^ 30 + 5, true⟩], 1) := by decide +kernel
def walk8b : Walk := { walk8 with begun := true, picks := [0], queue := [⟨0x3F800000, 0, 2 ^ 30 + 5, true⟩], visited := [0], expansions := 1 }
theorem test_round_second : (round8 walk8b).map (fun y => (y.picks, y.results, y.queue.map (·.node))) = some ([1], [⟨0x3F800000, 0, 2 ^ 30 + 5, 0⟩], [0, 1]) := by decide +kernel
theorem test_walk_waits : after (.walkRound 4) (walking8 { walk8 with unit := none }) (fun t => (t.vec.walks.find? 4).map (·.begun) = some false) = true := by decide +kernel
def done8 : Walk := { walk8b with ended := true, unit := none, results := [⟨0x3F800000, 0, 2 ^ 30 + 5, 0⟩], expansions := 2 }
theorem test_search_end : (walking8 done8).runnable 7 0x64 = some (srch8 1) ∧ after (.walkRound 4) (walking8 done8) (fun t => t.vec.walks.cells = [] && (t.entry? 7).map (fun y => (y.pend.take 8, (y.pend.drop 64).take 16)) =
        some (toLe 8 (1 + 2 * 2 ^ 32), toLe 16 (0x3F800000 * 2 ^ 32 + (2 ^ 30 + 5) * 2 ^ 64)) &&
      (t.entry? 7).map (fun y => (y.phase, y.out.status, y.out.result0, y.out.countDone)) = some (.ended, St.donePartial, 1 + 2 * 2 ^ 32, 1)) = true := by decide +kernel
def insd8 (f : Option (Nat × Nat)) : State :=
  let e : Entry := { ins8 5 with started := true, items := [{ home := 0, id := 3, classes := 0 }] }
  { all8 e ix8 with vec := { (all8 e ix8).vec with walks := ⟨[(4, { walk8 with insert := true, ended := true, unit := none, fail := f, expansions := 6 })]⟩, claims := [⟨7, 2, 0, 5, 0, base8 + 20, 0⟩] } }
/-- What stands after the insert's records are written, and when its commit begins. -/
def wrote8 : Option State :=
  let x : Walk := { walk8 with insert := true, ended := true, unit := none, expansions := 6 }
  let e := ((insd8 none).entry? 7).getD (ins8 5)
  match (insd8 none).prepareRanges 7 [] (((insd8 none).insertWrites (vd8 []) e x).map fun a => (a.1, a.2.length)) with
  | (u, false) => match u.writeAll (u.insertWrites (vd8 []) e x) with
    | (v, none) =>
      let w := v.modEntry 7 (fun e => { e with stage := 3, begun := e.begun ||| 1 })
      match w.prepareRanges 7 (w.commitRanges (vd8 []) e x).1 (w.commitRanges (vd8 []) e x).2 with
      | (y, false) => some y
      | _ => none
    | _ => none
  | _ => none
theorem test_insert_writes : wrote8.any (fun y => y.nodeHere (vd8 []) 0 5 && y.vec.waiting = [] && y.vec.claims = [⟨7, 2, 0, 5, 0, base8 + 20, 0⟩] &&
    (y.entry? 7).any fun e => e.started && !e.moving && e.stop.isNone && e.items.length = 1) = true := by decide +kernel
theorem test_insert_commit : after (.walkRound 4) (insd8 none) (fun t => t.wordAt (vd8 []) 0 5 = 2 ^ 30 + 77 && t.vec.claims = [] && t.edgesOf (vd8 []) 0 5 = [] && t.bytes (base8 + 0x1000 + 320) 4 = toLe 4 0x40800000 &&
      (t.entry? 7).map (fun y => (y.phase, y.out.result0, y.out.countDone, y.out.countAux)) = some (.ended, 0, 0, 6)) = true := by decide +kernel
theorem test_insert_undo : after (.walkRound 4) ((insd8 (some (0x18, 0xC8))).pokeBytes (base8 + 20) (toLe 4 (2 ^ 30 + 77))) (fun t => t.wordAt (vd8 []) 0 5 = 0 && t.vec.claims = [] && t.vec.walks.cells = [] && (t.entry? 7).map (fun y => (y.phase, y.out.absent)) = some (.ended, 0xFF)) = true := by decide +kernel
def passFar8 : State := ({ passEnd8 with rack := { passEnd8.rack with map := { passEnd8.rack.map with server := [0, 1, 2] } } } : State).setFld F.TIER_HASH_WIDTH 3
theorem test_pass_end_far : passFar8.vecAnchor 2 ≠ passFar8.sys.member ∧ passFar8.nextRepair (vd8 []) 8 = none ∧
    after (.vecPassEnd 2) passFar8 (fun t => t.fld F.VEC_EVENT_PASS_DONE = 1 && (t.vecIndex 2).map (·.running) = some false) = true := by decide +kernel


/-! ### Replay buffers -/

/-- S 4, records of 64 bytes, tree at 2^35 of the window, records at 2^35 + 2^20 (R328). -/
def rd9 : List Byte := toLe 64 (2 + 4 * 256 ^ 2 + 6 * 256 ^ 3 + 2 ^ 35 * 256 ^ 8 + (2 ^ 35 + 2 ^ 20) * 256 ^ 16)
def tree9 : Nat := 0xFF000000000000 + 2 ^ 35
def buf9 (h : Nat) : RplBuffer := { desc := rd9, comp := 9, head := h }
def st9 (e : Entry) (h : Nat) : State := (run5 e).setRplBuffer 2 (buf9 h)
def rdef9 : Entry := { ent5 0x80 [(20, 2)] with block := rd9 }
theorem test_rpl_define : (run5 rdef9).runnable 7 0x80 = some rdef9 ∧ (run5 rdef9).rplAnchor 2 = (run5 rdef9).sys.member ∧
    rdef9.part = false ∧ (run5 rdef9).rplBusy 7 2 rdef9 = false ∧
    after (.rplDefine 7) (run5 rdef9) (fun t => t.rplBuffer 2 = some { desc := rd9, comp := 0 } && (t.entry? 7).map (fun x => (x.started, x.out.countDone)) = some (true, 1)) = true := by decide +kernel
theorem test_rpl_redefine : after (.rplDefine 7) (st9 rdef9 0) (fun t => (t.entry? 7).map (fun x => (x.out.status, x.out.subcode)) = some (St.badParam, 0x4A)) = true := by decide +kernel
def drop9 : State := (st9 (ent5 0x81 [(20, 2)]) 5).queueChange 2 0 { leaf := 3, asker := .item 1 1 }
theorem test_rpl_drop : drop9.rpl.jobs = [] ∧ after (.rplDrop 7) drop9 (fun t => t.rplBuffer 2 = none && t.shardQueue 2 0 = [] && (t.entry? 7).map (·.out.countDone) = some 1) = true := by decide +kernel
def job9 (a : Asker) (l : List (Nat × Nat)) : RplJob := { asker := a, packet := pk l }
theorem test_rpl_drop_used : after (.rplDrop 7) { drop9 with rpl := { drop9.rpl with jobs := [job9 (.item 1 1) [(0, 0x86), (20, 2)]] } } (fun t =>
      (t.entry? 7).map (fun x => (x.out.status, x.out.subcode)) = some (St.badParam, 0x4A)) = true := by decide +kernel
/-- Leaves 2 and 3 of shard 0 are 1.0 and 2.0. -/
def leaves9 (s : State) : State := (s.pokeBytes (tree9 + 4 * 18) (toLe 4 0x3F800000)).pokeBytes (tree9 + 4 * 19) (toLe 4 0x40000000)
theorem test_rpl_query : after (.rplQuery 7) (leaves9 (st9 (ent5 0x82 [(20, 2)]) 9)) (fun t =>
      (t.entry? 7).map (fun x => (x.phase, x.out.result0, x.out.result1, x.out.countDone, x.out.countAux)) = some (.ended, 9, 1, 2, 0)) = true := by decide +kernel
theorem test_rpl_query_none : after (.rplQuery 7) (run5 (ent5 0x82 [(20, 2)])) (fun t => (t.entry? 7).map (fun x => (x.phase, x.out.result1)) = some (.ended, 0)) = true := by decide +kernel
theorem test_rpl_head : after (.rplBufHeadLoRead 0 F.RPL_BUF_HEAD_LO_HEAD.off 4) ((st9 rdef9 (2 ^ 32 * 3 + 7)).setFld F.RPL_BUF_SEL_BUFFER 2) (fun t => t.out.getLast? = some (.readData 7) && t.fld F.RPL_BUF_HEAD_HI_HEAD = 3) = true := by decide +kernel
def ins9 : Entry := ent5 0x84 [(8, tree9 + 2 ^ 21), (15, 1), (16, 2), (20, 2)]
def ins9u : State := ((st9 ins9 15).prepareRanges 7 (rplLists rd9 ins9.packet) []).1
def ins9v : State := (ins9u.readRanges (rplLists rd9 ins9.packet)).1
theorem test_rpl_insert : (st9 ins9 15).resumable 7 0x84 = some ins9 ∧ ins9.part = false ∧ (st9 ins9 15).jobOfEntry 7 = none ∧
    ((st9 ins9 15).prepareRanges 7 (rplLists rd9 ins9.packet) []).2 = false ∧ (ins9u.readRanges (rplLists rd9 ins9.packet)).2 = none ∧
    ins9v.rplBuffer 2 = some (buf9 15) ∧ ins9v.jobOfEntry 7 = none ∧ ins9v.rplAnchor 2 = ins9v.sys.member ∧ ins9v.rpl.waits = [] ∧
    ins9v.mayReserve 2 (buf9 15) 2 = true ∧ ins9v.width = 1 ∧ ins9v.shardHere 0 = true ∧ (ins9v.entry? 7).any Entry.part = false ∧
    (ins9v.entry? 7).isSome = true ∧ ins9v.rack.nextItem = 0 ∧
    after (.rplInsert 7) (st9 ins9 15) (fun t => (t.rplBuffer 2).map (·.head) = some 17 && t.rpl.flights = [⟨.entry 7 0, 0, 0, 2, 15, 2⟩] &&
      (t.entry? 7).map (fun y => (y.started, y.out.result0)) = some (true, 15) &&
      t.shardQueue 2 0 = [{ leaf := 15, clear := true, asker := .entry 7 0 }, { leaf := 0, clear := true, asker := .entry 7 0 }]) = true := by decide +kernel
theorem test_rpl_sound : ∀ g, ((st9 ins9 15).gran g).poison = none ∧ ((st9 ins9 15).gran g).damaged = false ∧ ((st9 ins9 15).gran g).corrupt = false := by
  intro g; have h : (st9 ins9 15).gran g = {} := rfl
  rw [h]; decide
/-- An insert of 15 from number 0 in flight: the next 2 from 15 would overtake it. -/
def late9 (w : List RplFlight) : State := { st9 ins9 15 with rpl := { (st9 ins9 15).rpl with flights := [⟨.item 1 4, 1, 4, 2, 0, 15⟩], waits := w } }
theorem test_rpl_insert_waits : (late9 []).mayReserve 2 (buf9 15) 2 = false ∧ (late9 []).mayReserve 2 (buf9 15) 1 = true ∧
    ((late9 []).prepareRanges 7 (rplLists rd9 ins9.packet) []).2 = false ∧
    after (.rplInsert 7) (late9 []) (fun t => t.fld F.RPL_EVENT_INSERT_WAIT = 1 && t.rpl.waits = [⟨.entry 7 0, 0, 0, 2, 0, 2⟩] && (t.rplBuffer 2).map (·.head) = some 15) = true := by decide +kernel
theorem test_rpl_grant : (late9 [⟨.entry 7 0, 0, 0, 2, 0, 1⟩]).entry? 7 = some ins9 ∧ after (.rplReservationGrant 2) (late9 [⟨.entry 7 0, 0, 0, 2, 0, 1⟩]) (fun t =>
      t.shardQueue 2 0 = [{ leaf := 15, clear := true, asker := .entry 7 0 }] && (t.entry? 7).map (·.out.result0) = some 15 &&
      (t.rplBuffer 2).map (·.head) = some 16 && t.rpl.waits = [] && t.rpl.flights.length = 2) = true := by decide +kernel
theorem test_rpl_grant_waits : after (.rplReservationGrant 2) (late9 [⟨.entry 7 0, 0, 0, 2, 0, 2⟩]) (fun t => t.rpl.waits.length = 1 && t.out.length = 0) = true := by decide +kernel
def copy9 : RplJob := { asker := .entry 7 0, packet := ins9.packet, first := some 15 }
theorem test_rpl_copy : (st9 ins9 15).insertPart rd9 15 2 0 = [(0, 15), (1, 0)] ∧
    ((((st9 ins9 15).pokeBytes (tree9 + 2 ^ 21 + 64) (toLe 8 77)).copyShard copy9 rd9 15 0).bytes (tree9 + 2 ^ 20) 8 = toLe 8 77) := by decide +kernel
theorem test_rpl_copy_free : (st9 ins9 15).MayWrite 7 (((st9 ins9 15).insertPart rd9 15 2 0).map fun y => rplRecordRange rd9 0 y.2) := ⟨⟨by decide +kernel, by decide +kernel, by decide +kernel, fun _ => rfl⟩, noJournal _ (by decide +kernel) _, by decide, fun _ _ => noBuffer _ (by decide +kernel) _, fun _ _ => rfl⟩
/-- Leaf 2 becomes 4.0, leaf 9 becomes 1.0: the sums above follow (R330, R332). -/
def pass9 : State := ((leaves9 (st9 rdef9 0)).queueChange 2 0 { leaf := 2, value := 0x40800000, asker := .item 1 1 }).queueChange 2 0 { leaf := 9, value := 0x3F800000, asker := .item 1 1 }
def pass9r : List (Nat × Nat) := passRanges rd9 0 (pass9.shardQueue 2 0)
def pass9u : State := (pass9.prepareRanges (2 ^ 42 + 2 ^ 16 + 128) pass9r pass9r).1
theorem test_tree_pass_ready : (pass9.prepareRanges (2 ^ 42 + 2 ^ 16 + 128) pass9r pass9r).2 = false ∧ (pass9u.readRanges pass9r).2 = none ∧
    (pass9u.readRanges pass9r).1.rpl.jobs = [] := by decide +kernel
theorem test_tree_pass : after (.rplTreePass 2 0) pass9 (fun t => t.shardRoot rd9 0 = 0x40E00000 && t.rplWord rd9 0 9 = 0x40C00000 && t.shardMaxp rd9 0 = 0x40800000 && t.shardQueue 2 0 = []) = true := by decide +kernel
theorem test_cas_skips : ((leaves9 (st9 rdef9 0)).rplWord rd9 0 (16 + 2) = 0x3F800000) ∧ ((leaves9 (st9 rdef9 0)).applyChange' rd9 0 { leaf := 2, value := 5, old := some 7, asker := .item 1 1 }).2 = none := by decide +kernel
def tree9b (e : Entry) : State := ((((leaves9 (st9 e 0)).pokeBytes (tree9 + 4 * 9) (toLe 4 0x40400000)).pokeBytes (tree9 + 4 * 4) (toLe 4 0x40400000)).pokeBytes (tree9 + 4 * 2) (toLe 4 0x40400000)).pokeBytes (tree9 + 4) (toLe 4 0x40400000)
def smp9 : Entry := ent5 0x85 [(20, 2), (22, 2)]
theorem test_sample_ready : (tree9b smp9).resumable 7 0x85 = some smp9 ∧ (tree9b smp9).jobOfEntry 7 = none ∧ (tree9b smp9).rpl.queues.cells = [] ∧ (runningTotals ((List.range (tree9b smp9).width).map ((tree9b smp9).shardRoot rd9))).getLastD 0 = 0x40400000 := by decide +kernel
theorem test_sample_free : (tree9b smp9).MayWrite 7 [] := ⟨⟨by decide +kernel, by decide +kernel, by decide +kernel, fun _ => rfl⟩, noJournal _ (by decide +kernel) _, by decide, fun _ _ => noBuffer _ (by decide +kernel) _, fun _ _ => rfl⟩
theorem test_sample : after (.rplSample 7) (tree9b smp9) (fun t => (t.jobOfEntry 7).map (fun j => (j.total, j.live, j.draws.map (·.shard))) = some (some 0x40400000, 2, [0, 0, 0])) = true := by decide +kernel
/-- Target 0.5 falls on leaf 2, target 2.0 on leaf 3 (R336). -/
theorem test_descend : ((tree9b smp9).descend rd9 0 0x3F000000).1 = some 2 ∧ ((tree9b smp9).descend rd9 0 0x40000000).1 = some 3 ∧ ((st9 smp9 0).descend rd9 0 0x3F000000).1 = none := by decide +kernel
def draw9 (s : State) : State := { s with rpl := { s.rpl with jobs := [{ asker := .entry 7 0, packet := smp9.packet, total := some 0x40400000, draws := [{ shard := 0, target := 0x40000000 }, { shard := 0, target := 0 }] }] } }
theorem test_descent : after (.rplDescent 7 0) (draw9 (tree9b smp9)) (fun t => (t.jobOfEntry 7).map (fun j => j.draws.map fun r => (r.done, r.slot, r.prio)) = some [(true, 3, 0x40000000), (false, 0, 0)]) = true := by decide +kernel
theorem test_descent_lost : after (.rplDescent 7 1) (draw9 (st9 smp9 0)) (fun t => t.fld F.RPL_EVENT_DRAW_LOST = 1 && (t.jobOfEntry 7).map (fun j => j.draws.map (·.lost)) = some [false, true]) = true := by decide +kernel
def upd9 : Entry := ent5 0x86 [(8, tree9 + 2 ^ 21), (16, 2), (20, 2)]
def upd9s : State := (st9 upd9 0).pokeBytes (tree9 + 2 ^ 21) (toLe 32 (15 + 0x3F800000 * 2 ^ 64 + 0xBF800000 * 2 ^ 192))
def upd9u : State := (upd9s.prepareRanges 7 (rplLists rd9 upd9.packet) []).1
def upd9v : State := (upd9u.readRanges (rplLists rd9 upd9.packet)).1
theorem test_rpl_update : upd9s.runnableStore 7 0x86 = some upd9 ∧ upd9.part = false ∧ (upd9s.prepareRanges 7 (rplLists rd9 upd9.packet) []).2 = false ∧
    (upd9u.readRanges (rplLists rd9 upd9.packet)).2 = none ∧ upd9v.width = 1 ∧ upd9v.shardHere 0 = true ∧ upd9v.rplCapacity rd9 = 16 ∧ upd9v.rack.nextItem = 0 ∧
    after (.rplUpdate 7) upd9s (fun t => t.shardQueue 2 0 = [{ leaf := 15, value := 0x3F800000, asker := .entry 7 0 }, { leaf := 0, value := 0, asker := .entry 7 0 }]) = true := by decide +kernel

/-! ### KV page pools -/

/-- Tokens of 64 bytes, 1,024 to a page; lists of up to 8 pages; 4 frames, 4 spill slots, 8 records (R345). -/
def kd9 : List Byte := toLe 64 (2 + 6 * 256 + 7 * 256 ^ 2 + 4 * 256 ^ 4 + 4 * 256 ^ 8 + 8 * 256 ^ 12 + 2 ^ 35 * 256 ^ 16 + 2 ^ 36 * 256 ^ 24 + 2 ^ 37 * 256 ^ 32)
def pool9 (ps : List (Nat × KvpPage)) (rs : List (Nat × SeqRec)) : KvpPool := { desc := kd9, comp := 9, pages := ⟨ps⟩, recs := ⟨rs⟩ }
def kv9 (e : Entry) (ps : List (Nat × KvpPage)) (rs : List (Nat × SeqRec)) : State := (run5 e).setKvpPool 2 (pool9 ps rs)
def kdef9 : Entry := { ent5 0x90 [(20, 2)] with block := kd9 }
theorem test_kvp_define : (run5 kdef9).runnable 7 0x90 = some kdef9 ∧ (run5 kdef9).kvpAnchor 2 = (run5 kdef9).sys.member ∧
    after (.kvpDefine 7) (run5 kdef9) (fun t => t.kvpPool 2 = some { desc := kd9, comp := 0 } && (t.entry? 7).map (fun x => (x.started, x.out.countDone)) = some (true, 1)) = true := by decide +kernel
/-- Sequence 3 in record 3: 1,028 tokens in pages 0 and 1. -/
def seq9 : SeqRec := { id := 3, state := .owned, length := 1028, list := [0, 1] }
def pages9 (n : Nat) : List (Nat × KvpPage) := [(0, ⟨false, 0, 1, 0, 0⟩), (1, ⟨false, 1, n, 0, 0⟩)]
def one9 (e : Entry) (n : Nat) (r : SeqRec) : State := kv9 e (pages9 n) [(3, r)]
theorem test_kvp_drop : after (.kvpDrop 7) (kv9 (ent5 0x91 [(20, 2)]) [] []) (fun t => t.kvpPool 2 = none && (t.entry? 7).map (·.out.countDone) = some 1) = true := by decide +kernel
theorem test_kvp_drop_open : after (.kvpDrop 7) (one9 (ent5 0x91 [(20, 2)]) 1 seq9) (fun t => (t.kvpPool 2).isSome && (t.entry? 7).map (fun x => (x.out.status, x.out.subcode)) = some (St.badParam, 0x4A)) = true := by decide +kernel
theorem test_kvp_drop_asked : (kv9 { ent5 0x91 [(20, 2)] with stage := 1 } [] []).kvpBusy 7 2 { ent5 0x91 [(20, 2)] with stage := 1 } = false ∧
    after (.kvpDrop 7) (kv9 { ent5 0x91 [(20, 2)] with stage := 1 } [] []) (fun t => t.kvpPool 2 = none) = true := by decide +kernel
/-- Member 5 serves slot 1. -/
def two9 (s : State) : State := { s with rack := { s.rack with map := { epoch := 1, width := 2, server := [0, 5], state := [.active, .absent, .absent, .absent, .absent, .active] } } }
theorem test_kvp_drop_asks : (two9 (kv9 (ent5 0x91 [(20, 2)]) [] [])).members = [0, 5] ∧ (two9 (kv9 (ent5 0x91 [(20, 2)]) [] [])).kvpAnchor 2 = 0 ∧
    after (.kvpDrop 7) (two9 (kv9 (ent5 0x91 [(20, 2)]) [] [])) (fun t => (t.kvpPool 2).isSome && (t.entry? 7).map (fun y => (y.stage, y.started)) = some (1, false)) = true := by decide +kernel
theorem test_kvp_query : after (.kvpQuery 7) (one9 (ent5 0x92 [(20, 2)]) 1 seq9) (fun t => (t.entry? 7).map (fun x => (x.out.result0, x.out.result1, x.out.countDone, x.out.countAux)) = some (2 + 4 * 2 ^ 32, 1, 1, 0)) = true := by decide +kernel
def open9 (q n : Nat) : Entry := ent5 0x94 [(8, q), (12, n), (20, 2), (22, 64)]
theorem test_kvp_open : after (.kvpOpen 7) (one9 (open9 0xFFFFFFFF 0) 1 seq9) (fun t => (t.kvpPool 2).map (fun x => x.recs.find? 0) = some (some { id := 0, state := .owned }) && (t.entry? 7).map (fun x => (x.phase, x.out.result0)) = some (.ended, 0)) = true := by decide +kernel
theorem test_kvp_holds (e : Entry) (n : Nat) (h : kpPool e.packet = 2) (h' : kpSeq e.packet = 3) (h2 : kpHintValid e.packet = false) :
    (one9 e n seq9).HoldsSeq e.packet (pool9 (pages9 n) [(3, seq9)]) 3 seq9 :=
  ⟨by rw [h]; rfl, by rw [h']; rfl, rfl, rfl, by rw [h']; rfl, h2⟩
theorem test_kvp_open_full : after (.kvpOpen 7) (kv9 (open9 0xFFFFFFFF 0) [] ((List.range 8).map fun k => (k, { seq9 with id := k }))) (fun t => (t.entry? 7).map (fun x => (x.out.status, x.out.subcode)) = some (St.noSpace, 0x52)) = true := by decide +kernel
theorem test_kvp_open_child : after (.kvpOpen 7) (one9 (open9 3 1024) 1 seq9) (fun t => (t.kvpPool 2).map (fun x => x.recs.find? 0) = some (some { id := 0, state := .owned, length := 1024, list := [0] }) &&
      (t.kvpPage 2 0).map (·.refs) = some 2 && (t.kvpPage 2 1).map (·.refs) = some 1 && (t.entry? 7).map (·.out.countDone) = some 1) = true := by decide +kernel
theorem test_kvp_open_long : after (.kvpOpen 7) (one9 (open9 3 1029) 1 seq9) (fun t => (t.entry? 7).map (fun x => (x.out.status, x.out.subcode)) = some (St.badParam, 0x43)) = true := by decide +kernel
def app9 (n : Nat) : Entry := ent5 0x95 [(8, 3), (12, n), (20, 2), (24, tree9 + 2 ^ 34)]
def src9 (s : State) : State := (s.pokeBytes (tree9 + 2 ^ 34) (toLe 8 99)).pokeBytes (tree9 + 65536 + 8) (toLe 8 55)
theorem test_kvp_append : after (.kvpAppend 7) (src9 (one9 (app9 1) 1 seq9)) (fun t => t.bytes (tree9 + 65536 + 4 * 64) 8 = toLe 8 99 && t.bytes (tree9 + 65536 + 8) 8 = toLe 8 55 &&
      (t.kvpPool 2).map (fun x => (x.recs.find? 3).map (·.length)) = some (some 1029) && (t.entry? 7).map (fun y => (y.out.result0, y.out.countDone, y.out.countAux)) = some (1029, 0, 0)) = true := by decide +kernel
theorem test_kvp_append_free : (one9 (app9 1) 1 seq9).MayWrite 7 [(tree9 + 65536 + 4 * 64, 64)] := ⟨⟨by decide +kernel, by decide +kernel, by decide +kernel, fun _ => rfl⟩, noJournal _ (by decide +kernel) _, by decide, fun _ _ => noBuffer _ (by decide +kernel) _, fun _ _ => rfl⟩
theorem test_kvp_append_new : (pool9 (pages9 1) [(3, { seq9 with length := 2048 })]).lowestFree 0 false = some 2 ∧
    after (.kvpAppend 7) (src9 (one9 (app9 1) 1 { seq9 with length := 2048 })) (fun t => t.bytes (tree9 + 131072) 8 = toLe 8 99 &&
      (t.kvpPool 2).map (fun x => (x.recs.find? 3).map (·.list)) = some (some [0, 1, 2]) && (t.entry? 7).map (·.out.countDone) = some 1) = true := by decide +kernel
theorem test_kvp_append_shared : (one9 (app9 1) 2 seq9).runnableStore 7 0x95 = some (app9 1) ∧ (pool9 (pages9 2) [(3, seq9)]).lowestFree 0 false = some 2 ∧
    (pool9 (pages9 2) [(3, seq9)]).pages.find? 1 = some ⟨false, 1, 2, 0, 0⟩ ∧ (pool9 (pages9 2) [(3, seq9)]).pages.has 2 = false ∧
    ([1].all fun h => (one9 (app9 1) 2 seq9).pageHere h) = true := by decide +kernel
theorem test_kvp_append_shared_free : (one9 (app9 1) 2 seq9).MayWrite 7 [(tree9 + 131072, 65536), (tree9 + 131072 + 256, 64)] := ⟨⟨by decide +kernel, by decide +kernel, by decide +kernel, fun _ => rfl⟩, noJournal _ (by decide +kernel) _, by decide, fun _ _ => noBuffer _ (by decide +kernel) _, fun _ _ => rfl⟩
theorem test_kvp_append_long : after (.kvpAppend 7) (one9 (app9 7165) 1 seq9) (fun t => (t.entry? 7).map (fun x => (x.out.status, x.out.subcode)) = some (St.noSpace, 0x51)) = true := by decide +kernel
def lock9 : Entry := { ent5 0x96 [(8, 3), (20, 2)] with slot := some (0, 1) }
theorem test_kvp_lock : (one9 lock9 2 seq9).resumable 7 0x96 = some lock9 ∧ ([0, 1].all fun h => (one9 lock9 2 seq9).pageHere h) = true ∧
    after (.kvpLock 7) (one9 lock9 2 seq9) (fun t => (t.entry? 7).map (fun x => (x.pend.take 12, (x.pend.drop 64).take 16)) = some (toLe 4 1028 ++ toLe 4 2 ++ toLe 4 64, toLe 8 tree9 ++ toLe 8 (tree9 + 65536 + 2 ^ 56)) &&
      (t.kvpPool 2).map (fun x => (x.recs.find? 3).map (fun r => (r.locked, r.reservedFrom))) = some (some (true, 2)) && (t.entry? 7).map (fun x => (x.out.result0, x.out.countDone)) = some (1028, 2)) = true := by decide +kernel
def locked9 : SeqRec := { seq9 with locked := true, reserve := 13, reservedFrom := 1 }
def unl9 (n : Nat) : Entry := ent5 0x97 [(8, 3), (12, n), (20, 2)]
/-- 12 tokens committed stay within page 1; a list cut at page 0 frees page 1 (R353). -/
theorem test_kvp_unlock : after (.kvpUnlock 7) (one9 (unl9 12) 1 locked9) (fun t => (t.kvpPool 2).map (fun x => (x.recs.find? 3).map (fun r => (r.length, r.list, r.locked))) = some (some (1040, [0, 1], false))) = true := by decide +kernel
theorem test_kvp_unlock_frees : after (.kvpUnlock 7) (one9 (unl9 0) 1 { locked9 with length := 1024 }) (fun t => t.kvpPage 2 1 = none && (t.entry? 7).map (fun x => (x.out.result0, x.out.countDone)) = some (1024, 1)) = true := by decide +kernel
theorem test_kvp_unlock_not : after (.kvpUnlock 7) (one9 (unl9 0) 1 seq9) (fun t => (t.entry? 7).map (fun x => (x.out.status, x.out.subcode)) = some (St.badParam, 0x49)) = true ∧
    after (.kvpUnlock 7) (one9 (unl9 14) 1 locked9) (fun t => (t.entry? 7).map (fun x => (x.out.status, x.out.subcode)) = some (St.badParam, 0x43)) = true := by decide +kernel
theorem test_kvp_expiry : after (.kvpLockExpiry 2 3) (one9 (unl9 0) 1 locked9) (fun t => t.fld F.KVP_EVENT_LOCK_EXPIRED = 1 && (t.seqRec 2 3).map (fun x => (x.2.length, x.2.locked)) = some (1028, false)) = true := by decide +kernel
theorem test_kvp_close : after (.kvpClose 7) (one9 (ent5 0x98 [(8, 3), (20, 2)]) 2 seq9) (fun t => t.seqRec 2 3 = none && t.kvpPage 2 0 = none && (t.kvpPage 2 1).map (·.refs) = some 1 &&
      (t.entry? 7).map (fun x => (x.out.countDone, x.out.countAux)) = some (1, 1)) = true := by decide +kernel
theorem test_kvp_close_locked : after (.kvpClose 7) (one9 (ent5 0x98 [(8, 3), (20, 2)]) 2 locked9) (fun t => (t.entry? 7).map (fun x => (x.out.status, x.out.subcode)) = some (St.badParam, 0x48)) = true := by decide +kernel
def hand9 (m : Nat) : Entry := ent5 0x99 [(8, 3), (20, 2), (22, m)]
def leaving9 (n : Nat) : SeqRec := { seq9 with state := .leaving, token := 2, target := 5, offers := n, handover := some (.entry 7 0) }
theorem test_kvp_handover : after (.kvpHandover 7) (one9 (hand9 5) 1 seq9) (fun t => (t.seqRec 2 3).map (·.2) = some (leaving9 1) && t.out = [.toMember 5 (offerMsg 1 2 (leaving9 1))]) = true := by decide +kernel
theorem test_kvp_handover_self : after (.kvpHandover 7) (one9 (hand9 0) 1 seq9) (fun t => (t.entry? 7).map (fun x => (x.out.status, x.out.subcode)) = some (St.badParam, 0x48)) = true := by decide +kernel
theorem test_kvp_offer : after (.kvpOffer 4 2 9 3 16 [0]) (one9 kdef9 1 seq9) (fun t => (t.seqRec 2 9).map (fun x => (x.1, x.2.token, x.2.length, x.2.list)) = some (0, 3, 16, [0])) = true ∧
    after (.kvpOffer 4 2 3 1 16 [0]) (one9 kdef9 1 seq9) (fun t => (t.seqRec 2 3).map (·.2) = some seq9 && t.out = [.toMember 4 (offerMsg 3 2 { id := 3, state := .owned, token := 1 })]) = true ∧
    after (.kvpOffer 4 2 3 2 16 [0]) (one9 kdef9 1 seq9) (fun t => (t.seqRec 2 3).map (fun x => (x.2.token, x.2.list)) = some (2, [0])) = true ∧
    after (.kvpOffer 4 2 3 1 16 [0]) (one9 kdef9 1 { seq9 with installed := some (4, 1) }) (fun t => t.out = [.toMember 4 (offerMsg 2 2 { id := 3, state := .owned, token := 1 })]) = true := by decide +kernel
def wait9 (n : Nat) : State := one9 { hand9 5 with started := true, items := [{ home := 0, id := 0, classes := 16 }] } 1 (leaving9 n)
theorem test_kvp_accept : (wait9 1).leavingTo 2 3 2 5 = some (3, leaving9 1) ∧ after (.kvpOfferAccept 5 2 3 2) (wait9 1) (fun t => (t.seqRec 2 3).map (fun x => (x.2.state == .gone, x.2.target)) = some (true, 5) &&
      (t.entry? 7).map (fun y => (y.phase, y.out.status, y.out.result0, y.out.result1, y.out.countDone)) = some (.ended, 0, 2, 5, 1)) = true := by decide +kernel
theorem test_kvp_decline : after (.kvpOfferDecline 5 2 3 2) (wait9 1) (fun t => (t.seqRec 2 3).map (·.2) = some seq9 && (t.entry? 7).map (fun y => (y.phase, y.out.status, y.out.subcode)) = some (.ended, St.staleVersion, 0x43)) = true := by decide +kernel
theorem test_kvp_accept_none : (wait9 1).leavingTo 2 3 1 5 = none := by decide +kernel
theorem test_kvp_offer_again : (wait9 3).fld F.KVP_HANDOVER_CFG_RETRIES = 3 ∧ after (.kvpOfferTimeout 2 3) (wait9 3) (fun t => (t.seqRec 2 3).map (·.2.offers) = some 4 && t.out.length = 1) = true ∧
    after (.kvpOfferTimeout 2 3) (wait9 4) (fun t => (t.seqRec 2 3).map (fun x => x.2.state == .gone) = some true && (t.entry? 7).map (fun y => (y.phase, y.out.status, y.out.subcode)) = some (.ended, St.timeout, 0x40)) = true := by decide +kernel
def gone9 : State := one9 kdef9 1 { seq9 with state := .gone, token := 4, target := 5 }
theorem test_kvp_resolve : ((gone9.resolve 2 3 ⟨5, false, 6, 4000, [0, 1, 2]⟩).1.seqRec 2 3).map (fun x => (x.2.token, x.2.length, x.2.list)) = some (7, 2048, [0, 1]) ∧
    ((gone9.resolve 2 3 ⟨5, false, 4, 40, [0]⟩).1.seqRec 2 3).map (fun x => (x.2.state == .owned, x.2.token, x.2.list)) = some (true, 5, [0, 1]) ∧
    ((gone9.resolve 2 3 ⟨5, false, 2, 40, [0]⟩).1.seqRec 2 3).map (fun x => (x.2.state == .gone, x.2.token)) = some (true, 5) := by decide +kernel


/-! ### Gates and fences (12) -/

/-- Block 0 of slot 0 is VALID; gate 5 holds 7; a wait for 9 is held for entry 8 (R440, R449). -/
def gat10 (l : List (Nat × Nat)) (op : Nat) : State :=
  let s : State := run5 (ent5 op l)
  let s := s.setEntry 8 { ent5 0xA1 [(8, 5), (16, 9)] with started := true }
  { s with frame := 30, gate := { s.gate with
      vals := ⟨[(5, 7)]⟩, blocks := ⟨[(0, { valid := true })]⟩, waiters := [⟨5, .ge, 9, 0, 8, 10⟩] } }
theorem test_gate_signal : (gat10 [(8, 5), (16, 3)] 0xA0).runnable 7 0xA0 = some (ent5 0xA0 [(8, 5), (16, 3)]) ∧ (gat10 [(8, 5), (16, 3)] 0xA0).gateFails 5 0 = none ∧
    (gat10 [(8, 5), (16, 3)] 0xA0).serverOf (gateSlot 5) = 0 ∧ after (.gateSignal 7) (gat10 [(8, 5), (16, 3)] 0xA0) (fun t => t.gateVal 5 = 10 && t.gate.waiters = [] &&
      (t.entry? 8).map (fun y => (y.phase, y.out.result0, y.out.countDone)) = some (.ended, 10, 64) &&
      (t.entry? 7).map (fun y => (y.out.result0, y.out.countDone)) = some (7 + 10 * 2 ^ 32, 1)) = true := by decide +kernel
theorem test_gate_signal_set : after (.gateSignal 7) (gat10 [(8, 5), (12, 1), (16, 3)] 0xA0) (fun t => t.gateVal 5 = 3 && t.gate.waiters.length = 1) = true := by decide +kernel
theorem test_gate_wait : WaitMode.ofCode 0 = some .ge ∧ after (.gateWait 7) (gat10 [(8, 5), (16, 7)] 0xA1) (fun t => (t.entry? 7).map (fun y => (y.phase, y.out.result0, y.out.countAux)) = some (.ended, 7, 1)) = true ∧
    after (.gateWait 7) (gat10 [(8, 5), (16, 8)] 0xA1) (fun t => t.gate.waiters = [⟨5, .ge, 9, 0, 8, 10⟩, ⟨5, .ge, 8, 0, 7, 30⟩] && (t.entry? 7).map (·.phase) = some .accepted) = true := by decide +kernel
theorem test_gate_modes : WaitMode.ge.satisfied 3 (2 ^ 32 - 2) = true ∧ WaitMode.ge.satisfied (2 ^ 31) 0 = false ∧ WaitMode.eq.satisfied 5 5 = true ∧ WaitMode.ne.satisfied 5 5 = false := by decide
/-- The whole of block 0, 256 gates, LOST before (R452, R458). -/
def lost10 : State := let s := gat10 [(8, 0), (16, 20), (20, 256)] 0xA2; { s with gate := { s.gate with blocks := ⟨[(0, { valid := true, lost := true })]⟩ } }
theorem test_gate_reset : lost10.gateFails 5 0 = some (St.fenced, 0x40) ∧ after (.gateReset 7) lost10 (fun t => t.gateVal 5 = 20 && t.gateVal 255 = 20 && t.gateVal 256 = 0 && !(t.gateBlock 0).lost &&
      (t.entry? 7).map (fun y => (y.out.countDone, y.out.countAux)) = some (256, 1)) = true := by decide +kernel
theorem test_gate_read : after (.gateRead 7) (gat10 [(8, 5)] 0xA3) (fun t => (t.entry? 7).map (fun y => (y.phase, y.out.result0)) = some (.ended, 7)) = true := by decide +kernel
theorem test_gate_denied : (gat10 [(8, 300)] 0xA3).gateFails 300 0 = some (St.xltDenied, 0x65) ∧ after (.gateRead 7) (gat10 [(8, 300)] 0xA3) (fun t => (t.entry? 7).map (fun y => (y.phase, y.out.status, y.out.subcode)) = some (.ended, St.xltDenied, 0x65)) = true := by decide +kernel
theorem test_gate_watchdog : (gat10 [] 0).NoCoreFor 8 ∧ after (.gateWatchdogExpiry 8) (gat10 [] 0) (fun t => t.gate.waiters = [] && t.fld F.GATE_WD_LAST_GATE = 5 && t.fld F.GATE_EVENT_WATCHDOG = 1 &&
      (t.entry? 8).map (fun y => (y.phase, y.out.status, y.out.subcode)) = some (.ended, St.timeout, 0x40)) = true := by
  exact ⟨fun c h => absurd h List.not_mem_nil, by decide +kernel⟩
theorem test_gate_blk_sel : (gat10 [] 0).mayAdminister 0 = true ∧ after (.gateBlkSelWrite 0 0) (gat10 [] 0) (fun t => t.fld F.GATE_BLK_SEL = 0 && t.fld F.GATE_BLK_CFG_VALID = 1) = true := by decide +kernel
theorem test_gate_blk_apply : after (.gateBlkApply 0) (gat10 [] 0) (fun t => t.gateVal 5 = 0 && t.gate.waiters = [] && !(t.gateBlock 0).valid && t.fld F.GATE_EVENT_CLEARED = 1 &&
      (t.entry? 8).map (fun y => (y.phase, y.out.status, y.out.subcode)) = some (.ended, St.revoked, 0x65)) = true ∧
    after (.gateBlkApply 0) (((gat10 [] 0).setFld F.GATE_BLK_SEL 1).setFld F.GATE_BLK_CFG_VALID 1) (fun t => (t.gateBlock 1).valid && t.gateVal 5 = 7) = true ∧
    after (.gateBlkApply 0) (((gat10 [] 0).setFld F.GATE_BLK_CFG_OWNER_CTX 5).setFld F.GATE_BLK_CFG_VALID 1) (fun t => (t.gateBlock 0).ownerCtx = 5 && t.gateVal 5 = 7 && t.gate.waiters.length = 1) = true := by decide +kernel
def dbg10 (d : DebugLevel) : State := let s := ((gat10 [] 0).setFld F.GATE_DBG_GATE 5).setFld F.GATE_DBG_VALUE 12; { s with sys := { s.sys with debug := d } }
theorem test_gate_dbg : after (.gateDbgRead 0) (dbg10 .quiet) (fun t => t.fld F.GATE_DBG_VALUE = 7 && t.fld F.GATE_DBG_STATUS_DONE = 1) = true ∧
    after (.gateDbgSet 64) (dbg10 .invasive) (fun t => t.gateVal 5 = 12 && t.fld F.GATE_EVENT_HAND_SET = 1) = true ∧
    after (.gateDbgSet 64) (dbg10 .quiet) (fun t => t.gateVal 5 = 7 && t.fld F.GATE_DBG_STATUS_REFUSED = 1) = true := by decide +kernel
/-- Member 5 is reached through port 2; source 3 has sent it 4 (R460). -/
def far10 (s : State) : State :=
  let s := s.setPort 2 { s.port 2 with state := .active }
  { s with hxl := { s.hxl with routes := ⟨[(5, { ports := 4 })]⟩ }, gate := { s.gate with sent := ⟨[(128 * 3 + 5, 4)]⟩ } }
def fen10 (l : List (Nat × Nat)) : State := gat10 l 0xA8
theorem test_fence : (fen10 []).runnable 7 0xA8 = some (ent5 0xA8 []) ∧ after (.fence 7) (fen10 []) (fun t => t.gate.fences = [] && (t.entry? 7).map (fun y => (y.phase, y.out.countDone)) = some (.ended, 0)) = true ∧
    after (.fence 7) (fen10 [(8, 5), (12, 4), (16, 6)]) (fun t => t.gateVal 5 = 13 && (t.entry? 7).map (fun y => (y.phase, y.out.result0)) = some (.ended, 13)) = true := by decide +kernel
theorem test_fence_waits : (far10 (fen10 [])).snapshot 3 5 = 4 ∧ after (.fence 7) (far10 (fen10 [])) (fun t => t.gate.fences = [⟨7, 0, 3, [(5, 4)], [], 0⟩] &&
      t.hxl.outbox.map (·.msg) = [drainMsg 0 0 0 5 3 0 4] && (t.entry? 7).map (·.phase) = some .accepted) = true := by decide +kernel
def held10 (l : List (Nat × Nat)) : State := let s := far10 (fen10 []); { s with gate := { s.gate with fences := [⟨7, 6, 3, l, [2], 1⟩] } }
theorem test_fence_resend : (held10 [(5, 4)]).memberState 5 ≠ .fenced ∧ (held10 [(5, 4)]).pickPort ((held10 [(5, 4)]).route 5).ports 0 5 0 = some 2 ∧
    after (.fenceProbeResend 7 5) (held10 [(5, 4)]) (fun t => t.hxl.outbox.map (·.msg) = [drainMsg 0 6 0 5 3 0 4] && t.gate.fences.length = 1) = true := by decide +kernel
def fenced10 : State := let s := held10 [(5, 4)]; { s with rack := { s.rack with map := { s.rack.map with state := [.active, .absent, .absent, .absent, .absent, .fenced] } } }
theorem test_fence_promotion : fenced10.memberState 5 = .fenced ∧ after (.fencePromotionTimeout 7 5) fenced10 (fun t => t.gate.fences = [] &&
      (t.entry? 7).map (fun y => (y.phase, y.out.status, y.out.subcode, y.out.countDone)) = some (.ended, St.fenced, 0x41, 1)) = true := by decide +kernel
theorem test_drain_probe : ((far10 (fen10 [])).port 0).act.kind ≠ 1 ∧ drTarget (drainMsg 0 6 5 0 3 0 4) = 0 ∧ drOrigin (drainMsg 0 6 5 0 3 0 4) = 5 ∧
    after (.drainProbe 0 (drainMsg 0 6 5 0 3 0 4)) (far10 (fen10 [])) (fun t => t.gate.probes = [⟨5, 3, 6, 4⟩] && t.hxl.outbox.length = 0) = true ∧
    after (.drainReroute 0 (drainMsg 2 6 5 0 3 0 0)) (far10 (fen10 [])) (fun t => t.gate.probes = [] && t.hxl.outbox.map (·.msg) = [drainMsg 1 6 5 0 3 0 0]) = true ∧
    after (.drainProbe 0 (drainMsg 0 6 9 5 3 0 4)) (far10 (fen10 [])) (fun t => t.hxl.outbox.map (·.dst) = [5]) = true := by decide +kernel
theorem test_drain_ack : drOrigin (drainMsg 1 6 0 5 3 0 4) = 0 ∧ after (.drainAck 2 (drainMsg 1 6 0 5 3 0 4)) (held10 [(5, 4)]) (fun t => t.gate.fences = [] && t.gate.ackedCount.getD (128 * 3 + 5) 0 = 4 &&
      (t.entry? 7).map (fun y => (y.phase, y.out.countDone, y.out.countAux)) = some (.ended, 2, 1)) = true ∧
    after (.drainAck 2 (drainMsg 1 6 0 5 3 0 4)) (held10 []) (fun t => t.fld F.GATE_COUNT_DUP_ACK = 1 && t.gate.fences.length = 1) = true := by decide +kernel
def due10 (n : Nat) : State := let s := far10 (fen10 []); { s with gate := { s.gate with probes := [⟨5, 3, 6, 4⟩], ended := ⟨[(144 * 5 + 3, n)]⟩ } }
theorem test_drain_due : after (.drainAnswerDue 5 3 6) (due10 4) (fun t => t.gate.probes = [] && t.hxl.outbox.map (·.msg) = [drainMsg 1 6 5 0 3 0 4]) = true ∧
    (due10 3).endedReached 5 3 4 = false ∧ after (.drainAnswerDue 5 3 6) (due10 3) (fun t => t = due10 3) = true := by decide +kernel


/-! ### Coherence (11) -/

/-- Endpoint 5 (ID 0x205) sits at port 2, endpoint 6 at port 3; port 2's context 9 may read, write and do atomics in slab 16. -/
def coh11 : State :=
  let s := run5 (ent5 0 [])
  let s := (s.setPort 2 { s.port 2 with state := .active, act := { kind := 1 }, partnerId := 0x205 })
  let s := (s.setPort 3 { s.port 3 with state := .active, act := { kind := 1 }, partnerId := 0x206 })
  let s := { s with hxl := { s.hxl with epRoutes := ⟨[(5, { member1 := 0, port1 := 2, valid1 := true }), (6, { member1 := 0, port1 := 3, valid1 := true })]⟩ } }
  let s := s.setCtx 9 { valid := true, boundSrc := 130, comp := 9, segs := ⟨[(0, { state := .valid, base := 16, count := 1, permR := true, permW := true, permA := true })]⟩ }
  s.setRegAt 0 0x300108 (2 ^ 31 + 9)
def a11 : Nat := 16 * 2 ^ 30 + 256
/-- A request of type `t` with tag 7 from endpoint 5 for `a11` with more fields (R388). -/
def m11 (t n : Nat) (l : List (Nat × Nat)) : List Byte := toLe n (((0, t) :: (2, 7) :: (4, 0x205) :: (8, a11) :: l).map fun x => x.2 * 256 ^ x.1).sum
theorem alone11 (s : State) (h : s.width = 1) (hm : s.rack.map.server = []) (hh : ∀ a, s.isHome a = true)
    (hc : s.rack.assign = none ∧ s.rack.away.cells = [] ∧ s.rack.held = [] ∧ s.rack.checks = []) : s.Alone := ⟨hh, fun slot => by
  have hs : ∀ k, s.serverOf k = s.sys.member := fun k => by unfold State.serverOf; rw [hm]; rfl
  unfold State.partnerOf; rw [h]; simp [hs], hc⟩
theorem test_raw_alone : coh11.Alone := alone11 _ (by decide +kernel) rfl (fun _ => rfl) (by decide +kernel)
theorem test_raw_serves : coh11.Serves (a11 / 128) := ⟨test_raw_alone, by decide +kernel, by decide +kernel, by decide +kernel⟩
theorem test_raw_sound : coh11.Sound ∧ coh11.KeysStand := ⟨fun g => by
  have h : coh11.gran g = {} := rfl
  rw [h]; decide, fun _ => rfl⟩
theorem test_raw_arrives : RawArrives coh11 .rd 2 (m11 1 16 []) a11 5 ∧ RawArrives coh11 .rdOwn 2 (m11 2 16 []) a11 5 ∧
    RawArrives coh11 .wr 2 (m11 3 144 []) a11 5 ∧ RawArrives coh11 .wrp 2 (m11 4 160 []) a11 5 ∧ RawArrives coh11 .atom 2 (m11 5 40 []) a11 5 := by
  refine ⟨⟨?_, ?_, ?_, ?_, ?_, ?_, test_raw_serves⟩, ⟨?_, ?_, ?_, ?_, ?_, ?_, test_raw_serves⟩, ⟨?_, ?_, ?_, ?_, ?_, ?_, test_raw_serves⟩,
    ⟨?_, ?_, ?_, ?_, ?_, ?_, test_raw_serves⟩, ⟨?_, ?_, ?_, ?_, ?_, ?_, test_raw_serves⟩⟩ <;> decide +kernel
def st11 : State := coh11.pokeBytes a11 (toLe 128 (1000 + 5 * 256 ^ 127))
theorem test_rd : after (.rd 2 (m11 1 16 [])) st11 (fun t => (t.sfEntry (a11 / 128)).map (fun e => (e.owned, e.coarse, e.holders)) = some (false, false, [5]) &&
    t.hxl.outbox.map (·.msg) = [respMsg 0x0A 0 7 0x205 0 0 a11 0 (toLe 128 (1000 + 5 * 256 ^ 127))] && t.coh.txns = []) = true ∧
  after (.rd 2 (m11 1 16 [(1, 32)])) st11 (fun t => t.sfEntry (a11 / 128) = none) = true := by decide +kernel
theorem test_rd_own : after (.rdOwn 2 (m11 2 16 [])) st11 (fun t => (t.sfEntry (a11 / 128)).map (fun e => (e.owned, e.holders, e.hold)) = some (true, [5], true)) = true := by decide +kernel
theorem test_wr : after (.wr 2 (m11 3 144 [(16, 77), (143, 3)])) st11 (fun t => t.bytes a11 128 = toLe 128 (77 + 3 * 256 ^ 127) && t.byte (a11 + 128) = 0 &&
    t.hxl.outbox.map (·.msg) = [respMsg 0x0B 0 7 0x205 0 0 a11 0 []]) = true := by decide +kernel
theorem test_wrp : after (.wrp 2 (m11 4 160 [(16, 2), (32, 9), (33, 8)])) st11 (fun t => t.bytes a11 4 = toLe 4 (1000 % 256 + 8 * 256)) = true := by decide +kernel
theorem test_atom : after (.atom 2 (m11 5 40 [(24, 4)])) st11 (fun t => t.bytes a11 4 = toLe 4 1004 && t.byte (a11 + 127) = 5 &&
    t.hxl.outbox.map (·.msg) = [respMsg 0x0C 0 7 0x205 0 0 a11 0 (toLe 8 1000)]) = true := by decide +kernel
/-- The granule stands in the filter with an owner. -/
def own11 (i : Nat) (hold : Bool) : State := { coh11 with coh := { coh11.coh with sf := ⟨[(a11 / 128, ⟨true, false, [i], 0, 0, 0, hold⟩)]⟩ } }
theorem test_wb : after (.wb 2 (m11 6 144 [(16, 77)])) (own11 5 true) (fun t => t.bytes a11 128 = toLe 128 77 && t.sfEntry (a11 / 128) = none &&
    t.hxl.outbox.map (·.msg) = [respMsg 0x0B 0 7 0x205 0 0 a11 0 []]) = true := by decide +kernel
theorem test_wb_arrives : RawArrives (own11 5 true) .wb 2 (m11 6 144 [(16, 77)]) a11 5 := by
  refine ⟨?_, ?_, ?_, ?_, ?_, ?_, alone11 _ ?_ rfl (fun _ => rfl) ?_, ?_, ?_, ?_⟩ <;> decide +kernel
theorem test_recall : ((own11 6 false).agent 6).state = .live ∧ (own11 6 false).attached 6 = true ∧ after (.rd 2 (m11 1 16 [])) (own11 6 false) (fun t =>
    t.coh.invs = [⟨a11 / 128, 6, true, false, false, false⟩] && t.coh.txns.map (·.answered) = [false] && t.hxl.outbox.map (·.port) = [3]) = true := by decide +kernel
theorem test_hold : after (.rd 2 (m11 1 16 [])) (own11 6 true) (fun t => t.coh.queue.length = 1 && t.coh.txns = [] && t.hxl.outbox = []) = true := by decide +kernel
theorem test_raw_refused : rawAligned .rd (m11 1 16 [(8, 1)]) = false ∧ after (.rd 2 (m11 1 16 [(8, 1)])) st11 (fun t => t.hxl.outbox.map (·.msg) = [respMsg 0x0B 0 7 0x205 St.badParam 0xC1 (a11 + 1) 0 []] &&
    t.fld F.HXL_EVENT_MSG_BAD = 1) = true := by decide +kernel
/-- A command's write waits for endpoint 6's copy. -/
def inv11 : State := let s := own11 6 false
  { s with coh := { s.coh with invs := [⟨a11 / 128, 6, true, false, false, false⟩], txns := [⟨⟨3, .cmdWrite 7, a11 / 128, a11, 0, none, 50, 0, 0, 0, []⟩, false⟩] } }
def ans11 (t n : Nat) (l : List (Nat × Nat)) : List Byte := toLe n (((0, t) :: (2, 6) :: (8, a11) :: l).map fun x => x.2 * 256 ^ x.1).sum
theorem test_inv_ack : inv11.senderIndex 3 = some 6 ∧ hdSrc (ans11 8 16 []) = 0 ∧ after (.invAck 3 (ans11 8 16 [])) inv11 (fun t => t.coh.invs = [] && t.coh.txns = [] && t.coh.sf.cells = []) = true ∧
    after (.invData 3 (ans11 9 144 [(16, 55)])) inv11 (fun t => t.bytes a11 128 = toLe 128 55 && t.coh.txns = []) = true ∧
    after (.invAck 3 (ans11 8 16 [])) coh11 (fun t => t.fld F.HXL_EVENT_MSG_BAD = 1) = true := by decide +kernel
theorem test_inv : coh11.indexOfId (hdEpoch (toLe 16 (7 + 0x206 * 256 ^ 6)) % 2 ^ 15) = 6 ∧ after (.inv 1 (toLe 16 (7 + 0x206 * 256 ^ 6))) coh11 (fun t => t.hxl.outbox.map (·.port) = [3]) = true := by decide +kernel
def raw11 : State := { coh11 with xlt := { coh11.xlt with raws := [⟨2, 7, 9, 1, 0, a11, false, []⟩] } }
theorem test_cpl : coh11.indexOfId 0x205 = 5 ∧ after (.cpl 1 (m11 0x0A 16 [])) raw11 (fun t => t.hxl.outbox.map (·.port) = [2] && t.xlt.raws = []) = true ∧
    after (.cplNd 1 (m11 0x0B 16 [])) raw11 (fun t => t.xlt.raws = []) = true ∧ after (.cplVal 1 (m11 0x0C 16 [])) raw11 (fun t => t.xlt.raws = []) = true := by decide +kernel
def pass11 : State := let s := coh11.setPort 4 { coh11.port 4 with state := .active }; { s with hxl := { s.hxl with routes := ⟨[(5, { ports := 16 })]⟩ } }
theorem test_cpl_pass : pass11.pickPort (pass11.route 5).ports 0 5 0 = some 4 ∧ after (.cpl 1 (toLe 16 (0x0A + 5 * 256 ^ 4))) pass11 (fun t => t.hxl.outbox.map (·.port) = [4]) = true := by decide +kernel
def queued11 : State := { coh11 with coh := { coh11.coh with queue := [⟨3, .wr, a11 / 128, a11, 0x205, some 5, 2, 7, 0, 9, toLe 128 44⟩] } }
theorem test_coh_start : after (.cohTransactionStart (a11 / 128)) queued11 (fun t => t.coh.queue = [] && t.bytes a11 128 = toLe 128 44 && t.hxl.outbox.length = 1) = true ∧
    inv11.busy (a11 / 128) = true := by decide +kernel
theorem test_hold_expiry : after (.cohHoldExpiry (a11 / 128)) (own11 6 true) (fun t => t = own11 6 false) = true := by decide +kernel
theorem test_snoop_timeout : after (.snoopTimeout 6 (a11 / 128)) inv11 (fun t => (t.agent 6) = ⟨.dead, true⟩ && t.coh.invs = [] && t.fld F.COH_EVENT_AGENT_DEAD = 1 &&
    (t.gran (a11 / 128)).poison = some .reclaim) = true := by decide +kernel
theorem test_agent_declare : (own11 6 true).mayAdminister 0 = true ∧ after (.cohAgentDeclare 0 6) (own11 6 true) (fun t => t.agent 6 = ⟨.dead, false⟩) = true := by decide +kernel
def dead11 : State := (own11 6 true).setAgent 6 ⟨.dead, false⟩
theorem test_reclaim : after (.reclaimEnd 6) dead11 (fun t => (t.agent 6).state = .reclaimed && t.fld F.COH_EVENT_RECLAIM_DONE = 1 && t.sfEntry (a11 / 128) = none &&
    (t.gran (a11 / 128)).poison = some .reclaim) = true ∧ after (.cohAgentRevive 0 6) (dead11.setAgent 6 ⟨.reclaimed, false⟩) (fun t => (t.agent 6).state = .live) = true := by decide +kernel
theorem test_coh_probe : after (.cohProbe 0) (((own11 6 false).setFld F.COH_PROBE_ADDR_LO_ADDR (a11 % 2 ^ 32 / 128)).setFld F.COH_PROBE_ADDR_HI_ADDR (a11 / 2 ^ 32)) (fun t =>
    t.fld F.COH_PROBE_RESULT_STATE = 2 && t.fld F.COH_PROBE_RESULT_POINTERS = 1 && t.fld F.COH_PROBE_HOLDERS0 = 6) = true := by decide +kernel


/-! ### HXL (10) -/

def prt12 (x : Port) : State := run5 (ent5 0 []) |>.setPort 2 x
def ps12 (x : Port) (c : Instr) (f : Port → Bool) : Bool := after c (prt12 x) (fun t => f (t.port 2))
theorem test_train : ps12 { state := .detect } (.detectComplete 2 true 19) (fun x => x.state = .equalize && x.lanesReversed && x.polarity = 3) = true ∧
    ps12 { state := .detect, attempts := 1 } (.detectTimeout 2) (fun x => x.state = .detect && x.attempts = 2 && x.failCode = 1) = true ∧
    ps12 { state := .lock, attempts := 2 } (.lockTimeout 2) (fun x => x.state = .failed && x.failCode = 3) = true ∧
    ps12 { state := .equalize, attempts := 2 } (.equalizeTimeout 2 false) (fun x => x.state = .failed && x.failCode = 2) = true ∧
    after (.lockTimeout 2) (prt12 { state := .lock, attempts := 2 }) (fun t => t.fld F.HXL_EVENT_PORT_DOWN = 1) = true ∧
    ps12 { state := .equalize } (.equalizeComplete 2) (fun x => x.state = .lock) = true ∧
    ps12 { state := .equalize } (.equalizeTimeout 2 true) (fun x => x.state = .lock) = true ∧
    ps12 { state := .lock, echoCount := 3 } (.blockLockAcquired 2) (fun x => x.state = .param && x.echoCount = 0) = true ∧
    ps12 { state := .retrain } (.blockLockAcquired 2) (fun x => x.relocked) = true := by decide +kernel
/-- A PARAM message of member 3: form 1, kind 0, encryption capable, credits at the minimum (R369). -/
def par12 : List Byte := toLe 64 ([(0, 0x14), (1, 1), (2, 8), (4, 3), (8, 16384), (10, 16384), (12, 1024), (14, 4096), (16, 16384), (18, 1024)].map fun x => x.2 * 256 ^ x.1).sum
theorem test_param : (prt12 { state := .param }).paramFails 2 par12 = 0 ∧ (prt12 { state := .param, act := { kind := 1 } }).paramFails 2 par12 = 4 ∧
    ps12 { state := .param } (.param 2 par12) (fun x => x.paramOk && x.partnerId = 3 && x.credAvail = [16384, 16384, 1024, 4096, 16384, 1024]) = true ∧
    ps12 { state := .param, act := { kind := 1 } } (.param 2 par12) (fun x => x.state = .failed && x.failCode = 4) = true := by decide +kernel
theorem test_echo : ps12 { state := .param, echoCount := 63, echoSum := 63 * 50 } (.echo 2 (toLe 16 (0x15 + 256 + 1000 * 256 ^ 8 + 20 * 256 ^ 12)) 1120 0)
      (fun x => x.echoCount = 64 && x.echoSum = 64 * 50) = true ∧
    after (.echo 2 (toLe 16 (0x15 + 7 * 256 ^ 2 + 9 * 256 ^ 8)) 0 5) (prt12 { state := .retrain }) (fun t => t.out.length = (prt12 {}).out.length + 1) = true := by decide +kernel
theorem test_port_activate : ps12 { state := .param, paramOk := true, echoCount := 64, echoSum := 3200, session := true } (.portActivate 2) (fun x => x.state = .active && x.delay = 50) = true ∧
    ps12 { state := .retrain, relocked := true, echoCount := 64, kept := [⟨0, false, false, false, [], []⟩] } (.retrainComplete 2) (fun x => x.state = .active && x.replayQ.length = 1) = true ∧
    ps12 { state := .retrain } (.retrainTimeout 2) (fun x => x.state = .failed && x.failCode = 6) = true := by decide +kernel
theorem test_retrain : ps12 { state := .active } (.blockLockLost 2) (fun x => x.state = .retrain && x.retrains = 1) = true ∧
    ps12 { state := .active, kept := [⟨0, false, false, false, [], []⟩] } (.ackTimeout 2) (fun x => x.state = .retrain && x.kept.length = 1) = true ∧
    after (.hxlPortRetrain 64) ((prt12 { state := .active }).setFld F.HXL_PORT_SEL_PORT 2) (fun t => (t.port 2).state = .retrain && t.fld F.HXL_EVENT_RETRAIN = 1) = true ∧
    (({ state := .param, paramOk := true, echoCount := 64 } : Port).wantsSession = true → ps12 { state := .param, paramOk := true, echoCount := 64 } (.spdmSessionTimeout 2) (fun x => x.state = .failed && x.failCode = 5) = true) := by decide +kernel
theorem test_wants_session : ({ state := .param, paramOk := true, echoCount := 64 } : Port).wantsSession = true := by decide
def sel12 (x : Port) : State := (prt12 x).setFld F.HXL_PORT_SEL_PORT 2
theorem test_port_control : after (.hxlPortCfgWrite 0 3) (sel12 {}) (fun t => (t.port 2).state = .detect && (t.port 2).act.kind = 1) = true ∧
    after (.hxlPortCfgWrite 0 3) (sel12 { state := .active }) (fun t => (t.port 2).state = .active && (t.port 2).cfg.kind = 1 && (t.port 2).act.kind = 0) = true ∧
    after (.hxlPortCfgWrite 0 0) (sel12 { state := .active }) (fun t => (t.port 2).state = .disabled) = true ∧
    after (.hxlPortReset 0) (sel12 { state := .failed, failCode := 3, cfg := { kind := 2 } }) (fun t => (t.port 2).state = .detect && (t.port 2).act.kind = 2 && (t.port 2).failCode = 0) = true := by decide +kernel
/-- A CPL_ND of 16 bytes in a DATA flit with SEQ 5. -/
def nd12 : List Byte := toLe 16 (0x0B + 7 * 256 ^ 2)
theorem test_flit : after (.flitReceive 2 1 0 true true true (1 + 5 * 4 + 7 * 2 ^ 14) nd12) (prt12 { state := .active, rxSeq := 5, nak := true, kept := [⟨6, false, false, false, [], []⟩, ⟨8, false, false, false, [], []⟩] })
      (fun t => t.hxl.inbox = [(2, nd12)] && (t.port 2).rxSeq = 6 && !(t.port 2).nak && (t.port 2).kept.map (·.seq) = [8] && (t.port 2).fecCorr = 1) = true ∧
    after (.flitReceive 2 0 0 true true true (1 + 6 * 4) nd12) (prt12 { state := .active, rxSeq := 5 }) (fun t => t.hxl.inbox = [] && (t.port 2).nak) = true ∧
    after (.flitReceive 2 0 0 true false true (1 + 5 * 4) nd12) (prt12 { state := .active, rxSeq := 5 }) (fun t => t.hxl.inbox = [] && (t.port 2).nak && (t.port 2).crc = 1) = true ∧
    ps12 { state := .active, kept := [⟨8, false, false, false, [], []⟩] } (.flitReceive 2 0 0 true true true (2 ^ 26 + 7 * 2 ^ 14) []) (fun x => x.replayQ.length = 1 && x.naks = 1) = true ∧
    ps12 { state := .active, naks := 7, kept := [⟨8, false, false, false, [], []⟩] } (.flitReceive 2 0 0 true true true (2 ^ 26 + 7 * 2 ^ 14) []) (fun x => x.state = .retrain) = true ∧
    after (.nakRepeat 2) (prt12 { state := .active, nak := true }) (fun t => t.out.length = (prt12 {}).out.length + 1) = true ∧
    ps12 { state := .active, encOn := true, nextKeyIn := true, phaseFlits := 9 } (.rekey 2) (fun x => x.keyPhase && x.phaseFlits = 0) = true := by decide +kernel
def wait12 (m : List Byte) (drain : Bool) : State := let s := prt12 { state := .active }
  { s with hxl := { s.hxl with routes := ⟨[(9, { ports := 0, draining := drain }), (10, { ports := 4 })]⟩, waiting := [⟨3, 9, m, 0, drain⟩] } }
theorem test_no_route : (wait12 nd12 false).memberState 9 ≠ .fenced ∧ isRequest nd12 = false ∧ after (.noRouteExpiry 3) (wait12 nd12 false) (fun t => t.hxl.waiting = [] && t.hxl.outbox = [] && t.fld F.HXL_NO_ROUTE = 1) = true ∧
    (wait12 nd12 false).memberState 10 ≠ .fenced ∧ after (.noRouteExpiry 3) (wait12 (toLe 16 (1 + 7 * 256 ^ 2 + 10 * 256 ^ 4)) false) (fun t => t.hxl.outbox.map (fun o => (o.port, o.dst)) = [(2, 10)]) = true := by decide +kernel
theorem test_route : after (.routeDrainEnd 9) (wait12 nd12 true) (fun t => !(t.route 9).draining && t.hxl.waiting.all (fun w => !w.drain) && t.fld F.HXL_EVENT_ROUTE_DRAIN = 1) = true ∧
    after (.hxlRouteWrite 0 (BitVec.ofNat 32 (4 + 2 * 2 ^ 16))) ((wait12 nd12 false).setFld F.HXL_ROUTE_SEL_MEMBER 9) (fun t => (t.route 9).ports = 4 && (t.route 9).dist = 2 && t.hxl.waiting = [] && t.hxl.outbox.length = 1) = true := by decide +kernel
/-- Endpoint port 2 with an accepted command, QTAG 77, in entry 7. -/
def ctl12 : State := ((prt12 { state := .active, act := { kind := 1 } }).setEntry 7 { src := 130, qp := 0, packet := pk [(0, 0xA1), (2, 77)], accepted := true, phase := .accepted }).setSource 130 { slots := [⟨4, 5, 2, none⟩], grants := [3, 4] }
def ctm12 (kind w : Nat) : List Byte := toLe 16 (0x0F + 15 * 256 + kind * 256 ^ 2 + w * 256 ^ 8)
theorem test_ctrl : ctl12.ctrlOk 2 (ctm12 1 0) 1 = true ∧ (ctl12.entry? 7).any (fun e => pkQtag e.packet = 77) = true ∧ ctl12.abortable 130 0 (some 77) = [7] ∧ after (.ctrlAbort 2 (ctm12 1 (77 * 65536))) ctl12 (fun t => (t.entry? 7).map (fun y => (y.phase, y.out.status, y.out.subcode)) = some (.ended, St.aborted, 1)) = true ∧
    ctl12.abortable 130 0 (some 78) = [] ∧ after (.ctrlAbort 2 (ctm12 1 (78 * 65536))) ctl12 (fun t => (t.port 2).abortMiss = 1 && t.fld F.HXL_EVENT_CMD_MISS = 1) = true ∧
    after (.ctrlGrant 2) ctl12 (fun t => (t.source 130).credits = 3 && (t.source 130).grants = [4]) = true ∧
    ctl12.ctrlOk 2 (ctm12 2 0) 2 = true ∧ after (.ctrlRelease 2 (ctm12 2 1)) ctl12 (fun t => (t.port 2).releaseStale = 1 && (t.source 130).slots.length = 1) = true := by decide +kernel
theorem test_ctrl_release : ∀ x ∈ (ctl12.source 130).slots, after (.ctrlRelease 2 (ctm12 2 (slotHandle x))) ctl12 (fun t => (t.source 130).slots = []) = true := by decide +kernel


/-! ### Errors (13) -/

def err13 : State := run5 (ent5 0 [])
theorem test_checker : err13.chkMasked 9 = false ∧ after (.checkerError 9 false true) err13 (fun t => (t.checker 9).count = 0) = true ∧
    ({ err13 with sys := { err13.sys with power := .off } } : State).chkMasked 9 = true := by decide +kernel
def storm13 (n : Nat) : State := { err13.setFld F.ERR_CE_CFG_THRESH 1 with err := { err13.err with windows := ⟨[(77, { window := 0, count := n, last := some { source := 2, severity := 1, unitKind := 2, unitIndex := 4 } })]⟩ } }
theorem test_ce_storm : (storm13 2).ceThresh = 1 ∧ after (.ceStorm 77) (storm13 2) (fun t => t.fld F.ERR_EVENT_CE_STORM = 1 && (t.unitRec 2 4).suspect && t.err.sitz.length = 1) = true ∧
    after (.ceStorm 77) (storm13 1) (fun t => t = storm13 1) = true := by decide +kernel
def groom13 (x : Gran) : State := { (err13.setFld F.ERR_GROOM_CFG_COMPARE 0) with store := { err13.store with grans := ⟨[(8388608, x)]⟩ } }
theorem test_groomer : after (.groomerRead 1 8388608 0 true) (groom13 {}) (fun t => t.err.groomAt = [0, 0, 0] && t.fld F.ERR_GROOM_PASSES_DDR = 1 && t.fld F.ERR_EVENT_GROOM_PASS = 1) = true ∧
    after (.groomerRead 1 8388608 1 false) (groom13 { corrupt := true, wgen := 5 }) (fun t => t.gran 8388608 = { wgen := 5 } && t.err.groomAt = [0, 8388609, 0] && t.fld F.ERR_GROOM_REPAIRS = 1) = true ∧
    (groom13 {}).mirrored 262144 = false ∧ (groom13 {}).striped 262144 = false ∧
    after (.groomerRead 1 8388608 2 false) (groom13 {}) (fun t => (t.gran 8388608).poison = some .uncorrectable && t.fld F.ERR_EVENT_CONTAINED = 1) = true := by decide +kernel
theorem test_groomer_pause : after (.groomerRead 1 8388608 2 true) ((groom13 {}).setFld F.ERR_GROOM_CFG_PAUSE 1) (fun t => t.err.groomAt = [0, 0, 0]) = true := by decide +kernel
def frozen13 (fatal : Nat) : State := let s := ((err13.setFld F.ERR_STATUS_FROZEN 1).setFld F.ERR_STATUS_FATAL fatal).setFld F.ERR_SITZ_STATUS_VALID 2
  { s with err := { s.err with sitz := [1, 2], first := some 3 } }
theorem test_sitzmark : (frozen13 0).sitzLocked = false ∧ (frozen13 1).sitzLocked = true ∧ after (.errSitzUnfreeze 64) (frozen13 0) (fun t => t.fld F.ERR_STATUS_FROZEN = 0) = true ∧
    after (.errSitzUnfreeze 64) (frozen13 1) (fun t => t.fld F.ERR_STATUS_FROZEN = 1) = true ∧ after (.errSitzClear 0) (frozen13 0) (fun t => t.err.sitz = [] && t.fld F.ERR_SITZ_STATUS_VALID = 0) = true ∧
    after (.errFirstClear 0) (frozen13 1) (fun t => t.err.first = none) = true := by decide +kernel
theorem test_unit_online : after (.errUnitOnline 0) (((err13.setFld F.ERR_UNIT_SEL_KIND 6).setFld F.ERR_UNIT_SEL_INDEX 3).setUnit 6 3 { offline := true }) (fun t => !(t.unitRec 6 3).offline) = true ∧
    after (.errUnitOnline 0) (((err13.setFld F.ERR_UNIT_SEL_KIND 4).setFld F.ERR_UNIT_SEL_INDEX 3).setUnit 4 3 { offline := true }) (fun t => (t.unitRec 4 3).offline) = true ∧
    err13.unitPending 6 3 = false := by decide +kernel
def inj13 (target pattern : Nat) : State := let s := ((err13.setFld F.ERR_INJ_CFG_TARGET target).setFld F.ERR_INJ_CFG_PATTERN pattern).setFld F.ERR_INJ_ADDR_LO_ADDR 4096
  { s with sys := { s.sys with debug := .invasive } }
theorem test_injection : err13.injRefused = true ∧ (inj13 0 0).injRefused = false ∧ (inj13 0 0).isHome 4096 = true ∧ after (.errInjFire 0) err13 (fun t => t.fld F.ERR_INJ_STATUS_REFUSED = 1 && t.fld F.ERR_EVENT_INJ_DONE = 1) = true ∧
    after (.errInjFire 0) (inj13 0 0) (fun t => (t.gran 32).corrupt && t.fld F.ERR_INJ_STATUS_DONE = 1) = true ∧ after (.errInjFire 0) (inj13 0 1) (fun t => (t.gran 32).damaged) = true ∧
    after (.errInjFire 0) (inj13 5 0) (fun t => t.err.injection.any (fun i => i.addr = 4096) && t.fld F.ERR_INJ_STATUS_DONE = 0) = true := by decide +kernel
theorem test_injection_far : ({ inj13 0 0 with sys := { (inj13 0 0).sys with member := 3 }, rack := { err13.rack with map := { server := List.replicate 64 0 } } } : State).isHome 4096 = false := by decide +kernel
theorem test_flash_die : after (.flashDieReady 5 1 false) (err13.setUnit 4 5 { failures := 2 }) (fun t => (t.unitRec 4 5).retired && t.fld F.ERR_COUNT_UNIT = 1) = true ∧
    after (.flashDieReady 5 0 false) err13 (fun t => (t.unitRec 4 5).sectorFails = 1) = true := by decide +kernel
theorem test_bus_parity : after (.busParityError 1 7 2 false) err13 (fun t => t.fld F.ERR_COUNT_CE = 1) = true ∧ after (.busParityError 2 7 3 false) err13 (fun t => (t.training 1 7).pending) = true ∧
    after (.busParityError 1 7 0 true) { err13 with err := { err13.err with busRetrained := ⟨[(263, true)]⟩ } } (fun t => t.sys.errFatal && t.fld F.ERR_STATUS_FROZEN = 1) = true := by decide +kernel


/-! ### The rack (14) -/

/-- Three members, this one number 0, epoch 5; ports 4 and 5 lead to members 1 and 2. -/
def rk14 : State :=
  let s := run5 (ent5 0 [])
  let s := { s with store := { s.store with slabs := {} } }
  let s := ((s.setPort 4 { state := .active, partnerId := 1 }).setPort 5 { state := .active, partnerId := 2 }).setFld F.TIER_HASH_WIDTH 3
  { s with frame := 1000, hxl := { s.hxl with routes := ⟨[(1, { ports := 16 }), (2, { ports := 32 })]⟩ }, rack := { s.rack with map := { epoch := 5, width := 3, server := [0, 1, 2], state := [.active, .active, .active] } } }
def cs14 (kind src change subject epoch mask ballot frame : Nat) : List Byte := consMsg kind src change subject epoch mask ballot frame 0 809321370
/-- A function of a number that is evaluated first. -/
def forced (f : Nat → Nat) : Nat → Nat
  | 0 => f 0
  | n + 1 => f (n + 1)
theorem forced_eq (f : Nat → Nat) (n : Nat) : forced f n = f n := by cases n <;> rfl
/-- The CRC a byte at a time. -/
def crcOf : List Byte → Nat → Nat
  | [], c => c
  | b :: l, c => forced (crcOf l) (crcByte c b)
theorem crcOf_eq (l : List Byte) (c : Nat) : crcOf l c = l.foldl crcByte c := by
  induction l generalizing c with
  | nil => rfl
  | cons b l ih => simp [crcOf, forced_eq, ih]
theorem mapsum_eq (m : RackMap) : m.mapsum = crcOf (m.image 0 false) 0xFFFFFFFF ^^^ 0xFFFFFFFF := by rw [crcOf_eq]; rfl
theorem test_mapsum : rk14.rack.map.mapsum = 809321370 := by rw [mapsum_eq]; decide +kernel
def rackIs (c : Instr) (s : State) (f : RackState → Bool) : Bool := after c s (fun t => f t.rack)
theorem test_take_cons : (rk14.takeCons 4 (cs14 0 1 0 0 5 0 0 0)).2 = true ∧ (rk14.takeCons 4 (1 :: cs14 0 1 0 0 5 0 0 0)).2 = false ∧
    after (.heartbeat 4 (1 :: cs14 0 1 0 0 5 0 0 0)) rk14 (fun t => (t.port 4).msgBad = 1) = true := by decide +kernel
def form14 : State := { rk14 with rack := { rk14.rack with forming := some { entry := 7, heard := [2], oldMap := {}, oldWidth := 0, oldSaltLo := 0, oldSaltHi := 0 } } }
theorem test_heartbeat : after (.heartbeat 4 (cs14 0 1 0 0 4 4 0 99)) { rk14 with rack := { rk14.rack with suspects := [1] } } (fun t => (t.peer 1).mask = 4 && (t.peer 1).frame = 99 && t.rack.suspects = []) = true := by decide +kernel
theorem test_heartbeat_mismatch : ((csEpoch (consMsg 0 1 0 0 5 0 0 99 0 12345) = rk14.rack.map.epoch && csMapsum (consMsg 0 1 0 0 5 0 0 99 0 12345) != rk14.rack.map.mapsum && rk14.voting.contains 1) : Bool) = true := by
  rw [test_mapsum]; decide +kernel
theorem test_heartbeat_forms : csEpoch (cs14 0 1 0 0 5 0 0 99) = form14.rack.map.epoch ∧ csMapsum (cs14 0 1 0 0 5 0 0 99) = 809321370 ∧ (form14.entry? 7).isSome = true ∧
    ∀ y < 64, form14.memberState y = .active → y ≠ form14.sys.member → y ∈ [2] ∨ y = 1 := by decide +kernel
def two14 : State := { rk14 with rack := { rk14.rack with map := { rk14.rack.map with server := [0, 1], state := [.active, .active] } } }
theorem test_heartbeat_send : two14.others = [1] ∧ two14.joiner = false ∧ after .heartbeatSend two14 (fun t => t.hxl.outbox.map (fun o => (o.port, o.dst, csFrame o.msg, csEpoch o.msg)) = [(4, 1, 1000, 5)]) = true := by decide +kernel
theorem test_suspicion : rackIs (.suspicionTimeout 1) rk14 (fun r => r.suspects = [1]) = true ∧ rackIs (.consFatal 4 (cs14 4 1 0 0 5 0 0 0)) rk14 (fun r => r.suspects = [1]) = true ∧
    after (.consBrace 4 (cs14 5 1 0 0 5 2 0 0)) rk14 (fun t => (t.peer 1).bracing && (t.peer 1).mask = 2) = true := by decide +kernel
def prop14 : List Byte := cs14 1 1 1 9 6 0 65 0
def low14 : State := { rk14 with rack := { rk14.rack with accepted := some { epoch := 6, ballot := 100, change := .admission } } }
theorem test_propose : rk14.votes = true ∧ rk14.fenced = false ∧ (rk14.takeCons 4 prop14).2 = true ∧ (csProposal prop14).change = .admission ∧ (csProposal prop14).epoch = 6 ∧
    after (.propose 4 prop14) rk14 (fun t => t.rack.accepted = some (csProposal prop14) && t.hxl.outbox.map (fun o => (o.port, o.dst)) = [(4, 1)]) = true ∧
    rackIs (.propose 4 prop14) low14 (fun r => r.accepted = low14.rack.accepted) = true := by decide +kernel
def acc14 : State := { rk14 with rack := { rk14.rack with proposed := some { epoch := 6, ballot := 64, change := .manualFence, mask := 4 }, accepts := [0] } }
theorem test_accept : (acc14.takeCons 4 (cs14 2 1 3 0 6 4 64 0)).2 = true ∧ acc14.quorum [0, 1] = true ∧ acc14.quorum [0] = false ∧
    after (.accept 4 (cs14 2 1 3 0 6 4 64 0)) acc14 (fun t => t.rack.commit.map (·.2) = some 1004 && t.hxl.outbox.map (·.dst) = [1, 2]) = true ∧
    rackIs (.accept 5 (cs14 2 2 3 0 6 4 64 0)) acc14 (fun r => r.commit = none && r.accepts = [0, 2]) = true := by decide +kernel
theorem test_commit : rackIs (.commit 4 (cs14 3 1 3 0 6 1 64 1004)) rk14 (fun r => r.commit.map (·.2) = some 1004 && r.selfFenced) = true := by decide +kernel
def com14 (c : Change) (mask subject slot : Nat) : State := { rk14 with rack := { rk14.rack with commit := some ({ epoch := 6, ballot := 64, change := c, mask := mask, subject := subject, slot := slot }, 1000) } }
theorem test_map_change : after .mapChangeApply (com14 .fence 4 0 0) (fun t => t.memberState 2 = .fenced && t.serverOf 2 = 0 && t.serverOf 1 = 1 && t.rack.map.epoch = 6 && t.rack.commit = none) = true ∧
    after .mapChangeApply (com14 .admission 0 9 0) (fun t => t.memberState 9 = .spare && t.serverOf 2 = 2) = true ∧
    after .mapChangeApply (com14 .assign 0 1 2) (fun t => t.serverOf 2 = 1 && t.memberState 2 = .spare && t.memberState 1 = .active) = true ∧
    after .mapChangeApply { com14 .fence 4 0 0 with frame := 999 } (fun t => t.rack.map.epoch = 5) = true := by decide +kernel
theorem test_takeover : rackIs .coordinatorTakeover { low14 with rack := { low14.rack with acceptFrame := 900 } } (fun r => r.proposed.map (fun p => (p.epoch, p.ballot)) = some (6, 64)) = true ∧
    rk14.quorum (rk14.voting.filter fun m => m = rk14.sys.member || !(rk14.peer m).silent) = true ∧
    rackIs .quorumLoss ((rk14.setPeer 1 { silent := true }).setPeer 2 { silent := true }) (fun r => r.selfFenced) = true := by decide +kernel
def held14 : State := { rk14 with rack := { rk14.rack with held := [({ origin := 1, id := 9, epoch := 6, forwarded := false, role := false, slot := 0, kind := 0, addr := 0, data := [], cls := 0 }, 900)], map := { rk14.rack.map with epoch := 40000 } } }
theorem test_epoch_hold : after (.epochHoldExpiry 1 9) { held14 with rack := { held14.rack with map := { held14.rack.map with epoch := 5 + 32769 } } } (fun t => t.rack.held = []) = true := by decide +kernel
def map14 (op : Nat) (l : List (Nat × Nat)) : State := let s := rk14.setEntry 7 { ent5 op l with slot := some (0, 0) }
  s.setFld F.PST_STATUS_ALIGN_STATE 2
theorem test_map_query : ((map14 0xC0 []).runnable 7 0xC0).isSome = true ∧ after (.mapQuery 7) (map14 0xC0 []) (fun t => (t.entry? 7).map (fun y => (y.phase, y.out.result0, y.out.countDone, y.pend.length)) = some (.ended, 5, 3, 256)) = true := by decide +kernel
/-- A map image of one member, or of members 0 and 1. -/
def img14 (n : Nat) : List Byte := let m : RackMap := { epoch := 1, width := 2, salt := 77, server := [0, n], state := (List.range 64).map fun i => if i ≤ n then .active else .absent, exposed := [false, false], rebuilding := [false, false] }
  m.image (if n = 0 then 2620464347 else 2109159858) true
def fresh14 (n : Nat) : State := let s := run5 (ent5 0 [])
  let s := (s.setEntry 7 { ent5 0xC1 [] with block := img14 n }).setFld F.PST_STATUS_ALIGN_STATE 2
  { s with store := { s.store with timing := [[1]] } }
theorem test_map_image : imageValid (img14 0) = true ∧ imageValid (img14 1) = true := by
  have h0 : (mapOf (img14 0)).mapsum = 2620464347 := by rw [mapsum_eq]; decide +kernel
  have h1 : (mapOf (img14 1)).mapsum = 2109159858 := by rw [mapsum_eq]; decide +kernel
  simp only [imageValid, h0, h1]
  decide +kernel
theorem test_map_form : ((fresh14 0).runnable 7 0xC1).isSome = true ∧ (fresh14 0).store.timing ≠ [] ∧ (fresh14 0).changing = false ∧ (fresh14 0).fld F.TIER_POP_STATUS_ERR = 0 ∧
    after (.mapForm 7) (fresh14 0) (fun t => t.rack.forming = none && t.width = 2 && t.salt = 77 && (t.entry? 7).map (fun y => (y.phase, y.out.countDone)) = some (.ended, 1)) = true ∧
    after (.mapForm 7) (fresh14 1) (fun t => (t.rack.forming.map (·.entry)) = some 7 && (t.entry? 7).map (·.phase) = some .accepted) = true ∧
    after (.mapForm 7) { fresh14 1 with rack := { (fresh14 1).rack with idClash := true } } (fun t => (t.entry? 7).map (fun y => y.out.subcode) = some 0x42) = true := by decide +kernel
theorem test_map_form_timeout : after (.mapFormTimeout 7) { map14 0xC1 [] with rack := form14.rack } (fun t => t.rack.map = {} && (t.entry? 7).map (fun y => (y.out.status, y.out.subcode)) = some (St.timeout, 0x40)) = true := by decide +kernel
/-- Member 9 asks to join. -/
def join14 : State := let s := map14 0xC2 [(8, 9)]; s.setPeer 9 { frame := 5, mask := s.summary }
theorem test_map_admit : join14.admissible 9 = true ∧ join14.coordinator = 0 ∧ (map14 0xC2 [(8, 9)]).admissible 9 = false ∧
    rackIs (.mapAdmit 7) join14 (fun r => r.proposed.map (fun p => (p.change, p.subject, p.epoch)) = some (.admission, 9, 6) && r.asker = some 7) = true ∧
    after (.mapAdmit 7) (map14 0xC2 [(8, 9)]) (fun t => (t.entry? 7).map (fun y => (y.phase, y.out.subcode)) = some (.ended, 0x43)) = true ∧
    rackIs (.mapFence 7) (map14 0xC3 [(8, 2)]) (fun r => r.proposed.map (fun p => (p.change, p.mask)) = some (.manualFence, 4)) = true := by decide +kernel
/-- Member 0 is not the coordinator: member 1 is another's number. -/
def other14 : State := { map14 0xC3 [(8, 2)] with sys := { rk14.sys with member := 1 } }
theorem test_map_forward : other14.coordinator = 0 ∧ after (.mapFence 7) other14 (fun t => t.rack.proposed = none && t.rack.away.cells.map (fun c => (c.2.home, c.2.kind)) = [(0, 4)]) = true := by decide +kernel
theorem test_map_assign : after (.mapAssign 7) (map14 0xC4 [(8, 1), (9, 0)]) (fun t => t.rack.assign.map (fun a => (a.slot, a.subject)) = some (0, 1) && (t.entry? 7).map (·.stage) = some 1) = true ∧
    rackIs (.mapAssign 7) ((map14 0xC4 [(8, 1), (9, 0)]).modEntry 7 fun e => { e with stage := 1 }) (fun r => r.proposed.map (·.subject) = some 1) = true ∧
    after (.mapAssign 7) ((map14 0xC4 [(8, 1), (9, 0)]).modEntry 7 fun e => { e with stage := 1, out := { e.out with status := St.fenced } }) (fun t => (t.entry? 7).map (fun y => y.out.subcode) = some 0xB5) = true := by decide +kernel
/-- Page 5 of slot 0 is due to be copied. -/
def due14 (sent : Bool) : State := let s := run5 (ent5 0 [])
  { s with rack := { s.rack with remirror := [{ slot := 0, page := 5, sent := sent }], map := { s.rack.map with exposed := [true] } } }
theorem test_remirror : after (.remirrorCopy 0 5) (due14 true) (fun t => t.rack.remirror = [] && t.rack.map.exposed = [false]) = true ∧ (due14 false).writtenGranules 5 = [] ∧
    after (.remirrorCopy 0 5) (due14 false) (fun t => t.rack.remirror = []) = true ∧ ((due14 false).pokeBytes 20480 [9]).writtenGranules 5 = [160] ∧
    after (.remirrorCopy 0 5) ((due14 false).pokeBytes 20480 [9]) (fun t => t.rack.remirror.map (·.sent) = [true] && t.rack.away.cells.map (fun c => (c.2.kind, c.2.addr)) = [(3, 20480)]) = true := by decide +kernel
theorem test_remirror_sound : (due14 false).Sound ∧ (due14 false).KeysStand ∧ ∀ a, (due14 false).isHome a = true := ⟨fun g => by
  have h : (due14 false).gran g = {} := rfl
  rw [h]; decide, fun _ => rfl, fun _ => rfl⟩
def lost14 (n : Nat) : State := { rk14 with rack := { rk14.rack with missing := List.replicate n { slab := 3, stripe := 1, slot := 2, page := some 786432 }, map := { rk14.rack.map with rebuilding := [false, false, true] } } }
theorem test_flash_rebuild : (lost14 1).foster 1 ≠ some 0 ∧ after (.flashRebuild 3 1 2) (lost14 1) (fun t => t.rack.missing = [] && t.rack.map.rebuilding = [false, false, false]) = true ∧
    rackIs (.flashRebuild 3 1 2) (lost14 3) (fun r => r.missing.length = 3) = true := by decide +kernel


/-! ### Compositions and metering (14, 18) -/

def cmp15 (op : Nat) (l : List (Nat × Nat)) : State := let s := run5 (ent5 0 [])
  let s := { s with store := { s.store with slabs := {}, free := [100, 100, 100] } }
  s.setEntry 7 { ent5 op l with slot := some (0, 0) }
theorem test_cmp_define : ((cmp15 0xC8 [(12, 5), (16, 3)]).runnable 7 0xC8).isSome = true ∧ after (.cmpDefine 7) (cmp15 0xC8 [(12, 5), (16, 3)]) (fun t => (t.comp 5).limitHbm = 3 && t.rack.keys.has 5 &&
    (t.entry? 7).map (fun y => (y.phase, y.out.countDone)) = some (.ended, 1)) = true := by decide +kernel
def has15 (s : State) : State := s.setComp 5 { limitDdr := 1, ticks := [(62500, [1, 2, 3, 4]), (31250, [0, 0, 0, 0])] }
theorem test_cmp_drop : after (.cmpDrop 7) (has15 (cmp15 0xC9 [(12, 5)])) (fun t => !(t.rack.comps.has 5)) = true := by decide +kernel
/-- Grant slabs 40 and 41; another member homes every page, so that no frame is needed here. -/
def far15 (s : State) : State := { s with rack := { s.rack with map := { s.rack.map with server := List.replicate 64 1 } } }
def gr15 (n : Nat) : State := has15 (cmp15 0xCA [(12, 5), (16, 40 * 2 ^ 30), (24, n)])
theorem test_cmp_limit : (gr15 2).passesLimit ((gr15 2).entry? 7 |>.map (·.packet) |>.getD 0) = true ∧ after (.cmpGrant 7) (gr15 2) (fun t => (t.entry? 7).map (fun y => (y.phase, y.out.subcode)) = some (.ended, 0x61)) = true := by decide +kernel
theorem test_cmp_query : after (.cmpQuery 7) ((has15 (cmp15 0xCC [(12, 5)])).setSlab 40 { comp := some 5, home := .ddr }) (fun t => (t.entry? 7).map (fun y => (y.phase, y.out.result0)) = some (.ended, 2 ^ 32)) = true := by decide +kernel
def wd15 : State := (has15 (cmp15 0xCB [(12, 5), (16, 40 * 2 ^ 30), (24, 1)])).setSlab 40 { comp := some 5 }
theorem test_cmp_withdraw : (wd15.runnableStore 7 0xCB).isSome = true ∧ wd15.heldInSlabs [40] = [] ∧ wd15.backPending 7 = false ∧ (∀ c ∈ wd15.cmdq.entries.cells, c.1 ≠ 7 → c.2.captures = []) ∧
    after (.cmpWithdraw 7) { wd15 with xlt := { wd15.xlt with raws := [⟨2, 7, 9, 1, 0, 40 * 2 ^ 30, false, []⟩] } } (fun t => (t.slabNo 40).withdrawing && (t.entry? 7).map (·.phase) = some .accepted) = true := by decide +kernel
def tick15 (f : Nat) : State := { has15 (cmp15 0xD0 [(12, 5)]) with frame := f }
theorem test_metering_tick : after (.meteringTick [(5, 3200)]) (tick15 93750) (fun t => (t.comp 5).meter = [0, 0, 0, 2] && ((t.comp 0).ticks.map (·.1)) = [93750]) = true ∧
    after (.meteringTick []) (tick15 93751) (fun t => t = tick15 93751) = true := by decide +kernel
theorem test_meter_snap : after (.mgtMeterSnap 0) (((tick15 93750).setComp 0 { ticks := [(62500, [])] }).setFld F.MGT_METER_SEL_COMP 5) (fun t => t.fld F.MGT_METER_TICK_LO_FRAME = 62500 && t.fld F.MGT_METER_LO_VALUE = 1 &&
    t.regAt 0 (F.MGT_METER_LO_VALUE.off + 24) = 4) = true := by decide +kernel
theorem test_meter_query : ((tick15 93750).modEntry 7 fun e => { e with acceptFrame := 62570 }).everyMember = [0] ∧
    after (.meterQuery 7) ((tick15 93750).modEntry 7 fun e => { e with acceptFrame := 62570 }) (fun t => (t.entry? 7).map (fun y => (y.phase, y.out.result0, y.out.countDone, y.out.countAux, y.pend.length)) = some (.ended, 62500, 1, 0, 64)) = true ∧
    after (.meterQuery 7) ((tick15 93750).modEntry 7 fun e => { e with acceptFrame := 64 }) (fun t => (t.entry? 7).map (fun y => (y.out.countDone, y.out.countAux)) = some (0, 1)) = true := by decide +kernel
def two15 : State := let s := tick15 93750
  { s with rack := { s.rack with map := { s.rack.map with state := [.active, .active] } } }
theorem test_meter_query_rack : after (.meterQuery 7) two15 (fun t => (t.entry? 7).map (fun y => (y.phase, y.items.map (·.home))) = some (.accepted, [1])) = true := by decide +kernel
/-- One slab, of which a member homes 262,144 pages at most. -/
def one15 : State := let s := (cmp15 0xCA [(12, 5), (16, 40 * 2 ^ 30), (24, 1)]).setComp 5 { limitDdr := 1 }
  { s with store := { s.store with free := [300000, 300000, 300000] } }
theorem test_cmp_grant : mpSlabList ((one15.entry? 7).map (·.packet) |>.getD 0) = [40] ∧ (one15.runnableStore 7 0xCA).isSome = true ∧
    one15.passesLimit ((one15.entry? 7).map (·.packet) |>.getD 0) = false ∧ one15.everyMember.length = 1 ∧ one15.store.free.getD grantHome.code 0 = 300000 := by decide +kernel
theorem filter_range_le (n : Nat) (f : Nat → Nat) (p : Nat → Bool) : (((List.range n).map f).filter p).length ≤ n := by
  refine Nat.le_trans (List.length_filter_le _ _) (Nat.le_of_eq ?_)
  rw [List.length_map, List.length_range]
theorem grant_needs_alone (s : State) (n : Nat) (hw : s.width < 2) : s.grantNeeds [n] ≤ 262144 := by
  rw [State.grantNeeds, List.map_cons, List.map_nil, List.sum_cons, List.sum_nil, Nat.add_zero, State.framesOf, if_pos hw, Nat.add_zero,
    State.homedPages]
  exact filter_range_le _ _ _
theorem test_cmp_grant_room : one15.grantNeeds [40] ≤ 300000 :=
  Nat.le_trans (grant_needs_alone one15 40 (by decide +kernel)) (by decide)


/-! ### Lifecycle, tokens and SPDM (15) -/

def sec16 : State := run5 (ent5 0 [])
theorem test_svn : after (.secSvnCommit 0) { sec16 with sys := { sec16.sys with bootOk := true, svn := 2, imageSvn := 5 } } (fun t => t.sys.svn = 5) = true ∧
    after (.secSvnCommit 0) { sec16 with sys := { sec16.sys with bootOk := false, svn := 2, imageSvn := 5 } } (fun t => t.sys.svn = 2) = true := by decide +kernel
def prov16 (lc : Lifecycle) (w : Nat) : State := { sec16 with sys := { sec16.sys with lc := lc, hashWords := ⟨[(0, BitVec.ofNat 32 w)]⟩ } }
theorem test_provision : after (.secLcProvision 0 true) (prov16 .blank 9) (fun t => t.fld F.SEC_LC_RESULT_CODE = 1 && t.sys.lcNext = some .provisioned && t.sys.hashNext = 9) = true ∧
    after (.secLcProvision 0 true) (prov16 .sealed 9) (fun t => t.fld F.SEC_LC_RESULT_CODE = 2) = true ∧ after (.secLcProvision 0 true) (prov16 .blank 0) (fun t => t.fld F.SEC_LC_RESULT_CODE = 4) = true ∧
    after (.secLcProvision 0 false) (prov16 .blank 9) (fun t => t.fld F.SEC_LC_RESULT_CODE = 5) = true := by decide +kernel
theorem test_nonce : after (.secNewNonce 64) sec16 (fun t => t.sys.nonce.isSome && t.fresh = sec16.fresh + 1) = true ∧
    after (.secTokenSubmit 0) { sec16 with sys := { sec16.sys with nonce := some 5 } } (fun t => t.sys.verifying.map (·.2) = some (some 5) && t.sys.nonce = none && t.fld F.SEC_TOKEN_STATUS_BUSY = 1) = true := by decide +kernel
/-- A token of `type` for this die with LEVEL 2, nonce 5, duration 60 and both ports. -/
def tok16 (type : Nat) : List Byte := toLe 4 0x7220D801 ++ toLe 1 type ++ toLe 1 2 ++ toLe 2 0 ++ toLe 16 Config.dieId ++ toLe 8 5 ++ toLe 4 60 ++ toLe 1 3 ++ toLe 123 0
theorem toLe16_sub (n : Nat) (a b : List Byte) (h : a.length = 8) : sub (a ++ toLe 16 n ++ b) 8 16 = toLe 16 n := by
  match a, h with
  | [_, _, _, _, _, _, _, _], _ => simp [sub, toLe, List.range_succ]
theorem leNat_toLe (k n : Nat) : leNat (toLe k n) = n % 256 ^ k := by
  induction k generalizing n with
  | zero => simp [toLe, leNat, Nat.mod_one]
  | succ k ih => simp only [toLe, leNat, ih, BitVec.toNat_ofNat]; exact (by rw [Nat.pow_succ, Nat.mul_comm (256 ^ k) 256, Nat.mod_mul] : n % 256 + 256 * (n / 256 % 256 ^ k) = n % 256 ^ (k + 1))
theorem test_token_die (type : Nat) : fieldAt (tok16 type) 8 16 = Config.dieId % 2 ^ 128 := by
  have h : tok16 type = (toLe 4 0x7220D801 ++ toLe 1 type ++ toLe 1 2 ++ toLe 2 0) ++ toLe 16 Config.dieId ++ (toLe 8 5 ++ toLe 4 60 ++ toLe 1 3 ++ toLe 123 0) := by simp [tok16]
  rw [fieldAt, h, toLe16_sub _ _ _ (by simp [toLe]), leNat_toLe, (by rfl : (256 : Nat) ^ 16 = 2 ^ 128)]
theorem test_token_format : tokenFormat (tok16 1) = true ∧ tokenFormat (tok16 2) = true ∧ tokenFormat (tok16 3) = true ∧ tokenFormat (tok16 4) = true ∧ tokenFormat (tok16 5) = false ∧
    tkNonce (tok16 1) = 5 := by decide +kernel
def lc16 (lc : Lifecycle) : State := { sec16 with sys := { sec16.sys with lc := lc, debugKey := true, ownerReturn := some 5 } }
theorem test_token_accepted : (lc16 .provisioned).tokenCode (tok16 1) true true = 0 ∧ (lc16 .provisioned).tokenCode (tok16 2) true true = 0 ∧ (lc16 .provisioned).tokenCode (tok16 3) true true = 0 ∧
    (lc16 .provisioned).tokenCode (tok16 4) true true = 0 ∧ (lc16 .returned).tokenCode (tok16 4) true true = 5 := by decide +kernel
theorem test_token_refused : after (.tokenVerifyComplete true true) { sec16 with sys := { sec16.sys with verifying := some (tok16 5, some 5) } } (fun t => t.fld F.SEC_TOKEN_STATUS_CODE = 1 && t.sys.verifying = none) = true := by decide +kernel
theorem test_debug_level : after (.secTokenLower 0) { sec16 with sys := { sec16.sys with debug := .invasive, dbgRemain := 9 } } (fun t => t.sys.debug = .quiet && t.sys.dbgRemain = 0 && t.fld F.SEC_EVENT_LEVEL_CHANGED = 1) = true ∧
    after .debugTimerExpiry { sec16 with sys := { sec16.sys with debug := .invasive } } (fun t => t.sys.debug = .quiet) = true := by decide +kernel
def idle16 : State := { sec16 with cmdq := { sec16.cmdq with entries := {} } }
theorem test_power_targets : after (.secPwrTargetRun 0) { idle16 with sys := { idle16.sys with power := .rest } } (fun t => t.sys.power = .run && (t.training 0 63).pending && (t.training 1 15).pending) = true ∧
    idle16.restRefused = 0 ∧ sec16.restRefused = 1 ∧ after (.secPwrTargetRest 0) idle16 (fun t => t.sys.power = .rest && t.pst.idle) = true ∧
    after (.secPwrTargetRest 0) sec16 (fun t => t.sys.power = .run && t.fld F.SEC_PWR_STATUS_REFUSE = 1) = true := by decide +kernel
def half16 (e : Bool) : State := { idle16 with store := { idle16.store with braceHalves := [{ erased := e }, {}] } }
theorem test_standby : (half16 true).erasedHalf = some 0 ∧ (half16 false).erasedHalf = none ∧ after (.secPwrTargetStandby 0) (half16 true) (fun t => t.sys.bracing && t.fld F.PWR_BRACE_LAST_CAUSE = 6) = true ∧
    after (.secPwrTargetStandby 0) (half16 false) (fun t => !t.sys.bracing && (t.sys.power = .standby || t.sys.power = .off)) = true := by decide +kernel
/-- Endpoint 0 at a stage, with session 1 finished there; port 2 (endpoint 18) is ACTIVE. -/
def sp16 (stage : Nat) : State := let s := (sec16.setPort 2 { state := .active, session := true }).setPort 3 { state := .param, paramOk := true }
  (((s.setStage 0 stage).setStage 18 stage).setStage 19 stage)
def with16 (fin : Bool) (n : Nat) : State := { sp16 3 with mgt := { (sp16 3).mgt with sessions := List.replicate n ⟨1, 0, fin, 0⟩, nextSession := 9 } }
theorem test_spdm_stages : (sp16 0).spdmOn 0 .version = true ∧ (sp16 0).spdmOn 0 .plain = true ∧ (sp16 0).spdmOn 18 .plain = true ∧ after (.getVersion 0) (sp16 0) (fun t => t.spdmStage 0 = 1) = true ∧
    after (.getCapabilities 18) (sp16 1) (fun t => t.spdmStage 18 = 2) = true ∧ after (.negotiateAlgorithms 0 true) (sp16 2) (fun t => t.spdmStage 0 = 3) = true ∧
    after (.getCsr 0) (sp16 2) (fun t => t.out = (sp16 2).out ++ [.response 0 0x7F [4]]) = true ∧ after (.getMeasurements 0 0 false) (sp16 3) (fun t => t.out = (sp16 3).out ++ [.response 0 0x60 [8]]) = true ∧
    after (.getCertificate 0 1 0 9) (sp16 3) (fun t => t.out = (sp16 3).out ++ [.response 0 0x7F [1]]) = true := by decide +kernel
theorem test_spdm_sessions : (with16 true 1).sessionOpen 0 1 = true ∧ (with16 false 1).sessionOpen 0 1 = false ∧ (with16 true 4).mgmtSessions = 4 ∧ ((sp16 3).port 3).wantsSession = true ∧ ((sp16 3).port 2).wantsSession = false ∧
    after (.keyExchange 0 true) (with16 true 1) (fun t => t.mgt.sessions.length = 2 && t.mgt.nextSession = 10) = true ∧
    after (.keyExchange 0 true) (with16 true 4) (fun t => t.mgt.sessions.length = 4) = true ∧ after (.endSession 0 1) (with16 true 1) (fun t => t.mgt.sessions = []) = true ∧
    after (.keyUpdate 0 1) (with16 true 1) (fun t => t.mgt.sessions.map (·.updates) = [1]) = true ∧ after (.endSession 18 0) (sp16 3) (fun t => !(t.port 2).session) = true := by decide +kernel
theorem test_set_certificate : after (.setCertificate 0 1 1 [7]) { with16 true 1 with sys := { sec16.sys with lc := .provisioned } } (fun t => t.mgt.cert1 = [7]) = true ∧
    after (.setCertificate 0 1 1 [7]) (with16 false 1) (fun t => t.mgt.cert1 = []) = true := by decide +kernel
theorem test_finish : after (.finish 0 1 ⟨true, 0, true, true⟩) (with16 false 1) (fun t => t.mgt.sessions.map (·.finished) = [true]) = true ∧
    after (.finish 0 1 ⟨false, 0, true, true⟩) (with16 false 1) (fun t => t.mgt.sessions = []) = true ∧
    after (.finish 19 1 ⟨true, 0, true, true⟩) { sp16 3 with mgt := { (sp16 3).mgt with sessions := [⟨1, 19, false, 0⟩] } } (fun t => (t.port 3).session) = true ∧
    after (.finish 19 1 ⟨false, 0, true, true⟩) { sp16 3 with mgt := { (sp16 3).mgt with sessions := [⟨1, 19, false, 0⟩] } } (fun t => (t.port 3).state = .failed && (t.port 3).failCode = 5) = true := by decide +kernel


/-! ### Supply, brace and heat (16, 20) -/

def sup17 : State := { half16 true with sys := { sec16.sys with power := .run } }
theorem test_vstby5 : after .vstby5Lost { sup17 with sys := { sup17.sys with vstby5 := true, vin12 := true } } (fun t => !t.sys.vstby5 && t.sys.power = .run && t.fld F.PWR_STATUS_STBY_FROM_VIN = 1) = true ∧
    after .vstby5Lost { sup17 with sys := { sup17.sys with vstby5 := true, vin12 := false, power := .standby } } (fun t => t.sys.power = .off) = true ∧
    after .vstby5Restored { sup17 with sys := { sup17.sys with vstby5 := false } } (fun t => t.sys.vstby5) = true := by decide +kernel
theorem test_brace_causes : sup17.erasedHalf = some 0 ∧ after .psuAcOkDeassert { sup17 with sys := { sup17.sys with psuOk := true } } (fun t => t.sys.bracing && t.fld F.PWR_BRACE_LAST_CAUSE = 1 && !t.sys.psuOk) = true ∧
    after (.vin12DeepSag true) sup17 (fun t => t.sys.bracing && t.fld F.PWR_BRACE_LAST_CAUSE = 3 && !t.sys.restartOk) = true ∧ after (.vin12SurgeBrace false) sup17 (fun t => t.fld F.PWR_BRACE_LAST_CAUSE = 4) = true ∧
    after (.vin12SurgeBrace true) { sup17 with sys := { sup17.sys with bracing := true } } (fun t => t.fld F.PWR_BRACE_LAST_LATER = 16) = true := by decide +kernel
theorem test_trips : after .vin12OvTrip { sup17 with sys := { sup17.sys with vstby5 := true, vin12 := true } } (fun t => t.sys.power = .standby && !t.sys.vin12) = true ∧
    after .vin12UvTrip { sup17 with sys := { sup17.sys with vstby5 := false, power := .standby, starting := false } } (fun t => t.sys.power = .off) = true := by decide +kernel
theorem test_sag : after .vin12Surge sup17 (fun t => t.fld F.PWR_STATUS_REGION = 3 && t.fld F.PWR_COUNT_DIST_SURGE = 1) = true ∧
    after .vin12SagEnter ((sup17.setFld F.PWR_CAP_W 600).setFld F.PWR_SAG_CAP_W 300) (fun t => t.sys.sag && t.fld F.PWR_EFF_CAP_W = 300 && t.fld F.PWR_STATUS_LIMIT = 2) = true ∧
    after .vin12SagExit { (sup17.setFld F.PWR_CAP_W 600).setFld F.PWR_SAG_CAP_W 300 with sys := { sup17.sys with sag := true } } (fun t => t.fld F.PWR_EFF_CAP_W = 600) = true := by decide +kernel
def plow17 (duty limit low floor : Nat) : State := let s := ((sup17.setFld F.PWR_CAP_W 600).setFld F.PWR_THROTTLE_DUTY duty).setFld F.PWR_THROTTLE_CORE_LIMIT limit
  { s with sys := { s.sys with lowTicks := low, floorTicks := floor } }
def plows (c : Instr) (duty limit low floor duty' limit' : Nat) : Bool := after c (plow17 duty limit low floor) (fun t => t.fld F.PWR_THROTTLE_DUTY = duty' && t.fld F.PWR_THROTTLE_CORE_LIMIT = limit')
theorem test_snowplough : plows (.snowploughTick 12000 601 0 0) 16 1200 0 0 15 1200 = true ∧ plows (.snowploughTick 12000 601 0 0) 1 1200 0 0 1 1050 = true ∧ plows (.snowploughTick 12000 601 0 0) 1 150 0 99 1 150 = true ∧ plows (.snowploughTick 12000 600 0 0) 9 900 9 0 9 900 = true ∧ plows (.snowploughTick 12000 575 0 0) 9 900 9 0 9 1050 = true ∧
    plows (.snowploughTick 12000 575 0 0) 9 1200 9 0 10 1200 = true ∧ plows (.snowploughTick 12000 575 0 0) 9 1200 8 0 9 1200 = true ∧ (plow17 9 900 0 0).effCap = (1, 600) := by decide +kernel
theorem test_snowplough_events : after (.snowploughTick 12000 601 0 0) (plow17 16 1200 0 0) (fun t => t.sys.power = .glide && t.fld F.PWR_STATUS_GLIDE = 1) = true ∧
    after (.snowploughTick 12000 601 0 0) (plow17 1 150 0 99) (fun t => t.fld F.PWR_EVENT_CAP_UNMET = 1) = true := by decide +kernel
def hot17 (j : Option Nat) (hot cool : Nat) (trip : Bool) : State := { sup17.setFld F.PWR_POWER_AVG_1MS 500 with sys := { sup17.sys with junction := j, hotSamples := hot, coolSamples := cool, tripSample := trip } }
theorem test_thermal : after (.thermalSample 800 3 false) (hot17 none 0 0 false) (fun t => t.sys.junction = some 500) = true ∧ after (.thermalSample 800 3 false) (hot17 (some 400) 9 0 false) (fun t => t.sys.junction = some 390) = true ∧
    after (.thermalSample 700 3 false) ((hot17 (some 400) 0 99 false).setFld F.PWR_CAP_W 600) (fun t => t.sys.junction = some 410) = true ∧
    after (.thermalSample 920 3 false) (hot17 none 0 0 false) (fun t => t.sys.tripSample && !t.sys.tripped) = true ∧
    after (.thermalSample 920 3 false) (hot17 none 0 0 true) (fun t => t.sys.tripped && t.sys.errFatal) = true := by decide +kernel
def flush17 (half : Option Nat) : State := { sup17 with sys := { sup17.sys with bracing := true, brace := some { cause := 1, frame := 9, discard := false, half := half } } }
theorem test_brace_flush : after (.braceFlushStart 80) (flush17 none) (fun t => (t.store.braceHalves.map (·.header)) = [true, false] && t.fld F.PWR_BRACE_TIME_FLUSH_US = 80) = true ∧
    after (.braceCommitRecord 90 false []) (flush17 (some 0)) (fun t => (t.store.braceHalves.map (·.committed)) = [true, false] && t.sys.braceDone && !t.sys.bracing && t.fld F.PWR_BRACE_TIME_DONE_US = 90) = true := by decide +kernel
theorem test_restart : after .restartQualified { sup17 with sys := { sup17.sys with psuOk := true, power := .standby, starting := false } } (fun t => t.sys.restartOk && t.sys.vin12) = true ∧ after .psuAcOkAssert sup17 (fun t => t.sys.psuOk) = true := by decide +kernel
theorem test_power_registers : after (.pwrClearMinmax 0) ((sup17.setFld F.PWR_VIN_MV 12000).setFld F.PWR_VIN_MINMAX_MAX_MV 13000) (fun t => t.fld F.PWR_VIN_MINMAX_MAX_MV = 12000) = true ∧
    after (.pwrClearBrace 0) (sup17.setFld F.PWR_BRACE_LAST_CAUSE 3) (fun t => t.fld F.PWR_BRACE_LAST_CAUSE = 0) = true ∧
    after (.pwrEnergyLoRead 0 F.PWR_ENERGY_LO_MJ.off 4) { sup17 with sys := { sup17.sys with energy := 500 * 2 ^ 32 + 700 } } (fun t => t.fld F.PWR_ENERGY_HI_MJ = 5 && t.out = sup17.out ++ [.readData 7]) = true := by decide +kernel


/-! ### Resets, start-up, pins and JTAG (17, 19) -/

def off18 : State := { sec16 with sys := { sec16.sys with power := .off } }
def straps18 : Straps := { member := 70, ssc := 1, sris := 2, ddrMode := true }
def flash18 (ok : Bool) : BootFlash := let i : BootImage := { version := 1, svn := 9, headerOk := ok, bodyOk := true, recipes := [] }
  { slotA := i, slotB := i, manifest := none }
theorem test_power_on : after (.powerOnReset straps18 (flash18 true)) off18 (fun t => t.sys.power = .standby && t.sys.member = 6 && t.sys.bootOk && t.fld F.HXL_ID_MEMBER = 6 && t.fld F.CLK_SSC_DEPTH = 5) = true ∧
    after (.powerOnReset straps18 (flash18 true)) sec16 (fun t => t.sys.power = .run && t.sys.member = 0) = true := by decide +kernel
def pop18 : Population := { hbmFails := none, ddrDiffers := none, ddrUnsupported := none, mrdimm := false, onfiDiffers := none, onfiUnsupported := none, popDdr := 0x4804, popFlash := 0, devices := [(0, [10, 45, 350, 3900]), (1, [14, 48, 410, 3900])], ddrIdent := [], flashIdent := [] }
def stby18 (refclk : Bool) (res : List (Nat × List Byte)) : State := { sec16 with sys := { sec16.sys with power := .standby, starting := false, bootOk := true, vstby5 := true, restartOk := true, refclk := refclk, residents := res, cause := .sysRst, tripped := true } }
theorem test_may_start : (stby18 true []).mayStart 721 = false ∧ (stby18 true []).mayStart 720 = true := by decide +kernel
theorem test_startup_waits : after (.startup (flash18 true) pop18 [] 300 9) (stby18 false []) (fun t => t.sys.power = .standby && t.sys.starting && t.fld F.CLK_STARTUP_STAGE = 1) = true ∧
    (stby18 true [(256, [])]).residentBad = true ∧
    after (.startup (flash18 true) pop18 [] 300 9) (stby18 true [(256, [])]) (fun t => t.sys.power = .standby && t.sys.bootErr = 3 && t.fld F.CLK_STARTUP_STAGE = 2) = true := by decide +kernel
theorem test_startup_runs : after (.startup (flash18 true) pop18 [] 300 9) (stby18 true []) (fun t => t.sys.power = .run && t.fld F.TIER_POP_STATUS_ERR = 0 && decide (6 ≤ t.fld F.CLK_STARTUP_STAGE) && t.fld F.CLK_RESET_CAUSE_SYS_RST = 1 && t.fld F.CLK_RESET_CAUSE_POR = 0) = true := by decide +kernel
def bring18 (h : List BraceHalf) : State := { ((sec16.setFld F.TIER_STATUS_STORE_UP 0).setFld F.TIER_STATUS_LOCKED 1).setFld F.CLK_STARTUP_STAGE 8 with store := { sec16.store with braceHalves := h } }
theorem test_bringup : (bring18 []).braceFound = none ∧ after (.storeBringup true [] 77) (bring18 []) (fun t => t.storeUp && t.fld F.CLK_STARTUP_STAGE = 12 && t.fld F.CLK_STARTUP_TIME_US = 77 && t.fld F.PWR_BRACE_LAST_RESULT = 0) = true ∧
    after (.storeBringup true [] 77) (bring18 [{ header := true, committed := true }, {}]) (fun t => t.fld F.PWR_BRACE_LAST_RESULT = 1 && t.fld F.PWR_EVENT_BRACE_RECORD = 1) = true ∧
    after (.storeBringup true [] 77) (bring18 [{ header := true }, {}]) (fun t => t.fld F.PWR_BRACE_LAST_RESULT = 2) = true := by decide +kernel
def port18 (st : PortState) : State := sec16.setPort 3 { sec16.port 3 with state := st }
theorem test_refclk : after .refclkLoss { port18 .active with sys := { sec16.sys with refclk := true } } (fun t => !t.sys.refclk && t.sys.errFatal && (t.port 3).state = .failed && (t.port 4).state = .disabled) = true ∧
    after .refclkLoss { (stby18 true []) with out := [] } (fun t => !t.sys.refclk && !t.sys.errFatal) = true ∧ after .refclkRestored (stby18 false []) (fun t => t.sys.refclk) = true := by decide +kernel
theorem test_ssc : after (.clkSscWrite 64 0x1F) (sec16.setFld F.PST_STATUS_ALIGN_STATE 0) (fun t => t.fld F.CLK_SSC_DEPTH = 15 && t.fld F.CLK_STATUS_SSC_APPLIED = 10) = true ∧
    after (.clkSscWrite 64 5) ((port18 .active).setFld F.PST_STATUS_ALIGN_STATE 0) (fun t => t.fld F.CLK_EVENT_SSC_REFUSED = 1 && t.fld F.CLK_SSC_DEPTH = 0) = true := by decide +kernel
theorem test_sys_rst : after .sysRstAssert (half16 true) (fun t => t.sys.bracing && t.fld F.PWR_BRACE_LAST_CAUSE = 6 && t.sys.sysRst) = true ∧
    after .sysRstAssert ((half16 true).setFld F.CLK_STARTUP_STAGE 11) (fun t => !t.sys.bracing && t.sys.cause = .sysRst && t.sys.power = .standby) = true ∧
    after .sysRstAssert off18 (fun t => t.sys.sysRst) = true ∧ after .sysRstDeassert off18 (fun t => !t.sys.sysRst) = true := by decide +kernel
theorem test_perst : after (.perstAssert 1) sec16 (fun t => t.sys.perst = [false, true] && t.fld F.CLK_EVENT_PORT_RESET = 1) = true ∧ after (.perstAssert 0) off18 (fun t => t.sys.perst = [true, false]) = true ∧
    after (.perstDeassert 0) off18 (fun t => t.sys.perst = [false, false]) = true := by decide +kernel
theorem test_fence_req : after .fenceReqAssert sec16 (fun t => t.rack.selfFenced && t.sys.errFatal && t.fld F.CLK_EVENT_FENCE_REQ = 1) = true ∧
    after .fenceReqAssert (sec16.setFld F.CLK_STARTUP_STAGE 6) (fun t => !t.rack.selfFenced && t.sys.fenceReq) = true ∧ after .fenceReqAssert off18 (fun t => t.sys.fenceReq) = true := by decide +kernel
def dbg18 (l : DebugLevel) : State := { idle16 with sys := { idle16.sys with debug := l, vin12 := true, tapIr := 7, dbgComp := 9 } }
theorem test_jtag : after (.jtagDebugAccess .bypass) (dbg18 .quiet) (fun t => t.sys.tapIr = 3) = true ∧ after (.tapReset true) (dbg18 .quiet) (fun t => t.sys.tapIr = 0 && t.sys.trst) = true ∧
    after (.jtagDebugAccess (.readReg 0 F.CLK_STARTUP_STAGE.off 4)) (dbg18 .observe) (fun t => t.out = idle16.out ++ [.readData 12]) = true ∧
    after (.jtagDebugAccess (.readReg 0 F.CLK_STARTUP_STAGE.off 4)) (dbg18 .quiet) (fun t => t.out = idle16.out) = true ∧
    after (.jtagDebugAccess .halt) (dbg18 .invasive) (fun t => t.sys.halted) = true ∧ (dbg18 .maker).mayScan = true ∧ (dbg18 .invasive).mayScan = false ∧
    after (.jtagDebugAccess .scan) (dbg18 .maker) (fun t => t.sys.scanned) = true := by decide +kernel
theorem test_jtag_data : (dbg18 .maker).debugData = true ∧ (dbg18 .maker).debugMayRead 5 = true ∧ (dbg18 .invasive).debugMayRead 9 = true ∧ (dbg18 .invasive).debugMayRead 5 = false ∧ (dbg18 .maker).storeUp = true ∧
    (dbg18 .maker).isHome (16 * 2 ^ 30) = true ∧ ((dbg18 .maker).checkRead (16 * 2 ^ 23)).2 = none ∧ ((dbg18 .maker).checkRead (16 * 2 ^ 23)).1 = dbg18 .maker := by decide +kernel


/-! ### Management and counters (18) -/

def mgt19 (f : MgtState → MgtState) : State := { sec16 with mgt := f sec16.mgt, out := [] }
theorem test_mctp : sec16.answers 0 .plain = true ∧ sec16.answers 3 .plain = false ∧ sec16.mayUpdate 0 none = true ∧ sec16.mayUpdate 3 none = false ∧
    after (.entdaa 130) sec16 (fun t => t.mgt.i3cAddr = some 2) = true ∧ after (.setEndpointId 0 8) (mgt19 id) (fun t => t.mgt.eids = [some 8, none, none] && t.out = [.response 0 0 [8]]) = true ∧
    after (.setEndpointId 0 255) (mgt19 id) (fun t => t.mgt.eids = [none, none, none] && t.out = [.response 0 2 []]) = true := by decide +kernel
theorem test_pldm_base : after (.setTid 0 254) (mgt19 id) (fun t => t.mgt.tid = 254) = true ∧ after (.setTid 0 0) (mgt19 id) (fun t => t.out = [.response 0 2 []]) = true ∧
    after (.getPldmTypes 0) (mgt19 id) (fun t => t.out = [.response 0 0 [0x25, 0, 0, 0, 0, 0, 0, 0x80]]) = true ∧ after (.getPldmCommands 0 63) (mgt19 id) (fun t => t.out.length = 1) = true ∧
    after (.getPldmCommands 0 3) (mgt19 id) (fun t => t.out = [.response 0 0x80 []]) = true ∧ after (.getPldmVersion 0 6) (mgt19 id) (fun t => t.out = [.response 0 0x80 []]) = true := by decide +kernel
theorem test_sensors : after (.getPdr 0 1) (mgt19 id) (fun t => t.out = [.response 0 0 [1, 0, 0, 0x20, 3, 0x98, 3]]) = true ∧ after (.getPdr 0 27) (mgt19 id) (fun t => t.out = [.response 0 0x80 []]) = true ∧
    after (.getSensorReading 0 24 5000) (mgt19 id) (fun t => t.out = [.response 0 0 [0, 0x88, 0x13, 0, 0, 0, 0, 0, 0]]) = true ∧
    after (.getSensorReading 0 1 0) { (mgt19 id) with sys := { sec16.sys with power := .standby } } (fun t => t.out = [.response 0 0 [2]]) = true ∧
    after (.getStateSensorReadings 0 32) (mgt19 id) (fun t => t.out = [.response 0 0 [0, 0]]) = true := by decide +kernel
theorem test_events : after (.setEventReceiver 0 9) (mgt19 id) (fun t => t.mgt.receivers = [some 9, none, none]) = true ∧
    after (.pollForPlatformEventMessage 0) (mgt19 fun m => { m with queues := [[(32, 1), (33, 2)], [], []] }) (fun t => t.mgt.queues = [[(33, 2)], [], []] && t.out = [.response 0 0 [32, 0, 1]]) = true := by decide +kernel
theorem test_oem : after (.readSitzmark 0 63) (mgt19 id) (fun t => t.out.length = 1) = true ∧ after (.readSitzmark 0 64) (mgt19 id) (fun t => t.out = [.response 0 2 []]) = true ∧
    after (.readReturn 0 2 1) { (mgt19 id) with sys := { sec16.sys with returnRecord := [7, 8, 9] } } (fun t => t.out = [.response 0 0 [9]]) = true ∧
    after (.readReturn 0 0 193) (mgt19 id) (fun t => t.out = [.response 0 3 []]) = true ∧ after (.readReg 0 F.CLK_STARTUP_STAGE.off) (mgt19 id) (fun t => t.out = [.response 0 0 [12, 0, 0, 0]]) = true ∧
    after (.readReg 0 F.TIER_CTRL_LOCK.off) (mgt19 id) (fun t => t.out = [.response 0 2 []]) = true ∧ after (.getTid 3) (mgt19 id) (fun t => t.out = []) = true := by decide +kernel
def upd19 (st : UpdateState) (got : Nat) : State := mgt19 fun m => { m with update := some { endpoint := 0, state := st, slot := 1, maxTransfer := 64, listed := true, size := 100, got := got } }
def img19 (v : Nat) : BootImage := { version := v, svn := 9, headerOk := true, bodyOk := true, recipes := [] }
theorem test_request_update : after (.requestUpdate 0 none 64) (mgt19 id) (fun t => t.mgt.update.isSome && t.mgt.lastSlot = 1 && t.fld F.MGT_EVENT_FWUP = 1) = true ∧
    after (.requestUpdate 0 none 64) (upd19 .update 0) (fun t => t.out = [.response 0 0x81 []]) = true ∧ after (.cancelUpdate 0 none) (mgt19 id) (fun t => t.out = [.response 0 0x80 []]) = true := by decide +kernel
theorem test_component : after (.passComponentTable 0 none true 0x7220) (upd19 .update 0) (fun t => t.out = [.response 0 0 [0]]) = true ∧ after (.passComponentTable 0 none true 0x7221) (upd19 .update 0) (fun t => t.out = [.response 0 0 [1]]) = true ∧
    after (.updateComponent 0 none 4 100) (upd19 .update 0) (fun t => t.mgt.fwVersion = 4 && (t.mgt.update.map (·.state)) = some .download) = true := by decide +kernel
theorem test_chunk : after (.firmwareDataChunk 0 none 64 (img19 4)) (upd19 .download 35) (fun t => (t.mgt.update.map (·.got)) = some 99) = true ∧
    after (.firmwareDataChunk 0 none 64 (img19 4)) (upd19 .download 36) (fun t => (t.mgt.update.map (·.state)) = some .ready && t.mgt.lastResult = 1) = true ∧
    after (.firmwareDataChunk 0 none 64 (img19 0)) (upd19 .download 36) (fun t => t.mgt.update = none && t.mgt.lastResult = 2) = true := by decide +kernel
theorem test_activate : after (.activateFirmware 0 none false) (upd19 .ready 100) (fun t => t.mgt.activate && t.mgt.update = none) = true ∧ after (.activateFirmware 0 none true) (upd19 .ready 100) (fun t => t.out = [.response 0 0x8C []]) = true ∧
    after (.activateFirmware 0 none false) (upd19 .download 9) (fun t => t.out = [.response 0 0x85 []]) = true ∧ after (.cancelUpdateComponent 0 none) (upd19 .download 9) (fun t => (t.mgt.update.map (·.state)) = some .update && t.mgt.lastResult = 3) = true ∧
    after (.cancelUpdate 0 none) (upd19 .ready 9) (fun t => t.mgt.update = none && t.mgt.lastResult = 0) = true ∧ after (.getStatus 0 none) (upd19 .ready 9) (fun t => t.out = [.response 0 0 [5, 0]]) = true ∧
    after (.queryDeviceIdentifiers 0 none) (mgt19 id) (fun t => t.fresh = sec16.fresh + 1) = true ∧ after (.getFirmwareParameters 0 none) (mgt19 id) (fun t => t.out.length = 1) = true := by decide +kernel
/-- Counter 6 belongs to function 70 as its counter 3, counter 7 is chained to it when asked for; counter 6 is selected. -/
def pmc19 (chain fz : Bool) : State := { (mgt19 id).setFld F.PMC_SEL_COUNTER 6 with mgt := { sec16.mgt with pmcs := ⟨[(6, { en := true, event := 64, value := 2 ^ 32 + 5, func := 70, vidx := 3, assigned := true, freezeOnOvf := fz }), (7, { en := true, chain := chain, value := 8 })]⟩ } }
theorem test_pmc_control : after (.pmcSnap 64) (pmc19 false false) (fun t => (t.pmc 7).snap = 8) = true ∧ after (.pmcSnap 65) (pmc19 false false) (fun t => (t.pmc 7).snap = 0) = true ∧ after (.pmcClearAll 0) (pmc19 false false) (fun t => (t.pmc 7).value = 0) = true ∧
    after (.pmcFreeze 0) (pmc19 false false) (fun t => t.mgt.pmcFrozen) = true ∧ after (.pmcUnfreeze 0) { pmc19 false false with mgt := { (pmc19 false false).mgt with pmcFrozen := true } } (fun t => !t.mgt.pmcFrozen) = true ∧
    after (.pmcVSnap 70) (pmc19 false false) (fun t => (t.pmc 6).snap = 2 ^ 32 + 5 && (t.pmc 7).snap = 0) = true ∧ after (.pmcVFreeze 70) (pmc19 false false) (fun t => (t.pmc 6).frozen && !(t.pmc 7).frozen) = true ∧
    after (.pmcVUnfreeze 70) (pmc19 false false) (fun t => !(t.pmc 6).frozen) = true := by decide +kernel
theorem test_pmc_owner : after (.pmcOwnerWrite 0 0x1000) (pmc19 false false) (fun t => (t.pmc 6).assigned && (t.pmc 6).func = 0 && (t.pmc 6).value = 0 && !(t.pmc 6).en) = true ∧
    after (.pmcOwnerWrite 0 0x11C6) ((pmc19 false false).setFld F.PMC_SEL_COUNTER 9) (fun t => (t.pmc 9).assigned && (t.pmc 9).vidx = 3 && !(t.pmc 6).assigned && (t.pmc 6).value = 0) = true := by decide +kernel
theorem test_pmc_overflow : after (.pmcOverflow 6 (2 ^ 48 + 3)) (pmc19 false true) (fun t => (t.pmc 6).value = 3 && (t.pmc 6).ovf && t.mgt.pmcFrozen && t.fld F.PMC_OVF_FIRST_COUNTER = 6) = true ∧
    (pmc19 true true).chained 7 = true ∧ (pmc19 true true).chained 6 = false ∧ after (.pmcOverflow 6 1) (pmc19 true true) (fun t => !(t.pmc 6).ovf && (t.pmc 7).value = 9) = true := by decide +kernel
theorem test_pmc_read : after (.pmcValueLoRead 64 F.PMC_VALUE_LO_VALUE.off F.PMC_VALUE_LO_VALUE.off 4) (pmc19 false false) (fun t => t.mgt.pmcHi = 1 && t.out = [.readData 5]) = true := by decide +kernel


/-! ### The bus and work items (00, 01, 02, 14) -/

theorem test_bus : after (.registerWrite 0 F.CLK_SLEW_XSPI.off 4 0xFF) sec16 (fun t => t.fld F.CLK_SLEW_XSPI = 3) = true ∧ after (.registerWrite 0 F.CLK_SLEW_XSPI.off 2 0xFF) sec16 (fun t => t.fld F.CLK_SLEW_XSPI = sec16.fld F.CLK_SLEW_XSPI) = true ∧
    after (.registerWrite 0 F.CLK_EVENT_STARTUP_DONE.off 4 1) ((sec16.setFld F.CLK_EVENT_STARTUP_DONE 1).setFld F.CLK_EVENT_PORT_RESET 1) (fun t => t.fld F.CLK_EVENT_STARTUP_DONE = 0 && t.fld F.CLK_EVENT_PORT_RESET = 1) = true ∧
    after (.registerWrite 1 F.CLK_SLEW_XSPI.off 4 0xFF) sec16 (fun t => t.fld F.CLK_SLEW_XSPI = sec16.fld F.CLK_SLEW_XSPI) = true ∧ sec16.mayWrite 64 F.FN_ADM_QP_ALLOT_QP.off = true ∧ sec16.mayWrite 1 F.CLK_SLEW_XSPI.off = false ∧
    after (.registerWrite 0 F.CLK_MEAS_SEL_CLOCK.off 8 5) sec16 (fun t => t.fld F.CLK_MEAS_SEL_CLOCK = 5) = true := by decide +kernel
theorem test_event_en : isEventEn F.CLK_EVENT_EN_EN.off = true ∧
    after (.eventEnWrite 64 F.CLK_EVENT_EN_EN.off 1) (sec16.setFld F.CLK_EVENT_STARTUP_DONE 1) (fun t => t.cmdq.pbaPending.getD (2048 * 64) false && t.fldAt 64 F.CLK_EVENT_EN_EN = 1) = true ∧
    after (.eventEnWrite 64 F.CLK_EVENT_EN_EN.off 1) { sec16.setFld F.CLK_EVENT_STARTUP_DONE 1 with cmdq := { sec16.cmdq with unmasked := ⟨[(2048 * 64, true)]⟩ } } (fun t => t.out = sec16.out ++ [.msix 64 0]) = true ∧
    after (.eventEnWrite 64 F.CLK_EVENT_EN_EN.off 1) sec16 (fun t => t.out = sec16.out && !t.cmdq.pbaPending.getD (2048 * 64) false) = true ∧ after (.eventEnWrite 64 F.CLK_SLEW_XSPI.off 1) sec16 (fun t => t.fld F.CLK_SLEW_XSPI = sec16.fld F.CLK_SLEW_XSPI) = true := by decide +kernel
/-- Member 0 alone, its map's epoch 5, no work about; gate block 0 of composition 9 stands. -/
def work20 : State := { idle16 with gate := { sec16.gate with blocks := ⟨[(0, { valid := true, comp := 9 })]⟩ }, rack := { sec16.rack with map := { sec16.rack.map with epoch := 5 } } }
theorem test_may_serve : work20.MayServe 3 7 0 := ⟨by decide +kernel, by decide +kernel, by decide +kernel, by decide +kernel, by decide +kernel, by decide +kernel, by decide +kernel⟩
theorem test_epoch_age : work20.epochAge 5 = 0 ∧ work20.epochAge 4 = 1 ∧ work20.epochAge 6 = 65535 ∧ work20.isHome 4096 = true ∧ work20.serverOf 0 = work20.sys.member ∧ work20.unaligned 0 = false ∧
    (work20.setFld F.PST_STATUS_ALIGN_STATE 0).unaligned 0 = true ∧ (work20.gateFails 0 9) = none := by decide +kernel
theorem test_work_read : after (.work 3 7 5 0 false false 64 0 4096 [16, 0]) work20 (fun t => t.out = work20.out ++ [.workAnswer 3 7 0 0 (List.replicate 16 0)]) = true ∧
    after (.work 3 7 5 0 false false 64 1 4096 [1, 2, 3]) work20 (fun t => t.bytes 4096 4 = [1, 2, 3, 0] && t.out = work20.out ++ [.workAnswer 3 7 0 0 []]) = true ∧
    after (.work 3 7 5 0 false true 0 2 1 [5, 0, 0, 0, 9, 0]) { work20 with gate := { work20.gate with vals := ⟨[(1, 2 ^ 32 - 2)]⟩ } } (fun t => t.gateVal 1 = 3 && t.out = work20.out ++ [.workAnswer 3 7 0 0 [3, 0, 0, 0, 0, 0, 0, 0]]) = true ∧
    after (.work 3 7 6 0 false false 64 0 4096 [16, 0]) work20 (fun t => t.rack.held.length = 1) = true ∧
    after (.work 3 7 5 0 false false 64 0 4096 [16, 0]) (work20.setFld F.PST_STATUS_ALIGN_STATE 0) (fun t => t.rack.held.length = 1 && t.out = work20.out) = true ∧
    after (.work 3 7 5 0 false false 64 0 4096 [16, 0]) { work20 with sys := { work20.sys with bracing := true } } (fun t => t.out = work20.out ++ [.workAnswer 3 7 0x3F 0xF1 []]) = true := by decide +kernel
/-- Slot 2 is served by member 6. -/
def far20 : State := { work20 with rack := { work20.rack with map := { work20.rack.map with server := [0, 0, 6], state := [.active, .absent, .absent, .absent, .absent, .absent, .active, .absent, .fenced] } } }
theorem test_work_elsewhere : far20.serverOf 2 = 6 ∧ after (.work 3 7 5 0 false true 2 2 1 [5, 0, 0, 0, 9, 0]) far20 (fun t => t.out = work20.out ++ [.workAnswer 3 7 0x0A 0xB6 []]) = true ∧
    after (.work 3 7 4 0 false true 2 2 1 [5]) far20 (fun t => t.out = work20.out ++ [.item 6 3 7 4 0 true true 2 2 1 [5]]) = true ∧ after (.work 3 7 4 0 true true 2 2 1 [5]) far20 (fun t => t.out = work20.out ++ [.workAnswer 3 7 0x0A 0xB1 []]) = true ∧
    after (.work 3 7 4 0 false true 2 2 1 [5]) { far20 with frame := 65 } (fun t => t.out = work20.out ++ [.workAnswer 3 7 0x0A 0xB0 []]) = true ∧ after (.work 8 7 5 0 false true 2 2 1 [5]) far20 (fun t => t.out = work20.out) = true := by decide +kernel


/-! ### WellFormed refuses an ill-formed command, one for each check -/

theorem test_wf_function : (Instr.eventEnWrite 128 0 0).wf = false := by decide
theorem test_wf_vf : (Instr.fnAdmSelWrite 0 64).wf = false := by decide
theorem test_wf_port : (Instr.fnHxlSelWrite 0 16).wf = false := by decide
theorem test_wf_pcie : (Instr.pcieLinkDown 2).wf = false := by decide
theorem test_wf_queue_pair : (Instr.sqTailDoorbell 0 2048 0).wf = false := by decide
theorem test_wf_half : (Instr.cqHeadDoorbell 0 0 65536).wf = false := by decide
theorem test_wf_vector : (Instr.msixVectorUnmask 0 2048).wf = false := by decide
theorem test_wf_context : (Instr.xltCtxSelWrite 0 4096).wf = false := by decide
theorem test_wf_segment : (Instr.xltSegSelWrite 0 16).wf = false := by decide
theorem test_wf_core : (Instr.recipeNop 1200).wf = false := by decide
theorem test_wf_checker : ∀ a b, (Instr.checkerError 3072 a b).wf = false := fun _ _ => rfl
theorem test_wf_counter : ∀ a, (Instr.pmcOverflow 2048 a).wf = false := fun _ => rfl
theorem test_wf_member : (Instr.workCancel 64 0).wf = false := by decide
theorem test_wf_block : (Instr.gateBlkSelWrite 0 1024).wf = false := by decide
theorem test_wf_endpoint : (Instr.getVersion 3).wf = false := by decide
theorem test_wf_agent : (Instr.reclaimEnd 512).wf = false := by decide
theorem test_wf_granule : (Instr.holdGranuleAcquired (2 ^ 49)).wf = false := by decide
theorem test_wf_page : (Instr.moveDirectorySwitch (2 ^ 44)).wf = false := by decide
theorem test_wf_half_of_two : (Instr.braceAreaErased 2).wf = false := by decide
theorem test_wf_good : (Instr.sqTailDoorbell 127 2047 65535).wf = true := by decide

end Sys2Proof.Tests
end

section
/-!
The registers after reset (R11): the field tables place no two fields on one bit, so each register's reset word shows every
field's Reset column.
-/
namespace Sys2Proof.Machine

open Sys2Proof

/-- Two rows whose bits do not meet, wherever their registers stand. -/
abbrev FieldRow.Beside (r x : FieldRow) : Prop := r.fld.hi < x.fld.lo ∨ x.fld.hi < r.fld.lo

/-- Two rows that share no bit of any register: their bits do not meet, or none of the registers of one is a register of the other. -/
abbrev FieldRow.Apart (r x : FieldRow) : Prop :=
  r.Beside x ∨ ∀ k < r.count, x.covers (r.fld.off + k * r.stride) = false

/-- A row as R8 and R24 have it: its bits lie in a 32-bit register, its Reset column fits them, and its registers lie in window `i`. -/
abbrev FieldRow.Placed (i : Nat) (r : FieldRow) : Prop :=
  (r.fld.lo ≤ r.fld.hi ∧ r.fld.hi < 32 ∧ r.reset < 2 ^ (r.fld.hi + 1 - r.fld.lo)) ∧ (r.count = 1 ∨ 0 < r.stride) ∧
  0x100000 * i ≤ r.fld.off ∧ r.fld.off + r.count * r.stride < 0x100000 * (i + 1)

/-- The check of the field tables: in each window every row is well placed, and no two rows share a bit of a register. -/
theorem blockRows_placed_apart : ∀ i < 15,
    (∀ r ∈ blockRows (0x100000 * i), r.Placed i) ∧ (blockRows (0x100000 * i)).Pairwise FieldRow.Apart := by
  decide +kernel

/-- All rows are the rows of the fifteen windows. -/
theorem allRows_eq_flatMap : allRows = (List.range 15).flatMap fun i => blockRows (0x100000 * i) := by
  simp [allRows, List.range_succ, blockRows]

theorem blockRows_congr {a b : Nat} (h : a / 0x100000 = b / 0x100000) : blockRows a = blockRows b := by
  unfold blockRows; rw [h]

/-- A row covers exactly the registers it counts, `stride` bytes apart. -/
theorem FieldRow.covers_iff {r : FieldRow} (h : r.count = 1 ∨ 0 < r.stride) (off : Nat) :
    r.covers off = true ↔ ∃ k < r.count, off = r.fld.off + k * r.stride := by
  unfold FieldRow.covers
  split
  · rename_i h1
    simp [h1, eq_comm]
  · rename_i h1
    have hs : 0 < r.stride := h.resolve_left h1
    simp only [Bool.and_eq_true, decide_eq_true_eq, beq_iff_eq]
    constructor
    · rintro ⟨⟨hle, hlt⟩, hmod⟩
      refine ⟨(off - r.fld.off) / r.stride, (Nat.div_lt_iff_lt_mul hs).mpr (by omega), ?_⟩
      rw [Nat.div_mul_cancel (Nat.dvd_of_mod_eq_zero hmod)]
      omega
    · rintro ⟨k, hk, rfl⟩
      have := Nat.mul_lt_mul_of_pos_right hk hs
      simp [this]

/-- In one register the rows' bits do not meet. -/
theorem regRows_beside {i : Nat} (hi : i < 15) {off : Nat} (ho : off / 0x100000 = i) :
    (regRows off).Pairwise FieldRow.Beside := by
  obtain ⟨hplaced, hapart⟩ := blockRows_placed_apart i hi
  have hb : blockRows off = blockRows (0x100000 * i) := blockRows_congr (by omega)
  unfold regRows
  rw [hb, List.pairwise_filter]
  refine hapart.imp_of_mem ?_
  intro r x hr _ hrx hro hxo
  refine hrx.resolve_right fun hnone => ?_
  obtain ⟨-, hstride, -⟩ := hplaced r hr
  obtain ⟨k, hk, rfl⟩ := (FieldRow.covers_iff hstride off).mp hro
  simp [hnone k hk] at hxo

/-- Fields set beside a field leave it. -/
theorem bf_foldl_setBf_other {l : List FieldRow} {r : FieldRow} (hl : ∀ x ∈ l, x.fld.lo ≤ x.fld.hi ∧ x.fld.hi < 32)
    (hr : ∀ x ∈ l, r.Beside x) (w : Word) :
    bf (l.foldl (fun w x => setBf w x.fld.hi x.fld.lo x.reset) w) r.fld.hi r.fld.lo = bf w r.fld.hi r.fld.lo := by
  induction l generalizing w with
  | nil => rfl
  | cons x l ih =>
    obtain ⟨hlo, hhi⟩ := hl x (by simp)
    rw [List.foldl_cons, ih (fun y hy => hl y (by simp [hy])) (fun y hy => hr y (by simp [hy]))]
    exact bf_setBf_other w _ hlo hhi (hr x (by simp))

/-- Of fields that do not meet each reads what was set in it. -/
theorem bf_foldl_setBf_mem {l : List FieldRow} (hb : l.Pairwise FieldRow.Beside)
    (hl : ∀ x ∈ l, x.fld.lo ≤ x.fld.hi ∧ x.fld.hi < 32) {r : FieldRow} (hr : r ∈ l) (w : Word) :
    bf (l.foldl (fun w x => setBf w x.fld.hi x.fld.lo x.reset) w) r.fld.hi r.fld.lo =
      r.reset % 2 ^ (r.fld.hi + 1 - r.fld.lo) := by
  induction l generalizing w with
  | nil => cases hr
  | cons x l ih =>
    obtain ⟨hx, hb⟩ := List.pairwise_cons.mp hb
    have hl' : ∀ y ∈ l, y.fld.lo ≤ y.fld.hi ∧ y.fld.hi < 32 := fun y hy => hl y (by simp [hy])
    obtain ⟨hlo, hhi⟩ := hl x List.mem_cons_self
    rw [List.foldl_cons]
    rcases List.mem_cons.mp hr with rfl | hr
    · rw [bf_foldl_setBf_other hl' hx]
      exact bf_setBf_same w _ hlo hhi
    · exact ih hb hl' hr _

/-- R11: a field of a register's reset word is its Reset column. -/
theorem bf_resetWord {r : FieldRow} (hr : r ∈ allRows) {k : Nat} (hk : k < r.count) :
    bf (resetWord (r.fld.off + k * r.stride)) r.fld.hi r.fld.lo = r.reset := by
  simp only [allRows_eq_flatMap, List.mem_flatMap, List.mem_range] at hr
  obtain ⟨i, hi, hr⟩ := hr
  have hplaced := (blockRows_placed_apart i hi).1
  obtain ⟨⟨_, _, hreset⟩, hstride, hlow, hhigh⟩ := hplaced r hr
  have hwindow : (r.fld.off + k * r.stride) / 0x100000 = i := by
    have := Nat.mul_le_mul_right r.stride hk.le
    omega
  have hb : blockRows (r.fld.off + k * r.stride) = blockRows (0x100000 * i) := blockRows_congr (by omega)
  have hmem : r ∈ regRows (r.fld.off + k * r.stride) :=
    List.mem_filter.mpr ⟨hb ▸ hr, (FieldRow.covers_iff hstride _).mpr ⟨k, hk, rfl⟩⟩
  have hfit : ∀ x ∈ regRows (r.fld.off + k * r.stride), x.fld.lo ≤ x.fld.hi ∧ x.fld.hi < 32 := by
    intro x hx
    obtain ⟨⟨hlo, hhi, -⟩, -⟩ := hplaced x (hb ▸ List.mem_of_mem_filter hx)
    exact ⟨hlo, hhi⟩
  exact (bf_foldl_setBf_mem (regRows_beside hi hwindow) hfit hmem 0).trans (Nat.mod_eq_of_lt hreset)

/-- After reset a field reads as in its register's reset word: the register file is empty. -/
theorem State.fld_reset (f : Fld) : State.reset.fld f = bf (resetWord f.off) f.hi f.lo := rfl

/-- Settles O15: no two rows of the field tables share a bit of a register, so each field of a reset word is its Reset column; the
rest of the state is empty after reset. -/
theorem resetHolds : Obligations.ResetHolds := by
  unfold Obligations.ResetHolds
  refine ⟨fun r hr k hk _ => ?_, rfl, rfl, rfl, fun _ _ => rfl⟩
  rw [State.fld_reset]
  exact bf_resetWord hr hk

end Sys2Proof.Machine
end

section
/-!
Register accesses (R6 to R9, R12, R70, R542): what a write does to the fields of a register, which writes are no commands, and
when an event enable sends vector 0.
-/
namespace Sys2Proof.Machine

open Sys2Proof

/-! ### What a write does to the bits of W1C fields (R8) -/

/-- The row's field has bit `i`. -/
def FieldRow.hasBit (r : FieldRow) (i : Nat) : Bool := decide (r.fld.lo ≤ i ∧ i ≤ r.fld.hi)

/-- A row whose field lies in its register and is cleared where 1 is written. -/
abbrev FieldRow.Clears (r : FieldRow) : Prop := r.acc = .w1c ∧ r.fld.lo ≤ r.fld.hi ∧ r.fld.hi < 32

/-- The field of a value, alone in a word, has the value's bits there and 0 beside it. -/
theorem FieldRow.getLsbD_setBf_zero {r : FieldRow} (hlo : r.fld.lo ≤ r.fld.hi) (hhi : r.fld.hi < 32) (v : Word) (i : Nat) :
    (setBf (0 : Word) r.fld.hi r.fld.lo (bf v r.fld.hi r.fld.lo)).getLsbD i = (r.hasBit i && v.getLsbD i) := by
  change (setBf (0 : Word) r.fld.hi r.fld.lo (bf v r.fld.hi r.fld.lo)).toNat.testBit i = (r.hasBit i && v.toNat.testBit i)
  rw [setBf_testBit _ _ _ hlo hhi, bf_testBit, FieldRow.hasBit]
  by_cases h : r.fld.lo ≤ i ∧ i ≤ r.fld.hi
  · simp [h, show i - r.fld.lo < r.fld.hi + 1 - r.fld.lo by omega]
  · simp [h]

/-- A bit of a register of W1C fields after a write: cleared where a field has it and it is written 1, and else as it was. -/
theorem getLsbD_written_w1c {off : Nat} (h : ∀ r ∈ regRows off, r.Clears) (old v : Word) {i : Nat} (hi : i < 32) :
    (written off old v).getLsbD i = (old.getLsbD i && !((regRows off).any (·.hasBit i) && v.getLsbD i)) := by
  unfold written
  generalize regRows off = rows at h
  induction rows generalizing old with
  | nil => simp
  | cons r rows ih =>
    obtain ⟨hacc, hlo, hhi⟩ := h r List.mem_cons_self
    rw [List.foldl_cons, ih _ fun x hx => h x (List.mem_cons_of_mem _ hx)]
    simp only [hacc, BitVec.getLsbD_and, BitVec.getLsbD_not, FieldRow.getLsbD_setBf_zero hlo hhi, hi, List.any_cons]
    cases r.hasBit i <;> cases v.getLsbD i <;> simp

/-- A field of one bit reads as that bit. -/
theorem bf_single {n : Nat} (w : BitVec n) (i : Nat) : bf w i i = (w.getLsbD i).toNat := by
  simp [bf, BitVec.getLsbD, Nat.shiftRight_eq_div_pow, Nat.toNat_testBit]

/-- A W1C field of one bit after a write. -/
theorem bf_written_w1c {off : Nat} (h : ∀ r ∈ regRows off, r.Clears) (old v : Word) {i : Nat} (hi : i < 32)
    (hrow : (regRows off).any (·.hasBit i) = true) :
    bf (written off old v) i i = if v.getLsbD i then 0 else bf old i i := by
  rw [bf_single, bf_single, getLsbD_written_w1c h old v hi, hrow]
  cases v.getLsbD i <;> simp

/-! ### Writes that only set a word of the register file (R8) -/

/-- The registers of the block windows whose write is a command, the event enables apart. -/
def commandRegs : List Nat :=
  [F.FN_QP_CTRL_ENABLE.off, F.FN_ADM_SEL_FUNC.off, F.FN_ADM_APPLY_APPLY.off, F.FN_HXL_SEL_PORT.off, F.FN_HXL_APPLY_APPLY.off,
   F.PST_ALIGN_CTRL_ALIGN_EN.off, F.PST_LOAD_LOAD.off, F.PST_SWITCH_CTRL_ARM.off, F.XLT_CTX_SEL_CTX.off, F.XLT_SEG_SEL_SEG.off,
   F.XLT_APPLY_CTX.off, F.XLT_ATC_FLUSH_PORT0.off, F.TIER_CTRL_LOCK.off, F.CORE_EXT_CTRL_LOAD.off, F.HXL_PORT_CFG_EN.off,
   F.HXL_PORT_CTRL_RETRAIN.off, F.HXL_ROUTE_PORTS.off, F.COH_AGENT_CTRL_INDEX.off, F.COH_PROBE_CTRL_PROBE.off,
   F.GATE_BLK_SEL_BLOCK.off, F.GATE_BLK_APPLY_APPLY.off, F.GATE_DBG_CTRL_READ.off, F.ERR_SITZ_CTRL_UNFREEZE.off,
   F.ERR_FIRST_CTRL_CLEAR.off, F.ERR_UNIT_CTRL_ONLINE.off, F.ERR_INJ_CTRL_FIRE.off, F.SEC_SVN_CTRL_COMMIT.off,
   F.SEC_LC_CTRL_PROVISION.off, F.SEC_TOKEN_CTRL_SUBMIT.off, F.SEC_PWR_CTRL_TARGET.off, F.PWR_CTRL_CLEAR_MINMAX.off,
   F.CLK_SSC_DEPTH.off, F.MGT_METER_CTRL_SNAP.off, F.PMC_CTRL_SNAP.off, F.PMC_OWNER_FUNC.off, F.PMC_V_CTRL_SNAP.off]

/-- The registers whose value stands in a structure, or whose write is checked or does more than set its fields. -/
abbrev HeldElsewhere (off : Nat) : Prop :=
  off = 0x100004 ∨ (0x100034 ≤ off ∧ off ≤ 0x100048) ∨ off = F.TIER_HEAT_CFG_EPOCH_FRAMES.off ∨ off = F.EMB_HOOK_SLOT.off ∨
  off = F.HXL_EP_ROUTE_MEMBER1.off ∨ off = F.HXL_RACK_ROUTE_PORTS.off ∨ off = F.GATE_WD_MS.off ∨
  (0xB00020 ≤ off ∧ off < 0xB00050) ∨ (0xB00100 ≤ off ∧ off < 0xB001A0) ∨ (0xC00000 ≤ off ∧ off < 0xD00000) ∨
  (0xE08000 ≤ off ∧ off < 0xE0C000) ∨ (0xE0C000 ≤ off ∧ off < 0xE0C408)

/-- A register of a block window whose write is no command and only sets its word of the register file. -/
abbrev PlainReg (off : Nat) : Prop :=
  0x100000 ≤ off ∧ off % 4 = 0 ∧ isEventEn off = false ∧ off ∉ commandRegs ∧ hasOwnWrite off = false ∧ ¬ HeldElsewhere off

theorem PlainReg.aligned {off : Nat} (h : PlainReg off) : off % 4 = 0 := h.2.1

/-- A write that is no command goes to the register's fields. -/
theorem busWrite_of_plain {off : Nat} (h : PlainReg off) (src : Nat) (v : Word) (s : State) :
    busWrite src off v s = .next (s.writeRegister src off v) := by
  obtain ⟨hblock, -, henable, hcommand, -, -⟩ := h
  simp only [commandRegs, List.mem_cons, List.not_mem_nil, or_false, not_or] at hcommand
  simp [busWrite, henable, hcommand, Nat.not_lt.mpr hblock]

/-- A write that the function may not make is discarded (R8). -/
theorem State.writeRegister_of_not_mayWrite {s : State} {src off : Nat} (h : s.mayWrite src off = false) (v : Word) :
    s.writeRegister src off v = s := by
  simp [State.writeRegister, h]

/-- A write that the function may make sets the word of a plain register. -/
theorem State.writeRegister_of_mayWrite {s : State} {src off : Nat} (hp : PlainReg off) (h : s.mayWrite src off = true) (v : Word) :
    s.writeRegister src off v = s.setRegAt src off (written off (s.regAt src off) v) := by
  obtain ⟨-, -, -, -, hown, hheld⟩ := hp
  simp only [HeldElsewhere, not_or] at hheld
  simp only [State.writeRegister, hown, h, hheld, if_false, Bool.not_true, Bool.or_false, Bool.false_eq_true]

theorem State.setRegAt_only (s : State) (src off : Nat) (w : Word) : Frame [.regs] s (s.setRegAt src off w) := by
  intro p hp
  cases p with
  | regs => exact absurd (List.mem_singleton_self _) hp
  | _ => rfl

/-! ### The access itself (R6, R7) -/

theorem exec_registerWrite_word (src : Nat) {a : Nat} (ha : a % 4 = 0) (v : BitVec 64) (s : State) :
    exec (.registerWrite src a 4 v) s = busWrite src a (BitVec.ofNat 32 v.toNat) s := by
  show execRegisterWrite src a 4 v s = _
  simp [execRegisterWrite, ha]

theorem exec_registerWrite_pair (src : Nat) {a : Nat} (ha : a % 8 = 0) (v : BitVec 64) {s t : State}
    (h : busWrite src a (BitVec.ofNat 32 v.toNat) s = .next t) :
    exec (.registerWrite src a 8 v) s = busWrite src (a + 4) (BitVec.ofNat 32 (v.toNat / 2 ^ 32)) t := by
  show execRegisterWrite src a 8 v s = _
  rw [execRegisterWrite, if_neg (by simp), if_pos (by simp [ha]), h]

theorem exec_registerWrite_discard (src a len : Nat) (v : BitVec 64) (s : State) (h4 : ¬(len = 4 ∧ a % 4 = 0))
    (h8 : ¬(len = 8 ∧ a % 8 = 0)) : exec (.registerWrite src a len v) s = .next s := by
  show execRegisterWrite src a len v s = _
  simp only [execRegisterWrite, Bool.and_eq_true, decide_eq_true_eq, h4, h8, if_false]

/-- An allowed write of a plain register sets its word as the access codes say. -/
theorem exec_registerWrite_plain {s : State} {src off : Nat} (hp : PlainReg off) (h : s.mayWrite src off = true) (v : BitVec 64) :
    exec (.registerWrite src off 4 v) s =
      .next (s.setRegAt src off (written off (s.regAt src off) (BitVec.ofNat 32 v.toNat))) := by
  rw [exec_registerWrite_word src hp.aligned, busWrite_of_plain hp, State.writeRegister_of_mayWrite hp h]

theorem exec_registerWrite_not_mayWrite {s : State} {src off : Nat} (hp : PlainReg off) (h : s.mayWrite src off = false)
    (v : BitVec 64) : exec (.registerWrite src off 4 v) s = .next s := by
  rw [exec_registerWrite_word src hp.aligned, busWrite_of_plain hp, State.writeRegister_of_not_mayWrite h]

/-- The registers of CLK are written by the physical functions, and by them alone (R38, R542). -/
theorem State.mayWrite_clk (s : State) (src : Nat) {off : Nat} (hlow : 0xD00000 ≤ off) (hhigh : off < 0xE00000) :
    s.mayWrite src off = decide (src < 128 ∧ src % 64 = 0) := by
  have hown : isOwnWindow off = false := by
    simp only [isOwnWindow, Bool.or_eq_false_iff, Bool.and_eq_false_iff, decide_eq_false_iff_not]
    omega
  have hadmin : off ≠ 0x700000 ∧ off ≠ 0x700048 ∧ off ≠ 0x700050 ∧ off ≠ 0x700058 := by omega
  have hranges : ¬ off < 0x101100 ∧ ¬ off < 0x200000 ∧ ¬ off < 0x400000 ∧ ¬ off < 0x400020 ∧ ¬ off < 0x900014 := by omega
  by_cases hsrc : src < 128
  · by_cases hpf : src % 64 = 0 <;> simp [State.mayWrite, hown, hadmin, hranges, hsrc, hpf, Nat.not_le.mpr hsrc]
  · simp [State.mayWrite, hsrc, Nat.not_lt.mp hsrc]

/-- A register outside the FN window that is no event enable stands once, for every function that sees it (R92, R12). -/
theorem State.regAt_once (s : State) (src : Nat) {off : Nat} (hfn : off / 0x100000 ≠ 1) (hen : isSharedEventEn off = false) :
    s.regAt src off = s.regAt 0 off := by
  simp [State.regAt, regKey, hfn, hen]

/-! ### Event enables and vector 0 (R12, R70) -/

theorem State.sendMsix_unmasked {s : State} {func vec : Nat} (h : s.cmdq.unmasked.getD (2048 * func + vec) false = true) :
    s.sendMsix func vec = s.emit (.msix func vec) := by
  simp [State.sendMsix, h]

theorem State.sendMsix_masked {s : State} {func vec : Nat} (h : s.cmdq.unmasked.getD (2048 * func + vec) false = false) :
    s.sendMsix func vec =
      { s with cmdq := { s.cmdq with pbaPending := s.cmdq.pbaPending.set (2048 * func + vec) true } } := by
  simp [State.sendMsix, h]

/-- A message touches the output and the MSI-X bits alone. -/
theorem State.sendMsix_only (s : State) (func vec : Nat) : Frame [.out, .msix] s (s.sendMsix func vec) := by
  intro p hp
  refine (State.sendMsix_keeps (m := partsMask [.out, .msix]) s func vec (by decide) (Kept.refl _ _)).frame p ?_
  rw [testBit_partsMask]; simpa using hp

@[simp] theorem State.regAt_sendMsix (s : State) (func vec a b : Nat) : (s.sendMsix func vec).regAt a b = s.regAt a b := by
  simp [State.regAt]

/-- An allowed write of an event enable sets its word, and sends vector 0 where an enable newly set meets its event. -/
theorem exec_eventEnWrite {s : State} {src off : Nat} {v new : Word} (he : isEventEn off = true) (hm : s.mayWrite src off = true)
    (hnew : new = written off (s.regAt src off) v) :
    exec (.eventEnWrite src off v) s = .next
      (if new &&& ~~~(s.regAt src off) &&& s.regAt src (off - 4) = 0 then s.setRegAt src off new
       else (s.setRegAt src off new).sendMsix src 0) := by
  subst hnew
  show execEventEnWrite src off v s = _
  simp [execEventEnWrite, he, hm]

theorem exec_eventEnWrite_discard {s : State} {src off : Nat} (v : Word) (h : isEventEn off = false ∨ s.mayWrite src off = false) :
    exec (.eventEnWrite src off v) s = .next s := by
  show execEventEnWrite src off v s = _
  rcases h with h | h <;> simp [execEventEnWrite, h]

/-! ### The statement -/

/-- The plain registers that the statement names. -/
abbrev namedRegs : List Nat :=
  [F.CLK_SLEW_XSPI.off, F.CLK_MEAS_SEL_CLOCK.off, F.CLK_EVENT_STARTUP_DONE.off, F.TIER_EVENT_STORE_UP.off,
   F.PST_EVENT_ALIGN_LOCKED.off, F.MGT_EVENT_FWUP.off, F.FN_ADM_QP_ALLOT_QP.off, F.FN_ADM_LL_RESERVE_RESERVE.off,
   F.GATE_WD_SEL_CTX.off]

theorem namedRegs_plain : ∀ off ∈ namedRegs, PlainReg off := by decide

/-- CLK_EVENT holds W1C fields alone. -/
theorem clkEvent_clears : ∀ r ∈ regRows F.CLK_EVENT_STARTUP_DONE.off, r.Clears := by decide

/-- CLK_EVENT written by a physical function: each event bit written 1 is cleared, each other stands (R8). -/
theorem exec_registerWrite_clkEvent (s : State) {src : Nat} (hsrc : src < 128 ∧ src % 64 = 0) (v : BitVec 64) :
    ∃ t, exec (.registerWrite src F.CLK_EVENT_STARTUP_DONE.off 4 v) s = .next t ∧
      ∀ i < 32, (regRows F.CLK_EVENT_STARTUP_DONE.off).any (·.hasBit i) = true →
        t.fld ⟨F.CLK_EVENT_STARTUP_DONE.off, i, i⟩ =
          if v.getLsbD i then 0 else s.fld ⟨F.CLK_EVENT_STARTUP_DONE.off, i, i⟩ := by
  have hmay : s.mayWrite src F.CLK_EVENT_STARTUP_DONE.off = true := by
    rw [State.mayWrite_clk s src (by decide) (by decide), decide_eq_true hsrc]
  refine ⟨_, exec_registerWrite_plain (namedRegs_plain _ (by decide)) hmay v, fun i hi hrow => ?_⟩
  have honce (u : State) : u.regAt src F.CLK_EVENT_STARTUP_DONE.off = u.regAt 0 F.CLK_EVENT_STARTUP_DONE.off :=
    u.regAt_once src (by decide) (by decide)
  have hbit : (BitVec.ofNat 32 v.toNat).getLsbD i = v.getLsbD i := by
    rw [BitVec.getLsbD_ofNat, decide_eq_true hi, Bool.true_and, BitVec.testBit_toNat]
  rw [State.fld, ← honce, State.regAt_setRegAt_same, bf_written_w1c clkEvent_clears _ _ hi hrow, hbit, honce, State.fld]

/-- Settles O58: the widths and the pair of words by the rules of the access, the named registers as plain ones, CLK_EVENT bit by
bit, an event enable by its own command. -/
theorem registerAccess : Obligations.RegisterAccess := by
  unfold Obligations.RegisterAccess
  refine ⟨fun s src a len v h4 h8 => exec_registerWrite_discard src a len v s h4 h8, ?pair, ?plain, ?clkEvent, ?notSeen,
    ?enable, fun s src off v h => exec_eventEnWrite_discard v h⟩
  case pair =>
    intro s t src a v ha h
    rw [exec_registerWrite_word src (by omega)] at h
    have hlow : BitVec.ofNat 32 (BitVec.ofNat 64 (v.toNat % 2 ^ 32)).toNat = BitVec.ofNat 32 v.toNat := by
      apply BitVec.eq_of_toNat_eq
      simp only [BitVec.toNat_ofNat]
      omega
    have hhigh : (BitVec.ofNat 64 (v.toNat / 2 ^ 32)).toNat = v.toNat / 2 ^ 32 := by
      rw [BitVec.toNat_ofNat]
      omega
    rw [hlow] at h
    rw [exec_registerWrite_pair src ha v h, exec_registerWrite_word src (by omega), hhigh]
  case plain =>
    rintro s src off v w hmay rfl hoff
    exact ⟨_, exec_registerWrite_plain (namedRegs_plain off hoff) hmay v, State.setRegAt_only _ _ _ _,
      State.regAt_setRegAt_same _ _ _ _, fun a b h => State.regAt_setRegAt_other _ _ h⟩
  case clkEvent =>
    intro s src v hlt hpf
    obtain ⟨t, ht, hbits⟩ := exec_registerWrite_clkEvent s ⟨hlt, hpf⟩ v
    exact ⟨t, ht, hbits 0 (by decide) (by decide), hbits 3 (by decide) (by decide)⟩
  case notSeen =>
    intro s src v h
    refine exec_registerWrite_not_mayWrite (namedRegs_plain _ (by decide)) ?_ v
    rw [State.mayWrite_clk s src (by decide) (by decide), decide_eq_false h]
  case enable =>
    intro s src off v new he hm hnew
    refine ⟨_, exec_eventEnWrite he hm hnew, ?_⟩
    generalize hmet : new &&& ~~~(s.regAt src off) &&& s.regAt src (off - 4) = met
    have hset := State.setRegAt_only s src off new
    have hall : Frame [.regs, .out, .msix] s (s.setRegAt src off new) := hset.mono (by simp)
    by_cases hzero : met = 0
    · rw [if_pos hzero]
      exact ⟨State.regAt_setRegAt_same _ _ _ _, fun a b h => State.regAt_setRegAt_other _ _ h, hall, fun _ => hset,
        fun h => absurd hzero h, fun h => absurd hzero h⟩
    · rw [if_neg hzero]
      refine ⟨by simp, fun a b h => by rw [State.regAt_sendMsix, State.regAt_setRegAt_other _ _ h],
        hall.trans ((State.sendMsix_only _ src 0).mono (by simp)), fun h => absurd h hzero, fun _ hu => ?_, fun _ hu => ?_⟩
      · rw [State.sendMsix_unmasked hu]
        rfl
      · rw [State.sendMsix_masked hu]
        exact ⟨rfl, Tab.getD_set_same _ _ _ _⟩

end Sys2Proof.Machine
end

section
/-!
Work items of other members at this one (R28, R30, R34, R504, R510, R513, R569): how an item that arrives is judged, and what a
read, a write and a signal do where they are served.
-/
namespace Sys2Proof.Machine

open Sys2Proof

/-- The WORK message that carries an item (R393). -/
abbrev WorkItem.message (w : WorkItem) : Instr :=
  .work w.origin w.id w.epoch w.cls w.forwarded w.role w.slot w.kind w.addr w.data

/-- The item as a home sends it on to another member (R510). -/
abbrev WorkItem.sentOn (w : WorkItem) (home : Nat) : Emit :=
  .item home w.origin w.id w.epoch w.cls true w.role w.slot w.kind w.addr w.data

/-! ### The answer (R513) -/

theorem State.answerOrigin_only (s : State) (o i st sub : Nat) (d : List Byte) :
    Frame [.rack, .out] s (s.answerOrigin o i st sub d) := by
  intro p hp
  cases p with
  | rack | out => simp at hp
  | _ => rfl

theorem State.answerOrigin_out (s : State) (o i st sub : Nat) (d : List Byte) :
    (s.answerOrigin o i st sub d).out = s.out ++ [.workAnswer o i st sub d] := rfl

/-- The answer goes out at once where the item sent nothing itself. -/
theorem State.answerWork_of_noneAway {s : State} {w : WorkItem} (h : s.noneAway w.waiter = true) (st sub : Nat) (d : List Byte) :
    s.answerWork w st sub d = s.answerOrigin w.origin w.id st sub d :=
  if_pos h

theorem State.workAnswer_mem_answerOrigin (s : State) (o i st sub : Nat) (d : List Byte) :
    Emit.workAnswer o i st sub d ∈ (s.answerOrigin o i st sub d).out := by
  simp [State.answerOrigin_out]

theorem State.noneAway_of_away {s : State} (h : s.rack.away = {}) (id : Nat) : s.noneAway id = true := by
  simp [State.noneAway, h]

/-! ### The message (R28, R569) -/

theorem exec_message_fenced {s : State} {w : WorkItem} (h : s.memberState w.origin = .fenced) : exec w.message s = .next s :=
  if_pos (beq_iff_eq.mpr h)

theorem exec_message_bracing {s : State} {w : WorkItem} (h : s.memberState w.origin ≠ .fenced) (hb : s.sys.bracing = true) :
    exec w.message s = .next (s.emit (.workAnswer w.origin w.id St.fenced 0xF1 [])) := by
  show execWork _ _ _ _ _ _ _ _ _ _ s = _
  rw [execWork, if_neg (by simpa using h), if_pos hb]

theorem State.wake_of_not_rest {s : State} (h : s.sys.power ≠ .rest) : s.wake = s :=
  if_pos (bne_iff_ne.mpr h)

theorem exec_message_receive {s : State} {w : WorkItem} (h : s.memberState w.origin ≠ .fenced) (hb : s.sys.bracing = false)
    (hp : s.sys.power ≠ .rest) : exec w.message s = .next (s.receiveWork w) := by
  show execWork _ _ _ _ _ _ _ _ _ _ s = _
  rw [execWork, if_neg (by simpa using h), if_neg (by simp [hb]), State.wake_of_not_rest hp]

/-! ### An item that comes up (R30, R510) -/

/-- Setting the list of held items to what it is changes nothing. -/
theorem State.with_held_same {s : State} {l : List (WorkItem × Nat)} (h : s.rack.held = l) :
    { s with rack := { s.rack with held := l } } = s := by
  subst h; rfl

theorem State.holdItem_of_none {s : State} (h : s.rack.held = []) (w : WorkItem) :
    s.holdItem w = { s with rack := { s.rack with held := [(w, s.frame)] } } := by
  rw [State.holdItem, h, List.nil_append]

theorem State.holdItem_only (s : State) (w : WorkItem) : Frame [.rack] s (s.holdItem w) := by
  intro p hp
  cases p with
  | rack => simp at hp
  | _ => rfl

/-- Before alignment an item waits outside the control class. -/
theorem State.receiveWork_unaligned {s : State} {w : WorkItem} (hraw : w.kind ≠ 100) (hown : s.proxyOf w.origin w.id = none)
    (hheld : s.rack.held = []) (h : s.unaligned w.cls = true) : s.receiveWork w = s.holdItem w := by
  have hstill := State.with_held_same hheld
  rw [State.receiveWork, if_neg hraw, hown]
  simp only [hheld, List.any_nil, List.filter_nil, Bool.false_eq_true, if_false, hstill, h, if_true]

/-- The kinds of items that are judged by their epoch: all but raw requests, mirror checks and a joiner's map. -/
abbrev WorkItem.Judged (w : WorkItem) : Prop := w.kind ≠ 100 ∧ w.kind ≠ 15 ∧ w.kind ≠ 20

section

variable {s : State} {w : WorkItem} (h : s.MayServe w.origin w.id w.cls) (hj : w.Judged)
include h hj

/-- What a member does with an item by its epoch, where nothing holds, drops or has answered it. -/
theorem exec_message_judged :
    exec w.message s = .next (
      if s.epochAge w.epoch = 0 then
        if s.itemHome w = s.sys.member then s.serveWork w else s.answerWork w St.remap 0xB6 []
      else if s.epochAge w.epoch < 32768 then
        if s.itemHome w = s.sys.member then s.serveWork w
        else if w.forwarded then s.answerWork w St.remap 0xB1 []
        else if s.frame ≤ s.rack.changeFrame + 64 then s.emit (w.sentOn (s.itemHome w))
        else s.answerWork w St.remap 0xB0 []
      else s.holdItem w) := by
  obtain ⟨hraw, hcheck, hjoin⟩ := hj
  obtain ⟨hheld, hholds, hdropped, hmemo, hpending⟩ := h.still
  have hstill := State.with_held_same hheld
  rw [exec_message_receive h.sender h.service h.power, State.receiveWork, if_neg hraw, h.own]
  simp only [hheld, List.any_nil, List.filter_nil, Bool.false_eq_true, if_false, hstill]
  simp only [h.aligned, hcheck, hjoin, hholds, hdropped, hmemo, hpending, List.contains_nil, List.any_nil, List.find?_nil,
    Bool.and_false, Bool.false_and, Bool.false_eq_true, decide_false, Bool.or_self, if_false]

theorem exec_message_served (hep : s.epochAge w.epoch = 0) (hhome : s.itemHome w = s.sys.member) :
    exec w.message s = .next (s.serveWork w) := by
  rw [exec_message_judged h hj, if_pos hep, if_pos hhome]

theorem exec_message_remap (hep : s.epochAge w.epoch = 0) (hhome : s.itemHome w ≠ s.sys.member) :
    exec w.message s = .next (s.answerOrigin w.origin w.id St.remap 0xB6 []) := by
  rw [exec_message_judged h hj, if_pos hep, if_neg hhome, State.answerWork_of_noneAway (State.noneAway_of_away h.away _)]

theorem exec_message_sentOn (hold : 0 < s.epochAge w.epoch) (hlt : s.epochAge w.epoch < 32768)
    (hhome : s.itemHome w ≠ s.sys.member) (hframe : s.frame ≤ s.rack.changeFrame + 64) (hfwd : w.forwarded = false) :
    exec w.message s = .next (s.emit (w.sentOn (s.itemHome w))) := by
  rw [exec_message_judged h hj, if_neg hold.ne', if_pos hlt, if_neg hhome, if_neg (by simp [hfwd]), if_pos hframe]

theorem exec_message_outdated (hold : 0 < s.epochAge w.epoch) (hlt : s.epochAge w.epoch < 32768)
    (hhome : s.itemHome w ≠ s.sys.member) (hlate : w.forwarded = true ∨ s.rack.changeFrame + 64 < s.frame) :
    exec w.message s = .next (s.answerOrigin w.origin w.id St.remap (if w.forwarded then 0xB1 else 0xB0) []) := by
  rw [exec_message_judged h hj, if_neg hold.ne', if_pos hlt, if_neg hhome]
  have hnone := State.noneAway_of_away h.away w.waiter
  by_cases hfwd : w.forwarded = true
  · rw [if_pos hfwd, if_pos hfwd, State.answerWork_of_noneAway hnone]
  · have hframe : ¬ s.frame ≤ s.rack.changeFrame + 64 := Nat.not_le.mpr (hlate.resolve_left hfwd)
    rw [if_neg hfwd, if_neg hframe, if_neg hfwd, State.answerWork_of_noneAway hnone]

theorem exec_message_later (hlater : 32768 ≤ s.epochAge w.epoch) : exec w.message s = .next (s.holdItem w) := by
  rw [exec_message_judged h hj, if_neg (by omega), if_neg (by omega)]

end

/-! ### Gates (R438, R445) -/

@[simp] theorem State.gateVal_setGateVal_same (s : State) (k v : Nat) : (s.setGateVal k v).gateVal k = v % 2 ^ 32 := by
  simp only [State.setGateVal, State.gateVal]
  split
  · rw [Tab.getD, Tab.find?_erase_same, ‹v % 2 ^ 32 = 0›]
    rfl
  · exact Tab.getD_set_same _ _ _ _

theorem State.gateVal_setGateVal_other (s : State) {j k : Nat} (v : Nat) (h : j ≠ k) :
    (s.setGateVal k v).gateVal j = s.gateVal j := by
  simp only [State.setGateVal, State.gateVal]
  split
  · rw [Tab.getD, Tab.find?_erase_other _ h, Tab.getD]
  · exact Tab.getD_set_other _ _ _ h

@[simp] theorem State.endWait_gate (s : State) (x : Waiter) (st sub v : Nat) : (s.endWait x st sub v).gate = s.gate := by
  unfold State.endWait; split <;> rfl

@[simp] theorem State.endWait_store (s : State) (x : Waiter) (st sub v : Nat) : (s.endWait x st sub v).store = s.store := by
  unfold State.endWait; split <;> rfl

@[simp] theorem State.endWait_away (s : State) (x : Waiter) (st sub v : Nat) : (s.endWait x st sub v).rack.away = s.rack.away := by
  unfold State.endWait; split <;> rfl

/-- The waits that an update wakes change no gate. -/
theorem State.updateGate_vals (s : State) (k v : Nat) : (s.updateGate k v).1.gate.vals = (s.setGateVal k (v % 2 ^ 32)).gate.vals := by
  simp only [State.updateGate]
  rw [foldl_keeps (fun u : State => u.gate.vals) _ (by simp)]
  rfl

@[simp] theorem State.gateVal_updateGate_same (s : State) (k v : Nat) : (s.updateGate k v).1.gateVal k = v % 2 ^ 32 := by
  rw [State.gateVal, State.updateGate_vals, ← State.gateVal, State.gateVal_setGateVal_same, Nat.mod_mod]

theorem State.gateVal_updateGate_other (s : State) {j k : Nat} (v : Nat) (h : j ≠ k) :
    (s.updateGate k v).1.gateVal j = s.gateVal j := by
  rw [State.gateVal, State.updateGate_vals, ← State.gateVal, State.gateVal_setGateVal_other _ _ h]

/-- An update writes no byte, and sends no item of its own. -/
@[simp] theorem State.updateGate_store (s : State) (k v : Nat) : (s.updateGate k v).1.store = s.store := by
  simp only [State.updateGate]
  rw [foldl_keeps (fun u : State => u.store) _ (by simp)]
  rfl

@[simp] theorem State.updateGate_away (s : State) (k v : Nat) : (s.updateGate k v).1.rack.away = s.rack.away := by
  simp only [State.updateGate]
  rw [foldl_keeps (fun u : State => u.rack.away) _ (by simp)]
  rfl

/-! ### Serving a read, a write, a signal (R34, R513) -/

/-- The state in which an item of a CLASS is served. -/
abbrev State.inClass (s : State) (cls : Nat) : State := { s with rack := { s.rack with cls := cls } }

@[simp] theorem State.countRows_store (s : State) (op rows ranks : Nat) : (s.countRows op rows ranks).store = s.store := by
  unfold State.countRows; split <;> simp

@[simp] theorem State.countRows_rack (s : State) (op rows ranks : Nat) : (s.countRows op rows ranks).rack = s.rack := by
  unfold State.countRows; split <;> simp

@[simp] theorem State.noneAway_countRows (s : State) (op rows ranks id : Nat) :
    (s.countRows op rows ranks).noneAway id = s.noneAway id := by
  simp [State.noneAway]

theorem State.serveWork_read {s u v : State} {w : WorkItem} {len : Nat} {d : List Byte} (hk : w.kind = 0)
    (hlen : len = max 1 (fieldAt w.data 0 2 % 4097))
    (hp : (s.inClass w.cls).prepare w.waiter (granulesOf w.addr len) [] = (u, false))
    (hread : ((u.accessFor false (pagesOf w.addr len)).dropFetched w.waiter).readStore w.addr len = (v, .ok d)) :
    s.serveWork w = (v.countRows (fieldAt w.data 9 1) (fieldAt w.data 10 4) (fieldAt w.data 14 4)).answerWork w St.done 0 d := by
  subst hlen
  simp only [State.serveWork, hk, hp, hread]

theorem State.serveWork_write {s u v : State} {w : WorkItem} (hk : w.kind = 1)
    (hp : (s.inClass w.cls).prepare w.waiter [] (granulesOf w.addr w.data.length) = (u, false))
    (hwrite : (u.accessFor true (pagesOf w.addr w.data.length)).writeStore w.addr w.data = (v, none)) :
    s.serveWork w = v.answerWork w St.done 0 [] := by
  simp only [State.serveWork, hk, hp, hwrite]

theorem State.serveWork_signal {s : State} {w : WorkItem} {k : Nat} (hk : w.kind = 2) (hkey : k = gateKey w.addr)
    (hgate : s.gateFails k (fieldAt w.data 4 2) = none) (hflip : s.gate.flips.find? k = none) :
    s.serveWork w =
      ((s.inClass w.cls).updateGate k (s.gateVal k + fieldAt w.data 0 4)).1.answerWork w St.done 0
        (toLe 8 ((s.gateVal k + fieldAt w.data 0 4) % 2 ^ 32)) := by
  subst hkey
  have hgate' : (s.inClass w.cls).gateFails (gateKey w.addr) (fieldAt w.data 4 2) = none := hgate
  have hcheck : (s.inClass w.cls).checkGate (gateKey w.addr) = s.inClass w.cls := by
    simp only [State.checkGate, hflip]
  have hval : (s.inClass w.cls).gateVal (gateKey w.addr) = s.gateVal (gateKey w.addr) := rfl
  simp only [State.serveWork, hk, hgate', hcheck, hval, State.gateVal_updateGate_same]

theorem State.itemHome_of_isHome {s : State} {w : WorkItem} (h : w.role = false) (hhome : s.isHome w.addr = true) :
    s.itemHome w = s.sys.member := by
  rw [State.itemHome, if_pos (by simp [h])]
  exact of_decide_eq_true hhome

theorem State.itemHome_of_signal {s : State} {w : WorkItem} (h : w.role = true) (hslot : w.slot < 64) (hk : w.kind = 2) :
    s.itemHome w = s.serverOf w.slot := by
  simp [State.itemHome, h, hk, Nat.not_le.mpr hslot]

section

variable {s : State} {w : WorkItem} (h : s.MayServe w.origin w.id w.cls) (hep : s.epochAge w.epoch = 0)
include h hep

theorem exec_message_read {u v : State} {len : Nat} {d : List Byte} (hk : w.kind = 0) (hrole : w.role = false)
    (hhome : s.isHome w.addr = true) (hlen : len = max 1 (fieldAt w.data 0 2 % 4097))
    (hp : (s.inClass w.cls).prepare w.waiter (granulesOf w.addr len) [] = (u, false))
    (hread : ((u.accessFor false (pagesOf w.addr len)).dropFetched w.waiter).readStore w.addr len = (v, .ok d))
    (hnone : v.noneAway w.waiter = true) :
    ∃ t, exec w.message s = .next t ∧ Emit.workAnswer w.origin w.id 0 0 d ∈ t.out ∧ t.store = v.store := by
  refine ⟨_, exec_message_served h (by omega) hep (State.itemHome_of_isHome hrole hhome), ?_⟩
  rw [State.serveWork_read hk hlen hp hread, State.answerWork_of_noneAway (by rw [State.noneAway_countRows, hnone])]
  exact ⟨State.workAnswer_mem_answerOrigin .., State.countRows_store ..⟩

theorem exec_message_write {u v : State} (hk : w.kind = 1) (hrole : w.role = false) (hhome : s.isHome w.addr = true)
    (hp : (s.inClass w.cls).prepare w.waiter [] (granulesOf w.addr w.data.length) = (u, false))
    (hwrite : (u.accessFor true (pagesOf w.addr w.data.length)).writeStore w.addr w.data = (v, none))
    (hnone : v.noneAway w.waiter = true) :
    ∃ t, exec w.message s = .next t ∧ Emit.workAnswer w.origin w.id 0 0 [] ∈ t.out ∧ t.store = v.store := by
  refine ⟨_, exec_message_served h (by omega) hep (State.itemHome_of_isHome hrole hhome), ?_⟩
  rw [State.serveWork_write hk hp hwrite, State.answerWork_of_noneAway hnone]
  exact ⟨State.workAnswer_mem_answerOrigin .., rfl⟩

theorem exec_message_signal {k v : Nat} (hk : w.kind = 2) (hrole : w.role = true) (hslot : w.slot < 64)
    (hserver : s.serverOf w.slot = s.sys.member) (hkey : k = gateKey w.addr) (hgate : s.gateFails k (fieldAt w.data 4 2) = none)
    (hflip : s.gate.flips.find? k = none) (hv : v = (s.gateVal k + fieldAt w.data 0 4) % 2 ^ 32) :
    ∃ t, exec w.message s = .next t ∧ t.gateVal k = v ∧ (∀ j, j ≠ k → t.gateVal j = s.gateVal j) ∧ t.store = s.store ∧
      Emit.workAnswer w.origin w.id 0 0 (toLe 8 v) ∈ t.out := by
  have haway : ((s.inClass w.cls).updateGate k (s.gateVal k + fieldAt w.data 0 4)).1.rack.away = {} := by
    rw [State.updateGate_away]; exact h.away
  refine ⟨_, exec_message_served h (by omega) hep ((State.itemHome_of_signal hrole hslot hk).trans hserver), ?_⟩
  rw [State.serveWork_signal hk hkey hgate hflip, ← hv, State.answerWork_of_noneAway (State.noneAway_of_away haway _)]
  exact ⟨(State.gateVal_updateGate_same ..).trans hv.symm, fun j hj => State.gateVal_updateGate_other _ _ hj,
    State.updateGate_store .., State.workAnswer_mem_answerOrigin ..⟩

end

/-! ### The statement -/

/-- Settles O59: an item is judged by its sender, the brace, alignment and its epoch; what is served here runs under its CLASS and is
answered at once where it sent nothing itself. -/
theorem workItems : Obligations.WorkItems := by
  unfold Obligations.WorkItems
  refine ⟨?judged, ?waits, ?sender, ?read, ?write, ?signal⟩
  case judged =>
    rintro s o i ep cls slot kind addr fwd role data w rfl hraw hcheck hjoin h
    have hj : WorkItem.Judged ⟨o, i, ep, fwd, role, slot, kind, addr, data, cls⟩ := ⟨hraw, hcheck, hjoin⟩
    obtain ⟨hheld, -⟩ := h.still
    exact ⟨exec_message_served h hj,
      fun hep hhome => ⟨_, exec_message_remap h hj hep hhome, rfl, State.answerOrigin_only _ _ _ _ _ _⟩,
      exec_message_sentOn h hj,
      fun hold hlt hhome hlate => ⟨_, exec_message_outdated h hj hold hlt hhome hlate, rfl, State.answerOrigin_only _ _ _ _ _ _⟩,
      fun hlater => (exec_message_later h hj hlater).trans (congrArg _ (State.holdItem_of_none hheld _))⟩
  case waits =>
    intro s o i ep cls slot kind addr fwd role data hsender
    let w : WorkItem := ⟨o, i, ep, fwd, role, slot, kind, addr, data, cls⟩
    refine ⟨exec_message_bracing (w := w) hsender, fun hb hp hown hraw hheld hun => ⟨s.holdItem w, ?_, ?_, State.holdItem_only s w⟩⟩
    · rw [← State.receiveWork_unaligned hraw hown hheld hun]
      exact exec_message_receive (w := w) hsender hb hp
    · rw [State.holdItem_of_none hheld]
      rfl
  case sender =>
    intro s o i ep cls slot kind addr fwd role data h
    exact exec_message_fenced (w := ⟨o, i, ep, fwd, role, slot, kind, addr, data, cls⟩) h
  case read =>
    rintro s r u v o i ep cls slot addr len fwd data d h hep hhome rfl hlen hp hread hnone
    exact exec_message_read (w := ⟨o, i, ep, fwd, false, slot, 0, addr, data, cls⟩) h hep rfl rfl hhome hlen hp hread hnone
  case write =>
    rintro s r u v o i ep cls slot addr fwd data h hep hhome rfl hp hwrite hnone
    exact exec_message_write (w := ⟨o, i, ep, fwd, false, slot, 1, addr, data, cls⟩) h hep rfl rfl hhome hp hwrite hnone
  case signal =>
    intro s o i ep cls slot addr k v fwd data h hep hserver hslot hkey hgate hflip hv
    exact exec_message_signal (w := ⟨o, i, ep, fwd, true, slot, 2, addr, data, cls⟩) h hep rfl rfl hslot hserver hkey hgate hflip hv

end Sys2Proof.Machine
end

section
/-!
What the intake's shared operations leave alone, as frames; the entry of the lift line that a packet takes (R62, R63) and the
result slot that a command takes (R75, R77).
-/
namespace Sys2Proof.Machine

open Sys2Proof

/-! ### Frames -/

/-- What the laws of an operation keep, as the frame of a list of parts. -/
theorem Kept.only {l : List Part} {s t : State} (h : Kept (partsMask l) s t) : Frame l s t :=
  fun p hp => h.frame p (by rw [testBit_partsMask]; simpa using hp)

theorem State.setQp_only (s : State) (src qp : Nat) (x : QueuePair) : Frame [.cmdq] s (s.setQp src qp x) :=
  (onlyQp_setQp src qp x s).1

theorem State.emit_only (s : State) (e : Emit) : Frame [.out] s (s.emit e) :=
  (State.emit_keeps s e (by decide) (Kept.refl _ _)).only

/-! ### The entry that a packet takes (R62, R63) -/

/-- With every kept entry in use a full lift line gives none, whatever the source's reserve (R61). -/
theorem State.takeControl_dataFull {s : State} {src : Nat} (hkept : 1024 ≤ s.poolUsed .kept) (hfull : s.dataFull = true) :
    s.takeControl src = none := by
  simp [State.takeControl, Nat.not_lt.mpr hkept, hfull]

/-- The phase of a packet that comes in and finds no entry. -/
theorem State.enterPacket_held {s : State} {e : Entry} (h : s.takeEntry e.src (pkClass e.packet) = none) :
    ∃ x, (s.enterPacket e).entry? s.cmdq.nextId = some x ∧ x.phase = .held := by
  refine ⟨_, State.entry?_enterPacket s e, ?_⟩
  simp [h]

/-! ### A lift line whose entries are all in use -/

/-- A packet of CLASS 15. -/
def controlPacket : Packet := 0xF00000000000000#512

theorem pkClass_controlPacket : pkClass controlPacket = 15 := by decide +kernel

/-- A kept entry, held by a command of physical function 64. -/
def keptEntry : Entry := { src := 64, packet := controlPacket, pool := .kept }

/-- The shared entries, held by functions 1 to 4 up to the limit of 16,384 each. -/
def sharedEntry (i : Nat) : Entry := { src := 1 + i / 16384, pool := .shared }

/-- A member whose 1,024 kept entries and 64,512 others are all in use; function 0 has a reserve of 1,024 and holds no entry. -/
def fullLine : State :=
  { cmdq :=
    { entries := ⟨(List.range 1024).map (fun i => (i, keptEntry)) ++ (List.range 64512).map fun i => (1024 + i, sharedEntry i)⟩
      nextId := 65536 } }

/-- How many entries of the full lift line have a property that the kept ones agree on, and the shared ones too. -/
theorem fullLine_count {p : Nat → Entry → Bool} {a b : Bool} (ha : ∀ i, p i keptEntry = a)
    (hb : ∀ i j, p i (sharedEntry j) = b) :
    (fullLine.entriesWhere p).length = (if a then 1024 else 0) + if b then 64512 else 0 := by
  simp only [State.entriesWhere, fullLine, List.filter_append, List.filter_map, Function.comp_def, ha, hb]
  cases a <;> cases b <;> simp

theorem fullLine_kept : fullLine.poolUsed .kept = 1024 :=
  fullLine_count (a := true) (b := false) (fun _ => rfl) (fun _ _ => rfl)

theorem fullLine_dataFull : fullLine.dataFull = true := by
  have hreserve : fullLine.poolUsed .reserve = 0 := fullLine_count (a := false) (b := false) (fun _ => rfl) (fun _ _ => rfl)
  have hshared : fullLine.poolUsed .shared = 64512 := fullLine_count (a := false) (b := true) (fun _ => rfl) (fun _ _ => rfl)
  rw [State.dataFull, hreserve, hshared]
  rfl

theorem fullLine_inUse : fullLine.inUse 0 = 0 :=
  fullLine_count (a := false) (b := false) (fun _ => rfl) (fun _ _ => by simp [sharedEntry])

theorem fullLine_reserveUsed : fullLine.reserveUsed 0 = 0 :=
  fullLine_count (a := false) (b := false) (fun _ => rfl) (fun _ _ => rfl)

/-- Refutes O13: a source's free reserve does not help a CLASS 15 packet while the kept entries and the 64,512 others are all in use,
as they can be once FN_ADM_APPLY has raised a reserve over entries that shared commands hold; the packet waits. -/
theorem not_controlClassEntries : ¬ Obligations.ControlClassEntries := by
  unfold Obligations.ControlClassEntries
  intro h
  let e : Entry := { src := 0, packet := controlPacket }
  have hclass : pkClass e.packet = 15 := pkClass_controlPacket
  obtain ⟨x, hx, -, -, hreserve, -, -⟩ := h fullLine e hclass
  have hnone : fullLine.takeEntry e.src (pkClass e.packet) = none := by
    rw [State.takeEntry, if_pos hclass, State.takeControl_dataFull fullLine_kept.ge fullLine_dataFull]
  obtain ⟨y, hy, hheld⟩ := State.enterPacket_held hnone
  obtain rfl : x = y := Option.some.inj (hx.symm.trans hy)
  have hlimit : fullLine.inUse e.src < (fullLine.source e.src).limit := by rw [fullLine_inUse]; decide
  have hfree : fullLine.reserveUsed e.src < (fullLine.source e.src).reserve := by rw [fullLine_reserveUsed]; decide
  obtain ⟨hfetched, -⟩ := hreserve hlimit fullLine_kept.ge hfree
  rw [hheld] at hfetched
  cases hfetched

/-! ### The result slot that a command takes (R75, R77) -/

theorem State.source_modEntry (s : State) (id : Nat) (f : Entry → Entry) (a : Nat) : (s.modEntry id f).source a = s.source a := rfl

/-- An allocation puts one slot at the end of the source's slots, at the place found, under the next generation. -/
theorem State.source_allocSlot {s t : State} {id src bytes : Nat} (h : s.allocSlot id src bytes = some t) :
    ∃ x : Slot, (t.source src).slots = (s.source src).slots ++ [x] ∧ (t.source src).slotGen = x.gen ∧
      x.gen = ((s.source src).slotGen + 1) % 256 ∧ x.len = ceilDiv bytes 256 ∧ (s.source src).place x.len = some x.offset := by
  unfold State.allocSlot at h
  dsimp only at h
  split at h
  · cases h
  · split at h
    · cases h
    · rename_i o ho
      refine ⟨⟨o, ceilDiv bytes 256, ((s.source src).slotGen + 1) % 256, some id⟩, ?_, ?_, rfl, rfl, ho⟩
      all_goals
        obtain rfl := Option.some.inj h
        split
        · rw [State.source_fnRaise, State.source_modEntry, State.source_setSource_same]
        · rw [State.source_modEntry, State.source_setSource_same]

/-- R77: the parts of a handle. -/
theorem slotHandle_gen (x : Slot) : slotHandle x / 2 ^ 24 = x.gen := by
  rw [slotHandle]; omega

theorem slotHandle_lt {x : Slot} (h : x.gen < 256) : slotHandle x < 2 ^ 32 := by
  rw [slotHandle]; omega

theorem slotHandle_offset {x : Slot} (h : x.offset < 2 ^ 24) : slotHandle x % 2 ^ 24 = x.offset := by
  rw [slotHandle]; omega

/-- Settles O14: the slot lies in the area by its place, the parts of the handle by the widths of the generation and of the offset. -/
theorem resultHandles : Obligations.ResultHandles := by
  unfold Obligations.ResultHandles
  intro s t id src bytes h hbytes
  obtain ⟨x, hslots, hlast, hgen, hlen, hplace⟩ := State.source_allocSlot h
  have hfits := Source.place_fits hplace
  have hpos : 0 < x.len := by
    rw [hlen, ceilDiv]
    exact Nat.div_pos (by omega) (by decide)
  exact ⟨x, hslots, hlast, hgen, hlen, hfits, slotHandle_gen x, slotHandle_lt (by omega),
    fun harea => slotHandle_offset (by omega)⟩

end Sys2Proof.Machine
end

section
/-!
Doorbells and vectors (R43, R46, R49, R70), ENABLE and DISABLE of a queue pair (R47 to R49).
-/
namespace Sys2Proof.Machine

open Sys2Proof

/-! ### Doorbells (R43, R46) -/

/-- The tail doorbell of an allotted ENABLED queue pair, on the woken member. -/
theorem exec_sqTailDoorbell {s : State} {src qp : Nat} (v : Nat) (hsrc : src < 128) (hqp : qp < (s.source src).qpAllot)
    (hen : (s.wake.qp src qp).state = .enabled) :
    exec (.sqTailDoorbell src qp v) s = .next
      (if v < 2 ^ (s.wake.qp src qp).sqLog2 then s.wake.setQp src qp { s.wake.qp src qp with sqTail := v }
       else s.wake.qpError src qp 1) := by
  show execSqTailDoorbell src qp v s = _
  rw [execSqTailDoorbell, if_neg (by simp [hsrc, hqp])]
  by_cases hv : v < 2 ^ (s.wake.qp src qp).sqLog2
  · simp [hen, hv, Nat.not_le.mpr hv]
  · simp [hen, hv, Nat.not_lt.mp hv]

/-- The head doorbell of an allotted queue pair that is not DISABLED, inside the entries written. -/
theorem exec_cqHeadDoorbell {s : State} {src qp v n : Nat} {x : QueuePair} (hsrc : src < 128) (hqp : qp < (s.source src).qpAllot)
    (hx : x = s.wake.qp src qp) (hn : n = 2 ^ x.cqLog2) (hstate : x.state ≠ .disabled) (hv : v < n)
    (hwritten : (v + n - x.cqHead) % n ≤ (x.cqTail + n - x.cqHead) % n) :
    exec (.cqHeadDoorbell src qp v) s = .next (s.wake.setQp src qp { x with cqHead := v }) := by
  subst hx hn
  show execCqHeadDoorbell src qp v s = _
  rw [execCqHeadDoorbell, if_neg (by simp [hsrc, hqp])]
  simp [hstate, Nat.not_le.mpr hv, Nat.not_lt.mpr hwritten]

/-! ### Vectors (R70) -/

/-- The time of the coalescing has passed with completions not told: their message goes out, the count is clear. -/
theorem exec_cqCoalesceTimeout {s : State} {src qp : Nat} (htime : (s.qp src qp).coalTime ≠ 0)
    (hcount : (s.qp src qp).unsignalled ≠ 0) (hmask : s.cmdq.unmasked.getD (2048 * src + (qp + 1)) false = true) :
    exec (.cqCoalesceTimeout src qp) s = .next
      ((s.setQp src qp { s.qp src qp with unsignalled := 0 }).emit (.msix src (qp + 1))) := by
  show execCqCoalesceTimeout src qp s = _
  have hmask' : (s.setQp src qp { s.qp src qp with unsignalled := 0 }).cmdq.unmasked.getD (2048 * src + (qp + 1)) false = true :=
    hmask
  rw [execCqCoalesceTimeout, if_neg htime, State.signalCq, if_neg hcount, State.sendMsix_unmasked hmask']

/-- The state once a vector is unmasked and its pending message is sent. -/
def State.unmaskPending (s : State) (k : Nat) : State :=
  { s with cmdq := { s.cmdq with unmasked := s.cmdq.unmasked.set k true, pbaPending := s.cmdq.pbaPending.erase k } }

theorem exec_msixVectorUnmask {s : State} {func vec : Nat} (hfunc : func < 128) (hvec : vec < 2048)
    (hpending : s.cmdq.pbaPending.getD (2048 * func + vec) false = true) :
    exec (.msixVectorUnmask func vec) s = .next ((s.unmaskPending (2048 * func + vec)).emit (.msix func vec)) := by
  show execMsixVectorUnmask func vec s = _
  rw [execMsixVectorUnmask, if_neg (by simp [hfunc, hvec])]
  simp only [hpending, if_true]
  rfl

theorem State.unmaskPending_only (s : State) (k : Nat) : Frame [.msix] s (s.unmaskPending k) := by
  intro p hp
  cases p with
  | msix => exact absurd (List.mem_singleton_self _) hp
  | _ => rfl

theorem Tab.getD_erase_same {α : Type} (t : Tab α) (k : Nat) (d : α) : (t.erase k).getD k d = d := by
  rw [Tab.getD, Tab.find?_erase_same, Option.getD_none]

theorem Tab.getD_erase_other {α : Type} (t : Tab α) {j k : Nat} (d : α) (h : j ≠ k) : (t.erase k).getD j d = t.getD j d := by
  rw [Tab.getD, Tab.find?_erase_other _ h, Tab.getD]

/-- Settles O7: the doorbells by their range, each accepted one as an update of its queue pair alone; the messages by the mask. -/
theorem doorbellsAndVectors : Obligations.DoorbellsAndVectors := by
  unfold Obligations.DoorbellsAndVectors
  refine ⟨?tail, ?tailOut, ?head, ?coalesce, ?unmask⟩
  case tail =>
    intro s src qp v hsrc hqp hen hv
    exact ⟨_, (exec_sqTailDoorbell v hsrc hqp hen).trans (by rw [if_pos hv]), State.qp_setQp_same .., onlyQp_setQp ..⟩
  case tailOut =>
    intro s src qp v hsrc hqp hen hv
    refine ⟨_, (exec_sqTailDoorbell v hsrc hqp hen).trans (by rw [if_neg (Nat.not_lt.mpr hv)]), ?_⟩
    rw [State.qp_qpError]
    exact ⟨if_pos hen, rfl, rfl, State.event_qpError ..⟩
  case head =>
    intro s src qp v hsrc hqp hstate hv hwritten
    exact ⟨_, exec_cqHeadDoorbell hsrc hqp rfl rfl hstate hv hwritten, State.qp_setQp_same .., onlyQp_setQp ..⟩
  case coalesce =>
    intro s src qp htime hcount hmask
    refine ⟨_, exec_cqCoalesceTimeout htime hcount hmask, ?_, rfl, ?_⟩
    · rw [State.qp_emit, State.qp_setQp_same]
    · exact (State.emit_keeps _ _ (by decide) (State.setQp_keeps _ _ _ _ (by decide) (Kept.refl _ _))).only
  case unmask =>
    intro s func vec hfunc hvec hpending
    exact ⟨_, exec_msixVectorUnmask hfunc hvec hpending, rfl, Tab.getD_set_same .., Tab.getD_erase_same ..,
      fun k hk => ⟨Tab.getD_set_other _ _ _ hk, Tab.getD_erase_other _ _ hk⟩,
      ((State.unmaskPending_only _ _).mono (by simp)).trans ((State.emit_only _ _).mono (by simp))⟩

/-! ### ENABLE (R48, R49) -/

/-- A ring size that ENABLE takes. -/
abbrev RingSize (n : Nat) : Prop := 4 ≤ n ∧ n ≤ 16

/-- What ENABLE asks of a queue pair's rings. -/
abbrev QueuePair.RingsGood (x : QueuePair) : Prop :=
  RingSize x.sqLog2 ∧ RingSize x.cqLog2 ∧ x.sqBase % 4096 = 0 ∧ x.cqBase % 4096 = 0

/-- The queue pair at the beginning of a new life. -/
abbrev QueuePair.fresh (x : QueuePair) : QueuePair :=
  { x with state := .enabled, errCode := 0, sqHead := 0, sqTail := 0, cqHead := 0, cqTail := 0, phase := true, reserved := 0,
           unsignalled := 0, silent := false }

theorem exec_qpEnable {s : State} {src q : Nat} (hq : s.selectedQp src = some q) (hstate : (s.qp src q).state = .disabled)
    (hreset : s.resetEnding src = false) :
    exec (.qpEnable src) s = .next
      (if (s.qp src q).RingsGood then s.setQp src q (s.qp src q).fresh else s.qpError src q 5) := by
  show execQpEnable src s = _
  simp only [execQpEnable, hq, hstate, hreset, ne_eq, not_true_eq_false, if_false, Bool.false_eq_true]
  by_cases hgood : (s.qp src q).RingsGood
  · obtain ⟨⟨hs4, hs16⟩, ⟨hc4, hc16⟩, hsq, hcq⟩ := hgood
    simp [hs4, hs16, hc4, hc16, hsq, hcq]
  · rw [if_neg hgood, if_pos]
    simp only [QueuePair.RingsGood, RingSize] at hgood
    simp only [Bool.or_eq_true, Bool.not_eq_true', Bool.and_eq_false_iff, decide_eq_false_iff_not, bne_iff_ne]
    omega

/-! ### DISABLE (R47, R48) -/

/-- The queue pair on its way to DISABLED, its commands already fetched going on. -/
abbrev State.draining (s : State) (src q : Nat) : State := s.setQp src q { s.qp src q with state := .draining }

theorem exec_qpDisable {s : State} {src q : Nat} (hq : s.selectedQp src = some q)
    (hstate : (s.qp src q).state = .enabled ∨ (s.qp src q).state = .error) :
    exec (.qpDisable src) s = .next ((s.draining src q).drainQp src q) := by
  show execQpDisable src s = _
  simp only [execQpDisable, hq]
  rw [if_pos (by simpa using hstate)]

/-- A queue pair with a command in flight drains on. -/
theorem State.drainQp_busy {s : State} {src q : Nat} {c : Nat × Entry} (h : c ∈ s.cmdq.entries.cells) (hsrc : c.2.src = src)
    (hqp : c.2.qp = q) : s.drainQp src q = s := by
  have hmem : c ∈ s.entriesWhere fun _ e => e.src = src && e.qp = q := List.mem_filter.mpr ⟨h, by simp [hsrc, hqp]⟩
  have hbusy : (s.entriesWhere fun _ e => e.src = src && e.qp = q).isEmpty = false :=
    List.isEmpty_eq_false_iff.mpr (List.ne_nil_of_mem hmem)
  simp only [State.drainQp, hbusy, Bool.and_false, Bool.false_eq_true, if_false]

/-- A draining queue pair with no command in flight is DISABLED, and the function is told. -/
theorem State.drainQp_idle {s : State} {src q : Nat} (hstate : (s.qp src q).state = .draining) (h : s.cmdq.entries.cells = []) :
    s.drainQp src q = (s.setQp src q { s.qp src q with state := .disabled }).fnRaise src F.FN_EVENT_QP_DRAINED := by
  simp [State.drainQp, State.entriesWhere, hstate, h]

/-- Settles O8: ENABLE by the rings, DISABLE by whether a command of the queue pair is in flight. -/
theorem enableAndDisable : Obligations.EnableAndDisable := by
  unfold Obligations.EnableAndDisable
  refine ⟨?enable, ?refused, ?idle, ?busy⟩
  case enable =>
    intro s src q hq hstate hreset hs4 hs16 hc4 hc16 hsq hcq
    exact ⟨_, (exec_qpEnable hq hstate hreset).trans (by rw [if_pos ⟨⟨hs4, hs16⟩, ⟨hc4, hc16⟩, hsq, hcq⟩]),
      State.qp_setQp_same .., onlyQp_setQp ..⟩
  case refused =>
    intro s src q hq hstate hreset hsize
    have hbad : ¬ (s.qp src q).RingsGood := by
      rintro ⟨⟨hs4, hs16⟩, ⟨hc4, hc16⟩, -⟩
      omega
    refine ⟨_, (exec_qpEnable hq hstate hreset).trans (by rw [if_neg hbad]), ?_⟩
    rw [State.qp_qpError]
    exact ⟨by simp [hstate], rfl, State.event_qpError ..⟩
  case idle =>
    intro s src q hq hstate hnone
    have hdrain : ((s.draining src q).qp src q).state = .draining := by rw [State.qp_setQp_same]
    refine ⟨_, (exec_qpDisable hq hstate).trans (by rw [State.drainQp_idle hdrain hnone]), ?_, ?_, ?_⟩
    · rw [State.qp_fnRaise, State.qp_setQp_same, State.qp_setQp_same]
    · exact State.fldAt_fnRaise_same _ _ _ (by decide)
    · exact (State.fnRaise_keeps _ _ _ (by decide) (State.setQp_keeps _ _ _ _ (by decide)
        (State.setQp_keeps _ _ _ _ (by decide) (Kept.refl _ _)))).only
  case busy =>
    intro s src q id e hq hstate hmem hsrc hqp
    exact ⟨_, (exec_qpDisable hq hstate).trans (by rw [State.drainQp_busy (s := s.draining src q) hmem hsrc hqp]),
      State.qp_setQp_same .., onlyQp_setQp ..⟩

end Sys2Proof.Machine
end

section
/-!
Administration of intake sources (R65, R92): the staging registers that SEL loads, and the settings that APPLY commits or refuses.
-/
namespace Sys2Proof.Machine

open Sys2Proof

/-! ### Several fields set one after the other -/

/-- A field as R24 has it: its bits lie in a 32-bit register, the register in BAR0. -/
abbrev Fld.Placed (f : Fld) : Prop := f.lo ≤ f.hi ∧ f.hi < 32 ∧ f.off < 2 ^ 24

/-- Registers that stand at different offsets of BAR0 stand at different places of the register file, whoever reaches them. -/
theorem regKey_mod (src : Nat) {off : Nat} (h : off < 2 ^ 24) : regKey src off % 2 ^ 24 = off := by
  unfold regKey
  repeat' split
  all_goals omega

/-- A field set in a function's copy leaves the fields that share no bit with it. -/
theorem State.fldAt_setFldAt_apart (s : State) (src : Nat) {f g : Fld} (v : Nat) (hf : f.Placed) (hg : g.Placed)
    (h : Fld.Apart f g) : (s.setFldAt src f v).fldAt src g = s.fldAt src g := by
  obtain ⟨hle, hhi, hoff⟩ := hf
  obtain ⟨-, -, hgoff⟩ := hg
  refine State.fldAt_setFldAt_other _ _ _ _ _ _ ⟨hle, hhi⟩ ?_
  by_cases he : g.off = f.off
  · rcases h with h | h | h
    · exact absurd he.symm h
    · exact .inr ⟨rfl, he, .inr h⟩
    · exact .inr ⟨rfl, he, .inl h⟩
  · refine .inl fun hkey => he ?_
    rw [← regKey_mod src hgoff, hkey, regKey_mod src hoff]

/-- The fields of a list set in a function's copy, in order. -/
def State.setFlds (s : State) (src : Nat) (l : List (Fld × Nat)) : State :=
  l.foldl (fun s x => s.setFldAt src x.1 x.2) s

theorem State.setFlds_only (s : State) (src : Nat) (l : List (Fld × Nat)) : Frame [.regs] s (s.setFlds src l) :=
  (Kept.foldl (Kept.refl _ _) fun _ _ h => State.setFldAt_keeps _ _ _ _ (by decide) h).only

theorem State.fldAt_setFlds_apart (s : State) (src : Nat) {l : List (Fld × Nat)} {f : Fld} (hf : f.Placed)
    (hl : ∀ x ∈ l, x.1.Placed ∧ Fld.Apart x.1 f) : (s.setFlds src l).fldAt src f = s.fldAt src f := by
  induction l generalizing s with
  | nil => rfl
  | cons x l ih =>
    obtain ⟨hx, hapart⟩ := hl x List.mem_cons_self
    exact (ih _ fun y hy => hl y (List.mem_cons_of_mem _ hy)).trans (State.fldAt_setFldAt_apart s src _ hx hf hapart)

/-- Of fields that share no bit each reads what was set in it. -/
theorem State.fldAt_setFlds (s : State) (src : Nat) {l : List (Fld × Nat)} (hl : ∀ f ∈ l.map Prod.fst, f.Placed)
    (hapart : (l.map Prod.fst).Pairwise fun f g => Fld.Apart g f) {f : Fld} {v : Nat} (h : (f, v) ∈ l) :
    (s.setFlds src l).fldAt src f = v % 2 ^ (f.hi + 1 - f.lo) := by
  induction l generalizing s with
  | nil => cases h
  | cons x l ih =>
    simp only [List.map_cons, List.mem_cons, forall_eq_or_imp, List.pairwise_cons] at hl hapart
    obtain ⟨hx, hl⟩ := hl
    obtain ⟨hxl, hapart⟩ := hapart
    rcases List.mem_cons.mp h with rfl | h
    · have hlater : ∀ y ∈ l, y.1.Placed ∧ Fld.Apart y.1 f :=
        fun y hy => ⟨hl _ (List.mem_map_of_mem hy), hxl _ (List.mem_map_of_mem hy)⟩
      exact (State.fldAt_setFlds_apart _ src hx hlater).trans (State.fldAt_setFldAt_mod s src _ _ ⟨hx.1, hx.2.1⟩)
    · exact ih _ hl hapart h

/-! ### SEL (R92) -/

/-- The staging fields of a function's administration with the settings of a target. -/
def admStaging (func : Nat) (y : Settings) : List (Fld × Nat) :=
  [(F.FN_ADM_SEL_FUNC, func), (F.FN_ADM_QP_ALLOT_QP, y.qpAllot), (F.FN_ADM_LL_RESERVE_RESERVE, y.reserve),
   (F.FN_ADM_LL_LIMIT_LIMIT, y.limit), (F.FN_ADM_TIMEOUT_MS, y.timeout), (F.FN_ADM_PERM_OPC_RANGES, y.ranges),
   (F.FN_ADM_PERM_CLASS_MASK, y.classes), (F.FN_ADM_RESULT_SIZE_SIZE, y.resultSize)]

/-- The same of an HXL port's. -/
def hxlStaging (port : Nat) (y : Settings) : List (Fld × Nat) :=
  [(F.FN_HXL_SEL_PORT, port), (F.FN_HXL_LL_RESERVE_RESERVE, y.reserve), (F.FN_HXL_LL_LIMIT_LIMIT, y.limit),
   (F.FN_HXL_TIMEOUT_MS, y.timeout), (F.FN_HXL_PERM_OPC_RANGES, y.ranges), (F.FN_HXL_PERM_CLASS_MASK, y.classes),
   (F.FN_HXL_RESULT_SIZE_SIZE, y.resultSize)]

theorem admStaging_read (s : State) (src func : Nat) (y : Settings) {f : Fld} {v : Nat} (h : (f, v) ∈ admStaging func y) :
    (s.setFlds src (admStaging func y)).fldAt src f = v % 2 ^ (f.hi + 1 - f.lo) :=
  State.fldAt_setFlds s src (by simp only [admStaging, List.map_cons, List.map_nil]; decide)
    (by simp only [admStaging, List.map_cons, List.map_nil]; unfold Fld.Apart; decide) h

theorem hxlStaging_read (s : State) (port : Nat) (y : Settings) {f : Fld} {v : Nat} (h : (f, v) ∈ hxlStaging port y) :
    (s.setFlds 0 (hxlStaging port y)).fld f = v % 2 ^ (f.hi + 1 - f.lo) :=
  State.fldAt_setFlds s 0 (by simp only [hxlStaging, List.map_cons, List.map_nil]; decide)
    (by simp only [hxlStaging, List.map_cons, List.map_nil]; unfold Fld.Apart; decide) h

theorem exec_fnAdmSelWrite {s : State} {src : Nat} (h : s.mayAdminister src = true) (func : Nat) :
    exec (.fnAdmSelWrite src func) s = .next
      (s.setFlds src (admStaging (func % 64) (s.source (src + func % 64)).settings)) := by
  show execFnAdmSelWrite src func s = _
  rw [execFnAdmSelWrite, if_neg (by simp [h])]
  rfl

theorem exec_fnHxlSelWrite {s : State} {src : Nat} (h : s.mayAdminHxl src = true) (port : Nat) :
    exec (.fnHxlSelWrite src port) s = .next (s.setFlds 0 (hxlStaging (port % 16) (s.source (128 + port % 16)).settings)) := by
  show execFnHxlSelWrite src port s = _
  rw [execFnHxlSelWrite, if_neg (by simp [h])]
  rfl

/-! ### APPLY (R65, R92) -/

theorem State.refuseSettings_le (s : State) (t : Nat) (y : Settings) : s.refuseSettings t y ≤ 6 := by
  simp only [State.refuseSettings]
  repeat' split
  all_goals decide

theorem State.applySettings_refused {s : State} {t : Nat} {y : Settings} (h : s.refuseSettings t y ≠ 0) :
    s.applySettings t y = (s, s.refuseSettings t y) := by
  simp [State.applySettings, h]

/-- A grant of credits adds to what a source's partner is granted, not to its settings. -/
theorem State.settings_grantOwed (s : State) (p a : Nat) : ((s.grantOwed p).source a).settings = (s.source a).settings := by
  simp only [State.grantOwed]
  split
  · rfl
  · change ((s.setSource _ _).source a).settings = _
    by_cases ha : a = 128 + p
    · subst ha
      rw [State.source_setSource_same]
      rfl
    · rw [State.source_setSource_other _ _ ha]

/-- Settings that are not refused are all in force. -/
theorem State.applySettings_committed {s : State} {t : Nat} {y : Settings} (h : s.refuseSettings t y = 0) :
    ∃ u, s.applySettings t y = (u, 0) ∧ (u.source t).settings = y := by
  simp only [State.applySettings, h, bne_self_eq_false, Bool.false_eq_true, if_false]
  by_cases hsame : (s.source t).settings = y
  · exact ⟨s, if_pos hsame, hsame⟩
  · refine ⟨_, if_neg hsame, ?_⟩
    rw [State.source_takeHeld]
    split
    · rw [State.source_fnRaise, State.source_setSource_same]
      rfl
    · rw [State.settings_grantOwed, State.source_setSource_same]
      rfl

/-- What APPLY leaves for a target and the field where it shows why it refused: nothing else where it refuses, and the settings in
force where it does not. -/
theorem State.applySettings_shown (s : State) (t src : Nat) (y : Settings) {f : Fld} (hf : f.lo ≤ f.hi ∧ f.hi < 32)
    (hwide : 6 < 2 ^ (f.hi + 1 - f.lo)) {u : State} (hu : u = (s.applySettings t y).1.setFldAt src f (s.applySettings t y).2) :
    u.fldAt src f = s.refuseSettings t y ∧ (s.refuseSettings t y ≠ 0 → OnlyField src f s u) ∧
      (s.refuseSettings t y = 0 → (u.source t).settings = y) := by
  subst hu
  by_cases h : s.refuseSettings t y = 0
  · obtain ⟨u, hu, hy⟩ := State.applySettings_committed h
    rw [hu]
    refine ⟨?_, fun hne => absurd h hne, fun _ => ?_⟩
    · rw [State.fldAt_setFldAt_mod _ _ _ _ hf, h, Nat.zero_mod]
    · rw [State.source_setFldAt, hy]
  · rw [State.applySettings_refused h]
    refine ⟨?_, fun _ => onlyField_setFldAt _ _ _ _ hf, fun h0 => absurd h0 h⟩
    rw [State.fldAt_setFldAt_mod _ _ _ _ hf, Nat.mod_eq_of_lt (Nat.lt_of_le_of_lt (s.refuseSettings_le t y) hwide)]

/-- The settings staged for a function. -/
abbrev State.staged (s : State) (src : Nat) : Settings :=
  { qpAllot := s.fldAt src F.FN_ADM_QP_ALLOT_QP, reserve := s.fldAt src F.FN_ADM_LL_RESERVE_RESERVE
    limit := s.fldAt src F.FN_ADM_LL_LIMIT_LIMIT, timeout := s.fldAt src F.FN_ADM_TIMEOUT_MS
    ranges := s.fldAt src F.FN_ADM_PERM_OPC_RANGES, classes := s.fldAt src F.FN_ADM_PERM_CLASS_MASK
    resultSize := s.fldAt src F.FN_ADM_RESULT_SIZE_SIZE }

/-- The settings staged for an HXL port. -/
abbrev State.stagedHxl (s : State) : Settings :=
  { qpAllot := 0, reserve := s.fld F.FN_HXL_LL_RESERVE_RESERVE, limit := s.fld F.FN_HXL_LL_LIMIT_LIMIT
    timeout := s.fld F.FN_HXL_TIMEOUT_MS, ranges := s.fld F.FN_HXL_PERM_OPC_RANGES
    classes := s.fld F.FN_HXL_PERM_CLASS_MASK, resultSize := s.fld F.FN_HXL_RESULT_SIZE_SIZE }

theorem exec_fnAdmApply {s : State} {src t : Nat} (h : s.mayAdminister src = true) (ht : t = src + s.fldAt src F.FN_ADM_SEL_FUNC) :
    exec (.fnAdmApply src) s = .next
      ((s.applySettings t (s.staged src)).1.setFldAt src F.FN_ADM_STATUS_ERR (s.applySettings t (s.staged src)).2) := by
  subst ht
  show execFnAdmApply src s = _
  rw [execFnAdmApply, if_neg (by simp [h])]

theorem exec_fnHxlApply {s : State} {src t : Nat} (h : s.mayAdminHxl src = true) (ht : t = 128 + s.fld F.FN_HXL_SEL_PORT) :
    exec (.fnHxlApply src) s = .next
      ((s.applySettings t s.stagedHxl).1.setFldAt 0 F.FN_HXL_STATUS_ERR (s.applySettings t s.stagedHxl).2) := by
  subst ht
  show execFnHxlApply src s = _
  rw [execFnHxlApply, if_neg (by simp [h])]
  rfl

/-- Settles O12: SEL sets fields that share no bit, so each reads what was put there; APPLY by whether the settings are refused. -/
theorem administration : Obligations.Administration := by
  unfold Obligations.Administration
  refine ⟨?sel, ?apply, ?hxlSel, ?hxlApply⟩
  case sel =>
    rintro s src func y h rfl
    have hread {f : Fld} {v : Nat} := admStaging_read s src (func % 64) (s.source (src + func % 64)).settings (f := f) (v := v)
    exact ⟨_, exec_fnAdmSelWrite h func, (hread (by simp [admStaging])).trans (Nat.mod_mod _ _), hread (by simp [admStaging]),
      hread (by simp [admStaging]), hread (by simp [admStaging]), hread (by simp [admStaging]), State.setFlds_only _ _ _⟩
  case apply =>
    rintro s src y h rfl
    exact ⟨_, exec_fnAdmApply h rfl, State.applySettings_shown s _ src _ (by decide) (by decide) rfl⟩
  case hxlSel =>
    rintro s src port y h rfl
    have hread {f : Fld} {v : Nat} := hxlStaging_read s (port % 16) (s.source (128 + port % 16)).settings (f := f) (v := v)
    exact ⟨_, exec_fnHxlSelWrite h port, (hread (by simp [hxlStaging])).trans (Nat.mod_mod _ _), hread (by simp [hxlStaging]),
      hread (by simp [hxlStaging]), State.setFlds_only _ _ _⟩
  case hxlApply =>
    rintro s src y h rfl
    exact ⟨_, exec_fnHxlApply h rfl, State.applySettings_shown s _ 0 _ (by decide) (by decide) rfl⟩

end Sys2Proof.Machine
end

section
/-!
How a packet reaches the lift line and is accepted (R44, R51, R57 to R59).
-/
namespace Sys2Proof.Machine

open Sys2Proof

/-! ### A packet that comes in takes an entry (R44, R61) -/

/-- Which entry a packet may take follows from the sources and the lift line alone. -/
theorem State.takeEntry_eq (s : State) (src cls : Nat) :
    s.takeEntry src cls = { cmdq := { sources := s.cmdq.sources, entries := s.cmdq.entries } : State }.takeEntry src cls := rfl

/-- No entry is given while neither the data classes nor CLASS 15 would get one. -/
theorem State.takeEntry_available {s : State} {src cls : Nat} {pool : EntryPool} (h : s.takeEntry src cls = some pool) :
    ((s.takeData src).isNone && (s.takeControl src).isNone) = false := by
  unfold State.takeEntry at h
  split at h <;> simp [h]

/-- The state once a packet has its entry. -/
theorem State.enterPacket_of_pool {s : State} {e : Entry} {pool : EntryPool} (h : s.takeEntry e.src (pkClass e.packet) = some pool) :
    s.enterPacket e = { s with cmdq := { s.cmdq with
      entries := s.cmdq.entries.set s.cmdq.nextId { e with order := s.cmdq.nextOrder, phase := .fetched, pool := pool }
      nextId := s.cmdq.nextId + 1
      nextOrder := s.cmdq.nextOrder + 1 } } := by
  simp [State.enterPacket, h]

/-- With an entry at hand a packet changes the intake alone. -/
theorem State.enterPacket_only {s : State} {e : Entry} {pool : EntryPool} (h : s.takeEntry e.src (pkClass e.packet) = some pool) :
    Frame [.cmdq, .entries] s (s.enterPacket e) := by
  rw [State.enterPacket_of_pool h]
  intro p hp
  cases p with
  | cmdq | entries => simp at hp
  | _ => rfl

theorem State.entry?_enterPacket_other (s : State) (e : Entry) {i : Nat} (h : i ≠ s.cmdq.nextId) :
    (s.enterPacket e).entry? i = s.entry? i := by
  simp only [State.enterPacket, State.entry?]
  split <;> simp [h]

@[simp] theorem State.source_enterPacket (s : State) (e : Entry) (a : Nat) : (s.enterPacket e).source a = s.source a := by
  simp only [State.enterPacket, State.source]
  split <;> simp

@[simp] theorem State.qp_enterPacket (s : State) (e : Entry) (a b : Nat) : (s.enterPacket e).qp a b = s.qp a b := by
  simp only [State.enterPacket, State.qp]
  split <;> simp

/-! ### Fetch (R41, R44) -/

/-- The read of the ring at an SQ's head. -/
def State.readRing (s : State) (src addr : Nat) : State := (s.ringPage src addr false).emit (.hostRead src addr 64)

theorem State.readRing_only (s : State) (src addr : Nat) : Frame [.xlt, .out] s (s.readRing src addr) :=
  (State.emit_keeps _ _ (by decide) (State.ringPage_keeps _ _ _ _ (by decide) (Kept.refl _ _))).only

/-- The translation of a ring's page changes no part of the intake. -/
@[simp] theorem State.readRing_cmdq (s : State) (src addr : Nat) : (s.readRing src addr).cmdq = s.cmdq := by
  simp only [State.readRing, State.ringPage, State.atcTouch, State.atcAdd]
  repeat' split
  all_goals rfl

/-- The queue pair of an SQ after the fetch at its head. -/
abbrev QueuePair.fetched (x : QueuePair) : QueuePair :=
  { x with sqHead := (x.sqHead + 1) % 2 ^ x.sqLog2, reserved := x.reserved + 1 }

/-- The state in which a packet fetched comes in: its ring has been read, the SQ head has moved, a CQ slot is reserved. -/
abbrev State.atFetch (s : State) (src qp : Nat) : State :=
  (s.readRing src ((s.qp src qp).sqBase + 64 * (s.qp src qp).sqHead)).setQp src qp (s.qp src qp).fetched

/-- The entry of the packet fetched, before it has a place in the lift line. -/
abbrev State.fetchedEntry (s : State) (src qp : Nat) (packet : Packet) : Entry :=
  { src := src, qp := qp, packet := packet, sqHead := (s.qp src qp).fetched.sqHead }

theorem exec_sqFetch {s : State} {src qp : Nat} {packet : Packet} {pool : EntryPool} (hmay : s.mayFetch src qp = true)
    (hats : (s.source src).atsEnabled = true) (hpool : s.takeEntry src (pkClass packet) = some pool) :
    exec (.sqFetch src qp .ok packet) s = .next ((s.atFetch src qp).enterPacket (s.fetchedEntry src qp packet)) := by
  show execSqFetch src qp .ok packet s = _
  rw [execSqFetch, if_neg (by simp [hmay]), if_neg (by simp [State.takeEntry_available hpool]), if_neg (by simp [hats])]
  rfl

theorem State.atFetch_cmdq (s : State) (src qp : Nat) :
    (s.atFetch src qp).cmdq = { s.cmdq with qps := s.cmdq.qps.set (qpKey src qp) (s.qp src qp).fetched } := by
  rw [State.atFetch, State.setQp, State.readRing_cmdq]

theorem State.atFetch_nextId (s : State) (src qp : Nat) : (s.atFetch src qp).cmdq.nextId = s.cmdq.nextId := by
  rw [State.atFetch_cmdq]

theorem State.atFetch_nextOrder (s : State) (src qp : Nat) : (s.atFetch src qp).cmdq.nextOrder = s.cmdq.nextOrder := by
  rw [State.atFetch_cmdq]

theorem State.entry?_atFetch (s : State) (src qp i : Nat) : (s.atFetch src qp).entry? i = s.entry? i := by
  rw [State.entry?, State.atFetch_cmdq, State.entry?]

theorem State.source_atFetch (s : State) (src qp a : Nat) : (s.atFetch src qp).source a = s.source a := by
  rw [State.source, State.atFetch_cmdq, State.source]

theorem State.hostRead_mem_atFetch (s : State) (src qp : Nat) :
    .hostRead src ((s.qp src qp).sqBase + 64 * (s.qp src qp).sqHead) 64 ∈ (s.atFetch src qp).out := by
  simp [State.readRing, State.emit]

theorem State.takeEntry_atFetch (s : State) (src qp a cls : Nat) : (s.atFetch src qp).takeEntry a cls = s.takeEntry a cls := by
  rw [State.takeEntry_eq, State.atFetch_cmdq, State.takeEntry_eq s]

theorem State.atFetch_only (s : State) (src qp : Nat) : Frame [.cmdq, .entries, .xlt, .out] s (s.atFetch src qp) :=
  ((State.readRing_only _ _ _).mono (by simp)).trans ((State.setQp_only _ _ _ _).mono (by simp))

/-! ### Commands over HXL (R51, R52) -/

/-- A CMD message on an endpoint port comes with a credit and meets nothing that refuses it: its packet comes in. -/
theorem exec_cmd {s : State} {port : Nat} {msg : List Byte} {x : Source} (hport : port < 16) (hkind : (s.port port).act.kind = 1)
    (hlen : msg.length = 80) (hx : x = (s.takeMsg port msg).source (128 + port)) (hcredit : x.credits ≠ 0)
    (hfenced : s.fenced = false) (hbracing : s.sys.bracing = false)
    (hlive : (s.senderIndex port).all (fun i => (s.agent i).state == .live) = true) (hheld : s.sqHeld (128 + port) 0 = false) :
    exec (.cmd port msg) s = .next
      ((((s.takeMsg port msg).setSource (128 + port) { x with credits := x.credits - 1 }).wake).enterPacket
        { src := 128 + port, packet := BitVec.ofNat 512 (fieldAt msg 16 64), endpoint := hdSrc msg, msgClass := hdClass msg }) := by
  subst hx
  have hdead : (s.senderIndex port).any (fun i => (s.agent i).state != .live) = false := by
    revert hlive
    cases s.senderIndex port <;> simp
  show execCmd port msg s = _
  simp only [execCmd]
  rw [if_neg (by simp [hport, hkind, hlen]), if_neg hcredit, if_neg (by simp [hfenced]), if_neg (by simp [hbracing]),
    if_neg (by simp [hdead]), if_neg (by simp [hheld])]

/-! ### INTAKE_ACCEPT (R57, R58) -/

/-- A packet whose turn for its checks has come: it holds an entry, nothing of its queue holds it back, and it is no FENCE, of which a
fifth would wait. -/
structure State.Checked (s : State) (id : Nat) (e : Entry) : Prop where
  entry : s.entry? id = some e
  phase : e.phase = .fetched
  free : s.heldBack e = false
  aligned : s.unaligned (pkClass e.packet) = false
  noFence : pkOpcode e.packet ≠ 0xA8

/-- The entry of a packet that its first failing check ends. -/
abbrev Entry.rejected (e : Entry) (st sub : Nat) : Entry :=
  { e with phase := .ended, moving := false, out := { e.out with status := st, subcode := sub, result0 := 0, absent := 0xFF } }

theorem State.rejectEntry_eq {s : State} {id : Nat} {e : Entry} (h : s.entry? id = some e) (st sub : Nat) :
    s.rejectEntry id st sub = s.setEntry id (e.rejected st sub) :=
  State.modEntry_eq h _

section

variable {s : State} {id : Nat} {e : Entry} (h : s.Checked id e) (r : HostResult) (b : List Byte)
include h

theorem exec_intakeAccept_rejected {st sub : Nat} (hchecks : s.earlyChecks e.src e.packet = some (st, sub)) :
    exec (.intakeAccept id r b) s = .next (s.setEntry id (e.rejected st sub)) := by
  show execIntakeAccept id r b s = _
  simp only [execIntakeAccept, h.entry, hchecks]
  rw [if_neg (by simp [h.phase, h.free, h.aligned, h.noFence]), State.rejectEntry_eq h.entry]

theorem exec_intakeAccept_accepted {e' : Entry} (hearly : s.earlyChecks e.src e.packet = none) (hblock : pkPblk e.packet = false)
    (hown : s.ownChecks id { e with block := [] } = none) (htranslate : s.translateEntry { e with block := [] } = .ok e')
    (hslot : s.slotBytes e'.packet = 0) : exec (.intakeAccept id r b) s = .next (s.acceptEntry id e') := by
  have hread : s.readBlock id e.packet r b = (s, .ok []) := by simp [State.readBlock, hblock]
  show execIntakeAccept id r b s = _
  simp only [execIntakeAccept, h.entry, hearly, hread, State.lateChecks, hown, htranslate, State.resultSpace, hslot, if_true]
  rw [if_neg (by simp [h.phase, h.free, h.aligned, h.noFence])]

end

/-! ### BARRIER (R59) -/

/-- The commands of an entry's queue that came before it. -/
abbrev State.earlier (s : State) (e : Entry) : List (Nat × Entry) :=
  s.entriesWhere fun _ x => x.src = e.src && x.qp = e.qp && decide (x.order < e.order)

theorem exec_barrierRelease {s : State} {id : Nat} {e : Entry} (h : s.entry? id = some e) (haccepted : e.accepted = true)
    (hbarrier : e.barrier = true) (hfirst : s.earlier e = []) :
    exec (.barrierRelease id) s = .next (s.setEntry id { e with barrier := false }) := by
  show execBarrierRelease id s = _
  simp only [execBarrierRelease, h]
  rw [if_neg (by simp [haccepted, hbarrier, hfirst])]

theorem exec_barrierRelease_waits {s : State} {id : Nat} {e : Entry} (h : s.entry? id = some e) (hwaits : s.earlier e ≠ []) :
    exec (.barrierRelease id) s = .next s := by
  show execBarrierRelease id s = _
  simp only [execBarrierRelease, h]
  rw [if_pos (by simp [hwaits])]

/-- Settles O9: a fetched packet and a CMD by what they leave before the packet comes in, INTAKE_ACCEPT by its checks in order, BARRIER
by the commands of its queue that came before. -/
theorem fetchAndAcceptance : Obligations.FetchAndAcceptance := by
  unfold Obligations.FetchAndAcceptance
  refine ⟨?fetch, ?cmd, ?rejected, ?accepted, ?release, ?waits⟩
  case fetch =>
    intro s src qp packet pool hmay hats hpool
    have htake := (s.takeEntry_atFetch src qp src (pkClass packet)).trans hpool
    have honly := State.enterPacket_only (s := s.atFetch src qp) (e := s.fetchedEntry src qp packet) htake
    have hentry := State.entry?_enterPacket (s.atFetch src qp) (s.fetchedEntry src qp packet)
    rw [State.atFetch_nextId, State.atFetch_nextOrder, htake] at hentry
    refine ⟨_, exec_sqFetch hmay hats hpool, ?_, ?_, hentry, ?_, fun i hi => ?_, fun a => ?_,
      (s.atFetch_only src qp).trans (honly.mono (by simp))⟩
    · rw [honly .out (by simp)]
      exact s.hostRead_mem_atFetch src qp
    · rw [State.qp_enterPacket, State.qp_setQp_same]
    · rw [State.nextId_enterPacket, State.atFetch_nextId]
    · rw [State.entry?_enterPacket_other _ _ (by rwa [State.atFetch_nextId]), State.entry?_atFetch]
    · rw [State.source_enterPacket, State.source_atFetch]
  case cmd =>
    intro s port msg hport hkind hlen hcredit hfenced hbracing hlive hheld
    refine ⟨_, exec_cmd hport hkind hlen rfl hcredit hfenced hbracing hlive hheld, _, rfl, State.nextId_enterPacket _ _,
      _, State.entry?_enterPacket _ _, rfl, rfl, rfl, rfl, rfl⟩
  case rejected =>
    intro s id e r b st sub hentry hphase hfree haligned hfence hchecks
    exact ⟨_, exec_intakeAccept_rejected ⟨hentry, hphase, hfree, haligned, hfence⟩ r b hchecks, State.entry?_setEntry_same _ _ _,
      onlyEntry_setEntry _ _ _⟩
  case accepted =>
    intro s id e e' r b hentry hphase hfree haligned hfence hearly hblock hown htranslate hslot
    exact ⟨exec_intakeAccept_accepted ⟨hentry, hphase, hfree, haligned, hfence⟩ r b hearly hblock hown htranslate hslot,
      rfl, rfl, rfl, rfl⟩
  case release =>
    intro s id e hentry haccepted hbarrier hfirst
    have hnone : s.earlier e = [] := by
      rw [State.earlier, State.entriesWhere, List.filter_eq_nil_iff]
      intro c hc hbefore
      simp only [Bool.and_eq_true, decide_eq_true_eq] at hbefore
      obtain ⟨⟨hsrc, hqp⟩, hlt⟩ := hbefore
      exact absurd hlt (Nat.not_lt.mpr (hfirst c hc hsrc hqp))
    exact ⟨_, exec_barrierRelease hentry haccepted hbarrier hnone, State.entry?_setEntry_same _ _ _, onlyEntry_setEntry _ _ _⟩
  case waits =>
    intro s id e c hentry hc hsrc hqp hlt
    have hmem : c ∈ s.earlier e := List.mem_filter.mpr ⟨hc, by simp [hsrc, hqp, hlt]⟩
    exact exec_barrierRelease_waits hentry (List.ne_nil_of_mem hmem)

end Sys2Proof.Machine
end

section
/-!
How a command ends: the answers of its items (R73, R82), its completion record (R53, R66, R67), cancels (R81).
-/
namespace Sys2Proof.Machine

open Sys2Proof

/-! ### The answer of an item (R73, R82) -/

/-- What an item carries for a command of the lift line, of a kind whose answer only ends the item. -/
abbrev Away.OnlyEnds (x : Away) (id : Nat) : Prop := x.owner = some id ∧ id < 2 ^ 41 ∧ (x.kind = 1 ∨ x.kind = 4)

theorem waiterCore_of_command {id : Nat} (h : id < 2 ^ 41) : waiterCore id = none := by
  rw [waiterCore, if_neg]
  simp only [Bool.and_eq_true, decide_eq_true_eq]
  omega

/-- The results of an answer added to what a command has. -/
abbrev Entry.adding (e : Entry) (r : List Nat) : Entry :=
  { e with
    out := { e.out with
      result0 := (e.out.result0 + r.getD 0 0) % 2 ^ 64
      countDone := e.out.countDone + r.getD 1 0
      countAux := e.out.countAux + r.getD 2 0
      result1 := e.out.result1 + r.getD 3 0
      fellBack := e.out.fellBack || r.getD 4 0 != 0 }
    reply := e.reply ++ r.drop 5 }

theorem State.addResult_eq {s : State} {id : Nat} {e : Entry} {i : Item} (h : s.entry? id = some e) (hi : i ∈ e.items)
    (hc : i.cancelled = false) (r : List Nat) : s.addResult id i.id r = s.setEntry id (e.adding r) := by
  have hany : (s.entry? id).any (fun e => e.items.any fun j => j.id = i.id && !j.cancelled) = true := by
    rw [h, Option.any_some, List.any_eq_true]
    exact ⟨i, hi, by simp [hc]⟩
  rw [State.addResult, if_pos hany, State.modEntry_eq h]

/-- The final answer to an item of a command: its results add up, and it is answered. -/
theorem exec_workAnswer_final {s : State} {id : Nat} {e : Entry} {i : Item} (h : s.entry? id = some e) (hi : i ∈ e.items)
    (hplain : ∀ x, s.rack.away.find? i.id = some x → x.OnlyEnds id) (st sub : Nat) (b : Bool) (r : List Nat) :
    exec (.workAnswer id i.id .final st sub b r) s = .next ((s.addResult id i.id r).answerItem id i.id st sub b) := by
  have hany : (s.entry? id).any (fun e => e.items.any fun j => j.id = i.id) = true := by
    rw [h, Option.any_some, List.any_eq_true]
    exact ⟨i, hi, by simp⟩
  show execWorkAnswer id i.id .final st sub b r s = _
  cases hx : s.rack.away.find? i.id with
  | none => simp [execWorkAnswer, State.copyAnswered, hx, hany]
  | some x =>
    obtain ⟨howner, hcommand, hkind⟩ := hplain x hx
    rcases hkind with hkind | hkind <;>
      simp [execWorkAnswer, State.copyAnswered, hx, hany, hkind, howner, Option.filter_some, waiterCore_of_command hcommand]

/-- The entry of a command after the last answer, to its one item, which had begun. -/
def Entry.lastAnswer (e : Entry) (i : Item) (st sub : Nat) : Entry :=
  { e with
    items := []
    acked := if st = St.done || st = St.donePartial then e.acked + 1 else e.acked
    begun := e.begun ||| i.classes
    served := if !e.served.contains i.home then e.served ++ [i.home] else e.served
    out := if !e.served.contains i.home then { e.out.merge st sub with homes := (e.out.merge st sub).homes + 1 }
      else e.out.merge st sub
    phase := .ended }

/-- A merge changes the status and its subcode alone. -/
theorem Outcome.merge_eq (o : Outcome) (st sub : Nat) : ∃ n m, o.merge st sub = { o with status := n, subcode := m } ∧
    (n, m) = if statusRank st < statusRank o.status then (st, sub) else (o.status, o.subcode) := by
  unfold Outcome.merge
  split
  · exact ⟨st, sub, rfl, rfl⟩
  · exact ⟨o.status, o.subcode, rfl, rfl⟩

/-- The outcome after the last answer: the statuses merged, the counts as they stood but for the member that served. -/
theorem Entry.lastAnswer_out (e : Entry) (i : Item) (st sub : Nat) :
    (e.lastAnswer i st sub).out.countDone = e.out.countDone ∧ (e.lastAnswer i st sub).out.result0 = e.out.result0 ∧
      ((e.lastAnswer i st sub).out.status, (e.lastAnswer i st sub).out.subcode) =
        if statusRank st < statusRank e.out.status then (st, sub) else (e.out.status, e.out.subcode) := by
  obtain ⟨n, m, hmerge, hnm⟩ := e.out.merge_eq st sub
  rw [← hnm]
  simp only [Entry.lastAnswer, hmerge]
  split <;> exact ⟨rfl, rfl, rfl⟩

/-- The last answer of a running command's one item ends it. -/
theorem exec_workAnswer_last {s : State} {id : Nat} {e : Entry} {i : Item} (h : s.entry? id = some e) (hitems : e.items = [i])
    (hplain : ∀ x, s.rack.away.find? i.id = some x → x.OnlyEnds id)
    (hitem : i.cancelled = false ∧ i.other = none ∧ i.failure = none ∧ i.transfer = false)
    (hruns : e.stop = none ∧ e.started = true ∧ e.moving = false) (st sub : Nat) (r : List Nat) :
    exec (.workAnswer id i.id .final st sub true r) s =
      .next (((s.setEntry id (e.adding r)).setEntry id ((e.adding r).lastAnswer i st sub)).dropAway i.id) := by
  obtain ⟨hcancelled, hother, hfailure, htransfer⟩ := hitem
  obtain ⟨hstop, hstarted, hmoving⟩ := hruns
  have hmem : i ∈ e.items := by simp [hitems]
  rw [exec_workAnswer_final h hmem hplain, State.addResult_eq h hmem hcancelled]
  exact congrArg Host.Outcome.next (State.answerItem_last (s := s.setEntry id (e.adding r)) st sub true
    (State.entry?_setEntry_same _ _ _) hitems hcancelled hother hfailure htransfer hstop hstarted hmoving)

/-! ### COMMAND_COMPLETE (R58, R66, R67) -/

/-- A command of a host function whose record may be written: its outcome stands, every item is answered, its results are written,
and its queue pair takes completions. -/
structure State.Completes (s : State) (id : Nat) (e : Entry) : Prop where
  entry : s.entry? id = some e
  ended : e.phase = .ended ∧ e.items = [] ∧ e.pend = []
  own : e.proxy = none ∧ e.cplSent = none ∧ e.src < 128
  noArea : e.out.area = none
  takes : (s.qp e.src e.qp).state ≠ .disabled ∧ (s.qp e.src e.qp).silent = false ∧ (s.source e.src).atsEnabled = true

theorem State.landResults_of_none {s : State} {id : Nat} {e : Entry} (h : e.pend = []) : s.landResults id e = (s, true) := by
  unfold State.landResults
  cases e.slot <;> simp [h]

theorem exec_commandComplete {s : State} {id : Nat} {e : Entry} (h : s.Completes id e) :
    exec (.commandComplete id true) s = .next ((((s.settle id e).freeSlotOf id e.src).writeRecord e).endEntry id e) := by
  obtain ⟨hphase, hitems, hpend⟩ := h.ended
  obtain ⟨hproxy, hsent, hsrc⟩ := h.own
  obtain ⟨hstate, hsilent, hats⟩ := h.takes
  show execCommandComplete id true s = _
  simp only [execCommandComplete, h.entry]
  rw [if_neg (by simp [hphase, hitems, hsent])]
  simp only [State.landResults_of_none hpend, hproxy]
  rw [if_pos hsrc, if_neg hstate, if_neg (by simp [hsilent, hats])]
  simp [h.noArea]

/-- R67: the record goes out in two posted writes, its first 4 bytes, with PHASE, last. -/
theorem State.writeRecord_writes (s : State) (e : Entry) {x : QueuePair} (hx : x = s.qp e.src e.qp) :
    .hostWrite e.src (x.cqBase + 32 * x.cqTail + 4) ((e.record x.phase e.qp e.sqHead).drop 4) false ∈ (s.writeRecord e).out ∧
      .hostWrite e.src (x.cqBase + 32 * x.cqTail) ((e.record x.phase e.qp e.sqHead).take 4) false ∈ (s.writeRecord e).out := by
  subst hx
  have hsignal (u : State) : u.out <+: (u.signalCq e.src e.qp).out :=
    (State.signalCq_keeps (m := 2 ^ 24 - 1) u _ _ (by decide) (Kept.refl _ _)).keeps.out
  unfold State.writeRecord
  dsimp only
  split
  · exact ⟨(hsignal _).subset (by simp [State.emit]), (hsignal _).subset (by simp [State.emit])⟩
  · exact ⟨by simp [State.emit], by simp [State.emit]⟩

/-- What a command has sent stays sent at its end. -/
theorem State.mem_out_endEntry {s : State} {x : Emit} (h : x ∈ s.out) (id : Nat) (e : Entry) : x ∈ (s.endEntry id e).out :=
  (State.endEntry_keeps (m := 2 ^ 24 - 1) s id e (by decide) (Kept.refl _ _)).keeps.out.subset h

/-! ### CMD_CPL (R53) -/

theorem exec_cmdCpl_delivered {s : State} {id n : Nat} {e : Entry} (h : s.entry? id = some e) (hsent : e.cplSent = some n)
    (hdue : n ≤ (s.source e.src).creditsDue) :
    exec (.cmdCpl id true) s = .next ((s.setSource e.src { s.source e.src with
      credits := (s.source e.src).credits + n, creditsDue := (s.source e.src).creditsDue - n }).endEntry id e) := by
  show execCmdCpl id true s = _
  simp [execCmdCpl, h, hsent, hdue]

/-! ### Cancels (R81) -/

theorem mem_addNew {α : Type} [BEq α] [LawfulBEq α] (l : List α) (x : α) : x ∈ addNew l x := by
  unfold addNew
  split
  · rename_i h
    exact List.contains_iff_mem.mp h
  · simp

/-- The state once a cancel has dropped an item that has not begun: nothing of it waits here, and one that arrives later is dropped. -/
abbrev State.dropItem (s : State) (origin id : Nat) : State :=
  { s.dropQueued origin id with
    rack := { s.rack with
      held := s.rack.held.filter fun (h : WorkItem × Nat) => !(h.1.origin = origin && h.1.id = id)
      due := s.rack.due.filter fun x => x.1 != itemWaiter origin id
      holds := s.rack.holds.filter (· != (origin, id))
      dropped := addNew s.rack.dropped (origin, id) } }

theorem exec_workCancel {s : State} {origin id : Nat} (hbegun : s.itemBegun origin id = false)
    (hproxy : s.proxyOf origin id = none) :
    exec (.workCancel origin id) s = .next ((s.dropItem origin id).emit (.workAnswer origin id St.aborted 0 [0])) := by
  show execWorkCancel origin id s = _
  simp only [execWorkCancel, hbegun, Bool.false_eq_true, if_false]
  split
  · rfl
  · rename_i hsome
    cases hproxy.symm.trans hsome

/-- The cancels of a command go out again, one for each item cancelled. -/
theorem foldl_emit_out (l : List Item) (f : Item → Emit) (s : State) :
    l.foldl (fun (s : State) i => s.emit (f i)) s = { s with out := s.out ++ l.map f } := by
  induction l generalizing s with
  | nil => simp
  | cons i l ih =>
    rw [List.foldl_cons, ih]
    simp [State.emit]

theorem exec_cancelResend {s : State} {id : Nat} {e : Entry} (h : s.entry? id = some e) (hstop : e.stop ≠ none) :
    exec (.cancelResend id) s = .next { s with
      out := s.out ++ (e.items.filter fun i => i.cancelled).map fun i => .work i.home i.id 1 } := by
  show execCancelResend id s = _
  simp only [execCancelResend, h]
  rw [if_pos (Option.isSome_iff_ne_none.mpr hstop), foldl_emit_out]

/-- Settles O10: the last answer by what it adds and merges, the record by its two writes before the end of the entry, the cancels by
what they drop and send. -/
theorem completionOfCommands : Obligations.CompletionOfCommands := by
  unfold Obligations.CompletionOfCommands
  refine ⟨?answer, ?record, fun s id n e => exec_cmdCpl_delivered, ?cancel, ?resend⟩
  case answer =>
    rintro s id _ st sub i e r h hitems rfl hcancelled hother hfailure htransfer hstop hstarted hmoving hplain
    obtain ⟨hcount, hresult, hstatus⟩ := (e.adding r).lastAnswer_out i st sub
    refine ⟨_, exec_workAnswer_last h hitems hplain ⟨hcancelled, hother, hfailure, htransfer⟩ ⟨hstop, hstarted, hmoving⟩ st sub r,
      ?_, fun a ha => (State.entry?_setEntry_other _ _ ha).trans (State.entry?_setEntry_other _ _ ha), rfl,
      _, State.entry?_setEntry_same _ _ _, rfl, rfl, rfl, ?_, hcount, hresult, hstatus⟩
    · exact (State.dropAway_keeps _ _ (by decide) (State.setEntry_keeps _ _ _ (by decide)
        (State.setEntry_keeps _ _ _ (by decide) (Kept.refl _ _)))).only
    · simp [Entry.lastAnswer]
  case record =>
    rintro s id e x w h hphase hitems hproxy hsent hsrc hstate hsilent harea hpend hats rfl rfl
    obtain ⟨htail, hhead⟩ := ((s.settle id e).freeSlotOf id e.src).writeRecord_writes e rfl
    exact ⟨_, exec_commandComplete ⟨h, ⟨hphase, hitems, hpend⟩, ⟨hproxy, hsent, hsrc⟩, harea, hstate, hsilent, hats⟩, rfl,
      State.mem_out_endEntry htail id e, State.mem_out_endEntry hhead id e⟩
  case cancel =>
    intro s origin id hbegun hproxy
    refine ⟨_, exec_workCancel hbegun hproxy, rfl, ?_, mem_addNew _ _, ?_⟩
    · rintro h hmem ⟨horigin, hid⟩
      obtain ⟨-, hother⟩ := List.mem_filter.mp hmem
      simp [horigin, hid] at hother
    · intro p hp
      cases p with
      | rack | kvp | out => simp at hp
      | _ => rfl
  case resend =>
    intro s id e h hstop
    refine ⟨_, exec_cancelResend h hstop, rfl, ?_⟩
    intro p hp
    cases p with
    | out => simp at hp
    | _ => rfl

end Sys2Proof.Machine
end

section
/-!
Stopping commands (R80, R84), releasing results (R78), resets of functions and ports (R88, R586).
-/
namespace Sys2Proof.Machine

open Sys2Proof

/-! ### Stops (R80, R84) -/

/-- An accepted command that runs with no item at another member and no core at work for it: a stop ends it at once. -/
structure State.StopsAtOnce (s : State) (id : Nat) (e : Entry) : Prop where
  entry : s.entry? id = some e
  runs : e.accepted = true ∧ e.stop = none ∧ e.phase ≠ .ended
  alone : e.items = [] ∧ s.NoCoreFor id

/-- The entry of a command that a stop has ended. -/
abbrev Entry.stopped (e : Entry) (why : Stop) : Entry :=
  Entry.endStopped { e with stop := some why, moving := false, marked := false, holdDue := [], items := [] }

theorem State.StopsAtOnce.stopEntry {s : State} {id : Nat} {e : Entry} (h : s.StopsAtOnce id e) (why : Stop) :
    (s.stopEntry id why).entry? id = some (e.stopped why) := by
  obtain ⟨haccepted, hstop, hphase⟩ := h.runs
  obtain ⟨hitems, hcore⟩ := h.alone
  exact State.entry?_stopEntry why h.entry haccepted hstop hphase hitems hcore

theorem exec_commandTimeout {s : State} {id : Nat} {e : Entry} (h : s.entry? id = some e)
    (htime : (s.source e.src).timeoutMs ≠ 0) (hwait : pkOpcode e.packet ≠ 0xA1) :
    exec (.commandTimeout id) s = .next (s.stopEntry id .timeout) := by
  show execCommandTimeout id s = _
  simp [execCommandTimeout, h, htime, hwait]

/-- An abort stops each command that it matches, in turn. -/
theorem exec_abortQtag {s : State} {src qp tag id : Nat} {ids : List Nat} (h : s.abortable src qp (some tag) = id :: ids) :
    exec (.abortQtag src qp tag) s = .next ((id :: ids).foldl (fun u i => u.stopEntry i .abortTag) s) := by
  show execAbortQtag src qp tag s = _
  simp [execAbortQtag, State.abortAll, h]

theorem exec_abortAllQp {s : State} {src qp id : Nat} {ids : List Nat} (h : s.abortable src qp none = id :: ids) :
    exec (.abortAllQp src qp) s = .next ((id :: ids).foldl (fun u i => u.stopEntry i .abortAll) s) := by
  show execAbortAllQp src qp s = _
  simp [execAbortAllQp, State.abortAll, h]

theorem exec_abortQtag_missed {s : State} {src qp tag : Nat} (h : s.abortable src qp (some tag) = []) :
    exec (.abortQtag src qp tag) s = .next (s.abortMissed src) := by
  show execAbortQtag src qp tag s = _
  simp [execAbortQtag, State.abortAll, h]

/-! ### Releases (R78) -/

/-- What one handle of a release does. -/
def State.releaseOne (s : State) (src h : Nat) : State :=
  match s.releaseHandle src h with
  | (s, true) => s
  | (s, false) => s.releaseStale src

theorem exec_resultRelease (s : State) (src : Nat) (hs : List Nat) :
    exec (.resultRelease src hs) s = .next (hs.foldl (fun u h => u.releaseOne src h) s) := rfl

/-- A handle of a live slot frees it. -/
theorem State.releaseOne_live {s : State} {src h : Nat} {t : Slot} (ht : t ∈ (s.source src).slots) (hh : slotHandle t = h) :
    s.releaseOne src h = s.setSource src { s.source src with
      slots := (s.source src).slots.filter fun x => slotHandle x != h } := by
  have hlive : (s.source src).slots.any (fun t => slotHandle t = h) = true := List.any_eq_true.mpr ⟨t, ht, by simp [hh]⟩
  rw [State.releaseOne, State.releaseHandle, if_pos hlive]
  rfl

/-- A handle of no live slot is counted, with its event. -/
theorem State.releaseOne_stale {s : State} {src h : Nat} (hh : ∀ t ∈ (s.source src).slots, slotHandle t ≠ h) :
    s.releaseOne src h = s.releaseStale src := by
  have hnone : (s.source src).slots.any (fun t => slotHandle t = h) = false := by simpa using hh
  rw [State.releaseOne, State.releaseHandle, if_neg (by simp [hnone])]

/-! ### Resets (R88, R586) -/

/-- Where no function's queue pair is kept, each reads as after reset. -/
theorem qp_of_filtered {t : Tab QueuePair} {src q : Nat} (hq : q < 2048) :
    (t.filter fun k _ => k / 2048 != src).getD (qpKey src q) {} = {} := by
  have hkey : qpKey src q / 2048 = src := by rw [qpKey]; omega
  rw [Tab.getD, Tab.find?_filter_key t (fun k => k / 2048 != src), hkey]
  simp

/-- A reset of a function leaves its queue pairs as after reset, no slot and no count. -/
theorem State.resetFunction_clears (s : State) (src : Nat) :
    ∃ x : Source, (s.resetFunction src).source src =
        { x with abortMiss := 0, releaseStale := 0, qpErrFirst := none, slots := [] } ∧
      ∀ q < 2048, (s.resetFunction src).qp src q = {} := by
  unfold State.resetFunction
  dsimp only
  generalize List.foldl _ s _ = u
  have hqp (q : Nat) (hq : q < 2048) := qp_of_filtered (t := (u.clearFnRegs src).cmdq.qps) (src := src) hq
  have hsource : (u.clearFnRegs src).source src =
      { u.source src with abortMiss := 0, releaseStale := 0, qpErrFirst := none, slots := [] } :=
    State.source_setSource_same _ _ _
  refine ⟨u.source src, ?_, fun q hq => ?_⟩
  · rw [State.source_takeHeld]
    split
    · exact hsource
    · rw [State.source_fnRaise]
      exact hsource
  · rw [State.qp_takeHeld]
    split
    · exact hqp q hq
    · rw [State.qp_fnRaise]
      exact hqp q hq

theorem exec_functionLevelReset {src : Nat} (h : src < 128) (s : State) :
    exec (.functionLevelReset src) s = .next (s.resetFunction src) := if_pos h

theorem exec_pcieLinkDown {port : Nat} (h : port < 2) (s : State) : exec (.pcieLinkDown port) s = .next (s.resetPcie port) :=
  if_pos h

/-- The resets of a port's functions, run as commands one after the other. -/
theorem foldlM_functionLevelReset {l : List Nat} (hl : ∀ src ∈ l, src < 128) (s : State) :
    (l.map Instr.functionLevelReset).foldlM (fun v c =>
        match exec c v with
        | .next w => some w
        | _ => none) s = some (l.foldl State.resetFunction s) := by
  induction l generalizing s with
  | nil => rfl
  | cons src l ih =>
    rw [List.map_cons, List.foldlM_cons, exec_functionLevelReset (hl src (by simp))]
    exact ih (fun x hx => hl x (by simp [hx])) _

/-- Settles O11: a stop ends a command that nothing else serves, a release by whether its handle is live, resets function by
function. -/
theorem stopsReleasesAndResets : Obligations.StopsReleasesAndResets := by
  unfold Obligations.StopsReleasesAndResets
  refine ⟨?timeout, ?abort, ?missed, fun s src qp id ids => exec_abortAllQp, ?live, ?stale, ?several, ?function, ?port⟩
  case timeout =>
    intro s id e h haccepted hstop hphase hitems hcore htime hwait
    have hstops : s.StopsAtOnce id e := ⟨h, ⟨haccepted, hstop, hphase⟩, hitems, hcore⟩
    refine ⟨_, exec_commandTimeout h htime hwait, _, hstops.stopEntry .timeout, rfl, rfl, ?_, rfl, rfl⟩
    simp [Entry.stopped, Entry.endStopped, hwait]
  case abort =>
    intro s src qp tag id e habort h haccepted hstop hphase hitems hcore
    have hstops : s.StopsAtOnce id e := ⟨h, ⟨haccepted, hstop, hphase⟩, hitems, hcore⟩
    exact ⟨_, exec_abortQtag habort, _, hstops.stopEntry .abortTag, rfl, rfl, rfl, rfl⟩
  case missed =>
    intro s src qp tag h
    refine ⟨_, exec_abortQtag_missed h, ?_, State.fldAt_fnRaise_same _ _ _ (by decide), ?_⟩
    · rw [State.abortMissed, State.source_fnRaise, State.source_setSource_same]
    · exact (State.fnRaise_keeps _ _ _ (by decide) (State.setSource_keeps _ _ _ (by decide) (Kept.refl _ _))).only
  case live =>
    intro s src h t ht hh
    refine ⟨_, exec_resultRelease s src [h], ?_⟩
    rw [List.foldl_cons, List.foldl_nil, State.releaseOne_live ht hh, State.source_setSource_same]
    exact ⟨rfl, onlySource_setSource _ _ _⟩
  case stale =>
    intro s src h hh
    refine ⟨_, exec_resultRelease s src [h], ?_⟩
    rw [List.foldl_cons, List.foldl_nil, State.releaseOne_stale hh, State.releaseStale, State.source_fnRaise,
      State.source_setSource_same]
    exact ⟨rfl, rfl, State.fldAt_fnRaise_same _ _ _ (by decide)⟩
  case several =>
    intro s u src h hs hu
    obtain rfl := Host.Outcome.next.inj ((exec_resultRelease s src [h]).symm.trans hu)
    rw [exec_resultRelease, exec_resultRelease, List.foldl_cons, List.foldl_cons, List.foldl_nil]
  case function =>
    intro s src q hsrc hq
    obtain ⟨x, hsource, hqp⟩ := s.resetFunction_clears src
    refine ⟨_, exec_functionLevelReset hsrc s, hqp q hq, ?_⟩
    rw [hsource]
    exact ⟨rfl, rfl, rfl⟩
  case port =>
    intro s port hport
    refine ⟨_, exec_pcieLinkDown hport s, State.fld_raise_same _ _ (by decide), _, rfl, ?_⟩
    have hfuncs : ∀ src ∈ (List.range 64).map (fun f => 64 * port + f), src < 128 := by
      simp only [List.mem_map, List.mem_range]
      rintro _ ⟨f, hf, rfl⟩
      omega
    have hresets := foldlM_functionLevelReset hfuncs s
    rw [List.map_map, List.foldl_map] at hresets
    exact hresets

end Sys2Proof.Machine
end

section
/-!
The fields that the shared operations of events, sensors, counters and alignment change (R129 to R132, R596, R608, R618).
-/
namespace Sys2Proof.Machine

open Sys2Proof

/-! ### Fields that stand -/

theorem FieldsStand.mono {k l : List Fld} {s t : State} (h : FieldsStand k s t) (hs : k ⊆ l) : FieldsStand l s t :=
  fun g hg hl => h g hg fun f hf => hl f (hs hf)

/-- A field that shares no bit with those that changed reads as before. -/
theorem FieldsStand.fld {l : List Fld} {s t : State} (h : FieldsStand l s t) {g : Fld}
    (hg : g.off < 2 ^ 24 ∧ ∀ f ∈ l, f.off ≠ g.off ∨ f.hi < g.lo ∨ g.hi < f.lo) : t.fld g = s.fld g :=
  h g hg.1 hg.2

theorem FieldsStand.foldl {α : Type} {l : List Fld} {f : State → α → State} (hf : ∀ s a, FieldsStand l s (f s a)) (as : List α)
    (s : State) : FieldsStand l s (as.foldl f s) := by
  induction as generalizing s with
  | nil => exact .refl _ _
  | cons a as ih => exact (hf s a).trans (ih _)

theorem State.setFld_stands (s : State) {f : Fld} (v : Nat) (h : f.Placed) : FieldsStand [f] s (s.setFld f v) :=
  (FieldsStand.refl _ s).setFld f v h (List.mem_singleton_self f)

theorem State.raise_stands (s : State) {f : Fld} (h : f.Placed) : FieldsStand [f] s (s.raise f) :=
  (FieldsStand.refl _ s).raise f h (List.mem_singleton_self f)

/-! ### State sensors and start-up (R596, R608) -/

theorem State.sensorEvent_stands (s : State) (ep sensor value : Nat) :
    FieldsStand [F.MGT_EVENT_EVENT_DROPPED] s (s.sensorEvent ep sensor value) := by
  unfold State.sensorEvent
  split
  · exact .of_regs rfl
  · dsimp only
    split
    · exact .raise (.of_regs rfl) _ (by decide) (by simp)
    · exact .of_regs rfl

theorem State.tellSensors_stands (s : State) : FieldsStand [F.MGT_EVENT_EVENT_DROPPED] s s.tellSensors :=
  (FieldsStand.of_regs rfl).trans <| FieldsStand.foldl
    (fun _ _ => ((State.sensorEvent_stands _ _ _ _).trans (State.sensorEvent_stands _ _ _ _)).trans
      (State.sensorEvent_stands _ _ _ _)) _ _

/-- The fields that steps 7 and 8 of start-up change. -/
abbrev startFields : List Fld := [F.CLK_STARTUP_STAGE, F.CLK_STARTUP_TIME_US, F.MGT_EVENT_EVENT_DROPPED]

theorem State.stageReached_stands (s : State) (n : Nat) : FieldsStand startFields s (s.stageReached n) := by
  unfold State.stageReached
  split
  · exact .refl _ _
  · exact ((FieldsStand.of_regs rfl).setFld _ _ (by decide) (by simp)).setFld _ _ (by decide) (by simp)

/-- What start-up shows when an alignment state is entered. -/
def State.startUp (s : State) (st : Nat) : State :=
  let stage := s.fld F.CLK_STARTUP_STAGE
  let reached := max stage (if st = 2 then 8 else 7)
  if 6 ≤ stage && stage ≤ 8 && st != 0 then (s.stageReached reached).tellSensors else s

theorem State.startUp_stands (s : State) (st : Nat) : FieldsStand startFields s (s.startUp st) := by
  unfold State.startUp
  dsimp only
  split
  · exact (State.stageReached_stands _ _).trans ((State.tellSensors_stands _).mono (by simp))
  · exact .refl _ _

/-! ### Performance counters (R618) -/

/-- The fields that a counter's overflow changes. -/
abbrev counterFields : List Fld := [F.PMC_OVF_FIRST_COUNTER, F.PMC_OVF_FIRST_VALID, F.MGT_EVENT_PMC_OVF]

theorem State.pmcOverflow_stands (s : State) (k : Nat) : FieldsStand counterFields s (s.pmcOverflow k) := by
  have hfirst (u : State) : FieldsStand counterFields u (if u.fld F.PMC_OVF_FIRST_VALID = 1 then u
      else (u.setFld F.PMC_OVF_FIRST_COUNTER k).setFld F.PMC_OVF_FIRST_VALID 1) := by
    split
    · exact .refl _ _
    · exact ((FieldsStand.refl _ u).setFld _ _ (by decide) (by simp)).setFld _ _ (by decide) (by simp)
  have hraised := (hfirst (s.setPmc k { s.pmc k with ovf := true })).raise F.MGT_EVENT_PMC_OVF (by decide) (by simp)
  unfold State.pmcOverflow
  dsimp only
  split
  · exact (FieldsStand.of_regs rfl).trans (hraised.trans (.of_regs rfl))
  · exact (FieldsStand.of_regs rfl).trans hraised

theorem State.pmcWrap_stands (s : State) (k : Nat) : FieldsStand counterFields s (s.pmcWrap k) := by
  unfold State.pmcWrap
  split
  · dsimp only
    split
    · exact .of_regs rfl
    · exact (FieldsStand.of_regs rfl).trans (State.pmcOverflow_stands _ _)
  · exact State.pmcOverflow_stands _ _

theorem State.pulse_stands (s : State) (event unit n : Nat) : FieldsStand counterFields s (s.pulse event unit n) := by
  refine FieldsStand.foldl (fun u c => ?_) _ s
  dsimp only
  split
  · exact .of_regs rfl
  · exact (FieldsStand.of_regs rfl).trans (State.pmcWrap_stands _ _)

/-! ### Entering and losing an alignment state (R132) -/

/-- The fields that entering an alignment state changes. -/
abbrev enterFields : List Fld := F.PST_EVENT_ALIGN_LOCKED :: F.PST_STATUS_ALIGN_STATE :: startFields

/-- LOCKED is told where it was not the state before. -/
def State.tellLocked (s : State) (st : Nat) : State :=
  if st = 2 && s.alignState != 2 then s.raise F.PST_EVENT_ALIGN_LOCKED else s

theorem State.setAlign_eq (s : State) (st : Nat) :
    s.setAlign st = ((s.tellLocked st).setFld F.PST_STATUS_ALIGN_STATE st).startUp st := rfl

theorem State.setAlign_stands (s : State) (st : Nat) : FieldsStand enterFields s (s.setAlign st) := by
  have htold : FieldsStand enterFields s (s.tellLocked st) := by
    unfold State.tellLocked
    split
    · exact (FieldsStand.refl _ s).raise _ (by decide) (by simp)
    · exact .refl _ _
  rw [State.setAlign_eq]
  exact (htold.setFld _ _ (by decide) (by simp)).trans ((State.startUp_stands _ _).mono (by simp))

theorem State.alignState_setAlign (s : State) {st : Nat} (h : st < 4) : (s.setAlign st).alignState = st := by
  rw [State.setAlign_eq, State.alignState, (State.startUp_stands _ _).fld (by decide)]
  exact State.fld_setFld_same _ _ _ ⟨by decide, by decide, h⟩

theorem State.event_setAlign_locked {s : State} (h : s.alignState ≠ 2) : (s.setAlign 2).fld F.PST_EVENT_ALIGN_LOCKED = 1 := by
  rw [State.setAlign_eq, (State.startUp_stands _ _).fld (by decide), (State.setFld_stands _ _ (by decide)).fld (by decide),
    State.tellLocked, if_pos (by simp [h])]
  exact State.fld_raise_same _ _ (by decide)

theorem State.setAlign_only (s : State) (st : Nat) : Frame [.regs, .out, .sys, .mgt, .msix] s (s.setAlign st) :=
  (State.setAlign_keeps s st (by decide) (Kept.refl _ _)).only

@[simp] theorem State.setAlign_pst (s : State) (st : Nat) : (s.setAlign st).pst = s.pst := s.setAlign_only st .pst (by simp)

/-- The fields that the loss of alignment changes. -/
abbrev loseFields : List Fld := [F.PST_STATUS_ALIGN_STATE, F.PST_ALIGN_STATUS_HOPS, F.PST_EVENT_ALIGN_LOST]

theorem State.loseAlign_stands (s : State) : FieldsStand loseFields s s.loseAlign :=
  ((((FieldsStand.refl _ s).setFld F.PST_STATUS_ALIGN_STATE 1 (by decide) (by simp)).setFld
    F.PST_ALIGN_STATUS_HOPS 15 (by decide) (by simp)).raise F.PST_EVENT_ALIGN_LOST (by decide) (by simp)).trans (.of_regs rfl)

/-- A member that has lost its alignment is in ACQUIRE, with HOPS 15, and has told it. -/
theorem State.fld_loseAlign (s : State) : s.loseAlign.fld F.PST_STATUS_ALIGN_STATE = 1 ∧
    s.loseAlign.fld F.PST_ALIGN_STATUS_HOPS = 15 ∧ s.loseAlign.fld F.PST_EVENT_ALIGN_LOST = 1 := by
  have hregs : s.loseAlign.regs = (((s.setFld F.PST_STATUS_ALIGN_STATE 1).setFld F.PST_ALIGN_STATUS_HOPS 15).raise
    F.PST_EVENT_ALIGN_LOST).regs := rfl
  simp only [State.fld_congr hregs]
  refine ⟨?_, ?_, State.fld_raise_same _ _ (by decide)⟩
  · rw [(State.raise_stands _ (by decide)).fld (by decide), (State.setFld_stands _ _ (by decide)).fld (by decide)]
    exact State.fld_setFld_same _ _ _ (by decide)
  · rw [(State.raise_stands _ (by decide)).fld (by decide)]
    exact State.fld_setFld_same _ _ _ (by decide)

@[simp] theorem State.loseAlign_frame (s : State) : s.loseAlign.frame = s.frame := State.raise_frame _ _

@[simp] theorem State.loseAlign_markers (s : State) : s.loseAlign.pst.markers = s.pst.markers := by
  simp [State.loseAlign, State.newWindow]

theorem State.lockBehind_stands (s : State) : FieldsStand (F.PST_ALIGN_STATUS_HOPS :: enterFields) s s.lockBehind :=
  ((State.setAlign_stands s 2).mono (by simp)).setFld _ _ (by decide) (by simp)

end Sys2Proof.Machine
end

section
/-!
Frame alignment (R124, R129 to R132): the parent followed, what a marker leaves, the end of a window, HOLDOVER, ALIGN_EN.
-/
namespace Sys2Proof.Machine

open Sys2Proof

/-! ### The parent followed (R129, R132) -/

/-- The fields that the choice of a parent changes. -/
abbrev parentFields : List Fld :=
  [F.PST_ALIGN_STATUS_PARENT_PORT, F.PST_ALIGN_STATUS_PARENT_VALID, F.PST_ALIGN_STATUS_REF_MEMBER] ++ loseFields ++ enterFields

theorem State.leaveParent_stands (s : State) :
    FieldsStand [F.PST_ALIGN_STATUS_PARENT_VALID, F.PST_STATUS_ALIGN_STATE] s s.leaveParent := by
  have hleft : FieldsStand [F.PST_ALIGN_STATUS_PARENT_VALID, F.PST_STATUS_ALIGN_STATE] s
      (s.newWindow.setFld F.PST_ALIGN_STATUS_PARENT_VALID 0) :=
    (FieldsStand.of_regs rfl).setFld _ _ (by decide) (by simp)
  unfold State.leaveParent
  dsimp only
  split
  · exact (hleft.trans (.of_regs rfl)).setFld _ _ (by decide) (by simp)
  · exact hleft

@[simp] theorem State.leaveParent_markers (s : State) : s.leaveParent.pst.markers = s.pst.markers := by
  unfold State.leaveParent
  dsimp only
  split <;> rfl

theorem State.leaveParent_only (s : State) : Frame [.regs, .pst] s s.leaveParent :=
  (State.leaveParent_keeps s (by decide) (Kept.refl _ _)).only

theorem State.parentPort_of_invalid {s : State} (h : s.fld F.PST_ALIGN_STATUS_PARENT_VALID = 0) : s.parentPort = none := by
  simp [State.parentPort, h]

/-- A LOCKED member that leaves its parent is in HOLDOVER from this frame on. -/
theorem State.leaveParent_locked {s : State} (h : s.alignState = 2) :
    s.leaveParent.alignState = 3 ∧ s.leaveParent.parentPort = none ∧ s.leaveParent.pst.holdSince = s.frame := by
  have hstate : (s.newWindow.setFld F.PST_ALIGN_STATUS_PARENT_VALID 0).alignState = 2 :=
    ((State.setFld_stands _ _ (by decide)).fld (by decide)).trans h
  unfold State.leaveParent
  dsimp only
  rw [if_pos hstate]
  refine ⟨State.fld_setFld_same _ _ _ (by decide), State.parentPort_of_invalid ?_, rfl⟩
  rw [(State.setFld_stands _ _ (by decide)).fld (by decide)]
  exact State.fld_setFld_same s.newWindow F.PST_ALIGN_STATUS_PARENT_VALID 0 (by decide)

/-- A parent that is gone is left, unless this member is the reference. -/
def State.leaveGone (s : State) : State := if s.parentGone && s.refMember != s.sys.member then s.leaveParent else s

/-- The reference of the moment is shown; a LOCKED member whose reference becomes another's loses its alignment (R597). -/
def State.nameReference (s : State) : State :=
  let old := s.fld F.PST_ALIGN_STATUS_REF_MEMBER
  let s := s.setFld F.PST_ALIGN_STATUS_REF_MEMBER s.refMember
  if s.refMember != old && s.alignState = 2 && s.refMember != s.sys.member then s.loseAlign else s

/-- The member is its own reference. -/
def State.beReference (s : State) : State :=
  ((s.setFld F.PST_ALIGN_STATUS_PARENT_VALID 0).setFld F.PST_ALIGN_STATUS_HOPS 0).setAlign 2

/-- A port that was not the parent's begins a window, and in HOLDOVER a confirmation. -/
def State.turnTo (s : State) (p : Nat) : State :=
  let same := s.fld F.PST_ALIGN_STATUS_PARENT_VALID = 1 && s.fld F.PST_ALIGN_STATUS_PARENT_PORT = p
  let s := if same then s else s.newWindow
  if same || s.alignState != 3 then s else { s with pst := { s.pst with inRange := 0 } }

/-- The parent is shown, with the hops behind it once the member is aligned. -/
def State.showParent (s : State) (p h : Nat) : State :=
  ((s.setFld F.PST_ALIGN_STATUS_PARENT_PORT p).setFld F.PST_ALIGN_STATUS_PARENT_VALID 1).setFld
    F.PST_ALIGN_STATUS_HOPS (if s.isAligned then min 15 (h + 1) else 15)

/-- A port's sender is followed; a FREE member goes to ACQUIRE. -/
def State.followPort (s : State) (p h : Nat) : State :=
  let s := (s.turnTo p).showParent p h
  if s.alignState = 0 then s.setAlign 1 else s

/-- What the choice of a parent can do once the reference is shown: nothing, be the reference, follow a port. -/
theorem State.chooseParent_cases {s u : State} (hu : u = s.leaveGone.nameReference) :
    s.chooseParent = u ∨ (u.refMember = u.sys.member ∧ s.chooseParent = u.beReference) ∨ ∃ p h, s.chooseParent = u.followPort p h := by
  have heq : s.chooseParent = if u.fld F.PST_ALIGN_CTRL_ALIGN_EN = 0 then u
      else if u.refMember = u.sys.member then u.beReference
      else match u.bestParent with
        | none => u
        | some (p, h) => u.followPort p h := by
    subst hu; rfl
  rw [heq]
  split
  · exact .inl rfl
  split
  · rename_i href
    exact .inr (.inl ⟨href, rfl⟩)
  split
  · exact .inl rfl
  · exact .inr (.inr ⟨_, _, rfl⟩)

theorem State.leaveGone_stands (s : State) : FieldsStand parentFields s s.leaveGone := by
  unfold State.leaveGone
  split
  · exact (State.leaveParent_stands s).mono (by simp)
  · exact .refl _ _

theorem State.nameReference_stands (s : State) : FieldsStand parentFields s s.nameReference := by
  have hset := (FieldsStand.refl parentFields s).setFld F.PST_ALIGN_STATUS_REF_MEMBER s.refMember (by decide) (by simp)
  unfold State.nameReference
  dsimp only
  split
  · exact hset.trans ((State.loseAlign_stands _).mono (by simp))
  · exact hset

theorem State.beReference_stands (s : State) : FieldsStand parentFields s s.beReference :=
  (((FieldsStand.refl parentFields s).setFld _ _ (by decide) (by simp)).setFld _ _ (by decide) (by simp)).trans
    ((State.setAlign_stands _ _).mono (by simp))

theorem State.turnTo_regs (s : State) (p : Nat) : (s.turnTo p).regs = s.regs := by
  simp only [State.turnTo]
  repeat' split
  all_goals rfl

theorem State.turnTo_held (s : State) (p : Nat) :
    (s.turnTo p).pst.markers = s.pst.markers ∧ (s.turnTo p).pst.holdSince = s.pst.holdSince := by
  simp only [State.turnTo]
  repeat' split
  all_goals exact ⟨rfl, rfl⟩

theorem State.showParent_stands (s : State) (p h : Nat) :
    FieldsStand [F.PST_ALIGN_STATUS_PARENT_PORT, F.PST_ALIGN_STATUS_PARENT_VALID, F.PST_ALIGN_STATUS_HOPS] s (s.showParent p h) :=
  (((FieldsStand.refl _ s).setFld _ _ (by decide) (by simp)).setFld _ _ (by decide) (by simp)).setFld _ _ (by decide) (by simp)

theorem State.followPort_stands (s : State) (p h : Nat) : FieldsStand parentFields s (s.followPort p h) := by
  have hshown : FieldsStand parentFields s ((s.turnTo p).showParent p h) :=
    (FieldsStand.of_regs (s.turnTo_regs p)).trans ((State.showParent_stands _ _ _).mono (by simp))
  unfold State.followPort
  dsimp only
  split
  · exact hshown.trans ((State.setAlign_stands _ _).mono (by simp))
  · exact hshown

/-- A port followed by a member that is not FREE leaves its alignment state. -/
theorem State.alignState_followPort {s : State} (hs : s.alignState ≠ 0) (p h : Nat) :
    (s.followPort p h).alignState = s.alignState := by
  have hshown : ((s.turnTo p).showParent p h).alignState = s.alignState :=
    ((State.showParent_stands _ _ _).fld (by decide)).trans (State.fld_congr (s.turnTo_regs p) _)
  unfold State.followPort
  dsimp only
  rw [if_neg (by rwa [hshown]), hshown]

theorem State.followPort_pst (s : State) (p h : Nat) : (s.followPort p h).pst = (s.turnTo p).pst := by
  unfold State.followPort
  dsimp only
  split
  · exact State.setAlign_pst _ _
  · rfl

theorem State.chooseParent_stands (s : State) : FieldsStand parentFields s s.chooseParent := by
  have hnamed := s.leaveGone_stands.trans s.leaveGone.nameReference_stands
  rcases State.chooseParent_cases (s := s) rfl with h | ⟨-, h⟩ | ⟨p, n, h⟩ <;> rw [h]
  · exact hnamed
  · exact hnamed.trans (State.beReference_stands _)
  · exact hnamed.trans (State.followPort_stands _ _ _)

@[simp] theorem State.chooseParent_markers (s : State) : s.chooseParent.pst.markers = s.pst.markers := by
  have hgone : s.leaveGone.pst.markers = s.pst.markers := by
    unfold State.leaveGone
    split <;> simp
  have hnamed : s.leaveGone.nameReference.pst.markers = s.leaveGone.pst.markers := by
    unfold State.nameReference
    dsimp only
    split <;> simp
  rw [← hgone, ← hnamed]
  rcases State.chooseParent_cases (s := s) rfl with h | ⟨-, h⟩ | ⟨p, n, h⟩ <;> rw [h]
  · rw [State.beReference, State.setAlign_pst]
    rfl
  · rw [State.followPort_pst, (State.turnTo_held _ _).1]

theorem State.chooseParent_only (s : State) : Frame [.regs, .out, .pst, .sys, .mgt, .msix] s s.chooseParent :=
  (State.chooseParent_keeps s (by decide) (Kept.refl _ _)).only

/-- A member in HOLDOVER with no parent that is not the reference stays there, whatever port it follows. -/
theorem State.chooseParent_holdover {s : State} (hstate : s.alignState = 3) (hparent : s.parentPort = none)
    (href : s.refMember ≠ s.sys.member) :
    s.chooseParent.alignState = 3 ∧ s.chooseParent.pst.holdSince = s.pst.holdSince := by
  have hset : (s.setFld F.PST_ALIGN_STATUS_REF_MEMBER s.refMember).alignState = 3 :=
    ((State.setFld_stands _ _ (by decide)).fld (by decide)).trans hstate
  have hnamed : s.leaveGone.nameReference = s.setFld F.PST_ALIGN_STATUS_REF_MEMBER s.refMember := by
    have hgone : s.leaveGone = s := by
      simp [State.leaveGone, State.parentGone, hparent]
    rw [hgone, State.nameReference]
    simp [hset]
  rcases State.chooseParent_cases hnamed.symm with h | ⟨hown, -⟩ | ⟨p, n, h⟩
  · rw [h]
    exact ⟨hset, rfl⟩
  · exact absurd hown href
  · rw [h, State.alignState_followPort (by rw [hset]; decide), State.followPort_pst, (State.turnTo_held _ _).2]
    exact ⟨hset, rfl⟩

end Sys2Proof.Machine
end

section
/-!
The alignment commands (R124, R129 to R133): markers, windows, a lost parent, HOLDOVER, ALIGN_EN.
-/
namespace Sys2Proof.Machine

open Sys2Proof

/-! ### Alignment gained (R30, R132) -/

theorem State.regained_of_aligned {s : State} (t : State) (h : s.aligned = true) : t.regained s = t := by
  simp [State.regained, h]

theorem State.regained_of_none {t : State} (s : State) (h : t.rack.held = []) : t.regained s = t := by
  unfold State.regained
  split
  · simp [State.releaseHeld, h]
  · rfl

theorem State.aligned_iff (s : State) : s.aligned = true ↔ s.alignState = 2 ∨ s.alignState = 3 := by
  simp [State.aligned, State.alignState]

/-! ### Markers (R113, R124, R133) -/

/-- The offset of a marker that came at a stamp (R130). -/
def State.offsetOf (s : State) (port : Nat) (msg : List Byte) (stamp : Int) : Int :=
  stamp - ((s.port port).delay : Int) + 32000 * ((s.frame : Int) - (fieldAt msg 8 6 : Int))

/-- The marker of an EPOCH message (R113). -/
def State.markerOf (s : State) (port : Nat) (msg : List Byte) (stamp : Int) : Marker :=
  { ref := nbf (fieldAt msg 1 1) 5 0, align := nbf (fieldAt msg 1 1) 7 6, hops := nbf (fieldAt msg 2 1) 3 0
    set := fieldAt msg 4 4, frame := fieldAt msg 8 6, switchFrame := fieldAt msg 14 6, switchSet := fieldAt msg 20 4
    seen := s.frame, offset := s.offsetOf port msg stamp }

/-- A marker that differs in SET, SWITCH_FRAME or SWITCH_SET is reported (R124). -/
def State.compareMarker (s : State) (port : Nat) (m : Marker) : State :=
  let (f, set) := s.pst.switch.getD (0, 0)
  if m.set != s.fld F.PST_ACTIVE_SET || m.switchFrame != f || m.switchSet != set then
    (s.setFld F.PST_MISMATCH_PORTS (s.fld F.PST_MISMATCH_PORTS ||| 2 ^ port)).raise F.PST_EVENT_SET_MISMATCH
  else s

/-- A marker is recorded at its port, compared, and its sender's LOCKED remembered. -/
def State.recordMarker (s : State) (port : Nat) (m : Marker) : State :=
  let x := s.port port
  let s := { s with pst := { s.pst with markers := s.pst.markers.set port m } }.compareMarker port m
  if x.act.kind = 0 then s.setPeer x.partnerId { s.peer x.partnerId with locked := m.align = 2 } else s

/-- How far two frame numbers lie apart. -/
def framesApart (a b : Nat) : Nat := if a < b then b - a else a - b

/-- What the parent's marker does (R130, R133): the frame number is taken once, or the offset measured, or alignment is lost. -/
def State.useMarker (s : State) (port frame : Nat) (offset : Int) : State :=
  if s.parentPort != some port || s.alignState = 0 then s
  else if s.alignState = 1 && !s.pst.stepped && s.quiet then (s.adoptFrame frame).newWindow.showPeriod
  else if s.alignState = 2 && framesApart s.frame frame > 1 then s.loseAlign
  else { s with pst := { s.pst with offSum := s.pst.offSum + offset, offCount := s.pst.offCount + 1 } }

theorem exec_epoch_endpoint {s : State} {port : Nat} {msg : List Byte} (h : ((s.takeMsg port msg).port port).act.kind = 1)
    (stamp : Int) : exec (.epoch port msg stamp) s = .next (s.takeMsg port msg) := by
  show execEpoch port msg stamp s = _
  rw [execEpoch]
  exact if_pos h

theorem exec_epoch_member {s u : State} {port : Nat} {msg : List Byte} (hu : u = s.takeMsg port msg)
    (h : (u.port port).act.kind ≠ 1) (stamp : Int) :
    exec (.epoch port msg stamp) s = .next ((u.recordMarker port (u.markerOf port msg stamp)).chooseParent.useMarker port
      (fieldAt msg 8 6) (u.offsetOf port msg stamp)) := by
  subst hu
  show execEpoch port msg stamp s = _
  rw [execEpoch]
  refine (if_neg h).trans ?_
  simp only [State.useMarker, apply_ite Host.Outcome.next]
  rfl

/-- The marker of a port has this SET and this frame number. -/
def State.MarkerIs (s : State) (port set frame : Nat) : Prop :=
  (s.pst.markers.find? port).map (·.set) = some set ∧ (s.pst.markers.find? port).map (·.frame) = some frame

theorem State.MarkerIs.congr {s t : State} {port set frame : Nat} (h : s.MarkerIs port set frame)
    (hm : t.pst.markers = s.pst.markers) : t.MarkerIs port set frame := by
  rwa [State.MarkerIs, hm]

theorem cellsFind_mapVals {α β : Type} (f : Nat → α → β) (l : List (Nat × α)) (k : Nat) :
    cellsFind (l.map fun c => (c.1, f c.1 c.2)) k = (cellsFind l k).map (f k) := by
  induction l with
  | nil => rfl
  | cons c l ih =>
    obtain ⟨i, v⟩ := c
    by_cases h : i = k
    · subst h; simp [cellsFind]
    · simp [cellsFind, h, ih]

theorem Tab.find?_mapVals {α β : Type} (t : Tab α) (f : Nat → α → β) (k : Nat) :
    (t.mapVals f).find? k = (t.find? k).map (f k) :=
  cellsFind_mapVals f t.cells k

theorem State.compareMarker_pst (s : State) (port : Nat) (m : Marker) : (s.compareMarker port m).pst = s.pst := by
  unfold State.compareMarker
  dsimp only
  split <;> simp

theorem State.recordMarker_markers (s : State) (port : Nat) (m : Marker) :
    (s.recordMarker port m).pst.markers = s.pst.markers.set port m := by
  unfold State.recordMarker
  dsimp only
  split
  · exact congrArg PstState.markers (State.compareMarker_pst _ _ _)
  · rw [State.compareMarker_pst]

theorem State.recordMarker_markerIs (s : State) (port : Nat) (m : Marker) :
    (s.recordMarker port m).MarkerIs port m.set m.frame := by
  rw [State.MarkerIs, State.recordMarker_markers, Tab.find?_set_same]
  exact ⟨rfl, rfl⟩

/-- A marker with another SET is reported. -/
theorem State.recordMarker_mismatch {s : State} {m : Marker} (h : m.set ≠ s.fld F.PST_ACTIVE_SET) (port : Nat) :
    (s.recordMarker port m).fld F.PST_EVENT_SET_MISMATCH = 1 := by
  have hcompared : ∀ u : State, u.regs = s.regs → (u.compareMarker port m).fld F.PST_EVENT_SET_MISMATCH = 1 := by
    intro u hu
    unfold State.compareMarker
    dsimp only
    rw [if_pos (by simp [State.fld_congr hu, h])]
    exact State.fld_raise_same _ _ (by decide)
  unfold State.recordMarker
  dsimp only
  split
  · exact hcompared _ rfl
  · exact hcompared _ rfl

/-- The fields that a parent's marker changes. -/
abbrev measureFields : List Fld := [F.PST_PERIOD_PERIOD_LOG2, F.PST_PERIOD_PHASE] ++ loseFields

theorem State.showPeriod_stands (s : State) : FieldsStand [F.PST_PERIOD_PERIOD_LOG2, F.PST_PERIOD_PHASE] s s.showPeriod :=
  ((FieldsStand.refl _ s).setFld _ _ (by decide) (by simp)).setFld _ _ (by decide) (by simp)

theorem State.useMarker_stands (s : State) (port frame : Nat) (offset : Int) :
    FieldsStand measureFields s (s.useMarker port frame offset) := by
  unfold State.useMarker
  split
  · exact .refl _ _
  split
  · have hadopted : (s.adoptFrame frame).newWindow.regs = s.regs := rfl
    exact (FieldsStand.of_regs hadopted).trans ((State.showPeriod_stands _).mono (by simp))
  split
  · exact (State.loseAlign_stands _).mono (by simp)
  · exact .of_regs rfl

/-- Taking the parent's frame number moves the time at which markers were seen, and nothing else of them. -/
theorem State.MarkerIs.useMarker {s : State} {port set frame : Nat} (h : s.MarkerIs port set frame) (p f : Nat) (offset : Int) :
    (s.useMarker p f offset).MarkerIs port set frame := by
  unfold State.useMarker
  split
  · exact h
  split
  · have hadopted : (s.adoptFrame f).newWindow.showPeriod.pst.markers =
        s.pst.markers.mapVals fun _ m => { m with seen := f - (s.frame - m.seen) } := rfl
    rw [State.MarkerIs, hadopted, Tab.find?_mapVals, Option.map_map, Option.map_map]
    exact h
  split
  · exact h.congr (State.loseAlign_markers s)
  · exact h

/-! ### Windows (R130, R131) -/

/-- Offsets have been measured against a parent in the window that ends. -/
structure State.Measured (s : State) : Prop where
  follows : s.refMember ≠ s.sys.member
  parent : s.parentPort ≠ none
  count : s.pst.offCount ≠ 0

/-- At the end of a window the offset is shown and, outside HOLDOVER, the trim moved. -/
def State.showOffset (s : State) : State :=
  let avg : Int := s.pst.offSum / (s.pst.offCount : Int)
  let s := s.setFld F.PST_ALIGN_OFFSET (ofSigned 16 avg)
  if s.alignState = 3 then s
  else s.setFld F.PST_ALIGN_TRIM (ofSigned 12 (nextTrim avg (toSigned 12 (s.fld F.PST_ALIGN_TRIM))))

theorem State.showOffset_stands (s : State) : FieldsStand [F.PST_ALIGN_OFFSET, F.PST_ALIGN_TRIM] s s.showOffset := by
  have hoffset (v : Nat) := (FieldsStand.refl [F.PST_ALIGN_OFFSET, F.PST_ALIGN_TRIM] s).setFld F.PST_ALIGN_OFFSET v
    (by decide) (by simp)
  unfold State.showOffset
  dsimp only
  split
  · exact hoffset _
  · exact (hoffset _).setFld _ _ (by decide) (by simp)

theorem State.showOffset_only (s : State) : Frame [.regs] s s.showOffset := by
  unfold State.showOffset
  dsimp only
  split
  · exact State.setRegAt_only _ _ _ _
  · exact (State.setRegAt_only _ _ _ _).trans (State.setRegAt_only _ _ _ _)

theorem State.showOffset_pst (s : State) : s.showOffset.pst = s.pst := s.showOffset_only .pst (by simp)

/-- The alignment state that follows from a window near the parent, or off it (R132). -/
def State.judgeWindow (s : State) (near off : Bool) : State :=
  match s.alignState with
  | 1 =>
    let k := if near then s.pst.inRange + 1 else 0
    let s := { s with pst := { s.pst with inRange := k } }
    if k ≥ 32 && s.ownHops ≤ 6 then s.lockBehind else s
  | 2 => if off then s.loseAlign else s
  | _ => if near && s.pst.inRange = 0 then s.lockBehind else { s with pst := { s.pst with inRange := 1 } }

theorem State.windowEnd_measured {s : State} (h : s.Measured) (hstate : s.alignState ≠ 0) :
    s.windowEnd = s.showOffset.newWindow.judgeWindow (decide (s.pst.offSum.natAbs ≤ 200 * s.pst.offCount))
      (decide (s.pst.offSum.natAbs > 320 * s.pst.offCount)) := by
  obtain ⟨hfollows, hparent, hcount⟩ := h
  have hsum : s.showOffset.pst.offSum = s.pst.offSum := congrArg PstState.offSum s.showOffset_pst
  rw [← hsum]
  unfold State.windowEnd
  refine (if_neg ?_).trans rfl
  simp [hstate, hfollows, hparent, hcount]

theorem State.alignState_showOffset (s : State) : s.showOffset.newWindow.alignState = s.alignState :=
  s.showOffset_stands.fld (g := F.PST_STATUS_ALIGN_STATE) (by decide)

/-- The state of a member in ACQUIRE whose window was near its parent, that window counted. -/
def State.nearer (s : State) : State :=
  { s.showOffset with pst := { s.pst with inRange := s.pst.inRange + 1, offSum := 0, offCount := 0 } }

theorem State.nearer_stands (s : State) : FieldsStand [F.PST_ALIGN_OFFSET, F.PST_ALIGN_TRIM] s s.nearer :=
  s.showOffset_stands.trans (.of_regs rfl)

theorem State.nearer_only (s : State) : Frame [.regs, .pst] s s.nearer := by
  refine (s.showOffset_only.mono (by simp)).trans fun p hp => ?_
  cases p with
  | pst => simp at hp
  | _ => rfl

theorem State.ownHops_nearer (s : State) : s.nearer.ownHops = s.ownHops := by
  have hparent : s.nearer.parentPort = s.parentPort := by
    simp only [State.parentPort, s.nearer_stands.fld (g := F.PST_ALIGN_STATUS_PARENT_VALID) (by decide),
      s.nearer_stands.fld (g := F.PST_ALIGN_STATUS_PARENT_PORT) (by decide)]
  have hmarkers : s.nearer.pst.markers = s.pst.markers := rfl
  rw [State.ownHops, hparent, hmarkers, State.ownHops]

/-- The 32nd window in a row near the parent locks a member in ACQUIRE that stands at most 6 hops from the reference. -/
theorem State.windowEnd_locks {s : State} (h : s.Measured) (hstate : s.alignState = 1)
    (hnear : s.pst.offSum.natAbs ≤ 200 * s.pst.offCount) (hrow : 31 ≤ s.pst.inRange) (hhops : s.ownHops ≤ 6) :
    s.windowEnd = s.nearer.lockBehind := by
  have hcounted : { s.showOffset.newWindow with
      pst := { s.showOffset.newWindow.pst with inRange := s.showOffset.newWindow.pst.inRange + 1 } } = s.nearer := by
    rw [State.newWindow, s.showOffset_pst, State.nearer]
  rw [State.windowEnd_measured h (by simp [hstate]), State.judgeWindow, s.alignState_showOffset, hstate]
  simp only [hnear, decide_true, if_true, hcounted]
  refine if_pos ?_
  simp [s.showOffset_pst, State.newWindow, hrow, State.ownHops_nearer, hhops]

/-- A LOCKED member off its parent loses its alignment. -/
theorem State.windowEnd_loses {s : State} (h : s.Measured) (hstate : s.alignState = 2)
    (hoff : 320 * s.pst.offCount < s.pst.offSum.natAbs) : s.windowEnd = s.showOffset.newWindow.loseAlign := by
  rw [State.windowEnd_measured h (by simp [hstate]), State.judgeWindow, s.alignState_showOffset, hstate]
  exact if_pos (decide_eq_true hoff)

theorem exec_alignWindowEnd (s : State) : exec .alignWindowEnd s = .next (s.windowEnd.regained s) := rfl

/-- A member that locks behind its parent shows it, with its own hops, and tells it. -/
theorem State.fld_lockBehind {s : State} (hstate : s.alignState ≠ 2) (hhops : s.ownHops < 16) :
    s.lockBehind.fld F.PST_STATUS_ALIGN_STATE = 2 ∧ s.lockBehind.fld F.PST_EVENT_ALIGN_LOCKED = 1 ∧
      s.lockBehind.fld F.PST_ALIGN_STATUS_HOPS = s.ownHops := by
  refine ⟨?_, ?_, State.fld_setFld_same _ _ _ ⟨by decide, by decide, hhops⟩⟩
  · exact ((State.setFld_stands _ _ (by decide)).fld (by decide)).trans (State.alignState_setAlign s (by decide))
  · exact ((State.setFld_stands _ _ (by decide)).fld (by decide)).trans (State.event_setAlign_locked hstate)

theorem State.lockBehind_only (s : State) : Frame [.regs, .out, .sys, .mgt, .msix] s s.lockBehind :=
  (State.lockBehind_keeps s (by decide) (Kept.refl _ _)).only

/-! ### A lost parent, HOLDOVER, ALIGN_EN (R132) -/

/-- Nothing of the lost parent's markers is kept. -/
abbrev State.dropMarker (s : State) (p : Nat) : State := { s with pst := { s.pst with markers := s.pst.markers.erase p } }

theorem exec_parentLost {s : State} {p : Nat} (h : s.parentPort = some p) :
    exec .parentLost s = .next (s.dropMarker p).leaveParent.chooseParent := by
  show execParentLost s = _
  simp only [execParentLost, h]

theorem exec_holdoverExpiry (s : State) : exec .holdoverExpiry s =
    .next (if s.alignState = 3 ∧ s.pst.holdSince + 1000 ≤ s.frame then s.loseAlign else s) := by
  show execHoldoverExpiry s = _
  simp only [execHoldoverExpiry, Bool.and_eq_true, decide_eq_true_eq, apply_ite Host.Outcome.next, ge_iff_le]

/-- While a map is held the reference is its lowest voting member, whatever markers have come. -/
theorem State.refMember_congr {s t : State} (h : s.rack.map.server ≠ []) (hrack : t.rack = s.rack) (hsys : t.sys = s.sys) :
    t.refMember = s.refMember := by
  simp [State.refMember, State.voting, State.memberState, hrack, hsys, h]

/-- The fields of a member that ALIGN_EN frees. -/
def freeFields : List (Fld × Nat) :=
  [(F.PST_ALIGN_CTRL_ALIGN_EN, 0), (F.PST_STATUS_ALIGN_STATE, 0), (F.PST_ALIGN_STATUS_PARENT_VALID, 0),
   (F.PST_ALIGN_STATUS_HOPS, 15)]

/-- The state of a member that ALIGN_EN has freed. -/
def State.freed (s : State) : State :=
  { s.setFlds 0 freeFields with pst := { s.pst with inRange := 0, stepped := false, offSum := 0, offCount := 0 } }

theorem State.fld_freed (s : State) {f : Fld} {v : Nat} (h : (f, v) ∈ freeFields) : s.freed.fld f = v := by
  have hfits : ∀ x ∈ freeFields, x.2 % 2 ^ (x.1.hi + 1 - x.1.lo) = x.2 := by decide
  have hset : (s.setFlds 0 freeFields).fldAt 0 f = v % 2 ^ (f.hi + 1 - f.lo) :=
    State.fldAt_setFlds s 0 (by decide) (by unfold Fld.Apart; decide) h
  exact hset.trans (hfits _ h)

theorem State.freed_only (s : State) : Frame [.regs, .pst] s s.freed := by
  refine ((s.setFlds_only 0 freeFields).mono (by simp)).trans fun p hp => ?_
  cases p with
  | pst => simp at hp
  | _ => rfl

theorem bf_zero_of_bit {n : Nat} {w : BitVec n} (h : bit w 0 = false) : bf w 0 0 = 0 := by
  rw [bf_single]
  exact congrArg Bool.toNat h

theorem exec_alignCtrlWrite_free {s : State} {src : Nat} {v : Word} (h : s.mayAdminister src = true) (hv : bit v 0 = false) :
    exec (.alignCtrlWrite src v) s = .next s.freed := by
  show execAlignCtrlWrite src v s = _
  rw [execAlignCtrlWrite, if_neg (by simp [h]), bf_zero_of_bit hv]
  simp only [hv, Bool.false_eq_true, if_false]
  rfl

/-- Settles O18: a marker by what is recorded before a parent is chosen, a window by the state that it judges, HOLDOVER by the parent
left, ALIGN_EN by the fields that it sets. -/
theorem frameAlignment : Obligations.FrameAlignment := by
  unfold Obligations.FrameAlignment
  refine ⟨?marker, fun s port msg stamp h => exec_epoch_endpoint h stamp, ?locks, ?loses, ?lost, ?expires, ?waits, ?free⟩
  case marker =>
    intro s port msg stamp hkind hset
    have hmarker := (State.recordMarker_markerIs (s.takeMsg port msg) port ((s.takeMsg port msg).markerOf port msg stamp)).congr
      (State.chooseParent_markers _)
    obtain ⟨hmset, hmframe⟩ := hmarker.useMarker port (fieldAt msg 8 6) ((s.takeMsg port msg).offsetOf port msg stamp)
    refine ⟨_, exec_epoch_member rfl hkind stamp, hmset, hmframe, ?_⟩
    rw [(State.useMarker_stands _ _ _ _).fld (by decide), (State.chooseParent_stands _).fld (by decide)]
    exact State.recordMarker_mismatch hset port
  case locks =>
    intro s hstate href hparent hcount hheld hnear hrow hhops
    have hend := State.windowEnd_locks ⟨href, hparent, hcount⟩ hstate hnear hrow hhops
    have hacquire : s.nearer.alignState = 1 := (s.nearer_stands.fld (by decide)).trans hstate
    have honly := s.nearer.lockBehind_only
    have hnone : s.nearer.lockBehind.rack.held = [] := by
      rw [honly .rack (by simp), s.nearer_only .rack (by simp)]
      exact hheld
    obtain ⟨hlocked, hevent, hshown⟩ := State.fld_lockBehind (s := s.nearer) (by simp [hacquire])
      (by rw [s.ownHops_nearer]; omega)
    refine ⟨_, (exec_alignWindowEnd s).trans (by rw [hend, State.regained_of_none _ hnone]), hlocked, hevent,
      hshown.trans s.ownHops_nearer, ?_, ?_⟩
    · rw [honly .pst (by simp)]
      rfl
    · rw [honly .frame (by simp), s.nearer_only .frame (by simp)]
  case loses =>
    intro s hstate href hparent hcount hoff
    have hend := State.windowEnd_loses ⟨href, hparent, hcount⟩ hstate hoff
    have haligned : s.aligned = true := s.aligned_iff.mpr (.inl hstate)
    obtain ⟨hacquire, hhops, hevent⟩ := s.showOffset.newWindow.fld_loseAlign
    exact ⟨_, (exec_alignWindowEnd s).trans (by rw [State.regained_of_aligned _ haligned, hend]), hacquire, hevent, hhops⟩
  case lost =>
    intro s p hparent hstate hmap href
    obtain ⟨hholdover, hnone, hsince⟩ := State.leaveParent_locked (s := s.dropMarker p) hstate
    have hleft := (s.dropMarker p).leaveParent_only
    have hfollows : (s.dropMarker p).leaveParent.refMember ≠ (s.dropMarker p).leaveParent.sys.member := by
      rwa [State.refMember_congr hmap (hleft .rack (by simp)) (hleft .sys (by simp)), hleft .sys (by simp)]
    obtain ⟨hstays, hheld⟩ := State.chooseParent_holdover hholdover hnone hfollows
    refine ⟨_, exec_parentLost hparent, hstays, hheld.trans hsince, ?_, ?_, ?_⟩
    · rw [State.chooseParent_markers, State.leaveParent_markers]
      exact Tab.find?_erase_same _ _
    · rw [(State.chooseParent_stands _).fld (by decide), (State.leaveParent_stands _).fld (by decide)]
      rfl
    · rw [State.chooseParent_only _ .frame (by simp), hleft .frame (by simp)]
  case expires =>
    intro s hstate hsince
    obtain ⟨hacquire, -, hevent⟩ := s.fld_loseAlign
    exact ⟨_, (exec_holdoverExpiry s).trans (by rw [if_pos ⟨hstate, hsince⟩]), hacquire, hevent, s.loseAlign_frame⟩
  case waits =>
    intro s h
    rw [exec_holdoverExpiry, if_neg]
    rintro ⟨hstate, hsince⟩
    exact h.elim (· hstate) (Nat.not_lt.mpr hsince)
  case free =>
    intro s src v hmay hv
    exact ⟨_, exec_alignCtrlWrite_free hmay hv, s.fld_freed (by simp [freeFields]), s.fld_freed (by simp [freeFields]),
      s.fld_freed (by simp [freeFields]), s.fld_freed (by simp [freeFields]), s.freed_only⟩

end Sys2Proof.Machine
end

section
/-!
Frames, slots and the frame number's register (R94, R102 to R104, R128, R140).
-/
namespace Sys2Proof.Machine

open Sys2Proof

/-! ### Frames (R94, R113, R128) -/

/-- The next frame before its alignment is judged: no move started, the memory tables idle only while REST lasts. -/
def State.nextFrame (s : State) : State :=
  { s with
    frame := (s.frame + 1) % 2 ^ 48
    store := { s.store with movesStarted := 0 }
    sys := { s.sys with upFrames := s.sys.upFrames + 1 }
    pst := { s.pst with idle := s.pst.idle && s.sys.power == Power.rest } }

/-- The markers of a frame go out at its boundary, but for the frame that opens with a switch (R122). -/
def State.openFrame (s : State) : State := if s.pst.switch.any fun x => x.1 = s.frame then s else s.sendMarkers

theorem State.openFrame_only (s : State) : Frame [.out, .hxl] s s.openFrame := by
  unfold State.openFrame
  split
  · exact Frame.refl _ _
  · exact (State.sendMarkers_keeps s (by decide) (Kept.refl _ _)).only

/-- The next frame with its parent chosen. -/
abbrev State.chosenFrame (s : State) : State := s.nextFrame.showPeriod.chooseParent

theorem State.chosenFrame_only (s : State) : Frame [.regs, .out, .pst, .sys, .mgt, .msix] s.nextFrame s.chosenFrame :=
  ((State.showPeriod_keeps (m := partsMask [.regs]) _ (by decide) (Kept.refl _ _)).only.mono (by simp)).trans
    (State.chooseParent_only _)

/-- A boundary of a running member that no item waits for: nothing is taken up. -/
theorem exec_frameBoundary {s : State} (hstage : 6 ≤ s.fld F.CLK_STARTUP_STAGE) (hstandby : s.sys.power ≠ .standby)
    (hoff : s.sys.power ≠ .off) (hheld : s.aligned = true ∨ s.rack.held = []) :
    exec .frameBoundary s = .next s.chosenFrame.openFrame := by
  have hregained : s.chosenFrame.regained s.nextFrame = s.chosenFrame := by
    rcases hheld with haligned | hnone
    · exact State.regained_of_aligned _ haligned
    · exact State.regained_of_none _ ((congrArg RackState.held (s.chosenFrame_only .rack (by simp))).trans hnone)
  show execFrameBoundary s = _
  unfold execFrameBoundary
  refine (if_neg (by simp [hstage, hstandby, hoff])).trans ?_
  exact congrArg (fun u : State => Host.Outcome.next u.openFrame) hregained

/-! ### What serves a slot (R102, R103) -/

/-- A slot goes to its owner while the owner's head request is issuable. -/
theorem State.useSlot_owned {s : State} {kind i slot o : Nat} {queue : List QueuedReq} (ho : owner (s.pstEntry kind i slot) = o)
    (hpos : 0 < o) (hlt : o < 0xFF0) (h : s.flowIssuable kind i o queue = true) (blocked : Bool) :
    s.useSlot kind i slot queue blocked = (s, .flow o) := by
  subst ho
  simp only [State.useSlot]
  split
  -- the reserved operations are no flow's
  iterate 7 omega
  exact if_pos (by simp [h, hpos.ne'])

/-- A slot without owner is left to its fill order. -/
theorem State.useSlot_free {s : State} {kind i slot : Nat} (ho : owner (s.pstEntry kind i slot) = 0) (queue : List QueuedReq)
    (blocked : Bool) : s.useSlot kind i slot queue blocked = s.fillSlot kind i (s.pstEntry kind i slot) queue := by
  simp [State.useSlot, ho]

/-- The pointer into a fill order. -/
abbrev State.setFill (s : State) (key i : Nat) : State := { s with pst := { s.pst with fillPtr := s.pst.fillPtr.set key i } }

/-- What an element of a fill order gives: its flow where that has an issuable request. -/
def State.fillUse (s : State) (kind i id : Nat) (queue : List QueuedReq) : SlotUse :=
  if id != 0 && s.flowIssuable kind i id queue then .flow id else .idle

theorem State.fillUse_flow {s : State} {kind i id : Nat} {queue : List QueuedReq} (hid : id ≠ 0)
    (h : s.flowIssuable kind i id queue = true) : s.fillUse kind i id queue = .flow id :=
  if_pos (by simp [hid, h])

/-- Outside the Rink a leftover slot takes the element at the pointer, which advances in any case. -/
theorem State.fillSlot_element {s : State} {kind i entry k n : Nat} {order : List Nat} (hkind : kind ≠ 3)
    (horder : order = s.pstFill (fillOf entry)) (hn : n = order.length) (hpos : 0 < n)
    (hk : k = s.pst.fillPtr.getD (fillKey kind i (fillOf entry)) 0 % n) (queue : List QueuedReq) :
    s.fillSlot kind i entry queue =
      (s.setFill (fillKey kind i (fillOf entry)) ((k + 1) % n), s.fillUse kind i (order.getD k 0) queue) := by
  subst horder hn hk
  have hsome : (s.pstFill (fillOf entry)).isEmpty = false := List.isEmpty_eq_false_iff.mpr (List.ne_nil_of_length_pos hpos)
  have hmemory : (kind != 3) = true := by simp [hkind]
  simp only [State.fillSlot, hsome, hmemory, Bool.false_eq_true, if_false, Bool.true_or, Bool.and_true]
  rw [State.fillUse, apply_ite (Prod.mk (s.setFill _ _))]
  rfl

/-! ### How a slot is served (R104, R616) -/

/-- A slot of a memory channel is counted. -/
def State.countSlot (s : State) (kind i event : Nat) : State := if kind < 3 then s.pulse event i else s

/-- A slot is counted and goes out with what it serves. -/
def State.serveSlot (s : State) (kind i slot : Nat) : SlotUse → State
  | .idle => s.countSlot kind i 0x082
  | .flow id =>
    let s := if kind = 3 then s.pulse 0x0C0 i else s
    (s.countSlot kind i (if id = owner (s.pstEntry kind i slot) then 0x080 else 0x081)).emit
      (.slot kind i id (s.slotBytesOf kind) (s.slotSource kind i slot))
  | .op o => (s.countSlot kind i 0x080).emit (.slot kind i o 0 0)

@[simp] theorem State.countSlot_pst (s : State) (kind i event : Nat) : (s.countSlot kind i event).pst = s.pst := by
  unfold State.countSlot
  split
  · exact State.pulse_pst _ _ _ _
  · rfl

theorem State.serveSlot_pst (s : State) (kind i slot : Nat) (u : SlotUse) : (s.serveSlot kind i slot u).pst = s.pst := by
  cases u with
  | idle => exact State.countSlot_pst _ _ _ _
  | flow id =>
    refine (State.countSlot_pst _ _ _ _).trans ?_
    split
    · exact State.pulse_pst _ _ _ _
    · rfl
  | op o => exact State.countSlot_pst _ _ _ _

/-- The source of a slot follows from the tables in force at its frame. -/
theorem State.slotSource_congr {s t : State} (hframe : t.frame = s.frame) (hpst : t.pst = s.pst)
    (hfields : FieldsStand counterFields s t) (kind i slot : Nat) : t.slotSource kind i slot = s.slotSource kind i slot := by
  have hbrace : t.fld F.PST_STATUS_BRACE = s.fld F.PST_STATUS_BRACE := hfields.fld (by decide)
  have hplain : t.fld F.PST_STATUS_PLAIN = s.fld F.PST_STATUS_PLAIN := hfields.fld (by decide)
  have hactive : t.fld F.PST_STATUS_ACTIVE_BANK = s.fld F.PST_STATUS_ACTIVE_BANK := hfields.fld (by decide)
  have hdimm : t.mrdimm = s.mrdimm := congrArg (fun v => decide (v = 1)) (hfields.fld (g := F.TIER_POP_DDR_MRDIMM) (by decide))
  have hbank : t.pstBank = s.pstBank := by simp only [State.pstBank, hplain, hactive, hpst]
  have hlayout : t.pstPlainLayout = s.pstPlainLayout := by simp only [State.pstPlainLayout, hbrace, hbank]
  have hphase : t.pstPhase = s.pstPhase := by simp only [State.pstPhase, State.pstPeriod, hlayout, hbank, hframe]
  have hflows : t.pstFlows = s.pstFlows := by simp only [State.pstFlows, hlayout, hbank]
  have hentry : t.pstEntry kind i slot = s.pstEntry kind i slot := by
    simp only [State.pstEntry, State.pstEntryAt, hphase, hdimm, hlayout, hbank]
  rw [State.slotSource, State.pstFlow, hentry, hflows, State.slotSource, State.pstFlow]

/-- A flow's slot goes out with its flow, its bytes and the source that the tables give. -/
theorem State.slot_mem_serveSlot (s : State) (kind i slot id : Nat) :
    .slot kind i id (s.slotBytesOf kind) (s.slotSource kind i slot) ∈ (s.serveSlot kind i slot (.flow id)).out := by
  by_cases h : kind = 3
  · subst h
    have hsource : (s.pulse 0x0C0 i).slotSource 3 i slot = s.slotSource 3 i slot :=
      State.slotSource_congr (State.pulse_frame _ _ _ _) (State.pulse_pst _ _ _ _) (State.pulse_stands _ _ _ _) _ _ _
    rw [← hsource]
    exact List.mem_append_right _ (List.mem_singleton_self _)
  · rw [State.serveSlot, if_neg h]
    exact List.mem_append_right _ (List.mem_singleton_self _)

/-- A slot of a channel or a Rink port that runs, of its frame's table (R93, R128). -/
structure State.SlotRuns (s : State) (kind i slot : Nat) : Prop where
  slotted : kind < 4
  present : i < pstInstances kind
  within : slot < pstSlots s.mrdimm kind
  runs : 3 ≤ kind ∨ s.sys.power ≠ .rest ∧ s.pst.idle = false

theorem exec_slotIssue {s u : State} {kind i slot : Nat} {queue : List QueuedReq} {blocked : Bool} {x : SlotUse}
    (h : s.SlotRuns kind i slot) (hu : s.useSlot kind i slot queue blocked = (u, x)) :
    exec (.slotIssue kind i slot queue blocked) s = .next (u.serveSlot kind i slot x) := by
  obtain ⟨hkind, hinst, hslot, hruns⟩ := h
  show execSlotIssue kind i slot queue blocked s = _
  unfold execSlotIssue
  rw [if_neg, if_pos, hu]
  · cases x <;> rfl
  · simp [hkind.ne]
  · simp only [Bool.or_eq_true, Bool.and_eq_true, decide_eq_true_eq, not_or, not_and, ge_iff_le, Nat.not_le]
    refine ⟨⟨hinst, fun hmemory => ?_⟩, fun _ => hslot⟩
    obtain ⟨hpower, hidle⟩ := hruns.resolve_left (Nat.not_le.mpr hmemory)
    simp [hpower, hidle]

/-! ### PST_FRAME_LO (R140) -/

/-- A field as wide as its register, shown, is the register. -/
theorem toNat_showField_whole (w : Word) (off : Nat) {v : Nat} (h : v < 2 ^ 32) : (showField w (⟨off, 31, 0⟩, v)).toNat = v := by
  have hread : bf (showField w (⟨off, 31, 0⟩, v)) 31 0 = min v (2 ^ 32 - 1) % 2 ^ 32 := bf_setBf_same _ _ (by simp) (by simp)
  have hwhole : bf (showField w (⟨off, 31, 0⟩, v)) 31 0 = (showField w (⟨off, 31, 0⟩, v)).toNat :=
    Nat.mod_eq_of_lt (BitVec.isLt _)
  omega

theorem State.readReg_frameLo (s : State) (src : Nat) :
    (s.readReg src F.PST_FRAME_LO_FRAME.off).toNat = s.frame % 2 ^ 32 :=
  toNat_showField_whole _ _ (Nat.mod_lt _ (by decide))

/-- A physical function's read of PST_FRAME_LO. -/
theorem exec_pstFrameLoRead {src : Nat} (hsrc : src < 128) (hpf : src % 64 = 0) (s : State) :
    exec (.pstFrameLoRead src F.PST_FRAME_LO_FRAME.off 4) s = .next
      ((s.setFld F.PST_FRAME_HI (s.frame / 2 ^ 32)).emit (.readData (s.frame % 2 ^ 32))) := by
  have hword : s.readWord src F.PST_FRAME_LO_FRAME.off = (s.setFld F.PST_FRAME_HI (s.frame / 2 ^ 32), s.frame % 2 ^ 32) := by
    rw [State.readWord, s.readReg_frameLo]
    refine (if_pos ?_).trans rfl
    simp [seesReg, hsrc, hpf]
  have hread : s.readAt src F.PST_FRAME_LO_FRAME.off 4 = (s.setFld F.PST_FRAME_HI (s.frame / 2 ^ 32), s.frame % 2 ^ 32) := by
    have haddr : F.PST_FRAME_LO_FRAME.off / 4 * 4 = F.PST_FRAME_LO_FRAME.off := rfl
    rw [State.readAt, if_neg (by decide), if_pos (by decide), haddr, hword]
    simp
  show execPstFrameLoRead src _ 4 s = _
  rw [execPstFrameLoRead, State.readOf, if_pos (by decide), busRead, hread]

/-- Settles O16: a boundary by the parts that choosing a parent and sending markers change, a slot by what serves it, the read by its
latch. -/
theorem framesAndSlots : Obligations.FramesAndSlots := by
  unfold Obligations.FramesAndSlots
  refine ⟨?boundary, ?owned, ?free, ?read⟩
  case boundary =>
    intro s hstage hstandby hoff hheld
    have honly : Frame [.regs, .out, .pst, .sys, .mgt, .msix, .hxl] s.nextFrame s.chosenFrame.openFrame :=
      (s.chosenFrame_only.mono (by simp)).trans ((State.openFrame_only _).mono (by simp))
    exact ⟨_, exec_frameBoundary hstage hstandby hoff hheld, honly .frame (by simp),
      congrArg StoreState.movesStarted (honly .store (by simp)), honly .mem (by simp), honly .core (by simp),
      honly .coh (by simp), honly .xlt (by simp)⟩
  case owned =>
    intro s kind i slot o queue blocked hkind hinst hslot hruns ho hpos hlt hissue
    exact ⟨_, exec_slotIssue ⟨hkind, hinst, hslot, hruns⟩ (State.useSlot_owned ho hpos hlt hissue blocked),
      s.slot_mem_serveSlot kind i slot o, s.serveSlot_pst kind i slot _⟩
  case free =>
    intro s i slot queue blocked n k order hinst hslot hpower hidle ho horder hn hpos hk
    have huse := (State.useSlot_free ho queue blocked).trans (State.fillSlot_element (by decide) horder hn hpos hk queue)
    refine ⟨_, exec_slotIssue ⟨by decide, hinst, hslot, .inr ⟨hpower, hidle⟩⟩ huse, ?_, fun hid hissue => ?_⟩
    · rw [State.serveSlot_pst]
      exact Tab.getD_set_same _ _ _ _
    · rw [State.fillUse_flow hid hissue]
      exact State.slot_mem_serveSlot _ 0 i slot _
  case read =>
    intro s src hsrc hpf
    refine ⟨_, exec_pstFrameLoRead hsrc hpf s, rfl, ?_, ?_, ?_⟩
    · exact State.fld_setFld_mod s F.PST_FRAME_HI _ (by decide)
    · exact (s.setFld_stands _ (by decide)).trans (.of_regs rfl)
    · exact ((State.setRegAt_only _ _ _ _).mono (by simp)).trans ((State.emit_only _ _).mono (by simp))

end Sys2Proof.Machine
end

section
/-!
Two statements of chapter 4 that fail: what a cleared gate block sends is added to the command served last (R458, R510), and a lift
line that lists a key twice counts a command as running by another cell than its entry (R156).
-/
namespace Sys2Proof.Machine

open Sys2Proof

/-! ### A change of a gate block while a command waits (R456, R458) -/

/-- Context 0 is VALID, owns gate block 0 and has no command in flight; its staged record takes VALID away. The slot of the block is
served here and has its partner at member 1. The command served last is that of entry 5, under context 1, with no item away. -/
def servedBefore : State :=
  { State.reset.setFld F.TIER_HASH_WIDTH 2 with
    cmdq := { entries := { cells := [(5, { src := 0, packet := 1#512 <<< 32, accepted := true, phase := .accepted })] } }
    xlt := { ctxs := { cells := [(0, { valid := true })] } }
    gate := { blocks := { cells := [(0, { valid := true })] } }
    rack := { map := { server := [0, 1], state := [.active, .active] }, writer := some 5 } }

theorem exec_xltApplyCtx {s : State} {src : Nat} (h : s.mayAdminister src = true) (both : Bool) :
    exec (.xltApplyCtx src both) s = .next (s.applyRecords true both) := by
  show execXltApplyCtx src both s = _
  rw [execXltApplyCtx, if_neg (by simp [h])]

/-- The block's record goes to the partner as an item of entry 5. -/
theorem servedBefore_applyCtx :
    ((servedBefore.applyRecords true false).entry? 5).map (fun e => e.items.map Item.home) = some [1] := by decide +kernel

/-- Refutes O19: an APPLY that takes VALID from a context clears its gate blocks, and the item that tells the partner of the block is
added to the entry of the command served last, which held no wait. -/
theorem not_translationWindow : ¬ Obligations.TranslationWindow := by
  unfold Obligations.TranslationWindow
  rintro ⟨-, -, happly, -⟩
  obtain ⟨t, ht, -, -, -, -, -, hstands⟩ := happly servedBefore 0 0 (by decide +kernel) (by decide +kernel) (by decide +kernel)
    (by decide +kernel)
  have ht' : servedBefore.applyRecords true false = t :=
    Host.Outcome.next.inj ((exec_xltApplyCtx (by decide +kernel) false).symm.trans ht)
  have hstands5 : t.entry? 5 = servedBefore.entry? 5 := hstands 5 (by simp [servedBefore])
  have hitem := servedBefore_applyCtx
  rw [ht', hstands5] at hitem
  exact absurd hitem (by decide +kernel)

/-! ### A key listed twice in the lift line (R156) -/

/-- HOST_TO_STORE of one byte at host address 0. -/
def readByte : Entry :=
  { src := 0, packet := 1#512 ||| 1#512 <<< 192, accepted := true, started := true
    dma := { good := 1, missing := [{ page := 0, asked := true }] } }

/-- The page request group of page 0. -/
def byteGroup : PageGroup := { id := 0, entry := 0, func := 0, pages := [0] }

/-- The lift line lists key 0 twice: first the command as ended, which is the entry that is found, then as running. -/
def listedTwice : State :=
  { cmdq := { entries := { cells := [(0, { readByte with phase := .ended }), (0, { readByte with phase := .accepted })] } }
    xlt := { groups := [byteGroup] } }

/-- Its entry satisfies what the statement asks of a mover that waits at its one page. -/
theorem listedTwice_onePage : OnePage listedTwice 0 { readByte with phase := .ended }
    { host := 0, rsa := 0, len := 1, toStore := true, tile := 0, atomic := false, noPri := false, mig := false, write := false } where
  entry := rfl
  op := by decide +kernel
  runs := by decide +kernel
  plain := ⟨rfl, rfl, rfl⟩
  page := by decide
  fresh := ⟨rfl, rfl, rfl, rfl, rfl, rfl⟩
  good := le_refl 1
  alone := by simp [State.NoCoreFor, listedTwice]
  host := by decide
  only := by simp [listedTwice]

/-- The page may be translated again (R156). -/
def MissPage.granted (m : MissPage) : MissPage := { m with asked := false, again := true, successes := m.successes + 1 }

theorem exec_prgResponse_success {s : State} {g : PageGroup} {id : Nat} (h : s.xlt.groups.find? (fun g => g.id = id) = some g) :
    exec (.prgResponse id .success) s = .next (s.groupEnds g MissPage.granted) := by
  show execPrgResponse id .success s = _
  rw [execPrgResponse, h]
  rfl

/-- A Success leaves the entry that is found ended. -/
theorem listedTwice_success :
    ((listedTwice.groupEnds byteGroup MissPage.granted).entry? 0).map (·.phase) = some .ended := by decide +kernel

/-- Refutes O20: in a lift line that lists a key twice, a cell that runs and one that has ended, the mover counts as running, and after
a Success the entry that is found is not accepted but ended. -/
theorem not_atsAndPri : ¬ Obligations.AtsAndPri := by
  unfold Obligations.AtsAndPri
  rintro ⟨-, -, -, -, -, -, hsuccess, -⟩
  obtain ⟨t, ht, -, hentry⟩ := hsuccess listedTwice byteGroup _ _ 0 rfl listedTwice_onePage rfl rfl rfl rfl (by decide +kernel)
    (by decide +kernel)
  obtain rfl : listedTwice.groupEnds byteGroup MissPage.granted = t :=
    Host.Outcome.next.inj ((exec_prgResponse_success rfl).symm.trans ht)
  have haccepted := congrArg (Option.map Prod.fst) hentry
  rw [Option.map_map, Option.map_some] at haccepted
  exact absurd (listedTwice_success.symm.trans haccepted) (by decide)

end Sys2Proof.Machine
end

section
/-!
The commands that may run, and the requests of a mover that lacks a translation (R153 to R156).
-/
namespace Sys2Proof.Machine

open Sys2Proof

/-! ### Commands that may run (R58, R59) -/

theorem State.runnable_spec {s : State} {id op : Nat} {e : Entry} (h : s.runnable id op = some e) :
    s.entry? id = some e ∧ pkOpcode e.packet = op := by
  unfold State.runnable at h
  split at h
  · split at h
    · next hc =>
      cases h
      simp only [Bool.and_eq_true, decide_eq_true_eq] at hc
      exact ⟨by assumption, hc.1.1.1.1.1.1⟩
    · cases h
  · cases h

theorem State.runnableStore_entry {s : State} {id op : Nat} {e : Entry} (h : s.runnableStore id op = some e) :
    s.entry? id = some e := by
  unfold State.runnableStore at h
  split at h
  · exact (State.runnable_spec h).1
  · cases h

theorem State.resumable_spec {s : State} {id op : Nat} {e : Entry} (h : s.resumable id op = some e) :
    s.entry? id = some e ∧ pkOpcode e.packet = op ∧ e.phase = .accepted := by
  unfold State.resumable at h
  split at h
  · split at h
    · next hc =>
      cases h
      simp only [Bool.and_eq_true, decide_eq_true_eq] at hc
      exact ⟨by assumption, hc.1.1.1.1.1, hc.1.1.1.1.2⟩
    · cases h
  · cases h

/-! ### One entry changes -/

theorem State.modEntry_of_none {s : State} {id : Nat} (h : s.entry? id = none) (f : Entry → Entry) : s.modEntry id f = s := by
  simp only [State.entry?] at h
  simp [State.modEntry, Tab.modify, h]

theorem State.entry?_modEntry {s : State} {id : Nat} {e : Entry} (h : s.entry? id = some e) (f : Entry → Entry) :
    (s.modEntry id f).entry? id = some (f e) := by
  rw [State.modEntry_eq h, State.entry?_setEntry_same]

theorem State.modEntry_only (s : State) (id : Nat) (f : Entry → Entry) : OnlyEntry id s (s.modEntry id f) := by
  cases h : s.entry? id with
  | none => rw [State.modEntry_of_none h]; exact ⟨.refl _ _, fun _ _ => rfl⟩
  | some e => rw [State.modEntry_eq h]; exact onlyEntry_setEntry s id (f e)

/-- A frame without the store and its bytes leaves the store whole. -/
theorem Frame.store_eq {l : List Part} {s t : State} (h : Frame l s t) (hstore : Part.store ∉ l) (hmem : Part.mem ∉ l) :
    t.store = s.store := by
  have hrest : t.store.rest = s.store.rest := h .store hstore
  have hbytes : t.store.mem = s.store.mem := h .mem hmem
  calc t.store = { t.store.rest with mem := t.store.mem } := rfl
    _ = { s.store.rest with mem := s.store.mem } := by rw [hrest, hbytes]
    _ = s.store := rfl

/-- What a command's own effect leaves to report (R58, R82): with no item away it has ended. -/
theorem State.conclude_ended {s : State} {id : Nat} {e : Entry} (h : s.entry? id = some e) (hitems : e.items = []) (here : Bool)
    (classes : Nat) (f : Outcome → Outcome) : (s.conclude id here classes f).Ended id
      { f e.out with homes := if here && !e.served.contains s.sys.member then e.out.homes + 1 else e.out.homes } := by
  simp only [State.Ended, State.conclude, State.entry?_modEntry h, hitems, List.isEmpty_nil, if_true, Option.map_some]

/-- With items away or without, the outcome is set. -/
theorem State.conclude_out {s : State} {id : Nat} {e : Entry} (h : s.entry? id = some e) (here : Bool) (classes : Nat)
    (f : Outcome → Outcome) : ∃ x, (s.conclude id here classes f).entry? id = some x ∧ x.out =
      { f e.out with homes := if here && !e.served.contains s.sys.member then e.out.homes + 1 else e.out.homes } :=
  ⟨_, State.entry?_modEntry h _, rfl⟩

theorem State.finish_ended {s : State} {id : Nat} {e : Entry} (h : s.entry? id = some e) (f : Outcome → Outcome) :
    (s.finish id f).Ended id (f e.out) := by
  simp only [State.Ended, State.finish, State.entry?_modEntry h, Option.map_some]

/-! ### The mover's rows (R154, R155) -/

/-- What a mover moves follows from its packet, its output and the segment. -/
theorem State.dmaOp_congr {s t : State} {e x : Entry} (hxlt : t.xlt.ctxs = s.xlt.ctxs) (hpacket : x.packet = e.packet)
    (hbuffer : x.buffer = e.buffer) : t.dmaOp x = s.dmaOp e := by
  simp only [State.dmaOp, State.seg, State.ctx, hxlt, hpacket, hbuffer]

theorem State.dmaRow_start {s : State} {id op : Nat} {e : Entry} (h : s.resumable id op = some e) (hstarted : e.started = false) :
    s.dmaRow id op = .next (s.startDma id) := by
  simp [State.dmaRow, h, hstarted]

theorem State.dmaRow_goOn {s : State} {id op : Nat} {e : Entry} (h : s.resumable id op = some e) (hstarted : e.started = true) :
    s.dmaRow id op = .next (s.runDma id) := by
  simp [State.dmaRow, h, hstarted]

/-- A mover's command has begun. -/
def Entry.under (e : Entry) : Entry := { e with started := true, moving := true }

theorem State.startDma_eq {s : State} {id : Nat} {e : Entry} {d : DmaOp} (he : s.entry? id = some e) (hd : s.dmaOp e = some d) :
    s.startDma id = if (s.source e.src).atsEnabled then (s.setEntry id e.under).runDma id
      else (s.setEntry id e.under).endFault id d St.xltFault 0x4C true 0 := by
  simp only [State.startDma, he, hd, Entry.under]
  cases h : (s.source e.src).atsEnabled <;> simp [h]

/-- The requests for which a command that has not ended asks again once its mover has gone as far as it can. -/
def State.askAgain (s : State) (id : Nat) (d : DmaOp) : State :=
  match s.entry? id with
  | some e => if e.phase = .accepted then (s.requestAhead id d).requestGroup id d else s
  | none => s

/-- With no byte held nothing is written out. -/
theorem State.flush_of_nothing_held {s : State} {id : Nat} {e : Entry} (d : DmaOp) (he : s.entry? id = some e)
    (hheld : e.dma.held = []) : s.flush id d = (s, true) := by
  simp only [State.flush, he, hheld, List.length_nil, Nat.le_zero_eq, Nat.zero_sub, ite_self, if_true]

theorem State.runDma_eq {s : State} {id : Nat} {e : Entry} {d : DmaOp} (he : s.entry? id = some e) (hd : s.dmaOp e = some d)
    (hheld : e.dma.held = []) : s.runDma id = ((((s.requestAhead id d).requestGroup id d).pump id (d.len / 4096 + 3)).askAgain id d) := by
  simp only [State.runDma, he, hd, State.flush_of_nothing_held d he hheld]
  rfl

/-! ### Outstanding translations (R153) -/

/-- A sum over cells does not grow when a cell that adds nothing is set. -/
theorem sum_filter_cellsSet_le {α : Type} (p : Nat × α → Bool) (f : Nat × α → Nat) (l : List (Nat × α)) {k : Nat} {w : α}
    (h : f (k, w) = 0) : (((cellsSet l k w).filter p).map f).sum ≤ ((l.filter p).map f).sum := by
  have hset (r : List (Nat × α)) : ((((k, w) :: r).filter p).map f).sum = ((r.filter p).map f).sum := by
    cases hp : p (k, w) <;> simp [hp, h]
  have hcons (c : Nat × α) (r : List (Nat × α)) :
      (((c :: r).filter p).map f).sum = (if p c then f c else 0) + ((r.filter p).map f).sum := by
    cases hp : p c <;> simp [hp]
  induction l with
  | nil => exact (hset []).le
  | cons c l ih =>
    unfold cellsSet
    split
    · exact (hset _).le
    · split
      · rw [hset, hcons]; exact Nat.le_add_left _ _
      · rw [hcons, hcons]; exact Nat.add_le_add_left ih _

/-- An entry that waits for no translation adds none to those outstanding. -/
theorem State.atsOut_setEntry_le (s : State) (id port : Nat) {x : Entry} (h : x.dma.want = []) :
    (s.setEntry id x).atsOut port ≤ s.atsOut port :=
  sum_filter_cellsSet_le _ _ _ (by simp [h])

/-! ### The address translation cache (R153) -/

theorem State.atcHas_congr {s t : State} (h : t.xlt = s.xlt) (f p : Nat) (w : Bool) : t.atcHas f p w = s.atcHas f p w := by
  simp only [State.atcHas, State.atc, h]

/-! ### Requests (R153, R155, R156) -/

theorem State.requestAhead_only (s : State) (id : Nat) (d : DmaOp) : Frame [.out, .entries] s (s.requestAhead id d) :=
  (State.requestAhead_keeps s id d (by decide) (Kept.refl _ _)).only

theorem State.askAgain_keeps {m : Nat} {r s : State} (id : Nat) (d : DmaOp) (hm : Nat.land 2097296 m = 2097296) (h : Kept m r s) :
    Kept m r (s.askAgain id d) := by
  unfold State.askAgain
  split
  · split
    · exact State.requestGroup_keeps _ _ _ hm (State.requestAhead_keeps _ _ _ (Kept.sub hm (by decide)) h)
    · exact h
  · exact h

theorem State.askAgain_only (s : State) (id : Nat) (d : DmaOp) : Frame [.out, .xlt, .entries] s (s.askAgain id d) :=
  (State.askAgain_keeps id d (by decide) (Kept.refl _ _)).only

/-- What has been sent stays sent while more is asked for. -/
theorem State.askAgain_out (s : State) (id : Nat) (d : DmaOp) {x : Emit} (h : x ∈ s.out) : x ∈ (s.askAgain id d).out :=
  (State.askAgain_keeps (m := 2097296) id d rfl (Kept.refl _ s)).keeps.out.subset h

/-- Entry `id` is `e` but for what its mover keeps. -/
def State.Moves (s : State) (id : Nat) (e : Entry) : Prop := ∃ x, s.entry? id = some { e with dma := x }

theorem State.requestAhead_entry {s : State} {id : Nat} {e : Entry} (d : DmaOp) (he : s.entry? id = some e) :
    ∃ want, (s.requestAhead id d).entry? id = some { e with dma := { e.dma with want := want } } := by
  have hfold : ∀ (l : List Nat) (s : State), (∃ want, s.entry? id = some { e with dma := { e.dma with want := want } }) →
      ∃ want, (l.foldl (fun s pg => s.requestPage id e d pg) s).entry? id = some { e with dma := { e.dma with want := want } } := by
    intro l
    induction l with
    | nil => exact fun _ h => h
    | cons pg l ih =>
      rintro s ⟨want, h⟩
      refine ih _ ⟨addNew want pg, ?_⟩
      show (s.requestPage id e d pg).entry? id = _
      rw [State.requestPage, State.entry?_emit, State.entry?_modEntry h]
  simp only [State.requestAhead, he]
  exact hfold _ _ ⟨e.dma.want, he⟩

theorem State.requestGroup_entry {s : State} {id : Nat} {e : Entry} (d : DmaOp) (he : s.entry? id = some e) :
    (s.requestGroup id d).Moves id e := by
  have hsame : s.Moves id e := ⟨e.dma, he⟩
  simp only [State.requestGroup, he]
  split
  · exact hsame
  · split
    · exact ⟨_, State.entry?_setEntry_same _ _ _⟩
    · split
      · exact hsame
      · exact ⟨_, (State.entry?_emit _ _ _).trans (State.entry?_setEntry_same _ _ _)⟩

theorem State.askAgain_entry {s : State} {id : Nat} {e : Entry} (d : DmaOp) (he : s.entry? id = some e) : (s.askAgain id d).Moves id e := by
  simp only [State.askAgain, he]
  split
  · obtain ⟨want, hw⟩ := State.requestAhead_entry d he
    obtain ⟨x, hx⟩ := State.requestGroup_entry d hw
    exact ⟨x, hx⟩
  · exact ⟨e.dma, he⟩

theorem State.requestGroup_of_none_missing {s : State} {id : Nat} {e : Entry} (d : DmaOp) (he : s.entry? id = some e)
    (hmissing : e.dma.missing = []) : s.requestGroup id d = s := by
  simp [State.requestGroup, he, hmissing]

/-- First and last host page that a mover needs from where it stands. -/
def Entry.nextPage (e : Entry) (d : DmaOp) : Nat := d.page (if d.prefetch then 4096 * e.dma.moved else e.dma.issued)
def DmaOp.lastPage (d : DmaOp) : Nat := (d.host + d.len - 1) / 4096

/-- No request goes out while every page ahead is translated. -/
theorem State.requestAhead_of_translated {s : State} {id : Nat} {e : Entry} {d : DmaOp} (he : s.entry? id = some e)
    (h : ∀ pg, e.nextPage d ≤ pg → pg ≤ d.lastPage → s.atcHas e.src pg d.write = true) : s.requestAhead id d = s := by
  have hnone : ∀ pg ∈ (List.range 65).filterMap (fun i =>
      if e.nextPage d + i ≤ d.lastPage then some (e.nextPage d + i) else none), s.atcHas e.src pg d.write = true := by
    intro pg hpg
    obtain ⟨i, -, hi⟩ := List.mem_filterMap.mp hpg
    split at hi
    · cases hi; exact h _ (Nat.le_add_right _ _) (by assumption)
    · cases hi
  simp only [State.requestAhead, he]
  rw [List.filter_eq_nil_iff.mpr]
  · simp
  · intro pg hpg
    simp [hnone pg hpg]

/-- The page a mover needs next is asked for when it is not translated, not asked for and not known to be missing. -/
theorem State.requestAhead_asks {s : State} {id : Nat} {e : Entry} {d : DmaOp} (he : s.entry? id = some e)
    (hwant : e.dma.want = []) (hmissing : e.dma.missing = []) (hle : e.nextPage d ≤ d.lastPage)
    (hno : s.atcHas e.src (e.nextPage d) d.write = false) (hroom : s.atsOut (e.src / 64) < 256) :
    .translation e.src (e.nextPage d) (!d.write) ∈ (s.requestAhead id d).out := by
  have hkeep : ∀ (l : List Nat) (u : State) (x : Emit), x ∈ u.out → x ∈ (l.foldl (fun s pg => s.requestPage id e d pg) u).out :=
    fun l u x hx => (Kept.foldl (m := 2097168) (Kept.refl _ u)
      fun _ _ h => State.requestPage_keeps _ _ _ _ _ rfl h).keeps.out.subset hx
  obtain ⟨k, hk⟩ : ∃ k, 256 - s.atsOut (e.src / 64) = k + 1 := ⟨255 - s.atsOut (e.src / 64), by omega⟩
  rw [Entry.nextPage] at hle hno ⊢
  rw [DmaOp.lastPage] at hle
  simp only [State.requestAhead, he]
  rw [show List.range 65 = 0 :: (List.range 64).map Nat.succ from List.range_succ_eq_map, List.filterMap_cons, Nat.add_zero,
    if_pos hle, List.filter_cons]
  rw [if_pos (by simp [hno, hwant, hmissing]), hk, List.take_succ_cons, List.foldl_cons]
  exact hkeep _ _ _ (by simp [State.requestPage, State.emit])

/-! ### A mover that lacks the translation of its first page -/

theorem DmaOp.page_zero (d : DmaOp) : d.page 0 = d.host / 4096 := rfl

/-- The first piece of a tile begins at offset 0. -/
theorem DmaOp.tileStart_zero (d : DmaOp) : d.tileStart 0 = 0 :=
  Nat.sub_eq_zero_of_le (Nat.div_mul_le_self _ _)

/-- Without the translation of the first page the first piece is not ready, be it a page or a tile (R155, R158). -/
theorem State.pieceReady_false {s : State} {e : Entry} {d : DmaOp} (h : s.atcHas e.src (d.host / 4096) d.write = false) :
    s.pieceReady e d 0 = false := by
  have hlo : (if d.atomic then d.tileStart 0 else 0) = 0 := by rw [d.tileStart_zero, ite_self]
  have hhi : d.page 0 ≤ if d.atomic then d.page (d.tileEnd 0 - 1) else d.page 0 := by
    split
    · exact Nat.div_le_div_right (by omega)
    · exact le_refl _
  simp only [State.pieceReady, hlo]
  rw [List.all_eq_false]
  exact ⟨0, List.mem_range.mpr (by omega), by simpa [d.page_zero] using h⟩

/-- Nothing has failed for a mover, and it is inside the bytes that its store range translates. -/
theorem Entry.faultAt_none {e : Entry} {d : DmaOp} {off : Nat} (hfail : e.dma.fail = none) (hmissing : e.dma.missing = [])
    (hgood : off < e.dma.good ∨ d.len ≤ off) : e.faultAt d off = none := by
  have hin : (!d.prefetch && decide (off ≥ e.dma.good) && decide (off < d.len)) = false := by
    rcases hgood with h | h <;> simp <;> omega
  simp only [Entry.faultAt, hfail, hin, Dma.deadPage, hmissing]
  rfl

/-- A mover at its first byte, with nothing asked for, nothing missing and nothing failed (R155). -/
structure Entry.Fresh (e : Entry) (d : DmaOp) : Prop where
  moved : e.dma.moved = 0
  issued : e.dma.issued = 0
  held : e.dma.held = []
  missing : e.dma.missing = []
  fail : e.dma.fail = none
  good : d.prefetch = true ∨ 0 < e.dma.good
  len : 0 < d.len

theorem Entry.Fresh.nextPage {e : Entry} {d : DmaOp} (h : e.Fresh d) : e.nextPage d = d.host / 4096 := by
  simp only [Entry.nextPage, h.moved, h.issued, Nat.mul_zero, ite_self, d.page_zero]

theorem Entry.Fresh.le_lastPage {e : Entry} {d : DmaOp} (h : e.Fresh d) : d.host / 4096 ≤ d.lastPage :=
  Nat.div_le_div_right (by have := h.len; omega)

/-- Such a mover waits for the translation of its first page. -/
theorem State.pump_waits {s : State} {id : Nat} {e : Entry} {d : DmaOp} (he : s.entry? id = some e) (hd : s.dmaOp e = some d)
    (hfresh : e.Fresh d) (hno : s.atcHas e.src (d.host / 4096) d.write = false) (k : Nat) : s.pump id k = s := by
  have hle := hfresh.le_lastPage
  rw [DmaOp.lastPage] at hle
  have hlen := hfresh.len
  cases k with
  | zero => rfl
  | succ k =>
    simp only [State.pump, he, hd, hfresh.moved, hfresh.issued, Nat.add_zero, d.page_zero]
    split
    · rw [if_neg (by omega), if_neg (by simp [hno]), hfresh.missing]
      rfl
    · next hpre =>
      have hgood : 0 < e.dma.good := hfresh.good.resolve_left hpre
      rw [if_neg (by omega), Entry.faultAt_none hfresh.fail hfresh.missing (.inl hgood)]
      dsimp only
      rw [if_neg (by omega), if_neg (by omega), if_pos (by simp [State.pieceReady_false hno])]

/-- A mover that starts without the translation of its first page asks for it, and changes no byte (R154, R155). -/
theorem State.startDma_asks {s : State} {id : Nat} {e : Entry} {d : DmaOp} (he : s.entry? id = some e) (hd : s.dmaOp e = some d)
    (hats : (s.source e.src).atsEnabled = true) (hfresh : e.Fresh d) (hwant : e.dma.want = [])
    (hroom : s.atsOut (e.src / 64) < 256) (hno : s.atcHas e.src (d.host / 4096) d.write = false) :
    .translation e.src (d.host / 4096) (!d.write) ∈ (s.startDma id).out ∧ (s.startDma id).store = s.store ∧
      ((s.startDma id).entry? id).map (·.started) = some true := by
  generalize hs1 : s.setEntry id e.under = s1
  have he1 : s1.entry? id = some e.under := by rw [← hs1, State.entry?_setEntry_same]
  have hd1 : s1.dmaOp e.under = some d := by rw [← hd, ← hs1]; exact State.dmaOp_congr rfl rfl rfl
  have hfresh1 : e.under.Fresh d := { hfresh with }
  have hroom1 : s1.atsOut (e.src / 64) < 256 := by rw [← hs1]; exact lt_of_le_of_lt (s.atsOut_setEntry_le id _ hwant) hroom
  -- the requests
  obtain ⟨want, hew⟩ := State.requestAhead_entry d he1
  have hask : .translation e.src (d.host / 4096) (!d.write) ∈ (s1.requestAhead id d).out := by
    have := State.requestAhead_asks he1 hwant hfresh1.missing (hfresh1.nextPage ▸ hfresh1.le_lastPage)
      (by rw [hfresh1.nextPage, ← hs1]; exact hno) hroom1
    rwa [hfresh1.nextPage] at this
  have hxlt : (s1.requestAhead id d).xlt = s1.xlt := (s1.requestAhead_only id d) .xlt (by simp)
  have hfresh2 : Entry.Fresh { e.under with dma := { e.dma with want := want } } d := { hfresh with }
  -- the mover waits, and what it may ask for further changes no byte
  have hrun : s.startDma id = (s1.requestAhead id d).askAgain id d := by
    rw [State.startDma_eq he hd, if_pos hats, hs1, State.runDma_eq he1 hd1 hfresh1.held,
      State.requestGroup_of_none_missing d hew hfresh.missing]
    rw [State.pump_waits hew ((State.dmaOp_congr (by rw [hxlt]) rfl rfl).trans hd1) hfresh2
      (by rw [State.atcHas_congr hxlt, ← hs1]; exact hno)]
  obtain ⟨x, hx⟩ := State.askAgain_entry d hew
  rw [hrun]
  refine ⟨State.askAgain_out _ _ _ hask, ?_, by rw [hx]; rfl⟩
  rw [(State.askAgain_only _ _ _).store_eq (by simp) (by simp), (State.requestAhead_only _ _ _).store_eq (by simp) (by simp), ← hs1]
  rfl

end Sys2Proof.Machine
end

section
/-!
Migrations, INVALIDATE, REVOKE and holds (R169, R170, R172 to R174).
-/
namespace Sys2Proof.Machine

open Sys2Proof

/-! ### Migrations (R169, R170) -/

/-- MIGRATE_IN reads host pages, MIGRATE_OUT writes them. -/
theorem State.dmaOp_write_migrateIn {s : State} {e : Entry} {d : DmaOp} (hop : pkOpcode e.packet = 0x0C) (hbuffer : e.buffer = none)
    (hd : s.dmaOp e = some d) : d.write = false := by
  simp only [State.dmaOp, hbuffer, hop, Option.some.injEq] at hd
  rw [← hd]

theorem State.dmaOp_write_migrateOut {s : State} {e : Entry} {d : DmaOp} (hop : pkOpcode e.packet = 0x0D) (hbuffer : e.buffer = none)
    (hd : s.dmaOp e = some d) : d.write = true := by
  simp only [State.dmaOp, hbuffer, hop, Option.some.injEq] at hd
  rw [← hd]

/-- A mover that has captured its store range and done nothing yet is at its first byte. -/
theorem Entry.fresh_of_good {e : Entry} {d : DmaOp} (hdma : e.dma = { good := e.dma.good }) (hlen : 0 < d.len)
    (hgood : 0 < e.dma.good) : e.Fresh d where
  moved := by rw [hdma]
  issued := by rw [hdma]
  held := by rw [hdma]
  missing := by rw [hdma]
  fail := by rw [hdma]
  good := .inr hgood
  len := hlen

theorem exec_migrateIn {s : State} (hup : s.storeUp = true) (id : Nat) : exec (.migrateIn id) s = s.dmaRow id 0x0C := by
  show execMigrateIn id s = _
  rw [execMigrateIn, if_pos hup]

/-- MIGRATE_OUT once its revocation is recorded: it goes on when that has drained. -/
theorem exec_migrateOut {s : State} {id : Nat} {e : Entry} {r : Revocation} (hrun : s.resumable id 0x0D = some e)
    (hr : r ∈ s.xlt.revocations) (hid : r.entry = id) : exec (.migrateOut id) s =
      if s.storeUp && s.xlt.revocations.all (fun r => r.entry != id || s.drained r) then s.dmaRow id 0x0D else .next s := by
  have hbegun : (s.xlt.revocations.any fun r => r.entry = id) = true := List.any_eq_true.mpr ⟨r, hr, by simp [hid]⟩
  show execMigrateOut id s = _
  simp only [execMigrateOut, hrun, hbegun, if_true]

/-- A MIGRATE_IN that is DONE makes its segment VALID and opens a new generation (R169). -/
theorem State.xltCompleted_migrateIn {s : State} {e : Entry} (id : Nat) (haccepted : e.accepted = true)
    (hop : pkOpcode e.packet = 0x0C) (hdone : e.out.status = St.done) : s.xltCompleted id e =
      s.setCtx (pkContext e.packet) ({ s.ctx (pkContext e.packet) with
        segGen := ((s.ctx (pkContext e.packet)).segGen + 1) % 65536 }.setSeg (xpSegment e.packet)
          { s.seg (pkContext e.packet) (xpSegment e.packet) with state := .valid }) := by
  simp only [State.xltCompleted, hop, haccepted, hdone, Bool.true_and, decide_true, Bool.true_or, if_true]
  rfl

/-! ### Contexts and segments (R141, R144) -/

@[simp] theorem State.ctx_setCtx_same (s : State) (c : Nat) (x : Context) : (s.setCtx c x).ctx c = x := by
  simp [State.ctx, State.setCtx]

theorem State.ctx_setCtx_other (s : State) {b c : Nat} (x : Context) (h : b ≠ c) : (s.setCtx c x).ctx b = s.ctx b := by
  simp [State.ctx, State.setCtx, Tab.getD_set, h]

@[simp] theorem Context.seg_setSeg_same (c : Context) (i : Nat) (x : Segment) : (c.setSeg i x).seg i = x := by
  simp [Context.seg, Context.setSeg]

/-- The contexts follow the translation part alone. -/
theorem State.ctx_congr {s t : State} (h : t.xlt.ctxs = s.xlt.ctxs) (c : Nat) : t.ctx c = s.ctx c := by
  simp only [State.ctx, h]

/-! ### INVALIDATE (R172) -/

theorem exec_invalidate {s : State} {id : Nat} {e : Entry} (h : s.runnable id 0x20 = some e) : exec (.invalidate id) s =
      if (s.oldCommands (xpTargetCtx e.packet) (xpSegMask e.packet) e.targetGen).isEmpty &&
          (s.rawsOn (xpTargetCtx e.packet) (xpSegMask e.packet) (some e.targetGen)).isEmpty then
        .next (s.conclude id false 0 fun o => { o with countDone := e.waited, countAux := e.rawWaited })
      else .next s := by
  show execInvalidate id s = _
  simp only [execInvalidate, h]

/-! ### REVOKE (R173) -/

theorem State.beginRevoke_of_not_valid {s : State} {id c i sub : Nat} (h : (s.seg c i).state ≠ .valid) :
    s.beginRevoke id c i sub = s := by
  have h' : (((s.ctx c).seg i).state != .valid) = true := bne_iff_ne.mpr h
  simp only [State.beginRevoke, h', if_true]

/-- Step 1: the segment is withdrawn and the context's REV_EPOCH goes on, which is the command's effect of class 6. -/
def State.withdrawn (s : State) (id c i : Nat) : State :=
  (s.modEntry id fun e => { e with begun := e.begun ||| 64 }).setCtx c
    ({ s.ctx c with revEpoch := ((s.ctx c).revEpoch + 1) % 65536 }.setSeg i
      { s.seg c i with state := .invalid, revoking := true })

theorem State.ctx_withdrawn (s : State) (id c i : Nat) : (s.withdrawn id c i).ctx c =
    { s.ctx c with revEpoch := ((s.ctx c).revEpoch + 1) % 65536 }.setSeg i
      { s.seg c i with state := .invalid, revoking := true } :=
  State.ctx_setCtx_same _ _ _

/-- The commands in flight that step 2 marks. -/
def State.usersOf (s : State) (id c i : Nat) : List (Nat × Entry) :=
  s.entriesWhere fun j e => j != id && e.accepted && e.proxy.isNone && e.phase = .accepted && e.stop.isNone &&
    pkContext e.packet = c && e.captures.any fun k => k.segs.testBit i

/-- What REVOKE or MIGRATE_OUT waits for is recorded. -/
def State.openRevocation (s : State) (r : Revocation) : State :=
  { s with xlt := { s.xlt with revocations := s.xlt.revocations ++ [r] } }

theorem State.beginRevoke_of_valid {s : State} {id c i sub : Nat} (h : (s.seg c i).state = .valid) : s.beginRevoke id c i sub =
    ((s.withdrawn id c i).usersOf id c i).foldl (fun s x => s.markEntry x.1) ((s.withdrawn id c i).openRevocation
      { entry := id, ctx := c, seg := i, sub := sub, epoch := ((s.ctx c).revEpoch + 1) % 65536
        undecided := ((s.withdrawn id c i).usersOf id c i).map (·.1) }) := by
  have h' : ¬ (((s.ctx c).seg i).state != .valid) = true := by
    rw [show ((s.ctx c).seg i).state = .valid from h]; decide
  unfold State.beginRevoke
  exact if_neg h'

/-- A cell at another key than the one that was set was there before. -/
theorem mem_of_mem_cellsSet {α : Type} {l : List (Nat × α)} {k : Nat} {v : α} {x : Nat × α} (h : x ∈ cellsSet l k v)
    (hne : x.1 ≠ k) : x ∈ l := by
  have hnew : x ≠ (k, v) := fun he => hne (he ▸ rfl)
  induction l with
  | nil => simp_all [cellsSet]
  | cons c l ih =>
    obtain ⟨i, w⟩ := c
    unfold cellsSet at h
    split at h
    · exact (List.mem_cons.mp h).resolve_left hnew
    · split at h
      · exact List.mem_cons_of_mem _ ((List.mem_cons.mp h).resolve_left hnew)
      · rcases List.mem_cons.mp h with rfl | h
        · exact List.mem_cons_self
        · exact List.mem_cons_of_mem _ (ih h)

/-- With no other command of the context in flight none is marked. -/
theorem State.usersOf_alone {s : State} {id c : Nat} (i : Nat) (halone : ∀ x ∈ s.inFlight c, x.1 = id) :
    (s.withdrawn id c i).usersOf id c i = [] := by
  refine List.filter_eq_nil_iff.mpr fun x hx hp => ?_
  simp only [Bool.and_eq_true, bne_iff_ne, decide_eq_true_eq] at hp
  obtain ⟨⟨⟨⟨⟨⟨hne, haccepted⟩, hproxy⟩, -⟩, -⟩, hctx⟩, -⟩ := hp
  have hcell : x ∈ s.cmdq.entries.cells := by
    cases he : s.entry? id with
    | none => rwa [State.withdrawn, State.modEntry_of_none he] at hx
    | some e => rw [State.withdrawn, State.modEntry_eq he] at hx; exact mem_of_mem_cellsSet hx hne
  exact hne (halone x (List.mem_filter.mpr ⟨hcell, by simp [haccepted, hproxy, hctx]⟩))

theorem State.startBack_unbound {s : State} {r : Revocation} (hstarted : r.backStarted = false) (hbound : s.boundEndpoint r.ctx = none) :
    s.startBack r = s.modRevocation r.entry fun r => { r with backStarted := true } := by
  have h : (s.modRevocation r.entry fun r => { r with backStarted := true }).boundEndpoint r.ctx = none := hbound
  simp only [State.startBack, hstarted, Bool.false_eq_true, if_false, h]

/-- REVOKE of a segment that is not VALID has nothing to wait for (R173). -/
theorem exec_revoke_not_valid {s : State} {id : Nat} {e : Entry} (h : s.runnable id 0x21 = some e) (hnone : s.xlt.revocations = [])
    (hinvalid : (s.seg (xpTargetCtx e.packet) (xpTargetSeg e.packet)).state ≠ .valid) :
    exec (.revoke id) s = .next (s.conclude id false 0 fun o => { o with result0 := (s.ctx (xpTargetCtx e.packet)).revEpoch }) := by
  show execRevoke id s = _
  simp only [execRevoke, h, hnone, List.any_nil, Bool.false_eq_true, if_false, State.beginRevoke_of_not_valid hinvalid,
    List.find?_nil]

/-- The endpoint that a context is bound to follows its BOUND_SRC and the ports. -/
theorem State.boundEndpoint_congr {s t : State} {c : Nat} (hsrc : (t.ctx c).boundSrc = (s.ctx c).boundSrc) (hhxl : t.hxl = s.hxl) :
    t.boundEndpoint c = s.boundEndpoint c := by
  simp only [State.boundEndpoint, hsrc, State.port, hhxl]
  rfl

/-- The revocation that REVOKE opens when it marks no command. -/
def State.revocationOf (s : State) (id c i : Nat) : Revocation :=
  { entry := id, ctx := c, seg := i, sub := 0x40, epoch := ((s.ctx c).revEpoch + 1) % 65536 }

/-- What REVOKE leaves with no other command of the context in flight and no endpoint bound to it. -/
def State.revokedAlone (s : State) (id c i : Nat) : State :=
  ((s.withdrawn id c i).openRevocation (s.revocationOf id c i)).modRevocation id fun r => { r with backStarted := true }

/-- REVOKE then sends nothing and waits for its last step. -/
theorem exec_revoke_alone {s : State} {id : Nat} {e : Entry} (h : s.runnable id 0x21 = some e) (hnone : s.xlt.revocations = [])
    (hvalid : (s.seg (xpTargetCtx e.packet) (xpTargetSeg e.packet)).state = .valid)
    (hbound : s.boundEndpoint (xpTargetCtx e.packet) = none) (halone : ∀ x ∈ s.inFlight (xpTargetCtx e.packet), x.1 = id) :
    exec (.revoke id) s = .next (s.revokedAlone id (xpTargetCtx e.packet) (xpTargetSeg e.packet)) := by
  generalize hc : xpTargetCtx e.packet = c at *
  generalize hi : xpTargetSeg e.packet = i at *
  have hbegin : s.beginRevoke id c i 0x40 = (s.withdrawn id c i).openRevocation (s.revocationOf id c i) := by
    rw [State.beginRevoke_of_valid hvalid, State.usersOf_alone i halone]
    rfl
  have hrecord : ((s.withdrawn id c i).openRevocation (s.revocationOf id c i)).xlt.revocations = [s.revocationOf id c i] :=
    congrArg (· ++ [s.revocationOf id c i]) hnone
  have hsrc : ((s.withdrawn id c i).ctx c).boundSrc = (s.ctx c).boundSrc := by
    rw [s.ctx_withdrawn]
    rfl
  have hunbound : ((s.withdrawn id c i).openRevocation (s.revocationOf id c i)).boundEndpoint c = none :=
    (State.boundEndpoint_congr (t := (s.withdrawn id c i).openRevocation (s.revocationOf id c i)) hsrc rfl).trans hbound
  have hfind : [s.revocationOf id c i].find? (fun r => r.entry = id) = some (s.revocationOf id c i) :=
    List.find?_cons_of_pos (decide_eq_true rfl)
  show execRevoke id s = _
  simp only [execRevoke, h, hnone, List.any_nil, Bool.false_eq_true, if_false, hc, hi, hbegin, hrecord, hfind]
  exact congrArg Host.Outcome.next (State.startBack_unbound rfl hunbound)

/-- Step 5: REVOKING clears and the record goes. -/
def State.closeRevocation (s : State) (c i : Nat) (r : Revocation) : State :=
  { s.setCtx c ((s.ctx c).setSeg i { (s.ctx c).seg i with revoking := false }) with
    xlt := { (s.setCtx c ((s.ctx c).setSeg i { (s.ctx c).seg i with revoking := false })).xlt with
      revocations := s.xlt.revocations.filter fun q => q.entry != r.entry } }

/-- The events of step 5. -/
def State.tellRevoked (s : State) (c : Nat) : State :=
  if ((s.raise F.XLT_EVENT_REVOKE_DONE).boundEndpoint c).isSome then
    (s.raise F.XLT_EVENT_REVOKE_DONE).raise F.COH_EVENT_RECLAIM_DONE
  else s.raise F.XLT_EVENT_REVOKE_DONE

theorem State.tellRevoked_only (s : State) (c : Nat) : Frame [.regs, .msix, .out] s (s.tellRevoked c) := by
  unfold State.tellRevoked
  split
  · exact (State.raise_only _ _).trans (State.raise_only _ _)
  · exact State.raise_only _ _

theorem State.tellRevoked_event (s : State) (c : Nat) : (s.tellRevoked c).fld F.XLT_EVENT_REVOKE_DONE = 1 := by
  unfold State.tellRevoked
  split
  · rw [State.fld_raise_other _ _ _ (by decide) (.inl (by decide)), State.fld_raise_same _ _ (by decide)]
  · exact State.fld_raise_same _ _ (by decide)

/-- The one revocation under way is the one that REVOKE of the segment opened. -/
theorem State.find?_revocation {s : State} {c i : Nat} {r : Revocation} (hr : s.xlt.revocations = [r]) (hc : r.ctx = c)
    (hi : r.seg = i) (hsub : r.sub = 0x40) :
    s.xlt.revocations.find? (fun r => r.ctx = c && r.seg = i && r.sub = 0x40) = some r := by
  simp [hr, hc, hi, hsub]

/-- REVOKE reports its counts, unless only its wait was left to end (R173, R174). -/
def State.reportRevoked (s : State) (r : Revocation) : Res :=
  match s.entry? r.entry with
  | some e =>
    if e.stop.isSome || pkOpcode e.packet != 0x21 then .next s
    else .next (s.finish r.entry fun o => { o with result0 := r.epoch, countDone := r.nReleased, countAux := r.nRevoked })
  | none => .next s

theorem State.reportRevoked_eq {s : State} {r : Revocation} {e : Entry} (he : s.entry? r.entry = some e) (hstop : e.stop = none)
    (hop : pkOpcode e.packet = 0x21) : s.reportRevoked r =
      .next (s.finish r.entry fun o => { o with result0 := r.epoch, countDone := r.nReleased, countAux := r.nRevoked }) := by
  simp [State.reportRevoked, he, hstop, hop]

/-- The last step waits until everything before the epoch has drained at every home (R173 step 5). -/
theorem exec_revokeComplete {s : State} {c i : Nat} {r : Revocation} (hr : s.xlt.revocations = [r]) (hc : r.ctx = c)
    (hi : r.seg = i) (hsub : r.sub = 0x40) (hback : r.backStarted = true) : exec (.revokeComplete c i) s =
      if !s.drained r || s.backPending (revokeWaiter r.entry) || !s.noneAway (revokeWaiter r.entry) ||
        !(s.rawsOn c (2 ^ i) none).isEmpty then .next s
      else ((s.closeRevocation c i r).tellRevoked c).reportRevoked r := by
  show execRevokeComplete c i s = _
  simp only [execRevokeComplete, State.find?_revocation hr hc hi hsub, hback, Bool.not_true, Bool.false_eq_true, if_false]
  rfl

/-! ### Holds (R173 step 3) -/

theorem exec_workHold {s : State} {origin id : Nat} (h : s.proxyOf origin id = none) : exec (.workHold origin id) s =
    .next ({ s with rack := { s.rack with holds := addNew s.rack.holds (origin, id) } }.emit
      (.workAnswer origin id St.revoked 0 [BitVec.ofNat 8 (b2n (s.itemBegun origin id))])) := by
  show execWorkHold origin id s = _
  simp only [execWorkHold, h, Option.any_none, Bool.or_false]

/-! ### The statement -/

/-- Settles O22: a migration lacks its first page, INVALIDATE by what it waits for, REVOKE with nothing else in flight and at a segment
that is not VALID, its last step by whether all has drained, a hold by what is known of the item. -/
theorem withdrawals : Obligations.Withdrawals := by
  unfold Obligations.Withdrawals
  refine ⟨?migrateIn, ?migratedIn, ?undrained, ?migrateOut, ?invalidate, ?invalidateWaits, ?revoke, ?revokeIdle, ?revokeEnd,
    ?revokeWaits, ?hold⟩
  case migrateIn =>
    intro s id e d hup hrun hbuffer hd hstarted hats hdma hlen hgood hroom hno
    obtain ⟨he, hop, -⟩ := State.resumable_spec hrun
    have hwrite := State.dmaOp_write_migrateIn hop hbuffer hd
    obtain ⟨hout, hstore, hbegun⟩ := State.startDma_asks he hd hats (Entry.fresh_of_good hdma hlen hgood) (by rw [hdma]) hroom
      (by rw [hwrite]; exact hno)
    exact ⟨_, (exec_migrateIn hup id).trans (State.dmaRow_start hrun hstarted), by rwa [hwrite] at hout, hstore, hbegun⟩
  case migratedIn =>
    rintro s id e w i - - - haccepted hop hdone rfl rfl
    rw [State.xltCompleted_migrateIn id haccepted hop hdone]
    simp only [State.seg, State.ctx_setCtx_same, Context.seg_setSeg_same, true_and]
    rfl
  case undrained =>
    intro s id e r hrun hr hid hdrained
    have hwait : s.xlt.revocations.all (fun r => r.entry != id || s.drained r) = false :=
      List.all_eq_false.mpr ⟨r, hr, by simp [hid, hdrained]⟩
    rw [exec_migrateOut hrun hr hid, hwait, Bool.and_false]
    rfl
  case migrateOut =>
    intro s id e d r hup hrun hr hid hdrained hbuffer hd hstarted hats hdma hlen hgood hroom hno
    obtain ⟨he, hop, -⟩ := State.resumable_spec hrun
    have hwrite := State.dmaOp_write_migrateOut hop hbuffer hd
    obtain ⟨hout, hstore, -⟩ := State.startDma_asks he hd hats (Entry.fresh_of_good hdma hlen hgood) (by rw [hdma]) hroom
      (by rw [hwrite]; exact hno)
    have hexec : exec (.migrateOut id) s = s.dmaRow id 0x0D := by
      rw [exec_migrateOut hrun (hr ▸ List.mem_singleton_self r) hid, if_pos (by simp [hup, hr, hdrained])]
    exact ⟨_, hexec.trans (State.dmaRow_start hrun hstarted), by rwa [hwrite] at hout, hstore⟩
  case invalidate =>
    intro s id e hrun hitems hold hraws
    refine ⟨_, (exec_invalidate hrun).trans (if_pos (by simp [hold, hraws])), ?_, s.modEntry_only id _⟩
    exact State.conclude_ended (State.runnable_spec hrun).1 hitems _ _ _
  case invalidateWaits =>
    intro s id e hrun hold
    exact (exec_invalidate hrun).trans (if_neg (by simp [hold]))
  case revoke =>
    rintro s id c i e hrun rfl rfl hnone hvalid hbound halone
    refine ⟨_, exec_revoke_alone hrun hnone hvalid hbound halone, ?_, ?_, rfl, rfl, fun b hb => State.ctx_setCtx_other _ _ hb⟩
    · exact (congrArg (Context.seg · _) (s.ctx_withdrawn id _ _)).trans (Context.seg_setSeg_same _ _ _)
    · exact congrArg Context.revEpoch (s.ctx_withdrawn id _ _)
  case revokeIdle =>
    intro s id e hrun hitems hnone hinvalid
    exact ⟨_, exec_revoke_not_valid hrun hnone hinvalid, State.conclude_ended (State.runnable_spec hrun).1 hitems _ _ _,
      s.modEntry_only id _⟩
  case revokeEnd =>
    intro s c i r e hr hc hi hsub hback hdrained hpending haway hraws he hitems hstop hop
    have hsame : ((s.closeRevocation c i r).tellRevoked c).entry? r.entry = some e := by
      rw [← he]
      exact congrArg (fun t : Tab Entry => t.find? r.entry) (State.tellRevoked_only _ c .entries (by simp))
    have hxlt : ((s.closeRevocation c i r).tellRevoked c).xlt = (s.closeRevocation c i r).xlt :=
      State.tellRevoked_only _ c .xlt (by simp)
    have hexec := (exec_revokeComplete hr hc hi hsub hback).trans (if_neg (by simp [hdrained, hpending, haway, hraws]))
    refine ⟨_, hexec.trans (State.reportRevoked_eq hsame hstop hop), ?_, ?_, State.tellRevoked_event _ c, State.finish_ended hsame _⟩
    · refine (congrArg (Context.seg · i) (State.ctx_congr (congrArg XltState.ctxs hxlt) c)).trans ?_
      simp only [State.closeRevocation, State.ctx, State.setCtx, Tab.getD_set_same, Context.seg_setSeg_same, State.seg]
    · exact (congrArg XltState.revocations hxlt).trans (by simp [State.closeRevocation, hr])
  case revokeWaits =>
    intro s c i r hr hc hi hsub hback hdrained
    exact (exec_revokeComplete hr hc hi hsub hback).trans (if_pos (by simp [hdrained]))
  case hold =>
    intro s origin id hproxy
    refine ⟨_, exec_workHold hproxy, mem_addNew _ _, rfl, ?_⟩
    exact (Frame.trans (fun p hp => by cases p <;> first | rfl | exact absurd hp (by decide))
      ((State.emit_only _ _).mono (by simp)))

end Sys2Proof.Machine
end

section
/-!
A mover whose page is translated: what it reads, writes and reports (R153, R155, R157, R160, R165).
-/
namespace Sys2Proof.Machine

open Sys2Proof

/-! ### Use of a translation (R153) -/

theorem State.atcTouch_cases (s : State) (f p : Nat) : s.atcTouch f p = s ∨
    ∃ a ∈ s.atc (f / 64), s.atcTouch f p = s.setAtc (f / 64) (a :: (s.atc (f / 64)).erase a) := by
  simp only [State.atcTouch]
  split
  · next a h => exact .inr ⟨a, List.mem_of_find?_eq_some h, rfl⟩
  · exact .inl rfl

theorem State.atcTouch_only (s : State) (f p : Nat) : Frame [.xlt] s (s.atcTouch f p) :=
  (State.atcTouch_keeps s f p (by decide) (Kept.refl _ _)).only

@[simp] theorem State.atcTouch_out (s : State) (f p : Nat) : (s.atcTouch f p).out = s.out := s.atcTouch_only f p .out (by simp)

@[simp] theorem State.atcTouch_store (s : State) (f p : Nat) : (s.atcTouch f p).store = s.store :=
  (s.atcTouch_only f p).store_eq (by simp) (by simp)

/-- The translations of a port stand; only their order changes. -/
theorem State.mem_atc_atcTouch (s : State) (f p i : Nat) (b : AtcEntry) : b ∈ (s.atcTouch f p).atc i ↔ b ∈ s.atc i := by
  obtain h | ⟨a, ha, h⟩ := s.atcTouch_cases f p <;> rw [h]
  by_cases hi : i = f / 64
  · subst hi
    have hport : f / 64 < s.xlt.atc.length := by
      by_contra hout
      rw [State.atc, List.getD_eq_default _ _ (by omega)] at ha
      cases ha
    have hset : (s.setAtc (f / 64) (a :: (s.atc (f / 64)).erase a)).atc (f / 64) = a :: (s.atc (f / 64)).erase a := by
      simp [State.atc, State.setAtc, List.getD, hport]
    rw [hset]
    exact (List.perm_cons_erase ha).mem_iff.symm
  · rw [show (s.setAtc (f / 64) (a :: (s.atc (f / 64)).erase a)).atc i = s.atc i by
      simp [State.atc, State.setAtc, List.getD, List.getElem?_set_ne (Ne.symm hi)]]

@[simp] theorem State.atcHas_atcTouch (s : State) (f p g q : Nat) (w : Bool) : (s.atcTouch f p).atcHas g q w = s.atcHas g q w := by
  rw [Bool.eq_iff_iff]
  simp only [State.atcHas, List.any_eq_true, State.mem_atc_atcTouch]

/-! ### A mover inside one page (R155, R157) -/

/-- The bytes lie in one host page. -/
structure DmaOp.InPage (d : DmaOp) : Prop where
  nonempty : 0 < d.len
  page : d.len ≤ 4096 - d.host % 4096

theorem DmaOp.InPage.pageEnd {d : DmaOp} (h : d.InPage) : d.pageEnd 0 = d.len := by
  obtain ⟨-, hpage⟩ := h
  simp only [DmaOp.pageEnd, d.page_zero]
  omega

theorem DmaOp.InPage.lastPage {d : DmaOp} (h : d.InPage) : d.lastPage = d.host / 4096 := by
  obtain ⟨hlen, hpage⟩ := h
  rw [DmaOp.lastPage]
  omega

/-- Nothing to ask for: the page is translated and no page is missing. -/
theorem State.requestAhead_of_page {s : State} {id : Nat} {e : Entry} {d : DmaOp} (he : s.entry? id = some e) (hin : d.InPage)
    (hhas : s.atcHas e.src (d.host / 4096) d.write = true) : s.requestAhead id d = s := by
  refine State.requestAhead_of_translated he fun pg hfirst hlast => ?_
  have hge : d.host / 4096 ≤ e.nextPage d := Nat.div_le_div_right (Nat.le_add_right _ _)
  rw [hin.lastPage] at hlast
  rwa [show pg = d.host / 4096 by omega]

theorem State.askAgain_of_page {s : State} {id : Nat} {e : Entry} {d : DmaOp} (he : s.entry? id = some e) (hin : d.InPage)
    (hmissing : e.dma.missing = []) (hhas : s.atcHas e.src (d.host / 4096) d.write = true) : s.askAgain id d = s := by
  simp only [State.askAgain, he, State.requestAhead_of_page he hin hhas, State.requestGroup_of_none_missing d he hmissing, ite_self]

theorem State.runDma_of_page {s : State} {id : Nat} {e : Entry} {d : DmaOp} (he : s.entry? id = some e) (hd : s.dmaOp e = some d)
    (hheld : e.dma.held = []) (hin : d.InPage) (hmissing : e.dma.missing = [])
    (hhas : s.atcHas e.src (d.host / 4096) d.write = true) : s.runDma id = (s.pump id (d.len / 4096 + 3)).askAgain id d := by
  rw [State.runDma_eq he hd hheld, State.requestAhead_of_page he hin hhas, State.requestGroup_of_none_missing d he hmissing]

/-- One page of plain bytes, all translated on the store's side, before any has moved. -/
structure Entry.PlainPage (e : Entry) (d : DmaOp) (g : Nat) : Prop where
  plain : d.prefetch = false ∧ d.atomic = false ∧ d.fromBuffer = false
  dma : e.dma = { good := g }
  good : d.len ≤ g
  inPage : d.InPage

/-- The entry while host memory is read for the whole page, and the state then. -/
def Entry.reading (e : Entry) (d : DmaOp) (g : Nat) : Entry := { e with dma := { good := g, issued := d.len, reads := [(0, d.len)] } }
def State.readPage (s : State) (id : Nat) (e : Entry) (d : DmaOp) (g : Nat) : State :=
  ((s.atcTouch e.src (d.host / 4096)).emit (.hostRead e.src d.host d.len)).setEntry id (e.reading d g)

/-- The entry with the page's bytes from the store held, the entry once they are written to host memory, and the state then. -/
def Entry.holding (e : Entry) (d : DmaOp) (g : Nat) (data : List Byte) : Entry :=
  { e with dma := { good := g, issued := d.len, held := data } }
def Entry.wrote (e : Entry) (d : DmaOp) (g : Nat) : Entry :=
  { e with begun := e.begun ||| d.classes, dma := { good := g, issued := d.len, moved := d.len } }
def State.writePage (w : State) (id : Nat) (e : Entry) (d : DmaOp) (g : Nat) : State :=
  ((w.setEntry id (e.holding d g (w.bytes d.rsa d.len))).emit (.hostWrite e.src d.host (w.bytes d.rsa d.len) true)).setEntry id
    (e.wrote d g)

theorem State.pump_reads {s : State} {id g : Nat} {e : Entry} {d : DmaOp} (he : s.entry? id = some e) (hd : s.dmaOp e = some d)
    (h : e.PlainPage d g) (hto : d.toStore = true) (hhas : s.atcHas e.src (d.host / 4096) d.write = true) (k : Nat) :
    s.pump id (k + 1) = (s.readPage id e d g).pump id k := by
  obtain ⟨⟨hpre, hatomic, -⟩, hdma, hgood, hin⟩ := h
  have hlen := hin.nonempty
  have hfault : e.faultAt d 0 = none := Entry.faultAt_none (by rw [hdma]) (by rw [hdma]) (.inl (by rw [hdma]; exact hlen.trans_le hgood))
  have hready : s.pieceReady e d 0 = true := by simpa [State.pieceReady, hatomic, d.page_zero] using hhas
  have hstop : min (d.pageEnd 0) g = d.len := by rw [hin.pageEnd]; omega
  rw [State.pump]
  simp only [he, hd, hdma, hpre, hto, hfault, hready, hstop, Bool.false_eq_true, if_false, if_true, Bool.not_true, Nat.add_zero,
    Nat.sub_zero, d.page_zero, List.nil_append]
  rw [if_neg (by omega), if_neg (by omega), if_neg (by omega)]
  rfl

/-- With its read outstanding the mover waits. -/
theorem State.pump_awaits_read {s : State} {id : Nat} {e : Entry} {d : DmaOp} (he : s.entry? id = some e) (hd : s.dmaOp e = some d)
    (hpre : d.prefetch = false) (hmoved : e.dma.moved < d.len) (hissued : e.dma.issued = d.len) (hmissing : e.dma.missing = [])
    (hfail : e.dma.fail = none) (k : Nat) : s.pump id k = s := by
  cases k with
  | zero => rfl
  | succ k =>
    rw [State.pump]
    simp only [he, hd, hpre, hissued, Entry.faultAt_none hfail hmissing (.inr (le_refl d.len)), Bool.false_eq_true, if_false]
    rw [if_neg (by omega), if_pos (le_refl _)]

/-- At the end of the range everything held goes to host memory (R157). -/
theorem State.flush_holding {s : State} {id g : Nat} {e : Entry} {d : DmaOp} {data : List Byte}
    (he : s.entry? id = some (e.holding d g data)) (hto : d.toStore = false) (hdata : data.length = d.len) (hlen : 0 < d.len) :
    s.flush id d = ((s.emit (.hostWrite e.src d.host data true)).setEntry id (e.wrote d g), true) := by
  have he' : (s.emit (.hostWrite e.src d.host data true)).entry? id = some (e.holding d g data) := he
  have hheld : (e.holding d g data).dma = { good := g, issued := d.len, held := data } := rfl
  have hsrc : (e.holding d g data).src = e.src := rfl
  simp only [State.flush, he, hheld, hsrc, hdata, Nat.zero_add, ge_iff_le, le_refl, if_true, hto, Bool.false_eq_true, if_false,
    Nat.add_zero, List.take_of_length_le hdata.le, List.drop_of_length_le hdata.le, State.modEntry_eq he']
  rw [if_neg (by omega)]
  rfl

/-- Bytes that the store gives for the page go to host memory. -/
theorem State.pump_writes {s u w : State} {id g : Nat} {e : Entry} {d : DmaOp} (he : s.entry? id = some e) (hd : s.dmaOp e = some d)
    (h : e.PlainPage d g) (hto : d.toStore = false) (hhas : s.atcHas e.src (d.host / 4096) d.write = true)
    (hprep : (s.atcTouch e.src (d.host / 4096)).prepare id (granulesOf d.rsa d.len) [] = (u, false))
    (hread : ((u.accessFor false (pagesOf d.rsa d.len)).dropFetched id).checkReads (granulesOf d.rsa d.len) = (w, none))
    (hw : w.entry? id = some e) (k : Nat) : s.pump id (k + 1) = (w.writePage id e d g).pump id k := by
  obtain ⟨⟨hpre, hatomic, hbuf⟩, hdma, hgood, hin⟩ := h
  have hlen := hin.nonempty
  have hfault : e.faultAt d 0 = none := Entry.faultAt_none (by rw [hdma]) (by rw [hdma]) (.inl (by rw [hdma]; exact hlen.trans_le hgood))
  have hready : s.pieceReady e d 0 = true := by simpa [State.pieceReady, hatomic, d.page_zero] using hhas
  have hstop : min (d.pageEnd 0) g = d.len := by rw [hin.pageEnd]; omega
  have hflush := State.flush_holding (State.entry?_setEntry_same w id (e.holding d g (w.bytes d.rsa d.len))) hto
    (by simp [State.bytes, Memory.getBytes]) hlen
  rw [State.pump]
  simp only [he, hd, hdma, hpre, hto, hbuf, hfault, hready, hstop, Bool.false_eq_true, if_false, Bool.not_true, Nat.add_zero,
    Nat.sub_zero, d.page_zero]
  rw [if_neg (by omega), if_neg (by omega), if_neg (by omega)]
  simp only [hprep, hread, State.modEntry_eq hw, hdma, List.nil_append]
  exact congrArg (fun x : State × Bool => x.1.pump id k) hflush

/-- All bytes have moved. -/
theorem State.pump_done {s : State} {id : Nat} {e : Entry} {d : DmaOp} (he : s.entry? id = some e) (hd : s.dmaOp e = some d)
    (hpre : d.prefetch = false) (hmoved : d.len ≤ e.dma.moved) (k : Nat) : s.pump id (k + 1) = s.endDma id d := by
  rw [State.pump]
  simp only [he, hd, hpre, Bool.false_eq_true, if_false]
  exact if_pos hmoved

/-- A command that moves the bytes of its packet reports them; one whose own output moves has its outcome. -/
theorem DmaOp.report_eq {d : DmaOp} (h : d.fromBuffer = false) (e : Entry) (o : Outcome) : d.report e o = e.progress o := by
  simp [DmaOp.report, h]

theorem State.endDma_eq {s : State} {id : Nat} {e : Entry} {d : DmaOp} (he : s.entry? id = some e) (hbuf : d.fromBuffer = false) :
    s.endDma id d = s.conclude id (!d.prefetch && s.homesPart d.rsa d.len) (if d.prefetch then 0 else d.classes) e.progress := by
  simp only [State.endDma, he, hbuf, Bool.false_eq_true, if_false]
  exact congrArg _ (funext (DmaOp.report_eq hbuf e))

/-! ### PREFETCH_HOST (R167) -/

/-- A page that is held counts as moved. -/
def Entry.prefetched (e : Entry) : Entry := { e with dma := { moved := 1 } }

theorem State.pump_prefetches {s : State} {id : Nat} {e : Entry} {d : DmaOp} (he : s.entry? id = some e) (hd : s.dmaOp e = some d)
    (hpre : d.prefetch = true) (hdma : e.dma = {}) (hlen : 0 < d.len) (hhas : s.atcHas e.src (d.host / 4096) d.write = true) (k : Nat) :
    s.pump id (k + 1) = ((s.atcTouch e.src (d.host / 4096)).setEntry id e.prefetched).pump id k := by
  have hle : d.host / 4096 ≤ (d.host + d.len - 1) / 4096 := Nat.div_le_div_right (by omega)
  rw [State.pump]
  simp only [he, hd, hpre, hdma, if_true, Nat.add_zero, d.page_zero, hhas, Nat.zero_add]
  rw [if_neg (by omega)]
  rfl

/-- Past the last page the command ends. -/
theorem State.pump_prefetched {s : State} {id : Nat} {e : Entry} {d : DmaOp} (he : s.entry? id = some e.prefetched)
    (hd : s.dmaOp e.prefetched = some d) (hpre : d.prefetch = true) (hin : d.InPage) (k : Nat) :
    s.pump id (k + 1) = s.endDma id d := by
  have hlast : (d.host + d.len - 1) / 4096 = d.host / 4096 := hin.lastPage
  have hmoved : e.prefetched.dma.moved = 1 := rfl
  rw [State.pump]
  simp only [he, hd, hpre, hmoved, if_true, d.page_zero, hlast]
  exact if_pos (by omega)

/-! ### The end at a fault (R160) -/

theorem State.logFault_only (s : State) (src sub : Nat) (host : Bool) (addr : Nat) :
    Frame [.regs, .msix, .out] s (s.logFault src sub host addr) :=
  (State.logFault_keeps s src sub host addr (by decide) (Kept.refl _ _)).only

/-- A command whose mover faults ends with the fault, and reports what it has moved. -/
theorem State.endFault_ended {s : State} {id : Nat} {e : Entry} (he : s.entry? id = some e) (hcore : s.NoCoreFor id) (d : DmaOp)
    (sub : Nat) (host : Bool) (off : Nat) : (s.endFault id d St.xltFault sub host off).Ended id
      { d.report e e.out with status := St.xltFault, subcode := sub, absent := d.absent } := by
  generalize hs1 : s.logFault e.src sub host ((if host then d.host else d.rsa) + off) = s1
  have hframe : Frame [.regs, .msix, .out] s s1 := hs1 ▸ s.logFault_only _ _ _ _
  have hentries : s1.cmdq.entries = s.cmdq.entries := hframe .entries (by simp)
  have hcores : s1.core = s.core := hframe .core (by simp)
  have he1 : (s1.withdraw id).entry? id = some e := by
    rw [State.withdraw_entry? s1 (by simpa only [State.NoCoreFor, hcores] using hcore), State.entry?, hentries]
    exact he
  simp only [State.endFault, he, if_true, hs1]
  exact State.finish_ended (State.entry?_modEntry he1 _) _

/-! ### What a mover reports (R165) -/

theorem Entry.progress_bytes {e : Entry} (h : pkOpcode e.packet = 0x01 ∨ pkOpcode e.packet = 0x02) (o : Outcome) :
    e.progress o = { o with result0 := xpHost e.packet + e.dma.moved, countDone := e.dma.moved, countAux := e.dma.requests } := by
  rcases h with h | h <;> simp only [Entry.progress, h]

theorem Entry.progress_pages {e : Entry} (h : pkOpcode e.packet = 0x08) (o : Outcome) :
    e.progress o = { o with result0 := (xpHost e.packet / 4096 + e.dma.moved) * 4096, countDone := e.dma.moved
                            countAux := e.dma.requests } := by
  simp only [Entry.progress, h]

/-- What HOST_TO_STORE, STORE_TO_HOST and PREFETCH_HOST move. -/
def DmaOp.ofRead (p : Packet) : DmaOp :=
  { host := xpHost p, rsa := xpStore p, len := xpLen p, toStore := true, tile := xpTile p, atomic := xpAtomicTile p
    noPri := xpNoPri p, mig := false, write := false }
def DmaOp.ofWrite (p : Packet) : DmaOp := { DmaOp.ofRead p with toStore := false, write := true }
def DmaOp.ofPrefetch (p : Packet) : DmaOp :=
  { host := xpHost p, rsa := 0, len := xpLen p, toStore := false, tile := 12, atomic := false, noPri := xpNoPri p, mig := false
    prefetch := true, write := xpWriteIntent p }

theorem State.dmaOp_read (s : State) {e : Entry} (hop : pkOpcode e.packet = 0x01) (hbuffer : e.buffer = none) :
    s.dmaOp e = some (.ofRead e.packet) := by
  simp only [State.dmaOp, hbuffer, hop]
  rfl

theorem State.dmaOp_write (s : State) {e : Entry} (hop : pkOpcode e.packet = 0x02) (hbuffer : e.buffer = none) :
    s.dmaOp e = some (.ofWrite e.packet) := by
  simp only [State.dmaOp, hbuffer, hop]
  rfl

theorem State.dmaOp_prefetch (s : State) {e : Entry} (hop : pkOpcode e.packet = 0x08) (hbuffer : e.buffer = none) :
    s.dmaOp e = some (.ofPrefetch e.packet) := by
  simp only [State.dmaOp, hbuffer, hop]
  rfl

end Sys2Proof.Machine
end

section
/-!
STORE_COPY and ADVISE, and what the opcodes of R162 to R168 do.
-/
namespace Sys2Proof.Machine

open Sys2Proof

/-! ### STORE_COPY (R166) -/

/-- Every byte of the source has been read before a byte of the destination is written. -/
theorem exec_storeCopy {s u w y : State} {id a b n : Nat} {e : Entry} {data : List Byte} (h : s.runnableStore id 0x03 = some e)
    (ha : a = xpSrcRsa e.packet) (hb : b = xpStore e.packet) (hn : n = xpLen e.packet)
    (hprep : s.prepare id (granulesOf a n) (granulesOf b n) = (u, false))
    (hread : ((u.accessFor false (pagesOf a n)).dropFetched id).readStore a n = (w, .ok data))
    (hwrite : (w.accessFor true (pagesOf b n)).writeStore b data = (y, none)) :
    exec (.storeCopy id) s = .next (y.conclude id ((w.accessFor true (pagesOf b n)).homesPart a n ||
      (w.accessFor true (pagesOf b n)).homesPart b n) 1 fun o => { o with result0 := b + n, countDone := n }) := by
  subst ha hb hn
  show execStoreCopy id s = _
  simp only [execStoreCopy, h, hprep, hread, hwrite]

/-! ### ADVISE (R168) -/

/-- One page is advised; a raise advised to a page below its ceiling is queued. -/
def State.advisePage (code : Nat) (s : State) (pg : Nat) : State :=
  let s := s.setPage pg { s.page pg with advice := code }
  let top := (s.slab (pg * 4096)).ceiling
  if code = 1 && !(s.standsIn pg).atLeast top then s.queueRaise pg top else s

/-- The pages of the range that are homed here. -/
def State.advisedHere (s : State) (first n : Nat) : List Nat :=
  ((List.range n).map (first + ·)).filter fun pg => s.isHome (pg * 4096)

theorem exec_advise {s : State} {id : Nat} {e : Entry} (h : s.runnableStore id 0x09 = some e) : ∃ homes, exec (.advise id) s =
    .next (((s.advisedHere (xpStore e.packet / 4096) (xpLen e.packet)).foldl (State.advisePage (xpAdvice e.packet)) s).dispatch id homes
      128 fun o => { o with
        countDone := o.countDone + (s.advisedHere (xpStore e.packet / 4096) (xpLen e.packet)).length }) := by
  refine ⟨((List.range (xpLen e.packet)).map (xpStore e.packet / 4096 + ·)).foldl (fun l pg => addNew l (s.homeOf (pg * 4096))) [], ?_⟩
  show execAdvise id s = _
  simp only [execAdvise, h]
  rfl

theorem State.mem_advisedHere {s : State} {first n p : Nat} :
    p ∈ s.advisedHere first n ↔ (first ≤ p ∧ p < first + n) ∧ s.isHome (p * 4096) = true := by
  simp only [State.advisedHere, List.mem_filter, List.mem_map, List.mem_range]
  refine and_congr_left fun _ => ⟨?_, fun ⟨h1, h2⟩ => ⟨p - first, by omega, by omega⟩⟩
  rintro ⟨i, hi, rfl⟩
  omega

theorem State.length_advisedHere (s : State) (first n : Nat) :
    (s.advisedHere first n).length = ((List.range n).filter fun i => s.isHome ((first + i) * 4096)).length := by
  rw [State.advisedHere, List.filter_map, List.length_map]
  rfl

theorem State.queueRaise_pages (s : State) (pg : Nat) (t : Tier) : (s.queueRaise pg t).store.pages = s.store.pages := by
  unfold State.queueRaise
  split <;> simp

theorem State.page_setPage (s : State) (pg p : Nat) (x : PageRec) : (s.setPage pg x).page p = if p = pg then x else s.page p := by
  simp only [State.page, State.setPage, Tab.getD_set]

theorem State.page_advisePage (code : Nat) (s : State) (pg p : Nat) :
    (s.advisePage code pg).page p = if p = pg then { s.page p with advice := code } else s.page p := by
  have hset : (s.setPage pg { s.page pg with advice := code }).page p =
      if p = pg then { s.page p with advice := code } else s.page p := by
    rw [State.page_setPage]
    split
    · next h => rw [h]
    · rfl
  rw [← hset, State.advisePage]
  dsimp only
  split
  · simp only [State.page, State.queueRaise_pages]
  · rfl

theorem State.advisePage_only (code : Nat) (s : State) (pg : Nat) : Frame [.regs, .out, .store, .msix] s (s.advisePage code pg) := by
  unfold State.advisePage
  dsimp only
  split
  · exact (State.queueRaise_keeps _ _ _ (by decide) (State.setPage_keeps _ _ _ (by decide) (Kept.refl _ _))).only
  · exact (State.setPage_keeps _ _ _ (by decide) (Kept.refl _ _)).only

theorem State.foldl_advisePage_only (code : Nat) (l : List Nat) (s : State) :
    Frame [.regs, .out, .store, .msix] s (l.foldl (State.advisePage code) s) := by
  induction l generalizing s with
  | nil => exact .refl _ _
  | cons pg l ih => exact (s.advisePage_only code pg).trans (ih _)

/-- Exactly the pages of the list take the code. -/
theorem State.page_foldl_advisePage (code : Nat) (l : List Nat) (s : State) (p : Nat) :
    (l.foldl (State.advisePage code) s).page p = if p ∈ l then { s.page p with advice := code } else s.page p := by
  induction l generalizing s with
  | nil => simp
  | cons pg l ih =>
    rw [List.foldl_cons, ih, State.page_advisePage]
    by_cases hp : p = pg <;> by_cases hl : p ∈ l <;> simp [hp, hl]

/-! ### Parts of a command at other homes (R34) -/

/-- What is sent for a command adds to its items alone. -/
theorem State.sendPhase_entry {s : State} {id m classes : Nat} {whole : Bool} {e : Entry} (he : s.entry? id = some e) :
    ∃ l, (s.sendPhase id m classes whole).entry? id = some { e with items := l } := by
  have hsent : ∀ (u : State) (i : Item), u.entry? id = some e → ∃ l, (u.addItem (some id) i).entry? id = some { e with items := l } :=
    fun u i hu => ⟨_, State.entry?_modEntry hu _⟩
  simp only [State.sendPhase, he]
  exact hsent _ _ he

theorem State.sendParts_entry {s : State} {id classes : Nat} {e : Entry} (members : List Nat) (he : s.entry? id = some e) :
    ∃ l, (s.sendParts id members classes).entry? id = some { e with items := l } := by
  have hfold : ∀ (ms : List Nat) (u : State), (∃ l, u.entry? id = some { e with items := l }) →
      ∃ l, (ms.foldl (fun (s : State) m => s.sendPhase id m classes false) u).entry? id = some { e with items := l } := by
    intro ms
    induction ms with
    | nil => exact fun _ h => h
    | cons m ms ih =>
      rintro u ⟨l, hl⟩
      obtain ⟨l', hl'⟩ := State.sendPhase_entry (m := m) (classes := classes) (whole := false) hl
      exact ih _ ⟨l', hl'⟩
  exact hfold _ s ⟨e.items, he⟩

theorem State.dispatch_store (s : State) (id : Nat) (homes : List Nat) (classes : Nat) (f : Outcome → Outcome) :
    (s.dispatch id homes classes f).store = s.store :=
  (State.dispatch_keeps (m := partsMask [.out, .rack, .entries]) s id homes classes f (by decide) (Kept.refl _ _)).only.store_eq
    (by simp) (by simp)

theorem State.dispatch_out {s : State} {id classes : Nat} {e : Entry} (he : s.entry? id = some e) (homes : List Nat)
    (f : Outcome → Outcome) :
    ∃ x, (s.dispatch id homes classes f).entry? id = some x ∧ ∃ n, x.out = { f e.out with homes := n } := by
  obtain ⟨l, hl⟩ := State.sendParts_entry (classes := classes) homes he
  obtain ⟨x, hx, hout⟩ := State.conclude_out hl (homes.contains s.sys.member) classes f
  exact ⟨x, hx, _, hout⟩

/-! ### The rows -/

theorem exec_nop {s : State} {id : Nat} {e : Entry} (h : s.runnable id 0x00 = some e) :
    exec (.nop id) s = .next (s.conclude id false 0 fun o => o) := by
  show execNop id s = _
  simp only [execNop, h]
  rfl

theorem exec_hostToStore {s : State} (hup : s.storeUp = true) (id : Nat) : exec (.hostToStore id) s = s.dmaRow id 0x01 := by
  show execHostToStore id s = _
  rw [execHostToStore, if_pos hup]

theorem exec_storeToHost {s : State} (hup : s.storeUp = true) (id : Nat) : exec (.storeToHost id) s = s.dmaRow id 0x02 := by
  show execStoreToHost id s = _
  rw [execStoreToHost, if_pos hup]

theorem exec_prefetchHost (s : State) (id : Nat) : exec (.prefetchHost id) s = s.dmaRow id 0x08 := rfl

/-- HOST_TO_STORE of one translated page issues its read (R155, R157). -/
theorem State.startDma_reads {s : State} {id g : Nat} {e : Entry} (he : s.entry? id = some e) (hop : pkOpcode e.packet = 0x01)
    (hbuffer : e.buffer = none) (hats : (s.source e.src).atsEnabled = true) (h : e.PlainPage (.ofRead e.packet) g)
    (hhas : s.atcHas e.src (xpHost e.packet / 4096) false = true) :
    s.startDma id = (s.setEntry id e.under).readPage id e.under (.ofRead e.packet) g := by
  generalize hs1 : s.setEntry id e.under = s1
  have he1 : s1.entry? id = some e.under := hs1 ▸ State.entry?_setEntry_same _ _ _
  have hd1 : s1.dmaOp e.under = some (.ofRead e.packet) := State.dmaOp_read _ hop hbuffer
  have h1 : e.under.PlainPage (.ofRead e.packet) g := { h with }
  have hhas1 : s1.atcHas e.src (xpHost e.packet / 4096) false = true := hs1 ▸ hhas
  generalize hs2 : s1.readPage id e.under (.ofRead e.packet) g = s2
  have he2 : s2.entry? id = some (e.under.reading (.ofRead e.packet) g) := hs2 ▸ State.entry?_setEntry_same _ _ _
  have hd2 : s2.dmaOp (e.under.reading (.ofRead e.packet) g) = some (.ofRead e.packet) := State.dmaOp_read _ hop hbuffer
  have hhas2 : s2.atcHas e.src (xpHost e.packet / 4096) false = true := hs2 ▸ (s1.atcHas_atcTouch _ _ _ _ _).trans hhas1
  rw [State.startDma_eq he (s.dmaOp_read hop hbuffer), if_pos hats, hs1,
    State.runDma_of_page he1 hd1 (by rw [h1.dma]) h.inPage (by rw [h1.dma]) hhas1, State.pump_reads he1 hd1 h1 rfl hhas1, hs2,
    State.pump_awaits_read he2 hd2 rfl h.inPage.nonempty rfl rfl rfl, State.askAgain_of_page he2 h.inPage rfl hhas2]

/-- PREFETCH_HOST of one page that is held ends with it (R167). -/
theorem State.startDma_prefetched {s : State} {id : Nat} {e : Entry} (he : s.entry? id = some e) (hop : pkOpcode e.packet = 0x08)
    (hbuffer : e.buffer = none) (hats : (s.source e.src).atsEnabled = true) (hdma : e.dma = {}) (hitems : e.items = [])
    (hin : (DmaOp.ofPrefetch e.packet).InPage)
    (hhas : s.atcHas e.src (xpHost e.packet / 4096) (xpWriteIntent e.packet) = true) :
    (s.startDma id).out = s.out ∧ (s.startDma id).store = s.store ∧ (s.startDma id).Ended id { e.out with
      result0 := (xpHost e.packet / 4096 + 1) * 4096, countDone := 1, countAux := 0 } := by
  generalize hs1 : s.setEntry id e.under = s1
  have he1 : s1.entry? id = some e.under := hs1 ▸ State.entry?_setEntry_same _ _ _
  have hd1 : s1.dmaOp e.under = some (.ofPrefetch e.packet) := State.dmaOp_prefetch _ hop hbuffer
  have hdma1 : e.under.dma = {} := hdma
  have hhas1 : s1.atcHas e.src (xpHost e.packet / 4096) (xpWriteIntent e.packet) = true := hs1 ▸ hhas
  generalize hs2 : (s1.atcTouch e.src (xpHost e.packet / 4096)).setEntry id e.under.prefetched = s2
  have he2 : s2.entry? id = some e.under.prefetched := hs2 ▸ State.entry?_setEntry_same _ _ _
  have hd2 : s2.dmaOp e.under.prefetched = some (.ofPrefetch e.packet) := State.dmaOp_prefetch _ hop hbuffer
  have hop2 : pkOpcode e.under.prefetched.packet = 0x08 := hop
  have hended : (s2.endDma id (.ofPrefetch e.packet)).Ended id { e.out with
      result0 := (xpHost e.packet / 4096 + 1) * 4096, countDone := 1, countAux := 0 } := by
    rw [State.endDma_eq he2 rfl]
    refine (State.conclude_ended he2 hitems _ _ _).trans ?_
    rw [Entry.progress_pages hop2]
    rfl
  have hstay : (s2.endDma id (.ofPrefetch e.packet)).askAgain id (.ofPrefetch e.packet) = s2.endDma id (.ofPrefetch e.packet) := by
    obtain ⟨x, hx, hphase⟩ := Option.map_eq_some_iff.mp hended
    simp only [State.askAgain, hx, (Prod.mk.inj hphase).1]
    rfl
  have hrun : s.startDma id = s2.endDma id (.ofPrefetch e.packet) := by
    rw [State.startDma_eq he (s.dmaOp_prefetch hop hbuffer), if_pos hats, hs1,
      State.runDma_of_page he1 hd1 (by rw [hdma1]) hin (by rw [hdma1]) hhas1,
      State.pump_prefetches he1 hd1 rfl hdma1 hin.nonempty hhas1]
    exact (congrArg (State.askAgain · id _) (hs2 ▸ State.pump_prefetched he2 hd2 rfl hin _)).trans hstay
  have hkept : (s2.endDma id (.ofPrefetch e.packet)).out = s2.out ∧ (s2.endDma id (.ofPrefetch e.packet)).store = s2.store := by
    rw [State.endDma_eq he2 rfl]
    exact ⟨rfl, rfl⟩
  obtain ⟨hout, hstore⟩ := hkept
  rw [hrun]
  refine ⟨hout.trans ?_, hstore.trans ?_, hended⟩ <;> rw [← hs2, ← hs1]
  · exact State.atcTouch_out _ _ _
  · exact State.atcTouch_store _ _ _

/-- STORE_TO_HOST of one page writes the bytes that the store gave (R157, R165). -/
theorem State.runDma_writes {s u w : State} {id g : Nat} {e : Entry} {d : DmaOp} (he : s.entry? id = some e)
    (hop : pkOpcode e.packet = 0x02) (hbuffer : e.buffer = none) (hd : d = .ofWrite e.packet) (h : e.PlainPage d g)
    (hhas : s.atcHas e.src (d.host / 4096) d.write = true)
    (hprep : (s.atcTouch e.src (d.host / 4096)).prepare id (granulesOf d.rsa d.len) [] = (u, false))
    (hread : ((u.accessFor false (pagesOf d.rsa d.len)).dropFetched id).checkReads (granulesOf d.rsa d.len) = (w, none))
    (hw : w.entry? id = some e) :
    .hostWrite e.src d.host (w.bytes d.rsa d.len) true ∈ (s.runDma id).out ∧
      ((s.runDma id).entry? id).map (fun x => (x.out.result0, x.out.countDone)) = some (d.host + d.len, d.len) ∧
      (s.runDma id).store = w.store := by
  have hd0 : s.dmaOp e = some d := hd ▸ s.dmaOp_write hop hbuffer
  have hto : d.toStore = false := by rw [hd]; rfl
  obtain ⟨hpre, -, hbuf⟩ := h.plain
  generalize hv : w.writePage id e d g = v
  have hve : v.entry? id = some (e.wrote d g) := hv ▸ State.entry?_setEntry_same _ _ _
  have hvd : v.dmaOp (e.wrote d g) = some d := hd ▸ v.dmaOp_write (e := e.wrote d g) hop hbuffer
  have hrun : s.runDma id = (v.endDma id d).askAgain id d := by
    rw [State.runDma_of_page he hd0 (by rw [h.dma]) h.inPage (by rw [h.dma]) hhas,
      State.pump_writes he hd0 h hto hhas hprep hread hw, hv, State.pump_done hve hvd hpre (le_refl _)]
  have hend := State.endDma_eq hve hbuf
  obtain ⟨x, hx, hout⟩ := State.conclude_out hve (!d.prefetch && v.homesPart d.rsa d.len) (if d.prefetch then 0 else d.classes)
    (e.wrote d g).progress
  rw [← hend] at hx
  obtain ⟨y, hy⟩ := State.askAgain_entry d hx
  have hop2 : pkOpcode (e.wrote d g).packet = 0x02 := hop
  rw [hrun]
  refine ⟨State.askAgain_out _ _ _ ?_, ?_, ?_⟩
  · rw [hend, ← hv]
    exact List.mem_append_right _ (List.mem_singleton_self _)
  · rw [hy, Option.map_some]
    simp only [hout]
    rw [Entry.progress_bytes (.inr hop2), hd]
    rfl
  · rw [(State.askAgain_only _ _ _).store_eq (by simp) (by simp), hend, ← hv]
    rfl

/-! ### The statement -/

/-- Settles O21: a mover inside one page by whether its page is translated, PREFETCH_HOST by whether the page is held, STORE_COPY by its
read before its write, ADVISE page by page. -/
theorem movesAndCopies : Obligations.MovesAndCopies := by
  unfold Obligations.MovesAndCopies
  refine ⟨?nop, ?read, ?noAts, ?write, ?held, ?asked, ?copy, ?advise⟩
  case nop =>
    intro s id e hrun hitems
    exact ⟨_, exec_nop hrun, State.conclude_ended (State.runnable_spec hrun).1 hitems _ _ _, s.modEntry_only id _⟩
  case read =>
    intro s id e d hup hrun hbuffer hd hstarted hats hatomic hdma hgood hlen hpage hhas
    obtain ⟨he, hop, hphase⟩ := State.resumable_spec hrun
    obtain rfl := Option.some.inj ((s.dmaOp_read hop hbuffer).symm.trans hd)
    refine ⟨_, (exec_hostToStore hup id).trans (State.dmaRow_start hrun hstarted), ?_⟩
    rw [State.startDma_reads he hop hbuffer hats ⟨⟨rfl, hatomic, rfl⟩, hdma, hgood, hlen, hpage⟩ hhas]
    refine ⟨congrArg (· ++ _) (State.atcTouch_out _ _ _), State.atcTouch_store _ _ _, ?_⟩
    rw [State.readPage, State.entry?_setEntry_same, Option.map_some]
    exact congrArg (fun p => some (p, _)) hphase
  case noAts =>
    intro s id e d hup hrun hbuffer hd hstarted hats hmoved hcore
    obtain ⟨he, hop, -⟩ := State.resumable_spec hrun
    obtain rfl := Option.some.inj ((s.dmaOp_read hop hbuffer).symm.trans hd)
    refine ⟨_, (exec_hostToStore hup id).trans (State.dmaRow_start hrun hstarted), ?_⟩
    rw [State.startDma_eq he hd, if_neg (by simp [hats])]
    refine (State.endFault_ended (State.entry?_setEntry_same s id e.under) hcore _ _ _ _).trans ?_
    have hop1 : pkOpcode e.under.packet = 0x01 := hop
    rw [DmaOp.report_eq rfl, Entry.progress_bytes (.inl hop1)]
    simp only [Entry.under, hmoved, Nat.add_zero]
    rfl
  case write =>
    intro s u w id e d hup hrun hbuffer hd hstarted hatomic hdma hgood hlen hpage hhas hprep hread hw
    obtain ⟨he, hop, -⟩ := State.resumable_spec hrun
    obtain rfl := Option.some.inj ((s.dmaOp_write hop hbuffer).symm.trans hd)
    obtain ⟨hout, hreport, hstore⟩ := State.runDma_writes he hop hbuffer rfl
      ⟨⟨rfl, hatomic, rfl⟩, hdma, hgood, hlen, hpage⟩ hhas hprep hread hw
    exact ⟨_, (exec_storeToHost hup id).trans (State.dmaRow_goOn hrun hstarted), hout, hreport, congrArg StoreState.mem hstore⟩
  case held =>
    intro s id e d hrun hbuffer hd hstarted hats hdma hitems hlen hpage hhas
    obtain ⟨he, hop, -⟩ := State.resumable_spec hrun
    obtain rfl := Option.some.inj ((s.dmaOp_prefetch hop hbuffer).symm.trans hd)
    exact ⟨_, (exec_prefetchHost s id).trans (State.dmaRow_start hrun hstarted),
      State.startDma_prefetched he hop hbuffer hats hdma hitems ⟨hlen, hpage⟩ hhas⟩
  case asked =>
    intro s id e d hrun hbuffer hd hstarted hats hdma hlen hroom hno
    obtain ⟨he, hop, -⟩ := State.resumable_spec hrun
    obtain rfl := Option.some.inj ((s.dmaOp_prefetch hop hbuffer).symm.trans hd)
    have hfresh : e.Fresh (.ofPrefetch e.packet) :=
      { moved := by rw [hdma], issued := by rw [hdma], held := by rw [hdma], missing := by rw [hdma], fail := by rw [hdma]
        good := .inl rfl, len := hlen }
    obtain ⟨hout, hstore, -⟩ := State.startDma_asks he hd hats hfresh (by rw [hdma]) hroom hno
    exact ⟨_, (exec_prefetchHost s id).trans (State.dmaRow_start hrun hstarted), hout, hstore⟩
  case copy =>
    rintro s u w x y id a b n e e' data hrun ha hb hn hprep hread rfl hwrite he' hitems
    refine ⟨_, exec_storeCopy hrun ha hb hn hprep hread hwrite, rfl, rfl, ?_⟩
    refine (State.conclude_ended he' hitems _ _ _).trans ?_
    split <;> rfl
  case advise =>
    rintro s id n e hrun rfl
    obtain ⟨homes, hexec⟩ := exec_advise hrun
    generalize hu : (s.advisedHere (xpStore e.packet / 4096) (xpLen e.packet)).foldl (State.advisePage (xpAdvice e.packet)) s = u at hexec
    have hframe : Frame [.regs, .out, .store, .msix] s u := hu ▸ State.foldl_advisePage_only _ _ _
    have hue : u.entry? id = some e :=
      (congrArg (fun t : Tab Entry => t.find? id) (hframe .entries (by simp))).trans (State.runnableStore_entry hrun)
    have hpage (f : Outcome → Outcome) (p : Nat) : (u.dispatch id homes 128 f).page p =
        if p ∈ s.advisedHere (xpStore e.packet / 4096) (xpLen e.packet) then { s.page p with advice := xpAdvice e.packet }
        else s.page p := by
      rw [State.page, State.dispatch_store, ← State.page_foldl_advisePage, hu]
      rfl
    refine ⟨_, hexec, ?_, ?_, fun p hge hlt hhome => ?_, fun p hnot => ?_⟩
    · exact (congrArg StoreState.mem (State.dispatch_store _ _ _ _ _)).trans (hframe .mem (by simp))
    · obtain ⟨x, hx, k, hout⟩ := State.dispatch_out (classes := 128) hue homes fun o => { o with
        countDone := o.countDone + (s.advisedHere (xpStore e.packet / 4096) (xpLen e.packet)).length }
      rw [hx, Option.map_some, hout, State.length_advisedHere]
    · rw [hpage, if_pos (State.mem_advisedHere.mpr ⟨⟨hge, hlt⟩, hhome⟩)]
    · rw [hpage, if_neg]
      rw [State.mem_advisedHere]
      rintro ⟨⟨hge, hlt⟩, hhome⟩
      rcases hnot with h | h | h
      · omega
      · omega
      · rw [h] at hhome
        cases hhome

end Sys2Proof.Machine
end

section
/-!
What a command sends to other members and what that leaves of its entry (R34, R82); operations that overwrite what their operands name.
-/
namespace Sys2Proof.Machine

open Sys2Proof

/-! ### Items of a command (R34, R511) -/

/-- The rack's state less the items that are away. -/
def RackState.unsent (x : RackState) : RackState := { x with nextItem := 0, away := {} }

@[simp] theorem State.addItem_rack (s : State) (owner : Option Nat) (i : Item) : (s.addItem owner i).rack = s.rack := by
  cases owner <;> rfl

@[simp] theorem State.addItem_store (s : State) (owner : Option Nat) (i : Item) : (s.addItem owner i).store = s.store := by
  cases owner <;> rfl

@[simp] theorem State.sendItem_store (s : State) (x : Away) (n : Nat) : (s.sendItem x n).store = s.store := by
  simp [State.sendItem]

@[simp] theorem State.sendItem_unsent (s : State) (x : Away) (n : Nat) : (s.sendItem x n).rack.unsent = s.rack.unsent := by
  simp [State.sendItem, RackState.unsent]

/-- An item of a command is added to those its entry awaits. -/
theorem State.sendItem_entry {s : State} {id n : Nat} {e : Entry} {x : Away} (howner : x.owner = some id) (he : s.entry? id = some e) :
    (s.sendItem x n).entry? id =
      some { e with items := e.items ++ [{ home := x.home, id := s.rack.nextItem, classes := n, begun := false }] } := by
  simp only [State.sendItem, howner, State.addItem]
  exact State.entry?_modEntry he _

/-- Of items sent one to each member of a list the entry awaits one from each. -/
theorem State.foldl_sendItem_entry {id n : Nat} {x : State → Nat → Away} (howner : ∀ s m, (x s m).owner = some id)
    (hhome : ∀ s m, (x s m).home = m) (ms : List Nat) {s : State} {e : Entry} (he : s.entry? id = some e) :
    ∃ l, (ms.foldl (fun s m => s.sendItem (x s m) n) s).entry? id = some { e with items := e.items ++ l } ∧ l.map Item.home = ms := by
  induction ms generalizing s e with
  | nil => exact ⟨[], by simpa using he, rfl⟩
  | cons m ms ih =>
    obtain ⟨l, hl, hhomes⟩ := ih (State.sendItem_entry (n := n) (howner s m) he)
    exact ⟨_ :: l, by simpa using hl, by simp [hhomes, hhome]⟩

@[simp] theorem State.sendPhase_unsent (s : State) (id m classes : Nat) (whole : Bool) :
    (s.sendPhase id m classes whole).rack.unsent = s.rack.unsent := by
  unfold State.sendPhase
  split
  · rfl
  · exact State.sendItem_unsent _ _ _

@[simp] theorem State.dispatch_unsent (s : State) (id : Nat) (homes : List Nat) (classes : Nat) (f : Outcome → Outcome) :
    (s.dispatch id homes classes f).rack.unsent = s.rack.unsent :=
  foldl_keeps (fun s : State => s.rack.unsent) _ (fun _ _ => State.sendPhase_unsent _ _ _ _ _) _ s

@[simp] theorem State.dispatch_regs (s : State) (id : Nat) (homes : List Nat) (classes : Nat) (f : Outcome → Outcome) :
    (s.dispatch id homes classes f).regs = s.regs :=
  (State.dispatch_keeps (m := partsMask [.out, .rack, .entries]) s id homes classes f (by decide) (Kept.refl _ _)).only .regs (by simp)

/-- A command whose part here is done has been started, and reports its outcome so far. -/
theorem State.dispatch_started {s : State} {id classes : Nat} {e : Entry} (he : s.entry? id = some e) (homes : List Nat)
    (f : Outcome → Outcome) :
    ∃ x, (s.dispatch id homes classes f).entry? id = some x ∧ x.started = true ∧ ∃ n, x.out = { f e.out with homes := n } := by
  obtain ⟨l, hl⟩ := State.sendParts_entry (classes := classes) homes he
  exact ⟨_, State.entry?_modEntry hl _, rfl, _, rfl⟩

/-- Nothing is sent of a command that this member performs alone: it ends. -/
theorem State.dispatch_ended {s : State} {id : Nat} {e : Entry} {homes : List Nat} (he : s.entry? id = some e) (hitems : e.items = [])
    (hhomes : ∀ m ∈ homes, m = s.sys.member) (classes : Nat) (f : Outcome → Outcome) :
    ∃ n, (s.dispatch id homes classes f).Ended id { f e.out with homes := n } := by
  have hfar : homes.filter (fun m => m != s.sys.member) = [] := by simpa using hhomes
  have hsent : s.sendParts id homes classes = s := by
    simp only [State.sendParts, hfar, ite_self, List.foldl_nil]
  rw [State.dispatch, hsent]
  exact ⟨_, State.conclude_ended he hitems _ _ _⟩

/-- The parts of the outcome of a command that has ended. -/
theorem State.Ended.report {β : Type} {t : State} {id : Nat} {o : Outcome} (h : t.Ended id o) (g : Outcome → β) :
    (t.entry? id).map (fun x => (x.phase, g x.out)) = some (.ended, g o) := by
  obtain ⟨x, hx, heq⟩ := Option.map_eq_some_iff.mp h
  obtain ⟨hphase, hout⟩ := Prod.mk.inj heq
  rw [hx, Option.map_some, hphase, hout]

theorem State.runnable_phase {s : State} {id op : Nat} {e : Entry} (h : s.runnable id op = some e) : e.phase = .accepted := by
  unfold State.runnable at h
  split at h
  · split at h
    · next hc =>
      cases h
      simp only [Bool.and_eq_true, decide_eq_true_eq] at hc
      exact hc.1.1.1.1.1.2
    · cases h
  · cases h

theorem State.runnableStore_runnable {s : State} {id op : Nat} {e : Entry} (h : s.runnableStore id op = some e) :
    s.runnable id op = some e := by
  unfold State.runnableStore at h
  split at h
  · exact h
  · cases h

/-! ### The members of the rack (R183, R522) -/

theorem State.everyMember_congr {s t : State} (hmap : t.rack.map = s.rack.map) (hsys : t.sys = s.sys) :
    t.everyMember = s.everyMember := by
  have hstate : t.memberState = s.memberState := by
    funext m
    simp only [State.memberState, hmap, hsys]
  simp only [State.everyMember, State.voting, hstate, hsys]

theorem State.everyMember_alone {s : State} (h : s.everyMember.length ≤ 1) : s.everyMember = [s.sys.member] := by
  have hothers : (s.voting.filter fun m => m != s.sys.member) = [] := List.length_eq_zero_iff.mp (Nat.le_zero.mp (Nat.le_of_succ_le_succ h))
  rw [State.everyMember, hothers]

theorem State.mem_everyMember_alone {s : State} (h : s.everyMember.length ≤ 1) : ∀ m ∈ s.everyMember, m = s.sys.member := by
  rw [State.everyMember_alone h]
  exact fun m hm => List.mem_singleton.mp hm

/-! ### Homes (R181) -/

theorem State.homeOf_congr {s t : State} (hmap : t.rack.map = s.rack.map) (hmember : t.sys.member = s.sys.member)
    (hwidth : t.fld F.TIER_HASH_WIDTH = s.fld F.TIER_HASH_WIDTH)
    (hlo : t.fld F.TIER_SALT_LO_SALT = s.fld F.TIER_SALT_LO_SALT) (hhi : t.fld F.TIER_SALT_HI_SALT = s.fld F.TIER_SALT_HI_SALT) :
    t.homeOf = s.homeOf := by
  funext a
  simp only [State.homeOf, State.homeSlot, State.serverOf, State.width, State.salt, hmap, hmember, hwidth, hlo, hhi]

/-- The tier of a page's highest copy is a matter of the store alone. -/
theorem State.standsIn_congr {s t : State} (h : t.store = s.store) (pg : Nat) : t.standsIn pg = s.standsIn pg := by
  have hhome : (t.slab (pg * 4096)).home = (s.slab (pg * 4096)).home := by
    unfold State.slab
    split
    · rfl
    · rw [h]
  have hpage : t.page = s.page := by
    funext q
    simp only [State.page, h]
  unfold State.standsIn
  rw [hpage, hhome]

/-! ### Operations that overwrite what they name -/

/-- Applied along a list, an operation that updates what stands under its operand updates exactly what stands under the list. -/
theorem foldl_updates {κ β : Type} {g : State → κ → β} {key : κ → Nat} {u : β → β} {f : State → Nat → State}
    (h : ∀ s n k, g (f s n) k = if key k = n then u (g s k) else g s k) (hu : ∀ x, u (u x) = u x) (l : List Nat) (s : State) (k : κ) :
    g (l.foldl f s) k = if key k ∈ l then u (g s k) else g s k := by
  induction l generalizing s with
  | nil => simp
  | cons n l ih =>
    rw [List.foldl_cons, ih, h]
    by_cases hn : key k = n <;> by_cases hl : key k ∈ l <;> simp [hn, hl, hu]

/-- What a memory reads after every byte whose address fails a test is taken out. -/
theorem Memory.get_filter (p : Nat → Bool) (m : Memory) (a : Nat) :
    Memory.get (m.filter fun c => p c.1) a = if p a then Memory.get m a else 0 := by
  induction m with
  | nil => simp [Memory.get]
  | cons c m ih =>
    obtain ⟨i, b⟩ := c
    by_cases hi : i = a
    · subst hi
      cases hp : p i <;> simp [Memory.get, hp, ih]
    · cases hp : p i <;> simp [Memory.get, hp, hi, ih]

theorem Tab.mem_of_find? {α : Type} {t : Tab α} {k : Nat} {v : α} (h : t.find? k = some v) : (k, v) ∈ t.cells := by
  obtain ⟨l⟩ := t
  change cellsFind l k = some v at h
  induction l with
  | nil => cases h
  | cons c l ih =>
    obtain ⟨i, w⟩ := c
    rw [cellsFind] at h
    split at h
    · next hi => cases h; subst hi; exact List.mem_cons_self
    · exact List.mem_cons_of_mem _ (ih h)

end Sys2Proof.Machine
end

section
/-!
Work on pages between the tiers (R186 to R197): what every operation that moves, pins or programs pages leaves standing, and where
the page stands after it.
-/
namespace Sys2Proof.Machine

open Sys2Proof

/-! ### What work on pages leaves standing -/

/-- The store less where its pages stand and what the flash holds of them. -/
def StoreState.placement (x : StoreState) : StoreState :=
  { x with pages := {}, pools := {}, hands := {}, flashOld := {}, sinceCheck := {}, deltaBytes := 0, journal := [], flashNext := 0 }

/-- The counters and events that work on pages changes. -/
abbrev tierFields : List Fld :=
  [F.TIER_EVENT_POOL_LOW, F.TIER_EVENT_CHAIR_DROP, F.TIER_CHAIR_DROPS, F.TIER_FALLBACK_COUNT, F.TIER_JOURNAL_USED_KIB,
   F.PMC_OVF_FIRST_COUNTER, F.PMC_OVF_FIRST_VALID, F.MGT_EVENT_PMC_OVF]

/-- The parts of the state that work on pages changes. -/
abbrev tierParts : List Part := [.regs, .out, .store, .rack, .mgt, .msix]

/-- From `s` to `t` pages have been moved, pinned or programmed, and nothing else has changed but charges, counters and events. -/
structure TierWork (s t : State) : Prop where
  frame : Frame tierParts s t
  placement : t.store.placement = s.store.placement
  map : t.rack.map = s.rack.map
  fields : FieldsStand tierFields s t

namespace TierWork

variable {r s t : State}

theorem refl (s : State) : TierWork s s := ⟨.refl _ _, rfl, rfl, .refl _ _⟩

theorem trans (a : TierWork r s) (b : TierWork s t) : TierWork r t :=
  ⟨a.frame.trans b.frame, b.placement.trans a.placement, b.map.trans a.map, a.fields.trans b.fields⟩

theorem foldl {α : Type} {f : State → α → State} (hf : ∀ s a, TierWork s (f s a)) (l : List α) (s : State) :
    TierWork s (l.foldl f s) := by
  induction l generalizing s with
  | nil => exact refl s
  | cons a l ih => exact (hf s a).trans (ih _)

theorem slabs (h : TierWork s t) : t.store.slabs = s.store.slabs := (congrArg StoreState.slabs h.placement :)
theorem mem (h : TierWork s t) : t.store.mem = s.store.mem := (congrArg StoreState.mem h.placement :)
theorem moves (h : TierWork s t) : t.store.moves = s.store.moves := (congrArg StoreState.moves h.placement :)
theorem sys (h : TierWork s t) : t.sys = s.sys := h.frame .sys (by simp)
theorem entry (h : TierWork s t) (id : Nat) : t.entry? id = s.entry? id :=
  congrArg (fun x : Tab Entry => x.find? id) (h.frame .entries (by simp))
theorem everyMember (h : TierWork s t) : t.everyMember = s.everyMember := State.everyMember_congr h.map h.sys
theorem homeOf (h : TierWork s t) : t.homeOf = s.homeOf :=
  State.homeOf_congr h.map (congrArg _ h.sys) (h.fields.fld (by decide)) (h.fields.fld (by decide)) (h.fields.fld (by decide))
theorem homesOf (h : TierWork s t) (l : List Nat) : t.homesOf l = s.homesOf l := by simp only [State.homesOf, h.homeOf]
theorem isHome (h : TierWork s t) (a : Nat) : t.isHome a = s.isHome a := by simp only [State.isHome, h.homeOf, h.sys]

end TierWork

/-! ### The single updates -/

theorem State.setPage_work (s : State) (pg : Nat) (x : PageRec) : TierWork s (s.setPage pg x) :=
  ⟨(State.setPage_keeps _ _ _ (by decide) (Kept.refl _ _)).only, rfl, rfl, .of_regs rfl⟩

theorem State.setPool_work (s : State) (k : Nat) (l : List Nat) : TierWork s (s.setPool k l) :=
  ⟨(State.setPool_keeps _ _ _ (by decide) (Kept.refl _ _)).only, rfl, rfl, .of_regs rfl⟩

/-- The clock hand of a channel moves on (R193). -/
theorem State.setHand_work (s : State) (k i : Nat) :
    TierWork s { s with store := { s.store with hands := s.store.hands.set k i } } := by
  refine ⟨fun p hp => ?_, rfl, rfl, .of_regs rfl⟩
  cases p with
  | store => simp at hp
  | _ => rfl

theorem State.charge_work (s : State) (pg : Nat) (t : Tier) (up : Bool) : TierWork s (s.charge pg t up) := by
  refine ⟨(State.charge_keeps _ _ _ _ (by decide) (Kept.refl _ _)).only, ?_, ?_, .of_regs ?_⟩ <;>
    · unfold State.charge
      split <;> rfl

theorem State.programmed_work (s : State) (pg : Nat) : TierWork s (s.programmed pg) :=
  ⟨(State.programmed_keeps _ _ (by decide) (Kept.refl _ _)).only, rfl, rfl, .of_regs rfl⟩

theorem State.pulse_work (s : State) (event unit n : Nat) : TierWork s (s.pulse event unit n) :=
  ⟨(State.pulse_keeps _ _ _ _ (by decide) (Kept.refl _ _)).only, by simp, by simp, (s.pulse_stands event unit n).mono (by simp)⟩

theorem State.raise_work (s : State) {f : Fld} (hf : f ∈ tierFields) (hp : f.Placed) : TierWork s (s.raise f) :=
  ⟨(State.raise_keeps _ _ (by decide) (Kept.refl _ _)).only, by simp, by simp, (FieldsStand.refl _ s).raise f hp hf⟩

theorem State.setFld_work (s : State) {f : Fld} (v : Nat) (hf : f ∈ tierFields) (hp : f.Placed) : TierWork s (s.setFld f v) :=
  ⟨(State.setFld_keeps _ _ _ (by decide) (Kept.refl _ _)).only, rfl, rfl, (FieldsStand.refl _ s).setFld f v hp hf⟩

/-! ### Frames of a page (R186, R187, R190) -/

theorem PageRec.frame_setFrame_none (p : PageRec) (t u : Tier) :
    (p.setFrame t none).frame u = if u = t then none else p.frame u := by
  cases t <;> cases u <;> rfl

theorem PageRec.frame_setFrame_same (p : PageRec) {t : Tier} (f : FrameRec) (h : t ≠ .flash) :
    (p.setFrame t (some f)).frame t = some f := by
  cases t with
  | flash => exact absurd rfl h
  | hbm | ddr => rfl

theorem PageRec.frame_setFrame_other (p : PageRec) {t u : Tier} (f : FrameRec) (h : u ≠ t) :
    (p.setFrame t (some f)).frame u = p.frame u := by
  cases t with
  | flash => rfl
  | hbm =>
    cases u with
    | hbm => exact absurd rfl h
    | ddr | flash => rfl
  | ddr =>
    cases u with
    | ddr => exact absurd rfl h
    | hbm | flash => rfl

/-- A page stands at least as high as a tier in which it has a frame. -/
theorem State.standsIn_of_frame {s : State} {pg : Nat} {t : Tier} (h : ((s.page pg).frame t).isSome = true) :
    (s.standsIn pg).atLeast t = true := by
  cases t with
  | hbm =>
    have hhbm : (s.page pg).hbm.isSome = true := h
    simp [State.standsIn, hhbm, Tier.atLeast]
  | ddr =>
    have hddr : (s.page pg).ddr.isSome = true := h
    cases hhbm : (s.page pg).hbm.isSome <;> simp [State.standsIn, hhbm, hddr, Tier.atLeast, Tier.code]
  | flash => cases h

theorem State.page_charge (s : State) (p q : Nat) (t : Tier) (up : Bool) : (s.charge p t up).page q = s.page q := by
  unfold State.charge
  split <;> rfl

theorem State.page_programmed (s : State) (p q : Nat) : (s.programmed p).page q =
    if q = p then { s.page p with buffered := false, programmed := true, flashAt := some s.store.flashNext } else s.page q := by
  simp only [State.page, State.programmed, Tab.getD_set]

theorem State.frame_programmed (s : State) (p q : Nat) (t : Tier) : ((s.programmed p).page q).frame t = (s.page q).frame t := by
  rw [State.page_programmed]
  split
  · next h => subst h; cases t <;> rfl
  · rfl

/-! ### A page gives up a pool frame -/

/-- A page's frame record, charge and place in the clock of a pool tier go. -/
def State.giveFrame (s : State) (pg : Nat) (t : Tier) : State :=
  let s := (s.setPage pg ((s.page pg).setFrame t none)).charge pg t false
  s.setPool (s.poolKey t pg) ((s.pool (s.poolKey t pg)).filter (· != pg))

theorem State.giveFrame_work (s : State) (pg : Nat) (t : Tier) : TierWork s (s.giveFrame pg t) :=
  ((s.setPage_work _ _).trans (State.charge_work _ _ _ _)).trans (State.setPool_work _ _ _)

theorem State.page_giveFrame (s : State) (p q : Nat) (t : Tier) :
    (s.giveFrame p t).page q = if q = p then (s.page p).setFrame t none else s.page q :=
  (State.page_charge _ _ _ _ _).trans (State.page_setPage _ _ _ _)

theorem State.dropFrame_eq (s : State) (pg : Nat) (t : Tier) :
    s.dropFrame pg t = if ((s.page pg).frame t).isNone then s else s.giveFrame pg t := rfl

theorem State.leavePool_eq (s : State) (pg : Nat) (t : Tier) : s.leavePool pg t =
    match (s.page pg).frame t with
    | none => s
    | some f => if f.dirty && !((s.giveFrame pg t).slab (pg * 4096)).copyMode && ((s.giveFrame pg t).slab (pg * 4096)).home == .flash
        then (s.giveFrame pg t).programmed pg else s.giveFrame pg t := rfl

/-- A page that leaves a pool tier stays as it is, gives up its frame, or gives it up and is programmed. -/
theorem State.leavePool_cases (s : State) (pg : Nat) (t : Tier) :
    (s.page pg).frame t = none ∧ s.leavePool pg t = s ∨ s.leavePool pg t = s.giveFrame pg t ∨
      s.leavePool pg t = (s.giveFrame pg t).programmed pg := by
  rw [State.leavePool_eq]
  split
  · next h => exact .inl ⟨h, rfl⟩
  · split
    · exact .inr (.inr rfl)
    · exact .inr (.inl rfl)

theorem State.leavePool_work (s : State) (pg : Nat) (t : Tier) : TierWork s (s.leavePool pg t) := by
  rcases s.leavePool_cases pg t with ⟨-, h⟩ | h | h <;> rw [h]
  · exact .refl _
  · exact s.giveFrame_work pg t
  · exact (s.giveFrame_work pg t).trans (State.programmed_work _ _)

theorem State.page_leavePool_other (s : State) {p q : Nat} (t : Tier) (h : q ≠ p) : (s.leavePool p t).page q = s.page q := by
  rcases s.leavePool_cases p t with ⟨-, hl⟩ | hl | hl <;> rw [hl]
  · rw [State.page_giveFrame, if_neg h]
  · rw [State.page_programmed, if_neg h, State.page_giveFrame, if_neg h]

theorem State.frame_leavePool (s : State) (pg : Nat) (t u : Tier) :
    ((s.leavePool pg t).page pg).frame u = if u = t then none else (s.page pg).frame u := by
  rcases s.leavePool_cases pg t with ⟨hnone, hl⟩ | hl | hl <;> rw [hl]
  · split
    · next h => rw [h, hnone]
    · rfl
  · rw [State.page_giveFrame, if_pos rfl, PageRec.frame_setFrame_none]
  · rw [State.frame_programmed, State.page_giveFrame, if_pos rfl, PageRec.frame_setFrame_none]

/-! ### A page goes home (R186, R187, R205) -/

theorem State.lowerPage_work (s : State) (pg : Nat) : TierWork s (s.lowerPage pg) :=
  (s.leavePool_work pg .hbm).trans (State.leavePool_work _ _ _)

theorem State.page_lowerPage_other (s : State) {p q : Nat} (h : q ≠ p) : (s.lowerPage p).page q = s.page q :=
  (State.page_leavePool_other _ _ h).trans (State.page_leavePool_other _ _ h)

theorem State.frame_lowerPage (s : State) (pg : Nat) (t : Tier) : ((s.lowerPage pg).page pg).frame t = none := by
  rw [State.lowerPage, State.frame_leavePool, State.frame_leavePool]
  cases t <;> rfl

/-! ### A page is pinned (R195) -/

theorem State.pinPage_cases (s : State) (pg : Nat) : (s.pinPage pg).1 = s ∨
    ∃ t f, ((s.page pg).frame t).isSome = true ∧ (s.pinPage pg).1 = s.setPage pg ((s.page pg).setFrame t (some f)) := by
  unfold State.pinPage
  dsimp only
  split
  · exact .inl rfl
  · next f hf =>
    split
    · exact .inl rfl
    · split
      · exact .inr ⟨_, _, by rw [hf]; rfl, rfl⟩
      · exact .inl rfl

theorem State.pinPage_work (s : State) (pg : Nat) : TierWork s (s.pinPage pg).1 := by
  rcases s.pinPage_cases pg with h | ⟨t, f, -, h⟩ <;> rw [h]
  · exact .refl _
  · exact s.setPage_work _ _

/-- A page that is pinned keeps its frames. -/
theorem State.frame_pinPage {s : State} {pg : Nat} {t : Tier} (h : ((s.page pg).frame t).isSome = true) :
    (((s.pinPage pg).1.page pg).frame t).isSome = true := by
  rcases s.pinPage_cases pg with hp | ⟨u, f, hu, hp⟩ <;> rw [hp]
  · exact h
  · rw [State.page_setPage, if_pos rfl]
    by_cases htu : t = u
    · subst htu
      rw [PageRec.frame_setFrame_same _ _ (by rintro rfl; cases h)]
      rfl
    · rwa [PageRec.frame_setFrame_other _ _ htu]

/-! ### A page takes a pool frame (R193, R523) -/

/-- A page takes the frame at a place of a channel's clock, of which `used` of `size` were taken. -/
def State.putFrame (s : State) (t : Tier) (pg : Nat) (f : FrameRec) (k size used i : Nat) : State :=
  let q := s.pool k
  let s := (s.setPool k (q.take i ++ pg :: q.drop i)).charge pg t true
  let s := s.setPage pg ((s.page pg).setFrame t (some f))
  if size ≤ (size - used) * 64 && (size - (q.length + 1)) * 64 < size then s.raise F.TIER_EVENT_POOL_LOW else s

theorem State.putFrame_work (s : State) (t : Tier) (pg : Nat) (f : FrameRec) (k size used i : Nat) :
    TierWork s (s.putFrame t pg f k size used i) := by
  have hset (l : List Nat) (x : State → PageRec) :
      TierWork s (((s.setPool k l).charge pg t true).setPage pg (x ((s.setPool k l).charge pg t true))) :=
    ((s.setPool_work k l).trans (State.charge_work _ _ _ _)).trans (State.setPage_work _ _ _)
  unfold State.putFrame
  dsimp only
  split
  · exact (hset _ fun u => (u.page pg).setFrame t (some f)).trans (State.raise_work _ (by simp) (by decide))
  · exact hset _ fun u => (u.page pg).setFrame t (some f)

theorem State.frame_putFrame (s : State) {t : Tier} (pg : Nat) (f : FrameRec) (k size used i : Nat) (h : t ≠ .flash) :
    ((s.putFrame t pg f k size used i).page pg).frame t = some f := by
  have hset (u : State) (p : PageRec) : ((u.setPage pg (p.setFrame t (some f))).page pg).frame t = some f := by
    rw [State.page_setPage, if_pos rfl, PageRec.frame_setFrame_same _ _ h]
  unfold State.putFrame
  dsimp only
  split
  · simp only [State.page, State.raise_store]
    exact hset _ _
  · exact hset _ _

/-- Taking a frame fails without effect, or is work on pages after which the page has its frame. -/
theorem State.takeFrame_cases (s : State) (t : Tier) (pg : Nat) (f : FrameRec) : s.takeFrame t pg f = (s, false) ∨
    ∃ u, s.takeFrame t pg f = (u, true) ∧ TierWork s u ∧ (t ≠ .flash → ((u.page pg).frame t).isSome = true) := by
  have hput (v : State) (k size used i : Nat) (hv : TierWork s v) : TierWork s (v.putFrame t pg f k size used i) ∧
      (t ≠ .flash → (((v.putFrame t pg f k size used i).page pg).frame t).isSome = true) :=
    ⟨hv.trans (v.putFrame_work ..), fun h => by rw [v.frame_putFrame pg f k size used i h]; rfl⟩
  have hevicted (v c : Nat) : TierWork s ((s.leavePool v t).pulse 0x1C1 c) := (s.leavePool_work v t).trans (State.pulse_work _ _ _ _)
  unfold State.takeFrame
  dsimp only
  split
  · split
    · exact .inr ⟨_, rfl, hput _ _ _ _ _ (hevicted _ _)⟩
    · exact .inl rfl
  · split
    · exact .inr ⟨_, rfl, hput _ _ _ _ _ (.refl _)⟩
    · split
      · next v hv =>
        obtain ⟨hwork, hframe⟩ := hput _ (s.poolKey t pg) (s.store.free.getD t.code 0 / t.channels) (s.pool (s.poolKey t pg)).length
          ((s.pool (s.poolKey t pg)).idxOf v) (hevicted v (channelOf s.salt s.width (v * 4096) t.channels))
        exact .inr ⟨_, rfl, hwork.trans (State.setHand_work _ _ _), hframe⟩
      · exact .inl rfl

/-! ### A page is raised (R186, R187, R205) -/

theorem State.frame_dropFrame_other (s : State) {pg : Nat} {t u : Tier} (h : u ≠ t) :
    ((s.dropFrame pg t).page pg).frame u = (s.page pg).frame u := by
  rw [State.dropFrame_eq]
  split
  · rfl
  · rw [State.page_giveFrame, if_pos rfl, PageRec.frame_setFrame_none, if_neg h]

theorem State.dropFrame_work (s : State) (pg : Nat) (t : Tier) : TierWork s (s.dropFrame pg t) := by
  rw [State.dropFrame_eq]
  split
  · exact .refl _
  · exact s.giveFrame_work pg t

theorem Tier.atLeast_flash (t : Tier) : t.atLeast .flash = true := by cases t <;> rfl

theorem Tier.atLeast_refl (t : Tier) : t.atLeast t = true := by cases t <;> rfl

/-- Raising a page fails without effect, or is work on pages after which the page stands at the tier or above. -/
theorem State.raisePage_cases (s : State) (pg : Nat) (t : Tier) : s.raisePage pg t = (s, false) ∨
    ∃ u, s.raisePage pg t = (u, true) ∧ TierWork s u ∧ (u.standsIn pg).atLeast t = true := by
  unfold State.raisePage
  dsimp only
  split
  · next h => exact .inr ⟨s, rfl, .refl _, h⟩
  · next h =>
    have hflash : t ≠ .flash := by rintro rfl; exact h (Tier.atLeast_flash _)
    have hother : t ≠ s.standsIn pg := fun he => h (by rw [← he]; exact Tier.atLeast_refl _)
    generalize ({ dirty := _, count := _, age := _, pin := false } : FrameRec) = f
    rcases s.takeFrame_cases t pg f with htake | ⟨u, htake, hwork, hframe⟩ <;> simp only [htake]
    · exact .inl trivial
    · have hkeep : TierWork u (if (s.slab (pg * 4096)).copyMode = true then u else u.dropFrame pg (s.standsIn pg)) ∧
          (((if (s.slab (pg * 4096)).copyMode = true then u else u.dropFrame pg (s.standsIn pg)).page pg).frame t).isSome = true := by
        split
        · exact ⟨.refl _, hframe hflash⟩
        · exact ⟨u.dropFrame_work _ _, by rw [u.frame_dropFrame_other hother]; exact hframe hflash⟩
      generalize (if (s.slab (pg * 4096)).copyMode = true then u else u.dropFrame pg (s.standsIn pg)) = v at hkeep
      obtain ⟨hv, hvframe⟩ := hkeep
      split
      · exact .inr ⟨_, rfl, (hwork.trans hv).trans (v.pinPage_work pg), State.standsIn_of_frame (State.frame_pinPage hvframe)⟩
      · exact .inr ⟨_, rfl, hwork.trans hv, State.standsIn_of_frame hvframe⟩

/-- A page that a channel had no room for is counted and told (R196, R205). -/
def State.noteDrop (s : State) : State :=
  ((s.count F.TIER_CHAIR_DROPS).count F.TIER_FALLBACK_COUNT).raise F.TIER_EVENT_CHAIR_DROP

theorem State.noteDrop_work (s : State) : TierWork s s.noteDrop :=
  ((s.setFld_work _ (by simp) (by decide)).trans (State.setFld_work _ _ (by simp) (by decide))).trans
    (State.raise_work _ (by simp) (by decide))

theorem State.noteDrop_event (s : State) : s.noteDrop.fld F.TIER_EVENT_CHAIR_DROP = 1 := State.fld_raise_same _ _ (by decide)

@[simp] theorem State.noteDrop_store (s : State) : s.noteDrop.store = s.store := by simp [State.noteDrop]

/-! ### A page is programmed (R189, R213) -/

theorem State.programPage_work (s : State) (pg : Nat) : TierWork s (s.programPage pg) :=
  ((s.programmed_work pg).trans (State.setPage_work _ _ _)).trans (State.setFld_work _ _ (by simp) (by decide))

theorem State.page_programPage_other (s : State) {p q : Nat} (h : q ≠ p) : (s.programPage p).page q = s.page q :=
  (State.page_setPage _ _ _ _).trans (by rw [if_neg h, State.page_programmed, if_neg h])

theorem State.buffered_programPage (s : State) (p : Nat) : ((s.programPage p).page p).buffered = false := by
  have hset (x : PageRec) : ((s.programmed p).setPage p x).page p = x := by rw [State.page_setPage, if_pos rfl]
  refine (congrArg PageRec.buffered (hset _)).trans ?_
  rw [State.page_programmed, if_pos rfl]

theorem State.journal_programPage (s : State) (p : Nat) :
    (s.programPage p).store.journal = s.store.journal.filter fun j => j.rsa / 4096 != p := rfl

end Sys2Proof.Machine
end

section
/-!
The tier commands: the lock, PLACE, SEAL, RAISE, LOWER and RESIDENCY (R180, R201 to R205).
-/
namespace Sys2Proof.Machine

open Sys2Proof

/-! ### Frames asked of every member (R185, R203) -/

/-- Asking every member for frames changes no record and no byte; the command stands in its first stage. -/
theorem State.reserveAll_report {s : State} {id : Nat} {e : Entry} (he : s.entry? id = some e) (t : Tier) (n : Nat) :
    (s.reserveAll id e t n).store.slabs = s.store.slabs ∧ (s.reserveAll id e t n).store.mem = s.store.mem ∧
      ((s.reserveAll id e t n).entry? id).map (fun y => (y.phase, y.stage)) = some (e.phase, 1) := by
  have hstore : (s.reserveAll id e t n).store = (s.reserveFrames s.sys.member e.packet t n).store :=
    foldl_keeps State.store _ (fun _ _ => State.sendItem_store _ _ _) _ _
  have hstaged : ((s.reserveFrames s.sys.member e.packet t n).modEntry id fun e => { e with stage := 1 }).entry? id =
      some { e with stage := 1 } := State.entry?_modEntry he _
  obtain ⟨l, hl, -⟩ := State.foldl_sendItem_entry (n := 0)
    (x := fun u m => { owner := some id, home := m, epoch := e.epoch, role := true, slot := u.slotServed m, kind := 8,
                       data := bvBytes e.packet 0 64 })
    (fun _ _ => rfl) (fun _ _ => rfl)
    (((s.reserveFrames s.sys.member e.packet t n).modEntry id fun e => { e with stage := 1 }).everyMember.filter fun m =>
      m != ((s.reserveFrames s.sys.member e.packet t n).modEntry id fun e => { e with stage := 1 }).sys.member) hstaged
  refine ⟨by rw [hstore]; rfl, by rw [hstore]; rfl, ?_⟩
  exact (congrArg (Option.map fun y : Entry => (y.phase, y.stage)) hl).trans rfl

/-! ### PLACE (R203) -/

/-- What PLACE's record leaves of the record before it: the grant, and the seal of a slab that stays COPY. -/
def Slab.placed (new old : Slab) : Slab :=
  { new with comp := old.comp, withdrawing := old.withdrawing, sealed := old.sealed && old.copyMode && new.copyMode }

theorem Slab.placed_placed (new old : Slab) : new.placed (new.placed old) = new.placed old := by
  simp only [Slab.placed, Bool.and_assoc, Bool.and_self]

theorem State.leaveMode_work (s : State) (pg : Nat) : TierWork s (s.leaveMode pg) := by
  unfold State.leaveMode
  split
  · exact (s.programPage_work pg).trans (State.lowerPage_work _ _)
  · exact s.lowerPage_work pg

theorem State.rehomePage_work (s : State) (new : Slab) (pg : Nat) : TierWork s (s.rehomePage new pg) :=
  (s.lowerPage_work pg).trans (State.setPage_work _ _ _)

@[simp] theorem State.moveFrames_slabs (s : State) (n : Nat) (old new : Slab) :
    (s.moveFrames n old new).store.slabs = s.store.slabs := by
  unfold State.moveFrames
  split <;> rfl

theorem State.placeSlab_slabs (s : State) (n : Nat) (new : Slab) :
    (s.placeSlab n new).1.store.slabs = s.store.slabs.set n (new.placed (s.store.slabs.getD n {})) := by
  have hpages (mode high pages : List Nat) : TierWork s (pages.foldl (fun (s : State) pg => s.rehomePage new pg)
      (high.foldl (fun (s : State) pg => s.lowerPage pg) (mode.foldl (fun (s : State) pg => s.leaveMode pg) s))) :=
    ((TierWork.foldl State.leaveMode_work mode s).trans (TierWork.foldl State.lowerPage_work high _)).trans
      (TierWork.foldl (fun u => u.rehomePage_work new) pages _)
  simp only [State.placeSlab, State.setSlab, State.dropAbove, State.moveFrames_slabs, (hpages _ _ _).slabs]
  rfl

/-- PLACE's record is applied to each slab of a list. -/
def State.placeSlabs (s : State) (l : List Nat) (new : Slab) : State := l.foldl (fun s n => (s.placeSlab n new).1) s

theorem State.placeSlabs_only (s : State) (l : List Nat) (new : Slab) : Frame [.regs, .store, .rack] s (s.placeSlabs l new) :=
  (Kept.foldl (Kept.refl _ _) fun _ _ h => (State.placeSlab_keeps _ _ _ (by decide) h).fst).only

theorem State.getD_placeSlabs (s : State) (l : List Nat) (new : Slab) (n : Nat) : (s.placeSlabs l new).store.slabs.getD n {} =
    if n ∈ l then new.placed (s.store.slabs.getD n {}) else s.store.slabs.getD n {} := by
  refine foldl_updates (g := fun u k => u.store.slabs.getD k {}) (key := id) (fun u m k => ?_) (Slab.placed_placed new) l s n
  rw [State.placeSlab_slabs, Tab.getD_set]
  split
  · next h => subst h; exact (if_pos rfl).symm
  · next h => exact (if_neg h).symm

theorem State.applyPlace_eq (s : State) (id : Nat) (e : Entry) (x : Slab) :
    ∃ moved, s.applyPlace id e x = (s.placeSlabs (tpSlabs e.packet) x).dispatch id (s.placeSlabs (tpSlabs e.packet) x).everyMember 32
      fun o => { o with result0 := moved, countDone := e.share (tpCount e.packet) } := by
  have hfst (l : List Nat) (r : State × Nat) :
      (l.foldl (fun (r : State × Nat) n => ((r.1.placeSlab n x).1, r.2 + (r.1.placeSlab n x).2)) r).1 = r.1.placeSlabs l x :=
    (List.foldl_hom Prod.fst fun _ _ => rfl).symm
  refine ⟨((tpSlabs e.packet).foldl (fun (r : State × Nat) n => ((r.1.placeSlab n x).1, r.2 + (r.1.placeSlab n x).2)) (s, 0)).2, ?_⟩
  rw [← hfst _ (s, 0)]
  rfl

/-- Before anything is asked of other members PLACE is refused, applied, or asks for their frames. -/
theorem exec_place {s : State} {id : Nat} {e : Entry} {x : Slab} (h : s.runnableStore id 0x30 = some e)
    (hx : tpRecord e.packet = some x) (hpart : e.part = false) (hstage : e.stage = 0) (hwaits : s.placeWaits id e = false)
    (hheld : s.slabsHeld (tpSlabs e.packet) = false) : exec (.place id) s = .next
      (if s.store.free.getD x.home.code 0 < s.placeNeeds e.packet x then s.failWith id St.noSpace 0x40
       else if s.everyMember.length ≤ 1 then s.applyPlace id e x else s.reserveAll id e x.home (s.placeNeeds e.packet x)) := by
  show execPlace id s = _
  simp only [execPlace, h, hx, hwaits, hheld, hpart, hstage, Bool.or_self, Bool.false_eq_true, if_false, if_true, gt_iff_lt]
  split
  · rfl
  · split <;> rfl

/-! ### SEAL (R204) -/

/-- The slabs of a list are SEALED. -/
def State.sealSlabs (s : State) (l : List Nat) : State :=
  l.foldl (fun s n => s.setSlab n { s.store.slabs.getD n {} with sealed := true }) s

theorem State.beginSeal_eq (s : State) (id : Nat) (p : Packet) : s.beginSeal id p = (s.sealSlabs (tpSlabs p)).modEntry id fun e =>
    { e with waitsFor := s.sealWaits id (tpSlabs p), begun := e.begun ||| 32 } := rfl

theorem State.getD_sealSlabs (s : State) (l : List Nat) (n : Nat) : (s.sealSlabs l).store.slabs.getD n {} =
    if n ∈ l then { s.store.slabs.getD n {} with sealed := true } else s.store.slabs.getD n {} := by
  refine foldl_updates (g := fun u k => u.store.slabs.getD k {}) (key := id) (u := fun y => { y with sealed := true })
    (fun u m k => ?_) (fun _ => rfl) l s n
  simp only [State.setSlab, Tab.getD_set, id]
  split
  · next h => subst h; rfl
  · rfl

/-- Pages of the slabs that stand in this member's write buffer. -/
def State.bufferedPages (s : State) (slabs : List Nat) : List Nat :=
  (s.store.pages.cells.filter fun c => c.2.buffered && slabs.contains (c.1 / 262144) && s.isHome (c.1 * 4096)).map (·.1)

theorem State.mem_bufferedPages {s : State} {slabs : List Nat} {pg : Nat} (hbuffered : (s.page pg).buffered = true)
    (hslab : pg / 262144 ∈ slabs) (hhome : s.isHome (pg * 4096) = true) : pg ∈ s.bufferedPages slabs := by
  cases hfind : s.store.pages.find? pg with
  | none => simp [State.page, Tab.getD, hfind] at hbuffered
  | some p =>
    have hp : s.page pg = p := by simp [State.page, Tab.getD, hfind]
    rw [hp] at hbuffered
    exact List.mem_map.mpr ⟨(pg, p), List.mem_filter.mpr ⟨Tab.mem_of_find? hfind, by simp [hbuffered, hslab, hhome]⟩, rfl⟩

/-- The write-buffer pages of the slabs are programmed. -/
def State.programBuffered (s : State) (slabs : List Nat) : State :=
  (s.bufferedPages slabs).foldl (fun (s : State) pg => s.programPage pg) s

theorem State.programBuffered_work (s : State) (slabs : List Nat) : TierWork s (s.programBuffered slabs) :=
  TierWork.foldl State.programPage_work _ s

theorem State.buffered_programBuffered {s : State} {slabs : List Nat} {pg : Nat} (hslab : pg / 262144 ∈ slabs)
    (hhome : s.isHome (pg * 4096) = true) : ((s.programBuffered slabs).page pg).buffered = false := by
  have hstep (u : State) (n k : Nat) : ((u.programPage n).page k).buffered = if k = n then false else (u.page k).buffered := by
    split
    · next h => subst h; exact u.buffered_programPage k
    · next h => rw [u.page_programPage_other h]
  refine (foldl_updates (g := fun u k => (u.page k).buffered) (key := id) (u := fun _ => false) hstep (fun _ => rfl) _ s pg).trans ?_
  split
  · rfl
  · next hnot => exact Bool.eq_false_iff.mpr fun h => hnot (State.mem_bufferedPages h hslab hhome)

/-- What SEAL does once its slabs are SEALED. -/
def State.endSeal (s : State) (id : Nat) (e : Entry) : State :=
  if ((((s.entry? id).map (·.waitsFor)).getD []).any fun w => (s.entry? w).isSome) || s.sealRaws (tpSlabs e.packet) || s.placeWaits id e
  then s
  else (s.programBuffered (tpSlabs e.packet)).dispatch id (s.programBuffered (tpSlabs e.packet)).everyMember 32 fun o =>
    { o with result0 := (s.bufferedPages (tpSlabs e.packet)).length, countDone := e.share (tpSlabs e.packet).length }

theorem State.endSeal_store (s : State) (id : Nat) (e : Entry) :
    (s.endSeal id e).store.slabs = s.store.slabs ∧ (s.endSeal id e).store.mem = s.store.mem := by
  unfold State.endSeal
  split
  · exact ⟨rfl, rfl⟩
  · rw [State.dispatch_store]
    exact ⟨(s.programBuffered_work _).slabs, (s.programBuffered_work _).mem⟩

theorem exec_seal {s : State} {id : Nat} {e : Entry} (h : s.runnableStore id 0x31 = some e) : exec (.seal id) s =
    .next ((if (tpSlabs e.packet).any fun n => !(s.store.slabs.getD n {}).sealed then s.beginSeal id e.packet else s).endSeal id e) := by
  show execSeal id s = _
  simp only [execSeal, h]
  generalize (if (tpSlabs e.packet).any fun n => !(s.store.slabs.getD n {}).sealed then s.beginSeal id e.packet else s) = u
  unfold State.endSeal
  split <;> rfl

theorem exec_seal_sealed {s : State} {id : Nat} {e : Entry} (h : s.runnableStore id 0x31 = some e)
    (hsealed : ∀ n ∈ tpSlabs e.packet, (s.store.slabs.getD n {}).sealed = true) : exec (.seal id) s = .next (s.endSeal id e) := by
  rw [exec_seal h, if_neg]
  simpa using hsealed

/-! ### RAISE (R202, R205) -/

/-- What RAISE reports. -/
def RaiseCount.report (k : RaiseCount) (o : Outcome) : Outcome :=
  { o with status := if k.failed = 0 then o.status else St.donePartial, result0 := k.failed, result1 := k.pinned,
           countDone := k.raised, countAux := k.there, fellBack := o.fellBack || k.failed != 0 }

theorem State.raiseOne_raised {s u : State} {pg : Nat} {t : Tier} (hbelow : (s.standsIn pg).atLeast t = false)
    (h : s.raisePage pg t = (u, true)) (k : RaiseCount) : s.raiseOne pg t false k = (u, { k with raised := k.raised + 1 }) := by
  simp [State.raiseOne, h, hbelow]

theorem State.raiseOne_failed {s u : State} {pg : Nat} {t : Tier} (h : s.raisePage pg t = (u, false)) (pin : Bool) (k : RaiseCount) :
    s.raiseOne pg t pin k = (u.noteDrop, { k with failed := k.failed + 1 }) := by
  simp only [State.raiseOne, h]
  rfl

theorem exec_raise_page {s u : State} {id pg : Nat} {e : Entry} {k : RaiseCount} (h : s.runnableStore id 0x32 = some e)
    (hpages : tpPages e.packet = [pg]) (hheld : s.pageHeld pg = false) (hhome : s.isHome (pg * 4096) = true)
    (hone : s.raiseOne pg (if tpHome e.packet = 0 then .hbm else .ddr) (tpRaisePin e.packet) {} = (u, k)) :
    exec (.raise id) s = .next (u.dispatch id (u.homesOf [pg * 4096]) 32 k.report) := by
  show execRaise id s = _
  simp only [execRaise, h, hpages, List.any_cons, List.any_nil, hheld, Bool.or_false, Bool.false_eq_true, if_false,
    List.filter_cons, List.filter_nil, hhome, if_true, List.foldl_cons, List.foldl_nil, hone, List.map_cons, List.map_nil]
  rfl

/-- A raise that this member alone performs ends with its counts. -/
theorem TierWork.raise_ended {s u : State} (hwork : TierWork s u) {id pg : Nat} {e : Entry} (he : s.entry? id = some e)
    (hitems : e.items = []) (hhomes : s.homesOf [pg * 4096] = [s.sys.member]) (k : RaiseCount) :
    ∃ n, (u.dispatch id (u.homesOf [pg * 4096]) 32 k.report).Ended id { k.report e.out with homes := n } := by
  refine State.dispatch_ended ((hwork.entry id).trans he) hitems (fun m hm => ?_) _ _
  rw [hwork.homesOf, hhomes] at hm
  rw [hwork.sys]
  exact List.mem_singleton.mp hm

/-! ### LOWER (R202, R205) -/

/-- A frame of the page is pinned. -/
def PageRec.pinned (p : PageRec) : Bool := p.hbm.any (·.pin) || p.ddr.any (·.pin)

/-- A page is sent home unless it has no pool frame, or is pinned and its pin stands. -/
def State.lowerUnpinned (unpin : Bool) (s : State) (pg : Nat) : State :=
  if (s.page pg).hbm.isNone && (s.page pg).ddr.isNone then s
  else if (s.page pg).pinned && !unpin then s
  else s.lowerPage pg

theorem State.lowerUnpinned_work (unpin : Bool) (s : State) (pg : Nat) : TierWork s (s.lowerUnpinned unpin pg) := by
  unfold State.lowerUnpinned
  split
  · exact .refl _
  · split
    · exact .refl _
    · exact s.lowerPage_work pg

/-- Another page stays, and a pinned one whose pin stands. -/
theorem State.page_lowerUnpinned {unpin : Bool} {s : State} {p q : Nat} (h : q ≠ p ∨ unpin = false ∧ (s.page q).pinned = true) :
    (s.lowerUnpinned unpin p).page q = s.page q := by
  unfold State.lowerUnpinned
  split
  · rfl
  · split
    · rfl
    · next hpinned =>
      rcases h with h | ⟨rfl, h⟩
      · exact s.page_lowerPage_other h
      · refine s.page_lowerPage_other fun he => hpinned ?_
        rw [← he, h]
        rfl

theorem State.page_foldl_lowerUnpinned {unpin : Bool} {l : List Nat} {s : State} {q : Nat}
    (h : q ∉ l ∨ unpin = false ∧ (s.page q).pinned = true) : (l.foldl (State.lowerUnpinned unpin) s).page q = s.page q := by
  induction l generalizing s with
  | nil => rfl
  | cons p l ih =>
    have hhead : (s.lowerUnpinned unpin p).page q = s.page q := State.page_lowerUnpinned (h.imp_left List.ne_of_not_mem_cons)
    rw [List.foldl_cons, ih (by rw [hhead]; exact h.imp_left List.not_mem_of_not_mem_cons), hhead]

/-- The pool frames that LOWER leaves a page. -/
def PageRec.lowered (unpin : Bool) (x : Option FrameRec × Option FrameRec) : Option FrameRec × Option FrameRec :=
  if (x.1.any (·.pin) || x.2.any (·.pin)) && !unpin then x else (none, none)

theorem State.frames_lowerUnpinned (unpin : Bool) (s : State) (p q : Nat) :
    (((s.lowerUnpinned unpin p).page q).hbm, ((s.lowerUnpinned unpin p).page q).ddr) =
      if q = p then PageRec.lowered unpin ((s.page q).hbm, (s.page q).ddr) else ((s.page q).hbm, (s.page q).ddr) := by
  split
  · next h =>
    subst h
    unfold State.lowerUnpinned PageRec.lowered PageRec.pinned
    split
    · next hnone =>
      simp only [Bool.and_eq_true, Option.isNone_iff_eq_none] at hnone
      simp [hnone]
    · split
      · rfl
      · exact Prod.ext (s.frame_lowerPage q .hbm) (s.frame_lowerPage q .ddr)
  · next h => rw [State.page_lowerUnpinned (.inl h)]

theorem State.frames_foldl_lowerUnpinned {unpin : Bool} {l : List Nat} {s : State} {q : Nat} (hq : q ∈ l)
    (h : (s.page q).pinned = false ∨ unpin = true) :
    ((l.foldl (State.lowerUnpinned unpin) s).page q).hbm = none ∧ ((l.foldl (State.lowerUnpinned unpin) s).page q).ddr = none := by
  have hidem (x : Option FrameRec × Option FrameRec) : PageRec.lowered unpin (PageRec.lowered unpin x) = PageRec.lowered unpin x := by
    unfold PageRec.lowered
    split
    · rfl
    · simp
  have hfold := (foldl_updates (g := fun u k => ((u.page k).hbm, (u.page k).ddr)) (key := id) (State.frames_lowerUnpinned unpin)
    hidem l s q).trans (if_pos hq)
  have hgone : PageRec.lowered unpin ((s.page q).hbm, (s.page q).ddr) = (none, none) := by
    refine if_neg ?_
    rcases h with h | rfl
    · simp only [PageRec.pinned] at h
      simp [h]
    · simp
  rw [hgone] at hfold
  exact Prod.mk.inj hfold

/-- LOWER of one page, with the pages lowered and left so far. -/
def State.lowerOne (unpin : Bool) (r : State × Nat × Nat) (pg : Nat) : State × Nat × Nat :=
  if (r.1.page pg).hbm.isNone && (r.1.page pg).ddr.isNone then r
  else if (r.1.page pg).pinned && !unpin then (r.1, r.2.1, r.2.2 + 1)
  else (r.1.lowerPage pg, r.2.1 + 1, r.2.2)

theorem State.foldl_lowerOne_fst (unpin : Bool) (l : List Nat) (r : State × Nat × Nat) :
    (l.foldl (State.lowerOne unpin) r).1 = l.foldl (State.lowerUnpinned unpin) r.1 := by
  refine (List.foldl_hom Prod.fst fun r pg => ?_).symm
  unfold State.lowerUnpinned State.lowerOne
  split
  · rfl
  · split <;> rfl

theorem exec_lower {s : State} {id : Nat} {e : Entry} {r : State × Nat × Nat} (h : s.runnableStore id 0x33 = some e)
    (hheld : ∀ pg ∈ tpPages e.packet, s.pageHeld pg = false)
    (hr : r = ((tpPages e.packet).filter fun pg => s.isHome (pg * 4096)).foldl (State.lowerOne (tpUnpin e.packet)) (s, 0, 0)) :
    exec (.lower id) s = .next (r.1.dispatch id (r.1.homesOf ((tpPages e.packet).map (· * 4096))) 32 fun o =>
      { o with countDone := r.2.1, countAux := r.2.2 }) := by
  have hany : (tpPages e.packet).any s.pageHeld = false := by simpa using hheld
  subst hr
  show execLower id s = _
  simp only [execLower, h, hany, Bool.false_eq_true, if_false]
  rfl

theorem exec_lower_held {s : State} {id : Nat} {e : Entry} (h : s.runnableStore id 0x33 = some e)
    (hheld : (tpPages e.packet).any s.pageHeld = true) : exec (.lower id) s = .next s := by
  show execLower id s = _
  simp only [execLower, h, hheld, if_true]

/-! ### RESIDENCY (R202, R205) -/

/-- Every page stands in one of the three tiers. -/
theorem length_filter_tiers (f : Nat → Tier) (l : List Nat) : (l.filter fun x => f x == .hbm).length +
    (l.filter fun x => f x == .ddr).length + (l.filter fun x => f x == .flash).length = l.length := by
  induction l with
  | nil => rfl
  | cons x l ih => cases h : f x <;> simp [h] <;> omega

theorem length_tpPages (p : Packet) : (tpPages p).length = tpCount p := by simp [tpPages]

theorem length_tpSlabs (p : Packet) : (tpSlabs p).length = tpCount p := by simp [tpSlabs]

theorem exec_residency {s : State} {id : Nat} {e : Entry} (h : s.runnableStore id 0x34 = some e)
    (hhome : ∀ pg ∈ tpPages e.packet, s.isHome (pg * 4096) = true) : exec (.residency id) s =
      .next (s.dispatch id (s.homesOf ((tpPages e.packet).map (· * 4096))) 0 fun o => { o with
        result0 := ((tpPages e.packet).filter fun pg => s.standsIn pg == .hbm).length +
          2 ^ 32 * ((tpPages e.packet).filter fun pg => s.standsIn pg == .ddr).length
        result1 := ((tpPages e.packet).filter fun pg => (s.page pg).hbm.any (·.pin) || (s.page pg).ddr.any (·.pin)).length
        countDone := tpCount e.packet
        countAux := ((tpPages e.packet).filter fun pg => s.standsIn pg == .flash).length }) := by
  show execResidency id s = _
  simp only [execResidency, h, List.filter_eq_self.mpr hhome, length_tpPages]

/-! ### The statement -/

/-- Settles O23: PLACE and SEAL slab by slab, RAISE by whether the channel has a frame, LOWER page by page, RESIDENCY by the tier of
each page. -/
theorem tierCommands : Obligations.TierCommands := by
  unfold Obligations.TierCommands
  refine ⟨?lock, ?place, ?placeAsks, ?placeShort, ?seals, ?sealWaits, ?sealEnds, ?raise, ?raiseShort, ?lower, ?lowerPinned, ?residency⟩
  case lock =>
    intro s src hmay
    refine ⟨_, (?_ : execTierCtrlLock src s = _), s.fld_setFld_same _ _ (by decide), s.setFld_only _ _, s.setFld_stands _ (by decide)⟩
    simp only [execTierCtrlLock, hmay, Bool.not_true, Bool.false_eq_true, if_false]
  case place =>
    intro s id e x h hx hpart hstage hwaits hheld hone hfree
    obtain ⟨moved, happly⟩ := s.applyPlace_eq id e x
    have hframe := s.placeSlabs_only (tpSlabs e.packet) x
    have hentry : (s.placeSlabs (tpSlabs e.packet) x).entry? id = some e :=
      (congrArg (fun t : Tab Entry => t.find? id) (hframe .entries (by simp))).trans (State.runnableStore_entry h)
    refine ⟨_, (exec_place h hx hpart hstage hwaits hheld).trans (by rw [if_neg (Nat.not_lt.mpr hfree), if_pos hone, happly]),
      ?_, ?_, fun n hn => ⟨_, _, rfl, rfl, ?_⟩, fun n hn => ?_⟩
    · rw [State.dispatch_store]
      exact hframe .mem (by simp)
    · obtain ⟨y, hy, k, hout⟩ := State.dispatch_out (classes := 32) hentry (s.placeSlabs (tpSlabs e.packet) x).everyMember fun o =>
        { o with result0 := moved, countDone := e.share (tpCount e.packet) }
      rw [hy, Option.map_some, hout]
      simp only [Entry.share, hpart, Bool.false_eq_true, if_false]
    · rw [State.dispatch_store, State.getD_placeSlabs, if_pos hn]
      rfl
    · rw [State.dispatch_store, State.getD_placeSlabs, if_neg hn]
  case placeAsks =>
    intro s id e x h hx hpart hstage hwaits hheld hmany hfree
    obtain ⟨hslabs, hmem, hentry⟩ := State.reserveAll_report (State.runnableStore_entry h) x.home (s.placeNeeds e.packet x)
    refine ⟨_, (exec_place h hx hpart hstage hwaits hheld).trans
      (by rw [if_neg (Nat.not_lt.mpr hfree), if_neg (Nat.not_le.mpr hmany)]), hslabs, hmem, ?_⟩
    rw [hentry, State.runnable_phase (State.runnableStore_runnable h)]
  case placeShort =>
    intro s id e x h hx hpart hstage hwaits hheld hshort
    exact ⟨s.failWith id St.noSpace 0x40, (exec_place h hx hpart hstage hwaits hheld).trans (by rw [if_pos hshort]), rfl,
      (State.finish_ended (State.runnableStore_entry h) _).report fun o => (o.status, o.subcode, o.absent)⟩
  case seals =>
    intro s id n e h hn
    generalize hu : (if (tpSlabs e.packet).any fun n => !(s.store.slabs.getD n {}).sealed then s.beginSeal id e.packet else s) = u
    obtain ⟨hslabs, hmem⟩ := u.endSeal_store id e
    have hsealed : (u.store.slabs.getD n {}).sealed = true ∧ u.store.mem = s.store.mem := by
      rw [← hu]
      split
      · refine ⟨?_, (State.beginSeal_keeps (m := partsMask [.store, .entries]) s id _ (by decide) (Kept.refl _ _)).only .mem (by simp)⟩
        rw [State.beginSeal_eq, State.modEntry_store, State.getD_sealSlabs, if_pos hn]
      · next hall =>
        simp only [List.any_eq_true, not_exists, not_and, Bool.not_eq_true, Bool.not_eq_false'] at hall
        exact ⟨hall n hn, rfl⟩
    exact ⟨_, (exec_seal h).trans (by rw [hu]), hslabs ▸ hsealed.1, hmem.trans hsealed.2⟩
  case sealWaits =>
    intro s id w e x h hsealed hw hx
    rw [exec_seal_sealed h hsealed, State.endSeal, if_pos]
    have hany : e.waitsFor.any (fun w => (s.entry? w).isSome) = true := List.any_eq_true.mpr ⟨w, hw, by rw [hx]; rfl⟩
    simp [State.runnableStore_entry h, hany]
  case sealEnds =>
    intro s id e h hsealed hended hraws hwaits hpart hmembers hitems
    have he := State.runnableStore_entry h
    have hwork := s.programBuffered_work (tpSlabs e.packet)
    have hany : e.waitsFor.any (fun w => (s.entry? w).isSome) = false := by simpa using hended
    obtain ⟨n, hdone⟩ := State.dispatch_ended (homes := (s.programBuffered (tpSlabs e.packet)).everyMember)
      ((hwork.entry id).trans he) hitems (by rw [hwork.everyMember, hwork.sys]; exact hmembers) 32
      fun o => { o with result0 := (s.bufferedPages (tpSlabs e.packet)).length, countDone := e.share (tpSlabs e.packet).length }
    refine ⟨_, (exec_seal_sealed h hsealed).trans (by rw [State.endSeal, if_neg (by simp [he, hany, hraws, hwaits])]), ?_, fun pg hhome hslab => ?_⟩
    · refine (hdone.report (·.countDone)).trans ?_
      simp only [Entry.share, hpart, Bool.false_eq_true, if_false]
    · rw [State.page, State.dispatch_store]
      exact State.buffered_programBuffered hslab hhome
  case raise =>
    rintro s u id pg e tier h hpages hpin rfl hheld hbelow hraise hhomes hhome hitems
    rcases s.raisePage_cases pg (if tpHome e.packet = 0 then .hbm else .ddr) with hfail | ⟨v, hv, hwork, hstands⟩
    · rw [hfail] at hraise
      cases hraise
    · obtain rfl : v = u := congrArg Prod.fst (hv.symm.trans hraise)
      obtain ⟨n, hended⟩ := hwork.raise_ended (State.runnableStore_entry h) hitems hhomes { raised := 1 }
      refine ⟨_, exec_raise_page h hpages hheld hhome (by rw [hpin]; exact State.raiseOne_raised hbelow hraise {}), ?_, ?_,
        (hended.report fun o => (o.status, o.result0, o.countDone, o.countAux))⟩
      · rwa [State.standsIn_congr (State.dispatch_store _ _ _ _ _)]
      · rw [State.dispatch_store]
        exact hwork.mem
  case raiseShort =>
    rintro s u id pg e tier h hpages rfl hheld hraise hhomes hhome hitems
    rcases s.raisePage_cases pg (if tpHome e.packet = 0 then .hbm else .ddr) with hfail | ⟨v, hv, -, -⟩
    · obtain rfl : s = u := congrArg Prod.fst (hfail.symm.trans hraise)
      obtain ⟨n, hended⟩ := s.noteDrop_work.raise_ended (State.runnableStore_entry h) hitems hhomes { failed := 1 }
      refine ⟨_, exec_raise_page h hpages hheld hhome (State.raiseOne_failed hraise _ {}), ?_, ?_,
        (hended.report fun o => (o.status, o.result0, o.countDone))⟩
      · rw [State.dispatch_store, State.noteDrop_store]
      · rw [State.fld_congr (State.dispatch_regs _ _ _ _ _), State.noteDrop_event]
    · rw [hv] at hraise
      cases hraise
  case lower =>
    intro s id e h hheld
    refine ⟨_, exec_lower h hheld rfl, ?_, fun pg hpg => ?_, fun pg hpg hhome hunpinned => ?_⟩
    · rw [State.dispatch_store, State.foldl_lowerOne_fst]
      exact (TierWork.foldl (State.lowerUnpinned_work _) _ s).mem
    · rw [State.page, State.dispatch_store, State.foldl_lowerOne_fst]
      exact State.page_foldl_lowerUnpinned (.inl fun hmem => hpg (List.mem_of_mem_filter hmem))
    · rw [State.page, State.dispatch_store, State.foldl_lowerOne_fst]
      exact State.frames_foldl_lowerUnpinned (List.mem_filter.mpr ⟨hpg, hhome⟩) hunpinned
  case lowerPinned =>
    intro s id pg e h hunpin hpinned
    cases hheld : (tpPages e.packet).any s.pageHeld with
    | true => exact ⟨s, exec_lower_held h hheld, rfl⟩
    | false =>
      refine ⟨_, exec_lower h (by simpa using hheld) rfl, ?_⟩
      rw [State.page, State.dispatch_store, State.foldl_lowerOne_fst]
      exact State.page_foldl_lowerUnpinned (.inr ⟨hunpin, hpinned⟩)
  case residency =>
    intro s id e h hhome hhomes hitems
    obtain ⟨n, hended⟩ := State.dispatch_ended (State.runnableStore_entry h) hitems (homes := s.homesOf ((tpPages e.packet).map (· * 4096)))
      (fun m hm => by rw [hhomes] at hm; exact List.mem_singleton.mp hm) 0 _
    exact ⟨_, _, _, _, _, exec_residency h hhome, (length_filter_tiers s.standsIn _).trans (length_tpPages _), rfl, rfl, rfl,
      hended.report fun o => (o.result0, o.result1, o.countDone, o.countAux)⟩

end Sys2Proof.Machine
end

section
/-!
The Chairlift's moves, heat epochs, retraining, device temperatures, journal waits, checkpoints and the brace area (R191, R196, R197,
R207, R210, R213, R214).
-/
namespace Sys2Proof.Machine

open Sys2Proof

/-! ### A move starts (R196) -/

/-- A move within the rate and the number in flight is under way. -/
def State.startMove (s : State) (m : Move) : State :=
  { s with store := { s.store with moves := s.store.moves ++ [m], movesStarted := s.store.movesStarted + 1 } }

/-- Another move may start in this frame. -/
abbrev State.MoveRoom (s : State) : Prop :=
  s.sys.bracing = false ∧ s.store.movesStarted < s.chairRate ∧ s.store.moves.length < 1024

theorem exec_chairliftMoveStart_raise {s : State} {pg : Nat} {tier : Tier} {rest : List (Nat × Tier)} (hroom : s.MoveRoom)
    (hraises : s.store.raises = (pg, tier) :: rest) (hbelow : (s.standsIn pg).atLeast tier = false)
    (hceiling : tier.within (s.slab (pg * 4096)).ceiling = true) (n : Nat) : exec (.chairliftMoveStart false n) s =
      .next ({ s with store := { s.store with raises := rest } }.startMove { page := pg, target := tier, home := false }) := by
  obtain ⟨hbrace, hrate, hflight⟩ := hroom
  have hstands : ({ s with store := { s.store with raises := rest } } : State).standsIn pg = s.standsIn pg := rfl
  have hslab : ({ s with store := { s.store with raises := rest } } : State).slab (pg * 4096) = s.slab (pg * 4096) := rfl
  show execChairliftMoveStart false n s = _
  simp only [execChairliftMoveStart, hbrace, ge_iff_le, Nat.not_le.mpr hrate, Nat.not_le.mpr hflight, hraises, hstands, hbelow, hslab,
    hceiling, decide_false, Bool.or_self, Bool.false_eq_true, if_false, Bool.not_true]
  rfl

theorem exec_chairliftMoveStart_home {s : State} {pg : Nat} (hroom : s.MoveRoom)
    (hdue : (s.page pg).buffered = true ∧ s.stripeComplete pg = true ∨ s.writeBackDue = some pg) :
    exec (.chairliftMoveStart true pg) s = .next (s.startMove { page := pg, target := .flash, home := true }) := by
  obtain ⟨hbrace, hrate, hflight⟩ := hroom
  show execChairliftMoveStart true pg s = _
  simp only [execChairliftMoveStart, hbrace, ge_iff_le, Nat.not_le.mpr hrate, Nat.not_le.mpr hflight, decide_false, Bool.or_self,
    Bool.false_eq_true, if_false, if_true, Bool.or_eq_true, Bool.and_eq_true, decide_eq_true_eq, hdue]
  rfl

theorem exec_chairliftMoveStart_full {s : State}
    (h : s.sys.bracing = true ∨ s.chairRate ≤ s.store.movesStarted ∨ 1024 ≤ s.store.moves.length) (home : Bool) (n : Nat) :
    exec (.chairliftMoveStart home n) s = .next s := by
  show execChairliftMoveStart home n s = _
  rw [execChairliftMoveStart, if_pos (by simpa [or_assoc] using h)]

/-! ### A move ends (R197, R231) -/

/-- A move has reached its end: it is in flight no longer, and counted. -/
def State.takeMove (s : State) (pg : Nat) (m : Move) : State :=
  ({ s with store := { s.store with moves := s.store.moves.erase m } } : State).pulse 0x1C0
    (channelOf s.salt s.width (pg * 4096) m.target.channels)

@[simp] theorem State.takeMove_store (s : State) (pg : Nat) (m : Move) :
    (s.takeMove pg m).store = { s.store with moves := s.store.moves.erase m } := State.pulse_store _ _ _ _

/-- With no transaction and no item waiting, a freed frame of the write buffer lets nothing go on. -/
theorem State.bufferFreed_idle {s : State} (htxns : s.coh.txns = []) (hheld : s.rack.held = []) : s.bufferFreed = s := by
  simp [State.bufferFreed, State.releaseHeld, htxns, hheld]

theorem exec_moveDirectorySwitch_held {s : State} {pg : Nat} (h : s.pageHeld pg = true) :
    exec (.moveDirectorySwitch pg) s = .next s := by
  show execMoveDirectorySwitch pg s = _
  simp only [execMoveDirectorySwitch, h, if_true]
  split <;> rfl

theorem exec_moveDirectorySwitch_home {s : State} {pg : Nat} {m : Move}
    (hm : s.store.moves.find? (fun m => m.page = pg) = some m) (hhome : m.home = true) (hfree : s.pageHeld pg = false)
    (htxns : s.coh.txns = []) (hheld : s.rack.held = []) :
    exec (.moveDirectorySwitch pg) s = .next ((s.takeMove pg m).programPage pg) := by
  have honly := (State.programPage_keeps (m := partsMask [.regs, .store]) (s.takeMove pg m) pg (by decide) (Kept.refl _ _)).only
  have hidle : ((s.takeMove pg m).programPage pg).bufferFreed = (s.takeMove pg m).programPage pg := by
    refine State.bufferFreed_idle ?_ ?_
    · rw [show _ = _ from honly .coh (by simp), State.takeMove, State.pulse_coh]
      exact htxns
    · rw [show _ = _ from honly .rack (by simp), State.takeMove, State.pulse_rack]
      exact hheld
  show execMoveDirectorySwitch pg s = _
  simp only [execMoveDirectorySwitch, hm, hfree, hhome, Bool.false_eq_true, if_false, if_true]
  exact congrArg Host.Outcome.next hidle

/-- A raise that ends is done, or noted as dropped. -/
def State.endRaise (s : State) (pg : Nat) (t : Tier) : State :=
  match s.raisePage pg t with
  | (s, true) => s
  | (s, false) => s.noteDrop

/-- The page then stands at the tier, or the drop is told; no move and no byte changes. -/
theorem State.endRaise_spec (s : State) (pg : Nat) (t : Tier) : TierWork s (s.endRaise pg t) ∧
    (((s.endRaise pg t).standsIn pg).atLeast t = true ∨ (s.endRaise pg t).fld F.TIER_EVENT_CHAIR_DROP = 1) := by
  unfold State.endRaise
  rcases s.raisePage_cases pg t with h | ⟨u, h, hwork, hstands⟩ <;> rw [h]
  · exact ⟨s.noteDrop_work, .inr s.noteDrop_event⟩
  · exact ⟨hwork, .inl hstands⟩

theorem State.ceiling_congr {s t : State} (h : t.store.slabs = s.store.slabs) (a : Nat) : (t.slab a).ceiling = (s.slab a).ceiling := by
  unfold State.slab
  split
  · rfl
  · rw [h]

theorem exec_moveDirectorySwitch_raise {s : State} {pg : Nat} {m : Move}
    (hm : s.store.moves.find? (fun m => m.page = pg) = some m) (hhome : m.home = false) (hfree : s.pageHeld pg = false)
    (hceiling : m.target.within (s.slab (pg * 4096)).ceiling = true) :
    exec (.moveDirectorySwitch pg) s = .next ((s.takeMove pg m).endRaise pg m.target) := by
  have hwithin : m.target.within ((s.takeMove pg m).slab (pg * 4096)).ceiling = true := by
    rwa [State.ceiling_congr (t := s.takeMove pg m) (s := s) (by rw [State.takeMove_store])]
  have hend : (match (s.takeMove pg m).raisePage pg m.target with
      | (u, true) => (.next u : Res)
      | (u, false) => .next u.noteDrop) = .next ((s.takeMove pg m).endRaise pg m.target) := by
    unfold State.endRaise
    split <;> rfl
  show execMoveDirectorySwitch pg s = _
  simp only [execMoveDirectorySwitch, hm, hfree, hhome, Bool.false_eq_true, if_false]
  exact (if_neg fun h => Bool.false_ne_true ((congrArg not hwithin).symm.trans h)).trans hend

/-! ### Journal waits (R213) -/

/-- A STORE_COPY that waited for room in the journal is taken up again. -/
theorem exec_journalWaitResume_copy {s : State} {id g : Nat} {e : Entry}
    (hwait : { entry := some id, granule := g } ∈ s.store.journalWaits) (hroom : s.journalRoom [g] = true) (he : s.entry? id = some e)
    (haccepted : e.accepted = true) (hphase : e.phase = .accepted) (hstop : e.stop = none) (hop : pkOpcode e.packet = 0x03) :
    exec (.journalWaitResume (some id) g) s = exec (.storeCopy id) (s.endJournalWait (some id) g) := by
  have hany : (s.store.journalWaits.any fun w => w.entry = some id && w.granule = g) = true :=
    List.any_eq_true.mpr ⟨_, hwait, by simp⟩
  have hentry : (s.endJournalWait (some id) g).entry? id = some e := he
  show execJournalWaitResume (some id) g s = _
  simp only [execJournalWaitResume, hany, hroom, hentry, haccepted, hphase, hstop, hop, Bool.not_true, Bool.or_self,
    Bool.false_eq_true, if_false, Option.isNone_none, Bool.and_self, decide_true, if_true]
  rfl

theorem exec_journalWaitResume_full {s : State} {g : Nat} (h : s.journalRoom [g] = false) (id : Option Nat) :
    exec (.journalWaitResume id g) s = .next s := by
  show execJournalWaitResume id g s = _
  rw [execJournalWaitResume, if_pos (by simp [h])]

/-! ### Heat (R191) -/

/-- A frame record ages by one epoch. -/
def FrameRec.older (f : FrameRec) : FrameRec := { f with age := min 31 (f.age + 1) }

/-- Every record of a page ages by one epoch. -/
def PageRec.older (p : PageRec) : PageRec :=
  { p with hbm := p.hbm.map FrameRec.older, ddr := p.ddr.map FrameRec.older, homeAge := min 31 (p.homeAge + 1) }

/-- Every record ages, and a new epoch begins. -/
def State.endEpoch (s : State) : State :=
  { s with store := { s.store with pages := s.store.pages.mapVals fun _ p => p.older, epochStart := s.frame } }

theorem State.page_endEpoch {s : State} {pg : Nat} (h : (s.store.pages.find? pg).isSome = true) :
    s.endEpoch.page pg = (s.page pg).older := by
  obtain ⟨p, hp⟩ := Option.isSome_iff_exists.mp h
  simp only [State.page, Tab.getD, State.endEpoch, Tab.find?_mapVals, hp, Option.map_some, Option.getD_some]

theorem State.endEpoch_only (s : State) : Frame [.store] s s.endEpoch := by
  intro p hp
  cases p with
  | store => simp at hp
  | _ => rfl

theorem exec_heatEpochEnd {s : State} (h : s.store.epochStart + s.fld F.TIER_HEAT_CFG_EPOCH_FRAMES ≤ s.frame) :
    exec .heatEpochEnd s = .next s.endEpoch := by
  show execHeatEpochEnd s = _
  rw [execHeatEpochEnd, if_neg (Nat.not_lt.mpr h)]
  rfl

/-! ### Retraining (R207) -/

@[simp] theorem State.training_setTraining (s : State) (kind unit : Nat) (x : Training) :
    (s.setTraining kind unit x).training kind unit = x := by
  simp [State.training, State.setTraining]

/-- A retraining asked for is pending; one that was pending goes on. -/
theorem State.training_retrain (s : State) (kind unit : Nat) : (s.retrain kind unit).training kind unit =
    if (s.training kind unit).pending then s.training kind unit
    else { s.training kind unit with pending := true, stepsLeft := retrainSteps kind } := by
  unfold State.retrain
  dsimp only
  split
  · rfl
  · exact State.training_setTraining _ _ _ _

/-- The drift, the age or an oscillator calls for a retraining. -/
def State.trainingDue (s : State) (x : Training) (t v : Nat) (osc : Bool) : Bool :=
  driftReached t x.t0 v x.v0 (s.fld F.TIER_DRIFT_CFG_DRIFT_T) (s.fld F.TIER_DRIFT_CFG_DRIFT_MV) ||
    s.frame - x.lastFrame ≥ s.fld F.TIER_DRIFT_CFG_MAX_UNITS * 65536 || osc

/-- A sample is recorded, and a retraining that it calls for made pending. -/
def State.sampled (s : State) (kind unit t v : Nat) (osc : Bool) : State :=
  if s.trainingDue (s.training kind unit) t v osc then
    (s.setTraining kind unit { s.training kind unit with tNow := t, vNow := v }).retrain kind unit
  else s.setTraining kind unit { s.training kind unit with tNow := t, vNow := v }

theorem exec_driftSample {s : State} {kind unit : Nat} (h : unit < trainInstances kind) (t v : Nat) (osc : Bool) :
    exec (.driftSample kind unit t v osc) s = .next (s.sampled kind unit t v osc) := by
  show execDriftSample kind unit t v osc s = _
  rw [execDriftSample, if_neg (Nat.not_le.mpr h)]
  rfl

theorem State.training_sampled (s : State) (kind unit t v : Nat) (osc : Bool) : (s.sampled kind unit t v osc).training kind unit =
    if s.trainingDue (s.training kind unit) t v osc && !(s.training kind unit).pending then
      { s.training kind unit with tNow := t, vNow := v, pending := true, stepsLeft := retrainSteps kind }
    else { s.training kind unit with tNow := t, vNow := v } := by
  unfold State.sampled
  cases s.trainingDue (s.training kind unit) t v osc with
  | false => simp
  | true =>
    rw [if_pos rfl, State.training_retrain, State.training_setTraining]
    cases (s.training kind unit).pending <;> rfl

theorem State.pending_sampled (s : State) (kind unit t v : Nat) (osc : Bool) :
    ((s.sampled kind unit t v osc).training kind unit).pending =
      ((s.training kind unit).pending || s.trainingDue (s.training kind unit) t v osc) := by
  rw [State.training_sampled]
  cases s.trainingDue (s.training kind unit) t v osc <;> cases hpending : (s.training kind unit).pending <;> simp [hpending]

theorem State.sampled_only (s : State) (kind unit t v : Nat) (osc : Bool) : Frame [.store] s (s.sampled kind unit t v osc) := by
  unfold State.sampled
  split
  · exact (State.retrain_keeps _ _ _ (by decide) (State.setTraining_keeps _ _ _ _ (by decide) (Kept.refl _ _))).only
  · exact (State.setTraining_keeps _ _ _ _ (by decide) (Kept.refl _ _)).only

/-! ### Device temperatures (R210) -/

/-- One unit's bit of the double refresh register. -/
abbrev refreshBit (i : Nat) : Fld := ⟨F.TIER_REFRESH_2X_HBM.off, i, i⟩

theorem refreshBit_placed {i : Nat} (h : i < 32) : (refreshBit i).Placed :=
  ⟨le_refl _, h, show F.TIER_REFRESH_2X_HBM.off < _ by decide⟩

theorem State.bit_regAt (s : State) (i : Nat) :
    bit (s.regAt 0 F.TIER_REFRESH_2X_HBM.off) i = decide (s.fld (refreshBit i) = 1) := by
  rw [State.fld, bf_single]
  change (s.regAt 0 F.TIER_REFRESH_2X_HBM.off).getLsbD i = _
  cases (s.regAt 0 F.TIER_REFRESH_2X_HBM.off).getLsbD i <;> rfl

theorem State.setRefresh_eq (s : State) (i : Nat) (on : Bool) : s.setRefresh i on =
    if bit (s.regAt 0 F.TIER_REFRESH_2X_HBM.off) i = on then s
    else (s.setFld (refreshBit i) (b2n on)).raise F.TIER_EVENT_REFRESH_RATE := rfl

/-- A unit's double refresh is as it was set. -/
theorem State.bit_setRefresh (s : State) {i : Nat} (hi : i < 32) (on : Bool) :
    bit ((s.setRefresh i on).regAt 0 F.TIER_REFRESH_2X_HBM.off) i = on := by
  rw [State.setRefresh_eq]
  split
  · assumption
  · have hset : (s.setFld (refreshBit i) (b2n on)).fld (refreshBit i) = b2n on :=
      s.fld_setFld_same (refreshBit i) _ ⟨le_refl _, hi, by rw [Nat.add_sub_cancel_left]; cases on <;> decide⟩
    rw [State.bit_regAt, State.fld_raise_other _ F.TIER_EVENT_REFRESH_RATE (refreshBit i) (by decide)
      (.inl (show regKey 0 F.TIER_REFRESH_2X_HBM.off ≠ regKey 0 F.TIER_EVENT_REFRESH_RATE.off by decide)), hset]
    cases on <;> rfl

theorem State.setRefresh_stands (s : State) {i : Nat} (hi : i < 32) (on : Bool) :
    FieldsStand [refreshBit i, F.TIER_EVENT_REFRESH_RATE] s (s.setRefresh i on) := by
  rw [State.setRefresh_eq]
  split
  · exact .refl _ _
  · exact ((FieldsStand.refl _ s).setFld _ _ (refreshBit_placed hi) (by simp)).raise _ (by decide) (by simp)

@[simp] theorem State.setRefresh_store (s : State) (i : Nat) (on : Bool) : (s.setRefresh i on).store = s.store := by
  rw [State.setRefresh_eq]
  split
  · rfl
  · simp

/-- A device temperature stands recorded, and told where it is 95 degrees or more. -/
def State.tempRead (s : State) (kind unit temp : Nat) : State :=
  let s := { s with store := { s.store with devTemp := s.store.devTemp.set (64 * kind + unit) temp } }
  if temp ≥ 95 then s.raise F.TIER_EVENT_DEV_HOT else s

@[simp] theorem State.tempRead_store (s : State) (kind unit temp : Nat) :
    (s.tempRead kind unit temp).store = { s.store with devTemp := s.store.devTemp.set (64 * kind + unit) temp } := by
  unfold State.tempRead
  dsimp only
  split <;> simp

theorem State.tempRead_hot (s : State) (kind unit : Nat) {temp : Nat} (h : 95 ≤ temp) :
    (s.tempRead kind unit temp).fld F.TIER_EVENT_DEV_HOT = 1 := by
  rw [State.tempRead, if_pos h]
  exact State.fld_raise_same _ _ (by decide)

/-- Since when a stack reads at or below 80 degrees: noted, or forgotten. -/
def State.setCool (s : State) (l : Tab Nat) : State := { s with store := { s.store with coolSince := l } }

theorem exec_deviceTempRead_hot {s : State} {unit temp : Nat} (hunit : unit < 4) (htemp : 85 < temp) (b : Bool) :
    exec (.deviceTempRead 0 unit temp b) s = .next
      (((s.tempRead 0 unit temp).setCool ((s.tempRead 0 unit temp).store.coolSince.erase unit)).setRefresh unit true) := by
  show execDeviceTempRead 0 unit temp b s = _
  exact (if_neg (show ¬ 4 ≤ unit from Nat.not_le.mpr hunit)).trans (if_pos htemp)

theorem exec_deviceTempRead_cool {s : State} {unit temp since : Nat} {u : State} (hunit : unit < 4) (htemp : temp ≤ 80)
    (hsince : s.store.coolSince.find? unit = some since)
    (hu : u = (s.tempRead 0 unit temp).setCool ((s.tempRead 0 unit temp).store.coolSince.set unit since)) (b : Bool) :
    exec (.deviceTempRead 0 unit temp b) s = .next (if 1000 ≤ s.frame - since then u.setRefresh unit false else u) := by
  have hread : s.tempRead 0 unit temp = { s with store := { s.store with devTemp := s.store.devTemp.set (64 * 0 + unit) temp } } := by
    rw [State.tempRead, if_neg (by omega)]
  have hget : s.store.coolSince.getD unit s.frame = since := by rw [Tab.getD, hsince]; rfl
  rw [hread] at hu
  subst hu
  show execDeviceTempRead 0 unit temp b s = _
  refine (if_neg (show ¬ 4 ≤ unit from Nat.not_le.mpr hunit)).trans ?_
  simp only [ge_iff_le, gt_iff_lt, show ¬ 95 ≤ temp by omega, show ¬ 85 < temp by omega, show ¬ 80 < temp by omega, if_false, hget]
  rfl

theorem exec_deviceTempRead_ddr {s : State} {unit : Nat} (hunit : unit < 16) (temp : Nat) (b : Bool) :
    exec (.deviceTempRead 1 unit temp b) s = .next ((s.tempRead 1 unit temp).setRefresh (4 + unit) b) := by
  show execDeviceTempRead 1 unit temp b s = _
  exact if_neg (show ¬ 16 ≤ unit from Nat.not_le.mpr hunit)

/-! ### Checkpoints (R572) and the brace area (R214) -/

theorem State.checkpoint_only (s : State) : Frame [.store] s s.checkpoint :=
  (State.checkpoint_keeps _ (by decide) (Kept.refl _ _)).only

theorem exec_metadataCheckpoint {s : State} (hup : s.storeUp = true) (hbrace : s.sys.bracing = false)
    (hdue : s.store.checkpointFrame + 2 ^ 20 ≤ s.frame ∨ 2 ^ 24 ≤ s.delta) : exec .metadataCheckpoint s = .next s.checkpoint := by
  show execMetadataCheckpoint s = _
  rw [execMetadataCheckpoint, if_pos (by simpa only [hup, hbrace, Bool.not_false, Bool.and_self, Bool.true_and, Bool.or_eq_true,
    decide_eq_true_eq] using hdue)]

theorem exec_metadataCheckpoint_early {s : State} (hframe : s.frame < s.store.checkpointFrame + 2 ^ 20) (hdelta : s.delta < 2 ^ 24) :
    exec .metadataCheckpoint s = .next s := by
  show execMetadataCheckpoint s = _
  rw [execMetadataCheckpoint, if_neg]
  simp only [Bool.and_eq_true, Bool.or_eq_true, decide_eq_true_eq, Nat.not_le.mpr hframe, Nat.not_le.mpr hdelta, or_self, and_false,
    not_false_eq_true]

/-- A half of the brace area is erased, which is shown and told. -/
def State.eraseHalf (s : State) (half : Nat) : State :=
  ((({ s with store := { s.store with braceHalves := s.store.braceHalves.set (half % 2) { erased := true } } } : State).setFld
    F.TIER_STATUS_BRACE_READY 1).raise F.TIER_EVENT_BRACE_READY)

theorem State.eraseHalf_only (s : State) (half : Nat) : Frame [.regs, .out, .store, .msix] s (s.eraseHalf half) := by
  have hstore : Frame [.regs, .out, .store, .msix] s
      { s with store := { s.store with braceHalves := s.store.braceHalves.set (half % 2) { erased := true } } } := by
    intro p hp
    cases p with
    | store => simp at hp
    | _ => rfl
  exact (hstore.trans ((State.setFld_only _ _ _).mono (by simp))).trans ((State.raise_only _ _).mono (by simp))

theorem exec_braceAreaErased {s : State} {half : Nat} (herased : (s.store.braceHalves.getD (half % 2) {}).erased = false)
    (hspare : (s.store.braceHalves.getD (half % 2) {}).header = false ∨
      (s.store.braceHalves.getD ((half + 1) % 2) {}).header = true ∧
        (s.store.braceHalves.getD (half % 2) {}).frame ≤ (s.store.braceHalves.getD ((half + 1) % 2) {}).frame) :
    exec (.braceAreaErased half) s = .next (s.eraseHalf half) := by
  show execBraceAreaErased half s = _
  refine if_neg ?_
  generalize s.store.braceHalves.getD (half % 2) {} = x at herased hspare
  generalize s.store.braceHalves.getD ((half + 1) % 2) {} = y at hspare
  rcases hspare with h | ⟨h, hframe⟩
  · simp [herased, h]
  · simp [herased, h, hframe]

/-! ### The statement -/

/-- Settles O24: a move by whether it may start and what it ends with, the media by what each reading calls for. -/
theorem chairliftAndMedia : Obligations.ChairliftAndMedia := by
  unfold Obligations.ChairliftAndMedia
  refine ⟨?startRaise, ?startFull, ?startHome, ?switchHome, ?switchRaise, ?switchHeld, ?waitEnds, ?waitFull, ?epochRuns, ?epochEnds,
    ?drift, ?hot, ?cool, ?ddr, ?checkpoint, ?early, ?brace⟩
  case startRaise =>
    intro s n pg tier rest hbrace hrate hflight hraises hbelow hceiling
    exact exec_chairliftMoveStart_raise ⟨hbrace, hrate, hflight⟩ hraises hbelow hceiling n
  case startFull => exact fun s n home h => exec_chairliftMoveStart_full h home n
  case startHome =>
    intro s pg hbrace hrate hflight hdue
    exact exec_chairliftMoveStart_home ⟨hbrace, hrate, hflight⟩ hdue
  case switchHome =>
    intro s pg m hm hhome hfree htxns hheld
    have hwork := (s.takeMove pg m).programPage_work pg
    refine ⟨_, exec_moveDirectorySwitch_home hm hhome hfree htxns hheld, ?_, ?_, State.buffered_programPage _ _, fun j hj => ?_,
      fun q hq => ?_⟩
    · rw [hwork.moves, State.takeMove_store]
    · rw [hwork.mem, State.takeMove_store]
    · rw [State.journal_programPage, List.mem_filter] at hj
      simpa using hj.2
    · rw [State.page_programPage_other _ hq, State.page, State.takeMove_store]
      rfl
  case switchRaise =>
    intro s pg m hm hhome htarget hfree hceiling
    obtain ⟨hwork, hend⟩ := (s.takeMove pg m).endRaise_spec pg m.target
    refine ⟨_, exec_moveDirectorySwitch_raise hm hhome hfree hceiling, ?_, ?_, hend⟩
    · rw [hwork.moves, State.takeMove_store]
    · rw [hwork.mem, State.takeMove_store]
  case switchHeld => exact fun s pg h => exec_moveDirectorySwitch_held h
  case waitEnds =>
    intro s id g e hwait hroom he haccepted hphase hstop hop
    exact exec_journalWaitResume_copy hwait hroom he haccepted hphase hstop hop
  case waitFull => exact fun s id g h => exec_journalWaitResume_full h id
  case epochRuns =>
    intro s h
    show execHeatEpochEnd s = _
    rw [execHeatEpochEnd, if_pos h]
  case epochEnds =>
    intro s h
    refine ⟨_, exec_heatEpochEnd h, rfl, rfl, s.endEpoch_only, fun pg hpg => ?_⟩
    rw [State.page_endEpoch hpg]
    exact ⟨rfl, rfl, rfl⟩
  case drift =>
    intro s kind unit a v osc hunit
    refine ⟨_, exec_driftSample hunit a v osc, ?_, ?_, ?_, fun hfree hpending => ?_, s.sampled_only kind unit a v osc⟩
    · rw [State.training_sampled]
      split <;> rfl
    · rw [State.training_sampled]
      split <;> rfl
    · rw [State.pending_sampled, State.trainingDue]
      simp only [Bool.or_eq_true, decide_eq_true_eq]
      exact or_congr_right or_comm
    · rw [State.pending_sampled, hfree, Bool.false_or] at hpending
      rw [State.training_sampled, hpending, hfree]
      rfl
  case hot =>
    intro s unit temp b hunit htemp
    refine ⟨_, exec_deviceTempRead_hot hunit htemp b, State.bit_setRefresh _ (by omega) true, ?_, fun hhot => ?_⟩
    · rw [State.setRefresh_store, State.setCool, State.tempRead_store]
      simp
    · exact ((State.setRefresh_stands _ (by omega) true).fld (by simp)).trans (s.tempRead_hot 0 unit hhot)
  case cool =>
    intro s unit temp since b hunit htemp hsince
    refine ⟨_, exec_deviceTempRead_cool hunit htemp hsince rfl b, ?_⟩
    by_cases hlong : 1000 ≤ s.frame - since
    · rw [if_pos hlong, State.bit_setRefresh _ (by omega), decide_eq_false (Nat.not_lt.mpr hlong), Bool.and_false]
    · rw [if_neg hlong, decide_eq_true (Nat.lt_of_not_le hlong), Bool.and_true, State.setCool, State.tempRead, if_neg (by omega)]
      rfl
  case ddr =>
    intro s unit temp b hunit
    exact ⟨_, exec_deviceTempRead_ddr hunit temp b, State.bit_setRefresh _ (by omega) b⟩
  case checkpoint =>
    intro s hup hbrace hdue
    exact ⟨_, exec_metadataCheckpoint hup hbrace hdue, rfl, rfl, rfl, rfl, s.checkpoint_only⟩
  case early => exact fun s hframe hdelta => exec_metadataCheckpoint_early hframe hdelta
  case brace =>
    rintro s half x y rfl rfl herased hspare
    refine ⟨_, exec_braceAreaErased herased hspare, ?_, State.fld_raise_same _ _ (by decide), ?_, s.eraseHalf_only half⟩
    · rw [State.eraseHalf, State.fld_raise_other _ _ _ (by decide) (by decide)]
      exact State.fld_setFld_same _ _ _ (by decide)
    · simp [State.eraseHalf]

end Sys2Proof.Machine
end

section
/-!
Compositions: CMP_DEFINE, CMP_DROP, CMP_GRANT, CMP_WITHDRAW and CMP_QUERY (R185, R521 to R528).
-/
namespace Sys2Proof.Machine

open Sys2Proof

/-! ### CMP_DEFINE and CMP_DROP (R521, R534) -/

/-- A composition with the limits that a packet sets. -/
def State.newComp (s : State) (p : Packet) : Comp :=
  { s.comp (mpComp p) with
    limitHbm := mpLimitHbm p, limitDdr := mpLimitDdr p, limitFlash := mpLimitFlash p, poolHbm := mpPoolHbm p, poolDdr := mpPoolDdr p }

/-- Drawing a key pair changes of the rack's state the key pairs alone: where the anchor stands the composition has one. -/
theorem State.drawKey_unsent (s : State) (c : Nat) : ∃ keys, (s.drawKey c).rack.unsent = { s.rack.unsent with keys := keys } ∧
    (s.serverOf (c % s.width) = s.sys.member → keys.has c = true) := by
  unfold State.drawKey
  split
  · next h => exact ⟨s.rack.keys, rfl, fun he => by simp [he] at h⟩
  · refine ⟨s.rack.keys.set c (Config.randomDraw s.fresh % 2 ^ 512),
      foldl_keeps (fun s : State => s.rack.unsent) _ (fun _ _ => State.sendItem_unsent _ _ _) _ _, fun _ => ?_⟩
    rw [Tab.has, Tab.find?_set_same]
    rfl

theorem State.drawKey_entries (s : State) (c : Nat) : (s.drawKey c).cmdq.entries = s.cmdq.entries := by
  unfold State.drawKey
  split
  · rfl
  · exact foldl_entries (fun _ _ => State.sendItem_entries _ _ _ rfl) _ _

theorem State.defineComp_entry (s : State) (p : Packet) (id : Nat) : (s.defineComp p).entry? id = s.entry? id := by
  unfold State.defineComp State.entry?
  dsimp only
  split
  · rfl
  · rw [State.drawKey_entries]
    rfl

theorem State.defineComp_store (s : State) (p : Packet) : (s.defineComp p).store = s.store :=
  (State.defineComp_keeps (m := partsMask [.fresh, .out, .rack, .entries]) _ _ (by decide) (Kept.refl _ _)).only.store_eq (by simp)
    (by simp)

theorem State.defineComp_sys (s : State) (p : Packet) : (s.defineComp p).sys = s.sys :=
  (State.defineComp_keeps (m := partsMask [.fresh, .out, .rack, .entries]) _ _ (by decide) (Kept.refl _ _)).only .sys (by simp)

/-- CMP_DEFINE sets one composition, and draws a key pair for a new one. -/
theorem State.defineComp_unsent (s : State) (p : Packet) : ∃ keys,
    (s.defineComp p).rack.unsent = { s.rack.unsent with comps := s.rack.comps.set (mpComp p) (s.newComp p), keys := keys } ∧
    (s.rack.comps.has (mpComp p) = true → keys = s.rack.keys) ∧
    (s.rack.comps.has (mpComp p) = false → s.serverOf (mpComp p % s.width) = s.sys.member → keys.has (mpComp p) = true) := by
  unfold State.defineComp
  dsimp only
  split
  · next h => exact ⟨s.rack.keys, rfl, fun _ => rfl, fun hno => by rw [h] at hno; cases hno⟩
  · next h =>
    obtain ⟨keys, hrack, hkeys⟩ := (s.setComp (mpComp p) (s.newComp p)).drawKey_unsent (mpComp p)
    exact ⟨keys, hrack, fun hyes => absurd hyes h, fun _ => hkeys⟩

theorem exec_cmpDefine {s : State} {id : Nat} {e : Entry} (h : s.runnable id 0xC8 = some e) : exec (.cmpDefine id) s =
    .next ((s.defineComp e.packet).dispatch id s.everyMember 16 fun o => { o with countDone := e.share s.everyMember.length }) := by
  show execCmpDefine id s = _
  simp only [execCmpDefine, h]

/-- A composition's record and key pair go. -/
def State.dropComp (s : State) (c : Nat) : State :=
  { s with rack := { s.rack with comps := s.rack.comps.erase c, keys := s.rack.keys.erase c } }

theorem State.dropComp_everyMember (s : State) (c : Nat) : (s.dropComp c).everyMember = s.everyMember := rfl

theorem exec_cmpDrop {s : State} {id : Nat} {e : Entry} (h : s.runnable id 0xC9 = some e) : exec (.cmpDrop id) s =
    .next ((s.dropComp (mpComp e.packet)).dispatch id s.everyMember 16 fun o =>
      { o with countDone := e.share s.everyMember.length }) := by
  show execCmpDrop id s = _
  simp only [execCmpDrop, h]
  rfl

/-- What a command that counts every member reports: it has been started, and ends where this member is alone. -/
theorem State.dispatch_everyMember {s : State} {id : Nat} {e : Entry} (he : s.entry? id = some e) (hpart : e.part = false)
    {homes : List Nat} (hhomes : homes.length = 1 → ∀ m ∈ homes, m = s.sys.member) (classes : Nat) :
    let t := s.dispatch id homes classes fun o => { o with countDone := e.share homes.length }
    (t.entry? id).map (fun y => (y.started, y.out.countDone)) = some (true, homes.length) ∧
      (homes.length = 1 → e.items = [] → (t.entry? id).map (·.phase) = some .ended) := by
  refine ⟨?_, fun hone hitems => ?_⟩
  · obtain ⟨x, hx, hstarted, n, hout⟩ := State.dispatch_started (classes := classes) he homes fun o =>
      { o with countDone := e.share homes.length }
    rw [hx, Option.map_some, hstarted, hout]
    simp only [Entry.share, hpart, Bool.false_eq_true, if_false]
  · obtain ⟨n, hended⟩ := State.dispatch_ended he hitems (hhomes hone) classes fun o => { o with countDone := e.share homes.length }
    obtain ⟨x, hx, heq⟩ := Option.map_eq_some_iff.mp hended
    rw [hx, Option.map_some, (Prod.mk.inj heq).1]

/-! ### Slabs that are emptied (R522) -/

theorem State.byte_zeroSlab (s : State) (n a : Nat) : (s.zeroSlab n).byte a = if a / 2 ^ 30 = n then 0 else s.byte a := by
  refine (Memory.get_filter (fun a => a / 2 ^ 30 != n) s.store.mem a).trans ?_
  by_cases h : a / 2 ^ 30 = n
  · rw [if_neg fun hne => bne_iff_ne.mp hne h, if_pos h]
  · rw [if_pos (bne_iff_ne.mpr h), if_neg h, State.byte]

theorem State.gran_zeroSlab (s : State) (n g : Nat) : (s.zeroSlab n).gran g = if g / 8388608 = n then {} else s.gran g := by
  have hfind := Tab.find?_filter_key s.store.grans (fun g => g / 8388608 != n) g
  by_cases h : g / 8388608 = n <;> simp [State.gran, State.zeroSlab, Tab.getD, hfind, h]

/-! ### CMP_GRANT (R185, R522) -/

/-- One slab is granted to a composition: emptied, with the default record, its frames taken. -/
def State.grantSlab (c : Nat) (s : State) (n : Nat) : State :=
  let s := (s.zeroSlab n).setSlab n { comp := some c }
  { s with store := { s.store with
    free := s.store.free.set grantHome.code (s.store.free.getD grantHome.code 0 - s.framesOf n {}) } }

/-- The slabs of a list are granted. -/
def State.grantEach (s : State) (c : Nat) (l : List Nat) : State := l.foldl (State.grantSlab c) s

theorem State.grantSlabs_eq {s : State} {p : Packet} (h : ∀ n ∈ mpSlabList p, (s.slabNo n).comp ≠ some (mpComp p)) :
    s.grantSlabs p = s.grantEach (mpComp p) (mpSlabList p) := by
  have hall : (mpSlabList p).filter (fun n => (s.store.slabs.getD n {}).comp != some (mpComp p)) = mpSlabList p :=
    List.filter_eq_self.mpr fun n hn => by simpa [State.slabNo] using h n hn
  rw [State.grantSlabs, hall]
  rfl

theorem State.slabNo_grantEach (s : State) (c : Nat) (l : List Nat) (n : Nat) :
    (s.grantEach c l).slabNo n = if n ∈ l then { comp := some c } else s.slabNo n :=
  foldl_updates (f := State.grantSlab c) (g := State.slabNo) (key := id) (u := fun _ => { comp := some c })
    (fun u m k => Tab.getD_set (u.zeroSlab m).store.slabs m k _ _) (fun _ => rfl) l s n

theorem State.byte_grantEach (s : State) (c : Nat) (l : List Nat) (a : Nat) :
    (s.grantEach c l).byte a = if a / 2 ^ 30 ∈ l then 0 else s.byte a :=
  foldl_updates (f := State.grantSlab c) (g := State.byte) (key := fun a => a / 2 ^ 30) (u := fun _ => 0)
    (fun u m k => u.byte_zeroSlab m k) (fun _ => rfl) l s a

theorem State.gran_grantEach (s : State) (c : Nat) (l : List Nat) (g : Nat) :
    (s.grantEach c l).gran g = if g / 8388608 ∈ l then {} else s.gran g :=
  foldl_updates (f := State.grantSlab c) (g := State.gran) (key := fun g => g / 8388608) (u := fun _ => {})
    (fun u m k => u.gran_zeroSlab m k) (fun _ => rfl) l s g

/-- Before anything is asked of other members CMP_GRANT is refused, applied, or asks for their frames. -/
theorem exec_cmpGrant {s : State} {id : Nat} {e : Entry} (h : s.runnableStore id 0xCA = some e) (hpart : e.part = false)
    (hstage : e.stage = 0) : exec (.cmpGrant id) s = .next
      (if s.passesLimit e.packet then s.failWith id St.noSpace 0x61
       else if s.store.free.getD grantHome.code 0 < s.grantNeeds (mpSlabList e.packet) then s.failWith id St.noSpace 0x60
       else if s.everyMember.length ≤ 1 then s.applyGrant id e
       else s.reserveAll id e grantHome (s.grantNeeds (mpSlabList e.packet))) := by
  show execCmpGrant id s = _
  simp only [execCmpGrant, h, hpart, hstage, Bool.false_eq_true, if_false, if_true, gt_iff_lt]
  split
  · rfl
  · split
    · rfl
    · split <;> rfl

theorem State.failWith_only (s : State) (id st sub : Nat) : OnlyEntry id s (s.failWith id st sub) := s.modEntry_only id _

/-! ### CMP_WITHDRAW (R522) -/

/-- New captures of the slabs stop. -/
def State.markSlabs (s : State) (l : List Nat) : State :=
  l.foldl (fun s n => s.setSlab n { s.slabNo n with withdrawing := true }) s

theorem State.slabNo_markSlabs (s : State) (l : List Nat) (n : Nat) :
    (s.markSlabs l).slabNo n = if n ∈ l then { s.slabNo n with withdrawing := true } else s.slabNo n := by
  refine foldl_updates (g := State.slabNo) (key := id) (u := fun x => { x with withdrawing := true }) (fun u m k => ?_) (fun _ => rfl) l s n
  simp only [State.slabNo, State.setSlab, Tab.getD_set, id]
  split
  · next h => rw [h]
  · rfl

/-- The commands that captured a byte of the slabs and must end first. -/
def State.withdrawWaits (s : State) (id : Nat) (l : List Nat) : List Nat :=
  (s.entriesWhere fun i e => i != id && e.accepted && e.captures.any fun k =>
    l.any fun n => decide (k.first < (n + 1) * 2 ^ 30) && decide (n * 2 ^ 30 < k.first + k.len)).map (·.1)

theorem State.beginWithdraw_eq (s : State) (id : Nat) (p : Packet) : s.beginWithdraw id p =
    (s.markSlabs (mpSlabList p)).modEntry id fun e => { e with waitsFor := s.withdrawWaits id (mpSlabList p) } := rfl

theorem State.withdrawWaits_nil {s : State} {id : Nat} (h : ∀ c ∈ s.cmdq.entries.cells, c.1 ≠ id → c.2.captures = []) (l : List Nat) :
    s.withdrawWaits id l = [] := by
  have hnone : (s.entriesWhere fun i e => i != id && e.accepted && e.captures.any fun k =>
      l.any fun n => decide (k.first < (n + 1) * 2 ^ 30) && decide (n * 2 ^ 30 < k.first + k.len)) = [] := by
    refine List.filter_eq_nil_iff.mpr fun c hc => ?_
    by_cases hid : c.1 = id
    · simp [hid]
    · simp [h c hc hid]
  rw [State.withdrawWaits, hnone]
  rfl

/-- Step 1 of CMP_WITHDRAW, where it has not been taken yet. -/
def State.stopCaptures (s : State) (id : Nat) (p : Packet) : State :=
  if (mpSlabList p).any fun n => !(s.slabNo n).withdrawing then s.beginWithdraw id p else s

theorem State.stopCaptures_only (s : State) (id : Nat) (p : Packet) : Frame [.store, .entries] s (s.stopCaptures id p) := by
  unfold State.stopCaptures
  split
  · exact (State.beginWithdraw_keeps _ _ _ (by decide) (Kept.refl _ _)).only
  · exact .refl _ _

/-- The slabs are withdrawing, and no other record changes. -/
theorem State.slabNo_stopCaptures (s : State) (id : Nat) (p : Packet) (n : Nat) : (s.stopCaptures id p).slabNo n =
    if n ∈ mpSlabList p then { s.slabNo n with withdrawing := true } else s.slabNo n := by
  unfold State.stopCaptures
  split
  · exact s.slabNo_markSlabs _ n
  · next h =>
    simp only [List.any_eq_true, not_exists, not_and, Bool.not_eq_true, Bool.not_eq_false'] at h
    split
    · next hn =>
      rw [← h n hn]
    · rfl

theorem State.stopCaptures_entry {s : State} {id : Nat} {e : Entry} (he : s.entry? id = some e) (p : Packet) :
    ∃ l, (s.stopCaptures id p).entry? id = some { e with waitsFor := l } ∧ (l = e.waitsFor ∨ l = s.withdrawWaits id (mpSlabList p)) := by
  have hmark : (s.markSlabs (mpSlabList p)).entry? id = some e :=
    (foldl_keeps (fun s : State => s.entry? id) (fun s n => s.setSlab n { s.slabNo n with withdrawing := true }) (fun _ _ => rfl) _ s).trans he
  unfold State.stopCaptures
  split
  · exact ⟨_, State.entry?_modEntry hmark _, .inr rfl⟩
  · exact ⟨e.waitsFor, he, .inl rfl⟩

/-- What CMP_WITHDRAW does once new captures have stopped. -/
def State.goWithdraw (s : State) (id : Nat) (e : Entry) : State :=
  if ((((s.entry? id).map (·.waitsFor)).getD []).any fun w => (s.entry? w).isSome) || s.rawsToSlabs (mpSlabList e.packet) then s
  else match s.walkSlabs id s.sys.member (mpSlabList e.packet) with
  | (s, true) => s
  | (s, false) => (s.freeSlabs (mpSlabList e.packet)).dispatch id s.everyMember 48 fun o =>
      { o with result0 := e.share (mpSlabList e.packet).length, countDone := e.share s.everyMember.length }

theorem exec_cmpWithdraw {s : State} {id : Nat} {e : Entry} (h : s.runnableStore id 0xCB = some e) :
    exec (.cmpWithdraw id) s = .next ((s.stopCaptures id e.packet).goWithdraw id e) := by
  show execCmpWithdraw id s = _
  simp only [execCmpWithdraw, h]
  change _ = Host.Outcome.next (State.goWithdraw
    (if (mpSlabList e.packet).any fun n => !(s.slabNo n).withdrawing then s.beginWithdraw id e.packet else s) id e)
  generalize (if (mpSlabList e.packet).any fun n => !(s.slabNo n).withdrawing then s.beginWithdraw id e.packet else s) = u
  unfold State.goWithdraw
  split
  · rfl
  · obtain ⟨v, waits⟩ := u.walkSlabs id u.sys.member (mpSlabList e.packet)
    cases waits <;> rfl

/-- A walk that finds no endpoint's copy ends at once. -/
def State.walked (s : State) (id : Nat) (l : List Nat) : State :=
  ({ s with coh := { s.coh with walks := s.coh.walks ++ [id] } } : State).endWalk id l

theorem State.walkSlabs_none {s : State} {id : Nat} {l : List Nat} (hfirst : s.coh.walks.contains id = false)
    (hheld : s.heldInSlabs l = []) (hback : s.backPending id = false) (src : Nat) : s.walkSlabs id src l = (s.walked id l, false) := by
  have hheld' : ({ s with coh := { s.coh with walks := s.coh.walks ++ [id] } } : State).heldInSlabs l = [] := hheld
  have hback' : ({ s with coh := { s.coh with walks := s.coh.walks ++ [id] } } : State).backPending id = false := hback
  simp only [State.walkSlabs, hfirst, Bool.false_eq_true, if_false, hheld', List.foldl_nil, hback']
  rfl

theorem State.walked_store (s : State) (id : Nat) (l : List Nat) : (s.walked id l).store = s.store := State.raise_store _ _

theorem State.walked_event (s : State) (id : Nat) (l : List Nat) : (s.walked id l).fld F.COH_EVENT_RECLAIM_DONE = 1 :=
  State.fld_raise_same _ _ (by decide)

theorem State.walked_entry (s : State) (id : Nat) (l : List Nat) (i : Nat) : (s.walked id l).entry? i = s.entry? i :=
  State.entry?_raise _ _ _

theorem State.walked_everyMember (s : State) (id : Nat) (l : List Nat) : (s.walked id l).everyMember = s.everyMember :=
  State.everyMember_congr (by rw [State.walked, State.endWalk, State.raise_rack]) (State.raise_sys _ _)

/-- One slab's pool frames, home frames and mirrors are free, and it is emptied. -/
def State.freeSlab (s : State) (n : Nat) : State :=
  let x := s.slabNo n
  let pages := (s.store.pages.cells.filter fun c => c.1 / 262144 = n).map (·.1)
  let s := pages.foldl (fun (s : State) pg => (s.dropFrame pg .hbm).dropFrame pg .ddr) s
  let back := s.store.free.set x.home.code (s.store.free.getD x.home.code 0 + s.framesOf n x)
  let s := { s with
    store := { s.store with
      free := back.set 1 (back.getD 1 0 + s.ddrMirrors n)
      slabs := s.store.slabs.erase n }
    rack := { s.rack with
      remirror := s.rack.remirror.filter fun m => m.page / 262144 != n
      missing := s.rack.missing.filter fun m => m.slab != n } }
  s.zeroSlab n

theorem State.dropFrames_work (s : State) (pages : List Nat) :
    TierWork s (pages.foldl (fun (s : State) pg => (s.dropFrame pg .hbm).dropFrame pg .ddr) s) :=
  TierWork.foldl (fun u pg => (u.dropFrame_work pg .hbm).trans (State.dropFrame_work _ _ _)) pages s

theorem State.slabNo_freeSlab (s : State) (n k : Nat) : (s.freeSlab n).slabNo k = if k = n then {} else s.slabNo k := by
  have hslabs : (s.freeSlab n).store.slabs = s.store.slabs.erase n := congrArg (Tab.erase · n) (s.dropFrames_work _).slabs
  rw [State.slabNo, hslabs]
  split
  · next h => rw [h, Tab.getD_erase_same]
  · next h => rw [Tab.getD_erase_other _ _ h, State.slabNo]

theorem State.byte_freeSlab (s : State) (n a : Nat) : (s.freeSlab n).byte a = if a / 2 ^ 30 = n then 0 else s.byte a := by
  have hmem := (s.dropFrames_work ((s.store.pages.cells.filter fun c => c.1 / 262144 = n).map (·.1))).mem
  refine (State.byte_zeroSlab _ n a).trans ?_
  rw [State.byte, State.byte, ← hmem]

theorem State.freeSlabs_eq {s : State} {l : List Nat} (h : ∀ n ∈ l, (s.slabNo n).comp.isSome = true) :
    s.freeSlabs l = l.foldl State.freeSlab s := by
  rw [State.freeSlabs, List.filter_eq_self.mpr h]
  rfl

theorem State.freeSlabs_only (s : State) (l : List Nat) : Frame [.store, .rack, .mem] s (s.freeSlabs l) :=
  (State.freeSlabs_keeps _ _ (by decide) (Kept.refl _ _)).only

/-- With nothing to wait for, CMP_WITHDRAW walks the filter, frees the slabs and goes to every member. -/
theorem State.goWithdraw_free {s : State} {id : Nat} {e x : Entry} (hx : s.entry? id = some x) (hwaits : x.waitsFor = [])
    (hraws : s.rawsToSlabs (mpSlabList e.packet) = false) (hheld : s.heldInSlabs (mpSlabList e.packet) = [])
    (hfirst : s.coh.walks.contains id = false) (hback : s.backPending id = false) : s.goWithdraw id e =
      ((s.walked id (mpSlabList e.packet)).freeSlabs (mpSlabList e.packet)).dispatch id s.everyMember 48 fun o =>
        { o with result0 := e.share (mpSlabList e.packet).length, countDone := e.share s.everyMember.length } := by
  rw [State.goWithdraw, if_neg (by simp [hx, hwaits, hraws]), State.walkSlabs_none hfirst hheld hback]
  simp only [State.walked_everyMember]

/-! ### CMP_QUERY (R528) -/

theorem exec_cmpQuery {s : State} {id c : Nat} {e : Entry} (h : s.runnable id 0xCC = some e) (hc : c = mpComp e.packet) :
    exec (.cmpQuery id) s = .next (s.finish id fun o => { o with
      result0 := s.granted c .hbm + 2 ^ 32 * s.granted c .ddr
      result1 := s.granted c .flash
      countDone := (s.xlt.ctxs.cells.filter fun t => t.2.valid && t.2.comp = c).length
      countAux := ((s.comp c).chargedHbm + (s.comp c).chargedDdr) / 2 ^ 20 }) := by
  subst hc
  show execCmpQuery id s = _
  simp only [execCmpQuery, h]
  rfl

end Sys2Proof.Machine
end

section
/-!
The meter: its ticks, the snapshot and METER_QUERY (R612 to R615).
-/
namespace Sys2Proof.Machine

open Sys2Proof

/-! ### Ticks (R612) -/

/-- The compositions that a tick counts: composition 0 is one of them. -/
def State.metered (s : State) : Tab Comp := if s.rack.comps.has 0 then s.rack.comps else s.rack.comps.set 0 {}

/-- A composition after a tick. -/
def State.ticked (s : State) (cycles : List (Nat × Nat)) (c : Nat) (x : Comp) : Comp :=
  x.addTick [s.bytesHeld c .hbm, s.bytesHeld c .ddr, s.bytesHeld c .flash] ((cycles.filter fun y => y.1 = c).map (·.2)).sum s.frame

def State.meterAll (s : State) (cycles : List (Nat × Nat)) : State :=
  { s with rack := { s.rack with comps := s.metered.mapVals (s.ticked cycles) } }

theorem State.find?_metered {s : State} {c : Nat} (h : c = 0 ∨ s.rack.comps.has c = true) : s.metered.find? c = some (s.comp c) := by
  have hhas : s.rack.comps.has c = true → s.rack.comps.find? c = some (s.comp c) := fun hc => by
    obtain ⟨x, hx⟩ := Option.isSome_iff_exists.mp hc
    rw [State.comp, Tab.getD, hx, Option.getD_some]
  unfold State.metered
  split
  · next h0 => exact hhas (h.elim (fun hc => hc ▸ h0) id)
  · next h0 =>
    rw [Tab.find?_set]
    split
    · next hc =>
      have hnone : s.rack.comps.find? 0 = none := Option.isSome_eq_false_iff.mp (Bool.not_eq_true _ ▸ h0) |> Option.isNone_iff_eq_none.mp
      rw [hc, State.comp, Tab.getD, hnone, Option.getD_none]
    · next hc => exact hhas (h.resolve_left hc)

theorem State.comp_meterAll {s : State} {c : Nat} (h : c = 0 ∨ s.rack.comps.has c = true) (cycles : List (Nat × Nat)) :
    (s.meterAll cycles).comp c = s.ticked cycles c (s.comp c) := by
  have hfind : (s.meterAll cycles).rack.comps.find? c = some (s.ticked cycles c (s.comp c)) := by
    rw [State.meterAll, Tab.find?_mapVals, State.find?_metered h, Option.map_some]
  rw [State.comp, Tab.getD, hfind, Option.getD_some]

theorem State.meterAll_only (s : State) (cycles : List (Nat × Nat)) : Frame [.rack] s (s.meterAll cycles) := by
  intro p hp
  cases p with
  | rack => simp at hp
  | _ => rfl

theorem exec_meteringTick {s : State} (hframe : s.frame % 31250 = 0) (hup : s.storeUp = true) (hbrace : s.sys.bracing = false)
    (honce : ∀ x ∈ (s.comp 0).ticks, x.1 ≠ s.frame) (cycles : List (Nat × Nat)) :
    exec (.meteringTick cycles) s = .next (s.meterAll cycles) := by
  have hany : ((s.comp 0).ticks.any fun t => t.1 = s.frame) = false := by simpa using honce
  refine (if_neg ?_ : execMeteringTick cycles s = _)
  simp [hframe, hup, hbrace, hany]

theorem exec_meteringTick_idle {s : State} (h : s.frame % 31250 ≠ 0 ∨ s.storeUp = false ∨ s.sys.bracing = true)
    (cycles : List (Nat × Nat)) : exec (.meteringTick cycles) s = .next s := by
  refine (if_pos ?_ : execMeteringTick cycles s = _)
  obtain h | h | h := h <;> simp [h]

/-! ### MGT_METER_CTRL.SNAP (R614) -/

/-- Words put into registers that stand once. -/
def State.putRegs (s : State) (l : List (Nat × Nat)) : State := l.foldl (fun s x => s.setRegAt 0 x.1 (BitVec.ofNat 32 x.2)) s

theorem State.putRegs_only (s : State) (l : List (Nat × Nat)) : Frame [.regs] s (s.putRegs l) := by
  induction l generalizing s with
  | nil => exact .refl _ _
  | cons x l ih => exact (s.setRegAt_only _ _ _).trans (ih _)

theorem State.regAt_putRegs_other {l : List (Nat × Nat)} {off : Nat} (h : regKey 0 off ∉ l.map fun x => regKey 0 x.1) (s : State) :
    (s.putRegs l).regAt 0 off = s.regAt 0 off := by
  induction l generalizing s with
  | nil => rfl
  | cons x l ih =>
    obtain ⟨hx, hl⟩ := not_or.mp (mt List.mem_cons.mpr h)
    exact (ih hl _).trans (State.regAt_setRegAt_other _ _ hx)

/-- Of words put into different registers each stands where it was put. -/
theorem State.regAt_putRegs {l : List (Nat × Nat)} (hkeys : (l.map fun x => regKey 0 x.1).Nodup) {x : Nat × Nat} (hx : x ∈ l) (s : State) :
    (s.putRegs l).regAt 0 x.1 = BitVec.ofNat 32 x.2 := by
  induction l generalizing s with
  | nil => cases hx
  | cons y l ih =>
    obtain ⟨hy, hl⟩ := List.nodup_cons.mp hkeys
    obtain rfl | hx := List.mem_cons.mp hx
    · exact (State.regAt_putRegs_other hy _).trans (State.regAt_setRegAt_same _ _ _ _)
    · exact ih hl hx _

/-- The words of a snapshot, with their registers. -/
def meterWords (tick : Nat) (v : List Nat) : List (Nat × Nat) :=
  [(F.MGT_METER_TICK_LO_FRAME.off, tick), (F.MGT_METER_TICK_HI_FRAME.off, tick / 2 ^ 32)] ++
    (List.range 4).flatMap fun i => [(F.MGT_METER_LO_VALUE.off + 8 * i, v.getD i 0), (F.MGT_METER_HI_VALUE.off + 8 * i, v.getD i 0 / 2 ^ 32)]

theorem meterWords_keys (tick : Nat) (v : List Nat) : ((meterWords tick v).map fun x => regKey 0 x.1).Nodup := by
  have hkeys : ((meterWords tick v).map fun x => regKey 0 x.1) = (meterWords 0 []).map fun x => regKey 0 x.1 := rfl
  rw [hkeys]
  decide

theorem mem_meterWords {i : Nat} (hi : i < 4) (tick : Nat) (v : List Nat) :
    (F.MGT_METER_LO_VALUE.off + 8 * i, v.getD i 0) ∈ meterWords tick v ∧
      (F.MGT_METER_HI_VALUE.off + 8 * i, v.getD i 0 / 2 ^ 32) ∈ meterWords tick v :=
  ⟨List.mem_append_right _ (List.mem_flatMap.mpr ⟨i, List.mem_range.mpr hi, List.mem_cons_self⟩),
    List.mem_append_right _ (List.mem_flatMap.mpr ⟨i, List.mem_range.mpr hi, List.mem_cons_of_mem _ List.mem_cons_self⟩)⟩

theorem exec_mgtMeterSnap {src : Nat} (hsrc : src < 128) (hpf : src % 64 = 0) (s : State) :
    exec (.mgtMeterSnap src) s = .next (s.putRegs (meterWords (((s.comp 0).ticks.head?.map (·.1)).getD 0)
      ((s.meterAt (s.fld F.MGT_METER_SEL_COMP) (((s.comp 0).ticks.head?.map (·.1)).getD 0)).getD [0, 0, 0, 0]))) := by
  refine (if_neg ?_ : execMgtMeterSnap src s = _)
  simp [isPf, hsrc, hpf]

/-! ### METER_QUERY (R615) -/

/-- A command that has asked the members for their counters. -/
def Entry.metering (e : Entry) (reply : List Nat) : Entry :=
  { e with started := true, moving := true, begun := e.begun ||| 4, reply := reply }

/-- The entry of METER_QUERY with this member's own report noted. -/
def State.meterEntry (s : State) (e : Entry) : Entry :=
  e.metering (s.meterReport (bf e.packet 107 96) (meterTick e.acceptFrame))

/-- METER_QUERY has begun: this member's own report is noted. -/
def State.beginMeter (s : State) (id : Nat) (e : Entry) : State :=
  s.modEntry id fun x => x.metering (s.meterReport (bf e.packet 107 96) (meterTick e.acceptFrame))

theorem State.entry?_beginMeter {s : State} {id : Nat} {e : Entry} (he : s.entry? id = some e) :
    (s.beginMeter id e).entry? id = some (s.meterEntry e) := State.entry?_modEntry he _

theorem State.meterReport_some {s : State} {c tick : Nat} {v : List Nat} (h : s.meterAt c tick = some v) :
    s.meterReport c tick = s.sys.member :: 1 :: v := by
  rw [State.meterReport, h]
  rfl

theorem State.meterReport_none {s : State} {c tick : Nat} (h : s.meterAt c tick = none) : s.meterReport c tick = [] := by
  rw [State.meterReport, h]

theorem State.others_alone {s : State} (h : s.everyMember.length ≤ 1) : (s.everyMember.filter fun m => m != s.sys.member) = [] := by
  simp [State.everyMember_alone h]

theorem State.others_ne_nil {s : State} (h : 1 < s.everyMember.length) : (s.everyMember.filter fun m => m != s.sys.member) ≠ [] := by
  have hvoting : (s.voting.filter fun m => m != s.sys.member) ≠ [] := fun hnil => by simp [State.everyMember, hnil] at h
  simpa [State.everyMember] using hvoting

/-- What METER_QUERY writes where this member reports the four counters at a tick. -/
def meterOut (tick a b c d : Nat) : List Byte :=
  toLe 8 tick ++ toLe 8 a ++ toLe 8 b ++ toLe 8 c ++ toLe 8 d ++ toLe 8 0 ++ toLe 16 0

theorem exec_meterQuery_alone {s : State} {id : Nat} {e : Entry} (h : s.resumable id 0xD0 = some e) (hstarted : e.started = false)
    (halone : s.everyMember.length ≤ 1) :
    exec (.meterQuery id) s = .next ((s.beginMeter id e).endMeter id (s.meterEntry e)) := by
  have hentry := State.entry?_beginMeter (State.resumable_spec h).1
  have hnone : ((s.beginMeter id e).everyMember.filter fun m => m != (s.beginMeter id e).sys.member) = [] := State.others_alone halone
  unfold State.beginMeter Entry.metering at hentry hnone
  show execMeterQuery id s = _
  simp only [execMeterQuery, h, hstarted, Bool.not_false, if_true, hnone, List.foldl_nil, hentry, List.isEmpty_nil]
  rfl

theorem State.putResults_entry {s : State} {id : Nat} {e : Entry} (he : s.entry? id = some e) (hslot : e.slot.isSome = true)
    (data : List Byte) : ∃ area, (s.putResults id data).entry? id = some { e with pend := data, out := { e.out with area := area } } := by
  obtain ⟨slot, hslot⟩ := Option.isSome_iff_exists.mp hslot
  rw [State.putResults, he]
  dsimp only
  rw [hslot]
  exact ⟨_, State.entry?_setEntry_same _ _ _⟩

theorem State.putResults_only (s : State) (id : Nat) (data : List Byte) : OnlyEntry id s (s.putResults id data) := by
  unfold State.putResults
  split
  · exact ⟨.refl _ _, fun _ _ => rfl⟩
  · split
    · exact ⟨.refl _ _, fun _ _ => rfl⟩
    · exact onlyEntry_setEntry _ _ _

theorem State.endMeter_only (s : State) (id : Nat) (e : Entry) : OnlyEntry id s (s.endMeter id e) :=
  (s.putResults_only id _).trans (State.modEntry_only _ id _)

/-- Alone, with its own report: the command writes the counters of one member, none silent. -/
theorem State.endMeter_reported {s : State} {a b c d : Nat} {e : Entry} (hmembers : s.everyMember = [s.sys.member])
    (hreply : e.reply = [s.sys.member, 1, a, b, c, d]) (id : Nat) :
    s.endMeter id e = (s.putResults id (meterOut (meterTick e.acceptFrame) a b c d)).finish id fun o =>
      { o with status := St.done, subcode := 0, result0 := meterTick e.acceptFrame, countDone := 1, countAux := 0 } := by
  have hreports : meterReports 64 e.reply = [[s.sys.member, 1, a, b, c, d]] := by rw [hreply]; rfl
  simp only [State.endMeter, hreports, hmembers, List.map_cons, List.map_nil, List.getD_cons_zero, List.contains_cons, beq_self_eq_true,
    Bool.true_or, Bool.not_true, List.filter_cons, Bool.false_eq_true, if_false, List.filter_nil]
  rfl

/-- Alone, without a report: this member is the one that is silent. -/
theorem State.endMeter_silent {s : State} {id : Nat} {e x : Entry} (hx : s.entry? id = some x) (hslot : x.slot.isSome = true)
    (hmembers : s.everyMember = [s.sys.member]) (hreply : e.reply = []) :
    ((s.endMeter id e).entry? id).map (fun y => (y.phase, y.out.result0, y.out.countDone, y.out.countAux)) =
      some (.ended, meterTick e.acceptFrame, 0, 1) := by
  have hreports : meterReports 64 e.reply = [] := by rw [hreply]; rfl
  obtain ⟨area, hput⟩ := State.putResults_entry hx hslot (toLe 8 (meterTick e.acceptFrame) ++ toLe 8 0 ++ toLe 8 0 ++ toLe 8 0 ++ toLe 8 0 ++
    toLe 8 (2 ^ s.sys.member) ++ toLe 16 0)
  simp only [State.endMeter, hreports, hmembers, List.map_nil, List.contains_nil, Bool.not_false, List.filter_true]
  exact (State.finish_ended hput _).report fun o => (o.result0, o.countDone, o.countAux)

/-- Where other members are asked, the command waits for one answer from each. -/
theorem exec_meterQuery_asks {s : State} {id : Nat} {e : Entry} (h : s.resumable id 0xD0 = some e) (hstarted : e.started = false)
    (hmany : 1 < s.everyMember.length) : ∃ t l, exec (.meterQuery id) s = .next t ∧
      t.entry? id = some { s.meterEntry e with items := e.items ++ l } ∧
      l.map Item.home = s.everyMember.filter fun m => m != s.sys.member := by
  obtain ⟨l, hl, hhomes⟩ := State.foldl_sendItem_entry (n := 4)
    (x := fun _ m => { owner := some id, home := m, epoch := e.epoch, role := true, slot := 64, kind := 4,
                       data := bvBytes e.packet 0 64 ++ toLe 8 (meterTick e.acceptFrame) })
    (fun _ _ => rfl) (fun _ _ => rfl) (s.everyMember.filter fun m => m != s.sys.member)
    (State.entry?_beginMeter (State.resumable_spec h).1)
  refine ⟨_, l, ?_, hl, hhomes⟩
  show execMeterQuery id s = _
  simp only [execMeterQuery, h, hstarted, Bool.not_false, if_true]
  split
  · exact congrArg Host.Outcome.next (if_neg (mt List.isEmpty_iff.mp (State.others_ne_nil hmany)))
  · next hnone => exact absurd (hnone.symm.trans hl) (by simp)

end Sys2Proof.Machine
end

section
/-!
Compositions and the meter, put together (R185, R521 to R525, R612 to R615).
-/
namespace Sys2Proof.Machine

open Sys2Proof

/-- What CMP_GRANT leaves where this member is alone and the frames suffice: the slabs are the composition's, and empty. -/
theorem State.applyGrant_spec {s : State} {id : Nat} {e : Entry} (he : s.entry? id = some e) (hpart : e.part = false)
    (hnew : ∀ n ∈ mpSlabList e.packet, (s.slabNo n).comp ≠ some (mpComp e.packet)) (halone : s.everyMember.length = 1)
    (hitems : e.items = []) :
    (s.applyGrant id e).store = (s.grantEach (mpComp e.packet) (mpSlabList e.packet)).store ∧
      ((s.applyGrant id e).entry? id).map (fun y => (y.phase, y.out.result0, y.out.countDone)) =
        some (.ended, mpSlabs e.packet, 1) := by
  have hframe : Frame [.store, .mem] s (s.grantSlabs e.packet) := (State.grantSlabs_keeps _ _ (by decide) (Kept.refl _ _)).only
  have hentry : (s.grantSlabs e.packet).entry? id = some e :=
    (congrArg (fun t : Tab Entry => t.find? id) (hframe .entries (by simp))).trans he
  have hmembers : ∀ m ∈ s.everyMember, m = (s.grantSlabs e.packet).sys.member := by
    rw [show (s.grantSlabs e.packet).sys = s.sys from hframe .sys (by simp)]
    exact State.mem_everyMember_alone halone.le
  obtain ⟨k, hended⟩ := State.dispatch_ended hentry hitems hmembers 16 fun o =>
    { o with result0 := e.share (mpSlabs e.packet), countDone := e.share s.everyMember.length }
  refine ⟨(State.dispatch_store _ _ _ _ _).trans (congrArg State.store (State.grantSlabs_eq hnew)), ?_⟩
  refine (hended.report fun o => (o.result0, o.countDone)).trans ?_
  simp only [Entry.share, hpart, Bool.false_eq_true, if_false, halone]

/-- Freed along a list, the slabs of the list and no others are emptied. -/
theorem State.freeSlabs_spec {s : State} {l : List Nat} (h : ∀ n ∈ l, (s.slabNo n).comp.isSome = true) :
    (∀ n, (s.freeSlabs l).slabNo n = if n ∈ l then {} else s.slabNo n) ∧
      ∀ a, (s.freeSlabs l).byte a = if a / 2 ^ 30 ∈ l then 0 else s.byte a := by
  rw [State.freeSlabs_eq h]
  exact ⟨fun n => foldl_updates (f := State.freeSlab) (g := State.slabNo) (key := id) (u := fun _ => {})
      State.slabNo_freeSlab (fun _ => rfl) l s n,
    fun a => foldl_updates (f := State.freeSlab) (g := State.byte) (key := fun a => a / 2 ^ 30) (u := fun _ => 0)
      State.byte_freeSlab (fun _ => rfl) l s a⟩

/-- With nothing to wait for, CMP_WITHDRAW empties the slabs and no others, and reports what it freed. -/
theorem State.goWithdraw_spec {s : State} {id : Nat} {e x : Entry} (hx : s.entry? id = some x) (hwaits : x.waitsFor = [])
    (hraws : s.rawsToSlabs (mpSlabList e.packet) = false) (hheld : s.heldInSlabs (mpSlabList e.packet) = [])
    (hfirst : s.coh.walks.contains id = false) (hback : s.backPending id = false)
    (hgranted : ∀ n ∈ mpSlabList e.packet, (s.slabNo n).comp.isSome = true) :
    (∀ n, (s.goWithdraw id e).slabNo n = if n ∈ mpSlabList e.packet then {} else s.slabNo n) ∧
      (∀ a, (s.goWithdraw id e).byte a = if a / 2 ^ 30 ∈ mpSlabList e.packet then 0 else s.byte a) ∧
      (s.goWithdraw id e).fld F.COH_EVENT_RECLAIM_DONE = 1 ∧
      ((s.goWithdraw id e).entry? id).map (fun y => (y.started, y.out.result0, y.out.countDone)) =
        some (true, e.share (mpSlabList e.packet).length, e.share s.everyMember.length) := by
  have hstore := s.walked_store id (mpSlabList e.packet)
  have hslabNo : (s.walked id (mpSlabList e.packet)).slabNo = s.slabNo := by
    funext n
    rw [State.slabNo, hstore, State.slabNo]
  have hbyte : (s.walked id (mpSlabList e.packet)).byte = s.byte := by
    funext a
    rw [State.byte, hstore, State.byte]
  have hframe := (s.walked id (mpSlabList e.packet)).freeSlabs_only (mpSlabList e.packet)
  have hentry : ((s.walked id (mpSlabList e.packet)).freeSlabs (mpSlabList e.packet)).entry? id = some x :=
    (congrArg (fun t : Tab Entry => t.find? id) (hframe .entries (by simp))).trans ((s.walked_entry id _ id).trans hx)
  obtain ⟨hslabs, hbytes⟩ := State.freeSlabs_spec (s := s.walked id (mpSlabList e.packet)) (hslabNo ▸ hgranted)
  obtain ⟨y, hy, hstarted, k, hout⟩ := State.dispatch_started (classes := 48) hentry s.everyMember fun o =>
    { o with result0 := e.share (mpSlabList e.packet).length, countDone := e.share s.everyMember.length }
  rw [State.goWithdraw_free hx hwaits hraws hheld hfirst hback]
  refine ⟨fun n => ?_, fun a => ?_, ?_, ?_⟩
  · rw [State.slabNo, State.dispatch_store, ← State.slabNo, hslabs, hslabNo]
  · rw [State.byte, State.dispatch_store, ← State.byte, hbytes, hbyte]
  · exact (State.fld_congr ((State.dispatch_regs _ _ _ _ _).trans (hframe .regs (by simp))) _).trans (s.walked_event id _)
  · rw [hy, Option.map_some, hstarted, hout]

/-- Settles O50: each composition command by its equation, the slabs slab by slab, the meter by what a tick, a snapshot and a query do. -/
theorem compositions : Obligations.Compositions := by
  unfold Obligations.Compositions
  refine ⟨?define, ?drop, ?grant, ?withdraw, ?query, ?tick, ?noTick, ?snap, ?meterAlone, ?meterAsks⟩
  case define =>
    rintro s id c e h hpart rfl
    obtain ⟨keys, hrack, hold, hnew⟩ := s.defineComp_unsent e.packet
    have hunsent := (State.dispatch_unsent (s.defineComp e.packet) id s.everyMember 16 fun o =>
      { o with countDone := e.share s.everyMember.length }).trans hrack
    have hcomps := congrArg RackState.comps hunsent
    have hkeys := congrArg RackState.keys hunsent
    obtain ⟨hstarted, hended⟩ := State.dispatch_everyMember (homes := s.everyMember)
      ((s.defineComp_entry e.packet id).trans (State.runnable_spec h).1) hpart
      (fun hone => by rw [s.defineComp_sys e.packet]; exact State.mem_everyMember_alone hone.le) 16
    refine ⟨_, exec_cmpDefine h, ?_, ?_, fun d hd => ?_, ?_, fun hno hanchor => ?_, fun hyes => ?_, hstarted, hended⟩
    · rw [State.dispatch_store, State.defineComp_store]
    · exact (congrArg (Tab.has · _) hcomps).trans (by rw [Tab.has, Tab.find?_set_same]; rfl)
    · exact (congrArg (Tab.getD · d {}) hcomps).trans (Tab.getD_set_other _ _ _ hd)
    · exact (congrArg (Tab.getD · _ {}) hcomps).trans (Tab.getD_set_same _ _ _ _)
    · exact (congrArg (Tab.has · _) hkeys).trans (hnew hno hanchor)
    · exact hkeys.trans (hold hyes)
  case drop =>
    rintro s id c e h hpart rfl
    have hunsent := State.dispatch_unsent (s.dropComp (mpComp e.packet)) id s.everyMember 16 fun o =>
      { o with countDone := e.share s.everyMember.length }
    obtain ⟨hstarted, hended⟩ := State.dispatch_everyMember (s := s.dropComp (mpComp e.packet)) (State.runnable_spec h).1 hpart
      (fun hone => State.mem_everyMember_alone (s := s) hone.le) 16
    exact ⟨_, exec_cmpDrop h, State.dispatch_store _ _ _ _ _, congrArg RackState.comps hunsent, congrArg RackState.keys hunsent,
      hstarted, hended⟩
  case grant =>
    rintro s id e l h hpart hstage rfl hnew
    have he := State.runnableStore_entry h
    refine ⟨_, exec_cmpGrant h hpart hstage, fun hlimit => ?_, fun hlimit hshort => ?_, fun hlimit hfree hone hitems => ?_,
      fun hlimit hfree hmany => ?_⟩
    · rw [if_pos hlimit]
      exact ⟨State.failWith_only _ _ _ _, (State.finish_ended he _).report fun o => (o.status, o.subcode)⟩
    · rw [if_neg (by simp [hlimit]), if_pos hshort]
      exact ⟨State.failWith_only _ _ _ _, (State.finish_ended he _).report fun o => (o.status, o.subcode)⟩
    · rw [if_neg (by simp [hlimit]), if_neg (Nat.not_lt.mpr hfree), if_pos hone.le]
      obtain ⟨hstore, hended⟩ := State.applyGrant_spec he hpart hnew hone hitems
      have hslabs := fun n => (congrArg (fun x : StoreState => x.slabs.getD n {}) hstore).trans (State.slabNo_grantEach s _ _ n)
      have hbytes := fun a => (congrArg (fun x : StoreState => Memory.get x.mem a) hstore).trans (State.byte_grantEach s _ _ a)
      have hgrans := fun g => (congrArg (fun x : StoreState => x.grans.getD g {}) hstore).trans (State.gran_grantEach s _ _ g)
      exact ⟨fun n hn => (hslabs n).trans (if_pos hn), fun n hn => (hslabs n).trans (if_neg hn), fun a ha => (hbytes a).trans (if_pos ha),
        fun a ha => (hbytes a).trans (if_neg ha), fun g hg => congrArg Gran.wgen ((hgrans g).trans (if_pos hg)), hended⟩
    · rw [if_neg (by simp [hlimit]), if_neg (Nat.not_lt.mpr hfree), if_neg (Nat.not_le.mpr hmany)]
      obtain ⟨hslabs, hmem, hentry⟩ := State.reserveAll_report he grantHome (s.grantNeeds (mpSlabList e.packet))
      exact ⟨hslabs, hmem, by rw [hentry, State.runnable_phase (State.runnableStore_runnable h)]⟩
  case withdraw =>
    rintro s id e l h hpart rfl hgranted
    have hframe := s.stopCaptures_only id e.packet
    obtain ⟨waits, hentry, hwaits⟩ := State.stopCaptures_entry (State.runnableStore_entry h) e.packet
    have hslab := s.slabNo_stopCaptures id e.packet
    have hmem : (s.stopCaptures id e.packet).store.mem = s.store.mem := hframe .mem (by simp)
    refine ⟨fun ⟨r, hr, hin⟩ => ?_, fun hcaptures hnone hraws hheld hfirst hback => ?_⟩
    · have hraws : (s.stopCaptures id e.packet).rawsToSlabs (mpSlabList e.packet) = true := by
        rw [State.rawsToSlabs, show (s.stopCaptures id e.packet).xlt = s.xlt from hframe .xlt (by simp)]
        exact List.any_eq_true.mpr ⟨r, hr, List.contains_iff_mem.mpr hin⟩
      refine ⟨s.stopCaptures id e.packet, (exec_cmpWithdraw h).trans (by rw [State.goWithdraw, hraws, Bool.or_true, if_pos rfl]), hmem,
        fun n hn => by rw [hslab, if_pos hn], ?_⟩
      rw [hentry, Option.map_some, State.runnable_phase (State.runnableStore_runnable h)]
    · have hcoh : (s.stopCaptures id e.packet).coh = s.coh := hframe .coh (by simp)
      have hwaits : waits = [] := hwaits.elim (·.trans hnone) (·.trans (State.withdrawWaits_nil hcaptures _))
      have hcomp : ∀ n ∈ mpSlabList e.packet, ((s.stopCaptures id e.packet).slabNo n).comp.isSome = true := fun n hn => by
        rw [hslab, if_pos hn]
        exact hgranted n hn
      obtain ⟨hslabs, hbytes, hevent, hreport⟩ := State.goWithdraw_spec hentry hwaits
        (by rw [State.rawsToSlabs, show (s.stopCaptures id e.packet).xlt = s.xlt from hframe .xlt (by simp)]; exact hraws)
        (by rw [State.heldInSlabs, hcoh]; exact hheld) (by rw [hcoh]; exact hfirst) (by rw [State.backPending, hcoh]; exact hback) hcomp
      refine ⟨_, exec_cmpWithdraw h, fun n hn => ?_, fun n hn => ?_, fun a ha => ?_, fun a ha => ?_, hevent, ?_⟩
      · rw [hslabs, if_pos hn]
      · rw [hslabs, if_neg hn, hslab, if_neg hn]
      · rw [hbytes, if_pos ha]
      · rw [hbytes, if_neg ha, State.byte, hmem, State.byte]
      · rw [hreport, State.everyMember_congr (congrArg RackState.map (hframe .rack (by simp))) (hframe .sys (by simp))]
        simp only [Entry.share, hpart, Bool.false_eq_true, if_false]
  case query =>
    rintro s id c e h rfl
    exact ⟨_, exec_cmpQuery h rfl, State.modEntry_only _ _ _,
      (State.finish_ended (State.runnable_spec h).1 _).report fun o => (o.result0, o.result1, o.countAux)⟩
  case tick =>
    intro s cycles hframe hup hbrace honce
    exact ⟨_, exec_meteringTick hframe hup hbrace honce cycles, s.meterAll_only cycles, fun c hc => State.comp_meterAll hc cycles⟩
  case noTick => exact fun s cycles h => exec_meteringTick_idle h cycles
  case snap =>
    rintro s src tick v hsrc hpf rfl rfl
    refine ⟨_, exec_mgtMeterSnap hsrc hpf s, State.putRegs_only _ _, ?_, ?_, fun i hi => ?_⟩
    · exact State.regAt_putRegs (meterWords_keys _ _) List.mem_cons_self s
    · exact State.regAt_putRegs (meterWords_keys _ _) (List.mem_cons_of_mem _ List.mem_cons_self) s
    · obtain ⟨hlo, hhi⟩ := mem_meterWords hi (((s.comp 0).ticks.head?.map (·.1)).getD 0)
        ((s.meterAt (s.fld F.MGT_METER_SEL_COMP) (((s.comp 0).ticks.head?.map (·.1)).getD 0)).getD [0, 0, 0, 0])
      exact ⟨State.regAt_putRegs (meterWords_keys _ _) hlo s, State.regAt_putRegs (meterWords_keys _ _) hhi s⟩
  case meterAlone =>
    rintro s id T e h hstarted rfl hone hslot
    have hmembers : (s.beginMeter id e).everyMember = [(s.beginMeter id e).sys.member] := State.everyMember_alone hone.le
    have hentry := State.entry?_beginMeter (State.resumable_spec h).1
    refine ⟨_, exec_meterQuery_alone h hstarted hone.le, (State.modEntry_only _ _ _).trans (State.endMeter_only _ _ _),
      fun a b c d hat => ?_, fun hat => State.endMeter_silent hentry hslot hmembers (State.meterReport_none hat)⟩
    obtain ⟨area, hput⟩ := State.putResults_entry hentry hslot (meterOut (meterTick e.acceptFrame) a b c d)
    rw [State.endMeter_reported hmembers (State.meterReport_some hat)]
    exact ⟨(State.finish_ended hput _).report fun o => (o.result0, o.countDone, o.countAux),
      congrArg (Option.map (·.pend)) (State.entry?_modEntry hput _)⟩
  case meterAsks =>
    intro s id e h hstarted hmany
    obtain ⟨t, l, ht, hentry, hhomes⟩ := exec_meterQuery_asks h hstarted hmany
    refine ⟨t, ht, ?_⟩
    rw [hentry, Option.map_some, List.map_append, List.drop_left' (List.length_map _), hhomes]
    exact congrArg (fun p => some (p, _)) (State.resumable_spec h).2.2

end Sys2Proof.Machine
end

section
/-!
Embedding tables at their anchor (R260, R266 to R271, R287 to R289): what each command does there and what it reports.
-/
namespace Sys2Proof.Machine

open Sys2Proof

/-! ### What every member's phase leaves standing (R260) -/

@[simp] theorem State.dispatch_emb (s : State) (id : Nat) (homes : List Nat) (classes : Nat) (f : Outcome → Outcome) :
    (s.dispatch id homes classes f).emb = s.emb :=
  (State.dispatch_keeps (m := partsMask [.out, .rack, .entries]) s id homes classes f (by decide) (Kept.refl _ _)).only .emb (by simp)

@[simp] theorem State.embTable_dispatch (s : State) (id : Nat) (homes : List Nat) (classes : Nat) (f : Outcome → Outcome) (k : Nat) :
    (s.dispatch id homes classes f).embTable k = s.embTable k := by
  rw [State.embTable, State.dispatch_emb, State.embTable]

/-- What a command reports that its anchor has served: a result and a number of members, each counted once (R260, R34). -/
theorem State.dispatch_served {s : State} {id : Nat} {e : Entry} (he : s.entry? id = some e) (hpart : e.part = false) (homes : List Nat)
    (classes result members : Nat) :
    ((s.dispatch id homes classes fun o => { o with result0 := e.share result, countDone := e.share members }).entry? id).map
      (fun x => (x.started, x.out.result0, x.out.countDone)) = some (true, result, members) := by
  obtain ⟨x, hx, hstarted, n, hout⟩ := State.dispatch_started (classes := classes) he homes fun o =>
    { o with result0 := e.share result, countDone := e.share members }
  rw [hx, Option.map_some, hstarted, hout]
  simp only [Entry.share, hpart, Bool.false_eq_true, if_false]

/-- A refused command has ended with its refusal. -/
theorem State.failWith_ended {s : State} {id : Nat} {e : Entry} (he : s.entry? id = some e) (st sub r0 : Nat) :
    (s.failWith id st sub r0).Ended id { e.out with status := st, subcode := sub, result0 := r0, absent := 0xFF } :=
  State.finish_ended he _

/-- A command that goes whole to its anchor awaits one more item, from there. -/
theorem State.forward_homes {s : State} {id : Nat} {e : Entry} (he : s.entry? id = some e) (anchor classes : Nat) :
    ((s.forward id anchor classes).entry? id).map (fun x => x.items.map (·.home)) = some (e.items.map (·.home) ++ [anchor]) := by
  have hsent : (s.sendPhase id anchor classes true).entry? id = some { e with
      items := e.items ++ [{ home := anchor, id := s.rack.nextItem, classes := classes, begun := false }] } := by
    simp only [State.sendPhase, he]
    exact State.sendItem_entry rfl he
  rw [State.forward, State.conclude, State.entry?_modEntry hsent, Option.map_some, List.map_append]
  rfl

/-! ### One table changes -/

@[simp] theorem State.embTable_setEmbTable (s : State) (k : Nat) (x : EmbTable) (j : Nat) :
    (s.setEmbTable k x).embTable j = if j = k then some x else s.embTable j := Tab.find?_set _ _ _ _

@[simp] theorem State.embTable_raise (s : State) (ev : Fld) (k : Nat) : (s.raise ev).embTable k = s.embTable k := by
  rw [State.embTable, State.raise_emb, State.embTable]

@[simp] theorem State.embTable_dropTable (s : State) (k j : Nat) :
    (s.dropTable k).embTable j = if j = k then none else s.embTable j := by
  split
  · next h => subst h; exact Tab.find?_erase_same _ _
  · next h => exact Tab.find?_erase_other _ h

theorem State.switchTable_eq {s : State} {k source : Nat} {x y : EmbTable} (hx : s.embTable k = some x)
    (hy : s.embTable source = some y) : s.switchTable k source =
      (s.setEmbTable k { x with version := (x.version + 1) % 2 ^ 32, loc := y.loc, old := some x.loc }).raise F.EMB_EVENT_PUBLISHED := by
  simp only [State.switchTable, hx, hy]

/-! ### The commands (R260, R266, R270, R271, R287 to R289) -/

section

variable {s : State} {id : Nat} {e : Entry}

theorem exec_embDefine (h : s.runnable id 0x40 = some e) (hanchor : s.embAnchor (epTable e.packet) = s.sys.member)
    (hpart : e.part = false) (hbusy : s.anchorBusy id (epTable e.packet) e = false) : exec (.embDefine id) s = .next
      (if (s.embTable (epTable e.packet)).isSome then s.failWith id St.badParam 0x4A
       else (s.defineTable e.packet e.block).dispatch id s.members 16 fun o =>
        { o with result0 := e.share 1, countDone := e.share s.members.length }) := by
  show execEmbDefine id s = _
  simp only [execEmbDefine, h, hpart, hanchor, hbusy, bne_self_eq_false, Bool.false_eq_true, if_false]
  split <;> rfl

theorem exec_embDefine_away (h : s.runnable id 0x40 = some e) (hanchor : s.embAnchor (epTable e.packet) ≠ s.sys.member)
    (hpart : e.part = false) : exec (.embDefine id) s = .next (s.forward id (s.embAnchor (epTable e.packet)) 16) := by
  show execEmbDefine id s = _
  simp only [execEmbDefine, h, hpart, bne_iff_ne.mpr hanchor, Bool.false_eq_true, if_false, if_true]

theorem exec_embDrop {x : EmbTable} (h : s.runnable id 0x41 = some e) (hanchor : s.embAnchor (epTable e.packet) = s.sys.member)
    (hpart : e.part = false) (hbusy : s.anchorBusy id (epTable e.packet) e = false) (hx : s.embTable (epTable e.packet) = some x) :
    exec (.embDrop id) s = .next
      (if s.embInUse id (epTable e.packet) || x.old.isSome then s.failWith id St.badParam 0x4A
       else (s.dropTable (epTable e.packet)).dispatch id s.members 16 fun o =>
        { o with result0 := e.share x.version, countDone := e.share s.members.length }) := by
  show execEmbDrop id s = _
  simp only [execEmbDrop, h, hpart, hanchor, hbusy, hx, bne_self_eq_false, Bool.false_eq_true, if_false]
  split <;> rfl

theorem exec_embQuery {x : EmbTable} (h : s.runnable id 0x42 = some e) (hx : s.embTable (epTable e.packet) = some x) :
    exec (.embQuery id) s = .next (s.finish id fun o => { o with
      result0 := x.version + 2 ^ 32 * (if edDet x.desc then x.step else 0)
      result1 := 1 + 2 * b2n x.old.isSome
      countDone := s.embInFlight (epTable e.packet) x.version
      countAux := if x.old.isSome then s.embInFlight (epTable e.packet) ((x.version + 2 ^ 32 - 1) % 2 ^ 32) else 0 }) := by
  show execEmbQuery id s = _
  simp only [execEmbQuery, h, hx]

theorem exec_embQuery_undefined (h : s.runnable id 0x42 = some e) (hx : s.embTable (epTable e.packet) = none) :
    exec (.embQuery id) s = .next (s.finish id fun o => o) := by
  show execEmbQuery id s = _
  simp only [execEmbQuery, h, hx]
  rfl

/-- The fields of a descriptor that a publication may not change (R288) are the same in two. -/
structure SameShape (c d : List Byte) : Prop where
  head : (c.drop 2).take 30 = (d.drop 2).take 30
  stride : sub c 40 8 = sub d 40 8
  tail : sub c 68 60 = sub d 68 60

theorem exec_embPublish {x y : EmbTable} (h : s.runnable id 0x4C = some e) (hanchor : s.embAnchor (epTable e.packet) = s.sys.member)
    (hpart : e.part = false) (hbusy : s.anchorBusy id (epTable e.packet) e = false) (hx : s.embTable (epTable e.packet) = some x)
    (hy : s.embTable (epSource e.packet) = some y) (hsource : epSource e.packet ≠ epTable e.packet) (hshape : SameShape x.desc y.desc) :
    exec (.embPublish id) s = .next
      (if x.version ≠ epExpect e.packet then s.failWith id St.staleVersion 0x40 x.version
       else if x.old.isSome then s.failWith id St.noSpace 0x41
       else (s.switchTable (epTable e.packet) (epSource e.packet)).dispatch id s.members 16 fun o =>
        { o with result0 := e.share ((x.version + 1) % 2 ^ 32), countDone := e.share s.members.length }) := by
  have hfixed : (decide (epSource e.packet = epTable e.packet) || (x.desc.drop 2).take 30 ++ sub x.desc 40 8 ++ sub x.desc 68 60 !=
      (y.desc.drop 2).take 30 ++ sub y.desc 40 8 ++ sub y.desc 68 60) = false := by
    rw [hshape.head, hshape.stride, hshape.tail]
    simp [hsource]
  show execEmbPublish id s = _
  simp only [execEmbPublish, h, hpart, hanchor, hbusy, hx, hy, hfixed, bne_self_eq_false, bne_iff_ne, Bool.false_eq_true, if_false]
  split
  · rfl
  · split <;> rfl

end

theorem exec_embRetire {s : State} {k : Nat} {x : EmbTable} (hx : s.embTable k = some x) : exec (.embRetire k) s = .next
    (if x.old.isNone || s.embInFlight k ((x.version + 2 ^ 32 - 1) % 2 ^ 32) != 0 then s
     else (s.setEmbTable k { x with old := none }).raise F.EMB_EVENT_RETIRED) := by
  show execEmbRetire k s = _
  simp only [execEmbRetire, hx]
  split <;> rfl

/-! ### The statement -/

/-- Settles O32: each command at the anchor by its equation, whose branches are the refusals and the one change of a table. -/
theorem embeddingTables : Obligations.EmbeddingTables := by
  unfold Obligations.EmbeddingTables
  refine ⟨?define, ?redefine, ?away, ?drop, ?inUse, ?query, ?undefined, ?publish, ?stale, ?retire, ?waits⟩
  case define =>
    rintro s id k e h rfl hanchor hpart hbusy hnone
    have he := (State.runnable_spec h).1
    have hexec := exec_embDefine h hanchor hpart hbusy
    rw [hnone, Option.isSome_none, if_neg Bool.false_ne_true] at hexec
    refine ⟨_, hexec, ?_, fun j hj => ?_, by rw [State.dispatch_emb]; rfl, State.dispatch_store _ _ _ _ _, ?_⟩
    · rw [State.embTable_dispatch, State.defineTable, State.embTable_setEmbTable, if_pos rfl]
    · rw [State.embTable_dispatch, State.defineTable, State.embTable_setEmbTable, if_neg hj]
    · exact State.dispatch_served (s := s.defineTable e.packet e.block) he hpart _ _ _ _
  case redefine =>
    intro s id e x h hanchor hpart hbusy hx
    have hexec := exec_embDefine h hanchor hpart hbusy
    rw [hx, Option.isSome_some, if_pos rfl] at hexec
    exact ⟨_, hexec, s.failWith_only _ _ _,
      (State.failWith_ended (State.runnable_spec h).1 _ _ _).report fun o => (o.status, o.subcode)⟩
  case away =>
    intro s id e h hanchor hpart
    refine ⟨_, exec_embDefine_away h hanchor hpart, ?_, State.forward_homes (State.runnable_spec h).1 _ _⟩
    exact (State.forward_keeps (m := partsMask [.out, .rack, .entries]) _ _ _ _ (by decide) (Kept.refl _ _)).only .emb (by simp)
  case drop =>
    rintro s id k e x h rfl hanchor hpart hbusy hx huse hold
    have he := (State.runnable_spec h).1
    have hexec := exec_embDrop h hanchor hpart hbusy hx
    rw [huse, hold, Option.isSome_none, Bool.or_self, if_neg Bool.false_ne_true] at hexec
    refine ⟨_, hexec, ?_, fun j hj => ?_, by rw [State.dispatch_emb]; rfl, State.dispatch_store _ _ _ _ _, ?_⟩
    · rw [State.embTable_dispatch, State.embTable_dropTable, if_pos rfl]
    · rw [State.embTable_dispatch, State.embTable_dropTable, if_neg hj]
    · exact State.dispatch_served (s := s.dropTable (epTable e.packet)) he hpart _ _ _ _
  case inUse =>
    rintro s id k e x h rfl hanchor hpart hbusy hx huse
    have hexec := exec_embDrop h hanchor hpart hbusy hx
    rw [if_pos (by simpa [Option.isSome_iff_ne_none] using huse)] at hexec
    exact ⟨_, hexec, s.failWith_only _ _ _,
      (State.failWith_ended (State.runnable_spec h).1 _ _ _).report fun o => (o.status, o.subcode)⟩
  case query =>
    intro s id e x h hx
    have hstate : 1 + 2 * b2n x.old.isSome = if x.old = none then 1 else 3 := by cases x.old <;> rfl
    rw [← hstate]
    exact ⟨_, exec_embQuery h hx, s.modEntry_only _ _,
      (State.finish_ended (State.runnable_spec h).1 _).report fun o => (o.result0, o.result1, o.countDone)⟩
  case undefined =>
    intro s id e h hx
    exact ⟨_, exec_embQuery_undefined h hx, State.finish_ended (State.runnable_spec h).1 _, s.modEntry_only _ _⟩
  case publish =>
    rintro s id k e x y h rfl hanchor hpart hbusy hx hy hsource hhead hstride htail hversion hold
    have hexec := exec_embPublish h hanchor hpart hbusy hx hy hsource ⟨hhead, hstride, htail⟩
    rw [if_neg (not_not.mpr hversion), hold, Option.isSome_none, if_neg Bool.false_ne_true, State.switchTable_eq hx hy] at hexec
    generalize hu : (s.setEmbTable (epTable e.packet) _).raise F.EMB_EVENT_PUBLISHED = u at hexec
    have he : u.entry? id = some e := hu ▸ (State.entry?_raise _ _ _).trans (State.runnable_spec h).1
    refine ⟨_, hexec, ?_, fun j hj => ?_, ?_, ?_, ?_⟩
    · rw [State.embTable_dispatch, ← hu, State.embTable_raise, State.embTable_setEmbTable, if_pos rfl]
    · rw [State.embTable_dispatch, ← hu, State.embTable_raise, State.embTable_setEmbTable, if_neg hj]
    · rw [State.fld_congr (State.dispatch_regs _ _ _ _ _), ← hu, State.fld_raise_same _ _ (by decide)]
    · rw [State.dispatch_store, ← hu, State.raise_store]
      rfl
    · exact State.dispatch_served he hpart _ _ _ _
  case stale =>
    rintro s id k e x y h rfl hanchor hpart hbusy hx hy hsource hhead hstride htail hversion
    have hexec := exec_embPublish h hanchor hpart hbusy hx hy hsource ⟨hhead, hstride, htail⟩
    rw [if_pos hversion] at hexec
    exact ⟨_, hexec, s.modEntry_only _ _,
      (State.failWith_ended (State.runnable_spec h).1 _ _ _).report fun o => (o.status, o.subcode, o.result0)⟩
  case retire =>
    intro s k x hx hold hnone
    have hexec := exec_embRetire hx
    rw [hnone, bne_self_eq_false, Bool.or_false, if_neg (by simpa using hold)] at hexec
    refine ⟨_, hexec, ?_, fun j hj => ?_, State.fld_raise_same _ _ (by decide), ?_⟩
    · rw [State.embTable_raise, State.embTable_setEmbTable, if_pos rfl]
    · rw [State.embTable_raise, State.embTable_setEmbTable, if_neg hj]
    · exact (State.raise_keeps _ _ (by decide) (State.setEmbTable_keeps _ _ _ (by decide) (Kept.refl _ _))).only
  case waits =>
    intro s k x hx hsome
    rw [exec_embRetire hx, if_pos (Bool.or_eq_true_iff.mpr (.inr (bne_iff_ne.mpr hsome)))]

end Sys2Proof.Machine
end

section
/-!
EMB_STEP_CLOSE at the anchor (R285), and the statement about rows that fails: what a close counts is added to what its outcome already
counts.
-/
namespace Sys2Proof.Machine

open Sys2Proof

/-! ### A command that accesses nothing -/

/-- A command that may access what it names: items are sent for it from here on, and its waits for the journal are over. -/
def State.accessing (s : State) (id : Nat) : State := (s.serving id).endJournalWait (some id) 0

theorem State.accessing_emb (s : State) (id : Nat) : (s.accessing id).emb = s.emb := rfl
theorem State.accessing_embTable (s : State) (id k : Nat) : (s.accessing id).embTable k = s.embTable k := rfl
theorem State.accessing_entry (s : State) (id i : Nat) : (s.accessing id).entry? i = s.entry? i := rfl

/-- What names no range need not wait: nothing is recalled, fetched or journalled (R34, R213, R414). -/
theorem State.prepareRanges_nothing (s : State) (id : Nat) : s.prepareRanges id [] [] = (s.accessing id, false) := by
  simp [State.prepareRanges, State.prepare, rangeGranules, pageRuns, State.heldGranules, State.journalRoom, State.twinHere,
    State.accessing]

/-! ### EMB_STEP_CLOSE (R285) -/

/-- A step without contributions touches no row. -/
theorem State.stepRanges_nothing {s : State} (h : s.emb.steps = []) (k step : Nat) : s.stepRanges k step = [] := by
  unfold State.stepRanges
  rw [h]
  split <;> rfl

/-- A step without contributions is applied: that is told, and nothing is counted. -/
theorem State.applyStep_nothing {s : State} {k : Nat} {x : EmbTable} (hx : s.embTable k = some x) (h : s.emb.steps = []) (step : Nat)
    (lr : Val) (rnd : Nat) (sat : Bool) (seed : Nat) :
    s.applyStep k step lr rnd sat seed = (s.raise F.EMB_EVENT_STEP_APPLIED, 0, 0, 0, none) := by
  have hsteps : ({ s with emb := { s.emb with steps := [] } } : State) = s := by rw [← h]
  simp only [State.applyStep, hx, h, List.filter_nil, List.foldl_nil, List.length_nil, hsteps]

/-- Once every member has stopped taking contributions and no update of the step is open, the close applies them (R285). -/
theorem exec_embStepClose_applies {s : State} {id : Nat} {e : Entry} {x : EmbTable} (h : s.runnableStore id 0x48 = some e)
    (hanchor : s.embAnchor (epTable e.packet) = s.sys.member) (hpart : e.part = false)
    (hbusy : s.anchorBusy id (epTable e.packet) e = false) (hx : s.embTable (epTable e.packet) = some x) (hstage : e.stage ≠ 0)
    (hitems : e.items = []) (hopen : s.updatesOpen (epTable e.packet) (epStepClosed e.packet) = false) :
    exec (.embStepClose id) s = .next (s.closeApply id e) := by
  have hitem : (s.entry? id).any (fun e => !e.items.isEmpty) = false := by
    rw [State.runnableStore_entry h, Option.any_some, hitems]
    rfl
  show execEmbStepClose id s = _
  simp only [execEmbStepClose, h, hpart, hanchor, hbusy, hx, hstage, hopen, hitem, bne_self_eq_false, bne_iff_ne, decide_false, ne_eq,
    not_false_eq_true, Bool.false_and, Bool.or_self, Bool.false_eq_true, if_false, if_true]

/-- EMB_STEP_CLOSE of step 0 of table 0 in its second stage, whose outcome counts one contribution already. -/
def countedClose : Entry :=
  { src := 0, packet := 0x48#512, accepted := true, phase := .accepted, stage := 1, out := { countAux := 1 } }

/-- A table that has no contributions. -/
def idleTable : EmbTable := { desc := [], comp := 0, loc := { band0 := 0, band1 := 0, band1First := 0, default := 0 } }

/-- A member of its own, its store up, that is the anchor of table 0 and closes its step 0. -/
def countedBefore : State :=
  { State.reset.setFld F.TIER_STATUS_STORE_UP 1 with
    cmdq := { entries := { cells := [(7, countedClose)] } }
    emb := { tables := { cells := [(0, idleTable)] } } }

theorem countedBefore_runs : countedBefore.runnableStore 7 0x48 = some countedClose := by decide +kernel

theorem countedBefore_anchor : countedBefore.embAnchor (epTable countedClose.packet) = countedBefore.sys.member := by decide +kernel

theorem countedBefore_first : countedBefore.anchorBusy 7 (epTable countedClose.packet) countedClose = false := by decide +kernel

theorem countedBefore_table : countedBefore.embTable (epTable countedClose.packet) = some idleTable := by decide +kernel

theorem countedBefore_noUpdate :
    countedBefore.updatesOpen (epTable countedClose.packet) (epStepClosed countedClose.packet) = false := by decide +kernel

theorem countedBefore_entry : countedBefore.entry? 7 = some countedClose := rfl

theorem countedBefore_steps : countedBefore.emb.steps = [] := rfl

theorem countedBefore_alone : countedBefore.members.length ≤ 1 := by decide +kernel

/-- What the close reports in COUNT_AUX is the contribution counted before. -/
theorem countedBefore_closeApply :
    ((countedBefore.closeApply 7 countedClose).entry? 7).map (fun z => z.out.countAux) = some 1 := by decide +kernel

/-- Refutes O33: where the outcome of EMB_STEP_CLOSE counts a contribution before the step is applied, the close adds the contributions
of the step to that count, so that it reports one for a step that has none. -/
theorem not_embeddingRows : ¬ Obligations.EmbeddingRows := by
  unfold Obligations.EmbeddingRows
  rintro ⟨-, -, -, -, -, -, -, -, -, -, -, hclose, -⟩
  have hprepare : countedBefore.prepareRanges 7 [] (countedBefore.stepRanges (epTable countedClose.packet)
      (epStepClosed countedClose.packet)) = (countedBefore.accessing 7, false) := by
    rw [State.stepRanges_nothing countedBefore_steps, State.prepareRanges_nothing]
  have happly := State.applyStep_nothing ((countedBefore.accessing_embTable 7 _).trans countedBefore_table)
    ((congrArg EmbState.steps (countedBefore.accessing_emb 7)).trans countedBefore_steps) (epStepClosed countedClose.packet)
    (fp32Of (epLrClose countedClose.packet)) (epRnd countedClose.packet) (epSat countedClose.packet) (epSeed countedClose.packet)
  obtain ⟨t, ht, -, -, -, hreport⟩ := hclose countedBefore _ _ 7 _ _ 0 0 0 countedClose countedClose idleTable countedBefore_runs rfl rfl
    countedBefore_anchor rfl countedBefore_first countedBefore_table rfl rfl countedBefore_noUpdate countedBefore_alone hprepare happly
    ((State.entry?_raise _ _ _).trans ((countedBefore.accessing_entry 7 7).trans countedBefore_entry))
  obtain rfl : countedBefore.closeApply 7 countedClose = t :=
    Host.Outcome.next.inj ((exec_embStepClose_applies countedBefore_runs countedBefore_anchor rfl countedBefore_first
      countedBefore_table (by decide) rfl countedBefore_noUpdate).symm.trans ht)
  have hnone := congrArg (Option.map fun z => z.2.2.2) hreport
  rw [Option.map_map, Option.map_some] at hnone
  exact absurd (countedBefore_closeApply.symm.trans hnone) (by decide)

end Sys2Proof.Machine
end

section
/-!
VEC_DROP at the anchor (R316, R324), and the statement about indexes that fails: a command of the index that the lift line lists behind
another under the same key.
-/
namespace Sys2Proof.Machine

open Sys2Proof

/-! ### VEC_DROP (R316, R324) -/

/-- The accepted commands, but for one, that name an index: while there are any it is not dropped (R316). -/
def State.vecUsers (s : State) (id i : Nat) : List (Nat × Entry) :=
  s.entriesWhere fun k f => k != id && f.accepted && decide (0x60 ≤ pkOpcode f.packet) && decide (pkOpcode f.packet ≤ 0x6C) &&
    vpIndex f.packet = i

theorem exec_vecDrop {s : State} {id : Nat} {e : Entry} {x : VecIndex} (h : s.runnable id 0x61 = some e) (hpart : e.part = false)
    (hanchor : s.vecAnchor (vpIndex e.packet) = s.sys.member) (hbusy : s.vecBusy id (vpIndex e.packet) e = false)
    (hx : s.vecIndex (vpIndex e.packet) = some x) :
    exec (.vecDrop id) s = .next (if !(s.vecUsers id (vpIndex e.packet)).isEmpty || x.running then s.failWith id St.badParam 0x4A
      else s.removeIndex id e) := by
  show execVecDrop id s = _
  simp only [execVecDrop, h, hpart, hanchor, hbusy, hx, bne_self_eq_false, Bool.false_eq_true, if_false]
  exact (apply_ite Host.Outcome.next _ _ _).symm

/-! ### A key listed twice in the lift line -/

/-- VEC_DROP of index 0. -/
def dropZero : Entry := { src := 0, packet := BitVec.setWidth 512 0x61#8, accepted := true, phase := .accepted }

/-- VEC_QUERY of index 0. -/
def queryZero : Entry := { src := 0, packet := BitVec.setWidth 512 0x62#8, accepted := true, phase := .accepted }

/-- An index in which no pass runs. -/
def idleIndex : VecIndex := { desc := [], comp := 0 }

/-- The lift line lists key 8 twice: first a packet that is only fetched, which is the entry that is found, then a query of index 0. -/
def hiddenQuery : State :=
  { cmdq := { entries := { cells := [(7, dropZero), (8, { src := 0 }), (8, queryZero)] } }
    vec := { indexes := { cells := [(0, idleIndex)] } } }

theorem hiddenQuery_runs : hiddenQuery.runnable 7 0x61 = some dropZero := by decide

theorem hiddenQuery_anchor : hiddenQuery.vecAnchor (vpIndex dropZero.packet) = hiddenQuery.sys.member := by decide

theorem hiddenQuery_first : hiddenQuery.vecBusy 7 (vpIndex dropZero.packet) dropZero = false := by decide

theorem hiddenQuery_index : hiddenQuery.vecIndex (vpIndex dropZero.packet) = some idleIndex := by decide

/-- The query counts as a command in flight. -/
theorem hiddenQuery_users : (hiddenQuery.vecUsers 7 (vpIndex dropZero.packet)).isEmpty = false := by decide

/-- No entry that is found but the drop is accepted. -/
theorem hiddenQuery_found {k : Nat} {f : Entry} (h : hiddenQuery.entry? k = some f) (hk : k ≠ 7) : f.accepted = false := by
  simp only [hiddenQuery, State.entry?, Tab.find?, cellsFind, if_neg (Ne.symm hk)] at h
  split at h
  · exact Option.some.inj h ▸ rfl
  · cases h

/-- Refutes O34: in a lift line that lists a key twice, a query of the index behind a packet that is not accepted, the drop is refused
for the query, though no entry that is found names the index, and the index stays. -/
theorem not_vectorIndexes : ¬ Obligations.VectorIndexes := by
  unfold Obligations.VectorIndexes
  rintro ⟨-, -, hdrop, -⟩
  obtain ⟨t, ht, hgone, -⟩ := hdrop hiddenQuery 7 _ dropZero idleIndex hiddenQuery_runs rfl rfl hiddenQuery_anchor hiddenQuery_first
    hiddenQuery_index rfl fun k f hf hk haccepted => absurd haccepted (by simp [hiddenQuery_found hf hk])
  have hexec := exec_vecDrop hiddenQuery_runs rfl hiddenQuery_anchor hiddenQuery_first hiddenQuery_index
  rw [hiddenQuery_users, Bool.not_false, Bool.true_or, if_pos rfl] at hexec
  obtain rfl : hiddenQuery.failWith 7 St.badParam 0x4A = t := Host.Outcome.next.inj (hexec.symm.trans ht)
  have hstays : (hiddenQuery.failWith 7 St.badParam 0x4A).vecIndex (vpIndex dropZero.packet) = some idleIndex := hiddenQuery_index
  exact absurd (hstays.symm.trans hgone) (by simp)

end Sys2Proof.Machine
end

section
/-!
The commit of an insert (R319 steps 3 to 5), and the statement about walks that fails: an index whose node words stand in the windows of
several homes.
-/
namespace Sys2Proof.Machine

open Sys2Proof

/-! ### A walk that has ended (R304, R319) -/

theorem exec_walkRound_ended {s : State} {n : Nat} {x : Walk} {e : Entry} {ix : VecIndex} (hx : s.vec.walks.find? n = some x)
    (he : s.entry? x.entry = some e) (hix : s.vecIndex x.index = some ix) (hended : x.ended = true) :
    exec (.walkRound n) s = .next (s.walkEnded n e ix.desc x) := by
  show execWalkRound n s = _
  simp only [execWalkRound, hx, he, hix, hended, if_true]

/-! ### A SPREAD index over two homes (R292) -/

/-- A SPREAD index of 8 nodes, FP32 of 8 elements, degree 8, without codes: vectors at RSA 0, edge records at 8192, the node words at
the start of the region, the entry list at 0x100 (R293, R295). -/
def spreadDesc : List Byte :=
  toLe 128 (([(2, 1), (4, 8), (6, 8), (8, 1), (9, 1), (10, 6), (12, 8), (24, 8192), (40, 2 ^ 35), (48, 2 ^ 20), (72, 0x100)] :
    List (Nat × Nat)).map fun f => f.2 * 256 ^ f.1).sum

/-- The index of that descriptor. -/
def spreadIndex : VecIndex := { desc := spreadDesc, comp := 0 }

/-- The local item of the walk of an insert. -/
def walkItemOfInsert : Item := { home := 0, id := 3, classes := 0 }

/-- VEC_INSERT of node 0, whose one item is its walk. -/
def insertZero : Entry :=
  { src := 0, packet := BitVec.setWidth 512 0x68#8, accepted := true, phase := .accepted, started := true, stage := 2
    items := [walkItemOfInsert] }

/-- Its claim of the node. -/
def claimZero : VecClaim := { entry := 7, index := 0, part := 0, node := 0, home := 0, addr := wordAddr spreadDesc 0 0, old := 0 }

/-- Its walk, which has ended and found nothing. -/
def emptyWalk : Walk :=
  { entry := 7, item := 3, index := 0, part := 0, insert := true, unit := none, k := 8, l := 8, w := 1, budget := 1, widen := false
    widenBudget := 0, routeTomb := false, clauses := [], queryPq := [], queryExact := [], qfmt := 0, ended := true }

/-- Member 0 of a rack of two, which homes node 0; the mirrors of the pages of its records are still to be copied (R508). -/
def spreadBefore : State :=
  { State.reset.setFld F.TIER_HASH_WIDTH 2 with
    cmdq := { entries := { cells := [(7, insertZero)] } }
    vec := { indexes := { cells := [(0, spreadIndex)] }, walks := { cells := [(0, emptyWalk)] }
             claims := [claimZero] }
    rack := { map := { server := [0, 1], state := [.active, .active] }
              remirror := [{ slot := 0, page := 0 }, { slot := 0, page := 2 }] } }

/-- The stages of the commit: the records may be written, they have been written, the words are due, the words may be written. -/
def spreadReady : State :=
  (spreadBefore.prepareRanges 7 [] ((spreadBefore.insertWrites spreadDesc insertZero emptyWalk).map fun a => (a.1, a.2.length))).1
def spreadWritten : State := (spreadReady.writeAll (spreadReady.insertWrites spreadDesc insertZero emptyWalk)).1
def spreadDue : State := spreadWritten.modEntry 7 fun e => { e with stage := 3, begun := e.begun ||| 1 }
def spreadCommit : State :=
  (spreadDue.prepareRanges 7 (spreadDue.commitRanges spreadDesc insertZero emptyWalk).1
    (spreadDue.commitRanges spreadDesc insertZero emptyWalk).2).1

theorem spreadReady_prepare :
    spreadBefore.prepareRanges 7 [] ((spreadBefore.insertWrites spreadDesc insertZero emptyWalk).map fun a => (a.1, a.2.length)) =
      (spreadReady, false) := by
  rw [spreadReady]
  exact Prod.snd_eq_iff.mp (by decide)

theorem spreadWritten_writeAll :
    spreadReady.writeAll (spreadReady.insertWrites spreadDesc insertZero emptyWalk) = (spreadWritten, none) := by
  rw [spreadWritten]
  exact Prod.snd_eq_iff.mp (by decide)

theorem spreadCommit_prepare : spreadDue.prepareRanges 7 (spreadDue.commitRanges spreadDesc insertZero emptyWalk).1
    (spreadDue.commitRanges spreadDesc insertZero emptyWalk).2 = (spreadCommit, false) := by
  rw [spreadCommit]
  exact Prod.snd_eq_iff.mp (by decide)

/-- The insert once its records are written, and when its commit is due. -/
theorem spreadWritten_entry : spreadWritten.entry? 7 = some insertZero := by decide
theorem spreadCommit_entry : spreadCommit.entry? 7 = some { insertZero with stage := 3, begun := 1 } := by decide

theorem spreadCommit_vec : spreadCommit.vec = spreadBefore.vec := by decide

theorem spreadCommit_here : spreadCommit.nodeHere spreadDesc (vpPart insertZero.packet) (vpNode insertZero.packet) = true := by
  decide

/-- The first granule of the vector and that of the edge record have been written once, no other. -/
theorem spreadCommit_grans : spreadCommit.store.grans.cells = [(0, { wgen := 1 }), (64, { wgen := 1 })] := by decide

theorem spreadCommit_gran (g : Nat) : spreadCommit.gran g = { wgen := if g = 0 ∨ g = 64 then 1 else 0 } := by
  simp only [State.gran, Tab.getD, Tab.find?, spreadCommit_grans, cellsFind]
  grind

theorem spreadCommit_sound : spreadCommit.Sound := fun g => by rw [spreadCommit_gran]; exact ⟨rfl, rfl, rfl⟩

theorem spreadCommit_keysStand : spreadCommit.KeysStand := fun g => by
  rw [State.decrypt, spreadCommit_gran]
  rfl

/-- The word's mirror update and the word of window 1 are on their way to member 1, and the insert waits for the answers. -/
theorem spreadBefore_walkEnded : ((spreadBefore.walkEnded 0 insertZero spreadDesc emptyWalk).entry? 7).map
    (fun e => (e.phase, e.items.map (·.home))) = some (.accepted, [1, 1]) := by decide

/-- Refutes O35: where an index is SPREAD over the windows of several members, the commit sends the node's word to the homes of the other
windows, and the insert does not end before they have answered. -/
theorem not_vectorWalks : ¬ Obligations.VectorWalks := by
  unfold Obligations.VectorWalks
  rintro ⟨-, -, -, -, -, hcommit, -⟩
  obtain ⟨t, ht, -, -, -, hended⟩ := hcommit spreadBefore spreadReady spreadWritten spreadDue spreadCommit 0 emptyWalk insertZero
    insertZero { insertZero with stage := 3, begun := 1 } spreadIndex walkItemOfInsert claimZero
    rfl rfl rfl rfl rfl rfl rfl rfl (by decide) spreadReady_prepare spreadWritten_writeAll spreadWritten_entry rfl
    (by decide) rfl rfl rfl spreadCommit_prepare spreadCommit_sound spreadCommit_keysStand spreadCommit_here
    (by rw [spreadCommit_vec]; rfl) (by rw [spreadCommit_vec]; rfl) (by rw [spreadCommit_vec]; rfl) rfl (by decide)
    spreadCommit_entry rfl rfl rfl rfl rfl rfl rfl rfl rfl
  have hexec : exec (.walkRound 0) spreadBefore = .next (spreadBefore.walkEnded 0 insertZero spreadDesc emptyWalk) :=
    exec_walkRound_ended (ix := spreadIndex) rfl rfl rfl rfl
  obtain rfl : spreadBefore.walkEnded 0 insertZero spreadDesc emptyWalk = t := Host.Outcome.next.inj (hexec.symm.trans ht)
  have hphase := congrArg (Option.map Prod.fst) hended
  have hwaits := congrArg (Option.map Prod.fst) spreadBefore_walkEnded
  rw [Option.map_map, Option.map_some] at hphase hwaits
  exact absurd (hwaits.symm.trans hphase) (by decide)

end Sys2Proof.Machine
end
